-- ==== Sys2Proof/Word.lean ====
section
/-! DEFINITION. The plain words of the device: the 64-bit register word of the context sequencer, a memory byte, and
the two sparse containers that hold what the device stores. -/

namespace Sys2Proof

/-- A 64-bit word (a Paeri scalar register, R137; an instruction word, R158; an 8-byte memory word, R289). -/
abbrev Word := BitVec 64

/-- A byte of stored data. -/
abbrev Byte := BitVec 8

/-- Sparse data: pairs of a key and a value, keys strictly rising, no entry equal to what an unlisted key reads as. -/
abbrev Store (α : Type) := List (Nat × α)

/-- The initiator of a request or of a register access: its device number and its node ID (R230). -/
structure Ini where
  dev  : Nat
  node : Nat
  deriving DecidableEq, Repr

/-- The response codes of R237. -/
inductive Resp where
  | ok | decode | denied | timeout | isolated | keytag | testbusy | aborted
  deriving DecidableEq, Repr

/-- The number of a response code (R237). -/
def Resp.code : Resp → Nat
  | .ok => 0 | .decode => 1 | .denied => 2 | .timeout => 3
  | .isolated => 4 | .keytag => 5 | .testbusy => 6 | .aborted => 7

/-- The response code that a number on the wire stands for: 0x8 to 0xF are handled as DECODE (R237). -/
def Resp.ofCode : Nat → Resp
  | 0 => .ok | 1 => .decode | 2 => .denied | 3 => .timeout
  | 4 => .isolated | 5 => .keytag | 6 => .testbusy | 7 => .aborted
  | _ => .decode

end Sys2Proof
end

