-- ==== Sys2Proof/Syntax.lean ====
section
/-! DEFINITION. The commands of the block: what reaches the device from outside or happens in it at an instant, one
constructor per row of the spec's opcode table, with the operands that the row's rule names. A command says WHEN
something happens; what then happens is the meaning of the command (Machine/Dispatch.lean). -/

namespace Sys2Proof

/-- Who gave a region command (R96): the host through REGION_CTL_n, or a sequencer thread. -/
inductive CmdSrc where
  | host
  | thread (t : Fin 4)
  deriving DecidableEq, Repr

/-- The request operations of R235: RD and WR are routed by address, NRD and NWR by node. -/
inductive ReqOp where
  | rd | wr | nrd | nwr
  deriving DecidableEq, Repr

/-- One access as a request carries it (R234 to R236): operation, destination of an NRD or NWR, address or offset, size in
bytes, the written bytes and the poison bit of each 8-byte payload word. -/
structure Access where
  op      : ReqOp
  dstDev  : Nat
  dstNode : Nat
  addr    : Nat
  size    : Nat
  data    : List Byte
  poison  : Nat
  deriving DecidableEq, Repr

/-- A request with its initiator and transaction tag (R234). -/
structure Request where
  ini : Ini
  tag : Nat
  acc : Access
  deriving DecidableEq, Repr

/-- An answer (R236, R237): the response code, the bytes read and their poison bits. -/
structure Answer where
  code   : Resp
  data   : List Byte
  poison : Nat
  deriving DecidableEq, Repr

/-- The virtual networks of R234. -/
inductive VNet where
  | req | rsp | sys
  deriving DecidableEq, Repr

/-- A packet on the network: the header fields of R234 and the payload bytes. `op` is the OPCODE byte (R235). -/
structure Packet where
  op      : Nat
  vn      : VNet
  epoch   : Bool
  tag     : Nat
  resp    : Nat
  dstDev  : Nat
  dstNode : Nat
  hops    : Nat
  srcDev  : Nat
  srcNode : Nat
  addr    : Nat
  size    : Nat
  byteEn  : Nat
  len     : Nat
  poison  : Nat
  operand : Nat
  data    : List Byte
  deriving DecidableEq, Repr

/-- What happens at a waystation input on one virtual network (R238, R239, R246): a packet other than a request arrives from an
endpoint or a link; the oldest buffered packet moves on; a data word of it fails parity; its header has a double-bit error. -/
inductive HopAct where
  | enter (p : Packet)
  | route
  | parity (word : Fin 16)
  | header
  deriving DecidableEq, Repr

/-- A training set as a receive lane takes it (R332, R336): its 16 codes, first bit on the line in bit 0, and the running disparity of the lane before
them; ECHO and TURN come as the pings that TS2 measures. -/
structure RxSet where
  rd    : Bool
  codes : List (BitVec 10)
  deriving DecidableEq, Repr

/-- What a training set says (R336): its symbols 2 to 8. -/
structure TSet where
  lane  : BitVec 8
  width : BitVec 8
  rate  : BitVec 2
  ssc   : Bool
  dev   : BitVec 8
  req   : BitVec 8
  rsp   : BitVec 8
  ping  : BitVec 8
  deriving DecidableEq, Repr

/-- A frame as the lanes of a link receive it (R332, R337, R338): columns of codes, first bit on the line in bit 0, from the column that holds its first
symbol to the one that holds its last, with any tick markers between them; the running disparity of each lane before them; the lanes of the
first and of the last symbol. -/
structure RxFrame where
  rd    : BitVec 16
  cols  : List (List (BitVec 10))
  first : Fin 16
  last  : Fin 16
  deriving DecidableEq, Repr

/-- What a received frame holds (R338, R342): its content bytes (header and records), the CRC it carries, the symbol errors
in it, and whether K30.7 aborts it or no K27.7 begins it. -/
structure LinkFrame where
  content : List Byte
  crc     : BitVec 32
  errors  : Nat
  aborted : Bool
  deriving DecidableEq, Repr

/-- A symbol of the line (R332): a data or a K symbol, and its octet. -/
structure Sym where
  k     : Bool
  octet : BitVec 8
  deriving DecidableEq, Repr

/-- What passes a snoop point (R377 to R379): a packet at a port or on a link, or symbols of a raw group (none: a symbol error). `dir` is DIR. -/
inductive SnoopSight where
  | port (node : BitVec 12) (dir : Bool) (p : Packet)
  | link (g : Fin 24) (dir : Bool) (p : Packet)
  | raw (g : Fin 24) (dir : Bool) (symbols : List (Option Sym))
  deriving DecidableEq, Repr

/-- A failing location of a test (R458): row, column, march element, expected value. -/
structure FailLoc where
  row     : Nat
  col     : Nat
  element : Nat
  expect  : Bool
  deriving DecidableEq, Repr

/-- A transaction that brings bytes to the front desk (R432): at its pins with an offset, or at its mirror, node 0x006. -/
inductive DeskIn where
  | pins (comp : BitVec 8) (offset : Nat) (bytes : List Byte)
  | mirror (rq : Request)
  deriving DecidableEq, Repr

/-- A READ_STATUS of the front desk (R432): at the pins with the complement byte, or a read request at the mirror. -/
inductive DeskRead where
  | pins (comp : BitVec 8)
  | mirror (rq : Request)
  deriving DecidableEq, Repr

/-- A DATA_OUT at the pins (R432): the complement byte and the offset. -/
structure DeskOut where
  comp   : BitVec 8
  offset : Nat
  deriving DecidableEq, Repr

/-- How far a front desk command's journal write is when an ABORT arrives (R419, R435). -/
inductive DeskPoint where
  | before | phase1 | after
  deriving DecidableEq, Repr

/-- An ABORT at the pins (R432): the complement byte, and how far the command's journal write is. -/
structure DeskAbort where
  comp  : BitVec 8
  point : DeskPoint
  deriving DecidableEq, Repr

/-- A scan of the boundary register (R471): the levels at the pads of the 32 GPIO banks, the cells of the dedicated pins, the value shifted in. -/
structure BoundaryScan where
  levels    : List (BitVec 32)
  dedicated : BitVec 64
  value     : BitVec 3136
  deriving DecidableEq, Repr

/-- The path of an access to the debug block (R470): the DBG instruction of the JTAG port, or a request to node 0x007. -/
inductive DbgPath where
  | jtag
  | olicor (ini : Ini)
  deriving DecidableEq, Repr

/-- Image bytes as a source delivers them (R208, R211): the boot port's, with the image's flash address; a request to the management
endpoint, node 0x005; bytes that the front desk has taken by DATA_IN. -/
inductive ImgIn where
  | flash (base offset : Nat) (bytes : List Byte)
  | mgmt (rq : Request)
  | desk (offset count : Nat)
  deriving DecidableEq, Repr

/-- The word that a register write carries, and whether a POISON bit of the write packet is set (R300). -/
structure WriteData where
  word : BitVec 32
  poison : Bool
  deriving DecidableEq, Repr

/-- One read of the SDRAM scrub (R327): its channel, and the symbols of the stored line that have gone wrong by then. -/
structure ScrubRead where
  channel : Fin 12
  wrong : List (Fin 8 × Fin 20 × BitVec 8)
  deriving DecidableEq, Repr

/-- The commands and events of the device (spec/opcode_table.json). -/
inductive Instr where
  /-- REGISTER_WRITE (R11, R300). -/
  | registerWrite (ini : Ini) (off : BitVec 28) (size : Nat) (value : WriteData)
  /-- RS_FIELD_READ (R11). -/
  | rsFieldRead (ini : Ini) (off : BitVec 28)
  /-- PAIR_LO_READ (R16). -/
  | pairLoRead (ini : Ini) (off : BitVec 28)
  /-- PAIR_HI_READ (R16). -/
  | pairHiRead (ini : Ini) (off : BitVec 28)
  /-- PAIR_LO_WRITE (R16, R300). -/
  | pairLoWrite (ini : Ini) (off : BitVec 28) (value : WriteData)
  /-- PAIR_HI_WRITE (R16, R300). -/
  | pairHiWrite (ini : Ini) (off : BitVec 28) (value : WriteData)
  /-- FACE_REFRESH (R22). -/
  | faceRefresh (x : Fin 256) (y : Fin 192) (c : Fin 256) (change : Bool)
  /-- BRAM_WINDOW_ACCESS (R61). -/
  | bramWindowAccess (rq : Request)
  /-- BRAM_WINDOW_ROW (R62). -/
  | bramWindowRow (n : Fin 64) (edge : Fin 8)
  /-- CLK_NET_CFG_WRITE (R71). -/
  | clkNetCfgWrite (ini : Ini) (g : Fin 32) (value : BitVec 32)
  /-- PLL_LOCKED (R70). -/
  | pllLocked (g : Fin 32)
  /-- PLL_LOCK_LOST (R72). -/
  | pllLockLost (g : Fin 32)
  /-- REGION_CLK_WRITE (R73). -/
  | regionClkWrite (ini : Ini) (n : Fin 64) (value : BitVec 32)
  /-- PORT_PACKET_SEND (R76). -/
  | portPacketSend (n : Fin 64) (p : Fin 4) (acc : Access) (last : Bool)
  /-- PORT_RESPONSE_ARRIVAL (R77). -/
  | portResponseArrival (n : Fin 64) (p : Fin 4) (tag : BitVec 8) (a : Answer)
  /-- PORT_INBOUND_REQUEST (R78). -/
  | portInboundRequest (n : Fin 64) (p : Fin 4) (rq : Request)
  /-- REGION_PORT_CFG_WRITE (R79). -/
  | regionPortCfgWrite (ini : Ini) (n : Fin 64) (p : Fin 4) (value : BitVec 32)
  /-- REGION_PORT_SLOTS_WRITE (R77). -/
  | regionPortSlotsWrite (ini : Ini) (n : Fin 64) (p : Fin 4) (value : BitVec 32)
  /-- PIN_INPUT_FLIT (R80). -/
  | pinInputFlit (n : Fin 64) (p : Fin 4) (samples : List (BitVec 32)) (first : Bool) (taken : Bool)
  /-- PIN_OUTPUT_FLIT (R81). -/
  | pinOutputFlit (n : Fin 64) (p : Fin 4) (samples : List (BitVec 32 × BitVec 32))
  /-- PIN_UNDERRUN (R81). -/
  | pinUnderrun (n : Fin 64) (p : Fin 4)
  /-- FLAG_CHANGE (R82). -/
  | flagChange (n : Fin 64) (k : Fin 4) (level : Bool)
  /-- EVENT_DELIVERY (R84). -/
  | eventDelivery (n : Fin 64) (k : Fin 4)
  /-- ERASE (R93). -/
  | erase (ini : Ini) (n : Fin 64) (p : Fin 8)
  /-- ERASE_COMPLETE (R93). -/
  | eraseComplete
  /-- POWER_UP (R96). -/
  | powerUp (n : Fin 64) (src : CmdSrc)
  /-- POWER_OFF (R96). -/
  | powerOff (n : Fin 64) (src : CmdSrc)
  /-- FILL (R99). -/
  | fill (n : Fin 64) (src : CmdSrc) (p : Fin 8)
  /-- SWAP (R128). -/
  | swap (n : Fin 64) (src : CmdSrc) (p : Fin 8)
  /-- HOLD (R95). -/
  | hold (n : Fin 64) (src : CmdSrc)
  /-- RELEASE (R95). -/
  | release (n : Fin 64) (src : CmdSrc)
  /-- STOP (R109). -/
  | stop (n : Fin 64) (src : CmdSrc)
  /-- ISOLATE (R96). -/
  | isolate (n : Fin 64)
  /-- UNISOLATE (R96). -/
  | unisolate (n : Fin 64)
  /-- CLEAR (R96). -/
  | clear (n : Fin 64)
  /-- CANCEL_FILL (R102). -/
  | cancelFill (n : Fin 64) (src : CmdSrc)
  /-- OWNER_WRITE (R96). -/
  | ownerWrite (ini : Ini) (n : Fin 64) (owner : Bool)
  /-- REGION_CMD_EFFECT (R96). -/
  | regionCmdEffect (n : Fin 64)
  /-- SEQ_COMMAND_ARRIVAL (R141). -/
  | seqCommandArrival
  /-- SQUASH (R102). -/
  | squash (n : Fin 64) (p : Fin 8) (t : Fin 4)
  /-- FILL_GRANT (R100). -/
  | fillGrant
  /-- FILL_COMPLETE (R100). -/
  | fillComplete (n : Fin 64)
  /-- DECISION_POINT (R131). -/
  | decisionPoint (n : Fin 64)
  /-- CLAMP_CYCLE (R103). -/
  | clampCycle (n : Fin 64)
  /-- SWAP_EDGE (R104). -/
  | swapEdge (n : Fin 64)
  /-- SPILL_COMPLETE (R106). -/
  | spillComplete (n : Fin 64)
  /-- ARMED_SWAP_NO_BOUNDARY (R130). -/
  | armedSwapNoBoundary (n : Fin 64)
  /-- REFETCH (R115). -/
  | refetch (n : Fin 64)
  /-- FALLBACK_SWAP (R119). -/
  | fallbackSwap (n : Fin 64)
  /-- PLANE_LOAD_FRAME (R199). -/
  | planeLoadFrame (n : Fin 64) (p : Fin 8) (f : Fin 3900) (data : BitVec 4096)
  /-- TICK_APPLY (R123). -/
  | tickApply (ini : Ini)
  /-- TICK_EN_WRITE (R124). -/
  | tickEnWrite (ini : Ini) (en : Bool)
  /-- TICK_SRC_WRITE (R124). -/
  | tickSrcWrite (ini : Ini) (src : BitVec 2)
  /-- TICK_BOUNDARY (R131). -/
  | tickBoundary
  /-- SLOT_BOUNDARY (R131). -/
  | slotBoundary
  /-- TICK_IN_EDGE (R125). -/
  | tickInEdge
  /-- TICK_IN_LOST (R125). -/
  | tickInLost
  /-- OVR_CLR (R133). -/
  | ovrClr (ini : Ini) (n : Fin 64)
  /-- START (R139). -/
  | start (ini : Ini) (t : Fin 4)
  /-- THREAD_STOP (R136). -/
  | threadStop (ini : Ini) (t : Fin 4)
  /-- RESTART (R136). -/
  | restart (ini : Ini) (t : Fin 4)
  /-- CLR_FAULT (R139). -/
  | clrFault (ini : Ini) (t : Fin 4)
  /-- IMEM_WRITE (R142). -/
  | imemWrite (ini : Ini) (w : Fin 32768) (hi : BitVec 32)
  /-- BRANCH_RESOLVE (R144). -/
  | branchResolve (t : Fin 4) (k : Fin 24)
  /-- LOCK_ABORT_TIMEOUT (R136). -/
  | lockAbortTimeout (t : Fin 4)
  /-- WATCHDOG_EXPIRY (R154). -/
  | watchdogExpiry (t : Fin 4)
  /-- WDT_EN_WRITE (R153). -/
  | wdtEnWrite (ini : Ini) (t : Fin 4) (value : BitVec 32)
  /-- NOP (R167). -/
  | nop (t : Fin 4)
  /-- ADD (R166). -/
  | add (t : Fin 4)
  /-- SUB (R166). -/
  | sub (t : Fin 4)
  /-- AND (R166). -/
  | and (t : Fin 4)
  /-- OR (R166). -/
  | or (t : Fin 4)
  /-- XOR (R166). -/
  | xor (t : Fin 4)
  /-- SLL (R166). -/
  | sll (t : Fin 4)
  /-- SRL (R166). -/
  | srl (t : Fin 4)
  /-- SRA (R166). -/
  | sra (t : Fin 4)
  /-- MUL (R166). -/
  | mul (t : Fin 4)
  /-- SLT (R166). -/
  | slt (t : Fin 4)
  /-- SLTU (R166). -/
  | sltu (t : Fin 4)
  /-- SEQ (R166). -/
  | seq (t : Fin 4)
  /-- MIN (R166). -/
  | min (t : Fin 4)
  /-- MAX (R166). -/
  | max (t : Fin 4)
  /-- MINU (R166). -/
  | minu (t : Fin 4)
  /-- MAXU (R166). -/
  | maxu (t : Fin 4)
  /-- ADDI (R166). -/
  | addi (t : Fin 4)
  /-- SUBI (R166). -/
  | subi (t : Fin 4)
  /-- ANDI (R166). -/
  | andi (t : Fin 4)
  /-- ORI (R166). -/
  | ori (t : Fin 4)
  /-- XORI (R166). -/
  | xori (t : Fin 4)
  /-- SLLI (R166). -/
  | slli (t : Fin 4)
  /-- SRLI (R166). -/
  | srli (t : Fin 4)
  /-- SRAI (R166). -/
  | srai (t : Fin 4)
  /-- MULI (R166). -/
  | muli (t : Fin 4)
  /-- SLTI (R166). -/
  | slti (t : Fin 4)
  /-- SLTUI (R166). -/
  | sltui (t : Fin 4)
  /-- SEQI (R166). -/
  | seqi (t : Fin 4)
  /-- MINI (R166). -/
  | mini (t : Fin 4)
  /-- MAXI (R166). -/
  | maxi (t : Fin 4)
  /-- MINUI (R166). -/
  | minui (t : Fin 4)
  /-- MAXUI (R166). -/
  | maxui (t : Fin 4)
  /-- LI (R167). -/
  | li (t : Fin 4)
  /-- LIH (R167). -/
  | lih (t : Fin 4)
  /-- POPC (R167). -/
  | popc (t : Fin 4)
  /-- CLZ (R167). -/
  | clz (t : Fin 4)
  /-- CTZ (R167). -/
  | ctz (t : Fin 4)
  /-- BEQ (R168). -/
  | beq (t : Fin 4)
  /-- BNE (R168). -/
  | bne (t : Fin 4)
  /-- BLT (R168). -/
  | blt (t : Fin 4)
  /-- BGE (R168). -/
  | bge (t : Fin 4)
  /-- BLTU (R168). -/
  | bltu (t : Fin 4)
  /-- BGEU (R168). -/
  | bgeu (t : Fin 4)
  /-- BFS (R168). -/
  | bfs (t : Fin 4)
  /-- BFC (R168). -/
  | bfc (t : Fin 4)
  /-- JAL (R169). -/
  | jal (t : Fin 4)
  /-- JALR (R169). -/
  | jalr (t : Fin 4)
  /-- WTICK (R170). -/
  | wtick (t : Fin 4)
  /-- WSLOT (R170). -/
  | wslot (t : Fin 4)
  /-- WFLAG (R170). -/
  | wflag (t : Fin 4)
  /-- WSHAD (R171). -/
  | wshad (t : Fin 4)
  /-- DELAY (R170). -/
  | delay (t : Fin 4)
  /-- WAIT_CONDITION_MET (R165). -/
  | waitConditionMet (t : Fin 4)
  /-- WFLAG_TIMEOUT (R170). -/
  | wflagTimeout (t : Fin 4)
  /-- LD (R172). -/
  | ld (t : Fin 4) (k : Fin 24)
  /-- LDT (R175). -/
  | ldt (t : Fin 4) (k : Fin 24)
  /-- ST (R172). -/
  | st (t : Fin 4)
  /-- STP (R175). -/
  | stp (t : Fin 4)
  /-- STT (R175). -/
  | stt (t : Fin 4)
  /-- ANSWER_ARRIVAL (R175). -/
  | answerArrival (t : Fin 4) (tag : BitVec 8) (a : Answer)
  /-- POSTED_ANSWER (R175). -/
  | postedAnswer (t : Fin 4) (tag : BitVec 8) (a : Answer)
  /-- PRE (R146). -/
  | pre (t : Fin 4) (k : Fin 24)
  /-- FILL_INSN (R176). -/
  | fillInsn (t : Fin 4)
  /-- SWAP_INSN (R176). -/
  | swapInsn (t : Fin 4)
  /-- STOP_INSN (R176). -/
  | stopInsn (t : Fin 4)
  /-- RCMD_HOLD (R176). -/
  | rcmdHold (t : Fin 4)
  /-- RCMD_RELEASE (R176). -/
  | rcmdRelease (t : Fin 4)
  /-- RCMD_CANCEL_FILL (R176). -/
  | rcmdCancelFill (t : Fin 4)
  /-- CSTART (R178). -/
  | cstart (t : Fin 4)
  /-- CWAIT (R178). -/
  | cwait (t : Fin 4)
  /-- EVT (R179). -/
  | evt (t : Fin 4)
  /-- EVTM (R179). -/
  | evtm (t : Fin 4)
  /-- BAR (R180). -/
  | bar (t : Fin 4)
  /-- BAR_TIMEOUT (R180). -/
  | barTimeout (t : Fin 4)
  /-- LOCK (R148). -/
  | lock (t : Fin 4)
  /-- UNLOCK (R149). -/
  | unlock (t : Fin 4)
  /-- MIRR_THREAD (R183). -/
  | mirrThread (t : Fin 4)
  /-- MIRR_REGION (R183). -/
  | mirrRegion (t : Fin 4)
  /-- MIRR_BANK (R183). -/
  | mirrBank (t : Fin 4)
  /-- SNAP (R184). -/
  | snap (t : Fin 4)
  /-- EMIT (R185). -/
  | emit (t : Fin 4)
  /-- PWR_ON (R186). -/
  | pwrOn (t : Fin 4)
  /-- PWR_OFF (R186). -/
  | pwrOff (t : Fin 4)
  /-- KICK (R187). -/
  | kick (t : Fin 4)
  /-- EXIT (R187). -/
  | exit (t : Fin 4)
  /-- IMAGE_HEADER (R195). -/
  | imageHeader (x : ImgIn)
  /-- IMAGE_BYTES (R200). -/
  | imageBytes (x : ImgIn)
  /-- IMAGE_TAG_CHECK (R198). -/
  | imageTagCheck
  /-- IMAGE_COMMIT (R204). -/
  | imageCommit
  /-- IMAGE_START (R212). -/
  | imageStart
  /-- IMAGE_IDLE_TIMEOUT (R208). -/
  | imageIdleTimeout
  /-- IMG_ABORT (R209). -/
  | imgAbort (ini : Ini)
  /-- PATROL_STORED_VISIT (R216). -/
  | patrolStoredVisit
  /-- PATROL_ACTIVE_VISIT (R218). -/
  | patrolActiveVisit
  /-- PATROL_CHECK (R220). -/
  | patrolCheck
  /-- PATROL_CORRECTION (R221). -/
  | patrolCorrection
  /-- REFETCH_COPY_READY (R224). -/
  | refetchCopyReady (n : Fin 64)
  /-- PATROL_PASS_END (R217). -/
  | patrolPassEnd
  /-- PATROL_EN_WRITE (R219). -/
  | patrolEnWrite (ini : Ini) (value : BitVec 32)
  /-- REQUEST_INGRESS (R243). -/
  | requestIngress (n : Fin 192) (port : Fin 16) (p : Packet)
  /-- PACKET_HOP (R246). -/
  | packetHop (n : Fin 192) (input : Fin 32) (vn : VNet) (act : HopAct)
  /-- CREDIT_RETURN (R240). -/
  | creditReturn (n : Fin 192) (input : Fin 32) (vn : VNet)
  /-- RESPONSE_ARRIVAL (R241). -/
  | responseArrival (node : BitVec 12) (tag : BitVec 8) (a : Answer)
  /-- INITIATOR_TIMEOUT (R252). -/
  | initiatorTimeout (node : BitVec 12) (tag : BitVec 8)
  /-- TAG_RELEASE (R252). -/
  | tagRelease (node : BitVec 12) (tag : BitVec 8)
  /-- TARGET_TIMEOUT (R253). -/
  | targetTimeout (n : Fin 192) (port : Fin 16) (ini : Ini) (tag : BitVec 8)
  /-- PORT_READMIT (R253). -/
  | portReadmit (ini : Ini) (n : Fin 192) (value : BitVec 32)
  /-- EPOCH_FLIP (R250). -/
  | epochFlip (ini : Ini) (value : BitVec 32)
  /-- EPOCH_SET (R250). -/
  | epochSet (n : Fin 192)
  /-- EPOCH_MARK (R250). -/
  | epochMark (n : Fin 192) (input : Fin 32) (vn : VNet)
  /-- DRAIN_COMPLETE (R250). -/
  | drainComplete
  /-- EPOCH_STUCK (R250). -/
  | epochStuck
  /-- ROUTE_TABLE_WRITE (R250). -/
  | routeTableWrite (ini : Ini) (n : Fin 192) (b : Fin 2) (i : Fin 24) (value : BitVec 32)
  /-- POINT_OF_NO_RETURN (R255). -/
  | pointOfNoReturn (d : Fin 112)
  /-- WAKE (R255). -/
  | wake (d : Fin 112)
  /-- COURIER_GO (R259). -/
  | courierGo (ini : Ini) (c : Fin 32)
  /-- COURIER_START_REQUEST (R259). -/
  | courierStartRequest (c : Fin 32) (rq : Request)
  /-- COURIER_ABORT (R261). -/
  | courierAbort (ini : Ini) (c : Fin 32)
  /-- COURIER_READ_ANSWER (R260). -/
  | courierReadAnswer (c : Fin 32) (tag : BitVec 8) (a : Answer)
  /-- COURIER_WRITE_ANSWER (R260). -/
  | courierWriteAnswer (c : Fin 32) (tag : BitVec 8) (a : Answer)
  /-- LARDER_READ (R269). -/
  | larderRead (rq : Request)
  /-- LARDER_WRITE (R270). -/
  | larderWrite (rq : Request)
  /-- LARDER_FILL (R271). -/
  | larderFill (l : BitVec 35)
  /-- LARDER_WRITEBACK_ANSWER (R273). -/
  | larderWritebackAnswer (l : BitVec 35)
  /-- WRITEBACK_RETRY (R273). -/
  | writebackRetry (l : BitVec 35)
  /-- CLEAN (R274). -/
  | clean (ini : Ini) (scope : BitVec 3) (key : BitVec 6) (slice : BitVec 7)
  /-- FLUSH (R274). -/
  | flush (ini : Ini) (scope : BitVec 3) (key : BitVec 6) (slice : BitVec 7)
  /-- REHASH (R275). -/
  | rehash (ini : Ini) (newSalt : Bool)
  /-- REHASH_HOLD (R275). -/
  | rehashHold
  /-- REHASH_SWITCH (R275). -/
  | rehashSwitch
  /-- LARDER_OP_COMPLETE (R274). -/
  | larderOpComplete
  /-- IMBALANCE_WINDOW (R278). -/
  | imbalanceWindow
  /-- BANK_READ (R285). -/
  | bankRead (rq : Request) (clash : BitVec 17) (later : Bool)
  /-- BANK_WRITE (R285). -/
  | bankWrite (rq : Request) (stalls : BitVec 8)
  /-- BANK_OWNER_WRITE (R284). -/
  | bankOwnerWrite (ini : Ini) (b : Fin 2048) (value : BitVec 32)
  /-- HANDOVER_COMPLETE (R284). -/
  | handoverComplete (b : Fin 2048)
  /-- BANK_CFG_WRITE (R282). -/
  | bankCfgWrite (ini : Ini) (b : Fin 2048) (value : BitVec 32)
  /-- BANK_WIN_WRITE (R282). -/
  | bankWinWrite (ini : Ini) (b : Fin 2048) (portB : Bool) (value : BitVec 32)
  /-- BANK_POWER_REQUEST (R288). -/
  | bankPowerRequest (ini : Ini) (b : Fin 2048) (value : BitVec 32)
  /-- BANK_POWER_CHANGE_DONE (R288). -/
  | bankPowerChangeDone (b : Fin 2048)
  /-- PORTER_VISIT (R303). -/
  | porterVisit (d : Fin 2)
  /-- PORTER_PASS_END (R302). -/
  | porterPassEnd (d : Fin 2)
  /-- PORTER_EN_WRITE (R301). -/
  | porterEnWrite (ini : Ini) (d : Fin 2) (value : BitVec 32)
  /-- QUEUED_REWRITE (R297). -/
  | queuedRewrite (d : Fin 2) (u : Fin 96)
  /-- FLIP_ARM (R304). -/
  | flipArm (ini : Ini) (d : Fin 2) (value : BitVec 32)
  /-- SD_CFG_WRITE (R307). -/
  | sdCfgWrite (ini : Ini) (value : BitVec 32)
  /-- BRING_UP (R309). -/
  | bringUp (ini : Ini) (c : Fin 12)
  /-- TRAINING_COMPLETE (R309). -/
  | trainingComplete (c : Fin 12) (fail : Option (Fin 5))
  /-- INIT_COMPLETE (R309). -/
  | initComplete (c : Fin 12) (ok : Bool)
  /-- SR_ENTER (R308). -/
  | srEnter (ini : Ini) (c : Fin 12)
  /-- SR_EXIT (R308). -/
  | srExit (ini : Ini) (c : Fin 12)
  /-- CHANNEL_OFF (R310). -/
  | channelOff (ini : Ini) (c : Fin 12)
  /-- SDRAM_FILL (R320). -/
  | sdramFill (l : BitVec 35) (wrong : List (Fin 8 × Fin 20 × BitVec 8))
  /-- SDRAM_WRITEBACK (R321). -/
  | sdramWriteback (l : BitVec 35)
  /-- GENERATE (R316). -/
  | generate (ini : Ini) (k : Fin 64)
  /-- KEY_GENERATED (R316). -/
  | keyGenerated
  /-- SET_PLAIN (R316). -/
  | setPlain (ini : Ini) (k : Fin 64)
  /-- RETIRE (R322). -/
  | retire (ini : Ini) (k : Fin 64)
  /-- RETIRE_COMPLETE (R322). -/
  | retireComplete
  /-- SWEEP (R323). -/
  | sweep (ini : Ini) (k : Fin 64)
  /-- SWEEP_COMPLETE (R323). -/
  | sweepComplete
  /-- MKEY_WIN_WRITE (R319). -/
  | mkeyWinWrite (ini : Ini) (w : Fin 64) (lim : Bool) (value : BitVec 32)
  /-- SDRAM_REFRESH (R325). -/
  | sdramRefresh (c : Fin 12)
  /-- MR4_POLL (R325). -/
  | mr4Poll (c : Fin 12) (doubled : Bool)
  /-- STROBE_RETUNE (R325). -/
  | strobeRetune (c : Fin 12)
  /-- SCRUB_LINE (R327). -/
  | scrubLine (read : ScrubRead)
  /-- SD_ALERT (R511). -/
  | sdAlert (c : Fin 12)
  /-- LINK_CTL_WRITE (R333). -/
  | linkCtlWrite (ini : Ini) (g : Fin 24) (value : BitVec 32)
  /-- RETRAIN (R335). -/
  | retrain (ini : Ini) (g : Fin 24)
  /-- TS1 (R336). -/
  | ts1 (g : Fin 24) (locked : BitVec 16) (inverted : BitVec 16) (sets : List RxSet)
  /-- TS2 (R336). -/
  | ts2 (g : Fin 24) (sets : List RxSet) (pings : List (Nat × Nat))
  /-- TRAIN_TIMEOUT (R335). -/
  | trainTimeout (g : Fin 24)
  /-- FRAME (R342). -/
  | frame (g : Fin 24) (f : RxFrame)
  /-- REPLAY_TIMEOUT (R343). -/
  | replayTimeout (g : Fin 24)
  /-- LOSS_OF_SIGNAL (R348). -/
  | lossOfSignal (g : Fin 24) (lane : Fin 16) (lock : Bool)
  /-- TICK_MARKER (R347). -/
  | tickMarker (g : Fin 24) (count : BitVec 8) (offset : BitVec 8) (frac : Fin 64)
  /-- RAW_FLIT_IN (R353): the codes as received, column by column, the first bit on the line in bit 0. -/
  | rawFlitIn (g : Fin 24) (codes : List (BitVec 10))
  /-- RAW_FLIT_OUT (R354): none where no flit is ready at a column time. -/
  | rawFlitOut (g : Fin 24) (flit : Option (BitVec 512))
  /-- TWIN_CFG_WRITE (R356). -/
  | twinCfgWrite (ini : Ini) (value : BitVec 32)
  /-- JOIN (R359). -/
  | join (rq : Request)
  /-- MIRROR_DATA (R365). -/
  | mirrorData (rq : Request)
  /-- MIRROR_END (R365). -/
  | mirrorEnd (rq : Request)
  /-- MIRROR_SEND_COMPLETE (R364). -/
  | mirrorSendComplete
  /-- CHECK (R367). -/
  | check (rq : Request)
  /-- RESIGN (R369). -/
  | resign (rq : Request)
  /-- BAR_ARRIVE (R373). -/
  | barArrive (rq : Request)
  /-- BAR_RELEASE (R373). -/
  | barRelease (rq : Request)
  /-- RESET (R375). -/
  | reset (rq : Request) (g : Fin 24)
  /-- TAKEOVER (R368). -/
  | takeover (ini : Ini)
  /-- RESIGN_CMD (R369). -/
  | resignCmd (ini : Ini)
  /-- REJOIN (R370). -/
  | rejoin (ini : Ini)
  /-- TAKEOVER_BOUNDARY (R368). -/
  | takeoverBoundary
  /-- SNAP_REQ (R374). -/
  | snapReq (ini : Ini) (value : BitVec 32)
  /-- SNAPSHOT_COMPLETE (R374). -/
  | snapshotComplete
  /-- GRESET_GO (R375). -/
  | gresetGo (ini : Ini)
  /-- GBAR_CFG_WRITE (R373). -/
  | gbarCfgWrite (ini : Ini) (b : Fin 16) (value : BitVec 32)
  /-- SNOOP_CTL_WRITE (R382). -/
  | snoopCtlWrite (ini : Ini) (u : Fin 16) (k : Fin 4) (value : BitVec 32)
  /-- SNOOP_PACKET (R378). -/
  | snoopPacket (sight : SnoopSight)
  /-- SNOOP_FIFO_POP (R384). -/
  | snoopFifoPop (ini : Ini) (u : Fin 16)
  /-- POWER_REQUEST (R388). -/
  | powerRequest (ini : Ini) (d : Fin 112) (on : Bool)
  /-- DOMAIN_ON (R387). -/
  | domainOn (d : Fin 112)
  /-- DOMAIN_OFF (R387). -/
  | domainOff (d : Fin 112)
  /-- MONITOR_INTERVAL (R393). -/
  | monitorInterval (currents : List Nat) (others : List Nat)
  /-- HK_ROUND (R394). -/
  | hkRound (values : List (BitVec 16))
  /-- MODEL_STEP (R396). -/
  | modelStep
  /-- GRACE_END (R400). -/
  | graceEnd
  /-- CLOCK_STEP_RISE (R401). -/
  | clockStepRise
  /-- DWELL_END (R405). -/
  | dwellEnd
  /-- SHUTDOWN_POWER_OFF (R408). -/
  | shutdownPowerOff
  /-- RELEASE_HOLD (R406). -/
  | releaseHold (ini : Ini)
  /-- SENSOR_READMIT (R398). -/
  | sensorReadmit (ini : Ini) (l : Fin 6) (value : BitVec 32)
  /-- NOTIFY_ANSWER (R407). -/
  | notifyAnswer (tag : BitVec 8) (a : Answer)
  /-- PORST_N (R412). -/
  | porstN (high : Bool) (role : Bool)
  /-- RESET_N (R413). -/
  | resetN (high : Bool)
  /-- DEVICE_RESET_BEGIN (R413). -/
  | deviceResetBegin
  /-- DIE_RESET (R412). -/
  | dieReset (ini : Ini) (value : BitVec 32)
  /-- HOUSEKEEPING_STEP (R415). -/
  | housekeepingStep
  /-- FUSE_STEP (R415). -/
  | fuseStep (ok : Bool)
  /-- JOURNAL_STEP (R418). -/
  | journalStep (readable : Bool)
  /-- REPAIR_LOAD (R415). -/
  | repairLoad (tables : Bool)
  /-- BIST_STEP (R456). -/
  | bistStep (failed : List (Bool × Nat × Nat))
  /-- IMAGE_STEP (R211, R423): the 32 bytes of the flash directory. -/
  | imageStep (dir : BitVec 256)
  /-- JOURNAL_WRITE_COMPLETE (R419). -/
  | journalWriteComplete
  /-- ALERT_CLEAR (R431). -/
  | alertClear (ini : Ini)
  /-- READ_STATUS (R433). -/
  | readStatus (via : DeskRead)
  /-- COMMAND (R434). -/
  | command (d : DeskIn)
  /-- DATA_IN (R432). -/
  | dataIn (d : DeskIn)
  /-- DATA_OUT (R432). -/
  | dataOut (place : DeskOut) (count : Nat)
  /-- ABORT (R435). -/
  | abort (a : DeskAbort)
  /-- LOAD_IMAGE (R434). -/
  | loadImage
  /-- CSR_READ (R434). -/
  | csrRead
  /-- CSR_WRITE (R434). -/
  | csrWrite
  /-- JNL_READ (R434). -/
  | jnlRead
  /-- JNL_WRITE (R434). -/
  | jnlWrite
  /-- CNT_INC (R421). -/
  | cntInc
  /-- SETTINGS_SET (R426). -/
  | settingsSet
  /-- MAPOUT_CLEAR (R434). -/
  | mapoutClear
  /-- GB_READ (R434). -/
  | gbRead
  /-- GB_UNFREEZE (R430). -/
  | gbUnfreeze
  /-- ALERT_ACK (R431). -/
  | alertAck
  /-- DEVICE_RESET (R434). -/
  | deviceReset
  /-- BOOT_RETRY (R423). -/
  | bootRetry
  /-- ITIN_READ (R434). -/
  | itinRead
  /-- LC_ADVANCE (R438). -/
  | lcAdvance (ini : Ini) (value : BitVec 32)
  /-- LC_ADVANCED (R438). -/
  | lcAdvanced
  /-- LOAD_PLAIN (R444). -/
  | loadPlain (ini : Ini) (parent : Fin 8) (slot : Fin 8)
  /-- LOAD_WRAPPED (R444). -/
  | loadWrapped (ini : Ini) (parent : Fin 8) (slot : Fin 8)
  /-- REVOKE (R444). -/
  | revoke (ini : Ini) (parent : Fin 8) (slot : Fin 8)
  /-- DEBUG_KEY_SET (R444). -/
  | debugKeySet (ini : Ini) (parent : Fin 8) (slot : Fin 8)
  /-- KEY_CMD_COMPLETE (R444). -/
  | keyCmdComplete
  /-- ALARM_CFG_WRITE (R449). -/
  | alarmCfgWrite (ini : Ini) (a : Fin 7) (value : BitVec 32)
  /-- GLITCH (R448). -/
  | glitch
  /-- RNG_TEST_WINDOW (R447). -/
  | rngTestWindow (good : Bool)
  /-- DRBG_RESEED (R446). -/
  | drbgReseed
  /-- RNG_OUT_READ (R446). -/
  | rngOutRead (ini : Ini)
  /-- CHALLENGE_BLOCK_END (R445). -/
  | challengeBlockEnd
  /-- MBIST_START (R455). -/
  | mbistStart (ini : Ini) (e : Fin 5) (value : BitVec 32)
  /-- MBIST_COMPLETE (R459). -/
  | mbistComplete (e : Fin 5) (fails : List FailLoc) (bad : List (Bool × Nat × Nat))
  /-- TEST_ABORT (R460). -/
  | testAbort (ini : Ini) (e : Fin 5)
  /-- FAIL_INFO_POP (R458). -/
  | failInfoPop (ini : Ini) (e : Fin 5)
  /-- BURN (R464). -/
  | burn (ini : Ini)
  /-- BURN_COMPLETE (R464). -/
  | burnComplete
  /-- STACK_TEST_REQUEST (R465). -/
  | stackTestRequest (ini : Ini) (value : BitVec 32)
  /-- LBIST_GO (R467). -/
  | lbistGo (ini : Ini) (layer : BitVec 3)
  /-- LBIST_COMPLETE (R467). -/
  | lbistComplete (pass : Bool)
  /-- IDCODE (R471). -/
  | idcode
  /-- SAMPLE_PRELOAD (R471). -/
  | samplePreload (levels : List (BitVec 32)) (dedicated : BitVec 64) (value : BitVec 3136)
  /-- EXTEST (R471). -/
  | extest (scan : Option BoundaryScan)
  /-- HIGHZ (R471). -/
  | highz
  /-- CLAMP_INSTR (R471). -/
  | clampInstr
  /-- DBG (R472). -/
  | dbg
  /-- SCAN (R467). -/
  | scan
  /-- BYPASS (R471). -/
  | bypass (code : BitVec 8)
  /-- DBG_ACCESS (R472). -/
  | dbgAccess (value : BitVec 64) (early : Bool)
  /-- DEBUG_ENDPOINT_ACCESS (R473). -/
  | debugEndpointAccess (rq : Request)
  /-- CHAL (R475). -/
  | chal (path : DbgPath)
  /-- REQ (R475). -/
  | req (path : DbgPath) (level : BitVec 2)
  /-- CLOSE (R476). -/
  | close (path : DbgPath)
  /-- DBG_INIT_GO (R477). -/
  | dbgInitGo (path : DbgPath) (size : BitVec 3) (write : Bool)
  /-- DBG_INIT_ANSWER (R477). -/
  | dbgInitAnswer (tag : BitVec 8) (a : Answer)
  /-- HALT (R480). -/
  | halt (path : DbgPath) (t : Fin 4)
  /-- HALT_PENDING_LOCKED (R481). -/
  | haltPendingLocked (t : Fin 4)
  /-- FORCE (R481). -/
  | force (path : DbgPath) (t : Fin 4)
  /-- DBG_RELEASE (R483). -/
  | dbgRelease (path : DbgPath) (t : Fin 4)
  /-- STEP (R483). -/
  | step (path : DbgPath) (t : Fin 4)
  /-- THR_DATA_READ (R483). -/
  | thrDataRead (path : DbgPath)
  /-- THR_DATA_WRITE (R483). -/
  | thrDataWrite (path : DbgPath) (value : BitVec 32)
  /-- DBG_REG_HALT (R485). -/
  | dbgRegHalt (path : DbgPath) (i : Fin 2) (value : BitVec 32)
  /-- DBG_REG_REL (R485). -/
  | dbgRegRel (path : DbgPath) (i : Fin 2) (value : BitVec 32)
  /-- DBG_REG_STEP (R485). -/
  | dbgRegStep (path : DbgPath) (n : Fin 64) (count : BitVec 8)
  /-- REGION_STEP_END (R485). -/
  | regionStepEnd
  /-- SW (R486). -/
  | sw (path : DbgPath) (c : Fin 16)
  /-- STIM_WRITE (R489). -/
  | stimWrite (rq : Request)
  /-- TRACE_EN (R491). -/
  | traceEn (path : DbgPath) (value : BitVec 32)
  /-- TRACE_WRITE_ANSWER (R491). -/
  | traceWriteAnswer (tag : BitVec 8) (a : Answer)
  /-- RAW_LANE_LOCK (R351). -/
  | rawLaneLock (g : Fin 24) (lane : Fin 8)
  /-- SCRUB_PASS_END (R327). -/
  | scrubPassEnd
  /-- CHANNEL_SWEEP_END (R323). -/
  | channelSweepEnd (c : Fin 12)
  deriving DecidableEq, Repr

end Sys2Proof
end

