-- ==== Sys2Proof/Decode.lean ====
section
/-! DEFINITION. What the host reads of the opcode table: no row of it gives bits, so no word spells a command. -/

namespace Sys2Proof

/-- The command that a word spells by the table's bits: the table gives none (spec/opcode_table.json: every row's fields are empty). -/
def decodeTableWord (_nbits _w : Nat) : Option Instr := none

end Sys2Proof
end

