-- ==== Sys2Proof/Machine/Design.lean ====
section
/-! DEFINITION. What a configuration sets (02_fabric.md, R45 to R67; 03_contexts.md, R110 to R113): the settings of the fabric's resources and the
signals that a routed input may take. The bits of the configuration frames that hold them are in the bitstream map, which the spec leaves to Yelquin
(R86): Sys2Proof/Config.lean has one opaque reading of the frames for each kind of resource (log entry 4). -/

namespace Sys2Proof

/-- The direction in which a wire runs (R63): +x, −x, +y, −y. -/
inductive Dir where
  | east | west | north | south
  deriving DecidableEq, Repr, Inhabited

/-- The routing wires of a tile (R63). -/
inductive WireKind where
  | single | quad | long
  deriving DecidableEq, Repr, Inhabited

/-- What a routed input of a tile takes: a constant, a flip-flop or a lookup-table output of an element of the tile, the carry into an element of the
tile (log entry 218), a wire that ends at the tile, a face channel received at the tile, an output of a slice or of a block RAM of the region, an
event line (R82), or a signal that a region port brings. -/
inductive Src where
  | zero
  | one
  | flop (e : Nat) (h : Bool)
  | ly (e : Nat)
  | lz (e : Nat)
  | carryIn (e : Nat)
  | wire (d : Dir) (k : WireKind) (i : Nat)
  | face (c : Nat)
  | result (j bit : Nat)
  | overflow (j : Nat)
  | data (k : Nat) (portB : Bool) (bit : Nat)
  | eccC (k : Nat)
  | eccU (k : Nat)
  | event (k : Nat)
  | outside (i : Nat)
  deriving DecidableEq, Repr, Inhabited

/-- The modes of a lookup table (R45). -/
inductive LutMode where
  | whole | split
  deriving DecidableEq, Repr, Inhabited

/-- A logic element (R45, R48): its table and mode, the inputs LA to LF, the bypass inputs in use of FFA and FFB, which of the cluster's two clock
enables each flip-flop obeys (none: always enabled), and the values that set-reset gives them. -/
structure ElementCfg where
  table   : BitVec 64
  mode    : LutMode
  inputs  : List Src
  bypassA : Option Src
  bypassB : Option Src
  enableA : Option Bool
  enableB : Option Bool
  srA     : Bool
  srB     : Bool
  deriving DecidableEq, Repr, Inhabited

/-- The control set of a cluster (R47, R48): its clock (0 the region clock, 1 to 3 the secondary clocks), the two clock enables, the set-reset signal,
and what element 0 takes as carry input in the region's bottom row. -/
structure ClusterCfg where
  clock    : Nat
  enable0  : Src
  enable1  : Src
  setReset : Src
  carry    : Src
  deriving DecidableEq, Repr, Inhabited

/-- The arithmetic of a slice (R50, R51): signed operands, CIN_SHIFT, saturate mode. -/
structure SliceCfg where
  xSigned  : Bool
  ySigned  : Bool
  shift    : Nat
  saturate : Bool
  deriving DecidableEq, Repr, Inhabited

/-- A slice as a design uses it (R50, R52): its arithmetic, which of the registers X, Y, W and M are in use, its clock, and its inputs, least
significant bit first. -/
structure SliceUse where
  cfg   : SliceCfg
  useX  : Bool
  useY  : Bool
  useW  : Bool
  useM  : Bool
  clock : Nat
  x     : List Src
  y     : List Src
  w     : List Src
  src   : List Src
  neg   : Src
  deriving DecidableEq, Repr, Inhabited

/-- Read-during-write modes (R56). -/
inductive RdwMode where
  | fresh | stale | keep
  deriving DecidableEq, Repr, Inhabited

/-- A port of a block RAM (R55, R56): its clock, lane width, read-during-write mode, whether its output register is in use, its enable, address, data
and write enables, least significant bit first. -/
structure RamPortCfg where
  clock  : Nat
  width  : Nat
  mode   : RdwMode
  outReg : Bool
  enable : Src
  addr   : List Src
  din    : List Src
  we     : List Src
  deriving DecidableEq, Repr, Inhabited

/-- A block RAM (R55, R58): its ports joined into one ganged port, ECC mode, ports A and B. -/
structure RamCfg where
  ganged : Bool
  ecc    : Bool
  a      : RamPortCfg
  b      : RamPortCfg
  deriving DecidableEq, Repr, Inhabited

/-- The clamp modes (R112). -/
inductive ClampMode where
  | hold | force0 | force1 | pass
  deriving DecidableEq, Repr, Inhabited

/-- An isolation cell (R67, R112): its clamp mode, and SYNC2 or else DIRECT timing. -/
structure CellCfg where
  mode  : ClampMode
  sync2 : Bool
  deriving DecidableEq, Repr, Inhabited

end Sys2Proof
end

