-- ==== Sys2Proof/Config.lean ====
section
/-! DEFINITION. The values that the spec leaves open: opaque constants without a body, so that no proof can see what
they are and every claim holds whatever they are. Log entries 3 and 4 say which points of the spec they stand for. -/

namespace Sys2Proof

/-- A fresh value for each number: the source of every value that the spec calls undefined or does not state (log entry 3). -/
opaque Config.free : Nat → Nat

/-- An undefined bit pattern of a block RAM row after the power-up named by the token (R60, log entry 3). -/
opaque Config.bramUndefined : Nat → Nat → Nat

/-- The secondary clock networks (at most three of the 32) that a plane's configuration frames name (R73); the place of
these bits is in the bitstream map, not in the spec (log entry 4). The argument is the listed configuration frames. -/
opaque Config.secondaryClocks : List (Nat × Nat) → List Nat

/-- The context-invariant bit of outbound border group g in a configuration (R113; log entry 4). -/
opaque Config.invariantBit : List (Nat × Nat) → Nat → Bool

/-- The state frames, bit f for frame 3,840 + f, that a configuration declares for the twin mirror, at most 8 of its 60 (R183, R361; log entry 4). -/
opaque Config.mirrorMask : List (Nat × Nat) → Nat

/-- The logic element e (0 to 79) of local tile t in a configuration (R45, R48; log entry 4). -/
opaque Config.element : List (Nat × Nat) → Nat → Nat → ElementCfg

/-- The control set of cluster c (0 to 9) of local tile t (R47, R48; log entry 4). -/
opaque Config.cluster : List (Nat × Nat) → Nat → Nat → ClusterCfg

/-- What drives wire i of a kind that leaves local tile t in a direction (R63; log entry 4). -/
opaque Config.wireDriver : List (Nat × Nat) → Nat → Dir → WireKind → Nat → Src

/-- The flip-flop, 0 to 159, that the face output selector of local tile t gives to the i-th channel that the tile sends (R66; log entry 4). -/
opaque Config.faceFlop : List (Nat × Nat) → Nat → Nat → Nat

/-- The isolation cell of inbound border group g (R67, R110, R112; log entry 4). -/
opaque Config.cell : List (Nat × Nat) → Nat → CellCfg

/-- Arithmetic slice j of the region (R50, R52; log entry 4). -/
opaque Config.slice : List (Nat × Nat) → Nat → SliceUse

/-- Block RAM k of the region (R55, R58; log entry 4). -/
opaque Config.ram : List (Nat × Nat) → Nat → RamCfg

/-- Which of the columns still left is the check column of data bit i of a ganged word in ECC mode (R58): the spec says what its code corrects and
not its bits (log entry 255). -/
opaque Config.ramPick : Nat → Nat

/-- What the spec leaves undefined within the fabric, under the token of a free value, by place: a DIRECT group between two networks (R67), a loop of
signals (log entry 223). -/
opaque Config.wild : Nat → Nat → Nat

/-- The local tile and the source that drive flag line k of the region (R82; log entry 4). -/
opaque Config.flagDriver : List (Nat × Nat) → Nat → Nat × Src

/-- What a region port brings to user logic at signal i, under the token of a free value: the spec does not lay these signals out (log entry 218). -/
opaque Config.outside : Nat → Nat → Bool

/-- The 256-bit key-encryption key that a fuse draw holds (R438; log entry 3). -/
opaque Config.kek : Nat → Nat

/-- The first bits that the DRBG gives when it is instantiated from a personalisation value and counter 1 alone (R447): the spec gives neither the
other inputs of CTR_DRBG nor which bits serve which draw (log entry 3). -/
opaque Config.weakDraw : Nat → Nat → Nat

/-- The TYPE byte of journal records whose TYPE the spec does not give (R419): 0 itinerary, 1 user records, 2 start settings (log entry 3). -/
opaque Config.recordType : Nat → Nat

/-- The code of an unclassified fault of a block (R17): the code table of R431 has none (log entry 3). -/
opaque Config.unclassifiedCode : Nat → Nat

/-! ## The thermal model (R396): its conductances and the maps of some heat are fused for each part and not in the spec (log entry 4) -/

/-- The model temperature of a cell, in 1/8 °C, after a step (R396): from the cell's number, its temperature, those of its neighbours in the layer, of
the cells below and above (for L6, the lid), and its heat in 1/8 mW. -/
opaque Config.cellStep : Nat → Int → List Int → List Int → Nat → Int

/-- The heat in 1/8 mW that the fused maps give a cell of L0 or of a transit layer, from the powers in mW of the lane groups, the transit domains and
the L0 core (R396). -/
opaque Config.fusedHeat : Nat → List Nat → Nat

end Sys2Proof
end

