-- ==== Sys2Proof/Machine/Aes.lean ====
section
/-! DEFINITION. The published ciphers that the spec names: AES-256 (FIPS 197), and over it GCM (NIST SP 800-38D; 06_images.md, R196), XTS
(IEEE 1619; 11_sdram_encryption.md, R317), KW (NIST SP 800-38F; 17_security_life_cycle.md, R442 to R444) and CMAC (NIST SP 800-38B; R445).
Bytes are numbers below 256; a block is 16 of them. -/

namespace Sys2Proof.Machine

/-! ## Bytes and blocks -/

/-- k bytes of a number, the lowest first. -/
def bytesLE (k v : Nat) : List Nat := (List.range k).map fun i => v / 2 ^ (8 * i) % 256
/-- The number whose lowest byte comes first. -/
def natLE (bs : List Nat) : Nat := bs.foldr (fun b v => b + 256 * v) 0
/-- k bytes of a number, the highest first. -/
def bytesBE (k v : Nat) : List Nat := (bytesLE k v).reverse
/-- The number whose highest byte comes first. -/
def natBE (bs : List Nat) : Nat := bs.foldl (fun v b => 256 * v + b) 0
/-- Exclusive or of two strings of bytes. -/
def xorBytes (a b : List Nat) : List Nat := a.zipWith (· ^^^ ·) b

/-! ## AES-256 (FIPS 197) -/

/-- 32 bytes of the S-box, the lowest first. -/
def sboxRow : Nat → Nat
  | 0 => 0xc072a49cafa2d4adf04759fa7dc982ca76abd7fe2b670130c56f6bf27b777c63
  | 1 => 0x75b227ebe28012079a059618c323c7041531d871f1e5a534ccf73f362693fdb7
  | 2 => 0xcf584c4a39becb6a5bb1fc20ed00d153842fe329b3d63b52a05a6e1b1a2c8309
  | 3 => 0xd2f3ff1021dab6bcf5389d928f40a351a89f3c507f02f94585334d43fbaaefd0
  | 4 => 0xdb0b5ede14b8ee4688902a22dc4f816073195d643d7ea7c41744975fec130ccd
  | 5 => 0x08ae7a65eaf4566ca94ed58d6d37c8e779e4959162acd3c25c2406490a3a32e0
  | 6 => 0x9e1dc186b95735610ef6034866b53e708a8bbd4b1f74dde8c6b4a61c2e2578ba
  | _ => 0x16bb54b00f2d99416842e6bf0d89a18cdf2855cee9871e9b948ed9691198f8e1

/-- The S-box. -/
def sbox (b : Nat) : Nat := (sboxRow (b / 32) >>> (8 * (b % 32))) % 256

/-- 32 bytes of the inverse S-box, the lowest first. -/
def unsboxRow : Nat → Nat
  | 0 => 0xcbe9dec444438e3487ff2f9b8239e37cfbd7f3819ea340bf38a53630d56a0952
  | 1 => 0x25d18b6d49a25b76b224d92866a12e084ec3fa420b954cee3d23c2a632947b54
  | 2 => 0x849d8da75746155edab9edfd5048706c92b6655dcc5ca4d41698688664f6f872
  | 3 => 0x6b8a130103bdafc1020f3fca8f1e2cd00645b3b80558e4f70ad3bc8c00abd890
  | 4 => 0x6edf751ce837f9e28535ade72274ac9673e6b4f0cecff297eadc674f4111913a
  | 5 => 0xf45acd78fec0db9a2079d2c64b3e56fc1bbe18aa0e62b76f89c5291d711af147
  | 6 => 0xef9cc9939f7ae52d0d4ab519a97f51605fec8027591012b131c7078833a8dd1f
  | _ => 0x7d0c2155631469e126d677ba7e042b17619953833cbbebc8b0f52aae4d3be0a0

/-- The inverse S-box. -/
def unsbox (b : Nat) : Nat := (unsboxRow (b / 32) >>> (8 * (b % 32))) % 256

/-- Multiply a byte by x modulo x^8 + x^4 + x^3 + x + 1. -/
def xtime (b : Nat) : Nat := if b < 128 then 2 * b else (2 * b) ^^^ 0x11B

/-- Multiply a byte by a number below 16. -/
def aesMul (k b : Nat) : Nat :=
  (if k.testBit 0 then b else 0) ^^^ (if k.testBit 1 then xtime b else 0) ^^^ (if k.testBit 2 then xtime (xtime b) else 0) ^^^
  (if k.testBit 3 then xtime (xtime (xtime b)) else 0)

/-- ShiftRows: byte r of column c comes from column c + r. -/
def shiftRows (s : List Nat) : List Nat := (List.range 16).map fun i => s.getD ((i + 4 * (i % 4)) % 16) 0
/-- Its inverse. -/
def unshiftRows (s : List Nat) : List Nat := (List.range 16).map fun i => s.getD ((i + 16 - 4 * (i % 4)) % 16) 0

/-- A column times the circulant matrix whose first row is k0 k1 k2 k3. -/
def mixColumn (k0 k1 k2 k3 : Nat) : List Nat → List Nat
  | [a, b, c, d] =>
    [aesMul k0 a ^^^ aesMul k1 b ^^^ aesMul k2 c ^^^ aesMul k3 d, aesMul k3 a ^^^ aesMul k0 b ^^^ aesMul k1 c ^^^ aesMul k2 d,
     aesMul k2 a ^^^ aesMul k3 b ^^^ aesMul k0 c ^^^ aesMul k1 d, aesMul k1 a ^^^ aesMul k2 b ^^^ aesMul k3 c ^^^ aesMul k0 d]
  | x => x

/-- MixColumns, or with other coefficients its inverse. -/
def mixColumns (k0 k1 k2 k3 : Nat) (s : List Nat) : List Nat :=
  (List.range 4).flatMap fun c => mixColumn k0 k1 k2 k3 ((s.drop (4 * c)).take 4)

/-- The next word of the key schedule, number i, from the words before it, the latest first. -/
def nextKeyWord (ws : List (List Nat)) (i : Nat) : List Nat :=
  let t := ws.headD []
  let t := if i % 8 = 0 then xorBytes ((t.drop 1 ++ t.take 1).map sbox) [2 ^ (i / 8 - 1), 0, 0, 0] else if i % 8 = 4 then t.map sbox else t
  xorBytes (ws.getD 7 []) t

/-- The 15 round keys of a key of 32 bytes, in order. -/
def roundKeys (key : List Nat) : List (List Nat) :=
  let first := ((List.range 8).map fun i => (key.drop (4 * i)).take 4).reverse
  let ws := ((List.range 52).foldl (fun ws i => nextKeyWord ws (i + 8) :: ws) first).reverse
  (List.range 15).map fun r => ((ws.drop (4 * r)).take 4).flatten

/-- Rounds 2 to the last of the cipher, by the round keys that are left. -/
def aesRounds : List (List Nat) → List Nat → List Nat
  | [], s => s
  | [k], s => xorBytes (shiftRows (s.map sbox)) k
  | k :: ks, s => aesRounds ks (xorBytes (mixColumns 2 3 1 1 (shiftRows (s.map sbox))) k)

/-- AES-256: encrypt a block. -/
def aesEnc (key block : List Nat) : List Nat :=
  match roundKeys key with
  | k :: ks => aesRounds ks (xorBytes block k)
  | [] => block

/-- The rounds of the inverse cipher, by the round keys that are left, the last first. -/
def aesUnrounds : List (List Nat) → List Nat → List Nat
  | [], s => s
  | [k], s => xorBytes ((unshiftRows s).map unsbox) k
  | k :: ks, s => aesUnrounds ks (mixColumns 14 11 13 9 (xorBytes ((unshiftRows s).map unsbox) k))

/-- AES-256: decrypt a block. -/
def aesDec (key block : List Nat) : List Nat :=
  match (roundKeys key).reverse with
  | k :: ks => aesUnrounds ks (xorBytes block k)
  | [] => block

/-! ## GCM (NIST SP 800-38D; R196) -/

/-- Multiply two blocks in GCM's field: a block is the number whose highest byte comes first, and its highest bit is the coefficient of 1. -/
def gcmMul (x y : Nat) : Nat :=
  ((List.range 128).foldl (fun zv i =>
    (if x.testBit (127 - i) then zv.1 ^^^ zv.2 else zv.1, if zv.2 % 2 = 1 then (zv.2 / 2) ^^^ (0xE1 * 2 ^ 120) else zv.2 / 2)) (0, y)).1

/-- GHASH over a string of bytes that comes byte by byte: the hash of the whole blocks, and the bytes of a block that is not whole yet. -/
structure Ghash where
  hash : Nat := 0
  part : List Nat := []
  deriving DecidableEq, Repr

/-- One more block under the hash subkey h. -/
def Ghash.block (h : Nat) (g : Ghash) (bs : List Nat) : Ghash := ⟨gcmMul (g.hash ^^^ natBE bs) h, []⟩

/-- One more byte. -/
def Ghash.byte (h : Nat) (g : Ghash) (b : Nat) : Ghash :=
  if g.part.length = 15 then g.block h (g.part ++ [b]) else { g with part := g.part ++ [b] }

/-- The last block is filled with zeros. -/
def Ghash.pad (h : Nat) (g : Ghash) : Ghash :=
  if g.part.isEmpty then g else g.block h (g.part ++ List.replicate (16 - g.part.length) 0)

/-- The hash subkey of a key. -/
def gcmSubkey (key : List Nat) : Nat := natBE (aesEnc key (List.replicate 16 0))

/-- The counter block k of a 96-bit IV; block 1 makes the tag, and the data begins at block 2. -/
def gcmBlock (key iv : List Nat) (k : Nat) : List Nat := aesEnc key (iv ++ bytesBE 4 k)

/-- The keystream byte for byte n of the data. -/
def gcmStream (key iv : List Nat) (n : Nat) : Nat := (gcmBlock key iv (2 + n / 16)).getD (n % 16) 0

/-- The tag: of a bytes of additional data and c bytes of ciphertext, each padded to whole blocks, that g has taken. -/
def gcmTag (key iv : List Nat) (g : Ghash) (a c : Nat) : List Nat :=
  let h := gcmSubkey key
  xorBytes (gcmBlock key iv 1) (bytesBE 16 ((g.pad h).block h (bytesBE 8 (8 * a) ++ bytesBE 8 (8 * c))).hash)

/-! ## XTS (IEEE 1619; R317) -/

/-- The next tweak: times α; a tweak is the number whose lowest byte comes first. -/
def xtsNext (t : Nat) : Nat := if t / 2 ^ 127 % 2 = 1 then (2 * t % 2 ^ 128) ^^^ 0x87 else 2 * t

/-- A cipher of blocks applied under the running tweak to each of the blocks. -/
def xtsBlocks (f : List Nat → List Nat) : List (List Nat) → Nat → List Nat
  | [], _ => []
  | b :: bs, t => xorBytes (f (xorBytes b (bytesLE 16 t))) (bytesLE 16 t) ++ xtsBlocks f bs (xtsNext t)

/-- A data unit of 128 bytes, number `unit`, under a 512-bit key: its first half for the data, its second for the tweak. Key and data are
numbers whose lowest byte comes first. -/
def xtsLine (f : List Nat → List Nat → List Nat) (key unit data : Nat) : Nat :=
  let k := bytesLE 64 key
  let bs := bytesLE 128 data
  natLE (xtsBlocks (f (k.take 32)) ((List.range 8).map fun i => (bs.drop (16 * i)).take 16) (natLE (aesEnc (k.drop 32) (bytesLE 16 unit))))

/-- XTS-AES-256 encryption of a line (R317). -/
def xtsEnc (key unit data : Nat) : Nat := xtsLine aesEnc key unit data
/-- XTS-AES-256 decryption of a line (R317). -/
def xtsDec (key unit data : Nat) : Nat := xtsLine aesDec key unit data

/-! ## KW (NIST SP 800-38F; R442) -/

/-- The integrity check value: eight bytes A6. -/
def kwIcv : List Nat := List.replicate 8 0xA6

/-- Step t of the wrapping of four semiblocks: the check register and the semiblocks, the next one first. -/
def kwStep (key : List Nat) (x : List Nat × List (List Nat)) (t : Nat) : List Nat × List (List Nat) :=
  match x.2 with
  | r :: rs =>
    let b := aesEnc key (x.1 ++ r)
    (xorBytes (b.take 8) (bytesBE 8 t), rs ++ [b.drop 8])
  | [] => x

/-- The step undone: the semiblock that it moved to the end. -/
def kwUnstep (key : List Nat) (x : List Nat × List (List Nat)) (t : Nat) : List Nat × List (List Nat) :=
  match x.2.reverse with
  | r :: rs =>
    let b := aesDec key (xorBytes x.1 (bytesBE 8 t) ++ r)
    (b.take 8, b.drop 8 :: rs.reverse)
  | [] => x

/-- Wrap a 256-bit key: 40 bytes (R442). Keys and blob are numbers whose lowest byte comes first. -/
def kwWrap (key plain : Nat) : Nat :=
  let p := bytesLE 32 plain
  let x := ((List.range 24).map (· + 1)).foldl (kwStep (bytesLE 32 key)) (kwIcv, (List.range 4).map fun i => (p.drop (8 * i)).take 8)
  natLE (x.1 ++ x.2.flatten)

/-- Unwrap 40 bytes; none: the integrity check fails (R443, R444). -/
def kwUnwrap (key blob : Nat) : Option Nat :=
  let p := bytesLE 40 blob
  let rs := (List.range 4).map fun i => (p.drop (8 * (i + 1))).take 8
  let x := ((List.range 24).map (24 - ·)).foldl (kwUnstep (bytesLE 32 key)) (p.take 8, rs)
  if x.1 = kwIcv then some (natLE x.2.flatten) else none

/-! ## CMAC (NIST SP 800-38B; R445) -/

/-- Double a block in CMAC's field: the number whose highest byte comes first. -/
def cmacDouble (x : Nat) : Nat := if x / 2 ^ 127 % 2 = 1 then (2 * x % 2 ^ 128) ^^^ 0x87 else 2 * x

/-- CMAC over the blocks before the last, then the last block as masked. -/
def cmacChain (key : List Nat) (blocks : List (List Nat)) : List Nat :=
  blocks.foldl (fun c b => aesEnc key (xorBytes c b)) (List.replicate 16 0)

/-- CMAC of a message of 16·n + r bytes, 0 < r ≤ 16: the tag's bytes. -/
def cmac (key msg : List Nat) : List Nat :=
  let n := (msg.length - 1) / 16
  let last := msg.drop (16 * n)
  let k1 := cmacDouble (natBE (aesEnc key (List.replicate 16 0)))
  let tail := if last.length = 16 then xorBytes last (bytesBE 16 k1)
    else xorBytes (last ++ 0x80 :: List.replicate (15 - last.length) 0) (bytesBE 16 (cmacDouble k1))
  cmacChain key (((List.range n).map fun i => (msg.drop (16 * i)).take 16) ++ [tail])

end Sys2Proof.Machine
end

