-- ==== Sys2Proof/Machine/RegReset.lean ====
section
/-! DEFINITION. The shape of a register field, of the access codes of R11, of the encodings that R15 calls reserved,
and the reset values that a register table of the spec gives by a rule instead of a number (R448, R515). -/

namespace Sys2Proof.Machine

/-- One field of one register instance: the CSR offset of the register, the lowest bit, the width, and the value after
PORST_N (R14; where the table shows a dash or 'fused', 0: log entry 2). -/
structure Fld where
  off   : Nat
  lo    : Nat
  width : Nat
  rst   : Nat
  deriving DecidableEq, Repr

/-- Where a field is held in the register file of `State`: its bit address within CSR space. -/
def Fld.key (f : Fld) : Nat := 8 * f.off + f.lo

/-- The access codes of R11. -/
inductive Acc where
  | rw | ro | wo | w1c | w1s | rs
  deriving DecidableEq, Repr

/-- Which values of a field its encoding table allows: the others are marked reserved and leave the field as it was (R15). -/
inductive Legal where
  | any
  | below (n : Nat)
  | atLeast (n : Nat)
  | between (a b : Nat)
  | notIn (vs : List Nat)
  deriving DecidableEq, Repr

/-- Whether a written value is one that the encoding table allows (R15). -/
def Legal.ok : Legal → Nat → Bool
  | .any, _ => true
  | .below n, v => decide (v < n)
  | .atLeast n, v => decide (n ≤ v)
  | .between a b, v => decide (a ≤ v) && decide (v ≤ b)
  | .notIn vs, v => !(vs.contains v)

/-- A field as its register's table lists it. -/
structure FieldUse where
  fld   : Fld
  acc   : Acc
  legal : Legal
  deriving DecidableEq, Repr

/-- The registers that a tuple of instance numbers names, for a family with that many indices (R514). -/
inductive Inst (ρ : Type) where
  | c0 (r : ρ)
  | c1 (r : Nat → ρ)
  | c2 (r : Nat → Nat → ρ)
  | c3 (r : Nat → Nat → Nat → ρ)

/-- Where a family of registers lies (R514): the base offset, and count and stride of each index, the widest stride first. -/
structure RegShape (ρ : Type) where
  base : Nat
  dims : List (Nat × Nat)
  inst : Inst ρ

/-- The index tuple that an offset within a family stands for, if it names an instance (R513, R514). -/
def indicesOf : List (Nat × Nat) → Nat → Option (List Nat)
  | [], rem => if rem = 0 then some [] else none
  | (count, stride) :: ds, rem =>
    if rem / stride < count then
      match indicesOf ds (rem % stride) with
      | some is => some ((rem / stride) :: is)
      | none => none
    else none

/-- The register that a family has at an offset, if any. -/
def RegShape.at? {ρ : Type} (sh : RegShape ρ) (off : Nat) : Option ρ :=
  if off < sh.base then none else
  match indicesOf sh.dims (off - sh.base), sh.inst with
  | some [], .c0 r => some r
  | some [i], .c1 r => some (r i)
  | some [i, j], .c2 r => some (r i j)
  | some [i, j, k], .c3 r => some (r i j k)
  | _, _ => none

/-- Default RESP of alarm a (R448): LOG 0, ALERT 1, LOCK 2. -/
def alarmRespReset : Nat → Nat
  | 1 => 1 | 2 => 1 | 3 => 1 | 5 => 1 | 6 => 2 | _ => 0

/-- Number of columns of a layer's mesh (R231): 4 on L3, 8 on the other layers. -/
def meshCols (layer : Nat) : Nat := if layer = 3 then 4 else 8

/-- Whether station k of a layer exists (R231): 32 on L0, L1, L2, L4 and L5; 16 on L3. -/
def stationExists (layer k : Nat) : Bool :=
  decide (layer ≤ 5) && decide (k < if layer = 3 then 16 else 32)

/-- The next hop of a horizontal route at station k towards station s of the same layer (R515): along x to the column,
then along y to the row; code 0x0 delivers here (R246). -/
def horizontalHop (layer k s : Nat) : Nat :=
  let c := meshCols layer
  if k % c < s % c then 1 else if s % c < k % c then 2
  else if k / c < s / c then 3 else if s / c < k / c then 4 else 0

/-- The first layer of the vertical path from layer a towards layer b (the table of R515), for b other than a and L3. -/
def verticalFirst : Nat → Nat → Nat
  | 0, 1 => 1 | 0, 2 => 2 | 0, 4 => 1 | 0, 5 => 2
  | 1, 0 => 0 | 1, 2 => 0 | 1, 4 => 4 | 1, 5 => 5
  | 2, 0 => 0 | 2, 1 => 0 | 2, 4 => 4 | 2, 5 => 5
  | 3, 0 => 0 | 3, 1 => 0 | 3, 2 => 2 | 3, 4 => 2 | 3, 5 => 2
  | 4, 0 => 1 | 4, 1 => 1 | 4, 2 => 2 | 4, 5 => 2
  | 5, 0 => 2 | 5, 1 => 1 | 5, 2 => 2 | 5, 4 => 2
  | _, _ => 0

/-- The default route-table entry at waystation n = 32 × layer + station for destination d = 32 × layer + station
(R515, codes of R246). -/
def wsRouteReset (n d : Nat) : Nat :=
  let a := n / 32
  let k := n % 32
  let b := d / 32
  let s := d % 32
  if !(stationExists b s) then 0xF
  else if b = a then horizontalHop a k s
  else if b = 3 then
    if a = 0 then (if k = s then 8 else horizontalHop 0 k s) else 5 + verticalFirst a 0
  else 5 + verticalFirst a b

end Sys2Proof.Machine
end

