-- ==== Sys2Proof/Machine/Regs.lean ====
section
/-! DEFINITION. The register map of the device: one function per field of the register tables of the spec's chapters
(a field of one register instance is a `Fld`), one constructor of `Reg` per register of the Register Index
(21_register_index.md, R513 and R514), where each register lies, and its fields with their access codes (R11). -/

namespace Sys2Proof.Machine

namespace R

/-! Fields of 01_stack.md. -/
def STACK_SUMMARY_STACK_GRADE : Fld := ⟨0x100, 30, 2, 0⟩
def STACK_SUMMARY_M1_PRESENT : Fld := ⟨0x100, 29, 1, 0⟩
def STACK_SUMMARY_M0_PRESENT : Fld := ⟨0x100, 28, 1, 0⟩
def STACK_SUMMARY_SLICES_ACTIVE : Fld := ⟨0x100, 20, 8, 0⟩
def STACK_SUMMARY_BANKS_ACTIVE : Fld := ⟨0x100, 8, 12, 0⟩
def STACK_SUMMARY_REGIONS_UNUSABLE : Fld := ⟨0x100, 1, 7, 0⟩
def STACK_SUMMARY_FIELD_MAPOUT : Fld := ⟨0x100, 0, 1, 0⟩
def STACK_SLICE_MAP_IN_SERVICE (n : Nat) : Fld := ⟨0x110 + n * 0x4, 0, 32, 0⟩
def STACK_REGION_MAP_USABLE (n : Nat) : Fld := ⟨0x120 + n * 0x4, 0, 32, 0⟩
def STACK_FACE_SPARES_USED : Fld := ⟨0x128, 0, 19, 0⟩
def STACK_COIL_SPARES_USED : Fld := ⟨0x12C, 0, 19, 0⟩
def STACK_BANK_MAP_IN_SERVICE (n : Nat) : Fld := ⟨0x200 + n * 0x4, 0, 32, 0⟩

/-! Fields of 02_fabric.md. -/
def CLK_NET_CFG_EN (g : Nat) : Fld := ⟨0xC00000 + g * 0x4, 31, 1, 0⟩
def CLK_NET_CFG_LOCKED (g : Nat) : Fld := ⟨0xC00000 + g * 0x4, 30, 1, 0⟩
def CLK_NET_CFG_BUSY_ERR (g : Nat) : Fld := ⟨0xC00000 + g * 0x4, 29, 1, 0⟩
def CLK_NET_CFG_CFG_ERR (g : Nat) : Fld := ⟨0xC00000 + g * 0x4, 28, 1, 0⟩
def CLK_NET_CFG_LOCK_LOST (g : Nat) : Fld := ⟨0xC00000 + g * 0x4, 27, 1, 0⟩
def CLK_NET_CFG_O_M1 (g : Nat) : Fld := ⟨0xC00000 + g * 0x4, 14, 7, 7⟩
def CLK_NET_CFG_M_M1 (g : Nat) : Fld := ⟨0xC00000 + g * 0x4, 7, 7, 31⟩
def CLK_NET_CFG_D_M1 (g : Nat) : Fld := ⟨0xC00000 + g * 0x4, 4, 3, 0⟩
def REGION_CLK_SEL_ERR (n : Nat) : Fld := ⟨0x800800 + n * 0x10000, 31, 1, 0⟩
def REGION_CLK_CLK_SEL (n : Nat) : Fld := ⟨0x800800 + n * 0x10000, 0, 5, 0⟩
def REGION_PORT_CFG_CFG_ERR (n p : Nat) : Fld := ⟨0x800810 + n * 0x10000 + p * 0x4, 31, 1, 0⟩
def REGION_PORT_CFG_UNDERRUN_POL (n p : Nat) : Fld := ⟨0x800810 + n * 0x10000 + p * 0x4, 20, 1, 0⟩
def REGION_PORT_CFG_SAMPLE_DIV (n p : Nat) : Fld := ⟨0x800810 + n * 0x10000 + p * 0x4, 18, 2, 0⟩
def REGION_PORT_CFG_BANK (n p : Nat) : Fld := ⟨0x800810 + n * 0x10000 + p * 0x4, 8, 5, 0⟩
def REGION_PORT_CFG_MODE (n p : Nat) : Fld := ⟨0x800810 + n * 0x10000 + p * 0x4, 0, 2, 0⟩
def REGION_PORT_SLOTS_PLANE7 (n p : Nat) : Fld := ⟨0x800820 + n * 0x10000 + p * 0x4, 28, 4, 6⟩
def REGION_PORT_SLOTS_PLANE6 (n p : Nat) : Fld := ⟨0x800820 + n * 0x10000 + p * 0x4, 24, 4, 6⟩
def REGION_PORT_SLOTS_PLANE5 (n p : Nat) : Fld := ⟨0x800820 + n * 0x10000 + p * 0x4, 20, 4, 6⟩
def REGION_PORT_SLOTS_PLANE4 (n p : Nat) : Fld := ⟨0x800820 + n * 0x10000 + p * 0x4, 16, 4, 6⟩
def REGION_PORT_SLOTS_PLANE3 (n p : Nat) : Fld := ⟨0x800820 + n * 0x10000 + p * 0x4, 12, 4, 6⟩
def REGION_PORT_SLOTS_PLANE2 (n p : Nat) : Fld := ⟨0x800820 + n * 0x10000 + p * 0x4, 8, 4, 6⟩
def REGION_PORT_SLOTS_PLANE1 (n p : Nat) : Fld := ⟨0x800820 + n * 0x10000 + p * 0x4, 4, 4, 6⟩
def REGION_PORT_SLOTS_PLANE0 (n p : Nat) : Fld := ⟨0x800820 + n * 0x10000 + p * 0x4, 0, 4, 6⟩
def REGION_PORT_STAT_PARTIAL_DROP (n p : Nat) : Fld := ⟨0x800830 + n * 0x10000 + p * 0x4, 24, 8, 0⟩
def REGION_PORT_STAT_PARKED (n p : Nat) : Fld := ⟨0x800830 + n * 0x10000 + p * 0x4, 16, 6, 0⟩
def REGION_PORT_STAT_INQ (n p : Nat) : Fld := ⟨0x800830 + n * 0x10000 + p * 0x4, 8, 5, 0⟩
def REGION_PORT_STAT_PARK_DROP (n p : Nat) : Fld := ⟨0x800830 + n * 0x10000 + p * 0x4, 2, 6, 0⟩
def REGION_PORT_STAT_PIN_OVERRUN (n p : Nat) : Fld := ⟨0x800830 + n * 0x10000 + p * 0x4, 1, 1, 0⟩
def REGION_PORT_STAT_PIN_UNDERRUN (n p : Nat) : Fld := ⟨0x800830 + n * 0x10000 + p * 0x4, 0, 1, 0⟩
def REGION_LINES_EVT_MERGED (n : Nat) : Fld := ⟨0x800840 + n * 0x10000, 16, 4, 0⟩
def REGION_LINES_EVT_PENDING (n : Nat) : Fld := ⟨0x800840 + n * 0x10000, 8, 4, 0⟩
def REGION_LINES_FLAG (n : Nat) : Fld := ⟨0x800840 + n * 0x10000, 0, 4, 0⟩
def BRAM_ECC_SBE_COUNT (n : Nat) : Fld := ⟨0x800850 + n * 0x10000, 24, 8, 0⟩
def BRAM_ECC_DBE_COUNT (n : Nat) : Fld := ⟨0x800850 + n * 0x10000, 16, 8, 0⟩
def BRAM_ECC_LAST_DBE_BLOCK (n : Nat) : Fld := ⟨0x800850 + n * 0x10000, 8, 8, 0⟩
def BRAM_ECC_PDROP (n : Nat) : Fld := ⟨0x800850 + n * 0x10000, 0, 8, 0⟩

/-! Fields of 03_contexts.md. -/
def PLANE_STATE_P7 (n : Nat) : Fld := ⟨0x401000 + n * 0x4, 28, 4, 0⟩
def PLANE_STATE_P6 (n : Nat) : Fld := ⟨0x401000 + n * 0x4, 24, 4, 0⟩
def PLANE_STATE_P5 (n : Nat) : Fld := ⟨0x401000 + n * 0x4, 20, 4, 0⟩
def PLANE_STATE_P4 (n : Nat) : Fld := ⟨0x401000 + n * 0x4, 16, 4, 0⟩
def PLANE_STATE_P3 (n : Nat) : Fld := ⟨0x401000 + n * 0x4, 12, 4, 0⟩
def PLANE_STATE_P2 (n : Nat) : Fld := ⟨0x401000 + n * 0x4, 8, 4, 0⟩
def PLANE_STATE_P1 (n : Nat) : Fld := ⟨0x401000 + n * 0x4, 4, 4, 0⟩
def PLANE_STATE_P0 (n : Nat) : Fld := ⟨0x401000 + n * 0x4, 0, 4, 0⟩
def PLANE_CMD_ERR : Fld := ⟨0x400100, 31, 1, 0⟩
def PLANE_CMD_BUSY : Fld := ⟨0x400100, 30, 1, 0⟩
def PLANE_CMD_REGION : Fld := ⟨0x400100, 16, 6, 0⟩
def PLANE_CMD_PLANE : Fld := ⟨0x400100, 8, 3, 0⟩
def PLANE_CMD_CMD : Fld := ⟨0x400100, 0, 4, 0⟩
def REGION_CTL_CMD_ERR (n : Nat) : Fld := ⟨0x800000 + n * 0x10000, 31, 1, 0⟩
def REGION_CTL_OWNER (n : Nat) : Fld := ⟨0x800000 + n * 0x10000, 16, 1, 0⟩
def REGION_CTL_PLANE (n : Nat) : Fld := ⟨0x800000 + n * 0x10000, 8, 3, 0⟩
def REGION_CTL_CMD (n : Nat) : Fld := ⟨0x800000 + n * 0x10000, 0, 4, 0⟩
def REGION_STATUS_STATE (n : Nat) : Fld := ⟨0x800004 + n * 0x10000, 29, 3, 0⟩
def REGION_STATUS_HAS_ACTIVE (n : Nat) : Fld := ⟨0x800004 + n * 0x10000, 28, 1, 0⟩
def REGION_STATUS_ACTIVE_PLANE (n : Nat) : Fld := ⟨0x800004 + n * 0x10000, 25, 3, 0⟩
def REGION_STATUS_SHADOW_PLANE (n : Nat) : Fld := ⟨0x800004 + n * 0x10000, 22, 3, 0⟩
def REGION_STATUS_SHADOW_STATE (n : Nat) : Fld := ⟨0x800004 + n * 0x10000, 20, 2, 0⟩
def REGION_STATUS_SHADOW_SPEC (n : Nat) : Fld := ⟨0x800004 + n * 0x10000, 19, 1, 0⟩
def REGION_STATUS_SPILLING (n : Nat) : Fld := ⟨0x800004 + n * 0x10000, 18, 1, 0⟩
def REGION_STATUS_HOLD_SRC (n : Nat) : Fld := ⟨0x800004 + n * 0x10000, 12, 6, 0⟩
def REGION_STATUS_REFUSAL (n : Nat) : Fld := ⟨0x800004 + n * 0x10000, 4, 4, 0⟩
def REGION_SWAPS_COUNT (n : Nat) : Fld := ⟨0x800010 + n * 0x10000, 0, 32, 0⟩
def REGION_FILL_RESULT (n : Nat) : Fld := ⟨0x800008 + n * 0x10000, 28, 4, 0⟩
def REGION_FILL_PLANE (n : Nat) : Fld := ⟨0x800008 + n * 0x10000, 25, 3, 0⟩
def REGION_FILL_CORR (n : Nat) : Fld := ⟨0x800008 + n * 0x10000, 16, 9, 0⟩
def REGION_FILL_TIME (n : Nat) : Fld := ⟨0x800008 + n * 0x10000, 0, 16, 0⟩
def FILL_STAT_IN_FLIGHT : Fld := ⟨0x400000, 26, 6, 0⟩
def FILL_STAT_QUEUED : Fld := ⟨0x400000, 19, 7, 0⟩
def FILL_STAT_MAX_WAIT : Fld := ⟨0x400000, 0, 16, 0⟩
def REGION_FAULT_POLICY (n : Nat) : Fld := ⟨0x80000C + n * 0x10000, 30, 2, 1⟩
def REGION_FAULT_FALLBACK (n : Nat) : Fld := ⟨0x80000C + n * 0x10000, 27, 3, 0⟩
def REGION_FAULT_CAUSE (n : Nat) : Fld := ⟨0x80000C + n * 0x10000, 20, 4, 0⟩
def REGION_FAULT_FAULT_PLANE (n : Nat) : Fld := ⟨0x80000C + n * 0x10000, 17, 3, 0⟩
def REGION_FAULT_FRAME (n : Nat) : Fld := ⟨0x80000C + n * 0x10000, 5, 12, 0⟩
def REGION_FAULT_DBE_COUNT (n : Nat) : Fld := ⟨0x80000C + n * 0x10000, 0, 4, 0⟩

/-! Fields of 04_ticks_and_sequencer.md. -/
def TICK_CTL_CFG_ERR : Fld := ⟨0x200000, 31, 1, 0⟩
def TICK_CTL_IN_LOST : Fld := ⟨0x200000, 30, 1, 0⟩
def TICK_CTL_SHORT : Fld := ⟨0x200000, 29, 1, 0⟩
def TICK_CTL_APPLY_PENDING : Fld := ⟨0x200000, 8, 1, 0⟩
def TICK_CTL_RUNNING : Fld := ⟨0x200000, 7, 1, 0⟩
def TICK_CTL_APPLY : Fld := ⟨0x200000, 4, 1, 0⟩
def TICK_CTL_OUT_EN : Fld := ⟨0x200000, 3, 1, 0⟩
def TICK_CTL_SRC : Fld := ⟨0x200000, 1, 2, 0⟩
def TICK_CTL_EN : Fld := ⟨0x200000, 0, 1, 0⟩
def TICK_LAYOUT_NSLOT_M1 : Fld := ⟨0x200004, 28, 4, 0⟩
def TICK_LAYOUT_PERIOD : Fld := ⟨0x200004, 0, 24, 3125⟩
def TICK_LAYOUT_NEXT_NSLOT_M1 : Fld := ⟨0x200008, 28, 4, 0⟩
def TICK_LAYOUT_NEXT_PERIOD : Fld := ⟨0x200008, 0, 24, 3125⟩
def SLOT_START_NEXT_START (k : Nat) : Fld := ⟨0x200040 + k * 0x4, 0, 24, 0⟩
def SLOT_START_START (k : Nat) : Fld := ⟨0x200080 + k * 0x4, 0, 24, 0⟩
def TICK_COUNT_LO_COUNT : Fld := ⟨0x200010, 0, 32, 0⟩
def TICK_COUNT_HI_COUNT : Fld := ⟨0x200014, 0, 32, 0⟩
def TICK_STAT_SLOT : Fld := ⟨0x200018, 28, 4, 0⟩
def TICK_STAT_POS : Fld := ⟨0x200018, 0, 24, 0⟩
def REGION_OVR_OVR_CLR (n : Nat) : Fld := ⟨0x800014 + n * 0x10000, 31, 1, 0⟩
def REGION_OVR_POLICY (n : Nat) : Fld := ⟨0x800014 + n * 0x10000, 24, 2, 0⟩
def REGION_OVR_COUNT (n : Nat) : Fld := ⟨0x800014 + n * 0x10000, 16, 8, 0⟩
def REGION_OVR_SLOTS (n : Nat) : Fld := ⟨0x800014 + n * 0x10000, 0, 16, 0⟩
def OVR_MAP_OVR (i : Nat) : Fld := ⟨0xC00100 + i * 0x4, 0, 32, 0⟩
def IMEM_LO_WORD (w : Nat) : Fld := ⟨0x300000 + w * 0x8, 0, 32, 0⟩
def IMEM_HI_WORD (w : Nat) : Fld := ⟨0x300004 + w * 0x8, 0, 32, 0⟩
def SEQ_FLAGS_FLAG (i : Nat) : Fld := ⟨0x200100 + i * 0x4, 0, 32, 0⟩
def SEQ_THR_CTL_CMD_ERR (t : Nat) : Fld := ⟨0x201000 + t * 0x100, 31, 1, 0⟩
def SEQ_THR_CTL_CLR_FAULT (t : Nat) : Fld := ⟨0x201000 + t * 0x100, 3, 1, 0⟩
def SEQ_THR_CTL_RESTART (t : Nat) : Fld := ⟨0x201000 + t * 0x100, 2, 1, 0⟩
def SEQ_THR_CTL_STOP (t : Nat) : Fld := ⟨0x201000 + t * 0x100, 1, 1, 0⟩
def SEQ_THR_CTL_START (t : Nat) : Fld := ⟨0x201000 + t * 0x100, 0, 1, 0⟩
def SEQ_THR_STATUS_STATE (t : Nat) : Fld := ⟨0x201004 + t * 0x100, 29, 3, 0⟩
def SEQ_THR_STATUS_LOCKED (t : Nat) : Fld := ⟨0x201004 + t * 0x100, 28, 1, 0⟩
def SEQ_THR_STATUS_CAUSE (t : Nat) : Fld := ⟨0x201004 + t * 0x100, 24, 4, 0⟩
def SEQ_THR_STATUS_RUNAHEAD (t : Nat) : Fld := ⟨0x201004 + t * 0x100, 15, 5, 0⟩
def SEQ_THR_STATUS_PC (t : Nat) : Fld := ⟨0x201004 + t * 0x100, 0, 15, 0⟩
def SEQ_THR_START_START_PC (t : Nat) : Fld := ⟨0x201008 + t * 0x100, 0, 15, 0⟩
def SEQ_THR_OVR_POLICY (t : Nat) : Fld := ⟨0x20100C + t * 0x100, 30, 2, 0⟩
def SEQ_THR_OVR_OWED (t : Nat) : Fld := ⟨0x20100C + t * 0x100, 29, 1, 0⟩
def SEQ_THR_OVR_SWAP_MISS (t : Nat) : Fld := ⟨0x20100C + t * 0x100, 16, 8, 0⟩
def SEQ_THR_OVR_MISSED (t : Nat) : Fld := ⟨0x20100C + t * 0x100, 8, 8, 0⟩
def SEQ_THR_OVR_COUNT (t : Nat) : Fld := ⟨0x20100C + t * 0x100, 0, 8, 0⟩
def SEQ_THR_SPEC_MISPREDICT (t : Nat) : Fld := ⟨0x201010 + t * 0x100, 24, 8, 0⟩
def SEQ_THR_SPEC_SQUASHED_PRE (t : Nat) : Fld := ⟨0x201010 + t * 0x100, 16, 8, 0⟩
def SEQ_THR_SPEC_RESTORE_FILLS (t : Nat) : Fld := ⟨0x201010 + t * 0x100, 8, 8, 0⟩
def SEQ_THR_SPEC_LATE_ARM (t : Nat) : Fld := ⟨0x201010 + t * 0x100, 0, 8, 0⟩
def SEQ_WDT_EXPIRED (t : Nat) : Fld := ⟨0x201014 + t * 0x100, 31, 1, 0⟩
def SEQ_WDT_EN (t : Nat) : Fld := ⟨0x201014 + t * 0x100, 30, 1, 0⟩
def SEQ_WDT_ACTION (t : Nat) : Fld := ⟨0x201014 + t * 0x100, 28, 2, 0⟩
def SEQ_WDT_TICKS (t : Nat) : Fld := ⟨0x201014 + t * 0x100, 0, 8, 1⟩
def SEQ_WDT_CNT_REMAIN (t : Nat) : Fld := ⟨0x201018 + t * 0x100, 0, 32, 0⟩

/-! Fields of 05_paeri_isa.md. -/
def SEQ_THR_POSTED_COUNT (t : Nat) : Fld := ⟨0x201020 + t * 0x100, 24, 8, 0⟩
def SEQ_THR_POSTED_CODE (t : Nat) : Fld := ⟨0x201020 + t * 0x100, 20, 4, 0⟩
def SEQ_THR_POSTED_PC (t : Nat) : Fld := ⟨0x201020 + t * 0x100, 0, 15, 0⟩
def SEQ_THR_REFUSE_COUNT (t : Nat) : Fld := ⟨0x20101C + t * 0x100, 24, 8, 0⟩
def SEQ_THR_REFUSE_CODE (t : Nat) : Fld := ⟨0x20101C + t * 0x100, 20, 4, 0⟩
def SEQ_THR_REFUSE_OP (t : Nat) : Fld := ⟨0x20101C + t * 0x100, 17, 3, 0⟩
def SEQ_THR_REFUSE_AT_CLAMP (t : Nat) : Fld := ⟨0x20101C + t * 0x100, 16, 1, 0⟩
def SEQ_THR_REFUSE_TARGET (t : Nat) : Fld := ⟨0x20101C + t * 0x100, 8, 7, 0⟩
def SEQ_BAR_CFG_CFG_ERR (b : Nat) : Fld := ⟨0x202000 + b * 0x4, 31, 1, 0⟩
def SEQ_BAR_CFG_GEN (b : Nat) : Fld := ⟨0x202000 + b * 0x4, 27, 1, 0⟩
def SEQ_BAR_CFG_ARRIVED (b : Nat) : Fld := ⟨0x202000 + b * 0x4, 20, 4, 0⟩
def SEQ_BAR_CFG_REMOTE (b : Nat) : Fld := ⟨0x202000 + b * 0x4, 8, 1, 0⟩
def SEQ_BAR_CFG_THREADS (b : Nat) : Fld := ⟨0x202000 + b * 0x4, 0, 4, 0⟩

/-! Fields of 06_images.md. -/
def DEVICE_ID_PART : Fld := ⟨0x0, 16, 16, 2070⟩
def DEVICE_ID_STEPPING : Fld := ⟨0x0, 12, 4, 1⟩
def DEVICE_ID_SPEED : Fld := ⟨0x0, 8, 4, 0⟩
def DEVICE_ID_TEMP : Fld := ⟨0x0, 4, 4, 0⟩
def IMG_CTL_ABORT : Fld := ⟨0x100200, 31, 1, 0⟩
def IMG_CTL_IDLE_TIMEOUT : Fld := ⟨0x100200, 0, 14, 100⟩
def IMG_STATUS_STATE : Fld := ⟨0x100204, 28, 4, 0⟩
def IMG_STATUS_SOURCE : Fld := ⟨0x100204, 26, 2, 0⟩
def IMG_STATUS_STARTED : Fld := ⟨0x100204, 25, 1, 0⟩
def IMG_STATUS_SV_NOT_ADV : Fld := ⟨0x100204, 24, 1, 0⟩
def IMG_STATUS_ERROR : Fld := ⟨0x100204, 19, 5, 0⟩
def IMG_STATUS_EXCESS : Fld := ⟨0x100204, 18, 1, 0⟩
def IMG_STATUS_SECTION : Fld := ⟨0x100204, 0, 16, 0⟩
def IMG_BYTES_LO_COUNT : Fld := ⟨0x100208, 0, 32, 0⟩
def IMG_BYTES_HI_COUNT : Fld := ⟨0x10020C, 0, 32, 0⟩
def IMG_SEC_FLOOR_FLOOR : Fld := ⟨0x100210, 0, 32, 0⟩
def IMG_APPLY_COUNT : Fld := ⟨0x100214, 24, 8, 0⟩
def IMG_APPLY_CODE : Fld := ⟨0x100214, 20, 4, 0⟩
def IMG_APPLY_SECTION : Fld := ⟨0x100214, 0, 16, 0⟩

/-! Fields of 07_patrol.md. -/
def PATROL_CTL_EN : Fld := ⟨0x400200, 31, 1, 1⟩
def PATROL_CTL_FRZ : Fld := ⟨0x400200, 30, 1, 0⟩
def PATROL_CTL_PERIOD : Fld := ⟨0x400200, 0, 14, 90⟩
def PATROL_STAT_RUNNING : Fld := ⟨0x400204, 31, 1, 0⟩
def PATROL_STAT_ACTIVE_DBE : Fld := ⟨0x400204, 30, 1, 0⟩
def PATROL_STAT_STORED_DBE : Fld := ⟨0x400204, 29, 1, 0⟩
def PATROL_STAT_UNREPAIRED : Fld := ⟨0x400204, 28, 1, 0⟩
def PATROL_STAT_DROPPED : Fld := ⟨0x400204, 27, 1, 0⟩
def PATROL_STAT_PASSES : Fld := ⟨0x400204, 0, 16, 0⟩
def PATROL_SPOS_INDEX : Fld := ⟨0x400208, 0, 21, 0⟩
def PATROL_APOS_INDEX : Fld := ⟨0x40020C, 0, 18, 0⟩
def PATROL_SBE_SBE_STORED : Fld := ⟨0x400210, 16, 16, 0⟩
def PATROL_SBE_SBE_ACTIVE : Fld := ⟨0x400210, 0, 16, 0⟩
def PATROL_ERR_DBE_STORED : Fld := ⟨0x400214, 24, 8, 0⟩
def PATROL_ERR_DBE_ACTIVE : Fld := ⟨0x400214, 16, 8, 0⟩
def PATROL_ERR_SUPERSEDED : Fld := ⟨0x400214, 8, 8, 0⟩
def PATROL_ERR_QUEUE_DROP : Fld := ⟨0x400214, 0, 8, 0⟩
def PATROL_LAST_ACTIVE : Fld := ⟨0x400218, 31, 1, 0⟩
def PATROL_LAST_REGION : Fld := ⟨0x400218, 25, 6, 0⟩
def PATROL_LAST_PLANE : Fld := ⟨0x400218, 22, 3, 0⟩
def PATROL_LAST_FRAME : Fld := ⟨0x400218, 10, 12, 0⟩
def PATROL_INJECT_ARM : Fld := ⟨0x40021C, 31, 1, 0⟩
def PATROL_INJECT_TARGET : Fld := ⟨0x40021C, 30, 1, 0⟩
def PATROL_INJECT_DOUBLE : Fld := ⟨0x40021C, 29, 1, 0⟩
def PATROL_INJECT_REGION : Fld := ⟨0x40021C, 23, 6, 0⟩
def PATROL_INJECT_PLANE : Fld := ⟨0x40021C, 20, 3, 0⟩
def PATROL_INJECT_FRAME : Fld := ⟨0x40021C, 8, 12, 0⟩

/-! Fields of 08_olicor_network.md. -/
def NET_CFG_TMO : Fld := ⟨0x1000000, 8, 20, 100⟩
def NET_CFG_DEV_NUM : Fld := ⟨0x1000000, 0, 8, 0⟩
def NET_EPOCH_ERR : Fld := ⟨0x1000004, 31, 1, 0⟩
def NET_EPOCH_STUCK : Fld := ⟨0x1000004, 30, 1, 0⟩
def NET_EPOCH_DRAINING : Fld := ⟨0x1000004, 2, 1, 0⟩
def NET_EPOCH_CUR : Fld := ⟨0x1000004, 1, 1, 0⟩
def NET_EPOCH_FLIP : Fld := ⟨0x1000004, 0, 1, 0⟩
def REMOTE_WIN_EN (w : Nat) : Fld := ⟨0x1000100 + w * 0x4, 31, 1, 0⟩
def REMOTE_WIN_DEV (w : Nat) : Fld := ⟨0x1000100 + w * 0x4, 16, 8, 0⟩
def REMOTE_WIN_BASE (w : Nat) : Fld := ⟨0x1000100 + w * 0x4, 0, 5, 0⟩
def DEV_ROUTE_EN (d : Nat) : Fld := ⟨0x1000400 + d * 0x4, 31, 1, 0⟩
def DEV_ROUTE_GROUP (d : Nat) : Fld := ⟨0x1000400 + d * 0x4, 0, 5, 0⟩
def WS_ISOL_ISOLATED (n : Nat) : Fld := ⟨0x1100000 + n * 0x1000, 0, 16, 0⟩
def WS_STAT_RT_ERR (n : Nat) : Fld := ⟨0x1100004 + n * 0x1000, 31, 1, 0⟩
def WS_STAT_PARKED (n : Nat) : Fld := ⟨0x1100004 + n * 0x1000, 24, 5, 0⟩
def WS_STAT_TMO (n : Nat) : Fld := ⟨0x1100004 + n * 0x1000, 16, 8, 0⟩
def WS_STAT_LATE_DROP (n : Nat) : Fld := ⟨0x1100004 + n * 0x1000, 8, 8, 0⟩
def WS_STAT_ABORTED (n : Nat) : Fld := ⟨0x1100004 + n * 0x1000, 0, 8, 0⟩
def WS_RT_D7 (n b i : Nat) : Fld := ⟨0x1100100 + n * 0x1000 + b * 0x80 + i * 0x4, 28, 4, (wsRouteReset n (8 * i + 7))⟩
def WS_RT_D6 (n b i : Nat) : Fld := ⟨0x1100100 + n * 0x1000 + b * 0x80 + i * 0x4, 24, 4, (wsRouteReset n (8 * i + 6))⟩
def WS_RT_D5 (n b i : Nat) : Fld := ⟨0x1100100 + n * 0x1000 + b * 0x80 + i * 0x4, 20, 4, (wsRouteReset n (8 * i + 5))⟩
def WS_RT_D4 (n b i : Nat) : Fld := ⟨0x1100100 + n * 0x1000 + b * 0x80 + i * 0x4, 16, 4, (wsRouteReset n (8 * i + 4))⟩
def WS_RT_D3 (n b i : Nat) : Fld := ⟨0x1100100 + n * 0x1000 + b * 0x80 + i * 0x4, 12, 4, (wsRouteReset n (8 * i + 3))⟩
def WS_RT_D2 (n b i : Nat) : Fld := ⟨0x1100100 + n * 0x1000 + b * 0x80 + i * 0x4, 8, 4, (wsRouteReset n (8 * i + 2))⟩
def WS_RT_D1 (n b i : Nat) : Fld := ⟨0x1100100 + n * 0x1000 + b * 0x80 + i * 0x4, 4, 4, (wsRouteReset n (8 * i + 1))⟩
def WS_RT_D0 (n b i : Nat) : Fld := ⟨0x1100100 + n * 0x1000 + b * 0x80 + i * 0x4, 0, 4, (wsRouteReset n (8 * i + 0))⟩
def COURIER_CTL_GO_ERR (c : Nat) : Fld := ⟨0x1800000 + c * 0x100, 31, 1, 0⟩
def COURIER_CTL_ABORT (c : Nat) : Fld := ⟨0x1800000 + c * 0x100, 1, 1, 0⟩
def COURIER_CTL_GO (c : Nat) : Fld := ⟨0x1800000 + c * 0x100, 0, 1, 0⟩
def COURIER_STAT_STATE (c : Nat) : Fld := ⟨0x1800004 + c * 0x100, 30, 2, 0⟩
def COURIER_STAT_CODE (c : Nat) : Fld := ⟨0x1800004 + c * 0x100, 26, 4, 0⟩
def COURIER_STAT_POISONED (c : Nat) : Fld := ⟨0x1800004 + c * 0x100, 25, 1, 0⟩
def COURIER_STAT_OUTSTANDING (c : Nat) : Fld := ⟨0x1800004 + c * 0x100, 19, 6, 0⟩
def COURIER_STAT_DESCS (c : Nat) : Fld := ⟨0x1800004 + c * 0x100, 0, 16, 0⟩
def COURIER_DESC_LO_ADDR (c : Nat) : Fld := ⟨0x1800008 + c * 0x100, 0, 32, 0⟩
def COURIER_DESC_HI_ADDR (c : Nat) : Fld := ⟨0x180000C + c * 0x100, 0, 32, 0⟩
def COURIER_FAIL_LO_ADDR (c : Nat) : Fld := ⟨0x1800010 + c * 0x100, 0, 32, 0⟩
def COURIER_FAIL_HI_ADDR (c : Nat) : Fld := ⟨0x1800014 + c * 0x100, 0, 32, 0⟩
def COURIER_MOVED_LO_COUNT (c : Nat) : Fld := ⟨0x1800018 + c * 0x100, 0, 32, 0⟩
def COURIER_MOVED_HI_COUNT (c : Nat) : Fld := ⟨0x180001C + c * 0x100, 0, 32, 0⟩

/-! Fields of 09_larder_scratchpads.md. -/
def LARDER_CTL_ERR : Fld := ⟨0x2000000, 31, 1, 0⟩
def LARDER_CTL_BUSY : Fld := ⟨0x2000000, 30, 1, 0⟩
def LARDER_CTL_DONE : Fld := ⟨0x2000000, 29, 1, 0⟩
def LARDER_CTL_WB_LOST : Fld := ⟨0x2000000, 28, 1, 0⟩
def LARDER_CTL_KEY_ID : Fld := ⟨0x2000000, 16, 6, 0⟩
def LARDER_CTL_SLICE : Fld := ⟨0x2000000, 8, 7, 0⟩
def LARDER_CTL_NEW_SALT : Fld := ⟨0x2000000, 7, 1, 0⟩
def LARDER_CTL_SCOPE : Fld := ⟨0x2000000, 4, 3, 0⟩
def LARDER_CTL_OP : Fld := ⟨0x2000000, 0, 4, 0⟩
def LARDER_SET_MEMBER (i : Nat) : Fld := ⟨0x2000010 + i * 4, 0, 32, 0⟩
def LARDER_SET_NEXT_MEMBER (i : Nat) : Fld := ⟨0x2000020 + i * 4, 0, 32, 0⟩
def LARDER_IMBAL_CFG_EN : Fld := ⟨0x2000030, 31, 1, 1⟩
def LARDER_IMBAL_CFG_THRESH : Fld := ⟨0x2000030, 16, 12, 48⟩
def LARDER_IMBAL_CFG_WINDOW : Fld := ⟨0x2000030, 0, 16, 1000⟩
def LARDER_IMBAL_STAT_SKEW_FLAG : Fld := ⟨0x2000034, 31, 1, 0⟩
def LARDER_IMBAL_STAT_MAX_SLICE : Fld := ⟨0x2000034, 16, 7, 0⟩
def LARDER_IMBAL_STAT_SKEW : Fld := ⟨0x2000034, 0, 12, 0⟩
def LARDER_WB_FAIL_LO_ADDR : Fld := ⟨0x2000038, 0, 32, 0⟩
def LARDER_WB_FAIL_HI_ADDR : Fld := ⟨0x200003C, 0, 32, 0⟩
def LARDER_SLICE_CNT_COUNT (s : Nat) : Fld := ⟨0x2001000 + (s / 64) * 0x800000 + (s % 64) * 4, 0, 32, 0⟩
def BANK_OWNER_CFG_ERR (b : Nat) : Fld := ⟨0x3000000 + (b / 1024) * 0x800000 + (b % 1024) * 0x20, 31, 1, 0⟩
def BANK_OWNER_PENDING (b : Nat) : Fld := ⟨0x3000000 + (b / 1024) * 0x800000 + (b % 1024) * 0x20, 30, 1, 0⟩
def BANK_OWNER_KIND (b : Nat) : Fld := ⟨0x3000000 + (b / 1024) * 0x800000 + (b % 1024) * 0x20, 8, 4, 0⟩
def BANK_OWNER_ID (b : Nat) : Fld := ⟨0x3000000 + (b / 1024) * 0x800000 + (b % 1024) * 0x20, 0, 6, 0⟩
def BANK_CFG_CFG_ERR (b : Nat) : Fld := ⟨0x3000004 + (b / 1024) * 0x800000 + (b % 1024) * 0x20, 31, 1, 0⟩
def BANK_CFG_B_MODE (b : Nat) : Fld := ⟨0x3000004 + (b / 1024) * 0x800000 + (b % 1024) * 0x20, 14, 2, 0⟩
def BANK_CFG_B_WIDTH (b : Nat) : Fld := ⟨0x3000004 + (b / 1024) * 0x800000 + (b % 1024) * 0x20, 12, 2, 3⟩
def BANK_CFG_A_MODE (b : Nat) : Fld := ⟨0x3000004 + (b / 1024) * 0x800000 + (b % 1024) * 0x20, 6, 2, 0⟩
def BANK_CFG_A_WIDTH (b : Nat) : Fld := ⟨0x3000004 + (b / 1024) * 0x800000 + (b % 1024) * 0x20, 4, 2, 3⟩
def BANK_WIN_A_LEN_W (b : Nat) : Fld := ⟨0x3000008 + (b / 1024) * 0x800000 + (b % 1024) * 0x20, 17, 15, 16384⟩
def BANK_WIN_A_BASE_W (b : Nat) : Fld := ⟨0x3000008 + (b / 1024) * 0x800000 + (b % 1024) * 0x20, 0, 14, 0⟩
def BANK_WIN_B_LEN_W (b : Nat) : Fld := ⟨0x300000C + (b / 1024) * 0x800000 + (b % 1024) * 0x20, 17, 15, 16384⟩
def BANK_WIN_B_BASE_W (b : Nat) : Fld := ⟨0x300000C + (b / 1024) * 0x800000 + (b % 1024) * 0x20, 0, 14, 0⟩
def BANK_PWR_AUTO_WAKE (b : Nat) : Fld := ⟨0x3000010 + (b / 1024) * 0x800000 + (b % 1024) * 0x20, 5, 1, 1⟩
def BANK_PWR_STATE (b : Nat) : Fld := ⟨0x3000010 + (b / 1024) * 0x800000 + (b % 1024) * 0x20, 2, 2, 0⟩
def BANK_PWR_REQ (b : Nat) : Fld := ⟨0x3000010 + (b / 1024) * 0x800000 + (b % 1024) * 0x20, 0, 2, 0⟩
def BANK_STAT_BUSY_A (b : Nat) : Fld := ⟨0x3000014 + (b / 1024) * 0x800000 + (b % 1024) * 0x20, 31, 1, 0⟩
def BANK_STAT_BUSY_B (b : Nat) : Fld := ⟨0x3000014 + (b / 1024) * 0x800000 + (b % 1024) * 0x20, 30, 1, 0⟩
def BANK_STAT_CONFLICT (b : Nat) : Fld := ⟨0x3000014 + (b / 1024) * 0x800000 + (b % 1024) * 0x20, 16, 8, 0⟩
def BANK_STAT_DENIED (b : Nat) : Fld := ⟨0x3000014 + (b / 1024) * 0x800000 + (b % 1024) * 0x20, 8, 8, 0⟩

/-! Fields of 10_stored_data_protection.md. -/
def PORTER_CTL_EN (d : Nat) : Fld := ⟨0x2004000 + d * 0x800000 + 0x0, 31, 1, 1⟩
def PORTER_CTL_FRZ (d : Nat) : Fld := ⟨0x2004000 + d * 0x800000 + 0x0, 30, 1, 0⟩
def PORTER_CTL_PASS (d : Nat) : Fld := ⟨0x2004000 + d * 0x800000 + 0x0, 0, 16, 3600⟩
def PORTER_STAT_RUNNING (d : Nat) : Fld := ⟨0x2004000 + d * 0x800000 + 0x4, 31, 1, 0⟩
def PORTER_STAT_LATE (d : Nat) : Fld := ⟨0x2004000 + d * 0x800000 + 0x4, 30, 1, 0⟩
def PORTER_STAT_PASSES (d : Nat) : Fld := ⟨0x2004000 + d * 0x800000 + 0x4, 0, 16, 0⟩
def PORTER_POS_UNIT (d : Nat) : Fld := ⟨0x2004000 + d * 0x800000 + 0x8, 0, 23, 0⟩
def PROT_CFG_THRESH (d : Nat) : Fld := ⟨0x2004000 + d * 0x800000 + 0xC, 0, 8, 16⟩
def PROT_CNT_SBE (d : Nat) : Fld := ⟨0x2004000 + d * 0x800000 + 0x10, 16, 16, 0⟩
def PROT_CNT_UE (d : Nat) : Fld := ⟨0x2004000 + d * 0x800000 + 0x10, 8, 8, 0⟩
def PROT_CNT_MARKED (d : Nat) : Fld := ⟨0x2004000 + d * 0x800000 + 0x10, 0, 8, 0⟩
def PROT_RECOV_RECOVERED (d : Nat) : Fld := ⟨0x2004000 + d * 0x800000 + 0x14, 24, 8, 0⟩
def PROT_RECOV_PSTORE (d : Nat) : Fld := ⟨0x2004000 + d * 0x800000 + 0x14, 16, 8, 0⟩
def PROT_RECOV_PORTER_UE (d : Nat) : Fld := ⟨0x2004000 + d * 0x800000 + 0x14, 8, 8, 0⟩
def PROT_RECOV_TRACK_DROP (d : Nat) : Fld := ⟨0x2004000 + d * 0x800000 + 0x14, 0, 8, 0⟩
def PROT_LAST_LO_ADDR (d : Nat) : Fld := ⟨0x2004000 + d * 0x800000 + 0x18, 0, 32, 0⟩
def PROT_LAST_HI_ADDR (d : Nat) : Fld := ⟨0x2004000 + d * 0x800000 + 0x1C, 0, 32, 0⟩
def PROT_LAST_INFO_FOUND_BY (d : Nat) : Fld := ⟨0x2004000 + d * 0x800000 + 0x20, 30, 2, 0⟩
def PROT_LAST_INFO_BYTES (d : Nat) : Fld := ⟨0x2004000 + d * 0x800000 + 0x20, 20, 8, 0⟩
def PROT_LAST_INFO_SRC_NODE (d : Nat) : Fld := ⟨0x2004000 + d * 0x800000 + 0x20, 0, 12, 0⟩
def PROT_HARD_REPAIRED (d : Nat) : Fld := ⟨0x2004000 + d * 0x800000 + 0x24, 24, 8, 0⟩
def PROT_HARD_UNREPAIRED (d : Nat) : Fld := ⟨0x2004000 + d * 0x800000 + 0x24, 16, 8, 0⟩
def PROT_HARD_NOT_SAVED (d : Nat) : Fld := ⟨0x2004000 + d * 0x800000 + 0x24, 15, 1, 0⟩
def PROT_FLIP_CTL_ARM (d : Nat) : Fld := ⟨0x2004000 + d * 0x800000 + 0x28, 31, 1, 0⟩
def PROT_FLIP_CTL_KIND (d : Nat) : Fld := ⟨0x2004000 + d * 0x800000 + 0x28, 30, 1, 0⟩
def PROT_FLIP_CTL_UNIT (d : Nat) : Fld := ⟨0x2004000 + d * 0x800000 + 0x28, 8, 11, 0⟩
def PROT_FLIP_CTL_BYTE (d : Nat) : Fld := ⟨0x2004000 + d * 0x800000 + 0x28, 0, 3, 0⟩
def PROT_FLIP_MASK_CHECK (d : Nat) : Fld := ⟨0x2004000 + d * 0x800000 + 0x2C, 8, 5, 0⟩
def PROT_FLIP_MASK_DATA (d : Nat) : Fld := ⟨0x2004000 + d * 0x800000 + 0x2C, 0, 8, 0⟩
def TRACK_STAT_DROP (d u : Nat) : Fld := ⟨0x2004000 + d * 0x800000 + 0x100 + u * 4, 24, 8, 0⟩
def TRACK_STAT_IN_USE (d u : Nat) : Fld := ⟨0x2004000 + d * 0x800000 + 0x100 + u * 4, 16, 7, 0⟩
def TRACK_STAT_QUEUED (d u : Nat) : Fld := ⟨0x2004000 + d * 0x800000 + 0x100 + u * 4, 8, 7, 0⟩
def TRACK_STAT_HARD (d u : Nat) : Fld := ⟨0x2004000 + d * 0x800000 + 0x100 + u * 4, 0, 7, 0⟩

/-! Fields of 11_sdram_encryption.md. -/
def SD_CFG_CFG_ERR : Fld := ⟨0x4000000, 31, 1, 0⟩
def SD_CFG_RATE : Fld := ⟨0x4000000, 24, 3, 4⟩
def SD_CFG_TWO_MOD : Fld := ⟨0x4000000, 23, 1, 0⟩
def SD_CFG_DENSITY : Fld := ⟨0x4000000, 21, 2, 0⟩
def SD_CFG_RANKS_M1 : Fld := ⟨0x4000000, 19, 2, 0⟩
def SD_CFG_POP : Fld := ⟨0x4000000, 0, 12, 0⟩
def SD_SCRUB_EN : Fld := ⟨0x4000004, 31, 1, 1⟩
def SD_SCRUB_LATE : Fld := ⟨0x4000004, 30, 1, 0⟩
def SD_SCRUB_PERIOD : Fld := ⟨0x4000004, 0, 8, 24⟩
def MKEY_CMD_ERR : Fld := ⟨0x4000010, 31, 1, 0⟩
def MKEY_CMD_BUSY : Fld := ⟨0x4000010, 30, 1, 0⟩
def MKEY_CMD_DONE : Fld := ⟨0x4000010, 29, 1, 0⟩
def MKEY_CMD_KEY_ID : Fld := ⟨0x4000010, 8, 6, 0⟩
def MKEY_CMD_CMD : Fld := ⟨0x4000010, 0, 4, 0⟩
def MKEY_STATE_ID (i : Nat) : Fld := ⟨0x4000020 + i * 0x4, 0, 32, 0⟩
def SD_KEYTAG_COUNT : Fld := ⟨0x4000040, 16, 16, 0⟩
def SD_KEYTAG_RETIRED_HIT : Fld := ⟨0x4000040, 0, 16, 0⟩
def SD_KEYTAG_INFO_EXPECTED : Fld := ⟨0x4000044, 16, 6, 0⟩
def SD_KEYTAG_INFO_FOUND : Fld := ⟨0x4000044, 0, 16, 0⟩
def SD_KEYTAG_ADDR_LO_ADDR : Fld := ⟨0x4000048, 0, 32, 0⟩
def SD_KEYTAG_ADDR_HI_ADDR : Fld := ⟨0x400004C, 0, 32, 0⟩
def MKEY_WIN_BASE_EN (w : Nat) : Fld := ⟨0x4000200 + w * 0x8, 31, 1, 0⟩
def MKEY_WIN_BASE_CFG_ERR (w : Nat) : Fld := ⟨0x4000200 + w * 0x8, 30, 1, 0⟩
def MKEY_WIN_BASE_KEY_ID (w : Nat) : Fld := ⟨0x4000200 + w * 0x8, 16, 6, 0⟩
def MKEY_WIN_BASE_BASE (w : Nat) : Fld := ⟨0x4000200 + w * 0x8, 0, 14, 0⟩
def MKEY_WIN_LIM_LIM (w : Nat) : Fld := ⟨0x4000204 + w * 0x8, 0, 14, 0⟩
def SD_CH_CTL_CMD_ERR (c : Nat) : Fld := ⟨0x4001000 + c * 0x100, 31, 1, 0⟩
def SD_CH_CTL_STATE (c : Nat) : Fld := ⟨0x4001000 + c * 0x100, 28, 3, 0⟩
def SD_CH_CTL_FRZ (c : Nat) : Fld := ⟨0x4001000 + c * 0x100, 27, 1, 0⟩
def SD_CH_CTL_CMD (c : Nat) : Fld := ⟨0x4001000 + c * 0x100, 0, 4, 0⟩
def SD_CH_STAT_CE (c : Nat) : Fld := ⟨0x4001004 + c * 0x100, 24, 8, 0⟩
def SD_CH_STAT_UE (c : Nat) : Fld := ⟨0x4001004 + c * 0x100, 16, 8, 0⟩
def SD_CH_STAT_REFRESH_X2 (c : Nat) : Fld := ⟨0x4001004 + c * 0x100, 15, 1, 0⟩
def SD_CH_STAT_TRAIN_STEP (c : Nat) : Fld := ⟨0x4001004 + c * 0x100, 0, 4, 0⟩
def SD_CH_ERR_RANK (c : Nat) : Fld := ⟨0x4001008 + c * 0x100, 30, 2, 0⟩
def SD_CH_ERR_SUB (c : Nat) : Fld := ⟨0x4001008 + c * 0x100, 29, 1, 0⟩
def SD_CH_ERR_DEVICE (c : Nat) : Fld := ⟨0x4001008 + c * 0x100, 25, 4, 0⟩

/-! Fields of 12_lanes_links.md. -/
def LINK_CTL_CFG_ERR (g : Nat) : Fld := ⟨0x5000000 + g * 0x100, 31, 1, 0⟩
def LINK_CTL_RETRAIN (g : Nat) : Fld := ⟨0x5000000 + g * 0x100, 30, 1, 0⟩
def LINK_CTL_AUTO_RETRAIN (g : Nat) : Fld := ⟨0x5000000 + g * 0x100, 11, 1, 1⟩
def LINK_CTL_TICK_TX (g : Nat) : Fld := ⟨0x5000000 + g * 0x100, 10, 1, 0⟩
def LINK_CTL_SSC (g : Nat) : Fld := ⟨0x5000000 + g * 0x100, 9, 1, 0⟩
def LINK_CTL_RATE (g : Nat) : Fld := ⟨0x5000000 + g * 0x100, 6, 2, 0⟩
def LINK_CTL_WIDTH (g : Nat) : Fld := ⟨0x5000000 + g * 0x100, 2, 3, 2⟩
def LINK_CTL_MODE (g : Nat) : Fld := ⟨0x5000000 + g * 0x100, 0, 2, 0⟩
def LINK_STAT_STATE (g : Nat) : Fld := ⟨0x5000004 + g * 0x100, 29, 3, 0⟩
def LINK_STAT_CAUSE (g : Nat) : Fld := ⟨0x5000004 + g * 0x100, 25, 4, 0⟩
def LINK_STAT_REVERSED (g : Nat) : Fld := ⟨0x5000004 + g * 0x100, 24, 1, 0⟩
def LINK_STAT_PARTNER_DEV (g : Nat) : Fld := ⟨0x5000004 + g * 0x100, 16, 8, 0⟩
def LINK_STAT_POL_INV (g : Nat) : Fld := ⟨0x5000004 + g * 0x100, 8, 8, 0⟩
def LINK_STAT_LOCKED (g : Nat) : Fld := ⟨0x5000004 + g * 0x100, 0, 8, 0⟩
def LINK_ERR_CRC_ERR (g : Nat) : Fld := ⟨0x5000008 + g * 0x100, 24, 8, 0⟩
def LINK_ERR_REPLAY (g : Nat) : Fld := ⟨0x5000008 + g * 0x100, 16, 8, 0⟩
def LINK_ERR_CODE_ERR (g : Nat) : Fld := ⟨0x5000008 + g * 0x100, 8, 8, 0⟩
def LINK_ERR_DOWN_CNT (g : Nat) : Fld := ⟨0x5000008 + g * 0x100, 0, 8, 0⟩
def LINK_DELAY_PEER_REQ (g : Nat) : Fld := ⟨0x500000C + g * 0x100, 24, 8, 0⟩
def LINK_DELAY_PEER_RSP (g : Nat) : Fld := ⟨0x500000C + g * 0x100, 16, 8, 0⟩
def LINK_DELAY_DELAY (g : Nat) : Fld := ⟨0x500000C + g * 0x100, 0, 16, 0⟩
def RAW_CFG_FORM (g : Nat) : Fld := ⟨0x5000010 + g * 0x100, 10, 1, 0⟩
def RAW_CFG_PORT (g : Nat) : Fld := ⟨0x5000010 + g * 0x100, 8, 2, 0⟩
def RAW_CFG_REGION (g : Nat) : Fld := ⟨0x5000010 + g * 0x100, 0, 6, 0⟩
def RAW_STAT_RAW_OVERRUN (g : Nat) : Fld := ⟨0x5000014 + g * 0x100, 31, 1, 0⟩
def RAW_STAT_RAW_UNDERRUN (g : Nat) : Fld := ⟨0x5000014 + g * 0x100, 30, 1, 0⟩
def RAW_STAT_ERR_SYM (g : Nat) : Fld := ⟨0x5000014 + g * 0x100, 8, 8, 0⟩
def RAW_STAT_LOCKED (g : Nat) : Fld := ⟨0x5000014 + g * 0x100, 0, 8, 0⟩
def TICK_ALIGN_CFG_ADJ : Fld := ⟨0x5002000, 16, 16, 0⟩
def TICK_ALIGN_CFG_GROUP : Fld := ⟨0x5002000, 0, 5, 0⟩
def TICK_ALIGN_STAT_CNT_ERR : Fld := ⟨0x5002004, 31, 1, 0⟩
def TICK_ALIGN_STAT_LATE : Fld := ⟨0x5002004, 30, 1, 0⟩
def TICK_ALIGN_STAT_CNT_DIFF : Fld := ⟨0x5002004, 16, 8, 0⟩
def TICK_ALIGN_STAT_LAST_D : Fld := ⟨0x5002004, 0, 16, 0⟩

/-! Fields of 13_twin.md. -/
def TWIN_CTL_CMD_ERR : Fld := ⟨0x7800000, 31, 1, 0⟩
def TWIN_CTL_STATE : Fld := ⟨0x7800000, 28, 3, 0⟩
def TWIN_CTL_ROLE_PIN : Fld := ⟨0x7800000, 27, 1, 0⟩
def TWIN_CTL_DIVERGED : Fld := ⟨0x7800000, 26, 1, 0⟩
def TWIN_CTL_LATE_TAKE : Fld := ⟨0x7800000, 25, 1, 0⟩
def TWIN_CTL_CMD : Fld := ⟨0x7800000, 0, 4, 0⟩
def TWIN_CFG_EN : Fld := ⟨0x7800004, 31, 1, 0⟩
def TWIN_CFG_TAKE_AUTO : Fld := ⟨0x7800004, 30, 1, 1⟩
def TWIN_CFG_LOSS_RELEASE : Fld := ⟨0x7800004, 29, 1, 0⟩
def TWIN_CFG_DIV_RESTORE : Fld := ⟨0x7800004, 28, 1, 0⟩
def TWIN_CFG_MISS_LIMIT : Fld := ⟨0x7800004, 24, 4, 2⟩
def TWIN_CFG_THREADS : Fld := ⟨0x7800004, 20, 4, 0⟩
def TWIN_CFG_CHK_SNOOP : Fld := ⟨0x7800004, 0, 16, 0⟩
def TWIN_PEER_PEER_DEV : Fld := ⟨0x7800008, 0, 8, 0⟩
def TWIN_PAIR_ID_ID : Fld := ⟨0x780000C, 0, 32, 0⟩
def TWIN_OUT_BANKS : Fld := ⟨0x7800010, 0, 32, 0⟩
def TWIN_LANES_GROUPS : Fld := ⟨0x7800014, 0, 24, 0⟩
def TWIN_STAT_MISSED : Fld := ⟨0x7800018, 24, 8, 0⟩
def TWIN_STAT_SKIPPED : Fld := ⟨0x7800018, 16, 8, 0⟩
def TWIN_STAT_DIVERGE : Fld := ⟨0x7800018, 8, 8, 0⟩
def TWIN_STAT_RESTORE_FAIL : Fld := ⟨0x7800018, 0, 8, 0⟩
def TWIN_CHECK_VALUE : Fld := ⟨0x780001C, 0, 32, 0⟩
def TWIN_MIRR_TICK_LO_TICK : Fld := ⟨0x7800020, 0, 32, 0⟩
def TWIN_MIRR_TICK_HI_TICK : Fld := ⟨0x7800024, 0, 32, 0⟩
def TWIN_BANK_EN (i : Nat) : Fld := ⟨0x7800100 + i * 0x4, 31, 1, 0⟩
def TWIN_BANK_SNAP (i : Nat) : Fld := ⟨0x7800100 + i * 0x4, 30, 1, 0⟩
def TWIN_BANK_LATEST (i : Nat) : Fld := ⟨0x7800100 + i * 0x4, 29, 1, 0⟩
def TWIN_BANK_DST (i : Nat) : Fld := ⟨0x7800100 + i * 0x4, 16, 11, 0⟩
def TWIN_BANK_SRC (i : Nat) : Fld := ⟨0x7800100 + i * 0x4, 0, 11, 0⟩
def SNAP_CTL_REQ : Fld := ⟨0x7800200, 31, 1, 0⟩
def SNAP_CTL_ERR : Fld := ⟨0x7800200, 30, 1, 0⟩
def SNAP_CTL_BUSY : Fld := ⟨0x7800200, 29, 1, 0⟩
def SNAP_CTL_DONE : Fld := ⟨0x7800200, 28, 1, 0⟩
def SNAP_CTL_CODE : Fld := ⟨0x7800200, 24, 4, 0⟩
def SNAP_CTL_THREADS : Fld := ⟨0x7800200, 20, 4, 0⟩
def SNAP_CTL_AT_TICK : Fld := ⟨0x7800200, 0, 16, 0⟩
def SNAP_REGIONS_LO_MASK : Fld := ⟨0x7800208, 0, 32, 0⟩
def SNAP_REGIONS_HI_MASK : Fld := ⟨0x780020C, 0, 32, 0⟩
def SNAP_DEST_LO_ADDR : Fld := ⟨0x7800210, 0, 32, 0⟩
def SNAP_DEST_HI_ADDR : Fld := ⟨0x7800214, 0, 32, 0⟩
def GBAR_CFG_CFG_ERR (b : Nat) : Fld := ⟨0x7800300 + b * 0x4, 31, 1, 0⟩
def GBAR_CFG_LEADER (b : Nat) : Fld := ⟨0x7800300 + b * 0x4, 16, 8, 0⟩
def GBAR_CFG_NDEV (b : Nat) : Fld := ⟨0x7800300 + b * 0x4, 0, 5, 0⟩
def GRESET_CTL_GO : Fld := ⟨0x7800400, 31, 1, 0⟩
def GRESET_CTL_ACCEPT : Fld := ⟨0x7800400, 30, 1, 0⟩
def GRESET_CTL_SELF : Fld := ⟨0x7800400, 29, 1, 1⟩
def GRESET_CTL_FWD : Fld := ⟨0x7800400, 0, 24, 0⟩

/-! Fields of 14_crc_snoop.md. -/
def SNOOP_CTL_EN (u : Nat) : Fld := ⟨0x6800000 + u * 0x40, 31, 1, 0⟩
def SNOOP_CTL_CFG_ERR (u : Nat) : Fld := ⟨0x6800000 + u * 0x40, 30, 1, 0⟩
def SNOOP_CTL_MODE (u : Nat) : Fld := ⟨0x6800000 + u * 0x40, 29, 1, 0⟩
def SNOOP_CTL_PRIO (u : Nat) : Fld := ⟨0x6800000 + u * 0x40, 28, 1, 0⟩
def SNOOP_CTL_TRIG_EN (u : Nat) : Fld := ⟨0x6800000 + u * 0x40, 27, 1, 0⟩
def SNOOP_CTL_TRIG_CH (u : Nat) : Fld := ⟨0x6800000 + u * 0x40, 23, 4, 0⟩
def SNOOP_CTL_ALG (u : Nat) : Fld := ⟨0x6800000 + u * 0x40, 21, 2, 0⟩
def SNOOP_CTL_WIN (u : Nat) : Fld := ⟨0x6800000 + u * 0x40, 19, 2, 0⟩
def SNOOP_CTL_ATTACH (u : Nat) : Fld := ⟨0x6800000 + u * 0x40, 17, 2, 0⟩
def SNOOP_CTL_DIR (u : Nat) : Fld := ⟨0x6800000 + u * 0x40, 16, 1, 0⟩
def SNOOP_CTL_POINT (u : Nat) : Fld := ⟨0x6800000 + u * 0x40, 0, 12, 0⟩
def SNOOP_N_N (u : Nat) : Fld := ⟨0x6800004 + u * 0x40, 0, 16, 1⟩
def SNOOP_FILT_OPC_VAL (u : Nat) : Fld := ⟨0x6800008 + u * 0x40, 24, 8, 0⟩
def SNOOP_FILT_OPC_MASK (u : Nat) : Fld := ⟨0x6800008 + u * 0x40, 16, 8, 0⟩
def SNOOP_FILT_NSEL (u : Nat) : Fld := ⟨0x6800008 + u * 0x40, 15, 1, 0⟩
def SNOOP_FILT_VN_EN (u : Nat) : Fld := ⟨0x6800008 + u * 0x40, 12, 3, 3⟩
def SNOOP_FILT_NVAL (u : Nat) : Fld := ⟨0x6800008 + u * 0x40, 0, 12, 0⟩
def SNOOP_NMASK_NMASK (u : Nat) : Fld := ⟨0x680000C + u * 0x40, 0, 12, 0⟩
def SNOOP_EXPECT_EXPECT (u : Nat) : Fld := ⟨0x6800010 + u * 0x40, 0, 32, 0⟩
def SNOOP_RESULT_RESULT (u : Nat) : Fld := ⟨0x6800014 + u * 0x40, 0, 32, 0⟩
def SNOOP_STAT_MISMATCH_FLAG (u : Nat) : Fld := ⟨0x6800018 + u * 0x40, 31, 1, 0⟩
def SNOOP_STAT_FIFO_OVF (u : Nat) : Fld := ⟨0x6800018 + u * 0x40, 30, 1, 0⟩
def SNOOP_STAT_POISONED (u : Nat) : Fld := ⟨0x6800018 + u * 0x40, 29, 1, 0⟩
def SNOOP_STAT_TWIN_WIN_ERR (u : Nat) : Fld := ⟨0x6800018 + u * 0x40, 28, 1, 0⟩
def SNOOP_STAT_FIFO_DEPTH (u : Nat) : Fld := ⟨0x6800018 + u * 0x40, 16, 5, 0⟩
def SNOOP_STAT_MISMATCH (u : Nat) : Fld := ⟨0x6800018 + u * 0x40, 8, 8, 0⟩
def SNOOP_WINS_WINDOWS (u : Nat) : Fld := ⟨0x680001C + u * 0x40, 0, 32, 0⟩
def SNOOP_PKTS_PKTS (u : Nat) : Fld := ⟨0x6800020 + u * 0x40, 0, 32, 0⟩
def SNOOP_FIFO_INFO_VALID (u : Nat) : Fld := ⟨0x6800024 + u * 0x40, 31, 1, 0⟩
def SNOOP_FIFO_INFO_POISONED (u : Nat) : Fld := ⟨0x6800024 + u * 0x40, 30, 1, 0⟩
def SNOOP_FIFO_INFO_SEQ (u : Nat) : Fld := ⟨0x6800024 + u * 0x40, 0, 16, 0⟩
def SNOOP_FIFO_VAL_VALUE (u : Nat) : Fld := ⟨0x6800028 + u * 0x40, 0, 32, 0⟩

/-! Fields of 15_power_thermal.md. -/
def PWR_DOM_CTL_ERR (d : Nat) : Fld := ⟨0x7C00000 + d * 0x4, 31, 1, 0⟩
def PWR_DOM_CTL_REFUSE (d : Nat) : Fld := ⟨0x7C00000 + d * 0x4, 28, 3, 0⟩
def PWR_DOM_CTL_STATE (d : Nat) : Fld := ⟨0x7C00000 + d * 0x4, 26, 2, 0⟩
def PWR_DOM_CTL_WAKE_EN (d : Nat) : Fld := ⟨0x7C00000 + d * 0x4, 2, 1, (if d < 80 then 1 else 0)⟩
def PWR_DOM_CTL_REQ (d : Nat) : Fld := ⟨0x7C00000 + d * 0x4, 0, 1, 0⟩
def PWR_DOM_MW_POWER (d : Nat) : Fld := ⟨0x7C00200 + d * 0x4, 0, 20, 0⟩
def PWR_TOTAL_AVG : Fld := ⟨0x7C00400, 16, 16, 0⟩
def PWR_TOTAL_NOW : Fld := ⟨0x7C00400, 0, 16, 0⟩
def PWR_LIMIT_OVER : Fld := ⟨0x7C00404, 31, 1, 0⟩
def PWR_LIMIT_LIMIT : Fld := ⟨0x7C00404, 0, 16, 4500⟩
def HK_CHAN_VALID (ch : Nat) : Fld := ⟨0x7C02000 + ch * 0x4, 31, 1, 0⟩
def HK_CHAN_VALUE (ch : Nat) : Fld := ⟨0x7C02000 + ch * 0x4, 0, 16, 0⟩
def THERM_CTL_ASK_T : Fld := ⟨0x7C01000, 24, 8, 100⟩
def THERM_CTL_GRACE_MS : Fld := ⟨0x7C01000, 10, 10, 20⟩
def THERM_CTL_RELEASE_MS : Fld := ⟨0x7C01000, 0, 10, 50⟩
def THERM_STAT_LEVEL : Fld := ⟨0x7C01004, 29, 3, 0⟩
def THERM_STAT_HOLD : Fld := ⟨0x7C01004, 28, 1, 0⟩
def THERM_STAT_POWER_SRC : Fld := ⟨0x7C01004, 27, 1, 0⟩
def THERM_STAT_STEP : Fld := ⟨0x7C01004, 24, 3, 0⟩
def THERM_STAT_LAYER : Fld := ⟨0x7C01004, 21, 3, 0⟩
def THERM_STAT_CELL : Fld := ⟨0x7C01004, 16, 5, 0⟩
def THERM_STAT_T_GOV : Fld := ⟨0x7C01004, 0, 12, 0⟩
def THERM_OVERRIDE_RELEASE_HOLD : Fld := ⟨0x7C01008, 31, 1, 0⟩
def THERM_NOTIFY_LO_ADDR : Fld := ⟨0x7C01010, 3, 29, 0⟩
def THERM_NOTIFY_LO_NOTIFY_EN : Fld := ⟨0x7C01010, 0, 1, 0⟩
def THERM_NOTIFY_HI_ADDR : Fld := ⟨0x7C01014, 0, 12, 0⟩
def THERM_CELL_MODEL (i : Nat) : Fld := ⟨0x7C01100 + i * 0x4, 20, 12, 0⟩
def THERM_CELL_SENSOR (i : Nat) : Fld := ⟨0x7C01100 + i * 0x4, 8, 12, 0⟩
def THERM_CELL_FAILED (i : Nat) : Fld := ⟨0x7C01100 + i * 0x4, 7, 1, 0⟩
def THERM_SENS_FAIL_FAILED (l : Nat) : Fld := ⟨0x7C01500 + l * 0x4, 0, 32, 0⟩

/-! Fields of 16_start_journal_front_desk.md. -/
def START_STAT_STEP : Fld := ⟨0x7F00000, 28, 4, 1⟩
def START_STAT_STOP_STEP : Fld := ⟨0x7F00000, 24, 4, 0⟩
def START_STAT_READY : Fld := ⟨0x7F00000, 23, 1, 0⟩
def START_STAT_WAIT_HOST : Fld := ⟨0x7F00000, 22, 1, 0⟩
def START_STAT_IMAGE : Fld := ⟨0x7F00000, 20, 2, 0⟩
def START_STAT_RESET_CAUSE : Fld := ⟨0x7F00000, 16, 4, 1⟩
def START_STAT_START_NUM : Fld := ⟨0x7F00000, 0, 16, 0⟩
def JNL_STAT_READ_ONLY : Fld := ⟨0x7F00004, 31, 1, 0⟩
def JNL_STAT_SPARES_LEFT : Fld := ⟨0x7F00004, 26, 5, 0⟩
def JNL_STAT_RETIRED : Fld := ⟨0x7F00004, 21, 5, 0⟩
def JNL_STAT_TORN : Fld := ⟨0x7F00004, 0, 16, 0⟩
def JNL_WEAR_MAX_WEAR : Fld := ⟨0x7F00008, 0, 32, 0⟩
def GB_STAT_FROZEN : Fld := ⟨0x7F00010, 31, 1, 0⟩
def GB_STAT_ALERT : Fld := ⟨0x7F00010, 30, 1, 0⟩
def GB_STAT_LOST : Fld := ⟨0x7F00010, 16, 12, 0⟩
def GB_STAT_COUNT : Fld := ⟨0x7F00010, 0, 16, 0⟩
def FD_STAT_FLAGS : Fld := ⟨0x7F00020, 24, 8, 16⟩
def FD_STAT_DETAIL : Fld := ⟨0x7F00020, 16, 8, 0⟩
def FD_STAT_CMD : Fld := ⟨0x7F00020, 8, 8, 0⟩
def FD_STAT_STATUS : Fld := ⟨0x7F00020, 0, 8, 1⟩
def RST_DIE_L2 : Fld := ⟨0x7F00030, 1, 1, 0⟩
def RST_DIE_L1 : Fld := ⟨0x7F00030, 0, 1, 0⟩
def JNL_CNT_VALUE (i : Nat) : Fld := ⟨0x7F00100 + i * 0x4, 0, 32, 0⟩

/-! Fields of 17_security_life_cycle.md. -/
def LC_STATE_STATE : Fld := ⟨0x100000, 29, 3, 0⟩
def LC_STATE_DBG_CAP : Fld := ⟨0x100000, 28, 1, 0⟩
def LC_STATE_KEK_SET : Fld := ⟨0x100000, 27, 1, 0⟩
def LC_STATE_DBGKEY_SET : Fld := ⟨0x100000, 26, 1, 0⟩
def LC_STATE_LOCKED : Fld := ⟨0x100000, 25, 1, 0⟩
def LC_STATE_SLOTS_BARRED : Fld := ⟨0x100000, 24, 1, 0⟩
def LC_STATE_SLOT_EPOCH : Fld := ⟨0x100000, 20, 4, 0⟩
def LC_CTL_ERR : Fld := ⟨0x100004, 31, 1, 0⟩
def LC_CTL_BUSY : Fld := ⟨0x100004, 30, 1, 0⟩
def LC_CTL_CONFIRM : Fld := ⟨0x100004, 8, 16, 0⟩
def LC_CTL_CAP : Fld := ⟨0x100004, 4, 1, 0⟩
def LC_CTL_TARGET : Fld := ⟨0x100004, 0, 3, 0⟩
def KEY_CMD_ERR : Fld := ⟨0x100010, 31, 1, 0⟩
def KEY_CMD_BUSY : Fld := ⟨0x100010, 30, 1, 0⟩
def KEY_CMD_DONE : Fld := ⟨0x100010, 29, 1, 0⟩
def KEY_CMD_PARENT : Fld := ⟨0x100010, 16, 3, 0⟩
def KEY_CMD_SLOT : Fld := ⟨0x100010, 8, 3, 0⟩
def KEY_CMD_CMD : Fld := ⟨0x100010, 0, 4, 0⟩
def KEY_IN_DATA (i : Nat) : Fld := ⟨0x100020 + i * 0x4, 0, 32, 0⟩
def KEY_SLOT_STAT_SLOTS : Fld := ⟨0x100050, 0, 16, 0⟩
def RNG_STAT_HEALTHY : Fld := ⟨0x100060, 31, 1, 0⟩
def RNG_STAT_WEAK_SEED : Fld := ⟨0x100060, 30, 1, 0⟩
def RNG_STAT_FAILS : Fld := ⟨0x100060, 8, 8, 0⟩
def RNG_OUT_VALUE : Fld := ⟨0x100064, 0, 32, 0⟩
def ALARM_CFG_CFG_ERR (a : Nat) : Fld := ⟨0x100100 + a * 0x4, 31, 1, 0⟩
def ALARM_CFG_COUNT (a : Nat) : Fld := ⟨0x100100 + a * 0x4, 8, 8, 0⟩
def ALARM_CFG_RESP (a : Nat) : Fld := ⟨0x100100 + a * 0x4, 0, 3, (alarmRespReset a)⟩

/-! Fields of 18_self_test_repair.md. -/
def TEST_CMD_ERR (e : Nat) : Fld := ⟨0x7E00000 + e * 0x100, 31, 1, 0⟩
def TEST_CMD_BUSY (e : Nat) : Fld := ⟨0x7E00000 + e * 0x100, 30, 1, 0⟩
def TEST_CMD_DONE (e : Nat) : Fld := ⟨0x7E00000 + e * 0x100, 29, 1, 0⟩
def TEST_CMD_NO_REPAIR (e : Nat) : Fld := ⟨0x7E00000 + e * 0x100, 28, 1, 0⟩
def TEST_CMD_ALG (e : Nat) : Fld := ⟨0x7E00000 + e * 0x100, 24, 2, 1⟩
def TEST_CMD_KIND (e : Nat) : Fld := ⟨0x7E00000 + e * 0x100, 20, 4, 0⟩
def TEST_CMD_ABORT (e : Nat) : Fld := ⟨0x7E00000 + e * 0x100, 19, 1, 0⟩
def TEST_CMD_UNIT (e : Nat) : Fld := ⟨0x7E00000 + e * 0x100, 0, 11, 0⟩
def TEST_STAT_RESULT (e : Nat) : Fld := ⟨0x7E00004 + e * 0x100, 28, 4, 0⟩
def TEST_STAT_NOT_SAVED (e : Nat) : Fld := ⟨0x7E00004 + e * 0x100, 27, 1, 0⟩
def TEST_STAT_SPARES_USED (e : Nat) : Fld := ⟨0x7E00004 + e * 0x100, 16, 8, 0⟩
def TEST_STAT_FAIL_BITS (e : Nat) : Fld := ⟨0x7E00004 + e * 0x100, 0, 16, 0⟩
def TEST_FAIL_LOC_ROW (e : Nat) : Fld := ⟨0x7E00008 + e * 0x100, 14, 17, 0⟩
def TEST_FAIL_LOC_COL (e : Nat) : Fld := ⟨0x7E00008 + e * 0x100, 0, 14, 0⟩
def TEST_FAIL_INFO_VALID (e : Nat) : Fld := ⟨0x7E0000C + e * 0x100, 31, 1, 0⟩
def TEST_FAIL_INFO_ELEMENT (e : Nat) : Fld := ⟨0x7E0000C + e * 0x100, 27, 4, 0⟩
def TEST_FAIL_INFO_EXPECTED (e : Nat) : Fld := ⟨0x7E0000C + e * 0x100, 26, 1, 0⟩
def TEST_RET_RET_MS : Fld := ⟨0x7E01000, 0, 14, 100⟩
def STACK_TEST_NEXT : Fld := ⟨0x7E01004, 31, 1, 0⟩
def STACK_TEST_ERR : Fld := ⟨0x7E01004, 30, 1, 0⟩
def STACK_TEST_RAN : Fld := ⟨0x7E01004, 29, 1, 0⟩
def STACK_TEST_FAILED : Fld := ⟨0x7E01004, 0, 19, 0⟩
def LBIST_CTL_ERR : Fld := ⟨0x7E01008, 31, 1, 0⟩
def LBIST_CTL_BUSY : Fld := ⟨0x7E01008, 30, 1, 0⟩
def LBIST_CTL_PASS : Fld := ⟨0x7E01008, 29, 1, 0⟩
def LBIST_CTL_GO : Fld := ⟨0x7E01008, 3, 1, 0⟩
def LBIST_CTL_LAYER : Fld := ⟨0x7E01008, 0, 3, 0⟩
def REPAIR_CTL_ERR : Fld := ⟨0x7E02000, 31, 1, 0⟩
def REPAIR_CTL_BUSY : Fld := ⟨0x7E02000, 30, 1, 0⟩
def REPAIR_CTL_DONE : Fld := ⟨0x7E02000, 29, 1, 0⟩
def REPAIR_CTL_FUSE_FULL : Fld := ⟨0x7E02000, 28, 1, 0⟩
def REPAIR_CTL_BURN : Fld := ⟨0x7E02000, 0, 1, 0⟩
def REPAIR_STAT_FUSE_USED : Fld := ⟨0x7E02004, 16, 10, 0⟩
def REPAIR_STAT_SOFT : Fld := ⟨0x7E02004, 0, 11, 0⟩

/-! Fields of 19_debug_trace.md. -/
def DBG_AUTH_ERR : Fld := ⟨0x7000000, 31, 1, 0⟩
def DBG_AUTH_BLOCKED : Fld := ⟨0x7000000, 30, 1, 0⟩
def DBG_AUTH_LEVEL : Fld := ⟨0x7000000, 28, 2, 0⟩
def DBG_AUTH_CLOSE : Fld := ⟨0x7000000, 5, 1, 0⟩
def DBG_AUTH_CHAL : Fld := ⟨0x7000000, 4, 1, 0⟩
def DBG_AUTH_REQ : Fld := ⟨0x7000000, 0, 2, 0⟩
def DBG_SESSION_STAT_JTAG_LEVEL : Fld := ⟨0x7000004, 30, 2, 0⟩
def DBG_SESSION_STAT_OLI_LEVEL : Fld := ⟨0x7000004, 28, 2, 0⟩
def DBG_SESSION_STAT_OLI_BOUND : Fld := ⟨0x7000004, 27, 1, 0⟩
def DBG_SESSION_STAT_OLI_DEV : Fld := ⟨0x7000004, 12, 8, 0⟩
def DBG_SESSION_STAT_OLI_NODE : Fld := ⟨0x7000004, 0, 12, 0⟩
def DBG_CHAL_VALUE (i : Nat) : Fld := ⟨0x7000010 + i * 0x4, 0, 32, 0⟩
def DBG_RESP_VALUE (i : Nat) : Fld := ⟨0x7000020 + i * 0x4, 0, 32, 0⟩
def DBG_INIT_CMD_ERR : Fld := ⟨0x7000100, 31, 1, 0⟩
def DBG_INIT_CMD_BUSY : Fld := ⟨0x7000100, 30, 1, 0⟩
def DBG_INIT_CMD_DONE : Fld := ⟨0x7000100, 29, 1, 0⟩
def DBG_INIT_CMD_SIZE : Fld := ⟨0x7000100, 4, 3, 2⟩
def DBG_INIT_CMD_WRITE : Fld := ⟨0x7000100, 1, 1, 0⟩
def DBG_INIT_CMD_GO : Fld := ⟨0x7000100, 0, 1, 0⟩
def DBG_INIT_STAT_CODE : Fld := ⟨0x7000104, 28, 4, 0⟩
def DBG_INIT_STAT_POISON : Fld := ⟨0x7000104, 0, 8, 0⟩
def DBG_INIT_ADDR_LO_ADDR : Fld := ⟨0x7000108, 0, 32, 0⟩
def DBG_INIT_ADDR_HI_ADDR : Fld := ⟨0x700010C, 0, 12, 0⟩
def DBG_INIT_DATA_DATA (i : Nat) : Fld := ⟨0x7000140 + i * 0x4, 0, 32, 0⟩
def DBG_THR_CTL_ERR (t : Nat) : Fld := ⟨0x7000200 + t * 0x10, 31, 1, 0⟩
def DBG_THR_CTL_HALTED (t : Nat) : Fld := ⟨0x7000200 + t * 0x10, 30, 1, 0⟩
def DBG_THR_CTL_PEND (t : Nat) : Fld := ⟨0x7000200 + t * 0x10, 29, 1, 0⟩
def DBG_THR_CTL_PEND_LOCKED (t : Nat) : Fld := ⟨0x7000200 + t * 0x10, 28, 1, 0⟩
def DBG_THR_CTL_DEFERRED (t : Nat) : Fld := ⟨0x7000200 + t * 0x10, 27, 1, 0⟩
def DBG_THR_CTL_WDT_FRZ (t : Nat) : Fld := ⟨0x7000200 + t * 0x10, 4, 1, 1⟩
def DBG_THR_CTL_STEP (t : Nat) : Fld := ⟨0x7000200 + t * 0x10, 3, 1, 0⟩
def DBG_THR_CTL_FORCE (t : Nat) : Fld := ⟨0x7000200 + t * 0x10, 2, 1, 0⟩
def DBG_THR_CTL_RELEASE (t : Nat) : Fld := ⟨0x7000200 + t * 0x10, 1, 1, 0⟩
def DBG_THR_CTL_HALT (t : Nat) : Fld := ⟨0x7000200 + t * 0x10, 0, 1, 0⟩
def DBG_THR_SEL_ERR : Fld := ⟨0x7000280, 31, 1, 0⟩
def DBG_THR_SEL_TAG : Fld := ⟨0x7000280, 8, 1, 0⟩
def DBG_THR_SEL_THREAD : Fld := ⟨0x7000280, 6, 2, 0⟩
def DBG_THR_SEL_INDEX : Fld := ⟨0x7000280, 0, 6, 0⟩
def DBG_THR_DATA_LO_VALUE : Fld := ⟨0x7000284, 0, 32, 0⟩
def DBG_THR_DATA_HI_VALUE : Fld := ⟨0x7000288, 0, 32, 0⟩
def DBG_REG_HALT_DEBUG (i : Nat) : Fld := ⟨0x7000300 + i * 0x4, 0, 32, 0⟩
def DBG_REG_REL_DEBUG (i : Nat) : Fld := ⟨0x7000310 + i * 0x4, 0, 32, 0⟩
def DBG_REG_STEP_ERR : Fld := ⟨0x7000320, 31, 1, 0⟩
def DBG_REG_STEP_BUSY : Fld := ⟨0x7000320, 30, 1, 0⟩
def DBG_REG_STEP_REGION : Fld := ⟨0x7000320, 16, 6, 0⟩
def DBG_REG_STEP_COUNT : Fld := ⟨0x7000320, 0, 8, 0⟩
def DBG_FRZ_ASSERT : Fld := ⟨0x7000400, 31, 1, 0⟩
def DBG_FRZ_SNOOP : Fld := ⟨0x7000400, 1, 1, 0⟩
def DBG_FRZ_COURIER : Fld := ⟨0x7000400, 0, 1, 0⟩
def DBG_XT_CFG_SW (c : Nat) : Fld := ⟨0x7001000 + c * 0x10, 31, 1, 0⟩
def DBG_XT_CFG_FREEZE (c : Nat) : Fld := ⟨0x7001000 + c * 0x10, 30, 1, 0⟩
def DBG_XT_CFG_TRACE_STOP (c : Nat) : Fld := ⟨0x7001000 + c * 0x10, 29, 1, 0⟩
def DBG_XT_CFG_TRACE_MARK (c : Nat) : Fld := ⟨0x7001000 + c * 0x10, 28, 1, 0⟩
def DBG_XT_CFG_THR_HALT (c : Nat) : Fld := ⟨0x7001000 + c * 0x10, 24, 4, 0⟩
def DBG_XT_CFG_COUNT (c : Nat) : Fld := ⟨0x7001000 + c * 0x10, 16, 8, 0⟩
def DBG_XT_SRC_FLAG_EN (c : Nat) : Fld := ⟨0x7001004 + c * 0x10, 31, 1, 0⟩
def DBG_XT_SRC_STIM_EN (c : Nat) : Fld := ⟨0x7001004 + c * 0x10, 30, 1, 0⟩
def DBG_XT_SRC_FLAG (c : Nat) : Fld := ⟨0x7001004 + c * 0x10, 16, 8, 0⟩
def DBG_XT_SRC_STIM (c : Nat) : Fld := ⟨0x7001004 + c * 0x10, 8, 8, 0⟩
def DBG_XT_SRC_FAULT (c : Nat) : Fld := ⟨0x7001004 + c * 0x10, 4, 4, 0⟩
def DBG_XT_SRC_WDT (c : Nat) : Fld := ⟨0x7001004 + c * 0x10, 0, 4, 0⟩
def DBG_XT_REG_LO_MASK (c : Nat) : Fld := ⟨0x7001008 + c * 0x10, 0, 32, 0⟩
def DBG_XT_REG_HI_MASK (c : Nat) : Fld := ⟨0x700100C + c * 0x10, 0, 32, 0⟩
def TRACE_CTL_CFG_ERR : Fld := ⟨0x7002000, 31, 1, 0⟩
def TRACE_CTL_EN : Fld := ⟨0x7002000, 30, 1, 0⟩
def TRACE_CTL_SINK : Fld := ⟨0x7002000, 29, 1, 0⟩
def TRACE_CTL_WRAP : Fld := ⟨0x7002000, 28, 1, 0⟩
def TRACE_CTL_GROUP : Fld := ⟨0x7002000, 16, 5, 0⟩
def TRACE_CTL_POST : Fld := ⟨0x7002000, 0, 16, 0⟩
def TRACE_BUF_COUNT_M1 : Fld := ⟨0x7002004, 16, 11, 0⟩
def TRACE_BUF_FIRST : Fld := ⟨0x7002004, 0, 11, 0⟩
def TRACE_WPTR_WPTR : Fld := ⟨0x7002008, 0, 25, 0⟩
def TRACE_STAT_STOPPED : Fld := ⟨0x700200C, 31, 1, 0⟩
def TRACE_STAT_WRAPPED : Fld := ⟨0x700200C, 30, 1, 0⟩
def TRACE_STAT_LOST : Fld := ⟨0x700200C, 0, 16, 0⟩
def TRACE_STIM_EN_EN (i : Nat) : Fld := ⟨0x7002010 + i * 0x4, 0, 32, 0⟩

/-! Fields of 20_pins_electrical.md. -/
def GPIO_BANK_CFG_VCCIO_ERR (n : Nat) : Fld := ⟨0x6000000 + n * 0x100, 31, 1, 0⟩
def GPIO_BANK_CFG_VCCIO_OK (n : Nat) : Fld := ⟨0x6000000 + n * 0x100, 30, 1, 0⟩
def GPIO_BANK_CFG_IOSTD (n : Nat) : Fld := ⟨0x6000000 + n * 0x100, 0, 3, 7⟩
def GPIO_SAFE_VALUE (n : Nat) : Fld := ⟨0x6000004 + n * 0x100, 0, 32, 0⟩
def GPIO_SAFE_OE_OE (n : Nat) : Fld := ⟨0x6000008 + n * 0x100, 0, 32, 0⟩
def GPIO_IN_PINS (n : Nat) : Fld := ⟨0x600000C + n * 0x100, 0, 32, 0⟩
def GPIO_PIN_CFG_PULL (n p : Nat) : Fld := ⟨0x6000080 + n * 0x100 + p * 0x4, 4, 2, 0⟩
def GPIO_PIN_CFG_SLEW (n p : Nat) : Fld := ⟨0x6000080 + n * 0x100 + p * 0x4, 3, 1, 0⟩
def GPIO_PIN_CFG_DRIVE (n p : Nat) : Fld := ⟨0x6000080 + n * 0x100 + p * 0x4, 0, 2, 1⟩

end R

/-- The registers of the Register Index (R513), with the instance numbers of a family (R514). -/
inductive Reg where
  | STACK_SUMMARY
  | STACK_SLICE_MAP (n : Nat)
  | STACK_REGION_MAP (n : Nat)
  | STACK_FACE_SPARES
  | STACK_COIL_SPARES
  | STACK_BANK_MAP (n : Nat)
  | CLK_NET_CFG (g : Nat)
  | REGION_CLK (n : Nat)
  | REGION_PORT_CFG (n p : Nat)
  | REGION_PORT_SLOTS (n p : Nat)
  | REGION_PORT_STAT (n p : Nat)
  | REGION_LINES (n : Nat)
  | BRAM_ECC (n : Nat)
  | PLANE_STATE (n : Nat)
  | PLANE_CMD
  | REGION_CTL (n : Nat)
  | REGION_STATUS (n : Nat)
  | REGION_SWAPS (n : Nat)
  | REGION_FILL (n : Nat)
  | FILL_STAT
  | REGION_FAULT (n : Nat)
  | TICK_CTL
  | TICK_LAYOUT
  | TICK_LAYOUT_NEXT
  | SLOT_START_NEXT (k : Nat)
  | SLOT_START (k : Nat)
  | TICK_COUNT_LO
  | TICK_COUNT_HI
  | TICK_STAT
  | REGION_OVR (n : Nat)
  | OVR_MAP (i : Nat)
  | IMEM_LO (w : Nat)
  | IMEM_HI (w : Nat)
  | SEQ_FLAGS (i : Nat)
  | SEQ_THR_CTL (t : Nat)
  | SEQ_THR_STATUS (t : Nat)
  | SEQ_THR_START (t : Nat)
  | SEQ_THR_OVR (t : Nat)
  | SEQ_THR_SPEC (t : Nat)
  | SEQ_WDT (t : Nat)
  | SEQ_WDT_CNT (t : Nat)
  | SEQ_THR_POSTED (t : Nat)
  | SEQ_THR_REFUSE (t : Nat)
  | SEQ_BAR_CFG (b : Nat)
  | DEVICE_ID
  | IMG_CTL
  | IMG_STATUS
  | IMG_BYTES_LO
  | IMG_BYTES_HI
  | IMG_SEC_FLOOR
  | IMG_APPLY
  | PATROL_CTL
  | PATROL_STAT
  | PATROL_SPOS
  | PATROL_APOS
  | PATROL_SBE
  | PATROL_ERR
  | PATROL_LAST
  | PATROL_INJECT
  | NET_CFG
  | NET_EPOCH
  | REMOTE_WIN (w : Nat)
  | DEV_ROUTE (d : Nat)
  | WS_ISOL (n : Nat)
  | WS_STAT (n : Nat)
  | WS_RT (n b i : Nat)
  | COURIER_CTL (c : Nat)
  | COURIER_STAT (c : Nat)
  | COURIER_DESC_LO (c : Nat)
  | COURIER_DESC_HI (c : Nat)
  | COURIER_FAIL_LO (c : Nat)
  | COURIER_FAIL_HI (c : Nat)
  | COURIER_MOVED_LO (c : Nat)
  | COURIER_MOVED_HI (c : Nat)
  | LARDER_CTL
  | LARDER_SET (i : Nat)
  | LARDER_SET_NEXT (i : Nat)
  | LARDER_IMBAL_CFG
  | LARDER_IMBAL_STAT
  | LARDER_WB_FAIL_LO
  | LARDER_WB_FAIL_HI
  | LARDER_SLICE_CNT (s : Nat)
  | BANK_OWNER (b : Nat)
  | BANK_CFG (b : Nat)
  | BANK_WIN_A (b : Nat)
  | BANK_WIN_B (b : Nat)
  | BANK_PWR (b : Nat)
  | BANK_STAT (b : Nat)
  | PORTER_CTL (d : Nat)
  | PORTER_STAT (d : Nat)
  | PORTER_POS (d : Nat)
  | PROT_CFG (d : Nat)
  | PROT_CNT (d : Nat)
  | PROT_RECOV (d : Nat)
  | PROT_LAST_LO (d : Nat)
  | PROT_LAST_HI (d : Nat)
  | PROT_LAST_INFO (d : Nat)
  | PROT_HARD (d : Nat)
  | PROT_FLIP_CTL (d : Nat)
  | PROT_FLIP_MASK (d : Nat)
  | TRACK_STAT (d u : Nat)
  | SD_CFG
  | SD_SCRUB
  | MKEY_CMD
  | MKEY_STATE (i : Nat)
  | SD_KEYTAG
  | SD_KEYTAG_INFO
  | SD_KEYTAG_ADDR_LO
  | SD_KEYTAG_ADDR_HI
  | MKEY_WIN_BASE (w : Nat)
  | MKEY_WIN_LIM (w : Nat)
  | SD_CH_CTL (c : Nat)
  | SD_CH_STAT (c : Nat)
  | SD_CH_ERR (c : Nat)
  | LINK_CTL (g : Nat)
  | LINK_STAT (g : Nat)
  | LINK_ERR (g : Nat)
  | LINK_DELAY (g : Nat)
  | RAW_CFG (g : Nat)
  | RAW_STAT (g : Nat)
  | TICK_ALIGN_CFG
  | TICK_ALIGN_STAT
  | TWIN_CTL
  | TWIN_CFG
  | TWIN_PEER
  | TWIN_PAIR_ID
  | TWIN_OUT
  | TWIN_LANES
  | TWIN_STAT
  | TWIN_CHECK
  | TWIN_MIRR_TICK_LO
  | TWIN_MIRR_TICK_HI
  | TWIN_BANK (i : Nat)
  | SNAP_CTL
  | SNAP_REGIONS_LO
  | SNAP_REGIONS_HI
  | SNAP_DEST_LO
  | SNAP_DEST_HI
  | GBAR_CFG (b : Nat)
  | GRESET_CTL
  | SNOOP_CTL (u : Nat)
  | SNOOP_N (u : Nat)
  | SNOOP_FILT (u : Nat)
  | SNOOP_NMASK (u : Nat)
  | SNOOP_EXPECT (u : Nat)
  | SNOOP_RESULT (u : Nat)
  | SNOOP_STAT (u : Nat)
  | SNOOP_WINS (u : Nat)
  | SNOOP_PKTS (u : Nat)
  | SNOOP_FIFO_INFO (u : Nat)
  | SNOOP_FIFO_VAL (u : Nat)
  | PWR_DOM_CTL (d : Nat)
  | PWR_DOM_MW (d : Nat)
  | PWR_TOTAL
  | PWR_LIMIT
  | HK_CHAN (ch : Nat)
  | THERM_CTL
  | THERM_STAT
  | THERM_OVERRIDE
  | THERM_NOTIFY_LO
  | THERM_NOTIFY_HI
  | THERM_CELL (i : Nat)
  | THERM_SENS_FAIL (l : Nat)
  | START_STAT
  | JNL_STAT
  | JNL_WEAR_MAX
  | GB_STAT
  | FD_STAT
  | RST_DIE
  | JNL_CNT (i : Nat)
  | LC_STATE
  | LC_CTL
  | KEY_CMD
  | KEY_IN (i : Nat)
  | KEY_SLOT_STAT
  | RNG_STAT
  | RNG_OUT
  | ALARM_CFG (a : Nat)
  | TEST_CMD (e : Nat)
  | TEST_STAT (e : Nat)
  | TEST_FAIL_LOC (e : Nat)
  | TEST_FAIL_INFO (e : Nat)
  | TEST_RET
  | STACK_TEST
  | LBIST_CTL
  | REPAIR_CTL
  | REPAIR_STAT
  | DBG_AUTH
  | DBG_SESSION_STAT
  | DBG_CHAL (i : Nat)
  | DBG_RESP (i : Nat)
  | DBG_INIT_CMD
  | DBG_INIT_STAT
  | DBG_INIT_ADDR_LO
  | DBG_INIT_ADDR_HI
  | DBG_INIT_DATA (i : Nat)
  | DBG_THR_CTL (t : Nat)
  | DBG_THR_SEL
  | DBG_THR_DATA_LO
  | DBG_THR_DATA_HI
  | DBG_REG_HALT (i : Nat)
  | DBG_REG_REL (i : Nat)
  | DBG_REG_STEP
  | DBG_FRZ
  | DBG_XT_CFG (c : Nat)
  | DBG_XT_SRC (c : Nat)
  | DBG_XT_REG_LO (c : Nat)
  | DBG_XT_REG_HI (c : Nat)
  | TRACE_CTL
  | TRACE_BUF
  | TRACE_WPTR
  | TRACE_STAT
  | TRACE_STIM_EN (i : Nat)
  | GPIO_BANK_CFG (n : Nat)
  | GPIO_SAFE (n : Nat)
  | GPIO_SAFE_OE (n : Nat)
  | GPIO_IN (n : Nat)
  | GPIO_PIN_CFG (n p : Nat)
  deriving DecidableEq, Repr

/-- Fields of a register with their access codes, by chapter: reserved fields are left out, since they read 0 and ignore writes (R11). -/
def Reg.fields : Reg → List FieldUse
  | .STACK_SUMMARY => [⟨R.STACK_SUMMARY_STACK_GRADE, .ro, .any⟩, ⟨R.STACK_SUMMARY_M1_PRESENT, .ro, .any⟩, ⟨R.STACK_SUMMARY_M0_PRESENT, .ro, .any⟩, ⟨R.STACK_SUMMARY_SLICES_ACTIVE, .ro, .any⟩, ⟨R.STACK_SUMMARY_BANKS_ACTIVE, .ro, .any⟩, ⟨R.STACK_SUMMARY_REGIONS_UNUSABLE, .ro, .any⟩, ⟨R.STACK_SUMMARY_FIELD_MAPOUT, .ro, .any⟩]
  | .STACK_SLICE_MAP n => [⟨R.STACK_SLICE_MAP_IN_SERVICE n, .ro, .any⟩]
  | .STACK_REGION_MAP n => [⟨R.STACK_REGION_MAP_USABLE n, .ro, .any⟩]
  | .STACK_FACE_SPARES => [⟨R.STACK_FACE_SPARES_USED, .ro, .any⟩]
  | .STACK_COIL_SPARES => [⟨R.STACK_COIL_SPARES_USED, .ro, .any⟩]
  | .STACK_BANK_MAP n => [⟨R.STACK_BANK_MAP_IN_SERVICE n, .ro, .any⟩]
  | .CLK_NET_CFG g => [⟨R.CLK_NET_CFG_EN g, .rw, .any⟩, ⟨R.CLK_NET_CFG_LOCKED g, .ro, .any⟩, ⟨R.CLK_NET_CFG_BUSY_ERR g, .w1c, .any⟩, ⟨R.CLK_NET_CFG_CFG_ERR g, .w1c, .any⟩, ⟨R.CLK_NET_CFG_LOCK_LOST g, .w1c, .any⟩, ⟨R.CLK_NET_CFG_O_M1 g, .rw, .any⟩, ⟨R.CLK_NET_CFG_M_M1 g, .rw, (.atLeast 7)⟩, ⟨R.CLK_NET_CFG_D_M1 g, .rw, .any⟩]
  | .REGION_CLK n => [⟨R.REGION_CLK_SEL_ERR n, .w1c, .any⟩, ⟨R.REGION_CLK_CLK_SEL n, .rw, .any⟩]
  | .REGION_PORT_CFG n p => [⟨R.REGION_PORT_CFG_CFG_ERR n p, .w1c, .any⟩, ⟨R.REGION_PORT_CFG_UNDERRUN_POL n p, .rw, .any⟩, ⟨R.REGION_PORT_CFG_SAMPLE_DIV n p, .rw, (.below 3)⟩, ⟨R.REGION_PORT_CFG_BANK n p, .rw, .any⟩, ⟨R.REGION_PORT_CFG_MODE n p, .rw, (.below 3)⟩]
  | .REGION_PORT_SLOTS n p => [⟨R.REGION_PORT_SLOTS_PLANE7 n p, .rw, .any⟩, ⟨R.REGION_PORT_SLOTS_PLANE6 n p, .rw, .any⟩, ⟨R.REGION_PORT_SLOTS_PLANE5 n p, .rw, .any⟩, ⟨R.REGION_PORT_SLOTS_PLANE4 n p, .rw, .any⟩, ⟨R.REGION_PORT_SLOTS_PLANE3 n p, .rw, .any⟩, ⟨R.REGION_PORT_SLOTS_PLANE2 n p, .rw, .any⟩, ⟨R.REGION_PORT_SLOTS_PLANE1 n p, .rw, .any⟩, ⟨R.REGION_PORT_SLOTS_PLANE0 n p, .rw, .any⟩]
  | .REGION_PORT_STAT n p => [⟨R.REGION_PORT_STAT_PARTIAL_DROP n p, .rs, .any⟩, ⟨R.REGION_PORT_STAT_PARKED n p, .ro, .any⟩, ⟨R.REGION_PORT_STAT_INQ n p, .ro, .any⟩, ⟨R.REGION_PORT_STAT_PARK_DROP n p, .rs, .any⟩, ⟨R.REGION_PORT_STAT_PIN_OVERRUN n p, .w1c, .any⟩, ⟨R.REGION_PORT_STAT_PIN_UNDERRUN n p, .w1c, .any⟩]
  | .REGION_LINES n => [⟨R.REGION_LINES_EVT_MERGED n, .w1c, .any⟩, ⟨R.REGION_LINES_EVT_PENDING n, .ro, .any⟩, ⟨R.REGION_LINES_FLAG n, .ro, .any⟩]
  | .BRAM_ECC n => [⟨R.BRAM_ECC_SBE_COUNT n, .rs, .any⟩, ⟨R.BRAM_ECC_DBE_COUNT n, .rs, .any⟩, ⟨R.BRAM_ECC_LAST_DBE_BLOCK n, .ro, .any⟩, ⟨R.BRAM_ECC_PDROP n, .rs, .any⟩]
  | .PLANE_STATE n => [⟨R.PLANE_STATE_P7 n, .ro, .any⟩, ⟨R.PLANE_STATE_P6 n, .ro, .any⟩, ⟨R.PLANE_STATE_P5 n, .ro, .any⟩, ⟨R.PLANE_STATE_P4 n, .ro, .any⟩, ⟨R.PLANE_STATE_P3 n, .ro, .any⟩, ⟨R.PLANE_STATE_P2 n, .ro, .any⟩, ⟨R.PLANE_STATE_P1 n, .ro, .any⟩, ⟨R.PLANE_STATE_P0 n, .ro, .any⟩]
  | .PLANE_CMD => [⟨R.PLANE_CMD_ERR, .w1c, .any⟩, ⟨R.PLANE_CMD_BUSY, .ro, .any⟩, ⟨R.PLANE_CMD_REGION, .rw, .any⟩, ⟨R.PLANE_CMD_PLANE, .rw, .any⟩, ⟨R.PLANE_CMD_CMD, .wo, .any⟩]
  | .REGION_CTL n => [⟨R.REGION_CTL_CMD_ERR n, .w1c, .any⟩, ⟨R.REGION_CTL_OWNER n, .rw, .any⟩, ⟨R.REGION_CTL_PLANE n, .wo, .any⟩, ⟨R.REGION_CTL_CMD n, .wo, .any⟩]
  | .REGION_STATUS n => [⟨R.REGION_STATUS_STATE n, .ro, .any⟩, ⟨R.REGION_STATUS_HAS_ACTIVE n, .ro, .any⟩, ⟨R.REGION_STATUS_ACTIVE_PLANE n, .ro, .any⟩, ⟨R.REGION_STATUS_SHADOW_PLANE n, .ro, .any⟩, ⟨R.REGION_STATUS_SHADOW_STATE n, .ro, .any⟩, ⟨R.REGION_STATUS_SHADOW_SPEC n, .ro, .any⟩, ⟨R.REGION_STATUS_SPILLING n, .ro, .any⟩, ⟨R.REGION_STATUS_HOLD_SRC n, .ro, .any⟩, ⟨R.REGION_STATUS_REFUSAL n, .ro, .any⟩]
  | .REGION_SWAPS n => [⟨R.REGION_SWAPS_COUNT n, .ro, .any⟩]
  | .REGION_FILL n => [⟨R.REGION_FILL_RESULT n, .ro, .any⟩, ⟨R.REGION_FILL_PLANE n, .ro, .any⟩, ⟨R.REGION_FILL_CORR n, .ro, .any⟩, ⟨R.REGION_FILL_TIME n, .ro, .any⟩]
  | .FILL_STAT => [⟨R.FILL_STAT_IN_FLIGHT, .ro, .any⟩, ⟨R.FILL_STAT_QUEUED, .ro, .any⟩, ⟨R.FILL_STAT_MAX_WAIT, .rs, .any⟩]
  | .REGION_FAULT n => [⟨R.REGION_FAULT_POLICY n, .rw, (.below 3)⟩, ⟨R.REGION_FAULT_FALLBACK n, .rw, .any⟩, ⟨R.REGION_FAULT_CAUSE n, .ro, .any⟩, ⟨R.REGION_FAULT_FAULT_PLANE n, .ro, .any⟩, ⟨R.REGION_FAULT_FRAME n, .ro, .any⟩, ⟨R.REGION_FAULT_DBE_COUNT n, .rs, .any⟩]
  | .TICK_CTL => [⟨R.TICK_CTL_CFG_ERR, .w1c, .any⟩, ⟨R.TICK_CTL_IN_LOST, .w1c, .any⟩, ⟨R.TICK_CTL_SHORT, .w1c, .any⟩, ⟨R.TICK_CTL_APPLY_PENDING, .ro, .any⟩, ⟨R.TICK_CTL_RUNNING, .ro, .any⟩, ⟨R.TICK_CTL_APPLY, .wo, .any⟩, ⟨R.TICK_CTL_OUT_EN, .rw, .any⟩, ⟨R.TICK_CTL_SRC, .rw, (.below 3)⟩, ⟨R.TICK_CTL_EN, .rw, .any⟩]
  | .TICK_LAYOUT => [⟨R.TICK_LAYOUT_NSLOT_M1, .ro, .any⟩, ⟨R.TICK_LAYOUT_PERIOD, .ro, .any⟩]
  | .TICK_LAYOUT_NEXT => [⟨R.TICK_LAYOUT_NEXT_NSLOT_M1, .rw, .any⟩, ⟨R.TICK_LAYOUT_NEXT_PERIOD, .rw, .any⟩]
  | .SLOT_START_NEXT k => [⟨R.SLOT_START_NEXT_START k, .rw, .any⟩]
  | .SLOT_START k => [⟨R.SLOT_START_START k, .ro, .any⟩]
  | .TICK_COUNT_LO => [⟨R.TICK_COUNT_LO_COUNT, .ro, .any⟩]
  | .TICK_COUNT_HI => [⟨R.TICK_COUNT_HI_COUNT, .ro, .any⟩]
  | .TICK_STAT => [⟨R.TICK_STAT_SLOT, .ro, .any⟩, ⟨R.TICK_STAT_POS, .ro, .any⟩]
  | .REGION_OVR n => [⟨R.REGION_OVR_OVR_CLR n, .wo, .any⟩, ⟨R.REGION_OVR_POLICY n, .rw, (.below 3)⟩, ⟨R.REGION_OVR_COUNT n, .rs, .any⟩, ⟨R.REGION_OVR_SLOTS n, .rw, .any⟩]
  | .OVR_MAP i => [⟨R.OVR_MAP_OVR i, .w1c, .any⟩]
  | .IMEM_LO w => [⟨R.IMEM_LO_WORD w, .rw, .any⟩]
  | .IMEM_HI w => [⟨R.IMEM_HI_WORD w, .rw, .any⟩]
  | .SEQ_FLAGS i => [⟨R.SEQ_FLAGS_FLAG i, .ro, .any⟩]
  | .SEQ_THR_CTL t => [⟨R.SEQ_THR_CTL_CMD_ERR t, .w1c, .any⟩, ⟨R.SEQ_THR_CTL_CLR_FAULT t, .wo, .any⟩, ⟨R.SEQ_THR_CTL_RESTART t, .wo, .any⟩, ⟨R.SEQ_THR_CTL_STOP t, .wo, .any⟩, ⟨R.SEQ_THR_CTL_START t, .wo, .any⟩]
  | .SEQ_THR_STATUS t => [⟨R.SEQ_THR_STATUS_STATE t, .ro, .any⟩, ⟨R.SEQ_THR_STATUS_LOCKED t, .ro, .any⟩, ⟨R.SEQ_THR_STATUS_CAUSE t, .ro, .any⟩, ⟨R.SEQ_THR_STATUS_RUNAHEAD t, .ro, .any⟩, ⟨R.SEQ_THR_STATUS_PC t, .ro, .any⟩]
  | .SEQ_THR_START t => [⟨R.SEQ_THR_START_START_PC t, .rw, .any⟩]
  | .SEQ_THR_OVR t => [⟨R.SEQ_THR_OVR_POLICY t, .rw, .any⟩, ⟨R.SEQ_THR_OVR_OWED t, .ro, .any⟩, ⟨R.SEQ_THR_OVR_SWAP_MISS t, .rs, .any⟩, ⟨R.SEQ_THR_OVR_MISSED t, .rs, .any⟩, ⟨R.SEQ_THR_OVR_COUNT t, .rs, .any⟩]
  | .SEQ_THR_SPEC t => [⟨R.SEQ_THR_SPEC_MISPREDICT t, .rs, .any⟩, ⟨R.SEQ_THR_SPEC_SQUASHED_PRE t, .rs, .any⟩, ⟨R.SEQ_THR_SPEC_RESTORE_FILLS t, .rs, .any⟩, ⟨R.SEQ_THR_SPEC_LATE_ARM t, .rs, .any⟩]
  | .SEQ_WDT t => [⟨R.SEQ_WDT_EXPIRED t, .w1c, .any⟩, ⟨R.SEQ_WDT_EN t, .rw, .any⟩, ⟨R.SEQ_WDT_ACTION t, .rw, .any⟩, ⟨R.SEQ_WDT_TICKS t, .rw, (.atLeast 1)⟩]
  | .SEQ_WDT_CNT t => [⟨R.SEQ_WDT_CNT_REMAIN t, .ro, .any⟩]
  | .SEQ_THR_POSTED t => [⟨R.SEQ_THR_POSTED_COUNT t, .rs, .any⟩, ⟨R.SEQ_THR_POSTED_CODE t, .ro, .any⟩, ⟨R.SEQ_THR_POSTED_PC t, .ro, .any⟩]
  | .SEQ_THR_REFUSE t => [⟨R.SEQ_THR_REFUSE_COUNT t, .rs, .any⟩, ⟨R.SEQ_THR_REFUSE_CODE t, .ro, .any⟩, ⟨R.SEQ_THR_REFUSE_OP t, .ro, .any⟩, ⟨R.SEQ_THR_REFUSE_AT_CLAMP t, .ro, .any⟩, ⟨R.SEQ_THR_REFUSE_TARGET t, .ro, .any⟩]
  | .SEQ_BAR_CFG b => [⟨R.SEQ_BAR_CFG_CFG_ERR b, .w1c, .any⟩, ⟨R.SEQ_BAR_CFG_GEN b, .ro, .any⟩, ⟨R.SEQ_BAR_CFG_ARRIVED b, .ro, .any⟩, ⟨R.SEQ_BAR_CFG_REMOTE b, .rw, .any⟩, ⟨R.SEQ_BAR_CFG_THREADS b, .rw, .any⟩]
  | .DEVICE_ID => [⟨R.DEVICE_ID_PART, .ro, .any⟩, ⟨R.DEVICE_ID_STEPPING, .ro, .any⟩, ⟨R.DEVICE_ID_SPEED, .ro, .any⟩, ⟨R.DEVICE_ID_TEMP, .ro, .any⟩]
  | .IMG_CTL => [⟨R.IMG_CTL_ABORT, .wo, .any⟩, ⟨R.IMG_CTL_IDLE_TIMEOUT, .rw, (.between 1 10000)⟩]
  | .IMG_STATUS => [⟨R.IMG_STATUS_STATE, .ro, .any⟩, ⟨R.IMG_STATUS_SOURCE, .ro, .any⟩, ⟨R.IMG_STATUS_STARTED, .ro, .any⟩, ⟨R.IMG_STATUS_SV_NOT_ADV, .w1c, .any⟩, ⟨R.IMG_STATUS_ERROR, .ro, .any⟩, ⟨R.IMG_STATUS_EXCESS, .w1c, .any⟩, ⟨R.IMG_STATUS_SECTION, .ro, .any⟩]
  | .IMG_BYTES_LO => [⟨R.IMG_BYTES_LO_COUNT, .ro, .any⟩]
  | .IMG_BYTES_HI => [⟨R.IMG_BYTES_HI_COUNT, .ro, .any⟩]
  | .IMG_SEC_FLOOR => [⟨R.IMG_SEC_FLOOR_FLOOR, .ro, .any⟩]
  | .IMG_APPLY => [⟨R.IMG_APPLY_COUNT, .rs, .any⟩, ⟨R.IMG_APPLY_CODE, .ro, .any⟩, ⟨R.IMG_APPLY_SECTION, .ro, .any⟩]
  | .PATROL_CTL => [⟨R.PATROL_CTL_EN, .rw, .any⟩, ⟨R.PATROL_CTL_FRZ, .rw, .any⟩, ⟨R.PATROL_CTL_PERIOD, .rw, (.between 10 10000)⟩]
  | .PATROL_STAT => [⟨R.PATROL_STAT_RUNNING, .ro, .any⟩, ⟨R.PATROL_STAT_ACTIVE_DBE, .w1c, .any⟩, ⟨R.PATROL_STAT_STORED_DBE, .w1c, .any⟩, ⟨R.PATROL_STAT_UNREPAIRED, .w1c, .any⟩, ⟨R.PATROL_STAT_DROPPED, .w1c, .any⟩, ⟨R.PATROL_STAT_PASSES, .ro, .any⟩]
  | .PATROL_SPOS => [⟨R.PATROL_SPOS_INDEX, .ro, .any⟩]
  | .PATROL_APOS => [⟨R.PATROL_APOS_INDEX, .ro, .any⟩]
  | .PATROL_SBE => [⟨R.PATROL_SBE_SBE_STORED, .rs, .any⟩, ⟨R.PATROL_SBE_SBE_ACTIVE, .rs, .any⟩]
  | .PATROL_ERR => [⟨R.PATROL_ERR_DBE_STORED, .rs, .any⟩, ⟨R.PATROL_ERR_DBE_ACTIVE, .rs, .any⟩, ⟨R.PATROL_ERR_SUPERSEDED, .rs, .any⟩, ⟨R.PATROL_ERR_QUEUE_DROP, .rs, .any⟩]
  | .PATROL_LAST => [⟨R.PATROL_LAST_ACTIVE, .ro, .any⟩, ⟨R.PATROL_LAST_REGION, .ro, .any⟩, ⟨R.PATROL_LAST_PLANE, .ro, .any⟩, ⟨R.PATROL_LAST_FRAME, .ro, .any⟩]
  | .PATROL_INJECT => [⟨R.PATROL_INJECT_ARM, .rw, .any⟩, ⟨R.PATROL_INJECT_TARGET, .rw, .any⟩, ⟨R.PATROL_INJECT_DOUBLE, .rw, .any⟩, ⟨R.PATROL_INJECT_REGION, .rw, .any⟩, ⟨R.PATROL_INJECT_PLANE, .rw, .any⟩, ⟨R.PATROL_INJECT_FRAME, .rw, .any⟩]
  | .NET_CFG => [⟨R.NET_CFG_TMO, .rw, (.between 1 1000000)⟩, ⟨R.NET_CFG_DEV_NUM, .rw, .any⟩]
  | .NET_EPOCH => [⟨R.NET_EPOCH_ERR, .w1c, .any⟩, ⟨R.NET_EPOCH_STUCK, .w1c, .any⟩, ⟨R.NET_EPOCH_DRAINING, .ro, .any⟩, ⟨R.NET_EPOCH_CUR, .ro, .any⟩, ⟨R.NET_EPOCH_FLIP, .wo, .any⟩]
  | .REMOTE_WIN w => [⟨R.REMOTE_WIN_EN w, .rw, .any⟩, ⟨R.REMOTE_WIN_DEV w, .rw, .any⟩, ⟨R.REMOTE_WIN_BASE w, .rw, .any⟩]
  | .DEV_ROUTE d => [⟨R.DEV_ROUTE_EN d, .rw, .any⟩, ⟨R.DEV_ROUTE_GROUP d, .rw, (.below 24)⟩]
  | .WS_ISOL n => [⟨R.WS_ISOL_ISOLATED n, .w1c, .any⟩]
  | .WS_STAT n => [⟨R.WS_STAT_RT_ERR n, .w1c, .any⟩, ⟨R.WS_STAT_PARKED n, .ro, .any⟩, ⟨R.WS_STAT_TMO n, .rs, .any⟩, ⟨R.WS_STAT_LATE_DROP n, .rs, .any⟩, ⟨R.WS_STAT_ABORTED n, .rs, .any⟩]
  | .WS_RT n b i => [⟨R.WS_RT_D7 n b i, .rw, .notIn [0xB, 0xC, 0xD, 0xE]⟩, ⟨R.WS_RT_D6 n b i, .rw, .notIn [0xB, 0xC, 0xD, 0xE]⟩, ⟨R.WS_RT_D5 n b i, .rw, .notIn [0xB, 0xC, 0xD, 0xE]⟩, ⟨R.WS_RT_D4 n b i, .rw, .notIn [0xB, 0xC, 0xD, 0xE]⟩, ⟨R.WS_RT_D3 n b i, .rw, .notIn [0xB, 0xC, 0xD, 0xE]⟩, ⟨R.WS_RT_D2 n b i, .rw, .notIn [0xB, 0xC, 0xD, 0xE]⟩, ⟨R.WS_RT_D1 n b i, .rw, .notIn [0xB, 0xC, 0xD, 0xE]⟩, ⟨R.WS_RT_D0 n b i, .rw, .notIn [0xB, 0xC, 0xD, 0xE]⟩]
  | .COURIER_CTL c => [⟨R.COURIER_CTL_GO_ERR c, .w1c, .any⟩, ⟨R.COURIER_CTL_ABORT c, .wo, .any⟩, ⟨R.COURIER_CTL_GO c, .wo, .any⟩]
  | .COURIER_STAT c => [⟨R.COURIER_STAT_STATE c, .ro, .any⟩, ⟨R.COURIER_STAT_CODE c, .ro, .any⟩, ⟨R.COURIER_STAT_POISONED c, .w1c, .any⟩, ⟨R.COURIER_STAT_OUTSTANDING c, .ro, .any⟩, ⟨R.COURIER_STAT_DESCS c, .ro, .any⟩]
  | .COURIER_DESC_LO c => [⟨R.COURIER_DESC_LO_ADDR c, .rw, .any⟩]
  | .COURIER_DESC_HI c => [⟨R.COURIER_DESC_HI_ADDR c, .rw, .any⟩]
  | .COURIER_FAIL_LO c => [⟨R.COURIER_FAIL_LO_ADDR c, .ro, .any⟩]
  | .COURIER_FAIL_HI c => [⟨R.COURIER_FAIL_HI_ADDR c, .ro, .any⟩]
  | .COURIER_MOVED_LO c => [⟨R.COURIER_MOVED_LO_COUNT c, .ro, .any⟩]
  | .COURIER_MOVED_HI c => [⟨R.COURIER_MOVED_HI_COUNT c, .ro, .any⟩]
  | .LARDER_CTL => [⟨R.LARDER_CTL_ERR, .w1c, .any⟩, ⟨R.LARDER_CTL_BUSY, .ro, .any⟩, ⟨R.LARDER_CTL_DONE, .w1c, .any⟩, ⟨R.LARDER_CTL_WB_LOST, .w1c, .any⟩, ⟨R.LARDER_CTL_KEY_ID, .rw, .any⟩, ⟨R.LARDER_CTL_SLICE, .rw, .any⟩, ⟨R.LARDER_CTL_NEW_SALT, .rw, .any⟩, ⟨R.LARDER_CTL_SCOPE, .rw, (.below 3)⟩, ⟨R.LARDER_CTL_OP, .wo, .any⟩]
  | .LARDER_SET i => [⟨R.LARDER_SET_MEMBER i, .ro, .any⟩]
  | .LARDER_SET_NEXT i => [⟨R.LARDER_SET_NEXT_MEMBER i, .rw, .any⟩]
  | .LARDER_IMBAL_CFG => [⟨R.LARDER_IMBAL_CFG_EN, .rw, .any⟩, ⟨R.LARDER_IMBAL_CFG_THRESH, .rw, .any⟩, ⟨R.LARDER_IMBAL_CFG_WINDOW, .rw, (.atLeast 1)⟩]
  | .LARDER_IMBAL_STAT => [⟨R.LARDER_IMBAL_STAT_SKEW_FLAG, .w1c, .any⟩, ⟨R.LARDER_IMBAL_STAT_MAX_SLICE, .ro, .any⟩, ⟨R.LARDER_IMBAL_STAT_SKEW, .ro, .any⟩]
  | .LARDER_WB_FAIL_LO => [⟨R.LARDER_WB_FAIL_LO_ADDR, .ro, .any⟩]
  | .LARDER_WB_FAIL_HI => [⟨R.LARDER_WB_FAIL_HI_ADDR, .ro, .any⟩]
  | .LARDER_SLICE_CNT s => [⟨R.LARDER_SLICE_CNT_COUNT s, .ro, .any⟩]
  | .BANK_OWNER b => [⟨R.BANK_OWNER_CFG_ERR b, .w1c, .any⟩, ⟨R.BANK_OWNER_PENDING b, .ro, .any⟩, ⟨R.BANK_OWNER_KIND b, .rw, (.below 8)⟩, ⟨R.BANK_OWNER_ID b, .rw, .any⟩]
  | .BANK_CFG b => [⟨R.BANK_CFG_CFG_ERR b, .w1c, .any⟩, ⟨R.BANK_CFG_B_MODE b, .rw, (.below 3)⟩, ⟨R.BANK_CFG_B_WIDTH b, .rw, .any⟩, ⟨R.BANK_CFG_A_MODE b, .rw, (.below 3)⟩, ⟨R.BANK_CFG_A_WIDTH b, .rw, .any⟩]
  | .BANK_WIN_A b => [⟨R.BANK_WIN_A_LEN_W b, .rw, (.between 1 16384)⟩, ⟨R.BANK_WIN_A_BASE_W b, .rw, .any⟩]
  | .BANK_WIN_B b => [⟨R.BANK_WIN_B_LEN_W b, .rw, (.between 1 16384)⟩, ⟨R.BANK_WIN_B_BASE_W b, .rw, .any⟩]
  | .BANK_PWR b => [⟨R.BANK_PWR_AUTO_WAKE b, .rw, .any⟩, ⟨R.BANK_PWR_STATE b, .ro, .any⟩, ⟨R.BANK_PWR_REQ b, .rw, (.below 3)⟩]
  | .BANK_STAT b => [⟨R.BANK_STAT_BUSY_A b, .w1c, .any⟩, ⟨R.BANK_STAT_BUSY_B b, .w1c, .any⟩, ⟨R.BANK_STAT_CONFLICT b, .rs, .any⟩, ⟨R.BANK_STAT_DENIED b, .rs, .any⟩]
  | .PORTER_CTL d => [⟨R.PORTER_CTL_EN d, .rw, .any⟩, ⟨R.PORTER_CTL_FRZ d, .rw, .any⟩, ⟨R.PORTER_CTL_PASS d, .rw, (.atLeast 1)⟩]
  | .PORTER_STAT d => [⟨R.PORTER_STAT_RUNNING d, .ro, .any⟩, ⟨R.PORTER_STAT_LATE d, .w1c, .any⟩, ⟨R.PORTER_STAT_PASSES d, .ro, .any⟩]
  | .PORTER_POS d => [⟨R.PORTER_POS_UNIT d, .ro, .any⟩]
  | .PROT_CFG d => [⟨R.PROT_CFG_THRESH d, .rw, (.atLeast 1)⟩]
  | .PROT_CNT d => [⟨R.PROT_CNT_SBE d, .rs, .any⟩, ⟨R.PROT_CNT_UE d, .rs, .any⟩, ⟨R.PROT_CNT_MARKED d, .rs, .any⟩]
  | .PROT_RECOV d => [⟨R.PROT_RECOV_RECOVERED d, .rs, .any⟩, ⟨R.PROT_RECOV_PSTORE d, .rs, .any⟩, ⟨R.PROT_RECOV_PORTER_UE d, .rs, .any⟩, ⟨R.PROT_RECOV_TRACK_DROP d, .rs, .any⟩]
  | .PROT_LAST_LO d => [⟨R.PROT_LAST_LO_ADDR d, .ro, .any⟩]
  | .PROT_LAST_HI d => [⟨R.PROT_LAST_HI_ADDR d, .ro, .any⟩]
  | .PROT_LAST_INFO d => [⟨R.PROT_LAST_INFO_FOUND_BY d, .ro, .any⟩, ⟨R.PROT_LAST_INFO_BYTES d, .ro, .any⟩, ⟨R.PROT_LAST_INFO_SRC_NODE d, .ro, .any⟩]
  | .PROT_HARD d => [⟨R.PROT_HARD_REPAIRED d, .rs, .any⟩, ⟨R.PROT_HARD_UNREPAIRED d, .rs, .any⟩, ⟨R.PROT_HARD_NOT_SAVED d, .w1c, .any⟩]
  | .PROT_FLIP_CTL d => [⟨R.PROT_FLIP_CTL_ARM d, .rw, .any⟩, ⟨R.PROT_FLIP_CTL_KIND d, .rw, .any⟩, ⟨R.PROT_FLIP_CTL_UNIT d, .rw, .any⟩, ⟨R.PROT_FLIP_CTL_BYTE d, .rw, .any⟩]
  | .PROT_FLIP_MASK d => [⟨R.PROT_FLIP_MASK_CHECK d, .rw, .any⟩, ⟨R.PROT_FLIP_MASK_DATA d, .rw, .any⟩]
  | .TRACK_STAT d u => [⟨R.TRACK_STAT_DROP d u, .rs, .any⟩, ⟨R.TRACK_STAT_IN_USE d u, .ro, .any⟩, ⟨R.TRACK_STAT_QUEUED d u, .ro, .any⟩, ⟨R.TRACK_STAT_HARD d u, .ro, .any⟩]
  | .SD_CFG => [⟨R.SD_CFG_CFG_ERR, .w1c, .any⟩, ⟨R.SD_CFG_RATE, .rw, (.below 5)⟩, ⟨R.SD_CFG_TWO_MOD, .rw, .any⟩, ⟨R.SD_CFG_DENSITY, .rw, (.below 3)⟩, ⟨R.SD_CFG_RANKS_M1, .rw, .any⟩, ⟨R.SD_CFG_POP, .rw, .any⟩]
  | .SD_SCRUB => [⟨R.SD_SCRUB_EN, .rw, .any⟩, ⟨R.SD_SCRUB_LATE, .w1c, .any⟩, ⟨R.SD_SCRUB_PERIOD, .rw, (.atLeast 1)⟩]
  | .MKEY_CMD => [⟨R.MKEY_CMD_ERR, .w1c, .any⟩, ⟨R.MKEY_CMD_BUSY, .ro, .any⟩, ⟨R.MKEY_CMD_DONE, .w1c, .any⟩, ⟨R.MKEY_CMD_KEY_ID, .rw, .any⟩, ⟨R.MKEY_CMD_CMD, .wo, .any⟩]
  | .MKEY_STATE i => [⟨R.MKEY_STATE_ID i, .ro, .any⟩]
  | .SD_KEYTAG => [⟨R.SD_KEYTAG_COUNT, .rs, .any⟩, ⟨R.SD_KEYTAG_RETIRED_HIT, .rs, .any⟩]
  | .SD_KEYTAG_INFO => [⟨R.SD_KEYTAG_INFO_EXPECTED, .ro, .any⟩, ⟨R.SD_KEYTAG_INFO_FOUND, .ro, .any⟩]
  | .SD_KEYTAG_ADDR_LO => [⟨R.SD_KEYTAG_ADDR_LO_ADDR, .ro, .any⟩]
  | .SD_KEYTAG_ADDR_HI => [⟨R.SD_KEYTAG_ADDR_HI_ADDR, .ro, .any⟩]
  | .MKEY_WIN_BASE w => [⟨R.MKEY_WIN_BASE_EN w, .rw, .any⟩, ⟨R.MKEY_WIN_BASE_CFG_ERR w, .w1c, .any⟩, ⟨R.MKEY_WIN_BASE_KEY_ID w, .rw, .any⟩, ⟨R.MKEY_WIN_BASE_BASE w, .rw, .any⟩]
  | .MKEY_WIN_LIM w => [⟨R.MKEY_WIN_LIM_LIM w, .rw, .any⟩]
  | .SD_CH_CTL c => [⟨R.SD_CH_CTL_CMD_ERR c, .w1c, .any⟩, ⟨R.SD_CH_CTL_STATE c, .ro, .any⟩, ⟨R.SD_CH_CTL_FRZ c, .rw, .any⟩, ⟨R.SD_CH_CTL_CMD c, .wo, .any⟩]
  | .SD_CH_STAT c => [⟨R.SD_CH_STAT_CE c, .rs, .any⟩, ⟨R.SD_CH_STAT_UE c, .rs, .any⟩, ⟨R.SD_CH_STAT_REFRESH_X2 c, .ro, .any⟩, ⟨R.SD_CH_STAT_TRAIN_STEP c, .ro, .any⟩]
  | .SD_CH_ERR c => [⟨R.SD_CH_ERR_RANK c, .ro, .any⟩, ⟨R.SD_CH_ERR_SUB c, .ro, .any⟩, ⟨R.SD_CH_ERR_DEVICE c, .ro, .any⟩]
  | .LINK_CTL g => [⟨R.LINK_CTL_CFG_ERR g, .w1c, .any⟩, ⟨R.LINK_CTL_RETRAIN g, .wo, .any⟩, ⟨R.LINK_CTL_AUTO_RETRAIN g, .rw, .any⟩, ⟨R.LINK_CTL_TICK_TX g, .rw, .any⟩, ⟨R.LINK_CTL_SSC g, .rw, .any⟩, ⟨R.LINK_CTL_RATE g, .rw, .any⟩, ⟨R.LINK_CTL_WIDTH g, .rw, (.below 5)⟩, ⟨R.LINK_CTL_MODE g, .rw, (.below 3)⟩]
  | .LINK_STAT g => [⟨R.LINK_STAT_STATE g, .ro, .any⟩, ⟨R.LINK_STAT_CAUSE g, .ro, .any⟩, ⟨R.LINK_STAT_REVERSED g, .ro, .any⟩, ⟨R.LINK_STAT_PARTNER_DEV g, .ro, .any⟩, ⟨R.LINK_STAT_POL_INV g, .ro, .any⟩, ⟨R.LINK_STAT_LOCKED g, .ro, .any⟩]
  | .LINK_ERR g => [⟨R.LINK_ERR_CRC_ERR g, .rs, .any⟩, ⟨R.LINK_ERR_REPLAY g, .rs, .any⟩, ⟨R.LINK_ERR_CODE_ERR g, .rs, .any⟩, ⟨R.LINK_ERR_DOWN_CNT g, .rs, .any⟩]
  | .LINK_DELAY g => [⟨R.LINK_DELAY_PEER_REQ g, .ro, .any⟩, ⟨R.LINK_DELAY_PEER_RSP g, .ro, .any⟩, ⟨R.LINK_DELAY_DELAY g, .ro, .any⟩]
  | .RAW_CFG g => [⟨R.RAW_CFG_FORM g, .rw, .any⟩, ⟨R.RAW_CFG_PORT g, .rw, .any⟩, ⟨R.RAW_CFG_REGION g, .rw, .any⟩]
  | .RAW_STAT g => [⟨R.RAW_STAT_RAW_OVERRUN g, .w1c, .any⟩, ⟨R.RAW_STAT_RAW_UNDERRUN g, .w1c, .any⟩, ⟨R.RAW_STAT_ERR_SYM g, .rs, .any⟩, ⟨R.RAW_STAT_LOCKED g, .ro, .any⟩]
  | .TICK_ALIGN_CFG => [⟨R.TICK_ALIGN_CFG_ADJ, .rw, .any⟩, ⟨R.TICK_ALIGN_CFG_GROUP, .rw, (.below 24)⟩]
  | .TICK_ALIGN_STAT => [⟨R.TICK_ALIGN_STAT_CNT_ERR, .w1c, .any⟩, ⟨R.TICK_ALIGN_STAT_LATE, .w1c, .any⟩, ⟨R.TICK_ALIGN_STAT_CNT_DIFF, .ro, .any⟩, ⟨R.TICK_ALIGN_STAT_LAST_D, .ro, .any⟩]
  | .TWIN_CTL => [⟨R.TWIN_CTL_CMD_ERR, .w1c, .any⟩, ⟨R.TWIN_CTL_STATE, .ro, .any⟩, ⟨R.TWIN_CTL_ROLE_PIN, .ro, .any⟩, ⟨R.TWIN_CTL_DIVERGED, .w1c, .any⟩, ⟨R.TWIN_CTL_LATE_TAKE, .w1c, .any⟩, ⟨R.TWIN_CTL_CMD, .wo, .any⟩]
  | .TWIN_CFG => [⟨R.TWIN_CFG_EN, .rw, .any⟩, ⟨R.TWIN_CFG_TAKE_AUTO, .rw, .any⟩, ⟨R.TWIN_CFG_LOSS_RELEASE, .rw, .any⟩, ⟨R.TWIN_CFG_DIV_RESTORE, .rw, .any⟩, ⟨R.TWIN_CFG_MISS_LIMIT, .rw, (.atLeast 1)⟩, ⟨R.TWIN_CFG_THREADS, .rw, .any⟩, ⟨R.TWIN_CFG_CHK_SNOOP, .rw, .any⟩]
  | .TWIN_PEER => [⟨R.TWIN_PEER_PEER_DEV, .rw, .any⟩]
  | .TWIN_PAIR_ID => [⟨R.TWIN_PAIR_ID_ID, .rw, .any⟩]
  | .TWIN_OUT => [⟨R.TWIN_OUT_BANKS, .rw, .any⟩]
  | .TWIN_LANES => [⟨R.TWIN_LANES_GROUPS, .rw, .any⟩]
  | .TWIN_STAT => [⟨R.TWIN_STAT_MISSED, .rs, .any⟩, ⟨R.TWIN_STAT_SKIPPED, .rs, .any⟩, ⟨R.TWIN_STAT_DIVERGE, .rs, .any⟩, ⟨R.TWIN_STAT_RESTORE_FAIL, .rs, .any⟩]
  | .TWIN_CHECK => [⟨R.TWIN_CHECK_VALUE, .ro, .any⟩]
  | .TWIN_MIRR_TICK_LO => [⟨R.TWIN_MIRR_TICK_LO_TICK, .ro, .any⟩]
  | .TWIN_MIRR_TICK_HI => [⟨R.TWIN_MIRR_TICK_HI_TICK, .ro, .any⟩]
  | .TWIN_BANK i => [⟨R.TWIN_BANK_EN i, .rw, .any⟩, ⟨R.TWIN_BANK_SNAP i, .rw, .any⟩, ⟨R.TWIN_BANK_LATEST i, .ro, .any⟩, ⟨R.TWIN_BANK_DST i, .rw, .any⟩, ⟨R.TWIN_BANK_SRC i, .rw, .any⟩]
  | .SNAP_CTL => [⟨R.SNAP_CTL_REQ, .wo, .any⟩, ⟨R.SNAP_CTL_ERR, .w1c, .any⟩, ⟨R.SNAP_CTL_BUSY, .ro, .any⟩, ⟨R.SNAP_CTL_DONE, .w1c, .any⟩, ⟨R.SNAP_CTL_CODE, .ro, .any⟩, ⟨R.SNAP_CTL_THREADS, .rw, .any⟩, ⟨R.SNAP_CTL_AT_TICK, .rw, .any⟩]
  | .SNAP_REGIONS_LO => [⟨R.SNAP_REGIONS_LO_MASK, .rw, .any⟩]
  | .SNAP_REGIONS_HI => [⟨R.SNAP_REGIONS_HI_MASK, .rw, .any⟩]
  | .SNAP_DEST_LO => [⟨R.SNAP_DEST_LO_ADDR, .rw, .any⟩]
  | .SNAP_DEST_HI => [⟨R.SNAP_DEST_HI_ADDR, .rw, .any⟩]
  | .GBAR_CFG b => [⟨R.GBAR_CFG_CFG_ERR b, .w1c, .any⟩, ⟨R.GBAR_CFG_LEADER b, .rw, .any⟩, ⟨R.GBAR_CFG_NDEV b, .rw, .any⟩]
  | .GRESET_CTL => [⟨R.GRESET_CTL_GO, .wo, .any⟩, ⟨R.GRESET_CTL_ACCEPT, .rw, .any⟩, ⟨R.GRESET_CTL_SELF, .rw, .any⟩, ⟨R.GRESET_CTL_FWD, .rw, .any⟩]
  | .SNOOP_CTL u => [⟨R.SNOOP_CTL_EN u, .rw, .any⟩, ⟨R.SNOOP_CTL_CFG_ERR u, .w1c, .any⟩, ⟨R.SNOOP_CTL_MODE u, .rw, .any⟩, ⟨R.SNOOP_CTL_PRIO u, .rw, .any⟩, ⟨R.SNOOP_CTL_TRIG_EN u, .rw, .any⟩, ⟨R.SNOOP_CTL_TRIG_CH u, .rw, .any⟩, ⟨R.SNOOP_CTL_ALG u, .rw, (.below 3)⟩, ⟨R.SNOOP_CTL_WIN u, .rw, (.below 3)⟩, ⟨R.SNOOP_CTL_ATTACH u, .rw, (.below 3)⟩, ⟨R.SNOOP_CTL_DIR u, .rw, .any⟩, ⟨R.SNOOP_CTL_POINT u, .rw, .any⟩]
  | .SNOOP_N u => [⟨R.SNOOP_N_N u, .rw, (.atLeast 1)⟩]
  | .SNOOP_FILT u => [⟨R.SNOOP_FILT_OPC_VAL u, .rw, .any⟩, ⟨R.SNOOP_FILT_OPC_MASK u, .rw, .any⟩, ⟨R.SNOOP_FILT_NSEL u, .rw, .any⟩, ⟨R.SNOOP_FILT_VN_EN u, .rw, .any⟩, ⟨R.SNOOP_FILT_NVAL u, .rw, .any⟩]
  | .SNOOP_NMASK u => [⟨R.SNOOP_NMASK_NMASK u, .rw, .any⟩]
  | .SNOOP_EXPECT u => [⟨R.SNOOP_EXPECT_EXPECT u, .rw, .any⟩]
  | .SNOOP_RESULT u => [⟨R.SNOOP_RESULT_RESULT u, .ro, .any⟩]
  | .SNOOP_STAT u => [⟨R.SNOOP_STAT_MISMATCH_FLAG u, .w1c, .any⟩, ⟨R.SNOOP_STAT_FIFO_OVF u, .w1c, .any⟩, ⟨R.SNOOP_STAT_POISONED u, .ro, .any⟩, ⟨R.SNOOP_STAT_TWIN_WIN_ERR u, .w1c, .any⟩, ⟨R.SNOOP_STAT_FIFO_DEPTH u, .ro, .any⟩, ⟨R.SNOOP_STAT_MISMATCH u, .rs, .any⟩]
  | .SNOOP_WINS u => [⟨R.SNOOP_WINS_WINDOWS u, .ro, .any⟩]
  | .SNOOP_PKTS u => [⟨R.SNOOP_PKTS_PKTS u, .ro, .any⟩]
  | .SNOOP_FIFO_INFO u => [⟨R.SNOOP_FIFO_INFO_VALID u, .ro, .any⟩, ⟨R.SNOOP_FIFO_INFO_POISONED u, .ro, .any⟩, ⟨R.SNOOP_FIFO_INFO_SEQ u, .ro, .any⟩]
  | .SNOOP_FIFO_VAL u => [⟨R.SNOOP_FIFO_VAL_VALUE u, .rs, .any⟩]
  | .PWR_DOM_CTL d => [⟨R.PWR_DOM_CTL_ERR d, .w1c, .any⟩, ⟨R.PWR_DOM_CTL_REFUSE d, .ro, .any⟩, ⟨R.PWR_DOM_CTL_STATE d, .ro, .any⟩, ⟨R.PWR_DOM_CTL_WAKE_EN d, .rw, .any⟩, ⟨R.PWR_DOM_CTL_REQ d, .rw, .any⟩]
  | .PWR_DOM_MW d => [⟨R.PWR_DOM_MW_POWER d, .ro, .any⟩]
  | .PWR_TOTAL => [⟨R.PWR_TOTAL_AVG, .ro, .any⟩, ⟨R.PWR_TOTAL_NOW, .ro, .any⟩]
  | .PWR_LIMIT => [⟨R.PWR_LIMIT_OVER, .w1c, .any⟩, ⟨R.PWR_LIMIT_LIMIT, .rw, (.between 1000 4500)⟩]
  | .HK_CHAN ch => [⟨R.HK_CHAN_VALID ch, .ro, .any⟩, ⟨R.HK_CHAN_VALUE ch, .ro, .any⟩]
  | .THERM_CTL => [⟨R.THERM_CTL_ASK_T, .rw, (.between 80 100)⟩, ⟨R.THERM_CTL_GRACE_MS, .rw, (.between 1 1000)⟩, ⟨R.THERM_CTL_RELEASE_MS, .rw, (.between 1 1000)⟩]
  | .THERM_STAT => [⟨R.THERM_STAT_LEVEL, .ro, .any⟩, ⟨R.THERM_STAT_HOLD, .ro, .any⟩, ⟨R.THERM_STAT_POWER_SRC, .ro, .any⟩, ⟨R.THERM_STAT_STEP, .ro, .any⟩, ⟨R.THERM_STAT_LAYER, .ro, .any⟩, ⟨R.THERM_STAT_CELL, .ro, .any⟩, ⟨R.THERM_STAT_T_GOV, .ro, .any⟩]
  | .THERM_OVERRIDE => [⟨R.THERM_OVERRIDE_RELEASE_HOLD, .wo, .any⟩]
  | .THERM_NOTIFY_LO => [⟨R.THERM_NOTIFY_LO_ADDR, .rw, .any⟩, ⟨R.THERM_NOTIFY_LO_NOTIFY_EN, .rw, .any⟩]
  | .THERM_NOTIFY_HI => [⟨R.THERM_NOTIFY_HI_ADDR, .rw, .any⟩]
  | .THERM_CELL i => [⟨R.THERM_CELL_MODEL i, .ro, .any⟩, ⟨R.THERM_CELL_SENSOR i, .ro, .any⟩, ⟨R.THERM_CELL_FAILED i, .ro, .any⟩]
  | .THERM_SENS_FAIL l => [⟨R.THERM_SENS_FAIL_FAILED l, .w1c, .any⟩]
  | .START_STAT => [⟨R.START_STAT_STEP, .ro, .any⟩, ⟨R.START_STAT_STOP_STEP, .ro, .any⟩, ⟨R.START_STAT_READY, .ro, .any⟩, ⟨R.START_STAT_WAIT_HOST, .ro, .any⟩, ⟨R.START_STAT_IMAGE, .ro, .any⟩, ⟨R.START_STAT_RESET_CAUSE, .ro, .any⟩, ⟨R.START_STAT_START_NUM, .ro, .any⟩]
  | .JNL_STAT => [⟨R.JNL_STAT_READ_ONLY, .ro, .any⟩, ⟨R.JNL_STAT_SPARES_LEFT, .ro, .any⟩, ⟨R.JNL_STAT_RETIRED, .ro, .any⟩, ⟨R.JNL_STAT_TORN, .rs, .any⟩]
  | .JNL_WEAR_MAX => [⟨R.JNL_WEAR_MAX_WEAR, .ro, .any⟩]
  | .GB_STAT => [⟨R.GB_STAT_FROZEN, .ro, .any⟩, ⟨R.GB_STAT_ALERT, .w1c, .any⟩, ⟨R.GB_STAT_LOST, .rs, .any⟩, ⟨R.GB_STAT_COUNT, .ro, .any⟩]
  | .FD_STAT => [⟨R.FD_STAT_FLAGS, .ro, .any⟩, ⟨R.FD_STAT_DETAIL, .ro, .any⟩, ⟨R.FD_STAT_CMD, .ro, .any⟩, ⟨R.FD_STAT_STATUS, .ro, .any⟩]
  | .RST_DIE => [⟨R.RST_DIE_L2, .wo, .any⟩, ⟨R.RST_DIE_L1, .wo, .any⟩]
  | .JNL_CNT i => [⟨R.JNL_CNT_VALUE i, .ro, .any⟩]
  | .LC_STATE => [⟨R.LC_STATE_STATE, .ro, .any⟩, ⟨R.LC_STATE_DBG_CAP, .ro, .any⟩, ⟨R.LC_STATE_KEK_SET, .ro, .any⟩, ⟨R.LC_STATE_DBGKEY_SET, .ro, .any⟩, ⟨R.LC_STATE_LOCKED, .ro, .any⟩, ⟨R.LC_STATE_SLOTS_BARRED, .ro, .any⟩, ⟨R.LC_STATE_SLOT_EPOCH, .ro, .any⟩]
  | .LC_CTL => [⟨R.LC_CTL_ERR, .w1c, .any⟩, ⟨R.LC_CTL_BUSY, .ro, .any⟩, ⟨R.LC_CTL_CONFIRM, .wo, .any⟩, ⟨R.LC_CTL_CAP, .wo, .any⟩, ⟨R.LC_CTL_TARGET, .wo, .any⟩]
  | .KEY_CMD => [⟨R.KEY_CMD_ERR, .w1c, .any⟩, ⟨R.KEY_CMD_BUSY, .ro, .any⟩, ⟨R.KEY_CMD_DONE, .w1c, .any⟩, ⟨R.KEY_CMD_PARENT, .rw, .any⟩, ⟨R.KEY_CMD_SLOT, .rw, .any⟩, ⟨R.KEY_CMD_CMD, .wo, .any⟩]
  | .KEY_IN i => [⟨R.KEY_IN_DATA i, .wo, .any⟩]
  | .KEY_SLOT_STAT => [⟨R.KEY_SLOT_STAT_SLOTS, .ro, .any⟩]
  | .RNG_STAT => [⟨R.RNG_STAT_HEALTHY, .ro, .any⟩, ⟨R.RNG_STAT_WEAK_SEED, .ro, .any⟩, ⟨R.RNG_STAT_FAILS, .rs, .any⟩]
  | .RNG_OUT => [⟨R.RNG_OUT_VALUE, .rs, .any⟩]
  | .ALARM_CFG a => [⟨R.ALARM_CFG_CFG_ERR a, .w1c, .any⟩, ⟨R.ALARM_CFG_COUNT a, .rs, .any⟩, ⟨R.ALARM_CFG_RESP a, .rw, (.below 5)⟩]
  | .TEST_CMD e => [⟨R.TEST_CMD_ERR e, .w1c, .any⟩, ⟨R.TEST_CMD_BUSY e, .ro, .any⟩, ⟨R.TEST_CMD_DONE e, .w1c, .any⟩, ⟨R.TEST_CMD_NO_REPAIR e, .rw, .any⟩, ⟨R.TEST_CMD_ALG e, .rw, .any⟩, ⟨R.TEST_CMD_KIND e, .wo, .any⟩, ⟨R.TEST_CMD_ABORT e, .wo, .any⟩, ⟨R.TEST_CMD_UNIT e, .wo, .any⟩]
  | .TEST_STAT e => [⟨R.TEST_STAT_RESULT e, .ro, .any⟩, ⟨R.TEST_STAT_NOT_SAVED e, .ro, .any⟩, ⟨R.TEST_STAT_SPARES_USED e, .ro, .any⟩, ⟨R.TEST_STAT_FAIL_BITS e, .ro, .any⟩]
  | .TEST_FAIL_LOC e => [⟨R.TEST_FAIL_LOC_ROW e, .ro, .any⟩, ⟨R.TEST_FAIL_LOC_COL e, .ro, .any⟩]
  | .TEST_FAIL_INFO e => [⟨R.TEST_FAIL_INFO_VALID e, .rs, .any⟩, ⟨R.TEST_FAIL_INFO_ELEMENT e, .rs, .any⟩, ⟨R.TEST_FAIL_INFO_EXPECTED e, .rs, .any⟩]
  | .TEST_RET => [⟨R.TEST_RET_RET_MS, .rw, (.between 1 10000)⟩]
  | .STACK_TEST => [⟨R.STACK_TEST_NEXT, .rw, .any⟩, ⟨R.STACK_TEST_ERR, .w1c, .any⟩, ⟨R.STACK_TEST_RAN, .ro, .any⟩, ⟨R.STACK_TEST_FAILED, .ro, .any⟩]
  | .LBIST_CTL => [⟨R.LBIST_CTL_ERR, .w1c, .any⟩, ⟨R.LBIST_CTL_BUSY, .ro, .any⟩, ⟨R.LBIST_CTL_PASS, .ro, .any⟩, ⟨R.LBIST_CTL_GO, .wo, .any⟩, ⟨R.LBIST_CTL_LAYER, .rw, (.below 6)⟩]
  | .REPAIR_CTL => [⟨R.REPAIR_CTL_ERR, .w1c, .any⟩, ⟨R.REPAIR_CTL_BUSY, .ro, .any⟩, ⟨R.REPAIR_CTL_DONE, .w1c, .any⟩, ⟨R.REPAIR_CTL_FUSE_FULL, .ro, .any⟩, ⟨R.REPAIR_CTL_BURN, .wo, .any⟩]
  | .REPAIR_STAT => [⟨R.REPAIR_STAT_FUSE_USED, .ro, .any⟩, ⟨R.REPAIR_STAT_SOFT, .ro, .any⟩]
  | .DBG_AUTH => [⟨R.DBG_AUTH_ERR, .w1c, .any⟩, ⟨R.DBG_AUTH_BLOCKED, .ro, .any⟩, ⟨R.DBG_AUTH_LEVEL, .ro, .any⟩, ⟨R.DBG_AUTH_CLOSE, .wo, .any⟩, ⟨R.DBG_AUTH_CHAL, .wo, .any⟩, ⟨R.DBG_AUTH_REQ, .wo, .any⟩]
  | .DBG_SESSION_STAT => [⟨R.DBG_SESSION_STAT_JTAG_LEVEL, .ro, .any⟩, ⟨R.DBG_SESSION_STAT_OLI_LEVEL, .ro, .any⟩, ⟨R.DBG_SESSION_STAT_OLI_BOUND, .ro, .any⟩, ⟨R.DBG_SESSION_STAT_OLI_DEV, .ro, .any⟩, ⟨R.DBG_SESSION_STAT_OLI_NODE, .ro, .any⟩]
  | .DBG_CHAL i => [⟨R.DBG_CHAL_VALUE i, .ro, .any⟩]
  | .DBG_RESP i => [⟨R.DBG_RESP_VALUE i, .wo, .any⟩]
  | .DBG_INIT_CMD => [⟨R.DBG_INIT_CMD_ERR, .w1c, .any⟩, ⟨R.DBG_INIT_CMD_BUSY, .ro, .any⟩, ⟨R.DBG_INIT_CMD_DONE, .w1c, .any⟩, ⟨R.DBG_INIT_CMD_SIZE, .rw, (.below 7)⟩, ⟨R.DBG_INIT_CMD_WRITE, .rw, .any⟩, ⟨R.DBG_INIT_CMD_GO, .wo, .any⟩]
  | .DBG_INIT_STAT => [⟨R.DBG_INIT_STAT_CODE, .ro, .any⟩, ⟨R.DBG_INIT_STAT_POISON, .ro, .any⟩]
  | .DBG_INIT_ADDR_LO => [⟨R.DBG_INIT_ADDR_LO_ADDR, .rw, .any⟩]
  | .DBG_INIT_ADDR_HI => [⟨R.DBG_INIT_ADDR_HI_ADDR, .rw, .any⟩]
  | .DBG_INIT_DATA i => [⟨R.DBG_INIT_DATA_DATA i, .rw, .any⟩]
  | .DBG_THR_CTL t => [⟨R.DBG_THR_CTL_ERR t, .w1c, .any⟩, ⟨R.DBG_THR_CTL_HALTED t, .ro, .any⟩, ⟨R.DBG_THR_CTL_PEND t, .ro, .any⟩, ⟨R.DBG_THR_CTL_PEND_LOCKED t, .ro, .any⟩, ⟨R.DBG_THR_CTL_DEFERRED t, .ro, .any⟩, ⟨R.DBG_THR_CTL_WDT_FRZ t, .rw, .any⟩, ⟨R.DBG_THR_CTL_STEP t, .wo, .any⟩, ⟨R.DBG_THR_CTL_FORCE t, .wo, .any⟩, ⟨R.DBG_THR_CTL_RELEASE t, .wo, .any⟩, ⟨R.DBG_THR_CTL_HALT t, .wo, .any⟩]
  | .DBG_THR_SEL => [⟨R.DBG_THR_SEL_ERR, .w1c, .any⟩, ⟨R.DBG_THR_SEL_TAG, .rw, .any⟩, ⟨R.DBG_THR_SEL_THREAD, .rw, .any⟩, ⟨R.DBG_THR_SEL_INDEX, .rw, (.below 34)⟩]
  | .DBG_THR_DATA_LO => [⟨R.DBG_THR_DATA_LO_VALUE, .rw, .any⟩]
  | .DBG_THR_DATA_HI => [⟨R.DBG_THR_DATA_HI_VALUE, .rw, .any⟩]
  | .DBG_REG_HALT i => [⟨R.DBG_REG_HALT_DEBUG i, .w1s, .any⟩]
  | .DBG_REG_REL i => [⟨R.DBG_REG_REL_DEBUG i, .w1c, .any⟩]
  | .DBG_REG_STEP => [⟨R.DBG_REG_STEP_ERR, .w1c, .any⟩, ⟨R.DBG_REG_STEP_BUSY, .ro, .any⟩, ⟨R.DBG_REG_STEP_REGION, .rw, .any⟩, ⟨R.DBG_REG_STEP_COUNT, .wo, .any⟩]
  | .DBG_FRZ => [⟨R.DBG_FRZ_ASSERT, .rw, .any⟩, ⟨R.DBG_FRZ_SNOOP, .rw, .any⟩, ⟨R.DBG_FRZ_COURIER, .rw, .any⟩]
  | .DBG_XT_CFG c => [⟨R.DBG_XT_CFG_SW c, .wo, .any⟩, ⟨R.DBG_XT_CFG_FREEZE c, .rw, .any⟩, ⟨R.DBG_XT_CFG_TRACE_STOP c, .rw, .any⟩, ⟨R.DBG_XT_CFG_TRACE_MARK c, .rw, .any⟩, ⟨R.DBG_XT_CFG_THR_HALT c, .rw, .any⟩, ⟨R.DBG_XT_CFG_COUNT c, .rs, .any⟩]
  | .DBG_XT_SRC c => [⟨R.DBG_XT_SRC_FLAG_EN c, .rw, .any⟩, ⟨R.DBG_XT_SRC_STIM_EN c, .rw, .any⟩, ⟨R.DBG_XT_SRC_FLAG c, .rw, .any⟩, ⟨R.DBG_XT_SRC_STIM c, .rw, .any⟩, ⟨R.DBG_XT_SRC_FAULT c, .rw, .any⟩, ⟨R.DBG_XT_SRC_WDT c, .rw, .any⟩]
  | .DBG_XT_REG_LO c => [⟨R.DBG_XT_REG_LO_MASK c, .rw, .any⟩]
  | .DBG_XT_REG_HI c => [⟨R.DBG_XT_REG_HI_MASK c, .rw, .any⟩]
  | .TRACE_CTL => [⟨R.TRACE_CTL_CFG_ERR, .w1c, .any⟩, ⟨R.TRACE_CTL_EN, .rw, .any⟩, ⟨R.TRACE_CTL_SINK, .rw, .any⟩, ⟨R.TRACE_CTL_WRAP, .rw, .any⟩, ⟨R.TRACE_CTL_GROUP, .rw, (.below 24)⟩, ⟨R.TRACE_CTL_POST, .rw, .any⟩]
  | .TRACE_BUF => [⟨R.TRACE_BUF_COUNT_M1, .rw, .any⟩, ⟨R.TRACE_BUF_FIRST, .rw, .any⟩]
  | .TRACE_WPTR => [⟨R.TRACE_WPTR_WPTR, .ro, .any⟩]
  | .TRACE_STAT => [⟨R.TRACE_STAT_STOPPED, .ro, .any⟩, ⟨R.TRACE_STAT_WRAPPED, .ro, .any⟩, ⟨R.TRACE_STAT_LOST, .rs, .any⟩]
  | .TRACE_STIM_EN i => [⟨R.TRACE_STIM_EN_EN i, .rw, .any⟩]
  | .GPIO_BANK_CFG n => [⟨R.GPIO_BANK_CFG_VCCIO_ERR n, .w1c, .any⟩, ⟨R.GPIO_BANK_CFG_VCCIO_OK n, .ro, .any⟩, ⟨R.GPIO_BANK_CFG_IOSTD n, .rw, (.notIn [5, 6])⟩]
  | .GPIO_SAFE n => [⟨R.GPIO_SAFE_VALUE n, .rw, .any⟩]
  | .GPIO_SAFE_OE n => [⟨R.GPIO_SAFE_OE_OE n, .rw, .any⟩]
  | .GPIO_IN n => [⟨R.GPIO_IN_PINS n, .ro, .any⟩]
  | .GPIO_PIN_CFG n p => [⟨R.GPIO_PIN_CFG_PULL n p, .rw, .any⟩, ⟨R.GPIO_PIN_CFG_SLEW n p, .rw, .any⟩, ⟨R.GPIO_PIN_CFG_DRIVE n p, .rw, .any⟩]

/-- Where the registers of chapter 01 lie: base, (count, stride) of each index, and the register the indices name. -/
def regShapes01 : List (RegShape Reg) :=
  [ ⟨0x100, [], .c0 .STACK_SUMMARY⟩,
    ⟨0x110, [(4, 0x4)], .c1 .STACK_SLICE_MAP⟩,
    ⟨0x120, [(2, 0x4)], .c1 .STACK_REGION_MAP⟩,
    ⟨0x128, [], .c0 .STACK_FACE_SPARES⟩,
    ⟨0x12C, [], .c0 .STACK_COIL_SPARES⟩,
    ⟨0x200, [(64, 0x4)], .c1 .STACK_BANK_MAP⟩ ]

/-- Where the registers of chapter 02 lie: base, (count, stride) of each index, and the register the indices name. -/
def regShapes02 : List (RegShape Reg) :=
  [ ⟨0xC00000, [(32, 0x4)], .c1 .CLK_NET_CFG⟩,
    ⟨0x800800, [(64, 0x10000)], .c1 .REGION_CLK⟩,
    ⟨0x800810, [(64, 0x10000), (4, 0x4)], .c2 .REGION_PORT_CFG⟩,
    ⟨0x800820, [(64, 0x10000), (4, 0x4)], .c2 .REGION_PORT_SLOTS⟩,
    ⟨0x800830, [(64, 0x10000), (4, 0x4)], .c2 .REGION_PORT_STAT⟩,
    ⟨0x800840, [(64, 0x10000)], .c1 .REGION_LINES⟩,
    ⟨0x800850, [(64, 0x10000)], .c1 .BRAM_ECC⟩ ]

/-- Where the registers of chapter 03 lie: base, (count, stride) of each index, and the register the indices name. -/
def regShapes03 : List (RegShape Reg) :=
  [ ⟨0x401000, [(64, 0x4)], .c1 .PLANE_STATE⟩,
    ⟨0x400100, [], .c0 .PLANE_CMD⟩,
    ⟨0x800000, [(64, 0x10000)], .c1 .REGION_CTL⟩,
    ⟨0x800004, [(64, 0x10000)], .c1 .REGION_STATUS⟩,
    ⟨0x800010, [(64, 0x10000)], .c1 .REGION_SWAPS⟩,
    ⟨0x800008, [(64, 0x10000)], .c1 .REGION_FILL⟩,
    ⟨0x400000, [], .c0 .FILL_STAT⟩,
    ⟨0x80000C, [(64, 0x10000)], .c1 .REGION_FAULT⟩ ]

/-- Where the registers of chapter 04 lie: base, (count, stride) of each index, and the register the indices name. -/
def regShapes04 : List (RegShape Reg) :=
  [ ⟨0x200000, [], .c0 .TICK_CTL⟩,
    ⟨0x200004, [], .c0 .TICK_LAYOUT⟩,
    ⟨0x200008, [], .c0 .TICK_LAYOUT_NEXT⟩,
    ⟨0x200040, [(16, 0x4)], .c1 .SLOT_START_NEXT⟩,
    ⟨0x200080, [(16, 0x4)], .c1 .SLOT_START⟩,
    ⟨0x200010, [], .c0 .TICK_COUNT_LO⟩,
    ⟨0x200014, [], .c0 .TICK_COUNT_HI⟩,
    ⟨0x200018, [], .c0 .TICK_STAT⟩,
    ⟨0x800014, [(64, 0x10000)], .c1 .REGION_OVR⟩,
    ⟨0xC00100, [(2, 0x4)], .c1 .OVR_MAP⟩,
    ⟨0x300000, [(32768, 0x8)], .c1 .IMEM_LO⟩,
    ⟨0x300004, [(32768, 0x8)], .c1 .IMEM_HI⟩,
    ⟨0x200100, [(8, 0x4)], .c1 .SEQ_FLAGS⟩,
    ⟨0x201000, [(4, 0x100)], .c1 .SEQ_THR_CTL⟩,
    ⟨0x201004, [(4, 0x100)], .c1 .SEQ_THR_STATUS⟩,
    ⟨0x201008, [(4, 0x100)], .c1 .SEQ_THR_START⟩,
    ⟨0x20100C, [(4, 0x100)], .c1 .SEQ_THR_OVR⟩,
    ⟨0x201010, [(4, 0x100)], .c1 .SEQ_THR_SPEC⟩,
    ⟨0x201014, [(4, 0x100)], .c1 .SEQ_WDT⟩,
    ⟨0x201018, [(4, 0x100)], .c1 .SEQ_WDT_CNT⟩ ]

/-- Where the registers of chapter 05 lie: base, (count, stride) of each index, and the register the indices name. -/
def regShapes05 : List (RegShape Reg) :=
  [ ⟨0x201020, [(4, 0x100)], .c1 .SEQ_THR_POSTED⟩,
    ⟨0x20101C, [(4, 0x100)], .c1 .SEQ_THR_REFUSE⟩,
    ⟨0x202000, [(16, 0x4)], .c1 .SEQ_BAR_CFG⟩ ]

/-- Where the registers of chapter 06 lie: base, (count, stride) of each index, and the register the indices name. -/
def regShapes06 : List (RegShape Reg) :=
  [ ⟨0x0, [], .c0 .DEVICE_ID⟩,
    ⟨0x100200, [], .c0 .IMG_CTL⟩,
    ⟨0x100204, [], .c0 .IMG_STATUS⟩,
    ⟨0x100208, [], .c0 .IMG_BYTES_LO⟩,
    ⟨0x10020C, [], .c0 .IMG_BYTES_HI⟩,
    ⟨0x100210, [], .c0 .IMG_SEC_FLOOR⟩,
    ⟨0x100214, [], .c0 .IMG_APPLY⟩ ]

/-- Where the registers of chapter 07 lie: base, (count, stride) of each index, and the register the indices name. -/
def regShapes07 : List (RegShape Reg) :=
  [ ⟨0x400200, [], .c0 .PATROL_CTL⟩,
    ⟨0x400204, [], .c0 .PATROL_STAT⟩,
    ⟨0x400208, [], .c0 .PATROL_SPOS⟩,
    ⟨0x40020C, [], .c0 .PATROL_APOS⟩,
    ⟨0x400210, [], .c0 .PATROL_SBE⟩,
    ⟨0x400214, [], .c0 .PATROL_ERR⟩,
    ⟨0x400218, [], .c0 .PATROL_LAST⟩,
    ⟨0x40021C, [], .c0 .PATROL_INJECT⟩ ]

/-- Where the registers of chapter 08 lie: base, (count, stride) of each index, and the register the indices name. -/
def regShapes08 : List (RegShape Reg) :=
  [ ⟨0x1000000, [], .c0 .NET_CFG⟩,
    ⟨0x1000004, [], .c0 .NET_EPOCH⟩,
    ⟨0x1000100, [(16, 0x4)], .c1 .REMOTE_WIN⟩,
    ⟨0x1000400, [(256, 0x4)], .c1 .DEV_ROUTE⟩,
    ⟨0x1100000, [(192, 0x1000)], .c1 .WS_ISOL⟩,
    ⟨0x1100004, [(192, 0x1000)], .c1 .WS_STAT⟩,
    ⟨0x1100100, [(192, 0x1000), (2, 0x80), (24, 0x4)], .c3 .WS_RT⟩,
    ⟨0x1800000, [(32, 0x100)], .c1 .COURIER_CTL⟩,
    ⟨0x1800004, [(32, 0x100)], .c1 .COURIER_STAT⟩,
    ⟨0x1800008, [(32, 0x100)], .c1 .COURIER_DESC_LO⟩,
    ⟨0x180000C, [(32, 0x100)], .c1 .COURIER_DESC_HI⟩,
    ⟨0x1800010, [(32, 0x100)], .c1 .COURIER_FAIL_LO⟩,
    ⟨0x1800014, [(32, 0x100)], .c1 .COURIER_FAIL_HI⟩,
    ⟨0x1800018, [(32, 0x100)], .c1 .COURIER_MOVED_LO⟩,
    ⟨0x180001C, [(32, 0x100)], .c1 .COURIER_MOVED_HI⟩ ]

/-- Where the registers of chapter 09 lie: base, (count, stride) of each index, and the register the indices name. -/
def regShapes09 : List (RegShape Reg) :=
  [ ⟨0x2000000, [], .c0 .LARDER_CTL⟩,
    ⟨0x2000010, [(4, 0x4)], .c1 .LARDER_SET⟩,
    ⟨0x2000020, [(4, 0x4)], .c1 .LARDER_SET_NEXT⟩,
    ⟨0x2000030, [], .c0 .LARDER_IMBAL_CFG⟩,
    ⟨0x2000034, [], .c0 .LARDER_IMBAL_STAT⟩,
    ⟨0x2000038, [], .c0 .LARDER_WB_FAIL_LO⟩,
    ⟨0x200003C, [], .c0 .LARDER_WB_FAIL_HI⟩,
    ⟨0x2001000, [(2, 0x800000), (64, 0x4)], .c2 (fun i j => .LARDER_SLICE_CNT (i * 64 + j))⟩,
    ⟨0x3000000, [(2, 0x800000), (1024, 0x20)], .c2 (fun i j => .BANK_OWNER (i * 1024 + j))⟩,
    ⟨0x3000004, [(2, 0x800000), (1024, 0x20)], .c2 (fun i j => .BANK_CFG (i * 1024 + j))⟩,
    ⟨0x3000008, [(2, 0x800000), (1024, 0x20)], .c2 (fun i j => .BANK_WIN_A (i * 1024 + j))⟩,
    ⟨0x300000C, [(2, 0x800000), (1024, 0x20)], .c2 (fun i j => .BANK_WIN_B (i * 1024 + j))⟩,
    ⟨0x3000010, [(2, 0x800000), (1024, 0x20)], .c2 (fun i j => .BANK_PWR (i * 1024 + j))⟩,
    ⟨0x3000014, [(2, 0x800000), (1024, 0x20)], .c2 (fun i j => .BANK_STAT (i * 1024 + j))⟩ ]

/-- Where the registers of chapter 10 lie: base, (count, stride) of each index, and the register the indices name. -/
def regShapes10 : List (RegShape Reg) :=
  [ ⟨0x2004000, [(2, 0x800000)], .c1 .PORTER_CTL⟩,
    ⟨0x2004004, [(2, 0x800000)], .c1 .PORTER_STAT⟩,
    ⟨0x2004008, [(2, 0x800000)], .c1 .PORTER_POS⟩,
    ⟨0x200400C, [(2, 0x800000)], .c1 .PROT_CFG⟩,
    ⟨0x2004010, [(2, 0x800000)], .c1 .PROT_CNT⟩,
    ⟨0x2004014, [(2, 0x800000)], .c1 .PROT_RECOV⟩,
    ⟨0x2004018, [(2, 0x800000)], .c1 .PROT_LAST_LO⟩,
    ⟨0x200401C, [(2, 0x800000)], .c1 .PROT_LAST_HI⟩,
    ⟨0x2004020, [(2, 0x800000)], .c1 .PROT_LAST_INFO⟩,
    ⟨0x2004024, [(2, 0x800000)], .c1 .PROT_HARD⟩,
    ⟨0x2004028, [(2, 0x800000)], .c1 .PROT_FLIP_CTL⟩,
    ⟨0x200402C, [(2, 0x800000)], .c1 .PROT_FLIP_MASK⟩,
    ⟨0x2004100, [(2, 0x800000), (96, 0x4)], .c2 .TRACK_STAT⟩ ]

/-- Where the registers of chapter 11 lie: base, (count, stride) of each index, and the register the indices name. -/
def regShapes11 : List (RegShape Reg) :=
  [ ⟨0x4000000, [], .c0 .SD_CFG⟩,
    ⟨0x4000004, [], .c0 .SD_SCRUB⟩,
    ⟨0x4000010, [], .c0 .MKEY_CMD⟩,
    ⟨0x4000020, [(8, 0x4)], .c1 .MKEY_STATE⟩,
    ⟨0x4000040, [], .c0 .SD_KEYTAG⟩,
    ⟨0x4000044, [], .c0 .SD_KEYTAG_INFO⟩,
    ⟨0x4000048, [], .c0 .SD_KEYTAG_ADDR_LO⟩,
    ⟨0x400004C, [], .c0 .SD_KEYTAG_ADDR_HI⟩,
    ⟨0x4000200, [(64, 0x8)], .c1 .MKEY_WIN_BASE⟩,
    ⟨0x4000204, [(64, 0x8)], .c1 .MKEY_WIN_LIM⟩,
    ⟨0x4001000, [(12, 0x100)], .c1 .SD_CH_CTL⟩,
    ⟨0x4001004, [(12, 0x100)], .c1 .SD_CH_STAT⟩,
    ⟨0x4001008, [(12, 0x100)], .c1 .SD_CH_ERR⟩ ]

/-- Where the registers of chapter 12 lie: base, (count, stride) of each index, and the register the indices name. -/
def regShapes12 : List (RegShape Reg) :=
  [ ⟨0x5000000, [(24, 0x100)], .c1 .LINK_CTL⟩,
    ⟨0x5000004, [(24, 0x100)], .c1 .LINK_STAT⟩,
    ⟨0x5000008, [(24, 0x100)], .c1 .LINK_ERR⟩,
    ⟨0x500000C, [(24, 0x100)], .c1 .LINK_DELAY⟩,
    ⟨0x5000010, [(24, 0x100)], .c1 .RAW_CFG⟩,
    ⟨0x5000014, [(24, 0x100)], .c1 .RAW_STAT⟩,
    ⟨0x5002000, [], .c0 .TICK_ALIGN_CFG⟩,
    ⟨0x5002004, [], .c0 .TICK_ALIGN_STAT⟩ ]

/-- Where the registers of chapter 13 lie: base, (count, stride) of each index, and the register the indices name. -/
def regShapes13 : List (RegShape Reg) :=
  [ ⟨0x7800000, [], .c0 .TWIN_CTL⟩,
    ⟨0x7800004, [], .c0 .TWIN_CFG⟩,
    ⟨0x7800008, [], .c0 .TWIN_PEER⟩,
    ⟨0x780000C, [], .c0 .TWIN_PAIR_ID⟩,
    ⟨0x7800010, [], .c0 .TWIN_OUT⟩,
    ⟨0x7800014, [], .c0 .TWIN_LANES⟩,
    ⟨0x7800018, [], .c0 .TWIN_STAT⟩,
    ⟨0x780001C, [], .c0 .TWIN_CHECK⟩,
    ⟨0x7800020, [], .c0 .TWIN_MIRR_TICK_LO⟩,
    ⟨0x7800024, [], .c0 .TWIN_MIRR_TICK_HI⟩,
    ⟨0x7800100, [(64, 0x4)], .c1 .TWIN_BANK⟩,
    ⟨0x7800200, [], .c0 .SNAP_CTL⟩,
    ⟨0x7800208, [], .c0 .SNAP_REGIONS_LO⟩,
    ⟨0x780020C, [], .c0 .SNAP_REGIONS_HI⟩,
    ⟨0x7800210, [], .c0 .SNAP_DEST_LO⟩,
    ⟨0x7800214, [], .c0 .SNAP_DEST_HI⟩,
    ⟨0x7800300, [(16, 0x4)], .c1 .GBAR_CFG⟩,
    ⟨0x7800400, [], .c0 .GRESET_CTL⟩ ]

/-- Where the registers of chapter 14 lie: base, (count, stride) of each index, and the register the indices name. -/
def regShapes14 : List (RegShape Reg) :=
  [ ⟨0x6800000, [(16, 0x40)], .c1 .SNOOP_CTL⟩,
    ⟨0x6800004, [(16, 0x40)], .c1 .SNOOP_N⟩,
    ⟨0x6800008, [(16, 0x40)], .c1 .SNOOP_FILT⟩,
    ⟨0x680000C, [(16, 0x40)], .c1 .SNOOP_NMASK⟩,
    ⟨0x6800010, [(16, 0x40)], .c1 .SNOOP_EXPECT⟩,
    ⟨0x6800014, [(16, 0x40)], .c1 .SNOOP_RESULT⟩,
    ⟨0x6800018, [(16, 0x40)], .c1 .SNOOP_STAT⟩,
    ⟨0x680001C, [(16, 0x40)], .c1 .SNOOP_WINS⟩,
    ⟨0x6800020, [(16, 0x40)], .c1 .SNOOP_PKTS⟩,
    ⟨0x6800024, [(16, 0x40)], .c1 .SNOOP_FIFO_INFO⟩,
    ⟨0x6800028, [(16, 0x40)], .c1 .SNOOP_FIFO_VAL⟩ ]

/-- Where the registers of chapter 15 lie: base, (count, stride) of each index, and the register the indices name. -/
def regShapes15 : List (RegShape Reg) :=
  [ ⟨0x7C00000, [(112, 0x4)], .c1 .PWR_DOM_CTL⟩,
    ⟨0x7C00200, [(112, 0x4)], .c1 .PWR_DOM_MW⟩,
    ⟨0x7C00400, [], .c0 .PWR_TOTAL⟩,
    ⟨0x7C00404, [], .c0 .PWR_LIMIT⟩,
    ⟨0x7C02000, [(256, 0x4)], .c1 .HK_CHAN⟩,
    ⟨0x7C01000, [], .c0 .THERM_CTL⟩,
    ⟨0x7C01004, [], .c0 .THERM_STAT⟩,
    ⟨0x7C01008, [], .c0 .THERM_OVERRIDE⟩,
    ⟨0x7C01010, [], .c0 .THERM_NOTIFY_LO⟩,
    ⟨0x7C01014, [], .c0 .THERM_NOTIFY_HI⟩,
    ⟨0x7C01100, [(224, 0x4)], .c1 .THERM_CELL⟩,
    ⟨0x7C01500, [(6, 0x4)], .c1 .THERM_SENS_FAIL⟩ ]

/-- Where the registers of chapter 16 lie: base, (count, stride) of each index, and the register the indices name. -/
def regShapes16 : List (RegShape Reg) :=
  [ ⟨0x7F00000, [], .c0 .START_STAT⟩,
    ⟨0x7F00004, [], .c0 .JNL_STAT⟩,
    ⟨0x7F00008, [], .c0 .JNL_WEAR_MAX⟩,
    ⟨0x7F00010, [], .c0 .GB_STAT⟩,
    ⟨0x7F00020, [], .c0 .FD_STAT⟩,
    ⟨0x7F00030, [], .c0 .RST_DIE⟩,
    ⟨0x7F00100, [(16, 0x4)], .c1 .JNL_CNT⟩ ]

/-- Where the registers of chapter 17 lie: base, (count, stride) of each index, and the register the indices name. -/
def regShapes17 : List (RegShape Reg) :=
  [ ⟨0x100000, [], .c0 .LC_STATE⟩,
    ⟨0x100004, [], .c0 .LC_CTL⟩,
    ⟨0x100010, [], .c0 .KEY_CMD⟩,
    ⟨0x100020, [(10, 0x4)], .c1 .KEY_IN⟩,
    ⟨0x100050, [], .c0 .KEY_SLOT_STAT⟩,
    ⟨0x100060, [], .c0 .RNG_STAT⟩,
    ⟨0x100064, [], .c0 .RNG_OUT⟩,
    ⟨0x100100, [(7, 0x4)], .c1 .ALARM_CFG⟩ ]

/-- Where the registers of chapter 18 lie: base, (count, stride) of each index, and the register the indices name. -/
def regShapes18 : List (RegShape Reg) :=
  [ ⟨0x7E00000, [(5, 0x100)], .c1 .TEST_CMD⟩,
    ⟨0x7E00004, [(5, 0x100)], .c1 .TEST_STAT⟩,
    ⟨0x7E00008, [(5, 0x100)], .c1 .TEST_FAIL_LOC⟩,
    ⟨0x7E0000C, [(5, 0x100)], .c1 .TEST_FAIL_INFO⟩,
    ⟨0x7E01000, [], .c0 .TEST_RET⟩,
    ⟨0x7E01004, [], .c0 .STACK_TEST⟩,
    ⟨0x7E01008, [], .c0 .LBIST_CTL⟩,
    ⟨0x7E02000, [], .c0 .REPAIR_CTL⟩,
    ⟨0x7E02004, [], .c0 .REPAIR_STAT⟩ ]

/-- Where the registers of chapter 19 lie: base, (count, stride) of each index, and the register the indices name. -/
def regShapes19 : List (RegShape Reg) :=
  [ ⟨0x7000000, [], .c0 .DBG_AUTH⟩,
    ⟨0x7000004, [], .c0 .DBG_SESSION_STAT⟩,
    ⟨0x7000010, [(4, 0x4)], .c1 .DBG_CHAL⟩,
    ⟨0x7000020, [(4, 0x4)], .c1 .DBG_RESP⟩,
    ⟨0x7000100, [], .c0 .DBG_INIT_CMD⟩,
    ⟨0x7000104, [], .c0 .DBG_INIT_STAT⟩,
    ⟨0x7000108, [], .c0 .DBG_INIT_ADDR_LO⟩,
    ⟨0x700010C, [], .c0 .DBG_INIT_ADDR_HI⟩,
    ⟨0x7000140, [(16, 0x4)], .c1 .DBG_INIT_DATA⟩,
    ⟨0x7000200, [(4, 0x10)], .c1 .DBG_THR_CTL⟩,
    ⟨0x7000280, [], .c0 .DBG_THR_SEL⟩,
    ⟨0x7000284, [], .c0 .DBG_THR_DATA_LO⟩,
    ⟨0x7000288, [], .c0 .DBG_THR_DATA_HI⟩,
    ⟨0x7000300, [(2, 0x4)], .c1 .DBG_REG_HALT⟩,
    ⟨0x7000310, [(2, 0x4)], .c1 .DBG_REG_REL⟩,
    ⟨0x7000320, [], .c0 .DBG_REG_STEP⟩,
    ⟨0x7000400, [], .c0 .DBG_FRZ⟩,
    ⟨0x7001000, [(16, 0x10)], .c1 .DBG_XT_CFG⟩,
    ⟨0x7001004, [(16, 0x10)], .c1 .DBG_XT_SRC⟩,
    ⟨0x7001008, [(16, 0x10)], .c1 .DBG_XT_REG_LO⟩,
    ⟨0x700100C, [(16, 0x10)], .c1 .DBG_XT_REG_HI⟩,
    ⟨0x7002000, [], .c0 .TRACE_CTL⟩,
    ⟨0x7002004, [], .c0 .TRACE_BUF⟩,
    ⟨0x7002008, [], .c0 .TRACE_WPTR⟩,
    ⟨0x700200C, [], .c0 .TRACE_STAT⟩,
    ⟨0x7002010, [(8, 0x4)], .c1 .TRACE_STIM_EN⟩ ]

/-- Where the registers of chapter 20 lie: base, (count, stride) of each index, and the register the indices name. -/
def regShapes20 : List (RegShape Reg) :=
  [ ⟨0x6000000, [(32, 0x100)], .c1 .GPIO_BANK_CFG⟩,
    ⟨0x6000004, [(32, 0x100)], .c1 .GPIO_SAFE⟩,
    ⟨0x6000008, [(32, 0x100)], .c1 .GPIO_SAFE_OE⟩,
    ⟨0x600000C, [(32, 0x100)], .c1 .GPIO_IN⟩,
    ⟨0x6000080, [(32, 0x100), (32, 0x4)], .c2 .GPIO_PIN_CFG⟩ ]

/-- Every register shape of the device. -/
def regShapes : List (RegShape Reg) :=
  regShapes01 ++ regShapes02 ++ regShapes03 ++ regShapes04 ++ regShapes05 ++ regShapes06 ++ regShapes07 ++ regShapes08 ++ regShapes09 ++ regShapes10 ++ regShapes11 ++ regShapes12 ++ regShapes13 ++ regShapes14 ++ regShapes15 ++ regShapes16 ++ regShapes17 ++ regShapes18 ++ regShapes19 ++ regShapes20

end Sys2Proof.Machine
end

