-- ==== Sys2Proof/Machine/State.lean ====
section
/-! DEFINITION. The state of the device. Every field of a register table has ONE home, the register file `csr`
(keyed by the field's bit address, holding the exclusive or with the reset value, so that an unlisted field reads as
reset, R14); a register that only shows other state is computed when it is read (Machine/CsrBus.lean). The other
fields hold the state that the spec gives the device outside its registers. -/

namespace Sys2Proof.Machine

/-! ## Guestbook events (R427 to R431) -/

/-- The events of the code table of R431, of R448, and of the self-test and debug chapters. -/
inductive Gb where
  | stackFaceUnrepaired | stackFillUnrepaired | stackMemUnrepaired | stackFatal | stackMappedOut | fuseFail | clkLockLost
  | planeDamaged | planeLoadActive | regionActiveDbe | patrolActiveUnrepaired | patrolDbeLeft
  | regionOverrun | threadOverrun | threadFault | watchdogExpired | seqPostedErr | seqCmdRefused
  | imgReject | imgFail | imgApplyErr | imgSvNotAdvanced
  | netIsolate | netEpochStuck | larderWbLost | larderSkew | netHdrErr
  | memUncorrectable | memSoftRepair | memRepairNotSaved | memHardFault | memUePorter | poisonConsumed
  | sdTrainFail | sdUe | sdKeytag | sdUeScrub
  | linkDown | linkTrainFail | twinMismatch | twinRoleConflict | twinDiverge | twinLost | twinMirrorSkip
  | twinRestoreFail | snoopMismatch
  | thermSensorFail | thermalLevel | thermNotifyFail | thermalShutdown
  | gbLost | jnlSectorRetired | itinSkip | startStop | fdReset
  | alarm (a : Fin 7) | lcAdvanced | keySlotChanged
  | blockEvent (i : Nat)
  | unclassified (block : Nat)
  deriving DecidableEq, Repr

/-- One event as it waits to be written: its code, its priority (0 LOW, 1 NORMAL, 2 ALERT, 3 FATAL), the ARGS words
(R428), and the time stamp of R427. -/
structure GbEntry where
  ev    : Gb
  prio  : Nat
  args  : List Nat
  start : Nat
  tick  : Nat
  pos   : Nat
  deriving DecidableEq, Repr

/-! ## Regions, planes and fills (chapters 2 and 3) -/

/-- A stored frame (R86, R88): data bits [4095:0] and status as the write path wrote them, and the bits of the stored
4,112 that have flipped since. An unwritten frame is erased. -/
structure Frame where
  data   : Nat
  status : Nat
  flips  : List Nat
  deriving DecidableEq, Repr

/-- An erased frame (R88). -/
def Frame.erased : Frame := ⟨0, 3, []⟩

/-- The region commands of R96 that a region judges. `fill p pre`: `pre` tells a PRE from the other fills (R177). -/
inductive RCmdKind where
  | powerUp | powerOff | fill (p : Nat) (pre : Bool) | swap (p : Nat) | hold | release | stop | isolate | unisolate
  | clear | cancelFill
  deriving DecidableEq, Repr

/-- An accepted region command that has not taken effect (R96). -/
structure RCmd where
  kind : RCmdKind
  src  : CmdSrc
  deriving DecidableEq, Repr

/-- A frame that the patrol or a fill found to need a correction in place (R221, R222): region, plane, frame, and whether
the frame was written since. -/
structure Corr where
  n     : Nat
  p     : Nat
  f     : Nat
  stale : Bool
  deriving DecidableEq, Repr

/-- A frame that a walker has read and whose check is not complete (R220): stored or active, where, the error seen
(0 none, 1 single, 2 double or status), the swap count of the region when it was read (R227), whether the
frame was written since (R221), and the reference cycle of the read (R218). -/
structure Chk where
  active  : Bool
  n       : Nat
  p       : Nat
  f       : Nat
  verdict : Nat
  swaps   : Nat
  stale   : Bool
  cycle   : Nat
  deriving DecidableEq, Repr

/-- A request held for a closed or off port of a waystation (R256): station number, port, domain, request. The first 16
of a station are in its park buffer; a later one waits in its input buffer. -/
structure ParkEntry where
  station : Nat
  port    : Nat
  dom     : Nat
  rq      : Request
  deriving DecidableEq, Repr

/-- What is armed for a boundary (R128): a swap to a plane, or a STOP (no plane), and who armed it. -/
structure Arm where
  plane : Option Nat
  src   : CmdSrc
  deriving DecidableEq, Repr

/-- A swap in its clamp cycle (R104): the incoming plane (none: the blank configuration), whether the device itself
makes it as a fallback (R119), and who armed it. -/
structure SwapJob where
  plane    : Option Nat
  fallback : Bool
  src      : CmdSrc
  deriving DecidableEq, Repr

/-- The restore record of R146: the plane to bring back and the thread whose PRE displaced it. -/
structure Restore where
  plane  : Nat
  thread : Nat
  deriving DecidableEq, Repr

/-- The state of one region that no register shows. -/
structure Region where
  /-- accepted commands in the order of acceptance (R96) -/
  cmdq     : List RCmd := []
  /-- armed swaps by slot-boundary number (R128); number 0 is an arming that waits for no boundary (R130) -/
  arms     : List (Nat × Arm) := []
  /-- A_b of the next boundary has passed (R127) -/
  decided  : Bool := false
  /-- the swap in its clamp cycle (R104) -/
  clamping : Option SwapJob := none
  /-- restore record (R146) -/
  restore  : Option Restore := none
  /-- reference cycle at which the fill in the shadow was accepted (R100, TIME of REGION_FILL) -/
  fillAt   : Nat := 0
  /-- plane of a fill that is speculative and the thread that issued it (R102, R146) -/
  specBy   : Option Nat := none
  /-- plane and generation of the spill in progress (R89, R106) -/
  spill    : Option (Nat × Nat) := none
  /-- which of the two latch sets is active (R85); the other is the shadow -/
  sel      : Bool := false
  /-- a fill accepted in a clamp cycle, queued after it: its plane, and the thread of a speculative one (R99) -/
  later    : Option (Nat × Option Nat) := none
  /-- the latest edge of the region clock was a swap edge: the outbound clamps stay engaged until the next (R111) -/
  edgeNow  : Bool := false
  /-- frames of the active latches known to carry a double-bit error (R108, R118) -/
  badActive : List Nat := []
  /-- frames waiting for a refetch of the active latches: frame, plane, data of the good copy once it was read (R115, R224) -/
  refetch  : List (Nat × Nat × Option Nat) := []
  /-- the fallback plane of a fallback that is under way (R119) -/
  fallback : Option Nat := none
  /-- hold source OVERRUN is set at the next boundary (R133) -/
  ovrHold  : Bool := false
  /-- inbound border clamps engaged (R110) -/
  clampIn  : Bool := true
  /-- outbound border clamps engaged (R110) -/
  clampOut : Bool := true
  /-- token of the last power-up of the domain: names the undefined block RAM contents (R60) -/
  bramTok  : Nat := 0
  /-- user-clock cycles left of a debugger step (R485) -/
  stepLeft : Nat := 0
  /-- event lines whose pulse begins with the next region cycle, and those that pulse in this one (R84): bit k for ev[k] -/
  evDue    : Nat := 0
  evNow    : Nat := 0
  deriving DecidableEq, Repr

/-- The registers of an arithmetic slice (R50 to R52): X, Y, W, M, the result Q, and the output OV. -/
structure SliceRegs where
  x  : BitVec 27 := 0
  y  : BitVec 27 := 0
  w  : Word := 0
  m  : BitVec 54 := 0
  q  : Word := 0
  ov : Bool := false
  deriving DecidableEq, Repr

/-- The last access of a block RAM port, or of the window in the place of port B (R57, R62): when, as a reference cycle and a fraction of it, the rows
with the bits that it read and those that it wrote, how far the lowest bit that it read lies from bit 0 of the read output, and ECC mode. -/
structure RamUse where
  cycle : Nat
  num   : Nat
  den   : Nat
  reach : List (Nat × Nat × Nat)
  shift : Nat
  ecc   : Bool
  deriving DecidableEq, Repr

/-- A block RAM port (R55 to R59): the read output, the output register, ECC_C and ECC_U, the extra cycle of a partial ECC write that the port still
takes, and its last access. A ganged port is kept as port A. -/
structure RamPort where
  out  : Nat := 0
  reg  : Nat := 0
  eccC : Bool := false
  eccU : Bool := false
  busy : Bool := false
  last : Option RamUse := none
  deriving DecidableEq, Repr

/-- An isolation cell (R64, R65, R67, R112): the group's value at the end of the sender's last computed cycle that passed, and the two flip-flop
stages of SYNC2. -/
structure Cell where
  last : Nat := 0
  syn1 : Nat := 0
  syn2 : Nat := 0
  deriving DecidableEq, Repr

/-- One response that waits in a region port for its plane (R77). -/
structure Parked where
  plane : Nat
  tag   : Nat
  ans   : Answer
  deriving DecidableEq, Repr

/-- A region port (R74 to R81) beyond its registers. -/
structure Port where
  /-- requests without an answer: the plane that issued each, and its tag (R77) -/
  waiting  : List (Nat × Nat) := []
  /-- parked responses in arrival order (R77) -/
  parked   : List Parked := []
  /-- the inbound queue (R78) -/
  inq      : List Request := []
  /-- a packet of the fabric is partly accepted (R76) -/
  partly   : Bool := false
  /-- input flits the fabric has not taken (R80): samples and pin_tick_first -/
  pinIn    : List (List (BitVec 32) × Bool) := []
  /-- samples taken for the flit that the bank is packing, and whether its sample 0 is the first of a tick (R80) -/
  pinTaken : Nat := 0
  pinFirst : Bool := false
  /-- flits packed and not yet arrived: pin_count and pin_tick_first (R80) -/
  pinDue   : List (Nat × Bool) := []
  /-- output samples: reference cycle from which each may be driven, data, output enables (R81) -/
  pinOut   : List (Nat × BitVec 32 × BitVec 32) := []
  deriving DecidableEq, Repr

/-- One face channel (R20 to R23): the level the sender drives, the level the receiver's keeper holds, the reference cycle at which the next refresh
falls due, and the cycles of the sending region's clock after which it falls due if that comes first. -/
structure Face where
  sent : Bool
  kept : Bool
  due  : Nat
  left : Nat
  deriving DecidableEq, Repr

/-- A block RAM window access in progress (R61, R62). -/
structure WinAcc where
  rq    : Request
  block : Nat
  row   : Nat
  left  : Nat
  got   : List Byte
  deriving DecidableEq, Repr

/-- What a GPIO bank's 32 pads carry: the driven data, the output enables and the level each pad sees. -/
structure Pads where
  data : BitVec 32 := 0
  oe   : BitVec 32 := 0
  deriving DecidableEq, Repr

/-! ## Ticks, slots and the context sequencer (chapters 4 and 5) -/

/-- The tick generator beyond its registers (R120 to R126). -/
structure TickGen where
  /-- the first boundary after EN is placed and has not fallen (R124) -/
  first     : Bool := false
  /-- EN was written 0: the boundary that ends the tick is the last (R124) -/
  stopping  : Bool := false
  /-- the last boundary has fallen, and its steps of R131 are not all done (R124) -/
  ended     : Bool := false
  /-- reference cycle of the current tick boundary -/
  tickStart : Nat := 0
  /-- reference cycle of the current slot boundary -/
  slotStart : Nat := 0
  /-- reference cycle of a boundary placed by TICK_IN or by a tick marker (R125) -/
  placed    : Option Nat := none
  /-- the generator runs as INTERNAL until an edge arrives (R125) -/
  lost      : Bool := false
  /-- slot boundaries that have fallen -/
  bno       : Nat := 0
  /-- the layout queued by APPLY: N − 1, P and the starts of slots 0 to 15 (R123) -/
  queued    : Option (Nat × Nat × List Nat) := none
  /-- with SRC LINK: a usable marker has placed the next tick boundary (R347) -/
  usable    : Bool := false
  /-- tick boundaries in a row that passed without a usable marker (R347) -/
  unmarked  : Nat := 0
  /-- reference cycles of a late correction still to be applied (R347) -/
  rest      : Nat := 0
  /-- a marker has placed the boundary after the next: its reference cycle, and what of a late correction remains after it (R347) -/
  ahead     : Option (Nat × Nat) := none
  deriving DecidableEq, Repr

/-- An effect buffered inside a locked sequence (R148, R181). -/
inductive Effect where
  | write (addr size : Nat) (data : List Byte) (poison : Bool) (pc : Nat)
  | cstart (c addr pc : Nat)
  | snap (addr pc : Nat)
  | region (n : Nat) (kind : RCmdKind)
  | pwr (d : Nat) (on : Bool)
  | events (lines : List Nat)
  | mirrThread
  | mirrRegion (n : Nat)
  | mirrBank (b : Nat)
  | stim (port : Nat) (value : Word) (poison : Bool)
  | kick
  deriving DecidableEq, Repr

/-- The record of a locked sequence (R148, R152): where LOCK stands, the registers and tags at its commit, and the
buffered effects in program order. -/
structure LockRec where
  pc      : Nat
  regs    : Store Word
  tags    : BitVec 32
  effects : List Effect
  deriving DecidableEq, Repr

/-- What the oldest instruction of a thread in WAIT waits for (R170, R178, R180). -/
inductive Wait where
  | tick
  | slot (k : Option Nat)
  | flag (line : Nat) (level timed : Bool) (rd : Nat)
  | shad (n rd : Nat)
  | delay
  | courier (c rd : Nat)
  | bar (b rd : Nat) (timed : Bool)
  deriving DecidableEq, Repr

/-- The access whose answer the oldest instruction waits for (R164, R175). -/
inductive PendKind where
  | load (rd rc : Nat) (tol sx : Bool) (size addr : Nat)
  | other (rc : Nat) (tol : Bool)
  deriving DecidableEq, Repr

/-- A request of the oldest instruction that waits for its answer. -/
structure Pend where
  pc   : Nat
  tag  : Nat
  kind : PendKind
  deriving DecidableEq, Repr

/-- What a thread has issued ahead of commit with an effect outside itself (R145, R146); `seq` counts the thread's
instructions, so that the oldest has the number of committed ones. -/
inductive SpecOp where
  | pre (seq region plane : Nat) (refused : Option Nat)
  | read (seq pc tag addr size : Nat) (ans : Option Answer)
  deriving DecidableEq, Repr

/-- A conditional branch, BFS or BFC that has issued (R144, R168): its instruction number, its prediction, and the flag line that BFS and BFC name as
it was in the issue cycle. -/
structure BranchIssue where
  seq   : Nat
  taken : Bool
  flag  : Bool
  deriving DecidableEq, Repr

/-- A thread of the sequencer (R137 to R155) beyond its registers. -/
structure Thread where
  regs    : Store Word := []
  tags    : BitVec 32 := 0
  commits : Nat := 0
  lock    : Option LockRec := none
  wait    : Option Wait := none
  pend    : Option Pend := none
  spec    : List SpecOp := []
  /-- branches that have issued: what each was predicted and what it saw of the flags word (R144, R168) -/
  issued  : List BranchIssue := []
  /-- branches that resolved ahead of commit: instruction number and whether taken (R144) -/
  resolved : List (Nat × Bool) := []
  /-- posted effects without an answer: tag, word index, the address of an ST (R174, R175) -/
  posted  : List (Nat × Nat × Option Nat) := []
  /-- by instruction number, the word that was in place when the instruction may have been fetched, and whether it certainly was (R142) -/
  old     : Store (Option (Word × Bool)) := []
  /-- pending halts of R136: STOP, a halt with its cause, RESTART -/
  stopReq : Bool := false
  haltReq : Option Nat := none
  rstReq  : Bool := false
  /-- a debugger STEP runs: the thread halts again after one instruction (R483) -/
  stepping : Bool := false
  /-- the watchdog counter has reached 0 while EN was 1, and WATCHDOG_EXPIRY has still to act on it (R154) -/
  wdtDue  : Bool := false
  /-- the ACTION that a debugger halt deferred (R155) -/
  deferAct : Nat := 0
  deriving DecidableEq, Repr

/-- A command on the region command path to L3 (R141). `spec` carries the instruction number of a speculative PRE, and
`bno` the boundary that a swap armed for when it committed. -/
inductive PathCmd where
  | cmd (n : Nat) (c : RCmd) (bno : Nat)
  | spec (n p t seq : Nat)
  | squash (n p t : Nat)
  | pwr (d : Nat) (on : Bool) (t : Nat)
  deriving DecidableEq, Repr

/-! ## Power domains (chapter 15) -/

/-- Who asked for a power domain (R388). -/
inductive PwrSrc where
  | host | thread (t : Nat) | regionCtl | innkeeper | wake
  deriving DecidableEq, Repr

/-- A switched domain beyond PWR_DOM_CTL (R387 to R389). -/
structure Dom where
  /-- past the point of no return of R255 -/
  pnr     : Bool := false
  /-- the sources of the OFF requests that wait for the domain to be ON, in order (R389) -/
  offWait : List PwrSrc := []
  /-- a request ON that waits for the domain to reach OFF (R387) -/
  onWait  : Bool := false
  /-- a die-local reset closes the region's domain (R257, R412) -/
  reset   : Bool := false
  deriving DecidableEq, Repr


/-! ## Units handed to the test engine, fuses, outstanding requests -/

/-- A unit that a test runs on (R453): the planes of configuration domain j, the block RAM of a region, a larder slice, a
scratchpad bank. -/
inductive TestUnit where
  | config (j : Nat) | bram (n : Nat) | slice (k : Nat) | bank (b : Nat)
  deriving DecidableEq, Repr

/-- A request of an initiator of the device that has no answer, or whose tag is not free (R241, R252). -/
structure Outst where
  /-- node of the initiator -/
  node  : Nat
  tag   : Nat
  /-- flits of reserved answer space (R241) -/
  space : Nat
  /-- the answer that has arrived and is not consumed -/
  ans   : Option Answer
  /-- the initiator has handed itself TIMEOUT; the tag stays unused (R252) -/
  late  : Bool
  /-- the answer was consumed -/
  taken : Bool
  deriving DecidableEq, Repr

/-- What the fuses of the part hold (R36, R442, R463). -/
structure Fuses where
  speed      : Nat := 2
  temp       : Nat := 1
  deriving DecidableEq, Repr



/-! ## Trace, mirror sets, snapshots, global barriers -/

/-- A trace record of R490, as its fields. -/
structure TraceRec where
  data   : Nat
  port   : Nat
  size   : Nat
  poison : Bool
  kind   : Nat
  src    : Nat
  time   : Nat
  deriving DecidableEq, Repr

/-- The trace engine beyond its registers (R489 to R493). -/
structure Trace where
  /-- records accepted and not written, at most 256 -/
  buf  : List TraceRec := []
  /-- records lost since the last LOST record -/
  lost : Nat := 0
  /-- records that may still enter after TRACE_STOP -/
  post : Option Nat := none
  /-- the 128-byte group in flight: its bank -/
  sent : Option Nat := none
  /-- number of the next lane frame (R492) -/
  frameNo : Nat := 0
  deriving DecidableEq, Repr

/-- The state of a thread as a mirror or a snapshot captures it (R361). -/
structure Capt where
  regs : Store Word
  tags : BitVec 32
  owed : Bool
  deriving DecidableEq, Repr

/-- What the MIRR instructions of the tick in progress named (R183, R361). -/
structure MirrSet where
  threads : Store (Option Capt) := []
  regions : List Nat := []
  banks   : List Nat := []
  deriving DecidableEq, Repr

/-- A snapshot that is asked for (R374): its destination, and the low 16 bits of TICK_COUNT at which a host asked for it;
none: the boundary that ends the tick in progress. -/
structure SnapReq where
  dest   : Nat
  atTick : Option Nat
  deriving DecidableEq, Repr

/-- A global barrier (R373): this device has sent its BAR_ARRIVE (or counted itself); the devices that the leader counted. -/
structure GBar where
  sent : Bool := false
  devs : List Nat := []
  deriving DecidableEq, Repr



/-! ## Images (chapter 6) -/

/-- A staged section of an image (R191, R192): its index, TYPE and payload. -/
structure Staged where
  index : Nat
  typ   : Nat
  data  : List Byte
  deriving DecidableEq, Repr

/-- How far a committed image is (R204, R212): the security floor is being raised; regions come up and the staged sections are applied; start fills
run; swaps run. -/
inductive ImgPhase where
  | none | floor | up | fills | swaps
  deriving DecidableEq, Repr

/-- The image in progress (R189 to R212): the header's fields, bytes accepted, the hash subkey and the running hash of GCM
(R196), the section in progress (its header bytes or TYPE, region, plane, bytes left, the bytes gathered), the next
section's index, the staged sections, the trailer; of a committed image the staged sections applied, the words of a BRAM_INIT run sent, and the tag of
the word that awaits its answer (R204). -/
structure Img where
  src      : Nat := 0
  enc      : Bool := false
  start    : Bool := false
  advance  : Bool := false
  total    : Nat := 0
  stagedLen : Nat := 0
  secVer   : Nat := 0
  count    : Nat := 0
  regions  : Nat := 0
  slot     : Nat := 0
  key      : Nat := 0
  nonce    : Nat := 0
  got      : Nat := 0
  subkey   : Nat := 0
  digest   : Ghash := {}
  head     : List Byte := []
  typ      : Nat := 0
  region   : Nat := 0
  plane    : Nat := 0
  left     : Nat := 0
  frame    : Nat := 0
  gather   : List Byte := []
  index    : Nat := 0
  stagedSum : Nat := 0
  staged   : List Staged := []
  trailer  : List Byte := []
  phase    : ImgPhase := .none
  applied  : Nat := 0
  words    : Nat := 0
  sent     : Option Nat := none
  deriving DecidableEq, Repr



/-! ## The network and couriers (chapter 8) -/

/-- A packet inside the network: the node of this device that it goes to, as its ingress decoded it (R230, R243, R244); none for a request that
the ingress holds undecoded during a rehash (R275). -/
structure Flight where
  dest : Option Nat
  pkt  : Packet
  deriving DecidableEq, Repr

/-- An input buffer of a waystation on one virtual network (R239, R240): the packets it holds, oldest first, and the flits
that have left it without their credits returned. -/
structure NetBuf where
  pkts : List Flight := []
  gone : Nat := 0
  deriving DecidableEq, Repr

/-- A request that a waystation delivered to a port and that has no answer (R253); `late`: its timer has expired. -/
structure Deliv where
  station : Nat
  port    : Nat
  rq      : Request
  late    : Bool
  deriving DecidableEq, Repr

/-- A route epoch change in progress (R250): the stations that stamp with the new epoch while CUR has not changed, the marks
received (by input buffer), the stations that have reported, and whether the drain was found to take over 1 ms. -/
structure EpochChange where
  setAt    : List Nat := []
  marks    : List Nat := []
  reported : List Nat := []
  stuck    : Bool := false
  deriving DecidableEq, Repr

/-- What an outstanding request of a courier does (R260): fetch a descriptor, read data for a destination, write. -/
inductive CourKind where
  | fetch
  | read (dst : Nat)
  | write
  deriving DecidableEq, Repr

/-- An outstanding request of a courier. -/
structure CourReq where
  tag  : Nat
  kind : CourKind
  addr : Nat
  size : Nat
  deriving DecidableEq, Repr

/-- A courier's write whose data has been read (R488): destination, bytes, poison bits. -/
structure CourWrite where
  dst    : Nat
  data   : List Byte
  poison : Nat
  deriving DecidableEq, Repr

/-- A courier beyond its registers (R258 to R261): the current descriptor, the next byte to issue, outstanding requests,
and the code and address with which the transfer ends. -/
structure Courier where
  desc    : Nat := 0
  fill    : Bool := false
  chain   : Bool := false
  rows    : Nat := 0
  src     : Nat := 0
  dst     : Nat := 0
  length  : Nat := 0
  sstride : Nat := 0
  dstride : Nat := 0
  next    : Nat := 0
  row     : Nat := 0
  off     : Nat := 0
  reqs    : List CourReq := []
  /-- writes that the freeze holds back: their data has been read (R488) -/
  ready   : List CourWrite := []
  stop    : Option (Resp × Nat) := none
  deriving DecidableEq, Repr



/-! ## The larder, the scratchpad banks and their protection (chapters 9 and 10) -/

/-- A larder line (R263, R272): its way, the stored bytes by offset (256 × check error + data, R289), dirty, the recorded key
ID. -/
structure Line where
  way   : Nat
  cells : Store Nat
  dirty : Bool
  key   : Nat
  deriving DecidableEq, Repr

/-- The answer of an SDRAM port to a line fill (R320): the code, the 128 bytes as one little-endian number, the poisoned words,
and the key ID of the window. -/
structure FillAns where
  code   : Resp
  data   : Nat
  poison : Nat
  key    : Nat
  deriving DecidableEq, Repr

/-- A miss entry of a slice (R269): the line, the way that the fill takes, the requests that wait, the answer once the port has
given it. -/
structure Miss where
  line : Nat
  way  : Nat
  reqs : List Request
  ans  : Option FillAns
  deriving DecidableEq, Repr

/-- How far a write-back is: sent to the port, answered, waiting to be sent again (R273). -/
inductive WbStage where
  | sent
  | answered (code : Resp)
  | retry
  deriving DecidableEq, Repr

/-- A write-back (R269, R272 to R275): slice, line, recorded key, data, poisoned words, whether it is a victim in the write-back
buffer, whether a maintenance operation waits for it, failed attempts, stage. -/
structure Wb where
  slice  : Nat
  line   : Nat
  key    : Nat
  data   : Nat
  poison : Nat
  victim : Bool
  op     : Bool
  fails  : Nat
  stage  : WbStage
  deriving DecidableEq, Repr

/-- A slice beyond its lines: its miss entries, and the requests that wait, oldest first (R269). -/
structure Slice where
  misses  : List Miss := []
  waiting : List Request := []
  deriving DecidableEq, Repr

/-- The maintenance operation in progress (R274, R275): CLEAN, FLUSH (for RETIRE: of a key ID, R322), or REHASH, with its hold
phase. -/
inductive LarderOp where
  | clean
  | flush (retire : Option Nat)
  | rehash (newSalt hold : Bool)
  deriving DecidableEq, Repr

/-- The larder beyond its registers. -/
structure Larder where
  /-- SALT (R265) -/
  salt   : Nat := 0
  /-- lines by A[41:7] -/
  lines  : Store (Option Line) := []
  slices : Store Slice := []
  /-- the pseudo-LRU tree of a set, by 3072 × slice + set (R269) -/
  plru   : Store Nat := []
  wbs    : List Wb := []
  op     : Option LarderOp := none
  /-- requests delivered to each slice in the monitor window in progress (R278) -/
  counts : Store Nat := []
  deriving DecidableEq, Repr

/-- A scratchpad bank beyond its registers: the state it changes to (R288), the handover in progress (KIND, ID), and the requests
that wait for either, oldest first. -/
structure Bank where
  toward  : Option Nat := none
  newOwner : Option (Nat × Nat) := none
  /-- requests accepted before the owner write of the handover in progress, which the bank completes (R284) -/
  accepted : List Request := []
  waiting : List Request := []
  deriving DecidableEq, Repr

/-- The states of a tracker entry (R295). -/
inductive TrackState where
  | counting | queued | rewritten | hard
  deriving DecidableEq, Repr

/-- A tracker entry (R295, R296), oldest first in its list: word address, count, state; whether a porter pass began since the entry
was taken or rewritten; whether its word was corrected since; of a hard fault that the porter has still to repair, the row (R297). -/
structure TrackEntry where
  addr  : Nat
  count : Nat
  state : TrackState
  full  : Bool
  again : Bool
  fault : Option Nat
  deriving DecidableEq, Repr

/-- A night porter beyond its registers (R301, R302): the repair load has started it; it has finished the pass and PASS has not
ended; PASS has ended before the pass was complete. -/
structure Porter where
  started : Bool := false
  done    : Bool := false
  passOver : Bool := false
  deriving DecidableEq, Repr

/-! ## SDRAM (chapter 11) -/

/-- A stored SDRAM line (R312 to R314): the data before encryption, the key that encrypted it (none: stored plain), the key tag,
the poison pattern, and the symbols that have gone wrong (codeword, symbol, error). A line not listed is void. -/
structure SdLine where
  data   : Nat
  enc    : Option Nat
  tag    : Nat
  poison : Nat
  wrong  : List (Nat × Nat × Nat)
  deriving DecidableEq, Repr

/-- A void line (R314). -/
def SdLine.void : SdLine := ⟨0, none, 0x7F80, 0, []⟩

/-- Where a line lies: channel, rank, row, bank group, bank, column (R311). -/
structure SdPlace where
  channel : Nat
  rank    : Nat
  row     : Nat
  group   : Nat
  bank    : Nat
  column  : Nat
  deriving DecidableEq, Repr

/-- The SDRAM ports beyond their registers. -/
structure Sdram where
  /-- lines by A[41:7] -/
  lines   : Store SdLine := []
  /-- the key that each XTS key ID holds, as the number of its draw -/
  keys    : Store (Option Nat) := []
  /-- the key ID whose command MKEY_CMD runs, and the command -/
  cmd     : Option (Nat × Nat) := none
  /-- channels that the SWEEP in progress has still to sweep, and whether each was in SELF_REFRESH -/
  sweep   : List (Nat × Bool) := []
  /-- channels with an SR_ENTER that waits for the end of their sweep -/
  srWait  : List Nat := []
  /-- lines that the port scrub of each channel has read in its pass, and whether the pass has run past PERIOD -/
  scrub   : Store Nat := []
  scrubOver : Bool := false
  deriving DecidableEq, Repr


/-! ## Links, the twin link, snoop units, the thermal model (chapters 12 to 15) -/

/-- A sequenced frame that is not acknowledged (R343): SEQ, the credits it returns, its packets, how often in a row it was replayed. -/
structure TxFrame where
  seq     : Nat
  crReq   : Nat
  crRsp   : Nat
  pkts    : List Packet
  replays : Nat
  deriving DecidableEq, Repr

/-- A frame in the symbol stream: a control frame, a sequenced frame, or what is left of an aborted one (R338, R343). -/
inductive StreamKind where
  | control | sequenced | aborted
  deriving DecidableEq, Repr

/-- A frame that waits for the line or is in progress (R337): its symbols, and how many of them have left. -/
structure StreamFrame where
  kind : StreamKind
  syms : List Sym
  sent : Nat
  deriving DecidableEq, Repr

/-- A lane group beyond its registers (R333 to R354): it is a start link of the start sequence (R334); of an ACTIVE link the
next SEQ, the last SEQ accepted, a NAK sent and no frame accepted since, the replay buffer, the cycle of the last ACK or replay (R343),
the credits held for the partner's buffers, the previous record received (R341); of the line the frames of the symbol stream, tick
marker symbols that wait, columns since the last alignment column (R337), the fifths of a symbol that the last cycle left (R329), and
running disparities by lane, sent and received (R332); of training the columns left of the set in progress, TS2 sets begun, PING, ECHO
and the cycle in which that PING came, the cycle of the entry to TRAIN (R335, R336); of a raw group the inbound flits that the fabric
has not taken (R353). -/
structure Link where
  start   : Bool := false
  txSeq   : Nat := 0
  rxAck   : Nat := 1023
  nak     : Bool := false
  sent    : List TxFrame := []
  ackAt   : Nat := 0
  credReq : Nat := 0
  credRsp : Nat := 0
  prev    : Option Packet := none
  stream  : List StreamFrame := []
  marks   : List Sym := []
  since   : Nat := 0
  phase   : Nat := 0
  txRd    : Nat := 0
  rxRd    : Nat := 0
  set     : List (List Sym) := []
  sets    : Nat := 0
  ping    : Nat := 0
  echo    : Nat := 0
  echoAt  : Nat := 0
  trainAt : Nat := 0
  rawIn   : List (BitVec 512) := []
  deriving DecidableEq, Repr

/-- A mirrored or snapshot item (R363): KIND, INDEX, PLANE, TICK, MASK, its data. -/
structure TwinItem where
  kind  : Nat
  index : Nat
  plane : Nat
  tick  : Nat
  mask  : Nat
  data  : List Byte
  deriving DecidableEq, Repr

/-- A stream that the engine writes out (R364, R374): pair tick, device and address it goes to, the bytes, the poisoned 8-byte words of the
stream, bytes sent, the tags without an answer, and the first answer other than OK. -/
structure TwinTx where
  tick   : Nat
  dest   : Nat
  data   : List Byte
  poison : List Nat
  sent   : Nat
  tags   : List Nat
  code   : Resp
  deriving DecidableEq, Repr

/-- A takeover or a restore under way (R368): the pair tick whose end is b_T, whether LATEST copies are restored, whether it ends in
STANDBY (DIV_RESTORE), the threads that were stopped, the banks handed to TWIN with their prior owners, the regions that are
filled with the planes. -/
structure Takeover where
  tick    : Nat
  restore : Bool
  diverge : Bool
  threads : List Nat
  banks   : List (Nat × Nat × Nat)
  regions : List (Nat × Nat)
  deriving DecidableEq, Repr

/-- The twin-link engine beyond its registers (R356 to R375): JOIN sent since the pair last parted; paired as the standby; a mirror is
committed; the standby's offset to the pair tick; the LATEST thread and region items; banks with a LATEST copy; the incoming
stream by offset (1 + byte + 256 × poison); the mirror stream being sent; own and partner's check values by pair tick; the output
samples of the tick by GPIO bank; consecutive MISSED; first pair tick of the pair; the takeover under way; pair ticks at whose end
a primary resigns or is fenced; the ID of the last RESET acted on; the snapshot being written. -/
structure Twin where
  joinSent : Bool := false
  standby  : Bool := false
  mirrored : Bool := false
  offset   : Nat := 0
  latest   : List TwinItem := []
  gotBanks : List Nat := []
  rx       : Store Nat := []
  /-- TWIN_BANK entries whose copy did not take all that came of the incoming stream (R365) -/
  rxLost   : List Nat := []
  tx       : Option TwinTx := none
  own      : List (Nat × Nat) := []
  peer     : List (Nat × Nat) := []
  samples  : Store (List (BitVec 32 × BitVec 32)) := []
  missRun  : Nat := 0
  paired   : Option Nat := none
  take     : Option Takeover := none
  resign   : Option Nat := none
  fence    : Option Nat := none
  lastReset : Option Nat := none
  /-- RESET records that are to be sent: lane group and ID (R375) -/
  resets   : List (Nat × Nat) := []
  snap     : Option TwinTx := none
  deriving DecidableEq, Repr

/-- An entry of a snoop unit's FIFO (R384): result, poison, WINDOWS. -/
structure SnoopEntry where
  value  : Nat
  poison : Bool
  seq    : Nat
  deriving DecidableEq, Repr

/-- A snoop unit beyond its registers (R380 to R384): a window is open, the running check value, packets counted, poison covered, the
FIFO, oldest first. -/
structure Snoop where
  isOpen : Bool := false
  value  : Nat := 0
  pkts   : Nat := 0
  poison : Bool := false
  fifo   : List SnoopEntry := []
  deriving DecidableEq, Repr

/-- The power and thermal logic beyond its registers (R393 to R407): the device totals of the last 100 monitor intervals in mW, newest
first; the powers of the last interval by monitored domain; the lid estimate in 1/8 °C; layer and cell that set T_gov at the previous
round, none until the first round since PORST_N; a device reset has ended the failed sensors' marks, and the next round judges every sensor anew (R398); the
reference cycle in which the running grace time began (R400), from which T_gov has been at or above ASK_T in ENFORCED (R401), and from which
the dwell counts (R405); the tags of notices without an answer. -/
structure Thermal where
  totals  : List Nat := []
  powers  : List Nat := []
  lid     : Int := 0
  govRound : Option (Nat × Nat) := none
  rejudge : Bool := false
  graceAt : Option Nat := none
  hotAt   : Option Nat := none
  coolAt  : Option Nat := none
  notices : List Nat := []
  deriving DecidableEq, Repr



/-! ## The journal, the front desk, security and self-test (chapters 16 to 18) -/

/-- The fields of a soft-repair or map-out record (R462). -/
structure RepRec where
  kind      : Nat
  unit      : Nat
  spareKind : Nat
  spare     : Nat
  replaced  : Nat
  deriving DecidableEq, Repr

/-- The fields of an itinerary record (R422): PHASE 0 BEGIN, 1 END; OUTCOME 0 OK, 1 FAIL, 2 SKIPPED. -/
structure ItinRec where
  start   : Nat
  step    : Nat
  phase   : Nat
  outcome : Nat
  unit    : Nat
  detail  : Nat
  tick    : Nat
  deriving DecidableEq, Repr

/-- What a journal record holds (R418): a counter, the start settings, the guestbook freeze, an itinerary entry, a soft repair
or the mark that it was burned (R464), a field map-out or its clearing, a request for a stack channel test (R465), an image-key
slot (R442: slot, state, epoch, the wrapped key), a guestbook event, a user record (sector, slot, body). -/
inductive JBody where
  | counter (i v : Nat)
  | settings (body : Nat)
  | freeze (on : Bool)
  | itin (r : ItinRec)
  | soft (r : RepRec)
  | burned (r : RepRec)
  | mapout (r : RepRec)
  | cleared (r : RepRec)
  | stackTest (next : Bool)
  | keySlot (slot state epoch blob : Nat)
  | event (e : GbEntry)
  | user (sector slot body : Nat)
  deriving DecidableEq, Repr

/-- A record that counts in the journal, with its 48-bit write sequence number (R419) and the place of its slot: 256 × logical sector + slot. -/
structure JRec where
  body : JBody
  seq  : Nat
  at'  : Nat
  deriving DecidableEq, Repr

/-- Who asked for a record write: the device itself, the front desk's command, a test of engine e, one that step 5 runs, the stack channel test, the
night porter of die d. -/
inductive JSrc where
  | device
  | desk
  | test (e : Nat)
  | startTest (e : Nat)
  | stackTest
  | porter (d : Nat)
  deriving DecidableEq, Repr

/-- A record write that waits or is in progress (R419): how many guestbook events were queued ahead of it, and who asked for it. -/
structure JWrite where
  body  : JBody
  ahead : Nat
  src   : JSrc
  deriving DecidableEq, Repr

/-- The front desk's command waits for the write. -/
def JWrite.fd (w : JWrite) : Bool := w.src == .desk

/-- A physical sector's header (R418): LOGICAL, GEN and the record writes that WEAR counts. -/
structure JSector where
  logical : Nat
  gen     : Nat
  writes  : Nat
  deriving DecidableEq, Repr

/-- The journal (R418 to R421): MRAM contents, which every reset keeps. -/
structure Journal where
  seq     : Nat := 0
  recs    : List JRec := []
  /-- the slot that the next record of a group of sectors takes, counted from 0 in the group, by the group's first sector -/
  next    : Store Nat := []
  /-- headers of the physical sectors, where they differ from the first ones (R418) -/
  sectors : Store (Option JSector) := []
  /-- record writes that wait, oldest first; a device reset loses them -/
  queue   : List JWrite := []
  /-- slots that fail their CRC since a write was cut short in phase 1 (R419, R435) -/
  torn    : Nat := 0
  deriving DecidableEq, Repr

/-- What the front desk's command in progress waits for (R434). -/
inductive FdWait where
  | image
  | journal
  | reset
  deriving DecidableEq, Repr

/-- The front desk beyond FD_STAT (R432 to R435): the command block; what it waits for; the bytes of DATA_IN by offset
(0: none; 1 + the byte; 256 more where it came poisoned); one of its records is written; the result bytes; PROGRESS; STATUS, DETAIL and
the flags READY, REJECT and ABORT_LATE; the reference cycle of acceptance. -/
structure Desk where
  code     : Nat := 0
  arg0     : Nat := 0
  arg1     : Nat := 0
  wait     : Option FdWait := none
  input    : Store Nat := []
  part     : Bool := false
  result   : List Byte := []
  progress : Nat := 0
  status   : Nat := 1
  detail   : Nat := 0
  ready    : Bool := false
  reject   : Bool := false
  late     : Bool := false
  since    : Nat := 0
  deriving DecidableEq, Repr

/-- The start sequence beyond START_STAT (R412 to R426): the flash images that step 6 has tried, the image under way (0 primary, 1 alternate, 2 host),
the address that the flash directory gives it, the flash image to try first, the BIST units that the previous log leaves out, those still to test,
those that ended FAIL; step 5 has begun; map-outs that step 5 has written; the stack channel test that step 3 read a request for (R465); a device reset
that is due and its cause; RESET_N is low; PORST_N is low; step 1 waits for T_gov after SHUTDOWN; guestbook entries that the last device reset lost; the
journal was read-only before the reset, so that the guestbook queue is kept (R420); the start settings as loaded. -/
structure Start where
  tried    : List Nat := []
  trying   : Option Nat := none
  base     : Nat := 0
  first    : Nat := 0
  skip     : List Nat := []
  bist     : List Nat := []
  failed   : List Nat := []
  bistOn   : Bool := false
  mapouts  : Nat := 0
  stackReq : Bool := false
  resetDue : Option Nat := none
  rstLow   : Bool := false
  porLow   : Bool := false
  cool     : Bool := false
  gbLost   : Nat := 0
  roKept   : Bool := false
  settings : Nat := 0x0000000200020001
  deriving DecidableEq, Repr

/-- What the fuses hold beyond the bins (R36, R437, R438, R442, R445, R447, R450, R463): the three rows that hold the life-cycle state (log entry 282; as
shipped, PROVISIONED), DBG_CAP, the key-encryption key and the debug key (as draws or loaded values), the kill fuse, SLOT_EPOCH, the personalisation value of
the DRBG, vendor map-outs, memory dies out of service, repair entries. -/
structure SecFuses where
  lcRows   : Nat × Nat × Nat := (3, 3, 3)
  cap      : Bool := false
  kek      : Option Nat := some 0
  kekDead  : Bool := false
  dbgKey   : Option Nat := none
  killed   : Bool := false
  epoch    : Nat := 0
  personal : Nat := 0
  mapouts  : List RepRec := []
  diesOut  : List Nat := []
  repairs  : List RepRec := []
  deriving DecidableEq, Repr

/-- The security block beyond its registers: an advance in progress (target, CAP), a key command in progress (code, slot, parent,
key material), unwrapped image keys by slot, slots unusable until the next start, the random source's consecutive bad and good
windows, DRBG reseeds, the challenge of each debug port, the response words written by
4 × port + i, wrong responses, alarms that wait for an advance, the wrapped keys by slot. -/
structure Sec where
  advance  : Option (Nat × Bool) := none
  keyCmd   : Option (Nat × Nat × Nat × Nat) := none
  unwrapped : Store (Option Nat) := []
  unusable : List Nat := []
  badWins  : Nat := 0
  goodWins : Nat := 0
  reseeds  : Nat := 0
  challenge : Store (Option Nat) := []
  resp     : Store Nat := []
  wrong    : Nat := 0
  alarms   : List Nat := []
  /-- the reference cycle of the latest response to an alarm, and the response (R451) -/
  acted    : Option (Nat × Nat) := none
  slots    : Store (Option Nat) := []
  deriving DecidableEq, Repr

/-- The spares of a memory unit that are taken: rows and columns as (spare, replaced), and those marked unusable (R453, R459). -/
structure SpareSet where
  rows    : List (Nat × Nat) := []
  cols    : List (Nat × Nat) := []
  badRows : List Nat := []
  badCols : List Nat := []
  deriving DecidableEq, Repr

/-- An MBIST engine (R453 to R460): the test in progress (KIND, UNIT), whether step 5 runs it, and the FIFO of failing locations. -/
structure Engine where
  test  : Option (Nat × Nat) := none
  start : Bool := false
  fifo  : List FailLoc := []
  deriving DecidableEq, Repr

/-- The self-test block beyond its registers: a burn in progress (the records still to burn), the logic BIST in progress, whether
its logic is undefined until the next device reset (R467), a hold on BANK_PWR REQ writes of banks under test (R457). -/
structure SelfTest where
  burn    : Option (List RepRec) := none
  lbist   : Option Nat := none
  undef   : Bool := false
  bankPwr : Store (Option Nat) := []
  deriving DecidableEq, Repr


/-- The JTAG port (R471, R472): the instruction that is in effect, the cells of the boundary register, and the previous access of
the DBG data register: offset, response code, read data. -/
structure Jtag where
  ir    : Nat := 1
  cells : Nat := 0
  prev  : Option (Nat × Resp × Nat) := none
  deriving DecidableEq, Repr

/-! ## What the device sends -/

/-- One thing that the device sent or showed as the effect of a command. -/
inductive Emit where
  /-- the answer to a register access -/
  | regAnswer (dest : Ini) (code : Resp) (value : Nat)
  /-- an answer to a request, as the packet that carries it (R235, R236) -/
  | answer (p : Packet)
  /-- a request sent by an initiator of the device -/
  | send (p : Packet)
  /-- a packet forwarded by a waystation on a link output, with its header flit (R234, R246) -/
  | hop (station out header : Nat) (p : Packet)
  /-- a packet delivered at an endpoint port of a waystation (R246) -/
  | deliver (station port header : Nat) (p : Packet)
  /-- credits returned for flits that left an input buffer, with the idle flit that carries them (R234, R240) -/
  | credits (station input vn count flit : Nat)
  /-- a burst read from SDRAM (R311, R312) -/
  | sdRead (place : SdPlace)
  /-- a burst written to SDRAM: the eight codewords of 20 symbols (R311 to R313) -/
  | sdWrite (place : SdPlace) (codewords : List (List Nat))
  /-- a refresh of an SDRAM channel (R325) -/
  | sdRefresh (channel : Nat)
  /-- a system packet (R242) -/
  | sys (node op operand : Nat)
  /-- a pulse on a face channel: the level it sets the receiver's keeper to (R22) -/
  | facePulse (x y c : Nat) (level : Bool)
  /-- a response handed to the fabric (R77) -/
  | fabricAnswer (n p tag : Nat) (a : Answer)
  /-- a request delivered to the fabric (R78) -/
  | fabricRequest (n p : Nat) (rq : Request)
  /-- a flit of pin samples handed to the fabric (R80): the 16 sample positions, pin_count and pin_tick_first -/
  | fabricPins (n p : Nat) (samples : List (BitVec 32)) (count : Nat) (first : Bool)
  /-- a one-cycle pulse on ev[k] of region n (R84) -/
  | eventPulse (n k : Nat)
  /-- TICK_OUT goes high for 4 reference cycles (R122) -/
  | tickOut
  /-- a trace frame on a lane group (R492): header and records -/
  | traceFrame (group header : Nat) (records : List TraceRec)
  /-- a frame formed for a link, which follows the frames before it in the symbol stream: content bytes and CRC (R338, R339) -/
  | linkFrame (g : Nat) (content : List Byte) (crc : Nat)
  /-- a tick marker sent on a link: COUNT and OFFSET (R346) -/
  | tickMarker (g count offset : Nat)
  /-- a raw flit handed to the fabric (R352, R353) -/
  | fabricRaw (n p : Nat) (flit : BitVec 512)
  /-- columns that a lane group transmits, in order: a 10-bit code on each of its lanes, the first bit on the line in bit 0 (R332, R337) -/
  | line (g : Nat) (columns : List (List (BitVec 10)))
  /-- the port of an SDRAM channel retries a command (R511) -/
  | sdRetry (channel : Nat)
  /-- bytes that the front desk returns at its pins (R432) -/
  | deskOut (bytes : List Byte)
  /-- bits that a JTAG data register shifts out (R471, R472) -/
  | jtagOut (bits value : Nat)
  /-- cross-trigger channel c pulses in this cycle (R486) -/
  | xtPulse (c : Nat)
  deriving DecidableEq, Repr

/-! ## The whole device -/

/-- The state of the device: everything the spec gives it, and the queue of the commands that wait. -/
structure State where
  /-- commands that wait, first in, first out -/
  pending : List Instr
  /-- what the device sent or showed as the effect of the last command, in order -/
  emits : List Emit
  /-- reference cycles counted by the idle step (log entry 5) -/
  now : Nat
  /-- the model's own counter: how many free values were drawn (log entry 3) -/
  fresh : Nat
  /-- the register file: bit address of a field to its value, exclusive or with its reset value -/
  csr : Store Nat
  /-- captured _HI of a pair by pair and initiator (R16) -/
  captures : Store (Option Nat)
  /-- held _LO of a pair by pair and initiator (R16) -/
  held : Store (Option Nat)
  /-- events that wait to be written, oldest first -/
  gbq : List GbEntry
  /-- face channels by ((x * 192 + y) * 256 + c) -/
  faces : Store Face
  /-- arithmetic slices by 256 * region + slice -/
  slices : Store SliceRegs
  /-- block RAM ports by 2 * (192 * region + block) + (1 for port B) -/
  rams : Store RamPort
  /-- isolation cells by 8192 * receiving region + inbound group -/
  cells : Store Cell
  /-- the clock step in force on each clock network (R402) -/
  gates : Store Nat
  /-- region ports by 4n + p -/
  ports : Store Port
  /-- block RAM rows by (n * 192 + k) * 1024 + row; none: undefined since power-up -/
  bram : Store (Option Nat)
  /-- block RAM window accesses in progress, in order of arrival -/
  bwin : List WinAcc
  /-- what each GPIO bank drives -/
  pads : Store Pads
  /-- regions by number -/
  regions : Store Region
  /-- stored frames by (n * 8 + p) * 3900 + frame -/
  planes : Store Frame
  /-- latch sets by (2n + set) * 3900 + frame; frames from 3840 are flip-flop state -/
  latches : Store Frame
  /-- region and plane of every plane that the image in progress has begun to load (R199, R201) -/
  imgPlanes : List (Nat × Nat)
  /-- region and plane of the erase in progress (R93) -/
  erasing : Option (Nat × Nat)
  /-- frame writes held by an erase: frame and data (R93) -/
  heldLoads : List (Nat × Nat)
  /-- reported corrections, at most 64 (R222) -/
  corrq : List Corr
  /-- corrections of the stored walker itself (R221) -/
  walkq : List Corr
  /-- frames read by the walkers, checks not complete (R220) -/
  checks : List Chk
  /-- the stored and the active walker have made every visit of the pass (R217) -/
  passDone : Bool × Bool
  /-- active visits held while the return group is busy, by index (R218) -/
  heldVisits : List Nat
  /-- the repair load of this start has applied the map-outs (R37) -/
  stackLoaded : Bool
  /-- the fuses of the part -/
  fuses : Fuses
  /-- units under test (R457) -/
  underTest : List TestUnit
  /-- units that failed a test and stay with the engine (R460) -/
  keptByTest : List TestUnit
  /-- requests of the device's initiators without an answer (R241, R252) -/
  outst : List Outst
  /-- requests of a node that wait for a free tag, oldest first (R252) -/
  unsent : List (Nat × Access)
  /-- reference cycle at which each clock network last began to toggle (R402) -/
  clkStart : Store Nat
  /-- requests held for closed or off ports, in order of arrival (R256) -/
  park : List ParkEntry
  /-- regions whose fill waits for an engine, in order of acceptance (R100) -/
  fillq : List Nat
  /-- the tick generator -/
  tickGen : TickGen
  /-- threads by number -/
  threads : Store Thread
  /-- branch predictor counters by PC[9:0], 0b01 when unlisted (R144) -/
  predictor : Store Nat
  /-- the region command path, in order of entry (R141) -/
  rpath : List PathCmd
  /-- bits in error of each stored instruction word (R137) -/
  imemErr : Store Nat
  /-- the trace engine -/
  trace : Trace
  /-- what the MIRR instructions of this tick named -/
  mirr : MirrSet
  /-- a snapshot asked for and not captured -/
  snapReq : Option SnapReq
  /-- global barriers by number -/
  gbars : Store GBar
  /-- switched domains by number -/
  doms : Store Dom
  /-- input buffers of waystations by (32 * station + input) * 4 + virtual network; inputs 0 to 15 are the ports, 16 to 19 the links from +x, -x, +y,
  -y, 20 to 25 the vertical links from L0 to L5, 26 to 31 the transit buffers ahead of these -/
  bufs : Store NetBuf
  /-- requests delivered and not answered, oldest first (R253) -/
  deliv : List Deliv
  /-- reference cycles at which timers of a port expired, by node (R253) -/
  expiries : Store (List Nat)
  /-- the route epoch change in progress -/
  epoch : Option EpochChange
  /-- couriers by number -/
  couriers : Store Courier
  /-- the larder -/
  larder : Larder
  /-- scratchpad bytes by 0x20000 * bank + offset: 256 * check error + data (R289) -/
  spad : Store Nat
  /-- scratchpad banks by number -/
  banks : Store Bank
  /-- repeat-correction trackers by 96 * die + u -/
  trackers : Store (List TrackEntry)
  /-- spares taken by unit: 4096 * UNIT_KIND + unit; for block RAM 0x100000 + 192 * region + block (R453) -/
  spares : Store SpareSet
  /-- night porters by die -/
  porters : Store Porter
  /-- the SDRAM ports -/
  sdram : Sdram
  /-- the journal -/
  jnl : Journal
  /-- the front desk -/
  desk : Desk
  /-- the start sequence -/
  start : Start
  /-- life-cycle, key and repair fuses -/
  lcFuses : SecFuses
  /-- the security block -/
  sec : Sec
  /-- MBIST engines by number -/
  engines : Store Engine
  /-- the self-test block -/
  selfTest : SelfTest
  /-- the JTAG port -/
  jtag : Jtag
  /-- the image in progress -/
  img : Img
  /-- lane groups by number -/
  links : Store Link
  /-- the twin-link engine -/
  twin : Twin
  /-- snoop units by number -/
  snoops : Store Snoop
  /-- the power and thermal logic -/
  thermal : Thermal
  deriving DecidableEq, Repr

/-- The device right after PORST_N deasserts: every register at its reset value, nothing stored, nothing waiting
(R14, R412; what the spec gives no reset value for: log entries 2 and 3). -/
def State.reset : State where
  pending := []
  emits := []
  now := 0
  fresh := 0
  csr := []
  captures := []
  held := []
  gbq := []
  faces := []
  slices := []
  rams := []
  cells := []
  gates := []
  ports := []
  bram := []
  bwin := []
  pads := []
  regions := []
  planes := []
  latches := []
  imgPlanes := []
  erasing := none
  heldLoads := []
  corrq := []
  walkq := []
  checks := []
  passDone := (false, false)
  heldVisits := []
  stackLoaded := false
  fuses := {}
  underTest := []
  keptByTest := []
  outst := []
  unsent := []
  clkStart := []
  park := []
  fillq := []
  tickGen := {}
  threads := []
  predictor := []
  rpath := []
  imemErr := []
  trace := {}
  mirr := {}
  snapReq := none
  gbars := []
  doms := []
  bufs := []
  deliv := []
  expiries := []
  epoch := none
  couriers := []
  larder := {}
  spad := []
  banks := []
  trackers := []
  spares := []
  porters := []
  sdram := {}
  jnl := {}
  desk := {}
  start := {}
  lcFuses := {}
  sec := {}
  engines := []
  selfTest := {}
  jtag := {}
  img := {}
  links := []
  twin := {}
  snoops := []
  thermal := {}

/-- Why the device stops: only a command that no outside agent can give. -/
inductive Fault where
  /-- Raised by every meaning whose operands break WellFormed (a flit without its 16 samples, a write whose data is not
  its size): no such command exists on the hardware. Safe: nothing can be proved about a state after it. -/
  | illFormed (mnemonic : String)
  deriving DecidableEq, Repr

/-- Why the model gives no meaning. -/
inductive Refusal where
  /-- Raised by an arm of exec whose command has no meaning in the model yet. Safe: the model stops. -/
  | notModelled (mnemonic : String)
  deriving DecidableEq, Repr

end Sys2Proof.Machine
end

