-- ==== Sys2Proof/Machine/StoreOps.lean ====
section
/-! DEFINITION. Reading and writing sparse data (`Store`): an unlisted key reads as the default, and a write of the
default leaves the key unlisted, so that equal contents are equal data. -/

namespace Sys2Proof.Machine

/-- What a key holds; d is what an unlisted key reads as. -/
def storeGet {α : Type} (d : α) (k : Nat) : Store α → α
  | [] => d
  | (j, v) :: m => if j = k then v else storeGet d k m

/-- Drop the entry of a key. -/
def storeErase {α : Type} (k : Nat) : Store α → Store α
  | [] => []
  | (j, v) :: m => if j = k then storeErase k m else (j, v) :: storeErase k m

/-- Put an entry in front of the first larger key. -/
def storeInsert {α : Type} (k : Nat) (v : α) : Store α → Store α
  | [] => [(k, v)]
  | (j, w) :: m => if k < j then (k, v) :: (j, w) :: m else (j, w) :: storeInsert k v m

/-- Write a key: the entry is replaced, and a default value is not listed. -/
def storeSet {α : Type} [DecidableEq α] (d : α) (k : Nat) (v : α) (m : Store α) : Store α :=
  if v = d then storeErase k m else storeInsert k v (storeErase k m)

/-- Drop every key from lo up to, not including, hi: those keys then read as the default. -/
def storeClear {α : Type} (lo hi : Nat) : Store α → Store α
  | [] => []
  | (j, v) :: m => if lo ≤ j ∧ j < hi then storeClear lo hi m else (j, v) :: storeClear lo hi m

/-- Put a list of entries in place of every key from lo up to, not including, hi. -/
def storeReplace {α : Type} (lo hi : Nat) (new m : Store α) : Store α :=
  m.filter (fun e => decide (e.1 < lo)) ++ new ++ m.filter (fun e => decide (hi ≤ e.1))

/-- The canonical form: keys strictly rising from a bound, no entry equal to the default. -/
def storeWfFrom {α : Type} [DecidableEq α] (d : α) : Nat → Store α → Bool
  | _, [] => true
  | b, (j, v) :: m => decide (b ≤ j) && decide (v ≠ d) && storeWfFrom d (j + 1) m

/-- The canonical form of a store with default d. -/
def storeWf {α : Type} [DecidableEq α] (d : α) (m : Store α) : Bool := storeWfFrom d 0 m

end Sys2Proof.Machine
end

