-- ==== Sys2Proof/Machine/Ops.lean ====
section
/-! DEFINITION. The named operations that every meaning is built from: reading and writing a register field, setting
and counting, the parts of the state kept by number, what the device sends, free values, and the guestbook. -/

namespace Sys2Proof.Machine

/-! ## Register fields (R9 to R15) -/

/-- The value of a register field. -/
def State.rd (s : State) (f : Fld) : Nat := (storeGet 0 f.key s.csr ^^^ f.rst) % 2 ^ f.width

/-- Store a value into a register field; bits beyond the field's width are cut. -/
def State.wr (s : State) (f : Fld) (v : Nat) : State :=
  { s with csr := storeSet 0 f.key ((v % 2 ^ f.width) ^^^ f.rst) s.csr }

/-- A one-bit field reads 1. -/
def State.is1 (s : State) (f : Fld) : Bool := s.rd f == 1

/-- Set a one-bit field. -/
def State.set1 (s : State) (f : Fld) : State := s.wr f 1

/-- Clear a field. -/
def State.clr (s : State) (f : Fld) : State := s.wr f 0

/-- Write a one-bit field from a truth value. -/
def State.wrb (s : State) (f : Fld) (b : Bool) : State := s.wr f b.toNat

/-- Count once more; a count saturates at the largest value of its field. -/
def State.bump (s : State) (f : Fld) : State := s.wr f (min (s.rd f + 1) (2 ^ f.width - 1))

/-- Count n more, saturating. -/
def State.bumpN (s : State) (f : Fld) (n : Nat) : State := s.wr f (min (s.rd f + n) (2 ^ f.width - 1))

/-- Count once more; the count wraps. -/
def State.incr (s : State) (f : Fld) : State := s.wr f (s.rd f + 1)

/-- Set bit i of a field. -/
def State.setBit (s : State) (f : Fld) (i : Nat) : State := s.wr f (s.rd f ||| 2 ^ i)

/-- Clear bit i of a field. -/
def State.clrBit (s : State) (f : Fld) (i : Nat) : State :=
  if (s.rd f).testBit i then s.wr f (s.rd f ^^^ 2 ^ i) else s

/-- Bit i of a field. -/
def State.bit (s : State) (f : Fld) (i : Nat) : Bool := (s.rd f).testBit i

/-- The 64-bit quantity held in a pair of registers (R16). -/
def State.rd64 (s : State) (lo hi : Fld) : Nat := s.rd lo + 2 ^ 32 * s.rd hi

/-- Store a 64-bit quantity into a pair of registers. -/
def State.wr64 (s : State) (lo hi : Fld) (v : Nat) : State := (s.wr lo (v % 2 ^ 32)).wr hi (v / 2 ^ 32)

/-- Bits [hi:lo] of a written register value. -/
def bits (v : BitVec 32) (hi lo : Nat) : Nat := (v.toNat >>> lo) % 2 ^ (hi - lo + 1)

/-- The part of a written register value that falls to a field. -/
def Fld.of (f : Fld) (v : BitVec 32) : Nat := (v.toNat >>> f.lo) % 2 ^ f.width

/-- A write of 1s clears those bits of a W1C field (R11). -/
def State.w1c (s : State) (f : Fld) (v : BitVec 32) : State := s.wr f (s.rd f &&& (s.rd f ^^^ f.of v))

/-- Write one RW field from the register value, keeping it where the value is reserved (R15). -/
def State.put (s : State) (u : FieldUse) (v : BitVec 32) : State :=
  if u.legal.ok (u.fld.of v) then s.wr u.fld (u.fld.of v) else s

/-- What a register write stores into one field by its access code (R11, R15). -/
def State.storeField (s : State) (v : BitVec 32) (u : FieldUse) : State :=
  match u.acc with
  | .rw => s.put u v
  | .w1c => s.w1c u.fld v
  | .w1s => s.wr u.fld (s.rd u.fld ||| u.fld.of v)
  | .ro | .wo | .rs => s

/-- What a register write stores by the access codes of its fields alone (R11). -/
def State.storeReg (s : State) (r : Reg) (v : BitVec 32) : State :=
  r.fields.foldl (fun s u => s.storeField v u) s

/-- The W1C part of a register write: it acts even when the rest of the write is refused (R71). -/
def State.w1cOnly (s : State) (r : Reg) (v : BitVec 32) : State :=
  r.fields.foldl (fun s u => if u.acc = .w1c then s.w1c u.fld v else s) s

/-- The value that a read of one field returns: WO fields read 0 (R11). -/
def State.fieldValue (s : State) (u : FieldUse) : Nat :=
  if u.acc = .wo then 0 else s.rd u.fld <<< u.fld.lo

/-- The value of a register, side effects apart. -/
def State.regValue (s : State) (r : Reg) : Nat := r.fields.foldl (fun a u => a ||| s.fieldValue u) 0

/-- The side effect of a read on the RS fields that a read clears (R11). -/
def State.readClears (s : State) (r : Reg) : State :=
  r.fields.foldl (fun s u => if u.acc = .rs then s.clr u.fld else s) s

/-! ## Pairs (R16) -/

/-- Where a capture or a held _LO is kept: by the offset of _LO and the initiator's node ID (R16). -/
def pairKey (off : Nat) (ini : Ini) : Nat := off * 4096 + ini.node % 4096

/-- Writing _LO holds the value without effect (R16). -/
def State.holdLo (s : State) (off : Nat) (ini : Ini) (v : Nat) : State :=
  { s with held := storeSet none (pairKey off ini) (some v) s.held }

/-- The value of _LO that a write of _HI commits: the held one, or else the current one (R16). -/
def State.pairLo (s : State) (off : Nat) (ini : Ini) (current : Nat) : Nat :=
  (storeGet none (pairKey off ini) s.held).getD current

/-- A write of _HI uses up the held _LO (R16). -/
def State.dropLo (s : State) (off : Nat) (ini : Ini) : State :=
  { s with held := storeSet none (pairKey off ini) none s.held }

/-! ## Parts kept by number -/

/-- Region n. -/
def State.region (s : State) (n : Nat) : Region := storeGet {} n s.regions
/-- Replace region n. -/
def State.setRegion (s : State) (n : Nat) (r : Region) : State := { s with regions := storeSet {} n r s.regions }
/-- Port p of region n. -/
def State.port (s : State) (n p : Nat) : Port := storeGet {} (4 * n + p) s.ports
/-- Replace port p of region n. -/
def State.setPort (s : State) (n p : Nat) (x : Port) : State := { s with ports := storeSet {} (4 * n + p) x s.ports }
/-- Thread t. -/
def State.thread (s : State) (t : Nat) : Thread := storeGet {} t s.threads
/-- Replace thread t. -/
def State.setThread (s : State) (t : Nat) (x : Thread) : State := { s with threads := storeSet {} t x s.threads }
/-- Switched domain d. -/
def State.dom (s : State) (d : Nat) : Dom := storeGet {} d s.doms
/-- Replace domain d. -/
def State.setDom (s : State) (d : Nat) (x : Dom) : State := { s with doms := storeSet {} d x s.doms }
/-- What GPIO bank b drives. -/
def State.pad (s : State) (b : Nat) : Pads := storeGet {} b s.pads
/-- Replace what GPIO bank b drives. -/
def State.setPad (s : State) (b : Nat) (x : Pads) : State := { s with pads := storeSet {} b x s.pads }

/-! ## Contents that are lost -/

/-- Scratchpad bank b loses its contents: they read 0 afterwards (R288, R457). -/
def State.loseBank (s : State) (b : Nat) : State := { s with spad := storeClear (b * 0x20000) ((b + 1) * 0x20000) s.spad }

/-- The block RAMs of region n lose their contents (R60, R457). -/
def State.loseBram (s : State) (n : Nat) : State := { s with bram := storeClear (n * 192 * 1024) ((n + 1) * 192 * 1024) s.bram }

/-! ## What the device sends, and free values -/

/-- Forget what the last command sent: every meaning begins so. -/
def State.quiet (s : State) : State := { s with emits := [] }

/-- Send something. -/
def State.emit (s : State) (e : Emit) : State := { s with emits := s.emits ++ [e] }

/-! ## Accesses to the CSR space (R10, R13, R38, R243, R467) -/

/-- The register at an offset (R513, R514). The larder's own registers are seen a second time with the second die's (LARDER_CTL); L3 has 16
stations. -/
def regAt (off : Nat) : Option Reg :=
  let off := if 0x2800000 ≤ off ∧ off < 0x2801000 then off - 0x800000 else off
  match regShapes.findSome? (fun sh => sh.at? off) with
  | some (Reg.WS_ISOL n) => if n / 32 = 3 ∧ 16 ≤ n % 32 then none else some (.WS_ISOL n)
  | some (Reg.WS_STAT n) => if n / 32 = 3 ∧ 16 ≤ n % 32 then none else some (.WS_STAT n)
  | some (Reg.WS_RT n b i) => if n / 32 = 3 ∧ 16 ≤ n % 32 then none else some (.WS_RT n b i)
  | x => x

/-- The CSR endpoint that serves a CSR offset (R243). -/
def csrNode (off : Nat) : Option Nat :=
  if off < 0x0200000 ∨ (0x0C00000 ≤ off ∧ off < 0x2000000) ∨ (0x4000000 ≤ off ∧ off < 0x8000000) then some 0x00F
  else if 0x0200000 ≤ off ∧ off < 0x0800000 then some 0x60F
  else if 0x0800000 ≤ off ∧ off < 0x0A00000 then some 0x20F
  else if 0x0A00000 ≤ off ∧ off < 0x0C00000 then some 0x40F
  else if (0x2000000 ≤ off ∧ off < 0x2800000) ∨ (0x3000000 ≤ off ∧ off < 0x3800000) then some 0x80F
  else if (0x2800000 ≤ off ∧ off < 0x3000000) ∨ (0x3800000 ≤ off ∧ off < 0x4000000) then some 0xA0F
  else none

/-- Memory die of layer 4 or 5 is mapped out (R38). -/
def State.dieOut (s : State) (layer : Nat) : Bool :=
  s.stackLoaded && ((layer == 4 && !(s.is1 R.STACK_SUMMARY_M0_PRESENT)) || (layer == 5 && !(s.is1 R.STACK_SUMMARY_M1_PRESENT)))

/-- After logic BIST every access outside the self-test and the journal and front desk blocks is DENIED (R467). -/
def State.lbistBars (s : State) (off : Nat) : Bool := s.selfTest.undef && !(decide (0x7E00000 ≤ off) && decide (off < 0x8000000))

/-- An access to an offset is turned away before its register: DENIED after logic BIST (R467); DECODE where the endpoint lies on a mapped-out die, whose
nodes answer nothing else (R38; DEDUCED, log entry 237). -/
def State.turnedAway (s : State) (off : Nat) : Option Resp :=
  if s.lbistBars off then some .denied
  else match csrNode off with
    | some node => if s.dieOut (node / 512) then some .decode else none
    | none => none

/-- Answer a register write with OK (R10). -/
def State.okWrite (s : State) (ini : Ini) : State := s.emit (.regAnswer ini .ok 0)

/-- Answer a register write with DENIED. -/
def State.deniedWrite (s : State) (ini : Ini) : State := s.emit (.regAnswer ini .denied 0)

/-- A write of an initiator to the register at an offset, with the effect `f`: turned away, or performed and answered OK. -/
def State.written (s : State) (ini : Ini) (off : Nat) (f : State → State) : State :=
  match s.turnedAway off with
  | some code => s.emit (.regAnswer ini code 0)
  | none => (f s).okWrite ini

/-- The initiator is the debug initiator, whose reads have no side effect (R13, R478). -/
def State.peeks (s : State) (ini : Ini) : Bool := ini == ⟨s.rd R.NET_CFG_DEV_NUM, 0x007⟩

/-- A read by an initiator of the register at an offset that shows a value, with its side effect `f`: turned away, or answered OK. -/
def State.shown (s : State) (ini : Ini) (off v : Nat) (f : State → State) : State :=
  match s.turnedAway off with
  | some code => s.emit (.regAnswer ini code 0)
  | none => (if s.peeks ini then s else f s).emit (.regAnswer ini .ok v)

/-- Use up one free value (log entry 3): the value stands for what the spec leaves open. -/
def State.draw (s : State) : Nat := Config.free s.fresh

/-- The 32 random bits that RNG_OUT shows: bits of the next free value of which no key is made (R315, R446). -/
def State.rngWord (s : State) : Nat := s.draw / 2 ^ 4096 % 2 ^ 32

/-- The state after one free value was used. -/
def State.drawn (s : State) : State := { s with fresh := s.fresh + 1 }

/-- Choose between two states by a free bit. -/
def State.either (s : State) (a b : State → State) : State :=
  if s.draw % 2 = 1 then a s.drawn else b s.drawn

/-! ## The life-cycle rows (R437) -/

/-- The pattern of a life-cycle state in a fuse row (R437; DESIGN CHOICE, log entry 282): one bit more for each state, so that an advance only burns. -/
def lcPattern (k : Nat) : Nat := 2 ^ k - 1

/-- Three rows read by majority, bit by bit (R437). -/
def majority (r : Nat × Nat × Nat) : Nat := (r.1 &&& r.2.1) ||| (r.1 &&& r.2.2) ||| (r.2.1 &&& r.2.2)

/-- The life-cycle state that the rows hold (R437); none: their pattern matches no state. -/
def lcOf (r : Nat × Nat × Nat) : Option Nat := (List.range 6).find? fun k => majority r == lcPattern k

/-- The life-cycle state (R437): 0 BLANK, 1 VENDOR_TEST, 2 PROVISIONED, 3 DEPLOYED, 4 RETURNED, 5 SCRAPPED; BLANK where the rows match none, with
which no start passes step 2. -/
def SecFuses.lc (f : SecFuses) : Nat := (lcOf f.lcRows).getD 0

/-- A life-cycle state is burned into its rows; fuses are never cleared, so a state is never lowered (R437). -/
def SecFuses.burnLc (f : SecFuses) (k : Nat) : SecFuses :=
  let row := fun (r : Nat) => r ||| lcPattern k
  { f with lcRows := (row f.lcRows.1, row f.lcRows.2.1, row f.lcRows.2.2) }

/-! ## The guestbook (R427 to R431) -/

/-- TICK_STAT.POS: reference cycles since the current tick boundary; 0 while RUNNING is 0 (TICK_STAT). -/
def State.tickPos (s : State) : Nat :=
  if s.is1 R.TICK_CTL_RUNNING then (s.now - s.tickGen.tickStart) % 2 ^ 24 else 0

/-- TICK_COUNT (R124). -/
def State.tickCount (s : State) : Nat := s.rd64 R.TICK_COUNT_LO_COUNT R.TICK_COUNT_HI_COUNT

/-- Log an event at a priority: ALERT follows from priority ALERT or FATAL whether or not the record is written (R431);
a frozen guestbook or a full queue drops it into LOST (R429, R430); with a read-only journal a FATAL event freezes it (R420). -/
def State.logP (s : State) (prio : Nat) (ev : Gb) (args : List Nat) : State :=
  let s := if 2 ≤ prio then s.set1 R.GB_STAT_ALERT else s
  let frozen := s.is1 R.GB_STAT_FROZEN
  let s := if prio = 3 ∧ s.is1 R.JNL_STAT_READ_ONLY then s.set1 R.GB_STAT_FROZEN else s
  if frozen || decide (64 ≤ s.gbq.length) then s.bump R.GB_STAT_LOST
  else { s with gbq := s.gbq ++ [⟨ev, prio, args, s.rd (R.JNL_CNT_VALUE 1), s.tickCount, s.tickPos⟩] }

/-- Log an event of priority NORMAL (R427). -/
def State.log (s : State) (ev : Gb) (args : List Nat) : State := s.logP 1 ev args

/-- A field of 33 to 64 bits as two ARGS words, low word first (R428). -/
def words64 (v : Nat) : List Nat := [v % 2 ^ 32, v / 2 ^ 32 % 2 ^ 32]

/-- The indexes 0 to n − 1 with a property. -/
def indicesWith (n : Nat) (p : Nat → Bool) : List Nat := (List.range n).filter p

/-- Fold an operation over a list of indexes. -/
def State.each (s : State) (is : List Nat) (f : State → Nat → State) : State := is.foldl f s

end Sys2Proof.Machine
end

