-- ==== Sys2Proof/Machine/Flits.lean ====
section
/-! DEFINITION. Flits, header flits and answers (08_olicor_network.md, R233 to R236, R240): where the fields of a packet stand in its header flit, the
idle flit that carries credits, and the answer that a request gets. -/

namespace Sys2Proof.Machine

/-! ## The header flit (R234) -/

/-- A field of a header flit: its lowest bit, its width and its value. -/
def flitField (lo width v : Nat) : Nat := v % 2 ^ width * 2 ^ lo

/-- Bits of a flit from a lowest bit. -/
def flitBits (h lo width : Nat) : Nat := h / 2 ^ lo % 2 ^ width

/-- The virtual network's number (R234). -/
def vnNum : VNet → Nat
  | .req => 0 | .rsp => 1 | .sys => 2

/-- The virtual network that VN names; 0b11 is reserved (R234). -/
def vnOf : Nat → Option VNet
  | 0 => some .req | 1 => some .rsp | 2 => some .sys | _ => none

/-- The credit fields CR_REQ, CR_RSP and CR_SYS (R234, R240). -/
def creditFields (req rsp sys : Nat) : Nat := flitField 448 4 req + flitField 452 4 rsp + flitField 456 4 sys

/-- The header flit of a packet (R234); reserved bits are 0, and a packet without a size carries SIZE_M1 0. -/
def headerFlit (p : Packet) : Nat :=
  flitField 0 8 p.op + flitField 8 2 (vnNum p.vn) + flitField 10 1 p.epoch.toNat + flitField 11 2 p.len + flitField 16 8 p.tag +
  flitField 24 4 p.resp + flitField 32 12 p.dstNode + flitField 48 8 p.dstDev + flitField 56 8 p.hops + flitField 64 12 p.srcNode +
  flitField 80 8 p.srcDev + flitField 96 52 p.addr + flitField 160 7 (p.size - 1) + flitField 176 16 p.poison +
  flitField 192 64 p.operand + flitField 256 128 p.byteEn

/-- The packet that a header flit and its data flits make (R233, R234): none for an idle flit and for VN 0b11. Reserved bits are ignored. -/
def headerPacket (h : Nat) (data : List Byte) : Option Packet :=
  match vnOf (flitBits h 8 2) with
  | none => none
  | some vn =>
    if flitBits h 0 8 = 0 then none
    else some { op := flitBits h 0 8, vn := vn, epoch := flitBits h 10 1 == 1, len := flitBits h 11 2, tag := flitBits h 16 8,
                resp := flitBits h 24 4, dstNode := flitBits h 32 12, dstDev := flitBits h 48 8, hops := flitBits h 56 8,
                srcNode := flitBits h 64 12, srcDev := flitBits h 80 8, addr := flitBits h 96 52, size := flitBits h 160 7 + 1,
                poison := flitBits h 176 16, operand := flitBits h 192 64, byteEn := flitBits h 256 128, data := data }

/-- An idle flit (R233, R240): OPCODE 0x00, and nothing but credit fields. -/
def idleFlit (vn : VNet) (count : Nat) : Nat :=
  match vn with
  | .req => creditFields count 0 0
  | .rsp => creditFields 0 count 0
  | .sys => creditFields 0 0 count

/-! ## Requests (R235, R236) -/

/-- An operation writes. -/
def isWriteOp : ReqOp → Bool
  | .wr | .nwr => true
  | .rd | .nrd => false

/-- The OPCODE of a request (R235). -/
def reqOpcode : ReqOp → Nat
  | .rd => 0x10 | .wr => 0x11 | .nrd => 0x18 | .nwr => 0x19

/-- The bytes that an access touches in its payload positions: BYTE_EN of a write (R236). -/
def byteEnable (addr size : Nat) : Nat := (2 ^ size - 1) <<< (addr % 8)

/-- The request of a node of device `me` as a packet (R235, R236, R245): HOPS 15; a write carries its bytes in their payload positions, with the byte
enables and as many data flits as they reach. -/
def requestPacket (me node tag : Nat) (a : Access) : Packet :=
  let off := a.addr % 8
  let w := isWriteOp a.op
  { op := reqOpcode a.op, vn := .req, epoch := false, tag := tag, resp := 0, dstDev := a.dstDev, dstNode := a.dstNode, hops := 15,
    srcDev := me, srcNode := node, addr := a.addr, size := a.size, byteEn := if w then byteEnable a.addr a.size else 0,
    len := if w then (off + a.size + 63) / 64 else 0, poison := if w then a.poison else 0, operand := 0,
    data := if w then List.replicate off 0 ++ a.data else [] }

/-! ## Answers (R235, R236) -/

/-- The answer to a request as a packet from device `me` (R232, R235, R236): WACK to a write, RDATA to a read; it copies TAG, goes to the request's
source and comes from the node that the request was for, also where a waystation answers on its behalf. An RDATA with OK carries the bytes read in
their payload positions; any other answer has LEN 0 and POISON 0. The fields that neither rule names are 0 (DESIGN CHOICE, log entry 232). -/
def answerPacket (me : Nat) (rq : Request) (a : Answer) : Packet :=
  let off := rq.acc.addr % 8
  let carries := a.code == .ok && !(isWriteOp rq.acc.op)
  { op := if isWriteOp rq.acc.op then 0x41 else 0x40, vn := .rsp, epoch := false, tag := rq.tag, resp := a.code.code,
    dstDev := rq.ini.dev, dstNode := rq.ini.node, hops := 15, srcDev := me, srcNode := rq.acc.dstNode, addr := 0, size := 1, byteEn := 0,
    len := if carries then (off + a.data.length + 63) / 64 else 0, poison := if carries then a.poison else 0, operand := 0,
    data := if carries then List.replicate off 0 ++ a.data else [] }

/-- Answer a request. -/
def State.answerReq (s : State) (rq : Request) (a : Answer) : State := s.emit (.answer (answerPacket (s.rd R.NET_CFG_DEV_NUM) rq a))

/-- A waystation answers a request on behalf of the endpoint at a node (R232). -/
def State.replyFrom (s : State) (node : Nat) (rq : Request) (code : Resp) : State :=
  s.answerReq { rq with acc := { rq.acc with dstNode := node } } ⟨code, [], 0⟩

/-- Answer a request without data (R235). -/
def State.reply (s : State) (rq : Request) (code : Resp) : State := s.answerReq rq ⟨code, [], 0⟩

/-- Answer a read with data (R236). -/
def State.replyData (s : State) (rq : Request) (data : List Byte) (poison : Nat) : State := s.answerReq rq ⟨.ok, data, poison⟩

/-- A packet of the response network is formed as R236 says: no data with a write's answer or a code other than OK, else one or two data flits. -/
def responseOk (p : Packet) : Bool :=
  if p.op == 0x40 && p.resp == 0 then decide (1 ≤ p.len) && decide (p.len ≤ 2) && decide (p.poison < 2 ^ (8 * p.len))
  else p.len == 0 && p.poison == 0

end Sys2Proof.Machine
end

