-- ==== Sys2Proof/Machine/RegionOps.lean ====
section
/-! DEFINITION. The shared operations of regions, planes, shadows and swaps (03_contexts.md, R85 to R119), and of the
commands' refusals (R97, R177). -/

namespace Sys2Proof.Machine

/-! ## Region states (R94) -/

/-- The states of a region (R94). -/
inductive RState where
  | off | idle | run | held | isolated | fault
  deriving DecidableEq, Repr

/-- The code of a region state in REGION_STATUS_n. -/
def RState.code : RState → Nat
  | .off => 0 | .idle => 1 | .run => 2 | .held => 3 | .isolated => 4 | .fault => 5

/-- The region state that a code of REGION_STATUS_n names. -/
def RState.ofCode : Nat → RState
  | 1 => .idle | 2 => .run | 3 => .held | 4 => .isolated | 5 => .fault | _ => .off

/-- The state of region n. -/
def State.rstate (s : State) (n : Nat) : RState := RState.ofCode (s.rd (R.REGION_STATUS_STATE n))

/-- The states of the shadow (R99): 0 INVALID, 1 QUEUED, 2 FILLING, 3 READY. -/
inductive ShState where
  | invalid | queued | filling | ready
  deriving DecidableEq, Repr

/-- The code of a shadow state in REGION_STATUS_n. -/
def ShState.code : ShState → Nat
  | .invalid => 0 | .queued => 1 | .filling => 2 | .ready => 3

/-- The shadow state that a code names. -/
def ShState.ofCode : Nat → ShState
  | 1 => .queued | 2 => .filling | 3 => .ready | _ => .invalid

/-- The state of the shadow of region n. -/
def State.shState (s : State) (n : Nat) : ShState := ShState.ofCode (s.rd (R.REGION_STATUS_SHADOW_STATE n))

/-- Set the state of the shadow. -/
def State.setShState (s : State) (n : Nat) (x : ShState) : State := s.wr (R.REGION_STATUS_SHADOW_STATE n) x.code

/-- Bits of HOLD_SRC (R95): HOST, SEQ, OVERRUN, REFETCH, DEBUG, FAULT_POLICY. -/
inductive Hold where
  | host | seq | overrun | refetch | debug | faultPolicy
  deriving DecidableEq, Repr

/-- The place of a hold source in HOLD_SRC. -/
def Hold.bit : Hold → Nat
  | .host => 0 | .seq => 1 | .overrun => 2 | .refetch => 3 | .debug => 4 | .faultPolicy => 5

/-- A hold source is set. -/
def State.holds (s : State) (n : Nat) (h : Hold) : Bool := s.bit (R.REGION_STATUS_HOLD_SRC n) h.bit

/-- The throttle level is SHUTDOWN (R400), in which the user clocks of every region are stopped (R408). -/
def State.isShutdown (s : State) : Bool := s.rd R.THERM_STAT_LEVEL == 4

/-- The region's clock runs: its network is enabled and locked (R73). -/
def State.clockRuns (s : State) (n : Nat) : Bool :=
  let g := s.rd (R.REGION_CLK_CLK_SEL n)
  s.is1 (R.CLK_NET_CFG_EN g) && s.is1 (R.CLK_NET_CFG_LOCKED g)

/-- The region is marked unusable (R38): a map-out of the repair load took it out of service. -/
def State.unusable (s : State) (n : Nat) : Bool :=
  s.stackLoaded && !(s.bit (R.STACK_REGION_MAP_USABLE (n / 32)) (n % 32))

/-! ## Requests that wait in a region port (R78) -/

/-- Modes of a region port (REGION_PORT_CFG): 0 NET, 1 PIN, 2 DISABLED. -/
def State.portMode (s : State) (n p : Nat) : Nat := s.rd (R.REGION_PORT_CFG_MODE n p)

/-- Deliver every queued inbound request of the region's NET ports to the active context, in arrival order (R78: RUN); while the region
clock is stopped they wait (R72). A port that is not in NET mode answers DECODE. -/
def State.deliverInq (s : State) (n : Nat) : State :=
  if !(s.clockRuns n) then s else
  s.each (List.range 4) fun s p =>
    let x := s.port n p
    x.inq.foldl (fun s rq => if s.portMode n p = 0 then s.emit (.fabricRequest n p rq) else s.reply rq .decode)
      (s.setPort n p { x with inq := [] })

/-- Answer every queued inbound request with a code and drop it (R78: ISOLATED, FAULT; R255). -/
def State.answerInq (s : State) (n : Nat) (code : Resp) : State :=
  s.each (List.range 4) fun s p =>
    let x := s.port n p
    x.inq.foldl (fun s rq => s.reply rq code) (s.setPort n p { x with inq := [] })

/-- Put the region into a state: user clocks and border clamps follow it, while a swap in its clamp cycle keeps the clamps engaged, and one
whose edge was the last of the region clock the outbound clamps (R94, R111);
FAULT_POLICY clears on entry to FAULT (R95), and the inbound queues are handled by R78. -/
def State.enter (s : State) (n : Nat) (st : RState) : State :=
  let s := s.wr (R.REGION_STATUS_STATE n) st.code
  let clamps := decide (st ≠ .run) || (s.region n).clamping.isSome
  let s := s.setRegion n { s.region n with clampIn := clamps, clampOut := clamps || (s.region n).edgeNow }
  match st with
  | .run => s.deliverInq n
  | .isolated => s.answerInq n .isolated
  | .fault => (s.clrBit (R.REGION_STATUS_HOLD_SRC n) Hold.faultPolicy.bit).answerInq n .isolated
  | .off | .idle | .held => s

/-- RUN or HELD as the hold sources say (R95). -/
def State.settle (s : State) (n : Nat) : State :=
  let held := decide (s.rd (R.REGION_STATUS_HOLD_SRC n) ≠ 0)
  match s.rstate n with
  | .run => if held then s.enter n .held else s
  | .held => if held then s else s.enter n .run
  | _ => s

/-- Set a hold source (R95). -/
def State.setHold (s : State) (n : Nat) (h : Hold) : State :=
  (s.setBit (R.REGION_STATUS_HOLD_SRC n) h.bit).settle n

/-- Clear a hold source; the others stay in force (R95). -/
def State.clrHold (s : State) (n : Nat) (h : Hold) : State :=
  (s.clrBit (R.REGION_STATUS_HOLD_SRC n) h.bit).settle n

/-! ## Planes and their frames (R86 to R91) -/

/-- The field of PLANE_STATE_n for plane p. -/
def planeFld (n p : Nat) : Fld := ⟨0x401000 + n * 4, 4 * p, 4, 0⟩

/-- The states of a plane (R90). -/
inductive PlState where
  | empty | dark | valid | damaged
  deriving DecidableEq, Repr

/-- The code of a plane state in PLANE_STATE_n bits [1:0]. -/
def PlState.code : PlState → Nat
  | .empty => 0 | .dark => 1 | .valid => 2 | .damaged => 3

/-- The plane state that a code names. -/
def PlState.ofCode : Nat → PlState
  | 1 => .dark | 2 => .valid | 3 => .damaged | _ => .empty

/-- The state of plane p of region n. -/
def State.plState (s : State) (n p : Nat) : PlState := PlState.ofCode (s.rd (planeFld n p) % 4)
/-- ACTIVE of a plane (R90). -/
def State.plActive (s : State) (n p : Nat) : Bool := s.bit (planeFld n p) 2
/-- TORN of a plane (R89). -/
def State.plTorn (s : State) (n p : Nat) : Bool := s.bit (planeFld n p) 3
/-- Set the state of a plane; ACTIVE and TORN stay. -/
def State.setPlState (s : State) (n p : Nat) (x : PlState) : State :=
  s.wr (planeFld n p) (4 * (s.rd (planeFld n p) / 4) + x.code)
/-- Set or clear ACTIVE. -/
def State.setPlActive (s : State) (n p : Nat) (b : Bool) : State :=
  if b then s.setBit (planeFld n p) 2 else s.clrBit (planeFld n p) 2
/-- Set or clear TORN. -/
def State.setPlTorn (s : State) (n p : Nat) (b : Bool) : State :=
  if b then s.setBit (planeFld n p) 3 else s.clrBit (planeFld n p) 3

/-- Where frame f of plane p of region n is kept. -/
def planeKey (n p f : Nat) : Nat := (n * 8 + p) * 3900 + f
/-- Where frame f of a latch set of region n is kept. -/
def latchKey (n : Nat) (set : Bool) (f : Nat) : Nat := (2 * n + set.toNat) * 3900 + f

/-- A stored frame. -/
def State.frame (s : State) (n p f : Nat) : Frame := storeGet Frame.erased (planeKey n p f) s.planes
/-- A frame of a latch set. -/
def State.latch (s : State) (n : Nat) (set : Bool) (f : Nat) : Frame := storeGet Frame.erased (latchKey n set f) s.latches

/-- Whether a status fits the frame's index (R88): configuration frames carry 0b00, state frames a generation. -/
def statusFits (f status : Nat) : Bool :=
  if f < 3840 then status == 0 else (status == 1 || status == 2)

/-- Mark the queued corrections of a frame as overtaken by a write (R221). -/
def State.staleCorr (s : State) (n p f : Nat) : State :=
  let m := fun c : Corr => if c.n = n ∧ c.p = p ∧ c.f = f then { c with stale := true } else c
  let k := fun c : Chk => if !c.active ∧ c.n = n ∧ c.p = p ∧ c.f = f then { c with stale := true } else c
  { s with corrq := s.corrq.map m, walkq := s.walkq.map m, checks := s.checks.map k }

/-- The L3 write path writes a stored frame: status and check code are its own (R88). -/
def State.writeFrame (s : State) (n p f data status : Nat) : State :=
  (({ s with planes := storeSet Frame.erased (planeKey n p f) ⟨data % 2 ^ 4096, status, []⟩ s.planes } : State)).staleCorr n p f

/-- Erase every frame of a plane (R93): status 0b11, data 0. Queued corrections of the plane are overtaken. -/
def State.erasePlane (s : State) (n p : Nat) : State :=
  let m := fun c : Corr => if c.n = n ∧ c.p = p then { c with stale := true } else c
  let k := fun c : Chk => if !c.active ∧ c.n = n ∧ c.p = p then { c with stale := true } else c
  { s with planes := storeClear (planeKey n p 0) (planeKey n p 3900) s.planes,
           corrq := s.corrq.map m, walkq := s.walkq.map m, checks := s.checks.map k }

/-- The verdict of a check on a frame as read (R86, R88, R220): 0 good, 1 a single-bit error, 2 a double-bit error or a
status that does not fit the index. For three or more wrong bits the code promises nothing: a free verdict. -/
def State.verdict (s : State) (f : Nat) (x : Frame) : Nat :=
  if 3 ≤ x.flips.length then s.draw % 3
  else if 2 ≤ x.flips.length || !(statusFits f x.status) then 2
  else x.flips.length

/-- Queue a correction that a fill or a refetch reports (R222); a full queue drops it into QUEUE_DROP. -/
def State.reportCorr (s : State) (n p f : Nat) : State :=
  let s := s.bump R.PATROL_SBE_SBE_STORED
  if s.corrq.length < 64 then { s with corrq := s.corrq ++ [⟨n, p, f, false⟩] }
  else (s.bump R.PATROL_ERR_QUEUE_DROP).set1 R.PATROL_STAT_DROPPED

/-- A stored frame failed with a double-bit or status error: the plane is DAMAGED and it is logged (R91, R223). -/
def State.damagePlane (s : State) (n p f : Nat) : State :=
  (s.setPlState n p .damaged).log .planeDamaged [n, p, f]

/-- The listed configuration frames of a latch set: what the bitstream map reads its settings from (R86). -/
def State.cfgFrames (s : State) (n : Nat) (set : Bool) : List (Nat × Nat) :=
  (s.latches.filter fun e => decide (latchKey n set 0 ≤ e.1 ∧ e.1 < latchKey n set 3840)).map
    fun e => (e.1 - latchKey n set 0, e.2.data)

/-- The listed configuration frames of a plane. -/
def State.planeCfg (s : State) (n p : Nat) : List (Nat × Nat) :=
  (s.planes.filter fun e => decide (planeKey n p 0 ≤ e.1 ∧ e.1 < planeKey n p 3840)).map
    fun e => (e.1 - planeKey n p 0, e.2.data)

/-- Region n uses clock network g as region clock or, in its active context, as a secondary clock (R71, R73). -/
def State.usesClock (s : State) (n g : Nat) : Bool :=
  s.rd (R.REGION_CLK_CLK_SEL n) == g ||
  (s.is1 (R.REGION_STATUS_HAS_ACTIVE n) &&
    ((Config.secondaryClocks (s.cfgFrames n (s.region n).sel)).take 3).contains g)

/-! ## Refusals (R97, R177) -/

/-- The codes of R97. -/
inductive Refuse where
  | notOwner | badState | planeUnusable | planeActive | shadowMismatch | halted | mappedOut | cfgDomainOff | planeTorn
  | clockStopped | shutdown
  deriving DecidableEq, Repr

/-- The number of a refusal code (R97). -/
def Refuse.code : Refuse → Nat
  | .notOwner => 1 | .badState => 2 | .planeUnusable => 3 | .planeActive => 4 | .shadowMismatch => 5 | .halted => 6
  | .mappedOut => 7 | .cfgDomainOff => 8 | .planeTorn => 9 | .clockStopped => 10 | .shutdown => 11

/-- The OP code under which SEQ_THR_REFUSE records a refused command (R177). -/
def RCmdKind.refuseOp : RCmdKind → Nat
  | .fill _ true => 1 | .fill _ false => 2 | .swap _ => 3 | .stop => 4
  | .hold | .release | .cancelFill | .isolate | .unisolate | .clear => 5
  | .powerUp | .powerOff => 6

/-- Record in SEQ_THR_REFUSE_t that a command of thread t was refused; the first since the last read is logged (R177). -/
def State.threadRefuse (s : State) (t op code target : Nat) (atClamp : Bool) : State :=
  let s := if s.rd (R.SEQ_THR_REFUSE_COUNT t) = 0 then s.log .seqCmdRefused [t, target, code] else s
  ((((s.bump (R.SEQ_THR_REFUSE_COUNT t)).wr (R.SEQ_THR_REFUSE_CODE t) code).wr (R.SEQ_THR_REFUSE_OP t) op).wrb
    (R.SEQ_THR_REFUSE_AT_CLAMP t) atClamp).wr (R.SEQ_THR_REFUSE_TARGET t) target

/-- A region refuses a command (R97): REFUSAL takes the code, CMD_ERR is set for the host, the thread's record is
written for a thread. A region marked unusable logs STACK_MAPPED_OUT for a request to leave OFF (R38). -/
def State.refuse (s : State) (n : Nat) (c : RCmd) (code : Refuse) (atClamp : Bool) : State :=
  let s := s.wr (R.REGION_STATUS_REFUSAL n) code.code
  let s := if code = .mappedOut ∧ c.kind = .powerUp then s.log .stackMappedOut [n] else s
  match c.src with
  | .host => s.set1 (R.REGION_CTL_CMD_ERR n)
  | .thread t => s.threadRefuse t.val c.kind.refuseOp code.code n atClamp

/-! ## The shadow and its fills (R99 to R102) -/

/-- REGION_FILL_n takes the result of a fill that ended (R102): result, plane, corrected frames. -/
def State.fillEnded (s : State) (n result plane corr : Nat) : State :=
  ((s.wr (R.REGION_FILL_RESULT n) result).wr (R.REGION_FILL_PLANE n) plane).wr (R.REGION_FILL_CORR n) (min corr 511)

/-- The shadow holds nothing usable; SHADOW_SPEC clears with it (R102). -/
def State.invalidateShadow (s : State) (n : Nat) : State :=
  (s.setShState n .invalid).clr (R.REGION_STATUS_SHADOW_SPEC n)

/-- The listed frames of a plane, by index. -/
def State.planeEntries (s : State) (n p : Nat) : Store Frame :=
  (s.planes.filter fun e => decide (planeKey n p 0 ≤ e.1 ∧ e.1 < planeKey n p 3900)).map
    fun e => (e.1 - planeKey n p 0, e.2)

/-- Frames of a plane with a single-bit error, which a fill corrects in its copy (R100). -/
def State.singles (s : State) (n p : Nat) : List Nat :=
  ((s.planeEntries n p).filter fun e => s.verdict e.1 e.2 == 1).map (·.1)

/-- The first frame of a plane that a fill finds wrong (R100): a double-bit error or a status that does not fit. An
unlisted frame is erased, whose status fits no index. -/
def State.firstBad (s : State) (n p : Nat) : Option Nat :=
  let es := s.planeEntries n p
  let bad := (es.filter fun e => s.verdict e.1 e.2 == 2).map (·.1)
  let gaps := if es.length = 3900 then [] else indicesWith 3900 fun f => !(es.any fun e => e.1 == f)
  match bad, gaps with
  | [], [] => none
  | [], g :: _ => some g
  | b :: _, [] => some b
  | b :: _, g :: _ => some (min b g)

/-- The region enters FAULT with a cause (R118, R119). -/
def State.enterFault (s : State) (n cause : Nat) : State :=
  (((s.wr (R.REGION_FAULT_CAUSE n) cause).setRegion n { s.region n with fallback := none }).enter n .fault)

/-- A fill that a fallback waits for ended otherwise than OK or CORRECTED: the region enters FAULT (R119). -/
def State.fallbackLost (s : State) (n : Nat) : State :=
  if (s.region n).fallback.isSome then s.enterFault n 3 else s

/-- A QUEUED or FILLING fill ends early with a result (R102): the engine and the queue place are free, the shadow is INVALID. How many frames it
had corrected by then the spec does not say: between none and all of the plane's, in index order, each of them reported to the patrol (R100, R222;
log entry 142). -/
def State.abandonFill (s : State) (n result : Nat) : State :=
  let p := s.rd (R.REGION_STATUS_SHADOW_PLANE n)
  match s.shState n with
  | .queued =>
    ((({ s with fillq := s.fillq.filter (· ≠ n) } : State).fillEnded n result p 0).invalidateShadow n).fallbackLost n
  | .filling =>
    let fixed := s.singles n p
    let k := s.draw % (fixed.length + 1)
    let t := (fixed.take k).foldl (fun s f => s.reportCorr n p f) (if fixed.isEmpty then s else s.drawn)
    ((t.fillEnded n result p k).invalidateShadow n).fallbackLost n
  | .invalid | .ready => s

/-- Drop the restore record of R146. -/
def State.dropRestore (s : State) (n : Nat) : State := s.setRegion n { s.region n with restore := none }

/-- The shadow takes a new fill of plane p, queued last, or first for a fallback (R99, R119). -/
def State.queueFill (s : State) (n p : Nat) (spec front : Bool) : State :=
  let s := s.setShState n .queued
  let s := (s.wr (R.REGION_STATUS_SHADOW_PLANE n) p).wrb (R.REGION_STATUS_SHADOW_SPEC n) spec
  let s := s.setRegion n { s.region n with fillAt := s.now }
  { s with fillq := if front then n :: s.fillq else s.fillq ++ [n] }

/-- Whether the shadow is READY, QUEUED or FILLING with plane p. -/
def State.shadowHas (s : State) (n p : Nat) : Bool :=
  s.shState n ≠ .invalid && s.rd (R.REGION_STATUS_SHADOW_PLANE n) == p

/-- Judge a fill that reads plane p (R99): the refusal, if any. -/
def State.freshRefusal (s : State) (n p : Nat) : Option Refuse :=
  if s.rstate n = .off then some .badState
  else if s.plActive n p then some .planeActive
  else if s.plState n p ≠ .valid then some .planeUnusable
  else if s.plTorn n p then some .planeTorn
  else none

/-- Judge a fill of plane p (R99): one of the plane that the shadow holds reads nothing. -/
def State.fillRefusal (s : State) (n p : Nat) : Option Refuse :=
  if s.rstate n ≠ .off ∧ s.shadowHas n p = true then none else s.freshRefusal n p

/-- The fill that waits for the end of a clamp cycle ends early with a result. -/
def State.dropLater (s : State) (n result : Nat) : State :=
  match (s.region n).later with
  | some (p, _) => (s.fillEnded n result p 0).setRegion n { s.region n with later := none }
  | none => s

/-- A fill of plane p that R99 does not refuse: it completes at once on a shadow that already has the plane, or it
replaces any other fill and is queued; in a clamp cycle, whose swap takes the shadow, it waits until the cycle has ended (DESIGN CHOICE, log entry 267).
`spec` names the thread of a speculative fill (R102, R146). -/
def State.acceptFill (s : State) (n p : Nat) (spec : Option Nat) : State :=
  if s.shadowHas n p then
    let s := (s.fillEnded n 1 p 0).wr (R.REGION_FILL_TIME n) 0
    match spec with
    | some _ => s
    | none => (s.clr (R.REGION_STATUS_SHADOW_SPEC n)).dropRestore n
  else if (s.region n).clamping.isSome then (s.dropLater n 4).setRegion n { s.region n with later := some (p, spec) }
  else
    let old := s.rd (R.REGION_STATUS_SHADOW_PLANE n)
    let displaced := s.shState n ≠ .invalid && !(s.is1 (R.REGION_STATUS_SHADOW_SPEC n))
    let s := s.abandonFill n 4
    match spec with
    | none => (s.dropRestore n).queueFill n p false false
    | some t =>
      let s := if displaced then s.setRegion n { s.region n with restore := some ⟨old, t⟩ } else s
      s.queueFill n p true false

/-- A fill of plane p is to restore a twin's LATEST region item (R367, R368). -/
def State.restoreDue (s : State) (n p : Nat) : Bool := s.twin.take.any fun k => k.restore && k.regions.contains (n, p)

/-- A fill that reads plane p whatever the shadow holds: a restore takes frames from its item, which a shadow with the plane does not have (R368). -/
def State.freshFill (s : State) (n p : Nat) : State :=
  if (s.region n).clamping.isSome then (s.dropLater n 4).setRegion n { s.region n with later := some (p, none) }
  else ((s.abandonFill n 4).dropRestore n).queueFill n p false false

/-- A clamp cycle of region n has ended: a fill that waited for it is queued; one whose plane has changed meanwhile ends PLANE_CHANGED. -/
def State.takeLater (s : State) (n : Nat) : State :=
  match (s.region n).later with
  | none => s
  | some (p, spec) =>
    let t := s.setRegion n { s.region n with later := none }
    if s.restoreDue n p then (if (s.freshRefusal n p).isSome then s.dropLater n 7 else t.freshFill n p)
    else if (s.fillRefusal n p).isSome then s.dropLater n 7
    else t.acceptFill n p spec

/-- Fill rate limit (R400, R403): engines that may be in use at once. -/
def State.fillLimit (s : State) : Nat :=
  match s.rd R.THERM_STAT_LEVEL with
  | 2 => 16 | 3 => 4 | 4 => 4 | _ => 32

/-- Fills that hold an engine (R100). -/
def State.fillsInFlight (s : State) : Nat := (indicesWith 64 fun n => s.shState n == .filling).length

/-! ## Arming (R127 to R130) -/

/-- No slot boundary will fall: the generator does not run and none is placed (R130). -/
def State.noBoundary (s : State) : Bool := !(s.is1 R.TICK_CTL_RUNNING) && !s.tickGen.first

/-- The boundary for which a swap of region n committed now arms (R128): 0 stands for none (R130). -/
def State.armTarget (s : State) (n : Nat) : Nat :=
  if s.noBoundary then 0 else s.tickGen.bno + (if (s.region n).decided then 2 else 1)

/-- Arm region n for a boundary: a later arming for the same boundary replaces the earlier one (R128). -/
def State.arm (s : State) (n bno : Nat) (a : Arm) : State :=
  let r := s.region n
  s.setRegion n { r with arms := r.arms.filter (fun e => e.1 ≠ bno) ++ [(bno, a)] }

/-- Take the arming for a boundary away; of several that wait for no boundary (R130), the earliest. -/
def State.unarm (s : State) (n bno : Nat) : State :=
  let r := s.region n
  s.setRegion n { r with arms := r.arms.eraseP (fun e => e.1 == bno) }

/-- A swap or STOP armed for region n is still to be performed (R146). -/
def State.swapPending (s : State) (n : Nat) : Bool :=
  !(s.region n).arms.isEmpty || (s.region n).clamping.isSome ||
  s.rpath.any fun c => match c with
    | .cmd m ⟨.swap _, _⟩ _ => m == n
    | .cmd m ⟨.stop, _⟩ _ => m == n
    | _ => false

/-- The command that armed a swap, as a refusal reports it. -/
def Arm.cmd (a : Arm) : RCmd := ⟨match a.plane with | some p => .swap p | none => .stop, a.src⟩

/-- An armed swap is refused at its clamp cycle or dropped at its boundary (R129, R72): the refusal is recorded, SWAP_MISS
counts for a thread, CMD_ERR is set for the host. -/
def State.refuseArmed (s : State) (n : Nat) (a : Arm) (code : Refuse) : State :=
  let s := s.refuse n a.cmd code true
  match a.src with
  | .thread t => s.bump (R.SEQ_THR_OVR_SWAP_MISS t.val)
  | .host => s

/-! ## The swap (R103 to R109) -/

/-- Whether the swap of plane p may be carried out at its clamp cycle (R103, R98): none, or the refusal. A fallback swap
is made although FAULT_POLICY is set. -/
def State.swapRefusal (s : State) (n : Nat) (plane : Option Nat) (fallback : Bool) : Option Refuse :=
  let st := s.rstate n
  let stateOk := match plane with
    | some _ => st = .idle || st = .run || st = .held || st = .isolated
    | none => st = .run || st = .held
  if !stateOk then some .badState
  else if s.holds n .debug then some .halted
  else if s.holds n .faultPolicy && !fallback then some .halted
  else match plane with
    | none => none
    | some p =>
      if s.shState n = .ready && s.rd (R.REGION_STATUS_SHADOW_PLANE n) == p && !(s.is1 (R.REGION_STATUS_SHADOW_SPEC n))
      then none else some .shadowMismatch

/-- The clamp cycle begins (R104 step 1): all clamps engage, and a STOP frees the shadow for the outgoing context (R109). -/
def State.beginClamp (s : State) (n : Nat) (job : SwapJob) : State :=
  let s := match job.plane with
    | some _ => s
    | none => (s.abandonFill n 4).dropRestore n
  s.setRegion n { s.region n with clamping := some job, clampIn := true, clampOut := true }

/-- Write the first k of the 60 state frames of a spill (R89, R106): data as the shadow's flip-flop latches hold it. -/
def State.spillFrames (s : State) (n p gen k : Nat) : State :=
  let r := s.region n
  s.each (List.range k) fun s i => s.writeFrame n p (3840 + i) (s.latch n (!r.sel) (3840 + i)).data gen

/-- A spill is cut short (R107): the plane keeps the frames already written, how many is not stated, and is torn. -/
def State.cutSpill (s : State) (n : Nat) : State :=
  match (s.region n).spill with
  | none => s
  | some (p, gen) =>
    let k := 1 + s.draw % 59
    let s := (s.spillFrames n p gen k).drawn
    ((s.setPlTorn n p true).setRegion n { s.region n with spill := none }).clr (R.REGION_STATUS_SPILLING n)

/-- Stop a spill into a plane that an erase or a load takes over (R93, R117): no further frame is written. -/
def State.stopSpillInto (s : State) (n p : Nat) : State :=
  match (s.region n).spill with
  | some (q, _) =>
    if q = p then (s.setRegion n { s.region n with spill := none }).clr (R.REGION_STATUS_SPILLING n) else s
  | none => s

/-- The generation of the next spill into a plane: opposite to the one frame 3,840 holds (R89). -/
def State.nextGen (s : State) (n p : Nat) : Nat := if (s.frame n p 3840).status = 1 then 2 else 1

/-- Begin the spill of the outgoing plane (R106). -/
def State.beginSpill (s : State) (n p : Nat) : State :=
  (s.setRegion n { s.region n with spill := some (p, s.nextGen n p) }).set1 (R.REGION_STATUS_SPILLING n)

/-- Hand the parked responses of a plane to the fabric in arrival order on every port (R77). -/
def State.unpark (s : State) (n plane : Nat) : State :=
  s.each (List.range 4) fun s p =>
    let x := s.port n p
    let s := s.setPort n p { x with parked := x.parked.filter (fun k => k.plane ≠ plane) }
    (x.parked.filter fun k => k.plane = plane).foldl (fun s k => s.emit (.fabricAnswer n p k.tag k.ans)) s

/-- Partial packets of the fabric drop at a swap edge and are counted (R76). -/
def State.dropPartial (s : State) (n : Nat) : State :=
  s.each (List.range 4) fun s p =>
    if (s.port n p).partly then (s.setPort n p { s.port n p with partly := false }).bump (R.REGION_PORT_STAT_PARTIAL_DROP n p)
    else s

/-- Slice registers clear, and read outputs and output registers of block RAM ports read 0 until the first read, at the swap edge of region n (R54,
R59); a swap leaves the stored rows as they are. -/
def State.clearSlices (s : State) (n : Nat) : State :=
  { s with slices := storeClear (256 * n) (256 * (n + 1)) s.slices, rams := storeClear (384 * n) (384 * (n + 1)) s.rams }

/-- The isolation cells that lie in region n have passed no value since the region powered up (R112). -/
def State.clearCells (s : State) (n : Nat) : State := { s with cells := storeClear (8192 * n) (8192 * (n + 1)) s.cells }

/-- A fallback is under way and no swap of the region is in its clamp cycle (R119 step 2): the fallback plane, unless it is ACTIVE, not VALID or torn,
is brought into the shadow, ahead of every queued fill. -/
def State.bringFallback (s : State) (n p : Nat) : State :=
  if s.plActive n p || s.plState n p ≠ .valid || s.plTorn n p then s.enterFault n 2
  else
    let s := if s.shadowHas n p then
        (if s.shState n = .queued then { s with fillq := n :: s.fillq.filter (· ≠ n) } else s)
      else (s.abandonFill n 4).queueFill n p false true
    let s := (s.clr (R.REGION_STATUS_SHADOW_SPEC n)).dropRestore n
    s.setRegion n { s.region n with fallback := some p }

/-- A region that is in a swap's clamp cycle leaves the clamp cycle without an edge (R72, R97, R118): the clamps are as its state has them. -/
def State.dropClamp (s : State) (n : Nat) : State :=
  let clamps := decide (s.rstate n ≠ .run)
  (s.setRegion n { s.region n with clamping := none, clampIn := clamps, clampOut := clamps }).takeLater n

/-- A swap in its clamp cycle takes no edge (R72, R96): it is refused as an armed swap is; a fallback swap takes the region to FAULT (R119). -/
def State.refuseClamp (s : State) (n : Nat) (job : SwapJob) (code : Refuse) : State :=
  let s := s.dropClamp n
  if job.fallback then s.enterFault n 3 else s.refuseArmed n ⟨job.plane, job.src⟩ code

/-- A swap edge cuts the readbacks of region n that its reference cycle holds (R218; log entry 185). -/
def State.cutReads (s : State) (n : Nat) : State :=
  { s with checks := s.checks.map fun c => if c.active ∧ c.n = n ∧ c.cycle = s.now then { c with stale := true } else c }

/-- The swap edge (R104 step 2, R106 to R109): active and shadow sets exchange, slice registers and block RAM outputs clear, the registers and flags
show it, the outgoing state is spilled, partial packets drop, parked responses of the incoming plane reach the fabric. An outgoing context with a
known double-bit error or a pending refetch in its active frames leaves the shadow INVALID (R108). A fallback that began in the clamp cycle of
another swap brings its plane in after the edge (R119; log entry 219). -/
def State.swapEdge (s : State) (n : Nat) (job : SwapJob) : State :=
  let st := s.rstate n
  let out := if s.is1 (R.REGION_STATUS_HAS_ACTIVE n) then some (s.rd (R.REGION_STATUS_ACTIVE_PLANE n)) else none
  let again := if job.fallback then none else (s.region n).fallback
  let spoilt := !(s.region n).refetch.isEmpty || !(s.region n).badActive.isEmpty
  let s := s.cutSpill n
  let s := match out with | some q => s.setPlActive n q false | none => s
  let s := match job.plane with
    | some p => ((s.set1 (R.REGION_STATUS_HAS_ACTIVE n)).wr (R.REGION_STATUS_ACTIVE_PLANE n) p).setPlActive n p true
    | none =>
      let set := !(s.region n).sel
      ({ s with latches := storeClear (latchKey n set 0) (latchKey n set 3900) s.latches } : State).clr
        (R.REGION_STATUS_HAS_ACTIVE n)
  let r := s.region n
  let s := s.setRegion n { r with sel := !r.sel, restore := none, refetch := [], badActive := [], clamping := none, edgeNow := true, fallback := none }
  let s := (s.clearSlices n).cutReads n
  let s := s.clr (R.REGION_STATUS_SHADOW_SPEC n)
  let s := match out with
    | none => s.setShState n .invalid
    | some q =>
      let s := s.wr (R.REGION_STATUS_SHADOW_PLANE n) q
      if job.fallback then s.setShState n .invalid
      else (s.setShState n (if spoilt then .invalid else .ready)).beginSpill n q
  let s := s.incr (R.REGION_SWAPS_COUNT n)
  let s := s.dropPartial n
  let s := match job.plane with | some p => s.unpark n p | none => s
  let s := if job.fallback then s.clrBit (R.REGION_STATUS_HOLD_SRC n) Hold.faultPolicy.bit else s
  let s := match job.plane, st with
  | none, _ => s.enter n .idle
  | some _, .isolated => s
  | some _, _ =>
    if s.rd (R.REGION_STATUS_HOLD_SRC n) = 0 then s.enter n .run
    else if st = RState.held then s
    else s.enter n .held
  let s := s.takeLater n
  match again with
  | some p => s.bringFallback n p
  | none => s

/-! ## Losing a region's contents (R96) -/

/-- The commands that wait in region n, the swap in its clamp cycle and the armed swaps are refused with BAD_STATE, each as it would be where it takes
effect in OFF (R96, R97, R129); a fallback swap (R119) is no command, and none is reported. -/
def State.refuseWaiting (s : State) (n : Nat) : State :=
  let r := s.region n
  let s := r.cmdq.foldl (fun s c => s.refuse n c .badState false) s
  let s := match r.clamping with
    | some job => if job.fallback then s else s.refuseArmed n ⟨job.plane, job.src⟩ .badState
    | none => s
  r.arms.foldl (fun s e => s.refuseArmed n e.2 .badState) s

/-- The region's contents are lost and it is OFF (R96): the fill ends REGION_OFF, the shadow is INVALID, armed swaps and
waiting commands are refused, REFETCH and FAULT_POLICY clear (R95), parked and outstanding responses are discarded (R77),
and block RAM becomes undefined (R60). The level keepers of its face channels keep their levels (DESIGN CHOICE, log entry 264). -/
def State.regionOff (s : State) (n : Nat) : State :=
  let s := (s.setRegion n { s.region n with fallback := none }).refuseWaiting n
  let s := s.abandonFill n 8
  let s := s.invalidateShadow n
  let s := if s.is1 (R.REGION_STATUS_HAS_ACTIVE n) then s.setPlActive n (s.rd (R.REGION_STATUS_ACTIVE_PLANE n)) false else s
  let s := s.clr (R.REGION_STATUS_HAS_ACTIVE n)
  let s := (s.clrBit (R.REGION_STATUS_HOLD_SRC n) Hold.refetch.bit).clrBit (R.REGION_STATUS_HOLD_SRC n) Hold.faultPolicy.bit
  let s := (s.clr (R.REGION_STATUS_SPILLING n)).answerInq n .aborted
  let s := s.each (List.range 4) fun s p =>
    s.setPort n p { s.port n p with waiting := [], parked := [], partly := false }
  let r := s.region n
  let s := s.setRegion n { r with cmdq := [], arms := [], clamping := none, spill := none, refetch := [], badActive := [],
                                  ovrHold := false, edgeNow := false, later := none, bramTok := s.fresh, stepLeft := 0 }
  let s := (s.clearSlices n).clearCells n
  let s : State := { s with
    latches := storeClear (latchKey n false 0) (latchKey n true 3900) s.latches
    bwin := s.bwin.filter (fun w => w.block / 192 ≠ n) }
  (s.loseBram n).drawn.enter n .off

/-- The region's domain is on: IDLE with the blank configuration (R96, R387). -/
def State.regionOn (s : State) (n : Nat) : State := s.enter n .idle

end Sys2Proof.Machine
end

