-- ==== Sys2Proof/Machine/PowerOps.lean ====
section
/-! DEFINITION. Requests for the switched power domains (15_power_thermal.md, R386 to R391), and the holding of network
requests for a domain that is closed or off (08_olicor_network.md, R255, R256). -/

namespace Sys2Proof.Machine

/-- The states of a switched domain (R387). -/
inductive DState where
  | off | waking | on | closing
  deriving DecidableEq, Repr

/-- The code of a domain state in PWR_DOM_CTL. -/
def DState.code : DState → Nat
  | .off => 0 | .waking => 1 | .on => 2 | .closing => 3

/-- The domain state that a code names. -/
def DState.ofCode : Nat → DState
  | 1 => .waking | 2 => .on | 3 => .closing | _ => .off

/-- The state of domain d. -/
def State.dstate (s : State) (d : Nat) : DState := DState.ofCode (s.rd (R.PWR_DOM_CTL_STATE d))

/-- Set the state of domain d. -/
def State.setDstate (s : State) (d : Nat) (x : DState) : State := s.wr (R.PWR_DOM_CTL_STATE d) x.code

/-- The refusals of R388. -/
inductive PwrRefuse where
  | inUse | mappedOut | dependency | shutdown
  deriving DecidableEq, Repr

/-- The REFUSE code (R388). -/
def PwrRefuse.code : PwrRefuse → Nat
  | .inUse => 1 | .mappedOut => 2 | .dependency => 3 | .shutdown => 4

/-- The R97 code of a refusal for a region domain (R388). -/
def PwrRefuse.region : PwrRefuse → Refuse
  | .inUse => .badState | .mappedOut => .mappedOut | .dependency => .cfgDomainOff | .shutdown => .shutdown

/-- Region n counts as out of OFF for its configuration domain (R92): its state, or a domain that wakes, is on or closes. -/
def State.regionNotOff (s : State) (n : Nat) : Bool := s.rstate n ≠ .off || s.dstate n ≠ .off

/-- A plane of configuration domain j is DARK by an image in progress (R201, R388): a DARK plane exists only while its
load runs or its scrub is due. -/
def State.cfgDomainLoading (s : State) (j : Nat) : Bool :=
  (List.range 4).any (fun i => (List.range 8).any fun p => s.plState (4 * j + i) p == .dark) ||
  (!(s.heldLoads.isEmpty) && s.erasing.any fun e => e.1 / 4 == j)

/-- The test engine holds the planes of configuration domain j (R457, R460). -/
def State.configTested (s : State) (j : Nat) : Bool := s.underTest.contains (.config j) || s.keptByTest.contains (.config j)

/-- The test engine holds the block RAM of region n, or the planes of its configuration domain (R457, R460). -/
def State.regionTested (s : State) (n : Nat) : Bool :=
  s.underTest.contains (.bram n) || s.keptByTest.contains (.bram n) || s.configTested (n / 4)

/-- A request for domain d meets a test (R457). -/
def State.domTested (s : State) (d : Nat) : Bool :=
  if d < 64 then s.regionTested d else if d < 80 then s.configTested (d - 64) else false

/-- Why a request ON for domain d is refused (R388, R457). -/
def State.onRefusal (s : State) (d : Nat) : Option PwrRefuse :=
  if s.isShutdown then some .shutdown
  else if s.domTested d then some .inUse
  else if d < 64 then
    if s.unusable d then some .mappedOut
    else if s.dstate (64 + d / 4) ≠ .on then some .dependency else none
  else if 80 ≤ d ∧ d < 88 then
    let q := d - 80
    if s.stackLoaded && !(s.is1 (if q < 4 then R.STACK_SUMMARY_M0_PRESENT else R.STACK_SUMMARY_M1_PRESENT))
    then some .mappedOut else none
  else none

/-- Slice n is in the larder's slice set (LARDER_SET, R266). -/
def State.inSliceSet (s : State) (n : Nat) : Bool := s.bit (R.LARDER_SET_MEMBER (n / 32)) (n % 32)

/-- Trace sends its records on lane group g (R492). -/
def State.traceUses (s : State) (g : Nat) : Bool :=
  s.is1 R.TRACE_CTL_EN && s.is1 R.TRACE_CTL_SINK && s.rd R.TRACE_CTL_GROUP == g

/-- Why a request OFF for domain d is refused (R388). -/
def State.offRefusal (s : State) (d : Nat) : Option PwrRefuse :=
  if s.isShutdown then some .shutdown
  else if s.domTested d then some .inUse
  else if d < 64 then
    if s.unusable d then some .mappedOut else
    (match s.rstate d with
     | .idle | .held | .isolated | .fault => none
     | .off | .run => some .inUse)
  else if d < 80 then
    let j := d - 64
    if (List.range 4).any (fun i => s.regionNotOff (4 * j + i)) || s.cfgDomainLoading j then some .inUse else none
  else if d < 88 then
    if (List.range 16).any (fun i => s.inSliceSet (16 * (d - 80) + i)) then some .inUse else none
  else if s.rd (R.LINK_CTL_MODE (d - 88)) ≠ 0 || s.traceUses (d - 88) then some .inUse else none

/-- A refused request (R388): domain and REQ keep, ERR and REFUSE show it, a thread's refusal is recorded (R177), and a
region domain records the code in REFUSAL. -/
def State.pwrRefuse (s : State) (d : Nat) (on : Bool) (src : PwrSrc) (e : PwrRefuse) : State :=
  let s := (s.set1 (R.PWR_DOM_CTL_ERR d)).wr (R.PWR_DOM_CTL_REFUSE d) e.code
  let s := if d < 64 then s.wr (R.REGION_STATUS_REFUSAL d) e.region.code else s
  let s := if d < 64 ∧ e = .mappedOut ∧ on then s.log .stackMappedOut [d] else s
  match src with
  | .thread t => s.threadRefuse t 6 (if d < 64 then e.region.code else Refuse.badState.code) d false
  | .regionCtl => s.set1 (R.REGION_CTL_CMD_ERR d)
  | .host | .innkeeper | .wake => s

/-- A request ON for domain d (R387 to R389). -/
def State.requestOn (s : State) (d : Nat) (src : PwrSrc) : State :=
  match s.onRefusal d with
  | some e => s.pwrRefuse d true src e
  | none =>
    let s := s.set1 (R.PWR_DOM_CTL_REQ d)
    match s.dstate d with
    | .off => s.setDstate d .waking
    | .waking => s.setDom d (if (s.dom d).reset then { s.dom d with onWait := true } else { s.dom d with offWait := [] })
    | .on => s
    | .closing => if (s.dom d).pnr || (s.dom d).reset then s.setDom d { s.dom d with onWait := true } else s.setDstate d .on

/-- A request OFF for domain d (R387 to R389): while WAKING it waits, while CLOSING it has no further effect; a domain that is OFF
refuses it where R388 does (a region that is OFF is in none of the states that R388 lists). -/
def State.requestOff (s : State) (d : Nat) (src : PwrSrc) : State :=
  match s.dstate d with
  | .waking => if s.isShutdown then s.pwrRefuse d false src .shutdown else s.setDom d { s.dom d with offWait := (s.dom d).offWait ++ [src] }
  | .on =>
    (match s.offRefusal d with
     | some e => s.pwrRefuse d false src e
     | none => (s.clr (R.PWR_DOM_CTL_REQ d)).setDstate d .closing)
  | .closing => if s.isShutdown then s.pwrRefuse d false src .shutdown else s
  | .off =>
    (match s.offRefusal d with
     | some e => s.pwrRefuse d false src e
     | none => s)

/-! ## Requests for a closed or off domain (R255, R256) -/

/-- The waystation (32 × layer + station) that serves region n's ports (R74). -/
def regionStation (n : Nat) : Nat := 32 * (1 + n / 32) + n % 32

/-- A request ON or a wake was refused: every request held for the domain is answered ABORTED and counted (R256). -/
def State.abortHeld (s : State) (d : Nat) : State :=
  let mine := s.park.filter fun e => e.dom = d
  let s : State := { s with park := s.park.filter fun e => e.dom ≠ d }
  mine.foldl (fun s e => (s.reply e.rq .aborted).bump (R.WS_STAT_ABORTED e.station)) s

/-- A WAKE packet goes to the network controller (R232, R255). -/
def State.sendWake (s : State) (d : Nat) : State := s.emit (.sys 0x008 0x80 d)

/-- A wake of domain d (R255): a request ON; when it is refused, the requests held for d are answered ABORTED (R256). -/
def State.wake (s : State) (d : Nat) : State :=
  let refused := (s.onRefusal d).isSome
  let s := s.requestOn d .wake
  if refused then s.abortHeld d else s

/-- A read by the debug initiator (R478): it has no side effect and wakes nothing. -/
def State.debugRead (s : State) (rq : Request) : Bool :=
  rq.ini == ⟨s.rd R.NET_CFG_DEV_NUM, 0x007⟩ && (rq.acc.op == .rd || rq.acc.op == .nrd)

/-- Requests that a domain's wait holds at a station (R256). -/
def State.parkedAt (s : State) (n : Nat) : Nat := (s.park.filter fun e => e.station == n).length

/-- What a request meets at a port of a switched domain: it is delivered (true), or the waystation has held or answered it. -/
abbrev Met := State × Bool

/-- The waystation holds a request for domain d in its park buffer, and goes on with `f`; with 16 requests held the request waits in its input
buffer (none; R256). -/
def State.holdFor (s : State) (d station port : Nat) (rq : Request) (f : State → State) : Option Met :=
  if 16 ≤ s.parkedAt station then none
  else some (f { s with park := s.park ++ [⟨station, port, d, rq⟩] }, false)

/-- A request reaches a port of domain d (R255; a debugger's read of a closing or off domain: R478): delivered where the domain is ON; held and,
where wake is enabled, a WAKE is sent; answered DENIED where it is not. A CLOSING domain before the point of no return returns to ON; one in a die-local
reset answers DENIED (R257). None: it waits in its input buffer (R256). -/
def State.meetDomain (s : State) (d station port : Nat) (rq : Request) : Option Met :=
  let deny : Option Met := some (s.reply rq .denied, false)
  let wakeEn := s.is1 (R.PWR_DOM_CTL_WAKE_EN d) && !(s.debugRead rq)
  match s.dstate d with
  | .on => some (s, true)
  | .waking => if (s.dom d).reset then deny else s.holdFor d station port rq id
  | .off => if wakeEn then s.holdFor d station port rq (·.sendWake d) else deny
  | .closing =>
    if (s.dom d).reset || !wakeEn then deny
    else if (s.dom d).pnr then s.holdFor d station port rq fun s => s.setDom d { s.dom d with onWait := true }
    else if (s.onRefusal d).isSome then s.holdFor d station port rq (·.wake d)
    else some (s.requestOn d .wake, true)

end Sys2Proof.Machine
end

