-- ==== Sys2Proof/Machine/NetOps.lean ====
section
/-! DEFINITION. The shared operations of requests and answers (08_olicor_network.md, R230 to R262): node IDs, sending a
request with a free tag and reserved answer space, taking an answer, and the register faults of a write. -/

namespace Sys2Proof.Machine

/-- A node ID from layer, station and port (R230). -/
def nodeId (layer station port : Nat) : Nat := layer * 512 + station * 16 + port
/-- The waystation number (32 × layer + station) of a node. -/
def nodeStation (node : Nat) : Nat := node / 16
/-- Node of port p of region n (R74). -/
def regionNode (n p : Nat) : Nat := nodeId (1 + n / 32) (n % 32) p
/-- Node of thread t (R232). -/
def threadNode (t : Nat) : Nat := nodeId 3 t 1
/-- Node of courier c (R232). -/
def courierNode (c : Nat) : Nat := nodeId 0 c 2
/-- Node of scratchpad bank b (R232). -/
def bankNode (b : Nat) : Nat := nodeId (4 + b / 1024) (b % 1024 / 32) 2
/-- Node of larder slice k (R232). -/
def sliceNode (k : Nat) : Nat := nodeId (4 + k / 64) (k % 64 / 2) (k % 2)

/-- Flits of answer space that an access reserves (R241): 1 + ⌈bytes ÷ 64⌉ for a read, 1 for a write. -/
def accessSpace (a : Access) : Nat :=
  match a.op with
  | .rd | .nrd => 1 + (a.size + 63) / 64
  | .wr | .nwr => 1

/-- The tags that no request of a node holds (R252). -/
def State.freeTags (s : State) (node : Nat) : List Nat :=
  (List.range 256).filter fun t => !(s.outst.any fun o => o.node == node && o.tag == t)

/-- The lowest tag that no request of the node uses (log entry 8). -/
def State.freeTag (s : State) (node : Nat) : Nat := (s.freeTags node).headD 0

/-- The node may send a request at once: k tags are free, and none of its requests waits for one (R252). -/
def State.mayTag (s : State) (node k : Nat) : Bool := decide (k ≤ (s.freeTags node).length) && !(s.unsent.any fun e => e.1 == node)

/-- The node may send one request at once. -/
def State.maySend (s : State) (node : Nat) : Bool := s.mayTag node 1

/-- A request leaves its initiator: it takes a free tag and reserves the answer's space (R241). -/
def State.sendNow (s : State) (node : Nat) (a : Access) : State :=
  let tag := s.freeTag node
  ({ s with outst := s.outst ++ [⟨node, tag, accessSpace a, none, false, false⟩] } : State).emit
    (.send (requestPacket (s.rd R.NET_CFG_DEV_NUM) node tag a))

/-- An initiator sends a request (R241); with every tag of the node in use or kept unused it waits for one, behind the node's earlier ones
(R252; log entry 234). -/
def State.sendRaw (s : State) (node : Nat) (a : Access) : State :=
  if s.maySend node then s.sendNow node a else { s with unsent := s.unsent ++ [(node, a)] }

/-- An access to a local address as its request names it: DST_DEV and ADDR[51:44] are the device's own number (R243). -/
def State.onBus (s : State) (a : Access) : Access :=
  match a.op with
  | .rd | .wr =>
    let me := s.rd R.NET_CFG_DEV_NUM
    { a with dstDev := me, addr := me * 2 ^ 44 + a.addr % 2 ^ 44 }
  | .nrd | .nwr => a

/-- A unit of the device sends a request, whose RD and WR go to local addresses. -/
def State.sendReq (s : State) (node : Nat) (a : Access) : State := s.sendRaw node (s.onBus a)

/-- A tag of the node has become free: its oldest waiting request is sent. -/
def State.sendWaiting (s : State) (node : Nat) : State :=
  match s.unsent.find? (fun e => e.1 == node) with
  | some e => if (s.freeTags node).isEmpty then s else ({ s with unsent := s.unsent.erase e } : State).sendNow node e.2
  | none => s

/-- Whether a node has a request under a tag whose answer may be this one. -/
def Outst.expects (o : Outst) (node tag : Nat) (a : Answer) : Bool :=
  o.node == node && o.tag == tag && !o.taken && (o.ans == none || o.ans == some a)

/-- Consume an answer: the reservation is released; a tag that timed out stays unused (R241, R252). None: nothing of the
node waits for it. -/
def State.takeAnswer (s : State) (node tag : Nat) (a : Answer) : Option State :=
  if s.outst.any (·.expects node tag a) then
    let rest := s.outst.filter fun o => !(o.expects node tag a) || o.late
    let rest := rest.map fun o => if o.expects node tag a then { o with taken := true } else o
    some (({ s with outst := rest } : State).sendWaiting node)
  else none

/-- The tags of timed-out requests are free again: at once where TIMEOUT was consumed, else when it is (R252). -/
def State.freeLate (s : State) (mine : Outst → Bool) : State :=
  let rest := s.outst.filter fun o => !(mine o && o.late && o.taken)
  let freed := (s.outst.filter fun o => mine o && o.late && o.taken).map (·.node)
  freed.foldl State.sendWaiting { s with outst := rest.map (fun o => if mine o then { o with late := false } else o) }

/-- Requests of a node without a consumed answer are dropped with their reservations (R255, R77). -/
def State.dropOutst (s : State) (node : Nat) : State :=
  { s with outst := s.outst.filter (fun o => o.node ≠ node), unsent := s.unsent.filter fun e => e.1 ≠ node }

/-- A response that matches no reservation is discarded and counted at the station of the node (R241). -/
def State.lateDrop (s : State) (station : Nat) : State := s.bump (R.WS_STAT_LATE_DROP station)

/-- An 8-byte-aligned access: payload word of byte i of the access (R236). -/
def accessWord (a : Access) (i : Nat) : Nat := (a.addr % 8 + i) / 8

/-- The byte that access data holds at index i. -/
def accessByte (a : Access) (i : Nat) : Byte := a.data.getD i 0

/-- A little-endian number from bytes (R9). -/
def leNat : List Byte → Nat
  | [] => 0
  | b :: bs => b.toNat + 256 * leNat bs

/-- The k lowest bytes of a number, little-endian (R9). -/
def leBytes : Nat → Nat → List Byte
  | 0, _ => []
  | k + 1, v => BitVec.ofNat 8 v :: leBytes k (v / 256)

end Sys2Proof.Machine
end

