-- ==== Sys2Proof/Machine/Contexts.lean ====
section
/-! DEFINITION. The commands of regions, planes, shadows and swaps (03_contexts.md, R85 to R119, and the arming and
decision rules R127 to R134 of 04_ticks_and_sequencer.md). -/

namespace Sys2Proof.Machine

/-! ## Erasing a plane (R93) -/

/-- The image in progress has made the plane DARK (R199, R201). -/
def State.loadingPlane (s : State) (n p : Nat) : Bool := s.imgPlanes.contains (n, p)

/-- The image in progress is within its PLANE_LOAD section for the plane (R199). -/
def State.loadOpen (s : State) (n p : Nat) : Bool :=
  s.rd R.IMG_STATUS_STATE == 2 && s.img.typ == 1 && s.img.region == n && s.img.plane == p

/-- An ERASE command of PLANE_CMD (R91, R93): refused, setting ERR, while an erase runs, for an ACTIVE plane, a plane under
load, a configuration domain that is not on, or an unusable region. Accepted, the plane reads EMPTY at once, a shadow that
holds it becomes INVALID, and a spill into it stops. -/
def State.erase (s : State) (n p : Nat) : State :=
  if s.is1 R.PLANE_CMD_BUSY || s.plActive n p || s.loadingPlane n p || s.loadOpen n p || s.plState n p = .dark ||
      s.dstate (64 + n / 4) ≠ .on || s.unusable n then s.set1 R.PLANE_CMD_ERR
  else
    let s := (s.set1 R.PLANE_CMD_BUSY).setPlState n p .empty
    let s := (if s.shadowHas n p then (s.abandonFill n 7).invalidateShadow n else s).stopSpillInto n p
    { s with erasing := some (n, p) }

/-- ERASE (R93): a write of PLANE_CMD with CMD 0x1. -/
def execErase (ini : Ini) (n : Fin 64) (p : Fin 8) (s : State) : Host.Outcome State Fault Refusal :=
  .next (s.quiet.written ini R.PLANE_CMD_CMD.off fun s =>
    ((s.wr R.PLANE_CMD_REGION n.val).wr R.PLANE_CMD_PLANE p.val).erase n.val p.val)

/-- The first frame of a load reaches a plane (R91, R99, R117): a shadow with the plane becomes INVALID and its fill ends PLANE_CHANGED, a spill into
it stops, the old contents are lost, and its parked responses are discarded and counted. -/
def State.loadBegins (s : State) (n p : Nat) : State :=
  let s := (if s.shadowHas n p then (s.abandonFill n 7).invalidateShadow n else s).stopSpillInto n p
  let s := (s.erasePlane n p).setPlState n p .dark
  let s := s.each (List.range 4) fun s q =>
    let x := s.port n q
    let k := (x.parked.filter fun r => r.plane == p).length
    (s.setPort n q { x with parked := x.parked.filter fun r => r.plane ≠ p }).bumpN (R.REGION_PORT_STAT_PARK_DROP n q) k
  { s with imgPlanes := if s.imgPlanes.contains (n, p) then s.imgPlanes else s.imgPlanes ++ [(n, p)] }

/-- Write one frame of a load: state frames with generation 0 (R88, R89). -/
def State.loadFrame (s : State) (n p f data : Nat) : State :=
  let s := if s.plState n p = .dark && s.loadingPlane n p then s else s.loadBegins n p
  s.writeFrame n p f data (if f < 3840 then 0 else 1)

/-- ERASE_COMPLETE (R93): every frame of the plane is erased, BUSY clears, and the frame writes that the erase held
proceed. -/
def execEraseComplete (s : State) : Host.Outcome State Fault Refusal :=
  let s := s.quiet
  match s.erasing with
  | none => .next s
  | some (n, p) =>
    let s := ((s.erasePlane n p).setPlTorn n p false).clr R.PLANE_CMD_BUSY
    let held := s.heldLoads
    let s : State := { s with erasing := none, heldLoads := [] }
    .next (held.foldl (fun s e => s.loadFrame n p e.1 e.2) s)

/-! ## Judging a command (R96, R97) -/

/-- Commands reserved to the owner (R96). -/
def RCmdKind.ownerOnly : RCmdKind → Bool
  | .fill _ _ | .swap _ | .hold | .release | .stop | .cancelFill => true
  | .powerUp | .powerOff | .isolate | .unisolate | .clear => false

/-- The region states from which a command is allowed (R96). -/
def RCmdKind.allowedIn : RCmdKind → RState → Bool
  | .powerUp, st => st == .off
  | .powerOff, st => st == .idle || st == .held || st == .isolated || st == .fault
  | .fill _ _, st => st ≠ .off
  | .swap _, st => st == .idle || st == .run || st == .held || st == .isolated
  | .stop, st => st == .run || st == .held
  | .isolate, st => st == .idle || st == .run || st == .held || st == .fault
  | .unisolate, st => st == .isolated
  | .clear, st => st == .fault
  | .hold, _ | .release, _ | .cancelFill, _ => true

/-- The owner gave the command (R96): OWNER 0 the sequencer, 1 the host. -/
def State.byOwner (s : State) (n : Nat) (src : CmdSrc) : Bool :=
  match src with
  | .host => s.is1 (R.REGION_CTL_OWNER n)
  | .thread _ => !(s.is1 (R.REGION_CTL_OWNER n))

/-- The refusal of a command at its acceptance (R96, R97, R99, R457): none, or the code. -/
def State.judge (s : State) (n : Nat) (c : RCmd) : Option Refuse :=
  if s.unusable n then some .mappedOut
  else if s.regionTested n then some .badState
  else if c.kind.ownerOnly && !(s.byOwner n c.src) then some .notOwner
  else if !(c.kind.allowedIn (s.rstate n)) then some .badState
  else match c.kind with
    | .fill p _ => s.fillRefusal n p
    | _ => none

/-- An armed swap misses the next boundary's decision point and counts in its thread's LATE_ARM (R128). -/
def State.lateArm (s : State) (n : Nat) (src : CmdSrc) : State :=
  match src with
  | .thread t => if (s.region n).decided && !s.noBoundary then s.bump (R.SEQ_THR_SPEC_LATE_ARM t.val) else s
  | .host => s

/-- The effect of a command that was accepted and is still allowed (R95, R96, R99, R102, R128). `bno` is the boundary for
which a swap or STOP arms. -/
def State.actRegion (s : State) (n : Nat) (c : RCmd) (bno : Nat) : State :=
  let src := match c.src with | .host => Hold.host | .thread _ => Hold.seq
  match c.kind with
  | .fill p _ => s.acceptFill n p none
  | .cancelFill => (s.dropLater n 6).abandonFill n 6
  | .swap p => s.arm n bno ⟨some p, c.src⟩
  | .stop => s.arm n bno ⟨none, c.src⟩
  | .hold => s.setHold n src
  | .release => s.clrHold n src
  | .isolate => s.enter n .isolated
  | .unisolate => (s.setBit (R.REGION_STATUS_HOLD_SRC n) Hold.host.bit).enter n .held
  | .clear =>
    let s := if s.shState n = .filling then s.abandonFill n 8 else s
    let s := if s.is1 (R.REGION_STATUS_HAS_ACTIVE n) then s.setPlActive n (s.rd (R.REGION_STATUS_ACTIVE_PLANE n)) false
      else s
    let s := (s.clr (R.REGION_STATUS_HAS_ACTIVE n)).clrBit (R.REGION_STATUS_HOLD_SRC n) Hold.refetch.bit
    let s := s.clrBit (R.REGION_STATUS_HOLD_SRC n) Hold.faultPolicy.bit
    let r := s.region n
    let s := (s.setRegion n { r with refetch := [], badActive := [], fallback := none, later := none }).clearSlices n
    (({ s with latches := storeClear (latchKey n r.sel 0) (latchKey n r.sel 3900) s.latches } : State)).enter n .idle
  | .powerUp => s.requestOn n (match c.src with | .host => .regionCtl | .thread t => .thread t.val)
  | .powerOff => s.requestOff n (match c.src with | .host => .regionCtl | .thread t => .thread t.val)

/-- The command waits for its place among the region's commands, at most 4 region cycles (R96). -/
def RCmdKind.queued : RCmdKind → Bool
  | .hold | .release | .isolate | .unisolate | .clear => true
  | .powerUp | .powerOff | .fill _ _ | .swap _ | .stop | .cancelFill => false

/-- Queue a command of region n (R96). -/
def State.queueCmd (s : State) (n : Nat) (c : RCmd) : State :=
  s.setRegion n { s.region n with cmdq := (s.region n).cmdq ++ [c] }

/-- A power command of a region (R96, R388, R389): its domain judges it. POWER_UP of a region whose domain is ON and to which no row of R388 applies is
refused with BAD_STATE by the region. -/
def State.powerCommand (s : State) (n : Nat) (c : RCmd) : State :=
  match s.dstate n, c.kind with
  | .on, .powerUp => if (s.onRefusal n).isSome then s.actRegion n c 0 else s.refuse n c .badState false
  | _, _ => s.actRegion n c 0

/-- A command reaches region n (R96): refused, or accepted. `bno` is the boundary for which a swap or STOP arms. -/
def State.regionCommand (s : State) (n : Nat) (c : RCmd) (bno : Nat) : State :=
  match c.kind with
  | .powerUp | .powerOff => s.powerCommand n c
  | _ =>
    match s.judge n c with
    | some e => s.refuse n c e false
    | none =>
      match c.kind with
      | .swap _ | .stop => s.actRegion n c bno
      | .fill _ _ | .cancelFill =>
        if s.clockRuns n && (s.region n).cmdq.isEmpty then s.actRegion n c bno else s.queueCmd n c
      | _ => s.queueCmd n c

/-- A command given to region n now: a swap or STOP arms for the next boundary still reachable (R128). The host gives it by a write of REGION_CTL_n,
which is turned away after logic BIST (R467). -/
def State.commandNow (s : State) (n : Nat) (kind : RCmdKind) (src : CmdSrc) : State :=
  if src = .host ∧ s.lbistBars (R.REGION_CTL_CMD n).off = true then s else
  let s := match kind with
    | .swap _ | .stop => if (s.judge n ⟨kind, src⟩).isNone then s.lateArm n src else s
    | _ => s
  s.regionCommand n ⟨kind, src⟩ (s.armTarget n)

/-- POWER_UP (R96): requests the region domain ON. -/
def execPowerUp (n : Fin 64) (src : CmdSrc) (s : State) : Host.Outcome State Fault Refusal :=
  .next (s.quiet.commandNow n.val .powerUp src)
/-- POWER_OFF (R96): requests the region domain OFF. -/
def execPowerOff (n : Fin 64) (src : CmdSrc) (s : State) : Host.Outcome State Fault Refusal :=
  .next (s.quiet.commandNow n.val .powerOff src)
/-- FILL (R96, R99): fills plane p into the shadow. -/
def execFill (n : Fin 64) (src : CmdSrc) (p : Fin 8) (s : State) : Host.Outcome State Fault Refusal :=
  .next (s.quiet.commandNow n.val (.fill p.val false) src)
/-- SWAP (R96, R128): arms a swap to plane p. -/
def execSwap (n : Fin 64) (src : CmdSrc) (p : Fin 8) (s : State) : Host.Outcome State Fault Refusal :=
  .next (s.quiet.commandNow n.val (.swap p.val) src)
/-- HOLD (R95, R96): sets hold source HOST or SEQ when it takes effect. -/
def execHold (n : Fin 64) (src : CmdSrc) (s : State) : Host.Outcome State Fault Refusal :=
  .next (s.quiet.commandNow n.val .hold src)
/-- RELEASE (R95, R96): clears hold source HOST or SEQ when it takes effect. -/
def execRelease (n : Fin 64) (src : CmdSrc) (s : State) : Host.Outcome State Fault Refusal :=
  .next (s.quiet.commandNow n.val .release src)
/-- STOP (R96, R109): arms a swap to the blank configuration. -/
def execStop (n : Fin 64) (src : CmdSrc) (s : State) : Host.Outcome State Fault Refusal :=
  .next (s.quiet.commandNow n.val .stop src)
/-- ISOLATE (R96), a command of the host. -/
def execIsolate (n : Fin 64) (s : State) : Host.Outcome State Fault Refusal :=
  .next (s.quiet.commandNow n.val .isolate .host)
/-- UNISOLATE (R96), a command of the host. -/
def execUnisolate (n : Fin 64) (s : State) : Host.Outcome State Fault Refusal :=
  .next (s.quiet.commandNow n.val .unisolate .host)
/-- CLEAR (R96), a command of the host. -/
def execClear (n : Fin 64) (s : State) : Host.Outcome State Fault Refusal :=
  .next (s.quiet.commandNow n.val .clear .host)
/-- CANCEL_FILL (R96, R102): abandons a QUEUED or FILLING shadow. -/
def execCancelFill (n : Fin 64) (src : CmdSrc) (s : State) : Host.Outcome State Fault Refusal :=
  .next (s.quiet.commandNow n.val .cancelFill src)

/-- A write of OWNER in REGION_CTL_n (R96): accepted in OFF or IDLE; otherwise a change is refused with CMD_ERR and
BAD_STATE. -/
def State.writeOwner (s : State) (n : Nat) (owner : Bool) : State :=
  if s.rd (R.REGION_CTL_OWNER n) = owner.toNat then s
  else if s.rstate n = .off ∨ s.rstate n = .idle then s.wrb (R.REGION_CTL_OWNER n) owner
  else (s.set1 (R.REGION_CTL_CMD_ERR n)).wr (R.REGION_STATUS_REFUSAL n) Refuse.badState.code

/-- OWNER_WRITE (R96): a write of REGION_CTL_n with CMD 0x0. -/
def execOwnerWrite (ini : Ini) (n : Fin 64) (owner : Bool) (s : State) : Host.Outcome State Fault Refusal :=
  .next (s.quiet.written ini (R.REGION_CTL_CMD n.val).off fun s => s.writeOwner n.val owner)

/-- The command that a code of REGION_CTL_n.CMD names (R96). -/
def regionCmdOf (code plane : Nat) : Option RCmdKind :=
  match code with
  | 1 => some .powerUp | 2 => some .powerOff | 3 => some (.fill plane false) | 4 => some (.swap plane) | 5 => some .hold
  | 6 => some .release | 7 => some .stop | 8 => some .isolate | 9 => some .unisolate | 10 => some .clear
  | 11 => some .cancelFill | _ => none

/-- A write of REGION_CTL_n: CMD_ERR clears, OWNER is written, then the command is taken (R96). -/
def wrRegionCtl (s : State) (n : Nat) (v : BitVec 32) : State :=
  let s := (s.w1cOnly (.REGION_CTL n) v).writeOwner n ((R.REGION_CTL_OWNER n).of v == 1)
  match regionCmdOf (bits v 3 0) (bits v 10 8) with
  | some k => s.commandNow n k .host
  | none => s

/-- REGION_CMD_EFFECT (R96): the oldest accepted command of the region takes effect while the region clock runs; no longer
allowed, it is refused with BAD_STATE. -/
def execRegionCmdEffect (n : Fin 64) (s : State) : Host.Outcome State Fault Refusal :=
  let s := s.quiet
  match (s.region n.val).cmdq with
  | [] => .next s
  | c :: rest =>
    if !(s.clockRuns n.val) then .next s else
    let s := s.setRegion n.val { s.region n.val with cmdq := rest }
    let fillOk := match c.kind with
      | .fill p _ => (s.fillRefusal n.val p).isNone
      | _ => true
    if !(c.kind.allowedIn (s.rstate n.val)) || !fillOk then .next (s.refuse n.val c .badState false)
    else .next (s.actRegion n.val c 0)

/-! ## Fills and squashes (R99 to R102, R146) -/

/-- The squash of a speculative fill of plane p by thread t reaches region n (R102, R146): the fill ends SQUASHED or the
READY shadow becomes INVALID; the restore plane, if any, is filled again where R99 does not refuse it. -/
def State.squashFill (s : State) (n p t : Nat) : State :=
  let s := if s.is1 (R.REGION_STATUS_SHADOW_SPEC n) && s.rd (R.REGION_STATUS_SHADOW_PLANE n) == p then
      (if s.shState n = .ready then s.invalidateShadow n else s.abandonFill n 5) else s
  let s := match (s.region n).later with
    | some (q, some _) => if q = p then s.dropLater n 5 else s
    | _ => s
  match (s.region n).restore with
  | none => s
  | some r =>
    let s := s.dropRestore n
    if (s.fillRefusal n r.plane).isNone then (s.acceptFill n r.plane none).bump (R.SEQ_THR_SPEC_RESTORE_FILLS t) else s

/-- SQUASH (R102, R146). -/
def execSquash (n : Fin 64) (p : Fin 8) (t : Fin 4) (s : State) : Host.Outcome State Fault Refusal :=
  .next (s.quiet.squashFill n.val p.val t.val)

/-- A speculative PRE of thread t reaches L3 (R102, R146): a refusal is kept until the PRE commits (R177). -/
def State.specFill (s : State) (n p t seq : Nat) : State :=
  match s.judge n ⟨.fill p true, .thread (Fin.ofNat 4 t)⟩ with
  | none => s.acceptFill n p (some t)
  | some e =>
    let x := s.thread t
    (s.setThread t { x with spec := x.spec.map fun o => match o with
      | .pre q m pl none => if q = seq ∧ m = n then .pre q m pl (some e.code) else o
      | _ => o }).wr (R.REGION_STATUS_REFUSAL n) e.code

/-- A power request of thread t reaches its domain (R186, R388): for a region domain as POWER_UP or POWER_OFF; a domain
number from 112 on is refused. -/
def State.threadPower (s : State) (d : Nat) (on : Bool) (t : Nat) : State :=
  if d < 64 then s.regionCommand d ⟨if on then .powerUp else .powerOff, .thread (Fin.ofNat 4 t)⟩ 0
  else if 112 ≤ d then s.threadRefuse t 6 Refuse.badState.code d false
  else if on then s.requestOn d (.thread t) else s.requestOff d (.thread t)

/-- SEQ_COMMAND_ARRIVAL (R141): the oldest command on the region command path reaches its region, L3 or its domain. -/
def execSeqCommandArrival (s : State) : Host.Outcome State Fault Refusal :=
  let s := s.quiet
  match s.rpath with
  | [] => .next s
  | c :: rest =>
    let s : State := { s with rpath := rest }
    .next (match c with
      | .cmd n c bno => s.regionCommand n c bno
      | .spec n p t seq => s.specFill n p t seq
      | .squash n p t => s.squashFill n p t
      | .pwr d on t => s.threadPower d on t)

/-- FILL_GRANT (R100, R403): the fill queued first takes a free engine, within the limit in force; the wait shows in
MAX_WAIT. -/
def execFillGrant (s : State) : Host.Outcome State Fault Refusal :=
  let s := s.quiet
  match s.fillq with
  | [] => .next s
  | n :: rest =>
    if s.fillLimit ≤ s.fillsInFlight then .next s
    else
      let s : State := { s with fillq := rest }
      let w := min (s.now - (s.region n).fillAt) 0xFFFF
      .next ((s.setShState n .filling).wr R.FILL_STAT_MAX_WAIT (max w (s.rd R.FILL_STAT_MAX_WAIT)))

/-- The frames of plane p as the fill of R100 copies them: corrected, with the stored status. -/
def State.fillCopy (s : State) (n p : Nat) (set : Bool) : Store Frame :=
  (s.planeEntries n p).map fun e => (latchKey n set e.1, { e.2 with flips := [] })

/-- A fill that restores a twin's LATEST region item takes the MASK frames from the item, data bits only (R363, R368). -/
def State.restoreFrames (s : State) (n p : Nat) (set : Bool) : State :=
  match s.twin.latest.find? (fun i => i.kind == 2 && i.index == n && i.plane == p) with
  | some i =>
    if s.restoreDue n p then
      let frames := (List.range 60).filter i.mask.testBit
      ((List.range frames.length).zip frames).foldl (fun s e =>
        let k := latchKey n set (3840 + e.2)
        let d := leNat ((i.data.drop (512 * e.1)).take 512)
        { s with latches := storeSet Frame.erased k { storeGet Frame.erased k s.latches with data := d, flips := [] } s.latches }) s
    else s
  | none => s

/-- Some frame of the plane has more wrong bits than its code promises to see. -/
def State.wildFrames (s : State) (n p : Nat) : Bool := (s.planeEntries n p).any fun e => decide (3 ≤ e.2.flips.length)

/-- FILL_COMPLETE (R100 to R102, R106): a granted fill ends, no earlier than a spill from the shadow has ended. A bad frame
makes the plane DAMAGED and the shadow INVALID; otherwise the shadow is READY with the plane. Corrected frames are reported
to the patrol (R222). -/
def execFillComplete (n : Fin 64) (s : State) : Host.Outcome State Fault Refusal :=
  let s := s.quiet
  if s.shState n.val ≠ .filling || s.is1 (R.REGION_STATUS_SPILLING n.val) then .next s else
  let p := s.rd (R.REGION_STATUS_SHADOW_PLANE n.val)
  let wild := s.wildFrames n.val p
  let bad := s.firstBad n.val p
  let fixed := (s.singles n.val p).filter fun f => match bad with | some b => decide (f < b) | none => true
  let copy := s.fillCopy n.val p (!(s.region n.val).sel)
  let s := if wild then s.drawn else s
  let s := fixed.foldl (fun s f => s.reportCorr n.val p f) s
  match bad with
  | some b => .next ((((s.fillEnded n.val 3 p fixed.length).invalidateShadow n.val).damagePlane n.val p b).fallbackLost n.val)
  | none =>
    let set := !(s.region n.val).sel
    let s : State := { s with latches := storeReplace (latchKey n.val set 0) (latchKey n.val set 3900) copy s.latches }
    let s := s.restoreFrames n.val p set
    let s := (s.fillEnded n.val (if fixed.isEmpty then 1 else 2) p fixed.length).wr (R.REGION_FILL_TIME n.val)
      (min (s.now - (s.region n.val).fillAt) 0xFFFF)
    .next (s.setShState n.val .ready)

/-! ## Decision points and overruns (R127 to R134) -/

/-- Take away every swap for a boundary: armed, or still on the command path (R133). -/
def State.dropArms (s : State) (n bno : Nat) : State :=
  { s.unarm n bno with rpath := s.rpath.filter fun c => match c with
    | .cmd m ⟨.swap _, _⟩ b => !(m == n && b == bno)
    | .cmd m ⟨.stop, _⟩ b => !(m == n && b == bno)
    | _ => true }

/-- DEFER (R133): the swap armed for b moves to b + 1, unless one is already armed for b + 1. -/
def State.deferArms (s : State) (n bno : Nat) : State :=
  let hits := fun (c : PathCmd) (b : Nat) => match c with
    | .cmd m ⟨.swap _, _⟩ k => m == n && k == b
    | .cmd m ⟨.stop, _⟩ k => m == n && k == b
    | _ => false
  if (s.region n).arms.any (fun e => e.1 == bno + 1) || s.rpath.any (hits · (bno + 1)) then s.dropArms n bno
  else
    let r := s.region n
    let s := s.setRegion n { r with arms := r.arms.map fun e => if e.1 = bno then (bno + 1, e.2) else e }
    { s with rpath := s.rpath.map fun c => if hits c bno then (match c with
      | .cmd m k _ => .cmd m k (bno + 1)
      | c => c) else c }

/-- A boundary will fall: the generator runs, or its first boundary is placed, and the last one has not fallen (R124). -/
def State.boundaryDue (s : State) : Bool := (s.is1 R.TICK_CTL_RUNNING || s.tickGen.first) && !s.tickGen.ended

/-- Region n overruns at its decision point (R132): in RUN, the boundary ends a checked slot, and the done flag reads 0. -/
def State.overruns (s : State) (n : Nat) : Bool :=
  s.rstate n = .run && s.is1 R.TICK_CTL_RUNNING && s.bit (R.REGION_OVR_SLOTS n) (s.rd R.TICK_STAT_SLOT) &&
  !(s.bit (R.REGION_LINES_FLAG n) 0)

/-- The pair tick in progress (R357; log entry 63): TICK_COUNT, shifted on a standby by the difference recorded at join. -/
def State.pairTick (s : State) : Nat := (s.tickCount + s.twin.offset) % 2 ^ 64

/-- The number of the boundary that ends the tick after the one in progress, counted from the end of the tick in progress (R368). -/
def State.nextTickSpan (s : State) : Nat :=
  (match s.tickGen.queued with | some (m, _, _) => m | none => s.rd R.TICK_LAYOUT_NSLOT_M1) + 1

/-- A restore fill is not READY by A_bT (R368): b_T moves to the next tick boundary, the swaps armed for it with it, and LATE_TAKE is
set. -/
def State.takeLate (s : State) : State :=
  match s.twin.take with
  | none => s
  | some k =>
    let last := s.rd R.TICK_STAT_SLOT == s.rd R.TICK_LAYOUT_NSLOT_M1 && s.is1 R.TICK_CTL_RUNNING && s.pairTick == k.tick
    let ready := k.regions.all fun e => (s.region e.1).later.isNone && (s.shState e.1 == .ready || s.shState e.1 == .invalid)
    if !last || ready then s
    else
      let b := s.tickGen.bno + 1
      let s : State := { s with twin := { s.twin with take := some { k with tick := k.tick + 1 } } }
      let s := k.regions.foldl (fun s e =>
        let r := s.region e.1
        s.setRegion e.1 { r with arms := r.arms.map fun a => if a.1 = b then (b + s.nextTickSpan, a.2) else a }) s
      s.set1 R.TWIN_CTL_LATE_TAKE

/-- DECISION_POINT (R127, R131 to R134): A_b of the next boundary: later armings go to the boundary after it, and an overrun
is counted, reported and acted on as POLICY selects. -/
def execDecisionPoint (n : Fin 64) (s : State) : Host.Outcome State Fault Refusal :=
  let s := s.quiet
  if !s.boundaryDue || (s.region n.val).decided then .next s else
  let s := s.takeLate
  let ovr := s.overruns n.val
  let s := s.setRegion n.val { s.region n.val with decided := true }
  if !ovr then .next s else
  let b := s.tickGen.bno + 1
  let s := if s.rd (R.REGION_OVR_COUNT n.val) = 0 then
      s.log .regionOverrun ([n.val, s.rd R.TICK_STAT_SLOT] ++ words64 s.tickCount)
    else s
  let s := (s.bump (R.REGION_OVR_COUNT n.val)).setBit (R.OVR_MAP_OVR (n.val / 32)) (n.val % 32)
  .next (match s.rd (R.REGION_OVR_POLICY n.val) with
    | 1 => s.deferArms n.val b
    | 2 => (s.dropArms n.val b).setRegion n.val { (s.dropArms n.val b).region n.val with ovrHold := true }
    | _ => s)

/-! ## The swap (R103 to R109, R129, R130) -/

/-- What the start of a clamp cycle decides for an armed swap (R98, R103, R109, R129): it waits, is refused, or goes on. -/
inductive ClampVerdict where
  | waits
  | refused (e : Refuse)
  | goes
  deriving DecidableEq, Repr

/-- Judge an armed swap at the start of its clamp cycle: a swap waits while REFETCH is set, a STOP until a spill has read
every state frame. -/
def State.clampVerdict (s : State) (n : Nat) (a : Arm) : ClampVerdict :=
  if a.plane.isNone && s.is1 (R.REGION_STATUS_SPILLING n) then .waits
  else match s.swapRefusal n a.plane false with
    | some .shadowMismatch => if s.holds n .refetch then .waits else .refused .shadowMismatch
    | some e => .refused e
    | none => if s.holds n .refetch then .waits else .goes

/-- The generator stops (R124, R130): RUNNING clears, and swaps armed for boundaries that will not occur wait for none, behind any that waits already. -/
def State.generatorStops (s : State) : State :=
  let b := s.tickGen.bno
  let s := (s.clr R.TICK_CTL_RUNNING).clr R.TICK_STAT_SLOT
  let s : State := { s with
    tickGen := { s.tickGen with first := false, stopping := false, ended := false, placed := none, lost := false }
    rpath := s.rpath.map fun c => match c with
      | .cmd m ⟨.swap p, x⟩ k => if b < k then .cmd m ⟨.swap p, x⟩ 0 else c
      | .cmd m ⟨.stop, x⟩ k => if b < k then .cmd m ⟨.stop, x⟩ 0 else c
      | _ => c }
  s.each (List.range 64) fun s n =>
    let r := s.region n
    if r.arms.any fun e => decide (b < e.1) then
      let late := r.arms.filter fun e => decide (b < e.1)
      s.setRegion n { r with arms := r.arms.filter (fun e => decide (e.1 ≤ b)) ++ late.map fun e => (0, e.2) }
    else s

/-- Every step of R131 for the boundaries that have fallen has taken place: no swap for one of them is armed or in its clamp cycle. -/
def State.boundaryDone (s : State) : Bool :=
  (List.range 64).all fun n => (s.region n).clamping.isNone &&
    !((s.region n).arms.any fun e => decide (1 ≤ e.1) && decide (e.1 ≤ s.tickGen.bno))

/-- The last boundary has fallen: the generator stops once its steps are done (R124). -/
def State.finishStop (s : State) : State := if s.tickGen.ended && s.boundaryDone then s.generatorStops else s

/-- The armed swap whose clamp cycle may begin: for a boundary that has been decided, the earliest first (R128, R129). -/
def State.dueArm (s : State) (n : Nat) : Option (Nat × Arm) :=
  let top := s.tickGen.bno + (s.region n).decided.toNat
  let due := (s.region n).arms.filter fun e => decide (1 ≤ e.1) && decide (e.1 ≤ top)
  due.find? fun e => due.all fun f => decide (e.1 ≤ f.1)

/-- CLAMP_CYCLE (R103, R104, R129): the conditions of the armed swap are checked; it is refused, or all clamps engage and
the user clocks stop for the cycle. -/
def execClampCycle (n : Fin 64) (s : State) : Host.Outcome State Fault Refusal :=
  let s := s.quiet
  if !(s.clockRuns n.val) || (s.region n.val).clamping.isSome then .next s else
  match s.dueArm n.val with
  | none => .next s
  | some (b, a) =>
    match s.clampVerdict n.val a with
    | .waits => .next s
    | .refused e => .next ((s.unarm n.val b).refuseArmed n.val a e).finishStop
    | .goes => .next ((s.unarm n.val b).beginClamp n.val ⟨a.plane, false, a.src⟩)

/-- The state in which region n is at the edge allows the swap (R94, R96, R118): a region that has entered FAULT since the clamp cycle began leaves it
by CLEAR, ISOLATE or POWER_OFF only. -/
def State.edgeAllowed (s : State) (n : Nat) (job : SwapJob) : Bool :=
  (RCmd.kind ⟨match job.plane with | some p => .swap p | none => .stop, .host⟩).allowedIn (s.rstate n)

/-- SWAP_EDGE (R96, R104): the edge that ends the clamp cycle; a swap that is no longer allowed is refused with BAD_STATE. -/
def execSwapEdge (n : Fin 64) (s : State) : Host.Outcome State Fault Refusal :=
  let s := s.quiet
  match (s.region n.val).clamping with
  | some job =>
    if !(s.clockRuns n.val) then .next s
    else if s.edgeAllowed n.val job then .next (s.swapEdge n.val job).finishStop
    else .next (s.refuseClamp n.val job .badState).finishStop
  | none => .next s

/-- SPILL_COMPLETE (R89, R106): the 60 state frames are written with one generation, which ends any tearing, and SPILLING
clears. -/
def execSpillComplete (n : Fin 64) (s : State) : Host.Outcome State Fault Refusal :=
  let s := s.quiet
  match (s.region n.val).spill with
  | none => .next s
  | some (p, gen) =>
    let s := (s.spillFrames n.val p gen 60).setPlTorn n.val p false
    .next ((s.setRegion n.val { s.region n.val with spill := none }).clr (R.REGION_STATUS_SPILLING n.val))

/-- ARMED_SWAP_NO_BOUNDARY (R130): a swap or STOP that waits for no boundary takes its clamp cycle and its edge. -/
def execArmedSwapNoBoundary (n : Fin 64) (s : State) : Host.Outcome State Fault Refusal :=
  let s := s.quiet
  if !(s.clockRuns n.val) || (s.region n.val).clamping.isSome then .next s else
  match (s.region n.val).arms.find? (fun e => e.1 == 0) with
  | none => .next s
  | some (_, a) =>
    match s.clampVerdict n.val a with
    | .waits => .next s
    | .refused e => .next ((s.unarm n.val 0).refuseArmed n.val a e)
    | .goes =>
      let job : SwapJob := ⟨a.plane, false, a.src⟩
      .next (((s.unarm n.val 0).beginClamp n.val job).swapEdge n.val job)

/-- REFETCH (R115, R224): in a RUN cycle that is not a clamp cycle, hold source REFETCH is set, the frame in the refetch
buffer is written into the active latches, and REFETCH clears. Flip-flops and their shadow latches keep their values. -/
def execRefetch (n : Fin 64) (s : State) : Host.Outcome State Fault Refusal :=
  let s := s.quiet
  let r := s.region n.val
  match r.refetch with
  | (f, _, some data) :: rest =>
    if s.rstate n.val ≠ .run || r.clamping.isSome || !(s.clockRuns n.val) then .next s
    else
      let s := (s.setRegion n.val { r with refetch := rest }).setHold n.val .refetch
      let s : State := { s with latches := storeSet Frame.erased (latchKey n.val r.sel f) ⟨data, 0, []⟩ s.latches }
      let s := s.setRegion n.val { s.region n.val with badActive := (s.region n.val).badActive.filter (· ≠ f) }
      .next (s.clrHold n.val .refetch)
  | _ => .next s

/-- FALLBACK_SWAP (R119 step 3): the fallback plane is READY in the shadow, DEBUG is clear and the clock runs: the swap is
made at once. A shadow that no longer fills or holds the plane, or a swap that fails R103, takes the region to FAULT. -/
def execFallbackSwap (n : Fin 64) (s : State) : Host.Outcome State Fault Refusal :=
  let s := s.quiet
  match (s.region n.val).fallback with
  | none => .next s
  | some p =>
    let sh := s.shState n.val
    if (sh = .queued ∨ sh = .filling) ∧ s.rd (R.REGION_STATUS_SHADOW_PLANE n.val) = p then .next s
    else if s.holds n.val .debug || s.holds n.val .refetch || !(s.clockRuns n.val) || (s.region n.val).clamping.isSome then
      .next s
    else match s.swapRefusal n.val (some p) true with
      | some _ => .next (s.enterFault n.val 3)
      | none => .next ((s.beginClamp n.val ⟨some p, true, .host⟩).swapEdge n.val ⟨some p, true, .host⟩)

end Sys2Proof.Machine
end

