-- ==== Sys2Proof/Machine/Logic.lean ====
section
/-! DEFINITION. The fabric's resources (02_fabric.md, R42 to R67; 03_contexts.md, R87, R110 to R114): where they lie, what lookup tables, carries,
slices and block RAM ports compute, how wires, border groups, isolation cells and face channels join them, and the value of a routed signal. Which
resource a design uses and what it routes to each input, the configuration says (Machine/Design.lean, log entry 4). -/

namespace Sys2Proof.Machine

/-! ## Places (R42 to R44, R87) -/

/-- The region that tile (die, x, y) belongs to (R42); die 1 for L1, 2 for L2. -/
def tileRegion (die x y : Nat) : Nat := 32 * (die - 1) + 8 * (y / 48) + x / 32

/-- The local tile 32v + u of tile (x, y) within its region (R42, R87). -/
def localTile (x y : Nat) : Nat := 32 * (y % 48) + x % 32

/-- The column x of local tile t of region n (R42). -/
def tileX (n t : Nat) : Nat := 32 * (n % 8) + t % 32

/-- The row y of local tile t of region n (R42). -/
def tileY (n t : Nat) : Nat := 48 * (n % 32 / 8) + t / 32

/-- The tiles of a region, the clusters of a tile, the logic elements of a cluster, the slices and block RAMs of a region (R43, R44). -/
def tilesPerRegion : Nat := 32 * 48
def clustersPerTile : Nat := 10
def elementsPerCluster : Nat := 8
def slicesPerRegion : Nat := 8 * 32
def ramsPerRegion : Nat := 4 * 48

/-- The local columns after which an arithmetic strip, and a block RAM strip, lies (R44). -/
def sliceColumn (strip : Nat) : Nat := 4 * strip + 3
def ramColumn (strip : Nat) : Nat := 8 * strip + 5

/-- The number of slice j of a strip, and of block j of a block RAM strip (R44). -/
def sliceNumber (strip j : Nat) : Nat := 32 * strip + j
def ramNumber (strip j : Nat) : Nat := 48 * strip + j

/-- The local tile whose routing slice j of the region uses: beside its strip, the 32 slices spread over the 48 rows (R44; the row of each is log
entry 218). -/
def sliceTile (j : Nat) : Nat := 32 * (j % 32 * 3 / 2) + sliceColumn (j / 32)

/-- The local tile whose routing block RAM k of the region uses: beside its strip, one block per row (R44). -/
def ramTile (k : Nat) : Nat := 32 * (k % 48) + ramColumn (k / 48)

/-- The index of a flip-flop (R87): local tile t = 32v + u, element e = 8 × cluster + position, h false for FFA and true for FFB. -/
def flopIndex (t e : Nat) (h : Bool) : Nat := 160 * t + 2 * e + h.toNat

/-- The state frame and the data bit that hold flip-flop i (R87). -/
def flopFrame (i : Nat) : Nat × Nat := (3840 + i / 4096, i % 4096)

/-- The value of flip-flop i of region n in its active context (R49, R87); the blank configuration holds every flip-flop at 0 (R94). -/
def State.flop (s : State) (n i : Nat) : Bool :=
  s.is1 (R.REGION_STATUS_HAS_ACTIVE n) && ((s.latch n (s.region n).sel (flopFrame i).1).data).testBit (flopFrame i).2

/-- The configuration frames of the active context of region n. -/
def State.active (s : State) (n : Nat) : List (Nat × Nat) := s.cfgFrames n (s.region n).sel

/-- The clock network behind clock choice c of the active context of region n (R48, R73): 0 the region clock, 1 to 3 the secondary clocks. -/
def State.userNet (s : State) (n c : Nat) : Option Nat :=
  if c = 0 then some (s.rd (R.REGION_CLK_CLK_SEL n)) else ((Config.secondaryClocks (s.active n)).take 3)[c - 1]?

/-! ## Logic elements (R45, R47, R48) -/

/-- LY and LZ of a lookup table for its inputs, LA being bit 0 and LF bit 5 (R45). -/
def lutOut (table : BitVec 64) (mode : LutMode) (input : BitVec 6) : Bool × Bool :=
  let low := input.toNat % 32
  match mode with
  | .whole => (table.getLsbD input.toNat, input.getLsbD 5)
  | .split => (table.getLsbD (32 + low), table.getLsbD low)

/-- The carry out of a logic element: LY is its propagate term, LZ its generate term (R45, R47). Where both are 1 the carry passes on (DESIGN CHOICE,
log entry 256). -/
def carryOut (propagate generate carry : Bool) : Bool := if propagate then carry else generate

/-- The carries into the elements of a chain, and out of its top (R47). -/
def carryChain : List (Bool × Bool) → Bool → List Bool
  | [], c => [c]
  | (p, g) :: es, c => c :: carryChain es (carryOut p g c)

/-- A flip-flop at an active edge of its clock (R48, R49): set-reset takes its configured value, also without the clock enable (DESIGN CHOICE, log entry
257); else without the enable it keeps its value. -/
def flopNext (enable setReset srValue d q : Bool) : Bool := if setReset then srValue else if enable then d else q

/-! ## Arithmetic slices (R50, R51, R53, R54) -/

/-- An operand of 27 bits as an integer. -/
def operand27 (signed : Bool) (v : BitVec 27) : Int := if signed then v.toInt else v.toNat

/-- The product M = X × Y (R50). -/
def sliceProduct (c : SliceCfg) (x y : BitVec 27) : Int := operand27 c.xSigned x * operand27 c.ySigned y

/-- S, chosen by SRC (R50): 64-bit values are signed, and a shift is arithmetic to the right. -/
def sliceAddend (c : SliceCfg) (src : BitVec 3) (w cin q : Word) : Int :=
  let sh := fun (v : Word) => v.toInt / 2 ^ c.shift
  match src.toNat with
  | 0 => 0
  | 1 => w.toInt
  | 2 => q.toInt
  | 3 => sh cin
  | 4 => q.toInt + w.toInt
  | 5 => q.toInt + sh cin
  | 6 => w.toInt + sh cin
  | _ => sh q

/-- S ± M for a product M (R50). -/
def sliceSum (c : SliceCfg) (src : BitVec 3) (neg : Bool) (m : Int) (w cin q : Word) : Int :=
  sliceAddend c src w cin q + (if neg then -m else m)

/-- The true value of S ± X × Y (R50). -/
def sliceTrue (c : SliceCfg) (src : BitVec 3) (neg : Bool) (x y : BitVec 27) (w cin q : Word) : Int :=
  sliceSum c src neg (sliceProduct c x y) w cin q

/-- The value of an M register (R50): the 54-bit product, sign-extended unless both operands are unsigned. -/
def productValue (c : SliceCfg) (m : BitVec 54) : Int := if c.xSigned || c.ySigned then m.toInt else m.toNat

/-- A value lies in the signed 64-bit range. -/
def inRange64 (v : Int) : Bool := decide (-(2 ^ 63) ≤ v) && decide (v < 2 ^ 63)

/-- Q and OV for a true value (R51): wrapped, or clamped in saturate mode. -/
def sliceResult (saturate : Bool) (v : Int) : Word × Bool :=
  if inRange64 v then (BitVec.ofInt 64 v, false)
  else if !saturate then (BitVec.ofInt 64 v, true)
  else if v < 0 then (BitVec.ofNat 64 (2 ^ 63), true)
  else (BitVec.ofNat 64 (2 ^ 63 - 1), true)

/-- One cycle of a slice: its next Q, which is also COUT, and OV (R50, R51). -/
def sliceNext (c : SliceCfg) (src : BitVec 3) (neg : Bool) (x y : BitVec 27) (w cin q : Word) : Word × Bool :=
  sliceResult c.saturate (sliceTrue c src neg x y w cin q)

/-- The slice registers after an active edge of the slice clock (R50 to R52), from the inputs before it: each register in use delays its value by one
cycle, and the result follows the operands through the registers in use. -/
def sliceEdge (u : SliceUse) (src : BitVec 3) (neg : Bool) (x y : BitVec 27) (w cin : Word) (r : SliceRegs) : SliceRegs :=
  let p := sliceProduct u.cfg (if u.useX then r.x else x) (if u.useY then r.y else y)
  let z := sliceResult u.cfg.saturate
    (sliceSum u.cfg src neg (if u.useM then productValue u.cfg r.m else p) (if u.useW then r.w else w) cin r.q)
  { x := if u.useX then x else 0, y := if u.useY then y else 0, w := if u.useW then w else 0,
    m := if u.useM then BitVec.ofInt 54 p else 0, q := z.1, ov := z.2 }

/-- Arithmetic slice j of region n. -/
def State.slicer (s : State) (n j : Nat) : SliceRegs := storeGet {} (256 * n + j) s.slices

/-- CIN of slice j of region n (R53): COUT, which equals Q (R51), of the slice below it in its strip; 0 for slice 0 of a strip, so that no cascade
crosses a region border. -/
def State.cascade (s : State) (n j : Nat) : Word := if j % 32 = 0 then 0 else (s.slicer n (j - 1)).q

/-! ## Block RAM ports (R55, R56, R58) -/

/-- The lane width of a port as k, the bits of a lane number (R55). -/
def laneBits : Nat → Nat
  | 1 => 6 | 2 => 5 | 4 => 4 | 9 => 2 | 18 => 1 | _ => 0

/-- The row and the mask of row bits that address a reaches at width W (R55): a lane past the last one reaches no bit. -/
def laneOf (w a : Nat) : Nat × Nat :=
  let lane := a % 2 ^ laneBits w
  (a / 2 ^ laneBits w, if 36 / w ≤ lane then 0 else (2 ^ w - 1) * 2 ^ (w * lane))

/-- What a read of address a at width W returns (R55). -/
def portRead (w a row : Nat) : Nat :=
  let lane := a % 2 ^ laneBits w
  if 36 / w ≤ lane then 0 else row / 2 ^ (w * lane) % 2 ^ w

/-- The mask of row bits that the write enables of a port open (R55): one per quarter of 9 bits at widths of 18 and 36; a narrower port writes
its whole lane. -/
def writeMask (w a : Nat) (enables : BitVec 4) : Nat :=
  let m := (laneOf w a).2
  if w < 18 then (if enables = 0 then 0 else m)
  else (List.range (w / 9)).foldl (fun n i =>
    n + if enables.getLsbD i then 0x1FF * 2 ^ (w * (a % 2 ^ laneBits w) + 9 * i) else 0) 0

/-- A row after a port's write of a value (R55). -/
def portWrite (w a row value : Nat) (enables : BitVec 4) : Nat :=
  let m := writeMask w a enables
  (row &&& (row ^^^ m)) ||| ((value * 2 ^ (w * (a % 2 ^ laneBits w))) &&& m)

/-- The read output in a cycle in which the port writes (R56). -/
def readDuringWrite (mode : RdwMode) (w a row value : Nat) (enables : BitVec 4) (output : Nat) : Nat :=
  match mode with
  | .fresh => portRead w a (portWrite w a row value enables)
  | .stale => portRead w a row
  | .keep => output

/-- The word of a ganged port: rows 2a and 2a + 1 (R55). -/
def gangedWord (rowEven rowOdd : Nat) : Nat := rowEven % 2 ^ 36 + 2 ^ 36 * (rowOdd % 2 ^ 36)

/-- The mask of word bits that the 8 write enables of a ganged port open, one for each 9-bit eighth (R55). -/
def gangedMask (enables : BitVec 8) : Nat :=
  (List.range 8).foldl (fun n i => n + if enables.getLsbD i then 0x1FF * 2 ^ (9 * i) else 0) 0

/-- Bits of a mask from `new`, the others from `old`. -/
def merge (mask new old : Nat) : Nat := (old &&& (old ^^^ mask)) ||| (new &&& mask)

/-- The read output of a ganged port in a cycle in which it writes (R56). -/
def gangedReadDuringWrite (mode : RdwMode) (word value : Nat) (enables : BitVec 8) (output : Nat) : Nat :=
  match mode with
  | .fresh => merge (gangedMask enables) value word
  | .stale => word
  | .keep => output

/-- The number of 1 bits in a byte is odd. -/
def oddByte (v : Nat) : Bool := (List.range 8).foldl (fun b i => b != v.testBit i) false

/-- The bytes that may be the check column of a data bit: an odd number of bits, more than one. -/
def dataColumns : List Nat := (List.range 256).filter fun v => oddByte v && !(List.range 8).any fun i => v == 2 ^ i

/-- `k` of the columns of a list, each taken once (R58, log entry 255). -/
def pickColumns : Nat → List Nat → List Nat
  | 0, _ => []
  | k + 1, l => let i := Config.ramPick k % l.length; l.getD i 0 :: pickColumns k (l.eraseIdx i)

/-- The check columns of the 72 bits of a word (R58): 64 for the data bits, and one bit each for the bits of the check code. All differ and are odd, so
that every single-bit error has a syndrome of its own and every double-bit error an even one, which is none of theirs. -/
def ramColumns : List Nat := pickColumns 64 dataColumns ++ (List.range 8).map (2 ^ ·)

/-- The syndrome of a word. -/
def ramSyndrome (word : Nat) : Nat := (List.range 72).foldl (fun v i => if word.testBit i then v ^^^ ramColumns.getD i 0 else v) 0

/-- The 72-bit word that an ECC-mode port stores for 64 data bits (R58): data and a freshly computed check code. -/
def eccWord (data : Nat) : Nat := data % 2 ^ 64 + 2 ^ 64 * ramSyndrome (data % 2 ^ 64)

/-- What an ECC-mode port reads (R58): the data, corrected where one bit of the word is wrong, else as stored, with ECC_C and ECC_U. -/
def eccRead (word : Nat) : Nat × Bool × Bool :=
  let v := ramSyndrome word
  if v = 0 then (word % 2 ^ 64, false, false)
  else match ramColumns.findIdx? (· == v) with
    | some i => ((word ^^^ 2 ^ i) % 2 ^ 64, true, false)
    | none => (word % 2 ^ 64, false, true)

/-! ## Wires (R63) -/

/-- How many tiles a wire spans (R63). -/
def wireSpan : WireKind → Nat
  | .single => 1 | .quad => 4 | .long => 16

/-- How many wires of a kind each tile drives in each direction (R63). -/
def wireCount : WireKind → Nat
  | .single => 24 | .quad => 8 | .long => 4

/-- The tile, as region and local tile, that drives the wires which end at local tile t of region n in a direction after a span; none: it lies beyond
the die's edge, where no wire leaves (R63). -/
def wireStart (n t : Nat) (d : Dir) (span : Nat) : Option (Nat × Nat) :=
  let x := tileX n t
  let y := tileY n t
  let at' := fun x y => (tileRegion (1 + n / 32) x y, localTile x y)
  match d with
  | .east => if x < span then none else some (at' (x - span) y)
  | .west => if 256 ≤ x + span then none else some (at' (x + span) y)
  | .north => if y < span then none else some (at' x (y - span))
  | .south => if 192 ≤ y + span then none else some (at' x (y + span))

/-- A long wire may start at local tile t (R63): at a multiple of 16 columns or rows within its region. -/
def longStarts (d : Dir) (t : Nat) : Bool :=
  match d with
  | .east | .west => t % 32 % 16 == 0
  | .north | .south => t / 32 % 16 == 0

/-! ## Border groups and isolation cells (R64, R65, R67, R110 to R113)

Inbound groups of a region are numbered 0 to 47 across its left border by row, 48 to 95 across the right, 96 to 127 across the bottom by column, 128 to
159 across the top, and 160 + 4t + j for the four face groups of local tile t. The group that a sender calls outbound has the number of the border that
it leaves through. -/

/-- The group across which a wire reaches border tile t in a direction (R64). -/
def borderGroup (t : Nat) (d : Dir) : Option Nat :=
  match d with
  | .east => if t % 32 = 0 then some (t / 32) else none
  | .west => if t % 32 = 31 then some (48 + t / 32) else none
  | .north => if t / 32 = 0 then some (96 + t % 32) else none
  | .south => if t / 32 = 47 then some (128 + t % 32) else none

/-- The border tile and the direction of an inbound horizontal group. -/
def groupTile (g : Nat) : Nat × Dir :=
  if g < 48 then (32 * g, .east) else if g < 96 then (32 * (g - 48) + 31, .west)
  else if g < 128 then (g - 96, .north) else (32 * 47 + (g - 128), .south)

/-- The region that sends inbound group g of region n (R64, R65); none: the border lies at the die's edge. -/
def groupSender (n g : Nat) : Option Nat :=
  if g < 160 then
    match wireStart n (groupTile g).1 (groupTile g).2 1 with
    | some (m, _) => if m = n then none else some m
    | none => none
  else if g < 160 + 4 * tilesPerRegion then some ((n + 32) % 64) else none

/-- The outbound number, at its sender, of a region's inbound group g. -/
def outboundGroup (g : Nat) : Nat :=
  if g < 48 then g + 48 else if g < 96 then g - 48 else if g < 128 then g + 32 else if g < 160 then g - 32 else g

/-- A cell between sender m and receiver n is clamped (R110, R111): when either region requires it. -/
def State.clamped (s : State) (n m : Nat) : Bool := (s.region n).clampIn || (s.region m).clampOut

/-- A latch set of region n sets the context-invariant bit of outbound group g (R113). -/
def State.invariantGroup (s : State) (n : Nat) (set : Bool) (g : Nat) : Bool :=
  !(s.cfgFrames n set).isEmpty && Config.invariantBit (s.cfgFrames n set) g

/-- A swap of region n is under way at its border (R111): its clamp cycle, in RUN or HELD, or the cycle after the swap edge, in which the outbound
clamps stay engaged. -/
def State.swapping (s : State) (n : Nat) : Bool :=
  match (s.region n).clamping with
  | some job => job.plane.isSome && (s.rstate n == .run || s.rstate n == .held)
  | none => s.rstate n == .run && (s.region n).clampOut

/-- A cell in PASS passes the live outbound group g of region n while it is clamped (R113): during a swap when the outgoing and the incoming
configuration set its bit (after the edge the outgoing one lies in the shadow), or while the region is HELD, not by REFETCH, and its active
configuration sets it. In every other clamped interval the cell holds. -/
def State.passes (s : State) (n g : Nat) : Bool :=
  let r := s.region n
  if s.swapping n then s.invariantGroup n r.sel g && s.invariantGroup n (!r.sel) g
  else r.clamping.isNone && s.rstate n == .held && !(s.holds n .refetch) && s.invariantGroup n r.sel g

/-- What a clamped cell presents for a group of signals (R112): `last` is the last value that passed, `live` what the group carries. -/
def clampPresents (mode : ClampMode) (width last live : Nat) (passes : Bool) : Nat :=
  match mode with
  | .hold => last
  | .force0 => 0
  | .force1 => 2 ^ width - 1
  | .pass => if passes then live else last

/-- The isolation cell of inbound group g of region n. -/
def State.cell (s : State) (n g : Nat) : Cell := storeGet {} (8192 * n + g) s.cells

/-- How the active configuration of region n sets the cell of inbound group g (R67, R110); the blank configuration and a cleared region leave it in HOLD
with DIRECT timing (log entry 222). -/
def State.cellCfg (s : State) (n g : Nat) : CellCfg :=
  if s.is1 (R.REGION_STATUS_HAS_ACTIVE n) then Config.cell (s.active n) g else ⟨.hold, false⟩

/-- What a cell sends on from its 32 input signals, before any synchroniser (R112 to R114). -/
def State.cellInput (s : State) (n g live : Nat) : Nat :=
  match groupSender n g with
  | none => 0
  | some m =>
    if s.clamped n m then clampPresents (s.cellCfg n g).mode 32 (s.cell n g).last live (s.passes m (outboundGroup g)) else live

/-- What the receiving region's logic sees of a group (R67, R114): a SYNC2 cell shows its second stage; a DIRECT cell shows its input, which is
undefined while it is released between regions on different clock networks. -/
def State.cellOutput (s : State) (n g live : Nat) : Nat :=
  if (s.cellCfg n g).sync2 then (s.cell n g).syn2
  else match groupSender n g with
    | none => 0
    | some m =>
      if s.clamped n m || s.rd (R.REGION_CLK_CLK_SEL n) == s.rd (R.REGION_CLK_CLK_SEL m) then s.cellInput n g live
      else Config.wild s.fresh (8192 * n + g) % 2 ^ 32

/-! ## Face channels (R65, R66) -/

/-- The region whose tile sends on channel c of tile pair (x, y): channels 0 to 127 run from L1 to L2 (R42, R65). -/
def faceSender (x y c : Nat) : Nat := (if c < 128 then 0 else 32) + 8 * (y / 48) + x / 32

/-- Where a face channel is kept. -/
def faceKey (x y c : Nat) : Nat := (x * 192 + y) * 256 + c

/-- A face channel that has carried no pulse: both ends at level 0 (log entry 221). -/
def Face.quiet : Face := ⟨false, false, 0, 0⟩

/-- Face channel c of tile pair (x, y). -/
def State.face (s : State) (x y c : Nat) : Face := storeGet Face.quiet (faceKey x y c) s.faces

/-- The first channel of face group j (0 to 3) that region n receives (R65): groups 0 to 3 are received on L2, groups 4 to 7 on L1. -/
def faceGroupBase (n j : Nat) : Nat := (if 32 ≤ n then 0 else 128) + 32 * j

/-- The live value of face group j of local tile t of region n: the levels that the receiver's keepers hold (R20, R65). -/
def State.faceGroup (s : State) (n t j : Nat) : Nat :=
  (List.range 32).foldl (fun v i =>
    v + if (s.face (tileX n t) (tileY n t) (faceGroupBase n j + i)).kept then 2 ^ i else 0) 0

/-- The level that the sending tile's flip-flop drives on a face channel (R66): the tile's face output selector chooses one of its 160 flip-flops. -/
def State.faceDriven (s : State) (x y c : Nat) : Bool :=
  let n := faceSender x y c
  let t := localTile x y
  s.flop n (160 * t + Config.faceFlop (s.active n) t (c % 128) % 160)

/-- A pulse on a face channel (R22, R23): it sets the receiver's keeper, and the next refresh falls due 64 cycles later of either clock. -/
def State.facePulse (s : State) (x y c : Nat) (level : Bool) : State :=
  ({ s with faces := storeSet Face.quiet (faceKey x y c) ⟨level, level, s.now + 64, 64⟩ s.faces } : State).emit (.facePulse x y c level)

/-! ## The value of a routed signal -/

/-- An upper bound of the number of signals that lie in a row on a path without a loop: every lookup table, carry and wire end of the device. -/
def signalDepth : Nat := 2 ^ 40

/-- The value of source `src` at local tile t of region n (R45, R47, R63 to R67), to a depth of signals in a row; a region that holds the blank
configuration drives nothing (R94). A quad that would end beyond the border tile carries 0 (DESIGN CHOICE, log entry 265). A loop of signals without a flip-flop has no value that the spec states: a free bit (log entry 223). -/
def State.signal (s : State) : Nat → Nat → Nat → Src → Bool
  | 0, n, t, _ => (Config.wild s.fresh (2 ^ 20 + 2048 * n + t)).testBit 0
  | k + 1, n, t, src =>
    if !(s.is1 (R.REGION_STATUS_HAS_ACTIVE n)) then false else
    let cfg := s.active n
    let lut := fun e =>
      let c := Config.element cfg t e
      lutOut c.table c.mode (BitVec.ofNat 6 ((List.range 6).foldl (fun v i =>
        v + if s.signal k n t (c.inputs.getD i .zero) then 2 ^ i else 0) 0))
    match src with
    | .zero => false
    | .one => true
    | .flop e h => s.flop n (flopIndex t e h)
    | .ly e => (lut e).1
    | .lz e => (lut e).2
    | .carryIn e =>
      -- element 0 of a cluster takes the carry of element 7 of the same cluster of the tile below, in the bottom row what the configuration
      -- selects (R47)
      let below := if e % 8 ≠ 0 then some (t, e - 1) else if 32 ≤ t then some (t - 32, e + 7) else none
      (match below with
       | none => s.signal k n t (Config.cluster cfg t (e / 8)).carry
       | some (q, f) => carryOut (s.signal k n q (.ly f)) (s.signal k n q (.lz f)) (s.signal k n q (.carryIn f)))
    | .wire d kind i =>
      (match wireStart n t d (wireSpan kind) with
       | none => false
       | some (m, q) =>
         if wireCount kind ≤ i then false
         else if m = n then
           if kind = .long && !(longStarts d q) then false else s.signal k n q (Config.wireDriver cfg q d kind i)
         else match kind, borderGroup t d with
           | .single, some g | .quad, some g =>
             let bit := if kind = .single then i else 24 + i
             let live := s.signal k m q (Config.wireDriver (s.active m) q d kind i)
             (s.cellOutput n g (if live then 2 ^ bit else 0)).testBit bit
           | _, _ => false)
    | .face c => (s.cellOutput n (160 + 4 * t + c / 32 % 4) (s.faceGroup n t (c / 32 % 4))).testBit (c % 32)
    | .result j bit => (s.slicer n j).q.getLsbD bit
    | .overflow j => (s.slicer n j).ov
    | .data r b bit =>
      let p := storeGet {} (2 * (192 * n + r) + b.toNat) s.rams
      let u := Config.ram cfg r
      (if (if b then u.b else u.a).outReg then p.reg else p.out).testBit bit
    | .eccC r => (storeGet {} (2 * (192 * n + r)) s.rams).eccC
    | .eccU r => (storeGet {} (2 * (192 * n + r)) s.rams).eccU
    | .event k => (s.region n).evNow.testBit k
    | .outside i => Config.outside s.fresh (2 ^ 20 * n + i)

/-- A routed bit at local tile t of region n. -/
def State.routed (s : State) (n t : Nat) (src : Src) : Bool := s.signal signalDepth n t src

/-- A routed word, least significant bit first. -/
def State.routedWord (s : State) (n t width : Nat) (srcs : List Src) : Nat :=
  (List.range width).foldl (fun v i => v + if s.routed n t (srcs.getD i .zero) then 2 ^ i else 0) 0

/-- The live value of inbound group g of region n (R64, R65): 24 singles and 8 quads across a border, or 32 face channels. -/
def State.groupLive (s : State) (n g : Nat) : Nat :=
  if g < 160 then
    let t := (groupTile g).1
    let d := (groupTile g).2
    let drive := fun kind i => match wireStart n t d (wireSpan kind) with
      | some (m, q) => m ≠ n && s.is1 (R.REGION_STATUS_HAS_ACTIVE m) && s.routed m q (Config.wireDriver (s.active m) q d kind i)
      | none => false
    (List.range 32).foldl (fun v i => v + if (if i < 24 then drive .single i else drive .quad (i - 24)) then 2 ^ i else 0) 0
  else s.faceGroup n ((g - 160) / 4) ((g - 160) % 4)

/-! ## Computed cycles (R94, R402) -/

/-- The user clocks of region n run for its active context in a cycle that is not gated (R94, R104, R408, R485): RUN or ISOLATED, with a context, not
a clamp cycle, the region clock running, the device not in SHUTDOWN, and cycles left where the debugger steps it. -/
def State.computes (s : State) (n : Nat) : Bool :=
  (s.rstate n == .run || s.rstate n == .isolated) && s.is1 (R.REGION_STATUS_HAS_ACTIVE n) && (s.region n).clamping.isNone && s.clockRuns n &&
  !s.isShutdown && !(s.is1 R.DBG_REG_STEP_BUSY && s.rd R.DBG_REG_STEP_REGION == n && (s.region n).stepLeft == 0)

/-! ## Block RAM ports of a region (R55, R62) -/

/-- A block RAM port. -/
def State.ramPort (s : State) (n k : Nat) (b : Bool) : RamPort := storeGet {} (2 * (192 * n + k) + b.toNat) s.rams

/-- Replace a block RAM port. -/
def State.setRamPort (s : State) (n k : Nat) (b : Bool) (p : RamPort) : State :=
  { s with rams := storeSet {} (2 * (192 * n + k) + b.toNat) p s.rams }

/-- The context enables the port of block k of region n that a window access needs (R62): port B, or the ganged port, which is also busy in the extra
cycle of a partial write. -/
def State.ramBusy (s : State) (n k : Nat) : Bool :=
  s.computes n &&
  (let c := Config.ram (s.active n) k
   if c.ganged then s.routed n (ramTile k) c.a.enable || (s.ramPort n k false).busy else s.routed n (ramTile k) c.b.enable)

/-- The rows that a port of block k of region n reaches at the next edge of its clock, each with the bits that it reads and those that it writes (R55,
R56, R58): none without its enable. -/
def State.ramReach (s : State) (n k : Nat) (b : Bool) : List (Nat × Nat × Nat) :=
  let c := Config.ram (s.active n) k
  let u := if b then c.b else c.a
  let t := ramTile k
  if !(s.routed n t u.enable) then []
  else if c.ganged then
    let a := s.routedWord n t 9 u.addr
    let we := BitVec.ofNat 8 (s.routedWord n t 8 u.we)
    let writes := if we = 0 then 0 else if c.ecc then 2 ^ 72 - 1 else gangedMask we
    let reads := if we = 0 ∨ u.mode ≠ .keep ∨ (c.ecc = true ∧ we ≠ 255) then 2 ^ 72 - 1 else 0
    [(2 * a, reads % 2 ^ 36, writes % 2 ^ 36), (2 * a + 1, reads / 2 ^ 36, writes / 2 ^ 36)]
  else
    let a := s.routedWord n t (10 + laneBits u.width) u.addr
    let lane := laneOf u.width a
    let writes := writeMask u.width a (BitVec.ofNat 4 (s.routedWord n t 4 u.we))
    [(lane.1, if writes ≠ 0 ∧ u.mode = .keep then 0 else lane.2, writes)]

/-- The bits of a row in a list of rows reached: those read and those written. -/
def reachOf (row : Nat) (l : List (Nat × Nat × Nat)) : Nat × Nat := ((l.find? fun e => e.1 == row).map (·.2)).getD (0, 0)

/-- Two points of time fall in one cycle (R57): less than 300 ps apart, which is 3/64 of a reference cycle. -/
def sameCycle (c : Nat) (p : Nat × Nat) (d : Nat) (q : Nat × Nat) : Bool :=
  let x := 64 * ((c * p.2 + p.1) * q.2)
  let y := 64 * ((d * q.2 + q.1) * p.2)
  decide (x < y + 3 * p.2 * q.2) && decide (y < x + 3 * p.2 * q.2)

/-- What an access that falls in the same cycle as time p of reference cycle c reached of a row (R57). -/
def RamPort.meets (x : RamPort) (c : Nat) (p : Nat × Nat) (row : Nat) : Nat × Nat :=
  match x.last with
  | some l => if sameCycle l.cycle (l.num, l.den) c p then reachOf row l.reach else (0, 0)
  | none => (0, 0)

/-- The bits `mask` of a row as they lie in the read output of an access: in ECC mode every bit of it depends on them. -/
def RamUse.inOutput (l : RamUse) (row mask : Nat) : Nat :=
  if mask = 0 then 0 else if l.ecc then 2 ^ 64 - 1 else (if l.reach.head?.map (·.1) = some row then mask else mask * 2 ^ 36) / 2 ^ l.shift

/-- The bits `mask` of a row change in the cycle of a port's last access: what it read of them becomes undefined (R57). -/
def RamPort.spoiled (x : RamPort) (row mask wild : Nat) : RamPort :=
  match x.last with
  | some l => { x with out := merge (l.inOutput row ((reachOf row l.reach).1 &&& mask)) wild x.out }
  | none => x

/-! ## When edges fall (R70) -/

/-- Clock network g toggles (R70). -/
def State.netRuns (s : State) (g : Nat) : Bool :=
  s.is1 (R.CLK_NET_CFG_EN g) && s.is1 (R.CLK_NET_CFG_LOCKED g)

/-- The active edges of network g in the reference cycle that begins now: the number of each since the network began to toggle, and its place in the
reference cycle as a fraction (R70: M ÷ (D × O) network cycles in a reference cycle). -/
def State.netEdges (s : State) (g : Nat) : List (Nat × Nat × Nat) :=
  if !(s.netRuns g) then [] else
  let m := s.rd (R.CLK_NET_CFG_M_M1 g) + 1
  let q := (s.rd (R.CLK_NET_CFG_D_M1 g) + 1) * (s.rd (R.CLK_NET_CFG_O_M1 g) + 1)
  let k := s.now - storeGet 0 g s.clkStart
  let first := (k * m + q - 1) / q
  ((List.range (m / q + 2)).map (first + ·)).filterMap fun j => if j * q < (k + 1) * m then some (j, j * q - k * m, m) else none

/-- The cycle of network g that ends at its edge j is gated (R402): cycle number mod 8 below the clock step in force. The edge with which a network
begins to toggle ends no cycle. -/
def State.gatedEdge (s : State) (g j : Nat) : Bool := j == 0 || decide ((j - 1) % 8 < storeGet 0 g s.gates)

/-- What port A of block k of region n, or the ganged port, reaches of a row in the cycle of a window access at time p of this reference cycle (R57,
R62): by its last access, or at an edge to come. -/
def State.windowClash (s : State) (n k row : Nat) (p : Nat × Nat) : Nat × Nat :=
  let past := (s.ramPort n k false).meets s.now p row
  let edges : List (Nat × Nat × Nat) := match s.userNet n (Config.ram (s.active n) k).a.clock with
    | some g => (s.netEdges g).filter fun (e : Nat × Nat × Nat) => !(s.gatedEdge g e.1) && sameCycle s.now e.2 s.now p
    | none => []
  let next := if s.computes n && !edges.isEmpty then reachOf row (s.ramReach n k false) else (0, 0)
  (past.1 ||| next.1, past.2 ||| next.2)

end Sys2Proof.Machine
end

