-- ==== Sys2Proof/Machine/Fabric.lean ====
section
/-! DEFINITION. The fabric's commands (01_stack.md R20 to R24, 02_fabric.md R54 to R84): face channels, the block RAM
window, clock networks, region ports, pins through region ports, flag and event lines. -/

namespace Sys2Proof.Machine

/-! ## Face channels (R20 to R23) -/

/-- FACE_REFRESH (R21 to R23, R66): the refresh count of a channel has expired, and the sender re-sends its level, also while its region clock is
stopped; a level change of the same cycle, which only a computed cycle of the sender can bring, is sent instead, and it refreshes the keeper. The next
refresh falls due 64 cycles later. A sender whose domain is off sends nothing. A channel that has carried no pulse is at level 0 (log entry 221). -/
def execFaceRefresh (x : Fin 256) (y : Fin 192) (c : Fin 256) (change : Bool) (s : State) :
    Host.Outcome State Fault Refusal :=
  let s := s.quiet
  let n := faceSender x.val y.val c.val
  let f := s.face x.val y.val c.val
  if s.rstate n = .off then .next s
  else if change && s.computes n && s.faceDriven x.val y.val c.val ≠ f.sent then
    .next (s.facePulse x.val y.val c.val (s.faceDriven x.val y.val c.val))
  else if f.due ≤ s.now ∨ f.left = 0 then .next (s.facePulse x.val y.val c.val f.sent)
  else .next s

/-! ## Block RAM window (R55 to R62) -/

/-- The offset of a request within the block RAM window: by address (R61), or by node and offset (R235). -/
def bramOffset (a : Access) : Option Nat :=
  match a.op with
  | .rd | .wr =>
    let l := a.addr % 2 ^ 44
    if 0x50000000000 ≤ l ∧ l ≤ 0x5003FFFFFFF then some (l - 0x50000000000) else none
  | .nrd | .nwr =>
    let layer := a.dstNode / 512
    let st := a.dstNode / 16 % 32
    if (layer = 1 ∨ layer = 2) ∧ a.dstNode % 16 = 4 ∧ a.addr < 0x180000
    then some ((32 * (layer - 1) + st) * 0x180000 + a.addr) else none

/-- An access writes. -/
def isWrite (op : ReqOp) : Bool := match op with | .wr | .nwr => true | .rd | .nrd => false

/-- The offset that a request to the window reaches, or the code that answers it (R61): size, alignment and region are checked; a block under test
answers TESTBUSY (R457). -/
def State.bramCheck (s : State) (a : Access) : Resp ⊕ Nat :=
  match bramOffset a with
  | none => .inl .decode
  | some off =>
    let n := off / 0x180000
    if ¬ (a.size = 8 ∨ a.size = 16 ∨ a.size = 32 ∨ a.size = 64 ∨ a.size = 128) ∨ a.addr % a.size ≠ 0 ∨ 64 ≤ n ∨ s.unusable n
    then .inl .decode
    else if s.underTest.contains (.bram n) || s.keptByTest.contains (.bram n) then .inl .testbusy
    else .inr off

/-- A checked access to the window begins at its first row (R61). -/
def State.bramBegin (s : State) (rq : Request) (off : Nat) : State :=
  { s with bwin := s.bwin ++ [⟨rq, off / 0x180000 * 192 + off % 0x180000 / 0x2000, off % 0x2000 / 8, rq.acc.size / 8, []⟩] }

/-- BRAM_WINDOW_ACCESS (R61): a region in OFF is handled as a powered-down domain (R62). -/
def execBramWindowAccess (rq : Request) (s : State) : Host.Outcome State Fault Refusal :=
  let s := s.quiet
  if isWrite rq.acc.op && rq.acc.data.length ≠ rq.acc.size then .fault (.illFormed "BRAM_WINDOW_ACCESS") else
  match s.bramCheck rq.acc with
  | .inl code => .next (s.reply rq code)
  | .inr off =>
    let n := off / 0x180000
    match s.meetDomain n (regionStation n) 4 rq with
    | some (s, true) => .next (s.bramBegin rq off)
    | some (s, false) => .next s
    | none => .next s

/-- Where a block RAM row is kept: block n × 192 + k, row. -/
def bramKey (block row : Nat) : Nat := block * 1024 + row

/-- The 36 bits of a row; a row not written since power-up holds undefined bits (R60). -/
def State.bramRow (s : State) (block row : Nat) : Nat :=
  match storeGet none (bramKey block row) s.bram with
  | some v => v
  | none => Config.bramUndefined (s.region (block / 192)).bramTok (bramKey block row) % 2 ^ 36

/-- Write the bits of a mask into a row. -/
def State.bramWrite (s : State) (block row mask v : Nat) : State :=
  let old := s.bramRow block row
  { s with bram := storeSet none (bramKey block row) (some ((old &&& (old ^^^ mask)) ||| (v &&& mask))) s.bram }

/-- The window reaches a row at time p in the place of port B (R57, R62): `und` names what becomes undefined. A read of bits that port A, or the ganged
port, writes in the same cycle is undefined; of the bits `mask` that the window writes, those that it writes too are stored undefined, and what it read
of them becomes undefined. -/
def State.windowReach (s : State) (n k row mask value und : Nat) (p : Nat × Nat) : State × Nat :=
  let block := 192 * n + k
  let clash := s.windowClash n k row p
  let seen := merge clash.2 (und % 2 ^ 36) (s.bramRow block row)
  let s := s.setRamPort n k true { s.ramPort n k true with last := some ⟨s.now, p.1, p.2, [(row, 0, mask)], 0, false⟩ }
  if mask = 0 then (s, seen)
  else
    let s := s.setRamPort n k false ((s.ramPort n k false).spoiled row (mask &&& clash.1) (und / 2 ^ 36 % 2 ^ 72))
    (s.bramWrite block row mask (merge clash.2 (und % 2 ^ 36) value), seen)

/-- The window has used block k of region n at time p of this reference cycle, or a port B access has, or a later one (R62). -/
def State.ramUsed (s : State) (n k : Nat) (p : Nat × Nat) : Bool :=
  match (s.ramPort n k true).last with
  | some l => decide ((s.now * p.2 + p.1) * l.den ≤ (l.cycle * l.den + l.num) * p.2)
  | none => false

/-- BRAM_WINDOW_ROW (R57, R61, R62, R300): the oldest window access of the region (accesses to different blocks wait for one another: DESIGN CHOICE, log
entry 227) reaches its next row at an edge of the region clock, the one numbered `edge` within this reference cycle (log entry 261), at which the context
does not enable the port that it needs. A poisoned word is not written but counted in PDROP. The access is answered after its last row. -/
def execBramWindowRow (n : Fin 64) (edge : Fin 8) (s : State) : Host.Outcome State Fault Refusal :=
  let s := s.quiet
  match s.bwin.find? (fun w => w.block / 192 == n.val), (s.netEdges (s.rd (R.REGION_CLK_CLK_SEL n.val)))[edge.val]? with
  | some w, some (_, p) =>
    let k := w.block % 192
    if !(s.clockRuns n.val) || s.ramBusy n.val k || s.ramUsed n.val k p then .next s else
    let a := w.rq.acc
    let i := if isWrite a.op then a.size / 8 - w.left else w.got.length / 8
    let und := s.draw
    let s := s.drawn
    let r : State × List Byte :=
      if isWrite a.op then
        if (a.poison >>> (accessWord a (8 * i))) % 2 = 1 then
          let first := s.rd (R.BRAM_ECC_PDROP n.val) = 0
          let s := s.bump (R.BRAM_ECC_PDROP n.val)
          (if first then s.log .poisonConsumed ([w.rq.ini.node] ++ words64 (a.addr + 8 * i)) else s, w.got)
        else ((s.windowReach n.val k w.row (2 ^ 36 - 1) (leNat ((a.data.drop (8 * i)).take 8) % 2 ^ 36) und p).1, w.got)
      else
        let x := s.windowReach n.val k w.row 0 0 und p
        (x.1, w.got ++ leBytes 8 x.2)
    let s := r.1
    if w.left ≤ 1 then
      let s : State := { s with bwin := s.bwin.erase w }
      .next (if isWrite a.op then s.reply w.rq .ok else s.replyData w.rq r.2 0)
    else
      let w' := { w with row := w.row + 1, left := w.left - 1, got := r.2 }
      .next { s with bwin := s.bwin.map fun x => if x = w then w' else x }
  | _, _ => .next s

/-! ## Clock networks (R70 to R73) -/

/-- The fabric clock limit of a speed grade in MHz (R2). -/
def gradeMax : Nat → Nat
  | 1 => 650 | 2 => 800 | _ => 1000

/-- Settings M, D, O are valid for a grade (R70): 156.25 MHz × M / D from 2,500 to 5,000 MHz, and the output from 25 MHz to
the grade maximum. With 156.25 = 625 / 4 every bound is a whole-number inequality. -/
def clkValid (grade m d o : Nat) : Bool :=
  decide (16 * d ≤ m) && decide (m ≤ 32 * d) && decide (4 * d * o ≤ 25 * m) && decide (625 * m ≤ 4 * gradeMax grade * d * o)

/-- Network g is used by a region whose user clocks may run (R71). -/
def State.clkBusy (s : State) (g : Nat) : Bool :=
  (List.range 64).any fun n =>
    (match s.rstate n with | .run | .held | .isolated => true | .off | .idle | .fault => false) && s.usesClock n g

/-- CLK_NET_CFG_WRITE (R70, R71): EN, O_M1, M_M1 and D_M1 change together or not at all; a change while the network is in
use sets BUSY_ERR, settings that break R70 set CFG_ERR. Accepted new settings, or EN falling, end LOCKED. -/
def wrClkNetCfg (s : State) (g : Nat) (v : BitVec 32) : State :=
  let s := s.w1cOnly (.CLK_NET_CFG g) v
  let en := (R.CLK_NET_CFG_EN g).of v
  let o := (R.CLK_NET_CFG_O_M1 g).of v
  let m0 := (R.CLK_NET_CFG_M_M1 g).of v
  let m := if 7 ≤ m0 then m0 else s.rd (R.CLK_NET_CFG_M_M1 g)
  let d := (R.CLK_NET_CFG_D_M1 g).of v
  let sameSet := s.rd (R.CLK_NET_CFG_O_M1 g) == o && s.rd (R.CLK_NET_CFG_M_M1 g) == m && s.rd (R.CLK_NET_CFG_D_M1 g) == d
  if sameSet && s.rd (R.CLK_NET_CFG_EN g) == en then s
  else
    let busy := s.clkBusy g
    let bad := !(clkValid s.fuses.speed (m + 1) (d + 1) (o + 1))
    if busy || bad then
      let s := if busy then s.set1 (R.CLK_NET_CFG_BUSY_ERR g) else s
      if bad then s.set1 (R.CLK_NET_CFG_CFG_ERR g) else s
    else
      (((s.wr (R.CLK_NET_CFG_EN g) en).wr (R.CLK_NET_CFG_O_M1 g) o).wr (R.CLK_NET_CFG_M_M1 g) m).wr
        (R.CLK_NET_CFG_D_M1 g) d |>.clr (R.CLK_NET_CFG_LOCKED g)

/-- CLK_NET_CFG_WRITE: the write of `wrClkNetCfg`, answered OK. -/
def execClkNetCfgWrite (ini : Ini) (g : Fin 32) (value : BitVec 32) (s : State) : Host.Outcome State Fault Refusal :=
  .next (s.quiet.written ini (R.CLK_NET_CFG_EN g.val).off fun s => wrClkNetCfg s g.val value)

/-- Network g runs again: requests that waited in the ports of its regions in RUN are delivered (R72, R78). -/
def State.resumeInq (s : State) (g : Nat) : State :=
  s.each (List.range 64) fun s n =>
    if s.rd (R.REGION_CLK_CLK_SEL n) = g ∧ s.rstate n = .run ∧ (s.region n).clamping.isNone then s.deliverInq n else s

/-- PLL_LOCKED (R70): both PLLs have locked; LOCKED rises as the network begins to toggle, and the cycle count n of R402
restarts. Requests that waited for the clock of a region in RUN are delivered (R72, R78). -/
def execPllLocked (g : Fin 32) (s : State) : Host.Outcome State Fault Refusal :=
  let s := s.quiet
  if s.is1 (R.CLK_NET_CFG_EN g.val) && !(s.is1 (R.CLK_NET_CFG_LOCKED g.val)) then
    .next (({ s with clkStart := storeSet 0 g.val s.now s.clkStart } |>.set1 (R.CLK_NET_CFG_LOCKED g.val)).resumeInq g.val)
  else .next s

/-- PLL_LOCK_LOST (R72): the network stops, LOCK_LOST is set and CLK_LOCK_LOST logged at alert priority; regions keep their
states, clamps, flag lines and armed swaps, and their clocks are stopped by LOCKED being 0. -/
def execPllLockLost (g : Fin 32) (s : State) : Host.Outcome State Fault Refusal :=
  let s := s.quiet
  if s.is1 (R.CLK_NET_CFG_LOCKED g.val) then
    .next (((s.clr (R.CLK_NET_CFG_LOCKED g.val)).set1 (R.CLK_NET_CFG_LOCK_LOST g.val)).logP 2 .clkLockLost [g.val])
  else .next s

/-- REGION_CLK_n (R73): CLK_SEL changes only in OFF or IDLE; a write at any other time leaves it unchanged and sets SEL_ERR. -/
def wrRegionClk (s : State) (n : Nat) (v : BitVec 32) : State :=
  let s := s.w1cOnly (.REGION_CLK n) v
  if s.rstate n = .off ∨ s.rstate n = .idle then s.wr (R.REGION_CLK_CLK_SEL n) ((R.REGION_CLK_CLK_SEL n).of v)
  else s.set1 (R.REGION_CLK_SEL_ERR n)

/-- REGION_CLK_WRITE: the write of `wrRegionClk`, answered OK. -/
def execRegionClkWrite (ini : Ini) (n : Fin 64) (value : BitVec 32) (s : State) : Host.Outcome State Fault Refusal :=
  .next (s.quiet.written ini (R.REGION_CLK_CLK_SEL n.val).off fun s => wrRegionClk s n.val value)

/-! ## Region ports (R74 to R81) -/

/-- The field of REGION_PORT_SLOTS that holds the share of a plane. -/
def slotFld (n p plane : Nat) : Fld := ⟨0x800820 + n * 0x10000 + p * 4, 4 * plane, 4, 6⟩

/-- Response slots that a plane has in use on a port: requests without an answer, and parked responses (R77). -/
def Port.inUse (x : Port) (plane : Nat) : Nat :=
  (x.waiting.filter fun w => w.1 == plane).length + (x.parked.filter fun k => k.plane == plane).length

/-- Region n is in a RUN cycle (R84, R94, R104): not in a clamp cycle, its clock running. -/
def State.runCycle (s : State) (n : Nat) : Bool := s.rstate n = .run && (s.region n).clamping.isNone && s.clockRuns n

/-- The active context of the region runs and takes flits: a RUN cycle with a context; the blank configuration uses no port (R94). -/
def State.takesFlits (s : State) (n : Nat) : Bool := s.runCycle n && s.is1 (R.REGION_STATUS_HAS_ACTIVE n)

/-- PORT_PACKET_SEND (R76, R77): the fabric presents a packet. Until its last flit is accepted it is a partial packet; then
it is sent, tagged with the active plane, if that plane has a free response slot; without one the port holds its ready
output low and takes nothing. -/
def execPortPacketSend (n : Fin 64) (p : Fin 4) (acc : Access) (last : Bool) (s : State) :
    Host.Outcome State Fault Refusal :=
  let s := s.quiet
  let plane := s.rd (R.REGION_STATUS_ACTIVE_PLANE n.val)
  let x := s.port n.val p.val
  if s.portMode n.val p.val ≠ 0 || !(s.takesFlits n.val) || s.dstate n.val ≠ .on || !(s.maySend (regionNode n.val p.val)) then .next s
  else if s.rd (slotFld n.val p.val plane) ≤ x.inUse plane then .next s
  else if !last then .next (s.setPort n.val p.val { x with partly := true })
  else
    let node := regionNode n.val p.val
    let tag := s.freeTag node
    .next ((s.setPort n.val p.val { x with partly := false, waiting := x.waiting ++ [(plane, tag)] }).sendRaw node acc)

/-- PORT_RESPONSE_ARRIVAL (R77): a response for the active plane reaches the fabric and frees its slot; one for another plane
is parked until that plane swaps in; one that matches no request is discarded and counted (R241). -/
def execPortResponseArrival (n : Fin 64) (p : Fin 4) (tag : BitVec 8) (a : Answer) (s : State) :
    Host.Outcome State Fault Refusal :=
  let s := s.quiet
  let node := regionNode n.val p.val
  let x := s.port n.val p.val
  match x.waiting.find? (fun w => w.2 == tag.toNat), s.takeAnswer node tag.toNat a with
  | some w, some s =>
    let x := { x with waiting := x.waiting.erase w }
    if s.is1 (R.REGION_STATUS_HAS_ACTIVE n.val) && s.rd (R.REGION_STATUS_ACTIVE_PLANE n.val) == w.1 then
      .next ((s.setPort n.val p.val x).emit (.fabricAnswer n.val p.val tag.toNat a))
    else .next (s.setPort n.val p.val { x with parked := x.parked ++ [⟨w.1, tag.toNat, a⟩] })
  | _, _ => .next (s.lateDrop (nodeStation node))

/-- A request waits in the inbound queue of a region port (R78). -/
def State.queueIn (s : State) (n p : Nat) (rq : Request) : State :=
  s.setPort n p { s.port n p with inq := (s.port n p).inq ++ [rq] }

/-- A request reaches a NET port of a region whose domain takes it (R78): by the region's state it is delivered, queued or answered. -/
def State.portInbound (s : State) (n p : Nat) (rq : Request) : State :=
  match s.rstate n with
  | .isolated | .fault => s.reply rq .isolated
  | .run =>
    if (s.region n).clamping.isNone && s.clockRuns n && (s.port n p).inq.isEmpty then s.emit (.fabricRequest n p rq)
    else s.queueIn n p rq
  | .idle | .held | .off => s.queueIn n p rq

/-- PORT_INBOUND_REQUEST (R78, R255): by the port's mode, the region's domain and the region's state, a request is delivered, queued,
answered, or handled as one to a powered-down domain. While 16 are queued the port withholds credit, and the request stays in the network. -/
def execPortInboundRequest (n : Fin 64) (p : Fin 4) (rq : Request) (s : State) : Host.Outcome State Fault Refusal :=
  let s := s.quiet
  if s.unusable n.val || s.portMode n.val p.val ≠ 0 then .next (s.reply rq .decode)
  else if 16 ≤ (s.port n.val p.val).inq.length then .next s
  else match s.meetDomain n.val (regionStation n.val) p.val rq with
    | some (s, true) => .next (s.portInbound n.val p.val rq)
    | some (s, false) => .next s
    | none => .next s

/-- Bank b is bound to a port other than (n, p) in PIN mode (R79). -/
def State.boundElsewhere (s : State) (b n p : Nat) : Bool :=
  (List.range 64).any fun m => (List.range 4).any fun q =>
    !(m == n && q == p) && s.portMode m q == 1 && s.rd (R.REGION_PORT_CFG_BANK m q) == b

/-- REGION_PORT_CFG_n[p] (R79): a write that changes the port outside OFF and IDLE, or binds a bank bound elsewhere, is
refused: the fields keep and CFG_ERR is set. A write that changes a field drops the samples buffered in either direction and starts the packing anew
(DESIGN CHOICE, log entry 225); requests queued in a port that is no longer in NET mode are answered DECODE (R78). -/
def wrPortCfg (s : State) (n p : Nat) (v : BitVec 32) : State :=
  let s := s.w1cOnly (.REGION_PORT_CFG n p) v
  let t := s.storeReg (.REGION_PORT_CFG n p) v
  let same := t.regValue (.REGION_PORT_CFG n p) = s.regValue (.REGION_PORT_CFG n p)
  if same then s
  else if s.rstate n ≠ .off ∧ s.rstate n ≠ .idle then s.set1 (R.REGION_PORT_CFG_CFG_ERR n p)
  else if t.portMode n p = 1 ∧ s.boundElsewhere (t.rd (R.REGION_PORT_CFG_BANK n p)) n p then
    s.set1 (R.REGION_PORT_CFG_CFG_ERR n p)
  else
    let x := t.port n p
    let s := t.setPort n p { x with pinIn := [], pinOut := [], pinDue := [], pinTaken := 0, pinFirst := false,
                                    inq := if t.portMode n p = 0 then x.inq else [] }
    if t.portMode n p = 0 then s else x.inq.foldl (fun s rq => s.reply rq .decode) s

/-- REGION_PORT_CFG_WRITE: the write of `wrPortCfg`, answered OK. -/
def execRegionPortCfgWrite (ini : Ini) (n : Fin 64) (p : Fin 4) (value : BitVec 32) (s : State) :
    Host.Outcome State Fault Refusal :=
  .next (s.quiet.written ini (R.REGION_PORT_CFG_MODE n.val p.val).off fun s => wrPortCfg s n.val p.val value)

/-- The sum of the eight shares of a slots write. -/
def slotsSum (v : BitVec 32) : Nat := ((List.range 8).map fun i => (v.toNat >>> (4 * i)) % 16).sum

/-- REGION_PORT_SLOTS_n[p] (R77): refused as a whole, setting CFG_ERR, when the shares sum to more than 48, outside OFF and
IDLE, or while a response is parked or outstanding. -/
def wrPortSlots (s : State) (n p : Nat) (v : BitVec 32) : State :=
  let x := s.port n p
  if 48 < slotsSum v ∨ (s.rstate n ≠ .off ∧ s.rstate n ≠ .idle) ∨ x.parked ≠ [] ∨ x.waiting ≠ [] then
    s.set1 (R.REGION_PORT_CFG_CFG_ERR n p)
  else s.storeReg (.REGION_PORT_SLOTS n p) v

/-- REGION_PORT_SLOTS_WRITE: the write of `wrPortSlots`, answered OK. -/
def execRegionPortSlotsWrite (ini : Ini) (n : Fin 64) (p : Fin 4) (value : BitVec 32) (s : State) :
    Host.Outcome State Fault Refusal :=
  .next (s.quiet.written ini (slotFld n.val p.val 0).off fun s => wrPortSlots s n.val p.val value)

/-- The 16 samples of a flit: the positions left by a tick boundary are 0 (R80). -/
def fullFlit (samples : List (BitVec 32)) : List (BitVec 32) := samples ++ List.replicate (16 - samples.length) 0

/-- PIN_INPUT_FLIT (R80, R506): the oldest flit that the bank has packed (`Port.pinDue`: its pin_count and pin_tick_first) reaches a PIN port with the
sampled levels. The fabric takes it, after the flits it had left, or it waits in the 4-flit buffer; a full buffer drops it and sets PIN_OVERRUN. -/
def execPinInputFlit (n : Fin 64) (p : Fin 4) (samples : List (BitVec 32)) (first taken : Bool) (s : State) :
    Host.Outcome State Fault Refusal :=
  if samples.length = 0 ∨ 16 < samples.length then .fault (.illFormed "PIN_INPUT_FLIT") else
  let s := s.quiet
  let x := s.port n.val p.val
  let b := s.rd (R.REGION_PORT_CFG_BANK n.val p.val)
  let ok := s.is1 (R.GPIO_BANK_CFG_VCCIO_OK b)
  let samples := if ok then samples else samples.map fun _ => 0
  match x.pinDue with
  | [] => .next s
  | due :: rest =>
    if s.portMode n.val p.val ≠ 1 || due ≠ (samples.length, first) then .next s else
    let s := s.wr (R.GPIO_IN_PINS b) (samples.getLastD 0).toNat
    let x := { x with pinDue := rest }
    if s.rstate n.val = .off then .next (s.setPort n.val p.val x)
    else if taken then
      .next ((x.pinIn ++ [(samples, first)]).foldl (fun s f => s.emit (.fabricPins n.val p.val (fullFlit f.1) f.1.length f.2))
        (s.setPort n.val p.val { x with pinIn := [] }))
    else if x.pinIn.length < 4 then .next (s.setPort n.val p.val { x with pinIn := x.pinIn ++ [(samples, first)] })
    else .next ((s.setPort n.val p.val x).set1 (R.REGION_PORT_STAT_PIN_OVERRUN n.val p.val))

/-- Reference cycles from the acceptance of an output flit to its first sample edge: 60 ns, counted up to whole reference
cycles (R81). -/
def pinDelay : Nat := 10

/-- The output samples of a bank in TWIN_OUT feed the check value of the tick (R366). -/
def State.twinSamples (s : State) (b : Nat) (samples : List (BitVec 32 × BitVec 32)) : State :=
  { s with twin := { s.twin with samples := storeSet [] b (storeGet [] b s.twin.samples ++ samples) s.twin.samples } }

/-- PIN_OUTPUT_FLIT (R81, R366): the port accepts 8 samples; the bank drives them one per sample edge, from 60 ns after acceptance
and after the samples before them. -/
def execPinOutputFlit (n : Fin 64) (p : Fin 4) (samples : List (BitVec 32 × BitVec 32)) (s : State) :
    Host.Outcome State Fault Refusal :=
  if samples.length ≠ 8 then .fault (.illFormed "PIN_OUTPUT_FLIT") else
  let s := s.quiet
  let x := s.port n.val p.val
  if s.portMode n.val p.val ≠ 1 || !(s.takesFlits n.val) then .next s
  else
    let s := s.setPort n.val p.val { x with pinOut := x.pinOut ++ samples.map fun v => (s.now + pinDelay, v.1, v.2) }
    .next (s.twinSamples (s.rd (R.REGION_PORT_CFG_BANK n.val p.val)) samples)

/-- The safe state of GPIO bank b (20_pins_electrical.md): GPIO_SAFE and GPIO_SAFE_OE. -/
def State.safePads (s : State) (b : Nat) : Pads :=
  ⟨BitVec.ofNat 32 (s.rd (R.GPIO_SAFE_VALUE b)), BitVec.ofNat 32 (s.rd (R.GPIO_SAFE_OE_OE b))⟩

/-- The sample edges of a PIN port (R80): every 1, 2 or 4 reference cycles; which of them, the spec leaves open: those whose number since PORST_N is a
multiple (DESIGN CHOICE, log entry 226). -/
def State.sampleEdge (s : State) (n p : Nat) : Bool := s.now % 2 ^ s.rd (R.REGION_PORT_CFG_SAMPLE_DIV n p) == 0

/-- The next output sample of a PIN port is ready (R81). -/
def State.sampleReady (s : State) (n p : Nat) : Bool :=
  match (s.port n p).pinOut with
  | [] => false
  | (t, _) :: _ => decide (t ≤ s.now)

/-- No sample is ready at a sample edge (R81): PIN_UNDERRUN is set, and the bank holds the last sample or drives its safe state, as UNDERRUN_POL
selects. -/
def State.underrun (s : State) (n p : Nat) : State :=
  let s := s.set1 (R.REGION_PORT_STAT_PIN_UNDERRUN n p)
  let b := s.rd (R.REGION_PORT_CFG_BANK n p)
  if s.is1 (R.REGION_PORT_CFG_UNDERRUN_POL n p) then s.setPad b (s.safePads b) else s

/-- PIN_UNDERRUN (R81): a sample edge of a PIN port finds no sample ready. -/
def execPinUnderrun (n : Fin 64) (p : Fin 4) (s : State) : Host.Outcome State Fault Refusal :=
  let s := s.quiet
  if s.portMode n.val p.val ≠ 1 || !(s.sampleEdge n.val p.val) || s.sampleReady n.val p.val then .next s
  else .next (s.underrun n.val p.val)

/-- A bank samples its pads for PIN port (n, p) at a sample edge (R80): the sixteenth sample completes a flit, which reaches the port with
PIN_INPUT_FLIT. -/
def State.samplePins (s : State) (n p : Nat) : State :=
  let x := s.port n p
  if x.pinTaken < 15 then s.setPort n p { x with pinTaken := x.pinTaken + 1 }
  else s.setPort n p { x with pinTaken := 0, pinFirst := false, pinDue := x.pinDue ++ [(16, x.pinFirst)] }

/-- Packing restarts at a tick boundary (R80): a flit in progress is cut short, and the next one carries pin_tick_first. -/
def State.cutPins (s : State) : State :=
  s.each (List.range 64) fun s n => s.each (List.range 4) fun s p =>
    if s.portMode n p ≠ 1 then s else
    let x := s.port n p
    s.setPort n p { x with pinTaken := 0, pinFirst := true, pinDue := if x.pinTaken = 0 then x.pinDue else x.pinDue ++ [(x.pinTaken, x.pinFirst)] }

/-! ## Event lines (R84) -/

/-- A pulse on ev[k] of region n (R84): it begins with the next region cycle. -/
def State.pulseLine (s : State) (n k : Nat) : State :=
  (s.setRegion n { s.region n with evDue := (s.region n).evDue ||| 2 ^ k }).emit (.eventPulse n k)

/-- An event committed on line 4n + k (R84): while one is pending, or has a pulse that has yet to begin, it merges with it; else it is a pulse on ev[k]
while the region is in RUN and not in a clamp cycle (R105), and otherwise waits. -/
def State.commitEvent (s : State) (line : Nat) : State :=
  let n := line / 4
  let k := line % 4
  if s.bit (R.REGION_LINES_EVT_PENDING n) k || (s.region n).evDue.testBit k then s.setBit (R.REGION_LINES_EVT_MERGED n) k
  else if s.runCycle n then s.pulseLine n k
  else s.setBit (R.REGION_LINES_EVT_PENDING n) k

/-- EVENT_DELIVERY (R84, R105): a pending event is delivered in the region's first RUN cycle, to the context active then. -/
def execEventDelivery (n : Fin 64) (k : Fin 4) (s : State) : Host.Outcome State Fault Refusal :=
  let s := s.quiet
  if s.runCycle n.val && s.bit (R.REGION_LINES_EVT_PENDING n.val) k.val then
    .next ((s.clrBit (R.REGION_LINES_EVT_PENDING n.val) k.val).pulseLine n.val k.val)
  else .next s

/-! ## Flag lines (R82, R83) -/

/-- The level that the active context of region n drives on flag[k] (R82): a signal of the fabric that its configuration names (log entry 4). -/
def State.flagDriven (s : State) (n k : Nat) : Bool :=
  let d := Config.flagDriver (s.active n) k
  s.routed n (d.1 % tilesPerRegion) d.2

end Sys2Proof.Machine
end

