-- ==== Sys2Proof/Machine/TraceOps.lean ====
section
/-! DEFINITION. The trace engine (19_debug_trace.md, R489 to R493): the records it admits and how they leave. -/

namespace Sys2Proof.Machine

/-- Node of the trace engine (R232). -/
def traceNode : Nat := 0x024

/-- The time of a record: TICK_STAT.POS, with TICK_COUNT[7:0] above (R490). -/
def State.traceTime (s : State) : Nat := s.tickPos + 2 ^ 24 * (s.tickCount % 256)

/-- SIZE of a record, coded as bits [1:0] (R490): 1, 2, 4 or 8 bytes. -/
def sizeCode : Nat → Nat
  | 1 => 0 | 2 => 1 | 4 => 2 | _ => 3

/-- The 16 bytes of a record (R490). -/
def TraceRec.bytes (r : TraceRec) : List Byte :=
  leBytes 8 r.data ++ leBytes 1 r.port ++ leBytes 1 (sizeCode r.size + 4 * r.poison.toNat + 16 * r.kind) ++
  leBytes 2 (r.src % 4096) ++ leBytes 4 r.time

/-- Trace admits records: EN is 1 and it has not stopped (R491, R493). -/
def State.traceOn (s : State) : Bool := s.is1 R.TRACE_CTL_EN && !(s.is1 R.TRACE_STAT_STOPPED)

/-- The banks of the trace buffer hold this many records (R491). -/
def State.tracePositions (s : State) : Nat := 8192 * (s.rd R.TRACE_BUF_COUNT_M1 + 1)

/-- A place in the record buffer is free again: it takes a LOST record if records were lost (R493). What the spec does not
state of a LOST record (its size and source) is free; POISON is of written data alone (R490). -/
def State.traceFreed (s : State) : State :=
  if s.trace.lost = 0 then s
  else
    let r : TraceRec := ⟨s.trace.lost, s.draw % 256, 8, false, 3, s.draw / 512 % 4096, s.traceTime⟩
    ({ s with trace := { s.trace with lost := 0, buf := s.trace.buf ++ [r] } } : State).drawn

/-- With SINK 0, one 128-byte group of 8 records leaves for its bank as owner TRACE while no group is in flight (R491); records that
entered before TRACE_STOP still leave (log entry 208). When
the last record position is filled, the engine wraps or stops. -/
def State.tracePush (s : State) : State :=
  let pos := s.rd R.TRACE_WPTR_WPTR
  if !(s.is1 R.TRACE_CTL_EN) || s.is1 R.TRACE_CTL_SINK || s.trace.sent.isSome || decide (s.trace.buf.length < 8) ||
    decide (s.tracePositions ≤ pos) then s
  else
    let bank := s.rd R.TRACE_BUF_FIRST + pos / 8192
    let data := ((s.trace.buf.take 8).map TraceRec.bytes).flatten
    let s : State := { s with trace := { s.trace with buf := s.trace.buf.drop 8, sent := some bank } }
    let s := (s.sendReq traceNode ⟨.wr, 0, 0, 0x40000000000 + bank * 0x20000 + pos % 8192 * 16, 128, data, 0⟩).traceFreed
    if pos + 8 < s.tracePositions then s.wr R.TRACE_WPTR_WPTR (pos + 8)
    else if s.is1 R.TRACE_CTL_WRAP then (s.wr R.TRACE_WPTR_WPTR 0).set1 R.TRACE_STAT_WRAPPED
    else (s.wr R.TRACE_WPTR_WPTR (pos + 8)).set1 R.TRACE_STAT_STOPPED

/-- A record enters the engine (R490, R493): a full buffer drops it into LOST; after TRACE_STOP only POST more enter. -/
def State.traceEnter (s : State) (r : TraceRec) : State :=
  if !s.traceOn then s
  else if 256 ≤ s.trace.buf.length then
    (({ s with trace := { s.trace with lost := s.trace.lost + 1 } } : State)).bump R.TRACE_STAT_LOST
  else
    let s : State := { s with trace := { s.trace with buf := s.trace.buf ++ [r] } }
    let s := match s.trace.post with
      | some k =>
        if k ≤ 1 then ({ s with trace := { s.trace with post := none } } : State).set1 R.TRACE_STAT_STOPPED
        else { s with trace := { s.trace with post := some (k - 1) } }
      | none => s
    s.tracePush

/-- TRACE_STOP (R493): POST more records may enter; a further one while they do changes nothing (log entry 208). -/
def State.traceStop (s : State) : State :=
  if !s.traceOn || s.trace.post.isSome then s
  else if s.rd R.TRACE_CTL_POST = 0 then s.set1 R.TRACE_STAT_STOPPED
  else { s with trace := { s.trace with post := some (s.rd R.TRACE_CTL_POST) } }

/-- Stimulus port p is enabled (TRACE_STIM_EN). -/
def State.stimOn (s : State) (p : Nat) : Bool := s.bit (R.TRACE_STIM_EN_EN (p / 32)) (p % 32)

/-- A STIM record of a write to a stimulus port (R489, R490): the port must be enabled and trace must run. -/
def State.stimRecord (s : State) (port value size : Nat) (poison : Bool) (src : Nat) : State :=
  if s.stimOn port then s.traceEnter ⟨value % 2 ^ 64, port, size, poison, 1, src, s.traceTime⟩ else s

/-- A MARK record of a cross-trigger channel (R487, R490): its data and source are not stated (log entry 208); POISON is of written data alone. -/
def State.markRecord (s : State) (c : Nat) : State :=
  let r : TraceRec := ⟨s.draw % 2 ^ 64, c, 8, false, 2, s.draw / 2 ^ 65 % 4096, s.traceTime⟩
  s.drawn.traceEnter r

end Sys2Proof.Machine
end

