-- ==== Sys2Proof/Machine/ThreadOps.lean ====
section
/-! DEFINITION. The shared operations of sequencer threads (04_ticks_and_sequencer.md, R135 to R155): states, registers,
squashes, halts, faults, barriers, the watchdog, and the cross-trigger channels that they feed (19_debug_trace.md,
R480 to R487). -/

namespace Sys2Proof.Machine

/-! ## Thread states and registers (R137, R139) -/

/-- The states of a thread (R139). -/
inductive TState where
  | off | run | wait | halted | faulted
  deriving DecidableEq, Repr

/-- The code of a thread state in SEQ_THR_STATUS_t. -/
def TState.code : TState → Nat
  | .off => 0 | .run => 1 | .wait => 2 | .halted => 3 | .faulted => 4

/-- The thread state that a code names. -/
def TState.ofCode : Nat → TState
  | 1 => .run | 2 => .wait | 3 => .halted | 4 => .faulted | _ => .off

/-- The state of thread t. -/
def State.tstate (s : State) (t : Nat) : TState := TState.ofCode (s.rd (R.SEQ_THR_STATUS_STATE t))
/-- Set the state of thread t. -/
def State.setTstate (s : State) (t : Nat) (x : TState) : State := s.wr (R.SEQ_THR_STATUS_STATE t) x.code
/-- The program counter of thread t. -/
def State.tpc (s : State) (t : Nat) : Nat := s.rd (R.SEQ_THR_STATUS_PC t)
/-- Set the program counter of thread t. -/
def State.setTpc (s : State) (t pc : Nat) : State := s.wr (R.SEQ_THR_STATUS_PC t) pc
/-- Thread t is inside a locked sequence (R148). -/
def State.locked (s : State) (t : Nat) : Bool := (s.thread t).lock.isSome

/-- Causes of a thread fault (R140). -/
inductive Cause where
  | illegal | access | poison | lockOverflow | lockIllegal | overrun | watchdog | imemDbe
  deriving DecidableEq, Repr

/-- The code of a cause (R140). -/
def Cause.code : Cause → Nat
  | .illegal => 1 | .access => 2 | .poison => 3 | .lockOverflow => 4 | .lockIllegal => 5 | .overrun => 6 | .watchdog => 7
  | .imemDbe => 8

/-- Register r of a register file: s0 reads 0 (R137, R158). -/
def regOf (regs : Store Word) (r : Nat) : Word := if r = 0 then 0 else storeGet 0 r regs
/-- The poison tag of register r: s0 carries none (R160). -/
def tagOf (tags : BitVec 32) (r : Nat) : Bool := r ≠ 0 && tags.toNat.testBit r
/-- Write a register and its tag: a write of s0 is discarded (R137, R160). -/
def setRegIn (regs : Store Word) (tags : BitVec 32) (r : Nat) (v : Word) (tag : Bool) : Store Word × BitVec 32 :=
  if r = 0 then (regs, tags)
  else (storeSet 0 r v regs,
    if tag then tags ||| BitVec.ofNat 32 (2 ^ r) else tags &&& (tags ^^^ BitVec.ofNat 32 (2 ^ r)))

/-- Register r of thread t. -/
def State.reg (s : State) (t r : Nat) : Word := regOf (s.thread t).regs r
/-- The tag of register r of thread t. -/
def State.tag (s : State) (t r : Nat) : Bool := tagOf (s.thread t).tags r
/-- Write register r of thread t with its tag (R150: at once). -/
def State.setReg (s : State) (t r : Nat) (v : Word) (tag : Bool) : State :=
  let x := s.thread t
  let p := setRegIn x.regs x.tags r v tag
  s.setThread t { x with regs := p.1, tags := p.2 }

/-! ## Barriers (R180, R373) -/

/-- The global barrier b (R373). -/
def State.gbar (s : State) (b : Nat) : GBar := storeGet {} b s.gbars
/-- Replace global barrier b. -/
def State.setGbar (s : State) (b : Nat) (x : GBar) : State := { s with gbars := storeSet {} b x s.gbars }
/-- Node of the twin-link engine (R232). -/
def twinNode : Nat := 0x015

/-- Send a twin record (R357): an NWR to node 0x015 of a device, the kind in ADDR[43:40]. -/
def State.sendTwin (s : State) (dev kind off : Nat) (data : List Byte) (poison : Nat) : State :=
  s.sendReq twinNode ⟨.nwr, dev, twinNode, kind * 2 ^ 40 + off, data.length, data, poison⟩

/-- The payload of BAR_ARRIVE and BAR_RELEASE (R357): barrier, generation, reserved. -/
def barPayload (b gen : Nat) : List Byte := leBytes 8 (b + 256 * gen)

/-- Thread t withdraws its arrival at barrier b (R180). -/
def State.barWithdraw (s : State) (t : Nat) : State :=
  match (s.thread t).wait with
  | some (.bar b _ _) => s.clrBit (R.SEQ_BAR_CFG_ARRIVED b) t
  | _ => s

/-! ## Squash, halt, off (R136, R139, R146, R480) -/

/-- Discard what thread t issued ahead with an instruction number above seq (R146): each speculative PRE sends a squash over
the region command path; answers to discarded reads are dropped when they arrive (R145). -/
def State.squashAfter (s : State) (t seq : Nat) : State :=
  let x := s.thread t
  let late := x.spec.filter fun o => match o with
    | .pre k _ _ _ => decide (seq < k)
    | .read k _ _ _ _ _ => decide (seq < k)
  let s := s.setThread t { x with
    spec := x.spec.filter fun o => (match o with
      | .pre k _ _ _ => decide (k ≤ seq)
      | .read k _ _ _ _ _ => decide (k ≤ seq))
    issued := x.issued.filter fun e => decide (e.seq ≤ seq)
    resolved := x.resolved.filter fun e => decide (e.1 ≤ seq)
    old := x.old.filter fun e => decide (e.1 ≤ seq) }
  late.foldl (fun s o => match o with
    | .pre _ n p _ => ({ s with rpath := s.rpath ++ [.squash n p t] } : State).bump (R.SEQ_THR_SPEC_SQUASHED_PRE t)
    | .read .. => s) s

/-- Squash every uncommitted instruction of thread t (R146): the waiting oldest one too, whose barrier arrival is withdrawn
(R180). Words are fetched again afterwards. -/
def State.squashAll (s : State) (t : Nat) : State :=
  let s := s.barWithdraw t
  let x := s.thread t
  let late := x.spec
  let s := s.setThread t { x with spec := [], issued := [], resolved := [], wait := none, pend := none, old := [] }
  late.foldl (fun s o => match o with
    | .pre _ n p _ => ({ s with rpath := s.rpath ++ [.squash n p t] } : State).bump (R.SEQ_THR_SPEC_SQUASHED_PRE t)
    | .read .. => s) s

/-- Abort a locked sequence (R152): its buffered effects are discarded, registers and tags return to their values at the
commit of LOCK, and the PC is at LOCK. -/
def State.abortLock (s : State) (t : Nat) : State :=
  match (s.thread t).lock with
  | none => s
  | some l =>
    ((s.setThread t { s.thread t with lock := none, regs := l.regs, tags := l.tags }).clr
      (R.SEQ_THR_STATUS_LOCKED t)).setTpc t l.pc

/-- Discard the buffered effects of a locked sequence; registers keep their values (R139). -/
def State.dropLock (s : State) (t : Nat) : State :=
  (s.setThread t { s.thread t with lock := none }).clr (R.SEQ_THR_STATUS_LOCKED t)

/-- A pending debugger halt is over (R482). -/
def State.dropHalt (s : State) (t : Nat) : State :=
  ((s.clr (R.DBG_THR_CTL_PEND t)).clr (R.DBG_THR_CTL_PEND_LOCKED t)).clr (R.DBG_THR_CTL_DEFERRED t)

/-- Thread t enters OFF (R139). -/
def State.threadOff (s : State) (t : Nat) : State :=
  let s := ((s.squashAll t).dropLock t).dropHalt t
  let s := s.setThread t { s.thread t with stopReq := false, haltReq := none, rstReq := false, stepping := false, wdtDue := false }
  s.setTstate t .off

/-- The watchdog load (R153): TICKS × P of the tick in progress. -/
def State.wdtLoad (s : State) (t : Nat) : State :=
  s.wr (R.SEQ_WDT_CNT_REMAIN t) (s.rd (R.SEQ_WDT_TICKS t) * s.rd R.TICK_LAYOUT_PERIOD)

/-- RESTART acts (R136): uncommitted instructions are squashed, the scalar registers stay, the thread runs at START_PC and
the watchdog is loaded while EN is 1 (R153). A debugger halt of a HALTED thread ends (R482). -/
def State.threadRestart (s : State) (t : Nat) : State :=
  let s := (s.squashAll t).dropLock t
  let s := if s.tstate t = .halted then s.dropHalt t else s
  let s := s.setThread t { s.thread t with rstReq := false, stepping := false }
  let s := (s.setTstate t .run).setTpc t (s.rd (R.SEQ_THR_START_START_PC t))
  if s.is1 (R.SEQ_WDT_EN t) then s.wdtLoad t else s

/-- Thread t enters HALTED with its PC at the oldest squashed instruction (R480). -/
def State.threadHalted (s : State) (t : Nat) : State :=
  let s := s.squashAll t
  let s := (s.clr (R.DBG_THR_CTL_PEND t)).clr (R.DBG_THR_CTL_PEND_LOCKED t)
  (s.setThread t { s.thread t with stepping := false }).setTstate t .halted

/-- The thread runs: RUN or WAIT. -/
def State.threadLive (s : State) (t : Nat) : Bool := s.tstate t = .run || s.tstate t = .wait

/-- The thread stands at a commit point outside a locked sequence: nothing of its oldest instruction was sent (R136, R164,
R480). -/
def State.atCommitPoint (s : State) (t : Nat) : Bool := !(s.locked t) && (s.thread t).pend.isNone

/-- HALT for thread t (R480, R481): it acts at the next commit point outside a locked sequence; it is refused in OFF and
FAULTED. -/
def State.threadHalt (s : State) (t : Nat) : State :=
  match s.tstate t with
  | .off | .faulted => s.set1 (R.DBG_THR_CTL_ERR t)
  | .halted => s
  | .run | .wait => if s.atCommitPoint t then s.threadHalted t else s.set1 (R.DBG_THR_CTL_PEND t)

/-! ## Cross-trigger channels (R486, R487) -/

/-- A pulse on channel c and its actions (R487). -/
def State.pulse (s : State) (c : Nat) : State :=
  if s.emits.contains (.xtPulse c) then s else
  let s := (s.bump (R.DBG_XT_CFG_COUNT c)).emit (.xtPulse c)
  let mask := s.rd64 (R.DBG_XT_REG_LO_MASK c) (R.DBG_XT_REG_HI_MASK c)
  let s := s.each (indicesWith 64 fun n => mask.testBit n) fun s n => s.setHold n .debug
  let s := s.each (indicesWith 4 fun t => s.bit (R.DBG_XT_CFG_THR_HALT c) t) fun s t => s.threadHalt t
  let s := if s.is1 (R.DBG_XT_CFG_FREEZE c) then s.set1 R.DBG_FRZ_ASSERT else s
  let s := if s.is1 (R.DBG_XT_CFG_TRACE_MARK c) then s.markRecord c else s
  if s.is1 (R.DBG_XT_CFG_TRACE_STOP c) then s.traceStop else s

/-- Every channel with a source that fires pulses once (R486). -/
def State.pulses (s : State) (fires : Nat → Bool) : State := s.each (indicesWith 16 fires) fun s c => s.pulse c

/-- A write reaches a stimulus port (R489): the record, then the channels that the port feeds. -/
def State.stimulus (s : State) (port value size : Nat) (poison : Bool) (src : Nat) : State :=
  (s.stimRecord port value size poison src).pulses fun c =>
    s.is1 (R.DBG_XT_SRC_STIM_EN c) && s.rd (R.DBG_XT_SRC_STIM c) == port

/-! ## Faults (R140) -/

/-- Thread t enters FAULTED with a cause at a PC: logged as THREAD_FAULT, and the channels it feeds pulse (R140, R486). -/
def State.threadFault (s : State) (t : Nat) (c : Cause) (pc : Nat) : State :=
  let s := ((s.squashAll t).dropLock t).dropHalt t
  let s := s.setThread t { s.thread t with stopReq := false, haltReq := none, rstReq := false, stepping := false, wdtDue := false }
  let s := ((s.setTstate t .faulted).wr (R.SEQ_THR_STATUS_CAUSE t) c.code).setTpc t pc
  let s := s.log .threadFault [t, c.code, pc]
  s.pulses fun k => s.bit (R.DBG_XT_SRC_FAULT k) t

/-- A fault inside a locked sequence under R151: the sequence is aborted first (R152), and the PC shown is that of the
faulting instruction (R140). -/
def State.lockFault (s : State) (t : Nat) (c : Cause) : State :=
  let pc := s.tpc t
  (s.abortLock t).threadFault t c pc

/-! ## Requests of R136 -/

/-- The requests of R136. -/
inductive Req136 where
  | stop | halt (c : Cause) | restart
  deriving DecidableEq, Repr

/-- Act on a request (R136). -/
def State.act136 (s : State) (t : Nat) : Req136 → State
  | .stop => s.threadOff t
  | .halt c => s.threadFault t c (s.tpc t)
  | .restart => s.threadRestart t

/-- A pending request of R136 acts: STOP, then HALT, then RESTART. -/
def State.pendingActs (s : State) (t : Nat) : State :=
  let x := s.thread t
  if x.stopReq then s.threadOff t
  else match x.haltReq with
    | some c => s.threadFault t (if c = Cause.overrun.code then .overrun else .watchdog) (s.tpc t)
    | none => if x.rstReq then s.threadRestart t else s

/-- A debugger halt takes effect unless the thread is OFF or FAULTED by then (R482). -/
def State.haltIf (s : State) (t : Nat) (halt : Bool) : State := if halt && s.threadLive t then s.threadHalted t else s

/-- What waits at the next commit point acts: STOP, then a halt, then RESTART, then a debugger halt (R136, R482). -/
def State.commitPoint (s : State) (t : Nat) : State :=
  if !(s.threadLive t) || !(s.atCommitPoint t) then s
  else
    let halt := s.is1 (R.DBG_THR_CTL_PEND t) || (s.thread t).stepping
    (s.pendingActs t).haltIf t halt

/-- A request of R136 for a thread in RUN, WAIT or HALTED: it acts at once at a commit point, or waits for one. -/
def State.request136 (s : State) (t : Nat) (q : Req136) : State :=
  if s.tstate t = .halted || s.atCommitPoint t then s.act136 t q
  else
    let x := s.thread t
    s.setThread t (match q with
      | .stop => { x with stopReq := true }
      | .halt c => { x with haltReq := some c.code }
      | .restart => { x with rstReq := true })

/-! ## Commit (R143, R164) -/

/-- The oldest instruction of thread t commits and the thread goes on at pc: what it issued ahead is committed with it, the
thread is in RUN, a debugger step ends (R483), and what waited for a commit point acts. -/
def State.commitTo (s : State) (t pc : Nat) : State :=
  let x := s.thread t
  let s := s.setThread t { x with
    commits := x.commits + 1
    wait := none
    pend := none
    spec := x.spec.filter fun o => (match o with
      | .pre k _ _ _ => decide (x.commits < k)
      | .read k _ _ _ _ _ => decide (x.commits < k))
    issued := x.issued.filter fun e => decide (x.commits < e.seq)
    resolved := x.resolved.filter fun e => decide (x.commits < e.1)
    old := x.old.filter fun e => decide (x.commits < e.1) }
  let s := (s.setTstate t .run).setTpc t pc
  if x.stepping && s.locked t then s.threadHalted t else s.commitPoint t

/-- The next word in sequence (R158). -/
def nextPc (pc : Nat) : Nat := (pc + 1) % 32768

/-- The oldest instruction of thread t commits; the next in sequence follows. -/
def State.commit (s : State) (t : Nat) : State := s.commitTo t (nextPc (s.tpc t))

/-- Release barrier b (R180): ARRIVED clears, GEN toggles, and every waiting BAR of it commits with RD ← 0. -/
def State.barRelease (s : State) (b : Nat) : State :=
  let s := ((s.clr (R.SEQ_BAR_CFG_ARRIVED b)).wrb (R.SEQ_BAR_CFG_GEN b) !(s.is1 (R.SEQ_BAR_CFG_GEN b))).setGbar b {}
  s.each (List.range 4) fun s t =>
    match (s.thread t).wait with
    | some (.bar b' rd _) => if b' = b then (s.setReg t rd 0 false).commit t else s
    | _ => s

/-- This device's arrival at global barrier b counts at the leader (R373): with NDEV devices counted the leader releases the
others and itself. -/
def State.gbarCount (s : State) (b dev : Nat) : State :=
  let g := s.gbar b
  let devs := if g.devs.contains dev then g.devs else g.devs ++ [dev]
  if s.rd (R.GBAR_CFG_NDEV b) ≤ devs.length then
    let own := s.rd R.NET_CFG_DEV_NUM
    let s := (devs.filter (· ≠ own)).foldl
      (fun s d => s.sendTwin d 7 0 (barPayload b (s.rd (R.SEQ_BAR_CFG_GEN b))) 0) s
    s.barRelease b
  else s.setGbar b { g with devs := devs }

/-- Every named thread may have arrived at barrier b (R180, R373): a local barrier releases; a remote one sends BAR_ARRIVE to
its leader once, or counts itself there. -/
def State.barCheck (s : State) (b : Nat) : State :=
  if s.rd (R.SEQ_BAR_CFG_ARRIVED b) ≠ s.rd (R.SEQ_BAR_CFG_THREADS b) ∨ s.rd (R.SEQ_BAR_CFG_THREADS b) = 0 then s
  else if !(s.is1 (R.SEQ_BAR_CFG_REMOTE b)) then s.barRelease b
  else if (s.gbar b).sent then s
  else
    let s := s.setGbar b { s.gbar b with sent := true }
    let leader := s.rd (R.GBAR_CFG_LEADER b)
    if leader = s.rd R.NET_CFG_DEV_NUM then s.gbarCount b leader
    else s.sendTwin leader 6 0 (barPayload b (s.rd (R.SEQ_BAR_CFG_GEN b))) 0

end Sys2Proof.Machine
end

