-- ==== Sys2Proof/Machine/Ticks.lean ====
section
/-! DEFINITION. The tick generator and the commands of sequencer threads (04_ticks_and_sequencer.md, R120 to R141 and
R153 to R155). -/

namespace Sys2Proof.Machine

/-! ## Layouts (R120, R121, R123) -/

/-- The pending start of slot k: START[0] is 0 (R121). -/
def State.nextStart (s : State) (k : Nat) : Nat := if k = 0 then 0 else s.rd (R.SLOT_START_NEXT_START k)

/-- The pending layout meets R120 and R121: P from 160 to 16,777,215, and every slot at least 10 reference cycles. -/
def State.layoutOk (s : State) : Bool :=
  let p := s.rd R.TICK_LAYOUT_NEXT_PERIOD
  let m := s.rd R.TICK_LAYOUT_NEXT_NSLOT_M1
  decide (160 ≤ p) && (List.range m).all (fun k => decide (s.nextStart k + 10 ≤ s.nextStart (k + 1))) &&
  decide (s.nextStart m + 10 ≤ p)

/-- APPLY is written (R123): a layout that breaks a rule sets CFG_ERR; a valid one waits for the next tick boundary. -/
def State.tickApply (s : State) : State :=
  if s.layoutOk then
    ({ s with tickGen := { s.tickGen with queued := some (s.rd R.TICK_LAYOUT_NEXT_NSLOT_M1, s.rd R.TICK_LAYOUT_NEXT_PERIOD,
        (List.range 16).map s.nextStart) } } : State).set1 R.TICK_CTL_APPLY_PENDING
  else s.set1 R.TICK_CTL_CFG_ERR

/-- TICK_APPLY (R123). -/
def execTickApply (ini : Ini) (s : State) : Host.Outcome State Fault Refusal := .next (s.quiet.written ini R.TICK_CTL_EN.off State.tickApply)

/-- A write of EN (R124): 1 places the first boundary 16 reference cycles later, or cancels a stop; 0 stops the generator at
the boundary that ends the tick. A write of the current value has no effect. A 1 written between the last boundary and its last swap edge starts the
generator anew (log entry 220). -/
def State.writeTickEn (s : State) (en : Bool) : State :=
  if s.is1 R.TICK_CTL_EN == en then s
  else
    let s := s.wrb R.TICK_CTL_EN en
    let s := if s.tickGen.ended then s.generatorStops else s
    let g := s.tickGen
    if en then
      if s.is1 R.TICK_CTL_RUNNING || g.first then { s with tickGen := { g with stopping := false } }
      else { s with tickGen := { g with first := true, stopping := false, placed := some (s.now + 16) } }
    else { s with tickGen := { g with stopping := true } }

/-- TICK_EN_WRITE (R124). -/
def execTickEnWrite (ini : Ini) (en : Bool) (s : State) : Host.Outcome State Fault Refusal :=
  .next (s.quiet.written ini R.TICK_CTL_EN.off fun s => s.writeTickEn en)

/-- A write to SRC (R124): only while RUNNING is 0; at any other time SRC stays and CFG_ERR is set. 0b11 is reserved (R15). -/
def State.writeTickSrc (s : State) (src : Nat) : State :=
  if s.is1 R.TICK_CTL_RUNNING then s.set1 R.TICK_CTL_CFG_ERR
  else if src = 3 then s
  else s.wr R.TICK_CTL_SRC src

/-- TICK_SRC_WRITE (R124). -/
def execTickSrcWrite (ini : Ini) (src : BitVec 2) (s : State) : Host.Outcome State Fault Refusal :=
  .next (s.quiet.written ini R.TICK_CTL_EN.off fun s => s.writeTickSrc src.toNat)

/-- A write of TICK_CTL: the W1C bits, OUT_EN, SRC, EN, then APPLY. While RUNNING is 1, a write that carries SRC's present value does not count as a
write to SRC, so that EN and the flags can be written (DEDUCED, log entry 9). -/
def wrTickCtl (s : State) (v : BitVec 32) : State :=
  let s := (s.w1cOnly .TICK_CTL v).wr R.TICK_CTL_OUT_EN (R.TICK_CTL_OUT_EN.of v)
  let src := R.TICK_CTL_SRC.of v
  let s := if s.is1 R.TICK_CTL_RUNNING && src == s.rd R.TICK_CTL_SRC then s else s.writeTickSrc src
  let s := s.writeTickEn (R.TICK_CTL_EN.of v == 1)
  if R.TICK_CTL_APPLY.of v = 1 then s.tickApply else s

/-! ## Boundaries (R124 to R126, R131, R135) -/

/-- The next boundary may fall on region n: its decision point has passed where a swap is armed for it, and no swap for it is
still on the command path (R127, R131, R141). -/
def State.regionReady (s : State) (n : Nat) : Bool :=
  let b := s.tickGen.bno + 1
  ((s.region n).decided || !((s.region n).arms.any fun e => e.1 == b)) &&
  !(s.rpath.any fun c => match c with
    | .cmd m ⟨.swap _, _⟩ k => m == n && k == b
    | .cmd m ⟨.stop, _⟩ k => m == n && k == b
    | _ => false)

/-- The reference cycle at which the next tick boundary falls (R120, R124, R125): where it is placed, or at P after the last; under EXTERNAL none until
an edge or TICK_IN_LOST places it. -/
def State.tickDue (s : State) : Option Nat :=
  match s.tickGen.placed with
  | some c => some c
  | none =>
    if s.rd R.TICK_CTL_SRC = 1 ∧ s.tickGen.lost = false then none else some (s.tickGen.tickStart + s.rd R.TICK_LAYOUT_PERIOD)

/-- The reference cycle at which the next slot boundary within the tick in progress falls (R121); one less than 10 reference cycles before a placed
boundary does not occur (R126). -/
def State.slotDue (s : State) : Option Nat :=
  let g := s.tickGen
  let k := s.rd R.TICK_STAT_SLOT
  if !(s.is1 R.TICK_CTL_RUNNING) || g.first || g.ended || s.rd R.TICK_LAYOUT_NSLOT_M1 ≤ k then none
  else
    let c := g.tickStart + s.rd (R.SLOT_START_START (k + 1))
    match g.placed with
    | some b => if b < c + 10 then none else some c
    | none => some c

/-- A time has come. A boundary's command may come after its time; the boundary counts as fallen at its time (DESIGN CHOICE, log entry 268). -/
def State.timeHere (s : State) (t : Option Nat) : Bool :=
  match t with
  | some c => decide (c ≤ s.now)
  | none => false

/-- Every region is ready for the next boundary. -/
def State.boundaryReady (s : State) : Bool := (List.range 64).all s.regionReady

/-- What a slot boundary does on region n (R72, R131, R133): a swap armed for it, or in its clamp cycle, is dropped while the region clock is
stopped, but a fallback swap waits for the clock (R119); an OVERRUN hold that the decision point called for is set; arming starts afresh. -/
def State.regionBoundary (s : State) (n : Nat) : State :=
  let r := s.region n
  let b := s.tickGen.bno
  let s := s.setRegion n { r with decided := false, ovrHold := false }
  let s := if r.ovrHold then s.setHold n .overrun else s
  if s.clockRuns n then s
  else
    let s := match r.clamping with
      | some job => if job.fallback then s else s.refuseClamp n job .clockStopped
      | none => s
    match r.arms.find? (fun e => e.1 == b) with
    | some (_, a) => (s.unarm n b).refuseArmed n a .clockStopped
    | none => s

/-- The waits of thread t that a boundary releases commit (R131 step 4, R170). A wait-for-tick that began to wait with OWED 1 while RUNNING was 0
commits here too, and OWED stays 1 (DESIGN CHOICE, log entry 229). -/
def State.threadBoundary (s : State) (tick : Bool) (t : Nat) : State :=
  match (s.thread t).wait with
  | some .tick => if tick then s.commit t else s
  | some (.slot none) => s.commit t
  | some (.slot (some k)) => if s.rd R.TICK_STAT_SLOT = k then s.commit t else s
  | _ => s

/-- The thread overrun check of a tick boundary (R135); `slot` is the slot that ended. -/
def State.threadOverrun (s : State) (slot t : Nat) : State :=
  if !(s.threadLive t) || (s.thread t).wait == some .tick then s
  else
    let s := if s.rd (R.SEQ_THR_OVR_COUNT t) = 0 then s.log .threadOverrun ([t, slot] ++ words64 s.tickCount) else s
    let s := s.bump (R.SEQ_THR_OVR_COUNT t)
    match s.rd (R.SEQ_THR_OVR_POLICY t) with
    | 0 => if s.is1 (R.SEQ_THR_OVR_OWED t) then s.bump (R.SEQ_THR_OVR_MISSED t) else s.set1 (R.SEQ_THR_OVR_OWED t)
    | 2 => s.request136 t (.halt .overrun)
    | 3 => s.request136 t .restart
    | _ => s

/-- TICK_OUT goes high for 4 reference cycles when OUT_EN is 1 (R122). -/
def State.tickOutPulse (s : State) : State := if s.is1 R.TICK_CTL_OUT_EN then s.emit .tickOut else s

/-- The queued layout takes effect (R123). -/
def State.applyLayout (s : State) : State :=
  match s.tickGen.queued with
  | none => s
  | some (m, p, starts) =>
    let s : State := { s with tickGen := { s.tickGen with queued := none } }
    let s := ((s.clr R.TICK_CTL_APPLY_PENDING).wr R.TICK_LAYOUT_NSLOT_M1 m).wr R.TICK_LAYOUT_PERIOD p
    s.each (List.range 16) fun s k => s.wr (R.SLOT_START_START k) (if k ≤ m then starts.getD k 0 else 0)

/-- A tick boundary falls (R123, R124, R131 steps 3 and 4, R135): counts, layout, thread overruns, waits, regions. The last one ends the generator
once its swap edges are done. -/
def State.tickBoundary (s : State) : State :=
  let slot := s.rd R.TICK_STAT_SLOT
  let s := s.wr64 R.TICK_COUNT_LO_COUNT R.TICK_COUNT_HI_COUNT (s.tickCount + 1)
  let s := (s.set1 R.TICK_CTL_RUNNING).clr R.TICK_STAT_SLOT
  let g := s.tickGen
  let c := s.tickDue.getD s.now
  let s : State := { s with tickGen := { g with first := false, tickStart := c, slotStart := c, placed := none, bno := g.bno + 1 } }
  let s := s.applyLayout.tickOutPulse
  let s := s.each (List.range 4) fun s t => s.threadOverrun slot t
  let s := s.each (List.range 4) fun s t => s.threadBoundary true t
  let s := s.each (List.range 64) State.regionBoundary
  if s.tickGen.stopping then ({ s with tickGen := { s.tickGen with ended := true } } : State).finishStop else s

/-- A slot boundary within a tick falls (R131). -/
def State.slotBoundary (s : State) : State :=
  let c := s.slotDue.getD s.now
  let s := s.wr R.TICK_STAT_SLOT (s.rd R.TICK_STAT_SLOT + 1)
  let s : State := { s with tickGen := { s.tickGen with slotStart := c, bno := s.tickGen.bno + 1 } }
  let s := s.each (List.range 4) fun s t => s.threadBoundary false t
  s.each (List.range 64) State.regionBoundary

/-- A tick boundary placed d reference cycles after now ends the tick early or late (R125, R126): ignored within 10
reference cycles of the previous tick boundary, and moved so that the slot in progress keeps its 10 cycles. SHORT is set
where it comes earlier than P − 16. One that would come later than P + 16 comes too late: the generator makes the boundary itself at P + 16, sets
IN_LOST and runs as INTERNAL. -/
def State.placeBoundary (s : State) (c : Nat) : State :=
  let g := s.tickGen
  let latest := g.tickStart + s.rd R.TICK_LAYOUT_PERIOD + 16
  if c < g.tickStart + 10 ∨ g.placed.isSome then s
  else if latest < c then
    if g.lost then s else ({ s with tickGen := { g with placed := some latest, lost := true } } : State).set1 R.TICK_CTL_IN_LOST
  else
    let s := if c + 16 < g.tickStart + s.rd R.TICK_LAYOUT_PERIOD then s.set1 R.TICK_CTL_SHORT else s
    { s with tickGen := { g with placed := some (max c (g.slotStart + 10)), lost := false } }

/-- TICK_IN_EDGE (R125): taken only while SRC is EXTERNAL and a tick is in progress, until the last boundary has fallen; it places a boundary 8 reference cycles
later. -/
def execTickInEdge (s : State) : Host.Outcome State Fault Refusal :=
  let s := s.quiet
  if s.rd R.TICK_CTL_SRC = 1 ∧ s.is1 R.TICK_CTL_RUNNING ∧ s.tickGen.ended = false then .next (s.placeBoundary (s.now + 8)) else .next s

/-- TICK_IN_LOST (R125): P + 16 reference cycles after the tick boundary no edge has placed the next: IN_LOST is set, the generator makes the boundary
there itself and runs as INTERNAL until an edge arrives. -/
def execTickInLost (s : State) : Host.Outcome State Fault Refusal :=
  let s := s.quiet
  let g := s.tickGen
  let c := g.tickStart + s.rd R.TICK_LAYOUT_PERIOD + 16
  if s.rd R.TICK_CTL_SRC = 1 ∧ s.is1 R.TICK_CTL_RUNNING ∧ g.placed.isNone ∧ g.lost = false ∧ g.ended = false ∧ c ≤ s.now then
    .next (({ s with tickGen := { g with placed := some c, lost := true } } : State).set1 R.TICK_CTL_IN_LOST)
  else .next s

/-- OVR_CLR (R133): hold source OVERRUN of the region clears. -/
def execOvrClr (ini : Ini) (n : Fin 64) (s : State) : Host.Outcome State Fault Refusal :=
  .next (s.quiet.written ini (R.REGION_OVR_OVR_CLR n.val).off fun s => s.clrHold n.val .overrun)

/-- A write of REGION_OVR_n: its RW fields, then OVR_CLR. -/
def wrRegionOvr (s : State) (n : Nat) (v : BitVec 32) : State :=
  let s := s.storeReg (.REGION_OVR n) v
  if (R.REGION_OVR_OVR_CLR n).of v = 1 then s.clrHold n .overrun else s

/-! ## Thread commands (R136, R139) -/

/-- START (R139): an OFF thread runs at START_PC; its cause is NONE, and its watchdog is loaded while EN is 1 (R153). -/
def State.threadStart (s : State) (t : Nat) : State :=
  if s.tstate t ≠ .off then s.set1 (R.SEQ_THR_CTL_CMD_ERR t)
  else
    let s := (s.clr (R.SEQ_THR_STATUS_CAUSE t)).setTpc t (s.rd (R.SEQ_THR_START_START_PC t))
    let s := s.setTstate t .run
    if s.is1 (R.SEQ_WDT_EN t) then s.wdtLoad t else s

/-- STOP (R136, R139): accepted in RUN, WAIT and HALTED. -/
def State.threadStopCmd (s : State) (t : Nat) : State :=
  match s.tstate t with
  | .run | .wait | .halted => s.request136 t .stop
  | .off | .faulted => s.set1 (R.SEQ_THR_CTL_CMD_ERR t)

/-- RESTART (R136, R139, R482): accepted in RUN, WAIT and HALTED. -/
def State.threadRestartCmd (s : State) (t : Nat) : State :=
  match s.tstate t with
  | .run | .wait | .halted => s.request136 t .restart
  | .off | .faulted => s.set1 (R.SEQ_THR_CTL_CMD_ERR t)

/-- CLR_FAULT (R139): accepted only in FAULTED. -/
def State.threadClrFault (s : State) (t : Nat) : State :=
  if s.tstate t = .faulted then s.threadOff t else s.set1 (R.SEQ_THR_CTL_CMD_ERR t)

/-- START (R139). -/
def execStart (ini : Ini) (t : Fin 4) (s : State) : Host.Outcome State Fault Refusal :=
  .next (s.quiet.written ini (R.SEQ_THR_CTL_START t.val).off fun s => s.threadStart t.val)
/-- STOP of a thread (R136, R139). -/
def execThreadStop (ini : Ini) (t : Fin 4) (s : State) : Host.Outcome State Fault Refusal :=
  .next (s.quiet.written ini (R.SEQ_THR_CTL_START t.val).off fun s => s.threadStopCmd t.val)
/-- RESTART (R136, R139). -/
def execRestart (ini : Ini) (t : Fin 4) (s : State) : Host.Outcome State Fault Refusal :=
  .next (s.quiet.written ini (R.SEQ_THR_CTL_START t.val).off fun s => s.threadRestartCmd t.val)
/-- CLR_FAULT (R139). -/
def execClrFault (ini : Ini) (t : Fin 4) (s : State) : Host.Outcome State Fault Refusal :=
  .next (s.quiet.written ini (R.SEQ_THR_CTL_START t.val).off fun s => s.threadClrFault t.val)

/-- A write of SEQ_THR_CTL_t (R139): a write that sets more than one command is refused as a whole. -/
def wrThrCtl (s : State) (t : Nat) (v : BitVec 32) : State :=
  let s := s.w1cOnly (.SEQ_THR_CTL t) v
  match bits v 3 0 with
  | 0 => s
  | 1 => s.threadStart t
  | 2 => s.threadStopCmd t
  | 4 => s.threadRestartCmd t
  | 8 => s.threadClrFault t
  | _ => s.set1 (R.SEQ_THR_CTL_CMD_ERR t)

/-- LOCK_ABORT_TIMEOUT (R136): 4,096 sequencer cycles have passed without UNLOCK since a request of R136: the sequence is
aborted and the request acts. -/
def execLockAbortTimeout (t : Fin 4) (s : State) : Host.Outcome State Fault Refusal :=
  let s := s.quiet
  let x := s.thread t.val
  if s.locked t.val && (x.stopReq || x.haltReq.isSome || x.rstReq) then
    .next (((s.squashAll t.val).abortLock t.val).commitPoint t.val)
  else .next s

/-! ## The watchdog (R153 to R155, R484) -/

/-- The watchdog of thread t counts (R153, R484): in RUN or WAIT, and in HALTED with WDT_FRZ 0. -/
def State.wdtCounts (s : State) (t : Nat) : Bool :=
  s.threadLive t || (s.tstate t = .halted && !(s.is1 (R.DBG_THR_CTL_WDT_FRZ t)))

/-- WATCHDOG_EXPIRY (R154, R155): the counter has reached 0 while EN was 1: EXPIRED, the record and the channels, then ACTION; during a
debugger halt HALT, RESTART and ALERT are deferred as ACTION stands at the expiry. -/
def execWatchdogExpiry (t : Fin 4) (s : State) : Host.Outcome State Fault Refusal :=
  let s := s.quiet
  let t := t.val
  if !(s.thread t).wdtDue then .next s else
  let act := s.rd (R.SEQ_WDT_ACTION t)
  let s := (s.setThread t { s.thread t with wdtDue := false }).set1 (R.SEQ_WDT_EXPIRED t)
  let s := s.logP (if act = 3 then 2 else 1) .watchdogExpired [t, s.tpc t]
  let held := s.tstate t = .halted
  let s := if act = 0 then s.wdtLoad t
    else if held then (s.setThread t { s.thread t with deferAct := act }).set1 (R.DBG_THR_CTL_DEFERRED t)
    else if act = 2 then (s.wdtLoad t).request136 t .restart
    else s.request136 t (.halt .watchdog)
  .next (s.pulses fun c => s.bit (R.DBG_XT_SRC_WDT c) t)

/-- A write of SEQ_WDT_t (R153): EN from 0 to 1 loads the counter. -/
def wrWdt (s : State) (t : Nat) (v : BitVec 32) : State :=
  let was := s.is1 (R.SEQ_WDT_EN t)
  let s := s.storeReg (.SEQ_WDT t) v
  if !was && s.is1 (R.SEQ_WDT_EN t) then s.wdtLoad t else s

/-- WDT_EN_WRITE (R153). -/
def execWdtEnWrite (ini : Ini) (t : Fin 4) (value : BitVec 32) (s : State) : Host.Outcome State Fault Refusal :=
  .next (s.quiet.written ini (R.SEQ_WDT_EN t.val).off fun s => wrWdt s t.val value)

/-! ## Instruction memory (R142) -/

/-- The stored instruction word w. -/
def State.imem (s : State) (w : Nat) : Nat := s.rd (R.IMEM_LO_WORD w) + 2 ^ 32 * s.rd (R.IMEM_HI_WORD w)

end Sys2Proof.Machine
end

