-- ==== Sys2Proof/Machine/Paeri.lean ====
section
/-! DEFINITION. Paeri instruction words (05_paeri_isa.md, R156 to R176): fields, operation codes, reserved fields, the
scalar computations, addresses, and how a thread's oldest instruction is taken. -/

namespace Sys2Proof.Machine

/-! ## The instruction word (R156, R157, R162) -/

/-- The fields of an instruction word (R156). -/
structure Insn where
  op  : Nat
  fn  : Nat
  rd  : Nat
  ra  : Nat
  rb  : Nat
  rc  : Nat
  imm : Nat
  deriving DecidableEq, Repr

/-- The fields of a word (R156). -/
def Insn.of (w : Word) : Insn :=
  let v := w.toNat
  ⟨v / 2 ^ 56, v / 2 ^ 52 % 16, v / 2 ^ 47 % 32, v / 2 ^ 42 % 32, v / 2 ^ 37 % 32, v / 2 ^ 32 % 32, v % 2 ^ 32⟩

/-- Bits [hi:lo] of a number. -/
def nbits (v hi lo : Nat) : Nat := v / 2 ^ lo % 2 ^ (hi + 1 - lo)

/-- The instructions of the opcode map (R162), as the rows of the command table tell them apart. `alu imm fn` is opcode 0x10
or 0x11 with FN; `branch i` is OP 0x20 + i. -/
inductive Row where
  | nop | alu (imm : Bool) (fn : Nat) | li | lih | unary (fn : Nat)
  | branch (i : Nat) | bfs | bfc | jal | jalr
  | wtick | wslot | wflag | wshad | delay
  | ld | ldt | st | stp | stt
  | pre | fill | swap | stop | rcmdHold | rcmdRelease | rcmdCancel
  | cstart | cwait | evt | evtm | bar | lock | unlock
  | mirrThread | mirrRegion | mirrBank | snap | emit | pwrOn | pwrOff | kick | exit
  deriving DecidableEq, Repr

/-- Which instruction a word is: none where its OP is not listed or its FN is not defined for its OP (R157). -/
def Insn.row (i : Insn) : Option Row :=
  match i.op with
  | 0x01 => some .nop
  | 0x10 => some (.alu false i.fn)
  | 0x11 => some (.alu true i.fn)
  | 0x12 => some .li
  | 0x13 => some .lih
  | 0x14 => if i.fn < 3 then some (.unary i.fn) else none
  | 0x20 => some (.branch 0) | 0x21 => some (.branch 1) | 0x22 => some (.branch 2)
  | 0x23 => some (.branch 3) | 0x24 => some (.branch 4) | 0x25 => some (.branch 5)
  | 0x26 => some .bfs | 0x27 => some .bfc | 0x28 => some .jal | 0x29 => some .jalr
  | 0x30 => some .wtick | 0x31 => some .wslot | 0x32 => some .wflag | 0x33 => some .wshad | 0x34 => some .delay
  | 0x40 => some (if i.fn.testBit 3 then .ldt else .ld)
  | 0x41 => some (if i.fn.testBit 2 then .stp else if i.fn.testBit 3 then .stt else .st)
  | 0x50 => some .pre | 0x51 => some .fill | 0x52 => some .swap | 0x53 => some .stop
  | 0x54 => match i.fn with | 5 => some .rcmdHold | 6 => some .rcmdRelease | 11 => some .rcmdCancel | _ => none
  | 0x58 => some .cstart | 0x59 => some .cwait
  | 0x60 => some .evt | 0x61 => some .evtm | 0x62 => some .bar
  | 0x68 => some .lock | 0x69 => some .unlock
  | 0x70 => match i.fn with | 0 => some .mirrThread | 1 => some .mirrRegion | 2 => some .mirrBank | _ => none
  | 0x71 => some .snap | 0x72 => some .emit
  | 0x78 => match i.fn with | 0 => some .pwrOff | 1 => some .pwrOn | _ => none
  | 0x79 => some .kick | 0x7A => some .exit
  | _ => none

/-- RC is reserved unless T is 1 (R172, R178, R184). -/
def Insn.rcOk (i : Insn) : Bool := i.fn.testBit 3 || i.rc == 0

/-- Every reserved field, and every reserved part of IMM, is 0 (R156, R157, R166 to R187). -/
def Insn.reservedOk (i : Insn) : Row → Bool
  | .nop | .wtick | .lock | .unlock | .kick | .exit =>
    i.fn == 0 && i.rd == 0 && i.ra == 0 && i.rb == 0 && i.rc == 0 && i.imm == 0
  | .alu false _ => i.rc == 0 && i.imm == 0
  | .alu true fn => i.rb == 0 && i.rc == 0 && (!(fn == 5 || fn == 6 || fn == 7) || decide (i.imm < 64))
  | .li => i.fn == 0 && i.ra == 0 && i.rb == 0 && i.rc == 0
  | .lih => i.fn == 0 && i.rb == 0 && i.rc == 0
  | .unary _ => i.rb == 0 && i.rc == 0 && i.imm == 0
  | .branch _ => decide (i.fn < 4) && i.rd == 0 && i.rc == 0 && decide (i.imm < 2 ^ 15)
  | .bfs | .bfc =>
    decide (i.fn < 4) && i.rd == 0 && i.ra == 0 && i.rb == 0 && i.rc == 0 && !(i.imm.testBit 15) && decide (i.imm < 2 ^ 24)
  | .jal => i.fn == 0 && i.ra == 0 && i.rb == 0 && i.rc == 0 && decide (i.imm < 2 ^ 15)
  | .jalr => i.fn == 0 && i.rb == 0 && i.rc == 0
  | .wslot =>
    decide (i.fn < 2) && i.rd == 0 && i.ra == 0 && i.rb == 0 && i.rc == 0 &&
    (if i.fn = 0 then decide (i.imm < 16) else i.imm == 0)
  | .wflag => decide (i.fn < 2) && i.ra == 0 && i.rb == 0 && i.rc == 0 && decide (i.imm < 2 ^ 24)
  | .wshad => i.fn == 0 && i.rb == 0 && i.rc == 0 && decide (i.imm < 64)
  | .delay => i.fn == 0 && i.rd == 0 && i.ra == 0 && i.rb == 0 && i.rc == 0
  | .ld | .ldt => i.rb == 0 && i.rcOk && !(i.fn.testBit 2 && i.fn % 4 == 3)
  | .st | .stp | .stt => i.rd == 0 && i.rcOk && !(i.fn.testBit 2 && i.fn.testBit 3)
  | .pre | .fill | .swap => i.fn == 0 && i.rd == 0 && i.rc == 0 && i.imm &&& 0x73F == i.imm
  | .stop => i.fn == 0 && i.rd == 0 && i.rb == 0 && i.rc == 0 && decide (i.imm < 64)
  | .rcmdHold | .rcmdRelease | .rcmdCancel => i.rd == 0 && i.rb == 0 && i.rc == 0 && decide (i.imm < 64)
  | .cstart => i.fn % 8 == 0 && i.rd == 0 && i.rcOk && decide (i.imm < 32)
  | .cwait => i.fn == 0 && i.rb == 0 && i.rc == 0 && decide (i.imm < 32)
  | .evt => i.fn == 0 && i.rd == 0 && i.rb == 0 && i.rc == 0 && decide (i.imm < 256)
  | .evtm => i.fn == 0 && i.rd == 0 && i.ra == 0 && i.rc == 0 && decide (i.imm < 4)
  | .bar => i.fn == 0 && i.ra == 0 && i.rb == 0 && i.rc == 0 && nbits i.imm 15 4 == 0
  | .mirrThread => i.rd == 0 && i.ra == 0 && i.rb == 0 && i.rc == 0 && i.imm == 0
  | .mirrRegion => i.rd == 0 && i.rb == 0 && i.rc == 0 && decide (i.imm < 64)
  | .mirrBank => i.rd == 0 && i.rb == 0 && i.rc == 0 && decide (i.imm < 2048)
  | .snap => i.fn % 8 == 0 && i.rd == 0 && i.ra == 0 && i.rcOk && i.imm == 0
  | .emit => i.fn == 0 && i.rd == 0 && i.rc == 0 && decide (i.imm < 256)
  | .pwrOn | .pwrOff => i.rd == 0 && i.rb == 0 && i.rc == 0 && decide (i.imm < 128)

/-! ## Scalar computations (R166 to R169) -/

/-- IMM sign-extended to 64 bits. -/
def Insn.simm (i : Insn) : Word := (BitVec.ofNat 32 i.imm).signExtend 64

/-- The operation that FN selects (R166). -/
def alu (fn : Nat) (x y : Word) : Word :=
  let sh := y.toNat % 64
  match fn with
  | 0x0 => x + y
  | 0x1 => x - y
  | 0x2 => x &&& y
  | 0x3 => x ||| y
  | 0x4 => x ^^^ y
  | 0x5 => x <<< sh
  | 0x6 => x >>> sh
  | 0x7 => x.sshiftRight sh
  | 0x8 => x * y
  | 0x9 => if x.slt y then 1 else 0
  | 0xA => if x.ult y then 1 else 0
  | 0xB => if x = y then 1 else 0
  | 0xC => if x.slt y then x else y
  | 0xD => if x.slt y then y else x
  | 0xE => if x.ult y then x else y
  | _ => if x.ult y then y else x

/-- The number of 1 bits (R167). -/
def popc (x : Word) : Nat := ((List.range 64).filter fun i => x.toNat.testBit i).length
/-- Leading zeros; 64 for 0 (R167). -/
def clz (x : Word) : Nat := if x = 0 then 64 else 63 - x.toNat.log2
/-- Trailing zeros; 64 for 0 (R167). -/
def ctz (x : Word) : Nat := ((List.range 64).find? fun i => x.toNat.testBit i).getD 64

/-- POPC, CLZ and CTZ by FN (R167). -/
def unary (fn : Nat) (x : Word) : Word :=
  BitVec.ofNat 64 (match fn with | 0 => popc x | 1 => clz x | _ => ctz x)

/-- LIH (R167): IMM shifted left by 32, OR the low half of RA. -/
def lihValue (imm : Nat) (x : Word) : Word := BitVec.ofNat 64 (imm * 2 ^ 32 + x.toNat % 2 ^ 32)

/-- The condition of OP 0x20 + i (R168). -/
def branchTaken (i : Nat) (x y : Word) : Bool :=
  match i with
  | 0 => x == y | 1 => x != y | 2 => x.slt y | 3 => !(x.slt y) | 4 => x.ult y | _ => !(x.ult y)

/-- JALR's target (R169). -/
def jalrTarget (i : Insn) (x : Word) : Nat := (x + i.simm).toNat % 32768

/-- The flags word's line L (R138): bit L mod 4 of the region's lines. -/
def State.flagLine (s : State) (line : Nat) : Bool := s.bit (R.REGION_LINES_FLAG (line / 4)) (line % 4)

/-- The prediction of a branch at pc (R144): by its hint, or by the counter of PC[9:0]. -/
def State.predicted (s : State) (hint pc : Nat) : Bool :=
  match hint with
  | 0 => decide (2 ≤ storeGet 1 (pc % 1024) s.predictor)
  | 1 => true
  | _ => false

/-- A committed DYNAMIC branch moves its counter (R144). -/
def State.train (s : State) (hint pc : Nat) (taken : Bool) : State :=
  if hint ≠ 0 then s
  else
    let c := storeGet 1 (pc % 1024) s.predictor
    { s with predictor := storeSet 1 (pc % 1024) (if taken then min 3 (c + 1) else c - 1) s.predictor }

/-! ## Indexes and addresses (R159, R172, R173) -/

/-- Region index (R159). -/
def Insn.regionIdx (i : Insn) (a : Word) : Nat := (a.toNat % 64 + i.imm % 64) % 64
/-- Plane index (R159). -/
def Insn.planeIdx (i : Insn) (b : Word) : Nat := (b.toNat % 8 + nbits i.imm 10 8) % 8
/-- Courier index (R159). -/
def Insn.courierIdx (i : Insn) (a : Word) : Nat := (a.toNat % 32 + i.imm % 32) % 32
/-- Event line or stimulus port (R159). -/
def Insn.lineIdx (i : Insn) (a : Word) : Nat := (a.toNat % 256 + i.imm % 256) % 256
/-- Scratchpad bank (R159). -/
def Insn.bankIdx (i : Insn) (a : Word) : Nat := (a.toNat % 2048 + i.imm % 2048) % 2048
/-- Power domain (R159). -/
def Insn.domIdx (i : Insn) (a : Word) : Nat := (a.toNat % 128 + i.imm % 128) % 128

/-- The address of LD and ST (R172). -/
def Insn.addr (i : Insn) (a : Word) : Nat := (a + i.simm).toNat
/-- The access size in bytes (R172). -/
def Insn.size (i : Insn) : Nat := 2 ^ (i.fn % 4)

/-- A plain read's address (R145): SDRAM, scratchpad or the block RAM window. -/
def plainAddr (a : Nat) : Bool :=
  decide (a ≤ 0x2FFFFFFFFFF) || (decide (0x40000000000 ≤ a) && decide (a ≤ 0x4000FFFFFFF)) ||
  (decide (0x50000000000 ≤ a) && decide (a ≤ 0x50005FFFFFF))
/-- An address of CSR space. -/
def csrAddr (a : Nat) : Bool := decide (0x60000000000 ≤ a) && decide (a ≤ 0x6000FFFFFFF)
/-- The thread itself answers DECODE (R173): the address is outside the local map or not a multiple of the size. -/
def localDecode (a size : Nat) : Bool :=
  !(plainAddr a || csrAddr a || (decide (0x80000000000 ≤ a) && decide (a ≤ 0xFFFFFFFFFFF))) || a % size ≠ 0

/-- Two addresses lie in the same 128-byte line (R174). -/
def sameLine (a b : Nat) : Bool := a / 128 == b / 128

/-- The value a load writes (R172): zero- or sign-extended from its size. -/
def loadValue (data : List Byte) (size : Nat) (sx : Bool) : Word :=
  let v := leNat (data.take size)
  if sx && v.testBit (8 * size - 1) then BitVec.ofNat 64 (v + (2 ^ 64 - 2 ^ (8 * size))) else BitVec.ofNat 64 v

/-! ## Taking the oldest instruction (R137, R142, R157) -/

/-- The word of instruction number seq of thread t, at pc: the one in place when it was fetched; none where the word was replaced while it may
have been fetched (R142). -/
def State.wordAt (s : State) (t seq pc : Nat) : Option Word :=
  match storeGet none seq (s.thread t).old with
  | some (w, true) => some w
  | some (_, false) => none
  | none => some (BitVec.ofNat 64 (s.imem pc))

/-- The word that thread t executes as its oldest instruction: where the word was replaced while it may have been fetched, the old or the new
one, as a free choice (R142). -/
def State.fetchWord (s : State) (t : Nat) : Word :=
  let new := BitVec.ofNat 64 (s.imem (s.tpc t))
  match storeGet none (s.thread t).commits (s.thread t).old with
  | some (w, sure) => if sure || s.draw % 2 == 1 then w else new
  | none => new

/-- The free choice of `fetchWord` is used up, and stands from then on. -/
def State.fetched (s : State) (t : Nat) : State :=
  let x := s.thread t
  match storeGet none x.commits x.old with
  | some (_, false) => (s.setThread t { x with old := storeSet none x.commits (some (s.fetchWord t, true)) x.old }).drawn
  | _ => s

/-- Thread t, in RUN with nothing sent by its oldest instruction, takes that instruction if the command is for it: the word at
PC. A word with a double-bit error faults with IMEM_DBE, an undefined one with ILLEGAL under any command, one with a reserved
field set with ILLEGAL under its own (R137, R157). -/
def State.oldest (s : State) (t : Nat) (mine : Row → Bool) (body : Insn → State → State) : State :=
  if s.tstate t ≠ .run || (s.thread t).pend.isSome then s
  else
    let pc := s.tpc t
    if 2 ≤ storeGet 0 pc s.imemErr then s.threadFault t .imemDbe pc
    else
      let i := Insn.of (s.fetchWord t)
      match i.row with
      | none => (s.fetched t).threadFault t .illegal pc
      | some r =>
        if !(mine r) then s
        else if !(i.reservedOk r) then (s.fetched t).threadFault t .illegal pc
        else body i (s.fetched t)

/-- The instruction consumes registers (R161): a tagged one faults with POISON and nothing else happens. -/
def State.consuming (s : State) (t : Nat) (rs : List Nat) (body : State → State) : State :=
  if rs.any fun r => s.tag t r then s.threadFault t .poison (s.tpc t) else body s

/-- A wait inside a locked sequence faults (R151). -/
def State.unlockedOnly (s : State) (t : Nat) (body : State → State) : State :=
  if s.locked t then s.lockFault t .lockIllegal else body s

/-- Thread t waits (R165). -/
def State.waitFor (s : State) (t : Nat) (w : Wait) : State :=
  (s.setThread t { s.thread t with wait := some w }).setTstate t .wait

/-- Buffer an effect inside a locked sequence (R148, R151): the 65th faults. -/
def State.buffer (s : State) (t : Nat) (e : Effect) (body : State → State) : State :=
  match (s.thread t).lock with
  | none => s
  | some l =>
    if 64 ≤ l.effects.length then s.lockFault t .lockOverflow
    else body (s.setThread t { s.thread t with lock := some { l with effects := l.effects ++ [e] } })

/-! ## The run-ahead window (R143 to R146, R163, R174) -/

/-- The window up to a slot: where the next instruction stands, the registers and tags it would see, which registers hold no
final value yet (a bit mask), and the regions named by older uncommitted instructions. -/
structure Window where
  pc      : Nat
  regs    : Store Word
  tags    : BitVec 32
  bad     : Nat
  regions : List Nat
  deriving DecidableEq, Repr

/-- Register r has its final value. -/
def Window.has (w : Window) (r : Nat) : Bool := r = 0 || !(w.bad.testBit r)
/-- The value of a register in the window. -/
def Window.reg (w : Window) (r : Nat) : Word := regOf w.regs r
/-- Its tag. -/
def Window.tag (w : Window) (r : Nat) : Bool := tagOf w.tags r
/-- Pass an instruction without a result. -/
def Window.next (w : Window) : Window := { w with pc := nextPc w.pc }
/-- A register holds no final value until its instruction commits. -/
def Window.lose (w : Window) (r : Nat) : Window := if r = 0 then w else { w with bad := w.bad ||| 2 ^ r }
/-- Pass an instruction that writes a result. -/
def Window.put (w : Window) (r : Nat) (v : Word) (tag : Bool) : Window :=
  let p := setRegIn w.regs w.tags r v tag
  { w with regs := p.1, tags := p.2, bad := if w.bad.testBit r then w.bad ^^^ 2 ^ r else w.bad }

/-- What thread t issued ahead as instruction number seq. -/
def State.specOf (s : State) (t seq : Nat) : Option SpecOp :=
  (s.thread t).spec.find? fun o => match o with
    | .pre k _ _ _ => k == seq
    | .read k _ _ _ _ _ => k == seq

/-- How a branch with instruction number seq, at pc, issued: as recorded, or as it would issue now (R144, R168). -/
def State.branchIssue (s : State) (t seq pc : Nat) (i : Insn) : BranchIssue :=
  ((s.thread t).issued.find? (·.seq == seq)).getD
    ⟨seq, s.predicted (i.fn % 4) pc, s.flagLine (nbits i.imm 23 16)⟩

/-- Pass the instruction at slot k of the window of thread t: none where it has not issued, so that nothing younger issues. -/
def State.passSlot (s : State) (t k : Nat) (w : Window) : Option Window :=
  let x := s.thread t
  let seq := x.commits + k
  let sent := k = 0 && x.pend.isSome
  match s.wordAt t seq w.pc with
  | none => none
  | some word =>
  let i := Insn.of word
  let need := fun (rs : List Nat) (v : Window) => if rs.all w.has then some v else none
  match i.row with
  | none => some w.next
  | some r =>
    if !(i.reservedOk r) || decide (2 ≤ storeGet 0 w.pc s.imemErr) then some w.next else
    match r with
    | .nop | .wtick | .wslot | .delay => some w.next
    | .alu imm fn =>
      if imm then need [i.ra] (w.next.put i.rd (alu fn (w.reg i.ra) i.simm) (w.tag i.ra))
      else need [i.ra, i.rb] (w.next.put i.rd (alu fn (w.reg i.ra) (w.reg i.rb)) (w.tag i.ra || w.tag i.rb))
    | .li => some (w.next.put i.rd i.simm false)
    | .lih => need [i.ra] (w.next.put i.rd (lihValue i.imm (w.reg i.ra)) (w.tag i.ra))
    | .unary fn => need [i.ra] (w.next.put i.rd (unary fn (w.reg i.ra)) (w.tag i.ra))
    | .branch _ | .bfs | .bfc =>
      match x.resolved.find? (fun e => e.1 == seq) with
      | some (_, taken) => some { w with pc := if taken then i.imm % 32768 else nextPc w.pc }
      | none =>
        if i.fn % 4 = 3 then none
        else some { w with pc := if (s.branchIssue t seq w.pc i).taken then i.imm % 32768 else nextPc w.pc }
    | .jal => some { w.put i.rd (BitVec.ofNat 64 (nextPc w.pc)) false with pc := i.imm % 32768 }
    | .jalr => need [i.ra] { w.put i.rd (BitVec.ofNat 64 (nextPc w.pc)) false with pc := jalrTarget i (w.reg i.ra) }
    | .wflag | .cwait | .bar => some (w.next.lose i.rd)
    | .wshad => need [i.ra] { w.next.lose i.rd with regions := w.regions ++ [i.regionIdx (w.reg i.ra)] }
    | .ld | .ldt =>
      let later := (w.next.lose i.rd).lose i.rc
      if !(w.has i.ra) then none
      else if w.tag i.ra || localDecode (i.addr (w.reg i.ra)) i.size then some later
      else if sent then some later
      else match s.specOf t seq with
        | some (.read _ _ _ _ _ (some ⟨.ok, data, p⟩)) =>
          let v := w.next.put i.rd (loadValue data i.size (i.fn.testBit 2)) (p % 2 == 1)
          some (if r = .ldt then v.put i.rc 0 false else v)
        | some _ => some later
        | none => none
    | .st | .stt | .cstart | .snap => if sent then some (w.next.lose i.rc) else none
    | .pre =>
      if !(w.has i.ra && w.has i.rb) then none
      else if w.tag i.ra || w.tag i.rb then some w.next
      else if (s.specOf t seq).isSome then some { w.next with regions := w.regions ++ [i.regionIdx (w.reg i.ra)] }
      else none
    | .stp | .fill | .swap | .stop | .rcmdHold | .rcmdRelease | .rcmdCancel | .evt | .evtm | .lock | .unlock
    | .mirrThread | .mirrRegion | .mirrBank | .emit | .pwrOn | .pwrOff | .kick | .exit => none

/-- The window of thread t at slot k, every older instruction of it having issued; nothing runs ahead inside a locked
sequence (R148), in a debugger's step (R483) or of a thread that does not run. -/
def State.window (s : State) (t : Nat) : Nat → Option Window
  | 0 => if s.threadLive t then some ⟨s.tpc t, (s.thread t).regs, (s.thread t).tags, 0, []⟩ else none
  | k + 1 => if s.locked t || (s.thread t).stepping then none else
    match s.window t k with
    | some w => s.passSlot t k w
    | none => none

/-- The instruction at slot k, defined and with its reserved fields 0. -/
def State.slotInsn (s : State) (t k : Nat) (w : Window) : Option (Insn × Row) :=
  if 2 ≤ storeGet 0 w.pc s.imemErr then none else
  match s.wordAt t ((s.thread t).commits + k) w.pc with
  | none => none
  | some word =>
    let i := Insn.of word
    match i.row with
    | some r => if i.reservedOk r then some (i, r) else none
    | none => none

/-- The branch at slot k of the window issues (R144, R168): its prediction and what it sees of the flags word are kept. It issues with the first command
that shows that it has (DESIGN CHOICE, log entry 230). -/
def State.issueSlot (s : State) (t k : Nat) : State :=
  let x := s.thread t
  match s.window t k with
  | none => s
  | some w =>
    match s.slotInsn t k w with
    | some (i, .branch _) | some (i, .bfs) | some (i, .bfc) =>
      if x.issued.any (·.seq == x.commits + k) then s
      else s.setThread t { x with issued := x.issued ++ [s.branchIssue t (x.commits + k) w.pc i] }
    | _ => s

/-- The branches at the slots below n of the window have issued. -/
def State.issueBelow (s : State) (t n : Nat) : State := s.each (List.range n) fun s k => s.issueSlot t k

/-- One past the highest instruction number of thread t that is known to have issued. -/
def State.issuedTo (s : State) (t : Nat) : Nat :=
  let x := s.thread t
  let own := if x.pend.isSome || x.wait.isSome then x.commits + 1 else x.commits
  let spec := x.spec.foldl (fun m o => match o with | .pre q _ _ _ => max m (q + 1) | .read q _ _ _ _ _ => max m (q + 1)) own
  let branches := x.issued.foldl (fun m e => max m (e.seq + 1)) spec
  x.resolved.foldl (fun m e => max m (e.1 + 1)) branches

/-! ## Replacing instruction words (R142) -/

/-- Word w is about to be replaced (R142): every instruction in the run-ahead window of thread t at that word keeps the word that was in place when it
was fetched: certainly where it is known to have issued, possibly where it may have. -/
def State.keepFetched (s : State) (t w : Nat) : State :=
  let x := s.thread t
  let prev := BitVec.ofNat 64 (s.imem w)
  let slots := (List.range 24).filter fun k =>
    (match s.window t k with | some v => v.pc == w | none => false) && (storeGet none (x.commits + k) x.old).isNone
  s.setThread t { x with old := slots.foldl (fun o k =>
    storeSet none (x.commits + k) (some (prev, decide (x.commits + k < s.issuedTo t))) o) x.old }

/-- Instruction word w is replaced (R142): what a thread has already fetched into its window is not fetched again. -/
def State.imemWrite (s : State) (w v : Nat) : State :=
  let s := s.each (List.range 4) fun s t => s.keepFetched t w
  let s := (s.wr (R.IMEM_LO_WORD w) (v % 2 ^ 32)).wr (R.IMEM_HI_WORD w) (v / 2 ^ 32)
  { s with imemErr := storeSet 0 w 0 s.imemErr }

/-- The offset of IMEM_LO[w]. -/
def imemOff (w : Nat) : Nat := 0x300000 + 8 * w

/-- The write of IMEM_HI[w] (R16, R142): it commits the whole word, with the held low half if there is one. -/
def wrImemHi (s : State) (ini : Ini) (w : Nat) (hi : BitVec 32) : State :=
  let lo := s.pairLo (imemOff w) ini (s.rd (R.IMEM_LO_WORD w))
  (s.dropLo (imemOff w) ini).imemWrite w (lo + 2 ^ 32 * hi.toNat)

/-- IMEM_WRITE (R142). -/
def execImemWrite (ini : Ini) (w : Fin 32768) (hi : BitVec 32) (s : State) : Host.Outcome State Fault Refusal :=
  .next (s.quiet.written ini (R.IMEM_HI_WORD w.val).off fun s => wrImemHi s ini w.val hi)

end Sys2Proof.Machine
end

