-- ==== Sys2Proof/Machine/Memory.lean ====
section
/-! DEFINITION. The memory accesses of threads (05_paeri_isa.md, R172 to R175, R148, R181): LD, LDT, ST, STP, STT and the
answers they get. -/

namespace Sys2Proof.Machine

/-- A read access of a thread. -/
def readAccess (addr size : Nat) : Access := ⟨.rd, 0, 0, addr, size, [], 0⟩
/-- A write access of a thread; the tag travels as the poison bit of its word (R161). -/
def writeAccess (addr size : Nat) (v : Word) (tag : Bool) : Access := ⟨.wr, 0, 0, addr, size, leBytes size v.toNat, tag.toNat⟩

/-- Thread t sends the request of its oldest instruction and waits for the answer (R164); without a free tag it sends later (R252). -/
def State.sendOldest (s : State) (t : Nat) (a : Access) (kind : PendKind) : State :=
  if !(s.maySend (threadNode t)) then s else
  let tag := s.freeTag (threadNode t)
  (s.setThread t { s.thread t with pend := some ⟨s.tpc t, tag, kind⟩ }).sendReq (threadNode t) a

/-- A load's answer (R175): OK writes RD with its tag, and RC ← 0 where tolerant; another code faults with ACCESS, or where
tolerant writes RD ← 0 with its tag clear and RC ← the code. RC is written after RD, so that with both the same register the status stands (DESIGN
CHOICE, log entry 231); the tag of RC is clear (log entry 162). -/
def State.loadDone (s : State) (t : Nat) (rd rc : Nat) (tol sx : Bool) (size : Nat) (a : Answer) : State :=
  if a.code = .ok then
    let s := s.setReg t rd (loadValue a.data size sx) (a.poison % 2 == 1)
    (if tol then s.setReg t rc 0 false else s).commit t
  else if tol then ((s.setReg t rd 0 false).setReg t rc (BitVec.ofNat 64 a.code.code) false).commit t
  else s.threadFault t .access (s.tpc t)

/-- The answer to a store, CSTART or SNAP (R175, R178, R184). -/
def State.otherDone (s : State) (t : Nat) (rc : Nat) (tol : Bool) (a : Answer) : State :=
  if tol then (s.setReg t rc (BitVec.ofNat 64 a.code.code) false).commit t
  else if a.code = .ok then s.commit t
  else s.threadFault t .access (s.tpc t)

/-- The answer DECODE that a thread produces itself (R173). -/
def decodeAnswer : Answer := ⟨.decode, [], 0⟩

/-- A posted effect was answered (R175, R181): other than OK it counts, and the first since the last read is logged. -/
def State.postedDone (s : State) (t pc : Nat) (code : Resp) : State :=
  if code = .ok then s
  else
    let s := if s.rd (R.SEQ_THR_POSTED_COUNT t) = 0 then s.log .seqPostedErr [t, code.code, pc] else s
    ((s.bump (R.SEQ_THR_POSTED_COUNT t)).wr (R.SEQ_THR_POSTED_CODE t) code.code).wr (R.SEQ_THR_POSTED_PC t) pc

/-- Thread t sends a posted effect (R175, R181). -/
def State.sendPosted (s : State) (t pc : Nat) (a : Access) : State :=
  let tag := s.freeTag (threadNode t)
  let stores := if a.op = .wr then some a.addr else none
  (s.setThread t { s.thread t with posted := (s.thread t).posted ++ [(tag, pc, stores)] }).sendReq (threadNode t) a

/-- A posted ST of thread t to the line of an address has no answer (R174). -/
def State.postedToLine (s : State) (t addr : Nat) : Bool := 
  (s.thread t).posted.any fun e => match e.2.2 with | some a => sameLine a addr | none => false

/-- What the buffered writes of a locked sequence say of a read (R148, R151): the data of the newest write it meets if
address and size agree, an overlap that faults, or nothing. -/
inductive LockRead where
  | miss | hit (data : List Byte) (poison : Bool) | overlap
  deriving DecidableEq, Repr

/-- The newest buffered write that a read meets decides (R148, R151). -/
def lockRead (es : List Effect) (addr size : Nat) : LockRead :=
  es.foldl (fun r e => match e with
    | .write a n data p _ =>
      if a = addr ∧ n = size then .hit data p else if a < addr + size ∧ addr < a + n then .overlap else r
    | _ => r) .miss

/-- LD and LDT as the oldest instruction (R172 to R175, R181): a tagged address faults with POISON; a bad address is answered
DECODE by the thread; an answer that a speculative read has brought completes it; a buffered write of the locked sequence
supplies its data; otherwise the read is sent, a plain read to a line with an unanswered posted ST later. -/
def State.loadOldest (s : State) (t : Nat) (tol : Bool) : State :=
  s.oldest t (· == if tol then .ldt else .ld) fun i s => s.consuming t [i.ra] fun s =>
    let addr := i.addr (s.reg t i.ra)
    let sx := i.fn.testBit 2
    if localDecode addr i.size then s.loadDone t i.rd i.rc tol sx i.size decodeAnswer
    else match s.specOf t (s.thread t).commits with
      | some (.read _ _ _ _ _ (some a)) => s.loadDone t i.rd i.rc tol sx i.size a
      | some _ => s
      | none =>
        let send :=
          if plainAddr addr && s.postedToLine t addr then s
          else s.sendOldest t (readAccess addr i.size) (.load i.rd i.rc tol sx i.size addr)
        match (s.thread t).lock with
        | some l =>
          (match lockRead l.effects addr i.size with
           | .hit data p => s.loadDone t i.rd i.rc tol sx i.size ⟨.ok, data, p.toNat⟩
           | .overlap => s.lockFault t .lockIllegal
           | .miss => send)
        | none => send

/-- The address that the oldest instruction of thread t, a store whose answer is awaited, stores to (R174). -/
def State.oldestStore (s : State) (t : Nat) : Option Nat :=
  if (s.thread t).pend.isNone then none
  else match s.slotInsn t 0 ⟨s.tpc t, [], 0, 0, []⟩ with
    | some (i, .st) | some (i, .stt) => some (i.addr (s.reg t i.ra))
    | _ => none

/-- LD and LDT at slot k > 0 of the window (R145, R161, R174): a plain read whose address is final and untagged is sent ahead
of commit, unless an older store to its line is uncommitted or unanswered. -/
def State.loadAhead (s : State) (t k : Nat) (tol : Bool) : State :=
  match s.window t k with
  | none => s
  | some w =>
    match s.slotInsn t k w with
    | none => s
    | some (i, r) =>
      let s := s.issueBelow t k
      let seq := (s.thread t).commits + k
      let addr := i.addr (w.reg i.ra)
      if r ≠ (if tol then Row.ldt else Row.ld) || !(w.has i.ra) || w.tag i.ra || localDecode addr i.size || !(plainAddr addr) ||
          (s.specOf t seq).isSome || s.postedToLine t addr || !(s.maySend (threadNode t)) ||
          (match s.oldestStore t with | some b => sameLine b addr | none => false) then s
      else
        let tag := s.freeTag (threadNode t)
        (s.setThread t { s.thread t with spec := (s.thread t).spec ++ [.read seq w.pc tag addr i.size none] }).sendReq
          (threadNode t) (readAccess addr i.size)

/-- LD (R172, R174, R175) at slot k of the window. -/
def execLd (t : Fin 4) (k : Fin 24) (s : State) : Host.Outcome State Fault Refusal :=
  .next (if k.val = 0 then s.quiet.loadOldest t.val false else s.quiet.loadAhead t.val k.val false)
/-- LDT (R172, R174, R175) at slot k of the window. -/
def execLdt (t : Fin 4) (k : Fin 24) (s : State) : Host.Outcome State Fault Refusal :=
  .next (if k.val = 0 then s.quiet.loadOldest t.val true else s.quiet.loadAhead t.val k.val true)

/-- A store as the oldest instruction (R172, R175, R181): RA is consumed, and RB where the address lies in CSR space (R161).
Inside a locked sequence it is buffered. -/
def State.store (s : State) (t : Nat) (row : Row) : State :=
  s.oldest t (· == row) fun i s =>
    let addr := i.addr (s.reg t i.ra)
    s.consuming t (if csrAddr addr then [i.ra, i.rb] else [i.ra]) fun s =>
      let a := writeAccess addr i.size (s.reg t i.rb) (s.tag t i.rb)
      let tol := row == .stt
      if s.locked t then
        s.buffer t (.write addr i.size a.data (s.tag t i.rb) (s.tpc t)) fun s =>
          (if tol then s.setReg t i.rc 0 false else s).commit t
      else if localDecode addr i.size then
        if row = .stp then (s.postedDone t (s.tpc t) .decode).commit t else s.otherDone t i.rc tol decodeAnswer
      else if row = .stp then (if s.maySend (threadNode t) then (s.sendPosted t (s.tpc t) a).commit t else s)
      else s.sendOldest t a (.other i.rc tol)

/-- ST (R172, R175). -/
def execSt (t : Fin 4) (s : State) : Host.Outcome State Fault Refusal := .next (s.quiet.store t.val .st)
/-- STP (R172, R175): posted. -/
def execStp (t : Fin 4) (s : State) : Host.Outcome State Fault Refusal := .next (s.quiet.store t.val .stp)
/-- STT (R172, R175): tolerant. -/
def execStt (t : Fin 4) (s : State) : Host.Outcome State Fault Refusal := .next (s.quiet.store t.val .stt)

/-- A read sent ahead keeps its answer (R145). -/
def State.specAnswer (s : State) (t tag : Nat) (a : Answer) : State :=
  s.setThread t { s.thread t with spec := (s.thread t).spec.map fun o => match o with
    | .read q pc g addr size none => if g = tag then .read q pc g addr size (some a) else o
    | _ => o }

/-- The answer under a tag reaches thread t (R145, R164, R175): the oldest instruction completes; a read sent ahead keeps it
until it is the oldest; the answer to a discarded read is dropped. -/
def State.threadAnswer (s : State) (t tag : Nat) (a : Answer) : State :=
  match (s.thread t).pend with
  | some ⟨_, tag', .load rd rc tol sx size _⟩ =>
    if tag' = tag then
      ((s.setThread t { s.thread t with pend := none }).loadDone t rd rc tol sx size a) else s.specAnswer t tag a
  | some ⟨_, tag', .other rc tol⟩ =>
    if tag' = tag then ((s.setThread t { s.thread t with pend := none }).otherDone t rc tol a) else s.specAnswer t tag a
  | none => s.specAnswer t tag a

/-- ANSWER_ARRIVAL (R164, R175): one that nothing of the thread waits for is discarded and counted (R241). -/
def execAnswerArrival (t : Fin 4) (tag : BitVec 8) (a : Answer) (s : State) : Host.Outcome State Fault Refusal :=
  let s := s.quiet
  match s.takeAnswer (threadNode t.val) tag.toNat a with
  | some s => .next (s.threadAnswer t.val tag.toNat a)
  | none => .next (s.lateDrop (nodeStation (threadNode t.val)))

/-- The answer to a posted effect reaches thread t. -/
def State.postedAnswer (s : State) (t tag : Nat) (a : Answer) : State :=
  match (s.thread t).posted.find? (fun e => e.1 == tag) with
  | some e => (s.setThread t { s.thread t with posted := (s.thread t).posted.erase e }).postedDone t e.2.1 a.code
  | none => s

/-- POSTED_ANSWER (R175, R181). -/
def execPostedAnswer (t : Fin 4) (tag : BitVec 8) (a : Answer) (s : State) : Host.Outcome State Fault Refusal :=
  let s := s.quiet
  match s.takeAnswer (threadNode t.val) tag.toNat a with
  | some s => .next (s.postedAnswer t.val tag.toNat a)
  | none => .next (s.lateDrop (nodeStation (threadNode t.val)))

end Sys2Proof.Machine
end

