-- ==== Sys2Proof/Machine/Actions.lean ====
section
/-! DEFINITION. The instructions of threads that act on the rest of the device (05_paeri_isa.md, R176 to R187; locked
sequences, R148 to R152): region commands, couriers, events, locks, mirrors, snapshots, trace, power, watchdog, exit. -/

namespace Sys2Proof.Machine

/-! ## Region commands (R141, R146, R176) -/

/-- A command of thread t enters the region command path, a swap or STOP armed for boundary bno (R128, R141). -/
def State.enterPath (s : State) (t n : Nat) (kind : RCmdKind) (bno : Nat) : State :=
  { s with rpath := s.rpath ++ [.cmd n ⟨kind, .thread (Fin.ofNat 4 t)⟩ bno] }

/-- A region command commits (R141, R164, R176, R181): it enters the path, or the buffer of a locked sequence. -/
def State.regionOp (s : State) (t n : Nat) (kind : RCmdKind) : State :=
  if s.locked t then s.buffer t (.region n kind) fun s => s.commit t
  else
    let s := match kind with | .swap _ | .stop => s.lateArm n (.thread (Fin.ofNat 4 t)) | _ => s
    (s.enterPath t n kind (s.armTarget n)).commit t

/-- FILL (R176). -/
def execFillInsn (t : Fin 4) (s : State) : Host.Outcome State Fault Refusal :=
  .next (s.quiet.oldest t.val (· == .fill) fun i s => s.consuming t.val [i.ra, i.rb] fun s =>
    s.regionOp t.val (i.regionIdx (s.reg t.val i.ra)) (.fill (i.planeIdx (s.reg t.val i.rb)) false))
/-- SWAP (R176). -/
def execSwapInsn (t : Fin 4) (s : State) : Host.Outcome State Fault Refusal :=
  .next (s.quiet.oldest t.val (· == .swap) fun i s => s.consuming t.val [i.ra, i.rb] fun s =>
    s.regionOp t.val (i.regionIdx (s.reg t.val i.ra)) (.swap (i.planeIdx (s.reg t.val i.rb))))
/-- STOP (R176). -/
def execStopInsn (t : Fin 4) (s : State) : Host.Outcome State Fault Refusal :=
  .next (s.quiet.oldest t.val (· == .stop) fun i s => s.consuming t.val [i.ra] fun s =>
    s.regionOp t.val (i.regionIdx (s.reg t.val i.ra)) .stop)
/-- RCMD HOLD (R176): sets hold source SEQ. -/
def execRcmdHold (t : Fin 4) (s : State) : Host.Outcome State Fault Refusal :=
  .next (s.quiet.oldest t.val (· == .rcmdHold) fun i s => s.consuming t.val [i.ra] fun s =>
    s.regionOp t.val (i.regionIdx (s.reg t.val i.ra)) .hold)
/-- RCMD RELEASE (R176): clears hold source SEQ. -/
def execRcmdRelease (t : Fin 4) (s : State) : Host.Outcome State Fault Refusal :=
  .next (s.quiet.oldest t.val (· == .rcmdRelease) fun i s => s.consuming t.val [i.ra] fun s =>
    s.regionOp t.val (i.regionIdx (s.reg t.val i.ra)) .release)
/-- RCMD CANCEL_FILL (R176). -/
def execRcmdCancelFill (t : Fin 4) (s : State) : Host.Outcome State Fault Refusal :=
  .next (s.quiet.oldest t.val (· == .rcmdCancel) fun i s => s.consuming t.val [i.ra] fun s =>
    s.regionOp t.val (i.regionIdx (s.reg t.val i.ra)) .cancelFill)

/-- A PRE that issued speculatively commits (R102, R146, R177): still on the path, it goes on as a fill; arrived, its fill is
no longer speculative and the restore record is dropped; refused, the refusal is recorded. -/
def State.preCommits (s : State) (t seq n p : Nat) (refused : Option Nat) : State :=
  let mine := fun (c : PathCmd) => match c with
    | .spec m q u k => m == n && q == p && u == t && k == seq
    | _ => false
  if s.rpath.any mine then
    ({ s with rpath := s.rpath.map fun c => if mine c then .cmd n ⟨.fill p true, .thread (Fin.ofNat 4 t)⟩ 0 else c } :
      State).commit t
  else match refused with
    | some code => (s.threadRefuse t 1 code n false).commit t
    | none =>
      let s := if s.rd (R.REGION_STATUS_SHADOW_PLANE n) = p then s.clr (R.REGION_STATUS_SHADOW_SPEC n) else s
      (s.dropRestore n).commit t

/-- PRE as the oldest instruction (R146, R176): one that issued speculatively commits; another acts as FILL. -/
def State.preOldest (s : State) (t : Nat) : State :=
  s.oldest t (· == .pre) fun i s => s.consuming t [i.ra, i.rb] fun s =>
    match s.specOf t (s.thread t).commits with
    | some (.pre seq n p refused) => s.preCommits t seq n p refused
    | _ => s.regionOp t (i.regionIdx (s.reg t i.ra)) (.fill (i.planeIdx (s.reg t i.rb)) true)

/-- PRE at slot k > 0 of the window (R146): it issues speculatively when no older uncommitted instruction names its region
and no swap of the region is still to be performed. -/
def State.preAhead (s : State) (t k : Nat) : State :=
  match s.window t k with
  | none => s
  | some w =>
    match s.slotInsn t k w with
    | some (i, .pre) =>
      let s := s.issueBelow t k
      let seq := (s.thread t).commits + k
      let n := i.regionIdx (w.reg i.ra)
      let p := i.planeIdx (w.reg i.rb)
      if !(w.has i.ra && w.has i.rb) || w.tag i.ra || w.tag i.rb || w.regions.contains n || s.swapPending n ||
          (s.specOf t seq).isSome then s
      else
        let s := s.setThread t { s.thread t with spec := (s.thread t).spec ++ [.pre seq n p none] }
        { s with rpath := s.rpath ++ [.spec n p t seq] }
    | _ => s

/-- PRE (R146, R176) at slot k of the window. -/
def execPre (t : Fin 4) (k : Fin 24) (s : State) : Host.Outcome State Fault Refusal :=
  .next (if k.val = 0 then s.quiet.preOldest t.val else s.quiet.preAhead t.val k.val)

/-! ## Couriers and snapshots (R178, R184) -/

/-- The node write of an 8-byte number to a node of this device (R178, R184, R235). -/
def State.ownNodeWrite (s : State) (node v : Nat) : Access := ⟨.nwr, s.rd R.NET_CFG_DEV_NUM, node, 0, 8, leBytes 8 v, 0⟩

/-- The request that starts courier c of this device on a descriptor (R259). -/
def State.courierRequest (s : State) (c addr : Nat) : Access := s.ownNodeWrite (courierNode c) addr

/-- CSTART (R178, R181): sends the descriptor's address to the courier and commits when it answers; buffered inside a locked
sequence. -/
def execCstart (t : Fin 4) (s : State) : Host.Outcome State Fault Refusal :=
  let t := t.val
  .next (s.quiet.oldest t (· == .cstart) fun i s => s.consuming t [i.ra, i.rb] fun s =>
    let c := i.courierIdx (s.reg t i.ra)
    let addr := (s.reg t i.rb).toNat
    let tol := i.fn.testBit 3
    if s.locked t then
      s.buffer t (.cstart c addr (s.tpc t)) fun s => (if tol then s.setReg t i.rc 0 false else s).commit t
    else s.sendOldest t (s.courierRequest c addr) (.other i.rc tol))

/-- Node of the snapshot engine (R232). -/
def snapNode : Nat := 0x014

/-- The snapshot engine takes a thread's request (R184, R374): DENIED while an earlier one is pending or in transfer; a
destination that is not 64-byte aligned is answered DECODE (log entry 20); otherwise it is captured at the boundary that ends
the tick. -/
def State.snapAsk (s : State) (dest : Nat) : State × Resp :=
  if s.is1 R.SNAP_CTL_BUSY then (s, .denied)
  else if dest % 64 ≠ 0 then (s, .decode)
  else (({ s with snapReq := some ⟨dest, none⟩ } : State).set1 R.SNAP_CTL_BUSY, .ok)

/-- The snapshot engine takes the request that thread t sent under a tag, and answers it (R184). -/
def State.snapAnswer (s : State) (t tag dest : Nat) : State :=
  let r := s.snapAsk dest
  r.1.reply ⟨⟨s.rd R.NET_CFG_DEV_NUM, threadNode t⟩, tag, s.ownNodeWrite snapNode dest⟩ r.2

/-- SNAP (R181, R184): sends the destination to the snapshot engine and commits when it answers. -/
def execSnap (t : Fin 4) (s : State) : Host.Outcome State Fault Refusal :=
  let t := t.val
  .next (s.quiet.oldest t (· == .snap) fun i s => s.consuming t [i.rb] fun s =>
    let dest := (s.reg t i.rb).toNat
    let tol := i.fn.testBit 3
    if s.locked t then
      s.buffer t (.snap dest (s.tpc t)) fun s => (if tol then s.setReg t i.rc 0 false else s).commit t
    else if !(s.maySend (threadNode t)) then s
    else (s.sendOldest t (s.ownNodeWrite snapNode dest) (.other i.rc tol)).snapAnswer t (s.freeTag (threadNode t)) dest)

/-! ## Events, mirrors, trace, power, watchdog (R179, R183, R185 to R187) -/

/-- Commit events on several lines in one cycle (R179). -/
def State.signals (s : State) (lines : List Nat) : State := s.each lines State.commitEvent

/-- The lines that EVTM names (R179). -/
def evtmLines (i : Insn) (b : Word) : List Nat :=
  (indicesWith 64 fun k => b.toNat.testBit k).map fun k => 64 * (i.imm % 4) + k

/-- EVT (R179, R181). -/
def execEvt (t : Fin 4) (s : State) : Host.Outcome State Fault Refusal :=
  let t := t.val
  .next (s.quiet.oldest t (· == .evt) fun i s => s.consuming t [i.ra] fun s =>
    let line := i.lineIdx (s.reg t i.ra)
    if s.locked t then s.buffer t (.events [line]) fun s => s.commit t else (s.signals [line]).commit t)

/-- EVTM (R179, R181): one place of the buffer; no line for RB 0. -/
def execEvtm (t : Fin 4) (s : State) : Host.Outcome State Fault Refusal :=
  let t := t.val
  .next (s.quiet.oldest t (· == .evtm) fun i s =>
    let lines := evtmLines i (s.reg t i.rb)
    if s.locked t then s.buffer t (.events lines) fun s => s.commit t else (s.signals lines).commit t)

/-- The device is the primary of an active twin pair (R183, R358). -/
def State.isPrimary (s : State) : Bool := s.rd R.TWIN_CTL_STATE == 3

/-- The state of thread t as a mirror captures it (R361). -/
def State.capture (s : State) (t : Nat) : Capt :=
  ⟨(s.thread t).regs, (s.thread t).tags, s.is1 (R.SEQ_THR_OVR_OWED t)⟩

/-- MIRR FN 0x0 takes effect: the last one of the tick stands (R183). -/
def State.mirrorThread (s : State) (t : Nat) : State :=
  if s.isPrimary then { s with mirr := { s.mirr with threads := storeSet none t (some (s.capture t)) s.mirr.threads } } else s
/-- MIRR FN 0x1 takes effect (R183). -/
def State.mirrorRegion (s : State) (n : Nat) : State :=
  if s.isPrimary && !(s.mirr.regions.contains n) then { s with mirr := { s.mirr with regions := s.mirr.regions ++ [n] } }
  else s
/-- MIRR FN 0x2 takes effect (R183). -/
def State.mirrorBank (s : State) (b : Nat) : State :=
  if s.isPrimary && !(s.mirr.banks.contains b) then { s with mirr := { s.mirr with banks := s.mirr.banks ++ [b] } } else s

/-- MIRR FN 0x0 (R183). -/
def execMirrThread (t : Fin 4) (s : State) : Host.Outcome State Fault Refusal :=
  let t := t.val
  .next (s.quiet.oldest t (· == .mirrThread) fun _ s =>
    if s.locked t then s.buffer t .mirrThread fun s => s.commit t else (s.mirrorThread t).commit t)
/-- MIRR FN 0x1 (R183). -/
def execMirrRegion (t : Fin 4) (s : State) : Host.Outcome State Fault Refusal :=
  let t := t.val
  .next (s.quiet.oldest t (· == .mirrRegion) fun i s => s.consuming t [i.ra] fun s =>
    let n := i.regionIdx (s.reg t i.ra)
    if s.locked t then s.buffer t (.mirrRegion n) fun s => s.commit t else (s.mirrorRegion n).commit t)
/-- MIRR FN 0x2 (R183). -/
def execMirrBank (t : Fin 4) (s : State) : Host.Outcome State Fault Refusal :=
  let t := t.val
  .next (s.quiet.oldest t (· == .mirrBank) fun i s => s.consuming t [i.ra] fun s =>
    let b := i.bankIdx (s.reg t i.ra)
    if s.locked t then s.buffer t (.mirrBank b) fun s => s.commit t else (s.mirrorBank b).commit t)

/-- A thread's write to an enabled stimulus port (R185, R489). -/
def State.emitStim (s : State) (t port : Nat) (v : Word) (tag : Bool) : State :=
  if s.stimOn port then s.stimulus port v.toNat 8 tag (threadNode t) else s

/-- EMIT (R185, R181): RB with its tag goes to the stimulus port; nothing where the port is not enabled. -/
def execEmit (t : Fin 4) (s : State) : Host.Outcome State Fault Refusal :=
  let t := t.val
  .next (s.quiet.oldest t (· == .emit) fun i s => s.consuming t [i.ra] fun s =>
    let port := i.lineIdx (s.reg t i.ra)
    if s.locked t then s.buffer t (.stim port (s.reg t i.rb) (s.tag t i.rb)) fun s => s.commit t
    else (s.commit t).emitStim t port (s.reg t i.rb) (s.tag t i.rb))

/-- PWR (R186, R181): the request enters the region command path. -/
def State.powerOp (s : State) (t : Nat) (on : Bool) : State :=
  s.oldest t (· == if on then .pwrOn else .pwrOff) fun i s => s.consuming t [i.ra] fun s =>
    let d := i.domIdx (s.reg t i.ra)
    if s.locked t then s.buffer t (.pwr d on) fun s => s.commit t
    else ({ s with rpath := s.rpath ++ [.pwr d on t] } : State).commit t
/-- PWR ON (R186). -/
def execPwrOn (t : Fin 4) (s : State) : Host.Outcome State Fault Refusal := .next (s.quiet.powerOp t.val true)
/-- PWR OFF (R186). -/
def execPwrOff (t : Fin 4) (s : State) : Host.Outcome State Fault Refusal := .next (s.quiet.powerOp t.val false)

/-- KICK (R153, R187, R181): the watchdog is reloaded. -/
def execKick (t : Fin 4) (s : State) : Host.Outcome State Fault Refusal :=
  let t := t.val
  .next (s.quiet.oldest t (· == .kick) fun _ s =>
    if s.locked t then s.buffer t .kick fun s => s.commit t else (s.wdtLoad t).commit t)

/-- EXIT (R187): the thread is OFF at its commit; inside a locked sequence it faults (R181). -/
def execExit (t : Fin 4) (s : State) : Host.Outcome State Fault Refusal :=
  let t := t.val
  .next (s.quiet.oldest t (· == .exit) fun _ s => s.unlockedOnly t fun s =>
    let s := s.setThread t { s.thread t with commits := (s.thread t).commits + 1 }
    (s.setTpc t (nextPc (s.tpc t))).threadOff t)

/-! ## Locked sequences (R148 to R152, R181, R182) -/

/-- LOCK (R148, R151): registers and tags of this moment are kept; inside a locked sequence it faults. -/
def execLock (t : Fin 4) (s : State) : Host.Outcome State Fault Refusal :=
  let t := t.val
  .next (s.quiet.oldest t (· == .lock) fun _ s => s.unlockedOnly t fun s =>
    let x := s.thread t
    let s := s.setThread t { x with lock := some ⟨s.tpc t, x.regs, x.tags, []⟩ }
    (s.set1 (R.SEQ_THR_STATUS_LOCKED t)).commit t)

/-- The regions that the swaps and STOPs of a group name (R182). -/
def groupRegions (es : List Effect) : List Nat :=
  es.filterMap fun e => match e with
    | .region n (.swap _) => some n
    | .region n .stop => some n
    | _ => none

/-- The boundary for which a group arms (R182): the next one that every region of it still reaches. -/
def State.groupTarget (s : State) (ns : List Nat) : Nat :=
  if s.noBoundary then 0 else s.tickGen.bno + (if ns.any fun n => (s.region n).decided then 2 else 1)

/-- Release one buffered effect at UNLOCK (R149, R181). -/
def State.release (s : State) (t bno : Nat) : Effect → State
  | .write addr size data p pc =>
    if localDecode addr size then s.postedDone t pc .decode
    else s.sendPosted t pc ⟨.wr, 0, 0, addr, size, data, p.toNat⟩
  | .cstart c addr pc => s.sendPosted t pc (s.courierRequest c addr)
  | .snap dest pc => (s.sendPosted t pc (s.ownNodeWrite snapNode dest)).snapAnswer t (s.freeTag (threadNode t)) dest
  | .region n kind => s.enterPath t n kind bno
  | .pwr d on => { s with rpath := s.rpath ++ [.pwr d on t] }
  | .events lines => s.signals lines
  | .mirrThread => s.mirrorThread t
  | .mirrRegion n => s.mirrorRegion n
  | .mirrBank b => s.mirrorBank b
  | .stim port v p => s.emitStim t port v p
  | .kick => s.wdtLoad t

/-- The effect sends a request when it is released. -/
def Effect.sends : Effect → Bool
  | .write addr size _ _ _ => !(localDecode addr size)
  | .cstart _ _ _ | .snap _ _ => true
  | .region _ _ | .pwr _ _ | .events _ | .mirrThread | .mirrRegion _ | .mirrBank _ | .stim _ _ _ | .kick => false

/-- UNLOCK (R149, R182): all buffered effects are released in program order; the group's swaps and STOPs arm for one boundary, and a late group counts
once. It waits until every request that it sends has a free tag (R252). Outside a locked sequence it faults with ILLEGAL (R181). -/
def execUnlock (t : Fin 4) (s : State) : Host.Outcome State Fault Refusal :=
  let t := t.val
  .next (s.quiet.oldest t (· == .unlock) fun _ s =>
    match (s.thread t).lock with
    | none => s.threadFault t .illegal (s.tpc t)
    | some l =>
      if !(s.mayTag (threadNode t) (l.effects.filter Effect.sends).length) then s else
      let ns := groupRegions l.effects
      let bno := s.groupTarget ns
      let late := !s.noBoundary && ns.any fun n => (s.region n).decided
      let s := if late then s.bump (R.SEQ_THR_SPEC_LATE_ARM t) else s
      let s := l.effects.foldl (fun s e => s.release t bno e) s
      (s.dropLock t).commit t)

end Sys2Proof.Machine
end

