-- ==== Sys2Proof/Machine/NetRoute.lean ====
section
/-! DEFINITION. Routing (08_olicor_network.md, R230 to R246; 01_stack.md, R27): which station lies behind an output, where an
address-routed request goes, the size rules of R236, and the slice hash of R265. -/

namespace Sys2Proof.Machine

/-! ## Stations, inputs and outputs -/

/-- Where a buffer is kept: station, input, virtual network. -/
def bufKey (n input vn : Nat) : Nat := (32 * n + input) * 4 + vn
/-- A waystation input buffer. -/
def State.buf (s : State) (k : Nat) : NetBuf := storeGet {} k s.bufs
/-- Replace a waystation input buffer. -/
def State.setBuf (s : State) (k : Nat) (x : NetBuf) : State := { s with bufs := storeSet {} k x s.bufs }

/-- Flits that an input buffer holds (R239, R29): 8 for a port, 16 for a link, 8 in a transit station. -/
def bufSize (input : Nat) : Nat := if input < 16 then 8 else if input < 26 then 16 else 8

/-- Flits of a packet (R233). -/
def packetFlits (p : Packet) : Nat := 1 + p.len

/-- Flits of a buffer whose credits the sender does not hold (R239). -/
def NetBuf.used (x : NetBuf) : Nat := x.gone + (x.pkts.map fun f => packetFlits f.pkt).sum

/-- The input is the port of a link (R232). -/
def linkPort (n port : Nat) : Bool := n < 24 && port == 0

/-- The sender holds credits for the whole packet (R239); the port of a link has the depth that it advertises (R344). -/
def State.hasRoom (s : State) (n input vn : Nat) (p : Packet) : Bool :=
  (s.buf (bufKey n input vn)).used + packetFlits p ≤ (if linkPort n input then 16 else bufSize input)

/-- A packet enters a buffer. -/
def State.pushBuf (s : State) (n input vn : Nat) (f : Flight) : State :=
  let x := s.buf (bufKey n input vn)
  s.setBuf (bufKey n input vn) { x with pkts := x.pkts ++ [f] }

/-- The oldest packet leaves a buffer: its credits are to be returned (R240). -/
def State.popBuf (s : State) (n input vn : Nat) : State :=
  let x := s.buf (bufKey n input vn)
  match x.pkts with
  | [] => s
  | f :: fs => s.setBuf (bufKey n input vn) { pkts := fs, gone := x.gone + packetFlits f.pkt }

/-- RESET records leave, each on its lane group (R375; log entry 272), while the engine has a tag and its port's input buffer room for one. -/
def State.resetOut (s : State) (g id : Nat) : State :=
  let a : Access := ⟨.nwr, s.rd (R.LINK_STAT_PARTNER_DEV g), 0x015, 8 * 2 ^ 40, 8, leBytes 8 id, 0⟩
  let tag := s.freeTag 0x015
  let p := requestPacket (s.rd R.NET_CFG_DEV_NUM) 0x015 tag a
  if s.maySend 0x015 && s.hasRoom 1 5 0 p then
    ({ s with outst := s.outst ++ [⟨0x015, tag, accessSpace a, none, false, false⟩],
              twin := { s.twin with resets := s.twin.resets.erase (g, id) } } : State).pushBuf 1 5 0 ⟨some (nodeId 0 g 0), p⟩
  else s
/-- The RESET records that wait are sent, as far as they can be. -/
def State.resetsOut (s : State) : State := s.twin.resets.foldl (fun s e => s.resetOut e.1 e.2) s

/-- Flits that entered and left a buffer at once, as those of a packet that its ingress answers or discards: their credits are to be returned (R240,
R344). System packets of a link use no credits. -/
def State.freeFlits (s : State) (n input vn : Nat) (p : Packet) : State :=
  if linkPort n input && vn == 2 then s
  else
    let x := s.buf (bufKey n input vn)
    s.setBuf (bufKey n input vn) { x with gone := x.gone + packetFlits p }

/-- Credits of an input buffer that go back with the next flit, at most 8 (R234, R240). -/
def State.owed (s : State) (n input vn : Nat) : Nat := min 8 (s.buf (bufKey n input vn)).gone

/-- The header flit of a packet that leaves station n toward what feeds input `input`, with the credits of that input (R240). -/
def State.flitWith (s : State) (n input : Nat) (p : Packet) : Nat :=
  headerFlit p + creditFields (s.owed n input 0) (s.owed n input 1) (s.owed n input 2)

/-- The credits of an input that the next flit carries have gone back. -/
def State.payCredits (s : State) (n input : Nat) : State :=
  s.each (List.range 3) fun s vn =>
    let x := s.buf (bufKey n input vn)
    if x.gone = 0 then s else s.setBuf (bufKey n input vn) { x with gone := x.gone - min 8 x.gone }

/-- The input of a station by which packets come from where output code c leads (R246): 1 to 4 the mesh neighbours, 5 to 10 the layers. -/
def inputFrom (c : Nat) : Nat := 15 + c

/-- The vertical links of R27 from station k of layer a to layer b: the station at the other end, and whether it is relayed. -/
def vertical (a b k : Nat) : Option (Nat × Bool) :=
  match min a b, max a b with
  | 0, 1 | 0, 2 | 1, 4 | 2, 4 | 2, 5 => some (k, false)
  | 0, 3 | 2, 3 => if k < 16 then some (k, false) else none
  | 0, 4 => if k < 8 then some (k, true) else none
  | 0, 5 => if a = 0 then (if 8 ≤ k ∧ k < 16 then some (k - 8, true) else none)
            else (if k < 8 then some (k + 8, true) else none)
  | 1, 5 => some (k, true)
  | _, _ => none

/-- Columns of a layer's mesh (R231). -/
def meshWidth (layer : Nat) : Nat := if layer = 3 then 4 else 8

/-- The station and input behind output code c (0x1 to 0xA) of station n (R246): none where the station has no such link. A
relayed link leads to the transit buffer ahead of the receiver's input. -/
def behind (n c : Nat) : Option (Nat × Nat) :=
  let a := n / 32
  let k := n % 32
  let w := meshWidth a
  match c with
  | 1 => if k % w + 1 < w then some (n + 1, 17) else none
  | 2 => if 0 < k % w then some (n - 1, 16) else none
  | 3 => if k / w + 1 < 4 then some (n + w, 19) else none
  | 4 => if 0 < k / w then some (n - w, 18) else none
  | _ =>
    if 5 ≤ c ∧ c ≤ 10 then
      match vertical a (c - 5) k with
      | some (k', relay) => some (32 * (c - 5) + k', (if relay then 26 else 20) + a)
      | none => none
    else none

/-- The link inputs of station n: those from which a mark must come before it reports (R250). -/
def linkInputs (n : Nat) : List Nat :=
  let a := n / 32
  let k := n % 32
  let w := meshWidth a
  (if k % w + 1 < w then [16] else []) ++ (if 0 < k % w then [17] else []) ++
  (if k / w + 1 < 4 then [18] else []) ++ (if 0 < k / w then [19] else []) ++
  ((List.range 6).filter fun b => (vertical a b k).isSome).map (20 + ·)

/-- The station at the other end of a link input (R231, R27). -/
def upstream (n input : Nat) : Option Nat :=
  let w := meshWidth (n / 32)
  match input with
  | 16 => some (n + 1) | 17 => some (n - 1) | 18 => some (n + w) | 19 => some (n - w)
  | _ =>
    if 20 ≤ input ∧ input < 26 then (vertical (n / 32) (input - 20) (n % 32)).map fun v => 32 * (input - 20) + v.1 else none

/-- Larder slice k is in service (R38). -/
def State.sliceIn (s : State) (k : Nat) : Bool := s.bit (R.STACK_SLICE_MAP_IN_SERVICE (k / 32)) (k % 32)
/-- Scratchpad bank b is in service (R38); before the repair load no map is known and none is mapped out (R37). -/
def State.bankIn (s : State) (b : Nat) : Bool := !s.stackLoaded || s.bit (R.STACK_BANK_MAP_IN_SERVICE (b / 32)) (b % 32)

/-- Entry for destination station d in bank b of station n's route table (R246). -/
def rtFld (n b d : Nat) : Fld :=
  let i := d / 8
  match d % 8 with
  | 0 => R.WS_RT_D0 n b i | 1 => R.WS_RT_D1 n b i | 2 => R.WS_RT_D2 n b i | 3 => R.WS_RT_D3 n b i
  | 4 => R.WS_RT_D4 n b i | 5 => R.WS_RT_D5 n b i | 6 => R.WS_RT_D6 n b i | _ => R.WS_RT_D7 n b i

/-! ## The slice hash (R265, R266) -/

/-- Rotate a 12-bit value left. -/
def rotl12 (x r : Nat) : Nat := ((x <<< r) ||| (x >>> (12 - r))) % 4096

/-- f of R265 for the line of an address. -/
def hashF (salt addr : Nat) : Nat :=
  let l := addr / 128 % 2 ^ 35
  let c0 := l % 4096
  let c1 := l / 4096 % 4096
  let c2 := l / 2 ^ 24 % 2048
  c0 ^^^ rotl12 c1 (salt % 16 % 12) ^^^ rotl12 c2 (salt / 16 % 16 % 12) ^^^ (salt / 256 % 4096)

/-- The set of a line (R265). -/
def hashSet (addr : Nat) : Nat := addr / 2 ^ 14 % 2 ^ 28 % 3072

/-- The slice set in ascending order (R266). -/
def State.sliceSet (s : State) : List Nat := indicesWith 128 s.inSliceSet

/-- The slice that serves an address: entry f of the slice table is member f mod S (R265, R266). -/
def State.sliceOf (s : State) (addr : Nat) : Option Nat :=
  let m := s.sliceSet
  m[hashF s.larder.salt addr % m.length]?

/-! ## Local decode (R243, R244) -/

/-- What local address a (44 bits) decodes to below the remote windows (R243): its node, or none for DECODE. -/
def State.localNode (s : State) (a : Nat) : Option Nat :=
  if a < 0x30000000000 then (s.sliceOf a).map sliceNode
  else if 0x40000000000 ≤ a ∧ a < 0x40010000000 then some (bankNode ((a - 0x40000000000) / 0x20000))
  else if 0x50000000000 ≤ a ∧ a < 0x50006000000 then
    let n := (a - 0x50000000000) / 0x180000
    some (nodeId (1 + n / 32) (n % 32) 4)
  else if 0x60000000000 ≤ a ∧ a < 0x60008000000 then csrNode (a - 0x60000000000)
  else none

/-- The address-routed decode of R243 and R244 at an ingress: the packet with its destination, or none for DECODE. A request that
a window sends to this device is decoded once more as though it had arrived; at most 16 windows are followed (log entry 46). -/
def State.decodeAddr (s : State) : Nat → Packet → Option Packet
  | 0, _ => none
  | k + 1, p =>
    let me := s.rd R.NET_CFG_DEV_NUM
    if p.dstDev ≠ me then
      if s.is1 (R.DEV_ROUTE_EN p.dstDev) then some p else none
    else if p.addr / 2 ^ 44 ≠ p.dstDev then none
    else
      let a := p.addr % 2 ^ 44
      if a < 2 ^ 43 then (match s.localNode a with | some n => some { p with dstNode := n } | none => none)
      else
        let w := (a - 2 ^ 43) / 2 ^ 39
        if s.is1 (R.REMOTE_WIN_EN w) then
          let dev := s.rd (R.REMOTE_WIN_DEV w)
          let wire := dev * 2 ^ 44 + s.rd (R.REMOTE_WIN_BASE w) * 2 ^ 39 + a % 2 ^ 39
          s.decodeAddr k { p with dstDev := dev, dstNode := 0, addr := wire }
        else none

/-! ## The access rules (R235, R236) -/

/-- The request operation that an OPCODE names (R235). -/
def reqOp : Nat → Option ReqOp
  | 0x10 => some .rd | 0x11 => some .wr | 0x18 => some .nrd | 0x19 => some .nwr | _ => none

/-- The size rules of R236 for a read. -/
def readSizeOk (addr size : Nat) : Bool :=
  (size == 1 || size == 2 || size == 4 || size == 8 || size == 16 || size == 32 || size == 64 || size == 128) &&
  addr % size == 0
/-- The size rules of R236 for a write. -/
def writeSizeOk (addr size : Nat) : Bool := 1 ≤ size && addr % 128 + size ≤ 128

/-- A request packet meets R236. -/
def packetSizeOk (p : Packet) : Bool :=
  match reqOp p.op with
  | some .rd | some .nrd => readSizeOk p.addr p.size && p.byteEn == 0 && p.len == 0
  | some .wr | some .nwr =>
    writeSizeOk p.addr p.size && p.byteEn == byteEnable p.addr p.size && p.len == (p.addr % 8 + p.size + 63) / 64
  | none => false

/-- The request that a packet carries. -/
def packetRequest (p : Packet) : Request :=
  ⟨⟨p.srcDev, p.srcNode⟩, p.tag,
   ⟨(reqOp p.op).getD .rd, p.dstDev, p.dstNode, p.addr, p.size, (p.data.drop (p.addr % 8)).take
     (if p.len = 0 then 0 else p.size), p.poison⟩⟩

/-- The node by which a packet that enters is routed here (R244): the link port of its device's entry, or its destination node; none where
the device's entry is not enabled. A system packet stays inside the device (R242). -/
def State.routeNode (s : State) (p : Packet) : Option Nat :=
  if p.vn = .sys ∨ p.dstDev = s.rd R.NET_CFG_DEV_NUM then some p.dstNode
  else if s.is1 (R.DEV_ROUTE_EN p.dstDev) then some (nodeId 0 (s.rd (R.DEV_ROUTE_GROUP p.dstDev)) 0) else none

/-! ## Endpoints (R232) -/

/-- A port of a waystation serves an endpoint (R232); 0x008, the network controller, takes system packets only. -/
def endpointAt (n port : Nat) (req : Bool) : Bool :=
  let a := n / 32
  let k := n % 32
  (port == 15 && k == 0) ||
  match a with
  | 0 => (port == 0 && k < 24) || (port == 1 && k < 12) || port == 2 || (k == 0 && 4 ≤ port && port ≤ 7) ||
         (k == 0 && port == 8 && !req) || (k == 1 && (port == 4 || port == 5)) || ((k == 2 || k == 3) && port == 4)
  | 1 | 2 => port ≤ 4
  | 3 => (port == 0 && k < 16) || (port == 1 && k < 4)
  | _ => port ≤ 2 || (port == 3 && k == 0)

/-- The switched domain of an endpoint (R386): regions, configuration domains, larder quarters, link groups. -/
def endpointDomain (n port : Nat) : Option Nat :=
  let a := n / 32
  let k := n % 32
  match a with
  | 0 => if port = 0 ∧ k < 24 then some (88 + k) else none
  | 1 | 2 => if port ≤ 4 then some (32 * (a - 1) + k) else none
  | 3 => if port = 0 ∧ k < 16 then some (64 + k) else none
  | _ => if port ≤ 1 then some (80 + (64 * (a - 4) + 2 * k + port) / 16) else none

/-- The unit behind a port is mapped out (R38). -/
def State.endpointOut (s : State) (n port : Nat) : Bool :=
  let a := n / 32
  let k := n % 32
  s.dieOut a ||
  match a with
  | 1 | 2 => port ≤ 4 && s.unusable (32 * (a - 1) + k)
  | 4 | 5 => port ≤ 1 && s.stackLoaded && !(s.sliceIn (64 * (a - 4) + 2 * k + port))
  | _ => false

/-- The unit behind a port is with the test engine (R457). -/
def State.endpointTested (s : State) (n port : Nat) : Bool :=
  let a := n / 32
  let k := n % 32
  let t := fun u => s.underTest.contains u || s.keptByTest.contains u
  match a with
  | 1 | 2 => port == 4 && t (.bram (32 * (a - 1) + k))
  | 3 => port == 0 && t (.config k)
  | 4 | 5 => port ≤ 1 && t (.slice (64 * (a - 4) + 2 * k + port))
  | _ => false

/-! ## Scratchpad banks: which bank, which port (R279 to R281) -/

/-- Bank b. -/
def State.bank (s : State) (b : Nat) : Bank := storeGet {} b s.banks
/-- Replace bank b. -/
def State.setBank (s : State) (b : Nat) (x : Bank) : State := { s with banks := storeSet {} b x s.banks }

/-- Where a request goes: the bank, port B, the rotation, the position, and whether a reserved offset bit is set. -/
structure BankAt where
  b    : Nat
  portB : Bool
  rot  : Nat
  pos  : Nat
  resv : Bool
  deriving DecidableEq, Repr

/-- Where a request to a bank goes (R280); none: it is no request to a bank. -/
def bankAt (a : Access) : Option BankAt :=
  match a.op with
  | .rd | .wr =>
    let l := a.addr % 2 ^ 44
    if 0x40000000000 ≤ l ∧ l < 0x40010000000 then
      some ⟨(l - 0x40000000000) / 0x20000, false, 0, (l - 0x40000000000) % 0x20000, false⟩
    else none
  | .nrd | .nwr =>
    let layer := a.dstNode / 512
    if (layer = 4 ∨ layer = 5) ∧ a.dstNode % 16 = 2 then
      some ⟨1024 * (layer - 4) + 32 * (a.dstNode / 16 % 32) + a.addr / 2 ^ 17 % 32, a.addr.testBit 22, a.addr / 2 ^ 23 % 64,
        a.addr % 2 ^ 17, decide (2 ^ 29 ≤ a.addr)⟩
    else none

/-- Requests that wait at a port of a bank. -/
def State.bankQueued (s : State) (b : Nat) (portB : Bool) : Nat :=
  (((s.bank b).accepted ++ (s.bank b).waiting).filter fun rq => match bankAt rq.acc with | some x => x.portB == portB | none => false).length

/-- Requests delivered to a port of a bank and not answered, or waiting there. -/
def State.bankLoad (s : State) (station : Nat) (x : BankAt) : Nat :=
  max (s.bankQueued x.b x.portB) ((s.deliv.filter fun e => e.station == station && e.port == 2 &&
    (match bankAt e.rq.acc with | some y => y.b == x.b && y.portB == x.portB | none => false)).length)

/-- The endpoint behind a port withholds credit: a port of the bank holds 8 requests (R281), or the queue of a region port is full (R78). -/
def State.endpointFull (s : State) (n port : Nat) (rq : Request) : Bool :=
  match n / 32 with
  | 1 | 2 => decide (port < 4) && decide (16 ≤ (s.port (n - 32) port).inq.length)
  | 4 | 5 => port == 2 && (match bankAt rq.acc with | some x => decide (8 ≤ s.bankLoad n x) | none => false)
  | _ => false

end Sys2Proof.Machine
end

