-- ==== Sys2Proof/Machine/Couriers.lean ====
section
/-! DEFINITION. Couriers (08_olicor_network.md, R258 to R261). -/

namespace Sys2Proof.Machine

/-- Courier c. -/
def State.courier (s : State) (c : Nat) : Courier := storeGet {} c s.couriers
/-- Replace courier c. -/
def State.setCourier (s : State) (c : Nat) (x : Courier) : State := { s with couriers := storeSet {} c x s.couriers }

/-- The states of a courier (COURIER_STAT_c). -/
inductive CState where
  | idle | fetch | move | drain
  deriving DecidableEq, Repr

/-- The code of a courier state. -/
def CState.code : CState → Nat
  | .idle => 0 | .fetch => 1 | .move => 2 | .drain => 3

/-- The state of courier c. -/
def State.cstate (s : State) (c : Nat) : CState :=
  match s.rd (R.COURIER_STAT_STATE c) with
  | 0 => .idle | 1 => .fetch | 2 => .move | _ => .drain
/-- Set the state of courier c. -/
def State.setCstate (s : State) (c : Nat) (x : CState) : State := s.wr (R.COURIER_STAT_STATE c) x.code

/-- The couriers send no new request: the freeze is asserted and COURIER is 1 (R488). -/
def State.courierFrozen (s : State) : Bool := s.is1 R.DBG_FRZ_ASSERT && s.is1 R.DBG_FRZ_COURIER

/-- Reads of a courier in flight (R260, OUTSTANDING): descriptor fetches among them. -/
def Courier.reads (x : Courier) : Nat := (x.reqs.filter fun r => r.kind ≠ .write).length

/-- Courier c sends a request. -/
def State.courierSend (s : State) (c : Nat) (kind : CourKind) (a : Access) : State :=
  let node := courierNode c
  let tag := s.freeTag node
  let x := s.courier c
  (s.setCourier c { x with reqs := x.reqs ++ [⟨tag, kind, a.addr, a.size⟩] }).sendReq node a

/-- The courier ends with a code at an address: it sends nothing more and waits for the answers still outstanding (R261); the
first cause stands. -/
def State.courierStop (s : State) (c : Nat) (code : Resp) (addr : Nat) : State :=
  let x := s.courier c
  if x.stop.isSome then s else (s.setCourier c { x with stop := some (code, addr), ready := [] }).setCstate c .drain

/-- Fetch the descriptor at an address (R258, R259): 64 bytes; an address beyond the local map ends the courier with DECODE. -/
def State.courierFetch (s : State) (c addr : Nat) : State :=
  let s := (s.setCourier c { s.courier c with desc := addr, stop := none }).setCstate c .fetch
  if 2 ^ 44 ≤ addr then s.courierStop c .decode addr
  else if s.courierFrozen || !(s.maySend (courierNode c)) then s
  else s.courierSend c .fetch ⟨.rd, 0, 0, addr, 64, [], 0⟩

/-- The largest size of an access at a source and a destination with so many bytes left: a power of two that divides the source
address, and that neither end lets cross a 128-byte boundary (R236, R260; log entry 48). -/
def courierPiece (src dst left : Nat) : Nat :=
  ([128, 64, 32, 16, 8, 4, 2].find? fun k => src % k == 0 && k ≤ left && dst % 128 + k ≤ 128).getD 1

/-- A courier's pattern byte at a destination address (R258). -/
def patternByte (pattern addr : Nat) : Byte := BitVec.ofNat 8 (pattern >>> (8 * (addr % 8)))

/-- Step past k bytes of the transfer: to the next row at the end of one (R258). -/
def Courier.advance (x : Courier) (k : Nat) : Courier :=
  if x.off + k = x.length then { x with row := x.row + 1, off := 0 } else { x with off := x.off + k }

/-- Send the next access of a moving courier, if one is left and it may be in flight (R260): at most 32 reads, or 32 writes of a
FILL, and a free tag (log entry 48). -/
def State.courierNext (s : State) (c : Nat) : State :=
  let x := s.courier c
  if s.courierFrozen || s.cstate c ≠ .move || x.stop.isSome || x.rows ≤ x.row || 32 ≤ (if x.fill then x.reqs.length else x.reads) ||
      !(s.maySend (courierNode c)) then s
  else
    let src := (x.src + x.row * x.sstride + x.off) % 2 ^ 64
    let dst := (x.dst + x.row * x.dstride + x.off) % 2 ^ 64
    let left := x.length - x.off
    if 2 ^ 44 ≤ dst then s.courierStop c .decode dst
    else if x.fill then
      let k := min left (128 - dst % 128)
      (s.setCourier c (x.advance k)).courierSend c .write
        ⟨.wr, 0, 0, dst, k, (List.range k).map fun i => patternByte x.src (dst + i), 0⟩
    else if 2 ^ 44 ≤ src then s.courierStop c .decode src
    else
      let k := courierPiece src dst left
      (s.setCourier c (x.advance k)).courierSend c (.read dst) ⟨.rd, 0, 0, src, k, [], 0⟩

/-- Send every access that may be in flight. -/
def State.courierIssue (s : State) (c : Nat) : State := (List.range 32).foldl (fun s _ => s.courierNext c) s

/-- Writes that the freeze held back are sent (R488). -/
def State.courierReady (s : State) (c : Nat) : State :=
  if s.courierFrozen then s
  else
    let x := s.courier c
    x.ready.foldl (fun s w => s.courierSend c .write ⟨.wr, 0, 0, w.dst, w.data.length, w.data, w.poison⟩) (s.setCourier c { x with ready := [] })

/-- A courier that the freeze held, or that found no free tag, goes on (R252, R488): it sends the writes held back, fetches the descriptor that it has not
asked for, or sends what may be in flight. -/
def State.courierResume (s : State) (c : Nat) : State :=
  let s := s.courierReady c
  let x := s.courier c
  if s.cstate c = .fetch ∧ x.reqs = [] then (if s.courierFrozen || !(s.maySend (courierNode c)) then s
    else s.courierSend c .fetch ⟨.rd, 0, 0, x.desc, 64, [], 0⟩)
  else s.courierIssue c

/-- A tag of a node has become free: a courier that waited for one goes on. -/
def State.courierTag (s : State) (node : Nat) : State :=
  if node % 16 = 2 ∧ node / 16 < 32 then s.courierResume (node / 16) else s

/-- Once nothing is outstanding: a stopped courier becomes IDLE with its code and address; a moving one that has sent everything
has completed its descriptor, and fetches NEXT or ends with OK (R260, R261). -/
def State.courierSettle (s : State) (c : Nat) : State :=
  let x := s.courier c
  if x.reqs ≠ [] ∨ x.ready ≠ [] then s
  else match x.stop with
    | some (code, addr) =>
      (((s.setCourier c {}).setCstate c .idle).wr (R.COURIER_STAT_CODE c) code.code).wr64
        (R.COURIER_FAIL_LO_ADDR c) (R.COURIER_FAIL_HI_ADDR c) addr
    | none =>
      if s.cstate c = .move ∧ x.rows ≤ x.row then
        let s := s.incr (R.COURIER_STAT_DESCS c)
        if x.chain then
          let s := s.courierFetch c x.next
          let y := s.courier c
          match y.stop with
          | some (code, addr) =>
            (((s.setCourier c {}).setCstate c .idle).wr (R.COURIER_STAT_CODE c) code.code).wr64
              (R.COURIER_FAIL_LO_ADDR c) (R.COURIER_FAIL_HI_ADDR c) addr
          | none => s
        else ((s.setCourier c {}).setCstate c .idle).wr (R.COURIER_STAT_CODE c) 0
      else s

/-- An idle courier starts at a descriptor (R259): the count of bytes moved starts at 0. -/
def State.courierStart (s : State) (c addr : Nat) : State :=
  ((s.wr64 (R.COURIER_MOVED_LO_COUNT c) (R.COURIER_MOVED_HI_COUNT c) 0).courierFetch c addr).courierSettle c

/-- GO (R259). -/
def State.courierGo (s : State) (c : Nat) : State :=
  if s.cstate c = .idle then s.courierStart c (s.rd64 (R.COURIER_DESC_LO_ADDR c) (R.COURIER_DESC_HI_ADDR c))
  else s.set1 (R.COURIER_CTL_GO_ERR c)

/-- ABORT (R261): the code is ABORTED; the spec names no address for it (log entry 49: a free value). -/
def State.courierAbort (s : State) (c : Nat) : State :=
  if s.cstate c = .idle || (s.courier c).stop.isSome then s
  else ((s.courierStop c .aborted (s.draw % 2 ^ 64)).drawn).courierSettle c

/-- A write to COURIER_CTL_c: GO, then ABORT. -/
def wrCourierCtl (s : State) (c : Nat) (v : BitVec 32) : State :=
  let s := s.w1cOnly (.COURIER_CTL c) v
  let s := if (R.COURIER_CTL_GO c).of v = 1 then s.courierGo c else s
  if (R.COURIER_CTL_ABORT c).of v = 1 then s.courierAbort c else s

/-- COURIER_GO (R259). -/
def execCourierGo (ini : Ini) (c : Fin 32) (s : State) : Host.Outcome State Fault Refusal :=
  .next (s.quiet.written ini (R.COURIER_CTL_GO c.val).off fun s => s.courierGo c.val)

/-- COURIER_ABORT (R261). -/
def execCourierAbort (ini : Ini) (c : Fin 32) (s : State) : Host.Outcome State Fault Refusal :=
  .next (s.quiet.written ini (R.COURIER_CTL_GO c.val).off fun s => s.courierAbort c.val)

/-- COURIER_START_REQUEST (R259): an NWR to the courier's node with 8 bytes at offset 0; any other request is answered DECODE. -/
def execCourierStartRequest (c : Fin 32) (rq : Request) (s : State) : Host.Outcome State Fault Refusal :=
  let s := s.quiet
  let a := rq.acc
  if a.op ≠ .nwr ∨ a.addr ≠ 0 ∨ a.size ≠ 8 then .next (s.reply rq .decode)
  else if s.cstate c.val ≠ .idle then .next (s.reply rq .denied)
  else .next ((s.reply rq .ok).courierStart c.val (leNat a.data))

/-- A 4- or 8-byte field of a descriptor. -/
def descField (d : List Byte) (off k : Nat) : Nat := leNat ((d.drop off).take k)

/-- The descriptor breaks R258: a reserved KIND or bit, ROWS or LENGTH out of range, an address that is not local. -/
def descBad (d : List Byte) : Bool :=
  let ctrl := descField d 0 4
  let rows := descField d 4 4
  let len := descField d 0x18 8
  2 ≤ ctrl % 4 || 8 ≤ ctrl || rows == 0 || 65535 < rows || len == 0 || 2 ^ 32 < len || descField d 0x38 8 != 0 ||
  (ctrl % 4 == 0 && 2 ^ 44 ≤ descField d 8 8) || 2 ^ 44 ≤ descField d 0x10 8 || (ctrl.testBit 2 && 2 ^ 44 ≤ descField d 0x30 8)

/-- A descriptor has arrived (R258, R261, R300): the transfer starts to move; a poisoned one ends the courier with DENIED, a
reserved field as an answer DECODE (log entry 50). -/
def State.courierDesc (s : State) (c addr : Nat) (a : Answer) : State :=
  if a.poison ≠ 0 then s.courierStop c .denied addr
  else if descBad a.data then s.courierStop c .decode addr
  else
    let d := a.data
    let ctrl := descField d 0 4
    ((s.setCourier c { s.courier c with
      fill := ctrl % 4 == 1, chain := ctrl.testBit 2, rows := descField d 4 4, src := descField d 8 8,
      dst := descField d 0x10 8, length := descField d 0x18 8, sstride := descField d 0x20 8, dstride := descField d 0x28 8,
      next := descField d 0x30 8, row := 0, off := 0 }).setCstate c .move).courierIssue c

/-- The poison bits of a write at dst of data read at src with poison bits p (R261, R299): a written word is poisoned where a byte of
it comes from a poisoned word. -/
def movePoison (src dst k p : Nat) : Nat :=
  (List.range k).foldl (fun q i => if p.testBit ((src % 8 + i) / 8) then q ||| 2 ^ ((dst % 8 + i) / 8) else q) 0

/-- The byte at an address is a source byte of the descriptor (R260). -/
def Courier.reads? (x : Courier) (b : Nat) : Bool :=
  (List.range x.rows).any fun r => decide ((b + 2 ^ 64 - (x.src + r * x.sstride) % 2 ^ 64) % 2 ^ 64 < x.length)

/-- Read data goes on to its destination (R260, R261): a destination byte that is also a source byte takes a free value (R8). While the freeze holds the
courier the write waits (R488). -/
def State.courierData (s : State) (c src dst : Nat) (a : Answer) : State :=
  let k := a.data.length
  let p := movePoison src dst k a.poison
  let x := s.courier c
  let both := (List.range k).map fun i => x.reads? (dst + i)
  let und := s.draw
  let data := (a.data.zip both).zipIdx.map fun e => if e.1.2 then BitVec.ofNat 8 (und >>> (8 * e.2)) else e.1.1
  let s := if both.contains true then s.drawn else s
  let s := if p = 0 then s else s.set1 (R.COURIER_STAT_POISONED c)
  if s.courierFrozen then s.setCourier c { s.courier c with ready := (s.courier c).ready ++ [⟨dst, data, p⟩] }
  else (s.courierSend c .write ⟨.wr, 0, 0, dst, k, data, p⟩).courierIssue c

/-- An answer reaches courier c (R260, R261). -/
def State.courierAnswer (s : State) (c tag : Nat) (a : Answer) : State :=
  let x := s.courier c
  match x.reqs.find? (fun r => r.tag == tag) with
  | none => s
  | some r =>
    let s := s.setCourier c { x with reqs := x.reqs.erase r }
    let s :=
      if a.code ≠ .ok then s.courierStop c a.code r.addr
      else match r.kind with
        | .fetch => if x.stop.isSome then s else s.courierDesc c r.addr a
        | .read dst => if x.stop.isSome then s else s.courierData c r.addr dst a
        | .write =>
          let n := s.rd64 (R.COURIER_MOVED_LO_COUNT c) (R.COURIER_MOVED_HI_COUNT c) + r.size
          (s.wr64 (R.COURIER_MOVED_LO_COUNT c) (R.COURIER_MOVED_HI_COUNT c) (n % 2 ^ 64)).courierIssue c
    s.courierSettle c

/-- An answer reaches courier c's node: one that nothing waits for is discarded and counted (R241). Requests already sent complete under the freeze too
(R488). -/
def State.courierTake (s : State) (c tag : Nat) (a : Answer) : State :=
  match s.takeAnswer (courierNode c) tag a with
  | some s => s.courierAnswer c tag a
  | none => s.lateDrop (nodeStation (courierNode c))

/-- A read's answer with OK brings as many bytes as it asked for (R236); no other arrives. -/
def courierAnswerOk (x : Courier) (tag : Nat) (a : Answer) : Bool :=
  x.reqs.all fun r => r.tag != tag || r.kind == .write || a.code != .ok || a.data.length == r.size

/-- COURIER_READ_ANSWER (R260, R261). -/
def execCourierReadAnswer (c : Fin 32) (tag : BitVec 8) (a : Answer) (s : State) : Host.Outcome State Fault Refusal :=
  if courierAnswerOk (s.courier c.val) tag.toNat a then .next (s.quiet.courierTake c.val tag.toNat a)
  else .next s.quiet

/-- COURIER_WRITE_ANSWER (R260, R261). -/
def execCourierWriteAnswer (c : Fin 32) (tag : BitVec 8) (a : Answer) (s : State) : Host.Outcome State Fault Refusal :=
  if courierAnswerOk (s.courier c.val) tag.toNat a then .next (s.quiet.courierTake c.val tag.toNat a)
  else .next s.quiet

end Sys2Proof.Machine
end

