-- ==== Sys2Proof/Machine/DebugOps.lean ====
section
/-! DEFINITION. The shared operations of debug sessions (19_debug_trace.md, R470, R474 to R476, R483, R488): levels, and what the
loss of the last FULL session undoes. -/

namespace Sys2Proof.Machine

/-- The debug ports (R470). -/
inductive DPort where
  | jtag | olicor
  deriving DecidableEq, Repr

/-- The number by which DBG_SESSION names a port (log entry 52). -/
def DPort.num : DPort → Nat
  | .jtag => 0 | .olicor => 1

/-- Where the level of a port is kept (DBG_SESSION_STAT): 0 NONE, 1 OBSERVE, 2 FULL. -/
def DPort.fld : DPort → Fld
  | .jtag => R.DBG_SESSION_STAT_JTAG_LEVEL | .olicor => R.DBG_SESSION_STAT_OLI_LEVEL

/-- The level of a port's session. -/
def State.dlevel (s : State) (p : DPort) : Nat := s.rd p.fld

/-- Some session is FULL. -/
def State.anyFull (s : State) : Bool := s.dlevel .jtag == 2 || s.dlevel .olicor == 2

/-- The watchdog action of thread t that was deferred at the expiry acts (R155, R484): HALT and ALERT fault the thread, RESTART restarts it with its
counter reloaded (R154). -/
def State.deferredAct (s : State) (t : Nat) : State :=
  let s := s.clr (R.DBG_THR_CTL_DEFERRED t)
  if (s.thread t).deferAct = 2 then (s.wdtLoad t).threadRestart t else s.threadFault t .watchdog (s.tpc t)

/-- The watchdog of a thread that leaves a halt (R484): with WDT_FRZ it resumes from the stopped value, raised to P if below; the counter
counts whatever EN is (R153). -/
def State.wdtResume (s : State) (t : Nat) : State :=
  if s.is1 (R.DBG_THR_CTL_WDT_FRZ t) then
    s.wr (R.SEQ_WDT_CNT_REMAIN t) (max (s.rd (R.SEQ_WDT_CNT_REMAIN t)) (s.rd R.TICK_LAYOUT_PERIOD))
  else s

/-- RELEASE of a HALTED thread (R483, R484). -/
def State.threadRelease (s : State) (t : Nat) : State :=
  if s.is1 (R.DBG_THR_CTL_DEFERRED t) then s.deferredAct t else (s.wdtResume t).setTstate t .run

/-- The freeze ends, or its enables change: couriers that it held go on (R488). -/
def State.unfreeze (s : State) : State :=
  if s.courierFrozen then s else s.each (List.range 32) State.courierResume

/-- A pending halt of thread t is cancelled, and so is the halt after a STEP (R476). -/
def State.cancelHalt (s : State) (t : Nat) : State :=
  let s := (s.clr (R.DBG_THR_CTL_PEND t)).clr (R.DBG_THR_CTL_PEND_LOCKED t)
  s.setThread t { s.thread t with stepping := false }

/-- A region step in progress ends, and its region is not held again (R476, R485; log entry 207). -/
def State.cancelStep (s : State) : State :=
  let n := s.rd R.DBG_REG_STEP_REGION
  (s.setRegion n { s.region n with stepLeft := 0 }).clr R.DBG_REG_STEP_BUSY

/-- The last FULL session is gone (R476): threads held HALTED are released and pending halts cancelled, that of a STEP among them, hold
source DEBUG clears in every region and a region step ends without it (log entry 207), the freeze is deasserted, and the masks of the channels clear. -/
def State.loseFull (s : State) : State :=
  let s := s.each (List.range 4) fun s t => match s.tstate t with
    | .halted => s.threadRelease t
    | _ => s.cancelHalt t
  let s := s.each (List.range 64) fun s n => if s.holds n .debug then s.clrHold n .debug else s
  let s := s.cancelStep
  let s := (s.clr R.DBG_FRZ_ASSERT).unfreeze
  s.each (List.range 16) fun s c =>
    (((s.clr (R.DBG_XT_CFG_FREEZE c)).clr (R.DBG_XT_CFG_THR_HALT c)).clr (R.DBG_XT_REG_LO_MASK c)).clr (R.DBG_XT_REG_HI_MASK c)

/-- The level of a port's session changes (R475, R476): logged as DBG_SESSION; an Olicor session that falls to NONE is unbound. -/
def State.setLevel (s : State) (p : DPort) (l : Nat) : State :=
  let old := s.dlevel p
  let s := if p = .olicor ∧ l = 0 then
      ((s.clr R.DBG_SESSION_STAT_OLI_BOUND).clr R.DBG_SESSION_STAT_OLI_DEV).clr R.DBG_SESSION_STAT_OLI_NODE
    else s
  if old = l then s
  else
    let s := (s.wr p.fld l).log (.blockEvent 0x20) [p.num, old, l]
    if old = 2 ∧ !s.anyFull then s.loseFull else s

/-- Every port falls to NONE (R438, R450). -/
def State.dropSessions (s : State) : State := (s.setLevel .jtag 0).setLevel .olicor 0

end Sys2Proof.Machine
end

