-- ==== Sys2Proof/Machine/JournalOps.lean ====
section
/-! DEFINITION. The shared operations of the journal (16_start_journal_front_desk.md, R418 to R421; 18_self_test_repair.md, R461,
R462): asking for a record, and which records stand. -/

namespace Sys2Proof.Machine

/-- The journal is read-only (R420). -/
def State.jnlRO (s : State) : Bool := s.is1 R.JNL_STAT_READ_ONLY

/-- PORST_N or RESET_N is low: the device stays in reset (R412, R413). -/
def State.inReset (s : State) : Bool := s.start.rstLow || s.start.porLow

/-- Ask for a record write (R419): writes are performed one at a time in order of request, guestbook events among them. A read-only
journal refuses every write (R420). -/
def State.jnlAskBy (s : State) (b : JBody) (src : JSrc) : State :=
  if s.jnlRO then s else { s with jnl := { s.jnl with queue := s.jnl.queue ++ [⟨b, s.gbq.length, src⟩] } }

/-- A record write that the front desk's command asks for, or the device itself. -/
def State.jnlAsk (s : State) (b : JBody) (fd : Bool) : State := s.jnlAskBy b (if fd then .desk else .device)

/-- Records that a later one replaces (R419): of the same kind and key. -/
def sameKey : JBody → JBody → Bool
  | .counter i _, .counter j _ => i == j
  | .settings _, .settings _ => true
  | .freeze _, .freeze _ => true
  | .stackTest _, .stackTest _ => true
  | .keySlot i _ _ _, .keySlot j _ _ _ => i == j
  | .user a b _, .user c d _ => a == c && b == d
  | .soft a, .burned b | .burned a, .soft b | .soft a, .soft b | .burned a, .burned b => a == b
  | .mapout a, .cleared b | .cleared a, .mapout b | .mapout a, .mapout b | .cleared a, .cleared b => a == b
  | _, _ => false

/-! ## Slots (R418, R419) -/

/-- The group of logical sectors that a record is written to (R418): the first, and how many. -/
def recGroup : JBody → Nat × Nat
  | .counter _ _ | .settings _ | .freeze _ | .stackTest _ => (0, 1)
  | .itin r => (1 + r.start % 2, 1)
  | .soft _ | .burned _ => (3, 4)
  | .mapout _ | .cleared _ => (7, 4)
  | .keySlot _ _ _ _ => (11, 4)
  | .event _ => (15, 17)
  | .user l _ _ => (l, 1)

/-- The place of slot i of a group: 255 slots of a sector hold records, slot 0 its header (R418). -/
def slotAt (g : Nat × Nat) (i : Nat) : Nat := 256 * (g.1 + i / 255) + 1 + i % 255

/-- How many records a group of sectors holds. -/
def groupSlots (g : Nat × Nat) : Nat := 255 * g.2

/-- The slot of its group that the next record takes: the slots are taken in turn (log entry 81). -/
def State.nextSlot (s : State) (g : Nat × Nat) : Nat := storeGet 0 g.1 s.jnl.next

/-- The place that a record is written to: the slot that its command names, or the next one of its group. -/
def State.placeOf (s : State) (b : JBody) : Nat :=
  match b with
  | .user l k _ => 256 * l + k
  | _ => slotAt (recGroup b) (s.nextSlot (recGroup b))

/-- The record that counts at a place. -/
def State.recAt (s : State) (a : Nat) : Option JRec := s.jnl.recs.find? fun r => r.at' == a

/-- Records that are copied forward before their slot is overwritten (R419): each stands for its kind and key. Step logs, events, user records and the
marks of burned or cleared records are not (log entry 278). -/
def standing : JBody → Bool
  | .counter _ _ | .settings _ | .freeze _ | .stackTest _ | .soft _ | .mapout _ | .keySlot _ _ _ _ => true
  | .itin _ | .burned _ | .cleared _ | .event _ | .user _ _ _ => false

/-- A place holds a standing record. -/
def State.standsAtSlot (s : State) (a : Nat) : Bool := (s.recAt a).any fun r => standing r.body

/-- The first place after the next one of a group that holds no standing record. -/
def State.slotAhead (s : State) (g : Nat × Nat) : Option Nat :=
  ((List.range (groupSlots g - 1)).map fun i => slotAt g ((s.nextSlot g + 1 + i) % groupSlots g)).find? fun a => !(s.standsAtSlot a)

/-- Put a record at a place, with the next sequence number (R419): what the slot held is gone, and so are the records that it replaces. -/
def State.putAt (s : State) (b : JBody) (a : Nat) : State :=
  let keep := s.jnl.recs.filter fun r => !(sameKey r.body b) && r.at' != a
  { s with jnl := { s.jnl with seq := s.jnl.seq + 1, recs := keep ++ [⟨b, s.jnl.seq, a⟩] } }

/-- A record is written to its place, and the next record of its group takes the slot after it (R419). -/
def State.jnlWrite (s : State) (b : JBody) : State :=
  let g := recGroup b
  let s' := s.putAt b (s.placeOf b)
  match b with
  | .user _ _ _ => s'
  | _ => { s' with jnl := { s'.jnl with next := storeSet 0 g.1 ((s.nextSlot g + 1) % groupSlots g) s'.jnl.next } }

/-- What counts at a place is gone, and the slot fails its CRC (R419). -/
def State.tearSlot (s : State) (a : Nat) : State :=
  { s with jnl := { s.jnl with recs := s.jnl.recs.filter fun r => r.at' != a, torn := s.jnl.torn + 1 } }

/-- The write in progress, or the next one: in order of request (R419). -/
def State.frontWrite (s : State) : Option JBody :=
  match s.jnl.queue, s.gbq with
  | w :: _, e :: _ => some (if w.ahead = 0 then w.body else .event e)
  | w :: _, [] => some w.body
  | [], e :: _ => some (.event e)
  | [], [] => none

/-- The value of monotonic counter i in the journal: 0 on a blank one (R421). -/
def State.jnlCounter (s : State) (i : Nat) : Nat :=
  (s.jnl.recs.findSome? fun r => match r.body with | .counter j v => if i = j then some v else none | _ => none).getD 0

/-- The standing soft-repair records, in journal order (R462). -/
def State.softRecs (s : State) : List RepRec :=
  s.jnl.recs.filterMap fun r => match r.body with | .soft x => some x | _ => none

/-- The standing field map-out records, in journal order (R462). -/
def State.mapoutRecs (s : State) : List RepRec :=
  s.jnl.recs.filterMap fun r => match r.body with | .mapout x => some x | _ => none

/-- Save a soft repair (R297, R461, R462); false: the journal is read-only. -/
def State.saveSoft (s : State) (r : RepRec) (src : JSrc) : State × Bool :=
  if s.jnlRO then (s, false) else (s.jnlAskBy (.soft r) src, true)

/-! ## The itinerary (R422) -/

/-- START_NUM of this start: counter 1, which step 3 increments (R415, R421); before it, the value that it will have. -/
def State.startNum (s : State) : Nat :=
  if s.rd R.START_STAT_STEP ≤ 3 then min (s.jnlCounter 1 + 1) (2 ^ 32 - 1) else s.rd (R.JNL_CNT_VALUE 1)

/-- Ask for an itinerary record (R422): PHASE 0 BEGIN, 1 END; OUTCOME 0 OK, 1 FAIL, 2 SKIPPED. -/
def State.itin (s : State) (step phase outcome unit detail : Nat) : State :=
  s.jnlAsk (.itin ⟨s.startNum, step, phase, outcome, unit, detail, s.tickCount⟩) false

/-- The records of the start with a number, oldest first. -/
def State.itinOf (s : State) (start : Nat) : List ItinRec :=
  s.jnl.recs.filterMap fun r => match r.body with | .itin x => if x.start = start then some x else none | _ => none

/-- An image that step 6 tries has failed (R422, R423): the step's END record; the other may be tried. -/
def State.tryFailed (s : State) (code : Nat) : State :=
  match s.start.trying with
  | none => s
  | some u =>
    let step := s.rd R.START_STAT_STEP
    let s := (s.itin step 1 1 u code).wr R.START_STAT_STEP (if step = 15 then 15 else 6)
    { s with start := { s.start with trying := none } }

/-! ## The front desk's command (R433 to R435) -/

/-- Set the front desk. -/
def State.setDesk (s : State) (d : Desk) : State := { s with desk := d }

/-- The command in progress ends (R435): DONE, or DONE_ABORT_LATE after a late ABORT; FAILED with a DETAIL. -/
def State.deskEnd (s : State) (ok : Bool) (detail : Nat) : State :=
  let d := s.desk
  s.setDesk { d with wait := none, input := [], detail := detail, status := if !ok then 3 else if d.late then 5 else 2 }

end Sys2Proof.Machine
end

