-- ==== Sys2Proof/Machine/AlarmOps.lean ====
section
/-! DEFINITION. What fails an image before its commit point (06_images.md, R207, R210), memory key states (11_sdram_encryption.md,
R315, R316), and security alarms with their responses (17_security_life_cycle.md, R448, R450, R451). -/

namespace Sys2Proof.Machine

/-! ## A failing image (R207, R210) -/

/-- The states of the loader (IMG_STATUS.STATE). -/
inductive IState where
  | idle | header | stream | verify | commit | starting | done | failed | aborted
  deriving DecidableEq, Repr

/-- The code of a loader state. -/
def IState.code : IState → Nat
  | .idle => 0 | .header => 1 | .stream => 2 | .verify => 3 | .commit => 4 | .starting => 5 | .done => 6 | .failed => 7
  | .aborted => 8

/-- The loader state that a code names. -/
def IState.ofCode : Nat → IState
  | 1 => .header | 2 => .stream | 3 => .verify | 4 => .commit | 5 => .starting | 6 => .done | 7 => .failed | 8 => .aborted
  | _ => .idle

/-- The state of the loader. -/
def State.istate (s : State) : IState := IState.ofCode (s.rd R.IMG_STATUS_STATE)
/-- Set the state of the loader. -/
def State.setIstate (s : State) (x : IState) : State := s.wr R.IMG_STATUS_STATE x.code

/-- An image is in progress (R202). -/
def State.imgBusy (s : State) : Bool :=
  match s.istate with
  | .header | .stream | .verify | .commit | .starting => true
  | .idle | .done | .failed | .aborted => false

/-- An image is in progress and has not passed its commit point (R203, R209). -/
def State.imgOpen (s : State) : Bool :=
  match s.istate with
  | .header | .stream | .verify => true
  | .idle | .commit | .starting | .done | .failed | .aborted => false

/-- Every plane made DARK by the image becomes EMPTY and holds erased frames (R207); its TORN stays, which only verification and a complete spill
clear (DESIGN CHOICE, log entry 145). Frames that an erase still held up are discarded. -/
def State.scrubImage (s : State) : State :=
  let s := s.imgPlanes.foldl (fun s e =>
    if s.plState e.1 e.2 = .dark then (s.setPlState e.1 e.2 .empty).erasePlane e.1 e.2 else s) s
  { s with imgPlanes := [], heldLoads := [] }

/-- The front desk's load has ended before its commit point: its command is FAILED with DETAIL IMAGE (R434), or ABORTED (R435). A
BOOT_RETRY whose image fails goes on with the other one (R423). -/
def State.deskImageEnd (s : State) (aborted : Bool) : State :=
  let d := s.desk
  if d.wait ≠ some .image then s
  else if aborted then s.setDesk { d with wait := none, input := [], status := 4, detail := 0 }
  else if d.code = 0x0D then s
  else s.deskEnd false 4

/-- The image in progress has failed with a code (R207, R210): what it made DARK is scrubbed, and step 6 may go on. -/
def State.imageOver (s : State) (code : Nat) : State :=
  let s := (s.wr R.IMG_STATUS_ERROR code).setIstate (if code = 0x10 then .aborted else .failed)
  let s : State := { s with img := {} }
  (s.tryFailed code).deskImageEnd (code == 0x10)

/-- The image fails with a code of R210 before its commit point (R207): logged with code, source and section index. -/
def State.imgFail (s : State) (code : Nat) : State :=
  ((s.scrubImage).log .imgFail [code, s.rd R.IMG_STATUS_SOURCE, s.rd R.IMG_STATUS_SECTION]).imageOver code

/-- The front desk's BOOT_RETRY waits for a flash image (R434). -/
def State.retrying (s : State) : Bool := s.desk.wait == some .image && s.desk.code == 0x0D

/-- The source of a load that has been accepted and of which no byte has come: the front desk's LOAD_IMAGE, or the flash image of step 6. -/
def State.loadAwaited (s : State) : Option Nat :=
  if s.imgBusy then none
  else if s.desk.wait = some .image ∧ ¬ s.retrying then some 2
  else if s.retrying || s.start.trying == some 0 || s.start.trying == some 1 then some 0
  else none

/-- The index shown for the header and the trailer (IMG_STATUS.SECTION). -/
def noSection : Nat := 0xFFFF

/-- A load that has not passed its commit point fails with a code, be it before its first byte (R207 to R209). -/
def State.loadFails (s : State) (code : Nat) : State :=
  if s.imgOpen then s.imgFail code
  else match s.loadAwaited with
    | some src => ((s.wr R.IMG_STATUS_SOURCE src).wr R.IMG_STATUS_SECTION noSection).imgFail code
    | none => s

/-! ## What a committed image writes (R204, R205) -/

/-- An applied write was answered other than OK, or its register refused the value (R205). -/
def State.applyFailed (s : State) (idx : Nat) (code : Resp) : State :=
  let s := if s.rd R.IMG_APPLY_COUNT = 0 then s.log .imgApplyErr [] else s
  ((s.bump R.IMG_APPLY_COUNT).wr R.IMG_APPLY_CODE code.code).wr R.IMG_APPLY_SECTION idx

/-- The node of the innkeeper (R232). -/
def innkeeperNode : Nat := 4

/-- The answer to a word of a BRAM_INIT run (R204, R205): the next word may go. -/
def State.bramAnswer (s : State) (tag : Nat) (a : Answer) : State :=
  if s.img.sent ≠ some tag then s
  else match s.takeAnswer innkeeperNode tag a with
    | none => s
    | some s =>
      let i := s.img
      let s : State := { s with img := { i with sent := none, words := i.words + 1 } }
      if a.code = .ok then s else s.applyFailed ((i.staged[i.applied]?).elim noSection (·.index)) a.code

/-! ## Memory keys (R315, R316) -/

/-- The states of a memory key ID (R315). -/
inductive KState where
  | empty | xts | plain | retired
  deriving DecidableEq, Repr

/-- The code of a key state (MKEY_STATE). -/
def KState.code : KState → Nat
  | .empty => 0 | .xts => 1 | .plain => 2 | .retired => 3

/-- The state of key ID k. -/
def State.kstate (s : State) (k : Nat) : KState :=
  match (s.rd (R.MKEY_STATE_ID (k / 8)) >>> (4 * (k % 8))) % 4 with
  | 1 => .xts | 2 => .plain | 3 => .retired | _ => .empty

/-- Put a value into bits [hi + 4j : 4j] of MKEY_STATE for key ID k. -/
def State.setKeyBits (s : State) (k w v : Nat) : State :=
  let f := R.MKEY_STATE_ID (k / 8)
  let sh := 4 * (k % 8)
  let old := s.rd f
  s.wr f ((old ^^^ (old &&& ((2 ^ w - 1) <<< sh))) ||| (v <<< sh))

/-- Set the state of key ID k; a SWEEP bit stays. -/
def State.setKstate (s : State) (k : Nat) (x : KState) : State := s.setKeyBits k 2 x.code

/-- Key ID k loses its key (R316, R322). -/
def State.dropKey (s : State) (k : Nat) : State :=
  { s with sdram := { s.sdram with keys := storeSet none k none s.sdram.keys } }

/-- Every XTS ID becomes RETIRED and its key is destroyed (R316); a GENERATE in progress ends with its ID EMPTY and sets ERR
(R451). -/
def State.zeroiseKeys (s : State) : State :=
  let s := s.each (List.range 64) fun s k => if s.kstate k = .xts then (s.setKstate k .retired).dropKey k else s
  match s.sdram.cmd with
  | some (_, 1) => { (s.clr R.MKEY_CMD_BUSY).set1 R.MKEY_CMD_ERR with sdram := { s.sdram with cmd := none } }
  | _ => s

/-! ## Alarms (R448, R450, R451) -/

/-- The responses of R450. -/
inductive Respond where
  | log | alert | lock | zeroise | erase
  deriving DecidableEq, Repr

/-- The number of a response (R450). -/
def Respond.code : Respond → Nat
  | .log => 0 | .alert => 1 | .lock => 2 | .zeroise => 3 | .erase => 4

/-- The priority of an alarm's record by its response (R450). -/
def respPriority (r : Nat) : Nat := if r = 0 then 1 else if r < 4 then 2 else 3

/-- LOCK (R450). -/
def State.lockAll (s : State) : State := s.dropSessions.set1 R.LC_STATE_LOCKED

/-- ZEROISE beyond LOCK (R450). -/
def State.zeroise (s : State) : State :=
  let s := s.zeroiseKeys
  let s : State := { s with sec := { s.sec with unwrapped := [] } }
  let s := s.set1 R.LC_STATE_SLOTS_BARRED
  s.loadFails 0x10

/-- Every slot record is void (R442, R450). -/
def State.voidSlots (s : State) : State := s.clr R.KEY_SLOT_STAT_SLOTS

/-- One more epoch fuse is burned; there are 15 (R442). -/
def nextEpoch (e : Nat) : Nat := if e < 15 then e + 1 else e

/-- The fuses after ERASE (R438, R450, R451): an epoch fuse is burned, or with all 15 burned the device becomes SCRAPPED, its key-encryption key burned
out; the debug key's kill fuse is burned. -/
def erasedFuses (f : SecFuses) : SecFuses :=
  let g := if f.epoch < 15 then f else f.burnLc 5
  { g with killed := true, epoch := nextEpoch f.epoch, kekDead := f.kekDead || !(decide (f.epoch < 15)) }

/-- ERASE beyond ZEROISE (R450, R451). -/
def State.eraseFuses (s : State) : State :=
  ({ s with lcFuses := erasedFuses s.lcFuses } : State).voidSlots

/-- A response and every one below it (R450), but for those up to one that has been performed. -/
def State.respondAbove (s : State) (done r : Nat) : State :=
  let s := if 2 ≤ r ∧ done < 2 then s.lockAll else s
  let s := if 3 ≤ r ∧ done < 3 then s.zeroise else s
  if 4 ≤ r ∧ done < 4 then s.eraseFuses else s

/-- A response and every one below it (R450). -/
def State.respond (s : State) (r : Nat) : State := s.respondAbove 0 r

/-- The highest response performed in this reference cycle. -/
def State.responded (s : State) : Nat :=
  match s.sec.acted with
  | some (t, r) => if t = s.now then r else 0
  | none => 0

/-- The response to an alarm (R451): of alarms that fall together, in one reference cycle, the highest response is performed once. -/
def State.respondOnce (s : State) (r : Nat) : State :=
  let done := s.responded
  ({ s with sec := { s.sec with acted := some (s.now, max done r) } } : State).respondAbove done r

/-- Alarm a is raised (R448): counted and logged; the device responds, after an advance in progress (R451). -/
def State.alarm (s : State) (a : Fin 7) : State :=
  let r := s.rd (R.ALARM_CFG_RESP a.val)
  let s := (s.bump (R.ALARM_CFG_COUNT a.val)).logP (respPriority r) (.alarm a) []
  if s.sec.advance.isSome then { s with sec := { s.sec with alarms := s.sec.alarms ++ [r] } } else s.respondOnce r

end Sys2Proof.Machine
end

