-- ==== Sys2Proof/Machine/Crc.lean ====
section
/-! DEFINITION. The check values of R339 and R380: CRC-32 (the IEEE 802.3 frame check sequence), CRC-32C and CRC-16-CCITT. -/

namespace Sys2Proof.Machine

/-- One bit of a reflected CRC: the polynomial is given with its bits reversed. -/
def crcRightBit (poly c : Nat) : Nat := if c % 2 = 1 then (c / 2) ^^^ poly else c / 2

/-- k steps of `crcRightBit`. -/
def crcRightBits (poly : Nat) : Nat → Nat → Nat
  | 0, c => c
  | k + 1, c => crcRightBits poly k (crcRightBit poly c)

/-- One byte of a reflected 32-bit CRC. -/
def crcRightByte (poly c : Nat) (b : Byte) : Nat := crcRightBits poly 8 (c ^^^ b.toNat)

/-- One bit of a 16-bit CRC that is not reflected. -/
def crcLeftBit (poly c : Nat) : Nat := if c / 0x8000 % 2 = 1 then (c * 2 % 0x10000) ^^^ poly else c * 2 % 0x10000

/-- k steps of `crcLeftBit`. -/
def crcLeftBits (poly : Nat) : Nat → Nat → Nat
  | 0, c => c
  | k + 1, c => crcLeftBits poly k (crcLeftBit poly c)

/-- One byte of a 16-bit CRC that is not reflected. -/
def crcLeftByte (poly c : Nat) (b : Byte) : Nat := crcLeftBits poly 8 (c ^^^ (b.toNat * 256))

/-- The algorithms of R380. -/
inductive Alg where
  | crc32 | crc32c | crc16
  deriving DecidableEq, Repr

/-- The algorithm that ALG names (R380). -/
def Alg.ofCode : Nat → Alg
  | 1 => .crc32c | 2 => .crc16 | _ => .crc32

/-- The initial value (R380). -/
def Alg.init : Alg → Nat
  | .crc32 | .crc32c => 0xFFFFFFFF
  | .crc16 => 0xFFFF

/-- One more byte; the polynomials 0x04C11DB7 and 0x1EDC6F41 stand reversed (R380). -/
def Alg.byte : Alg → Nat → Byte → Nat
  | .crc32, c, b => crcRightByte 0xEDB88320 c b
  | .crc32c, c, b => crcRightByte 0x82F63B78 c b
  | .crc16, c, b => crcLeftByte 0x1021 c b

/-- More bytes. -/
def Alg.run (g : Alg) (c : Nat) (bs : List Byte) : Nat := bs.foldl g.byte c

/-- The result of a running value (R380). -/
def Alg.result : Alg → Nat → Nat
  | .crc32, c | .crc32c, c => c ^^^ 0xFFFFFFFF
  | .crc16, c => c

/-- The check value of a list of bytes. -/
def Alg.of (g : Alg) (bs : List Byte) : Nat := g.result (g.run g.init bs)

end Sys2Proof.Machine
end

