-- ==== Sys2Proof/Machine/LineCode.lean ====
section
/-! DEFINITION. The line code of a serial lane (12_lanes_links.md, R332; IEEE 802.3 Clause 36): the 8b/10b code of a symbol under a running disparity,
the symbol that a received code spells, and training sets (R336). -/

namespace Sys2Proof.Machine

/-! ## 8b/10b (R332) -/

/-- The 5b/6b code of x under negative running disparity, abcdei with a first (Clause 36). -/
def sixBit : Nat → BitVec 6
  | 0 => 0b100111 | 1 => 0b011101 | 2 => 0b101101 | 3 => 0b110001 | 4 => 0b110101 | 5 => 0b101001 | 6 => 0b011001 | 7 => 0b111000
  | 8 => 0b111001 | 9 => 0b100101 | 10 => 0b010101 | 11 => 0b110100 | 12 => 0b001101 | 13 => 0b101100 | 14 => 0b011100 | 15 => 0b010111
  | 16 => 0b011011 | 17 => 0b100011 | 18 => 0b010011 | 19 => 0b110010 | 20 => 0b001011 | 21 => 0b101010 | 22 => 0b011010 | 23 => 0b111010
  | 24 => 0b110011 | 25 => 0b100110 | 26 => 0b010110 | 27 => 0b110110 | 28 => 0b001110 | 29 => 0b101110 | 30 => 0b011110 | _ => 0b101011

/-- The 3b/4b code of y under negative running disparity, fghj with f first (Clause 36). -/
def fourBit : Nat → BitVec 4
  | 0 => 0b1011 | 1 => 0b1001 | 2 => 0b0101 | 3 => 0b1100 | 4 => 0b1101 | 5 => 0b1010 | 6 => 0b0110 | _ => 0b1110

/-- Running disparity after a sub-block (Clause 36): positive where it has more ones, or is 000111 or 0011; negative where it has more zeros, or is
111000 or 1100; else as before. -/
def disparityAfter {w : Nat} (rd : Bool) (b : BitVec w) : Bool :=
  let ones := b.cpop.toNat
  if w < 2 * ones || b == BitVec.ofNat w (2 ^ (w / 2) - 1) then true
  else if 2 * ones < w || b == ~~~(BitVec.ofNat w (2 ^ (w / 2) - 1)) then false else rd

/-- A sub-block under a running disparity: one that is not balanced, and 111000 and 1100, is complemented where the disparity is positive. -/
def underDisparity {w : Nat} (rd : Bool) (b : BitVec w) : BitVec w :=
  if rd && (2 * b.cpop.toNat ≠ w || b == ~~~(BitVec.ofNat w (2 ^ (w / 2) - 1))) then ~~~b else b

/-- The 6-bit sub-block of x under a running disparity. -/
def codeSix (rd : Bool) (x : Nat) : BitVec 6 := underDisparity rd (sixBit x)

/-- The 4-bit sub-block of y after x, under the disparity that x leaves: y = 7 takes 0111 or 1000 where it would follow two equal bits. -/
def codeFour (rd : Bool) (x y : Nat) : BitVec 4 :=
  if y = 7 && (if rd then [11, 13, 14].contains x else [17, 18, 20].contains x) then (if rd then 0b1000 else 0b0111)
  else underDisparity rd (fourBit y)

/-- The codes of the special symbols of R332 under negative running disparity: octet, abcdei fghj. -/
def specialCodes : List (BitVec 8 × BitVec 10) :=
  [(0xBC, 0b0011111010), (0xFB, 0b1101101000), (0xFD, 0b1011101000), (0xFE, 0b0111101000), (0x7C, 0b0011110011)]

/-- The code of a symbol, first bit on the line in bit 0 (R332, R352): none for a K octet that R332 does not use. -/
def encodeSym (rd : Bool) (y : Sym) : Option (BitVec 10) :=
  if y.k then (specialCodes.lookup y.octet).map fun c => (if rd then ~~~c else c).reverse
  else
    let x := y.octet.toNat % 32
    let b := codeSix rd x
    some (b ++ codeFour (disparityAfter rd b) x (y.octet.toNat / 32)).reverse

/-- Running disparity after a code. -/
def codeDisparity (rd : Bool) (c : BitVec 10) : Bool :=
  disparityAfter (disparityAfter rd (c.reverse.extractLsb' 4 6)) (c.reverse.extractLsb' 0 4)

/-- The symbol that a received code spells under a running disparity (R332): none for a symbol error, that is any other K symbol, a code violation or
a disparity error. -/
def decodeSym (rd : Bool) (c : BitVec 10) : Option Sym :=
  let a := c.reverse
  match specialCodes.find? fun e => (if rd then ~~~e.2 else e.2) == a with
  | some e => some ⟨true, e.1⟩
  | none =>
    let b : BitVec 6 := a.extractLsb' 4 6
    match (List.range 32).find? fun x => codeSix rd x == b with
    | none => none
    | some x =>
      ((List.range 8).find? fun y => codeFour (disparityAfter rd b) x y == a.extractLsb' 0 4).map fun y => ⟨false, BitVec.ofNat 8 (32 * y + x)⟩

/-! ## Columns: one symbol on every lane -/

/-- A column is encoded, lane by lane from lane i, under the disparities that `rd` holds by lane: the codes, and the disparities after them. A symbol
without a code is sent as `other` gives it. -/
def encodeColumn (other : BitVec 10) (rd : Nat) : Nat → List Sym → List (BitVec 10) × Nat
  | _, [] => ([], 0)
  | i, y :: ys =>
    let c := (encodeSym (rd.testBit i) y).getD other
    let r := encodeColumn other rd (i + 1) ys
    (c :: r.1, r.2 + 2 ^ i * (codeDisparity (rd.testBit i) c).toNat)

/-- Columns are encoded one after another. -/
def encodeColumns (other : BitVec 10) (rd : Nat) : List (List Sym) → List (List (BitVec 10)) × Nat
  | [] => ([], rd)
  | ys :: rest =>
    let c := encodeColumn other rd 0 ys
    let r := encodeColumns other c.2 rest
    (c.1 :: r.1, r.2)

/-- Received codes of `w` lanes, column by column, are decoded under the disparities that `rd` holds by lane: a symbol or an error for each, and the
disparities after them. -/
def decodeCodes (w rd : Nat) : Nat → List (BitVec 10) → List (Option Sym) × Nat
  | _, [] => ([], rd)
  | i, c :: cs =>
    let lane := i % w
    let after := codeDisparity (rd.testBit lane) c
    let rd' := if after = rd.testBit lane then rd else rd ^^^ 2 ^ lane
    let r := decodeCodes w rd' (i + 1) cs
    (decodeSym (rd.testBit lane) c :: r.1, r.2)

/-- A list in rows of w. -/
def rowsOf {α : Type} (w : Nat) : Nat → List α → List (List α)
  | 0, _ => []
  | k + 1, xs => xs.take w :: rowsOf w k (xs.drop w)

/-! ## Symbols and rates (R329, R332) -/

/-- A data symbol. -/
def dataSym (v : Nat) : Sym := ⟨false, BitVec.ofNat 8 v⟩
/-- K28.5: comma, idle, alignment column, first symbol of a training set. -/
def symComma : Sym := ⟨true, 0xBC⟩
/-- K27.7: frame start. -/
def symStart : Sym := ⟨true, 0xFB⟩
/-- K29.7: frame end. -/
def symEnd : Sym := ⟨true, 0xFD⟩
/-- K30.7: frame abort. -/
def symAbort : Sym := ⟨true, 0xFE⟩
/-- K28.3: tick marker. -/
def symMarker : Sym := ⟨true, 0x7C⟩

/-- Symbols of a lane in one reference cycle of 6.4 ns, in fifths of a symbol (R329): 102.4, 80, 64 or 40. -/
def symbolFifths : Nat → Nat
  | 0 => 512 | 1 => 400 | 2 => 320 | _ => 200

/-- A frame on the line (R338, R339): K27.7, its content, the CRC least significant byte first, K29.7. -/
def frameSyms (content : List Byte) (crc : Nat) : List Sym :=
  symStart :: ((content ++ leBytes 4 crc).map fun b => ⟨false, b⟩) ++ [symEnd]

/-- A training set as columns of w lanes (R336): `kind` is 1 for TS1 and 2 for TS2. -/
def trainingSet (w kind width rate ssc dev depth ping echo turn : Nat) : List (List Sym) :=
  let all := fun v => List.replicate w (dataSym v)
  [List.replicate w symComma, all kind, (List.range w).map dataSym, all width, all (rate + 4 * ssc), all dev, all depth, all depth, all ping,
   all echo, all (turn % 256), all (turn / 256)] ++ List.replicate 4 (all 0xB5)

/-! ## What the lanes receive (R332, R336 to R338) -/

/-- The symbols that a list of received symbols has, where none is an error. -/
def soundSyms (ys : List (Option Sym)) : Option (List Sym) := if ys.all (·.isSome) then some (ys.filterMap id) else none

/-- A received training set of a kind (1 TS1, 2 TS2), from a lane that the device may invert: what it says, none where it is no such set; and its symbol
errors. -/
def readSet (kind : Nat) (inv : Bool) (x : RxSet) : Option TSet × Nat :=
  let ys := (decodeCodes 1 x.rd.toNat 0 (if inv then x.codes.map (~~~·) else x.codes)).1
  let set := match soundSyms ys with
    | some (c :: k :: rest) =>
      let b := rest.map (·.octet)
      if rest.length = 14 ∧ c = symComma ∧ k = dataSym kind ∧ rest.all (fun y => !y.k) ∧ b.drop 10 = List.replicate 4 0xB5 then
        some ⟨b.getD 0 0, b.getD 1 0, (b.getD 2 0).extractLsb' 0 2, (b.getD 2 0).getLsbD 2, b.getD 3 0, b.getD 4 0, b.getD 5 0, b.getD 6 0⟩
      else none
    | _ => none
  (set, (ys.filter (·.isNone)).length)

/-- Tick markers are taken out of the columns (R346): K28.3 on every lane, and the two columns after it. -/
def dropMarkers : List (List (Option Sym)) → List (List (Option Sym))
  | c :: a :: b :: rest => if c.all (· == some symMarker) then dropMarkers rest else c :: dropMarkers (a :: b :: rest)
  | cs => cs

/-- The stream symbols of a received frame on w lanes (R337). -/
def frameSymbols (w : Nat) (f : RxFrame) : List (Option Sym) :=
  let ys := (decodeCodes w f.rd.toNat 0 f.cols.flatten).1
  let all := (dropMarkers (rowsOf w f.cols.length ys)).flatten
  (all.take (all.length - (w - 1 - f.last.val))).drop f.first.val

/-- What a received frame holds (R338, R339): a frame whose first symbol is not K27.7 is none that the receiver sees, and one with anything but data
between its first and its last symbol, K29.7, has no content. -/
def readFrame (w : Nat) (f : RxFrame) : LinkFrame :=
  let ys := frameSymbols w f
  let errors := (ys.filter (·.isNone)).length
  let gone := ys.head? ≠ some (some symStart) || ys.getLast? == some (some symAbort)
  let body := (soundSyms (ys.drop 1).dropLast).getD []
  if gone || ys.getLast? ≠ some (some symEnd) || body.any (·.k) || body.length < 4 then ⟨[], 0, errors, gone⟩
  else
    let bytes := body.map (·.octet)
    ⟨bytes.take (bytes.length - 4), BitVec.ofNat 32 (leNat (bytes.drop (bytes.length - 4))), errors, false⟩

/-! ## Raw flits (R352) -/

/-- The codes of the K symbols of Clause 36 under negative running disparity, abcdei fghj: K28.0 to K28.7, K23.7, K27.7, K29.7, K30.7. -/
def kCodes : List (BitVec 10) :=
  [0b0011110100, 0b0011111001, 0b0011110101, 0b0011110011, 0b0011110010, 0b0011111010, 0b0011110110, 0b0011111000,
   0b1110101000, 0b1101101000, 0b1011101000, 0b0111101000]

/-- A received code is that of a K symbol, under either running disparity. -/
def isKCode (c : BitVec 10) : Bool := kCodes.contains c.reverse || kCodes.contains (~~~c.reverse)

/-- A raw flit: symbols of 10 bits from bit 0, COLS in bits [485:480]. -/
def rawFlit (cols : Nat) (ys : List (BitVec 10)) : BitVec 512 :=
  BitVec.ofNat 512 (ys.foldr (fun y v => y.toNat + 1024 * v) 0 + 2 ^ 480 * cols)

/-- Symbol i of a raw flit. -/
def rawSym (f : BitVec 512) (i : Nat) : BitVec 10 := f.extractLsb' (10 * i) 10

/-- COLS of a raw flit. -/
def rawCols (f : BitVec 512) : Nat := (f.extractLsb' 480 6).toNat

end Sys2Proof.Machine
end

