-- ==== Sys2Proof/Machine/LinkOps.lean ====
section
/-! DEFINITION. The shared operations of Olicor links (12_lanes_links.md, R329 to R350): link headers and records, sending a frame,
the states of a lane group, and what a link that goes down discards. -/

namespace Sys2Proof.Machine

/-- Lane group g. -/
def State.link (s : State) (g : Nat) : Link := storeGet {} g s.links
/-- Replace lane group g. -/
def State.setLink (s : State) (g : Nat) (x : Link) : State := { s with links := storeSet {} g x s.links }

/-! ## States (R335) -/

/-- The states of a lane group (LINK_STAT_g). -/
inductive LState where
  | off | detect | train | active | down | failed | raw | pending
  deriving DecidableEq, Repr

/-- The code of a state. -/
def LState.code : LState → Nat
  | .off => 0 | .detect => 1 | .train => 2 | .active => 3 | .down => 4 | .failed => 5 | .raw => 6 | .pending => 7

/-- The state that a code names. -/
def LState.ofCode : Nat → LState
  | 1 => .detect | 2 => .train | 3 => .active | 4 => .down | 5 => .failed | 6 => .raw | 7 => .pending | _ => .off

/-- The state of lane group g. -/
def State.lstate (s : State) (g : Nat) : LState := LState.ofCode (s.rd (R.LINK_STAT_STATE g))
/-- Set the state of lane group g. -/
def State.setLstate (s : State) (g : Nat) (x : LState) : State := s.wr (R.LINK_STAT_STATE g) x.code

/-- The link of group g carries frames. -/
def State.linkActive (s : State) (g : Nat) : Bool := s.lstate g == .active

/-- Lanes of a width code (LINK_CTL_g.WIDTH). -/
def widthLanes (w : Nat) : Nat := 2 ^ w

/-! ## Records (R340) -/

/-- The 176-bit link header (R340) of a packet, with returned credits. -/
def linkHeader (p : Packet) (crReq crRsp : Nat) : Nat :=
  p.op % 2 ^ 8 + 2 ^ 8 * vnNum p.vn + 2 ^ 10 * (p.len % 4) + 2 ^ 12 * (p.tag % 2 ^ 8) + 2 ^ 20 * (p.resp % 16) +
  2 ^ 24 * (p.dstNode % 2 ^ 12) + 2 ^ 36 * (p.dstDev % 2 ^ 8) + 2 ^ 44 * (p.hops % 2 ^ 8) + 2 ^ 52 * (p.srcNode % 2 ^ 12) +
  2 ^ 64 * (p.srcDev % 2 ^ 8) + 2 ^ 72 * (p.addr % 2 ^ 52) + 2 ^ 124 * ((p.size - 1) % 2 ^ 7) + 2 ^ 131 * (p.poison % 2 ^ 16) +
  2 ^ 147 * (crReq % 16) + 2 ^ 151 * (crRsp % 16)

/-- A payload of k bytes: what is missing is 0. -/
def padTo (k : Nat) (bs : List Byte) : List Byte := (bs ++ List.replicate (k - bs.length) 0).take k

/-- A FULL record (R340); the model's sender sends no NEXT record and returns credits in the frame header (log entry 60). -/
def fullRecord (p : Packet) : List Byte := 1 :: leBytes 22 (linkHeader p 0 0) ++ padTo (64 * p.len) p.data

/-- The bytes that a write touches in its payload (R340): those from ADDR − A8 to ADDR − A8 + SIZE_M1. -/
def rebuiltEnable (op addr size : Nat) : Nat :=
  match reqOp op with
  | some .wr | some .nwr => byteEnable addr size
  | _ => 0

/-- Bits [hi:lo] of a number. -/
def natBits (v hi lo : Nat) : Nat := (v >>> lo) % 2 ^ (hi - lo + 1)

/-- The header flit that a receiver rebuilds from a link header (R340), with the credits that the record returns; none: VN 0b10 or
0b11, or LEN 3 (R342). -/
def rebuildHeader (h : Nat) : Option (Packet × Nat × Nat) :=
  let vn := natBits h 9 8
  let len := natBits h 11 10
  if 2 ≤ vn ∨ len = 3 then none
  else
    let op := natBits h 7 0
    let addr := natBits h 123 72
    let size := natBits h 130 124 + 1
    some (⟨op, if vn = 0 then .req else .rsp, false, natBits h 19 12, natBits h 23 20, natBits h 43 36, natBits h 35 24,
      natBits h 51 44, natBits h 71 64, natBits h 63 52, addr, size, rebuiltEnable op addr size, len, natBits h 146 131, 0, []⟩,
      natBits h 150 147, natBits h 154 151)

/-- The header of a NEXT record (R341), from the previous record of its network (log entry 61). -/
def nextHeader (p : Packet) : Packet :=
  let addr := if p.vn = .req then (p.addr + p.size) % 2 ^ 52 else p.addr
  { p with tag := (p.tag + 1) % 256, addr := addr, byteEn := rebuiltEnable p.op addr p.size }

/-- What the records of a frame hold (R340 to R342): the packets in order, the credits they return, the record before the next one;
none: a protocol error. -/
def parseRecords : Nat → List Byte → Option Packet → Option (List Packet × Nat × Nat × Option Packet)
  | _, [], prev => some ([], 0, 0, prev)
  | 0, _ :: _, _ => none
  | k + 1, form :: bs, prev =>
    let head : Option (Packet × Nat × Nat × List Byte) :=
      if form = 1 then
        if bs.length < 22 then none
        else (rebuildHeader (leNat (bs.take 22))).map fun h => (h.1, h.2.1, h.2.2, bs.drop 22)
      else if form = 2 then prev.map fun p => (nextHeader p, 0, 0, bs)
      else none
    match head with
    | none => none
    | some (p, cq, cr, rest) =>
      if rest.length < 64 * p.len then none
      else
        let p := { p with data := rest.take (64 * p.len) }
        (parseRecords k (rest.drop (64 * p.len)) (some { p with data := [] })).map fun r =>
          (p :: r.1, cq + r.2.1, cr + r.2.2.1, r.2.2.2)

/-! ## Sending (R338, R342 to R344) -/

/-- The frame header of R338. -/
def frameHeader (crRsp crReq : Nat) (ctrl nak : Bool) (ack seq : Nat) : Nat :=
  seq % 1024 + 2 ^ 10 * (ack % 1024) + 2 ^ 20 * nak.toNat + 2 ^ 21 * ctrl.toNat + 2 ^ 24 * (crReq % 16) + 2 ^ 28 * (crRsp % 16)

/-- A frame follows the others in the symbol stream of group g (R338, R339, R345; log entry 244). -/
def State.putFrame (s : State) (g : Nat) (kind : StreamKind) (header : Nat) (records : List Byte) : State :=
  let content := leBytes 4 header ++ records
  let crc := Alg.crc32.of content
  let x := s.link g
  (s.setLink g { x with stream := x.stream ++ [⟨kind, frameSyms content crc, 0⟩] }).emit (.linkFrame g content crc)

/-- A control frame with ACK and NAK (R338, R342). -/
def State.controlFrame (s : State) (g : Nat) (nak : Bool) : State :=
  s.putFrame g .control (frameHeader 0 0 true nak (s.link g).rxAck 0) []

/-- A sequenced frame of the replay buffer is sent (R343). -/
def State.sendSequenced (s : State) (g : Nat) (f : TxFrame) : State :=
  s.putFrame g .sequenced (frameHeader f.crRsp f.crReq false false (s.link g).rxAck f.seq) (f.pkts.map fullRecord).flatten

/-- Credits of the link port's input buffer that go back now, at most 8 (R344). -/
def State.linkCredits (s : State) (g : Nat) (vn : VNet) : Nat := min 8 (s.buf (bufKey g 0 (vnNum vn))).gone

/-- Take returned credits out of the link port's buffer. -/
def State.takeCredits (s : State) (g : Nat) (vn : VNet) (c : Nat) : State :=
  let k := bufKey g 0 (vnNum vn)
  s.setBuf k { s.buf k with gone := (s.buf k).gone - c }

/-- Begin a sequenced frame with packets and the credits that are to be returned (R338, R343, R344). -/
def State.beginFrame (s : State) (g : Nat) (pkts : List Packet) : State :=
  let cq := s.linkCredits g .req
  let cr := s.linkCredits g .rsp
  let s := (s.takeCredits g .req cq).takeCredits g .rsp cr
  let x := s.link g
  let f : TxFrame := ⟨x.txSeq, cq, cr, pkts, 0⟩
  let at' := if x.sent = [] then s.now else x.ackAt
  (s.setLink g { x with txSeq := (x.txSeq + 1) % 1024, sent := x.sent ++ [f], ackAt := at' }).sendSequenced g f

/-- Credits held for a network of the partner (R344). -/
def Link.credit (x : Link) (vn : VNet) : Nat := match vn with | .req => x.credReq | .rsp => x.credRsp | .sys => 0

/-- Use up credits of a network. -/
def Link.spend (x : Link) (vn : VNet) (k : Nat) : Link :=
  match vn with
  | .req => { x with credReq := x.credReq - k }
  | .rsp => { x with credRsp := x.credRsp - k }
  | .sys => x

/-- The link takes a packet from its waystation (R343, R344): each packet leaves in a frame of its own (log entry 60). None: it
waits for credits, or 64 frames are unacknowledged. -/
def State.linkSend (s : State) (g : Nat) (vn : VNet) (p : Packet) : Option State :=
  let x := s.link g
  if 64 ≤ x.sent.length ∨ x.credit vn < packetFlits p then none
  else some ((s.setLink g (x.spend vn (packetFlits p))).beginFrame g [p])

/-! ## Links that are not up (R334, R344, R349) -/

/-- Layer L0 holds the node. -/
def onL0 (node : Nat) : Bool := node < 512

/-- Before STARTED a start link carries packets to and from nodes on L0 of this device only (R334). -/
def State.startBars (s : State) (dev node : Nat) : Bool :=
  !(s.is1 R.IMG_STATUS_STARTED) && !(dev == s.rd R.NET_CFG_DEV_NUM && onL0 node)

/-- A link as it stands outside ACTIVE: of what it held only the start sequence's mark, PING and the state of its transmitters are left. -/
def Link.idle (x : Link) : Link := { start := x.start, phase := x.phase, txRd := x.txRd, ping := x.ping }

/-- The responses that wait in an input of station g for the port of link g are discarded and counted (R349); the others keep their order. -/
def State.dropBound (s : State) (g input : Nat) : State :=
  let x := s.buf (bufKey g input 1)
  let lost := x.pkts.filter fun f => f.dest == some (nodeId 0 g 0)
  let kept : NetBuf := ⟨x.pkts.filter fun f => f.dest != some (nodeId 0 g 0), x.gone + (lost.map fun f => packetFlits f.pkt).sum⟩
  if lost.isEmpty then s else (s.setBuf (bufKey g input 1) kept).bumpN (R.WS_STAT_LATE_DROP g) lost.length

/-- A link loses what it holds (R349): its replay buffer and receive state; requests delivered to its port and not answered are
answered ABORTED; responses bound for the partner are counted; SEQ, ACK, credits and the NEXT state are as at the start. -/
def State.linkDiscards (s : State) (g : Nat) : State :=
  let lost := ((s.link g).sent.flatMap (·.pkts)).filter fun p => p.vn == .rsp
  let open' := s.deliv.filter fun e => e.station == g && e.port == 0
  let s : State := { s with deliv := s.deliv.filter fun e => !(e.station == g && e.port == 0) }
  let s := open'.foldl (fun s e => s.replyFrom (nodeId 0 g 0) e.rq .aborted) s
  let s := (s.bumpN (R.WS_STAT_LATE_DROP g) lost.length).each (List.range 32) fun s i => s.dropBound g i
  let s := s.setLink g (s.link g).idle
  (s.setBuf (bufKey g 0 0) { s.buf (bufKey g 0 0) with gone := 0 }).setBuf (bufKey g 0 1)
    { s.buf (bufKey g 0 1) with gone := 0 }

/-! ## What a group does by its MODE (R333 to R335, R360, R387, R388) -/

/-- The twin states in which this device does not drive the pair's outputs (R358, R360): JOINING, STANDBY, ORPHAN, TAKING, FENCED. -/
def State.twinSilent (s : State) : Bool :=
  match s.rd R.TWIN_CTL_STATE with
  | 1 | 2 | 5 | 6 | 7 => true
  | _ => false

/-- Group g stays in PENDING (R334, R360). -/
def State.linkHeld (s : State) (g : Nat) : Bool :=
  (!(s.is1 R.IMG_STATUS_STARTED) && !(s.link g).start) || (s.twinSilent && g ≠ 23 && s.bit R.TWIN_LANES_GROUPS g)

/-- The lanes' receive state is not known (R335). -/
def State.unlock (s : State) (g : Nat) : State :=
  let s := (s.clr (R.LINK_STAT_LOCKED g)).clr (R.LINK_STAT_POL_INV g)
  if s.rd (R.LINK_CTL_WIDTH g) = 4 then (s.clr (R.LINK_STAT_LOCKED (g + 1))).clr (R.LINK_STAT_POL_INV (g + 1)) else s

/-- A link begins to train (R335): DETECT. -/
def State.toDetect (s : State) (g : Nat) : State := (s.unlock g).setLstate g .detect

/-- A group stops carrying anything, without a cause (R333, R334). -/
def State.linkStops (s : State) (g : Nat) (st : LState) : State :=
  let s := if s.linkActive g then s.linkDiscards g else s.setLink g (s.link g).idle
  ((s.unlock g).clr (R.RAW_STAT_LOCKED g)).setLstate g st

/-- Group g takes the state that MODE, the start, the pair and its power domain give it (R333 to R335, R360, R387); in SHUTDOWN its transmitters are
idle (R408). A link or raw group that already runs goes on. -/
def State.linkSettle (s : State) (g : Nat) : State :=
  let mode := s.rd (R.LINK_CTL_MODE g)
  if mode = 0 then (if s.lstate g = .off then s else s.linkStops g .off)
  else if s.linkHeld g then (if s.lstate g = .pending then s else s.linkStops g .pending)
  else if s.dstate (88 + g) ≠ .on ∨ s.isShutdown then (if s.lstate g = .off then s else s.linkStops g .off)
  else match mode, s.lstate g with
    | 2, .raw => s
    | 2, _ => s.linkStops g .raw
    | _, .off | _, .pending | _, .raw => (s.linkStops g .off).toDetect g
    | _, _ => s

/-- Every group takes its state anew. -/
def State.linksSettle (s : State) : State := s.each (List.range 24) State.linkSettle

end Sys2Proof.Machine
end

