-- ==== Sys2Proof/Machine/Network.lean ====
section
/-! DEFINITION. Waystations (08_olicor_network.md, R233 to R257): ingress, hops, credits, answers and their timeouts, isolation,
route epochs, and requests to domains that close or are off. -/

namespace Sys2Proof.Machine

/-! ## Ingress and hops (R235, R236, R238 to R246, R249) -/

/-- A packet of the network that did not enter its buffer, or left it at once: a request is answered DECODE, any other is discarded and counted (R235,
R246). -/
def State.undeliverable (s : State) (n : Nat) (vn : VNet) (p : Packet) : State :=
  match vn with
  | .req => s.reply (packetRequest p) .decode
  | .rsp | .sys => s.lateDrop n

/-- The epoch that station n stamps (R249, R250). -/
def State.stamp (s : State) (n : Nat) : Bool :=
  let cur := s.is1 R.NET_EPOCH_CUR
  match s.epoch with
  | some e => if e.setAt.contains n then !cur else cur
  | none => cur

/-- A rehash holds the requests that go to the larder (R275). -/
def State.rehashHolds (s : State) : Bool :=
  match s.larder.op with
  | some (.rehash _ hold) => hold
  | some .clean | some (.flush _) | none => false

/-- A decoded request is an SDRAM-range one of this device (R263). -/
def State.toLarder (s : State) (p : Packet) : Bool :=
  p.dstDev == s.rd R.NET_CFG_DEV_NUM && decide (p.addr % 2 ^ 44 < 0x30000000000) && (reqOp p.op == some .rd || reqOp p.op == some .wr)

/-- A request as its ingress decodes and stamps it (R235, R236, R243, R244, R249), or the code that answers it: DECODE, and DENIED for an SDRAM-range
request while step 5 tests the larder (R456). A rehash holds an SDRAM-range request undecoded (R275), also one that a window sends to this device. -/
def State.decoded (s : State) (n : Nat) (p : Packet) : Resp ⊕ Flight :=
  match reqOp p.op with
  | none => .inl .decode
  | some op =>
    if !(packetSizeOk p) then .inl .decode
    else if s.toLarder p && s.rd R.START_STAT_STEP == 5 && s.sliceSet.isEmpty then .inl .denied
    else
      let q := match op with
        | .rd | .wr => s.decodeAddr 17 p
        | .nrd | .nwr => if p.addr < 2 ^ 44 then some p else none
      match q with
      | none => .inl .decode
      | some q =>
        if s.rehashHolds && s.toLarder q then .inr ⟨none, p⟩
        else match s.routeNode q with
          | none => .inl .decode
          | some node => .inr ⟨some node, { q with epoch := s.stamp n }⟩

/-- A request passes its ingress: buffered, or answered, which frees what it took of the buffer (R344). -/
def State.ingress (s : State) (n port : Nat) (p : Packet) : State :=
  match s.decoded n p with
  | .inl code => (s.reply (packetRequest p) code).freeFlits n port 0 p
  | .inr f => s.pushBuf n port 0 f

/-- A request that comes over a start link before STARTED goes to another node than one on L0 of this device (R334); one whose address decodes to nothing
goes to none. -/
def State.startRefuses (s : State) (p : Packet) : Bool :=
  match reqOp p.op with
  | some .rd | some .wr => (match s.decodeAddr 17 p with | some q => s.startBars q.dstDev q.dstNode | none => false)
  | some .nrd | some .nwr => s.startBars p.dstDev p.dstNode
  | none => false

/-- A request packet enters at port `port` of station n, over a link with HOPS counted down, from an initiator of the device with HOPS
15 (R245); a start link carries none but to nodes on L0 (R334). -/
def State.enterRequest (s : State) (n port : Nat) (p : Packet) : State :=
  if linkPort n port && p.hops == 0 then (s.reply (packetRequest p) .decode).freeFlits n port 0 p
  else if linkPort n port && s.startRefuses p then (s.reply (packetRequest p) .denied).freeFlits n port 0 p
  else s.ingress n port { p with hops := if linkPort n port then p.hops - 1 else 15 }

/-- Station n exists and runs: its memory die is not mapped out (R30, R38). -/
def State.stationRuns (s : State) (n : Nat) : Bool := stationExists (n / 32) (n % 32) && !(s.dieOut (n / 32))

/-- REQUEST_INGRESS (R243 to R245, R249, R275): a request enters at an endpoint's port, or at the port of an ACTIVE link. Without room in
the buffer nothing enters (R239); a flit with OPCODE 0x00 is idle and begins no packet (R233). -/
def execRequestIngress (n : Fin 192) (port : Fin 16) (p : Packet) (s : State) : Host.Outcome State Fault Refusal :=
  let s := s.quiet
  if p.op = 0 || p.vn ≠ .req || !(s.stationRuns n.val) || !(s.hasRoom n.val port.val 0 p) ||
      (linkPort n.val port.val && !(s.linkActive n.val)) then .next s
  else .next (s.enterRequest n.val port.val p)

/-- A packet other than a request is of the kind and form of its network (R235, R236, R242); one that is not formed as R236 says is discarded like one
of the wrong kind (DEDUCED, log entry 235). -/
def packetKindOk (vn : VNet) (viaLink : Bool) (p : Packet) : Bool :=
  match vn with
  | .rsp => (p.op == 0x40 || p.op == 0x41) && responseOk p
  | .sys => decide (0x80 ≤ p.op) && decide (p.op ≤ 0x83) && !viaLink && p.len == 0
  | .req => false

/-- The request of port `port` of station n that a packet answers has its answer (R253). -/
def State.delivAnswered (s : State) (n port : Nat) (p : Packet) : State :=
  { s with deliv := s.deliv.filter fun e =>
      !(e.station == n && e.port == port && e.rq.ini == ⟨p.dstDev, p.dstNode⟩ && e.rq.tag == p.tag) }

/-- A packet of the response or system network enters at a port (R235, R242, R245, R249): the request that it answers is answered;
a packet of the wrong kind, one with HOPS used up, or one that a start link may not carry (R334), is discarded and counted; an idle flit is no packet
(R233). -/
def State.enterPacket (s : State) (n port : Nat) (vn : VNet) (p : Packet) : State :=
  let viaLink := linkPort n port
  if p.op = 0 then s
  else if p.vn ≠ vn || !(packetKindOk vn viaLink p) || (viaLink && (p.hops == 0 || s.startBars p.dstDev p.dstNode)) then
    (s.lateDrop n).freeFlits n port (vnNum vn) p
  else
    let s := if vn = .rsp then s.delivAnswered n port p else s
    match s.routeNode p with
    | none => (s.lateDrop n).freeFlits n port (vnNum vn) p
    | some node =>
      s.pushBuf n port (vnNum vn) ⟨some node, { p with hops := (if viaLink then p.hops - 1 else 15), epoch := s.stamp n }⟩

/-- The address offset of an NRD or NWR to a CSR endpoint is one that R243 routes there (R235). -/
def csrEndpointOk (node : Nat) (rq : Request) : Bool :=
  node % 16 != 15 || (match rq.acc.op with | .nrd | .nwr => csrNode rq.acc.addr == some node | .rd | .wr => true)

/-- A request reaches the port of link g (R232, R333, R334, R344, R349): DECODE where the group belongs to a 16-lane link, DENIED where
the link is not ACTIVE or may not carry it; otherwise it leaves in a frame and is timed. None: it waits in its input buffer. -/
def State.linkRequest (s : State) (g : Nat) (p : Packet) : Option State :=
  let rq := packetRequest p
  if g % 2 = 1 ∧ s.rd (R.LINK_CTL_MODE (g - 1)) = 1 ∧ s.rd (R.LINK_CTL_WIDTH (g - 1)) = 4 then some (s.replyFrom (nodeId 0 g 0) rq .decode)
  else if !(s.linkActive g) || s.startBars p.srcDev p.srcNode then some (s.replyFrom (nodeId 0 g 0) rq .denied)
  else if 256 ≤ (s.deliv.filter fun e => e.station == g && e.port == 0).length then none
  else (s.linkSend g .req p).map fun s => { s with deliv := s.deliv ++ [⟨g, 0, rq, false⟩] }

/-- A response or system packet reaches the port of link g (R334, R344, R349). -/
def State.linkOther (s : State) (g : Nat) (vn : VNet) (p : Packet) : Option State :=
  if vn = .sys || !(s.linkActive g) || s.startBars p.srcDev p.srcNode then some (s.lateDrop g) else s.linkSend g vn p

/-- A request reaches its port (R232, R237, R253, R255 to R257): answered by the waystation, held for the domain, or delivered and
timed. None: it waits in its input buffer, also while the endpoint withholds credit. -/
def State.deliverReq (s : State) (n port : Nat) (p : Packet) : Option State :=
  let rq := packetRequest p
  if s.bit (R.WS_ISOL_ISOLATED n) port then some (s.replyFrom (16 * n + port) rq .isolated)
  else if linkPort n port then s.linkRequest n p
  else if !(endpointAt n port true) || s.endpointOut n port || !(csrEndpointOk (16 * n + port) rq) then some (s.reply rq .decode)
  else if s.endpointTested n port then some (s.reply rq .testbusy)
  else
    match (match endpointDomain n port with | some d => s.meetDomain d n port rq | none => some (s, true)) with
    | none => none
    | some (s', false) => some s'
    | some (s', true) =>
      if 256 ≤ (s.deliv.filter fun e => e.station == n && e.port == port).length || s.endpointFull n port rq then none
      else some ((({ s' with deliv := s'.deliv ++ [⟨n, port, rq, false⟩] } : State).emit (.deliver n port (s'.flitWith n port p) p)).payCredits n port)

/-- The epoch change sees a packet of the old epoch enter an input whose mark came before: the mark and the station's report no longer stand, so that
the old epoch has drained when all have reported (R250; log entry 236). -/
def State.unmark (s : State) (n input vn : Nat) (p : Packet) : State :=
  match s.epoch with
  | none => s
  | some e =>
    let old := s.is1 R.NET_EPOCH_CUR == !(s.is1 R.NET_EPOCH_DRAINING)
    if p.epoch ≠ old then s
    else { s with epoch := some { e with marks := e.marks.filter (· ≠ bufKey n input vn), reported := e.reported.filter (· ≠ n) } }

/-- A packet is sent on an output of station n to the input behind it (R239, R246); none: it waits for credits. A mapped-out die takes nothing: the
packet is handled as one without a route (R38). Its header flit carries the credits that station n owes on the reverse direction of the hop (R240). -/
def State.sendOn (s : State) (n code : Nat) (vn : VNet) (f : Flight) : Option State :=
  match behind n code with
  | none => some (s.undeliverable n vn f.pkt)
  | some (m, input) =>
    if s.dieOut (m / 32) then some (s.undeliverable n vn f.pkt)
    else if !(s.hasRoom m input (vnNum vn) f.pkt) then none
    else some ((((s.pushBuf m input (vnNum vn) f).unmark m (if 26 ≤ input then input - 6 else input) (vnNum vn) f.pkt).emit
      (.hop n code (s.flitWith n (inputFrom code) f.pkt) f.pkt)).payCredits n (inputFrom code))

/-- A packet is forwarded by its route (R246); none: it waits for credits, for its port, or for the end of a rehash. -/
def State.routePacket (s : State) (n : Nat) (vn : VNet) (f : Flight) : Option State :=
  match f.dest with
  | none => none
  | some node =>
    if 192 ≤ node / 16 then some (s.undeliverable n vn f.pkt)
    else
      let code := s.rd (rtFld n f.pkt.epoch.toNat (node / 16))
      if code ≠ 0 then s.sendOn n code vn f
      else match vn with
        | .req => s.deliverReq n (node % 16) f.pkt
        | .rsp | .sys =>
          if linkPort n (node % 16) then s.linkOther n vn f.pkt
          else some (if endpointAt n (node % 16) false then
            (s.emit (.deliver n (node % 16) (s.flitWith n (node % 16) f.pkt) f.pkt)).payCredits n (node % 16) else s.lateDrop n)

/-- Station n holds no packet of an epoch (R250). -/
def State.holdsNone (s : State) (n : Nat) (epoch : Bool) : Bool :=
  s.bufs.all fun e => !(e.1 / 128 == n && e.2.pkts.any fun f => f.dest.isSome && f.pkt.epoch == epoch)

/-- Link inputs of station n whose other end runs (R38, R250). -/
def State.liveInputs (s : State) (n : Nat) : List Nat :=
  (linkInputs n).filter fun i => i < 20 || !(s.dieOut (i - 20))

/-- Station n reports once it stamps with the new epoch, has marks on all its inputs, and holds no packet of the old one
(R250). -/
def State.epochReport (s : State) (n : Nat) : State :=
  match s.epoch with
  | none => s
  | some e =>
    let draining := s.is1 R.NET_EPOCH_DRAINING
    let old := s.is1 R.NET_EPOCH_CUR == !draining
    if (draining || e.setAt.contains n) && !(e.reported.contains n) && s.holdsNone n old &&
        (s.liveInputs n).all (fun i => [0, 1, 2].all fun v => e.marks.contains (bufKey n i v)) then
      { s with epoch := some { e with reported := e.reported ++ [n] } }
    else s

/-- A header that cannot be corrected (R238): the packet is discarded, its buffer freed, counted and logged. -/
def State.headerError (s : State) (n input vn : Nat) : State :=
  if (s.buf (bufKey n input vn)).pkts = [] then s
  else ((s.popBuf n input vn).lateDrop n).log .netHdrErr [n, input]

/-- A data word of the oldest buffered packet fails parity: its POISON bit is set (R238). -/
def State.parityError (s : State) (k word : Nat) : State :=
  let x := s.buf k
  match x.pkts with
  | [] => s
  | f :: fs =>
    if word < 8 * f.pkt.len then
      s.setBuf k { x with pkts := { f with pkt := { f.pkt with poison := f.pkt.poison ||| 2 ^ word } } :: fs }
    else s

/-- The oldest packet of a transit buffer goes on to the receiving station unchanged (R29); its header flit carries the credits of the transit station's
buffer of the other direction, ahead of the station at the far end (R240). -/
def State.transit (s : State) (n input vn : Nat) : State :=
  match (s.buf (bufKey n input vn)).pkts with
  | [] => s
  | f :: _ =>
    if s.hasRoom n (input - 6) vn f.pkt then
      let s := (s.popBuf n input vn).pushBuf n (input - 6) vn f
      match upstream n (input - 6) with
      | some m => s.payCredits m (26 + n / 32)
      | none => s
    else s

/-- The oldest packet of an input buffer is routed (R246). -/
def State.hopOldest (s : State) (n input : Nat) (vn : VNet) : State :=
  match (s.buf (bufKey n input (vnNum vn))).pkts with
  | [] => s
  | f :: _ =>
    match s.routePacket n vn f with
    | none => s
    | some s' => ((s'.popBuf n input (vnNum vn)).epochReport n).resetsOut

/-- PACKET_HOP (R29, R238, R242, R246): at a station of a mapped-out die, and in a transit station that relays its links, nothing happens (R38); a
transit buffer (inputs 26 to 31) has no parity check of its own, and moves packets unchanged (R29). -/
def execPacketHop (n : Fin 192) (input : Fin 32) (vn : VNet) (act : HopAct) (s : State) : Host.Outcome State Fault Refusal :=
  let s := s.quiet
  if !(s.stationRuns n.val) then .next s
  else .next (match act with
    | .enter p =>
      if input.val < 16 ∧ vn ≠ .req ∧ s.hasRoom n.val input.val (vnNum vn) p ∧
          !(linkPort n.val input.val && !(s.linkActive n.val)) then s.enterPacket n.val input.val vn p else s
    | .route =>
      if 26 ≤ input.val then (if s.dieOut (input.val - 26) then s else s.transit n.val input.val (vnNum vn))
      else s.hopOldest n.val input.val vn
    | .parity w => if 26 ≤ input.val then s else s.parityError (bufKey n.val input.val (vnNum vn)) w.val
    | .header => if 26 ≤ input.val then s else (s.headerError n.val input.val (vnNum vn)).epochReport n.val)

/-- CREDIT_RETURN (R240, R344): no packet has taken them along, and up to 8 credits of flits that left the buffer go back in the credit fields of an idle
flit; on an ACTIVE link, in a credit-only sequenced frame. -/
def execCreditReturn (n : Fin 192) (input : Fin 32) (vn : VNet) (s : State) : Host.Outcome State Fault Refusal :=
  let s := s.quiet
  let k := bufKey n.val input.val (vnNum vn)
  let x := s.buf k
  let c := min 8 x.gone
  if c = 0 ∨ s.stationRuns n.val = false ∨ (26 ≤ input.val ∧ s.dieOut (input.val - 26) = true) then .next s
  else if linkPort n.val input.val then
    if s.linkActive n.val && vn ≠ .sys && decide ((s.link n.val).sent.length < 64) then .next (s.beginFrame n.val [])
    else .next s
  else .next ((s.setBuf k { x with gone := x.gone - c }).emit (.credits n.val input.val (vnNum vn) c (idleFlit vn c)))

/-! ## Answers and their timeouts (R241, R252) -/

/-- An answer arrives (R241, R252): one that a request of the node waits for is there to be consumed; one that matches no reservation, or
comes after the timeout, is discarded and counted, and the tag of a timed-out request is free again. -/
def State.responseArrives (s : State) (node tag : Nat) (a : Answer) : State :=
  let mine := fun o : Outst => o.node == node && o.tag == tag
  match s.outst.find? mine with
  | none => s.lateDrop (nodeStation node)
  | some o =>
    if o.late then (s.freeLate mine).lateDrop (nodeStation node)
    else if o.ans ≠ none then s.lateDrop (nodeStation node)
    else { s with outst := s.outst.map (fun x => if mine x then { x with ans := some a } else x) }

/-- A request of the node times out (R252): the initiator hands itself TIMEOUT, and the reserved space is released; the tag stays
unused. -/
def State.initiatorTimesOut (s : State) (node tag : Nat) : State :=
  let mine := fun o : Outst => o.node == node && o.tag == tag && o.ans == none
  { s with outst := s.outst.map (fun o =>
    if mine o then { o with late := true, space := 0, ans := some ⟨.timeout, [], 0⟩ } else o) }

/-! ## Isolation (R253) -/

/-- Isolate port `port` of station n: requests held for it are answered ISOLATED (R253). -/
def State.isolate (s : State) (n port : Nat) : State :=
  let s := (s.setBit (R.WS_ISOL_ISOLATED n) port).log .netIsolate [16 * n + port]
  let mine := s.park.filter fun e => e.station == n && e.port == port
  let rest := s.park.filter fun e => !(e.station == n && e.port == port)
  let s : State := { s with park := rest, expiries := storeSet [] (16 * n + port) [] s.expiries }
  mine.foldl (fun s e => s.reply e.rq .isolated) s

/-- TARGET_TIMEOUT (R253): the timer of a delivered request expires; the fourth within 1 ms (156,250 reference cycles) on one port
isolates it. -/
def execTargetTimeout (n : Fin 192) (port : Fin 16) (ini : Ini) (tag : BitVec 8) (s : State) : Host.Outcome State Fault Refusal :=
  let s := s.quiet
  let mine := fun e : Deliv => e.station == n.val && e.port == port.val && e.rq.ini == ini && e.rq.tag == tag.toNat && !e.late
  if !(s.deliv.any mine) then .next s
  else
    let s : State := { s with deliv := s.deliv.map fun e => if mine e then { e with late := true } else e }
    let s := s.bump (R.WS_STAT_TMO n.val)
    let node := 16 * n.val + port.val
    let times := ((storeGet [] node s.expiries).filter fun t => decide (s.now < t + 156250)) ++ [s.now]
    if 4 ≤ times.length && !(s.bit (R.WS_ISOL_ISOLATED n.val) port.val) then .next (s.isolate n.val port.val)
    else .next { s with expiries := storeSet [] node times s.expiries }

/-- A write to WS_ISOL_n (R253): writing 1 to a bit readmits the port and restarts its count. -/
def wrWsIsol (s : State) (n : Nat) (v : BitVec 32) : State :=
  (s.w1c (R.WS_ISOL_ISOLATED n) v).each (indicesWith 16 v.toNat.testBit) fun s p =>
    { s with expiries := storeSet [] (16 * n + p) [] s.expiries }

/-- PORT_READMIT (R253). -/
def execPortReadmit (ini : Ini) (n : Fin 192) (value : BitVec 32) (s : State) : Host.Outcome State Fault Refusal :=
  let s := s.quiet
  if stationExists (n.val / 32) (n.val % 32) then
    .next (s.written ini (R.WS_ISOL_ISOLATED n.val).off fun s => wrWsIsol s n.val value)
  else .next (s.emit (.regAnswer ini .decode 0))

/-! ## Route epochs (R249, R250) -/

/-- The waystations that take part in an epoch change. -/
def State.liveStations (s : State) : List Nat :=
  indicesWith 192 fun n => stationExists (n / 32) (n % 32) && !(s.dieOut (n / 32))

/-- A write to NET_EPOCH (R250): FLIP begins a change, or is refused while one drains or begins (log entry 47). -/
def wrNetEpoch (s : State) (v : BitVec 32) : State :=
  let s := s.w1cOnly .NET_EPOCH v
  if R.NET_EPOCH_FLIP.of v = 0 then s
  else if s.epoch.isSome then s.set1 R.NET_EPOCH_ERR
  else (s.liveStations.foldl (fun s n => s.emit (.sys (16 * n) 0x81 (1 - s.rd R.NET_EPOCH_CUR))) { s with epoch := some {} })

/-- EPOCH_FLIP (R250). -/
def execEpochFlip (ini : Ini) (value : BitVec 32) (s : State) : Host.Outcome State Fault Refusal :=
  .next (s.quiet.written ini (R.NET_EPOCH_CUR).off fun s => wrNetEpoch s value)

/-- EPOCH_SET (R250): station n stamps with the new epoch from now on; when the last has done so CUR changes, and the old epoch
drains. -/
def execEpochSet (n : Fin 192) (s : State) : Host.Outcome State Fault Refusal :=
  let s := s.quiet
  match s.epoch with
  | none => .next s
  | some e =>
    if s.is1 R.NET_EPOCH_DRAINING || e.setAt.contains n.val || !(s.liveStations.contains n.val) then .next s
    else
      let got := e.setAt ++ [n.val]
      let s := if s.liveStations.all got.contains then
          ((s.incr R.NET_EPOCH_CUR).set1 R.NET_EPOCH_DRAINING : State)
        else s
      let s : State := { s with epoch := some { e with setAt := if s.is1 R.NET_EPOCH_DRAINING then [] else got } }
      .next (s.epochReport n.val)

/-- Station m has sent its last packet of the old epoch on one virtual network: it stamps with the new epoch, and its buffers hold none of the old one
(R250). -/
def State.markSent (s : State) (e : EpochChange) (m vn : Nat) : Bool :=
  let draining := s.is1 R.NET_EPOCH_DRAINING
  let old := s.is1 R.NET_EPOCH_CUR == !draining
  (draining || e.setAt.contains m) &&
  s.bufs.all fun b => !(b.1 / 128 == m && b.1 % 4 == vn && b.2.pkts.any fun f => f.dest.isSome && f.pkt.epoch == old)

/-- The mark of a relayed link is through its transit buffer: no packet of the old epoch is before it there (R29, R250). -/
def State.relayClear (s : State) (n input vn : Nat) : Bool :=
  let old := s.is1 R.NET_EPOCH_CUR == !(s.is1 R.NET_EPOCH_DRAINING)
  input < 20 || !((s.buf (bufKey n (input + 6) vn)).pkts.any fun f => f.pkt.epoch == old)

/-- EPOCH_MARK (R250): station n receives a mark on an input, once the station at its other end has sent its last packet of the old epoch there; with
all its inputs marked and the old epoch gone it reports. -/
def execEpochMark (n : Fin 192) (input : Fin 32) (vn : VNet) (s : State) : Host.Outcome State Fault Refusal :=
  let s := s.quiet
  match s.epoch with
  | none => .next s
  | some e =>
    let k := bufKey n.val input.val (vnNum vn)
    let sent := match upstream n.val input.val with
      | some m => s.markSent e m (vnNum vn) && s.relayClear n.val input.val (vnNum vn)
      | none => false
    if !((s.liveInputs n.val).contains input.val) || e.marks.contains k || !sent || !(s.stationRuns n.val) then .next s
    else .next (({ s with epoch := some { e with marks := e.marks ++ [k] } } : State).epochReport n.val)

/-- DRAIN_COMPLETE (R250): every waystation has reported. -/
def execDrainComplete (s : State) : Host.Outcome State Fault Refusal :=
  let s := s.quiet
  match s.epoch with
  | none => .next s
  | some e =>
    if s.is1 R.NET_EPOCH_DRAINING && s.liveStations.all e.reported.contains then
      .next { s.clr R.NET_EPOCH_DRAINING with epoch := none }
    else .next s

/-- EPOCH_STUCK (R250): DRAINING is still 1 after 1 ms, once in a drain; the drain goes on. -/
def execEpochStuck (s : State) : Host.Outcome State Fault Refusal :=
  let s := s.quiet
  match s.epoch with
  | some e =>
    if s.is1 R.NET_EPOCH_DRAINING && !e.stuck then
      .next ((({ s with epoch := some { e with stuck := true } } : State).set1 R.NET_EPOCH_STUCK).log .netEpochStuck [])
    else .next s
  | none => .next s

/-- Bank b of the route tables is in use (R250): it matches CUR, or it is the old bank while the old epoch drains. -/
def State.rtInUse (s : State) (b : Nat) : Bool := b == s.rd R.NET_EPOCH_CUR || s.is1 R.NET_EPOCH_DRAINING

/-- A write to WS_RT_n[b][i] (R250). -/
def wrRouteTable (s : State) (n b i : Nat) (v : BitVec 32) : State :=
  if s.rtInUse b then s.set1 (R.WS_STAT_RT_ERR n) else s.storeReg (.WS_RT n b i) v

/-- ROUTE_TABLE_WRITE (R250). -/
def execRouteTableWrite (ini : Ini) (n : Fin 192) (b : Fin 2) (i : Fin 24) (value : BitVec 32) (s : State) :
    Host.Outcome State Fault Refusal :=
  let s := s.quiet
  if stationExists (n.val / 32) (n.val % 32) then
    .next (s.written ini (rtFld n.val b.val (8 * i.val)).off fun s => wrRouteTable s n.val b.val i.val value)
  else .next (s.emit (.regAnswer ini .decode 0))

/-! ## Domains that close or are off (R255, R256) -/

/-- Requests delivered to domain d and not answered: those the waystations time, those in region ports, and block RAM window
accesses in progress. -/
def State.unanswered (s : State) (d : Nat) : List (Nat × Request) :=
  let timed := (s.deliv.filter fun e => endpointDomain e.station e.port == some d).map fun e => (e.station, e.rq)
  if d < 64 then
    let extra := (List.range 4).flatMap (fun p => (s.port d p).inq) ++ (s.bwin.filter fun w => w.block / 192 == d).map (·.rq)
    timed ++ (extra.filter fun r => !(timed.any fun t => t.2 == r)).map fun r => (regionStation d, r)
  else timed

/-- POINT_OF_NO_RETURN (R96, R255): not while a spill of the region is in progress; the waystation closes the domain's ports, answers ABORTED to every
unanswered request, and drops the domain's reservations. -/
def execPointOfNoReturn (d : Fin 112) (s : State) : Host.Outcome State Fault Refusal :=
  let s := s.quiet
  if s.dstate d.val ≠ .closing || (s.dom d.val).pnr || (decide (d.val < 64) && s.is1 (R.REGION_STATUS_SPILLING d.val)) then .next s
  else
    let open' := s.unanswered d.val
    let s := s.setDom d.val { s.dom d.val with pnr := true }
    let s : State := { s with deliv := s.deliv.filter fun e => endpointDomain e.station e.port ≠ some d.val }
    let s := open'.foldl (fun s e => (s.reply e.2 .aborted).bump (R.WS_STAT_ABORTED e.1)) s
    if d.val < 64 then
      let s : State := { s with bwin := s.bwin.filter fun w => w.block / 192 != d.val }
      .next (s.each (List.range 4) fun s p =>
        (s.setPort d.val p { s.port d.val p with inq := [], waiting := [] }).dropOutst (regionNode d.val p))
    else .next s

/-- WAKE (R255): the packet reaches the network controller: a domain that is OFF with requests held powers up; a wake that is
refused answers them ABORTED. -/
def execWake (d : Fin 112) (s : State) : Host.Outcome State Fault Refusal :=
  let s := s.quiet
  if s.dstate d.val = .off ∧ s.park.any (fun e => e.dom == d.val) then .next (s.wake d.val) else .next s

end Sys2Proof.Machine
end

