-- ==== Sys2Proof/Machine/Protect.lean ====
section
/-! DEFINITION. Stored-data protection (10_stored_data_protection.md, R289 to R300, R304): the byte code, word status, counting,
the repeat-correction tracker with its row repairs, and the corruption of a write. A stored byte is the number
256 × error + data, where error is the exclusive or of the stored check bits with the proper ones. -/

namespace Sys2Proof.Machine

/-! ## The byte code (R289, R290) -/

/-- Exclusive or of bits i of a byte. -/
def xorBits (d : Nat) (is : List Nat) : Bool := is.foldl (fun p i => p ^^ d.testBit i) false

/-- The proper check bits p, c8, c4, c2, c1 of a data byte (R289). -/
def checkOf (d : Nat) : Nat :=
  let c1 := xorBits d [0, 1, 3, 4, 6]
  let c2 := xorBits d [0, 2, 3, 5, 6]
  let c4 := xorBits d [1, 2, 3, 7]
  let c8 := xorBits d [4, 5, 6, 7]
  let p := xorBits d [0, 1, 2, 3, 4, 5, 6, 7] ^^ c1 ^^ c2 ^^ c4 ^^ c8
  c1.toNat + 2 * c2.toNat + 4 * c4.toNat + 8 * c8.toNat + 16 * p.toNat

/-- How a stored byte decodes (R290). -/
inductive ByteSt where
  | good
  | fixed (data : Nat)
  | bad
  | mark
  deriving DecidableEq, Repr

/-- The data bit at a position of the code (R289). -/
def dataBit : Nat → Option Nat
  | 3 => some 0 | 5 => some 1 | 6 => some 2 | 7 => some 3 | 9 => some 4 | 10 => some 5 | 11 => some 6 | 12 => some 7
  | _ => none

/-- Decode a stored byte (R290): the syndrome is the low four bits of the error, and the overall parity fails when the error has
an odd number of bits. -/
def decodeByte (c : Nat) : ByteSt :=
  let d := c % 256
  let e := c / 256 % 32
  let syn := e % 16
  let q := xorBits e [0, 1, 2, 3, 4]
  if e = 0 then .good
  else if !q then .bad
  else if syn = 15 then .mark
  else if 13 ≤ syn then .bad
  else match dataBit syn with
    | some i => .fixed (d ^^^ 2 ^ i)
    | none => .fixed d

/-- The stored form of a data byte with its proper check bits. -/
def goodCell (d : Nat) : Nat := d % 256

/-- The stored form of a mark (R290): the check bits are the complement of the proper ones; the data bits stay. -/
def markCell (d : Nat) : Nat := 256 * 31 + d % 256

/-- A stored byte with masks applied to its data and check bits (R304). -/
def flipCell (c data check : Nat) : Nat :=
  let d := c % 256
  let stored := checkOf d ^^^ (c / 256 % 32) ^^^ check
  let d' := (d ^^^ data) % 256
  256 * ((stored ^^^ checkOf d') % 32) + d'

/-! ## Word status (R291) -/

/-- The status of a word (R291). -/
inductive WordSt where
  | good | corrected | marked | bad
  deriving DecidableEq, Repr

/-- The status of a word from the stored bytes that a read delivers of it (R291). -/
def wordStatus (cells : List Nat) : WordSt :=
  let st := cells.map decodeByte
  if st.contains .bad then .bad
  else if st.contains .mark then .marked
  else if st.any (fun b => match b with | .fixed _ => true | _ => false) then .corrected
  else .good

/-- The word is delivered poisoned (R291). -/
def WordSt.poisoned : WordSt → Bool
  | .marked | .bad => true
  | .good | .corrected => false

/-- A byte as delivered (R291, R293): corrected, but as stored where its word is poisoned. -/
def deliverByte (poisoned : Bool) (c : Nat) : Nat :=
  match decodeByte c with
  | .fixed d => if poisoned then c % 256 else d
  | .good | .bad | .mark => c % 256

/-- What a read delivers of stored bytes: for each byte its payload position and its stored form (R236, R291). The payload words
are judged over the bytes that they carry. -/
def deliver (bs : List (Nat × Nat)) : List Byte × Nat :=
  let st := fun w => wordStatus ((bs.filter fun b => b.1 / 8 == w).map (·.2))
  let p := (List.range 17).foldl (fun q w => if (st w).poisoned then q ||| 2 ^ w else q) 0
  (bs.map fun b => BitVec.ofNat 8 (deliverByte (p.testBit (b.1 / 8)) b.2), p)

/-- The stored bytes of a write (R292): freshly coded, or marks where their payload word is poisoned. -/
def writtenCell (poison pos : Nat) (b : Byte) : Nat :=
  if poison.testBit (pos / 8) then markCell b.toNat else goodCell b.toNat

/-- Payload words of an access that its poison marks and its bytes reach (R292). -/
def poisonedWords (a : Access) : Nat :=
  (indicesWith 17 fun w => a.poison.testBit w && decide (a.addr % 8 < 8 * w + 8 ∧ 8 * w < a.addr % 8 + a.size)).length

/-! ## Where protected words lie -/

/-- A protected word's unit: a larder slice, or a scratchpad bank. -/
inductive Unit' where
  | slice (k : Nat)
  | bank (b : Nat)
  deriving DecidableEq, Repr

/-- The memory die of a unit: 0 L4, 1 L5. -/
def Unit'.die : Unit' → Nat
  | .slice k => k / 64
  | .bank b => b / 1024

/-- The tracker of a unit, numbered 96 × die + u (R295). -/
def Unit'.tracker : Unit' → Nat
  | .slice k => 96 * (k / 64) + k % 64
  | .bank b => 96 * (b / 1024) + 64 + b % 1024 / 32

/-- The unit as UNIT_KIND and index (R453). -/
def Unit'.kind : Unit' → Nat × Nat
  | .slice k => (3, k)
  | .bank b => (4, b)

/-- Spare rows of a unit (R297, R453). -/
def Unit'.spareRows : Unit' → Nat
  | .slice _ => 24
  | .bank _ => 4

/-- Local address of byte `off` of bank b (R279). -/
def bankAddr (b off : Nat) : Nat := 0x40000000000 + b * 0x20000 + off

/-- A stored byte of a bank. -/
def State.bankCell (s : State) (b off : Nat) : Nat := storeGet 0 (b * 0x20000 + off % 0x20000) s.spad
/-- Store a byte of a bank. -/
def State.setBankCell (s : State) (b off c : Nat) : State :=
  { s with spad := storeSet 0 (b * 0x20000 + off % 0x20000) c s.spad }

/-- Larder line l. -/
def State.line (s : State) (l : Nat) : Option Line := storeGet none l s.larder.lines
/-- Replace or drop larder line l. -/
def State.setLine (s : State) (l : Nat) (x : Option Line) : State :=
  { s with larder := { s.larder with lines := storeSet none l x s.larder.lines } }

/-- The stored byte at a local address of a unit; a line that is not there reads 0. -/
def State.cellAt (s : State) (u : Unit') (addr : Nat) : Nat :=
  match u with
  | .bank b => s.bankCell b addr
  | .slice _ => match s.line (addr / 128 % 2 ^ 35) with
    | some x => storeGet 0 (addr % 128) x.cells
    | none => 0

/-- Store a byte at a local address of a unit. -/
def State.setCellAt (s : State) (u : Unit') (addr c : Nat) : State :=
  match u with
  | .bank b => s.setBankCell b addr c
  | .slice _ => match s.line (addr / 128 % 2 ^ 35) with
    | some x => s.setLine (addr / 128 % 2 ^ 35) (some { x with cells := storeSet 0 (addr % 128) c x.cells })
    | none => s

/-- The eight stored bytes of the word at an address. -/
def State.wordCells (s : State) (u : Unit') (addr : Nat) : List Nat :=
  (List.range 8).map fun i => s.cellAt u (addr / 8 * 8 + i)

/-- Write all 8 bytes of a word back corrected (R303). -/
def State.rewriteWord (s : State) (u : Unit') (addr : Nat) : State :=
  s.each (List.range 8) fun s i =>
    let a := addr / 8 * 8 + i
    s.setCellAt u a (goodCell (deliverByte false (s.cellAt u a)))

/-- Store all 8 bytes of a word as marks, keeping their data bits (R303). -/
def State.markWord (s : State) (u : Unit') (addr : Nat) : State :=
  s.each (List.range 8) fun s i =>
    let a := addr / 8 * 8 + i
    s.setCellAt u a (markCell (s.cellAt u a))

/-! ## Corruption of the next write (R304) -/

/-- A write has stored into a unit, its lowest word at an address: while ARM names the unit, byte lane BYTE of that word is
corrupted, and ARM clears (R304). -/
def State.afterStore (s : State) (u : Unit') (low : Nat) : State :=
  let d := u.die
  let named := match u with
    | .slice k => !(s.is1 (R.PROT_FLIP_CTL_KIND d)) && s.rd (R.PROT_FLIP_CTL_UNIT d) == k % 64
    | .bank b => s.is1 (R.PROT_FLIP_CTL_KIND d) && s.rd (R.PROT_FLIP_CTL_UNIT d) == b % 1024
  if s.is1 (R.PROT_FLIP_CTL_ARM d) && named then
    let a := low / 8 * 8 + s.rd (R.PROT_FLIP_CTL_BYTE d)
    let c := flipCell (s.cellAt u a) (s.rd (R.PROT_FLIP_MASK_DATA d)) (s.rd (R.PROT_FLIP_MASK_CHECK d))
    (s.setCellAt u a c).clr (R.PROT_FLIP_CTL_ARM d)
  else s

/-! ## The tracker (R295 to R297) -/

/-- The entries of tracker t, oldest first. -/
def State.track (s : State) (t : Nat) : List TrackEntry := storeGet [] t s.trackers
/-- Replace the entries of tracker t. -/
def State.setTrack (s : State) (t : Nat) (es : List TrackEntry) : State := { s with trackers := storeSet [] t es s.trackers }

/-- The spares of a unit. -/
def State.spareSet (s : State) (k : Nat) : SpareSet := storeGet {} k s.spares
/-- Replace the spares of a unit. -/
def State.setSpareSet (s : State) (k : Nat) (x : SpareSet) : State := { s with spares := storeSet {} k x s.spares }
/-- Where the spares of a unit are kept: UNIT_KIND and index. -/
def spareKey (kind unit : Nat) : Nat := 4096 * kind + unit

/-- The lowest spare row that is neither taken nor unusable. -/
def SpareSet.freeRow (x : SpareSet) (n : Nat) : Option Nat :=
  ((List.range n).filter fun i => !(x.rows.any fun r => r.1 == i) && !(x.badRows.contains i)).head?
/-- The lowest spare column that is neither taken nor unusable. -/
def SpareSet.freeCol (x : SpareSet) (n : Nat) : Option Nat :=
  ((List.range n).filter fun i => !(x.cols.any fun r => r.1 == i) && !(x.badCols.contains i)).head?

/-- The 1 KiB row that holds the word at an address (R297, R453): of a bank, by offset; of a slice, eight ways of a set, in array order (log entry
53). -/
def State.rowOf (s : State) (u : Unit') (addr : Nat) : Nat :=
  match u with
  | .bank _ => addr % 0x20000 / 1024
  | .slice _ => 2 * hashSet addr + (match s.line (addr / 128 % 2 ^ 35) with | some x => x.way / 8 | none => 0)

/-- The addresses of the words that a row of a unit holds now. -/
def State.rowWords (s : State) (u : Unit') (row : Nat) : List Nat :=
  match u with
  | .bank b => (List.range 128).map fun i => bankAddr b (1024 * row + 8 * i)
  | .slice k =>
    let mine := s.larder.lines.filter fun e =>
      hashSet (e.1 * 128) == row / 2 && s.sliceOf (e.1 * 128) == some k &&
      (match e.2 with | some x => x.way / 8 == row % 2 | none => false)
    mine.flatMap fun e => (List.range 16).map fun i => e.1 * 128 + 8 * i

/-- The place of the COUNTING entry with the lowest count, the oldest of them (R296). -/
def lowestCounting (es : List TrackEntry) : Option TrackEntry :=
  es.foldl (fun best e => if e.state ≠ .counting then best else match best with
    | some b => if e.count < b.count then some e else best
    | none => some e) none

/-- A correction of a word counts in its tracker entry (R295, R296); a hard fault is not judged here. -/
def State.trackCount (s : State) (u : Unit') (addr : Nat) : State :=
  let t := u.tracker
  let d := u.die
  let thresh := s.rd (R.PROT_CFG_THRESH d)
  let es := s.track t
  let fresh : TrackEntry := ⟨addr, 1, if thresh ≤ 1 then .queued else .counting, false, false, none⟩
  match es.find? (fun e => e.addr == addr) with
  | some e =>
    if e.state ≠ .counting then s
    else s.setTrack t (es.map fun x => if x.addr = addr then
        { x with count := x.count + 1, again := true, state := if thresh ≤ x.count + 1 then .queued else .counting } else x)
  | none =>
    if es.length < 64 then s.setTrack t (es ++ [fresh])
    else match lowestCounting es with
      | some b => s.setTrack t ((es.filter fun e => e.addr != b.addr) ++ [fresh])
      | none => (s.bump (R.PROT_RECOV_TRACK_DROP d)).bump (R.TRACK_STAT_DROP d (t % 96))

/-! ## Counting what a read finds (R293, R294) -/

/-- Who found an uncorrectable word (PROT_LAST_INFO.FOUND_BY). -/
inductive FoundBy where
  | read (node : Nat) | porter | writeback
  deriving DecidableEq, Repr

/-- PROT_LAST records an uncorrectable word. -/
def State.recordLast (s : State) (u : Unit') (addr : Nat) (cells : List Nat) (by' : FoundBy) : State :=
  let d := u.die
  let bytes := (cells.zipIdx).foldl (fun m c => if decodeByte c.1 = .bad then m ||| 2 ^ c.2 else m) 0
  let s := s.wr64 (R.PROT_LAST_LO_ADDR d) (R.PROT_LAST_HI_ADDR d) addr
  let s := s.wr (R.PROT_LAST_INFO_BYTES d) bytes
  match by' with
  | .read n => (s.wr (R.PROT_LAST_INFO_FOUND_BY d) 0).wr (R.PROT_LAST_INFO_SRC_NODE d) n
  | .porter => (s.wr (R.PROT_LAST_INFO_FOUND_BY d) 1).wr (R.PROT_LAST_INFO_SRC_NODE d) 0
  | .writeback => (s.wr (R.PROT_LAST_INFO_FOUND_BY d) 2).wr (R.PROT_LAST_INFO_SRC_NODE d) 0

/-- The node that an event names as the reader (R294). -/
def FoundBy.node : FoundBy → Nat
  | .read n => n
  | .porter | .writeback => 0

/-! ## The night porter's reads and row repairs (R287, R297, R302, R303) -/

/-- The night porter of die d. -/
def State.porter (s : State) (d : Nat) : Porter := storeGet {} d s.porters
/-- Replace the night porter of die d. -/
def State.setPorter (s : State) (d : Nat) (x : Porter) : State := { s with porters := storeSet {} d x s.porters }

/-- The porter of die d is active and not frozen (PORTER_STAT.RUNNING, R303). -/
def State.porterRuns (s : State) (d : Nat) : Bool :=
  s.is1 (R.PORTER_CTL_EN d) && (s.porter d).started && !(s.dieOut (4 + d)) &&
  !(s.is1 (R.PORTER_CTL_FRZ d) && s.is1 R.DBG_FRZ_ASSERT)

/-- The porter's maintenance path reaches a unit (R287, R302): a slice in service whose quarter is on, in the slice set; a bank that is ON, not mapped
out and not with the test engine. -/
def State.porterReaches (s : State) (u : Unit') : Bool :=
  match u with
  | .slice k => s.sliceIn k && s.inSliceSet k && s.dstate (80 + k / 16) == .on
  | .bank b => s.bankIn b && s.rd (R.BANK_PWR_STATE b) == 0 && s.rd (R.BANK_OWNER_KIND b) != 5 && !(s.underTest.contains (.bank b))

/-- The word at an address lies in a clean larder line (R294, R303). -/
def State.inCleanLine (s : State) (u : Unit') (addr : Nat) : Bool :=
  match u with
  | .slice _ => (match s.line (addr / 128 % 2 ^ 35) with | some x => !x.dirty | none => false)
  | .bank _ => false

/-- The porter reads a word and writes it back where it must (R303): `wrote` is done after the write, `count` counts a correction. True: the line that
held the word was invalidated. -/
def State.porterFix (s : State) (u : Unit') (wrote count : State → State) (addr : Nat) : State × Bool :=
  let cells := s.wordCells u addr
  let d := u.die
  match wordStatus cells with
  | .good | .marked => (s, false)
  | .corrected => (count ((wrote (s.rewriteWord u addr)).bump (R.PROT_CNT_SBE d)), false)
  | .bad =>
    if s.inCleanLine u addr then ((s.setLine (addr / 128 % 2 ^ 35) none).bump (R.PROT_RECOV_RECOVERED d), true)
    else
      let s := s.recordLast u addr cells .porter
      ((wrote (s.markWord u addr)).bump (R.PROT_RECOV_PORTER_UE d) |>.logP 0 .memUePorter [], false)

/-- The porter reads a word (R303), and a correction counts by `count`. A write of the porter counts as a write for R304. -/
def State.porterRead (s : State) (u : Unit') (count : State → State) (addr : Nat) : State × Bool :=
  s.porterFix u (fun s => s.afterStore u addr) count addr

/-- A copy into a spare row corrects a word (R297): a REWRITTEN word is a hard fault that this repair answers, so that its entry is freed; any other
counts in its entry (DESIGN CHOICE, log entry 233). -/
def State.trackCopied (s : State) (u : Unit') (addr : Nat) : State :=
  if (s.track u.tracker).any (fun e => e.addr == addr && e.state == .rewritten) then
    s.setTrack u.tracker ((s.track u.tracker).filter fun e => e.addr != addr)
  else s.trackCount u addr

/-- The words of a row are copied, corrected, into a spare row (R297): one write of the porter for R304, whose lowest word is the row's. -/
def State.copyRow (s : State) (u : Unit') (row : Nat) : State :=
  let ws := s.rowWords u row
  let s := s.each ws fun s a => (s.porterFix u id (fun s => s.trackCopied u a) a).1
  match ws with
  | [] => s
  | a :: _ => s.afterStore u a

/-- The row of a hard fault is repaired by the porter (R297): it is copied, corrected as R303 says, into a free spare row and steered to it; the
repair is recorded, and saved if the journal can be written. -/
def State.repairRow (s : State) (u : Unit') (addr row spare : Nat) : State :=
  let t := u.tracker
  let d := u.die
  let k := spareKey u.kind.1 u.kind.2
  let s := s.copyRow u row
  let s := s.setSpareSet k { s.spareSet k with rows := (s.spareSet k).rows ++ [(spare, row)] }
  let s := (s.setTrack t ((s.track t).filter fun e => e.addr != addr)).bump (R.PROT_HARD_REPAIRED d)
  let saved := s.saveSoft ⟨u.kind.1, u.kind.2, 0, spare, row⟩ (.porter d)
  let s := saved.1.log .memSoftRepair []
  if saved.2 then s else (s.set1 (R.PROT_HARD_NOT_SAVED d)).log .memRepairNotSaved []

/-- A hard fault in a row (R297): with a spare row free the porter repairs the row, as soon as it runs and reaches the unit; without one the entry
becomes HARD. The entry keeps the row in which its word was found. -/
def State.hardFault (s : State) (u : Unit') (addr row : Nat) : State :=
  let t := u.tracker
  let d := u.die
  let mark := fun f : TrackEntry → TrackEntry => s.setTrack t ((s.track t).map fun e => if e.addr = addr then f e else e)
  match (s.spareSet (spareKey u.kind.1 u.kind.2)).freeRow u.spareRows with
  | some i =>
    if s.porterRuns d && s.porterReaches u then s.repairRow u addr row i else mark fun e => { e with fault := some row }
  | none => ((mark fun e => { e with state := .hard, fault := none }).bump (R.PROT_HARD_UNREPAIRED d)).log .memHardFault (words64 addr)

/-- A word of a unit was corrected (R295 to R297): a correction of a REWRITTEN word is a hard fault. -/
def State.trackWord (s : State) (u : Unit') (addr : Nat) : State :=
  match (s.track u.tracker).find? (fun e => e.addr == addr) with
  | some e => if e.state = .rewritten then (if e.fault.isSome then s else s.hardFault u addr (s.rowOf u addr)) else s.trackCount u addr
  | none => s.trackCount u addr

/-! ## What a read finds (R293, R294) -/

/-- A read supplies bytes of the word at an address (R293, R294): what it finds counts once. `mask` holds the word's stored bytes,
a byte that the read does not supply as good. -/
def State.countWord (s : State) (u : Unit') (addr : Nat) (cells : List Nat) (by' : FoundBy) : State :=
  let d := u.die
  match wordStatus cells with
  | .good => s
  | .corrected => (s.bump (R.PROT_CNT_SBE d)).trackWord u addr
  | .marked => s.bump (R.PROT_CNT_MARKED d)
  | .bad =>
    let first := s.rd (R.PROT_CNT_UE d) = 0
    let s := (s.bump (R.PROT_CNT_UE d)).recordLast u addr cells by'
    if first then s.log .memUncorrectable (words64 addr ++ [by'.node]) else s

/-- The words that hold a list of byte addresses, in order, each once. -/
def wordsOf (addrs : List Nat) : List Nat :=
  addrs.foldl (fun ws a => if ws.contains (a / 8 * 8) then ws else ws ++ [a / 8 * 8]) []

/-- The stored bytes of a word, with those that a read does not supply taken as good (R291). -/
def State.suppliedCells (s : State) (u : Unit') (addrs : List Nat) (w : Nat) : List Nat :=
  (List.range 8).map fun i => if addrs.contains (w + i) then s.cellAt u (w + i) else 0

/-- A read supplies the bytes at a list of addresses: every word counts once (R291, R293, R294). -/
def State.countRead (s : State) (u : Unit') (addrs : List Nat) (by' : FoundBy) : State :=
  let ws := (wordsOf addrs).map fun w => (w, s.suppliedCells u addrs w)
  ws.foldl (fun s w => s.countWord u w.1 w.2 by') s

/-- A write stores bytes at addresses (R292, R304): payload position, address, byte. The die counts the poisoned words that it
stores as marks. -/
def State.storeBytes (s : State) (u : Unit') (a : Access) (bs : List (Nat × Nat × Byte)) : State :=
  let s := bs.foldl (fun s b => s.setCellAt u b.2.1 (writtenCell a.poison b.1 b.2.2)) s
  let s := s.bumpN (R.PROT_RECOV_PSTORE u.die) (poisonedWords a)
  match bs.map (fun b => b.2.1) with
  | [] => s
  | x :: xs => s.afterStore u (xs.foldl min x)

end Sys2Proof.Machine
end

