-- ==== Sys2Proof/Machine/Larder.lean ====
section
/-! DEFINITION. The larder (09_larder_scratchpads.md, R263 to R278): reads, writes, misses and fills, write-backs, maintenance, the
imbalance monitor; and the SDRAM map as far as a slice consults it (11_sdram_encryption.md, R311, R318). -/

namespace Sys2Proof.Machine

/-! ## What a slice knows of SDRAM (R306, R307, R311, R318) -/

/-- The populated channels, in ascending order (R311). -/
def State.populated (s : State) : List Nat := indicesWith 12 (s.bit R.SD_CFG_POP)

/-- Lr of R311: lines of a rank. -/
def State.rankLines (s : State) : Nat :=
  4096 * (match s.rd R.SD_CFG_DENSITY with | 0 => 65536 | 1 => 98304 | _ => 131072)

/-- Ranks per channel. -/
def State.ranks (s : State) : Nat := s.rd R.SD_CFG_RANKS_M1 + 1

/-- Line l has memory behind it (R311). -/
def State.lineExists (s : State) (l : Nat) : Bool :=
  let c := s.populated.length
  c ≠ 0 && decide (l / c / s.rankLines < s.ranks)

/-- The channel and the channel line of line l (R311). -/
def State.lineChannel (s : State) (l : Nat) : Nat × Nat :=
  let p := s.populated
  ((p[l % p.length]?).getD 0, l / p.length)

/-- The key ID of an address: that of the lowest-numbered enabled window that covers it (R318). -/
def State.keyOf (s : State) (addr : Nat) : Option Nat :=
  let u := addr / 2 ^ 28 % 2 ^ 14
  ((List.range 64).find? fun w => s.is1 (R.MKEY_WIN_BASE_EN w) && s.rd (R.MKEY_WIN_BASE_BASE w) ≤ u &&
    u ≤ s.rd (R.MKEY_WIN_LIM_LIM w)).map fun w => s.rd (R.MKEY_WIN_BASE_KEY_ID w)

/-! ## Slices, ways and the pseudo-LRU tree (R263, R269) -/

/-- Slice k. -/
def State.slice (s : State) (k : Nat) : Slice := storeGet {} k s.larder.slices
/-- Replace slice k. -/
def State.setSlice (s : State) (k : Nat) (x : Slice) : State :=
  { s with larder := { s.larder with slices := storeSet {} k x s.larder.slices } }

/-- The larder lines of slice k in a set: line and way. -/
def State.setLines (s : State) (k set : Nat) : List (Nat × Line) :=
  s.larder.lines.filterMap fun e => match e.2 with
    | some x => if hashSet (e.1 * 128) == set && s.sliceOf (e.1 * 128) == some k then some (e.1, x) else none
    | none => none

/-- Ways of a set with a fill pending (R269). -/
def State.pendingWays (s : State) (k set : Nat) : List Nat :=
  ((s.slice k).misses.filter fun m => hashSet (m.line * 128) == set).map (·.way)

/-- Where the tree of a set is kept. -/
def plruKey (k set : Nat) : Nat := 3072 * k + set

/-- An access to a way turns the tree's bits on its path away from it (R269, log entry 54): node 1 is the root, nodes 2i and 2i + 1
lie under node i, and a bit of 1 points right. -/
def plruTouch (tree way : Nat) : Nat :=
  (List.range 4).foldl (fun t j =>
    let node := 2 ^ j + way / 2 ^ (4 - j)
    let right := way / 2 ^ (3 - j) % 2
    if right = 1 then (t ||| 2 ^ node) ^^^ 2 ^ node else t ||| 2 ^ node) tree

/-- The way that the tree points at. -/
def plruVictim (tree : Nat) : Nat :=
  ((List.range 4).foldl (fun node _ => 2 * node + (if tree.testBit node then 1 else 0)) 1) - 16

/-- A way of a set is used. -/
def State.touch (s : State) (k l way : Nat) : State :=
  let key := plruKey k (hashSet (l * 128))
  { s with larder := { s.larder with plru := storeSet 0 key (plruTouch (storeGet 0 key s.larder.plru) way) s.larder.plru } }

/-! ## Write-backs (R269, R272, R273, R294) -/

/-- The 128 bytes of a line as a write-back sends them, and its poisoned words (R291, R299). -/
def lineOut (x : Line) : Nat × Nat :=
  let d := deliver ((List.range 128).map fun i => (i, storeGet 0 i x.cells))
  (leNat d.1, d.2)

/-- Send a write-back of line l: its words are read and counted as a read of whole words (R291); it counts as a write (R304; log entry 274). -/
def State.sendWb (s : State) (k l : Nat) (x : Line) (victim op : Bool) : State :=
  let out := lineOut x
  let s := s.countRead (.slice k) ((List.range 128).map (l * 128 + ·)) .writeback
  let s : State := { s with larder := { s.larder with wbs := s.larder.wbs ++ [⟨k, l, x.key, out.1, out.2, victim, op, 0, .sent⟩] } }
  s.afterStore (.slice k) (l * 128)

/-- Victims of slice k in its write-back buffer (R269). -/
def State.victims (s : State) (k : Nat) : Nat := (s.larder.wbs.filter fun w => w.victim && w.slice == k).length

/-- A way for line l: an invalid one first, else the pseudo-LRU victim, never one with a fill pending; a dirty victim moves to the
write-back buffer. None: no way, or the buffer is full, and allocation waits (R269). -/
def State.takeWay (s : State) (k l : Nat) : Option (State × Nat) :=
  if 32 ≤ s.victims k then none else
  let set := hashSet (l * 128)
  let lines := s.setLines k set
  let pend := s.pendingWays k set
  let free := (List.range 16).find? fun w => !(pend.contains w) && !(lines.any fun e => e.2.way == w)
  match free with
  | some w => some (s, w)
  | none =>
    let v := plruVictim (storeGet 0 (plruKey k set) s.larder.plru)
    let v := if pend.contains v then (((List.range 16).find? fun w => !(pend.contains w)).getD 16) else v
    match lines.find? (fun e => e.2.way == v) with
    | none => none
    | some e =>
      some ((if e.2.dirty then s.sendWb k e.1 e.2 true false else s).setLine e.1 none, v)

/-! ## Serving requests (R269, R270, R292 to R294, R324) -/

/-- The larder is in the clean phase or the hold of a rehash: writes go through (R275). -/
def State.writeThrough (s : State) : Bool :=
  match s.larder.op with
  | some (.rehash _ _) => true
  | some .clean | some (.flush _) | none => false

/-- The local addresses of an access's bytes. -/
def accessAddrs (a : Access) : List Nat := (List.range a.size).map (a.addr % 2 ^ 44 + ·)

/-- A read finds its line: it is answered; an uncorrectable word in a clean line invalidates the line, and the request must fetch
again (none). -/
def State.readHit (s : State) (k l : Nat) (x : Line) (rq : Request) : Option State :=
  let addrs := accessAddrs rq.acc
  let u : Unit' := .slice k
  let bad := (wordsOf addrs).any fun w => wordStatus (s.suppliedCells u addrs w) == .bad
  if bad && !x.dirty then none
  else
    let out := deliver (addrs.map fun a => (a % 8 + (a / 8 - rq.acc.addr % 2 ^ 44 / 8) * 8, s.cellAt u a))
    let t := s.countRead u addrs (.read rq.ini.node)
    some ((if s.debugRead rq then t else t.touch k l x.way).replyData rq out.1 out.2)

/-- A write finds its line, or has allocated it: the bytes are stored, and the line is dirty, or in a rehash written through
(R270, R275, R292). -/
def State.writeHit (s : State) (k l : Nat) (x : Line) (rq : Request) : State :=
  let a := rq.acc
  let base := a.addr % 2 ^ 44
  let s := s.setLine l (some { x with dirty := !s.writeThrough || x.dirty })
  let s := s.storeBytes (.slice k) a (((List.range a.size).zip a.data).map fun b => (a.addr % 8 + b.1, base + b.1, b.2))
  let s := if s.writeThrough then (match s.line l with | some y => s.sendWb k l y false false | none => s) else s
  (s.touch k l x.way).reply rq .ok

/-- A request misses: it takes a miss entry and a way, and the line is fetched (R269). None: it waits. -/
def State.startMiss (s : State) (k l : Nat) (rq : Request) : Option State :=
  if 64 ≤ (s.slice k).misses.length then none
  else match s.takeWay k l with
    | none => none
    | some (s, w) => some (s.setSlice k { s.slice k with misses := (s.slice k).misses ++ [⟨l, w, [rq], none⟩] })

/-- A way number that no line has: a fill that allocates nothing (R478). -/
def noWay : Nat := 16

/-- A read by the debug initiator misses (R478): the line is fetched and not allocated. -/
def State.startPeek (s : State) (k l : Nat) (rq : Request) : Option State :=
  if 64 ≤ (s.slice k).misses.length then none
  else some (s.setSlice k { s.slice k with misses := (s.slice k).misses ++ [⟨l, noWay, [rq], none⟩] })

/-- The fetch that a missing read or write begins. -/
def State.beginFetch (s : State) (k l : Nat) (rq : Request) : Option State :=
  if s.debugRead rq then s.startPeek k l rq else s.startMiss k l rq

/-- A slice takes up a request (R263, R269 to R271, R324). None: it waits, and those behind it (R269). -/
def State.sliceServe (s : State) (k : Nat) (rq : Request) : Option State :=
  let a := rq.acc
  let l := a.addr / 128 % 2 ^ 35
  let write := a.op == .wr
  if !(s.lineExists l) then some (s.reply rq .decode)
  else match (s.slice k).misses.find? (fun m => m.line == l) with
    | some m =>
      if 17 ≤ m.reqs.length then none
      else some (s.setSlice k { s.slice k with misses := (s.slice k).misses.map fun x =>
        if x.line == l then { x with reqs := x.reqs ++ [rq] } else x })
    | none =>
      match s.line l with
      | some x =>
        if write then some (s.writeHit k l x rq)
        else match s.readHit k l x rq with
          | some s => some s
          | none => ((s.setLine l none).bump (R.PROT_RECOV_RECOVERED (k / 64))).beginFetch k l rq
      | none =>
        if write && a.size == 128 then
          match s.keyOf (a.addr % 2 ^ 44) with
          | none => some (s.reply rq .denied)
          | some key =>
            match s.takeWay k l with
            | none => none
            | some (s, w) => some (s.writeHit k l ⟨w, [], false, key⟩ rq)
        else s.beginFetch k l rq

/-- Waiting requests of slice k are taken up in order, as far as they can be (R269). -/
def State.drainSlice (s : State) (k : Nat) : Nat → State
  | 0 => s
  | n + 1 =>
    match (s.slice k).waiting with
    | [] => s
    | rq :: rest =>
      match (s.setSlice k { s.slice k with waiting := rest }).sliceServe k rq with
      | some s => s.drainSlice k n
      | none => s

/-- Take up every waiting request of slice k that can be. -/
def State.drainAll (s : State) (k : Nat) : State := s.drainSlice k (s.slice k).waiting.length

/-- A request is delivered to its slice: counted, and taken up or made to wait (R269, R278). -/
def State.sliceRequest (s : State) (k : Nat) (rq : Request) : State :=
  let s : State := if s.is1 R.LARDER_IMBAL_CFG_EN then
      { s with larder := { s.larder with counts := storeSet 0 k (storeGet 0 k s.larder.counts + 1) s.larder.counts } } else s
  let wait := s.setSlice k { s.slice k with waiting := (s.slice k).waiting ++ [rq] }
  if (s.slice k).waiting ≠ [] then wait
  else match s.sliceServe k rq with
    | some s => s
    | none => wait

/-- An SDRAM-range RD or WR reaches its slice (R263): one that is node-routed, breaks R236, or finds no slice is answered DECODE. -/
def State.larderRequest (s : State) (rq : Request) : State :=
  let a := rq.acc
  let ok := match a.op with
    | .rd => readSizeOk a.addr a.size
    | .wr => writeSizeOk a.addr a.size
    | .nrd | .nwr => false
  if !ok || 0x30000000000 ≤ a.addr % 2 ^ 44 then s.reply rq .decode
  else match s.sliceOf (a.addr % 2 ^ 44) with
    | none => s.reply rq .decode
    | some k => s.sliceRequest k rq

/-- LARDER_READ (R263, R269, R294). -/
def execLarderRead (rq : Request) (s : State) : Host.Outcome State Fault Refusal :=
  let s := s.quiet
  if rq.acc.op = .wr ∨ rq.acc.op = .nwr then .fault (.illFormed "LARDER_READ") else .next (s.larderRequest rq)

/-- LARDER_WRITE (R263, R270, R292, R324). -/
def execLarderWrite (rq : Request) (s : State) : Host.Outcome State Fault Refusal :=
  let s := s.quiet
  if rq.acc.op = .rd ∨ rq.acc.op = .nrd ∨ rq.acc.data.length ≠ rq.acc.size then .fault (.illFormed "LARDER_WRITE")
  else .next (s.larderRequest rq)

/-! ## Fills (R269, R271, R272, R324) -/

/-- The stored bytes of a filled line: freshly coded, poisoned words as marks (R271, R292). -/
def fillCells (data poison : Nat) : Store Nat :=
  (List.range 128).filterMap fun i =>
    let b := data >>> (8 * i) % 256
    let c := if poison.testBit (i / 8) then markCell b else goodCell b
    if c = 0 then none else some (i, c)

/-- Poisoned words of a line. -/
def poisonCount (p : Nat) : Nat := (indicesWith 16 p.testBit).length

/-- Requests that waited for a fill are performed in order of arrival by `f`; from the first that cannot be, they wait in front of the slice's other
requests (R251, R269). -/
def State.afterFill (s : State) (k : Nat) (f : State → Request → Option State) : List Request → State
  | [] => s
  | rq :: rest =>
    match f s rq with
    | some s => s.afterFill k f rest
    | none => s.setSlice k { s.slice k with waiting := rq :: rest ++ (s.slice k).waiting }

/-- A request that waited for a fill that allocates nothing (R478): the debug initiator's read takes the fetched bytes, unless an earlier request has
brought the line in; any other is taken up again. -/
def State.afterPeek (k : Nat) (a : FillAns) (s : State) (rq : Request) : Option State :=
  let l := rq.acc.addr / 128 % 2 ^ 35
  if !(s.debugRead rq) || (s.line l).isSome || (s.slice k).misses.any (fun m => m.line == l) then s.sliceServe k rq
  else
    let cells := fillCells a.data a.poison
    let out := deliver ((accessAddrs rq.acc).map fun x => (x % 8 + (x / 8 - rq.acc.addr % 2 ^ 44 / 8) * 8, storeGet 0 (x % 128) cells))
    some (s.replyData rq out.1 out.2)

/-- LARDER_FILL (R269, R271, R272, R324): the answer to a fill: with OK the line is allocated and the waiting requests are performed in
order; with another code each of them receives it, and nothing is allocated. -/
def execLarderFill (l : BitVec 35) (s : State) : Host.Outcome State Fault Refusal :=
  let s := s.quiet
  let l := l.toNat
  match s.sliceOf (l * 128) with
  | none => .next s
  | some k =>
    match (s.slice k).misses.find? (fun m => m.line == l && m.ans.isSome) with
    | none => .next s
    | some m =>
      match m.ans with
      | none => .next s
      | some a =>
        let s := s.setSlice k { s.slice k with misses := (s.slice k).misses.filter fun x => x.line != l }
        if a.code ≠ .ok then .next ((m.reqs.foldl (fun s rq => s.reply rq a.code) s).drainAll k)
        else if m.way = noWay then .next ((s.afterFill k (State.afterPeek k a) m.reqs).drainAll k)
        else
          let s := s.setLine l (some ⟨m.way, fillCells a.data a.poison, false, a.key⟩)
          let s := ((s.bumpN (R.PROT_RECOV_PSTORE (k / 64)) (poisonCount a.poison)).afterStore (.slice k) (l * 128)).touch k l m.way
          .next ((s.afterFill k (fun s rq => s.sliceServe k rq) m.reqs).drainAll k)

/-! ## Write-back answers (R273) -/

/-- The first write-back of line l. -/
def State.firstWb (s : State) (l : Nat) : Option Wb := s.larder.wbs.find? fun w => w.line == l

/-- Replace, or drop, the first write-back of line l. -/
def State.setFirstWb (s : State) (l : Nat) (x : Option Wb) : State :=
  let i := (s.larder.wbs.findIdx fun w => w.line == l)
  let before := s.larder.wbs.take i
  let after := s.larder.wbs.drop (i + 1)
  { s with larder := { s.larder with wbs := before ++ x.toList ++ after } }

/-- A write-back failed for the fourth time: the line is dropped, also where it was written again since, and recorded (R273); a victim has left the
larder already, and a line allocated since then is another. -/
def State.wbLost (s : State) (w : Wb) : State :=
  let s := (s.setFirstWb w.line none).wr64 R.LARDER_WB_FAIL_LO_ADDR R.LARDER_WB_FAIL_HI_ADDR (w.line * 128)
  let s := (s.set1 R.LARDER_CTL_WB_LOST).logP 2 .larderWbLost []
  match s.line w.line with
  | some _ => if w.victim then s else s.setLine w.line none
  | none => s

/-- LARDER_WRITEBACK_ANSWER (R273). -/
def execLarderWritebackAnswer (l : BitVec 35) (s : State) : Host.Outcome State Fault Refusal :=
  let s := s.quiet
  match s.firstWb l.toNat with
  | none => .next s
  | some w =>
    match w.stage with
    | .answered code =>
      if code = .ok then .next ((s.setFirstWb l.toNat none).drainAll w.slice)
      else if 3 ≤ w.fails then .next ((s.wbLost w).drainAll w.slice)
      else .next (s.setFirstWb l.toNat (some { w with fails := w.fails + 1, stage := .retry }))
    | .sent | .retry => .next s

/-- WRITEBACK_RETRY (R273). -/
def execWritebackRetry (l : BitVec 35) (s : State) : Host.Outcome State Fault Refusal :=
  let s := s.quiet
  match s.firstWb l.toNat with
  | none => .next s
  | some w =>
    match w.stage with
    | .retry => .next (s.setFirstWb l.toNat (some { w with stage := .sent }))
    | .sent | .answered _ => .next s

/-! ## Maintenance (R274, R275, R277) -/

/-- Line e is in the scope of a CLEAN or FLUSH (R274). -/
def State.inScope (s : State) (scope key slice : Nat) (l : Nat) (x : Line) : Bool :=
  match scope with
  | 0 => true
  | 1 => x.key == key
  | _ => s.sliceOf (l * 128) == some slice

/-- The operation waits also for the write-backs in scope that are under way: their lines were dirty too (R274, R322). -/
def State.awaitWbs (s : State) (scope key slice : Nat) : State :=
  let mine := fun w : Wb => match scope with | 0 => true | 1 => w.key == key | _ => w.slice == slice
  { s with larder := { s.larder with wbs := s.larder.wbs.map fun w => if mine w then { w with op := true } else w } }

/-- Every dirty line in scope is sent back and left clean; with a FLUSH every line in scope is invalidated (R274, log entry 55). -/
def State.cleanLines (s : State) (flush : Bool) (scope key slice : Nat) : State :=
  let s := s.awaitWbs scope key slice
  s.larder.lines.foldl (fun s e => match e.2 with
    | none => s
    | some x =>
      if !(s.inScope scope key slice e.1 x) then s
      else
        let k := (s.sliceOf (e.1 * 128)).getD 0
        let s := if x.dirty then s.sendWb k e.1 x false true else s
        match s.line e.1 with
        | some y => s.setLine e.1 (if flush then none else some { y with dirty := false })
        | none => s) s

/-- A maintenance operation is refused (R274, R275). -/
def State.larderErr (s : State) : State := s.set1 R.LARDER_CTL_ERR

/-- Begin a maintenance operation. -/
def State.beginOp (s : State) (op : LarderOp) : State :=
  ({ s with larder := { s.larder with op := some op } } : State).set1 R.LARDER_CTL_BUSY

/-- CLEAN or FLUSH is accepted, or refused while BUSY or with a reserved SCOPE (R274). -/
def State.larderClean (s : State) (flush : Bool) (scope key slice : Nat) : State :=
  if s.is1 R.LARDER_CTL_BUSY || 3 ≤ scope then s.larderErr
  else (s.beginOp (if flush then .flush none else .clean)).cleanLines flush scope key slice

/-- Slice k may be in the next slice set (R275): in service, its quarter on, not under test. -/
def State.sliceUsable (s : State) (k : Nat) : Bool :=
  s.sliceIn k && s.dstate (80 + k / 16) = .on && !(s.underTest.contains (.slice k)) && !(s.keptByTest.contains (.slice k))

/-- The slices that LARDER_SET_NEXT names. -/
def State.nextSet (s : State) : List Nat := indicesWith 128 fun k => s.bit (R.LARDER_SET_NEXT_MEMBER (k / 32)) (k % 32)

/-- REHASH begins its clean phase, or is refused for a bad set (R275). -/
def State.larderRehash (s : State) (newSalt : Bool) : State :=
  if s.is1 R.LARDER_CTL_BUSY || s.nextSet.isEmpty || !(s.nextSet.all s.sliceUsable) then s.larderErr
  else (s.beginOp (.rehash newSalt false)).cleanLines false 0 0 0

/-- A write to LARDER_CTL (R274): the operation uses the fields written by the same access; a reserved OP starts nothing (R15). -/
def wrLarderCtl (s : State) (v : BitVec 32) : State :=
  let s := s.storeReg .LARDER_CTL v
  match R.LARDER_CTL_OP.of v with
  | 0 => s
  | 1 => s.larderClean false (R.LARDER_CTL_SCOPE.of v) (R.LARDER_CTL_KEY_ID.of v) (R.LARDER_CTL_SLICE.of v)
  | 2 => s.larderClean true (R.LARDER_CTL_SCOPE.of v) (R.LARDER_CTL_KEY_ID.of v) (R.LARDER_CTL_SLICE.of v)
  | 3 => s.larderRehash (R.LARDER_CTL_NEW_SALT.of v == 1)
  | _ => s

/-- The value that writes an operation with its fields to LARDER_CTL. -/
def larderValue (op scope key slice salt : Nat) : BitVec 32 :=
  BitVec.ofNat 32 (op + scope * 2 ^ 4 + salt * 2 ^ 7 + slice * 2 ^ 8 + key * 2 ^ 16)

/-- A write to LARDER_CTL through the copy of a die that is there (R274, log entry 238). -/
def State.larderWritten (s : State) (ini : Ini) (v : BitVec 32) : State :=
  s.written ini (if s.dieOut 4 then 0x2800000 else 0x2000000) fun s => wrLarderCtl s v

/-- CLEAN (R274). -/
def execClean (ini : Ini) (scope : BitVec 3) (key : BitVec 6) (slice : BitVec 7) (s : State) : Host.Outcome State Fault Refusal :=
  .next (s.quiet.larderWritten ini (larderValue 1 scope.toNat key.toNat slice.toNat 0))
/-- FLUSH (R274). -/
def execFlush (ini : Ini) (scope : BitVec 3) (key : BitVec 6) (slice : BitVec 7) (s : State) : Host.Outcome State Fault Refusal :=
  .next (s.quiet.larderWritten ini (larderValue 2 scope.toNat key.toNat slice.toNat 0))
/-- REHASH (R274, R275). -/
def execRehash (ini : Ini) (newSalt : Bool) (s : State) : Host.Outcome State Fault Refusal :=
  .next (s.quiet.larderWritten ini (larderValue 3 0 0 0 newSalt.toNat))

/-- No write-back that the operation waits for is left. -/
def State.opDrained (s : State) : Bool := !(s.larder.wbs.any fun w => w.op)

/-- An operation ends: BUSY clears and DONE is set (R274). -/
def State.endOp (s : State) : State :=
  (({ s with larder := { s.larder with op := none } } : State).clr R.LARDER_CTL_BUSY).set1 R.LARDER_CTL_DONE

/-- LARDER_OP_COMPLETE (R274): a CLEAN or FLUSH whose write-backs are done. -/
def execLarderOpComplete (s : State) : Host.Outcome State Fault Refusal :=
  let s := s.quiet
  match s.larder.op with
  | some .clean | some (.flush _) => .next (if s.opDrained then s.endOp else s)
  | some (.rehash _ _) | none => .next s

/-- REHASH_HOLD (R275): no dirty line remains. -/
def execRehashHold (s : State) : Host.Outcome State Fault Refusal :=
  let s := s.quiet
  match s.larder.op with
  | some (.rehash salt false) =>
    .next (if s.opDrained then { s with larder := { s.larder with op := some (.rehash salt true) } } else s)
  | some (.rehash _ true) | some .clean | some (.flush _) | none => .next s

/-- A node is a larder slice (R232). -/
def isSliceNode (node : Nat) : Bool := (node / 512 == 4 || node / 512 == 5) && node % 16 ≤ 1

/-- No request on its way to a slice by the table in force is left in the network, nor delivered and unanswered (R267, R275). What stands behind a held
request in its input buffer has not been accepted. -/
def State.noneToSlices (s : State) : Bool :=
  (s.bufs.all fun e => e.1 % 4 != 0 || (e.2.pkts.takeWhile (·.dest.isSome)).all fun f => f.dest.all fun node => !(isSliceNode node)) &&
  s.deliv.all fun e => !(isSliceNode (16 * e.station + e.port))

/-- Every slice is idle (R275): no request accepted before the hold is unanswered, and no write-back is left. -/
def State.slicesIdle (s : State) : Bool :=
  s.larder.wbs.isEmpty && s.noneToSlices && s.larder.slices.all fun e => e.2.misses.isEmpty && e.2.waiting.isEmpty

/-- The requests that an input buffer held undecoded are decoded in their places (R275); one that cannot be is answered, and leaves the buffer. -/
def State.releaseBuf (s : State) (e : Nat × NetBuf) : State :=
  let n := e.1 / 128
  let keep := fun (s : State) (f : Flight) =>
    let x := s.buf e.1
    s.setBuf e.1 { x with pkts := x.pkts ++ [f] }
  e.2.pkts.foldl (fun s f => match f.dest with
    | some _ => keep s f
    | none => match s.decoded n f.pkt with
      | .inr f => keep s f
      | .inl code =>
        let x := s.buf e.1
        (s.setBuf e.1 { x with gone := x.gone + packetFlits f.pkt }).reply (packetRequest f.pkt) code)
    (s.setBuf e.1 { e.2 with pkts := [] })

/-- Every held request is released (R275). -/
def State.releaseHeld (s : State) : State := (s.bufs.filter fun e => e.2.pkts.any fun f => f.dest.isNone).foldl State.releaseBuf s

/-- SALT takes the low bits of a draw (R266). -/
def State.putSalt (s : State) (v : Nat) : State := { s with larder := { s.larder with salt := v % 2 ^ 20 } }

/-- Draw SALT from the random source (R266, R446): a free value. -/
def State.drawSalt (s : State) : State := (s.putSalt s.draw).drawn

/-- Put a slice set into LARDER_SET (R266). -/
def State.setSliceSet (s : State) (ks : List Nat) : State :=
  s.each (List.range 4) fun s i =>
    s.wr (R.LARDER_SET_MEMBER i) ((ks.filter fun k => k / 32 == i).foldl (fun m k => m ||| 2 ^ (k % 32)) 0)

/-- The set that a rehash puts in force (R275): of LARDER_SET_NEXT the slices that a rehash may name now; where none is left, the set stays (DESIGN
CHOICE, log entry 276). -/
def State.rehashSet (s : State) : List Nat :=
  let next := s.nextSet.filter fun k => s.sliceUsable k
  if next.isEmpty then s.sliceSet else next

/-- REHASH_SWITCH (R266, R267, R275): every line is invalidated, the table is rebuilt, held requests are released and routed by it. -/
def execRehashSwitch (s : State) : Host.Outcome State Fault Refusal :=
  let s := s.quiet
  match s.larder.op with
  | some (.rehash salt true) =>
    if !s.slicesIdle then .next s
    else
      let s := s.setSliceSet s.rehashSet
      let s := if salt then s.drawSalt else s
      let s : State := { s with larder := { s.larder with lines := [], plru := [] } }
      .next s.endOp.releaseHeld
  | some (.rehash _ false) | some .clean | some (.flush _) | none => .next s

/-! ## The imbalance monitor (R278) -/

/-- IMBALANCE_WINDOW (R278). -/
def execImbalanceWindow (s : State) : Host.Outcome State Fault Refusal :=
  let s := s.quiet
  if !(s.is1 R.LARDER_IMBAL_CFG_EN) then .next s
  else
    let cnt := fun k => min (storeGet 0 k s.larder.counts) (2 ^ 32 - 1)
    let total := ((List.range 128).map cnt).sum
    let top := (List.range 128).foldl (fun b k => if cnt b < cnt k then k else b) 0
    let skew := if total = 0 then 0 else min 4095 (16 * s.sliceSet.length * cnt top / total)
    let s := s.each (List.range 128) fun s k => s.wr (R.LARDER_SLICE_CNT_COUNT k) (cnt k)
    let s := (s.wr R.LARDER_IMBAL_STAT_MAX_SLICE top).wr R.LARDER_IMBAL_STAT_SKEW skew
    let s : State := { s with larder := { s.larder with counts := [] } }
    if s.rd R.LARDER_IMBAL_CFG_THRESH ≤ skew ∧ !(s.is1 R.LARDER_IMBAL_STAT_SKEW_FLAG) then
      .next ((s.set1 R.LARDER_IMBAL_STAT_SKEW_FLAG).logP 0 .larderSkew [])
    else .next s

end Sys2Proof.Machine
end

