-- ==== Sys2Proof/Machine/TestOps.lean ====
section
/-! DEFINITION. The shared operations of MBIST (18_self_test_repair.md, R453, R454, R457, R460): engines, the unit that a test
leaves, and the end of a test as ABORTED. -/

namespace Sys2Proof.Machine

/-- Engine e. -/
def State.engine (s : State) (e : Nat) : Engine := storeGet {} e s.engines
/-- Replace engine e. -/
def State.setEngine (s : State) (e : Nat) (x : Engine) : State := { s with engines := storeSet {} e x s.engines }

/-- The unit that a KIND and an index name (R453). -/
def testUnit (kind unit : Nat) : TestUnit :=
  match kind with
  | 1 => .config unit | 2 => .bram unit | 3 => .slice unit | _ => .bank unit

/-- What every test leaves of a unit (R454): planes EMPTY, block RAM undefined, lines invalid, bytes 0. -/
def State.testLeaves (s : State) (u : TestUnit) : State :=
  match u with
  | .config j =>
    s.each (List.range 32) fun s i =>
      let n := 4 * j + i / 8
      ((s.setPlState n (i % 8) .empty).setPlTorn n (i % 8) false).erasePlane n (i % 8)
  | .bram n =>
    let s := s.loseBram n
    (s.setRegion n { s.region n with bramTok := s.fresh }).drawn
  | .slice k =>
    s.larder.lines.foldl (fun s e => if s.sliceOf (e.1 * 128) = some k then s.setLine e.1 none else s) s
  | .bank b => s.loseBank b

/-- A bank's test ends: a REQ that was held takes effect (R457) when its power registers are next judged. -/
def State.testUnitEnds (s : State) (u : TestUnit) : State := { s with underTest := s.underTest.erase u }

/-- The test of engine e ends ABORTED (R457, R460): spares stay, no repair or map-out record is written; step 5 records the unit as SKIPPED (log entry
88). -/
def State.abortTest (s : State) (e : Nat) : State :=
  match (s.engine e).test with
  | none => s
  | some (k, u) =>
    let unit := testUnit k u
    let s := if (s.engine e).start then s.itin 5 1 2 (4096 * k + u) 4 else s
    let s := ((s.testLeaves unit).testUnitEnds unit).setEngine e { s.engine e with test := none }
    ((s.clr (R.TEST_CMD_BUSY e)).set1 (R.TEST_CMD_DONE e)).wr (R.TEST_STAT_RESULT e) 4

/-- The test that runs on a unit, if any, ends ABORTED. -/
def State.abortTestOf (s : State) (u : TestUnit) : State :=
  s.each (List.range 5) fun s e => match (s.engine e).test with
    | some (k, i) => if testUnit k i = u then s.abortTest e else s
    | none => s

end Sys2Proof.Machine
end

