-- ==== Sys2Proof/Machine/Banks.lean ====
section
/-! DEFINITION. Scratchpad banks (09_larder_scratchpads.md, R279 to R288): accesses through the two ports, ownership, modes and
windows, power. -/

namespace Sys2Proof.Machine

/-! ## Ownership (R283, R284) -/

/-- A requester matches an owner (R283). -/
def State.matchesOwner (s : State) (kind id : Nat) (ini : Ini) : Bool :=
  let own := ini.dev == s.rd R.NET_CFG_DEV_NUM
  match kind with
  | 1 => own && (List.range 4).any fun p => ini.node == regionNode id p
  | 2 => own && ini.node == 0x601 + 0x10 * id
  | 3 => own && ini.node == 0x002 + 0x10 * id
  | 4 => own && ini.node == 0x015
  | 5 => own && ini.node == 0x034
  | 6 => !own || ini.node == 0x004 || ini.node == 0x005 || ini.node == 0x006
  | 7 => own && ini.node == 0x024
  | _ => false

/-- The debug initiator passes the owner check (R478, R479). -/
def State.passesOwner (s : State) (ini : Ini) : Bool := ini.dev == s.rd R.NET_CFG_DEV_NUM && ini.node == 0x007

/-- An owner is one of R283: the ID lies in the range of its KIND. -/
def ownerOk (kind id : Nat) : Bool :=
  match kind with
  | 1 => true | 2 => id < 4 | 3 => id < 32 | _ => id == 0

/-! ## Serving an access (R281, R282, R286, R292) -/

/-- The modes of a port (R282). -/
inductive BMode where
  | linear | circular | rotate
  deriving DecidableEq, Repr

/-- The mode that a code names. -/
def BMode.ofCode : Nat → BMode
  | 1 => .circular | 2 => .rotate | _ => .linear

/-- The mode of a request's port: an address-routed one is always LINEAR (R280). -/
def State.bankMode (s : State) (x : BankAt) (op : ReqOp) : BMode :=
  match op with
  | .rd | .wr => .linear
  | .nrd | .nwr => BMode.ofCode (s.rd (if x.portB then R.BANK_CFG_B_MODE x.b else R.BANK_CFG_A_MODE x.b))

/-- BASE_W and LEN_W of a port. -/
def State.bankWindow (s : State) (x : BankAt) : Nat × Nat :=
  if x.portB then (s.rd (R.BANK_WIN_B_BASE_W x.b), s.rd (R.BANK_WIN_B_LEN_W x.b))
  else (s.rd (R.BANK_WIN_A_BASE_W x.b), s.rd (R.BANK_WIN_A_LEN_W x.b))

/-- The bank byte of byte j of an access (R282). -/
def State.bankByte (s : State) (x : BankAt) (m : BMode) (j : Nat) : Nat :=
  match m with
  | .linear => x.pos + j
  | .circular => 8 * (s.bankWindow x).1 + (x.pos + j) % (8 * (s.bankWindow x).2)
  | .rotate => x.pos + x.rot + j

/-- An access keeps the limits of R236 and of its mode (R282). -/
def State.bankLimits (s : State) (x : BankAt) (m : BMode) (a : Access) : Bool :=
  (if isWriteOp a.op then writeSizeOk a.addr a.size && a.data.length == a.size else readSizeOk a.addr a.size) &&
  match m with
  | .linear => x.rot == 0 && decide (x.pos + a.size ≤ 0x20000)
  | .circular => x.rot == 0 && decide (a.size ≤ 8 * (s.bankWindow x).2)
  | .rotate => decide (x.pos + x.rot + a.size ≤ 0x20000)

/-- A read is served (R286, R291, R293): bit i of `clash` names the i-th 8-byte bank word that the access touches, and the bytes of a word that the other
port writes in the same cycle are undefined. -/
def State.serveBankRead (s : State) (x : BankAt) (m : BMode) (rq : Request) (clash : Nat) (later : Bool) : State :=
  let a := rq.acc
  let u : Unit' := .bank x.b
  let offs := (List.range a.size).map fun j => (x.pos % 8 + j, bankAddr x.b (s.bankByte x m j))
  let out := deliver (offs.map fun o => (o.1, s.cellAt u o.2))
  let ws := wordsOf (offs.map (·.2))
  let mask := clash % 2 ^ ws.length
  let und := s.draw
  let data := (out.1.zip offs).map fun b => if mask.testBit (ws.idxOf (b.2.2 / 8 * 8)) then BitVec.ofNat 8 (und >>> (8 * b.2.1)) else b.1
  let s := s.countRead u (offs.map (·.2)) (.read rq.ini.node)
  let s := if mask = 0 then s
    else (s.set1 (if x.portB == later then R.BANK_STAT_BUSY_B x.b else R.BANK_STAT_BUSY_A x.b)).drawn
  s.replyData rq data out.2

/-- A write is served (R286, R292): port B counts the cycles that it stalls. -/
def State.serveBankWrite (s : State) (x : BankAt) (m : BMode) (rq : Request) (stalls : Nat) : State :=
  let a := rq.acc
  let bs := ((List.range a.size).zip a.data).map fun b => (x.pos % 8 + b.1, bankAddr x.b (s.bankByte x m b.1), b.2)
  let s := if x.portB then s.bumpN (R.BANK_STAT_CONFLICT x.b) stalls else s
  (s.storeBytes (.bank x.b) a bs).reply rq .ok

/-! ## Bank power (R288) -/

/-- STATE of a bank: 0 ON, 1 RETAIN, 2 OFF, 3 changing. -/
def State.bankState (s : State) (b : Nat) : Nat := s.rd (R.BANK_PWR_STATE b)

/-- Bank b begins to change to a state (R288). -/
def State.bankToward (s : State) (b st : Nat) : State :=
  if s.bankState b = 3 ∨ s.bankState b = st then s
  else (s.setBank b { s.bank b with toward := some st }).wr (R.BANK_PWR_STATE b) 3

/-! ## Checking a request (R285) -/

/-- A request waits at the bank (R281): with those accepted before the owner write in progress, or with the others. -/
def State.bankHold (s : State) (x : BankAt) (rq : Request) (acc : Bool) : State :=
  let k := s.bank x.b
  s.setBank x.b (if acc then { k with accepted := k.accepted ++ [rq] } else { k with waiting := k.waiting ++ [rq] })

/-- A request is refused and counted (R285). -/
def State.bankDeny (s : State) (b : Nat) (rq : Request) (code : Resp) : State := (s.reply rq code).bump (R.BANK_STAT_DENIED b)

/-- A request to a bank is checked in the order of R285 and served, held or refused; one accepted before an owner write is completed under the old owner
(R284). -/
def State.bankRequest (s : State) (rq : Request) (acc : Bool) (clash : Nat) (later : Bool) (stalls : Nat) : State :=
  match bankAt rq.acc with
  | none => s.reply rq .decode
  | some x =>
    let kind := s.rd (R.BANK_OWNER_KIND x.b)
    let isOwner := s.matchesOwner kind (s.rd (R.BANK_OWNER_ID x.b)) rq.ini
    if !(s.bankIn x.b) || x.resv then s.reply rq .decode
    else if kind == 5 && !isOwner then s.bankDeny x.b rq .testbusy
    else if !acc && (s.bank x.b).newOwner.isSome && isOwner then s.bankDeny x.b rq .denied
    else if !acc && (match (s.bank x.b).newOwner with | some (k, i) => s.matchesOwner k i rq.ini | none => false) then
      s.bankHold x rq false
    else if !isOwner && !(s.passesOwner rq.ini) then s.bankDeny x.b rq .denied
    else if s.bankState x.b = 3 then s.bankHold x rq acc
    else if s.bankState x.b ≠ 0 then
      if s.is1 (R.BANK_PWR_AUTO_WAKE x.b) then ((s.bankHold x rq acc).clr (R.BANK_PWR_REQ x.b)).bankToward x.b 0
      else s.bankDeny x.b rq .denied
    else
      let m := s.bankMode x rq.acc.op
      if !(s.bankLimits x m rq.acc) then s.reply rq .decode
      else if isWriteOp rq.acc.op then s.serveBankWrite x m rq stalls
      else s.serveBankRead x m rq clash later

/-- Requests that waited are checked again in arrival order (R284, R288). -/
def State.bankRecheck (s : State) (b : Nat) : State :=
  let k := s.bank b
  let s := s.setBank b { k with accepted := [], waiting := [] }
  k.waiting.foldl (fun s rq => s.bankRequest rq false 0 false 0) (k.accepted.foldl (fun s rq => s.bankRequest rq true 0 false 0) s)

/-- BANK_READ (R280 to R286, R291): `clash` names the bank words of the access that the other port writes in the same cycle, and `later` says
that this port's access was accepted later. -/
def execBankRead (rq : Request) (clash : BitVec 17) (later : Bool) (s : State) : Host.Outcome State Fault Refusal :=
  if isWriteOp rq.acc.op then .fault (.illFormed "BANK_READ") else .next (s.quiet.bankRequest rq false clash.toNat later 0)

/-- BANK_WRITE (R280 to R286, R292): `stalls` counts the cycles in which port B stalls. -/
def execBankWrite (rq : Request) (stalls : BitVec 8) (s : State) : Host.Outcome State Fault Refusal :=
  if !(isWriteOp rq.acc.op) || rq.acc.data.length ≠ rq.acc.size then .fault (.illFormed "BANK_WRITE")
  else .next (s.quiet.bankRequest rq false 0 false stalls.toNat)

/-! ## The registers of a bank (R282 to R284, R288) -/

/-- REQ of a bank takes a value and the bank begins to change (R288). -/
def State.bankRequestState (s : State) (b req : Nat) : State := (s.wr (R.BANK_PWR_REQ b) req).bankToward b req

/-- The engine keeps a bank ON while it tests it (R457): from another state it takes it there, and REQ takes effect when the test ends. -/
def State.bankKeptOn (s : State) (b : Nat) : State :=
  if s.bankState b = 0 then s
  else
    let req := s.rd (R.BANK_PWR_REQ b)
    let s := (s.setBank b { s.bank b with toward := none }).clr (R.BANK_PWR_STATE b)
    if req = 0 then s else { s with selfTest := { s.selfTest with bankPwr := storeSet none b (some req) s.selfTest.bankPwr } }

/-- The engine takes a unit (R457). -/
def State.engineTakes (s : State) (u : TestUnit) : State :=
  let s := match u with | .bank b => s.bankKeptOn b | .config _ | .bram _ | .slice _ => s
  { s with underTest := s.underTest ++ [u] }

/-- A test of a unit has ended: a REQ that was held for a bank takes effect (R457). -/
def State.heldPower (s : State) (u : TestUnit) : State :=
  match u with
  | .bank b =>
    (match storeGet none b s.selfTest.bankPwr with
     | some req =>
       let s : State := { s with selfTest := { s.selfTest with bankPwr := storeSet none b none s.selfTest.bankPwr } }
       s.bankRequestState b req
     | none => s)
  | .config _ | .bram _ | .slice _ => s

/-- A write to BANK_OWNER_b (R283, R284): it starts a handover, or is refused; during a test it ends the test (R457). A mapped-out
bank ignores it (R38), and a bank that FAILed stays with the test engine (R460): the write is refused. -/
def wrBankOwner (s : State) (b : Nat) (v : BitVec 32) : State :=
  if !(s.bankIn b) then s
  else
    let s := s.w1cOnly (.BANK_OWNER b) v
    let kind := (R.BANK_OWNER_KIND b).of v
    let kind := if 8 ≤ kind then s.rd (R.BANK_OWNER_KIND b) else kind
    let id := (R.BANK_OWNER_ID b).of v
    if s.is1 (R.BANK_OWNER_PENDING b) || !(ownerOk kind id) || s.keptByTest.contains (.bank b) then s.set1 (R.BANK_OWNER_CFG_ERR b)
    else
      let s := (s.abortTestOf (.bank b)).heldPower (.bank b)
      let k := s.bank b
      (s.setBank b { k with newOwner := some (kind, id), accepted := k.accepted ++ k.waiting, waiting := [] }).set1
        (R.BANK_OWNER_PENDING b)

/-- BANK_OWNER_WRITE (R284). -/
def execBankOwnerWrite (ini : Ini) (b : Fin 2048) (value : BitVec 32) (s : State) : Host.Outcome State Fault Refusal :=
  .next (s.quiet.written ini (R.BANK_OWNER_KIND b.val).off fun s => wrBankOwner s b.val value)

/-- The new owner takes effect, and its held requests are performed (R284). -/
def State.handover (s : State) (b : Nat) : State :=
  match (s.bank b).newOwner with
  | none => s
  | some (k, i) =>
    let s := s.setBank b { s.bank b with newOwner := none }
    (((s.wr (R.BANK_OWNER_KIND b) k).wr (R.BANK_OWNER_ID b) i).clr (R.BANK_OWNER_PENDING b)).bankRecheck b

/-- HANDOVER_COMPLETE (R284): not while an accepted access waits, as one does while the bank wakes for it. -/
def execHandoverComplete (b : Fin 2048) (s : State) : Host.Outcome State Fault Refusal :=
  let s := s.quiet
  if (s.bank b.val).accepted ≠ [] then .next s else .next (s.handover b.val)

/-- A mode and a width go together (BANK_CFG_b). -/
def modeWidthOk (mode width : Nat) : Bool :=
  match BMode.ofCode mode with
  | .linear => true | .circular => width < 2 | .rotate => width == 3

/-- A write to BANK_CFG_b (R282): refused as a whole when a pair is wrong or a port with an access queued would change. -/
def wrBankCfg (s : State) (b : Nat) (v : BitVec 32) : State :=
  if !(s.bankIn b) then s
  else
    let s := s.w1cOnly (.BANK_CFG b) v
    let t := s.storeReg (.BANK_CFG b) v
    let same := fun f g => s.rd f == t.rd f && s.rd g == t.rd g
    let okA := same (R.BANK_CFG_A_MODE b) (R.BANK_CFG_A_WIDTH b) || s.bankQueued b false == 0
    let okB := same (R.BANK_CFG_B_MODE b) (R.BANK_CFG_B_WIDTH b) || s.bankQueued b true == 0
    if okA && okB && modeWidthOk (t.rd (R.BANK_CFG_A_MODE b)) (t.rd (R.BANK_CFG_A_WIDTH b)) &&
        modeWidthOk (t.rd (R.BANK_CFG_B_MODE b)) (t.rd (R.BANK_CFG_B_WIDTH b)) then t
    else s.set1 (R.BANK_CFG_CFG_ERR b)

/-- BANK_CFG_WRITE (R282). -/
def execBankCfgWrite (ini : Ini) (b : Fin 2048) (value : BitVec 32) (s : State) : Host.Outcome State Fault Refusal :=
  .next (s.quiet.written ini (R.BANK_CFG_A_MODE b.val).off fun s => wrBankCfg s b.val value)

/-- A write to BANK_WIN_A_b or BANK_WIN_B_b (R282). -/
def wrBankWin (s : State) (b : Nat) (portB : Bool) (v : BitVec 32) : State :=
  if !(s.bankIn b) then s
  else
    let len := (R.BANK_WIN_A_LEN_W b).of v
    let base := (R.BANK_WIN_A_BASE_W b).of v
    if len = 0 ∨ 16384 < base + len ∨ s.bankQueued b portB ≠ 0 then s.set1 (R.BANK_CFG_CFG_ERR b)
    else s.storeReg (if portB then .BANK_WIN_B b else .BANK_WIN_A b) v

/-- BANK_WIN_WRITE (R282). -/
def execBankWinWrite (ini : Ini) (b : Fin 2048) (portB : Bool) (value : BitVec 32) (s : State) :
    Host.Outcome State Fault Refusal :=
  .next (s.quiet.written ini (if portB then R.BANK_WIN_B_LEN_W b.val else R.BANK_WIN_A_LEN_W b.val).off fun s => wrBankWin s b.val portB value)

/-- A write to BANK_PWR_b (R288): during a test REQ is held until the test ends (R457). -/
def wrBankPwr (s : State) (b : Nat) (v : BitVec 32) : State :=
  if !(s.bankIn b) then s
  else
    let s := s.wr (R.BANK_PWR_AUTO_WAKE b) ((R.BANK_PWR_AUTO_WAKE b).of v)
    let req := (R.BANK_PWR_REQ b).of v
    if req = 3 then s
    else if s.underTest.contains (.bank b) then
      { s with selfTest := { s.selfTest with bankPwr := storeSet none b (some req) s.selfTest.bankPwr } }
    else s.bankRequestState b req

/-- BANK_POWER_REQUEST (R288). -/
def execBankPowerRequest (ini : Ini) (b : Fin 2048) (value : BitVec 32) (s : State) : Host.Outcome State Fault Refusal :=
  .next (s.quiet.written ini (R.BANK_PWR_REQ b.val).off fun s => wrBankPwr s b.val value)

/-- BANK_POWER_CHANGE_DONE (R288): the bank reaches its state; contents are lost in OFF, and read 0 afterwards; waiting
requests are checked again, and those that the state lets through are performed; then a REQ written meanwhile starts the next change. -/
def execBankPowerChangeDone (b : Fin 2048) (s : State) : Host.Outcome State Fault Refusal :=
  let s := s.quiet
  match (s.bank b.val).toward with
  | none => .next s
  | some st =>
    let s := (s.setBank b.val { s.bank b.val with toward := none }).wr (R.BANK_PWR_STATE b.val) st
    let s := if st = 2 then s.loseBank b.val else s
    let s := s.bankRecheck b.val
    .next (s.bankToward b.val (s.rd (R.BANK_PWR_REQ b.val)))

end Sys2Proof.Machine
end

