-- ==== Sys2Proof/Machine/TwinOps.lean ====
section
/-! DEFINITION. The shared operations of the twin-link engine (13_twin.md, R356 to R374): pair states, streams, losing the partner,
takeover and restore, check values. -/

namespace Sys2Proof.Machine

/-- The states of the pair (R358). -/
inductive PState where
  | off | joining | standby | primary | solo | orphan | taking | fenced
  deriving DecidableEq, Repr

/-- The code of a pair state (TWIN_CTL). -/
def PState.code : PState → Nat
  | .off => 0 | .joining => 1 | .standby => 2 | .primary => 3 | .solo => 4 | .orphan => 5 | .taking => 6 | .fenced => 7

/-- The pair state that a code names. -/
def PState.ofCode : Nat → PState
  | 1 => .joining | 2 => .standby | 3 => .primary | 4 => .solo | 5 => .orphan | 6 => .taking | 7 => .fenced | _ => .off

/-- The pair state. -/
def State.pstate (s : State) : PState := PState.ofCode (s.rd R.TWIN_CTL_STATE)

/-- GPIO bank b is a pair output that this device holds safe (R360). -/
def State.twinSafe (s : State) (b : Nat) : Bool := s.twinSilent && s.bit R.TWIN_OUT_BANKS b

/-- The pair outputs that are held safe drive their safe state (R360). -/
def State.twinPads (s : State) : State :=
  s.each (List.range 32) fun s b => if s.twinSafe b then s.setPad b (s.safePads b) else s

/-- Enter a pair state: the pair's outputs and lane groups follow it (R360, R368). -/
def State.setPstate (s : State) (x : PState) : State := ((s.wr R.TWIN_CTL_STATE x.code).twinPads).linksSettle

/-- Set the twin engine. -/
def State.setTwin (s : State) (t : Twin) : State := { s with twin := t }

/-- The partner (TWIN_PEER). -/
def State.peerDev (s : State) : Nat := s.rd R.TWIN_PEER_PEER_DEV

/-! ## Streams (R361 to R364, R374) -/

/-- The 32 bytes of an item header (R363). -/
def itemHead (kind index plane len tick mask : Nat) : List Byte :=
  leBytes 2 kind ++ leBytes 2 index ++ leBytes 4 plane ++ leBytes 8 len ++ leBytes 8 tick ++ leBytes 8 mask

/-- Data of a thread item (R363): s0 to s31 with s0 as 0, then 16 bytes with OWED in bit 0. -/
def threadData (c : Capt) : List Byte :=
  ((List.range 32).map fun r => leBytes 8 (regOf c.regs r).toNat).flatten ++ leBytes 16 c.owed.toNat

/-- The tags of s0 to s31 as MASK (R363). -/
def threadMask (c : Capt) : Nat := ((List.range 32).map fun r => if tagOf c.tags r then 2 ^ r else 0).sum

/-- The state frames that the active plane of region n declares (R361): at most 8 of 60. -/
def State.declaredFrames (s : State) (n : Nat) : List Nat :=
  ((List.range 60).filter (Config.mirrorMask (s.cfgFrames n (s.region n).sel)).testBit).take 8

/-- Data bits of state frame f of the active context (R361). -/
def State.activeState (s : State) (n f : Nat) : Nat := (s.latch n (s.region n).sel (3840 + f)).data

/-- A stored row of 128 bytes of a bank as a read through port A delivers it (R291, R362). -/
def State.bankRow (s : State) (b row : Nat) : List Byte × Nat :=
  deliver ((List.range 128).map fun j => (j, s.cellAt (.bank b) (bankAddr b (128 * row + j))))

/-- A stream under construction: its bytes, its poisoned words, the items so far. -/
structure StreamAcc where
  data   : List Byte := []
  poison : List Nat := []
  items  : Nat := 0
  deriving DecidableEq, Repr

/-- Add a thread item (R361, R363): the thread's last MIRR of the tick, or its state now. -/
def State.addThread (s : State) (tick : Nat) (a : StreamAcc) (t : Nat) : StreamAcc :=
  let c := (storeGet none t s.mirr.threads).getD (s.capture t)
  let d := threadData c
  { a with data := a.data ++ itemHead 1 t 0 d.length tick (threadMask c) ++ d, items := a.items + 1 }

/-- Add a region item (R361, R363): only a region in RUN or HELD. -/
def State.addRegion (s : State) (tick : Nat) (a : StreamAcc) (n : Nat) : StreamAcc :=
  if s.rstate n ≠ .run ∧ s.rstate n ≠ .held then a
  else
    let fs := s.declaredFrames n
    let d := (fs.map fun f => leBytes 512 (s.activeState n f)).flatten
    let mask := (fs.map fun f => 2 ^ f).sum
    { a with data := a.data ++ itemHead 2 n (s.rd (R.REGION_STATUS_ACTIVE_PLANE n)) d.length tick mask ++ d, items := a.items + 1 }

/-- Add a bank item (R361 to R363), with its poisoned words. -/
def State.addBank (s : State) (tick : Nat) (a : StreamAcc) (b : Nat) : StreamAcc :=
  let at' := (a.data.length + 32) / 8
  let rows := (List.range 1024).map fun r => (r, s.bankRow b r)
  let bad := rows.flatMap fun e => ((List.range 16).filter e.2.2.testBit).map fun w => at' + 16 * e.1 + w
  { data := a.data ++ itemHead 3 b 0 0x20000 tick 0 ++ (rows.map fun e => e.2.1).flatten, poison := a.poison ++ bad,
    items := a.items + 1 }

/-- The END item closes the stream (R363); its MASK counts the items before it (log entry 64). -/
def StreamAcc.close (a : StreamAcc) (tick : Nat) : StreamAcc := { a with data := a.data ++ itemHead 0xF 0 0 0 tick a.items }

/-- The stream of threads, regions and banks, each in ascending order (R363). -/
def State.stream (s : State) (tick : Nat) (threads regions banks : List Nat) : StreamAcc :=
  let a := threads.foldl (s.addThread tick) {}
  let a := regions.foldl (s.addRegion tick) a
  (banks.foldl (s.addBank tick) a).close tick

/-- An engine's read of 128 bytes of a bank counts as any read (R293, R294). -/
def State.countBankRow (s : State) (node b r : Nat) : State :=
  s.countRead (.bank b) ((List.range 128).map fun j => bankAddr b (128 * r + j)) (.read node)

/-- The engine's reads of a bank count as any read (R294, R362). -/
def State.countCapture (s : State) (node : Nat) (banks : List Nat) : State :=
  banks.foldl (fun s b => s.each (List.range 1024) fun s r => s.countBankRow node b r) s

/-- The next piece of a stream: at most 128 bytes that cross no 128-byte boundary (R236), its poison bits. -/
def TwinTx.piece (t : TwinTx) (base : Nat) : List Byte × Nat :=
  let k := min (128 - (base + t.sent) % 128) (t.data.length - t.sent)
  let p := ((List.range 16).filter fun w => 8 * w < k && t.poison.contains (t.sent / 8 + w)).map (2 ^ ·)
  ((t.data.drop t.sent).take k, p.sum)

/-- Send pieces of the mirror stream while fewer than 128 wait for their answers (R364; log entry 62). -/
def State.mirrorIssue : Nat → State → State
  | 0, s => s
  | k + 1, s =>
    match s.twin.tx with
    | none => s
    | some t =>
      if 128 ≤ t.tags.length ∨ t.data.length ≤ t.sent ∨ s.maySend twinNode = false then s
      else
        let x := t.piece 0
        let tag := s.freeTag twinNode
        let s := s.sendTwin s.peerDev 1 t.sent x.1 x.2
        (s.setTwin { s.twin with tx := some { t with sent := t.sent + x.1.length, tags := t.tags ++ [tag] } }).mirrorIssue k

/-- Send pieces of the snapshot while fewer than 128 wait for their answers and every answer was OK (R374). -/
def State.snapIssue : Nat → State → State
  | 0, s => s
  | k + 1, s =>
    match s.twin.snap with
    | none => s
    | some t =>
      if 128 ≤ t.tags.length ∨ t.data.length ≤ t.sent ∨ t.code ≠ .ok ∨ s.maySend snapNode = false then s
      else
        let x := t.piece t.dest
        let tag := s.freeTag snapNode
        let s := s.sendReq snapNode ⟨.wr, 0, 0, t.dest + t.sent, x.1.length, x.1, x.2⟩
        (s.setTwin { s.twin with snap := some { t with sent := t.sent + x.1.length, tags := t.tags ++ [tag] } }).snapIssue k

/-- A mirror is dropped (R361, R364, R372): counted, and logged at the first count. -/
def State.mirrorSkip (s : State) : State :=
  let s := if s.rd R.TWIN_STAT_SKIPPED = 0 then s.log .twinMirrorSkip [] else s
  s.bump R.TWIN_STAT_SKIPPED

/-- An answer for the twin-link engine or the snapshot engine (R364, R374): a mirror write answered other than OK abandons the mirror, a
snapshot write ends the snapshot with its code; the next pieces go out. -/
def State.engineAnswer (s : State) (node tag : Nat) (a : Answer) : State :=
  match s.takeAnswer node tag a with
  | none => s
  | some s =>
    if node = twinNode then
      match s.twin.tx with
      | some t =>
        if !(t.tags.contains tag) then s
        else if a.code ≠ .ok then (s.setTwin { s.twin with tx := none }).mirrorSkip
        else (s.setTwin { s.twin with tx := some { t with tags := t.tags.erase tag } }).mirrorIssue 128
      | none => s
    else
      match s.twin.snap with
      | some t =>
        if !(t.tags.contains tag) then s
        else
          let code := if t.code = .ok then a.code else t.code
          (s.setTwin { s.twin with snap := some { t with tags := t.tags.erase tag, code := code } }).snapIssue 128
      | none => s

/-! ## Joining (R356 to R359) -/

/-- This device's claim (R357, R359): 2 in SOLO, and for a primary whose link came back (log entry 270), else as TWIN_ROLE was sampled (R356). -/
def State.claim (s : State) : Nat := if s.pstate = .solo ∨ s.pstate = .primary then 2 else s.rd R.TWIN_CTL_ROLE_PIN

/-- Send JOIN (R357, R359). -/
def State.sendJoin (s : State) : State :=
  let data := leBytes 4 (s.rd R.TWIN_PAIR_ID_ID) ++ leBytes 4 s.claim ++ leBytes 8 s.tickCount
  (s.sendTwin s.peerDev 4 0 data 0).setTwin { (s.sendTwin s.peerDev 4 0 data 0).twin with joinSent := true }

/-- The twin link carries frames. -/
def State.twinLink (s : State) : Bool := s.linkActive 23

/-- The pair parts: JOIN is to be exchanged anew (log entry 65); a mirror in transfer and an incoming stream are cut off. -/
def State.part (s : State) : State :=
  s.setTwin { s.twin with
    joinSent := false, standby := false, tx := none, rx := [], rxLost := [], own := [], peer := [], missRun := 0, paired := none }

/-- The device may take a part in a pair (R358, R359): also a primary that is not about to give up its outputs, and a standby that restores after a
divergence (R367). -/
def State.mayPair (s : State) : Bool :=
  match s.pstate with
  | .joining | .solo | .standby => true
  | .primary => s.twin.resign.isNone && s.twin.fence.isNone
  | .taking => s.twin.take.any (·.diverge)
  | .off | .orphan | .fenced => false

/-- A device that takes no part in a pair, but may, sends JOIN while the twin link is ACTIVE (R359; log entry 65). -/
def State.offerJoin (s : State) : State :=
  if s.mayPair && s.twinLink && s.twin.paired.isNone && !s.twin.joinSent then s.sendJoin else s

/-- The twin link has become ACTIVE (R359): JOIN is exchanged, also by two devices whose link was stopped and is back (log entry 270). -/
def State.twinLinkUp (s : State) : State := (s.setTwin { s.twin with joinSent := false, paired := none }).offerJoin

/-- Enter JOINING (R356, R369, R370). -/
def State.toJoining (s : State) : State :=
  let s := s.part
  let t := { s.twin with mirrored := false, latest := [], gotBanks := [], take := none }
  let s := s.setTwin { t with resign := none, fence := none, offset := 0 }
  (s.setPstate .joining).offerJoin

/-! ## Losing the primary, takeover and restore (R368) -/

/-- The boundary number that ends the tick after the one in progress (R128, R368): none while no boundary falls. -/
def State.takeBoundary (s : State) (after : Nat) : Nat :=
  if s.noBoundary then 0
  else
    let m := s.rd R.TICK_LAYOUT_NSLOT_M1
    s.tickGen.bno + (m - s.rd R.TICK_STAT_SLOT) + 1 + after * s.nextTickSpan

/-- Hand bank b to an owner at once (R284, R368). -/
def State.giveBank (s : State) (b kind id : Nat) : State :=
  (s.setBank b { s.bank b with newOwner := some (kind, id) }).handover b

/-- Copy a bank over another, poison with it (R299, R368); the engine's reads count as any read (R293, R294), and its writes may be flipped as any
write (R304). -/
def State.copyBank (s : State) (src dst : Nat) : State :=
  s.each (List.range 1024) fun s r =>
    let x := s.bankRow src r
    let s := s.countBankRow twinNode src r
    (((List.range 128).zip x.1).foldl (fun s e => s.setBankCell dst (128 * r + e.1) (writtenCell x.2 e.1 e.2)) s).afterStore (.bank dst) (128 * r)

/-- The bank that holds the LATEST copy of TWIN_BANK entry i (R365). -/
def State.latestBank (s : State) (i : Nat) : Nat :=
  s.rd (R.TWIN_BANK_DST i) + (if s.is1 (R.TWIN_BANK_LATEST i) then 1 else 0)

/-- Restore one bank (R368 step 3): SRC goes to TWIN, the LATEST copy is written into it, the prior owner is recorded. A bank that is not ON
is not restored (log entry 66). -/
def State.restoreBank (s : State) (i : Nat) : State × List (Nat × Nat × Nat) :=
  let src := s.rd (R.TWIN_BANK_SRC i)
  if !(s.is1 (R.TWIN_BANK_EN i)) || !(s.twin.gotBanks.contains src) || !(s.bankIn src) || s.bankState src ≠ 0 then (s, [])
  else
    let prior := (src, s.rd (R.BANK_OWNER_KIND src), s.rd (R.BANK_OWNER_ID src))
    ((s.giveBank src 4 0).copyBank (s.latestBank i) src, [prior])

/-- Restore one region (R368 step 3): a fill of PLANE, also where the shadow holds PLANE already, and a swap armed for b_T; a refused fill counts, and
the region keeps its context. -/
def State.restoreRegion (s : State) (bno : Nat) (i : TwinItem) : State × List (Nat × Nat) :=
  match s.freshRefusal i.index i.plane with
  | some _ => ((s.bump R.TWIN_STAT_RESTORE_FAIL).log .twinRestoreFail [i.index, i.plane], [])
  | none => ((s.freshFill i.index i.plane).arm i.index bno ⟨some i.plane, .host⟩, [(i.index, i.plane)])

/-- Steps 2 and 3 of R368, for the boundary that ends pair tick `tick`. -/
def State.beginTake (s : State) (tick after : Nat) (restore diverge : Bool) : State :=
  let threads := (List.range 4).filter fun t => s.tstate t ≠ .off
  let bno := s.takeBoundary after
  let s := s.setPstate .taking
  let s := s.each threads fun s t => s.request136 t .stop
  let s := s.setTwin { s.twin with take := some ⟨tick, restore, diverge, threads, [], []⟩ }
  if !restore then s
  else
    let r := (List.range 64).foldl (fun (a : State × List (Nat × Nat × Nat)) i =>
      let x := a.1.restoreBank i
      (x.1, a.2 ++ x.2)) (s, [])
    let q := (s.twin.latest.filter fun i => i.kind == 2).foldl (fun (a : State × List (Nat × Nat)) i =>
      let x := a.1.restoreRegion bno i
      (x.1, a.2 ++ x.2)) (r.1, [])
    q.1.setTwin { q.1.twin with take := some ⟨tick, restore, diverge, threads, r.2, q.2⟩ }

/-- Why the primary is lost (R368). -/
inductive Loss where
  | link | missed | resign (tick : Nat) | takeover
  deriving DecidableEq, Repr

/-- The takeover of a standby that was restoring after a divergence (R367, R368): its swaps are disarmed, steps 2 and 3 are done for the new b_T, and
the threads that it had stopped and the owners that it had recorded are those of the takeover. -/
def State.retake (s : State) (old : Takeover) (tick after : Nat) : State :=
  let s := old.regions.foldl (fun s e => 
    s.setRegion e.1 { s.region e.1 with arms := (s.region e.1).arms.eraseP fun a => a.2 == ⟨some e.2, .host⟩ }) s
  let s := s.beginTake tick after true false
  match s.twin.take with
  | none => s
  | some k => s.setTwin { s.twin with take := some { k with
      threads := old.threads ++ k.threads.filter (fun t => !old.threads.contains t),
      banks := old.banks ++ k.banks.filter (fun b => !(old.banks.any fun o => o.1 == b.1)) } }

/-- Steps 1 and 2 of R368 of a device that has lost the primary. -/
def State.takeOver (s : State) (tick after : Nat) : State :=
  match s.twin.take with
  | some old => s.retake old tick after
  | none => if s.twin.mirrored then s.beginTake tick after true false else s.setPstate .orphan

/-- The standby declares the primary lost (R368): b_T ends the pair tick after the one in progress, or the tick that a RESIGN names. -/
def State.primaryLost (s : State) (c : Loss) : State :=
  let k := s.pairTick
  let forced := match c with | .resign _ | .takeover => true | .link | .missed => s.is1 R.TWIN_CFG_TAKE_AUTO
  let s := s.log .twinLost []
  let after := match c with | .resign t => t - k | _ => 1
  let s := s.setTwin { s.twin with
    joinSent := false, standby := false, rx := [], rxLost := [], peer := [], missRun := 0, paired := none }
  if forced then s.takeOver (k + after) after else s

/-- The primary loses its standby (R370): SOLO, or FENCED from the boundary that ends the next tick. -/
def State.standbyLost (s : State) : State :=
  let k := s.pairTick
  let s := s.part.log .twinLost []
  if s.is1 R.TWIN_CFG_LOSS_RELEASE then s.setTwin { s.twin with fence := some (k + 1) } else s.setPstate .solo

/-- The partner is lost by the twin link or by MISSED (R368, R370). -/
def State.partnerLost (s : State) (c : Loss) : State :=
  match s.pstate with
  | .primary => if s.twin.fence.isSome then s else s.standbyLost
  | .standby => if s.twin.standby then s.primaryLost c else s
  | .joining | .taking => if s.twin.standby then s.primaryLost c else s.part
  | _ => s.part

/-! ## Check values (R366, R367) -/

/-- The check value of a tick (R366): CRC-32C over the output samples of the banks in TWIN_OUT, then the results of the units in
CHK_SNOOP. -/
def State.checkValue (s : State) (snoops : List Nat) : Nat :=
  let banks := (List.range 32).filter (s.bit R.TWIN_OUT_BANKS)
  let bytes := banks.flatMap fun b => (storeGet [] b s.twin.samples).flatMap fun v =>
    leBytes 4 v.1.toNat ++ leBytes 4 v.2.toNat
  Alg.crc32c.of (bytes ++ snoops.flatMap (leBytes 4))

/-- Both check values of a pair tick are there (R367): they are compared; on a difference a standby may restore. -/
def State.compareCheck (s : State) (tick : Nat) : State :=
  match s.twin.own.find? (·.1 == tick), s.twin.peer.find? (·.1 == tick) with
  | some a, some b =>
    if a.2 = b.2 then s
    else
      let s := ((s.set1 R.TWIN_CTL_DIVERGED).bump R.TWIN_STAT_DIVERGE).log .twinDiverge (words64 tick ++ [a.2, b.2])
      if s.is1 R.TWIN_CFG_DIV_RESTORE && s.pstate = .standby && s.twin.take.isNone then s.beginTake (s.pairTick + 1) 1 true true else s
  | _, _ => s

/-- The newest few entries of a list of check values. -/
def keepChecks (l : List (Nat × Nat)) : List (Nat × Nat) := l.drop (l.length - 4)

end Sys2Proof.Machine
end

