-- ==== Sys2Proof/Machine/Links.lean ====
section
/-! DEFINITION. Lane groups (12_lanes_links.md, R329 to R354): their modes, training, symbol streams, frames, loss, tick markers and raw mode. -/

namespace Sys2Proof.Machine

/-! ## LINK_CTL_g (R333, R351) -/

/-- A raw group may not be bound as RAW_CFG_g says (R351): the port is not DISABLED, or another raw group is bound to a port of the same
station (regions and stations of a die correspond). -/
def State.rawBadBinding (s : State) (g : Nat) : Bool :=
  let n := s.rd (R.RAW_CFG_REGION g)
  s.portMode n (s.rd (R.RAW_CFG_PORT g)) ≠ 2 ||
  (List.range 24).any fun h => h ≠ g && s.rd (R.LINK_CTL_MODE h) == 2 && s.rd (R.RAW_CFG_REGION h) == n

/-- A write that sets a MODE other than OFF is refused (R333, R351, R492). -/
def State.linkRefuses (s : State) (g : Nat) (v : BitVec 32) : Bool :=
  let mode := (R.LINK_CTL_MODE g).of v
  let width := (R.LINK_CTL_WIDTH g).of v
  let changes := (R.LINK_CTL_RATE g).of v ≠ s.rd (R.LINK_CTL_RATE g) || width ≠ s.rd (R.LINK_CTL_WIDTH g) ||
    (R.LINK_CTL_SSC g).of v ≠ s.rd (R.LINK_CTL_SSC g)
  (changes && s.rd (R.LINK_CTL_MODE g) ≠ 0) ||
  (width == 4 && (g % 2 == 1 || s.rd (R.LINK_CTL_MODE (g + 1)) ≠ 0)) ||
  (g % 2 == 1 && s.rd (R.LINK_CTL_MODE (g - 1)) == 1 && s.rd (R.LINK_CTL_WIDTH (g - 1)) == 4) ||
  (mode == 2 && (width == 4 || s.rawBadBinding g)) || mode == 3 || 4 < width || s.traceUses g

/-- RETRAIN (R335): FAILED or DOWN goes to DETECT. -/
def State.retrain (s : State) (g : Nat) : State :=
  match s.lstate g with
  | .failed | .down => s.toDetect g
  | _ => s

/-- A write to LINK_CTL_g (R333, R335, R388): OFF is always accepted; a MODE other than OFF may be refused as a whole, and is a request ON
for a domain that is OFF. -/
def wrLinkCtl (s : State) (g : Nat) (v : BitVec 32) : State :=
  let s := s.w1cOnly (.LINK_CTL g) v
  let mode := (R.LINK_CTL_MODE g).of v
  if mode = 0 then (s.storeReg (.LINK_CTL g) v).linkSettle g
  else if s.linkRefuses g v then s.set1 (R.LINK_CTL_CFG_ERR g)
  else
    let s := s.storeReg (.LINK_CTL g) v
    let s := if s.dstate (88 + g) = .off then s.requestOn (88 + g) .host else s
    let s := s.linkSettle g
    let again := s.lstate g = .failed || (R.LINK_CTL_RETRAIN g).of v = 1 ||
      (s.lstate g = .down && s.is1 (R.LINK_CTL_AUTO_RETRAIN g))
    if again then s.retrain g else s

/-- LINK_CTL_WRITE (R333). -/
def execLinkCtlWrite (ini : Ini) (g : Fin 24) (value : BitVec 32) (s : State) : Host.Outcome State Fault Refusal :=
  .next (s.quiet.written ini (R.LINK_CTL_MODE g.val).off fun s => wrLinkCtl s g.val value)

/-- RETRAIN (R335). -/
def execRetrain (ini : Ini) (g : Fin 24) (s : State) : Host.Outcome State Fault Refusal :=
  .next (s.quiet.written ini (R.LINK_CTL_MODE g.val).off fun s => s.retrain g.val)

/-- A write to RAW_CFG_g (R351): only while MODE is OFF; a refused one sets CFG_ERR of LINK_CTL_g. -/
def wrRawCfg (s : State) (g : Nat) (v : BitVec 32) : State :=
  if s.rd (R.LINK_CTL_MODE g) = 0 then s.storeReg (.RAW_CFG g) v else s.set1 (R.LINK_CTL_CFG_ERR g)

/-! ## Training (R335, R336) -/

/-- The link lanes of group g. -/
def State.lanes (s : State) (g : Nat) : Nat := widthLanes (s.rd (R.LINK_CTL_WIDTH g))

/-- What a status field shows of 16 link lanes: lanes 8 to 15 stand in the next group's register (LINK_STAT_g). -/
def State.wrLanes (s : State) (g : Nat) (f : Nat → Fld) (mask : Nat) : State :=
  let s := s.wr (f g) (mask % 256)
  if s.rd (R.LINK_CTL_WIDTH g) = 4 then s.wr (f (g + 1)) (mask / 256 % 256) else s

/-- Training fails with a cause (R335, R336, R355). -/
def State.linkFails (s : State) (g cause : Nat) : State :=
  ((s.wr (R.LINK_STAT_CAUSE g) cause).setLstate g .failed).log .linkTrainFail [g, cause]

/-- The PING of received sets is what ECHO returns, with the time since it came (R336; log entry 246). -/
def State.pinged (s : State) (g : Nat) (sets : List TSet) : State :=
  match sets with
  | [] => s
  | t :: _ => s.setLink g { s.link g with echo := t.ping.toNat, echoAt := s.now }

/-- A link enters TRAIN (R335): it sends TS2 from its next set on. -/
def State.toTrain (s : State) (g : Nat) : State :=
  (s.setLink g { s.link g with sets := 0, trainAt := s.now }).setLstate g .train

/-- TS2 sets that have left (R335). -/
def Link.setsSent (x : Link) : Nat := if x.set = [] then x.sets else x.sets - 1

/-- Lane i of group g arrives inverted (R336). -/
def State.laneInverted (s : State) (g i : Nat) : Bool :=
  if i < 8 then s.bit (R.LINK_STAT_POL_INV g) i else s.bit (R.LINK_STAT_POL_INV (g + 1)) (i - 8)

/-- Training sets of a kind as the lanes of group g receive them (R332, R336): what they say, where each of them is such a set; symbol errors count. -/
def State.readSets (s : State) (g kind : Nat) (inv : Nat → Bool) (xs : List RxSet) : Option (List TSet) × State :=
  let rs := (xs.zip (List.range xs.length)).map fun e => readSet kind (inv e.2) e.1
  (if rs.all (·.1.isSome) then some (rs.filterMap (·.1)) else none, s.bumpN (R.LINK_ERR_CODE_ERR g) (rs.map (·.2)).sum)

/-- The sets of all lanes say the same of the link (R335). -/
def sameSets (sets : List TSet) : Bool :=
  sets.all fun a => sets.all fun b =>
    a.width == b.width && a.rate == b.rate && a.ssc == b.ssc && a.dev == b.dev && a.req == b.req && a.rsp == b.rsp

/-- TS1 (R335, R336): 8 consecutive sets have arrived on the locked lanes; with every link lane locked and the sets consistent the link
goes from DETECT to TRAIN. -/
def execTs1 (g : Fin 24) (locked inverted : BitVec 16) (sets : List RxSet) (s : State) : Host.Outcome State Fault Refusal :=
  let s := s.quiet
  let g := g.val
  if s.lstate g ≠ .detect then .next s
  else
    let w := s.lanes g
    let all := 2 ^ w - 1
    let s := (s.wrLanes g R.LINK_STAT_LOCKED (locked.toNat &&& all)).wrLanes g R.LINK_STAT_POL_INV (inverted.toNat &&& all)
    match s.readSets g 1 inverted.getLsbD sets with
    | (none, s) => .next s
    | (some sets, s) =>
      let s := s.pinged g sets
      .next (if locked.toNat &&& all = all ∧ sets.length = w ∧ sameSets sets then s.toTrain g else s)

/-- The lanes carry their numbers in order, straight or reversed (R336): none where they do not. -/
def laneOrder (sets : List TSet) : Option Bool :=
  let w := sets.length
  let ns := sets.map (·.lane.toNat)
  if ns = List.range w then some false else if ns = (List.range w).reverse then some true else none

/-- Why training fails (R336), by the set of any lane: WIDTH, RATE, SSC, SELF, ORDER. -/
def State.trainFault (s : State) (g : Nat) (sets : List TSet) : Option Nat :=
  if sets.any fun t => t.width.toNat != s.rd (R.LINK_CTL_WIDTH g) then some 5
  else if sets.any fun t => t.rate.toNat != s.rd (R.LINK_CTL_RATE g) then some 6
  else if sets.any fun t => t.ssc.toNat != s.rd (R.LINK_CTL_SSC g) then some 7
  else if sets.any fun t => t.dev.toNat == s.rd R.NET_CFG_DEV_NUM then some 9
  else if (laneOrder sets).isNone then some 8 else none

/-- DELAY (R336): half of round trip less TURN, averaged over the pings, in units of 0.1 ns. -/
def delayOf (pings : List (Nat × Nat)) : Nat := (pings.map fun p => p.1 - p.2).sum / (2 * pings.length)

/-- A link enters ACTIVE (R335, R344): credits for the partner's depths; the twin link offers JOIN (R359). -/
def State.linkUp (s : State) (g : Nat) (t : TSet) (rev : Bool) (delay : Nat) : State :=
  let s := s.wrb (R.LINK_STAT_REVERSED g) rev
  let s := ((s.wr (R.LINK_DELAY_PEER_REQ g) t.req.toNat).wr (R.LINK_DELAY_PEER_RSP g) t.rsp.toNat).wr (R.LINK_DELAY_DELAY g) delay
  let s := s.setLink g { (s.link g).idle with credReq := t.req.toNat, credRsp := t.rsp.toNat, set := (s.link g).set }
  let s := s.setLstate g .active
  if g = 23 then s.twinLinkUp else s

/-- TS2 (R335, R336): 8 sets are received; a mismatch fails with a cause; with 16 sets sent and at least 16 pings measured the link is ACTIVE. -/
def execTs2 (g : Fin 24) (sets : List RxSet) (pings : List (Nat × Nat)) (s : State) : Host.Outcome State Fault Refusal :=
  let s := s.quiet
  let g := g.val
  if sets = [] then .fault (.illFormed "TS2")
  else if s.lstate g ≠ .train ∨ sets.length ≠ s.lanes g then .next s
  else match s.readSets g 2 (s.laneInverted g) sets with
    | (some (t :: rest), s) =>
      let s := (s.pinged g (t :: rest)).wr (R.LINK_STAT_PARTNER_DEV g) t.dev.toNat
      match s.trainFault g (t :: rest) with
      | some c => .next (s.linkFails g c)
      | none =>
        if pings.length < 16 ∨ (s.link g).setsSent < 16 then .next s
        else .next (s.linkUp g t ((laneOrder (t :: rest)).getD false) (delayOf pings))
    | (_, s) => .next s

/-- TRAIN_TIMEOUT (R335): 1 ms in TRAIN, which is 156,250 reference cycles. -/
def execTrainTimeout (g : Fin 24) (s : State) : Host.Outcome State Fault Refusal :=
  let s := s.quiet
  if s.lstate g.val = .train ∧ (s.link g.val).trainAt + 156250 ≤ s.now then .next (s.linkFails g.val 0xA) else .next s

/-! ## Going down (R348, R349) -/

/-- An ACTIVE link goes DOWN with a cause (R349, R355); with AUTO_RETRAIN it trains again; the twin link's loss is the partner's
(R368, R370). -/
def State.linkDown (s : State) (g cause : Nat) : State :=
  let s := ((s.wr (R.LINK_STAT_CAUSE g) cause).setLstate g .down).bump (R.LINK_ERR_DOWN_CNT g)
  let s := (s.log .linkDown [g, cause]).linkDiscards g
  let s := if g = 23 then s.partnerLost .link else s
  if s.is1 (R.LINK_CTL_AUTO_RETRAIN g) then s.retrain g else s

/-- LOSS_OF_SIGNAL (R348): a lane loses its signal, or its symbol lock: an ACTIVE link goes DOWN; a raw group shows it. -/
def execLossOfSignal (g : Fin 24) (lane : Fin 16) (lock : Bool) (s : State) : Host.Outcome State Fault Refusal :=
  let s := s.quiet
  let g := g.val
  match s.lstate g with
  | .raw => .next (if lane.val < s.lanes g then s.clrBit (R.RAW_STAT_LOCKED g) lane.val else s)
  | .active | .detect | .train =>
    if s.lanes g ≤ lane.val then .next s
    else
      let was := s.lstate g
      let h := if lane.val < 8 then g else g + 1
      let s := s.clrBit (R.LINK_STAT_LOCKED h) (lane.val % 8)
      .next (if was = .active then s.linkDown g (if lock then 2 else 1) else s)
  | _ => .next s

/-! ## Frames (R338 to R344) -/

/-- What is left of the symbol stream before a replay (R343): on NAK the frame in progress ends with K30.7, and a control frame so cut is sent anew;
sequenced frames that have not begun are dropped, since the replay sends them. -/
def replayStream (nak : Bool) : List StreamFrame → List StreamFrame
  | [] => []
  | f :: fs =>
    let rest := fs.filter fun e => e.kind == .control
    if f.sent = 0 then (f :: fs).filter fun e => e.kind == .control
    else if f.kind = .aborted ∨ nak = false then f :: rest
    else ⟨.aborted, f.syms.take f.sent ++ [symAbort], f.sent⟩ :: (if f.kind = .control then [{ f with sent := 0 }] else []) ++ rest

/-- The frames that are not acknowledged are sent again (R343): a 16th replay of the same frame takes the link DOWN. -/
def State.linkReplay (s : State) (g : Nat) (nak : Bool) : State :=
  let x := s.link g
  if x.sent = [] then s
  else
    let s := s.bump (R.LINK_ERR_REPLAY g)
    if x.sent.any fun f => 15 ≤ f.replays then s.linkDown g 3
    else
      let sent := x.sent.map fun f => { f with replays := f.replays + 1 }
      sent.foldl (fun s f => s.sendSequenced g f) (s.setLink g { x with sent, ackAt := s.now, stream := replayStream nak x.stream })

/-- ACK and NAK of a received header act (R338, R343). -/
def State.linkAck (s : State) (g ack : Nat) (nak : Bool) : State :=
  let x := s.link g
  let s := if x.sent.any fun f => f.seq == ack then
      s.setLink g { x with sent := (x.sent.dropWhile fun f => f.seq ≠ ack).drop 1, ackAt := s.now }
    else s
  if nak then s.linkReplay g true else s

/-- A bad frame (R342): counted, and answered with one NAK until a frame is accepted. -/
def State.badFrame (s : State) (g : Nat) : State :=
  let s := s.bump (R.LINK_ERR_CRC_ERR g)
  if (s.link g).nak then s else (s.setLink g { s.link g with nak := true }).controlFrame g true

/-- An accepted record is delivered to the link port's waystation (R334, R342). -/
def State.deliverRecord (s : State) (g : Nat) (p : Packet) : State :=
  match p.vn with
  | .req => s.enterRequest g 0 p
  | .rsp | .sys => s.enterPacket g 0 .rsp p

/-- A frame in order is accepted (R342, R344): its credits count, its records are delivered, it is acknowledged. -/
def State.acceptFrame (s : State) (g h : Nat) (r : List Packet × Nat × Nat × Option Packet) : State :=
  let x := s.link g
  let s := s.setLink g { x with rxAck := natBits h 9 0, nak := false, prev := r.2.2.2,
                                credReq := x.credReq + natBits h 27 24 + r.2.1, credRsp := x.credRsp + natBits h 31 28 + r.2.2.1 }
  let s := s.linkAck g (natBits h 19 10) (h.testBit 20)
  if s.linkActive g then (r.1.foldl (fun s p => s.deliverRecord g p) s).controlFrame g false else s

/-- What a link does with a frame without errors (R342). -/
def State.goodFrame (s : State) (g : Nat) (content : List Byte) : State :=
  let h := leNat (content.take 4)
  let x := s.link g
  let next := (x.rxAck + 1) % 1024
  let seq := natBits h 9 0
  let behind := (next + 1024 - seq) % 1024
  if h.testBit 21 then s.linkAck g (natBits h 19 10) (h.testBit 20)
  else if behind = 0 then
    match parseRecords content.length (content.drop 4) x.prev with
    | none => s.linkDown g 4
    | some r => s.acceptFrame g h r
  else if behind ≤ 512 then (s.linkAck g (natBits h 19 10) (h.testBit 20)).controlFrame g false
  else s.badFrame g

/-- FRAME (R332, R338 to R344): a frame arrives on an ACTIVE link. -/
def execFrame (g : Fin 24) (f : RxFrame) (s : State) : Host.Outcome State Fault Refusal :=
  let s := s.quiet
  if !(s.linkActive g.val) || f.cols.any (fun c => c.length != s.lanes g.val) then .next s
  else
    let f := readFrame (s.lanes g.val) f
    let s := s.bumpN (R.LINK_ERR_CODE_ERR g.val) f.errors
    if f.aborted then .next s
    else if f.errors ≠ 0 ∨ f.content.length < 4 ∨ Alg.crc32.of f.content ≠ f.crc.toNat then .next (s.badFrame g.val)
    else .next (s.goodFrame g.val f.content)

/-- REPLAY_TIMEOUT (R343): no ACK has advanced, and no replay has begun, for 2 µs, which is 312.5 reference cycles. -/
def execReplayTimeout (g : Fin 24) (s : State) : Host.Outcome State Fault Refusal :=
  let s := s.quiet
  if s.linkActive g.val ∧ 625 ≤ 2 * (s.now - (s.link g.val).ackAt) then .next (s.linkReplay g.val false) else .next s

/-! ## Tick markers (R346, R347) -/

/-- The reference edge nearest a time in units of 0.1 ns, of which a reference cycle has 64; between two edges the later one (log
entry 68). -/
def nearestEdge (t : Int) : Int := (t + 32) / 64

/-- A signed number in w bits. -/
def signedBits (w : Nat) (v : Int) : Nat := (v % (2 ^ w : Nat)).toNat

/-- The signed number that w bits hold. -/
def ofSigned (w v : Nat) : Int := if v % 2 ^ w < 2 ^ (w - 1) then (v % 2 ^ w : Nat) else (v % 2 ^ w : Nat) - (2 ^ w : Nat)

/-- This device's TICK_COUNT[7:0] at its boundary nearest the time S (R347). -/
def State.countNear (s : State) (t : Int) : Int :=
  let p : Int := s.rd R.TICK_LAYOUT_PERIOD
  let off := t - 64 * (s.tickGen.tickStart : Int)
  (s.tickCount : Int) + (off + 32 * p) / (64 * p)

/-- A usable marker places the boundary that its own count puts nearest (R347; log entry 93): the next one, or, where the marker comes shortly
before a boundary of this device, the one after it; d is the placement less the boundary that the own count gives. -/
def State.markerPlaces (s : State) (place : Int) : State :=
  let g := s.tickGen
  let p := s.rd R.TICK_LAYOUT_PERIOD
  let own := g.tickStart + p
  let after := decide ((p : Int) < 2 * (place - own))
  let own : Int := if after then (g.placed.getD own + p : Nat) else own
  let d := place - own
  let at' := (if d ≤ 16 then place else own + 16).toNat
  let s : State := { s with tickGen :=
    if after then { g with ahead := some (at', (d - 16).toNat), lost := false }
    else { g with placed := some (max (g.slotStart + 10) at'), usable := true, lost := false, rest := (d - 16).toNat } }
  let s := if d < -16 then s.set1 R.TICK_CTL_SHORT else s
  s.wr R.TICK_ALIGN_STAT_LAST_D (signedBits 16 d)

/-- TICK_MARKER (R347): a marker with COUNT and OFFSET (0.1 ns) arrives `frac` × 0.1 ns after the start of this reference cycle. -/
def execTickMarker (g : Fin 24) (count offset : BitVec 8) (frac : Fin 64) (s : State) : Host.Outcome State Fault Refusal :=
  let s := s.quiet
  if s.rd R.TICK_CTL_SRC ≠ 2 || s.rd R.TICK_ALIGN_CFG_GROUP ≠ g.val || !(s.linkActive g.val) || !(s.is1 R.TICK_CTL_RUNNING) then
    .next s
  else
    let arr : Int := 64 * s.now + frac.val
    let src := arr - offset.toNat - s.rd (R.LINK_DELAY_DELAY g.val)
    let place := nearestEdge (src + 64 * (s.rd R.TICK_LAYOUT_PERIOD + ofSigned 16 (s.rd R.TICK_ALIGN_CFG_ADJ)))
    if 64 * place - arr < 1000 then .next (s.set1 R.TICK_ALIGN_STAT_LATE)
    else
      let diff := signedBits 8 (count.toNat - s.countNear src)
      let s := s.wr R.TICK_ALIGN_STAT_CNT_DIFF diff
      let s := if diff = 0 then s else s.set1 R.TICK_ALIGN_STAT_CNT_ERR
      .next (s.markerPlaces place)

/-! ## Raw mode (R351 to R354) -/

/-- A received symbol as FORM shows it (R352): the code, or data, K and symbol error; the data bits of a symbol error are undefined, and K is 1 for the
code of a K symbol that the device does not use. -/
def State.rawShown (s : State) (g i : Nat) (code : BitVec 10) (y : Option Sym) : BitVec 10 :=
  if s.is1 (R.RAW_CFG_FORM g) then code
  else match y with
    | none => BitVec.ofNat 10 (0x200 + 256 * (isKCode code).toNat + (s.draw >>> (8 * i)) % 256)
    | some y => BitVec.ofNat 10 (y.octet.toNat + 256 * y.k.toNat)

/-- The flit that received codes make, with FORM 0 or 1 (R352). -/
def State.rawFlitOf (s : State) (g : Nat) (codes : List (BitVec 10)) (ys : List (Option Sym)) : BitVec 512 :=
  rawFlit (codes.length / s.lanes g) (((codes.zip ys).zip (List.range codes.length)).map fun e => s.rawShown g e.2 e.1.1 e.1.2)

/-- A raw flit goes to the fabric (R353). -/
def State.toFabricRaw (s : State) (g : Nat) (f : BitVec 512) : State :=
  s.emit (.fabricRaw (s.rd (R.RAW_CFG_REGION g)) (s.rd (R.RAW_CFG_PORT g)) f)

/-- Raw flits that wait go to the fabric in RUN cycles that are no clamp cycles, one to each of k region cycles (R353). -/
def State.deliverRaw (s : State) (g k : Nat) : State :=
  let x := s.link g
  if x.rawIn = [] ∨ s.takesFlits (s.rd (R.RAW_CFG_REGION g)) = false then s
  else (x.rawIn.take k).foldl (fun s f => s.toFabricRaw g f) (s.setLink g { x with rawIn := x.rawIn.drop k })

/-- RAW_FLIT_IN (R351 to R353): a flit of received symbols is complete: it waits in the 4-flit buffer, which the region cycles empty, and a full buffer
drops it. -/
def execRawFlitIn (g : Fin 24) (codes : List (BitVec 10)) (s : State) : Host.Outcome State Fault Refusal :=
  let s := s.quiet
  let g := g.val
  let w := s.lanes g
  if codes.length = 0 ∨ 48 < codes.length then .fault (.illFormed "RAW_FLIT_IN")
  else if s.lstate g ≠ .raw || codes.length % w ≠ 0 then .next s
  else
    let r := decodeCodes w (s.link g).rxRd 0 codes
    let flit := s.rawFlitOf g codes r.1
    let bad := (r.1.filter (·.isNone)).length
    let s := (if bad = 0 then s else s.drawn).bumpN (R.RAW_STAT_ERR_SYM g) bad
    let s := s.setLink g { s.link g with rxRd := r.2 }
    let x := s.link g
    if x.rawIn.length < 4 then .next (s.setLink g { x with rawIn := x.rawIn ++ [flit] })
    else .next (s.set1 (R.RAW_STAT_RAW_OVERRUN g))

/-- The transmitters are idle while PORST_N or RESET_N is low (R350). -/
def State.linesReset (s : State) : Bool := s.start.rstLow || s.start.porLow

/-- Columns of symbols leave on group g, encoded under the running disparity of each lane (R332, R354); what R332 gives no code for is sent as a
free code (log entry 247). -/
def State.sendEncoded (s : State) (g : Nat) (columns : List (List Sym)) : State :=
  let r := encodeColumns (BitVec.ofNat 10 s.draw) (s.link g).txRd columns
  (s.setLink g { s.link g with txRd := r.2 }).drawn.emit (.line g r.1)

/-- RAW_FLIT_OUT (R354): COLS columns of a flit of the fabric are transmitted, encoded with FORM 0, where bit [9] is ignored, and unchanged with FORM 1;
without a flit, K28.5 leaves on each lane, with the code that the running disparity requires, which alternates the two, and RAW_UNDERRUN is set. -/
def execRawFlitOut (g : Fin 24) (flit : Option (BitVec 512)) (s : State) : Host.Outcome State Fault Refusal :=
  let s := s.quiet
  let g := g.val
  let w := s.lanes g
  if s.lstate g ≠ .raw || s.linesReset then .next s
  else match flit with
    | none => .next ((s.set1 (R.RAW_STAT_RAW_UNDERRUN g)).sendEncoded g [List.replicate w symComma])
    | some f =>
      let cols := rawCols f
      if cols = 0 || 48 / w < cols || !(s.takesFlits (s.rd (R.RAW_CFG_REGION g))) then .next s
      else
        let ys := (List.range (cols * w)).map (rawSym f)
        if s.is1 (R.RAW_CFG_FORM g) then .next (s.emit (.line g (rowsOf w cols ys)))
        else .next (s.sendEncoded g (rowsOf w cols (ys.map fun y => ⟨y.getLsbD 8, y.extractLsb' 0 8⟩)))

/-- RAW_LANE_LOCK (R351): a lane of a raw group finds symbol alignment by itself; the running disparity that its receiver starts from is free (log
entry 248). -/
def execRawLaneLock (g : Fin 24) (lane : Fin 8) (s : State) : Host.Outcome State Fault Refusal :=
  let s := s.quiet
  if s.lstate g.val = .raw ∧ lane.val < s.lanes g.val then
    let x := s.link g.val
    let rd := if x.rxRd.testBit lane.val == (s.draw % 2 == 1) then x.rxRd else x.rxRd ^^^ 2 ^ lane.val
    .next ((s.setLink g.val { x with rxRd := rd }).drawn.setBit (R.RAW_STAT_LOCKED g.val) lane.val)
  else .next s

/-! ## The symbol stream (R335 to R337, R346) -/

/-- The next k symbols of the stream (R337): the frames in order, K28.5 between them; while an alignment column is due no frame begins. -/
def streamSyms (due : Bool) : Nat → List StreamFrame → List Sym × List StreamFrame
  | 0, fs => ([], fs)
  | k + 1, [] => (List.replicate (k + 1) symComma, [])
  | k + 1, f :: fs =>
    if due && f.sent == 0 then (List.replicate (k + 1) symComma, f :: fs)
    else
      let rest := if f.sent + 1 < f.syms.length then { f with sent := f.sent + 1 } :: fs else fs
      let r := streamSyms due k rest
      (f.syms.getD f.sent symComma :: r.1, r.2)

/-- The next column of the stream on w lanes (R337, R346): a tick marker stands between stream symbols, in the same column on every lane; an alignment
column falls between frames, and is due so that no more than 4,096 symbol times pass (log entry 249). -/
def Link.streamColumn (w : Nat) (x : Link) : List Sym × Link :=
  match x.marks with
  | y :: ys => (List.replicate w y, { x with marks := ys, since := x.since + 1 })
  | [] =>
    let r := streamSyms (decide (3700 ≤ x.since)) w x.stream
    (r.1, { x with stream := r.2, since := if r.1.all (· == symComma) then 0 else x.since + 1 })

/-- A training set begins at time `at'` (0.1 ns): TS2 in TRAIN, else TS1 (R335, R336). -/
def State.beginSet (s : State) (g at' : Nat) (x : Link) : List (List Sym) :=
  trainingSet (s.lanes g) (if s.lstate g = .train then 2 else 1) (s.rd (R.LINK_CTL_WIDTH g)) (s.rd (R.LINK_CTL_RATE g)) (s.rd (R.LINK_CTL_SSC g))
    (s.rd R.NET_CFG_DEV_NUM) 16 x.ping x.echo (at' - 64 * x.echoAt)

/-- The next column of group g at time `at'` (0.1 ns): a training set goes on to its end; an ACTIVE link, and a group that trace uses, sends its stream
(R335, R337, R492). -/
def State.nextColumn (s : State) (g at' : Nat) (x : Link) : List Sym × Link :=
  match x.set with
  | c :: cs => (c, { x with set := cs })
  | [] =>
    if s.lstate g = .active || s.lstate g = .off then x.streamColumn (s.lanes g)
    else
      let cs := s.beginSet g at' x
      (cs.headD [], { x with set := cs.drop 1, sets := x.sets + 1, ping := (x.ping + 1) % 256 })

/-- The next n columns of group g in this reference cycle, with the time of each (R329). -/
def State.nextColumns (s : State) (g n : Nat) : Nat → Link → List (List Sym) × Link
  | 0, x => ([], x)
  | k + 1, x =>
    let c := s.nextColumn g (64 * s.now + 64 * (n - (k + 1)) / n) x
    let r := s.nextColumns g n k c.2
    (c.1 :: r.1, r.2)

/-- With SINK 1, the buffered records leave on lane group GROUP in a frame of 1 to 16 records (R492), from STARTED on, while the group's domain is ON
(R387): a frame is formed when the line has sent the one before it. -/
def State.traceLane (s : State) : State :=
  let g := s.rd R.TRACE_CTL_GROUP
  let x := s.link g
  if s.traceUses g && s.is1 R.IMG_STATUS_STARTED && !s.isShutdown && !s.trace.buf.isEmpty && s.dstate (88 + g) == .on && x.stream.isEmpty then
    let k := min 16 s.trace.buf.length
    let rs := s.trace.buf.take k
    let header := s.trace.frameNo + 2 ^ 16 * k
    let content := leBytes 4 header ++ (rs.map TraceRec.bytes).flatten
    let s := s.setLink g { x with stream := [⟨.sequenced, frameSyms content (Alg.crc32.of content), 0⟩] }
    let s := s.emit (.traceFrame g header rs)
    ({ s with trace := { s.trace with buf := s.trace.buf.drop k, frameNo := (s.trace.frameNo + 1) % 2 ^ 16 } } : State).traceFreed
  else s

/-- The lanes of group g send symbols (R335, R350, R492): in DETECT, TRAIN, ACTIVE and FAILED, and, from STARTED on, where the trace engine uses the
group. -/
def State.lineRuns (s : State) (g : Nat) : Bool :=
  match s.lstate g with
  | .detect | .train | .active | .failed => !s.linesReset
  | .off => s.dstate (88 + g) == .on && !s.isShutdown && !s.linesReset && s.is1 R.IMG_STATUS_STARTED &&
    (s.traceUses g || !(s.link g).stream.isEmpty)
  | .down | .raw | .pending => false

/-- The symbols of group g in one reference cycle (R329, R332, R337). -/
def State.lineTick (s : State) (g : Nat) : State :=
  if !(s.lineRuns g) then s
  else
    let x := s.link g
    let fifths := x.phase + symbolFifths (s.rd (R.LINK_CTL_RATE g))
    let r := s.nextColumns g (fifths / 5) (fifths / 5) { x with phase := fifths % 5 }
    (s.setLink g r.2).sendEncoded g r.1

end Sys2Proof.Machine
end

