-- ==== Sys2Proof/Machine/Twin.lean ====
section
/-! DEFINITION. Twin operation and global operations (13_twin.md, R356 to R375): records, commands, takeover, snapshots, reset
broadcasts; and the answers that the network's initiators wait for (R241, R252). -/

namespace Sys2Proof.Machine

/-! ## Answers (R241, R252) -/

/-- The twin-link and snapshot engines and the innkeeper consume their answers as they arrive. -/
def State.consumeEngine (s : State) (node tag : Nat) (a : Answer) : State :=
  if node = twinNode ∨ node = snapNode then s.engineAnswer node tag a
  else if node = innkeeperNode then s.bramAnswer tag a else s

/-- A tag of a node may have become free: an engine or a courier that waited for one goes on (R252). -/
def State.tagFreed (s : State) (node : Nat) : State :=
  if node = twinNode then (s.mirrorIssue 128).resetsOut else if node = snapNode then s.snapIssue 128 else s.courierTag node

/-- RESPONSE_ARRIVAL (R241, R252): the answer is there for the initiator to consume, or is discarded and counted. -/
def execResponseArrival (node : BitVec 12) (tag : BitVec 8) (a : Answer) (s : State) : Host.Outcome State Fault Refusal :=
  .next (((s.quiet.responseArrives node.toNat tag.toNat a).consumeEngine node.toNat tag.toNat a).tagFreed node.toNat)

/-- TAG_RELEASE (R252): 4 × TMO after it was sent, the tag of a timed-out request may be used again. -/
def execTagRelease (node : BitVec 12) (tag : BitVec 8) (s : State) : Host.Outcome State Fault Refusal :=
  let s := s.quiet
  .next ((s.freeLate fun o => o.node == node.toNat && o.tag == tag.toNat && o.late).tagFreed node.toNat)

/-- INITIATOR_TIMEOUT (R252): the initiator hands itself TIMEOUT. -/
def execInitiatorTimeout (node : BitVec 12) (tag : BitVec 8) (s : State) : Host.Outcome State Fault Refusal :=
  .next ((s.quiet.initiatorTimesOut node.toNat tag.toNat).consumeEngine node.toNat tag.toNat ⟨.timeout, [], 0⟩)

/-! ## Records (R357) -/

/-- The kind of a twin record: ADDR[43:40] (R357). -/
def twinKind (rq : Request) : Nat := rq.acc.addr / 2 ^ 40 % 16

/-- The little-endian number in a record's payload. -/
def recordNat (rq : Request) (off k : Nat) : Nat := leNat ((rq.acc.data.drop off).take k)

/-- A record reaches node 0x015 (R357): an unlisted kind is answered DECODE, as is a payload that is too short (log entry 67); a record
of this kind takes effect and is answered OK. -/
def State.twinRecord (s : State) (rq : Request) (kind size : Nat) (f : State → State) : State :=
  if rq.acc.op ≠ .nwr ∨ rq.acc.dstNode ≠ twinNode then s
  else if twinKind rq = 0 ∨ 8 < twinKind rq then s.reply rq .decode
  else if twinKind rq ≠ kind then s
  else if rq.acc.data.length < size then s.reply rq .decode
  else (f s).reply rq .ok

/-- The record comes from the partner, and this device takes part in a pair (R356). -/
def State.fromPeer (s : State) (rq : Request) : Bool := s.is1 R.TWIN_CFG_EN && rq.ini == ⟨s.peerDev, twinNode⟩

/-- A pair record (R357): one of another device, or one that this device's part in the pair has no use for, changes nothing and is logged as an
unclassified fault of the block, since R372 lists no such condition (R17, log entries 67 and 122). -/
def State.pairRecord (s : State) (rq : Request) (kind size : Nat) (wanted : Bool) (f : State → State) : State :=
  s.twinRecord rq kind size fun s => if s.fromPeer rq && wanted then f s else s.log (.unclassified 8) []

/-- Which role JOIN gives this device (R359): primary or not, and whether the claims conflict. -/
def joinRole (mine theirs own peer : Nat) : Bool × Bool :=
  if mine = theirs then (own < peer, true)
  else if mine = 2 then (true, false)
  else if theirs = 2 then (false, false)
  else (mine == 1, false)

/-- This device is the primary (R359). -/
def State.becomePrimary (s : State) : State :=
  let s := s.setTwin { s.twin with standby := false, offset := 0, paired := some s.tickCount }
  (s.set1 (R.LINK_CTL_TICK_TX 23)).setPstate .primary

/-- This device is the standby (R357, R359): it records the difference of the counts. -/
def State.becomeStandby (s : State) (count : Nat) : State :=
  let off := (count + 2 ^ 64 - s.tickCount % 2 ^ 64) % 2 ^ 64
  let s := s.setTwin { s.twin with standby := true, offset := off, paired := some count }
  let s := s.clr (R.LINK_CTL_TICK_TX 23)
  if s.pstate = .taking then s else s.setPstate (if s.twin.mirrored then .standby else .joining)

/-- A JOIN is compared with this device's own (R359). -/
def State.joined (s : State) (pairId theirs count : Nat) : State :=
  if s.twin.paired.isSome || !s.mayPair then s
  else
    let mine := s.claim
    let s := if s.twin.joinSent && !(theirs == 2 && mine ≠ 2) then s else s.sendJoin
    if pairId ≠ s.rd R.TWIN_PAIR_ID_ID then s.log .twinMismatch []
    else
      let r := joinRole mine theirs (s.rd R.NET_CFG_DEV_NUM) s.peerDev
      let s := if r.2 then s.log .twinRoleConflict [] else s
      if r.1 then (s.setTwin { s.twin with take := none }).becomePrimary else s.becomeStandby count

/-- JOIN (R357, R359). -/
def execJoin (rq : Request) (s : State) : Host.Outcome State Fault Refusal :=
  .next (s.quiet.pairRecord rq 4 16 true fun s => s.joined (recordNat rq 0 4) (recordNat rq 4 1) (recordNat rq 8 8))

/-- k bytes of the incoming stream. -/
def rxBytes (rx : Store Nat) (off k : Nat) : List Byte := (List.range k).map fun i => BitVec.ofNat 8 (storeGet 0 (off + i) rx - 1)

/-- The items of an incoming stream (R363); it ends at its END item. -/
def rxItems (rx : Store Nat) : Nat → Nat → List TwinItem
  | 0, _ => []
  | k + 1, off =>
    let h := rxBytes rx off 32
    let f := fun o n => leNat ((h.drop o).take n)
    let len := f 8 8
    if f 0 1 = 0xF ∨ f 0 1 = 0 then []
    else
      let data := if f 0 1 = 3 then [] else rxBytes rx (off + 32) len
      ⟨f 0 1, f 2 2, f 4 1, f 16 8, f 24 8, data⟩ :: rxItems rx k (off + 32 + len)

/-- The bank items of an incoming stream whose headers have come (R363): bank, and offset of the data. -/
def rxBanks (rx : Store Nat) : Nat → Nat → List (Nat × Nat)
  | 0, _ => []
  | k + 1, off =>
    let h := rxBytes rx off 32
    let whole := (List.range 32).all fun i => storeGet 0 (off + i) rx ≠ 0
    let kind := leNat (h.take 1)
    if !whole || kind = 0xF || kind = 0 then []
    else
      let rest := rxBanks rx k (off + 32 + leNat ((h.drop 8).take 8))
      if kind = 3 then (leNat ((h.drop 2).take 2), off + 32) :: rest else rest

/-- TWIN_BANK entry i takes bank b of an incoming stream. -/
def State.mirrorsBank (s : State) (b i : Nat) : Bool := s.is1 (R.TWIN_BANK_EN i) && s.rd (R.TWIN_BANK_SRC i) == b

/-- The bank that holds the copy of TWIN_BANK entry i that is not LATEST (R365). -/
def State.spareBank (s : State) (i : Nat) : Nat := s.rd (R.TWIN_BANK_DST i) + (if s.is1 (R.TWIN_BANK_LATEST i) then 0 else 1)

/-- Stream bytes lo to hi of a bank item whose data begin at `at'` go into the copy of entry i that is not LATEST, with their marks (R299, R365); the
write may be flipped as any write (R304). A copy that this device does not own as TWIN, or whose bank is not ON, takes nothing, and the stream does not
make it LATEST. -/
def State.mirrorBytes (s : State) (at' lo hi i : Nat) : State :=
  let dst := s.spareBank i
  if s.rd (R.BANK_OWNER_KIND dst) ≠ 4 || s.bankState dst ≠ 0 then s.setTwin { s.twin with rxLost := i :: s.twin.rxLost }
  else
    ((List.range (hi - lo)).foldl (fun s j =>
      let v := storeGet 0 (lo + j) s.twin.rx
      if v = 0 then s else s.setBankCell dst (lo + j - at') (if 257 ≤ v then markCell ((v - 1) % 256) else goodCell (v - 1))) s).afterStore
        (.bank dst) (lo - at')

/-- Bytes lo to hi of the stream have come (R365): those of a bank item go to the copies, and with a bank item's header what came of its data before. -/
def State.mirrorBanks (s : State) (before : List (Nat × Nat)) (lo hi : Nat) : State :=
  (rxBanks s.twin.rx 2200 0).foldl (fun s e =>
    let lo := if before.contains e then max lo e.2 else e.2
    let hi := if before.contains e then min hi (e.2 + 0x20000) else e.2 + 0x20000
    if hi ≤ lo then s else s.each ((List.range 64).filter (s.mirrorsBank e.1)) fun s i => s.mirrorBytes e.2 lo hi i) s

/-- MIRROR_DATA (R357, R365): stream bytes at their offset; offset 0 begins a stream. -/
def execMirrorData (rq : Request) (s : State) : Host.Outcome State Fault Refusal :=
  .next (s.quiet.pairRecord rq 1 1 s.twin.standby fun s =>
    let off := rq.acc.addr % 2 ^ 40
    let s := if off = 0 then s.setTwin { s.twin with rx := [], rxLost := [] } else s
    let put := fun m (e : Nat × Byte) =>
      storeSet 0 (off + e.1) (1 + e.2.toNat + (if rq.acc.poison.testBit ((rq.acc.addr % 8 + e.1) / 8) then 256 else 0)) m
    let before := rxBanks s.twin.rx 2200 0
    let s := s.setTwin { s.twin with rx := ((List.range rq.acc.data.length).zip rq.acc.data).foldl put s.twin.rx }
    s.mirrorBanks before off (off + rq.acc.data.length))

/-- The copy of TWIN_BANK entry i into which bank b's item went becomes LATEST (R365). -/
def State.latestFromStream (s : State) (b i : Nat) : State :=
  if !(s.mirrorsBank b i) || s.twin.rxLost.contains i then s
  else
    let s := s.wrb (R.TWIN_BANK_LATEST i) !(s.is1 (R.TWIN_BANK_LATEST i))
    s.setTwin { s.twin with gotBanks := s.twin.gotBanks.filter (· ≠ b) ++ [b] }

/-- One item of a complete stream becomes LATEST (R365). -/
def State.commitItem (s : State) (e : TwinItem) : State :=
  if e.kind = 3 then s.each (List.range 64) fun s i => s.latestFromStream e.index i
  else s.setTwin { s.twin with
    latest := s.twin.latest.filter (fun i => !(i.kind == e.kind && i.index == e.index)) ++ [e] }

/-- A mirror is complete (R365): its items become LATEST together, and the standby enters STANDBY. A stream of another length than its
MIRROR_END names was cut off. -/
def State.commitMirror (s : State) (tick len : Nat) : State :=
  if s.twin.rx.length ≠ len then s.setTwin { s.twin with rx := [], rxLost := [] }
  else
    let s := (rxItems s.twin.rx 2200 0).foldl State.commitItem s
    let s := s.setTwin { s.twin with rx := [], rxLost := [], mirrored := true }
    let s := s.wr64 R.TWIN_MIRR_TICK_LO_TICK R.TWIN_MIRR_TICK_HI_TICK tick
    if s.pstate = .joining then s.setPstate .standby else s

/-- MIRROR_END (R357, R365). -/
def execMirrorEnd (rq : Request) (s : State) : Host.Outcome State Fault Refusal :=
  .next (s.quiet.pairRecord rq 2 16 s.twin.standby fun s => s.commitMirror (recordNat rq 0 8) (recordNat rq 8 8))

/-- MIRROR_SEND_COMPLETE (R364): every MIRROR_DATA write of the tick was answered OK: the primary sends MIRROR_END. -/
def execMirrorSendComplete (s : State) : Host.Outcome State Fault Refusal :=
  let s := s.quiet
  match s.twin.tx with
  | none => .next s
  | some t =>
    if t.tags ≠ [] ∨ t.sent < t.data.length then .next s
    else
      let s := (s.setTwin { s.twin with tx := none }).wr64 R.TWIN_MIRR_TICK_LO_TICK R.TWIN_MIRR_TICK_HI_TICK t.tick
      .next (s.sendTwin s.peerDev 2 0 (leBytes 8 t.tick ++ leBytes 8 t.data.length) 0)

/-- CHECK (R357, R367). -/
def execCheck (rq : Request) (s : State) : Host.Outcome State Fault Refusal :=
  .next (s.quiet.pairRecord rq 3 16 s.twin.paired.isSome fun s =>
    let tick := recordNat rq 0 8
    (s.setTwin { s.twin with peer := keepChecks (s.twin.peer ++ [(tick, recordNat rq 8 4)]) }).compareCheck tick)

/-- RESIGN (R357, R368, R369): the standby declares the primary lost; b_T is the boundary that ends the named tick. -/
def execResign (rq : Request) (s : State) : Host.Outcome State Fault Refusal :=
  .next (s.quiet.pairRecord rq 5 8 (s.twin.standby && (s.pstate == .standby || s.pstate == .joining || s.pstate == .taking)) fun s =>
    s.primaryLost (.resign (recordNat rq 0 8)))

/-! ## Commands and configuration -/

/-- TAKEOVER (R368): a standby declares the primary lost; an ORPHAN takes over without restore. -/
def State.takeoverCmd (s : State) : State :=
  match s.pstate with
  | .standby => s.primaryLost .takeover
  | .orphan => s.beginTake (s.pairTick + 1) 1 false false
  | _ => s.set1 R.TWIN_CTL_CMD_ERR

/-- TAKEOVER (R368). -/
def execTakeover (ini : Ini) (s : State) : Host.Outcome State Fault Refusal := .next (s.quiet.written ini R.TWIN_CTL_STATE.off State.takeoverCmd)

/-- RESIGN on the primary (R369): it names the tick after the one in progress, at whose end the outputs pass. -/
def State.resignCmd (s : State) : State :=
  if s.pstate = .primary then
    let t := s.pairTick + 1
    (s.sendTwin s.peerDev 5 0 (leBytes 8 t) 0).setTwin { (s.sendTwin s.peerDev 5 0 (leBytes 8 t) 0).twin with resign := some t }
  else s.set1 R.TWIN_CTL_CMD_ERR

/-- RESIGN_CMD (R369). -/
def execResignCmd (ini : Ini) (s : State) : Host.Outcome State Fault Refusal := .next (s.quiet.written ini R.TWIN_CTL_STATE.off State.resignCmd)

/-- REJOIN (R370): FENCED or ORPHAN goes to JOINING. -/
def State.rejoinCmd (s : State) : State :=
  match s.pstate with
  | .fenced | .orphan => s.toJoining
  | _ => s.set1 R.TWIN_CTL_CMD_ERR

/-- REJOIN (R370). -/
def execRejoin (ini : Ini) (s : State) : Host.Outcome State Fault Refusal := .next (s.quiet.written ini R.TWIN_CTL_STATE.off State.rejoinCmd)

/-- A write to TWIN_CTL: W1C bits, then CMD. -/
def wrTwinCtl (s : State) (v : BitVec 32) : State :=
  let s := s.w1cOnly .TWIN_CTL v
  match R.TWIN_CTL_CMD.of v with
  | 0 => s
  | 1 => s.takeoverCmd
  | 2 => s.resignCmd
  | 3 => s.rejoinCmd
  | _ => s.set1 R.TWIN_CTL_CMD_ERR

/-- A write to TWIN_CFG (R356): EN 0 is always accepted and gives OFF; anything else only in OFF. -/
def wrTwinCfg (s : State) (v : BitVec 32) : State :=
  let en := R.TWIN_CFG_EN.of v
  match s.pstate, en with
  | .off, 0 => s.storeReg .TWIN_CFG v
  | .off, _ => (s.storeReg .TWIN_CFG v).toJoining
  | _, 0 =>
    let s := s.part.clr R.TWIN_CFG_EN
    (s.setTwin { s.twin with take := none, resign := none, fence := none, mirrored := false, offset := 0 }).setPstate .off
  | _, _ => s.set1 R.TWIN_CTL_CMD_ERR

/-- TWIN_CFG_WRITE (R356). -/
def execTwinCfgWrite (ini : Ini) (value : BitVec 32) (s : State) : Host.Outcome State Fault Refusal :=
  .next (s.quiet.written ini (R.TWIN_CFG_EN).off fun s => wrTwinCfg s value)

/-- A write to TWIN_OUT (R360). -/
def wrTwinOut (s : State) (v : BitVec 32) : State := (s.storeReg .TWIN_OUT v).twinPads
/-- A write to TWIN_LANES (R360). -/
def wrTwinLanes (s : State) (v : BitVec 32) : State := (s.storeReg .TWIN_LANES v).linksSettle

/-! ## Takeover (R368 steps 4 and 5) -/

/-- A thread starts with its LATEST registers, tags and OWED (R368). -/
def State.restoreThread (s : State) (t : Nat) : State :=
  match s.twin.latest.find? (fun i => i.kind == 1 && i.index == t) with
  | none => s
  | some i =>
    if !(s.bit R.TWIN_CFG_THREADS t) then s
    else
      let regs := (List.range 31).foldl (fun m r =>
        storeSet 0 (r + 1) (BitVec.ofNat 64 (leNat ((i.data.drop (8 * (r + 1))).take 8))) m) ([] : Store Word)
      (s.setThread t { s.thread t with regs := regs, tags := BitVec.ofNat 32 i.mask }).wrb (R.SEQ_THR_OVR_OWED t)
        (leNat ((i.data.drop 256).take 1) % 2 == 1)

/-- A thread that the takeover stopped starts again (R368 step 4). -/
def State.takeThread (s : State) (restore : Bool) (t : Nat) : State :=
  if s.tstate t = .off then
    let s := s.threadStart t
    if restore then s.restoreThread t else s
  else s

/-- TAKEOVER_BOUNDARY (R368): b_T has fallen: prior owners return, threads start, the outputs are driven in SOLO; a restore after
divergence returns to STANDBY. -/
def execTakeoverBoundary (s : State) : Host.Outcome State Fault Refusal :=
  let s := s.quiet
  match s.twin.take with
  | none => .next s
  | some k =>
    if s.pairTick ≤ k.tick then .next s
    else
      let s := k.banks.foldl (fun s b => s.giveBank b.1 b.2.1 b.2.2) s
      let s := s.each k.threads fun s t => s.takeThread k.restore t
      let s := s.setTwin { s.twin with take := none }
      if k.diverge then .next (s.setPstate .standby).offerJoin
      else .next ((s.setTwin { s.twin with standby := false, mirrored := false, offset := 0 }).setPstate .solo |>.offerJoin)

/-! ## Barriers across devices (R373) -/

/-- Barrier b is one across devices (R373). -/
def State.globalBar (s : State) (b : Nat) : Bool := b < 16 && s.is1 (R.SEQ_BAR_CFG_REMOTE b) && 2 ≤ s.rd (R.GBAR_CFG_NDEV b)

/-- A record of a barrier (R373). One that names no barrier of this device across devices, or that this device has no use for, changes nothing and is
logged as an unclassified fault of the block, since R372 lists no such condition (R17, log entries 67 and 122). -/
def State.barRecord (s : State) (rq : Request) (kind : Nat) (wanted : Nat → Bool) (f : State → Nat → State) : State :=
  s.twinRecord rq kind 8 fun s =>
    let b := recordNat rq 0 1
    if s.globalBar b && wanted b then f s b else s.log (.unclassified 8) []

/-- BAR_ARRIVE (R373): the leader counts the device. -/
def execBarArrive (rq : Request) (s : State) : Host.Outcome State Fault Refusal :=
  .next (s.quiet.barRecord rq 6 (fun b => s.rd (R.GBAR_CFG_LEADER b) == s.rd R.NET_CFG_DEV_NUM) fun s b => s.gbarCount b rq.ini.dev)

/-- BAR_RELEASE (R373): a member that has sent its ARRIVE releases. -/
def execBarRelease (rq : Request) (s : State) : Host.Outcome State Fault Refusal :=
  .next (s.quiet.barRecord rq 7 (fun b => (s.gbar b).sent) fun s b => s.barRelease b)

/-- A write to GBAR_CFG[b] (R373; log entry 69): refused while its barrier has REMOTE 1 and the write would leave NDEV below 2 or a leader
that is not routed. -/
def wrGbarCfg (s : State) (b : Nat) (v : BitVec 32) : State :=
  let s := s.w1cOnly (.GBAR_CFG b) v
  let leader := (R.GBAR_CFG_LEADER b).of v
  let routed := leader == s.rd R.NET_CFG_DEV_NUM || s.is1 (R.DEV_ROUTE_EN leader)
  if s.is1 (R.SEQ_BAR_CFG_REMOTE b) && ((R.GBAR_CFG_NDEV b).of v < 2 || !routed) then s.set1 (R.GBAR_CFG_CFG_ERR b)
  else s.storeReg (.GBAR_CFG b) v

/-- GBAR_CFG_WRITE (R373). -/
def execGbarCfgWrite (ini : Ini) (b : Fin 16) (value : BitVec 32) (s : State) : Host.Outcome State Fault Refusal :=
  .next (s.quiet.written ini (R.GBAR_CFG_NDEV b.val).off fun s => wrGbarCfg s b.val value)

/-! ## Snapshots (R374) -/

/-- A write to SNAP_CTL (R374): REQ asks for a snapshot at AT_TICK; refused while BUSY, or where the destination is not 64-byte aligned
(log entry 20). -/
def wrSnapCtl (s : State) (v : BitVec 32) : State :=
  let s := s.storeReg .SNAP_CTL v
  if R.SNAP_CTL_REQ.of v = 0 then s
  else
    let dest := s.rd64 R.SNAP_DEST_LO_ADDR R.SNAP_DEST_HI_ADDR
    if s.is1 R.SNAP_CTL_BUSY || dest % 64 ≠ 0 then s.set1 R.SNAP_CTL_ERR
    else ({ s with snapReq := some ⟨dest, some (s.rd R.SNAP_CTL_AT_TICK)⟩ } : State).set1 R.SNAP_CTL_BUSY

/-- SNAP_REQ (R374). -/
def execSnapReq (ini : Ini) (value : BitVec 32) (s : State) : Host.Outcome State Fault Refusal :=
  .next (s.quiet.written ini (R.SNAP_CTL_BUSY).off fun s => wrSnapCtl s value)

/-- SNAPSHOT_COMPLETE (R374): the last write is answered: the snapshot ends with its code. -/
def execSnapshotComplete (s : State) : Host.Outcome State Fault Refusal :=
  let s := s.quiet
  match s.twin.snap with
  | none => .next s
  | some t =>
    if t.tags ≠ [] ∨ (t.sent < t.data.length ∧ t.code = .ok) then .next s
    else .next ((((s.setTwin { s.twin with snap := none }).clr R.SNAP_CTL_BUSY).set1 R.SNAP_CTL_DONE).wr R.SNAP_CTL_CODE t.code.code)

/-! ## Reset broadcasts (R375) -/

/-- The device is to perform a device reset, with a cause (R375, R412). -/
def State.askReset (s : State) (cause : Nat) : State := { s with start := { s.start with resetDue := s.start.resetDue.or (some cause) } }

/-- Send RESET with an ID on the ACTIVE links of FWD, but for the group it came from (R375): each leaves on its own group, whatever DEV_ROUTE says. -/
def State.forwardReset (s : State) (id : Nat) (from' : Option Nat) : State :=
  let groups := (List.range 24).filter fun g => s.bit R.GRESET_CTL_FWD g && s.linkActive g && from' ≠ some g
  (s.setTwin { s.twin with resets := s.twin.resets ++ groups.map fun g => (g, id) }).resetsOut

/-- GO (R375): a RESET with a fresh ID on every group in FWD; with SELF this device resets too. -/
def State.gresetGo (s : State) : State :=
  let id := s.draw % 2 ^ 16
  let s := s.drawn.forwardReset id none
  if s.is1 R.GRESET_CTL_SELF then (s.setTwin { s.twin with lastReset := some id }).askReset 5 else s

/-- GRESET_GO (R375). -/
def execGresetGo (ini : Ini) (s : State) : Host.Outcome State Fault Refusal := .next (s.quiet.written ini R.GRESET_CTL_SELF.off State.gresetGo)

/-- A write to GRESET_CTL. -/
def wrGresetCtl (s : State) (v : BitVec 32) : State :=
  let s := s.storeReg .GRESET_CTL v
  if R.GRESET_CTL_GO.of v = 1 then s.gresetGo else s

/-- RESET (R375): a RESET with a new ID that arrives on group g while ACCEPT is 1 is forwarded and recorded, and the device resets. -/
def execReset (rq : Request) (g : Fin 24) (s : State) : Host.Outcome State Fault Refusal :=
  .next (s.quiet.twinRecord rq 8 8 fun s =>
    let id := recordNat rq 0 2
    if !(s.is1 R.GRESET_CTL_ACCEPT) || s.twin.lastReset == some id then s
    else
      let s := s.forwardReset id (some g.val)
      (s.setTwin { s.twin with lastReset := some id }).askReset 4)

end Sys2Proof.Machine
end

