-- ==== Sys2Proof/Machine/Snoop.lean ====
section
/-! DEFINITION. Check-value snoop units (14_crc_snoop.md, R377 to R385). -/

namespace Sys2Proof.Machine

/-- Snoop unit u. -/
def State.snoop (s : State) (u : Nat) : Snoop := storeGet {} u s.snoops
/-- Replace snoop unit u. -/
def State.setSnoop (s : State) (u : Nat) (x : Snoop) : State := { s with snoops := storeSet {} u x s.snoops }

/-- The algorithm of unit u. -/
def State.snoopAlg (s : State) (u : Nat) : Alg := Alg.ofCode (s.rd (R.SNOOP_CTL_ALG u))

/-- The snoop units pause (R488). -/
def State.snoopFrozen (s : State) : Bool := s.is1 R.DBG_FRZ_ASSERT && s.is1 R.DBG_FRZ_SNOOP

/-- A window opens (R380, R381). -/
def State.snoopOpen (s : State) (u : Nat) : State :=
  s.setSnoop u { s.snoop u with isOpen := true, value := (s.snoopAlg u).init, pkts := 0, poison := false }

/-- A result differs from EXPECT (R383). -/
def State.snoopMismatch (s : State) (u result : Nat) : State :=
  let first := s.rd (R.SNOOP_STAT_MISMATCH u) = 0
  let s := (s.set1 (R.SNOOP_STAT_MISMATCH_FLAG u)).bump (R.SNOOP_STAT_MISMATCH u)
  let s := if first then
      s.logP (if s.is1 (R.SNOOP_CTL_PRIO u) then 2 else 1) .snoopMismatch
        [u, s.rd (R.SNOOP_WINS_WINDOWS u), result, s.rd (R.SNOOP_EXPECT_EXPECT u)]
    else s
  if s.is1 (R.SNOOP_CTL_TRIG_EN u) then s.pulse (s.rd (R.SNOOP_CTL_TRIG_CH u)) else s

/-- A result enters the FIFO, or is dropped where it is full (R384). -/
def State.snoopPush (s : State) (u result : Nat) (poison : Bool) : State :=
  let x := s.snoop u
  if 16 ≤ x.fifo.length then s.set1 (R.SNOOP_STAT_FIFO_OVF u)
  else s.setSnoop u { x with fifo := x.fifo ++ [⟨result, poison, s.rd (R.SNOOP_WINS_WINDOWS u) % 2 ^ 16⟩] }

/-- The open window of unit u closes (R381, R383, R384), and the next one opens. -/
def State.snoopClose (s : State) (u : Nat) : State :=
  let x := s.snoop u
  if !x.isOpen then s
  else
    let r := (s.snoopAlg u).result x.value
    let s := (s.incr (R.SNOOP_WINS_WINDOWS u)).wr (R.SNOOP_RESULT_RESULT u) r
    let s := (s.wrb (R.SNOOP_STAT_POISONED u) x.poison).wr (R.SNOOP_PKTS_PKTS u) (min x.pkts 0xFFFFFFFF)
    let s := if s.is1 (R.SNOOP_CTL_MODE u) then s.snoopPush u r x.poison
      else if r = s.rd (R.SNOOP_EXPECT_EXPECT u) then s else s.snoopMismatch u r
    s.snoopOpen u

/-- A boundary closes the windows of its kind, or opens the first one (R381, R382): SLOT windows at every slot boundary, TICK windows at
tick boundaries. -/
def State.snoopBoundary (s : State) (tick : Bool) : State :=
  if s.snoopFrozen then s
  else s.each (List.range 16) fun s u =>
    let win := s.rd (R.SNOOP_CTL_WIN u)
    if s.is1 (R.SNOOP_CTL_EN u) && (win == 1 || (win == 0 && tick)) then
      (if (s.snoop u).isOpen then s.snoopClose u else s.snoopOpen u)
    else s

/-- What the units of CHK_SNOOP feed to the check value at a boundary (R385). -/
def State.snoopFeed (s : State) : State × List Nat :=
  let us := (List.range 16).filter (s.bit R.TWIN_CFG_CHK_SNOOP)
  us.foldl (fun a u =>
    if a.1.is1 (R.SNOOP_CTL_EN u) && a.1.rd (R.SNOOP_CTL_WIN u) == 0 then (a.1, a.2 ++ [a.1.rd (R.SNOOP_RESULT_RESULT u)])
    else (a.1.set1 (R.SNOOP_STAT_TWIN_WIN_ERR u), a.2 ++ [0])) (s, [])

/-! ## Configuration (R381, R382) -/

/-- EN of unit u changes (R382): WINDOWS clears and a COUNT window opens at once; or the open window is discarded. -/
def State.snoopEnable (s : State) (u : Nat) (en : Bool) : State :=
  let s := s.wrb (R.SNOOP_CTL_EN u) en
  let s := s.setSnoop u { s.snoop u with isOpen := false }
  if en then
    let s := s.clr (R.SNOOP_WINS_WINDOWS u)
    if s.rd (R.SNOOP_CTL_WIN u) = 2 then s.snoopOpen u else s
  else s

/-- A write to SNOOP_CTL_u (R381, R382): accepted while EN is 0, or where only EN changes; a COUNT window under RAW is refused. -/
def wrSnoopCtl (s : State) (u : Nat) (v : BitVec 32) : State :=
  let s := s.w1cOnly (.SNOOP_CTL u) v
  let en := (R.SNOOP_CTL_EN u).of v == 1
  let was := s.is1 (R.SNOOP_CTL_EN u)
  let t := (s.storeReg (.SNOOP_CTL u) v).wrb (R.SNOOP_CTL_EN u) was
  if was && t.regValue (.SNOOP_CTL u) ≠ s.regValue (.SNOOP_CTL u) then s.set1 (R.SNOOP_CTL_CFG_ERR u)
  else if t.rd (R.SNOOP_CTL_WIN u) = 2 ∧ t.rd (R.SNOOP_CTL_ATTACH u) = 2 then s.set1 (R.SNOOP_CTL_CFG_ERR u)
  else if en = was then t else t.snoopEnable u en

/-- A write to SNOOP_N_u, SNOOP_FILT_u or SNOOP_NMASK_u: only while EN is 0 (R382). -/
def wrSnoopCfg (s : State) (u : Nat) (r : Reg) (v : BitVec 32) : State :=
  if s.is1 (R.SNOOP_CTL_EN u) then s.set1 (R.SNOOP_CTL_CFG_ERR u) else s.storeReg r v

/-- SNOOP_CTL_WRITE (R381, R382): a write to register k of unit u: SNOOP_CTL, SNOOP_N, SNOOP_FILT, SNOOP_NMASK. -/
def execSnoopCtlWrite (ini : Ini) (u : Fin 16) (k : Fin 4) (value : BitVec 32) (s : State) : Host.Outcome State Fault Refusal :=
  let s := s.quiet
  .next (s.written ini (R.SNOOP_CTL_EN u.val).off fun s => match k.val with
    | 0 => wrSnoopCtl s u.val value
    | 1 => wrSnoopCfg s u.val (.SNOOP_N u.val) value
    | 2 => wrSnoopCfg s u.val (.SNOOP_FILT u.val) value
    | _ => wrSnoopCfg s u.val (.SNOOP_NMASK u.val) value)

/-! ## What passes (R377 to R380) -/

/-- The bytes of a packet that a unit covers (R379). -/
def coveredBytes (p : Packet) : List Byte :=
  let data := padTo (64 * p.len) p.data
  if p.byteEn = 0 then data
  else (((List.range data.length).zip data).filter fun e => p.byteEn.testBit e.1).map (·.2)

/-- A packet covers poison: a poisoned word with a covered byte (R379). -/
def coversPoison (p : Packet) : Bool :=
  (List.range 16).any fun w => p.poison.testBit w && decide (w < 8 * p.len) &&
    (p.byteEn == 0 || (List.range 8).any fun i => p.byteEn.testBit (8 * w + i))

/-- A packet passes the filter of unit u (R378). -/
def State.snoopPasses (s : State) (u : Nat) (p : Packet) : Bool :=
  let m := s.rd (R.SNOOP_FILT_OPC_MASK u)
  let node := if s.is1 (R.SNOOP_FILT_NSEL u) then p.srcNode else p.dstNode
  let nm := s.rd (R.SNOOP_NMASK_NMASK u)
  s.bit (R.SNOOP_FILT_VN_EN u) (vnNum p.vn) && p.op &&& m == s.rd (R.SNOOP_FILT_OPC_VAL u) &&& m &&
  node &&& nm == s.rd (R.SNOOP_FILT_NVAL u) &&& nm

/-- A packet is added to the open window of unit u (R378 to R381); the N-th closes a COUNT window. -/
def State.snoopAdd (s : State) (u : Nat) (p : Packet) : State :=
  let x := s.snoop u
  if !x.isOpen || !(s.snoopPasses u p) then s
  else
    let s := s.setSnoop u { x with value := (s.snoopAlg u).run x.value (coveredBytes p), pkts := x.pkts + 1,
                                   poison := x.poison || coversPoison p }
    if s.rd (R.SNOOP_CTL_WIN u) = 2 ∧ s.rd (R.SNOOP_N_N u) ≤ x.pkts + 1 then s.snoopClose u else s

/-- Raw symbols are added to the open window of unit u (R379): data symbols only. -/
def State.snoopAddRaw (s : State) (u : Nat) (ys : List (Option Sym)) : State :=
  let x := s.snoop u
  if !x.isOpen then s
  else
    let bytes := ys.filterMap fun y => match y with | some y => if y.k then none else some y.octet | none => none
    s.setSnoop u { x with value := (s.snoopAlg u).run x.value bytes }

/-- Unit u is attached to a point (R377). -/
def State.snoopAt (s : State) (u attach point : Nat) (dir : Bool) : Bool :=
  s.is1 (R.SNOOP_CTL_EN u) && s.rd (R.SNOOP_CTL_ATTACH u) == attach && s.is1 (R.SNOOP_CTL_DIR u) == dir &&
  (if attach = 0 then s.rd (R.SNOOP_CTL_POINT u) else s.rd (R.SNOOP_CTL_POINT u) % 32) == point

/-- The unit behind a port carries traffic: it is there, and its domain is ON. -/
def State.endpointOn (s : State) (n port : Nat) : Bool :=
  !(s.endpointOut n port) && (endpointDomain n port).all fun d => s.dstate d == .on

/-- The point that something passes carries traffic (R377): a point that is powered off, mapped out or idle is seen as carrying nothing. -/
def State.sightRuns (s : State) : SnoopSight → Bool
  | .port node _ p => p.op ≠ 0 && s.stationRuns (node.toNat / 16) && s.endpointOn (node.toNat / 16) (node.toNat % 16)
  | .link g _ p => p.op ≠ 0 && s.linkActive g.val
  | .raw g _ _ => s.lstate g.val == .raw

/-- SNOOP_PACKET (R377 to R381): something passes a point, and every unit attached there sees it. -/
def execSnoopPacket (sight : SnoopSight) (s : State) : Host.Outcome State Fault Refusal :=
  let s := s.quiet
  if s.snoopFrozen || !(s.sightRuns sight) then .next s
  else .next (s.each (List.range 16) fun s u => match sight with
    | .port node dir p => if s.snoopAt u 0 node.toNat dir then s.snoopAdd u p else s
    | .link g dir p => if s.snoopAt u 1 g.val dir then s.snoopAdd u p else s
    | .raw g dir ys => if s.snoopAt u 2 g.val dir then s.snoopAddRaw u ys else s)

/-- SNOOP_FIFO_POP (R384): a read of SNOOP_FIFO_VAL_u returns the head and pops it; 0 when the FIFO is empty. The debug initiator's read pops nothing
(R13, R478). -/
def execSnoopFifoPop (ini : Ini) (u : Fin 16) (s : State) : Host.Outcome State Fault Refusal :=
  let x := s.snoop u.val
  let v := match x.fifo with | [] => 0 | e :: _ => e.value
  .next (s.quiet.shown ini (R.SNOOP_FIFO_VAL_VALUE u.val).off v fun s => s.setSnoop u.val { x with fifo := x.fifo.drop 1 })

end Sys2Proof.Machine
end

