-- ==== Sys2Proof/Machine/Boundary.lean ====
section
/-! DEFINITION. What a tick or slot boundary does to the whole device (04_ticks_and_sequencer.md, R124, R126, R131; 12_lanes_links.md,
R346, R347; 13_twin.md, R361 to R370, R374; 14_crc_snoop.md, R381). -/

namespace Sys2Proof.Machine

/-! ## The pair at the end of a tick (R361 to R367) -/

/-- The check value of the tick that ends (R366, R385): shown, kept, and sent to the partner. -/
def State.endCheck (s : State) (k : Nat) : State :=
  let f := s.snoopFeed
  let v := f.1.checkValue f.2
  let s := f.1.wr R.TWIN_CHECK_VALUE v
  let s := s.setTwin { s.twin with own := keepChecks (s.twin.own ++ [(k, v)]) }
  if s.twin.paired.isSome then (s.sendTwin s.peerDev 3 0 (leBytes 8 k ++ leBytes 8 v) 0).compareCheck k else s

/-- The partner's CHECK of the tick before the one that ends has not come (R367): counted; MISS_LIMIT in a row lose the partner (R368,
R370). -/
def State.endMissed (s : State) (k : Nat) : State :=
  match s.twin.paired with
  | none => s
  | some p =>
    if k ≤ p then s
    else if s.twin.peer.any (·.1 == k - 1) then s.setTwin { s.twin with missRun := 0 }
    else
      let s := (s.bump R.TWIN_STAT_MISSED).setTwin { s.twin with missRun := s.twin.missRun + 1 }
      if s.rd R.TWIN_CFG_MISS_LIMIT ≤ s.twin.missRun then s.partnerLost .missed else s

/-- Bank b is the SRC of an enabled TWIN_BANK entry, of one with SNAP where `snap` (R361, R374). -/
def State.twinSrc (s : State) (snap : Bool) (b : Nat) : Bool :=
  (List.range 64).any fun i => s.is1 (R.TWIN_BANK_EN i) && s.rd (R.TWIN_BANK_SRC i) == b && (!snap || s.is1 (R.TWIN_BANK_SNAP i))

/-- The banks that the mirror of the tick that ends holds (R361). -/
def State.mirrorBankSet (s : State) : List Nat :=
  ((List.range 2048).filter s.mirr.banks.contains).filter fun b => s.twinSrc false b && s.bankState b == 0

/-- The mirror of the tick that ends is captured and its transfer begins, or it is dropped (R361, R364). -/
def State.endMirror (s : State) (k : Nat) : State :=
  if s.pstate ≠ .primary then s
  else if s.twin.tx.isSome then s.mirrorSkip
  else
    let named := (List.range 2048).filter s.mirr.banks.contains
    let banks := s.mirrorBankSet
    let s := (List.range (named.length - banks.length)).foldl (fun s _ => s.bump R.TWIN_STAT_SKIPPED) s
    let st := s.stream k ((List.range 4).filter (s.bit R.TWIN_CFG_THREADS)) ((List.range 64).filter s.mirr.regions.contains) banks
    let s := s.countCapture twinNode banks
    (s.setTwin { s.twin with tx := some ⟨k, 0, st.data, st.poison, 0, [], .ok⟩ }).mirrorIssue 128

/-- A snapshot that is due is captured, and its transfer begins (R374): asked for by a thread in this tick, or by the host for the boundary
at which TICK_COUNT[15:0] becomes AT_TICK. It shares the capture of a mirror of the same boundary, whose banks are read once. -/
def State.endSnapshot (s : State) (k : Nat) : State :=
  match s.snapReq with
  | none => s
  | some q =>
    let due := match q.atTick with | none => true | some t => (s.tickCount + 1) % 2 ^ 16 == t
    if !due then s
    else
      let banks := (List.range 2048).filter fun b => s.twinSrc true b && s.bankState b == 0
      let mask := s.rd64 R.SNAP_REGIONS_LO_MASK R.SNAP_REGIONS_HI_MASK
      let st := s.stream k ((List.range 4).filter (s.bit R.SNAP_CTL_THREADS)) ((List.range 64).filter mask.testBit) banks
      let shared := match s.twin.tx with
        | some t => if t.tick = k then s.mirrorBankSet else []
        | none => []
      let s := s.countCapture snapNode (banks.filter fun b => !shared.contains b)
      let s : State := { s with snapReq := none }
      (s.setTwin { s.twin with snap := some ⟨k, q.dest, st.data, st.poison, 0, [], .ok⟩ }).snapIssue 128

/-- A resigning primary enters JOINING, a primary that lost its standby is FENCED, from the boundary that ends their tick (R369, R370). -/
def State.endRoles (s : State) (k : Nat) : State :=
  let due := fun (t : Option Nat) => match t with | some t => decide (t ≤ k) | none => false
  if due s.twin.resign then s.toJoining
  else if due s.twin.fence then (s.setTwin { s.twin with fence := none }).setPstate .fenced
  else s

/-- What the end of pair tick k does before the counts change. A unit in CHK_SNOOP without per-tick windows is marked whether or not the device is of a
pair (R385). -/
def State.endTick (s : State) (k : Nat) : State :=
  if s.is1 R.TWIN_CFG_EN then ((s.endCheck k).endMissed k).endMirror k else s.snoopFeed.1

/-! ## Markers (R346, R347) -/

/-- Tick markers leave on the links with TICK_TX (R346); OFFSET, which the pins give, is free (log entry 70). -/
def State.sendMarkers (s : State) : State :=
  s.each ((List.range 24).filter fun g => s.is1 (R.LINK_CTL_TICK_TX g) && s.linkActive g) fun s g =>
    let count := s.tickCount % 256
    let offset := s.draw % 256
    let x := s.link g
    ((s.setLink g { x with marks := x.marks ++ [symMarker, dataSym count, dataSym offset] }).emit (.tickMarker g count offset)).drawn

/-- With SRC LINK (R347): a boundary without a usable marker is counted, the second in a row sets IN_LOST; a late correction goes on in
steps of at most 16 cycles; a marker that placed the boundary after this one now places the next. -/
def State.markerBoundary (s : State) (usable first : Bool) (rest : Nat) : State :=
  if s.rd R.TICK_CTL_SRC ≠ 2 || !(s.is1 R.TICK_CTL_RUNNING) then
    { s with tickGen := { s.tickGen with usable := false, unmarked := 0, rest := 0, ahead := none } }
  else
    let n := if usable then 0 else if first then 1 else s.tickGen.unmarked + 1
    let step := min 16 rest
    let g := { s.tickGen with usable := false, unmarked := n, rest := rest - step, ahead := none }
    let g := match s.tickGen.ahead with
      | some (c, r) => { g with placed := some (max (g.slotStart + 10) c), usable := true, rest := r }
      | none => if step = 0 then g else { g with placed := some (g.tickStart + s.rd R.TICK_LAYOUT_PERIOD + step) }
    if n = 2 then ({ s with tickGen := { g with lost := s.tickGen.ahead.isNone } } : State).set1 R.TICK_CTL_IN_LOST
    else { s with tickGen := g }

/-! ## The boundaries -/

/-- A tick boundary of the whole device. -/
def State.wholeTick (s : State) : State :=
  let k := s.pairTick
  let running := s.is1 R.TICK_CTL_RUNNING
  let g := s.tickGen
  let s := s.snoopBoundary true
  let s := (if running then s.endTick k else s).endSnapshot k
  let s := s.cutPins.tickBoundary
  let s : State := { s with mirr := {}, twin := { s.twin with samples := [] } }
  let s := (s.markerBoundary g.usable (!running) g.rest).sendMarkers
  if running then s.endRoles k else s

/-- TICK_BOUNDARY (R120, R124, R131, R135, R346, R347, R361, R366, R374, R381): at its time, after the slots of the tick, the tick in progress ends, or
the first one begins. It does not fall while a decision point or a command for it is still to come (R127, R141). -/
def execTickBoundary (s : State) : Host.Outcome State Fault Refusal :=
  let s := s.quiet
  if s.boundaryDue && s.timeHere s.tickDue && s.slotDue.isNone && s.boundaryReady then .next s.wholeTick else .next s

/-- SLOT_BOUNDARY (R121, R126, R131, R381): at its time, the next slot of the tick begins. A boundary that would fall less than 10 reference
cycles before a placed early boundary does not occur; what a region's decision point has decided for it then holds for the next boundary that falls
(DESIGN CHOICE, log entry 228). -/
def execSlotBoundary (s : State) : Host.Outcome State Fault Refusal :=
  let s := s.quiet
  if s.timeHere s.slotDue && s.boundaryReady then .next (s.snoopBoundary false).slotBoundary else .next s

end Sys2Proof.Machine
end

