-- ==== Sys2Proof/Machine/Patrol.lean ====
section
/-! DEFINITION. The configuration patrol (07_patrol.md, R215 to R229) and the fault policies it invokes
(03_contexts.md, R118, R119). -/

namespace Sys2Proof.Machine

/-- The walkers run (R219): EN is 1, the repair load of the start has completed, and the debug freeze does not hold them. -/
def State.patrolRuns (s : State) : Bool :=
  s.is1 R.PATROL_CTL_EN && s.stackLoaded && !(s.is1 R.PATROL_CTL_FRZ && s.is1 R.DBG_FRZ_ASSERT)

/-- Flip bit b of a copy: a bit that was wrong is right again. -/
def flipBit (b : Nat) (fs : List Nat) : List Nat := if fs.contains b then fs.filter (· ≠ b) else b :: fs

/-- The copy that a walker reads (R229): an armed injection of its frame flips bit 0, or bits 0 and 1, of the copy. -/
def State.readCopy (s : State) (active : Bool) (n p f : Nat) (x : Frame) : State × Frame :=
  if s.is1 R.PATROL_INJECT_ARM && s.is1 R.PATROL_INJECT_TARGET == active && s.rd R.PATROL_INJECT_REGION == n &&
      (active || s.rd R.PATROL_INJECT_PLANE == p) && s.rd R.PATROL_INJECT_FRAME == f then
    let fs := flipBit 0 x.flips
    (s.clr R.PATROL_INJECT_ARM, { x with flips := if s.is1 R.PATROL_INJECT_DOUBLE then flipBit 1 fs else fs })
  else (s, x)

/-- A walker reads a frame (R216, R220): its verdict waits for the check to complete. -/
def State.walkerRead (s : State) (active : Bool) (n p f : Nat) (x : Frame) : State :=
  let r := s.readCopy active n p f x
  let v := r.1.verdict f r.2
  let s := if 3 ≤ r.2.flips.length then r.1.drawn else r.1
  { s with checks := s.checks ++ [⟨active, n, p, f, v, s.rd (R.REGION_SWAPS_COUNT n), false, s.now⟩] }

/-- PATROL_STORED_VISIT (R215, R216): the stored walker reaches its next frame and reads it if the plane is VALID; a plane under test is skipped (R457). -/
def execPatrolStoredVisit (s : State) : Host.Outcome State Fault Refusal :=
  let s := s.quiet
  if !s.patrolRuns || s.passDone.1 then .next s
  else
    let i := s.rd R.PATROL_SPOS_INDEX
    let n := i / 31200
    let p := i / 3900 % 8
    let f := i % 3900
    let last := decide (1996799 ≤ i)
    let s := s.wr R.PATROL_SPOS_INDEX (if last then 0 else i + 1)
    let s : State := { s with passDone := (last, s.passDone.2) }
    if s.plState n p = .valid ∧ s.dstate (64 + n / 4) = .on ∧ s.unusable n = false ∧ s.configTested (n / 4) = false then
      .next (s.walkerRead false n p f (s.frame n p f))
    else .next s

/-- The active walker may read region n (R216). -/
def State.activeReadable (s : State) (n : Nat) : Bool :=
  s.is1 (R.REGION_STATUS_HAS_ACTIVE n) && !(s.unusable n) &&
  (match s.rstate n with | .run | .held | .isolated | .fault => true | .off | .idle => false)

/-- The active walker reads frame f of region n's active latches, if they may be read. -/
def State.activeRead (s : State) (n f : Nat) : State :=
  if s.activeReadable n then
    s.walkerRead true n (s.rd (R.REGION_STATUS_ACTIVE_PLANE n)) f (s.latch n (s.region n).sel f)
  else s

/-- A visit of the active walker: it reads the frame, or is held while a spill uses the return group (R218). -/
def State.activeVisit (s : State) (n f : Nat) : State :=
  if s.is1 (R.REGION_STATUS_SPILLING n) then { s with heldVisits := s.heldVisits ++ [3840 * n + f] } else s.activeRead n f

/-- PATROL_ACTIVE_VISIT (R215, R216, R218): a held visit whose return group is free again is made first; otherwise the walker
reaches its next frame, which it reads, or holds while a spill uses the return group. -/
def execPatrolActiveVisit (s : State) : Host.Outcome State Fault Refusal :=
  let s := s.quiet
  if !s.patrolRuns then .next s
  else match s.heldVisits.find? (fun j => !(s.is1 (R.REGION_STATUS_SPILLING (j / 3840)))) with
    | some j => .next (({ s with heldVisits := s.heldVisits.erase j } : State).activeRead (j / 3840) (j % 3840))
    | none =>
      if s.passDone.2 then .next s
      else
        let j := s.rd R.PATROL_APOS_INDEX
        let last := decide (245759 ≤ j)
        let s := s.wr R.PATROL_APOS_INDEX (if last then 0 else j + 1)
        let s : State := { s with passDone := (s.passDone.1, last) }
        .next (s.activeVisit (j / 3840) (j % 3840))

/-- PATROL_LAST shows the latest double-bit error. -/
def State.patrolLast (s : State) (active : Bool) (n p f : Nat) : State :=
  (((s.wrb R.PATROL_LAST_ACTIVE active).wr R.PATROL_LAST_REGION n).wr R.PATROL_LAST_PLANE p).wr R.PATROL_LAST_FRAME f

/-- A double-bit or status error in a stored frame (R223): counted, shown, and the plane is DAMAGED. -/
def State.storedDbe (s : State) (n p f : Nat) : State :=
  let s := ((s.bump R.PATROL_ERR_DBE_STORED).set1 R.PATROL_STAT_STORED_DBE).patrolLast false n p f
  if s.plState n p = .valid then s.damagePlane n p f else s

/-- The patrol reads and checks the plane's copy of a frame (R225): a single-bit error is reported (R222), a double-bit error
damages the plane. -/
def State.checkCopy (s : State) (n p f : Nat) : State :=
  match s.verdict f (s.frame n p f) with
  | 0 => s
  | 1 => s.reportCorr n p f
  | _ => s.storedDbe n p f

/-- A refetch of frame f of region n is wanted (R226): at most 16 pending, one per frame. -/
def State.wantRefetch (s : State) (n p f : Nat) : State :=
  let r := s.region n
  if r.refetch.any fun e => e.1 == f then s
  else if 16 ≤ r.refetch.length then (s.bump R.PATROL_ERR_QUEUE_DROP).set1 R.PATROL_STAT_DROPPED
  else s.setRegion n { r with refetch := r.refetch ++ [(f, p, none)] }

/-- FALLBACK begins (R119): FAULT_POLICY is set and the plane is brought into the shadow; a swap that is in its clamp cycle takes its edge first, and
the shadow is free for the fallback plane then (log entry 219). -/
def State.beginFallback (s : State) (n : Nat) : State :=
  let p := s.rd (R.REGION_FAULT_FALLBACK n)
  let s := s.setHold n .faultPolicy
  if (s.region n).clamping.isSome then s.setRegion n { s.region n with fallback := some p } else s.bringFallback n p

/-- A frame of the active latches of region n is known to carry a double-bit error (R108). -/
def State.knowBad (s : State) (n f : Nat) : State :=
  let r := s.region n
  if r.badActive.contains f then s else s.setRegion n { r with badActive := r.badActive ++ [f] }

/-- A double-bit error in active frame f, found while its context is active (R118, R119, R225): logged and counted; POLICY
acts unless the region is in FAULT or a fallback is in progress; the plane's copy is checked under every policy. -/
def State.activeDbe (s : State) (n p f : Nat) : State :=
  let s := s.log .regionActiveDbe [n, p, f]
  let s := ((s.bump (R.REGION_FAULT_DBE_COUNT n)).wr (R.REGION_FAULT_FAULT_PLANE n) p).wr (R.REGION_FAULT_FRAME n) f
  let good := decide (s.verdict f (s.frame n p f) < 2)
  let quietly := s.rstate n = .fault || s.holds n .faultPolicy
  let s := (s.checkCopy n p f).knowBad n f
  if quietly then s
  else match s.rd (R.REGION_FAULT_POLICY n) with
    | 0 => if good then s.wantRefetch n p f else s
    | 1 => s.enterFault n 1
    | _ => s.beginFallback n

/-- The result of a check on an active frame (R218, R224 to R227): it belongs to the context that was active when the frame was read; a context that
has left takes its shadow copy with it. The result of a readback that a swap edge cut is discarded, and the frame is visited again. -/
def State.activeResult (s : State) (c : Chk) : State :=
  if c.stale then s.activeVisit c.n c.f else
  let here := s.rd (R.REGION_SWAPS_COUNT c.n) == c.swaps && s.is1 (R.REGION_STATUS_HAS_ACTIVE c.n)
  let inShadow := s.shState c.n = .ready && s.rd (R.REGION_STATUS_SHADOW_PLANE c.n) == c.p
  match c.verdict with
  | 0 => s
  | 1 =>
    let s := s.bump R.PATROL_SBE_SBE_ACTIVE
    if here then s.wantRefetch c.n c.p c.f
    else (if inShadow then s.invalidateShadow c.n else s).checkCopy c.n c.p c.f
  | _ =>
    let s := ((s.bump R.PATROL_ERR_DBE_ACTIVE).set1 R.PATROL_STAT_ACTIVE_DBE).patrolLast true c.n c.p c.f
    if here then s.activeDbe c.n c.p c.f
    else ((if inShadow then s.invalidateShadow c.n else s).checkCopy c.n c.p c.f).log .patrolDbeLeft [c.n, c.p, c.f]

/-- PATROL_CHECK (R220 to R227): the oldest outstanding check completes and is acted on. -/
def execPatrolCheck (s : State) : Host.Outcome State Fault Refusal :=
  let s := s.quiet
  match s.checks with
  | [] => .next s
  | c :: rest =>
    let s : State := { s with checks := rest }
    if c.active then .next (s.activeResult c)
    else match c.verdict with
      | 0 => .next s
      | 1 => .next { s.bump R.PATROL_SBE_SBE_STORED with
               walkq := (s.bump R.PATROL_SBE_SBE_STORED).walkq ++ [⟨c.n, c.p, c.f, c.stale⟩] }
      | _ => .next (s.storedDbe c.n c.p c.f)

/-- The correction that is due next: a reported one before the stored walker's own (R221, R222). -/
def State.nextCorr (s : State) : Option (Corr × State) :=
  match s.corrq, s.walkq with
  | c :: rest, _ => some (c, { s with corrq := rest })
  | [], c :: rest => some (c, { s with walkq := rest })
  | [], [] => none

/-- PATROL_CORRECTION (R221, R222): the oldest reported correction, or else the walker's oldest, is written into the stored
frame, status kept; one whose frame was written since is dropped and counted. -/
def execPatrolCorrection (s : State) : Host.Outcome State Fault Refusal :=
  let s := s.quiet
  match s.nextCorr with
  | none => .next s
  | some (c, s) =>
    if c.stale then .next (s.bump R.PATROL_ERR_SUPERSEDED)
    else
      let x := s.frame c.n c.p c.f
      let wild := decide (3 ≤ x.flips.length)
      let data := if wild then s.draw % 2 ^ 4096 else x.data
      let s := if wild then s.drawn else s
      .next (s.writeFrame c.n c.p c.f data x.status)

/-- REFETCH_COPY_READY (R224): the plane's copy of the frame that the region's oldest refetch names is read and checked; the
good copy enters the refetch buffer; a double-bit error makes the plane DAMAGED and leaves the active frame unrepaired. -/
def execRefetchCopyReady (n : Fin 64) (s : State) : Host.Outcome State Fault Refusal :=
  let s := s.quiet
  let r := s.region n.val
  match r.refetch.find? (fun e => e.2.2.isNone) with
  | none => .next s
  | some (f, p, _) =>
    let x := s.frame n.val p f
    if s.verdict f x < 2 then
      let s := if s.verdict f x = 1 then s.reportCorr n.val p f else s
      .next (s.setRegion n.val { r with refetch := r.refetch.map fun e => if e.1 = f then (f, p, some x.data) else e })
    else
      let s := s.setRegion n.val { r with refetch := r.refetch.filter fun e => e.1 ≠ f }
      .next (((s.storedDbe n.val p f).set1 R.PATROL_STAT_UNREPAIRED).log .patrolActiveUnrepaired [n.val, p, f])

/-- Both walkers start a pass at index 0 (R217, R219). -/
def State.newPass (s : State) : State :=
  let s := (s.clr R.PATROL_SPOS_INDEX).clr R.PATROL_APOS_INDEX
  { s with passDone := (false, false), heldVisits := [] }

/-- Both walkers have made every visit of the pass, held ones among them (R218). -/
def State.passComplete (s : State) : Bool := s.passDone.1 && s.passDone.2 && s.heldVisits.isEmpty

/-- PATROL_PASS_END (R217, R218): PERIOD ends, by when every visit of the pass has been made; PASSES counts, and both walkers start a new pass. -/
def execPatrolPassEnd (s : State) : Host.Outcome State Fault Refusal :=
  let s := s.quiet
  if s.patrolRuns && s.passComplete then .next ((s.incr R.PATROL_STAT_PASSES).newPass) else .next s

/-- A write of PATROL_CTL (R217, R219): EN from 0 to 1 starts a new pass. -/
def wrPatrolCtl (s : State) (v : BitVec 32) : State :=
  let was := s.is1 R.PATROL_CTL_EN
  let s := s.storeReg .PATROL_CTL v
  if !was && s.is1 R.PATROL_CTL_EN then s.newPass else s

/-- PATROL_EN_WRITE (R219). -/
def execPatrolEnWrite (ini : Ini) (value : BitVec 32) (s : State) : Host.Outcome State Fault Refusal :=
  .next (s.quiet.written ini (R.PATROL_CTL_EN).off fun s => wrPatrolCtl s value)

end Sys2Proof.Machine
end

