-- ==== Sys2Proof/Machine/Porter.lean ====
section
/-! DEFINITION. The night porters (10_stored_data_protection.md, R295, R297, R301 to R304). -/

namespace Sys2Proof.Machine

/-- The porter reads a word (R303): a correction counts in the tracker, and of a REWRITTEN word it is a hard fault (R297). -/
def State.porterWord (s : State) (u : Unit') (addr : Nat) : State × Bool := s.porterRead u (fun s => s.trackWord u addr) addr

/-- The porter reads a 64-byte unit at an address (R301, R303). -/
def State.porterUnit (s : State) (u : Unit') (addr : Nat) : State :=
  ((List.range 8).foldl (fun r i => if r.2 then r else r.1.porterWord u (addr + 8 * i)) (s, false)).1

/-- The line in a way of a set of slice k. -/
def State.lineIn (s : State) (k set way : Nat) : Option (Nat × Line) := (s.setLines k set).find? fun e => e.2.way == way

/-- The porter of die d visits unit i (R301 to R303); array order: log entry 53. -/
def State.porterVisit (s : State) (d i : Nat) : State :=
  if i < 6291456 then
    let k := 64 * d + i / 98304
    let j := i % 98304
    if !(s.porterReaches (.slice k)) then s
    else match s.lineIn k (j / 32) (j % 32 / 2) with
      | some e => s.porterUnit (.slice k) (e.1 * 128 + 64 * (j % 2))
      | none => s
  else
    let j := i - 6291456
    let b := 1024 * d + j / 2048
    if s.porterReaches (.bank b) then s.porterUnit (.bank b) (bankAddr b (64 * j % 131072)) else s

/-- The tracker entries of die d change by `f`, one tracker at a time. -/
def State.eachTracker (s : State) (d : Nat) (f : List TrackEntry → List TrackEntry) : State :=
  s.each (List.range 96) fun s u => s.setTrack (96 * d + u) (f (s.track (96 * d + u)))

/-- A full pass of die d begins: the entries that stand now stand for the whole of it (R295). -/
def State.passBegins (s : State) (d : Nat) : State := s.eachTracker d fun es => es.map fun e => { e with full := true }

/-- A full pass of die d ends: COUNTING entries without a correction since they were taken, and REWRITTEN entries without a further one, that stood
for the whole pass are freed (R295). -/
def State.passFrees (s : State) (d : Nat) : State :=
  s.eachTracker d fun es => es.filter fun e => !(e.full && match e.state with
      | .counting => !e.again
      | .rewritten => e.fault.isNone
      | .queued | .hard => false)

/-- The unit whose word an entry of tracker u of die d names (R295): the tracker's slice, or the bank of its group that has the address. -/
def trackedUnit (d u addr : Nat) : Unit' := if u < 64 then .slice (64 * d + u) else .bank ((addr - 0x40000000000) / 0x20000)

/-- The unit still holds the word: a line may have left its slice (R267, R275). -/
def State.unitHolds (s : State) (u : Unit') (addr : Nat) : Bool :=
  match u with
  | .slice k => s.sliceOf addr == some k && (s.line (addr / 128 % 2 ^ 35)).isSome
  | .bank _ => true

/-- The hard faults of tracker u of die d whose rows the porter has still to repair, as far as it reaches their units (R297). -/
def State.repairDue (s : State) (d u : Nat) : State :=
  (s.track (96 * d + u)).foldl (fun s e => match e.fault with
    | some row => if s.porterReaches (trackedUnit d u e.addr) then s.hardFault (trackedUnit d u e.addr) e.addr row else s
    | none => s) s

/-- PORTER_VISIT (R301 to R303): the next unit, while the porter runs and its pass is not complete; row repairs that waited for the porter come first
(R297). -/
def execPorterVisit (d : Fin 2) (s : State) : Host.Outcome State Fault Refusal :=
  let s := s.quiet
  let d := d.val
  let p := s.porter d
  if !(s.porterRuns d) || p.done then .next s
  else
    let i := s.rd (R.PORTER_POS_UNIT d)
    let s := s.each (List.range 96) fun s u => s.repairDue d u
    let s := (if i = 0 then s.passBegins d else s).porterVisit d i
    if i < 8388607 then .next (s.wr (R.PORTER_POS_UNIT d) (i + 1))
    else
      let s := ((s.passFrees d).clr (R.PORTER_POS_UNIT d)).incr (R.PORTER_STAT_PASSES d)
      .next (s.setPorter d { s.porter d with done := !p.passOver, passOver := false })

/-- PORTER_PASS_END (R302): PASS has ended: the next pass starts, or LATE is set and the pass goes on. -/
def execPorterPassEnd (d : Fin 2) (s : State) : Host.Outcome State Fault Refusal :=
  let s := s.quiet
  let d := d.val
  if !(s.porterRuns d) then .next s
  else if (s.porter d).done then .next (s.setPorter d { s.porter d with done := false })
  else .next ((s.setPorter d { s.porter d with passOver := true }).set1 (R.PORTER_STAT_LATE d))

/-- A write to PORTER_CTL (R301): 0 stops the porter at its unit; 1 starts a pass from unit 0 where it had stopped. -/
def wrPorterCtl (s : State) (d : Nat) (v : BitVec 32) : State :=
  let was := s.is1 (R.PORTER_CTL_EN d)
  let s := s.storeReg (.PORTER_CTL d) v
  if !was && s.is1 (R.PORTER_CTL_EN d) then
    (s.clr (R.PORTER_POS_UNIT d)).setPorter d { s.porter d with done := false, passOver := false }
  else s

/-- PORTER_EN_WRITE (R301). -/
def execPorterEnWrite (ini : Ini) (d : Fin 2) (value : BitVec 32) (s : State) : Host.Outcome State Fault Refusal :=
  .next (s.quiet.written ini (R.PORTER_CTL_EN d.val).off fun s => wrPorterCtl s d.val value)

/-- QUEUED_REWRITE (R287, R295, R297): the oldest QUEUED entry of tracker u of die d whose unit the porter reaches: the word, where the unit still holds
it, is read, corrected and written back; the entry is REWRITTEN with count 0. -/
def execQueuedRewrite (d : Fin 2) (u : Fin 96) (s : State) : Host.Outcome State Fault Refusal :=
  let s := s.quiet
  let t := 96 * d.val + u.val
  if !(s.porterRuns d.val) then .next s
  else
    let s := s.repairDue d.val u.val
    match (s.track t).find? (fun e => e.state == .queued && s.porterReaches (trackedUnit d.val u.val e.addr)) with
    | none => .next s
    | some e =>
      let s := s.setTrack t ((s.track t).map fun x => if x.addr = e.addr then
        { x with state := .rewritten, count := 0, full := false, again := false } else x)
      if s.unitHolds (trackedUnit d.val u.val e.addr) e.addr then .next (s.porterRead (trackedUnit d.val u.val e.addr) id e.addr).1 else .next s

/-- A write to PROT_FLIP_CTL (R304): ARM is refused for a unit that is out of service or mapped out. -/
def wrFlipCtl (s : State) (d : Nat) (v : BitVec 32) : State :=
  let s := s.storeReg (.PROT_FLIP_CTL d) v
  let u := s.rd (R.PROT_FLIP_CTL_UNIT d)
  let ok := if s.is1 (R.PROT_FLIP_CTL_KIND d) then s.bankIn (1024 * d + u) && decide (u < 1024)
    else s.sliceIn (64 * d + u) && decide (u < 64)
  if ok then s else s.clr (R.PROT_FLIP_CTL_ARM d)

/-- FLIP_ARM (R304). -/
def execFlipArm (ini : Ini) (d : Fin 2) (value : BitVec 32) (s : State) : Host.Outcome State Fault Refusal :=
  .next (s.quiet.written ini (R.PROT_FLIP_CTL_ARM d.val).off fun s => wrFlipCtl s d.val value)

end Sys2Proof.Machine
end

