-- ==== Sys2Proof/Machine/Sdram.lean ====
section
/-! DEFINITION. SDRAM ports and inline encryption (11_sdram_encryption.md, R306 to R328). -/

namespace Sys2Proof.Machine

/-! ## The line as stored (R312 to R314) -/

/-- Multiply in GF(2^8) with x^8 + x^4 + x^3 + x^2 + 1 (R313). -/
def gfMul (a b : Nat) : Nat :=
  ((List.range 8).foldl (fun r i =>
    let x := r.1
    let acc := if b.testBit i then r.2 ^^^ x else r.2
    (if x.testBit 7 then ((2 * x) % 256) ^^^ 0x1D else 2 * x, acc)) (a, 0)).2

/-- The three check symbols of 17 symbols under (x − 1)(x − α)(x − α²) = x³ + 7x² + 14x + 8 (R313; the first symbol is that of the
highest power, log entry 56). -/
def rsCheck (syms : List Nat) : List Nat :=
  let r := syms.foldl (fun (r : Nat × Nat × Nat) s =>
    let t := r.1 ^^^ s
    (r.2.1 ^^^ gfMul t 7, r.2.2 ^^^ gfMul t 14, gfMul t 8)) (0, 0, 0)
  [r.1, r.2.1, r.2.2]

/-- The symbol of device k of subchannel h in beat pair i of a line's data (R312). -/
def dataSymbol (data i h k : Nat) : Nat :=
  let w := data >>> (64 * (2 * i + h))
  (w >>> (4 * k)) % 16 + 16 * ((w >>> (32 + 4 * k)) % 16)

/-- The data bits that an error in a data symbol changes (R312). -/
def symbolError (i sym e : Nat) : Nat :=
  let w := 64 * (2 * i + sym / 8)
  ((e % 16) <<< (w + 4 * (sym % 8))) ^^^ ((e / 16 % 16) <<< (w + 32 + 4 * (sym % 8)))

/-- Metadata byte M_i of a line (R314). -/
def metaByte (tag poison i : Nat) : Nat :=
  match i with
  | 0 => tag % 256 | 1 => tag / 256 % 256 | 2 => poison % 256 | 3 => poison / 256 % 256 | _ => 0

/-- The eight codewords of a line: 16 data symbols, M_i, three check symbols (R313). -/
def codewords (data tag poison : Nat) : List (List Nat) :=
  (List.range 8).map fun i =>
    let d := (List.range 16).map (fun s => dataSymbol data i (s / 8) (s % 8)) ++ [metaByte tag poison i]
    d ++ rsCheck d

/-- The key tag of key ID k (R314). -/
def keyTag (k : Nat) : Nat := k + 256 * (255 - k)
/-- The void tag (R314). -/
def voidTag : Nat := 0x7F80

/-- The 512-bit key that a draw of the random source made (R315). -/
def xtsKey (draw : Nat) : Nat := Config.free draw % 2 ^ 512

/-- The bits of a line as stored: encrypted under the key that wrote it (R317). -/
def SdLine.cipher (x : SdLine) (l : Nat) : Nat :=
  match x.enc with
  | some k => xtsEnc (xtsKey k) l x.data
  | none => x.data

/-- Line l as SDRAM holds it: void where nothing was written (R314). -/
def State.sdLine (s : State) (l : Nat) : SdLine := storeGet SdLine.void l s.sdram.lines
/-- Store line l. -/
def State.setSdLine (s : State) (l : Nat) (x : SdLine) : State :=
  { s with sdram := { s.sdram with lines := storeSet SdLine.void l x s.sdram.lines } }

/-- Symbols of a line go wrong: the errors of one symbol add up. -/
def SdLine.spoil (x : SdLine) (wrong : List (Fin 8 × Fin 20 × BitVec 8)) : SdLine :=
  wrong.foldl (fun x w =>
    let e := (x.wrong.find? fun y => y.1 == w.1.val && y.2.1 == w.2.1.val).elim 0 (·.2.2)
    let rest := x.wrong.filter fun y => !(y.1 == w.1.val && y.2.1 == w.2.1.val)
    let e' := e ^^^ w.2.2.toNat
    { x with wrong := if e' = 0 then rest else rest ++ [(w.1.val, w.2.1.val, e')] }) x

/-- Wrong symbols of codeword i. -/
def SdLine.errors (x : SdLine) (i : Nat) : Nat := (x.wrong.filter fun w => w.1 == i).length

/-- The data bits that the errors of some codewords change. -/
def SdLine.errBits (x : SdLine) (cw : Nat → Bool) : Nat :=
  x.wrong.foldl (fun m w => if cw w.1 && decide (w.2.1 < 16) then m ^^^ symbolError w.1 w.2.1 w.2.2 else m) 0

/-- A codeword with two wrong symbols is uncorrectable (R313). -/
def SdLine.bad (x : SdLine) : Bool := (List.range 8).any fun i => 2 ≤ x.errors i

/-- Codeword i of line l as a free value makes it: its data and M_i are free, and it is in order or has one wrong symbol. -/
def SdLine.wild (x : SdLine) (l i free : Nat) : SdLine :=
  let c := x.cipher l
  let data := (c ^^^ ((c >>> (128 * i)) % 2 ^ 128) <<< (128 * i)) ^^^ ((free % 2 ^ 128) <<< (128 * i))
  let m := free / 2 ^ 128 % 256
  let tag := match i with | 0 => x.tag / 256 * 256 + m | 1 => x.tag % 256 + 256 * m | _ => x.tag
  let poison := match i with | 2 => x.poison / 256 * 256 + m | 3 => x.poison % 256 + 256 * m | _ => x.poison
  let one := if free / 2 ^ 136 % 2 = 0 then [] else [(i, free / 2 ^ 137 % 20, 1)]
  ⟨data, none, tag, poison, (x.wrong.filter fun w => w.1 != i) ++ one⟩

/-- What a read of line l sees (R313): the code promises nothing of a codeword with three or more wrong symbols, which is seen as uncorrectable, as in
order, or as corrected to something (log entry 57: free); every other codeword is as it is. -/
def State.seenLine (s : State) (l : Nat) (x : SdLine) : SdLine × State :=
  ((List.range 8).filter fun i => 3 ≤ x.errors i).foldl (fun a i =>
    (if a.2.draw % 2 = 0 then a.1 else a.1.wild l i (a.2.draw / 2), a.2.drawn)) (x, s)

/-- The data that a fill under key ID k delivers of a line with data errors `err` left in it (R317, R320). -/
def State.decryptLine (s : State) (k l : Nat) (x : SdLine) (err : Nat) : Nat :=
  match storeGet none k s.sdram.keys, s.kstate k with
  | some key, .xts => if err = 0 ∧ x.enc = some key then x.data else xtsDec (xtsKey key) l (x.cipher l ^^^ err)
  | _, _ => x.cipher l ^^^ err

/-- Where line l lies (R311): bank group cl[2:0], bank cl[4:3], column 16 × cl[11:5], row (cl mod Lr) div 4,096, rank cl div Lr. -/
def State.sdPlace (s : State) (l : Nat) : SdPlace :=
  let c := s.lineChannel l
  ⟨c.1, c.2 / s.rankLines, c.2 % s.rankLines / 4096, c.2 % 8, c.2 / 8 % 4, 16 * (c.2 / 32 % 128)⟩

/-! ## Channels (R307 to R310, R325, R326) -/

/-- The states of a channel (R308). -/
inductive ChState where
  | off | training | init | ready | selfRefresh | failed
  deriving DecidableEq, Repr

/-- The code of a channel state (SD_CH_CTL_c.STATE). -/
def ChState.code : ChState → Nat
  | .off => 0 | .training => 1 | .init => 2 | .ready => 3 | .selfRefresh => 4 | .failed => 5

/-- The state of channel c. -/
def State.chState (s : State) (c : Nat) : ChState :=
  match s.rd (R.SD_CH_CTL_STATE c) with
  | 1 => .training | 2 => .init | 3 => .ready | 4 => .selfRefresh | 5 => .failed | _ => .off
/-- Set the state of channel c. -/
def State.setChState (s : State) (c : Nat) (x : ChState) : State := s.wr (R.SD_CH_CTL_STATE c) x.code

/-- Channel c serves nothing: its FRZ is 1 and the freeze is asserted (R326). -/
def State.chFrozen (s : State) (c : Nat) : Bool := s.is1 (R.SD_CH_CTL_FRZ c) && s.is1 R.DBG_FRZ_ASSERT

/-- A request meets channel c (R308, R325, R326): served, after leaving self-refresh; refused; or (none) held. -/
def State.meetChannel (s : State) (c : Nat) : Option (State × Bool) :=
  if s.chFrozen c then none
  else match s.chState c with
    | .ready => some (s, true)
    | .selfRefresh => some (s.setChState c .ready, true)
    | .off | .training | .init | .failed => some (s, false)

/-- A write to SD_CFG (R306, R307). -/
def wrSdCfg (s : State) (v : BitVec 32) : State :=
  let s := s.w1cOnly .SD_CFG v
  let t := s.storeReg .SD_CFG v
  let pop := t.populated.length
  let ranks := t.ranks
  let ok := (List.range 12).all (fun c => s.chState c == .off) &&
    (pop == 1 || pop == 2 || pop == 3 || pop == 4 || pop == 6 || pop == 12) &&
    (if t.is1 R.SD_CFG_TWO_MOD then (ranks == 2 || ranks == 4) && decide (t.rd R.SD_CFG_RATE ≤ 2)
     else (ranks == 1 || ranks == 2))
  if ok then t else s.set1 R.SD_CFG_CFG_ERR

/-- SD_CFG_WRITE (R307). -/
def execSdCfgWrite (ini : Ini) (value : BitVec 32) (s : State) : Host.Outcome State Fault Refusal :=
  .next (s.quiet.written ini (R.SD_CFG_POP).off fun s => wrSdCfg s value)

/-- A command is refused (R308). -/
def State.chErr (s : State) (c : Nat) : State := s.set1 (R.SD_CH_CTL_CMD_ERR c)

/-- The SWEEP covers channel c. -/
def State.sweeping (s : State) (c : Nat) : Bool := s.sdram.sweep.any fun e => e.1 == c

/-- Drop channel c from the sweep (R323). -/
def State.dropSweep (s : State) (c : Nat) : State :=
  { s with sdram := { s.sdram with sweep := s.sdram.sweep.filter fun e => e.1 != c, srWait := s.sdram.srWait.filter (· != c) } }

/-- A command to channel c (R308, R323). -/
def State.chCommand (s : State) (c cmd : Nat) : State :=
  if !(s.bit R.SD_CFG_POP c) then s.chErr c
  else match cmd, s.chState c with
    | 1, .off | 1, .failed => (s.wr (R.SD_CH_STAT_TRAIN_STEP c) 0).setChState c .training
    | 2, .ready =>
      if s.sweeping c then { s with sdram := { s.sdram with srWait := s.sdram.srWait ++ [c] } }
      else s.setChState c .selfRefresh
    | 3, .selfRefresh => s.setChState c .ready
    | 4, _ => (s.dropSweep c).setChState c .off
    | _, _ => s.chErr c

/-- A write to SD_CH_CTL_c (R308); a reserved CMD starts nothing (R15). -/
def wrSdChCtl (s : State) (c : Nat) (v : BitVec 32) : State :=
  let s := s.storeReg (.SD_CH_CTL c) v
  let cmd := (R.SD_CH_CTL_CMD c).of v
  if cmd = 0 ∨ 5 ≤ cmd then s else s.chCommand c cmd

/-- BRING_UP (R308, R309). -/
def execBringUp (ini : Ini) (c : Fin 12) (s : State) : Host.Outcome State Fault Refusal :=
  .next (s.quiet.written ini (R.SD_CH_CTL_CMD c.val).off fun s => s.chCommand c.val 1)
/-- SR_ENTER (R308, R323). -/
def execSrEnter (ini : Ini) (c : Fin 12) (s : State) : Host.Outcome State Fault Refusal :=
  .next (s.quiet.written ini (R.SD_CH_CTL_CMD c.val).off fun s => s.chCommand c.val 2)
/-- SR_EXIT (R308). -/
def execSrExit (ini : Ini) (c : Fin 12) (s : State) : Host.Outcome State Fault Refusal :=
  .next (s.quiet.written ini (R.SD_CH_CTL_CMD c.val).off fun s => s.chCommand c.val 3)
/-- CHANNEL_OFF (R308, R310). -/
def execChannelOff (ini : Ini) (c : Fin 12) (s : State) : Host.Outcome State Fault Refusal :=
  .next (s.quiet.written ini (R.SD_CH_CTL_CMD c.val).off fun s => s.chCommand c.val 4)

/-- A step of bring-up fails (R309). -/
def State.chFail (s : State) (c step : Nat) : State :=
  ((s.wr (R.SD_CH_STAT_TRAIN_STEP c) step).setChState c .failed).log .sdTrainFail []

/-- TRAINING_COMPLETE (R309): the channel enters INIT, or a step (1 to 5) failed. -/
def execTrainingComplete (c : Fin 12) (fail : Option (Fin 5)) (s : State) : Host.Outcome State Fault Refusal :=
  let s := s.quiet
  if s.chState c.val ≠ .training then .next s
  else match fail with
    | some k => .next (s.chFail c.val (k.val + 1))
    | none => .next (s.setChState c.val .init)

/-- Every line of channel c is void (R309, R314). -/
def State.voidChannel (s : State) (c : Nat) : State :=
  let keep := s.sdram.lines.filter fun e => (s.lineChannel e.1).1 != c
  { s with sdram := { s.sdram with lines := keep } }

/-- INIT_COMPLETE (R309): every line of the channel has been written void; or the write failed. -/
def execInitComplete (c : Fin 12) (ok : Bool) (s : State) : Host.Outcome State Fault Refusal :=
  let s := s.quiet
  if s.chState c.val ≠ .init then .next s
  else if ok then .next ((s.voidChannel c.val).setChState c.val .ready)
  else .next (s.chFail c.val 6)

/-! ## Fills and write-backs (R320, R321, R324) -/

/-- The symbol of SD_CH_ERR for an error: rank, subchannel, device position (R312, R313). -/
def State.recordSymbol (s : State) (l sym : Nat) : State :=
  let c := s.lineChannel l
  let sub := if sym < 8 then 0 else if sym < 17 then 1 else if sym < 19 then 0 else 1
  let dev := if sym < 16 then sym % 8 else if sym = 16 then 9 else if sym = 17 then 8 else if sym = 18 then 9 else 8
  ((s.wr (R.SD_CH_ERR_RANK c.1) (c.2 / s.rankLines)).wr (R.SD_CH_ERR_SUB c.1) sub).wr (R.SD_CH_ERR_DEVICE c.1) dev

/-- The corrected codewords of a line count, and the latest symbol is recorded (R320, R327). -/
def State.countCorrected (s : State) (l : Nat) (x : SdLine) : State :=
  x.wrong.foldl (fun s w => if x.errors w.1 = 1 then (s.bump (R.SD_CH_STAT_CE (s.lineChannel l).1)).recordSymbol l w.2.1 else s) s

/-- The answer of the port to a fill of line l (R320). -/
def State.fillAnswer (s : State) (l : Nat) : State × FillAns :=
  let no := fun code => (⟨code, 0, 0, 0⟩ : FillAns)
  match s.keyOf (l * 128) with
  | none => (s, no .denied)
  | some k =>
    match s.kstate k with
    | .empty => (s, no .denied)
    | .retired => (s.bump R.SD_KEYTAG_RETIRED_HIT, no .keytag)
    | .xts | .plain =>
      let seen := s.seenLine l (s.sdLine l)
      let x := seen.1
      let s := seen.2
      let c := (s.lineChannel l).1
      let s := s.emit (.sdRead (s.sdPlace l))
      if x.bad then
        let err := x.errBits fun i => 2 ≤ x.errors i
        ((s.bump (R.SD_CH_STAT_UE c)).log .sdUe [], ⟨.ok, s.decryptLine k l x err, 0xFFFF, k⟩)
      else if x.tag = voidTag then (s, ⟨.ok, 0, 0, k⟩)
      else if x.tag = keyTag k then (s.countCorrected l x, ⟨.ok, s.decryptLine k l x 0, x.poison, k⟩)
      else
        let s := (s.bump R.SD_KEYTAG_COUNT).wr R.SD_KEYTAG_INFO_EXPECTED k
        let s := (s.wr R.SD_KEYTAG_INFO_FOUND x.tag).wr64 R.SD_KEYTAG_ADDR_LO_ADDR R.SD_KEYTAG_ADDR_HI_ADDR (l * 128)
        ((s.log .sdKeytag (words64 (l * 128) ++ [k, x.tag])).alarm 1, no .keytag)

/-- SDRAM_FILL (R308, R320, R325, R326): the fill of line l that a miss entry waits for is answered; symbols of the stored line may
have gone wrong since. A fill waits behind the write-backs of its line. -/
def execSdramFill (l : BitVec 35) (wrong : List (Fin 8 × Fin 20 × BitVec 8)) (s : State) : Host.Outcome State Fault Refusal :=
  let s := s.quiet
  let l := l.toNat
  match s.sliceOf (l * 128) with
  | none => .next s
  | some k =>
    if !((s.slice k).misses.any fun m => m.line == l && m.ans.isNone) || (s.firstWb l).isSome then .next s
    else match s.meetChannel (s.lineChannel l).1 with
      | none => .next s
      | some (s, served) =>
        let r : State × FillAns :=
          if served then (s.setSdLine l ((s.sdLine l).spoil wrong)).fillAnswer l else (s, ⟨.denied, 0, 0, 0⟩)
        let s := r.1
        .next (s.setSlice k { s.slice k with misses := (s.slice k).misses.map fun m =>
          if m.line == l then { m with ans := some r.2 } else m })

/-- SDRAM_WRITEBACK (R308, R310, R321, R325): the first write-back of line l is written under its recorded key ID, or answered. -/
def execSdramWriteback (l : BitVec 35) (s : State) : Host.Outcome State Fault Refusal :=
  let s := s.quiet
  let l := l.toNat
  match s.firstWb l with
  | none => .next s
  | some w =>
    match w.stage with
    | .retry | .answered _ => .next s
    | .sent =>
      match s.meetChannel (s.lineChannel l).1 with
      | none => .next s
      | some (s, served) =>
        let answer := fun (s : State) code => s.setFirstWb l (some { w with stage := .answered code })
        if !served then .next (answer s .denied)
        else match s.kstate w.key with
          | .empty | .retired => .next (answer s .keytag)
          | .xts | .plain =>
            let enc := if s.kstate w.key = .xts then storeGet none w.key s.sdram.keys else none
            let x : SdLine := ⟨w.data, enc, keyTag w.key, w.poison, []⟩
            .next (answer ((s.setSdLine l x).emit (.sdWrite (s.sdPlace l) (codewords (x.cipher l) x.tag x.poison))) .ok)

/-! ## Keys and windows (R316, R318, R319, R322, R323) -/

/-- A command of MKEY_CMD is refused (R316). -/
def State.mkeyErr (s : State) : State := s.set1 R.MKEY_CMD_ERR

/-- A command of MKEY_CMD begins. -/
def State.mkeyBegin (s : State) (k cmd : Nat) : State :=
  ({ s with sdram := { s.sdram with cmd := some (k, cmd) } } : State).set1 R.MKEY_CMD_BUSY

/-- A command of MKEY_CMD ends. -/
def State.mkeyEnd (s : State) : State :=
  (({ s with sdram := { s.sdram with cmd := none } } : State).clr R.MKEY_CMD_BUSY).set1 R.MKEY_CMD_DONE

/-- An enabled window names key ID k. -/
def State.keyNamed (s : State) (k : Nat) : Bool :=
  (List.range 64).any fun w => s.is1 (R.MKEY_WIN_BASE_EN w) && s.rd (R.MKEY_WIN_BASE_KEY_ID w) == k

/-- SWEEP begins (R323): the channels in READY or SELF_REFRESH are covered, the latter taken out of it. -/
def State.sweepBegin (s : State) (k : Nat) : State :=
  let cs := s.populated.filter fun c => s.chState c == .ready || s.chState c == .selfRefresh
  let marks := cs.map fun c => (c, s.chState c == .selfRefresh)
  let s := cs.foldl (fun s c => s.setChState c .ready) s
  let s := s.setKeyBits k 3 (KState.retired.code + 4)
  ({ s with sdram := { s.sdram with sweep := marks, srWait := [] } } : State).mkeyBegin k 4

/-- The commands of MKEY_CMD (R316, R447). -/
def State.mkeyCommand (s : State) (k cmd : Nat) : State :=
  if s.is1 R.MKEY_CMD_BUSY then s.mkeyErr
  else match cmd, s.kstate k with
    | 1, .empty => if s.is1 R.RNG_STAT_HEALTHY then s.mkeyBegin k 1 else s.mkeyErr
    | 2, .empty => (s.setKstate k .plain).set1 R.MKEY_CMD_DONE
    | 3, .xts | 3, .plain =>
      if s.keyNamed k || s.is1 R.LARDER_CTL_BUSY then s.mkeyErr
      else ((s.beginOp (.flush (some k))).cleanLines true 1 k 0).mkeyBegin k 3
    | 4, .retired => s.sweepBegin k
    | _, _ => s.mkeyErr

/-- The life-cycle state bars a command of MKEY_CMD (R440): GENERATE and SET_PLAIN in BLANK and SCRAPPED. -/
def State.mkeyBarred (s : State) (cmd : Nat) : Bool :=
  (cmd == 1 || cmd == 2) && (s.lcFuses.lc == 0 || s.lcFuses.lc == 5)

/-- A write to MKEY_CMD (R316); a reserved CMD starts nothing (R15). -/
def wrMkeyCmd (s : State) (v : BitVec 32) : State :=
  let s := s.storeReg .MKEY_CMD v
  let cmd := R.MKEY_CMD_CMD.of v
  if cmd = 0 ∨ 5 ≤ cmd then s else s.mkeyCommand (R.MKEY_CMD_KEY_ID.of v) cmd

/-- The value that writes a command to MKEY_CMD. -/
def mkeyValue (k cmd : Nat) : BitVec 32 := BitVec.ofNat 32 (cmd + 256 * k)

/-- A command of MKEY_CMD from an initiator: barred ones are answered DENIED (R440). -/
def State.mkeyWrite (s : State) (ini : Ini) (k cmd : Nat) : State :=
  if s.mkeyBarred cmd then s.deniedWrite ini else s.written ini R.MKEY_CMD_CMD.off fun s => wrMkeyCmd s (mkeyValue k cmd)

/-- GENERATE (R316, R440, R447). -/
def execGenerate (ini : Ini) (k : Fin 64) (s : State) : Host.Outcome State Fault Refusal := .next (s.quiet.mkeyWrite ini k.val 1)
/-- SET_PLAIN (R316, R440). -/
def execSetPlain (ini : Ini) (k : Fin 64) (s : State) : Host.Outcome State Fault Refusal := .next (s.quiet.mkeyWrite ini k.val 2)
/-- RETIRE (R316, R322). -/
def execRetire (ini : Ini) (k : Fin 64) (s : State) : Host.Outcome State Fault Refusal := .next (s.quiet.mkeyWrite ini k.val 3)
/-- SWEEP (R316, R323). -/
def execSweep (ini : Ini) (k : Fin 64) (s : State) : Host.Outcome State Fault Refusal := .next (s.quiet.mkeyWrite ini k.val 4)

/-- KEY_GENERATED (R316, R446): a key is drawn, and the ID is XTS. -/
def execKeyGenerated (s : State) : Host.Outcome State Fault Refusal :=
  let s := s.quiet
  match s.sdram.cmd with
  | some (k, 1) =>
    let s : State := { s with sdram := { s.sdram with keys := storeSet none k (some s.fresh) s.sdram.keys } }
    .next (((s.drawn).setKstate k .xts).mkeyEnd)
  | _ => .next s

/-- RETIRE_COMPLETE (R322): the flush is complete: the ID is RETIRED and its key is destroyed. -/
def execRetireComplete (s : State) : Host.Outcome State Fault Refusal :=
  let s := s.quiet
  match s.sdram.cmd with
  | some (k, 3) => if s.larder.op = some (.flush (some k)) then .next s else .next (((s.setKstate k .retired).dropKey k).mkeyEnd)
  | _ => .next s

/-- CHANNEL_SWEEP_END (R323): every line of the channel with the ID's tag has become void; the channel returns to SELF_REFRESH if it
was taken out of it or an SR_ENTER waits. -/
def execChannelSweepEnd (c : Fin 12) (s : State) : Host.Outcome State Fault Refusal :=
  let s := s.quiet
  match s.sdram.cmd, s.sdram.sweep.find? (fun e => e.1 == c.val) with
  | some (k, 4), some e =>
    let keep := s.sdram.lines.filter fun x => !((s.lineChannel x.1).1 == c.val && x.2.tag == keyTag k)
    let back := e.2 || s.sdram.srWait.contains c.val
    let s : State := { s with sdram := { s.sdram with lines := keep } }
    let s := s.dropSweep c.val
    .next (if back then s.setChState c.val .selfRefresh else s)
  | _, _ => .next s

/-- SWEEP_COMPLETE (R323): every covered channel has been swept: the ID is EMPTY. -/
def execSweepComplete (s : State) : Host.Outcome State Fault Refusal :=
  let s := s.quiet
  match s.sdram.cmd with
  | some (k, 4) => if s.sdram.sweep.isEmpty then .next ((s.setKeyBits k 3 0).mkeyEnd) else .next s
  | _ => .next s

/-- A write to MKEY_WIN_BASE[w] (R319). -/
def wrMkeyWinBase (s : State) (w : Nat) (v : BitVec 32) : State :=
  let s := s.w1cOnly (.MKEY_WIN_BASE w) v
  let t := s.storeReg (.MKEY_WIN_BASE w) v
  let was := s.is1 (R.MKEY_WIN_BASE_EN w)
  let same := s.rd (R.MKEY_WIN_BASE_KEY_ID w) == t.rd (R.MKEY_WIN_BASE_KEY_ID w) &&
    s.rd (R.MKEY_WIN_BASE_BASE w) == t.rd (R.MKEY_WIN_BASE_BASE w)
  let sets := !was && t.is1 (R.MKEY_WIN_BASE_EN w)
  let bad := (was && !same) || (sets && (decide (t.rd (R.MKEY_WIN_LIM_LIM w) < t.rd (R.MKEY_WIN_BASE_BASE w)) ||
    t.kstate (t.rd (R.MKEY_WIN_BASE_KEY_ID w)) == .retired))
  if bad then s.set1 (R.MKEY_WIN_BASE_CFG_ERR w) else t

/-- A write to MKEY_WIN_LIM[w] (R319). -/
def wrMkeyWinLim (s : State) (w : Nat) (v : BitVec 32) : State :=
  if s.is1 (R.MKEY_WIN_BASE_EN w) && (R.MKEY_WIN_LIM_LIM w).of v != s.rd (R.MKEY_WIN_LIM_LIM w) then
    s.set1 (R.MKEY_WIN_BASE_CFG_ERR w)
  else s.storeReg (.MKEY_WIN_LIM w) v

/-- MKEY_WIN_WRITE (R318, R319): BASE, or with `lim` LIM. -/
def execMkeyWinWrite (ini : Ini) (w : Fin 64) (lim : Bool) (value : BitVec 32) (s : State) : Host.Outcome State Fault Refusal :=
  .next (s.quiet.written ini (R.MKEY_WIN_BASE_EN w.val).off fun s => if lim then wrMkeyWinLim s w.val value else wrMkeyWinBase s w.val value)

/-! ## Refresh, retuning and scrub (R325, R327) -/

/-- SDRAM_REFRESH (R325). -/
def execSdramRefresh (c : Fin 12) (s : State) : Host.Outcome State Fault Refusal :=
  let s := s.quiet
  if s.chState c.val = .ready then .next (s.emit (.sdRefresh c.val)) else .next s

/-- MR4_POLL (R325): REFRESH_X2 shows whether any device of the channel reports the doubled rate. -/
def execMr4Poll (c : Fin 12) (doubled : Bool) (s : State) : Host.Outcome State Fault Refusal :=
  let s := s.quiet
  if s.chState c.val = .ready then .next (s.wrb (R.SD_CH_STAT_REFRESH_X2 c.val) doubled) else .next s

/-- STROBE_RETUNE (R325): it takes channel time and changes nothing that the device holds. -/
def execStrobeRetune (_ : Fin 12) (s : State) : Host.Outcome State Fault Refusal := .next s.quiet

/-- Lines of a populated channel (R311). -/
def State.channelLines (s : State) : Nat := s.ranks * s.rankLines
/-- The line at channel line cl of channel c (R311). -/
def State.lineAt (s : State) (c cl : Nat) : Nat := cl * s.populated.length + s.populated.idxOf c

/-- Lines that the scrub of channel c has read in this pass. -/
def State.scrubPos (s : State) (c : Nat) : Nat := storeGet 0 c s.sdram.scrub

/-- The scrub pass is complete: every line of every READY channel has been read (R327). -/
def State.scrubComplete (s : State) : Bool :=
  s.populated.all fun c => s.chState c != .ready || decide (s.channelLines ≤ s.scrubPos c)

/-- The next scrub pass starts. -/
def State.scrubAgain (s : State) : State := { s with sdram := { s.sdram with scrub := [], scrubOver := false } }

/-- The line as the scrub writes it back. -/
def State.scrubWrite (s : State) (l : Nat) (x : SdLine) : State :=
  (s.setSdLine l x).emit (.sdWrite (s.sdPlace l) (codewords (x.cipher l) x.tag x.poison))

/-- The scrub acts on a line (R327). -/
def State.scrubLine (s : State) (l : Nat) : State :=
  let seen := s.seenLine l (s.sdLine l)
  let x := seen.1
  let s := seen.2
  let c := (s.lineChannel l).1
  let s := s.emit (.sdRead (s.sdPlace l))
  if x.bad then
    let err := x.errBits fun i => 2 ≤ x.errors i
    let tag := if x.errors 0 ≤ 1 && x.errors 1 ≤ 1 then x.tag
      else match s.keyOf (l * 128) with
        | some k => keyTag k
        | none => voidTag
    let y : SdLine := if err = 0 then ⟨x.data, x.enc, tag, 0xFFFF, []⟩ else ⟨x.cipher l ^^^ err, none, tag, 0xFFFF, []⟩
    ((s.scrubWrite l y).bump (R.SD_CH_STAT_UE c)).logP 0 .sdUeScrub []
  else if x.wrong = [] then s
  else (s.countCorrected l x).scrubWrite l { x with wrong := [] }

/-- SCRUB_LINE (R326, R327): the scrub of a READY channel reads its next line, in the order of channel lines (DESIGN CHOICE, log entry 243), unless the
channel is frozen; symbols of the stored line may have gone wrong since. A pass that has run past PERIOD is followed by the next. -/
def execScrubLine (read : ScrubRead) (s : State) : Host.Outcome State Fault Refusal :=
  let s := s.quiet
  let c := read.channel.val
  let cl := s.scrubPos c
  if !(s.is1 R.SD_SCRUB_EN) || !(s.bit R.SD_CFG_POP c) || s.chState c ≠ .ready || s.chFrozen c || decide (s.channelLines ≤ cl) then .next s
  else
    let l := s.lineAt c cl
    let s := (s.setSdLine l ((s.sdLine l).spoil read.wrong)).scrubLine l
    let s : State := { s with sdram := { s.sdram with scrub := storeSet 0 c (cl + 1) s.sdram.scrub } }
    .next (if s.sdram.scrubOver && s.scrubComplete then s.scrubAgain else s)

/-- SCRUB_PASS_END (R327): PERIOD has ended: the next pass starts, or LATE is set and the pass runs on. -/
def execScrubPassEnd (s : State) : Host.Outcome State Fault Refusal :=
  let s := s.quiet
  if !(s.is1 R.SD_SCRUB_EN) then .next s
  else if s.scrubComplete then .next s.scrubAgain
  else .next { s.set1 R.SD_SCRUB_LATE with sdram := { s.sdram with scrubOver := true } }

end Sys2Proof.Machine
end

