-- ==== Sys2Proof/Machine/PinOps.lean ====
section
/-! DEFINITION. GPIO banks and dedicated pins (20_pins_electrical.md, R497, R504 to R507; 02_fabric.md, R80, R81). -/

namespace Sys2Proof.Machine

/-! ## GPIO banks (R505 to R507) -/

/-- The range of VCCIO_n of an I/O standard, in 0.1 mV (R394, R505); none: DISABLED. -/
def vccioRange : Nat → Option (Nat × Nat)
  | 0 => some (11400, 12600)
  | 1 => some (14250, 15750)
  | 2 => some (17100, 18900)
  | 3 => some (23750, 26250)
  | 4 => some (30000, 36000)
  | _ => none

/-- VCCIO_OK of bank b as R506 defines it. -/
def State.vccioGood (s : State) (b : Nat) : Bool :=
  match vccioRange (s.rd (R.GPIO_BANK_CFG_IOSTD b)) with
  | none => false
  | some (lo, hi) =>
    let v := s.rd (R.HK_CHAN_VALUE (208 + b))
    s.is1 (R.HK_CHAN_VALID (208 + b)) && decide (lo ≤ v) && decide (v ≤ hi)

/-- VCCIO_OK of bank b is judged anew (R506): when it falls VCCIO_ERR is set and the pins are high-Z; when it rises the bank drives
its safe state until its port's next sample. -/
def State.judgeVccio (s : State) (b : Nat) : State :=
  let was := s.is1 (R.GPIO_BANK_CFG_VCCIO_OK b)
  let ok := s.vccioGood b
  let s := s.wrb (R.GPIO_BANK_CFG_VCCIO_OK b) ok
  if was && !ok then ((s.set1 (R.GPIO_BANK_CFG_VCCIO_ERR b)).clr (R.GPIO_IN_PINS b)).setPad b {}
  else if !was && ok then s.setPad b (s.safePads b)
  else s

/-- A write to GPIO_BANK_CFG_n (R505, R506). -/
def wrGpioBankCfg (s : State) (b : Nat) (v : BitVec 32) : State := (s.storeReg (.GPIO_BANK_CFG b) v).judgeVccio b

/-- The PIN port that bank b is bound to (R79). -/
def State.bankPort (s : State) (b : Nat) : Option (Nat × Nat) :=
  (((List.range 64).flatMap fun n => (List.range 4).map fun p => (n, p)).find? fun e =>
    s.portMode e.1 e.2 == 1 && s.rd (R.REGION_PORT_CFG_BANK e.1 e.2) == b)

/-- The pads of bank b at a sample edge of its PIN port (R81, R213, R360, R408, R507): the port's next sample if it is ready, else an underrun; the safe
state until STARTED, while the pair does not drive, and in SHUTDOWN. -/
def State.drivePins (s : State) (b n p : Nat) : State :=
  let held := !(s.is1 R.IMG_STATUS_STARTED) || s.twinSafe b || s.isShutdown
  let x := s.port n p
  let s := match x.pinOut with
    | (t, d, e) :: rest => if t ≤ s.now then (s.setPort n p { x with pinOut := rest }).setPad b ⟨d, e⟩ else s.underrun n p
    | [] => s.underrun n p
  if held then s.setPad b (s.safePads b) else s

/-- One reference cycle of bank b (R80, R81, R506, R507): at a sample edge of the port it is bound to, the pads are sampled and driven; without
VCCIO_OK the pins stay high-Z; without a port the bank drives its safe state. -/
def State.bankEdge (s : State) (b : Nat) : State :=
  match s.bankPort b with
  | none => if s.is1 (R.GPIO_BANK_CFG_VCCIO_OK b) then s.setPad b (s.safePads b) else s
  | some (n, p) =>
    if !(s.sampleEdge n p) then s
    else
      let t := (s.samplePins n p).drivePins b n p
      if s.is1 (R.GPIO_BANK_CFG_VCCIO_OK b) then t else t.setPad b {}

/-! ## Dedicated pins (R497, R504) -/

/-- What the device puts on a dedicated pin (R504). -/
inductive PinLevel where
  | highZ | low | high
  deriving DecidableEq, Repr

/-- PORST_N or RESET_N is low. -/
def State.heldLow (s : State) : Bool := s.start.porLow || s.start.rstLow

/-- DONE (R408, R436, R504): high from STARTED, and low in SHUTDOWN. -/
def State.pinDone (s : State) : PinLevel := if s.is1 R.IMG_STATUS_STARTED && !s.isShutdown && !s.heldLow then .high else .low

/-- ALERT_N (R431, R504): an open drain that is low while ALERT is 1, under RESET_N too. -/
def State.pinAlert (s : State) : PinLevel := if s.is1 R.GB_STAT_ALERT && !s.start.porLow then .low else .highZ

/-- THROTTLE_REQ_N (R407, R504): an open drain that is low at level ASKED and above, and high-Z under either reset. -/
def State.pinThrottle (s : State) : PinLevel := if s.rd R.THERM_STAT_LEVEL ≠ 0 ∧ ¬ s.heldLow then .low else .highZ

/-- BOOT_RST_N (R504): high from step 6 of the start. -/
def State.pinBootRst (s : State) : PinLevel := if 6 ≤ s.rd R.START_STAT_STEP ∧ ¬ s.heldLow then .high else .low

/-- BOOT_CS_N (R211, R504): high-Z under either reset, else high outside reads; a read of the flash lies within one command (log entry 284). -/
def State.pinBootCs (s : State) : PinLevel := if s.heldLow then .highZ else .high

/-- FD_DQ and FD_DQS between transactions (R432, R504): driven only in read data phases, which lie within one command (log entry 284). -/
def State.pinFdData (_ : State) : PinLevel := .highZ

/-- SDc_RESET_N is held low (R504): under either reset and while channel c is OFF; else it is as JESD79-5 has it. -/
def State.sdResetLow (s : State) (c : Nat) : Bool := s.heldLow || s.rd (R.SD_CH_CTL_STATE c) == 0

/-! ## SDRAM module errors (R511) -/

/-- SD_ALERT (R511): the port of channel c retries the command that SDc_ALERT_N reports. -/
def execSdAlert (c : Fin 12) (s : State) : Host.Outcome State Fault Refusal := .next (s.quiet.emit (.sdRetry c.val))

end Sys2Proof.Machine
end

