-- ==== Sys2Proof/Machine/Power.lean ====
section
/-! DEFINITION. Power domains, the thermal model and the throttle (15_power_thermal.md, R386 to R410). -/

namespace Sys2Proof.Machine

/-! ## Requests (R388, R389) -/

/-- POWER_REQUEST (R388, R389): the host asks for domain d. -/
def execPowerRequest (ini : Ini) (d : Fin 112) (on : Bool) (s : State) : Host.Outcome State Fault Refusal :=
  let s := s.quiet
  .next (s.written ini (R.PWR_DOM_CTL_REQ d.val).off fun s => if on then s.requestOn d.val .host else s.requestOff d.val .host)

/-- A write to PWR_DOM_CTL[d] (R388 to R390; log entry 71): W1C and WAKE_EN; a REQ that differs, that withdraws a waiting
OFF, or that asks for a domain that closes or is OFF, is a request. -/
def wrPwrDom (s : State) (d : Nat) (v : BitVec 32) : State :=
  let s := s.w1cOnly (.PWR_DOM_CTL d) v
  let s := if d < 80 then s.wr (R.PWR_DOM_CTL_WAKE_EN d) ((R.PWR_DOM_CTL_WAKE_EN d).of v) else s
  let req := (R.PWR_DOM_CTL_REQ d).of v
  let holds := req = 0 ∨ s.dstate d = .on ∨ s.dstate d = .waking
  if req = s.rd (R.PWR_DOM_CTL_REQ d) ∧ (s.dom d).offWait.isEmpty ∧ holds then s
  else if req = 1 then s.requestOn d .host else s.requestOff d .host

/-! ## Reaching ON and OFF (R255, R256, R387) -/

/-- A held request is delivered (R255): to a region port, to the block RAM window, which checks it (R61, R235), or to the port of the domain, whose own
commands take it (log entry 215). -/
def State.deliverHeld (s : State) (e : ParkEntry) : State :=
  let s : State := { s with deliv := s.deliv ++ [⟨e.station, e.port, e.rq, false⟩] }
  if e.dom < 64 ∧ e.port < 4 then
    (if s.portMode e.dom e.port ≠ 0 then s.reply e.rq .decode else s.portInbound e.dom e.port e.rq)
  else if e.dom < 64 then
    match s.bramCheck e.rq.acc with
    | .inl code => s.reply e.rq code
    | .inr off => s.bramBegin e.rq off
  else s

/-- A domain that a die-local reset met while WAKING closes as soon as it is ON (R412). -/
def State.closeReset (s : State) (d : Nat) : State :=
  let s := if (s.dom d).onWait then s else s.clr (R.PWR_DOM_CTL_REQ d)
  (s.setDstate d .closing).setDom d { s.dom d with offWait := [] }

/-- Domain d reaches ON (R387): the requests held for it are delivered in order of arrival (R255); in a die-local reset they are answered DENIED
(R257). -/
def State.domainOn (s : State) (d : Nat) : State :=
  let s := s.setDstate d .on
  let s := if d < 64 then s.regionOn d else if 88 ≤ d then s.linkSettle (d - 88) else s
  let held := s.park.filter fun e => e.dom = d
  let s : State := { s with park := s.park.filter fun e => e.dom ≠ d }
  if (s.dom d).reset then (held.foldl (fun s e => s.reply e.rq .denied) s).closeReset d
  else
    let s := held.foldl State.deliverHeld s
    (s.dom d).offWait.foldl (fun s src => s.requestOff d src) (s.setDom d { s.dom d with offWait := [] })

/-- DOMAIN_ON (R255, R387, R389). -/
def execDomainOn (d : Fin 112) (s : State) : Host.Outcome State Fault Refusal :=
  let s := s.quiet
  if s.dstate d.val = .waking then .next (s.domainOn d.val) else .next s

/-- The planes of configuration domain j are lost (R91, R387): when it is ON again they are EMPTY. -/
def State.configLost (s : State) (j : Nat) : State :=
  let s := s.each (List.range 32) fun s i =>
    let n := 4 * j + i / 8
    ((s.setPlState n (i % 8) .empty).setPlTorn n (i % 8) false).erasePlane n (i % 8)
  { s with corrq := s.corrq.filter fun c => c.n / 4 ≠ j, walkq := s.walkq.filter fun c => c.n / 4 ≠ j,
           checks := s.checks.filter fun c => c.active || c.n / 4 ≠ j }

/-- The lines of larder quarter q are lost (R387): its slices' lines, misses and write-backs; a test of a slice ends ABORTED
(R457). -/
def State.quarterLost (s : State) (q : Nat) : State :=
  let s := s.each (List.range 16) fun s i => s.abortTestOf (.slice (16 * q + i))
  let mine := fun k : Nat => k / 16 == q
  let s := s.larder.lines.foldl (fun s e => match s.sliceOf (e.1 * 128) with
    | some k => if mine k then s.setLine e.1 none else s
    | none => s) s
  { s with larder := { s.larder with wbs := s.larder.wbs.filter fun w => !(mine w.slice)
                                     slices := s.larder.slices.filter fun e => !(mine e.1) } }

/-- What domain d holds is lost: it is OFF (R387). -/
def State.domainOff (s : State) (d : Nat) : State :=
  let s := (s.setDstate d .off).setDom d {}
  if d < 64 then (s.abortTestOf (.bram d)).regionOff d
  else if d < 80 then (s.abortTestOf (.config (d - 64))).configLost (d - 64)
  else if d < 88 then s.quarterLost (d - 80)
  else s.linkSettle (d - 88)

/-- DOMAIN_OFF (R255, R387): past its point of no return, domain d is OFF; with requests held a WAKE is sent, and it wakes again at once if they or a
request ON ask for it. -/
def execDomainOff (d : Fin 112) (s : State) : Host.Outcome State Fault Refusal :=
  let s := s.quiet
  let x := s.dom d.val
  if s.dstate d.val ≠ .closing || !x.pnr then .next s
  else
    let s := s.domainOff d.val
    let s := if s.park.any fun e => e.dom == d.val then s.sendWake d.val else s
    if !x.onWait then .next s
    else if s.is1 (R.PWR_DOM_CTL_REQ d.val) then .next (s.setDstate d.val .waking)
    else .next (s.wake d.val)

/-! ## Temperatures (R396 to R399) -/

/-- A temperature that a 12-bit field holds. -/
def clamp12 (v : Int) : Int := max (-2048) (min 2047 v)

/-- Model temperature of cell i = 32l + c, in 1/8 °C. -/
def State.modelTemp (s : State) (i : Nat) : Int := ofSigned 12 (s.rd (R.THERM_CELL_MODEL i))

/-- The sensor of cell i has failed (R398); L6 has none (R399). -/
def State.sensorBad (s : State) (i : Nat) : Bool := 192 ≤ i || s.bit (R.THERM_SENS_FAIL_FAILED (i / 32)) (i % 32)

/-- The temperature of a cell (R399): a sensor has a reading from the first round since PORST_N on, also after a device reset. -/
def State.cellTemp (s : State) (i : Nat) : Int :=
  let m := s.modelTemp i
  if s.sensorBad i then m + 80
  else if s.thermal.govRound.isSome then max m (ofSigned 16 (s.rd (R.HK_CHAN_VALUE i))) else m

/-- The cell with the highest temperature; among equals the first (log entry 72). -/
def State.hottest (s : State) : Nat :=
  (List.range 224).foldl (fun b i => if s.cellTemp b < s.cellTemp i then i else b) 0

/-- The governing temperature in 1/8 °C (R399). -/
def State.tGov (s : State) : Int := ofSigned 12 (s.rd R.THERM_STAT_T_GOV)

/-- T_gov is recomputed (R399). -/
def State.govern (s : State) : State :=
  let i := s.hottest
  ((s.wr R.THERM_STAT_T_GOV (signedBits 12 (clamp12 (s.cellTemp i)))).wr R.THERM_STAT_LAYER (i / 32)).wr R.THERM_STAT_CELL (i % 32)

/-! ## The throttle (R400 to R408) -/

/-- The node that sends thermal notices: the innkeeper (log entry 73). -/
def noticeNode : Nat := 0x004

/-- Reference cycles of a time in ms (R395). -/
def msCycles (ms : Nat) : Nat := 156250 * ms

/-- T_gov is at or above ASK_T. -/
def State.askReached (s : State) : Bool := decide (8 * (s.rd R.THERM_CTL_ASK_T : Int) ≤ s.tGov)

/-- T_gov lies below the release temperature of the level, and AVG keeps LIMIT where ASKED asks for it (R400, R405). -/
def State.mayRelax (s : State) : Bool :=
  let t := s.tGov
  let ask : Int := 8 * s.rd R.THERM_CTL_ASK_T
  match s.rd R.THERM_STAT_LEVEL with
  | 1 => decide (t < ask - 40) && decide (s.rd R.PWR_TOTAL_AVG ≤ s.rd R.PWR_LIMIT_LIMIT)
  | 2 => decide (t < ask - 40)
  | 3 => decide (t < 840)
  | _ => false

/-- Set the thermal block. -/
def State.setThermal (s : State) (t : Thermal) : State := { s with thermal := t }

/-- The notices of a change of level or step (R407). -/
def State.notices (s : State) (old : Nat) : State :=
  let lvl := s.rd R.THERM_STAT_LEVEL
  let t := s.tGov
  let s := s.logP (if lvl = 3 ∧ old < 3 then 2 else 1) .thermalLevel
    [old, lvl, signedBits 32 t, s.rd R.THERM_STAT_LAYER, s.rd R.THERM_STAT_CELL,
     if old = 0 then s.rd R.THERM_STAT_POWER_SRC else 0]
  if s.is1 R.THERM_NOTIFY_LO_NOTIFY_EN then
    let addr := 8 * s.rd R.THERM_NOTIFY_LO_ADDR + 2 ^ 32 * s.rd R.THERM_NOTIFY_HI_ADDR
    let data := leBytes 1 lvl ++ leBytes 1 (s.rd R.THERM_STAT_STEP) ++ leBytes 2 (signedBits 16 t) ++ leBytes 4 (s.tickCount % 2 ^ 32)
    let tag := s.freeTag noticeNode
    let s := s.sendReq noticeNode ⟨.wr, 0, 0, addr, 8, data, 0⟩
    s.setThermal { s.thermal with notices := s.thermal.notices ++ [tag] }
  else s

/-- The dwell, and the time at or above ASK_T in ENFORCED, count on while their condition holds, and start anew where it begins to hold (R401, R405). -/
def State.countDwell (s : State) : State :=
  let t := s.thermal
  let since := fun (b : Bool) (a : Option Nat) => if b then some (a.getD s.now) else none
  s.setThermal { t with coolAt := since s.mayRelax t.coolAt, hotAt := since (s.rd R.THERM_STAT_LEVEL == 2 && s.askReached) t.hotAt }

/-- Enter a level with a clock step (R400, R401): a grace time starts with ASKED, the dwell is counted anew (R405); NONE clears HOLD and POWER_SRC
(R406). -/
def State.setThrottle (s : State) (lvl step : Nat) : State :=
  let old := s.rd R.THERM_STAT_LEVEL
  let s := (s.wr R.THERM_STAT_LEVEL lvl).wr R.THERM_STAT_STEP step
  let s := (s.setThermal { s.thermal with graceAt := if lvl = 1 then some s.now else none, hotAt := none, coolAt := none }).countDwell
  let s := if lvl = 0 then (s.clr R.THERM_STAT_HOLD).clr R.THERM_STAT_POWER_SRC else s
  s.notices old

/-- Every GPIO bank that drives goes to its safe state (R408). -/
def State.allSafe (s : State) : State :=
  s.each (List.range 32) fun s b => if s.is1 (R.GPIO_BANK_CFG_VCCIO_OK b) then s.setPad b (s.safePads b) else s

/-- SHUTDOWN is entered (R408 steps 1 and 2): user clocks stop, banks go safe, transmitters idle, DONE is low, and the fatal event is
logged. -/
def State.shutdown (s : State) : State :=
  let s := (s.setThrottle 4 6).allSafe
  let s := s.each (List.range 24) fun s g => if s.lstate g = .off then s else s.linkStops g .off
  s.logP 3 .thermalShutdown []

/-- The throttle acts on a new T_gov (R400). -/
def State.throttle (s : State) : State :=
  let t := s.tGov
  let lvl := s.rd R.THERM_STAT_LEVEL
  if lvl = 4 then s
  else if 960 ≤ t then s.shutdown
  else if 880 ≤ t ∧ lvl < 3 then s.setThrottle 3 6
  else if s.askReached ∧ lvl = 0 then s.setThrottle 1 0
  else if s.askReached ∧ lvl = 1 then (s.setThermal { s.thermal with graceAt := some (s.thermal.graceAt.getD s.now) }).countDwell
  else s.countDwell

/-- A time has passed since an earlier reference cycle. -/
def State.passed (s : State) (since : Option Nat) (cycles : Nat) : Bool :=
  match since with
  | none => false
  | some t => decide (t + cycles ≤ s.now)

/-- GRACE_END (R400): GRACE_MS after its start, ENFORCED at step 1 if T_gov has reached ASK_T, else no grace time runs. -/
def execGraceEnd (s : State) : Host.Outcome State Fault Refusal :=
  let s := s.quiet
  if s.rd R.THERM_STAT_LEVEL ≠ 1 || !(s.passed s.thermal.graceAt (msCycles (s.rd R.THERM_CTL_GRACE_MS))) then .next s
  else if s.askReached then .next (s.setThrottle 2 1)
  else .next (s.setThermal { s.thermal with graceAt := none })

/-- CLOCK_STEP_RISE (R401, R407): 10 ms in ENFORCED during which T_gov stayed at or above ASK_T. -/
def execClockStepRise (s : State) : Host.Outcome State Fault Refusal :=
  let s := s.quiet
  if s.rd R.THERM_STAT_LEVEL = 2 && s.askReached && s.passed s.thermal.hotAt (msCycles 10) && s.rd R.THERM_STAT_STEP < 4 then
    .next (((s.wr R.THERM_STAT_STEP (s.rd R.THERM_STAT_STEP + 1)).setThermal { s.thermal with hotAt := some s.now }).notices 2)
  else .next s

/-- The dwell in ms (R405, R406): RELEASE_MS, and 1 s at least while HOLD is 1. -/
def State.dwellMs (s : State) : Nat :=
  let r := s.rd R.THERM_CTL_RELEASE_MS
  if s.is1 R.THERM_STAT_HOLD then max 1000 r else r

/-- DWELL_END (R401, R405): after its dwell the level relaxes by one; DEEP enters ENFORCED at step 4. -/
def execDwellEnd (s : State) : Host.Outcome State Fault Refusal :=
  let s := s.quiet
  if !s.mayRelax || !(s.passed s.thermal.coolAt (msCycles s.dwellMs)) then .next s
  else match s.rd R.THERM_STAT_LEVEL with
    | 3 => .next (s.setThrottle 2 4)
    | 2 => .next (s.setThrottle 1 0)
    | _ => .next (s.setThrottle 0 0)

/-- SHUTDOWN_POWER_OFF (R408 step 3): every switched domain goes OFF without closing; requests in flight to it are answered ABORTED. -/
def execShutdownPowerOff (s : State) : Host.Outcome State Fault Refusal :=
  let s := s.quiet
  if !s.isShutdown then .next s
  else .next (s.each (List.range 112) fun s d =>
    if s.dstate d = .off then s
    else
      let open' := s.unanswered d
      let s : State := { s with deliv := s.deliv.filter fun e => endpointDomain e.station e.port ≠ some d }
      let s := open'.foldl (fun s e => s.reply e.2 .aborted) s
      let s := if d < 64 then s.each (List.range 4) fun s p => s.setPort d p { s.port d p with inq := [] } else s
      (s.abortHeld d).domainOff d)

/-! ## Measurement (R393 to R398) -/

/-- The housekeeping channel of the supply of a monitored domain: the switched domains 0 to 111, the six transit domains, the L0 core (R34, R394; log
entry 252). -/
def supplyChannel (d : Nat) : Nat :=
  if d < 32 then 192 else if d < 64 then 193 else if d < 80 then 194 else if d < 88 then 195 else if d < 112 then 198 else 197

/-- The power of a monitored domain in mW (R393): its current in mA times the supply's voltage of the latest housekeeping round, in 0.1 mV. -/
def State.domainPower (s : State) (d ma : Nat) : Nat := ma * s.rd (R.HK_CHAN_VALUE (supplyChannel d)) / 10000

/-- MONITOR_INTERVAL (R393): the mean currents over 100 µs, in mA, of the switched domains, and of the six transit domains and the L0 core. -/
def execMonitorInterval (currents : List Nat) (others : List Nat) (s : State) : Host.Outcome State Fault Refusal :=
  if currents.length ≠ 112 ∨ others.length ≠ 7 then .fault (.illFormed "MONITOR_INTERVAL") else
  let s := s.quiet
  let powers := ((List.range 119).zip (currents ++ others)).map fun e => s.domainPower e.1 e.2
  let mw := powers.take 112
  let total := powers.sum
  let s := (List.range 112).foldl (fun s d => s.wr (R.PWR_DOM_MW_POWER d) (min (mw.getD d 0) (2 ^ 20 - 1))) s
  let totals := (total :: s.thermal.totals).take 100
  let avg := totals.sum / (100 * totals.length)
  let s := s.setThermal { s.thermal with totals := totals, powers := powers }
  let s := (s.wr R.PWR_TOTAL_NOW (min (total / 100) 0xFFFF)).wr R.PWR_TOTAL_AVG (min avg 0xFFFF)
  if 100 * s.rd R.PWR_LIMIT_LIMIT * totals.length < totals.sum then
    let s := s.set1 R.PWR_LIMIT_OVER
    if s.rd R.THERM_STAT_LEVEL = 0 then .next ((s.set1 R.THERM_STAT_POWER_SRC).setThrottle 1 0) else .next s.countDwell
  else .next s.countDwell

/-- The sensor of cell i is judged with a reading (R398, R406): a new failure is logged, and sets HOLD where it governed. -/
def State.judgeSensor (s : State) (i : Nat) (r : Int) : State :=
  let prev := ofSigned 16 (s.rd (R.HK_CHAN_VALUE i))
  let far := fun (a b : Int) (k : Int) => decide (k < a - b) || decide (k < b - a)
  let bad := far r (s.modelTemp i) 120 || (s.thermal.govRound.isSome && far r prev 80) || decide (r < -440) || decide (1200 < r)
  if !bad || s.sensorBad i then s
  else
    let s := (s.setBit (R.THERM_SENS_FAIL_FAILED (i / 32)) (i % 32)).set1 (R.THERM_CELL_FAILED i)
    let s := s.log .thermSensorFail [i / 32, i % 32, signedBits 32 r]
    if 2 ≤ s.rd R.THERM_STAT_LEVEL ∧ s.thermal.govRound = some (i / 32, i % 32) then s.set1 R.THERM_STAT_HOLD else s

/-- The cells of a layer whose sensors have not failed. -/
def State.goodCells (s : State) (l : Nat) : List Nat := ((List.range 32).map (32 * l + ·)).filter fun i => !(s.sensorBad i)

/-- The lid estimate moves toward the sensors (R397): at most 0.5 °C a round, in whole 1/8 °C (log entry 74). -/
def State.moveLid (s : State) : State :=
  let cells := ([5, 4, 0].map s.goodCells).find? (· ≠ [])
  match cells with
  | none => s
  | some cs =>
    let diff := (cs.map fun i => ofSigned 16 (s.rd (R.HK_CHAN_VALUE i)) - s.modelTemp i).sum / cs.length
    s.setThermal { s.thermal with lid := s.thermal.lid + max (-4) (min 4 diff) }

/-- One channel takes its reading (R394): channels 203 to 207 stay not VALID. -/
def State.takeChannel (s : State) (ch v : Nat) : State :=
  if 203 ≤ ch ∧ ch < 208 then s
  else
    let s := (s.wr (R.HK_CHAN_VALUE ch) v).set1 (R.HK_CHAN_VALID ch)
    if ch < 192 then s.wr (R.THERM_CELL_SENSOR ch) (signedBits 12 (clamp12 (ofSigned 16 v))) else s

/-- At the first round after a device reset no sensor is marked failed (R398, log entry 216). -/
def State.readmitAll (s : State) : State :=
  if !s.thermal.rejudge then s
  else
    let s := s.each (List.range 192) fun s i => (s.wrb ⟨(R.THERM_SENS_FAIL_FAILED (i / 32)).off, i % 32, 1, 0⟩ false).clr (R.THERM_CELL_FAILED i)
    s.setThermal { s.thermal with rejudge := false }

/-- HK_ROUND (R394, R397 to R400, R406, R506): the 256 readings of a round, by channel. -/
def execHkRound (values : List (BitVec 16)) (s : State) : Host.Outcome State Fault Refusal :=
  if values.length ≠ 256 then .fault (.illFormed "HK_ROUND") else
  let s := s.quiet
  let v := fun ch => (values.getD ch 0).toNat
  let s := s.readmitAll.each (List.range 192) fun s i => s.judgeSensor i (ofSigned 16 (v i))
  let s := s.each (List.range 256) fun s ch => s.takeChannel ch (v ch)
  let s := (s.each (List.range 32) State.judgeVccio).moveLid.govern
  let s := s.setThermal { s.thermal with govRound := some (s.rd R.THERM_STAT_LAYER, s.rd R.THERM_STAT_CELL) }
  .next s.throttle

/-- The heat of cell i = 32l + c in 1/8 mW (R396): a region's power goes to its cell of L1 or L2, a configuration domain's in equal parts to the L3
cells above its four regions, a larder quarter's to its eight cells of L4 or L5 (log entry 253), the rest by fused maps. -/
def State.cellHeat (s : State) (i : Nat) : Nat :=
  let c := i % 32
  let p := fun d => s.thermal.powers.getD d 0
  let own := match i / 32 with
    | 1 => 8 * p c
    | 2 => 8 * p (32 + c)
    | 3 => 2 * (p (64 + c / 4) + p (72 + c / 4))
    | 4 => p (80 + c / 8)
    | 5 => p (84 + c / 8)
    | _ => 0
  own + (if i < 192 then Config.fusedHeat i (s.thermal.powers.drop 88) else 0)

/-- The cells next to cell i in its layer: column c mod 8, row c div 8 (R396). -/
def nearCells (i : Nat) : List Nat :=
  let c := i % 32
  (if 8 ≤ c then [i - 8] else []) ++ (if c < 24 then [i + 8] else []) ++ (if c % 8 = 0 then [] else [i - 1]) ++ (if c % 8 = 7 then [] else [i + 1])

/-- The model temperature of cell i after a step (R396): from its neighbours, the cells below and above, the lid above L6, and its heat. -/
def State.cellNext (s : State) (i : Nat) : Int :=
  let below := if i < 32 then [] else [s.modelTemp (i - 32)]
  let above := if i < 192 then s.modelTemp (i + 32) else s.thermal.lid
  clamp12 (Config.cellStep i (s.modelTemp i) ((nearCells i).map s.modelTemp) (below ++ [above]) (s.cellHeat i))

/-- MODEL_STEP (R396, R399): the model advances by 100 µs; its conductances are free (log entry 4). -/
def execModelStep (s : State) : Host.Outcome State Fault Refusal :=
  let s := s.quiet
  let new := s.cellNext
  let s := s.each (List.range 224) fun s i => s.wr (R.THERM_CELL_MODEL i) (signedBits 12 (new i))
  .next s.govern.throttle

/-! ## Accesses (R398, R406, R407) -/

/-- A write to THERM_SENS_FAIL[l] (R398): each 1 readmits a sensor. -/
def wrSensFail (s : State) (l : Nat) (v : BitVec 32) : State :=
  (s.w1c (R.THERM_SENS_FAIL_FAILED l) v).each (indicesWith 32 v.toNat.testBit) fun s c => s.clr (R.THERM_CELL_FAILED (32 * l + c))

/-- SENSOR_READMIT (R398). -/
def execSensorReadmit (ini : Ini) (l : Fin 6) (value : BitVec 32) (s : State) : Host.Outcome State Fault Refusal :=
  .next (s.quiet.written ini (R.THERM_SENS_FAIL_FAILED l.val).off fun s => wrSensFail s l.val value)

/-- The initiator holds FULL authority on the debug endpoint (R406, R474): the session bound at node 0x007 is FULL and bound to it, or it
is the debug initiator, whose writes need FULL. -/
def State.holdsFull (s : State) (ini : Ini) : Bool :=
  (s.is1 R.DBG_SESSION_STAT_OLI_BOUND && s.dlevel .olicor == 2 && ini.dev == s.rd R.DBG_SESSION_STAT_OLI_DEV &&
    ini.node == s.rd R.DBG_SESSION_STAT_OLI_NODE) ||
  (ini == ⟨s.rd R.NET_CFG_DEV_NUM, 0x007⟩)

/-- RELEASE_HOLD (R406): FULL authority clears HOLD; any other write is answered DENIED. -/
def execReleaseHold (ini : Ini) (s : State) : Host.Outcome State Fault Refusal :=
  let s := s.quiet
  .next (if s.holdsFull ini then s.written ini R.THERM_STAT_HOLD.off fun s => s.clr R.THERM_STAT_HOLD else s.deniedWrite ini)

/-- NOTIFY_ANSWER (R407): an answer other than OK to a notice is logged. -/
def execNotifyAnswer (tag : BitVec 8) (a : Answer) (s : State) : Host.Outcome State Fault Refusal :=
  let s := s.quiet
  if !(s.thermal.notices.contains tag.toNat) then .next s
  else match s.takeAnswer noticeNode tag.toNat a with
    | none => .next s
    | some s =>
      let s := s.setThermal { s.thermal with notices := s.thermal.notices.erase tag.toNat }
      .next (if a.code = .ok then s else s.log .thermNotifyFail [a.code.code])

end Sys2Proof.Machine
end

