-- ==== Sys2Proof/Machine/Journal.lean ====
section
/-! DEFINITION. The journal: its sectors and their wear, and the writes that it performs one at a time
(16_start_journal_front_desk.md, R418 to R421, R429 to R431). -/

namespace Sys2Proof.Machine

/-! ## Sectors (R418, R420) -/

/-- The header of physical sector p: sectors 0 to 255 start as the logical sectors 0 to 255, the others as free spares (R418). -/
def State.jsec (s : State) (p : Nat) : JSector :=
  (storeGet none p s.jnl.sectors).getD (if p < 256 then ⟨p, 0, 0⟩ else ⟨0xFFFF, 0, 0⟩)

/-- Write the header of physical sector p. -/
def State.setJsec (s : State) (p : Nat) (x : JSector) : State :=
  { s with jnl := { s.jnl with sectors := storeSet none p (some x) s.jnl.sectors } }

/-- The physical sector that holds logical sector l: the one that names it with the highest GEN (R418). -/
def State.physOf (s : State) (l : Nat) : Option Nat :=
  (List.range 272).foldl (fun b p =>
    if (s.jsec p).logical = l then
      match b with
      | some q => if (s.jsec q).gen < (s.jsec p).gen then some p else b
      | none => some p
    else b) none

/-- Record writes at which a sector is worn (R420). -/
def wearLimit : Nat := 976562500 * 1024

/-- The free spare sectors. -/
def State.jspares (s : State) : List Nat := (List.range 272).filter fun p => (s.jsec p).logical == 0xFFFF
/-- The retired sectors. -/
def State.jretired (s : State) : List Nat := (List.range 272).filter fun p => (s.jsec p).logical == 0xFFFE

/-- JNL_STAT and JNL_WEAR_MAX as the sectors stand (R418, R420). -/
def State.showSectors (s : State) : State :=
  let wear := (List.range 272).foldl (fun b p =>
    if (s.jsec p).logical < 256 then max b ((s.jsec p).writes / 1024) else b) 0
  ((s.wr R.JNL_STAT_SPARES_LEFT s.jspares.length).wr R.JNL_STAT_RETIRED s.jretired.length).wr R.JNL_WEAR_MAX_WEAR wear

/-- A repair or map-out record that is not written (R297, R461): who asked for it shows NOT_SAVED. -/
def State.notSaved (s : State) (w : JWrite) : State :=
  match w.src with
  | .test e | .startTest e => s.set1 (R.TEST_STAT_NOT_SAVED e)
  | .porter d => (s.set1 (R.PROT_HARD_NOT_SAVED d)).log .memRepairNotSaved []
  | .device | .desk | .stackTest => s

/-- Every record write that waits is refused (R420). -/
def State.refuseWrites (s : State) : State :=
  s.jnl.queue.foldl State.notSaved { s with jnl := { s.jnl with queue := [] } }

/-- A FATAL event that waits freezes the guestbook that a read-only journal keeps (R420, R430): those behind it are lost. -/
def State.freezeKept (s : State) : State :=
  match s.gbq.findIdx? fun e => decide (3 ≤ e.prio) with
  | none => s
  | some i => (({ s with gbq := s.gbq.take (i + 1) } : State).set1 R.GB_STAT_FROZEN).bumpN R.GB_STAT_LOST (s.gbq.length - (i + 1))

/-- The journal becomes read-only (R420): every write that waits is refused, the front desk's with DETAIL JOURNAL_RO, and the alarm
JOURNAL_READ_ONLY is raised. -/
def State.jnlLocks (s : State) : State :=
  let s := ((s.set1 R.JNL_STAT_READ_ONLY).freezeKept).refuseWrites
  (if s.desk.wait = some .journal then s.deskEnd false 5 else s).alarm 2

/-- A sector has reached its limit (R420): a free spare takes its place with GEN + 1 and its standing records; with none left, the
journal becomes read-only. -/
def State.retireSector (s : State) (l p : Nat) : State :=
  match s.jspares with
  | [] => s.jnlLocks
  | q :: _ =>
    let x := s.jsec p
    let copied := (s.jnl.recs.filter fun r => r.at' / 256 == l).length
    let s := (s.setJsec q ⟨l, x.gen + 1, (s.jsec q).writes + copied⟩).setJsec p { x with logical := 0xFFFE }
    s.log .jnlSectorRetired []

/-- One record write to logical sector l is counted (R418, R420). -/
def State.wearSector (s : State) (l : Nat) : State :=
  match s.physOf l with
  | none => s
  | some p =>
    let x := s.jsec p
    let s := s.setJsec p { x with writes := x.writes + 1 }
    (if x.writes + 1 < wearLimit then s else s.retireSector l p).showSectors

/-! ## Writes (R419, R427 to R430) -/

/-- The guestbook ring keeps the latest 4,096 records (R429). -/
def State.trimRing (s : State) : State :=
  let isEvent : JRec → Bool := fun r => match r.body with | .event _ => true | _ => false
  if (s.jnl.recs.filter isEvent).length ≤ 4096 then s
  else { s with jnl := { s.jnl with recs := s.jnl.recs.eraseP isEvent } }

/-- Before a slot that holds a standing record is overwritten, a copy of it is written to a slot ahead (R419): a record write of its own, with its SEQ
and its wear. In a group full of standing records there is none, and the record is lost (log entry 278). -/
def State.copyForward (s : State) (b : JBody) : State :=
  match (s.recAt (s.placeOf b)).filter fun r => standing r.body with
  | none => s
  | some r =>
    match s.slotAhead (recGroup b) with
    | none => s
    | some a => (s.putAt r.body a).wearSector (a / 256)

/-- One record is written whole (R419). -/
def State.putRecord (s : State) (b : JBody) : State :=
  let s := s.copyForward b
  (s.jnlWrite b).wearSector (s.placeOf b / 256)

/-- What a written record changes in the registers (R206, R421, R430, R462). -/
def State.recordShown (s : State) : JBody → State
  | .counter i v => if i = 0 then (s.wr (R.JNL_CNT_VALUE i) v).wr R.IMG_SEC_FLOOR_FLOOR v else s.wr (R.JNL_CNT_VALUE i) v
  | .freeze on => s.wrb R.GB_STAT_FROZEN on
  | .soft _ | .burned _ => s.wr R.REPAIR_STAT_SOFT (min 2047 s.softRecs.length)
  | .settings _ | .itin _ | .mapout _ | .cleared _ | .stackTest _ | .keySlot _ _ _ _ | .event _ | .user _ _ _ => s

/-- The front desk's command has its record, and ends with the last of them (R434). -/
def State.deskWritten (s : State) (b : JBody) : State :=
  let s := match b with
    | .counter _ v => s.setDesk { s.desk with result := leBytes 4 v }
    | _ => s
  if s.jnl.queue.any (·.fd) then s.setDesk { s.desk with part := true } else s.deskEnd true 0

/-- Step 5 counts the field map-outs that it has written (R425). -/
def State.countMapout (s : State) (w : JWrite) : State :=
  match w.src, w.body with
  | .startTest _, .mapout _ | .stackTest, .mapout _ => { s with start := { s.start with mapouts := s.start.mapouts + 1 } }
  | _, _ => s

/-- A waiting record is written; `rest` waits on. -/
def State.writeOne (s : State) (w : JWrite) (rest : List JWrite) : State :=
  let s : State := { s with jnl := { s.jnl with queue := rest } }
  let s := ((s.putRecord w.body).recordShown w.body).countMapout w
  if w.fd then s.deskWritten w.body else s

/-- The END record of step 6 and the BEGIN record of step 7, which follows a committed start image (R424). -/
def commitPair (w v : JWrite) : Bool :=
  match w.body, v.body with
  | .itin a, .itin b => a.step == 6 && a.phase == 1 && a.outcome == 0 && b.step == 7 && b.phase == 0
  | _, _ => false

/-- The oldest waiting record is written. The END of step 6 and the BEGIN of step 7 go together, so that no log shows the commit of a start image
without the step that follows it (R424, log entry 279). -/
def State.writeRecord (s : State) (w : JWrite) : List JWrite → State
  | [] => s.writeOne w []
  | v :: vs =>
    let s := s.writeOne w (v :: vs)
    if commitPair w v && !s.jnlRO then s.writeOne v vs else s

/-- The oldest guestbook event is written (R429); a FATAL one freezes the guestbook: the freeze is recorded with it, and what waits behind it is lost
(R430). -/
def State.writeEvent (s : State) (e : GbEntry) (rest : List GbEntry) : State :=
  let q := s.jnl.queue.map fun w => { w with ahead := w.ahead - 1 }
  let s : State := { s with gbq := rest, jnl := { s.jnl with queue := q } }
  let s := ((s.putRecord (.event e)).trimRing).incr R.GB_STAT_COUNT
  if e.prio < 3 then s
  else
    let s := (s.set1 R.GB_STAT_FROZEN).bumpN R.GB_STAT_LOST s.gbq.length
    let q := s.jnl.queue.map fun w => { w with ahead := 0 }
    let s : State := { s with gbq := [], jnl := { s.jnl with queue := q } }
    if s.jnlRO then s else s.putRecord (.freeze true)

/-- The next write of the journal, in order of request (R419): a record, or a guestbook event. A read-only journal writes nothing. -/
def State.jnlNext (s : State) : State :=
  if s.jnlRO then s
  else
    match s.jnl.queue, s.gbq with
    | w :: ws, e :: es => if w.ahead = 0 then s.writeRecord w ws else s.writeEvent e es
    | w :: ws, [] => s.writeRecord w ws
    | [], e :: es => s.writeEvent e es
    | [], [] => s

/-- JOURNAL_WRITE_COMPLETE (R419): a two-phase record write completes. Records are written once step 3 has built the logical map
(R415). -/
def execJournalWriteComplete (s : State) : Host.Outcome State Fault Refusal :=
  let s := s.quiet
  if s.rd R.START_STAT_STEP < 4 || s.inReset then .next s else .next s.jnlNext

/-! ## GB_STAT (R431) -/

/-- A write to GB_STAT (R431). -/
def wrGbStat (s : State) (v : BitVec 32) : State := s.storeReg .GB_STAT v

/-- ALERT_CLEAR (R12, R431): writing 1 to ALERT clears it; an alert that arrives in the same cycle is a command of its own that
follows. -/
def execAlertClear (ini : Ini) (s : State) : Host.Outcome State Fault Refusal :=
  .next (s.quiet.written ini R.GB_STAT_COUNT.off fun s => wrGbStat s (BitVec.ofNat 32 (2 ^ 30)))

end Sys2Proof.Machine
end

