-- ==== Sys2Proof/Machine/Security.lean ====
section
/-! DEFINITION. Life cycle, image keys, the random source and alarms (17_security_life_cycle.md, R437 to R452). -/

namespace Sys2Proof.Machine

/-! ## Who writes (R283, R441) -/

/-- A host initiator (R283): on another device, or node 0x004, 0x005 or 0x006 of this one. -/
def State.hostNode (s : State) (ini : Ini) : Bool :=
  ini.dev ≠ s.rd R.NET_CFG_DEV_NUM || ini.node == 4 || ini.node == 5 || ini.node == 6

/-- What counts as a host initiator for R438 and R449: a debug initiator write with FULL authority does too (R474). -/
def State.isHost (s : State) (ini : Ini) : Bool := s.hostNode ini || s.holdsFull ini

/-- A region, a sequencer thread or a courier of this device: its writes to the security block are answered DENIED (R441). -/
def State.fromInside (s : State) (ini : Ini) : Bool :=
  ini.dev == s.rd R.NET_CFG_DEV_NUM &&
  ((List.range 256).any (fun i => regionNode (i / 4) (i % 4) == ini.node) || (List.range 4).any (fun t => threadNode t == ini.node) ||
   (List.range 32).any (fun c => courierNode c == ini.node))

/-- The life-cycle state (R437): 0 BLANK, 1 VENDOR_TEST, 2 PROVISIONED, 3 DEPLOYED, 4 RETURNED, 5 SCRAPPED. -/
def State.lc (s : State) : Nat := s.lcFuses.lc

/-- Set the life-cycle and key fuses. -/
def State.setFuses (s : State) (f : SecFuses) : State := { s with lcFuses := f }
/-- Set the security block. -/
def State.setSec (s : State) (x : Sec) : State := { s with sec := x }

/-! ## Life cycle (R438, R439) -/

/-- Whether an advance from the present state to target is one of R438's, from an initiator that may ask for it. -/
def State.advanceOk (s : State) (ini : Ini) (target : Nat) : Bool :=
  let host := s.isHost ini
  let full := s.holdsFull ini
  match s.lc, target with
  | 0, 1 => host && s.is1 R.RNG_STAT_HEALTHY
  | 1, 2 => host
  | 2, 3 => if s.lcFuses.dbgKey.isSome then full else host
  | 2, 4 => full
  | 3, 4 => full
  | 3, 5 => full
  | 0, 5 | 1, 5 | 2, 5 | 4, 5 => host
  | _, _ => false

/-- A write to LC_CTL (R438; log entry 82): a write of zeros to CONFIRM, CAP and TARGET asks for nothing. -/
def wrLcCtl (s : State) (ini : Ini) (v : BitVec 32) : State :=
  let s := s.w1cOnly .LC_CTL v
  let target := R.LC_CTL_TARGET.of v
  let cap := R.LC_CTL_CAP.of v
  let confirm := R.LC_CTL_CONFIRM.of v
  if target = 0 ∧ cap = 0 ∧ confirm = 0 then s
  else if confirm ≠ 0x4C43 || s.is1 R.LC_CTL_BUSY || s.imgBusy || s.is1 R.LC_STATE_LOCKED || !(s.advanceOk ini target) then
    s.set1 R.LC_CTL_ERR
  else (s.set1 R.LC_CTL_BUSY).setSec { s.sec with advance := some (target, cap == 1) }

/-- LC_ADVANCE (R438, R441). -/
def execLcAdvance (ini : Ini) (value : BitVec 32) (s : State) : Host.Outcome State Fault Refusal :=
  let s := s.quiet
  if s.fromInside ini then .next (s.deniedWrite ini) else .next (s.written ini R.LC_CTL_TARGET.off fun s => wrLcCtl s ini value)

/-- The fuse and erase effects of an advance, in the order of R438; fuses are burned and never cleared, so a state is never lowered (R437). -/
def State.advanced (s : State) (target : Nat) (cap : Bool) : State :=
  let f := s.lcFuses
  match target with
  | 1 => (s.setFuses { f.burnLc 1 with kek := some s.fresh }).drawn
  | 2 => ((s.setFuses { f.burnLc 2 with epoch := nextEpoch f.epoch }).voidSlots).dropSessions
  | 3 => s.setFuses { f.burnLc 3 with cap := f.cap || cap }
  | 4 => (s.setFuses (f.burnLc 4)).respond 4
  | _ =>
    let s := (s.setFuses (f.burnLc 5)).respond 4
    s.setFuses { s.lcFuses with kekDead := true }

/-- The highest number of a list. -/
def highest (rs : List Nat) : Nat := rs.foldl max 0

/-- LC_ADVANCED (R438, R451): the advance is complete and logged; alarms that were raised meanwhile act, the highest response once. -/
def execLcAdvanced (s : State) : Host.Outcome State Fault Refusal :=
  let s := s.quiet
  match s.sec.advance with
  | none => .next s
  | some (target, cap) =>
    let s := ((s.advanced target cap).log .lcAdvanced []).clr R.LC_CTL_BUSY
    let due := s.sec.alarms
    .next ((s.setSec { s.sec with advance := none, alarms := [] }).respond (highest due))

/-- Step 2 applies the erasures of the state that it reads again (R439): an ERASE whose kill fuse is not burned was cut short, and is done, its epoch
fuse included; SCRAPPED burns out the key-encryption key (log entry 283). -/
def State.reErase (s : State) : State :=
  let f := s.lcFuses
  let done := if f.killed then f else erasedFuses f
  if f.lc = 4 then s.setFuses done
  else if f.lc = 5 then s.setFuses { done with kekDead := true }
  else s

/-! ## Image-key slots (R442 to R444) -/

/-- The state of slot k: 0 EMPTY, 1 ACTIVE, 2 REVOKED (KEY_SLOT_STAT). -/
def State.slotState (s : State) (k : Nat) : Nat := (s.rd R.KEY_SLOT_STAT_SLOTS >>> (2 * k)) % 4

/-- Set the state of slot k. -/
def State.setSlotState (s : State) (k x : Nat) : State :=
  let old := s.rd R.KEY_SLOT_STAT_SLOTS
  s.wr R.KEY_SLOT_STAT_SLOTS ((old ^^^ (old &&& (3 <<< (2 * k)))) ||| (x <<< (2 * k)))

/-- The key-encryption key (R438); none: burned out. -/
def State.kek (s : State) : Option Nat := if s.lcFuses.kekDead then none else s.lcFuses.kek.map Config.kek

/-- The key of an ACTIVE slot (R443): the one in volatile storage, or unwrapped now; none: its integrity check fails. -/
def State.slotKey (s : State) (k : Nat) : Option Nat :=
  if s.sec.unusable.contains k then none
  else
    match storeGet none k s.sec.unwrapped with
    | some key => some key
    | none =>
      match s.kek, storeGet none k s.sec.slots with
      | some kek, some blob => kwUnwrap kek blob
      | _, _ => none

/-- A wrapped key fails its integrity check (R443): its slot is unusable until the next start, and KEY_UNWRAP is raised. -/
def State.slotFails (s : State) (k : Nat) : State :=
  (s.setSec { s.sec with unusable := if s.sec.unusable.contains k then s.sec.unusable else s.sec.unusable ++ [k] }).alarm 5

/-- Slot k changes (R444): a record of it is asked for, and the change is logged. -/
def State.changeSlot (s : State) (k st blob : Nat) : State :=
  let s := s.setSec { s.sec with slots := storeSet none k (some blob) s.sec.slots,
                                 unwrapped := storeSet none k none s.sec.unwrapped }
  ((s.setSlotState k st).jnlAsk (.keySlot k st s.lcFuses.epoch blob) false).log .keySlotChanged [k, st]

/-- A command that the life-cycle state bars (R440): it is answered DENIED. -/
def State.keyBarred (s : State) (cmd : Nat) : Bool :=
  match cmd with
  | 1 => !(s.lc == 1 || s.lc == 2 || s.lc == 4)
  | 2 | 3 => s.lc == 0 || s.lc == 5
  | 4 => s.lc ≠ 2
  | _ => false

/-- The condition of a command (R444); a REVOKED slot stays so, and takes no key (log entry 85). -/
def State.keyCondition (s : State) (cmd slot parent : Nat) : Bool :=
  match cmd with
  | 1 => s.slotState slot ≠ 2
  | 2 => s.slotState parent == 1 && s.slotState slot ≠ 2 && (s.lc ≠ 3 || s.slotState slot == 0)
  | 3 => s.slotState slot == 1
  | 4 => s.lcFuses.dbgKey.isNone
  | _ => true

/-- KEY_IN as one little-endian number of n words. -/
def State.keyIn (s : State) (n : Nat) : Nat :=
  (List.range n).foldl (fun a i => a + s.rd (R.KEY_IN_DATA i) * 2 ^ (32 * i)) 0

/-- A write to KEY_CMD (R444); an image load names its slot once its header is in. -/
def wrKeyCmd (s : State) (v : BitVec 32) : State :=
  let s := s.storeReg .KEY_CMD v
  let cmd := R.KEY_CMD_CMD.of v
  let slot := R.KEY_CMD_SLOT.of v
  let parent := R.KEY_CMD_PARENT.of v
  if cmd = 0 ∨ 4 < cmd then s
  else if s.is1 R.KEY_CMD_BUSY || s.is1 R.LC_STATE_LOCKED || s.is1 R.LC_STATE_SLOTS_BARRED || (s.jnlRO && cmd ≠ 4) ||
      (s.imgBusy && s.istate != .header && (s.img.slot == slot || s.img.slot == parent)) || !(s.keyCondition cmd slot parent) then s.set1 R.KEY_CMD_ERR
  else
    let key := s.keyIn (if cmd = 2 then 10 else 8)
    let s := s.each (List.range 10) fun s i => s.clr (R.KEY_IN_DATA i)
    (s.set1 R.KEY_CMD_BUSY).setSec { s.sec with keyCmd := some (cmd, slot, parent, key) }

/-- The register value of a key command. -/
def keyValue (cmd parent slot : Nat) : BitVec 32 := BitVec.ofNat 32 (cmd + 2 ^ 8 * slot + 2 ^ 16 * parent)

/-- A write of a key command by an initiator (R440, R441, R444): one that the life cycle bars is answered DENIED, and sets ERR. -/
def State.keyWrite (s : State) (ini : Ini) (v : BitVec 32) : State :=
  if s.fromInside ini then s.deniedWrite ini
  else if s.keyBarred (R.KEY_CMD_CMD.of v) then (s.deniedWrite ini).set1 R.KEY_CMD_ERR
  else s.written ini R.KEY_CMD_CMD.off fun s => wrKeyCmd s v

/-- LOAD_PLAIN (R444). -/
def execLoadPlain (ini : Ini) (parent slot : Fin 8) (s : State) : Host.Outcome State Fault Refusal :=
  .next (s.quiet.keyWrite ini (keyValue 1 parent.val slot.val))
/-- LOAD_WRAPPED (R444). -/
def execLoadWrapped (ini : Ini) (parent slot : Fin 8) (s : State) : Host.Outcome State Fault Refusal :=
  .next (s.quiet.keyWrite ini (keyValue 2 parent.val slot.val))
/-- REVOKE (R444). -/
def execRevoke (ini : Ini) (parent slot : Fin 8) (s : State) : Host.Outcome State Fault Refusal :=
  .next (s.quiet.keyWrite ini (keyValue 3 parent.val slot.val))
/-- DEBUG_KEY_SET (R444). -/
def execDebugKeySet (ini : Ini) (parent slot : Fin 8) (s : State) : Host.Outcome State Fault Refusal :=
  .next (s.quiet.keyWrite ini (keyValue 4 parent.val slot.val))

/-- The wrapping of a key under the key-encryption key (R442). -/
def State.wrapped (s : State) (key : Nat) : Nat := kwWrap (s.kek.getD 0) key

/-- LOAD_WRAPPED ends (R444): the key is unwrapped under PARENT's; a failure sets ERR and raises KEY_UNWRAP. -/
def State.loadWrapped (s : State) (slot parent blob : Nat) : State :=
  match s.slotKey parent with
  | none => (s.set1 R.KEY_CMD_ERR).slotFails parent
  | some pk =>
    match kwUnwrap pk blob with
    | none => (s.set1 R.KEY_CMD_ERR).alarm 5
    | some key => s.changeSlot slot 1 (s.wrapped key)

/-- KEY_CMD_COMPLETE (R444). -/
def execKeyCmdComplete (s : State) : Host.Outcome State Fault Refusal :=
  let s := s.quiet
  match s.sec.keyCmd with
  | none => .next s
  | some (cmd, slot, parent, key) =>
    let s := ((s.setSec { s.sec with keyCmd := none }).clr R.KEY_CMD_BUSY).set1 R.KEY_CMD_DONE
    match cmd with
    | 1 => .next (s.changeSlot slot 1 (s.wrapped key))
    | 2 => .next (s.loadWrapped slot parent key)
    | 3 => .next (s.changeSlot slot 2 ((storeGet none slot s.sec.slots).getD 0))
    | _ => .next (s.setFuses { s.lcFuses with dbgKey := some key })

/-! ## The random source (R446, R447) -/

/-- RNG_TEST_WINDOW (R447; log entry 83). -/
def execRngTestWindow (good : Bool) (s : State) : Host.Outcome State Fault Refusal :=
  let s := s.quiet
  let x := s.sec
  if good then
    let s := s.setSec { x with badWins := 0, goodWins := min 3 (x.goodWins + 1) }
    .next (if 2 ≤ x.goodWins then s.set1 R.RNG_STAT_HEALTHY else s)
  else
    let s := (s.setSec { x with badWins := min 3 (x.badWins + 1), goodWins := 0 }).bump R.RNG_STAT_FAILS
    .next (if x.badWins = 2 then (s.clr R.RNG_STAT_HEALTHY).alarm 3 else s)

/-- DRBG_RESEED (R446, R447): a source that is not HEALTHY does not reseed. -/
def execDrbgReseed (s : State) : Host.Outcome State Fault Refusal :=
  let s := s.quiet
  .next (if s.is1 R.RNG_STAT_HEALTHY then s.setSec { s.sec with reseeds := s.sec.reseeds + 1 } else s)

/-- RNG_OUT_READ (R446, R447): 32 fresh random bits, or 0 while the source is FAILED. -/
def execRngOutRead (ini : Ini) (s : State) : Host.Outcome State Fault Refusal :=
  let s := s.quiet
  if s.is1 R.RNG_STAT_HEALTHY then .next (s.shown ini R.RNG_OUT_VALUE.off s.rngWord State.drawn)
  else .next (s.shown ini R.RNG_OUT_VALUE.off 0 id)

/-- CHALLENGE_BLOCK_END (R445): 10 s after the fourth wrong response challenges are issued again. The count of wrong responses stays:
only a correct response and a power-on reset clear it. -/
def execChallengeBlockEnd (s : State) : Host.Outcome State Fault Refusal := .next (s.quiet.clr R.DBG_AUTH_BLOCKED)

/-! ## Alarms (R448, R449) -/

/-- The lowest RESP of alarm a (R448). -/
def respMinimum : Nat → Nat
  | 2 => 1 | 3 => 1 | 5 => 1 | 6 => 2 | _ => 0

/-- A write to ALARM_CFG[a] (R448, R449): a higher RESP from a host initiator; a lower one, or one below the minimum, from FULL authority alone (log
entry 84). -/
def wrAlarmCfg (s : State) (ini : Ini) (a : Nat) (v : BitVec 32) : State :=
  let s := s.w1cOnly (.ALARM_CFG a) v
  let r := (R.ALARM_CFG_RESP a).of v
  let old := s.rd (R.ALARM_CFG_RESP a)
  if r = old ∨ 4 < r then s
  else if (respMinimum a ≤ r && decide (old < r) && s.isHost ini) || s.holdsFull ini then s.wr (R.ALARM_CFG_RESP a) r
  else s.set1 (R.ALARM_CFG_CFG_ERR a)

/-- ALARM_CFG_WRITE (R441, R449). -/
def execAlarmCfgWrite (ini : Ini) (a : Fin 7) (value : BitVec 32) (s : State) : Host.Outcome State Fault Refusal :=
  let s := s.quiet
  if s.fromInside ini then .next (s.deniedWrite ini) else .next (s.written ini (R.ALARM_CFG_RESP a.val).off fun s => wrAlarmCfg s ini a.val value)

/-- GLITCH (R448): a supply or the reference period out of its limits. -/
def execGlitch (s : State) : Host.Outcome State Fault Refusal := .next (s.quiet.alarm 6)

end Sys2Proof.Machine
end

