-- ==== Sys2Proof/Machine/SelfTest.lean ====
section
/-! DEFINITION. Memory self-test, spares, fuse repair, the stack channel test and logic BIST (18_self_test_repair.md, R453 to
R469). -/

namespace Sys2Proof.Machine

/-! ## What may be tested (R453, R455) -/

/-- The engine tests the KIND, and the unit is on its die (R453). -/
def engineTests (e kind unit : Nat) : Bool :=
  match e, kind with
  | 0, 1 => unit < 16
  | 1, 2 => unit < 32
  | 2, 2 => decide (32 ≤ unit) && decide (unit < 64)
  | 3, 3 => unit < 64
  | 4, 3 => decide (64 ≤ unit) && decide (unit < 128)
  | 3, 4 => unit < 1024
  | 4, 4 => decide (1024 ≤ unit) && decide (unit < 2048)
  | _, _ => false

/-- The unit is handed over to the test engine (R455). -/
def State.handedOver (s : State) (kind unit : Nat) : Bool :=
  match kind with
  | 1 =>
    (List.range 4).all (fun i => !(s.regionNotOff (4 * unit + i))) && s.dstate (64 + unit) = .on && !(s.cfgDomainLoading unit)
  | 2 => s.rstate unit = .off || (s.rstate unit = .idle && !(s.is1 (R.REGION_STATUS_HAS_ACTIVE unit)))
  | 3 => s.sliceIn unit && !(s.inSliceSet unit) && s.dstate (80 + unit / 16) = .on
  | _ => s.bankIn unit && s.rd (R.BANK_OWNER_KIND unit) == 5 && !(s.is1 (R.BANK_OWNER_PENDING unit))

/-- The life-cycle state permits the test now (R440, R455): in PROVISIONED and DEPLOYED, configuration and block RAM only at start
step 5. -/
def State.testPermitted (s : State) (kind : Nat) : Bool :=
  match s.lc with
  | 0 | 1 | 4 => true
  | 2 | 3 => decide (3 ≤ kind) || s.rd R.START_STAT_STEP == 5
  | _ => false

/-- A test begins (R458): the result FIFO and the counters clear. `start`: step 5 runs it. -/
def State.testBegins (s : State) (e kind unit : Nat) (start : Bool) : State :=
  let s := s.setEngine e ⟨some (kind, unit), start, []⟩
  let s := (((s.clr (R.TEST_STAT_RESULT e)).clr (R.TEST_STAT_NOT_SAVED e)).clr (R.TEST_STAT_SPARES_USED e)).clr (R.TEST_STAT_FAIL_BITS e)
  (s.engineTakes (testUnit kind unit)).set1 (R.TEST_CMD_BUSY e)

/-- An ABORT of engine e's test (R457, R460). -/
def State.testAborted (s : State) (e : Nat) : State :=
  match (s.engine e).test with
  | none => s
  | some (k, u) => (s.abortTest e).heldPower (testUnit k u)

/-- A write to TEST_CMD_e (R455, R460). -/
def wrTestCmd (s : State) (e : Nat) (v : BitVec 32) : State :=
  let s := s.storeReg (.TEST_CMD e) v
  let s := if (R.TEST_CMD_ABORT e).of v = 1 then s.testAborted e else s
  let kind := (R.TEST_CMD_KIND e).of v
  let unit := (R.TEST_CMD_UNIT e).of v
  if kind = 0 ∨ 4 < kind then s
  else if (s.engine e).test.isNone && engineTests e kind unit && s.testPermitted kind && s.handedOver kind unit then
    s.testBegins e kind unit false
  else s.set1 (R.TEST_CMD_ERR e)

/-- A register write that starts an operation of R440: DENIED in a life-cycle state that bars it. -/
def State.testWrite (s : State) (ini : Ini) (barred : Bool) (off : Nat) (f : State → State) : State :=
  if barred then s.deniedWrite ini else s.written ini off f

/-- A write to TEST_CMD_e that starts a test which the life cycle bars (R440): it is answered DENIED, and sets ERR (R455). -/
def State.testBarred (s : State) (e : Nat) (v : BitVec 32) : Bool :=
  let kind := (R.TEST_CMD_KIND e).of v
  kind != 0 && decide (kind ≤ 4) && !(s.testPermitted kind)

/-- MBIST_START (R440, R455). -/
def execMbistStart (ini : Ini) (e : Fin 5) (value : BitVec 32) (s : State) : Host.Outcome State Fault Refusal :=
  let s := s.quiet
  .next (if s.testBarred e.val value then (s.deniedWrite ini).set1 (R.TEST_CMD_ERR e.val)
    else s.written ini (R.TEST_CMD_KIND e.val).off fun s => wrTestCmd s e.val value)

/-- TEST_ABORT (R460): a write of ABORT. -/
def execTestAbort (ini : Ini) (e : Fin 5) (s : State) : Host.Outcome State Fault Refusal :=
  .next (s.quiet.written ini (R.TEST_CMD_KIND e.val).off fun s => s.testAborted e.val)

/-! ## Spare allocation (R453, R459) -/

/-- A number goes into its place in an ascending list without repeats. -/
def insertAsc (x : Nat) : List Nat → List Nat
  | [] => [x]
  | y :: ys => if x < y then x :: y :: ys else if x = y then y :: ys else y :: insertAsc x ys

/-- A list in ascending order, without repeats. -/
def ascending (xs : List Nat) : List Nat := xs.foldl (fun a x => insertAsc x a) []

/-- An allocation under way: the failing bits not covered (row, column), the free spare rows and columns, and those taken
(spare, replaced). -/
structure Alloc where
  fails    : List (Nat × Nat)
  freeRows : List Nat
  freeCols : List Nat
  rows     : List (Nat × Nat)
  cols     : List (Nat × Nat)

/-- Rows in which column c fails. -/
def Alloc.rowsOf (a : Alloc) (c : Nat) : List Nat := ascending ((a.fails.filter fun f => f.2 == c).map (·.1))
/-- Columns in which row r fails. -/
def Alloc.colsOf (a : Alloc) (r : Nat) : List Nat := ascending ((a.fails.filter fun f => f.1 == r).map (·.2))

/-- Row r takes the lowest free spare row, if there is one. -/
def Alloc.takeRow (a : Alloc) (r : Nat) : Alloc :=
  match a.freeRows with
  | [] => a
  | i :: is => { a with fails := a.fails.filter fun f => f.1 != r, freeRows := is, rows := a.rows ++ [(i, r)] }

/-- Column c takes the lowest free spare column, if there is one. -/
def Alloc.takeCol (a : Alloc) (c : Nat) : Alloc :=
  match a.freeCols with
  | [] => a
  | i :: is => { a with fails := a.fails.filter fun f => f.2 != c, freeCols := is, cols := a.cols ++ [(i, c)] }

/-- Must-repair (R459): columns before rows, each in ascending order (log entry 87); at most n repairs. -/
def Alloc.must (a : Alloc) : Nat → Alloc
  | 0 => a
  | n + 1 =>
    let col := if a.freeCols.isEmpty then none
      else (ascending (a.fails.map (·.2))).find? fun c => decide (a.freeRows.length < (a.rowsOf c).length)
    let row := if a.freeRows.isEmpty then none
      else (ascending (a.fails.map (·.1))).find? fun r => decide (a.freeCols.length < (a.colsOf r).length)
    match col, row with
    | some c, _ => (a.takeCol c).must n
    | none, some r => (a.takeRow r).must n
    | none, none => a

/-- The three steps of R459. -/
def Alloc.run (a : Alloc) : Alloc :=
  let a := a.must a.fails.length
  let a := (ascending (a.fails.map (·.1))).foldl Alloc.takeRow a
  (ascending (a.fails.map (·.2))).foldl Alloc.takeCol a

/-- Spare rows and columns of a KIND; for BRAM, of each block (R453). -/
def spareCounts : Nat → Nat × Nat
  | 1 => (64, 4) | 2 => (1, 1) | 3 => (24, 8) | _ => (4, 2)

/-- Where the spares of a unit are kept; for BRAM, of each block. -/
def sparesAt (kind unit block : Nat) : Nat := if kind = 2 then 0x100000 + 192 * unit + block else spareKey kind unit

/-- The allocation of the spares of one unit or block for its failing bits. -/
def State.allocate (s : State) (kind unit block : Nat) (fails : List (Nat × Nat)) : Alloc :=
  let x := s.spareSet (sparesAt kind unit block)
  let n := spareCounts kind
  let free := fun (k : Nat) (used : List (Nat × Nat)) (bad : List Nat) =>
    (List.range k).filter fun i => !(used.any fun r => r.1 == i) && !(bad.contains i)
  Alloc.run ⟨fails, free n.1 x.rows x.badRows, free n.2 x.cols x.badCols, [], []⟩

/-- The block of a row of a KIND: of BRAM, 64 rows each. -/
def blockOfRow (kind row : Nat) : Nat := if kind = 2 then row / 64 else 0

/-- The allocations of a test, by block. -/
def State.allocations (s : State) (kind unit : Nat) (fails : List (Nat × Nat)) : List (Nat × Alloc) :=
  (ascending (fails.map fun f => blockOfRow kind f.1)).map fun b =>
    (b, s.allocate kind unit b (fails.filter fun f => blockOfRow kind f.1 == b))

/-- The soft-repair records of an allocation (R459, R462); a column of a block RAM is named with its block (log entry 89). -/
def allocRecords (kind unit : Nat) (x : Nat × Alloc) : List RepRec :=
  x.2.rows.map (fun r => ⟨kind, unit, 0, r.1, r.2⟩) ++
  x.2.cols.map (fun c => ⟨kind, unit, 1, c.1, if kind = 2 then 576 * x.1 + c.2 else c.2⟩)

/-- The spares of an allocation steer (R459). -/
def State.steer (s : State) (kind unit : Nat) (x : Nat × Alloc) : State :=
  let k := sparesAt kind unit x.1
  let o := s.spareSet k
  s.setSpareSet k { o with rows := o.rows ++ x.2.rows, cols := o.cols ++ x.2.cols }

/-- A spare that failed its test is unusable (R453): column or row, block, index. -/
def State.markSpare (s : State) (kind unit : Nat) (b : Bool × Nat × Nat) : State :=
  let k := sparesAt kind unit b.2.1
  let o := s.spareSet k
  s.setSpareSet k (if b.1 then { o with badCols := insertAsc b.2.2 o.badCols } else { o with badRows := insertAsc b.2.2 o.badRows })

/-! ## The end of a test (R454, R458 to R461) -/

/-- A test ends with a result (R458): 1 PASS, 2 REPAIRED, 3 FAIL. -/
def State.testEnds (s : State) (e kind unit result : Nat) : State :=
  let u := testUnit kind unit
  let s := ((s.testLeaves u).testUnitEnds u).heldPower u
  let s := if (s.engine e).start then s.itin 5 1 (if result = 3 then 1 else 0) (4096 * kind + unit) result else s
  let s := s.setEngine e { s.engine e with test := none }
  ((s.clr (R.TEST_CMD_BUSY e)).set1 (R.TEST_CMD_DONE e)).wr (R.TEST_STAT_RESULT e) result

/-- Who asks for the records of engine e's test. -/
def State.testSrc (s : State) (e : Nat) : JSrc := if (s.engine e).start then .startTest e else .test e

/-- A test REPAIRED its unit (R459, R461). -/
def State.testRepaired (s : State) (e kind unit : Nat) (xs : List (Nat × Alloc)) : State :=
  let recs := (xs.map (allocRecords kind unit)).flatten
  let s := xs.foldl (fun s x => s.steer kind unit x) s
  let s := if s.jnlRO then s.set1 (R.TEST_STAT_NOT_SAVED e) else recs.foldl (fun s r => (s.saveSoft r (s.testSrc e)).1) s
  let s := s.wr (R.TEST_STAT_SPARES_USED e) recs.length
  (s.log (.blockEvent 1) [e, kind, unit, recs.length]).testEnds e kind unit 2

/-- A test FAILED (R460, R461): a field map-out is recorded, and the unit stays with the engine. -/
def State.testFailed (s : State) (e kind unit used : Nat) : State :=
  let s := s.wr (R.TEST_STAT_SPARES_USED e) used
  let s := if s.jnlRO then s.set1 (R.TEST_STAT_NOT_SAVED e) else s.jnlAskBy (.mapout ⟨kind, unit, 0xFF, 0, 0⟩) (s.testSrc e)
  let s : State := { s with keptByTest := s.keptByTest ++ [testUnit kind unit] }
  let s : State := if (s.engine e).start then { s with start := { s.start with failed := s.start.failed ++ [4096 * kind + unit] } } else s
  (s.log (.blockEvent 0) [e, kind, unit, s.rd (R.TEST_STAT_FAIL_BITS e)]).testEnds e kind unit 3

/-- The test of engine e ends with these failing locations, and these spares that failed. -/
def State.testDone (s : State) (e kind unit : Nat) (fails : List FailLoc) (bad : List (Bool × Nat × Nat)) : State :=
  let s := bad.foldl (fun s b => s.markSpare kind unit b) s
  let s := s.setEngine e { s.engine e with fifo := fails.take 16 }
  let s := s.wr (R.TEST_STAT_FAIL_BITS e) (min 65535 fails.length)
  if fails.isEmpty then s.testEnds e kind unit 1
  else if s.is1 (R.TEST_CMD_NO_REPAIR e) then s.testFailed e kind unit 0
  else
    let xs := s.allocations kind unit (fails.map fun f => (f.row, f.col))
    if xs.all (fun x => x.2.fails.isEmpty) then s.testRepaired e kind unit xs
    else s.testFailed e kind unit ((xs.map (allocRecords kind unit)).flatten).length

/-- Of locations that are reported more than once, the first. -/
def distinctFails (fs : List FailLoc) : List FailLoc :=
  fs.foldl (fun a f => if a.any (fun g => g.row == f.row && g.col == f.col) then a else a ++ [f]) []

/-- MBIST_COMPLETE (R454, R458 to R461): `fails` are the failing bits in the order of detection, `bad` the spares that failed. -/
def execMbistComplete (e : Fin 5) (fails : List FailLoc) (bad : List (Bool × Nat × Nat)) (s : State) :
    Host.Outcome State Fault Refusal :=
  let s := s.quiet
  match (s.engine e.val).test with
  | none => .next s
  | some (kind, unit) => .next (s.testDone e.val kind unit (distinctFails fails) bad)

/-- TEST_FAIL_INFO_e as the head of the FIFO shows it (R458). -/
def failInfo : List FailLoc → Nat
  | [] => 0
  | f :: _ => 2 ^ 31 + f.element % 16 * 2 ^ 27 + f.expect.toNat * 2 ^ 26

/-- FAIL_INFO_POP (R458): the head is returned and popped; the debug initiator's read pops nothing (R13). -/
def execFailInfoPop (ini : Ini) (e : Fin 5) (s : State) : Host.Outcome State Fault Refusal :=
  let x := s.engine e.val
  .next (s.quiet.shown ini (R.TEST_FAIL_INFO_VALID e.val).off (failInfo x.fifo) fun s => s.setEngine e.val { x with fifo := x.fifo.drop 1 })

/-! ## Fuse repair (R464) -/

/-- A write to REPAIR_CTL (R464). -/
def wrRepairCtl (s : State) (ini : Ini) (v : BitVec 32) : State :=
  let s := s.w1cOnly .REPAIR_CTL v
  if R.REPAIR_CTL_BURN.of v = 0 then s
  else if s.lc == 0 || s.lc == 5 || s.is1 R.REPAIR_CTL_BUSY || s.jnlRO || !(s.hostNode ini) then s.set1 R.REPAIR_CTL_ERR
  else ({ s with selfTest := { s.selfTest with burn := some s.softRecs } } : State).set1 R.REPAIR_CTL_BUSY

/-- BURN (R464). -/
def execBurn (ini : Ini) (s : State) : Host.Outcome State Fault Refusal :=
  .next (s.quiet.written ini R.REPAIR_CTL_BURN.off fun s => wrRepairCtl s ini 1)

/-- One record is burned into a free fuse entry and marked (R464). -/
def State.burnOne (s : State) (r : RepRec) : State :=
  if 512 ≤ s.lcFuses.repairs.length then s
  else (s.setFuses { s.lcFuses with repairs := s.lcFuses.repairs ++ [r] }).jnlAsk (.burned r) false

/-- REPAIR_STAT and FUSE_FULL as the fuses stand. -/
def State.showFuses (s : State) : State :=
  let n := s.lcFuses.repairs.length
  (s.wr R.REPAIR_STAT_FUSE_USED n).wrb R.REPAIR_CTL_FUSE_FULL (decide (512 ≤ n))

/-- BURN_COMPLETE (R464, R468): the records that stood at the write are burned in journal order. -/
def execBurnComplete (s : State) : Host.Outcome State Fault Refusal :=
  let s := s.quiet
  match s.selfTest.burn with
  | none => .next s
  | some rs =>
    let before := s.lcFuses.repairs.length
    let s := rs.foldl State.burnOne s
    let s : State := { s with selfTest := { s.selfTest with burn := none } }
    let s := ((s.showFuses).clr R.REPAIR_CTL_BUSY).set1 R.REPAIR_CTL_DONE
    .next (s.log (.blockEvent 3) [s.lcFuses.repairs.length - before])

/-! ## Stack channel test and logic BIST (R465, R467) -/

/-- A write to STACK_TEST (R465): a change of NEXT is recorded in the journal; while that is read-only, a request or a change is refused. -/
def wrStackTest (s : State) (v : BitVec 32) : State :=
  let s := s.w1cOnly .STACK_TEST v
  let next := R.STACK_TEST_NEXT.of v
  if next = 0 ∧ s.rd R.STACK_TEST_NEXT = 0 then s
  else if s.jnlRO then s.set1 R.STACK_TEST_ERR
  else if next = s.rd R.STACK_TEST_NEXT then s
  else (s.wr R.STACK_TEST_NEXT next).jnlAsk (.stackTest (next == 1)) false

/-- STACK_TEST_REQUEST (R465). -/
def execStackTestRequest (ini : Ini) (value : BitVec 32) (s : State) : Host.Outcome State Fault Refusal :=
  .next (s.quiet.written ini (R.STACK_TEST_NEXT).off fun s => wrStackTest s value)

/-- Scan and logic BIST are barred (R440, R467). -/
def State.scanBarred (s : State) : Bool := s.lc == 2 || s.lc == 3 || s.lc == 5

/-- A write to LBIST_CTL (R467). -/
def wrLbistCtl (s : State) (v : BitVec 32) : State :=
  let s := s.storeReg .LBIST_CTL v
  if R.LBIST_CTL_GO.of v = 0 then s
  else if s.is1 R.LBIST_CTL_BUSY || s.is1 R.IMG_STATUS_STARTED || s.imgBusy then s.set1 R.LBIST_CTL_ERR
  else ({ s with selfTest := { s.selfTest with lbist := some (s.rd R.LBIST_CTL_LAYER) } } : State).set1 R.LBIST_CTL_BUSY

/-- LBIST_GO (R440, R467). -/
def execLbistGo (ini : Ini) (layer : BitVec 3) (s : State) : Host.Outcome State Fault Refusal :=
  .next (s.quiet.testWrite ini s.scanBarred R.LBIST_CTL_GO.off fun s => wrLbistCtl s (BitVec.ofNat 32 (8 + layer.toNat)))

/-- Registers that a device reset keeps (R412; log entry 91): those of the housekeeping domain (powers, limits, channels, the thermal
model and its settings), RESET_CAUSE, GB_STAT, TWIN_ROLE as sampled, BLOCKED, and the counts that run since PORST_N. -/
def keptRegister (k : Nat) : Bool :=
  let off := 4 * (k / 32)
  let counts := fun (n : Nat) (f : Nat → Fld) => (List.range n).any fun i => (f i).key == k
  (decide (0x7C00200 ≤ off) && decide (off < 0x7C00600)) || (decide (0x7C01000 ≤ off) && decide (off < 0x7C02000)) ||
  (decide (0x7C02000 ≤ off) && decide (off < 0x7C02400) && k % 32 != 31) ||
  off == R.GB_STAT_COUNT.off || k == R.TWIN_CTL_ROLE_PIN.key || k == R.DBG_AUTH_BLOCKED.key ||
  k == R.TICK_COUNT_LO_COUNT.key || k == R.TICK_COUNT_HI_COUNT.key || k == R.PATROL_STAT_PASSES.key ||
  counts 64 R.REGION_SWAPS_COUNT || counts 2 R.PORTER_STAT_PASSES || counts 32 R.COURIER_STAT_DESCS

/-- Registers that hold what belongs to a region, a bank or a key, or a memory: undefined logic does not reach them (R8). -/
def Reg.sheltered : Reg → Bool
  | .IMEM_LO _ | .IMEM_HI _ | .STACK_REGION_MAP _ | .STACK_BANK_MAP _ | .REGION_CLK _ | .REGION_PORT_CFG _ _ | .REGION_PORT_SLOTS _ _
  | .REGION_PORT_STAT _ _ | .REGION_LINES _ | .BRAM_ECC _ | .PLANE_STATE _ | .REGION_CTL _ | .REGION_STATUS _ | .REGION_SWAPS _ | .REGION_FILL _
  | .REGION_FAULT _ | .REGION_OVR _ | .OVR_MAP _ | .BANK_OWNER _ | .BANK_CFG _ | .BANK_WIN_A _ | .BANK_WIN_B _ | .BANK_PWR _ | .BANK_STAT _
  | .MKEY_STATE _ | .MKEY_WIN_BASE _ | .MKEY_WIN_LIM _ | .KEY_IN _ | .KEY_SLOT_STAT => true
  | _ => false

/-- The registers whose contents logic BIST of a layer leaves undefined (R467): those of the layer's CSR endpoint, but for the self-test and the journal
and front desk blocks, which can still be read, what R8 shelters, and what a device reset keeps (log entry 107). -/
def scrambled (layer : Nat) (off : Nat) : Bool :=
  (match csrNode off with | some node => node / 512 == layer | none => false) && !(decide (0x7E00000 ≤ off))

/-- What the logic of the device holds when it is undefined, under the token of a free value (R467, log entry 107): a state of which nothing is known, or
the one before. -/
opaque undefinedLogic : Nat → Option State

/-- Entries of a store whose keys belong to the undefined logic come from another one. -/
def storeMixed {α : Type} (mine : Nat → Bool) (m x : Store α) : Store α :=
  (m.filter fun e => !(mine e.1)) ++ x.filter fun e => mine e.1

/-- Queues, buffers and engines of a layer whose logic is undefined come from x (R467): the layer's waystations; on L0 the sequencer, links, couriers, the
twin engine, snoop units, trace and SDRAM ports; on L3 the patrol; on L4 and L5 the slices, trackers and porter. Regions, banks, keys, the instruction memory
and journal records stay (R8). -/
def State.logicFrom (s x : State) (layer : Nat) : State :=
  let s : State := { s with bufs := storeMixed (fun k => k / 4096 == layer) s.bufs x.bufs }
  if layer = 0 then
    { s with threads := x.threads, predictor := x.predictor, rpath := x.rpath, tickGen := x.tickGen, trace := x.trace, mirr := x.mirr,
             snapReq := x.snapReq, gbars := x.gbars, epoch := x.epoch, couriers := x.couriers, outst := x.outst, unsent := x.unsent,
             links := x.links, twin := { x.twin with lastReset := s.twin.lastReset }, snoops := x.snoops,
             sdram := { x.sdram with keys := s.sdram.keys, lines := s.sdram.lines }, captures := x.captures, held := x.held }
  else if layer = 3 then
    { s with corrq := x.corrq, walkq := x.walkq, checks := x.checks, passDone := x.passDone, heldVisits := x.heldVisits }
  else if layer = 4 ∨ layer = 5 then
    { s with larder := { x.larder with lines := s.larder.lines }
             trackers := storeMixed (fun k => k / 96 == layer - 4) s.trackers x.trackers
             porters := storeMixed (fun k => k == layer - 4) s.porters x.porters }
  else s

/-- The logic of a layer is undefined (R8, R467): every field of its registers takes a free value, and so do its queues, buffers and engines. -/
def State.scramble (s : State) (layer : Nat) : State :=
  let s := match undefinedLogic s.fresh with
    | some x => (s.logicFrom x layer).drawn
    | none => s.drawn
  s.each (((List.range 0x2000000).map (4 * ·)).filter (scrambled layer)) fun s off => match regAt off with
    | none => s
    | some r => if r.sheltered then s
      else (r.fields.filter fun u => !(keptRegister u.fld.key)).foldl (fun s u => (s.wr u.fld s.draw).drawn) s

/-- LBIST_COMPLETE (R467): PASS shows whether the signature matched; the layer's logic is undefined until the next device reset. -/
def execLbistComplete (pass : Bool) (s : State) : Host.Outcome State Fault Refusal :=
  let s := s.quiet
  match s.selfTest.lbist with
  | none => .next s
  | some layer =>
    let s : State := { s with selfTest := { s.selfTest with lbist := none, undef := true } }
    .next (((s.clr R.LBIST_CTL_BUSY).wrb R.LBIST_CTL_PASS pass).scramble layer)

end Sys2Proof.Machine
end

