-- ==== Sys2Proof/Machine/StackMap.lean ====
section
/-! DEFINITION. The stack map (01_stack.md, R26 to R41) and the repairs that a start applies (18_self_test_repair.md, R463): which
channels have failed, which units are out of service, and what the stack map registers then show. -/

namespace Sys2Proof.Machine

/-! ## Coil groups (R26, R27; numbered by the model: log entry 90) -/

/-- The spans of the vertical links: how many, and the two layers that each joins; a relayed link has two spans (R27, R29). -/
def spanTable : List (Nat × Nat × Nat) :=
  [(32, 0, 1), (32, 0, 2), (16, 0, 3), (8, 0, 2), (8, 2, 4), (8, 0, 2), (8, 2, 5), (32, 1, 4), (32, 2, 4), (32, 2, 5), (32, 1, 3),
   (32, 3, 5), (16, 2, 3)]

/-- The layers that span k joins. -/
def spanLayers : Nat → List (Nat × Nat × Nat) → Nat × Nat
  | _, [] => (0, 0)
  | k, (n, a, b) :: ts => if k < n then (a, b) else spanLayers (k - n) ts

/-- The first group that is a control bundle: groups 0 to 63 are fill bundles, 64 to 127 return groups, then two for each span. -/
def firstBundle : Nat := 128 + 2 * 288

/-- Spare channels of a coil group (R26). -/
def coilSpares (g : Nat) : Nat := if g < 64 then 128 else if g < firstBundle then 8 else 2
/-- Working channels of a coil group (R26). -/
def coilChannels (g : Nat) : Nat := if g < 64 then 4096 else if g < firstBundle then 256 else 64

/-- The index of a group's first coil channel among those of the device; in a group the working channels come first and its spares after them (R462,
R466; log entry 90). -/
def coilBase (g : Nat) : Nat := 4224 * min g 64 + 264 * (min g firstBundle - 64) + 66 * (g - firstBundle)

/-- The UNIT that a record's BODY gives (R462): for a channel of a coil group its index, else the unit. -/
def RepRec.unitField (r : RepRec) : Nat := if r.kind = 6 then coilBase r.unit + r.replaced else r.unit

/-- What a group that cannot be repaired takes out of service (R33): a region, a memory die, or the start. -/
inductive CoilUnit where
  | region (n : Nat) | die (layer : Nat) | fatal
  deriving DecidableEq, Repr

/-- What group g serves (R33). -/
def coilUnit (g : Nat) : CoilUnit :=
  if g < 64 then .region g
  else if g < 128 then .region (g - 64)
  else
    let top := if g < firstBundle then (spanLayers ((g - 128) / 2) spanTable).2 else g - firstBundle + 1
    if 4 ≤ top then .die top else .fatal

/-! ## Failed channels (R32, R33, R36) -/

/-- Every map-out: those of the fuses and those of the journal (R36). -/
def State.allMapouts (s : State) : List RepRec := s.lcFuses.mapouts ++ s.mapoutRecs

/-- The failed channels of a group, spares included: UNIT_KIND 5 a tile pair, 6 a coil group (R462). -/
def failedIn (rs : List RepRec) (kind unit : Nat) : List Nat :=
  ascending ((rs.filter fun r => r.spareKind == 2 && r.kind == kind && r.unit == unit).map (·.replaced))

/-- The groups of a UNIT_KIND that have a failed channel. -/
def failedGroups (rs : List RepRec) (kind : Nat) : List Nat :=
  ascending ((rs.filter fun r => r.spareKind == 2 && r.kind == kind).map (·.unit))

/-- Spares and working channels of a group: 8 and 256 of a tile pair (R20). -/
def groupSize (kind unit : Nat) : Nat × Nat := if kind = 5 then (8, 256) else (coilSpares unit, coilChannels unit)

/-- A group's failures exceed its spares (R33). -/
def groupBroken (rs : List RepRec) (kind unit : Nat) : Bool :=
  decide ((groupSize kind unit).1 < (failedIn rs kind unit).length)

/-- Spares of a kind that are steered in (STACK_FACE_SPARES, STACK_COIL_SPARES). Of a group whose failures exceed its spares the good spares all count
as steered in (DESIGN CHOICE, log entry 250). -/
def sparesUsed (rs : List RepRec) (kind : Nat) : Nat :=
  (failedGroups rs kind).foldl (fun a u =>
    let f := failedIn rs kind u
    let z := groupSize kind u
    let work := (f.filter fun c => decide (c < z.2)).length
    a + min work (z.1 - (f.length - work))) 0

/-! ## Units out of service (R33, R36, R38) -/

/-- The region of L1 that holds tile (x, y); its facing region lies 32 above. -/
def pairRegion (pair : Nat) : Nat := 8 * (pair / 256 / 48) + pair % 256 / 32

/-- The broken coil groups. -/
def brokenCoils (rs : List RepRec) : List Nat := (failedGroups rs 6).filter (groupBroken rs 6)
/-- The broken tile pairs. -/
def brokenPairs (rs : List RepRec) : List Nat := (failedGroups rs 5).filter (groupBroken rs 5)

/-- The units of a UNIT_KIND that a map-out record names. -/
def mappedUnits (rs : List RepRec) (kind : Nat) : List Nat :=
  (rs.filter fun r => r.spareKind == 0xFF && r.kind == kind).map (·.unit)

/-- What a map takes out of service: memory dies, regions, slices, banks; and whether the start must stop. -/
structure OutMap where
  dies    : List Nat
  regions : List Nat
  slices  : List Nat
  banks   : List Nat
  fatal   : Bool

/-- What records and dies out take out of service (R33, R38, R41, R460). -/
def outMap (rs : List RepRec) (diesOut : List Nat) : OutMap :=
  let coils := (brokenCoils rs).map coilUnit
  let dies := ascending (diesOut ++ coils.filterMap fun u => match u with | .die l => some l | .region _ | .fatal => none)
  let regions := (mappedUnits rs 1).flatMap (fun j => [4 * j, 4 * j + 1, 4 * j + 2, 4 * j + 3]) ++ mappedUnits rs 2 ++
    (brokenPairs rs).flatMap (fun p => [pairRegion p, pairRegion p + 32]) ++
    coils.filterMap fun u => match u with | .region n => some n | .die _ | .fatal => none
  { dies := dies
    regions := ascending regions
    slices := ascending (mappedUnits rs 3)
    banks := ascending (mappedUnits rs 4)
    fatal := coils.contains .fatal || (dies.contains 4 && dies.contains 5) }

/-- Slice k is in service. -/
def OutMap.slice (o : OutMap) (k : Nat) : Bool := !(o.slices.contains k) && !(o.dies.contains (4 + k / 64))
/-- Bank b is in service. -/
def OutMap.bank (o : OutMap) (b : Nat) : Bool := !(o.banks.contains b) && !(o.dies.contains (4 + b / 1024))
/-- Region n is usable. -/
def OutMap.region (o : OutMap) (n : Nat) : Bool := !(o.regions.contains n)

/-- A journal record that changes what the fuse map leaves in service (R36): it counts for FIELD_MAPOUT. -/
def State.fieldCounts (s : State) (r : RepRec) : Bool :=
  let f := s.lcFuses.mapouts
  if r.spareKind = 2 then !(f.any fun x => x.spareKind == 2 && x.kind == r.kind && x.unit == r.unit && x.replaced == r.replaced)
  else
    let o := outMap f s.lcFuses.diesOut
    match r.kind with
    | 1 => (List.range 4).any fun i => o.region (4 * r.unit + i)
    | 2 => o.region r.unit
    | 3 => o.slice r.unit
    | _ => o.bank r.unit

/-! ## Loading the map (R33, R36 to R41, R463) -/

/-- What cannot be repaired is logged (R33): face pairs, regions, memory dies; a fatal span or bundle, or both memory dies out. -/
def State.logBroken (s : State) (rs : List RepRec) (o : OutMap) : State :=
  let s := (brokenPairs rs).foldl (fun s p => s.log .stackFaceUnrepaired [p]) s
  let s := (brokenCoils rs).foldl (fun s g => match coilUnit g with
    | .region n => s.log .stackFillUnrepaired [n]
    | .die _ => s.log .stackMemUnrepaired [g]
    | .fatal => s.logP 3 .stackFatal [g]) s
  if o.dies.contains 4 && o.dies.contains 5 then s.logP 3 .stackFatal [] else s

/-- 32 bits of a map, one for each index from 32w on. -/
def mapWord (f : Nat → Bool) (w : Nat) : Nat := (List.range 32).foldl (fun a b => if f (32 * w + b) then a + 2 ^ b else a) 0

/-- How many of n indexes have a property. -/
def countOf (n : Nat) (f : Nat → Bool) : Nat := ((List.range n).filter f).length

/-- STACK_GRADE (R40): 0 FULL, 1 TRIMMED, 2 HALF. -/
def OutMap.grade (o : OutMap) : Nat :=
  if !o.dies.isEmpty then 2
  else if countOf 128 o.slice = 128 ∧ countOf 2048 o.bank = 2048 ∧ countOf 64 o.region = 64 then 0 else 1

/-- The repair load has applied the map-outs (R37). -/
def State.mapoutsApplied (s : State) : State := { s with stackLoaded := true }

/-- The stack map registers hold the loaded values from the end of the repair load (R37, R38, R40). -/
def State.showStack (s : State) (rs : List RepRec) (o : OutMap) : State :=
  let s := s.each (List.range 4) fun s w => s.wr (R.STACK_SLICE_MAP_IN_SERVICE w) (mapWord o.slice w)
  let s := s.each (List.range 2) fun s w => s.wr (R.STACK_REGION_MAP_USABLE w) (mapWord o.region w)
  let s := s.each (List.range 64) fun s w => s.wr (R.STACK_BANK_MAP_IN_SERVICE w) (mapWord o.bank w)
  let s := (s.wr R.STACK_FACE_SPARES_USED (sparesUsed rs 5)).wr R.STACK_COIL_SPARES_USED (sparesUsed rs 6)
  let s := (s.wrb R.STACK_SUMMARY_M0_PRESENT (!(o.dies.contains 4))).wrb R.STACK_SUMMARY_M1_PRESENT (!(o.dies.contains 5))
  let s := (s.wr R.STACK_SUMMARY_STACK_GRADE o.grade).wr R.STACK_SUMMARY_SLICES_ACTIVE (countOf 128 o.slice)
  let s := (s.wr R.STACK_SUMMARY_BANKS_ACTIVE (countOf 2048 o.bank)).wr R.STACK_SUMMARY_REGIONS_UNUSABLE (64 - countOf 64 o.region)
  (s.wrb R.STACK_SUMMARY_FIELD_MAPOUT (s.mapoutRecs.any s.fieldCounts)).mapoutsApplied

/-- The unit of a repair record is mapped out (R463); a configuration domain is when its four regions are unusable (R460). -/
def OutMap.out (o : OutMap) (r : RepRec) : Bool :=
  match r.kind with
  | 1 => (List.range 4).all fun i => !(o.region (4 * r.unit + i))
  | 2 => !(o.region r.unit)
  | 3 => !(o.slice r.unit)
  | 4 => !(o.bank r.unit)
  | _ => false

/-- Where the spares that a repair record names are kept. -/
def RepRec.spareAt (r : RepRec) : Nat := sparesAt r.kind r.unit (if r.spareKind = 1 then r.replaced / 576 else r.replaced / 64)

/-- A repair steers its spare (R463). -/
def State.applyRepair (s : State) (r : RepRec) : State :=
  let x := s.spareSet r.spareAt
  if r.spareKind = 0 then s.setSpareSet r.spareAt { x with rows := x.rows ++ [(r.spare, r.replaced)] }
  else if r.spareKind = 1 then
    s.setSpareSet r.spareAt { x with cols := x.cols ++ [(r.spare, if r.kind = 2 then r.replaced % 576 else r.replaced)] }
  else s

/-- A standing soft-repair record is applied, or discarded and logged (R463, R468). -/
def State.applySoft (s : State) (o : OutMap) (r : RepRec) : State :=
  let x := s.spareSet r.spareAt
  let taken := if r.spareKind = 0 then x.rows.any (fun e => e.1 == r.spare) || x.badRows.contains r.spare
    else x.cols.any (fun e => e.1 == r.spare) || x.badCols.contains r.spare
  if taken || o.out r then s.log (.blockEvent 2) [r.kind, r.unit, r.spareKind, r.spare, r.replaced] else s.applyRepair r

/-- Repairs in the order of R463: fuse entries, then soft records. -/
def State.applyRepairs (s : State) (o : OutMap) : State :=
  s.softRecs.foldl (fun s r => s.applySoft o r) (s.lcFuses.repairs.foldl State.applyRepair s)

/-- Routes to a mapped-out die read 0xF in both banks of every station (R38, R246). -/
def State.cutRoutes (s : State) (o : OutMap) : State :=
  s.each o.dies fun s l => s.each (List.range 192) fun s n => s.each (List.range 32) fun s k =>
    (s.wr (rtFld n 0 (32 * l + k)) 0xF).wr (rtFld n 1 (32 * l + k)) 0xF

end Sys2Proof.Machine
end

