-- ==== Sys2Proof/Machine/Start.lean ====
section
/-! DEFINITION. Resets and the start sequence (16_start_journal_front_desk.md, R412 to R426, R436). -/

namespace Sys2Proof.Machine

/-! ## Resets (R412 to R414) -/

/-- Set what the start sequence keeps beyond START_STAT. -/
def State.setStart (s : State) (x : Start) : State := { s with start := x }

/-- What every reset keeps (R412): fuses and journal contents; a write that waits is lost. The queue of commands and the model's own
counters are outside the reset. -/
def State.cleared (s : State) : State :=
  { State.reset with
    pending := s.pending, now := s.now, fresh := s.fresh, fuses := s.fuses, lcFuses := s.lcFuses,
    jnl := { s.jnl with queue := [] } }

/-- The operating ranges of the supplies that housekeeping channels 192 to 202 read, in 0.1 mV (R394, R500), by the speed grade. -/
def supplyRange (speed ch : Nat) : Nat × Nat :=
  match ch with
  | 192 | 193 => if speed = 1 then (7000, 7400) else if speed = 2 then (7300, 7700) else (7600, 8000)
  | 194 | 195 => (7275, 7725)
  | 196 | 197 => (8245, 8755)
  | 198 => (8730, 9270)
  | 199 => (11640, 12360)
  | 200 => (10670, 11330)
  | _ => (17100, 18900)

/-- The supply of channel ch is in its range (R500), as the latest round reads it. -/
def State.supplyIn (s : State) (ch : Nat) : Bool :=
  let v := s.rd (R.HK_CHAN_VALUE ch)
  let r := supplyRange s.fuses.speed ch
  s.is1 (R.HK_CHAN_VALID ch) && decide (r.1 ≤ v) && decide (v ≤ r.2)

/-- Every supply has been in range for a full round since the reset (R394, R415); banks' VCCIO counts under R506 alone (log entry 277). -/
def State.suppliesIn (s : State) : Bool := (List.range 11).all fun i => s.supplyIn (192 + i)

/-- VCC_HK falls early (R414, R501): the latest round reads it out of its range. Whether a record write was in progress is then a free value; its slot is
torn (R419, log entry 280). -/
def State.tornByLoss (s : State) : State :=
  if !(s.is1 (R.HK_CHAN_VALID 202)) || s.supplyIn 202 || s.jnlRO || decide (s.rd R.START_STAT_STEP < 4) then s
  else
    (match s.frontWrite with
     | some b => if s.draw % 2 = 0 then s else (s.copyForward b).tearSlot ((s.copyForward b).placeOf b)
     | none => s).drawn

/-- A power-on reset (R412, R414): while PORST_N is low the device stays in reset. After SHUTDOWN, step 1 waits for T_gov (R415). -/
def State.powerOnReset (s : State) : State :=
  s.tornByLoss.cleared.setStart { rstLow := s.start.rstLow, porLow := true, cool := s.isShutdown || s.start.cool }

/-- Marks of spares that failed a test stay over a device reset (R463; log entry 92). -/
def spareMarks (x : Store SpareSet) : Store SpareSet :=
  (x.filter fun e => !(e.2.badRows.isEmpty && e.2.badCols.isEmpty)).map fun e => (e.1, { badRows := e.2.badRows, badCols := e.2.badCols })

/-- The guestbook queue outlives a device reset (R420): the journal is read-only, or was before a reset that step 3 has not followed yet. -/
def State.gbKept (s : State) : Bool := s.jnlRO || s.start.roKept

/-- Guestbook entries that a device reset loses (R413): none in a read-only journal, which keeps them in the housekeeping domain
(R420). -/
def State.gbDropped (s : State) : Nat := if s.gbKept then 0 else s.gbq.length

/-- The sessions that a device reset ends are logged, as every change of level is (R475). -/
def State.sessionsEnd (t s : State) : State :=
  [DPort.jtag, DPort.olicor].foldl (fun t p => if s.dlevel p = 0 then t else t.log (.blockEvent 0x20) [p.num, s.dlevel p, 0]) t

/-- A device reset with a cause (R412, R413). -/
def State.deviceReset (s : State) (cause : Nat) : State :=
  let n := s.gbDropped
  let t : State := { s.cleared with
    csr := s.csr.filter (fun e => keptRegister e.1)
    spares := spareMarks s.spares
    gbq := if s.gbKept then s.gbq else [] }
  let t : State := { t with
    thermal := { s.thermal with rejudge := true, graceAt := none, hotAt := none, coolAt := none, notices := [] }
    twin := { lastReset := s.twin.lastReset }
    sec := { wrong := s.sec.wrong } }
  let t := t.setStart { rstLow := s.start.rstLow, porLow := s.start.porLow, cool := s.isShutdown || s.start.cool, gbLost := s.start.gbLost + n,
                        roKept := s.gbKept }
  let t := (((t.clr R.THERM_STAT_LEVEL).clr R.THERM_STAT_STEP).clr R.THERM_STAT_HOLD).clr R.THERM_STAT_POWER_SRC
  let t := t.sessionsEnd s
  (t.bumpN R.GB_STAT_LOST n).wr R.START_STAT_RESET_CAUSE cause

/-- PORST_N (R412, R414, R498): low is a power-on reset; its release, with the level on TWIN_ROLE, starts the start sequence. -/
def execPorstN (high role : Bool) (s : State) : Host.Outcome State Fault Refusal :=
  let s := s.quiet
  if high then .next ((s.setStart { s.start with porLow := false }).wrb R.TWIN_CTL_ROLE_PIN role) else .next s.powerOnReset

/-- RESET_N (R413): low asks for a device reset, and holds the device in it; its release starts the start sequence. -/
def execResetN (high : Bool) (s : State) : Host.Outcome State Fault Refusal :=
  let s := s.quiet
  if high then .next (s.setStart { s.start with rstLow := false })
  else .next (s.setStart { s.start with rstLow := true, resetDue := some 2 })

/-- The reset that the front desk asked for is not yet due: it comes 10 µs after acceptance (R434). -/
def State.deskCommitted (s : State) : Bool := decide (3125 ≤ 2 * (s.now - s.desk.since))

/-- A reset that is due has no effect in SHUTDOWN (R408): a command of the front desk that waits for it is FAILED (log entry 281). -/
def State.resetDropped (s : State) : State :=
  let s := s.setStart { s.start with resetDue := none }
  if s.desk.wait = some .reset then s.deskEnd false 0 else s

/-- DEVICE_RESET_BEGIN (R408, R412, R413): a device reset that is due begins, once a record write in progress is complete, the front desk's at its commit
point. The device leaves SHUTDOWN only by PORST_N or RESET_N, so another source has no effect then. -/
def execDeviceResetBegin (s : State) : Host.Outcome State Fault Refusal :=
  let s := s.quiet
  match s.start.resetDue with
  | none => .next s
  | some cause =>
    if cause = 3 ∧ s.deskCommitted = false then .next s
    else if s.isShutdown && cause != 2 then .next s.resetDropped
    else .next (s.deviceReset cause)

/-- A region in a die-local reset (R412): its armed swaps are discarded, and its domain closes as under POWER_OFF, in any
state; until it is OFF its endpoints answer DENIED (R257). -/
def State.dieRegion (s : State) (n : Nat) : State :=
  let s := s.setRegion n { s.region n with arms := [], cmdq := [] }
  match s.dstate n with
  | .on => ((s.clr (R.PWR_DOM_CTL_REQ n)).setDstate n .closing).setDom n { s.dom n with reset := true }
  | .waking => s.setDom n { s.dom n with offWait := [.regionCtl], reset := true }
  | .closing => s.setDom n { s.dom n with reset := true }
  | .off => s

/-- A write to RST_DIE (R412). -/
def wrRstDie (s : State) (v : BitVec 32) : State :=
  let die := fun (s : State) (l : Nat) => s.each (List.range 32) fun s i => s.dieRegion (32 * l + i)
  let s := if R.RST_DIE_L1.of v = 1 then die s 0 else s
  if R.RST_DIE_L2.of v = 1 then die s 1 else s

/-- DIE_RESET (R412). -/
def execDieReset (ini : Ini) (value : BitVec 32) (s : State) : Host.Outcome State Fault Refusal :=
  .next (s.quiet.written ini (R.RST_DIE_L1).off fun s => wrRstDie s value)

/-! ## The start sequence (R415 to R417) -/

/-- The start is at step k, not stopped, and no reset holds or is due. -/
def State.atStep (s : State) (k : Nat) : Bool :=
  s.rd R.START_STAT_STEP == k && s.rd R.START_STAT_STOP_STEP == 0 && !s.inReset && s.start.resetDue.isNone

/-- The front desk is ready (R417, R433): STATUS reads IDLE until the first command. -/
def State.deskReady (s : State) : State := (s.set1 R.START_STAT_READY).setDesk { s.desk with ready := true, status := 0 }

/-- The start stops at step k (R416). -/
def State.stopStart (s : State) (k : Nat) : State :=
  (((s.itin k 1 1 0 0).log .startStop []).wr R.START_STAT_STOP_STEP k).deskReady

/-- Step k has ended, and the next one begins (R415, R422). -/
def State.endStep (s : State) (k : Nat) : State := (s.itin k 1 0 0 0).wr R.START_STAT_STEP (k + 1)

/-- HOUSEKEEPING_STEP (R415, R408): step 1, once the supplies are in range; after SHUTDOWN it waits until T_gov is below 95 °C. -/
def execHousekeepingStep (s : State) : Host.Outcome State Fault Refusal :=
  let s := s.quiet
  if !(s.atStep 1) || !s.suppliesIn || (s.start.cool && decide (760 ≤ s.tGov)) then .next s
  else .next (((s.setStart { s.start with cool := false }).itin 1 0 0 0 0).endStep 1)

/-- FUSE_STEP (R415, R416, R437, R439): step 2; `ok`: every fuse check code is right. The life-cycle rows are read by majority; a pattern that matches
no state fails the check too. -/
def execFuseStep (ok : Bool) (s : State) : Host.Outcome State Fault Refusal :=
  let s := s.quiet
  if !(s.atStep 2) then .next s
  else
    let s := s.itin 2 0 0 0 0
    if ok && (lcOf s.lcFuses.lcRows).isSome then .next (((s.reErase).showFuses).endStep 2) else .next ((s.log .fuseFail []).stopStart 2)

/-! ## Step 3 (R418 to R422, R442, R465) -/

/-- What a log says of the two flash images as it is read in order (R422, R424): the image under way, and the outcome of the primary
and of the alternate. -/
structure FlashLog where
  cur : Nat := 2
  a   : Option Bool := none
  b   : Option Bool := none

/-- Note the outcome of an image. -/
def FlashLog.note (x : FlashLog) (u : Nat) (ok : Bool) : FlashLog :=
  if u = 0 then { x with a := some ok } else if u = 1 then { x with b := some ok } else x

/-- Read one record (R422, R424): an image that began and did not reach STARTED counts as failed, unless it was committed without a
START section. -/
def FlashLog.read (x : FlashLog) (r : ItinRec) : FlashLog :=
  if r.step = 6 ∧ r.phase = 0 then { x with cur := r.unit }.note r.unit false
  else if r.step = 6 then x.note r.unit (r.outcome == 0)
  else if r.step = 7 ∧ r.phase = 0 then x.note x.cur false
  else if r.step = 8 ∧ r.phase = 1 ∧ r.outcome = 0 then x.note x.cur true
  else x

/-- The flash image to try first after a log (R422); none: the log records no outcome for one. -/
def firstImage (log : List ItinRec) : Option Nat :=
  let x := log.foldl FlashLog.read {}
  match x.a, x.b with
  | none, none => none
  | some true, some true => some (if x.cur = 1 then 1 else 0)
  | some true, _ => some 0
  | _, some true => some 1
  | some false, some false => some 0
  | some false, none => some 1
  | none, some false => some 0

/-- BIST units that a log began and did not end (R422). -/
def cutUnits (log : List ItinRec) : List Nat :=
  let b := log.filter fun r => r.step == 5
  ((b.filter fun r => r.phase == 0).map (·.unit)).filter fun u => !(b.any fun r => r.phase == 1 && r.unit == u)

/-- The start settings that stand (R426). -/
def State.standingSettings (s : State) : Nat :=
  (s.jnl.recs.findSome? fun r => match r.body with | .settings b => some b | _ => none).getD 0x0000000200020001

/-- The key slots are loaded (R442): a record of another epoch counts as EMPTY. -/
def State.loadSlots (s : State) : State :=
  s.jnl.recs.foldl (fun s r => match r.body with
    | .keySlot k st epoch blob =>
      if epoch = s.lcFuses.epoch then
        (s.setSlotState k st).setSec { s.sec with slots := storeSet none k (some blob) s.sec.slots }
      else s
    | _ => s) s

/-- The flags that the control sector holds are loaded: the guestbook's freeze (R430) and the stack test request (R465), which step 5 of this start
acts on. -/
def State.loadFlags (s : State) : State :=
  s.jnl.recs.foldl (fun s r => match r.body with
    | .freeze on => s.wrb R.GB_STAT_FROZEN on
    | .stackTest next => (s.wrb R.STACK_TEST_NEXT next).setStart { s.start with stackReq := next }
    | _ => s) s

/-- Events that waited for step 3 find the guestbook frozen: they are not written, and count in LOST (R430). -/
def State.loseFrozen (s : State) : State :=
  if s.is1 R.GB_STAT_FROZEN then
    ({ s with gbq := [], jnl := { s.jnl with queue := s.jnl.queue.map fun w => { w with ahead := 0 } } } : State).bumpN R.GB_STAT_LOST s.gbq.length
  else s

/-- The itinerary of the starts before is read (R422), and the older log's place is taken by this start's. -/
def State.readItinerary (s : State) (num : Nat) : State :=
  let last := s.itinOf (num - 1)
  let first := ((firstImage last).orElse fun _ => firstImage (s.itinOf (num - 2))).getD 0
  let keep := s.jnl.recs.filter fun r => match r.body with | .itin x => decide (num ≤ x.start + 1) | _ => true
  { s with jnl := { s.jnl with recs := keep }, start := { s.start with first := first, skip := cutUnits last } }

/-- Every DARK plane is scrubbed to EMPTY (R207, R415). -/
def State.scrubDark (s : State) : State :=
  s.each (List.range 512) fun s i =>
    if s.plState (i / 8) (i % 8) = .dark then (s.setPlState (i / 8) (i % 8) .empty).erasePlane (i / 8) (i % 8) else s

/-- The journal is read (R415, R418 to R422). A journal on which a sector is worn and no spare is left stays
read-only, and keeps a freeze that the housekeeping domain holds (R420, R430). -/
def State.readJournal (s : State) : State :=
  let worn := (List.range 272).any fun p => decide ((s.jsec p).logical < 256) && decide (wearLimit ≤ (s.jsec p).writes)
  let ro := worn && s.jspares.isEmpty
  let frozen := (ro || s.start.roKept) && s.is1 R.GB_STAT_FROZEN
  let s : State := if ro then ((s.set1 R.JNL_STAT_READ_ONLY).freezeKept).refuseWrites else s.clr R.GB_STAT_FROZEN
  let s := s.bumpN R.JNL_STAT_TORN s.jnl.torn
  let s : State := { s with jnl := { s.jnl with torn := 0 } }
  let num := s.startNum
  let s := ((s.showSectors).loadFlags).loadSlots
  let s := if frozen then s.set1 R.GB_STAT_FROZEN else if ro then s else s.loseFrozen
  let s := s.each (List.range 16) fun s i => s.wr (R.JNL_CNT_VALUE i) (s.jnlCounter i)
  let s := s.wr R.REPAIR_STAT_SOFT (min 2047 s.softRecs.length)
  let s := s.readItinerary num
  s.setStart { s.start with settings := s.standingSettings }

/-- Counter 1 is incremented, unless the journal is read-only or it stands at its largest value (R421). -/
def State.countStart (s : State) : State :=
  let v := s.jnlCounter 1
  let s := if s.jnlRO || v == 2 ^ 32 - 1 then s else (s.jnlAsk (.counter 1 (v + 1)) false).wr (R.JNL_CNT_VALUE 1) (v + 1)
  s.wr R.START_STAT_START_NUM (s.rd (R.JNL_CNT_VALUE 1) % 2 ^ 16)

/-- The loss of guestbook entries is logged in the first record of this start (R413); in a full queue the youngest entry makes room for it and counts in
LOST (R429). -/
def State.logLoss (s : State) : State :=
  let n := s.start.gbLost
  if n = 0 then s
  else
    let e : GbEntry := ⟨.gbLost, 1, [n], s.rd (R.JNL_CNT_VALUE 1), s.tickCount, s.tickPos⟩
    let s := s.setStart { s.start with gbLost := 0 }
    if s.is1 R.GB_STAT_FROZEN then s.bump R.GB_STAT_LOST
    else ({ s with gbq := (e :: s.gbq).take 64 } : State).bumpN R.GB_STAT_LOST (s.gbq.length + 1 - 64)

/-- JOURNAL_STEP (R415, R418 to R422): step 3; `readable`: the headers can be read. -/
def execJournalStep (readable : Bool) (s : State) : Host.Outcome State Fault Refusal :=
  let s := s.quiet
  if !(s.atStep 3) then .next s
  else
    let s := s.itin 3 0 0 0 0
    let s := if readable then s.readJournal else (s.setStart { s.start with first := 0, skip := [] }).jnlLocks
    let s := (((s.setStart { s.start with roKept := false }).countStart).logLoss).scrubDark
    .next ((s.wr R.IMG_SEC_FLOOR_FLOOR (s.rd (R.JNL_CNT_VALUE 0))).endStep 3)

/-! ## Step 4 (R246, R266, R334, R391, R417) -/

/-- Byte i of the start settings as loaded (R426). -/
def State.setting (s : State) (i : Nat) : Nat := s.start.settings / 2 ^ (8 * i) % 256

/-- The innkeeper turns domain d ON (R391). -/
def State.innkeeperOn (s : State) (d : Nat) : State := (s.set1 (R.PWR_DOM_CTL_REQ d)).domainOn d

/-- A start link is brought up (R334, R391, R426): LINK_CTL takes MODE LINK, WIDTH and RATE, and its domains are on. -/
def State.startLink (s : State) (g width rate : Nat) : State :=
  let s := s.setLink g { s.link g with start := true }
  let s := ((s.wr (R.LINK_CTL_WIDTH g) width).wr (R.LINK_CTL_RATE g) rate).wr (R.LINK_CTL_MODE g) 1
  let s := if width = 4 then s.innkeeperOn (88 + g + 1) else s
  s.innkeeperOn (88 + g)

/-- Domains that the repair load powers (R391): quarters with a slice in service, configuration domains with a usable region. -/
def State.powerStart (s : State) (o : OutMap) : State :=
  let s := s.each (List.range 8) fun s q => if (List.range 16).any (fun i => o.slice (16 * q + i)) then s.innkeeperOn (80 + q) else s
  s.each (List.range 16) fun s j => if (List.range 4).any (fun i => o.region (4 * j + i)) then s.innkeeperOn (64 + j) else s

/-- The slice set holds every slice in service whose quarter is on (R266), but for those that stay with the test engine. -/
def State.buildSet (s : State) : State :=
  s.each (List.range 4) fun s w => s.wr (R.LARDER_SET_MEMBER w) (mapWord s.sliceUsable w)

/-- SALT is drawn (R266, R446). With the source FAILED the seed is weak: the DRBG is instantiated from the fused personalisation value and counter 1
alone, and gives the same bits for the same two (R447). -/
def State.firstDraw (s : State) : State :=
  if s.is1 R.RNG_STAT_HEALTHY then s.drawSalt
  else (s.set1 R.RNG_STAT_WEAK_SEED).putSalt (Config.weakDraw s.lcFuses.personal (s.rd (R.JNL_CNT_VALUE 1)))

/-- The repair load of a stack that can start (R415). -/
def State.repairLoad (s : State) (rs : List RepRec) (o : OutMap) : State :=
  let s := ((s.applyRepairs o).cutRoutes o).showStack rs o
  let s := ((s.powerStart o).buildSet).firstDraw
  let s := s.wr R.NET_CFG_DEV_NUM (s.setting 6)
  let s := if (s.setting 0).testBit 1 then s.startLink (s.setting 1) (s.setting 2) (s.setting 3) else s
  let s := if (s.setting 0).testBit 2 then s.startLink 23 (s.setting 4) (s.setting 5) else s
  s.each [0, 1] fun s d => s.setPorter d { s.porter d with started := true }

/-- REPAIR_LOAD (R415 to R417): step 4; `tables`: the L0 waystation tables are written without failure. -/
def execRepairLoad (tables : Bool) (s : State) : Host.Outcome State Fault Refusal :=
  let s := s.quiet
  if !(s.atStep 4) then .next s
  else
    let rs := s.allMapouts
    let o := outMap rs s.lcFuses.diesOut
    let s := (s.itin 4 0 0 0 0).logBroken rs o
    if o.fatal || !tables then .next (s.stopStart 4) else .next (((s.repairLoad rs o).endStep 4).deskReady)

/-! ## Step 5 (R422, R425, R456, R465, R466) -/

/-- The life cycle lets MBIST run at step 5 (R440, R455). -/
def State.mbistRuns (s : State) : Bool := decide (s.lc < 5)

/-- The units that the BIST plan names (R426, R456), coded as in itinerary records (R462); none where no MBIST runs. -/
def State.planUnits (s : State) : List Nat :=
  let plan := if s.mbistRuns then s.setting 8 else 0
  (if plan.testBit 0 then ((List.range 16).filter fun j => s.dstate (64 + j) = .on).map (0x1000 + ·) else []) ++
  (if plan.testBit 1 then ((List.range 64).filter fun n => !(s.unusable n)).map (0x2000 + ·) else []) ++
  (if plan.testBit 2 then ((List.range 128).filter s.sliceIn).map (0x3000 + ·) else []) ++
  (if plan.testBit 3 then ((List.range 2048).filter s.bankIn).map (0x4000 + ·) else [])

/-- A unit that the previous log cut off is not tested (R422). -/
def State.skipUnit (s : State) (u : Nat) : State := (s.itin 5 1 2 u 0).log .itinSkip []

/-- The banks in service whose owner's KIND is k take the owner KIND k' with ID 0 (R456). -/
def State.passBanks (s : State) (k k' : Nat) (keep : Nat → Bool) : State :=
  s.each (List.range 2048) fun s b =>
    if s.bankIn b && s.rd (R.BANK_OWNER_KIND b) == k && !(keep b) then (s.wr (R.BANK_OWNER_KIND b) k').clr (R.BANK_OWNER_ID b) else s

/-- The field map-outs that are asked for and not written. -/
def State.askedMapouts (s : State) : List RepRec :=
  s.jnl.queue.filterMap fun w => match w.body with | .mapout r => some r | _ => none

/-- A failing channel is recorded (R466), with the spare that the next one of its group takes (log entry 103). -/
def State.channelFails (s : State) (x : Bool × Nat × Nat) : State :=
  let kind := if x.1 then 5 else 6
  let spare := (failedIn (s.allMapouts ++ s.askedMapouts) kind x.2.1).length
  let r : RepRec := ⟨kind, x.2.1, 2, spare, x.2.2⟩
  (s.jnlAskBy (.mapout r) .stackTest).log (.blockEvent 4) [kind, r.unitField]

/-- The stack channel test (R465, R466): `failed` lists the channels that fail (face channel or coil channel, unit, channel). -/
def State.stackTest (s : State) (failed : List (Bool × Nat × Nat)) : State :=
  let s := (s.itin 5 0 0 0x5000 0).clr R.STACK_TEST_NEXT
  let s := ((s.jnlAsk (.stackTest false) false).set1 R.STACK_TEST_RAN).wr R.STACK_TEST_FAILED (min (2 ^ 19 - 1) failed.length)
  let s := failed.foldl State.channelFails s
  s.itin 5 1 (if failed.isEmpty then 0 else 1) 0x5000 0

/-- Step 5 begins (R456, R465): the stack channel test runs where it was asked for, and the units of the plan are handed over. -/
def State.bistBegin (s : State) (failed : List (Bool × Nat × Nat)) : State :=
  let s := if !s.start.stackReq then s
    else if s.start.skip.contains 0x5000 then s.skipUnit 0x5000 else s.stackTest failed
  let units := s.planUnits
  let s := (units.filter fun u => s.start.skip.contains u).foldl State.skipUnit s
  let s := if (s.setting 8).testBit 3 && s.mbistRuns then s.passBanks 0 5 fun b => s.start.skip.contains (0x4000 + b) else s
  let s := if (s.setting 8).testBit 2 && s.mbistRuns then s.each (List.range 4) fun s w => s.clr (R.LARDER_SET_MEMBER w) else s
  s.setStart { s.start with bistOn := true, bist := units.filter fun u => !(s.start.skip.contains u) }

/-- Every engine that is free takes its next unit (R453, R456); one that is not handed over is not tested, as another command would be refused (R455). -/
def State.bistFeed (s : State) : State :=
  s.each (List.range 5) fun s e =>
    if (s.engine e).test.isSome then s
    else
      match s.start.bist.find? fun u => engineTests e (u / 4096) (u % 4096) with
      | none => s
      | some u =>
        let s := s.setStart { s.start with bist := s.start.bist.erase u }
        if s.testPermitted (u / 4096) && s.handedOver (u / 4096) (u % 4096) then (s.itin 5 0 0 u 0).testBegins e (u / 4096) (u % 4096) true
        else s.itin 5 1 2 u 0

/-- Step 5 ends (R425, R456): units that did not fail are returned; map-outs may ask for a device reset. -/
def State.bistEnd (s : State) : State :=
  let failed := s.start.failed
  let s := if (s.setting 8).testBit 3 then s.passBanks 5 0 fun b => failed.contains (0x4000 + b) else s
  let s := if (s.setting 8).testBit 2 then s.buildSet else s
  let s := s.setStart { s.start with bistOn := false }
  if (s.setting 0).testBit 3 && decide (0 < s.start.mapouts) then s.setStart { s.start with resetDue := some 6 }
  else s.wr R.START_STAT_STEP 6

/-- The restart of R425 waits for map-outs that are not written yet. -/
def State.mapoutsWait (s : State) : Bool := (s.setting 0).testBit 3 && !s.askedMapouts.isEmpty

/-- BIST_STEP (R456): step 5 begins, goes on when an engine is free, and ends when every unit has been tested and the map-outs of a restart are written
(R425). -/
def execBistStep (failed : List (Bool × Nat × Nat)) (s : State) : Host.Outcome State Fault Refusal :=
  let s := s.quiet
  if !(s.atStep 5) then .next s
  else
    let s := (if s.start.bistOn then s else s.bistBegin failed).bistFeed
    if s.start.bist.isEmpty && (List.range 5).all (fun e => !((s.engine e).start && (s.engine e).test.isSome)) && !s.mapoutsWait then .next s.bistEnd
    else .next s

/-! ## Step 6 (R422, R423) -/

/-- The flash directory (R211): the addresses of the primary image and of the alternate one, where it names one; none: its magic or its CRC-32 is
wrong. -/
def flashDirectory (dir : BitVec 256) : Option (Nat × Option Nat) :=
  let bs := leBytes 32 dir.toNat
  let num := fun off k => leNat ((bs.drop off).take k)
  if num 0 4 ≠ 0x52494458 ∨ num 28 4 ≠ Alg.of .crc32 (bs.take 28) then none
  else some (num 8 8, if num 16 8 = 0 then none else some (num 16 8))

/-- The address of a flash image in a directory: 0 the primary, 1 the alternate. -/
def dirAddress (d : Nat × Option Nat) (u : Nat) : Option Nat := if u = 0 then some d.1 else d.2

/-- IMAGE_STEP (R211, R422, R423): the next flash image is tried, or a host's is awaited. `dir`: the 32 bytes at flash address 0, the first of them
lowest. -/
def execImageStep (dir : BitVec 256) (s : State) : Host.Outcome State Fault Refusal :=
  let s := s.quiet
  let due := (s.atStep 6 && !(s.is1 R.START_STAT_WAIT_HOST)) || (s.retrying && s.rd R.START_STAT_STOP_STEP == 0)
  let desk := s.desk.wait == some .image && !s.retrying
  if !due || desk || s.imgBusy || s.start.trying.isSome then .next s
  else
    let place := fun u => (flashDirectory dir).bind fun d => dirAddress d u
    let order := [s.start.first, 1 - s.start.first].filter fun u => (place u).isSome && !(s.start.tried.contains u)
    match (if (s.setting 0).testBit 0 then order else []) with
    | u :: _ =>
      let s := s.setStart { s.start with tried := s.start.tried ++ [u], trying := some u, base := (place u).getD 0 }
      .next ((s.wr R.START_STAT_IMAGE (u + 1)).itin 6 0 0 u 0)
    | [] =>
      let s := if s.retrying then s.deskEnd false 4 else s
      .next (if s.rd R.START_STAT_STEP = 6 then s.set1 R.START_STAT_WAIT_HOST else s)

end Sys2Proof.Machine
end

