-- ==== Sys2Proof/Machine/Waits.lean ====
section
/-! DEFINITION. The waits, barriers, flag lines and locked sequences (05_paeri_isa.md, R170, R171, R178, R180 to R182;
02_fabric.md, R82, R83; 04_ticks_and_sequencer.md, R148 to R152). -/

namespace Sys2Proof.Machine

/-! ## Waits (R165, R170, R171) -/

/-- WTICK (R170): commits at once when OWED is 1, else at the next tick boundary; not while RUNNING is 0. One that begins to wait with OWED 1 while
RUNNING is 0 commits at the first boundary and leaves OWED set (DESIGN CHOICE, log entry 229). -/
def execWtick (t : Fin 4) (s : State) : Host.Outcome State Fault Refusal :=
  .next (s.quiet.oldest t.val (· == .wtick) fun _ s => s.unlockedOnly t.val fun s =>
    if s.is1 (R.SEQ_THR_OVR_OWED t.val) && s.is1 R.TICK_CTL_RUNNING then (s.clr (R.SEQ_THR_OVR_OWED t.val)).commit t.val
    else s.waitFor t.val .tick)

/-- WSLOT (R170): FN[0] 0 names slot IMM[3:0]; FN[0] 1 waits for any slot boundary. -/
def execWslot (t : Fin 4) (s : State) : Host.Outcome State Fault Refusal :=
  .next (s.quiet.oldest t.val (· == .wslot) fun i s => s.unlockedOnly t.val fun s =>
    s.waitFor t.val (.slot (if i.fn = 0 then some (i.imm % 16) else none)))

/-- WFLAG (R170): commits with RD ← 0 when the line equals the level. The tag of the RD that a wait writes is clear (log entry 162). -/
def execWflag (t : Fin 4) (s : State) : Host.Outcome State Fault Refusal :=
  .next (s.quiet.oldest t.val (· == .wflag) fun i s => s.unlockedOnly t.val fun s =>
    let line := nbits i.imm 23 16
    if s.flagLine line == (i.fn == 1) then (s.setReg t.val i.rd 0 false).commit t.val
    else s.waitFor t.val (.flag line (i.fn == 1) (i.imm % 2 ^ 16 ≠ 0) i.rd))

/-- A fill of region n is on the region command path. -/
def State.fillOnPath (s : State) (n : Nat) : Bool :=
  s.rpath.any fun c => match c with
    | .cmd m ⟨.fill _ _, _⟩ _ => m == n
    | .spec m _ _ _ => m == n
    | _ => false

/-- WSHAD's condition (R171): no fill of the region is QUEUED or FILLING, or committed and on its way; at once for a region
that is OFF or unusable. -/
def State.shadowSettled (s : State) (n : Nat) : Bool :=
  s.rstate n = .off || s.unusable n ||
  (s.shState n ≠ .queued && s.shState n ≠ .filling && !(s.fillOnPath n))

/-- The value WSHAD writes (R171). -/
def State.shadowWord (s : State) (n : Nat) : Word :=
  let st := if s.rstate n = .off || s.unusable n then 0 else s.rd (R.REGION_STATUS_SHADOW_STATE n)
  BitVec.ofNat 64 (s.rd (R.REGION_FILL_RESULT n) + 16 * st + 64 * s.rd (R.REGION_STATUS_SHADOW_PLANE n) +
    512 * s.rd (R.REGION_STATUS_SHADOW_SPEC n))

/-- WSHAD (R170, R171): its index operand is consumed (R161). -/
def execWshad (t : Fin 4) (s : State) : Host.Outcome State Fault Refusal :=
  .next (s.quiet.oldest t.val (· == .wshad) fun i s => s.unlockedOnly t.val fun s => s.consuming t.val [i.ra] fun s =>
    let n := i.regionIdx (s.reg t.val i.ra)
    if s.shadowSettled n then (s.setReg t.val i.rd (s.shadowWord n) false).commit t.val else s.waitFor t.val (.shad n i.rd))

/-- DELAY (R170): IMM sequencer cycles; at once for 0. -/
def execDelay (t : Fin 4) (s : State) : Host.Outcome State Fault Refusal :=
  .next (s.quiet.oldest t.val (· == .delay) fun i s => s.unlockedOnly t.val fun s =>
    if i.imm = 0 then s.commit t.val else s.waitFor t.val .delay)

/-- The courier is idle (R178). -/
def State.courierIdle (s : State) (c : Nat) : Bool := s.rd (R.COURIER_STAT_STATE c) == 0

/-- CWAIT (R178): waits until the courier is idle, then RD ← its CODE. -/
def execCwait (t : Fin 4) (s : State) : Host.Outcome State Fault Refusal :=
  .next (s.quiet.oldest t.val (· == .cwait) fun i s => s.unlockedOnly t.val fun s => s.consuming t.val [i.ra] fun s =>
    let c := i.courierIdx (s.reg t.val i.ra)
    if s.courierIdle c then (s.setReg t.val i.rd (BitVec.ofNat 64 (s.rd (R.COURIER_STAT_CODE c))) false).commit t.val
    else s.waitFor t.val (.courier c i.rd))

/-- WAIT_CONDITION_MET (R165, R170, R171, R178): the condition of the waiting instruction holds, and it commits. Waits for
boundaries and barriers commit there. -/
def execWaitConditionMet (t : Fin 4) (s : State) : Host.Outcome State Fault Refusal :=
  let s := s.quiet
  let t := t.val
  match (s.thread t).wait with
  | some (.flag line level _ rd) =>
    if s.flagLine line == level then .next ((s.setReg t rd 0 false).commit t) else .next s
  | some (.shad n rd) => if s.shadowSettled n then .next ((s.setReg t rd (s.shadowWord n) false).commit t) else .next s
  | some .delay => .next (s.commit t)
  | some (.courier c rd) =>
    if s.courierIdle c then .next ((s.setReg t rd (BitVec.ofNat 64 (s.rd (R.COURIER_STAT_CODE c))) false).commit t)
    else .next s
  | some .tick | some (.slot _) | some (.bar _ _ _) | none => .next s

/-- WFLAG_TIMEOUT (R170): the timeout of a WFLAG expires with the condition not met: RD ← 1. The condition wins over it. -/
def execWflagTimeout (t : Fin 4) (s : State) : Host.Outcome State Fault Refusal :=
  let s := s.quiet
  match (s.thread t.val).wait with
  | some (.flag line level true rd) =>
    .next ((s.setReg t.val rd (if s.flagLine line == level then 0 else 1) false).commit t.val)
  | _ => .next s

/-- BAR (R180): RD ← 2 at once for a thread that takes no part; otherwise it arrives and waits for the release. -/
def execBar (t : Fin 4) (s : State) : Host.Outcome State Fault Refusal :=
  .next (s.quiet.oldest t.val (· == .bar) fun i s => s.unlockedOnly t.val fun s =>
    let b := i.imm % 16
    if !(s.bit (R.SEQ_BAR_CFG_THREADS b) t.val) then (s.setReg t.val i.rd 2 false).commit t.val
    else ((s.setBit (R.SEQ_BAR_CFG_ARRIVED b) t.val).waitFor t.val (.bar b i.rd (i.imm / 2 ^ 16 ≠ 0))).barCheck b)

/-- BAR_TIMEOUT (R180): the arrival is withdrawn and BAR commits with RD ← 1. -/
def execBarTimeout (t : Fin 4) (s : State) : Host.Outcome State Fault Refusal :=
  let s := s.quiet
  match (s.thread t.val).wait with
  | some (.bar b rd true) =>
    .next (((s.clrBit (R.SEQ_BAR_CFG_ARRIVED b) t.val).setReg t.val rd 1 false).commit t.val)
  | _ => .next s

/-- A write of SEQ_BAR_CFG[b] (R180, R373): THREADS and REMOTE keep while ARRIVED is not 0, and REMOTE is refused where its
GBAR_CFG has NDEV below 2 or a leader that is not routed; CFG_ERR is set. -/
def wrBarCfg (s : State) (b : Nat) (v : BitVec 32) : State :=
  let s := s.w1cOnly (.SEQ_BAR_CFG b) v
  let threads := (R.SEQ_BAR_CFG_THREADS b).of v
  let remote := (R.SEQ_BAR_CFG_REMOTE b).of v
  if threads = s.rd (R.SEQ_BAR_CFG_THREADS b) ∧ remote = s.rd (R.SEQ_BAR_CFG_REMOTE b) then s
  else if s.rd (R.SEQ_BAR_CFG_ARRIVED b) ≠ 0 then s.set1 (R.SEQ_BAR_CFG_CFG_ERR b)
  else
    let leader := s.rd (R.GBAR_CFG_LEADER b)
    let routed := leader == s.rd R.NET_CFG_DEV_NUM || s.is1 (R.DEV_ROUTE_EN leader)
    if remote = 1 ∧ (s.rd (R.GBAR_CFG_NDEV b) < 2 ∨ routed = false) then s.set1 (R.SEQ_BAR_CFG_CFG_ERR b)
    else (s.wr (R.SEQ_BAR_CFG_THREADS b) threads).wr (R.SEQ_BAR_CFG_REMOTE b) remote

/-! ## Flag lines (R82, R83) -/

/-- FLAG_CHANGE (R82, R83, R486): the active context, which runs, drives a new level on flag line 4n + k; a rising edge feeds the channels that name the
line. Under the blank configuration, which drives nothing, the line keeps its value (DESIGN CHOICE, log entry 263). -/
def execFlagChange (n : Fin 64) (k : Fin 4) (level : Bool) (s : State) : Host.Outcome State Fault Refusal :=
  let s := s.quiet
  if !(s.takesFlits n.val) || s.flagDriven n.val k.val != level || s.bit (R.REGION_LINES_FLAG n.val) k.val == level then .next s
  else if level then
    .next ((s.setBit (R.REGION_LINES_FLAG n.val) k.val).pulses fun c =>
      s.is1 (R.DBG_XT_SRC_FLAG_EN c) && s.rd (R.DBG_XT_SRC_FLAG c) == 4 * n.val + k.val)
  else .next (s.clrBit (R.REGION_LINES_FLAG n.val) k.val)

end Sys2Proof.Machine
end

