-- ==== Sys2Proof/Machine/CsrBus.lean ====
section
/-! DEFINITION. The CSR space as a whole (00_scope.md, R10 to R16; 21_register_index.md): which register an offset names, what a read
of it shows, and what a write to it does. -/

namespace Sys2Proof.Machine

/-! ## Which register an offset names (R10, R513, R514) -/

/-- The _HI register of a pair that is read at its _LO, or the other way round, and whether r is the _HI (R16). -/
def Reg.pair : Reg → Option (Reg × Bool)
  | .TICK_COUNT_LO => some (.TICK_COUNT_HI, false) | .TICK_COUNT_HI => some (.TICK_COUNT_LO, true)
  | .IMEM_LO w => some (.IMEM_HI w, false) | .IMEM_HI w => some (.IMEM_LO w, true)
  | .IMG_BYTES_LO => some (.IMG_BYTES_HI, false) | .IMG_BYTES_HI => some (.IMG_BYTES_LO, true)
  | .COURIER_DESC_LO c => some (.COURIER_DESC_HI c, false) | .COURIER_DESC_HI c => some (.COURIER_DESC_LO c, true)
  | .COURIER_FAIL_LO c => some (.COURIER_FAIL_HI c, false) | .COURIER_FAIL_HI c => some (.COURIER_FAIL_LO c, true)
  | .COURIER_MOVED_LO c => some (.COURIER_MOVED_HI c, false) | .COURIER_MOVED_HI c => some (.COURIER_MOVED_LO c, true)
  | .LARDER_WB_FAIL_LO => some (.LARDER_WB_FAIL_HI, false) | .LARDER_WB_FAIL_HI => some (.LARDER_WB_FAIL_LO, true)
  | .PROT_LAST_LO d => some (.PROT_LAST_HI d, false) | .PROT_LAST_HI d => some (.PROT_LAST_LO d, true)
  | .SD_KEYTAG_ADDR_LO => some (.SD_KEYTAG_ADDR_HI, false) | .SD_KEYTAG_ADDR_HI => some (.SD_KEYTAG_ADDR_LO, true)
  | .TWIN_MIRR_TICK_LO => some (.TWIN_MIRR_TICK_HI, false) | .TWIN_MIRR_TICK_HI => some (.TWIN_MIRR_TICK_LO, true)
  | .SNAP_REGIONS_LO => some (.SNAP_REGIONS_HI, false) | .SNAP_REGIONS_HI => some (.SNAP_REGIONS_LO, true)
  | .SNAP_DEST_LO => some (.SNAP_DEST_HI, false) | .SNAP_DEST_HI => some (.SNAP_DEST_LO, true)
  | .THERM_NOTIFY_LO => some (.THERM_NOTIFY_HI, false) | .THERM_NOTIFY_HI => some (.THERM_NOTIFY_LO, true)
  | .DBG_INIT_ADDR_LO => some (.DBG_INIT_ADDR_HI, false) | .DBG_INIT_ADDR_HI => some (.DBG_INIT_ADDR_LO, true)
  | .DBG_THR_DATA_LO => some (.DBG_THR_DATA_HI, false) | .DBG_THR_DATA_HI => some (.DBG_THR_DATA_LO, true)
  | .DBG_XT_REG_LO c => some (.DBG_XT_REG_HI c, false) | .DBG_XT_REG_HI c => some (.DBG_XT_REG_LO c, true)
  | _ => none

/-! ## What registers show -/

/-- A register whose fields are shown as they are stored, but for some that show other state. -/
def State.regWith (s : State) (r : Reg) (ov : List (Fld × Nat)) : Nat :=
  r.fields.foldl (fun a u => a ||| (match ov.find? fun e => e.1 == u.fld with
    | some e => (e.2 % 2 ^ u.fld.width) <<< u.fld.lo
    | none => s.fieldValue u)) 0

/-- DEVICE_ID with its fused fields. -/
def State.deviceId (s : State) : Nat :=
  s.regWith .DEVICE_ID [(R.DEVICE_ID_SPEED, s.fuses.speed), (R.DEVICE_ID_TEMP, s.fuses.temp)]

/-- Byte 3 of the status block (R433): READY, REJECT, ALERT, ABORT_LATE, STEP. -/
def State.deskFlags (s : State) : Nat :=
  s.desk.ready.toNat + 2 * s.desk.reject.toNat + 4 * s.rd R.GB_STAT_ALERT + 8 * s.desk.late.toNat + 16 * s.rd R.START_STAT_STEP

/-- The entries of a tracker in a state (TRACK_STAT). -/
def State.tracked (s : State) (t : Nat) (x : TrackState) : Nat := ((s.track t).filter fun e => e.state == x).length

/-- The flag lines 32i to 32i + 31 (SEQ_FLAGS). -/
def State.flagWord (s : State) (i : Nat) : Nat := mapWord s.flagLine i

/-- The regions that hold source DEBUG holds, as DBG_REG_HALT[i] and DBG_REG_REL[i] show them. -/
def State.debugHeld (s : State) (i : Nat) : Nat := mapWord (fun n => s.holds n .debug) i

/-- RUNAHEAD of thread t: issued uncommitted instructions, a free number of at most 24 (R143), of at most one inside a locked sequence, where each
instruction issues as the oldest (R148); none of a thread that does not run, whose uncommitted instructions were squashed. -/
def State.runAhead (s : State) (t : Nat) : Nat :=
  if !(s.threadLive t) then 0 else if s.locked t || (s.thread t).stepping then s.draw % 2 else s.draw % 25

/-- The value that a read of a register shows (R11), side effects apart. Registers that only show other state are computed here. -/
def State.csrValue (s : State) (r : Reg) : Nat :=
  match r with
  | .DEVICE_ID => s.deviceId
  | .SEQ_FLAGS i => s.flagWord i
  | .TICK_STAT => s.regWith r [(R.TICK_STAT_POS, s.tickPos)]
  | .FILL_STAT => s.regWith r [(R.FILL_STAT_IN_FLIGHT, s.fillsInFlight), (R.FILL_STAT_QUEUED, s.fillq.length)]
  | .REGION_PORT_STAT n p =>
    s.regWith r [(R.REGION_PORT_STAT_PARKED n p, (s.port n p).parked.length), (R.REGION_PORT_STAT_INQ n p, (s.port n p).inq.length)]
  | .SEQ_THR_STATUS t =>
    s.regWith r [(R.SEQ_THR_STATUS_RUNAHEAD t, s.runAhead t)]
  | .PATROL_STAT => s.regWith r [(R.PATROL_STAT_RUNNING, s.patrolRuns.toNat)]
  | .PORTER_STAT d => s.regWith r [(R.PORTER_STAT_RUNNING d, (s.porterRuns d).toNat)]
  | .WS_STAT n => s.regWith r [(R.WS_STAT_PARKED n, min 16 (s.parkedAt n))]
  | .COURIER_STAT c => s.regWith r [(R.COURIER_STAT_OUTSTANDING c, (s.courier c).reads)]
  | .TRACK_STAT d u =>
    let t := 96 * d + u
    if u < 64 && !(s.sliceIn (64 * d + u)) then 0
    else s.regWith r [(R.TRACK_STAT_IN_USE d u, (s.track t).length), (R.TRACK_STAT_QUEUED d u, s.tracked t .queued),
      (R.TRACK_STAT_HARD d u, s.tracked t .hard)]
  | .LC_STATE =>
    let f := s.lcFuses
    s.regWith r [(R.LC_STATE_STATE, f.lc), (R.LC_STATE_DBG_CAP, f.cap.toNat), (R.LC_STATE_KEK_SET, f.kek.isSome.toNat),
      (R.LC_STATE_DBGKEY_SET, f.dbgKey.isSome.toNat), (R.LC_STATE_SLOT_EPOCH, f.epoch)]
  | .RNG_OUT => if s.is1 R.RNG_STAT_HEALTHY then s.rngWord else 0
  | .FD_STAT =>
    s.regWith r [(R.FD_STAT_FLAGS, s.deskFlags), (R.FD_STAT_DETAIL, s.desk.detail), (R.FD_STAT_CMD, s.desk.code),
      (R.FD_STAT_STATUS, s.desk.status)]
  | .TEST_FAIL_LOC e =>
    (match (s.engine e).fifo with
     | [] => 0
     | f :: _ => s.regWith r [(R.TEST_FAIL_LOC_ROW e, f.row), (R.TEST_FAIL_LOC_COL e, f.col)])
  | .TEST_FAIL_INFO e => failInfo (s.engine e).fifo
  | .SNOOP_STAT u => s.regWith r [(R.SNOOP_STAT_FIFO_DEPTH u, (s.snoop u).fifo.length)]
  | .SNOOP_FIFO_INFO u =>
    (match (s.snoop u).fifo with
     | [] => 0
     | x :: _ => s.regWith r [(R.SNOOP_FIFO_INFO_VALID u, 1), (R.SNOOP_FIFO_INFO_POISONED u, x.poison.toNat),
         (R.SNOOP_FIFO_INFO_SEQ u, x.seq)])
  | .SNOOP_FIFO_VAL u => (match (s.snoop u).fifo with | [] => 0 | x :: _ => x.value)
  | .THERM_CELL i =>
    if i < 192 then s.regValue r else s.regWith r [(R.THERM_CELL_SENSOR i, 0x800), (R.THERM_CELL_FAILED i, 1)]
  | .BANK_OWNER b | .BANK_CFG b | .BANK_WIN_A b | .BANK_WIN_B b | .BANK_PWR b | .BANK_STAT b => if s.bankIn b then s.regValue r else 0
  | .DBG_REG_HALT i | .DBG_REG_REL i => s.debugHeld i
  | .DBG_THR_CTL t => s.regWith r [(R.DBG_THR_CTL_HALTED t, (decide (s.tstate t = .halted)).toNat)]
  | _ => s.regValue r

/-- The side effect of a read (R11): RS fields clear, and FIFO ports and RNG_OUT go on. What was drawn to be shown is used up. -/
def State.readEffect (s : State) (r : Reg) : State :=
  match r with
  | .RNG_OUT => if s.is1 R.RNG_STAT_HEALTHY then s.drawn else s
  | .SEQ_THR_STATUS t => if s.threadLive t then s.drawn else s
  | .SNOOP_FIFO_VAL u => s.setSnoop u { s.snoop u with fifo := (s.snoop u).fifo.drop 1 }
  | .TEST_FAIL_INFO e => s.setEngine e { s.engine e with fifo := (s.engine e).fifo.drop 1 }
  | _ => s.readClears r

/-- The value of a read by an initiator (R16): _HI returns and consumes its capture, and _LO captures _HI. -/
def State.pairRead (s : State) (ini : Ini) (off : Nat) (r : Reg) : State × Nat :=
  match r.pair with
  | some (hi, false) =>
    ({ s with captures := storeSet none (pairKey off ini) (some (s.csrValue hi)) s.captures }, s.csrValue r)
  | some (_, true) =>
    (match storeGet none (pairKey (off - 4) ini) s.captures with
     | some v => ({ s with captures := storeSet none (pairKey (off - 4) ini) none s.captures }, v)
     | none => (s, s.csrValue r))
  | none => (s, s.csrValue r)

/-! ## Which accesses are turned away -/

/-- The debug block (R470). -/
def inDebug (off : Nat) : Bool := decide (0x7000000 ≤ off) && decide (off < 0x7800000)

/-- A write that the life-cycle state or the initiator's authority bars (R406, R440, R441): it is answered DENIED. -/
def State.writeBarred (s : State) (ini : Ini) (off : Nat) (r : Reg) (v : BitVec 32) : Bool :=
  (off / 0x100000 == 1 && s.fromInside ini) ||
  match r with
  | .KEY_CMD => s.keyBarred (R.KEY_CMD_CMD.of v)
  | .MKEY_CMD => s.mkeyBarred (R.MKEY_CMD_CMD.of v)
  | .TEST_CMD e => s.testBarred e v
  | .LBIST_CTL => s.scanBarred && R.LBIST_CTL_GO.of v == 1
  | .THERM_OVERRIDE => R.THERM_OVERRIDE_RELEASE_HOLD.of v == 0 || !(s.holdsFull ini)
  | _ => false

/-- What a write that the life-cycle state bars still shows (R444, R455): the ERR flag of KEY_CMD and of TEST_CMD_e. -/
def State.barredShown (s : State) (ini : Ini) (off : Nat) (r : Reg) : State :=
  if off / 0x100000 == 1 && s.fromInside ini then s
  else match r with
    | .KEY_CMD => s.set1 R.KEY_CMD_ERR
    | .TEST_CMD e => s.set1 (R.TEST_CMD_ERR e)
    | _ => s

/-! ## Writes -/

/-- IMG_CTL (R209): ABORT fails a load that has not committed. -/
def wrImgCtl (s : State) (v : BitVec 32) : State :=
  let s := s.storeReg .IMG_CTL v
  if R.IMG_CTL_ABORT.of v = 1 then s.loadFails 0x10 else s

/-- PLANE_CMD (R93): CMD 0x1 is ERASE; other codes are reserved. -/
def wrPlaneCmd (s : State) (v : BitVec 32) : State :=
  let s := s.storeReg .PLANE_CMD v
  if R.PLANE_CMD_CMD.of v = 1 then s.erase (s.rd R.PLANE_CMD_REGION) (s.rd R.PLANE_CMD_PLANE) else s

/-- What a write to a register does (R11, and the rule of each register's own chapter). -/
def State.wrReg (s : State) (ini : Ini) (r : Reg) (v : BitVec 32) : State :=
  match r with
  | .CLK_NET_CFG g => wrClkNetCfg s g v
  | .REGION_CLK n => wrRegionClk s n v
  | .REGION_PORT_CFG n p => wrPortCfg s n p v
  | .REGION_PORT_SLOTS n p => wrPortSlots s n p v
  | .PLANE_CMD => wrPlaneCmd s v
  | .REGION_CTL n => wrRegionCtl s n v
  | .TICK_CTL => wrTickCtl s v
  | .SLOT_START_NEXT k => if k = 0 then s else s.storeReg r v
  | .REGION_OVR n => wrRegionOvr s n v
  | .SEQ_THR_CTL t => wrThrCtl s t v
  | .SEQ_WDT t => wrWdt s t v
  | .SEQ_BAR_CFG b => wrBarCfg s b v
  | .IMG_CTL => wrImgCtl s v
  | .PATROL_CTL => wrPatrolCtl s v
  | .NET_EPOCH => wrNetEpoch s v
  | .WS_ISOL n => wrWsIsol s n v
  | .WS_RT n b i => wrRouteTable s n b i v
  | .COURIER_CTL c => wrCourierCtl s c v
  | .LARDER_CTL => wrLarderCtl s v
  | .BANK_OWNER b => wrBankOwner s b v
  | .BANK_CFG b => wrBankCfg s b v
  | .BANK_WIN_A b => wrBankWin s b false v
  | .BANK_WIN_B b => wrBankWin s b true v
  | .BANK_PWR b => wrBankPwr s b v
  | .PORTER_CTL d => wrPorterCtl s d v
  | .PROT_FLIP_CTL d => wrFlipCtl s d v
  | .SD_CFG => wrSdCfg s v
  | .MKEY_CMD => wrMkeyCmd s v
  | .MKEY_WIN_BASE w => wrMkeyWinBase s w v
  | .MKEY_WIN_LIM w => wrMkeyWinLim s w v
  | .SD_CH_CTL c => wrSdChCtl s c v
  | .LINK_CTL g => wrLinkCtl s g v
  | .RAW_CFG g => wrRawCfg s g v
  | .TWIN_CTL => wrTwinCtl s v
  | .TWIN_CFG => wrTwinCfg s v
  | .TWIN_OUT => wrTwinOut s v
  | .TWIN_LANES => wrTwinLanes s v
  | .SNAP_CTL => wrSnapCtl s v
  | .GBAR_CFG b => wrGbarCfg s b v
  | .GRESET_CTL => wrGresetCtl s v
  | .SNOOP_CTL u => wrSnoopCtl s u v
  | .SNOOP_N u | .SNOOP_FILT u | .SNOOP_NMASK u => wrSnoopCfg s u r v
  | .PWR_DOM_CTL d => wrPwrDom s d v
  | .THERM_OVERRIDE => s.clr R.THERM_STAT_HOLD
  | .THERM_SENS_FAIL l => wrSensFail s l v
  | .GB_STAT => wrGbStat s v
  | .RST_DIE => wrRstDie s v
  | .LC_CTL => wrLcCtl s ini v
  | .KEY_CMD => wrKeyCmd s v
  | .KEY_IN i => s.wr (R.KEY_IN_DATA i) v.toNat
  | .ALARM_CFG a => wrAlarmCfg s ini a v
  | .TEST_CMD e => wrTestCmd s e v
  | .STACK_TEST => wrStackTest s v
  | .LBIST_CTL => wrLbistCtl s v
  | .REPAIR_CTL => wrRepairCtl s ini v
  | .GPIO_BANK_CFG b => wrGpioBankCfg s b v
  | _ => s.storeReg r v

/-- Whether a register of a pair can be written. -/
def Reg.writable (r : Reg) : Bool := r.fields.any fun u => u.acc == .rw

/-- Both halves of a pair take their values in one cycle (R16). -/
def State.commitPair (s : State) (ini : Ini) (off : Nat) (lo hi : Reg) (v : BitVec 32) : State :=
  match hi with
  | .IMEM_HI w => wrImemHi s ini w v
  | _ =>
    let held := BitVec.ofNat 32 (s.pairLo (off - 4) ini (s.regValue lo))
    ((s.dropLo (off - 4) ini).storeReg lo held).storeReg hi v

/-- A write by the register's own rule, or by R16 where it belongs to a writable pair. -/
def State.pairWrite (s : State) (ini : Ini) (off : Nat) (r : Reg) (v : BitVec 32) : State :=
  match r.pair with
  | none => s.wrReg ini r v
  | some (other, isHi) =>
    if !r.writable then s.storeReg r v
    else if isHi then s.commitPair ini off other r v else s.holdLo off ini v.toNat

/-! ## The bus (R10, R467, R470) -/

/-- An address-routed read of a CSR by an initiator; the debug initiator's is a peek (R13, R478). -/
def State.busRead (s : State) (ini : Ini) (off size : Nat) : State × Resp × Nat :=
  if size ≠ 4 ∨ off % 4 ≠ 0 then (s, .decode, 0)
  else match s.turnedAway off with
    | some code => (s, code, 0)
    | none =>
      if inDebug off && regAt off != some .DBG_SESSION_STAT then (s, .denied, 0)
      else match regAt off with
        | none => (s, .decode, 0)
        | some r =>
          let x := s.pairRead ini off r
          if s.peeks ini then (x.1, .ok, x.2) else (x.1.readEffect r, .ok, x.2)

/-- An address-routed write of a CSR by an initiator; one with a poisoned word is not performed (R300). -/
def State.busWrite (s : State) (ini : Ini) (off size : Nat) (poison : Bool) (v : BitVec 32) : State × Resp :=
  if size ≠ 4 ∨ off % 4 ≠ 0 then (s, .decode)
  else match s.turnedAway off with
    | some code => (s, code)
    | none =>
      if poison then (s.log .poisonConsumed (ini.node :: words64 (0x60000000000 + off)), .denied)
      else if inDebug off then (s, .denied)
      else match regAt off with
        | none => (s, .decode)
        | some r => if s.writeBarred ini off r v then (s.barredShown ini off r, .denied) else (s.pairWrite ini off r v, .ok)

/-- The flags that show that a register refused a write under its own rules. -/
def Reg.refusals : Reg → List Fld
  | .CLK_NET_CFG g => [R.CLK_NET_CFG_BUSY_ERR g, R.CLK_NET_CFG_CFG_ERR g]
  | .REGION_CLK n => [R.REGION_CLK_SEL_ERR n]
  | .REGION_PORT_CFG n p | .REGION_PORT_SLOTS n p => [R.REGION_PORT_CFG_CFG_ERR n p]
  | .PLANE_CMD => [R.PLANE_CMD_ERR]
  | .REGION_CTL n => [R.REGION_CTL_CMD_ERR n]
  | .TICK_CTL => [R.TICK_CTL_CFG_ERR]
  | .SEQ_THR_CTL t => [R.SEQ_THR_CTL_CMD_ERR t]
  | .SEQ_BAR_CFG b => [R.SEQ_BAR_CFG_CFG_ERR b]
  | .NET_EPOCH => [R.NET_EPOCH_ERR]
  | .WS_RT n _ _ => [R.WS_STAT_RT_ERR n]
  | .COURIER_CTL c => [R.COURIER_CTL_GO_ERR c]
  | .LARDER_CTL => [R.LARDER_CTL_ERR]
  | .BANK_OWNER b => [R.BANK_OWNER_CFG_ERR b]
  | .BANK_CFG b | .BANK_WIN_A b | .BANK_WIN_B b => [R.BANK_CFG_CFG_ERR b]
  | .SD_CFG => [R.SD_CFG_CFG_ERR]
  | .MKEY_CMD => [R.MKEY_CMD_ERR]
  | .MKEY_WIN_BASE w | .MKEY_WIN_LIM w => [R.MKEY_WIN_BASE_CFG_ERR w]
  | .SD_CH_CTL c => [R.SD_CH_CTL_CMD_ERR c]
  | .LINK_CTL g | .RAW_CFG g => [R.LINK_CTL_CFG_ERR g]
  | .TWIN_CTL | .TWIN_CFG => [R.TWIN_CTL_CMD_ERR]
  | .SNAP_CTL => [R.SNAP_CTL_ERR]
  | .GBAR_CFG b => [R.GBAR_CFG_CFG_ERR b]
  | .SNOOP_CTL u | .SNOOP_N u | .SNOOP_FILT u | .SNOOP_NMASK u => [R.SNOOP_CTL_CFG_ERR u]
  | .PWR_DOM_CTL d => [R.PWR_DOM_CTL_ERR d]
  | _ => []

/-- The register at an offset would refuse the value now (R205): the write sets one of its flags anew, or leaves ARM clear (R304). -/
def State.refuses (s : State) (ini : Ini) (off : Nat) (v : BitVec 32) : Bool :=
  match regAt off with
  | none => false
  | some r =>
    let t := r.refusals.foldl State.clr s
    let u := (t.busWrite ini off 4 false v).1
    r.refusals.any u.is1 || (match r with
      | .PROT_FLIP_CTL d => (R.PROT_FLIP_CTL_ARM d).of v == 1 && !(u.is1 (R.PROT_FLIP_CTL_ARM d))
      | _ => false)

/-- A read with its answer. -/
def State.readAnswer (s : State) (ini : Ini) (off : Nat) : State :=
  let x := s.busRead ini off 4
  x.1.emit (.regAnswer ini x.2.1 x.2.2)

/-- A write with its answer. -/
def State.writeAnswer (s : State) (ini : Ini) (off size : Nat) (poison : Bool) (v : BitVec 32) : State :=
  let x := s.busWrite ini off size poison v
  x.1.emit (.regAnswer ini x.2 0)

/-- REGISTER_WRITE (R10, R11, R15, R300). -/
def execRegisterWrite (ini : Ini) (off : BitVec 28) (size : Nat) (value : WriteData) (s : State) :
    Host.Outcome State Fault Refusal := .next (s.quiet.writeAnswer ini off.toNat size value.poison value.word)

/-- RS_FIELD_READ (R11, R13). -/
def execRsFieldRead (ini : Ini) (off : BitVec 28) (s : State) : Host.Outcome State Fault Refusal :=
  .next (s.quiet.readAnswer ini off.toNat)

/-- PAIR_LO_READ (R16). -/
def execPairLoRead (ini : Ini) (off : BitVec 28) (s : State) : Host.Outcome State Fault Refusal :=
  .next (s.quiet.readAnswer ini off.toNat)

/-- PAIR_HI_READ (R16). -/
def execPairHiRead (ini : Ini) (off : BitVec 28) (s : State) : Host.Outcome State Fault Refusal :=
  .next (s.quiet.readAnswer ini off.toNat)

/-- PAIR_LO_WRITE (R16, R300). -/
def execPairLoWrite (ini : Ini) (off : BitVec 28) (value : WriteData) (s : State) : Host.Outcome State Fault Refusal :=
  .next (s.quiet.writeAnswer ini off.toNat 4 value.poison value.word)

/-- PAIR_HI_WRITE (R16, R300). -/
def execPairHiWrite (ini : Ini) (off : BitVec 28) (value : WriteData) (s : State) : Host.Outcome State Fault Refusal :=
  .next (s.quiet.writeAnswer ini off.toNat 4 value.poison value.word)

end Sys2Proof.Machine
end

