-- ==== Sys2Proof/Machine/Debug.lean ====
section
/-! DEFINITION. Debug and trace (19_debug_trace.md, R470 to R494): the JTAG port, debug sessions, the debug initiator, halts, cross-trigger
channels and the trace engine's registers. -/

namespace Sys2Proof.Machine

/-- Set the JTAG port. -/
def State.setJtag (s : State) (x : Jtag) : State := { s with jtag := x }

/-! ## JTAG instructions (R471) -/

/-- What GPIO bank b's pads carry (R471): the device's control, or the boundary register under EXTEST and CLAMP, or nothing under
HIGHZ. Cells 3n, 3n + 1 and 3n + 2 of pin n are its input, output and output enable. -/
def State.padDrive (s : State) (b : Nat) : Pads :=
  let cell := fun k => (List.range 32).foldl (fun m p => if s.jtag.cells.testBit (3 * (32 * b + p) + k) then m + 2 ^ p else m) 0
  if s.jtag.ir = 3 ∨ s.jtag.ir = 5 then ⟨BitVec.ofNat 32 (cell 1), BitVec.ofNat 32 (cell 2)⟩
  else if s.jtag.ir = 4 then {}
  else s.pad b

/-- Instructions that take the pins from the device (R471): while STARTED is 0, or with a FULL JTAG session. -/
def State.pinsAllowed (s : State) : Bool := !(s.is1 R.IMG_STATUS_STARTED) || s.dlevel .jtag == 2

/-- An instruction takes effect at Update-IR (R471): the named one where its condition holds, BYPASS otherwise. -/
def State.loadIr (s : State) (code : Nat) (allowed : Bool) : State :=
  s.setJtag { s.jtag with ir := if allowed then code else 0xFF }

/-- IDCODE (R4, R471): the 32-bit identification register is captured. Test-Logic-Reset, by TRST_N or by TMS, leaves the same instruction (log entry
285). -/
def execIdcode (s : State) : Host.Outcome State Fault Refusal :=
  .next ((s.quiet.loadIr 1 true).emit (.jtagOut 32 0x10816753))

/-- The boundary register as SAMPLE captures it (R471): the level at each pad, what the pads carry, and the dedicated pins' cells. -/
def State.sampleCells (s : State) (levels : List (BitVec 32)) (dedicated : Nat) : Nat :=
  let bank := fun (b : Nat) =>
    let x := s.padDrive b
    (List.range 32).foldl (fun m p =>
      m + ((levels.getD b 0).getLsbD p).toNat * 2 ^ (3 * p) + (x.data.getLsbD p).toNat * 2 ^ (3 * p + 1) +
        (x.oe.getLsbD p).toNat * 2 ^ (3 * p + 2)) 0
  (List.range 32).foldl (fun m b => m + bank b * 2 ^ (96 * b)) 0 + dedicated * 2 ^ 3072

/-- SAMPLE/PRELOAD (R471): the boundary register is captured, and the value shifted in is held in it. -/
def execSamplePreload (levels : List (BitVec 32)) (dedicated : BitVec 64) (value : BitVec 3136) (s : State) :
    Host.Outcome State Fault Refusal :=
  let s := s.quiet
  if levels.length ≠ 32 then .fault (.illFormed "SAMPLE_PRELOAD")
  else
    let out := s.sampleCells levels dedicated.toNat
    let s := s.loadIr 2 true
    .next ((s.setJtag { s.jtag with cells := value.toNat }).emit (.jtagOut 3136 out))

/-- The bypass register is captured (R471): one bit, 0 as IEEE 1149.1 has it (log entry 285). -/
def State.bypassOut (s : State) : State := s.emit (.jtagOut 1 0)

/-- EXTEST (R471): the pins carry the boundary register, as preloaded or as then shifted in; the register is captured before, from the levels at the pads
and what the pads carry. Not permitted, it acts as BYPASS. -/
def execExtest (scan : Option BoundaryScan) (s : State) : Host.Outcome State Fault Refusal :=
  let s := s.quiet
  match scan with
  | some x =>
    if x.levels.length ≠ 32 then .fault (.illFormed "EXTEST")
    else if !s.pinsAllowed then .next (s.loadIr 3 false).bypassOut
    else
      let s := s.loadIr 3 true
      let out := s.sampleCells x.levels x.dedicated.toNat
      .next ((s.setJtag { s.jtag with cells := x.value.toNat }).emit (.jtagOut 3136 out))
  | none => .next (if s.pinsAllowed then s.loadIr 3 true else (s.loadIr 3 false).bypassOut)

/-- HIGHZ (R471). -/
def execHighz (s : State) : Host.Outcome State Fault Refusal := .next (s.quiet.loadIr 4 s.pinsAllowed).bypassOut

/-- CLAMP (R471). -/
def execClampInstr (s : State) : Host.Outcome State Fault Refusal := .next (s.quiet.loadIr 5 s.pinsAllowed).bypassOut

/-- DBG (R471). -/
def execDbg (s : State) : Host.Outcome State Fault Refusal := .next (s.quiet.loadIr 0x10 true)

/-- SCAN (R467, R471): reached only in BLANK, VENDOR_TEST and RETURNED, and BYPASS otherwise. -/
def execScan (s : State) : Host.Outcome State Fault Refusal :=
  let s := s.quiet
  .next (if s.scanBarred then (s.loadIr 0x20 false).bypassOut else s.loadIr 0x20 true)

/-- BYPASS, or a code that R471 does not list. -/
def execBypass (code : BitVec 8) (s : State) : Host.Outcome State Fault Refusal :=
  if [1, 2, 3, 4, 5, 0x10, 0x20].contains code.toNat then .fault (.illFormed "BYPASS") else .next (s.quiet.loadIr 0xFF true).bypassOut

/-! ## Authority (R440, R445, R474, R475) -/

/-- The highest level that the life cycle permits (R440). -/
def State.levelCap (s : State) : Nat :=
  match s.lc with
  | 3 => if s.lcFuses.cap then 2 else 1
  | 5 => 0
  | _ => 2

/-- The level that an access needs (R474). Writing SW is no action of its own: it is a source, like those of DBG_XT_SRC. -/
def State.levelNeeded (s : State) (r : Reg) (write : Bool) (v : BitVec 32) : Nat :=
  match r with
  | .DBG_AUTH | .DBG_CHAL _ | .DBG_RESP _ | .DBG_SESSION_STAT => 0
  | .DBG_THR_CTL _ | .DBG_THR_DATA_LO | .DBG_THR_DATA_HI | .DBG_REG_HALT _ | .DBG_REG_REL _ | .DBG_REG_STEP | .DBG_FRZ
  | .DBG_XT_REG_LO _ | .DBG_XT_REG_HI _ => if write then 2 else 1
  | .DBG_XT_CFG c =>
    if write && ((R.DBG_XT_CFG_FREEZE c).of v != s.rd (R.DBG_XT_CFG_FREEZE c) ||
      (R.DBG_XT_CFG_THR_HALT c).of v != s.rd (R.DBG_XT_CFG_THR_HALT c)) then 2 else 1
  | _ => 1

/-- CHAL (R445, R475): a challenge is drawn, or refused. -/
def State.drawChallenge (s : State) (p : DPort) : State :=
  if s.lc == 5 || s.is1 R.LC_STATE_LOCKED || !(s.is1 R.RNG_STAT_HEALTHY) || s.is1 R.DBG_AUTH_BLOCKED then
    (s.set1 R.DBG_AUTH_ERR).setSec { s.sec with challenge := storeSet none p.num none s.sec.challenge }
  else (s.setSec { s.sec with challenge := storeSet none p.num (some (s.draw % 2 ^ 128)) s.sec.challenge }).drawn

/-- The response written by a session (R475). -/
def State.response (s : State) (p : DPort) : Nat :=
  (List.range 4).foldl (fun v i => v + storeGet 0 (4 * p.num + i) s.sec.resp * 2 ^ (32 * i)) 0

/-- The response is correct for challenge c and a level (R445): CMAC under the debug key over C, the level, and DEVICE_ID. -/
def State.responseOk (s : State) (p : DPort) (c level : Nat) : Bool :=
  match s.lcFuses.dbgKey with
  | none => false
  | some k =>
    !s.lcFuses.killed &&
    natLE (cmac (bytesLE 32 k) (bytesLE 16 c ++ bytesLE 1 level ++ bytesLE 4 s.deviceId)) == s.response p

/-- A wrong response (R445): no grant, the alarm DEBUG_AUTH, and after the fourth in a row no challenge for 10 s. -/
def State.wrongResponse (s : State) : State :=
  let s := (s.set1 R.DBG_AUTH_ERR).setSec { s.sec with wrong := s.sec.wrong + 1 }
  (if 4 ≤ s.sec.wrong then s.set1 R.DBG_AUTH_BLOCKED else s).alarm 4

/-- REQ (R445, R475). -/
def State.requestLevel (s : State) (p : DPort) (level : Nat) : State :=
  if level = 0 ∨ 2 < level then s
  else if level < s.dlevel p then s.setLevel p level
  else if s.lc == 0 || s.lc == 1 || s.lc == 4 then s.setLevel p (min level s.levelCap)
  else match storeGet none p.num s.sec.challenge with
    | none => s.set1 R.DBG_AUTH_ERR
    | some c =>
      if s.responseOk p c level then
        (s.setSec { s.sec with challenge := storeSet none p.num none s.sec.challenge, wrong := 0 }).setLevel p (min level s.levelCap)
      else s.wrongResponse

/-- CLOSE (R476). -/
def State.closeSession (s : State) (p : DPort) : State :=
  let resp := (List.range 4).foldl (fun m i => storeSet 0 (4 * p.num + i) 0 m) s.sec.resp
  (s.setSec { s.sec with challenge := storeSet none p.num none s.sec.challenge, resp := resp }).setLevel p 0

/-- A write to DBG_AUTH: CLOSE, then CHAL, then REQ. -/
def wrDbgAuth (s : State) (p : DPort) (v : BitVec 32) : State :=
  let s := s.w1cOnly .DBG_AUTH v
  let s := if R.DBG_AUTH_CLOSE.of v = 1 then s.closeSession p else s
  let s := if R.DBG_AUTH_CHAL.of v = 1 then s.drawChallenge p else s
  s.requestLevel p (R.DBG_AUTH_REQ.of v)

/-! ## The debug initiator (R477) -/

/-- A write to DBG_INIT_CMD (R477). -/
def wrDbgInitCmd (s : State) (p : DPort) (v : BitVec 32) : State :=
  let s := s.storeReg .DBG_INIT_CMD v
  if R.DBG_INIT_CMD_GO.of v = 0 then s
  else
    let size := 2 ^ s.rd R.DBG_INIT_CMD_SIZE
    let addr := s.rd64 R.DBG_INIT_ADDR_LO_ADDR R.DBG_INIT_ADDR_HI_ADDR
    let write := s.is1 R.DBG_INIT_CMD_WRITE
    if s.is1 R.DBG_INIT_CMD_BUSY || decide (s.dlevel p < if write then 2 else 1) || localDecode addr size then
      s.set1 R.DBG_INIT_CMD_ERR
    else
      let data := (List.range 16).flatMap fun i => leBytes 4 (s.rd (R.DBG_INIT_DATA_DATA i))
      (s.set1 R.DBG_INIT_CMD_BUSY).sendReq 7 (if write then ⟨.wr, 0, 0, addr, size, data.take size, 0⟩ else ⟨.rd, 0, 0, addr, size, [], 0⟩)

/-- The bytes of a read are placed in DBG_INIT_DATA from byte 0 (R477). -/
def State.placeData (s : State) (data : List Byte) : State :=
  s.each (List.range 16) fun s i =>
    let part := (data.drop (4 * i)).take 4
    s.wr (R.DBG_INIT_DATA_DATA i) (leNat (part ++ (leBytes 4 (s.rd (R.DBG_INIT_DATA_DATA i))).drop part.length))

/-- DBG_INIT_ANSWER (R477); the answer to a write brings no bytes. -/
def execDbgInitAnswer (tag : BitVec 8) (a : Answer) (s : State) : Host.Outcome State Fault Refusal :=
  let s := s.quiet
  match s.takeAnswer 7 tag.toNat a with
  | none => .next s
  | some s =>
    let s := ((s.clr R.DBG_INIT_CMD_BUSY).set1 R.DBG_INIT_CMD_DONE).wr R.DBG_INIT_STAT_CODE a.code.code
    .next (if a.code = .ok then (s.placeData a.data).wr R.DBG_INIT_STAT_POISON a.poison else s.clr R.DBG_INIT_STAT_POISON)

/-! ## Halting threads (R480 to R484) -/

/-- FORCE (R481, R482): the locked sequence of a pending halt is aborted, and the thread is HALTED at its LOCK; a request of R136 that is pending too acts
first. -/
def State.threadForce (s : State) (t : Nat) : State :=
  if s.is1 (R.DBG_THR_CTL_PEND t) && s.locked t then
    let s := ((((s.squashAll t).abortLock t)).pendingActs t).haltIf t true
    s.log (.blockEvent 0x21) [t, s.tpc t]
  else s.set1 (R.DBG_THR_CTL_ERR t)

/-- STEP (R483, R484): one instruction, then HALTED again; a deferred watchdog action acts in its place. -/
def State.threadStep (s : State) (t : Nat) : State :=
  if s.tstate t ≠ .halted then s.set1 (R.DBG_THR_CTL_ERR t)
  else if s.is1 (R.DBG_THR_CTL_DEFERRED t) then s.deferredAct t
  else
    let s := (s.wdtResume t).setTstate t .run
    s.setThread t { s.thread t with stepping := true }

/-- RELEASE (R483): accepted in HALTED. -/
def State.threadReleaseCmd (s : State) (t : Nat) : State :=
  if s.tstate t = .halted then s.threadRelease t else s.set1 (R.DBG_THR_CTL_ERR t)

/-- A write to DBG_THR_CTL_t (R480 to R483): its commands from HALT up. -/
def wrDbgThrCtl (s : State) (t : Nat) (v : BitVec 32) : State :=
  let s := s.storeReg (.DBG_THR_CTL t) v
  let s := if (R.DBG_THR_CTL_HALT t).of v = 1 then s.threadHalt t else s
  let s := if (R.DBG_THR_CTL_RELEASE t).of v = 1 then s.threadReleaseCmd t else s
  let s := if (R.DBG_THR_CTL_FORCE t).of v = 1 then s.threadForce t else s
  if (R.DBG_THR_CTL_STEP t).of v = 1 then s.threadStep t else s

/-- HALT_PENDING_LOCKED (R481): 4,096 sequencer cycles after the request the halt still waits for UNLOCK. -/
def execHaltPendingLocked (t : Fin 4) (s : State) : Host.Outcome State Fault Refusal :=
  let s := s.quiet
  .next (if s.is1 (R.DBG_THR_CTL_PEND t.val) && s.locked t.val then s.set1 (R.DBG_THR_CTL_PEND_LOCKED t.val) else s)

/-- The thread that DBG_THR_SEL names. -/
def State.selThread (s : State) : Nat := s.rd R.DBG_THR_SEL_THREAD

/-- The selected register and its tag (R483; DBG_THR_SEL). -/
def State.selValue (s : State) : Nat × Bool :=
  let t := s.selThread
  match s.rd R.DBG_THR_SEL_INDEX with
  | 32 => (s.tpc t, false)
  | 33 => (s.rd (R.SEQ_THR_OVR_OWED t), false)
  | r => ((s.reg t r).toNat, s.tag t r)

/-- Write the selected register with TAG (R483; DBG_THR_SEL). -/
def State.setSel (s : State) (v : Nat) : State :=
  let t := s.selThread
  match s.rd R.DBG_THR_SEL_INDEX with
  | 32 => s.setTpc t (v % 32768)
  | 33 => s.wr (R.SEQ_THR_OVR_OWED t) (v % 2)
  | r => s.setReg t r (BitVec.ofNat 64 v) (s.is1 R.DBG_THR_SEL_TAG)

/-- The offset of DBG_THR_DATA_LO. -/
def thrDataLo : Nat := 0x7000284

/-- A read of the DBG_THR_DATA pair (R16, R483): _LO captures the high half and the tag. -/
def State.readThrData (s : State) (ini : Ini) (hi : Bool) : State × Nat :=
  if s.tstate s.selThread ≠ .halted then (s.set1 R.DBG_THR_SEL_ERR, 0)
  else
    let x := s.selValue
    let key := pairKey thrDataLo ini
    if hi then
      match storeGet none key s.captures with
      | some v => ({ s with captures := storeSet none key none s.captures }, v)
      | none => (s, x.1 / 2 ^ 32)
    else
      ((({ s with captures := storeSet none key (some (x.1 / 2 ^ 32)) s.captures } : State).wrb R.DBG_THR_SEL_TAG x.2), x.1 % 2 ^ 32)

/-- A write of the DBG_THR_DATA pair (R16, R483): _HI commits the value with TAG. -/
def State.writeThrData (s : State) (ini : Ini) (hi : Bool) (v : BitVec 32) : State :=
  if s.tstate s.selThread ≠ .halted then s.set1 R.DBG_THR_SEL_ERR
  else if hi then
    let lo := s.pairLo thrDataLo ini (s.selValue.1 % 2 ^ 32)
    (s.dropLo thrDataLo ini).setSel (lo + 2 ^ 32 * v.toNat)
  else s.holdLo thrDataLo ini v.toNat

/-! ## Halting regions, channels, freeze (R485 to R488) -/

/-- Do something for the regions 32i + b whose bit b is set. -/
def State.eachRegion (s : State) (i : Nat) (v : BitVec 32) (f : State → Nat → State) : State :=
  s.each (indicesWith 32 fun b => v.getLsbD b) fun s b => f s (32 * i + b)

/-- A write to DBG_REG_STEP (R485): COUNT 0 asks for no step. -/
def wrDbgRegStep (s : State) (v : BitVec 32) : State :=
  let busy := s.is1 R.DBG_REG_STEP_BUSY
  let n := R.DBG_REG_STEP_REGION.of v
  let count := R.DBG_REG_STEP_COUNT.of v
  if count = 0 then (if busy then s.w1cOnly .DBG_REG_STEP v else s.storeReg .DBG_REG_STEP v)
  else if busy then (s.w1cOnly .DBG_REG_STEP v).set1 R.DBG_REG_STEP_ERR
  else
    let s := s.storeReg .DBG_REG_STEP v
    if s.rstate n ≠ .held ∨ s.rd (R.REGION_STATUS_HOLD_SRC n) ≠ 2 ^ (Hold.debug).bit then s.set1 R.DBG_REG_STEP_ERR
    else
      let s := s.setRegion n { s.region n with stepLeft := count }
      (s.clrHold n .debug).set1 R.DBG_REG_STEP_BUSY

/-- REGION_STEP_END (R485): when the last of the COUNT user-clock cycles has passed, DEBUG is set again. -/
def execRegionStepEnd (s : State) : Host.Outcome State Fault Refusal :=
  let s := s.quiet
  let n := s.rd R.DBG_REG_STEP_REGION
  if s.is1 R.DBG_REG_STEP_BUSY && (s.region n).stepLeft == 0 then .next ((s.setHold n .debug).clr R.DBG_REG_STEP_BUSY) else .next s

/-- A write to DBG_XT_CFG[c] (R486, R487). -/
def wrXtCfg (s : State) (c : Nat) (v : BitVec 32) : State :=
  let s := s.storeReg (.DBG_XT_CFG c) v
  if (R.DBG_XT_CFG_SW c).of v = 1 then s.pulse c else s

/-! ## Trace (R491, R492) -/

/-- EN is refused (R491, R492): a bank of the buffer is not TRACE's, or the lane group is not free for it. -/
def State.traceRefused (s : State) (sink : Bool) (g : Nat) : Bool :=
  if sink then
    s.rd (R.LINK_CTL_MODE g) != 0 || (s.onRefusal (88 + g)).isSome ||
    (g % 2 == 1 && s.rd (R.LINK_CTL_MODE (g - 1)) == 1 && s.rd (R.LINK_CTL_WIDTH (g - 1)) == 4)
  else
    (List.range (s.rd R.TRACE_BUF_COUNT_M1 + 1)).any fun i =>
      let b := s.rd R.TRACE_BUF_FIRST + i
      decide (2048 ≤ b) || !(s.bankIn b) || s.rd (R.BANK_OWNER_KIND b) != 7 || s.is1 (R.BANK_OWNER_PENDING b)

/-- A write to TRACE_CTL (R491, R492): EN starts trace, clearing STOPPED, WRAPPED and WPTR, or the write is refused. -/
def wrTraceCtl (s : State) (v : BitVec 32) : State :=
  let s := s.w1cOnly .TRACE_CTL v
  if R.TRACE_CTL_EN.of v = 0 then s.storeReg .TRACE_CTL v
  else
    let sink := R.TRACE_CTL_SINK.of v == 1
    let g := if 24 ≤ R.TRACE_CTL_GROUP.of v then s.rd R.TRACE_CTL_GROUP else R.TRACE_CTL_GROUP.of v
    if s.traceRefused sink g then s.set1 R.TRACE_CTL_CFG_ERR
    else
      let s := if sink then s.requestOn (88 + g) .host else s
      let s := ((s.storeReg .TRACE_CTL v).clr R.TRACE_STAT_STOPPED).clr R.TRACE_STAT_WRAPPED
      let s := s.clr R.TRACE_WPTR_WPTR
      { s with trace := { s.trace with buf := [], lost := 0, post := none } }

/-- TRACE_WRITE_ANSWER (R491): the group has been written; another answer than OK stops trace, logged as TRACE_ERR;
what still waits in the buffer is not written (log entry 208). -/
def execTraceWriteAnswer (tag : BitVec 8) (a : Answer) (s : State) : Host.Outcome State Fault Refusal :=
  let s := s.quiet
  match s.trace.sent, s.takeAnswer traceNode tag.toNat a with
  | some bank, some s =>
    let s : State := { s with trace := { s.trace with sent := none } }
    if a.code = .ok then .next s.tracePush
    else
      let s : State := { s with trace := { s.trace with buf := [] } }
      .next ((s.set1 R.TRACE_STAT_STOPPED).log (.blockEvent 0x22) [a.code.code, bank])
  | _, _ => .next s

/-- STIM_WRITE (R489): an NWR to the trace engine, node 0x024; the channels that the port feeds pulse whether it is enabled or not. -/
def execStimWrite (rq : Request) (s : State) : Host.Outcome State Fault Refusal :=
  let s := s.quiet
  let a := rq.acc
  if a.op ≠ .nwr ∨ a.dstNode ≠ traceNode ∨ a.data.length ≠ a.size then .fault (.illFormed "STIM_WRITE")
  else if a.addr % 8 ≠ 0 ∨ 2048 ≤ a.addr ∨ !([1, 2, 4, 8].contains a.size) then .next (s.reply rq .decode)
  else .next ((s.stimulus (a.addr / 8) (leNat a.data) a.size (a.poison.testBit 0) rq.ini.node).reply rq .ok)

/-! ## Accesses to the debug block (R470, R472 to R474) -/

/-- What a read of a debug register shows its session (R474, R475, R483). -/
def State.dbgRead (s : State) (p : DPort) (ini : Ini) (off : Nat) (r : Reg) : State × Nat :=
  match r with
  | .DBG_AUTH => (s, s.regWith r [(R.DBG_AUTH_LEVEL, s.dlevel p)])
  | .DBG_CHAL i => (s, (storeGet none p.num s.sec.challenge).getD 0 / 2 ^ (32 * i) % 2 ^ 32)
  | .DBG_THR_DATA_LO => s.readThrData ini false
  | .DBG_THR_DATA_HI => s.readThrData ini true
  | _ =>
    let x := s.pairRead ini off r
    (x.1.readEffect r, x.2)

/-- What a write to a debug register does (R475, R477, R480 to R488, R491). -/
def State.dbgWrite (s : State) (p : DPort) (ini : Ini) (off : Nat) (r : Reg) (v : BitVec 32) : State :=
  match r with
  | .DBG_AUTH => wrDbgAuth s p v
  | .DBG_RESP i => s.setSec { s.sec with resp := storeSet 0 (4 * p.num + i) v.toNat s.sec.resp }
  | .DBG_INIT_CMD => wrDbgInitCmd s p v
  | .DBG_THR_CTL t => wrDbgThrCtl s t v
  | .DBG_THR_DATA_LO => s.writeThrData ini false v
  | .DBG_THR_DATA_HI => s.writeThrData ini true v
  | .DBG_REG_HALT i => s.eachRegion i v fun s n => s.setHold n .debug
  | .DBG_REG_REL i => s.eachRegion i v fun s n => s.clrHold n .debug
  | .DBG_REG_STEP => wrDbgRegStep s v
  | .DBG_FRZ => (s.storeReg r v).unfreeze
  | .DBG_XT_CFG c => wrXtCfg s c v
  | .TRACE_CTL => wrTraceCtl s v
  | _ => s.pairWrite ini off r v

/-- One 32-bit access to the debug block under a port's session (R467, R470, R474): its state, response code and read data. -/
def State.dbgAccess (s : State) (p : DPort) (ini : Ini) (write : Bool) (off : Nat) (v : BitVec 32) : State × Resp × Nat :=
  let csr := 0x7000000 + off
  if 0x800000 ≤ off ∨ off % 4 ≠ 0 then (s, .decode, 0)
  else if s.selfTest.undef then (s, .denied, 0)
  else match regAt csr with
    | none => (s, .decode, 0)
    | some r =>
      if s.dlevel p < s.levelNeeded r write v then (s, .denied, 0)
      else if write then (s.dbgWrite p ini csr r v, .ok, 0)
      else
        let x := s.dbgRead p ini csr r
        (x.1, .ok, x.2)

/-- The JTAG port as an initiator for R16. -/
def State.jtagIni (s : State) : Ini := ⟨s.rd R.NET_CFG_DEV_NUM, 7⟩

/-- An access by the JTAG session: it is the previous access of the next capture (R472). The read data that is captured after a write, or
after an access that was not answered OK, is not stated: it is free (log entry 3). -/
def State.jtagAccess (s : State) (write : Bool) (off : Nat) (v : BitVec 32) : State × Resp × Nat :=
  let x := s.dbgAccess .jtag s.jtagIni write off v
  if write || x.2.1 != .ok then
    (x.1.drawn.setJtag { x.1.jtag with prev := some (off, x.2.1, x.1.draw % 2 ^ 32) }, x.2.1, x.2.2)
  else (x.1.setJtag { x.1.jtag with prev := some (off, x.2.1, x.2.2) }, x.2.1, x.2.2)

/-- The first write of CHAL or REQ while the Olicor session is unbound binds it (R473). -/
def State.bindSession (s : State) (ini : Ini) (write : Bool) (off : Nat) (v : BitVec 32) : State :=
  if write && off == 0 && !(s.is1 R.DBG_SESSION_STAT_OLI_BOUND) && (R.DBG_AUTH_CHAL.of v == 1 || R.DBG_AUTH_REQ.of v != 0) then
    ((s.set1 R.DBG_SESSION_STAT_OLI_BOUND).wr R.DBG_SESSION_STAT_OLI_DEV ini.dev).wr R.DBG_SESSION_STAT_OLI_NODE ini.node
  else s

/-- The Olicor session is bound to another initiator (R473). -/
def State.sessionElsewhere (s : State) (ini : Ini) : Bool :=
  s.is1 R.DBG_SESSION_STAT_OLI_BOUND &&
  !(s.rd R.DBG_SESSION_STAT_OLI_DEV == ini.dev && s.rd R.DBG_SESSION_STAT_OLI_NODE == ini.node)

/-- An access by the Olicor session (R473). -/
def State.olicorAccess (s : State) (ini : Ini) (write : Bool) (off : Nat) (v : BitVec 32) : State × Resp × Nat :=
  if s.sessionElsewhere ini then (s, .denied, 0)
  else (s.bindSession ini write off v).dbgAccess .olicor ini write off v

/-- DBG_ACCESS (R472): what is captured reports the previous access, and the value shifted in performs its own at Update-DR. `early`:
the scan updates before DONE is 1; it captures DONE 0 with the offset of the access in progress, and its own access is discarded. -/
def execDbgAccess (value : BitVec 64) (early : Bool) (s : State) : Host.Outcome State Fault Refusal :=
  let s := s.quiet
  if s.jtag.ir ≠ 0x10 then .next s
  else if early then
    let off := match s.jtag.prev with | some (off, _, _) => off | none => s.draw / 2 ^ 32 % 2 ^ 23
    .next ((s.emit (.jtagOut 64 (s.draw % 2 ^ 32 + off * 2 ^ 32 + s.draw / 2 ^ 55 % 2 ^ 8 * 2 ^ 55))).drawn)
  else
    let s := match s.jtag.prev with
      | some (off, code, data) => s.emit (.jtagOut 64 (2 ^ 63 + code.code * 2 ^ 56 + off * 2 ^ 32 + data))
      | none => (s.emit (.jtagOut 64 (s.draw % 2 ^ 64))).drawn
    let v := value.toNat
    .next (s.jtagAccess (v.testBit 63) (v / 2 ^ 32 % 2 ^ 23) (BitVec.ofNat 32 v)).1

/-- DEBUG_ENDPOINT_ACCESS (R300, R473): 4-byte accesses only; a poisoned write is DENIED. -/
def execDebugEndpointAccess (rq : Request) (s : State) : Host.Outcome State Fault Refusal :=
  let s := s.quiet
  let a := rq.acc
  let write := a.op == .nwr
  if !(write || a.op == .nrd) || a.dstNode != 7 || (write && a.data.length != a.size) then .fault (.illFormed "DEBUG_ENDPOINT_ACCESS")
  else if s.sessionElsewhere rq.ini then .next (s.reply rq .denied)
  else if a.size ≠ 4 then .next (s.reply rq .decode)
  else if write && a.poison != 0 then
    .next ((s.log .poisonConsumed (rq.ini.node :: words64 a.addr)).reply rq .denied)
  else
    let x := s.olicorAccess rq.ini write a.addr (BitVec.ofNat 32 (leNat a.data))
    .next (if x.2.1 = .ok && !write then x.1.replyData rq (leBytes 4 x.2.2) 0 else x.1.reply rq x.2.1)

/-- One access along a path, with its answer (R470). -/
def State.viaPath (s : State) (path : DbgPath) (write : Bool) (off : Nat) (v : BitVec 32) : State :=
  match path with
  | .jtag =>
    if s.jtag.ir = 0x10 then
      let x := s.jtagAccess write off v
      x.1.emit (.regAnswer s.jtagIni x.2.1 x.2.2)
    else s
  | .olicor ini =>
    let x := s.olicorAccess ini write off v
    x.1.emit (.regAnswer ini x.2.1 x.2.2)

/-- CHAL (R475). -/
def execChal (path : DbgPath) (s : State) : Host.Outcome State Fault Refusal :=
  .next (s.quiet.viaPath path true 0 (BitVec.ofNat 32 16))

/-- REQ (R475). -/
def execReq (path : DbgPath) (level : BitVec 2) (s : State) : Host.Outcome State Fault Refusal :=
  .next (s.quiet.viaPath path true 0 (BitVec.ofNat 32 level.toNat))

/-- CLOSE (R476). -/
def execClose (path : DbgPath) (s : State) : Host.Outcome State Fault Refusal :=
  .next (s.quiet.viaPath path true 0 (BitVec.ofNat 32 32))

/-- DBG_INIT_GO (R477). -/
def execDbgInitGo (path : DbgPath) (size : BitVec 3) (write : Bool) (s : State) : Host.Outcome State Fault Refusal :=
  .next (s.quiet.viaPath path true 0x100 (BitVec.ofNat 32 (16 * size.toNat + 2 * write.toNat + 1)))

/-- A command of DBG_THR_CTL_t that leaves WDT_FRZ as it stands. -/
def State.thrCommand (s : State) (path : DbgPath) (t bit : Nat) : State :=
  s.viaPath path true (0x200 + 0x10 * t) (BitVec.ofNat 32 (2 ^ bit + 16 * s.rd (R.DBG_THR_CTL_WDT_FRZ t)))

/-- HALT (R480). -/
def execHalt (path : DbgPath) (t : Fin 4) (s : State) : Host.Outcome State Fault Refusal := .next (s.quiet.thrCommand path t.val 0)

/-- RELEASE (R483). -/
def execDbgRelease (path : DbgPath) (t : Fin 4) (s : State) : Host.Outcome State Fault Refusal := .next (s.quiet.thrCommand path t.val 1)

/-- FORCE (R481). -/
def execForce (path : DbgPath) (t : Fin 4) (s : State) : Host.Outcome State Fault Refusal := .next (s.quiet.thrCommand path t.val 2)

/-- STEP (R483). -/
def execStep (path : DbgPath) (t : Fin 4) (s : State) : Host.Outcome State Fault Refusal := .next (s.quiet.thrCommand path t.val 3)

/-- THR_DATA_READ (R483). -/
def execThrDataRead (path : DbgPath) (s : State) : Host.Outcome State Fault Refusal := .next (s.quiet.viaPath path false 0x284 0)

/-- THR_DATA_WRITE (R483). -/
def execThrDataWrite (path : DbgPath) (value : BitVec 32) (s : State) : Host.Outcome State Fault Refusal :=
  .next (s.quiet.viaPath path true 0x288 value)

/-- DBG_REG_HALT (R485). -/
def execDbgRegHalt (path : DbgPath) (i : Fin 2) (value : BitVec 32) (s : State) : Host.Outcome State Fault Refusal :=
  .next (s.quiet.viaPath path true (0x300 + 4 * i.val) value)

/-- DBG_REG_REL (R485). -/
def execDbgRegRel (path : DbgPath) (i : Fin 2) (value : BitVec 32) (s : State) : Host.Outcome State Fault Refusal :=
  .next (s.quiet.viaPath path true (0x310 + 4 * i.val) value)

/-- DBG_REG_STEP (R485). -/
def execDbgRegStep (path : DbgPath) (n : Fin 64) (count : BitVec 8) (s : State) : Host.Outcome State Fault Refusal :=
  .next (s.quiet.viaPath path true 0x320 (BitVec.ofNat 32 (n.val * 2 ^ 16 + count.toNat)))

/-- SW (R486): channel c pulses; its actions stand as they are. -/
def execSw (path : DbgPath) (c : Fin 16) (s : State) : Host.Outcome State Fault Refusal :=
  let c := c.val
  let keep := 2 ^ 30 * s.rd (R.DBG_XT_CFG_FREEZE c) + 2 ^ 29 * s.rd (R.DBG_XT_CFG_TRACE_STOP c) +
    2 ^ 28 * s.rd (R.DBG_XT_CFG_TRACE_MARK c) + 2 ^ 24 * s.rd (R.DBG_XT_CFG_THR_HALT c)
  .next (s.quiet.viaPath path true (0x1000 + 0x10 * c) (BitVec.ofNat 32 (2 ^ 31 + keep)))

/-- TRACE_EN (R491, R492). -/
def execTraceEn (path : DbgPath) (value : BitVec 32) (s : State) : Host.Outcome State Fault Refusal :=
  .next (s.quiet.viaPath path true 0x2000 value)

end Sys2Proof.Machine
end

