-- ==== Sys2Proof/Machine/Desk.lean ====
section
/-! DEFINITION. The front desk: its transactions and its commands (16_start_journal_front_desk.md, R417, R426, R432 to R435). -/

namespace Sys2Proof.Machine

/-! ## Records as 64 bytes (R419, R422, R427, R431) -/

/-- The code of an event (R431, R448; 18_self_test_repair.md and 19_debug_trace.md for 0x0C00). -/
def Gb.code : Gb → Nat
  | .stackFaceUnrepaired => 0x0100 | .stackFillUnrepaired => 0x0101 | .stackMemUnrepaired => 0x0102 | .stackFatal => 0x0103
  | .stackMappedOut => 0x0104 | .fuseFail => 0x0105 | .clkLockLost => 0x0106
  | .planeDamaged => 0x0200 | .planeLoadActive => 0x0201 | .regionActiveDbe => 0x0202 | .patrolActiveUnrepaired => 0x0203
  | .patrolDbeLeft => 0x0204
  | .regionOverrun => 0x0300 | .threadOverrun => 0x0301 | .threadFault => 0x0302 | .watchdogExpired => 0x0303
  | .seqPostedErr => 0x0304 | .seqCmdRefused => 0x0305
  | .imgReject => 0x0400 | .imgFail => 0x0401 | .imgApplyErr => 0x0402 | .imgSvNotAdvanced => 0x0403
  | .netIsolate => 0x0500 | .netEpochStuck => 0x0501 | .larderWbLost => 0x0502 | .larderSkew => 0x0503 | .netHdrErr => 0x0504
  | .memUncorrectable => 0x0600 | .memSoftRepair => 0x0601 | .memRepairNotSaved => 0x0602 | .memHardFault => 0x0603
  | .memUePorter => 0x0604 | .poisonConsumed => 0x0605
  | .sdTrainFail => 0x0700 | .sdUe => 0x0701 | .sdKeytag => 0x0702 | .sdUeScrub => 0x0703
  | .linkDown => 0x0800 | .linkTrainFail => 0x0801 | .twinMismatch => 0x0802 | .twinRoleConflict => 0x0803
  | .twinDiverge => 0x0804 | .twinLost => 0x0805 | .twinMirrorSkip => 0x0806 | .twinRestoreFail => 0x0807
  | .snoopMismatch => 0x0808
  | .thermSensorFail => 0x0900 | .thermalLevel => 0x0901 | .thermNotifyFail => 0x0902 | .thermalShutdown => 0x0903
  | .gbLost => 0x0A00 | .jnlSectorRetired => 0x0A01 | .itinSkip => 0x0A03 | .startStop => 0x0A04 | .fdReset => 0x0A05
  | .alarm a => 0x0B00 + a.val | .lcAdvanced => 0x0B10 | .keySlotChanged => 0x0B11
  | .blockEvent i => 0x0C00 + i
  | .unclassified b => Config.unclassifiedCode b

/-- The BODY of a guestbook record (R427, R428). -/
def GbEntry.body (e : GbEntry) : List Byte :=
  leBytes 4 e.ev.code ++ leBytes 4 e.start ++ leBytes 8 e.tick ++ leBytes 4 e.pos ++
  (List.range 7).flatMap fun i => leBytes 4 (e.args.getD i 0)

/-- The BODY of an itinerary record: the fields of R422 in their order, then zeros. -/
def ItinRec.body (r : ItinRec) : List Byte :=
  leBytes 4 r.start ++ leBytes 1 r.step ++ leBytes 1 r.phase ++ leBytes 1 r.outcome ++ leBytes 2 r.unit ++ leBytes 2 r.detail ++
  leBytes 8 r.tick ++ leBytes 29 0

/-- A record of 64 bytes (R419). -/
def recordBytes (type flags seq : Nat) (body : List Byte) : List Byte :=
  let front := leBytes 1 type ++ leBytes 1 flags ++ leBytes 2 (seq / 2 ^ 32) ++ leBytes 4 0 ++ body ++ leBytes 4 seq
  front ++ leBytes 4 (Alg.of .crc32 front)

/-- A guestbook record; FLAGS bit 2 is ARGS_CUT (R427, R428). -/
def GbEntry.bytes (e : GbEntry) (seq : Nat) : List Byte :=
  recordBytes 0x10 (e.prio % 4 + (if 7 < e.args.length then 4 else 0)) seq e.body

/-- The BODY of a repair or map-out record (R462). -/
def RepRec.body (r : RepRec) : List Byte :=
  leBytes 1 r.kind ++ leBytes 3 r.unitField ++ leBytes 1 r.spareKind ++ leBytes 2 r.spare ++ leBytes 1 0 ++ leBytes 4 r.replaced ++ leBytes 36 0

/-- The BODY of an image-key slot record (R442). -/
def slotBody (slot state epoch blob : Nat) : List Byte :=
  leBytes 1 slot ++ leBytes 1 state ++ leBytes 1 epoch ++ leBytes 5 0 ++ leBytes 40 blob

/-- A record as its slot holds it (R419): guestbook events (R427), the itinerary (R422), user records, start settings (R426), key slots (R442), soft repairs
and field map-outs (R462). The spec lays out no BODY for counters, the freeze, a stack test request or the mark of a burned or cleared record. -/
def JRec.bytes (r : JRec) : List Byte :=
  match r.body with
  | .event e => e.bytes r.seq
  | .itin x => recordBytes (Config.recordType 0) 0 r.seq x.body
  | .user _ _ b => recordBytes (Config.recordType 1) 0 r.seq (leBytes 48 b)
  | .settings b => recordBytes (Config.recordType 2) 0 r.seq (leBytes 48 b)
  | .keySlot k st e b => recordBytes 0x20 0 r.seq (slotBody k st e b)
  | .soft x => recordBytes 0x30 0 r.seq x.body
  | .mapout x => recordBytes 0x31 0 r.seq x.body
  | .counter _ _ | .freeze _ | .burned _ | .cleared _ | .stackTest _ => []

/-! ## Transactions (R432, R433) -/

/-- A command is running (R433): BUSY with READY 1. -/
def State.deskBusy (s : State) : Bool := s.desk.ready && s.desk.status == 1

/-- The status block (R433). -/
def State.statusBlock (s : State) : List Byte :=
  leBytes 1 s.desk.status ++ leBytes 1 s.desk.code ++ leBytes 1 s.desk.detail ++ leBytes 1 s.deskFlags ++ leBytes 4 s.desk.progress

/-- Whether a request is one of an operation to the mirror, node 0x006 (R432). -/
def atMirror (rq : Request) (op : ReqOp) : Bool := rq.acc.op == op && rq.acc.dstNode == 6

/-- The opcodes of the front desk's transactions (R432). -/
inductive DeskOp where
  | readStatus | command | dataIn | dataOut | abort
  deriving DecidableEq, Repr

/-- The opcode byte of a transaction (R432). -/
def DeskOp.code : DeskOp → BitVec 8
  | .readStatus => 0x05 | .command => 0x20 | .dataIn => 0x22 | .dataOut => 0x24 | .abort => 0x7F

/-- The opcode is followed by its bitwise complement (R432); a transaction with another byte there is ignored. -/
def DeskOp.okay (o : DeskOp) (comp : BitVec 8) : Bool := comp == ~~~o.code

/-- READ_STATUS (R417, R432, R433): at the pins, or an NRD of offset 0x0 at the mirror; another offset or size answers DECODE. -/
def execReadStatus (via : DeskRead) (s : State) : Host.Outcome State Fault Refusal :=
  let s := s.quiet
  match via with
  | .pins comp => .next (if DeskOp.readStatus.okay comp then s.emit (.deskOut s.statusBlock) else s)
  | .mirror rq =>
    if !(atMirror rq .nrd) then .fault (.illFormed "READ_STATUS")
    else if rq.acc.addr = 0 ∧ rq.acc.size = 8 then .next (s.replyData rq s.statusBlock 0)
    else .next (s.reply rq .decode)

/-- Whether R434 lists a CODE. -/
def codeListed (code : Nat) : Bool := decide (1 ≤ code) && decide (code ≤ 14)

/-- A COMMAND transaction with its 16-byte block (R417, R432 to R434): ignored before READY, discarded while BUSY; otherwise the command
is accepted and enters BUSY, and an unlisted CODE fails with BAD_COMMAND. -/
def State.deskCommand (s : State) (block : List Byte) : State :=
  let d := s.desk
  if !d.ready then s
  else if s.deskBusy then s.setDesk { d with reject := true }
  else
    let code := leNat (block.take 1)
    let s := s.setDesk { ready := true, code := code, arg0 := leNat ((block.drop 4).take 4), arg1 := leNat ((block.drop 8).take 8), since := s.now }
    if codeListed code then s else s.deskEnd false 1

/-- COMMAND (R432 to R434): at the pins, or an NWR of 16 bytes to offset 0x0 of the mirror. -/
def execCommand (d : DeskIn) (s : State) : Host.Outcome State Fault Refusal :=
  let s := s.quiet
  match d with
  | .pins comp off bytes =>
    if off = 0 ∧ bytes.length = 16 then .next (if DeskOp.command.okay comp then s.deskCommand bytes else s) else .fault (.illFormed "COMMAND")
  | .mirror rq =>
    if atMirror rq .nwr ∧ rq.acc.addr = 0 ∧ rq.acc.data.length = rq.acc.size then
      if rq.acc.size = 16 then .next ((s.deskCommand rq.acc.data).reply rq .ok) else .next (s.reply rq .decode)
    else .fault (.illFormed "COMMAND")

/-- Bytes of a DATA_IN (R432): kept for the command in progress, and for LOAD_IMAGE counted in PROGRESS (R433). With no command in progress they are
discarded and, the desk being ready, logged as an unclassified fault of the block, which lists no such condition (R17, log entries 114 and 122). -/
def State.deskInput (s : State) (off : Nat) (bytes : List Byte) (poisoned : Nat → Bool) : State :=
  if !s.desk.ready then s
  else if !s.deskBusy then s.log (.unclassified 0xA) []
  else
    let d := s.desk
    let put := fun m (e : Nat × Byte) => storeSet 0 (off + e.1) (1 + e.2.toNat + (if poisoned e.1 then 256 else 0)) m
    let input := ((List.range bytes.length).zip bytes).foldl put d.input
    s.setDesk { d with input := input, progress := if d.code = 1 then (d.progress + bytes.length) % 2 ^ 32 else d.progress }

/-- DATA_IN (R432): 1 to 4,096 bytes at an offset, or an NWR to offset 0x1000 + offset of the mirror. -/
def execDataIn (d : DeskIn) (s : State) : Host.Outcome State Fault Refusal :=
  let s := s.quiet
  match d with
  | .pins comp off bytes =>
    if off < 2 ^ 32 ∧ 1 ≤ bytes.length ∧ bytes.length ≤ 4096 then
      .next (if DeskOp.dataIn.okay comp then s.deskInput off bytes fun _ => false else s)
    else .fault (.illFormed "DATA_IN")
  | .mirror rq =>
    if atMirror rq .nwr ∧ 0x1000 ≤ rq.acc.addr ∧ rq.acc.data.length = rq.acc.size then
      .next ((s.deskInput (rq.acc.addr - 0x1000) rq.acc.data
        fun i => rq.acc.poison.testBit ((rq.acc.addr % 8 + i) / 8)).reply rq .ok)
    else .fault (.illFormed "DATA_IN")

/-- DATA_OUT (R432): result bytes from an offset; 0 while BUSY, and where the command has no result. -/
def execDataOut (place : DeskOut) (count : Nat) (s : State) : Host.Outcome State Fault Refusal :=
  let s := s.quiet
  if count = 0 ∨ 4096 < count then .fault (.illFormed "DATA_OUT")
  else if !s.desk.ready || !(DeskOp.dataOut.okay place.comp) then .next s
  else .next (s.emit (.deskOut ((List.range count).map fun i => if s.deskBusy then 0 else s.desk.result.getD (place.offset + i) 0)))

/-! ## Running a command (R434) -/

/-- The command with a CODE has been accepted and has not begun. -/
def State.deskAt (s : State) (code : Nat) : Bool := s.deskBusy && s.desk.wait.isNone && s.desk.code == code

/-- A command with its CODE: its effect, when it has been accepted and has not begun. -/
def State.deskRun (s : State) (code : Nat) (f : State → State) : Host.Outcome State Fault Refusal :=
  let s := s.quiet
  .next (if s.deskAt code then f s else s)

/-- The command waits. -/
def State.deskWait (s : State) (w : FdWait) : State := s.setDesk { s.desk with wait := some w }

/-- The command ends DONE with a result. -/
def State.deskResult (s : State) (bytes : List Byte) (records : Nat) : State :=
  (s.setDesk { s.desk with result := bytes, progress := records }).deskEnd true 0

/-- No record can be written in this start: the journal is read-only (R420), or the start stopped before its step 3 (R416; log entry 281). -/
def State.jnlShut (s : State) : Bool := s.jnlRO || (s.rd R.START_STAT_STOP_STEP != 0 && decide (s.rd R.START_STAT_STEP < 4))

/-- The command asks for a journal record (R419, R420): a journal that takes none fails it with JOURNAL_RO. -/
def State.deskJournal (s : State) (bs : List JBody) : State :=
  if s.jnlShut then s.deskEnd false 5
  else if bs.isEmpty then s.deskEnd true 0
  else (bs.foldl (fun s b => s.jnlAsk b true) s).deskWait .journal

/-- The front desk as an initiator: the host, at node 0x006 (R283, R434). -/
def State.deskIni (s : State) : Ini := ⟨s.rd R.NET_CFG_DEV_NUM, 6⟩

/-- An offset in the security, debug or self-test block, or of a register whose write the life cycle bars (R434, R440). -/
def lifeCycleBlock (off : Nat) : Bool := off / 0x100000 == 1 || inDebug off || off / 0x100000 == 0x7E || regAt off == some .MKEY_CMD

/-- A CSR access of the desk was answered other than OK (R433, R434, R440). -/
def State.deskAccess (s : State) (off : Nat) (code : Resp) : State :=
  if code = .denied ∧ lifeCycleBlock off ∧ !(s.lbistBars off) then s.deskEnd false 8
  else (s.setDesk { s.desk with result := leBytes 1 code.code }).deskEnd false 7

/-- CSR_READ (R434). -/
def execCsrRead (s : State) : Host.Outcome State Fault Refusal :=
  s.deskRun 2 fun s =>
    let off := s.desk.arg0
    let x := s.busRead s.deskIni off 4
    if x.2.1 = .ok then x.1.deskResult (leBytes 4 x.2.2) 0 else x.1.deskAccess off x.2.1

/-- CSR_WRITE (R434). -/
def execCsrWrite (s : State) : Host.Outcome State Fault Refusal :=
  s.deskRun 3 fun s =>
    let off := s.desk.arg0
    let x := s.busWrite s.deskIni off 4 false (BitVec.ofNat 32 s.desk.arg1)
    if x.2 = .ok then x.1.deskEnd true 0 else x.1.deskAccess off x.2

/-- The life cycle permits image loads (R440). -/
def State.loadsPermitted (s : State) : Bool := s.lc != 0 && s.lc != 5

/-- Begin an image load for the desk (R434, R440). -/
def State.deskLoad (s : State) (f : State → State) : State :=
  if !s.loadsPermitted then s.deskEnd false 8
  else if s.imgBusy || s.start.trying.isSome then s.deskEnd false 3
  else (f s).deskWait .image

/-- LOAD_IMAGE (R434): the image's bytes come by DATA_IN; IMAGE_HEADER takes the first 512 of them. -/
def execLoadImage (s : State) : Host.Outcome State Fault Refusal := s.deskRun 1 fun s => s.deskLoad id

/-- BOOT_RETRY (R423, R434): step 6 runs again from flash, and both images may be tried. A start that has stopped runs no step, and only a reset leaves
that state (R416): the command is FAILED (log entry 281). -/
def execBootRetry (s : State) : Host.Outcome State Fault Refusal :=
  s.deskRun 13 fun s => if s.rd R.START_STAT_STOP_STEP ≠ 0 then s.deskEnd false 4 else s.deskLoad fun s =>
    let s := s.setStart { s.start with tried := [] }
    if s.is1 R.IMG_STATUS_STARTED || decide (s.rd R.START_STAT_STEP < 6) then s else (s.wr R.START_STAT_STEP 6).clr R.START_STAT_WAIT_HOST

/-- The sector and slot of ARG0 (R434), where they are a user record's. -/
def Desk.userSlot (d : Desk) : Option (Nat × Nat) :=
  let l := d.arg0 / 256
  let k := d.arg0 % 256
  if 32 ≤ l ∧ l ≤ 255 ∧ 1 ≤ k then some (l, k) else none

/-- JNL_READ (R434): 64 bytes. A slot that holds no record reads as free bytes: the spec gives no contents (log entry 3). -/
def execJnlRead (s : State) : Host.Outcome State Fault Refusal :=
  s.deskRun 4 fun s =>
    match s.desk.userSlot with
    | none => s.deskEnd false 2
    | some (l, k) =>
      (match s.jnl.recs.find? fun r => match r.body with | .user a b _ => a == l && b == k | _ => false with
       | some r => s.deskResult r.bytes 0
       | none => (s.deskResult (leBytes 64 s.draw) 0).drawn)

/-- The first k bytes of DATA_IN, once they have all come. -/
def Desk.bytesIn (d : Desk) (k : Nat) : Option Nat :=
  let bs := (List.range k).map fun i => storeGet 0 i d.input
  if bs.all (· != 0) then some (leNat (bs.map fun b => BitVec.ofNat 8 (b - 1))) else none

/-- JNL_WRITE (R434): once the 48 bytes of BODY have come. -/
def execJnlWrite (s : State) : Host.Outcome State Fault Refusal :=
  s.deskRun 5 fun s =>
    match s.desk.userSlot, s.desk.bytesIn 48 with
    | none, _ => s.deskEnd false 2
    | some _, none => s
    | some (l, k), some b => s.deskJournal [.user l k b]

/-- CNT_INC (R421, R434). -/
def execCntInc (s : State) : Host.Outcome State Fault Refusal :=
  s.deskRun 6 fun s =>
    let i := s.desk.arg0
    let v := s.rd (R.JNL_CNT_VALUE i)
    if i < 2 ∨ 15 < i then s.deskEnd false 2
    else if s.jnlShut then s.deskEnd false 5
    else if v = 0xFFFFFFFF then s.deskEnd false 6
    else s.deskJournal [.counter i (v + 1)]

/-- Whether R426 takes a BODY of start settings: none of its refusals holds, reserved bits and codes among them. -/
def settingsOk (body : Nat) : Bool :=
  let b := fun i => body / 2 ^ (8 * i) % 256
  let twin := (b 0).testBit 2
  let odd := b 1 % 2 = 1
  decide (b 0 < 16) && decide (b 1 ≤ 23) && decide (b 2 ≤ 4) && decide (b 3 ≤ 3) && decide (b 4 ≤ 4) && decide (b 5 ≤ 3) &&
  b 7 == 0 && decide (body / 2 ^ 64 < 16) &&
  !(twin && b 1 == 23) && !(twin && b 1 == 22 && b 2 == 4) && !(odd && b 2 == 4) && b 4 != 4

/-- SETTINGS_SET (R426, R434): once the 48 bytes of BODY have come. -/
def execSettingsSet (s : State) : Host.Outcome State Fault Refusal :=
  s.deskRun 7 fun s =>
    match s.desk.bytesIn 48 with
    | none => s
    | some b => if settingsOk b then s.deskJournal [.settings b] else s.deskEnd false 2

/-- MAPOUT_CLEAR (R434): every field map-out record, or the one with an index. -/
def execMapoutClear (s : State) : Host.Outcome State Fault Refusal :=
  s.deskRun 8 fun s =>
    if s.desk.arg0 = 0xFFFFFFFF then s.deskJournal (s.mapoutRecs.map .cleared)
    else match s.mapoutRecs[s.desk.arg0]? with
      | none => s.deskEnd false 2
      | some r => s.deskJournal [.cleared r]

/-- The guestbook's records, oldest first (R429); those of a read-only journal are kept only in the housekeeping domain (R420), and the
spec gives them no sequence number (log entry 3). -/
def State.guestbook (s : State) : List (List Byte) :=
  let ring := s.jnl.recs.filterMap fun r => match r.body with | .event _ => some r.bytes | _ => none
  if s.jnlRO then ring ++ s.gbq.map fun e => e.bytes (s.draw % 2 ^ 48) else ring

/-- GB_READ (R429, R434): up to ARG1 records from index ARG0, the oldest being index 0. -/
def execGbRead (s : State) : Host.Outcome State Fault Refusal :=
  s.deskRun 9 fun s =>
    let count := s.desk.arg1
    if count = 0 ∨ 64 < count then s.deskEnd false 2
    else
      let rs := (s.guestbook.drop s.desk.arg0).take count
      (s.deskResult rs.flatten rs.length).drawn

/-- GB_UNFREEZE (R430). -/
def execGbUnfreeze (s : State) : Host.Outcome State Fault Refusal := s.deskRun 10 fun s => s.deskJournal [.freeze false]

/-- ALERT_ACK (R431). -/
def execAlertAck (s : State) : Host.Outcome State Fault Refusal := s.deskRun 11 fun s => (s.clr R.GB_STAT_ALERT).deskEnd true 0

/-- DEVICE_RESET (R434): a device reset is due 10 µs after acceptance, logged as FD_RESET. -/
def execDeviceReset (s : State) : Host.Outcome State Fault Refusal :=
  s.deskRun 12 fun s => ((s.log .fdReset []).setStart { s.start with resetDue := s.start.resetDue.or (some 3) }).deskWait .reset

/-- ITIN_READ (R422, R434): the step log of this start or of the one before, oldest record first. -/
def execItinRead (s : State) : Host.Outcome State Fault Refusal :=
  s.deskRun 14 fun s =>
    let k := s.desk.arg0
    if 1 < k then s.deskEnd false 2
    else
      let isOf : JRec → Bool := fun r => match r.body with | .itin x => x.start + k == s.startNum | _ => false
      let rs := (s.jnl.recs.filter isOf).map JRec.bytes
      s.deskResult rs.flatten rs.length

/-! ## ABORT (R435) -/

/-- The command is rolled back: its status is ABORTED. -/
def State.deskAborted (s : State) : State :=
  s.setDesk { s.desk with wait := none, input := [], status := 4, detail := 0 }

/-- ABORT comes late: the effects stand. -/
def State.abortLate (s : State) : State := s.setDesk { s.desk with late := true }

/-- The journal write of the command is given up before its commit point (R419, R435): in phase 1, the slot fails its CRC, and its previous record is
gone; a standing one has been copied forward. -/
def State.dropDeskWrite (s : State) (inPhase1 : Bool) : State :=
  let s := match s.jnl.queue with
    | w :: _ => if inPhase1 then (s.copyForward w.body).tearSlot ((s.copyForward w.body).placeOf w.body) else s
    | [] => s
  ({ s with jnl := { s.jnl with queue := s.jnl.queue.filter fun w => !w.fd } } : State).deskAborted

/-- The front desk's record is the write in progress. -/
def State.deskWriteFirst (s : State) : Bool :=
  match s.jnl.queue with
  | w :: _ => w.fd && w.ahead == 0
  | [] => false

/-- ABORT of a command that waits for the journal. -/
def State.abortWrite (s : State) (point : DeskPoint) : State :=
  if s.desk.part then s.abortLate
  else if !s.deskWriteFirst then s.dropDeskWrite false
  else match point with
    | .before => s.dropDeskWrite false
    | .phase1 => s.dropDeskWrite true
    | .after => s.abortLate

/-- ABORT of a command that waits for an image: a load fails under R207 before its commit point, also before its first byte (R209). -/
def State.abortLoad (s : State) : State :=
  match s.istate with
  | .commit | .starting => s.abortLate
  | .header | .stream | .verify | .idle | .done | .failed | .aborted => (s.loadFails 0x10).deskAborted

/-- ABORT of DEVICE_RESET: before its commit point, 10 µs after acceptance (R434), the reset that it asked for is not due; from then on it comes late. -/
def State.abortReset (s : State) : State :=
  if s.deskCommitted then s.abortLate
  else (if s.start.resetDue = some 3 then s.setStart { s.start with resetDue := none } else s).deskAborted

/-- ABORT of a command that has been accepted and has not begun: that of ALERT_ACK comes late, since acceptance is its commit point (R434). -/
def State.abortFresh (s : State) : State := if s.desk.code = 0x0B then s.abortLate else s.deskAborted

/-- ABORT (R432, R435), with how far the command's journal write is, where it has one. -/
def execAbort (a : DeskAbort) (s : State) : Host.Outcome State Fault Refusal :=
  let s := s.quiet
  if !s.deskBusy || !(DeskOp.abort.okay a.comp) then .next s
  else .next (match s.desk.wait with
    | none => s.abortFresh
    | some .image => s.abortLoad
    | some .journal => s.abortWrite a.point
    | some .reset => s.abortReset)

end Sys2Proof.Machine
end

