-- ==== Sys2Proof/Machine/Images.lean ====
section
/-! DEFINITION. Configuration images: their bytes, checks, commit and start (06_images.md, R189 to R214; 16_start_journal_front_desk.md,
R422 to R424, R436). -/

namespace Sys2Proof.Machine

/-- Set the image in progress. -/
def State.setImg (s : State) (x : Img) : State := { s with img := x }

/-! ## Header (R189, R190, R194, R195) -/

/-- A little-endian field of k bytes at an offset of the header. -/
def hfield (h : List Byte) (off k : Nat) : Nat := leNat ((h.drop off).take k)

/-- The reserved bits of the header are 0, and STACK_GRADE is not 0b11 (R189, R195). -/
def headerFormOk (h : List Byte) : Bool :=
  hfield h 4 2 == 1 && decide (hfield h 6 2 < 8) && decide (hfield h 0xC 1 < 3) && decide (hfield h 0xD 1 < 8) &&
  hfield h 0xE 2 == 0 && hfield h 0x2C 4 == 0 && hfield h 0x34 12 == 0 && hfield h 0x48 56 == 0 && hfield h 0x180 128 == 0

/-- DEVICE_ID is accepted (R194). -/
def State.deviceIdOk (s : State) (id : Nat) : Bool :=
  let speed := id / 256 % 16
  let temp := id / 16 % 16
  id / 2 ^ 12 == 0x08161 && decide (1 ≤ speed) && decide (speed ≤ s.fuses.speed) && (temp == 0 || temp == s.fuses.temp) && id % 16 == 0

/-- The stack meets the image (R195): its grade, the regions of REGION_USE and the banks of BANK_USE. -/
def State.stackOk (s : State) (h : List Byte) : Bool :=
  decide (s.rd R.STACK_SUMMARY_STACK_GRADE ≤ hfield h 0xC 1) &&
  (List.range 64).all (fun n => !((hfield h 0x40 8).testBit n) || !(s.unusable n)) &&
  (List.range 2048).all (fun b => !((hfield h (0x80 + b / 8) 1).testBit (b % 8)) || s.bankIn b)

/-- The key slot is provisioned, and the life cycle permits image loads (R195, R440, R450). -/
def State.slotOk (s : State) (k : Nat) : Bool :=
  s.slotState k == 1 && s.lc != 0 && s.lc != 5 && !(s.is1 R.LC_STATE_SLOTS_BARRED) && !(s.sec.unusable.contains k)

/-- TOTAL_LEN meets R190, and for the boot port the image ends within the flash address space (R195, R211). -/
def lengthOk (total : Nat) (base : Option Nat) : Bool :=
  total % 8 == 0 && decide (528 ≤ total) && decide (total ≤ 0x80000000) &&
  (match base with | some a => decide (a + total ≤ 2 ^ 32) | none => true)

/-- The checks from KEY on (R195, R210): 0, or the code of the first that fails. -/
def State.lateChecks (s : State) (h : List Byte) (base : Option Nat) : Nat :=
  if (s.slotKey (hfield h 0xD 1)).isNone then 5
  else if hfield h 0x1C 4 < s.rd R.IMG_SEC_FLOOR_FLOOR then 6
  else if !(lengthOk (hfield h 0x10 8) base) then 7
  else if 262144 < hfield h 0x18 4 then 8
  else if (hfield h 6 2).testBit 1 && s.is1 R.IMG_STATUS_STARTED then 9
  else 0

/-- The header checks in the order of R210: 0, or the code of the first that fails. -/
def State.headerCode (s : State) (h : List Byte) (base : Option Nat) : Nat :=
  if hfield h 0 4 ≠ 0x49414558 then 1
  else if !(headerFormOk h) then 2
  else if !(s.deviceIdOk (hfield h 8 4)) then 3
  else if !(s.stackOk h) then 4
  else if !(s.slotOk (hfield h 0xD 1)) then 5
  else s.lateChecks h base

/-- The check that names a slot reached its key, which fails its integrity check (R443). -/
def State.keyFailed (s : State) (h : List Byte) (code : Nat) : Bool :=
  code == 5 && s.slotOk (hfield h 0xD 1) && (s.slotKey (hfield h 0xD 1)).isNone

/-- The image is rejected at its header (R195, R210). -/
def State.imgReject (s : State) (code : Nat) : State :=
  (s.log .imgReject [code, s.rd R.IMG_STATUS_SOURCE, noSection]).imageOver code

/-- What the header says, for the rest of the load. -/
def imgOfHeader (src : Nat) (h : List Byte) (key : Nat) : Img :=
  let flags := hfield h 6 2
  let subkey := gcmSubkey (bytesLE 32 key)
  { src := src, enc := flags.testBit 0, start := flags.testBit 1, advance := flags.testBit 2, total := hfield h 0x10 8,
    stagedLen := hfield h 0x18 4, secVer := hfield h 0x1C 4, count := hfield h 0x30 4, regions := hfield h 0x40 8,
    slot := hfield h 0xD 1, key := key, nonce := hfield h 0x20 12, got := 512, subkey := subkey,
    digest := h.foldl (fun d b => d.byte subkey b.toNat) {} }

/-- The 512 bytes of the header have arrived (R195, R443): the image is rejected, or its body is awaited. -/
def State.checkHeader (s : State) (h : List Byte) (base : Option Nat) : State :=
  let code := s.headerCode h base
  let k := hfield h 0xD 1
  if code ≠ 0 then (if s.keyFailed h code then (s.imgReject code).slotFails k else s.imgReject code)
  else
    let key := (s.slotKey k).getD 0
    let s := s.setSec { s.sec with unwrapped := storeSet none k (some key) s.sec.unwrapped }
    (s.setImg (imgOfHeader s.img.src h key)).setIstate .stream

/-! ## Sections (R191 to R193, R199, R200) -/

/-- What a section header says: TYPE, REGION, PLANE, LENGTH, and whether its reserved bytes are 0 (R191). -/
structure SecHead where
  typ    : Nat
  region : Nat
  plane  : Nat
  len    : Nat
  clean  : Bool
  deriving DecidableEq, Repr

/-- Read a section header of 16 bytes (R191). -/
def secHead (h : List Byte) : SecHead :=
  ⟨hfield h 0 1, hfield h 2 1, hfield h 3 1, hfield h 8 8, hfield h 1 1 == 0 && hfield h 4 4 == 0⟩

/-- The length that a TYPE admits (R192). -/
def sectionLenOk (typ len : Nat) : Bool :=
  len % 8 == 0 &&
  match typ with
  | 1 => len == 1996800
  | 2 => decide (16 ≤ len)
  | 3 => true
  | 4 => decide (8 ≤ len)
  | 5 => len == 72
  | _ => false

/-- The section header meets R191, R192 and R200; SECTION_COUNT is at most 65,535 (R189; log entry 239). -/
def State.sectionOk (s : State) (x : SecHead) : Bool :=
  let i := s.img
  x.clean && sectionLenOk x.typ x.len && decide (i.got + x.len + 16 ≤ i.total) && decide (i.index < i.count) &&
  decide (i.count ≤ 65535) &&
  (if x.typ = 1 then decide (x.region < 64) && decide (x.plane < 8) && i.regions.testBit x.region
   else x.region == 0 && x.plane == 0 && decide (i.stagedSum + x.len ≤ i.stagedLen)) &&
  (x.typ != 5 || (i.start && !(i.staged.any fun e => e.typ == 5)))

/-- The planes of region n cannot be loaded (R117, R199, R457): their domain is off or under test, or the region is unusable. -/
def State.planesShut (s : State) (n : Nat) : Bool :=
  s.dstate (64 + n / 4) != .on || s.unusable n || s.configTested (n / 4)

/-- The plane of a PLANE_LOAD cannot be loaded (R199), or the image has loaded it. -/
def State.planeUnavailable (s : State) (n p : Nat) : Bool := s.planesShut n || s.loadingPlane n p

/-- A staged payload of TYPE 2 to 5 breaks R192 or R193. -/
def payloadOk (i : Img) (typ : Nat) (d : List Byte) : Bool :=
  match typ with
  | 2 =>
    let a := hfield d 0 8
    a % 8 == 0 && decide (0x50000000000 ≤ a) && decide (a < 0x50006000000) &&
    decide ((a - 0x50000000000) / 0x180000 = (a - 0x50000000000 + d.length - 9) / 0x180000)
  | 3 => (List.range (d.length / 8)).all fun k => decide (hfield d (8 * k) 4 < 2 ^ 28) && hfield d (8 * k) 4 % 4 == 0
  | 4 => decide (hfield d 0 8 + (d.length - 8) / 8 ≤ 32768) && decide (hfield d 0 8 < 32768)
  | 5 =>
    (List.range 64).all (fun n =>
      let b := hfield d n 1
      b / 8 % 8 == 0 && (!(b.testBit 6) || b.testBit 7) && (!(b.testBit 7) || i.regions.testBit n)) &&
    hfield d 64 8 % 256 < 16 && hfield d 64 8 / 256 < 2
  | _ => true

/-- A section's payload is complete: the next section follows; a staged one is held in the staging buffer (R200). -/
def State.sectionEnds (s : State) (d : List Byte) : State :=
  let i := s.img
  if i.typ ≠ 1 ∧ !(payloadOk i i.typ d) then s.imgFail 0x0A
  else
    let staged := if i.typ = 1 then i.staged else i.staged ++ [⟨i.index, i.typ, d⟩]
    s.setImg { i with staged := staged, index := i.index + 1, typ := 0, gather := [], frame := 0 }

/-- A section header has arrived: it is checked before anything is written (R199, R200, R210). -/
def State.sectionBegins (s : State) (h : List Byte) : State :=
  let x := secHead h
  if !(s.sectionOk x) then s.imgFail 0x0A
  else if x.typ = 1 ∧ s.plActive x.region x.plane then (s.log .planeLoadActive [x.region, x.plane]).imgFail 0x0B
  else if x.typ = 1 ∧ s.planeUnavailable x.region x.plane then s.imgFail 0x0C
  else
    let i := s.img
    let sum := if x.typ = 1 then i.stagedSum else i.stagedSum + x.len
    let s := s.setImg { i with head := [], typ := x.typ, region := x.region, plane := x.plane, left := x.len, stagedSum := sum, gather := [] }
    if x.len = 0 then s.sectionEnds [] else s

/-- A frame of a plane load (R93, R117, R199, R210): for a plane that has become ACTIVE it is discarded and logged, and the loader, answered DENIED,
fails the image; for one whose domain is off, or that has lost the frames before this one, the image fails as well. A frame for a plane under erase
waits; any other is written. -/
def State.takeFrame (s : State) (n p f data : Nat) : State :=
  if s.plActive n p then (s.log .planeLoadActive [n, p]).imgFail 0x0B
  else if s.planesShut n then s.imgFail 0x0C
  else if s.erasing = some (n, p) then { s with heldLoads := s.heldLoads ++ [(f, data)] }
  else if f ≠ 0 ∧ s.plState n p ≠ .dark then s.imgFail 0x0C
  else s.loadFrame n p f data

/-- The last of a section's bytes have come; the image may have failed with them. -/
def State.payloadEnds (s : State) (d : List Byte) : State :=
  if s.istate = .stream ∧ s.img.left = 0 then s.sectionEnds d else s

/-- A frame of the PLANE_LOAD section in progress has come whole, and is written (R199). -/
def State.frameArrives (s : State) (data : Nat) : State :=
  let i := s.img
  ((s.setImg { i with gather := [], frame := i.frame + 1 }).takeFrame i.region i.plane i.frame data).payloadEnds []

/-- One byte of a section's payload: a frame of a PLANE_LOAD is written when its 512 bytes are there (R199). -/
def State.payloadByte (s : State) (b : Byte) : State :=
  let i := s.img
  let g := i.gather ++ [b]
  let s := s.setImg { i with left := i.left - 1, gather := g }
  if i.typ = 1 then (if g.length = 512 then s.frameArrives (leNat g) else s) else s.payloadEnds g

/-- One byte of the body, in the clear. SECTION shows a section from the first byte of its header on (R210). -/
def State.bodyByte (s : State) (b : Byte) : State :=
  let i := s.img
  if 0 < i.left then s.payloadByte b
  else
    let h := i.head ++ [b]
    let s := s.wr R.IMG_STATUS_SECTION i.index
    if h.length = 16 then s.sectionBegins h else s.setImg { i with head := h }

/-- The body has ended: exactly at the end of a section, and with SECTION_COUNT of them (R191). -/
def State.bodyEnds (s : State) : State :=
  let i := s.img
  if i.left = 0 ∧ i.head = [] ∧ i.index = i.count then s.wr R.IMG_STATUS_SECTION noSection else s.imgFail 0x0A

/-! ## The byte stream (R190, R196, R199, R208) -/

/-- k more bytes are accepted (IMG_BYTES). -/
def State.countBytes (s : State) (k : Nat) : State :=
  let i := s.img
  (s.setImg { i with got := i.got + k }).wr64 R.IMG_BYTES_LO_COUNT R.IMG_BYTES_HI_COUNT (i.got + k)

/-- Bytes of the image are authenticated (R196). -/
def State.absorb (s : State) (bs : List Byte) : State :=
  let i := s.img
  s.setImg { i with digest := bs.foldl (fun d b => d.byte i.subkey b.toNat) i.digest }

/-- The keystream byte for byte n of the image, which is of its body: none but with ENC (R196). -/
def Img.mask (i : Img) (n : Nat) : Byte :=
  if i.enc then BitVec.ofNat 8 (gcmStream (bytesLE 32 i.key) (bytesLE 12 i.nonce) (n - 512)) else 0

/-- A byte of the header. -/
def State.headerByte (s : State) (base : Option Nat) (b : Byte) : State :=
  let s := s.countBytes 1
  let h := s.img.head ++ [b]
  if h.length = 512 then s.checkHeader h base else s.setImg { s.img with head := h }

/-- After bytes of the body: it may have ended with them. -/
def State.bodyMayEnd (s : State) : State := if s.istate = .stream ∧ s.img.got + 16 = s.img.total then s.bodyEnds else s

/-- A byte after the header: of the body, decrypted as it arrives when ENC is 1 (R196), or of the trailer. -/
def State.streamByte (s : State) (b : Byte) : State :=
  let i := s.img
  let s := s.countBytes 1
  if i.got + 16 < i.total then (((s.absorb [b]).bodyByte (b ^^^ i.mask i.got)).bodyMayEnd)
  else
    let s := s.setImg { s.img with trailer := s.img.trailer ++ [b] }
    if i.got + 1 = i.total then s.setIstate .verify else s

/-- One byte from the source; bytes past TOTAL_LEN are discarded (R190). -/
def State.imgByte (s : State) (base : Option Nat) (b : Byte) : State :=
  match s.istate with
  | .header => (s.headerByte base b).bodyMayEnd
  | .stream => s.streamByte b
  | .verify | .commit | .starting => s.set1 R.IMG_STATUS_EXCESS
  | .idle | .done | .failed | .aborted => s

/-- A load begins with its first byte (R202). At step 6 a host's image is recorded as UNIT 2 (R423). -/
def State.imgBegins (s : State) (src : Nat) : State :=
  let s := ((s.setImg { src := src }).wr R.IMG_STATUS_SOURCE src).wr R.IMG_STATUS_SECTION noSection
  let s := (s.wr64 R.IMG_BYTES_LO_COUNT R.IMG_BYTES_HI_COUNT 0).setIstate .header
  if src = 0 ∨ s.rd R.START_STAT_STEP ≠ 6 then s
  else
    let s := s.setStart { s.start with trying := some 2 }
    (s.wr R.START_STAT_IMAGE 3).itin 6 0 0 2 0

/-! ## Sources (R202, R211) -/

/-- The code of a source (IMG_STATUS.SOURCE). -/
def imgSrc : ImgIn → Nat
  | .flash _ _ _ => 0 | .mgmt _ => 1 | .desk _ _ => 2

/-- The offset of the first byte. -/
def imgOffset : ImgIn → Nat
  | .flash _ o _ => o | .mgmt rq => rq.acc.addr | .desk o _ => o

/-- The flash address of the image. -/
def imgBase : ImgIn → Option Nat
  | .flash b _ _ => some b | .mgmt _ => none | .desk _ _ => none

/-- The desk's bytes, where they have all come by DATA_IN: coded as in its input. -/
def State.deskBytes (s : State) (off k : Nat) : Option (List Nat) :=
  let bs := (List.range k).map fun i => storeGet 0 (off + i) s.desk.input
  if bs.all (· != 0) then some bs else none

/-- The bytes that are delivered, each with its poison; none: the desk has not taken them. -/
def State.imgData (s : State) : ImgIn → Option (List (Byte × Bool))
  | .flash _ _ bytes => some (bytes.map fun b => (b, false))
  | .mgmt rq =>
    some (((List.range rq.acc.data.length).zip rq.acc.data).map fun e => (e.2, rq.acc.poison.testBit ((rq.acc.addr % 8 + e.1) / 8)))
  | .desk off k => (s.deskBytes off k).map fun bs => bs.map fun b => (BitVec.ofNat 8 (b - 1), decide (257 ≤ b))

/-- The operands are those of a delivery. -/
def imgInOk : ImgIn → Bool
  | .flash _ _ bytes => !bytes.isEmpty
  | .mgmt rq => rq.acc.op == .nwr && rq.acc.dstNode == 5 && rq.acc.data.length == rq.acc.size && rq.acc.size != 0
  | .desk _ k => k != 0

/-- The source has a load to deliver, or may begin one (R202, R211, R423, R434): the flash image that step 6 tries, from the address that the directory
gives it, the desk's LOAD_IMAGE, or a
host's at the management endpoint while no other load is in progress. Loads are taken from step 6 on. -/
def State.sourceMay (s : State) (x : ImgIn) : Bool :=
  let step6 := decide (6 ≤ s.rd R.START_STAT_STEP) && s.rd R.START_STAT_STOP_STEP == 0
  let mine := if s.imgBusy then s.img.src == imgSrc x else imgOffset x == 0
  let desk := s.desk.wait == some .image && s.desk.code == 1
  step6 && mine &&
  match x with
  | .flash base _ _ => (s.start.trying == some 0 || s.start.trying == some 1) && base == s.start.base
  | .mgmt _ => !desk && !s.retrying && (s.start.trying.isNone || s.imgBusy)
  | .desk _ _ => desk

/-- The next byte that the load takes. -/
def State.imgNext (s : State) : Nat := if s.imgBusy then s.img.got else 0

/-- A delivery is taken (R195 to R200, R300): in order of its bytes; a poisoned byte fails the load without an alarm. -/
def State.imgTake (s : State) (x : ImgIn) (data : List (Byte × Bool)) : State :=
  let s := if s.imgBusy then s else s.imgBegins (imgSrc x)
  if s.imgOpen && data.any (·.2) then
    let sender := match x with | .mgmt rq => rq.ini.node | _ => 6
    (s.log .poisonConsumed (sender :: words64 (imgOffset x))).imgFail 0x0E
  else data.foldl (fun s e => s.imgByte (imgBase x) e.1) s

/-- The answer of the management endpoint (R202); other sources have none. -/
def State.imgAnswer (s : State) (x : ImgIn) (code : Resp) : State :=
  match x with
  | .mgmt rq => s.reply rq code
  | .flash _ _ _ | .desk _ _ => s

/-- A delivery of image bytes: refused by DENIED at the management endpoint where its source may not load now or its bytes are not the
next ones (R202). -/
def State.deliverImage (s : State) (x : ImgIn) (here : State → Nat → Bool) : State :=
  match s.imgData x with
  | none => s
  | some data =>
    if !(here s data.length) then s
    else if !(s.sourceMay x) || (s.imgOpen && imgOffset x != s.imgNext) then s.imgAnswer x .denied
    else (s.imgTake x data).imgAnswer x .ok

/-- Whether a delivery completes the header. -/
def State.completesHeader (s : State) (x : ImgIn) (k : Nat) : Bool :=
  let taken := if s.istate = .header then s.img.got else if s.imgBusy then 512 else 0
  decide (taken < 512) && decide (512 ≤ imgOffset x + k)

/-- IMAGE_HEADER (R195): the delivery with which the 512 bytes of the header have arrived. -/
def execImageHeader (x : ImgIn) (s : State) : Host.Outcome State Fault Refusal :=
  if !(imgInOk x) then .fault (.illFormed "IMAGE_HEADER")
  else .next (s.quiet.deliverImage x fun s k => s.completesHeader x k)

/-- IMAGE_BYTES (R200): any other delivery. -/
def execImageBytes (x : ImgIn) (s : State) : Host.Outcome State Fault Refusal :=
  if !(imgInOk x) then .fault (.illFormed "IMAGE_BYTES")
  else .next (s.quiet.deliverImage x fun s k => !(s.completesHeader x k))

/-- IMAGE_IDLE_TIMEOUT (R208): no byte for IDLE_TIMEOUT while bytes are owed; the boot port never times out. -/
def execImageIdleTimeout (s : State) : Host.Outcome State Fault Refusal :=
  let s := s.quiet
  if s.loadAwaited = some 2 then .next (s.loadFails 0x0D)
  else
    match s.istate with
    | .header | .stream => .next (if s.img.src = 0 then s else s.imgFail 0x0D)
    | .idle | .verify | .commit | .starting | .done | .failed | .aborted => .next s

/-- The open section is the PLANE_LOAD of this plane, and this is its next frame. -/
def State.frameDue (s : State) (n p f : Nat) : Bool := s.loadOpen n p && s.img.frame == f && s.img.gather.isEmpty && decide (512 ≤ s.img.left)

/-- PLANE_LOAD_FRAME (R117, R199): the next frame of the image's open PLANE_LOAD section comes whole; its 512 bytes, encrypted when ENC is 1, are
authenticated and counted with it. Outside of such a section there is no frame to write (DEDUCED, log entry 254). -/
def execPlaneLoadFrame (n : Fin 64) (p : Fin 8) (f : Fin 3900) (data : BitVec 4096) (s : State) :
    Host.Outcome State Fault Refusal :=
  let s := s.quiet
  if !(s.frameDue n.val p.val f.val) then .next s
  else
    let i := s.img
    let sent := (List.range 512).zipWith (fun k b => b ^^^ i.mask (i.got + k)) (leBytes 512 data.toNat)
    let s := (s.countBytes 512).absorb sent
    .next (((s.setImg { s.img with left := i.left - 512 }).frameArrives data.toNat).bodyMayEnd)

/-- IMG_ABORT (R209, R441): ABORT is written to IMG_CTL. -/
def execImgAbort (ini : Ini) (s : State) : Host.Outcome State Fault Refusal :=
  let s := s.quiet
  if s.fromInside ini then .next (s.deniedWrite ini)
  else .next (s.written ini R.IMG_CTL_ABORT.off fun s => wrImgCtl s (BitVec.ofNat 32 (2 ^ 31 + s.rd R.IMG_CTL_IDLE_TIMEOUT)))

/-! ## Tag and commit (R198, R203 to R206) -/

/-- The tag of an image whose body has come (R196): with ENC the header is additional data and the body ciphertext, else both are additional data. -/
def Img.tag (i : Img) : List Nat :=
  gcmTag (bytesLE 32 i.key) (bytesLE 12 i.nonce) i.digest (if i.enc then 512 else i.total - 16) (if i.enc then i.total - 528 else 0)

/-- IMAGE_TAG_CHECK (R198): the computed tag is compared with the trailer. -/
def execImageTagCheck (s : State) : Host.Outcome State Fault Refusal :=
  let s := s.quiet
  let i := s.img
  if s.istate ≠ .verify then .next s
  else if i.tag = i.trailer.map BitVec.toNat then .next (s.setIstate .commit)
  else .next ((s.imgFail 0x0E).alarm 0)

/-- The START payload of the image: the region bytes and the control word (R193). -/
def Img.startPayload (i : Img) : Option (List Byte) := (i.staged.find? fun e => e.typ == 5).map (·.data)

/-- The regions whose START byte has a bit set. -/
def Img.startRegions (i : Img) (bit : Nat) : List Nat :=
  match i.startPayload with
  | none => []
  | some d => (List.range 64).filter fun n => (hfield d n 1).testBit bit

/-- A SETTINGS offset that R203 bars: in the security, debug, self-test or journal and front desk block, or of no register. -/
def settingBarred (off : Nat) : Bool :=
  off / 0x100000 == 1 || inDebug off || (decide (0x7E00000 ≤ off) && decide (off < 0x8000000)) || (regAt off).isNone

/-- One staged section passes the check of R203. -/
def State.stagedOk (s : State) (x : Staged) : Bool :=
  match x.typ with
  | 2 =>
    let n := (hfield x.data 0 8 - 0x50000000000) / 0x180000
    s.dstate n == .on || (s.img.startRegions 7).contains n
  | 3 => (List.range (x.data.length / 8)).all fun k => !(settingBarred (hfield x.data (8 * k) 4))
  | 5 => (List.range 64).all fun n => hfield x.data n 1 == 0 || !(s.unusable n)
  | _ => true

/-- The index of the staged section that fails the check of R203 (none: of no one section); none at all: the staged content passes. -/
def State.preCheck (s : State) : Option Nat :=
  match s.img.staged.find? (fun x => !(s.stagedOk x)) with
  | some x => some x.index
  | none => if s.img.start && s.img.startPayload.isNone then some noSection else none

/-- All 3,900 frames of a plane have been written since it was erased (R91). -/
def State.planeWhole (s : State) (n p : Nat) : Bool := (List.range 3900).all fun f => (s.frame n p f).status != 3

/-- Every plane made DARK by the image becomes VALID, having been written whole; one whose load is incomplete becomes EMPTY (R91, R204). -/
def State.promote (s : State) : State :=
  let s := s.imgPlanes.foldl (fun s e =>
    if s.plState e.1 e.2 ≠ .dark then s
    else if s.planeWhole e.1 e.2 then (s.setPlState e.1 e.2 .valid).setPlTorn e.1 e.2 false
    else (s.setPlState e.1 e.2 .empty).erasePlane e.1 e.2) s
  { s with imgPlanes := [] }

/-- The image asks for a security floor above the present one (R204). -/
def State.floorDue (s : State) : Bool := s.img.advance && decide (s.rd R.IMG_SEC_FLOOR_FLOOR < s.img.secVer)

/-- The security floor is to be raised where the image asks for it: counter 0 gets a record, with which the floor changes (R204, R206, R421). -/
def State.raiseFloor (s : State) : State := if s.floorDue then s.jnlAsk (.counter 0 s.img.secVer) false else s

/-- A region marked UP is requested on (R204). -/
def State.upRegion (s : State) (n : Nat) : State := if s.dstate n = .on then s else s.requestOn n .innkeeper

/-- The initiator that images are applied as: the innkeeper, a host initiator (R214, R283). -/
def State.innkeeperIni (s : State) : Ini := ⟨s.rd R.NET_CFG_DEV_NUM, innkeeperNode⟩

/-- One SETTINGS entry is written (R204, R205). -/
def State.applySetting (s : State) (x : Staged) (k : Nat) : State :=
  let off := hfield x.data (8 * k) 4
  let v := BitVec.ofNat 32 (hfield x.data (8 * k + 4) 4)
  let refused := s.refuses s.innkeeperIni off v
  let r := s.busWrite s.innkeeperIni off 4 false v
  if r.2 = .ok ∧ !refused then r.1 else r.1.applyFailed x.index r.2

/-- Word k of a BRAM_INIT run is sent to the block RAM window (R61, R62, R204). -/
def State.sendBram (s : State) (x : Staged) (k : Nat) : State :=
  let tag := s.freeTag innkeeperNode
  (s.setImg { s.img with sent := some tag }).sendReq innkeeperNode
    ⟨.wr, 0, 0, hfield x.data 0 8 + 8 * k, 8, (x.data.drop (8 + 8 * k)).take 8, 0⟩

/-- One staged section other than a BRAM_INIT is applied (R204). -/
def State.applyStaged (s : State) (x : Staged) : State :=
  match x.typ with
  | 3 => (List.range (x.data.length / 8)).foldl (fun s k => s.applySetting x k) s
  | 4 => (List.range (x.data.length / 8 - 1)).foldl (fun s k => s.imemWrite (hfield x.data 0 8 + k) (hfield x.data (8 + 8 * k) 8)) s
  | _ => s

/-- The desk's load has succeeded (R434, R435). -/
def State.deskImageDone (s : State) : State :=
  if s.desk.wait = some .image ∧ (s.img.src = 2 ∨ s.retrying) then s.deskEnd true 0 else s

/-- The image is done. -/
def State.imgDone (s : State) : State :=
  let s := (s.setIstate .done).deskImageDone
  s.setImg {}

/-- The step 6 that this image belongs to ends OK (R422, R423): with a start image step 7 begins; without one the device waits for a
host. -/
def State.stepSixEnds (s : State) : State :=
  match s.start.trying with
  | none => s
  | some u =>
    let s := s.itin 6 1 0 u 0
    if s.rd R.START_STAT_STEP ≠ 6 then s
    else if s.img.start then ((s.clr R.START_STAT_WAIT_HOST).wr R.START_STAT_STEP 7).itin 7 0 0 u 0
    else s.set1 R.START_STAT_WAIT_HOST

/-- The commit begins (R203, R204): the check, then planes and floor. -/
def State.commitBegins (s : State) : State :=
  match s.preCheck with
  | some idx => (s.wr R.IMG_STATUS_SECTION idx).imgFail 0x0F
  | none =>
    let s := (s.promote).raiseFloor
    s.setImg { s.img with phase := .floor }

/-- The floor stands as the image asks, or cannot be raised, the journal being read-only (R205); then the regions marked UP are powered (R204). While
its record waits the commit waits. -/
def State.commitPowers (s : State) : State :=
  if s.floorDue && !s.jnlRO then s
  else
    let s := if s.floorDue then (s.set1 R.IMG_STATUS_SV_NOT_ADV).log .imgSvNotAdvanced [] else s
    let s := (s.img.startRegions 7).foldl State.upRegion s
    s.setImg { s.img with phase := .up }

/-- Staged sections are applied in image order, up to a word of a BRAM_INIT run, which is sent and waits for its answer; true: all have been (R204). -/
def State.applyRun : List Staged → State → State × Bool
  | [], s => (s, true)
  | x :: xs, s =>
    if x.typ = 2 ∧ s.img.words < x.data.length / 8 - 1 then
      (if s.img.sent.isSome || !(s.maySend innkeeperNode) then s else s.sendBram x s.img.words, false)
    else
      let s := s.applyStaged x
      applyRun xs (s.setImg { s.img with applied := s.img.applied + 1, words := 0 })

/-- Every staged section has been applied: a start image starts, any other is done (R204). -/
def State.commitEnds (s : State) : State :=
  let s := s.stepSixEnds
  if s.img.start then (s.setImg { s.img with phase := .none }).setIstate .starting
  else (s.setStart { s.start with trying := none }).imgDone

/-- A domain is on its way. -/
def State.settling (s : State) (d : Nat) : Bool := s.dstate d == .waking || s.dstate d == .closing

/-- The regions marked UP are up, or stay down: the next staged content is applied (R204). -/
def State.commitApplies (s : State) : State :=
  let r := State.applyRun (s.img.staged.drop s.img.applied) s
  if r.2 then r.1.commitEnds else r.1

/-- IMAGE_COMMIT (R203 to R206): the next step of the commit that can be taken: the check, the planes and the floor; the power requests; then, when the
regions marked UP are up, the staged content. -/
def execImageCommit (s : State) : Host.Outcome State Fault Refusal :=
  let s := s.quiet
  if s.istate ≠ .commit ∨ s.heldLoads ≠ [] then .next s
  else match s.img.phase with
    | .none => .next s.commitBegins
    | .floor => .next s.commitPowers
    | .up => .next (if (s.img.startRegions 7).any s.settling then s else s.commitApplies)
    | .fills | .swaps => .next s

/-! ## START (R212, R436) -/

/-- START cannot complete (R210, R212): what was done stands. The region or the thread follows code, source and section. -/
def State.startFails (s : State) (what : Nat) : State :=
  let idx := ((s.img.staged.find? fun e => e.typ == 5).map (·.index)).getD noSection
  let s := s.wr R.IMG_STATUS_SECTION idx
  (s.log .imgFail [0x11, s.rd R.IMG_STATUS_SOURCE, idx, what]).imageOver 0x11

/-- The plane that START names for a region. -/
def Img.startPlane (i : Img) (n : Nat) : Nat := (i.startPayload.map fun d => hfield d n 1 % 8).getD 0

/-- Why a region refuses a command of START, which has owner authority (R96, R212). -/
def State.startRefusal (s : State) (n : Nat) (k : RCmdKind) : Bool :=
  s.unusable n || s.regionTested n || !(k.allowedIn (s.rstate n)) ||
  (match k with | .fill p _ => (s.fillRefusal n p).isSome | _ => false)

/-- Step 1 of R212: the fills are given. -/
def State.startFills (s : State) : State :=
  let rs := s.img.startRegions 6
  match rs.find? fun n => s.startRefusal n (.fill (s.img.startPlane n) false) with
  | some n => s.startFails n
  | none =>
    let s := rs.foldl (fun s n => s.acceptFill n (s.img.startPlane n) none) s
    s.setImg { s.img with phase := .fills }

/-- The region's shadow holds the plane of START, READY. -/
def State.startReady (s : State) (n : Nat) : Bool := s.shadowHas n (s.img.startPlane n) && s.shState n == .ready
/-- The region's fill is still under way. -/
def State.startFilling (s : State) (n : Nat) : Bool :=
  s.shadowHas n (s.img.startPlane n) && (s.shState n == .queued || s.shState n == .filling)

/-- Step 2 of R212: each filled plane is swapped in, once every shadow is READY. -/
def State.startSwaps (s : State) : State :=
  let rs := s.img.startRegions 6
  match rs.find? fun n => !(s.startReady n) && !(s.startFilling n) with
  | some n => s.startFails n
  | none =>
    if rs.any fun n => !(s.startReady n) then s
    else match rs.find? fun n => s.startRefusal n (.swap (s.img.startPlane n)) with
      | some n => s.startFails n
      | none =>
        let s := rs.foldl (fun s n => s.arm n (s.armTarget n) ⟨some (s.img.startPlane n), .host⟩) s
        let u := s.start.trying.getD 0
        let s := if s.rd R.START_STAT_STEP = 7 then
            (((s.itin 7 1 0 u 0).wr R.START_STAT_STEP 8).itin 8 0 0 u 0) else s
        s.setImg { s.img with phase := .swaps }

/-- The plane of START is in the region's active latches. -/
def State.startSwapped (s : State) (n : Nat) : Bool :=
  s.is1 (R.REGION_STATUS_HAS_ACTIVE n) && s.rd (R.REGION_STATUS_ACTIVE_PLANE n) == s.img.startPlane n

/-- The control word of START (R193). -/
def Img.startControl (i : Img) : Nat := (i.startPayload.map fun d => hfield d 64 8).getD 0

/-- Steps 8 and 9 end (R415, R422, R436): the outputs are released, and PENDING groups start (R334). -/
def State.releaseOutputs (s : State) : State :=
  let s := if s.rd R.START_STAT_STEP = 8 then
      let s := (((s.itin 8 1 0 (s.start.trying.getD 0) 0).wr R.START_STAT_STEP 9).itin 9 0 0 0 0).itin 9 1 0 0 0
      s.wr R.START_STAT_STEP 15
    else s
  (s.setStart { s.start with trying := none }).linksSettle

/-- Steps 3 to 5 of R212: the tick generator, the threads, STARTED. -/
def State.startRuns (s : State) : State :=
  let c := s.img.startControl
  let s := if c.testBit 8 then s.writeTickEn true else s
  let ts := (List.range 4).filter c.testBit
  let go := ts.takeWhile fun t => s.tstate t = .off
  let s := go.foldl State.threadStart s
  match ts.drop go.length with
  | t :: _ => s.startFails t
  | [] => ((s.set1 R.IMG_STATUS_STARTED).imgDone).releaseOutputs

/-- The swaps of START are performed: the rest of R212 follows; a region that lost its swap stops START. -/
def State.startAfterSwaps (s : State) : State :=
  let rs := s.img.startRegions 6
  match rs.find? fun n => !(s.startSwapped n) && !(s.swapPending n) with
  | some n => s.startFails n
  | none => if rs.any fun n => !(s.startSwapped n) || s.swapPending n then s else s.startRuns

/-- IMAGE_START (R212): the next step of START that can be taken. -/
def execImageStart (s : State) : Host.Outcome State Fault Refusal :=
  let s := s.quiet
  if s.istate ≠ .starting then .next s
  else match s.img.phase with
    | .none | .floor | .up => .next s.startFills
    | .fills => .next s.startSwaps
    | .swaps => .next s.startAfterSwaps

end Sys2Proof.Machine
end

