-- ==== Sys2Proof/Machine/Scalar.lean ====
section
/-! DEFINITION. The scalar and flow instructions (05_paeri_isa.md, R166 to R169; 04_ticks_and_sequencer.md, R144). -/

namespace Sys2Proof.Machine

/-- The register form (R166): RD ← RA op RB, with the OR of the tags (R160). -/
def State.aluReg (s : State) (t fn : Nat) : State :=
  s.oldest t (· == .alu false fn) fun i s =>
    (s.setReg t i.rd (alu fn (s.reg t i.ra) (s.reg t i.rb)) (s.tag t i.ra || s.tag t i.rb)).commit t

/-- The immediate form (R166): RD ← RA op IMM sign-extended, with the tag of RA (R160). -/
def State.aluImm (s : State) (t fn : Nat) : State :=
  s.oldest t (· == .alu true fn) fun i s =>
    (s.setReg t i.rd (alu fn (s.reg t i.ra) i.simm) (s.tag t i.ra)).commit t

/-- ADD (R166): x + y. -/
def execAdd (t : Fin 4) (s : State) : Host.Outcome State Fault Refusal := .next (s.quiet.aluReg t.val 0)
/-- SUB (R166): x − y. -/
def execSub (t : Fin 4) (s : State) : Host.Outcome State Fault Refusal := .next (s.quiet.aluReg t.val 1)
/-- AND (R166): x AND y. -/
def execAnd (t : Fin 4) (s : State) : Host.Outcome State Fault Refusal := .next (s.quiet.aluReg t.val 2)
/-- OR (R166): x OR y. -/
def execOr (t : Fin 4) (s : State) : Host.Outcome State Fault Refusal := .next (s.quiet.aluReg t.val 3)
/-- XOR (R166): x XOR y. -/
def execXor (t : Fin 4) (s : State) : Host.Outcome State Fault Refusal := .next (s.quiet.aluReg t.val 4)
/-- SLL (R166): x shifted left by y[5:0]. -/
def execSll (t : Fin 4) (s : State) : Host.Outcome State Fault Refusal := .next (s.quiet.aluReg t.val 5)
/-- SRL (R166): x shifted right by y[5:0] with zero fill. -/
def execSrl (t : Fin 4) (s : State) : Host.Outcome State Fault Refusal := .next (s.quiet.aluReg t.val 6)
/-- SRA (R166): x shifted right by y[5:0] with sign fill. -/
def execSra (t : Fin 4) (s : State) : Host.Outcome State Fault Refusal := .next (s.quiet.aluReg t.val 7)
/-- MUL (R166): the low 64 bits of x × y. -/
def execMul (t : Fin 4) (s : State) : Host.Outcome State Fault Refusal := .next (s.quiet.aluReg t.val 8)
/-- SLT (R166): 1 if x < y signed. -/
def execSlt (t : Fin 4) (s : State) : Host.Outcome State Fault Refusal := .next (s.quiet.aluReg t.val 9)
/-- SLTU (R166): 1 if x < y unsigned. -/
def execSltu (t : Fin 4) (s : State) : Host.Outcome State Fault Refusal := .next (s.quiet.aluReg t.val 10)
/-- SEQ (R166): 1 if x = y. -/
def execSeq (t : Fin 4) (s : State) : Host.Outcome State Fault Refusal := .next (s.quiet.aluReg t.val 11)
/-- MIN (R166): the smaller, signed. -/
def execMin (t : Fin 4) (s : State) : Host.Outcome State Fault Refusal := .next (s.quiet.aluReg t.val 12)
/-- MAX (R166): the larger, signed. -/
def execMax (t : Fin 4) (s : State) : Host.Outcome State Fault Refusal := .next (s.quiet.aluReg t.val 13)
/-- MINU (R166): the smaller, unsigned. -/
def execMinu (t : Fin 4) (s : State) : Host.Outcome State Fault Refusal := .next (s.quiet.aluReg t.val 14)
/-- MAXU (R166): the larger, unsigned. -/
def execMaxu (t : Fin 4) (s : State) : Host.Outcome State Fault Refusal := .next (s.quiet.aluReg t.val 15)
/-- ADDI (R166): x + y, y the immediate. -/
def execAddi (t : Fin 4) (s : State) : Host.Outcome State Fault Refusal := .next (s.quiet.aluImm t.val 0)
/-- SUBI (R166): x − y, y the immediate. -/
def execSubi (t : Fin 4) (s : State) : Host.Outcome State Fault Refusal := .next (s.quiet.aluImm t.val 1)
/-- ANDI (R166): x AND y, y the immediate. -/
def execAndi (t : Fin 4) (s : State) : Host.Outcome State Fault Refusal := .next (s.quiet.aluImm t.val 2)
/-- ORI (R166): x OR y, y the immediate. -/
def execOri (t : Fin 4) (s : State) : Host.Outcome State Fault Refusal := .next (s.quiet.aluImm t.val 3)
/-- XORI (R166): x XOR y, y the immediate. -/
def execXori (t : Fin 4) (s : State) : Host.Outcome State Fault Refusal := .next (s.quiet.aluImm t.val 4)
/-- SLLI (R166): x shifted left by y[5:0], y the immediate. -/
def execSlli (t : Fin 4) (s : State) : Host.Outcome State Fault Refusal := .next (s.quiet.aluImm t.val 5)
/-- SRLI (R166): x shifted right by y[5:0] with zero fill, y the immediate. -/
def execSrli (t : Fin 4) (s : State) : Host.Outcome State Fault Refusal := .next (s.quiet.aluImm t.val 6)
/-- SRAI (R166): x shifted right by y[5:0] with sign fill, y the immediate. -/
def execSrai (t : Fin 4) (s : State) : Host.Outcome State Fault Refusal := .next (s.quiet.aluImm t.val 7)
/-- MULI (R166): the low 64 bits of x × y, y the immediate. -/
def execMuli (t : Fin 4) (s : State) : Host.Outcome State Fault Refusal := .next (s.quiet.aluImm t.val 8)
/-- SLTI (R166): 1 if x < y signed, y the immediate. -/
def execSlti (t : Fin 4) (s : State) : Host.Outcome State Fault Refusal := .next (s.quiet.aluImm t.val 9)
/-- SLTUI (R166): 1 if x < y unsigned, y the immediate. -/
def execSltui (t : Fin 4) (s : State) : Host.Outcome State Fault Refusal := .next (s.quiet.aluImm t.val 10)
/-- SEQI (R166): 1 if x = y, y the immediate. -/
def execSeqi (t : Fin 4) (s : State) : Host.Outcome State Fault Refusal := .next (s.quiet.aluImm t.val 11)
/-- MINI (R166): the smaller, signed, y the immediate. -/
def execMini (t : Fin 4) (s : State) : Host.Outcome State Fault Refusal := .next (s.quiet.aluImm t.val 12)
/-- MAXI (R166): the larger, signed, y the immediate. -/
def execMaxi (t : Fin 4) (s : State) : Host.Outcome State Fault Refusal := .next (s.quiet.aluImm t.val 13)
/-- MINUI (R166): the smaller, unsigned, y the immediate. -/
def execMinui (t : Fin 4) (s : State) : Host.Outcome State Fault Refusal := .next (s.quiet.aluImm t.val 14)
/-- MAXUI (R166): the larger, unsigned, y the immediate. -/
def execMaxui (t : Fin 4) (s : State) : Host.Outcome State Fault Refusal := .next (s.quiet.aluImm t.val 15)

/-- NOP (R167): no effect. -/
def execNop (t : Fin 4) (s : State) : Host.Outcome State Fault Refusal :=
  .next (s.quiet.oldest t.val (· == .nop) fun _ s => s.commit t.val)
/-- LI (R167): RD ← IMM sign-extended, tag clear (R160). -/
def execLi (t : Fin 4) (s : State) : Host.Outcome State Fault Refusal :=
  .next (s.quiet.oldest t.val (· == .li) fun i s => (s.setReg t.val i.rd i.simm false).commit t.val)
/-- LIH (R167). -/
def execLih (t : Fin 4) (s : State) : Host.Outcome State Fault Refusal :=
  .next (s.quiet.oldest t.val (· == .lih) fun i s =>
    (s.setReg t.val i.rd (lihValue i.imm (s.reg t.val i.ra)) (s.tag t.val i.ra)).commit t.val)

/-- The unary operations (R167). -/
def State.unaryOp (s : State) (t fn : Nat) : State :=
  s.oldest t (· == .unary fn) fun i s => (s.setReg t i.rd (unary fn (s.reg t i.ra)) (s.tag t i.ra)).commit t
/-- POPC (R167). -/
def execPopc (t : Fin 4) (s : State) : Host.Outcome State Fault Refusal := .next (s.quiet.unaryOp t.val 0)
/-- CLZ (R167). -/
def execClz (t : Fin 4) (s : State) : Host.Outcome State Fault Refusal := .next (s.quiet.unaryOp t.val 1)
/-- CTZ (R167). -/
def execCtz (t : Fin 4) (s : State) : Host.Outcome State Fault Refusal := .next (s.quiet.unaryOp t.val 2)

/-! ## Branches (R144, R168) -/

/-- How branch number seq of thread t resolved, if it has (R144). -/
def State.resolution (s : State) (t seq : Nat) : Option Bool := ((s.thread t).resolved.find? (·.1 == seq)).map (·.2)

/-- Branch number seq of thread t resolves, once (R144, R146): a branch that went the other way than it was predicted at its issue is counted, and its
wrong path is squashed. A FENCE branch predicts nothing. -/
def State.resolve (s : State) (t seq : Nat) (i : Insn) (predicted taken : Bool) : State :=
  if (s.resolution t seq).isSome then s
  else
    let x := s.thread t
    let s := s.setThread t { x with resolved := x.resolved ++ [(seq, taken)] }
    if i.fn % 4 ≠ 3 && predicted != taken then (s.bump (R.SEQ_THR_SPEC_MISPREDICT t)).squashAfter t seq else s

/-- The outcome of a branch: a compare branch by the operands delivered (R161, R168), BFS and BFC by the flag line as it was in the issue cycle. -/
def branchOutcome (r : Row) (x y : Word) (flag : Bool) : Bool :=
  match r with
  | .branch k => branchTaken k x y
  | .bfc => !flag
  | _ => flag

/-- The oldest instruction, a branch, resolves if it has not (R161: on the operands delivered, tagged or not). -/
def State.branchResolves (s : State) (t : Nat) (r : Row) (i : Insn) : State :=
  let s := s.issueSlot t 0
  let seq := (s.thread t).commits
  let e := s.branchIssue t seq (s.tpc t) i
  s.resolve t seq i e.taken (branchOutcome r (s.reg t i.ra) (s.reg t i.rb) e.flag)

/-- A resolved branch commits (R143, R144): a DYNAMIC one moves its counter. -/
def State.branchCommit (s : State) (t : Nat) (i : Insn) : State :=
  let pc := s.tpc t
  let taken := (s.resolution t (s.thread t).commits).getD false
  (s.train (i.fn % 4) pc taken).commitTo t (if taken then i.imm % 32768 else nextPc pc)

/-- A compare branch, OP 0x20 + k (R168): it resolves on the operands delivered, and one with a tagged operand then faults at its commit (R161). -/
def State.branchOp (s : State) (t k : Nat) : State :=
  s.oldest t (· == .branch k) fun i s =>
    (s.branchResolves t (.branch k) i).consuming t [i.ra, i.rb] fun s => s.branchCommit t i

/-- BFS or BFC (R168). -/
def State.flagBranch (s : State) (t : Nat) (r : Row) : State :=
  s.oldest t (· == r) fun i s => (s.branchResolves t r i).branchCommit t i

/-- BEQ (R168). -/
def execBeq (t : Fin 4) (s : State) : Host.Outcome State Fault Refusal := .next (s.quiet.branchOp t.val 0)
/-- BNE (R168). -/
def execBne (t : Fin 4) (s : State) : Host.Outcome State Fault Refusal := .next (s.quiet.branchOp t.val 1)
/-- BLT (R168). -/
def execBlt (t : Fin 4) (s : State) : Host.Outcome State Fault Refusal := .next (s.quiet.branchOp t.val 2)
/-- BGE (R168). -/
def execBge (t : Fin 4) (s : State) : Host.Outcome State Fault Refusal := .next (s.quiet.branchOp t.val 3)
/-- BLTU (R168). -/
def execBltu (t : Fin 4) (s : State) : Host.Outcome State Fault Refusal := .next (s.quiet.branchOp t.val 4)
/-- BGEU (R168). -/
def execBgeu (t : Fin 4) (s : State) : Host.Outcome State Fault Refusal := .next (s.quiet.branchOp t.val 5)
/-- BFS (R168): taken when flag line IMM[23:16] is 1. -/
def execBfs (t : Fin 4) (s : State) : Host.Outcome State Fault Refusal :=
  .next (s.quiet.flagBranch t.val .bfs)
/-- BFC (R168): taken when flag line IMM[23:16] is 0. -/
def execBfc (t : Fin 4) (s : State) : Host.Outcome State Fault Refusal :=
  .next (s.quiet.flagBranch t.val .bfc)
/-- JAL (R169): RD ← PC + 1 with its tag clear; goes to IMM[14:0]. -/
def execJal (t : Fin 4) (s : State) : Host.Outcome State Fault Refusal :=
  .next (s.quiet.oldest t.val (· == .jal) fun i s =>
    (s.setReg t.val i.rd (BitVec.ofNat 64 (nextPc (s.tpc t.val))) false).commitTo t.val (i.imm % 32768))
/-- JALR (R169): RD ← PC + 1; goes to (RA + IMM)[14:0]. It consumes RA (R161). -/
def execJalr (t : Fin 4) (s : State) : Host.Outcome State Fault Refusal :=
  .next (s.quiet.oldest t.val (· == .jalr) fun i s => s.consuming t.val [i.ra] fun s =>
    let target := jalrTarget i (s.reg t.val i.ra)
    (s.setReg t.val i.rd (BitVec.ofNat 64 (nextPc (s.tpc t.val))) false).commitTo t.val target)

/-- BRANCH_RESOLVE (R144): the conditional branch at slot k of the window, its operands delivered, resolves ahead of its
commit. BFS and BFC resolve on the flags word as it was in their issue cycle. -/
def execBranchResolve (t : Fin 4) (k : Fin 24) (s : State) : Host.Outcome State Fault Refusal :=
  let s := s.quiet.issueBelow t.val (k.val + 1)
  let seq := (s.thread t.val).commits + k.val
  match s.window t.val k.val with
  | none => .next s
  | some w =>
    match s.slotInsn t.val k.val w with
    | some (i, .branch b) =>
      let e := s.branchIssue t.val seq w.pc i
      if w.has i.ra && w.has i.rb then
        .next (s.resolve t.val seq i e.taken (branchOutcome (.branch b) (w.reg i.ra) (w.reg i.rb) e.flag))
      else .next s
    | some (i, .bfs) =>
      let e := s.branchIssue t.val seq w.pc i
      .next (s.resolve t.val seq i e.taken (branchOutcome .bfs 0 0 e.flag))
    | some (i, .bfc) =>
      let e := s.branchIssue t.val seq w.pc i
      .next (s.resolve t.val seq i e.taken (branchOutcome .bfc 0 0 e.flag))
    | _ => .next s

end Sys2Proof.Machine
end

