-- ==== Sys2Proof/Machine/Dispatch.lean ====
section
/-! DEFINITION. Which meaning each command has: one arm per constructor of Instr, each one direct call. -/

namespace Sys2Proof.Machine

/-- The effect of a command on everything but the queue of waiting commands. -/
def exec (i : Instr) (s : State) : Host.Outcome State Fault Refusal :=
  match i with
  | .registerWrite ini off size value => Sys2Proof.Machine.execRegisterWrite ini off size value s
  | .rsFieldRead ini off => Sys2Proof.Machine.execRsFieldRead ini off s
  | .pairLoRead ini off => Sys2Proof.Machine.execPairLoRead ini off s
  | .pairHiRead ini off => Sys2Proof.Machine.execPairHiRead ini off s
  | .pairLoWrite ini off value => Sys2Proof.Machine.execPairLoWrite ini off value s
  | .pairHiWrite ini off value => Sys2Proof.Machine.execPairHiWrite ini off value s
  | .faceRefresh x y c change => Sys2Proof.Machine.execFaceRefresh x y c change s
  | .bramWindowAccess rq => Sys2Proof.Machine.execBramWindowAccess rq s
  | .bramWindowRow n edge => Sys2Proof.Machine.execBramWindowRow n edge s
  | .clkNetCfgWrite ini g value => Sys2Proof.Machine.execClkNetCfgWrite ini g value s
  | .pllLocked g => Sys2Proof.Machine.execPllLocked g s
  | .pllLockLost g => Sys2Proof.Machine.execPllLockLost g s
  | .regionClkWrite ini n value => Sys2Proof.Machine.execRegionClkWrite ini n value s
  | .portPacketSend n p acc last => Sys2Proof.Machine.execPortPacketSend n p acc last s
  | .portResponseArrival n p tag a => Sys2Proof.Machine.execPortResponseArrival n p tag a s
  | .portInboundRequest n p rq => Sys2Proof.Machine.execPortInboundRequest n p rq s
  | .regionPortCfgWrite ini n p value => Sys2Proof.Machine.execRegionPortCfgWrite ini n p value s
  | .regionPortSlotsWrite ini n p value => Sys2Proof.Machine.execRegionPortSlotsWrite ini n p value s
  | .pinInputFlit n p samples first taken => Sys2Proof.Machine.execPinInputFlit n p samples first taken s
  | .pinOutputFlit n p samples => Sys2Proof.Machine.execPinOutputFlit n p samples s
  | .pinUnderrun n p => Sys2Proof.Machine.execPinUnderrun n p s
  | .flagChange n k level => Sys2Proof.Machine.execFlagChange n k level s
  | .eventDelivery n k => Sys2Proof.Machine.execEventDelivery n k s
  | .erase ini n p => Sys2Proof.Machine.execErase ini n p s
  | .eraseComplete => Sys2Proof.Machine.execEraseComplete s
  | .powerUp n src => Sys2Proof.Machine.execPowerUp n src s
  | .powerOff n src => Sys2Proof.Machine.execPowerOff n src s
  | .fill n src p => Sys2Proof.Machine.execFill n src p s
  | .swap n src p => Sys2Proof.Machine.execSwap n src p s
  | .hold n src => Sys2Proof.Machine.execHold n src s
  | .release n src => Sys2Proof.Machine.execRelease n src s
  | .stop n src => Sys2Proof.Machine.execStop n src s
  | .isolate n => Sys2Proof.Machine.execIsolate n s
  | .unisolate n => Sys2Proof.Machine.execUnisolate n s
  | .clear n => Sys2Proof.Machine.execClear n s
  | .cancelFill n src => Sys2Proof.Machine.execCancelFill n src s
  | .ownerWrite ini n owner => Sys2Proof.Machine.execOwnerWrite ini n owner s
  | .regionCmdEffect n => Sys2Proof.Machine.execRegionCmdEffect n s
  | .seqCommandArrival => Sys2Proof.Machine.execSeqCommandArrival s
  | .squash n p t => Sys2Proof.Machine.execSquash n p t s
  | .fillGrant => Sys2Proof.Machine.execFillGrant s
  | .fillComplete n => Sys2Proof.Machine.execFillComplete n s
  | .decisionPoint n => Sys2Proof.Machine.execDecisionPoint n s
  | .clampCycle n => Sys2Proof.Machine.execClampCycle n s
  | .swapEdge n => Sys2Proof.Machine.execSwapEdge n s
  | .spillComplete n => Sys2Proof.Machine.execSpillComplete n s
  | .armedSwapNoBoundary n => Sys2Proof.Machine.execArmedSwapNoBoundary n s
  | .refetch n => Sys2Proof.Machine.execRefetch n s
  | .fallbackSwap n => Sys2Proof.Machine.execFallbackSwap n s
  | .planeLoadFrame n p f data => Sys2Proof.Machine.execPlaneLoadFrame n p f data s
  | .tickApply ini => Sys2Proof.Machine.execTickApply ini s
  | .tickEnWrite ini en => Sys2Proof.Machine.execTickEnWrite ini en s
  | .tickSrcWrite ini src => Sys2Proof.Machine.execTickSrcWrite ini src s
  | .tickBoundary => Sys2Proof.Machine.execTickBoundary s
  | .slotBoundary => Sys2Proof.Machine.execSlotBoundary s
  | .tickInEdge => Sys2Proof.Machine.execTickInEdge s
  | .tickInLost => Sys2Proof.Machine.execTickInLost s
  | .ovrClr ini n => Sys2Proof.Machine.execOvrClr ini n s
  | .start ini t => Sys2Proof.Machine.execStart ini t s
  | .threadStop ini t => Sys2Proof.Machine.execThreadStop ini t s
  | .restart ini t => Sys2Proof.Machine.execRestart ini t s
  | .clrFault ini t => Sys2Proof.Machine.execClrFault ini t s
  | .imemWrite ini w hi => Sys2Proof.Machine.execImemWrite ini w hi s
  | .branchResolve t k => Sys2Proof.Machine.execBranchResolve t k s
  | .lockAbortTimeout t => Sys2Proof.Machine.execLockAbortTimeout t s
  | .watchdogExpiry t => Sys2Proof.Machine.execWatchdogExpiry t s
  | .wdtEnWrite ini t value => Sys2Proof.Machine.execWdtEnWrite ini t value s
  | .nop t => Sys2Proof.Machine.execNop t s
  | .add t => Sys2Proof.Machine.execAdd t s
  | .sub t => Sys2Proof.Machine.execSub t s
  | .and t => Sys2Proof.Machine.execAnd t s
  | .or t => Sys2Proof.Machine.execOr t s
  | .xor t => Sys2Proof.Machine.execXor t s
  | .sll t => Sys2Proof.Machine.execSll t s
  | .srl t => Sys2Proof.Machine.execSrl t s
  | .sra t => Sys2Proof.Machine.execSra t s
  | .mul t => Sys2Proof.Machine.execMul t s
  | .slt t => Sys2Proof.Machine.execSlt t s
  | .sltu t => Sys2Proof.Machine.execSltu t s
  | .seq t => Sys2Proof.Machine.execSeq t s
  | .min t => Sys2Proof.Machine.execMin t s
  | .max t => Sys2Proof.Machine.execMax t s
  | .minu t => Sys2Proof.Machine.execMinu t s
  | .maxu t => Sys2Proof.Machine.execMaxu t s
  | .addi t => Sys2Proof.Machine.execAddi t s
  | .subi t => Sys2Proof.Machine.execSubi t s
  | .andi t => Sys2Proof.Machine.execAndi t s
  | .ori t => Sys2Proof.Machine.execOri t s
  | .xori t => Sys2Proof.Machine.execXori t s
  | .slli t => Sys2Proof.Machine.execSlli t s
  | .srli t => Sys2Proof.Machine.execSrli t s
  | .srai t => Sys2Proof.Machine.execSrai t s
  | .muli t => Sys2Proof.Machine.execMuli t s
  | .slti t => Sys2Proof.Machine.execSlti t s
  | .sltui t => Sys2Proof.Machine.execSltui t s
  | .seqi t => Sys2Proof.Machine.execSeqi t s
  | .mini t => Sys2Proof.Machine.execMini t s
  | .maxi t => Sys2Proof.Machine.execMaxi t s
  | .minui t => Sys2Proof.Machine.execMinui t s
  | .maxui t => Sys2Proof.Machine.execMaxui t s
  | .li t => Sys2Proof.Machine.execLi t s
  | .lih t => Sys2Proof.Machine.execLih t s
  | .popc t => Sys2Proof.Machine.execPopc t s
  | .clz t => Sys2Proof.Machine.execClz t s
  | .ctz t => Sys2Proof.Machine.execCtz t s
  | .beq t => Sys2Proof.Machine.execBeq t s
  | .bne t => Sys2Proof.Machine.execBne t s
  | .blt t => Sys2Proof.Machine.execBlt t s
  | .bge t => Sys2Proof.Machine.execBge t s
  | .bltu t => Sys2Proof.Machine.execBltu t s
  | .bgeu t => Sys2Proof.Machine.execBgeu t s
  | .bfs t => Sys2Proof.Machine.execBfs t s
  | .bfc t => Sys2Proof.Machine.execBfc t s
  | .jal t => Sys2Proof.Machine.execJal t s
  | .jalr t => Sys2Proof.Machine.execJalr t s
  | .wtick t => Sys2Proof.Machine.execWtick t s
  | .wslot t => Sys2Proof.Machine.execWslot t s
  | .wflag t => Sys2Proof.Machine.execWflag t s
  | .wshad t => Sys2Proof.Machine.execWshad t s
  | .delay t => Sys2Proof.Machine.execDelay t s
  | .waitConditionMet t => Sys2Proof.Machine.execWaitConditionMet t s
  | .wflagTimeout t => Sys2Proof.Machine.execWflagTimeout t s
  | .ld t k => Sys2Proof.Machine.execLd t k s
  | .ldt t k => Sys2Proof.Machine.execLdt t k s
  | .st t => Sys2Proof.Machine.execSt t s
  | .stp t => Sys2Proof.Machine.execStp t s
  | .stt t => Sys2Proof.Machine.execStt t s
  | .answerArrival t tag a => Sys2Proof.Machine.execAnswerArrival t tag a s
  | .postedAnswer t tag a => Sys2Proof.Machine.execPostedAnswer t tag a s
  | .pre t k => Sys2Proof.Machine.execPre t k s
  | .fillInsn t => Sys2Proof.Machine.execFillInsn t s
  | .swapInsn t => Sys2Proof.Machine.execSwapInsn t s
  | .stopInsn t => Sys2Proof.Machine.execStopInsn t s
  | .rcmdHold t => Sys2Proof.Machine.execRcmdHold t s
  | .rcmdRelease t => Sys2Proof.Machine.execRcmdRelease t s
  | .rcmdCancelFill t => Sys2Proof.Machine.execRcmdCancelFill t s
  | .cstart t => Sys2Proof.Machine.execCstart t s
  | .cwait t => Sys2Proof.Machine.execCwait t s
  | .evt t => Sys2Proof.Machine.execEvt t s
  | .evtm t => Sys2Proof.Machine.execEvtm t s
  | .bar t => Sys2Proof.Machine.execBar t s
  | .barTimeout t => Sys2Proof.Machine.execBarTimeout t s
  | .lock t => Sys2Proof.Machine.execLock t s
  | .unlock t => Sys2Proof.Machine.execUnlock t s
  | .mirrThread t => Sys2Proof.Machine.execMirrThread t s
  | .mirrRegion t => Sys2Proof.Machine.execMirrRegion t s
  | .mirrBank t => Sys2Proof.Machine.execMirrBank t s
  | .snap t => Sys2Proof.Machine.execSnap t s
  | .emit t => Sys2Proof.Machine.execEmit t s
  | .pwrOn t => Sys2Proof.Machine.execPwrOn t s
  | .pwrOff t => Sys2Proof.Machine.execPwrOff t s
  | .kick t => Sys2Proof.Machine.execKick t s
  | .exit t => Sys2Proof.Machine.execExit t s
  | .imageHeader x => Sys2Proof.Machine.execImageHeader x s
  | .imageBytes x => Sys2Proof.Machine.execImageBytes x s
  | .imageTagCheck => Sys2Proof.Machine.execImageTagCheck s
  | .imageCommit => Sys2Proof.Machine.execImageCommit s
  | .imageStart => Sys2Proof.Machine.execImageStart s
  | .imageIdleTimeout => Sys2Proof.Machine.execImageIdleTimeout s
  | .imgAbort ini => Sys2Proof.Machine.execImgAbort ini s
  | .patrolStoredVisit => Sys2Proof.Machine.execPatrolStoredVisit s
  | .patrolActiveVisit => Sys2Proof.Machine.execPatrolActiveVisit s
  | .patrolCheck => Sys2Proof.Machine.execPatrolCheck s
  | .patrolCorrection => Sys2Proof.Machine.execPatrolCorrection s
  | .refetchCopyReady n => Sys2Proof.Machine.execRefetchCopyReady n s
  | .patrolPassEnd => Sys2Proof.Machine.execPatrolPassEnd s
  | .patrolEnWrite ini value => Sys2Proof.Machine.execPatrolEnWrite ini value s
  | .requestIngress n port p => Sys2Proof.Machine.execRequestIngress n port p s
  | .packetHop n input vn act => Sys2Proof.Machine.execPacketHop n input vn act s
  | .creditReturn n input vn => Sys2Proof.Machine.execCreditReturn n input vn s
  | .responseArrival node tag a => Sys2Proof.Machine.execResponseArrival node tag a s
  | .initiatorTimeout node tag => Sys2Proof.Machine.execInitiatorTimeout node tag s
  | .tagRelease node tag => Sys2Proof.Machine.execTagRelease node tag s
  | .targetTimeout n port ini tag => Sys2Proof.Machine.execTargetTimeout n port ini tag s
  | .portReadmit ini n value => Sys2Proof.Machine.execPortReadmit ini n value s
  | .epochFlip ini value => Sys2Proof.Machine.execEpochFlip ini value s
  | .epochSet n => Sys2Proof.Machine.execEpochSet n s
  | .epochMark n input vn => Sys2Proof.Machine.execEpochMark n input vn s
  | .drainComplete => Sys2Proof.Machine.execDrainComplete s
  | .epochStuck => Sys2Proof.Machine.execEpochStuck s
  | .routeTableWrite ini n b k value => Sys2Proof.Machine.execRouteTableWrite ini n b k value s
  | .pointOfNoReturn d => Sys2Proof.Machine.execPointOfNoReturn d s
  | .wake d => Sys2Proof.Machine.execWake d s
  | .courierGo ini c => Sys2Proof.Machine.execCourierGo ini c s
  | .courierStartRequest c rq => Sys2Proof.Machine.execCourierStartRequest c rq s
  | .courierAbort ini c => Sys2Proof.Machine.execCourierAbort ini c s
  | .courierReadAnswer c tag a => Sys2Proof.Machine.execCourierReadAnswer c tag a s
  | .courierWriteAnswer c tag a => Sys2Proof.Machine.execCourierWriteAnswer c tag a s
  | .larderRead rq => Sys2Proof.Machine.execLarderRead rq s
  | .larderWrite rq => Sys2Proof.Machine.execLarderWrite rq s
  | .larderFill l => Sys2Proof.Machine.execLarderFill l s
  | .larderWritebackAnswer l => Sys2Proof.Machine.execLarderWritebackAnswer l s
  | .writebackRetry l => Sys2Proof.Machine.execWritebackRetry l s
  | .clean ini scope key slice => Sys2Proof.Machine.execClean ini scope key slice s
  | .flush ini scope key slice => Sys2Proof.Machine.execFlush ini scope key slice s
  | .rehash ini newSalt => Sys2Proof.Machine.execRehash ini newSalt s
  | .rehashHold => Sys2Proof.Machine.execRehashHold s
  | .rehashSwitch => Sys2Proof.Machine.execRehashSwitch s
  | .larderOpComplete => Sys2Proof.Machine.execLarderOpComplete s
  | .imbalanceWindow => Sys2Proof.Machine.execImbalanceWindow s
  | .bankRead rq clash later => Sys2Proof.Machine.execBankRead rq clash later s
  | .bankWrite rq stalls => Sys2Proof.Machine.execBankWrite rq stalls s
  | .bankOwnerWrite ini b value => Sys2Proof.Machine.execBankOwnerWrite ini b value s
  | .handoverComplete b => Sys2Proof.Machine.execHandoverComplete b s
  | .bankCfgWrite ini b value => Sys2Proof.Machine.execBankCfgWrite ini b value s
  | .bankWinWrite ini b portB value => Sys2Proof.Machine.execBankWinWrite ini b portB value s
  | .bankPowerRequest ini b value => Sys2Proof.Machine.execBankPowerRequest ini b value s
  | .bankPowerChangeDone b => Sys2Proof.Machine.execBankPowerChangeDone b s
  | .porterVisit d => Sys2Proof.Machine.execPorterVisit d s
  | .porterPassEnd d => Sys2Proof.Machine.execPorterPassEnd d s
  | .porterEnWrite ini d value => Sys2Proof.Machine.execPorterEnWrite ini d value s
  | .queuedRewrite d u => Sys2Proof.Machine.execQueuedRewrite d u s
  | .flipArm ini d value => Sys2Proof.Machine.execFlipArm ini d value s
  | .sdCfgWrite ini value => Sys2Proof.Machine.execSdCfgWrite ini value s
  | .bringUp ini c => Sys2Proof.Machine.execBringUp ini c s
  | .trainingComplete c fail => Sys2Proof.Machine.execTrainingComplete c fail s
  | .initComplete c ok => Sys2Proof.Machine.execInitComplete c ok s
  | .srEnter ini c => Sys2Proof.Machine.execSrEnter ini c s
  | .srExit ini c => Sys2Proof.Machine.execSrExit ini c s
  | .channelOff ini c => Sys2Proof.Machine.execChannelOff ini c s
  | .sdramFill l wrong => Sys2Proof.Machine.execSdramFill l wrong s
  | .sdramWriteback l => Sys2Proof.Machine.execSdramWriteback l s
  | .generate ini k => Sys2Proof.Machine.execGenerate ini k s
  | .keyGenerated => Sys2Proof.Machine.execKeyGenerated s
  | .setPlain ini k => Sys2Proof.Machine.execSetPlain ini k s
  | .retire ini k => Sys2Proof.Machine.execRetire ini k s
  | .retireComplete => Sys2Proof.Machine.execRetireComplete s
  | .sweep ini k => Sys2Proof.Machine.execSweep ini k s
  | .sweepComplete => Sys2Proof.Machine.execSweepComplete s
  | .mkeyWinWrite ini w lim value => Sys2Proof.Machine.execMkeyWinWrite ini w lim value s
  | .sdramRefresh c => Sys2Proof.Machine.execSdramRefresh c s
  | .mr4Poll c doubled => Sys2Proof.Machine.execMr4Poll c doubled s
  | .strobeRetune c => Sys2Proof.Machine.execStrobeRetune c s
  | .scrubLine read => Sys2Proof.Machine.execScrubLine read s
  | .sdAlert c => Sys2Proof.Machine.execSdAlert c s
  | .linkCtlWrite ini g value => Sys2Proof.Machine.execLinkCtlWrite ini g value s
  | .retrain ini g => Sys2Proof.Machine.execRetrain ini g s
  | .ts1 g locked inverted sets => Sys2Proof.Machine.execTs1 g locked inverted sets s
  | .ts2 g sets pings => Sys2Proof.Machine.execTs2 g sets pings s
  | .trainTimeout g => Sys2Proof.Machine.execTrainTimeout g s
  | .frame g f => Sys2Proof.Machine.execFrame g f s
  | .replayTimeout g => Sys2Proof.Machine.execReplayTimeout g s
  | .lossOfSignal g lane lock => Sys2Proof.Machine.execLossOfSignal g lane lock s
  | .tickMarker g count offset frac => Sys2Proof.Machine.execTickMarker g count offset frac s
  | .rawFlitIn g codes => Sys2Proof.Machine.execRawFlitIn g codes s
  | .rawFlitOut g flit => Sys2Proof.Machine.execRawFlitOut g flit s
  | .twinCfgWrite ini value => Sys2Proof.Machine.execTwinCfgWrite ini value s
  | .join rq => Sys2Proof.Machine.execJoin rq s
  | .mirrorData rq => Sys2Proof.Machine.execMirrorData rq s
  | .mirrorEnd rq => Sys2Proof.Machine.execMirrorEnd rq s
  | .mirrorSendComplete => Sys2Proof.Machine.execMirrorSendComplete s
  | .check rq => Sys2Proof.Machine.execCheck rq s
  | .resign rq => Sys2Proof.Machine.execResign rq s
  | .barArrive rq => Sys2Proof.Machine.execBarArrive rq s
  | .barRelease rq => Sys2Proof.Machine.execBarRelease rq s
  | .reset rq g => Sys2Proof.Machine.execReset rq g s
  | .takeover ini => Sys2Proof.Machine.execTakeover ini s
  | .resignCmd ini => Sys2Proof.Machine.execResignCmd ini s
  | .rejoin ini => Sys2Proof.Machine.execRejoin ini s
  | .takeoverBoundary => Sys2Proof.Machine.execTakeoverBoundary s
  | .snapReq ini value => Sys2Proof.Machine.execSnapReq ini value s
  | .snapshotComplete => Sys2Proof.Machine.execSnapshotComplete s
  | .gresetGo ini => Sys2Proof.Machine.execGresetGo ini s
  | .gbarCfgWrite ini b value => Sys2Proof.Machine.execGbarCfgWrite ini b value s
  | .snoopCtlWrite ini u k value => Sys2Proof.Machine.execSnoopCtlWrite ini u k value s
  | .snoopPacket sight => Sys2Proof.Machine.execSnoopPacket sight s
  | .snoopFifoPop ini u => Sys2Proof.Machine.execSnoopFifoPop ini u s
  | .powerRequest ini d on => Sys2Proof.Machine.execPowerRequest ini d on s
  | .domainOn d => Sys2Proof.Machine.execDomainOn d s
  | .domainOff d => Sys2Proof.Machine.execDomainOff d s
  | .monitorInterval currents others => Sys2Proof.Machine.execMonitorInterval currents others s
  | .hkRound values => Sys2Proof.Machine.execHkRound values s
  | .modelStep => Sys2Proof.Machine.execModelStep s
  | .graceEnd => Sys2Proof.Machine.execGraceEnd s
  | .clockStepRise => Sys2Proof.Machine.execClockStepRise s
  | .dwellEnd => Sys2Proof.Machine.execDwellEnd s
  | .shutdownPowerOff => Sys2Proof.Machine.execShutdownPowerOff s
  | .releaseHold ini => Sys2Proof.Machine.execReleaseHold ini s
  | .sensorReadmit ini l value => Sys2Proof.Machine.execSensorReadmit ini l value s
  | .notifyAnswer tag a => Sys2Proof.Machine.execNotifyAnswer tag a s
  | .porstN high role => Sys2Proof.Machine.execPorstN high role s
  | .resetN high => Sys2Proof.Machine.execResetN high s
  | .deviceResetBegin => Sys2Proof.Machine.execDeviceResetBegin s
  | .dieReset ini value => Sys2Proof.Machine.execDieReset ini value s
  | .housekeepingStep => Sys2Proof.Machine.execHousekeepingStep s
  | .fuseStep ok => Sys2Proof.Machine.execFuseStep ok s
  | .journalStep readable => Sys2Proof.Machine.execJournalStep readable s
  | .repairLoad tables => Sys2Proof.Machine.execRepairLoad tables s
  | .bistStep failed => Sys2Proof.Machine.execBistStep failed s
  | .imageStep dir => Sys2Proof.Machine.execImageStep dir s
  | .journalWriteComplete => Sys2Proof.Machine.execJournalWriteComplete s
  | .alertClear ini => Sys2Proof.Machine.execAlertClear ini s
  | .readStatus via => Sys2Proof.Machine.execReadStatus via s
  | .command d => Sys2Proof.Machine.execCommand d s
  | .dataIn d => Sys2Proof.Machine.execDataIn d s
  | .dataOut offset count => Sys2Proof.Machine.execDataOut offset count s
  | .abort point => Sys2Proof.Machine.execAbort point s
  | .loadImage => Sys2Proof.Machine.execLoadImage s
  | .csrRead => Sys2Proof.Machine.execCsrRead s
  | .csrWrite => Sys2Proof.Machine.execCsrWrite s
  | .jnlRead => Sys2Proof.Machine.execJnlRead s
  | .jnlWrite => Sys2Proof.Machine.execJnlWrite s
  | .cntInc => Sys2Proof.Machine.execCntInc s
  | .settingsSet => Sys2Proof.Machine.execSettingsSet s
  | .mapoutClear => Sys2Proof.Machine.execMapoutClear s
  | .gbRead => Sys2Proof.Machine.execGbRead s
  | .gbUnfreeze => Sys2Proof.Machine.execGbUnfreeze s
  | .alertAck => Sys2Proof.Machine.execAlertAck s
  | .deviceReset => Sys2Proof.Machine.execDeviceReset s
  | .bootRetry => Sys2Proof.Machine.execBootRetry s
  | .itinRead => Sys2Proof.Machine.execItinRead s
  | .lcAdvance ini value => Sys2Proof.Machine.execLcAdvance ini value s
  | .lcAdvanced => Sys2Proof.Machine.execLcAdvanced s
  | .loadPlain ini parent slot => Sys2Proof.Machine.execLoadPlain ini parent slot s
  | .loadWrapped ini parent slot => Sys2Proof.Machine.execLoadWrapped ini parent slot s
  | .revoke ini parent slot => Sys2Proof.Machine.execRevoke ini parent slot s
  | .debugKeySet ini parent slot => Sys2Proof.Machine.execDebugKeySet ini parent slot s
  | .keyCmdComplete => Sys2Proof.Machine.execKeyCmdComplete s
  | .alarmCfgWrite ini a value => Sys2Proof.Machine.execAlarmCfgWrite ini a value s
  | .glitch => Sys2Proof.Machine.execGlitch s
  | .rngTestWindow good => Sys2Proof.Machine.execRngTestWindow good s
  | .drbgReseed => Sys2Proof.Machine.execDrbgReseed s
  | .rngOutRead ini => Sys2Proof.Machine.execRngOutRead ini s
  | .challengeBlockEnd => Sys2Proof.Machine.execChallengeBlockEnd s
  | .mbistStart ini e value => Sys2Proof.Machine.execMbistStart ini e value s
  | .mbistComplete e fails bad => Sys2Proof.Machine.execMbistComplete e fails bad s
  | .testAbort ini e => Sys2Proof.Machine.execTestAbort ini e s
  | .failInfoPop ini e => Sys2Proof.Machine.execFailInfoPop ini e s
  | .burn ini => Sys2Proof.Machine.execBurn ini s
  | .burnComplete => Sys2Proof.Machine.execBurnComplete s
  | .stackTestRequest ini value => Sys2Proof.Machine.execStackTestRequest ini value s
  | .lbistGo ini layer => Sys2Proof.Machine.execLbistGo ini layer s
  | .lbistComplete pass => Sys2Proof.Machine.execLbistComplete pass s
  | .idcode => Sys2Proof.Machine.execIdcode s
  | .samplePreload levels dedicated value => Sys2Proof.Machine.execSamplePreload levels dedicated value s
  | .extest shift => Sys2Proof.Machine.execExtest shift s
  | .highz => Sys2Proof.Machine.execHighz s
  | .clampInstr => Sys2Proof.Machine.execClampInstr s
  | .dbg => Sys2Proof.Machine.execDbg s
  | .scan => Sys2Proof.Machine.execScan s
  | .bypass code => Sys2Proof.Machine.execBypass code s
  | .dbgAccess value early => Sys2Proof.Machine.execDbgAccess value early s
  | .debugEndpointAccess rq => Sys2Proof.Machine.execDebugEndpointAccess rq s
  | .chal path => Sys2Proof.Machine.execChal path s
  | .req path level => Sys2Proof.Machine.execReq path level s
  | .close path => Sys2Proof.Machine.execClose path s
  | .dbgInitGo path size write => Sys2Proof.Machine.execDbgInitGo path size write s
  | .dbgInitAnswer tag a => Sys2Proof.Machine.execDbgInitAnswer tag a s
  | .halt path t => Sys2Proof.Machine.execHalt path t s
  | .haltPendingLocked t => Sys2Proof.Machine.execHaltPendingLocked t s
  | .force path t => Sys2Proof.Machine.execForce path t s
  | .dbgRelease path t => Sys2Proof.Machine.execDbgRelease path t s
  | .step path t => Sys2Proof.Machine.execStep path t s
  | .thrDataRead path => Sys2Proof.Machine.execThrDataRead path s
  | .thrDataWrite path value => Sys2Proof.Machine.execThrDataWrite path value s
  | .dbgRegHalt path k value => Sys2Proof.Machine.execDbgRegHalt path k value s
  | .dbgRegRel path k value => Sys2Proof.Machine.execDbgRegRel path k value s
  | .dbgRegStep path n count => Sys2Proof.Machine.execDbgRegStep path n count s
  | .regionStepEnd => Sys2Proof.Machine.execRegionStepEnd s
  | .sw path c => Sys2Proof.Machine.execSw path c s
  | .stimWrite rq => Sys2Proof.Machine.execStimWrite rq s
  | .traceEn path value => Sys2Proof.Machine.execTraceEn path value s
  | .traceWriteAnswer tag a => Sys2Proof.Machine.execTraceWriteAnswer tag a s
  | .rawLaneLock g lane => Sys2Proof.Machine.execRawLaneLock g lane s
  | .scrubPassEnd => Sys2Proof.Machine.execScrubPassEnd s
  | .channelSweepEnd c => Sys2Proof.Machine.execChannelSweepEnd c s

end Sys2Proof.Machine
end

