-- ==== Sys2Proof/Machine/Cycles.lean ====
section
/-! DEFINITION. The active edges of the fabric's clock networks within a reference cycle, and what they do (02_fabric.md, R45 to R59, R64 to R67, R70;
03_contexts.md, R94, R110 to R114; 15_power_thermal.md, R402; log entries 5 and 224): flip-flops, slices, block RAM ports, isolation cells and face
channels take their next values from the values before the edge. -/

namespace Sys2Proof.Machine

/-! ## Points of time -/

/-- Put a point of time into an ascending list, once. -/
def insertPoint (p : Nat × Nat) : List (Nat × Nat) → List (Nat × Nat)
  | [] => [p]
  | q :: qs =>
    if p.1 * q.2 = q.1 * p.2 then q :: qs
    else if p.1 * q.2 < q.1 * p.2 then p :: q :: qs
    else q :: insertPoint p qs

/-- The points of time within the reference cycle at which some network has an active edge, in order. -/
def State.edgePoints (s : State) : List (Nat × Nat) :=
  ((List.range 32).flatMap s.netEdges).foldl (fun l e => insertPoint e.2 l) []

/-- The networks with an active edge at a point of time, each with the number of the edge. -/
def State.netsAt (s : State) (p : Nat × Nat) : List (Nat × Nat) :=
  (List.range 32).flatMap fun g => ((s.netEdges g).filter fun e => e.2.1 * p.2 == p.1 * e.2.2).map fun e => (g, e.1)

/-- The region clock of region n, which runs in every powered state, has an edge (R94). -/
def State.regionEdge (s : State) (nets : List (Nat × Nat)) (n : Nat) : Bool :=
  s.rstate n ≠ .off && s.clockRuns n && nets.any fun e => e.1 == s.rd (R.REGION_CLK_CLK_SEL n)

/-- The user clock behind choice c of region n has an edge that ends a cycle in which it runs (R94, R402). -/
def State.userEdge (s : State) (nets : List (Nat × Nat)) (n c : Nat) : Bool :=
  s.computes n && match s.userNet n c with
    | some g => nets.any fun e => e.1 == g && !(s.gatedEdge g e.2)
    | none => false

/-! ## Flip-flops and slices (R48 to R54) -/

/-- The next value of flip-flop i of region n when the user clocks `ticks` have an edge (R45, R48). -/
def State.flopAfter (s : State) (ticks : List Nat) (n i : Nat) : Bool :=
  let t := i / 160
  let e := i % 160 / 2
  let h := i % 2 == 1
  let el := Config.element (s.active n) t e
  let cl := Config.cluster (s.active n) t (e / 8)
  let q := s.flop n i
  if !(ticks.contains cl.clock) then q
  else
    let enable := match (if h then el.enableB else el.enableA) with
      | none => true
      | some second => s.routed n t (if second then cl.enable1 else cl.enable0)
    let d := match (if h then el.bypassB else el.bypassA) with
      | some src => s.routed n t src
      | none => s.routed n t (if h then .lz e else .ly e)
    flopNext enable (s.routed n t cl.setReset) (if h then el.srB else el.srA) d q

/-- The data of state frame 3,840 + f of region n after an edge (R87). -/
def State.stateAfter (s : State) (ticks : List Nat) (n f : Nat) : Nat :=
  (List.range 4096).foldl (fun v b => v + if s.flopAfter ticks n (4096 * f + b) then 2 ^ b else 0) 0

/-- Every flip-flop of region n takes its next value; `o` is the state before the edge. -/
def State.flopsEdge (o : State) (ticks : List Nat) (n : Nat) (s : State) : State :=
  if ticks.isEmpty then s else
  s.each (List.range 60) fun s f =>
    let k := latchKey n (o.region n).sel (3840 + f)
    { s with latches := storeSet Frame.erased k { storeGet Frame.erased k s.latches with data := o.stateAfter ticks n f } s.latches }

/-- Every slice of region n whose clock has an edge takes its next values (R50 to R53). -/
def State.slicesEdge (o : State) (ticks : List Nat) (n : Nat) (s : State) : State :=
  if ticks.isEmpty then s else
  s.each (List.range slicesPerRegion) fun s j =>
    let u := Config.slice (o.active n) j
    if !(ticks.contains u.clock) then s
    else
      let word := fun w srcs => o.routedWord n (sliceTile j) w srcs
      let r := sliceEdge u (BitVec.ofNat 3 (word 3 u.src)) (o.routed n (sliceTile j) u.neg) (BitVec.ofNat 27 (word 27 u.x))
        (BitVec.ofNat 27 (word 27 u.y)) (BitVec.ofNat 64 (word 64 u.w)) (o.cascade n j) (o.slicer n j)
      { s with slices := storeSet {} (256 * n + j) r s.slices }

/-! ## Block RAM ports (R55 to R58) -/

/-- A port that is not ganged has an edge (R55 to R57). Bits that the other port, or the window in its place, wrote in the same cycle are read as
undefined; bits that the other port read and this port writes become undefined in its read output; bits that both write are stored undefined. In KEEP
mode a write that reaches no bit is a read (DESIGN CHOICE, log entry 259); the output register takes the output at every edge of the port's clock (log
entry 258). -/
def State.ramEdge (o : State) (p : Nat × Nat) (n k : Nat) (b : Bool) (s : State) : State :=
  let c := Config.ram (o.active n) k
  let u := if b then c.b else c.a
  let t := ramTile k
  let x := { s.ramPort n k b with reg := (o.ramPort n k b).out, eccC := false, eccU := false }
  if !(o.routed n t u.enable) then s.setRamPort n k b x
  else
    let block := 192 * n + k
    let a := o.routedWord n t (10 + laneBits u.width) u.addr
    let din := o.routedWord n t u.width u.din
    let we := BitVec.ofNat 4 (o.routedWord n t 4 u.we)
    let row := (laneOf u.width a).1
    let wmask := writeMask u.width a we
    let y := s.ramPort n k (!b)
    let meets := y.meets o.now p row
    let wild := fun i => Config.wild s.fresh (2 ^ 24 + 8 * (2 * block + b.toNat) + i) % 2 ^ 36
    let old := s.bramRow block row
    let new := portWrite u.width a old din we
    let out :=
      if wmask = 0 then portRead u.width a (merge meets.2 (wild 0) old)
      else match u.mode with
        | .fresh => portRead u.width a (merge meets.2 (wild 0) new)
        | .stale => portRead u.width a (merge meets.2 (wild 0) old)
        | .keep => x.out
    let use : RamUse := ⟨o.now, p.1, p.2, o.ramReach n k b, u.width * (a % 2 ^ laneBits u.width), false⟩
    let s := s.setRamPort n k b { x with out, last := some use }
    let s := if meets.1 &&& wmask = 0 then s else s.setRamPort n k (!b) (y.spoiled row wmask (wild 1))
    if wmask = 0 then s else s.bramWrite block row (2 ^ 36 - 1) (merge (wmask &&& meets.2) (wild 2) new)

/-- The events of an ECC-mode read are counted (R58). -/
def State.countRamEcc (s : State) (n k : Nat) (c u : Bool) : State :=
  let s := if c then s.bump (R.BRAM_ECC_SBE_COUNT n) else s
  if u then (s.bump (R.BRAM_ECC_DBE_COUNT n)).wr (R.BRAM_ECC_LAST_DBE_BLOCK n) k else s

/-- A ganged port has an edge (R55, R56, R58): one word of rows 2a and 2a + 1 is read or written; in ECC mode a whole write stores a fresh code, and a
partial write reads, corrects and merges the word and takes one extra cycle, in which the port accepts no access. Bits that the window wrote in the same
cycle are read as undefined, and stored as undefined where the port writes them (R62). The read of a partial write and that of a STALE write count as
reads (DESIGN CHOICE, log entry 260). -/
def State.gangedEdge (o : State) (p : Nat × Nat) (n k : Nat) (s : State) : State :=
  let c := Config.ram (o.active n) k
  let u := c.a
  let t := ramTile k
  let x := { s.ramPort n k false with reg := (o.ramPort n k false).out, eccC := false, eccU := false }
  if x.busy then s.setRamPort n k false { x with busy := false }
  else if !(o.routed n t u.enable) then s.setRamPort n k false x
  else
    let block := 192 * n + k
    let a := o.routedWord n t 9 u.addr
    let din := o.routedWord n t 72 u.din
    let we := BitVec.ofNat 8 (o.routedWord n t 8 u.we)
    let window := s.ramPort n k true
    let theirs := gangedWord (window.meets o.now p (2 * a)).2 (window.meets o.now p (2 * a + 1)).2
    let wild := fun i => Config.wild s.fresh (2 ^ 24 + 16 * block + i) % 2 ^ 72
    let word := merge theirs (wild 0) (gangedWord (s.bramRow block (2 * a)) (s.bramRow block (2 * a + 1)))
    let store := fun (s : State) w => (s.bramWrite block (2 * a) (2 ^ 36 - 1) (w % 2 ^ 36)).bramWrite block (2 * a + 1) (2 ^ 36 - 1) (w / 2 ^ 36)
    let x := { x with last := some ⟨o.now, p.1, p.2, o.ramReach n k false, 0, c.ecc⟩ }
    if c.ecc then
      let rd := eccRead word
      let partially := we ≠ 0 ∧ we ≠ 255
      let reads := decide (we = 0) || decide partially || u.mode == .stale
      let data := if we = 255 then din % 2 ^ 64 else merge (gangedMask we % 2 ^ 64) din rd.1
      let out := if we = 0 then rd.1 else match u.mode with
        | .fresh => data
        | .stale => rd.1
        | .keep => x.out
      let s := s.setRamPort n k false { x with out, busy := decide partially, eccC := reads && rd.2.1, eccU := reads && rd.2.2 }
      let s := if reads then s.countRamEcc n k rd.2.1 rd.2.2 else s
      if we = 0 then s else store s (merge theirs (wild 1) (eccWord data))
    else
      let s := s.setRamPort n k false { x with out := if we = 0 then word else gangedReadDuringWrite u.mode word din we x.out }
      if we = 0 then s else store s (merge (gangedMask we &&& theirs) (wild 1) (merge (gangedMask we) din word))

/-- Every block RAM port of region n whose clock has an edge acts (R55); a ganged port runs on port A's clock, and port B's own inputs are unused. -/
def State.ramsEdge (o : State) (ticks : List Nat) (p : Nat × Nat) (n : Nat) (s : State) : State :=
  if ticks.isEmpty then s else
  s.each (List.range ramsPerRegion) fun s k =>
    let c := Config.ram (o.active n) k
    if c.ganged then (if ticks.contains c.a.clock then o.gangedEdge p n k s else s)
    else
      let s := if ticks.contains c.a.clock then o.ramEdge p n k false s else s
      if ticks.contains c.b.clock then o.ramEdge p n k true s else s

/-! ## Isolation cells, clamps and face channels (R21 to R23, R66, R67, R111 to R114) -/

/-- The inbound cells of region n at a point of time: a cell that is released keeps what its group carried at the end of a computed cycle of its
sender, and HOLD presents that value while it is clamped, whatever the sender computes meanwhile (R112; DESIGN CHOICE, log entry 262); the synchroniser
of SYNC2 moves on with the region clock. -/
def State.cellsEdge (o : State) (nets : List (Nat × Nat)) (n : Nat) (s : State) : State :=
  s.each (List.range (160 + 4 * tilesPerRegion)) fun s g =>
    match groupSender n g with
    | none => s
    | some m =>
      let passed := o.userEdge nets m 0 && !(o.clamped n m)
      let moves := o.regionEdge nets n && (o.cellCfg n g).sync2
      if !passed && !moves then s
      else
        let live := o.groupLive n g
        let x := o.cell n g
        let x := if moves then { x with syn2 := x.syn1, syn1 := o.cellInput n g live } else x
        { s with cells := storeSet {} (8192 * n + g) (if passed then { x with last := live } else x) s.cells }

/-- The outbound clamps of region n release one region cycle after the swap edge (R111): an edge of the region clock. -/
def State.releaseClamp (s : State) (n : Nat) : State :=
  let r := s.region n
  let free := r.clampOut && r.clamping.isNone && s.rstate n == .run && s.clockRuns n
  if free || r.edgeNow then s.setRegion n { r with clampOut := r.clampOut && !free, edgeNow := false } else s

/-- Do something for every face channel that region n sends (R65): tile pair (x, y), channel. -/
def State.eachFace (s : State) (n : Nat) (f : State → Nat → Nat → Nat → State) : State :=
  s.each (List.range tilesPerRegion) fun s t => s.each (List.range 128) fun s i => f s (tileX n t) (tileY n t) ((if n < 32 then 0 else 128) + i)

/-- An edge of the region clock of region n at a face channel that it sends (R22, R23, R66): after a computed cycle a level that differs from the one sent
last is sent; else the channel's count moves on, and the 64th cycle re-sends the level. -/
def State.faceEdge (computed : Bool) (s : State) (x y c : Nat) : State :=
  let f := s.face x y c
  let level := s.faceDriven x y c
  if computed && level != f.sent then s.facePulse x y c level
  else if f.left ≤ 1 then s.facePulse x y c f.sent
  else { s with faces := storeSet Face.quiet (faceKey x y c) { f with left := f.left - 1 } s.faces }

/-- The refreshes that have fallen due by the count of reference cycles are sent (R22), also while the sender's clock is stopped and under the blank
configuration, which drives nothing: then the level sent last is re-sent (DESIGN CHOICE, log entry 221). A sender that is off sends nothing. -/
def State.refreshFaces (s : State) : State :=
  s.each (List.range 64) fun s n =>
    if s.rstate n = .off then s
    else s.eachFace n fun s x y c => let f := s.face x y c; if f.due ≤ s.now then s.facePulse x y c f.sent else s

/-! ## Event lines (R84) -/

/-- An edge of the region clock at the event lines of region n (R84): a pulse lasts for one region cycle in which the region runs. -/
def State.eventEdge (s : State) (n : Nat) : State :=
  let r := s.region n
  if r.evNow = 0 ∧ r.evDue = 0 then s
  else if s.rstate n = .run then s.setRegion n { r with evNow := r.evDue, evDue := 0 }
  else s.setRegion n { r with evNow := 0 }

/-! ## One edge of the fabric -/

/-- What a point of time does to region n; `o` is the state before it. -/
def State.fabricEdge (o : State) (p : Nat × Nat) (nets : List (Nat × Nat)) (s : State) (n : Nat) : State :=
  if o.rstate n = .off then s
  else
    let ticks := (List.range 4).filter (o.userEdge nets n)
    let s := o.ramsEdge ticks p n (o.slicesEdge ticks n (o.flopsEdge ticks n s))
    let s := o.cellsEdge nets n s
    if !(o.regionEdge nets n) then s
    else
      let s := s.releaseClamp n
      let s := if o.userEdge nets n 0 then s.setRegion n { s.region n with stepLeft := (s.region n).stepLeft - 1 } else s
      let s := if o.userEdge nets n 0 || (!(o.is1 (R.REGION_STATUS_HAS_ACTIVE n)) && (o.region n).clamping.isNone) then s.eventEdge n else s
      s.eachFace n (State.faceEdge (o.userEdge nets n 0))

/-- The clock step of a network takes effect with its next cycle whose number is a multiple of 8 (R402). -/
def State.gateEdge (s : State) (e : Nat × Nat) : State :=
  if e.2 % 8 = 0 then { s with gates := storeSet 0 e.1 (s.rd R.THERM_STAT_STEP) s.gates } else s

/-- Every active edge at one point of time (R69: they act together, from the values before them). -/
def State.fabricPoint (s : State) (p : Nat × Nat) : State :=
  let nets := s.netsAt p
  let t := (List.range 64).foldl (s.fabricEdge p nets) s
  (nets.foldl State.gateEdge t).drawn

/-- The fabric's edges of one reference cycle, and the refreshes that fall due in it. -/
def State.fabricCycle (s : State) : State := (s.edgePoints.foldl State.fabricPoint s).refreshFaces

end Sys2Proof.Machine
end

