-- ==== Sys2Proof/Machine/Idle.lean ====
section
/-! DEFINITION. What one reference cycle does by itself when no command waits (log entry 5): the fabric's clock networks have their active edges, the
clock counts, watchdogs count, GPIO banks take their sample edges, raw flits that wait reach the fabric, and the lane groups send their symbols. -/

namespace Sys2Proof.Machine

/-- The watchdog of thread t counts one reference cycle (R153); a counter that reaches 0 while EN is 1 has expired, and WATCHDOG_EXPIRY acts on it
(R154). -/
def State.wdtTick (s : State) (t : Nat) : State :=
  let left := s.rd (R.SEQ_WDT_CNT_REMAIN t)
  if !(s.wdtCounts t) || left = 0 then s
  else
    let s := s.wr (R.SEQ_WDT_CNT_REMAIN t) (left - 1)
    if left = 1 && s.is1 (R.SEQ_WDT_EN t) then s.setThread t { s.thread t with wdtDue := true } else s

/-- Region cycles of the region that raw group g is bound to that end in this reference cycle (R353). -/
def State.rawCycles (s : State) (g : Nat) : Nat := (s.netEdges (s.rd (R.REGION_CLK_CLK_SEL (s.rd (R.RAW_CFG_REGION g))))).length

/-- One reference cycle without a command (log entry 5). -/
def State.idle (s : State) : State :=
  let s := s.quiet.fabricCycle
  let s : State := { s with now := s.now + 1 }
  let s := s.each (List.range 4) State.wdtTick
  let s := s.each (List.range 32) State.bankEdge
  let s := s.each (List.range 24) fun s g => if (s.link g).rawIn = [] then s else s.deliverRaw g (s.rawCycles g)
  (s.finishStop.traceLane.each (List.range 24) State.lineTick)

end Sys2Proof.Machine
end

