-- ==== Sys2Proof/WellFormed.lean ====
section
/-! DEFINITION. Which commands an outside agent can give: the operand lists have the lengths that the spec gives them, and a request is of
the operation and for the node that its command's name says. Every other command is ill-formed, and its meaning stops (Fault.illFormed). -/

namespace Sys2Proof

/-- The operation carries bytes to be written (R235). -/
def ReqOp.writes : ReqOp → Bool
  | .wr | .nwr => true
  | .rd | .nrd => false

/-- The written bytes are as many as SIZE says (R236). -/
def Access.dataFits (a : Access) : Bool := a.data.length == a.size

/-- A request routed by node, to the endpoint of that node (R235). -/
def Access.toNode (a : Access) (op : ReqOp) (node : Nat) : Bool := a.op == op && a.dstNode == node

/-- A delivery of at least one image byte, through the management endpoint (node 0x005), the boot port or the front desk (R208, R211). -/
def ImgIn.delivers : ImgIn → Bool
  | .flash _ _ bytes => !bytes.isEmpty
  | .mgmt rq => rq.acc.toNode .nwr 5 && rq.acc.dataFits && rq.acc.size != 0
  | .desk _ k => k != 0

/-- The command is one that an outside agent can give. -/
def Instr.wellFormed : Instr → Bool
  | .registerWrite _ _ _ _ => true
  | .rsFieldRead _ _ => true
  | .pairLoRead _ _ => true
  | .pairHiRead _ _ => true
  | .pairLoWrite _ _ _ => true
  | .pairHiWrite _ _ _ => true
  | .faceRefresh _ _ _ _ => true
  | .bramWindowAccess rq => !(rq.acc.op.writes) || rq.acc.dataFits
  | .bramWindowRow _ _ => true
  | .clkNetCfgWrite _ _ _ => true
  | .pllLocked _ => true
  | .pllLockLost _ => true
  | .regionClkWrite _ _ _ => true
  | .portPacketSend _ _ _ _ => true
  | .portResponseArrival _ _ _ _ => true
  | .portInboundRequest _ _ _ => true
  | .regionPortCfgWrite _ _ _ _ => true
  | .regionPortSlotsWrite _ _ _ _ => true
  | .pinInputFlit _ _ samples _ _ => decide (1 ≤ samples.length) && decide (samples.length ≤ 16)
  | .pinOutputFlit _ _ samples => samples.length == 8
  | .pinUnderrun _ _ => true
  | .flagChange _ _ _ => true
  | .eventDelivery _ _ => true
  | .erase _ _ _ => true
  | .eraseComplete => true
  | .powerUp _ _ => true
  | .powerOff _ _ => true
  | .fill _ _ _ => true
  | .swap _ _ _ => true
  | .hold _ _ => true
  | .release _ _ => true
  | .stop _ _ => true
  | .isolate _ => true
  | .unisolate _ => true
  | .clear _ => true
  | .cancelFill _ _ => true
  | .ownerWrite _ _ _ => true
  | .regionCmdEffect _ => true
  | .seqCommandArrival => true
  | .squash _ _ _ => true
  | .fillGrant => true
  | .fillComplete _ => true
  | .decisionPoint _ => true
  | .clampCycle _ => true
  | .swapEdge _ => true
  | .spillComplete _ => true
  | .armedSwapNoBoundary _ => true
  | .refetch _ => true
  | .fallbackSwap _ => true
  | .planeLoadFrame _ _ _ _ => true
  | .tickApply _ => true
  | .tickEnWrite _ _ => true
  | .tickSrcWrite _ _ => true
  | .tickBoundary => true
  | .slotBoundary => true
  | .tickInEdge => true
  | .tickInLost => true
  | .ovrClr _ _ => true
  | .start _ _ => true
  | .threadStop _ _ => true
  | .restart _ _ => true
  | .clrFault _ _ => true
  | .imemWrite _ _ _ => true
  | .branchResolve _ _ => true
  | .lockAbortTimeout _ => true
  | .watchdogExpiry _ => true
  | .wdtEnWrite _ _ _ => true
  | .nop _ => true
  | .add _ => true
  | .sub _ => true
  | .and _ => true
  | .or _ => true
  | .xor _ => true
  | .sll _ => true
  | .srl _ => true
  | .sra _ => true
  | .mul _ => true
  | .slt _ => true
  | .sltu _ => true
  | .seq _ => true
  | .min _ => true
  | .max _ => true
  | .minu _ => true
  | .maxu _ => true
  | .addi _ => true
  | .subi _ => true
  | .andi _ => true
  | .ori _ => true
  | .xori _ => true
  | .slli _ => true
  | .srli _ => true
  | .srai _ => true
  | .muli _ => true
  | .slti _ => true
  | .sltui _ => true
  | .seqi _ => true
  | .mini _ => true
  | .maxi _ => true
  | .minui _ => true
  | .maxui _ => true
  | .li _ => true
  | .lih _ => true
  | .popc _ => true
  | .clz _ => true
  | .ctz _ => true
  | .beq _ => true
  | .bne _ => true
  | .blt _ => true
  | .bge _ => true
  | .bltu _ => true
  | .bgeu _ => true
  | .bfs _ => true
  | .bfc _ => true
  | .jal _ => true
  | .jalr _ => true
  | .wtick _ => true
  | .wslot _ => true
  | .wflag _ => true
  | .wshad _ => true
  | .delay _ => true
  | .waitConditionMet _ => true
  | .wflagTimeout _ => true
  | .ld _ _ => true
  | .ldt _ _ => true
  | .st _ => true
  | .stp _ => true
  | .stt _ => true
  | .answerArrival _ _ _ => true
  | .postedAnswer _ _ _ => true
  | .pre _ _ => true
  | .fillInsn _ => true
  | .swapInsn _ => true
  | .stopInsn _ => true
  | .rcmdHold _ => true
  | .rcmdRelease _ => true
  | .rcmdCancelFill _ => true
  | .cstart _ => true
  | .cwait _ => true
  | .evt _ => true
  | .evtm _ => true
  | .bar _ => true
  | .barTimeout _ => true
  | .lock _ => true
  | .unlock _ => true
  | .mirrThread _ => true
  | .mirrRegion _ => true
  | .mirrBank _ => true
  | .snap _ => true
  | .emit _ => true
  | .pwrOn _ => true
  | .pwrOff _ => true
  | .kick _ => true
  | .exit _ => true
  | .imageHeader x => x.delivers
  | .imageBytes x => x.delivers
  | .imageTagCheck => true
  | .imageCommit => true
  | .imageStart => true
  | .imageIdleTimeout => true
  | .imgAbort _ => true
  | .patrolStoredVisit => true
  | .patrolActiveVisit => true
  | .patrolCheck => true
  | .patrolCorrection => true
  | .refetchCopyReady _ => true
  | .patrolPassEnd => true
  | .patrolEnWrite _ _ => true
  | .requestIngress _ _ _ => true
  | .packetHop _ _ _ _ => true
  | .creditReturn _ _ _ => true
  | .responseArrival _ _ _ => true
  | .initiatorTimeout _ _ => true
  | .tagRelease _ _ => true
  | .targetTimeout _ _ _ _ => true
  | .portReadmit _ _ _ => true
  | .epochFlip _ _ => true
  | .epochSet _ => true
  | .epochMark _ _ _ => true
  | .drainComplete => true
  | .epochStuck => true
  | .routeTableWrite _ _ _ _ _ => true
  | .pointOfNoReturn _ => true
  | .wake _ => true
  | .courierGo _ _ => true
  | .courierStartRequest _ _ => true
  | .courierAbort _ _ => true
  | .courierReadAnswer _ _ _ => true
  | .courierWriteAnswer _ _ _ => true
  | .larderRead rq => !(rq.acc.op.writes)
  | .larderWrite rq => rq.acc.op.writes && rq.acc.dataFits
  | .larderFill _ => true
  | .larderWritebackAnswer _ => true
  | .writebackRetry _ => true
  | .clean _ _ _ _ => true
  | .flush _ _ _ _ => true
  | .rehash _ _ => true
  | .rehashHold => true
  | .rehashSwitch => true
  | .larderOpComplete => true
  | .imbalanceWindow => true
  | .bankRead rq _ _ => !(rq.acc.op.writes)
  | .bankWrite rq _ => rq.acc.op.writes && rq.acc.dataFits
  | .bankOwnerWrite _ _ _ => true
  | .handoverComplete _ => true
  | .bankCfgWrite _ _ _ => true
  | .bankWinWrite _ _ _ _ => true
  | .bankPowerRequest _ _ _ => true
  | .bankPowerChangeDone _ => true
  | .porterVisit _ => true
  | .porterPassEnd _ => true
  | .porterEnWrite _ _ _ => true
  | .queuedRewrite _ _ => true
  | .flipArm _ _ _ => true
  | .sdCfgWrite _ _ => true
  | .bringUp _ _ => true
  | .trainingComplete _ _ => true
  | .initComplete _ _ => true
  | .srEnter _ _ => true
  | .srExit _ _ => true
  | .channelOff _ _ => true
  | .sdramFill _ _ => true
  | .sdramWriteback _ => true
  | .generate _ _ => true
  | .keyGenerated => true
  | .setPlain _ _ => true
  | .retire _ _ => true
  | .retireComplete => true
  | .sweep _ _ => true
  | .sweepComplete => true
  | .mkeyWinWrite _ _ _ _ => true
  | .sdramRefresh _ => true
  | .mr4Poll _ _ => true
  | .strobeRetune _ => true
  | .scrubLine _ => true
  | .sdAlert _ => true
  | .linkCtlWrite _ _ _ => true
  | .retrain _ _ => true
  | .ts1 _ _ _ _ => true
  | .ts2 _ sets _ => !sets.isEmpty
  | .trainTimeout _ => true
  | .frame _ _ => true
  | .replayTimeout _ => true
  | .lossOfSignal _ _ _ => true
  | .tickMarker _ _ _ _ => true
  | .rawFlitIn _ codes => decide (1 ≤ codes.length) && decide (codes.length ≤ 48)
  | .rawFlitOut _ _ => true
  | .twinCfgWrite _ _ => true
  | .join _ => true
  | .mirrorData _ => true
  | .mirrorEnd _ => true
  | .mirrorSendComplete => true
  | .check _ => true
  | .resign _ => true
  | .barArrive _ => true
  | .barRelease _ => true
  | .reset _ _ => true
  | .takeover _ => true
  | .resignCmd _ => true
  | .rejoin _ => true
  | .takeoverBoundary => true
  | .snapReq _ _ => true
  | .snapshotComplete => true
  | .gresetGo _ => true
  | .gbarCfgWrite _ _ _ => true
  | .snoopCtlWrite _ _ _ _ => true
  | .snoopPacket _ => true
  | .snoopFifoPop _ _ => true
  | .powerRequest _ _ _ => true
  | .domainOn _ => true
  | .domainOff _ => true
  | .monitorInterval currents others => currents.length == 112 && others.length == 7
  | .hkRound values => values.length == 256
  | .modelStep => true
  | .graceEnd => true
  | .clockStepRise => true
  | .dwellEnd => true
  | .shutdownPowerOff => true
  | .releaseHold _ => true
  | .sensorReadmit _ _ _ => true
  | .notifyAnswer _ _ => true
  | .porstN _ _ => true
  | .resetN _ => true
  | .deviceResetBegin => true
  | .dieReset _ _ => true
  | .housekeepingStep => true
  | .fuseStep _ => true
  | .journalStep _ => true
  | .repairLoad _ => true
  | .bistStep _ => true
  | .imageStep _ => true
  | .journalWriteComplete => true
  | .alertClear _ => true
  | .readStatus via =>
    match via with
    | .pins _ => true
    | .mirror rq => rq.acc.toNode .nrd 6
  | .command d =>
    match d with
    | .pins _ off bytes => off == 0 && bytes.length == 16
    | .mirror rq => rq.acc.toNode .nwr 6 && rq.acc.addr == 0 && rq.acc.dataFits
  | .dataIn d =>
    match d with
    | .pins _ off bytes => decide (off < 2 ^ 32) && decide (1 ≤ bytes.length) && decide (bytes.length ≤ 4096)
    | .mirror rq => rq.acc.toNode .nwr 6 && decide (0x1000 ≤ rq.acc.addr) && rq.acc.dataFits
  | .dataOut _ count => decide (1 ≤ count) && decide (count ≤ 4096)
  | .abort _ => true
  | .loadImage => true
  | .csrRead => true
  | .csrWrite => true
  | .jnlRead => true
  | .jnlWrite => true
  | .cntInc => true
  | .settingsSet => true
  | .mapoutClear => true
  | .gbRead => true
  | .gbUnfreeze => true
  | .alertAck => true
  | .deviceReset => true
  | .bootRetry => true
  | .itinRead => true
  | .lcAdvance _ _ => true
  | .lcAdvanced => true
  | .loadPlain _ _ _ => true
  | .loadWrapped _ _ _ => true
  | .revoke _ _ _ => true
  | .debugKeySet _ _ _ => true
  | .keyCmdComplete => true
  | .alarmCfgWrite _ _ _ => true
  | .glitch => true
  | .rngTestWindow _ => true
  | .drbgReseed => true
  | .rngOutRead _ => true
  | .challengeBlockEnd => true
  | .mbistStart _ _ _ => true
  | .mbistComplete _ _ _ => true
  | .testAbort _ _ => true
  | .failInfoPop _ _ => true
  | .burn _ => true
  | .burnComplete => true
  | .stackTestRequest _ _ => true
  | .lbistGo _ _ => true
  | .lbistComplete _ => true
  | .idcode => true
  | .samplePreload levels _ _ => levels.length == 32
  | .extest sh => sh.all fun x => x.levels.length == 32
  | .highz => true
  | .clampInstr => true
  | .dbg => true
  | .scan => true
  | .bypass code => !([1, 2, 3, 4, 5, 0x10, 0x20].contains code.toNat)
  | .dbgAccess _ _ => true
  | .debugEndpointAccess rq => rq.acc.toNode .nrd 7 || (rq.acc.toNode .nwr 7 && rq.acc.dataFits)
  | .chal _ => true
  | .req _ _ => true
  | .close _ => true
  | .dbgInitGo _ _ _ => true
  | .dbgInitAnswer _ _ => true
  | .halt _ _ => true
  | .haltPendingLocked _ => true
  | .force _ _ => true
  | .dbgRelease _ _ => true
  | .step _ _ => true
  | .thrDataRead _ => true
  | .thrDataWrite _ _ => true
  | .dbgRegHalt _ _ _ => true
  | .dbgRegRel _ _ _ => true
  | .dbgRegStep _ _ _ => true
  | .regionStepEnd => true
  | .sw _ _ => true
  | .stimWrite rq => rq.acc.toNode .nwr 0x024 && rq.acc.dataFits
  | .traceEn _ _ => true
  | .traceWriteAnswer _ _ => true
  | .rawLaneLock _ _ => true
  | .scrubPassEnd => true
  | .channelSweepEnd _ => true

end Sys2Proof
end

