-- ==== Sys2Proof/Safety.lean ====
section
/-! DEFINITION. The terms in which claims are stated: the invariant of the device, what a step may do to the fuses, and what it leaves
unchanged. -/

namespace Sys2Proof.Machine

/-- From s to t only the fields K of the register file changed, and what the device sends. -/
def State.changes (s t : State) (K : List Fld) : Prop :=
  t = { s with csr := t.csr, emits := t.emits } ∧ ∀ f : Fld, (∀ g ∈ K, f.key ≠ g.key) → t.rd f = s.rd f

/-- Every register field but those of K reads as before. -/
def State.regsKept (s t : State) (K : List Fld) : Prop := ∀ f : Fld, (∀ g ∈ K, f.key ≠ g.key) → t.rd f = s.rd f

/-- The three memories are in canonical form: keys strictly rising, and no entry that equals what an unlisted one reads as. -/
def Memory.wf (s : State) : Bool := storeWf 0 s.spad && storeWf none s.bram && storeWf Frame.erased s.planes

/-- The fuses are as the part has them: a life-cycle state of R437, at most 15 epoch fuses (R442), at most 512 repair entries (R463). -/
def fusesOk (f : SecFuses) : Bool := decide (f.lc ≤ 5) && decide (f.epoch ≤ 15) && decide (f.repairs.length ≤ 512)

/-- The invariant of the device. -/
def State.inv (s : State) : Bool := Memory.wf s && fusesOk s.lcFuses

/-- The bits of one fuse row stay in another. -/
def rowBurned (a b : Nat) : Prop := a ||| b = b

/-- Fuses are burned and never cleared (R437, R450, R463): the bits of the life-cycle rows stay, the life-cycle state and the count of epoch fuses do not
fall, the flags that a fuse holds stay, and the repair entries only grow at their end. -/
def burnedMore (f g : SecFuses) : Prop :=
  rowBurned f.lcRows.1 g.lcRows.1 ∧ rowBurned f.lcRows.2.1 g.lcRows.2.1 ∧ rowBurned f.lcRows.2.2 g.lcRows.2.2 ∧ f.lc ≤ g.lc ∧ f.epoch ≤ g.epoch ∧ (f.cap → g.cap) ∧ (f.killed → g.killed) ∧ (f.kekDead → g.kekDead) ∧ f.repairs <+: g.repairs

/-- Thread t runs and its oldest instruction, not yet sent, is i of row r: the word at PC is defined, correct and unchanged since it may have
been fetched, and its reserved fields are 0 (R137, R142, R157). -/
def State.standsAt (s : State) (t : Nat) (i : Insn) (r : Row) : Bool :=
  decide (s.tstate t = .run ∧ (s.thread t).pend = none ∧ storeGet none (s.thread t).commits (s.thread t).old = none ∧
    storeGet 0 (s.tpc t) s.imemErr < 2 ∧ i = Insn.of (BitVec.ofNat 64 (s.imem (s.tpc t))) ∧ i.row = some r ∧ i.reservedOk r = true)

/-- The register access that a command stands for, an operation of its register: who makes it and at which offset. None of a command that makes none,
and of one that its own rule refuses before the register's endpoint is asked (R432, R437, R458). -/
def State.access (s : State) : Instr → Option (Ini × Nat)
  | .tickApply ini | .tickEnWrite ini _ | .tickSrcWrite ini _ => some (ini, R.TICK_CTL_EN.off)
  | .ovrClr ini n => some (ini, (R.REGION_OVR_OVR_CLR n.val).off)
  | .start ini t | .threadStop ini t | .restart ini t | .clrFault ini t => some (ini, (R.SEQ_THR_CTL_START t.val).off)
  | .wdtEnWrite ini t _ => some (ini, (R.SEQ_WDT_EN t.val).off)
  | .imgAbort ini => if !(s.fromInside ini) then some (ini, R.IMG_CTL_ABORT.off) else none
  | .patrolEnWrite ini _ => some (ini, R.PATROL_CTL_EN.off)
  | .mbistStart ini e v => if !(s.testBarred e.val v) then some (ini, (R.TEST_CMD_KIND e.val).off) else none
  | .testAbort ini e => some (ini, (R.TEST_CMD_KIND e.val).off)
  | .failInfoPop ini e => some (ini, (R.TEST_FAIL_INFO_VALID e.val).off)
  | .burn ini => some (ini, R.REPAIR_CTL_BURN.off)
  | .stackTestRequest ini _ => some (ini, R.STACK_TEST_NEXT.off)
  | .lbistGo ini _ => if !s.scanBarred then some (ini, R.LBIST_CTL_GO.off) else none
  | .portReadmit ini n _ => if stationExists (n.val / 32) (n.val % 32) then some (ini, (R.WS_ISOL_ISOLATED n.val).off) else none
  | .epochFlip ini _ => some (ini, R.NET_EPOCH_CUR.off)
  | .routeTableWrite ini n b i _ => if stationExists (n.val / 32) (n.val % 32) then some (ini, (rtFld n.val b.val (8 * i.val)).off) else none
  | .imemWrite ini w _ => some (ini, (R.IMEM_HI_WORD w.val).off)
  | .porterEnWrite ini d _ => some (ini, (R.PORTER_CTL_EN d.val).off)
  | .flipArm ini d _ => some (ini, (R.PROT_FLIP_CTL_ARM d.val).off)
  | .takeover ini | .resignCmd ini | .rejoin ini => some (ini, R.TWIN_CTL_STATE.off)
  | .twinCfgWrite ini _ => some (ini, R.TWIN_CFG_EN.off)
  | .gbarCfgWrite ini b _ => some (ini, (R.GBAR_CFG_NDEV b.val).off)
  | .snapReq ini _ => some (ini, R.SNAP_CTL_BUSY.off)
  | .gresetGo ini => some (ini, R.GRESET_CTL_SELF.off)
  | .courierGo ini c | .courierAbort ini c => some (ini, (R.COURIER_CTL_GO c.val).off)
  | .linkCtlWrite ini g _ | .retrain ini g => some (ini, (R.LINK_CTL_MODE g.val).off)
  | .erase ini _ _ => some (ini, R.PLANE_CMD_CMD.off)
  | .ownerWrite ini n _ => some (ini, (R.REGION_CTL_CMD n.val).off)
  | .clkNetCfgWrite ini g _ => some (ini, (R.CLK_NET_CFG_EN g.val).off)
  | .regionClkWrite ini n _ => some (ini, (R.REGION_CLK_CLK_SEL n.val).off)
  | .regionPortCfgWrite ini n p _ => some (ini, (R.REGION_PORT_CFG_MODE n.val p.val).off)
  | .regionPortSlotsWrite ini n p _ => some (ini, (slotFld n.val p.val 0).off)
  | .clean ini _ _ _ | .flush ini _ _ _ | .rehash ini _ => some (ini, if s.dieOut 4 then 0x2800000 else 0x2000000)
  | .lcAdvance ini _ => if !(s.fromInside ini) then some (ini, R.LC_CTL_TARGET.off) else none
  | .loadPlain ini _ _ => if !(s.fromInside ini) && !(s.keyBarred 1) then some (ini, R.KEY_CMD_CMD.off) else none
  | .loadWrapped ini _ _ => if !(s.fromInside ini) && !(s.keyBarred 2) then some (ini, R.KEY_CMD_CMD.off) else none
  | .revoke ini _ _ => if !(s.fromInside ini) && !(s.keyBarred 3) then some (ini, R.KEY_CMD_CMD.off) else none
  | .debugKeySet ini _ _ => if !(s.fromInside ini) && !(s.keyBarred 4) then some (ini, R.KEY_CMD_CMD.off) else none
  | .alarmCfgWrite ini a _ => if !(s.fromInside ini) then some (ini, (R.ALARM_CFG_RESP a.val).off) else none
  | .dieReset ini _ => some (ini, R.RST_DIE_L1.off)
  | .powerRequest ini d _ => some (ini, (R.PWR_DOM_CTL_REQ d.val).off)
  | .sensorReadmit ini l _ => some (ini, (R.THERM_SENS_FAIL_FAILED l.val).off)
  | .releaseHold ini => if s.holdsFull ini then some (ini, R.THERM_STAT_HOLD.off) else none
  | .bankOwnerWrite ini b _ => some (ini, (R.BANK_OWNER_KIND b.val).off)
  | .bankCfgWrite ini b _ => some (ini, (R.BANK_CFG_A_MODE b.val).off)
  | .bankWinWrite ini b portB _ => some (ini, (if portB then R.BANK_WIN_B_LEN_W b.val else R.BANK_WIN_A_LEN_W b.val).off)
  | .bankPowerRequest ini b _ => some (ini, (R.BANK_PWR_REQ b.val).off)
  | .sdCfgWrite ini _ => some (ini, R.SD_CFG_POP.off)
  | .bringUp ini c | .srEnter ini c | .srExit ini c | .channelOff ini c => some (ini, (R.SD_CH_CTL_CMD c.val).off)
  | .generate ini _ => if !(s.mkeyBarred 1) then some (ini, R.MKEY_CMD_CMD.off) else none
  | .setPlain ini _ => if !(s.mkeyBarred 2) then some (ini, R.MKEY_CMD_CMD.off) else none
  | .retire ini _ => if !(s.mkeyBarred 3) then some (ini, R.MKEY_CMD_CMD.off) else none
  | .sweep ini _ => if !(s.mkeyBarred 4) then some (ini, R.MKEY_CMD_CMD.off) else none
  | .mkeyWinWrite ini w _ _ => some (ini, (R.MKEY_WIN_BASE_EN w.val).off)
  | .snoopCtlWrite ini u _ _ => some (ini, (R.SNOOP_CTL_EN u.val).off)
  | .snoopFifoPop ini u => some (ini, (R.SNOOP_FIFO_VAL_VALUE u.val).off)
  | .alertClear ini => some (ini, R.GB_STAT_COUNT.off)
  | _ => none

/-- All waiting commands are ones that an outside agent can give. -/
def State.queueOk (s : State) : Bool := s.pending.all Instr.wellFormed

end Sys2Proof.Machine
end

