-- ==== Sys2Proof/Certificates/Slice0/Obligations.lean ====
section
/-! DEFINITION. The statements for the provers. Each names in its docstring the rules of the spec that it formalises. -/

open Sys2Proof Sys2Proof.Machine

/-- Register accesses and pairs (R10, R11, R13, R16, R38, R300, R467). At a listed offset outside the debug endpoint, where nothing turns the access away
or bars it: a write of 4 bytes to a register without a pair does what its register's rule says (wrReg) and is answered OK, one of another size or
alignment is answered DECODE; a read of a register without a pair is answered with its value and has the read's side effect, which a peek of the debug
initiator has not; a read of _LO also captures _HI, and a read of _HI returns that capture and uses it up; a write of _LO is held, and a write of _HI
gives both halves their values, the instruction memory aside. A 4-byte write with its POISON bit set is answered DENIED and logged with its address.
An access that its endpoint turns away is answered with that code and does nothing else, in each of the six forms and in every command that is an
access of one register. -/
def Obligations.RegisterBus : Prop :=
    (∀ (ini : Ini) (off : BitVec 28) (v : BitVec 32) (s : State) (r : Reg),
      off.toNat % 4 = 0 →
      regAt off.toNat = some r →
      r.pair = none →
      s.turnedAway off.toNat = none →
      inDebug off.toNat = false →
      s.writeBarred ini off.toNat r v = false →
      exec (.registerWrite ini off 4 ⟨v, false⟩) s = .next ((s.quiet.wrReg ini r v).okWrite ini)) ∧
    (∀ (ini : Ini) (off : BitVec 28) (size : Nat) (v : BitVec 32) (poison : Bool) (s : State),
      size ≠ 4 ∨ off.toNat % 4 ≠ 0 →
      exec (.registerWrite ini off size ⟨v, poison⟩) s = .next (s.quiet.emit (.regAnswer ini .decode 0))) ∧
    (∀ (ini : Ini) (off : BitVec 28) (s : State) (r : Reg),
      off.toNat % 4 = 0 →
      regAt off.toNat = some r →
      r.pair = none →
      s.turnedAway off.toNat = none →
      inDebug off.toNat = false →
      s.peeks ini = false →
      exec (.rsFieldRead ini off) s = .next ((s.quiet.readEffect r).emit (.regAnswer ini .ok (s.quiet.csrValue r)))) ∧
    (∀ (ini : Ini) (off : BitVec 28) (s : State) (r hi : Reg),
      off.toNat % 4 = 0 →
      regAt off.toNat = some r →
      r.pair = some (hi, false) →
      s.turnedAway off.toNat = none →
      inDebug off.toNat = false →
      s.peeks ini = false →
      exec (.pairLoRead ini off) s = .next ((({ s.quiet with
        captures := storeSet none (pairKey off.toNat ini) (some (s.quiet.csrValue hi)) s.captures } : State).readEffect r).emit
          (.regAnswer ini .ok (s.quiet.csrValue r)))) ∧
    (∀ (ini : Ini) (off : BitVec 28) (s : State) (r lo : Reg) (v : Nat),
      off.toNat % 4 = 0 →
      regAt off.toNat = some r →
      r.pair = some (lo, true) →
      s.turnedAway off.toNat = none →
      inDebug off.toNat = false →
      s.peeks ini = false →
      storeGet none (pairKey (off.toNat - 4) ini) s.captures = some v →
      exec (.pairHiRead ini off) s = .next ((({ s.quiet with captures := storeSet none (pairKey (off.toNat - 4) ini) none s.captures } : State).readEffect r).emit
        (.regAnswer ini .ok v))) ∧
    (∀ (ini : Ini) (off : BitVec 28) (v : BitVec 32) (s : State) (r hi : Reg),
      off.toNat % 4 = 0 →
      regAt off.toNat = some r →
      r.pair = some (hi, false) →
      r.writable = true →
      s.turnedAway off.toNat = none →
      inDebug off.toNat = false →
      s.writeBarred ini off.toNat r v = false →
      exec (.pairLoWrite ini off ⟨v, false⟩) s = .next ((s.quiet.holdLo off.toNat ini v.toNat).okWrite ini)) ∧
    (∀ (ini : Ini) (off : BitVec 28) (v : BitVec 32) (s : State) (r lo : Reg),
      off.toNat % 4 = 0 →
      regAt off.toNat = some r →
      r.pair = some (lo, true) →
      r.writable = true →
      s.turnedAway off.toNat = none →
      inDebug off.toNat = false →
      s.writeBarred ini off.toNat r v = false →
      (∀ w, r ≠ .IMEM_HI w) →
      exec (.pairHiWrite ini off ⟨v, false⟩) s = .next (((((s.quiet.dropLo (off.toNat - 4) ini).storeReg lo
        (BitVec.ofNat 32 (s.pairLo (off.toNat - 4) ini (s.regValue lo)))).storeReg r v)).okWrite ini)) ∧
    (∀ (ini : Ini) (off : BitVec 28) (v : BitVec 32) (s : State) (r : Reg),
      off.toNat % 4 = 0 →
      regAt off.toNat = some r →
      s.turnedAway off.toNat = none →
      inDebug off.toNat = false →
      exec (.registerWrite ini off 4 ⟨v, true⟩) s = .next ((s.quiet.log .poisonConsumed (ini.node :: words64 (0x60000000000 + off.toNat))).emit (.regAnswer ini .denied 0)) ∧
        exec (.pairLoWrite ini off ⟨v, true⟩) s = exec (.registerWrite ini off 4 ⟨v, true⟩) s ∧
        exec (.pairHiWrite ini off ⟨v, true⟩) s = exec (.registerWrite ini off 4 ⟨v, true⟩) s) ∧
    (∀ (ini : Ini) (off : BitVec 28) (s : State) (r : Reg),
      off.toNat % 4 = 0 →
      regAt off.toNat = some r →
      r.pair = none →
      s.turnedAway off.toNat = none →
      inDebug off.toNat = false →
      s.peeks ini = true →
      exec (.rsFieldRead ini off) s = .next (s.quiet.emit (.regAnswer ini .ok (s.quiet.csrValue r)))) ∧
    (∀ (ini : Ini) (off : BitVec 28) (v : BitVec 32) (poison : Bool) (code : Resp) (s : State),
      off.toNat % 4 = 0 →
      s.turnedAway off.toNat = some code →
      exec (.registerWrite ini off 4 ⟨v, poison⟩) s = .next (s.quiet.emit (.regAnswer ini code 0)) ∧ exec (.rsFieldRead ini off) s = .next (s.quiet.emit (.regAnswer ini code 0)) ∧
        exec (.pairLoRead ini off) s = .next (s.quiet.emit (.regAnswer ini code 0)) ∧ exec (.pairHiRead ini off) s = .next (s.quiet.emit (.regAnswer ini code 0)) ∧
        exec (.pairLoWrite ini off ⟨v, poison⟩) s = .next (s.quiet.emit (.regAnswer ini code 0)) ∧ exec (.pairHiWrite ini off ⟨v, poison⟩) s = .next (s.quiet.emit (.regAnswer ini code 0))) ∧
    (∀ (c : Instr) (ini : Ini) (off : Nat) (code : Resp) (s : State),
      s.access c = some (ini, off) →
      s.turnedAway off = some code →
      exec c s = .next (s.quiet.emit (.regAnswer ini code 0)))

/-- Fabric registers, wires, cells, face channels and the block RAM window (R21, R22, R48, R52, R53, R54, R61, R62, R63, R67, R112, R300). At an edge of
its clock a flip-flop takes its set-reset value, or its data when enabled, and otherwise keeps its value, and the state frames hold the results; a
slice with its X, Y and M registers in use shows a product three edges later; a cascade starts at 0 in each strip; clearing a region's slices clears
its slice registers and read outputs and no other region's. No wire leaves the die. A clamped cell presents its last value, all 0, all 1 or the live
value by its mode, and a SYNC2 cell its second stage. A refresh that has fallen due re-sends the sender's level, a level change that a computed cycle
of the sender brings is sent instead, and the next refresh falls due 64 reference cycles or 64 sender cycles later; one that is not due does nothing,
nor does one of a sender in OFF; a window access of a block in an on domain is queued; a queued one-row access meets the row at an edge of the region
clock and is answered, and where port A reaches no bit of that row in the same cycle it writes the row, or reads it as it stands; a poisoned word is
not written, and counted. -/
def Obligations.FabricChannelsAndWindow : Prop :=
    (∀ (x : Fin 256) (y : Fin 192) (c : Fin 256) (change : Bool) (s : State),
      s.rstate (faceSender x.val y.val c.val) ≠ .off →
      change = false ∨ s.faceDriven x.val y.val c.val = (s.face x.val y.val c.val).sent →
      (s.face x.val y.val c.val).due ≤ s.now ∨ (s.face x.val y.val c.val).left = 0 →
      exec (.faceRefresh x y c change) s = .next
        (({ s.quiet with faces := storeSet Face.quiet (faceKey x.val y.val c.val) ⟨(s.face x.val y.val c.val).sent, (s.face x.val y.val c.val).sent, s.now + 64, 64⟩ s.faces } : State).emit (.facePulse x.val y.val c.val (s.face x.val y.val c.val).sent))) ∧
    (∀ (x : Fin 256) (y : Fin 192) (c : Fin 256) (s : State),
      s.rstate (faceSender x.val y.val c.val) ≠ .off →
      s.computes (faceSender x.val y.val c.val) = true →
      s.faceDriven x.val y.val c.val = !(s.face x.val y.val c.val).sent →
      exec (.faceRefresh x y c true) s = .next
        (({ s.quiet with faces := storeSet Face.quiet (faceKey x.val y.val c.val) ⟨!(s.face x.val y.val c.val).sent, !(s.face x.val y.val c.val).sent, s.now + 64, 64⟩ s.faces } : State).emit (.facePulse x.val y.val c.val (!(s.face x.val y.val c.val).sent)))) ∧
    (∀ (x : Fin 256) (y : Fin 192) (c : Fin 256) (change : Bool) (s : State),
      s.rstate (faceSender x.val y.val c.val) = .off ∨ (change = false ∧ s.now < (s.face x.val y.val c.val).due ∧ (s.face x.val y.val c.val).left ≠ 0) →
      exec (.faceRefresh x y c change) s = .next s.quiet) ∧
    (∀ (rq : Request) (off : Nat) (s : State),
      (isWrite rq.acc.op = true → rq.acc.data.length = rq.acc.size) →
      bramOffset rq.acc = some off →
      ¬ 64 ≤ off / 0x180000 →
      rq.acc.size = 8 ∨ rq.acc.size = 16 ∨ rq.acc.size = 32 ∨ rq.acc.size = 64 ∨ rq.acc.size = 128 →
      rq.acc.addr % rq.acc.size = 0 →
      s.unusable (off / 0x180000) = false →
      s.underTest.contains (.bram (off / 0x180000)) = false ∧ s.keptByTest.contains (.bram (off / 0x180000)) = false →
      s.dstate (off / 0x180000) = .on →
      exec (.bramWindowAccess rq) s = .next { s.quiet with
        bwin := s.bwin ++ [⟨rq, off / 0x180000 * 192 + off % 0x180000 / 0x2000, off % 0x2000 / 8, rq.acc.size / 8, []⟩] }) ∧
    (∀ (n : Fin 64) (edge : Fin 8) (e : Nat) (p : Nat × Nat) (wa : WinAcc) (s : State),
      s.bwin = [wa] →
      wa.block / 192 = n.val →
      wa.left = 1 →
      isWrite wa.rq.acc.op = true →
      wa.rq.acc.size = 8 →
      wa.rq.acc.poison = 0 →
      (s.netEdges (s.rd (R.REGION_CLK_CLK_SEL n.val)))[edge.val]? = some (e, p) →
      s.clockRuns n.val = true →
      s.ramBusy n.val (wa.block % 192) = false →
      s.ramUsed n.val (wa.block % 192) p = false →
      exec (.bramWindowRow n edge) s = .next
        (({ (s.quiet.drawn.windowReach n.val (wa.block % 192) wa.row (2 ^ 36 - 1) (leNat (wa.rq.acc.data.take 8) % 2 ^ 36) s.draw p).1 with bwin := [] } : State).reply wa.rq .ok)) ∧
    (∀ (n : Fin 64) (edge : Fin 8) (e : Nat) (p : Nat × Nat) (wa : WinAcc) (s : State),
      s.bwin = [wa] →
      wa.block / 192 = n.val →
      wa.left = 1 →
      isWrite wa.rq.acc.op = false →
      (s.netEdges (s.rd (R.REGION_CLK_CLK_SEL n.val)))[edge.val]? = some (e, p) →
      s.clockRuns n.val = true →
      s.ramBusy n.val (wa.block % 192) = false →
      s.ramUsed n.val (wa.block % 192) p = false →
      exec (.bramWindowRow n edge) s = .next
        (({ (s.quiet.drawn.windowReach n.val (wa.block % 192) wa.row 0 0 s.draw p).1 with bwin := [] } : State).replyData wa.rq
          (wa.got ++ leBytes 8 (s.quiet.drawn.windowReach n.val (wa.block % 192) wa.row 0 0 s.draw p).2) 0)) ∧
    (∀ (n : Fin 64) (edge : Fin 8) (e : Nat) (p : Nat × Nat) (wa : WinAcc) (s : State),
      s.bwin = [wa] →
      wa.block / 192 = n.val →
      wa.left = 1 →
      isWrite wa.rq.acc.op = true →
      wa.rq.acc.size = 8 →
      (wa.rq.acc.poison >>> accessWord wa.rq.acc 0) % 2 = 1 →
      s.rd (R.BRAM_ECC_PDROP n.val) ≠ 0 →
      (s.netEdges (s.rd (R.REGION_CLK_CLK_SEL n.val)))[edge.val]? = some (e, p) →
      s.clockRuns n.val = true →
      s.ramBusy n.val (wa.block % 192) = false →
      s.ramUsed n.val (wa.block % 192) p = false →
      exec (.bramWindowRow n edge) s = .next (({ s.quiet.drawn.bump (R.BRAM_ECC_PDROP n.val) with bwin := [] } : State).reply wa.rq .ok)) ∧
    (∀ (n k row mask value und : Nat) (p : Nat × Nat) (s : State),
      s.windowClash n k row p = (0, 0) →
      mask ≠ 0 →
      (s.windowReach n k row 0 0 und p).2 = s.bramRow (192 * n + k) row ∧ (s.windowReach n k row 0 0 und p).1.bram = s.bram ∧
        (s.windowReach n k row mask value und p).1.bram = (s.bramWrite (192 * n + k) row mask value).bram) ∧
    (∀ (s : State) (ticks : List Nat) (n i : Nat) (el : ElementCfg) (cl : ClusterCfg),
      el = Config.element (s.active n) (i / 160) (i % 160 / 2) ∧ cl = Config.cluster (s.active n) (i / 160) (i % 160 / 2 / 8) →
      (cl.clock ∉ ticks → s.flopAfter ticks n i = s.flop n i) ∧
        (cl.clock ∈ ticks → s.routed n (i / 160) cl.setReset = true → s.flopAfter ticks n i = (if i % 2 = 1 then el.srB else el.srA)) ∧
        (cl.clock ∈ ticks → s.routed n (i / 160) cl.setReset = false →
          (if i % 2 = 1 then el.enableB else el.enableA) = some true ∧ s.routed n (i / 160) cl.enable1 = false ∨
          (if i % 2 = 1 then el.enableB else el.enableA) = some false ∧ s.routed n (i / 160) cl.enable0 = false → s.flopAfter ticks n i = s.flop n i) ∧
        (cl.clock ∈ ticks → s.routed n (i / 160) cl.setReset = false → (if i % 2 = 1 then el.enableB else el.enableA) = none →
          s.flopAfter ticks n i = s.routed n (i / 160) (((if i % 2 = 1 then el.bypassB else el.bypassA)).getD (if i % 2 = 1 then .lz (i % 160 / 2) else .ly (i % 160 / 2))))) ∧
    (∀ (s : State) (ticks : List Nat) (n i : Nat),
      ticks ≠ [] →
      i < 245760 →
      s.is1 (R.REGION_STATUS_HAS_ACTIVE n) = true →
      (State.flopsEdge s ticks n s).flop n i = s.flopAfter ticks n i) ∧
    (∀ (u : SliceUse) (x y x1 x2 y1 y2 : BitVec 27) (w w1 w2 cin cin1 cin2 : Word) (r : SliceRegs),
      u.useX = true ∧ u.useY = true ∧ u.useM = true →
      u.cfg.saturate = false →
      (sliceEdge u 0 false x2 y2 w2 cin2 (sliceEdge u 0 false x1 y1 w1 cin1 (sliceEdge u 0 false x y w cin r))).q = BitVec.ofInt 64 (operand27 u.cfg.xSigned x * operand27 u.cfg.ySigned y)) ∧
    (∀ (s : State) (n j : Nat),
      s.cascade n (32 * j) = 0 ∧ (j % 32 ≠ 31 → s.cascade n (j + 1) = (s.slicer n j).q)) ∧
    (∀ (s : State) (n m j : Nat) (b : Bool),
      j < 256 →
      (s.clearSlices n).slicer n j = {} ∧ (m ≠ n → (s.clearSlices n).slicer m j = s.slicer m j) ∧
        (j < 192 → (s.clearSlices n).ramPort n j b = {} ∧ (m ≠ n → (s.clearSlices n).ramPort m j b = s.ramPort m j b))) ∧
    (∀ (n t m q : Nat) (d : Dir) (k : WireKind),
      n < 64 →
      t < 1536 →
      wireStart n t d (wireSpan k) = some (m, q) →
      m / 32 = n / 32 ∧ m < 64 ∧ q < 1536) ∧
    (∀ (s : State) (n m g live : Nat),
      groupSender n g = some m →
      (s.cellCfg n g).sync2 = false →
      s.clamped n m = true →
      ((s.cellCfg n g).mode = .hold → s.cellOutput n g live = (s.cell n g).last) ∧ ((s.cellCfg n g).mode = .force0 → s.cellOutput n g live = 0) ∧
        ((s.cellCfg n g).mode = .force1 → s.cellOutput n g live = 2 ^ 32 - 1) ∧
        ((s.cellCfg n g).mode = .pass → s.cellOutput n g live = (if s.passes m (outboundGroup g) = true then live else (s.cell n g).last))) ∧
    (∀ (s : State) (n g live : Nat),
      (s.cellCfg n g).sync2 = true → s.cellOutput n g live = (s.cell n g).syn2)

/-- Clock networks and region clocks (R70, R71, R72, R73, R402). Valid settings that turn a network on or off that no region is using are stored together
and end LOCKED; a PLL lock of an enabled network sets LOCKED, its toggling starts, and requests that waited for the clock are delivered; its loss
clears LOCKED, sets LOCK_LOST and is logged; CLK_SEL is written in OFF or IDLE, and a write at any other time sets SEL_ERR. A network's active edges
fall at multiples of D × O ÷ M reference cycles from the start of its toggling; with a clock step n the first n of every 8 of its cycles are gated,
the step being taken at a multiple of 8. -/
def Obligations.ClockNetworks : Prop :=
    (∀ (ini : Ini) (g : Fin 32) (v : BitVec 32) (s u : State) (m d o : Nat),
      u = s.quiet.w1cOnly (.CLK_NET_CFG g.val) v →
      m = (R.CLK_NET_CFG_M_M1 g.val).of v ∧ d = (R.CLK_NET_CFG_D_M1 g.val).of v ∧ o = (R.CLK_NET_CFG_O_M1 g.val).of v →
      7 ≤ m →
      clkValid u.fuses.speed (m + 1) (d + 1) (o + 1) = true →
      u.clkBusy g.val = false →
      u.rd (R.CLK_NET_CFG_EN g.val) ≠ (R.CLK_NET_CFG_EN g.val).of v →
      s.turnedAway (R.CLK_NET_CFG_EN g.val).off = none →
      exec (.clkNetCfgWrite ini g v) s = .next ((((((u.wr (R.CLK_NET_CFG_EN g.val) ((R.CLK_NET_CFG_EN g.val).of v)).wr (R.CLK_NET_CFG_O_M1 g.val) o).wr
        (R.CLK_NET_CFG_M_M1 g.val) m).wr (R.CLK_NET_CFG_D_M1 g.val) d).clr (R.CLK_NET_CFG_LOCKED g.val)).okWrite ini)) ∧
    (∀ (g : Fin 32) (s : State),
      s.is1 (R.CLK_NET_CFG_EN g.val) = true →
      s.is1 (R.CLK_NET_CFG_LOCKED g.val) = false →
      exec (.pllLocked g) s = .next ((({ s.quiet with clkStart := storeSet 0 g.val s.now s.clkStart } : State).set1 (R.CLK_NET_CFG_LOCKED g.val)).resumeInq g.val)) ∧
    (∀ (g : Fin 32) (s : State),
      s.is1 (R.CLK_NET_CFG_LOCKED g.val) = true →
      exec (.pllLockLost g) s = .next
        (((s.quiet.clr (R.CLK_NET_CFG_LOCKED g.val)).set1 (R.CLK_NET_CFG_LOCK_LOST g.val)).logP 2 .clkLockLost [g.val])) ∧
    (∀ (ini : Ini) (n : Fin 64) (v : BitVec 32) (s u : State),
      u = s.quiet.w1cOnly (.REGION_CLK n.val) v →
      u.rstate n.val = .off ∨ u.rstate n.val = .idle →
      s.turnedAway (R.REGION_CLK_CLK_SEL n.val).off = none →
      exec (.regionClkWrite ini n v) s = .next ((u.wr (R.REGION_CLK_CLK_SEL n.val) ((R.REGION_CLK_CLK_SEL n.val).of v)).okWrite ini)) ∧
    (∀ (ini : Ini) (n : Fin 64) (v : BitVec 32) (s u : State),
      u = s.quiet.w1cOnly (.REGION_CLK n.val) v →
      u.rstate n.val ≠ .off →
      u.rstate n.val ≠ .idle →
      s.turnedAway (R.REGION_CLK_CLK_SEL n.val).off = none →
      exec (.regionClkWrite ini n v) s = .next ((u.set1 (R.REGION_CLK_SEL_ERR n.val)).okWrite ini)) ∧
    (∀ (s : State) (g j a b k q mm : Nat),
      k = s.now - storeGet 0 g s.clkStart →
      q = (s.rd (R.CLK_NET_CFG_D_M1 g) + 1) * (s.rd (R.CLK_NET_CFG_O_M1 g) + 1) →
      mm = s.rd (R.CLK_NET_CFG_M_M1 g) + 1 →
      s.is1 (R.CLK_NET_CFG_EN g) = true ∧ s.is1 (R.CLK_NET_CFG_LOCKED g) = true →
      ((j, a, b) ∈ s.netEdges g ↔ k * mm ≤ j * q ∧ j * q < (k + 1) * mm ∧ a = j * q - k * mm ∧ b = mm)) ∧
    (∀ (s : State) (g j : Nat),
      s.gatedEdge g (j + 1) = decide (j % 8 < storeGet 0 g s.gates) ∧ (∀ e : Nat, e % 8 = 0 → storeGet 0 g (s.gateEdge (g, e)).gates = s.rd R.THERM_STAT_STEP) ∧ (∀ e : Nat, e % 8 ≠ 0 → s.gateEdge (g, e) = s))

/-- Region ports in NET mode (R76, R77, R78, R79). A packet of a running context with a free response slot is sent under a free tag and its plane and tag
are recorded; the one awaited response, for the active plane, is handed to the fabric and frees the slot; a request to a region in RUN, in NET mode
with its clock running and nothing waiting before it, is delivered; mode settings that differ and shares whose sum is at most 48, with no slot in use,
are written in OFF or IDLE. -/
def Obligations.RegionPortsNet : Prop :=
    (∀ (n : Fin 64) (p : Fin 4) (acc : Access) (s : State),
      s.portMode n.val p.val = 0 →
      s.takesFlits n.val = true →
      s.dstate n.val = .on →
      s.maySend (regionNode n.val p.val) = true →
      (s.port n.val p.val).inUse (s.rd (R.REGION_STATUS_ACTIVE_PLANE n.val)) < s.rd (slotFld n.val p.val (s.rd (R.REGION_STATUS_ACTIVE_PLANE n.val))) →
      exec (.portPacketSend n p acc true) s = .next
        ((s.quiet.setPort n.val p.val { s.port n.val p.val with partly := false, waiting := (s.port n.val p.val).waiting ++
          [(s.rd (R.REGION_STATUS_ACTIVE_PLANE n.val), s.freeTag (regionNode n.val p.val))] }).sendNow (regionNode n.val p.val) acc)) ∧
    (∀ (n : Fin 64) (p : Fin 4) (tag : BitVec 8) (a : Answer) (s u : State),
      (s.port n.val p.val).waiting = [(u.rd (R.REGION_STATUS_ACTIVE_PLANE n.val), tag.toNat)] →
      s.quiet.takeAnswer (regionNode n.val p.val) tag.toNat a = some u →
      u.is1 (R.REGION_STATUS_HAS_ACTIVE n.val) = true →
      exec (.portResponseArrival n p tag a) s = .next
        ((u.setPort n.val p.val { s.port n.val p.val with waiting := [] }).emit (.fabricAnswer n.val p.val tag.toNat a))) ∧
    (∀ (n : Fin 64) (p : Fin 4) (rq : Request) (s : State),
      s.unusable n.val = false →
      s.portMode n.val p.val = 0 →
      s.dstate n.val = .on →
      s.rstate n.val = .run →
      (s.region n.val).clamping = none →
      s.clockRuns n.val = true →
      (s.port n.val p.val).inq = [] →
      exec (.portInboundRequest n p rq) s = .next (s.quiet.emit (.fabricRequest n.val p.val rq))) ∧
    (∀ (ini : Ini) (n : Fin 64) (p : Fin 4) (v : BitVec 32) (s u x y : State),
      u = s.quiet.w1cOnly (.REGION_PORT_CFG n.val p.val) v →
      x = u.storeReg (.REGION_PORT_CFG n.val p.val) v →
      x.regValue (.REGION_PORT_CFG n.val p.val) ≠ u.regValue (.REGION_PORT_CFG n.val p.val) →
      u.rstate n.val = .off ∨ u.rstate n.val = .idle →
      x.portMode n.val p.val ≠ 1 ∨ u.boundElsewhere (x.rd (R.REGION_PORT_CFG_BANK n.val p.val)) n.val p.val = false →
      (y = x.setPort n.val p.val { x.port n.val p.val with pinIn := [], pinOut := [], pinDue := [], pinTaken := 0, pinFirst := false, inq := if x.portMode n.val p.val = 0 then (x.port n.val p.val).inq else [] }) →
      s.turnedAway (R.REGION_PORT_CFG_MODE n.val p.val).off = none →
      exec (.regionPortCfgWrite ini n p v) s = .next ((if x.portMode n.val p.val = 0 then y else (x.port n.val p.val).inq.foldl (fun s rq => s.reply rq .decode) y).okWrite ini)) ∧
    (∀ (ini : Ini) (n : Fin 64) (p : Fin 4) (v : BitVec 32) (s : State),
      slotsSum v ≤ 48 →
      s.rstate n.val = .off ∨ s.rstate n.val = .idle →
      (s.port n.val p.val).parked = [] →
      (s.port n.val p.val).waiting = [] →
      s.turnedAway (slotFld n.val p.val 0).off = none →
      exec (.regionPortSlotsWrite ini n p v) s = .next ((s.quiet.storeReg (.REGION_PORT_SLOTS n.val p.val) v).okWrite ini))

/-- Pins and events of region ports (R80, R81, R84). A flit of pin samples that finds room waits in the port, and GPIO_IN shows its last sample; an output
flit of a region that takes flits is queued for its bank, each sample to be driven pinDelay cycles later, and its samples are kept for the twin's
check; a sample edge without a ready sample sets PIN_UNDERRUN and, if UNDERRUN_POL is 1, drives the safe value; a pending event is delivered as a
pulse of its line in a cycle of RUN without a swap in progress, and no longer pends; outside RUN it goes on pending. -/
def Obligations.PinsThroughPorts : Prop :=
    (∀ (n : Fin 64) (p : Fin 4) (samples : List (BitVec 32)) (first : Bool) (rest : List (Nat × Bool)) (s u : State),
      ¬ (samples.length = 0 ∨ 16 < samples.length) →
      s.is1 (R.GPIO_BANK_CFG_VCCIO_OK (s.rd (R.REGION_PORT_CFG_BANK n.val p.val))) = true →
      (s.port n.val p.val).pinDue = (samples.length, first) :: rest →
      s.portMode n.val p.val = 1 →
      u = s.quiet.wr (R.GPIO_IN_PINS (s.rd (R.REGION_PORT_CFG_BANK n.val p.val))) (samples.getLastD 0).toNat →
      u.rstate n.val ≠ .off →
      (s.port n.val p.val).pinIn.length < 4 →
      exec (.pinInputFlit n p samples first false) s = .next
        (u.setPort n.val p.val { s.port n.val p.val with pinDue := rest, pinIn := (s.port n.val p.val).pinIn ++ [(samples, first)] })) ∧
    (∀ (n : Fin 64) (p : Fin 4) (samples : List (BitVec 32 × BitVec 32)) (b : Nat) (s : State),
      samples.length = 8 →
      s.portMode n.val p.val = 1 →
      s.takesFlits n.val = true →
      b = s.rd (R.REGION_PORT_CFG_BANK n.val p.val) →
      exec (.pinOutputFlit n p samples) s = .next { s.quiet.setPort n.val p.val
        { s.port n.val p.val with pinOut := (s.port n.val p.val).pinOut ++ samples.map fun v => (s.now + pinDelay, v.1, v.2) } with
        twin := { s.twin with samples := storeSet [] b (storeGet [] b s.twin.samples ++ samples) s.twin.samples } }) ∧
    (∀ (n : Fin 64) (p : Fin 4) (s u : State) (b : Nat),
      s.portMode n.val p.val = 1 →
      s.sampleEdge n.val p.val = true →
      s.sampleReady n.val p.val = false →
      u = s.quiet.set1 (R.REGION_PORT_STAT_PIN_UNDERRUN n.val p.val) →
      b = u.rd (R.REGION_PORT_CFG_BANK n.val p.val) →
      u.is1 (R.REGION_PORT_CFG_UNDERRUN_POL n.val p.val) = true →
      exec (.pinUnderrun n p) s = .next (u.setPad b ⟨BitVec.ofNat 32 (u.rd (R.GPIO_SAFE_VALUE b)), BitVec.ofNat 32 (u.rd (R.GPIO_SAFE_OE_OE b))⟩)) ∧
    (∀ (n : Fin 64) (k : Fin 4) (s u : State),
      s.rstate n.val = .run ∧ (s.region n.val).clamping = none ∧ s.clockRuns n.val = true →
      s.bit (R.REGION_LINES_EVT_PENDING n.val) k.val = true →
      u = s.quiet.clrBit (R.REGION_LINES_EVT_PENDING n.val) k.val →
      exec (.eventDelivery n k) s = .next ((u.setRegion n.val { s.region n.val with evDue := (s.region n.val).evDue ||| 2 ^ k.val }).emit (.eventPulse n.val k.val))) ∧
    (∀ (n : Fin 64) (k : Fin 4) (s : State),
      s.rstate n.val ≠ .run ∨ s.bit (R.REGION_LINES_EVT_PENDING n.val) k.val = false →
      exec (.eventDelivery n k) s = .next s.quiet)

/-- Planes are erased and loaded (R88, R91, R93, R117). An accepted ERASE, in a domain that is on, of a plane that is neither in use nor kept, makes the
plane EMPTY and sets BUSY; ERASE_COMPLETE erases every frame and clears BUSY. A frame that is the next of the open PLANE_LOAD section of an image is
counted, authenticated and taken, and any other leaves the state as it is; a frame that is taken is written with generation 0, or, where the plane has
become ACTIVE, discarded and logged and the load failed with 0x0B, or, where the plane cannot be loaded, the load failed with 0x0C. That there is no
frame to write outside such a section is the model's choice (log entry 254). -/
def Obligations.PlanesErasedAndLoaded : Prop :=
    (∀ (ini : Ini) (n : Fin 64) (p : Fin 8) (s u v : State),
      u = (s.quiet.wr R.PLANE_CMD_REGION n.val).wr R.PLANE_CMD_PLANE p.val →
      u.is1 R.PLANE_CMD_BUSY = false ∧ u.plActive n.val p.val = false ∧ u.loadingPlane n.val p.val = false ∧ u.loadOpen n.val p.val = false →
      u.plState n.val p.val ≠ .dark →
      u.dstate (64 + n.val / 4) = .on →
      u.unusable n.val = false →
      v = (u.set1 R.PLANE_CMD_BUSY).setPlState n.val p.val .empty →
      v.shadowHas n.val p.val = false →
      (v.region n.val).spill = none →
      s.turnedAway R.PLANE_CMD_CMD.off = none →
      exec (.erase ini n p) s = .next (({ v with erasing := some (n.val, p.val) } : State).okWrite ini)) ∧
    (∀ (n p : Nat) (s : State),
      s.erasing = some (n, p) →
      s.heldLoads = [] →
      exec .eraseComplete s = .next { (((s.quiet.erasePlane n p).setPlTorn n p false).clr R.PLANE_CMD_BUSY) with erasing := none, heldLoads := [] }) ∧
    (∀ (n : Fin 64) (p : Fin 8) (f : Fin 3900) (data : BitVec 4096) (s u v : State) (sent : List Byte),
      s.frameDue n.val p.val f.val = true →
      sent = (List.range 512).zipWith (fun k b => b ^^^ s.img.mask (s.img.got + k)) (leBytes 512 data.toNat) →
      u = (s.quiet.countBytes 512).absorb sent →
      v = (u.setImg { u.img with left := s.img.left - 512 }).frameArrives data.toNat →
      exec (.planeLoadFrame n p f data) s = .next v.bodyMayEnd) ∧
    (∀ (n : Fin 64) (p : Fin 8) (f : Fin 3900) (data : BitVec 4096) (s : State),
      s.frameDue n.val p.val f.val = false →
      exec (.planeLoadFrame n p f data) s = .next s.quiet) ∧
    (∀ (n p f data : Nat) (s : State),
      s.plActive n p = false →
      s.planesShut n = false →
      s.erasing ≠ some (n, p) →
      s.plState n p = .dark →
      s.loadingPlane n p = true →
      s.takeFrame n p f data = s.writeFrame n p f data (if f < 3840 then 0 else 1)) ∧
    (∀ (n p f data : Nat) (s : State),
      s.plActive n p = true →
      s.takeFrame n p f data = (s.log .planeLoadActive [n, p]).imgFail 0x0B) ∧
    (∀ (n p f data : Nat) (s : State),
      s.plActive n p = false →
      s.planesShut n = true →
      s.takeFrame n p f data = s.imgFail 0x0C)

/-- Region commands are judged and taken (R95, R96, R99, R102, R109, R128). Each command that nothing bars or refuses: POWER_UP of a domain in OFF sets
REQ and begins to wake it; POWER_OFF of one that is ON clears REQ and begins to close it; a fill for an INVALID shadow is queued; SWAP and STOP arm
for the boundary that is not yet decided; CANCEL_FILL of a queued fill drops it; HOLD, RELEASE, ISOLATE, UNISOLATE and CLEAR join the region's
commands, and REGION_CMD_EFFECT, with the clock running, lets the oldest of them act, or refuses it with BAD_STATE where it is no longer allowed;
OWNER is written in OFF and IDLE. -/
def Obligations.RegionCommands : Prop :=
    (∀ (n : Fin 64) (src : CmdSrc) (s u : State),
      (src = .host → s.lbistBars (R.REGION_CTL_CMD n.val).off = false) →
      s.dstate n.val = .off →
      s.onRefusal n.val = none →
      u = s.quiet.set1 (R.PWR_DOM_CTL_REQ n.val) →
      u.dstate n.val = .off →
      exec (.powerUp n src) s = .next (u.setDstate n.val .waking)) ∧
    (∀ (n : Fin 64) (src : CmdSrc) (s : State),
      (src = .host → s.lbistBars (R.REGION_CTL_CMD n.val).off = false) →
      s.dstate n.val = .on →
      s.unusable n.val = false →
      s.offRefusal n.val = none →
      exec (.powerOff n src) s = .next ((s.quiet.clr (R.PWR_DOM_CTL_REQ n.val)).setDstate n.val .closing)) ∧
    (∀ (n : Fin 64) (src : CmdSrc) (p : Fin 8) (s : State),
      (src = .host → s.lbistBars (R.REGION_CTL_CMD n.val).off = false) →
      s.judge n.val ⟨.fill p.val false, src⟩ = none →
      s.clockRuns n.val = true →
      (s.region n.val).cmdq = [] →
      s.shadowHas n.val p.val = false →
      s.shState n.val = .invalid →
      (s.region n.val).clamping = none →
      exec (.fill n src p) s = .next ((s.quiet.dropRestore n.val).queueFill n.val p.val false false)) ∧
    (∀ (n : Fin 64) (src : CmdSrc) (p : Fin 8) (s : State),
      (src = .host → s.lbistBars (R.REGION_CTL_CMD n.val).off = false) →
      s.judge n.val ⟨.swap p.val, src⟩ = none →
      (s.region n.val).decided = false →
      exec (.swap n src p) s = .next (s.quiet.arm n.val (s.armTarget n.val) ⟨some p.val, src⟩)) ∧
    (∀ (n : Fin 64) (src : CmdSrc) (s : State),
      (src = .host → s.lbistBars (R.REGION_CTL_CMD n.val).off = false) →
      s.judge n.val ⟨.stop, src⟩ = none →
      (s.region n.val).decided = false →
      exec (.stop n src) s = .next (s.quiet.arm n.val (s.armTarget n.val) ⟨none, src⟩)) ∧
    (∀ (n : Fin 64) (src : CmdSrc) (s : State),
      (src = .host → s.lbistBars (R.REGION_CTL_CMD n.val).off = false) →
      s.judge n.val ⟨.hold, src⟩ = none →
      exec (.hold n src) s = .next (s.quiet.setRegion n.val { s.region n.val with cmdq := (s.region n.val).cmdq ++ [⟨.hold, src⟩] })) ∧
    (∀ (n : Fin 64) (src : CmdSrc) (s : State),
      (src = .host → s.lbistBars (R.REGION_CTL_CMD n.val).off = false) →
      s.judge n.val ⟨.release, src⟩ = none →
      exec (.release n src) s = .next (s.quiet.setRegion n.val { s.region n.val with cmdq := (s.region n.val).cmdq ++ [⟨.release, src⟩] })) ∧
    (∀ (n : Fin 64) (s : State),
      s.lbistBars (R.REGION_CTL_CMD n.val).off = false →
      s.judge n.val ⟨.isolate, .host⟩ = none →
      exec (.isolate n) s = .next (s.quiet.setRegion n.val { s.region n.val with cmdq := (s.region n.val).cmdq ++ [⟨.isolate, .host⟩] })) ∧
    (∀ (n : Fin 64) (s : State),
      s.lbistBars (R.REGION_CTL_CMD n.val).off = false →
      s.judge n.val ⟨.unisolate, .host⟩ = none →
      exec (.unisolate n) s = .next (s.quiet.setRegion n.val { s.region n.val with cmdq := (s.region n.val).cmdq ++ [⟨.unisolate, .host⟩] })) ∧
    (∀ (n : Fin 64) (s : State),
      s.lbistBars (R.REGION_CTL_CMD n.val).off = false →
      s.judge n.val ⟨.clear, .host⟩ = none →
      exec (.clear n) s = .next (s.quiet.setRegion n.val { s.region n.val with cmdq := (s.region n.val).cmdq ++ [⟨.clear, .host⟩] })) ∧
    (∀ (n : Fin 64) (src : CmdSrc) (s : State),
      (src = .host → s.lbistBars (R.REGION_CTL_CMD n.val).off = false) →
      s.judge n.val ⟨.cancelFill, src⟩ = none →
      s.clockRuns n.val = true →
      (s.region n.val).later = none →
      (s.region n.val).cmdq = [] →
      s.shState n.val = .queued →
      (s.region n.val).fallback = none →
      exec (.cancelFill n src) s = .next ((({ s.quiet with fillq := s.fillq.filter (· ≠ n.val) } : State).fillEnded n.val 6
        (s.rd (R.REGION_STATUS_SHADOW_PLANE n.val)) 0).invalidateShadow n.val)) ∧
    (∀ (n : Fin 64) (c : RCmd) (rest : List RCmd) (s u : State),
      (s.region n.val).cmdq = c :: rest →
      s.clockRuns n.val = true →
      u = s.quiet.setRegion n.val { s.region n.val with cmdq := rest } →
      c.kind.allowedIn (u.rstate n.val) = true →
      (∀ p pre, c.kind = .fill p pre → u.fillRefusal n.val p = none) →
      exec (.regionCmdEffect n) s = .next (u.actRegion n.val c 0)) ∧
    (∀ (n : Fin 64) (p : Nat) (pre : Bool) (src : CmdSrc) (rest : List RCmd) (s u : State),
      (s.region n.val).cmdq = ⟨.fill p pre, src⟩ :: rest →
      s.clockRuns n.val = true →
      u = s.quiet.setRegion n.val { s.region n.val with cmdq := rest } →
      u.fillRefusal n.val p ≠ none →
      exec (.regionCmdEffect n) s = .next (u.refuse n.val ⟨.fill p pre, src⟩ .badState false)) ∧
    (∀ (n : Fin 64) (c : RCmd) (rest : List RCmd) (s u : State),
      (s.region n.val).cmdq = c :: rest →
      s.clockRuns n.val = true →
      u = s.quiet.setRegion n.val { s.region n.val with cmdq := rest } →
      c.kind.allowedIn (u.rstate n.val) = false →
      exec (.regionCmdEffect n) s = .next (u.refuse n.val c .badState false)) ∧
    (∀ (ini : Ini) (n : Fin 64) (owner : Bool) (s : State),
      s.rd (R.REGION_CTL_OWNER n.val) ≠ owner.toNat →
      s.rstate n.val = .off ∨ s.rstate n.val = .idle →
      s.turnedAway (R.REGION_CTL_CMD n.val).off = none →
      exec (.ownerWrite ini n owner) s = .next ((s.quiet.wrb (R.REGION_CTL_OWNER n.val) owner).okWrite ini))

/-- Fills, squashes and the region command path (R100, R102, R141, R146). The oldest command on the path, a SWAP that its region does not refuse, arms the
swap; a squash of a speculative READY shadow, with nothing displaced by it, invalidates it; the first queued fill takes a free engine and its wait is
kept in MAX_WAIT; a fill in progress whose plane has no bad frame leaves the shadow READY with the plane's frames, and one with a bad frame ends with
result 3, an INVALID shadow and the plane DAMAGED. -/
def Obligations.FillsAndTheCommandPath : Prop :=
    (∀ (n : Nat) (p : Nat) (t : Fin 4) (bno : Nat) (rest : List PathCmd) (s u : State),
      s.rpath = .cmd n ⟨.swap p, .thread t⟩ bno :: rest →
      u = { s.quiet with rpath := rest } →
      u.judge n ⟨.swap p, .thread t⟩ = none →
      exec .seqCommandArrival s = .next (u.arm n bno ⟨some p, .thread t⟩)) ∧
    (∀ (n : Fin 64) (p : Fin 8) (t : Fin 4) (s : State),
      s.is1 (R.REGION_STATUS_SHADOW_SPEC n.val) = true →
      s.rd (R.REGION_STATUS_SHADOW_PLANE n.val) = p.val →
      s.shState n.val = .ready →
      (s.region n.val).restore = none ∧ (s.region n.val).later = none →
      exec (.squash n p t) s = .next (s.quiet.invalidateShadow n.val)) ∧
    (∀ (n : Nat) (rest : List Nat) (s u : State),
      s.fillq = n :: rest →
      s.fillsInFlight < s.fillLimit →
      u = ({ s.quiet with fillq := rest } : State).setShState n .filling →
      exec .fillGrant s = .next (u.wr R.FILL_STAT_MAX_WAIT (max (min (s.now - (s.region n).fillAt) 0xFFFF) (s.rd R.FILL_STAT_MAX_WAIT)))) ∧
    (∀ (n : Fin 64) (p f : Nat) (s u : State),
      s.shState n.val = .filling →
      s.is1 (R.REGION_STATUS_SPILLING n.val) = false →
      p = s.rd (R.REGION_STATUS_SHADOW_PLANE n.val) →
      s.wildFrames n.val p = false →
      s.firstBad n.val p = some f →
      s.singles n.val p = [] →
      u = ((s.quiet.fillEnded n.val 3 p 0).invalidateShadow n.val).damagePlane n.val p f →
      (u.region n.val).fallback = none →
      exec (.fillComplete n) s = .next u) ∧
    (∀ (n : Fin 64) (p : Nat) (s u : State) (r : Region),
      s.shState n.val = .filling →
      s.is1 (R.REGION_STATUS_SPILLING n.val) = false →
      p = s.rd (R.REGION_STATUS_SHADOW_PLANE n.val) →
      s.wildFrames n.val p = false →
      s.firstBad n.val p = none →
      s.singles n.val p = [] →
      s.twin.latest = [] →
      r = s.region n.val →
      r.sel = false →
      u = { s.quiet with latches := storeReplace (latchKey n.val true 0) (latchKey n.val true 3900) (s.fillCopy n.val p true) s.latches } →
      exec (.fillComplete n) s = .next (((u.fillEnded n.val 1 p 0).wr (R.REGION_FILL_TIME n.val) (min (s.now - r.fillAt) 0xFFFF)).setShState n.val .ready))

/-- Decision points, clamp cycles and swap edges (R103, R104, R106, R115, R119, R127, R130). At its decision point, with a boundary due, a region that
does not overrun is decided; a clamp cycle of an armed swap that may go on engages both clamps, and of one that is refused drops and refuses it; the
edge performs the swap, or refuses one whose region is no longer in a state that allows it; a spill that ends writes 60 state frames and clears
SPILLING; an armed swap that waits for no boundary is made at once; a refetched frame is written into the active latches; a fallback swap is made when
its plane is READY and nothing holds the region. -/
def Obligations.SwapsAtBoundaries : Prop :=
    (∀ (n : Fin 64) (s : State),
      s.boundaryDue = true →
      (s.region n.val).decided = false →
      s.twin.take = none →
      s.overruns n.val = false →
      exec (.decisionPoint n) s = .next (s.quiet.setRegion n.val { s.region n.val with decided := true })) ∧
    (∀ (n : Fin 64) (b p : Nat) (src : CmdSrc) (s u : State),
      s.clockRuns n.val = true →
      (s.region n.val).clamping = none →
      s.dueArm n.val = some (b, ⟨some p, src⟩) →
      s.clampVerdict n.val ⟨some p, src⟩ = .goes →
      u = s.quiet.unarm n.val b →
      exec (.clampCycle n) s = .next (u.setRegion n.val { u.region n.val with clamping := some ⟨some p, false, src⟩, clampIn := true, clampOut := true })) ∧
    (∀ (n : Fin 64) (job : SwapJob) (s : State),
      (s.region n.val).clamping = some job →
      s.clockRuns n.val = true →
      s.edgeAllowed n.val job = true →
      exec (.swapEdge n) s = .next (s.quiet.swapEdge n.val job).finishStop) ∧
    (∀ (n : Fin 64) (job : SwapJob) (s : State),
      (s.region n.val).clamping = some job →
      s.clockRuns n.val = true →
      s.edgeAllowed n.val job = false →
      exec (.swapEdge n) s = .next (s.quiet.refuseClamp n.val job .badState).finishStop) ∧
    (∀ (n : Fin 64) (b : Nat) (a : Arm) (e : Refuse) (s : State),
      s.clockRuns n.val = true →
      (s.region n.val).clamping = none →
      s.dueArm n.val = some (b, a) →
      s.clampVerdict n.val a = .refused e →
      exec (.clampCycle n) s = .next ((s.quiet.unarm n.val b).refuseArmed n.val a e).finishStop) ∧
    (∀ (n : Fin 64) (p gen : Nat) (s u : State),
      (s.region n.val).spill = some (p, gen) →
      u = (s.quiet.spillFrames n.val p gen 60).setPlTorn n.val p false →
      exec (.spillComplete n) s = .next ((u.setRegion n.val { u.region n.val with spill := none }).clr (R.REGION_STATUS_SPILLING n.val))) ∧
    (∀ (n : Fin 64) (a : Arm) (s : State),
      s.clockRuns n.val = true →
      (s.region n.val).clamping = none →
      (s.region n.val).arms.find? (fun e => e.1 == 0) = some (0, a) →
      s.clampVerdict n.val a = .goes →
      exec (.armedSwapNoBoundary n) s = .next (((s.quiet.unarm n.val 0).beginClamp n.val ⟨a.plane, false, a.src⟩).swapEdge n.val ⟨a.plane, false, a.src⟩)) ∧
    (∀ (n : Fin 64) (f q data : Nat) (rest : List (Nat × Nat × Option Nat)) (s u v : State),
      (s.region n.val).refetch = (f, q, some data) :: rest →
      s.rstate n.val = .run →
      (s.region n.val).clamping = none →
      s.clockRuns n.val = true →
      u = (s.quiet.setRegion n.val { s.region n.val with refetch := rest }).setHold n.val .refetch →
      v = { u with latches := storeSet Frame.erased (latchKey n.val (s.region n.val).sel f) ⟨data, 0, []⟩ u.latches } →
      exec (.refetch n) s = .next ((v.setRegion n.val { v.region n.val with badActive := (v.region n.val).badActive.filter (· ≠ f) }).clrHold n.val .refetch)) ∧
    (∀ (n : Fin 64) (p : Nat) (s : State),
      (s.region n.val).fallback = some p →
      s.shState n.val = .ready →
      s.holds n.val .debug = false ∧ s.holds n.val .refetch = false ∧ s.clockRuns n.val = true ∧ (s.region n.val).clamping = none →
      s.swapRefusal n.val (some p) true = none →
      exec (.fallbackSwap n) s = .next ((s.quiet.beginClamp n.val ⟨some p, true, .host⟩).swapEdge n.val ⟨some p, true, .host⟩))

/-- The tick generator (R123, R124, R125, R126, R131). APPLY with a valid layout is kept for a tick boundary and shows APPLY_PENDING, and one with an
invalid layout sets CFG_ERR; EN written 1 at a stopped generator places the first boundary 16 cycles later; SRC changes to another listed source while
RUNNING is 0; an edge of TICK_IN that comes 10 cycles or more after the tick's start and no later than 16 after its end places a boundary 8 cycles
later, but not within 10 of the slot's start, with SHORT where that is more than 16 cycles early; without an edge by 16 cycles after the tick's end
IN_LOST is set and the boundary placed there; a slot boundary falls at the slot's start, and a tick boundary when its time has come and no slot
boundary is left, once every region is ready, and at an earlier time none falls. -/
def Obligations.TickGenerator : Prop :=
    (∀ (ini : Ini) (s : State),
      s.layoutOk = true →
      s.turnedAway R.TICK_CTL_EN.off = none →
      exec (.tickApply ini) s = .next ((({ s.quiet with tickGen := { s.tickGen with queued := some (s.rd R.TICK_LAYOUT_NEXT_NSLOT_M1,
        s.rd R.TICK_LAYOUT_NEXT_PERIOD, (List.range 16).map s.nextStart) } } : State).set1 R.TICK_CTL_APPLY_PENDING).okWrite ini)) ∧
    (∀ (ini : Ini) (s : State),
      s.layoutOk = false →
      s.turnedAway R.TICK_CTL_EN.off = none →
      exec (.tickApply ini) s = .next ((s.quiet.set1 R.TICK_CTL_CFG_ERR).okWrite ini)) ∧
    (∀ (ini : Ini) (s : State),
      s.is1 R.TICK_CTL_EN = false →
      s.is1 R.TICK_CTL_RUNNING = false →
      s.tickGen.first = false →
      s.tickGen.ended = false →
      s.turnedAway R.TICK_CTL_EN.off = none →
      exec (.tickEnWrite ini true) s = .next ((({ s.quiet.set1 R.TICK_CTL_EN with
        tickGen := { s.tickGen with first := true, stopping := false, placed := some (s.now + 16) } } : State)).okWrite ini)) ∧
    (∀ (ini : Ini) (s v : State),
      s.is1 R.TICK_CTL_EN = false →
      s.tickGen.ended = true →
      v = (s.quiet.set1 R.TICK_CTL_EN).generatorStops →
      v.is1 R.TICK_CTL_RUNNING = false →
      v.tickGen.first = false →
      s.turnedAway R.TICK_CTL_EN.off = none →
      exec (.tickEnWrite ini true) s = .next (({ v with tickGen := { v.tickGen with first := true, stopping := false, placed := some (v.now + 16) } } : State).okWrite ini)) ∧
    (∀ (ini : Ini) (src : BitVec 2) (s : State),
      src.toNat ≠ 3 →
      src.toNat ≠ s.rd R.TICK_CTL_SRC →
      s.is1 R.TICK_CTL_RUNNING = false →
      s.turnedAway R.TICK_CTL_EN.off = none →
      exec (.tickSrcWrite ini src) s = .next ((s.quiet.wr R.TICK_CTL_SRC src.toNat).okWrite ini)) ∧
    (∀ (c : Nat) (s : State),
      s.boundaryDue = true →
      s.tickDue = some c →
      c ≤ s.now →
      s.slotDue = none →
      s.boundaryReady = true →
      exec .tickBoundary s = .next s.quiet.wholeTick) ∧
    (∀ (s : State),
      (∀ c, s.tickDue = some c → s.now < c) →
      exec .tickBoundary s = .next s.quiet) ∧
    (∀ (c : Nat) (s : State),
      s.slotDue = some c →
      c ≤ s.now →
      s.boundaryReady = true →
      exec .slotBoundary s = .next (s.quiet.snoopBoundary false).slotBoundary) ∧
    (∀ (c : Nat) (s : State),
      s.slotDue = some c →
      s.now < c →
      exec .slotBoundary s = .next s.quiet) ∧
    (∀ (s : State),
      s.rd R.TICK_CTL_SRC ≠ 1 →
      s.tickGen.placed = none →
      s.tickDue = some (s.tickGen.tickStart + s.rd R.TICK_LAYOUT_PERIOD)) ∧
    (∀ (s : State),
      s.is1 R.TICK_CTL_RUNNING = true →
      s.tickGen.first = false ∧ s.tickGen.ended = false ∧ s.tickGen.placed = none →
      s.rd R.TICK_STAT_SLOT < s.rd R.TICK_LAYOUT_NSLOT_M1 →
      s.slotDue = some (s.tickGen.tickStart + s.rd (R.SLOT_START_START (s.rd R.TICK_STAT_SLOT + 1)))) ∧
    (∀ (s u : State),
      s.rd R.TICK_CTL_SRC = 1 ∧ s.is1 R.TICK_CTL_RUNNING = true ∧ s.tickGen.ended = false →
      ¬ (s.now + 8 < s.tickGen.tickStart + 10) →
      s.now + 8 ≤ s.tickGen.tickStart + s.rd R.TICK_LAYOUT_PERIOD + 16 →
      s.tickGen.placed = none →
      (u = if s.now + 8 + 16 < s.tickGen.tickStart + s.rd R.TICK_LAYOUT_PERIOD then s.quiet.set1 R.TICK_CTL_SHORT else s.quiet) →
      exec .tickInEdge s = .next { u with tickGen := { s.tickGen with placed := some (max (s.now + 8) (s.tickGen.slotStart + 10)), lost := false } }) ∧
    (∀ (c : Nat) (s : State),
      s.rd R.TICK_CTL_SRC = 1 ∧ s.is1 R.TICK_CTL_RUNNING = true ∧ s.tickGen.ended = false →
      s.tickGen.placed = none →
      s.tickGen.lost = false →
      c = s.tickGen.tickStart + s.rd R.TICK_LAYOUT_PERIOD + 16 →
      c ≤ s.now →
      exec .tickInLost s = .next (({ s.quiet with tickGen := { s.tickGen with placed := some c, lost := true } } : State).set1 R.TICK_CTL_IN_LOST)) ∧
    (∀ (ini : Ini) (n : Fin 64) (s u : State),
      u = s.quiet.clrBit (R.REGION_STATUS_HOLD_SRC n.val) 2 →
      u.rstate n.val = .held →
      u.rd (R.REGION_STATUS_HOLD_SRC n.val) = 0 →
      s.turnedAway (R.REGION_OVR_OVR_CLR n.val).off = none →
      exec (.ovrClr ini n) s = .next ((u.enter n.val .run).okWrite ini))

/-- Commands of sequencer threads and the watchdog (R136, R139, R142, R153, R154). START takes a thread in OFF to RUN at START_PC with CAUSE 0, and loads
its watchdog where EN is 1; STOP takes a thread in RUN, WAIT or HALTED that is at a commit point OFF, and RESTART takes it back to START_PC; at a
thread in RUN that is not at a commit point the request waits; CLR_FAULT takes a FAULTED thread OFF; each of these four, written in another state,
sets CMD_ERR; LOCK_ABORT_TIMEOUT of a locked sequence with a request waiting aborts the sequence and acts on the request; WATCHDOG_EXPIRY of a
watchdog that has reached 0 sets EXPIRED, is logged and pulses; ACTION 0 reloads the watchdog, ACTION 2 reloads it and restarts the thread, and ACTION
1 or 3 faults it, at once where the thread is at a commit point; a HALTED thread keeps the action for its release; a write that sets EN loads the
watchdog; a write of IMEM_HI stores the word of both halves. -/
def Obligations.ThreadCommands : Prop :=
    (∀ (ini : Ini) (t : Fin 4) (s u : State),
      s.tstate t.val = .off →
      u = ((s.quiet.clr (R.SEQ_THR_STATUS_CAUSE t.val)).setTpc t.val (s.rd (R.SEQ_THR_START_START_PC t.val))).setTstate t.val .run →
      s.turnedAway (R.SEQ_THR_CTL_START t.val).off = none →
      exec (.start ini t) s = .next ((if u.is1 (R.SEQ_WDT_EN t.val) then u.wdtLoad t.val else u).okWrite ini)) ∧
    (∀ (ini : Ini) (t : Fin 4) (s : State),
      s.tstate t.val ≠ .off →
      s.turnedAway (R.SEQ_THR_CTL_START t.val).off = none →
      exec (.start ini t) s = .next ((s.quiet.set1 (R.SEQ_THR_CTL_CMD_ERR t.val)).okWrite ini)) ∧
    (∀ (ini : Ini) (t : Fin 4) (s : State),
      s.tstate t.val = .run ∨ s.tstate t.val = .wait ∨ s.tstate t.val = .halted →
      s.atCommitPoint t.val = true →
      s.turnedAway (R.SEQ_THR_CTL_START t.val).off = none →
      exec (.threadStop ini t) s = .next ((s.quiet.threadOff t.val).okWrite ini)) ∧
    (∀ (ini : Ini) (t : Fin 4) (s : State),
      s.tstate t.val = .run →
      s.atCommitPoint t.val = false →
      s.turnedAway (R.SEQ_THR_CTL_START t.val).off = none →
      exec (.threadStop ini t) s = .next ((s.quiet.setThread t.val { s.thread t.val with stopReq := true }).okWrite ini)) ∧
    (∀ (ini : Ini) (t : Fin 4) (s : State),
      s.tstate t.val = .off ∨ s.tstate t.val = .faulted →
      s.turnedAway (R.SEQ_THR_CTL_START t.val).off = none →
      exec (.threadStop ini t) s = .next ((s.quiet.set1 (R.SEQ_THR_CTL_CMD_ERR t.val)).okWrite ini)) ∧
    (∀ (ini : Ini) (t : Fin 4) (s : State),
      s.tstate t.val = .run ∨ s.tstate t.val = .wait ∨ s.tstate t.val = .halted →
      s.atCommitPoint t.val = true →
      s.turnedAway (R.SEQ_THR_CTL_START t.val).off = none →
      exec (.restart ini t) s = .next ((s.quiet.threadRestart t.val).okWrite ini)) ∧
    (∀ (ini : Ini) (t : Fin 4) (s : State),
      s.tstate t.val = .run →
      s.atCommitPoint t.val = false →
      s.turnedAway (R.SEQ_THR_CTL_START t.val).off = none →
      exec (.restart ini t) s = .next ((s.quiet.setThread t.val { s.thread t.val with rstReq := true }).okWrite ini)) ∧
    (∀ (ini : Ini) (t : Fin 4) (s : State),
      s.tstate t.val = .off ∨ s.tstate t.val = .faulted →
      s.turnedAway (R.SEQ_THR_CTL_START t.val).off = none →
      exec (.restart ini t) s = .next ((s.quiet.set1 (R.SEQ_THR_CTL_CMD_ERR t.val)).okWrite ini)) ∧
    (∀ (ini : Ini) (t : Fin 4) (s : State),
      s.tstate t.val ≠ .faulted →
      s.turnedAway (R.SEQ_THR_CTL_START t.val).off = none →
      exec (.clrFault ini t) s = .next ((s.quiet.set1 (R.SEQ_THR_CTL_CMD_ERR t.val)).okWrite ini)) ∧
    (∀ (ini : Ini) (t : Fin 4) (s : State),
      s.tstate t.val = .faulted →
      s.turnedAway (R.SEQ_THR_CTL_START t.val).off = none →
      exec (.clrFault ini t) s = .next ((s.quiet.threadOff t.val).okWrite ini)) ∧
    (∀ (t : Fin 4) (s : State),
      s.locked t.val = true →
      (s.thread t.val).stopReq = true ∨ (s.thread t.val).haltReq.isSome = true ∨ (s.thread t.val).rstReq = true →
      exec (.lockAbortTimeout t) s = .next (((s.quiet.squashAll t.val).abortLock t.val).commitPoint t.val)) ∧
    (∀ (t : Fin 4) (s u : State),
      (s.thread t.val).wdtDue = true →
      s.rd (R.SEQ_WDT_ACTION t.val) = 0 →
      u = ((s.quiet.setThread t.val { s.thread t.val with wdtDue := false }).set1 (R.SEQ_WDT_EXPIRED t.val)).logP (if s.rd (R.SEQ_WDT_ACTION t.val) = 3 then 2 else 1) .watchdogExpired [t.val, s.tpc t.val] →
      exec (.watchdogExpiry t) s = .next ((u.wdtLoad t.val).pulses fun c => (u.wdtLoad t.val).bit (R.DBG_XT_SRC_WDT c) t.val)) ∧
    (∀ (t : Fin 4) (s u : State),
      (s.thread t.val).wdtDue = true →
      s.rd (R.SEQ_WDT_ACTION t.val) = 1 ∨ s.rd (R.SEQ_WDT_ACTION t.val) = 3 →
      s.tstate t.val ≠ .halted →
      u = ((s.quiet.setThread t.val { s.thread t.val with wdtDue := false }).set1 (R.SEQ_WDT_EXPIRED t.val)).logP (if s.rd (R.SEQ_WDT_ACTION t.val) = 3 then 2 else 1) .watchdogExpired [t.val, s.tpc t.val] →
      exec (.watchdogExpiry t) s = .next ((u.request136 t.val (.halt .watchdog)).pulses fun c => (u.request136 t.val (.halt .watchdog)).bit (R.DBG_XT_SRC_WDT c) t.val)) ∧
    (∀ (t : Fin 4) (s u : State),
      (s.thread t.val).wdtDue = true →
      s.rd (R.SEQ_WDT_ACTION t.val) = 2 →
      s.tstate t.val ≠ .halted →
      u = ((s.quiet.setThread t.val { s.thread t.val with wdtDue := false }).set1 (R.SEQ_WDT_EXPIRED t.val)).logP (if s.rd (R.SEQ_WDT_ACTION t.val) = 3 then 2 else 1) .watchdogExpired [t.val, s.tpc t.val] →
      exec (.watchdogExpiry t) s = .next (((u.wdtLoad t.val).request136 t.val .restart).pulses fun c => ((u.wdtLoad t.val).request136 t.val .restart).bit (R.DBG_XT_SRC_WDT c) t.val)) ∧
    (∀ (t : Fin 4) (s u : State),
      (s.thread t.val).wdtDue = true →
      s.rd (R.SEQ_WDT_ACTION t.val) ≠ 0 →
      s.tstate t.val = .halted →
      u = ((s.quiet.setThread t.val { s.thread t.val with wdtDue := false }).set1 (R.SEQ_WDT_EXPIRED t.val)).logP (if s.rd (R.SEQ_WDT_ACTION t.val) = 3 then 2 else 1) .watchdogExpired [t.val, s.tpc t.val] →
      exec (.watchdogExpiry t) s = .next (((u.setThread t.val { u.thread t.val with deferAct := s.rd (R.SEQ_WDT_ACTION t.val) }).set1 (R.DBG_THR_CTL_DEFERRED t.val)).pulses fun c => ((u.setThread t.val { u.thread t.val with deferAct := s.rd (R.SEQ_WDT_ACTION t.val) }).set1 (R.DBG_THR_CTL_DEFERRED t.val)).bit (R.DBG_XT_SRC_WDT c) t.val)) ∧
    (∀ (t : Fin 4) (s : State),
      (s.thread t.val).wdtDue = false →
      exec (.watchdogExpiry t) s = .next s.quiet) ∧
    (∀ (t : Nat) (cause : Cause) (s : State),
      s.atCommitPoint t = true →
      s.request136 t (.halt cause) = s.threadFault t cause (s.tpc t) ∧ s.request136 t .restart = s.threadRestart t) ∧
    (∀ (t : Fin 4) (s : State),
      s.locked t.val = false →
      exec (.lockAbortTimeout t) s = .next s.quiet) ∧
    (∀ (ini : Ini) (t : Fin 4) (v : BitVec 32) (s u : State),
      s.is1 (R.SEQ_WDT_EN t.val) = false →
      u = s.quiet.storeReg (.SEQ_WDT t.val) v →
      u.is1 (R.SEQ_WDT_EN t.val) = true →
      s.turnedAway (R.SEQ_WDT_EN t.val).off = none →
      exec (.wdtEnWrite ini t v) s = .next ((u.wr (R.SEQ_WDT_CNT_REMAIN t.val) (u.rd (R.SEQ_WDT_TICKS t.val) * u.rd R.TICK_LAYOUT_PERIOD)).okWrite ini)) ∧
    (∀ (ini : Ini) (w : Fin 32768) (hi : BitVec 32) (s : State),
      s.turnedAway (R.IMEM_HI_WORD w.val).off = none →
      exec (.imemWrite ini w hi) s = .next (((s.quiet.dropLo (imemOff w.val) ini).imemWrite w.val
        (s.pairLo (imemOff w.val) ini (s.rd (R.IMEM_LO_WORD w.val)) + 2 ^ 32 * hi.toNat)).okWrite ini))

/-- Scalar operations, register and immediate form (R166). Opcode 0x10 (register form) and opcode 0x11 (immediate form) write x op y to RD by FN as R166
gives it, x being RA and y RB or the sign-extended IMM, with the OR of the tags, and commit; the reserved fields of each form are as R166 says. -/
def Obligations.ScalarFormsCompute : Prop :=
    (∀ (i : Insn) (fn : Nat),
      i.reservedOk (.alu false fn) = true ↔ i.rc = 0 ∧ i.imm = 0) ∧
    (∀ (i : Insn) (fn : Nat),
      i.reservedOk (.alu true fn) = true ↔ i.rb = 0 ∧ i.rc = 0 ∧ (fn = 5 ∨ fn = 6 ∨ fn = 7 → i.imm < 64)) ∧
    (∀ (t : Fin 4) (i : Insn) (s : State),
      s.standsAt t.val i (.alu false 0) = true →
      exec (.add t) s = .next ((s.quiet.setReg t.val i.rd (s.reg t.val i.ra + s.reg t.val i.rb) (s.tag t.val i.ra || s.tag t.val i.rb)).commit t.val)) ∧
    (∀ (t : Fin 4) (i : Insn) (s : State),
      s.standsAt t.val i (.alu false 1) = true →
      exec (.sub t) s = .next ((s.quiet.setReg t.val i.rd (s.reg t.val i.ra - s.reg t.val i.rb) (s.tag t.val i.ra || s.tag t.val i.rb)).commit t.val)) ∧
    (∀ (t : Fin 4) (i : Insn) (s : State),
      s.standsAt t.val i (.alu false 2) = true →
      exec (.and t) s = .next ((s.quiet.setReg t.val i.rd (s.reg t.val i.ra &&& s.reg t.val i.rb) (s.tag t.val i.ra || s.tag t.val i.rb)).commit t.val)) ∧
    (∀ (t : Fin 4) (i : Insn) (s : State),
      s.standsAt t.val i (.alu false 3) = true →
      exec (.or t) s = .next ((s.quiet.setReg t.val i.rd (s.reg t.val i.ra ||| s.reg t.val i.rb) (s.tag t.val i.ra || s.tag t.val i.rb)).commit t.val)) ∧
    (∀ (t : Fin 4) (i : Insn) (s : State),
      s.standsAt t.val i (.alu false 4) = true →
      exec (.xor t) s = .next ((s.quiet.setReg t.val i.rd (s.reg t.val i.ra ^^^ s.reg t.val i.rb) (s.tag t.val i.ra || s.tag t.val i.rb)).commit t.val)) ∧
    (∀ (t : Fin 4) (i : Insn) (s : State),
      s.standsAt t.val i (.alu false 5) = true →
      exec (.sll t) s = .next ((s.quiet.setReg t.val i.rd (s.reg t.val i.ra <<< ((s.reg t.val i.rb).toNat % 64)) (s.tag t.val i.ra || s.tag t.val i.rb)).commit t.val)) ∧
    (∀ (t : Fin 4) (i : Insn) (s : State),
      s.standsAt t.val i (.alu false 6) = true →
      exec (.srl t) s = .next ((s.quiet.setReg t.val i.rd (s.reg t.val i.ra >>> ((s.reg t.val i.rb).toNat % 64)) (s.tag t.val i.ra || s.tag t.val i.rb)).commit t.val)) ∧
    (∀ (t : Fin 4) (i : Insn) (s : State),
      s.standsAt t.val i (.alu false 7) = true →
      exec (.sra t) s = .next ((s.quiet.setReg t.val i.rd ((s.reg t.val i.ra).sshiftRight ((s.reg t.val i.rb).toNat % 64)) (s.tag t.val i.ra || s.tag t.val i.rb)).commit t.val)) ∧
    (∀ (t : Fin 4) (i : Insn) (s : State),
      s.standsAt t.val i (.alu false 8) = true →
      exec (.mul t) s = .next ((s.quiet.setReg t.val i.rd (s.reg t.val i.ra * s.reg t.val i.rb) (s.tag t.val i.ra || s.tag t.val i.rb)).commit t.val)) ∧
    (∀ (t : Fin 4) (i : Insn) (s : State),
      s.standsAt t.val i (.alu false 9) = true →
      exec (.slt t) s = .next ((s.quiet.setReg t.val i.rd (if (s.reg t.val i.ra).slt (s.reg t.val i.rb) then 1 else 0) (s.tag t.val i.ra || s.tag t.val i.rb)).commit t.val)) ∧
    (∀ (t : Fin 4) (i : Insn) (s : State),
      s.standsAt t.val i (.alu false 10) = true →
      exec (.sltu t) s = .next ((s.quiet.setReg t.val i.rd (if (s.reg t.val i.ra).ult (s.reg t.val i.rb) then 1 else 0) (s.tag t.val i.ra || s.tag t.val i.rb)).commit t.val)) ∧
    (∀ (t : Fin 4) (i : Insn) (s : State),
      s.standsAt t.val i (.alu false 11) = true →
      exec (.seq t) s = .next ((s.quiet.setReg t.val i.rd (if s.reg t.val i.ra = s.reg t.val i.rb then 1 else 0) (s.tag t.val i.ra || s.tag t.val i.rb)).commit t.val)) ∧
    (∀ (t : Fin 4) (i : Insn) (s : State),
      s.standsAt t.val i (.alu false 12) = true →
      exec (.min t) s = .next ((s.quiet.setReg t.val i.rd (if (s.reg t.val i.ra).slt (s.reg t.val i.rb) then s.reg t.val i.ra else s.reg t.val i.rb) (s.tag t.val i.ra || s.tag t.val i.rb)).commit t.val)) ∧
    (∀ (t : Fin 4) (i : Insn) (s : State),
      s.standsAt t.val i (.alu false 13) = true →
      exec (.max t) s = .next ((s.quiet.setReg t.val i.rd (if (s.reg t.val i.ra).slt (s.reg t.val i.rb) then s.reg t.val i.rb else s.reg t.val i.ra) (s.tag t.val i.ra || s.tag t.val i.rb)).commit t.val)) ∧
    (∀ (t : Fin 4) (i : Insn) (s : State),
      s.standsAt t.val i (.alu false 14) = true →
      exec (.minu t) s = .next ((s.quiet.setReg t.val i.rd (if (s.reg t.val i.ra).ult (s.reg t.val i.rb) then s.reg t.val i.ra else s.reg t.val i.rb) (s.tag t.val i.ra || s.tag t.val i.rb)).commit t.val)) ∧
    (∀ (t : Fin 4) (i : Insn) (s : State),
      s.standsAt t.val i (.alu false 15) = true →
      exec (.maxu t) s = .next ((s.quiet.setReg t.val i.rd (if (s.reg t.val i.ra).ult (s.reg t.val i.rb) then s.reg t.val i.rb else s.reg t.val i.ra) (s.tag t.val i.ra || s.tag t.val i.rb)).commit t.val)) ∧
    (∀ (t : Fin 4) (i : Insn) (s : State),
      s.standsAt t.val i (.alu true 0) = true →
      exec (.addi t) s = .next ((s.quiet.setReg t.val i.rd (s.reg t.val i.ra + i.simm) (s.tag t.val i.ra)).commit t.val)) ∧
    (∀ (t : Fin 4) (i : Insn) (s : State),
      s.standsAt t.val i (.alu true 1) = true →
      exec (.subi t) s = .next ((s.quiet.setReg t.val i.rd (s.reg t.val i.ra - i.simm) (s.tag t.val i.ra)).commit t.val)) ∧
    (∀ (t : Fin 4) (i : Insn) (s : State),
      s.standsAt t.val i (.alu true 2) = true →
      exec (.andi t) s = .next ((s.quiet.setReg t.val i.rd (s.reg t.val i.ra &&& i.simm) (s.tag t.val i.ra)).commit t.val)) ∧
    (∀ (t : Fin 4) (i : Insn) (s : State),
      s.standsAt t.val i (.alu true 3) = true →
      exec (.ori t) s = .next ((s.quiet.setReg t.val i.rd (s.reg t.val i.ra ||| i.simm) (s.tag t.val i.ra)).commit t.val)) ∧
    (∀ (t : Fin 4) (i : Insn) (s : State),
      s.standsAt t.val i (.alu true 4) = true →
      exec (.xori t) s = .next ((s.quiet.setReg t.val i.rd (s.reg t.val i.ra ^^^ i.simm) (s.tag t.val i.ra)).commit t.val)) ∧
    (∀ (t : Fin 4) (i : Insn) (s : State),
      s.standsAt t.val i (.alu true 5) = true →
      exec (.slli t) s = .next ((s.quiet.setReg t.val i.rd (s.reg t.val i.ra <<< (i.simm.toNat % 64)) (s.tag t.val i.ra)).commit t.val)) ∧
    (∀ (t : Fin 4) (i : Insn) (s : State),
      s.standsAt t.val i (.alu true 6) = true →
      exec (.srli t) s = .next ((s.quiet.setReg t.val i.rd (s.reg t.val i.ra >>> (i.simm.toNat % 64)) (s.tag t.val i.ra)).commit t.val)) ∧
    (∀ (t : Fin 4) (i : Insn) (s : State),
      s.standsAt t.val i (.alu true 7) = true →
      exec (.srai t) s = .next ((s.quiet.setReg t.val i.rd ((s.reg t.val i.ra).sshiftRight (i.simm.toNat % 64)) (s.tag t.val i.ra)).commit t.val)) ∧
    (∀ (t : Fin 4) (i : Insn) (s : State),
      s.standsAt t.val i (.alu true 8) = true →
      exec (.muli t) s = .next ((s.quiet.setReg t.val i.rd (s.reg t.val i.ra * i.simm) (s.tag t.val i.ra)).commit t.val)) ∧
    (∀ (t : Fin 4) (i : Insn) (s : State),
      s.standsAt t.val i (.alu true 9) = true →
      exec (.slti t) s = .next ((s.quiet.setReg t.val i.rd (if (s.reg t.val i.ra).slt i.simm then 1 else 0) (s.tag t.val i.ra)).commit t.val)) ∧
    (∀ (t : Fin 4) (i : Insn) (s : State),
      s.standsAt t.val i (.alu true 10) = true →
      exec (.sltui t) s = .next ((s.quiet.setReg t.val i.rd (if (s.reg t.val i.ra).ult i.simm then 1 else 0) (s.tag t.val i.ra)).commit t.val)) ∧
    (∀ (t : Fin 4) (i : Insn) (s : State),
      s.standsAt t.val i (.alu true 11) = true →
      exec (.seqi t) s = .next ((s.quiet.setReg t.val i.rd (if s.reg t.val i.ra = i.simm then 1 else 0) (s.tag t.val i.ra)).commit t.val)) ∧
    (∀ (t : Fin 4) (i : Insn) (s : State),
      s.standsAt t.val i (.alu true 12) = true →
      exec (.mini t) s = .next ((s.quiet.setReg t.val i.rd (if (s.reg t.val i.ra).slt i.simm then s.reg t.val i.ra else i.simm) (s.tag t.val i.ra)).commit t.val)) ∧
    (∀ (t : Fin 4) (i : Insn) (s : State),
      s.standsAt t.val i (.alu true 13) = true →
      exec (.maxi t) s = .next ((s.quiet.setReg t.val i.rd (if (s.reg t.val i.ra).slt i.simm then i.simm else s.reg t.val i.ra) (s.tag t.val i.ra)).commit t.val)) ∧
    (∀ (t : Fin 4) (i : Insn) (s : State),
      s.standsAt t.val i (.alu true 14) = true →
      exec (.minui t) s = .next ((s.quiet.setReg t.val i.rd (if (s.reg t.val i.ra).ult i.simm then s.reg t.val i.ra else i.simm) (s.tag t.val i.ra)).commit t.val)) ∧
    (∀ (t : Fin 4) (i : Insn) (s : State),
      s.standsAt t.val i (.alu true 15) = true →
      exec (.maxui t) s = .next ((s.quiet.setReg t.val i.rd (if (s.reg t.val i.ra).ult i.simm then i.simm else s.reg t.val i.ra) (s.tag t.val i.ra)).commit t.val))

/-- Constants, counts, branches and jumps (R144, R167, R168, R169). NOP changes nothing but the place of the thread; LI and LIH load constants; POPC, CLZ
and CTZ count bits; a branch resolves, if it has not, on its operands and on the flag line as it was at its issue, and commits where its operands are
untagged: it goes to its target or to PC + 1 as it resolved; JAL and JALR save PC + 1; a branch that resolves ahead is recorded, and one that went the
other way than predicted is counted and squashes what followed it. -/
def Obligations.ConstantsCountsAndFlow : Prop :=
    (∀ (t : Fin 4) (i : Insn) (s : State),
      s.standsAt t.val i .nop = true →
      exec (.nop t) s = .next (s.quiet.commit t.val)) ∧
    (∀ (t : Fin 4) (i : Insn) (s : State),
      s.standsAt t.val i .li = true →
      exec (.li t) s = .next ((s.quiet.setReg t.val i.rd i.simm false).commit t.val)) ∧
    (∀ (t : Fin 4) (i : Insn) (s : State),
      s.standsAt t.val i .lih = true →
      exec (.lih t) s = .next ((s.quiet.setReg t.val i.rd (BitVec.ofNat 64 (i.imm * 2 ^ 32 + (s.reg t.val i.ra).toNat % 2 ^ 32)) (s.tag t.val i.ra)).commit t.val)) ∧
    (∀ (t : Fin 4) (i : Insn) (s : State),
      s.standsAt t.val i (.unary 0) = true →
      exec (.popc t) s = .next ((s.quiet.setReg t.val i.rd (BitVec.ofNat 64 (popc (s.reg t.val i.ra))) (s.tag t.val i.ra)).commit t.val)) ∧
    (∀ (t : Fin 4) (i : Insn) (s : State),
      s.standsAt t.val i (.unary 1) = true →
      exec (.clz t) s = .next ((s.quiet.setReg t.val i.rd (BitVec.ofNat 64 (clz (s.reg t.val i.ra))) (s.tag t.val i.ra)).commit t.val)) ∧
    (∀ (t : Fin 4) (i : Insn) (s : State),
      s.standsAt t.val i (.unary 2) = true →
      exec (.ctz t) s = .next ((s.quiet.setReg t.val i.rd (BitVec.ofNat 64 (ctz (s.reg t.val i.ra))) (s.tag t.val i.ra)).commit t.val)) ∧
    (∀ (t : Fin 4) (i : Insn) (s : State),
      s.standsAt t.val i (.branch 0) = true →
      s.tag t.val i.ra = false →
      s.tag t.val i.rb = false →
      exec (.beq t) s = .next ((s.quiet.branchResolves t.val (.branch 0) i).branchCommit t.val i)) ∧
    (∀ (t : Fin 4) (i : Insn) (s : State),
      s.standsAt t.val i (.branch 1) = true →
      s.tag t.val i.ra = false →
      s.tag t.val i.rb = false →
      exec (.bne t) s = .next ((s.quiet.branchResolves t.val (.branch 1) i).branchCommit t.val i)) ∧
    (∀ (t : Fin 4) (i : Insn) (s : State),
      s.standsAt t.val i (.branch 2) = true →
      s.tag t.val i.ra = false →
      s.tag t.val i.rb = false →
      exec (.blt t) s = .next ((s.quiet.branchResolves t.val (.branch 2) i).branchCommit t.val i)) ∧
    (∀ (t : Fin 4) (i : Insn) (s : State),
      s.standsAt t.val i (.branch 3) = true →
      s.tag t.val i.ra = false →
      s.tag t.val i.rb = false →
      exec (.bge t) s = .next ((s.quiet.branchResolves t.val (.branch 3) i).branchCommit t.val i)) ∧
    (∀ (t : Fin 4) (i : Insn) (s : State),
      s.standsAt t.val i (.branch 4) = true →
      s.tag t.val i.ra = false →
      s.tag t.val i.rb = false →
      exec (.bltu t) s = .next ((s.quiet.branchResolves t.val (.branch 4) i).branchCommit t.val i)) ∧
    (∀ (t : Fin 4) (i : Insn) (s : State),
      s.standsAt t.val i (.branch 5) = true →
      s.tag t.val i.ra = false →
      s.tag t.val i.rb = false →
      exec (.bgeu t) s = .next ((s.quiet.branchResolves t.val (.branch 5) i).branchCommit t.val i)) ∧
    (∀ (t : Fin 4) (i : Insn) (s : State),
      s.standsAt t.val i .bfs = true →
      exec (.bfs t) s = .next ((s.quiet.branchResolves t.val .bfs i).branchCommit t.val i)) ∧
    (∀ (t : Fin 4) (i : Insn) (s : State),
      s.standsAt t.val i .bfc = true →
      exec (.bfc t) s = .next ((s.quiet.branchResolves t.val .bfc i).branchCommit t.val i)) ∧
    (∀ (t : Fin 4) (r : Row) (i : Insn) (s : State),
      s.resolution t.val (s.thread t.val).commits = none →
      (s.branchResolves t.val r i).resolution t.val (s.thread t.val).commits = some (branchOutcome r (s.reg t.val i.ra) (s.reg t.val i.rb) ((s.issueSlot t.val 0).branchIssue t.val (s.thread t.val).commits (s.tpc t.val) i).flag)) ∧
    (∀ (k : Nat) (x y : Word) (flag : Bool),
      branchOutcome (.branch k) x y flag = branchTaken k x y ∧ branchOutcome .bfs x y flag = flag ∧ branchOutcome .bfc x y flag = !flag) ∧
    (∀ (t : Fin 4) (i : Insn) (taken : Bool) (s : State),
      s.resolution t.val (s.thread t.val).commits = some taken →
      s.branchCommit t.val i = (s.train (i.fn % 4) (s.tpc t.val) taken).commitTo t.val (if taken then i.imm % 32768 else nextPc (s.tpc t.val))) ∧
    (∀ (t : Fin 4) (seq : Nat) (i : Insn) (p taken : Bool) (s u : State),
      s.resolution t.val seq = none →
      i.fn % 4 ≠ 3 →
      p ≠ taken →
      u = s.setThread t.val { s.thread t.val with resolved := (s.thread t.val).resolved ++ [(seq, taken)] } →
      s.resolve t.val seq i p taken = (u.bump (R.SEQ_THR_SPEC_MISPREDICT t.val)).squashAfter t.val seq) ∧
    (∀ (t : Fin 4) (i : Insn) (s : State),
      s.standsAt t.val i .jal = true →
      exec (.jal t) s = .next ((s.quiet.setReg t.val i.rd (BitVec.ofNat 64 ((s.tpc t.val + 1) % 32768)) false).commitTo t.val (i.imm % 32768))) ∧
    (∀ (t : Fin 4) (i : Insn) (s : State),
      s.standsAt t.val i .jalr = true →
      s.tag t.val i.ra = false →
      exec (.jalr t) s = .next ((s.quiet.setReg t.val i.rd (BitVec.ofNat 64 ((s.tpc t.val + 1) % 32768)) false).commitTo t.val ((s.reg t.val i.ra + i.simm).toNat % 32768))) ∧
    (∀ (t : Fin 4) (k : Fin 24) (s u : State) (w : Window) (i : Insn) (b seq : Nat) (e : BranchIssue),
      u = s.quiet.issueBelow t.val (k.val + 1) →
      seq = (u.thread t.val).commits + k.val →
      u.window t.val k.val = some w →
      u.slotInsn t.val k.val w = some (i, .branch b) →
      w.has i.ra = true ∧ w.has i.rb = true →
      e = u.branchIssue t.val seq w.pc i →
      exec (.branchResolve t k) s = .next (u.resolve t.val seq i e.taken (branchTaken b (w.reg i.ra) (w.reg i.rb))))

/-- Waits, barriers and flag lines (R82, R165, R170, R171, R178, R180). Outside a locked sequence WTICK commits at once where a boundary is owed and
otherwise waits; WSLOT waits for a slot boundary; WFLAG commits with 0 where the line has the level and otherwise waits; WSHAD and CWAIT, with an
untagged register, commit with the shadow's word and the courier's code where these are settled; DELAY of a count that is not 0 waits; a flag that has
come to its level, and the end of a DELAY, commit the waiting instruction; a WFLAG timeout commits with 0 or 1 and a BAR timeout with 1; BAR arrives
and waits, or commits with 2 at a barrier that does not name the thread; a flag line takes the level that the running context drives, a rise pulsing
the cross-trigger channels that name it. -/
def Obligations.WaitsAndBarriers : Prop :=
    (∀ (t : Fin 4) (i : Insn) (s : State),
      s.standsAt t.val i .wtick = true →
      s.locked t.val = false →
      s.is1 (R.SEQ_THR_OVR_OWED t.val) = true →
      s.is1 R.TICK_CTL_RUNNING = true →
      exec (.wtick t) s = .next ((s.quiet.clr (R.SEQ_THR_OVR_OWED t.val)).commit t.val)) ∧
    (∀ (t : Fin 4) (i : Insn) (s : State),
      s.standsAt t.val i .wtick = true →
      s.locked t.val = false →
      s.is1 (R.SEQ_THR_OVR_OWED t.val) = false →
      exec (.wtick t) s = .next (s.quiet.waitFor t.val .tick)) ∧
    (∀ (t : Fin 4) (i : Insn) (s : State),
      s.standsAt t.val i .wslot = true →
      s.locked t.val = false →
      exec (.wslot t) s = .next (s.quiet.waitFor t.val (.slot (if i.fn = 0 then some (i.imm % 16) else none)))) ∧
    (∀ (t : Fin 4) (i : Insn) (s : State),
      s.standsAt t.val i .wflag = true →
      s.locked t.val = false →
      s.flagLine (nbits i.imm 23 16) = (i.fn == 1) →
      exec (.wflag t) s = .next ((s.quiet.setReg t.val i.rd 0 false).commit t.val)) ∧
    (∀ (t : Fin 4) (i : Insn) (s : State),
      s.standsAt t.val i .wflag = true →
      s.locked t.val = false →
      s.flagLine (nbits i.imm 23 16) ≠ (i.fn == 1) →
      exec (.wflag t) s = .next (s.quiet.waitFor t.val (.flag (nbits i.imm 23 16) (i.fn == 1) (i.imm % 2 ^ 16 ≠ 0) i.rd))) ∧
    (∀ (t : Fin 4) (i : Insn) (s : State),
      s.standsAt t.val i .wshad = true →
      s.locked t.val = false →
      s.tag t.val i.ra = false →
      s.shadowSettled (i.regionIdx (s.reg t.val i.ra)) = true →
      exec (.wshad t) s = .next ((s.quiet.setReg t.val i.rd (s.shadowWord (i.regionIdx (s.reg t.val i.ra))) false).commit t.val)) ∧
    (∀ (t : Fin 4) (i : Insn) (s : State),
      s.standsAt t.val i .delay = true →
      s.locked t.val = false →
      i.imm ≠ 0 →
      exec (.delay t) s = .next (s.quiet.waitFor t.val .delay)) ∧
    (∀ (t : Fin 4) (i : Insn) (s : State),
      s.standsAt t.val i .cwait = true →
      s.locked t.val = false →
      s.tag t.val i.ra = false →
      s.courierIdle (i.courierIdx (s.reg t.val i.ra)) = true →
      exec (.cwait t) s = .next ((s.quiet.setReg t.val i.rd (BitVec.ofNat 64 (s.rd (R.COURIER_STAT_CODE (i.courierIdx (s.reg t.val i.ra))))) false).commit t.val)) ∧
    (∀ (t : Fin 4) (line rd : Nat) (level timed : Bool) (s : State),
      (s.thread t.val).wait = some (.flag line level timed rd) →
      s.flagLine line = level →
      exec (.waitConditionMet t) s = .next ((s.quiet.setReg t.val rd 0 false).commit t.val)) ∧
    (∀ (t : Fin 4) (s : State),
      (s.thread t.val).wait = some .delay →
      exec (.waitConditionMet t) s = .next (s.quiet.commit t.val)) ∧
    (∀ (t : Fin 4) (line rd : Nat) (level : Bool) (s : State),
      (s.thread t.val).wait = some (.flag line level true rd) →
      exec (.wflagTimeout t) s = .next ((s.quiet.setReg t.val rd (if s.flagLine line == level then 0 else 1) false).commit t.val)) ∧
    (∀ (t : Fin 4) (i : Insn) (s : State),
      s.standsAt t.val i .bar = true →
      s.locked t.val = false →
      s.bit (R.SEQ_BAR_CFG_THREADS (i.imm % 16)) t.val = false →
      exec (.bar t) s = .next ((s.quiet.setReg t.val i.rd 2 false).commit t.val)) ∧
    (∀ (t : Fin 4) (i : Insn) (s : State),
      s.standsAt t.val i .bar = true →
      s.locked t.val = false →
      s.bit (R.SEQ_BAR_CFG_THREADS (i.imm % 16)) t.val = true →
      exec (.bar t) s = .next (((s.quiet.setBit (R.SEQ_BAR_CFG_ARRIVED (i.imm % 16)) t.val).waitFor t.val (.bar (i.imm % 16) i.rd (i.imm / 2 ^ 16 ≠ 0))).barCheck (i.imm % 16))) ∧
    (∀ (t : Fin 4) (b rd : Nat) (s : State),
      (s.thread t.val).wait = some (.bar b rd true) →
      exec (.barTimeout t) s = .next (((s.quiet.clrBit (R.SEQ_BAR_CFG_ARRIVED b) t.val).setReg t.val rd 1 false).commit t.val)) ∧
    (∀ (n : Fin 64) (k : Fin 4) (s : State),
      s.takesFlits n.val = true →
      exec (.flagChange n k (s.flagDriven n.val k.val)) s = .next (if s.bit (R.REGION_LINES_FLAG n.val) k.val = s.flagDriven n.val k.val then s.quiet
        else if s.flagDriven n.val k.val = true then (s.quiet.setBit (R.REGION_LINES_FLAG n.val) k.val).pulses fun c => s.is1 (R.DBG_XT_SRC_FLAG_EN c) && s.rd (R.DBG_XT_SRC_FLAG c) == 4 * n.val + k.val
        else s.quiet.clrBit (R.REGION_LINES_FLAG n.val) k.val)) ∧
    (∀ (n : Fin 64) (k : Fin 4) (level : Bool) (s : State),
      s.takesFlits n.val = false ∨ s.flagDriven n.val k.val ≠ level →
      exec (.flagChange n k level) s = .next s.quiet)

/-- Loads and stores of threads (R161, R164, R172, R175). A load or store at a good address, outside a locked sequence and with a tag free, is sent under
a free tag of the thread, which waits for its answer; STP is sent and commits at once; an OK answer to a load writes RD with its tag and commits; a
posted answer frees its tag, and one other than OK is also counted and recorded with its code and place, the first one logged. -/
def Obligations.MemoryAccessesOfThreads : Prop :=
    (∀ (t : Fin 4) (i : Insn) (s : State),
      s.standsAt t.val i .ld = true →
      s.tag t.val i.ra = false →
      localDecode (i.addr (s.reg t.val i.ra)) i.size = false →
      s.maySend (threadNode t.val) = true →
      s.specOf t.val (s.thread t.val).commits = none →
      s.locked t.val = false →
      (plainAddr (i.addr (s.reg t.val i.ra)) && s.postedToLine t.val (i.addr (s.reg t.val i.ra))) = false →
      exec (.ld t 0) s = .next (s.quiet.sendOldest t.val (readAccess (i.addr (s.reg t.val i.ra)) i.size) (.load i.rd i.rc false (i.fn.testBit 2) i.size (i.addr (s.reg t.val i.ra))))) ∧
    (∀ (t : Fin 4) (i : Insn) (s : State),
      s.standsAt t.val i .ldt = true →
      s.tag t.val i.ra = false →
      localDecode (i.addr (s.reg t.val i.ra)) i.size = false →
      s.maySend (threadNode t.val) = true →
      s.specOf t.val (s.thread t.val).commits = none →
      s.locked t.val = false →
      (plainAddr (i.addr (s.reg t.val i.ra)) && s.postedToLine t.val (i.addr (s.reg t.val i.ra))) = false →
      exec (.ldt t 0) s = .next (s.quiet.sendOldest t.val (readAccess (i.addr (s.reg t.val i.ra)) i.size) (.load i.rd i.rc true (i.fn.testBit 2) i.size (i.addr (s.reg t.val i.ra))))) ∧
    (∀ (t : Fin 4) (i : Insn) (s : State),
      s.standsAt t.val i .st = true →
      s.tag t.val i.ra = false →
      csrAddr (i.addr (s.reg t.val i.ra)) = false →
      localDecode (i.addr (s.reg t.val i.ra)) i.size = false →
      s.maySend (threadNode t.val) = true →
      s.locked t.val = false →
      exec (.st t) s = .next (s.quiet.sendOldest t.val (writeAccess (i.addr (s.reg t.val i.ra)) i.size (s.reg t.val i.rb) (s.tag t.val i.rb)) (.other i.rc false))) ∧
    (∀ (t : Fin 4) (i : Insn) (s : State),
      s.standsAt t.val i .stt = true →
      s.tag t.val i.ra = false →
      csrAddr (i.addr (s.reg t.val i.ra)) = false →
      localDecode (i.addr (s.reg t.val i.ra)) i.size = false →
      s.maySend (threadNode t.val) = true →
      s.locked t.val = false →
      exec (.stt t) s = .next (s.quiet.sendOldest t.val (writeAccess (i.addr (s.reg t.val i.ra)) i.size (s.reg t.val i.rb) (s.tag t.val i.rb)) (.other i.rc true))) ∧
    (∀ (t : Fin 4) (i : Insn) (s : State),
      s.standsAt t.val i .stp = true →
      s.tag t.val i.ra = false →
      csrAddr (i.addr (s.reg t.val i.ra)) = false →
      localDecode (i.addr (s.reg t.val i.ra)) i.size = false →
      s.maySend (threadNode t.val) = true →
      s.locked t.val = false →
      exec (.stp t) s = .next ((s.quiet.sendPosted t.val (s.tpc t.val) (writeAccess (i.addr (s.reg t.val i.ra)) i.size (s.reg t.val i.rb) (s.tag t.val i.rb))).commit t.val)) ∧
    (∀ (t : Nat) (a : Access) (kind : PendKind) (s : State),
      s.maySend (threadNode t) = true →
      s.sendOldest t a kind = (s.setThread t { s.thread t with pend := some ⟨s.tpc t, s.freeTag (threadNode t), kind⟩ }).sendReq (threadNode t) a) ∧
    (∀ (t : Fin 4) (tag : BitVec 8) (a : Answer) (s u : State) (pc rd rc size addr : Nat) (sx : Bool),
      s.quiet.takeAnswer (threadNode t.val) tag.toNat a = some u →
      (u.thread t.val).pend = some ⟨pc, tag.toNat, .load rd rc false sx size addr⟩ →
      a.code = .ok →
      exec (.answerArrival t tag a) s = .next (((u.setThread t.val { u.thread t.val with pend := none }).setReg t.val rd (loadValue a.data size sx)
        (a.poison % 2 == 1)).commit t.val)) ∧
    (∀ (t : Fin 4) (tag : BitVec 8) (a : Answer) (s u : State) (pc : Nat) (addr : Option Nat),
      s.quiet.takeAnswer (threadNode t.val) tag.toNat a = some u →
      (u.thread t.val).posted.find? (fun e => e.1 == tag.toNat) = some (tag.toNat, pc, addr) →
      a.code = .ok →
      exec (.postedAnswer t tag a) s = .next (u.setThread t.val { u.thread t.val with posted := (u.thread t.val).posted.erase (tag.toNat, pc, addr) })) ∧
    (∀ (t pc : Nat) (code : Resp) (s : State),
      code ≠ .ok →
      s.rd (R.SEQ_THR_POSTED_COUNT t) ≠ 0 →
      s.postedDone t pc code = ((s.bump (R.SEQ_THR_POSTED_COUNT t)).wr (R.SEQ_THR_POSTED_CODE t) code.code).wr (R.SEQ_THR_POSTED_PC t) pc) ∧
    (∀ (t pc : Nat) (code : Resp) (s : State),
      code ≠ .ok →
      s.rd (R.SEQ_THR_POSTED_COUNT t) = 0 →
      s.postedDone t pc code = (((s.log .seqPostedErr [t, code.code, pc]).bump (R.SEQ_THR_POSTED_COUNT t)).wr (R.SEQ_THR_POSTED_CODE t) code.code).wr (R.SEQ_THR_POSTED_PC t) pc) ∧
    (∀ (t : Fin 4) (tag : BitVec 8) (a : Answer) (s u : State) (pc : Nat) (addr : Option Nat),
      s.quiet.takeAnswer (threadNode t.val) tag.toNat a = some u →
      (u.thread t.val).posted.find? (fun e => e.1 == tag.toNat) = some (tag.toNat, pc, addr) →
      exec (.postedAnswer t tag a) s = .next ((u.setThread t.val { u.thread t.val with posted := (u.thread t.val).posted.erase (tag.toNat, pc, addr) }).postedDone t.val pc a.code))

/-- Instructions that act on the rest of the device (R148, R149, R176, R178, R179, R183, R184, R185, R186, R187). Outside a locked sequence and with
untagged operands each of these instructions has its effect and commits: region and power commands enter the path to L3, CSTART and SNAP send their
request where a tag is free, events, mirrors, trace and KICK act at once, LOCK keeps registers and tags; EXIT takes the thread OFF; UNLOCK of an empty
sequence ends it. -/
def Obligations.ActionsOfThreads : Prop :=
    (∀ (t : Fin 4) (i : Insn) (s : State),
      s.standsAt t.val i .pre = true →
      s.locked t.val = false →
      s.tag t.val i.ra = false →
      s.tag t.val i.rb = false →
      s.specOf t.val (s.thread t.val).commits = none →
      exec (.pre t 0) s = .next ((s.quiet.enterPath t.val (i.regionIdx (s.reg t.val i.ra)) (.fill (i.planeIdx (s.reg t.val i.rb)) true) (s.armTarget (i.regionIdx (s.reg t.val i.ra)))).commit t.val)) ∧
    (∀ (t : Fin 4) (i : Insn) (s : State),
      s.standsAt t.val i .fill = true →
      s.locked t.val = false →
      s.tag t.val i.ra = false →
      s.tag t.val i.rb = false →
      exec (.fillInsn t) s = .next ((s.quiet.enterPath t.val (i.regionIdx (s.reg t.val i.ra)) (.fill (i.planeIdx (s.reg t.val i.rb)) false) (s.armTarget (i.regionIdx (s.reg t.val i.ra)))).commit t.val)) ∧
    (∀ (t : Fin 4) (i : Insn) (s : State),
      s.standsAt t.val i .rcmdHold = true →
      s.locked t.val = false →
      s.tag t.val i.ra = false →
      exec (.rcmdHold t) s = .next ((s.quiet.enterPath t.val (i.regionIdx (s.reg t.val i.ra)) .hold (s.armTarget (i.regionIdx (s.reg t.val i.ra)))).commit t.val)) ∧
    (∀ (t : Fin 4) (i : Insn) (s : State),
      s.standsAt t.val i .rcmdRelease = true →
      s.locked t.val = false →
      s.tag t.val i.ra = false →
      exec (.rcmdRelease t) s = .next ((s.quiet.enterPath t.val (i.regionIdx (s.reg t.val i.ra)) .release (s.armTarget (i.regionIdx (s.reg t.val i.ra)))).commit t.val)) ∧
    (∀ (t : Fin 4) (i : Insn) (s : State),
      s.standsAt t.val i .rcmdCancel = true →
      s.locked t.val = false →
      s.tag t.val i.ra = false →
      exec (.rcmdCancelFill t) s = .next ((s.quiet.enterPath t.val (i.regionIdx (s.reg t.val i.ra)) .cancelFill (s.armTarget (i.regionIdx (s.reg t.val i.ra)))).commit t.val)) ∧
    (∀ (t : Fin 4) (i : Insn) (s : State),
      s.standsAt t.val i .swap = true →
      s.locked t.val = false →
      s.tag t.val i.ra = false →
      s.tag t.val i.rb = false →
      (s.region (i.regionIdx (s.reg t.val i.ra))).decided = false →
      exec (.swapInsn t) s = .next ((s.quiet.enterPath t.val (i.regionIdx (s.reg t.val i.ra)) (.swap (i.planeIdx (s.reg t.val i.rb))) (s.armTarget (i.regionIdx (s.reg t.val i.ra)))).commit t.val)) ∧
    (∀ (t : Fin 4) (i : Insn) (s : State),
      s.standsAt t.val i .stop = true →
      s.locked t.val = false →
      s.tag t.val i.ra = false →
      (s.region (i.regionIdx (s.reg t.val i.ra))).decided = false →
      exec (.stopInsn t) s = .next ((s.quiet.enterPath t.val (i.regionIdx (s.reg t.val i.ra)) .stop (s.armTarget (i.regionIdx (s.reg t.val i.ra)))).commit t.val)) ∧
    (∀ (t : Fin 4) (i : Insn) (s : State),
      s.standsAt t.val i .cstart = true →
      s.locked t.val = false →
      s.maySend (threadNode t.val) = true →
      s.tag t.val i.ra = false →
      s.tag t.val i.rb = false →
      exec (.cstart t) s = .next (s.quiet.sendOldest t.val (s.courierRequest (i.courierIdx (s.reg t.val i.ra)) (s.reg t.val i.rb).toNat) (.other i.rc (i.fn.testBit 3)))) ∧
    (∀ (t : Fin 4) (i : Insn) (s : State) (u : State),
      s.standsAt t.val i .snap = true →
      s.locked t.val = false →
      s.maySend (threadNode t.val) = true →
      s.tag t.val i.rb = false →
      u = s.quiet.sendOldest t.val (s.ownNodeWrite snapNode (s.reg t.val i.rb).toNat) (.other i.rc (i.fn.testBit 3)) →
      u.is1 R.SNAP_CTL_BUSY = false →
      (s.reg t.val i.rb).toNat % 64 = 0 →
      exec (.snap t) s = .next ((({ u with snapReq := some ⟨(s.reg t.val i.rb).toNat, none⟩ } : State).set1 R.SNAP_CTL_BUSY).reply
        ⟨⟨u.rd R.NET_CFG_DEV_NUM, threadNode t.val⟩, s.freeTag (threadNode t.val), u.ownNodeWrite snapNode (s.reg t.val i.rb).toNat⟩ .ok)) ∧
    (∀ (t : Fin 4) (i : Insn) (s : State),
      s.standsAt t.val i .evt = true →
      s.locked t.val = false →
      s.tag t.val i.ra = false →
      exec (.evt t) s = .next ((s.quiet.commitEvent (i.lineIdx (s.reg t.val i.ra))).commit t.val)) ∧
    (∀ (t : Fin 4) (i : Insn) (s : State),
      s.standsAt t.val i .evtm = true →
      s.locked t.val = false →
      exec (.evtm t) s = .next ((s.quiet.each (evtmLines i (s.reg t.val i.rb)) State.commitEvent).commit t.val)) ∧
    (∀ (t : Fin 4) (i : Insn) (s : State),
      s.standsAt t.val i .mirrThread = true →
      s.locked t.val = false →
      s.isPrimary = true →
      exec (.mirrThread t) s = .next (({ s.quiet with mirr := { s.mirr with threads := storeSet none t.val (some (s.capture t.val)) s.mirr.threads } } : State).commit t.val)) ∧
    (∀ (t : Fin 4) (i : Insn) (s : State),
      s.standsAt t.val i .mirrRegion = true →
      s.locked t.val = false →
      s.tag t.val i.ra = false →
      s.isPrimary = true →
      s.mirr.regions.contains (i.regionIdx (s.reg t.val i.ra)) = false →
      exec (.mirrRegion t) s = .next (({ s.quiet with mirr := { s.mirr with regions := s.mirr.regions ++ [(i.regionIdx (s.reg t.val i.ra))] } } : State).commit t.val)) ∧
    (∀ (t : Fin 4) (i : Insn) (s : State),
      s.standsAt t.val i .mirrBank = true →
      s.locked t.val = false →
      s.tag t.val i.ra = false →
      s.isPrimary = true →
      s.mirr.banks.contains (i.bankIdx (s.reg t.val i.ra)) = false →
      exec (.mirrBank t) s = .next (({ s.quiet with mirr := { s.mirr with banks := s.mirr.banks ++ [i.bankIdx (s.reg t.val i.ra)] } } : State).commit t.val)) ∧
    (∀ (t : Fin 4) (i : Insn) (s : State),
      s.standsAt t.val i .emit = true →
      s.locked t.val = false →
      s.tag t.val i.ra = false →
      (s.quiet.commit t.val).stimOn (i.lineIdx (s.reg t.val i.ra)) = true →
      exec (.emit t) s = .next ((s.quiet.commit t.val).stimulus (i.lineIdx (s.reg t.val i.ra)) (s.reg t.val i.rb).toNat 8 (s.tag t.val i.rb) (threadNode t.val))) ∧
    (∀ (t : Fin 4) (i : Insn) (s : State),
      s.standsAt t.val i .pwrOn = true →
      s.locked t.val = false →
      s.tag t.val i.ra = false →
      exec (.pwrOn t) s = .next (({ s.quiet with rpath := s.rpath ++ [.pwr (i.domIdx (s.reg t.val i.ra)) true t.val] } : State).commit t.val)) ∧
    (∀ (t : Fin 4) (i : Insn) (s : State),
      s.standsAt t.val i .pwrOff = true →
      s.locked t.val = false →
      s.tag t.val i.ra = false →
      exec (.pwrOff t) s = .next (({ s.quiet with rpath := s.rpath ++ [.pwr (i.domIdx (s.reg t.val i.ra)) false t.val] } : State).commit t.val)) ∧
    (∀ (t : Fin 4) (i : Insn) (s : State),
      s.standsAt t.val i .kick = true →
      s.locked t.val = false →
      exec (.kick t) s = .next ((s.quiet.wdtLoad t.val).commit t.val)) ∧
    (∀ (t : Fin 4) (i : Insn) (s : State),
      s.standsAt t.val i .exit = true →
      s.locked t.val = false →
      exec (.exit t) s = .next (((s.quiet.setThread t.val { s.thread t.val with commits := (s.thread t.val).commits + 1 }).setTpc t.val ((s.tpc t.val + 1) % 32768)).threadOff t.val)) ∧
    (∀ (t : Fin 4) (i : Insn) (s : State),
      s.standsAt t.val i .lock = true →
      s.locked t.val = false →
      exec (.lock t) s = .next (((s.quiet.setThread t.val { s.thread t.val with lock := some ⟨s.tpc t.val, (s.thread t.val).regs, (s.thread t.val).tags, []⟩ }).set1 (R.SEQ_THR_STATUS_LOCKED t.val)).commit t.val)) ∧
    (∀ (t : Fin 4) (i : Insn) (s : State) (pc : Nat) (regs : Store Word) (tags : BitVec 32),
      s.standsAt t.val i .unlock = true →
      (s.thread t.val).lock = some ⟨pc, regs, tags, []⟩ →
      s.mayTag (threadNode t.val) 0 = true →
      exec (.unlock t) s = .next ((s.quiet.dropLock t.val).commit t.val))

/-- Images are checked, committed and started (R195, R198, R199, R203, R204, R208, R209, R212). A delivery that its source may make is taken byte by byte
and answered OK; the tag decides between COMMIT and a failure with an alarm; the commit promotes planes and asks for the floor, then, the floor
standing, requests power, then applies the staged content; START gives its fills; a load that idles or is aborted fails. -/
def Obligations.ImagesLoadAndStart : Prop :=
    (∀ (x : ImgIn) (data : List (Byte × Bool)) (s : State),
      imgInOk x = true →
      s.imgData x = some data →
      s.completesHeader x data.length = true →
      s.sourceMay x = true →
      (s.imgOpen && imgOffset x != s.imgNext) = false →
      exec (.imageHeader x) s = .next ((s.quiet.imgTake x data).imgAnswer x .ok)) ∧
    (∀ (x : ImgIn) (data : List (Byte × Bool)) (s : State),
      imgInOk x = true →
      s.imgData x = some data →
      s.completesHeader x data.length = false →
      s.sourceMay x = true →
      (s.imgOpen && imgOffset x != s.imgNext) = false →
      exec (.imageBytes x) s = .next ((s.quiet.imgTake x data).imgAnswer x .ok)) ∧
    (∀ (s : State),
      s.istate = .verify →
      s.img.tag = s.img.trailer.map BitVec.toNat →
      exec .imageTagCheck s = .next (s.quiet.setIstate .commit)) ∧
    (∀ (s : State),
      s.istate = .verify →
      s.img.tag ≠ s.img.trailer.map BitVec.toNat →
      exec .imageTagCheck s = .next ((s.quiet.imgFail 0x0E).alarm 0)) ∧
    (∀ (s u : State),
      s.istate = .commit →
      s.heldLoads = [] →
      s.img.phase = .none →
      s.preCheck = none →
      u = s.quiet.promote.raiseFloor →
      exec .imageCommit s = .next (u.setImg { u.img with phase := .floor })) ∧
    (∀ (s u : State),
      s.istate = .commit →
      s.heldLoads = [] →
      s.img.phase = .floor →
      s.floorDue = false →
      u = (s.img.startRegions 7).foldl State.upRegion s.quiet →
      exec .imageCommit s = .next (u.setImg { u.img with phase := .up })) ∧
    (∀ (s : State),
      s.istate = .commit →
      s.heldLoads = [] →
      s.img.phase = .up →
      (s.img.startRegions 7).any s.settling = false →
      exec .imageCommit s = .next s.quiet.commitApplies) ∧
    (∀ (s u : State),
      s.istate = .starting →
      s.img.phase = .none →
      (s.img.startRegions 6).find? (fun n => s.startRefusal n (.fill (s.img.startPlane n) false)) = none →
      u = (s.img.startRegions 6).foldl (fun v n => v.acceptFill n (v.img.startPlane n) none) s.quiet →
      exec .imageStart s = .next (u.setImg { u.img with phase := .fills })) ∧
    (∀ (s : State),
      s.loadAwaited ≠ some 2 →
      s.istate = .header ∨ s.istate = .stream →
      s.img.src ≠ 0 →
      exec .imageIdleTimeout s = .next (s.quiet.imgFail 0x0D)) ∧
    (∀ (ini : Ini) (s u : State) (v : BitVec 32),
      s.fromInside ini = false →
      v = BitVec.ofNat 32 (2 ^ 31 + s.rd R.IMG_CTL_IDLE_TIMEOUT) →
      R.IMG_CTL_ABORT.of v = 1 →
      u = s.quiet.storeReg .IMG_CTL v →
      u.imgOpen = true →
      s.turnedAway R.IMG_CTL_ABORT.off = none →
      exec (.imgAbort ini) s = .next ((u.imgFail 0x10).okWrite ini))

/-- The configuration patrol (R215, R216, R217, R219, R220, R221, R224). A visit of the stored walker reads a frame of a VALID plane and moves on; the
active walker reads a frame of the active latches; a check of a single-bit error queues its correction, which is written with the status kept; a
refetched copy enters the buffer; a pass whose visits are all made ends, and both walkers start again. -/
def Obligations.PatrolVisitsAndRepairs : Prop :=
    (∀ (i n p f : Nat) (s u : State),
      s.patrolRuns = true →
      s.passDone.1 = false →
      i = s.rd R.PATROL_SPOS_INDEX →
      i < 1996799 →
      n = i / 31200 ∧ p = i / 3900 % 8 ∧ f = i % 3900 →
      u = { s.quiet.wr R.PATROL_SPOS_INDEX (i + 1) with passDone := (false, s.passDone.2) } →
      u.plState n p = .valid ∧ u.dstate (64 + n / 4) = .on ∧ u.unusable n = false ∧ u.configTested (n / 4) = false →
      exec .patrolStoredVisit s = .next (u.walkerRead false n p f (u.frame n p f))) ∧
    (∀ (j : Nat) (s u : State),
      s.patrolRuns = true →
      s.heldVisits = [] →
      s.passDone.2 = false →
      j = s.rd R.PATROL_APOS_INDEX →
      j < 245759 →
      u = { s.quiet.wr R.PATROL_APOS_INDEX (j + 1) with passDone := (s.passDone.1, false) } →
      u.is1 (R.REGION_STATUS_SPILLING (j / 3840)) = false →
      u.activeReadable (j / 3840) = true →
      exec .patrolActiveVisit s = .next (u.walkerRead true (j / 3840) (u.rd (R.REGION_STATUS_ACTIVE_PLANE (j / 3840))) (j % 3840)
        (u.latch (j / 3840) (u.region (j / 3840)).sel (j % 3840)))) ∧
    (∀ (c : Chk) (rest : List Chk) (s u : State),
      s.checks = c :: rest →
      c.active = false →
      c.verdict = 1 →
      u = ({ s.quiet with checks := rest } : State).bump R.PATROL_SBE_SBE_STORED →
      exec .patrolCheck s = .next { u with walkq := u.walkq ++ [⟨c.n, c.p, c.f, c.stale⟩] }) ∧
    (∀ (c : Chk) (rest : List Chk) (s : State),
      s.checks = c :: rest →
      c.active = false →
      c.verdict = 2 →
      exec .patrolCheck s = .next (({ s.quiet with checks := rest } : State).storedDbe c.n c.p c.f)) ∧
    (∀ (c : Corr) (rest : List Corr) (s : State),
      s.corrq = c :: rest →
      c.stale = false →
      (s.frame c.n c.p c.f).flips.length < 3 →
      exec .patrolCorrection s = .next (({ s.quiet with corrq := rest } : State).writeFrame c.n c.p c.f (s.frame c.n c.p c.f).data (s.frame c.n c.p c.f).status)) ∧
    (∀ (n : Fin 64) (f p : Nat) (s : State),
      (s.region n.val).refetch.find? (fun e => e.2.2.isNone) = some (f, p, none) →
      (s.frame n.val p f).flips = [] →
      statusFits f (s.frame n.val p f).status = true →
      exec (.refetchCopyReady n) s = .next (s.quiet.setRegion n.val { s.region n.val with
        refetch := (s.region n.val).refetch.map fun e => if e.1 = f then (f, p, some (s.frame n.val p f).data) else e })) ∧
    (∀ (s : State),
      s.patrolRuns = true →
      s.passComplete = true →
      exec .patrolPassEnd s = .next (s.quiet.incr R.PATROL_STAT_PASSES).newPass) ∧
    (∀ (ini : Ini) (v : BitVec 32) (s u : State),
      s.is1 R.PATROL_CTL_EN = false →
      u = s.quiet.storeReg .PATROL_CTL v →
      u.is1 R.PATROL_CTL_EN = true →
      s.turnedAway (R.PATROL_CTL_EN).off = none →
      exec (.patrolEnWrite ini v) s = .next (u.newPass.okWrite ini))

/-- Waystations take, forward and time packets (R234, R239, R240, R243, R246, R249, R252, R253). A request whose address decodes is stamped and buffered
at its ingress with its destination; a packet forwarded by its route table enters the next buffer with room; a request for an endpoint of its own
station is delivered and timed; a header carries the credits owed to the buffers it passes, and credits that no header carries go back, at most 8 at
once, in an idle flit; a target timeout is counted; tags of timed-out requests are free again; readmission clears the isolation. Every packet with its
fields in range comes back from its header flit. -/
def Obligations.WaystationsForward : Prop :=
    (∀ (n : Fin 192) (port : Fin 16) (p : Packet) (f : Flight) (s : State),
      p.op ≠ 0 ∧ p.vn = .req ∧ s.stationRuns n.val = true ∧ s.hasRoom n.val port.val 0 p = true →
      linkPort n.val port.val = false →
      s.decoded n.val { p with hops := 15 } = .inr f →
      exec (.requestIngress n port p) s = .next (s.quiet.pushBuf n.val port.val 0 f)) ∧
    (∀ (n : Nat) (p q : Packet) (op : ReqOp) (node : Nat) (s : State),
      reqOp p.op = some op →
      op = .rd ∨ op = .wr →
      packetSizeOk p = true →
      s.rd R.START_STAT_STEP ≠ 5 →
      s.decodeAddr 17 p = some q →
      (s.rehashHolds && s.toLarder q) = false →
      s.routeNode q = some node →
      s.decoded n p = .inr ⟨some node, { q with epoch := s.stamp n }⟩) ∧
    (∀ (n : Fin 192) (input : Fin 32) (vn : VNet) (f : Flight) (rest : List Flight) (node code m i : Nat) (s u : State),
      s.stationRuns n.val = true →
      ¬ 26 ≤ input.val →
      (s.buf (bufKey n.val input.val (vnNum vn))).pkts = f :: rest →
      f.dest = some node →
      ¬ 192 ≤ node / 16 →
      code = s.rd (rtFld n.val f.pkt.epoch.toNat (node / 16)) →
      code ≠ 0 →
      behind n.val code = some (m, i) →
      s.dieOut (m / 32) = false →
      s.hasRoom m i (vnNum vn) f.pkt = true →
      u = (((s.quiet.pushBuf m i (vnNum vn) f).unmark m (if 26 ≤ i then i - 6 else i) (vnNum vn) f.pkt).emit (.hop n.val code (s.flitWith n.val (inputFrom code) f.pkt) f.pkt)).payCredits n.val (inputFrom code) →
      exec (.packetHop n input vn .route) s = .next (((u.popBuf n.val input.val (vnNum vn)).epochReport n.val).resetsOut)) ∧
    (∀ (n port : Nat) (p : Packet) (s : State),
      s.bit (R.WS_ISOL_ISOLATED n) port = false →
      linkPort n port = false →
      endpointAt n port true = true ∧ s.endpointOut n port = false ∧ csrEndpointOk (16 * n + port) (packetRequest p) = true →
      s.endpointTested n port = false →
      (∀ d, endpointDomain n port = some d → s.meetDomain d n port (packetRequest p) = some (s, true)) →
      (s.deliv.filter fun e => e.station == n && e.port == port).length < 256 →
      s.endpointFull n port (packetRequest p) = false →
      s.deliverReq n port p = some ((({ s with deliv := s.deliv ++ [⟨n, port, packetRequest p, false⟩] } : State).emit (.deliver n port (s.flitWith n port p) p)).payCredits n port)) ∧
    (∀ (n : Fin 192) (input : Fin 32) (vn : VNet) (c : Nat) (s : State),
      c = min 8 (s.buf (bufKey n.val input.val (vnNum vn))).gone →
      c ≠ 0 →
      s.stationRuns n.val = true →
      ¬ (26 ≤ input.val ∧ s.dieOut (input.val - 26) = true) →
      linkPort n.val input.val = false →
      exec (.creditReturn n input vn) s = .next ((s.quiet.setBuf (bufKey n.val input.val (vnNum vn))
        { s.buf (bufKey n.val input.val (vnNum vn)) with gone := (s.buf (bufKey n.val input.val (vnNum vn))).gone - c }).emit
          (.credits n.val input.val (vnNum vn) c (idleFlit vn c)))) ∧
    (∀ (p : Packet),
      p.op ≠ 0 ∧ p.op < 2 ^ 8 ∧ p.len < 4 ∧ p.tag < 2 ^ 8 ∧ p.resp < 2 ^ 4 ∧ p.hops < 2 ^ 8 →
      p.dstNode < 2 ^ 12 ∧ p.dstDev < 2 ^ 8 ∧ p.srcNode < 2 ^ 12 ∧ p.srcDev < 2 ^ 8 ∧ p.addr < 2 ^ 52 →
      1 ≤ p.size ∧ p.size ≤ 128 ∧ p.poison < 2 ^ 16 ∧ p.operand < 2 ^ 64 ∧ p.byteEn < 2 ^ 128 →
      headerPacket (headerFlit p) p.data = some p) ∧
    (∀ (p : Packet) (q r y : Nat),
      q ≤ 8 ∧ r ≤ 8 ∧ y ≤ 8 →
      headerPacket (headerFlit p + creditFields q r y) p.data = headerPacket (headerFlit p) p.data ∧ flitBits (headerFlit p + creditFields q r y) 448 4 = q ∧
        flitBits (headerFlit p + creditFields q r y) 452 4 = r ∧ flitBits (headerFlit p + creditFields q r y) 456 4 = y) ∧
    (∀ (node : BitVec 12) (tag : BitVec 8) (s : State),
      exec (.tagRelease node tag) s = .next ((s.quiet.freeLate fun o => o.node == node.toNat && o.tag == tag.toNat && o.late).tagFreed node.toNat)) ∧
    (∀ (n : Fin 192) (port : Fin 16) (ini : Ini) (tag : BitVec 8) (s u : State) (times : List Nat),
      s.deliv.any (fun e => e.station == n.val && e.port == port.val && e.rq.ini == ini && e.rq.tag == tag.toNat && !e.late) = true →
      (u = ({ s.quiet with deliv := s.deliv.map (fun e => if (e.station == n.val && e.port == port.val && e.rq.ini == ini && e.rq.tag == tag.toNat && !e.late) = true then { e with late := true } else e) } : State).bump (R.WS_STAT_TMO n.val)) →
      times = ((storeGet [] (16 * n.val + port.val) s.expiries).filter fun t => decide (s.now < t + 156250)) ++ [s.now] →
      times.length < 4 →
      exec (.targetTimeout n port ini tag) s = .next { u with expiries := storeSet [] (16 * n.val + port.val) times s.expiries }) ∧
    (∀ (ini : Ini) (n : Fin 192) (v : BitVec 32) (s : State),
      stationExists (n.val / 32) (n.val % 32) = true →
      s.turnedAway (R.WS_ISOL_ISOLATED n.val).off = none →
      exec (.portReadmit ini n v) s = .next (((s.quiet.w1c (R.WS_ISOL_ISOLATED n.val) v).each (indicesWith 16 v.toNat.testBit) fun u p =>
        { u with expiries := storeSet [] (16 * n.val + p) [] u.expiries }).okWrite ini))

/-- Route epochs and closing domains (R250, R255). FLIP begins a change; the last station to stamp with the new epoch changes CUR and starts the drain; a
station receives the mark of a link once the station at its other end has sent its last packet of the old epoch; the drain ends when every station has
reported, and until then it may be found stuck, once, with an event; a route table of a bank not in use is written, and one in use refuses the write;
at the point of no return of a closing domain, a region's once its spill is over, its unanswered requests are answered ABORTED and counted, and
nothing is open there; a wake powers up a domain that is OFF and for which a request waits. -/
def Obligations.RouteEpochs : Prop :=
    (∀ (ini : Ini) (v : BitVec 32) (s u : State),
      u = s.quiet.w1cOnly .NET_EPOCH v →
      R.NET_EPOCH_FLIP.of v ≠ 0 →
      u.epoch = none →
      s.turnedAway (R.NET_EPOCH_CUR).off = none →
      exec (.epochFlip ini v) s = .next ((u.liveStations.foldl (fun (t : State) n => t.emit (.sys (16 * n) 0x81 (1 - t.rd R.NET_EPOCH_CUR))) { u with epoch := some {} }).okWrite ini)) ∧
    (∀ (n : Fin 192) (e : EpochChange) (s : State),
      s.epoch = some e →
      s.is1 R.NET_EPOCH_DRAINING = false →
      e.setAt.contains n.val = false →
      s.liveStations.contains n.val = true →
      s.liveStations.all (fun m => (e.setAt ++ [n.val]).contains m) = false →
      exec (.epochSet n) s = .next (({ s.quiet with epoch := some { e with setAt := e.setAt ++ [n.val] } } : State).epochReport n.val)) ∧
    (∀ (n : Fin 192) (e : EpochChange) (s u : State),
      s.epoch = some e →
      s.is1 R.NET_EPOCH_DRAINING = false →
      e.setAt.contains n.val = false →
      s.liveStations.contains n.val = true →
      s.liveStations.all (fun m => (e.setAt ++ [n.val]).contains m) = true →
      u = (s.quiet.incr R.NET_EPOCH_CUR).set1 R.NET_EPOCH_DRAINING →
      exec (.epochSet n) s = .next (({ u with epoch := some { e with setAt := [] } } : State).epochReport n.val)) ∧
    (∀ (n : Fin 192) (input : Fin 32) (vn : VNet) (e : EpochChange) (m : Nat) (s : State),
      s.epoch = some e →
      (s.liveInputs n.val).contains input.val = true →
      e.marks.contains (bufKey n.val input.val (vnNum vn)) = false →
      s.stationRuns n.val = true →
      upstream n.val input.val = some m →
      s.markSent e m (vnNum vn) = true →
      s.relayClear n.val input.val (vnNum vn) = true →
      exec (.epochMark n input vn) s = .next (({ s.quiet with epoch := some { e with marks := e.marks ++ [bufKey n.val input.val (vnNum vn)] } } : State).epochReport n.val)) ∧
    (∀ (e : EpochChange) (s : State),
      s.epoch = some e →
      s.is1 R.NET_EPOCH_DRAINING = true →
      s.liveStations.all (fun n => e.reported.contains n) = true →
      exec .drainComplete s = .next { s.quiet.clr R.NET_EPOCH_DRAINING with epoch := none }) ∧
    (∀ (e : EpochChange) (s : State),
      s.epoch = some e →
      s.is1 R.NET_EPOCH_DRAINING = true →
      e.stuck = false →
      exec .epochStuck s = .next ((({ s.quiet with epoch := some { e with stuck := true } } : State).set1 R.NET_EPOCH_STUCK).log .netEpochStuck [])) ∧
    (∀ (ini : Ini) (n : Fin 192) (b : Fin 2) (i : Fin 24) (v : BitVec 32) (s : State),
      stationExists (n.val / 32) (n.val % 32) = true →
      s.rtInUse b.val = false →
      s.turnedAway (rtFld n.val b.val (8 * i.val)).off = none →
      exec (.routeTableWrite ini n b i v) s = .next ((s.quiet.storeReg (.WS_RT n.val b.val i.val) v).okWrite ini)) ∧
    (∀ (ini : Ini) (n : Fin 192) (b : Fin 2) (i : Fin 24) (v : BitVec 32) (s : State),
      stationExists (n.val / 32) (n.val % 32) = true →
      s.rtInUse b.val = true →
      s.turnedAway (rtFld n.val b.val (8 * i.val)).off = none →
      exec (.routeTableWrite ini n b i v) s = .next ((s.quiet.set1 (R.WS_STAT_RT_ERR n.val)).okWrite ini)) ∧
    (∀ (d : Fin 112) (s u : State),
      s.dstate d.val = .closing →
      (s.dom d.val).pnr = false →
      u = (s.unanswered d.val).foldl (fun (t : State) e => (t.reply e.2 .aborted).bump (R.WS_STAT_ABORTED e.1)) { s.quiet.setDom d.val { s.dom d.val with pnr := true } with
        deliv := s.deliv.filter fun e => endpointDomain e.station e.port ≠ some d.val } →
      64 ≤ d.val →
      exec (.pointOfNoReturn d) s = .next u) ∧
    (∀ (d : Fin 112) (s u : State),
      s.dstate d.val = .closing →
      (s.dom d.val).pnr = false →
      u = (s.unanswered d.val).foldl (fun (t : State) e => (t.reply e.2 .aborted).bump (R.WS_STAT_ABORTED e.1)) { s.quiet.setDom d.val { s.dom d.val with pnr := true } with
        deliv := s.deliv.filter fun e => endpointDomain e.station e.port ≠ some d.val } →
      d.val < 64 →
      s.is1 (R.REGION_STATUS_SPILLING d.val) = false →
      exec (.pointOfNoReturn d) s = .next ((List.range 4).foldl (fun (t : State) p =>
        (t.setPort d.val p { t.port d.val p with inq := [], waiting := [] }).dropOutst (regionNode d.val p)) { u with bwin := u.bwin.filter fun w => w.block / 192 != d.val })) ∧
    (∀ (d : Fin 112) (s : State),
      s.dstate d.val ≠ .closing ∨ (s.dom d.val).pnr = true ∨ d.val < 64 ∧ s.is1 (R.REGION_STATUS_SPILLING d.val) = true →
      exec (.pointOfNoReturn d) s = .next s.quiet) ∧
    (∀ (d : Fin 112) (s : State),
      s.dstate d.val = .off →
      s.park.any (fun e => e.dom == d.val) = true →
      s.onRefusal d.val = none →
      exec (.wake d) s = .next (s.quiet.requestOn d.val .wake))

/-- Couriers (R259, R260, R261). GO starts an idle courier at its descriptor and a busy one sets GO_ERR; ABORT ends the transfer as ABORTED once nothing
is outstanding; a start request to an idle courier is answered OK and starts it; an answer is consumed and carries the transfer on. -/
def Obligations.CouriersMoveData : Prop :=
    (∀ (ini : Ini) (c : Fin 32) (s : State),
      s.cstate c.val = .idle →
      s.turnedAway (R.COURIER_CTL_GO c.val).off = none →
      exec (.courierGo ini c) s = .next ((s.quiet.courierStart c.val (s.rd64 (R.COURIER_DESC_LO_ADDR c.val) (R.COURIER_DESC_HI_ADDR c.val))).okWrite ini)) ∧
    (∀ (ini : Ini) (c : Fin 32) (s : State),
      s.cstate c.val ≠ .idle →
      s.turnedAway (R.COURIER_CTL_GO c.val).off = none →
      exec (.courierGo ini c) s = .next ((s.quiet.set1 (R.COURIER_CTL_GO_ERR c.val)).okWrite ini)) ∧
    (∀ (ini : Ini) (c : Fin 32) (s : State),
      s.cstate c.val ≠ .idle →
      (s.courier c.val).stop = none →
      s.turnedAway (R.COURIER_CTL_GO c.val).off = none →
      exec (.courierAbort ini c) s = .next ((((s.quiet.courierStop c.val .aborted (s.draw % 2 ^ 64)).drawn).courierSettle c.val).okWrite ini)) ∧
    (∀ (c : Fin 32) (rq : Request) (s : State),
      ¬ (rq.acc.op ≠ .nwr ∨ rq.acc.addr ≠ 0 ∨ rq.acc.size ≠ 8) →
      s.cstate c.val = .idle →
      exec (.courierStartRequest c rq) s = .next ((s.quiet.reply rq .ok).courierStart c.val (leNat rq.acc.data))) ∧
    (∀ (c : Fin 32) (tag : BitVec 8) (a : Answer) (s u : State),
      courierAnswerOk (s.courier c.val) tag.toNat a = true →
      s.courierFrozen = false →
      s.quiet.takeAnswer (courierNode c.val) tag.toNat a = some u →
      exec (.courierReadAnswer c tag a) s = .next (u.courierAnswer c.val tag.toNat a)) ∧
    (∀ (c : Fin 32) (tag : BitVec 8) (a : Answer) (s u : State),
      courierAnswerOk (s.courier c.val) tag.toNat a = true →
      s.courierFrozen = false →
      s.quiet.takeAnswer (courierNode c.val) tag.toNat a = some u →
      exec (.courierWriteAnswer c tag a) s = .next (u.courierAnswer c.val tag.toNat a))

/-- The larder serves requests (R263, R269, R270, R271, R273, R278). A read that finds its line good is answered with its data; a read that misses takes a
miss entry and a way; a write of a whole line allocates it; a fill with OK stores the line and performs the waiting requests in order of arrival; one
with an error code answers every waiting request with it; an acknowledged write-back is dropped, a failed one waits and is sent again; a window of the
imbalance monitor in which no request came shows 0 throughout. -/
def Obligations.LarderServesRequests : Prop :=
    (∀ (rq : Request) (k l : Nat) (x : Line) (s t : State),
      rq.acc.op = .rd →
      readSizeOk rq.acc.addr rq.acc.size = true →
      s.sliceOf (rq.acc.addr % 2 ^ 44) = some k →
      ¬ 0x30000000000 ≤ rq.acc.addr % 2 ^ 44 →
      s.is1 R.LARDER_IMBAL_CFG_EN = false →
      (s.slice k).waiting = [] →
      l = rq.acc.addr / 128 % 2 ^ 35 →
      s.lineExists l = true →
      (s.slice k).misses.find? (fun m => m.line == l) = none →
      s.line l = some x →
      s.quiet.readHit k l x rq = some t →
      exec (.larderRead rq) s = .next t) ∧
    (∀ (rq : Request) (k l w : Nat) (s t : State),
      rq.acc.op = .rd →
      readSizeOk rq.acc.addr rq.acc.size = true →
      s.sliceOf (rq.acc.addr % 2 ^ 44) = some k →
      ¬ 0x30000000000 ≤ rq.acc.addr % 2 ^ 44 →
      s.is1 R.LARDER_IMBAL_CFG_EN = false →
      (s.slice k).waiting = [] →
      l = rq.acc.addr / 128 % 2 ^ 35 →
      s.lineExists l = true →
      (s.slice k).misses.find? (fun m => m.line == l) = none →
      s.line l = none →
      s.debugRead rq = false →
      ¬ 64 ≤ (s.slice k).misses.length →
      s.quiet.takeWay k l = some (t, w) →
      exec (.larderRead rq) s = .next (t.setSlice k { t.slice k with misses := (t.slice k).misses ++ [⟨l, w, [rq], none⟩] })) ∧
    (∀ (rq : Request) (k l w key : Nat) (s t : State),
      rq.acc.op = .wr →
      rq.acc.size = 128 ∧ rq.acc.data.length = 128 →
      writeSizeOk rq.acc.addr rq.acc.size = true →
      s.sliceOf (rq.acc.addr % 2 ^ 44) = some k →
      ¬ 0x30000000000 ≤ rq.acc.addr % 2 ^ 44 →
      s.is1 R.LARDER_IMBAL_CFG_EN = false →
      (s.slice k).waiting = [] →
      l = rq.acc.addr / 128 % 2 ^ 35 →
      s.lineExists l = true →
      (s.slice k).misses.find? (fun m => m.line == l) = none →
      s.line l = none →
      s.keyOf (rq.acc.addr % 2 ^ 44) = some key →
      s.quiet.takeWay k l = some (t, w) →
      exec (.larderWrite rq) s = .next (t.writeHit k l ⟨w, [], false, key⟩ rq)) ∧
    (∀ (l : BitVec 35) (k : Nat) (m : Miss) (a : FillAns) (s u : State),
      s.sliceOf (l.toNat * 128) = some k →
      (s.slice k).misses.find? (fun m => m.line == l.toNat && m.ans.isSome) = some m →
      m.ans = some a →
      a.code ≠ .ok →
      u = s.quiet.setSlice k { s.slice k with misses := (s.slice k).misses.filter fun x => x.line != l.toNat } →
      exec (.larderFill l) s = .next ((m.reqs.foldl (fun (t : State) rq => t.reply rq a.code) u).drainAll k)) ∧
    (∀ (l : BitVec 35) (k : Nat) (m : Miss) (a : FillAns) (s u v : State),
      s.sliceOf (l.toNat * 128) = some k →
      (s.slice k).misses.find? (fun m => m.line == l.toNat && m.ans.isSome) = some m →
      m.ans = some a →
      a.code = .ok →
      m.way ≠ noWay →
      u = (s.quiet.setSlice k { s.slice k with misses := (s.slice k).misses.filter fun x => x.line != l.toNat }).setLine l.toNat (some ⟨m.way, fillCells a.data a.poison, false, a.key⟩) →
      v = ((u.bumpN (R.PROT_RECOV_PSTORE (k / 64)) (poisonCount a.poison)).afterStore (.slice k) (l.toNat * 128)).touch k l.toNat m.way →
      exec (.larderFill l) s = .next ((v.afterFill k (fun (t : State) rq => t.sliceServe k rq) m.reqs).drainAll k)) ∧
    (∀ (l : BitVec 35) (w : Wb) (s : State),
      s.firstWb l.toNat = some w →
      w.stage = .answered .ok →
      exec (.larderWritebackAnswer l) s = .next ((s.quiet.setFirstWb l.toNat none).drainAll w.slice)) ∧
    (∀ (l : BitVec 35) (w : Wb) (code : Resp) (s : State),
      s.firstWb l.toNat = some w →
      w.stage = .answered code →
      code ≠ .ok →
      w.fails < 3 →
      exec (.larderWritebackAnswer l) s = .next (s.quiet.setFirstWb l.toNat (some { w with fails := w.fails + 1, stage := .retry }))) ∧
    (∀ (l : BitVec 35) (w : Wb) (s : State),
      s.firstWb l.toNat = some w →
      w.stage = .retry →
      exec (.writebackRetry l) s = .next (s.quiet.setFirstWb l.toNat (some { w with stage := .sent }))) ∧
    (∀ (s u : State),
      s.is1 R.LARDER_IMBAL_CFG_EN = true →
      s.larder.counts = [] →
      u = ((s.quiet.each (List.range 128) fun (t : State) k => t.wr (R.LARDER_SLICE_CNT_COUNT k) 0).wr R.LARDER_IMBAL_STAT_MAX_SLICE 0).wr R.LARDER_IMBAL_STAT_SKEW 0 →
      u.rd R.LARDER_IMBAL_CFG_THRESH ≠ 0 →
      exec .imbalanceWindow s = .next { u with larder := { u.larder with counts := [] } })

/-- Larder maintenance (R266, R274, R275). CLEAN and FLUSH send back the dirty lines in scope and run until their write-backs are done; a rehash with a
usable set cleans, holds new requests when no dirty line remains, and switches table and set when every slice is idle; held requests are then decoded
and routed by the new table. -/
def Obligations.LarderMaintenance : Prop :=
    (∀ (ini : Ini) (scope : BitVec 3) (key : BitVec 6) (slice : BitVec 7) (s u : State),
      u = s.quiet.storeReg .LARDER_CTL (larderValue 1 scope.toNat key.toNat slice.toNat 0) →
      R.LARDER_CTL_OP.of (larderValue 1 scope.toNat key.toNat slice.toNat 0) = 1 →
      R.LARDER_CTL_SCOPE.of (larderValue 1 scope.toNat key.toNat slice.toNat 0) = scope.toNat →
      R.LARDER_CTL_KEY_ID.of (larderValue 1 scope.toNat key.toNat slice.toNat 0) = key.toNat →
      R.LARDER_CTL_SLICE.of (larderValue 1 scope.toNat key.toNat slice.toNat 0) = slice.toNat →
      u.is1 R.LARDER_CTL_BUSY = false →
      scope.toNat < 3 →
      s.turnedAway (if s.dieOut 4 then 0x2800000 else 0x2000000) = none →
      exec (.clean ini scope key slice) s = .next (((u.beginOp .clean).cleanLines false scope.toNat key.toNat slice.toNat).okWrite ini)) ∧
    (∀ (ini : Ini) (scope : BitVec 3) (key : BitVec 6) (slice : BitVec 7) (s u : State),
      u = s.quiet.storeReg .LARDER_CTL (larderValue 2 scope.toNat key.toNat slice.toNat 0) →
      R.LARDER_CTL_OP.of (larderValue 2 scope.toNat key.toNat slice.toNat 0) = 2 →
      R.LARDER_CTL_SCOPE.of (larderValue 2 scope.toNat key.toNat slice.toNat 0) = scope.toNat →
      R.LARDER_CTL_KEY_ID.of (larderValue 2 scope.toNat key.toNat slice.toNat 0) = key.toNat →
      R.LARDER_CTL_SLICE.of (larderValue 2 scope.toNat key.toNat slice.toNat 0) = slice.toNat →
      u.is1 R.LARDER_CTL_BUSY = false →
      scope.toNat < 3 →
      s.turnedAway (if s.dieOut 4 then 0x2800000 else 0x2000000) = none →
      exec (.flush ini scope key slice) s = .next (((u.beginOp (.flush none)).cleanLines true scope.toNat key.toNat slice.toNat).okWrite ini)) ∧
    (∀ (ini : Ini) (salt : Bool) (s u : State),
      u = s.quiet.storeReg .LARDER_CTL (larderValue 3 0 0 0 salt.toNat) →
      R.LARDER_CTL_OP.of (larderValue 3 0 0 0 salt.toNat) = 3 →
      (R.LARDER_CTL_NEW_SALT.of (larderValue 3 0 0 0 salt.toNat) == 1) = salt →
      (u.is1 R.LARDER_CTL_BUSY || u.nextSet.isEmpty || !(u.nextSet.all u.sliceUsable)) = false →
      s.turnedAway (if s.dieOut 4 then 0x2800000 else 0x2000000) = none →
      exec (.rehash ini salt) s = .next (((u.beginOp (.rehash salt false)).cleanLines false 0 0 0).okWrite ini)) ∧
    (∀ (salt : Bool) (s : State),
      s.larder.op = some (.rehash salt false) →
      s.opDrained = true →
      exec .rehashHold s = .next { s.quiet with larder := { s.larder with op := some (.rehash salt true) } }) ∧
    (∀ (s u : State),
      s.larder.op = some (.rehash false true) →
      s.slicesIdle = true →
      u = s.quiet.setSliceSet s.nextSet →
      exec .rehashSwitch s = .next (({ u with larder := { u.larder with lines := [], plru := [] } } : State).endOp).releaseHeld) ∧
    (∀ (s u : State),
      s.larder.op = some (.rehash true true) →
      s.slicesIdle = true →
      u = (s.quiet.setSliceSet s.rehashSet).drawSalt →
      exec .rehashSwitch s = .next (({ u with larder := { u.larder with lines := [], plru := [] } } : State).endOp).releaseHeld) ∧
    (∀ (s : State),
      s.larder.op = some .clean ∨ s.larder.op = some (.flush none) →
      s.opDrained = true →
      exec .larderOpComplete s = .next s.quiet.endOp)

/-- Scratchpad banks (R282, R283, R284, R285, R286, R288). A permitted access of a bank that is ON is served: a write stores its bytes, a read is
answered; a request that is not permitted is answered DENIED and counted; a handover begins with a write of BANK_OWNER, waits for the requests
accepted before it, and ends with the new owner and the waiting requests; modes, windows and power change as their registers are written. -/
def Obligations.ScratchpadBanks : Prop :=
    (∀ (rq : Request) (clash : BitVec 17) (later : Bool) (a : BankAt) (m : BMode) (s : State),
      isWriteOp rq.acc.op = false →
      bankAt rq.acc = some a →
      (!(s.bankIn a.b) || a.resv) = false →
      s.matchesOwner (s.rd (R.BANK_OWNER_KIND a.b)) (s.rd (R.BANK_OWNER_ID a.b)) rq.ini = true →
      (s.bank a.b).newOwner = none →
      s.bankState a.b = 0 →
      m = s.bankMode a rq.acc.op →
      s.bankLimits a m rq.acc = true →
      exec (.bankRead rq clash later) s = .next (s.quiet.serveBankRead a m rq clash.toNat later)) ∧
    (∀ (rq : Request) (stalls : BitVec 8) (a : BankAt) (m : BMode) (s : State),
      rq.acc.data.length = rq.acc.size →
      isWriteOp rq.acc.op = true →
      bankAt rq.acc = some a →
      (!(s.bankIn a.b) || a.resv) = false →
      s.matchesOwner (s.rd (R.BANK_OWNER_KIND a.b)) (s.rd (R.BANK_OWNER_ID a.b)) rq.ini = true →
      (s.bank a.b).newOwner = none →
      s.bankState a.b = 0 →
      m = s.bankMode a rq.acc.op →
      s.bankLimits a m rq.acc = true →
      exec (.bankWrite rq stalls) s = .next (s.quiet.serveBankWrite a m rq stalls.toNat)) ∧
    (∀ (rq : Request) (stalls : BitVec 8) (a : BankAt) (s : State),
      rq.acc.data.length = rq.acc.size →
      isWriteOp rq.acc.op = true →
      bankAt rq.acc = some a →
      (!(s.bankIn a.b) || a.resv) = false →
      s.rd (R.BANK_OWNER_KIND a.b) ≠ 5 →
      (s.bank a.b).newOwner = none →
      (s.matchesOwner (s.rd (R.BANK_OWNER_KIND a.b)) (s.rd (R.BANK_OWNER_ID a.b)) rq.ini || s.passesOwner rq.ini) = false →
      exec (.bankWrite rq stalls) s = .next ((s.quiet.reply rq .denied).bump (R.BANK_STAT_DENIED a.b))) ∧
    (∀ (ini : Ini) (b : Fin 2048) (v : BitVec 32) (s u z : State) (kind id : Nat),
      s.bankIn b.val = true →
      u = s.quiet.w1cOnly (.BANK_OWNER b.val) v →
      kind = (R.BANK_OWNER_KIND b.val).of v ∧ id = (R.BANK_OWNER_ID b.val).of v →
      kind < 8 →
      (u.is1 (R.BANK_OWNER_PENDING b.val) || !(ownerOk kind id) || u.keptByTest.contains (.bank b.val)) = false →
      z = (u.abortTestOf (.bank b.val)).heldPower (.bank b.val) →
      s.turnedAway (R.BANK_OWNER_KIND b.val).off = none →
      exec (.bankOwnerWrite ini b v) s = .next (((z.setBank b.val { z.bank b.val with newOwner := some (kind, id), accepted := (z.bank b.val).accepted ++ (z.bank b.val).waiting, waiting := [] }).set1 (R.BANK_OWNER_PENDING b.val)).okWrite ini)) ∧
    (∀ (b : Fin 2048) (k i : Nat) (s u : State),
      (s.bank b.val).accepted = [] →
      (s.bank b.val).newOwner = some (k, i) →
      u = s.quiet.setBank b.val { s.bank b.val with newOwner := none } →
      exec (.handoverComplete b) s = .next ((((u.wr (R.BANK_OWNER_KIND b.val) k).wr (R.BANK_OWNER_ID b.val) i).clr (R.BANK_OWNER_PENDING b.val)).bankRecheck b.val)) ∧
    (∀ (ini : Ini) (b : Fin 2048) (v : BitVec 32) (s u z : State),
      s.bankIn b.val = true →
      u = s.quiet.w1cOnly (.BANK_CFG b.val) v →
      z = u.storeReg (.BANK_CFG b.val) v →
      u.bankQueued b.val false = 0 ∧ u.bankQueued b.val true = 0 →
      (modeWidthOk (z.rd (R.BANK_CFG_A_MODE b.val)) (z.rd (R.BANK_CFG_A_WIDTH b.val)) && modeWidthOk (z.rd (R.BANK_CFG_B_MODE b.val)) (z.rd (R.BANK_CFG_B_WIDTH b.val))) = true →
      s.turnedAway (R.BANK_CFG_A_MODE b.val).off = none →
      exec (.bankCfgWrite ini b v) s = .next (z.okWrite ini)) ∧
    (∀ (ini : Ini) (b : Fin 2048) (portB : Bool) (v : BitVec 32) (s : State),
      s.bankIn b.val = true →
      ¬ ((R.BANK_WIN_A_LEN_W b.val).of v = 0 ∨ 16384 < (R.BANK_WIN_A_BASE_W b.val).of v + (R.BANK_WIN_A_LEN_W b.val).of v ∨ s.bankQueued b.val portB ≠ 0) →
      s.turnedAway (if portB then R.BANK_WIN_B_LEN_W b.val else R.BANK_WIN_A_LEN_W b.val).off = none →
      exec (.bankWinWrite ini b portB v) s = .next ((s.quiet.storeReg (if portB then .BANK_WIN_B b.val else .BANK_WIN_A b.val) v).okWrite ini)) ∧
    (∀ (ini : Ini) (b : Fin 2048) (v : BitVec 32) (s u z : State),
      s.bankIn b.val = true →
      u = s.quiet.wr (R.BANK_PWR_AUTO_WAKE b.val) ((R.BANK_PWR_AUTO_WAKE b.val).of v) →
      (R.BANK_PWR_REQ b.val).of v ≠ 3 →
      u.underTest.contains (.bank b.val) = false →
      z = u.wr (R.BANK_PWR_REQ b.val) ((R.BANK_PWR_REQ b.val).of v) →
      ¬ (z.bankState b.val = 3 ∨ z.bankState b.val = (R.BANK_PWR_REQ b.val).of v) →
      s.turnedAway (R.BANK_PWR_REQ b.val).off = none →
      exec (.bankPowerRequest ini b v) s = .next (((z.setBank b.val { z.bank b.val with toward := some ((R.BANK_PWR_REQ b.val).of v) }).wr (R.BANK_PWR_STATE b.val) 3).okWrite ini)) ∧
    (∀ (b : Fin 2048) (st : Nat) (s u z : State),
      (s.bank b.val).toward = some st →
      st ≠ 2 →
      u = (s.quiet.setBank b.val { s.bank b.val with toward := none }).wr (R.BANK_PWR_STATE b.val) st →
      z = u.bankRecheck b.val →
      exec (.bankPowerChangeDone b) s = .next (z.bankToward b.val (z.rd (R.BANK_PWR_REQ b.val)))) ∧
    (∀ (b : Fin 2048) (s u z : State),
      (s.bank b.val).toward = some 2 →
      u = ((s.quiet.setBank b.val { s.bank b.val with toward := none }).wr (R.BANK_PWR_STATE b.val) 2).loseBank b.val →
      z = u.bankRecheck b.val →
      exec (.bankPowerChangeDone b) s = .next (z.bankToward b.val (z.rd (R.BANK_PWR_REQ b.val))))

/-- Night porters and queued rewrites (R295, R297, R301, R302, R303, R304). A visit makes the row repairs that are due, reads the next unit and moves on;
the end of PASS starts the next pass or sets LATE; EN starts a pass at unit 0; a queued rewrite writes a corrected word back and marks its entry
REWRITTEN; an injection is armed for a unit in service only. -/
def Obligations.NightPorters : Prop :=
    (∀ (d : Fin 2) (i : Nat) (s u : State),
      s.porterRuns d.val = true →
      (s.porter d.val).done = false →
      i = s.rd (R.PORTER_POS_UNIT d.val) →
      i < 8388607 →
      u = s.quiet.each (List.range 96) (fun v k => v.repairDue d.val k) →
      exec (.porterVisit d) s = .next (((if i = 0 then u.passBegins d.val else u).porterVisit d.val i).wr (R.PORTER_POS_UNIT d.val) (i + 1))) ∧
    (∀ (d : Fin 2) (s : State),
      s.porterRuns d.val = true →
      (s.porter d.val).done = true →
      exec (.porterPassEnd d) s = .next (s.quiet.setPorter d.val { s.porter d.val with done := false })) ∧
    (∀ (d : Fin 2) (s : State),
      s.porterRuns d.val = true →
      (s.porter d.val).done = false →
      exec (.porterPassEnd d) s = .next ((s.quiet.setPorter d.val { s.porter d.val with passOver := true }).set1 (R.PORTER_STAT_LATE d.val))) ∧
    (∀ (ini : Ini) (d : Fin 2) (v : BitVec 32) (s u : State),
      s.is1 (R.PORTER_CTL_EN d.val) = false →
      u = s.quiet.storeReg (.PORTER_CTL d.val) v →
      u.is1 (R.PORTER_CTL_EN d.val) = true →
      s.turnedAway (R.PORTER_CTL_EN d.val).off = none →
      exec (.porterEnWrite ini d v) s = .next (((u.clr (R.PORTER_POS_UNIT d.val)).setPorter d.val { u.porter d.val with done := false, passOver := false }).okWrite ini)) ∧
    (∀ (d : Fin 2) (k : Fin 96) (e : TrackEntry) (s u z : State),
      s.porterRuns d.val = true →
      u = s.quiet.repairDue d.val k.val →
      (u.track (96 * d.val + k.val)).find? (fun e => e.state == .queued && u.porterReaches (trackedUnit d.val k.val e.addr)) = some e →
      (z = u.setTrack (96 * d.val + k.val) ((u.track (96 * d.val + k.val)).map fun x => if x.addr = e.addr then { x with state := .rewritten, count := 0, full := false, again := false } else x)) →
      z.unitHolds (trackedUnit d.val k.val e.addr) e.addr = true →
      exec (.queuedRewrite d k) s = .next (z.porterRead (trackedUnit d.val k.val e.addr) id e.addr).1) ∧
    (∀ (u : Unit') (addr : Nat) (s : State),
      wordStatus (s.wordCells u addr) = .corrected →
      s.porterRead u id addr = (((s.rewriteWord u addr).afterStore u addr).bump (R.PROT_CNT_SBE u.die), false)) ∧
    (∀ (ini : Ini) (d : Fin 2) (v : BitVec 32) (s u : State) (k : Nat),
      u = s.quiet.storeReg (.PROT_FLIP_CTL d.val) v →
      k = u.rd (R.PROT_FLIP_CTL_UNIT d.val) →
      u.is1 (R.PROT_FLIP_CTL_KIND d.val) = true →
      u.bankIn (1024 * d.val + k) = true →
      k < 1024 →
      s.turnedAway (R.PROT_FLIP_CTL_ARM d.val).off = none →
      exec (.flipArm ini d v) s = .next (u.okWrite ini))

/-- SDRAM channels (R306, R307, R308, R309, R310, R325, R328). A usable configuration is taken while every channel is OFF; bring-up of an OFF or FAILED
channel begins training; training that ends well goes on to INIT, and otherwise the channel is FAILED with the step and an event; INIT done leaves
every line of the channel void and the channel READY; a READY channel whose sweep is not running enters self-refresh by command and leaves it by
command; a populated channel is switched off from any state; a refresh of a READY channel goes out, and a temperature poll of one shows the doubled
rate; a strobe retune changes nothing; an alert makes the channel send its commands again. -/
def Obligations.SdramChannels : Prop :=
    (∀ (ini : Ini) (v : BitVec 32) (s u z : State),
      u = s.quiet.w1cOnly .SD_CFG v →
      z = u.storeReg .SD_CFG v →
      (List.range 12).all (fun c => u.chState c == .off) = true →
      z.populated.length = 1 ∨ z.populated.length = 2 ∨ z.populated.length = 3 ∨ z.populated.length = 4 ∨ z.populated.length = 6 ∨ z.populated.length = 12 →
      (if z.is1 R.SD_CFG_TWO_MOD then (z.ranks == 2 || z.ranks == 4) && decide (z.rd R.SD_CFG_RATE ≤ 2) else (z.ranks == 1 || z.ranks == 2)) = true →
      s.turnedAway (R.SD_CFG_POP).off = none →
      exec (.sdCfgWrite ini v) s = .next (z.okWrite ini)) ∧
    (∀ (ini : Ini) (c : Fin 12) (s : State),
      s.bit R.SD_CFG_POP c.val = true →
      s.chState c.val = .off ∨ s.chState c.val = .failed →
      s.turnedAway (R.SD_CH_CTL_CMD c.val).off = none →
      exec (.bringUp ini c) s = .next (((s.quiet.wr (R.SD_CH_STAT_TRAIN_STEP c.val) 0).setChState c.val .training).okWrite ini)) ∧
    (∀ (c : Fin 12) (s : State),
      s.chState c.val = .training →
      exec (.trainingComplete c none) s = .next (s.quiet.setChState c.val .init)) ∧
    (∀ (c : Fin 12) (k : Fin 5) (s : State),
      s.chState c.val = .training →
      exec (.trainingComplete c (some k)) s = .next (((s.quiet.wr (R.SD_CH_STAT_TRAIN_STEP c.val) (k.val + 1)).setChState c.val .failed).log .sdTrainFail [])) ∧
    (∀ (c : Fin 12) (s : State),
      s.chState c.val = .init →
      exec (.initComplete c true) s = .next (({ s.quiet with sdram := { s.sdram with
        lines := s.sdram.lines.filter (fun e => (s.lineChannel e.1).1 != c.val) } } : State).setChState c.val .ready)) ∧
    (∀ (ini : Ini) (c : Fin 12) (s : State),
      s.bit R.SD_CFG_POP c.val = true →
      s.chState c.val = .ready →
      s.sweeping c.val = false →
      s.turnedAway (R.SD_CH_CTL_CMD c.val).off = none →
      exec (.srEnter ini c) s = .next ((s.quiet.setChState c.val .selfRefresh).okWrite ini)) ∧
    (∀ (ini : Ini) (c : Fin 12) (s : State),
      s.bit R.SD_CFG_POP c.val = true →
      s.chState c.val = .selfRefresh →
      s.turnedAway (R.SD_CH_CTL_CMD c.val).off = none →
      exec (.srExit ini c) s = .next ((s.quiet.setChState c.val .ready).okWrite ini)) ∧
    (∀ (ini : Ini) (c : Fin 12) (s : State),
      s.bit R.SD_CFG_POP c.val = true →
      s.turnedAway (R.SD_CH_CTL_CMD c.val).off = none →
      exec (.channelOff ini c) s = .next ((({ s.quiet with sdram := { s.sdram with
        sweep := s.sdram.sweep.filter (fun e => e.1 != c.val)
        srWait := s.sdram.srWait.filter (· != c.val) } } : State).setChState c.val .off).okWrite ini)) ∧
    (∀ (c : Fin 12) (s : State),
      s.chState c.val = .ready →
      exec (.sdramRefresh c) s = .next (s.quiet.emit (.sdRefresh c.val))) ∧
    (∀ (c : Fin 12) (doubled : Bool) (s : State),
      s.chState c.val = .ready →
      exec (.mr4Poll c doubled) s = .next (s.quiet.wrb (R.SD_CH_STAT_REFRESH_X2 c.val) doubled)) ∧
    (∀ (c : Fin 12) (s : State),
      exec (.strobeRetune c) s = .next s.quiet) ∧
    (∀ (c : Fin 12) (s : State),
      exec (.sdAlert c) s = .next (s.quiet.emit (.sdRetry c.val)))

/-- Lines, keys and windows of SDRAM (R314, R316, R319, R320, R321, R322, R323, R327). At a READY channel that is not frozen: a line that is void reads as
zeros under a key ID that is PLAIN or has its key; a sound line with the key tag of its key ID is read back, decrypted; a write-back under a PLAIN key
ID stores the line as it is with the key tag, and one under a key ID with a key stores it under that key and sends its cipher text. GENERATE and
SET_PLAIN are taken for an EMPTY key ID, RETIRE for a PLAIN one that no window names, SWEEP for a RETIRED one, and each ends with the state of the key
ID that R316 gives; the limit of a key window that is off is written; the scrub of a READY channel visits its next line, leaves a sound one, and
writes a corrected one back; the end of the scrub's period begins the next pass or sets LATE. -/
def Obligations.SdramLinesAndKeys : Prop :=
    (∀ (l : BitVec 35) (k key : Nat) (s : State),
      s.sliceOf (l.toNat * 128) = some k →
      (s.slice k).misses.any (fun m => m.line == l.toNat && m.ans.isNone) = true →
      s.firstWb l.toNat = none →
      s.chState (s.lineChannel l.toNat).1 = .ready →
      s.chFrozen (s.lineChannel l.toNat).1 = false →
      s.sdLine l.toNat = SdLine.void →
      s.keyOf (l.toNat * 128) = some key →
      s.kstate key = .xts ∨ s.kstate key = .plain →
      exec (.sdramFill l []) s = .next (((s.quiet.setSdLine l.toNat SdLine.void).emit (.sdRead (s.sdPlace l.toNat))).setSlice k { s.slice k with misses := (s.slice k).misses.map fun m =>
        if m.line == l.toNat then { m with ans := some (⟨.ok, 0, 0, key⟩ : FillAns) } else m })) ∧
    (∀ (l : BitVec 35) (k key : Nat) (x : SdLine) (s : State),
      s.sliceOf (l.toNat * 128) = some k →
      (s.slice k).misses.any (fun m => m.line == l.toNat && m.ans.isNone) = true →
      s.firstWb l.toNat = none →
      s.chState (s.lineChannel l.toNat).1 = .ready →
      s.chFrozen (s.lineChannel l.toNat).1 = false →
      x = s.sdLine l.toNat →
      x.wrong = [] ∧ x.tag = keyTag key ∧ keyTag key ≠ voidTag →
      s.keyOf (l.toNat * 128) = some key →
      s.kstate key = .xts ∨ s.kstate key = .plain →
      exec (.sdramFill l []) s = .next (((s.quiet.setSdLine l.toNat x).emit (.sdRead (s.sdPlace l.toNat))).setSlice k { s.slice k with misses := (s.slice k).misses.map fun m =>
        if m.line == l.toNat then { m with ans := some (⟨.ok, s.decryptLine key l.toNat x 0, x.poison, key⟩ : FillAns) } else m })) ∧
    (∀ (l : BitVec 35) (w : Wb) (x : SdLine) (s : State),
      s.firstWb l.toNat = some w →
      w.stage = .sent →
      s.chState (s.lineChannel l.toNat).1 = .ready →
      s.chFrozen (s.lineChannel l.toNat).1 = false →
      s.kstate w.key = .xts →
      x = ⟨w.data, storeGet none w.key s.sdram.keys, keyTag w.key, w.poison, []⟩ →
      exec (.sdramWriteback l) s = .next (((s.quiet.setSdLine l.toNat x).emit (.sdWrite (s.sdPlace l.toNat) (codewords (x.cipher l.toNat) (keyTag w.key) w.poison))).setFirstWb l.toNat
          (some { w with stage := .answered .ok }))) ∧
    (∀ (l : BitVec 35) (w : Wb) (s : State),
      s.firstWb l.toNat = some w →
      w.stage = .sent →
      s.chState (s.lineChannel l.toNat).1 = .ready →
      s.chFrozen (s.lineChannel l.toNat).1 = false →
      s.kstate w.key = .plain →
      exec (.sdramWriteback l) s = .next (((s.quiet.setSdLine l.toNat ⟨w.data, none, keyTag w.key, w.poison, []⟩).emit
        (.sdWrite (s.sdPlace l.toNat) (codewords w.data (keyTag w.key) w.poison))).setFirstWb l.toNat
          (some { w with stage := .answered .ok }))) ∧
    (∀ (ini : Ini) (k : Fin 64) (s u : State),
      s.mkeyBarred 1 = false →
      u = s.quiet.storeReg .MKEY_CMD (mkeyValue k.val 1) →
      R.MKEY_CMD_CMD.of (mkeyValue k.val 1) = 1 ∧ R.MKEY_CMD_KEY_ID.of (mkeyValue k.val 1) = k.val →
      u.is1 R.MKEY_CMD_BUSY = false →
      u.kstate k.val = .empty →
      u.is1 R.RNG_STAT_HEALTHY = true →
      s.turnedAway R.MKEY_CMD_CMD.off = none →
      exec (.generate ini k) s = .next ((({ u with sdram := { u.sdram with cmd := some (k.val, 1) } } : State).set1 R.MKEY_CMD_BUSY).okWrite ini)) ∧
    (∀ (k : Nat) (s : State),
      s.sdram.cmd = some (k, 1) →
      exec .keyGenerated s = .next ((({ s.quiet with sdram := { s.sdram with keys := storeSet none k (some s.fresh) s.sdram.keys } } : State).drawn.setKstate k .xts).mkeyEnd)) ∧
    (∀ (ini : Ini) (k : Fin 64) (s u : State),
      s.mkeyBarred 2 = false →
      u = s.quiet.storeReg .MKEY_CMD (mkeyValue k.val 2) →
      R.MKEY_CMD_CMD.of (mkeyValue k.val 2) = 2 ∧ R.MKEY_CMD_KEY_ID.of (mkeyValue k.val 2) = k.val →
      u.is1 R.MKEY_CMD_BUSY = false →
      u.kstate k.val = .empty →
      s.turnedAway R.MKEY_CMD_CMD.off = none →
      exec (.setPlain ini k) s = .next (((u.setKstate k.val .plain).set1 R.MKEY_CMD_DONE).okWrite ini)) ∧
    (∀ (ini : Ini) (k : Fin 64) (s u : State),
      u = s.quiet.storeReg .MKEY_CMD (mkeyValue k.val 3) →
      R.MKEY_CMD_CMD.of (mkeyValue k.val 3) = 3 ∧ R.MKEY_CMD_KEY_ID.of (mkeyValue k.val 3) = k.val →
      u.is1 R.MKEY_CMD_BUSY = false →
      u.kstate k.val = .plain →
      u.keyNamed k.val = false →
      u.is1 R.LARDER_CTL_BUSY = false →
      s.turnedAway R.MKEY_CMD_CMD.off = none →
      exec (.retire ini k) s = .next ((((u.beginOp (.flush (some k.val))).cleanLines true 1 k.val 0).mkeyBegin k.val 3).okWrite ini)) ∧
    (∀ (k : Nat) (s : State),
      s.sdram.cmd = some (k, 3) →
      s.larder.op ≠ some (.flush (some k)) →
      exec .retireComplete s = .next (((s.quiet.setKstate k .retired).dropKey k).mkeyEnd)) ∧
    (∀ (ini : Ini) (k : Fin 64) (s u : State),
      u = s.quiet.storeReg .MKEY_CMD (mkeyValue k.val 4) →
      R.MKEY_CMD_CMD.of (mkeyValue k.val 4) = 4 ∧ R.MKEY_CMD_KEY_ID.of (mkeyValue k.val 4) = k.val →
      u.is1 R.MKEY_CMD_BUSY = false →
      u.kstate k.val = .retired →
      s.turnedAway R.MKEY_CMD_CMD.off = none →
      exec (.sweep ini k) s = .next ((u.sweepBegin k.val).okWrite ini)) ∧
    (∀ (c : Fin 12) (k : Nat) (s : State),
      s.sdram.cmd = some (k, 4) →
      s.sdram.sweep.find? (fun e => e.1 == c.val) = some (c.val, false) →
      s.sdram.srWait.contains c.val = false →
      exec (.channelSweepEnd c) s = .next (({ s.quiet with sdram := { s.sdram with
        lines := s.sdram.lines.filter (fun x => !((s.lineChannel x.1).1 == c.val && x.2.tag == keyTag k)) } } : State).dropSweep c.val)) ∧
    (∀ (k : Nat) (s : State),
      s.sdram.cmd = some (k, 4) →
      s.sdram.sweep.isEmpty = true →
      exec .sweepComplete s = .next ((s.quiet.setKeyBits k 3 0).mkeyEnd)) ∧
    (∀ (ini : Ini) (w : Fin 64) (v : BitVec 32) (s : State),
      s.is1 (R.MKEY_WIN_BASE_EN w.val) = false →
      s.turnedAway (R.MKEY_WIN_BASE_EN w.val).off = none →
      exec (.mkeyWinWrite ini w true v) s = .next ((s.quiet.storeReg (.MKEY_WIN_LIM w.val) v).okWrite ini)) ∧
    (∀ (c : Fin 12) (wrong : List (Fin 8 × Fin 20 × BitVec 8)) (l : Nat) (s u v : State),
      s.is1 R.SD_SCRUB_EN = true →
      s.bit R.SD_CFG_POP c.val = true →
      s.chState c.val = .ready →
      s.chFrozen c.val = false →
      s.scrubPos c.val < s.channelLines →
      l = s.lineAt c.val (s.scrubPos c.val) →
      u = (s.quiet.setSdLine l ((s.sdLine l).spoil wrong)).scrubLine l →
      v = { u with sdram := { u.sdram with scrub := storeSet 0 c.val (s.scrubPos c.val + 1) u.sdram.scrub } } →
      exec (.scrubLine ⟨c, wrong⟩) s = .next (if v.sdram.scrubOver && v.scrubComplete then v.scrubAgain else v)) ∧
    (∀ (l : Nat) (s u : State),
      (s.sdLine l).wrong = [] →
      u = s.emit (.sdRead (s.sdPlace l)) →
      s.scrubLine l = u) ∧
    (∀ (l : Nat) (x : SdLine) (s u : State),
      x = s.sdLine l →
      x.wrong ≠ [] →
      x.bad = false →
      s.seenLine l x = (x, s) →
      u = (s.emit (.sdRead (s.sdPlace l))).countCorrected l x →
      s.scrubLine l = u.scrubWrite l { x with wrong := [] }) ∧
    (∀ (s : State),
      s.is1 R.SD_SCRUB_EN = true →
      s.scrubComplete = true →
      exec .scrubPassEnd s = .next s.quiet.scrubAgain) ∧
    (∀ (s : State),
      s.is1 R.SD_SCRUB_EN = true →
      s.scrubComplete = false →
      exec .scrubPassEnd s = .next { s.quiet.set1 R.SD_SCRUB_LATE with sdram := { s.sdram with scrubOver := true } })

/-- Links train, fail and go down (R333, R335, R336, R348, R351). A mode OFF is always accepted and stops the group; a refused mode sets CFG_ERR and
changes nothing else; RETRAIN takes a FAILED or DOWN link to DETECT; training sets on every lane take it to TRAIN, and to ACTIVE, once 16 sets have
left, or to FAILED with a cause; 1 ms in TRAIN, and no less, fails it; a lost signal takes an ACTIVE link DOWN; raw lanes lock and lose lock one by
one. -/
def Obligations.LinksTrainAndFail : Prop :=
    (∀ (ini : Ini) (g : Fin 24) (v : BitVec 32) (s u : State),
      u = s.quiet.w1cOnly (.LINK_CTL g.val) v →
      (R.LINK_CTL_MODE g.val).of v = 0 →
      s.turnedAway (R.LINK_CTL_MODE g.val).off = none →
      exec (.linkCtlWrite ini g v) s = .next (((u.storeReg (.LINK_CTL g.val) v).linkSettle g.val).okWrite ini)) ∧
    (∀ (ini : Ini) (g : Fin 24) (v : BitVec 32) (s u : State),
      u = s.quiet.w1cOnly (.LINK_CTL g.val) v →
      (R.LINK_CTL_MODE g.val).of v ≠ 0 →
      u.linkRefuses g.val v = true →
      s.turnedAway (R.LINK_CTL_MODE g.val).off = none →
      exec (.linkCtlWrite ini g v) s = .next ((u.set1 (R.LINK_CTL_CFG_ERR g.val)).okWrite ini)) ∧
    (∀ (ini : Ini) (g : Fin 24) (s : State),
      s.lstate g.val = .failed ∨ s.lstate g.val = .down →
      s.turnedAway (R.LINK_CTL_MODE g.val).off = none →
      exec (.retrain ini g) s = .next (((s.quiet.unlock g.val).setLstate g.val .detect).okWrite ini)) ∧
    (∀ (g : Fin 24) (locked inverted : BitVec 16) (sets : List RxSet) (ts : List TSet) (s v u z : State) (all : Nat),
      s.lstate g.val = .detect →
      all = 2 ^ s.lanes g.val - 1 →
      v = (s.quiet.wrLanes g.val R.LINK_STAT_LOCKED (locked.toNat &&& all)).wrLanes g.val R.LINK_STAT_POL_INV (inverted.toNat &&& all) →
      v.readSets g.val 1 inverted.getLsbD sets = (some ts, u) →
      ts.length = s.lanes g.val →
      locked.toNat &&& all = all →
      ts.all (fun a => ts.all fun b => a.width == b.width && a.rate == b.rate && a.ssc == b.ssc && a.dev == b.dev && a.req == b.req && a.rsp == b.rsp) = true →
      z = u.pinged g.val ts →
      exec (.ts1 g locked inverted sets) s = .next ((z.setLink g.val { z.link g.val with sets := 0, trainAt := z.now }).setLstate g.val .train)) ∧
    (∀ (g : Fin 24) (sets : List RxSet) (t : TSet) (rest : List TSet) (pings : List (Nat × Nat)) (s v u : State) (c : Nat),
      s.lstate g.val = .train →
      sets ≠ [] →
      sets.length = s.lanes g.val →
      s.quiet.readSets g.val 2 (s.quiet.laneInverted g.val) sets = (some (t :: rest), v) →
      u = (v.pinged g.val (t :: rest)).wr (R.LINK_STAT_PARTNER_DEV g.val) t.dev.toNat →
      u.trainFault g.val (t :: rest) = some c →
      exec (.ts2 g sets pings) s = .next (((u.wr (R.LINK_STAT_CAUSE g.val) c).setLstate g.val .failed).log .linkTrainFail [g.val, c])) ∧
    (∀ (g : Fin 24) (sets : List RxSet) (t : TSet) (rest : List TSet) (pings : List (Nat × Nat)) (s v u : State),
      s.lstate g.val = .train →
      sets ≠ [] →
      sets.length = s.lanes g.val →
      s.quiet.readSets g.val 2 (s.quiet.laneInverted g.val) sets = (some (t :: rest), v) →
      u = (v.pinged g.val (t :: rest)).wr (R.LINK_STAT_PARTNER_DEV g.val) t.dev.toNat →
      16 ≤ pings.length →
      u.trainFault g.val (t :: rest) = none →
      16 ≤ (u.link g.val).setsSent →
      exec (.ts2 g sets pings) s = .next (u.linkUp g.val t ((laneOrder (t :: rest)).getD false) (delayOf pings))) ∧
    (∀ (g : Fin 24) (sets : List RxSet) (t : TSet) (rest : List TSet) (pings : List (Nat × Nat)) (s v u : State),
      s.lstate g.val = .train →
      sets ≠ [] →
      sets.length = s.lanes g.val →
      s.quiet.readSets g.val 2 (s.quiet.laneInverted g.val) sets = (some (t :: rest), v) →
      u = (v.pinged g.val (t :: rest)).wr (R.LINK_STAT_PARTNER_DEV g.val) t.dev.toNat →
      u.trainFault g.val (t :: rest) = none →
      pings.length < 16 ∨ (u.link g.val).setsSent < 16 →
      exec (.ts2 g sets pings) s = .next u) ∧
    (∀ (g : Fin 24) (s : State),
      s.lstate g.val = .train →
      (s.link g.val).trainAt + 156250 ≤ s.now →
      exec (.trainTimeout g) s = .next (((s.quiet.wr (R.LINK_STAT_CAUSE g.val) 10).setLstate g.val .failed).log .linkTrainFail [g.val, 10])) ∧
    (∀ (g : Fin 24) (s : State),
      s.now < (s.link g.val).trainAt + 156250 →
      exec (.trainTimeout g) s = .next s.quiet) ∧
    (∀ (g : Fin 24) (lane : Fin 16) (lock : Bool) (s : State),
      s.lstate g.val = .active →
      lane.val < s.lanes g.val →
      lane.val < 8 →
      exec (.lossOfSignal g lane lock) s = .next ((s.quiet.clrBit (R.LINK_STAT_LOCKED g.val) (lane.val % 8)).linkDown g.val (if lock then 2 else 1))) ∧
    (∀ (g : Fin 24) (lane : Fin 8) (s : State),
      s.lstate g.val = .raw →
      lane.val < s.lanes g.val →
      exec (.rawLaneLock g lane) s = .next ((((s.quiet.setLink g.val { s.link g.val with
        rxRd := if (s.link g.val).rxRd.testBit lane.val == (s.quiet.draw % 2 == 1) then (s.link g.val).rxRd else (s.link g.val).rxRd ^^^ 2 ^ lane.val }).drawn).setBit (R.RAW_STAT_LOCKED g.val) lane.val))) ∧
    (∀ (g : Fin 24) (lane : Fin 16) (lock : Bool) (s : State),
      s.lstate g.val = .raw →
      s.lanes g.val ≤ lane.val →
      exec (.lossOfSignal g lane lock) s = .next s.quiet) ∧
    (∀ (g : Fin 24) (lane : Fin 16) (lock : Bool) (s : State),
      s.lstate g.val = .raw →
      lane.val < s.lanes g.val →
      exec (.lossOfSignal g lane lock) s = .next (s.quiet.clrBit (R.RAW_STAT_LOCKED g.val) lane.val))

/-- Frames, tick markers and raw flits (R332, R338, R342, R343, R347, R352, R353, R354). A frame with an error is counted and answered as R343 says for
it, an aborted one counts its errors alone; a control frame acknowledges; 2 µs without an acknowledgement send the unacknowledged frames again, and a
16th replay takes the link DOWN; a tick marker that cannot be used sets LATE, another places the next boundary; a raw flit of received codes waits for
the region, which takes the oldest at a cycle of its clock while it takes flits, and a fifth one that waits is dropped with RAW_OVERRUN; a flit of the
fabric is transmitted in the line code, unchanged with FORM 1, and without one commas leave and RAW_UNDERRUN is set; a symbol decodes from the code
that encodes it under either running disparity. -/
def Obligations.LinkFramesAndMarkers : Prop :=
    (∀ (g : Fin 24) (f : RxFrame) (k : LinkFrame) (s u : State),
      s.lstate g.val = .active →
      f.cols.any (fun c => c.length != s.lanes g.val) = false →
      k = readFrame (s.lanes g.val) f →
      u = s.quiet.bumpN (R.LINK_ERR_CODE_ERR g.val) k.errors →
      k.aborted = false →
      k.errors ≠ 0 ∨ k.content.length < 4 ∨ Alg.crc32.of k.content ≠ k.crc.toNat →
      exec (.frame g f) s = .next (u.badFrame g.val)) ∧
    (∀ (g : Fin 24) (f : RxFrame) (k : LinkFrame) (s u : State) (h : Nat),
      s.lstate g.val = .active →
      f.cols.any (fun c => c.length != s.lanes g.val) = false →
      k = readFrame (s.lanes g.val) f →
      u = s.quiet.bumpN (R.LINK_ERR_CODE_ERR g.val) k.errors →
      k.aborted = false →
      ¬ (k.errors ≠ 0 ∨ k.content.length < 4 ∨ Alg.crc32.of k.content ≠ k.crc.toNat) →
      h = leNat (k.content.take 4) →
      h.testBit 21 = true →
      exec (.frame g f) s = .next (u.linkAck g.val (natBits h 19 10) (h.testBit 20))) ∧
    (∀ (g : Fin 24) (f : RxFrame) (s : State),
      s.lstate g.val = .active →
      f.cols.any (fun c => c.length != s.lanes g.val) = false →
      (readFrame (s.lanes g.val) f).aborted = true →
      exec (.frame g f) s = .next (s.quiet.bumpN (R.LINK_ERR_CODE_ERR g.val) (readFrame (s.lanes g.val) f).errors)) ∧
    (∀ (g : Fin 24) (s : State) (x : Link),
      s.lstate g.val = .active →
      x = s.link g.val →
      x.sent ≠ [] →
      x.sent.all (fun f => f.replays < 15) = true →
      625 ≤ 2 * (s.now - x.ackAt) →
      exec (.replayTimeout g) s = .next ((x.sent.map fun f => { f with replays := f.replays + 1 }).foldl (fun (t : State) f => t.sendSequenced g.val f)
        ((s.quiet.bump (R.LINK_ERR_REPLAY g.val)).setLink g.val
          { x with sent := x.sent.map fun f => { f with replays := f.replays + 1 }, ackAt := s.now, stream := replayStream false x.stream }))) ∧
    (∀ (g : Fin 24) (s : State),
      s.lstate g.val = .active →
      (s.link g.val).sent.any (fun f => 15 ≤ f.replays) = true →
      625 ≤ 2 * (s.now - (s.link g.val).ackAt) →
      exec (.replayTimeout g) s = .next ((s.quiet.bump (R.LINK_ERR_REPLAY g.val)).linkDown g.val 3)) ∧
    (∀ (g : Fin 24) (s : State),
      2 * (s.now - (s.link g.val).ackAt) < 625 →
      exec (.replayTimeout g) s = .next s.quiet) ∧
    (∀ (g : Fin 24) (count offset : BitVec 8) (frac : Fin 64) (s : State) (arr src place : Int),
      s.rd R.TICK_CTL_SRC = 2 →
      s.rd R.TICK_ALIGN_CFG_GROUP = g.val →
      s.linkActive g.val = true →
      s.is1 R.TICK_CTL_RUNNING = true →
      arr = 64 * s.now + frac.val →
      src = arr - offset.toNat - s.rd (R.LINK_DELAY_DELAY g.val) →
      place = nearestEdge (src + 64 * (s.rd R.TICK_LAYOUT_PERIOD + ofSigned 16 (s.rd R.TICK_ALIGN_CFG_ADJ))) →
      64 * place - arr < 1000 →
      exec (.tickMarker g count offset frac) s = .next (s.quiet.set1 R.TICK_ALIGN_STAT_LATE)) ∧
    (∀ (g : Fin 24) (count offset : BitVec 8) (frac : Fin 64) (s : State) (arr src place : Int),
      s.rd R.TICK_CTL_SRC = 2 →
      s.rd R.TICK_ALIGN_CFG_GROUP = g.val →
      s.linkActive g.val = true →
      s.is1 R.TICK_CTL_RUNNING = true →
      arr = 64 * s.now + frac.val →
      src = arr - offset.toNat - s.rd (R.LINK_DELAY_DELAY g.val) →
      place = nearestEdge (src + 64 * (s.rd R.TICK_LAYOUT_PERIOD + ofSigned 16 (s.rd R.TICK_ALIGN_CFG_ADJ))) →
      1000 ≤ 64 * place - arr →
      signedBits 8 (count.toNat - s.countNear src) = 0 →
      exec (.tickMarker g count offset frac) s = .next ((s.quiet.wr R.TICK_ALIGN_STAT_CNT_DIFF 0).markerPlaces place)) ∧
    (∀ (g : Fin 24) (codes : List (BitVec 10)) (s u : State) (r : List (Option Sym) × Nat) (flit : BitVec 512),
      codes ≠ [] ∧ codes.length ≤ 48 →
      s.lstate g.val = .raw →
      codes.length % s.lanes g.val = 0 →
      r = decodeCodes (s.lanes g.val) (s.link g.val).rxRd 0 codes →
      r.1.all (·.isSome) = true →
      u = (s.quiet.bumpN (R.RAW_STAT_ERR_SYM g.val) 0).setLink g.val { s.link g.val with rxRd := r.2 } →
      flit = s.quiet.rawFlitOf g.val codes r.1 →
      (u.link g.val).rawIn.length < 4 →
      exec (.rawFlitIn g codes) s = .next (u.setLink g.val { u.link g.val with rawIn := (u.link g.val).rawIn ++ [flit] })) ∧
    (∀ (g : Fin 24) (codes : List (BitVec 10)) (s u : State) (r : List (Option Sym) × Nat) (flit : BitVec 512),
      codes ≠ [] ∧ codes.length ≤ 48 →
      s.lstate g.val = .raw →
      codes.length % s.lanes g.val = 0 →
      r = decodeCodes (s.lanes g.val) (s.link g.val).rxRd 0 codes →
      r.1.all (·.isSome) = true →
      u = (s.quiet.bumpN (R.RAW_STAT_ERR_SYM g.val) 0).setLink g.val { s.link g.val with rxRd := r.2 } →
      flit = s.quiet.rawFlitOf g.val codes r.1 →
      4 ≤ (u.link g.val).rawIn.length →
      exec (.rawFlitIn g codes) s = .next (u.set1 (R.RAW_STAT_RAW_OVERRUN g.val))) ∧
    (∀ (g : Nat) (f : BitVec 512) (rest : List (BitVec 512)) (s : State),
      (s.link g).rawIn = f :: rest →
      s.takesFlits (s.rd (R.RAW_CFG_REGION g)) = true →
      s.deliverRaw g 1 = (s.setLink g { s.link g with rawIn := rest }).toFabricRaw g f) ∧
    (∀ (g k : Nat) (s : State),
      s.takesFlits (s.rd (R.RAW_CFG_REGION g)) = false →
      s.deliverRaw g k = s) ∧
    (∀ (g : Fin 24) (s : State),
      s.lstate g.val = .raw →
      s.linesReset = false →
      exec (.rawFlitOut g none) s = .next ((s.quiet.set1 (R.RAW_STAT_RAW_UNDERRUN g.val)).sendEncoded g.val [List.replicate (s.lanes g.val) symComma])) ∧
    (∀ (g : Fin 24) (f : BitVec 512) (cols : Nat) (s : State),
      s.lstate g.val = .raw →
      s.linesReset = false →
      cols = rawCols f →
      cols ≠ 0 →
      cols ≤ 48 / s.lanes g.val →
      s.takesFlits (s.rd (R.RAW_CFG_REGION g.val)) = true →
      s.is1 (R.RAW_CFG_FORM g.val) = true →
      exec (.rawFlitOut g (some f)) s = .next (s.quiet.emit (.line g.val (rowsOf (s.lanes g.val) cols ((List.range (cols * s.lanes g.val)).map (rawSym f)))))) ∧
    (∀ (g : Fin 24) (f : BitVec 512) (cols : Nat) (s : State),
      s.lstate g.val = .raw →
      s.linesReset = false →
      cols = rawCols f →
      cols ≠ 0 →
      cols ≤ 48 / s.lanes g.val →
      s.takesFlits (s.rd (R.RAW_CFG_REGION g.val)) = true →
      s.is1 (R.RAW_CFG_FORM g.val) = false →
      exec (.rawFlitOut g (some f)) s = .next (s.quiet.sendEncoded g.val (rowsOf (s.lanes g.val) cols
        ((List.range (cols * s.lanes g.val)).map fun i => (⟨(rawSym f i).getLsbD 8, (rawSym f i).extractLsb' 0 8⟩ : Sym))))) ∧
    (∀ (rd : Bool) (y : Sym) (c : BitVec 10),
      encodeSym rd y = some c →
      decodeSym rd c = some y)

/-- Twin records (R357, R359, R365, R367, R369, R373, R375). A record of a kind that the table does not list is answered DECODE; a record of a listed kind
from the partner takes effect and is answered OK: JOIN is compared, MIRROR_DATA kept, MIRROR_END commits a complete stream, CHECK compares check
values, RESIGN declares the primary lost; such a record of another device is answered OK, changes nothing and is logged as a fault that no table
classifies (the model's choice, log entry 67); an ARRIVE of a global barrier is counted by its leader, and a RELEASE that was asked for releases a
member's barrier; any other barrier record is answered OK and logged likewise (the model's choice, log entry 67); a RESET with a new ID is forwarded
and performed. -/
def Obligations.TwinRecords : Prop :=
    (∀ (rq : Request) (s : State),
      rq.acc.op = .nwr ∧ rq.acc.dstNode = twinNode →
      8 < twinKind rq →
      exec (.join rq) s = .next (s.quiet.reply rq .decode)) ∧
    (∀ (rq : Request) (s : State),
      rq.acc.op = .nwr ∧ rq.acc.dstNode = twinNode →
      twinKind rq = 4 →
      16 ≤ rq.acc.data.length →
      s.fromPeer rq = true →
      exec (.join rq) s = .next ((s.quiet.joined (recordNat rq 0 4) (recordNat rq 4 1) (recordNat rq 8 8)).reply rq .ok)) ∧
    (∀ (rq : Request) (s u v : State) (off : Nat),
      rq.acc.op = .nwr ∧ rq.acc.dstNode = twinNode →
      twinKind rq = 1 →
      1 ≤ rq.acc.data.length →
      s.fromPeer rq = true →
      s.twin.standby = true →
      off = rq.acc.addr % 2 ^ 40 →
      u = cond (decide (off = 0)) (s.quiet.setTwin { s.twin with rx := [], rxLost := [] }) s.quiet →
      v = u.setTwin { u.twin with rx := ((List.range rq.acc.data.length).zip rq.acc.data).foldl (fun m (e : Nat × Byte) => storeSet 0 (off + e.1) (1 + e.2.toNat + (cond (rq.acc.poison.testBit ((rq.acc.addr % 8 + e.1) / 8)) 256 0)) m) u.twin.rx } →
      exec (.mirrorData rq) s = .next ((v.mirrorBanks (rxBanks u.twin.rx 2200 0) off (off + rq.acc.data.length)).reply rq .ok)) ∧
    (∀ (rq : Request) (s : State),
      rq.acc.op = .nwr ∧ rq.acc.dstNode = twinNode →
      twinKind rq = 2 →
      16 ≤ rq.acc.data.length →
      s.fromPeer rq = true →
      s.twin.standby = true →
      exec (.mirrorEnd rq) s = .next ((s.quiet.commitMirror (recordNat rq 0 8) (recordNat rq 8 8)).reply rq .ok)) ∧
    (∀ (rq : Request) (s : State),
      rq.acc.op = .nwr ∧ rq.acc.dstNode = twinNode →
      twinKind rq = 3 →
      16 ≤ rq.acc.data.length →
      s.fromPeer rq = true →
      s.twin.paired.isNone = false →
      exec (.check rq) s = .next (((s.quiet.setTwin { s.twin with peer := keepChecks (s.twin.peer ++ [(recordNat rq 0 8, recordNat rq 8 4)]) }).compareCheck
        (recordNat rq 0 8)).reply rq .ok)) ∧
    (∀ (rq : Request) (s : State),
      rq.acc.op = .nwr ∧ rq.acc.dstNode = twinNode →
      twinKind rq = 5 →
      8 ≤ rq.acc.data.length →
      s.fromPeer rq = true →
      s.twin.standby = true →
      s.pstate = .standby ∨ s.pstate = .joining ∨ s.pstate = .taking →
      exec (.resign rq) s = .next ((s.quiet.primaryLost (.resign (recordNat rq 0 8))).reply rq .ok)) ∧
    (∀ (rq : Request) (s : State),
      rq.acc.op = .nwr ∧ rq.acc.dstNode = twinNode →
      twinKind rq = 4 →
      16 ≤ rq.acc.data.length →
      s.fromPeer rq = false →
      exec (.join rq) s = .next ((s.quiet.log (.unclassified 8) []).reply rq .ok)) ∧
    (∀ (rq : Request) (s : State),
      rq.acc.op = .nwr ∧ rq.acc.dstNode = twinNode →
      twinKind rq = 1 →
      1 ≤ rq.acc.data.length →
      s.fromPeer rq = false →
      exec (.mirrorData rq) s = .next ((s.quiet.log (.unclassified 8) []).reply rq .ok)) ∧
    (∀ (rq : Request) (s : State),
      rq.acc.op = .nwr ∧ rq.acc.dstNode = twinNode →
      twinKind rq = 2 →
      16 ≤ rq.acc.data.length →
      s.fromPeer rq = false →
      exec (.mirrorEnd rq) s = .next ((s.quiet.log (.unclassified 8) []).reply rq .ok)) ∧
    (∀ (rq : Request) (s : State),
      rq.acc.op = .nwr ∧ rq.acc.dstNode = twinNode →
      twinKind rq = 3 →
      16 ≤ rq.acc.data.length →
      s.fromPeer rq = false →
      exec (.check rq) s = .next ((s.quiet.log (.unclassified 8) []).reply rq .ok)) ∧
    (∀ (rq : Request) (s : State),
      rq.acc.op = .nwr ∧ rq.acc.dstNode = twinNode →
      twinKind rq = 5 →
      8 ≤ rq.acc.data.length →
      s.fromPeer rq = false →
      exec (.resign rq) s = .next ((s.quiet.log (.unclassified 8) []).reply rq .ok)) ∧
    (∀ (rq : Request) (s : State) (b : Nat),
      rq.acc.op = .nwr ∧ rq.acc.dstNode = twinNode →
      twinKind rq = 6 →
      8 ≤ rq.acc.data.length →
      b = recordNat rq 0 1 →
      s.globalBar b = true ∧ s.rd (R.GBAR_CFG_LEADER b) = s.rd R.NET_CFG_DEV_NUM →
      exec (.barArrive rq) s = .next ((s.quiet.gbarCount b rq.ini.dev).reply rq .ok)) ∧
    (∀ (rq : Request) (s : State) (b : Nat),
      rq.acc.op = .nwr ∧ rq.acc.dstNode = twinNode →
      twinKind rq = 7 →
      8 ≤ rq.acc.data.length →
      b = recordNat rq 0 1 →
      s.globalBar b = true ∧ (s.gbar b).sent = true →
      exec (.barRelease rq) s = .next ((s.quiet.barRelease b).reply rq .ok)) ∧
    (∀ (rq : Request) (s : State) (b : Nat),
      rq.acc.op = .nwr ∧ rq.acc.dstNode = twinNode →
      twinKind rq = 6 →
      8 ≤ rq.acc.data.length →
      b = recordNat rq 0 1 →
      s.globalBar b = false ∨ s.rd (R.GBAR_CFG_LEADER b) ≠ s.rd R.NET_CFG_DEV_NUM →
      exec (.barArrive rq) s = .next ((s.quiet.log (.unclassified 8) []).reply rq .ok)) ∧
    (∀ (rq : Request) (s : State) (b : Nat),
      rq.acc.op = .nwr ∧ rq.acc.dstNode = twinNode →
      twinKind rq = 7 →
      8 ≤ rq.acc.data.length →
      b = recordNat rq 0 1 →
      s.globalBar b = false ∨ (s.gbar b).sent = false →
      exec (.barRelease rq) s = .next ((s.quiet.log (.unclassified 8) []).reply rq .ok)) ∧
    (∀ (rq : Request) (s : State),
      rq.acc.op ≠ .nwr ∨ rq.acc.dstNode ≠ twinNode →
      exec (.barRelease rq) s = .next s.quiet) ∧
    (∀ (rq : Request) (g : Fin 24) (s : State) (id : Nat) (u : State),
      rq.acc.op = .nwr ∧ rq.acc.dstNode = twinNode →
      twinKind rq = 8 →
      8 ≤ rq.acc.data.length →
      id = recordNat rq 0 2 →
      s.is1 R.GRESET_CTL_ACCEPT = true →
      s.twin.lastReset ≠ some id →
      u = s.quiet.forwardReset id (some g.val) →
      exec (.reset rq g) s = .next (((u.setTwin { u.twin with lastReset := some id }).askReset 4).reply rq .ok)) ∧
    (∀ (rq : Request) (g : Fin 24) (s : State) (id : Nat),
      rq.acc.op = .nwr ∧ rq.acc.dstNode = twinNode →
      twinKind rq = 8 →
      8 ≤ rq.acc.data.length →
      id = recordNat rq 0 2 →
      s.is1 R.GRESET_CTL_ACCEPT = false ∨ s.twin.lastReset = some id →
      exec (.reset rq g) s = .next (s.quiet.reply rq .ok))

/-- Twin commands, snapshots and reset broadcasts (R241, R252, R356, R364, R368, R369, R370, R373, R374, R375). A device is configured in OFF and goes to
JOINING; TAKEOVER, RESIGN and REJOIN act in the states that allow them and set CMD_ERR in every other; a complete mirror is ended with MIRROR_END; b_T
ends a takeover in SOLO or, after divergence, in STANDBY, and JOIN is offered where it may be; a snapshot request is taken unless one is BUSY or its
address is misaligned, and ends with its code; GO draws an ID, forwards a RESET with it, and with SELF 1 asks for the own reset; the global
configuration of a barrier that is local is written; answers and time-outs reach their initiator. -/
def Obligations.TwinCommands : Prop :=
    (∀ (ini : Ini) (v : BitVec 32) (s : State),
      s.pstate = .off →
      R.TWIN_CFG_EN.of v ≠ 0 →
      s.turnedAway (R.TWIN_CFG_EN).off = none →
      exec (.twinCfgWrite ini v) s = .next (((s.quiet.storeReg .TWIN_CFG v).toJoining).okWrite ini)) ∧
    (∀ (ini : Ini) (v : BitVec 32) (s : State),
      s.pstate ≠ .off →
      R.TWIN_CFG_EN.of v ≠ 0 →
      s.turnedAway (R.TWIN_CFG_EN).off = none →
      exec (.twinCfgWrite ini v) s = .next ((s.quiet.set1 R.TWIN_CTL_CMD_ERR).okWrite ini)) ∧
    (∀ (ini : Ini) (s : State),
      s.pstate = .standby →
      s.turnedAway R.TWIN_CTL_STATE.off = none →
      exec (.takeover ini) s = .next ((s.quiet.primaryLost .takeover).okWrite ini)) ∧
    (∀ (ini : Ini) (s : State),
      s.pstate = .orphan →
      s.turnedAway R.TWIN_CTL_STATE.off = none →
      exec (.takeover ini) s = .next ((s.quiet.beginTake (s.pairTick + 1) 1 false false).okWrite ini)) ∧
    (∀ (ini : Ini) (s : State),
      s.pstate ≠ .standby →
      s.pstate ≠ .orphan →
      s.turnedAway R.TWIN_CTL_STATE.off = none →
      exec (.takeover ini) s = .next ((s.quiet.set1 R.TWIN_CTL_CMD_ERR).okWrite ini)) ∧
    (∀ (ini : Ini) (s u : State),
      s.pstate = .primary →
      u = s.quiet.sendTwin s.peerDev 5 0 (leBytes 8 (s.pairTick + 1)) 0 →
      s.turnedAway R.TWIN_CTL_STATE.off = none →
      exec (.resignCmd ini) s = .next ((u.setTwin { u.twin with resign := some (s.pairTick + 1) }).okWrite ini)) ∧
    (∀ (ini : Ini) (s : State),
      s.pstate ≠ .primary →
      s.turnedAway R.TWIN_CTL_STATE.off = none →
      exec (.resignCmd ini) s = .next ((s.quiet.set1 R.TWIN_CTL_CMD_ERR).okWrite ini)) ∧
    (∀ (ini : Ini) (s : State),
      s.pstate = .fenced ∨ s.pstate = .orphan →
      s.turnedAway R.TWIN_CTL_STATE.off = none →
      exec (.rejoin ini) s = .next (s.quiet.toJoining.okWrite ini)) ∧
    (∀ (ini : Ini) (s : State),
      s.pstate ≠ .fenced →
      s.pstate ≠ .orphan →
      s.turnedAway R.TWIN_CTL_STATE.off = none →
      exec (.rejoin ini) s = .next ((s.quiet.set1 R.TWIN_CTL_CMD_ERR).okWrite ini)) ∧
    (∀ (t : TwinTx) (s u : State),
      s.twin.tx = some t →
      t.tags = [] ∧ t.data.length ≤ t.sent →
      u = (s.quiet.setTwin { s.twin with tx := none }).wr64 R.TWIN_MIRR_TICK_LO_TICK R.TWIN_MIRR_TICK_HI_TICK t.tick →
      exec .mirrorSendComplete s = .next (u.sendTwin u.peerDev 2 0 (leBytes 8 t.tick ++ leBytes 8 t.data.length) 0)) ∧
    (∀ (k : Takeover) (s u : State),
      s.twin.take = some k →
      k.tick < s.pairTick →
      k.diverge = false →
      u = k.threads.foldl (fun (t : State) n => t.takeThread k.restore n) (k.banks.foldl (fun (t : State) b => t.giveBank b.1 b.2.1 b.2.2) s.quiet) →
      exec .takeoverBoundary s = .next ((u.setTwin { u.twin with take := none, standby := false, mirrored := false, offset := 0 }).setPstate .solo |>.offerJoin)) ∧
    (∀ (k : Takeover) (s u : State),
      s.twin.take = some k →
      k.tick < s.pairTick →
      k.diverge = true →
      u = k.threads.foldl (fun (t : State) n => t.takeThread k.restore n) (k.banks.foldl (fun (t : State) b => t.giveBank b.1 b.2.1 b.2.2) s.quiet) →
      exec .takeoverBoundary s = .next ((u.setTwin { u.twin with take := none }).setPstate .standby).offerJoin) ∧
    (∀ (ini : Ini) (v : BitVec 32) (s u : State) (dest : Nat),
      u = s.quiet.storeReg .SNAP_CTL v →
      R.SNAP_CTL_REQ.of v ≠ 0 →
      dest = u.rd64 R.SNAP_DEST_LO_ADDR R.SNAP_DEST_HI_ADDR →
      u.is1 R.SNAP_CTL_BUSY = false ∧ dest % 64 = 0 →
      s.turnedAway (R.SNAP_CTL_BUSY).off = none →
      exec (.snapReq ini v) s = .next ((({ u with snapReq := some ⟨dest, some (u.rd R.SNAP_CTL_AT_TICK)⟩ } : State).set1 R.SNAP_CTL_BUSY).okWrite ini)) ∧
    (∀ (ini : Ini) (v : BitVec 32) (s u : State),
      u = s.quiet.storeReg .SNAP_CTL v →
      R.SNAP_CTL_REQ.of v ≠ 0 →
      u.is1 R.SNAP_CTL_BUSY = true ∨ u.rd64 R.SNAP_DEST_LO_ADDR R.SNAP_DEST_HI_ADDR % 64 ≠ 0 →
      s.turnedAway (R.SNAP_CTL_BUSY).off = none →
      exec (.snapReq ini v) s = .next ((u.set1 R.SNAP_CTL_ERR).okWrite ini)) ∧
    (∀ (t : TwinTx) (s : State),
      s.twin.snap = some t →
      t.tags = [] →
      t.data.length ≤ t.sent ∨ t.code ≠ .ok →
      exec .snapshotComplete s = .next ((((s.quiet.setTwin { s.twin with snap := none }).clr R.SNAP_CTL_BUSY).set1 R.SNAP_CTL_DONE).wr R.SNAP_CTL_CODE t.code.code)) ∧
    (∀ (ini : Ini) (s u : State),
      u = s.quiet.drawn.forwardReset (s.draw % 2 ^ 16) none →
      u.is1 R.GRESET_CTL_SELF = true →
      s.turnedAway R.GRESET_CTL_SELF.off = none →
      exec (.gresetGo ini) s = .next (((u.setTwin { u.twin with lastReset := some (s.draw % 2 ^ 16) }).askReset 5).okWrite ini)) ∧
    (∀ (ini : Ini) (b : Fin 16) (v : BitVec 32) (s u : State),
      u = s.quiet.w1cOnly (.GBAR_CFG b.val) v →
      u.is1 (R.SEQ_BAR_CFG_REMOTE b.val) = false →
      s.turnedAway (R.GBAR_CFG_NDEV b.val).off = none →
      exec (.gbarCfgWrite ini b v) s = .next ((u.storeReg (.GBAR_CFG b.val) v).okWrite ini)) ∧
    (∀ (node : BitVec 12) (tag : BitVec 8) (a : Answer) (s : State) (o : Outst),
      s.outst.find? (fun o => o.node == node.toNat && o.tag == tag.toNat) = some o →
      o.late = false →
      o.ans = none →
      node.toNat ≠ twinNode ∧ node.toNat ≠ snapNode ∧ node.toNat ≠ innkeeperNode →
      exec (.responseArrival node tag a) s = .next (({ s.quiet with outst := (s.outst.map
        (fun x => if (x.node == node.toNat && x.tag == tag.toNat) = true then { x with ans := some a } else x)) } : State).courierTag node.toNat)) ∧
    (∀ (node : BitVec 12) (tag : BitVec 8) (a : Answer) (s : State),
      s.outst.find? (fun o => o.node == node.toNat && o.tag == tag.toNat) = none →
      node.toNat ≠ twinNode ∧ node.toNat ≠ snapNode ∧ node.toNat ≠ innkeeperNode →
      exec (.responseArrival node tag a) s = .next ((s.quiet.lateDrop (nodeStation node.toNat)).courierTag node.toNat)) ∧
    (∀ (node : BitVec 12) (tag : BitVec 8) (s : State),
      node.toNat ≠ twinNode ∧ node.toNat ≠ snapNode ∧ node.toNat ≠ innkeeperNode →
      exec (.initiatorTimeout node tag) s = .next { s.quiet with outst := s.outst.map (fun o =>
        if (o.node == node.toNat && o.tag == tag.toNat && o.ans == none) = true then { o with late := true, space := 0, ans := some ⟨.timeout, [], 0⟩ } else o) }) ∧
    (∀ (node : BitVec 12) (tag : BitVec 8) (s u : State),
      node.toNat = twinNode ∨ node.toNat = snapNode →
      (u = { s.quiet with outst := s.outst.map (fun o => if (o.node == node.toNat && o.tag == tag.toNat && o.ans == none) = true then { o with late := true, space := 0, ans := some ⟨.timeout, [], 0⟩ } else o) }) →
      exec (.initiatorTimeout node tag) s = .next (u.engineAnswer node.toNat tag.toNat ⟨.timeout, [], 0⟩)) ∧
    (∀ (node : BitVec 12) (tag : BitVec 8) (s u : State),
      node.toNat = innkeeperNode →
      (u = { s.quiet with outst := s.outst.map (fun o => if (o.node == node.toNat && o.tag == tag.toNat && o.ans == none) = true then { o with late := true, space := 0, ans := some ⟨.timeout, [], 0⟩ } else o) }) →
      exec (.initiatorTimeout node tag) s = .next (u.bramAnswer tag.toNat ⟨.timeout, [], 0⟩))

/-- Check-value snoop units (R13, R377, R382, R384, R488). A unit is configured while EN is 0, and a write that changes an enabled unit sets CFG_ERR; a
read of the FIFO returns and pops its head, and 0 where it is empty, but the debug initiator pops nothing; a packet that passes an attached point that
carries traffic is seen by the unit, and nothing is at a point that carries none or while the units are frozen. -/
def Obligations.SnoopUnits : Prop :=
    (∀ (ini : Ini) (u : Fin 16) (k : Fin 4) (v : BitVec 32) (s : State),
      k.val = 1 →
      s.is1 (R.SNOOP_CTL_EN u.val) = false →
      s.turnedAway (R.SNOOP_CTL_EN u.val).off = none →
      exec (.snoopCtlWrite ini u k v) s = .next ((s.quiet.storeReg (.SNOOP_N u.val) v).okWrite ini)) ∧
    (∀ (ini : Ini) (u : Fin 16) (k : Fin 4) (v : BitVec 32) (s : State),
      k.val = 1 ∨ k.val = 2 ∨ k.val = 3 →
      s.is1 (R.SNOOP_CTL_EN u.val) = true →
      s.turnedAway (R.SNOOP_CTL_EN u.val).off = none →
      exec (.snoopCtlWrite ini u k v) s = .next ((s.quiet.set1 (R.SNOOP_CTL_CFG_ERR u.val)).okWrite ini)) ∧
    (∀ (ini : Ini) (u : Fin 16) (e : SnoopEntry) (rest : List SnoopEntry) (s : State),
      (s.snoop u.val).fifo = e :: rest →
      s.peeks ini = false →
      s.turnedAway (R.SNOOP_FIFO_VAL_VALUE u.val).off = none →
      exec (.snoopFifoPop ini u) s = .next ((s.quiet.setSnoop u.val { s.snoop u.val with fifo := rest }).emit (.regAnswer ini .ok e.value))) ∧
    (∀ (ini : Ini) (u : Fin 16) (e : SnoopEntry) (rest : List SnoopEntry) (s : State),
      (s.snoop u.val).fifo = e :: rest →
      s.peeks ini = true →
      s.turnedAway (R.SNOOP_FIFO_VAL_VALUE u.val).off = none →
      exec (.snoopFifoPop ini u) s = .next (s.quiet.emit (.regAnswer ini .ok e.value))) ∧
    (∀ (ini : Ini) (u : Fin 16) (s : State),
      (s.snoop u.val).fifo = [] →
      s.peeks ini = true →
      s.turnedAway (R.SNOOP_FIFO_VAL_VALUE u.val).off = none →
      exec (.snoopFifoPop ini u) s = .next (s.quiet.emit (.regAnswer ini .ok 0))) ∧
    (∀ (ini : Ini) (u : Fin 16) (s : State),
      (s.snoop u.val).fifo = [] →
      s.peeks ini = false →
      s.turnedAway (R.SNOOP_FIFO_VAL_VALUE u.val).off = none →
      exec (.snoopFifoPop ini u) s = .next ((s.quiet.setSnoop u.val { s.snoop u.val with fifo := [] }).emit (.regAnswer ini .ok 0))) ∧
    (∀ (node : BitVec 12) (dir : Bool) (p : Packet) (s : State),
      s.snoopFrozen = false →
      s.sightRuns (.port node dir p) = true →
      exec (.snoopPacket (.port node dir p)) s = .next ((List.range 16).foldl
        (fun (t : State) u => if t.snoopAt u 0 node.toNat dir then t.snoopAdd u p else t) s.quiet)) ∧
    (∀ (x : SnoopSight) (s : State),
      s.sightRuns x = false →
      exec (.snoopPacket x) s = .next s.quiet) ∧
    (∀ (x : SnoopSight) (s : State),
      s.snoopFrozen = true →
      exec (.snoopPacket x) s = .next s.quiet)

/-- Power domains (R255, R387, R388, R389, R408). A permitted request wakes an OFF domain or closes an ON one, OFF of a waking domain waits for ON, and a
refused request keeps the domain and shows the cause; a waking domain reaches ON; past the point of no return it is OFF, sends WAKE for requests it
holds, and wakes again where a request ON waits; SHUTDOWN switches every domain off; a power request, a domain's arrival at ON or OFF and the
switching off of SHUTDOWN complete in every state. -/
def Obligations.PowerDomains : Prop :=
    (∀ (ini : Ini) (d : Fin 112) (s : State),
      s.onRefusal d.val = none →
      s.dstate d.val = .off →
      s.turnedAway (R.PWR_DOM_CTL_REQ d.val).off = none →
      exec (.powerRequest ini d true) s = .next (((s.quiet.set1 (R.PWR_DOM_CTL_REQ d.val)).setDstate d.val .waking).okWrite ini)) ∧
    (∀ (ini : Ini) (d : Fin 112) (x : PwrRefuse) (s : State),
      s.onRefusal d.val = some x →
      s.turnedAway (R.PWR_DOM_CTL_REQ d.val).off = none →
      exec (.powerRequest ini d true) s = .next ((s.quiet.pwrRefuse d.val true .host x).okWrite ini)) ∧
    (∀ (ini : Ini) (d : Fin 112) (s : State),
      s.dstate d.val = .on →
      s.offRefusal d.val = none →
      s.turnedAway (R.PWR_DOM_CTL_REQ d.val).off = none →
      exec (.powerRequest ini d false) s = .next (((s.quiet.clr (R.PWR_DOM_CTL_REQ d.val)).setDstate d.val .closing).okWrite ini)) ∧
    (∀ (ini : Ini) (d : Fin 112) (s : State),
      s.dstate d.val = .off →
      s.offRefusal d.val = none →
      s.turnedAway (R.PWR_DOM_CTL_REQ d.val).off = none →
      exec (.powerRequest ini d false) s = .next (s.quiet.okWrite ini)) ∧
    (∀ (ini : Ini) (d : Fin 112) (x : PwrRefuse) (s : State),
      s.dstate d.val = .on ∨ s.dstate d.val = .off →
      s.offRefusal d.val = some x →
      s.turnedAway (R.PWR_DOM_CTL_REQ d.val).off = none →
      exec (.powerRequest ini d false) s = .next ((s.quiet.pwrRefuse d.val false .host x).okWrite ini)) ∧
    (∀ (ini : Ini) (d : Fin 112) (s : State),
      s.dstate d.val = .waking →
      s.isShutdown = false →
      s.turnedAway (R.PWR_DOM_CTL_REQ d.val).off = none →
      exec (.powerRequest ini d false) s = .next ((s.quiet.setDom d.val { s.dom d.val with offWait := (s.dom d.val).offWait ++ [.host] }).okWrite ini)) ∧
    (∀ (d : Fin 112) (s : State),
      s.dstate d.val = .waking →
      exec (.domainOn d) s = .next (s.quiet.domainOn d.val)) ∧
    (∀ (d : Fin 112) (s u : State),
      s.dstate d.val = .closing →
      (s.dom d.val).pnr = true →
      u = (if (s.quiet.domainOff d.val).park.any (fun e => e.dom == d.val) then (s.quiet.domainOff d.val).sendWake d.val else s.quiet.domainOff d.val) →
      (s.dom d.val).onWait = false →
      exec (.domainOff d) s = .next u) ∧
    (∀ (d : Fin 112) (s u : State),
      s.dstate d.val = .closing →
      (s.dom d.val).pnr = true →
      u = (if (s.quiet.domainOff d.val).park.any (fun e => e.dom == d.val) then (s.quiet.domainOff d.val).sendWake d.val else s.quiet.domainOff d.val) →
      (s.dom d.val).onWait = true →
      u.is1 (R.PWR_DOM_CTL_REQ d.val) = true →
      exec (.domainOff d) s = .next (u.setDstate d.val .waking)) ∧
    (∀ (d : Fin 112) (s u : State),
      s.dstate d.val = .closing →
      (s.dom d.val).pnr = true →
      u = (if (s.quiet.domainOff d.val).park.any (fun e => e.dom == d.val) then (s.quiet.domainOff d.val).sendWake d.val else s.quiet.domainOff d.val) →
      (s.dom d.val).onWait = true →
      u.is1 (R.PWR_DOM_CTL_REQ d.val) = false →
      exec (.domainOff d) s = .next (u.wake d.val)) ∧
    (∀ (d : Fin 112) (s : State),
      s.dstate d.val ≠ .closing ∨ (s.dom d.val).pnr = false →
      exec (.domainOff d) s = .next s.quiet) ∧
    (∀ (d : Fin 112) (s : State),
      s.dstate d.val ≠ .waking →
      exec (.domainOn d) s = .next s.quiet) ∧
    (∀ (s : State),
      s.isShutdown = false →
      exec .shutdownPowerOff s = .next s.quiet) ∧
    (∀ (ini : Ini) (d : Fin 112) (on : Bool) (s : State),
      ∃ u, exec (.powerRequest ini d on) s = .next u) ∧
    (∀ (d : Fin 112) (s : State),
      (∃ u, exec (.domainOn d) s = .next u) ∧ ∃ u, exec (.domainOff d) s = .next u) ∧
    (∀ (s : State),
      ∃ u, exec .shutdownPowerOff s = .next u) ∧
    (∀ (s : State),
      s.isShutdown = true →
      exec .shutdownPowerOff s = .next ((List.range 112).foldl (fun (t : State) d =>
        if t.dstate d = .off then t
        else
          let u := (t.unanswered d).foldl (fun (u : State) e => u.reply e.2 .aborted)
            ({ t with deliv := t.deliv.filter fun e => endpointDomain e.station e.port ≠ some d } : State)
          let v := if d < 64 then (List.range 4).foldl (fun (v : State) p => v.setPort d p { v.port d p with inq := [] }) u else u
          (v.abortHeld d).domainOff d) s.quiet))

/-- Measurement and the thermal throttle (R393, R396, R398, R400, R401, R405, R406, R407). The end of a grace time, GRACE_MS after its start, enters
ENFORCED or ends the grace; the clock step rises at most to 4, after 10 ms at or above ASK_T; a dwell of its whole length relaxes the level by one,
and DEEP goes to ENFORCED at step 4; only FULL authority releases HOLD; a sensor is readmitted; a notice that is answered with an error is logged; the
powers of an interval, currents times the supplies' voltages, are shown and averaged, and an average above LIMIT sets OVER and, at level 0, begins the
throttle; a round judges the sensors, takes the channels and governs, and a model step moves the cells and governs; wrong numbers of readings are
refused as ill-formed. -/
def Obligations.ThermalThrottle : Prop :=
    (∀ (a : Nat) (s : State),
      s.rd R.THERM_STAT_LEVEL = 1 →
      s.thermal.graceAt = some a →
      a + msCycles (s.rd R.THERM_CTL_GRACE_MS) ≤ s.now →
      s.askReached = true →
      exec .graceEnd s = .next (s.quiet.setThrottle 2 1)) ∧
    (∀ (a : Nat) (s : State),
      s.rd R.THERM_STAT_LEVEL = 1 →
      s.thermal.graceAt = some a →
      a + msCycles (s.rd R.THERM_CTL_GRACE_MS) ≤ s.now →
      s.askReached = false →
      exec .graceEnd s = .next (s.quiet.setThermal { s.thermal with graceAt := none })) ∧
    (∀ (s : State),
      s.passed s.thermal.graceAt (msCycles (s.rd R.THERM_CTL_GRACE_MS)) = false →
      exec .graceEnd s = .next s.quiet) ∧
    (∀ (a : Nat) (s : State),
      s.rd R.THERM_STAT_LEVEL = 2 →
      s.askReached = true →
      s.thermal.hotAt = some a →
      a + msCycles 10 ≤ s.now →
      s.rd R.THERM_STAT_STEP < 4 →
      exec .clockStepRise s = .next (((s.quiet.wr R.THERM_STAT_STEP (s.rd R.THERM_STAT_STEP + 1)).setThermal { s.thermal with hotAt := some s.now }).notices 2)) ∧
    (∀ (s : State),
      s.rd R.THERM_STAT_LEVEL = 2 →
      4 ≤ s.rd R.THERM_STAT_STEP →
      exec .clockStepRise s = .next s.quiet) ∧
    (∀ (a : Nat) (s : State),
      s.mayRelax = true →
      s.thermal.coolAt = some a →
      a + msCycles s.dwellMs ≤ s.now →
      s.rd R.THERM_STAT_LEVEL = 3 →
      exec .dwellEnd s = .next (s.quiet.setThrottle 2 4)) ∧
    (∀ (a : Nat) (s : State),
      s.mayRelax = true →
      s.thermal.coolAt = some a →
      a + msCycles s.dwellMs ≤ s.now →
      s.rd R.THERM_STAT_LEVEL = 2 →
      exec .dwellEnd s = .next (s.quiet.setThrottle 1 0)) ∧
    (∀ (a : Nat) (s : State),
      s.mayRelax = true →
      s.thermal.coolAt = some a →
      a + msCycles s.dwellMs ≤ s.now →
      s.rd R.THERM_STAT_LEVEL = 1 →
      exec .dwellEnd s = .next (s.quiet.setThrottle 0 0)) ∧
    (∀ (s : State),
      s.mayRelax = false ∨ s.passed s.thermal.coolAt (msCycles s.dwellMs) = false →
      exec .dwellEnd s = .next s.quiet) ∧
    (∀ (ini : Ini) (s : State),
      s.holdsFull ini = true →
      s.turnedAway R.THERM_STAT_HOLD.off = none →
      exec (.releaseHold ini) s = .next ((s.quiet.clr R.THERM_STAT_HOLD).okWrite ini)) ∧
    (∀ (ini : Ini) (s : State),
      s.holdsFull ini = false →
      exec (.releaseHold ini) s = .next (s.quiet.emit (.regAnswer ini .denied 0))) ∧
    (∀ (ini : Ini) (l : Fin 6) (v : BitVec 32) (s : State),
      s.turnedAway (R.THERM_SENS_FAIL_FAILED l.val).off = none →
      exec (.sensorReadmit ini l v) s = .next (((s.quiet.w1c (R.THERM_SENS_FAIL_FAILED l.val) v).each (indicesWith 32 v.toNat.testBit)
        fun t c => t.clr (R.THERM_CELL_FAILED (32 * l.val + c))).okWrite ini)) ∧
    (∀ (tag : BitVec 8) (a : Answer) (s u : State),
      s.thermal.notices.contains tag.toNat = true →
      s.quiet.takeAnswer noticeNode tag.toNat a = some u →
      a.code ≠ .ok →
      exec (.notifyAnswer tag a) s = .next ((u.setThermal { u.thermal with notices := u.thermal.notices.erase tag.toNat }).log .thermNotifyFail [a.code.code])) ∧
    (∀ (currents others : List Nat) (s : State),
      currents.length ≠ 112 ∨ others.length ≠ 7 →
      exec (.monitorInterval currents others) s = .fault (.illFormed "MONITOR_INTERVAL")) ∧
    (∀ (currents others powers totals : List Nat) (s u z : State),
      currents.length = 112 ∧ others.length = 7 →
      powers = ((List.range 119).zip (currents ++ others)).map (fun e => s.quiet.domainPower e.1 e.2) →
      u = (List.range 112).foldl (fun (t : State) d => t.wr (R.PWR_DOM_MW_POWER d) (min ((powers.take 112).getD d 0) (2 ^ 20 - 1))) s.quiet →
      totals = (powers.sum :: u.thermal.totals).take 100 →
      z = ((u.setThermal { u.thermal with totals := totals, powers := powers }).wr R.PWR_TOTAL_NOW (min (powers.sum / 100) 0xFFFF)).wr R.PWR_TOTAL_AVG (min (totals.sum / (100 * totals.length)) 0xFFFF) →
      ¬ 100 * z.rd R.PWR_LIMIT_LIMIT * totals.length < totals.sum →
      exec (.monitorInterval currents others) s = .next z.countDwell) ∧
    (∀ (currents others powers totals : List Nat) (s u z : State),
      currents.length = 112 ∧ others.length = 7 →
      powers = ((List.range 119).zip (currents ++ others)).map (fun e => s.quiet.domainPower e.1 e.2) →
      u = (List.range 112).foldl (fun (t : State) d => t.wr (R.PWR_DOM_MW_POWER d) (min ((powers.take 112).getD d 0) (2 ^ 20 - 1))) s.quiet →
      totals = (powers.sum :: u.thermal.totals).take 100 →
      z = ((u.setThermal { u.thermal with totals := totals, powers := powers }).wr R.PWR_TOTAL_NOW (min (powers.sum / 100) 0xFFFF)).wr R.PWR_TOTAL_AVG (min (totals.sum / (100 * totals.length)) 0xFFFF) →
      100 * z.rd R.PWR_LIMIT_LIMIT * totals.length < totals.sum →
      z.rd R.THERM_STAT_LEVEL ≠ 0 →
      exec (.monitorInterval currents others) s = .next (z.set1 R.PWR_LIMIT_OVER).countDwell) ∧
    (∀ (currents others powers totals : List Nat) (s u z : State),
      currents.length = 112 ∧ others.length = 7 →
      powers = ((List.range 119).zip (currents ++ others)).map (fun e => s.quiet.domainPower e.1 e.2) →
      u = (List.range 112).foldl (fun (t : State) d => t.wr (R.PWR_DOM_MW_POWER d) (min ((powers.take 112).getD d 0) (2 ^ 20 - 1))) s.quiet →
      totals = (powers.sum :: u.thermal.totals).take 100 →
      z = ((u.setThermal { u.thermal with totals := totals, powers := powers }).wr R.PWR_TOTAL_NOW (min (powers.sum / 100) 0xFFFF)).wr R.PWR_TOTAL_AVG (min (totals.sum / (100 * totals.length)) 0xFFFF) →
      100 * z.rd R.PWR_LIMIT_LIMIT * totals.length < totals.sum →
      z.rd R.THERM_STAT_LEVEL = 0 →
      exec (.monitorInterval currents others) s = .next (((z.set1 R.PWR_LIMIT_OVER).set1 R.THERM_STAT_POWER_SRC).setThrottle 1 0)) ∧
    (∀ (values : List (BitVec 16)) (s : State),
      values.length ≠ 256 →
      exec (.hkRound values) s = .fault (.illFormed "HK_ROUND")) ∧
    (∀ (values : List (BitVec 16)) (s u z : State),
      values.length = 256 →
      u = (List.range 192).foldl (fun (t : State) i => t.judgeSensor i (ofSigned 16 (values.getD i 0).toNat)) s.quiet.readmitAll →
      z = (((List.range 32).foldl State.judgeVccio ((List.range 256).foldl (fun (t : State) c => t.takeChannel c (values.getD c 0).toNat) u)).moveLid).govern →
      exec (.hkRound values) s = .next ((z.setThermal { z.thermal with govRound := some (z.rd R.THERM_STAT_LAYER, z.rd R.THERM_STAT_CELL) }).throttle)) ∧
    (∀ (s u : State),
      u = (List.range 224).foldl (fun (t : State) i => t.wr (R.THERM_CELL_MODEL i) (signedBits 12 (s.quiet.cellNext i))) s.quiet →
      exec .modelStep s = .next u.govern.throttle)

/-- Resets and the start sequence (R211, R408, R412, R413, R415, R416, R422). PORST_N low is a power-on reset, and its release samples TWIN_ROLE; RESET_N
low makes a device reset due; a due reset begins with its cause, but none other than RESET_N's leaves SHUTDOWN; RST_DIE closes the regions of a die;
steps 1 to 6 run in order, and a step that fails stops the start; step 6 takes the flash images that a directory with the right magic and CRC-32
names, and waits for the host without one. -/
def Obligations.ResetsAndStart : Prop :=
    (∀ (role : Bool) (s : State),
      exec (.porstN true role) s = .next ((s.quiet.setStart { s.start with porLow := false }).wrb R.TWIN_CTL_ROLE_PIN role)) ∧
    (∀ (role : Bool) (s : State),
      exec (.porstN false role) s = .next { State.reset with
        pending := s.pending, now := s.now, fresh := s.tornByLoss.fresh, fuses := s.fuses, lcFuses := s.lcFuses,
        jnl := { s.tornByLoss.jnl with queue := [] }, start := { rstLow := s.start.rstLow, porLow := true, cool := s.isShutdown || s.start.cool } }) ∧
    (∀ (s : State),
      exec (.resetN false) s = .next (s.quiet.setStart { s.start with rstLow := true, resetDue := some 2 })) ∧
    (∀ (s : State),
      exec (.resetN true) s = .next (s.quiet.setStart { s.start with rstLow := false })) ∧
    (∀ (cause : Nat) (s : State),
      s.start.resetDue = some cause →
      s.isShutdown = false ∨ cause = 2 →
      cause ≠ 3 ∨ s.deskCommitted = true →
      exec .deviceResetBegin s = .next (s.quiet.deviceReset cause)) ∧
    (∀ (cause : Nat) (s : State),
      s.start.resetDue = some cause →
      s.isShutdown = true →
      cause ≠ 2 →
      cause ≠ 3 ∨ s.deskCommitted = true →
      exec .deviceResetBegin s = .next s.quiet.resetDropped) ∧
    (∀ (s : State),
      s.start.resetDue = some 3 →
      s.deskCommitted = false →
      exec .deviceResetBegin s = .next s.quiet) ∧
    (∀ (ini : Ini) (v : BitVec 32) (s : State),
      R.RST_DIE_L1.of v = 1 →
      R.RST_DIE_L2.of v = 0 →
      s.turnedAway (R.RST_DIE_L1).off = none →
      exec (.dieReset ini v) s = .next (((List.range 32).foldl State.dieRegion s.quiet).okWrite ini)) ∧
    (∀ (s u : State),
      s.atStep 1 = true →
      s.suppliesIn = true →
      (s.start.cool && decide (760 ≤ s.tGov)) = false →
      u = s.quiet.setStart { s.start with cool := false } →
      exec .housekeepingStep s = .next (((u.itin 1 0 0 0 0).itin 1 1 0 0 0).wr R.START_STAT_STEP 2)) ∧
    (∀ (s : State),
      s.atStep 1 = true →
      s.suppliesIn = false ∨ s.start.cool = true ∧ 760 ≤ s.tGov →
      exec .housekeepingStep s = .next s.quiet) ∧
    (∀ (s u : State),
      s.atStep 2 = true →
      (lcOf s.lcFuses.lcRows).isSome = true →
      u = ((s.quiet.itin 2 0 0 0 0).reErase).showFuses →
      exec (.fuseStep true) s = .next ((u.itin 2 1 0 0 0).wr R.START_STAT_STEP 3)) ∧
    (∀ (ok : Bool) (s u : State),
      s.atStep 2 = true →
      ok = false ∨ lcOf s.lcFuses.lcRows = none →
      u = (s.quiet.itin 2 0 0 0 0).log .fuseFail [] →
      exec (.fuseStep ok) s = .next ((((u.itin 2 1 1 0 0).log .startStop []).wr R.START_STAT_STOP_STEP 2).deskReady)) ∧
    (∀ (s u : State),
      s.atStep 3 = true →
      u = ((((s.quiet.itin 3 0 0 0 0).readJournal.setStart { (s.quiet.itin 3 0 0 0 0).readJournal.start with roKept := false }).countStart).logLoss).scrubDark →
      exec (.journalStep true) s = .next (((u.wr R.IMG_SEC_FLOOR_FLOOR (u.rd (R.JNL_CNT_VALUE 0))).itin 3 1 0 0 0).wr R.START_STAT_STEP 4)) ∧
    (∀ (s u : State) (rs : List RepRec) (o : OutMap),
      s.atStep 4 = true →
      rs = s.allMapouts →
      o = outMap rs s.lcFuses.diesOut →
      o.fatal = false →
      u = ((s.quiet.itin 4 0 0 0 0).logBroken rs o).repairLoad rs o →
      exec (.repairLoad true) s = .next (((u.itin 4 1 0 0 0).wr R.START_STAT_STEP 5).deskReady)) ∧
    (∀ (tables : Bool) (s u : State) (rs : List RepRec) (o : OutMap),
      s.atStep 4 = true →
      rs = s.allMapouts →
      o = outMap rs s.lcFuses.diesOut →
      (o.fatal || !tables) = true →
      u = (s.quiet.itin 4 0 0 0 0).logBroken rs o →
      exec (.repairLoad tables) s = .next ((((u.itin 4 1 1 0 0).log .startStop []).wr R.START_STAT_STOP_STEP 4).deskReady)) ∧
    (∀ (failed : List (Bool × Nat × Nat)) (s u : State),
      s.atStep 5 = true →
      u = (if s.start.bistOn then s.quiet else s.quiet.bistBegin failed).bistFeed →
      (u.start.bist.isEmpty && (List.range 5).all (fun e => !((u.engine e).start && (u.engine e).test.isSome)) && !u.mapoutsWait) = true →
      exec (.bistStep failed) s = .next u.bistEnd) ∧
    (∀ (dir : BitVec 256) (s : State),
      s.atStep 6 = true →
      s.is1 R.START_STAT_WAIT_HOST = false →
      (s.desk.wait == some .image) = false →
      s.imgBusy = false ∧ s.start.trying = none →
      (s.setting 0).testBit 0 = false ∨ flashDirectory dir = none →
      exec (.imageStep dir) s = .next (s.quiet.set1 R.START_STAT_WAIT_HOST)) ∧
    (∀ (dir : BitVec 256) (d : Nat × Option Nat) (s u : State),
      s.atStep 6 = true →
      s.is1 R.START_STAT_WAIT_HOST = false →
      (s.desk.wait == some .image) = false →
      s.imgBusy = false ∧ s.start.trying = none →
      (s.setting 0).testBit 0 = true →
      flashDirectory dir = some d →
      s.start.first = 0 ∧ s.start.tried = [] →
      u = s.quiet.setStart { s.start with tried := [0], trying := some 0, base := d.1 } →
      exec (.imageStep dir) s = .next ((u.wr R.START_STAT_IMAGE 1).itin 6 0 0 0 0)) ∧
    (∀ (dir : BitVec 256),
      leNat ((leBytes 32 dir.toNat).take 4) ≠ 0x52494458 ∨ leNat (((leBytes 32 dir.toNat).drop 28).take 4) ≠ Alg.of .crc32 ((leBytes 32 dir.toNat).take 28) →
      flashDirectory dir = none)

/-- The journal and the guestbook (R12, R415, R419, R420, R429, R431). Before step 4 and in reset no record is written; then the oldest waiting record is
written, unless guestbook events that came before it wait, which are written first, in order; a read-only journal writes nothing; the host clears
ALERT. -/
def Obligations.JournalWrites : Prop :=
    (∀ (w : JWrite) (ws : List JWrite) (s : State),
      4 ≤ s.rd R.START_STAT_STEP →
      s.inReset = false →
      s.jnlRO = false →
      s.jnl.queue = w :: ws →
      s.gbq = [] ∨ w.ahead = 0 →
      exec .journalWriteComplete s = .next (s.quiet.writeRecord w ws)) ∧
    (∀ (e : GbEntry) (es : List GbEntry) (s : State),
      4 ≤ s.rd R.START_STAT_STEP →
      s.inReset = false →
      s.jnlRO = false →
      s.gbq = e :: es →
      s.jnl.queue = [] →
      exec .journalWriteComplete s = .next (s.quiet.writeEvent e es)) ∧
    (∀ (e : GbEntry) (es : List GbEntry) (w : JWrite) (ws : List JWrite) (s : State),
      4 ≤ s.rd R.START_STAT_STEP →
      s.inReset = false →
      s.jnlRO = false →
      s.gbq = e :: es →
      s.jnl.queue = w :: ws →
      w.ahead ≠ 0 →
      exec .journalWriteComplete s = .next (s.quiet.writeEvent e es)) ∧
    (∀ (s : State),
      s.rd R.START_STAT_STEP < 4 ∨ s.inReset = true ∨ s.jnlRO = true →
      exec .journalWriteComplete s = .next s.quiet) ∧
    (∀ (ini : Ini) (s : State),
      s.turnedAway R.GB_STAT_COUNT.off = none →
      exec (.alertClear ini) s = .next ((s.quiet.storeReg .GB_STAT (BitVec.ofNat 32 (2 ^ 30))).okWrite ini))

/-- The front desk's transactions (R417, R432, R433, R434, R435). READ_STATUS gives the eight-byte status block; a command is ignored before READY,
discarded while BUSY and otherwise accepted; DATA_IN is kept for the command, and without a command in progress is logged as a fault that no table
classifies (the model's choice, log entry 114); DATA_OUT gives the result's bytes; ABORT rolls the command back before its commit point and comes late
after it. -/
def Obligations.DeskTransactions : Prop :=
    (∀ (s : State),
      exec (.readStatus (.pins 0xFA)) s = .next (s.quiet.emit (.deskOut s.statusBlock))) ∧
    (∀ (rq : Request) (s : State),
      rq.acc.op = .nrd ∧ rq.acc.dstNode = 6 →
      rq.acc.addr = 0 ∧ rq.acc.size = 8 →
      exec (.readStatus (.mirror rq)) s = .next (s.quiet.replyData rq s.statusBlock 0)) ∧
    (∀ (rq : Request) (s : State),
      ¬ (rq.acc.op = .nrd ∧ rq.acc.dstNode = 6) →
      exec (.readStatus (.mirror rq)) s = .fault (.illFormed "READ_STATUS")) ∧
    (∀ (block : List Byte) (s : State),
      block.length = 16 →
      s.desk.ready = false →
      exec (.command (.pins 0xDF 0 block)) s = .next s.quiet) ∧
    (∀ (block : List Byte) (s : State),
      block.length = 16 →
      s.desk.ready = true →
      s.desk.status = 1 →
      exec (.command (.pins 0xDF 0 block)) s = .next (s.quiet.setDesk { s.desk with reject := true })) ∧
    (∀ (block : List Byte) (s : State),
      block.length = 16 →
      s.desk.ready = true →
      s.desk.status ≠ 1 →
      codeListed (leNat (block.take 1)) = true →
      exec (.command (.pins 0xDF 0 block)) s = .next (s.quiet.setDesk
        { ready := true, code := leNat (block.take 1), arg0 := leNat ((block.drop 4).take 4), arg1 := leNat ((block.drop 8).take 8), since := s.now })) ∧
    (∀ (off : Nat) (bytes : List Byte) (s : State),
      off < 2 ^ 32 ∧ 1 ≤ bytes.length ∧ bytes.length ≤ 4096 →
      s.desk.ready = true →
      s.desk.status = 1 →
      exec (.dataIn (.pins 0xDD off bytes)) s = .next (s.quiet.setDesk { s.desk with
        input := (((List.range bytes.length).zip bytes).foldl (fun m (e : Nat × Byte) => storeSet 0 (off + e.1) (1 + e.2.toNat) m) s.desk.input)
        progress := (if s.desk.code = 1 then (s.desk.progress + bytes.length) % 2 ^ 32 else s.desk.progress) })) ∧
    (∀ (off : Nat) (bytes : List Byte) (s : State),
      off < 2 ^ 32 ∧ 1 ≤ bytes.length ∧ bytes.length ≤ 4096 →
      s.desk.ready = true →
      s.deskBusy = false →
      exec (.dataIn (.pins 0xDD off bytes)) s = .next (s.quiet.log (.unclassified 0xA) [])) ∧
    (∀ (offset count : Nat) (s : State),
      1 ≤ count ∧ count ≤ 4096 →
      s.desk.ready = true →
      s.deskBusy = false →
      exec (.dataOut ⟨0xDB, offset⟩ count) s = .next (s.quiet.emit (.deskOut ((List.range count).map fun i => s.desk.result.getD (offset + i) 0)))) ∧
    (∀ (offset count : Nat) (s : State),
      1 ≤ count ∧ count ≤ 4096 →
      s.desk.ready = true →
      s.deskBusy = true →
      exec (.dataOut ⟨0xDB, offset⟩ count) s = .next (s.quiet.emit (.deskOut ((List.range count).map fun _ => 0)))) ∧
    (∀ (point : DeskPoint) (s : State),
      s.deskBusy = false →
      exec (.abort ⟨0x80, point⟩) s = .next s.quiet) ∧
    (∀ (point : DeskPoint) (s : State),
      s.deskBusy = true →
      s.desk.wait = none →
      s.desk.code ≠ 0xB →
      exec (.abort ⟨0x80, point⟩) s = .next (s.quiet.setDesk { s.desk with wait := none, input := [], status := 4, detail := 0 })) ∧
    (∀ (point : DeskPoint) (s : State),
      s.deskBusy = true →
      s.desk.wait = none →
      s.desk.code = 0xB →
      exec (.abort ⟨0x80, point⟩) s = .next (s.quiet.setDesk { s.desk with late := true })) ∧
    (∀ (point : DeskPoint) (s : State),
      s.deskBusy = true →
      s.desk.wait = some .reset →
      s.deskCommitted = true →
      exec (.abort ⟨0x80, point⟩) s = .next (s.quiet.setDesk { s.desk with late := true })) ∧
    (∀ (comp : BitVec 8) (off : Nat) (bytes : List Byte) (offset count : Nat) (point : DeskPoint) (s : State),
      off < 2 ^ 32 ∧ 1 ≤ bytes.length ∧ bytes.length ≤ 4096 →
      1 ≤ count ∧ count ≤ 4096 →
      (comp ≠ 0xFA → exec (.readStatus (.pins comp)) s = .next s.quiet) ∧ (comp ≠ 0xDF → bytes.length = 16 → exec (.command (.pins comp 0 bytes)) s = .next s.quiet) ∧
        (comp ≠ 0xDD → exec (.dataIn (.pins comp off bytes)) s = .next s.quiet) ∧ (comp ≠ 0xDB → exec (.dataOut ⟨comp, offset⟩ count) s = .next s.quiet) ∧
        (comp ≠ 0x80 → exec (.abort ⟨comp, point⟩) s = .next s.quiet)) ∧
    (∀ (point : DeskPoint) (s : State),
      s.deskBusy = true →
      s.desk.wait = some .image →
      s.istate = .commit ∨ s.istate = .starting →
      exec (.abort ⟨0x80, point⟩) s = .next (s.quiet.setDesk { s.desk with late := true }))

/-- The front desk's commands (R420, R421, R422, R423, R426, R429, R430, R431, R434, R440). Each command has its effect when it has been accepted and has
not begun: a register read or write through the bus, an image load or a retry that waits for its image, records read and written, counters, settings,
map-outs, the guestbook, the alert, a device reset; invalid operands fail with BAD_ARGUMENT, one whose journal is read-only, or whose start stopped
before step 4, with JOURNAL_RO (the latter the model's choice, log entry 281), a life-cycle state that bars a load with DENIED. -/
def Obligations.DeskCommands : Prop :=
    (∀ (s t : State) (v : Nat),
      s.deskAt 2 = true →
      s.quiet.busRead s.quiet.deskIni s.desk.arg0 4 = (t, .ok, v) →
      exec .csrRead s = .next (t.deskResult (leBytes 4 v) 0)) ∧
    (∀ (s t : State),
      s.deskAt 3 = true →
      s.quiet.busWrite s.quiet.deskIni s.desk.arg0 4 false (BitVec.ofNat 32 s.desk.arg1) = (t, .ok) →
      exec .csrWrite s = .next (t.deskEnd true 0)) ∧
    (∀ (s : State),
      s.deskAt 1 = true →
      s.loadsPermitted = true →
      s.imgBusy = false ∧ s.start.trying = none →
      exec .loadImage s = .next (s.quiet.setDesk { s.desk with wait := some .image })) ∧
    (∀ (s : State),
      s.deskAt 1 = true →
      s.loadsPermitted = false →
      exec .loadImage s = .next (s.quiet.setDesk { s.desk with wait := none, input := [], detail := 8, status := 3 })) ∧
    (∀ (s u : State),
      s.deskAt 13 = true →
      s.loadsPermitted = true →
      s.imgBusy = false ∧ s.start.trying = none →
      s.rd R.START_STAT_STOP_STEP = 0 →
      6 ≤ s.rd R.START_STAT_STEP →
      s.is1 R.IMG_STATUS_STARTED = false →
      u = ((s.quiet.setStart { s.start with tried := [] }).wr R.START_STAT_STEP 6).clr R.START_STAT_WAIT_HOST →
      exec .bootRetry s = .next (u.deskWait .image)) ∧
    (∀ (s : State),
      s.deskAt 13 = true →
      s.rd R.START_STAT_STOP_STEP ≠ 0 →
      exec .bootRetry s = .next (s.quiet.setDesk { s.desk with wait := none, input := [], detail := 4, status := 3 })) ∧
    (∀ (s : State) (l k : Nat) (r : JRec),
      s.deskAt 4 = true →
      s.desk.userSlot = some (l, k) →
      (s.jnl.recs.find? fun r => match r.body with | .user a b _ => a == l && b == k | _ => false) = some r →
      exec .jnlRead s = .next (s.quiet.deskResult r.bytes 0)) ∧
    (∀ (s : State) (l k b : Nat),
      s.deskAt 5 = true →
      s.desk.userSlot = some (l, k) →
      s.desk.bytesIn 48 = some b →
      s.jnlShut = false →
      exec .jnlWrite s = .next ((s.quiet.jnlAsk (.user l k b) true).deskWait .journal)) ∧
    (∀ (s : State),
      s.deskAt 5 = true →
      s.desk.userSlot = none →
      exec .jnlWrite s = .next (s.quiet.setDesk { s.desk with wait := none, input := [], detail := 2, status := 3 })) ∧
    (∀ (s : State),
      s.deskAt 6 = true →
      2 ≤ s.desk.arg0 ∧ s.desk.arg0 ≤ 15 →
      s.jnlShut = false →
      s.rd (R.JNL_CNT_VALUE s.desk.arg0) ≠ 0xFFFFFFFF →
      exec .cntInc s = .next ((s.quiet.jnlAsk (.counter s.desk.arg0 (s.rd (R.JNL_CNT_VALUE s.desk.arg0) + 1)) true).deskWait .journal)) ∧
    (∀ (s : State),
      s.deskAt 6 = true →
      s.desk.arg0 < 2 ∨ 15 < s.desk.arg0 →
      exec .cntInc s = .next (s.quiet.setDesk { s.desk with wait := none, input := [], detail := 2, status := 3 })) ∧
    (∀ (s : State) (b : Nat),
      s.deskAt 7 = true →
      s.desk.bytesIn 48 = some b →
      settingsOk b = true →
      s.jnlShut = false →
      exec .settingsSet s = .next ((s.quiet.jnlAsk (.settings b) true).deskWait .journal)) ∧
    (∀ (s : State) (r : RepRec),
      s.deskAt 8 = true →
      s.desk.arg0 ≠ 0xFFFFFFFF →
      s.mapoutRecs[s.desk.arg0]? = some r →
      s.jnlShut = false →
      exec .mapoutClear s = .next ((s.quiet.jnlAsk (.cleared r) true).deskWait .journal)) ∧
    (∀ (s : State),
      s.deskAt 9 = true →
      1 ≤ s.desk.arg1 ∧ s.desk.arg1 ≤ 64 →
      exec .gbRead s = .next ((s.quiet.deskResult ((s.guestbook.drop s.desk.arg0).take s.desk.arg1).flatten ((s.guestbook.drop s.desk.arg0).take s.desk.arg1).length).drawn)) ∧
    (∀ (s : State),
      s.deskAt 10 = true →
      s.jnlShut = false →
      exec .gbUnfreeze s = .next ((s.quiet.jnlAsk (.freeze false) true).deskWait .journal)) ∧
    (∀ (s : State),
      s.deskAt 10 = true →
      s.jnlShut = true →
      exec .gbUnfreeze s = .next (s.quiet.setDesk { s.desk with wait := none, input := [], detail := 5, status := 3 })) ∧
    (∀ (s : State),
      s.deskAt 11 = true →
      exec .alertAck s = .next ((s.quiet.clr R.GB_STAT_ALERT).deskEnd true 0)) ∧
    (∀ (s u : State),
      s.deskAt 12 = true →
      u = s.quiet.log .fdReset [] →
      exec .deviceReset s = .next ((u.setStart { u.start with resetDue := u.start.resetDue.or (some 3) }).deskWait .reset)) ∧
    (∀ (s : State) (rs : List (List Byte)),
      s.deskAt 14 = true →
      s.desk.arg0 ≤ 1 →
      rs = (s.jnl.recs.filter (fun r => match r.body with | .itin x => x.start + s.desk.arg0 == s.startNum | _ => false)).map JRec.bytes →
      exec .itinRead s = .next (s.quiet.deskResult rs.flatten rs.length))

/-- Life cycle and image keys (R437, R438, R440, R441, R444, R448, R449). An advance that R438 allows is taken and ends with its fuses burned, one that it
does not sets ERR, and one from inside the device is DENIED; key commands are taken where the state and the slots permit them, are DENIED with ERR
where the life cycle bars them, and end with the slot changed; an alarm response of at least its minimum is raised by a host, set to any value with
FULL authority, and otherwise lowered by nobody; a glitch raises its alarm. -/
def Obligations.LifeCycleAndKeys : Prop :=
    (∀ (ini : Ini) (v : BitVec 32) (s u : State),
      s.fromInside ini = false →
      u = s.quiet.w1cOnly .LC_CTL v →
      R.LC_CTL_CONFIRM.of v = 0x4C43 →
      (u.is1 R.LC_CTL_BUSY || u.imgBusy || u.is1 R.LC_STATE_LOCKED) = false →
      u.advanceOk ini (R.LC_CTL_TARGET.of v) = true →
      s.turnedAway R.LC_CTL_TARGET.off = none →
      exec (.lcAdvance ini v) s = .next (((u.set1 R.LC_CTL_BUSY).setSec { u.sec with advance := some (R.LC_CTL_TARGET.of v, R.LC_CTL_CAP.of v == 1) }).okWrite ini)) ∧
    (∀ (ini : Ini) (v : BitVec 32) (s u : State),
      s.fromInside ini = false →
      u = s.quiet.w1cOnly .LC_CTL v →
      R.LC_CTL_CONFIRM.of v = 0x4C43 →
      u.advanceOk ini (R.LC_CTL_TARGET.of v) = false →
      s.turnedAway R.LC_CTL_TARGET.off = none →
      exec (.lcAdvance ini v) s = .next ((u.set1 R.LC_CTL_ERR).okWrite ini)) ∧
    (∀ (ini : Ini) (v : BitVec 32) (s : State),
      s.fromInside ini = true →
      exec (.lcAdvance ini v) s = .next (s.quiet.emit (.regAnswer ini .denied 0))) ∧
    (∀ (target : Nat) (cap : Bool) (s u : State),
      s.sec.advance = some (target, cap) →
      u = ((s.quiet.advanced target cap).log .lcAdvanced []).clr R.LC_CTL_BUSY →
      exec .lcAdvanced s = .next ((u.setSec { u.sec with advance := none, alarms := [] }).respond (highest u.sec.alarms))) ∧
    (∀ (ini : Ini) (parent slot : Fin 8) (s u : State) (v : BitVec 32),
      s.fromInside ini = false →
      s.keyBarred 1 = false →
      v = keyValue 1 parent.val slot.val →
      R.KEY_CMD_CMD.of v = 1 ∧ R.KEY_CMD_SLOT.of v = slot.val ∧ R.KEY_CMD_PARENT.of v = parent.val →
      u = s.quiet.storeReg .KEY_CMD v →
      (u.is1 R.KEY_CMD_BUSY || u.is1 R.LC_STATE_LOCKED || u.is1 R.LC_STATE_SLOTS_BARRED || (u.jnlRO && true) || u.imgBusy) = false →
      u.keyCondition 1 slot.val parent.val = true →
      s.turnedAway R.KEY_CMD_CMD.off = none →
      exec (.loadPlain ini parent slot) s = .next (((((List.range 10).foldl (fun (t : State) i => t.clr (R.KEY_IN_DATA i)) u).set1 R.KEY_CMD_BUSY).setSec
        { ((List.range 10).foldl (fun (t : State) i => t.clr (R.KEY_IN_DATA i)) u).sec with keyCmd := some (1, slot.val, parent.val, u.keyIn 8) }).okWrite ini)) ∧
    (∀ (ini : Ini) (parent slot : Fin 8) (s u : State) (v : BitVec 32),
      s.fromInside ini = false →
      s.keyBarred 2 = false →
      v = keyValue 2 parent.val slot.val →
      R.KEY_CMD_CMD.of v = 2 ∧ R.KEY_CMD_SLOT.of v = slot.val ∧ R.KEY_CMD_PARENT.of v = parent.val →
      u = s.quiet.storeReg .KEY_CMD v →
      (u.is1 R.KEY_CMD_BUSY || u.is1 R.LC_STATE_LOCKED || u.is1 R.LC_STATE_SLOTS_BARRED || (u.jnlRO && true) || u.imgBusy) = false →
      u.keyCondition 2 slot.val parent.val = true →
      s.turnedAway R.KEY_CMD_CMD.off = none →
      exec (.loadWrapped ini parent slot) s = .next (((((List.range 10).foldl (fun (t : State) i => t.clr (R.KEY_IN_DATA i)) u).set1 R.KEY_CMD_BUSY).setSec
        { ((List.range 10).foldl (fun (t : State) i => t.clr (R.KEY_IN_DATA i)) u).sec with keyCmd := some (2, slot.val, parent.val, u.keyIn 10) }).okWrite ini)) ∧
    (∀ (ini : Ini) (parent slot : Fin 8) (s u : State) (v : BitVec 32),
      s.fromInside ini = false →
      s.keyBarred 3 = false →
      v = keyValue 3 parent.val slot.val →
      R.KEY_CMD_CMD.of v = 3 ∧ R.KEY_CMD_SLOT.of v = slot.val ∧ R.KEY_CMD_PARENT.of v = parent.val →
      u = s.quiet.storeReg .KEY_CMD v →
      (u.is1 R.KEY_CMD_BUSY || u.is1 R.LC_STATE_LOCKED || u.is1 R.LC_STATE_SLOTS_BARRED || (u.jnlRO && true) || u.imgBusy) = false →
      u.keyCondition 3 slot.val parent.val = true →
      s.turnedAway R.KEY_CMD_CMD.off = none →
      exec (.revoke ini parent slot) s = .next (((((List.range 10).foldl (fun (t : State) i => t.clr (R.KEY_IN_DATA i)) u).set1 R.KEY_CMD_BUSY).setSec
        { ((List.range 10).foldl (fun (t : State) i => t.clr (R.KEY_IN_DATA i)) u).sec with keyCmd := some (3, slot.val, parent.val, u.keyIn 8) }).okWrite ini)) ∧
    (∀ (ini : Ini) (parent slot : Fin 8) (s u : State) (v : BitVec 32),
      s.fromInside ini = false →
      s.keyBarred 4 = false →
      v = keyValue 4 parent.val slot.val →
      R.KEY_CMD_CMD.of v = 4 ∧ R.KEY_CMD_SLOT.of v = slot.val ∧ R.KEY_CMD_PARENT.of v = parent.val →
      u = s.quiet.storeReg .KEY_CMD v →
      (u.is1 R.KEY_CMD_BUSY || u.is1 R.LC_STATE_LOCKED || u.is1 R.LC_STATE_SLOTS_BARRED || (u.jnlRO && false) || u.imgBusy) = false →
      u.keyCondition 4 slot.val parent.val = true →
      s.turnedAway R.KEY_CMD_CMD.off = none →
      exec (.debugKeySet ini parent slot) s = .next (((((List.range 10).foldl (fun (t : State) i => t.clr (R.KEY_IN_DATA i)) u).set1 R.KEY_CMD_BUSY).setSec
        { ((List.range 10).foldl (fun (t : State) i => t.clr (R.KEY_IN_DATA i)) u).sec with keyCmd := some (4, slot.val, parent.val, u.keyIn 8) }).okWrite ini)) ∧
    (∀ (ini : Ini) (parent slot : Fin 8) (s : State),
      s.fromInside ini = false →
      s.keyBarred (R.KEY_CMD_CMD.of (keyValue 1 parent.val slot.val)) = true →
      exec (.loadPlain ini parent slot) s = .next ((s.quiet.emit (.regAnswer ini .denied 0)).set1 R.KEY_CMD_ERR)) ∧
    (∀ (slot parent key : Nat) (s u : State),
      s.sec.keyCmd = some (1, slot, parent, key) →
      u = ((s.quiet.setSec { s.sec with keyCmd := none }).clr R.KEY_CMD_BUSY).set1 R.KEY_CMD_DONE →
      exec .keyCmdComplete s = .next (u.changeSlot slot 1 (u.wrapped key))) ∧
    (∀ (slot parent key : Nat) (s u : State),
      s.sec.keyCmd = some (2, slot, parent, key) →
      u = ((s.quiet.setSec { s.sec with keyCmd := none }).clr R.KEY_CMD_BUSY).set1 R.KEY_CMD_DONE →
      exec .keyCmdComplete s = .next (u.loadWrapped slot parent key)) ∧
    (∀ (slot parent key : Nat) (s u : State),
      s.sec.keyCmd = some (3, slot, parent, key) →
      u = ((s.quiet.setSec { s.sec with keyCmd := none }).clr R.KEY_CMD_BUSY).set1 R.KEY_CMD_DONE →
      exec .keyCmdComplete s = .next (u.changeSlot slot 2 ((storeGet none slot u.sec.slots).getD 0))) ∧
    (∀ (slot parent key : Nat) (s u : State),
      s.sec.keyCmd = some (4, slot, parent, key) →
      u = ((s.quiet.setSec { s.sec with keyCmd := none }).clr R.KEY_CMD_BUSY).set1 R.KEY_CMD_DONE →
      exec .keyCmdComplete s = .next (u.setFuses { u.lcFuses with dbgKey := some key })) ∧
    (∀ (ini : Ini) (a : Fin 7) (v : BitVec 32) (s u : State),
      s.fromInside ini = false →
      u = s.quiet.w1cOnly (.ALARM_CFG a.val) v →
      u.rd (R.ALARM_CFG_RESP a.val) < (R.ALARM_CFG_RESP a.val).of v →
      (R.ALARM_CFG_RESP a.val).of v ≤ 4 →
      respMinimum a.val ≤ (R.ALARM_CFG_RESP a.val).of v →
      u.isHost ini = true →
      s.turnedAway (R.ALARM_CFG_RESP a.val).off = none →
      exec (.alarmCfgWrite ini a v) s = .next ((u.wr (R.ALARM_CFG_RESP a.val) ((R.ALARM_CFG_RESP a.val).of v)).okWrite ini)) ∧
    (∀ (ini : Ini) (a : Fin 7) (v : BitVec 32) (s u : State),
      s.fromInside ini = false →
      u = s.quiet.w1cOnly (.ALARM_CFG a.val) v →
      (R.ALARM_CFG_RESP a.val).of v < u.rd (R.ALARM_CFG_RESP a.val) →
      (R.ALARM_CFG_RESP a.val).of v ≤ 4 →
      u.holdsFull ini = false →
      s.turnedAway (R.ALARM_CFG_RESP a.val).off = none →
      exec (.alarmCfgWrite ini a v) s = .next ((u.set1 (R.ALARM_CFG_CFG_ERR a.val)).okWrite ini)) ∧
    (∀ (ini : Ini) (a : Fin 7) (v : BitVec 32) (s u : State),
      s.fromInside ini = false →
      u = s.quiet.w1cOnly (.ALARM_CFG a.val) v →
      (R.ALARM_CFG_RESP a.val).of v ≠ u.rd (R.ALARM_CFG_RESP a.val) →
      (R.ALARM_CFG_RESP a.val).of v ≤ 4 →
      u.holdsFull ini = true →
      s.turnedAway (R.ALARM_CFG_RESP a.val).off = none →
      exec (.alarmCfgWrite ini a v) s = .next ((u.wr (R.ALARM_CFG_RESP a.val) ((R.ALARM_CFG_RESP a.val).of v)).okWrite ini)) ∧
    (∀ (s : State),
      exec .glitch s = .next (s.quiet.alarm 6))

/-- The random source (R445, R446, R447). Health-test windows count: three bad in a row fail the source and raise its alarm, three good in a row make it
HEALTHY; a healthy source reseeds; a read of RNG_OUT gives the next word and uses it up, a read of the debug initiator gives it and uses nothing up,
and one while the source is FAILED gives 0; the challenge block ends. -/
def Obligations.RandomSource : Prop :=
    (∀ (s : State),
      2 ≤ s.sec.goodWins →
      exec (.rngTestWindow true) s = .next ((s.quiet.setSec { s.sec with badWins := 0, goodWins := min 3 (s.sec.goodWins + 1) }).set1 R.RNG_STAT_HEALTHY)) ∧
    (∀ (s u : State),
      s.sec.badWins = 2 →
      u = (s.quiet.setSec { s.sec with badWins := 3, goodWins := 0 }).bump R.RNG_STAT_FAILS →
      exec (.rngTestWindow false) s = .next ((u.clr R.RNG_STAT_HEALTHY).alarm 3)) ∧
    (∀ (s : State),
      s.sec.badWins ≠ 2 →
      exec (.rngTestWindow false) s = .next ((s.quiet.setSec { s.sec with badWins := min 3 (s.sec.badWins + 1), goodWins := 0 }).bump R.RNG_STAT_FAILS)) ∧
    (∀ (s : State),
      s.is1 R.RNG_STAT_HEALTHY = true →
      exec .drbgReseed s = .next (s.quiet.setSec { s.sec with reseeds := s.sec.reseeds + 1 })) ∧
    (∀ (ini : Ini) (s : State),
      s.is1 R.RNG_STAT_HEALTHY = true →
      s.peeks ini = false →
      s.turnedAway R.RNG_OUT_VALUE.off = none →
      exec (.rngOutRead ini) s = .next (s.quiet.drawn.emit (.regAnswer ini .ok s.rngWord))) ∧
    (∀ (ini : Ini) (s : State),
      s.is1 R.RNG_STAT_HEALTHY = true →
      s.peeks ini = true →
      s.turnedAway R.RNG_OUT_VALUE.off = none →
      exec (.rngOutRead ini) s = .next (s.quiet.emit (.regAnswer ini .ok s.rngWord))) ∧
    (∀ (ini : Ini) (code : Resp) (s : State),
      s.turnedAway R.RNG_OUT_VALUE.off = some code →
      s.is1 R.RNG_STAT_HEALTHY = false →
      exec (.rngOutRead ini) s = .next (s.quiet.emit (.regAnswer ini code 0))) ∧
    (∀ (ini : Ini) (s : State),
      s.is1 R.RNG_STAT_HEALTHY = false →
      s.turnedAway R.RNG_OUT_VALUE.off = none →
      exec (.rngOutRead ini) s = .next (s.quiet.emit (.regAnswer ini .ok 0))) ∧
    (∀ (s : State),
      exec .challengeBlockEnd s = .next (s.quiet.clr R.DBG_AUTH_BLOCKED))

/-- Memory self-test, fuse repair and logic BIST (R13, R440, R453, R455, R457, R458, R460, R464, R465, R467). A test that the life cycle does not bar
starts on a unit that its engine tests and that has been handed over, while the engine runs none, and otherwise sets ERR; one that it bars is answered
DENIED and sets ERR; a test passes without failing bits, and ends ABORTED on ABORT; FAIL_INFO pops the oldest failing location, but not for the debug
initiator; BURN burns the standing soft repairs into fuses; a request for the stack test is recorded; logic BIST runs before STARTED only and is
DENIED where the life cycle bars scan, and its end leaves the layer's registers with free values. -/
def Obligations.SelfTest : Prop :=
    (∀ (ini : Ini) (e : Fin 5) (v : BitVec 32) (kind unit : Nat) (s u : State),
      s.testBarred e.val v = false →
      u = s.quiet.storeReg (.TEST_CMD e.val) v →
      (R.TEST_CMD_ABORT e.val).of v = 0 →
      kind = (R.TEST_CMD_KIND e.val).of v ∧ unit = (R.TEST_CMD_UNIT e.val).of v →
      1 ≤ kind ∧ kind ≤ 4 →
      ((u.engine e.val).test.isNone && engineTests e.val kind unit && u.testPermitted kind && u.handedOver kind unit) = true →
      s.turnedAway (R.TEST_CMD_KIND e.val).off = none →
      exec (.mbistStart ini e v) s = .next ((u.testBegins e.val kind unit false).okWrite ini)) ∧
    (∀ (ini : Ini) (e : Fin 5) (v : BitVec 32) (kind unit : Nat) (s u : State),
      s.testBarred e.val v = false →
      u = s.quiet.storeReg (.TEST_CMD e.val) v →
      (R.TEST_CMD_ABORT e.val).of v = 0 →
      kind = (R.TEST_CMD_KIND e.val).of v ∧ unit = (R.TEST_CMD_UNIT e.val).of v →
      1 ≤ kind ∧ kind ≤ 4 →
      ((u.engine e.val).test.isNone && engineTests e.val kind unit && u.testPermitted kind && u.handedOver kind unit) = false →
      s.turnedAway (R.TEST_CMD_KIND e.val).off = none →
      exec (.mbistStart ini e v) s = .next ((u.set1 (R.TEST_CMD_ERR e.val)).okWrite ini)) ∧
    (∀ (ini : Ini) (e : Fin 5) (v : BitVec 32) (s : State),
      s.testBarred e.val v = true →
      exec (.mbistStart ini e v) s = .next ((s.quiet.emit (.regAnswer ini .denied 0)).set1 (R.TEST_CMD_ERR e.val))) ∧
    (∀ (e : Fin 5) (kind unit : Nat) (s u : State),
      (s.engine e.val).test = some (kind, unit) →
      u = (s.quiet.setEngine e.val { s.engine e.val with fifo := [] }).wr (R.TEST_STAT_FAIL_BITS e.val) 0 →
      exec (.mbistComplete e [] []) s = .next (u.testEnds e.val kind unit 1)) ∧
    (∀ (ini : Ini) (e : Fin 5) (kind unit : Nat) (s : State),
      (s.engine e.val).test = some (kind, unit) →
      (s.engine e.val).start = false →
      s.turnedAway (R.TEST_CMD_KIND e.val).off = none →
      exec (.testAbort ini e) s = .next (((s.quiet.abortTest e.val).heldPower (testUnit kind unit)).okWrite ini)) ∧
    (∀ (ini : Ini) (e : Fin 5) (f : FailLoc) (fs : List FailLoc) (s : State),
      (s.engine e.val).fifo = f :: fs →
      s.peeks ini = false →
      s.turnedAway (R.TEST_FAIL_INFO_VALID e.val).off = none →
      exec (.failInfoPop ini e) s = .next ((s.quiet.setEngine e.val { s.engine e.val with fifo := fs }).emit (.regAnswer ini .ok (2 ^ 31 + f.element % 16 * 2 ^ 27 + f.expect.toNat * 2 ^ 26)))) ∧
    (∀ (ini : Ini) (e : Fin 5) (f : FailLoc) (fs : List FailLoc) (s : State),
      (s.engine e.val).fifo = f :: fs →
      s.peeks ini = true →
      s.turnedAway (R.TEST_FAIL_INFO_VALID e.val).off = none →
      exec (.failInfoPop ini e) s = .next (s.quiet.emit (.regAnswer ini .ok (2 ^ 31 + f.element % 16 * 2 ^ 27 + f.expect.toNat * 2 ^ 26)))) ∧
    (∀ (ini : Ini) (e : Fin 5) (s : State),
      (s.engine e.val).fifo = [] →
      s.peeks ini = false →
      s.turnedAway (R.TEST_FAIL_INFO_VALID e.val).off = none →
      exec (.failInfoPop ini e) s = .next ((s.quiet.setEngine e.val { s.engine e.val with fifo := [] }).emit (.regAnswer ini .ok 0))) ∧
    (∀ (ini : Ini) (e : Fin 5) (s : State),
      (s.engine e.val).fifo = [] →
      s.peeks ini = true →
      s.turnedAway (R.TEST_FAIL_INFO_VALID e.val).off = none →
      exec (.failInfoPop ini e) s = .next (s.quiet.emit (.regAnswer ini .ok 0))) ∧
    (∀ (ini : Ini) (s u : State),
      u = s.quiet.w1cOnly .REPAIR_CTL 1 →
      (u.lc == 0 || u.lc == 5 || u.is1 R.REPAIR_CTL_BUSY || u.jnlRO) = false →
      u.hostNode ini = true →
      s.turnedAway R.REPAIR_CTL_BURN.off = none →
      exec (.burn ini) s = .next ((({ u with selfTest := { u.selfTest with burn := some u.softRecs } } : State).set1 R.REPAIR_CTL_BUSY).okWrite ini)) ∧
    (∀ (rs : List RepRec) (s u : State),
      s.selfTest.burn = some rs →
      u = rs.foldl State.burnOne s.quiet →
      exec .burnComplete s = .next ((((({ u with selfTest := { u.selfTest with burn := none } } : State).showFuses).clr R.REPAIR_CTL_BUSY).set1 R.REPAIR_CTL_DONE).log
        (.blockEvent 3) [u.lcFuses.repairs.length - s.lcFuses.repairs.length])) ∧
    (∀ (ini : Ini) (v : BitVec 32) (s u : State),
      u = s.quiet.w1cOnly .STACK_TEST v →
      R.STACK_TEST_NEXT.of v ≠ u.rd R.STACK_TEST_NEXT →
      u.jnlRO = false →
      s.turnedAway (R.STACK_TEST_NEXT).off = none →
      exec (.stackTestRequest ini v) s = .next (((u.wr R.STACK_TEST_NEXT (R.STACK_TEST_NEXT.of v)).jnlAsk (.stackTest (R.STACK_TEST_NEXT.of v == 1)) false).okWrite ini)) ∧
    (∀ (ini : Ini) (layer : BitVec 3) (s u : State) (v : BitVec 32),
      s.scanBarred = false →
      v = BitVec.ofNat 32 (8 + layer.toNat) →
      R.LBIST_CTL_GO.of v = 1 →
      u = s.quiet.storeReg .LBIST_CTL v →
      (u.is1 R.LBIST_CTL_BUSY || u.is1 R.IMG_STATUS_STARTED || u.imgBusy) = false →
      s.turnedAway R.LBIST_CTL_GO.off = none →
      exec (.lbistGo ini layer) s = .next ((({ u with selfTest := { u.selfTest with lbist := some (u.rd R.LBIST_CTL_LAYER) } } : State).set1 R.LBIST_CTL_BUSY).okWrite ini)) ∧
    (∀ (ini : Ini) (layer : BitVec 3) (s : State),
      s.scanBarred = true →
      exec (.lbistGo ini layer) s = .next (s.quiet.emit (.regAnswer ini .denied 0))) ∧
    (∀ (pass : Bool) (l : Nat) (s : State),
      s.selfTest.lbist = some l →
      exec (.lbistComplete pass) s = .next (((({ s.quiet with selfTest := { s.selfTest with lbist := none, undef := true } } : State).clr R.LBIST_CTL_BUSY).wrb R.LBIST_CTL_PASS pass).scramble l))

/-- JTAG instructions and scans (R4, R471, R472). IDCODE captures the identification register; SAMPLE/PRELOAD and a scan of EXTEST capture the pads and
hold the value; EXTEST, HIGHZ and CLAMP take effect while STARTED is 0 or with a FULL session and are BYPASS otherwise, a bypass register giving one
0; SCAN is reached where the life cycle permits it; an unlisted code is BYPASS; a DBG scan reports the previous access and performs its own, and one
that comes too early reports not ready, with the previous offset, and performs none. -/
def Obligations.JtagInstructions : Prop :=
    (∀ (s : State),
      exec .idcode s = .next ((s.quiet.setJtag { s.jtag with ir := 1 }).emit (.jtagOut 32 0x10816753))) ∧
    (∀ (levels : List (BitVec 32)) (d : BitVec 64) (v : BitVec 3136) (s : State),
      levels.length = 32 →
      exec (.samplePreload levels d v) s = .next ((s.quiet.setJtag { s.jtag with ir := 2, cells := v.toNat }).emit (.jtagOut 3136 (s.sampleCells levels d.toNat)))) ∧
    (∀ (s : State),
      s.pinsAllowed = true →
      exec (.extest none) s = .next (s.quiet.setJtag { s.jtag with ir := 3 })) ∧
    (∀ (s : State),
      s.pinsAllowed = false →
      exec (.extest none) s = .next ((s.quiet.setJtag { s.jtag with ir := 0xFF }).emit (.jtagOut 1 0))) ∧
    (∀ (s : State),
      s.pinsAllowed = true →
      exec .highz s = .next ((s.quiet.setJtag { s.jtag with ir := 4 }).emit (.jtagOut 1 0))) ∧
    (∀ (s : State),
      s.pinsAllowed = false →
      exec .highz s = .next ((s.quiet.setJtag { s.jtag with ir := 0xFF }).emit (.jtagOut 1 0))) ∧
    (∀ (s : State),
      s.pinsAllowed = true →
      exec .clampInstr s = .next ((s.quiet.setJtag { s.jtag with ir := 5 }).emit (.jtagOut 1 0))) ∧
    (∀ (s : State),
      s.pinsAllowed = false →
      exec .clampInstr s = .next ((s.quiet.setJtag { s.jtag with ir := 0xFF }).emit (.jtagOut 1 0))) ∧
    (∀ (levels : List (BitVec 32)) (d : BitVec 64) (v : BitVec 3136) (s : State),
      levels.length = 32 →
      s.pinsAllowed = true →
      exec (.extest (some ⟨levels, d, v⟩)) s = .next ((s.quiet.setJtag { s.jtag with ir := 3, cells := v.toNat }).emit
        (.jtagOut 3136 ((s.setJtag { s.jtag with ir := 3 }).sampleCells levels d.toNat)))) ∧
    (∀ (s : State),
      exec .dbg s = .next (s.quiet.setJtag { s.jtag with ir := 16 })) ∧
    (∀ (s : State),
      s.scanBarred = false →
      exec .scan s = .next (s.quiet.setJtag { s.jtag with ir := 32 })) ∧
    (∀ (s : State),
      s.scanBarred = true →
      exec .scan s = .next ((s.quiet.setJtag { s.jtag with ir := 0xFF }).emit (.jtagOut 1 0))) ∧
    (∀ (code : BitVec 8) (s : State),
      [1, 2, 3, 4, 5, 0x10, 0x20].contains code.toNat = false →
      exec (.bypass code) s = .next ((s.quiet.setJtag { s.jtag with ir := 0xFF }).emit (.jtagOut 1 0))) ∧
    (∀ (v : BitVec 64) (off : Nat) (code : Resp) (data : Nat) (s : State),
      s.jtag.ir = 16 →
      s.jtag.prev = some (off, code, data) →
      off < 2 ^ 23 →
      ∃ out : Nat, exec (.dbgAccess v true) s = .next ((s.quiet.emit (.jtagOut 64 out)).drawn) ∧ out.testBit 63 = false ∧ out / 2 ^ 32 % 2 ^ 23 = off) ∧
    (∀ (v : BitVec 64) (early : Bool) (s : State),
      s.jtag.ir ≠ 16 →
      exec (.dbgAccess v early) s = .next s.quiet) ∧
    (∀ (v : BitVec 64) (off : Nat) (code : Resp) (data : Nat) (s : State),
      s.jtag.ir = 16 →
      s.jtag.prev = some (off, code, data) →
      exec (.dbgAccess v false) s = .next ((s.quiet.emit (.jtagOut 64 (2 ^ 63 + code.code * 2 ^ 56 + off * 2 ^ 32 + data))).jtagAccess (v.toNat.testBit 63)
        (v.toNat / 2 ^ 32 % 2 ^ 23) (BitVec.ofNat 32 v.toNat)).1)

/-- Debug sessions (R440, R445, R470, R473, R474, R475, R476). A challenge is drawn for the port's session, or refused with ERR; a request for a level no
lower than the present one is granted without a challenge in BLANK, VENDOR_TEST and RETURNED; in PROVISIONED, DEPLOYED and SCRAPPED it sets ERR
without a challenge, and a wrong response counts as one; CLOSE ends the session; a request of an initiator other than the bound one is answered
DENIED, as is a HALT without a FULL session; a read of the debug endpoint of another size than 4 bytes is answered DECODE, and one that is permitted
with its 4 bytes. -/
def Obligations.DebugSessions : Prop :=
    (∀ (ini : Ini) (s u z : State),
      s.sessionElsewhere ini = false →
      s.selfTest.undef = false →
      u = (s.quiet.bindSession ini true 0 (BitVec.ofNat 32 16)).w1cOnly .DBG_AUTH (BitVec.ofNat 32 16) →
      (u.lc == 5 || u.is1 R.LC_STATE_LOCKED || !(u.is1 R.RNG_STAT_HEALTHY) || u.is1 R.DBG_AUTH_BLOCKED) = false →
      z = ((u.setSec { u.sec with challenge := storeSet none (DPort.num .olicor) (some (u.draw % 2 ^ 128)) u.sec.challenge }).drawn) →
      exec (.chal (.olicor ini)) s = .next (z.emit (.regAnswer ini .ok 0))) ∧
    (∀ (s u z : State),
      s.jtag.ir = 16 →
      s.selfTest.undef = false →
      u = (s.quiet).w1cOnly .DBG_AUTH (BitVec.ofNat 32 16) →
      (u.lc == 5 || u.is1 R.LC_STATE_LOCKED || !(u.is1 R.RNG_STAT_HEALTHY) || u.is1 R.DBG_AUTH_BLOCKED) = false →
      z = ((u.setSec { u.sec with challenge := storeSet none (DPort.num .jtag) (some (u.draw % 2 ^ 128)) u.sec.challenge }).drawn) →
      exec (.chal .jtag) s = .next ((z.drawn.setJtag { z.jtag with prev := some (0, .ok, z.draw % 2 ^ 32) }).emit (.regAnswer s.jtagIni .ok 0))) ∧
    (∀ (ini : Ini) (s u z : State),
      s.sessionElsewhere ini = false →
      s.selfTest.undef = false →
      u = (s.quiet.bindSession ini true 0 (BitVec.ofNat 32 16)).w1cOnly .DBG_AUTH (BitVec.ofNat 32 16) →
      (u.lc == 5 || u.is1 R.LC_STATE_LOCKED || !(u.is1 R.RNG_STAT_HEALTHY) || u.is1 R.DBG_AUTH_BLOCKED) = true →
      z = ((u.set1 R.DBG_AUTH_ERR).setSec { u.sec with challenge := storeSet none (DPort.num .olicor) none u.sec.challenge }) →
      exec (.chal (.olicor ini)) s = .next (z.emit (.regAnswer ini .ok 0))) ∧
    (∀ (s u z : State),
      s.jtag.ir = 16 →
      s.selfTest.undef = false →
      u = (s.quiet).w1cOnly .DBG_AUTH (BitVec.ofNat 32 16) →
      (u.lc == 5 || u.is1 R.LC_STATE_LOCKED || !(u.is1 R.RNG_STAT_HEALTHY) || u.is1 R.DBG_AUTH_BLOCKED) = true →
      z = ((u.set1 R.DBG_AUTH_ERR).setSec { u.sec with challenge := storeSet none (DPort.num .jtag) none u.sec.challenge }) →
      exec (.chal .jtag) s = .next ((z.drawn.setJtag { z.jtag with prev := some (0, .ok, z.draw % 2 ^ 32) }).emit (.regAnswer s.jtagIni .ok 0))) ∧
    (∀ (ini : Ini) (level : BitVec 2) (s u z : State),
      s.sessionElsewhere ini = false →
      s.selfTest.undef = false →
      u = (s.quiet.bindSession ini true 0 (BitVec.ofNat 32 level.toNat)).w1cOnly .DBG_AUTH (BitVec.ofNat 32 level.toNat) →
      level.toNat = 1 ∨ level.toNat = 2 →
      u.dlevel .olicor ≤ level.toNat →
      u.lc = 0 ∨ u.lc = 1 ∨ u.lc = 4 →
      z = u.setLevel .olicor (min level.toNat u.levelCap) →
      exec (.req (.olicor ini) level) s = .next (z.emit (.regAnswer ini .ok 0))) ∧
    (∀ (level : BitVec 2) (s u z : State),
      s.jtag.ir = 16 →
      s.selfTest.undef = false →
      u = (s.quiet).w1cOnly .DBG_AUTH (BitVec.ofNat 32 level.toNat) →
      level.toNat = 1 ∨ level.toNat = 2 →
      u.dlevel .jtag ≤ level.toNat →
      u.lc = 0 ∨ u.lc = 1 ∨ u.lc = 4 →
      z = u.setLevel .jtag (min level.toNat u.levelCap) →
      exec (.req .jtag level) s = .next ((z.drawn.setJtag { z.jtag with prev := some (0, .ok, z.draw % 2 ^ 32) }).emit (.regAnswer s.jtagIni .ok 0))) ∧
    (∀ (ini : Ini) (level : BitVec 2) (s u z : State),
      s.sessionElsewhere ini = false →
      s.selfTest.undef = false →
      u = (s.quiet.bindSession ini true 0 (BitVec.ofNat 32 level.toNat)).w1cOnly .DBG_AUTH (BitVec.ofNat 32 level.toNat) →
      level.toNat = 1 ∨ level.toNat = 2 →
      u.dlevel .olicor ≤ level.toNat →
      u.lc = 2 ∨ u.lc = 3 ∨ u.lc = 5 →
      storeGet none (DPort.num .olicor) u.sec.challenge = none →
      z = u.set1 R.DBG_AUTH_ERR →
      exec (.req (.olicor ini) level) s = .next (z.emit (.regAnswer ini .ok 0))) ∧
    (∀ (level : BitVec 2) (s u z : State),
      s.jtag.ir = 16 →
      s.selfTest.undef = false →
      u = (s.quiet).w1cOnly .DBG_AUTH (BitVec.ofNat 32 level.toNat) →
      level.toNat = 1 ∨ level.toNat = 2 →
      u.dlevel .jtag ≤ level.toNat →
      u.lc = 2 ∨ u.lc = 3 ∨ u.lc = 5 →
      storeGet none (DPort.num .jtag) u.sec.challenge = none →
      z = u.set1 R.DBG_AUTH_ERR →
      exec (.req .jtag level) s = .next ((z.drawn.setJtag { z.jtag with prev := some (0, .ok, z.draw % 2 ^ 32) }).emit (.regAnswer s.jtagIni .ok 0))) ∧
    (∀ (ini : Ini) (level : BitVec 2) (c : Nat) (s u z : State),
      s.sessionElsewhere ini = false →
      s.selfTest.undef = false →
      u = (s.quiet.bindSession ini true 0 (BitVec.ofNat 32 level.toNat)).w1cOnly .DBG_AUTH (BitVec.ofNat 32 level.toNat) →
      level.toNat = 1 ∨ level.toNat = 2 →
      u.dlevel .olicor ≤ level.toNat →
      u.lc = 2 ∨ u.lc = 3 ∨ u.lc = 5 →
      storeGet none (DPort.num .olicor) u.sec.challenge = some c →
      u.responseOk .olicor c level.toNat = false →
      z = u.wrongResponse →
      exec (.req (.olicor ini) level) s = .next (z.emit (.regAnswer ini .ok 0))) ∧
    (∀ (level : BitVec 2) (c : Nat) (s u z : State),
      s.jtag.ir = 16 →
      s.selfTest.undef = false →
      u = (s.quiet).w1cOnly .DBG_AUTH (BitVec.ofNat 32 level.toNat) →
      level.toNat = 1 ∨ level.toNat = 2 →
      u.dlevel .jtag ≤ level.toNat →
      u.lc = 2 ∨ u.lc = 3 ∨ u.lc = 5 →
      storeGet none (DPort.num .jtag) u.sec.challenge = some c →
      u.responseOk .jtag c level.toNat = false →
      z = u.wrongResponse →
      exec (.req .jtag level) s = .next ((z.drawn.setJtag { z.jtag with prev := some (0, .ok, z.draw % 2 ^ 32) }).emit (.regAnswer s.jtagIni .ok 0))) ∧
    (∀ (ini : Ini) (s u z : State),
      s.sessionElsewhere ini = false →
      s.selfTest.undef = false →
      u = (s.quiet.bindSession ini true 0 (BitVec.ofNat 32 32)).w1cOnly .DBG_AUTH (BitVec.ofNat 32 32) →
      z = u.closeSession .olicor →
      exec (.close (.olicor ini)) s = .next (z.emit (.regAnswer ini .ok 0))) ∧
    (∀ (s u z : State),
      s.jtag.ir = 16 →
      s.selfTest.undef = false →
      u = (s.quiet).w1cOnly .DBG_AUTH (BitVec.ofNat 32 32) →
      z = u.closeSession .jtag →
      exec (.close .jtag) s = .next ((z.drawn.setJtag { z.jtag with prev := some (0, .ok, z.draw % 2 ^ 32) }).emit (.regAnswer s.jtagIni .ok 0))) ∧
    (∀ (ini : Ini) (level : BitVec 2) (s : State),
      s.sessionElsewhere ini = true →
      exec (.req (.olicor ini) level) s = .next (s.quiet.emit (.regAnswer ini .denied 0))) ∧
    (∀ (ini : Ini) (t : Fin 4) (s : State),
      s.sessionElsewhere ini = false →
      s.selfTest.undef = false →
      s.dlevel .olicor < 2 →
      exec (.halt (.olicor ini) t) s = .next (s.quiet.emit (.regAnswer ini .denied 0))) ∧
    (∀ (rq : Request) (s : State),
      rq.acc.op = .nrd ∧ rq.acc.dstNode = 7 →
      s.sessionElsewhere rq.ini = false →
      rq.acc.size ≠ 4 →
      exec (.debugEndpointAccess rq) s = .next (s.quiet.reply rq .decode)) ∧
    (∀ (rq : Request) (s t : State) (d : Nat),
      rq.acc.op = .nrd ∧ rq.acc.dstNode = 7 →
      s.sessionElsewhere rq.ini = false →
      rq.acc.size = 4 →
      s.quiet.olicorAccess rq.ini false rq.acc.addr (BitVec.ofNat 32 (leNat rq.acc.data)) = (t, .ok, d) →
      exec (.debugEndpointAccess rq) s = .next (t.replyData rq (leBytes 4 d) 0))

/-- Debug halts, steps, the debug initiator and trace (R477, R480, R481, R483, R485, R486, R489, R491). With a FULL session a thread is halted, or will be
at its next commit point, released, forced out of a lock and stepped; a register of a halted thread is written, and one of another thread sets ERR;
regions are held, released and stepped, and a step ends when its last cycle has passed; a channel pulses. With an OBSERVE session a register of a
halted thread is read, the debug initiator issues a read (with FULL, a write) and shows the code of a failed one, and trace starts with an empty
buffer, stops, and a start that is not permitted sets CFG_ERR. A stimulus write is recorded, and an acknowledged trace write lets the next one go. -/
def Obligations.DebugActions : Prop :=
    (∀ (ini : Ini) (t : Fin 4) (v : BitVec 32) (s u z : State),
      s.sessionElsewhere ini = false →
      s.selfTest.undef = false →
      2 ≤ s.dlevel .olicor →
      v = BitVec.ofNat 32 (2 ^ 0 + 16 * s.rd (R.DBG_THR_CTL_WDT_FRZ t.val)) →
      (R.DBG_THR_CTL_HALT t.val).of v = 1 ∧ (R.DBG_THR_CTL_RELEASE t.val).of v = 0 ∧ (R.DBG_THR_CTL_FORCE t.val).of v = 0 ∧ (R.DBG_THR_CTL_STEP t.val).of v = 0 →
      u = s.quiet.storeReg (.DBG_THR_CTL t.val) v →
      u.tstate t.val = .run ∨ u.tstate t.val = .wait →
      (z = if u.atCommitPoint t.val then u.threadHalted t.val else u.set1 (R.DBG_THR_CTL_PEND t.val)) →
      exec (.halt (.olicor ini) t) s = .next (z.emit (.regAnswer ini .ok 0))) ∧
    (∀ (t : Fin 4) (v : BitVec 32) (s u z : State),
      s.jtag.ir = 16 →
      s.selfTest.undef = false →
      2 ≤ s.dlevel .jtag →
      v = BitVec.ofNat 32 (2 ^ 0 + 16 * s.rd (R.DBG_THR_CTL_WDT_FRZ t.val)) →
      (R.DBG_THR_CTL_HALT t.val).of v = 1 ∧ (R.DBG_THR_CTL_RELEASE t.val).of v = 0 ∧ (R.DBG_THR_CTL_FORCE t.val).of v = 0 ∧ (R.DBG_THR_CTL_STEP t.val).of v = 0 →
      u = s.quiet.storeReg (.DBG_THR_CTL t.val) v →
      u.tstate t.val = .run ∨ u.tstate t.val = .wait →
      (z = if u.atCommitPoint t.val then u.threadHalted t.val else u.set1 (R.DBG_THR_CTL_PEND t.val)) →
      exec (.halt .jtag t) s = .next ((z.drawn.setJtag { z.jtag with prev := some (0x200 + 0x10 * t.val, .ok, z.draw % 2 ^ 32) }).emit (.regAnswer s.jtagIni .ok 0))) ∧
    (∀ (ini : Ini) (t : Fin 4) (v : BitVec 32) (s u z : State),
      s.sessionElsewhere ini = false →
      s.selfTest.undef = false →
      2 ≤ s.dlevel .olicor →
      v = BitVec.ofNat 32 (2 ^ 1 + 16 * s.rd (R.DBG_THR_CTL_WDT_FRZ t.val)) →
      (R.DBG_THR_CTL_HALT t.val).of v = 0 ∧ (R.DBG_THR_CTL_RELEASE t.val).of v = 1 ∧ (R.DBG_THR_CTL_FORCE t.val).of v = 0 ∧ (R.DBG_THR_CTL_STEP t.val).of v = 0 →
      u = s.quiet.storeReg (.DBG_THR_CTL t.val) v →
      u.tstate t.val = .halted →
      z = u.threadRelease t.val →
      exec (.dbgRelease (.olicor ini) t) s = .next (z.emit (.regAnswer ini .ok 0))) ∧
    (∀ (t : Fin 4) (v : BitVec 32) (s u z : State),
      s.jtag.ir = 16 →
      s.selfTest.undef = false →
      2 ≤ s.dlevel .jtag →
      v = BitVec.ofNat 32 (2 ^ 1 + 16 * s.rd (R.DBG_THR_CTL_WDT_FRZ t.val)) →
      (R.DBG_THR_CTL_HALT t.val).of v = 0 ∧ (R.DBG_THR_CTL_RELEASE t.val).of v = 1 ∧ (R.DBG_THR_CTL_FORCE t.val).of v = 0 ∧ (R.DBG_THR_CTL_STEP t.val).of v = 0 →
      u = s.quiet.storeReg (.DBG_THR_CTL t.val) v →
      u.tstate t.val = .halted →
      z = u.threadRelease t.val →
      exec (.dbgRelease .jtag t) s = .next ((z.drawn.setJtag { z.jtag with prev := some (0x200 + 0x10 * t.val, .ok, z.draw % 2 ^ 32) }).emit (.regAnswer s.jtagIni .ok 0))) ∧
    (∀ (ini : Ini) (t : Fin 4) (v : BitVec 32) (s u z : State),
      s.sessionElsewhere ini = false →
      s.selfTest.undef = false →
      2 ≤ s.dlevel .olicor →
      v = BitVec.ofNat 32 (2 ^ 2 + 16 * s.rd (R.DBG_THR_CTL_WDT_FRZ t.val)) →
      (R.DBG_THR_CTL_HALT t.val).of v = 0 ∧ (R.DBG_THR_CTL_RELEASE t.val).of v = 0 ∧ (R.DBG_THR_CTL_FORCE t.val).of v = 1 ∧ (R.DBG_THR_CTL_STEP t.val).of v = 0 →
      u = s.quiet.storeReg (.DBG_THR_CTL t.val) v →
      u.is1 (R.DBG_THR_CTL_PEND t.val) = true ∧ u.locked t.val = true →
      z = ((((u.squashAll t.val).abortLock t.val).pendingActs t.val).haltIf t.val true).log (.blockEvent 0x21) [t.val, ((((u.squashAll t.val).abortLock t.val).pendingActs t.val).haltIf t.val true).tpc t.val] →
      exec (.force (.olicor ini) t) s = .next (z.emit (.regAnswer ini .ok 0))) ∧
    (∀ (t : Fin 4) (v : BitVec 32) (s u z : State),
      s.jtag.ir = 16 →
      s.selfTest.undef = false →
      2 ≤ s.dlevel .jtag →
      v = BitVec.ofNat 32 (2 ^ 2 + 16 * s.rd (R.DBG_THR_CTL_WDT_FRZ t.val)) →
      (R.DBG_THR_CTL_HALT t.val).of v = 0 ∧ (R.DBG_THR_CTL_RELEASE t.val).of v = 0 ∧ (R.DBG_THR_CTL_FORCE t.val).of v = 1 ∧ (R.DBG_THR_CTL_STEP t.val).of v = 0 →
      u = s.quiet.storeReg (.DBG_THR_CTL t.val) v →
      u.is1 (R.DBG_THR_CTL_PEND t.val) = true ∧ u.locked t.val = true →
      z = ((((u.squashAll t.val).abortLock t.val).pendingActs t.val).haltIf t.val true).log (.blockEvent 0x21) [t.val, ((((u.squashAll t.val).abortLock t.val).pendingActs t.val).haltIf t.val true).tpc t.val] →
      exec (.force .jtag t) s = .next ((z.drawn.setJtag { z.jtag with prev := some (0x200 + 0x10 * t.val, .ok, z.draw % 2 ^ 32) }).emit (.regAnswer s.jtagIni .ok 0))) ∧
    (∀ (ini : Ini) (t : Fin 4) (v : BitVec 32) (s u z : State),
      s.sessionElsewhere ini = false →
      s.selfTest.undef = false →
      2 ≤ s.dlevel .olicor →
      v = BitVec.ofNat 32 (2 ^ 3 + 16 * s.rd (R.DBG_THR_CTL_WDT_FRZ t.val)) →
      (R.DBG_THR_CTL_HALT t.val).of v = 0 ∧ (R.DBG_THR_CTL_RELEASE t.val).of v = 0 ∧ (R.DBG_THR_CTL_FORCE t.val).of v = 0 ∧ (R.DBG_THR_CTL_STEP t.val).of v = 1 →
      u = s.quiet.storeReg (.DBG_THR_CTL t.val) v →
      u.tstate t.val = .halted ∧ u.is1 (R.DBG_THR_CTL_DEFERRED t.val) = false →
      z = ((u.wdtResume t.val).setTstate t.val .run).setThread t.val { ((u.wdtResume t.val).setTstate t.val .run).thread t.val with stepping := true } →
      exec (.step (.olicor ini) t) s = .next (z.emit (.regAnswer ini .ok 0))) ∧
    (∀ (t : Fin 4) (v : BitVec 32) (s u z : State),
      s.jtag.ir = 16 →
      s.selfTest.undef = false →
      2 ≤ s.dlevel .jtag →
      v = BitVec.ofNat 32 (2 ^ 3 + 16 * s.rd (R.DBG_THR_CTL_WDT_FRZ t.val)) →
      (R.DBG_THR_CTL_HALT t.val).of v = 0 ∧ (R.DBG_THR_CTL_RELEASE t.val).of v = 0 ∧ (R.DBG_THR_CTL_FORCE t.val).of v = 0 ∧ (R.DBG_THR_CTL_STEP t.val).of v = 1 →
      u = s.quiet.storeReg (.DBG_THR_CTL t.val) v →
      u.tstate t.val = .halted ∧ u.is1 (R.DBG_THR_CTL_DEFERRED t.val) = false →
      z = ((u.wdtResume t.val).setTstate t.val .run).setThread t.val { ((u.wdtResume t.val).setTstate t.val .run).thread t.val with stepping := true } →
      exec (.step .jtag t) s = .next ((z.drawn.setJtag { z.jtag with prev := some (0x200 + 0x10 * t.val, .ok, z.draw % 2 ^ 32) }).emit (.regAnswer s.jtagIni .ok 0))) ∧
    (∀ (ini : Ini) (value : BitVec 32) (v : BitVec 32) (s u z : State),
      s.sessionElsewhere ini = false →
      s.selfTest.undef = false →
      2 ≤ s.dlevel .olicor →
      v = value →
      u = s.quiet →
      u.tstate u.selThread = .halted →
      z = (u.dropLo thrDataLo ini).setSel (u.pairLo thrDataLo ini (u.selValue.1 % 2 ^ 32) + 2 ^ 32 * v.toNat) →
      exec (.thrDataWrite (.olicor ini) value) s = .next (z.emit (.regAnswer ini .ok 0))) ∧
    (∀ (value : BitVec 32) (v : BitVec 32) (s u z : State),
      s.jtag.ir = 16 →
      s.selfTest.undef = false →
      2 ≤ s.dlevel .jtag →
      v = value →
      u = s.quiet →
      u.tstate u.selThread = .halted →
      z = (u.dropLo thrDataLo s.jtagIni).setSel (u.pairLo thrDataLo s.jtagIni (u.selValue.1 % 2 ^ 32) + 2 ^ 32 * v.toNat) →
      exec (.thrDataWrite .jtag value) s = .next ((z.drawn.setJtag { z.jtag with prev := some (0x288, .ok, z.draw % 2 ^ 32) }).emit (.regAnswer s.jtagIni .ok 0))) ∧
    (∀ (ini : Ini) (value : BitVec 32) (v : BitVec 32) (s u z : State),
      s.sessionElsewhere ini = false →
      s.selfTest.undef = false →
      2 ≤ s.dlevel .olicor →
      v = value →
      u = s.quiet →
      u.tstate u.selThread ≠ .halted →
      z = u.set1 R.DBG_THR_SEL_ERR →
      exec (.thrDataWrite (.olicor ini) value) s = .next (z.emit (.regAnswer ini .ok 0))) ∧
    (∀ (value : BitVec 32) (v : BitVec 32) (s u z : State),
      s.jtag.ir = 16 →
      s.selfTest.undef = false →
      2 ≤ s.dlevel .jtag →
      v = value →
      u = s.quiet →
      u.tstate u.selThread ≠ .halted →
      z = u.set1 R.DBG_THR_SEL_ERR →
      exec (.thrDataWrite .jtag value) s = .next ((z.drawn.setJtag { z.jtag with prev := some (0x288, .ok, z.draw % 2 ^ 32) }).emit (.regAnswer s.jtagIni .ok 0))) ∧
    (∀ (ini : Ini) (i : Fin 2) (value : BitVec 32) (v : BitVec 32) (s u z : State),
      s.sessionElsewhere ini = false →
      s.selfTest.undef = false →
      2 ≤ s.dlevel .olicor →
      v = value →
      u = s.quiet →
      z = u.eachRegion i.val v (fun (t : State) n => t.setHold n .debug) →
      exec (.dbgRegHalt (.olicor ini) i value) s = .next (z.emit (.regAnswer ini .ok 0))) ∧
    (∀ (i : Fin 2) (value : BitVec 32) (v : BitVec 32) (s u z : State),
      s.jtag.ir = 16 →
      s.selfTest.undef = false →
      2 ≤ s.dlevel .jtag →
      v = value →
      u = s.quiet →
      z = u.eachRegion i.val v (fun (t : State) n => t.setHold n .debug) →
      exec (.dbgRegHalt .jtag i value) s = .next ((z.drawn.setJtag { z.jtag with prev := some (0x300 + 4 * i.val, .ok, z.draw % 2 ^ 32) }).emit (.regAnswer s.jtagIni .ok 0))) ∧
    (∀ (ini : Ini) (i : Fin 2) (value : BitVec 32) (v : BitVec 32) (s u z : State),
      s.sessionElsewhere ini = false →
      s.selfTest.undef = false →
      2 ≤ s.dlevel .olicor →
      v = value →
      u = s.quiet →
      z = u.eachRegion i.val v (fun (t : State) n => t.clrHold n .debug) →
      exec (.dbgRegRel (.olicor ini) i value) s = .next (z.emit (.regAnswer ini .ok 0))) ∧
    (∀ (i : Fin 2) (value : BitVec 32) (v : BitVec 32) (s u z : State),
      s.jtag.ir = 16 →
      s.selfTest.undef = false →
      2 ≤ s.dlevel .jtag →
      v = value →
      u = s.quiet →
      z = u.eachRegion i.val v (fun (t : State) n => t.clrHold n .debug) →
      exec (.dbgRegRel .jtag i value) s = .next ((z.drawn.setJtag { z.jtag with prev := some (0x310 + 4 * i.val, .ok, z.draw % 2 ^ 32) }).emit (.regAnswer s.jtagIni .ok 0))) ∧
    (∀ (ini : Ini) (n : Fin 64) (count : BitVec 8) (v : BitVec 32) (s u z : State),
      s.sessionElsewhere ini = false →
      s.selfTest.undef = false →
      2 ≤ s.dlevel .olicor →
      v = BitVec.ofNat 32 (n.val * 2 ^ 16 + count.toNat) →
      s.is1 R.DBG_REG_STEP_BUSY = false →
      R.DBG_REG_STEP_REGION.of v = n.val ∧ R.DBG_REG_STEP_COUNT.of v = count.toNat →
      count.toNat ≠ 0 →
      u = s.quiet.storeReg .DBG_REG_STEP v →
      u.rstate n.val = .held ∧ u.rd (R.REGION_STATUS_HOLD_SRC n.val) = 2 ^ (Hold.debug).bit →
      z = ((u.setRegion n.val { u.region n.val with stepLeft := count.toNat }).clrHold n.val .debug).set1 R.DBG_REG_STEP_BUSY →
      exec (.dbgRegStep (.olicor ini) n count) s = .next (z.emit (.regAnswer ini .ok 0))) ∧
    (∀ (n : Fin 64) (count : BitVec 8) (v : BitVec 32) (s u z : State),
      s.jtag.ir = 16 →
      s.selfTest.undef = false →
      2 ≤ s.dlevel .jtag →
      v = BitVec.ofNat 32 (n.val * 2 ^ 16 + count.toNat) →
      s.is1 R.DBG_REG_STEP_BUSY = false →
      R.DBG_REG_STEP_REGION.of v = n.val ∧ R.DBG_REG_STEP_COUNT.of v = count.toNat →
      count.toNat ≠ 0 →
      u = s.quiet.storeReg .DBG_REG_STEP v →
      u.rstate n.val = .held ∧ u.rd (R.REGION_STATUS_HOLD_SRC n.val) = 2 ^ (Hold.debug).bit →
      z = ((u.setRegion n.val { u.region n.val with stepLeft := count.toNat }).clrHold n.val .debug).set1 R.DBG_REG_STEP_BUSY →
      exec (.dbgRegStep .jtag n count) s = .next ((z.drawn.setJtag { z.jtag with prev := some (0x320, .ok, z.draw % 2 ^ 32) }).emit (.regAnswer s.jtagIni .ok 0))) ∧
    (∀ (ini : Ini) (c : Fin 16) (v : BitVec 32) (s u z : State),
      s.sessionElsewhere ini = false →
      s.selfTest.undef = false →
      2 ≤ s.dlevel .olicor →
      v = BitVec.ofNat 32 (2 ^ 31 + (2 ^ 30 * s.rd (R.DBG_XT_CFG_FREEZE c.val) + 2 ^ 29 * s.rd (R.DBG_XT_CFG_TRACE_STOP c.val) + 2 ^ 28 * s.rd (R.DBG_XT_CFG_TRACE_MARK c.val) + 2 ^ 24 * s.rd (R.DBG_XT_CFG_THR_HALT c.val))) →
      (R.DBG_XT_CFG_SW c.val).of v = 1 →
      u = s.quiet.storeReg (.DBG_XT_CFG c.val) v →
      z = u.pulse c.val →
      exec (.sw (.olicor ini) c) s = .next (z.emit (.regAnswer ini .ok 0))) ∧
    (∀ (c : Fin 16) (v : BitVec 32) (s u z : State),
      s.jtag.ir = 16 →
      s.selfTest.undef = false →
      2 ≤ s.dlevel .jtag →
      v = BitVec.ofNat 32 (2 ^ 31 + (2 ^ 30 * s.rd (R.DBG_XT_CFG_FREEZE c.val) + 2 ^ 29 * s.rd (R.DBG_XT_CFG_TRACE_STOP c.val) + 2 ^ 28 * s.rd (R.DBG_XT_CFG_TRACE_MARK c.val) + 2 ^ 24 * s.rd (R.DBG_XT_CFG_THR_HALT c.val))) →
      (R.DBG_XT_CFG_SW c.val).of v = 1 →
      u = s.quiet.storeReg (.DBG_XT_CFG c.val) v →
      z = u.pulse c.val →
      exec (.sw .jtag c) s = .next ((z.drawn.setJtag { z.jtag with prev := some (0x1000 + 0x10 * c.val, .ok, z.draw % 2 ^ 32) }).emit (.regAnswer s.jtagIni .ok 0))) ∧
    (∀ (ini : Ini) (value : BitVec 32) (v : BitVec 32) (s u z : State),
      s.sessionElsewhere ini = false →
      s.selfTest.undef = false →
      1 ≤ s.dlevel .olicor →
      v = value →
      R.TRACE_CTL_EN.of v = 0 →
      u = s.quiet.w1cOnly .TRACE_CTL v →
      z = u.storeReg .TRACE_CTL v →
      exec (.traceEn (.olicor ini) value) s = .next (z.emit (.regAnswer ini .ok 0))) ∧
    (∀ (value : BitVec 32) (v : BitVec 32) (s u z : State),
      s.jtag.ir = 16 →
      s.selfTest.undef = false →
      1 ≤ s.dlevel .jtag →
      v = value →
      R.TRACE_CTL_EN.of v = 0 →
      u = s.quiet.w1cOnly .TRACE_CTL v →
      z = u.storeReg .TRACE_CTL v →
      exec (.traceEn .jtag value) s = .next ((z.drawn.setJtag { z.jtag with prev := some (0x2000, .ok, z.draw % 2 ^ 32) }).emit (.regAnswer s.jtagIni .ok 0))) ∧
    (∀ (ini : Ini) (value : BitVec 32) (g : Nat) (u2 : State) (v : BitVec 32) (s u z : State),
      s.sessionElsewhere ini = false →
      s.selfTest.undef = false →
      1 ≤ s.dlevel .olicor →
      v = value →
      R.TRACE_CTL_EN.of v = 1 →
      u = s.quiet.w1cOnly .TRACE_CTL v →
      g = cond (decide (24 ≤ R.TRACE_CTL_GROUP.of v)) (u.rd R.TRACE_CTL_GROUP) (R.TRACE_CTL_GROUP.of v) →
      u.traceRefused (R.TRACE_CTL_SINK.of v == 1) g = false →
      u2 = ((((if R.TRACE_CTL_SINK.of v = 1 then u.requestOn (88 + g) .host else u).storeReg .TRACE_CTL v).clr R.TRACE_STAT_STOPPED).clr R.TRACE_STAT_WRAPPED).clr R.TRACE_WPTR_WPTR →
      z = { u2 with trace := { u2.trace with buf := [], lost := 0, post := none } } →
      exec (.traceEn (.olicor ini) value) s = .next (z.emit (.regAnswer ini .ok 0))) ∧
    (∀ (value : BitVec 32) (g : Nat) (u2 : State) (v : BitVec 32) (s u z : State),
      s.jtag.ir = 16 →
      s.selfTest.undef = false →
      1 ≤ s.dlevel .jtag →
      v = value →
      R.TRACE_CTL_EN.of v = 1 →
      u = s.quiet.w1cOnly .TRACE_CTL v →
      g = cond (decide (24 ≤ R.TRACE_CTL_GROUP.of v)) (u.rd R.TRACE_CTL_GROUP) (R.TRACE_CTL_GROUP.of v) →
      u.traceRefused (R.TRACE_CTL_SINK.of v == 1) g = false →
      u2 = ((((if R.TRACE_CTL_SINK.of v = 1 then u.requestOn (88 + g) .host else u).storeReg .TRACE_CTL v).clr R.TRACE_STAT_STOPPED).clr R.TRACE_STAT_WRAPPED).clr R.TRACE_WPTR_WPTR →
      z = { u2 with trace := { u2.trace with buf := [], lost := 0, post := none } } →
      exec (.traceEn .jtag value) s = .next ((z.drawn.setJtag { z.jtag with prev := some (0x2000, .ok, z.draw % 2 ^ 32) }).emit (.regAnswer s.jtagIni .ok 0))) ∧
    (∀ (ini : Ini) (value : BitVec 32) (g : Nat) (v : BitVec 32) (s u z : State),
      s.sessionElsewhere ini = false →
      s.selfTest.undef = false →
      1 ≤ s.dlevel .olicor →
      v = value →
      R.TRACE_CTL_EN.of v = 1 →
      u = s.quiet.w1cOnly .TRACE_CTL v →
      g = cond (decide (24 ≤ R.TRACE_CTL_GROUP.of v)) (u.rd R.TRACE_CTL_GROUP) (R.TRACE_CTL_GROUP.of v) →
      u.traceRefused (R.TRACE_CTL_SINK.of v == 1) g = true →
      z = u.set1 R.TRACE_CTL_CFG_ERR →
      exec (.traceEn (.olicor ini) value) s = .next (z.emit (.regAnswer ini .ok 0))) ∧
    (∀ (value : BitVec 32) (g : Nat) (v : BitVec 32) (s u z : State),
      s.jtag.ir = 16 →
      s.selfTest.undef = false →
      1 ≤ s.dlevel .jtag →
      v = value →
      R.TRACE_CTL_EN.of v = 1 →
      u = s.quiet.w1cOnly .TRACE_CTL v →
      g = cond (decide (24 ≤ R.TRACE_CTL_GROUP.of v)) (u.rd R.TRACE_CTL_GROUP) (R.TRACE_CTL_GROUP.of v) →
      u.traceRefused (R.TRACE_CTL_SINK.of v == 1) g = true →
      z = u.set1 R.TRACE_CTL_CFG_ERR →
      exec (.traceEn .jtag value) s = .next ((z.drawn.setJtag { z.jtag with prev := some (0x2000, .ok, z.draw % 2 ^ 32) }).emit (.regAnswer s.jtagIni .ok 0))) ∧
    (∀ (ini : Ini) (size : BitVec 3) (write : Bool) (n addr : Nat) (v : BitVec 32) (s u z : State),
      s.sessionElsewhere ini = false →
      s.selfTest.undef = false →
      1 ≤ s.dlevel .olicor →
      v = BitVec.ofNat 32 (16 * size.toNat + 2 * write.toNat + 1) →
      R.DBG_INIT_CMD_GO.of v = 1 →
      u = s.quiet.storeReg .DBG_INIT_CMD v →
      u.is1 R.DBG_INIT_CMD_WRITE = write →
      n = 2 ^ u.rd R.DBG_INIT_CMD_SIZE ∧ addr = u.rd64 R.DBG_INIT_ADDR_LO_ADDR R.DBG_INIT_ADDR_HI_ADDR →
      u.is1 R.DBG_INIT_CMD_BUSY = false →
      (if write = true then 2 else 1) ≤ u.dlevel .olicor →
      localDecode addr n = false →
      z = (u.set1 R.DBG_INIT_CMD_BUSY).sendReq 7 (if write then ⟨.wr, 0, 0, addr, n, ((List.range 16).flatMap fun i => leBytes 4 (u.rd (R.DBG_INIT_DATA_DATA i))).take n, 0⟩ else ⟨.rd, 0, 0, addr, n, [], 0⟩) →
      exec (.dbgInitGo (.olicor ini) size write) s = .next (z.emit (.regAnswer ini .ok 0))) ∧
    (∀ (size : BitVec 3) (write : Bool) (n addr : Nat) (v : BitVec 32) (s u z : State),
      s.jtag.ir = 16 →
      s.selfTest.undef = false →
      1 ≤ s.dlevel .jtag →
      v = BitVec.ofNat 32 (16 * size.toNat + 2 * write.toNat + 1) →
      R.DBG_INIT_CMD_GO.of v = 1 →
      u = s.quiet.storeReg .DBG_INIT_CMD v →
      u.is1 R.DBG_INIT_CMD_WRITE = write →
      n = 2 ^ u.rd R.DBG_INIT_CMD_SIZE ∧ addr = u.rd64 R.DBG_INIT_ADDR_LO_ADDR R.DBG_INIT_ADDR_HI_ADDR →
      u.is1 R.DBG_INIT_CMD_BUSY = false →
      (if write = true then 2 else 1) ≤ u.dlevel .jtag →
      localDecode addr n = false →
      z = (u.set1 R.DBG_INIT_CMD_BUSY).sendReq 7 (if write then ⟨.wr, 0, 0, addr, n, ((List.range 16).flatMap fun i => leBytes 4 (u.rd (R.DBG_INIT_DATA_DATA i))).take n, 0⟩ else ⟨.rd, 0, 0, addr, n, [], 0⟩) →
      exec (.dbgInitGo .jtag size write) s = .next ((z.drawn.setJtag { z.jtag with prev := some (0x100, .ok, z.draw % 2 ^ 32) }).emit (.regAnswer s.jtagIni .ok 0))) ∧
    (∀ (ini : Ini) (s z : State) (x : Nat × Bool),
      s.sessionElsewhere ini = false →
      s.selfTest.undef = false →
      1 ≤ s.dlevel .olicor →
      s.tstate s.selThread = .halted →
      x = s.selValue →
      z = ({ s.quiet with captures := storeSet none (pairKey thrDataLo ini) (some (x.1 / 2 ^ 32)) s.captures } : State).wrb R.DBG_THR_SEL_TAG x.2 →
      exec (.thrDataRead (.olicor ini)) s = .next (z.emit (.regAnswer ini .ok (x.1 % 2 ^ 32)))) ∧
    (∀ (tag : BitVec 8) (a : Answer) (s t u : State),
      s.quiet.takeAnswer 7 tag.toNat a = some t →
      a.code ≠ .ok →
      u = ((t.clr R.DBG_INIT_CMD_BUSY).set1 R.DBG_INIT_CMD_DONE).wr R.DBG_INIT_STAT_CODE a.code.code →
      exec (.dbgInitAnswer tag a) s = .next (u.clr R.DBG_INIT_STAT_POISON)) ∧
    (∀ (t : Fin 4) (s : State),
      s.is1 (R.DBG_THR_CTL_PEND t.val) = true →
      s.locked t.val = true →
      exec (.haltPendingLocked t) s = .next (s.quiet.set1 (R.DBG_THR_CTL_PEND_LOCKED t.val))) ∧
    (∀ (n : Nat) (s : State),
      s.is1 R.DBG_REG_STEP_BUSY = true →
      n = s.rd R.DBG_REG_STEP_REGION →
      (s.region n).stepLeft = 0 →
      exec .regionStepEnd s = .next ((s.quiet.setHold n .debug).clr R.DBG_REG_STEP_BUSY)) ∧
    (∀ (n : Nat) (s : State),
      n = s.rd R.DBG_REG_STEP_REGION →
      s.is1 R.DBG_REG_STEP_BUSY = false ∨ (s.region n).stepLeft ≠ 0 →
      exec .regionStepEnd s = .next s.quiet) ∧
    (∀ (rq : Request) (s : State),
      rq.acc.op = .nwr ∧ rq.acc.dstNode = traceNode ∧ rq.acc.data.length = rq.acc.size →
      rq.acc.addr % 8 = 0 ∧ rq.acc.addr < 2048 →
      rq.acc.size = 1 ∨ rq.acc.size = 2 ∨ rq.acc.size = 4 ∨ rq.acc.size = 8 →
      exec (.stimWrite rq) s = .next ((s.quiet.stimulus (rq.acc.addr / 8) (leNat rq.acc.data) rq.acc.size (rq.acc.poison.testBit 0) rq.ini.node).reply rq .ok)) ∧
    (∀ (tag : BitVec 8) (a : Answer) (bank : Nat) (s t : State),
      s.trace.sent = some bank →
      s.quiet.takeAnswer traceNode tag.toNat a = some t →
      a.code = .ok →
      exec (.traceWriteAnswer tag a) s = .next (({ t with trace := { t.trace with sent := none } } : State).tracePush))

/-- A step runs the command at the front of the queue (00_scope.md, R122). When a command stands at the front of the queue, a step is exec of that command
on the state with the rest of the queue; on an empty queue one idle reference cycle passes, which changes no fuse, no scratchpad byte and no stored
frame. The queue and the idle cycle are the model's choice (log entries 1 and 5). -/
def Obligations.StepRunsTheFrontCommand : Prop :=
    (∀ (c : Instr) (rest : List Instr) (s : State),
      s.pending = c :: rest →
      step s = exec c { s with pending := rest }) ∧
    (∀ (c : Instr) (rest : List Instr) (s : State),
      s.pending = c :: rest →
      Host.Core.step Sys2Proof.core s = exec c { s with pending := rest }) ∧
    (∀ (s : State),
      s.pending = [] →
      step s = .next s.idle ∧ s.idle.now = s.now + 1 ∧ s.idle.pending = [] ∧ s.idle.fuses = s.fuses ∧ s.idle.lcFuses = s.lcFuses ∧
        s.idle.spad = s.spad ∧ s.idle.planes = s.planes)

/-- What a reset leaves (R13, R137, R139, R144). After reset every scalar register of every thread reads 0 with its tag clear, every thread is OFF, every
counter of the branch predictor is 0b01, every region is OFF and every register field reads its reset value. Where the spec gives a field no reset
value, that value is the model's choice (log entries 2 and 91). -/
def Obligations.ResetLeaves : Prop :=
    (∀ (t r : Nat),
      State.reset.reg t r = 0 ∧ State.reset.tag t r = false) ∧
    (∀ (t : Fin 4),
      State.reset.tstate t.val = .off) ∧
    (∀ (n : Fin 64),
      State.reset.rstate n.val = .off) ∧
    (∀ (s : State) (pc : Nat),
      s = State.reset →
      s.predicted 0 pc = false ∧ storeGet 1 (pc % 1024) s.predictor = 1) ∧
    (∀ (f : Fld),
      State.reset.rd f = f.rst % 2 ^ f.width)

/-- The state after reset meets the invariant (R437, R442, R463). After reset the three memories are in canonical form and the fuses are as a part has
them; no command waits. -/
def Obligations.ResetMeetsInvariant : Prop :=
    State.reset.inv = true ∧ State.reset.queueOk = true ∧ State.reset.pending = []

/-- Every step keeps the invariant (R437, R442, R451, R463, R464). From every state that meets the invariant (the scratchpad bytes, block RAM rows and
stored frames in canonical form; a life-cycle state of R437, at most 15 epoch fuses, at most 512 repair entries), whatever command is at the front of
the queue, a next state meets it. The canonical form is the model's own. -/
def Obligations.StepKeepsInvariant : Prop :=
  ∀ (s t : State), s.inv = true → step s = .next t → t.inv = true

/-- The waiting commands are taken one by one (00_scope.md, R437). From every state whose waiting commands are all ones that an outside agent can give, k
steps with k at most their number answer a next state, the rest of the queue still waits in its order, and the invariant holds if it held. The queue
and its order are the form of the model (log entry 1). -/
def Obligations.WaitingCommandsDrain : Prop :=
  ∀ (k : Nat) (s : State), s.queueOk = true → k ≤ s.pending.length →
      ∃ t : State, Host.Core.run Sys2Proof.core k s = .next t ∧ t.pending = s.pending.drop k ∧ (s.inv = true → t.inv = true)

/-- Every command that an agent can give completes (00_scope.md, R235, R236, R433, R471). In every state a command that an outside agent can give
(WellFormed) answers a next state; any other command stops as ill-formed under its name; no command is refused. Which commands are ill-formed is the
model's reading of the operand lengths that the rules give (log entry 1). -/
def Obligations.EveryCommandHasAnEffect : Prop :=
    (∀ (c : Instr) (s : State),
      c.wellFormed = true →
      ∃ t, exec c s = .next t) ∧
    (∀ (c : Instr) (s : State),
      c.wellFormed = false →
      ∃ m, exec c s = .fault (.illFormed m)) ∧
    (∀ (c : Instr) (s : State) (r : Refusal),
      exec c s ≠ .refused r)

/-- Fuses are burned and never cleared (R437, R438, R442, R450, R463, R464). No command puts anything into the queue or takes anything from it; the fuses
that bin the part stay; each of the three life-cycle fuse rows keeps the fuses that are burned in it, so that the state does not fall; the epoch fuses
do not fall, CAP, the debug key's kill fuse and the destroyed key-encryption key stay, and the repair fuse entries only grow at their end. -/
def Obligations.CommandsBurnFusesOnly : Prop :=
    (∀ (c : Instr) (s t : State),
      exec c s = .next t →
      t.pending = s.pending ∧ t.fuses = s.fuses ∧ burnedMore s.lcFuses t.lcFuses) ∧
    (∀ (s t : State),
      step s = .next t →
      burnedMore s.lcFuses t.lcFuses ∧ t.fuses = s.fuses)

/-- Scalar registers and the next word (R158). A read of s0 returns 0 and a result written to s0 is discarded; a result written to another register is
what a read of it then returns, other registers and other threads keep theirs; the next instruction in sequence is at PC + 1, and 0 follows 32,767. -/
def Obligations.RegistersAndSequence : Prop :=
    (∀ (s : State) (t : Nat),
      s.reg t 0 = 0) ∧
    (∀ (s : State) (t : Nat) (v : Word) (b : Bool),
      ∀ r : Nat, (s.setReg t 0 v b).reg t r = s.reg t r) ∧
    (∀ (s : State) (t r : Nat) (v : Word) (b : Bool),
      1 ≤ r →
      r ≤ 31 →
      (s.setReg t r v b).reg t r = v ∧ (s.setReg t r v b).tag t r = b) ∧
    (∀ (s : State) (t u r q : Nat) (v : Word) (b : Bool),
      u ≠ t ∨ q ≠ r →
      (s.setReg t r v b).reg u q = s.reg u q) ∧
    (∀ (t : Fin 4) (i : Insn) (s : State),
      s.standsAt t.val i .nop = true →
      exec (.nop t) s = .next (s.quiet.commitTo t.val (if s.tpc t.val = 32767 then 0 else s.tpc t.val + 1)))

/-- Computed indexes (R159). Region, plane, courier, event line or stimulus port, scratchpad bank and power domain are the sums of the named bits of a
register and of IMM modulo their number, a register's higher bits being ignored; with s0 the index is the immediate alone; an instruction that uses
one of them has its other IMM bits reserved. -/
def Obligations.IndexesOfInstructions : Prop :=
    (∀ (i : Insn) (a b : Word),
      i.regionIdx a = (a.toNat % 64 + i.imm % 64) % 64 ∧ i.planeIdx b = (b.toNat % 8 + i.imm / 256 % 8) % 8 ∧
        i.courierIdx a = (a.toNat % 32 + i.imm % 32) % 32 ∧ i.lineIdx a = (a.toNat % 256 + i.imm % 256) % 256 ∧
        i.bankIdx a = (a.toNat % 2048 + i.imm % 2048) % 2048 ∧ i.domIdx a = (a.toNat % 128 + i.imm % 128) % 128) ∧
    (∀ (i : Insn) (s : State) (t : Nat),
      i.regionIdx (s.reg t 0) = i.imm % 64 ∧ i.planeIdx (s.reg t 0) = i.imm / 256 % 8 ∧ i.courierIdx (s.reg t 0) = i.imm % 32 ∧
        i.lineIdx (s.reg t 0) = i.imm % 256 ∧ i.bankIdx (s.reg t 0) = i.imm % 2048 ∧ i.domIdx (s.reg t 0) = i.imm % 128) ∧
    (∀ (i : Insn) (r : Row),
      r ∈ [(Row.pre), (Row.fill), (Row.swap)] →
      i.reservedOk r = true →
      i.imm % 64 + 256 * (i.imm / 256 % 8) = i.imm) ∧
    (∀ (i : Insn) (r : Row),
      r ∈ [(Row.stop), (Row.rcmdHold), (Row.rcmdRelease), (Row.rcmdCancel), (Row.wshad), (Row.mirrRegion)] →
      i.reservedOk r = true →
      i.imm < 64) ∧
    (∀ (i : Insn) (r : Row),
      r ∈ [(Row.cstart), (Row.cwait)] →
      i.reservedOk r = true →
      i.imm < 32) ∧
    (∀ (i : Insn) (r : Row),
      r ∈ [(Row.evt), (Row.emit)] →
      i.reservedOk r = true →
      i.imm < 256) ∧
    (∀ (i : Insn) (r : Row),
      r ∈ [(Row.mirrBank)] →
      i.reservedOk r = true →
      i.imm < 2048) ∧
    (∀ (i : Insn) (r : Row),
      r ∈ [(Row.pwrOn), (Row.pwrOff)] →
      i.reservedOk r = true →
      i.imm < 128)

/-- Where a branch or jump goes (R143, R158, R168, R169). A conditional branch that has not resolved ahead, with untagged operands and nothing waiting for
its commit point, leaves its thread in RUN at word IMM[14:0] where its condition holds and at the next word where it does not, BFS and BFC by the flag
line as it was in the cycle of issue; one that has resolved ahead goes the way it resolved; JAL goes to IMM[14:0] and JALR to the low 15 bits of RA +
IMM. -/
def Obligations.BranchesGoWhereTheyShould : Prop :=
    (∀ (t : Fin 4) (i : Insn) (s : State),
      s.standsAt t.val i (.branch 0) = true →
      (s.thread t.val).resolved = [] →
      (s.thread t.val).stepping = false ∧ (s.thread t.val).stopReq = false ∧ (s.thread t.val).haltReq = none ∧ (s.thread t.val).rstReq = false ∧ s.is1 (R.DBG_THR_CTL_PEND t.val) = false →
      s.tag t.val i.ra = false →
      s.tag t.val i.rb = false →
      ∃ out, exec (.beq t) s = .next out ∧ out.tstate t.val = .run ∧ out.tpc t.val = (if s.reg t.val i.ra = s.reg t.val i.rb then i.imm % 2 ^ 15 else (s.tpc t.val + 1) % 2 ^ 15)) ∧
    (∀ (t : Fin 4) (i : Insn) (s : State),
      s.standsAt t.val i (.branch 1) = true →
      (s.thread t.val).resolved = [] →
      (s.thread t.val).stepping = false ∧ (s.thread t.val).stopReq = false ∧ (s.thread t.val).haltReq = none ∧ (s.thread t.val).rstReq = false ∧ s.is1 (R.DBG_THR_CTL_PEND t.val) = false →
      s.tag t.val i.ra = false →
      s.tag t.val i.rb = false →
      ∃ out, exec (.bne t) s = .next out ∧ out.tstate t.val = .run ∧ out.tpc t.val = (if s.reg t.val i.ra ≠ s.reg t.val i.rb then i.imm % 2 ^ 15 else (s.tpc t.val + 1) % 2 ^ 15)) ∧
    (∀ (t : Fin 4) (i : Insn) (s : State),
      s.standsAt t.val i (.branch 2) = true →
      (s.thread t.val).resolved = [] →
      (s.thread t.val).stepping = false ∧ (s.thread t.val).stopReq = false ∧ (s.thread t.val).haltReq = none ∧ (s.thread t.val).rstReq = false ∧ s.is1 (R.DBG_THR_CTL_PEND t.val) = false →
      s.tag t.val i.ra = false →
      s.tag t.val i.rb = false →
      ∃ out, exec (.blt t) s = .next out ∧ out.tstate t.val = .run ∧ out.tpc t.val = (if (s.reg t.val i.ra).toInt < (s.reg t.val i.rb).toInt then i.imm % 2 ^ 15 else (s.tpc t.val + 1) % 2 ^ 15)) ∧
    (∀ (t : Fin 4) (i : Insn) (s : State),
      s.standsAt t.val i (.branch 3) = true →
      (s.thread t.val).resolved = [] →
      (s.thread t.val).stepping = false ∧ (s.thread t.val).stopReq = false ∧ (s.thread t.val).haltReq = none ∧ (s.thread t.val).rstReq = false ∧ s.is1 (R.DBG_THR_CTL_PEND t.val) = false →
      s.tag t.val i.ra = false →
      s.tag t.val i.rb = false →
      ∃ out, exec (.bge t) s = .next out ∧ out.tstate t.val = .run ∧ out.tpc t.val = (if (s.reg t.val i.rb).toInt ≤ (s.reg t.val i.ra).toInt then i.imm % 2 ^ 15 else (s.tpc t.val + 1) % 2 ^ 15)) ∧
    (∀ (t : Fin 4) (i : Insn) (s : State),
      s.standsAt t.val i (.branch 4) = true →
      (s.thread t.val).resolved = [] →
      (s.thread t.val).stepping = false ∧ (s.thread t.val).stopReq = false ∧ (s.thread t.val).haltReq = none ∧ (s.thread t.val).rstReq = false ∧ s.is1 (R.DBG_THR_CTL_PEND t.val) = false →
      s.tag t.val i.ra = false →
      s.tag t.val i.rb = false →
      ∃ out, exec (.bltu t) s = .next out ∧ out.tstate t.val = .run ∧ out.tpc t.val = (if (s.reg t.val i.ra).toNat < (s.reg t.val i.rb).toNat then i.imm % 2 ^ 15 else (s.tpc t.val + 1) % 2 ^ 15)) ∧
    (∀ (t : Fin 4) (i : Insn) (s : State),
      s.standsAt t.val i (.branch 5) = true →
      (s.thread t.val).resolved = [] →
      (s.thread t.val).stepping = false ∧ (s.thread t.val).stopReq = false ∧ (s.thread t.val).haltReq = none ∧ (s.thread t.val).rstReq = false ∧ s.is1 (R.DBG_THR_CTL_PEND t.val) = false →
      s.tag t.val i.ra = false →
      s.tag t.val i.rb = false →
      ∃ out, exec (.bgeu t) s = .next out ∧ out.tstate t.val = .run ∧ out.tpc t.val = (if (s.reg t.val i.rb).toNat ≤ (s.reg t.val i.ra).toNat then i.imm % 2 ^ 15 else (s.tpc t.val + 1) % 2 ^ 15)) ∧
    (∀ (t : Fin 4) (i : Insn) (s : State),
      s.standsAt t.val i .bfs = true →
      (s.thread t.val).resolved = [] →
      (s.thread t.val).stepping = false ∧ (s.thread t.val).stopReq = false ∧ (s.thread t.val).haltReq = none ∧ (s.thread t.val).rstReq = false ∧ s.is1 (R.DBG_THR_CTL_PEND t.val) = false →
      (s.thread t.val).issued.find? (fun e => e.seq == (s.thread t.val).commits) = none →
      ∃ out, exec (.bfs t) s = .next out ∧ out.tstate t.val = .run ∧ out.tpc t.val = (if s.flagLine (i.imm / 2 ^ 16 % 2 ^ 8) = true then i.imm % 2 ^ 15 else (s.tpc t.val + 1) % 2 ^ 15)) ∧
    (∀ (t : Fin 4) (i : Insn) (s : State),
      s.standsAt t.val i .bfc = true →
      (s.thread t.val).resolved = [] →
      (s.thread t.val).stepping = false ∧ (s.thread t.val).stopReq = false ∧ (s.thread t.val).haltReq = none ∧ (s.thread t.val).rstReq = false ∧ s.is1 (R.DBG_THR_CTL_PEND t.val) = false →
      (s.thread t.val).issued.find? (fun e => e.seq == (s.thread t.val).commits) = none →
      ∃ out, exec (.bfc t) s = .next out ∧ out.tstate t.val = .run ∧ out.tpc t.val = (if s.flagLine (i.imm / 2 ^ 16 % 2 ^ 8) = false then i.imm % 2 ^ 15 else (s.tpc t.val + 1) % 2 ^ 15)) ∧
    (∀ (t : Fin 4) (i : Insn) (e : BranchIssue) (s : State),
      s.standsAt t.val i .bfs = true →
      (s.thread t.val).resolved = [] →
      (s.thread t.val).stepping = false ∧ (s.thread t.val).stopReq = false ∧ (s.thread t.val).haltReq = none ∧ (s.thread t.val).rstReq = false ∧ s.is1 (R.DBG_THR_CTL_PEND t.val) = false →
      (s.thread t.val).issued.find? (fun e => e.seq == (s.thread t.val).commits) = some e →
      ∃ out, exec (.bfs t) s = .next out ∧ out.tstate t.val = .run ∧ out.tpc t.val = (if e.flag = true then i.imm % 2 ^ 15 else (s.tpc t.val + 1) % 2 ^ 15)) ∧
    (∀ (t : Fin 4) (i : Insn) (e : BranchIssue) (s : State),
      s.standsAt t.val i .bfc = true →
      (s.thread t.val).resolved = [] →
      (s.thread t.val).stepping = false ∧ (s.thread t.val).stopReq = false ∧ (s.thread t.val).haltReq = none ∧ (s.thread t.val).rstReq = false ∧ s.is1 (R.DBG_THR_CTL_PEND t.val) = false →
      (s.thread t.val).issued.find? (fun e => e.seq == (s.thread t.val).commits) = some e →
      ∃ out, exec (.bfc t) s = .next out ∧ out.tstate t.val = .run ∧ out.tpc t.val = (if e.flag = false then i.imm % 2 ^ 15 else (s.tpc t.val + 1) % 2 ^ 15)) ∧
    (∀ (t : Fin 4) (i : Insn) (r : Row) (c : Instr) (b : Bool) (s : State),
      (c, r) ∈ [(.beq t, .branch 0), (.bne t, .branch 1), (.blt t, .branch 2), (.bge t, .branch 3), (.bltu t, .branch 4), (.bgeu t, .branch 5), (.bfs t, .bfs), (.bfc t, .bfc)] →
      s.standsAt t.val i r = true →
      (s.thread t.val).resolved.find? (fun e => e.1 == (s.thread t.val).commits) = some ((s.thread t.val).commits, b) →
      (s.thread t.val).stepping = false ∧ (s.thread t.val).stopReq = false ∧ (s.thread t.val).haltReq = none ∧ (s.thread t.val).rstReq = false ∧ s.is1 (R.DBG_THR_CTL_PEND t.val) = false →
      s.tag t.val i.ra = false →
      s.tag t.val i.rb = false →
      ∃ out, exec c s = .next out ∧ out.tstate t.val = .run ∧ out.tpc t.val = (if b = true then i.imm % 2 ^ 15 else (s.tpc t.val + 1) % 2 ^ 15)) ∧
    (∀ (t : Fin 4) (i : Insn) (s : State),
      s.standsAt t.val i .jal = true →
      (s.thread t.val).resolved = [] →
      (s.thread t.val).stepping = false ∧ (s.thread t.val).stopReq = false ∧ (s.thread t.val).haltReq = none ∧ (s.thread t.val).rstReq = false ∧ s.is1 (R.DBG_THR_CTL_PEND t.val) = false →
      ∃ out, exec (.jal t) s = .next out ∧ out.tstate t.val = .run ∧ out.tpc t.val = (i.imm % 2 ^ 15)) ∧
    (∀ (t : Fin 4) (i : Insn) (s : State),
      s.standsAt t.val i .jalr = true →
      (s.thread t.val).resolved = [] →
      (s.thread t.val).stepping = false ∧ (s.thread t.val).stopReq = false ∧ (s.thread t.val).haltReq = none ∧ (s.thread t.val).rstReq = false ∧ s.is1 (R.DBG_THR_CTL_PEND t.val) = false →
      s.tag t.val i.ra = false →
      ∃ out, exec (.jalr t) s = .next out ∧ out.tstate t.val = .run ∧ out.tpc t.val = ((s.reg t.val i.ra + i.simm).toNat % 2 ^ 15))

/-- An arithmetic slice (R50). M is the product of X and Y, each signed or unsigned as configured; S follows SRC, a shift being arithmetic to the right by
CIN_SHIFT; the true value is S + M, or S − M when NEG is 1, and in wrap mode Q takes it modulo 2^64. -/
def Obligations.SliceComputes : Prop :=
    ∀ (c : SliceCfg) (neg : Bool) (x y : BitVec 27) (w cin q : Word) (m : Int),
      m = (if c.xSigned then x.toInt else (x.toNat : Int)) * (if c.ySigned then y.toInt else (y.toNat : Int)) →
      ∀ src : BitVec 3, ∀ z : Int, z = (if src = 0b000#3 then 0 else if src = 0b001#3 then w.toInt else if src = 0b010#3 then q.toInt
          else if src = 0b011#3 then (cin.sshiftRight c.shift).toInt else if src = 0b100#3 then q.toInt + w.toInt
          else if src = 0b101#3 then q.toInt + (cin.sshiftRight c.shift).toInt else if src = 0b110#3 then w.toInt + (cin.sshiftRight c.shift).toInt
          else (q.sshiftRight c.shift).toInt) + (if neg then -m else m) →
        sliceTrue c src neg x y w cin q = z ∧ (c.saturate = false → (sliceNext c src neg x y w cin q).1 = BitVec.ofInt 64 z)

/-- Block RAM ports by lane (R55, R56, R58). At every lane width a write of a whole lane is what a read of that address then returns, no other lane of the
row changes, and a lane number past the last reads 0 and ignores a write; a port of 18 or 36 bits writes exactly the 9-bit quarters whose enable is 1,
and a ganged port the 9-bit eighths; FRESH shows the row with the write merged in, STALE the row before it, and KEEP the output as it was; a word
stored in ECC mode is read back as written with no event, with any one of its 72 bits changed it is corrected, and with any two it is detected as
uncorrectable. -/
def Obligations.BlockRamLanes : Prop :=
    (∀ (w k a b row v : Nat),
      (w, k) ∈ [(1, 6), (2, 5), (4, 4), (9, 2), (18, 1), (36, 0)] →
      row < 2 ^ 36 →
      a / 2 ^ k = b / 2 ^ k →
      a % 2 ^ k < 36 / w →
      portRead w a (portWrite w a row v 15) = v % 2 ^ w ∧ (a ≠ b → portRead w b (portWrite w a row v 15) = portRead w b row) ∧ portWrite w a row v 15 < 2 ^ 36) ∧
    (∀ (w k a row v : Nat) (en : BitVec 4),
      (w, k) ∈ [(1, 6), (2, 5), (4, 4), (9, 2), (18, 1), (36, 0)] →
      row < 2 ^ 36 →
      36 / w ≤ a % 2 ^ k →
      portRead w a row = 0 ∧ portWrite w a row v en = row) ∧
    (∀ (w k a row v i : Nat) (en : BitVec 4),
      (w, k) ∈ [(18, 1), (36, 0)] →
      row < 2 ^ 36 →
      i < w →
      (portWrite w a row v en).testBit (w * (a % 2 ^ k) + i) = (if en.getLsbD (i / 9) then v.testBit i else row.testBit (w * (a % 2 ^ k) + i))) ∧
    (∀ (en : BitVec 8) (new old i b : Nat),
      i < 8 →
      b < 9 →
      (merge (gangedMask en) new old).testBit (9 * i + b) = (if en.getLsbD i then new.testBit (9 * i + b) else old.testBit (9 * i + b))) ∧
    (∀ (w a row v o : Nat) (en : BitVec 4) (ge : BitVec 8),
      readDuringWrite .fresh w a row v en o = portRead w a (portWrite w a row v en) ∧ readDuringWrite .stale w a row v en o = portRead w a row ∧
        readDuringWrite .keep w a row v en o = o ∧ gangedReadDuringWrite .fresh row v ge o = merge (gangedMask ge) v row ∧
        gangedReadDuringWrite .stale row v ge o = row ∧ gangedReadDuringWrite .keep row v ge o = o) ∧
    (∀ (d : Nat),
      eccRead (eccWord d) = (d % 2 ^ 64, false, false)) ∧
    (∀ (d i : Nat),
      i < 72 →
      eccRead (eccWord d ^^^ 2 ^ i) = (d % 2 ^ 64, true, false)) ∧
    (∀ (d i j : Nat),
      i < j →
      j < 72 →
      (eccRead (eccWord d ^^^ 2 ^ i ^^^ 2 ^ j)).2 = (false, true))

/-- The code of stored bytes (R289, R290, R291). A byte stored with its proper check bits is good; with any one of its 13 stored bits changed it is
corrected to its data; with any two changed it is uncorrectable; with its check bits complemented it is a mark, whatever its data; the syndrome and
the overall parity decide as the table says; a word takes the status of its bytes in the order UNCORRECTABLE, MARKED, CORRECTED, GOOD. -/
def Obligations.ByteCodeDecodes : Prop :=
    (∀ (d : BitVec 8),
      decodeByte (goodCell d.toNat) = .good ∧ decodeByte (markCell d.toNat) = .mark) ∧
    (∀ (d : BitVec 8) (i : Fin 13),
      decodeByte (flipCell (goodCell d.toNat) (2 ^ i.val % 256) (2 ^ i.val / 256)) = .fixed d.toNat) ∧
    (∀ (d : BitVec 8) (i j : Fin 13),
      i < j →
      decodeByte (flipCell (goodCell d.toNat) ((2 ^ i.val + 2 ^ j.val) % 256) ((2 ^ i.val + 2 ^ j.val) / 256)) = .bad) ∧
    (∀ (d : BitVec 8) (e : BitVec 5),
      decodeByte (256 * e.toNat + d.toNat) =
        (let q := e.getLsbD 0 ^^ e.getLsbD 1 ^^ e.getLsbD 2 ^^ e.getLsbD 3 ^^ e.getLsbD 4
         let syn := e.toNat % 16
         if syn = 0 ∧ q = false then .good
         else if q = false then .bad
         else if syn = 15 then .mark
         else if syn = 13 ∨ syn = 14 then .bad
         else .fixed (match syn with
           | 3 => d.toNat ^^^ 1 | 5 => d.toNat ^^^ 2 | 6 => d.toNat ^^^ 4 | 7 => d.toNat ^^^ 8
           | 9 => d.toNat ^^^ 16 | 10 => d.toNat ^^^ 32 | 11 => d.toNat ^^^ 64 | 12 => d.toNat ^^^ 128 | _ => d.toNat))) ∧
    (∀ (cells : List Nat),
      ((∃ c ∈ cells, decodeByte c = .bad) → wordStatus cells = .bad) ∧
        ((∀ c ∈ cells, decodeByte c ≠ .bad) → (∃ c ∈ cells, decodeByte c = .mark) → wordStatus cells = .marked) ∧
        ((∀ c ∈ cells, decodeByte c ≠ .bad ∧ decodeByte c ≠ .mark) → (∃ c ∈ cells, ∃ d, decodeByte c = .fixed d) → wordStatus cells = .corrected) ∧
        ((∀ c ∈ cells, decodeByte c = .good) → wordStatus cells = .good))

/-- The stack grade (R40). STACK_SUMMARY reports grade 0 FULL when both memory dies, all 128 slices, all 2,048 banks and all 64 regions are in service, 1
TRIMMED when both memory dies are and something else is not, 2 HALF when a memory die is out whatever else is, and never 3; an image header is
compared with it. -/
def Obligations.StackGrades : Prop :=
    (∀ (s : State) (rs : List RepRec) (o : OutMap),
      (s.showStack rs o).rd R.STACK_SUMMARY_STACK_GRADE = o.grade ∧ o.grade ≠ 3) ∧
    (∀ (o : OutMap),
      o.dies = [] →
      ((∀ k < 128, o.slice k = true) ∧ (∀ b < 2048, o.bank b = true) ∧ (∀ n < 64, o.region n = true) → o.grade = 0) ∧ (¬((∀ k < 128, o.slice k = true) ∧ (∀ b < 2048, o.bank b = true) ∧ (∀ n < 64, o.region n = true)) → o.grade = 1)) ∧
    (∀ (o : OutMap),
      o.dies ≠ [] →
      o.grade = 2) ∧
    (∀ (s : State) (h : List Byte),
      hfield h 0xC 1 < s.rd R.STACK_SUMMARY_STACK_GRADE →
      s.stackOk h = false)

/-- What a snoop unit counts and computes (R378, R380, 14_crc_snoop.md). A packet passes a unit under PORT and LINK exactly when bit VN of VN_EN is 1, its
opcode meets OPC_VAL under OPC_MASK and the selected node meets NVAL under NMASK; the three algorithms give the values that the spec gives for the
bytes "123456789" and for an empty window; ALG names them. -/
def Obligations.SnoopFilterAndCheckValues : Prop :=
    (∀ (s : State) (u : Nat) (p : Packet),
      s.snoopPasses u p = true ↔ (s.rd (R.SNOOP_FILT_VN_EN u)).testBit (vnNum p.vn) = true ∧
        p.op &&& s.rd (R.SNOOP_FILT_OPC_MASK u) = s.rd (R.SNOOP_FILT_OPC_VAL u) &&& s.rd (R.SNOOP_FILT_OPC_MASK u) ∧
        (if s.is1 (R.SNOOP_FILT_NSEL u) then p.srcNode else p.dstNode) &&& s.rd (R.SNOOP_NMASK_NMASK u) =
          s.rd (R.SNOOP_FILT_NVAL u) &&& s.rd (R.SNOOP_NMASK_NMASK u)) ∧
    (∀ (bs : List Byte),
      bs = [0x31, 0x32, 0x33, 0x34, 0x35, 0x36, 0x37, 0x38, 0x39] →
      (Alg.ofCode 0).of bs = 0xCBF43926 ∧ (Alg.ofCode 1).of bs = 0xE3069283 ∧ (Alg.ofCode 2).of bs = 0x29B1) ∧
    ((Alg.ofCode 0).of [] = 0 ∧ (Alg.ofCode 1).of [] = 0 ∧ (Alg.ofCode 2).of [] = 0xFFFF)

/-- What commands leave unchanged (R92, R117, R144, R166, R167, R168, R292, R310, R432, R471). A scalar or flow instruction that stands in its thread
without a request for its commit point changes no register but RD and nothing of another thread, and of the device only the thread's place, the
predictor and its counts. Other families: a JTAG instruction changes only the test access port; a desk transaction only the desk, but for DATA_IN
without a command, which is logged; a loaded frame no frame of another plane that the image has not loaded; a bank's write, with no corruption armed,
no byte but those it stores to; a line written back no other line. -/
def Obligations.FramesOfCommands : Prop :=
    (∀ (t : Fin 4) (i : Insn) (r : Row) (c : Instr) (s out : State),
      c ∈ [.nop t, .add t, .sub t, .and t, .or t, .xor t, .sll t, .srl t, .sra t, .mul t, .slt t, .sltu t, .seq t, .min t, .max t, .minu t, .maxu t, .addi t, .subi t, .andi t, .ori t, .xori t, .slli t, .srli t, .srai t, .muli t, .slti t, .sltui t, .seqi t, .mini t, .maxi t, .minui t, .maxui t, .li t, .lih t, .popc t, .clz t, .ctz t, .beq t, .bne t, .blt t, .bge t, .bltu t, .bgeu t, .bfs t, .bfc t, .jal t, .jalr t] →
      s.standsAt t.val i r = true →
      (s.thread t.val).stepping = false ∧ (s.thread t.val).stopReq = false ∧ (s.thread t.val).haltReq = none ∧ (s.thread t.val).rstReq = false ∧ s.is1 (R.DBG_THR_CTL_PEND t.val) = false →
      s.tag t.val i.ra = false →
      s.tag t.val i.rb = false →
      exec c s = .next out →
      out = { s with csr := out.csr, threads := out.threads, predictor := out.predictor, rpath := out.rpath, emits := [] } ∧
        (∀ u : Nat, u ≠ t.val → out.thread u = s.thread u) ∧ (∀ k : Nat, k ≠ i.rd → out.reg t.val k = s.reg t.val k ∧ out.tag t.val k = s.tag t.val k) ∧
        s.regsKept out [R.SEQ_THR_STATUS_STATE t.val, R.SEQ_THR_STATUS_PC t.val, R.SEQ_THR_SPEC_MISPREDICT t.val, R.SEQ_THR_SPEC_SQUASHED_PRE t.val]) ∧
    (∀ (c : Instr) (levels : List (BitVec 32)) (d : BitVec 64) (v : BitVec 3136) (o : Option BoundaryScan) (k : BitVec 8) (s out : State),
      c ∈ [.idcode, .samplePreload levels d v, .extest o, .highz, .clampInstr, .dbg, .scan, .bypass k] →
      exec c s = .next out →
      out = { s with jtag := out.jtag, emits := out.emits }) ∧
    (∀ (c : Instr) (k : BitVec 8) (off n : Nat) (b : List Byte) (s out : State),
      c ∈ [.readStatus (.pins k), .command (.pins k off b), .dataOut ⟨k, off⟩ n] ∨ c = .dataIn (.pins k off b) ∧ (s.desk.ready = false ∨ s.deskBusy = true) →
      exec c s = .next out →
      out = { s with desk := out.desk, emits := out.emits }) ∧
    (∀ (n : Fin 64) (p : Fin 8) (f : Fin 3900) (data : BitVec 4096) (s out : State),
      exec (.planeLoadFrame n p f data) s = .next out →
      (∀ (m : Fin 64) (q : Fin 8) (g : Fin 3900), (m, q) ≠ (n, p) → (m.val, q.val) ∉ s.imgPlanes → out.frame m.val q.val g.val = s.frame m.val q.val g.val) ∧
        out.spad = s.spad ∧ out.bram = s.bram) ∧
    (∀ (rq : Request) (stalls : BitVec 8) (s out : State),
      (∀ d : Nat, s.is1 (R.PROT_FLIP_CTL_ARM d) = false) →
      exec (.bankWrite rq stalls) s = .next out →
      (∀ k : Nat, (∀ x, bankAt rq.acc = some x → ∀ j < rq.acc.size, k ≠ x.b * 0x20000 + s.bankByte x (s.bankMode x rq.acc.op) j % 0x20000) →
          storeGet 0 k out.spad = storeGet 0 k s.spad) ∧ out.bram = s.bram ∧ out.planes = s.planes) ∧
    (∀ (l : BitVec 35) (s out : State),
      exec (.sdramWriteback l) s = .next out →
      (∀ k : Nat, k ≠ l.toNat → out.sdLine k = s.sdLine k) ∧ out.spad = s.spad ∧ out.bram = s.bram ∧ out.planes = s.planes)
end

