-- ==== Sys2Proof/Laws/Store.lean ====
section
/-! SUPPORT. The laws of sparse data: what is read after a write, and that every operation keeps the canonical form. -/

namespace Sys2Proof.Laws

open Sys2Proof.Machine

variable {α : Type}

theorem get_erase_same (d : α) (k : Nat) (m : Store α) : storeGet d k (storeErase k m) = d := by
  induction m with
  | nil => rfl
  | cons e m ih =>
    obtain ⟨j, v⟩ := e
    by_cases h : j = k <;> simp [storeErase, storeGet, h, ih]

theorem get_erase_ne (d : α) {j k : Nat} (m : Store α) (h : j ≠ k) : storeGet d j (storeErase k m) = storeGet d j m := by
  induction m with
  | nil => rfl
  | cons e m ih =>
    obtain ⟨i, v⟩ := e
    by_cases hi : i = k
    · have : i ≠ j := fun c => h (c ▸ hi)
      simp [storeErase, storeGet, hi, ih, Ne.symm h]
    · simp [storeErase, storeGet, hi, ih]

theorem get_insert_same (d v : α) (k : Nat) (m : Store α) (h : ∀ w, (k, w) ∉ m) : storeGet d k (storeInsert k v m) = v := by
  induction m with
  | nil => simp [storeInsert, storeGet]
  | cons e m ih =>
    obtain ⟨j, w⟩ := e
    have hj : j ≠ k := fun c => h w (by simp [c])
    have hm : ∀ w, (k, w) ∉ m := fun w hw => h w (List.mem_cons_of_mem _ hw)
    by_cases hk : k < j <;> simp [storeInsert, storeGet, hk, hj, ih hm]

theorem get_insert_ne (d v : α) {j k : Nat} (m : Store α) (h : j ≠ k) : storeGet d j (storeInsert k v m) = storeGet d j m := by
  induction m with
  | nil => simp [storeInsert, storeGet, Ne.symm h]
  | cons e m ih =>
    obtain ⟨i, w⟩ := e
    by_cases hk : k < i <;> simp [storeInsert, storeGet, hk, Ne.symm h, ih]

theorem not_mem_erase (k : Nat) (m : Store α) (w : α) : (k, w) ∉ storeErase k m := by
  induction m with
  | nil => simp [storeErase]
  | cons e m ih =>
    obtain ⟨j, v⟩ := e
    by_cases h : j = k
    · simp [storeErase, h, ih]
    · have : k ≠ j := fun c => h c.symm
      simp [storeErase, h, ih, this]

/-- A cleared range reads as the default. -/
theorem get_clear_in (d : α) {lo hi k : Nat} (m : Store α) (h : lo ≤ k ∧ k < hi) : storeGet d k (storeClear lo hi m) = d := by
  induction m with
  | nil => rfl
  | cons e m ih =>
    obtain ⟨j, v⟩ := e
    by_cases hj : lo ≤ j ∧ j < hi
    · simp [storeClear, hj, ih]
    · have : j ≠ k := fun c => hj (c ▸ h)
      simp [storeClear, hj, storeGet, this, ih]

/-- Outside a cleared range nothing changes. -/
theorem get_clear_out (d : α) {lo hi k : Nat} (m : Store α) (h : ¬(lo ≤ k ∧ k < hi)) :
    storeGet d k (storeClear lo hi m) = storeGet d k m := by
  induction m with
  | nil => rfl
  | cons e m ih =>
    obtain ⟨j, v⟩ := e
    by_cases hj : lo ≤ j ∧ j < hi
    · have : j ≠ k := fun c => h (c ▸ hj)
      simp [storeClear, hj, storeGet, this, ih]
    · simp [storeClear, hj, storeGet, ih]

variable [DecidableEq α]

/-- A read of the written key gives the written value. -/
@[simp] theorem get_set_same (d v : α) (k : Nat) (m : Store α) : storeGet d k (storeSet d k v m) = v := by
  unfold storeSet
  split
  · rw [get_erase_same]; exact Eq.symm ‹_›
  · exact get_insert_same d v k _ (not_mem_erase k m)

/-- A write leaves every other key alone. -/
theorem get_set_ne (d v : α) {j k : Nat} (m : Store α) (h : j ≠ k) : storeGet d j (storeSet d k v m) = storeGet d j m := by
  unfold storeSet
  split
  · exact get_erase_ne d m h
  · rw [get_insert_ne d v _ h, get_erase_ne d m h]

theorem get_set (d v : α) (j k : Nat) (m : Store α) :
    storeGet d j (storeSet d k v m) = if j = k then v else storeGet d j m := by
  by_cases h : j = k
  · subst h; simp
  · simp [h, get_set_ne d v m h]

/-! ## The canonical form -/

theorem wfFrom_mono (d : α) {b c : Nat} (m : Store α) (hbc : b ≤ c) (h : storeWfFrom d c m = true) : storeWfFrom d b m = true := by
  cases m with
  | nil => rfl
  | cons e m =>
    obtain ⟨j, v⟩ := e
    simp only [storeWfFrom, Bool.and_eq_true, decide_eq_true_eq] at h ⊢
    exact ⟨⟨by omega, h.1.2⟩, h.2⟩

theorem erase_wfFrom (d : α) (k b : Nat) (m : Store α) (h : storeWfFrom d b m = true) : storeWfFrom d b (storeErase k m) = true := by
  induction m generalizing b with
  | nil => rfl
  | cons e m ih =>
    obtain ⟨j, v⟩ := e
    simp only [storeWfFrom, Bool.and_eq_true, decide_eq_true_eq] at h
    by_cases hj : j = k
    · simp only [storeErase, hj, if_true]
      exact ih b (wfFrom_mono d m (by omega) h.2)
    · simp only [storeErase, hj, if_false, storeWfFrom, Bool.and_eq_true, decide_eq_true_eq]
      exact ⟨h.1, ih (j + 1) h.2⟩

theorem insert_wfFrom (d v : α) (k b : Nat) (m : Store α) (hb : b ≤ k) (hv : v ≠ d) (hk : ∀ w, (k, w) ∉ m)
    (h : storeWfFrom d b m = true) : storeWfFrom d b (storeInsert k v m) = true := by
  induction m generalizing b with
  | nil => simp [storeInsert, storeWfFrom, hb, hv]
  | cons e m ih =>
    obtain ⟨j, w⟩ := e
    have hj : j ≠ k := fun c => hk w (by simp [c])
    have hm : ∀ w, (k, w) ∉ m := fun w hw => hk w (List.mem_cons_of_mem _ hw)
    simp only [storeWfFrom, Bool.and_eq_true, decide_eq_true_eq] at h
    by_cases hkj : k < j
    · simp only [storeInsert, hkj, if_true, storeWfFrom, Bool.and_eq_true, decide_eq_true_eq]
      exact ⟨⟨hb, hv⟩, ⟨by omega, h.1.2⟩, h.2⟩
    · simp only [storeInsert, hkj, if_false, storeWfFrom, Bool.and_eq_true, decide_eq_true_eq]
      exact ⟨h.1, ih (j + 1) (by omega) hm h.2⟩

/-- A write keeps the canonical form. -/
theorem set_wf (d v : α) (k : Nat) (m : Store α) (h : storeWf d m = true) : storeWf d (storeSet d k v m) = true := by
  unfold storeSet storeWf at *
  split
  · exact erase_wfFrom d k 0 m h
  · exact insert_wfFrom d v k 0 _ (Nat.zero_le _) ‹_› (not_mem_erase k m) (erase_wfFrom d k 0 m h)

theorem clear_wfFrom (d : α) (lo hi b : Nat) (m : Store α) (h : storeWfFrom d b m = true) :
    storeWfFrom d b (storeClear lo hi m) = true := by
  induction m generalizing b with
  | nil => rfl
  | cons e m ih =>
    obtain ⟨j, v⟩ := e
    simp only [storeWfFrom, Bool.and_eq_true, decide_eq_true_eq] at h
    by_cases hj : lo ≤ j ∧ j < hi
    · simp only [storeClear, hj, and_self, if_true]
      exact ih b (wfFrom_mono d m (by omega) h.2)
    · simp only [storeClear, hj, if_false, storeWfFrom, Bool.and_eq_true, decide_eq_true_eq]
      exact ⟨h.1, ih (j + 1) h.2⟩

/-- Clearing a range keeps the canonical form. -/
theorem clear_wf (d : α) (lo hi : Nat) (m : Store α) (h : storeWf d m = true) : storeWf d (storeClear lo hi m) = true :=
  clear_wfFrom d lo hi 0 m h

end Sys2Proof.Laws
end

