-- ==== Sys2Proof/Laws/State.lean ====
section
/-! SUPPORT. What each small update of the state leaves in every field, and what a read after a write of a register field gives. -/

set_option Elab.async false

namespace Sys2Proof.Machine

variable (s : State)

/-! ## wr -/

@[simp] theorem State.wr_pending (f : Fld) (v : Nat) : (s.wr f v).pending = s.pending := rfl
@[simp] theorem State.wr_emits (f : Fld) (v : Nat) : (s.wr f v).emits = s.emits := rfl
@[simp] theorem State.wr_now (f : Fld) (v : Nat) : (s.wr f v).now = s.now := rfl
@[simp] theorem State.wr_fresh (f : Fld) (v : Nat) : (s.wr f v).fresh = s.fresh := rfl
@[simp] theorem State.wr_csr (f : Fld) (v : Nat) : (s.wr f v).csr = storeSet 0 f.key ((v % 2 ^ f.width) ^^^ f.rst) s.csr := rfl
@[simp] theorem State.wr_captures (f : Fld) (v : Nat) : (s.wr f v).captures = s.captures := rfl
@[simp] theorem State.wr_held (f : Fld) (v : Nat) : (s.wr f v).held = s.held := rfl
@[simp] theorem State.wr_gbq (f : Fld) (v : Nat) : (s.wr f v).gbq = s.gbq := rfl
@[simp] theorem State.wr_faces (f : Fld) (v : Nat) : (s.wr f v).faces = s.faces := rfl
@[simp] theorem State.wr_slices (f : Fld) (v : Nat) : (s.wr f v).slices = s.slices := rfl
@[simp] theorem State.wr_rams (f : Fld) (v : Nat) : (s.wr f v).rams = s.rams := rfl
@[simp] theorem State.wr_cells (f : Fld) (v : Nat) : (s.wr f v).cells = s.cells := rfl
@[simp] theorem State.wr_gates (f : Fld) (v : Nat) : (s.wr f v).gates = s.gates := rfl
@[simp] theorem State.wr_ports (f : Fld) (v : Nat) : (s.wr f v).ports = s.ports := rfl
@[simp] theorem State.wr_bram (f : Fld) (v : Nat) : (s.wr f v).bram = s.bram := rfl
@[simp] theorem State.wr_bwin (f : Fld) (v : Nat) : (s.wr f v).bwin = s.bwin := rfl
@[simp] theorem State.wr_pads (f : Fld) (v : Nat) : (s.wr f v).pads = s.pads := rfl
@[simp] theorem State.wr_regions (f : Fld) (v : Nat) : (s.wr f v).regions = s.regions := rfl
@[simp] theorem State.wr_planes (f : Fld) (v : Nat) : (s.wr f v).planes = s.planes := rfl
@[simp] theorem State.wr_latches (f : Fld) (v : Nat) : (s.wr f v).latches = s.latches := rfl
@[simp] theorem State.wr_imgPlanes (f : Fld) (v : Nat) : (s.wr f v).imgPlanes = s.imgPlanes := rfl
@[simp] theorem State.wr_erasing (f : Fld) (v : Nat) : (s.wr f v).erasing = s.erasing := rfl
@[simp] theorem State.wr_heldLoads (f : Fld) (v : Nat) : (s.wr f v).heldLoads = s.heldLoads := rfl
@[simp] theorem State.wr_corrq (f : Fld) (v : Nat) : (s.wr f v).corrq = s.corrq := rfl
@[simp] theorem State.wr_walkq (f : Fld) (v : Nat) : (s.wr f v).walkq = s.walkq := rfl
@[simp] theorem State.wr_checks (f : Fld) (v : Nat) : (s.wr f v).checks = s.checks := rfl
@[simp] theorem State.wr_passDone (f : Fld) (v : Nat) : (s.wr f v).passDone = s.passDone := rfl
@[simp] theorem State.wr_heldVisits (f : Fld) (v : Nat) : (s.wr f v).heldVisits = s.heldVisits := rfl
@[simp] theorem State.wr_stackLoaded (f : Fld) (v : Nat) : (s.wr f v).stackLoaded = s.stackLoaded := rfl
@[simp] theorem State.wr_fuses (f : Fld) (v : Nat) : (s.wr f v).fuses = s.fuses := rfl
@[simp] theorem State.wr_underTest (f : Fld) (v : Nat) : (s.wr f v).underTest = s.underTest := rfl
@[simp] theorem State.wr_keptByTest (f : Fld) (v : Nat) : (s.wr f v).keptByTest = s.keptByTest := rfl
@[simp] theorem State.wr_outst (f : Fld) (v : Nat) : (s.wr f v).outst = s.outst := rfl
@[simp] theorem State.wr_unsent (f : Fld) (v : Nat) : (s.wr f v).unsent = s.unsent := rfl
@[simp] theorem State.wr_clkStart (f : Fld) (v : Nat) : (s.wr f v).clkStart = s.clkStart := rfl
@[simp] theorem State.wr_park (f : Fld) (v : Nat) : (s.wr f v).park = s.park := rfl
@[simp] theorem State.wr_fillq (f : Fld) (v : Nat) : (s.wr f v).fillq = s.fillq := rfl
@[simp] theorem State.wr_tickGen (f : Fld) (v : Nat) : (s.wr f v).tickGen = s.tickGen := rfl
@[simp] theorem State.wr_threads (f : Fld) (v : Nat) : (s.wr f v).threads = s.threads := rfl
@[simp] theorem State.wr_predictor (f : Fld) (v : Nat) : (s.wr f v).predictor = s.predictor := rfl
@[simp] theorem State.wr_rpath (f : Fld) (v : Nat) : (s.wr f v).rpath = s.rpath := rfl
@[simp] theorem State.wr_imemErr (f : Fld) (v : Nat) : (s.wr f v).imemErr = s.imemErr := rfl
@[simp] theorem State.wr_trace (f : Fld) (v : Nat) : (s.wr f v).trace = s.trace := rfl
@[simp] theorem State.wr_mirr (f : Fld) (v : Nat) : (s.wr f v).mirr = s.mirr := rfl
@[simp] theorem State.wr_snapReq (f : Fld) (v : Nat) : (s.wr f v).snapReq = s.snapReq := rfl
@[simp] theorem State.wr_gbars (f : Fld) (v : Nat) : (s.wr f v).gbars = s.gbars := rfl
@[simp] theorem State.wr_doms (f : Fld) (v : Nat) : (s.wr f v).doms = s.doms := rfl
@[simp] theorem State.wr_bufs (f : Fld) (v : Nat) : (s.wr f v).bufs = s.bufs := rfl
@[simp] theorem State.wr_deliv (f : Fld) (v : Nat) : (s.wr f v).deliv = s.deliv := rfl
@[simp] theorem State.wr_expiries (f : Fld) (v : Nat) : (s.wr f v).expiries = s.expiries := rfl
@[simp] theorem State.wr_epoch (f : Fld) (v : Nat) : (s.wr f v).epoch = s.epoch := rfl
@[simp] theorem State.wr_couriers (f : Fld) (v : Nat) : (s.wr f v).couriers = s.couriers := rfl
@[simp] theorem State.wr_larder (f : Fld) (v : Nat) : (s.wr f v).larder = s.larder := rfl
@[simp] theorem State.wr_spad (f : Fld) (v : Nat) : (s.wr f v).spad = s.spad := rfl
@[simp] theorem State.wr_banks (f : Fld) (v : Nat) : (s.wr f v).banks = s.banks := rfl
@[simp] theorem State.wr_trackers (f : Fld) (v : Nat) : (s.wr f v).trackers = s.trackers := rfl
@[simp] theorem State.wr_spares (f : Fld) (v : Nat) : (s.wr f v).spares = s.spares := rfl
@[simp] theorem State.wr_porters (f : Fld) (v : Nat) : (s.wr f v).porters = s.porters := rfl
@[simp] theorem State.wr_sdram (f : Fld) (v : Nat) : (s.wr f v).sdram = s.sdram := rfl
@[simp] theorem State.wr_jnl (f : Fld) (v : Nat) : (s.wr f v).jnl = s.jnl := rfl
@[simp] theorem State.wr_desk (f : Fld) (v : Nat) : (s.wr f v).desk = s.desk := rfl
@[simp] theorem State.wr_start (f : Fld) (v : Nat) : (s.wr f v).start = s.start := rfl
@[simp] theorem State.wr_lcFuses (f : Fld) (v : Nat) : (s.wr f v).lcFuses = s.lcFuses := rfl
@[simp] theorem State.wr_sec (f : Fld) (v : Nat) : (s.wr f v).sec = s.sec := rfl
@[simp] theorem State.wr_engines (f : Fld) (v : Nat) : (s.wr f v).engines = s.engines := rfl
@[simp] theorem State.wr_selfTest (f : Fld) (v : Nat) : (s.wr f v).selfTest = s.selfTest := rfl
@[simp] theorem State.wr_jtag (f : Fld) (v : Nat) : (s.wr f v).jtag = s.jtag := rfl
@[simp] theorem State.wr_img (f : Fld) (v : Nat) : (s.wr f v).img = s.img := rfl
@[simp] theorem State.wr_links (f : Fld) (v : Nat) : (s.wr f v).links = s.links := rfl
@[simp] theorem State.wr_twin (f : Fld) (v : Nat) : (s.wr f v).twin = s.twin := rfl
@[simp] theorem State.wr_snoops (f : Fld) (v : Nat) : (s.wr f v).snoops = s.snoops := rfl
@[simp] theorem State.wr_thermal (f : Fld) (v : Nat) : (s.wr f v).thermal = s.thermal := rfl

/-! ## setRegion -/

@[simp] theorem State.setRegion_pending (n : Nat) (r : Region) : (s.setRegion n r).pending = s.pending := rfl
@[simp] theorem State.setRegion_emits (n : Nat) (r : Region) : (s.setRegion n r).emits = s.emits := rfl
@[simp] theorem State.setRegion_now (n : Nat) (r : Region) : (s.setRegion n r).now = s.now := rfl
@[simp] theorem State.setRegion_fresh (n : Nat) (r : Region) : (s.setRegion n r).fresh = s.fresh := rfl
@[simp] theorem State.setRegion_csr (n : Nat) (r : Region) : (s.setRegion n r).csr = s.csr := rfl
@[simp] theorem State.setRegion_captures (n : Nat) (r : Region) : (s.setRegion n r).captures = s.captures := rfl
@[simp] theorem State.setRegion_held (n : Nat) (r : Region) : (s.setRegion n r).held = s.held := rfl
@[simp] theorem State.setRegion_gbq (n : Nat) (r : Region) : (s.setRegion n r).gbq = s.gbq := rfl
@[simp] theorem State.setRegion_faces (n : Nat) (r : Region) : (s.setRegion n r).faces = s.faces := rfl
@[simp] theorem State.setRegion_slices (n : Nat) (r : Region) : (s.setRegion n r).slices = s.slices := rfl
@[simp] theorem State.setRegion_rams (n : Nat) (r : Region) : (s.setRegion n r).rams = s.rams := rfl
@[simp] theorem State.setRegion_cells (n : Nat) (r : Region) : (s.setRegion n r).cells = s.cells := rfl
@[simp] theorem State.setRegion_gates (n : Nat) (r : Region) : (s.setRegion n r).gates = s.gates := rfl
@[simp] theorem State.setRegion_ports (n : Nat) (r : Region) : (s.setRegion n r).ports = s.ports := rfl
@[simp] theorem State.setRegion_bram (n : Nat) (r : Region) : (s.setRegion n r).bram = s.bram := rfl
@[simp] theorem State.setRegion_bwin (n : Nat) (r : Region) : (s.setRegion n r).bwin = s.bwin := rfl
@[simp] theorem State.setRegion_pads (n : Nat) (r : Region) : (s.setRegion n r).pads = s.pads := rfl
@[simp] theorem State.setRegion_regions (n : Nat) (r : Region) : (s.setRegion n r).regions = storeSet {} n r s.regions := rfl
@[simp] theorem State.setRegion_planes (n : Nat) (r : Region) : (s.setRegion n r).planes = s.planes := rfl
@[simp] theorem State.setRegion_latches (n : Nat) (r : Region) : (s.setRegion n r).latches = s.latches := rfl
@[simp] theorem State.setRegion_imgPlanes (n : Nat) (r : Region) : (s.setRegion n r).imgPlanes = s.imgPlanes := rfl
@[simp] theorem State.setRegion_erasing (n : Nat) (r : Region) : (s.setRegion n r).erasing = s.erasing := rfl
@[simp] theorem State.setRegion_heldLoads (n : Nat) (r : Region) : (s.setRegion n r).heldLoads = s.heldLoads := rfl
@[simp] theorem State.setRegion_corrq (n : Nat) (r : Region) : (s.setRegion n r).corrq = s.corrq := rfl
@[simp] theorem State.setRegion_walkq (n : Nat) (r : Region) : (s.setRegion n r).walkq = s.walkq := rfl
@[simp] theorem State.setRegion_checks (n : Nat) (r : Region) : (s.setRegion n r).checks = s.checks := rfl
@[simp] theorem State.setRegion_passDone (n : Nat) (r : Region) : (s.setRegion n r).passDone = s.passDone := rfl
@[simp] theorem State.setRegion_heldVisits (n : Nat) (r : Region) : (s.setRegion n r).heldVisits = s.heldVisits := rfl
@[simp] theorem State.setRegion_stackLoaded (n : Nat) (r : Region) : (s.setRegion n r).stackLoaded = s.stackLoaded := rfl
@[simp] theorem State.setRegion_fuses (n : Nat) (r : Region) : (s.setRegion n r).fuses = s.fuses := rfl
@[simp] theorem State.setRegion_underTest (n : Nat) (r : Region) : (s.setRegion n r).underTest = s.underTest := rfl
@[simp] theorem State.setRegion_keptByTest (n : Nat) (r : Region) : (s.setRegion n r).keptByTest = s.keptByTest := rfl
@[simp] theorem State.setRegion_outst (n : Nat) (r : Region) : (s.setRegion n r).outst = s.outst := rfl
@[simp] theorem State.setRegion_unsent (n : Nat) (r : Region) : (s.setRegion n r).unsent = s.unsent := rfl
@[simp] theorem State.setRegion_clkStart (n : Nat) (r : Region) : (s.setRegion n r).clkStart = s.clkStart := rfl
@[simp] theorem State.setRegion_park (n : Nat) (r : Region) : (s.setRegion n r).park = s.park := rfl
@[simp] theorem State.setRegion_fillq (n : Nat) (r : Region) : (s.setRegion n r).fillq = s.fillq := rfl
@[simp] theorem State.setRegion_tickGen (n : Nat) (r : Region) : (s.setRegion n r).tickGen = s.tickGen := rfl
@[simp] theorem State.setRegion_threads (n : Nat) (r : Region) : (s.setRegion n r).threads = s.threads := rfl
@[simp] theorem State.setRegion_predictor (n : Nat) (r : Region) : (s.setRegion n r).predictor = s.predictor := rfl
@[simp] theorem State.setRegion_rpath (n : Nat) (r : Region) : (s.setRegion n r).rpath = s.rpath := rfl
@[simp] theorem State.setRegion_imemErr (n : Nat) (r : Region) : (s.setRegion n r).imemErr = s.imemErr := rfl
@[simp] theorem State.setRegion_trace (n : Nat) (r : Region) : (s.setRegion n r).trace = s.trace := rfl
@[simp] theorem State.setRegion_mirr (n : Nat) (r : Region) : (s.setRegion n r).mirr = s.mirr := rfl
@[simp] theorem State.setRegion_snapReq (n : Nat) (r : Region) : (s.setRegion n r).snapReq = s.snapReq := rfl
@[simp] theorem State.setRegion_gbars (n : Nat) (r : Region) : (s.setRegion n r).gbars = s.gbars := rfl
@[simp] theorem State.setRegion_doms (n : Nat) (r : Region) : (s.setRegion n r).doms = s.doms := rfl
@[simp] theorem State.setRegion_bufs (n : Nat) (r : Region) : (s.setRegion n r).bufs = s.bufs := rfl
@[simp] theorem State.setRegion_deliv (n : Nat) (r : Region) : (s.setRegion n r).deliv = s.deliv := rfl
@[simp] theorem State.setRegion_expiries (n : Nat) (r : Region) : (s.setRegion n r).expiries = s.expiries := rfl
@[simp] theorem State.setRegion_epoch (n : Nat) (r : Region) : (s.setRegion n r).epoch = s.epoch := rfl
@[simp] theorem State.setRegion_couriers (n : Nat) (r : Region) : (s.setRegion n r).couriers = s.couriers := rfl
@[simp] theorem State.setRegion_larder (n : Nat) (r : Region) : (s.setRegion n r).larder = s.larder := rfl
@[simp] theorem State.setRegion_spad (n : Nat) (r : Region) : (s.setRegion n r).spad = s.spad := rfl
@[simp] theorem State.setRegion_banks (n : Nat) (r : Region) : (s.setRegion n r).banks = s.banks := rfl
@[simp] theorem State.setRegion_trackers (n : Nat) (r : Region) : (s.setRegion n r).trackers = s.trackers := rfl
@[simp] theorem State.setRegion_spares (n : Nat) (r : Region) : (s.setRegion n r).spares = s.spares := rfl
@[simp] theorem State.setRegion_porters (n : Nat) (r : Region) : (s.setRegion n r).porters = s.porters := rfl
@[simp] theorem State.setRegion_sdram (n : Nat) (r : Region) : (s.setRegion n r).sdram = s.sdram := rfl
@[simp] theorem State.setRegion_jnl (n : Nat) (r : Region) : (s.setRegion n r).jnl = s.jnl := rfl
@[simp] theorem State.setRegion_desk (n : Nat) (r : Region) : (s.setRegion n r).desk = s.desk := rfl
@[simp] theorem State.setRegion_start (n : Nat) (r : Region) : (s.setRegion n r).start = s.start := rfl
@[simp] theorem State.setRegion_lcFuses (n : Nat) (r : Region) : (s.setRegion n r).lcFuses = s.lcFuses := rfl
@[simp] theorem State.setRegion_sec (n : Nat) (r : Region) : (s.setRegion n r).sec = s.sec := rfl
@[simp] theorem State.setRegion_engines (n : Nat) (r : Region) : (s.setRegion n r).engines = s.engines := rfl
@[simp] theorem State.setRegion_selfTest (n : Nat) (r : Region) : (s.setRegion n r).selfTest = s.selfTest := rfl
@[simp] theorem State.setRegion_jtag (n : Nat) (r : Region) : (s.setRegion n r).jtag = s.jtag := rfl
@[simp] theorem State.setRegion_img (n : Nat) (r : Region) : (s.setRegion n r).img = s.img := rfl
@[simp] theorem State.setRegion_links (n : Nat) (r : Region) : (s.setRegion n r).links = s.links := rfl
@[simp] theorem State.setRegion_twin (n : Nat) (r : Region) : (s.setRegion n r).twin = s.twin := rfl
@[simp] theorem State.setRegion_snoops (n : Nat) (r : Region) : (s.setRegion n r).snoops = s.snoops := rfl
@[simp] theorem State.setRegion_thermal (n : Nat) (r : Region) : (s.setRegion n r).thermal = s.thermal := rfl

/-! ## setPort -/

@[simp] theorem State.setPort_pending (n p : Nat) (x : Port) : (s.setPort n p x).pending = s.pending := rfl
@[simp] theorem State.setPort_emits (n p : Nat) (x : Port) : (s.setPort n p x).emits = s.emits := rfl
@[simp] theorem State.setPort_now (n p : Nat) (x : Port) : (s.setPort n p x).now = s.now := rfl
@[simp] theorem State.setPort_fresh (n p : Nat) (x : Port) : (s.setPort n p x).fresh = s.fresh := rfl
@[simp] theorem State.setPort_csr (n p : Nat) (x : Port) : (s.setPort n p x).csr = s.csr := rfl
@[simp] theorem State.setPort_captures (n p : Nat) (x : Port) : (s.setPort n p x).captures = s.captures := rfl
@[simp] theorem State.setPort_held (n p : Nat) (x : Port) : (s.setPort n p x).held = s.held := rfl
@[simp] theorem State.setPort_gbq (n p : Nat) (x : Port) : (s.setPort n p x).gbq = s.gbq := rfl
@[simp] theorem State.setPort_faces (n p : Nat) (x : Port) : (s.setPort n p x).faces = s.faces := rfl
@[simp] theorem State.setPort_slices (n p : Nat) (x : Port) : (s.setPort n p x).slices = s.slices := rfl
@[simp] theorem State.setPort_rams (n p : Nat) (x : Port) : (s.setPort n p x).rams = s.rams := rfl
@[simp] theorem State.setPort_cells (n p : Nat) (x : Port) : (s.setPort n p x).cells = s.cells := rfl
@[simp] theorem State.setPort_gates (n p : Nat) (x : Port) : (s.setPort n p x).gates = s.gates := rfl
@[simp] theorem State.setPort_ports (n p : Nat) (x : Port) : (s.setPort n p x).ports = storeSet {} (4 * n + p) x s.ports := rfl
@[simp] theorem State.setPort_bram (n p : Nat) (x : Port) : (s.setPort n p x).bram = s.bram := rfl
@[simp] theorem State.setPort_bwin (n p : Nat) (x : Port) : (s.setPort n p x).bwin = s.bwin := rfl
@[simp] theorem State.setPort_pads (n p : Nat) (x : Port) : (s.setPort n p x).pads = s.pads := rfl
@[simp] theorem State.setPort_regions (n p : Nat) (x : Port) : (s.setPort n p x).regions = s.regions := rfl
@[simp] theorem State.setPort_planes (n p : Nat) (x : Port) : (s.setPort n p x).planes = s.planes := rfl
@[simp] theorem State.setPort_latches (n p : Nat) (x : Port) : (s.setPort n p x).latches = s.latches := rfl
@[simp] theorem State.setPort_imgPlanes (n p : Nat) (x : Port) : (s.setPort n p x).imgPlanes = s.imgPlanes := rfl
@[simp] theorem State.setPort_erasing (n p : Nat) (x : Port) : (s.setPort n p x).erasing = s.erasing := rfl
@[simp] theorem State.setPort_heldLoads (n p : Nat) (x : Port) : (s.setPort n p x).heldLoads = s.heldLoads := rfl
@[simp] theorem State.setPort_corrq (n p : Nat) (x : Port) : (s.setPort n p x).corrq = s.corrq := rfl
@[simp] theorem State.setPort_walkq (n p : Nat) (x : Port) : (s.setPort n p x).walkq = s.walkq := rfl
@[simp] theorem State.setPort_checks (n p : Nat) (x : Port) : (s.setPort n p x).checks = s.checks := rfl
@[simp] theorem State.setPort_passDone (n p : Nat) (x : Port) : (s.setPort n p x).passDone = s.passDone := rfl
@[simp] theorem State.setPort_heldVisits (n p : Nat) (x : Port) : (s.setPort n p x).heldVisits = s.heldVisits := rfl
@[simp] theorem State.setPort_stackLoaded (n p : Nat) (x : Port) : (s.setPort n p x).stackLoaded = s.stackLoaded := rfl
@[simp] theorem State.setPort_fuses (n p : Nat) (x : Port) : (s.setPort n p x).fuses = s.fuses := rfl
@[simp] theorem State.setPort_underTest (n p : Nat) (x : Port) : (s.setPort n p x).underTest = s.underTest := rfl
@[simp] theorem State.setPort_keptByTest (n p : Nat) (x : Port) : (s.setPort n p x).keptByTest = s.keptByTest := rfl
@[simp] theorem State.setPort_outst (n p : Nat) (x : Port) : (s.setPort n p x).outst = s.outst := rfl
@[simp] theorem State.setPort_unsent (n p : Nat) (x : Port) : (s.setPort n p x).unsent = s.unsent := rfl
@[simp] theorem State.setPort_clkStart (n p : Nat) (x : Port) : (s.setPort n p x).clkStart = s.clkStart := rfl
@[simp] theorem State.setPort_park (n p : Nat) (x : Port) : (s.setPort n p x).park = s.park := rfl
@[simp] theorem State.setPort_fillq (n p : Nat) (x : Port) : (s.setPort n p x).fillq = s.fillq := rfl
@[simp] theorem State.setPort_tickGen (n p : Nat) (x : Port) : (s.setPort n p x).tickGen = s.tickGen := rfl
@[simp] theorem State.setPort_threads (n p : Nat) (x : Port) : (s.setPort n p x).threads = s.threads := rfl
@[simp] theorem State.setPort_predictor (n p : Nat) (x : Port) : (s.setPort n p x).predictor = s.predictor := rfl
@[simp] theorem State.setPort_rpath (n p : Nat) (x : Port) : (s.setPort n p x).rpath = s.rpath := rfl
@[simp] theorem State.setPort_imemErr (n p : Nat) (x : Port) : (s.setPort n p x).imemErr = s.imemErr := rfl
@[simp] theorem State.setPort_trace (n p : Nat) (x : Port) : (s.setPort n p x).trace = s.trace := rfl
@[simp] theorem State.setPort_mirr (n p : Nat) (x : Port) : (s.setPort n p x).mirr = s.mirr := rfl
@[simp] theorem State.setPort_snapReq (n p : Nat) (x : Port) : (s.setPort n p x).snapReq = s.snapReq := rfl
@[simp] theorem State.setPort_gbars (n p : Nat) (x : Port) : (s.setPort n p x).gbars = s.gbars := rfl
@[simp] theorem State.setPort_doms (n p : Nat) (x : Port) : (s.setPort n p x).doms = s.doms := rfl
@[simp] theorem State.setPort_bufs (n p : Nat) (x : Port) : (s.setPort n p x).bufs = s.bufs := rfl
@[simp] theorem State.setPort_deliv (n p : Nat) (x : Port) : (s.setPort n p x).deliv = s.deliv := rfl
@[simp] theorem State.setPort_expiries (n p : Nat) (x : Port) : (s.setPort n p x).expiries = s.expiries := rfl
@[simp] theorem State.setPort_epoch (n p : Nat) (x : Port) : (s.setPort n p x).epoch = s.epoch := rfl
@[simp] theorem State.setPort_couriers (n p : Nat) (x : Port) : (s.setPort n p x).couriers = s.couriers := rfl
@[simp] theorem State.setPort_larder (n p : Nat) (x : Port) : (s.setPort n p x).larder = s.larder := rfl
@[simp] theorem State.setPort_spad (n p : Nat) (x : Port) : (s.setPort n p x).spad = s.spad := rfl
@[simp] theorem State.setPort_banks (n p : Nat) (x : Port) : (s.setPort n p x).banks = s.banks := rfl
@[simp] theorem State.setPort_trackers (n p : Nat) (x : Port) : (s.setPort n p x).trackers = s.trackers := rfl
@[simp] theorem State.setPort_spares (n p : Nat) (x : Port) : (s.setPort n p x).spares = s.spares := rfl
@[simp] theorem State.setPort_porters (n p : Nat) (x : Port) : (s.setPort n p x).porters = s.porters := rfl
@[simp] theorem State.setPort_sdram (n p : Nat) (x : Port) : (s.setPort n p x).sdram = s.sdram := rfl
@[simp] theorem State.setPort_jnl (n p : Nat) (x : Port) : (s.setPort n p x).jnl = s.jnl := rfl
@[simp] theorem State.setPort_desk (n p : Nat) (x : Port) : (s.setPort n p x).desk = s.desk := rfl
@[simp] theorem State.setPort_start (n p : Nat) (x : Port) : (s.setPort n p x).start = s.start := rfl
@[simp] theorem State.setPort_lcFuses (n p : Nat) (x : Port) : (s.setPort n p x).lcFuses = s.lcFuses := rfl
@[simp] theorem State.setPort_sec (n p : Nat) (x : Port) : (s.setPort n p x).sec = s.sec := rfl
@[simp] theorem State.setPort_engines (n p : Nat) (x : Port) : (s.setPort n p x).engines = s.engines := rfl
@[simp] theorem State.setPort_selfTest (n p : Nat) (x : Port) : (s.setPort n p x).selfTest = s.selfTest := rfl
@[simp] theorem State.setPort_jtag (n p : Nat) (x : Port) : (s.setPort n p x).jtag = s.jtag := rfl
@[simp] theorem State.setPort_img (n p : Nat) (x : Port) : (s.setPort n p x).img = s.img := rfl
@[simp] theorem State.setPort_links (n p : Nat) (x : Port) : (s.setPort n p x).links = s.links := rfl
@[simp] theorem State.setPort_twin (n p : Nat) (x : Port) : (s.setPort n p x).twin = s.twin := rfl
@[simp] theorem State.setPort_snoops (n p : Nat) (x : Port) : (s.setPort n p x).snoops = s.snoops := rfl
@[simp] theorem State.setPort_thermal (n p : Nat) (x : Port) : (s.setPort n p x).thermal = s.thermal := rfl

/-! ## setThread -/

@[simp] theorem State.setThread_pending (t : Nat) (x : Thread) : (s.setThread t x).pending = s.pending := rfl
@[simp] theorem State.setThread_emits (t : Nat) (x : Thread) : (s.setThread t x).emits = s.emits := rfl
@[simp] theorem State.setThread_now (t : Nat) (x : Thread) : (s.setThread t x).now = s.now := rfl
@[simp] theorem State.setThread_fresh (t : Nat) (x : Thread) : (s.setThread t x).fresh = s.fresh := rfl
@[simp] theorem State.setThread_csr (t : Nat) (x : Thread) : (s.setThread t x).csr = s.csr := rfl
@[simp] theorem State.setThread_captures (t : Nat) (x : Thread) : (s.setThread t x).captures = s.captures := rfl
@[simp] theorem State.setThread_held (t : Nat) (x : Thread) : (s.setThread t x).held = s.held := rfl
@[simp] theorem State.setThread_gbq (t : Nat) (x : Thread) : (s.setThread t x).gbq = s.gbq := rfl
@[simp] theorem State.setThread_faces (t : Nat) (x : Thread) : (s.setThread t x).faces = s.faces := rfl
@[simp] theorem State.setThread_slices (t : Nat) (x : Thread) : (s.setThread t x).slices = s.slices := rfl
@[simp] theorem State.setThread_rams (t : Nat) (x : Thread) : (s.setThread t x).rams = s.rams := rfl
@[simp] theorem State.setThread_cells (t : Nat) (x : Thread) : (s.setThread t x).cells = s.cells := rfl
@[simp] theorem State.setThread_gates (t : Nat) (x : Thread) : (s.setThread t x).gates = s.gates := rfl
@[simp] theorem State.setThread_ports (t : Nat) (x : Thread) : (s.setThread t x).ports = s.ports := rfl
@[simp] theorem State.setThread_bram (t : Nat) (x : Thread) : (s.setThread t x).bram = s.bram := rfl
@[simp] theorem State.setThread_bwin (t : Nat) (x : Thread) : (s.setThread t x).bwin = s.bwin := rfl
@[simp] theorem State.setThread_pads (t : Nat) (x : Thread) : (s.setThread t x).pads = s.pads := rfl
@[simp] theorem State.setThread_regions (t : Nat) (x : Thread) : (s.setThread t x).regions = s.regions := rfl
@[simp] theorem State.setThread_planes (t : Nat) (x : Thread) : (s.setThread t x).planes = s.planes := rfl
@[simp] theorem State.setThread_latches (t : Nat) (x : Thread) : (s.setThread t x).latches = s.latches := rfl
@[simp] theorem State.setThread_imgPlanes (t : Nat) (x : Thread) : (s.setThread t x).imgPlanes = s.imgPlanes := rfl
@[simp] theorem State.setThread_erasing (t : Nat) (x : Thread) : (s.setThread t x).erasing = s.erasing := rfl
@[simp] theorem State.setThread_heldLoads (t : Nat) (x : Thread) : (s.setThread t x).heldLoads = s.heldLoads := rfl
@[simp] theorem State.setThread_corrq (t : Nat) (x : Thread) : (s.setThread t x).corrq = s.corrq := rfl
@[simp] theorem State.setThread_walkq (t : Nat) (x : Thread) : (s.setThread t x).walkq = s.walkq := rfl
@[simp] theorem State.setThread_checks (t : Nat) (x : Thread) : (s.setThread t x).checks = s.checks := rfl
@[simp] theorem State.setThread_passDone (t : Nat) (x : Thread) : (s.setThread t x).passDone = s.passDone := rfl
@[simp] theorem State.setThread_heldVisits (t : Nat) (x : Thread) : (s.setThread t x).heldVisits = s.heldVisits := rfl
@[simp] theorem State.setThread_stackLoaded (t : Nat) (x : Thread) : (s.setThread t x).stackLoaded = s.stackLoaded := rfl
@[simp] theorem State.setThread_fuses (t : Nat) (x : Thread) : (s.setThread t x).fuses = s.fuses := rfl
@[simp] theorem State.setThread_underTest (t : Nat) (x : Thread) : (s.setThread t x).underTest = s.underTest := rfl
@[simp] theorem State.setThread_keptByTest (t : Nat) (x : Thread) : (s.setThread t x).keptByTest = s.keptByTest := rfl
@[simp] theorem State.setThread_outst (t : Nat) (x : Thread) : (s.setThread t x).outst = s.outst := rfl
@[simp] theorem State.setThread_unsent (t : Nat) (x : Thread) : (s.setThread t x).unsent = s.unsent := rfl
@[simp] theorem State.setThread_clkStart (t : Nat) (x : Thread) : (s.setThread t x).clkStart = s.clkStart := rfl
@[simp] theorem State.setThread_park (t : Nat) (x : Thread) : (s.setThread t x).park = s.park := rfl
@[simp] theorem State.setThread_fillq (t : Nat) (x : Thread) : (s.setThread t x).fillq = s.fillq := rfl
@[simp] theorem State.setThread_tickGen (t : Nat) (x : Thread) : (s.setThread t x).tickGen = s.tickGen := rfl
@[simp] theorem State.setThread_threads (t : Nat) (x : Thread) : (s.setThread t x).threads = storeSet {} t x s.threads := rfl
@[simp] theorem State.setThread_predictor (t : Nat) (x : Thread) : (s.setThread t x).predictor = s.predictor := rfl
@[simp] theorem State.setThread_rpath (t : Nat) (x : Thread) : (s.setThread t x).rpath = s.rpath := rfl
@[simp] theorem State.setThread_imemErr (t : Nat) (x : Thread) : (s.setThread t x).imemErr = s.imemErr := rfl
@[simp] theorem State.setThread_trace (t : Nat) (x : Thread) : (s.setThread t x).trace = s.trace := rfl
@[simp] theorem State.setThread_mirr (t : Nat) (x : Thread) : (s.setThread t x).mirr = s.mirr := rfl
@[simp] theorem State.setThread_snapReq (t : Nat) (x : Thread) : (s.setThread t x).snapReq = s.snapReq := rfl
@[simp] theorem State.setThread_gbars (t : Nat) (x : Thread) : (s.setThread t x).gbars = s.gbars := rfl
@[simp] theorem State.setThread_doms (t : Nat) (x : Thread) : (s.setThread t x).doms = s.doms := rfl
@[simp] theorem State.setThread_bufs (t : Nat) (x : Thread) : (s.setThread t x).bufs = s.bufs := rfl
@[simp] theorem State.setThread_deliv (t : Nat) (x : Thread) : (s.setThread t x).deliv = s.deliv := rfl
@[simp] theorem State.setThread_expiries (t : Nat) (x : Thread) : (s.setThread t x).expiries = s.expiries := rfl
@[simp] theorem State.setThread_epoch (t : Nat) (x : Thread) : (s.setThread t x).epoch = s.epoch := rfl
@[simp] theorem State.setThread_couriers (t : Nat) (x : Thread) : (s.setThread t x).couriers = s.couriers := rfl
@[simp] theorem State.setThread_larder (t : Nat) (x : Thread) : (s.setThread t x).larder = s.larder := rfl
@[simp] theorem State.setThread_spad (t : Nat) (x : Thread) : (s.setThread t x).spad = s.spad := rfl
@[simp] theorem State.setThread_banks (t : Nat) (x : Thread) : (s.setThread t x).banks = s.banks := rfl
@[simp] theorem State.setThread_trackers (t : Nat) (x : Thread) : (s.setThread t x).trackers = s.trackers := rfl
@[simp] theorem State.setThread_spares (t : Nat) (x : Thread) : (s.setThread t x).spares = s.spares := rfl
@[simp] theorem State.setThread_porters (t : Nat) (x : Thread) : (s.setThread t x).porters = s.porters := rfl
@[simp] theorem State.setThread_sdram (t : Nat) (x : Thread) : (s.setThread t x).sdram = s.sdram := rfl
@[simp] theorem State.setThread_jnl (t : Nat) (x : Thread) : (s.setThread t x).jnl = s.jnl := rfl
@[simp] theorem State.setThread_desk (t : Nat) (x : Thread) : (s.setThread t x).desk = s.desk := rfl
@[simp] theorem State.setThread_start (t : Nat) (x : Thread) : (s.setThread t x).start = s.start := rfl
@[simp] theorem State.setThread_lcFuses (t : Nat) (x : Thread) : (s.setThread t x).lcFuses = s.lcFuses := rfl
@[simp] theorem State.setThread_sec (t : Nat) (x : Thread) : (s.setThread t x).sec = s.sec := rfl
@[simp] theorem State.setThread_engines (t : Nat) (x : Thread) : (s.setThread t x).engines = s.engines := rfl
@[simp] theorem State.setThread_selfTest (t : Nat) (x : Thread) : (s.setThread t x).selfTest = s.selfTest := rfl
@[simp] theorem State.setThread_jtag (t : Nat) (x : Thread) : (s.setThread t x).jtag = s.jtag := rfl
@[simp] theorem State.setThread_img (t : Nat) (x : Thread) : (s.setThread t x).img = s.img := rfl
@[simp] theorem State.setThread_links (t : Nat) (x : Thread) : (s.setThread t x).links = s.links := rfl
@[simp] theorem State.setThread_twin (t : Nat) (x : Thread) : (s.setThread t x).twin = s.twin := rfl
@[simp] theorem State.setThread_snoops (t : Nat) (x : Thread) : (s.setThread t x).snoops = s.snoops := rfl
@[simp] theorem State.setThread_thermal (t : Nat) (x : Thread) : (s.setThread t x).thermal = s.thermal := rfl

/-! ## setDom -/

@[simp] theorem State.setDom_pending (d : Nat) (x : Dom) : (s.setDom d x).pending = s.pending := rfl
@[simp] theorem State.setDom_emits (d : Nat) (x : Dom) : (s.setDom d x).emits = s.emits := rfl
@[simp] theorem State.setDom_now (d : Nat) (x : Dom) : (s.setDom d x).now = s.now := rfl
@[simp] theorem State.setDom_fresh (d : Nat) (x : Dom) : (s.setDom d x).fresh = s.fresh := rfl
@[simp] theorem State.setDom_csr (d : Nat) (x : Dom) : (s.setDom d x).csr = s.csr := rfl
@[simp] theorem State.setDom_captures (d : Nat) (x : Dom) : (s.setDom d x).captures = s.captures := rfl
@[simp] theorem State.setDom_held (d : Nat) (x : Dom) : (s.setDom d x).held = s.held := rfl
@[simp] theorem State.setDom_gbq (d : Nat) (x : Dom) : (s.setDom d x).gbq = s.gbq := rfl
@[simp] theorem State.setDom_faces (d : Nat) (x : Dom) : (s.setDom d x).faces = s.faces := rfl
@[simp] theorem State.setDom_slices (d : Nat) (x : Dom) : (s.setDom d x).slices = s.slices := rfl
@[simp] theorem State.setDom_rams (d : Nat) (x : Dom) : (s.setDom d x).rams = s.rams := rfl
@[simp] theorem State.setDom_cells (d : Nat) (x : Dom) : (s.setDom d x).cells = s.cells := rfl
@[simp] theorem State.setDom_gates (d : Nat) (x : Dom) : (s.setDom d x).gates = s.gates := rfl
@[simp] theorem State.setDom_ports (d : Nat) (x : Dom) : (s.setDom d x).ports = s.ports := rfl
@[simp] theorem State.setDom_bram (d : Nat) (x : Dom) : (s.setDom d x).bram = s.bram := rfl
@[simp] theorem State.setDom_bwin (d : Nat) (x : Dom) : (s.setDom d x).bwin = s.bwin := rfl
@[simp] theorem State.setDom_pads (d : Nat) (x : Dom) : (s.setDom d x).pads = s.pads := rfl
@[simp] theorem State.setDom_regions (d : Nat) (x : Dom) : (s.setDom d x).regions = s.regions := rfl
@[simp] theorem State.setDom_planes (d : Nat) (x : Dom) : (s.setDom d x).planes = s.planes := rfl
@[simp] theorem State.setDom_latches (d : Nat) (x : Dom) : (s.setDom d x).latches = s.latches := rfl
@[simp] theorem State.setDom_imgPlanes (d : Nat) (x : Dom) : (s.setDom d x).imgPlanes = s.imgPlanes := rfl
@[simp] theorem State.setDom_erasing (d : Nat) (x : Dom) : (s.setDom d x).erasing = s.erasing := rfl
@[simp] theorem State.setDom_heldLoads (d : Nat) (x : Dom) : (s.setDom d x).heldLoads = s.heldLoads := rfl
@[simp] theorem State.setDom_corrq (d : Nat) (x : Dom) : (s.setDom d x).corrq = s.corrq := rfl
@[simp] theorem State.setDom_walkq (d : Nat) (x : Dom) : (s.setDom d x).walkq = s.walkq := rfl
@[simp] theorem State.setDom_checks (d : Nat) (x : Dom) : (s.setDom d x).checks = s.checks := rfl
@[simp] theorem State.setDom_passDone (d : Nat) (x : Dom) : (s.setDom d x).passDone = s.passDone := rfl
@[simp] theorem State.setDom_heldVisits (d : Nat) (x : Dom) : (s.setDom d x).heldVisits = s.heldVisits := rfl
@[simp] theorem State.setDom_stackLoaded (d : Nat) (x : Dom) : (s.setDom d x).stackLoaded = s.stackLoaded := rfl
@[simp] theorem State.setDom_fuses (d : Nat) (x : Dom) : (s.setDom d x).fuses = s.fuses := rfl
@[simp] theorem State.setDom_underTest (d : Nat) (x : Dom) : (s.setDom d x).underTest = s.underTest := rfl
@[simp] theorem State.setDom_keptByTest (d : Nat) (x : Dom) : (s.setDom d x).keptByTest = s.keptByTest := rfl
@[simp] theorem State.setDom_outst (d : Nat) (x : Dom) : (s.setDom d x).outst = s.outst := rfl
@[simp] theorem State.setDom_unsent (d : Nat) (x : Dom) : (s.setDom d x).unsent = s.unsent := rfl
@[simp] theorem State.setDom_clkStart (d : Nat) (x : Dom) : (s.setDom d x).clkStart = s.clkStart := rfl
@[simp] theorem State.setDom_park (d : Nat) (x : Dom) : (s.setDom d x).park = s.park := rfl
@[simp] theorem State.setDom_fillq (d : Nat) (x : Dom) : (s.setDom d x).fillq = s.fillq := rfl
@[simp] theorem State.setDom_tickGen (d : Nat) (x : Dom) : (s.setDom d x).tickGen = s.tickGen := rfl
@[simp] theorem State.setDom_threads (d : Nat) (x : Dom) : (s.setDom d x).threads = s.threads := rfl
@[simp] theorem State.setDom_predictor (d : Nat) (x : Dom) : (s.setDom d x).predictor = s.predictor := rfl
@[simp] theorem State.setDom_rpath (d : Nat) (x : Dom) : (s.setDom d x).rpath = s.rpath := rfl
@[simp] theorem State.setDom_imemErr (d : Nat) (x : Dom) : (s.setDom d x).imemErr = s.imemErr := rfl
@[simp] theorem State.setDom_trace (d : Nat) (x : Dom) : (s.setDom d x).trace = s.trace := rfl
@[simp] theorem State.setDom_mirr (d : Nat) (x : Dom) : (s.setDom d x).mirr = s.mirr := rfl
@[simp] theorem State.setDom_snapReq (d : Nat) (x : Dom) : (s.setDom d x).snapReq = s.snapReq := rfl
@[simp] theorem State.setDom_gbars (d : Nat) (x : Dom) : (s.setDom d x).gbars = s.gbars := rfl
@[simp] theorem State.setDom_doms (d : Nat) (x : Dom) : (s.setDom d x).doms = storeSet {} d x s.doms := rfl
@[simp] theorem State.setDom_bufs (d : Nat) (x : Dom) : (s.setDom d x).bufs = s.bufs := rfl
@[simp] theorem State.setDom_deliv (d : Nat) (x : Dom) : (s.setDom d x).deliv = s.deliv := rfl
@[simp] theorem State.setDom_expiries (d : Nat) (x : Dom) : (s.setDom d x).expiries = s.expiries := rfl
@[simp] theorem State.setDom_epoch (d : Nat) (x : Dom) : (s.setDom d x).epoch = s.epoch := rfl
@[simp] theorem State.setDom_couriers (d : Nat) (x : Dom) : (s.setDom d x).couriers = s.couriers := rfl
@[simp] theorem State.setDom_larder (d : Nat) (x : Dom) : (s.setDom d x).larder = s.larder := rfl
@[simp] theorem State.setDom_spad (d : Nat) (x : Dom) : (s.setDom d x).spad = s.spad := rfl
@[simp] theorem State.setDom_banks (d : Nat) (x : Dom) : (s.setDom d x).banks = s.banks := rfl
@[simp] theorem State.setDom_trackers (d : Nat) (x : Dom) : (s.setDom d x).trackers = s.trackers := rfl
@[simp] theorem State.setDom_spares (d : Nat) (x : Dom) : (s.setDom d x).spares = s.spares := rfl
@[simp] theorem State.setDom_porters (d : Nat) (x : Dom) : (s.setDom d x).porters = s.porters := rfl
@[simp] theorem State.setDom_sdram (d : Nat) (x : Dom) : (s.setDom d x).sdram = s.sdram := rfl
@[simp] theorem State.setDom_jnl (d : Nat) (x : Dom) : (s.setDom d x).jnl = s.jnl := rfl
@[simp] theorem State.setDom_desk (d : Nat) (x : Dom) : (s.setDom d x).desk = s.desk := rfl
@[simp] theorem State.setDom_start (d : Nat) (x : Dom) : (s.setDom d x).start = s.start := rfl
@[simp] theorem State.setDom_lcFuses (d : Nat) (x : Dom) : (s.setDom d x).lcFuses = s.lcFuses := rfl
@[simp] theorem State.setDom_sec (d : Nat) (x : Dom) : (s.setDom d x).sec = s.sec := rfl
@[simp] theorem State.setDom_engines (d : Nat) (x : Dom) : (s.setDom d x).engines = s.engines := rfl
@[simp] theorem State.setDom_selfTest (d : Nat) (x : Dom) : (s.setDom d x).selfTest = s.selfTest := rfl
@[simp] theorem State.setDom_jtag (d : Nat) (x : Dom) : (s.setDom d x).jtag = s.jtag := rfl
@[simp] theorem State.setDom_img (d : Nat) (x : Dom) : (s.setDom d x).img = s.img := rfl
@[simp] theorem State.setDom_links (d : Nat) (x : Dom) : (s.setDom d x).links = s.links := rfl
@[simp] theorem State.setDom_twin (d : Nat) (x : Dom) : (s.setDom d x).twin = s.twin := rfl
@[simp] theorem State.setDom_snoops (d : Nat) (x : Dom) : (s.setDom d x).snoops = s.snoops := rfl
@[simp] theorem State.setDom_thermal (d : Nat) (x : Dom) : (s.setDom d x).thermal = s.thermal := rfl

/-! ## setPad -/

@[simp] theorem State.setPad_pending (b : Nat) (x : Pads) : (s.setPad b x).pending = s.pending := rfl
@[simp] theorem State.setPad_emits (b : Nat) (x : Pads) : (s.setPad b x).emits = s.emits := rfl
@[simp] theorem State.setPad_now (b : Nat) (x : Pads) : (s.setPad b x).now = s.now := rfl
@[simp] theorem State.setPad_fresh (b : Nat) (x : Pads) : (s.setPad b x).fresh = s.fresh := rfl
@[simp] theorem State.setPad_csr (b : Nat) (x : Pads) : (s.setPad b x).csr = s.csr := rfl
@[simp] theorem State.setPad_captures (b : Nat) (x : Pads) : (s.setPad b x).captures = s.captures := rfl
@[simp] theorem State.setPad_held (b : Nat) (x : Pads) : (s.setPad b x).held = s.held := rfl
@[simp] theorem State.setPad_gbq (b : Nat) (x : Pads) : (s.setPad b x).gbq = s.gbq := rfl
@[simp] theorem State.setPad_faces (b : Nat) (x : Pads) : (s.setPad b x).faces = s.faces := rfl
@[simp] theorem State.setPad_slices (b : Nat) (x : Pads) : (s.setPad b x).slices = s.slices := rfl
@[simp] theorem State.setPad_rams (b : Nat) (x : Pads) : (s.setPad b x).rams = s.rams := rfl
@[simp] theorem State.setPad_cells (b : Nat) (x : Pads) : (s.setPad b x).cells = s.cells := rfl
@[simp] theorem State.setPad_gates (b : Nat) (x : Pads) : (s.setPad b x).gates = s.gates := rfl
@[simp] theorem State.setPad_ports (b : Nat) (x : Pads) : (s.setPad b x).ports = s.ports := rfl
@[simp] theorem State.setPad_bram (b : Nat) (x : Pads) : (s.setPad b x).bram = s.bram := rfl
@[simp] theorem State.setPad_bwin (b : Nat) (x : Pads) : (s.setPad b x).bwin = s.bwin := rfl
@[simp] theorem State.setPad_pads (b : Nat) (x : Pads) : (s.setPad b x).pads = storeSet {} b x s.pads := rfl
@[simp] theorem State.setPad_regions (b : Nat) (x : Pads) : (s.setPad b x).regions = s.regions := rfl
@[simp] theorem State.setPad_planes (b : Nat) (x : Pads) : (s.setPad b x).planes = s.planes := rfl
@[simp] theorem State.setPad_latches (b : Nat) (x : Pads) : (s.setPad b x).latches = s.latches := rfl
@[simp] theorem State.setPad_imgPlanes (b : Nat) (x : Pads) : (s.setPad b x).imgPlanes = s.imgPlanes := rfl
@[simp] theorem State.setPad_erasing (b : Nat) (x : Pads) : (s.setPad b x).erasing = s.erasing := rfl
@[simp] theorem State.setPad_heldLoads (b : Nat) (x : Pads) : (s.setPad b x).heldLoads = s.heldLoads := rfl
@[simp] theorem State.setPad_corrq (b : Nat) (x : Pads) : (s.setPad b x).corrq = s.corrq := rfl
@[simp] theorem State.setPad_walkq (b : Nat) (x : Pads) : (s.setPad b x).walkq = s.walkq := rfl
@[simp] theorem State.setPad_checks (b : Nat) (x : Pads) : (s.setPad b x).checks = s.checks := rfl
@[simp] theorem State.setPad_passDone (b : Nat) (x : Pads) : (s.setPad b x).passDone = s.passDone := rfl
@[simp] theorem State.setPad_heldVisits (b : Nat) (x : Pads) : (s.setPad b x).heldVisits = s.heldVisits := rfl
@[simp] theorem State.setPad_stackLoaded (b : Nat) (x : Pads) : (s.setPad b x).stackLoaded = s.stackLoaded := rfl
@[simp] theorem State.setPad_fuses (b : Nat) (x : Pads) : (s.setPad b x).fuses = s.fuses := rfl
@[simp] theorem State.setPad_underTest (b : Nat) (x : Pads) : (s.setPad b x).underTest = s.underTest := rfl
@[simp] theorem State.setPad_keptByTest (b : Nat) (x : Pads) : (s.setPad b x).keptByTest = s.keptByTest := rfl
@[simp] theorem State.setPad_outst (b : Nat) (x : Pads) : (s.setPad b x).outst = s.outst := rfl
@[simp] theorem State.setPad_unsent (b : Nat) (x : Pads) : (s.setPad b x).unsent = s.unsent := rfl
@[simp] theorem State.setPad_clkStart (b : Nat) (x : Pads) : (s.setPad b x).clkStart = s.clkStart := rfl
@[simp] theorem State.setPad_park (b : Nat) (x : Pads) : (s.setPad b x).park = s.park := rfl
@[simp] theorem State.setPad_fillq (b : Nat) (x : Pads) : (s.setPad b x).fillq = s.fillq := rfl
@[simp] theorem State.setPad_tickGen (b : Nat) (x : Pads) : (s.setPad b x).tickGen = s.tickGen := rfl
@[simp] theorem State.setPad_threads (b : Nat) (x : Pads) : (s.setPad b x).threads = s.threads := rfl
@[simp] theorem State.setPad_predictor (b : Nat) (x : Pads) : (s.setPad b x).predictor = s.predictor := rfl
@[simp] theorem State.setPad_rpath (b : Nat) (x : Pads) : (s.setPad b x).rpath = s.rpath := rfl
@[simp] theorem State.setPad_imemErr (b : Nat) (x : Pads) : (s.setPad b x).imemErr = s.imemErr := rfl
@[simp] theorem State.setPad_trace (b : Nat) (x : Pads) : (s.setPad b x).trace = s.trace := rfl
@[simp] theorem State.setPad_mirr (b : Nat) (x : Pads) : (s.setPad b x).mirr = s.mirr := rfl
@[simp] theorem State.setPad_snapReq (b : Nat) (x : Pads) : (s.setPad b x).snapReq = s.snapReq := rfl
@[simp] theorem State.setPad_gbars (b : Nat) (x : Pads) : (s.setPad b x).gbars = s.gbars := rfl
@[simp] theorem State.setPad_doms (b : Nat) (x : Pads) : (s.setPad b x).doms = s.doms := rfl
@[simp] theorem State.setPad_bufs (b : Nat) (x : Pads) : (s.setPad b x).bufs = s.bufs := rfl
@[simp] theorem State.setPad_deliv (b : Nat) (x : Pads) : (s.setPad b x).deliv = s.deliv := rfl
@[simp] theorem State.setPad_expiries (b : Nat) (x : Pads) : (s.setPad b x).expiries = s.expiries := rfl
@[simp] theorem State.setPad_epoch (b : Nat) (x : Pads) : (s.setPad b x).epoch = s.epoch := rfl
@[simp] theorem State.setPad_couriers (b : Nat) (x : Pads) : (s.setPad b x).couriers = s.couriers := rfl
@[simp] theorem State.setPad_larder (b : Nat) (x : Pads) : (s.setPad b x).larder = s.larder := rfl
@[simp] theorem State.setPad_spad (b : Nat) (x : Pads) : (s.setPad b x).spad = s.spad := rfl
@[simp] theorem State.setPad_banks (b : Nat) (x : Pads) : (s.setPad b x).banks = s.banks := rfl
@[simp] theorem State.setPad_trackers (b : Nat) (x : Pads) : (s.setPad b x).trackers = s.trackers := rfl
@[simp] theorem State.setPad_spares (b : Nat) (x : Pads) : (s.setPad b x).spares = s.spares := rfl
@[simp] theorem State.setPad_porters (b : Nat) (x : Pads) : (s.setPad b x).porters = s.porters := rfl
@[simp] theorem State.setPad_sdram (b : Nat) (x : Pads) : (s.setPad b x).sdram = s.sdram := rfl
@[simp] theorem State.setPad_jnl (b : Nat) (x : Pads) : (s.setPad b x).jnl = s.jnl := rfl
@[simp] theorem State.setPad_desk (b : Nat) (x : Pads) : (s.setPad b x).desk = s.desk := rfl
@[simp] theorem State.setPad_start (b : Nat) (x : Pads) : (s.setPad b x).start = s.start := rfl
@[simp] theorem State.setPad_lcFuses (b : Nat) (x : Pads) : (s.setPad b x).lcFuses = s.lcFuses := rfl
@[simp] theorem State.setPad_sec (b : Nat) (x : Pads) : (s.setPad b x).sec = s.sec := rfl
@[simp] theorem State.setPad_engines (b : Nat) (x : Pads) : (s.setPad b x).engines = s.engines := rfl
@[simp] theorem State.setPad_selfTest (b : Nat) (x : Pads) : (s.setPad b x).selfTest = s.selfTest := rfl
@[simp] theorem State.setPad_jtag (b : Nat) (x : Pads) : (s.setPad b x).jtag = s.jtag := rfl
@[simp] theorem State.setPad_img (b : Nat) (x : Pads) : (s.setPad b x).img = s.img := rfl
@[simp] theorem State.setPad_links (b : Nat) (x : Pads) : (s.setPad b x).links = s.links := rfl
@[simp] theorem State.setPad_twin (b : Nat) (x : Pads) : (s.setPad b x).twin = s.twin := rfl
@[simp] theorem State.setPad_snoops (b : Nat) (x : Pads) : (s.setPad b x).snoops = s.snoops := rfl
@[simp] theorem State.setPad_thermal (b : Nat) (x : Pads) : (s.setPad b x).thermal = s.thermal := rfl

/-! ## quiet -/

@[simp] theorem State.quiet_pending : (s.quiet).pending = s.pending := rfl
@[simp] theorem State.quiet_emits : (s.quiet).emits = [] := rfl
@[simp] theorem State.quiet_now : (s.quiet).now = s.now := rfl
@[simp] theorem State.quiet_fresh : (s.quiet).fresh = s.fresh := rfl
@[simp] theorem State.quiet_csr : (s.quiet).csr = s.csr := rfl
@[simp] theorem State.quiet_captures : (s.quiet).captures = s.captures := rfl
@[simp] theorem State.quiet_held : (s.quiet).held = s.held := rfl
@[simp] theorem State.quiet_gbq : (s.quiet).gbq = s.gbq := rfl
@[simp] theorem State.quiet_faces : (s.quiet).faces = s.faces := rfl
@[simp] theorem State.quiet_slices : (s.quiet).slices = s.slices := rfl
@[simp] theorem State.quiet_rams : (s.quiet).rams = s.rams := rfl
@[simp] theorem State.quiet_cells : (s.quiet).cells = s.cells := rfl
@[simp] theorem State.quiet_gates : (s.quiet).gates = s.gates := rfl
@[simp] theorem State.quiet_ports : (s.quiet).ports = s.ports := rfl
@[simp] theorem State.quiet_bram : (s.quiet).bram = s.bram := rfl
@[simp] theorem State.quiet_bwin : (s.quiet).bwin = s.bwin := rfl
@[simp] theorem State.quiet_pads : (s.quiet).pads = s.pads := rfl
@[simp] theorem State.quiet_regions : (s.quiet).regions = s.regions := rfl
@[simp] theorem State.quiet_planes : (s.quiet).planes = s.planes := rfl
@[simp] theorem State.quiet_latches : (s.quiet).latches = s.latches := rfl
@[simp] theorem State.quiet_imgPlanes : (s.quiet).imgPlanes = s.imgPlanes := rfl
@[simp] theorem State.quiet_erasing : (s.quiet).erasing = s.erasing := rfl
@[simp] theorem State.quiet_heldLoads : (s.quiet).heldLoads = s.heldLoads := rfl
@[simp] theorem State.quiet_corrq : (s.quiet).corrq = s.corrq := rfl
@[simp] theorem State.quiet_walkq : (s.quiet).walkq = s.walkq := rfl
@[simp] theorem State.quiet_checks : (s.quiet).checks = s.checks := rfl
@[simp] theorem State.quiet_passDone : (s.quiet).passDone = s.passDone := rfl
@[simp] theorem State.quiet_heldVisits : (s.quiet).heldVisits = s.heldVisits := rfl
@[simp] theorem State.quiet_stackLoaded : (s.quiet).stackLoaded = s.stackLoaded := rfl
@[simp] theorem State.quiet_fuses : (s.quiet).fuses = s.fuses := rfl
@[simp] theorem State.quiet_underTest : (s.quiet).underTest = s.underTest := rfl
@[simp] theorem State.quiet_keptByTest : (s.quiet).keptByTest = s.keptByTest := rfl
@[simp] theorem State.quiet_outst : (s.quiet).outst = s.outst := rfl
@[simp] theorem State.quiet_unsent : (s.quiet).unsent = s.unsent := rfl
@[simp] theorem State.quiet_clkStart : (s.quiet).clkStart = s.clkStart := rfl
@[simp] theorem State.quiet_park : (s.quiet).park = s.park := rfl
@[simp] theorem State.quiet_fillq : (s.quiet).fillq = s.fillq := rfl
@[simp] theorem State.quiet_tickGen : (s.quiet).tickGen = s.tickGen := rfl
@[simp] theorem State.quiet_threads : (s.quiet).threads = s.threads := rfl
@[simp] theorem State.quiet_predictor : (s.quiet).predictor = s.predictor := rfl
@[simp] theorem State.quiet_rpath : (s.quiet).rpath = s.rpath := rfl
@[simp] theorem State.quiet_imemErr : (s.quiet).imemErr = s.imemErr := rfl
@[simp] theorem State.quiet_trace : (s.quiet).trace = s.trace := rfl
@[simp] theorem State.quiet_mirr : (s.quiet).mirr = s.mirr := rfl
@[simp] theorem State.quiet_snapReq : (s.quiet).snapReq = s.snapReq := rfl
@[simp] theorem State.quiet_gbars : (s.quiet).gbars = s.gbars := rfl
@[simp] theorem State.quiet_doms : (s.quiet).doms = s.doms := rfl
@[simp] theorem State.quiet_bufs : (s.quiet).bufs = s.bufs := rfl
@[simp] theorem State.quiet_deliv : (s.quiet).deliv = s.deliv := rfl
@[simp] theorem State.quiet_expiries : (s.quiet).expiries = s.expiries := rfl
@[simp] theorem State.quiet_epoch : (s.quiet).epoch = s.epoch := rfl
@[simp] theorem State.quiet_couriers : (s.quiet).couriers = s.couriers := rfl
@[simp] theorem State.quiet_larder : (s.quiet).larder = s.larder := rfl
@[simp] theorem State.quiet_spad : (s.quiet).spad = s.spad := rfl
@[simp] theorem State.quiet_banks : (s.quiet).banks = s.banks := rfl
@[simp] theorem State.quiet_trackers : (s.quiet).trackers = s.trackers := rfl
@[simp] theorem State.quiet_spares : (s.quiet).spares = s.spares := rfl
@[simp] theorem State.quiet_porters : (s.quiet).porters = s.porters := rfl
@[simp] theorem State.quiet_sdram : (s.quiet).sdram = s.sdram := rfl
@[simp] theorem State.quiet_jnl : (s.quiet).jnl = s.jnl := rfl
@[simp] theorem State.quiet_desk : (s.quiet).desk = s.desk := rfl
@[simp] theorem State.quiet_start : (s.quiet).start = s.start := rfl
@[simp] theorem State.quiet_lcFuses : (s.quiet).lcFuses = s.lcFuses := rfl
@[simp] theorem State.quiet_sec : (s.quiet).sec = s.sec := rfl
@[simp] theorem State.quiet_engines : (s.quiet).engines = s.engines := rfl
@[simp] theorem State.quiet_selfTest : (s.quiet).selfTest = s.selfTest := rfl
@[simp] theorem State.quiet_jtag : (s.quiet).jtag = s.jtag := rfl
@[simp] theorem State.quiet_img : (s.quiet).img = s.img := rfl
@[simp] theorem State.quiet_links : (s.quiet).links = s.links := rfl
@[simp] theorem State.quiet_twin : (s.quiet).twin = s.twin := rfl
@[simp] theorem State.quiet_snoops : (s.quiet).snoops = s.snoops := rfl
@[simp] theorem State.quiet_thermal : (s.quiet).thermal = s.thermal := rfl

/-! ## emit -/

@[simp] theorem State.emit_pending (e : Emit) : (s.emit e).pending = s.pending := rfl
@[simp] theorem State.emit_emits (e : Emit) : (s.emit e).emits = s.emits ++ [e] := rfl
@[simp] theorem State.emit_now (e : Emit) : (s.emit e).now = s.now := rfl
@[simp] theorem State.emit_fresh (e : Emit) : (s.emit e).fresh = s.fresh := rfl
@[simp] theorem State.emit_csr (e : Emit) : (s.emit e).csr = s.csr := rfl
@[simp] theorem State.emit_captures (e : Emit) : (s.emit e).captures = s.captures := rfl
@[simp] theorem State.emit_held (e : Emit) : (s.emit e).held = s.held := rfl
@[simp] theorem State.emit_gbq (e : Emit) : (s.emit e).gbq = s.gbq := rfl
@[simp] theorem State.emit_faces (e : Emit) : (s.emit e).faces = s.faces := rfl
@[simp] theorem State.emit_slices (e : Emit) : (s.emit e).slices = s.slices := rfl
@[simp] theorem State.emit_rams (e : Emit) : (s.emit e).rams = s.rams := rfl
@[simp] theorem State.emit_cells (e : Emit) : (s.emit e).cells = s.cells := rfl
@[simp] theorem State.emit_gates (e : Emit) : (s.emit e).gates = s.gates := rfl
@[simp] theorem State.emit_ports (e : Emit) : (s.emit e).ports = s.ports := rfl
@[simp] theorem State.emit_bram (e : Emit) : (s.emit e).bram = s.bram := rfl
@[simp] theorem State.emit_bwin (e : Emit) : (s.emit e).bwin = s.bwin := rfl
@[simp] theorem State.emit_pads (e : Emit) : (s.emit e).pads = s.pads := rfl
@[simp] theorem State.emit_regions (e : Emit) : (s.emit e).regions = s.regions := rfl
@[simp] theorem State.emit_planes (e : Emit) : (s.emit e).planes = s.planes := rfl
@[simp] theorem State.emit_latches (e : Emit) : (s.emit e).latches = s.latches := rfl
@[simp] theorem State.emit_imgPlanes (e : Emit) : (s.emit e).imgPlanes = s.imgPlanes := rfl
@[simp] theorem State.emit_erasing (e : Emit) : (s.emit e).erasing = s.erasing := rfl
@[simp] theorem State.emit_heldLoads (e : Emit) : (s.emit e).heldLoads = s.heldLoads := rfl
@[simp] theorem State.emit_corrq (e : Emit) : (s.emit e).corrq = s.corrq := rfl
@[simp] theorem State.emit_walkq (e : Emit) : (s.emit e).walkq = s.walkq := rfl
@[simp] theorem State.emit_checks (e : Emit) : (s.emit e).checks = s.checks := rfl
@[simp] theorem State.emit_passDone (e : Emit) : (s.emit e).passDone = s.passDone := rfl
@[simp] theorem State.emit_heldVisits (e : Emit) : (s.emit e).heldVisits = s.heldVisits := rfl
@[simp] theorem State.emit_stackLoaded (e : Emit) : (s.emit e).stackLoaded = s.stackLoaded := rfl
@[simp] theorem State.emit_fuses (e : Emit) : (s.emit e).fuses = s.fuses := rfl
@[simp] theorem State.emit_underTest (e : Emit) : (s.emit e).underTest = s.underTest := rfl
@[simp] theorem State.emit_keptByTest (e : Emit) : (s.emit e).keptByTest = s.keptByTest := rfl
@[simp] theorem State.emit_outst (e : Emit) : (s.emit e).outst = s.outst := rfl
@[simp] theorem State.emit_unsent (e : Emit) : (s.emit e).unsent = s.unsent := rfl
@[simp] theorem State.emit_clkStart (e : Emit) : (s.emit e).clkStart = s.clkStart := rfl
@[simp] theorem State.emit_park (e : Emit) : (s.emit e).park = s.park := rfl
@[simp] theorem State.emit_fillq (e : Emit) : (s.emit e).fillq = s.fillq := rfl
@[simp] theorem State.emit_tickGen (e : Emit) : (s.emit e).tickGen = s.tickGen := rfl
@[simp] theorem State.emit_threads (e : Emit) : (s.emit e).threads = s.threads := rfl
@[simp] theorem State.emit_predictor (e : Emit) : (s.emit e).predictor = s.predictor := rfl
@[simp] theorem State.emit_rpath (e : Emit) : (s.emit e).rpath = s.rpath := rfl
@[simp] theorem State.emit_imemErr (e : Emit) : (s.emit e).imemErr = s.imemErr := rfl
@[simp] theorem State.emit_trace (e : Emit) : (s.emit e).trace = s.trace := rfl
@[simp] theorem State.emit_mirr (e : Emit) : (s.emit e).mirr = s.mirr := rfl
@[simp] theorem State.emit_snapReq (e : Emit) : (s.emit e).snapReq = s.snapReq := rfl
@[simp] theorem State.emit_gbars (e : Emit) : (s.emit e).gbars = s.gbars := rfl
@[simp] theorem State.emit_doms (e : Emit) : (s.emit e).doms = s.doms := rfl
@[simp] theorem State.emit_bufs (e : Emit) : (s.emit e).bufs = s.bufs := rfl
@[simp] theorem State.emit_deliv (e : Emit) : (s.emit e).deliv = s.deliv := rfl
@[simp] theorem State.emit_expiries (e : Emit) : (s.emit e).expiries = s.expiries := rfl
@[simp] theorem State.emit_epoch (e : Emit) : (s.emit e).epoch = s.epoch := rfl
@[simp] theorem State.emit_couriers (e : Emit) : (s.emit e).couriers = s.couriers := rfl
@[simp] theorem State.emit_larder (e : Emit) : (s.emit e).larder = s.larder := rfl
@[simp] theorem State.emit_spad (e : Emit) : (s.emit e).spad = s.spad := rfl
@[simp] theorem State.emit_banks (e : Emit) : (s.emit e).banks = s.banks := rfl
@[simp] theorem State.emit_trackers (e : Emit) : (s.emit e).trackers = s.trackers := rfl
@[simp] theorem State.emit_spares (e : Emit) : (s.emit e).spares = s.spares := rfl
@[simp] theorem State.emit_porters (e : Emit) : (s.emit e).porters = s.porters := rfl
@[simp] theorem State.emit_sdram (e : Emit) : (s.emit e).sdram = s.sdram := rfl
@[simp] theorem State.emit_jnl (e : Emit) : (s.emit e).jnl = s.jnl := rfl
@[simp] theorem State.emit_desk (e : Emit) : (s.emit e).desk = s.desk := rfl
@[simp] theorem State.emit_start (e : Emit) : (s.emit e).start = s.start := rfl
@[simp] theorem State.emit_lcFuses (e : Emit) : (s.emit e).lcFuses = s.lcFuses := rfl
@[simp] theorem State.emit_sec (e : Emit) : (s.emit e).sec = s.sec := rfl
@[simp] theorem State.emit_engines (e : Emit) : (s.emit e).engines = s.engines := rfl
@[simp] theorem State.emit_selfTest (e : Emit) : (s.emit e).selfTest = s.selfTest := rfl
@[simp] theorem State.emit_jtag (e : Emit) : (s.emit e).jtag = s.jtag := rfl
@[simp] theorem State.emit_img (e : Emit) : (s.emit e).img = s.img := rfl
@[simp] theorem State.emit_links (e : Emit) : (s.emit e).links = s.links := rfl
@[simp] theorem State.emit_twin (e : Emit) : (s.emit e).twin = s.twin := rfl
@[simp] theorem State.emit_snoops (e : Emit) : (s.emit e).snoops = s.snoops := rfl
@[simp] theorem State.emit_thermal (e : Emit) : (s.emit e).thermal = s.thermal := rfl

/-! ## drawn -/

@[simp] theorem State.drawn_pending : (s.drawn).pending = s.pending := rfl
@[simp] theorem State.drawn_emits : (s.drawn).emits = s.emits := rfl
@[simp] theorem State.drawn_now : (s.drawn).now = s.now := rfl
@[simp] theorem State.drawn_fresh : (s.drawn).fresh = s.fresh + 1 := rfl
@[simp] theorem State.drawn_csr : (s.drawn).csr = s.csr := rfl
@[simp] theorem State.drawn_captures : (s.drawn).captures = s.captures := rfl
@[simp] theorem State.drawn_held : (s.drawn).held = s.held := rfl
@[simp] theorem State.drawn_gbq : (s.drawn).gbq = s.gbq := rfl
@[simp] theorem State.drawn_faces : (s.drawn).faces = s.faces := rfl
@[simp] theorem State.drawn_slices : (s.drawn).slices = s.slices := rfl
@[simp] theorem State.drawn_rams : (s.drawn).rams = s.rams := rfl
@[simp] theorem State.drawn_cells : (s.drawn).cells = s.cells := rfl
@[simp] theorem State.drawn_gates : (s.drawn).gates = s.gates := rfl
@[simp] theorem State.drawn_ports : (s.drawn).ports = s.ports := rfl
@[simp] theorem State.drawn_bram : (s.drawn).bram = s.bram := rfl
@[simp] theorem State.drawn_bwin : (s.drawn).bwin = s.bwin := rfl
@[simp] theorem State.drawn_pads : (s.drawn).pads = s.pads := rfl
@[simp] theorem State.drawn_regions : (s.drawn).regions = s.regions := rfl
@[simp] theorem State.drawn_planes : (s.drawn).planes = s.planes := rfl
@[simp] theorem State.drawn_latches : (s.drawn).latches = s.latches := rfl
@[simp] theorem State.drawn_imgPlanes : (s.drawn).imgPlanes = s.imgPlanes := rfl
@[simp] theorem State.drawn_erasing : (s.drawn).erasing = s.erasing := rfl
@[simp] theorem State.drawn_heldLoads : (s.drawn).heldLoads = s.heldLoads := rfl
@[simp] theorem State.drawn_corrq : (s.drawn).corrq = s.corrq := rfl
@[simp] theorem State.drawn_walkq : (s.drawn).walkq = s.walkq := rfl
@[simp] theorem State.drawn_checks : (s.drawn).checks = s.checks := rfl
@[simp] theorem State.drawn_passDone : (s.drawn).passDone = s.passDone := rfl
@[simp] theorem State.drawn_heldVisits : (s.drawn).heldVisits = s.heldVisits := rfl
@[simp] theorem State.drawn_stackLoaded : (s.drawn).stackLoaded = s.stackLoaded := rfl
@[simp] theorem State.drawn_fuses : (s.drawn).fuses = s.fuses := rfl
@[simp] theorem State.drawn_underTest : (s.drawn).underTest = s.underTest := rfl
@[simp] theorem State.drawn_keptByTest : (s.drawn).keptByTest = s.keptByTest := rfl
@[simp] theorem State.drawn_outst : (s.drawn).outst = s.outst := rfl
@[simp] theorem State.drawn_unsent : (s.drawn).unsent = s.unsent := rfl
@[simp] theorem State.drawn_clkStart : (s.drawn).clkStart = s.clkStart := rfl
@[simp] theorem State.drawn_park : (s.drawn).park = s.park := rfl
@[simp] theorem State.drawn_fillq : (s.drawn).fillq = s.fillq := rfl
@[simp] theorem State.drawn_tickGen : (s.drawn).tickGen = s.tickGen := rfl
@[simp] theorem State.drawn_threads : (s.drawn).threads = s.threads := rfl
@[simp] theorem State.drawn_predictor : (s.drawn).predictor = s.predictor := rfl
@[simp] theorem State.drawn_rpath : (s.drawn).rpath = s.rpath := rfl
@[simp] theorem State.drawn_imemErr : (s.drawn).imemErr = s.imemErr := rfl
@[simp] theorem State.drawn_trace : (s.drawn).trace = s.trace := rfl
@[simp] theorem State.drawn_mirr : (s.drawn).mirr = s.mirr := rfl
@[simp] theorem State.drawn_snapReq : (s.drawn).snapReq = s.snapReq := rfl
@[simp] theorem State.drawn_gbars : (s.drawn).gbars = s.gbars := rfl
@[simp] theorem State.drawn_doms : (s.drawn).doms = s.doms := rfl
@[simp] theorem State.drawn_bufs : (s.drawn).bufs = s.bufs := rfl
@[simp] theorem State.drawn_deliv : (s.drawn).deliv = s.deliv := rfl
@[simp] theorem State.drawn_expiries : (s.drawn).expiries = s.expiries := rfl
@[simp] theorem State.drawn_epoch : (s.drawn).epoch = s.epoch := rfl
@[simp] theorem State.drawn_couriers : (s.drawn).couriers = s.couriers := rfl
@[simp] theorem State.drawn_larder : (s.drawn).larder = s.larder := rfl
@[simp] theorem State.drawn_spad : (s.drawn).spad = s.spad := rfl
@[simp] theorem State.drawn_banks : (s.drawn).banks = s.banks := rfl
@[simp] theorem State.drawn_trackers : (s.drawn).trackers = s.trackers := rfl
@[simp] theorem State.drawn_spares : (s.drawn).spares = s.spares := rfl
@[simp] theorem State.drawn_porters : (s.drawn).porters = s.porters := rfl
@[simp] theorem State.drawn_sdram : (s.drawn).sdram = s.sdram := rfl
@[simp] theorem State.drawn_jnl : (s.drawn).jnl = s.jnl := rfl
@[simp] theorem State.drawn_desk : (s.drawn).desk = s.desk := rfl
@[simp] theorem State.drawn_start : (s.drawn).start = s.start := rfl
@[simp] theorem State.drawn_lcFuses : (s.drawn).lcFuses = s.lcFuses := rfl
@[simp] theorem State.drawn_sec : (s.drawn).sec = s.sec := rfl
@[simp] theorem State.drawn_engines : (s.drawn).engines = s.engines := rfl
@[simp] theorem State.drawn_selfTest : (s.drawn).selfTest = s.selfTest := rfl
@[simp] theorem State.drawn_jtag : (s.drawn).jtag = s.jtag := rfl
@[simp] theorem State.drawn_img : (s.drawn).img = s.img := rfl
@[simp] theorem State.drawn_links : (s.drawn).links = s.links := rfl
@[simp] theorem State.drawn_twin : (s.drawn).twin = s.twin := rfl
@[simp] theorem State.drawn_snoops : (s.drawn).snoops = s.snoops := rfl
@[simp] theorem State.drawn_thermal : (s.drawn).thermal = s.thermal := rfl

/-! ## setCourier -/

@[simp] theorem State.setCourier_pending (c : Nat) (x : Courier) : (s.setCourier c x).pending = s.pending := rfl
@[simp] theorem State.setCourier_emits (c : Nat) (x : Courier) : (s.setCourier c x).emits = s.emits := rfl
@[simp] theorem State.setCourier_now (c : Nat) (x : Courier) : (s.setCourier c x).now = s.now := rfl
@[simp] theorem State.setCourier_fresh (c : Nat) (x : Courier) : (s.setCourier c x).fresh = s.fresh := rfl
@[simp] theorem State.setCourier_csr (c : Nat) (x : Courier) : (s.setCourier c x).csr = s.csr := rfl
@[simp] theorem State.setCourier_captures (c : Nat) (x : Courier) : (s.setCourier c x).captures = s.captures := rfl
@[simp] theorem State.setCourier_held (c : Nat) (x : Courier) : (s.setCourier c x).held = s.held := rfl
@[simp] theorem State.setCourier_gbq (c : Nat) (x : Courier) : (s.setCourier c x).gbq = s.gbq := rfl
@[simp] theorem State.setCourier_faces (c : Nat) (x : Courier) : (s.setCourier c x).faces = s.faces := rfl
@[simp] theorem State.setCourier_slices (c : Nat) (x : Courier) : (s.setCourier c x).slices = s.slices := rfl
@[simp] theorem State.setCourier_rams (c : Nat) (x : Courier) : (s.setCourier c x).rams = s.rams := rfl
@[simp] theorem State.setCourier_cells (c : Nat) (x : Courier) : (s.setCourier c x).cells = s.cells := rfl
@[simp] theorem State.setCourier_gates (c : Nat) (x : Courier) : (s.setCourier c x).gates = s.gates := rfl
@[simp] theorem State.setCourier_ports (c : Nat) (x : Courier) : (s.setCourier c x).ports = s.ports := rfl
@[simp] theorem State.setCourier_bram (c : Nat) (x : Courier) : (s.setCourier c x).bram = s.bram := rfl
@[simp] theorem State.setCourier_bwin (c : Nat) (x : Courier) : (s.setCourier c x).bwin = s.bwin := rfl
@[simp] theorem State.setCourier_pads (c : Nat) (x : Courier) : (s.setCourier c x).pads = s.pads := rfl
@[simp] theorem State.setCourier_regions (c : Nat) (x : Courier) : (s.setCourier c x).regions = s.regions := rfl
@[simp] theorem State.setCourier_planes (c : Nat) (x : Courier) : (s.setCourier c x).planes = s.planes := rfl
@[simp] theorem State.setCourier_latches (c : Nat) (x : Courier) : (s.setCourier c x).latches = s.latches := rfl
@[simp] theorem State.setCourier_imgPlanes (c : Nat) (x : Courier) : (s.setCourier c x).imgPlanes = s.imgPlanes := rfl
@[simp] theorem State.setCourier_erasing (c : Nat) (x : Courier) : (s.setCourier c x).erasing = s.erasing := rfl
@[simp] theorem State.setCourier_heldLoads (c : Nat) (x : Courier) : (s.setCourier c x).heldLoads = s.heldLoads := rfl
@[simp] theorem State.setCourier_corrq (c : Nat) (x : Courier) : (s.setCourier c x).corrq = s.corrq := rfl
@[simp] theorem State.setCourier_walkq (c : Nat) (x : Courier) : (s.setCourier c x).walkq = s.walkq := rfl
@[simp] theorem State.setCourier_checks (c : Nat) (x : Courier) : (s.setCourier c x).checks = s.checks := rfl
@[simp] theorem State.setCourier_passDone (c : Nat) (x : Courier) : (s.setCourier c x).passDone = s.passDone := rfl
@[simp] theorem State.setCourier_heldVisits (c : Nat) (x : Courier) : (s.setCourier c x).heldVisits = s.heldVisits := rfl
@[simp] theorem State.setCourier_stackLoaded (c : Nat) (x : Courier) : (s.setCourier c x).stackLoaded = s.stackLoaded := rfl
@[simp] theorem State.setCourier_fuses (c : Nat) (x : Courier) : (s.setCourier c x).fuses = s.fuses := rfl
@[simp] theorem State.setCourier_underTest (c : Nat) (x : Courier) : (s.setCourier c x).underTest = s.underTest := rfl
@[simp] theorem State.setCourier_keptByTest (c : Nat) (x : Courier) : (s.setCourier c x).keptByTest = s.keptByTest := rfl
@[simp] theorem State.setCourier_outst (c : Nat) (x : Courier) : (s.setCourier c x).outst = s.outst := rfl
@[simp] theorem State.setCourier_unsent (c : Nat) (x : Courier) : (s.setCourier c x).unsent = s.unsent := rfl
@[simp] theorem State.setCourier_clkStart (c : Nat) (x : Courier) : (s.setCourier c x).clkStart = s.clkStart := rfl
@[simp] theorem State.setCourier_park (c : Nat) (x : Courier) : (s.setCourier c x).park = s.park := rfl
@[simp] theorem State.setCourier_fillq (c : Nat) (x : Courier) : (s.setCourier c x).fillq = s.fillq := rfl
@[simp] theorem State.setCourier_tickGen (c : Nat) (x : Courier) : (s.setCourier c x).tickGen = s.tickGen := rfl
@[simp] theorem State.setCourier_threads (c : Nat) (x : Courier) : (s.setCourier c x).threads = s.threads := rfl
@[simp] theorem State.setCourier_predictor (c : Nat) (x : Courier) : (s.setCourier c x).predictor = s.predictor := rfl
@[simp] theorem State.setCourier_rpath (c : Nat) (x : Courier) : (s.setCourier c x).rpath = s.rpath := rfl
@[simp] theorem State.setCourier_imemErr (c : Nat) (x : Courier) : (s.setCourier c x).imemErr = s.imemErr := rfl
@[simp] theorem State.setCourier_trace (c : Nat) (x : Courier) : (s.setCourier c x).trace = s.trace := rfl
@[simp] theorem State.setCourier_mirr (c : Nat) (x : Courier) : (s.setCourier c x).mirr = s.mirr := rfl
@[simp] theorem State.setCourier_snapReq (c : Nat) (x : Courier) : (s.setCourier c x).snapReq = s.snapReq := rfl
@[simp] theorem State.setCourier_gbars (c : Nat) (x : Courier) : (s.setCourier c x).gbars = s.gbars := rfl
@[simp] theorem State.setCourier_doms (c : Nat) (x : Courier) : (s.setCourier c x).doms = s.doms := rfl
@[simp] theorem State.setCourier_bufs (c : Nat) (x : Courier) : (s.setCourier c x).bufs = s.bufs := rfl
@[simp] theorem State.setCourier_deliv (c : Nat) (x : Courier) : (s.setCourier c x).deliv = s.deliv := rfl
@[simp] theorem State.setCourier_expiries (c : Nat) (x : Courier) : (s.setCourier c x).expiries = s.expiries := rfl
@[simp] theorem State.setCourier_epoch (c : Nat) (x : Courier) : (s.setCourier c x).epoch = s.epoch := rfl
@[simp] theorem State.setCourier_couriers (c : Nat) (x : Courier) : (s.setCourier c x).couriers = storeSet {} c x s.couriers := rfl
@[simp] theorem State.setCourier_larder (c : Nat) (x : Courier) : (s.setCourier c x).larder = s.larder := rfl
@[simp] theorem State.setCourier_spad (c : Nat) (x : Courier) : (s.setCourier c x).spad = s.spad := rfl
@[simp] theorem State.setCourier_banks (c : Nat) (x : Courier) : (s.setCourier c x).banks = s.banks := rfl
@[simp] theorem State.setCourier_trackers (c : Nat) (x : Courier) : (s.setCourier c x).trackers = s.trackers := rfl
@[simp] theorem State.setCourier_spares (c : Nat) (x : Courier) : (s.setCourier c x).spares = s.spares := rfl
@[simp] theorem State.setCourier_porters (c : Nat) (x : Courier) : (s.setCourier c x).porters = s.porters := rfl
@[simp] theorem State.setCourier_sdram (c : Nat) (x : Courier) : (s.setCourier c x).sdram = s.sdram := rfl
@[simp] theorem State.setCourier_jnl (c : Nat) (x : Courier) : (s.setCourier c x).jnl = s.jnl := rfl
@[simp] theorem State.setCourier_desk (c : Nat) (x : Courier) : (s.setCourier c x).desk = s.desk := rfl
@[simp] theorem State.setCourier_start (c : Nat) (x : Courier) : (s.setCourier c x).start = s.start := rfl
@[simp] theorem State.setCourier_lcFuses (c : Nat) (x : Courier) : (s.setCourier c x).lcFuses = s.lcFuses := rfl
@[simp] theorem State.setCourier_sec (c : Nat) (x : Courier) : (s.setCourier c x).sec = s.sec := rfl
@[simp] theorem State.setCourier_engines (c : Nat) (x : Courier) : (s.setCourier c x).engines = s.engines := rfl
@[simp] theorem State.setCourier_selfTest (c : Nat) (x : Courier) : (s.setCourier c x).selfTest = s.selfTest := rfl
@[simp] theorem State.setCourier_jtag (c : Nat) (x : Courier) : (s.setCourier c x).jtag = s.jtag := rfl
@[simp] theorem State.setCourier_img (c : Nat) (x : Courier) : (s.setCourier c x).img = s.img := rfl
@[simp] theorem State.setCourier_links (c : Nat) (x : Courier) : (s.setCourier c x).links = s.links := rfl
@[simp] theorem State.setCourier_twin (c : Nat) (x : Courier) : (s.setCourier c x).twin = s.twin := rfl
@[simp] theorem State.setCourier_snoops (c : Nat) (x : Courier) : (s.setCourier c x).snoops = s.snoops := rfl
@[simp] theorem State.setCourier_thermal (c : Nat) (x : Courier) : (s.setCourier c x).thermal = s.thermal := rfl

/-! ## setJtag -/

@[simp] theorem State.setJtag_pending (x : Jtag) : (s.setJtag x).pending = s.pending := rfl
@[simp] theorem State.setJtag_emits (x : Jtag) : (s.setJtag x).emits = s.emits := rfl
@[simp] theorem State.setJtag_now (x : Jtag) : (s.setJtag x).now = s.now := rfl
@[simp] theorem State.setJtag_fresh (x : Jtag) : (s.setJtag x).fresh = s.fresh := rfl
@[simp] theorem State.setJtag_csr (x : Jtag) : (s.setJtag x).csr = s.csr := rfl
@[simp] theorem State.setJtag_captures (x : Jtag) : (s.setJtag x).captures = s.captures := rfl
@[simp] theorem State.setJtag_held (x : Jtag) : (s.setJtag x).held = s.held := rfl
@[simp] theorem State.setJtag_gbq (x : Jtag) : (s.setJtag x).gbq = s.gbq := rfl
@[simp] theorem State.setJtag_faces (x : Jtag) : (s.setJtag x).faces = s.faces := rfl
@[simp] theorem State.setJtag_slices (x : Jtag) : (s.setJtag x).slices = s.slices := rfl
@[simp] theorem State.setJtag_rams (x : Jtag) : (s.setJtag x).rams = s.rams := rfl
@[simp] theorem State.setJtag_cells (x : Jtag) : (s.setJtag x).cells = s.cells := rfl
@[simp] theorem State.setJtag_gates (x : Jtag) : (s.setJtag x).gates = s.gates := rfl
@[simp] theorem State.setJtag_ports (x : Jtag) : (s.setJtag x).ports = s.ports := rfl
@[simp] theorem State.setJtag_bram (x : Jtag) : (s.setJtag x).bram = s.bram := rfl
@[simp] theorem State.setJtag_bwin (x : Jtag) : (s.setJtag x).bwin = s.bwin := rfl
@[simp] theorem State.setJtag_pads (x : Jtag) : (s.setJtag x).pads = s.pads := rfl
@[simp] theorem State.setJtag_regions (x : Jtag) : (s.setJtag x).regions = s.regions := rfl
@[simp] theorem State.setJtag_planes (x : Jtag) : (s.setJtag x).planes = s.planes := rfl
@[simp] theorem State.setJtag_latches (x : Jtag) : (s.setJtag x).latches = s.latches := rfl
@[simp] theorem State.setJtag_imgPlanes (x : Jtag) : (s.setJtag x).imgPlanes = s.imgPlanes := rfl
@[simp] theorem State.setJtag_erasing (x : Jtag) : (s.setJtag x).erasing = s.erasing := rfl
@[simp] theorem State.setJtag_heldLoads (x : Jtag) : (s.setJtag x).heldLoads = s.heldLoads := rfl
@[simp] theorem State.setJtag_corrq (x : Jtag) : (s.setJtag x).corrq = s.corrq := rfl
@[simp] theorem State.setJtag_walkq (x : Jtag) : (s.setJtag x).walkq = s.walkq := rfl
@[simp] theorem State.setJtag_checks (x : Jtag) : (s.setJtag x).checks = s.checks := rfl
@[simp] theorem State.setJtag_passDone (x : Jtag) : (s.setJtag x).passDone = s.passDone := rfl
@[simp] theorem State.setJtag_heldVisits (x : Jtag) : (s.setJtag x).heldVisits = s.heldVisits := rfl
@[simp] theorem State.setJtag_stackLoaded (x : Jtag) : (s.setJtag x).stackLoaded = s.stackLoaded := rfl
@[simp] theorem State.setJtag_fuses (x : Jtag) : (s.setJtag x).fuses = s.fuses := rfl
@[simp] theorem State.setJtag_underTest (x : Jtag) : (s.setJtag x).underTest = s.underTest := rfl
@[simp] theorem State.setJtag_keptByTest (x : Jtag) : (s.setJtag x).keptByTest = s.keptByTest := rfl
@[simp] theorem State.setJtag_outst (x : Jtag) : (s.setJtag x).outst = s.outst := rfl
@[simp] theorem State.setJtag_unsent (x : Jtag) : (s.setJtag x).unsent = s.unsent := rfl
@[simp] theorem State.setJtag_clkStart (x : Jtag) : (s.setJtag x).clkStart = s.clkStart := rfl
@[simp] theorem State.setJtag_park (x : Jtag) : (s.setJtag x).park = s.park := rfl
@[simp] theorem State.setJtag_fillq (x : Jtag) : (s.setJtag x).fillq = s.fillq := rfl
@[simp] theorem State.setJtag_tickGen (x : Jtag) : (s.setJtag x).tickGen = s.tickGen := rfl
@[simp] theorem State.setJtag_threads (x : Jtag) : (s.setJtag x).threads = s.threads := rfl
@[simp] theorem State.setJtag_predictor (x : Jtag) : (s.setJtag x).predictor = s.predictor := rfl
@[simp] theorem State.setJtag_rpath (x : Jtag) : (s.setJtag x).rpath = s.rpath := rfl
@[simp] theorem State.setJtag_imemErr (x : Jtag) : (s.setJtag x).imemErr = s.imemErr := rfl
@[simp] theorem State.setJtag_trace (x : Jtag) : (s.setJtag x).trace = s.trace := rfl
@[simp] theorem State.setJtag_mirr (x : Jtag) : (s.setJtag x).mirr = s.mirr := rfl
@[simp] theorem State.setJtag_snapReq (x : Jtag) : (s.setJtag x).snapReq = s.snapReq := rfl
@[simp] theorem State.setJtag_gbars (x : Jtag) : (s.setJtag x).gbars = s.gbars := rfl
@[simp] theorem State.setJtag_doms (x : Jtag) : (s.setJtag x).doms = s.doms := rfl
@[simp] theorem State.setJtag_bufs (x : Jtag) : (s.setJtag x).bufs = s.bufs := rfl
@[simp] theorem State.setJtag_deliv (x : Jtag) : (s.setJtag x).deliv = s.deliv := rfl
@[simp] theorem State.setJtag_expiries (x : Jtag) : (s.setJtag x).expiries = s.expiries := rfl
@[simp] theorem State.setJtag_epoch (x : Jtag) : (s.setJtag x).epoch = s.epoch := rfl
@[simp] theorem State.setJtag_couriers (x : Jtag) : (s.setJtag x).couriers = s.couriers := rfl
@[simp] theorem State.setJtag_larder (x : Jtag) : (s.setJtag x).larder = s.larder := rfl
@[simp] theorem State.setJtag_spad (x : Jtag) : (s.setJtag x).spad = s.spad := rfl
@[simp] theorem State.setJtag_banks (x : Jtag) : (s.setJtag x).banks = s.banks := rfl
@[simp] theorem State.setJtag_trackers (x : Jtag) : (s.setJtag x).trackers = s.trackers := rfl
@[simp] theorem State.setJtag_spares (x : Jtag) : (s.setJtag x).spares = s.spares := rfl
@[simp] theorem State.setJtag_porters (x : Jtag) : (s.setJtag x).porters = s.porters := rfl
@[simp] theorem State.setJtag_sdram (x : Jtag) : (s.setJtag x).sdram = s.sdram := rfl
@[simp] theorem State.setJtag_jnl (x : Jtag) : (s.setJtag x).jnl = s.jnl := rfl
@[simp] theorem State.setJtag_desk (x : Jtag) : (s.setJtag x).desk = s.desk := rfl
@[simp] theorem State.setJtag_start (x : Jtag) : (s.setJtag x).start = s.start := rfl
@[simp] theorem State.setJtag_lcFuses (x : Jtag) : (s.setJtag x).lcFuses = s.lcFuses := rfl
@[simp] theorem State.setJtag_sec (x : Jtag) : (s.setJtag x).sec = s.sec := rfl
@[simp] theorem State.setJtag_engines (x : Jtag) : (s.setJtag x).engines = s.engines := rfl
@[simp] theorem State.setJtag_selfTest (x : Jtag) : (s.setJtag x).selfTest = s.selfTest := rfl
@[simp] theorem State.setJtag_jtag (x : Jtag) : (s.setJtag x).jtag = x := rfl
@[simp] theorem State.setJtag_img (x : Jtag) : (s.setJtag x).img = s.img := rfl
@[simp] theorem State.setJtag_links (x : Jtag) : (s.setJtag x).links = s.links := rfl
@[simp] theorem State.setJtag_twin (x : Jtag) : (s.setJtag x).twin = s.twin := rfl
@[simp] theorem State.setJtag_snoops (x : Jtag) : (s.setJtag x).snoops = s.snoops := rfl
@[simp] theorem State.setJtag_thermal (x : Jtag) : (s.setJtag x).thermal = s.thermal := rfl

/-! ## setImg -/

@[simp] theorem State.setImg_pending (x : Img) : (s.setImg x).pending = s.pending := rfl
@[simp] theorem State.setImg_emits (x : Img) : (s.setImg x).emits = s.emits := rfl
@[simp] theorem State.setImg_now (x : Img) : (s.setImg x).now = s.now := rfl
@[simp] theorem State.setImg_fresh (x : Img) : (s.setImg x).fresh = s.fresh := rfl
@[simp] theorem State.setImg_csr (x : Img) : (s.setImg x).csr = s.csr := rfl
@[simp] theorem State.setImg_captures (x : Img) : (s.setImg x).captures = s.captures := rfl
@[simp] theorem State.setImg_held (x : Img) : (s.setImg x).held = s.held := rfl
@[simp] theorem State.setImg_gbq (x : Img) : (s.setImg x).gbq = s.gbq := rfl
@[simp] theorem State.setImg_faces (x : Img) : (s.setImg x).faces = s.faces := rfl
@[simp] theorem State.setImg_slices (x : Img) : (s.setImg x).slices = s.slices := rfl
@[simp] theorem State.setImg_rams (x : Img) : (s.setImg x).rams = s.rams := rfl
@[simp] theorem State.setImg_cells (x : Img) : (s.setImg x).cells = s.cells := rfl
@[simp] theorem State.setImg_gates (x : Img) : (s.setImg x).gates = s.gates := rfl
@[simp] theorem State.setImg_ports (x : Img) : (s.setImg x).ports = s.ports := rfl
@[simp] theorem State.setImg_bram (x : Img) : (s.setImg x).bram = s.bram := rfl
@[simp] theorem State.setImg_bwin (x : Img) : (s.setImg x).bwin = s.bwin := rfl
@[simp] theorem State.setImg_pads (x : Img) : (s.setImg x).pads = s.pads := rfl
@[simp] theorem State.setImg_regions (x : Img) : (s.setImg x).regions = s.regions := rfl
@[simp] theorem State.setImg_planes (x : Img) : (s.setImg x).planes = s.planes := rfl
@[simp] theorem State.setImg_latches (x : Img) : (s.setImg x).latches = s.latches := rfl
@[simp] theorem State.setImg_imgPlanes (x : Img) : (s.setImg x).imgPlanes = s.imgPlanes := rfl
@[simp] theorem State.setImg_erasing (x : Img) : (s.setImg x).erasing = s.erasing := rfl
@[simp] theorem State.setImg_heldLoads (x : Img) : (s.setImg x).heldLoads = s.heldLoads := rfl
@[simp] theorem State.setImg_corrq (x : Img) : (s.setImg x).corrq = s.corrq := rfl
@[simp] theorem State.setImg_walkq (x : Img) : (s.setImg x).walkq = s.walkq := rfl
@[simp] theorem State.setImg_checks (x : Img) : (s.setImg x).checks = s.checks := rfl
@[simp] theorem State.setImg_passDone (x : Img) : (s.setImg x).passDone = s.passDone := rfl
@[simp] theorem State.setImg_heldVisits (x : Img) : (s.setImg x).heldVisits = s.heldVisits := rfl
@[simp] theorem State.setImg_stackLoaded (x : Img) : (s.setImg x).stackLoaded = s.stackLoaded := rfl
@[simp] theorem State.setImg_fuses (x : Img) : (s.setImg x).fuses = s.fuses := rfl
@[simp] theorem State.setImg_underTest (x : Img) : (s.setImg x).underTest = s.underTest := rfl
@[simp] theorem State.setImg_keptByTest (x : Img) : (s.setImg x).keptByTest = s.keptByTest := rfl
@[simp] theorem State.setImg_outst (x : Img) : (s.setImg x).outst = s.outst := rfl
@[simp] theorem State.setImg_unsent (x : Img) : (s.setImg x).unsent = s.unsent := rfl
@[simp] theorem State.setImg_clkStart (x : Img) : (s.setImg x).clkStart = s.clkStart := rfl
@[simp] theorem State.setImg_park (x : Img) : (s.setImg x).park = s.park := rfl
@[simp] theorem State.setImg_fillq (x : Img) : (s.setImg x).fillq = s.fillq := rfl
@[simp] theorem State.setImg_tickGen (x : Img) : (s.setImg x).tickGen = s.tickGen := rfl
@[simp] theorem State.setImg_threads (x : Img) : (s.setImg x).threads = s.threads := rfl
@[simp] theorem State.setImg_predictor (x : Img) : (s.setImg x).predictor = s.predictor := rfl
@[simp] theorem State.setImg_rpath (x : Img) : (s.setImg x).rpath = s.rpath := rfl
@[simp] theorem State.setImg_imemErr (x : Img) : (s.setImg x).imemErr = s.imemErr := rfl
@[simp] theorem State.setImg_trace (x : Img) : (s.setImg x).trace = s.trace := rfl
@[simp] theorem State.setImg_mirr (x : Img) : (s.setImg x).mirr = s.mirr := rfl
@[simp] theorem State.setImg_snapReq (x : Img) : (s.setImg x).snapReq = s.snapReq := rfl
@[simp] theorem State.setImg_gbars (x : Img) : (s.setImg x).gbars = s.gbars := rfl
@[simp] theorem State.setImg_doms (x : Img) : (s.setImg x).doms = s.doms := rfl
@[simp] theorem State.setImg_bufs (x : Img) : (s.setImg x).bufs = s.bufs := rfl
@[simp] theorem State.setImg_deliv (x : Img) : (s.setImg x).deliv = s.deliv := rfl
@[simp] theorem State.setImg_expiries (x : Img) : (s.setImg x).expiries = s.expiries := rfl
@[simp] theorem State.setImg_epoch (x : Img) : (s.setImg x).epoch = s.epoch := rfl
@[simp] theorem State.setImg_couriers (x : Img) : (s.setImg x).couriers = s.couriers := rfl
@[simp] theorem State.setImg_larder (x : Img) : (s.setImg x).larder = s.larder := rfl
@[simp] theorem State.setImg_spad (x : Img) : (s.setImg x).spad = s.spad := rfl
@[simp] theorem State.setImg_banks (x : Img) : (s.setImg x).banks = s.banks := rfl
@[simp] theorem State.setImg_trackers (x : Img) : (s.setImg x).trackers = s.trackers := rfl
@[simp] theorem State.setImg_spares (x : Img) : (s.setImg x).spares = s.spares := rfl
@[simp] theorem State.setImg_porters (x : Img) : (s.setImg x).porters = s.porters := rfl
@[simp] theorem State.setImg_sdram (x : Img) : (s.setImg x).sdram = s.sdram := rfl
@[simp] theorem State.setImg_jnl (x : Img) : (s.setImg x).jnl = s.jnl := rfl
@[simp] theorem State.setImg_desk (x : Img) : (s.setImg x).desk = s.desk := rfl
@[simp] theorem State.setImg_start (x : Img) : (s.setImg x).start = s.start := rfl
@[simp] theorem State.setImg_lcFuses (x : Img) : (s.setImg x).lcFuses = s.lcFuses := rfl
@[simp] theorem State.setImg_sec (x : Img) : (s.setImg x).sec = s.sec := rfl
@[simp] theorem State.setImg_engines (x : Img) : (s.setImg x).engines = s.engines := rfl
@[simp] theorem State.setImg_selfTest (x : Img) : (s.setImg x).selfTest = s.selfTest := rfl
@[simp] theorem State.setImg_jtag (x : Img) : (s.setImg x).jtag = s.jtag := rfl
@[simp] theorem State.setImg_img (x : Img) : (s.setImg x).img = x := rfl
@[simp] theorem State.setImg_links (x : Img) : (s.setImg x).links = s.links := rfl
@[simp] theorem State.setImg_twin (x : Img) : (s.setImg x).twin = s.twin := rfl
@[simp] theorem State.setImg_snoops (x : Img) : (s.setImg x).snoops = s.snoops := rfl
@[simp] theorem State.setImg_thermal (x : Img) : (s.setImg x).thermal = s.thermal := rfl

/-! ## setDesk -/

@[simp] theorem State.setDesk_pending (d : Desk) : (s.setDesk d).pending = s.pending := rfl
@[simp] theorem State.setDesk_emits (d : Desk) : (s.setDesk d).emits = s.emits := rfl
@[simp] theorem State.setDesk_now (d : Desk) : (s.setDesk d).now = s.now := rfl
@[simp] theorem State.setDesk_fresh (d : Desk) : (s.setDesk d).fresh = s.fresh := rfl
@[simp] theorem State.setDesk_csr (d : Desk) : (s.setDesk d).csr = s.csr := rfl
@[simp] theorem State.setDesk_captures (d : Desk) : (s.setDesk d).captures = s.captures := rfl
@[simp] theorem State.setDesk_held (d : Desk) : (s.setDesk d).held = s.held := rfl
@[simp] theorem State.setDesk_gbq (d : Desk) : (s.setDesk d).gbq = s.gbq := rfl
@[simp] theorem State.setDesk_faces (d : Desk) : (s.setDesk d).faces = s.faces := rfl
@[simp] theorem State.setDesk_slices (d : Desk) : (s.setDesk d).slices = s.slices := rfl
@[simp] theorem State.setDesk_rams (d : Desk) : (s.setDesk d).rams = s.rams := rfl
@[simp] theorem State.setDesk_cells (d : Desk) : (s.setDesk d).cells = s.cells := rfl
@[simp] theorem State.setDesk_gates (d : Desk) : (s.setDesk d).gates = s.gates := rfl
@[simp] theorem State.setDesk_ports (d : Desk) : (s.setDesk d).ports = s.ports := rfl
@[simp] theorem State.setDesk_bram (d : Desk) : (s.setDesk d).bram = s.bram := rfl
@[simp] theorem State.setDesk_bwin (d : Desk) : (s.setDesk d).bwin = s.bwin := rfl
@[simp] theorem State.setDesk_pads (d : Desk) : (s.setDesk d).pads = s.pads := rfl
@[simp] theorem State.setDesk_regions (d : Desk) : (s.setDesk d).regions = s.regions := rfl
@[simp] theorem State.setDesk_planes (d : Desk) : (s.setDesk d).planes = s.planes := rfl
@[simp] theorem State.setDesk_latches (d : Desk) : (s.setDesk d).latches = s.latches := rfl
@[simp] theorem State.setDesk_imgPlanes (d : Desk) : (s.setDesk d).imgPlanes = s.imgPlanes := rfl
@[simp] theorem State.setDesk_erasing (d : Desk) : (s.setDesk d).erasing = s.erasing := rfl
@[simp] theorem State.setDesk_heldLoads (d : Desk) : (s.setDesk d).heldLoads = s.heldLoads := rfl
@[simp] theorem State.setDesk_corrq (d : Desk) : (s.setDesk d).corrq = s.corrq := rfl
@[simp] theorem State.setDesk_walkq (d : Desk) : (s.setDesk d).walkq = s.walkq := rfl
@[simp] theorem State.setDesk_checks (d : Desk) : (s.setDesk d).checks = s.checks := rfl
@[simp] theorem State.setDesk_passDone (d : Desk) : (s.setDesk d).passDone = s.passDone := rfl
@[simp] theorem State.setDesk_heldVisits (d : Desk) : (s.setDesk d).heldVisits = s.heldVisits := rfl
@[simp] theorem State.setDesk_stackLoaded (d : Desk) : (s.setDesk d).stackLoaded = s.stackLoaded := rfl
@[simp] theorem State.setDesk_fuses (d : Desk) : (s.setDesk d).fuses = s.fuses := rfl
@[simp] theorem State.setDesk_underTest (d : Desk) : (s.setDesk d).underTest = s.underTest := rfl
@[simp] theorem State.setDesk_keptByTest (d : Desk) : (s.setDesk d).keptByTest = s.keptByTest := rfl
@[simp] theorem State.setDesk_outst (d : Desk) : (s.setDesk d).outst = s.outst := rfl
@[simp] theorem State.setDesk_unsent (d : Desk) : (s.setDesk d).unsent = s.unsent := rfl
@[simp] theorem State.setDesk_clkStart (d : Desk) : (s.setDesk d).clkStart = s.clkStart := rfl
@[simp] theorem State.setDesk_park (d : Desk) : (s.setDesk d).park = s.park := rfl
@[simp] theorem State.setDesk_fillq (d : Desk) : (s.setDesk d).fillq = s.fillq := rfl
@[simp] theorem State.setDesk_tickGen (d : Desk) : (s.setDesk d).tickGen = s.tickGen := rfl
@[simp] theorem State.setDesk_threads (d : Desk) : (s.setDesk d).threads = s.threads := rfl
@[simp] theorem State.setDesk_predictor (d : Desk) : (s.setDesk d).predictor = s.predictor := rfl
@[simp] theorem State.setDesk_rpath (d : Desk) : (s.setDesk d).rpath = s.rpath := rfl
@[simp] theorem State.setDesk_imemErr (d : Desk) : (s.setDesk d).imemErr = s.imemErr := rfl
@[simp] theorem State.setDesk_trace (d : Desk) : (s.setDesk d).trace = s.trace := rfl
@[simp] theorem State.setDesk_mirr (d : Desk) : (s.setDesk d).mirr = s.mirr := rfl
@[simp] theorem State.setDesk_snapReq (d : Desk) : (s.setDesk d).snapReq = s.snapReq := rfl
@[simp] theorem State.setDesk_gbars (d : Desk) : (s.setDesk d).gbars = s.gbars := rfl
@[simp] theorem State.setDesk_doms (d : Desk) : (s.setDesk d).doms = s.doms := rfl
@[simp] theorem State.setDesk_bufs (d : Desk) : (s.setDesk d).bufs = s.bufs := rfl
@[simp] theorem State.setDesk_deliv (d : Desk) : (s.setDesk d).deliv = s.deliv := rfl
@[simp] theorem State.setDesk_expiries (d : Desk) : (s.setDesk d).expiries = s.expiries := rfl
@[simp] theorem State.setDesk_epoch (d : Desk) : (s.setDesk d).epoch = s.epoch := rfl
@[simp] theorem State.setDesk_couriers (d : Desk) : (s.setDesk d).couriers = s.couriers := rfl
@[simp] theorem State.setDesk_larder (d : Desk) : (s.setDesk d).larder = s.larder := rfl
@[simp] theorem State.setDesk_spad (d : Desk) : (s.setDesk d).spad = s.spad := rfl
@[simp] theorem State.setDesk_banks (d : Desk) : (s.setDesk d).banks = s.banks := rfl
@[simp] theorem State.setDesk_trackers (d : Desk) : (s.setDesk d).trackers = s.trackers := rfl
@[simp] theorem State.setDesk_spares (d : Desk) : (s.setDesk d).spares = s.spares := rfl
@[simp] theorem State.setDesk_porters (d : Desk) : (s.setDesk d).porters = s.porters := rfl
@[simp] theorem State.setDesk_sdram (d : Desk) : (s.setDesk d).sdram = s.sdram := rfl
@[simp] theorem State.setDesk_jnl (d : Desk) : (s.setDesk d).jnl = s.jnl := rfl
@[simp] theorem State.setDesk_desk (d : Desk) : (s.setDesk d).desk = d := rfl
@[simp] theorem State.setDesk_start (d : Desk) : (s.setDesk d).start = s.start := rfl
@[simp] theorem State.setDesk_lcFuses (d : Desk) : (s.setDesk d).lcFuses = s.lcFuses := rfl
@[simp] theorem State.setDesk_sec (d : Desk) : (s.setDesk d).sec = s.sec := rfl
@[simp] theorem State.setDesk_engines (d : Desk) : (s.setDesk d).engines = s.engines := rfl
@[simp] theorem State.setDesk_selfTest (d : Desk) : (s.setDesk d).selfTest = s.selfTest := rfl
@[simp] theorem State.setDesk_jtag (d : Desk) : (s.setDesk d).jtag = s.jtag := rfl
@[simp] theorem State.setDesk_img (d : Desk) : (s.setDesk d).img = s.img := rfl
@[simp] theorem State.setDesk_links (d : Desk) : (s.setDesk d).links = s.links := rfl
@[simp] theorem State.setDesk_twin (d : Desk) : (s.setDesk d).twin = s.twin := rfl
@[simp] theorem State.setDesk_snoops (d : Desk) : (s.setDesk d).snoops = s.snoops := rfl
@[simp] theorem State.setDesk_thermal (d : Desk) : (s.setDesk d).thermal = s.thermal := rfl

/-! ## setLink -/

@[simp] theorem State.setLink_pending (g : Nat) (x : Link) : (s.setLink g x).pending = s.pending := rfl
@[simp] theorem State.setLink_emits (g : Nat) (x : Link) : (s.setLink g x).emits = s.emits := rfl
@[simp] theorem State.setLink_now (g : Nat) (x : Link) : (s.setLink g x).now = s.now := rfl
@[simp] theorem State.setLink_fresh (g : Nat) (x : Link) : (s.setLink g x).fresh = s.fresh := rfl
@[simp] theorem State.setLink_csr (g : Nat) (x : Link) : (s.setLink g x).csr = s.csr := rfl
@[simp] theorem State.setLink_captures (g : Nat) (x : Link) : (s.setLink g x).captures = s.captures := rfl
@[simp] theorem State.setLink_held (g : Nat) (x : Link) : (s.setLink g x).held = s.held := rfl
@[simp] theorem State.setLink_gbq (g : Nat) (x : Link) : (s.setLink g x).gbq = s.gbq := rfl
@[simp] theorem State.setLink_faces (g : Nat) (x : Link) : (s.setLink g x).faces = s.faces := rfl
@[simp] theorem State.setLink_slices (g : Nat) (x : Link) : (s.setLink g x).slices = s.slices := rfl
@[simp] theorem State.setLink_rams (g : Nat) (x : Link) : (s.setLink g x).rams = s.rams := rfl
@[simp] theorem State.setLink_cells (g : Nat) (x : Link) : (s.setLink g x).cells = s.cells := rfl
@[simp] theorem State.setLink_gates (g : Nat) (x : Link) : (s.setLink g x).gates = s.gates := rfl
@[simp] theorem State.setLink_ports (g : Nat) (x : Link) : (s.setLink g x).ports = s.ports := rfl
@[simp] theorem State.setLink_bram (g : Nat) (x : Link) : (s.setLink g x).bram = s.bram := rfl
@[simp] theorem State.setLink_bwin (g : Nat) (x : Link) : (s.setLink g x).bwin = s.bwin := rfl
@[simp] theorem State.setLink_pads (g : Nat) (x : Link) : (s.setLink g x).pads = s.pads := rfl
@[simp] theorem State.setLink_regions (g : Nat) (x : Link) : (s.setLink g x).regions = s.regions := rfl
@[simp] theorem State.setLink_planes (g : Nat) (x : Link) : (s.setLink g x).planes = s.planes := rfl
@[simp] theorem State.setLink_latches (g : Nat) (x : Link) : (s.setLink g x).latches = s.latches := rfl
@[simp] theorem State.setLink_imgPlanes (g : Nat) (x : Link) : (s.setLink g x).imgPlanes = s.imgPlanes := rfl
@[simp] theorem State.setLink_erasing (g : Nat) (x : Link) : (s.setLink g x).erasing = s.erasing := rfl
@[simp] theorem State.setLink_heldLoads (g : Nat) (x : Link) : (s.setLink g x).heldLoads = s.heldLoads := rfl
@[simp] theorem State.setLink_corrq (g : Nat) (x : Link) : (s.setLink g x).corrq = s.corrq := rfl
@[simp] theorem State.setLink_walkq (g : Nat) (x : Link) : (s.setLink g x).walkq = s.walkq := rfl
@[simp] theorem State.setLink_checks (g : Nat) (x : Link) : (s.setLink g x).checks = s.checks := rfl
@[simp] theorem State.setLink_passDone (g : Nat) (x : Link) : (s.setLink g x).passDone = s.passDone := rfl
@[simp] theorem State.setLink_heldVisits (g : Nat) (x : Link) : (s.setLink g x).heldVisits = s.heldVisits := rfl
@[simp] theorem State.setLink_stackLoaded (g : Nat) (x : Link) : (s.setLink g x).stackLoaded = s.stackLoaded := rfl
@[simp] theorem State.setLink_fuses (g : Nat) (x : Link) : (s.setLink g x).fuses = s.fuses := rfl
@[simp] theorem State.setLink_underTest (g : Nat) (x : Link) : (s.setLink g x).underTest = s.underTest := rfl
@[simp] theorem State.setLink_keptByTest (g : Nat) (x : Link) : (s.setLink g x).keptByTest = s.keptByTest := rfl
@[simp] theorem State.setLink_outst (g : Nat) (x : Link) : (s.setLink g x).outst = s.outst := rfl
@[simp] theorem State.setLink_unsent (g : Nat) (x : Link) : (s.setLink g x).unsent = s.unsent := rfl
@[simp] theorem State.setLink_clkStart (g : Nat) (x : Link) : (s.setLink g x).clkStart = s.clkStart := rfl
@[simp] theorem State.setLink_park (g : Nat) (x : Link) : (s.setLink g x).park = s.park := rfl
@[simp] theorem State.setLink_fillq (g : Nat) (x : Link) : (s.setLink g x).fillq = s.fillq := rfl
@[simp] theorem State.setLink_tickGen (g : Nat) (x : Link) : (s.setLink g x).tickGen = s.tickGen := rfl
@[simp] theorem State.setLink_threads (g : Nat) (x : Link) : (s.setLink g x).threads = s.threads := rfl
@[simp] theorem State.setLink_predictor (g : Nat) (x : Link) : (s.setLink g x).predictor = s.predictor := rfl
@[simp] theorem State.setLink_rpath (g : Nat) (x : Link) : (s.setLink g x).rpath = s.rpath := rfl
@[simp] theorem State.setLink_imemErr (g : Nat) (x : Link) : (s.setLink g x).imemErr = s.imemErr := rfl
@[simp] theorem State.setLink_trace (g : Nat) (x : Link) : (s.setLink g x).trace = s.trace := rfl
@[simp] theorem State.setLink_mirr (g : Nat) (x : Link) : (s.setLink g x).mirr = s.mirr := rfl
@[simp] theorem State.setLink_snapReq (g : Nat) (x : Link) : (s.setLink g x).snapReq = s.snapReq := rfl
@[simp] theorem State.setLink_gbars (g : Nat) (x : Link) : (s.setLink g x).gbars = s.gbars := rfl
@[simp] theorem State.setLink_doms (g : Nat) (x : Link) : (s.setLink g x).doms = s.doms := rfl
@[simp] theorem State.setLink_bufs (g : Nat) (x : Link) : (s.setLink g x).bufs = s.bufs := rfl
@[simp] theorem State.setLink_deliv (g : Nat) (x : Link) : (s.setLink g x).deliv = s.deliv := rfl
@[simp] theorem State.setLink_expiries (g : Nat) (x : Link) : (s.setLink g x).expiries = s.expiries := rfl
@[simp] theorem State.setLink_epoch (g : Nat) (x : Link) : (s.setLink g x).epoch = s.epoch := rfl
@[simp] theorem State.setLink_couriers (g : Nat) (x : Link) : (s.setLink g x).couriers = s.couriers := rfl
@[simp] theorem State.setLink_larder (g : Nat) (x : Link) : (s.setLink g x).larder = s.larder := rfl
@[simp] theorem State.setLink_spad (g : Nat) (x : Link) : (s.setLink g x).spad = s.spad := rfl
@[simp] theorem State.setLink_banks (g : Nat) (x : Link) : (s.setLink g x).banks = s.banks := rfl
@[simp] theorem State.setLink_trackers (g : Nat) (x : Link) : (s.setLink g x).trackers = s.trackers := rfl
@[simp] theorem State.setLink_spares (g : Nat) (x : Link) : (s.setLink g x).spares = s.spares := rfl
@[simp] theorem State.setLink_porters (g : Nat) (x : Link) : (s.setLink g x).porters = s.porters := rfl
@[simp] theorem State.setLink_sdram (g : Nat) (x : Link) : (s.setLink g x).sdram = s.sdram := rfl
@[simp] theorem State.setLink_jnl (g : Nat) (x : Link) : (s.setLink g x).jnl = s.jnl := rfl
@[simp] theorem State.setLink_desk (g : Nat) (x : Link) : (s.setLink g x).desk = s.desk := rfl
@[simp] theorem State.setLink_start (g : Nat) (x : Link) : (s.setLink g x).start = s.start := rfl
@[simp] theorem State.setLink_lcFuses (g : Nat) (x : Link) : (s.setLink g x).lcFuses = s.lcFuses := rfl
@[simp] theorem State.setLink_sec (g : Nat) (x : Link) : (s.setLink g x).sec = s.sec := rfl
@[simp] theorem State.setLink_engines (g : Nat) (x : Link) : (s.setLink g x).engines = s.engines := rfl
@[simp] theorem State.setLink_selfTest (g : Nat) (x : Link) : (s.setLink g x).selfTest = s.selfTest := rfl
@[simp] theorem State.setLink_jtag (g : Nat) (x : Link) : (s.setLink g x).jtag = s.jtag := rfl
@[simp] theorem State.setLink_img (g : Nat) (x : Link) : (s.setLink g x).img = s.img := rfl
@[simp] theorem State.setLink_links (g : Nat) (x : Link) : (s.setLink g x).links = storeSet {} g x s.links := rfl
@[simp] theorem State.setLink_twin (g : Nat) (x : Link) : (s.setLink g x).twin = s.twin := rfl
@[simp] theorem State.setLink_snoops (g : Nat) (x : Link) : (s.setLink g x).snoops = s.snoops := rfl
@[simp] theorem State.setLink_thermal (g : Nat) (x : Link) : (s.setLink g x).thermal = s.thermal := rfl

/-! ## setBuf -/

@[simp] theorem State.setBuf_pending (k : Nat) (x : NetBuf) : (s.setBuf k x).pending = s.pending := rfl
@[simp] theorem State.setBuf_emits (k : Nat) (x : NetBuf) : (s.setBuf k x).emits = s.emits := rfl
@[simp] theorem State.setBuf_now (k : Nat) (x : NetBuf) : (s.setBuf k x).now = s.now := rfl
@[simp] theorem State.setBuf_fresh (k : Nat) (x : NetBuf) : (s.setBuf k x).fresh = s.fresh := rfl
@[simp] theorem State.setBuf_csr (k : Nat) (x : NetBuf) : (s.setBuf k x).csr = s.csr := rfl
@[simp] theorem State.setBuf_captures (k : Nat) (x : NetBuf) : (s.setBuf k x).captures = s.captures := rfl
@[simp] theorem State.setBuf_held (k : Nat) (x : NetBuf) : (s.setBuf k x).held = s.held := rfl
@[simp] theorem State.setBuf_gbq (k : Nat) (x : NetBuf) : (s.setBuf k x).gbq = s.gbq := rfl
@[simp] theorem State.setBuf_faces (k : Nat) (x : NetBuf) : (s.setBuf k x).faces = s.faces := rfl
@[simp] theorem State.setBuf_slices (k : Nat) (x : NetBuf) : (s.setBuf k x).slices = s.slices := rfl
@[simp] theorem State.setBuf_rams (k : Nat) (x : NetBuf) : (s.setBuf k x).rams = s.rams := rfl
@[simp] theorem State.setBuf_cells (k : Nat) (x : NetBuf) : (s.setBuf k x).cells = s.cells := rfl
@[simp] theorem State.setBuf_gates (k : Nat) (x : NetBuf) : (s.setBuf k x).gates = s.gates := rfl
@[simp] theorem State.setBuf_ports (k : Nat) (x : NetBuf) : (s.setBuf k x).ports = s.ports := rfl
@[simp] theorem State.setBuf_bram (k : Nat) (x : NetBuf) : (s.setBuf k x).bram = s.bram := rfl
@[simp] theorem State.setBuf_bwin (k : Nat) (x : NetBuf) : (s.setBuf k x).bwin = s.bwin := rfl
@[simp] theorem State.setBuf_pads (k : Nat) (x : NetBuf) : (s.setBuf k x).pads = s.pads := rfl
@[simp] theorem State.setBuf_regions (k : Nat) (x : NetBuf) : (s.setBuf k x).regions = s.regions := rfl
@[simp] theorem State.setBuf_planes (k : Nat) (x : NetBuf) : (s.setBuf k x).planes = s.planes := rfl
@[simp] theorem State.setBuf_latches (k : Nat) (x : NetBuf) : (s.setBuf k x).latches = s.latches := rfl
@[simp] theorem State.setBuf_imgPlanes (k : Nat) (x : NetBuf) : (s.setBuf k x).imgPlanes = s.imgPlanes := rfl
@[simp] theorem State.setBuf_erasing (k : Nat) (x : NetBuf) : (s.setBuf k x).erasing = s.erasing := rfl
@[simp] theorem State.setBuf_heldLoads (k : Nat) (x : NetBuf) : (s.setBuf k x).heldLoads = s.heldLoads := rfl
@[simp] theorem State.setBuf_corrq (k : Nat) (x : NetBuf) : (s.setBuf k x).corrq = s.corrq := rfl
@[simp] theorem State.setBuf_walkq (k : Nat) (x : NetBuf) : (s.setBuf k x).walkq = s.walkq := rfl
@[simp] theorem State.setBuf_checks (k : Nat) (x : NetBuf) : (s.setBuf k x).checks = s.checks := rfl
@[simp] theorem State.setBuf_passDone (k : Nat) (x : NetBuf) : (s.setBuf k x).passDone = s.passDone := rfl
@[simp] theorem State.setBuf_heldVisits (k : Nat) (x : NetBuf) : (s.setBuf k x).heldVisits = s.heldVisits := rfl
@[simp] theorem State.setBuf_stackLoaded (k : Nat) (x : NetBuf) : (s.setBuf k x).stackLoaded = s.stackLoaded := rfl
@[simp] theorem State.setBuf_fuses (k : Nat) (x : NetBuf) : (s.setBuf k x).fuses = s.fuses := rfl
@[simp] theorem State.setBuf_underTest (k : Nat) (x : NetBuf) : (s.setBuf k x).underTest = s.underTest := rfl
@[simp] theorem State.setBuf_keptByTest (k : Nat) (x : NetBuf) : (s.setBuf k x).keptByTest = s.keptByTest := rfl
@[simp] theorem State.setBuf_outst (k : Nat) (x : NetBuf) : (s.setBuf k x).outst = s.outst := rfl
@[simp] theorem State.setBuf_unsent (k : Nat) (x : NetBuf) : (s.setBuf k x).unsent = s.unsent := rfl
@[simp] theorem State.setBuf_clkStart (k : Nat) (x : NetBuf) : (s.setBuf k x).clkStart = s.clkStart := rfl
@[simp] theorem State.setBuf_park (k : Nat) (x : NetBuf) : (s.setBuf k x).park = s.park := rfl
@[simp] theorem State.setBuf_fillq (k : Nat) (x : NetBuf) : (s.setBuf k x).fillq = s.fillq := rfl
@[simp] theorem State.setBuf_tickGen (k : Nat) (x : NetBuf) : (s.setBuf k x).tickGen = s.tickGen := rfl
@[simp] theorem State.setBuf_threads (k : Nat) (x : NetBuf) : (s.setBuf k x).threads = s.threads := rfl
@[simp] theorem State.setBuf_predictor (k : Nat) (x : NetBuf) : (s.setBuf k x).predictor = s.predictor := rfl
@[simp] theorem State.setBuf_rpath (k : Nat) (x : NetBuf) : (s.setBuf k x).rpath = s.rpath := rfl
@[simp] theorem State.setBuf_imemErr (k : Nat) (x : NetBuf) : (s.setBuf k x).imemErr = s.imemErr := rfl
@[simp] theorem State.setBuf_trace (k : Nat) (x : NetBuf) : (s.setBuf k x).trace = s.trace := rfl
@[simp] theorem State.setBuf_mirr (k : Nat) (x : NetBuf) : (s.setBuf k x).mirr = s.mirr := rfl
@[simp] theorem State.setBuf_snapReq (k : Nat) (x : NetBuf) : (s.setBuf k x).snapReq = s.snapReq := rfl
@[simp] theorem State.setBuf_gbars (k : Nat) (x : NetBuf) : (s.setBuf k x).gbars = s.gbars := rfl
@[simp] theorem State.setBuf_doms (k : Nat) (x : NetBuf) : (s.setBuf k x).doms = s.doms := rfl
@[simp] theorem State.setBuf_bufs (k : Nat) (x : NetBuf) : (s.setBuf k x).bufs = storeSet {} k x s.bufs := rfl
@[simp] theorem State.setBuf_deliv (k : Nat) (x : NetBuf) : (s.setBuf k x).deliv = s.deliv := rfl
@[simp] theorem State.setBuf_expiries (k : Nat) (x : NetBuf) : (s.setBuf k x).expiries = s.expiries := rfl
@[simp] theorem State.setBuf_epoch (k : Nat) (x : NetBuf) : (s.setBuf k x).epoch = s.epoch := rfl
@[simp] theorem State.setBuf_couriers (k : Nat) (x : NetBuf) : (s.setBuf k x).couriers = s.couriers := rfl
@[simp] theorem State.setBuf_larder (k : Nat) (x : NetBuf) : (s.setBuf k x).larder = s.larder := rfl
@[simp] theorem State.setBuf_spad (k : Nat) (x : NetBuf) : (s.setBuf k x).spad = s.spad := rfl
@[simp] theorem State.setBuf_banks (k : Nat) (x : NetBuf) : (s.setBuf k x).banks = s.banks := rfl
@[simp] theorem State.setBuf_trackers (k : Nat) (x : NetBuf) : (s.setBuf k x).trackers = s.trackers := rfl
@[simp] theorem State.setBuf_spares (k : Nat) (x : NetBuf) : (s.setBuf k x).spares = s.spares := rfl
@[simp] theorem State.setBuf_porters (k : Nat) (x : NetBuf) : (s.setBuf k x).porters = s.porters := rfl
@[simp] theorem State.setBuf_sdram (k : Nat) (x : NetBuf) : (s.setBuf k x).sdram = s.sdram := rfl
@[simp] theorem State.setBuf_jnl (k : Nat) (x : NetBuf) : (s.setBuf k x).jnl = s.jnl := rfl
@[simp] theorem State.setBuf_desk (k : Nat) (x : NetBuf) : (s.setBuf k x).desk = s.desk := rfl
@[simp] theorem State.setBuf_start (k : Nat) (x : NetBuf) : (s.setBuf k x).start = s.start := rfl
@[simp] theorem State.setBuf_lcFuses (k : Nat) (x : NetBuf) : (s.setBuf k x).lcFuses = s.lcFuses := rfl
@[simp] theorem State.setBuf_sec (k : Nat) (x : NetBuf) : (s.setBuf k x).sec = s.sec := rfl
@[simp] theorem State.setBuf_engines (k : Nat) (x : NetBuf) : (s.setBuf k x).engines = s.engines := rfl
@[simp] theorem State.setBuf_selfTest (k : Nat) (x : NetBuf) : (s.setBuf k x).selfTest = s.selfTest := rfl
@[simp] theorem State.setBuf_jtag (k : Nat) (x : NetBuf) : (s.setBuf k x).jtag = s.jtag := rfl
@[simp] theorem State.setBuf_img (k : Nat) (x : NetBuf) : (s.setBuf k x).img = s.img := rfl
@[simp] theorem State.setBuf_links (k : Nat) (x : NetBuf) : (s.setBuf k x).links = s.links := rfl
@[simp] theorem State.setBuf_twin (k : Nat) (x : NetBuf) : (s.setBuf k x).twin = s.twin := rfl
@[simp] theorem State.setBuf_snoops (k : Nat) (x : NetBuf) : (s.setBuf k x).snoops = s.snoops := rfl
@[simp] theorem State.setBuf_thermal (k : Nat) (x : NetBuf) : (s.setBuf k x).thermal = s.thermal := rfl

/-! ## setBank -/

@[simp] theorem State.setBank_pending (b : Nat) (x : Bank) : (s.setBank b x).pending = s.pending := rfl
@[simp] theorem State.setBank_emits (b : Nat) (x : Bank) : (s.setBank b x).emits = s.emits := rfl
@[simp] theorem State.setBank_now (b : Nat) (x : Bank) : (s.setBank b x).now = s.now := rfl
@[simp] theorem State.setBank_fresh (b : Nat) (x : Bank) : (s.setBank b x).fresh = s.fresh := rfl
@[simp] theorem State.setBank_csr (b : Nat) (x : Bank) : (s.setBank b x).csr = s.csr := rfl
@[simp] theorem State.setBank_captures (b : Nat) (x : Bank) : (s.setBank b x).captures = s.captures := rfl
@[simp] theorem State.setBank_held (b : Nat) (x : Bank) : (s.setBank b x).held = s.held := rfl
@[simp] theorem State.setBank_gbq (b : Nat) (x : Bank) : (s.setBank b x).gbq = s.gbq := rfl
@[simp] theorem State.setBank_faces (b : Nat) (x : Bank) : (s.setBank b x).faces = s.faces := rfl
@[simp] theorem State.setBank_slices (b : Nat) (x : Bank) : (s.setBank b x).slices = s.slices := rfl
@[simp] theorem State.setBank_rams (b : Nat) (x : Bank) : (s.setBank b x).rams = s.rams := rfl
@[simp] theorem State.setBank_cells (b : Nat) (x : Bank) : (s.setBank b x).cells = s.cells := rfl
@[simp] theorem State.setBank_gates (b : Nat) (x : Bank) : (s.setBank b x).gates = s.gates := rfl
@[simp] theorem State.setBank_ports (b : Nat) (x : Bank) : (s.setBank b x).ports = s.ports := rfl
@[simp] theorem State.setBank_bram (b : Nat) (x : Bank) : (s.setBank b x).bram = s.bram := rfl
@[simp] theorem State.setBank_bwin (b : Nat) (x : Bank) : (s.setBank b x).bwin = s.bwin := rfl
@[simp] theorem State.setBank_pads (b : Nat) (x : Bank) : (s.setBank b x).pads = s.pads := rfl
@[simp] theorem State.setBank_regions (b : Nat) (x : Bank) : (s.setBank b x).regions = s.regions := rfl
@[simp] theorem State.setBank_planes (b : Nat) (x : Bank) : (s.setBank b x).planes = s.planes := rfl
@[simp] theorem State.setBank_latches (b : Nat) (x : Bank) : (s.setBank b x).latches = s.latches := rfl
@[simp] theorem State.setBank_imgPlanes (b : Nat) (x : Bank) : (s.setBank b x).imgPlanes = s.imgPlanes := rfl
@[simp] theorem State.setBank_erasing (b : Nat) (x : Bank) : (s.setBank b x).erasing = s.erasing := rfl
@[simp] theorem State.setBank_heldLoads (b : Nat) (x : Bank) : (s.setBank b x).heldLoads = s.heldLoads := rfl
@[simp] theorem State.setBank_corrq (b : Nat) (x : Bank) : (s.setBank b x).corrq = s.corrq := rfl
@[simp] theorem State.setBank_walkq (b : Nat) (x : Bank) : (s.setBank b x).walkq = s.walkq := rfl
@[simp] theorem State.setBank_checks (b : Nat) (x : Bank) : (s.setBank b x).checks = s.checks := rfl
@[simp] theorem State.setBank_passDone (b : Nat) (x : Bank) : (s.setBank b x).passDone = s.passDone := rfl
@[simp] theorem State.setBank_heldVisits (b : Nat) (x : Bank) : (s.setBank b x).heldVisits = s.heldVisits := rfl
@[simp] theorem State.setBank_stackLoaded (b : Nat) (x : Bank) : (s.setBank b x).stackLoaded = s.stackLoaded := rfl
@[simp] theorem State.setBank_fuses (b : Nat) (x : Bank) : (s.setBank b x).fuses = s.fuses := rfl
@[simp] theorem State.setBank_underTest (b : Nat) (x : Bank) : (s.setBank b x).underTest = s.underTest := rfl
@[simp] theorem State.setBank_keptByTest (b : Nat) (x : Bank) : (s.setBank b x).keptByTest = s.keptByTest := rfl
@[simp] theorem State.setBank_outst (b : Nat) (x : Bank) : (s.setBank b x).outst = s.outst := rfl
@[simp] theorem State.setBank_unsent (b : Nat) (x : Bank) : (s.setBank b x).unsent = s.unsent := rfl
@[simp] theorem State.setBank_clkStart (b : Nat) (x : Bank) : (s.setBank b x).clkStart = s.clkStart := rfl
@[simp] theorem State.setBank_park (b : Nat) (x : Bank) : (s.setBank b x).park = s.park := rfl
@[simp] theorem State.setBank_fillq (b : Nat) (x : Bank) : (s.setBank b x).fillq = s.fillq := rfl
@[simp] theorem State.setBank_tickGen (b : Nat) (x : Bank) : (s.setBank b x).tickGen = s.tickGen := rfl
@[simp] theorem State.setBank_threads (b : Nat) (x : Bank) : (s.setBank b x).threads = s.threads := rfl
@[simp] theorem State.setBank_predictor (b : Nat) (x : Bank) : (s.setBank b x).predictor = s.predictor := rfl
@[simp] theorem State.setBank_rpath (b : Nat) (x : Bank) : (s.setBank b x).rpath = s.rpath := rfl
@[simp] theorem State.setBank_imemErr (b : Nat) (x : Bank) : (s.setBank b x).imemErr = s.imemErr := rfl
@[simp] theorem State.setBank_trace (b : Nat) (x : Bank) : (s.setBank b x).trace = s.trace := rfl
@[simp] theorem State.setBank_mirr (b : Nat) (x : Bank) : (s.setBank b x).mirr = s.mirr := rfl
@[simp] theorem State.setBank_snapReq (b : Nat) (x : Bank) : (s.setBank b x).snapReq = s.snapReq := rfl
@[simp] theorem State.setBank_gbars (b : Nat) (x : Bank) : (s.setBank b x).gbars = s.gbars := rfl
@[simp] theorem State.setBank_doms (b : Nat) (x : Bank) : (s.setBank b x).doms = s.doms := rfl
@[simp] theorem State.setBank_bufs (b : Nat) (x : Bank) : (s.setBank b x).bufs = s.bufs := rfl
@[simp] theorem State.setBank_deliv (b : Nat) (x : Bank) : (s.setBank b x).deliv = s.deliv := rfl
@[simp] theorem State.setBank_expiries (b : Nat) (x : Bank) : (s.setBank b x).expiries = s.expiries := rfl
@[simp] theorem State.setBank_epoch (b : Nat) (x : Bank) : (s.setBank b x).epoch = s.epoch := rfl
@[simp] theorem State.setBank_couriers (b : Nat) (x : Bank) : (s.setBank b x).couriers = s.couriers := rfl
@[simp] theorem State.setBank_larder (b : Nat) (x : Bank) : (s.setBank b x).larder = s.larder := rfl
@[simp] theorem State.setBank_spad (b : Nat) (x : Bank) : (s.setBank b x).spad = s.spad := rfl
@[simp] theorem State.setBank_banks (b : Nat) (x : Bank) : (s.setBank b x).banks = storeSet {} b x s.banks := rfl
@[simp] theorem State.setBank_trackers (b : Nat) (x : Bank) : (s.setBank b x).trackers = s.trackers := rfl
@[simp] theorem State.setBank_spares (b : Nat) (x : Bank) : (s.setBank b x).spares = s.spares := rfl
@[simp] theorem State.setBank_porters (b : Nat) (x : Bank) : (s.setBank b x).porters = s.porters := rfl
@[simp] theorem State.setBank_sdram (b : Nat) (x : Bank) : (s.setBank b x).sdram = s.sdram := rfl
@[simp] theorem State.setBank_jnl (b : Nat) (x : Bank) : (s.setBank b x).jnl = s.jnl := rfl
@[simp] theorem State.setBank_desk (b : Nat) (x : Bank) : (s.setBank b x).desk = s.desk := rfl
@[simp] theorem State.setBank_start (b : Nat) (x : Bank) : (s.setBank b x).start = s.start := rfl
@[simp] theorem State.setBank_lcFuses (b : Nat) (x : Bank) : (s.setBank b x).lcFuses = s.lcFuses := rfl
@[simp] theorem State.setBank_sec (b : Nat) (x : Bank) : (s.setBank b x).sec = s.sec := rfl
@[simp] theorem State.setBank_engines (b : Nat) (x : Bank) : (s.setBank b x).engines = s.engines := rfl
@[simp] theorem State.setBank_selfTest (b : Nat) (x : Bank) : (s.setBank b x).selfTest = s.selfTest := rfl
@[simp] theorem State.setBank_jtag (b : Nat) (x : Bank) : (s.setBank b x).jtag = s.jtag := rfl
@[simp] theorem State.setBank_img (b : Nat) (x : Bank) : (s.setBank b x).img = s.img := rfl
@[simp] theorem State.setBank_links (b : Nat) (x : Bank) : (s.setBank b x).links = s.links := rfl
@[simp] theorem State.setBank_twin (b : Nat) (x : Bank) : (s.setBank b x).twin = s.twin := rfl
@[simp] theorem State.setBank_snoops (b : Nat) (x : Bank) : (s.setBank b x).snoops = s.snoops := rfl
@[simp] theorem State.setBank_thermal (b : Nat) (x : Bank) : (s.setBank b x).thermal = s.thermal := rfl

/-! ## setThermal -/

@[simp] theorem State.setThermal_pending (t : Thermal) : (s.setThermal t).pending = s.pending := rfl
@[simp] theorem State.setThermal_emits (t : Thermal) : (s.setThermal t).emits = s.emits := rfl
@[simp] theorem State.setThermal_now (t : Thermal) : (s.setThermal t).now = s.now := rfl
@[simp] theorem State.setThermal_fresh (t : Thermal) : (s.setThermal t).fresh = s.fresh := rfl
@[simp] theorem State.setThermal_csr (t : Thermal) : (s.setThermal t).csr = s.csr := rfl
@[simp] theorem State.setThermal_captures (t : Thermal) : (s.setThermal t).captures = s.captures := rfl
@[simp] theorem State.setThermal_held (t : Thermal) : (s.setThermal t).held = s.held := rfl
@[simp] theorem State.setThermal_gbq (t : Thermal) : (s.setThermal t).gbq = s.gbq := rfl
@[simp] theorem State.setThermal_faces (t : Thermal) : (s.setThermal t).faces = s.faces := rfl
@[simp] theorem State.setThermal_slices (t : Thermal) : (s.setThermal t).slices = s.slices := rfl
@[simp] theorem State.setThermal_rams (t : Thermal) : (s.setThermal t).rams = s.rams := rfl
@[simp] theorem State.setThermal_cells (t : Thermal) : (s.setThermal t).cells = s.cells := rfl
@[simp] theorem State.setThermal_gates (t : Thermal) : (s.setThermal t).gates = s.gates := rfl
@[simp] theorem State.setThermal_ports (t : Thermal) : (s.setThermal t).ports = s.ports := rfl
@[simp] theorem State.setThermal_bram (t : Thermal) : (s.setThermal t).bram = s.bram := rfl
@[simp] theorem State.setThermal_bwin (t : Thermal) : (s.setThermal t).bwin = s.bwin := rfl
@[simp] theorem State.setThermal_pads (t : Thermal) : (s.setThermal t).pads = s.pads := rfl
@[simp] theorem State.setThermal_regions (t : Thermal) : (s.setThermal t).regions = s.regions := rfl
@[simp] theorem State.setThermal_planes (t : Thermal) : (s.setThermal t).planes = s.planes := rfl
@[simp] theorem State.setThermal_latches (t : Thermal) : (s.setThermal t).latches = s.latches := rfl
@[simp] theorem State.setThermal_imgPlanes (t : Thermal) : (s.setThermal t).imgPlanes = s.imgPlanes := rfl
@[simp] theorem State.setThermal_erasing (t : Thermal) : (s.setThermal t).erasing = s.erasing := rfl
@[simp] theorem State.setThermal_heldLoads (t : Thermal) : (s.setThermal t).heldLoads = s.heldLoads := rfl
@[simp] theorem State.setThermal_corrq (t : Thermal) : (s.setThermal t).corrq = s.corrq := rfl
@[simp] theorem State.setThermal_walkq (t : Thermal) : (s.setThermal t).walkq = s.walkq := rfl
@[simp] theorem State.setThermal_checks (t : Thermal) : (s.setThermal t).checks = s.checks := rfl
@[simp] theorem State.setThermal_passDone (t : Thermal) : (s.setThermal t).passDone = s.passDone := rfl
@[simp] theorem State.setThermal_heldVisits (t : Thermal) : (s.setThermal t).heldVisits = s.heldVisits := rfl
@[simp] theorem State.setThermal_stackLoaded (t : Thermal) : (s.setThermal t).stackLoaded = s.stackLoaded := rfl
@[simp] theorem State.setThermal_fuses (t : Thermal) : (s.setThermal t).fuses = s.fuses := rfl
@[simp] theorem State.setThermal_underTest (t : Thermal) : (s.setThermal t).underTest = s.underTest := rfl
@[simp] theorem State.setThermal_keptByTest (t : Thermal) : (s.setThermal t).keptByTest = s.keptByTest := rfl
@[simp] theorem State.setThermal_outst (t : Thermal) : (s.setThermal t).outst = s.outst := rfl
@[simp] theorem State.setThermal_unsent (t : Thermal) : (s.setThermal t).unsent = s.unsent := rfl
@[simp] theorem State.setThermal_clkStart (t : Thermal) : (s.setThermal t).clkStart = s.clkStart := rfl
@[simp] theorem State.setThermal_park (t : Thermal) : (s.setThermal t).park = s.park := rfl
@[simp] theorem State.setThermal_fillq (t : Thermal) : (s.setThermal t).fillq = s.fillq := rfl
@[simp] theorem State.setThermal_tickGen (t : Thermal) : (s.setThermal t).tickGen = s.tickGen := rfl
@[simp] theorem State.setThermal_threads (t : Thermal) : (s.setThermal t).threads = s.threads := rfl
@[simp] theorem State.setThermal_predictor (t : Thermal) : (s.setThermal t).predictor = s.predictor := rfl
@[simp] theorem State.setThermal_rpath (t : Thermal) : (s.setThermal t).rpath = s.rpath := rfl
@[simp] theorem State.setThermal_imemErr (t : Thermal) : (s.setThermal t).imemErr = s.imemErr := rfl
@[simp] theorem State.setThermal_trace (t : Thermal) : (s.setThermal t).trace = s.trace := rfl
@[simp] theorem State.setThermal_mirr (t : Thermal) : (s.setThermal t).mirr = s.mirr := rfl
@[simp] theorem State.setThermal_snapReq (t : Thermal) : (s.setThermal t).snapReq = s.snapReq := rfl
@[simp] theorem State.setThermal_gbars (t : Thermal) : (s.setThermal t).gbars = s.gbars := rfl
@[simp] theorem State.setThermal_doms (t : Thermal) : (s.setThermal t).doms = s.doms := rfl
@[simp] theorem State.setThermal_bufs (t : Thermal) : (s.setThermal t).bufs = s.bufs := rfl
@[simp] theorem State.setThermal_deliv (t : Thermal) : (s.setThermal t).deliv = s.deliv := rfl
@[simp] theorem State.setThermal_expiries (t : Thermal) : (s.setThermal t).expiries = s.expiries := rfl
@[simp] theorem State.setThermal_epoch (t : Thermal) : (s.setThermal t).epoch = s.epoch := rfl
@[simp] theorem State.setThermal_couriers (t : Thermal) : (s.setThermal t).couriers = s.couriers := rfl
@[simp] theorem State.setThermal_larder (t : Thermal) : (s.setThermal t).larder = s.larder := rfl
@[simp] theorem State.setThermal_spad (t : Thermal) : (s.setThermal t).spad = s.spad := rfl
@[simp] theorem State.setThermal_banks (t : Thermal) : (s.setThermal t).banks = s.banks := rfl
@[simp] theorem State.setThermal_trackers (t : Thermal) : (s.setThermal t).trackers = s.trackers := rfl
@[simp] theorem State.setThermal_spares (t : Thermal) : (s.setThermal t).spares = s.spares := rfl
@[simp] theorem State.setThermal_porters (t : Thermal) : (s.setThermal t).porters = s.porters := rfl
@[simp] theorem State.setThermal_sdram (t : Thermal) : (s.setThermal t).sdram = s.sdram := rfl
@[simp] theorem State.setThermal_jnl (t : Thermal) : (s.setThermal t).jnl = s.jnl := rfl
@[simp] theorem State.setThermal_desk (t : Thermal) : (s.setThermal t).desk = s.desk := rfl
@[simp] theorem State.setThermal_start (t : Thermal) : (s.setThermal t).start = s.start := rfl
@[simp] theorem State.setThermal_lcFuses (t : Thermal) : (s.setThermal t).lcFuses = s.lcFuses := rfl
@[simp] theorem State.setThermal_sec (t : Thermal) : (s.setThermal t).sec = s.sec := rfl
@[simp] theorem State.setThermal_engines (t : Thermal) : (s.setThermal t).engines = s.engines := rfl
@[simp] theorem State.setThermal_selfTest (t : Thermal) : (s.setThermal t).selfTest = s.selfTest := rfl
@[simp] theorem State.setThermal_jtag (t : Thermal) : (s.setThermal t).jtag = s.jtag := rfl
@[simp] theorem State.setThermal_img (t : Thermal) : (s.setThermal t).img = s.img := rfl
@[simp] theorem State.setThermal_links (t : Thermal) : (s.setThermal t).links = s.links := rfl
@[simp] theorem State.setThermal_twin (t : Thermal) : (s.setThermal t).twin = s.twin := rfl
@[simp] theorem State.setThermal_snoops (t : Thermal) : (s.setThermal t).snoops = s.snoops := rfl
@[simp] theorem State.setThermal_thermal (t : Thermal) : (s.setThermal t).thermal = t := rfl

/-! ## setBankCell -/

@[simp] theorem State.setBankCell_pending (b off c : Nat) : (s.setBankCell b off c).pending = s.pending := rfl
@[simp] theorem State.setBankCell_emits (b off c : Nat) : (s.setBankCell b off c).emits = s.emits := rfl
@[simp] theorem State.setBankCell_now (b off c : Nat) : (s.setBankCell b off c).now = s.now := rfl
@[simp] theorem State.setBankCell_fresh (b off c : Nat) : (s.setBankCell b off c).fresh = s.fresh := rfl
@[simp] theorem State.setBankCell_csr (b off c : Nat) : (s.setBankCell b off c).csr = s.csr := rfl
@[simp] theorem State.setBankCell_captures (b off c : Nat) : (s.setBankCell b off c).captures = s.captures := rfl
@[simp] theorem State.setBankCell_held (b off c : Nat) : (s.setBankCell b off c).held = s.held := rfl
@[simp] theorem State.setBankCell_gbq (b off c : Nat) : (s.setBankCell b off c).gbq = s.gbq := rfl
@[simp] theorem State.setBankCell_faces (b off c : Nat) : (s.setBankCell b off c).faces = s.faces := rfl
@[simp] theorem State.setBankCell_slices (b off c : Nat) : (s.setBankCell b off c).slices = s.slices := rfl
@[simp] theorem State.setBankCell_rams (b off c : Nat) : (s.setBankCell b off c).rams = s.rams := rfl
@[simp] theorem State.setBankCell_cells (b off c : Nat) : (s.setBankCell b off c).cells = s.cells := rfl
@[simp] theorem State.setBankCell_gates (b off c : Nat) : (s.setBankCell b off c).gates = s.gates := rfl
@[simp] theorem State.setBankCell_ports (b off c : Nat) : (s.setBankCell b off c).ports = s.ports := rfl
@[simp] theorem State.setBankCell_bram (b off c : Nat) : (s.setBankCell b off c).bram = s.bram := rfl
@[simp] theorem State.setBankCell_bwin (b off c : Nat) : (s.setBankCell b off c).bwin = s.bwin := rfl
@[simp] theorem State.setBankCell_pads (b off c : Nat) : (s.setBankCell b off c).pads = s.pads := rfl
@[simp] theorem State.setBankCell_regions (b off c : Nat) : (s.setBankCell b off c).regions = s.regions := rfl
@[simp] theorem State.setBankCell_planes (b off c : Nat) : (s.setBankCell b off c).planes = s.planes := rfl
@[simp] theorem State.setBankCell_latches (b off c : Nat) : (s.setBankCell b off c).latches = s.latches := rfl
@[simp] theorem State.setBankCell_imgPlanes (b off c : Nat) : (s.setBankCell b off c).imgPlanes = s.imgPlanes := rfl
@[simp] theorem State.setBankCell_erasing (b off c : Nat) : (s.setBankCell b off c).erasing = s.erasing := rfl
@[simp] theorem State.setBankCell_heldLoads (b off c : Nat) : (s.setBankCell b off c).heldLoads = s.heldLoads := rfl
@[simp] theorem State.setBankCell_corrq (b off c : Nat) : (s.setBankCell b off c).corrq = s.corrq := rfl
@[simp] theorem State.setBankCell_walkq (b off c : Nat) : (s.setBankCell b off c).walkq = s.walkq := rfl
@[simp] theorem State.setBankCell_checks (b off c : Nat) : (s.setBankCell b off c).checks = s.checks := rfl
@[simp] theorem State.setBankCell_passDone (b off c : Nat) : (s.setBankCell b off c).passDone = s.passDone := rfl
@[simp] theorem State.setBankCell_heldVisits (b off c : Nat) : (s.setBankCell b off c).heldVisits = s.heldVisits := rfl
@[simp] theorem State.setBankCell_stackLoaded (b off c : Nat) : (s.setBankCell b off c).stackLoaded = s.stackLoaded := rfl
@[simp] theorem State.setBankCell_fuses (b off c : Nat) : (s.setBankCell b off c).fuses = s.fuses := rfl
@[simp] theorem State.setBankCell_underTest (b off c : Nat) : (s.setBankCell b off c).underTest = s.underTest := rfl
@[simp] theorem State.setBankCell_keptByTest (b off c : Nat) : (s.setBankCell b off c).keptByTest = s.keptByTest := rfl
@[simp] theorem State.setBankCell_outst (b off c : Nat) : (s.setBankCell b off c).outst = s.outst := rfl
@[simp] theorem State.setBankCell_unsent (b off c : Nat) : (s.setBankCell b off c).unsent = s.unsent := rfl
@[simp] theorem State.setBankCell_clkStart (b off c : Nat) : (s.setBankCell b off c).clkStart = s.clkStart := rfl
@[simp] theorem State.setBankCell_park (b off c : Nat) : (s.setBankCell b off c).park = s.park := rfl
@[simp] theorem State.setBankCell_fillq (b off c : Nat) : (s.setBankCell b off c).fillq = s.fillq := rfl
@[simp] theorem State.setBankCell_tickGen (b off c : Nat) : (s.setBankCell b off c).tickGen = s.tickGen := rfl
@[simp] theorem State.setBankCell_threads (b off c : Nat) : (s.setBankCell b off c).threads = s.threads := rfl
@[simp] theorem State.setBankCell_predictor (b off c : Nat) : (s.setBankCell b off c).predictor = s.predictor := rfl
@[simp] theorem State.setBankCell_rpath (b off c : Nat) : (s.setBankCell b off c).rpath = s.rpath := rfl
@[simp] theorem State.setBankCell_imemErr (b off c : Nat) : (s.setBankCell b off c).imemErr = s.imemErr := rfl
@[simp] theorem State.setBankCell_trace (b off c : Nat) : (s.setBankCell b off c).trace = s.trace := rfl
@[simp] theorem State.setBankCell_mirr (b off c : Nat) : (s.setBankCell b off c).mirr = s.mirr := rfl
@[simp] theorem State.setBankCell_snapReq (b off c : Nat) : (s.setBankCell b off c).snapReq = s.snapReq := rfl
@[simp] theorem State.setBankCell_gbars (b off c : Nat) : (s.setBankCell b off c).gbars = s.gbars := rfl
@[simp] theorem State.setBankCell_doms (b off c : Nat) : (s.setBankCell b off c).doms = s.doms := rfl
@[simp] theorem State.setBankCell_bufs (b off c : Nat) : (s.setBankCell b off c).bufs = s.bufs := rfl
@[simp] theorem State.setBankCell_deliv (b off c : Nat) : (s.setBankCell b off c).deliv = s.deliv := rfl
@[simp] theorem State.setBankCell_expiries (b off c : Nat) : (s.setBankCell b off c).expiries = s.expiries := rfl
@[simp] theorem State.setBankCell_epoch (b off c : Nat) : (s.setBankCell b off c).epoch = s.epoch := rfl
@[simp] theorem State.setBankCell_couriers (b off c : Nat) : (s.setBankCell b off c).couriers = s.couriers := rfl
@[simp] theorem State.setBankCell_larder (b off c : Nat) : (s.setBankCell b off c).larder = s.larder := rfl
@[simp] theorem State.setBankCell_spad (b off c : Nat) : (s.setBankCell b off c).spad = storeSet 0 (b * 0x20000 + off % 0x20000) c s.spad := rfl
@[simp] theorem State.setBankCell_banks (b off c : Nat) : (s.setBankCell b off c).banks = s.banks := rfl
@[simp] theorem State.setBankCell_trackers (b off c : Nat) : (s.setBankCell b off c).trackers = s.trackers := rfl
@[simp] theorem State.setBankCell_spares (b off c : Nat) : (s.setBankCell b off c).spares = s.spares := rfl
@[simp] theorem State.setBankCell_porters (b off c : Nat) : (s.setBankCell b off c).porters = s.porters := rfl
@[simp] theorem State.setBankCell_sdram (b off c : Nat) : (s.setBankCell b off c).sdram = s.sdram := rfl
@[simp] theorem State.setBankCell_jnl (b off c : Nat) : (s.setBankCell b off c).jnl = s.jnl := rfl
@[simp] theorem State.setBankCell_desk (b off c : Nat) : (s.setBankCell b off c).desk = s.desk := rfl
@[simp] theorem State.setBankCell_start (b off c : Nat) : (s.setBankCell b off c).start = s.start := rfl
@[simp] theorem State.setBankCell_lcFuses (b off c : Nat) : (s.setBankCell b off c).lcFuses = s.lcFuses := rfl
@[simp] theorem State.setBankCell_sec (b off c : Nat) : (s.setBankCell b off c).sec = s.sec := rfl
@[simp] theorem State.setBankCell_engines (b off c : Nat) : (s.setBankCell b off c).engines = s.engines := rfl
@[simp] theorem State.setBankCell_selfTest (b off c : Nat) : (s.setBankCell b off c).selfTest = s.selfTest := rfl
@[simp] theorem State.setBankCell_jtag (b off c : Nat) : (s.setBankCell b off c).jtag = s.jtag := rfl
@[simp] theorem State.setBankCell_img (b off c : Nat) : (s.setBankCell b off c).img = s.img := rfl
@[simp] theorem State.setBankCell_links (b off c : Nat) : (s.setBankCell b off c).links = s.links := rfl
@[simp] theorem State.setBankCell_twin (b off c : Nat) : (s.setBankCell b off c).twin = s.twin := rfl
@[simp] theorem State.setBankCell_snoops (b off c : Nat) : (s.setBankCell b off c).snoops = s.snoops := rfl
@[simp] theorem State.setBankCell_thermal (b off c : Nat) : (s.setBankCell b off c).thermal = s.thermal := rfl

/-! ## setTrack -/

@[simp] theorem State.setTrack_pending (t : Nat) (es : List TrackEntry) : (s.setTrack t es).pending = s.pending := rfl
@[simp] theorem State.setTrack_emits (t : Nat) (es : List TrackEntry) : (s.setTrack t es).emits = s.emits := rfl
@[simp] theorem State.setTrack_now (t : Nat) (es : List TrackEntry) : (s.setTrack t es).now = s.now := rfl
@[simp] theorem State.setTrack_fresh (t : Nat) (es : List TrackEntry) : (s.setTrack t es).fresh = s.fresh := rfl
@[simp] theorem State.setTrack_csr (t : Nat) (es : List TrackEntry) : (s.setTrack t es).csr = s.csr := rfl
@[simp] theorem State.setTrack_captures (t : Nat) (es : List TrackEntry) : (s.setTrack t es).captures = s.captures := rfl
@[simp] theorem State.setTrack_held (t : Nat) (es : List TrackEntry) : (s.setTrack t es).held = s.held := rfl
@[simp] theorem State.setTrack_gbq (t : Nat) (es : List TrackEntry) : (s.setTrack t es).gbq = s.gbq := rfl
@[simp] theorem State.setTrack_faces (t : Nat) (es : List TrackEntry) : (s.setTrack t es).faces = s.faces := rfl
@[simp] theorem State.setTrack_slices (t : Nat) (es : List TrackEntry) : (s.setTrack t es).slices = s.slices := rfl
@[simp] theorem State.setTrack_rams (t : Nat) (es : List TrackEntry) : (s.setTrack t es).rams = s.rams := rfl
@[simp] theorem State.setTrack_cells (t : Nat) (es : List TrackEntry) : (s.setTrack t es).cells = s.cells := rfl
@[simp] theorem State.setTrack_gates (t : Nat) (es : List TrackEntry) : (s.setTrack t es).gates = s.gates := rfl
@[simp] theorem State.setTrack_ports (t : Nat) (es : List TrackEntry) : (s.setTrack t es).ports = s.ports := rfl
@[simp] theorem State.setTrack_bram (t : Nat) (es : List TrackEntry) : (s.setTrack t es).bram = s.bram := rfl
@[simp] theorem State.setTrack_bwin (t : Nat) (es : List TrackEntry) : (s.setTrack t es).bwin = s.bwin := rfl
@[simp] theorem State.setTrack_pads (t : Nat) (es : List TrackEntry) : (s.setTrack t es).pads = s.pads := rfl
@[simp] theorem State.setTrack_regions (t : Nat) (es : List TrackEntry) : (s.setTrack t es).regions = s.regions := rfl
@[simp] theorem State.setTrack_planes (t : Nat) (es : List TrackEntry) : (s.setTrack t es).planes = s.planes := rfl
@[simp] theorem State.setTrack_latches (t : Nat) (es : List TrackEntry) : (s.setTrack t es).latches = s.latches := rfl
@[simp] theorem State.setTrack_imgPlanes (t : Nat) (es : List TrackEntry) : (s.setTrack t es).imgPlanes = s.imgPlanes := rfl
@[simp] theorem State.setTrack_erasing (t : Nat) (es : List TrackEntry) : (s.setTrack t es).erasing = s.erasing := rfl
@[simp] theorem State.setTrack_heldLoads (t : Nat) (es : List TrackEntry) : (s.setTrack t es).heldLoads = s.heldLoads := rfl
@[simp] theorem State.setTrack_corrq (t : Nat) (es : List TrackEntry) : (s.setTrack t es).corrq = s.corrq := rfl
@[simp] theorem State.setTrack_walkq (t : Nat) (es : List TrackEntry) : (s.setTrack t es).walkq = s.walkq := rfl
@[simp] theorem State.setTrack_checks (t : Nat) (es : List TrackEntry) : (s.setTrack t es).checks = s.checks := rfl
@[simp] theorem State.setTrack_passDone (t : Nat) (es : List TrackEntry) : (s.setTrack t es).passDone = s.passDone := rfl
@[simp] theorem State.setTrack_heldVisits (t : Nat) (es : List TrackEntry) : (s.setTrack t es).heldVisits = s.heldVisits := rfl
@[simp] theorem State.setTrack_stackLoaded (t : Nat) (es : List TrackEntry) : (s.setTrack t es).stackLoaded = s.stackLoaded := rfl
@[simp] theorem State.setTrack_fuses (t : Nat) (es : List TrackEntry) : (s.setTrack t es).fuses = s.fuses := rfl
@[simp] theorem State.setTrack_underTest (t : Nat) (es : List TrackEntry) : (s.setTrack t es).underTest = s.underTest := rfl
@[simp] theorem State.setTrack_keptByTest (t : Nat) (es : List TrackEntry) : (s.setTrack t es).keptByTest = s.keptByTest := rfl
@[simp] theorem State.setTrack_outst (t : Nat) (es : List TrackEntry) : (s.setTrack t es).outst = s.outst := rfl
@[simp] theorem State.setTrack_unsent (t : Nat) (es : List TrackEntry) : (s.setTrack t es).unsent = s.unsent := rfl
@[simp] theorem State.setTrack_clkStart (t : Nat) (es : List TrackEntry) : (s.setTrack t es).clkStart = s.clkStart := rfl
@[simp] theorem State.setTrack_park (t : Nat) (es : List TrackEntry) : (s.setTrack t es).park = s.park := rfl
@[simp] theorem State.setTrack_fillq (t : Nat) (es : List TrackEntry) : (s.setTrack t es).fillq = s.fillq := rfl
@[simp] theorem State.setTrack_tickGen (t : Nat) (es : List TrackEntry) : (s.setTrack t es).tickGen = s.tickGen := rfl
@[simp] theorem State.setTrack_threads (t : Nat) (es : List TrackEntry) : (s.setTrack t es).threads = s.threads := rfl
@[simp] theorem State.setTrack_predictor (t : Nat) (es : List TrackEntry) : (s.setTrack t es).predictor = s.predictor := rfl
@[simp] theorem State.setTrack_rpath (t : Nat) (es : List TrackEntry) : (s.setTrack t es).rpath = s.rpath := rfl
@[simp] theorem State.setTrack_imemErr (t : Nat) (es : List TrackEntry) : (s.setTrack t es).imemErr = s.imemErr := rfl
@[simp] theorem State.setTrack_trace (t : Nat) (es : List TrackEntry) : (s.setTrack t es).trace = s.trace := rfl
@[simp] theorem State.setTrack_mirr (t : Nat) (es : List TrackEntry) : (s.setTrack t es).mirr = s.mirr := rfl
@[simp] theorem State.setTrack_snapReq (t : Nat) (es : List TrackEntry) : (s.setTrack t es).snapReq = s.snapReq := rfl
@[simp] theorem State.setTrack_gbars (t : Nat) (es : List TrackEntry) : (s.setTrack t es).gbars = s.gbars := rfl
@[simp] theorem State.setTrack_doms (t : Nat) (es : List TrackEntry) : (s.setTrack t es).doms = s.doms := rfl
@[simp] theorem State.setTrack_bufs (t : Nat) (es : List TrackEntry) : (s.setTrack t es).bufs = s.bufs := rfl
@[simp] theorem State.setTrack_deliv (t : Nat) (es : List TrackEntry) : (s.setTrack t es).deliv = s.deliv := rfl
@[simp] theorem State.setTrack_expiries (t : Nat) (es : List TrackEntry) : (s.setTrack t es).expiries = s.expiries := rfl
@[simp] theorem State.setTrack_epoch (t : Nat) (es : List TrackEntry) : (s.setTrack t es).epoch = s.epoch := rfl
@[simp] theorem State.setTrack_couriers (t : Nat) (es : List TrackEntry) : (s.setTrack t es).couriers = s.couriers := rfl
@[simp] theorem State.setTrack_larder (t : Nat) (es : List TrackEntry) : (s.setTrack t es).larder = s.larder := rfl
@[simp] theorem State.setTrack_spad (t : Nat) (es : List TrackEntry) : (s.setTrack t es).spad = s.spad := rfl
@[simp] theorem State.setTrack_banks (t : Nat) (es : List TrackEntry) : (s.setTrack t es).banks = s.banks := rfl
@[simp] theorem State.setTrack_trackers (t : Nat) (es : List TrackEntry) : (s.setTrack t es).trackers = storeSet [] t es s.trackers := rfl
@[simp] theorem State.setTrack_spares (t : Nat) (es : List TrackEntry) : (s.setTrack t es).spares = s.spares := rfl
@[simp] theorem State.setTrack_porters (t : Nat) (es : List TrackEntry) : (s.setTrack t es).porters = s.porters := rfl
@[simp] theorem State.setTrack_sdram (t : Nat) (es : List TrackEntry) : (s.setTrack t es).sdram = s.sdram := rfl
@[simp] theorem State.setTrack_jnl (t : Nat) (es : List TrackEntry) : (s.setTrack t es).jnl = s.jnl := rfl
@[simp] theorem State.setTrack_desk (t : Nat) (es : List TrackEntry) : (s.setTrack t es).desk = s.desk := rfl
@[simp] theorem State.setTrack_start (t : Nat) (es : List TrackEntry) : (s.setTrack t es).start = s.start := rfl
@[simp] theorem State.setTrack_lcFuses (t : Nat) (es : List TrackEntry) : (s.setTrack t es).lcFuses = s.lcFuses := rfl
@[simp] theorem State.setTrack_sec (t : Nat) (es : List TrackEntry) : (s.setTrack t es).sec = s.sec := rfl
@[simp] theorem State.setTrack_engines (t : Nat) (es : List TrackEntry) : (s.setTrack t es).engines = s.engines := rfl
@[simp] theorem State.setTrack_selfTest (t : Nat) (es : List TrackEntry) : (s.setTrack t es).selfTest = s.selfTest := rfl
@[simp] theorem State.setTrack_jtag (t : Nat) (es : List TrackEntry) : (s.setTrack t es).jtag = s.jtag := rfl
@[simp] theorem State.setTrack_img (t : Nat) (es : List TrackEntry) : (s.setTrack t es).img = s.img := rfl
@[simp] theorem State.setTrack_links (t : Nat) (es : List TrackEntry) : (s.setTrack t es).links = s.links := rfl
@[simp] theorem State.setTrack_twin (t : Nat) (es : List TrackEntry) : (s.setTrack t es).twin = s.twin := rfl
@[simp] theorem State.setTrack_snoops (t : Nat) (es : List TrackEntry) : (s.setTrack t es).snoops = s.snoops := rfl
@[simp] theorem State.setTrack_thermal (t : Nat) (es : List TrackEntry) : (s.setTrack t es).thermal = s.thermal := rfl

/-! ## setSpareSet -/

@[simp] theorem State.setSpareSet_pending (k : Nat) (x : SpareSet) : (s.setSpareSet k x).pending = s.pending := rfl
@[simp] theorem State.setSpareSet_emits (k : Nat) (x : SpareSet) : (s.setSpareSet k x).emits = s.emits := rfl
@[simp] theorem State.setSpareSet_now (k : Nat) (x : SpareSet) : (s.setSpareSet k x).now = s.now := rfl
@[simp] theorem State.setSpareSet_fresh (k : Nat) (x : SpareSet) : (s.setSpareSet k x).fresh = s.fresh := rfl
@[simp] theorem State.setSpareSet_csr (k : Nat) (x : SpareSet) : (s.setSpareSet k x).csr = s.csr := rfl
@[simp] theorem State.setSpareSet_captures (k : Nat) (x : SpareSet) : (s.setSpareSet k x).captures = s.captures := rfl
@[simp] theorem State.setSpareSet_held (k : Nat) (x : SpareSet) : (s.setSpareSet k x).held = s.held := rfl
@[simp] theorem State.setSpareSet_gbq (k : Nat) (x : SpareSet) : (s.setSpareSet k x).gbq = s.gbq := rfl
@[simp] theorem State.setSpareSet_faces (k : Nat) (x : SpareSet) : (s.setSpareSet k x).faces = s.faces := rfl
@[simp] theorem State.setSpareSet_slices (k : Nat) (x : SpareSet) : (s.setSpareSet k x).slices = s.slices := rfl
@[simp] theorem State.setSpareSet_rams (k : Nat) (x : SpareSet) : (s.setSpareSet k x).rams = s.rams := rfl
@[simp] theorem State.setSpareSet_cells (k : Nat) (x : SpareSet) : (s.setSpareSet k x).cells = s.cells := rfl
@[simp] theorem State.setSpareSet_gates (k : Nat) (x : SpareSet) : (s.setSpareSet k x).gates = s.gates := rfl
@[simp] theorem State.setSpareSet_ports (k : Nat) (x : SpareSet) : (s.setSpareSet k x).ports = s.ports := rfl
@[simp] theorem State.setSpareSet_bram (k : Nat) (x : SpareSet) : (s.setSpareSet k x).bram = s.bram := rfl
@[simp] theorem State.setSpareSet_bwin (k : Nat) (x : SpareSet) : (s.setSpareSet k x).bwin = s.bwin := rfl
@[simp] theorem State.setSpareSet_pads (k : Nat) (x : SpareSet) : (s.setSpareSet k x).pads = s.pads := rfl
@[simp] theorem State.setSpareSet_regions (k : Nat) (x : SpareSet) : (s.setSpareSet k x).regions = s.regions := rfl
@[simp] theorem State.setSpareSet_planes (k : Nat) (x : SpareSet) : (s.setSpareSet k x).planes = s.planes := rfl
@[simp] theorem State.setSpareSet_latches (k : Nat) (x : SpareSet) : (s.setSpareSet k x).latches = s.latches := rfl
@[simp] theorem State.setSpareSet_imgPlanes (k : Nat) (x : SpareSet) : (s.setSpareSet k x).imgPlanes = s.imgPlanes := rfl
@[simp] theorem State.setSpareSet_erasing (k : Nat) (x : SpareSet) : (s.setSpareSet k x).erasing = s.erasing := rfl
@[simp] theorem State.setSpareSet_heldLoads (k : Nat) (x : SpareSet) : (s.setSpareSet k x).heldLoads = s.heldLoads := rfl
@[simp] theorem State.setSpareSet_corrq (k : Nat) (x : SpareSet) : (s.setSpareSet k x).corrq = s.corrq := rfl
@[simp] theorem State.setSpareSet_walkq (k : Nat) (x : SpareSet) : (s.setSpareSet k x).walkq = s.walkq := rfl
@[simp] theorem State.setSpareSet_checks (k : Nat) (x : SpareSet) : (s.setSpareSet k x).checks = s.checks := rfl
@[simp] theorem State.setSpareSet_passDone (k : Nat) (x : SpareSet) : (s.setSpareSet k x).passDone = s.passDone := rfl
@[simp] theorem State.setSpareSet_heldVisits (k : Nat) (x : SpareSet) : (s.setSpareSet k x).heldVisits = s.heldVisits := rfl
@[simp] theorem State.setSpareSet_stackLoaded (k : Nat) (x : SpareSet) : (s.setSpareSet k x).stackLoaded = s.stackLoaded := rfl
@[simp] theorem State.setSpareSet_fuses (k : Nat) (x : SpareSet) : (s.setSpareSet k x).fuses = s.fuses := rfl
@[simp] theorem State.setSpareSet_underTest (k : Nat) (x : SpareSet) : (s.setSpareSet k x).underTest = s.underTest := rfl
@[simp] theorem State.setSpareSet_keptByTest (k : Nat) (x : SpareSet) : (s.setSpareSet k x).keptByTest = s.keptByTest := rfl
@[simp] theorem State.setSpareSet_outst (k : Nat) (x : SpareSet) : (s.setSpareSet k x).outst = s.outst := rfl
@[simp] theorem State.setSpareSet_unsent (k : Nat) (x : SpareSet) : (s.setSpareSet k x).unsent = s.unsent := rfl
@[simp] theorem State.setSpareSet_clkStart (k : Nat) (x : SpareSet) : (s.setSpareSet k x).clkStart = s.clkStart := rfl
@[simp] theorem State.setSpareSet_park (k : Nat) (x : SpareSet) : (s.setSpareSet k x).park = s.park := rfl
@[simp] theorem State.setSpareSet_fillq (k : Nat) (x : SpareSet) : (s.setSpareSet k x).fillq = s.fillq := rfl
@[simp] theorem State.setSpareSet_tickGen (k : Nat) (x : SpareSet) : (s.setSpareSet k x).tickGen = s.tickGen := rfl
@[simp] theorem State.setSpareSet_threads (k : Nat) (x : SpareSet) : (s.setSpareSet k x).threads = s.threads := rfl
@[simp] theorem State.setSpareSet_predictor (k : Nat) (x : SpareSet) : (s.setSpareSet k x).predictor = s.predictor := rfl
@[simp] theorem State.setSpareSet_rpath (k : Nat) (x : SpareSet) : (s.setSpareSet k x).rpath = s.rpath := rfl
@[simp] theorem State.setSpareSet_imemErr (k : Nat) (x : SpareSet) : (s.setSpareSet k x).imemErr = s.imemErr := rfl
@[simp] theorem State.setSpareSet_trace (k : Nat) (x : SpareSet) : (s.setSpareSet k x).trace = s.trace := rfl
@[simp] theorem State.setSpareSet_mirr (k : Nat) (x : SpareSet) : (s.setSpareSet k x).mirr = s.mirr := rfl
@[simp] theorem State.setSpareSet_snapReq (k : Nat) (x : SpareSet) : (s.setSpareSet k x).snapReq = s.snapReq := rfl
@[simp] theorem State.setSpareSet_gbars (k : Nat) (x : SpareSet) : (s.setSpareSet k x).gbars = s.gbars := rfl
@[simp] theorem State.setSpareSet_doms (k : Nat) (x : SpareSet) : (s.setSpareSet k x).doms = s.doms := rfl
@[simp] theorem State.setSpareSet_bufs (k : Nat) (x : SpareSet) : (s.setSpareSet k x).bufs = s.bufs := rfl
@[simp] theorem State.setSpareSet_deliv (k : Nat) (x : SpareSet) : (s.setSpareSet k x).deliv = s.deliv := rfl
@[simp] theorem State.setSpareSet_expiries (k : Nat) (x : SpareSet) : (s.setSpareSet k x).expiries = s.expiries := rfl
@[simp] theorem State.setSpareSet_epoch (k : Nat) (x : SpareSet) : (s.setSpareSet k x).epoch = s.epoch := rfl
@[simp] theorem State.setSpareSet_couriers (k : Nat) (x : SpareSet) : (s.setSpareSet k x).couriers = s.couriers := rfl
@[simp] theorem State.setSpareSet_larder (k : Nat) (x : SpareSet) : (s.setSpareSet k x).larder = s.larder := rfl
@[simp] theorem State.setSpareSet_spad (k : Nat) (x : SpareSet) : (s.setSpareSet k x).spad = s.spad := rfl
@[simp] theorem State.setSpareSet_banks (k : Nat) (x : SpareSet) : (s.setSpareSet k x).banks = s.banks := rfl
@[simp] theorem State.setSpareSet_trackers (k : Nat) (x : SpareSet) : (s.setSpareSet k x).trackers = s.trackers := rfl
@[simp] theorem State.setSpareSet_spares (k : Nat) (x : SpareSet) : (s.setSpareSet k x).spares = storeSet {} k x s.spares := rfl
@[simp] theorem State.setSpareSet_porters (k : Nat) (x : SpareSet) : (s.setSpareSet k x).porters = s.porters := rfl
@[simp] theorem State.setSpareSet_sdram (k : Nat) (x : SpareSet) : (s.setSpareSet k x).sdram = s.sdram := rfl
@[simp] theorem State.setSpareSet_jnl (k : Nat) (x : SpareSet) : (s.setSpareSet k x).jnl = s.jnl := rfl
@[simp] theorem State.setSpareSet_desk (k : Nat) (x : SpareSet) : (s.setSpareSet k x).desk = s.desk := rfl
@[simp] theorem State.setSpareSet_start (k : Nat) (x : SpareSet) : (s.setSpareSet k x).start = s.start := rfl
@[simp] theorem State.setSpareSet_lcFuses (k : Nat) (x : SpareSet) : (s.setSpareSet k x).lcFuses = s.lcFuses := rfl
@[simp] theorem State.setSpareSet_sec (k : Nat) (x : SpareSet) : (s.setSpareSet k x).sec = s.sec := rfl
@[simp] theorem State.setSpareSet_engines (k : Nat) (x : SpareSet) : (s.setSpareSet k x).engines = s.engines := rfl
@[simp] theorem State.setSpareSet_selfTest (k : Nat) (x : SpareSet) : (s.setSpareSet k x).selfTest = s.selfTest := rfl
@[simp] theorem State.setSpareSet_jtag (k : Nat) (x : SpareSet) : (s.setSpareSet k x).jtag = s.jtag := rfl
@[simp] theorem State.setSpareSet_img (k : Nat) (x : SpareSet) : (s.setSpareSet k x).img = s.img := rfl
@[simp] theorem State.setSpareSet_links (k : Nat) (x : SpareSet) : (s.setSpareSet k x).links = s.links := rfl
@[simp] theorem State.setSpareSet_twin (k : Nat) (x : SpareSet) : (s.setSpareSet k x).twin = s.twin := rfl
@[simp] theorem State.setSpareSet_snoops (k : Nat) (x : SpareSet) : (s.setSpareSet k x).snoops = s.snoops := rfl
@[simp] theorem State.setSpareSet_thermal (k : Nat) (x : SpareSet) : (s.setSpareSet k x).thermal = s.thermal := rfl

/-! ## setPorter -/

@[simp] theorem State.setPorter_pending (d : Nat) (x : Porter) : (s.setPorter d x).pending = s.pending := rfl
@[simp] theorem State.setPorter_emits (d : Nat) (x : Porter) : (s.setPorter d x).emits = s.emits := rfl
@[simp] theorem State.setPorter_now (d : Nat) (x : Porter) : (s.setPorter d x).now = s.now := rfl
@[simp] theorem State.setPorter_fresh (d : Nat) (x : Porter) : (s.setPorter d x).fresh = s.fresh := rfl
@[simp] theorem State.setPorter_csr (d : Nat) (x : Porter) : (s.setPorter d x).csr = s.csr := rfl
@[simp] theorem State.setPorter_captures (d : Nat) (x : Porter) : (s.setPorter d x).captures = s.captures := rfl
@[simp] theorem State.setPorter_held (d : Nat) (x : Porter) : (s.setPorter d x).held = s.held := rfl
@[simp] theorem State.setPorter_gbq (d : Nat) (x : Porter) : (s.setPorter d x).gbq = s.gbq := rfl
@[simp] theorem State.setPorter_faces (d : Nat) (x : Porter) : (s.setPorter d x).faces = s.faces := rfl
@[simp] theorem State.setPorter_slices (d : Nat) (x : Porter) : (s.setPorter d x).slices = s.slices := rfl
@[simp] theorem State.setPorter_rams (d : Nat) (x : Porter) : (s.setPorter d x).rams = s.rams := rfl
@[simp] theorem State.setPorter_cells (d : Nat) (x : Porter) : (s.setPorter d x).cells = s.cells := rfl
@[simp] theorem State.setPorter_gates (d : Nat) (x : Porter) : (s.setPorter d x).gates = s.gates := rfl
@[simp] theorem State.setPorter_ports (d : Nat) (x : Porter) : (s.setPorter d x).ports = s.ports := rfl
@[simp] theorem State.setPorter_bram (d : Nat) (x : Porter) : (s.setPorter d x).bram = s.bram := rfl
@[simp] theorem State.setPorter_bwin (d : Nat) (x : Porter) : (s.setPorter d x).bwin = s.bwin := rfl
@[simp] theorem State.setPorter_pads (d : Nat) (x : Porter) : (s.setPorter d x).pads = s.pads := rfl
@[simp] theorem State.setPorter_regions (d : Nat) (x : Porter) : (s.setPorter d x).regions = s.regions := rfl
@[simp] theorem State.setPorter_planes (d : Nat) (x : Porter) : (s.setPorter d x).planes = s.planes := rfl
@[simp] theorem State.setPorter_latches (d : Nat) (x : Porter) : (s.setPorter d x).latches = s.latches := rfl
@[simp] theorem State.setPorter_imgPlanes (d : Nat) (x : Porter) : (s.setPorter d x).imgPlanes = s.imgPlanes := rfl
@[simp] theorem State.setPorter_erasing (d : Nat) (x : Porter) : (s.setPorter d x).erasing = s.erasing := rfl
@[simp] theorem State.setPorter_heldLoads (d : Nat) (x : Porter) : (s.setPorter d x).heldLoads = s.heldLoads := rfl
@[simp] theorem State.setPorter_corrq (d : Nat) (x : Porter) : (s.setPorter d x).corrq = s.corrq := rfl
@[simp] theorem State.setPorter_walkq (d : Nat) (x : Porter) : (s.setPorter d x).walkq = s.walkq := rfl
@[simp] theorem State.setPorter_checks (d : Nat) (x : Porter) : (s.setPorter d x).checks = s.checks := rfl
@[simp] theorem State.setPorter_passDone (d : Nat) (x : Porter) : (s.setPorter d x).passDone = s.passDone := rfl
@[simp] theorem State.setPorter_heldVisits (d : Nat) (x : Porter) : (s.setPorter d x).heldVisits = s.heldVisits := rfl
@[simp] theorem State.setPorter_stackLoaded (d : Nat) (x : Porter) : (s.setPorter d x).stackLoaded = s.stackLoaded := rfl
@[simp] theorem State.setPorter_fuses (d : Nat) (x : Porter) : (s.setPorter d x).fuses = s.fuses := rfl
@[simp] theorem State.setPorter_underTest (d : Nat) (x : Porter) : (s.setPorter d x).underTest = s.underTest := rfl
@[simp] theorem State.setPorter_keptByTest (d : Nat) (x : Porter) : (s.setPorter d x).keptByTest = s.keptByTest := rfl
@[simp] theorem State.setPorter_outst (d : Nat) (x : Porter) : (s.setPorter d x).outst = s.outst := rfl
@[simp] theorem State.setPorter_unsent (d : Nat) (x : Porter) : (s.setPorter d x).unsent = s.unsent := rfl
@[simp] theorem State.setPorter_clkStart (d : Nat) (x : Porter) : (s.setPorter d x).clkStart = s.clkStart := rfl
@[simp] theorem State.setPorter_park (d : Nat) (x : Porter) : (s.setPorter d x).park = s.park := rfl
@[simp] theorem State.setPorter_fillq (d : Nat) (x : Porter) : (s.setPorter d x).fillq = s.fillq := rfl
@[simp] theorem State.setPorter_tickGen (d : Nat) (x : Porter) : (s.setPorter d x).tickGen = s.tickGen := rfl
@[simp] theorem State.setPorter_threads (d : Nat) (x : Porter) : (s.setPorter d x).threads = s.threads := rfl
@[simp] theorem State.setPorter_predictor (d : Nat) (x : Porter) : (s.setPorter d x).predictor = s.predictor := rfl
@[simp] theorem State.setPorter_rpath (d : Nat) (x : Porter) : (s.setPorter d x).rpath = s.rpath := rfl
@[simp] theorem State.setPorter_imemErr (d : Nat) (x : Porter) : (s.setPorter d x).imemErr = s.imemErr := rfl
@[simp] theorem State.setPorter_trace (d : Nat) (x : Porter) : (s.setPorter d x).trace = s.trace := rfl
@[simp] theorem State.setPorter_mirr (d : Nat) (x : Porter) : (s.setPorter d x).mirr = s.mirr := rfl
@[simp] theorem State.setPorter_snapReq (d : Nat) (x : Porter) : (s.setPorter d x).snapReq = s.snapReq := rfl
@[simp] theorem State.setPorter_gbars (d : Nat) (x : Porter) : (s.setPorter d x).gbars = s.gbars := rfl
@[simp] theorem State.setPorter_doms (d : Nat) (x : Porter) : (s.setPorter d x).doms = s.doms := rfl
@[simp] theorem State.setPorter_bufs (d : Nat) (x : Porter) : (s.setPorter d x).bufs = s.bufs := rfl
@[simp] theorem State.setPorter_deliv (d : Nat) (x : Porter) : (s.setPorter d x).deliv = s.deliv := rfl
@[simp] theorem State.setPorter_expiries (d : Nat) (x : Porter) : (s.setPorter d x).expiries = s.expiries := rfl
@[simp] theorem State.setPorter_epoch (d : Nat) (x : Porter) : (s.setPorter d x).epoch = s.epoch := rfl
@[simp] theorem State.setPorter_couriers (d : Nat) (x : Porter) : (s.setPorter d x).couriers = s.couriers := rfl
@[simp] theorem State.setPorter_larder (d : Nat) (x : Porter) : (s.setPorter d x).larder = s.larder := rfl
@[simp] theorem State.setPorter_spad (d : Nat) (x : Porter) : (s.setPorter d x).spad = s.spad := rfl
@[simp] theorem State.setPorter_banks (d : Nat) (x : Porter) : (s.setPorter d x).banks = s.banks := rfl
@[simp] theorem State.setPorter_trackers (d : Nat) (x : Porter) : (s.setPorter d x).trackers = s.trackers := rfl
@[simp] theorem State.setPorter_spares (d : Nat) (x : Porter) : (s.setPorter d x).spares = s.spares := rfl
@[simp] theorem State.setPorter_porters (d : Nat) (x : Porter) : (s.setPorter d x).porters = storeSet {} d x s.porters := rfl
@[simp] theorem State.setPorter_sdram (d : Nat) (x : Porter) : (s.setPorter d x).sdram = s.sdram := rfl
@[simp] theorem State.setPorter_jnl (d : Nat) (x : Porter) : (s.setPorter d x).jnl = s.jnl := rfl
@[simp] theorem State.setPorter_desk (d : Nat) (x : Porter) : (s.setPorter d x).desk = s.desk := rfl
@[simp] theorem State.setPorter_start (d : Nat) (x : Porter) : (s.setPorter d x).start = s.start := rfl
@[simp] theorem State.setPorter_lcFuses (d : Nat) (x : Porter) : (s.setPorter d x).lcFuses = s.lcFuses := rfl
@[simp] theorem State.setPorter_sec (d : Nat) (x : Porter) : (s.setPorter d x).sec = s.sec := rfl
@[simp] theorem State.setPorter_engines (d : Nat) (x : Porter) : (s.setPorter d x).engines = s.engines := rfl
@[simp] theorem State.setPorter_selfTest (d : Nat) (x : Porter) : (s.setPorter d x).selfTest = s.selfTest := rfl
@[simp] theorem State.setPorter_jtag (d : Nat) (x : Porter) : (s.setPorter d x).jtag = s.jtag := rfl
@[simp] theorem State.setPorter_img (d : Nat) (x : Porter) : (s.setPorter d x).img = s.img := rfl
@[simp] theorem State.setPorter_links (d : Nat) (x : Porter) : (s.setPorter d x).links = s.links := rfl
@[simp] theorem State.setPorter_twin (d : Nat) (x : Porter) : (s.setPorter d x).twin = s.twin := rfl
@[simp] theorem State.setPorter_snoops (d : Nat) (x : Porter) : (s.setPorter d x).snoops = s.snoops := rfl
@[simp] theorem State.setPorter_thermal (d : Nat) (x : Porter) : (s.setPorter d x).thermal = s.thermal := rfl

/-! ## setFuses -/

@[simp] theorem State.setFuses_pending (f : SecFuses) : (s.setFuses f).pending = s.pending := rfl
@[simp] theorem State.setFuses_emits (f : SecFuses) : (s.setFuses f).emits = s.emits := rfl
@[simp] theorem State.setFuses_now (f : SecFuses) : (s.setFuses f).now = s.now := rfl
@[simp] theorem State.setFuses_fresh (f : SecFuses) : (s.setFuses f).fresh = s.fresh := rfl
@[simp] theorem State.setFuses_csr (f : SecFuses) : (s.setFuses f).csr = s.csr := rfl
@[simp] theorem State.setFuses_captures (f : SecFuses) : (s.setFuses f).captures = s.captures := rfl
@[simp] theorem State.setFuses_held (f : SecFuses) : (s.setFuses f).held = s.held := rfl
@[simp] theorem State.setFuses_gbq (f : SecFuses) : (s.setFuses f).gbq = s.gbq := rfl
@[simp] theorem State.setFuses_faces (f : SecFuses) : (s.setFuses f).faces = s.faces := rfl
@[simp] theorem State.setFuses_slices (f : SecFuses) : (s.setFuses f).slices = s.slices := rfl
@[simp] theorem State.setFuses_rams (f : SecFuses) : (s.setFuses f).rams = s.rams := rfl
@[simp] theorem State.setFuses_cells (f : SecFuses) : (s.setFuses f).cells = s.cells := rfl
@[simp] theorem State.setFuses_gates (f : SecFuses) : (s.setFuses f).gates = s.gates := rfl
@[simp] theorem State.setFuses_ports (f : SecFuses) : (s.setFuses f).ports = s.ports := rfl
@[simp] theorem State.setFuses_bram (f : SecFuses) : (s.setFuses f).bram = s.bram := rfl
@[simp] theorem State.setFuses_bwin (f : SecFuses) : (s.setFuses f).bwin = s.bwin := rfl
@[simp] theorem State.setFuses_pads (f : SecFuses) : (s.setFuses f).pads = s.pads := rfl
@[simp] theorem State.setFuses_regions (f : SecFuses) : (s.setFuses f).regions = s.regions := rfl
@[simp] theorem State.setFuses_planes (f : SecFuses) : (s.setFuses f).planes = s.planes := rfl
@[simp] theorem State.setFuses_latches (f : SecFuses) : (s.setFuses f).latches = s.latches := rfl
@[simp] theorem State.setFuses_imgPlanes (f : SecFuses) : (s.setFuses f).imgPlanes = s.imgPlanes := rfl
@[simp] theorem State.setFuses_erasing (f : SecFuses) : (s.setFuses f).erasing = s.erasing := rfl
@[simp] theorem State.setFuses_heldLoads (f : SecFuses) : (s.setFuses f).heldLoads = s.heldLoads := rfl
@[simp] theorem State.setFuses_corrq (f : SecFuses) : (s.setFuses f).corrq = s.corrq := rfl
@[simp] theorem State.setFuses_walkq (f : SecFuses) : (s.setFuses f).walkq = s.walkq := rfl
@[simp] theorem State.setFuses_checks (f : SecFuses) : (s.setFuses f).checks = s.checks := rfl
@[simp] theorem State.setFuses_passDone (f : SecFuses) : (s.setFuses f).passDone = s.passDone := rfl
@[simp] theorem State.setFuses_heldVisits (f : SecFuses) : (s.setFuses f).heldVisits = s.heldVisits := rfl
@[simp] theorem State.setFuses_stackLoaded (f : SecFuses) : (s.setFuses f).stackLoaded = s.stackLoaded := rfl
@[simp] theorem State.setFuses_fuses (f : SecFuses) : (s.setFuses f).fuses = s.fuses := rfl
@[simp] theorem State.setFuses_underTest (f : SecFuses) : (s.setFuses f).underTest = s.underTest := rfl
@[simp] theorem State.setFuses_keptByTest (f : SecFuses) : (s.setFuses f).keptByTest = s.keptByTest := rfl
@[simp] theorem State.setFuses_outst (f : SecFuses) : (s.setFuses f).outst = s.outst := rfl
@[simp] theorem State.setFuses_unsent (f : SecFuses) : (s.setFuses f).unsent = s.unsent := rfl
@[simp] theorem State.setFuses_clkStart (f : SecFuses) : (s.setFuses f).clkStart = s.clkStart := rfl
@[simp] theorem State.setFuses_park (f : SecFuses) : (s.setFuses f).park = s.park := rfl
@[simp] theorem State.setFuses_fillq (f : SecFuses) : (s.setFuses f).fillq = s.fillq := rfl
@[simp] theorem State.setFuses_tickGen (f : SecFuses) : (s.setFuses f).tickGen = s.tickGen := rfl
@[simp] theorem State.setFuses_threads (f : SecFuses) : (s.setFuses f).threads = s.threads := rfl
@[simp] theorem State.setFuses_predictor (f : SecFuses) : (s.setFuses f).predictor = s.predictor := rfl
@[simp] theorem State.setFuses_rpath (f : SecFuses) : (s.setFuses f).rpath = s.rpath := rfl
@[simp] theorem State.setFuses_imemErr (f : SecFuses) : (s.setFuses f).imemErr = s.imemErr := rfl
@[simp] theorem State.setFuses_trace (f : SecFuses) : (s.setFuses f).trace = s.trace := rfl
@[simp] theorem State.setFuses_mirr (f : SecFuses) : (s.setFuses f).mirr = s.mirr := rfl
@[simp] theorem State.setFuses_snapReq (f : SecFuses) : (s.setFuses f).snapReq = s.snapReq := rfl
@[simp] theorem State.setFuses_gbars (f : SecFuses) : (s.setFuses f).gbars = s.gbars := rfl
@[simp] theorem State.setFuses_doms (f : SecFuses) : (s.setFuses f).doms = s.doms := rfl
@[simp] theorem State.setFuses_bufs (f : SecFuses) : (s.setFuses f).bufs = s.bufs := rfl
@[simp] theorem State.setFuses_deliv (f : SecFuses) : (s.setFuses f).deliv = s.deliv := rfl
@[simp] theorem State.setFuses_expiries (f : SecFuses) : (s.setFuses f).expiries = s.expiries := rfl
@[simp] theorem State.setFuses_epoch (f : SecFuses) : (s.setFuses f).epoch = s.epoch := rfl
@[simp] theorem State.setFuses_couriers (f : SecFuses) : (s.setFuses f).couriers = s.couriers := rfl
@[simp] theorem State.setFuses_larder (f : SecFuses) : (s.setFuses f).larder = s.larder := rfl
@[simp] theorem State.setFuses_spad (f : SecFuses) : (s.setFuses f).spad = s.spad := rfl
@[simp] theorem State.setFuses_banks (f : SecFuses) : (s.setFuses f).banks = s.banks := rfl
@[simp] theorem State.setFuses_trackers (f : SecFuses) : (s.setFuses f).trackers = s.trackers := rfl
@[simp] theorem State.setFuses_spares (f : SecFuses) : (s.setFuses f).spares = s.spares := rfl
@[simp] theorem State.setFuses_porters (f : SecFuses) : (s.setFuses f).porters = s.porters := rfl
@[simp] theorem State.setFuses_sdram (f : SecFuses) : (s.setFuses f).sdram = s.sdram := rfl
@[simp] theorem State.setFuses_jnl (f : SecFuses) : (s.setFuses f).jnl = s.jnl := rfl
@[simp] theorem State.setFuses_desk (f : SecFuses) : (s.setFuses f).desk = s.desk := rfl
@[simp] theorem State.setFuses_start (f : SecFuses) : (s.setFuses f).start = s.start := rfl
@[simp] theorem State.setFuses_lcFuses (f : SecFuses) : (s.setFuses f).lcFuses = f := rfl
@[simp] theorem State.setFuses_sec (f : SecFuses) : (s.setFuses f).sec = s.sec := rfl
@[simp] theorem State.setFuses_engines (f : SecFuses) : (s.setFuses f).engines = s.engines := rfl
@[simp] theorem State.setFuses_selfTest (f : SecFuses) : (s.setFuses f).selfTest = s.selfTest := rfl
@[simp] theorem State.setFuses_jtag (f : SecFuses) : (s.setFuses f).jtag = s.jtag := rfl
@[simp] theorem State.setFuses_img (f : SecFuses) : (s.setFuses f).img = s.img := rfl
@[simp] theorem State.setFuses_links (f : SecFuses) : (s.setFuses f).links = s.links := rfl
@[simp] theorem State.setFuses_twin (f : SecFuses) : (s.setFuses f).twin = s.twin := rfl
@[simp] theorem State.setFuses_snoops (f : SecFuses) : (s.setFuses f).snoops = s.snoops := rfl
@[simp] theorem State.setFuses_thermal (f : SecFuses) : (s.setFuses f).thermal = s.thermal := rfl

/-! ## setSec -/

@[simp] theorem State.setSec_pending (x : Sec) : (s.setSec x).pending = s.pending := rfl
@[simp] theorem State.setSec_emits (x : Sec) : (s.setSec x).emits = s.emits := rfl
@[simp] theorem State.setSec_now (x : Sec) : (s.setSec x).now = s.now := rfl
@[simp] theorem State.setSec_fresh (x : Sec) : (s.setSec x).fresh = s.fresh := rfl
@[simp] theorem State.setSec_csr (x : Sec) : (s.setSec x).csr = s.csr := rfl
@[simp] theorem State.setSec_captures (x : Sec) : (s.setSec x).captures = s.captures := rfl
@[simp] theorem State.setSec_held (x : Sec) : (s.setSec x).held = s.held := rfl
@[simp] theorem State.setSec_gbq (x : Sec) : (s.setSec x).gbq = s.gbq := rfl
@[simp] theorem State.setSec_faces (x : Sec) : (s.setSec x).faces = s.faces := rfl
@[simp] theorem State.setSec_slices (x : Sec) : (s.setSec x).slices = s.slices := rfl
@[simp] theorem State.setSec_rams (x : Sec) : (s.setSec x).rams = s.rams := rfl
@[simp] theorem State.setSec_cells (x : Sec) : (s.setSec x).cells = s.cells := rfl
@[simp] theorem State.setSec_gates (x : Sec) : (s.setSec x).gates = s.gates := rfl
@[simp] theorem State.setSec_ports (x : Sec) : (s.setSec x).ports = s.ports := rfl
@[simp] theorem State.setSec_bram (x : Sec) : (s.setSec x).bram = s.bram := rfl
@[simp] theorem State.setSec_bwin (x : Sec) : (s.setSec x).bwin = s.bwin := rfl
@[simp] theorem State.setSec_pads (x : Sec) : (s.setSec x).pads = s.pads := rfl
@[simp] theorem State.setSec_regions (x : Sec) : (s.setSec x).regions = s.regions := rfl
@[simp] theorem State.setSec_planes (x : Sec) : (s.setSec x).planes = s.planes := rfl
@[simp] theorem State.setSec_latches (x : Sec) : (s.setSec x).latches = s.latches := rfl
@[simp] theorem State.setSec_imgPlanes (x : Sec) : (s.setSec x).imgPlanes = s.imgPlanes := rfl
@[simp] theorem State.setSec_erasing (x : Sec) : (s.setSec x).erasing = s.erasing := rfl
@[simp] theorem State.setSec_heldLoads (x : Sec) : (s.setSec x).heldLoads = s.heldLoads := rfl
@[simp] theorem State.setSec_corrq (x : Sec) : (s.setSec x).corrq = s.corrq := rfl
@[simp] theorem State.setSec_walkq (x : Sec) : (s.setSec x).walkq = s.walkq := rfl
@[simp] theorem State.setSec_checks (x : Sec) : (s.setSec x).checks = s.checks := rfl
@[simp] theorem State.setSec_passDone (x : Sec) : (s.setSec x).passDone = s.passDone := rfl
@[simp] theorem State.setSec_heldVisits (x : Sec) : (s.setSec x).heldVisits = s.heldVisits := rfl
@[simp] theorem State.setSec_stackLoaded (x : Sec) : (s.setSec x).stackLoaded = s.stackLoaded := rfl
@[simp] theorem State.setSec_fuses (x : Sec) : (s.setSec x).fuses = s.fuses := rfl
@[simp] theorem State.setSec_underTest (x : Sec) : (s.setSec x).underTest = s.underTest := rfl
@[simp] theorem State.setSec_keptByTest (x : Sec) : (s.setSec x).keptByTest = s.keptByTest := rfl
@[simp] theorem State.setSec_outst (x : Sec) : (s.setSec x).outst = s.outst := rfl
@[simp] theorem State.setSec_unsent (x : Sec) : (s.setSec x).unsent = s.unsent := rfl
@[simp] theorem State.setSec_clkStart (x : Sec) : (s.setSec x).clkStart = s.clkStart := rfl
@[simp] theorem State.setSec_park (x : Sec) : (s.setSec x).park = s.park := rfl
@[simp] theorem State.setSec_fillq (x : Sec) : (s.setSec x).fillq = s.fillq := rfl
@[simp] theorem State.setSec_tickGen (x : Sec) : (s.setSec x).tickGen = s.tickGen := rfl
@[simp] theorem State.setSec_threads (x : Sec) : (s.setSec x).threads = s.threads := rfl
@[simp] theorem State.setSec_predictor (x : Sec) : (s.setSec x).predictor = s.predictor := rfl
@[simp] theorem State.setSec_rpath (x : Sec) : (s.setSec x).rpath = s.rpath := rfl
@[simp] theorem State.setSec_imemErr (x : Sec) : (s.setSec x).imemErr = s.imemErr := rfl
@[simp] theorem State.setSec_trace (x : Sec) : (s.setSec x).trace = s.trace := rfl
@[simp] theorem State.setSec_mirr (x : Sec) : (s.setSec x).mirr = s.mirr := rfl
@[simp] theorem State.setSec_snapReq (x : Sec) : (s.setSec x).snapReq = s.snapReq := rfl
@[simp] theorem State.setSec_gbars (x : Sec) : (s.setSec x).gbars = s.gbars := rfl
@[simp] theorem State.setSec_doms (x : Sec) : (s.setSec x).doms = s.doms := rfl
@[simp] theorem State.setSec_bufs (x : Sec) : (s.setSec x).bufs = s.bufs := rfl
@[simp] theorem State.setSec_deliv (x : Sec) : (s.setSec x).deliv = s.deliv := rfl
@[simp] theorem State.setSec_expiries (x : Sec) : (s.setSec x).expiries = s.expiries := rfl
@[simp] theorem State.setSec_epoch (x : Sec) : (s.setSec x).epoch = s.epoch := rfl
@[simp] theorem State.setSec_couriers (x : Sec) : (s.setSec x).couriers = s.couriers := rfl
@[simp] theorem State.setSec_larder (x : Sec) : (s.setSec x).larder = s.larder := rfl
@[simp] theorem State.setSec_spad (x : Sec) : (s.setSec x).spad = s.spad := rfl
@[simp] theorem State.setSec_banks (x : Sec) : (s.setSec x).banks = s.banks := rfl
@[simp] theorem State.setSec_trackers (x : Sec) : (s.setSec x).trackers = s.trackers := rfl
@[simp] theorem State.setSec_spares (x : Sec) : (s.setSec x).spares = s.spares := rfl
@[simp] theorem State.setSec_porters (x : Sec) : (s.setSec x).porters = s.porters := rfl
@[simp] theorem State.setSec_sdram (x : Sec) : (s.setSec x).sdram = s.sdram := rfl
@[simp] theorem State.setSec_jnl (x : Sec) : (s.setSec x).jnl = s.jnl := rfl
@[simp] theorem State.setSec_desk (x : Sec) : (s.setSec x).desk = s.desk := rfl
@[simp] theorem State.setSec_start (x : Sec) : (s.setSec x).start = s.start := rfl
@[simp] theorem State.setSec_lcFuses (x : Sec) : (s.setSec x).lcFuses = s.lcFuses := rfl
@[simp] theorem State.setSec_sec (x : Sec) : (s.setSec x).sec = x := rfl
@[simp] theorem State.setSec_engines (x : Sec) : (s.setSec x).engines = s.engines := rfl
@[simp] theorem State.setSec_selfTest (x : Sec) : (s.setSec x).selfTest = s.selfTest := rfl
@[simp] theorem State.setSec_jtag (x : Sec) : (s.setSec x).jtag = s.jtag := rfl
@[simp] theorem State.setSec_img (x : Sec) : (s.setSec x).img = s.img := rfl
@[simp] theorem State.setSec_links (x : Sec) : (s.setSec x).links = s.links := rfl
@[simp] theorem State.setSec_twin (x : Sec) : (s.setSec x).twin = s.twin := rfl
@[simp] theorem State.setSec_snoops (x : Sec) : (s.setSec x).snoops = s.snoops := rfl
@[simp] theorem State.setSec_thermal (x : Sec) : (s.setSec x).thermal = s.thermal := rfl

/-! ## setSnoop -/

@[simp] theorem State.setSnoop_pending (u : Nat) (x : Snoop) : (s.setSnoop u x).pending = s.pending := rfl
@[simp] theorem State.setSnoop_emits (u : Nat) (x : Snoop) : (s.setSnoop u x).emits = s.emits := rfl
@[simp] theorem State.setSnoop_now (u : Nat) (x : Snoop) : (s.setSnoop u x).now = s.now := rfl
@[simp] theorem State.setSnoop_fresh (u : Nat) (x : Snoop) : (s.setSnoop u x).fresh = s.fresh := rfl
@[simp] theorem State.setSnoop_csr (u : Nat) (x : Snoop) : (s.setSnoop u x).csr = s.csr := rfl
@[simp] theorem State.setSnoop_captures (u : Nat) (x : Snoop) : (s.setSnoop u x).captures = s.captures := rfl
@[simp] theorem State.setSnoop_held (u : Nat) (x : Snoop) : (s.setSnoop u x).held = s.held := rfl
@[simp] theorem State.setSnoop_gbq (u : Nat) (x : Snoop) : (s.setSnoop u x).gbq = s.gbq := rfl
@[simp] theorem State.setSnoop_faces (u : Nat) (x : Snoop) : (s.setSnoop u x).faces = s.faces := rfl
@[simp] theorem State.setSnoop_slices (u : Nat) (x : Snoop) : (s.setSnoop u x).slices = s.slices := rfl
@[simp] theorem State.setSnoop_rams (u : Nat) (x : Snoop) : (s.setSnoop u x).rams = s.rams := rfl
@[simp] theorem State.setSnoop_cells (u : Nat) (x : Snoop) : (s.setSnoop u x).cells = s.cells := rfl
@[simp] theorem State.setSnoop_gates (u : Nat) (x : Snoop) : (s.setSnoop u x).gates = s.gates := rfl
@[simp] theorem State.setSnoop_ports (u : Nat) (x : Snoop) : (s.setSnoop u x).ports = s.ports := rfl
@[simp] theorem State.setSnoop_bram (u : Nat) (x : Snoop) : (s.setSnoop u x).bram = s.bram := rfl
@[simp] theorem State.setSnoop_bwin (u : Nat) (x : Snoop) : (s.setSnoop u x).bwin = s.bwin := rfl
@[simp] theorem State.setSnoop_pads (u : Nat) (x : Snoop) : (s.setSnoop u x).pads = s.pads := rfl
@[simp] theorem State.setSnoop_regions (u : Nat) (x : Snoop) : (s.setSnoop u x).regions = s.regions := rfl
@[simp] theorem State.setSnoop_planes (u : Nat) (x : Snoop) : (s.setSnoop u x).planes = s.planes := rfl
@[simp] theorem State.setSnoop_latches (u : Nat) (x : Snoop) : (s.setSnoop u x).latches = s.latches := rfl
@[simp] theorem State.setSnoop_imgPlanes (u : Nat) (x : Snoop) : (s.setSnoop u x).imgPlanes = s.imgPlanes := rfl
@[simp] theorem State.setSnoop_erasing (u : Nat) (x : Snoop) : (s.setSnoop u x).erasing = s.erasing := rfl
@[simp] theorem State.setSnoop_heldLoads (u : Nat) (x : Snoop) : (s.setSnoop u x).heldLoads = s.heldLoads := rfl
@[simp] theorem State.setSnoop_corrq (u : Nat) (x : Snoop) : (s.setSnoop u x).corrq = s.corrq := rfl
@[simp] theorem State.setSnoop_walkq (u : Nat) (x : Snoop) : (s.setSnoop u x).walkq = s.walkq := rfl
@[simp] theorem State.setSnoop_checks (u : Nat) (x : Snoop) : (s.setSnoop u x).checks = s.checks := rfl
@[simp] theorem State.setSnoop_passDone (u : Nat) (x : Snoop) : (s.setSnoop u x).passDone = s.passDone := rfl
@[simp] theorem State.setSnoop_heldVisits (u : Nat) (x : Snoop) : (s.setSnoop u x).heldVisits = s.heldVisits := rfl
@[simp] theorem State.setSnoop_stackLoaded (u : Nat) (x : Snoop) : (s.setSnoop u x).stackLoaded = s.stackLoaded := rfl
@[simp] theorem State.setSnoop_fuses (u : Nat) (x : Snoop) : (s.setSnoop u x).fuses = s.fuses := rfl
@[simp] theorem State.setSnoop_underTest (u : Nat) (x : Snoop) : (s.setSnoop u x).underTest = s.underTest := rfl
@[simp] theorem State.setSnoop_keptByTest (u : Nat) (x : Snoop) : (s.setSnoop u x).keptByTest = s.keptByTest := rfl
@[simp] theorem State.setSnoop_outst (u : Nat) (x : Snoop) : (s.setSnoop u x).outst = s.outst := rfl
@[simp] theorem State.setSnoop_unsent (u : Nat) (x : Snoop) : (s.setSnoop u x).unsent = s.unsent := rfl
@[simp] theorem State.setSnoop_clkStart (u : Nat) (x : Snoop) : (s.setSnoop u x).clkStart = s.clkStart := rfl
@[simp] theorem State.setSnoop_park (u : Nat) (x : Snoop) : (s.setSnoop u x).park = s.park := rfl
@[simp] theorem State.setSnoop_fillq (u : Nat) (x : Snoop) : (s.setSnoop u x).fillq = s.fillq := rfl
@[simp] theorem State.setSnoop_tickGen (u : Nat) (x : Snoop) : (s.setSnoop u x).tickGen = s.tickGen := rfl
@[simp] theorem State.setSnoop_threads (u : Nat) (x : Snoop) : (s.setSnoop u x).threads = s.threads := rfl
@[simp] theorem State.setSnoop_predictor (u : Nat) (x : Snoop) : (s.setSnoop u x).predictor = s.predictor := rfl
@[simp] theorem State.setSnoop_rpath (u : Nat) (x : Snoop) : (s.setSnoop u x).rpath = s.rpath := rfl
@[simp] theorem State.setSnoop_imemErr (u : Nat) (x : Snoop) : (s.setSnoop u x).imemErr = s.imemErr := rfl
@[simp] theorem State.setSnoop_trace (u : Nat) (x : Snoop) : (s.setSnoop u x).trace = s.trace := rfl
@[simp] theorem State.setSnoop_mirr (u : Nat) (x : Snoop) : (s.setSnoop u x).mirr = s.mirr := rfl
@[simp] theorem State.setSnoop_snapReq (u : Nat) (x : Snoop) : (s.setSnoop u x).snapReq = s.snapReq := rfl
@[simp] theorem State.setSnoop_gbars (u : Nat) (x : Snoop) : (s.setSnoop u x).gbars = s.gbars := rfl
@[simp] theorem State.setSnoop_doms (u : Nat) (x : Snoop) : (s.setSnoop u x).doms = s.doms := rfl
@[simp] theorem State.setSnoop_bufs (u : Nat) (x : Snoop) : (s.setSnoop u x).bufs = s.bufs := rfl
@[simp] theorem State.setSnoop_deliv (u : Nat) (x : Snoop) : (s.setSnoop u x).deliv = s.deliv := rfl
@[simp] theorem State.setSnoop_expiries (u : Nat) (x : Snoop) : (s.setSnoop u x).expiries = s.expiries := rfl
@[simp] theorem State.setSnoop_epoch (u : Nat) (x : Snoop) : (s.setSnoop u x).epoch = s.epoch := rfl
@[simp] theorem State.setSnoop_couriers (u : Nat) (x : Snoop) : (s.setSnoop u x).couriers = s.couriers := rfl
@[simp] theorem State.setSnoop_larder (u : Nat) (x : Snoop) : (s.setSnoop u x).larder = s.larder := rfl
@[simp] theorem State.setSnoop_spad (u : Nat) (x : Snoop) : (s.setSnoop u x).spad = s.spad := rfl
@[simp] theorem State.setSnoop_banks (u : Nat) (x : Snoop) : (s.setSnoop u x).banks = s.banks := rfl
@[simp] theorem State.setSnoop_trackers (u : Nat) (x : Snoop) : (s.setSnoop u x).trackers = s.trackers := rfl
@[simp] theorem State.setSnoop_spares (u : Nat) (x : Snoop) : (s.setSnoop u x).spares = s.spares := rfl
@[simp] theorem State.setSnoop_porters (u : Nat) (x : Snoop) : (s.setSnoop u x).porters = s.porters := rfl
@[simp] theorem State.setSnoop_sdram (u : Nat) (x : Snoop) : (s.setSnoop u x).sdram = s.sdram := rfl
@[simp] theorem State.setSnoop_jnl (u : Nat) (x : Snoop) : (s.setSnoop u x).jnl = s.jnl := rfl
@[simp] theorem State.setSnoop_desk (u : Nat) (x : Snoop) : (s.setSnoop u x).desk = s.desk := rfl
@[simp] theorem State.setSnoop_start (u : Nat) (x : Snoop) : (s.setSnoop u x).start = s.start := rfl
@[simp] theorem State.setSnoop_lcFuses (u : Nat) (x : Snoop) : (s.setSnoop u x).lcFuses = s.lcFuses := rfl
@[simp] theorem State.setSnoop_sec (u : Nat) (x : Snoop) : (s.setSnoop u x).sec = s.sec := rfl
@[simp] theorem State.setSnoop_engines (u : Nat) (x : Snoop) : (s.setSnoop u x).engines = s.engines := rfl
@[simp] theorem State.setSnoop_selfTest (u : Nat) (x : Snoop) : (s.setSnoop u x).selfTest = s.selfTest := rfl
@[simp] theorem State.setSnoop_jtag (u : Nat) (x : Snoop) : (s.setSnoop u x).jtag = s.jtag := rfl
@[simp] theorem State.setSnoop_img (u : Nat) (x : Snoop) : (s.setSnoop u x).img = s.img := rfl
@[simp] theorem State.setSnoop_links (u : Nat) (x : Snoop) : (s.setSnoop u x).links = s.links := rfl
@[simp] theorem State.setSnoop_twin (u : Nat) (x : Snoop) : (s.setSnoop u x).twin = s.twin := rfl
@[simp] theorem State.setSnoop_snoops (u : Nat) (x : Snoop) : (s.setSnoop u x).snoops = storeSet {} u x s.snoops := rfl
@[simp] theorem State.setSnoop_thermal (u : Nat) (x : Snoop) : (s.setSnoop u x).thermal = s.thermal := rfl

/-! ## setStart -/

@[simp] theorem State.setStart_pending (x : Start) : (s.setStart x).pending = s.pending := rfl
@[simp] theorem State.setStart_emits (x : Start) : (s.setStart x).emits = s.emits := rfl
@[simp] theorem State.setStart_now (x : Start) : (s.setStart x).now = s.now := rfl
@[simp] theorem State.setStart_fresh (x : Start) : (s.setStart x).fresh = s.fresh := rfl
@[simp] theorem State.setStart_csr (x : Start) : (s.setStart x).csr = s.csr := rfl
@[simp] theorem State.setStart_captures (x : Start) : (s.setStart x).captures = s.captures := rfl
@[simp] theorem State.setStart_held (x : Start) : (s.setStart x).held = s.held := rfl
@[simp] theorem State.setStart_gbq (x : Start) : (s.setStart x).gbq = s.gbq := rfl
@[simp] theorem State.setStart_faces (x : Start) : (s.setStart x).faces = s.faces := rfl
@[simp] theorem State.setStart_slices (x : Start) : (s.setStart x).slices = s.slices := rfl
@[simp] theorem State.setStart_rams (x : Start) : (s.setStart x).rams = s.rams := rfl
@[simp] theorem State.setStart_cells (x : Start) : (s.setStart x).cells = s.cells := rfl
@[simp] theorem State.setStart_gates (x : Start) : (s.setStart x).gates = s.gates := rfl
@[simp] theorem State.setStart_ports (x : Start) : (s.setStart x).ports = s.ports := rfl
@[simp] theorem State.setStart_bram (x : Start) : (s.setStart x).bram = s.bram := rfl
@[simp] theorem State.setStart_bwin (x : Start) : (s.setStart x).bwin = s.bwin := rfl
@[simp] theorem State.setStart_pads (x : Start) : (s.setStart x).pads = s.pads := rfl
@[simp] theorem State.setStart_regions (x : Start) : (s.setStart x).regions = s.regions := rfl
@[simp] theorem State.setStart_planes (x : Start) : (s.setStart x).planes = s.planes := rfl
@[simp] theorem State.setStart_latches (x : Start) : (s.setStart x).latches = s.latches := rfl
@[simp] theorem State.setStart_imgPlanes (x : Start) : (s.setStart x).imgPlanes = s.imgPlanes := rfl
@[simp] theorem State.setStart_erasing (x : Start) : (s.setStart x).erasing = s.erasing := rfl
@[simp] theorem State.setStart_heldLoads (x : Start) : (s.setStart x).heldLoads = s.heldLoads := rfl
@[simp] theorem State.setStart_corrq (x : Start) : (s.setStart x).corrq = s.corrq := rfl
@[simp] theorem State.setStart_walkq (x : Start) : (s.setStart x).walkq = s.walkq := rfl
@[simp] theorem State.setStart_checks (x : Start) : (s.setStart x).checks = s.checks := rfl
@[simp] theorem State.setStart_passDone (x : Start) : (s.setStart x).passDone = s.passDone := rfl
@[simp] theorem State.setStart_heldVisits (x : Start) : (s.setStart x).heldVisits = s.heldVisits := rfl
@[simp] theorem State.setStart_stackLoaded (x : Start) : (s.setStart x).stackLoaded = s.stackLoaded := rfl
@[simp] theorem State.setStart_fuses (x : Start) : (s.setStart x).fuses = s.fuses := rfl
@[simp] theorem State.setStart_underTest (x : Start) : (s.setStart x).underTest = s.underTest := rfl
@[simp] theorem State.setStart_keptByTest (x : Start) : (s.setStart x).keptByTest = s.keptByTest := rfl
@[simp] theorem State.setStart_outst (x : Start) : (s.setStart x).outst = s.outst := rfl
@[simp] theorem State.setStart_unsent (x : Start) : (s.setStart x).unsent = s.unsent := rfl
@[simp] theorem State.setStart_clkStart (x : Start) : (s.setStart x).clkStart = s.clkStart := rfl
@[simp] theorem State.setStart_park (x : Start) : (s.setStart x).park = s.park := rfl
@[simp] theorem State.setStart_fillq (x : Start) : (s.setStart x).fillq = s.fillq := rfl
@[simp] theorem State.setStart_tickGen (x : Start) : (s.setStart x).tickGen = s.tickGen := rfl
@[simp] theorem State.setStart_threads (x : Start) : (s.setStart x).threads = s.threads := rfl
@[simp] theorem State.setStart_predictor (x : Start) : (s.setStart x).predictor = s.predictor := rfl
@[simp] theorem State.setStart_rpath (x : Start) : (s.setStart x).rpath = s.rpath := rfl
@[simp] theorem State.setStart_imemErr (x : Start) : (s.setStart x).imemErr = s.imemErr := rfl
@[simp] theorem State.setStart_trace (x : Start) : (s.setStart x).trace = s.trace := rfl
@[simp] theorem State.setStart_mirr (x : Start) : (s.setStart x).mirr = s.mirr := rfl
@[simp] theorem State.setStart_snapReq (x : Start) : (s.setStart x).snapReq = s.snapReq := rfl
@[simp] theorem State.setStart_gbars (x : Start) : (s.setStart x).gbars = s.gbars := rfl
@[simp] theorem State.setStart_doms (x : Start) : (s.setStart x).doms = s.doms := rfl
@[simp] theorem State.setStart_bufs (x : Start) : (s.setStart x).bufs = s.bufs := rfl
@[simp] theorem State.setStart_deliv (x : Start) : (s.setStart x).deliv = s.deliv := rfl
@[simp] theorem State.setStart_expiries (x : Start) : (s.setStart x).expiries = s.expiries := rfl
@[simp] theorem State.setStart_epoch (x : Start) : (s.setStart x).epoch = s.epoch := rfl
@[simp] theorem State.setStart_couriers (x : Start) : (s.setStart x).couriers = s.couriers := rfl
@[simp] theorem State.setStart_larder (x : Start) : (s.setStart x).larder = s.larder := rfl
@[simp] theorem State.setStart_spad (x : Start) : (s.setStart x).spad = s.spad := rfl
@[simp] theorem State.setStart_banks (x : Start) : (s.setStart x).banks = s.banks := rfl
@[simp] theorem State.setStart_trackers (x : Start) : (s.setStart x).trackers = s.trackers := rfl
@[simp] theorem State.setStart_spares (x : Start) : (s.setStart x).spares = s.spares := rfl
@[simp] theorem State.setStart_porters (x : Start) : (s.setStart x).porters = s.porters := rfl
@[simp] theorem State.setStart_sdram (x : Start) : (s.setStart x).sdram = s.sdram := rfl
@[simp] theorem State.setStart_jnl (x : Start) : (s.setStart x).jnl = s.jnl := rfl
@[simp] theorem State.setStart_desk (x : Start) : (s.setStart x).desk = s.desk := rfl
@[simp] theorem State.setStart_start (x : Start) : (s.setStart x).start = x := rfl
@[simp] theorem State.setStart_lcFuses (x : Start) : (s.setStart x).lcFuses = s.lcFuses := rfl
@[simp] theorem State.setStart_sec (x : Start) : (s.setStart x).sec = s.sec := rfl
@[simp] theorem State.setStart_engines (x : Start) : (s.setStart x).engines = s.engines := rfl
@[simp] theorem State.setStart_selfTest (x : Start) : (s.setStart x).selfTest = s.selfTest := rfl
@[simp] theorem State.setStart_jtag (x : Start) : (s.setStart x).jtag = s.jtag := rfl
@[simp] theorem State.setStart_img (x : Start) : (s.setStart x).img = s.img := rfl
@[simp] theorem State.setStart_links (x : Start) : (s.setStart x).links = s.links := rfl
@[simp] theorem State.setStart_twin (x : Start) : (s.setStart x).twin = s.twin := rfl
@[simp] theorem State.setStart_snoops (x : Start) : (s.setStart x).snoops = s.snoops := rfl
@[simp] theorem State.setStart_thermal (x : Start) : (s.setStart x).thermal = s.thermal := rfl

/-! ## setEngine -/

@[simp] theorem State.setEngine_pending (e : Nat) (x : Engine) : (s.setEngine e x).pending = s.pending := rfl
@[simp] theorem State.setEngine_emits (e : Nat) (x : Engine) : (s.setEngine e x).emits = s.emits := rfl
@[simp] theorem State.setEngine_now (e : Nat) (x : Engine) : (s.setEngine e x).now = s.now := rfl
@[simp] theorem State.setEngine_fresh (e : Nat) (x : Engine) : (s.setEngine e x).fresh = s.fresh := rfl
@[simp] theorem State.setEngine_csr (e : Nat) (x : Engine) : (s.setEngine e x).csr = s.csr := rfl
@[simp] theorem State.setEngine_captures (e : Nat) (x : Engine) : (s.setEngine e x).captures = s.captures := rfl
@[simp] theorem State.setEngine_held (e : Nat) (x : Engine) : (s.setEngine e x).held = s.held := rfl
@[simp] theorem State.setEngine_gbq (e : Nat) (x : Engine) : (s.setEngine e x).gbq = s.gbq := rfl
@[simp] theorem State.setEngine_faces (e : Nat) (x : Engine) : (s.setEngine e x).faces = s.faces := rfl
@[simp] theorem State.setEngine_slices (e : Nat) (x : Engine) : (s.setEngine e x).slices = s.slices := rfl
@[simp] theorem State.setEngine_rams (e : Nat) (x : Engine) : (s.setEngine e x).rams = s.rams := rfl
@[simp] theorem State.setEngine_cells (e : Nat) (x : Engine) : (s.setEngine e x).cells = s.cells := rfl
@[simp] theorem State.setEngine_gates (e : Nat) (x : Engine) : (s.setEngine e x).gates = s.gates := rfl
@[simp] theorem State.setEngine_ports (e : Nat) (x : Engine) : (s.setEngine e x).ports = s.ports := rfl
@[simp] theorem State.setEngine_bram (e : Nat) (x : Engine) : (s.setEngine e x).bram = s.bram := rfl
@[simp] theorem State.setEngine_bwin (e : Nat) (x : Engine) : (s.setEngine e x).bwin = s.bwin := rfl
@[simp] theorem State.setEngine_pads (e : Nat) (x : Engine) : (s.setEngine e x).pads = s.pads := rfl
@[simp] theorem State.setEngine_regions (e : Nat) (x : Engine) : (s.setEngine e x).regions = s.regions := rfl
@[simp] theorem State.setEngine_planes (e : Nat) (x : Engine) : (s.setEngine e x).planes = s.planes := rfl
@[simp] theorem State.setEngine_latches (e : Nat) (x : Engine) : (s.setEngine e x).latches = s.latches := rfl
@[simp] theorem State.setEngine_imgPlanes (e : Nat) (x : Engine) : (s.setEngine e x).imgPlanes = s.imgPlanes := rfl
@[simp] theorem State.setEngine_erasing (e : Nat) (x : Engine) : (s.setEngine e x).erasing = s.erasing := rfl
@[simp] theorem State.setEngine_heldLoads (e : Nat) (x : Engine) : (s.setEngine e x).heldLoads = s.heldLoads := rfl
@[simp] theorem State.setEngine_corrq (e : Nat) (x : Engine) : (s.setEngine e x).corrq = s.corrq := rfl
@[simp] theorem State.setEngine_walkq (e : Nat) (x : Engine) : (s.setEngine e x).walkq = s.walkq := rfl
@[simp] theorem State.setEngine_checks (e : Nat) (x : Engine) : (s.setEngine e x).checks = s.checks := rfl
@[simp] theorem State.setEngine_passDone (e : Nat) (x : Engine) : (s.setEngine e x).passDone = s.passDone := rfl
@[simp] theorem State.setEngine_heldVisits (e : Nat) (x : Engine) : (s.setEngine e x).heldVisits = s.heldVisits := rfl
@[simp] theorem State.setEngine_stackLoaded (e : Nat) (x : Engine) : (s.setEngine e x).stackLoaded = s.stackLoaded := rfl
@[simp] theorem State.setEngine_fuses (e : Nat) (x : Engine) : (s.setEngine e x).fuses = s.fuses := rfl
@[simp] theorem State.setEngine_underTest (e : Nat) (x : Engine) : (s.setEngine e x).underTest = s.underTest := rfl
@[simp] theorem State.setEngine_keptByTest (e : Nat) (x : Engine) : (s.setEngine e x).keptByTest = s.keptByTest := rfl
@[simp] theorem State.setEngine_outst (e : Nat) (x : Engine) : (s.setEngine e x).outst = s.outst := rfl
@[simp] theorem State.setEngine_unsent (e : Nat) (x : Engine) : (s.setEngine e x).unsent = s.unsent := rfl
@[simp] theorem State.setEngine_clkStart (e : Nat) (x : Engine) : (s.setEngine e x).clkStart = s.clkStart := rfl
@[simp] theorem State.setEngine_park (e : Nat) (x : Engine) : (s.setEngine e x).park = s.park := rfl
@[simp] theorem State.setEngine_fillq (e : Nat) (x : Engine) : (s.setEngine e x).fillq = s.fillq := rfl
@[simp] theorem State.setEngine_tickGen (e : Nat) (x : Engine) : (s.setEngine e x).tickGen = s.tickGen := rfl
@[simp] theorem State.setEngine_threads (e : Nat) (x : Engine) : (s.setEngine e x).threads = s.threads := rfl
@[simp] theorem State.setEngine_predictor (e : Nat) (x : Engine) : (s.setEngine e x).predictor = s.predictor := rfl
@[simp] theorem State.setEngine_rpath (e : Nat) (x : Engine) : (s.setEngine e x).rpath = s.rpath := rfl
@[simp] theorem State.setEngine_imemErr (e : Nat) (x : Engine) : (s.setEngine e x).imemErr = s.imemErr := rfl
@[simp] theorem State.setEngine_trace (e : Nat) (x : Engine) : (s.setEngine e x).trace = s.trace := rfl
@[simp] theorem State.setEngine_mirr (e : Nat) (x : Engine) : (s.setEngine e x).mirr = s.mirr := rfl
@[simp] theorem State.setEngine_snapReq (e : Nat) (x : Engine) : (s.setEngine e x).snapReq = s.snapReq := rfl
@[simp] theorem State.setEngine_gbars (e : Nat) (x : Engine) : (s.setEngine e x).gbars = s.gbars := rfl
@[simp] theorem State.setEngine_doms (e : Nat) (x : Engine) : (s.setEngine e x).doms = s.doms := rfl
@[simp] theorem State.setEngine_bufs (e : Nat) (x : Engine) : (s.setEngine e x).bufs = s.bufs := rfl
@[simp] theorem State.setEngine_deliv (e : Nat) (x : Engine) : (s.setEngine e x).deliv = s.deliv := rfl
@[simp] theorem State.setEngine_expiries (e : Nat) (x : Engine) : (s.setEngine e x).expiries = s.expiries := rfl
@[simp] theorem State.setEngine_epoch (e : Nat) (x : Engine) : (s.setEngine e x).epoch = s.epoch := rfl
@[simp] theorem State.setEngine_couriers (e : Nat) (x : Engine) : (s.setEngine e x).couriers = s.couriers := rfl
@[simp] theorem State.setEngine_larder (e : Nat) (x : Engine) : (s.setEngine e x).larder = s.larder := rfl
@[simp] theorem State.setEngine_spad (e : Nat) (x : Engine) : (s.setEngine e x).spad = s.spad := rfl
@[simp] theorem State.setEngine_banks (e : Nat) (x : Engine) : (s.setEngine e x).banks = s.banks := rfl
@[simp] theorem State.setEngine_trackers (e : Nat) (x : Engine) : (s.setEngine e x).trackers = s.trackers := rfl
@[simp] theorem State.setEngine_spares (e : Nat) (x : Engine) : (s.setEngine e x).spares = s.spares := rfl
@[simp] theorem State.setEngine_porters (e : Nat) (x : Engine) : (s.setEngine e x).porters = s.porters := rfl
@[simp] theorem State.setEngine_sdram (e : Nat) (x : Engine) : (s.setEngine e x).sdram = s.sdram := rfl
@[simp] theorem State.setEngine_jnl (e : Nat) (x : Engine) : (s.setEngine e x).jnl = s.jnl := rfl
@[simp] theorem State.setEngine_desk (e : Nat) (x : Engine) : (s.setEngine e x).desk = s.desk := rfl
@[simp] theorem State.setEngine_start (e : Nat) (x : Engine) : (s.setEngine e x).start = s.start := rfl
@[simp] theorem State.setEngine_lcFuses (e : Nat) (x : Engine) : (s.setEngine e x).lcFuses = s.lcFuses := rfl
@[simp] theorem State.setEngine_sec (e : Nat) (x : Engine) : (s.setEngine e x).sec = s.sec := rfl
@[simp] theorem State.setEngine_engines (e : Nat) (x : Engine) : (s.setEngine e x).engines = storeSet {} e x s.engines := rfl
@[simp] theorem State.setEngine_selfTest (e : Nat) (x : Engine) : (s.setEngine e x).selfTest = s.selfTest := rfl
@[simp] theorem State.setEngine_jtag (e : Nat) (x : Engine) : (s.setEngine e x).jtag = s.jtag := rfl
@[simp] theorem State.setEngine_img (e : Nat) (x : Engine) : (s.setEngine e x).img = s.img := rfl
@[simp] theorem State.setEngine_links (e : Nat) (x : Engine) : (s.setEngine e x).links = s.links := rfl
@[simp] theorem State.setEngine_twin (e : Nat) (x : Engine) : (s.setEngine e x).twin = s.twin := rfl
@[simp] theorem State.setEngine_snoops (e : Nat) (x : Engine) : (s.setEngine e x).snoops = s.snoops := rfl
@[simp] theorem State.setEngine_thermal (e : Nat) (x : Engine) : (s.setEngine e x).thermal = s.thermal := rfl

/-! ## setGbar -/

@[simp] theorem State.setGbar_pending (b : Nat) (x : GBar) : (s.setGbar b x).pending = s.pending := rfl
@[simp] theorem State.setGbar_emits (b : Nat) (x : GBar) : (s.setGbar b x).emits = s.emits := rfl
@[simp] theorem State.setGbar_now (b : Nat) (x : GBar) : (s.setGbar b x).now = s.now := rfl
@[simp] theorem State.setGbar_fresh (b : Nat) (x : GBar) : (s.setGbar b x).fresh = s.fresh := rfl
@[simp] theorem State.setGbar_csr (b : Nat) (x : GBar) : (s.setGbar b x).csr = s.csr := rfl
@[simp] theorem State.setGbar_captures (b : Nat) (x : GBar) : (s.setGbar b x).captures = s.captures := rfl
@[simp] theorem State.setGbar_held (b : Nat) (x : GBar) : (s.setGbar b x).held = s.held := rfl
@[simp] theorem State.setGbar_gbq (b : Nat) (x : GBar) : (s.setGbar b x).gbq = s.gbq := rfl
@[simp] theorem State.setGbar_faces (b : Nat) (x : GBar) : (s.setGbar b x).faces = s.faces := rfl
@[simp] theorem State.setGbar_slices (b : Nat) (x : GBar) : (s.setGbar b x).slices = s.slices := rfl
@[simp] theorem State.setGbar_rams (b : Nat) (x : GBar) : (s.setGbar b x).rams = s.rams := rfl
@[simp] theorem State.setGbar_cells (b : Nat) (x : GBar) : (s.setGbar b x).cells = s.cells := rfl
@[simp] theorem State.setGbar_gates (b : Nat) (x : GBar) : (s.setGbar b x).gates = s.gates := rfl
@[simp] theorem State.setGbar_ports (b : Nat) (x : GBar) : (s.setGbar b x).ports = s.ports := rfl
@[simp] theorem State.setGbar_bram (b : Nat) (x : GBar) : (s.setGbar b x).bram = s.bram := rfl
@[simp] theorem State.setGbar_bwin (b : Nat) (x : GBar) : (s.setGbar b x).bwin = s.bwin := rfl
@[simp] theorem State.setGbar_pads (b : Nat) (x : GBar) : (s.setGbar b x).pads = s.pads := rfl
@[simp] theorem State.setGbar_regions (b : Nat) (x : GBar) : (s.setGbar b x).regions = s.regions := rfl
@[simp] theorem State.setGbar_planes (b : Nat) (x : GBar) : (s.setGbar b x).planes = s.planes := rfl
@[simp] theorem State.setGbar_latches (b : Nat) (x : GBar) : (s.setGbar b x).latches = s.latches := rfl
@[simp] theorem State.setGbar_imgPlanes (b : Nat) (x : GBar) : (s.setGbar b x).imgPlanes = s.imgPlanes := rfl
@[simp] theorem State.setGbar_erasing (b : Nat) (x : GBar) : (s.setGbar b x).erasing = s.erasing := rfl
@[simp] theorem State.setGbar_heldLoads (b : Nat) (x : GBar) : (s.setGbar b x).heldLoads = s.heldLoads := rfl
@[simp] theorem State.setGbar_corrq (b : Nat) (x : GBar) : (s.setGbar b x).corrq = s.corrq := rfl
@[simp] theorem State.setGbar_walkq (b : Nat) (x : GBar) : (s.setGbar b x).walkq = s.walkq := rfl
@[simp] theorem State.setGbar_checks (b : Nat) (x : GBar) : (s.setGbar b x).checks = s.checks := rfl
@[simp] theorem State.setGbar_passDone (b : Nat) (x : GBar) : (s.setGbar b x).passDone = s.passDone := rfl
@[simp] theorem State.setGbar_heldVisits (b : Nat) (x : GBar) : (s.setGbar b x).heldVisits = s.heldVisits := rfl
@[simp] theorem State.setGbar_stackLoaded (b : Nat) (x : GBar) : (s.setGbar b x).stackLoaded = s.stackLoaded := rfl
@[simp] theorem State.setGbar_fuses (b : Nat) (x : GBar) : (s.setGbar b x).fuses = s.fuses := rfl
@[simp] theorem State.setGbar_underTest (b : Nat) (x : GBar) : (s.setGbar b x).underTest = s.underTest := rfl
@[simp] theorem State.setGbar_keptByTest (b : Nat) (x : GBar) : (s.setGbar b x).keptByTest = s.keptByTest := rfl
@[simp] theorem State.setGbar_outst (b : Nat) (x : GBar) : (s.setGbar b x).outst = s.outst := rfl
@[simp] theorem State.setGbar_unsent (b : Nat) (x : GBar) : (s.setGbar b x).unsent = s.unsent := rfl
@[simp] theorem State.setGbar_clkStart (b : Nat) (x : GBar) : (s.setGbar b x).clkStart = s.clkStart := rfl
@[simp] theorem State.setGbar_park (b : Nat) (x : GBar) : (s.setGbar b x).park = s.park := rfl
@[simp] theorem State.setGbar_fillq (b : Nat) (x : GBar) : (s.setGbar b x).fillq = s.fillq := rfl
@[simp] theorem State.setGbar_tickGen (b : Nat) (x : GBar) : (s.setGbar b x).tickGen = s.tickGen := rfl
@[simp] theorem State.setGbar_threads (b : Nat) (x : GBar) : (s.setGbar b x).threads = s.threads := rfl
@[simp] theorem State.setGbar_predictor (b : Nat) (x : GBar) : (s.setGbar b x).predictor = s.predictor := rfl
@[simp] theorem State.setGbar_rpath (b : Nat) (x : GBar) : (s.setGbar b x).rpath = s.rpath := rfl
@[simp] theorem State.setGbar_imemErr (b : Nat) (x : GBar) : (s.setGbar b x).imemErr = s.imemErr := rfl
@[simp] theorem State.setGbar_trace (b : Nat) (x : GBar) : (s.setGbar b x).trace = s.trace := rfl
@[simp] theorem State.setGbar_mirr (b : Nat) (x : GBar) : (s.setGbar b x).mirr = s.mirr := rfl
@[simp] theorem State.setGbar_snapReq (b : Nat) (x : GBar) : (s.setGbar b x).snapReq = s.snapReq := rfl
@[simp] theorem State.setGbar_gbars (b : Nat) (x : GBar) : (s.setGbar b x).gbars = storeSet {} b x s.gbars := rfl
@[simp] theorem State.setGbar_doms (b : Nat) (x : GBar) : (s.setGbar b x).doms = s.doms := rfl
@[simp] theorem State.setGbar_bufs (b : Nat) (x : GBar) : (s.setGbar b x).bufs = s.bufs := rfl
@[simp] theorem State.setGbar_deliv (b : Nat) (x : GBar) : (s.setGbar b x).deliv = s.deliv := rfl
@[simp] theorem State.setGbar_expiries (b : Nat) (x : GBar) : (s.setGbar b x).expiries = s.expiries := rfl
@[simp] theorem State.setGbar_epoch (b : Nat) (x : GBar) : (s.setGbar b x).epoch = s.epoch := rfl
@[simp] theorem State.setGbar_couriers (b : Nat) (x : GBar) : (s.setGbar b x).couriers = s.couriers := rfl
@[simp] theorem State.setGbar_larder (b : Nat) (x : GBar) : (s.setGbar b x).larder = s.larder := rfl
@[simp] theorem State.setGbar_spad (b : Nat) (x : GBar) : (s.setGbar b x).spad = s.spad := rfl
@[simp] theorem State.setGbar_banks (b : Nat) (x : GBar) : (s.setGbar b x).banks = s.banks := rfl
@[simp] theorem State.setGbar_trackers (b : Nat) (x : GBar) : (s.setGbar b x).trackers = s.trackers := rfl
@[simp] theorem State.setGbar_spares (b : Nat) (x : GBar) : (s.setGbar b x).spares = s.spares := rfl
@[simp] theorem State.setGbar_porters (b : Nat) (x : GBar) : (s.setGbar b x).porters = s.porters := rfl
@[simp] theorem State.setGbar_sdram (b : Nat) (x : GBar) : (s.setGbar b x).sdram = s.sdram := rfl
@[simp] theorem State.setGbar_jnl (b : Nat) (x : GBar) : (s.setGbar b x).jnl = s.jnl := rfl
@[simp] theorem State.setGbar_desk (b : Nat) (x : GBar) : (s.setGbar b x).desk = s.desk := rfl
@[simp] theorem State.setGbar_start (b : Nat) (x : GBar) : (s.setGbar b x).start = s.start := rfl
@[simp] theorem State.setGbar_lcFuses (b : Nat) (x : GBar) : (s.setGbar b x).lcFuses = s.lcFuses := rfl
@[simp] theorem State.setGbar_sec (b : Nat) (x : GBar) : (s.setGbar b x).sec = s.sec := rfl
@[simp] theorem State.setGbar_engines (b : Nat) (x : GBar) : (s.setGbar b x).engines = s.engines := rfl
@[simp] theorem State.setGbar_selfTest (b : Nat) (x : GBar) : (s.setGbar b x).selfTest = s.selfTest := rfl
@[simp] theorem State.setGbar_jtag (b : Nat) (x : GBar) : (s.setGbar b x).jtag = s.jtag := rfl
@[simp] theorem State.setGbar_img (b : Nat) (x : GBar) : (s.setGbar b x).img = s.img := rfl
@[simp] theorem State.setGbar_links (b : Nat) (x : GBar) : (s.setGbar b x).links = s.links := rfl
@[simp] theorem State.setGbar_twin (b : Nat) (x : GBar) : (s.setGbar b x).twin = s.twin := rfl
@[simp] theorem State.setGbar_snoops (b : Nat) (x : GBar) : (s.setGbar b x).snoops = s.snoops := rfl
@[simp] theorem State.setGbar_thermal (b : Nat) (x : GBar) : (s.setGbar b x).thermal = s.thermal := rfl

/-! ## setTwin -/

@[simp] theorem State.setTwin_pending (t : Twin) : (s.setTwin t).pending = s.pending := rfl
@[simp] theorem State.setTwin_emits (t : Twin) : (s.setTwin t).emits = s.emits := rfl
@[simp] theorem State.setTwin_now (t : Twin) : (s.setTwin t).now = s.now := rfl
@[simp] theorem State.setTwin_fresh (t : Twin) : (s.setTwin t).fresh = s.fresh := rfl
@[simp] theorem State.setTwin_csr (t : Twin) : (s.setTwin t).csr = s.csr := rfl
@[simp] theorem State.setTwin_captures (t : Twin) : (s.setTwin t).captures = s.captures := rfl
@[simp] theorem State.setTwin_held (t : Twin) : (s.setTwin t).held = s.held := rfl
@[simp] theorem State.setTwin_gbq (t : Twin) : (s.setTwin t).gbq = s.gbq := rfl
@[simp] theorem State.setTwin_faces (t : Twin) : (s.setTwin t).faces = s.faces := rfl
@[simp] theorem State.setTwin_slices (t : Twin) : (s.setTwin t).slices = s.slices := rfl
@[simp] theorem State.setTwin_rams (t : Twin) : (s.setTwin t).rams = s.rams := rfl
@[simp] theorem State.setTwin_cells (t : Twin) : (s.setTwin t).cells = s.cells := rfl
@[simp] theorem State.setTwin_gates (t : Twin) : (s.setTwin t).gates = s.gates := rfl
@[simp] theorem State.setTwin_ports (t : Twin) : (s.setTwin t).ports = s.ports := rfl
@[simp] theorem State.setTwin_bram (t : Twin) : (s.setTwin t).bram = s.bram := rfl
@[simp] theorem State.setTwin_bwin (t : Twin) : (s.setTwin t).bwin = s.bwin := rfl
@[simp] theorem State.setTwin_pads (t : Twin) : (s.setTwin t).pads = s.pads := rfl
@[simp] theorem State.setTwin_regions (t : Twin) : (s.setTwin t).regions = s.regions := rfl
@[simp] theorem State.setTwin_planes (t : Twin) : (s.setTwin t).planes = s.planes := rfl
@[simp] theorem State.setTwin_latches (t : Twin) : (s.setTwin t).latches = s.latches := rfl
@[simp] theorem State.setTwin_imgPlanes (t : Twin) : (s.setTwin t).imgPlanes = s.imgPlanes := rfl
@[simp] theorem State.setTwin_erasing (t : Twin) : (s.setTwin t).erasing = s.erasing := rfl
@[simp] theorem State.setTwin_heldLoads (t : Twin) : (s.setTwin t).heldLoads = s.heldLoads := rfl
@[simp] theorem State.setTwin_corrq (t : Twin) : (s.setTwin t).corrq = s.corrq := rfl
@[simp] theorem State.setTwin_walkq (t : Twin) : (s.setTwin t).walkq = s.walkq := rfl
@[simp] theorem State.setTwin_checks (t : Twin) : (s.setTwin t).checks = s.checks := rfl
@[simp] theorem State.setTwin_passDone (t : Twin) : (s.setTwin t).passDone = s.passDone := rfl
@[simp] theorem State.setTwin_heldVisits (t : Twin) : (s.setTwin t).heldVisits = s.heldVisits := rfl
@[simp] theorem State.setTwin_stackLoaded (t : Twin) : (s.setTwin t).stackLoaded = s.stackLoaded := rfl
@[simp] theorem State.setTwin_fuses (t : Twin) : (s.setTwin t).fuses = s.fuses := rfl
@[simp] theorem State.setTwin_underTest (t : Twin) : (s.setTwin t).underTest = s.underTest := rfl
@[simp] theorem State.setTwin_keptByTest (t : Twin) : (s.setTwin t).keptByTest = s.keptByTest := rfl
@[simp] theorem State.setTwin_outst (t : Twin) : (s.setTwin t).outst = s.outst := rfl
@[simp] theorem State.setTwin_unsent (t : Twin) : (s.setTwin t).unsent = s.unsent := rfl
@[simp] theorem State.setTwin_clkStart (t : Twin) : (s.setTwin t).clkStart = s.clkStart := rfl
@[simp] theorem State.setTwin_park (t : Twin) : (s.setTwin t).park = s.park := rfl
@[simp] theorem State.setTwin_fillq (t : Twin) : (s.setTwin t).fillq = s.fillq := rfl
@[simp] theorem State.setTwin_tickGen (t : Twin) : (s.setTwin t).tickGen = s.tickGen := rfl
@[simp] theorem State.setTwin_threads (t : Twin) : (s.setTwin t).threads = s.threads := rfl
@[simp] theorem State.setTwin_predictor (t : Twin) : (s.setTwin t).predictor = s.predictor := rfl
@[simp] theorem State.setTwin_rpath (t : Twin) : (s.setTwin t).rpath = s.rpath := rfl
@[simp] theorem State.setTwin_imemErr (t : Twin) : (s.setTwin t).imemErr = s.imemErr := rfl
@[simp] theorem State.setTwin_trace (t : Twin) : (s.setTwin t).trace = s.trace := rfl
@[simp] theorem State.setTwin_mirr (t : Twin) : (s.setTwin t).mirr = s.mirr := rfl
@[simp] theorem State.setTwin_snapReq (t : Twin) : (s.setTwin t).snapReq = s.snapReq := rfl
@[simp] theorem State.setTwin_gbars (t : Twin) : (s.setTwin t).gbars = s.gbars := rfl
@[simp] theorem State.setTwin_doms (t : Twin) : (s.setTwin t).doms = s.doms := rfl
@[simp] theorem State.setTwin_bufs (t : Twin) : (s.setTwin t).bufs = s.bufs := rfl
@[simp] theorem State.setTwin_deliv (t : Twin) : (s.setTwin t).deliv = s.deliv := rfl
@[simp] theorem State.setTwin_expiries (t : Twin) : (s.setTwin t).expiries = s.expiries := rfl
@[simp] theorem State.setTwin_epoch (t : Twin) : (s.setTwin t).epoch = s.epoch := rfl
@[simp] theorem State.setTwin_couriers (t : Twin) : (s.setTwin t).couriers = s.couriers := rfl
@[simp] theorem State.setTwin_larder (t : Twin) : (s.setTwin t).larder = s.larder := rfl
@[simp] theorem State.setTwin_spad (t : Twin) : (s.setTwin t).spad = s.spad := rfl
@[simp] theorem State.setTwin_banks (t : Twin) : (s.setTwin t).banks = s.banks := rfl
@[simp] theorem State.setTwin_trackers (t : Twin) : (s.setTwin t).trackers = s.trackers := rfl
@[simp] theorem State.setTwin_spares (t : Twin) : (s.setTwin t).spares = s.spares := rfl
@[simp] theorem State.setTwin_porters (t : Twin) : (s.setTwin t).porters = s.porters := rfl
@[simp] theorem State.setTwin_sdram (t : Twin) : (s.setTwin t).sdram = s.sdram := rfl
@[simp] theorem State.setTwin_jnl (t : Twin) : (s.setTwin t).jnl = s.jnl := rfl
@[simp] theorem State.setTwin_desk (t : Twin) : (s.setTwin t).desk = s.desk := rfl
@[simp] theorem State.setTwin_start (t : Twin) : (s.setTwin t).start = s.start := rfl
@[simp] theorem State.setTwin_lcFuses (t : Twin) : (s.setTwin t).lcFuses = s.lcFuses := rfl
@[simp] theorem State.setTwin_sec (t : Twin) : (s.setTwin t).sec = s.sec := rfl
@[simp] theorem State.setTwin_engines (t : Twin) : (s.setTwin t).engines = s.engines := rfl
@[simp] theorem State.setTwin_selfTest (t : Twin) : (s.setTwin t).selfTest = s.selfTest := rfl
@[simp] theorem State.setTwin_jtag (t : Twin) : (s.setTwin t).jtag = s.jtag := rfl
@[simp] theorem State.setTwin_img (t : Twin) : (s.setTwin t).img = s.img := rfl
@[simp] theorem State.setTwin_links (t : Twin) : (s.setTwin t).links = s.links := rfl
@[simp] theorem State.setTwin_twin (t : Twin) : (s.setTwin t).twin = t := rfl
@[simp] theorem State.setTwin_snoops (t : Twin) : (s.setTwin t).snoops = s.snoops := rfl
@[simp] theorem State.setTwin_thermal (t : Twin) : (s.setTwin t).thermal = s.thermal := rfl

/-! ## Register fields -/

theorem State.rd_of_csr (s t : State) (f : Fld) (h : t.csr = s.csr) : t.rd f = s.rd f := by
  unfold State.rd; rw [h]

@[simp] theorem State.setRegion_rd (n : Nat) (r : Region) (fld : Fld) : (s.setRegion n r).rd fld = s.rd fld := rfl
@[simp] theorem State.setPort_rd (n p : Nat) (x : Port) (fld : Fld) : (s.setPort n p x).rd fld = s.rd fld := rfl
@[simp] theorem State.setThread_rd (t : Nat) (x : Thread) (fld : Fld) : (s.setThread t x).rd fld = s.rd fld := rfl
@[simp] theorem State.setDom_rd (d : Nat) (x : Dom) (fld : Fld) : (s.setDom d x).rd fld = s.rd fld := rfl
@[simp] theorem State.setPad_rd (b : Nat) (x : Pads) (fld : Fld) : (s.setPad b x).rd fld = s.rd fld := rfl
@[simp] theorem State.quiet_rd (fld : Fld) : (s.quiet).rd fld = s.rd fld := rfl
@[simp] theorem State.emit_rd (e : Emit) (fld : Fld) : (s.emit e).rd fld = s.rd fld := rfl
@[simp] theorem State.drawn_rd (fld : Fld) : (s.drawn).rd fld = s.rd fld := rfl
@[simp] theorem State.setCourier_rd (c : Nat) (x : Courier) (fld : Fld) : (s.setCourier c x).rd fld = s.rd fld := rfl
@[simp] theorem State.setJtag_rd (x : Jtag) (fld : Fld) : (s.setJtag x).rd fld = s.rd fld := rfl
@[simp] theorem State.setImg_rd (x : Img) (fld : Fld) : (s.setImg x).rd fld = s.rd fld := rfl
@[simp] theorem State.setDesk_rd (d : Desk) (fld : Fld) : (s.setDesk d).rd fld = s.rd fld := rfl
@[simp] theorem State.setLink_rd (g : Nat) (x : Link) (fld : Fld) : (s.setLink g x).rd fld = s.rd fld := rfl
@[simp] theorem State.setBuf_rd (k : Nat) (x : NetBuf) (fld : Fld) : (s.setBuf k x).rd fld = s.rd fld := rfl
@[simp] theorem State.setBank_rd (b : Nat) (x : Bank) (fld : Fld) : (s.setBank b x).rd fld = s.rd fld := rfl
@[simp] theorem State.setThermal_rd (t : Thermal) (fld : Fld) : (s.setThermal t).rd fld = s.rd fld := rfl
@[simp] theorem State.setBankCell_rd (b off c : Nat) (fld : Fld) : (s.setBankCell b off c).rd fld = s.rd fld := rfl
@[simp] theorem State.setTrack_rd (t : Nat) (es : List TrackEntry) (fld : Fld) : (s.setTrack t es).rd fld = s.rd fld := rfl
@[simp] theorem State.setSpareSet_rd (k : Nat) (x : SpareSet) (fld : Fld) : (s.setSpareSet k x).rd fld = s.rd fld := rfl
@[simp] theorem State.setPorter_rd (d : Nat) (x : Porter) (fld : Fld) : (s.setPorter d x).rd fld = s.rd fld := rfl
@[simp] theorem State.setFuses_rd (f : SecFuses) (fld : Fld) : (s.setFuses f).rd fld = s.rd fld := rfl
@[simp] theorem State.setSec_rd (x : Sec) (fld : Fld) : (s.setSec x).rd fld = s.rd fld := rfl
@[simp] theorem State.setSnoop_rd (u : Nat) (x : Snoop) (fld : Fld) : (s.setSnoop u x).rd fld = s.rd fld := rfl
@[simp] theorem State.setStart_rd (x : Start) (fld : Fld) : (s.setStart x).rd fld = s.rd fld := rfl
@[simp] theorem State.setEngine_rd (e : Nat) (x : Engine) (fld : Fld) : (s.setEngine e x).rd fld = s.rd fld := rfl
@[simp] theorem State.setGbar_rd (b : Nat) (x : GBar) (fld : Fld) : (s.setGbar b x).rd fld = s.rd fld := rfl
@[simp] theorem State.setTwin_rd (t : Twin) (fld : Fld) : (s.setTwin t).rd fld = s.rd fld := rfl

/-- A read of the written field gives the value cut to the field's width. -/
@[simp] theorem State.wr_rd_same (f : Fld) (v : Nat) : (s.wr f v).rd f = v % 2 ^ f.width := by
  simp only [State.rd, State.wr, Laws.get_set_same, Nat.xor_assoc, Nat.xor_self, Nat.xor_zero, Nat.mod_mod]

/-- A write leaves every other field alone. -/
theorem State.wr_rd_ne (f g : Fld) (v : Nat) (h : g.key ≠ f.key) : (s.wr f v).rd g = s.rd g := by
  simp only [State.rd, State.wr, Laws.get_set_ne _ _ _ h]

/-- A field never reads a value wider than itself. -/
theorem State.rd_lt (f : Fld) : s.rd f < 2 ^ f.width := Nat.mod_lt _ (Nat.two_pow_pos _)

/-! ## Parts kept by number -/

theorem State.setRegion_region (n m : Nat) (x : Region) : (s.setRegion n x).region m = if m = n then x else s.region m := by
  simp only [State.region, State.setRegion, Laws.get_set]

theorem State.setThread_thread (t m : Nat) (x : Thread) : (s.setThread t x).thread m = if m = t then x else s.thread m := by
  simp only [State.thread, State.setThread, Laws.get_set]

theorem State.setDom_dom (d m : Nat) (x : Dom) : (s.setDom d x).dom m = if m = d then x else s.dom m := by
  simp only [State.dom, State.setDom, Laws.get_set]

theorem State.setPad_pad (b m : Nat) (x : Pads) : (s.setPad b x).pad m = if m = b then x else s.pad m := by
  simp only [State.pad, State.setPad, Laws.get_set]

@[simp] theorem State.wr_region (f : Fld) (v k : Nat) : (s.wr f v).region k = s.region k := rfl
@[simp] theorem State.emit_region (e : Emit) (k : Nat) : (s.emit e).region k = s.region k := rfl
@[simp] theorem State.quiet_region (k : Nat) : s.quiet.region k = s.region k := rfl
@[simp] theorem State.wr_thread (f : Fld) (v k : Nat) : (s.wr f v).thread k = s.thread k := rfl
@[simp] theorem State.emit_thread (e : Emit) (k : Nat) : (s.emit e).thread k = s.thread k := rfl
@[simp] theorem State.quiet_thread (k : Nat) : s.quiet.thread k = s.thread k := rfl
@[simp] theorem State.wr_dom (f : Fld) (v k : Nat) : (s.wr f v).dom k = s.dom k := rfl
@[simp] theorem State.emit_dom (e : Emit) (k : Nat) : (s.emit e).dom k = s.dom k := rfl
@[simp] theorem State.quiet_dom (k : Nat) : s.quiet.dom k = s.dom k := rfl
@[simp] theorem State.wr_pad (f : Fld) (v k : Nat) : (s.wr f v).pad k = s.pad k := rfl
@[simp] theorem State.emit_pad (e : Emit) (k : Nat) : (s.emit e).pad k = s.pad k := rfl
@[simp] theorem State.quiet_pad (k : Nat) : s.quiet.pad k = s.pad k := rfl

end Sys2Proof.Machine
end

