-- ==== Sys2Proof/Laws/Debug.lean ====
section
/-! SUPPORT. One access to the debug block along a path (19_debug_trace.md, R470 to R475): what `viaPath` does where the session may make
the access. -/

set_option Elab.async false

namespace Sys2Proof.Machine

/-- A write that the session's level permits has its register's effect and is answered OK. -/
theorem State.dbgAccess_write (s : State) (p : DPort) (ini : Ini) (off : Nat) (v : BitVec 32) (r : Reg) (hu : s.selfTest.undef = false)
    (hr : regAt (0x7000000 + off) = some r) (hl : s.levelNeeded r true v ≤ s.dlevel p) (ho : off < 0x800000) (ha : off % 4 = 0) :
    s.dbgAccess p ini true off v = (s.dbgWrite p ini (0x7000000 + off) r v, .ok, 0) := by
  have h1 : ¬ (0x800000 ≤ off ∨ off % 4 ≠ 0) := by omega
  have h2 : ¬ s.dlevel p < s.levelNeeded r true v := Nat.not_lt.2 hl
  simp only [State.dbgAccess, if_neg h1, hu, hr, if_neg h2, if_true, Bool.false_eq_true, if_false]

/-- A read that the session's level permits is answered with what the register shows. -/
theorem State.dbgAccess_read (s : State) (p : DPort) (ini : Ini) (off : Nat) (v : BitVec 32) (r : Reg) (hu : s.selfTest.undef = false)
    (hr : regAt (0x7000000 + off) = some r) (hl : s.levelNeeded r false v ≤ s.dlevel p) (ho : off < 0x800000) (ha : off % 4 = 0) :
    s.dbgAccess p ini false off v = ((s.dbgRead p ini (0x7000000 + off) r).1, .ok, (s.dbgRead p ini (0x7000000 + off) r).2) := by
  have h1 : ¬ (0x800000 ≤ off ∨ off % 4 ≠ 0) := by omega
  have h2 : ¬ s.dlevel p < s.levelNeeded r false v := Nat.not_lt.2 hl
  simp only [State.dbgAccess, if_neg h1, hu, hr, if_neg h2, Bool.false_eq_true, if_false]

/-- Only a write to DBG_AUTH binds the Olicor session. -/
theorem State.bindSession_of_ne (s : State) (ini : Ini) (w : Bool) (off : Nat) (v : BitVec 32) (h : off ≠ 0) :
    s.bindSession ini w off v = s := by
  have e : (off == 0) = false := by simpa using h
  simp only [State.bindSession, e, Bool.and_false, Bool.false_and, Bool.false_eq_true, if_false]

/-- A permitted write along the Olicor path, to another register than DBG_AUTH. -/
theorem State.viaPath_olicor_write (s : State) (ini : Ini) (off : Nat) (v : BitVec 32) (r : Reg) (he : s.sessionElsewhere ini = false)
    (hu : s.selfTest.undef = false) (hr : regAt (0x7000000 + off) = some r) (hl : s.levelNeeded r true v ≤ s.dlevel .olicor)
    (h0 : off ≠ 0) (ho : off < 0x800000) (ha : off % 4 = 0) :
    s.viaPath (.olicor ini) true off v = (s.dbgWrite .olicor ini (0x7000000 + off) r v).emit (.regAnswer ini .ok 0) := by
  simp only [State.viaPath, State.olicorAccess, he, Bool.false_eq_true, if_false, s.bindSession_of_ne ini true off v h0,
    s.dbgAccess_write .olicor ini off v r hu hr hl ho ha]

/-- A permitted write along the JTAG path. -/
theorem State.viaPath_jtag_write (s : State) (off : Nat) (v : BitVec 32) (r : Reg) (hi : s.jtag.ir = 0x10)
    (hu : s.selfTest.undef = false) (hr : regAt (0x7000000 + off) = some r) (hl : s.levelNeeded r true v ≤ s.dlevel .jtag)
    (ho : off < 0x800000) (ha : off % 4 = 0) :
    s.viaPath .jtag true off v = (((s.dbgWrite .jtag s.jtagIni (0x7000000 + off) r v).drawn.setJtag
      { (s.dbgWrite .jtag s.jtagIni (0x7000000 + off) r v).jtag with
        prev := some (off, .ok, (s.dbgWrite .jtag s.jtagIni (0x7000000 + off) r v).draw % 2 ^ 32) }).emit
        (.regAnswer s.jtagIni .ok 0)) := by
  simp only [State.viaPath, hi, if_true, State.jtagAccess, s.dbgAccess_write .jtag s.jtagIni off v r hu hr hl ho ha, Bool.true_or]

end Sys2Proof.Machine
end

