-- ==== Sys2Proof/Laws/Kept.lean ====
section
/-! SUPPORT. What few commands touch: no operation of the model changes the queue or the bins, and none but those of Laws/Fuses.lean the
fuses, the scratchpads, the block RAMs or the stored frames. One lemma per operation, in the order in which the operations are defined. -/

set_option Elab.async false
set_option linter.all false

namespace Sys2Proof.Machine

/-- What only few commands touch: the queue, the bins, the fuses, and the three memories: scratchpad bytes, block RAM rows, stored frames. -/
abbrev KeptData := List Instr × Fuses × SecFuses × Store Nat × Store (Option Nat) × Store Frame

/-- That part of a state. -/
def State.kept (s : State) : KeptData := (s.pending, s.fuses, s.lcFuses, s.spad, s.bram, s.planes)

theorem State.kept_eta (s : State) : (s.pending, s.fuses, s.lcFuses, s.spad, s.bram, s.planes) = s.kept := rfl
theorem State.kept_mk (pending : List Instr) (emits : List Emit) (now : Nat) (fresh : Nat) (csr : Store Nat) (captures : Store (Option Nat)) (held : Store (Option Nat)) (gbq : List GbEntry) (faces : Store Face) (slices : Store SliceRegs) (rams : Store RamPort) (cells : Store Cell) (gates : Store Nat) (ports : Store Port) (bram : Store (Option Nat)) (bwin : List WinAcc) (pads : Store Pads) (regions : Store Region) (planes : Store Frame) (latches : Store Frame) (imgPlanes : List (Nat × Nat)) (erasing : Option (Nat × Nat)) (heldLoads : List (Nat × Nat)) (corrq : List Corr) (walkq : List Corr) (checks : List Chk) (passDone : Bool × Bool) (heldVisits : List Nat) (stackLoaded : Bool) (fuses : Fuses) (underTest : List TestUnit) (keptByTest : List TestUnit) (outst : List Outst) (unsent : List (Nat × Access)) (clkStart : Store Nat) (park : List ParkEntry) (fillq : List Nat) (tickGen : TickGen) (threads : Store Thread) (predictor : Store Nat) (rpath : List PathCmd) (imemErr : Store Nat) (trace : Trace) (mirr : MirrSet) (snapReq : Option SnapReq) (gbars : Store GBar) (doms : Store Dom) (bufs : Store NetBuf) (deliv : List Deliv) (expiries : Store (List Nat)) (epoch : Option EpochChange) (couriers : Store Courier) (larder : Larder) (spad : Store Nat) (banks : Store Bank) (trackers : Store (List TrackEntry)) (spares : Store SpareSet) (porters : Store Porter) (sdram : Sdram) (jnl : Journal) (desk : Desk) (start : Start) (lcFuses : SecFuses) (sec : Sec) (engines : Store Engine) (selfTest : SelfTest) (jtag : Jtag) (img : Img) (links : Store Link) (twin : Twin) (snoops : Store Snoop) (thermal : Thermal) :
    State.kept ⟨pending, emits, now, fresh, csr, captures, held, gbq, faces, slices, rams, cells, gates, ports, bram, bwin, pads, regions, planes, latches, imgPlanes, erasing, heldLoads, corrq, walkq, checks, passDone, heldVisits, stackLoaded, fuses, underTest, keptByTest, outst, unsent, clkStart, park, fillq, tickGen, threads, predictor, rpath, imemErr, trace, mirr, snapReq, gbars, doms, bufs, deliv, expiries, epoch, couriers, larder, spad, banks, trackers, spares, porters, sdram, jnl, desk, start, lcFuses, sec, engines, selfTest, jtag, img, links, twin, snoops, thermal⟩ = (pending, fuses, lcFuses, spad, bram, planes) := rfl
theorem State.kept_ite (c : Prop) [Decidable c] (a b : State) :
    (if c then a else b).kept = if c then a.kept else b.kept := by split <;> rfl

theorem State.kept_foldl {α : Type} (l : List α) (f : State → α → State) (s : State) (h : ∀ s x, (f s x).kept = s.kept) :
    (l.foldl f s).kept = s.kept := by
  induction l generalizing s with
  | nil => rfl
  | cons x l ih => rw [List.foldl_cons, ih, h]

theorem State.kept_foldl_fst {α β : Type} (l : List α) (f : State × β → α → State × β) (a : State × β)
    (h : ∀ a x, (f a x).1.kept = a.1.kept) : (l.foldl f a).1.kept = a.1.kept := by
  induction l generalizing a with
  | nil => rfl
  | cons x l ih => rw [List.foldl_cons, ih, h]

theorem State.each_kept (s : State) (is : List Nat) (f : State → Nat → State) (h : ∀ s i, (f s i).kept = s.kept) :
    (s.each is f).kept = s.kept := State.kept_foldl is f s h


theorem State.enterPath_kept (s : State) (t : Nat) (n : Nat) (kind : RCmdKind) (bno : Nat) : (State.enterPath s t n kind bno).kept = s.kept := by
  unfold State.enterPath
  simp only [↓State.kept_ite, State.kept_mk, State.kept_eta, ite_self, ↓State.kept_foldl, ↓State.each_kept]

theorem State.wr_kept (s : State) (f : Fld) (v : Nat) : (State.wr s f v).kept = s.kept := by
  unfold State.wr
  simp only [↓State.kept_ite, State.kept_mk, State.kept_eta, ite_self, ↓State.kept_foldl, ↓State.each_kept]

theorem State.clr_kept (s : State) (f : Fld) : (State.clr s f).kept = s.kept := by
  unfold State.clr
  simp only [↓State.kept_ite, State.kept_mk, State.kept_eta, ite_self, ↓State.kept_foldl, ↓State.each_kept, ↓State.wr_kept]

theorem State.setThread_kept (s : State) (t : Nat) (x : Thread) : (State.setThread s t x).kept = s.kept := by
  unfold State.setThread
  simp only [↓State.kept_ite, State.kept_mk, State.kept_eta, ite_self, ↓State.kept_foldl, ↓State.each_kept]

theorem State.setTpc_kept (s : State) (t : Nat) (pc : Nat) : (State.setTpc s t pc).kept = s.kept := by
  unfold State.setTpc
  simp only [↓State.kept_ite, State.kept_mk, State.kept_eta, ite_self, ↓State.kept_foldl, ↓State.each_kept, ↓State.wr_kept]

theorem State.abortLock_kept (s : State) (t : Nat) : (State.abortLock s t).kept = s.kept := by
  unfold State.abortLock
  (repeat' split) <;> first | with_reducible rfl | (simp only [↓State.kept_ite, State.kept_mk, State.kept_eta, ite_self, ↓State.kept_foldl, ↓State.each_kept, ↓State.clr_kept, ↓State.setThread_kept, ↓State.setTpc_kept]; done)

theorem State.dropHalt_kept (s : State) (t : Nat) : (State.dropHalt s t).kept = s.kept := by
  unfold State.dropHalt
  simp only [↓State.kept_ite, State.kept_mk, State.kept_eta, ite_self, ↓State.kept_foldl, ↓State.each_kept, ↓State.clr_kept]

theorem State.dropLock_kept (s : State) (t : Nat) : (State.dropLock s t).kept = s.kept := by
  unfold State.dropLock
  simp only [↓State.kept_ite, State.kept_mk, State.kept_eta, ite_self, ↓State.kept_foldl, ↓State.each_kept, ↓State.clr_kept, ↓State.setThread_kept]

theorem State.bump_kept (s : State) (f : Fld) : (State.bump s f).kept = s.kept := by
  unfold State.bump
  simp only [↓State.kept_ite, State.kept_mk, State.kept_eta, ite_self, ↓State.kept_foldl, ↓State.each_kept, ↓State.wr_kept]

theorem State.set1_kept (s : State) (f : Fld) : (State.set1 s f).kept = s.kept := by
  unfold State.set1
  simp only [↓State.kept_ite, State.kept_mk, State.kept_eta, ite_self, ↓State.kept_foldl, ↓State.each_kept, ↓State.wr_kept]

theorem State.logP_kept (s : State) (prio : Nat) (ev : Gb) (args : List Nat) : (State.logP s prio ev args).kept = s.kept := by
  unfold State.logP
  simp only [↓State.kept_ite, State.kept_mk, State.kept_eta, ite_self, ↓State.kept_foldl, ↓State.each_kept, ↓State.bump_kept, ↓State.set1_kept]

theorem State.log_kept (s : State) (ev : Gb) (args : List Nat) : (State.log s ev args).kept = s.kept := by
  unfold State.log
  simp only [↓State.kept_ite, State.kept_mk, State.kept_eta, ite_self, ↓State.kept_foldl, ↓State.each_kept, ↓State.logP_kept]

theorem State.emit_kept (s : State) (e : Emit) : (State.emit s e).kept = s.kept := by
  unfold State.emit
  simp only [↓State.kept_ite, State.kept_mk, State.kept_eta, ite_self, ↓State.kept_foldl, ↓State.each_kept]

theorem State.drawn_kept (s : State) : (State.drawn s).kept = s.kept := by
  unfold State.drawn
  simp only [↓State.kept_ite, State.kept_mk, State.kept_eta, ite_self, ↓State.kept_foldl, ↓State.each_kept]

theorem State.sendNow_kept (s : State) (node : Nat) (a : Access) : (State.sendNow s node a).kept = s.kept := by
  unfold State.sendNow
  simp only [↓State.kept_ite, State.kept_mk, State.kept_eta, ite_self, ↓State.kept_foldl, ↓State.each_kept, ↓State.emit_kept]

theorem State.sendRaw_kept (s : State) (node : Nat) (a : Access) : (State.sendRaw s node a).kept = s.kept := by
  unfold State.sendRaw
  simp only [↓State.kept_ite, State.kept_mk, State.kept_eta, ite_self, ↓State.kept_foldl, ↓State.each_kept, ↓State.sendNow_kept]

theorem State.sendReq_kept (s : State) (node : Nat) (a : Access) : (State.sendReq s node a).kept = s.kept := by
  unfold State.sendReq
  simp only [↓State.kept_ite, State.kept_mk, State.kept_eta, ite_self, ↓State.kept_foldl, ↓State.each_kept, ↓State.sendRaw_kept]

theorem State.traceFreed_kept (s : State) : (State.traceFreed s).kept = s.kept := by
  unfold State.traceFreed
  simp only [↓State.kept_ite, State.kept_mk, State.kept_eta, ite_self, ↓State.kept_foldl, ↓State.each_kept, ↓State.drawn_kept]

theorem State.tracePush_kept (s : State) : (State.tracePush s).kept = s.kept := by
  unfold State.tracePush
  simp only [↓State.kept_ite, State.kept_mk, State.kept_eta, ite_self, ↓State.kept_foldl, ↓State.each_kept, ↓State.sendReq_kept, ↓State.set1_kept, ↓State.traceFreed_kept, ↓State.wr_kept]

theorem State.traceEnter_kept (s : State) (r : TraceRec) : (State.traceEnter s r).kept = s.kept := by
  unfold State.traceEnter
  repeat' first
    | with_reducible rfl
    | with_reducible refine (State.each_kept _ _ _ (fun _ _ => ?_)).trans ?_
    | with_reducible refine (State.kept_foldl _ _ _ (fun _ _ => ?_)).trans ?_
    | with_reducible refine (State.kept_foldl_fst _ _ _ (fun _ _ => ?_)).trans ?_
    | simp only [↓State.kept_ite, State.kept_mk, State.kept_eta, ite_self, ↓State.kept_foldl, ↓State.each_kept, ↓State.bump_kept, ↓State.set1_kept, ↓State.tracePush_kept]
    | split

theorem State.markRecord_kept (s : State) (c : Nat) : (State.markRecord s c).kept = s.kept := by
  unfold State.markRecord
  simp only [↓State.kept_ite, State.kept_mk, State.kept_eta, ite_self, ↓State.kept_foldl, ↓State.each_kept, ↓State.drawn_kept, ↓State.traceEnter_kept]

theorem State.setBit_kept (s : State) (f : Fld) (i : Nat) : (State.setBit s f i).kept = s.kept := by
  unfold State.setBit
  simp only [↓State.kept_ite, State.kept_mk, State.kept_eta, ite_self, ↓State.kept_foldl, ↓State.each_kept, ↓State.wr_kept]

theorem State.answerReq_kept (s : State) (rq : Request) (a : Answer) : (State.answerReq s rq a).kept = s.kept := by
  unfold State.answerReq
  simp only [↓State.kept_ite, State.kept_mk, State.kept_eta, ite_self, ↓State.kept_foldl, ↓State.each_kept, ↓State.emit_kept]

theorem State.reply_kept (s : State) (rq : Request) (code : Resp) : (State.reply s rq code).kept = s.kept := by
  unfold State.reply
  simp only [↓State.kept_ite, State.kept_mk, State.kept_eta, ite_self, ↓State.kept_foldl, ↓State.each_kept, ↓State.answerReq_kept]

theorem State.setPort_kept (s : State) (n : Nat) (p : Nat) (x : Port) : (State.setPort s n p x).kept = s.kept := by
  unfold State.setPort
  simp only [↓State.kept_ite, State.kept_mk, State.kept_eta, ite_self, ↓State.kept_foldl, ↓State.each_kept]

theorem State.answerInq_kept (s : State) (n : Nat) (code : Resp) : (State.answerInq s n code).kept = s.kept := by
  unfold State.answerInq
  repeat' first
    | with_reducible rfl
    | with_reducible refine (State.each_kept _ _ _ (fun _ _ => ?_)).trans ?_
    | with_reducible refine (State.kept_foldl _ _ _ (fun _ _ => ?_)).trans ?_
    | with_reducible refine (State.kept_foldl_fst _ _ _ (fun _ _ => ?_)).trans ?_
    | simp only [↓State.kept_ite, State.kept_mk, State.kept_eta, ite_self, ↓State.kept_foldl, ↓State.each_kept, ↓State.reply_kept, ↓State.setPort_kept]
    | split

theorem State.clrBit_kept (s : State) (f : Fld) (i : Nat) : (State.clrBit s f i).kept = s.kept := by
  unfold State.clrBit
  simp only [↓State.kept_ite, State.kept_mk, State.kept_eta, ite_self, ↓State.kept_foldl, ↓State.each_kept, ↓State.wr_kept]

theorem State.deliverInq_kept (s : State) (n : Nat) : (State.deliverInq s n).kept = s.kept := by
  unfold State.deliverInq
  repeat' first
    | with_reducible rfl
    | with_reducible refine (State.each_kept _ _ _ (fun _ _ => ?_)).trans ?_
    | with_reducible refine (State.kept_foldl _ _ _ (fun _ _ => ?_)).trans ?_
    | with_reducible refine (State.kept_foldl_fst _ _ _ (fun _ _ => ?_)).trans ?_
    | simp only [↓State.kept_ite, State.kept_mk, State.kept_eta, ite_self, ↓State.kept_foldl, ↓State.each_kept, ↓State.emit_kept, ↓State.reply_kept, ↓State.setPort_kept]
    | split

theorem State.setRegion_kept (s : State) (n : Nat) (r : Region) : (State.setRegion s n r).kept = s.kept := by
  unfold State.setRegion
  simp only [↓State.kept_ite, State.kept_mk, State.kept_eta, ite_self, ↓State.kept_foldl, ↓State.each_kept]

theorem State.enter_kept (s : State) (n : Nat) (st : RState) : (State.enter s n st).kept = s.kept := by
  unfold State.enter
  (repeat' split) <;> first | with_reducible rfl | (simp only [↓State.kept_ite, State.kept_mk, State.kept_eta, ite_self, ↓State.kept_foldl, ↓State.each_kept, ↓State.answerInq_kept, ↓State.clrBit_kept, ↓State.deliverInq_kept, ↓State.setRegion_kept, ↓State.wr_kept]; done)

theorem State.settle_kept (s : State) (n : Nat) : (State.settle s n).kept = s.kept := by
  unfold State.settle
  (repeat' split) <;> first | with_reducible rfl | (simp only [↓State.kept_ite, State.kept_mk, State.kept_eta, ite_self, ↓State.kept_foldl, ↓State.each_kept, ↓State.enter_kept]; done)

theorem State.setHold_kept (s : State) (n : Nat) (h : Hold) : (State.setHold s n h).kept = s.kept := by
  unfold State.setHold
  simp only [↓State.kept_ite, State.kept_mk, State.kept_eta, ite_self, ↓State.kept_foldl, ↓State.each_kept, ↓State.setBit_kept, ↓State.settle_kept]

theorem State.setTstate_kept (s : State) (t : Nat) (x : TState) : (State.setTstate s t x).kept = s.kept := by
  unfold State.setTstate
  simp only [↓State.kept_ite, State.kept_mk, State.kept_eta, ite_self, ↓State.kept_foldl, ↓State.each_kept, ↓State.wr_kept]

theorem State.barWithdraw_kept (s : State) (t : Nat) : (State.barWithdraw s t).kept = s.kept := by
  unfold State.barWithdraw
  (repeat' split) <;> first | with_reducible rfl | (simp only [↓State.kept_ite, State.kept_mk, State.kept_eta, ite_self, ↓State.kept_foldl, ↓State.each_kept, ↓State.clrBit_kept]; done)

theorem State.squashAll_kept (s : State) (t : Nat) : (State.squashAll s t).kept = s.kept := by
  unfold State.squashAll
  repeat' first
    | with_reducible rfl
    | with_reducible refine (State.each_kept _ _ _ (fun _ _ => ?_)).trans ?_
    | with_reducible refine (State.kept_foldl _ _ _ (fun _ _ => ?_)).trans ?_
    | with_reducible refine (State.kept_foldl_fst _ _ _ (fun _ _ => ?_)).trans ?_
    | simp only [↓State.kept_ite, State.kept_mk, State.kept_eta, ite_self, ↓State.kept_foldl, ↓State.each_kept, ↓State.barWithdraw_kept, ↓State.bump_kept, ↓State.setThread_kept]
    | split

theorem State.threadHalted_kept (s : State) (t : Nat) : (State.threadHalted s t).kept = s.kept := by
  unfold State.threadHalted
  simp only [↓State.kept_ite, State.kept_mk, State.kept_eta, ite_self, ↓State.kept_foldl, ↓State.each_kept, ↓State.clr_kept, ↓State.setThread_kept, ↓State.setTstate_kept, ↓State.squashAll_kept]

theorem State.threadHalt_kept (s : State) (t : Nat) : (State.threadHalt s t).kept = s.kept := by
  unfold State.threadHalt
  (repeat' split) <;> first | with_reducible rfl | (simp only [↓State.kept_ite, State.kept_mk, State.kept_eta, ite_self, ↓State.kept_foldl, ↓State.each_kept, ↓State.set1_kept, ↓State.threadHalted_kept]; done)

theorem State.traceStop_kept (s : State) : (State.traceStop s).kept = s.kept := by
  unfold State.traceStop
  simp only [↓State.kept_ite, State.kept_mk, State.kept_eta, ite_self, ↓State.kept_foldl, ↓State.each_kept, ↓State.set1_kept]

theorem State.pulse_kept (s : State) (c : Nat) : (State.pulse s c).kept = s.kept := by
  unfold State.pulse
  repeat' first
    | with_reducible rfl
    | with_reducible refine (State.each_kept _ _ _ (fun _ _ => ?_)).trans ?_
    | with_reducible refine (State.kept_foldl _ _ _ (fun _ _ => ?_)).trans ?_
    | with_reducible refine (State.kept_foldl_fst _ _ _ (fun _ _ => ?_)).trans ?_
    | simp only [↓State.kept_ite, State.kept_mk, State.kept_eta, ite_self, ↓State.kept_foldl, ↓State.each_kept, ↓State.bump_kept, ↓State.emit_kept, ↓State.markRecord_kept, ↓State.set1_kept, ↓State.setHold_kept, ↓State.threadHalt_kept, ↓State.traceStop_kept]
    | split

theorem State.pulses_kept (s : State) (fires : Nat → Bool) : (State.pulses s fires).kept = s.kept := by
  unfold State.pulses
  repeat' first
    | with_reducible rfl
    | with_reducible refine (State.each_kept _ _ _ (fun _ _ => ?_)).trans ?_
    | with_reducible refine (State.kept_foldl _ _ _ (fun _ _ => ?_)).trans ?_
    | with_reducible refine (State.kept_foldl_fst _ _ _ (fun _ _ => ?_)).trans ?_
    | simp only [↓State.kept_ite, State.kept_mk, State.kept_eta, ite_self, ↓State.kept_foldl, ↓State.each_kept, ↓State.pulse_kept]
    | split

theorem State.threadFault_kept (s : State) (t : Nat) (c : Cause) (pc : Nat) : (State.threadFault s t c pc).kept = s.kept := by
  unfold State.threadFault
  simp only [↓State.kept_ite, State.kept_mk, State.kept_eta, ite_self, ↓State.kept_foldl, ↓State.each_kept, ↓State.dropHalt_kept, ↓State.dropLock_kept, ↓State.log_kept, ↓State.pulses_kept, ↓State.setThread_kept, ↓State.setTpc_kept, ↓State.setTstate_kept, ↓State.squashAll_kept, ↓State.wr_kept]

theorem State.lockFault_kept (s : State) (t : Nat) (c : Cause) : (State.lockFault s t c).kept = s.kept := by
  unfold State.lockFault
  simp only [↓State.kept_ite, State.kept_mk, State.kept_eta, ite_self, ↓State.kept_foldl, ↓State.each_kept, ↓State.abortLock_kept, ↓State.threadFault_kept]

theorem State.buffer_kept (s : State) (t : Nat) (e : Effect) (body : State → State) (hbody : ∀ (a0 : State), (body a0).kept = a0.kept) : (State.buffer s t e body).kept = s.kept := by
  unfold State.buffer
  (repeat' split) <;> first | with_reducible rfl | (simp only [↓State.kept_ite, State.kept_mk, State.kept_eta, ite_self, ↓State.kept_foldl, ↓State.each_kept, ↓State.lockFault_kept, ↓State.setThread_kept, hbody]; done)

theorem State.haltIf_kept (s : State) (t : Nat) (halt : Bool) : (State.haltIf s t halt).kept = s.kept := by
  unfold State.haltIf
  simp only [↓State.kept_ite, State.kept_mk, State.kept_eta, ite_self, ↓State.kept_foldl, ↓State.each_kept, ↓State.threadHalted_kept]

theorem State.threadOff_kept (s : State) (t : Nat) : (State.threadOff s t).kept = s.kept := by
  unfold State.threadOff
  simp only [↓State.kept_ite, State.kept_mk, State.kept_eta, ite_self, ↓State.kept_foldl, ↓State.each_kept, ↓State.dropHalt_kept, ↓State.dropLock_kept, ↓State.setThread_kept, ↓State.setTstate_kept, ↓State.squashAll_kept]

theorem State.wdtLoad_kept (s : State) (t : Nat) : (State.wdtLoad s t).kept = s.kept := by
  unfold State.wdtLoad
  simp only [↓State.kept_ite, State.kept_mk, State.kept_eta, ite_self, ↓State.kept_foldl, ↓State.each_kept, ↓State.wr_kept]

theorem State.threadRestart_kept (s : State) (t : Nat) : (State.threadRestart s t).kept = s.kept := by
  unfold State.threadRestart
  simp only [↓State.kept_ite, State.kept_mk, State.kept_eta, ite_self, ↓State.kept_foldl, ↓State.each_kept, ↓State.dropHalt_kept, ↓State.dropLock_kept, ↓State.setThread_kept, ↓State.setTpc_kept, ↓State.setTstate_kept, ↓State.squashAll_kept, ↓State.wdtLoad_kept]

theorem State.pendingActs_kept (s : State) (t : Nat) : (State.pendingActs s t).kept = s.kept := by
  unfold State.pendingActs
  repeat' first
    | with_reducible rfl
    | with_reducible refine (State.each_kept _ _ _ (fun _ _ => ?_)).trans ?_
    | with_reducible refine (State.kept_foldl _ _ _ (fun _ _ => ?_)).trans ?_
    | with_reducible refine (State.kept_foldl_fst _ _ _ (fun _ _ => ?_)).trans ?_
    | simp only [↓State.kept_ite, State.kept_mk, State.kept_eta, ite_self, ↓State.kept_foldl, ↓State.each_kept, ↓State.threadFault_kept, ↓State.threadOff_kept, ↓State.threadRestart_kept]
    | split

theorem State.commitPoint_kept (s : State) (t : Nat) : (State.commitPoint s t).kept = s.kept := by
  unfold State.commitPoint
  simp only [↓State.kept_ite, State.kept_mk, State.kept_eta, ite_self, ↓State.kept_foldl, ↓State.each_kept, ↓State.haltIf_kept, ↓State.pendingActs_kept]

theorem State.commitTo_kept (s : State) (t : Nat) (pc : Nat) : (State.commitTo s t pc).kept = s.kept := by
  unfold State.commitTo
  simp only [↓State.kept_ite, State.kept_mk, State.kept_eta, ite_self, ↓State.kept_foldl, ↓State.each_kept, ↓State.commitPoint_kept, ↓State.setThread_kept, ↓State.setTpc_kept, ↓State.setTstate_kept, ↓State.threadHalted_kept]

theorem State.commit_kept (s : State) (t : Nat) : (State.commit s t).kept = s.kept := by
  unfold State.commit
  simp only [↓State.kept_ite, State.kept_mk, State.kept_eta, ite_self, ↓State.kept_foldl, ↓State.each_kept, ↓State.commitTo_kept]

theorem State.lateArm_kept (s : State) (n : Nat) (src : CmdSrc) : (State.lateArm s n src).kept = s.kept := by
  unfold State.lateArm
  (repeat' split) <;> first | with_reducible rfl | (simp only [↓State.kept_ite, State.kept_mk, State.kept_eta, ite_self, ↓State.kept_foldl, ↓State.each_kept, ↓State.bump_kept]; done)

theorem State.regionOp_kept (s : State) (t : Nat) (n : Nat) (kind : RCmdKind) : (State.regionOp s t n kind).kept = s.kept := by
  unfold State.regionOp
  repeat' first
    | with_reducible rfl
    | with_reducible refine (State.each_kept _ _ _ (fun _ _ => ?_)).trans ?_
    | with_reducible refine (State.kept_foldl _ _ _ (fun _ _ => ?_)).trans ?_
    | with_reducible refine (State.kept_foldl_fst _ _ _ (fun _ _ => ?_)).trans ?_
    | with_reducible refine (State.buffer_kept _ _ _ _ (fun _ => ?_)).trans ?_
    | simp only [↓State.kept_ite, State.kept_mk, State.kept_eta, ite_self, ↓State.kept_foldl, ↓State.each_kept, ↓State.buffer_kept, ↓State.commit_kept, ↓State.enterPath_kept, ↓State.lateArm_kept]
    | split

theorem State.consuming_kept (s : State) (t : Nat) (rs : List Nat) (body : State → State) (hbody : ∀ (a0 : State), (body a0).kept = a0.kept) : (State.consuming s t rs body).kept = s.kept := by
  unfold State.consuming
  simp only [↓State.kept_ite, State.kept_mk, State.kept_eta, ite_self, ↓State.kept_foldl, ↓State.each_kept, ↓State.threadFault_kept, hbody]

theorem State.fetched_kept (s : State) (t : Nat) : (State.fetched s t).kept = s.kept := by
  unfold State.fetched
  repeat' first
    | with_reducible rfl
    | with_reducible refine (State.each_kept _ _ _ (fun _ _ => ?_)).trans ?_
    | with_reducible refine (State.kept_foldl _ _ _ (fun _ _ => ?_)).trans ?_
    | with_reducible refine (State.kept_foldl_fst _ _ _ (fun _ _ => ?_)).trans ?_
    | simp only [↓State.kept_ite, State.kept_mk, State.kept_eta, ite_self, ↓State.kept_foldl, ↓State.each_kept, ↓State.drawn_kept, ↓State.setThread_kept]
    | split

theorem State.oldest_kept (s : State) (t : Nat) (mine : Row → Bool) (body : Insn → State → State) (hbody : ∀ (a0 : Insn) (a1 : State), (body a0 a1).kept = a1.kept) : (State.oldest s t mine body).kept = s.kept := by
  unfold State.oldest
  repeat' first
    | with_reducible rfl
    | with_reducible refine (State.each_kept _ _ _ (fun _ _ => ?_)).trans ?_
    | with_reducible refine (State.kept_foldl _ _ _ (fun _ _ => ?_)).trans ?_
    | with_reducible refine (State.kept_foldl_fst _ _ _ (fun _ _ => ?_)).trans ?_
    | simp only [↓State.kept_ite, State.kept_mk, State.kept_eta, ite_self, ↓State.kept_foldl, ↓State.each_kept, ↓State.fetched_kept, ↓State.threadFault_kept, hbody]
    | split

theorem State.quiet_kept (s : State) : (State.quiet s).kept = s.kept := by
  unfold State.quiet
  simp only [↓State.kept_ite, State.kept_mk, State.kept_eta, ite_self, ↓State.kept_foldl, ↓State.each_kept]

theorem State.dropRestore_kept (s : State) (n : Nat) : (State.dropRestore s n).kept = s.kept := by
  unfold State.dropRestore
  simp only [↓State.kept_ite, State.kept_mk, State.kept_eta, ite_self, ↓State.kept_foldl, ↓State.each_kept, ↓State.setRegion_kept]

theorem State.wrb_kept (s : State) (f : Fld) (b : Bool) : (State.wrb s f b).kept = s.kept := by
  unfold State.wrb
  simp only [↓State.kept_ite, State.kept_mk, State.kept_eta, ite_self, ↓State.kept_foldl, ↓State.each_kept, ↓State.wr_kept]

theorem State.threadRefuse_kept (s : State) (t : Nat) (op : Nat) (code : Nat) (target : Nat) (atClamp : Bool) : (State.threadRefuse s t op code target atClamp).kept = s.kept := by
  unfold State.threadRefuse
  simp only [↓State.kept_ite, State.kept_mk, State.kept_eta, ite_self, ↓State.kept_foldl, ↓State.each_kept, ↓State.bump_kept, ↓State.log_kept, ↓State.wr_kept, ↓State.wrb_kept]

theorem State.preCommits_kept (s : State) (t : Nat) (seq : Nat) (n : Nat) (p : Nat) (refused : Option Nat) : (State.preCommits s t seq n p refused).kept = s.kept := by
  unfold State.preCommits
  (repeat' split) <;> first | with_reducible rfl | (simp only [↓State.kept_ite, State.kept_mk, State.kept_eta, ite_self, ↓State.kept_foldl, ↓State.each_kept, ↓State.clr_kept, ↓State.commit_kept, ↓State.dropRestore_kept, ↓State.threadRefuse_kept]; done)

theorem State.preOldest_kept (s : State) (t : Nat) : (State.preOldest s t).kept = s.kept := by
  unfold State.preOldest
  repeat' first
    | with_reducible rfl
    | with_reducible refine (State.each_kept _ _ _ (fun _ _ => ?_)).trans ?_
    | with_reducible refine (State.kept_foldl _ _ _ (fun _ _ => ?_)).trans ?_
    | with_reducible refine (State.kept_foldl_fst _ _ _ (fun _ _ => ?_)).trans ?_
    | with_reducible refine (State.consuming_kept _ _ _ _ (fun _ => ?_)).trans ?_
    | with_reducible refine (State.oldest_kept _ _ _ _ (fun _ _ => ?_)).trans ?_
    | simp only [↓State.kept_ite, State.kept_mk, State.kept_eta, ite_self, ↓State.kept_foldl, ↓State.each_kept, ↓State.consuming_kept, ↓State.oldest_kept, ↓State.preCommits_kept, ↓State.regionOp_kept]
    | split

theorem State.issueSlot_kept (s : State) (t : Nat) (k : Nat) : (State.issueSlot s t k).kept = s.kept := by
  unfold State.issueSlot
  (repeat' split) <;> first | with_reducible rfl | (simp only [↓State.kept_ite, State.kept_mk, State.kept_eta, ite_self, ↓State.kept_foldl, ↓State.each_kept, ↓State.setThread_kept]; done)

theorem State.issueBelow_kept (s : State) (t : Nat) (n : Nat) : (State.issueBelow s t n).kept = s.kept := by
  unfold State.issueBelow
  repeat' first
    | with_reducible rfl
    | with_reducible refine (State.each_kept _ _ _ (fun _ _ => ?_)).trans ?_
    | with_reducible refine (State.kept_foldl _ _ _ (fun _ _ => ?_)).trans ?_
    | with_reducible refine (State.kept_foldl_fst _ _ _ (fun _ _ => ?_)).trans ?_
    | simp only [↓State.kept_ite, State.kept_mk, State.kept_eta, ite_self, ↓State.kept_foldl, ↓State.each_kept, ↓State.issueSlot_kept]
    | split

theorem State.preAhead_kept (s : State) (t : Nat) (k : Nat) : (State.preAhead s t k).kept = s.kept := by
  unfold State.preAhead
  (repeat' split) <;> first | with_reducible rfl | (simp only [↓State.kept_ite, State.kept_mk, State.kept_eta, ite_self, ↓State.kept_foldl, ↓State.each_kept, ↓State.issueBelow_kept, ↓State.setThread_kept]; done)

theorem State.sendOldest_kept (s : State) (t : Nat) (a : Access) (kind : PendKind) : (State.sendOldest s t a kind).kept = s.kept := by
  unfold State.sendOldest
  simp only [↓State.kept_ite, State.kept_mk, State.kept_eta, ite_self, ↓State.kept_foldl, ↓State.each_kept, ↓State.sendReq_kept, ↓State.setThread_kept]

theorem State.setReg_kept (s : State) (t : Nat) (r : Nat) (v : Word) (tag : Bool) : (State.setReg s t r v tag).kept = s.kept := by
  unfold State.setReg
  simp only [↓State.kept_ite, State.kept_mk, State.kept_eta, ite_self, ↓State.kept_foldl, ↓State.each_kept, ↓State.setThread_kept]

theorem State.snapAsk_kept (s : State) (dest : Nat) : (State.snapAsk s dest).1.kept = s.kept := by
  unfold State.snapAsk
  (repeat' split) <;> first | with_reducible rfl | (simp only [↓State.kept_ite, State.kept_mk, State.kept_eta, ite_self, ↓State.kept_foldl, ↓State.each_kept, ↓State.set1_kept]; done)

theorem State.snapAnswer_kept (s : State) (t : Nat) (tag : Nat) (dest : Nat) : (State.snapAnswer s t tag dest).kept = s.kept := by
  unfold State.snapAnswer
  simp only [↓State.kept_ite, State.kept_mk, State.kept_eta, ite_self, ↓State.kept_foldl, ↓State.each_kept, ↓State.reply_kept, ↓State.snapAsk_kept]

theorem State.pulseLine_kept (s : State) (n : Nat) (k : Nat) : (State.pulseLine s n k).kept = s.kept := by
  unfold State.pulseLine
  simp only [↓State.kept_ite, State.kept_mk, State.kept_eta, ite_self, ↓State.kept_foldl, ↓State.each_kept, ↓State.emit_kept, ↓State.setRegion_kept]

theorem State.commitEvent_kept (s : State) (line : Nat) : (State.commitEvent s line).kept = s.kept := by
  unfold State.commitEvent
  simp only [↓State.kept_ite, State.kept_mk, State.kept_eta, ite_self, ↓State.kept_foldl, ↓State.each_kept, ↓State.pulseLine_kept, ↓State.setBit_kept]

theorem State.signals_kept (s : State) (lines : List Nat) : (State.signals s lines).kept = s.kept := by
  unfold State.signals
  repeat' first
    | with_reducible rfl
    | with_reducible refine (State.each_kept _ _ _ (fun _ _ => ?_)).trans ?_
    | with_reducible refine (State.kept_foldl _ _ _ (fun _ _ => ?_)).trans ?_
    | with_reducible refine (State.kept_foldl_fst _ _ _ (fun _ _ => ?_)).trans ?_
    | simp only [↓State.kept_ite, State.kept_mk, State.kept_eta, ite_self, ↓State.kept_foldl, ↓State.each_kept, ↓State.commitEvent_kept]
    | split

theorem State.mirrorThread_kept (s : State) (t : Nat) : (State.mirrorThread s t).kept = s.kept := by
  unfold State.mirrorThread
  simp only [↓State.kept_ite, State.kept_mk, State.kept_eta, ite_self, ↓State.kept_foldl, ↓State.each_kept]

theorem State.mirrorRegion_kept (s : State) (n : Nat) : (State.mirrorRegion s n).kept = s.kept := by
  unfold State.mirrorRegion
  simp only [↓State.kept_ite, State.kept_mk, State.kept_eta, ite_self, ↓State.kept_foldl, ↓State.each_kept]

theorem State.mirrorBank_kept (s : State) (b : Nat) : (State.mirrorBank s b).kept = s.kept := by
  unfold State.mirrorBank
  simp only [↓State.kept_ite, State.kept_mk, State.kept_eta, ite_self, ↓State.kept_foldl, ↓State.each_kept]

theorem State.stimRecord_kept (s : State) (port : Nat) (value : Nat) (size : Nat) (poison : Bool) (src : Nat) : (State.stimRecord s port value size poison src).kept = s.kept := by
  unfold State.stimRecord
  simp only [↓State.kept_ite, State.kept_mk, State.kept_eta, ite_self, ↓State.kept_foldl, ↓State.each_kept, ↓State.traceEnter_kept]

theorem State.stimulus_kept (s : State) (port : Nat) (value : Nat) (size : Nat) (poison : Bool) (src : Nat) : (State.stimulus s port value size poison src).kept = s.kept := by
  unfold State.stimulus
  simp only [↓State.kept_ite, State.kept_mk, State.kept_eta, ite_self, ↓State.kept_foldl, ↓State.each_kept, ↓State.pulses_kept, ↓State.stimRecord_kept]

theorem State.emitStim_kept (s : State) (t : Nat) (port : Nat) (v : Word) (tag : Bool) : (State.emitStim s t port v tag).kept = s.kept := by
  unfold State.emitStim
  simp only [↓State.kept_ite, State.kept_mk, State.kept_eta, ite_self, ↓State.kept_foldl, ↓State.each_kept, ↓State.stimulus_kept]

theorem State.powerOp_kept (s : State) (t : Nat) (on : Bool) : (State.powerOp s t on).kept = s.kept := by
  unfold State.powerOp
  repeat' first
    | with_reducible rfl
    | with_reducible refine (State.each_kept _ _ _ (fun _ _ => ?_)).trans ?_
    | with_reducible refine (State.kept_foldl _ _ _ (fun _ _ => ?_)).trans ?_
    | with_reducible refine (State.kept_foldl_fst _ _ _ (fun _ _ => ?_)).trans ?_
    | with_reducible refine (State.buffer_kept _ _ _ _ (fun _ => ?_)).trans ?_
    | with_reducible refine (State.consuming_kept _ _ _ _ (fun _ => ?_)).trans ?_
    | with_reducible refine (State.oldest_kept _ _ _ _ (fun _ _ => ?_)).trans ?_
    | simp only [↓State.kept_ite, State.kept_mk, State.kept_eta, ite_self, ↓State.kept_foldl, ↓State.each_kept, ↓State.buffer_kept, ↓State.commit_kept, ↓State.consuming_kept, ↓State.oldest_kept]
    | split

theorem State.unlockedOnly_kept (s : State) (t : Nat) (body : State → State) (hbody : ∀ (a0 : State), (body a0).kept = a0.kept) : (State.unlockedOnly s t body).kept = s.kept := by
  unfold State.unlockedOnly
  simp only [↓State.kept_ite, State.kept_mk, State.kept_eta, ite_self, ↓State.kept_foldl, ↓State.each_kept, ↓State.lockFault_kept, hbody]

theorem State.postedDone_kept (s : State) (t : Nat) (pc : Nat) (code : Resp) : (State.postedDone s t pc code).kept = s.kept := by
  unfold State.postedDone
  simp only [↓State.kept_ite, State.kept_mk, State.kept_eta, ite_self, ↓State.kept_foldl, ↓State.each_kept, ↓State.bump_kept, ↓State.log_kept, ↓State.wr_kept]

theorem State.sendPosted_kept (s : State) (t : Nat) (pc : Nat) (a : Access) : (State.sendPosted s t pc a).kept = s.kept := by
  unfold State.sendPosted
  simp only [↓State.kept_ite, State.kept_mk, State.kept_eta, ite_self, ↓State.kept_foldl, ↓State.each_kept, ↓State.sendReq_kept, ↓State.setThread_kept]

theorem State.release_kept (s : State) (t : Nat) (bno : Nat) (x3 : Effect) : (State.release s t bno x3).kept = s.kept := by
  unfold State.release
  (repeat' split) <;> first | with_reducible rfl | (simp only [↓State.kept_ite, State.kept_mk, State.kept_eta, ite_self, ↓State.kept_foldl, ↓State.each_kept, ↓State.emitStim_kept, ↓State.enterPath_kept, ↓State.mirrorBank_kept, ↓State.mirrorRegion_kept, ↓State.mirrorThread_kept, ↓State.postedDone_kept, ↓State.sendPosted_kept, ↓State.signals_kept, ↓State.snapAnswer_kept, ↓State.wdtLoad_kept]; done)

theorem State.setIstate_kept (s : State) (x : IState) : (State.setIstate s x).kept = s.kept := by
  unfold State.setIstate
  simp only [↓State.kept_ite, State.kept_mk, State.kept_eta, ite_self, ↓State.kept_foldl, ↓State.each_kept, ↓State.wr_kept]

theorem State.setPlState_kept (s : State) (n : Nat) (p : Nat) (x : PlState) : (State.setPlState s n p x).kept = s.kept := by
  unfold State.setPlState
  simp only [↓State.kept_ite, State.kept_mk, State.kept_eta, ite_self, ↓State.kept_foldl, ↓State.each_kept, ↓State.wr_kept]

theorem State.setDesk_kept (s : State) (d : Desk) : (State.setDesk s d).kept = s.kept := by
  unfold State.setDesk
  simp only [↓State.kept_ite, State.kept_mk, State.kept_eta, ite_self, ↓State.kept_foldl, ↓State.each_kept]

theorem State.deskEnd_kept (s : State) (ok : Bool) (detail : Nat) : (State.deskEnd s ok detail).kept = s.kept := by
  unfold State.deskEnd
  simp only [↓State.kept_ite, State.kept_mk, State.kept_eta, ite_self, ↓State.kept_foldl, ↓State.each_kept, ↓State.setDesk_kept]

theorem State.deskImageEnd_kept (s : State) (aborted : Bool) : (State.deskImageEnd s aborted).kept = s.kept := by
  unfold State.deskImageEnd
  simp only [↓State.kept_ite, State.kept_mk, State.kept_eta, ite_self, ↓State.kept_foldl, ↓State.each_kept, ↓State.deskEnd_kept, ↓State.setDesk_kept]

theorem State.jnlAskBy_kept (s : State) (b : JBody) (src : JSrc) : (State.jnlAskBy s b src).kept = s.kept := by
  unfold State.jnlAskBy
  simp only [↓State.kept_ite, State.kept_mk, State.kept_eta, ite_self, ↓State.kept_foldl, ↓State.each_kept]

theorem State.jnlAsk_kept (s : State) (b : JBody) (fd : Bool) : (State.jnlAsk s b fd).kept = s.kept := by
  unfold State.jnlAsk
  simp only [↓State.kept_ite, State.kept_mk, State.kept_eta, ite_self, ↓State.kept_foldl, ↓State.each_kept, ↓State.jnlAskBy_kept]

theorem State.itin_kept (s : State) (step : Nat) (phase : Nat) (outcome : Nat) (unit : Nat) (detail : Nat) : (State.itin s step phase outcome unit detail).kept = s.kept := by
  unfold State.itin
  simp only [↓State.kept_ite, State.kept_mk, State.kept_eta, ite_self, ↓State.kept_foldl, ↓State.each_kept, ↓State.jnlAsk_kept]

theorem State.tryFailed_kept (s : State) (code : Nat) : (State.tryFailed s code).kept = s.kept := by
  unfold State.tryFailed
  (repeat' split) <;> first | with_reducible rfl | (simp only [↓State.kept_ite, State.kept_mk, State.kept_eta, ite_self, ↓State.kept_foldl, ↓State.each_kept, ↓State.itin_kept, ↓State.wr_kept]; done)

theorem State.imageOver_kept (s : State) (code : Nat) : (State.imageOver s code).kept = s.kept := by
  unfold State.imageOver
  simp only [↓State.kept_ite, State.kept_mk, State.kept_eta, ite_self, ↓State.kept_foldl, ↓State.each_kept, ↓State.deskImageEnd_kept, ↓State.setIstate_kept, ↓State.tryFailed_kept, ↓State.wr_kept]

theorem State.applyFailed_kept (s : State) (idx : Nat) (code : Resp) : (State.applyFailed s idx code).kept = s.kept := by
  unfold State.applyFailed
  simp only [↓State.kept_ite, State.kept_mk, State.kept_eta, ite_self, ↓State.kept_foldl, ↓State.each_kept, ↓State.bump_kept, ↓State.log_kept, ↓State.wr_kept]

theorem State.sendWaiting_kept (s : State) (node : Nat) : (State.sendWaiting s node).kept = s.kept := by
  unfold State.sendWaiting
  (repeat' split) <;> first | with_reducible rfl | (simp only [↓State.kept_ite, State.kept_mk, State.kept_eta, ite_self, ↓State.kept_foldl, ↓State.each_kept, ↓State.sendNow_kept]; done)

theorem State.takeAnswer_kept (s : State) (node : Nat) (tag : Nat) (a : Answer) (u : State) (h : State.takeAnswer s node tag a = some u) : u.kept = s.kept := by
  unfold State.takeAnswer at h
  (repeat' first | split at h | dsimp only at h) <;> first
    | (cases h; done)
    | (cases h; with_reducible rfl)
    | (cases h; simp only [↓State.kept_ite, State.kept_mk, State.kept_eta, ite_self, ↓State.kept_foldl, ↓State.each_kept, ↓State.sendWaiting_kept]; done)

theorem State.bramAnswer_kept (s : State) (tag : Nat) (a : Answer) : (State.bramAnswer s tag a).kept = s.kept := by
  unfold State.bramAnswer
  repeat' first
    | with_reducible rfl
    | with_reducible refine (State.each_kept _ _ _ (fun _ _ => ?_)).trans ?_
    | with_reducible refine (State.kept_foldl _ _ _ (fun _ _ => ?_)).trans ?_
    | with_reducible refine (State.kept_foldl_fst _ _ _ (fun _ _ => ?_)).trans ?_
    | exact State.takeAnswer_kept _ _ _ _ _ ‹_›
    | exact (State.takeAnswer_kept _ _ _ _ _ ‹_›).trans (by simp only [↓State.kept_ite, State.kept_mk, State.kept_eta, ite_self, ↓State.kept_foldl, ↓State.each_kept, ↓State.applyFailed_kept])
    | simp only [↓State.kept_ite, State.kept_mk, State.kept_eta, ite_self, ↓State.kept_foldl, ↓State.each_kept, ↓State.applyFailed_kept]
    | split

theorem State.setKeyBits_kept (s : State) (k : Nat) (w : Nat) (v : Nat) : (State.setKeyBits s k w v).kept = s.kept := by
  unfold State.setKeyBits
  simp only [↓State.kept_ite, State.kept_mk, State.kept_eta, ite_self, ↓State.kept_foldl, ↓State.each_kept, ↓State.wr_kept]

theorem State.setKstate_kept (s : State) (k : Nat) (x : KState) : (State.setKstate s k x).kept = s.kept := by
  unfold State.setKstate
  simp only [↓State.kept_ite, State.kept_mk, State.kept_eta, ite_self, ↓State.kept_foldl, ↓State.each_kept, ↓State.setKeyBits_kept]

theorem State.dropKey_kept (s : State) (k : Nat) : (State.dropKey s k).kept = s.kept := by
  unfold State.dropKey
  simp only [↓State.kept_ite, State.kept_mk, State.kept_eta, ite_self, ↓State.kept_foldl, ↓State.each_kept]

theorem State.zeroiseKeys_kept (s : State) : (State.zeroiseKeys s).kept = s.kept := by
  unfold State.zeroiseKeys
  repeat' first
    | with_reducible rfl
    | with_reducible refine (State.each_kept _ _ _ (fun _ _ => ?_)).trans ?_
    | with_reducible refine (State.kept_foldl _ _ _ (fun _ _ => ?_)).trans ?_
    | with_reducible refine (State.kept_foldl_fst _ _ _ (fun _ _ => ?_)).trans ?_
    | simp only [↓State.kept_ite, State.kept_mk, State.kept_eta, ite_self, ↓State.kept_foldl, ↓State.each_kept, ↓State.clr_kept, ↓State.dropKey_kept, ↓State.set1_kept, ↓State.setKstate_kept]
    | split

theorem State.cancelHalt_kept (s : State) (t : Nat) : (State.cancelHalt s t).kept = s.kept := by
  unfold State.cancelHalt
  simp only [↓State.kept_ite, State.kept_mk, State.kept_eta, ite_self, ↓State.kept_foldl, ↓State.each_kept, ↓State.clr_kept, ↓State.setThread_kept]

theorem State.cancelStep_kept (s : State) : (State.cancelStep s).kept = s.kept := by
  unfold State.cancelStep
  simp only [↓State.kept_ite, State.kept_mk, State.kept_eta, ite_self, ↓State.kept_foldl, ↓State.each_kept, ↓State.clr_kept, ↓State.setRegion_kept]

theorem State.clrHold_kept (s : State) (n : Nat) (h : Hold) : (State.clrHold s n h).kept = s.kept := by
  unfold State.clrHold
  simp only [↓State.kept_ite, State.kept_mk, State.kept_eta, ite_self, ↓State.kept_foldl, ↓State.each_kept, ↓State.clrBit_kept, ↓State.settle_kept]

theorem State.deferredAct_kept (s : State) (t : Nat) : (State.deferredAct s t).kept = s.kept := by
  unfold State.deferredAct
  simp only [↓State.kept_ite, State.kept_mk, State.kept_eta, ite_self, ↓State.kept_foldl, ↓State.each_kept, ↓State.clr_kept, ↓State.threadFault_kept, ↓State.threadRestart_kept, ↓State.wdtLoad_kept]

theorem State.wdtResume_kept (s : State) (t : Nat) : (State.wdtResume s t).kept = s.kept := by
  unfold State.wdtResume
  simp only [↓State.kept_ite, State.kept_mk, State.kept_eta, ite_self, ↓State.kept_foldl, ↓State.each_kept, ↓State.wr_kept]

theorem State.threadRelease_kept (s : State) (t : Nat) : (State.threadRelease s t).kept = s.kept := by
  unfold State.threadRelease
  simp only [↓State.kept_ite, State.kept_mk, State.kept_eta, ite_self, ↓State.kept_foldl, ↓State.each_kept, ↓State.deferredAct_kept, ↓State.setTstate_kept, ↓State.wdtResume_kept]

theorem State.setCourier_kept (s : State) (c : Nat) (x : Courier) : (State.setCourier s c x).kept = s.kept := by
  unfold State.setCourier
  simp only [↓State.kept_ite, State.kept_mk, State.kept_eta, ite_self, ↓State.kept_foldl, ↓State.each_kept]

theorem State.courierSend_kept (s : State) (c : Nat) (kind : CourKind) (a : Access) : (State.courierSend s c kind a).kept = s.kept := by
  unfold State.courierSend
  simp only [↓State.kept_ite, State.kept_mk, State.kept_eta, ite_self, ↓State.kept_foldl, ↓State.each_kept, ↓State.sendReq_kept, ↓State.setCourier_kept]

theorem State.setCstate_kept (s : State) (c : Nat) (x : CState) : (State.setCstate s c x).kept = s.kept := by
  unfold State.setCstate
  simp only [↓State.kept_ite, State.kept_mk, State.kept_eta, ite_self, ↓State.kept_foldl, ↓State.each_kept, ↓State.wr_kept]

theorem State.courierStop_kept (s : State) (c : Nat) (code : Resp) (addr : Nat) : (State.courierStop s c code addr).kept = s.kept := by
  unfold State.courierStop
  simp only [↓State.kept_ite, State.kept_mk, State.kept_eta, ite_self, ↓State.kept_foldl, ↓State.each_kept, ↓State.setCourier_kept, ↓State.setCstate_kept]

theorem State.courierNext_kept (s : State) (c : Nat) : (State.courierNext s c).kept = s.kept := by
  unfold State.courierNext
  simp only [↓State.kept_ite, State.kept_mk, State.kept_eta, ite_self, ↓State.kept_foldl, ↓State.each_kept, ↓State.courierSend_kept, ↓State.courierStop_kept, ↓State.setCourier_kept]

theorem State.courierIssue_kept (s : State) (c : Nat) : (State.courierIssue s c).kept = s.kept := by
  unfold State.courierIssue
  repeat' first
    | with_reducible rfl
    | with_reducible refine (State.each_kept _ _ _ (fun _ _ => ?_)).trans ?_
    | with_reducible refine (State.kept_foldl _ _ _ (fun _ _ => ?_)).trans ?_
    | with_reducible refine (State.kept_foldl_fst _ _ _ (fun _ _ => ?_)).trans ?_
    | simp only [↓State.kept_ite, State.kept_mk, State.kept_eta, ite_self, ↓State.kept_foldl, ↓State.each_kept, ↓State.courierNext_kept]
    | split

theorem State.courierReady_kept (s : State) (c : Nat) : (State.courierReady s c).kept = s.kept := by
  unfold State.courierReady
  repeat' first
    | with_reducible rfl
    | with_reducible refine (State.each_kept _ _ _ (fun _ _ => ?_)).trans ?_
    | with_reducible refine (State.kept_foldl _ _ _ (fun _ _ => ?_)).trans ?_
    | with_reducible refine (State.kept_foldl_fst _ _ _ (fun _ _ => ?_)).trans ?_
    | simp only [↓State.kept_ite, State.kept_mk, State.kept_eta, ite_self, ↓State.kept_foldl, ↓State.each_kept, ↓State.courierSend_kept, ↓State.setCourier_kept]
    | split

theorem State.courierResume_kept (s : State) (c : Nat) : (State.courierResume s c).kept = s.kept := by
  unfold State.courierResume
  simp only [↓State.kept_ite, State.kept_mk, State.kept_eta, ite_self, ↓State.kept_foldl, ↓State.each_kept, ↓State.courierIssue_kept, ↓State.courierReady_kept, ↓State.courierSend_kept]

theorem State.unfreeze_kept (s : State) : (State.unfreeze s).kept = s.kept := by
  unfold State.unfreeze
  repeat' first
    | with_reducible rfl
    | with_reducible refine (State.each_kept _ _ _ (fun _ _ => ?_)).trans ?_
    | with_reducible refine (State.kept_foldl _ _ _ (fun _ _ => ?_)).trans ?_
    | with_reducible refine (State.kept_foldl_fst _ _ _ (fun _ _ => ?_)).trans ?_
    | simp only [↓State.kept_ite, State.kept_mk, State.kept_eta, ite_self, ↓State.kept_foldl, ↓State.each_kept, ↓State.courierResume_kept]
    | split

theorem State.loseFull_kept (s : State) : (State.loseFull s).kept = s.kept := by
  unfold State.loseFull
  repeat' first
    | with_reducible rfl
    | with_reducible refine (State.each_kept _ _ _ (fun _ _ => ?_)).trans ?_
    | with_reducible refine (State.kept_foldl _ _ _ (fun _ _ => ?_)).trans ?_
    | with_reducible refine (State.kept_foldl_fst _ _ _ (fun _ _ => ?_)).trans ?_
    | simp only [↓State.kept_ite, State.kept_mk, State.kept_eta, ite_self, ↓State.kept_foldl, ↓State.each_kept, ↓State.cancelHalt_kept, ↓State.cancelStep_kept, ↓State.clr_kept, ↓State.clrHold_kept, ↓State.threadRelease_kept, ↓State.unfreeze_kept]
    | split

theorem State.setLevel_kept (s : State) (p : DPort) (l : Nat) : (State.setLevel s p l).kept = s.kept := by
  unfold State.setLevel
  simp only [↓State.kept_ite, State.kept_mk, State.kept_eta, ite_self, ↓State.kept_foldl, ↓State.each_kept, ↓State.clr_kept, ↓State.log_kept, ↓State.loseFull_kept, ↓State.wr_kept]

theorem State.dropSessions_kept (s : State) : (State.dropSessions s).kept = s.kept := by
  unfold State.dropSessions
  simp only [↓State.kept_ite, State.kept_mk, State.kept_eta, ite_self, ↓State.kept_foldl, ↓State.each_kept, ↓State.setLevel_kept]

theorem State.lockAll_kept (s : State) : (State.lockAll s).kept = s.kept := by
  unfold State.lockAll
  simp only [↓State.kept_ite, State.kept_mk, State.kept_eta, ite_self, ↓State.kept_foldl, ↓State.each_kept, ↓State.dropSessions_kept, ↓State.set1_kept]

theorem State.voidSlots_kept (s : State) : (State.voidSlots s).kept = s.kept := by
  unfold State.voidSlots
  simp only [↓State.kept_ite, State.kept_mk, State.kept_eta, ite_self, ↓State.kept_foldl, ↓State.each_kept, ↓State.clr_kept]

theorem State.wr64_kept (s : State) (lo : Fld) (hi : Fld) (v : Nat) : (State.wr64 s lo hi v).kept = s.kept := by
  unfold State.wr64
  simp only [↓State.kept_ite, State.kept_mk, State.kept_eta, ite_self, ↓State.kept_foldl, ↓State.each_kept, ↓State.wr_kept]

theorem State.recordLast_kept (s : State) (u : Unit') (addr : Nat) (cells : List Nat) (by' : FoundBy) : (State.recordLast s u addr cells by').kept = s.kept := by
  unfold State.recordLast
  (repeat' split) <;> first | with_reducible rfl | (simp only [↓State.kept_ite, State.kept_mk, State.kept_eta, ite_self, ↓State.kept_foldl, ↓State.each_kept, ↓State.wr_kept, ↓State.wr64_kept]; done)

theorem State.setLine_kept (s : State) (l : Nat) (x : Option Line) : (State.setLine s l x).kept = s.kept := by
  unfold State.setLine
  simp only [↓State.kept_ite, State.kept_mk, State.kept_eta, ite_self, ↓State.kept_foldl, ↓State.each_kept]

theorem State.setTrack_kept (s : State) (t : Nat) (es : List TrackEntry) : (State.setTrack s t es).kept = s.kept := by
  unfold State.setTrack
  simp only [↓State.kept_ite, State.kept_mk, State.kept_eta, ite_self, ↓State.kept_foldl, ↓State.each_kept]

theorem State.trackCount_kept (s : State) (u : Unit') (addr : Nat) : (State.trackCount s u addr).kept = s.kept := by
  unfold State.trackCount
  repeat' first
    | with_reducible rfl
    | with_reducible refine (State.each_kept _ _ _ (fun _ _ => ?_)).trans ?_
    | with_reducible refine (State.kept_foldl _ _ _ (fun _ _ => ?_)).trans ?_
    | with_reducible refine (State.kept_foldl_fst _ _ _ (fun _ _ => ?_)).trans ?_
    | simp only [↓State.kept_ite, State.kept_mk, State.kept_eta, ite_self, ↓State.kept_foldl, ↓State.each_kept, ↓State.bump_kept, ↓State.setTrack_kept]
    | split

theorem State.trackCopied_kept (s : State) (u : Unit') (addr : Nat) : (State.trackCopied s u addr).kept = s.kept := by
  unfold State.trackCopied
  simp only [↓State.kept_ite, State.kept_mk, State.kept_eta, ite_self, ↓State.kept_foldl, ↓State.each_kept, ↓State.setTrack_kept, ↓State.trackCount_kept]

theorem State.saveSoft_kept (s : State) (r : RepRec) (src : JSrc) : (State.saveSoft s r src).1.kept = s.kept := by
  unfold State.saveSoft
  (repeat' split) <;> first | with_reducible rfl | (simp only [↓State.kept_ite, State.kept_mk, State.kept_eta, ite_self, ↓State.kept_foldl, ↓State.each_kept, ↓State.jnlAskBy_kept]; done)

theorem State.setSpareSet_kept (s : State) (k : Nat) (x : SpareSet) : (State.setSpareSet s k x).kept = s.kept := by
  unfold State.setSpareSet
  simp only [↓State.kept_ite, State.kept_mk, State.kept_eta, ite_self, ↓State.kept_foldl, ↓State.each_kept]

theorem State.replyData_kept (s : State) (rq : Request) (data : List Byte) (poison : Nat) : (State.replyData s rq data poison).kept = s.kept := by
  unfold State.replyData
  simp only [↓State.kept_ite, State.kept_mk, State.kept_eta, ite_self, ↓State.kept_foldl, ↓State.each_kept, ↓State.answerReq_kept]

theorem State.bumpN_kept (s : State) (f : Fld) (n : Nat) : (State.bumpN s f n).kept = s.kept := by
  unfold State.bumpN
  simp only [↓State.kept_ite, State.kept_mk, State.kept_eta, ite_self, ↓State.kept_foldl, ↓State.each_kept, ↓State.wr_kept]

theorem State.setBank_kept (s : State) (b : Nat) (x : Bank) : (State.setBank s b x).kept = s.kept := by
  unfold State.setBank
  simp only [↓State.kept_ite, State.kept_mk, State.kept_eta, ite_self, ↓State.kept_foldl, ↓State.each_kept]

theorem State.bankToward_kept (s : State) (b : Nat) (st : Nat) : (State.bankToward s b st).kept = s.kept := by
  unfold State.bankToward
  simp only [↓State.kept_ite, State.kept_mk, State.kept_eta, ite_self, ↓State.kept_foldl, ↓State.each_kept, ↓State.setBank_kept, ↓State.wr_kept]

theorem State.bankHold_kept (s : State) (x : BankAt) (rq : Request) (acc : Bool) : (State.bankHold s x rq acc).kept = s.kept := by
  unfold State.bankHold
  simp only [↓State.kept_ite, State.kept_mk, State.kept_eta, ite_self, ↓State.kept_foldl, ↓State.each_kept, ↓State.setBank_kept]

theorem State.bankDeny_kept (s : State) (b : Nat) (rq : Request) (code : Resp) : (State.bankDeny s b rq code).kept = s.kept := by
  unfold State.bankDeny
  simp only [↓State.kept_ite, State.kept_mk, State.kept_eta, ite_self, ↓State.kept_foldl, ↓State.each_kept, ↓State.bump_kept, ↓State.reply_kept]

theorem State.bankRequestState_kept (s : State) (b : Nat) (req : Nat) : (State.bankRequestState s b req).kept = s.kept := by
  unfold State.bankRequestState
  simp only [↓State.kept_ite, State.kept_mk, State.kept_eta, ite_self, ↓State.kept_foldl, ↓State.each_kept, ↓State.bankToward_kept, ↓State.wr_kept]

theorem State.bankKeptOn_kept (s : State) (b : Nat) : (State.bankKeptOn s b).kept = s.kept := by
  unfold State.bankKeptOn
  simp only [↓State.kept_ite, State.kept_mk, State.kept_eta, ite_self, ↓State.kept_foldl, ↓State.each_kept, ↓State.clr_kept, ↓State.setBank_kept]

theorem State.engineTakes_kept (s : State) (u : TestUnit) : (State.engineTakes s u).kept = s.kept := by
  unfold State.engineTakes
  (repeat' split) <;> first | with_reducible rfl | (simp only [↓State.kept_ite, State.kept_mk, State.kept_eta, ite_self, ↓State.kept_foldl, ↓State.each_kept, ↓State.bankKeptOn_kept]; done)

theorem State.heldPower_kept (s : State) (u : TestUnit) : (State.heldPower s u).kept = s.kept := by
  unfold State.heldPower
  (repeat' split) <;> first | with_reducible rfl | (simp only [↓State.kept_ite, State.kept_mk, State.kept_eta, ite_self, ↓State.kept_foldl, ↓State.each_kept, ↓State.bankRequestState_kept]; done)

theorem State.setEngine_kept (s : State) (e : Nat) (x : Engine) : (State.setEngine s e x).kept = s.kept := by
  unfold State.setEngine
  simp only [↓State.kept_ite, State.kept_mk, State.kept_eta, ite_self, ↓State.kept_foldl, ↓State.each_kept]

theorem State.setPlTorn_kept (s : State) (n : Nat) (p : Nat) (b : Bool) : (State.setPlTorn s n p b).kept = s.kept := by
  unfold State.setPlTorn
  simp only [↓State.kept_ite, State.kept_mk, State.kept_eta, ite_self, ↓State.kept_foldl, ↓State.each_kept, ↓State.clrBit_kept, ↓State.setBit_kept]

theorem State.testUnitEnds_kept (s : State) (u : TestUnit) : (State.testUnitEnds s u).kept = s.kept := by
  unfold State.testUnitEnds
  simp only [↓State.kept_ite, State.kept_mk, State.kept_eta, ite_self, ↓State.kept_foldl, ↓State.each_kept]

theorem State.w1c_kept (s : State) (f : Fld) (v : BitVec 32) : (State.w1c s f v).kept = s.kept := by
  unfold State.w1c
  simp only [↓State.kept_ite, State.kept_mk, State.kept_eta, ite_self, ↓State.kept_foldl, ↓State.each_kept, ↓State.wr_kept]

theorem State.w1cOnly_kept (s : State) (r : Reg) (v : BitVec 32) : (State.w1cOnly s r v).kept = s.kept := by
  unfold State.w1cOnly
  repeat' first
    | with_reducible rfl
    | with_reducible refine (State.each_kept _ _ _ (fun _ _ => ?_)).trans ?_
    | with_reducible refine (State.kept_foldl _ _ _ (fun _ _ => ?_)).trans ?_
    | with_reducible refine (State.kept_foldl_fst _ _ _ (fun _ _ => ?_)).trans ?_
    | simp only [↓State.kept_ite, State.kept_mk, State.kept_eta, ite_self, ↓State.kept_foldl, ↓State.each_kept, ↓State.w1c_kept]
    | split

theorem State.okWrite_kept (s : State) (ini : Ini) : (State.okWrite s ini).kept = s.kept := by
  unfold State.okWrite
  simp only [↓State.kept_ite, State.kept_mk, State.kept_eta, ite_self, ↓State.kept_foldl, ↓State.each_kept, ↓State.emit_kept]

theorem State.written_kept (s : State) (ini : Ini) (off : Nat) (f : State → State) (hf : ∀ (a0 : State), (f a0).kept = a0.kept) : (State.written s ini off f).kept = s.kept := by
  unfold State.written
  (repeat' split) <;> first | with_reducible rfl | (simp only [↓State.kept_ite, State.kept_mk, State.kept_eta, ite_self, ↓State.kept_foldl, ↓State.each_kept, ↓State.emit_kept, ↓State.okWrite_kept, hf]; done)

theorem State.put_kept (s : State) (u : FieldUse) (v : BitVec 32) : (State.put s u v).kept = s.kept := by
  unfold State.put
  simp only [↓State.kept_ite, State.kept_mk, State.kept_eta, ite_self, ↓State.kept_foldl, ↓State.each_kept, ↓State.wr_kept]

theorem State.storeField_kept (s : State) (v : BitVec 32) (u : FieldUse) : (State.storeField s v u).kept = s.kept := by
  unfold State.storeField
  (repeat' split) <;> first | with_reducible rfl | (simp only [↓State.kept_ite, State.kept_mk, State.kept_eta, ite_self, ↓State.kept_foldl, ↓State.each_kept, ↓State.put_kept, ↓State.w1c_kept, ↓State.wr_kept]; done)

theorem State.storeReg_kept (s : State) (r : Reg) (v : BitVec 32) : (State.storeReg s r v).kept = s.kept := by
  unfold State.storeReg
  repeat' first
    | with_reducible rfl
    | with_reducible refine (State.each_kept _ _ _ (fun _ _ => ?_)).trans ?_
    | with_reducible refine (State.kept_foldl _ _ _ (fun _ _ => ?_)).trans ?_
    | with_reducible refine (State.kept_foldl_fst _ _ _ (fun _ _ => ?_)).trans ?_
    | simp only [↓State.kept_ite, State.kept_mk, State.kept_eta, ite_self, ↓State.kept_foldl, ↓State.each_kept, ↓State.storeField_kept]
    | split

theorem wrBankCfg_kept (s : State) (b : Nat) (v : BitVec 32) : (wrBankCfg s b v).kept = s.kept := by
  unfold wrBankCfg
  simp only [↓State.kept_ite, State.kept_mk, State.kept_eta, ite_self, ↓State.kept_foldl, ↓State.each_kept, ↓State.set1_kept, ↓State.storeReg_kept, ↓State.w1cOnly_kept]

theorem wrBankWin_kept (s : State) (b : Nat) (portB : Bool) (v : BitVec 32) : (wrBankWin s b portB v).kept = s.kept := by
  unfold wrBankWin
  simp only [↓State.kept_ite, State.kept_mk, State.kept_eta, ite_self, ↓State.kept_foldl, ↓State.each_kept, ↓State.set1_kept, ↓State.storeReg_kept]

theorem wrBankPwr_kept (s : State) (b : Nat) (v : BitVec 32) : (wrBankPwr s b v).kept = s.kept := by
  unfold wrBankPwr
  simp only [↓State.kept_ite, State.kept_mk, State.kept_eta, ite_self, ↓State.kept_foldl, ↓State.each_kept, ↓State.bankRequestState_kept, ↓State.wr_kept]

theorem State.act136_kept (s : State) (t : Nat) (x2 : Req136) : (State.act136 s t x2).kept = s.kept := by
  unfold State.act136
  (repeat' split) <;> first | with_reducible rfl | (simp only [↓State.kept_ite, State.kept_mk, State.kept_eta, ite_self, ↓State.kept_foldl, ↓State.each_kept, ↓State.threadFault_kept, ↓State.threadOff_kept, ↓State.threadRestart_kept]; done)

theorem State.request136_kept (s : State) (t : Nat) (q : Req136) : (State.request136 s t q).kept = s.kept := by
  unfold State.request136
  simp only [↓State.kept_ite, State.kept_mk, State.kept_eta, ite_self, ↓State.kept_foldl, ↓State.each_kept, ↓State.act136_kept, ↓State.setThread_kept]

theorem State.arm_kept (s : State) (n : Nat) (bno : Nat) (a : Arm) : (State.arm s n bno a).kept = s.kept := by
  unfold State.arm
  simp only [↓State.kept_ite, State.kept_mk, State.kept_eta, ite_self, ↓State.kept_foldl, ↓State.each_kept, ↓State.setRegion_kept]

theorem State.enterFault_kept (s : State) (n : Nat) (cause : Nat) : (State.enterFault s n cause).kept = s.kept := by
  unfold State.enterFault
  simp only [↓State.kept_ite, State.kept_mk, State.kept_eta, ite_self, ↓State.kept_foldl, ↓State.each_kept, ↓State.enter_kept, ↓State.setRegion_kept, ↓State.wr_kept]

theorem State.fallbackLost_kept (s : State) (n : Nat) : (State.fallbackLost s n).kept = s.kept := by
  unfold State.fallbackLost
  simp only [↓State.kept_ite, State.kept_mk, State.kept_eta, ite_self, ↓State.kept_foldl, ↓State.each_kept, ↓State.enterFault_kept]

theorem State.fillEnded_kept (s : State) (n : Nat) (result : Nat) (plane : Nat) (corr : Nat) : (State.fillEnded s n result plane corr).kept = s.kept := by
  unfold State.fillEnded
  simp only [↓State.kept_ite, State.kept_mk, State.kept_eta, ite_self, ↓State.kept_foldl, ↓State.each_kept, ↓State.wr_kept]

theorem State.setShState_kept (s : State) (n : Nat) (x : ShState) : (State.setShState s n x).kept = s.kept := by
  unfold State.setShState
  simp only [↓State.kept_ite, State.kept_mk, State.kept_eta, ite_self, ↓State.kept_foldl, ↓State.each_kept, ↓State.wr_kept]

theorem State.invalidateShadow_kept (s : State) (n : Nat) : (State.invalidateShadow s n).kept = s.kept := by
  unfold State.invalidateShadow
  simp only [↓State.kept_ite, State.kept_mk, State.kept_eta, ite_self, ↓State.kept_foldl, ↓State.each_kept, ↓State.clr_kept, ↓State.setShState_kept]

theorem State.reportCorr_kept (s : State) (n : Nat) (p : Nat) (f : Nat) : (State.reportCorr s n p f).kept = s.kept := by
  unfold State.reportCorr
  simp only [↓State.kept_ite, State.kept_mk, State.kept_eta, ite_self, ↓State.kept_foldl, ↓State.each_kept, ↓State.bump_kept, ↓State.set1_kept]

theorem State.abandonFill_kept (s : State) (n : Nat) (result : Nat) : (State.abandonFill s n result).kept = s.kept := by
  unfold State.abandonFill
  repeat' first
    | with_reducible rfl
    | with_reducible refine (State.each_kept _ _ _ (fun _ _ => ?_)).trans ?_
    | with_reducible refine (State.kept_foldl _ _ _ (fun _ _ => ?_)).trans ?_
    | with_reducible refine (State.kept_foldl_fst _ _ _ (fun _ _ => ?_)).trans ?_
    | simp only [↓State.kept_ite, State.kept_mk, State.kept_eta, ite_self, ↓State.kept_foldl, ↓State.each_kept, ↓State.drawn_kept, ↓State.fallbackLost_kept, ↓State.fillEnded_kept, ↓State.invalidateShadow_kept, ↓State.reportCorr_kept]
    | split

theorem State.dropLater_kept (s : State) (n : Nat) (result : Nat) : (State.dropLater s n result).kept = s.kept := by
  unfold State.dropLater
  (repeat' split) <;> first | with_reducible rfl | (simp only [↓State.kept_ite, State.kept_mk, State.kept_eta, ite_self, ↓State.kept_foldl, ↓State.each_kept, ↓State.fillEnded_kept, ↓State.setRegion_kept]; done)

theorem State.queueFill_kept (s : State) (n : Nat) (p : Nat) (spec : Bool) (front : Bool) : (State.queueFill s n p spec front).kept = s.kept := by
  unfold State.queueFill
  simp only [↓State.kept_ite, State.kept_mk, State.kept_eta, ite_self, ↓State.kept_foldl, ↓State.each_kept, ↓State.setRegion_kept, ↓State.setShState_kept, ↓State.wr_kept, ↓State.wrb_kept]

theorem State.freshFill_kept (s : State) (n : Nat) (p : Nat) : (State.freshFill s n p).kept = s.kept := by
  unfold State.freshFill
  simp only [↓State.kept_ite, State.kept_mk, State.kept_eta, ite_self, ↓State.kept_foldl, ↓State.each_kept, ↓State.abandonFill_kept, ↓State.dropLater_kept, ↓State.dropRestore_kept, ↓State.queueFill_kept, ↓State.setRegion_kept]

theorem State.restoreRegion_kept (s : State) (bno : Nat) (i : TwinItem) : (State.restoreRegion s bno i).1.kept = s.kept := by
  unfold State.restoreRegion
  (repeat' split) <;> first | with_reducible rfl | (simp only [↓State.kept_ite, State.kept_mk, State.kept_eta, ite_self, ↓State.kept_foldl, ↓State.each_kept, ↓State.arm_kept, ↓State.bump_kept, ↓State.freshFill_kept, ↓State.log_kept]; done)

theorem State.setBuf_kept (s : State) (k : Nat) (x : NetBuf) : (State.setBuf s k x).kept = s.kept := by
  unfold State.setBuf
  simp only [↓State.kept_ite, State.kept_mk, State.kept_eta, ite_self, ↓State.kept_foldl, ↓State.each_kept]

theorem State.dropBound_kept (s : State) (g : Nat) (input : Nat) : (State.dropBound s g input).kept = s.kept := by
  unfold State.dropBound
  simp only [↓State.kept_ite, State.kept_mk, State.kept_eta, ite_self, ↓State.kept_foldl, ↓State.each_kept, ↓State.bumpN_kept, ↓State.setBuf_kept]

theorem State.replyFrom_kept (s : State) (node : Nat) (rq : Request) (code : Resp) : (State.replyFrom s node rq code).kept = s.kept := by
  unfold State.replyFrom
  simp only [↓State.kept_ite, State.kept_mk, State.kept_eta, ite_self, ↓State.kept_foldl, ↓State.each_kept, ↓State.answerReq_kept]

theorem State.setLink_kept (s : State) (g : Nat) (x : Link) : (State.setLink s g x).kept = s.kept := by
  unfold State.setLink
  simp only [↓State.kept_ite, State.kept_mk, State.kept_eta, ite_self, ↓State.kept_foldl, ↓State.each_kept]

theorem State.linkDiscards_kept (s : State) (g : Nat) : (State.linkDiscards s g).kept = s.kept := by
  unfold State.linkDiscards
  repeat' first
    | with_reducible rfl
    | with_reducible refine (State.each_kept _ _ _ (fun _ _ => ?_)).trans ?_
    | with_reducible refine (State.kept_foldl _ _ _ (fun _ _ => ?_)).trans ?_
    | with_reducible refine (State.kept_foldl_fst _ _ _ (fun _ _ => ?_)).trans ?_
    | simp only [↓State.kept_ite, State.kept_mk, State.kept_eta, ite_self, ↓State.kept_foldl, ↓State.each_kept, ↓State.bumpN_kept, ↓State.dropBound_kept, ↓State.replyFrom_kept, ↓State.setBuf_kept, ↓State.setLink_kept]
    | split

theorem State.setLstate_kept (s : State) (g : Nat) (x : LState) : (State.setLstate s g x).kept = s.kept := by
  unfold State.setLstate
  simp only [↓State.kept_ite, State.kept_mk, State.kept_eta, ite_self, ↓State.kept_foldl, ↓State.each_kept, ↓State.wr_kept]

theorem State.unlock_kept (s : State) (g : Nat) : (State.unlock s g).kept = s.kept := by
  unfold State.unlock
  simp only [↓State.kept_ite, State.kept_mk, State.kept_eta, ite_self, ↓State.kept_foldl, ↓State.each_kept, ↓State.clr_kept]

theorem State.linkStops_kept (s : State) (g : Nat) (st : LState) : (State.linkStops s g st).kept = s.kept := by
  unfold State.linkStops
  simp only [↓State.kept_ite, State.kept_mk, State.kept_eta, ite_self, ↓State.kept_foldl, ↓State.each_kept, ↓State.clr_kept, ↓State.linkDiscards_kept, ↓State.setLink_kept, ↓State.setLstate_kept, ↓State.unlock_kept]

theorem State.toDetect_kept (s : State) (g : Nat) : (State.toDetect s g).kept = s.kept := by
  unfold State.toDetect
  simp only [↓State.kept_ite, State.kept_mk, State.kept_eta, ite_self, ↓State.kept_foldl, ↓State.each_kept, ↓State.setLstate_kept, ↓State.unlock_kept]

theorem State.linkSettle_kept (s : State) (g : Nat) : (State.linkSettle s g).kept = s.kept := by
  unfold State.linkSettle
  repeat' first
    | with_reducible rfl
    | with_reducible refine (State.each_kept _ _ _ (fun _ _ => ?_)).trans ?_
    | with_reducible refine (State.kept_foldl _ _ _ (fun _ _ => ?_)).trans ?_
    | with_reducible refine (State.kept_foldl_fst _ _ _ (fun _ _ => ?_)).trans ?_
    | simp only [↓State.kept_ite, State.kept_mk, State.kept_eta, ite_self, ↓State.kept_foldl, ↓State.each_kept, ↓State.linkStops_kept, ↓State.toDetect_kept]
    | split

theorem State.linksSettle_kept (s : State) : (State.linksSettle s).kept = s.kept := by
  unfold State.linksSettle
  repeat' first
    | with_reducible rfl
    | with_reducible refine (State.each_kept _ _ _ (fun _ _ => ?_)).trans ?_
    | with_reducible refine (State.kept_foldl _ _ _ (fun _ _ => ?_)).trans ?_
    | with_reducible refine (State.kept_foldl_fst _ _ _ (fun _ _ => ?_)).trans ?_
    | simp only [↓State.kept_ite, State.kept_mk, State.kept_eta, ite_self, ↓State.kept_foldl, ↓State.each_kept, ↓State.linkSettle_kept]
    | split

theorem State.setPad_kept (s : State) (b : Nat) (x : Pads) : (State.setPad s b x).kept = s.kept := by
  unfold State.setPad
  simp only [↓State.kept_ite, State.kept_mk, State.kept_eta, ite_self, ↓State.kept_foldl, ↓State.each_kept]

theorem State.twinPads_kept (s : State) : (State.twinPads s).kept = s.kept := by
  unfold State.twinPads
  repeat' first
    | with_reducible rfl
    | with_reducible refine (State.each_kept _ _ _ (fun _ _ => ?_)).trans ?_
    | with_reducible refine (State.kept_foldl _ _ _ (fun _ _ => ?_)).trans ?_
    | with_reducible refine (State.kept_foldl_fst _ _ _ (fun _ _ => ?_)).trans ?_
    | simp only [↓State.kept_ite, State.kept_mk, State.kept_eta, ite_self, ↓State.kept_foldl, ↓State.each_kept, ↓State.setPad_kept]
    | split

theorem State.setPstate_kept (s : State) (x : PState) : (State.setPstate s x).kept = s.kept := by
  unfold State.setPstate
  simp only [↓State.kept_ite, State.kept_mk, State.kept_eta, ite_self, ↓State.kept_foldl, ↓State.each_kept, ↓State.linksSettle_kept, ↓State.twinPads_kept, ↓State.wr_kept]

theorem State.setTwin_kept (s : State) (t : Twin) : (State.setTwin s t).kept = s.kept := by
  unfold State.setTwin
  simp only [↓State.kept_ite, State.kept_mk, State.kept_eta, ite_self, ↓State.kept_foldl, ↓State.each_kept]

theorem State.sendTwin_kept (s : State) (dev : Nat) (kind : Nat) (off : Nat) (data : List Byte) (poison : Nat) : (State.sendTwin s dev kind off data poison).kept = s.kept := by
  unfold State.sendTwin
  simp only [↓State.kept_ite, State.kept_mk, State.kept_eta, ite_self, ↓State.kept_foldl, ↓State.each_kept, ↓State.sendReq_kept]

theorem State.snoopFeed_kept (s : State) : (State.snoopFeed s).1.kept = s.kept := by
  unfold State.snoopFeed
  repeat' first
    | with_reducible rfl
    | with_reducible refine (State.each_kept _ _ _ (fun _ _ => ?_)).trans ?_
    | with_reducible refine (State.kept_foldl _ _ _ (fun _ _ => ?_)).trans ?_
    | with_reducible refine (State.kept_foldl_fst _ _ _ (fun _ _ => ?_)).trans ?_
    | simp only [↓State.kept_ite, State.kept_mk, State.kept_eta, ite_self, ↓State.kept_foldl, ↓State.each_kept, ↓State.set1_kept]
    | split

theorem State.part_kept (s : State) : (State.part s).kept = s.kept := by
  unfold State.part
  simp only [↓State.kept_ite, State.kept_mk, State.kept_eta, ite_self, ↓State.kept_foldl, ↓State.each_kept, ↓State.setTwin_kept]

theorem State.standbyLost_kept (s : State) : (State.standbyLost s).kept = s.kept := by
  unfold State.standbyLost
  simp only [↓State.kept_ite, State.kept_mk, State.kept_eta, ite_self, ↓State.kept_foldl, ↓State.each_kept, ↓State.log_kept, ↓State.part_kept, ↓State.setPstate_kept, ↓State.setTwin_kept]

theorem State.mirrorIssue_kept (k : Nat) (s : State) : (State.mirrorIssue k s).kept = s.kept := by
  induction k generalizing s with
  | zero => rfl
  | succ k ih =>
    unfold State.mirrorIssue
    split
    · rfl
    · split
      · rfl
      · simp only [ih, ↓State.setTwin_kept, ↓State.sendTwin_kept]

theorem State.mirrorSkip_kept (s : State) : (State.mirrorSkip s).kept = s.kept := by
  unfold State.mirrorSkip
  simp only [↓State.kept_ite, State.kept_mk, State.kept_eta, ite_self, ↓State.kept_foldl, ↓State.each_kept, ↓State.bump_kept, ↓State.log_kept]

theorem State.snapIssue_kept (k : Nat) (s : State) : (State.snapIssue k s).kept = s.kept := by
  induction k generalizing s with
  | zero => rfl
  | succ k ih =>
    unfold State.snapIssue
    split
    · rfl
    · split
      · rfl
      · simp only [ih, ↓State.setTwin_kept, ↓State.sendReq_kept]

theorem State.sendJoin_kept (s : State) : (State.sendJoin s).kept = s.kept := by
  unfold State.sendJoin
  simp only [↓State.kept_ite, State.kept_mk, State.kept_eta, ite_self, ↓State.kept_foldl, ↓State.each_kept, ↓State.sendTwin_kept, ↓State.setTwin_kept]

theorem State.offerJoin_kept (s : State) : (State.offerJoin s).kept = s.kept := by
  unfold State.offerJoin
  simp only [↓State.kept_ite, State.kept_mk, State.kept_eta, ite_self, ↓State.kept_foldl, ↓State.each_kept, ↓State.sendJoin_kept]

theorem State.toJoining_kept (s : State) : (State.toJoining s).kept = s.kept := by
  unfold State.toJoining
  simp only [↓State.kept_ite, State.kept_mk, State.kept_eta, ite_self, ↓State.kept_foldl, ↓State.each_kept, ↓State.offerJoin_kept, ↓State.part_kept, ↓State.setPstate_kept, ↓State.setTwin_kept]

theorem State.endRoles_kept (s : State) (k : Nat) : (State.endRoles s k).kept = s.kept := by
  unfold State.endRoles
  simp only [↓State.kept_ite, State.kept_mk, State.kept_eta, ite_self, ↓State.kept_foldl, ↓State.each_kept, ↓State.setPstate_kept, ↓State.setTwin_kept, ↓State.toJoining_kept]

theorem State.sendMarkers_kept (s : State) : (State.sendMarkers s).kept = s.kept := by
  unfold State.sendMarkers
  repeat' first
    | with_reducible rfl
    | with_reducible refine (State.each_kept _ _ _ (fun _ _ => ?_)).trans ?_
    | with_reducible refine (State.kept_foldl _ _ _ (fun _ _ => ?_)).trans ?_
    | with_reducible refine (State.kept_foldl_fst _ _ _ (fun _ _ => ?_)).trans ?_
    | simp only [↓State.kept_ite, State.kept_mk, State.kept_eta, ite_self, ↓State.kept_foldl, ↓State.each_kept, ↓State.drawn_kept, ↓State.emit_kept, ↓State.setLink_kept]
    | split

theorem State.markerBoundary_kept (s : State) (usable : Bool) (first : Bool) (rest : Nat) : (State.markerBoundary s usable first rest).kept = s.kept := by
  unfold State.markerBoundary
  simp only [↓State.kept_ite, State.kept_mk, State.kept_eta, ite_self, ↓State.kept_foldl, ↓State.each_kept, ↓State.set1_kept]

theorem State.cutPins_kept (s : State) : (State.cutPins s).kept = s.kept := by
  unfold State.cutPins
  repeat' first
    | with_reducible rfl
    | with_reducible refine (State.each_kept _ _ _ (fun _ _ => ?_)).trans ?_
    | with_reducible refine (State.kept_foldl _ _ _ (fun _ _ => ?_)).trans ?_
    | with_reducible refine (State.kept_foldl_fst _ _ _ (fun _ _ => ?_)).trans ?_
    | simp only [↓State.kept_ite, State.kept_mk, State.kept_eta, ite_self, ↓State.kept_foldl, ↓State.each_kept, ↓State.setPort_kept]
    | split

theorem State.incr_kept (s : State) (f : Fld) : (State.incr s f).kept = s.kept := by
  unfold State.incr
  simp only [↓State.kept_ite, State.kept_mk, State.kept_eta, ite_self, ↓State.kept_foldl, ↓State.each_kept, ↓State.wr_kept]

theorem State.snoopMismatch_kept (s : State) (u : Nat) (result : Nat) : (State.snoopMismatch s u result).kept = s.kept := by
  unfold State.snoopMismatch
  simp only [↓State.kept_ite, State.kept_mk, State.kept_eta, ite_self, ↓State.kept_foldl, ↓State.each_kept, ↓State.bump_kept, ↓State.logP_kept, ↓State.pulse_kept, ↓State.set1_kept]

theorem State.setSnoop_kept (s : State) (u : Nat) (x : Snoop) : (State.setSnoop s u x).kept = s.kept := by
  unfold State.setSnoop
  simp only [↓State.kept_ite, State.kept_mk, State.kept_eta, ite_self, ↓State.kept_foldl, ↓State.each_kept]

theorem State.snoopOpen_kept (s : State) (u : Nat) : (State.snoopOpen s u).kept = s.kept := by
  unfold State.snoopOpen
  simp only [↓State.kept_ite, State.kept_mk, State.kept_eta, ite_self, ↓State.kept_foldl, ↓State.each_kept, ↓State.setSnoop_kept]

theorem State.snoopPush_kept (s : State) (u : Nat) (result : Nat) (poison : Bool) : (State.snoopPush s u result poison).kept = s.kept := by
  unfold State.snoopPush
  simp only [↓State.kept_ite, State.kept_mk, State.kept_eta, ite_self, ↓State.kept_foldl, ↓State.each_kept, ↓State.set1_kept, ↓State.setSnoop_kept]

theorem State.snoopClose_kept (s : State) (u : Nat) : (State.snoopClose s u).kept = s.kept := by
  unfold State.snoopClose
  simp only [↓State.kept_ite, State.kept_mk, State.kept_eta, ite_self, ↓State.kept_foldl, ↓State.each_kept, ↓State.incr_kept, ↓State.snoopMismatch_kept, ↓State.snoopOpen_kept, ↓State.snoopPush_kept, ↓State.wr_kept, ↓State.wrb_kept]

theorem State.snoopBoundary_kept (s : State) (tick : Bool) : (State.snoopBoundary s tick).kept = s.kept := by
  unfold State.snoopBoundary
  repeat' first
    | with_reducible rfl
    | with_reducible refine (State.each_kept _ _ _ (fun _ _ => ?_)).trans ?_
    | with_reducible refine (State.kept_foldl _ _ _ (fun _ _ => ?_)).trans ?_
    | with_reducible refine (State.kept_foldl_fst _ _ _ (fun _ _ => ?_)).trans ?_
    | simp only [↓State.kept_ite, State.kept_mk, State.kept_eta, ite_self, ↓State.kept_foldl, ↓State.each_kept, ↓State.snoopClose_kept, ↓State.snoopOpen_kept]
    | split

theorem State.applyLayout_kept (s : State) : (State.applyLayout s).kept = s.kept := by
  unfold State.applyLayout
  repeat' first
    | with_reducible rfl
    | with_reducible refine (State.each_kept _ _ _ (fun _ _ => ?_)).trans ?_
    | with_reducible refine (State.kept_foldl _ _ _ (fun _ _ => ?_)).trans ?_
    | with_reducible refine (State.kept_foldl_fst _ _ _ (fun _ _ => ?_)).trans ?_
    | simp only [↓State.kept_ite, State.kept_mk, State.kept_eta, ite_self, ↓State.kept_foldl, ↓State.each_kept, ↓State.clr_kept, ↓State.wr_kept]
    | split

theorem State.generatorStops_kept (s : State) : (State.generatorStops s).kept = s.kept := by
  unfold State.generatorStops
  repeat' first
    | with_reducible rfl
    | with_reducible refine (State.each_kept _ _ _ (fun _ _ => ?_)).trans ?_
    | with_reducible refine (State.kept_foldl _ _ _ (fun _ _ => ?_)).trans ?_
    | with_reducible refine (State.kept_foldl_fst _ _ _ (fun _ _ => ?_)).trans ?_
    | simp only [↓State.kept_ite, State.kept_mk, State.kept_eta, ite_self, ↓State.kept_foldl, ↓State.each_kept, ↓State.clr_kept, ↓State.setRegion_kept]
    | split

theorem State.finishStop_kept (s : State) : (State.finishStop s).kept = s.kept := by
  unfold State.finishStop
  simp only [↓State.kept_ite, State.kept_mk, State.kept_eta, ite_self, ↓State.kept_foldl, ↓State.each_kept, ↓State.generatorStops_kept]

theorem State.refuse_kept (s : State) (n : Nat) (c : RCmd) (code : Refuse) (atClamp : Bool) : (State.refuse s n c code atClamp).kept = s.kept := by
  unfold State.refuse
  (repeat' split) <;> first | with_reducible rfl | (simp only [↓State.kept_ite, State.kept_mk, State.kept_eta, ite_self, ↓State.kept_foldl, ↓State.each_kept, ↓State.log_kept, ↓State.set1_kept, ↓State.threadRefuse_kept, ↓State.wr_kept]; done)

theorem State.refuseArmed_kept (s : State) (n : Nat) (a : Arm) (code : Refuse) : (State.refuseArmed s n a code).kept = s.kept := by
  unfold State.refuseArmed
  (repeat' split) <;> first | with_reducible rfl | (simp only [↓State.kept_ite, State.kept_mk, State.kept_eta, ite_self, ↓State.kept_foldl, ↓State.each_kept, ↓State.bump_kept, ↓State.refuse_kept]; done)

theorem State.acceptFill_kept (s : State) (n : Nat) (p : Nat) (spec : Option Nat) : (State.acceptFill s n p spec).kept = s.kept := by
  unfold State.acceptFill
  (repeat' split) <;> first | with_reducible rfl | (simp only [↓State.kept_ite, State.kept_mk, State.kept_eta, ite_self, ↓State.kept_foldl, ↓State.each_kept, ↓State.abandonFill_kept, ↓State.clr_kept, ↓State.dropLater_kept, ↓State.dropRestore_kept, ↓State.fillEnded_kept, ↓State.queueFill_kept, ↓State.setRegion_kept, ↓State.wr_kept]; done)

theorem State.takeLater_kept (s : State) (n : Nat) : (State.takeLater s n).kept = s.kept := by
  unfold State.takeLater
  (repeat' split) <;> first | with_reducible rfl | (simp only [↓State.kept_ite, State.kept_mk, State.kept_eta, ite_self, ↓State.kept_foldl, ↓State.each_kept, ↓State.acceptFill_kept, ↓State.dropLater_kept, ↓State.freshFill_kept, ↓State.setRegion_kept]; done)

theorem State.dropClamp_kept (s : State) (n : Nat) : (State.dropClamp s n).kept = s.kept := by
  unfold State.dropClamp
  simp only [↓State.kept_ite, State.kept_mk, State.kept_eta, ite_self, ↓State.kept_foldl, ↓State.each_kept, ↓State.setRegion_kept, ↓State.takeLater_kept]

theorem State.refuseClamp_kept (s : State) (n : Nat) (job : SwapJob) (code : Refuse) : (State.refuseClamp s n job code).kept = s.kept := by
  unfold State.refuseClamp
  simp only [↓State.kept_ite, State.kept_mk, State.kept_eta, ite_self, ↓State.kept_foldl, ↓State.each_kept, ↓State.dropClamp_kept, ↓State.enterFault_kept, ↓State.refuseArmed_kept]

theorem State.unarm_kept (s : State) (n : Nat) (bno : Nat) : (State.unarm s n bno).kept = s.kept := by
  unfold State.unarm
  simp only [↓State.kept_ite, State.kept_mk, State.kept_eta, ite_self, ↓State.kept_foldl, ↓State.each_kept, ↓State.setRegion_kept]

theorem State.regionBoundary_kept (s : State) (n : Nat) : (State.regionBoundary s n).kept = s.kept := by
  unfold State.regionBoundary
  repeat' first
    | with_reducible rfl
    | with_reducible refine (State.each_kept _ _ _ (fun _ _ => ?_)).trans ?_
    | with_reducible refine (State.kept_foldl _ _ _ (fun _ _ => ?_)).trans ?_
    | with_reducible refine (State.kept_foldl_fst _ _ _ (fun _ _ => ?_)).trans ?_
    | simp only [↓State.kept_ite, State.kept_mk, State.kept_eta, ite_self, ↓State.kept_foldl, ↓State.each_kept, ↓State.refuseArmed_kept, ↓State.refuseClamp_kept, ↓State.setHold_kept, ↓State.setRegion_kept, ↓State.unarm_kept]
    | split

theorem State.threadBoundary_kept (s : State) (tick : Bool) (t : Nat) : (State.threadBoundary s tick t).kept = s.kept := by
  unfold State.threadBoundary
  (repeat' split) <;> first | with_reducible rfl | (simp only [↓State.kept_ite, State.kept_mk, State.kept_eta, ite_self, ↓State.kept_foldl, ↓State.each_kept, ↓State.commit_kept]; done)

theorem State.threadOverrun_kept (s : State) (slot : Nat) (t : Nat) : (State.threadOverrun s slot t).kept = s.kept := by
  unfold State.threadOverrun
  repeat' first
    | with_reducible rfl
    | with_reducible refine (State.each_kept _ _ _ (fun _ _ => ?_)).trans ?_
    | with_reducible refine (State.kept_foldl _ _ _ (fun _ _ => ?_)).trans ?_
    | with_reducible refine (State.kept_foldl_fst _ _ _ (fun _ _ => ?_)).trans ?_
    | simp only [↓State.kept_ite, State.kept_mk, State.kept_eta, ite_self, ↓State.kept_foldl, ↓State.each_kept, ↓State.bump_kept, ↓State.log_kept, ↓State.request136_kept, ↓State.set1_kept]
    | split

theorem State.tickOutPulse_kept (s : State) : (State.tickOutPulse s).kept = s.kept := by
  unfold State.tickOutPulse
  simp only [↓State.kept_ite, State.kept_mk, State.kept_eta, ite_self, ↓State.kept_foldl, ↓State.each_kept, ↓State.emit_kept]

theorem State.tickBoundary_kept (s : State) : (State.tickBoundary s).kept = s.kept := by
  unfold State.tickBoundary
  repeat' first
    | with_reducible rfl
    | with_reducible refine (State.each_kept _ _ _ (fun _ _ => ?_)).trans ?_
    | with_reducible refine (State.kept_foldl _ _ _ (fun _ _ => ?_)).trans ?_
    | with_reducible refine (State.kept_foldl_fst _ _ _ (fun _ _ => ?_)).trans ?_
    | simp only [↓State.kept_ite, State.kept_mk, State.kept_eta, ite_self, ↓State.kept_foldl, ↓State.each_kept, ↓State.applyLayout_kept, ↓State.clr_kept, ↓State.finishStop_kept, ↓State.regionBoundary_kept, ↓State.set1_kept, ↓State.threadBoundary_kept, ↓State.threadOverrun_kept, ↓State.tickOutPulse_kept, ↓State.wr64_kept]
    | split

theorem State.slotBoundary_kept (s : State) : (State.slotBoundary s).kept = s.kept := by
  unfold State.slotBoundary
  repeat' first
    | with_reducible rfl
    | with_reducible refine (State.each_kept _ _ _ (fun _ _ => ?_)).trans ?_
    | with_reducible refine (State.kept_foldl _ _ _ (fun _ _ => ?_)).trans ?_
    | with_reducible refine (State.kept_foldl_fst _ _ _ (fun _ _ => ?_)).trans ?_
    | simp only [↓State.kept_ite, State.kept_mk, State.kept_eta, ite_self, ↓State.kept_foldl, ↓State.each_kept, ↓State.regionBoundary_kept, ↓State.threadBoundary_kept, ↓State.wr_kept]
    | split

theorem State.stopSpillInto_kept (s : State) (n : Nat) (p : Nat) : (State.stopSpillInto s n p).kept = s.kept := by
  unfold State.stopSpillInto
  (repeat' split) <;> first | with_reducible rfl | (simp only [↓State.kept_ite, State.kept_mk, State.kept_eta, ite_self, ↓State.kept_foldl, ↓State.each_kept, ↓State.clr_kept, ↓State.setRegion_kept]; done)

theorem State.erase_kept (s : State) (n : Nat) (p : Nat) : (State.erase s n p).kept = s.kept := by
  unfold State.erase
  simp only [↓State.kept_ite, State.kept_mk, State.kept_eta, ite_self, ↓State.kept_foldl, ↓State.each_kept, ↓State.abandonFill_kept, ↓State.invalidateShadow_kept, ↓State.set1_kept, ↓State.setPlState_kept, ↓State.stopSpillInto_kept]

theorem State.staleCorr_kept (s : State) (n : Nat) (p : Nat) (f : Nat) : (State.staleCorr s n p f).kept = s.kept := by
  unfold State.staleCorr
  simp only [↓State.kept_ite, State.kept_mk, State.kept_eta, ite_self, ↓State.kept_foldl, ↓State.each_kept]

theorem State.clearSlices_kept (s : State) (n : Nat) : (State.clearSlices s n).kept = s.kept := by
  unfold State.clearSlices
  simp only [↓State.kept_ite, State.kept_mk, State.kept_eta, ite_self, ↓State.kept_foldl, ↓State.each_kept]

theorem State.pwrRefuse_kept (s : State) (d : Nat) (on : Bool) (src : PwrSrc) (e : PwrRefuse) : (State.pwrRefuse s d on src e).kept = s.kept := by
  unfold State.pwrRefuse
  (repeat' split) <;> first | with_reducible rfl | (simp only [↓State.kept_ite, State.kept_mk, State.kept_eta, ite_self, ↓State.kept_foldl, ↓State.each_kept, ↓State.log_kept, ↓State.set1_kept, ↓State.threadRefuse_kept, ↓State.wr_kept]; done)

theorem State.setDom_kept (s : State) (d : Nat) (x : Dom) : (State.setDom s d x).kept = s.kept := by
  unfold State.setDom
  simp only [↓State.kept_ite, State.kept_mk, State.kept_eta, ite_self, ↓State.kept_foldl, ↓State.each_kept]

theorem State.setDstate_kept (s : State) (d : Nat) (x : DState) : (State.setDstate s d x).kept = s.kept := by
  unfold State.setDstate
  simp only [↓State.kept_ite, State.kept_mk, State.kept_eta, ite_self, ↓State.kept_foldl, ↓State.each_kept, ↓State.wr_kept]

theorem State.requestOff_kept (s : State) (d : Nat) (src : PwrSrc) : (State.requestOff s d src).kept = s.kept := by
  unfold State.requestOff
  (repeat' split) <;> first | with_reducible rfl | (simp only [↓State.kept_ite, State.kept_mk, State.kept_eta, ite_self, ↓State.kept_foldl, ↓State.each_kept, ↓State.clr_kept, ↓State.pwrRefuse_kept, ↓State.setDom_kept, ↓State.setDstate_kept]; done)

theorem State.requestOn_kept (s : State) (d : Nat) (src : PwrSrc) : (State.requestOn s d src).kept = s.kept := by
  unfold State.requestOn
  repeat' first
    | with_reducible rfl
    | with_reducible refine (State.each_kept _ _ _ (fun _ _ => ?_)).trans ?_
    | with_reducible refine (State.kept_foldl _ _ _ (fun _ _ => ?_)).trans ?_
    | with_reducible refine (State.kept_foldl_fst _ _ _ (fun _ _ => ?_)).trans ?_
    | simp only [↓State.kept_ite, State.kept_mk, State.kept_eta, ite_self, ↓State.kept_foldl, ↓State.each_kept, ↓State.pwrRefuse_kept, ↓State.set1_kept, ↓State.setDom_kept, ↓State.setDstate_kept]
    | split

theorem State.setPlActive_kept (s : State) (n : Nat) (p : Nat) (b : Bool) : (State.setPlActive s n p b).kept = s.kept := by
  unfold State.setPlActive
  simp only [↓State.kept_ite, State.kept_mk, State.kept_eta, ite_self, ↓State.kept_foldl, ↓State.each_kept, ↓State.clrBit_kept, ↓State.setBit_kept]

theorem State.actRegion_kept (s : State) (n : Nat) (c : RCmd) (bno : Nat) : (State.actRegion s n c bno).kept = s.kept := by
  unfold State.actRegion
  (repeat' split) <;> first | with_reducible rfl | (simp only [↓State.kept_ite, State.kept_mk, State.kept_eta, ite_self, ↓State.kept_foldl, ↓State.each_kept, ↓State.abandonFill_kept, ↓State.acceptFill_kept, ↓State.arm_kept, ↓State.clearSlices_kept, ↓State.clr_kept, ↓State.clrBit_kept, ↓State.clrHold_kept, ↓State.dropLater_kept, ↓State.enter_kept, ↓State.requestOff_kept, ↓State.requestOn_kept, ↓State.setBit_kept, ↓State.setHold_kept, ↓State.setPlActive_kept, ↓State.setRegion_kept]; done)

theorem State.queueCmd_kept (s : State) (n : Nat) (c : RCmd) : (State.queueCmd s n c).kept = s.kept := by
  unfold State.queueCmd
  simp only [↓State.kept_ite, State.kept_mk, State.kept_eta, ite_self, ↓State.kept_foldl, ↓State.each_kept, ↓State.setRegion_kept]

theorem State.powerCommand_kept (s : State) (n : Nat) (c : RCmd) : (State.powerCommand s n c).kept = s.kept := by
  unfold State.powerCommand
  (repeat' split) <;> first | with_reducible rfl | (simp only [↓State.kept_ite, State.kept_mk, State.kept_eta, ite_self, ↓State.kept_foldl, ↓State.each_kept, ↓State.actRegion_kept, ↓State.refuse_kept]; done)

theorem State.regionCommand_kept (s : State) (n : Nat) (c : RCmd) (bno : Nat) : (State.regionCommand s n c bno).kept = s.kept := by
  unfold State.regionCommand
  (repeat' split) <;> first | with_reducible rfl | (simp only [↓State.kept_ite, State.kept_mk, State.kept_eta, ite_self, ↓State.kept_foldl, ↓State.each_kept, ↓State.actRegion_kept, ↓State.powerCommand_kept, ↓State.queueCmd_kept, ↓State.refuse_kept]; done)

theorem State.commandNow_kept (s : State) (n : Nat) (kind : RCmdKind) (src : CmdSrc) : (State.commandNow s n kind src).kept = s.kept := by
  unfold State.commandNow
  (repeat' split) <;> first | with_reducible rfl | (simp only [↓State.kept_ite, State.kept_mk, State.kept_eta, ite_self, ↓State.kept_foldl, ↓State.each_kept, ↓State.lateArm_kept, ↓State.regionCommand_kept]; done)

theorem State.writeOwner_kept (s : State) (n : Nat) (owner : Bool) : (State.writeOwner s n owner).kept = s.kept := by
  unfold State.writeOwner
  simp only [↓State.kept_ite, State.kept_mk, State.kept_eta, ite_self, ↓State.kept_foldl, ↓State.each_kept, ↓State.set1_kept, ↓State.wr_kept, ↓State.wrb_kept]

theorem wrRegionCtl_kept (s : State) (n : Nat) (v : BitVec 32) : (wrRegionCtl s n v).kept = s.kept := by
  unfold wrRegionCtl
  (repeat' split) <;> first | with_reducible rfl | (simp only [↓State.kept_ite, State.kept_mk, State.kept_eta, ite_self, ↓State.kept_foldl, ↓State.each_kept, ↓State.commandNow_kept, ↓State.w1cOnly_kept, ↓State.writeOwner_kept]; done)

theorem State.squashFill_kept (s : State) (n : Nat) (p : Nat) (t : Nat) : (State.squashFill s n p t).kept = s.kept := by
  unfold State.squashFill
  repeat' first
    | with_reducible rfl
    | with_reducible refine (State.each_kept _ _ _ (fun _ _ => ?_)).trans ?_
    | with_reducible refine (State.kept_foldl _ _ _ (fun _ _ => ?_)).trans ?_
    | with_reducible refine (State.kept_foldl_fst _ _ _ (fun _ _ => ?_)).trans ?_
    | simp only [↓State.kept_ite, State.kept_mk, State.kept_eta, ite_self, ↓State.kept_foldl, ↓State.each_kept, ↓State.abandonFill_kept, ↓State.acceptFill_kept, ↓State.bump_kept, ↓State.dropLater_kept, ↓State.dropRestore_kept, ↓State.invalidateShadow_kept]
    | split

theorem State.specFill_kept (s : State) (n : Nat) (p : Nat) (t : Nat) (seq : Nat) : (State.specFill s n p t seq).kept = s.kept := by
  unfold State.specFill
  (repeat' split) <;> first | with_reducible rfl | (simp only [↓State.kept_ite, State.kept_mk, State.kept_eta, ite_self, ↓State.kept_foldl, ↓State.each_kept, ↓State.acceptFill_kept, ↓State.setThread_kept, ↓State.wr_kept]; done)

theorem State.threadPower_kept (s : State) (d : Nat) (on : Bool) (t : Nat) : (State.threadPower s d on t).kept = s.kept := by
  unfold State.threadPower
  simp only [↓State.kept_ite, State.kept_mk, State.kept_eta, ite_self, ↓State.kept_foldl, ↓State.each_kept, ↓State.regionCommand_kept, ↓State.requestOff_kept, ↓State.requestOn_kept, ↓State.threadRefuse_kept]

theorem State.restoreFrames_kept (s : State) (n : Nat) (p : Nat) (set : Bool) : (State.restoreFrames s n p set).kept = s.kept := by
  unfold State.restoreFrames
  repeat' first
    | with_reducible rfl
    | with_reducible refine (State.each_kept _ _ _ (fun _ _ => ?_)).trans ?_
    | with_reducible refine (State.kept_foldl _ _ _ (fun _ _ => ?_)).trans ?_
    | with_reducible refine (State.kept_foldl_fst _ _ _ (fun _ _ => ?_)).trans ?_
    | simp only [↓State.kept_ite, State.kept_mk, State.kept_eta, ite_self, ↓State.kept_foldl, ↓State.each_kept]
    | split

theorem State.damagePlane_kept (s : State) (n : Nat) (p : Nat) (f : Nat) : (State.damagePlane s n p f).kept = s.kept := by
  unfold State.damagePlane
  simp only [↓State.kept_ite, State.kept_mk, State.kept_eta, ite_self, ↓State.kept_foldl, ↓State.each_kept, ↓State.log_kept, ↓State.setPlState_kept]

theorem State.dropArms_kept (s : State) (n : Nat) (bno : Nat) : (State.dropArms s n bno).kept = s.kept := by
  unfold State.dropArms
  simp only [↓State.kept_ite, State.kept_mk, State.kept_eta, ite_self, ↓State.kept_foldl, ↓State.each_kept, ↓State.unarm_kept]

theorem State.deferArms_kept (s : State) (n : Nat) (bno : Nat) : (State.deferArms s n bno).kept = s.kept := by
  unfold State.deferArms
  simp only [↓State.kept_ite, State.kept_mk, State.kept_eta, ite_self, ↓State.kept_foldl, ↓State.each_kept, ↓State.dropArms_kept, ↓State.setRegion_kept]

theorem State.takeLate_kept (s : State) : (State.takeLate s).kept = s.kept := by
  unfold State.takeLate
  repeat' first
    | with_reducible rfl
    | with_reducible refine (State.each_kept _ _ _ (fun _ _ => ?_)).trans ?_
    | with_reducible refine (State.kept_foldl _ _ _ (fun _ _ => ?_)).trans ?_
    | with_reducible refine (State.kept_foldl_fst _ _ _ (fun _ _ => ?_)).trans ?_
    | simp only [↓State.kept_ite, State.kept_mk, State.kept_eta, ite_self, ↓State.kept_foldl, ↓State.each_kept, ↓State.set1_kept, ↓State.setRegion_kept]
    | split

theorem State.beginClamp_kept (s : State) (n : Nat) (job : SwapJob) : (State.beginClamp s n job).kept = s.kept := by
  unfold State.beginClamp
  (repeat' split) <;> first | with_reducible rfl | (simp only [↓State.kept_ite, State.kept_mk, State.kept_eta, ite_self, ↓State.kept_foldl, ↓State.each_kept, ↓State.abandonFill_kept, ↓State.dropRestore_kept, ↓State.setRegion_kept]; done)

theorem State.beginSpill_kept (s : State) (n : Nat) (p : Nat) : (State.beginSpill s n p).kept = s.kept := by
  unfold State.beginSpill
  simp only [↓State.kept_ite, State.kept_mk, State.kept_eta, ite_self, ↓State.kept_foldl, ↓State.each_kept, ↓State.set1_kept, ↓State.setRegion_kept]

theorem State.bringFallback_kept (s : State) (n : Nat) (p : Nat) : (State.bringFallback s n p).kept = s.kept := by
  unfold State.bringFallback
  simp only [↓State.kept_ite, State.kept_mk, State.kept_eta, ite_self, ↓State.kept_foldl, ↓State.each_kept, ↓State.abandonFill_kept, ↓State.clr_kept, ↓State.dropRestore_kept, ↓State.enterFault_kept, ↓State.queueFill_kept, ↓State.setRegion_kept]

theorem State.cutReads_kept (s : State) (n : Nat) : (State.cutReads s n).kept = s.kept := by
  unfold State.cutReads
  simp only [↓State.kept_ite, State.kept_mk, State.kept_eta, ite_self, ↓State.kept_foldl, ↓State.each_kept]

theorem State.dropPartial_kept (s : State) (n : Nat) : (State.dropPartial s n).kept = s.kept := by
  unfold State.dropPartial
  repeat' first
    | with_reducible rfl
    | with_reducible refine (State.each_kept _ _ _ (fun _ _ => ?_)).trans ?_
    | with_reducible refine (State.kept_foldl _ _ _ (fun _ _ => ?_)).trans ?_
    | with_reducible refine (State.kept_foldl_fst _ _ _ (fun _ _ => ?_)).trans ?_
    | simp only [↓State.kept_ite, State.kept_mk, State.kept_eta, ite_self, ↓State.kept_foldl, ↓State.each_kept, ↓State.bump_kept, ↓State.setPort_kept]
    | split

theorem State.unpark_kept (s : State) (n : Nat) (plane : Nat) : (State.unpark s n plane).kept = s.kept := by
  unfold State.unpark
  repeat' first
    | with_reducible rfl
    | with_reducible refine (State.each_kept _ _ _ (fun _ _ => ?_)).trans ?_
    | with_reducible refine (State.kept_foldl _ _ _ (fun _ _ => ?_)).trans ?_
    | with_reducible refine (State.kept_foldl_fst _ _ _ (fun _ _ => ?_)).trans ?_
    | simp only [↓State.kept_ite, State.kept_mk, State.kept_eta, ite_self, ↓State.kept_foldl, ↓State.each_kept, ↓State.emit_kept, ↓State.setPort_kept]
    | split

theorem State.courierFetch_kept (s : State) (c : Nat) (addr : Nat) : (State.courierFetch s c addr).kept = s.kept := by
  unfold State.courierFetch
  simp only [↓State.kept_ite, State.kept_mk, State.kept_eta, ite_self, ↓State.kept_foldl, ↓State.each_kept, ↓State.courierSend_kept, ↓State.courierStop_kept, ↓State.setCourier_kept, ↓State.setCstate_kept]

theorem State.courierTag_kept (s : State) (node : Nat) : (State.courierTag s node).kept = s.kept := by
  unfold State.courierTag
  simp only [↓State.kept_ite, State.kept_mk, State.kept_eta, ite_self, ↓State.kept_foldl, ↓State.each_kept, ↓State.courierResume_kept]

theorem State.courierSettle_kept (s : State) (c : Nat) : (State.courierSettle s c).kept = s.kept := by
  unfold State.courierSettle
  repeat' first
    | with_reducible rfl
    | with_reducible refine (State.each_kept _ _ _ (fun _ _ => ?_)).trans ?_
    | with_reducible refine (State.kept_foldl _ _ _ (fun _ _ => ?_)).trans ?_
    | with_reducible refine (State.kept_foldl_fst _ _ _ (fun _ _ => ?_)).trans ?_
    | simp only [↓State.kept_ite, State.kept_mk, State.kept_eta, ite_self, ↓State.kept_foldl, ↓State.each_kept, ↓State.courierFetch_kept, ↓State.incr_kept, ↓State.setCourier_kept, ↓State.setCstate_kept, ↓State.wr_kept, ↓State.wr64_kept]
    | split

theorem State.courierStart_kept (s : State) (c : Nat) (addr : Nat) : (State.courierStart s c addr).kept = s.kept := by
  unfold State.courierStart
  simp only [↓State.kept_ite, State.kept_mk, State.kept_eta, ite_self, ↓State.kept_foldl, ↓State.each_kept, ↓State.courierFetch_kept, ↓State.courierSettle_kept, ↓State.wr64_kept]

theorem State.courierGo_kept (s : State) (c : Nat) : (State.courierGo s c).kept = s.kept := by
  unfold State.courierGo
  simp only [↓State.kept_ite, State.kept_mk, State.kept_eta, ite_self, ↓State.kept_foldl, ↓State.each_kept, ↓State.courierStart_kept, ↓State.set1_kept]

theorem State.courierAbort_kept (s : State) (c : Nat) : (State.courierAbort s c).kept = s.kept := by
  unfold State.courierAbort
  simp only [↓State.kept_ite, State.kept_mk, State.kept_eta, ite_self, ↓State.kept_foldl, ↓State.each_kept, ↓State.courierSettle_kept, ↓State.courierStop_kept, ↓State.drawn_kept]

theorem wrCourierCtl_kept (s : State) (c : Nat) (v : BitVec 32) : (wrCourierCtl s c v).kept = s.kept := by
  unfold wrCourierCtl
  simp only [↓State.kept_ite, State.kept_mk, State.kept_eta, ite_self, ↓State.kept_foldl, ↓State.each_kept, ↓State.courierAbort_kept, ↓State.courierGo_kept, ↓State.w1cOnly_kept]

theorem State.courierDesc_kept (s : State) (c : Nat) (addr : Nat) (a : Answer) : (State.courierDesc s c addr a).kept = s.kept := by
  unfold State.courierDesc
  simp only [↓State.kept_ite, State.kept_mk, State.kept_eta, ite_self, ↓State.kept_foldl, ↓State.each_kept, ↓State.courierIssue_kept, ↓State.courierStop_kept, ↓State.setCourier_kept, ↓State.setCstate_kept]

theorem State.courierData_kept (s : State) (c : Nat) (src : Nat) (dst : Nat) (a : Answer) : (State.courierData s c src dst a).kept = s.kept := by
  unfold State.courierData
  simp only [↓State.kept_ite, State.kept_mk, State.kept_eta, ite_self, ↓State.kept_foldl, ↓State.each_kept, ↓State.courierIssue_kept, ↓State.courierSend_kept, ↓State.drawn_kept, ↓State.set1_kept, ↓State.setCourier_kept]

theorem State.courierAnswer_kept (s : State) (c : Nat) (tag : Nat) (a : Answer) : (State.courierAnswer s c tag a).kept = s.kept := by
  unfold State.courierAnswer
  repeat' first
    | with_reducible rfl
    | with_reducible refine (State.each_kept _ _ _ (fun _ _ => ?_)).trans ?_
    | with_reducible refine (State.kept_foldl _ _ _ (fun _ _ => ?_)).trans ?_
    | with_reducible refine (State.kept_foldl_fst _ _ _ (fun _ _ => ?_)).trans ?_
    | simp only [↓State.kept_ite, State.kept_mk, State.kept_eta, ite_self, ↓State.kept_foldl, ↓State.each_kept, ↓State.courierData_kept, ↓State.courierDesc_kept, ↓State.courierIssue_kept, ↓State.courierSettle_kept, ↓State.courierStop_kept, ↓State.setCourier_kept, ↓State.wr64_kept]
    | split

theorem State.lateDrop_kept (s : State) (station : Nat) : (State.lateDrop s station).kept = s.kept := by
  unfold State.lateDrop
  simp only [↓State.kept_ite, State.kept_mk, State.kept_eta, ite_self, ↓State.kept_foldl, ↓State.each_kept, ↓State.bump_kept]

theorem State.courierTake_kept (s : State) (c : Nat) (tag : Nat) (a : Answer) : (State.courierTake s c tag a).kept = s.kept := by
  unfold State.courierTake
  repeat' first
    | with_reducible rfl
    | with_reducible refine (State.each_kept _ _ _ (fun _ _ => ?_)).trans ?_
    | with_reducible refine (State.kept_foldl _ _ _ (fun _ _ => ?_)).trans ?_
    | with_reducible refine (State.kept_foldl_fst _ _ _ (fun _ _ => ?_)).trans ?_
    | exact State.takeAnswer_kept _ _ _ _ _ ‹_›
    | exact (State.takeAnswer_kept _ _ _ _ _ ‹_›).trans (by simp only [↓State.kept_ite, State.kept_mk, State.kept_eta, ite_self, ↓State.kept_foldl, ↓State.each_kept, ↓State.courierAnswer_kept, ↓State.lateDrop_kept])
    | simp only [↓State.kept_ite, State.kept_mk, State.kept_eta, ite_self, ↓State.kept_foldl, ↓State.each_kept, ↓State.courierAnswer_kept, ↓State.lateDrop_kept]
    | split

theorem State.readClears_kept (s : State) (r : Reg) : (State.readClears s r).kept = s.kept := by
  unfold State.readClears
  repeat' first
    | with_reducible rfl
    | with_reducible refine (State.each_kept _ _ _ (fun _ _ => ?_)).trans ?_
    | with_reducible refine (State.kept_foldl _ _ _ (fun _ _ => ?_)).trans ?_
    | with_reducible refine (State.kept_foldl_fst _ _ _ (fun _ _ => ?_)).trans ?_
    | simp only [↓State.kept_ite, State.kept_mk, State.kept_eta, ite_self, ↓State.kept_foldl, ↓State.each_kept, ↓State.clr_kept]
    | split

theorem State.readEffect_kept (s : State) (r : Reg) : (State.readEffect s r).kept = s.kept := by
  unfold State.readEffect
  (repeat' split) <;> first | with_reducible rfl | (simp only [↓State.kept_ite, State.kept_mk, State.kept_eta, ite_self, ↓State.kept_foldl, ↓State.each_kept, ↓State.drawn_kept, ↓State.readClears_kept, ↓State.setEngine_kept, ↓State.setSnoop_kept]; done)

theorem State.pairRead_kept (s : State) (ini : Ini) (off : Nat) (r : Reg) : (State.pairRead s ini off r).1.kept = s.kept := by
  unfold State.pairRead
  (repeat' split) <;> first | with_reducible rfl | (simp only [↓State.kept_ite, State.kept_mk, State.kept_eta, ite_self, ↓State.kept_foldl, ↓State.each_kept]; done)

theorem State.barredShown_kept (s : State) (ini : Ini) (off : Nat) (r : Reg) : (State.barredShown s ini off r).kept = s.kept := by
  unfold State.barredShown
  (repeat' split) <;> first | with_reducible rfl | (simp only [↓State.kept_ite, State.kept_mk, State.kept_eta, ite_self, ↓State.kept_foldl, ↓State.each_kept, ↓State.set1_kept]; done)

theorem wrPlaneCmd_kept (s : State) (v : BitVec 32) : (wrPlaneCmd s v).kept = s.kept := by
  unfold wrPlaneCmd
  simp only [↓State.kept_ite, State.kept_mk, State.kept_eta, ite_self, ↓State.kept_foldl, ↓State.each_kept, ↓State.erase_kept, ↓State.storeReg_kept]

theorem wrAlarmCfg_kept (s : State) (ini : Ini) (a : Nat) (v : BitVec 32) : (wrAlarmCfg s ini a v).kept = s.kept := by
  unfold wrAlarmCfg
  simp only [↓State.kept_ite, State.kept_mk, State.kept_eta, ite_self, ↓State.kept_foldl, ↓State.each_kept, ↓State.set1_kept, ↓State.w1cOnly_kept, ↓State.wr_kept]

theorem wrBarCfg_kept (s : State) (b : Nat) (v : BitVec 32) : (wrBarCfg s b v).kept = s.kept := by
  unfold wrBarCfg
  simp only [↓State.kept_ite, State.kept_mk, State.kept_eta, ite_self, ↓State.kept_foldl, ↓State.each_kept, ↓State.set1_kept, ↓State.w1cOnly_kept, ↓State.wr_kept]

theorem wrClkNetCfg_kept (s : State) (g : Nat) (v : BitVec 32) : (wrClkNetCfg s g v).kept = s.kept := by
  unfold wrClkNetCfg
  simp only [↓State.kept_ite, State.kept_mk, State.kept_eta, ite_self, ↓State.kept_foldl, ↓State.each_kept, ↓State.clr_kept, ↓State.set1_kept, ↓State.w1cOnly_kept, ↓State.wr_kept]

theorem wrFlipCtl_kept (s : State) (d : Nat) (v : BitVec 32) : (wrFlipCtl s d v).kept = s.kept := by
  unfold wrFlipCtl
  simp only [↓State.kept_ite, State.kept_mk, State.kept_eta, ite_self, ↓State.kept_foldl, ↓State.each_kept, ↓State.clr_kept, ↓State.storeReg_kept]

theorem wrGbStat_kept (s : State) (v : BitVec 32) : (wrGbStat s v).kept = s.kept := by
  unfold wrGbStat
  simp only [↓State.kept_ite, State.kept_mk, State.kept_eta, ite_self, ↓State.kept_foldl, ↓State.each_kept, ↓State.storeReg_kept]

theorem wrGbarCfg_kept (s : State) (b : Nat) (v : BitVec 32) : (wrGbarCfg s b v).kept = s.kept := by
  unfold wrGbarCfg
  simp only [↓State.kept_ite, State.kept_mk, State.kept_eta, ite_self, ↓State.kept_foldl, ↓State.each_kept, ↓State.set1_kept, ↓State.storeReg_kept, ↓State.w1cOnly_kept]

theorem State.judgeVccio_kept (s : State) (b : Nat) : (State.judgeVccio s b).kept = s.kept := by
  unfold State.judgeVccio
  simp only [↓State.kept_ite, State.kept_mk, State.kept_eta, ite_self, ↓State.kept_foldl, ↓State.each_kept, ↓State.clr_kept, ↓State.set1_kept, ↓State.setPad_kept, ↓State.wrb_kept]

theorem wrGpioBankCfg_kept (s : State) (b : Nat) (v : BitVec 32) : (wrGpioBankCfg s b v).kept = s.kept := by
  unfold wrGpioBankCfg
  simp only [↓State.kept_ite, State.kept_mk, State.kept_eta, ite_self, ↓State.kept_foldl, ↓State.each_kept, ↓State.judgeVccio_kept, ↓State.storeReg_kept]

theorem State.askReset_kept (s : State) (cause : Nat) : (State.askReset s cause).kept = s.kept := by
  unfold State.askReset
  simp only [↓State.kept_ite, State.kept_mk, State.kept_eta, ite_self, ↓State.kept_foldl, ↓State.each_kept]

theorem State.pushBuf_kept (s : State) (n : Nat) (input : Nat) (vn : Nat) (f : Flight) : (State.pushBuf s n input vn f).kept = s.kept := by
  unfold State.pushBuf
  simp only [↓State.kept_ite, State.kept_mk, State.kept_eta, ite_self, ↓State.kept_foldl, ↓State.each_kept, ↓State.setBuf_kept]

theorem State.resetOut_kept (s : State) (g : Nat) (id : Nat) : (State.resetOut s g id).kept = s.kept := by
  unfold State.resetOut
  simp only [↓State.kept_ite, State.kept_mk, State.kept_eta, ite_self, ↓State.kept_foldl, ↓State.each_kept, ↓State.pushBuf_kept]

theorem State.resetsOut_kept (s : State) : (State.resetsOut s).kept = s.kept := by
  unfold State.resetsOut
  repeat' first
    | with_reducible rfl
    | with_reducible refine (State.each_kept _ _ _ (fun _ _ => ?_)).trans ?_
    | with_reducible refine (State.kept_foldl _ _ _ (fun _ _ => ?_)).trans ?_
    | with_reducible refine (State.kept_foldl_fst _ _ _ (fun _ _ => ?_)).trans ?_
    | simp only [↓State.kept_ite, State.kept_mk, State.kept_eta, ite_self, ↓State.kept_foldl, ↓State.each_kept, ↓State.resetOut_kept]
    | split

theorem State.forwardReset_kept (s : State) (id : Nat) (from' : Option Nat) : (State.forwardReset s id from').kept = s.kept := by
  unfold State.forwardReset
  simp only [↓State.kept_ite, State.kept_mk, State.kept_eta, ite_self, ↓State.kept_foldl, ↓State.each_kept, ↓State.resetsOut_kept, ↓State.setTwin_kept]

theorem State.gresetGo_kept (s : State) : (State.gresetGo s).kept = s.kept := by
  unfold State.gresetGo
  simp only [↓State.kept_ite, State.kept_mk, State.kept_eta, ite_self, ↓State.kept_foldl, ↓State.each_kept, ↓State.askReset_kept, ↓State.drawn_kept, ↓State.forwardReset_kept, ↓State.setTwin_kept]

theorem wrGresetCtl_kept (s : State) (v : BitVec 32) : (wrGresetCtl s v).kept = s.kept := by
  unfold wrGresetCtl
  simp only [↓State.kept_ite, State.kept_mk, State.kept_eta, ite_self, ↓State.kept_foldl, ↓State.each_kept, ↓State.gresetGo_kept, ↓State.storeReg_kept]

theorem State.setSec_kept (s : State) (x : Sec) : (State.setSec s x).kept = s.kept := by
  unfold State.setSec
  simp only [↓State.kept_ite, State.kept_mk, State.kept_eta, ite_self, ↓State.kept_foldl, ↓State.each_kept]

theorem wrKeyCmd_kept (s : State) (v : BitVec 32) : (wrKeyCmd s v).kept = s.kept := by
  unfold wrKeyCmd
  repeat' first
    | with_reducible rfl
    | with_reducible refine (State.each_kept _ _ _ (fun _ _ => ?_)).trans ?_
    | with_reducible refine (State.kept_foldl _ _ _ (fun _ _ => ?_)).trans ?_
    | with_reducible refine (State.kept_foldl_fst _ _ _ (fun _ _ => ?_)).trans ?_
    | simp only [↓State.kept_ite, State.kept_mk, State.kept_eta, ite_self, ↓State.kept_foldl, ↓State.each_kept, ↓State.clr_kept, ↓State.set1_kept, ↓State.setSec_kept, ↓State.storeReg_kept]
    | split

theorem State.beginOp_kept (s : State) (op : LarderOp) : (State.beginOp s op).kept = s.kept := by
  unfold State.beginOp
  simp only [↓State.kept_ite, State.kept_mk, State.kept_eta, ite_self, ↓State.kept_foldl, ↓State.each_kept, ↓State.set1_kept]

theorem State.awaitWbs_kept (s : State) (scope : Nat) (key : Nat) (slice : Nat) : (State.awaitWbs s scope key slice).kept = s.kept := by
  unfold State.awaitWbs
  simp only [↓State.kept_ite, State.kept_mk, State.kept_eta, ite_self, ↓State.kept_foldl, ↓State.each_kept]

theorem State.larderErr_kept (s : State) : (State.larderErr s).kept = s.kept := by
  unfold State.larderErr
  simp only [↓State.kept_ite, State.kept_mk, State.kept_eta, ite_self, ↓State.kept_foldl, ↓State.each_kept, ↓State.set1_kept]

theorem wrLbistCtl_kept (s : State) (v : BitVec 32) : (wrLbistCtl s v).kept = s.kept := by
  unfold wrLbistCtl
  simp only [↓State.kept_ite, State.kept_mk, State.kept_eta, ite_self, ↓State.kept_foldl, ↓State.each_kept, ↓State.set1_kept, ↓State.storeReg_kept]

theorem wrLcCtl_kept (s : State) (ini : Ini) (v : BitVec 32) : (wrLcCtl s ini v).kept = s.kept := by
  unfold wrLcCtl
  simp only [↓State.kept_ite, State.kept_mk, State.kept_eta, ite_self, ↓State.kept_foldl, ↓State.each_kept, ↓State.set1_kept, ↓State.setSec_kept, ↓State.w1cOnly_kept]

theorem State.retrain_kept (s : State) (g : Nat) : (State.retrain s g).kept = s.kept := by
  unfold State.retrain
  (repeat' split) <;> first | with_reducible rfl | (simp only [↓State.kept_ite, State.kept_mk, State.kept_eta, ite_self, ↓State.kept_foldl, ↓State.each_kept, ↓State.toDetect_kept]; done)

theorem wrLinkCtl_kept (s : State) (g : Nat) (v : BitVec 32) : (wrLinkCtl s g v).kept = s.kept := by
  unfold wrLinkCtl
  simp only [↓State.kept_ite, State.kept_mk, State.kept_eta, ite_self, ↓State.kept_foldl, ↓State.each_kept, ↓State.linkSettle_kept, ↓State.requestOn_kept, ↓State.retrain_kept, ↓State.set1_kept, ↓State.storeReg_kept, ↓State.w1cOnly_kept]

theorem State.mkeyBegin_kept (s : State) (k : Nat) (cmd : Nat) : (State.mkeyBegin s k cmd).kept = s.kept := by
  unfold State.mkeyBegin
  simp only [↓State.kept_ite, State.kept_mk, State.kept_eta, ite_self, ↓State.kept_foldl, ↓State.each_kept, ↓State.set1_kept]

theorem State.mkeyErr_kept (s : State) : (State.mkeyErr s).kept = s.kept := by
  unfold State.mkeyErr
  simp only [↓State.kept_ite, State.kept_mk, State.kept_eta, ite_self, ↓State.kept_foldl, ↓State.each_kept, ↓State.set1_kept]

theorem State.setChState_kept (s : State) (c : Nat) (x : ChState) : (State.setChState s c x).kept = s.kept := by
  unfold State.setChState
  simp only [↓State.kept_ite, State.kept_mk, State.kept_eta, ite_self, ↓State.kept_foldl, ↓State.each_kept, ↓State.wr_kept]

theorem State.sweepBegin_kept (s : State) (k : Nat) : (State.sweepBegin s k).kept = s.kept := by
  unfold State.sweepBegin
  repeat' first
    | with_reducible rfl
    | with_reducible refine (State.each_kept _ _ _ (fun _ _ => ?_)).trans ?_
    | with_reducible refine (State.kept_foldl _ _ _ (fun _ _ => ?_)).trans ?_
    | with_reducible refine (State.kept_foldl_fst _ _ _ (fun _ _ => ?_)).trans ?_
    | simp only [↓State.kept_ite, State.kept_mk, State.kept_eta, ite_self, ↓State.kept_foldl, ↓State.each_kept, ↓State.mkeyBegin_kept, ↓State.setChState_kept, ↓State.setKeyBits_kept]
    | split

theorem wrMkeyWinBase_kept (s : State) (w : Nat) (v : BitVec 32) : (wrMkeyWinBase s w v).kept = s.kept := by
  unfold wrMkeyWinBase
  simp only [↓State.kept_ite, State.kept_mk, State.kept_eta, ite_self, ↓State.kept_foldl, ↓State.each_kept, ↓State.set1_kept, ↓State.storeReg_kept, ↓State.w1cOnly_kept]

theorem wrMkeyWinLim_kept (s : State) (w : Nat) (v : BitVec 32) : (wrMkeyWinLim s w v).kept = s.kept := by
  unfold wrMkeyWinLim
  simp only [↓State.kept_ite, State.kept_mk, State.kept_eta, ite_self, ↓State.kept_foldl, ↓State.each_kept, ↓State.set1_kept, ↓State.storeReg_kept]

theorem wrNetEpoch_kept (s : State) (v : BitVec 32) : (wrNetEpoch s v).kept = s.kept := by
  unfold wrNetEpoch
  repeat' first
    | with_reducible rfl
    | with_reducible refine (State.each_kept _ _ _ (fun _ _ => ?_)).trans ?_
    | with_reducible refine (State.kept_foldl _ _ _ (fun _ _ => ?_)).trans ?_
    | with_reducible refine (State.kept_foldl_fst _ _ _ (fun _ _ => ?_)).trans ?_
    | simp only [↓State.kept_ite, State.kept_mk, State.kept_eta, ite_self, ↓State.kept_foldl, ↓State.each_kept, ↓State.emit_kept, ↓State.set1_kept, ↓State.w1cOnly_kept]
    | split

theorem State.newPass_kept (s : State) : (State.newPass s).kept = s.kept := by
  unfold State.newPass
  simp only [↓State.kept_ite, State.kept_mk, State.kept_eta, ite_self, ↓State.kept_foldl, ↓State.each_kept, ↓State.clr_kept]

theorem wrPatrolCtl_kept (s : State) (v : BitVec 32) : (wrPatrolCtl s v).kept = s.kept := by
  unfold wrPatrolCtl
  simp only [↓State.kept_ite, State.kept_mk, State.kept_eta, ite_self, ↓State.kept_foldl, ↓State.each_kept, ↓State.newPass_kept, ↓State.storeReg_kept]

theorem wrPortCfg_kept (s : State) (n : Nat) (p : Nat) (v : BitVec 32) : (wrPortCfg s n p v).kept = s.kept := by
  unfold wrPortCfg
  repeat' first
    | with_reducible rfl
    | with_reducible refine (State.each_kept _ _ _ (fun _ _ => ?_)).trans ?_
    | with_reducible refine (State.kept_foldl _ _ _ (fun _ _ => ?_)).trans ?_
    | with_reducible refine (State.kept_foldl_fst _ _ _ (fun _ _ => ?_)).trans ?_
    | simp only [↓State.kept_ite, State.kept_mk, State.kept_eta, ite_self, ↓State.kept_foldl, ↓State.each_kept, ↓State.reply_kept, ↓State.set1_kept, ↓State.setPort_kept, ↓State.storeReg_kept, ↓State.w1cOnly_kept]
    | split

theorem wrPortSlots_kept (s : State) (n : Nat) (p : Nat) (v : BitVec 32) : (wrPortSlots s n p v).kept = s.kept := by
  unfold wrPortSlots
  simp only [↓State.kept_ite, State.kept_mk, State.kept_eta, ite_self, ↓State.kept_foldl, ↓State.each_kept, ↓State.set1_kept, ↓State.storeReg_kept]

theorem State.setPorter_kept (s : State) (d : Nat) (x : Porter) : (State.setPorter s d x).kept = s.kept := by
  unfold State.setPorter
  simp only [↓State.kept_ite, State.kept_mk, State.kept_eta, ite_self, ↓State.kept_foldl, ↓State.each_kept]

theorem wrPorterCtl_kept (s : State) (d : Nat) (v : BitVec 32) : (wrPorterCtl s d v).kept = s.kept := by
  unfold wrPorterCtl
  simp only [↓State.kept_ite, State.kept_mk, State.kept_eta, ite_self, ↓State.kept_foldl, ↓State.each_kept, ↓State.clr_kept, ↓State.setPorter_kept, ↓State.storeReg_kept]

theorem wrPwrDom_kept (s : State) (d : Nat) (v : BitVec 32) : (wrPwrDom s d v).kept = s.kept := by
  unfold wrPwrDom
  simp only [↓State.kept_ite, State.kept_mk, State.kept_eta, ite_self, ↓State.kept_foldl, ↓State.each_kept, ↓State.requestOff_kept, ↓State.requestOn_kept, ↓State.w1cOnly_kept, ↓State.wr_kept]

theorem wrRawCfg_kept (s : State) (g : Nat) (v : BitVec 32) : (wrRawCfg s g v).kept = s.kept := by
  unfold wrRawCfg
  simp only [↓State.kept_ite, State.kept_mk, State.kept_eta, ite_self, ↓State.kept_foldl, ↓State.each_kept, ↓State.set1_kept, ↓State.storeReg_kept]

theorem wrRegionClk_kept (s : State) (n : Nat) (v : BitVec 32) : (wrRegionClk s n v).kept = s.kept := by
  unfold wrRegionClk
  simp only [↓State.kept_ite, State.kept_mk, State.kept_eta, ite_self, ↓State.kept_foldl, ↓State.each_kept, ↓State.set1_kept, ↓State.w1cOnly_kept, ↓State.wr_kept]

theorem wrRegionOvr_kept (s : State) (n : Nat) (v : BitVec 32) : (wrRegionOvr s n v).kept = s.kept := by
  unfold wrRegionOvr
  simp only [↓State.kept_ite, State.kept_mk, State.kept_eta, ite_self, ↓State.kept_foldl, ↓State.each_kept, ↓State.clrHold_kept, ↓State.storeReg_kept]

theorem wrRepairCtl_kept (s : State) (ini : Ini) (v : BitVec 32) : (wrRepairCtl s ini v).kept = s.kept := by
  unfold wrRepairCtl
  simp only [↓State.kept_ite, State.kept_mk, State.kept_eta, ite_self, ↓State.kept_foldl, ↓State.each_kept, ↓State.set1_kept, ↓State.w1cOnly_kept]

theorem wrRouteTable_kept (s : State) (n : Nat) (b : Nat) (i : Nat) (v : BitVec 32) : (wrRouteTable s n b i v).kept = s.kept := by
  unfold wrRouteTable
  simp only [↓State.kept_ite, State.kept_mk, State.kept_eta, ite_self, ↓State.kept_foldl, ↓State.each_kept, ↓State.set1_kept, ↓State.storeReg_kept]

theorem State.dieRegion_kept (s : State) (n : Nat) : (State.dieRegion s n).kept = s.kept := by
  unfold State.dieRegion
  repeat' first
    | with_reducible rfl
    | with_reducible refine (State.each_kept _ _ _ (fun _ _ => ?_)).trans ?_
    | with_reducible refine (State.kept_foldl _ _ _ (fun _ _ => ?_)).trans ?_
    | with_reducible refine (State.kept_foldl_fst _ _ _ (fun _ _ => ?_)).trans ?_
    | simp only [↓State.kept_ite, State.kept_mk, State.kept_eta, ite_self, ↓State.kept_foldl, ↓State.each_kept, ↓State.clr_kept, ↓State.setDom_kept, ↓State.setDstate_kept, ↓State.setRegion_kept]
    | split

theorem wrRstDie_kept (s : State) (v : BitVec 32) : (wrRstDie s v).kept = s.kept := by
  unfold wrRstDie
  repeat' first
    | with_reducible rfl
    | with_reducible refine (State.each_kept _ _ _ (fun _ _ => ?_)).trans ?_
    | with_reducible refine (State.kept_foldl _ _ _ (fun _ _ => ?_)).trans ?_
    | with_reducible refine (State.kept_foldl_fst _ _ _ (fun _ _ => ?_)).trans ?_
    | simp only [↓State.kept_ite, State.kept_mk, State.kept_eta, ite_self, ↓State.kept_foldl, ↓State.each_kept, ↓State.dieRegion_kept]
    | split

theorem wrSdCfg_kept (s : State) (v : BitVec 32) : (wrSdCfg s v).kept = s.kept := by
  unfold wrSdCfg
  simp only [↓State.kept_ite, State.kept_mk, State.kept_eta, ite_self, ↓State.kept_foldl, ↓State.each_kept, ↓State.set1_kept, ↓State.storeReg_kept, ↓State.w1cOnly_kept]

theorem State.chErr_kept (s : State) (c : Nat) : (State.chErr s c).kept = s.kept := by
  unfold State.chErr
  simp only [↓State.kept_ite, State.kept_mk, State.kept_eta, ite_self, ↓State.kept_foldl, ↓State.each_kept, ↓State.set1_kept]

theorem State.dropSweep_kept (s : State) (c : Nat) : (State.dropSweep s c).kept = s.kept := by
  unfold State.dropSweep
  simp only [↓State.kept_ite, State.kept_mk, State.kept_eta, ite_self, ↓State.kept_foldl, ↓State.each_kept]

theorem State.chCommand_kept (s : State) (c : Nat) (cmd : Nat) : (State.chCommand s c cmd).kept = s.kept := by
  unfold State.chCommand
  (repeat' split) <;> first | with_reducible rfl | (simp only [↓State.kept_ite, State.kept_mk, State.kept_eta, ite_self, ↓State.kept_foldl, ↓State.each_kept, ↓State.chErr_kept, ↓State.dropSweep_kept, ↓State.setChState_kept, ↓State.wr_kept]; done)

theorem wrSdChCtl_kept (s : State) (c : Nat) (v : BitVec 32) : (wrSdChCtl s c v).kept = s.kept := by
  unfold wrSdChCtl
  simp only [↓State.kept_ite, State.kept_mk, State.kept_eta, ite_self, ↓State.kept_foldl, ↓State.each_kept, ↓State.chCommand_kept, ↓State.storeReg_kept]

theorem wrSensFail_kept (s : State) (l : Nat) (v : BitVec 32) : (wrSensFail s l v).kept = s.kept := by
  unfold wrSensFail
  repeat' first
    | with_reducible rfl
    | with_reducible refine (State.each_kept _ _ _ (fun _ _ => ?_)).trans ?_
    | with_reducible refine (State.kept_foldl _ _ _ (fun _ _ => ?_)).trans ?_
    | with_reducible refine (State.kept_foldl_fst _ _ _ (fun _ _ => ?_)).trans ?_
    | simp only [↓State.kept_ite, State.kept_mk, State.kept_eta, ite_self, ↓State.kept_foldl, ↓State.each_kept, ↓State.clr_kept, ↓State.w1c_kept]
    | split

theorem wrSnapCtl_kept (s : State) (v : BitVec 32) : (wrSnapCtl s v).kept = s.kept := by
  unfold wrSnapCtl
  simp only [↓State.kept_ite, State.kept_mk, State.kept_eta, ite_self, ↓State.kept_foldl, ↓State.each_kept, ↓State.set1_kept, ↓State.storeReg_kept]

theorem wrSnoopCfg_kept (s : State) (u : Nat) (r : Reg) (v : BitVec 32) : (wrSnoopCfg s u r v).kept = s.kept := by
  unfold wrSnoopCfg
  simp only [↓State.kept_ite, State.kept_mk, State.kept_eta, ite_self, ↓State.kept_foldl, ↓State.each_kept, ↓State.set1_kept, ↓State.storeReg_kept]

theorem State.snoopEnable_kept (s : State) (u : Nat) (en : Bool) : (State.snoopEnable s u en).kept = s.kept := by
  unfold State.snoopEnable
  simp only [↓State.kept_ite, State.kept_mk, State.kept_eta, ite_self, ↓State.kept_foldl, ↓State.each_kept, ↓State.clr_kept, ↓State.setSnoop_kept, ↓State.snoopOpen_kept, ↓State.wrb_kept]

theorem wrSnoopCtl_kept (s : State) (u : Nat) (v : BitVec 32) : (wrSnoopCtl s u v).kept = s.kept := by
  unfold wrSnoopCtl
  simp only [↓State.kept_ite, State.kept_mk, State.kept_eta, ite_self, ↓State.kept_foldl, ↓State.each_kept, ↓State.set1_kept, ↓State.snoopEnable_kept, ↓State.storeReg_kept, ↓State.w1cOnly_kept, ↓State.wrb_kept]

theorem wrStackTest_kept (s : State) (v : BitVec 32) : (wrStackTest s v).kept = s.kept := by
  unfold wrStackTest
  simp only [↓State.kept_ite, State.kept_mk, State.kept_eta, ite_self, ↓State.kept_foldl, ↓State.each_kept, ↓State.jnlAsk_kept, ↓State.set1_kept, ↓State.w1cOnly_kept, ↓State.wr_kept]

theorem State.testBegins_kept (s : State) (e : Nat) (kind : Nat) (unit : Nat) (start : Bool) : (State.testBegins s e kind unit start).kept = s.kept := by
  unfold State.testBegins
  simp only [↓State.kept_ite, State.kept_mk, State.kept_eta, ite_self, ↓State.kept_foldl, ↓State.each_kept, ↓State.clr_kept, ↓State.engineTakes_kept, ↓State.set1_kept, ↓State.setEngine_kept]

theorem State.threadClrFault_kept (s : State) (t : Nat) : (State.threadClrFault s t).kept = s.kept := by
  unfold State.threadClrFault
  simp only [↓State.kept_ite, State.kept_mk, State.kept_eta, ite_self, ↓State.kept_foldl, ↓State.each_kept, ↓State.set1_kept, ↓State.threadOff_kept]

theorem State.threadRestartCmd_kept (s : State) (t : Nat) : (State.threadRestartCmd s t).kept = s.kept := by
  unfold State.threadRestartCmd
  (repeat' split) <;> first | with_reducible rfl | (simp only [↓State.kept_ite, State.kept_mk, State.kept_eta, ite_self, ↓State.kept_foldl, ↓State.each_kept, ↓State.request136_kept, ↓State.set1_kept]; done)

theorem State.threadStart_kept (s : State) (t : Nat) : (State.threadStart s t).kept = s.kept := by
  unfold State.threadStart
  simp only [↓State.kept_ite, State.kept_mk, State.kept_eta, ite_self, ↓State.kept_foldl, ↓State.each_kept, ↓State.clr_kept, ↓State.set1_kept, ↓State.setTpc_kept, ↓State.setTstate_kept, ↓State.wdtLoad_kept]

theorem State.threadStopCmd_kept (s : State) (t : Nat) : (State.threadStopCmd s t).kept = s.kept := by
  unfold State.threadStopCmd
  (repeat' split) <;> first | with_reducible rfl | (simp only [↓State.kept_ite, State.kept_mk, State.kept_eta, ite_self, ↓State.kept_foldl, ↓State.each_kept, ↓State.request136_kept, ↓State.set1_kept]; done)

theorem wrThrCtl_kept (s : State) (t : Nat) (v : BitVec 32) : (wrThrCtl s t v).kept = s.kept := by
  unfold wrThrCtl
  (repeat' split) <;> first | with_reducible rfl | (simp only [↓State.kept_ite, State.kept_mk, State.kept_eta, ite_self, ↓State.kept_foldl, ↓State.each_kept, ↓State.set1_kept, ↓State.threadClrFault_kept, ↓State.threadRestartCmd_kept, ↓State.threadStart_kept, ↓State.threadStopCmd_kept, ↓State.w1cOnly_kept]; done)

theorem State.tickApply_kept (s : State) : (State.tickApply s).kept = s.kept := by
  unfold State.tickApply
  simp only [↓State.kept_ite, State.kept_mk, State.kept_eta, ite_self, ↓State.kept_foldl, ↓State.each_kept, ↓State.set1_kept]

theorem State.writeTickEn_kept (s : State) (en : Bool) : (State.writeTickEn s en).kept = s.kept := by
  unfold State.writeTickEn
  simp only [↓State.kept_ite, State.kept_mk, State.kept_eta, ite_self, ↓State.kept_foldl, ↓State.each_kept, ↓State.generatorStops_kept, ↓State.wrb_kept]

theorem State.writeTickSrc_kept (s : State) (src : Nat) : (State.writeTickSrc s src).kept = s.kept := by
  unfold State.writeTickSrc
  simp only [↓State.kept_ite, State.kept_mk, State.kept_eta, ite_self, ↓State.kept_foldl, ↓State.each_kept, ↓State.set1_kept, ↓State.wr_kept]

theorem wrTickCtl_kept (s : State) (v : BitVec 32) : (wrTickCtl s v).kept = s.kept := by
  unfold wrTickCtl
  simp only [↓State.kept_ite, State.kept_mk, State.kept_eta, ite_self, ↓State.kept_foldl, ↓State.each_kept, ↓State.tickApply_kept, ↓State.w1cOnly_kept, ↓State.wr_kept, ↓State.writeTickEn_kept, ↓State.writeTickSrc_kept]

theorem wrTwinCfg_kept (s : State) (v : BitVec 32) : (wrTwinCfg s v).kept = s.kept := by
  unfold wrTwinCfg
  repeat' first
    | with_reducible rfl
    | with_reducible refine (State.each_kept _ _ _ (fun _ _ => ?_)).trans ?_
    | with_reducible refine (State.kept_foldl _ _ _ (fun _ _ => ?_)).trans ?_
    | with_reducible refine (State.kept_foldl_fst _ _ _ (fun _ _ => ?_)).trans ?_
    | simp only [↓State.kept_ite, State.kept_mk, State.kept_eta, ite_self, ↓State.kept_foldl, ↓State.each_kept, ↓State.clr_kept, ↓State.part_kept, ↓State.set1_kept, ↓State.setPstate_kept, ↓State.setTwin_kept, ↓State.storeReg_kept, ↓State.toJoining_kept]
    | split

theorem State.rejoinCmd_kept (s : State) : (State.rejoinCmd s).kept = s.kept := by
  unfold State.rejoinCmd
  (repeat' split) <;> first | with_reducible rfl | (simp only [↓State.kept_ite, State.kept_mk, State.kept_eta, ite_self, ↓State.kept_foldl, ↓State.each_kept, ↓State.set1_kept, ↓State.toJoining_kept]; done)

theorem State.resignCmd_kept (s : State) : (State.resignCmd s).kept = s.kept := by
  unfold State.resignCmd
  simp only [↓State.kept_ite, State.kept_mk, State.kept_eta, ite_self, ↓State.kept_foldl, ↓State.each_kept, ↓State.sendTwin_kept, ↓State.set1_kept, ↓State.setTwin_kept]

theorem wrTwinLanes_kept (s : State) (v : BitVec 32) : (wrTwinLanes s v).kept = s.kept := by
  unfold wrTwinLanes
  simp only [↓State.kept_ite, State.kept_mk, State.kept_eta, ite_self, ↓State.kept_foldl, ↓State.each_kept, ↓State.linksSettle_kept, ↓State.storeReg_kept]

theorem wrTwinOut_kept (s : State) (v : BitVec 32) : (wrTwinOut s v).kept = s.kept := by
  unfold wrTwinOut
  simp only [↓State.kept_ite, State.kept_mk, State.kept_eta, ite_self, ↓State.kept_foldl, ↓State.each_kept, ↓State.storeReg_kept, ↓State.twinPads_kept]

theorem wrWdt_kept (s : State) (t : Nat) (v : BitVec 32) : (wrWdt s t v).kept = s.kept := by
  unfold wrWdt
  simp only [↓State.kept_ite, State.kept_mk, State.kept_eta, ite_self, ↓State.kept_foldl, ↓State.each_kept, ↓State.storeReg_kept, ↓State.wdtLoad_kept]

theorem wrWsIsol_kept (s : State) (n : Nat) (v : BitVec 32) : (wrWsIsol s n v).kept = s.kept := by
  unfold wrWsIsol
  repeat' first
    | with_reducible rfl
    | with_reducible refine (State.each_kept _ _ _ (fun _ _ => ?_)).trans ?_
    | with_reducible refine (State.kept_foldl _ _ _ (fun _ _ => ?_)).trans ?_
    | with_reducible refine (State.kept_foldl_fst _ _ _ (fun _ _ => ?_)).trans ?_
    | simp only [↓State.kept_ite, State.kept_mk, State.kept_eta, ite_self, ↓State.kept_foldl, ↓State.each_kept, ↓State.w1c_kept]
    | split

theorem State.dropLo_kept (s : State) (off : Nat) (ini : Ini) : (State.dropLo s off ini).kept = s.kept := by
  unfold State.dropLo
  simp only [↓State.kept_ite, State.kept_mk, State.kept_eta, ite_self, ↓State.kept_foldl, ↓State.each_kept]

theorem State.keepFetched_kept (s : State) (t : Nat) (w : Nat) : (State.keepFetched s t w).kept = s.kept := by
  unfold State.keepFetched
  simp only [↓State.kept_ite, State.kept_mk, State.kept_eta, ite_self, ↓State.kept_foldl, ↓State.each_kept, ↓State.setThread_kept]

theorem State.imemWrite_kept (s : State) (w : Nat) (v : Nat) : (State.imemWrite s w v).kept = s.kept := by
  unfold State.imemWrite
  repeat' first
    | with_reducible rfl
    | with_reducible refine (State.each_kept _ _ _ (fun _ _ => ?_)).trans ?_
    | with_reducible refine (State.kept_foldl _ _ _ (fun _ _ => ?_)).trans ?_
    | with_reducible refine (State.kept_foldl_fst _ _ _ (fun _ _ => ?_)).trans ?_
    | simp only [↓State.kept_ite, State.kept_mk, State.kept_eta, ite_self, ↓State.kept_foldl, ↓State.each_kept, ↓State.keepFetched_kept, ↓State.wr_kept]
    | split

theorem wrImemHi_kept (s : State) (ini : Ini) (w : Nat) (hi : BitVec 32) : (wrImemHi s ini w hi).kept = s.kept := by
  unfold wrImemHi
  simp only [↓State.kept_ite, State.kept_mk, State.kept_eta, ite_self, ↓State.kept_foldl, ↓State.each_kept, ↓State.dropLo_kept, ↓State.imemWrite_kept]

theorem State.commitPair_kept (s : State) (ini : Ini) (off : Nat) (lo : Reg) (hi : Reg) (v : BitVec 32) : (State.commitPair s ini off lo hi v).kept = s.kept := by
  unfold State.commitPair
  (repeat' split) <;> first | with_reducible rfl | (simp only [↓State.kept_ite, State.kept_mk, State.kept_eta, ite_self, ↓State.kept_foldl, ↓State.each_kept, ↓State.dropLo_kept, ↓State.storeReg_kept, ↓wrImemHi_kept]; done)

theorem State.holdLo_kept (s : State) (off : Nat) (ini : Ini) (v : Nat) : (State.holdLo s off ini v).kept = s.kept := by
  unfold State.holdLo
  simp only [↓State.kept_ite, State.kept_mk, State.kept_eta, ite_self, ↓State.kept_foldl, ↓State.each_kept]

theorem State.busRead_kept (s : State) (ini : Ini) (off : Nat) (size : Nat) : (State.busRead s ini off size).1.kept = s.kept := by
  unfold State.busRead
  (repeat' split) <;> first | with_reducible rfl | (simp only [↓State.kept_ite, State.kept_mk, State.kept_eta, ite_self, ↓State.kept_foldl, ↓State.each_kept, ↓State.pairRead_kept, ↓State.readEffect_kept]; done)

theorem State.readAnswer_kept (s : State) (ini : Ini) (off : Nat) : (State.readAnswer s ini off).kept = s.kept := by
  unfold State.readAnswer
  simp only [↓State.kept_ite, State.kept_mk, State.kept_eta, ite_self, ↓State.kept_foldl, ↓State.each_kept, ↓State.busRead_kept, ↓State.emit_kept]

theorem State.flopsEdge_kept (o : State) (ticks : List Nat) (n : Nat) (s : State) : (State.flopsEdge o ticks n s).kept = s.kept := by
  unfold State.flopsEdge
  repeat' first
    | with_reducible rfl
    | with_reducible refine (State.each_kept _ _ _ (fun _ _ => ?_)).trans ?_
    | with_reducible refine (State.kept_foldl _ _ _ (fun _ _ => ?_)).trans ?_
    | with_reducible refine (State.kept_foldl_fst _ _ _ (fun _ _ => ?_)).trans ?_
    | simp only [↓State.kept_ite, State.kept_mk, State.kept_eta, ite_self, ↓State.kept_foldl, ↓State.each_kept]
    | split

theorem State.slicesEdge_kept (o : State) (ticks : List Nat) (n : Nat) (s : State) : (State.slicesEdge o ticks n s).kept = s.kept := by
  unfold State.slicesEdge
  repeat' first
    | with_reducible rfl
    | with_reducible refine (State.each_kept _ _ _ (fun _ _ => ?_)).trans ?_
    | with_reducible refine (State.kept_foldl _ _ _ (fun _ _ => ?_)).trans ?_
    | with_reducible refine (State.kept_foldl_fst _ _ _ (fun _ _ => ?_)).trans ?_
    | simp only [↓State.kept_ite, State.kept_mk, State.kept_eta, ite_self, ↓State.kept_foldl, ↓State.each_kept]
    | split

theorem State.setRamPort_kept (s : State) (n : Nat) (k : Nat) (b : Bool) (p : RamPort) : (State.setRamPort s n k b p).kept = s.kept := by
  unfold State.setRamPort
  simp only [↓State.kept_ite, State.kept_mk, State.kept_eta, ite_self, ↓State.kept_foldl, ↓State.each_kept]

theorem State.countRamEcc_kept (s : State) (n : Nat) (k : Nat) (c : Bool) (u : Bool) : (State.countRamEcc s n k c u).kept = s.kept := by
  unfold State.countRamEcc
  simp only [↓State.kept_ite, State.kept_mk, State.kept_eta, ite_self, ↓State.kept_foldl, ↓State.each_kept, ↓State.bump_kept, ↓State.wr_kept]

theorem State.cellsEdge_kept (o : State) (nets : List (Nat × Nat)) (n : Nat) (s : State) : (State.cellsEdge o nets n s).kept = s.kept := by
  unfold State.cellsEdge
  repeat' first
    | with_reducible rfl
    | with_reducible refine (State.each_kept _ _ _ (fun _ _ => ?_)).trans ?_
    | with_reducible refine (State.kept_foldl _ _ _ (fun _ _ => ?_)).trans ?_
    | with_reducible refine (State.kept_foldl_fst _ _ _ (fun _ _ => ?_)).trans ?_
    | simp only [↓State.kept_ite, State.kept_mk, State.kept_eta, ite_self, ↓State.kept_foldl, ↓State.each_kept]
    | split

theorem State.releaseClamp_kept (s : State) (n : Nat) : (State.releaseClamp s n).kept = s.kept := by
  unfold State.releaseClamp
  simp only [↓State.kept_ite, State.kept_mk, State.kept_eta, ite_self, ↓State.kept_foldl, ↓State.each_kept, ↓State.setRegion_kept]

theorem State.eachFace_kept (s : State) (n : Nat) (f : State → Nat → Nat → Nat → State) (hf : ∀ (a0 : State) (a1 : Nat) (a2 : Nat) (a3 : Nat), (f a0 a1 a2 a3).kept = a0.kept) : (State.eachFace s n f).kept = s.kept := by
  unfold State.eachFace
  repeat' first
    | with_reducible rfl
    | with_reducible refine (State.each_kept _ _ _ (fun _ _ => ?_)).trans ?_
    | with_reducible refine (State.kept_foldl _ _ _ (fun _ _ => ?_)).trans ?_
    | with_reducible refine (State.kept_foldl_fst _ _ _ (fun _ _ => ?_)).trans ?_
    | simp only [↓State.kept_ite, State.kept_mk, State.kept_eta, ite_self, ↓State.kept_foldl, ↓State.each_kept, hf]
    | split

theorem State.facePulse_kept (s : State) (x : Nat) (y : Nat) (c : Nat) (level : Bool) : (State.facePulse s x y c level).kept = s.kept := by
  unfold State.facePulse
  simp only [↓State.kept_ite, State.kept_mk, State.kept_eta, ite_self, ↓State.kept_foldl, ↓State.each_kept, ↓State.emit_kept]

theorem State.faceEdge_kept (computed : Bool) (s : State) (x : Nat) (y : Nat) (c : Nat) : (State.faceEdge computed s x y c).kept = s.kept := by
  unfold State.faceEdge
  simp only [↓State.kept_ite, State.kept_mk, State.kept_eta, ite_self, ↓State.kept_foldl, ↓State.each_kept, ↓State.facePulse_kept]

theorem State.refreshFaces_kept (s : State) : (State.refreshFaces s).kept = s.kept := by
  unfold State.refreshFaces
  repeat' first
    | with_reducible rfl
    | with_reducible refine (State.each_kept _ _ _ (fun _ _ => ?_)).trans ?_
    | with_reducible refine (State.kept_foldl _ _ _ (fun _ _ => ?_)).trans ?_
    | with_reducible refine (State.kept_foldl_fst _ _ _ (fun _ _ => ?_)).trans ?_
    | with_reducible refine (State.eachFace_kept _ _ _ (fun _ _ _ _ => ?_)).trans ?_
    | simp only [↓State.kept_ite, State.kept_mk, State.kept_eta, ite_self, ↓State.kept_foldl, ↓State.each_kept, ↓State.eachFace_kept, ↓State.facePulse_kept]
    | split

theorem State.eventEdge_kept (s : State) (n : Nat) : (State.eventEdge s n).kept = s.kept := by
  unfold State.eventEdge
  simp only [↓State.kept_ite, State.kept_mk, State.kept_eta, ite_self, ↓State.kept_foldl, ↓State.each_kept, ↓State.setRegion_kept]

theorem State.gateEdge_kept (s : State) (e : Nat × Nat) : (State.gateEdge s e).kept = s.kept := by
  unfold State.gateEdge
  simp only [↓State.kept_ite, State.kept_mk, State.kept_eta, ite_self, ↓State.kept_foldl, ↓State.each_kept]

theorem State.setJtag_kept (s : State) (x : Jtag) : (State.setJtag s x).kept = s.kept := by
  unfold State.setJtag
  simp only [↓State.kept_ite, State.kept_mk, State.kept_eta, ite_self, ↓State.kept_foldl, ↓State.each_kept]

theorem State.loadIr_kept (s : State) (code : Nat) (allowed : Bool) : (State.loadIr s code allowed).kept = s.kept := by
  unfold State.loadIr
  simp only [↓State.kept_ite, State.kept_mk, State.kept_eta, ite_self, ↓State.kept_foldl, ↓State.each_kept, ↓State.setJtag_kept]

theorem State.bypassOut_kept (s : State) : (State.bypassOut s).kept = s.kept := by
  unfold State.bypassOut
  simp only [↓State.kept_ite, State.kept_mk, State.kept_eta, ite_self, ↓State.kept_foldl, ↓State.each_kept, ↓State.emit_kept]

theorem State.drawChallenge_kept (s : State) (p : DPort) : (State.drawChallenge s p).kept = s.kept := by
  unfold State.drawChallenge
  simp only [↓State.kept_ite, State.kept_mk, State.kept_eta, ite_self, ↓State.kept_foldl, ↓State.each_kept, ↓State.drawn_kept, ↓State.set1_kept, ↓State.setSec_kept]

theorem State.closeSession_kept (s : State) (p : DPort) : (State.closeSession s p).kept = s.kept := by
  unfold State.closeSession
  simp only [↓State.kept_ite, State.kept_mk, State.kept_eta, ite_self, ↓State.kept_foldl, ↓State.each_kept, ↓State.setLevel_kept, ↓State.setSec_kept]

theorem wrDbgInitCmd_kept (s : State) (p : DPort) (v : BitVec 32) : (wrDbgInitCmd s p v).kept = s.kept := by
  unfold wrDbgInitCmd
  simp only [↓State.kept_ite, State.kept_mk, State.kept_eta, ite_self, ↓State.kept_foldl, ↓State.each_kept, ↓State.sendReq_kept, ↓State.set1_kept, ↓State.storeReg_kept]

theorem State.placeData_kept (s : State) (data : List Byte) : (State.placeData s data).kept = s.kept := by
  unfold State.placeData
  repeat' first
    | with_reducible rfl
    | with_reducible refine (State.each_kept _ _ _ (fun _ _ => ?_)).trans ?_
    | with_reducible refine (State.kept_foldl _ _ _ (fun _ _ => ?_)).trans ?_
    | with_reducible refine (State.kept_foldl_fst _ _ _ (fun _ _ => ?_)).trans ?_
    | simp only [↓State.kept_ite, State.kept_mk, State.kept_eta, ite_self, ↓State.kept_foldl, ↓State.each_kept, ↓State.wr_kept]
    | split

theorem State.threadForce_kept (s : State) (t : Nat) : (State.threadForce s t).kept = s.kept := by
  unfold State.threadForce
  simp only [↓State.kept_ite, State.kept_mk, State.kept_eta, ite_self, ↓State.kept_foldl, ↓State.each_kept, ↓State.abortLock_kept, ↓State.haltIf_kept, ↓State.log_kept, ↓State.pendingActs_kept, ↓State.set1_kept, ↓State.squashAll_kept]

theorem State.threadStep_kept (s : State) (t : Nat) : (State.threadStep s t).kept = s.kept := by
  unfold State.threadStep
  simp only [↓State.kept_ite, State.kept_mk, State.kept_eta, ite_self, ↓State.kept_foldl, ↓State.each_kept, ↓State.deferredAct_kept, ↓State.set1_kept, ↓State.setThread_kept, ↓State.setTstate_kept, ↓State.wdtResume_kept]

theorem State.threadReleaseCmd_kept (s : State) (t : Nat) : (State.threadReleaseCmd s t).kept = s.kept := by
  unfold State.threadReleaseCmd
  simp only [↓State.kept_ite, State.kept_mk, State.kept_eta, ite_self, ↓State.kept_foldl, ↓State.each_kept, ↓State.set1_kept, ↓State.threadRelease_kept]

theorem wrDbgThrCtl_kept (s : State) (t : Nat) (v : BitVec 32) : (wrDbgThrCtl s t v).kept = s.kept := by
  unfold wrDbgThrCtl
  simp only [↓State.kept_ite, State.kept_mk, State.kept_eta, ite_self, ↓State.kept_foldl, ↓State.each_kept, ↓State.storeReg_kept, ↓State.threadForce_kept, ↓State.threadHalt_kept, ↓State.threadReleaseCmd_kept, ↓State.threadStep_kept]

theorem State.setSel_kept (s : State) (v : Nat) : (State.setSel s v).kept = s.kept := by
  unfold State.setSel
  (repeat' split) <;> first | with_reducible rfl | (simp only [↓State.kept_ite, State.kept_mk, State.kept_eta, ite_self, ↓State.kept_foldl, ↓State.each_kept, ↓State.setReg_kept, ↓State.setTpc_kept, ↓State.wr_kept]; done)

theorem State.readThrData_kept (s : State) (ini : Ini) (hi : Bool) : (State.readThrData s ini hi).1.kept = s.kept := by
  unfold State.readThrData
  repeat' first
    | with_reducible rfl
    | with_reducible refine (State.each_kept _ _ _ (fun _ _ => ?_)).trans ?_
    | with_reducible refine (State.kept_foldl _ _ _ (fun _ _ => ?_)).trans ?_
    | with_reducible refine (State.kept_foldl_fst _ _ _ (fun _ _ => ?_)).trans ?_
    | simp only [↓State.kept_ite, State.kept_mk, State.kept_eta, ite_self, ↓State.kept_foldl, ↓State.each_kept, ↓State.set1_kept, ↓State.wrb_kept]
    | split

theorem State.writeThrData_kept (s : State) (ini : Ini) (hi : Bool) (v : BitVec 32) : (State.writeThrData s ini hi v).kept = s.kept := by
  unfold State.writeThrData
  simp only [↓State.kept_ite, State.kept_mk, State.kept_eta, ite_self, ↓State.kept_foldl, ↓State.each_kept, ↓State.dropLo_kept, ↓State.holdLo_kept, ↓State.set1_kept, ↓State.setSel_kept]

theorem State.eachRegion_kept (s : State) (i : Nat) (v : BitVec 32) (f : State → Nat → State) (hf : ∀ (a0 : State) (a1 : Nat), (f a0 a1).kept = a0.kept) : (State.eachRegion s i v f).kept = s.kept := by
  unfold State.eachRegion
  repeat' first
    | with_reducible rfl
    | with_reducible refine (State.each_kept _ _ _ (fun _ _ => ?_)).trans ?_
    | with_reducible refine (State.kept_foldl _ _ _ (fun _ _ => ?_)).trans ?_
    | with_reducible refine (State.kept_foldl_fst _ _ _ (fun _ _ => ?_)).trans ?_
    | simp only [↓State.kept_ite, State.kept_mk, State.kept_eta, ite_self, ↓State.kept_foldl, ↓State.each_kept, hf]
    | split

theorem wrDbgRegStep_kept (s : State) (v : BitVec 32) : (wrDbgRegStep s v).kept = s.kept := by
  unfold wrDbgRegStep
  simp only [↓State.kept_ite, State.kept_mk, State.kept_eta, ite_self, ↓State.kept_foldl, ↓State.each_kept, ↓State.clrHold_kept, ↓State.set1_kept, ↓State.setRegion_kept, ↓State.storeReg_kept, ↓State.w1cOnly_kept]

theorem wrXtCfg_kept (s : State) (c : Nat) (v : BitVec 32) : (wrXtCfg s c v).kept = s.kept := by
  unfold wrXtCfg
  simp only [↓State.kept_ite, State.kept_mk, State.kept_eta, ite_self, ↓State.kept_foldl, ↓State.each_kept, ↓State.pulse_kept, ↓State.storeReg_kept]

theorem wrTraceCtl_kept (s : State) (v : BitVec 32) : (wrTraceCtl s v).kept = s.kept := by
  unfold wrTraceCtl
  simp only [↓State.kept_ite, State.kept_mk, State.kept_eta, ite_self, ↓State.kept_foldl, ↓State.each_kept, ↓State.clr_kept, ↓State.requestOn_kept, ↓State.set1_kept, ↓State.storeReg_kept, ↓State.w1cOnly_kept]

theorem State.dbgRead_kept (s : State) (p : DPort) (ini : Ini) (off : Nat) (r : Reg) : (State.dbgRead s p ini off r).1.kept = s.kept := by
  unfold State.dbgRead
  (repeat' split) <;> first | with_reducible rfl | (simp only [↓State.kept_ite, State.kept_mk, State.kept_eta, ite_self, ↓State.kept_foldl, ↓State.each_kept, ↓State.pairRead_kept, ↓State.readEffect_kept, ↓State.readThrData_kept]; done)

theorem State.bindSession_kept (s : State) (ini : Ini) (write : Bool) (off : Nat) (v : BitVec 32) : (State.bindSession s ini write off v).kept = s.kept := by
  unfold State.bindSession
  simp only [↓State.kept_ite, State.kept_mk, State.kept_eta, ite_self, ↓State.kept_foldl, ↓State.each_kept, ↓State.set1_kept, ↓State.wr_kept]

theorem State.deskCommand_kept (s : State) (block : List Byte) : (State.deskCommand s block).kept = s.kept := by
  unfold State.deskCommand
  simp only [↓State.kept_ite, State.kept_mk, State.kept_eta, ite_self, ↓State.kept_foldl, ↓State.each_kept, ↓State.deskEnd_kept, ↓State.setDesk_kept]

theorem State.deskInput_kept (s : State) (off : Nat) (bytes : List Byte) (poisoned : Nat → Bool) : (State.deskInput s off bytes poisoned).kept = s.kept := by
  unfold State.deskInput
  simp only [↓State.kept_ite, State.kept_mk, State.kept_eta, ite_self, ↓State.kept_foldl, ↓State.each_kept, ↓State.log_kept, ↓State.setDesk_kept]

theorem State.deskWait_kept (s : State) (w : FdWait) : (State.deskWait s w).kept = s.kept := by
  unfold State.deskWait
  simp only [↓State.kept_ite, State.kept_mk, State.kept_eta, ite_self, ↓State.kept_foldl, ↓State.each_kept, ↓State.setDesk_kept]

theorem State.deskResult_kept (s : State) (bytes : List Byte) (records : Nat) : (State.deskResult s bytes records).kept = s.kept := by
  unfold State.deskResult
  simp only [↓State.kept_ite, State.kept_mk, State.kept_eta, ite_self, ↓State.kept_foldl, ↓State.each_kept, ↓State.deskEnd_kept, ↓State.setDesk_kept]

theorem State.deskJournal_kept (s : State) (bs : List JBody) : (State.deskJournal s bs).kept = s.kept := by
  unfold State.deskJournal
  repeat' first
    | with_reducible rfl
    | with_reducible refine (State.each_kept _ _ _ (fun _ _ => ?_)).trans ?_
    | with_reducible refine (State.kept_foldl _ _ _ (fun _ _ => ?_)).trans ?_
    | with_reducible refine (State.kept_foldl_fst _ _ _ (fun _ _ => ?_)).trans ?_
    | simp only [↓State.kept_ite, State.kept_mk, State.kept_eta, ite_self, ↓State.kept_foldl, ↓State.each_kept, ↓State.deskEnd_kept, ↓State.deskWait_kept, ↓State.jnlAsk_kept]
    | split

theorem State.deskAccess_kept (s : State) (off : Nat) (code : Resp) : (State.deskAccess s off code).kept = s.kept := by
  unfold State.deskAccess
  simp only [↓State.kept_ite, State.kept_mk, State.kept_eta, ite_self, ↓State.kept_foldl, ↓State.each_kept, ↓State.deskEnd_kept, ↓State.setDesk_kept]

theorem State.deskLoad_kept (s : State) (f : State → State) (hf : ∀ (a0 : State), (f a0).kept = a0.kept) : (State.deskLoad s f).kept = s.kept := by
  unfold State.deskLoad
  simp only [↓State.kept_ite, State.kept_mk, State.kept_eta, ite_self, ↓State.kept_foldl, ↓State.each_kept, ↓State.deskEnd_kept, ↓State.deskWait_kept, hf]

theorem State.setStart_kept (s : State) (x : Start) : (State.setStart s x).kept = s.kept := by
  unfold State.setStart
  simp only [↓State.kept_ite, State.kept_mk, State.kept_eta, ite_self, ↓State.kept_foldl, ↓State.each_kept]

theorem State.deskAborted_kept (s : State) : (State.deskAborted s).kept = s.kept := by
  unfold State.deskAborted
  simp only [↓State.kept_ite, State.kept_mk, State.kept_eta, ite_self, ↓State.kept_foldl, ↓State.each_kept, ↓State.setDesk_kept]

theorem State.abortLate_kept (s : State) : (State.abortLate s).kept = s.kept := by
  unfold State.abortLate
  simp only [↓State.kept_ite, State.kept_mk, State.kept_eta, ite_self, ↓State.kept_foldl, ↓State.each_kept, ↓State.setDesk_kept]

theorem State.putAt_kept (s : State) (b : JBody) (a : Nat) : (State.putAt s b a).kept = s.kept := by
  unfold State.putAt
  simp only [↓State.kept_ite, State.kept_mk, State.kept_eta, ite_self, ↓State.kept_foldl, ↓State.each_kept]

theorem State.freezeKept_kept (s : State) : (State.freezeKept s).kept = s.kept := by
  unfold State.freezeKept
  (repeat' split) <;> first | with_reducible rfl | (simp only [↓State.kept_ite, State.kept_mk, State.kept_eta, ite_self, ↓State.kept_foldl, ↓State.each_kept, ↓State.bumpN_kept, ↓State.set1_kept]; done)

theorem State.notSaved_kept (s : State) (w : JWrite) : (State.notSaved s w).kept = s.kept := by
  unfold State.notSaved
  (repeat' split) <;> first | with_reducible rfl | (simp only [↓State.kept_ite, State.kept_mk, State.kept_eta, ite_self, ↓State.kept_foldl, ↓State.each_kept, ↓State.log_kept, ↓State.set1_kept]; done)

theorem State.refuseWrites_kept (s : State) : (State.refuseWrites s).kept = s.kept := by
  unfold State.refuseWrites
  repeat' first
    | with_reducible rfl
    | with_reducible refine (State.each_kept _ _ _ (fun _ _ => ?_)).trans ?_
    | with_reducible refine (State.kept_foldl _ _ _ (fun _ _ => ?_)).trans ?_
    | with_reducible refine (State.kept_foldl_fst _ _ _ (fun _ _ => ?_)).trans ?_
    | simp only [↓State.kept_ite, State.kept_mk, State.kept_eta, ite_self, ↓State.kept_foldl, ↓State.each_kept, ↓State.notSaved_kept]
    | split

theorem State.setJsec_kept (s : State) (p : Nat) (x : JSector) : (State.setJsec s p x).kept = s.kept := by
  unfold State.setJsec
  simp only [↓State.kept_ite, State.kept_mk, State.kept_eta, ite_self, ↓State.kept_foldl, ↓State.each_kept]

theorem State.showSectors_kept (s : State) : (State.showSectors s).kept = s.kept := by
  unfold State.showSectors
  simp only [↓State.kept_ite, State.kept_mk, State.kept_eta, ite_self, ↓State.kept_foldl, ↓State.each_kept, ↓State.wr_kept]

theorem State.tearSlot_kept (s : State) (a : Nat) : (State.tearSlot s a).kept = s.kept := by
  unfold State.tearSlot
  simp only [↓State.kept_ite, State.kept_mk, State.kept_eta, ite_self, ↓State.kept_foldl, ↓State.each_kept]

theorem State.abortReset_kept (s : State) : (State.abortReset s).kept = s.kept := by
  unfold State.abortReset
  simp only [↓State.kept_ite, State.kept_mk, State.kept_eta, ite_self, ↓State.kept_foldl, ↓State.each_kept, ↓State.abortLate_kept, ↓State.deskAborted_kept, ↓State.setStart_kept]

theorem State.abortFresh_kept (s : State) : (State.abortFresh s).kept = s.kept := by
  unfold State.abortFresh
  simp only [↓State.kept_ite, State.kept_mk, State.kept_eta, ite_self, ↓State.kept_foldl, ↓State.each_kept, ↓State.abortLate_kept, ↓State.deskAborted_kept]

theorem State.aluReg_kept (s : State) (t : Nat) (fn : Nat) : (State.aluReg s t fn).kept = s.kept := by
  unfold State.aluReg
  repeat' first
    | with_reducible rfl
    | with_reducible refine (State.each_kept _ _ _ (fun _ _ => ?_)).trans ?_
    | with_reducible refine (State.kept_foldl _ _ _ (fun _ _ => ?_)).trans ?_
    | with_reducible refine (State.kept_foldl_fst _ _ _ (fun _ _ => ?_)).trans ?_
    | with_reducible refine (State.oldest_kept _ _ _ _ (fun _ _ => ?_)).trans ?_
    | simp only [↓State.kept_ite, State.kept_mk, State.kept_eta, ite_self, ↓State.kept_foldl, ↓State.each_kept, ↓State.commit_kept, ↓State.oldest_kept, ↓State.setReg_kept]
    | split

theorem State.aluImm_kept (s : State) (t : Nat) (fn : Nat) : (State.aluImm s t fn).kept = s.kept := by
  unfold State.aluImm
  repeat' first
    | with_reducible rfl
    | with_reducible refine (State.each_kept _ _ _ (fun _ _ => ?_)).trans ?_
    | with_reducible refine (State.kept_foldl _ _ _ (fun _ _ => ?_)).trans ?_
    | with_reducible refine (State.kept_foldl_fst _ _ _ (fun _ _ => ?_)).trans ?_
    | with_reducible refine (State.oldest_kept _ _ _ _ (fun _ _ => ?_)).trans ?_
    | simp only [↓State.kept_ite, State.kept_mk, State.kept_eta, ite_self, ↓State.kept_foldl, ↓State.each_kept, ↓State.commit_kept, ↓State.oldest_kept, ↓State.setReg_kept]
    | split

theorem State.deniedWrite_kept (s : State) (ini : Ini) : (State.deniedWrite s ini).kept = s.kept := by
  unfold State.deniedWrite
  simp only [↓State.kept_ite, State.kept_mk, State.kept_eta, ite_self, ↓State.kept_foldl, ↓State.each_kept, ↓State.emit_kept]

theorem State.loadDone_kept (s : State) (t : Nat) (rd : Nat) (rc : Nat) (tol : Bool) (sx : Bool) (size : Nat) (a : Answer) : (State.loadDone s t rd rc tol sx size a).kept = s.kept := by
  unfold State.loadDone
  simp only [↓State.kept_ite, State.kept_mk, State.kept_eta, ite_self, ↓State.kept_foldl, ↓State.each_kept, ↓State.commit_kept, ↓State.setReg_kept, ↓State.threadFault_kept]

theorem State.otherDone_kept (s : State) (t : Nat) (rc : Nat) (tol : Bool) (a : Answer) : (State.otherDone s t rc tol a).kept = s.kept := by
  unfold State.otherDone
  simp only [↓State.kept_ite, State.kept_mk, State.kept_eta, ite_self, ↓State.kept_foldl, ↓State.each_kept, ↓State.commit_kept, ↓State.setReg_kept, ↓State.threadFault_kept]

theorem State.specAnswer_kept (s : State) (t : Nat) (tag : Nat) (a : Answer) : (State.specAnswer s t tag a).kept = s.kept := by
  unfold State.specAnswer
  simp only [↓State.kept_ite, State.kept_mk, State.kept_eta, ite_self, ↓State.kept_foldl, ↓State.each_kept, ↓State.setThread_kept]

theorem State.threadAnswer_kept (s : State) (t : Nat) (tag : Nat) (a : Answer) : (State.threadAnswer s t tag a).kept = s.kept := by
  unfold State.threadAnswer
  (repeat' split) <;> first | with_reducible rfl | (simp only [↓State.kept_ite, State.kept_mk, State.kept_eta, ite_self, ↓State.kept_foldl, ↓State.each_kept, ↓State.loadDone_kept, ↓State.otherDone_kept, ↓State.setThread_kept, ↓State.specAnswer_kept]; done)

theorem State.setGbar_kept (s : State) (b : Nat) (x : GBar) : (State.setGbar s b x).kept = s.kept := by
  unfold State.setGbar
  simp only [↓State.kept_ite, State.kept_mk, State.kept_eta, ite_self, ↓State.kept_foldl, ↓State.each_kept]

theorem State.barRelease_kept (s : State) (b : Nat) : (State.barRelease s b).kept = s.kept := by
  unfold State.barRelease
  repeat' first
    | with_reducible rfl
    | with_reducible refine (State.each_kept _ _ _ (fun _ _ => ?_)).trans ?_
    | with_reducible refine (State.kept_foldl _ _ _ (fun _ _ => ?_)).trans ?_
    | with_reducible refine (State.kept_foldl_fst _ _ _ (fun _ _ => ?_)).trans ?_
    | simp only [↓State.kept_ite, State.kept_mk, State.kept_eta, ite_self, ↓State.kept_foldl, ↓State.each_kept, ↓State.clr_kept, ↓State.commit_kept, ↓State.setGbar_kept, ↓State.setReg_kept, ↓State.wrb_kept]
    | split

theorem State.gbarCount_kept (s : State) (b : Nat) (dev : Nat) : (State.gbarCount s b dev).kept = s.kept := by
  unfold State.gbarCount
  repeat' first
    | with_reducible rfl
    | with_reducible refine (State.each_kept _ _ _ (fun _ _ => ?_)).trans ?_
    | with_reducible refine (State.kept_foldl _ _ _ (fun _ _ => ?_)).trans ?_
    | with_reducible refine (State.kept_foldl_fst _ _ _ (fun _ _ => ?_)).trans ?_
    | simp only [↓State.kept_ite, State.kept_mk, State.kept_eta, ite_self, ↓State.kept_foldl, ↓State.each_kept, ↓State.barRelease_kept, ↓State.sendTwin_kept, ↓State.setGbar_kept]
    | split

theorem State.barCheck_kept (s : State) (b : Nat) : (State.barCheck s b).kept = s.kept := by
  unfold State.barCheck
  simp only [↓State.kept_ite, State.kept_mk, State.kept_eta, ite_self, ↓State.kept_foldl, ↓State.each_kept, ↓State.barRelease_kept, ↓State.gbarCount_kept, ↓State.sendTwin_kept, ↓State.setGbar_kept]

theorem State.waitFor_kept (s : State) (t : Nat) (w : Wait) : (State.waitFor s t w).kept = s.kept := by
  unfold State.waitFor
  simp only [↓State.kept_ite, State.kept_mk, State.kept_eta, ite_self, ↓State.kept_foldl, ↓State.each_kept, ↓State.setThread_kept, ↓State.setTstate_kept]

theorem State.twinRecord_kept (s : State) (rq : Request) (kind : Nat) (size : Nat) (f : State → State) (hf : ∀ (a0 : State), (f a0).kept = a0.kept) : (State.twinRecord s rq kind size f).kept = s.kept := by
  unfold State.twinRecord
  simp only [↓State.kept_ite, State.kept_mk, State.kept_eta, ite_self, ↓State.kept_foldl, ↓State.each_kept, ↓State.reply_kept, hf]

theorem State.barRecord_kept (s : State) (rq : Request) (kind : Nat) (wanted : Nat → Bool) (f : State → Nat → State) (hf : ∀ (a0 : State) (a1 : Nat), (f a0 a1).kept = a0.kept) : (State.barRecord s rq kind wanted f).kept = s.kept := by
  unfold State.barRecord
  repeat' first
    | with_reducible rfl
    | with_reducible refine (State.each_kept _ _ _ (fun _ _ => ?_)).trans ?_
    | with_reducible refine (State.kept_foldl _ _ _ (fun _ _ => ?_)).trans ?_
    | with_reducible refine (State.kept_foldl_fst _ _ _ (fun _ _ => ?_)).trans ?_
    | with_reducible refine (State.twinRecord_kept _ _ _ _ _ (fun _ => ?_)).trans ?_
    | simp only [↓State.kept_ite, State.kept_mk, State.kept_eta, ite_self, ↓State.kept_foldl, ↓State.each_kept, ↓State.log_kept, ↓State.twinRecord_kept, hf]
    | split

theorem State.train_kept (s : State) (hint : Nat) (pc : Nat) (taken : Bool) : (State.train s hint pc taken).kept = s.kept := by
  unfold State.train
  simp only [↓State.kept_ite, State.kept_mk, State.kept_eta, ite_self, ↓State.kept_foldl, ↓State.each_kept]

theorem State.branchCommit_kept (s : State) (t : Nat) (i : Insn) : (State.branchCommit s t i).kept = s.kept := by
  unfold State.branchCommit
  simp only [↓State.kept_ite, State.kept_mk, State.kept_eta, ite_self, ↓State.kept_foldl, ↓State.each_kept, ↓State.commitTo_kept, ↓State.train_kept]

theorem State.squashAfter_kept (s : State) (t : Nat) (seq : Nat) : (State.squashAfter s t seq).kept = s.kept := by
  unfold State.squashAfter
  repeat' first
    | with_reducible rfl
    | with_reducible refine (State.each_kept _ _ _ (fun _ _ => ?_)).trans ?_
    | with_reducible refine (State.kept_foldl _ _ _ (fun _ _ => ?_)).trans ?_
    | with_reducible refine (State.kept_foldl_fst _ _ _ (fun _ _ => ?_)).trans ?_
    | simp only [↓State.kept_ite, State.kept_mk, State.kept_eta, ite_self, ↓State.kept_foldl, ↓State.each_kept, ↓State.bump_kept, ↓State.setThread_kept]
    | split

theorem State.resolve_kept (s : State) (t : Nat) (seq : Nat) (i : Insn) (predicted : Bool) (taken : Bool) : (State.resolve s t seq i predicted taken).kept = s.kept := by
  unfold State.resolve
  simp only [↓State.kept_ite, State.kept_mk, State.kept_eta, ite_self, ↓State.kept_foldl, ↓State.each_kept, ↓State.bump_kept, ↓State.setThread_kept, ↓State.squashAfter_kept]

theorem State.branchResolves_kept (s : State) (t : Nat) (r : Row) (i : Insn) : (State.branchResolves s t r i).kept = s.kept := by
  unfold State.branchResolves
  simp only [↓State.kept_ite, State.kept_mk, State.kept_eta, ite_self, ↓State.kept_foldl, ↓State.each_kept, ↓State.issueSlot_kept, ↓State.resolve_kept]

theorem State.branchOp_kept (s : State) (t : Nat) (k : Nat) : (State.branchOp s t k).kept = s.kept := by
  unfold State.branchOp
  repeat' first
    | with_reducible rfl
    | with_reducible refine (State.each_kept _ _ _ (fun _ _ => ?_)).trans ?_
    | with_reducible refine (State.kept_foldl _ _ _ (fun _ _ => ?_)).trans ?_
    | with_reducible refine (State.kept_foldl_fst _ _ _ (fun _ _ => ?_)).trans ?_
    | with_reducible refine (State.consuming_kept _ _ _ _ (fun _ => ?_)).trans ?_
    | with_reducible refine (State.oldest_kept _ _ _ _ (fun _ _ => ?_)).trans ?_
    | simp only [↓State.kept_ite, State.kept_mk, State.kept_eta, ite_self, ↓State.kept_foldl, ↓State.each_kept, ↓State.branchCommit_kept, ↓State.branchResolves_kept, ↓State.consuming_kept, ↓State.oldest_kept]
    | split

theorem State.flagBranch_kept (s : State) (t : Nat) (r : Row) : (State.flagBranch s t r).kept = s.kept := by
  unfold State.flagBranch
  repeat' first
    | with_reducible rfl
    | with_reducible refine (State.each_kept _ _ _ (fun _ _ => ?_)).trans ?_
    | with_reducible refine (State.kept_foldl _ _ _ (fun _ _ => ?_)).trans ?_
    | with_reducible refine (State.kept_foldl_fst _ _ _ (fun _ _ => ?_)).trans ?_
    | with_reducible refine (State.oldest_kept _ _ _ _ (fun _ _ => ?_)).trans ?_
    | simp only [↓State.kept_ite, State.kept_mk, State.kept_eta, ite_self, ↓State.kept_foldl, ↓State.each_kept, ↓State.branchCommit_kept, ↓State.branchResolves_kept, ↓State.oldest_kept]
    | split

theorem State.passBanks_kept (s : State) (k : Nat) (k' : Nat) (keep : Nat → Bool) : (State.passBanks s k k' keep).kept = s.kept := by
  unfold State.passBanks
  repeat' first
    | with_reducible rfl
    | with_reducible refine (State.each_kept _ _ _ (fun _ _ => ?_)).trans ?_
    | with_reducible refine (State.kept_foldl _ _ _ (fun _ _ => ?_)).trans ?_
    | with_reducible refine (State.kept_foldl_fst _ _ _ (fun _ _ => ?_)).trans ?_
    | simp only [↓State.kept_ite, State.kept_mk, State.kept_eta, ite_self, ↓State.kept_foldl, ↓State.each_kept, ↓State.clr_kept, ↓State.wr_kept]
    | split

theorem State.skipUnit_kept (s : State) (u : Nat) : (State.skipUnit s u).kept = s.kept := by
  unfold State.skipUnit
  simp only [↓State.kept_ite, State.kept_mk, State.kept_eta, ite_self, ↓State.kept_foldl, ↓State.each_kept, ↓State.itin_kept, ↓State.log_kept]

theorem State.channelFails_kept (s : State) (x : Bool × Nat × Nat) : (State.channelFails s x).kept = s.kept := by
  unfold State.channelFails
  simp only [↓State.kept_ite, State.kept_mk, State.kept_eta, ite_self, ↓State.kept_foldl, ↓State.each_kept, ↓State.jnlAskBy_kept, ↓State.log_kept]

theorem State.stackTest_kept (s : State) (failed : List (Bool × Nat × Nat)) : (State.stackTest s failed).kept = s.kept := by
  unfold State.stackTest
  repeat' first
    | with_reducible rfl
    | with_reducible refine (State.each_kept _ _ _ (fun _ _ => ?_)).trans ?_
    | with_reducible refine (State.kept_foldl _ _ _ (fun _ _ => ?_)).trans ?_
    | with_reducible refine (State.kept_foldl_fst _ _ _ (fun _ _ => ?_)).trans ?_
    | simp only [↓State.kept_ite, State.kept_mk, State.kept_eta, ite_self, ↓State.kept_foldl, ↓State.each_kept, ↓State.channelFails_kept, ↓State.clr_kept, ↓State.itin_kept, ↓State.jnlAsk_kept, ↓State.set1_kept, ↓State.wr_kept]
    | split

theorem State.bistBegin_kept (s : State) (failed : List (Bool × Nat × Nat)) : (State.bistBegin s failed).kept = s.kept := by
  unfold State.bistBegin
  repeat' first
    | with_reducible rfl
    | with_reducible refine (State.each_kept _ _ _ (fun _ _ => ?_)).trans ?_
    | with_reducible refine (State.kept_foldl _ _ _ (fun _ _ => ?_)).trans ?_
    | with_reducible refine (State.kept_foldl_fst _ _ _ (fun _ _ => ?_)).trans ?_
    | simp only [↓State.kept_ite, State.kept_mk, State.kept_eta, ite_self, ↓State.kept_foldl, ↓State.each_kept, ↓State.clr_kept, ↓State.passBanks_kept, ↓State.setStart_kept, ↓State.skipUnit_kept, ↓State.stackTest_kept]
    | split

theorem State.buildSet_kept (s : State) : (State.buildSet s).kept = s.kept := by
  unfold State.buildSet
  repeat' first
    | with_reducible rfl
    | with_reducible refine (State.each_kept _ _ _ (fun _ _ => ?_)).trans ?_
    | with_reducible refine (State.kept_foldl _ _ _ (fun _ _ => ?_)).trans ?_
    | with_reducible refine (State.kept_foldl_fst _ _ _ (fun _ _ => ?_)).trans ?_
    | simp only [↓State.kept_ite, State.kept_mk, State.kept_eta, ite_self, ↓State.kept_foldl, ↓State.each_kept, ↓State.wr_kept]
    | split

theorem State.bistEnd_kept (s : State) : (State.bistEnd s).kept = s.kept := by
  unfold State.bistEnd
  simp only [↓State.kept_ite, State.kept_mk, State.kept_eta, ite_self, ↓State.kept_foldl, ↓State.each_kept, ↓State.buildSet_kept, ↓State.passBanks_kept, ↓State.setStart_kept, ↓State.wr_kept]

theorem State.bistFeed_kept (s : State) : (State.bistFeed s).kept = s.kept := by
  unfold State.bistFeed
  repeat' first
    | with_reducible rfl
    | with_reducible refine (State.each_kept _ _ _ (fun _ _ => ?_)).trans ?_
    | with_reducible refine (State.kept_foldl _ _ _ (fun _ _ => ?_)).trans ?_
    | with_reducible refine (State.kept_foldl_fst _ _ _ (fun _ _ => ?_)).trans ?_
    | simp only [↓State.kept_ite, State.kept_mk, State.kept_eta, ite_self, ↓State.kept_foldl, ↓State.each_kept, ↓State.itin_kept, ↓State.setStart_kept, ↓State.testBegins_kept]
    | split

theorem State.bramBegin_kept (s : State) (rq : Request) (off : Nat) : (State.bramBegin s rq off).kept = s.kept := by
  unfold State.bramBegin
  simp only [↓State.kept_ite, State.kept_mk, State.kept_eta, ite_self, ↓State.kept_foldl, ↓State.each_kept]

theorem State.holdFor_kept (s : State) (d station port : Nat) (rq : Request) (f : State → State) (u : Met)
    (hf : ∀ a : State, (f a).kept = a.kept) (h : s.holdFor d station port rq f = some u) : u.1.kept = s.kept := by
  unfold State.holdFor at h
  split at h <;> cases h
  exact (hf _).trans (State.kept_mk ..)

theorem State.sendWake_kept (s : State) (d : Nat) : (State.sendWake s d).kept = s.kept := by
  unfold State.sendWake
  simp only [↓State.kept_ite, State.kept_mk, State.kept_eta, ite_self, ↓State.kept_foldl, ↓State.each_kept, ↓State.emit_kept]

theorem State.abortHeld_kept (s : State) (d : Nat) : (State.abortHeld s d).kept = s.kept := by
  unfold State.abortHeld
  repeat' first
    | with_reducible rfl
    | with_reducible refine (State.each_kept _ _ _ (fun _ _ => ?_)).trans ?_
    | with_reducible refine (State.kept_foldl _ _ _ (fun _ _ => ?_)).trans ?_
    | with_reducible refine (State.kept_foldl_fst _ _ _ (fun _ _ => ?_)).trans ?_
    | simp only [↓State.kept_ite, State.kept_mk, State.kept_eta, ite_self, ↓State.kept_foldl, ↓State.each_kept, ↓State.bump_kept, ↓State.reply_kept]
    | split

theorem State.wake_kept (s : State) (d : Nat) : (State.wake s d).kept = s.kept := by
  unfold State.wake
  simp only [↓State.kept_ite, State.kept_mk, State.kept_eta, ite_self, ↓State.kept_foldl, ↓State.each_kept, ↓State.abortHeld_kept, ↓State.requestOn_kept]

theorem State.meetDomain_kept (s : State) (d station port : Nat) (rq : Request) (u : Met)
    (h : s.meetDomain d station port rq = some u) : u.1.kept = s.kept := by
  unfold State.meetDomain at h
  (repeat' first | split at h | dsimp only at h) <;> first
    | (cases h; rfl)
    | (cases h; exact State.reply_kept ..)
    | (cases h; exact State.requestOn_kept ..)
    | exact State.holdFor_kept _ _ _ _ _ _ _ (fun _ => rfl) h
    | exact State.holdFor_kept _ _ _ _ _ _ _ (fun _ => State.sendWake_kept ..) h
    | exact State.holdFor_kept _ _ _ _ _ _ _ (fun _ => State.setDom_kept ..) h
    | exact State.holdFor_kept _ _ _ _ _ _ _ (fun _ => State.wake_kept ..) h

theorem State.showFuses_kept (s : State) : (State.showFuses s).kept = s.kept := by
  unfold State.showFuses
  simp only [↓State.kept_ite, State.kept_mk, State.kept_eta, ite_self, ↓State.kept_foldl, ↓State.each_kept, ↓State.wr_kept, ↓State.wrb_kept]

theorem State.pairRecord_kept (s : State) (rq : Request) (kind : Nat) (size : Nat) (wanted : Bool) (f : State → State) (hf : ∀ (a0 : State), (f a0).kept = a0.kept) : (State.pairRecord s rq kind size wanted f).kept = s.kept := by
  unfold State.pairRecord
  repeat' first
    | with_reducible rfl
    | with_reducible refine (State.each_kept _ _ _ (fun _ _ => ?_)).trans ?_
    | with_reducible refine (State.kept_foldl _ _ _ (fun _ _ => ?_)).trans ?_
    | with_reducible refine (State.kept_foldl_fst _ _ _ (fun _ _ => ?_)).trans ?_
    | with_reducible refine (State.twinRecord_kept _ _ _ _ _ (fun _ => ?_)).trans ?_
    | simp only [↓State.kept_ite, State.kept_mk, State.kept_eta, ite_self, ↓State.kept_foldl, ↓State.each_kept, ↓State.log_kept, ↓State.twinRecord_kept, hf]
    | split

theorem State.setThermal_kept (s : State) (t : Thermal) : (State.setThermal s t).kept = s.kept := by
  unfold State.setThermal
  simp only [↓State.kept_ite, State.kept_mk, State.kept_eta, ite_self, ↓State.kept_foldl, ↓State.each_kept]

theorem State.notices_kept (s : State) (old : Nat) : (State.notices s old).kept = s.kept := by
  unfold State.notices
  simp only [↓State.kept_ite, State.kept_mk, State.kept_eta, ite_self, ↓State.kept_foldl, ↓State.each_kept, ↓State.logP_kept, ↓State.sendReq_kept, ↓State.setThermal_kept]

theorem State.unaryOp_kept (s : State) (t : Nat) (fn : Nat) : (State.unaryOp s t fn).kept = s.kept := by
  unfold State.unaryOp
  repeat' first
    | with_reducible rfl
    | with_reducible refine (State.each_kept _ _ _ (fun _ _ => ?_)).trans ?_
    | with_reducible refine (State.kept_foldl _ _ _ (fun _ _ => ?_)).trans ?_
    | with_reducible refine (State.kept_foldl_fst _ _ _ (fun _ _ => ?_)).trans ?_
    | with_reducible refine (State.oldest_kept _ _ _ _ (fun _ _ => ?_)).trans ?_
    | simp only [↓State.kept_ite, State.kept_mk, State.kept_eta, ite_self, ↓State.kept_foldl, ↓State.each_kept, ↓State.commit_kept, ↓State.oldest_kept, ↓State.setReg_kept]
    | split

theorem State.putFrame_kept (s : State) (g : Nat) (kind : StreamKind) (header : Nat) (records : List Byte) : (State.putFrame s g kind header records).kept = s.kept := by
  unfold State.putFrame
  simp only [↓State.kept_ite, State.kept_mk, State.kept_eta, ite_self, ↓State.kept_foldl, ↓State.each_kept, ↓State.emit_kept, ↓State.setLink_kept]

theorem State.sendSequenced_kept (s : State) (g : Nat) (f : TxFrame) : (State.sendSequenced s g f).kept = s.kept := by
  unfold State.sendSequenced
  simp only [↓State.kept_ite, State.kept_mk, State.kept_eta, ite_self, ↓State.kept_foldl, ↓State.each_kept, ↓State.putFrame_kept]

theorem State.takeCredits_kept (s : State) (g : Nat) (vn : VNet) (c : Nat) : (State.takeCredits s g vn c).kept = s.kept := by
  unfold State.takeCredits
  simp only [↓State.kept_ite, State.kept_mk, State.kept_eta, ite_self, ↓State.kept_foldl, ↓State.each_kept, ↓State.setBuf_kept]

theorem State.beginFrame_kept (s : State) (g : Nat) (pkts : List Packet) : (State.beginFrame s g pkts).kept = s.kept := by
  unfold State.beginFrame
  simp only [↓State.kept_ite, State.kept_mk, State.kept_eta, ite_self, ↓State.kept_foldl, ↓State.each_kept, ↓State.sendSequenced_kept, ↓State.setLink_kept, ↓State.takeCredits_kept]

theorem State.keyWrite_kept (s : State) (ini : Ini) (v : BitVec 32) : (State.keyWrite s ini v).kept = s.kept := by
  unfold State.keyWrite
  repeat' first
    | with_reducible rfl
    | with_reducible refine (State.each_kept _ _ _ (fun _ _ => ?_)).trans ?_
    | with_reducible refine (State.kept_foldl _ _ _ (fun _ _ => ?_)).trans ?_
    | with_reducible refine (State.kept_foldl_fst _ _ _ (fun _ _ => ?_)).trans ?_
    | with_reducible refine (State.written_kept _ _ _ _ (fun _ => ?_)).trans ?_
    | simp only [↓State.kept_ite, State.kept_mk, State.kept_eta, ite_self, ↓State.kept_foldl, ↓State.each_kept, ↓State.deniedWrite_kept, ↓State.set1_kept, ↓State.written_kept, ↓wrKeyCmd_kept]
    | split

theorem State.sessionsEnd_kept (t s : State) : (State.sessionsEnd t s).kept = t.kept := by
  unfold State.sessionsEnd
  refine State.kept_foldl _ _ _ fun t p => ?_
  split
  · rfl
  · exact State.log_kept ..

theorem State.resetDropped_kept (s : State) : (State.resetDropped s).kept = s.kept := by
  unfold State.resetDropped
  simp only [↓State.kept_ite, State.kept_mk, State.kept_eta, ite_self, ↓State.kept_foldl, ↓State.each_kept, ↓State.deskEnd_kept, ↓State.setStart_kept]

theorem State.clearCells_kept (s : State) (n : Nat) : (State.clearCells s n).kept = s.kept := by
  unfold State.clearCells
  simp only [↓State.kept_ite, State.kept_mk, State.kept_eta, ite_self, ↓State.kept_foldl, ↓State.each_kept]

theorem State.refuseWaiting_kept (s : State) (n : Nat) : (State.refuseWaiting s n).kept = s.kept := by
  unfold State.refuseWaiting
  repeat' first
    | with_reducible rfl
    | with_reducible refine (State.each_kept _ _ _ (fun _ _ => ?_)).trans ?_
    | with_reducible refine (State.kept_foldl _ _ _ (fun _ _ => ?_)).trans ?_
    | with_reducible refine (State.kept_foldl_fst _ _ _ (fun _ _ => ?_)).trans ?_
    | simp only [↓State.kept_ite, State.kept_mk, State.kept_eta, ite_self, ↓State.kept_foldl, ↓State.each_kept, ↓State.refuse_kept, ↓State.refuseArmed_kept]
    | split

theorem State.closeReset_kept (s : State) (d : Nat) : (State.closeReset s d).kept = s.kept := by
  unfold State.closeReset
  simp only [↓State.kept_ite, State.kept_mk, State.kept_eta, ite_self, ↓State.kept_foldl, ↓State.each_kept, ↓State.clr_kept, ↓State.setDom_kept, ↓State.setDstate_kept]

theorem State.queueIn_kept (s : State) (n : Nat) (p : Nat) (rq : Request) : (State.queueIn s n p rq).kept = s.kept := by
  unfold State.queueIn
  simp only [↓State.kept_ite, State.kept_mk, State.kept_eta, ite_self, ↓State.kept_foldl, ↓State.each_kept, ↓State.setPort_kept]

theorem State.portInbound_kept (s : State) (n : Nat) (p : Nat) (rq : Request) : (State.portInbound s n p rq).kept = s.kept := by
  unfold State.portInbound
  (repeat' split) <;> first | with_reducible rfl | (simp only [↓State.kept_ite, State.kept_mk, State.kept_eta, ite_self, ↓State.kept_foldl, ↓State.each_kept, ↓State.emit_kept, ↓State.queueIn_kept, ↓State.reply_kept]; done)

theorem State.deliverHeld_kept (s : State) (e : ParkEntry) : (State.deliverHeld s e).kept = s.kept := by
  unfold State.deliverHeld
  repeat' first
    | with_reducible rfl
    | with_reducible refine (State.each_kept _ _ _ (fun _ _ => ?_)).trans ?_
    | with_reducible refine (State.kept_foldl _ _ _ (fun _ _ => ?_)).trans ?_
    | with_reducible refine (State.kept_foldl_fst _ _ _ (fun _ _ => ?_)).trans ?_
    | simp only [↓State.kept_ite, State.kept_mk, State.kept_eta, ite_self, ↓State.kept_foldl, ↓State.each_kept, ↓State.bramBegin_kept, ↓State.portInbound_kept, ↓State.reply_kept]
    | split

theorem State.regionOn_kept (s : State) (n : Nat) : (State.regionOn s n).kept = s.kept := by
  unfold State.regionOn
  simp only [↓State.kept_ite, State.kept_mk, State.kept_eta, ite_self, ↓State.kept_foldl, ↓State.each_kept, ↓State.enter_kept]

theorem State.domainOn_kept (s : State) (d : Nat) : (State.domainOn s d).kept = s.kept := by
  unfold State.domainOn
  repeat' first
    | with_reducible rfl
    | with_reducible refine (State.each_kept _ _ _ (fun _ _ => ?_)).trans ?_
    | with_reducible refine (State.kept_foldl _ _ _ (fun _ _ => ?_)).trans ?_
    | with_reducible refine (State.kept_foldl_fst _ _ _ (fun _ _ => ?_)).trans ?_
    | simp only [↓State.kept_ite, State.kept_mk, State.kept_eta, ite_self, ↓State.kept_foldl, ↓State.each_kept, ↓State.closeReset_kept, ↓State.deliverHeld_kept, ↓State.linkSettle_kept, ↓State.regionOn_kept, ↓State.reply_kept, ↓State.requestOff_kept, ↓State.setDom_kept, ↓State.setDstate_kept]
    | split

theorem State.countDwell_kept (s : State) : (State.countDwell s).kept = s.kept := by
  unfold State.countDwell
  simp only [↓State.kept_ite, State.kept_mk, State.kept_eta, ite_self, ↓State.kept_foldl, ↓State.each_kept, ↓State.setThermal_kept]

theorem State.setThrottle_kept (s : State) (lvl : Nat) (step : Nat) : (State.setThrottle s lvl step).kept = s.kept := by
  unfold State.setThrottle
  simp only [↓State.kept_ite, State.kept_mk, State.kept_eta, ite_self, ↓State.kept_foldl, ↓State.each_kept, ↓State.clr_kept, ↓State.countDwell_kept, ↓State.notices_kept, ↓State.setThermal_kept, ↓State.wr_kept]

theorem State.epochReport_kept (s : State) (n : Nat) : (State.epochReport s n).kept = s.kept := by
  unfold State.epochReport
  (repeat' split) <;> first | with_reducible rfl | (simp only [↓State.kept_ite, State.kept_mk, State.kept_eta, ite_self, ↓State.kept_foldl, ↓State.each_kept]; done)

theorem State.shown_kept (s : State) (ini : Ini) (off : Nat) (v : Nat) (f : State → State) (hf : ∀ (a0 : State), (f a0).kept = a0.kept) : (State.shown s ini off v f).kept = s.kept := by
  unfold State.shown
  (repeat' split) <;> first | with_reducible rfl | (simp only [↓State.kept_ite, State.kept_mk, State.kept_eta, ite_self, ↓State.kept_foldl, ↓State.each_kept, ↓State.emit_kept, hf]; done)

theorem State.controlFrame_kept (s : State) (g : Nat) (nak : Bool) : (State.controlFrame s g nak).kept = s.kept := by
  unfold State.controlFrame
  simp only [↓State.kept_ite, State.kept_mk, State.kept_eta, ite_self, ↓State.kept_foldl, ↓State.each_kept, ↓State.putFrame_kept]

theorem State.badFrame_kept (s : State) (g : Nat) : (State.badFrame s g).kept = s.kept := by
  unfold State.badFrame
  simp only [↓State.kept_ite, State.kept_mk, State.kept_eta, ite_self, ↓State.kept_foldl, ↓State.each_kept, ↓State.bump_kept, ↓State.controlFrame_kept, ↓State.setLink_kept]

theorem State.delivAnswered_kept (s : State) (n : Nat) (port : Nat) (p : Packet) : (State.delivAnswered s n port p).kept = s.kept := by
  unfold State.delivAnswered
  simp only [↓State.kept_ite, State.kept_mk, State.kept_eta, ite_self, ↓State.kept_foldl, ↓State.each_kept]

theorem State.freeFlits_kept (s : State) (n : Nat) (input : Nat) (vn : Nat) (p : Packet) : (State.freeFlits s n input vn p).kept = s.kept := by
  unfold State.freeFlits
  simp only [↓State.kept_ite, State.kept_mk, State.kept_eta, ite_self, ↓State.kept_foldl, ↓State.each_kept, ↓State.setBuf_kept]

theorem State.enterPacket_kept (s : State) (n : Nat) (port : Nat) (vn : VNet) (p : Packet) : (State.enterPacket s n port vn p).kept = s.kept := by
  unfold State.enterPacket
  repeat' first
    | with_reducible rfl
    | with_reducible refine (State.each_kept _ _ _ (fun _ _ => ?_)).trans ?_
    | with_reducible refine (State.kept_foldl _ _ _ (fun _ _ => ?_)).trans ?_
    | with_reducible refine (State.kept_foldl_fst _ _ _ (fun _ _ => ?_)).trans ?_
    | simp only [↓State.kept_ite, State.kept_mk, State.kept_eta, ite_self, ↓State.kept_foldl, ↓State.each_kept, ↓State.delivAnswered_kept, ↓State.freeFlits_kept, ↓State.lateDrop_kept, ↓State.pushBuf_kept]
    | split

theorem State.ingress_kept (s : State) (n : Nat) (port : Nat) (p : Packet) : (State.ingress s n port p).kept = s.kept := by
  unfold State.ingress
  (repeat' split) <;> first | with_reducible rfl | (simp only [↓State.kept_ite, State.kept_mk, State.kept_eta, ite_self, ↓State.kept_foldl, ↓State.each_kept, ↓State.freeFlits_kept, ↓State.pushBuf_kept, ↓State.reply_kept]; done)

theorem State.enterRequest_kept (s : State) (n : Nat) (port : Nat) (p : Packet) : (State.enterRequest s n port p).kept = s.kept := by
  unfold State.enterRequest
  simp only [↓State.kept_ite, State.kept_mk, State.kept_eta, ite_self, ↓State.kept_foldl, ↓State.each_kept, ↓State.freeFlits_kept, ↓State.ingress_kept, ↓State.reply_kept]

theorem State.deliverRecord_kept (s : State) (g : Nat) (p : Packet) : (State.deliverRecord s g p).kept = s.kept := by
  unfold State.deliverRecord
  (repeat' split) <;> first | with_reducible rfl | (simp only [↓State.kept_ite, State.kept_mk, State.kept_eta, ite_self, ↓State.kept_foldl, ↓State.each_kept, ↓State.enterPacket_kept, ↓State.enterRequest_kept]; done)

theorem State.endStep_kept (s : State) (k : Nat) : (State.endStep s k).kept = s.kept := by
  unfold State.endStep
  simp only [↓State.kept_ite, State.kept_mk, State.kept_eta, ite_self, ↓State.kept_foldl, ↓State.each_kept, ↓State.itin_kept, ↓State.wr_kept]

theorem State.deskReady_kept (s : State) : (State.deskReady s).kept = s.kept := by
  unfold State.deskReady
  simp only [↓State.kept_ite, State.kept_mk, State.kept_eta, ite_self, ↓State.kept_foldl, ↓State.each_kept, ↓State.set1_kept, ↓State.setDesk_kept]

theorem State.stopStart_kept (s : State) (k : Nat) : (State.stopStart s k).kept = s.kept := by
  unfold State.stopStart
  simp only [↓State.kept_ite, State.kept_mk, State.kept_eta, ite_self, ↓State.kept_foldl, ↓State.each_kept, ↓State.deskReady_kept, ↓State.itin_kept, ↓State.log_kept, ↓State.wr_kept]

theorem State.govern_kept (s : State) : (State.govern s).kept = s.kept := by
  unfold State.govern
  simp only [↓State.kept_ite, State.kept_mk, State.kept_eta, ite_self, ↓State.kept_foldl, ↓State.each_kept, ↓State.wr_kept]

theorem State.judgeSensor_kept (s : State) (i : Nat) (r : Int) : (State.judgeSensor s i r).kept = s.kept := by
  unfold State.judgeSensor
  simp only [↓State.kept_ite, State.kept_mk, State.kept_eta, ite_self, ↓State.kept_foldl, ↓State.each_kept, ↓State.log_kept, ↓State.set1_kept, ↓State.setBit_kept]

theorem State.moveLid_kept (s : State) : (State.moveLid s).kept = s.kept := by
  unfold State.moveLid
  repeat' first
    | with_reducible rfl
    | with_reducible refine (State.each_kept _ _ _ (fun _ _ => ?_)).trans ?_
    | with_reducible refine (State.kept_foldl _ _ _ (fun _ _ => ?_)).trans ?_
    | with_reducible refine (State.kept_foldl_fst _ _ _ (fun _ _ => ?_)).trans ?_
    | simp only [↓State.kept_ite, State.kept_mk, State.kept_eta, ite_self, ↓State.kept_foldl, ↓State.each_kept, ↓State.setThermal_kept]
    | split

theorem State.readmitAll_kept (s : State) : (State.readmitAll s).kept = s.kept := by
  unfold State.readmitAll
  repeat' first
    | with_reducible rfl
    | with_reducible refine (State.each_kept _ _ _ (fun _ _ => ?_)).trans ?_
    | with_reducible refine (State.kept_foldl _ _ _ (fun _ _ => ?_)).trans ?_
    | with_reducible refine (State.kept_foldl_fst _ _ _ (fun _ _ => ?_)).trans ?_
    | simp only [↓State.kept_ite, State.kept_mk, State.kept_eta, ite_self, ↓State.kept_foldl, ↓State.each_kept, ↓State.clr_kept, ↓State.setThermal_kept, ↓State.wrb_kept]
    | split

theorem State.takeChannel_kept (s : State) (ch : Nat) (v : Nat) : (State.takeChannel s ch v).kept = s.kept := by
  unfold State.takeChannel
  simp only [↓State.kept_ite, State.kept_mk, State.kept_eta, ite_self, ↓State.kept_foldl, ↓State.each_kept, ↓State.set1_kept, ↓State.wr_kept]

theorem State.allSafe_kept (s : State) : (State.allSafe s).kept = s.kept := by
  unfold State.allSafe
  repeat' first
    | with_reducible rfl
    | with_reducible refine (State.each_kept _ _ _ (fun _ _ => ?_)).trans ?_
    | with_reducible refine (State.kept_foldl _ _ _ (fun _ _ => ?_)).trans ?_
    | with_reducible refine (State.kept_foldl_fst _ _ _ (fun _ _ => ?_)).trans ?_
    | simp only [↓State.kept_ite, State.kept_mk, State.kept_eta, ite_self, ↓State.kept_foldl, ↓State.each_kept, ↓State.setPad_kept]
    | split

theorem State.shutdown_kept (s : State) : (State.shutdown s).kept = s.kept := by
  unfold State.shutdown
  repeat' first
    | with_reducible rfl
    | with_reducible refine (State.each_kept _ _ _ (fun _ _ => ?_)).trans ?_
    | with_reducible refine (State.kept_foldl _ _ _ (fun _ _ => ?_)).trans ?_
    | with_reducible refine (State.kept_foldl_fst _ _ _ (fun _ _ => ?_)).trans ?_
    | simp only [↓State.kept_ite, State.kept_mk, State.kept_eta, ite_self, ↓State.kept_foldl, ↓State.each_kept, ↓State.allSafe_kept, ↓State.linkStops_kept, ↓State.logP_kept, ↓State.setThrottle_kept]
    | split

theorem State.throttle_kept (s : State) : (State.throttle s).kept = s.kept := by
  unfold State.throttle
  simp only [↓State.kept_ite, State.kept_mk, State.kept_eta, ite_self, ↓State.kept_foldl, ↓State.each_kept, ↓State.countDwell_kept, ↓State.setThermal_kept, ↓State.setThrottle_kept, ↓State.shutdown_kept]

theorem State.imgAnswer_kept (s : State) (x : ImgIn) (code : Resp) : (State.imgAnswer s x code).kept = s.kept := by
  unfold State.imgAnswer
  (repeat' split) <;> first | with_reducible rfl | (simp only [↓State.kept_ite, State.kept_mk, State.kept_eta, ite_self, ↓State.kept_foldl, ↓State.each_kept, ↓State.reply_kept]; done)

theorem State.setImg_kept (s : State) (x : Img) : (State.setImg s x).kept = s.kept := by
  unfold State.setImg
  simp only [↓State.kept_ite, State.kept_mk, State.kept_eta, ite_self, ↓State.kept_foldl, ↓State.each_kept]

theorem State.imgBegins_kept (s : State) (src : Nat) : (State.imgBegins s src).kept = s.kept := by
  unfold State.imgBegins
  simp only [↓State.kept_ite, State.kept_mk, State.kept_eta, ite_self, ↓State.kept_foldl, ↓State.each_kept, ↓State.itin_kept, ↓State.setImg_kept, ↓State.setIstate_kept, ↓State.setStart_kept, ↓State.wr_kept, ↓State.wr64_kept]

theorem State.imgReject_kept (s : State) (code : Nat) : (State.imgReject s code).kept = s.kept := by
  unfold State.imgReject
  simp only [↓State.kept_ite, State.kept_mk, State.kept_eta, ite_self, ↓State.kept_foldl, ↓State.each_kept, ↓State.imageOver_kept, ↓State.log_kept]

theorem State.countBytes_kept (s : State) (k : Nat) : (State.countBytes s k).kept = s.kept := by
  unfold State.countBytes
  simp only [↓State.kept_ite, State.kept_mk, State.kept_eta, ite_self, ↓State.kept_foldl, ↓State.each_kept, ↓State.setImg_kept, ↓State.wr64_kept]

theorem State.absorb_kept (s : State) (bs : List Byte) : (State.absorb s bs).kept = s.kept := by
  unfold State.absorb
  simp only [↓State.kept_ite, State.kept_mk, State.kept_eta, ite_self, ↓State.kept_foldl, ↓State.each_kept, ↓State.setImg_kept]

theorem State.sendBram_kept (s : State) (x : Staged) (k : Nat) : (State.sendBram s x k).kept = s.kept := by
  unfold State.sendBram
  simp only [↓State.kept_ite, State.kept_mk, State.kept_eta, ite_self, ↓State.kept_foldl, ↓State.each_kept, ↓State.sendReq_kept, ↓State.setImg_kept]

theorem State.deskImageDone_kept (s : State) : (State.deskImageDone s).kept = s.kept := by
  unfold State.deskImageDone
  simp only [↓State.kept_ite, State.kept_mk, State.kept_eta, ite_self, ↓State.kept_foldl, ↓State.each_kept, ↓State.deskEnd_kept]

theorem State.imgDone_kept (s : State) : (State.imgDone s).kept = s.kept := by
  unfold State.imgDone
  simp only [↓State.kept_ite, State.kept_mk, State.kept_eta, ite_self, ↓State.kept_foldl, ↓State.each_kept, ↓State.deskImageDone_kept, ↓State.setImg_kept, ↓State.setIstate_kept]

theorem State.stepSixEnds_kept (s : State) : (State.stepSixEnds s).kept = s.kept := by
  unfold State.stepSixEnds
  (repeat' split) <;> first | with_reducible rfl | (simp only [↓State.kept_ite, State.kept_mk, State.kept_eta, ite_self, ↓State.kept_foldl, ↓State.each_kept, ↓State.clr_kept, ↓State.itin_kept, ↓State.set1_kept, ↓State.wr_kept]; done)

theorem State.commitEnds_kept (s : State) : (State.commitEnds s).kept = s.kept := by
  unfold State.commitEnds
  simp only [↓State.kept_ite, State.kept_mk, State.kept_eta, ite_self, ↓State.kept_foldl, ↓State.each_kept, ↓State.imgDone_kept, ↓State.setImg_kept, ↓State.setIstate_kept, ↓State.setStart_kept, ↓State.stepSixEnds_kept]

theorem State.raiseFloor_kept (s : State) : (State.raiseFloor s).kept = s.kept := by
  unfold State.raiseFloor
  simp only [↓State.kept_ite, State.kept_mk, State.kept_eta, ite_self, ↓State.kept_foldl, ↓State.each_kept, ↓State.jnlAsk_kept]

theorem State.upRegion_kept (s : State) (n : Nat) : (State.upRegion s n).kept = s.kept := by
  unfold State.upRegion
  simp only [↓State.kept_ite, State.kept_mk, State.kept_eta, ite_self, ↓State.kept_foldl, ↓State.each_kept, ↓State.requestOn_kept]

theorem State.commitPowers_kept (s : State) : (State.commitPowers s).kept = s.kept := by
  unfold State.commitPowers
  repeat' first
    | with_reducible rfl
    | with_reducible refine (State.each_kept _ _ _ (fun _ _ => ?_)).trans ?_
    | with_reducible refine (State.kept_foldl _ _ _ (fun _ _ => ?_)).trans ?_
    | with_reducible refine (State.kept_foldl_fst _ _ _ (fun _ _ => ?_)).trans ?_
    | simp only [↓State.kept_ite, State.kept_mk, State.kept_eta, ite_self, ↓State.kept_foldl, ↓State.each_kept, ↓State.log_kept, ↓State.set1_kept, ↓State.setImg_kept, ↓State.upRegion_kept]
    | split

theorem State.startFails_kept (s : State) (what : Nat) : (State.startFails s what).kept = s.kept := by
  unfold State.startFails
  simp only [↓State.kept_ite, State.kept_mk, State.kept_eta, ite_self, ↓State.kept_foldl, ↓State.each_kept, ↓State.imageOver_kept, ↓State.log_kept, ↓State.wr_kept]

theorem State.releaseOutputs_kept (s : State) : (State.releaseOutputs s).kept = s.kept := by
  unfold State.releaseOutputs
  simp only [↓State.kept_ite, State.kept_mk, State.kept_eta, ite_self, ↓State.kept_foldl, ↓State.each_kept, ↓State.itin_kept, ↓State.linksSettle_kept, ↓State.setStart_kept, ↓State.wr_kept]

theorem State.startRuns_kept (s : State) : (State.startRuns s).kept = s.kept := by
  unfold State.startRuns
  repeat' first
    | with_reducible rfl
    | with_reducible refine (State.each_kept _ _ _ (fun _ _ => ?_)).trans ?_
    | with_reducible refine (State.kept_foldl _ _ _ (fun _ _ => ?_)).trans ?_
    | with_reducible refine (State.kept_foldl_fst _ _ _ (fun _ _ => ?_)).trans ?_
    | simp only [↓State.kept_ite, State.kept_mk, State.kept_eta, ite_self, ↓State.kept_foldl, ↓State.each_kept, ↓State.imgDone_kept, ↓State.releaseOutputs_kept, ↓State.set1_kept, ↓State.startFails_kept, ↓State.threadStart_kept, ↓State.writeTickEn_kept]
    | split

theorem State.startAfterSwaps_kept (s : State) : (State.startAfterSwaps s).kept = s.kept := by
  unfold State.startAfterSwaps
  repeat' first
    | with_reducible rfl
    | with_reducible refine (State.each_kept _ _ _ (fun _ _ => ?_)).trans ?_
    | with_reducible refine (State.kept_foldl _ _ _ (fun _ _ => ?_)).trans ?_
    | with_reducible refine (State.kept_foldl_fst _ _ _ (fun _ _ => ?_)).trans ?_
    | simp only [↓State.kept_ite, State.kept_mk, State.kept_eta, ite_self, ↓State.kept_foldl, ↓State.each_kept, ↓State.startFails_kept, ↓State.startRuns_kept]
    | split

theorem State.startFills_kept (s : State) : (State.startFills s).kept = s.kept := by
  unfold State.startFills
  repeat' first
    | with_reducible rfl
    | with_reducible refine (State.each_kept _ _ _ (fun _ _ => ?_)).trans ?_
    | with_reducible refine (State.kept_foldl _ _ _ (fun _ _ => ?_)).trans ?_
    | with_reducible refine (State.kept_foldl_fst _ _ _ (fun _ _ => ?_)).trans ?_
    | simp only [↓State.kept_ite, State.kept_mk, State.kept_eta, ite_self, ↓State.kept_foldl, ↓State.each_kept, ↓State.acceptFill_kept, ↓State.setImg_kept, ↓State.startFails_kept]
    | split

theorem State.startSwaps_kept (s : State) : (State.startSwaps s).kept = s.kept := by
  unfold State.startSwaps
  repeat' first
    | with_reducible rfl
    | with_reducible refine (State.each_kept _ _ _ (fun _ _ => ?_)).trans ?_
    | with_reducible refine (State.kept_foldl _ _ _ (fun _ _ => ?_)).trans ?_
    | with_reducible refine (State.kept_foldl_fst _ _ _ (fun _ _ => ?_)).trans ?_
    | simp only [↓State.kept_ite, State.kept_mk, State.kept_eta, ite_self, ↓State.kept_foldl, ↓State.each_kept, ↓State.arm_kept, ↓State.itin_kept, ↓State.setImg_kept, ↓State.startFails_kept, ↓State.wr_kept]
    | split

theorem State.chFail_kept (s : State) (c : Nat) (step : Nat) : (State.chFail s c step).kept = s.kept := by
  unfold State.chFail
  simp only [↓State.kept_ite, State.kept_mk, State.kept_eta, ite_self, ↓State.kept_foldl, ↓State.each_kept, ↓State.log_kept, ↓State.setChState_kept, ↓State.wr_kept]

theorem State.voidChannel_kept (s : State) (c : Nat) : (State.voidChannel s c).kept = s.kept := by
  unfold State.voidChannel
  simp only [↓State.kept_ite, State.kept_mk, State.kept_eta, ite_self, ↓State.kept_foldl, ↓State.each_kept]

theorem State.engineAnswer_kept (s : State) (node : Nat) (tag : Nat) (a : Answer) : (State.engineAnswer s node tag a).kept = s.kept := by
  unfold State.engineAnswer
  repeat' first
    | with_reducible rfl
    | with_reducible refine (State.each_kept _ _ _ (fun _ _ => ?_)).trans ?_
    | with_reducible refine (State.kept_foldl _ _ _ (fun _ _ => ?_)).trans ?_
    | with_reducible refine (State.kept_foldl_fst _ _ _ (fun _ _ => ?_)).trans ?_
    | exact State.takeAnswer_kept _ _ _ _ _ ‹_›
    | exact (State.takeAnswer_kept _ _ _ _ _ ‹_›).trans (by simp only [↓State.kept_ite, State.kept_mk, State.kept_eta, ite_self, ↓State.kept_foldl, ↓State.each_kept, ↓State.mirrorIssue_kept, ↓State.mirrorSkip_kept, ↓State.setTwin_kept, ↓State.snapIssue_kept])
    | simp only [↓State.kept_ite, State.kept_mk, State.kept_eta, ite_self, ↓State.kept_foldl, ↓State.each_kept, ↓State.mirrorIssue_kept, ↓State.mirrorSkip_kept, ↓State.setTwin_kept, ↓State.snapIssue_kept]
    | split

theorem State.consumeEngine_kept (s : State) (node : Nat) (tag : Nat) (a : Answer) : (State.consumeEngine s node tag a).kept = s.kept := by
  unfold State.consumeEngine
  simp only [↓State.kept_ite, State.kept_mk, State.kept_eta, ite_self, ↓State.kept_foldl, ↓State.each_kept, ↓State.bramAnswer_kept, ↓State.engineAnswer_kept]

theorem State.initiatorTimesOut_kept (s : State) (node : Nat) (tag : Nat) : (State.initiatorTimesOut s node tag).kept = s.kept := by
  unfold State.initiatorTimesOut
  simp only [↓State.kept_ite, State.kept_mk, State.kept_eta, ite_self, ↓State.kept_foldl, ↓State.each_kept]

theorem State.becomePrimary_kept (s : State) : (State.becomePrimary s).kept = s.kept := by
  unfold State.becomePrimary
  simp only [↓State.kept_ite, State.kept_mk, State.kept_eta, ite_self, ↓State.kept_foldl, ↓State.each_kept, ↓State.set1_kept, ↓State.setPstate_kept, ↓State.setTwin_kept]

theorem State.becomeStandby_kept (s : State) (count : Nat) : (State.becomeStandby s count).kept = s.kept := by
  unfold State.becomeStandby
  simp only [↓State.kept_ite, State.kept_mk, State.kept_eta, ite_self, ↓State.kept_foldl, ↓State.each_kept, ↓State.clr_kept, ↓State.setPstate_kept, ↓State.setTwin_kept]

theorem State.joined_kept (s : State) (pairId : Nat) (theirs : Nat) (count : Nat) : (State.joined s pairId theirs count).kept = s.kept := by
  unfold State.joined
  simp only [↓State.kept_ite, State.kept_mk, State.kept_eta, ite_self, ↓State.kept_foldl, ↓State.each_kept, ↓State.becomePrimary_kept, ↓State.becomeStandby_kept, ↓State.log_kept, ↓State.sendJoin_kept, ↓State.setTwin_kept]

theorem State.countStart_kept (s : State) : (State.countStart s).kept = s.kept := by
  unfold State.countStart
  simp only [↓State.kept_ite, State.kept_mk, State.kept_eta, ite_self, ↓State.kept_foldl, ↓State.each_kept, ↓State.jnlAsk_kept, ↓State.wr_kept]

theorem State.logLoss_kept (s : State) : (State.logLoss s).kept = s.kept := by
  unfold State.logLoss
  simp only [↓State.kept_ite, State.kept_mk, State.kept_eta, ite_self, ↓State.kept_foldl, ↓State.each_kept, ↓State.bump_kept, ↓State.bumpN_kept, ↓State.setStart_kept]

theorem State.loadFlags_kept (s : State) : (State.loadFlags s).kept = s.kept := by
  unfold State.loadFlags
  repeat' first
    | with_reducible rfl
    | with_reducible refine (State.each_kept _ _ _ (fun _ _ => ?_)).trans ?_
    | with_reducible refine (State.kept_foldl _ _ _ (fun _ _ => ?_)).trans ?_
    | with_reducible refine (State.kept_foldl_fst _ _ _ (fun _ _ => ?_)).trans ?_
    | simp only [↓State.kept_ite, State.kept_mk, State.kept_eta, ite_self, ↓State.kept_foldl, ↓State.each_kept, ↓State.setStart_kept, ↓State.wrb_kept]
    | split

theorem State.setSlotState_kept (s : State) (k : Nat) (x : Nat) : (State.setSlotState s k x).kept = s.kept := by
  unfold State.setSlotState
  simp only [↓State.kept_ite, State.kept_mk, State.kept_eta, ite_self, ↓State.kept_foldl, ↓State.each_kept, ↓State.wr_kept]

theorem State.loadSlots_kept (s : State) : (State.loadSlots s).kept = s.kept := by
  unfold State.loadSlots
  repeat' first
    | with_reducible rfl
    | with_reducible refine (State.each_kept _ _ _ (fun _ _ => ?_)).trans ?_
    | with_reducible refine (State.kept_foldl _ _ _ (fun _ _ => ?_)).trans ?_
    | with_reducible refine (State.kept_foldl_fst _ _ _ (fun _ _ => ?_)).trans ?_
    | simp only [↓State.kept_ite, State.kept_mk, State.kept_eta, ite_self, ↓State.kept_foldl, ↓State.each_kept, ↓State.setSec_kept, ↓State.setSlotState_kept]
    | split

theorem State.loseFrozen_kept (s : State) : (State.loseFrozen s).kept = s.kept := by
  unfold State.loseFrozen
  simp only [↓State.kept_ite, State.kept_mk, State.kept_eta, ite_self, ↓State.kept_foldl, ↓State.each_kept, ↓State.bumpN_kept]

theorem State.readItinerary_kept (s : State) (num : Nat) : (State.readItinerary s num).kept = s.kept := by
  unfold State.readItinerary
  simp only [↓State.kept_ite, State.kept_mk, State.kept_eta, ite_self, ↓State.kept_foldl, ↓State.each_kept]

theorem State.readJournal_kept (s : State) : (State.readJournal s).kept = s.kept := by
  unfold State.readJournal
  repeat' first
    | with_reducible rfl
    | with_reducible refine (State.each_kept _ _ _ (fun _ _ => ?_)).trans ?_
    | with_reducible refine (State.kept_foldl _ _ _ (fun _ _ => ?_)).trans ?_
    | with_reducible refine (State.kept_foldl_fst _ _ _ (fun _ _ => ?_)).trans ?_
    | simp only [↓State.kept_ite, State.kept_mk, State.kept_eta, ite_self, ↓State.kept_foldl, ↓State.each_kept, ↓State.bumpN_kept, ↓State.clr_kept, ↓State.freezeKept_kept, ↓State.loadFlags_kept, ↓State.loadSlots_kept, ↓State.loseFrozen_kept, ↓State.readItinerary_kept, ↓State.refuseWrites_kept, ↓State.set1_kept, ↓State.setStart_kept, ↓State.showSectors_kept, ↓State.wr_kept]
    | split

theorem State.jnlWrite_kept (s : State) (b : JBody) : (State.jnlWrite s b).kept = s.kept := by
  unfold State.jnlWrite
  dsimp only
  split
  · exact State.putAt_kept ..
  · exact (State.kept_mk ..).trans ((State.kept_eta _).trans (State.putAt_kept ..))

theorem State.trimRing_kept (s : State) : (State.trimRing s).kept = s.kept := by
  unfold State.trimRing
  simp only [↓State.kept_ite, State.kept_mk, State.kept_eta, ite_self, ↓State.kept_foldl, ↓State.each_kept]

theorem State.countMapout_kept (s : State) (w : JWrite) : (State.countMapout s w).kept = s.kept := by
  unfold State.countMapout
  (repeat' split) <;> first | with_reducible rfl | (simp only [↓State.kept_ite, State.kept_mk, State.kept_eta, ite_self, ↓State.kept_foldl, ↓State.each_kept]; done)

theorem State.deskWritten_kept (s : State) (b : JBody) : (State.deskWritten s b).kept = s.kept := by
  unfold State.deskWritten
  (repeat' split) <;> first | with_reducible rfl | (simp only [↓State.kept_ite, State.kept_mk, State.kept_eta, ite_self, ↓State.kept_foldl, ↓State.each_kept, ↓State.deskEnd_kept, ↓State.setDesk_kept]; done)

theorem State.recordShown_kept (s : State) (x1 : JBody) : (State.recordShown s x1).kept = s.kept := by
  unfold State.recordShown
  (repeat' split) <;> first | with_reducible rfl | (simp only [↓State.kept_ite, State.kept_mk, State.kept_eta, ite_self, ↓State.kept_foldl, ↓State.each_kept, ↓State.wr_kept, ↓State.wrb_kept]; done)

theorem State.changeSlot_kept (s : State) (k : Nat) (st : Nat) (blob : Nat) : (State.changeSlot s k st blob).kept = s.kept := by
  unfold State.changeSlot
  simp only [↓State.kept_ite, State.kept_mk, State.kept_eta, ite_self, ↓State.kept_foldl, ↓State.each_kept, ↓State.jnlAsk_kept, ↓State.log_kept, ↓State.setSec_kept, ↓State.setSlotState_kept]

theorem State.mkeyEnd_kept (s : State) : (State.mkeyEnd s).kept = s.kept := by
  unfold State.mkeyEnd
  simp only [↓State.kept_ite, State.kept_mk, State.kept_eta, ite_self, ↓State.kept_foldl, ↓State.each_kept, ↓State.clr_kept, ↓State.set1_kept]

theorem State.setSlice_kept (s : State) (k : Nat) (x : Slice) : (State.setSlice s k x).kept = s.kept := by
  unfold State.setSlice
  simp only [↓State.kept_ite, State.kept_mk, State.kept_eta, ite_self, ↓State.kept_foldl, ↓State.each_kept]

theorem State.afterFill_kept (s : State) (k : Nat) (f : State → Request → Option State) (rs : List Request)
    (hf : ∀ (a : State) (rq : Request) (u : State), f a rq = some u → u.kept = a.kept) : (s.afterFill k f rs).kept = s.kept := by
  induction rs generalizing s with
  | nil => rfl
  | cons rq rest ih =>
    unfold State.afterFill
    split
    · exact (ih _).trans (hf _ _ _ ‹_›)
    · exact State.setSlice_kept ..

theorem State.startPeek_kept (s : State) (k : Nat) (l : Nat) (rq : Request) (u : State) (h : State.startPeek s k l rq = some u) : u.kept = s.kept := by
  unfold State.startPeek at h
  (repeat' first | split at h | dsimp only at h) <;> first
    | (cases h; done)
    | (cases h; with_reducible rfl)
    | (cases h; simp only [↓State.kept_ite, State.kept_mk, State.kept_eta, ite_self, ↓State.kept_foldl, ↓State.each_kept, ↓State.setSlice_kept]; done)

theorem State.touch_kept (s : State) (k : Nat) (l : Nat) (way : Nat) : (State.touch s k l way).kept = s.kept := by
  unfold State.touch
  simp only [↓State.kept_ite, State.kept_mk, State.kept_eta, ite_self, ↓State.kept_foldl, ↓State.each_kept]

theorem State.endOp_kept (s : State) : (State.endOp s).kept = s.kept := by
  unfold State.endOp
  simp only [↓State.kept_ite, State.kept_mk, State.kept_eta, ite_self, ↓State.kept_foldl, ↓State.each_kept, ↓State.clr_kept, ↓State.set1_kept]

theorem State.setFirstWb_kept (s : State) (l : Nat) (x : Option Wb) : (State.setFirstWb s l x).kept = s.kept := by
  unfold State.setFirstWb
  simp only [↓State.kept_ite, State.kept_mk, State.kept_eta, ite_self, ↓State.kept_foldl, ↓State.each_kept]

theorem State.wbLost_kept (s : State) (w : Wb) : (State.wbLost s w).kept = s.kept := by
  unfold State.wbLost
  repeat' first
    | with_reducible rfl
    | with_reducible refine (State.each_kept _ _ _ (fun _ _ => ?_)).trans ?_
    | with_reducible refine (State.kept_foldl _ _ _ (fun _ _ => ?_)).trans ?_
    | with_reducible refine (State.kept_foldl_fst _ _ _ (fun _ _ => ?_)).trans ?_
    | simp only [↓State.kept_ite, State.kept_mk, State.kept_eta, ite_self, ↓State.kept_foldl, ↓State.each_kept, ↓State.logP_kept, ↓State.set1_kept, ↓State.setFirstWb_kept, ↓State.setLine_kept, ↓State.wr64_kept]
    | split

theorem State.logicFrom_kept (s : State) (x : State) (layer : Nat) : (State.logicFrom s x layer).kept = s.kept := by
  unfold State.logicFrom
  simp only [↓State.kept_ite, State.kept_mk, State.kept_eta, ite_self, ↓State.kept_foldl, ↓State.each_kept]

theorem State.scramble_kept (s : State) (layer : Nat) : (State.scramble s layer).kept = s.kept := by
  unfold State.scramble
  repeat' first
    | with_reducible rfl
    | with_reducible refine (State.each_kept _ _ _ (fun _ _ => ?_)).trans ?_
    | with_reducible refine (State.kept_foldl _ _ _ (fun _ _ => ?_)).trans ?_
    | with_reducible refine (State.kept_foldl_fst _ _ _ (fun _ _ => ?_)).trans ?_
    | simp only [↓State.kept_ite, State.kept_mk, State.kept_eta, ite_self, ↓State.kept_foldl, ↓State.each_kept, ↓State.drawn_kept, ↓State.logicFrom_kept, ↓State.wr_kept]
    | split

theorem State.testWrite_kept (s : State) (ini : Ini) (barred : Bool) (off : Nat) (f : State → State) (hf : ∀ (a0 : State), (f a0).kept = a0.kept) : (State.testWrite s ini barred off f).kept = s.kept := by
  unfold State.testWrite
  repeat' first
    | with_reducible rfl
    | with_reducible refine (State.each_kept _ _ _ (fun _ _ => ?_)).trans ?_
    | with_reducible refine (State.kept_foldl _ _ _ (fun _ _ => ?_)).trans ?_
    | with_reducible refine (State.kept_foldl_fst _ _ _ (fun _ _ => ?_)).trans ?_
    | with_reducible refine (State.written_kept _ _ _ _ (fun _ => ?_)).trans ?_
    | simp only [↓State.kept_ite, State.kept_mk, State.kept_eta, ite_self, ↓State.kept_foldl, ↓State.each_kept, ↓State.deniedWrite_kept, ↓State.written_kept, hf]
    | split

theorem State.loadAhead_kept (s : State) (t : Nat) (k : Nat) (tol : Bool) : (State.loadAhead s t k tol).kept = s.kept := by
  unfold State.loadAhead
  (repeat' split) <;> first | with_reducible rfl | (simp only [↓State.kept_ite, State.kept_mk, State.kept_eta, ite_self, ↓State.kept_foldl, ↓State.each_kept, ↓State.issueBelow_kept, ↓State.sendReq_kept, ↓State.setThread_kept]; done)

theorem State.loadOldest_kept (s : State) (t : Nat) (tol : Bool) : (State.loadOldest s t tol).kept = s.kept := by
  unfold State.loadOldest
  repeat' first
    | with_reducible rfl
    | with_reducible refine (State.each_kept _ _ _ (fun _ _ => ?_)).trans ?_
    | with_reducible refine (State.kept_foldl _ _ _ (fun _ _ => ?_)).trans ?_
    | with_reducible refine (State.kept_foldl_fst _ _ _ (fun _ _ => ?_)).trans ?_
    | with_reducible refine (State.consuming_kept _ _ _ _ (fun _ => ?_)).trans ?_
    | with_reducible refine (State.oldest_kept _ _ _ _ (fun _ _ => ?_)).trans ?_
    | simp only [↓State.kept_ite, State.kept_mk, State.kept_eta, ite_self, ↓State.kept_foldl, ↓State.each_kept, ↓State.consuming_kept, ↓State.loadDone_kept, ↓State.lockFault_kept, ↓State.oldest_kept, ↓State.sendOldest_kept]
    | split

theorem State.markSpare_kept (s : State) (kind : Nat) (unit : Nat) (b : Bool × Nat × Nat) : (State.markSpare s kind unit b).kept = s.kept := by
  unfold State.markSpare
  simp only [↓State.kept_ite, State.kept_mk, State.kept_eta, ite_self, ↓State.kept_foldl, ↓State.each_kept, ↓State.setSpareSet_kept]

theorem State.steer_kept (s : State) (kind : Nat) (unit : Nat) (x : Nat × Alloc) : (State.steer s kind unit x).kept = s.kept := by
  unfold State.steer
  simp only [↓State.kept_ite, State.kept_mk, State.kept_eta, ite_self, ↓State.kept_foldl, ↓State.each_kept, ↓State.setSpareSet_kept]

theorem State.latestFromStream_kept (s : State) (b : Nat) (i : Nat) : (State.latestFromStream s b i).kept = s.kept := by
  unfold State.latestFromStream
  simp only [↓State.kept_ite, State.kept_mk, State.kept_eta, ite_self, ↓State.kept_foldl, ↓State.each_kept, ↓State.setTwin_kept, ↓State.wrb_kept]

theorem State.commitItem_kept (s : State) (e : TwinItem) : (State.commitItem s e).kept = s.kept := by
  unfold State.commitItem
  repeat' first
    | with_reducible rfl
    | with_reducible refine (State.each_kept _ _ _ (fun _ _ => ?_)).trans ?_
    | with_reducible refine (State.kept_foldl _ _ _ (fun _ _ => ?_)).trans ?_
    | with_reducible refine (State.kept_foldl_fst _ _ _ (fun _ _ => ?_)).trans ?_
    | simp only [↓State.kept_ite, State.kept_mk, State.kept_eta, ite_self, ↓State.kept_foldl, ↓State.each_kept, ↓State.latestFromStream_kept, ↓State.setTwin_kept]
    | split

theorem State.commitMirror_kept (s : State) (tick : Nat) (len : Nat) : (State.commitMirror s tick len).kept = s.kept := by
  unfold State.commitMirror
  repeat' first
    | with_reducible rfl
    | with_reducible refine (State.each_kept _ _ _ (fun _ _ => ?_)).trans ?_
    | with_reducible refine (State.kept_foldl _ _ _ (fun _ _ => ?_)).trans ?_
    | with_reducible refine (State.kept_foldl_fst _ _ _ (fun _ _ => ?_)).trans ?_
    | simp only [↓State.kept_ite, State.kept_mk, State.kept_eta, ite_self, ↓State.kept_foldl, ↓State.each_kept, ↓State.commitItem_kept, ↓State.setPstate_kept, ↓State.setTwin_kept, ↓State.wr64_kept]
    | split

theorem State.popBuf_kept (s : State) (n : Nat) (input : Nat) (vn : Nat) : (State.popBuf s n input vn).kept = s.kept := by
  unfold State.popBuf
  repeat' first
    | with_reducible rfl
    | with_reducible refine (State.each_kept _ _ _ (fun _ _ => ?_)).trans ?_
    | with_reducible refine (State.kept_foldl _ _ _ (fun _ _ => ?_)).trans ?_
    | with_reducible refine (State.kept_foldl_fst _ _ _ (fun _ _ => ?_)).trans ?_
    | simp only [↓State.kept_ite, State.kept_mk, State.kept_eta, ite_self, ↓State.kept_foldl, ↓State.each_kept, ↓State.setBuf_kept]
    | split

theorem State.headerError_kept (s : State) (n : Nat) (input : Nat) (vn : Nat) : (State.headerError s n input vn).kept = s.kept := by
  unfold State.headerError
  simp only [↓State.kept_ite, State.kept_mk, State.kept_eta, ite_self, ↓State.kept_foldl, ↓State.each_kept, ↓State.lateDrop_kept, ↓State.log_kept, ↓State.popBuf_kept]

theorem State.linkSend_kept (s : State) (g : Nat) (vn : VNet) (p : Packet) (u : State) (h : State.linkSend s g vn p = some u) : u.kept = s.kept := by
  unfold State.linkSend at h
  (repeat' first | split at h | dsimp only at h) <;> first
    | (cases h; done)
    | (cases h; with_reducible rfl)
    | (cases h; simp only [↓State.kept_ite, State.kept_mk, State.kept_eta, ite_self, ↓State.kept_foldl, ↓State.each_kept, ↓State.beginFrame_kept, ↓State.setLink_kept]; done)

theorem State.linkRequest_kept (s : State) (g : Nat) (p : Packet) (u : State) (h : s.linkRequest g p = some u) : u.kept = s.kept := by
  unfold State.linkRequest at h
  (repeat' first | split at h | dsimp only at h)
  · cases h; exact State.replyFrom_kept ..
  · cases h; exact State.replyFrom_kept ..
  · cases h
  · simp only [Option.map_eq_some_iff] at h
    obtain ⟨x, hx, rfl⟩ := h
    exact (State.kept_mk ..).trans ((State.kept_eta _).trans (State.linkSend_kept _ _ _ _ _ hx))

theorem State.payCredits_kept (s : State) (n : Nat) (input : Nat) : (State.payCredits s n input).kept = s.kept := by
  unfold State.payCredits
  repeat' first
    | with_reducible rfl
    | with_reducible refine (State.each_kept _ _ _ (fun _ _ => ?_)).trans ?_
    | with_reducible refine (State.kept_foldl _ _ _ (fun _ _ => ?_)).trans ?_
    | with_reducible refine (State.kept_foldl_fst _ _ _ (fun _ _ => ?_)).trans ?_
    | simp only [↓State.kept_ite, State.kept_mk, State.kept_eta, ite_self, ↓State.kept_foldl, ↓State.each_kept, ↓State.setBuf_kept]
    | split

theorem State.deliverReq_kept (s : State) (n port : Nat) (p : Packet) (u : State) (h : s.deliverReq n port p = some u) : u.kept = s.kept := by
  unfold State.deliverReq at h
  dsimp only at h
  split at h
  · cases h; exact State.replyFrom_kept ..
  split at h
  · exact State.linkRequest_kept _ _ _ _ h
  split at h
  · cases h; exact State.reply_kept ..
  split at h
  · cases h; exact State.reply_kept ..
  split at h
  · cases h
  · have e : _ = some (_, false) := ‹_›
    split at e
    · have e := State.meetDomain_kept _ _ _ _ _ _ e
      cases h; exact e
    · cases e
  · have e : _ = some (_, true) := ‹_›
    split at h
    · cases h
    rw [← Option.some.inj h]
    refine (State.payCredits_kept ..).trans ((State.emit_kept ..).trans ((State.kept_mk ..).trans ((State.kept_eta _).trans ?_)))
    split at e
    · exact State.meetDomain_kept _ _ _ _ _ _ e
    · cases e; rfl

theorem State.linkOther_kept (s : State) (g : Nat) (vn : VNet) (p : Packet) (u : State) (h : State.linkOther s g vn p = some u) : u.kept = s.kept := by
  unfold State.linkOther at h
  (repeat' first | split at h | dsimp only at h) <;> first
    | (cases h; done)
    | (cases h; with_reducible rfl)
    | (cases h; simp only [↓State.kept_ite, State.kept_mk, State.kept_eta, ite_self, ↓State.kept_foldl, ↓State.each_kept, ↓State.lateDrop_kept]; done)
      | exact State.linkSend_kept _ _ _ _ _ ‹_›
      | exact (State.linkSend_kept _ _ _ _ _ ‹_›).trans (by simp only [↓State.kept_ite, State.kept_mk, State.kept_eta, ite_self, ↓State.kept_foldl, ↓State.each_kept, ↓State.lateDrop_kept])

theorem State.undeliverable_kept (s : State) (n : Nat) (vn : VNet) (p : Packet) : (State.undeliverable s n vn p).kept = s.kept := by
  unfold State.undeliverable
  (repeat' split) <;> first | with_reducible rfl | (simp only [↓State.kept_ite, State.kept_mk, State.kept_eta, ite_self, ↓State.kept_foldl, ↓State.each_kept, ↓State.lateDrop_kept, ↓State.reply_kept]; done)

theorem State.unmark_kept (s : State) (n : Nat) (input : Nat) (vn : Nat) (p : Packet) : (State.unmark s n input vn p).kept = s.kept := by
  unfold State.unmark
  (repeat' split) <;> first | with_reducible rfl | (simp only [↓State.kept_ite, State.kept_mk, State.kept_eta, ite_self, ↓State.kept_foldl, ↓State.each_kept]; done)

theorem State.sendOn_kept (s : State) (n : Nat) (code : Nat) (vn : VNet) (f : Flight) (u : State) (h : State.sendOn s n code vn f = some u) : u.kept = s.kept := by
  unfold State.sendOn at h
  (repeat' first | split at h | dsimp only at h) <;> first
    | (cases h; done)
    | (cases h; with_reducible rfl)
    | (cases h; simp only [↓State.kept_ite, State.kept_mk, State.kept_eta, ite_self, ↓State.kept_foldl, ↓State.each_kept, ↓State.emit_kept, ↓State.payCredits_kept, ↓State.pushBuf_kept, ↓State.undeliverable_kept, ↓State.unmark_kept]; done)

theorem State.routePacket_kept (s : State) (n : Nat) (vn : VNet) (f : Flight) (u : State) (h : State.routePacket s n vn f = some u) : u.kept = s.kept := by
  unfold State.routePacket at h
  (repeat' first | split at h | dsimp only at h) <;> first
    | (cases h; done)
    | (cases h; with_reducible rfl)
    | (cases h; simp only [↓State.kept_ite, State.kept_mk, State.kept_eta, ite_self, ↓State.kept_foldl, ↓State.each_kept, ↓State.emit_kept, ↓State.lateDrop_kept, ↓State.payCredits_kept, ↓State.undeliverable_kept]; done)
      | exact State.deliverReq_kept _ _ _ _ _ ‹_›
      | exact (State.deliverReq_kept _ _ _ _ _ ‹_›).trans (by simp only [↓State.kept_ite, State.kept_mk, State.kept_eta, ite_self, ↓State.kept_foldl, ↓State.each_kept, ↓State.emit_kept, ↓State.lateDrop_kept, ↓State.payCredits_kept, ↓State.undeliverable_kept])
      | exact State.linkOther_kept _ _ _ _ _ ‹_›
      | exact (State.linkOther_kept _ _ _ _ _ ‹_›).trans (by simp only [↓State.kept_ite, State.kept_mk, State.kept_eta, ite_self, ↓State.kept_foldl, ↓State.each_kept, ↓State.emit_kept, ↓State.lateDrop_kept, ↓State.payCredits_kept, ↓State.undeliverable_kept])
      | exact State.sendOn_kept _ _ _ _ _ _ ‹_›
      | exact (State.sendOn_kept _ _ _ _ _ _ ‹_›).trans (by simp only [↓State.kept_ite, State.kept_mk, State.kept_eta, ite_self, ↓State.kept_foldl, ↓State.each_kept, ↓State.emit_kept, ↓State.lateDrop_kept, ↓State.payCredits_kept, ↓State.undeliverable_kept])

theorem State.hopOldest_kept (s : State) (n : Nat) (input : Nat) (vn : VNet) : (State.hopOldest s n input vn).kept = s.kept := by
  unfold State.hopOldest
  repeat' first
    | with_reducible rfl
    | with_reducible refine (State.each_kept _ _ _ (fun _ _ => ?_)).trans ?_
    | with_reducible refine (State.kept_foldl _ _ _ (fun _ _ => ?_)).trans ?_
    | with_reducible refine (State.kept_foldl_fst _ _ _ (fun _ _ => ?_)).trans ?_
    | exact State.routePacket_kept _ _ _ _ _ ‹_›
    | exact (State.routePacket_kept _ _ _ _ _ ‹_›).trans (by simp only [↓State.kept_ite, State.kept_mk, State.kept_eta, ite_self, ↓State.kept_foldl, ↓State.each_kept, ↓State.epochReport_kept, ↓State.popBuf_kept, ↓State.resetsOut_kept])
    | simp only [↓State.kept_ite, State.kept_mk, State.kept_eta, ite_self, ↓State.kept_foldl, ↓State.each_kept, ↓State.epochReport_kept, ↓State.popBuf_kept, ↓State.resetsOut_kept]
    | split

theorem State.parityError_kept (s : State) (k : Nat) (word : Nat) : (State.parityError s k word).kept = s.kept := by
  unfold State.parityError
  repeat' first
    | with_reducible rfl
    | with_reducible refine (State.each_kept _ _ _ (fun _ _ => ?_)).trans ?_
    | with_reducible refine (State.kept_foldl _ _ _ (fun _ _ => ?_)).trans ?_
    | with_reducible refine (State.kept_foldl_fst _ _ _ (fun _ _ => ?_)).trans ?_
    | simp only [↓State.kept_ite, State.kept_mk, State.kept_eta, ite_self, ↓State.kept_foldl, ↓State.each_kept, ↓State.setBuf_kept]
    | split

theorem State.transit_kept (s : State) (n : Nat) (input : Nat) (vn : Nat) : (State.transit s n input vn).kept = s.kept := by
  unfold State.transit
  (repeat' split) <;> first | with_reducible rfl | (simp only [↓State.kept_ite, State.kept_mk, State.kept_eta, ite_self, ↓State.kept_foldl, ↓State.each_kept, ↓State.payCredits_kept, ↓State.popBuf_kept, ↓State.pushBuf_kept]; done)

theorem State.readCopy_kept (s : State) (active : Bool) (n : Nat) (p : Nat) (f : Nat) (x : Frame) : (State.readCopy s active n p f x).1.kept = s.kept := by
  unfold State.readCopy
  (repeat' split) <;> first | with_reducible rfl | (simp only [↓State.kept_ite, State.kept_mk, State.kept_eta, ite_self, ↓State.kept_foldl, ↓State.each_kept, ↓State.clr_kept]; done)

theorem State.walkerRead_kept (s : State) (active : Bool) (n : Nat) (p : Nat) (f : Nat) (x : Frame) : (State.walkerRead s active n p f x).kept = s.kept := by
  unfold State.walkerRead
  simp only [↓State.kept_ite, State.kept_mk, State.kept_eta, ite_self, ↓State.kept_foldl, ↓State.each_kept, ↓State.drawn_kept, ↓State.readCopy_kept]

theorem State.activeRead_kept (s : State) (n : Nat) (f : Nat) : (State.activeRead s n f).kept = s.kept := by
  unfold State.activeRead
  simp only [↓State.kept_ite, State.kept_mk, State.kept_eta, ite_self, ↓State.kept_foldl, ↓State.each_kept, ↓State.walkerRead_kept]

theorem State.activeVisit_kept (s : State) (n : Nat) (f : Nat) : (State.activeVisit s n f).kept = s.kept := by
  unfold State.activeVisit
  simp only [↓State.kept_ite, State.kept_mk, State.kept_eta, ite_self, ↓State.kept_foldl, ↓State.each_kept, ↓State.activeRead_kept]

theorem State.beginFallback_kept (s : State) (n : Nat) : (State.beginFallback s n).kept = s.kept := by
  unfold State.beginFallback
  simp only [↓State.kept_ite, State.kept_mk, State.kept_eta, ite_self, ↓State.kept_foldl, ↓State.each_kept, ↓State.bringFallback_kept, ↓State.setHold_kept, ↓State.setRegion_kept]

theorem State.patrolLast_kept (s : State) (active : Bool) (n : Nat) (p : Nat) (f : Nat) : (State.patrolLast s active n p f).kept = s.kept := by
  unfold State.patrolLast
  simp only [↓State.kept_ite, State.kept_mk, State.kept_eta, ite_self, ↓State.kept_foldl, ↓State.each_kept, ↓State.wr_kept, ↓State.wrb_kept]

theorem State.storedDbe_kept (s : State) (n : Nat) (p : Nat) (f : Nat) : (State.storedDbe s n p f).kept = s.kept := by
  unfold State.storedDbe
  simp only [↓State.kept_ite, State.kept_mk, State.kept_eta, ite_self, ↓State.kept_foldl, ↓State.each_kept, ↓State.bump_kept, ↓State.damagePlane_kept, ↓State.patrolLast_kept, ↓State.set1_kept]

theorem State.checkCopy_kept (s : State) (n : Nat) (p : Nat) (f : Nat) : (State.checkCopy s n p f).kept = s.kept := by
  unfold State.checkCopy
  (repeat' split) <;> first | with_reducible rfl | (simp only [↓State.kept_ite, State.kept_mk, State.kept_eta, ite_self, ↓State.kept_foldl, ↓State.each_kept, ↓State.reportCorr_kept, ↓State.storedDbe_kept]; done)

theorem State.knowBad_kept (s : State) (n : Nat) (f : Nat) : (State.knowBad s n f).kept = s.kept := by
  unfold State.knowBad
  simp only [↓State.kept_ite, State.kept_mk, State.kept_eta, ite_self, ↓State.kept_foldl, ↓State.each_kept, ↓State.setRegion_kept]

theorem State.wantRefetch_kept (s : State) (n : Nat) (p : Nat) (f : Nat) : (State.wantRefetch s n p f).kept = s.kept := by
  unfold State.wantRefetch
  simp only [↓State.kept_ite, State.kept_mk, State.kept_eta, ite_self, ↓State.kept_foldl, ↓State.each_kept, ↓State.bump_kept, ↓State.set1_kept, ↓State.setRegion_kept]

theorem State.activeDbe_kept (s : State) (n : Nat) (p : Nat) (f : Nat) : (State.activeDbe s n p f).kept = s.kept := by
  unfold State.activeDbe
  repeat' first
    | with_reducible rfl
    | with_reducible refine (State.each_kept _ _ _ (fun _ _ => ?_)).trans ?_
    | with_reducible refine (State.kept_foldl _ _ _ (fun _ _ => ?_)).trans ?_
    | with_reducible refine (State.kept_foldl_fst _ _ _ (fun _ _ => ?_)).trans ?_
    | simp only [↓State.kept_ite, State.kept_mk, State.kept_eta, ite_self, ↓State.kept_foldl, ↓State.each_kept, ↓State.beginFallback_kept, ↓State.bump_kept, ↓State.checkCopy_kept, ↓State.enterFault_kept, ↓State.knowBad_kept, ↓State.log_kept, ↓State.wantRefetch_kept, ↓State.wr_kept]
    | split

theorem State.activeResult_kept (s : State) (c : Chk) : (State.activeResult s c).kept = s.kept := by
  unfold State.activeResult
  (repeat' split) <;> first | with_reducible rfl | (simp only [↓State.kept_ite, State.kept_mk, State.kept_eta, ite_self, ↓State.kept_foldl, ↓State.each_kept, ↓State.activeDbe_kept, ↓State.activeVisit_kept, ↓State.bump_kept, ↓State.checkCopy_kept, ↓State.invalidateShadow_kept, ↓State.log_kept, ↓State.patrolLast_kept, ↓State.set1_kept, ↓State.wantRefetch_kept]; done)

theorem State.nextCorr_kept (s : State) (u : Corr × State) (h : s.nextCorr = some u) : u.2.kept = s.kept := by
  unfold State.nextCorr at h
  split at h <;> cases h <;> rfl

theorem State.twinSamples_kept (s : State) (b : Nat) (samples : List (BitVec 32 × BitVec 32)) : (State.twinSamples s b samples).kept = s.kept := by
  unfold State.twinSamples
  simp only [↓State.kept_ite, State.kept_mk, State.kept_eta, ite_self, ↓State.kept_foldl, ↓State.each_kept]

theorem State.underrun_kept (s : State) (n : Nat) (p : Nat) : (State.underrun s n p).kept = s.kept := by
  unfold State.underrun
  simp only [↓State.kept_ite, State.kept_mk, State.kept_eta, ite_self, ↓State.kept_foldl, ↓State.each_kept, ↓State.set1_kept, ↓State.setPad_kept]

theorem State.resumeInq_kept (s : State) (g : Nat) : (State.resumeInq s g).kept = s.kept := by
  unfold State.resumeInq
  repeat' first
    | with_reducible rfl
    | with_reducible refine (State.each_kept _ _ _ (fun _ _ => ?_)).trans ?_
    | with_reducible refine (State.kept_foldl _ _ _ (fun _ _ => ?_)).trans ?_
    | with_reducible refine (State.kept_foldl_fst _ _ _ (fun _ _ => ?_)).trans ?_
    | simp only [↓State.kept_ite, State.kept_mk, State.kept_eta, ite_self, ↓State.kept_foldl, ↓State.each_kept, ↓State.deliverInq_kept]
    | split

theorem State.dropOutst_kept (s : State) (node : Nat) : (State.dropOutst s node).kept = s.kept := by
  unfold State.dropOutst
  simp only [↓State.kept_ite, State.kept_mk, State.kept_eta, ite_self, ↓State.kept_foldl, ↓State.each_kept]

theorem State.eachTracker_kept (s : State) (d : Nat) (f : List TrackEntry → List TrackEntry) : (State.eachTracker s d f).kept = s.kept := by
  unfold State.eachTracker
  repeat' first
    | with_reducible rfl
    | with_reducible refine (State.each_kept _ _ _ (fun _ _ => ?_)).trans ?_
    | with_reducible refine (State.kept_foldl _ _ _ (fun _ _ => ?_)).trans ?_
    | with_reducible refine (State.kept_foldl_fst _ _ _ (fun _ _ => ?_)).trans ?_
    | simp only [↓State.kept_ite, State.kept_mk, State.kept_eta, ite_self, ↓State.kept_foldl, ↓State.each_kept, ↓State.setTrack_kept]
    | split

theorem State.passBegins_kept (s : State) (d : Nat) : (State.passBegins s d).kept = s.kept := by
  unfold State.passBegins
  simp only [↓State.kept_ite, State.kept_mk, State.kept_eta, ite_self, ↓State.kept_foldl, ↓State.each_kept, ↓State.eachTracker_kept]

theorem State.passFrees_kept (s : State) (d : Nat) : (State.passFrees s d).kept = s.kept := by
  unfold State.passFrees
  simp only [↓State.kept_ite, State.kept_mk, State.kept_eta, ite_self, ↓State.kept_foldl, ↓State.each_kept, ↓State.eachTracker_kept]

theorem State.postedAnswer_kept (s : State) (t : Nat) (tag : Nat) (a : Answer) : (State.postedAnswer s t tag a).kept = s.kept := by
  unfold State.postedAnswer
  (repeat' split) <;> first | with_reducible rfl | (simp only [↓State.kept_ite, State.kept_mk, State.kept_eta, ite_self, ↓State.kept_foldl, ↓State.each_kept, ↓State.postedDone_kept, ↓State.setThread_kept]; done)

theorem State.sendEncoded_kept (s : State) (g : Nat) (columns : List (List Sym)) : (State.sendEncoded s g columns).kept = s.kept := by
  unfold State.sendEncoded
  simp only [↓State.kept_ite, State.kept_mk, State.kept_eta, ite_self, ↓State.kept_foldl, ↓State.each_kept, ↓State.drawn_kept, ↓State.emit_kept, ↓State.setLink_kept]

theorem State.putSalt_kept (s : State) (v : Nat) : (State.putSalt s v).kept = s.kept := by
  unfold State.putSalt
  simp only [↓State.kept_ite, State.kept_mk, State.kept_eta, ite_self, ↓State.kept_foldl, ↓State.each_kept]

theorem State.drawSalt_kept (s : State) : (State.drawSalt s).kept = s.kept := by
  unfold State.drawSalt
  simp only [↓State.kept_ite, State.kept_mk, State.kept_eta, ite_self, ↓State.kept_foldl, ↓State.each_kept, ↓State.drawn_kept, ↓State.putSalt_kept]

theorem State.releaseBuf_kept (s : State) (e : Nat × NetBuf) : (State.releaseBuf s e).kept = s.kept := by
  unfold State.releaseBuf
  repeat' first
    | with_reducible rfl
    | with_reducible refine (State.each_kept _ _ _ (fun _ _ => ?_)).trans ?_
    | with_reducible refine (State.kept_foldl _ _ _ (fun _ _ => ?_)).trans ?_
    | with_reducible refine (State.kept_foldl_fst _ _ _ (fun _ _ => ?_)).trans ?_
    | simp only [↓State.kept_ite, State.kept_mk, State.kept_eta, ite_self, ↓State.kept_foldl, ↓State.each_kept, ↓State.reply_kept, ↓State.setBuf_kept]
    | split

theorem State.releaseHeld_kept (s : State) : (State.releaseHeld s).kept = s.kept := by
  unfold State.releaseHeld
  repeat' first
    | with_reducible rfl
    | with_reducible refine (State.each_kept _ _ _ (fun _ _ => ?_)).trans ?_
    | with_reducible refine (State.kept_foldl _ _ _ (fun _ _ => ?_)).trans ?_
    | with_reducible refine (State.kept_foldl_fst _ _ _ (fun _ _ => ?_)).trans ?_
    | simp only [↓State.kept_ite, State.kept_mk, State.kept_eta, ite_self, ↓State.kept_foldl, ↓State.each_kept, ↓State.releaseBuf_kept]
    | split

theorem State.setSliceSet_kept (s : State) (ks : List Nat) : (State.setSliceSet s ks).kept = s.kept := by
  unfold State.setSliceSet
  repeat' first
    | with_reducible rfl
    | with_reducible refine (State.each_kept _ _ _ (fun _ _ => ?_)).trans ?_
    | with_reducible refine (State.kept_foldl _ _ _ (fun _ _ => ?_)).trans ?_
    | with_reducible refine (State.kept_foldl_fst _ _ _ (fun _ _ => ?_)).trans ?_
    | simp only [↓State.kept_ite, State.kept_mk, State.kept_eta, ite_self, ↓State.kept_foldl, ↓State.each_kept, ↓State.wr_kept]
    | split

theorem State.logBroken_kept (s : State) (rs : List RepRec) (o : OutMap) : (State.logBroken s rs o).kept = s.kept := by
  unfold State.logBroken
  repeat' first
    | with_reducible rfl
    | with_reducible refine (State.each_kept _ _ _ (fun _ _ => ?_)).trans ?_
    | with_reducible refine (State.kept_foldl _ _ _ (fun _ _ => ?_)).trans ?_
    | with_reducible refine (State.kept_foldl_fst _ _ _ (fun _ _ => ?_)).trans ?_
    | simp only [↓State.kept_ite, State.kept_mk, State.kept_eta, ite_self, ↓State.kept_foldl, ↓State.each_kept, ↓State.log_kept, ↓State.logP_kept]
    | split

theorem State.applyRepair_kept (s : State) (r : RepRec) : (State.applyRepair s r).kept = s.kept := by
  unfold State.applyRepair
  simp only [↓State.kept_ite, State.kept_mk, State.kept_eta, ite_self, ↓State.kept_foldl, ↓State.each_kept, ↓State.setSpareSet_kept]

theorem State.applySoft_kept (s : State) (o : OutMap) (r : RepRec) : (State.applySoft s o r).kept = s.kept := by
  unfold State.applySoft
  simp only [↓State.kept_ite, State.kept_mk, State.kept_eta, ite_self, ↓State.kept_foldl, ↓State.each_kept, ↓State.applyRepair_kept, ↓State.log_kept]

theorem State.applyRepairs_kept (s : State) (o : OutMap) : (State.applyRepairs s o).kept = s.kept := by
  unfold State.applyRepairs
  repeat' first
    | with_reducible rfl
    | with_reducible refine (State.each_kept _ _ _ (fun _ _ => ?_)).trans ?_
    | with_reducible refine (State.kept_foldl _ _ _ (fun _ _ => ?_)).trans ?_
    | with_reducible refine (State.kept_foldl_fst _ _ _ (fun _ _ => ?_)).trans ?_
    | simp only [↓State.kept_ite, State.kept_mk, State.kept_eta, ite_self, ↓State.kept_foldl, ↓State.each_kept, ↓State.applyRepair_kept, ↓State.applySoft_kept]
    | split

theorem State.cutRoutes_kept (s : State) (o : OutMap) : (State.cutRoutes s o).kept = s.kept := by
  unfold State.cutRoutes
  repeat' first
    | with_reducible rfl
    | with_reducible refine (State.each_kept _ _ _ (fun _ _ => ?_)).trans ?_
    | with_reducible refine (State.kept_foldl _ _ _ (fun _ _ => ?_)).trans ?_
    | with_reducible refine (State.kept_foldl_fst _ _ _ (fun _ _ => ?_)).trans ?_
    | simp only [↓State.kept_ite, State.kept_mk, State.kept_eta, ite_self, ↓State.kept_foldl, ↓State.each_kept, ↓State.wr_kept]
    | split

theorem State.firstDraw_kept (s : State) : (State.firstDraw s).kept = s.kept := by
  unfold State.firstDraw
  simp only [↓State.kept_ite, State.kept_mk, State.kept_eta, ite_self, ↓State.kept_foldl, ↓State.each_kept, ↓State.drawSalt_kept, ↓State.putSalt_kept, ↓State.set1_kept]

theorem State.innkeeperOn_kept (s : State) (d : Nat) : (State.innkeeperOn s d).kept = s.kept := by
  unfold State.innkeeperOn
  simp only [↓State.kept_ite, State.kept_mk, State.kept_eta, ite_self, ↓State.kept_foldl, ↓State.each_kept, ↓State.domainOn_kept, ↓State.set1_kept]

theorem State.powerStart_kept (s : State) (o : OutMap) : (State.powerStart s o).kept = s.kept := by
  unfold State.powerStart
  repeat' first
    | with_reducible rfl
    | with_reducible refine (State.each_kept _ _ _ (fun _ _ => ?_)).trans ?_
    | with_reducible refine (State.kept_foldl _ _ _ (fun _ _ => ?_)).trans ?_
    | with_reducible refine (State.kept_foldl_fst _ _ _ (fun _ _ => ?_)).trans ?_
    | simp only [↓State.kept_ite, State.kept_mk, State.kept_eta, ite_self, ↓State.kept_foldl, ↓State.each_kept, ↓State.innkeeperOn_kept]
    | split

theorem State.mapoutsApplied_kept (s : State) : (State.mapoutsApplied s).kept = s.kept := by
  unfold State.mapoutsApplied
  simp only [↓State.kept_ite, State.kept_mk, State.kept_eta, ite_self, ↓State.kept_foldl, ↓State.each_kept]

theorem State.showStack_kept (s : State) (rs : List RepRec) (o : OutMap) : (State.showStack s rs o).kept = s.kept := by
  unfold State.showStack
  repeat' first
    | with_reducible rfl
    | with_reducible refine (State.each_kept _ _ _ (fun _ _ => ?_)).trans ?_
    | with_reducible refine (State.kept_foldl _ _ _ (fun _ _ => ?_)).trans ?_
    | with_reducible refine (State.kept_foldl_fst _ _ _ (fun _ _ => ?_)).trans ?_
    | simp only [↓State.kept_ite, State.kept_mk, State.kept_eta, ite_self, ↓State.kept_foldl, ↓State.each_kept, ↓State.mapoutsApplied_kept, ↓State.wr_kept, ↓State.wrb_kept]
    | split

theorem State.startLink_kept (s : State) (g : Nat) (width : Nat) (rate : Nat) : (State.startLink s g width rate).kept = s.kept := by
  unfold State.startLink
  simp only [↓State.kept_ite, State.kept_mk, State.kept_eta, ite_self, ↓State.kept_foldl, ↓State.each_kept, ↓State.innkeeperOn_kept, ↓State.setLink_kept, ↓State.wr_kept]

theorem State.repairLoad_kept (s : State) (rs : List RepRec) (o : OutMap) : (State.repairLoad s rs o).kept = s.kept := by
  unfold State.repairLoad
  repeat' first
    | with_reducible rfl
    | with_reducible refine (State.each_kept _ _ _ (fun _ _ => ?_)).trans ?_
    | with_reducible refine (State.kept_foldl _ _ _ (fun _ _ => ?_)).trans ?_
    | with_reducible refine (State.kept_foldl_fst _ _ _ (fun _ _ => ?_)).trans ?_
    | simp only [↓State.kept_ite, State.kept_mk, State.kept_eta, ite_self, ↓State.kept_foldl, ↓State.each_kept, ↓State.applyRepairs_kept, ↓State.buildSet_kept, ↓State.cutRoutes_kept, ↓State.firstDraw_kept, ↓State.powerStart_kept, ↓State.setPorter_kept, ↓State.showStack_kept, ↓State.startLink_kept, ↓State.wr_kept]
    | split

theorem State.freeLate_kept (s : State) (mine : Outst → Bool) : (State.freeLate s mine).kept = s.kept := by
  unfold State.freeLate
  repeat' first
    | with_reducible rfl
    | with_reducible refine (State.each_kept _ _ _ (fun _ _ => ?_)).trans ?_
    | with_reducible refine (State.kept_foldl _ _ _ (fun _ _ => ?_)).trans ?_
    | with_reducible refine (State.kept_foldl_fst _ _ _ (fun _ _ => ?_)).trans ?_
    | simp only [↓State.kept_ite, State.kept_mk, State.kept_eta, ite_self, ↓State.kept_foldl, ↓State.each_kept, ↓State.sendWaiting_kept]
    | split

theorem State.responseArrives_kept (s : State) (node : Nat) (tag : Nat) (a : Answer) : (State.responseArrives s node tag a).kept = s.kept := by
  unfold State.responseArrives
  repeat' first
    | with_reducible rfl
    | with_reducible refine (State.each_kept _ _ _ (fun _ _ => ?_)).trans ?_
    | with_reducible refine (State.kept_foldl _ _ _ (fun _ _ => ?_)).trans ?_
    | with_reducible refine (State.kept_foldl_fst _ _ _ (fun _ _ => ?_)).trans ?_
    | simp only [↓State.kept_ite, State.kept_mk, State.kept_eta, ite_self, ↓State.kept_foldl, ↓State.each_kept, ↓State.freeLate_kept, ↓State.lateDrop_kept]
    | split

theorem State.tagFreed_kept (s : State) (node : Nat) : (State.tagFreed s node).kept = s.kept := by
  unfold State.tagFreed
  simp only [↓State.kept_ite, State.kept_mk, State.kept_eta, ite_self, ↓State.kept_foldl, ↓State.each_kept, ↓State.courierTag_kept, ↓State.mirrorIssue_kept, ↓State.resetsOut_kept, ↓State.snapIssue_kept]

theorem State.scrubAgain_kept (s : State) : (State.scrubAgain s).kept = s.kept := by
  unfold State.scrubAgain
  simp only [↓State.kept_ite, State.kept_mk, State.kept_eta, ite_self, ↓State.kept_foldl, ↓State.each_kept]

theorem State.recordSymbol_kept (s : State) (l : Nat) (sym : Nat) : (State.recordSymbol s l sym).kept = s.kept := by
  unfold State.recordSymbol
  simp only [↓State.kept_ite, State.kept_mk, State.kept_eta, ite_self, ↓State.kept_foldl, ↓State.each_kept, ↓State.wr_kept]

theorem State.countCorrected_kept (s : State) (l : Nat) (x : SdLine) : (State.countCorrected s l x).kept = s.kept := by
  unfold State.countCorrected
  repeat' first
    | with_reducible rfl
    | with_reducible refine (State.each_kept _ _ _ (fun _ _ => ?_)).trans ?_
    | with_reducible refine (State.kept_foldl _ _ _ (fun _ _ => ?_)).trans ?_
    | with_reducible refine (State.kept_foldl_fst _ _ _ (fun _ _ => ?_)).trans ?_
    | simp only [↓State.kept_ite, State.kept_mk, State.kept_eta, ite_self, ↓State.kept_foldl, ↓State.each_kept, ↓State.bump_kept, ↓State.recordSymbol_kept]
    | split

theorem State.setSdLine_kept (s : State) (l : Nat) (x : SdLine) : (State.setSdLine s l x).kept = s.kept := by
  unfold State.setSdLine
  simp only [↓State.kept_ite, State.kept_mk, State.kept_eta, ite_self, ↓State.kept_foldl, ↓State.each_kept]

theorem State.scrubWrite_kept (s : State) (l : Nat) (x : SdLine) : (State.scrubWrite s l x).kept = s.kept := by
  unfold State.scrubWrite
  simp only [↓State.kept_ite, State.kept_mk, State.kept_eta, ite_self, ↓State.kept_foldl, ↓State.each_kept, ↓State.emit_kept, ↓State.setSdLine_kept]

theorem State.seenLine_kept (s : State) (l : Nat) (x : SdLine) : (s.seenLine l x).2.kept = s.kept := by
  have key : ∀ (is : List Nat) (a : SdLine × State), (is.foldl (fun (a : SdLine × State) i =>
      (if a.2.draw % 2 = 0 then a.1 else a.1.wild l i (a.2.draw / 2), a.2.drawn)) a).2.kept = a.2.kept := by
    intro is
    induction is with
    | nil => intro a; rfl
    | cons i is ih => intro a; rw [List.foldl_cons, ih]; exact State.drawn_kept _
  exact key _ (x, s)

theorem State.scrubLine_kept (s : State) (l : Nat) : (State.scrubLine s l).kept = s.kept := by
  unfold State.scrubLine
  simp only [↓State.kept_ite, State.kept_mk, State.kept_eta, ite_self, ↓State.kept_foldl, ↓State.each_kept, ↓State.bump_kept, ↓State.countCorrected_kept, ↓State.emit_kept, ↓State.logP_kept, ↓State.scrubWrite_kept, ↓State.seenLine_kept]

theorem State.meetChannel_kept (s : State) (c : Nat) (u : State × Bool) (h : s.meetChannel c = some u) : u.1.kept = s.kept := by
  unfold State.meetChannel at h
  (repeat' split at h) <;> cases h <;> simp only [↓State.setChState_kept]

theorem State.snoopAdd_kept (s : State) (u : Nat) (p : Packet) : (State.snoopAdd s u p).kept = s.kept := by
  unfold State.snoopAdd
  simp only [↓State.kept_ite, State.kept_mk, State.kept_eta, ite_self, ↓State.kept_foldl, ↓State.each_kept, ↓State.setSnoop_kept, ↓State.snoopClose_kept]

theorem State.snoopAddRaw_kept (s : State) (u : Nat) (ys : List (Option Sym)) : (State.snoopAddRaw s u ys).kept = s.kept := by
  unfold State.snoopAddRaw
  simp only [↓State.kept_ite, State.kept_mk, State.kept_eta, ite_self, ↓State.kept_foldl, ↓State.each_kept, ↓State.setSnoop_kept]

theorem State.store_kept (s : State) (t : Nat) (row : Row) : (State.store s t row).kept = s.kept := by
  unfold State.store
  repeat' first
    | with_reducible rfl
    | with_reducible refine (State.each_kept _ _ _ (fun _ _ => ?_)).trans ?_
    | with_reducible refine (State.kept_foldl _ _ _ (fun _ _ => ?_)).trans ?_
    | with_reducible refine (State.kept_foldl_fst _ _ _ (fun _ _ => ?_)).trans ?_
    | with_reducible refine (State.buffer_kept _ _ _ _ (fun _ => ?_)).trans ?_
    | with_reducible refine (State.consuming_kept _ _ _ _ (fun _ => ?_)).trans ?_
    | with_reducible refine (State.oldest_kept _ _ _ _ (fun _ _ => ?_)).trans ?_
    | simp only [↓State.kept_ite, State.kept_mk, State.kept_eta, ite_self, ↓State.kept_foldl, ↓State.each_kept, ↓State.buffer_kept, ↓State.commit_kept, ↓State.consuming_kept, ↓State.oldest_kept, ↓State.otherDone_kept, ↓State.postedDone_kept, ↓State.sendOldest_kept, ↓State.sendPosted_kept, ↓State.setReg_kept]
    | split

theorem State.restoreThread_kept (s : State) (t : Nat) : (State.restoreThread s t).kept = s.kept := by
  unfold State.restoreThread
  (repeat' split) <;> first | with_reducible rfl | (simp only [↓State.kept_ite, State.kept_mk, State.kept_eta, ite_self, ↓State.kept_foldl, ↓State.each_kept, ↓State.setThread_kept, ↓State.wrb_kept]; done)

theorem State.takeThread_kept (s : State) (restore : Bool) (t : Nat) : (State.takeThread s restore t).kept = s.kept := by
  unfold State.takeThread
  simp only [↓State.kept_ite, State.kept_mk, State.kept_eta, ite_self, ↓State.kept_foldl, ↓State.each_kept, ↓State.restoreThread_kept, ↓State.threadStart_kept]

theorem State.isolate_kept (s : State) (n : Nat) (port : Nat) : (State.isolate s n port).kept = s.kept := by
  unfold State.isolate
  repeat' first
    | with_reducible rfl
    | with_reducible refine (State.each_kept _ _ _ (fun _ _ => ?_)).trans ?_
    | with_reducible refine (State.kept_foldl _ _ _ (fun _ _ => ?_)).trans ?_
    | with_reducible refine (State.kept_foldl_fst _ _ _ (fun _ _ => ?_)).trans ?_
    | simp only [↓State.kept_ite, State.kept_mk, State.kept_eta, ite_self, ↓State.kept_foldl, ↓State.each_kept, ↓State.log_kept, ↓State.reply_kept, ↓State.setBit_kept]
    | split

theorem State.placeBoundary_kept (s : State) (c : Nat) : (State.placeBoundary s c).kept = s.kept := by
  unfold State.placeBoundary
  simp only [↓State.kept_ite, State.kept_mk, State.kept_eta, ite_self, ↓State.kept_foldl, ↓State.each_kept, ↓State.set1_kept]

theorem State.markerPlaces_kept (s : State) (place : Int) : (State.markerPlaces s place).kept = s.kept := by
  unfold State.markerPlaces
  simp only [↓State.kept_ite, State.kept_mk, State.kept_eta, ite_self, ↓State.kept_foldl, ↓State.each_kept, ↓State.set1_kept, ↓State.wr_kept]

theorem State.linkFails_kept (s : State) (g : Nat) (cause : Nat) : (State.linkFails s g cause).kept = s.kept := by
  unfold State.linkFails
  simp only [↓State.kept_ite, State.kept_mk, State.kept_eta, ite_self, ↓State.kept_foldl, ↓State.each_kept, ↓State.log_kept, ↓State.setLstate_kept, ↓State.wr_kept]

theorem State.pinged_kept (s : State) (g : Nat) (sets : List TSet) : (State.pinged s g sets).kept = s.kept := by
  unfold State.pinged
  (repeat' split) <;> first | with_reducible rfl | (simp only [↓State.kept_ite, State.kept_mk, State.kept_eta, ite_self, ↓State.kept_foldl, ↓State.each_kept, ↓State.setLink_kept]; done)

theorem State.readSets_kept (s : State) (g kind : Nat) (inv : Nat → Bool) (xs : List RxSet) (o : Option (List TSet)) (u : State)
    (h : s.readSets g kind inv xs = (o, u)) : u.kept = s.kept := by
  have e : (s.readSets g kind inv xs).2.kept = s.kept := State.bumpN_kept ..
  rwa [h] at e

theorem State.toTrain_kept (s : State) (g : Nat) : (State.toTrain s g).kept = s.kept := by
  unfold State.toTrain
  simp only [↓State.kept_ite, State.kept_mk, State.kept_eta, ite_self, ↓State.kept_foldl, ↓State.each_kept, ↓State.setLink_kept, ↓State.setLstate_kept]

theorem State.wrLanes_kept (s : State) (g : Nat) (f : Nat → Fld) (mask : Nat) : (State.wrLanes s g f mask).kept = s.kept := by
  unfold State.wrLanes
  simp only [↓State.kept_ite, State.kept_mk, State.kept_eta, ite_self, ↓State.kept_foldl, ↓State.each_kept, ↓State.wr_kept]

theorem State.twinLinkUp_kept (s : State) : (State.twinLinkUp s).kept = s.kept := by
  unfold State.twinLinkUp
  simp only [↓State.kept_ite, State.kept_mk, State.kept_eta, ite_self, ↓State.kept_foldl, ↓State.each_kept, ↓State.offerJoin_kept, ↓State.setTwin_kept]

theorem State.linkUp_kept (s : State) (g : Nat) (t : TSet) (rev : Bool) (delay : Nat) : (State.linkUp s g t rev delay).kept = s.kept := by
  unfold State.linkUp
  simp only [↓State.kept_ite, State.kept_mk, State.kept_eta, ite_self, ↓State.kept_foldl, ↓State.each_kept, ↓State.setLink_kept, ↓State.setLstate_kept, ↓State.twinLinkUp_kept, ↓State.wr_kept, ↓State.wrb_kept]

theorem State.samplePins_kept (s : State) (n : Nat) (p : Nat) : (State.samplePins s n p).kept = s.kept := by
  unfold State.samplePins
  simp only [↓State.kept_ite, State.kept_mk, State.kept_eta, ite_self, ↓State.kept_foldl, ↓State.each_kept, ↓State.setPort_kept]

theorem State.wdtTick_kept (s : State) (t : Nat) : (State.wdtTick s t).kept = s.kept := by
  unfold State.wdtTick
  simp only [↓State.kept_ite, State.kept_mk, State.kept_eta, ite_self, ↓State.kept_foldl, ↓State.each_kept, ↓State.setThread_kept, ↓State.wr_kept]

theorem State.drivePins_kept (s : State) (b : Nat) (n : Nat) (p : Nat) : (State.drivePins s b n p).kept = s.kept := by
  unfold State.drivePins
  repeat' first
    | with_reducible rfl
    | with_reducible refine (State.each_kept _ _ _ (fun _ _ => ?_)).trans ?_
    | with_reducible refine (State.kept_foldl _ _ _ (fun _ _ => ?_)).trans ?_
    | with_reducible refine (State.kept_foldl_fst _ _ _ (fun _ _ => ?_)).trans ?_
    | simp only [↓State.kept_ite, State.kept_mk, State.kept_eta, ite_self, ↓State.kept_foldl, ↓State.each_kept, ↓State.setPad_kept, ↓State.setPort_kept, ↓State.underrun_kept]
    | split

theorem State.bankEdge_kept (s : State) (b : Nat) : (State.bankEdge s b).kept = s.kept := by
  unfold State.bankEdge
  (repeat' split) <;> first | with_reducible rfl | (simp only [↓State.kept_ite, State.kept_mk, State.kept_eta, ite_self, ↓State.kept_foldl, ↓State.each_kept, ↓State.drivePins_kept, ↓State.samplePins_kept, ↓State.setPad_kept]; done)

theorem State.toFabricRaw_kept (s : State) (g : Nat) (f : BitVec 512) : (State.toFabricRaw s g f).kept = s.kept := by
  unfold State.toFabricRaw
  simp only [↓State.kept_ite, State.kept_mk, State.kept_eta, ite_self, ↓State.kept_foldl, ↓State.each_kept, ↓State.emit_kept]

theorem State.deliverRaw_kept (s : State) (g : Nat) (k : Nat) : (State.deliverRaw s g k).kept = s.kept := by
  unfold State.deliverRaw
  repeat' first
    | with_reducible rfl
    | with_reducible refine (State.each_kept _ _ _ (fun _ _ => ?_)).trans ?_
    | with_reducible refine (State.kept_foldl _ _ _ (fun _ _ => ?_)).trans ?_
    | with_reducible refine (State.kept_foldl_fst _ _ _ (fun _ _ => ?_)).trans ?_
    | simp only [↓State.kept_ite, State.kept_mk, State.kept_eta, ite_self, ↓State.kept_foldl, ↓State.each_kept, ↓State.setLink_kept, ↓State.toFabricRaw_kept]
    | split

theorem State.lineTick_kept (s : State) (g : Nat) : (State.lineTick s g).kept = s.kept := by
  unfold State.lineTick
  simp only [↓State.kept_ite, State.kept_mk, State.kept_eta, ite_self, ↓State.kept_foldl, ↓State.each_kept, ↓State.sendEncoded_kept, ↓State.setLink_kept]

theorem State.traceLane_kept (s : State) : (State.traceLane s).kept = s.kept := by
  unfold State.traceLane
  simp only [↓State.kept_ite, State.kept_mk, State.kept_eta, ite_self, ↓State.kept_foldl, ↓State.each_kept, ↓State.emit_kept, ↓State.setLink_kept, ↓State.traceFreed_kept]

theorem State.either_kept (s : State) (a : State → State) (b : State → State) (ha : ∀ (a0 : State), (a a0).kept = a0.kept) (hb : ∀ (a0 : State), (b a0).kept = a0.kept) : (State.either s a b).kept = s.kept := by
  unfold State.either
  simp only [↓State.kept_ite, State.kept_mk, State.kept_eta, ite_self, ↓State.kept_foldl, ↓State.each_kept, ↓State.drawn_kept, ha, hb]

end Sys2Proof.Machine
end

