-- ==== Sys2Proof/Laws/ExecKept.lean ====
section
/-! SUPPORT. What the commands keep: none changes the queue or the bins, and those of this file no fuse and no memory either. -/

set_option Elab.async false
set_option linter.all false

namespace Sys2Proof.Machine

theorem execFillInsn_kept (t : Fin 4) (s : State) (out : State) (h : execFillInsn t s = .next out) : out.kept = s.kept := by
  unfold execFillInsn at h
  try dsimp only at h
  (repeat' split at h) <;> first
    | (cases h; done)
    | (injection h with h; subst h
       (repeat' first
         | with_reducible rfl
         | with_reducible refine (State.each_kept _ _ _ (fun _ _ => ?_)).trans ?_
         | with_reducible refine (State.kept_foldl _ _ _ (fun _ _ => ?_)).trans ?_
         | with_reducible refine (State.kept_foldl_fst _ _ _ (fun _ _ => ?_)).trans ?_
         | with_reducible refine (State.consuming_kept _ _ _ _ (fun _ => ?_)).trans ?_
         | with_reducible refine (State.oldest_kept _ _ _ _ (fun _ _ => ?_)).trans ?_
         | simp only [↓State.quiet_kept, ↓State.kept_ite, State.kept_mk, State.kept_eta, ite_self, ↓State.kept_foldl, ↓State.each_kept, ↓State.consuming_kept, ↓State.oldest_kept, ↓State.quiet_kept, ↓State.regionOp_kept]
         | split))

theorem execSwapInsn_kept (t : Fin 4) (s : State) (out : State) (h : execSwapInsn t s = .next out) : out.kept = s.kept := by
  unfold execSwapInsn at h
  try dsimp only at h
  (repeat' split at h) <;> first
    | (cases h; done)
    | (injection h with h; subst h
       (repeat' first
         | with_reducible rfl
         | with_reducible refine (State.each_kept _ _ _ (fun _ _ => ?_)).trans ?_
         | with_reducible refine (State.kept_foldl _ _ _ (fun _ _ => ?_)).trans ?_
         | with_reducible refine (State.kept_foldl_fst _ _ _ (fun _ _ => ?_)).trans ?_
         | with_reducible refine (State.consuming_kept _ _ _ _ (fun _ => ?_)).trans ?_
         | with_reducible refine (State.oldest_kept _ _ _ _ (fun _ _ => ?_)).trans ?_
         | simp only [↓State.quiet_kept, ↓State.kept_ite, State.kept_mk, State.kept_eta, ite_self, ↓State.kept_foldl, ↓State.each_kept, ↓State.consuming_kept, ↓State.oldest_kept, ↓State.quiet_kept, ↓State.regionOp_kept]
         | split))

theorem execStopInsn_kept (t : Fin 4) (s : State) (out : State) (h : execStopInsn t s = .next out) : out.kept = s.kept := by
  unfold execStopInsn at h
  try dsimp only at h
  (repeat' split at h) <;> first
    | (cases h; done)
    | (injection h with h; subst h
       (repeat' first
         | with_reducible rfl
         | with_reducible refine (State.each_kept _ _ _ (fun _ _ => ?_)).trans ?_
         | with_reducible refine (State.kept_foldl _ _ _ (fun _ _ => ?_)).trans ?_
         | with_reducible refine (State.kept_foldl_fst _ _ _ (fun _ _ => ?_)).trans ?_
         | with_reducible refine (State.consuming_kept _ _ _ _ (fun _ => ?_)).trans ?_
         | with_reducible refine (State.oldest_kept _ _ _ _ (fun _ _ => ?_)).trans ?_
         | simp only [↓State.quiet_kept, ↓State.kept_ite, State.kept_mk, State.kept_eta, ite_self, ↓State.kept_foldl, ↓State.each_kept, ↓State.consuming_kept, ↓State.oldest_kept, ↓State.quiet_kept, ↓State.regionOp_kept]
         | split))

theorem execRcmdHold_kept (t : Fin 4) (s : State) (out : State) (h : execRcmdHold t s = .next out) : out.kept = s.kept := by
  unfold execRcmdHold at h
  try dsimp only at h
  (repeat' split at h) <;> first
    | (cases h; done)
    | (injection h with h; subst h
       (repeat' first
         | with_reducible rfl
         | with_reducible refine (State.each_kept _ _ _ (fun _ _ => ?_)).trans ?_
         | with_reducible refine (State.kept_foldl _ _ _ (fun _ _ => ?_)).trans ?_
         | with_reducible refine (State.kept_foldl_fst _ _ _ (fun _ _ => ?_)).trans ?_
         | with_reducible refine (State.consuming_kept _ _ _ _ (fun _ => ?_)).trans ?_
         | with_reducible refine (State.oldest_kept _ _ _ _ (fun _ _ => ?_)).trans ?_
         | simp only [↓State.quiet_kept, ↓State.kept_ite, State.kept_mk, State.kept_eta, ite_self, ↓State.kept_foldl, ↓State.each_kept, ↓State.consuming_kept, ↓State.oldest_kept, ↓State.quiet_kept, ↓State.regionOp_kept]
         | split))

theorem execRcmdRelease_kept (t : Fin 4) (s : State) (out : State) (h : execRcmdRelease t s = .next out) : out.kept = s.kept := by
  unfold execRcmdRelease at h
  try dsimp only at h
  (repeat' split at h) <;> first
    | (cases h; done)
    | (injection h with h; subst h
       (repeat' first
         | with_reducible rfl
         | with_reducible refine (State.each_kept _ _ _ (fun _ _ => ?_)).trans ?_
         | with_reducible refine (State.kept_foldl _ _ _ (fun _ _ => ?_)).trans ?_
         | with_reducible refine (State.kept_foldl_fst _ _ _ (fun _ _ => ?_)).trans ?_
         | with_reducible refine (State.consuming_kept _ _ _ _ (fun _ => ?_)).trans ?_
         | with_reducible refine (State.oldest_kept _ _ _ _ (fun _ _ => ?_)).trans ?_
         | simp only [↓State.quiet_kept, ↓State.kept_ite, State.kept_mk, State.kept_eta, ite_self, ↓State.kept_foldl, ↓State.each_kept, ↓State.consuming_kept, ↓State.oldest_kept, ↓State.quiet_kept, ↓State.regionOp_kept]
         | split))

theorem execRcmdCancelFill_kept (t : Fin 4) (s : State) (out : State) (h : execRcmdCancelFill t s = .next out) : out.kept = s.kept := by
  unfold execRcmdCancelFill at h
  try dsimp only at h
  (repeat' split at h) <;> first
    | (cases h; done)
    | (injection h with h; subst h
       (repeat' first
         | with_reducible rfl
         | with_reducible refine (State.each_kept _ _ _ (fun _ _ => ?_)).trans ?_
         | with_reducible refine (State.kept_foldl _ _ _ (fun _ _ => ?_)).trans ?_
         | with_reducible refine (State.kept_foldl_fst _ _ _ (fun _ _ => ?_)).trans ?_
         | with_reducible refine (State.consuming_kept _ _ _ _ (fun _ => ?_)).trans ?_
         | with_reducible refine (State.oldest_kept _ _ _ _ (fun _ _ => ?_)).trans ?_
         | simp only [↓State.quiet_kept, ↓State.kept_ite, State.kept_mk, State.kept_eta, ite_self, ↓State.kept_foldl, ↓State.each_kept, ↓State.consuming_kept, ↓State.oldest_kept, ↓State.quiet_kept, ↓State.regionOp_kept]
         | split))

theorem execPre_kept (t : Fin 4) (k : Fin 24) (s : State) (out : State) (h : execPre t k s = .next out) : out.kept = s.kept := by
  unfold execPre at h
  injection h with h; subst h; simp only [↓State.kept_ite, State.kept_mk, State.kept_eta, ite_self, ↓State.kept_foldl, ↓State.each_kept, ↓State.preAhead_kept, ↓State.preOldest_kept, ↓State.quiet_kept]

theorem execCstart_kept (t : Fin 4) (s : State) (out : State) (h : execCstart t s = .next out) : out.kept = s.kept := by
  unfold execCstart at h
  try dsimp only at h
  (repeat' split at h) <;> first
    | (cases h; done)
    | (injection h with h; subst h
       (repeat' first
         | with_reducible rfl
         | with_reducible refine (State.each_kept _ _ _ (fun _ _ => ?_)).trans ?_
         | with_reducible refine (State.kept_foldl _ _ _ (fun _ _ => ?_)).trans ?_
         | with_reducible refine (State.kept_foldl_fst _ _ _ (fun _ _ => ?_)).trans ?_
         | with_reducible refine (State.buffer_kept _ _ _ _ (fun _ => ?_)).trans ?_
         | with_reducible refine (State.consuming_kept _ _ _ _ (fun _ => ?_)).trans ?_
         | with_reducible refine (State.oldest_kept _ _ _ _ (fun _ _ => ?_)).trans ?_
         | simp only [↓State.quiet_kept, ↓State.kept_ite, State.kept_mk, State.kept_eta, ite_self, ↓State.kept_foldl, ↓State.each_kept, ↓State.buffer_kept, ↓State.commit_kept, ↓State.consuming_kept, ↓State.oldest_kept, ↓State.quiet_kept, ↓State.sendOldest_kept, ↓State.setReg_kept]
         | split))

theorem execSnap_kept (t : Fin 4) (s : State) (out : State) (h : execSnap t s = .next out) : out.kept = s.kept := by
  unfold execSnap at h
  try dsimp only at h
  (repeat' split at h) <;> first
    | (cases h; done)
    | (injection h with h; subst h
       (repeat' first
         | with_reducible rfl
         | with_reducible refine (State.each_kept _ _ _ (fun _ _ => ?_)).trans ?_
         | with_reducible refine (State.kept_foldl _ _ _ (fun _ _ => ?_)).trans ?_
         | with_reducible refine (State.kept_foldl_fst _ _ _ (fun _ _ => ?_)).trans ?_
         | with_reducible refine (State.buffer_kept _ _ _ _ (fun _ => ?_)).trans ?_
         | with_reducible refine (State.consuming_kept _ _ _ _ (fun _ => ?_)).trans ?_
         | with_reducible refine (State.oldest_kept _ _ _ _ (fun _ _ => ?_)).trans ?_
         | simp only [↓State.quiet_kept, ↓State.kept_ite, State.kept_mk, State.kept_eta, ite_self, ↓State.kept_foldl, ↓State.each_kept, ↓State.buffer_kept, ↓State.commit_kept, ↓State.consuming_kept, ↓State.oldest_kept, ↓State.quiet_kept, ↓State.sendOldest_kept, ↓State.setReg_kept, ↓State.snapAnswer_kept]
         | split))

theorem execEvt_kept (t : Fin 4) (s : State) (out : State) (h : execEvt t s = .next out) : out.kept = s.kept := by
  unfold execEvt at h
  try dsimp only at h
  (repeat' split at h) <;> first
    | (cases h; done)
    | (injection h with h; subst h
       (repeat' first
         | with_reducible rfl
         | with_reducible refine (State.each_kept _ _ _ (fun _ _ => ?_)).trans ?_
         | with_reducible refine (State.kept_foldl _ _ _ (fun _ _ => ?_)).trans ?_
         | with_reducible refine (State.kept_foldl_fst _ _ _ (fun _ _ => ?_)).trans ?_
         | with_reducible refine (State.buffer_kept _ _ _ _ (fun _ => ?_)).trans ?_
         | with_reducible refine (State.consuming_kept _ _ _ _ (fun _ => ?_)).trans ?_
         | with_reducible refine (State.oldest_kept _ _ _ _ (fun _ _ => ?_)).trans ?_
         | simp only [↓State.quiet_kept, ↓State.kept_ite, State.kept_mk, State.kept_eta, ite_self, ↓State.kept_foldl, ↓State.each_kept, ↓State.buffer_kept, ↓State.commit_kept, ↓State.consuming_kept, ↓State.oldest_kept, ↓State.quiet_kept, ↓State.signals_kept]
         | split))

theorem execEvtm_kept (t : Fin 4) (s : State) (out : State) (h : execEvtm t s = .next out) : out.kept = s.kept := by
  unfold execEvtm at h
  try dsimp only at h
  (repeat' split at h) <;> first
    | (cases h; done)
    | (injection h with h; subst h
       (repeat' first
         | with_reducible rfl
         | with_reducible refine (State.each_kept _ _ _ (fun _ _ => ?_)).trans ?_
         | with_reducible refine (State.kept_foldl _ _ _ (fun _ _ => ?_)).trans ?_
         | with_reducible refine (State.kept_foldl_fst _ _ _ (fun _ _ => ?_)).trans ?_
         | with_reducible refine (State.buffer_kept _ _ _ _ (fun _ => ?_)).trans ?_
         | with_reducible refine (State.oldest_kept _ _ _ _ (fun _ _ => ?_)).trans ?_
         | simp only [↓State.quiet_kept, ↓State.kept_ite, State.kept_mk, State.kept_eta, ite_self, ↓State.kept_foldl, ↓State.each_kept, ↓State.buffer_kept, ↓State.commit_kept, ↓State.oldest_kept, ↓State.quiet_kept, ↓State.signals_kept]
         | split))

theorem execMirrThread_kept (t : Fin 4) (s : State) (out : State) (h : execMirrThread t s = .next out) : out.kept = s.kept := by
  unfold execMirrThread at h
  try dsimp only at h
  (repeat' split at h) <;> first
    | (cases h; done)
    | (injection h with h; subst h
       (repeat' first
         | with_reducible rfl
         | with_reducible refine (State.each_kept _ _ _ (fun _ _ => ?_)).trans ?_
         | with_reducible refine (State.kept_foldl _ _ _ (fun _ _ => ?_)).trans ?_
         | with_reducible refine (State.kept_foldl_fst _ _ _ (fun _ _ => ?_)).trans ?_
         | with_reducible refine (State.buffer_kept _ _ _ _ (fun _ => ?_)).trans ?_
         | with_reducible refine (State.oldest_kept _ _ _ _ (fun _ _ => ?_)).trans ?_
         | simp only [↓State.quiet_kept, ↓State.kept_ite, State.kept_mk, State.kept_eta, ite_self, ↓State.kept_foldl, ↓State.each_kept, ↓State.buffer_kept, ↓State.commit_kept, ↓State.mirrorThread_kept, ↓State.oldest_kept, ↓State.quiet_kept]
         | split))

theorem execMirrRegion_kept (t : Fin 4) (s : State) (out : State) (h : execMirrRegion t s = .next out) : out.kept = s.kept := by
  unfold execMirrRegion at h
  try dsimp only at h
  (repeat' split at h) <;> first
    | (cases h; done)
    | (injection h with h; subst h
       (repeat' first
         | with_reducible rfl
         | with_reducible refine (State.each_kept _ _ _ (fun _ _ => ?_)).trans ?_
         | with_reducible refine (State.kept_foldl _ _ _ (fun _ _ => ?_)).trans ?_
         | with_reducible refine (State.kept_foldl_fst _ _ _ (fun _ _ => ?_)).trans ?_
         | with_reducible refine (State.buffer_kept _ _ _ _ (fun _ => ?_)).trans ?_
         | with_reducible refine (State.consuming_kept _ _ _ _ (fun _ => ?_)).trans ?_
         | with_reducible refine (State.oldest_kept _ _ _ _ (fun _ _ => ?_)).trans ?_
         | simp only [↓State.quiet_kept, ↓State.kept_ite, State.kept_mk, State.kept_eta, ite_self, ↓State.kept_foldl, ↓State.each_kept, ↓State.buffer_kept, ↓State.commit_kept, ↓State.consuming_kept, ↓State.mirrorRegion_kept, ↓State.oldest_kept, ↓State.quiet_kept]
         | split))

theorem execMirrBank_kept (t : Fin 4) (s : State) (out : State) (h : execMirrBank t s = .next out) : out.kept = s.kept := by
  unfold execMirrBank at h
  try dsimp only at h
  (repeat' split at h) <;> first
    | (cases h; done)
    | (injection h with h; subst h
       (repeat' first
         | with_reducible rfl
         | with_reducible refine (State.each_kept _ _ _ (fun _ _ => ?_)).trans ?_
         | with_reducible refine (State.kept_foldl _ _ _ (fun _ _ => ?_)).trans ?_
         | with_reducible refine (State.kept_foldl_fst _ _ _ (fun _ _ => ?_)).trans ?_
         | with_reducible refine (State.buffer_kept _ _ _ _ (fun _ => ?_)).trans ?_
         | with_reducible refine (State.consuming_kept _ _ _ _ (fun _ => ?_)).trans ?_
         | with_reducible refine (State.oldest_kept _ _ _ _ (fun _ _ => ?_)).trans ?_
         | simp only [↓State.quiet_kept, ↓State.kept_ite, State.kept_mk, State.kept_eta, ite_self, ↓State.kept_foldl, ↓State.each_kept, ↓State.buffer_kept, ↓State.commit_kept, ↓State.consuming_kept, ↓State.mirrorBank_kept, ↓State.oldest_kept, ↓State.quiet_kept]
         | split))

theorem execEmit_kept (t : Fin 4) (s : State) (out : State) (h : execEmit t s = .next out) : out.kept = s.kept := by
  unfold execEmit at h
  try dsimp only at h
  (repeat' split at h) <;> first
    | (cases h; done)
    | (injection h with h; subst h
       (repeat' first
         | with_reducible rfl
         | with_reducible refine (State.each_kept _ _ _ (fun _ _ => ?_)).trans ?_
         | with_reducible refine (State.kept_foldl _ _ _ (fun _ _ => ?_)).trans ?_
         | with_reducible refine (State.kept_foldl_fst _ _ _ (fun _ _ => ?_)).trans ?_
         | with_reducible refine (State.buffer_kept _ _ _ _ (fun _ => ?_)).trans ?_
         | with_reducible refine (State.consuming_kept _ _ _ _ (fun _ => ?_)).trans ?_
         | with_reducible refine (State.oldest_kept _ _ _ _ (fun _ _ => ?_)).trans ?_
         | simp only [↓State.quiet_kept, ↓State.kept_ite, State.kept_mk, State.kept_eta, ite_self, ↓State.kept_foldl, ↓State.each_kept, ↓State.buffer_kept, ↓State.commit_kept, ↓State.consuming_kept, ↓State.emitStim_kept, ↓State.oldest_kept, ↓State.quiet_kept]
         | split))

theorem execPwrOn_kept (t : Fin 4) (s : State) (out : State) (h : execPwrOn t s = .next out) : out.kept = s.kept := by
  unfold execPwrOn at h
  injection h with h; subst h; simp only [↓State.kept_ite, State.kept_mk, State.kept_eta, ite_self, ↓State.kept_foldl, ↓State.each_kept, ↓State.powerOp_kept, ↓State.quiet_kept]

theorem execPwrOff_kept (t : Fin 4) (s : State) (out : State) (h : execPwrOff t s = .next out) : out.kept = s.kept := by
  unfold execPwrOff at h
  injection h with h; subst h; simp only [↓State.kept_ite, State.kept_mk, State.kept_eta, ite_self, ↓State.kept_foldl, ↓State.each_kept, ↓State.powerOp_kept, ↓State.quiet_kept]

theorem execKick_kept (t : Fin 4) (s : State) (out : State) (h : execKick t s = .next out) : out.kept = s.kept := by
  unfold execKick at h
  try dsimp only at h
  (repeat' split at h) <;> first
    | (cases h; done)
    | (injection h with h; subst h
       (repeat' first
         | with_reducible rfl
         | with_reducible refine (State.each_kept _ _ _ (fun _ _ => ?_)).trans ?_
         | with_reducible refine (State.kept_foldl _ _ _ (fun _ _ => ?_)).trans ?_
         | with_reducible refine (State.kept_foldl_fst _ _ _ (fun _ _ => ?_)).trans ?_
         | with_reducible refine (State.buffer_kept _ _ _ _ (fun _ => ?_)).trans ?_
         | with_reducible refine (State.oldest_kept _ _ _ _ (fun _ _ => ?_)).trans ?_
         | simp only [↓State.quiet_kept, ↓State.kept_ite, State.kept_mk, State.kept_eta, ite_self, ↓State.kept_foldl, ↓State.each_kept, ↓State.buffer_kept, ↓State.commit_kept, ↓State.oldest_kept, ↓State.quiet_kept, ↓State.wdtLoad_kept]
         | split))

theorem execExit_kept (t : Fin 4) (s : State) (out : State) (h : execExit t s = .next out) : out.kept = s.kept := by
  unfold execExit at h
  try dsimp only at h
  (repeat' split at h) <;> first
    | (cases h; done)
    | (injection h with h; subst h
       (repeat' first
         | with_reducible rfl
         | with_reducible refine (State.each_kept _ _ _ (fun _ _ => ?_)).trans ?_
         | with_reducible refine (State.kept_foldl _ _ _ (fun _ _ => ?_)).trans ?_
         | with_reducible refine (State.kept_foldl_fst _ _ _ (fun _ _ => ?_)).trans ?_
         | with_reducible refine (State.oldest_kept _ _ _ _ (fun _ _ => ?_)).trans ?_
         | with_reducible refine (State.unlockedOnly_kept _ _ _ (fun _ => ?_)).trans ?_
         | simp only [↓State.quiet_kept, ↓State.kept_ite, State.kept_mk, State.kept_eta, ite_self, ↓State.kept_foldl, ↓State.each_kept, ↓State.oldest_kept, ↓State.quiet_kept, ↓State.setThread_kept, ↓State.setTpc_kept, ↓State.threadOff_kept, ↓State.unlockedOnly_kept]
         | split))

theorem execLock_kept (t : Fin 4) (s : State) (out : State) (h : execLock t s = .next out) : out.kept = s.kept := by
  unfold execLock at h
  try dsimp only at h
  (repeat' split at h) <;> first
    | (cases h; done)
    | (injection h with h; subst h
       (repeat' first
         | with_reducible rfl
         | with_reducible refine (State.each_kept _ _ _ (fun _ _ => ?_)).trans ?_
         | with_reducible refine (State.kept_foldl _ _ _ (fun _ _ => ?_)).trans ?_
         | with_reducible refine (State.kept_foldl_fst _ _ _ (fun _ _ => ?_)).trans ?_
         | with_reducible refine (State.oldest_kept _ _ _ _ (fun _ _ => ?_)).trans ?_
         | with_reducible refine (State.unlockedOnly_kept _ _ _ (fun _ => ?_)).trans ?_
         | simp only [↓State.quiet_kept, ↓State.kept_ite, State.kept_mk, State.kept_eta, ite_self, ↓State.kept_foldl, ↓State.each_kept, ↓State.commit_kept, ↓State.oldest_kept, ↓State.quiet_kept, ↓State.set1_kept, ↓State.setThread_kept, ↓State.unlockedOnly_kept]
         | split))

theorem execUnlock_kept (t : Fin 4) (s : State) (out : State) (h : execUnlock t s = .next out) : out.kept = s.kept := by
  unfold execUnlock at h
  try dsimp only at h
  (repeat' split at h) <;> first
    | (cases h; done)
    | (injection h with h; subst h
       (repeat' first
         | with_reducible rfl
         | with_reducible refine (State.each_kept _ _ _ (fun _ _ => ?_)).trans ?_
         | with_reducible refine (State.kept_foldl _ _ _ (fun _ _ => ?_)).trans ?_
         | with_reducible refine (State.kept_foldl_fst _ _ _ (fun _ _ => ?_)).trans ?_
         | with_reducible refine (State.oldest_kept _ _ _ _ (fun _ _ => ?_)).trans ?_
         | simp only [↓State.quiet_kept, ↓State.kept_ite, State.kept_mk, State.kept_eta, ite_self, ↓State.kept_foldl, ↓State.each_kept, ↓State.bump_kept, ↓State.commit_kept, ↓State.dropLock_kept, ↓State.oldest_kept, ↓State.quiet_kept, ↓State.release_kept, ↓State.threadFault_kept]
         | split))

theorem execBankCfgWrite_kept (ini : Ini) (b : Fin 2048) (value : BitVec 32) (s : State) (out : State) (h : execBankCfgWrite ini b value s = .next out) : out.kept = s.kept := by
  unfold execBankCfgWrite at h
  try dsimp only at h
  (repeat' split at h) <;> first
    | (cases h; done)
    | (injection h with h; subst h
       (repeat' first
         | with_reducible rfl
         | with_reducible refine (State.each_kept _ _ _ (fun _ _ => ?_)).trans ?_
         | with_reducible refine (State.kept_foldl _ _ _ (fun _ _ => ?_)).trans ?_
         | with_reducible refine (State.kept_foldl_fst _ _ _ (fun _ _ => ?_)).trans ?_
         | with_reducible refine (State.written_kept _ _ _ _ (fun _ => ?_)).trans ?_
         | simp only [↓State.quiet_kept, ↓State.kept_ite, State.kept_mk, State.kept_eta, ite_self, ↓State.kept_foldl, ↓State.each_kept, ↓State.quiet_kept, ↓State.written_kept, ↓wrBankCfg_kept]
         | split))

theorem execBankWinWrite_kept (ini : Ini) (b : Fin 2048) (portB : Bool) (value : BitVec 32) (s : State) (out : State) (h : execBankWinWrite ini b portB value s = .next out) : out.kept = s.kept := by
  unfold execBankWinWrite at h
  try dsimp only at h
  (repeat' split at h) <;> first
    | (cases h; done)
    | (injection h with h; subst h
       (repeat' first
         | with_reducible rfl
         | with_reducible refine (State.each_kept _ _ _ (fun _ _ => ?_)).trans ?_
         | with_reducible refine (State.kept_foldl _ _ _ (fun _ _ => ?_)).trans ?_
         | with_reducible refine (State.kept_foldl_fst _ _ _ (fun _ _ => ?_)).trans ?_
         | with_reducible refine (State.written_kept _ _ _ _ (fun _ => ?_)).trans ?_
         | simp only [↓State.quiet_kept, ↓State.kept_ite, State.kept_mk, State.kept_eta, ite_self, ↓State.kept_foldl, ↓State.each_kept, ↓State.quiet_kept, ↓State.written_kept, ↓wrBankWin_kept]
         | split))

theorem execBankPowerRequest_kept (ini : Ini) (b : Fin 2048) (value : BitVec 32) (s : State) (out : State) (h : execBankPowerRequest ini b value s = .next out) : out.kept = s.kept := by
  unfold execBankPowerRequest at h
  try dsimp only at h
  (repeat' split at h) <;> first
    | (cases h; done)
    | (injection h with h; subst h
       (repeat' first
         | with_reducible rfl
         | with_reducible refine (State.each_kept _ _ _ (fun _ _ => ?_)).trans ?_
         | with_reducible refine (State.kept_foldl _ _ _ (fun _ _ => ?_)).trans ?_
         | with_reducible refine (State.kept_foldl_fst _ _ _ (fun _ _ => ?_)).trans ?_
         | with_reducible refine (State.written_kept _ _ _ _ (fun _ => ?_)).trans ?_
         | simp only [↓State.quiet_kept, ↓State.kept_ite, State.kept_mk, State.kept_eta, ite_self, ↓State.kept_foldl, ↓State.each_kept, ↓State.quiet_kept, ↓State.written_kept, ↓wrBankPwr_kept]
         | split))

theorem execSlotBoundary_kept (s : State) (out : State) (h : execSlotBoundary s = .next out) : out.kept = s.kept := by
  unfold execSlotBoundary at h
  try dsimp only at h
  (repeat' split at h) <;> first
    | (cases h; done)
    | (injection h with h; subst h; simp only [↓State.kept_ite, State.kept_mk, State.kept_eta, ite_self, ↓State.kept_foldl, ↓State.each_kept, ↓State.quiet_kept, ↓State.slotBoundary_kept, ↓State.snoopBoundary_kept]; done)

theorem execErase_kept (ini : Ini) (n : Fin 64) (p : Fin 8) (s : State) (out : State) (h : execErase ini n p s = .next out) : out.kept = s.kept := by
  unfold execErase at h
  try dsimp only at h
  (repeat' split at h) <;> first
    | (cases h; done)
    | (injection h with h; subst h
       (repeat' first
         | with_reducible rfl
         | with_reducible refine (State.each_kept _ _ _ (fun _ _ => ?_)).trans ?_
         | with_reducible refine (State.kept_foldl _ _ _ (fun _ _ => ?_)).trans ?_
         | with_reducible refine (State.kept_foldl_fst _ _ _ (fun _ _ => ?_)).trans ?_
         | with_reducible refine (State.written_kept _ _ _ _ (fun _ => ?_)).trans ?_
         | simp only [↓State.quiet_kept, ↓State.kept_ite, State.kept_mk, State.kept_eta, ite_self, ↓State.kept_foldl, ↓State.each_kept, ↓State.erase_kept, ↓State.quiet_kept, ↓State.wr_kept, ↓State.written_kept]
         | split))

theorem execPowerUp_kept (n : Fin 64) (src : CmdSrc) (s : State) (out : State) (h : execPowerUp n src s = .next out) : out.kept = s.kept := by
  unfold execPowerUp at h
  injection h with h; subst h; simp only [↓State.kept_ite, State.kept_mk, State.kept_eta, ite_self, ↓State.kept_foldl, ↓State.each_kept, ↓State.commandNow_kept, ↓State.quiet_kept]

theorem execPowerOff_kept (n : Fin 64) (src : CmdSrc) (s : State) (out : State) (h : execPowerOff n src s = .next out) : out.kept = s.kept := by
  unfold execPowerOff at h
  injection h with h; subst h; simp only [↓State.kept_ite, State.kept_mk, State.kept_eta, ite_self, ↓State.kept_foldl, ↓State.each_kept, ↓State.commandNow_kept, ↓State.quiet_kept]

theorem execFill_kept (n : Fin 64) (src : CmdSrc) (p : Fin 8) (s : State) (out : State) (h : execFill n src p s = .next out) : out.kept = s.kept := by
  unfold execFill at h
  injection h with h; subst h; simp only [↓State.kept_ite, State.kept_mk, State.kept_eta, ite_self, ↓State.kept_foldl, ↓State.each_kept, ↓State.commandNow_kept, ↓State.quiet_kept]

theorem execSwap_kept (n : Fin 64) (src : CmdSrc) (p : Fin 8) (s : State) (out : State) (h : execSwap n src p s = .next out) : out.kept = s.kept := by
  unfold execSwap at h
  injection h with h; subst h; simp only [↓State.kept_ite, State.kept_mk, State.kept_eta, ite_self, ↓State.kept_foldl, ↓State.each_kept, ↓State.commandNow_kept, ↓State.quiet_kept]

theorem execHold_kept (n : Fin 64) (src : CmdSrc) (s : State) (out : State) (h : execHold n src s = .next out) : out.kept = s.kept := by
  unfold execHold at h
  injection h with h; subst h; simp only [↓State.kept_ite, State.kept_mk, State.kept_eta, ite_self, ↓State.kept_foldl, ↓State.each_kept, ↓State.commandNow_kept, ↓State.quiet_kept]

theorem execRelease_kept (n : Fin 64) (src : CmdSrc) (s : State) (out : State) (h : execRelease n src s = .next out) : out.kept = s.kept := by
  unfold execRelease at h
  injection h with h; subst h; simp only [↓State.kept_ite, State.kept_mk, State.kept_eta, ite_self, ↓State.kept_foldl, ↓State.each_kept, ↓State.commandNow_kept, ↓State.quiet_kept]

theorem execStop_kept (n : Fin 64) (src : CmdSrc) (s : State) (out : State) (h : execStop n src s = .next out) : out.kept = s.kept := by
  unfold execStop at h
  injection h with h; subst h; simp only [↓State.kept_ite, State.kept_mk, State.kept_eta, ite_self, ↓State.kept_foldl, ↓State.each_kept, ↓State.commandNow_kept, ↓State.quiet_kept]

theorem execIsolate_kept (n : Fin 64) (s : State) (out : State) (h : execIsolate n s = .next out) : out.kept = s.kept := by
  unfold execIsolate at h
  injection h with h; subst h; simp only [↓State.kept_ite, State.kept_mk, State.kept_eta, ite_self, ↓State.kept_foldl, ↓State.each_kept, ↓State.commandNow_kept, ↓State.quiet_kept]

theorem execUnisolate_kept (n : Fin 64) (s : State) (out : State) (h : execUnisolate n s = .next out) : out.kept = s.kept := by
  unfold execUnisolate at h
  injection h with h; subst h; simp only [↓State.kept_ite, State.kept_mk, State.kept_eta, ite_self, ↓State.kept_foldl, ↓State.each_kept, ↓State.commandNow_kept, ↓State.quiet_kept]

theorem execClear_kept (n : Fin 64) (s : State) (out : State) (h : execClear n s = .next out) : out.kept = s.kept := by
  unfold execClear at h
  injection h with h; subst h; simp only [↓State.kept_ite, State.kept_mk, State.kept_eta, ite_self, ↓State.kept_foldl, ↓State.each_kept, ↓State.commandNow_kept, ↓State.quiet_kept]

theorem execCancelFill_kept (n : Fin 64) (src : CmdSrc) (s : State) (out : State) (h : execCancelFill n src s = .next out) : out.kept = s.kept := by
  unfold execCancelFill at h
  injection h with h; subst h; simp only [↓State.kept_ite, State.kept_mk, State.kept_eta, ite_self, ↓State.kept_foldl, ↓State.each_kept, ↓State.commandNow_kept, ↓State.quiet_kept]

theorem execOwnerWrite_kept (ini : Ini) (n : Fin 64) (owner : Bool) (s : State) (out : State) (h : execOwnerWrite ini n owner s = .next out) : out.kept = s.kept := by
  unfold execOwnerWrite at h
  try dsimp only at h
  (repeat' split at h) <;> first
    | (cases h; done)
    | (injection h with h; subst h
       (repeat' first
         | with_reducible rfl
         | with_reducible refine (State.each_kept _ _ _ (fun _ _ => ?_)).trans ?_
         | with_reducible refine (State.kept_foldl _ _ _ (fun _ _ => ?_)).trans ?_
         | with_reducible refine (State.kept_foldl_fst _ _ _ (fun _ _ => ?_)).trans ?_
         | with_reducible refine (State.written_kept _ _ _ _ (fun _ => ?_)).trans ?_
         | simp only [↓State.quiet_kept, ↓State.kept_ite, State.kept_mk, State.kept_eta, ite_self, ↓State.kept_foldl, ↓State.each_kept, ↓State.quiet_kept, ↓State.writeOwner_kept, ↓State.written_kept]
         | split))

theorem execRegionCmdEffect_kept (n : Fin 64) (s : State) (out : State) (h : execRegionCmdEffect n s = .next out) : out.kept = s.kept := by
  unfold execRegionCmdEffect at h
  try dsimp only at h
  (repeat' split at h) <;> first
    | (cases h; done)
    | (injection h with h; subst h; simp only [↓State.kept_ite, State.kept_mk, State.kept_eta, ite_self, ↓State.kept_foldl, ↓State.each_kept, ↓State.actRegion_kept, ↓State.quiet_kept, ↓State.refuse_kept, ↓State.setRegion_kept]; done)

theorem execSquash_kept (n : Fin 64) (p : Fin 8) (t : Fin 4) (s : State) (out : State) (h : execSquash n p t s = .next out) : out.kept = s.kept := by
  unfold execSquash at h
  injection h with h; subst h; simp only [↓State.kept_ite, State.kept_mk, State.kept_eta, ite_self, ↓State.kept_foldl, ↓State.each_kept, ↓State.quiet_kept, ↓State.squashFill_kept]

theorem execSeqCommandArrival_kept (s : State) (out : State) (h : execSeqCommandArrival s = .next out) : out.kept = s.kept := by
  unfold execSeqCommandArrival at h
  try dsimp only at h
  (repeat' split at h) <;> first
    | (cases h; done)
    | (injection h with h; subst h; simp only [↓State.kept_ite, State.kept_mk, State.kept_eta, ite_self, ↓State.kept_foldl, ↓State.each_kept, ↓State.quiet_kept, ↓State.regionCommand_kept, ↓State.specFill_kept, ↓State.squashFill_kept, ↓State.threadPower_kept]; done)

theorem execFillGrant_kept (s : State) (out : State) (h : execFillGrant s = .next out) : out.kept = s.kept := by
  unfold execFillGrant at h
  try dsimp only at h
  (repeat' split at h) <;> first
    | (cases h; done)
    | (injection h with h; subst h; simp only [↓State.kept_ite, State.kept_mk, State.kept_eta, ite_self, ↓State.kept_foldl, ↓State.each_kept, ↓State.quiet_kept, ↓State.setShState_kept, ↓State.wr_kept]; done)

theorem execFillComplete_kept (n : Fin 64) (s : State) (out : State) (h : execFillComplete n s = .next out) : out.kept = s.kept := by
  unfold execFillComplete at h
  try dsimp only at h
  (repeat' split at h) <;> first
    | (cases h; done)
    | (injection h with h; subst h
       (repeat' first
         | with_reducible rfl
         | with_reducible refine (State.each_kept _ _ _ (fun _ _ => ?_)).trans ?_
         | with_reducible refine (State.kept_foldl _ _ _ (fun _ _ => ?_)).trans ?_
         | with_reducible refine (State.kept_foldl_fst _ _ _ (fun _ _ => ?_)).trans ?_
         | simp only [↓State.quiet_kept, ↓State.kept_ite, State.kept_mk, State.kept_eta, ite_self, ↓State.kept_foldl, ↓State.each_kept, ↓State.damagePlane_kept, ↓State.drawn_kept, ↓State.fallbackLost_kept, ↓State.fillEnded_kept, ↓State.invalidateShadow_kept, ↓State.quiet_kept, ↓State.reportCorr_kept, ↓State.restoreFrames_kept, ↓State.setShState_kept, ↓State.wr_kept]
         | split))

theorem execDecisionPoint_kept (n : Fin 64) (s : State) (out : State) (h : execDecisionPoint n s = .next out) : out.kept = s.kept := by
  unfold execDecisionPoint at h
  try dsimp only at h
  (repeat' split at h) <;> first
    | (cases h; done)
    | (injection h with h; subst h; simp only [↓State.kept_ite, State.kept_mk, State.kept_eta, ite_self, ↓State.kept_foldl, ↓State.each_kept, ↓State.bump_kept, ↓State.deferArms_kept, ↓State.dropArms_kept, ↓State.log_kept, ↓State.quiet_kept, ↓State.setBit_kept, ↓State.setRegion_kept, ↓State.takeLate_kept]; done)

theorem execClampCycle_kept (n : Fin 64) (s : State) (out : State) (h : execClampCycle n s = .next out) : out.kept = s.kept := by
  unfold execClampCycle at h
  try dsimp only at h
  (repeat' split at h) <;> first
    | (cases h; done)
    | (injection h with h; subst h; simp only [↓State.kept_ite, State.kept_mk, State.kept_eta, ite_self, ↓State.kept_foldl, ↓State.each_kept, ↓State.beginClamp_kept, ↓State.finishStop_kept, ↓State.quiet_kept, ↓State.refuseArmed_kept, ↓State.unarm_kept]; done)

theorem execRefetch_kept (n : Fin 64) (s : State) (out : State) (h : execRefetch n s = .next out) : out.kept = s.kept := by
  unfold execRefetch at h
  try dsimp only at h
  (repeat' split at h) <;> first
    | (cases h; done)
    | (injection h with h; subst h; simp only [↓State.kept_ite, State.kept_mk, State.kept_eta, ite_self, ↓State.kept_foldl, ↓State.each_kept, ↓State.clrHold_kept, ↓State.quiet_kept, ↓State.setHold_kept, ↓State.setRegion_kept]; done)

theorem execCourierGo_kept (ini : Ini) (c : Fin 32) (s : State) (out : State) (h : execCourierGo ini c s = .next out) : out.kept = s.kept := by
  unfold execCourierGo at h
  try dsimp only at h
  (repeat' split at h) <;> first
    | (cases h; done)
    | (injection h with h; subst h
       (repeat' first
         | with_reducible rfl
         | with_reducible refine (State.each_kept _ _ _ (fun _ _ => ?_)).trans ?_
         | with_reducible refine (State.kept_foldl _ _ _ (fun _ _ => ?_)).trans ?_
         | with_reducible refine (State.kept_foldl_fst _ _ _ (fun _ _ => ?_)).trans ?_
         | with_reducible refine (State.written_kept _ _ _ _ (fun _ => ?_)).trans ?_
         | simp only [↓State.quiet_kept, ↓State.kept_ite, State.kept_mk, State.kept_eta, ite_self, ↓State.kept_foldl, ↓State.each_kept, ↓State.courierGo_kept, ↓State.quiet_kept, ↓State.written_kept]
         | split))

theorem execCourierAbort_kept (ini : Ini) (c : Fin 32) (s : State) (out : State) (h : execCourierAbort ini c s = .next out) : out.kept = s.kept := by
  unfold execCourierAbort at h
  try dsimp only at h
  (repeat' split at h) <;> first
    | (cases h; done)
    | (injection h with h; subst h
       (repeat' first
         | with_reducible rfl
         | with_reducible refine (State.each_kept _ _ _ (fun _ _ => ?_)).trans ?_
         | with_reducible refine (State.kept_foldl _ _ _ (fun _ _ => ?_)).trans ?_
         | with_reducible refine (State.kept_foldl_fst _ _ _ (fun _ _ => ?_)).trans ?_
         | with_reducible refine (State.written_kept _ _ _ _ (fun _ => ?_)).trans ?_
         | simp only [↓State.quiet_kept, ↓State.kept_ite, State.kept_mk, State.kept_eta, ite_self, ↓State.kept_foldl, ↓State.each_kept, ↓State.courierAbort_kept, ↓State.quiet_kept, ↓State.written_kept]
         | split))

theorem execCourierStartRequest_kept (c : Fin 32) (rq : Request) (s : State) (out : State) (h : execCourierStartRequest c rq s = .next out) : out.kept = s.kept := by
  unfold execCourierStartRequest at h
  try dsimp only at h
  (repeat' split at h) <;> first
    | (cases h; done)
    | (injection h with h; subst h; simp only [↓State.kept_ite, State.kept_mk, State.kept_eta, ite_self, ↓State.kept_foldl, ↓State.each_kept, ↓State.courierStart_kept, ↓State.quiet_kept, ↓State.reply_kept]; done)

theorem execCourierReadAnswer_kept (c : Fin 32) (tag : BitVec 8) (a : Answer) (s : State) (out : State) (h : execCourierReadAnswer c tag a s = .next out) : out.kept = s.kept := by
  unfold execCourierReadAnswer at h
  (repeat' split at h) <;> first
    | (cases h; done)
    | (injection h with h; subst h; simp only [↓State.kept_ite, State.kept_mk, State.kept_eta, ite_self, ↓State.kept_foldl, ↓State.each_kept, ↓State.courierTake_kept, ↓State.quiet_kept]; done)

theorem execCourierWriteAnswer_kept (c : Fin 32) (tag : BitVec 8) (a : Answer) (s : State) (out : State) (h : execCourierWriteAnswer c tag a s = .next out) : out.kept = s.kept := by
  unfold execCourierWriteAnswer at h
  (repeat' split at h) <;> first
    | (cases h; done)
    | (injection h with h; subst h; simp only [↓State.kept_ite, State.kept_mk, State.kept_eta, ite_self, ↓State.kept_foldl, ↓State.each_kept, ↓State.courierTake_kept, ↓State.quiet_kept]; done)

theorem execRsFieldRead_kept (ini : Ini) (off : BitVec 28) (s : State) (out : State) (h : execRsFieldRead ini off s = .next out) : out.kept = s.kept := by
  unfold execRsFieldRead at h
  injection h with h; subst h; simp only [↓State.kept_ite, State.kept_mk, State.kept_eta, ite_self, ↓State.kept_foldl, ↓State.each_kept, ↓State.quiet_kept, ↓State.readAnswer_kept]

theorem execPairLoRead_kept (ini : Ini) (off : BitVec 28) (s : State) (out : State) (h : execPairLoRead ini off s = .next out) : out.kept = s.kept := by
  unfold execPairLoRead at h
  injection h with h; subst h; simp only [↓State.kept_ite, State.kept_mk, State.kept_eta, ite_self, ↓State.kept_foldl, ↓State.each_kept, ↓State.quiet_kept, ↓State.readAnswer_kept]

theorem execPairHiRead_kept (ini : Ini) (off : BitVec 28) (s : State) (out : State) (h : execPairHiRead ini off s = .next out) : out.kept = s.kept := by
  unfold execPairHiRead at h
  injection h with h; subst h; simp only [↓State.kept_ite, State.kept_mk, State.kept_eta, ite_self, ↓State.kept_foldl, ↓State.each_kept, ↓State.quiet_kept, ↓State.readAnswer_kept]

theorem execIdcode_kept (s : State) (out : State) (h : execIdcode s = .next out) : out.kept = s.kept := by
  unfold execIdcode at h
  injection h with h; subst h; simp only [↓State.kept_ite, State.kept_mk, State.kept_eta, ite_self, ↓State.kept_foldl, ↓State.each_kept, ↓State.emit_kept, ↓State.loadIr_kept, ↓State.quiet_kept]

theorem execSamplePreload_kept (levels : List (BitVec 32)) (dedicated : BitVec 64) (value : BitVec 3136) (s : State) (out : State) (h : execSamplePreload levels dedicated value s = .next out) : out.kept = s.kept := by
  unfold execSamplePreload at h
  (repeat' split at h) <;> first
    | (cases h; done)
    | (injection h with h; subst h; simp only [↓State.kept_ite, State.kept_mk, State.kept_eta, ite_self, ↓State.kept_foldl, ↓State.each_kept, ↓State.emit_kept, ↓State.loadIr_kept, ↓State.quiet_kept, ↓State.setJtag_kept]; done)

theorem execExtest_kept (scan : Option BoundaryScan) (s : State) (out : State) (h : execExtest scan s = .next out) : out.kept = s.kept := by
  unfold execExtest at h
  try dsimp only at h
  (repeat' split at h) <;> first
    | (cases h; done)
    | (injection h with h; subst h
       (repeat' first
         | with_reducible rfl
         | with_reducible refine (State.each_kept _ _ _ (fun _ _ => ?_)).trans ?_
         | with_reducible refine (State.kept_foldl _ _ _ (fun _ _ => ?_)).trans ?_
         | with_reducible refine (State.kept_foldl_fst _ _ _ (fun _ _ => ?_)).trans ?_
         | simp only [↓State.quiet_kept, ↓State.kept_ite, State.kept_mk, State.kept_eta, ite_self, ↓State.kept_foldl, ↓State.each_kept, ↓State.bypassOut_kept, ↓State.emit_kept, ↓State.loadIr_kept, ↓State.quiet_kept, ↓State.setJtag_kept]
         | split))

theorem execHighz_kept (s : State) (out : State) (h : execHighz s = .next out) : out.kept = s.kept := by
  unfold execHighz at h
  injection h with h; subst h; simp only [↓State.kept_ite, State.kept_mk, State.kept_eta, ite_self, ↓State.kept_foldl, ↓State.each_kept, ↓State.bypassOut_kept, ↓State.loadIr_kept, ↓State.quiet_kept]

theorem execClampInstr_kept (s : State) (out : State) (h : execClampInstr s = .next out) : out.kept = s.kept := by
  unfold execClampInstr at h
  injection h with h; subst h; simp only [↓State.kept_ite, State.kept_mk, State.kept_eta, ite_self, ↓State.kept_foldl, ↓State.each_kept, ↓State.bypassOut_kept, ↓State.loadIr_kept, ↓State.quiet_kept]

theorem execDbg_kept (s : State) (out : State) (h : execDbg s = .next out) : out.kept = s.kept := by
  unfold execDbg at h
  injection h with h; subst h; simp only [↓State.kept_ite, State.kept_mk, State.kept_eta, ite_self, ↓State.kept_foldl, ↓State.each_kept, ↓State.loadIr_kept, ↓State.quiet_kept]

theorem execScan_kept (s : State) (out : State) (h : execScan s = .next out) : out.kept = s.kept := by
  unfold execScan at h
  injection h with h; subst h; simp only [↓State.kept_ite, State.kept_mk, State.kept_eta, ite_self, ↓State.kept_foldl, ↓State.each_kept, ↓State.bypassOut_kept, ↓State.loadIr_kept, ↓State.quiet_kept]

theorem execBypass_kept (code : BitVec 8) (s : State) (out : State) (h : execBypass code s = .next out) : out.kept = s.kept := by
  unfold execBypass at h
  (repeat' split at h) <;> first
    | (cases h; done)
    | (injection h with h; subst h; simp only [↓State.kept_ite, State.kept_mk, State.kept_eta, ite_self, ↓State.kept_foldl, ↓State.each_kept, ↓State.bypassOut_kept, ↓State.loadIr_kept, ↓State.quiet_kept]; done)

theorem execDbgInitAnswer_kept (tag : BitVec 8) (a : Answer) (s out : State) (h : execDbgInitAnswer tag a s = .next out) :
    out.kept = s.kept := by
  unfold execDbgInitAnswer at h
  dsimp only at h
  split at h
  · injection h with h; subst h; rfl
  · next x hx =>
    injection h with h
    subst h
    have e := State.takeAnswer_kept _ _ _ _ _ hx
    split <;> simp only [↓State.wr_kept, ↓State.placeData_kept, ↓State.clr_kept, ↓State.set1_kept] <;> exact e

theorem execHaltPendingLocked_kept (t : Fin 4) (s : State) (out : State) (h : execHaltPendingLocked t s = .next out) : out.kept = s.kept := by
  unfold execHaltPendingLocked at h
  injection h with h; subst h; simp only [↓State.kept_ite, State.kept_mk, State.kept_eta, ite_self, ↓State.kept_foldl, ↓State.each_kept, ↓State.quiet_kept, ↓State.set1_kept]

theorem execRegionStepEnd_kept (s : State) (out : State) (h : execRegionStepEnd s = .next out) : out.kept = s.kept := by
  unfold execRegionStepEnd at h
  try dsimp only at h
  (repeat' split at h) <;> first
    | (cases h; done)
    | (injection h with h; subst h; simp only [↓State.kept_ite, State.kept_mk, State.kept_eta, ite_self, ↓State.kept_foldl, ↓State.each_kept, ↓State.clr_kept, ↓State.quiet_kept, ↓State.setHold_kept]; done)

theorem execTraceWriteAnswer_kept (tag : BitVec 8) (a : Answer) (s : State) (out : State) (h : execTraceWriteAnswer tag a s = .next out) : out.kept = s.kept := by
  unfold execTraceWriteAnswer at h
  try dsimp only at h
  (repeat' split at h) <;> first
    | (cases h; done)
    | (injection h with h; subst h
       (repeat' first
         | with_reducible rfl
         | with_reducible refine (State.each_kept _ _ _ (fun _ _ => ?_)).trans ?_
         | with_reducible refine (State.kept_foldl _ _ _ (fun _ _ => ?_)).trans ?_
         | with_reducible refine (State.kept_foldl_fst _ _ _ (fun _ _ => ?_)).trans ?_
         | exact State.takeAnswer_kept _ _ _ _ _ ‹_›
         | exact (State.takeAnswer_kept _ _ _ _ _ ‹_›).trans (by simp only [↓State.quiet_kept, ↓State.kept_ite, State.kept_mk, State.kept_eta, ite_self, ↓State.kept_foldl, ↓State.each_kept, ↓State.log_kept, ↓State.quiet_kept, ↓State.set1_kept, ↓State.tracePush_kept])
         | simp only [↓State.quiet_kept, ↓State.kept_ite, State.kept_mk, State.kept_eta, ite_self, ↓State.kept_foldl, ↓State.each_kept, ↓State.log_kept, ↓State.quiet_kept, ↓State.set1_kept, ↓State.tracePush_kept]
         | split))

theorem execStimWrite_kept (rq : Request) (s : State) (out : State) (h : execStimWrite rq s = .next out) : out.kept = s.kept := by
  unfold execStimWrite at h
  try dsimp only at h
  (repeat' split at h) <;> first
    | (cases h; done)
    | (injection h with h; subst h; simp only [↓State.kept_ite, State.kept_mk, State.kept_eta, ite_self, ↓State.kept_foldl, ↓State.each_kept, ↓State.quiet_kept, ↓State.reply_kept, ↓State.stimulus_kept]; done)

theorem execReadStatus_kept (via : DeskRead) (s : State) (out : State) (h : execReadStatus via s = .next out) : out.kept = s.kept := by
  unfold execReadStatus at h
  (repeat' split at h) <;> first
    | (cases h; done)
    | (injection h with h; subst h; simp only [↓State.kept_ite, State.kept_mk, State.kept_eta, ite_self, ↓State.kept_foldl, ↓State.each_kept, ↓State.emit_kept, ↓State.quiet_kept, ↓State.reply_kept, ↓State.replyData_kept]; done)

theorem execCommand_kept (d : DeskIn) (s : State) (out : State) (h : execCommand d s = .next out) : out.kept = s.kept := by
  unfold execCommand at h
  (repeat' split at h) <;> first
    | (cases h; done)
    | (injection h with h; subst h; simp only [↓State.kept_ite, State.kept_mk, State.kept_eta, ite_self, ↓State.kept_foldl, ↓State.each_kept, ↓State.deskCommand_kept, ↓State.quiet_kept, ↓State.reply_kept]; done)

theorem execDataIn_kept (d : DeskIn) (s : State) (out : State) (h : execDataIn d s = .next out) : out.kept = s.kept := by
  unfold execDataIn at h
  (repeat' split at h) <;> first
    | (cases h; done)
    | (injection h with h; subst h; simp only [↓State.kept_ite, State.kept_mk, State.kept_eta, ite_self, ↓State.kept_foldl, ↓State.each_kept, ↓State.deskInput_kept, ↓State.quiet_kept, ↓State.reply_kept]; done)

theorem execDataOut_kept (place : DeskOut) (count : Nat) (s : State) (out : State) (h : execDataOut place count s = .next out) : out.kept = s.kept := by
  unfold execDataOut at h
  try dsimp only at h
  (repeat' split at h) <;> first
    | (cases h; done)
    | (injection h with h; subst h; simp only [↓State.kept_ite, State.kept_mk, State.kept_eta, ite_self, ↓State.kept_foldl, ↓State.each_kept, ↓State.emit_kept, ↓State.quiet_kept]; done)

theorem State.deskRun_kept (s : State) (code : Nat) (f : State → State) (out : State) (hf : ∀ (a0 : State), (f a0).kept = a0.kept) (h : State.deskRun s code f = .next out) : out.kept = s.kept := by
  unfold State.deskRun at h
  injection h with h; subst h; simp only [↓State.kept_ite, State.kept_mk, State.kept_eta, ite_self, ↓State.kept_foldl, ↓State.each_kept, ↓State.quiet_kept, hf]

theorem execCsrRead_kept (s : State) (out : State) (h : execCsrRead s = .next out) : out.kept = s.kept := by
  unfold execCsrRead at h
  injection h with h; subst h; simp only [↓State.kept_ite, State.kept_mk, State.kept_eta, ite_self, ↓State.kept_foldl, ↓State.each_kept, ↓State.busRead_kept, ↓State.deskAccess_kept, ↓State.deskResult_kept, ↓State.quiet_kept]

theorem execLoadImage_kept (s out : State) (h : execLoadImage s = .next out) : out.kept = s.kept :=
  State.deskRun_kept _ _ _ _ (fun _ => State.deskLoad_kept _ _ (fun _ => rfl)) h

theorem execBootRetry_kept (s : State) (out : State) (h : execBootRetry s = .next out) : out.kept = s.kept := by
  unfold execBootRetry at h
  try dsimp only at h
  (repeat' split at h) <;> first
    | (cases h; done)
    | (injection h with h; subst h
       (repeat' first
         | with_reducible rfl
         | with_reducible refine (State.each_kept _ _ _ (fun _ _ => ?_)).trans ?_
         | with_reducible refine (State.kept_foldl _ _ _ (fun _ _ => ?_)).trans ?_
         | with_reducible refine (State.kept_foldl_fst _ _ _ (fun _ _ => ?_)).trans ?_
         | with_reducible refine (State.deskLoad_kept _ _ (fun _ => ?_)).trans ?_
         | with_reducible refine (State.deskRun_kept _ _ _ (fun _ => ?_)).trans ?_
         | simp only [↓State.quiet_kept, ↓State.kept_ite, State.kept_mk, State.kept_eta, ite_self, ↓State.kept_foldl, ↓State.each_kept, ↓State.clr_kept, ↓State.deskEnd_kept, ↓State.deskLoad_kept, ↓State.setStart_kept, ↓State.wr_kept]
         | split))

theorem execJnlRead_kept (s : State) (out : State) (h : execJnlRead s = .next out) : out.kept = s.kept := by
  unfold execJnlRead at h
  try dsimp only at h
  (repeat' split at h) <;> first
    | (cases h; done)
    | (injection h with h; subst h
       (repeat' first
         | with_reducible rfl
         | with_reducible refine (State.each_kept _ _ _ (fun _ _ => ?_)).trans ?_
         | with_reducible refine (State.kept_foldl _ _ _ (fun _ _ => ?_)).trans ?_
         | with_reducible refine (State.kept_foldl_fst _ _ _ (fun _ _ => ?_)).trans ?_
         | with_reducible refine (State.deskRun_kept _ _ _ (fun _ => ?_)).trans ?_
         | simp only [↓State.quiet_kept, ↓State.kept_ite, State.kept_mk, State.kept_eta, ite_self, ↓State.kept_foldl, ↓State.each_kept, ↓State.deskEnd_kept, ↓State.deskResult_kept, ↓State.drawn_kept]
         | split))

theorem execJnlWrite_kept (s : State) (out : State) (h : execJnlWrite s = .next out) : out.kept = s.kept := by
  unfold execJnlWrite at h
  try dsimp only at h
  (repeat' split at h) <;> first
    | (cases h; done)
    | (injection h with h; subst h
       (repeat' first
         | with_reducible rfl
         | with_reducible refine (State.each_kept _ _ _ (fun _ _ => ?_)).trans ?_
         | with_reducible refine (State.kept_foldl _ _ _ (fun _ _ => ?_)).trans ?_
         | with_reducible refine (State.kept_foldl_fst _ _ _ (fun _ _ => ?_)).trans ?_
         | with_reducible refine (State.deskRun_kept _ _ _ (fun _ => ?_)).trans ?_
         | simp only [↓State.quiet_kept, ↓State.kept_ite, State.kept_mk, State.kept_eta, ite_self, ↓State.kept_foldl, ↓State.each_kept, ↓State.deskEnd_kept, ↓State.deskJournal_kept]
         | split))

theorem execCntInc_kept (s : State) (out : State) (h : execCntInc s = .next out) : out.kept = s.kept := by
  unfold execCntInc at h
  injection h with h; subst h; simp only [↓State.kept_ite, State.kept_mk, State.kept_eta, ite_self, ↓State.kept_foldl, ↓State.each_kept, ↓State.deskEnd_kept, ↓State.deskJournal_kept, ↓State.quiet_kept]

theorem execSettingsSet_kept (s : State) (out : State) (h : execSettingsSet s = .next out) : out.kept = s.kept := by
  unfold execSettingsSet at h
  try dsimp only at h
  (repeat' split at h) <;> first
    | (cases h; done)
    | (injection h with h; subst h
       (repeat' first
         | with_reducible rfl
         | with_reducible refine (State.each_kept _ _ _ (fun _ _ => ?_)).trans ?_
         | with_reducible refine (State.kept_foldl _ _ _ (fun _ _ => ?_)).trans ?_
         | with_reducible refine (State.kept_foldl_fst _ _ _ (fun _ _ => ?_)).trans ?_
         | with_reducible refine (State.deskRun_kept _ _ _ (fun _ => ?_)).trans ?_
         | simp only [↓State.quiet_kept, ↓State.kept_ite, State.kept_mk, State.kept_eta, ite_self, ↓State.kept_foldl, ↓State.each_kept, ↓State.deskEnd_kept, ↓State.deskJournal_kept]
         | split))

theorem execMapoutClear_kept (s : State) (out : State) (h : execMapoutClear s = .next out) : out.kept = s.kept := by
  unfold execMapoutClear at h
  try dsimp only at h
  (repeat' split at h) <;> first
    | (cases h; done)
    | (injection h with h; subst h
       (repeat' first
         | with_reducible rfl
         | with_reducible refine (State.each_kept _ _ _ (fun _ _ => ?_)).trans ?_
         | with_reducible refine (State.kept_foldl _ _ _ (fun _ _ => ?_)).trans ?_
         | with_reducible refine (State.kept_foldl_fst _ _ _ (fun _ _ => ?_)).trans ?_
         | with_reducible refine (State.deskRun_kept _ _ _ (fun _ => ?_)).trans ?_
         | simp only [↓State.quiet_kept, ↓State.kept_ite, State.kept_mk, State.kept_eta, ite_self, ↓State.kept_foldl, ↓State.each_kept, ↓State.deskEnd_kept, ↓State.deskJournal_kept]
         | split))

theorem execGbRead_kept (s : State) (out : State) (h : execGbRead s = .next out) : out.kept = s.kept := by
  unfold execGbRead at h
  injection h with h; subst h; simp only [↓State.kept_ite, State.kept_mk, State.kept_eta, ite_self, ↓State.kept_foldl, ↓State.each_kept, ↓State.deskEnd_kept, ↓State.deskResult_kept, ↓State.drawn_kept, ↓State.quiet_kept]

theorem execGbUnfreeze_kept (s : State) (out : State) (h : execGbUnfreeze s = .next out) : out.kept = s.kept := by
  unfold execGbUnfreeze at h
  injection h with h; subst h; simp only [↓State.kept_ite, State.kept_mk, State.kept_eta, ite_self, ↓State.kept_foldl, ↓State.each_kept, ↓State.deskJournal_kept, ↓State.quiet_kept]

theorem execAlertAck_kept (s : State) (out : State) (h : execAlertAck s = .next out) : out.kept = s.kept := by
  unfold execAlertAck at h
  injection h with h; subst h; simp only [↓State.kept_ite, State.kept_mk, State.kept_eta, ite_self, ↓State.kept_foldl, ↓State.each_kept, ↓State.clr_kept, ↓State.deskEnd_kept, ↓State.quiet_kept]

theorem execDeviceReset_kept (s : State) (out : State) (h : execDeviceReset s = .next out) : out.kept = s.kept := by
  unfold execDeviceReset at h
  injection h with h; subst h; simp only [↓State.kept_ite, State.kept_mk, State.kept_eta, ite_self, ↓State.kept_foldl, ↓State.each_kept, ↓State.deskWait_kept, ↓State.log_kept, ↓State.setStart_kept, ↓State.quiet_kept]

theorem execItinRead_kept (s : State) (out : State) (h : execItinRead s = .next out) : out.kept = s.kept := by
  unfold execItinRead at h
  injection h with h; subst h; simp only [↓State.kept_ite, State.kept_mk, State.kept_eta, ite_self, ↓State.kept_foldl, ↓State.each_kept, ↓State.deskEnd_kept, ↓State.deskResult_kept, ↓State.quiet_kept]

theorem execAdd_kept (t : Fin 4) (s : State) (out : State) (h : execAdd t s = .next out) : out.kept = s.kept := by
  unfold execAdd at h
  injection h with h; subst h; simp only [↓State.kept_ite, State.kept_mk, State.kept_eta, ite_self, ↓State.kept_foldl, ↓State.each_kept, ↓State.aluReg_kept, ↓State.quiet_kept]

theorem execAddi_kept (t : Fin 4) (s : State) (out : State) (h : execAddi t s = .next out) : out.kept = s.kept := by
  unfold execAddi at h
  injection h with h; subst h; simp only [↓State.kept_ite, State.kept_mk, State.kept_eta, ite_self, ↓State.kept_foldl, ↓State.each_kept, ↓State.aluImm_kept, ↓State.quiet_kept]

theorem execAlarmCfgWrite_kept (ini : Ini) (a : Fin 7) (value : BitVec 32) (s : State) (out : State) (h : execAlarmCfgWrite ini a value s = .next out) : out.kept = s.kept := by
  unfold execAlarmCfgWrite at h
  try dsimp only at h
  (repeat' split at h) <;> first
    | (cases h; done)
    | (injection h with h; subst h
       (repeat' first
         | with_reducible rfl
         | with_reducible refine (State.each_kept _ _ _ (fun _ _ => ?_)).trans ?_
         | with_reducible refine (State.kept_foldl _ _ _ (fun _ _ => ?_)).trans ?_
         | with_reducible refine (State.kept_foldl_fst _ _ _ (fun _ _ => ?_)).trans ?_
         | with_reducible refine (State.written_kept _ _ _ _ (fun _ => ?_)).trans ?_
         | simp only [↓State.quiet_kept, ↓State.kept_ite, State.kept_mk, State.kept_eta, ite_self, ↓State.kept_foldl, ↓State.each_kept, ↓State.deniedWrite_kept, ↓State.quiet_kept, ↓State.written_kept, ↓wrAlarmCfg_kept]
         | split))

theorem execAlertClear_kept (ini : Ini) (s : State) (out : State) (h : execAlertClear ini s = .next out) : out.kept = s.kept := by
  unfold execAlertClear at h
  try dsimp only at h
  (repeat' split at h) <;> first
    | (cases h; done)
    | (injection h with h; subst h
       (repeat' first
         | with_reducible rfl
         | with_reducible refine (State.each_kept _ _ _ (fun _ _ => ?_)).trans ?_
         | with_reducible refine (State.kept_foldl _ _ _ (fun _ _ => ?_)).trans ?_
         | with_reducible refine (State.kept_foldl_fst _ _ _ (fun _ _ => ?_)).trans ?_
         | with_reducible refine (State.written_kept _ _ _ _ (fun _ => ?_)).trans ?_
         | simp only [↓State.quiet_kept, ↓State.kept_ite, State.kept_mk, State.kept_eta, ite_self, ↓State.kept_foldl, ↓State.each_kept, ↓State.quiet_kept, ↓State.written_kept, ↓wrGbStat_kept]
         | split))

theorem execAnd_kept (t : Fin 4) (s : State) (out : State) (h : execAnd t s = .next out) : out.kept = s.kept := by
  unfold execAnd at h
  injection h with h; subst h; simp only [↓State.kept_ite, State.kept_mk, State.kept_eta, ite_self, ↓State.kept_foldl, ↓State.each_kept, ↓State.aluReg_kept, ↓State.quiet_kept]

theorem execAndi_kept (t : Fin 4) (s : State) (out : State) (h : execAndi t s = .next out) : out.kept = s.kept := by
  unfold execAndi at h
  injection h with h; subst h; simp only [↓State.kept_ite, State.kept_mk, State.kept_eta, ite_self, ↓State.kept_foldl, ↓State.each_kept, ↓State.aluImm_kept, ↓State.quiet_kept]

theorem execAnswerArrival_kept (t : Fin 4) (tag : BitVec 8) (a : Answer) (s : State) (out : State) (h : execAnswerArrival t tag a s = .next out) : out.kept = s.kept := by
  unfold execAnswerArrival at h
  try dsimp only at h
  (repeat' split at h) <;> first
    | (cases h; done)
    | (injection h with h; subst h
       (repeat' first
         | with_reducible rfl
         | with_reducible refine (State.each_kept _ _ _ (fun _ _ => ?_)).trans ?_
         | with_reducible refine (State.kept_foldl _ _ _ (fun _ _ => ?_)).trans ?_
         | with_reducible refine (State.kept_foldl_fst _ _ _ (fun _ _ => ?_)).trans ?_
         | exact State.takeAnswer_kept _ _ _ _ _ ‹_›
         | exact (State.takeAnswer_kept _ _ _ _ _ ‹_›).trans (by simp only [↓State.quiet_kept, ↓State.kept_ite, State.kept_mk, State.kept_eta, ite_self, ↓State.kept_foldl, ↓State.each_kept, ↓State.lateDrop_kept, ↓State.quiet_kept, ↓State.threadAnswer_kept])
         | simp only [↓State.quiet_kept, ↓State.kept_ite, State.kept_mk, State.kept_eta, ite_self, ↓State.kept_foldl, ↓State.each_kept, ↓State.lateDrop_kept, ↓State.quiet_kept, ↓State.threadAnswer_kept]
         | split))

theorem execBar_kept (t : Fin 4) (s : State) (out : State) (h : execBar t s = .next out) : out.kept = s.kept := by
  unfold execBar at h
  try dsimp only at h
  (repeat' split at h) <;> first
    | (cases h; done)
    | (injection h with h; subst h
       (repeat' first
         | with_reducible rfl
         | with_reducible refine (State.each_kept _ _ _ (fun _ _ => ?_)).trans ?_
         | with_reducible refine (State.kept_foldl _ _ _ (fun _ _ => ?_)).trans ?_
         | with_reducible refine (State.kept_foldl_fst _ _ _ (fun _ _ => ?_)).trans ?_
         | with_reducible refine (State.oldest_kept _ _ _ _ (fun _ _ => ?_)).trans ?_
         | with_reducible refine (State.unlockedOnly_kept _ _ _ (fun _ => ?_)).trans ?_
         | simp only [↓State.quiet_kept, ↓State.kept_ite, State.kept_mk, State.kept_eta, ite_self, ↓State.kept_foldl, ↓State.each_kept, ↓State.barCheck_kept, ↓State.commit_kept, ↓State.oldest_kept, ↓State.quiet_kept, ↓State.setBit_kept, ↓State.setReg_kept, ↓State.unlockedOnly_kept, ↓State.waitFor_kept]
         | split))

theorem execBarArrive_kept (rq : Request) (s : State) (out : State) (h : execBarArrive rq s = .next out) : out.kept = s.kept := by
  unfold execBarArrive at h
  try dsimp only at h
  (repeat' split at h) <;> first
    | (cases h; done)
    | (injection h with h; subst h
       (repeat' first
         | with_reducible rfl
         | with_reducible refine (State.each_kept _ _ _ (fun _ _ => ?_)).trans ?_
         | with_reducible refine (State.kept_foldl _ _ _ (fun _ _ => ?_)).trans ?_
         | with_reducible refine (State.kept_foldl_fst _ _ _ (fun _ _ => ?_)).trans ?_
         | with_reducible refine (State.barRecord_kept _ _ _ _ _ (fun _ _ => ?_)).trans ?_
         | simp only [↓State.quiet_kept, ↓State.kept_ite, State.kept_mk, State.kept_eta, ite_self, ↓State.kept_foldl, ↓State.each_kept, ↓State.barRecord_kept, ↓State.gbarCount_kept, ↓State.quiet_kept]
         | split))

theorem execBarRelease_kept (rq : Request) (s : State) (out : State) (h : execBarRelease rq s = .next out) : out.kept = s.kept := by
  unfold execBarRelease at h
  try dsimp only at h
  (repeat' split at h) <;> first
    | (cases h; done)
    | (injection h with h; subst h
       (repeat' first
         | with_reducible rfl
         | with_reducible refine (State.each_kept _ _ _ (fun _ _ => ?_)).trans ?_
         | with_reducible refine (State.kept_foldl _ _ _ (fun _ _ => ?_)).trans ?_
         | with_reducible refine (State.kept_foldl_fst _ _ _ (fun _ _ => ?_)).trans ?_
         | with_reducible refine (State.barRecord_kept _ _ _ _ _ (fun _ _ => ?_)).trans ?_
         | simp only [↓State.quiet_kept, ↓State.kept_ite, State.kept_mk, State.kept_eta, ite_self, ↓State.kept_foldl, ↓State.each_kept, ↓State.barRecord_kept, ↓State.barRelease_kept, ↓State.quiet_kept]
         | split))

theorem execBarTimeout_kept (t : Fin 4) (s : State) (out : State) (h : execBarTimeout t s = .next out) : out.kept = s.kept := by
  unfold execBarTimeout at h
  try dsimp only at h
  (repeat' split at h) <;> first
    | (cases h; done)
    | (injection h with h; subst h; simp only [↓State.kept_ite, State.kept_mk, State.kept_eta, ite_self, ↓State.kept_foldl, ↓State.each_kept, ↓State.clrBit_kept, ↓State.commit_kept, ↓State.quiet_kept, ↓State.setReg_kept]; done)

theorem execBeq_kept (t : Fin 4) (s : State) (out : State) (h : execBeq t s = .next out) : out.kept = s.kept := by
  unfold execBeq at h
  injection h with h; subst h; simp only [↓State.kept_ite, State.kept_mk, State.kept_eta, ite_self, ↓State.kept_foldl, ↓State.each_kept, ↓State.branchOp_kept, ↓State.quiet_kept]

theorem execBfc_kept (t : Fin 4) (s : State) (out : State) (h : execBfc t s = .next out) : out.kept = s.kept := by
  unfold execBfc at h
  try dsimp only at h
  (repeat' split at h) <;> first
    | (cases h; done)
    | (injection h with h; subst h
       (repeat' first
         | with_reducible rfl
         | with_reducible refine (State.each_kept _ _ _ (fun _ _ => ?_)).trans ?_
         | with_reducible refine (State.kept_foldl _ _ _ (fun _ _ => ?_)).trans ?_
         | with_reducible refine (State.kept_foldl_fst _ _ _ (fun _ _ => ?_)).trans ?_
         | simp only [↓State.quiet_kept, ↓State.kept_ite, State.kept_mk, State.kept_eta, ite_self, ↓State.kept_foldl, ↓State.each_kept, ↓State.flagBranch_kept, ↓State.quiet_kept]
         | split))

theorem execBfs_kept (t : Fin 4) (s : State) (out : State) (h : execBfs t s = .next out) : out.kept = s.kept := by
  unfold execBfs at h
  try dsimp only at h
  (repeat' split at h) <;> first
    | (cases h; done)
    | (injection h with h; subst h
       (repeat' first
         | with_reducible rfl
         | with_reducible refine (State.each_kept _ _ _ (fun _ _ => ?_)).trans ?_
         | with_reducible refine (State.kept_foldl _ _ _ (fun _ _ => ?_)).trans ?_
         | with_reducible refine (State.kept_foldl_fst _ _ _ (fun _ _ => ?_)).trans ?_
         | simp only [↓State.quiet_kept, ↓State.kept_ite, State.kept_mk, State.kept_eta, ite_self, ↓State.kept_foldl, ↓State.each_kept, ↓State.flagBranch_kept, ↓State.quiet_kept]
         | split))

theorem execBge_kept (t : Fin 4) (s : State) (out : State) (h : execBge t s = .next out) : out.kept = s.kept := by
  unfold execBge at h
  injection h with h; subst h; simp only [↓State.kept_ite, State.kept_mk, State.kept_eta, ite_self, ↓State.kept_foldl, ↓State.each_kept, ↓State.branchOp_kept, ↓State.quiet_kept]

theorem execBgeu_kept (t : Fin 4) (s : State) (out : State) (h : execBgeu t s = .next out) : out.kept = s.kept := by
  unfold execBgeu at h
  injection h with h; subst h; simp only [↓State.kept_ite, State.kept_mk, State.kept_eta, ite_self, ↓State.kept_foldl, ↓State.each_kept, ↓State.branchOp_kept, ↓State.quiet_kept]

theorem execBistStep_kept (failed : List (Bool × Nat × Nat)) (s : State) (out : State) (h : execBistStep failed s = .next out) : out.kept = s.kept := by
  unfold execBistStep at h
  try dsimp only at h
  (repeat' split at h) <;> first
    | (cases h; done)
    | (injection h with h; subst h; simp only [↓State.kept_ite, State.kept_mk, State.kept_eta, ite_self, ↓State.kept_foldl, ↓State.each_kept, ↓State.bistBegin_kept, ↓State.bistEnd_kept, ↓State.bistFeed_kept, ↓State.quiet_kept]; done)

theorem execBlt_kept (t : Fin 4) (s : State) (out : State) (h : execBlt t s = .next out) : out.kept = s.kept := by
  unfold execBlt at h
  injection h with h; subst h; simp only [↓State.kept_ite, State.kept_mk, State.kept_eta, ite_self, ↓State.kept_foldl, ↓State.each_kept, ↓State.branchOp_kept, ↓State.quiet_kept]

theorem execBltu_kept (t : Fin 4) (s : State) (out : State) (h : execBltu t s = .next out) : out.kept = s.kept := by
  unfold execBltu at h
  injection h with h; subst h; simp only [↓State.kept_ite, State.kept_mk, State.kept_eta, ite_self, ↓State.kept_foldl, ↓State.each_kept, ↓State.branchOp_kept, ↓State.quiet_kept]

theorem execBne_kept (t : Fin 4) (s : State) (out : State) (h : execBne t s = .next out) : out.kept = s.kept := by
  unfold execBne at h
  injection h with h; subst h; simp only [↓State.kept_ite, State.kept_mk, State.kept_eta, ite_self, ↓State.kept_foldl, ↓State.each_kept, ↓State.branchOp_kept, ↓State.quiet_kept]

theorem execBramWindowAccess_kept (rq : Request) (s : State) (out : State) (h : execBramWindowAccess rq s = .next out) : out.kept = s.kept := by
  unfold execBramWindowAccess at h
  try dsimp only at h
  (repeat' split at h) <;> first
    | (cases h; done)
    | (injection h with h; subst h
       (repeat' first
         | with_reducible rfl
         | with_reducible refine (State.each_kept _ _ _ (fun _ _ => ?_)).trans ?_
         | with_reducible refine (State.kept_foldl _ _ _ (fun _ _ => ?_)).trans ?_
         | with_reducible refine (State.kept_foldl_fst _ _ _ (fun _ _ => ?_)).trans ?_
         | exact State.meetDomain_kept _ _ _ _ _ _ ‹_›
         | exact (State.meetDomain_kept _ _ _ _ _ _ ‹_›).trans (by simp only [↓State.quiet_kept, ↓State.kept_ite, State.kept_mk, State.kept_eta, ite_self, ↓State.kept_foldl, ↓State.each_kept, ↓State.bramBegin_kept, ↓State.quiet_kept, ↓State.reply_kept])
         | simp only [↓State.quiet_kept, ↓State.kept_ite, State.kept_mk, State.kept_eta, ite_self, ↓State.kept_foldl, ↓State.each_kept, ↓State.bramBegin_kept, ↓State.quiet_kept, ↓State.reply_kept]
         | split))

theorem execBranchResolve_kept (t : Fin 4) (k : Fin 24) (s : State) (out : State) (h : execBranchResolve t k s = .next out) : out.kept = s.kept := by
  unfold execBranchResolve at h
  try dsimp only at h
  (repeat' split at h) <;> first
    | (cases h; done)
    | (injection h with h; subst h; simp only [↓State.kept_ite, State.kept_mk, State.kept_eta, ite_self, ↓State.kept_foldl, ↓State.each_kept, ↓State.issueBelow_kept, ↓State.quiet_kept, ↓State.resolve_kept]; done)

theorem execBringUp_kept (ini : Ini) (c : Fin 12) (s : State) (out : State) (h : execBringUp ini c s = .next out) : out.kept = s.kept := by
  unfold execBringUp at h
  try dsimp only at h
  (repeat' split at h) <;> first
    | (cases h; done)
    | (injection h with h; subst h
       (repeat' first
         | with_reducible rfl
         | with_reducible refine (State.each_kept _ _ _ (fun _ _ => ?_)).trans ?_
         | with_reducible refine (State.kept_foldl _ _ _ (fun _ _ => ?_)).trans ?_
         | with_reducible refine (State.kept_foldl_fst _ _ _ (fun _ _ => ?_)).trans ?_
         | with_reducible refine (State.written_kept _ _ _ _ (fun _ => ?_)).trans ?_
         | simp only [↓State.quiet_kept, ↓State.kept_ite, State.kept_mk, State.kept_eta, ite_self, ↓State.kept_foldl, ↓State.each_kept, ↓State.chCommand_kept, ↓State.quiet_kept, ↓State.written_kept]
         | split))

theorem execBurn_kept (ini : Ini) (s : State) (out : State) (h : execBurn ini s = .next out) : out.kept = s.kept := by
  unfold execBurn at h
  try dsimp only at h
  (repeat' split at h) <;> first
    | (cases h; done)
    | (injection h with h; subst h
       (repeat' first
         | with_reducible rfl
         | with_reducible refine (State.each_kept _ _ _ (fun _ _ => ?_)).trans ?_
         | with_reducible refine (State.kept_foldl _ _ _ (fun _ _ => ?_)).trans ?_
         | with_reducible refine (State.kept_foldl_fst _ _ _ (fun _ _ => ?_)).trans ?_
         | with_reducible refine (State.written_kept _ _ _ _ (fun _ => ?_)).trans ?_
         | simp only [↓State.quiet_kept, ↓State.kept_ite, State.kept_mk, State.kept_eta, ite_self, ↓State.kept_foldl, ↓State.each_kept, ↓State.quiet_kept, ↓State.written_kept, ↓wrRepairCtl_kept]
         | split))

theorem execChallengeBlockEnd_kept (s : State) (out : State) (h : execChallengeBlockEnd s = .next out) : out.kept = s.kept := by
  unfold execChallengeBlockEnd at h
  injection h with h; subst h; simp only [↓State.kept_ite, State.kept_mk, State.kept_eta, ite_self, ↓State.kept_foldl, ↓State.each_kept, ↓State.clr_kept, ↓State.quiet_kept]

theorem execChannelOff_kept (ini : Ini) (c : Fin 12) (s : State) (out : State) (h : execChannelOff ini c s = .next out) : out.kept = s.kept := by
  unfold execChannelOff at h
  try dsimp only at h
  (repeat' split at h) <;> first
    | (cases h; done)
    | (injection h with h; subst h
       (repeat' first
         | with_reducible rfl
         | with_reducible refine (State.each_kept _ _ _ (fun _ _ => ?_)).trans ?_
         | with_reducible refine (State.kept_foldl _ _ _ (fun _ _ => ?_)).trans ?_
         | with_reducible refine (State.kept_foldl_fst _ _ _ (fun _ _ => ?_)).trans ?_
         | with_reducible refine (State.written_kept _ _ _ _ (fun _ => ?_)).trans ?_
         | simp only [↓State.quiet_kept, ↓State.kept_ite, State.kept_mk, State.kept_eta, ite_self, ↓State.kept_foldl, ↓State.each_kept, ↓State.chCommand_kept, ↓State.quiet_kept, ↓State.written_kept]
         | split))

theorem execChannelSweepEnd_kept (c : Fin 12) (s : State) (out : State) (h : execChannelSweepEnd c s = .next out) : out.kept = s.kept := by
  unfold execChannelSweepEnd at h
  try dsimp only at h
  (repeat' split at h) <;> first
    | (cases h; done)
    | (injection h with h; subst h; simp only [↓State.kept_ite, State.kept_mk, State.kept_eta, ite_self, ↓State.kept_foldl, ↓State.each_kept, ↓State.dropSweep_kept, ↓State.quiet_kept, ↓State.setChState_kept]; done)

theorem execClkNetCfgWrite_kept (ini : Ini) (g : Fin 32) (value : BitVec 32) (s : State) (out : State) (h : execClkNetCfgWrite ini g value s = .next out) : out.kept = s.kept := by
  unfold execClkNetCfgWrite at h
  try dsimp only at h
  (repeat' split at h) <;> first
    | (cases h; done)
    | (injection h with h; subst h
       (repeat' first
         | with_reducible rfl
         | with_reducible refine (State.each_kept _ _ _ (fun _ _ => ?_)).trans ?_
         | with_reducible refine (State.kept_foldl _ _ _ (fun _ _ => ?_)).trans ?_
         | with_reducible refine (State.kept_foldl_fst _ _ _ (fun _ _ => ?_)).trans ?_
         | with_reducible refine (State.written_kept _ _ _ _ (fun _ => ?_)).trans ?_
         | simp only [↓State.quiet_kept, ↓State.kept_ite, State.kept_mk, State.kept_eta, ite_self, ↓State.kept_foldl, ↓State.each_kept, ↓State.quiet_kept, ↓State.written_kept, ↓wrClkNetCfg_kept]
         | split))

theorem execClockStepRise_kept (s : State) (out : State) (h : execClockStepRise s = .next out) : out.kept = s.kept := by
  unfold execClockStepRise at h
  try dsimp only at h
  (repeat' split at h) <;> first
    | (cases h; done)
    | (injection h with h; subst h; simp only [↓State.kept_ite, State.kept_mk, State.kept_eta, ite_self, ↓State.kept_foldl, ↓State.each_kept, ↓State.notices_kept, ↓State.quiet_kept, ↓State.setThermal_kept, ↓State.wr_kept]; done)

theorem execClrFault_kept (ini : Ini) (t : Fin 4) (s : State) (out : State) (h : execClrFault ini t s = .next out) : out.kept = s.kept := by
  unfold execClrFault at h
  try dsimp only at h
  (repeat' split at h) <;> first
    | (cases h; done)
    | (injection h with h; subst h
       (repeat' first
         | with_reducible rfl
         | with_reducible refine (State.each_kept _ _ _ (fun _ _ => ?_)).trans ?_
         | with_reducible refine (State.kept_foldl _ _ _ (fun _ _ => ?_)).trans ?_
         | with_reducible refine (State.kept_foldl_fst _ _ _ (fun _ _ => ?_)).trans ?_
         | with_reducible refine (State.written_kept _ _ _ _ (fun _ => ?_)).trans ?_
         | simp only [↓State.quiet_kept, ↓State.kept_ite, State.kept_mk, State.kept_eta, ite_self, ↓State.kept_foldl, ↓State.each_kept, ↓State.quiet_kept, ↓State.threadClrFault_kept, ↓State.written_kept]
         | split))

theorem execClz_kept (t : Fin 4) (s : State) (out : State) (h : execClz t s = .next out) : out.kept = s.kept := by
  unfold execClz at h
  injection h with h; subst h; simp only [↓State.kept_ite, State.kept_mk, State.kept_eta, ite_self, ↓State.kept_foldl, ↓State.each_kept, ↓State.quiet_kept, ↓State.unaryOp_kept]

theorem execCreditReturn_kept (n : Fin 192) (input : Fin 32) (vn : VNet) (s : State) (out : State) (h : execCreditReturn n input vn s = .next out) : out.kept = s.kept := by
  unfold execCreditReturn at h
  try dsimp only at h
  (repeat' split at h) <;> first
    | (cases h; done)
    | (injection h with h; subst h; simp only [↓State.kept_ite, State.kept_mk, State.kept_eta, ite_self, ↓State.kept_foldl, ↓State.each_kept, ↓State.beginFrame_kept, ↓State.emit_kept, ↓State.quiet_kept, ↓State.setBuf_kept]; done)

theorem execCtz_kept (t : Fin 4) (s : State) (out : State) (h : execCtz t s = .next out) : out.kept = s.kept := by
  unfold execCtz at h
  injection h with h; subst h; simp only [↓State.kept_ite, State.kept_mk, State.kept_eta, ite_self, ↓State.kept_foldl, ↓State.each_kept, ↓State.quiet_kept, ↓State.unaryOp_kept]

theorem execCwait_kept (t : Fin 4) (s : State) (out : State) (h : execCwait t s = .next out) : out.kept = s.kept := by
  unfold execCwait at h
  try dsimp only at h
  (repeat' split at h) <;> first
    | (cases h; done)
    | (injection h with h; subst h
       (repeat' first
         | with_reducible rfl
         | with_reducible refine (State.each_kept _ _ _ (fun _ _ => ?_)).trans ?_
         | with_reducible refine (State.kept_foldl _ _ _ (fun _ _ => ?_)).trans ?_
         | with_reducible refine (State.kept_foldl_fst _ _ _ (fun _ _ => ?_)).trans ?_
         | with_reducible refine (State.consuming_kept _ _ _ _ (fun _ => ?_)).trans ?_
         | with_reducible refine (State.oldest_kept _ _ _ _ (fun _ _ => ?_)).trans ?_
         | with_reducible refine (State.unlockedOnly_kept _ _ _ (fun _ => ?_)).trans ?_
         | simp only [↓State.quiet_kept, ↓State.kept_ite, State.kept_mk, State.kept_eta, ite_self, ↓State.kept_foldl, ↓State.each_kept, ↓State.commit_kept, ↓State.consuming_kept, ↓State.oldest_kept, ↓State.quiet_kept, ↓State.setReg_kept, ↓State.unlockedOnly_kept, ↓State.waitFor_kept]
         | split))

theorem execDebugKeySet_kept (ini : Ini) (parent : Fin 8) (slot : Fin 8) (s : State) (out : State) (h : execDebugKeySet ini parent slot s = .next out) : out.kept = s.kept := by
  unfold execDebugKeySet at h
  injection h with h; subst h; simp only [↓State.kept_ite, State.kept_mk, State.kept_eta, ite_self, ↓State.kept_foldl, ↓State.each_kept, ↓State.keyWrite_kept, ↓State.quiet_kept]

theorem execDelay_kept (t : Fin 4) (s : State) (out : State) (h : execDelay t s = .next out) : out.kept = s.kept := by
  unfold execDelay at h
  try dsimp only at h
  (repeat' split at h) <;> first
    | (cases h; done)
    | (injection h with h; subst h
       (repeat' first
         | with_reducible rfl
         | with_reducible refine (State.each_kept _ _ _ (fun _ _ => ?_)).trans ?_
         | with_reducible refine (State.kept_foldl _ _ _ (fun _ _ => ?_)).trans ?_
         | with_reducible refine (State.kept_foldl_fst _ _ _ (fun _ _ => ?_)).trans ?_
         | with_reducible refine (State.oldest_kept _ _ _ _ (fun _ _ => ?_)).trans ?_
         | with_reducible refine (State.unlockedOnly_kept _ _ _ (fun _ => ?_)).trans ?_
         | simp only [↓State.quiet_kept, ↓State.kept_ite, State.kept_mk, State.kept_eta, ite_self, ↓State.kept_foldl, ↓State.each_kept, ↓State.commit_kept, ↓State.oldest_kept, ↓State.quiet_kept, ↓State.unlockedOnly_kept, ↓State.waitFor_kept]
         | split))

theorem execDieReset_kept (ini : Ini) (value : BitVec 32) (s : State) (out : State) (h : execDieReset ini value s = .next out) : out.kept = s.kept := by
  unfold execDieReset at h
  try dsimp only at h
  (repeat' split at h) <;> first
    | (cases h; done)
    | (injection h with h; subst h
       (repeat' first
         | with_reducible rfl
         | with_reducible refine (State.each_kept _ _ _ (fun _ _ => ?_)).trans ?_
         | with_reducible refine (State.kept_foldl _ _ _ (fun _ _ => ?_)).trans ?_
         | with_reducible refine (State.kept_foldl_fst _ _ _ (fun _ _ => ?_)).trans ?_
         | with_reducible refine (State.written_kept _ _ _ _ (fun _ => ?_)).trans ?_
         | simp only [↓State.quiet_kept, ↓State.kept_ite, State.kept_mk, State.kept_eta, ite_self, ↓State.kept_foldl, ↓State.each_kept, ↓State.quiet_kept, ↓State.written_kept, ↓wrRstDie_kept]
         | split))

theorem execDomainOn_kept (d : Fin 112) (s : State) (out : State) (h : execDomainOn d s = .next out) : out.kept = s.kept := by
  unfold execDomainOn at h
  try dsimp only at h
  (repeat' split at h) <;> first
    | (cases h; done)
    | (injection h with h; subst h; simp only [↓State.kept_ite, State.kept_mk, State.kept_eta, ite_self, ↓State.kept_foldl, ↓State.each_kept, ↓State.domainOn_kept, ↓State.quiet_kept]; done)

theorem execDrainComplete_kept (s : State) (out : State) (h : execDrainComplete s = .next out) : out.kept = s.kept := by
  unfold execDrainComplete at h
  try dsimp only at h
  (repeat' split at h) <;> first
    | (cases h; done)
    | (injection h with h; subst h; simp only [↓State.kept_ite, State.kept_mk, State.kept_eta, ite_self, ↓State.kept_foldl, ↓State.each_kept, ↓State.clr_kept, ↓State.quiet_kept]; done)

theorem execDrbgReseed_kept (s : State) (out : State) (h : execDrbgReseed s = .next out) : out.kept = s.kept := by
  unfold execDrbgReseed at h
  injection h with h; subst h; simp only [↓State.kept_ite, State.kept_mk, State.kept_eta, ite_self, ↓State.kept_foldl, ↓State.each_kept, ↓State.quiet_kept, ↓State.setSec_kept]

theorem execDwellEnd_kept (s : State) (out : State) (h : execDwellEnd s = .next out) : out.kept = s.kept := by
  unfold execDwellEnd at h
  try dsimp only at h
  (repeat' split at h) <;> first
    | (cases h; done)
    | (injection h with h; subst h; simp only [↓State.kept_ite, State.kept_mk, State.kept_eta, ite_self, ↓State.kept_foldl, ↓State.each_kept, ↓State.quiet_kept, ↓State.setThrottle_kept]; done)

theorem execEpochFlip_kept (ini : Ini) (value : BitVec 32) (s : State) (out : State) (h : execEpochFlip ini value s = .next out) : out.kept = s.kept := by
  unfold execEpochFlip at h
  try dsimp only at h
  (repeat' split at h) <;> first
    | (cases h; done)
    | (injection h with h; subst h
       (repeat' first
         | with_reducible rfl
         | with_reducible refine (State.each_kept _ _ _ (fun _ _ => ?_)).trans ?_
         | with_reducible refine (State.kept_foldl _ _ _ (fun _ _ => ?_)).trans ?_
         | with_reducible refine (State.kept_foldl_fst _ _ _ (fun _ _ => ?_)).trans ?_
         | with_reducible refine (State.written_kept _ _ _ _ (fun _ => ?_)).trans ?_
         | simp only [↓State.quiet_kept, ↓State.kept_ite, State.kept_mk, State.kept_eta, ite_self, ↓State.kept_foldl, ↓State.each_kept, ↓State.quiet_kept, ↓State.written_kept, ↓wrNetEpoch_kept]
         | split))

theorem execEpochMark_kept (n : Fin 192) (input : Fin 32) (vn : VNet) (s : State) (out : State) (h : execEpochMark n input vn s = .next out) : out.kept = s.kept := by
  unfold execEpochMark at h
  try dsimp only at h
  (repeat' split at h) <;> first
    | (cases h; done)
    | (injection h with h; subst h; simp only [↓State.kept_ite, State.kept_mk, State.kept_eta, ite_self, ↓State.kept_foldl, ↓State.each_kept, ↓State.epochReport_kept, ↓State.quiet_kept]; done)

theorem execEpochSet_kept (n : Fin 192) (s : State) (out : State) (h : execEpochSet n s = .next out) : out.kept = s.kept := by
  unfold execEpochSet at h
  try dsimp only at h
  (repeat' split at h) <;> first
    | (cases h; done)
    | (injection h with h; subst h; simp only [↓State.kept_ite, State.kept_mk, State.kept_eta, ite_self, ↓State.kept_foldl, ↓State.each_kept, ↓State.epochReport_kept, ↓State.incr_kept, ↓State.quiet_kept, ↓State.set1_kept]; done)

theorem execEpochStuck_kept (s : State) (out : State) (h : execEpochStuck s = .next out) : out.kept = s.kept := by
  unfold execEpochStuck at h
  try dsimp only at h
  (repeat' split at h) <;> first
    | (cases h; done)
    | (injection h with h; subst h; simp only [↓State.kept_ite, State.kept_mk, State.kept_eta, ite_self, ↓State.kept_foldl, ↓State.each_kept, ↓State.log_kept, ↓State.quiet_kept, ↓State.set1_kept]; done)

theorem execEventDelivery_kept (n : Fin 64) (k : Fin 4) (s : State) (out : State) (h : execEventDelivery n k s = .next out) : out.kept = s.kept := by
  unfold execEventDelivery at h
  try dsimp only at h
  (repeat' split at h) <;> first
    | (cases h; done)
    | (injection h with h; subst h; simp only [↓State.kept_ite, State.kept_mk, State.kept_eta, ite_self, ↓State.kept_foldl, ↓State.each_kept, ↓State.clrBit_kept, ↓State.pulseLine_kept, ↓State.quiet_kept]; done)

theorem execFaceRefresh_kept (x : Fin 256) (y : Fin 192) (c : Fin 256) (change : Bool) (s : State) (out : State) (h : execFaceRefresh x y c change s = .next out) : out.kept = s.kept := by
  unfold execFaceRefresh at h
  try dsimp only at h
  (repeat' split at h) <;> first
    | (cases h; done)
    | (injection h with h; subst h; simp only [↓State.kept_ite, State.kept_mk, State.kept_eta, ite_self, ↓State.kept_foldl, ↓State.each_kept, ↓State.facePulse_kept, ↓State.quiet_kept]; done)

theorem execFailInfoPop_kept (ini : Ini) (e : Fin 5) (s : State) (out : State) (h : execFailInfoPop ini e s = .next out) : out.kept = s.kept := by
  unfold execFailInfoPop at h
  try dsimp only at h
  (repeat' split at h) <;> first
    | (cases h; done)
    | (injection h with h; subst h
       (repeat' first
         | with_reducible rfl
         | with_reducible refine (State.each_kept _ _ _ (fun _ _ => ?_)).trans ?_
         | with_reducible refine (State.kept_foldl _ _ _ (fun _ _ => ?_)).trans ?_
         | with_reducible refine (State.kept_foldl_fst _ _ _ (fun _ _ => ?_)).trans ?_
         | with_reducible refine (State.shown_kept _ _ _ _ _ (fun _ => ?_)).trans ?_
         | simp only [↓State.quiet_kept, ↓State.kept_ite, State.kept_mk, State.kept_eta, ite_self, ↓State.kept_foldl, ↓State.each_kept, ↓State.quiet_kept, ↓State.setEngine_kept, ↓State.shown_kept]
         | split))

theorem execFlagChange_kept (n : Fin 64) (k : Fin 4) (level : Bool) (s : State) (out : State) (h : execFlagChange n k level s = .next out) : out.kept = s.kept := by
  unfold execFlagChange at h
  try dsimp only at h
  (repeat' split at h) <;> first
    | (cases h; done)
    | (injection h with h; subst h; simp only [↓State.kept_ite, State.kept_mk, State.kept_eta, ite_self, ↓State.kept_foldl, ↓State.each_kept, ↓State.clrBit_kept, ↓State.pulses_kept, ↓State.quiet_kept, ↓State.setBit_kept]; done)

theorem execFlipArm_kept (ini : Ini) (d : Fin 2) (value : BitVec 32) (s : State) (out : State) (h : execFlipArm ini d value s = .next out) : out.kept = s.kept := by
  unfold execFlipArm at h
  try dsimp only at h
  (repeat' split at h) <;> first
    | (cases h; done)
    | (injection h with h; subst h
       (repeat' first
         | with_reducible rfl
         | with_reducible refine (State.each_kept _ _ _ (fun _ _ => ?_)).trans ?_
         | with_reducible refine (State.kept_foldl _ _ _ (fun _ _ => ?_)).trans ?_
         | with_reducible refine (State.kept_foldl_fst _ _ _ (fun _ _ => ?_)).trans ?_
         | with_reducible refine (State.written_kept _ _ _ _ (fun _ => ?_)).trans ?_
         | simp only [↓State.quiet_kept, ↓State.kept_ite, State.kept_mk, State.kept_eta, ite_self, ↓State.kept_foldl, ↓State.each_kept, ↓State.quiet_kept, ↓State.written_kept, ↓wrFlipCtl_kept]
         | split))

theorem execGbarCfgWrite_kept (ini : Ini) (b : Fin 16) (value : BitVec 32) (s : State) (out : State) (h : execGbarCfgWrite ini b value s = .next out) : out.kept = s.kept := by
  unfold execGbarCfgWrite at h
  try dsimp only at h
  (repeat' split at h) <;> first
    | (cases h; done)
    | (injection h with h; subst h
       (repeat' first
         | with_reducible rfl
         | with_reducible refine (State.each_kept _ _ _ (fun _ _ => ?_)).trans ?_
         | with_reducible refine (State.kept_foldl _ _ _ (fun _ _ => ?_)).trans ?_
         | with_reducible refine (State.kept_foldl_fst _ _ _ (fun _ _ => ?_)).trans ?_
         | with_reducible refine (State.written_kept _ _ _ _ (fun _ => ?_)).trans ?_
         | simp only [↓State.quiet_kept, ↓State.kept_ite, State.kept_mk, State.kept_eta, ite_self, ↓State.kept_foldl, ↓State.each_kept, ↓State.quiet_kept, ↓State.written_kept, ↓wrGbarCfg_kept]
         | split))

theorem execGraceEnd_kept (s : State) (out : State) (h : execGraceEnd s = .next out) : out.kept = s.kept := by
  unfold execGraceEnd at h
  try dsimp only at h
  (repeat' split at h) <;> first
    | (cases h; done)
    | (injection h with h; subst h; simp only [↓State.kept_ite, State.kept_mk, State.kept_eta, ite_self, ↓State.kept_foldl, ↓State.each_kept, ↓State.quiet_kept, ↓State.setThermal_kept, ↓State.setThrottle_kept]; done)

theorem execGresetGo_kept (ini : Ini) (s : State) (out : State) (h : execGresetGo ini s = .next out) : out.kept = s.kept := by
  unfold execGresetGo at h
  try dsimp only at h
  (repeat' split at h) <;> first
    | (cases h; done)
    | (injection h with h; subst h
       (repeat' first
         | with_reducible rfl
         | with_reducible refine (State.each_kept _ _ _ (fun _ _ => ?_)).trans ?_
         | with_reducible refine (State.kept_foldl _ _ _ (fun _ _ => ?_)).trans ?_
         | with_reducible refine (State.kept_foldl_fst _ _ _ (fun _ _ => ?_)).trans ?_
         | with_reducible refine (State.written_kept _ _ _ _ (fun _ => ?_)).trans ?_
         | simp only [↓State.quiet_kept, ↓State.kept_ite, State.kept_mk, State.kept_eta, ite_self, ↓State.kept_foldl, ↓State.each_kept, ↓State.gresetGo_kept, ↓State.quiet_kept, ↓State.written_kept]
         | split))

theorem execHkRound_kept (values : List (BitVec 16)) (s : State) (out : State) (h : execHkRound values s = .next out) : out.kept = s.kept := by
  unfold execHkRound at h
  try dsimp only at h
  (repeat' split at h) <;> first
    | (cases h; done)
    | (injection h with h; subst h
       (repeat' first
         | with_reducible rfl
         | with_reducible refine (State.each_kept _ _ _ (fun _ _ => ?_)).trans ?_
         | with_reducible refine (State.kept_foldl _ _ _ (fun _ _ => ?_)).trans ?_
         | with_reducible refine (State.kept_foldl_fst _ _ _ (fun _ _ => ?_)).trans ?_
         | simp only [↓State.quiet_kept, ↓State.kept_ite, State.kept_mk, State.kept_eta, ite_self, ↓State.kept_foldl, ↓State.each_kept, ↓State.govern_kept, ↓State.judgeSensor_kept, ↓State.judgeVccio_kept, ↓State.moveLid_kept, ↓State.quiet_kept, ↓State.readmitAll_kept, ↓State.setThermal_kept, ↓State.takeChannel_kept, ↓State.throttle_kept]
         | split))

theorem execHousekeepingStep_kept (s : State) (out : State) (h : execHousekeepingStep s = .next out) : out.kept = s.kept := by
  unfold execHousekeepingStep at h
  try dsimp only at h
  (repeat' split at h) <;> first
    | (cases h; done)
    | (injection h with h; subst h; simp only [↓State.kept_ite, State.kept_mk, State.kept_eta, ite_self, ↓State.kept_foldl, ↓State.each_kept, ↓State.endStep_kept, ↓State.itin_kept, ↓State.quiet_kept, ↓State.setStart_kept]; done)

theorem execImageStart_kept (s : State) (out : State) (h : execImageStart s = .next out) : out.kept = s.kept := by
  unfold execImageStart at h
  try dsimp only at h
  (repeat' split at h) <;> first
    | (cases h; done)
    | (injection h with h; subst h; simp only [↓State.kept_ite, State.kept_mk, State.kept_eta, ite_self, ↓State.kept_foldl, ↓State.each_kept, ↓State.quiet_kept, ↓State.startAfterSwaps_kept, ↓State.startFills_kept, ↓State.startSwaps_kept]; done)

theorem execImageStep_kept (dir : BitVec 256) (s : State) (out : State) (h : execImageStep dir s = .next out) : out.kept = s.kept := by
  unfold execImageStep at h
  try dsimp only at h
  (repeat' split at h) <;> first
    | (cases h; done)
    | (injection h with h; subst h; simp only [↓State.kept_ite, State.kept_mk, State.kept_eta, ite_self, ↓State.kept_foldl, ↓State.each_kept, ↓State.deskEnd_kept, ↓State.itin_kept, ↓State.quiet_kept, ↓State.set1_kept, ↓State.setStart_kept, ↓State.wr_kept]; done)

theorem execImbalanceWindow_kept (s out : State) (h : execImbalanceWindow s = .next out) : out.kept = s.kept := by
  unfold execImbalanceWindow at h
  generalize List.range 128 = r at h
  dsimp only at h
  split at h
  · injection h with h; subst h; rfl
  · (repeat' split at h) <;> injection h with h <;> subst h <;>
      simp only [↓State.logP_kept, ↓State.set1_kept, State.kept_mk, State.kept_eta, ↓State.wr_kept] <;>
      exact (State.each_kept _ _ _ (fun _ _ => State.wr_kept ..)).trans (State.quiet_kept _)

theorem execImemWrite_kept (ini : Ini) (w : Fin 32768) (hi : BitVec 32) (s : State) (out : State) (h : execImemWrite ini w hi s = .next out) : out.kept = s.kept := by
  unfold execImemWrite at h
  try dsimp only at h
  (repeat' split at h) <;> first
    | (cases h; done)
    | (injection h with h; subst h
       (repeat' first
         | with_reducible rfl
         | with_reducible refine (State.each_kept _ _ _ (fun _ _ => ?_)).trans ?_
         | with_reducible refine (State.kept_foldl _ _ _ (fun _ _ => ?_)).trans ?_
         | with_reducible refine (State.kept_foldl_fst _ _ _ (fun _ _ => ?_)).trans ?_
         | with_reducible refine (State.written_kept _ _ _ _ (fun _ => ?_)).trans ?_
         | simp only [↓State.quiet_kept, ↓State.kept_ite, State.kept_mk, State.kept_eta, ite_self, ↓State.kept_foldl, ↓State.each_kept, ↓State.quiet_kept, ↓State.written_kept, ↓wrImemHi_kept]
         | split))

theorem execInitComplete_kept (c : Fin 12) (ok : Bool) (s : State) (out : State) (h : execInitComplete c ok s = .next out) : out.kept = s.kept := by
  unfold execInitComplete at h
  try dsimp only at h
  (repeat' split at h) <;> first
    | (cases h; done)
    | (injection h with h; subst h; simp only [↓State.kept_ite, State.kept_mk, State.kept_eta, ite_self, ↓State.kept_foldl, ↓State.each_kept, ↓State.chFail_kept, ↓State.quiet_kept, ↓State.setChState_kept, ↓State.voidChannel_kept]; done)

theorem execInitiatorTimeout_kept (node : BitVec 12) (tag : BitVec 8) (s : State) (out : State) (h : execInitiatorTimeout node tag s = .next out) : out.kept = s.kept := by
  unfold execInitiatorTimeout at h
  injection h with h; subst h; simp only [↓State.kept_ite, State.kept_mk, State.kept_eta, ite_self, ↓State.kept_foldl, ↓State.each_kept, ↓State.consumeEngine_kept, ↓State.initiatorTimesOut_kept, ↓State.quiet_kept]

theorem execJal_kept (t : Fin 4) (s : State) (out : State) (h : execJal t s = .next out) : out.kept = s.kept := by
  unfold execJal at h
  try dsimp only at h
  (repeat' split at h) <;> first
    | (cases h; done)
    | (injection h with h; subst h
       (repeat' first
         | with_reducible rfl
         | with_reducible refine (State.each_kept _ _ _ (fun _ _ => ?_)).trans ?_
         | with_reducible refine (State.kept_foldl _ _ _ (fun _ _ => ?_)).trans ?_
         | with_reducible refine (State.kept_foldl_fst _ _ _ (fun _ _ => ?_)).trans ?_
         | with_reducible refine (State.oldest_kept _ _ _ _ (fun _ _ => ?_)).trans ?_
         | simp only [↓State.quiet_kept, ↓State.kept_ite, State.kept_mk, State.kept_eta, ite_self, ↓State.kept_foldl, ↓State.each_kept, ↓State.commitTo_kept, ↓State.oldest_kept, ↓State.quiet_kept, ↓State.setReg_kept]
         | split))

theorem execJalr_kept (t : Fin 4) (s : State) (out : State) (h : execJalr t s = .next out) : out.kept = s.kept := by
  unfold execJalr at h
  try dsimp only at h
  (repeat' split at h) <;> first
    | (cases h; done)
    | (injection h with h; subst h
       (repeat' first
         | with_reducible rfl
         | with_reducible refine (State.each_kept _ _ _ (fun _ _ => ?_)).trans ?_
         | with_reducible refine (State.kept_foldl _ _ _ (fun _ _ => ?_)).trans ?_
         | with_reducible refine (State.kept_foldl_fst _ _ _ (fun _ _ => ?_)).trans ?_
         | with_reducible refine (State.consuming_kept _ _ _ _ (fun _ => ?_)).trans ?_
         | with_reducible refine (State.oldest_kept _ _ _ _ (fun _ _ => ?_)).trans ?_
         | simp only [↓State.quiet_kept, ↓State.kept_ite, State.kept_mk, State.kept_eta, ite_self, ↓State.kept_foldl, ↓State.each_kept, ↓State.commitTo_kept, ↓State.consuming_kept, ↓State.oldest_kept, ↓State.quiet_kept, ↓State.setReg_kept]
         | split))

theorem execJoin_kept (rq : Request) (s : State) (out : State) (h : execJoin rq s = .next out) : out.kept = s.kept := by
  unfold execJoin at h
  try dsimp only at h
  (repeat' split at h) <;> first
    | (cases h; done)
    | (injection h with h; subst h
       (repeat' first
         | with_reducible rfl
         | with_reducible refine (State.each_kept _ _ _ (fun _ _ => ?_)).trans ?_
         | with_reducible refine (State.kept_foldl _ _ _ (fun _ _ => ?_)).trans ?_
         | with_reducible refine (State.kept_foldl_fst _ _ _ (fun _ _ => ?_)).trans ?_
         | with_reducible refine (State.pairRecord_kept _ _ _ _ _ _ (fun _ => ?_)).trans ?_
         | simp only [↓State.quiet_kept, ↓State.kept_ite, State.kept_mk, State.kept_eta, ite_self, ↓State.kept_foldl, ↓State.each_kept, ↓State.joined_kept, ↓State.pairRecord_kept, ↓State.quiet_kept]
         | split))

theorem execKeyGenerated_kept (s : State) (out : State) (h : execKeyGenerated s = .next out) : out.kept = s.kept := by
  unfold execKeyGenerated at h
  try dsimp only at h
  (repeat' split at h) <;> first
    | (cases h; done)
    | (injection h with h; subst h; simp only [↓State.kept_ite, State.kept_mk, State.kept_eta, ite_self, ↓State.kept_foldl, ↓State.each_kept, ↓State.drawn_kept, ↓State.mkeyEnd_kept, ↓State.quiet_kept, ↓State.setKstate_kept]; done)

theorem execLarderOpComplete_kept (s : State) (out : State) (h : execLarderOpComplete s = .next out) : out.kept = s.kept := by
  unfold execLarderOpComplete at h
  try dsimp only at h
  (repeat' split at h) <;> first
    | (cases h; done)
    | (injection h with h; subst h; simp only [↓State.kept_ite, State.kept_mk, State.kept_eta, ite_self, ↓State.kept_foldl, ↓State.each_kept, ↓State.endOp_kept, ↓State.quiet_kept]; done)

theorem execLbistComplete_kept (pass : Bool) (s : State) (out : State) (h : execLbistComplete pass s = .next out) : out.kept = s.kept := by
  unfold execLbistComplete at h
  dsimp only at h
  split at h
  · exact (Host.Outcome.next.inj h) ▸ State.quiet_kept s
  · rw [← Host.Outcome.next.inj h]
    exact (State.scramble_kept ..).trans ((State.wrb_kept ..).trans ((State.clr_kept ..).trans ((State.kept_mk ..).trans (State.quiet_kept s))))

theorem execLbistGo_kept (ini : Ini) (layer : BitVec 3) (s : State) (out : State) (h : execLbistGo ini layer s = .next out) : out.kept = s.kept := by
  unfold execLbistGo at h
  try dsimp only at h
  (repeat' split at h) <;> first
    | (cases h; done)
    | (injection h with h; subst h
       (repeat' first
         | with_reducible rfl
         | with_reducible refine (State.each_kept _ _ _ (fun _ _ => ?_)).trans ?_
         | with_reducible refine (State.kept_foldl _ _ _ (fun _ _ => ?_)).trans ?_
         | with_reducible refine (State.kept_foldl_fst _ _ _ (fun _ _ => ?_)).trans ?_
         | with_reducible refine (State.testWrite_kept _ _ _ _ _ (fun _ => ?_)).trans ?_
         | simp only [↓State.quiet_kept, ↓State.kept_ite, State.kept_mk, State.kept_eta, ite_self, ↓State.kept_foldl, ↓State.each_kept, ↓State.quiet_kept, ↓State.testWrite_kept, ↓wrLbistCtl_kept]
         | split))

theorem execLcAdvance_kept (ini : Ini) (value : BitVec 32) (s : State) (out : State) (h : execLcAdvance ini value s = .next out) : out.kept = s.kept := by
  unfold execLcAdvance at h
  try dsimp only at h
  (repeat' split at h) <;> first
    | (cases h; done)
    | (injection h with h; subst h
       (repeat' first
         | with_reducible rfl
         | with_reducible refine (State.each_kept _ _ _ (fun _ _ => ?_)).trans ?_
         | with_reducible refine (State.kept_foldl _ _ _ (fun _ _ => ?_)).trans ?_
         | with_reducible refine (State.kept_foldl_fst _ _ _ (fun _ _ => ?_)).trans ?_
         | with_reducible refine (State.written_kept _ _ _ _ (fun _ => ?_)).trans ?_
         | simp only [↓State.quiet_kept, ↓State.kept_ite, State.kept_mk, State.kept_eta, ite_self, ↓State.kept_foldl, ↓State.each_kept, ↓State.deniedWrite_kept, ↓State.quiet_kept, ↓State.written_kept, ↓wrLcCtl_kept]
         | split))

theorem execLd_kept (t : Fin 4) (k : Fin 24) (s : State) (out : State) (h : execLd t k s = .next out) : out.kept = s.kept := by
  unfold execLd at h
  injection h with h; subst h; simp only [↓State.kept_ite, State.kept_mk, State.kept_eta, ite_self, ↓State.kept_foldl, ↓State.each_kept, ↓State.loadAhead_kept, ↓State.loadOldest_kept, ↓State.quiet_kept]

theorem execLdt_kept (t : Fin 4) (k : Fin 24) (s : State) (out : State) (h : execLdt t k s = .next out) : out.kept = s.kept := by
  unfold execLdt at h
  injection h with h; subst h; simp only [↓State.kept_ite, State.kept_mk, State.kept_eta, ite_self, ↓State.kept_foldl, ↓State.each_kept, ↓State.loadAhead_kept, ↓State.loadOldest_kept, ↓State.quiet_kept]

theorem execLi_kept (t : Fin 4) (s : State) (out : State) (h : execLi t s = .next out) : out.kept = s.kept := by
  unfold execLi at h
  try dsimp only at h
  (repeat' split at h) <;> first
    | (cases h; done)
    | (injection h with h; subst h
       (repeat' first
         | with_reducible rfl
         | with_reducible refine (State.each_kept _ _ _ (fun _ _ => ?_)).trans ?_
         | with_reducible refine (State.kept_foldl _ _ _ (fun _ _ => ?_)).trans ?_
         | with_reducible refine (State.kept_foldl_fst _ _ _ (fun _ _ => ?_)).trans ?_
         | with_reducible refine (State.oldest_kept _ _ _ _ (fun _ _ => ?_)).trans ?_
         | simp only [↓State.quiet_kept, ↓State.kept_ite, State.kept_mk, State.kept_eta, ite_self, ↓State.kept_foldl, ↓State.each_kept, ↓State.commit_kept, ↓State.oldest_kept, ↓State.quiet_kept, ↓State.setReg_kept]
         | split))

theorem execLih_kept (t : Fin 4) (s : State) (out : State) (h : execLih t s = .next out) : out.kept = s.kept := by
  unfold execLih at h
  try dsimp only at h
  (repeat' split at h) <;> first
    | (cases h; done)
    | (injection h with h; subst h
       (repeat' first
         | with_reducible rfl
         | with_reducible refine (State.each_kept _ _ _ (fun _ _ => ?_)).trans ?_
         | with_reducible refine (State.kept_foldl _ _ _ (fun _ _ => ?_)).trans ?_
         | with_reducible refine (State.kept_foldl_fst _ _ _ (fun _ _ => ?_)).trans ?_
         | with_reducible refine (State.oldest_kept _ _ _ _ (fun _ _ => ?_)).trans ?_
         | simp only [↓State.quiet_kept, ↓State.kept_ite, State.kept_mk, State.kept_eta, ite_self, ↓State.kept_foldl, ↓State.each_kept, ↓State.commit_kept, ↓State.oldest_kept, ↓State.quiet_kept, ↓State.setReg_kept]
         | split))

theorem execLinkCtlWrite_kept (ini : Ini) (g : Fin 24) (value : BitVec 32) (s : State) (out : State) (h : execLinkCtlWrite ini g value s = .next out) : out.kept = s.kept := by
  unfold execLinkCtlWrite at h
  try dsimp only at h
  (repeat' split at h) <;> first
    | (cases h; done)
    | (injection h with h; subst h
       (repeat' first
         | with_reducible rfl
         | with_reducible refine (State.each_kept _ _ _ (fun _ _ => ?_)).trans ?_
         | with_reducible refine (State.kept_foldl _ _ _ (fun _ _ => ?_)).trans ?_
         | with_reducible refine (State.kept_foldl_fst _ _ _ (fun _ _ => ?_)).trans ?_
         | with_reducible refine (State.written_kept _ _ _ _ (fun _ => ?_)).trans ?_
         | simp only [↓State.quiet_kept, ↓State.kept_ite, State.kept_mk, State.kept_eta, ite_self, ↓State.kept_foldl, ↓State.each_kept, ↓State.quiet_kept, ↓State.written_kept, ↓wrLinkCtl_kept]
         | split))

theorem execLoadPlain_kept (ini : Ini) (parent : Fin 8) (slot : Fin 8) (s : State) (out : State) (h : execLoadPlain ini parent slot s = .next out) : out.kept = s.kept := by
  unfold execLoadPlain at h
  injection h with h; subst h; simp only [↓State.kept_ite, State.kept_mk, State.kept_eta, ite_self, ↓State.kept_foldl, ↓State.each_kept, ↓State.keyWrite_kept, ↓State.quiet_kept]

theorem execLoadWrapped_kept (ini : Ini) (parent : Fin 8) (slot : Fin 8) (s : State) (out : State) (h : execLoadWrapped ini parent slot s = .next out) : out.kept = s.kept := by
  unfold execLoadWrapped at h
  injection h with h; subst h; simp only [↓State.kept_ite, State.kept_mk, State.kept_eta, ite_self, ↓State.kept_foldl, ↓State.each_kept, ↓State.keyWrite_kept, ↓State.quiet_kept]

theorem execLockAbortTimeout_kept (t : Fin 4) (s : State) (out : State) (h : execLockAbortTimeout t s = .next out) : out.kept = s.kept := by
  unfold execLockAbortTimeout at h
  try dsimp only at h
  (repeat' split at h) <;> first
    | (cases h; done)
    | (injection h with h; subst h; simp only [↓State.kept_ite, State.kept_mk, State.kept_eta, ite_self, ↓State.kept_foldl, ↓State.each_kept, ↓State.abortLock_kept, ↓State.commitPoint_kept, ↓State.quiet_kept, ↓State.squashAll_kept]; done)

theorem execMax_kept (t : Fin 4) (s : State) (out : State) (h : execMax t s = .next out) : out.kept = s.kept := by
  unfold execMax at h
  injection h with h; subst h; simp only [↓State.kept_ite, State.kept_mk, State.kept_eta, ite_self, ↓State.kept_foldl, ↓State.each_kept, ↓State.aluReg_kept, ↓State.quiet_kept]

theorem execMaxi_kept (t : Fin 4) (s : State) (out : State) (h : execMaxi t s = .next out) : out.kept = s.kept := by
  unfold execMaxi at h
  injection h with h; subst h; simp only [↓State.kept_ite, State.kept_mk, State.kept_eta, ite_self, ↓State.kept_foldl, ↓State.each_kept, ↓State.aluImm_kept, ↓State.quiet_kept]

theorem execMaxu_kept (t : Fin 4) (s : State) (out : State) (h : execMaxu t s = .next out) : out.kept = s.kept := by
  unfold execMaxu at h
  injection h with h; subst h; simp only [↓State.kept_ite, State.kept_mk, State.kept_eta, ite_self, ↓State.kept_foldl, ↓State.each_kept, ↓State.aluReg_kept, ↓State.quiet_kept]

theorem execMaxui_kept (t : Fin 4) (s : State) (out : State) (h : execMaxui t s = .next out) : out.kept = s.kept := by
  unfold execMaxui at h
  injection h with h; subst h; simp only [↓State.kept_ite, State.kept_mk, State.kept_eta, ite_self, ↓State.kept_foldl, ↓State.each_kept, ↓State.aluImm_kept, ↓State.quiet_kept]

theorem execMin_kept (t : Fin 4) (s : State) (out : State) (h : execMin t s = .next out) : out.kept = s.kept := by
  unfold execMin at h
  injection h with h; subst h; simp only [↓State.kept_ite, State.kept_mk, State.kept_eta, ite_self, ↓State.kept_foldl, ↓State.each_kept, ↓State.aluReg_kept, ↓State.quiet_kept]

theorem execMini_kept (t : Fin 4) (s : State) (out : State) (h : execMini t s = .next out) : out.kept = s.kept := by
  unfold execMini at h
  injection h with h; subst h; simp only [↓State.kept_ite, State.kept_mk, State.kept_eta, ite_self, ↓State.kept_foldl, ↓State.each_kept, ↓State.aluImm_kept, ↓State.quiet_kept]

theorem execMinu_kept (t : Fin 4) (s : State) (out : State) (h : execMinu t s = .next out) : out.kept = s.kept := by
  unfold execMinu at h
  injection h with h; subst h; simp only [↓State.kept_ite, State.kept_mk, State.kept_eta, ite_self, ↓State.kept_foldl, ↓State.each_kept, ↓State.aluReg_kept, ↓State.quiet_kept]

theorem execMinui_kept (t : Fin 4) (s : State) (out : State) (h : execMinui t s = .next out) : out.kept = s.kept := by
  unfold execMinui at h
  injection h with h; subst h; simp only [↓State.kept_ite, State.kept_mk, State.kept_eta, ite_self, ↓State.kept_foldl, ↓State.each_kept, ↓State.aluImm_kept, ↓State.quiet_kept]

theorem execMirrorEnd_kept (rq : Request) (s : State) (out : State) (h : execMirrorEnd rq s = .next out) : out.kept = s.kept := by
  unfold execMirrorEnd at h
  try dsimp only at h
  (repeat' split at h) <;> first
    | (cases h; done)
    | (injection h with h; subst h
       (repeat' first
         | with_reducible rfl
         | with_reducible refine (State.each_kept _ _ _ (fun _ _ => ?_)).trans ?_
         | with_reducible refine (State.kept_foldl _ _ _ (fun _ _ => ?_)).trans ?_
         | with_reducible refine (State.kept_foldl_fst _ _ _ (fun _ _ => ?_)).trans ?_
         | with_reducible refine (State.pairRecord_kept _ _ _ _ _ _ (fun _ => ?_)).trans ?_
         | simp only [↓State.quiet_kept, ↓State.kept_ite, State.kept_mk, State.kept_eta, ite_self, ↓State.kept_foldl, ↓State.each_kept, ↓State.commitMirror_kept, ↓State.pairRecord_kept, ↓State.quiet_kept]
         | split))

theorem execMirrorSendComplete_kept (s : State) (out : State) (h : execMirrorSendComplete s = .next out) : out.kept = s.kept := by
  unfold execMirrorSendComplete at h
  try dsimp only at h
  (repeat' split at h) <;> first
    | (cases h; done)
    | (injection h with h; subst h; simp only [↓State.kept_ite, State.kept_mk, State.kept_eta, ite_self, ↓State.kept_foldl, ↓State.each_kept, ↓State.quiet_kept, ↓State.sendTwin_kept, ↓State.setTwin_kept, ↓State.wr64_kept]; done)

theorem execMkeyWinWrite_kept (ini : Ini) (w : Fin 64) (lim : Bool) (value : BitVec 32) (s : State) (out : State) (h : execMkeyWinWrite ini w lim value s = .next out) : out.kept = s.kept := by
  unfold execMkeyWinWrite at h
  try dsimp only at h
  (repeat' split at h) <;> first
    | (cases h; done)
    | (injection h with h; subst h
       (repeat' first
         | with_reducible rfl
         | with_reducible refine (State.each_kept _ _ _ (fun _ _ => ?_)).trans ?_
         | with_reducible refine (State.kept_foldl _ _ _ (fun _ _ => ?_)).trans ?_
         | with_reducible refine (State.kept_foldl_fst _ _ _ (fun _ _ => ?_)).trans ?_
         | with_reducible refine (State.written_kept _ _ _ _ (fun _ => ?_)).trans ?_
         | simp only [↓State.quiet_kept, ↓State.kept_ite, State.kept_mk, State.kept_eta, ite_self, ↓State.kept_foldl, ↓State.each_kept, ↓State.quiet_kept, ↓State.written_kept, ↓wrMkeyWinBase_kept, ↓wrMkeyWinLim_kept]
         | split))

theorem execModelStep_kept (s : State) (out : State) (h : execModelStep s = .next out) : out.kept = s.kept := by
  unfold execModelStep at h
  try dsimp only at h
  (repeat' split at h) <;> first
    | (cases h; done)
    | (injection h with h; subst h
       (repeat' first
         | with_reducible rfl
         | with_reducible refine (State.each_kept _ _ _ (fun _ _ => ?_)).trans ?_
         | with_reducible refine (State.kept_foldl _ _ _ (fun _ _ => ?_)).trans ?_
         | with_reducible refine (State.kept_foldl_fst _ _ _ (fun _ _ => ?_)).trans ?_
         | simp only [↓State.quiet_kept, ↓State.kept_ite, State.kept_mk, State.kept_eta, ite_self, ↓State.kept_foldl, ↓State.each_kept, ↓State.govern_kept, ↓State.quiet_kept, ↓State.throttle_kept, ↓State.wr_kept]
         | split))

theorem execMonitorInterval_kept (currents : List Nat) (others : List Nat) (s : State) (out : State) (h : execMonitorInterval currents others s = .next out) : out.kept = s.kept := by
  unfold execMonitorInterval at h
  try dsimp only at h
  (repeat' split at h) <;> first
    | (cases h; done)
    | (injection h with h; subst h
       (repeat' first
         | with_reducible rfl
         | with_reducible refine (State.each_kept _ _ _ (fun _ _ => ?_)).trans ?_
         | with_reducible refine (State.kept_foldl _ _ _ (fun _ _ => ?_)).trans ?_
         | with_reducible refine (State.kept_foldl_fst _ _ _ (fun _ _ => ?_)).trans ?_
         | simp only [↓State.quiet_kept, ↓State.kept_ite, State.kept_mk, State.kept_eta, ite_self, ↓State.kept_foldl, ↓State.each_kept, ↓State.countDwell_kept, ↓State.quiet_kept, ↓State.set1_kept, ↓State.setThermal_kept, ↓State.setThrottle_kept, ↓State.wr_kept]
         | split))

theorem execMr4Poll_kept (c : Fin 12) (doubled : Bool) (s : State) (out : State) (h : execMr4Poll c doubled s = .next out) : out.kept = s.kept := by
  unfold execMr4Poll at h
  try dsimp only at h
  (repeat' split at h) <;> first
    | (cases h; done)
    | (injection h with h; subst h; simp only [↓State.kept_ite, State.kept_mk, State.kept_eta, ite_self, ↓State.kept_foldl, ↓State.each_kept, ↓State.quiet_kept, ↓State.wrb_kept]; done)

theorem execMul_kept (t : Fin 4) (s : State) (out : State) (h : execMul t s = .next out) : out.kept = s.kept := by
  unfold execMul at h
  injection h with h; subst h; simp only [↓State.kept_ite, State.kept_mk, State.kept_eta, ite_self, ↓State.kept_foldl, ↓State.each_kept, ↓State.aluReg_kept, ↓State.quiet_kept]

theorem execMuli_kept (t : Fin 4) (s : State) (out : State) (h : execMuli t s = .next out) : out.kept = s.kept := by
  unfold execMuli at h
  injection h with h; subst h; simp only [↓State.kept_ite, State.kept_mk, State.kept_eta, ite_self, ↓State.kept_foldl, ↓State.each_kept, ↓State.aluImm_kept, ↓State.quiet_kept]

theorem execNop_kept (t : Fin 4) (s : State) (out : State) (h : execNop t s = .next out) : out.kept = s.kept := by
  unfold execNop at h
  try dsimp only at h
  (repeat' split at h) <;> first
    | (cases h; done)
    | (injection h with h; subst h
       (repeat' first
         | with_reducible rfl
         | with_reducible refine (State.each_kept _ _ _ (fun _ _ => ?_)).trans ?_
         | with_reducible refine (State.kept_foldl _ _ _ (fun _ _ => ?_)).trans ?_
         | with_reducible refine (State.kept_foldl_fst _ _ _ (fun _ _ => ?_)).trans ?_
         | with_reducible refine (State.oldest_kept _ _ _ _ (fun _ _ => ?_)).trans ?_
         | simp only [↓State.quiet_kept, ↓State.kept_ite, State.kept_mk, State.kept_eta, ite_self, ↓State.kept_foldl, ↓State.each_kept, ↓State.commit_kept, ↓State.oldest_kept, ↓State.quiet_kept]
         | split))

theorem execNotifyAnswer_kept (tag : BitVec 8) (a : Answer) (s : State) (out : State) (h : execNotifyAnswer tag a s = .next out) : out.kept = s.kept := by
  unfold execNotifyAnswer at h
  try dsimp only at h
  (repeat' split at h) <;> first
    | (cases h; done)
    | (injection h with h; subst h
       (repeat' first
         | with_reducible rfl
         | with_reducible refine (State.each_kept _ _ _ (fun _ _ => ?_)).trans ?_
         | with_reducible refine (State.kept_foldl _ _ _ (fun _ _ => ?_)).trans ?_
         | with_reducible refine (State.kept_foldl_fst _ _ _ (fun _ _ => ?_)).trans ?_
         | exact State.takeAnswer_kept _ _ _ _ _ ‹_›
         | exact (State.takeAnswer_kept _ _ _ _ _ ‹_›).trans (by simp only [↓State.quiet_kept, ↓State.kept_ite, State.kept_mk, State.kept_eta, ite_self, ↓State.kept_foldl, ↓State.each_kept, ↓State.log_kept, ↓State.quiet_kept, ↓State.setThermal_kept])
         | simp only [↓State.quiet_kept, ↓State.kept_ite, State.kept_mk, State.kept_eta, ite_self, ↓State.kept_foldl, ↓State.each_kept, ↓State.log_kept, ↓State.quiet_kept, ↓State.setThermal_kept]
         | split))

theorem execOr_kept (t : Fin 4) (s : State) (out : State) (h : execOr t s = .next out) : out.kept = s.kept := by
  unfold execOr at h
  injection h with h; subst h; simp only [↓State.kept_ite, State.kept_mk, State.kept_eta, ite_self, ↓State.kept_foldl, ↓State.each_kept, ↓State.aluReg_kept, ↓State.quiet_kept]

theorem execOri_kept (t : Fin 4) (s : State) (out : State) (h : execOri t s = .next out) : out.kept = s.kept := by
  unfold execOri at h
  injection h with h; subst h; simp only [↓State.kept_ite, State.kept_mk, State.kept_eta, ite_self, ↓State.kept_foldl, ↓State.each_kept, ↓State.aluImm_kept, ↓State.quiet_kept]

theorem execOvrClr_kept (ini : Ini) (n : Fin 64) (s : State) (out : State) (h : execOvrClr ini n s = .next out) : out.kept = s.kept := by
  unfold execOvrClr at h
  try dsimp only at h
  (repeat' split at h) <;> first
    | (cases h; done)
    | (injection h with h; subst h
       (repeat' first
         | with_reducible rfl
         | with_reducible refine (State.each_kept _ _ _ (fun _ _ => ?_)).trans ?_
         | with_reducible refine (State.kept_foldl _ _ _ (fun _ _ => ?_)).trans ?_
         | with_reducible refine (State.kept_foldl_fst _ _ _ (fun _ _ => ?_)).trans ?_
         | with_reducible refine (State.written_kept _ _ _ _ (fun _ => ?_)).trans ?_
         | simp only [↓State.quiet_kept, ↓State.kept_ite, State.kept_mk, State.kept_eta, ite_self, ↓State.kept_foldl, ↓State.each_kept, ↓State.clrHold_kept, ↓State.quiet_kept, ↓State.written_kept]
         | split))

theorem execPacketHop_kept (n : Fin 192) (input : Fin 32) (vn : VNet) (act : HopAct) (s : State) (out : State) (h : execPacketHop n input vn act s = .next out) : out.kept = s.kept := by
  unfold execPacketHop at h
  try dsimp only at h
  (repeat' split at h) <;> first
    | (cases h; done)
    | (injection h with h; subst h
       (repeat' first
         | with_reducible rfl
         | with_reducible refine (State.each_kept _ _ _ (fun _ _ => ?_)).trans ?_
         | with_reducible refine (State.kept_foldl _ _ _ (fun _ _ => ?_)).trans ?_
         | with_reducible refine (State.kept_foldl_fst _ _ _ (fun _ _ => ?_)).trans ?_
         | simp only [↓State.quiet_kept, ↓State.kept_ite, State.kept_mk, State.kept_eta, ite_self, ↓State.kept_foldl, ↓State.each_kept, ↓State.enterPacket_kept, ↓State.epochReport_kept, ↓State.headerError_kept, ↓State.hopOldest_kept, ↓State.parityError_kept, ↓State.quiet_kept, ↓State.transit_kept]
         | split))

theorem execPatrolActiveVisit_kept (s : State) (out : State) (h : execPatrolActiveVisit s = .next out) : out.kept = s.kept := by
  unfold execPatrolActiveVisit at h
  try dsimp only at h
  (repeat' split at h) <;> first
    | (cases h; done)
    | (injection h with h; subst h; simp only [↓State.kept_ite, State.kept_mk, State.kept_eta, ite_self, ↓State.kept_foldl, ↓State.each_kept, ↓State.activeRead_kept, ↓State.activeVisit_kept, ↓State.quiet_kept, ↓State.wr_kept]; done)

theorem execPatrolCheck_kept (s : State) (out : State) (h : execPatrolCheck s = .next out) : out.kept = s.kept := by
  unfold execPatrolCheck at h
  try dsimp only at h
  (repeat' split at h) <;> first
    | (cases h; done)
    | (injection h with h; subst h; simp only [↓State.kept_ite, State.kept_mk, State.kept_eta, ite_self, ↓State.kept_foldl, ↓State.each_kept, ↓State.activeResult_kept, ↓State.bump_kept, ↓State.quiet_kept, ↓State.storedDbe_kept]; done)

theorem execPatrolEnWrite_kept (ini : Ini) (value : BitVec 32) (s : State) (out : State) (h : execPatrolEnWrite ini value s = .next out) : out.kept = s.kept := by
  unfold execPatrolEnWrite at h
  try dsimp only at h
  (repeat' split at h) <;> first
    | (cases h; done)
    | (injection h with h; subst h
       (repeat' first
         | with_reducible rfl
         | with_reducible refine (State.each_kept _ _ _ (fun _ _ => ?_)).trans ?_
         | with_reducible refine (State.kept_foldl _ _ _ (fun _ _ => ?_)).trans ?_
         | with_reducible refine (State.kept_foldl_fst _ _ _ (fun _ _ => ?_)).trans ?_
         | with_reducible refine (State.written_kept _ _ _ _ (fun _ => ?_)).trans ?_
         | simp only [↓State.quiet_kept, ↓State.kept_ite, State.kept_mk, State.kept_eta, ite_self, ↓State.kept_foldl, ↓State.each_kept, ↓State.quiet_kept, ↓State.written_kept, ↓wrPatrolCtl_kept]
         | split))

theorem execPatrolPassEnd_kept (s : State) (out : State) (h : execPatrolPassEnd s = .next out) : out.kept = s.kept := by
  unfold execPatrolPassEnd at h
  try dsimp only at h
  (repeat' split at h) <;> first
    | (cases h; done)
    | (injection h with h; subst h; simp only [↓State.kept_ite, State.kept_mk, State.kept_eta, ite_self, ↓State.kept_foldl, ↓State.each_kept, ↓State.incr_kept, ↓State.newPass_kept, ↓State.quiet_kept]; done)

theorem execPatrolStoredVisit_kept (s : State) (out : State) (h : execPatrolStoredVisit s = .next out) : out.kept = s.kept := by
  unfold execPatrolStoredVisit at h
  try dsimp only at h
  (repeat' split at h) <;> first
    | (cases h; done)
    | (injection h with h; subst h; simp only [↓State.kept_ite, State.kept_mk, State.kept_eta, ite_self, ↓State.kept_foldl, ↓State.each_kept, ↓State.quiet_kept, ↓State.walkerRead_kept, ↓State.wr_kept]; done)

theorem execPinInputFlit_kept (n : Fin 64) (p : Fin 4) (samples : List (BitVec 32)) (first : Bool) (taken : Bool) (s : State) (out : State) (h : execPinInputFlit n p samples first taken s = .next out) : out.kept = s.kept := by
  unfold execPinInputFlit at h
  try dsimp only at h
  (repeat' split at h) <;> first
    | (cases h; done)
    | (injection h with h; subst h
       (repeat' first
         | with_reducible rfl
         | with_reducible refine (State.each_kept _ _ _ (fun _ _ => ?_)).trans ?_
         | with_reducible refine (State.kept_foldl _ _ _ (fun _ _ => ?_)).trans ?_
         | with_reducible refine (State.kept_foldl_fst _ _ _ (fun _ _ => ?_)).trans ?_
         | simp only [↓State.quiet_kept, ↓State.kept_ite, State.kept_mk, State.kept_eta, ite_self, ↓State.kept_foldl, ↓State.each_kept, ↓State.emit_kept, ↓State.quiet_kept, ↓State.set1_kept, ↓State.setPort_kept, ↓State.wr_kept]
         | split))

theorem execPinOutputFlit_kept (n : Fin 64) (p : Fin 4) (samples : List (BitVec 32 × BitVec 32)) (s : State) (out : State) (h : execPinOutputFlit n p samples s = .next out) : out.kept = s.kept := by
  unfold execPinOutputFlit at h
  try dsimp only at h
  (repeat' split at h) <;> first
    | (cases h; done)
    | (injection h with h; subst h; simp only [↓State.kept_ite, State.kept_mk, State.kept_eta, ite_self, ↓State.kept_foldl, ↓State.each_kept, ↓State.quiet_kept, ↓State.setPort_kept, ↓State.twinSamples_kept]; done)

theorem execPinUnderrun_kept (n : Fin 64) (p : Fin 4) (s : State) (out : State) (h : execPinUnderrun n p s = .next out) : out.kept = s.kept := by
  unfold execPinUnderrun at h
  try dsimp only at h
  (repeat' split at h) <;> first
    | (cases h; done)
    | (injection h with h; subst h; simp only [↓State.kept_ite, State.kept_mk, State.kept_eta, ite_self, ↓State.kept_foldl, ↓State.each_kept, ↓State.quiet_kept, ↓State.underrun_kept]; done)

theorem execPllLockLost_kept (g : Fin 32) (s : State) (out : State) (h : execPllLockLost g s = .next out) : out.kept = s.kept := by
  unfold execPllLockLost at h
  try dsimp only at h
  (repeat' split at h) <;> first
    | (cases h; done)
    | (injection h with h; subst h; simp only [↓State.kept_ite, State.kept_mk, State.kept_eta, ite_self, ↓State.kept_foldl, ↓State.each_kept, ↓State.clr_kept, ↓State.logP_kept, ↓State.quiet_kept, ↓State.set1_kept]; done)

theorem execPllLocked_kept (g : Fin 32) (s : State) (out : State) (h : execPllLocked g s = .next out) : out.kept = s.kept := by
  unfold execPllLocked at h
  try dsimp only at h
  (repeat' split at h) <;> first
    | (cases h; done)
    | (injection h with h; subst h; simp only [↓State.kept_ite, State.kept_mk, State.kept_eta, ite_self, ↓State.kept_foldl, ↓State.each_kept, ↓State.quiet_kept, ↓State.resumeInq_kept, ↓State.set1_kept]; done)

theorem execPointOfNoReturn_kept (d : Fin 112) (s : State) (out : State) (h : execPointOfNoReturn d s = .next out) : out.kept = s.kept := by
  unfold execPointOfNoReturn at h
  try dsimp only at h
  (repeat' split at h) <;> first
    | (cases h; done)
    | (injection h with h; subst h
       (repeat' first
         | with_reducible rfl
         | with_reducible refine (State.each_kept _ _ _ (fun _ _ => ?_)).trans ?_
         | with_reducible refine (State.kept_foldl _ _ _ (fun _ _ => ?_)).trans ?_
         | with_reducible refine (State.kept_foldl_fst _ _ _ (fun _ _ => ?_)).trans ?_
         | simp only [↓State.quiet_kept, ↓State.kept_ite, State.kept_mk, State.kept_eta, ite_self, ↓State.kept_foldl, ↓State.each_kept, ↓State.bump_kept, ↓State.dropOutst_kept, ↓State.quiet_kept, ↓State.reply_kept, ↓State.setDom_kept, ↓State.setPort_kept]
         | split))

theorem execPopc_kept (t : Fin 4) (s : State) (out : State) (h : execPopc t s = .next out) : out.kept = s.kept := by
  unfold execPopc at h
  injection h with h; subst h; simp only [↓State.kept_ite, State.kept_mk, State.kept_eta, ite_self, ↓State.kept_foldl, ↓State.each_kept, ↓State.quiet_kept, ↓State.unaryOp_kept]

theorem execPortInboundRequest_kept (n : Fin 64) (p : Fin 4) (rq : Request) (s : State) (out : State) (h : execPortInboundRequest n p rq s = .next out) : out.kept = s.kept := by
  unfold execPortInboundRequest at h
  try dsimp only at h
  (repeat' split at h) <;> first
    | (cases h; done)
    | (injection h with h; subst h
       (repeat' first
         | with_reducible rfl
         | with_reducible refine (State.each_kept _ _ _ (fun _ _ => ?_)).trans ?_
         | with_reducible refine (State.kept_foldl _ _ _ (fun _ _ => ?_)).trans ?_
         | with_reducible refine (State.kept_foldl_fst _ _ _ (fun _ _ => ?_)).trans ?_
         | exact State.meetDomain_kept _ _ _ _ _ _ ‹_›
         | exact (State.meetDomain_kept _ _ _ _ _ _ ‹_›).trans (by simp only [↓State.quiet_kept, ↓State.kept_ite, State.kept_mk, State.kept_eta, ite_self, ↓State.kept_foldl, ↓State.each_kept, ↓State.portInbound_kept, ↓State.quiet_kept, ↓State.reply_kept])
         | simp only [↓State.quiet_kept, ↓State.kept_ite, State.kept_mk, State.kept_eta, ite_self, ↓State.kept_foldl, ↓State.each_kept, ↓State.portInbound_kept, ↓State.quiet_kept, ↓State.reply_kept]
         | split))

theorem execPortPacketSend_kept (n : Fin 64) (p : Fin 4) (acc : Access) (last : Bool) (s : State) (out : State) (h : execPortPacketSend n p acc last s = .next out) : out.kept = s.kept := by
  unfold execPortPacketSend at h
  try dsimp only at h
  (repeat' split at h) <;> first
    | (cases h; done)
    | (injection h with h; subst h; simp only [↓State.kept_ite, State.kept_mk, State.kept_eta, ite_self, ↓State.kept_foldl, ↓State.each_kept, ↓State.quiet_kept, ↓State.sendRaw_kept, ↓State.setPort_kept]; done)

theorem execPortReadmit_kept (ini : Ini) (n : Fin 192) (value : BitVec 32) (s : State) (out : State) (h : execPortReadmit ini n value s = .next out) : out.kept = s.kept := by
  unfold execPortReadmit at h
  try dsimp only at h
  (repeat' split at h) <;> first
    | (cases h; done)
    | (injection h with h; subst h
       (repeat' first
         | with_reducible rfl
         | with_reducible refine (State.each_kept _ _ _ (fun _ _ => ?_)).trans ?_
         | with_reducible refine (State.kept_foldl _ _ _ (fun _ _ => ?_)).trans ?_
         | with_reducible refine (State.kept_foldl_fst _ _ _ (fun _ _ => ?_)).trans ?_
         | with_reducible refine (State.written_kept _ _ _ _ (fun _ => ?_)).trans ?_
         | simp only [↓State.quiet_kept, ↓State.kept_ite, State.kept_mk, State.kept_eta, ite_self, ↓State.kept_foldl, ↓State.each_kept, ↓State.emit_kept, ↓State.quiet_kept, ↓State.written_kept, ↓wrWsIsol_kept]
         | split))

theorem execPortResponseArrival_kept (n : Fin 64) (p : Fin 4) (tag : BitVec 8) (a : Answer) (s : State) (out : State) (h : execPortResponseArrival n p tag a s = .next out) : out.kept = s.kept := by
  unfold execPortResponseArrival at h
  try dsimp only at h
  (repeat' split at h) <;> first
    | (cases h; done)
    | (injection h with h; subst h
       (repeat' first
         | with_reducible rfl
         | with_reducible refine (State.each_kept _ _ _ (fun _ _ => ?_)).trans ?_
         | with_reducible refine (State.kept_foldl _ _ _ (fun _ _ => ?_)).trans ?_
         | with_reducible refine (State.kept_foldl_fst _ _ _ (fun _ _ => ?_)).trans ?_
         | exact State.takeAnswer_kept _ _ _ _ _ ‹_›
         | exact (State.takeAnswer_kept _ _ _ _ _ ‹_›).trans (by simp only [↓State.quiet_kept, ↓State.kept_ite, State.kept_mk, State.kept_eta, ite_self, ↓State.kept_foldl, ↓State.each_kept, ↓State.emit_kept, ↓State.lateDrop_kept, ↓State.quiet_kept, ↓State.setPort_kept])
         | simp only [↓State.quiet_kept, ↓State.kept_ite, State.kept_mk, State.kept_eta, ite_self, ↓State.kept_foldl, ↓State.each_kept, ↓State.emit_kept, ↓State.lateDrop_kept, ↓State.quiet_kept, ↓State.setPort_kept]
         | split))

theorem execPorterEnWrite_kept (ini : Ini) (d : Fin 2) (value : BitVec 32) (s : State) (out : State) (h : execPorterEnWrite ini d value s = .next out) : out.kept = s.kept := by
  unfold execPorterEnWrite at h
  try dsimp only at h
  (repeat' split at h) <;> first
    | (cases h; done)
    | (injection h with h; subst h
       (repeat' first
         | with_reducible rfl
         | with_reducible refine (State.each_kept _ _ _ (fun _ _ => ?_)).trans ?_
         | with_reducible refine (State.kept_foldl _ _ _ (fun _ _ => ?_)).trans ?_
         | with_reducible refine (State.kept_foldl_fst _ _ _ (fun _ _ => ?_)).trans ?_
         | with_reducible refine (State.written_kept _ _ _ _ (fun _ => ?_)).trans ?_
         | simp only [↓State.quiet_kept, ↓State.kept_ite, State.kept_mk, State.kept_eta, ite_self, ↓State.kept_foldl, ↓State.each_kept, ↓State.quiet_kept, ↓State.written_kept, ↓wrPorterCtl_kept]
         | split))

theorem execPorterPassEnd_kept (d : Fin 2) (s : State) (out : State) (h : execPorterPassEnd d s = .next out) : out.kept = s.kept := by
  unfold execPorterPassEnd at h
  try dsimp only at h
  (repeat' split at h) <;> first
    | (cases h; done)
    | (injection h with h; subst h; simp only [↓State.kept_ite, State.kept_mk, State.kept_eta, ite_self, ↓State.kept_foldl, ↓State.each_kept, ↓State.quiet_kept, ↓State.set1_kept, ↓State.setPorter_kept]; done)

theorem execPostedAnswer_kept (t : Fin 4) (tag : BitVec 8) (a : Answer) (s : State) (out : State) (h : execPostedAnswer t tag a s = .next out) : out.kept = s.kept := by
  unfold execPostedAnswer at h
  try dsimp only at h
  (repeat' split at h) <;> first
    | (cases h; done)
    | (injection h with h; subst h
       (repeat' first
         | with_reducible rfl
         | with_reducible refine (State.each_kept _ _ _ (fun _ _ => ?_)).trans ?_
         | with_reducible refine (State.kept_foldl _ _ _ (fun _ _ => ?_)).trans ?_
         | with_reducible refine (State.kept_foldl_fst _ _ _ (fun _ _ => ?_)).trans ?_
         | exact State.takeAnswer_kept _ _ _ _ _ ‹_›
         | exact (State.takeAnswer_kept _ _ _ _ _ ‹_›).trans (by simp only [↓State.quiet_kept, ↓State.kept_ite, State.kept_mk, State.kept_eta, ite_self, ↓State.kept_foldl, ↓State.each_kept, ↓State.lateDrop_kept, ↓State.postedAnswer_kept, ↓State.quiet_kept])
         | simp only [↓State.quiet_kept, ↓State.kept_ite, State.kept_mk, State.kept_eta, ite_self, ↓State.kept_foldl, ↓State.each_kept, ↓State.lateDrop_kept, ↓State.postedAnswer_kept, ↓State.quiet_kept]
         | split))

theorem execPowerRequest_kept (ini : Ini) (d : Fin 112) (on : Bool) (s : State) (out : State) (h : execPowerRequest ini d on s = .next out) : out.kept = s.kept := by
  unfold execPowerRequest at h
  try dsimp only at h
  (repeat' split at h) <;> first
    | (cases h; done)
    | (injection h with h; subst h
       (repeat' first
         | with_reducible rfl
         | with_reducible refine (State.each_kept _ _ _ (fun _ _ => ?_)).trans ?_
         | with_reducible refine (State.kept_foldl _ _ _ (fun _ _ => ?_)).trans ?_
         | with_reducible refine (State.kept_foldl_fst _ _ _ (fun _ _ => ?_)).trans ?_
         | with_reducible refine (State.written_kept _ _ _ _ (fun _ => ?_)).trans ?_
         | simp only [↓State.quiet_kept, ↓State.kept_ite, State.kept_mk, State.kept_eta, ite_self, ↓State.kept_foldl, ↓State.each_kept, ↓State.quiet_kept, ↓State.requestOff_kept, ↓State.requestOn_kept, ↓State.written_kept]
         | split))

theorem execRawFlitIn_kept (g : Fin 24) (codes : List (BitVec 10)) (s : State) (out : State) (h : execRawFlitIn g codes s = .next out) : out.kept = s.kept := by
  unfold execRawFlitIn at h
  try dsimp only at h
  (repeat' split at h) <;> first
    | (cases h; done)
    | (injection h with h; subst h
       (repeat' first
         | with_reducible rfl
         | with_reducible refine (State.each_kept _ _ _ (fun _ _ => ?_)).trans ?_
         | with_reducible refine (State.kept_foldl _ _ _ (fun _ _ => ?_)).trans ?_
         | with_reducible refine (State.kept_foldl_fst _ _ _ (fun _ _ => ?_)).trans ?_
         | simp only [↓State.quiet_kept, ↓State.kept_ite, State.kept_mk, State.kept_eta, ite_self, ↓State.kept_foldl, ↓State.each_kept, ↓State.bumpN_kept, ↓State.drawn_kept, ↓State.quiet_kept, ↓State.set1_kept, ↓State.setLink_kept]
         | split))

theorem execRawFlitOut_kept (g : Fin 24) (flit : Option (BitVec 512)) (s : State) (out : State) (h : execRawFlitOut g flit s = .next out) : out.kept = s.kept := by
  unfold execRawFlitOut at h
  try dsimp only at h
  (repeat' split at h) <;> first
    | (cases h; done)
    | (injection h with h; subst h; simp only [↓State.kept_ite, State.kept_mk, State.kept_eta, ite_self, ↓State.kept_foldl, ↓State.each_kept, ↓State.emit_kept, ↓State.quiet_kept, ↓State.sendEncoded_kept, ↓State.set1_kept]; done)

theorem execRawLaneLock_kept (g : Fin 24) (lane : Fin 8) (s : State) (out : State) (h : execRawLaneLock g lane s = .next out) : out.kept = s.kept := by
  unfold execRawLaneLock at h
  try dsimp only at h
  (repeat' split at h) <;> first
    | (cases h; done)
    | (injection h with h; subst h; simp only [↓State.kept_ite, State.kept_mk, State.kept_eta, ite_self, ↓State.kept_foldl, ↓State.each_kept, ↓State.drawn_kept, ↓State.quiet_kept, ↓State.setBit_kept, ↓State.setLink_kept]; done)

theorem execRefetchCopyReady_kept (n : Fin 64) (s : State) (out : State) (h : execRefetchCopyReady n s = .next out) : out.kept = s.kept := by
  unfold execRefetchCopyReady at h
  try dsimp only at h
  (repeat' split at h) <;> first
    | (cases h; done)
    | (injection h with h; subst h; simp only [↓State.kept_ite, State.kept_mk, State.kept_eta, ite_self, ↓State.kept_foldl, ↓State.each_kept, ↓State.log_kept, ↓State.quiet_kept, ↓State.reportCorr_kept, ↓State.set1_kept, ↓State.setRegion_kept, ↓State.storedDbe_kept]; done)

theorem execRegionClkWrite_kept (ini : Ini) (n : Fin 64) (value : BitVec 32) (s : State) (out : State) (h : execRegionClkWrite ini n value s = .next out) : out.kept = s.kept := by
  unfold execRegionClkWrite at h
  try dsimp only at h
  (repeat' split at h) <;> first
    | (cases h; done)
    | (injection h with h; subst h
       (repeat' first
         | with_reducible rfl
         | with_reducible refine (State.each_kept _ _ _ (fun _ _ => ?_)).trans ?_
         | with_reducible refine (State.kept_foldl _ _ _ (fun _ _ => ?_)).trans ?_
         | with_reducible refine (State.kept_foldl_fst _ _ _ (fun _ _ => ?_)).trans ?_
         | with_reducible refine (State.written_kept _ _ _ _ (fun _ => ?_)).trans ?_
         | simp only [↓State.quiet_kept, ↓State.kept_ite, State.kept_mk, State.kept_eta, ite_self, ↓State.kept_foldl, ↓State.each_kept, ↓State.quiet_kept, ↓State.written_kept, ↓wrRegionClk_kept]
         | split))

theorem execRegionPortCfgWrite_kept (ini : Ini) (n : Fin 64) (p : Fin 4) (value : BitVec 32) (s : State) (out : State) (h : execRegionPortCfgWrite ini n p value s = .next out) : out.kept = s.kept := by
  unfold execRegionPortCfgWrite at h
  try dsimp only at h
  (repeat' split at h) <;> first
    | (cases h; done)
    | (injection h with h; subst h
       (repeat' first
         | with_reducible rfl
         | with_reducible refine (State.each_kept _ _ _ (fun _ _ => ?_)).trans ?_
         | with_reducible refine (State.kept_foldl _ _ _ (fun _ _ => ?_)).trans ?_
         | with_reducible refine (State.kept_foldl_fst _ _ _ (fun _ _ => ?_)).trans ?_
         | with_reducible refine (State.written_kept _ _ _ _ (fun _ => ?_)).trans ?_
         | simp only [↓State.quiet_kept, ↓State.kept_ite, State.kept_mk, State.kept_eta, ite_self, ↓State.kept_foldl, ↓State.each_kept, ↓State.quiet_kept, ↓State.written_kept, ↓wrPortCfg_kept]
         | split))

theorem execRegionPortSlotsWrite_kept (ini : Ini) (n : Fin 64) (p : Fin 4) (value : BitVec 32) (s : State) (out : State) (h : execRegionPortSlotsWrite ini n p value s = .next out) : out.kept = s.kept := by
  unfold execRegionPortSlotsWrite at h
  try dsimp only at h
  (repeat' split at h) <;> first
    | (cases h; done)
    | (injection h with h; subst h
       (repeat' first
         | with_reducible rfl
         | with_reducible refine (State.each_kept _ _ _ (fun _ _ => ?_)).trans ?_
         | with_reducible refine (State.kept_foldl _ _ _ (fun _ _ => ?_)).trans ?_
         | with_reducible refine (State.kept_foldl_fst _ _ _ (fun _ _ => ?_)).trans ?_
         | with_reducible refine (State.written_kept _ _ _ _ (fun _ => ?_)).trans ?_
         | simp only [↓State.quiet_kept, ↓State.kept_ite, State.kept_mk, State.kept_eta, ite_self, ↓State.kept_foldl, ↓State.each_kept, ↓State.quiet_kept, ↓State.written_kept, ↓wrPortSlots_kept]
         | split))

theorem execRehashHold_kept (s : State) (out : State) (h : execRehashHold s = .next out) : out.kept = s.kept := by
  unfold execRehashHold at h
  try dsimp only at h
  (repeat' split at h) <;> first
    | (cases h; done)
    | (injection h with h; subst h; simp only [↓State.kept_ite, State.kept_mk, State.kept_eta, ite_self, ↓State.kept_foldl, ↓State.each_kept, ↓State.quiet_kept]; done)

theorem execRehashSwitch_kept (s : State) (out : State) (h : execRehashSwitch s = .next out) : out.kept = s.kept := by
  unfold execRehashSwitch at h
  try dsimp only at h
  (repeat' split at h) <;> first
    | (cases h; done)
    | (injection h with h; subst h
       (repeat' first
         | with_reducible rfl
         | with_reducible refine (State.each_kept _ _ _ (fun _ _ => ?_)).trans ?_
         | with_reducible refine (State.kept_foldl _ _ _ (fun _ _ => ?_)).trans ?_
         | with_reducible refine (State.kept_foldl_fst _ _ _ (fun _ _ => ?_)).trans ?_
         | simp only [↓State.quiet_kept, ↓State.kept_ite, State.kept_mk, State.kept_eta, ite_self, ↓State.kept_foldl, ↓State.each_kept, ↓State.drawSalt_kept, ↓State.endOp_kept, ↓State.quiet_kept, ↓State.releaseHeld_kept, ↓State.setSliceSet_kept]
         | split))

theorem execRejoin_kept (ini : Ini) (s : State) (out : State) (h : execRejoin ini s = .next out) : out.kept = s.kept := by
  unfold execRejoin at h
  try dsimp only at h
  (repeat' split at h) <;> first
    | (cases h; done)
    | (injection h with h; subst h
       (repeat' first
         | with_reducible rfl
         | with_reducible refine (State.each_kept _ _ _ (fun _ _ => ?_)).trans ?_
         | with_reducible refine (State.kept_foldl _ _ _ (fun _ _ => ?_)).trans ?_
         | with_reducible refine (State.kept_foldl_fst _ _ _ (fun _ _ => ?_)).trans ?_
         | with_reducible refine (State.written_kept _ _ _ _ (fun _ => ?_)).trans ?_
         | simp only [↓State.quiet_kept, ↓State.kept_ite, State.kept_mk, State.kept_eta, ite_self, ↓State.kept_foldl, ↓State.each_kept, ↓State.quiet_kept, ↓State.rejoinCmd_kept, ↓State.written_kept]
         | split))

theorem execReleaseHold_kept (ini : Ini) (s : State) (out : State) (h : execReleaseHold ini s = .next out) : out.kept = s.kept := by
  unfold execReleaseHold at h
  try dsimp only at h
  (repeat' split at h) <;> first
    | (cases h; done)
    | (injection h with h; subst h
       (repeat' first
         | with_reducible rfl
         | with_reducible refine (State.each_kept _ _ _ (fun _ _ => ?_)).trans ?_
         | with_reducible refine (State.kept_foldl _ _ _ (fun _ _ => ?_)).trans ?_
         | with_reducible refine (State.kept_foldl_fst _ _ _ (fun _ _ => ?_)).trans ?_
         | with_reducible refine (State.written_kept _ _ _ _ (fun _ => ?_)).trans ?_
         | simp only [↓State.quiet_kept, ↓State.kept_ite, State.kept_mk, State.kept_eta, ite_self, ↓State.kept_foldl, ↓State.each_kept, ↓State.clr_kept, ↓State.deniedWrite_kept, ↓State.quiet_kept, ↓State.written_kept]
         | split))

theorem execRepairLoad_kept (tables : Bool) (s : State) (out : State) (h : execRepairLoad tables s = .next out) : out.kept = s.kept := by
  unfold execRepairLoad at h
  try dsimp only at h
  (repeat' split at h) <;> first
    | (cases h; done)
    | (injection h with h; subst h; simp only [↓State.kept_ite, State.kept_mk, State.kept_eta, ite_self, ↓State.kept_foldl, ↓State.each_kept, ↓State.deskReady_kept, ↓State.endStep_kept, ↓State.itin_kept, ↓State.logBroken_kept, ↓State.quiet_kept, ↓State.repairLoad_kept, ↓State.stopStart_kept]; done)

theorem execRequestIngress_kept (n : Fin 192) (port : Fin 16) (p : Packet) (s : State) (out : State) (h : execRequestIngress n port p s = .next out) : out.kept = s.kept := by
  unfold execRequestIngress at h
  try dsimp only at h
  (repeat' split at h) <;> first
    | (cases h; done)
    | (injection h with h; subst h; simp only [↓State.kept_ite, State.kept_mk, State.kept_eta, ite_self, ↓State.kept_foldl, ↓State.each_kept, ↓State.enterRequest_kept, ↓State.quiet_kept]; done)

theorem execReset_kept (rq : Request) (g : Fin 24) (s : State) (out : State) (h : execReset rq g s = .next out) : out.kept = s.kept := by
  unfold execReset at h
  try dsimp only at h
  (repeat' split at h) <;> first
    | (cases h; done)
    | (injection h with h; subst h
       (repeat' first
         | with_reducible rfl
         | with_reducible refine (State.each_kept _ _ _ (fun _ _ => ?_)).trans ?_
         | with_reducible refine (State.kept_foldl _ _ _ (fun _ _ => ?_)).trans ?_
         | with_reducible refine (State.kept_foldl_fst _ _ _ (fun _ _ => ?_)).trans ?_
         | with_reducible refine (State.twinRecord_kept _ _ _ _ _ (fun _ => ?_)).trans ?_
         | simp only [↓State.quiet_kept, ↓State.kept_ite, State.kept_mk, State.kept_eta, ite_self, ↓State.kept_foldl, ↓State.each_kept, ↓State.askReset_kept, ↓State.forwardReset_kept, ↓State.quiet_kept, ↓State.setTwin_kept, ↓State.twinRecord_kept]
         | split))

theorem execResetN_kept (high : Bool) (s : State) (out : State) (h : execResetN high s = .next out) : out.kept = s.kept := by
  unfold execResetN at h
  (repeat' split at h) <;> first
    | (cases h; done)
    | (injection h with h; subst h; simp only [↓State.kept_ite, State.kept_mk, State.kept_eta, ite_self, ↓State.kept_foldl, ↓State.each_kept, ↓State.quiet_kept, ↓State.setStart_kept]; done)

theorem execResignCmd_kept (ini : Ini) (s : State) (out : State) (h : execResignCmd ini s = .next out) : out.kept = s.kept := by
  unfold execResignCmd at h
  try dsimp only at h
  (repeat' split at h) <;> first
    | (cases h; done)
    | (injection h with h; subst h
       (repeat' first
         | with_reducible rfl
         | with_reducible refine (State.each_kept _ _ _ (fun _ _ => ?_)).trans ?_
         | with_reducible refine (State.kept_foldl _ _ _ (fun _ _ => ?_)).trans ?_
         | with_reducible refine (State.kept_foldl_fst _ _ _ (fun _ _ => ?_)).trans ?_
         | with_reducible refine (State.written_kept _ _ _ _ (fun _ => ?_)).trans ?_
         | simp only [↓State.quiet_kept, ↓State.kept_ite, State.kept_mk, State.kept_eta, ite_self, ↓State.kept_foldl, ↓State.each_kept, ↓State.quiet_kept, ↓State.resignCmd_kept, ↓State.written_kept]
         | split))

theorem execResponseArrival_kept (node : BitVec 12) (tag : BitVec 8) (a : Answer) (s : State) (out : State) (h : execResponseArrival node tag a s = .next out) : out.kept = s.kept := by
  unfold execResponseArrival at h
  injection h with h; subst h; simp only [↓State.kept_ite, State.kept_mk, State.kept_eta, ite_self, ↓State.kept_foldl, ↓State.each_kept, ↓State.consumeEngine_kept, ↓State.quiet_kept, ↓State.responseArrives_kept, ↓State.tagFreed_kept]

theorem execRestart_kept (ini : Ini) (t : Fin 4) (s : State) (out : State) (h : execRestart ini t s = .next out) : out.kept = s.kept := by
  unfold execRestart at h
  try dsimp only at h
  (repeat' split at h) <;> first
    | (cases h; done)
    | (injection h with h; subst h
       (repeat' first
         | with_reducible rfl
         | with_reducible refine (State.each_kept _ _ _ (fun _ _ => ?_)).trans ?_
         | with_reducible refine (State.kept_foldl _ _ _ (fun _ _ => ?_)).trans ?_
         | with_reducible refine (State.kept_foldl_fst _ _ _ (fun _ _ => ?_)).trans ?_
         | with_reducible refine (State.written_kept _ _ _ _ (fun _ => ?_)).trans ?_
         | simp only [↓State.quiet_kept, ↓State.kept_ite, State.kept_mk, State.kept_eta, ite_self, ↓State.kept_foldl, ↓State.each_kept, ↓State.quiet_kept, ↓State.threadRestartCmd_kept, ↓State.written_kept]
         | split))

theorem execRetireComplete_kept (s : State) (out : State) (h : execRetireComplete s = .next out) : out.kept = s.kept := by
  unfold execRetireComplete at h
  try dsimp only at h
  (repeat' split at h) <;> first
    | (cases h; done)
    | (injection h with h; subst h; simp only [↓State.kept_ite, State.kept_mk, State.kept_eta, ite_self, ↓State.kept_foldl, ↓State.each_kept, ↓State.dropKey_kept, ↓State.mkeyEnd_kept, ↓State.quiet_kept, ↓State.setKstate_kept]; done)

theorem execRetrain_kept (ini : Ini) (g : Fin 24) (s : State) (out : State) (h : execRetrain ini g s = .next out) : out.kept = s.kept := by
  unfold execRetrain at h
  try dsimp only at h
  (repeat' split at h) <;> first
    | (cases h; done)
    | (injection h with h; subst h
       (repeat' first
         | with_reducible rfl
         | with_reducible refine (State.each_kept _ _ _ (fun _ _ => ?_)).trans ?_
         | with_reducible refine (State.kept_foldl _ _ _ (fun _ _ => ?_)).trans ?_
         | with_reducible refine (State.kept_foldl_fst _ _ _ (fun _ _ => ?_)).trans ?_
         | with_reducible refine (State.written_kept _ _ _ _ (fun _ => ?_)).trans ?_
         | simp only [↓State.quiet_kept, ↓State.kept_ite, State.kept_mk, State.kept_eta, ite_self, ↓State.kept_foldl, ↓State.each_kept, ↓State.quiet_kept, ↓State.retrain_kept, ↓State.written_kept]
         | split))

theorem execRevoke_kept (ini : Ini) (parent : Fin 8) (slot : Fin 8) (s : State) (out : State) (h : execRevoke ini parent slot s = .next out) : out.kept = s.kept := by
  unfold execRevoke at h
  injection h with h; subst h; simp only [↓State.kept_ite, State.kept_mk, State.kept_eta, ite_self, ↓State.kept_foldl, ↓State.each_kept, ↓State.keyWrite_kept, ↓State.quiet_kept]

theorem execRngOutRead_kept (ini : Ini) (s : State) (out : State) (h : execRngOutRead ini s = .next out) : out.kept = s.kept := by
  unfold execRngOutRead at h
  dsimp only at h
  split at h
  · exact Host.Outcome.next.inj h ▸ (State.shown_kept _ _ _ _ _ (fun a => State.drawn_kept a)).trans (State.quiet_kept s)
  · exact Host.Outcome.next.inj h ▸ (State.shown_kept _ _ _ _ _ (fun _ => rfl)).trans (State.quiet_kept s)

theorem execRouteTableWrite_kept (ini : Ini) (n : Fin 192) (b : Fin 2) (i : Fin 24) (value : BitVec 32) (s : State) (out : State) (h : execRouteTableWrite ini n b i value s = .next out) : out.kept = s.kept := by
  unfold execRouteTableWrite at h
  try dsimp only at h
  (repeat' split at h) <;> first
    | (cases h; done)
    | (injection h with h; subst h
       (repeat' first
         | with_reducible rfl
         | with_reducible refine (State.each_kept _ _ _ (fun _ _ => ?_)).trans ?_
         | with_reducible refine (State.kept_foldl _ _ _ (fun _ _ => ?_)).trans ?_
         | with_reducible refine (State.kept_foldl_fst _ _ _ (fun _ _ => ?_)).trans ?_
         | with_reducible refine (State.written_kept _ _ _ _ (fun _ => ?_)).trans ?_
         | simp only [↓State.quiet_kept, ↓State.kept_ite, State.kept_mk, State.kept_eta, ite_self, ↓State.kept_foldl, ↓State.each_kept, ↓State.emit_kept, ↓State.quiet_kept, ↓State.written_kept, ↓wrRouteTable_kept]
         | split))

theorem execScrubLine_kept (read : ScrubRead) (s : State) (out : State) (h : execScrubLine read s = .next out) : out.kept = s.kept := by
  unfold execScrubLine at h
  try dsimp only at h
  (repeat' split at h) <;> first
    | (cases h; done)
    | (injection h with h; subst h; simp only [↓State.kept_ite, State.kept_mk, State.kept_eta, ite_self, ↓State.kept_foldl, ↓State.each_kept, ↓State.quiet_kept, ↓State.scrubAgain_kept, ↓State.scrubLine_kept, ↓State.setSdLine_kept]; done)

theorem execScrubPassEnd_kept (s : State) (out : State) (h : execScrubPassEnd s = .next out) : out.kept = s.kept := by
  unfold execScrubPassEnd at h
  try dsimp only at h
  (repeat' split at h) <;> first
    | (cases h; done)
    | (injection h with h; subst h; simp only [↓State.kept_ite, State.kept_mk, State.kept_eta, ite_self, ↓State.kept_foldl, ↓State.each_kept, ↓State.quiet_kept, ↓State.scrubAgain_kept, ↓State.set1_kept]; done)

theorem execSdAlert_kept (c : Fin 12) (s : State) (out : State) (h : execSdAlert c s = .next out) : out.kept = s.kept := by
  unfold execSdAlert at h
  injection h with h; subst h; simp only [↓State.kept_ite, State.kept_mk, State.kept_eta, ite_self, ↓State.kept_foldl, ↓State.each_kept, ↓State.emit_kept, ↓State.quiet_kept]

theorem execSdCfgWrite_kept (ini : Ini) (value : BitVec 32) (s : State) (out : State) (h : execSdCfgWrite ini value s = .next out) : out.kept = s.kept := by
  unfold execSdCfgWrite at h
  try dsimp only at h
  (repeat' split at h) <;> first
    | (cases h; done)
    | (injection h with h; subst h
       (repeat' first
         | with_reducible rfl
         | with_reducible refine (State.each_kept _ _ _ (fun _ _ => ?_)).trans ?_
         | with_reducible refine (State.kept_foldl _ _ _ (fun _ _ => ?_)).trans ?_
         | with_reducible refine (State.kept_foldl_fst _ _ _ (fun _ _ => ?_)).trans ?_
         | with_reducible refine (State.written_kept _ _ _ _ (fun _ => ?_)).trans ?_
         | simp only [↓State.quiet_kept, ↓State.kept_ite, State.kept_mk, State.kept_eta, ite_self, ↓State.kept_foldl, ↓State.each_kept, ↓State.quiet_kept, ↓State.written_kept, ↓wrSdCfg_kept]
         | split))

theorem execSdramRefresh_kept (c : Fin 12) (s : State) (out : State) (h : execSdramRefresh c s = .next out) : out.kept = s.kept := by
  unfold execSdramRefresh at h
  try dsimp only at h
  (repeat' split at h) <;> first
    | (cases h; done)
    | (injection h with h; subst h; simp only [↓State.kept_ite, State.kept_mk, State.kept_eta, ite_self, ↓State.kept_foldl, ↓State.each_kept, ↓State.emit_kept, ↓State.quiet_kept]; done)

theorem execSdramWriteback_kept (l : BitVec 35) (s : State) (out : State) (h : execSdramWriteback l s = .next out) : out.kept = s.kept := by
  unfold execSdramWriteback at h
  try dsimp only at h
  (repeat' split at h) <;> first
    | (cases h; done)
    | (injection h with h; subst h
       (repeat' first
         | with_reducible rfl
         | with_reducible refine (State.each_kept _ _ _ (fun _ _ => ?_)).trans ?_
         | with_reducible refine (State.kept_foldl _ _ _ (fun _ _ => ?_)).trans ?_
         | with_reducible refine (State.kept_foldl_fst _ _ _ (fun _ _ => ?_)).trans ?_
         | exact State.meetChannel_kept _ _ _ ‹_›
         | exact (State.meetChannel_kept _ _ _ ‹_›).trans (by simp only [↓State.quiet_kept, ↓State.kept_ite, State.kept_mk, State.kept_eta, ite_self, ↓State.kept_foldl, ↓State.each_kept, ↓State.emit_kept, ↓State.quiet_kept, ↓State.setFirstWb_kept, ↓State.setSdLine_kept])
         | simp only [↓State.quiet_kept, ↓State.kept_ite, State.kept_mk, State.kept_eta, ite_self, ↓State.kept_foldl, ↓State.each_kept, ↓State.emit_kept, ↓State.quiet_kept, ↓State.setFirstWb_kept, ↓State.setSdLine_kept]
         | split))

theorem execSensorReadmit_kept (ini : Ini) (l : Fin 6) (value : BitVec 32) (s : State) (out : State) (h : execSensorReadmit ini l value s = .next out) : out.kept = s.kept := by
  unfold execSensorReadmit at h
  try dsimp only at h
  (repeat' split at h) <;> first
    | (cases h; done)
    | (injection h with h; subst h
       (repeat' first
         | with_reducible rfl
         | with_reducible refine (State.each_kept _ _ _ (fun _ _ => ?_)).trans ?_
         | with_reducible refine (State.kept_foldl _ _ _ (fun _ _ => ?_)).trans ?_
         | with_reducible refine (State.kept_foldl_fst _ _ _ (fun _ _ => ?_)).trans ?_
         | with_reducible refine (State.written_kept _ _ _ _ (fun _ => ?_)).trans ?_
         | simp only [↓State.quiet_kept, ↓State.kept_ite, State.kept_mk, State.kept_eta, ite_self, ↓State.kept_foldl, ↓State.each_kept, ↓State.quiet_kept, ↓State.written_kept, ↓wrSensFail_kept]
         | split))

theorem execSeq_kept (t : Fin 4) (s : State) (out : State) (h : execSeq t s = .next out) : out.kept = s.kept := by
  unfold execSeq at h
  injection h with h; subst h; simp only [↓State.kept_ite, State.kept_mk, State.kept_eta, ite_self, ↓State.kept_foldl, ↓State.each_kept, ↓State.aluReg_kept, ↓State.quiet_kept]

theorem execSeqi_kept (t : Fin 4) (s : State) (out : State) (h : execSeqi t s = .next out) : out.kept = s.kept := by
  unfold execSeqi at h
  injection h with h; subst h; simp only [↓State.kept_ite, State.kept_mk, State.kept_eta, ite_self, ↓State.kept_foldl, ↓State.each_kept, ↓State.aluImm_kept, ↓State.quiet_kept]

theorem execSll_kept (t : Fin 4) (s : State) (out : State) (h : execSll t s = .next out) : out.kept = s.kept := by
  unfold execSll at h
  injection h with h; subst h; simp only [↓State.kept_ite, State.kept_mk, State.kept_eta, ite_self, ↓State.kept_foldl, ↓State.each_kept, ↓State.aluReg_kept, ↓State.quiet_kept]

theorem execSlli_kept (t : Fin 4) (s : State) (out : State) (h : execSlli t s = .next out) : out.kept = s.kept := by
  unfold execSlli at h
  injection h with h; subst h; simp only [↓State.kept_ite, State.kept_mk, State.kept_eta, ite_self, ↓State.kept_foldl, ↓State.each_kept, ↓State.aluImm_kept, ↓State.quiet_kept]

theorem execSlt_kept (t : Fin 4) (s : State) (out : State) (h : execSlt t s = .next out) : out.kept = s.kept := by
  unfold execSlt at h
  injection h with h; subst h; simp only [↓State.kept_ite, State.kept_mk, State.kept_eta, ite_self, ↓State.kept_foldl, ↓State.each_kept, ↓State.aluReg_kept, ↓State.quiet_kept]

theorem execSlti_kept (t : Fin 4) (s : State) (out : State) (h : execSlti t s = .next out) : out.kept = s.kept := by
  unfold execSlti at h
  injection h with h; subst h; simp only [↓State.kept_ite, State.kept_mk, State.kept_eta, ite_self, ↓State.kept_foldl, ↓State.each_kept, ↓State.aluImm_kept, ↓State.quiet_kept]

theorem execSltu_kept (t : Fin 4) (s : State) (out : State) (h : execSltu t s = .next out) : out.kept = s.kept := by
  unfold execSltu at h
  injection h with h; subst h; simp only [↓State.kept_ite, State.kept_mk, State.kept_eta, ite_self, ↓State.kept_foldl, ↓State.each_kept, ↓State.aluReg_kept, ↓State.quiet_kept]

theorem execSltui_kept (t : Fin 4) (s : State) (out : State) (h : execSltui t s = .next out) : out.kept = s.kept := by
  unfold execSltui at h
  injection h with h; subst h; simp only [↓State.kept_ite, State.kept_mk, State.kept_eta, ite_self, ↓State.kept_foldl, ↓State.each_kept, ↓State.aluImm_kept, ↓State.quiet_kept]

theorem execSnapReq_kept (ini : Ini) (value : BitVec 32) (s : State) (out : State) (h : execSnapReq ini value s = .next out) : out.kept = s.kept := by
  unfold execSnapReq at h
  try dsimp only at h
  (repeat' split at h) <;> first
    | (cases h; done)
    | (injection h with h; subst h
       (repeat' first
         | with_reducible rfl
         | with_reducible refine (State.each_kept _ _ _ (fun _ _ => ?_)).trans ?_
         | with_reducible refine (State.kept_foldl _ _ _ (fun _ _ => ?_)).trans ?_
         | with_reducible refine (State.kept_foldl_fst _ _ _ (fun _ _ => ?_)).trans ?_
         | with_reducible refine (State.written_kept _ _ _ _ (fun _ => ?_)).trans ?_
         | simp only [↓State.quiet_kept, ↓State.kept_ite, State.kept_mk, State.kept_eta, ite_self, ↓State.kept_foldl, ↓State.each_kept, ↓State.quiet_kept, ↓State.written_kept, ↓wrSnapCtl_kept]
         | split))

theorem execSnapshotComplete_kept (s : State) (out : State) (h : execSnapshotComplete s = .next out) : out.kept = s.kept := by
  unfold execSnapshotComplete at h
  try dsimp only at h
  (repeat' split at h) <;> first
    | (cases h; done)
    | (injection h with h; subst h; simp only [↓State.kept_ite, State.kept_mk, State.kept_eta, ite_self, ↓State.kept_foldl, ↓State.each_kept, ↓State.clr_kept, ↓State.quiet_kept, ↓State.set1_kept, ↓State.setTwin_kept, ↓State.wr_kept]; done)

theorem execSnoopCtlWrite_kept (ini : Ini) (u : Fin 16) (k : Fin 4) (value : BitVec 32) (s : State) (out : State) (h : execSnoopCtlWrite ini u k value s = .next out) : out.kept = s.kept := by
  unfold execSnoopCtlWrite at h
  try dsimp only at h
  (repeat' split at h) <;> first
    | (cases h; done)
    | (injection h with h; subst h
       (repeat' first
         | with_reducible rfl
         | with_reducible refine (State.each_kept _ _ _ (fun _ _ => ?_)).trans ?_
         | with_reducible refine (State.kept_foldl _ _ _ (fun _ _ => ?_)).trans ?_
         | with_reducible refine (State.kept_foldl_fst _ _ _ (fun _ _ => ?_)).trans ?_
         | with_reducible refine (State.written_kept _ _ _ _ (fun _ => ?_)).trans ?_
         | simp only [↓State.quiet_kept, ↓State.kept_ite, State.kept_mk, State.kept_eta, ite_self, ↓State.kept_foldl, ↓State.each_kept, ↓State.quiet_kept, ↓State.written_kept, ↓wrSnoopCfg_kept, ↓wrSnoopCtl_kept]
         | split))

theorem execSnoopFifoPop_kept (ini : Ini) (u : Fin 16) (s : State) (out : State) (h : execSnoopFifoPop ini u s = .next out) : out.kept = s.kept := by
  unfold execSnoopFifoPop at h
  try dsimp only at h
  (repeat' split at h) <;> first
    | (cases h; done)
    | (injection h with h; subst h
       (repeat' first
         | with_reducible rfl
         | with_reducible refine (State.each_kept _ _ _ (fun _ _ => ?_)).trans ?_
         | with_reducible refine (State.kept_foldl _ _ _ (fun _ _ => ?_)).trans ?_
         | with_reducible refine (State.kept_foldl_fst _ _ _ (fun _ _ => ?_)).trans ?_
         | with_reducible refine (State.shown_kept _ _ _ _ _ (fun _ => ?_)).trans ?_
         | simp only [↓State.quiet_kept, ↓State.kept_ite, State.kept_mk, State.kept_eta, ite_self, ↓State.kept_foldl, ↓State.each_kept, ↓State.quiet_kept, ↓State.setSnoop_kept, ↓State.shown_kept]
         | split))

theorem execSnoopPacket_kept (sight : SnoopSight) (s : State) (out : State) (h : execSnoopPacket sight s = .next out) : out.kept = s.kept := by
  unfold execSnoopPacket at h
  try dsimp only at h
  (repeat' split at h) <;> first
    | (cases h; done)
    | (injection h with h; subst h
       (repeat' first
         | with_reducible rfl
         | with_reducible refine (State.each_kept _ _ _ (fun _ _ => ?_)).trans ?_
         | with_reducible refine (State.kept_foldl _ _ _ (fun _ _ => ?_)).trans ?_
         | with_reducible refine (State.kept_foldl_fst _ _ _ (fun _ _ => ?_)).trans ?_
         | simp only [↓State.quiet_kept, ↓State.kept_ite, State.kept_mk, State.kept_eta, ite_self, ↓State.kept_foldl, ↓State.each_kept, ↓State.quiet_kept, ↓State.snoopAdd_kept, ↓State.snoopAddRaw_kept]
         | split))

theorem execSrEnter_kept (ini : Ini) (c : Fin 12) (s : State) (out : State) (h : execSrEnter ini c s = .next out) : out.kept = s.kept := by
  unfold execSrEnter at h
  try dsimp only at h
  (repeat' split at h) <;> first
    | (cases h; done)
    | (injection h with h; subst h
       (repeat' first
         | with_reducible rfl
         | with_reducible refine (State.each_kept _ _ _ (fun _ _ => ?_)).trans ?_
         | with_reducible refine (State.kept_foldl _ _ _ (fun _ _ => ?_)).trans ?_
         | with_reducible refine (State.kept_foldl_fst _ _ _ (fun _ _ => ?_)).trans ?_
         | with_reducible refine (State.written_kept _ _ _ _ (fun _ => ?_)).trans ?_
         | simp only [↓State.quiet_kept, ↓State.kept_ite, State.kept_mk, State.kept_eta, ite_self, ↓State.kept_foldl, ↓State.each_kept, ↓State.chCommand_kept, ↓State.quiet_kept, ↓State.written_kept]
         | split))

theorem execSrExit_kept (ini : Ini) (c : Fin 12) (s : State) (out : State) (h : execSrExit ini c s = .next out) : out.kept = s.kept := by
  unfold execSrExit at h
  try dsimp only at h
  (repeat' split at h) <;> first
    | (cases h; done)
    | (injection h with h; subst h
       (repeat' first
         | with_reducible rfl
         | with_reducible refine (State.each_kept _ _ _ (fun _ _ => ?_)).trans ?_
         | with_reducible refine (State.kept_foldl _ _ _ (fun _ _ => ?_)).trans ?_
         | with_reducible refine (State.kept_foldl_fst _ _ _ (fun _ _ => ?_)).trans ?_
         | with_reducible refine (State.written_kept _ _ _ _ (fun _ => ?_)).trans ?_
         | simp only [↓State.quiet_kept, ↓State.kept_ite, State.kept_mk, State.kept_eta, ite_self, ↓State.kept_foldl, ↓State.each_kept, ↓State.chCommand_kept, ↓State.quiet_kept, ↓State.written_kept]
         | split))

theorem execSra_kept (t : Fin 4) (s : State) (out : State) (h : execSra t s = .next out) : out.kept = s.kept := by
  unfold execSra at h
  injection h with h; subst h; simp only [↓State.kept_ite, State.kept_mk, State.kept_eta, ite_self, ↓State.kept_foldl, ↓State.each_kept, ↓State.aluReg_kept, ↓State.quiet_kept]

theorem execSrai_kept (t : Fin 4) (s : State) (out : State) (h : execSrai t s = .next out) : out.kept = s.kept := by
  unfold execSrai at h
  injection h with h; subst h; simp only [↓State.kept_ite, State.kept_mk, State.kept_eta, ite_self, ↓State.kept_foldl, ↓State.each_kept, ↓State.aluImm_kept, ↓State.quiet_kept]

theorem execSrl_kept (t : Fin 4) (s : State) (out : State) (h : execSrl t s = .next out) : out.kept = s.kept := by
  unfold execSrl at h
  injection h with h; subst h; simp only [↓State.kept_ite, State.kept_mk, State.kept_eta, ite_self, ↓State.kept_foldl, ↓State.each_kept, ↓State.aluReg_kept, ↓State.quiet_kept]

theorem execSrli_kept (t : Fin 4) (s : State) (out : State) (h : execSrli t s = .next out) : out.kept = s.kept := by
  unfold execSrli at h
  injection h with h; subst h; simp only [↓State.kept_ite, State.kept_mk, State.kept_eta, ite_self, ↓State.kept_foldl, ↓State.each_kept, ↓State.aluImm_kept, ↓State.quiet_kept]

theorem execSt_kept (t : Fin 4) (s : State) (out : State) (h : execSt t s = .next out) : out.kept = s.kept := by
  unfold execSt at h
  injection h with h; subst h; simp only [↓State.kept_ite, State.kept_mk, State.kept_eta, ite_self, ↓State.kept_foldl, ↓State.each_kept, ↓State.quiet_kept, ↓State.store_kept]

theorem execStackTestRequest_kept (ini : Ini) (value : BitVec 32) (s : State) (out : State) (h : execStackTestRequest ini value s = .next out) : out.kept = s.kept := by
  unfold execStackTestRequest at h
  try dsimp only at h
  (repeat' split at h) <;> first
    | (cases h; done)
    | (injection h with h; subst h
       (repeat' first
         | with_reducible rfl
         | with_reducible refine (State.each_kept _ _ _ (fun _ _ => ?_)).trans ?_
         | with_reducible refine (State.kept_foldl _ _ _ (fun _ _ => ?_)).trans ?_
         | with_reducible refine (State.kept_foldl_fst _ _ _ (fun _ _ => ?_)).trans ?_
         | with_reducible refine (State.written_kept _ _ _ _ (fun _ => ?_)).trans ?_
         | simp only [↓State.quiet_kept, ↓State.kept_ite, State.kept_mk, State.kept_eta, ite_self, ↓State.kept_foldl, ↓State.each_kept, ↓State.quiet_kept, ↓State.written_kept, ↓wrStackTest_kept]
         | split))

theorem execStart_kept (ini : Ini) (t : Fin 4) (s : State) (out : State) (h : execStart ini t s = .next out) : out.kept = s.kept := by
  unfold execStart at h
  try dsimp only at h
  (repeat' split at h) <;> first
    | (cases h; done)
    | (injection h with h; subst h
       (repeat' first
         | with_reducible rfl
         | with_reducible refine (State.each_kept _ _ _ (fun _ _ => ?_)).trans ?_
         | with_reducible refine (State.kept_foldl _ _ _ (fun _ _ => ?_)).trans ?_
         | with_reducible refine (State.kept_foldl_fst _ _ _ (fun _ _ => ?_)).trans ?_
         | with_reducible refine (State.written_kept _ _ _ _ (fun _ => ?_)).trans ?_
         | simp only [↓State.quiet_kept, ↓State.kept_ite, State.kept_mk, State.kept_eta, ite_self, ↓State.kept_foldl, ↓State.each_kept, ↓State.quiet_kept, ↓State.threadStart_kept, ↓State.written_kept]
         | split))

theorem execStp_kept (t : Fin 4) (s : State) (out : State) (h : execStp t s = .next out) : out.kept = s.kept := by
  unfold execStp at h
  injection h with h; subst h; simp only [↓State.kept_ite, State.kept_mk, State.kept_eta, ite_self, ↓State.kept_foldl, ↓State.each_kept, ↓State.quiet_kept, ↓State.store_kept]

theorem execStrobeRetune_kept (x0 : Fin 12) (s : State) (out : State) (h : execStrobeRetune x0 s = .next out) : out.kept = s.kept := by
  unfold execStrobeRetune at h
  injection h with h; subst h; simp only [↓State.kept_ite, State.kept_mk, State.kept_eta, ite_self, ↓State.kept_foldl, ↓State.each_kept, ↓State.quiet_kept]

theorem execStt_kept (t : Fin 4) (s : State) (out : State) (h : execStt t s = .next out) : out.kept = s.kept := by
  unfold execStt at h
  injection h with h; subst h; simp only [↓State.kept_ite, State.kept_mk, State.kept_eta, ite_self, ↓State.kept_foldl, ↓State.each_kept, ↓State.quiet_kept, ↓State.store_kept]

theorem execSub_kept (t : Fin 4) (s : State) (out : State) (h : execSub t s = .next out) : out.kept = s.kept := by
  unfold execSub at h
  injection h with h; subst h; simp only [↓State.kept_ite, State.kept_mk, State.kept_eta, ite_self, ↓State.kept_foldl, ↓State.each_kept, ↓State.aluReg_kept, ↓State.quiet_kept]

theorem execSubi_kept (t : Fin 4) (s : State) (out : State) (h : execSubi t s = .next out) : out.kept = s.kept := by
  unfold execSubi at h
  injection h with h; subst h; simp only [↓State.kept_ite, State.kept_mk, State.kept_eta, ite_self, ↓State.kept_foldl, ↓State.each_kept, ↓State.aluImm_kept, ↓State.quiet_kept]

theorem execSweepComplete_kept (s : State) (out : State) (h : execSweepComplete s = .next out) : out.kept = s.kept := by
  unfold execSweepComplete at h
  try dsimp only at h
  (repeat' split at h) <;> first
    | (cases h; done)
    | (injection h with h; subst h; simp only [↓State.kept_ite, State.kept_mk, State.kept_eta, ite_self, ↓State.kept_foldl, ↓State.each_kept, ↓State.mkeyEnd_kept, ↓State.quiet_kept, ↓State.setKeyBits_kept]; done)

theorem execTagRelease_kept (node : BitVec 12) (tag : BitVec 8) (s : State) (out : State) (h : execTagRelease node tag s = .next out) : out.kept = s.kept := by
  unfold execTagRelease at h
  injection h with h; subst h; simp only [↓State.kept_ite, State.kept_mk, State.kept_eta, ite_self, ↓State.kept_foldl, ↓State.each_kept, ↓State.freeLate_kept, ↓State.quiet_kept, ↓State.tagFreed_kept]

theorem execTargetTimeout_kept (n : Fin 192) (port : Fin 16) (ini : Ini) (tag : BitVec 8) (s : State) (out : State) (h : execTargetTimeout n port ini tag s = .next out) : out.kept = s.kept := by
  unfold execTargetTimeout at h
  try dsimp only at h
  (repeat' split at h) <;> first
    | (cases h; done)
    | (injection h with h; subst h; simp only [↓State.kept_ite, State.kept_mk, State.kept_eta, ite_self, ↓State.kept_foldl, ↓State.each_kept, ↓State.bump_kept, ↓State.isolate_kept, ↓State.quiet_kept]; done)

theorem execThreadStop_kept (ini : Ini) (t : Fin 4) (s : State) (out : State) (h : execThreadStop ini t s = .next out) : out.kept = s.kept := by
  unfold execThreadStop at h
  try dsimp only at h
  (repeat' split at h) <;> first
    | (cases h; done)
    | (injection h with h; subst h
       (repeat' first
         | with_reducible rfl
         | with_reducible refine (State.each_kept _ _ _ (fun _ _ => ?_)).trans ?_
         | with_reducible refine (State.kept_foldl _ _ _ (fun _ _ => ?_)).trans ?_
         | with_reducible refine (State.kept_foldl_fst _ _ _ (fun _ _ => ?_)).trans ?_
         | with_reducible refine (State.written_kept _ _ _ _ (fun _ => ?_)).trans ?_
         | simp only [↓State.quiet_kept, ↓State.kept_ite, State.kept_mk, State.kept_eta, ite_self, ↓State.kept_foldl, ↓State.each_kept, ↓State.quiet_kept, ↓State.threadStopCmd_kept, ↓State.written_kept]
         | split))

theorem execTickApply_kept (ini : Ini) (s : State) (out : State) (h : execTickApply ini s = .next out) : out.kept = s.kept := by
  unfold execTickApply at h
  try dsimp only at h
  (repeat' split at h) <;> first
    | (cases h; done)
    | (injection h with h; subst h
       (repeat' first
         | with_reducible rfl
         | with_reducible refine (State.each_kept _ _ _ (fun _ _ => ?_)).trans ?_
         | with_reducible refine (State.kept_foldl _ _ _ (fun _ _ => ?_)).trans ?_
         | with_reducible refine (State.kept_foldl_fst _ _ _ (fun _ _ => ?_)).trans ?_
         | with_reducible refine (State.written_kept _ _ _ _ (fun _ => ?_)).trans ?_
         | simp only [↓State.quiet_kept, ↓State.kept_ite, State.kept_mk, State.kept_eta, ite_self, ↓State.kept_foldl, ↓State.each_kept, ↓State.quiet_kept, ↓State.tickApply_kept, ↓State.written_kept]
         | split))

theorem execTickEnWrite_kept (ini : Ini) (en : Bool) (s : State) (out : State) (h : execTickEnWrite ini en s = .next out) : out.kept = s.kept := by
  unfold execTickEnWrite at h
  try dsimp only at h
  (repeat' split at h) <;> first
    | (cases h; done)
    | (injection h with h; subst h
       (repeat' first
         | with_reducible rfl
         | with_reducible refine (State.each_kept _ _ _ (fun _ _ => ?_)).trans ?_
         | with_reducible refine (State.kept_foldl _ _ _ (fun _ _ => ?_)).trans ?_
         | with_reducible refine (State.kept_foldl_fst _ _ _ (fun _ _ => ?_)).trans ?_
         | with_reducible refine (State.written_kept _ _ _ _ (fun _ => ?_)).trans ?_
         | simp only [↓State.quiet_kept, ↓State.kept_ite, State.kept_mk, State.kept_eta, ite_self, ↓State.kept_foldl, ↓State.each_kept, ↓State.quiet_kept, ↓State.writeTickEn_kept, ↓State.written_kept]
         | split))

theorem execTickInEdge_kept (s : State) (out : State) (h : execTickInEdge s = .next out) : out.kept = s.kept := by
  unfold execTickInEdge at h
  try dsimp only at h
  (repeat' split at h) <;> first
    | (cases h; done)
    | (injection h with h; subst h; simp only [↓State.kept_ite, State.kept_mk, State.kept_eta, ite_self, ↓State.kept_foldl, ↓State.each_kept, ↓State.placeBoundary_kept, ↓State.quiet_kept]; done)

theorem execTickInLost_kept (s : State) (out : State) (h : execTickInLost s = .next out) : out.kept = s.kept := by
  unfold execTickInLost at h
  try dsimp only at h
  (repeat' split at h) <;> first
    | (cases h; done)
    | (injection h with h; subst h; simp only [↓State.kept_ite, State.kept_mk, State.kept_eta, ite_self, ↓State.kept_foldl, ↓State.each_kept, ↓State.quiet_kept, ↓State.set1_kept]; done)

theorem execTickMarker_kept (g : Fin 24) (count : BitVec 8) (offset : BitVec 8) (frac : Fin 64) (s : State) (out : State) (h : execTickMarker g count offset frac s = .next out) : out.kept = s.kept := by
  unfold execTickMarker at h
  try dsimp only at h
  (repeat' split at h) <;> first
    | (cases h; done)
    | (injection h with h; subst h; simp only [↓State.kept_ite, State.kept_mk, State.kept_eta, ite_self, ↓State.kept_foldl, ↓State.each_kept, ↓State.markerPlaces_kept, ↓State.quiet_kept, ↓State.set1_kept, ↓State.wr_kept]; done)

theorem execTickSrcWrite_kept (ini : Ini) (src : BitVec 2) (s : State) (out : State) (h : execTickSrcWrite ini src s = .next out) : out.kept = s.kept := by
  unfold execTickSrcWrite at h
  try dsimp only at h
  (repeat' split at h) <;> first
    | (cases h; done)
    | (injection h with h; subst h
       (repeat' first
         | with_reducible rfl
         | with_reducible refine (State.each_kept _ _ _ (fun _ _ => ?_)).trans ?_
         | with_reducible refine (State.kept_foldl _ _ _ (fun _ _ => ?_)).trans ?_
         | with_reducible refine (State.kept_foldl_fst _ _ _ (fun _ _ => ?_)).trans ?_
         | with_reducible refine (State.written_kept _ _ _ _ (fun _ => ?_)).trans ?_
         | simp only [↓State.quiet_kept, ↓State.kept_ite, State.kept_mk, State.kept_eta, ite_self, ↓State.kept_foldl, ↓State.each_kept, ↓State.quiet_kept, ↓State.writeTickSrc_kept, ↓State.written_kept]
         | split))

theorem execTrainTimeout_kept (g : Fin 24) (s : State) (out : State) (h : execTrainTimeout g s = .next out) : out.kept = s.kept := by
  unfold execTrainTimeout at h
  try dsimp only at h
  (repeat' split at h) <;> first
    | (cases h; done)
    | (injection h with h; subst h; simp only [↓State.kept_ite, State.kept_mk, State.kept_eta, ite_self, ↓State.kept_foldl, ↓State.each_kept, ↓State.linkFails_kept, ↓State.quiet_kept]; done)

theorem execTrainingComplete_kept (c : Fin 12) (fail : Option (Fin 5)) (s : State) (out : State) (h : execTrainingComplete c fail s = .next out) : out.kept = s.kept := by
  unfold execTrainingComplete at h
  try dsimp only at h
  (repeat' split at h) <;> first
    | (cases h; done)
    | (injection h with h; subst h; simp only [↓State.kept_ite, State.kept_mk, State.kept_eta, ite_self, ↓State.kept_foldl, ↓State.each_kept, ↓State.chFail_kept, ↓State.quiet_kept, ↓State.setChState_kept]; done)

theorem execTs1_kept (g : Fin 24) (locked inverted : BitVec 16) (sets : List RxSet) (s : State) (out : State)
    (h : execTs1 g locked inverted sets s = .next out) : out.kept = s.kept := by
  unfold execTs1 at h
  dsimp only at h
  split at h
  · exact Host.Outcome.next.inj h ▸ State.quiet_kept s
  split at h
  · rw [← Host.Outcome.next.inj h]
    have e := State.readSets_kept _ _ _ _ _ _ _ ‹State.readSets _ _ _ _ _ = _›
    simpa only [↓State.wrLanes_kept, ↓State.quiet_kept] using e
  · have e := State.readSets_kept _ _ _ _ _ _ _ ‹_›
    rw [← Host.Outcome.next.inj h]
    split <;> simpa only [↓State.pinged_kept, ↓State.toTrain_kept, ↓State.wrLanes_kept, ↓State.quiet_kept] using e

theorem execTs2_kept (g : Fin 24) (sets : List RxSet) (pings : List (Nat × Nat)) (s : State) (out : State)
    (h : execTs2 g sets pings s = .next out) : out.kept = s.kept := by
  unfold execTs2 at h
  dsimp only at h
  split at h
  · cases h
  split at h
  · exact Host.Outcome.next.inj h ▸ State.quiet_kept s
  split at h
  · have e := State.readSets_kept _ _ _ _ _ _ _ ‹_›
    repeat' split at h
    all_goals
      rw [← Host.Outcome.next.inj h]
      simpa only [↓State.linkFails_kept, ↓State.linkUp_kept, ↓State.wr_kept, ↓State.pinged_kept, ↓State.quiet_kept] using e
  · have e := State.readSets_kept _ _ _ _ _ _ _ ‹_›
    rw [← Host.Outcome.next.inj h]
    simpa only [↓State.quiet_kept] using e

theorem execTwinCfgWrite_kept (ini : Ini) (value : BitVec 32) (s : State) (out : State) (h : execTwinCfgWrite ini value s = .next out) : out.kept = s.kept := by
  unfold execTwinCfgWrite at h
  try dsimp only at h
  (repeat' split at h) <;> first
    | (cases h; done)
    | (injection h with h; subst h
       (repeat' first
         | with_reducible rfl
         | with_reducible refine (State.each_kept _ _ _ (fun _ _ => ?_)).trans ?_
         | with_reducible refine (State.kept_foldl _ _ _ (fun _ _ => ?_)).trans ?_
         | with_reducible refine (State.kept_foldl_fst _ _ _ (fun _ _ => ?_)).trans ?_
         | with_reducible refine (State.written_kept _ _ _ _ (fun _ => ?_)).trans ?_
         | simp only [↓State.quiet_kept, ↓State.kept_ite, State.kept_mk, State.kept_eta, ite_self, ↓State.kept_foldl, ↓State.each_kept, ↓State.quiet_kept, ↓State.written_kept, ↓wrTwinCfg_kept]
         | split))

theorem execWaitConditionMet_kept (t : Fin 4) (s : State) (out : State) (h : execWaitConditionMet t s = .next out) : out.kept = s.kept := by
  unfold execWaitConditionMet at h
  try dsimp only at h
  (repeat' split at h) <;> first
    | (cases h; done)
    | (injection h with h; subst h; simp only [↓State.kept_ite, State.kept_mk, State.kept_eta, ite_self, ↓State.kept_foldl, ↓State.each_kept, ↓State.commit_kept, ↓State.quiet_kept, ↓State.setReg_kept]; done)

theorem execWake_kept (d : Fin 112) (s : State) (out : State) (h : execWake d s = .next out) : out.kept = s.kept := by
  unfold execWake at h
  try dsimp only at h
  (repeat' split at h) <;> first
    | (cases h; done)
    | (injection h with h; subst h; simp only [↓State.kept_ite, State.kept_mk, State.kept_eta, ite_self, ↓State.kept_foldl, ↓State.each_kept, ↓State.quiet_kept, ↓State.wake_kept]; done)

theorem execWatchdogExpiry_kept (t : Fin 4) (s : State) (out : State) (h : execWatchdogExpiry t s = .next out) : out.kept = s.kept := by
  unfold execWatchdogExpiry at h
  try dsimp only at h
  (repeat' split at h) <;> first
    | (cases h; done)
    | (injection h with h; subst h; simp only [↓State.kept_ite, State.kept_mk, State.kept_eta, ite_self, ↓State.kept_foldl, ↓State.each_kept, ↓State.logP_kept, ↓State.pulses_kept, ↓State.quiet_kept, ↓State.request136_kept, ↓State.set1_kept, ↓State.setThread_kept, ↓State.wdtLoad_kept]; done)

theorem execWdtEnWrite_kept (ini : Ini) (t : Fin 4) (value : BitVec 32) (s : State) (out : State) (h : execWdtEnWrite ini t value s = .next out) : out.kept = s.kept := by
  unfold execWdtEnWrite at h
  try dsimp only at h
  (repeat' split at h) <;> first
    | (cases h; done)
    | (injection h with h; subst h
       (repeat' first
         | with_reducible rfl
         | with_reducible refine (State.each_kept _ _ _ (fun _ _ => ?_)).trans ?_
         | with_reducible refine (State.kept_foldl _ _ _ (fun _ _ => ?_)).trans ?_
         | with_reducible refine (State.kept_foldl_fst _ _ _ (fun _ _ => ?_)).trans ?_
         | with_reducible refine (State.written_kept _ _ _ _ (fun _ => ?_)).trans ?_
         | simp only [↓State.quiet_kept, ↓State.kept_ite, State.kept_mk, State.kept_eta, ite_self, ↓State.kept_foldl, ↓State.each_kept, ↓State.quiet_kept, ↓State.written_kept, ↓wrWdt_kept]
         | split))

theorem execWflag_kept (t : Fin 4) (s : State) (out : State) (h : execWflag t s = .next out) : out.kept = s.kept := by
  unfold execWflag at h
  try dsimp only at h
  (repeat' split at h) <;> first
    | (cases h; done)
    | (injection h with h; subst h
       (repeat' first
         | with_reducible rfl
         | with_reducible refine (State.each_kept _ _ _ (fun _ _ => ?_)).trans ?_
         | with_reducible refine (State.kept_foldl _ _ _ (fun _ _ => ?_)).trans ?_
         | with_reducible refine (State.kept_foldl_fst _ _ _ (fun _ _ => ?_)).trans ?_
         | with_reducible refine (State.oldest_kept _ _ _ _ (fun _ _ => ?_)).trans ?_
         | with_reducible refine (State.unlockedOnly_kept _ _ _ (fun _ => ?_)).trans ?_
         | simp only [↓State.quiet_kept, ↓State.kept_ite, State.kept_mk, State.kept_eta, ite_self, ↓State.kept_foldl, ↓State.each_kept, ↓State.commit_kept, ↓State.oldest_kept, ↓State.quiet_kept, ↓State.setReg_kept, ↓State.unlockedOnly_kept, ↓State.waitFor_kept]
         | split))

theorem execWflagTimeout_kept (t : Fin 4) (s : State) (out : State) (h : execWflagTimeout t s = .next out) : out.kept = s.kept := by
  unfold execWflagTimeout at h
  try dsimp only at h
  (repeat' split at h) <;> first
    | (cases h; done)
    | (injection h with h; subst h; simp only [↓State.kept_ite, State.kept_mk, State.kept_eta, ite_self, ↓State.kept_foldl, ↓State.each_kept, ↓State.commit_kept, ↓State.quiet_kept, ↓State.setReg_kept]; done)

theorem execWritebackRetry_kept (l : BitVec 35) (s : State) (out : State) (h : execWritebackRetry l s = .next out) : out.kept = s.kept := by
  unfold execWritebackRetry at h
  try dsimp only at h
  (repeat' split at h) <;> first
    | (cases h; done)
    | (injection h with h; subst h; simp only [↓State.kept_ite, State.kept_mk, State.kept_eta, ite_self, ↓State.kept_foldl, ↓State.each_kept, ↓State.quiet_kept, ↓State.setFirstWb_kept]; done)

theorem execWshad_kept (t : Fin 4) (s : State) (out : State) (h : execWshad t s = .next out) : out.kept = s.kept := by
  unfold execWshad at h
  try dsimp only at h
  (repeat' split at h) <;> first
    | (cases h; done)
    | (injection h with h; subst h
       (repeat' first
         | with_reducible rfl
         | with_reducible refine (State.each_kept _ _ _ (fun _ _ => ?_)).trans ?_
         | with_reducible refine (State.kept_foldl _ _ _ (fun _ _ => ?_)).trans ?_
         | with_reducible refine (State.kept_foldl_fst _ _ _ (fun _ _ => ?_)).trans ?_
         | with_reducible refine (State.consuming_kept _ _ _ _ (fun _ => ?_)).trans ?_
         | with_reducible refine (State.oldest_kept _ _ _ _ (fun _ _ => ?_)).trans ?_
         | with_reducible refine (State.unlockedOnly_kept _ _ _ (fun _ => ?_)).trans ?_
         | simp only [↓State.quiet_kept, ↓State.kept_ite, State.kept_mk, State.kept_eta, ite_self, ↓State.kept_foldl, ↓State.each_kept, ↓State.commit_kept, ↓State.consuming_kept, ↓State.oldest_kept, ↓State.quiet_kept, ↓State.setReg_kept, ↓State.unlockedOnly_kept, ↓State.waitFor_kept]
         | split))

theorem execWslot_kept (t : Fin 4) (s : State) (out : State) (h : execWslot t s = .next out) : out.kept = s.kept := by
  unfold execWslot at h
  try dsimp only at h
  (repeat' split at h) <;> first
    | (cases h; done)
    | (injection h with h; subst h
       (repeat' first
         | with_reducible rfl
         | with_reducible refine (State.each_kept _ _ _ (fun _ _ => ?_)).trans ?_
         | with_reducible refine (State.kept_foldl _ _ _ (fun _ _ => ?_)).trans ?_
         | with_reducible refine (State.kept_foldl_fst _ _ _ (fun _ _ => ?_)).trans ?_
         | with_reducible refine (State.oldest_kept _ _ _ _ (fun _ _ => ?_)).trans ?_
         | with_reducible refine (State.unlockedOnly_kept _ _ _ (fun _ => ?_)).trans ?_
         | simp only [↓State.quiet_kept, ↓State.kept_ite, State.kept_mk, State.kept_eta, ite_self, ↓State.kept_foldl, ↓State.each_kept, ↓State.oldest_kept, ↓State.quiet_kept, ↓State.unlockedOnly_kept, ↓State.waitFor_kept]
         | split))

theorem execWtick_kept (t : Fin 4) (s : State) (out : State) (h : execWtick t s = .next out) : out.kept = s.kept := by
  unfold execWtick at h
  try dsimp only at h
  (repeat' split at h) <;> first
    | (cases h; done)
    | (injection h with h; subst h
       (repeat' first
         | with_reducible rfl
         | with_reducible refine (State.each_kept _ _ _ (fun _ _ => ?_)).trans ?_
         | with_reducible refine (State.kept_foldl _ _ _ (fun _ _ => ?_)).trans ?_
         | with_reducible refine (State.kept_foldl_fst _ _ _ (fun _ _ => ?_)).trans ?_
         | with_reducible refine (State.oldest_kept _ _ _ _ (fun _ _ => ?_)).trans ?_
         | with_reducible refine (State.unlockedOnly_kept _ _ _ (fun _ => ?_)).trans ?_
         | simp only [↓State.quiet_kept, ↓State.kept_ite, State.kept_mk, State.kept_eta, ite_self, ↓State.kept_foldl, ↓State.each_kept, ↓State.clr_kept, ↓State.commit_kept, ↓State.oldest_kept, ↓State.quiet_kept, ↓State.unlockedOnly_kept, ↓State.waitFor_kept]
         | split))

theorem execXor_kept (t : Fin 4) (s : State) (out : State) (h : execXor t s = .next out) : out.kept = s.kept := by
  unfold execXor at h
  injection h with h; subst h; simp only [↓State.kept_ite, State.kept_mk, State.kept_eta, ite_self, ↓State.kept_foldl, ↓State.each_kept, ↓State.aluReg_kept, ↓State.quiet_kept]

theorem execXori_kept (t : Fin 4) (s : State) (out : State) (h : execXori t s = .next out) : out.kept = s.kept := by
  unfold execXori at h
  injection h with h; subst h; simp only [↓State.kept_ite, State.kept_mk, State.kept_eta, ite_self, ↓State.kept_foldl, ↓State.each_kept, ↓State.aluImm_kept, ↓State.quiet_kept]

end Sys2Proof.Machine
end

