-- ==== Sys2Proof/Laws/Fuses.lean ====
section
/-! SUPPORT. What a command may do to the fuses (burn more of them, never clear one) and to the memories (each keeps its canonical form). One
lemma per operation that may burn a fuse or write a memory, and one per command that may reach such an operation. -/

set_option Elab.async false
set_option linter.all false

namespace Sys2Proof.Machine

/-- Life-cycle rows after: every burned bit of each row stays burned, and the state that the rows stand for is not lowered (R437). -/
def rowsGrow (a b : Nat × Nat × Nat) : Prop :=
  a.1 ||| b.1 = b.1 ∧ a.2.1 ||| b.2.1 = b.2.1 ∧ a.2.2 ||| b.2.2 = b.2.2 ∧ (lcOf a).getD 0 ≤ (lcOf b).getD 0

theorem rowsGrow_refl (a : Nat × Nat × Nat) : rowsGrow a a := ⟨Nat.or_self _, Nat.or_self _, Nat.or_self _, Nat.le_refl _⟩

theorem or_step {a b c : Nat} (h : a ||| b = b) (k : b ||| c = c) : a ||| c = c := by rw [← k, ← Nat.or_assoc, h]

theorem rowsGrow_trans {a b c : Nat × Nat × Nat} (h : rowsGrow a b) (k : rowsGrow b c) : rowsGrow a c :=
  ⟨or_step h.1 k.1, or_step h.2.1 k.2.1, or_step h.2.2.1 k.2.2.1, Nat.le_trans h.2.2.2 k.2.2.2⟩

theorem majority_or (a b c p : Nat) : majority (a ||| p, b ||| p, c ||| p) = majority (a, b, c) ||| p := by
  apply Nat.eq_of_testBit_eq
  intro i
  simp only [majority, Nat.testBit_or, Nat.testBit_and]
  cases a.testBit i <;> cases b.testBit i <;> cases c.testBit i <;> cases p.testBit i <;> rfl

theorem lcPattern_or : ∀ j < 6, ∀ k < 6,
    ((List.range 6).find? fun i => lcPattern j ||| lcPattern k == lcPattern i) = some (max j k) := by decide

/-- Burning the pattern of a state into each row keeps every burned bit and lowers no state (R437). -/
theorem rowsGrow_burn (f : SecFuses) {k : Nat} (hk : k < 6) : rowsGrow f.lcRows (f.burnLc k).lcRows := by
  refine ⟨?_, ?_, ?_, ?_⟩
  · simp only [SecFuses.burnLc]; rw [← Nat.or_assoc, Nat.or_self]
  · simp only [SecFuses.burnLc]; rw [← Nat.or_assoc, Nat.or_self]
  · simp only [SecFuses.burnLc]; rw [← Nat.or_assoc, Nat.or_self]
  · cases e : lcOf f.lcRows with
    | none => exact Nat.zero_le _
    | some j =>
      have hj : j < 6 := List.mem_range.1 (List.mem_of_find?_eq_some e)
      have hm : majority f.lcRows = lcPattern j := by simpa using List.find?_some e
      have h : lcOf (f.burnLc k).lcRows = some (max j k) := by
        rw [← lcPattern_or j hj k hk, ← hm, lcOf]
        simp only [SecFuses.burnLc, majority_or]
      rw [h]
      exact Nat.le_max_left ..

/-- Fuses after: burned fuses stay burned, the life-cycle state is not lowered, and the counts stay within what the part has
(R437, R442, R450, R463). -/
def SecFuses.grows (f g : SecFuses) : Prop :=
  rowsGrow f.lcRows g.lcRows ∧ (f.cap → g.cap) ∧ (f.killed → g.killed) ∧ (f.kekDead → g.kekDead) ∧
  f.epoch ≤ g.epoch ∧ (f.epoch ≤ 15 → g.epoch ≤ 15) ∧
  f.repairs <+: g.repairs ∧ (f.repairs.length ≤ 512 → g.repairs.length ≤ 512) ∧ g.mapouts = f.mapouts ∧ g.diesOut = f.diesOut

theorem SecFuses.grows_refl (f : SecFuses) : f.grows f :=
  ⟨rowsGrow_refl _, id, id, id, Nat.le_refl _, id, List.prefix_rfl, id, rfl, rfl⟩

theorem SecFuses.grows_trans {f g h : SecFuses} (a : f.grows g) (b : g.grows h) : f.grows h := by
  obtain ⟨a1, a3, a4, a5, a6, a7, a8, a9, a10, a11⟩ := a
  obtain ⟨b1, b3, b4, b5, b6, b7, b8, b9, b10, b11⟩ := b
  exact ⟨rowsGrow_trans a1 b1, b3 ∘ a3, b4 ∘ a4, b5 ∘ a5, Nat.le_trans a6 b6, b7 ∘ a7, a8.trans b8, b9 ∘ a9, b10.trans a10, b11.trans a11⟩

theorem SecFuses.grows_burn (f : SecFuses) {k : Nat} (hk : k < 6) : f.grows (f.burnLc k) :=
  ⟨rowsGrow_burn f hk, id, id, id, Nat.le_refl _, id, List.prefix_rfl, id, rfl, rfl⟩

theorem nextEpoch_grows (e : Nat) : e ≤ nextEpoch e ∧ (e ≤ 15 → nextEpoch e ≤ 15) := by unfold nextEpoch; split <;> omega

/-- An ERASE only burns: the kill fuse, an epoch fuse while one is left, and else SCRAPPED and the KEK (R450, R451). -/
theorem SecFuses.grows_erased (f : SecFuses) : f.grows (erasedFuses f) := by
  have e := nextEpoch_grows f.epoch
  unfold erasedFuses
  dsimp only
  split
  · exact ⟨rowsGrow_refl _, id, fun _ => rfl, fun h => by simp [h], e.1, e.2, List.prefix_rfl, id, rfl, rfl⟩
  · exact ⟨rowsGrow_burn f (by decide), id, fun _ => rfl, fun h => by simp [h], e.1, e.2, List.prefix_rfl, id, rfl, rfl⟩

/-- A state that is left so: the queue and the bins as in s, fuses only burned, and each memory in its canonical form if it was. -/
def State.leaves (s : State) (k : KeptData) : Prop :=
  k.1 = s.pending ∧ k.2.1 = s.fuses ∧ s.lcFuses.grows k.2.2.1 ∧ (storeWf 0 s.spad → storeWf 0 k.2.2.2.1) ∧
  (storeWf none s.bram → storeWf none k.2.2.2.2.1) ∧ (storeWf Frame.erased s.planes → storeWf Frame.erased k.2.2.2.2.2)

theorem State.leaves_refl (s : State) : s.leaves s.kept := ⟨rfl, rfl, SecFuses.grows_refl _, id, id, id⟩

theorem State.leaves_trans {s t : State} {k : KeptData} (a : s.leaves t.kept) (b : t.leaves k) : s.leaves k :=
  ⟨b.1.trans a.1, b.2.1.trans a.2.1, SecFuses.grows_trans a.2.2.1 b.2.2.1, b.2.2.2.1 ∘ a.2.2.2.1, b.2.2.2.2.1 ∘ a.2.2.2.2.1,
    b.2.2.2.2.2 ∘ a.2.2.2.2.2⟩

theorem State.leaves_of_kept {s t : State} (b : t.kept = s.kept) : s.leaves t.kept := b ▸ State.leaves_refl s

theorem State.leaves_foldl {α : Type} (l : List α) (f : State → α → State) {r s : State} (h : ∀ (s : State) x, s.leaves (f s x).kept)
    (hs : r.leaves s.kept) : r.leaves (l.foldl f s).kept := by
  induction l generalizing s with
  | nil => exact hs
  | cons x l ih => exact ih (State.leaves_trans hs (h _ _))

theorem State.leaves_foldl_fst {α β : Type} (l : List α) (f : State × β → α → State × β) {r : State} {a : State × β}
    (h : ∀ (a : State × β) x, a.1.leaves (f a x).1.kept) (hs : r.leaves a.1.kept) : r.leaves (l.foldl f a).1.kept := by
  induction l generalizing a with
  | nil => exact hs
  | cons x l ih => exact ih (State.leaves_trans hs (h _ _))

theorem State.leaves_each {r s : State} (is : List Nat) (f : State → Nat → State) (h : ∀ (s : State) i, s.leaves (f s i).kept)
    (hs : r.leaves s.kept) : r.leaves (s.each is f).kept := State.leaves_foldl is f h hs

/-- A higher-order operation: the record of the partner acts by f (R358). -/
theorem State.twinRecord_leaves (s : State) (rq : Request) (kind size : Nat) (f : State → State) (hf : ∀ a : State, a.leaves (f a).kept)
    {u0 : State} (hr : u0.leaves s.kept) : u0.leaves (s.twinRecord rq kind size f).kept := by
  refine State.leaves_trans hr ?_
  unfold State.twinRecord
  (repeat' split) <;> (try simp only [↓State.reply_kept]) <;> first | exact State.leaves_refl _ | exact hf _

/-- A higher-order operation: a record of the pair acts by f where it comes from the partner (R358). -/
theorem State.pairRecord_leaves (s : State) (rq : Request) (kind size : Nat) (may : Bool) (f : State → State) (hf : ∀ a : State, a.leaves (f a).kept)
    {u0 : State} (hr : u0.leaves s.kept) : u0.leaves (s.pairRecord rq kind size may f).kept := by
  unfold State.pairRecord
  refine State.twinRecord_leaves _ _ _ _ _ (fun a => ?_) hr
  (repeat' split) <;> first | exact hf _ | exact State.leaves_refl _ | (simp only [↓State.log_kept]; exact State.leaves_refl _)

/-- A higher-order operation: a register write acts by f unless it is turned away (R38, R467). -/
theorem State.written_leaves (s : State) (ini : Ini) (off : Nat) (f : State → State) (hf : ∀ a : State, a.leaves (f a).kept)
    {u0 : State} (hr : u0.leaves s.kept) : u0.leaves (s.written ini off f).kept := by
  refine State.leaves_trans hr ?_
  unfold State.written
  split
  · exact State.leaves_refl _
  · simp only [↓State.okWrite_kept]; exact hf _

/-- A higher-order operation: the test block's command acts by f unless it is barred (R453). -/
theorem State.testWrite_leaves (s : State) (ini : Ini) (barred : Bool) (off : Nat) (f : State → State) (hf : ∀ a : State, a.leaves (f a).kept)
    {u0 : State} (hr : u0.leaves s.kept) : u0.leaves (s.testWrite ini barred off f).kept := by
  refine State.leaves_trans hr ?_
  unfold State.testWrite
  split
  · simp only [↓State.deniedWrite_kept]; exact State.leaves_refl _
  · exact State.written_leaves _ _ _ _ hf (State.leaves_refl _)

/-- A higher-order operation: requests are served by f in order, as far as it serves them (R269). -/
theorem State.afterFill_leaves (s : State) (k : Nat) (f : State → Request → Option State) (rs : List Request)
    (hf : ∀ (a : State) (rq : Request) (u : State), f a rq = some u → a.leaves u.kept) {u0 : State} (hr : u0.leaves s.kept) :
    u0.leaves (s.afterFill k f rs).kept := by
  induction rs generalizing s with
  | nil => exact hr
  | cons rq rest ih =>
    unfold State.afterFill
    split
    · exact ih _ (State.leaves_trans hr (hf _ _ _ ‹_›))
    · simp only [↓State.setSlice_kept]; exact hr

theorem State.leaves_fuses {r s : State} {f : SecFuses} (hs : r.leaves s.kept) (h : s.lcFuses.grows f) :
    r.leaves (s.setFuses f).kept := State.leaves_trans hs ⟨rfl, rfl, h, id, id, id⟩


theorem State.erasePlane_leaves (s : State) (n : Nat) (p : Nat) {u0 : State} (hr : u0.leaves s.kept) : u0.leaves (s.erasePlane n p).kept := by
  refine State.leaves_trans hr ?_
  unfold State.erasePlane
  simp only [State.kept_mk]
  exact ⟨rfl, rfl, SecFuses.grows_refl _, id, id, Laws.clear_wf _ _ _ _⟩

theorem State.scrubImage_leaves (s : State) {u0 : State} (hr : u0.leaves s.kept) : u0.leaves (State.scrubImage s).kept := by
  refine State.leaves_trans hr ?_
  clear hr
  unfold State.scrubImage
  repeat' first
    | with_reducible exact State.leaves_refl _
    | with_reducible assumption
    | simp only [↓State.kept_ite, State.kept_mk, State.kept_eta, ite_self, ↓State.kept_foldl, ↓State.each_kept, ↓State.setPlState_kept, ↓State.quiet_kept, ↓State.setSec_kept, ↓State.drawn_kept]
    | dsimp only
    | (with_reducible apply State.leaves_fuses (h := (by first | exact SecFuses.grows_refl _ | (exact SecFuses.grows_erased _) | (simp [SecFuses.grows, rowsGrow_refl]; try omega))))
    | with_reducible apply State.leaves_each
    | with_reducible apply State.leaves_foldl_fst
    | with_reducible apply State.leaves_foldl
    | with_reducible apply State.erasePlane_leaves
    | split
    | intro _

theorem State.imgFail_leaves (s : State) (code : Nat) {u0 : State} (hr : u0.leaves s.kept) : u0.leaves (State.imgFail s code).kept := by
  refine State.leaves_trans hr ?_
  clear hr
  unfold State.imgFail
  repeat' first
    | with_reducible exact State.leaves_refl _
    | with_reducible assumption
    | simp only [↓State.kept_ite, State.kept_mk, State.kept_eta, ite_self, ↓State.kept_foldl, ↓State.each_kept, ↓State.imageOver_kept, ↓State.log_kept, ↓State.quiet_kept, ↓State.setSec_kept, ↓State.drawn_kept]
    | dsimp only
    | (with_reducible apply State.leaves_fuses (h := (by first | exact SecFuses.grows_refl _ | (exact SecFuses.grows_erased _) | (simp [SecFuses.grows, rowsGrow_refl]; try omega))))
    | with_reducible apply State.leaves_each
    | with_reducible apply State.leaves_foldl_fst
    | with_reducible apply State.leaves_foldl
    | with_reducible apply State.scrubImage_leaves
    | split
    | intro _

theorem State.loadFails_leaves (s : State) (code : Nat) {u0 : State} (hr : u0.leaves s.kept) : u0.leaves (State.loadFails s code).kept := by
  refine State.leaves_trans hr ?_
  clear hr
  unfold State.loadFails
  repeat' first
    | with_reducible exact State.leaves_refl _
    | with_reducible assumption
    | simp only [↓State.kept_ite, State.kept_mk, State.kept_eta, ite_self, ↓State.kept_foldl, ↓State.each_kept, ↓State.wr_kept, ↓State.quiet_kept, ↓State.setSec_kept, ↓State.drawn_kept]
    | dsimp only
    | (with_reducible apply State.leaves_fuses (h := (by first | exact SecFuses.grows_refl _ | (exact SecFuses.grows_erased _) | (simp [SecFuses.grows, rowsGrow_refl]; try omega))))
    | with_reducible apply State.leaves_each
    | with_reducible apply State.leaves_foldl_fst
    | with_reducible apply State.leaves_foldl
    | with_reducible apply State.imgFail_leaves
    | split
    | intro _

theorem State.zeroise_leaves (s : State) {u0 : State} (hr : u0.leaves s.kept) : u0.leaves (State.zeroise s).kept := by
  refine State.leaves_trans hr ?_
  clear hr
  unfold State.zeroise
  repeat' first
    | with_reducible exact State.leaves_refl _
    | with_reducible assumption
    | simp only [↓State.kept_ite, State.kept_mk, State.kept_eta, ite_self, ↓State.kept_foldl, ↓State.each_kept, ↓State.set1_kept, ↓State.zeroiseKeys_kept, ↓State.quiet_kept, ↓State.setSec_kept, ↓State.drawn_kept]
    | dsimp only
    | (with_reducible apply State.leaves_fuses (h := (by first | exact SecFuses.grows_refl _ | (exact SecFuses.grows_erased _) | (simp [SecFuses.grows, rowsGrow_refl]; try omega))))
    | with_reducible apply State.leaves_each
    | with_reducible apply State.leaves_foldl_fst
    | with_reducible apply State.leaves_foldl
    | with_reducible apply State.loadFails_leaves
    | split
    | intro _

theorem State.eraseFuses_leaves (s : State) {u0 : State} (hr : u0.leaves s.kept) : u0.leaves (State.eraseFuses s).kept := by
  refine State.leaves_trans hr ?_
  unfold State.eraseFuses
  simp only [↓State.voidSlots_kept, State.kept_mk]
  exact ⟨rfl, rfl, SecFuses.grows_erased _, id, id, id⟩

theorem State.respondAbove_leaves (s : State) (done : Nat) (r : Nat) {u0 : State} (hr : u0.leaves s.kept) : u0.leaves (State.respondAbove s done r).kept := by
  refine State.leaves_trans hr ?_
  clear hr
  unfold State.respondAbove
  repeat' first
    | with_reducible exact State.leaves_refl _
    | with_reducible assumption
    | simp only [↓State.kept_ite, State.kept_mk, State.kept_eta, ite_self, ↓State.kept_foldl, ↓State.each_kept, ↓State.lockAll_kept, ↓State.quiet_kept, ↓State.setSec_kept, ↓State.drawn_kept]
    | dsimp only
    | (with_reducible apply State.leaves_fuses (h := (by first | exact SecFuses.grows_refl _ | (exact SecFuses.grows_erased _) | (simp [SecFuses.grows, rowsGrow_refl]; try omega))))
    | with_reducible apply State.leaves_each
    | with_reducible apply State.leaves_foldl_fst
    | with_reducible apply State.leaves_foldl
    | with_reducible apply State.eraseFuses_leaves
    | with_reducible apply State.zeroise_leaves
    | split
    | intro _

theorem State.respond_leaves (s : State) (r : Nat) {u0 : State} (hr : u0.leaves s.kept) : u0.leaves (State.respond s r).kept := by
  refine State.leaves_trans hr ?_
  clear hr
  unfold State.respond
  repeat' first
    | with_reducible exact State.leaves_refl _
    | with_reducible assumption
    | simp only [↓State.kept_ite, State.kept_mk, State.kept_eta, ite_self, ↓State.kept_foldl, ↓State.each_kept, ↓State.quiet_kept, ↓State.setSec_kept, ↓State.drawn_kept]
    | dsimp only
    | (with_reducible apply State.leaves_fuses (h := (by first | exact SecFuses.grows_refl _ | (exact SecFuses.grows_erased _) | (simp [SecFuses.grows, rowsGrow_refl]; try omega))))
    | with_reducible apply State.leaves_each
    | with_reducible apply State.leaves_foldl_fst
    | with_reducible apply State.leaves_foldl
    | with_reducible apply State.respondAbove_leaves
    | split
    | intro _

theorem State.respondOnce_leaves (s : State) (r : Nat) {u0 : State} (hr : u0.leaves s.kept) : u0.leaves (State.respondOnce s r).kept := by
  refine State.leaves_trans hr ?_
  clear hr
  unfold State.respondOnce
  repeat' first
    | with_reducible exact State.leaves_refl _
    | with_reducible assumption
    | simp only [↓State.kept_ite, State.kept_mk, State.kept_eta, ite_self, ↓State.kept_foldl, ↓State.each_kept, ↓State.quiet_kept, ↓State.setSec_kept, ↓State.drawn_kept]
    | dsimp only
    | (with_reducible apply State.leaves_fuses (h := (by first | exact SecFuses.grows_refl _ | (exact SecFuses.grows_erased _) | (simp [SecFuses.grows, rowsGrow_refl]; try omega))))
    | with_reducible apply State.leaves_each
    | with_reducible apply State.leaves_foldl_fst
    | with_reducible apply State.leaves_foldl
    | with_reducible apply State.respondAbove_leaves
    | split
    | intro _

theorem State.alarm_leaves (s : State) (a : Fin 7) {u0 : State} (hr : u0.leaves s.kept) : u0.leaves (State.alarm s a).kept := by
  refine State.leaves_trans hr ?_
  clear hr
  unfold State.alarm
  repeat' first
    | with_reducible exact State.leaves_refl _
    | with_reducible assumption
    | simp only [↓State.kept_ite, State.kept_mk, State.kept_eta, ite_self, ↓State.kept_foldl, ↓State.each_kept, ↓State.bump_kept, ↓State.logP_kept, ↓State.quiet_kept, ↓State.setSec_kept, ↓State.drawn_kept]
    | dsimp only
    | (with_reducible apply State.leaves_fuses (h := (by first | exact SecFuses.grows_refl _ | (exact SecFuses.grows_erased _) | (simp [SecFuses.grows, rowsGrow_refl]; try omega))))
    | with_reducible apply State.leaves_each
    | with_reducible apply State.leaves_foldl_fst
    | with_reducible apply State.leaves_foldl
    | with_reducible apply State.respondOnce_leaves
    | split
    | intro _

theorem State.setBankCell_leaves (s : State) (b : Nat) (off : Nat) (c : Nat) {u0 : State} (hr : u0.leaves s.kept) : u0.leaves (s.setBankCell b off c).kept :=
  State.leaves_trans hr ⟨rfl, rfl, SecFuses.grows_refl _, Laws.set_wf _ _ _ _, id, id⟩

theorem State.setCellAt_leaves (s : State) (u : Unit') (addr : Nat) (c : Nat) {u0 : State} (hr : u0.leaves s.kept) : u0.leaves (State.setCellAt s u addr c).kept := by
  refine State.leaves_trans hr ?_
  clear hr
  unfold State.setCellAt
  repeat' first
    | with_reducible exact State.leaves_refl _
    | with_reducible assumption
    | simp only [↓State.kept_ite, State.kept_mk, State.kept_eta, ite_self, ↓State.kept_foldl, ↓State.each_kept, ↓State.setLine_kept, ↓State.quiet_kept, ↓State.setSec_kept, ↓State.drawn_kept]
    | dsimp only
    | (with_reducible apply State.leaves_fuses (h := (by first | exact SecFuses.grows_refl _ | (exact SecFuses.grows_erased _) | (simp [SecFuses.grows, rowsGrow_refl]; try omega))))
    | with_reducible apply State.leaves_each
    | with_reducible apply State.leaves_foldl_fst
    | with_reducible apply State.leaves_foldl
    | with_reducible apply State.setBankCell_leaves
    | split
    | intro _

theorem State.afterStore_leaves (s : State) (u : Unit') (low : Nat) {u0 : State} (hr : u0.leaves s.kept) : u0.leaves (State.afterStore s u low).kept := by
  refine State.leaves_trans hr ?_
  clear hr
  unfold State.afterStore
  repeat' first
    | with_reducible exact State.leaves_refl _
    | with_reducible assumption
    | simp only [↓State.kept_ite, State.kept_mk, State.kept_eta, ite_self, ↓State.kept_foldl, ↓State.each_kept, ↓State.clr_kept, ↓State.quiet_kept, ↓State.setSec_kept, ↓State.drawn_kept]
    | dsimp only
    | (with_reducible apply State.leaves_fuses (h := (by first | exact SecFuses.grows_refl _ | (exact SecFuses.grows_erased _) | (simp [SecFuses.grows, rowsGrow_refl]; try omega))))
    | with_reducible apply State.leaves_each
    | with_reducible apply State.leaves_foldl_fst
    | with_reducible apply State.leaves_foldl
    | with_reducible apply State.setCellAt_leaves
    | split
    | intro _

theorem State.markWord_leaves (s : State) (u : Unit') (addr : Nat) {u0 : State} (hr : u0.leaves s.kept) : u0.leaves (State.markWord s u addr).kept := by
  refine State.leaves_trans hr ?_
  clear hr
  unfold State.markWord
  repeat' first
    | with_reducible exact State.leaves_refl _
    | with_reducible assumption
    | simp only [↓State.kept_ite, State.kept_mk, State.kept_eta, ite_self, ↓State.kept_foldl, ↓State.each_kept, ↓State.quiet_kept, ↓State.setSec_kept, ↓State.drawn_kept]
    | dsimp only
    | (with_reducible apply State.leaves_fuses (h := (by first | exact SecFuses.grows_refl _ | (exact SecFuses.grows_erased _) | (simp [SecFuses.grows, rowsGrow_refl]; try omega))))
    | with_reducible apply State.leaves_each
    | with_reducible apply State.leaves_foldl_fst
    | with_reducible apply State.leaves_foldl
    | with_reducible apply State.setCellAt_leaves
    | split
    | intro _

theorem State.rewriteWord_leaves (s : State) (u : Unit') (addr : Nat) {u0 : State} (hr : u0.leaves s.kept) : u0.leaves (State.rewriteWord s u addr).kept := by
  refine State.leaves_trans hr ?_
  clear hr
  unfold State.rewriteWord
  repeat' first
    | with_reducible exact State.leaves_refl _
    | with_reducible assumption
    | simp only [↓State.kept_ite, State.kept_mk, State.kept_eta, ite_self, ↓State.kept_foldl, ↓State.each_kept, ↓State.quiet_kept, ↓State.setSec_kept, ↓State.drawn_kept]
    | dsimp only
    | (with_reducible apply State.leaves_fuses (h := (by first | exact SecFuses.grows_refl _ | (exact SecFuses.grows_erased _) | (simp [SecFuses.grows, rowsGrow_refl]; try omega))))
    | with_reducible apply State.leaves_each
    | with_reducible apply State.leaves_foldl_fst
    | with_reducible apply State.leaves_foldl
    | with_reducible apply State.setCellAt_leaves
    | split
    | intro _

theorem State.porterFix_leaves (s : State) (u : Unit') (wrote count : State → State) (addr : Nat) (hw : ∀ a : State, a.leaves (wrote a).kept)
    (hc : ∀ a : State, a.leaves (count a).kept) {u0 : State} (hr : u0.leaves s.kept) : u0.leaves (s.porterFix u wrote count addr).1.kept := by
  unfold State.porterFix
  dsimp only
  split
  · exact hr
  · exact hr
  · refine State.leaves_trans ?_ (hc _)
    simp only [↓State.bump_kept]
    exact State.leaves_trans (State.rewriteWord_leaves _ _ _ hr) (hw _)
  · split
    · simp only [↓State.bump_kept, ↓State.setLine_kept]; exact hr
    · simp only [↓State.logP_kept, ↓State.bump_kept]
      refine State.leaves_trans (State.markWord_leaves _ _ _ ?_) (hw _)
      simp only [↓State.recordLast_kept]; exact hr

theorem State.copyRow_leaves (s : State) (u : Unit') (row : Nat) {u0 : State} (hr : u0.leaves s.kept) : u0.leaves (s.copyRow u row).kept := by
  have e : ∀ ws : List Nat, u0.leaves (s.each ws fun s a => (s.porterFix u id (fun s => s.trackCopied u a) a).1).kept := fun ws =>
    State.leaves_each ws _ (fun a i => State.porterFix_leaves a u _ _ i (fun b => State.leaves_refl b)
      (fun b => State.leaves_of_kept (State.trackCopied_kept b u i)) (State.leaves_refl a)) hr
  unfold State.copyRow
  dsimp only
  split
  · exact e _
  · exact State.afterStore_leaves _ _ _ (e _)

theorem State.repairRow_leaves (s : State) (u : Unit') (addr : Nat) (row : Nat) (spare : Nat) {u0 : State} (hr : u0.leaves s.kept) : u0.leaves (State.repairRow s u addr row spare).kept := by
  refine State.leaves_trans hr ?_
  clear hr
  unfold State.repairRow
  repeat' first
    | with_reducible exact State.leaves_refl _
    | with_reducible assumption
    | simp only [↓State.kept_ite, State.kept_mk, State.kept_eta, ite_self, ↓State.kept_foldl, ↓State.each_kept, ↓State.bump_kept, ↓State.log_kept, ↓State.saveSoft_kept, ↓State.set1_kept, ↓State.setSpareSet_kept, ↓State.setTrack_kept, ↓State.quiet_kept, ↓State.setSec_kept, ↓State.drawn_kept]
    | dsimp only
    | (with_reducible apply State.leaves_fuses (h := (by first | exact SecFuses.grows_refl _ | (exact SecFuses.grows_erased _) | (simp [SecFuses.grows, rowsGrow_refl]; try omega))))
    | with_reducible apply State.leaves_each
    | with_reducible apply State.leaves_foldl_fst
    | with_reducible apply State.leaves_foldl
    | with_reducible apply State.copyRow_leaves
    | split
    | intro _

theorem State.hardFault_leaves (s : State) (u : Unit') (addr : Nat) (row : Nat) {u0 : State} (hr : u0.leaves s.kept) : u0.leaves (State.hardFault s u addr row).kept := by
  refine State.leaves_trans hr ?_
  clear hr
  unfold State.hardFault
  repeat' first
    | with_reducible exact State.leaves_refl _
    | with_reducible assumption
    | simp only [↓State.kept_ite, State.kept_mk, State.kept_eta, ite_self, ↓State.kept_foldl, ↓State.each_kept, ↓State.bump_kept, ↓State.log_kept, ↓State.setTrack_kept, ↓State.quiet_kept, ↓State.setSec_kept, ↓State.drawn_kept]
    | dsimp only
    | (with_reducible apply State.leaves_fuses (h := (by first | exact SecFuses.grows_refl _ | (exact SecFuses.grows_erased _) | (simp [SecFuses.grows, rowsGrow_refl]; try omega))))
    | with_reducible apply State.leaves_each
    | with_reducible apply State.leaves_foldl_fst
    | with_reducible apply State.leaves_foldl
    | with_reducible apply State.repairRow_leaves
    | split
    | intro _

theorem State.trackWord_leaves (s : State) (u : Unit') (addr : Nat) {u0 : State} (hr : u0.leaves s.kept) : u0.leaves (State.trackWord s u addr).kept := by
  refine State.leaves_trans hr ?_
  clear hr
  unfold State.trackWord
  repeat' first
    | with_reducible exact State.leaves_refl _
    | with_reducible assumption
    | simp only [↓State.kept_ite, State.kept_mk, State.kept_eta, ite_self, ↓State.kept_foldl, ↓State.each_kept, ↓State.trackCount_kept, ↓State.quiet_kept, ↓State.setSec_kept, ↓State.drawn_kept]
    | dsimp only
    | (with_reducible apply State.leaves_fuses (h := (by first | exact SecFuses.grows_refl _ | (exact SecFuses.grows_erased _) | (simp [SecFuses.grows, rowsGrow_refl]; try omega))))
    | with_reducible apply State.leaves_each
    | with_reducible apply State.leaves_foldl_fst
    | with_reducible apply State.leaves_foldl
    | with_reducible apply State.hardFault_leaves
    | split
    | intro _

theorem State.countWord_leaves (s : State) (u : Unit') (addr : Nat) (cells : List Nat) (by' : FoundBy) {u0 : State} (hr : u0.leaves s.kept) : u0.leaves (State.countWord s u addr cells by').kept := by
  refine State.leaves_trans hr ?_
  clear hr
  unfold State.countWord
  repeat' first
    | with_reducible exact State.leaves_refl _
    | with_reducible assumption
    | simp only [↓State.kept_ite, State.kept_mk, State.kept_eta, ite_self, ↓State.kept_foldl, ↓State.each_kept, ↓State.bump_kept, ↓State.log_kept, ↓State.recordLast_kept, ↓State.quiet_kept, ↓State.setSec_kept, ↓State.drawn_kept]
    | dsimp only
    | (with_reducible apply State.leaves_fuses (h := (by first | exact SecFuses.grows_refl _ | (exact SecFuses.grows_erased _) | (simp [SecFuses.grows, rowsGrow_refl]; try omega))))
    | with_reducible apply State.leaves_each
    | with_reducible apply State.leaves_foldl_fst
    | with_reducible apply State.leaves_foldl
    | with_reducible apply State.trackWord_leaves
    | split
    | intro _

theorem State.countRead_leaves (s : State) (u : Unit') (addrs : List Nat) (by' : FoundBy) {u0 : State} (hr : u0.leaves s.kept) : u0.leaves (State.countRead s u addrs by').kept := by
  refine State.leaves_trans hr ?_
  clear hr
  unfold State.countRead
  repeat' first
    | with_reducible exact State.leaves_refl _
    | with_reducible assumption
    | simp only [↓State.kept_ite, State.kept_mk, State.kept_eta, ite_self, ↓State.kept_foldl, ↓State.each_kept, ↓State.quiet_kept, ↓State.setSec_kept, ↓State.drawn_kept]
    | dsimp only
    | (with_reducible apply State.leaves_fuses (h := (by first | exact SecFuses.grows_refl _ | (exact SecFuses.grows_erased _) | (simp [SecFuses.grows, rowsGrow_refl]; try omega))))
    | with_reducible apply State.leaves_each
    | with_reducible apply State.leaves_foldl_fst
    | with_reducible apply State.leaves_foldl
    | with_reducible apply State.countWord_leaves
    | split
    | intro _

theorem State.serveBankRead_leaves (s : State) (x : BankAt) (m : BMode) (rq : Request) (clash : Nat) (later : Bool) {u0 : State} (hr : u0.leaves s.kept) : u0.leaves (State.serveBankRead s x m rq clash later).kept := by
  refine State.leaves_trans hr ?_
  clear hr
  unfold State.serveBankRead
  repeat' first
    | with_reducible exact State.leaves_refl _
    | with_reducible assumption
    | simp only [↓State.kept_ite, State.kept_mk, State.kept_eta, ite_self, ↓State.kept_foldl, ↓State.each_kept, ↓State.drawn_kept, ↓State.replyData_kept, ↓State.set1_kept, ↓State.quiet_kept, ↓State.setSec_kept]
    | dsimp only
    | (with_reducible apply State.leaves_fuses (h := (by first | exact SecFuses.grows_refl _ | (exact SecFuses.grows_erased _) | (simp [SecFuses.grows, rowsGrow_refl]; try omega))))
    | with_reducible apply State.leaves_each
    | with_reducible apply State.leaves_foldl_fst
    | with_reducible apply State.leaves_foldl
    | with_reducible apply State.countRead_leaves
    | split
    | intro _

theorem State.storeBytes_leaves (s : State) (u : Unit') (a : Access) (bs : List (Nat × Nat × Byte)) {u0 : State} (hr : u0.leaves s.kept) : u0.leaves (State.storeBytes s u a bs).kept := by
  refine State.leaves_trans hr ?_
  clear hr
  unfold State.storeBytes
  repeat' first
    | with_reducible exact State.leaves_refl _
    | with_reducible assumption
    | simp only [↓State.kept_ite, State.kept_mk, State.kept_eta, ite_self, ↓State.kept_foldl, ↓State.each_kept, ↓State.bumpN_kept, ↓State.quiet_kept, ↓State.setSec_kept, ↓State.drawn_kept]
    | dsimp only
    | (with_reducible apply State.leaves_fuses (h := (by first | exact SecFuses.grows_refl _ | (exact SecFuses.grows_erased _) | (simp [SecFuses.grows, rowsGrow_refl]; try omega))))
    | with_reducible apply State.leaves_each
    | with_reducible apply State.leaves_foldl_fst
    | with_reducible apply State.leaves_foldl
    | with_reducible apply State.afterStore_leaves
    | with_reducible apply State.setCellAt_leaves
    | split
    | intro _

theorem State.serveBankWrite_leaves (s : State) (x : BankAt) (m : BMode) (rq : Request) (stalls : Nat) {u0 : State} (hr : u0.leaves s.kept) : u0.leaves (State.serveBankWrite s x m rq stalls).kept := by
  refine State.leaves_trans hr ?_
  clear hr
  unfold State.serveBankWrite
  repeat' first
    | with_reducible exact State.leaves_refl _
    | with_reducible assumption
    | simp only [↓State.kept_ite, State.kept_mk, State.kept_eta, ite_self, ↓State.kept_foldl, ↓State.each_kept, ↓State.bumpN_kept, ↓State.reply_kept, ↓State.quiet_kept, ↓State.setSec_kept, ↓State.drawn_kept]
    | dsimp only
    | (with_reducible apply State.leaves_fuses (h := (by first | exact SecFuses.grows_refl _ | (exact SecFuses.grows_erased _) | (simp [SecFuses.grows, rowsGrow_refl]; try omega))))
    | with_reducible apply State.leaves_each
    | with_reducible apply State.leaves_foldl_fst
    | with_reducible apply State.leaves_foldl
    | with_reducible apply State.storeBytes_leaves
    | split
    | intro _

theorem State.bankRequest_leaves (s : State) (rq : Request) (acc : Bool) (clash : Nat) (later : Bool) (stalls : Nat) {u0 : State} (hr : u0.leaves s.kept) : u0.leaves (State.bankRequest s rq acc clash later stalls).kept := by
  refine State.leaves_trans hr ?_
  clear hr
  unfold State.bankRequest
  repeat' first
    | with_reducible exact State.leaves_refl _
    | with_reducible assumption
    | simp only [↓State.kept_ite, State.kept_mk, State.kept_eta, ite_self, ↓State.kept_foldl, ↓State.each_kept, ↓State.bankDeny_kept, ↓State.bankHold_kept, ↓State.bankToward_kept, ↓State.clr_kept, ↓State.reply_kept, ↓State.quiet_kept, ↓State.setSec_kept, ↓State.drawn_kept]
    | dsimp only
    | (with_reducible apply State.leaves_fuses (h := (by first | exact SecFuses.grows_refl _ | (exact SecFuses.grows_erased _) | (simp [SecFuses.grows, rowsGrow_refl]; try omega))))
    | with_reducible apply State.leaves_each
    | with_reducible apply State.leaves_foldl_fst
    | with_reducible apply State.leaves_foldl
    | with_reducible apply State.serveBankRead_leaves
    | with_reducible apply State.serveBankWrite_leaves
    | split
    | intro _

theorem State.bankRecheck_leaves (s : State) (b : Nat) {u0 : State} (hr : u0.leaves s.kept) : u0.leaves (State.bankRecheck s b).kept := by
  refine State.leaves_trans hr ?_
  clear hr
  unfold State.bankRecheck
  repeat' first
    | with_reducible exact State.leaves_refl _
    | with_reducible assumption
    | simp only [↓State.kept_ite, State.kept_mk, State.kept_eta, ite_self, ↓State.kept_foldl, ↓State.each_kept, ↓State.setBank_kept, ↓State.quiet_kept, ↓State.setSec_kept, ↓State.drawn_kept]
    | dsimp only
    | (with_reducible apply State.leaves_fuses (h := (by first | exact SecFuses.grows_refl _ | (exact SecFuses.grows_erased _) | (simp [SecFuses.grows, rowsGrow_refl]; try omega))))
    | with_reducible apply State.leaves_each
    | with_reducible apply State.leaves_foldl_fst
    | with_reducible apply State.leaves_foldl
    | with_reducible apply State.bankRequest_leaves
    | split
    | intro _

theorem execBankRead_leaves (rq : Request) (clash : BitVec 17) (later : Bool) (s : State) (out : State) (h : execBankRead rq clash later s = .next out) : s.leaves out.kept := by
  unfold execBankRead at h
  (repeat' first | split at h | dsimp only at h) <;> first
  | (cases h; done)
  | (injection h with h; subst h
     repeat' first
       | with_reducible exact State.leaves_refl _
       | with_reducible assumption
       | simp only [↓State.kept_ite, State.kept_mk, State.kept_eta, ite_self, ↓State.kept_foldl, ↓State.each_kept, ↓State.quiet_kept, ↓State.setSec_kept, ↓State.drawn_kept]
       | dsimp only
       | (with_reducible apply State.leaves_fuses (h := (by first | exact SecFuses.grows_refl _ | (exact SecFuses.grows_erased _) | (simp [SecFuses.grows, rowsGrow_refl]; try omega))))
       | with_reducible apply State.leaves_each
       | with_reducible apply State.leaves_foldl_fst
       | with_reducible apply State.leaves_foldl
       | with_reducible apply State.bankRequest_leaves
       | split
       | intro _)

theorem execBankWrite_leaves (rq : Request) (stalls : BitVec 8) (s : State) (out : State) (h : execBankWrite rq stalls s = .next out) : s.leaves out.kept := by
  unfold execBankWrite at h
  (repeat' first | split at h | dsimp only at h) <;> first
  | (cases h; done)
  | (injection h with h; subst h
     repeat' first
       | with_reducible exact State.leaves_refl _
       | with_reducible assumption
       | simp only [↓State.kept_ite, State.kept_mk, State.kept_eta, ite_self, ↓State.kept_foldl, ↓State.each_kept, ↓State.quiet_kept, ↓State.setSec_kept, ↓State.drawn_kept]
       | dsimp only
       | (with_reducible apply State.leaves_fuses (h := (by first | exact SecFuses.grows_refl _ | (exact SecFuses.grows_erased _) | (simp [SecFuses.grows, rowsGrow_refl]; try omega))))
       | with_reducible apply State.leaves_each
       | with_reducible apply State.leaves_foldl_fst
       | with_reducible apply State.leaves_foldl
       | with_reducible apply State.bankRequest_leaves
       | split
       | intro _)

theorem State.loseBank_leaves (s : State) (b : Nat) {u0 : State} (hr : u0.leaves s.kept) : u0.leaves (s.loseBank b).kept :=
  State.leaves_trans hr ⟨rfl, rfl, SecFuses.grows_refl _, Laws.clear_wf _ _ _ _, id, id⟩

theorem State.loseBram_leaves (s : State) (n : Nat) {u0 : State} (hr : u0.leaves s.kept) : u0.leaves (s.loseBram n).kept :=
  State.leaves_trans hr ⟨rfl, rfl, SecFuses.grows_refl _, id, Laws.clear_wf _ _ _ _, id⟩

theorem State.testLeaves_leaves (s : State) (u : TestUnit) {u0 : State} (hr : u0.leaves s.kept) : u0.leaves (State.testLeaves s u).kept := by
  refine State.leaves_trans hr ?_
  clear hr
  unfold State.testLeaves
  repeat' first
    | with_reducible exact State.leaves_refl _
    | with_reducible assumption
    | simp only [↓State.kept_ite, State.kept_mk, State.kept_eta, ite_self, ↓State.kept_foldl, ↓State.each_kept, ↓State.drawn_kept, ↓State.setLine_kept, ↓State.setPlState_kept, ↓State.setPlTorn_kept, ↓State.setRegion_kept, ↓State.quiet_kept, ↓State.setSec_kept]
    | dsimp only
    | (with_reducible apply State.leaves_fuses (h := (by first | exact SecFuses.grows_refl _ | (exact SecFuses.grows_erased _) | (simp [SecFuses.grows, rowsGrow_refl]; try omega))))
    | with_reducible apply State.leaves_each
    | with_reducible apply State.leaves_foldl_fst
    | with_reducible apply State.leaves_foldl
    | with_reducible apply State.erasePlane_leaves
    | with_reducible apply State.loseBank_leaves
    | with_reducible apply State.loseBram_leaves
    | split
    | intro _

theorem State.abortTest_leaves (s : State) (e : Nat) {u0 : State} (hr : u0.leaves s.kept) : u0.leaves (State.abortTest s e).kept := by
  refine State.leaves_trans hr ?_
  clear hr
  unfold State.abortTest
  repeat' first
    | with_reducible exact State.leaves_refl _
    | with_reducible assumption
    | simp only [↓State.kept_ite, State.kept_mk, State.kept_eta, ite_self, ↓State.kept_foldl, ↓State.each_kept, ↓State.clr_kept, ↓State.itin_kept, ↓State.set1_kept, ↓State.setEngine_kept, ↓State.testUnitEnds_kept, ↓State.wr_kept, ↓State.quiet_kept, ↓State.setSec_kept, ↓State.drawn_kept]
    | dsimp only
    | (with_reducible apply State.leaves_fuses (h := (by first | exact SecFuses.grows_refl _ | (exact SecFuses.grows_erased _) | (simp [SecFuses.grows, rowsGrow_refl]; try omega))))
    | with_reducible apply State.leaves_each
    | with_reducible apply State.leaves_foldl_fst
    | with_reducible apply State.leaves_foldl
    | with_reducible apply State.testLeaves_leaves
    | split
    | intro _

theorem State.abortTestOf_leaves (s : State) (u : TestUnit) {u0 : State} (hr : u0.leaves s.kept) : u0.leaves (State.abortTestOf s u).kept := by
  refine State.leaves_trans hr ?_
  clear hr
  unfold State.abortTestOf
  repeat' first
    | with_reducible exact State.leaves_refl _
    | with_reducible assumption
    | simp only [↓State.kept_ite, State.kept_mk, State.kept_eta, ite_self, ↓State.kept_foldl, ↓State.each_kept, ↓State.quiet_kept, ↓State.setSec_kept, ↓State.drawn_kept]
    | dsimp only
    | (with_reducible apply State.leaves_fuses (h := (by first | exact SecFuses.grows_refl _ | (exact SecFuses.grows_erased _) | (simp [SecFuses.grows, rowsGrow_refl]; try omega))))
    | with_reducible apply State.leaves_each
    | with_reducible apply State.leaves_foldl_fst
    | with_reducible apply State.leaves_foldl
    | with_reducible apply State.abortTest_leaves
    | split
    | intro _

theorem wrBankOwner_leaves (s : State) (b : Nat) (v : BitVec 32) {u0 : State} (hr : u0.leaves s.kept) : u0.leaves (wrBankOwner s b v).kept := by
  refine State.leaves_trans hr ?_
  clear hr
  unfold wrBankOwner
  repeat' first
    | with_reducible exact State.leaves_refl _
    | with_reducible assumption
    | simp only [↓State.kept_ite, State.kept_mk, State.kept_eta, ite_self, ↓State.kept_foldl, ↓State.each_kept, ↓State.heldPower_kept, ↓State.set1_kept, ↓State.setBank_kept, ↓State.w1cOnly_kept, ↓State.quiet_kept, ↓State.setSec_kept, ↓State.drawn_kept]
    | dsimp only
    | (with_reducible apply State.leaves_fuses (h := (by first | exact SecFuses.grows_refl _ | (exact SecFuses.grows_erased _) | (simp [SecFuses.grows, rowsGrow_refl]; try omega))))
    | with_reducible apply State.leaves_each
    | with_reducible apply State.leaves_foldl_fst
    | with_reducible apply State.leaves_foldl
    | with_reducible apply State.abortTestOf_leaves
    | split
    | intro _

theorem execBankOwnerWrite_leaves (ini : Ini) (b : Fin 2048) (value : BitVec 32) (s : State) (out : State) (h : execBankOwnerWrite ini b value s = .next out) : s.leaves out.kept := by
  unfold execBankOwnerWrite at h
  (repeat' first | split at h | dsimp only at h) <;> first
  | (cases h; done)
  | (injection h with h; subst h
     repeat' first
       | with_reducible exact State.leaves_refl _
       | with_reducible assumption
       | simp only [↓State.kept_ite, State.kept_mk, State.kept_eta, ite_self, ↓State.kept_foldl, ↓State.each_kept, ↓State.quiet_kept, ↓State.setSec_kept, ↓State.drawn_kept]
       | dsimp only
       | (with_reducible apply State.leaves_fuses (h := (by first | exact SecFuses.grows_refl _ | (exact SecFuses.grows_erased _) | (simp [SecFuses.grows, rowsGrow_refl]; try omega))))
       | with_reducible apply State.leaves_each
       | with_reducible apply State.leaves_foldl_fst
       | with_reducible apply State.leaves_foldl
       | with_reducible apply State.written_leaves
       | with_reducible apply wrBankOwner_leaves
       | split
       | intro _)

theorem State.handover_leaves (s : State) (b : Nat) {u0 : State} (hr : u0.leaves s.kept) : u0.leaves (State.handover s b).kept := by
  refine State.leaves_trans hr ?_
  clear hr
  unfold State.handover
  repeat' first
    | with_reducible exact State.leaves_refl _
    | with_reducible assumption
    | simp only [↓State.kept_ite, State.kept_mk, State.kept_eta, ite_self, ↓State.kept_foldl, ↓State.each_kept, ↓State.clr_kept, ↓State.setBank_kept, ↓State.wr_kept, ↓State.quiet_kept, ↓State.setSec_kept, ↓State.drawn_kept]
    | dsimp only
    | (with_reducible apply State.leaves_fuses (h := (by first | exact SecFuses.grows_refl _ | (exact SecFuses.grows_erased _) | (simp [SecFuses.grows, rowsGrow_refl]; try omega))))
    | with_reducible apply State.leaves_each
    | with_reducible apply State.leaves_foldl_fst
    | with_reducible apply State.leaves_foldl
    | with_reducible apply State.bankRecheck_leaves
    | split
    | intro _

theorem execHandoverComplete_leaves (b : Fin 2048) (s : State) (out : State) (h : execHandoverComplete b s = .next out) : s.leaves out.kept := by
  unfold execHandoverComplete at h
  (repeat' first | split at h | dsimp only at h) <;> first
  | (cases h; done)
  | (injection h with h; subst h
     repeat' first
       | with_reducible exact State.leaves_refl _
       | with_reducible assumption
       | simp only [↓State.kept_ite, State.kept_mk, State.kept_eta, ite_self, ↓State.kept_foldl, ↓State.each_kept, ↓State.quiet_kept, ↓State.setSec_kept, ↓State.drawn_kept]
       | dsimp only
       | (with_reducible apply State.leaves_fuses (h := (by first | exact SecFuses.grows_refl _ | (exact SecFuses.grows_erased _) | (simp [SecFuses.grows, rowsGrow_refl]; try omega))))
       | with_reducible apply State.leaves_each
       | with_reducible apply State.leaves_foldl_fst
       | with_reducible apply State.leaves_foldl
       | with_reducible apply State.handover_leaves
       | split
       | intro _)

theorem execBankPowerChangeDone_leaves (b : Fin 2048) (s : State) (out : State) (h : execBankPowerChangeDone b s = .next out) : s.leaves out.kept := by
  unfold execBankPowerChangeDone at h
  (repeat' first | split at h | dsimp only at h) <;> first
  | (cases h; done)
  | (injection h with h; subst h
     repeat' first
       | with_reducible exact State.leaves_refl _
       | with_reducible assumption
       | simp only [↓State.kept_ite, State.kept_mk, State.kept_eta, ite_self, ↓State.kept_foldl, ↓State.each_kept, ↓State.bankToward_kept, ↓State.quiet_kept, ↓State.setBank_kept, ↓State.wr_kept, ↓State.setSec_kept, ↓State.drawn_kept]
       | dsimp only
       | (with_reducible apply State.leaves_fuses (h := (by first | exact SecFuses.grows_refl _ | (exact SecFuses.grows_erased _) | (simp [SecFuses.grows, rowsGrow_refl]; try omega))))
       | with_reducible apply State.leaves_each
       | with_reducible apply State.leaves_foldl_fst
       | with_reducible apply State.leaves_foldl
       | with_reducible apply State.bankRecheck_leaves
       | with_reducible apply State.loseBank_leaves
       | split
       | intro _)

theorem State.countBankRow_leaves (s : State) (node : Nat) (b : Nat) (r : Nat) {u0 : State} (hr : u0.leaves s.kept) : u0.leaves (State.countBankRow s node b r).kept := by
  refine State.leaves_trans hr ?_
  clear hr
  unfold State.countBankRow
  repeat' first
    | with_reducible exact State.leaves_refl _
    | with_reducible assumption
    | simp only [↓State.kept_ite, State.kept_mk, State.kept_eta, ite_self, ↓State.kept_foldl, ↓State.each_kept, ↓State.quiet_kept, ↓State.setSec_kept, ↓State.drawn_kept]
    | dsimp only
    | (with_reducible apply State.leaves_fuses (h := (by first | exact SecFuses.grows_refl _ | (exact SecFuses.grows_erased _) | (simp [SecFuses.grows, rowsGrow_refl]; try omega))))
    | with_reducible apply State.leaves_each
    | with_reducible apply State.leaves_foldl_fst
    | with_reducible apply State.leaves_foldl
    | with_reducible apply State.countRead_leaves
    | split
    | intro _

theorem State.copyBank_leaves (s : State) (src : Nat) (dst : Nat) {u0 : State} (hr : u0.leaves s.kept) : u0.leaves (State.copyBank s src dst).kept := by
  refine State.leaves_trans hr ?_
  clear hr
  unfold State.copyBank
  repeat' first
    | with_reducible exact State.leaves_refl _
    | with_reducible assumption
    | simp only [↓State.kept_ite, State.kept_mk, State.kept_eta, ite_self, ↓State.kept_foldl, ↓State.each_kept, ↓State.quiet_kept, ↓State.setSec_kept, ↓State.drawn_kept]
    | dsimp only
    | (with_reducible apply State.leaves_fuses (h := (by first | exact SecFuses.grows_refl _ | (exact SecFuses.grows_erased _) | (simp [SecFuses.grows, rowsGrow_refl]; try omega))))
    | with_reducible apply State.leaves_each
    | with_reducible apply State.leaves_foldl_fst
    | with_reducible apply State.leaves_foldl
    | with_reducible apply State.afterStore_leaves
    | with_reducible apply State.countBankRow_leaves
    | with_reducible apply State.setBankCell_leaves
    | split
    | intro _

theorem State.giveBank_leaves (s : State) (b : Nat) (kind : Nat) (id : Nat) {u0 : State} (hr : u0.leaves s.kept) : u0.leaves (State.giveBank s b kind id).kept := by
  refine State.leaves_trans hr ?_
  clear hr
  unfold State.giveBank
  repeat' first
    | with_reducible exact State.leaves_refl _
    | with_reducible assumption
    | simp only [↓State.kept_ite, State.kept_mk, State.kept_eta, ite_self, ↓State.kept_foldl, ↓State.each_kept, ↓State.setBank_kept, ↓State.quiet_kept, ↓State.setSec_kept, ↓State.drawn_kept]
    | dsimp only
    | (with_reducible apply State.leaves_fuses (h := (by first | exact SecFuses.grows_refl _ | (exact SecFuses.grows_erased _) | (simp [SecFuses.grows, rowsGrow_refl]; try omega))))
    | with_reducible apply State.leaves_each
    | with_reducible apply State.leaves_foldl_fst
    | with_reducible apply State.leaves_foldl
    | with_reducible apply State.handover_leaves
    | split
    | intro _

theorem State.restoreBank_leaves (s : State) (i : Nat) {u0 : State} (hr : u0.leaves s.kept) : u0.leaves (State.restoreBank s i).1.kept := by
  refine State.leaves_trans hr ?_
  clear hr
  unfold State.restoreBank
  repeat' first
    | with_reducible exact State.leaves_refl _
    | with_reducible assumption
    | simp only [↓State.kept_ite, State.kept_mk, State.kept_eta, ite_self, ↓State.kept_foldl, ↓State.each_kept, ↓State.quiet_kept, ↓State.setSec_kept, ↓State.drawn_kept]
    | dsimp only
    | (with_reducible apply State.leaves_fuses (h := (by first | exact SecFuses.grows_refl _ | (exact SecFuses.grows_erased _) | (simp [SecFuses.grows, rowsGrow_refl]; try omega))))
    | with_reducible apply State.leaves_each
    | with_reducible apply State.leaves_foldl_fst
    | with_reducible apply State.leaves_foldl
    | with_reducible apply State.copyBank_leaves
    | with_reducible apply State.giveBank_leaves
    | split
    | intro _

theorem State.beginTake_leaves (s : State) (tick : Nat) (after : Nat) (restore : Bool) (diverge : Bool) {u0 : State} (hr : u0.leaves s.kept) : u0.leaves (State.beginTake s tick after restore diverge).kept := by
  refine State.leaves_trans hr ?_
  clear hr
  unfold State.beginTake
  repeat' first
    | with_reducible exact State.leaves_refl _
    | with_reducible assumption
    | simp only [↓State.kept_ite, State.kept_mk, State.kept_eta, ite_self, ↓State.kept_foldl, ↓State.each_kept, ↓State.request136_kept, ↓State.restoreRegion_kept, ↓State.setPstate_kept, ↓State.setTwin_kept, ↓State.quiet_kept, ↓State.setSec_kept, ↓State.drawn_kept]
    | dsimp only
    | (with_reducible apply State.leaves_fuses (h := (by first | exact SecFuses.grows_refl _ | (exact SecFuses.grows_erased _) | (simp [SecFuses.grows, rowsGrow_refl]; try omega))))
    | with_reducible apply State.leaves_each
    | with_reducible apply State.leaves_foldl_fst
    | with_reducible apply State.leaves_foldl
    | with_reducible apply State.restoreBank_leaves
    | split
    | intro _

theorem State.compareCheck_leaves (s : State) (tick : Nat) {u0 : State} (hr : u0.leaves s.kept) : u0.leaves (State.compareCheck s tick).kept := by
  refine State.leaves_trans hr ?_
  clear hr
  unfold State.compareCheck
  repeat' first
    | with_reducible exact State.leaves_refl _
    | with_reducible assumption
    | simp only [↓State.kept_ite, State.kept_mk, State.kept_eta, ite_self, ↓State.kept_foldl, ↓State.each_kept, ↓State.bump_kept, ↓State.log_kept, ↓State.set1_kept, ↓State.quiet_kept, ↓State.setSec_kept, ↓State.drawn_kept]
    | dsimp only
    | (with_reducible apply State.leaves_fuses (h := (by first | exact SecFuses.grows_refl _ | (exact SecFuses.grows_erased _) | (simp [SecFuses.grows, rowsGrow_refl]; try omega))))
    | with_reducible apply State.leaves_each
    | with_reducible apply State.leaves_foldl_fst
    | with_reducible apply State.leaves_foldl
    | with_reducible apply State.beginTake_leaves
    | split
    | intro _

theorem State.endCheck_leaves (s : State) (k : Nat) {u0 : State} (hr : u0.leaves s.kept) : u0.leaves (State.endCheck s k).kept := by
  refine State.leaves_trans hr ?_
  clear hr
  unfold State.endCheck
  repeat' first
    | with_reducible exact State.leaves_refl _
    | with_reducible assumption
    | simp only [↓State.kept_ite, State.kept_mk, State.kept_eta, ite_self, ↓State.kept_foldl, ↓State.each_kept, ↓State.sendTwin_kept, ↓State.setTwin_kept, ↓State.snoopFeed_kept, ↓State.wr_kept, ↓State.quiet_kept, ↓State.setSec_kept, ↓State.drawn_kept]
    | dsimp only
    | (with_reducible apply State.leaves_fuses (h := (by first | exact SecFuses.grows_refl _ | (exact SecFuses.grows_erased _) | (simp [SecFuses.grows, rowsGrow_refl]; try omega))))
    | with_reducible apply State.leaves_each
    | with_reducible apply State.leaves_foldl_fst
    | with_reducible apply State.leaves_foldl
    | with_reducible apply State.compareCheck_leaves
    | split
    | intro _

theorem State.retake_leaves (s : State) (old : Takeover) (tick : Nat) (after : Nat) {u0 : State} (hr : u0.leaves s.kept) : u0.leaves (State.retake s old tick after).kept := by
  refine State.leaves_trans hr ?_
  clear hr
  unfold State.retake
  repeat' first
    | with_reducible exact State.leaves_refl _
    | with_reducible assumption
    | simp only [↓State.kept_ite, State.kept_mk, State.kept_eta, ite_self, ↓State.kept_foldl, ↓State.each_kept, ↓State.setRegion_kept, ↓State.setTwin_kept, ↓State.quiet_kept, ↓State.setSec_kept, ↓State.drawn_kept]
    | dsimp only
    | (with_reducible apply State.leaves_fuses (h := (by first | exact SecFuses.grows_refl _ | (exact SecFuses.grows_erased _) | (simp [SecFuses.grows, rowsGrow_refl]; try omega))))
    | with_reducible apply State.leaves_each
    | with_reducible apply State.leaves_foldl_fst
    | with_reducible apply State.leaves_foldl
    | with_reducible apply State.beginTake_leaves
    | split
    | intro _

theorem State.takeOver_leaves (s : State) (tick : Nat) (after : Nat) {u0 : State} (hr : u0.leaves s.kept) : u0.leaves (State.takeOver s tick after).kept := by
  refine State.leaves_trans hr ?_
  clear hr
  unfold State.takeOver
  repeat' first
    | with_reducible exact State.leaves_refl _
    | with_reducible assumption
    | simp only [↓State.kept_ite, State.kept_mk, State.kept_eta, ite_self, ↓State.kept_foldl, ↓State.each_kept, ↓State.setPstate_kept, ↓State.quiet_kept, ↓State.setSec_kept, ↓State.drawn_kept]
    | dsimp only
    | (with_reducible apply State.leaves_fuses (h := (by first | exact SecFuses.grows_refl _ | (exact SecFuses.grows_erased _) | (simp [SecFuses.grows, rowsGrow_refl]; try omega))))
    | with_reducible apply State.leaves_each
    | with_reducible apply State.leaves_foldl_fst
    | with_reducible apply State.leaves_foldl
    | with_reducible apply State.beginTake_leaves
    | with_reducible apply State.retake_leaves
    | split
    | intro _

theorem State.primaryLost_leaves (s : State) (c : Loss) {u0 : State} (hr : u0.leaves s.kept) : u0.leaves (State.primaryLost s c).kept := by
  refine State.leaves_trans hr ?_
  clear hr
  unfold State.primaryLost
  repeat' first
    | with_reducible exact State.leaves_refl _
    | with_reducible assumption
    | simp only [↓State.kept_ite, State.kept_mk, State.kept_eta, ite_self, ↓State.kept_foldl, ↓State.each_kept, ↓State.log_kept, ↓State.setTwin_kept, ↓State.quiet_kept, ↓State.setSec_kept, ↓State.drawn_kept]
    | dsimp only
    | (with_reducible apply State.leaves_fuses (h := (by first | exact SecFuses.grows_refl _ | (exact SecFuses.grows_erased _) | (simp [SecFuses.grows, rowsGrow_refl]; try omega))))
    | with_reducible apply State.leaves_each
    | with_reducible apply State.leaves_foldl_fst
    | with_reducible apply State.leaves_foldl
    | with_reducible apply State.takeOver_leaves
    | split
    | intro _

theorem State.partnerLost_leaves (s : State) (c : Loss) {u0 : State} (hr : u0.leaves s.kept) : u0.leaves (State.partnerLost s c).kept := by
  refine State.leaves_trans hr ?_
  clear hr
  unfold State.partnerLost
  repeat' first
    | with_reducible exact State.leaves_refl _
    | with_reducible assumption
    | simp only [↓State.kept_ite, State.kept_mk, State.kept_eta, ite_self, ↓State.kept_foldl, ↓State.each_kept, ↓State.part_kept, ↓State.standbyLost_kept, ↓State.quiet_kept, ↓State.setSec_kept, ↓State.drawn_kept]
    | dsimp only
    | (with_reducible apply State.leaves_fuses (h := (by first | exact SecFuses.grows_refl _ | (exact SecFuses.grows_erased _) | (simp [SecFuses.grows, rowsGrow_refl]; try omega))))
    | with_reducible apply State.leaves_each
    | with_reducible apply State.leaves_foldl_fst
    | with_reducible apply State.leaves_foldl
    | with_reducible apply State.primaryLost_leaves
    | split
    | intro _

theorem State.endMissed_leaves (s : State) (k : Nat) {u0 : State} (hr : u0.leaves s.kept) : u0.leaves (State.endMissed s k).kept := by
  refine State.leaves_trans hr ?_
  clear hr
  unfold State.endMissed
  repeat' first
    | with_reducible exact State.leaves_refl _
    | with_reducible assumption
    | simp only [↓State.kept_ite, State.kept_mk, State.kept_eta, ite_self, ↓State.kept_foldl, ↓State.each_kept, ↓State.bump_kept, ↓State.setTwin_kept, ↓State.quiet_kept, ↓State.setSec_kept, ↓State.drawn_kept]
    | dsimp only
    | (with_reducible apply State.leaves_fuses (h := (by first | exact SecFuses.grows_refl _ | (exact SecFuses.grows_erased _) | (simp [SecFuses.grows, rowsGrow_refl]; try omega))))
    | with_reducible apply State.leaves_each
    | with_reducible apply State.leaves_foldl_fst
    | with_reducible apply State.leaves_foldl
    | with_reducible apply State.partnerLost_leaves
    | split
    | intro _

theorem State.countCapture_leaves (s : State) (node : Nat) (banks : List Nat) {u0 : State} (hr : u0.leaves s.kept) : u0.leaves (State.countCapture s node banks).kept := by
  refine State.leaves_trans hr ?_
  clear hr
  unfold State.countCapture
  repeat' first
    | with_reducible exact State.leaves_refl _
    | with_reducible assumption
    | simp only [↓State.kept_ite, State.kept_mk, State.kept_eta, ite_self, ↓State.kept_foldl, ↓State.each_kept, ↓State.quiet_kept, ↓State.setSec_kept, ↓State.drawn_kept]
    | dsimp only
    | (with_reducible apply State.leaves_fuses (h := (by first | exact SecFuses.grows_refl _ | (exact SecFuses.grows_erased _) | (simp [SecFuses.grows, rowsGrow_refl]; try omega))))
    | with_reducible apply State.leaves_each
    | with_reducible apply State.leaves_foldl_fst
    | with_reducible apply State.leaves_foldl
    | with_reducible apply State.countBankRow_leaves
    | split
    | intro _

theorem State.endMirror_leaves (s : State) (k : Nat) {u0 : State} (hr : u0.leaves s.kept) : u0.leaves (State.endMirror s k).kept := by
  refine State.leaves_trans hr ?_
  clear hr
  unfold State.endMirror
  repeat' first
    | with_reducible exact State.leaves_refl _
    | with_reducible assumption
    | simp only [↓State.kept_ite, State.kept_mk, State.kept_eta, ite_self, ↓State.kept_foldl, ↓State.each_kept, ↓State.bump_kept, ↓State.mirrorIssue_kept, ↓State.mirrorSkip_kept, ↓State.setTwin_kept, ↓State.quiet_kept, ↓State.setSec_kept, ↓State.drawn_kept]
    | dsimp only
    | (with_reducible apply State.leaves_fuses (h := (by first | exact SecFuses.grows_refl _ | (exact SecFuses.grows_erased _) | (simp [SecFuses.grows, rowsGrow_refl]; try omega))))
    | with_reducible apply State.leaves_each
    | with_reducible apply State.leaves_foldl_fst
    | with_reducible apply State.leaves_foldl
    | with_reducible apply State.countCapture_leaves
    | split
    | intro _

theorem State.endSnapshot_leaves (s : State) (k : Nat) {u0 : State} (hr : u0.leaves s.kept) : u0.leaves (State.endSnapshot s k).kept := by
  refine State.leaves_trans hr ?_
  clear hr
  unfold State.endSnapshot
  repeat' first
    | with_reducible exact State.leaves_refl _
    | with_reducible assumption
    | simp only [↓State.kept_ite, State.kept_mk, State.kept_eta, ite_self, ↓State.kept_foldl, ↓State.each_kept, ↓State.setTwin_kept, ↓State.snapIssue_kept, ↓State.quiet_kept, ↓State.setSec_kept, ↓State.drawn_kept]
    | dsimp only
    | (with_reducible apply State.leaves_fuses (h := (by first | exact SecFuses.grows_refl _ | (exact SecFuses.grows_erased _) | (simp [SecFuses.grows, rowsGrow_refl]; try omega))))
    | with_reducible apply State.leaves_each
    | with_reducible apply State.leaves_foldl_fst
    | with_reducible apply State.leaves_foldl
    | with_reducible apply State.countCapture_leaves
    | split
    | intro _

theorem State.endTick_leaves (s : State) (k : Nat) {u0 : State} (hr : u0.leaves s.kept) : u0.leaves (State.endTick s k).kept := by
  refine State.leaves_trans hr ?_
  clear hr
  unfold State.endTick
  repeat' first
    | with_reducible exact State.leaves_refl _
    | with_reducible assumption
    | simp only [↓State.kept_ite, State.kept_mk, State.kept_eta, ite_self, ↓State.kept_foldl, ↓State.each_kept, ↓State.snoopFeed_kept, ↓State.quiet_kept, ↓State.setSec_kept, ↓State.drawn_kept]
    | dsimp only
    | (with_reducible apply State.leaves_fuses (h := (by first | exact SecFuses.grows_refl _ | (exact SecFuses.grows_erased _) | (simp [SecFuses.grows, rowsGrow_refl]; try omega))))
    | with_reducible apply State.leaves_each
    | with_reducible apply State.leaves_foldl_fst
    | with_reducible apply State.leaves_foldl
    | with_reducible apply State.endCheck_leaves
    | with_reducible apply State.endMirror_leaves
    | with_reducible apply State.endMissed_leaves
    | split
    | intro _

theorem State.wholeTick_leaves (s : State) {u0 : State} (hr : u0.leaves s.kept) : u0.leaves (State.wholeTick s).kept := by
  refine State.leaves_trans hr ?_
  clear hr
  unfold State.wholeTick
  repeat' first
    | with_reducible exact State.leaves_refl _
    | with_reducible assumption
    | simp only [↓State.kept_ite, State.kept_mk, State.kept_eta, ite_self, ↓State.kept_foldl, ↓State.each_kept, ↓State.cutPins_kept, ↓State.endRoles_kept, ↓State.markerBoundary_kept, ↓State.sendMarkers_kept, ↓State.snoopBoundary_kept, ↓State.tickBoundary_kept, ↓State.quiet_kept, ↓State.setSec_kept, ↓State.drawn_kept]
    | dsimp only
    | (with_reducible apply State.leaves_fuses (h := (by first | exact SecFuses.grows_refl _ | (exact SecFuses.grows_erased _) | (simp [SecFuses.grows, rowsGrow_refl]; try omega))))
    | with_reducible apply State.leaves_each
    | with_reducible apply State.leaves_foldl_fst
    | with_reducible apply State.leaves_foldl
    | with_reducible apply State.endSnapshot_leaves
    | with_reducible apply State.endTick_leaves
    | split
    | intro _

theorem execTickBoundary_leaves (s : State) (out : State) (h : execTickBoundary s = .next out) : s.leaves out.kept := by
  unfold execTickBoundary at h
  (repeat' first | split at h | dsimp only at h) <;> first
  | (cases h; done)
  | (injection h with h; subst h
     repeat' first
       | with_reducible exact State.leaves_refl _
       | with_reducible assumption
       | simp only [↓State.kept_ite, State.kept_mk, State.kept_eta, ite_self, ↓State.kept_foldl, ↓State.each_kept, ↓State.quiet_kept, ↓State.setSec_kept, ↓State.drawn_kept]
       | dsimp only
       | (with_reducible apply State.leaves_fuses (h := (by first | exact SecFuses.grows_refl _ | (exact SecFuses.grows_erased _) | (simp [SecFuses.grows, rowsGrow_refl]; try omega))))
       | with_reducible apply State.leaves_each
       | with_reducible apply State.leaves_foldl_fst
       | with_reducible apply State.leaves_foldl
       | with_reducible apply State.wholeTick_leaves
       | split
       | intro _)

theorem State.loadBegins_leaves (s : State) (n : Nat) (p : Nat) {u0 : State} (hr : u0.leaves s.kept) : u0.leaves (State.loadBegins s n p).kept := by
  refine State.leaves_trans hr ?_
  clear hr
  unfold State.loadBegins
  repeat' first
    | with_reducible exact State.leaves_refl _
    | with_reducible assumption
    | simp only [↓State.kept_ite, State.kept_mk, State.kept_eta, ite_self, ↓State.kept_foldl, ↓State.each_kept, ↓State.abandonFill_kept, ↓State.bumpN_kept, ↓State.invalidateShadow_kept, ↓State.setPlState_kept, ↓State.setPort_kept, ↓State.stopSpillInto_kept, ↓State.quiet_kept, ↓State.setSec_kept, ↓State.drawn_kept]
    | dsimp only
    | (with_reducible apply State.leaves_fuses (h := (by first | exact SecFuses.grows_refl _ | (exact SecFuses.grows_erased _) | (simp [SecFuses.grows, rowsGrow_refl]; try omega))))
    | with_reducible apply State.leaves_each
    | with_reducible apply State.leaves_foldl_fst
    | with_reducible apply State.leaves_foldl
    | with_reducible apply State.erasePlane_leaves
    | split
    | intro _

theorem State.writeFrame_leaves (s : State) (n : Nat) (p : Nat) (f : Nat) (data : Nat) (status : Nat) {u0 : State} (hr : u0.leaves s.kept) :
    u0.leaves (s.writeFrame n p f data status).kept := by
  refine State.leaves_trans hr ?_
  unfold State.writeFrame
  simp only [↓State.staleCorr_kept, State.kept_mk]
  exact ⟨rfl, rfl, SecFuses.grows_refl _, id, id, Laws.set_wf _ _ _ _⟩

theorem State.loadFrame_leaves (s : State) (n : Nat) (p : Nat) (f : Nat) (data : Nat) {u0 : State} (hr : u0.leaves s.kept) : u0.leaves (State.loadFrame s n p f data).kept := by
  refine State.leaves_trans hr ?_
  clear hr
  unfold State.loadFrame
  repeat' first
    | with_reducible exact State.leaves_refl _
    | with_reducible assumption
    | simp only [↓State.kept_ite, State.kept_mk, State.kept_eta, ite_self, ↓State.kept_foldl, ↓State.each_kept, ↓State.quiet_kept, ↓State.setSec_kept, ↓State.drawn_kept]
    | dsimp only
    | (with_reducible apply State.leaves_fuses (h := (by first | exact SecFuses.grows_refl _ | (exact SecFuses.grows_erased _) | (simp [SecFuses.grows, rowsGrow_refl]; try omega))))
    | with_reducible apply State.leaves_each
    | with_reducible apply State.leaves_foldl_fst
    | with_reducible apply State.leaves_foldl
    | with_reducible apply State.loadBegins_leaves
    | with_reducible apply State.writeFrame_leaves
    | split
    | intro _

theorem execEraseComplete_leaves (s : State) (out : State) (h : execEraseComplete s = .next out) : s.leaves out.kept := by
  unfold execEraseComplete at h
  (repeat' first | split at h | dsimp only at h) <;> first
  | (cases h; done)
  | (injection h with h; subst h
     repeat' first
       | with_reducible exact State.leaves_refl _
       | with_reducible assumption
       | simp only [↓State.kept_ite, State.kept_mk, State.kept_eta, ite_self, ↓State.kept_foldl, ↓State.each_kept, ↓State.clr_kept, ↓State.quiet_kept, ↓State.setPlTorn_kept, ↓State.setSec_kept, ↓State.drawn_kept]
       | dsimp only
       | (with_reducible apply State.leaves_fuses (h := (by first | exact SecFuses.grows_refl _ | (exact SecFuses.grows_erased _) | (simp [SecFuses.grows, rowsGrow_refl]; try omega))))
       | with_reducible apply State.leaves_each
       | with_reducible apply State.leaves_foldl_fst
       | with_reducible apply State.leaves_foldl
       | with_reducible apply State.erasePlane_leaves
       | with_reducible apply State.loadFrame_leaves
       | split
       | intro _)

theorem State.spillFrames_leaves (s : State) (n : Nat) (p : Nat) (gen : Nat) (k : Nat) {u0 : State} (hr : u0.leaves s.kept) : u0.leaves (State.spillFrames s n p gen k).kept := by
  refine State.leaves_trans hr ?_
  clear hr
  unfold State.spillFrames
  repeat' first
    | with_reducible exact State.leaves_refl _
    | with_reducible assumption
    | simp only [↓State.kept_ite, State.kept_mk, State.kept_eta, ite_self, ↓State.kept_foldl, ↓State.each_kept, ↓State.quiet_kept, ↓State.setSec_kept, ↓State.drawn_kept]
    | dsimp only
    | (with_reducible apply State.leaves_fuses (h := (by first | exact SecFuses.grows_refl _ | (exact SecFuses.grows_erased _) | (simp [SecFuses.grows, rowsGrow_refl]; try omega))))
    | with_reducible apply State.leaves_each
    | with_reducible apply State.leaves_foldl_fst
    | with_reducible apply State.leaves_foldl
    | with_reducible apply State.writeFrame_leaves
    | split
    | intro _

theorem State.cutSpill_leaves (s : State) (n : Nat) {u0 : State} (hr : u0.leaves s.kept) : u0.leaves (State.cutSpill s n).kept := by
  refine State.leaves_trans hr ?_
  clear hr
  unfold State.cutSpill
  repeat' first
    | with_reducible exact State.leaves_refl _
    | with_reducible assumption
    | simp only [↓State.kept_ite, State.kept_mk, State.kept_eta, ite_self, ↓State.kept_foldl, ↓State.each_kept, ↓State.clr_kept, ↓State.drawn_kept, ↓State.setPlTorn_kept, ↓State.setRegion_kept, ↓State.quiet_kept, ↓State.setSec_kept]
    | dsimp only
    | (with_reducible apply State.leaves_fuses (h := (by first | exact SecFuses.grows_refl _ | (exact SecFuses.grows_erased _) | (simp [SecFuses.grows, rowsGrow_refl]; try omega))))
    | with_reducible apply State.leaves_each
    | with_reducible apply State.leaves_foldl_fst
    | with_reducible apply State.leaves_foldl
    | with_reducible apply State.spillFrames_leaves
    | split
    | intro _

theorem State.swapEdge_leaves (s : State) (n : Nat) (job : SwapJob) {u0 : State} (hr : u0.leaves s.kept) : u0.leaves (State.swapEdge s n job).kept := by
  refine State.leaves_trans hr ?_
  clear hr
  unfold State.swapEdge
  repeat' first
    | with_reducible exact State.leaves_refl _
    | with_reducible assumption
    | simp only [↓State.kept_ite, State.kept_mk, State.kept_eta, ite_self, ↓State.kept_foldl, ↓State.each_kept, ↓State.beginSpill_kept, ↓State.bringFallback_kept, ↓State.clearSlices_kept, ↓State.clr_kept, ↓State.clrBit_kept, ↓State.cutReads_kept, ↓State.dropPartial_kept, ↓State.enter_kept, ↓State.incr_kept, ↓State.set1_kept, ↓State.setPlActive_kept, ↓State.setRegion_kept, ↓State.setShState_kept, ↓State.takeLater_kept, ↓State.unpark_kept, ↓State.wr_kept, ↓State.quiet_kept, ↓State.setSec_kept, ↓State.drawn_kept]
    | dsimp only
    | (with_reducible apply State.leaves_fuses (h := (by first | exact SecFuses.grows_refl _ | (exact SecFuses.grows_erased _) | (simp [SecFuses.grows, rowsGrow_refl]; try omega))))
    | with_reducible apply State.leaves_each
    | with_reducible apply State.leaves_foldl_fst
    | with_reducible apply State.leaves_foldl
    | with_reducible apply State.cutSpill_leaves
    | split
    | intro _

theorem execSwapEdge_leaves (n : Fin 64) (s : State) (out : State) (h : execSwapEdge n s = .next out) : s.leaves out.kept := by
  unfold execSwapEdge at h
  (repeat' first | split at h | dsimp only at h) <;> first
  | (cases h; done)
  | (injection h with h; subst h
     repeat' first
       | with_reducible exact State.leaves_refl _
       | with_reducible assumption
       | simp only [↓State.kept_ite, State.kept_mk, State.kept_eta, ite_self, ↓State.kept_foldl, ↓State.each_kept, ↓State.finishStop_kept, ↓State.quiet_kept, ↓State.refuseClamp_kept, ↓State.setSec_kept, ↓State.drawn_kept]
       | dsimp only
       | (with_reducible apply State.leaves_fuses (h := (by first | exact SecFuses.grows_refl _ | (exact SecFuses.grows_erased _) | (simp [SecFuses.grows, rowsGrow_refl]; try omega))))
       | with_reducible apply State.leaves_each
       | with_reducible apply State.leaves_foldl_fst
       | with_reducible apply State.leaves_foldl
       | with_reducible apply State.swapEdge_leaves
       | split
       | intro _)

theorem execSpillComplete_leaves (n : Fin 64) (s : State) (out : State) (h : execSpillComplete n s = .next out) : s.leaves out.kept := by
  unfold execSpillComplete at h
  (repeat' first | split at h | dsimp only at h) <;> first
  | (cases h; done)
  | (injection h with h; subst h
     repeat' first
       | with_reducible exact State.leaves_refl _
       | with_reducible assumption
       | simp only [↓State.kept_ite, State.kept_mk, State.kept_eta, ite_self, ↓State.kept_foldl, ↓State.each_kept, ↓State.clr_kept, ↓State.quiet_kept, ↓State.setPlTorn_kept, ↓State.setRegion_kept, ↓State.setSec_kept, ↓State.drawn_kept]
       | dsimp only
       | (with_reducible apply State.leaves_fuses (h := (by first | exact SecFuses.grows_refl _ | (exact SecFuses.grows_erased _) | (simp [SecFuses.grows, rowsGrow_refl]; try omega))))
       | with_reducible apply State.leaves_each
       | with_reducible apply State.leaves_foldl_fst
       | with_reducible apply State.leaves_foldl
       | with_reducible apply State.spillFrames_leaves
       | split
       | intro _)

theorem execArmedSwapNoBoundary_leaves (n : Fin 64) (s : State) (out : State) (h : execArmedSwapNoBoundary n s = .next out) : s.leaves out.kept := by
  unfold execArmedSwapNoBoundary at h
  (repeat' first | split at h | dsimp only at h) <;> first
  | (cases h; done)
  | (injection h with h; subst h
     repeat' first
       | with_reducible exact State.leaves_refl _
       | with_reducible assumption
       | simp only [↓State.kept_ite, State.kept_mk, State.kept_eta, ite_self, ↓State.kept_foldl, ↓State.each_kept, ↓State.beginClamp_kept, ↓State.quiet_kept, ↓State.refuseArmed_kept, ↓State.unarm_kept, ↓State.setSec_kept, ↓State.drawn_kept]
       | dsimp only
       | (with_reducible apply State.leaves_fuses (h := (by first | exact SecFuses.grows_refl _ | (exact SecFuses.grows_erased _) | (simp [SecFuses.grows, rowsGrow_refl]; try omega))))
       | with_reducible apply State.leaves_each
       | with_reducible apply State.leaves_foldl_fst
       | with_reducible apply State.leaves_foldl
       | with_reducible apply State.swapEdge_leaves
       | split
       | intro _)

theorem execFallbackSwap_leaves (n : Fin 64) (s : State) (out : State) (h : execFallbackSwap n s = .next out) : s.leaves out.kept := by
  unfold execFallbackSwap at h
  (repeat' first | split at h | dsimp only at h) <;> first
  | (cases h; done)
  | (injection h with h; subst h
     repeat' first
       | with_reducible exact State.leaves_refl _
       | with_reducible assumption
       | simp only [↓State.kept_ite, State.kept_mk, State.kept_eta, ite_self, ↓State.kept_foldl, ↓State.each_kept, ↓State.beginClamp_kept, ↓State.enterFault_kept, ↓State.quiet_kept, ↓State.setSec_kept, ↓State.drawn_kept]
       | dsimp only
       | (with_reducible apply State.leaves_fuses (h := (by first | exact SecFuses.grows_refl _ | (exact SecFuses.grows_erased _) | (simp [SecFuses.grows, rowsGrow_refl]; try omega))))
       | with_reducible apply State.leaves_each
       | with_reducible apply State.leaves_foldl_fst
       | with_reducible apply State.leaves_foldl
       | with_reducible apply State.swapEdge_leaves
       | split
       | intro _)

theorem wrImgCtl_leaves (s : State) (v : BitVec 32) {u0 : State} (hr : u0.leaves s.kept) : u0.leaves (wrImgCtl s v).kept := by
  refine State.leaves_trans hr ?_
  clear hr
  unfold wrImgCtl
  repeat' first
    | with_reducible exact State.leaves_refl _
    | with_reducible assumption
    | simp only [↓State.kept_ite, State.kept_mk, State.kept_eta, ite_self, ↓State.kept_foldl, ↓State.each_kept, ↓State.storeReg_kept, ↓State.quiet_kept, ↓State.setSec_kept, ↓State.drawn_kept]
    | dsimp only
    | (with_reducible apply State.leaves_fuses (h := (by first | exact SecFuses.grows_refl _ | (exact SecFuses.grows_erased _) | (simp [SecFuses.grows, rowsGrow_refl]; try omega))))
    | with_reducible apply State.leaves_each
    | with_reducible apply State.leaves_foldl_fst
    | with_reducible apply State.leaves_foldl
    | with_reducible apply State.loadFails_leaves
    | split
    | intro _

theorem State.sendWb_leaves (s : State) (k : Nat) (l : Nat) (x : Line) (victim : Bool) (op : Bool) {u0 : State} (hr : u0.leaves s.kept) : u0.leaves (State.sendWb s k l x victim op).kept := by
  refine State.leaves_trans hr ?_
  clear hr
  unfold State.sendWb
  repeat' first
    | with_reducible exact State.leaves_refl _
    | with_reducible assumption
    | simp only [↓State.kept_ite, State.kept_mk, State.kept_eta, ite_self, ↓State.kept_foldl, ↓State.each_kept, ↓State.quiet_kept, ↓State.setSec_kept, ↓State.drawn_kept]
    | dsimp only
    | (with_reducible apply State.leaves_fuses (h := (by first | exact SecFuses.grows_refl _ | (exact SecFuses.grows_erased _) | (simp [SecFuses.grows, rowsGrow_refl]; try omega))))
    | with_reducible apply State.leaves_each
    | with_reducible apply State.leaves_foldl_fst
    | with_reducible apply State.leaves_foldl
    | with_reducible apply State.afterStore_leaves
    | with_reducible apply State.countRead_leaves
    | split
    | intro _

theorem State.cleanLines_leaves (s : State) (flush : Bool) (scope : Nat) (key : Nat) (slice : Nat) {u0 : State} (hr : u0.leaves s.kept) : u0.leaves (State.cleanLines s flush scope key slice).kept := by
  refine State.leaves_trans hr ?_
  clear hr
  unfold State.cleanLines
  repeat' first
    | with_reducible exact State.leaves_refl _
    | with_reducible assumption
    | simp only [↓State.kept_ite, State.kept_mk, State.kept_eta, ite_self, ↓State.kept_foldl, ↓State.each_kept, ↓State.awaitWbs_kept, ↓State.setLine_kept, ↓State.quiet_kept, ↓State.setSec_kept, ↓State.drawn_kept]
    | dsimp only
    | (with_reducible apply State.leaves_fuses (h := (by first | exact SecFuses.grows_refl _ | (exact SecFuses.grows_erased _) | (simp [SecFuses.grows, rowsGrow_refl]; try omega))))
    | with_reducible apply State.leaves_each
    | with_reducible apply State.leaves_foldl_fst
    | with_reducible apply State.leaves_foldl
    | with_reducible apply State.sendWb_leaves
    | split
    | intro _

theorem State.larderClean_leaves (s : State) (flush : Bool) (scope : Nat) (key : Nat) (slice : Nat) {u0 : State} (hr : u0.leaves s.kept) : u0.leaves (State.larderClean s flush scope key slice).kept := by
  refine State.leaves_trans hr ?_
  clear hr
  unfold State.larderClean
  repeat' first
    | with_reducible exact State.leaves_refl _
    | with_reducible assumption
    | simp only [↓State.kept_ite, State.kept_mk, State.kept_eta, ite_self, ↓State.kept_foldl, ↓State.each_kept, ↓State.beginOp_kept, ↓State.larderErr_kept, ↓State.quiet_kept, ↓State.setSec_kept, ↓State.drawn_kept]
    | dsimp only
    | (with_reducible apply State.leaves_fuses (h := (by first | exact SecFuses.grows_refl _ | (exact SecFuses.grows_erased _) | (simp [SecFuses.grows, rowsGrow_refl]; try omega))))
    | with_reducible apply State.leaves_each
    | with_reducible apply State.leaves_foldl_fst
    | with_reducible apply State.leaves_foldl
    | with_reducible apply State.cleanLines_leaves
    | split
    | intro _

theorem State.larderRehash_leaves (s : State) (newSalt : Bool) {u0 : State} (hr : u0.leaves s.kept) : u0.leaves (State.larderRehash s newSalt).kept := by
  refine State.leaves_trans hr ?_
  clear hr
  unfold State.larderRehash
  repeat' first
    | with_reducible exact State.leaves_refl _
    | with_reducible assumption
    | simp only [↓State.kept_ite, State.kept_mk, State.kept_eta, ite_self, ↓State.kept_foldl, ↓State.each_kept, ↓State.beginOp_kept, ↓State.larderErr_kept, ↓State.quiet_kept, ↓State.setSec_kept, ↓State.drawn_kept]
    | dsimp only
    | (with_reducible apply State.leaves_fuses (h := (by first | exact SecFuses.grows_refl _ | (exact SecFuses.grows_erased _) | (simp [SecFuses.grows, rowsGrow_refl]; try omega))))
    | with_reducible apply State.leaves_each
    | with_reducible apply State.leaves_foldl_fst
    | with_reducible apply State.leaves_foldl
    | with_reducible apply State.cleanLines_leaves
    | split
    | intro _

theorem wrLarderCtl_leaves (s : State) (v : BitVec 32) {u0 : State} (hr : u0.leaves s.kept) : u0.leaves (wrLarderCtl s v).kept := by
  refine State.leaves_trans hr ?_
  clear hr
  unfold wrLarderCtl
  repeat' first
    | with_reducible exact State.leaves_refl _
    | with_reducible assumption
    | simp only [↓State.kept_ite, State.kept_mk, State.kept_eta, ite_self, ↓State.kept_foldl, ↓State.each_kept, ↓State.storeReg_kept, ↓State.quiet_kept, ↓State.setSec_kept, ↓State.drawn_kept]
    | dsimp only
    | (with_reducible apply State.leaves_fuses (h := (by first | exact SecFuses.grows_refl _ | (exact SecFuses.grows_erased _) | (simp [SecFuses.grows, rowsGrow_refl]; try omega))))
    | with_reducible apply State.leaves_each
    | with_reducible apply State.leaves_foldl_fst
    | with_reducible apply State.leaves_foldl
    | with_reducible apply State.larderClean_leaves
    | with_reducible apply State.larderRehash_leaves
    | split
    | intro _

theorem State.mkeyCommand_leaves (s : State) (k : Nat) (cmd : Nat) {u0 : State} (hr : u0.leaves s.kept) : u0.leaves (State.mkeyCommand s k cmd).kept := by
  refine State.leaves_trans hr ?_
  clear hr
  unfold State.mkeyCommand
  repeat' first
    | with_reducible exact State.leaves_refl _
    | with_reducible assumption
    | simp only [↓State.kept_ite, State.kept_mk, State.kept_eta, ite_self, ↓State.kept_foldl, ↓State.each_kept, ↓State.beginOp_kept, ↓State.mkeyBegin_kept, ↓State.mkeyErr_kept, ↓State.set1_kept, ↓State.setKstate_kept, ↓State.sweepBegin_kept, ↓State.quiet_kept, ↓State.setSec_kept, ↓State.drawn_kept]
    | dsimp only
    | (with_reducible apply State.leaves_fuses (h := (by first | exact SecFuses.grows_refl _ | (exact SecFuses.grows_erased _) | (simp [SecFuses.grows, rowsGrow_refl]; try omega))))
    | with_reducible apply State.leaves_each
    | with_reducible apply State.leaves_foldl_fst
    | with_reducible apply State.leaves_foldl
    | with_reducible apply State.cleanLines_leaves
    | split
    | intro _

theorem wrMkeyCmd_leaves (s : State) (v : BitVec 32) {u0 : State} (hr : u0.leaves s.kept) : u0.leaves (wrMkeyCmd s v).kept := by
  refine State.leaves_trans hr ?_
  clear hr
  unfold wrMkeyCmd
  repeat' first
    | with_reducible exact State.leaves_refl _
    | with_reducible assumption
    | simp only [↓State.kept_ite, State.kept_mk, State.kept_eta, ite_self, ↓State.kept_foldl, ↓State.each_kept, ↓State.storeReg_kept, ↓State.quiet_kept, ↓State.setSec_kept, ↓State.drawn_kept]
    | dsimp only
    | (with_reducible apply State.leaves_fuses (h := (by first | exact SecFuses.grows_refl _ | (exact SecFuses.grows_erased _) | (simp [SecFuses.grows, rowsGrow_refl]; try omega))))
    | with_reducible apply State.leaves_each
    | with_reducible apply State.leaves_foldl_fst
    | with_reducible apply State.leaves_foldl
    | with_reducible apply State.mkeyCommand_leaves
    | split
    | intro _

theorem State.testAborted_leaves (s : State) (e : Nat) {u0 : State} (hr : u0.leaves s.kept) : u0.leaves (State.testAborted s e).kept := by
  refine State.leaves_trans hr ?_
  clear hr
  unfold State.testAborted
  repeat' first
    | with_reducible exact State.leaves_refl _
    | with_reducible assumption
    | simp only [↓State.kept_ite, State.kept_mk, State.kept_eta, ite_self, ↓State.kept_foldl, ↓State.each_kept, ↓State.heldPower_kept, ↓State.quiet_kept, ↓State.setSec_kept, ↓State.drawn_kept]
    | dsimp only
    | (with_reducible apply State.leaves_fuses (h := (by first | exact SecFuses.grows_refl _ | (exact SecFuses.grows_erased _) | (simp [SecFuses.grows, rowsGrow_refl]; try omega))))
    | with_reducible apply State.leaves_each
    | with_reducible apply State.leaves_foldl_fst
    | with_reducible apply State.leaves_foldl
    | with_reducible apply State.abortTest_leaves
    | split
    | intro _

theorem wrTestCmd_leaves (s : State) (e : Nat) (v : BitVec 32) {u0 : State} (hr : u0.leaves s.kept) : u0.leaves (wrTestCmd s e v).kept := by
  refine State.leaves_trans hr ?_
  clear hr
  unfold wrTestCmd
  repeat' first
    | with_reducible exact State.leaves_refl _
    | with_reducible assumption
    | simp only [↓State.kept_ite, State.kept_mk, State.kept_eta, ite_self, ↓State.kept_foldl, ↓State.each_kept, ↓State.set1_kept, ↓State.storeReg_kept, ↓State.testBegins_kept, ↓State.quiet_kept, ↓State.setSec_kept, ↓State.drawn_kept]
    | dsimp only
    | (with_reducible apply State.leaves_fuses (h := (by first | exact SecFuses.grows_refl _ | (exact SecFuses.grows_erased _) | (simp [SecFuses.grows, rowsGrow_refl]; try omega))))
    | with_reducible apply State.leaves_each
    | with_reducible apply State.leaves_foldl_fst
    | with_reducible apply State.leaves_foldl
    | with_reducible apply State.testAborted_leaves
    | split
    | intro _

theorem State.takeoverCmd_leaves (s : State) {u0 : State} (hr : u0.leaves s.kept) : u0.leaves (State.takeoverCmd s).kept := by
  refine State.leaves_trans hr ?_
  clear hr
  unfold State.takeoverCmd
  repeat' first
    | with_reducible exact State.leaves_refl _
    | with_reducible assumption
    | simp only [↓State.kept_ite, State.kept_mk, State.kept_eta, ite_self, ↓State.kept_foldl, ↓State.each_kept, ↓State.set1_kept, ↓State.quiet_kept, ↓State.setSec_kept, ↓State.drawn_kept]
    | dsimp only
    | (with_reducible apply State.leaves_fuses (h := (by first | exact SecFuses.grows_refl _ | (exact SecFuses.grows_erased _) | (simp [SecFuses.grows, rowsGrow_refl]; try omega))))
    | with_reducible apply State.leaves_each
    | with_reducible apply State.leaves_foldl_fst
    | with_reducible apply State.leaves_foldl
    | with_reducible apply State.beginTake_leaves
    | with_reducible apply State.primaryLost_leaves
    | split
    | intro _

theorem wrTwinCtl_leaves (s : State) (v : BitVec 32) {u0 : State} (hr : u0.leaves s.kept) : u0.leaves (wrTwinCtl s v).kept := by
  refine State.leaves_trans hr ?_
  clear hr
  unfold wrTwinCtl
  repeat' first
    | with_reducible exact State.leaves_refl _
    | with_reducible assumption
    | simp only [↓State.kept_ite, State.kept_mk, State.kept_eta, ite_self, ↓State.kept_foldl, ↓State.each_kept, ↓State.rejoinCmd_kept, ↓State.resignCmd_kept, ↓State.set1_kept, ↓State.w1cOnly_kept, ↓State.quiet_kept, ↓State.setSec_kept, ↓State.drawn_kept]
    | dsimp only
    | (with_reducible apply State.leaves_fuses (h := (by first | exact SecFuses.grows_refl _ | (exact SecFuses.grows_erased _) | (simp [SecFuses.grows, rowsGrow_refl]; try omega))))
    | with_reducible apply State.leaves_each
    | with_reducible apply State.leaves_foldl_fst
    | with_reducible apply State.leaves_foldl
    | with_reducible apply State.takeoverCmd_leaves
    | split
    | intro _

theorem State.wrReg_leaves (s : State) (ini : Ini) (r : Reg) (v : BitVec 32) {u0 : State} (hr : u0.leaves s.kept) : u0.leaves (State.wrReg s ini r v).kept := by
  refine State.leaves_trans hr ?_
  clear hr
  unfold State.wrReg
  repeat' first
    | with_reducible exact State.leaves_refl _
    | with_reducible assumption
    | simp only [↓State.kept_ite, State.kept_mk, State.kept_eta, ite_self, ↓State.kept_foldl, ↓State.each_kept, ↓State.clr_kept, ↓State.storeReg_kept, ↓State.wr_kept, ↓wrAlarmCfg_kept, ↓wrBankCfg_kept, ↓wrBankPwr_kept, ↓wrBankWin_kept, ↓wrBarCfg_kept, ↓wrClkNetCfg_kept, ↓wrCourierCtl_kept, ↓wrFlipCtl_kept, ↓wrGbStat_kept, ↓wrGbarCfg_kept, ↓wrGpioBankCfg_kept, ↓wrGresetCtl_kept, ↓wrKeyCmd_kept, ↓wrLbistCtl_kept, ↓wrLcCtl_kept, ↓wrLinkCtl_kept, ↓wrMkeyWinBase_kept, ↓wrMkeyWinLim_kept, ↓wrNetEpoch_kept, ↓wrPatrolCtl_kept, ↓wrPlaneCmd_kept, ↓wrPortCfg_kept, ↓wrPortSlots_kept, ↓wrPorterCtl_kept, ↓wrPwrDom_kept, ↓wrRawCfg_kept, ↓wrRegionClk_kept, ↓wrRegionCtl_kept, ↓wrRegionOvr_kept, ↓wrRepairCtl_kept, ↓wrRouteTable_kept, ↓wrRstDie_kept, ↓wrSdCfg_kept, ↓wrSdChCtl_kept, ↓wrSensFail_kept, ↓wrSnapCtl_kept, ↓wrSnoopCfg_kept, ↓wrSnoopCtl_kept, ↓wrStackTest_kept, ↓wrThrCtl_kept, ↓wrTickCtl_kept, ↓wrTwinCfg_kept, ↓wrTwinLanes_kept, ↓wrTwinOut_kept, ↓wrWdt_kept, ↓wrWsIsol_kept, ↓State.quiet_kept, ↓State.setSec_kept, ↓State.drawn_kept]
    | dsimp only
    | (with_reducible apply State.leaves_fuses (h := (by first | exact SecFuses.grows_refl _ | (exact SecFuses.grows_erased _) | (simp [SecFuses.grows, rowsGrow_refl]; try omega))))
    | with_reducible apply State.leaves_each
    | with_reducible apply State.leaves_foldl_fst
    | with_reducible apply State.leaves_foldl
    | with_reducible apply wrBankOwner_leaves
    | with_reducible apply wrImgCtl_leaves
    | with_reducible apply wrLarderCtl_leaves
    | with_reducible apply wrMkeyCmd_leaves
    | with_reducible apply wrTestCmd_leaves
    | with_reducible apply wrTwinCtl_leaves
    | split
    | intro _

theorem State.pairWrite_leaves (s : State) (ini : Ini) (off : Nat) (r : Reg) (v : BitVec 32) {u0 : State} (hr : u0.leaves s.kept) : u0.leaves (State.pairWrite s ini off r v).kept := by
  refine State.leaves_trans hr ?_
  clear hr
  unfold State.pairWrite
  repeat' first
    | with_reducible exact State.leaves_refl _
    | with_reducible assumption
    | simp only [↓State.kept_ite, State.kept_mk, State.kept_eta, ite_self, ↓State.kept_foldl, ↓State.each_kept, ↓State.commitPair_kept, ↓State.holdLo_kept, ↓State.storeReg_kept, ↓State.quiet_kept, ↓State.setSec_kept, ↓State.drawn_kept]
    | dsimp only
    | (with_reducible apply State.leaves_fuses (h := (by first | exact SecFuses.grows_refl _ | (exact SecFuses.grows_erased _) | (simp [SecFuses.grows, rowsGrow_refl]; try omega))))
    | with_reducible apply State.leaves_each
    | with_reducible apply State.leaves_foldl_fst
    | with_reducible apply State.leaves_foldl
    | with_reducible apply State.wrReg_leaves
    | split
    | intro _

theorem State.busWrite_leaves (s : State) (ini : Ini) (off : Nat) (size : Nat) (poison : Bool) (v : BitVec 32) {u0 : State} (hr : u0.leaves s.kept) : u0.leaves (State.busWrite s ini off size poison v).1.kept := by
  refine State.leaves_trans hr ?_
  clear hr
  unfold State.busWrite
  repeat' first
    | with_reducible exact State.leaves_refl _
    | with_reducible assumption
    | simp only [↓State.kept_ite, State.kept_mk, State.kept_eta, ite_self, ↓State.kept_foldl, ↓State.each_kept, ↓State.barredShown_kept, ↓State.log_kept, ↓State.quiet_kept, ↓State.setSec_kept, ↓State.drawn_kept]
    | dsimp only
    | (with_reducible apply State.leaves_fuses (h := (by first | exact SecFuses.grows_refl _ | (exact SecFuses.grows_erased _) | (simp [SecFuses.grows, rowsGrow_refl]; try omega))))
    | with_reducible apply State.leaves_each
    | with_reducible apply State.leaves_foldl_fst
    | with_reducible apply State.leaves_foldl
    | with_reducible apply State.pairWrite_leaves
    | split
    | intro _

theorem State.writeAnswer_leaves (s : State) (ini : Ini) (off : Nat) (size : Nat) (poison : Bool) (v : BitVec 32) {u0 : State} (hr : u0.leaves s.kept) : u0.leaves (State.writeAnswer s ini off size poison v).kept := by
  refine State.leaves_trans hr ?_
  clear hr
  unfold State.writeAnswer
  repeat' first
    | with_reducible exact State.leaves_refl _
    | with_reducible assumption
    | simp only [↓State.kept_ite, State.kept_mk, State.kept_eta, ite_self, ↓State.kept_foldl, ↓State.each_kept, ↓State.emit_kept, ↓State.quiet_kept, ↓State.setSec_kept, ↓State.drawn_kept]
    | dsimp only
    | (with_reducible apply State.leaves_fuses (h := (by first | exact SecFuses.grows_refl _ | (exact SecFuses.grows_erased _) | (simp [SecFuses.grows, rowsGrow_refl]; try omega))))
    | with_reducible apply State.leaves_each
    | with_reducible apply State.leaves_foldl_fst
    | with_reducible apply State.leaves_foldl
    | with_reducible apply State.busWrite_leaves
    | split
    | intro _

theorem execRegisterWrite_leaves (ini : Ini) (off : BitVec 28) (size : Nat) (value : WriteData) (s : State) (out : State) (h : execRegisterWrite ini off size value s = .next out) : s.leaves out.kept := by
  unfold execRegisterWrite at h
  (repeat' first | split at h | dsimp only at h) <;> first
  | (cases h; done)
  | (injection h with h; subst h
     repeat' first
       | with_reducible exact State.leaves_refl _
       | with_reducible assumption
       | simp only [↓State.kept_ite, State.kept_mk, State.kept_eta, ite_self, ↓State.kept_foldl, ↓State.each_kept, ↓State.quiet_kept, ↓State.setSec_kept, ↓State.drawn_kept]
       | dsimp only
       | (with_reducible apply State.leaves_fuses (h := (by first | exact SecFuses.grows_refl _ | (exact SecFuses.grows_erased _) | (simp [SecFuses.grows, rowsGrow_refl]; try omega))))
       | with_reducible apply State.leaves_each
       | with_reducible apply State.leaves_foldl_fst
       | with_reducible apply State.leaves_foldl
       | with_reducible apply State.writeAnswer_leaves
       | split
       | intro _)

theorem execPairLoWrite_leaves (ini : Ini) (off : BitVec 28) (value : WriteData) (s : State) (out : State) (h : execPairLoWrite ini off value s = .next out) : s.leaves out.kept := by
  unfold execPairLoWrite at h
  (repeat' first | split at h | dsimp only at h) <;> first
  | (cases h; done)
  | (injection h with h; subst h
     repeat' first
       | with_reducible exact State.leaves_refl _
       | with_reducible assumption
       | simp only [↓State.kept_ite, State.kept_mk, State.kept_eta, ite_self, ↓State.kept_foldl, ↓State.each_kept, ↓State.quiet_kept, ↓State.setSec_kept, ↓State.drawn_kept]
       | dsimp only
       | (with_reducible apply State.leaves_fuses (h := (by first | exact SecFuses.grows_refl _ | (exact SecFuses.grows_erased _) | (simp [SecFuses.grows, rowsGrow_refl]; try omega))))
       | with_reducible apply State.leaves_each
       | with_reducible apply State.leaves_foldl_fst
       | with_reducible apply State.leaves_foldl
       | with_reducible apply State.writeAnswer_leaves
       | split
       | intro _)

theorem execPairHiWrite_leaves (ini : Ini) (off : BitVec 28) (value : WriteData) (s : State) (out : State) (h : execPairHiWrite ini off value s = .next out) : s.leaves out.kept := by
  unfold execPairHiWrite at h
  (repeat' first | split at h | dsimp only at h) <;> first
  | (cases h; done)
  | (injection h with h; subst h
     repeat' first
       | with_reducible exact State.leaves_refl _
       | with_reducible assumption
       | simp only [↓State.kept_ite, State.kept_mk, State.kept_eta, ite_self, ↓State.kept_foldl, ↓State.each_kept, ↓State.quiet_kept, ↓State.setSec_kept, ↓State.drawn_kept]
       | dsimp only
       | (with_reducible apply State.leaves_fuses (h := (by first | exact SecFuses.grows_refl _ | (exact SecFuses.grows_erased _) | (simp [SecFuses.grows, rowsGrow_refl]; try omega))))
       | with_reducible apply State.leaves_each
       | with_reducible apply State.leaves_foldl_fst
       | with_reducible apply State.leaves_foldl
       | with_reducible apply State.writeAnswer_leaves
       | split
       | intro _)

theorem State.bramWrite_leaves (s : State) (block : Nat) (row : Nat) (mask : Nat) (v : Nat) {u0 : State} (hr : u0.leaves s.kept) :
    u0.leaves (s.bramWrite block row mask v).kept := by
  have e : ∀ (k : Nat) (x : Option Nat), s.leaves (State.kept { s with bram := storeSet none k x s.bram }) := fun k x =>
    ⟨rfl, rfl, SecFuses.grows_refl _, id, fun h => Laws.set_wf none x k s.bram h, id⟩
  exact State.leaves_trans hr (e _ _)

theorem State.ramEdge_leaves (o : State) (p : Nat × Nat) (n : Nat) (k : Nat) (b : Bool) (s : State) {u0 : State} (hr : u0.leaves s.kept) : u0.leaves (State.ramEdge o p n k b s).kept := by
  refine State.leaves_trans hr ?_
  clear hr
  unfold State.ramEdge
  repeat' first
    | with_reducible exact State.leaves_refl _
    | with_reducible assumption
    | simp only [↓State.kept_ite, State.kept_mk, State.kept_eta, ite_self, ↓State.kept_foldl, ↓State.each_kept, ↓State.setRamPort_kept, ↓State.quiet_kept, ↓State.setSec_kept, ↓State.drawn_kept]
    | dsimp only
    | (with_reducible apply State.leaves_fuses (h := (by first | exact SecFuses.grows_refl _ | (exact SecFuses.grows_erased _) | (simp [SecFuses.grows, rowsGrow_refl]; try omega))))
    | with_reducible apply State.leaves_each
    | with_reducible apply State.leaves_foldl_fst
    | with_reducible apply State.leaves_foldl
    | with_reducible apply State.bramWrite_leaves
    | split
    | intro _

theorem State.gangedEdge_leaves (o : State) (p : Nat × Nat) (n : Nat) (k : Nat) (s : State) {u0 : State} (hr : u0.leaves s.kept) : u0.leaves (State.gangedEdge o p n k s).kept := by
  refine State.leaves_trans hr ?_
  clear hr
  unfold State.gangedEdge
  repeat' first
    | with_reducible exact State.leaves_refl _
    | with_reducible assumption
    | simp only [↓State.kept_ite, State.kept_mk, State.kept_eta, ite_self, ↓State.kept_foldl, ↓State.each_kept, ↓State.countRamEcc_kept, ↓State.setRamPort_kept, ↓State.quiet_kept, ↓State.setSec_kept, ↓State.drawn_kept]
    | dsimp only
    | (with_reducible apply State.leaves_fuses (h := (by first | exact SecFuses.grows_refl _ | (exact SecFuses.grows_erased _) | (simp [SecFuses.grows, rowsGrow_refl]; try omega))))
    | with_reducible apply State.leaves_each
    | with_reducible apply State.leaves_foldl_fst
    | with_reducible apply State.leaves_foldl
    | with_reducible apply State.bramWrite_leaves
    | split
    | intro _

theorem State.ramsEdge_leaves (o : State) (ticks : List Nat) (p : Nat × Nat) (n : Nat) (s : State) {u0 : State} (hr : u0.leaves s.kept) : u0.leaves (State.ramsEdge o ticks p n s).kept := by
  refine State.leaves_trans hr ?_
  clear hr
  unfold State.ramsEdge
  repeat' first
    | with_reducible exact State.leaves_refl _
    | with_reducible assumption
    | simp only [↓State.kept_ite, State.kept_mk, State.kept_eta, ite_self, ↓State.kept_foldl, ↓State.each_kept, ↓State.quiet_kept, ↓State.setSec_kept, ↓State.drawn_kept]
    | dsimp only
    | (with_reducible apply State.leaves_fuses (h := (by first | exact SecFuses.grows_refl _ | (exact SecFuses.grows_erased _) | (simp [SecFuses.grows, rowsGrow_refl]; try omega))))
    | with_reducible apply State.leaves_each
    | with_reducible apply State.leaves_foldl_fst
    | with_reducible apply State.leaves_foldl
    | with_reducible apply State.gangedEdge_leaves
    | with_reducible apply State.ramEdge_leaves
    | split
    | intro _

theorem State.fabricEdge_leaves (o : State) (p : Nat × Nat) (nets : List (Nat × Nat)) (s : State) (n : Nat) {u0 : State} (hr : u0.leaves s.kept) : u0.leaves (State.fabricEdge o p nets s n).kept := by
  refine State.leaves_trans hr ?_
  clear hr
  unfold State.fabricEdge
  repeat' first
    | with_reducible exact State.leaves_refl _
    | with_reducible assumption
    | simp only [↓State.kept_ite, State.kept_mk, State.kept_eta, ite_self, ↓State.kept_foldl, ↓State.each_kept, ↓State.cellsEdge_kept, ↓State.eachFace_kept, ↓State.eventEdge_kept, ↓State.faceEdge_kept, ↓State.flopsEdge_kept, ↓State.releaseClamp_kept, ↓State.setRegion_kept, ↓State.slicesEdge_kept, ↓State.quiet_kept, ↓State.setSec_kept, ↓State.drawn_kept]
    | dsimp only
    | (with_reducible apply State.leaves_fuses (h := (by first | exact SecFuses.grows_refl _ | (exact SecFuses.grows_erased _) | (simp [SecFuses.grows, rowsGrow_refl]; try omega))))
    | with_reducible apply State.leaves_each
    | with_reducible apply State.leaves_foldl_fst
    | with_reducible apply State.leaves_foldl
    | rw [State.eachFace_kept _ _ _ (fun _ _ _ _ => ?_)]
    | with_reducible apply State.ramsEdge_leaves
    | split
    | intro _

theorem State.fabricPoint_leaves (s : State) (p : Nat × Nat) {u0 : State} (hr : u0.leaves s.kept) : u0.leaves (State.fabricPoint s p).kept := by
  refine State.leaves_trans hr ?_
  clear hr
  unfold State.fabricPoint
  repeat' first
    | with_reducible exact State.leaves_refl _
    | with_reducible assumption
    | simp only [↓State.kept_ite, State.kept_mk, State.kept_eta, ite_self, ↓State.kept_foldl, ↓State.each_kept, ↓State.drawn_kept, ↓State.gateEdge_kept, ↓State.quiet_kept, ↓State.setSec_kept]
    | dsimp only
    | (with_reducible apply State.leaves_fuses (h := (by first | exact SecFuses.grows_refl _ | (exact SecFuses.grows_erased _) | (simp [SecFuses.grows, rowsGrow_refl]; try omega))))
    | with_reducible apply State.leaves_each
    | with_reducible apply State.leaves_foldl_fst
    | with_reducible apply State.leaves_foldl
    | with_reducible apply State.fabricEdge_leaves
    | split
    | intro _

theorem State.fabricCycle_leaves (s : State) {u0 : State} (hr : u0.leaves s.kept) : u0.leaves (State.fabricCycle s).kept := by
  refine State.leaves_trans hr ?_
  clear hr
  unfold State.fabricCycle
  repeat' first
    | with_reducible exact State.leaves_refl _
    | with_reducible assumption
    | simp only [↓State.kept_ite, State.kept_mk, State.kept_eta, ite_self, ↓State.kept_foldl, ↓State.each_kept, ↓State.refreshFaces_kept, ↓State.quiet_kept, ↓State.setSec_kept, ↓State.drawn_kept]
    | dsimp only
    | (with_reducible apply State.leaves_fuses (h := (by first | exact SecFuses.grows_refl _ | (exact SecFuses.grows_erased _) | (simp [SecFuses.grows, rowsGrow_refl]; try omega))))
    | with_reducible apply State.leaves_each
    | with_reducible apply State.leaves_foldl_fst
    | with_reducible apply State.leaves_foldl
    | with_reducible apply State.fabricPoint_leaves
    | split
    | intro _

theorem State.wrongResponse_leaves (s : State) {u0 : State} (hr : u0.leaves s.kept) : u0.leaves (State.wrongResponse s).kept := by
  refine State.leaves_trans hr ?_
  clear hr
  unfold State.wrongResponse
  repeat' first
    | with_reducible exact State.leaves_refl _
    | with_reducible assumption
    | simp only [↓State.kept_ite, State.kept_mk, State.kept_eta, ite_self, ↓State.kept_foldl, ↓State.each_kept, ↓State.set1_kept, ↓State.setSec_kept, ↓State.quiet_kept, ↓State.drawn_kept]
    | dsimp only
    | (with_reducible apply State.leaves_fuses (h := (by first | exact SecFuses.grows_refl _ | (exact SecFuses.grows_erased _) | (simp [SecFuses.grows, rowsGrow_refl]; try omega))))
    | with_reducible apply State.leaves_each
    | with_reducible apply State.leaves_foldl_fst
    | with_reducible apply State.leaves_foldl
    | with_reducible apply State.alarm_leaves
    | split
    | intro _

theorem State.requestLevel_leaves (s : State) (p : DPort) (level : Nat) {u0 : State} (hr : u0.leaves s.kept) : u0.leaves (State.requestLevel s p level).kept := by
  refine State.leaves_trans hr ?_
  clear hr
  unfold State.requestLevel
  repeat' first
    | with_reducible exact State.leaves_refl _
    | with_reducible assumption
    | simp only [↓State.kept_ite, State.kept_mk, State.kept_eta, ite_self, ↓State.kept_foldl, ↓State.each_kept, ↓State.set1_kept, ↓State.setLevel_kept, ↓State.setSec_kept, ↓State.quiet_kept, ↓State.drawn_kept]
    | dsimp only
    | (with_reducible apply State.leaves_fuses (h := (by first | exact SecFuses.grows_refl _ | (exact SecFuses.grows_erased _) | (simp [SecFuses.grows, rowsGrow_refl]; try omega))))
    | with_reducible apply State.leaves_each
    | with_reducible apply State.leaves_foldl_fst
    | with_reducible apply State.leaves_foldl
    | with_reducible apply State.wrongResponse_leaves
    | split
    | intro _

theorem wrDbgAuth_leaves (s : State) (p : DPort) (v : BitVec 32) {u0 : State} (hr : u0.leaves s.kept) : u0.leaves (wrDbgAuth s p v).kept := by
  refine State.leaves_trans hr ?_
  clear hr
  unfold wrDbgAuth
  repeat' first
    | with_reducible exact State.leaves_refl _
    | with_reducible assumption
    | simp only [↓State.kept_ite, State.kept_mk, State.kept_eta, ite_self, ↓State.kept_foldl, ↓State.each_kept, ↓State.closeSession_kept, ↓State.drawChallenge_kept, ↓State.w1cOnly_kept, ↓State.quiet_kept, ↓State.setSec_kept, ↓State.drawn_kept]
    | dsimp only
    | (with_reducible apply State.leaves_fuses (h := (by first | exact SecFuses.grows_refl _ | (exact SecFuses.grows_erased _) | (simp [SecFuses.grows, rowsGrow_refl]; try omega))))
    | with_reducible apply State.leaves_each
    | with_reducible apply State.leaves_foldl_fst
    | with_reducible apply State.leaves_foldl
    | with_reducible apply State.requestLevel_leaves
    | split
    | intro _

theorem State.dbgWrite_leaves (s : State) (p : DPort) (ini : Ini) (off : Nat) (r : Reg) (v : BitVec 32) {u0 : State} (hr : u0.leaves s.kept) : u0.leaves (State.dbgWrite s p ini off r v).kept := by
  refine State.leaves_trans hr ?_
  clear hr
  unfold State.dbgWrite
  repeat' first
    | with_reducible exact State.leaves_refl _
    | with_reducible assumption
    | simp only [↓State.kept_ite, State.kept_mk, State.kept_eta, ite_self, ↓State.kept_foldl, ↓State.each_kept, ↓State.clrHold_kept, ↓State.eachRegion_kept, ↓State.setHold_kept, ↓State.setSec_kept, ↓State.storeReg_kept, ↓State.unfreeze_kept, ↓State.writeThrData_kept, ↓wrDbgInitCmd_kept, ↓wrDbgRegStep_kept, ↓wrDbgThrCtl_kept, ↓wrTraceCtl_kept, ↓wrXtCfg_kept, ↓State.quiet_kept, ↓State.drawn_kept]
    | dsimp only
    | (with_reducible apply State.leaves_fuses (h := (by first | exact SecFuses.grows_refl _ | (exact SecFuses.grows_erased _) | (simp [SecFuses.grows, rowsGrow_refl]; try omega))))
    | with_reducible apply State.leaves_each
    | with_reducible apply State.leaves_foldl_fst
    | with_reducible apply State.leaves_foldl
    | rw [State.eachRegion_kept _ _ _ _ (fun _ _ => ?_)]
    | with_reducible apply State.pairWrite_leaves
    | with_reducible apply wrDbgAuth_leaves
    | split
    | intro _

theorem State.dbgAccess_leaves (s : State) (p : DPort) (ini : Ini) (write : Bool) (off : Nat) (v : BitVec 32) {u0 : State} (hr : u0.leaves s.kept) : u0.leaves (State.dbgAccess s p ini write off v).1.kept := by
  refine State.leaves_trans hr ?_
  clear hr
  unfold State.dbgAccess
  repeat' first
    | with_reducible exact State.leaves_refl _
    | with_reducible assumption
    | simp only [↓State.kept_ite, State.kept_mk, State.kept_eta, ite_self, ↓State.kept_foldl, ↓State.each_kept, ↓State.dbgRead_kept, ↓State.quiet_kept, ↓State.setSec_kept, ↓State.drawn_kept]
    | dsimp only
    | (with_reducible apply State.leaves_fuses (h := (by first | exact SecFuses.grows_refl _ | (exact SecFuses.grows_erased _) | (simp [SecFuses.grows, rowsGrow_refl]; try omega))))
    | with_reducible apply State.leaves_each
    | with_reducible apply State.leaves_foldl_fst
    | with_reducible apply State.leaves_foldl
    | with_reducible apply State.dbgWrite_leaves
    | split
    | intro _

theorem State.jtagAccess_leaves (s : State) (write : Bool) (off : Nat) (v : BitVec 32) {u0 : State} (hr : u0.leaves s.kept) : u0.leaves (State.jtagAccess s write off v).1.kept := by
  refine State.leaves_trans hr ?_
  clear hr
  unfold State.jtagAccess
  repeat' first
    | with_reducible exact State.leaves_refl _
    | with_reducible assumption
    | simp only [↓State.kept_ite, State.kept_mk, State.kept_eta, ite_self, ↓State.kept_foldl, ↓State.each_kept, ↓State.drawn_kept, ↓State.setJtag_kept, ↓State.quiet_kept, ↓State.setSec_kept]
    | dsimp only
    | (with_reducible apply State.leaves_fuses (h := (by first | exact SecFuses.grows_refl _ | (exact SecFuses.grows_erased _) | (simp [SecFuses.grows, rowsGrow_refl]; try omega))))
    | with_reducible apply State.leaves_each
    | with_reducible apply State.leaves_foldl_fst
    | with_reducible apply State.leaves_foldl
    | with_reducible apply State.dbgAccess_leaves
    | split
    | intro _

theorem State.olicorAccess_leaves (s : State) (ini : Ini) (write : Bool) (off : Nat) (v : BitVec 32) {u0 : State} (hr : u0.leaves s.kept) : u0.leaves (State.olicorAccess s ini write off v).1.kept := by
  refine State.leaves_trans hr ?_
  clear hr
  unfold State.olicorAccess
  repeat' first
    | with_reducible exact State.leaves_refl _
    | with_reducible assumption
    | simp only [↓State.kept_ite, State.kept_mk, State.kept_eta, ite_self, ↓State.kept_foldl, ↓State.each_kept, ↓State.bindSession_kept, ↓State.quiet_kept, ↓State.setSec_kept, ↓State.drawn_kept]
    | dsimp only
    | (with_reducible apply State.leaves_fuses (h := (by first | exact SecFuses.grows_refl _ | (exact SecFuses.grows_erased _) | (simp [SecFuses.grows, rowsGrow_refl]; try omega))))
    | with_reducible apply State.leaves_each
    | with_reducible apply State.leaves_foldl_fst
    | with_reducible apply State.leaves_foldl
    | with_reducible apply State.dbgAccess_leaves
    | split
    | intro _

theorem execDbgAccess_leaves (value : BitVec 64) (early : Bool) (s : State) (out : State) (h : execDbgAccess value early s = .next out) : s.leaves out.kept := by
  unfold execDbgAccess at h
  (repeat' first | split at h | dsimp only at h) <;> first
  | (cases h; done)
  | (injection h with h; subst h
     repeat' first
       | with_reducible exact State.leaves_refl _
       | with_reducible assumption
       | simp only [↓State.kept_ite, State.kept_mk, State.kept_eta, ite_self, ↓State.kept_foldl, ↓State.each_kept, ↓State.drawn_kept, ↓State.emit_kept, ↓State.quiet_kept, ↓State.setSec_kept]
       | dsimp only
       | (with_reducible apply State.leaves_fuses (h := (by first | exact SecFuses.grows_refl _ | (exact SecFuses.grows_erased _) | (simp [SecFuses.grows, rowsGrow_refl]; try omega))))
       | with_reducible apply State.leaves_each
       | with_reducible apply State.leaves_foldl_fst
       | with_reducible apply State.leaves_foldl
       | with_reducible apply State.jtagAccess_leaves
       | split
       | intro _)

theorem execDebugEndpointAccess_leaves (rq : Request) (s : State) (out : State) (h : execDebugEndpointAccess rq s = .next out) : s.leaves out.kept := by
  unfold execDebugEndpointAccess at h
  (repeat' first | split at h | dsimp only at h) <;> first
  | (cases h; done)
  | (injection h with h; subst h
     repeat' first
       | with_reducible exact State.leaves_refl _
       | with_reducible assumption
       | simp only [↓State.kept_ite, State.kept_mk, State.kept_eta, ite_self, ↓State.kept_foldl, ↓State.each_kept, ↓State.log_kept, ↓State.quiet_kept, ↓State.reply_kept, ↓State.replyData_kept, ↓State.setSec_kept, ↓State.drawn_kept]
       | dsimp only
       | (with_reducible apply State.leaves_fuses (h := (by first | exact SecFuses.grows_refl _ | (exact SecFuses.grows_erased _) | (simp [SecFuses.grows, rowsGrow_refl]; try omega))))
       | with_reducible apply State.leaves_each
       | with_reducible apply State.leaves_foldl_fst
       | with_reducible apply State.leaves_foldl
       | with_reducible apply State.olicorAccess_leaves
       | split
       | intro _)

theorem State.viaPath_leaves (s : State) (path : DbgPath) (write : Bool) (off : Nat) (v : BitVec 32) {u0 : State} (hr : u0.leaves s.kept) : u0.leaves (State.viaPath s path write off v).kept := by
  refine State.leaves_trans hr ?_
  clear hr
  unfold State.viaPath
  repeat' first
    | with_reducible exact State.leaves_refl _
    | with_reducible assumption
    | simp only [↓State.kept_ite, State.kept_mk, State.kept_eta, ite_self, ↓State.kept_foldl, ↓State.each_kept, ↓State.emit_kept, ↓State.quiet_kept, ↓State.setSec_kept, ↓State.drawn_kept]
    | dsimp only
    | (with_reducible apply State.leaves_fuses (h := (by first | exact SecFuses.grows_refl _ | (exact SecFuses.grows_erased _) | (simp [SecFuses.grows, rowsGrow_refl]; try omega))))
    | with_reducible apply State.leaves_each
    | with_reducible apply State.leaves_foldl_fst
    | with_reducible apply State.leaves_foldl
    | with_reducible apply State.jtagAccess_leaves
    | with_reducible apply State.olicorAccess_leaves
    | split
    | intro _

theorem execChal_leaves (path : DbgPath) (s : State) (out : State) (h : execChal path s = .next out) : s.leaves out.kept := by
  unfold execChal at h
  (repeat' first | split at h | dsimp only at h) <;> first
  | (cases h; done)
  | (injection h with h; subst h
     repeat' first
       | with_reducible exact State.leaves_refl _
       | with_reducible assumption
       | simp only [↓State.kept_ite, State.kept_mk, State.kept_eta, ite_self, ↓State.kept_foldl, ↓State.each_kept, ↓State.quiet_kept, ↓State.setSec_kept, ↓State.drawn_kept]
       | dsimp only
       | (with_reducible apply State.leaves_fuses (h := (by first | exact SecFuses.grows_refl _ | (exact SecFuses.grows_erased _) | (simp [SecFuses.grows, rowsGrow_refl]; try omega))))
       | with_reducible apply State.leaves_each
       | with_reducible apply State.leaves_foldl_fst
       | with_reducible apply State.leaves_foldl
       | with_reducible apply State.viaPath_leaves
       | split
       | intro _)

theorem execReq_leaves (path : DbgPath) (level : BitVec 2) (s : State) (out : State) (h : execReq path level s = .next out) : s.leaves out.kept := by
  unfold execReq at h
  (repeat' first | split at h | dsimp only at h) <;> first
  | (cases h; done)
  | (injection h with h; subst h
     repeat' first
       | with_reducible exact State.leaves_refl _
       | with_reducible assumption
       | simp only [↓State.kept_ite, State.kept_mk, State.kept_eta, ite_self, ↓State.kept_foldl, ↓State.each_kept, ↓State.quiet_kept, ↓State.setSec_kept, ↓State.drawn_kept]
       | dsimp only
       | (with_reducible apply State.leaves_fuses (h := (by first | exact SecFuses.grows_refl _ | (exact SecFuses.grows_erased _) | (simp [SecFuses.grows, rowsGrow_refl]; try omega))))
       | with_reducible apply State.leaves_each
       | with_reducible apply State.leaves_foldl_fst
       | with_reducible apply State.leaves_foldl
       | with_reducible apply State.viaPath_leaves
       | split
       | intro _)

theorem execClose_leaves (path : DbgPath) (s : State) (out : State) (h : execClose path s = .next out) : s.leaves out.kept := by
  unfold execClose at h
  (repeat' first | split at h | dsimp only at h) <;> first
  | (cases h; done)
  | (injection h with h; subst h
     repeat' first
       | with_reducible exact State.leaves_refl _
       | with_reducible assumption
       | simp only [↓State.kept_ite, State.kept_mk, State.kept_eta, ite_self, ↓State.kept_foldl, ↓State.each_kept, ↓State.quiet_kept, ↓State.setSec_kept, ↓State.drawn_kept]
       | dsimp only
       | (with_reducible apply State.leaves_fuses (h := (by first | exact SecFuses.grows_refl _ | (exact SecFuses.grows_erased _) | (simp [SecFuses.grows, rowsGrow_refl]; try omega))))
       | with_reducible apply State.leaves_each
       | with_reducible apply State.leaves_foldl_fst
       | with_reducible apply State.leaves_foldl
       | with_reducible apply State.viaPath_leaves
       | split
       | intro _)

theorem execDbgInitGo_leaves (path : DbgPath) (size : BitVec 3) (write : Bool) (s : State) (out : State) (h : execDbgInitGo path size write s = .next out) : s.leaves out.kept := by
  unfold execDbgInitGo at h
  (repeat' first | split at h | dsimp only at h) <;> first
  | (cases h; done)
  | (injection h with h; subst h
     repeat' first
       | with_reducible exact State.leaves_refl _
       | with_reducible assumption
       | simp only [↓State.kept_ite, State.kept_mk, State.kept_eta, ite_self, ↓State.kept_foldl, ↓State.each_kept, ↓State.quiet_kept, ↓State.setSec_kept, ↓State.drawn_kept]
       | dsimp only
       | (with_reducible apply State.leaves_fuses (h := (by first | exact SecFuses.grows_refl _ | (exact SecFuses.grows_erased _) | (simp [SecFuses.grows, rowsGrow_refl]; try omega))))
       | with_reducible apply State.leaves_each
       | with_reducible apply State.leaves_foldl_fst
       | with_reducible apply State.leaves_foldl
       | with_reducible apply State.viaPath_leaves
       | split
       | intro _)

theorem State.thrCommand_leaves (s : State) (path : DbgPath) (t : Nat) (bit : Nat) {u0 : State} (hr : u0.leaves s.kept) : u0.leaves (State.thrCommand s path t bit).kept := by
  refine State.leaves_trans hr ?_
  clear hr
  unfold State.thrCommand
  repeat' first
    | with_reducible exact State.leaves_refl _
    | with_reducible assumption
    | simp only [↓State.kept_ite, State.kept_mk, State.kept_eta, ite_self, ↓State.kept_foldl, ↓State.each_kept, ↓State.quiet_kept, ↓State.setSec_kept, ↓State.drawn_kept]
    | dsimp only
    | (with_reducible apply State.leaves_fuses (h := (by first | exact SecFuses.grows_refl _ | (exact SecFuses.grows_erased _) | (simp [SecFuses.grows, rowsGrow_refl]; try omega))))
    | with_reducible apply State.leaves_each
    | with_reducible apply State.leaves_foldl_fst
    | with_reducible apply State.leaves_foldl
    | with_reducible apply State.viaPath_leaves
    | split
    | intro _

theorem execHalt_leaves (path : DbgPath) (t : Fin 4) (s : State) (out : State) (h : execHalt path t s = .next out) : s.leaves out.kept := by
  unfold execHalt at h
  (repeat' first | split at h | dsimp only at h) <;> first
  | (cases h; done)
  | (injection h with h; subst h
     repeat' first
       | with_reducible exact State.leaves_refl _
       | with_reducible assumption
       | simp only [↓State.kept_ite, State.kept_mk, State.kept_eta, ite_self, ↓State.kept_foldl, ↓State.each_kept, ↓State.quiet_kept, ↓State.setSec_kept, ↓State.drawn_kept]
       | dsimp only
       | (with_reducible apply State.leaves_fuses (h := (by first | exact SecFuses.grows_refl _ | (exact SecFuses.grows_erased _) | (simp [SecFuses.grows, rowsGrow_refl]; try omega))))
       | with_reducible apply State.leaves_each
       | with_reducible apply State.leaves_foldl_fst
       | with_reducible apply State.leaves_foldl
       | with_reducible apply State.thrCommand_leaves
       | split
       | intro _)

theorem execDbgRelease_leaves (path : DbgPath) (t : Fin 4) (s : State) (out : State) (h : execDbgRelease path t s = .next out) : s.leaves out.kept := by
  unfold execDbgRelease at h
  (repeat' first | split at h | dsimp only at h) <;> first
  | (cases h; done)
  | (injection h with h; subst h
     repeat' first
       | with_reducible exact State.leaves_refl _
       | with_reducible assumption
       | simp only [↓State.kept_ite, State.kept_mk, State.kept_eta, ite_self, ↓State.kept_foldl, ↓State.each_kept, ↓State.quiet_kept, ↓State.setSec_kept, ↓State.drawn_kept]
       | dsimp only
       | (with_reducible apply State.leaves_fuses (h := (by first | exact SecFuses.grows_refl _ | (exact SecFuses.grows_erased _) | (simp [SecFuses.grows, rowsGrow_refl]; try omega))))
       | with_reducible apply State.leaves_each
       | with_reducible apply State.leaves_foldl_fst
       | with_reducible apply State.leaves_foldl
       | with_reducible apply State.thrCommand_leaves
       | split
       | intro _)

theorem execForce_leaves (path : DbgPath) (t : Fin 4) (s : State) (out : State) (h : execForce path t s = .next out) : s.leaves out.kept := by
  unfold execForce at h
  (repeat' first | split at h | dsimp only at h) <;> first
  | (cases h; done)
  | (injection h with h; subst h
     repeat' first
       | with_reducible exact State.leaves_refl _
       | with_reducible assumption
       | simp only [↓State.kept_ite, State.kept_mk, State.kept_eta, ite_self, ↓State.kept_foldl, ↓State.each_kept, ↓State.quiet_kept, ↓State.setSec_kept, ↓State.drawn_kept]
       | dsimp only
       | (with_reducible apply State.leaves_fuses (h := (by first | exact SecFuses.grows_refl _ | (exact SecFuses.grows_erased _) | (simp [SecFuses.grows, rowsGrow_refl]; try omega))))
       | with_reducible apply State.leaves_each
       | with_reducible apply State.leaves_foldl_fst
       | with_reducible apply State.leaves_foldl
       | with_reducible apply State.thrCommand_leaves
       | split
       | intro _)

theorem execStep_leaves (path : DbgPath) (t : Fin 4) (s : State) (out : State) (h : execStep path t s = .next out) : s.leaves out.kept := by
  unfold execStep at h
  (repeat' first | split at h | dsimp only at h) <;> first
  | (cases h; done)
  | (injection h with h; subst h
     repeat' first
       | with_reducible exact State.leaves_refl _
       | with_reducible assumption
       | simp only [↓State.kept_ite, State.kept_mk, State.kept_eta, ite_self, ↓State.kept_foldl, ↓State.each_kept, ↓State.quiet_kept, ↓State.setSec_kept, ↓State.drawn_kept]
       | dsimp only
       | (with_reducible apply State.leaves_fuses (h := (by first | exact SecFuses.grows_refl _ | (exact SecFuses.grows_erased _) | (simp [SecFuses.grows, rowsGrow_refl]; try omega))))
       | with_reducible apply State.leaves_each
       | with_reducible apply State.leaves_foldl_fst
       | with_reducible apply State.leaves_foldl
       | with_reducible apply State.thrCommand_leaves
       | split
       | intro _)

theorem execThrDataRead_leaves (path : DbgPath) (s : State) (out : State) (h : execThrDataRead path s = .next out) : s.leaves out.kept := by
  unfold execThrDataRead at h
  (repeat' first | split at h | dsimp only at h) <;> first
  | (cases h; done)
  | (injection h with h; subst h
     repeat' first
       | with_reducible exact State.leaves_refl _
       | with_reducible assumption
       | simp only [↓State.kept_ite, State.kept_mk, State.kept_eta, ite_self, ↓State.kept_foldl, ↓State.each_kept, ↓State.quiet_kept, ↓State.setSec_kept, ↓State.drawn_kept]
       | dsimp only
       | (with_reducible apply State.leaves_fuses (h := (by first | exact SecFuses.grows_refl _ | (exact SecFuses.grows_erased _) | (simp [SecFuses.grows, rowsGrow_refl]; try omega))))
       | with_reducible apply State.leaves_each
       | with_reducible apply State.leaves_foldl_fst
       | with_reducible apply State.leaves_foldl
       | with_reducible apply State.viaPath_leaves
       | split
       | intro _)

theorem execThrDataWrite_leaves (path : DbgPath) (value : BitVec 32) (s : State) (out : State) (h : execThrDataWrite path value s = .next out) : s.leaves out.kept := by
  unfold execThrDataWrite at h
  (repeat' first | split at h | dsimp only at h) <;> first
  | (cases h; done)
  | (injection h with h; subst h
     repeat' first
       | with_reducible exact State.leaves_refl _
       | with_reducible assumption
       | simp only [↓State.kept_ite, State.kept_mk, State.kept_eta, ite_self, ↓State.kept_foldl, ↓State.each_kept, ↓State.quiet_kept, ↓State.setSec_kept, ↓State.drawn_kept]
       | dsimp only
       | (with_reducible apply State.leaves_fuses (h := (by first | exact SecFuses.grows_refl _ | (exact SecFuses.grows_erased _) | (simp [SecFuses.grows, rowsGrow_refl]; try omega))))
       | with_reducible apply State.leaves_each
       | with_reducible apply State.leaves_foldl_fst
       | with_reducible apply State.leaves_foldl
       | with_reducible apply State.viaPath_leaves
       | split
       | intro _)

theorem execDbgRegHalt_leaves (path : DbgPath) (i : Fin 2) (value : BitVec 32) (s : State) (out : State) (h : execDbgRegHalt path i value s = .next out) : s.leaves out.kept := by
  unfold execDbgRegHalt at h
  (repeat' first | split at h | dsimp only at h) <;> first
  | (cases h; done)
  | (injection h with h; subst h
     repeat' first
       | with_reducible exact State.leaves_refl _
       | with_reducible assumption
       | simp only [↓State.kept_ite, State.kept_mk, State.kept_eta, ite_self, ↓State.kept_foldl, ↓State.each_kept, ↓State.quiet_kept, ↓State.setSec_kept, ↓State.drawn_kept]
       | dsimp only
       | (with_reducible apply State.leaves_fuses (h := (by first | exact SecFuses.grows_refl _ | (exact SecFuses.grows_erased _) | (simp [SecFuses.grows, rowsGrow_refl]; try omega))))
       | with_reducible apply State.leaves_each
       | with_reducible apply State.leaves_foldl_fst
       | with_reducible apply State.leaves_foldl
       | with_reducible apply State.viaPath_leaves
       | split
       | intro _)

theorem execDbgRegRel_leaves (path : DbgPath) (i : Fin 2) (value : BitVec 32) (s : State) (out : State) (h : execDbgRegRel path i value s = .next out) : s.leaves out.kept := by
  unfold execDbgRegRel at h
  (repeat' first | split at h | dsimp only at h) <;> first
  | (cases h; done)
  | (injection h with h; subst h
     repeat' first
       | with_reducible exact State.leaves_refl _
       | with_reducible assumption
       | simp only [↓State.kept_ite, State.kept_mk, State.kept_eta, ite_self, ↓State.kept_foldl, ↓State.each_kept, ↓State.quiet_kept, ↓State.setSec_kept, ↓State.drawn_kept]
       | dsimp only
       | (with_reducible apply State.leaves_fuses (h := (by first | exact SecFuses.grows_refl _ | (exact SecFuses.grows_erased _) | (simp [SecFuses.grows, rowsGrow_refl]; try omega))))
       | with_reducible apply State.leaves_each
       | with_reducible apply State.leaves_foldl_fst
       | with_reducible apply State.leaves_foldl
       | with_reducible apply State.viaPath_leaves
       | split
       | intro _)

theorem execDbgRegStep_leaves (path : DbgPath) (n : Fin 64) (count : BitVec 8) (s : State) (out : State) (h : execDbgRegStep path n count s = .next out) : s.leaves out.kept := by
  unfold execDbgRegStep at h
  (repeat' first | split at h | dsimp only at h) <;> first
  | (cases h; done)
  | (injection h with h; subst h
     repeat' first
       | with_reducible exact State.leaves_refl _
       | with_reducible assumption
       | simp only [↓State.kept_ite, State.kept_mk, State.kept_eta, ite_self, ↓State.kept_foldl, ↓State.each_kept, ↓State.quiet_kept, ↓State.setSec_kept, ↓State.drawn_kept]
       | dsimp only
       | (with_reducible apply State.leaves_fuses (h := (by first | exact SecFuses.grows_refl _ | (exact SecFuses.grows_erased _) | (simp [SecFuses.grows, rowsGrow_refl]; try omega))))
       | with_reducible apply State.leaves_each
       | with_reducible apply State.leaves_foldl_fst
       | with_reducible apply State.leaves_foldl
       | with_reducible apply State.viaPath_leaves
       | split
       | intro _)

theorem execSw_leaves (path : DbgPath) (c : Fin 16) (s : State) (out : State) (h : execSw path c s = .next out) : s.leaves out.kept := by
  unfold execSw at h
  (repeat' first | split at h | dsimp only at h) <;> first
  | (cases h; done)
  | (injection h with h; subst h
     repeat' first
       | with_reducible exact State.leaves_refl _
       | with_reducible assumption
       | simp only [↓State.kept_ite, State.kept_mk, State.kept_eta, ite_self, ↓State.kept_foldl, ↓State.each_kept, ↓State.quiet_kept, ↓State.setSec_kept, ↓State.drawn_kept]
       | dsimp only
       | (with_reducible apply State.leaves_fuses (h := (by first | exact SecFuses.grows_refl _ | (exact SecFuses.grows_erased _) | (simp [SecFuses.grows, rowsGrow_refl]; try omega))))
       | with_reducible apply State.leaves_each
       | with_reducible apply State.leaves_foldl_fst
       | with_reducible apply State.leaves_foldl
       | with_reducible apply State.viaPath_leaves
       | split
       | intro _)

theorem execTraceEn_leaves (path : DbgPath) (value : BitVec 32) (s : State) (out : State) (h : execTraceEn path value s = .next out) : s.leaves out.kept := by
  unfold execTraceEn at h
  (repeat' first | split at h | dsimp only at h) <;> first
  | (cases h; done)
  | (injection h with h; subst h
     repeat' first
       | with_reducible exact State.leaves_refl _
       | with_reducible assumption
       | simp only [↓State.kept_ite, State.kept_mk, State.kept_eta, ite_self, ↓State.kept_foldl, ↓State.each_kept, ↓State.quiet_kept, ↓State.setSec_kept, ↓State.drawn_kept]
       | dsimp only
       | (with_reducible apply State.leaves_fuses (h := (by first | exact SecFuses.grows_refl _ | (exact SecFuses.grows_erased _) | (simp [SecFuses.grows, rowsGrow_refl]; try omega))))
       | with_reducible apply State.leaves_each
       | with_reducible apply State.leaves_foldl_fst
       | with_reducible apply State.leaves_foldl
       | with_reducible apply State.viaPath_leaves
       | split
       | intro _)

theorem execCsrWrite_leaves (s : State) (out : State) (h : execCsrWrite s = .next out) : s.leaves out.kept := by
  unfold execCsrWrite at h
  (repeat' first | split at h | dsimp only at h) <;> first
  | (cases h; done)
  | (injection h with h; subst h
     repeat' first
       | with_reducible exact State.leaves_refl _
       | with_reducible assumption
       | simp only [↓State.kept_ite, State.kept_mk, State.kept_eta, ite_self, ↓State.kept_foldl, ↓State.each_kept, ↓State.deskAccess_kept, ↓State.deskEnd_kept, ↓State.quiet_kept, ↓State.setSec_kept, ↓State.drawn_kept]
       | dsimp only
       | (with_reducible apply State.leaves_fuses (h := (by first | exact SecFuses.grows_refl _ | (exact SecFuses.grows_erased _) | (simp [SecFuses.grows, rowsGrow_refl]; try omega))))
       | with_reducible apply State.leaves_each
       | with_reducible apply State.leaves_foldl_fst
       | with_reducible apply State.leaves_foldl
       | with_reducible apply State.busWrite_leaves
       | split
       | intro _)

theorem State.jnlLocks_leaves (s : State) {u0 : State} (hr : u0.leaves s.kept) : u0.leaves (State.jnlLocks s).kept := by
  refine State.leaves_trans hr ?_
  clear hr
  unfold State.jnlLocks
  repeat' first
    | with_reducible exact State.leaves_refl _
    | with_reducible assumption
    | simp only [↓State.kept_ite, State.kept_mk, State.kept_eta, ite_self, ↓State.kept_foldl, ↓State.each_kept, ↓State.deskEnd_kept, ↓State.freezeKept_kept, ↓State.refuseWrites_kept, ↓State.set1_kept, ↓State.quiet_kept, ↓State.setSec_kept, ↓State.drawn_kept]
    | dsimp only
    | (with_reducible apply State.leaves_fuses (h := (by first | exact SecFuses.grows_refl _ | (exact SecFuses.grows_erased _) | (simp [SecFuses.grows, rowsGrow_refl]; try omega))))
    | with_reducible apply State.leaves_each
    | with_reducible apply State.leaves_foldl_fst
    | with_reducible apply State.leaves_foldl
    | with_reducible apply State.alarm_leaves
    | split
    | intro _

theorem State.retireSector_leaves (s : State) (l : Nat) (p : Nat) {u0 : State} (hr : u0.leaves s.kept) : u0.leaves (State.retireSector s l p).kept := by
  refine State.leaves_trans hr ?_
  clear hr
  unfold State.retireSector
  repeat' first
    | with_reducible exact State.leaves_refl _
    | with_reducible assumption
    | simp only [↓State.kept_ite, State.kept_mk, State.kept_eta, ite_self, ↓State.kept_foldl, ↓State.each_kept, ↓State.log_kept, ↓State.setJsec_kept, ↓State.quiet_kept, ↓State.setSec_kept, ↓State.drawn_kept]
    | dsimp only
    | (with_reducible apply State.leaves_fuses (h := (by first | exact SecFuses.grows_refl _ | (exact SecFuses.grows_erased _) | (simp [SecFuses.grows, rowsGrow_refl]; try omega))))
    | with_reducible apply State.leaves_each
    | with_reducible apply State.leaves_foldl_fst
    | with_reducible apply State.leaves_foldl
    | with_reducible apply State.jnlLocks_leaves
    | split
    | intro _

theorem State.wearSector_leaves (s : State) (l : Nat) {u0 : State} (hr : u0.leaves s.kept) : u0.leaves (State.wearSector s l).kept := by
  refine State.leaves_trans hr ?_
  clear hr
  unfold State.wearSector
  repeat' first
    | with_reducible exact State.leaves_refl _
    | with_reducible assumption
    | simp only [↓State.kept_ite, State.kept_mk, State.kept_eta, ite_self, ↓State.kept_foldl, ↓State.each_kept, ↓State.setJsec_kept, ↓State.showSectors_kept, ↓State.quiet_kept, ↓State.setSec_kept, ↓State.drawn_kept]
    | dsimp only
    | (with_reducible apply State.leaves_fuses (h := (by first | exact SecFuses.grows_refl _ | (exact SecFuses.grows_erased _) | (simp [SecFuses.grows, rowsGrow_refl]; try omega))))
    | with_reducible apply State.leaves_each
    | with_reducible apply State.leaves_foldl_fst
    | with_reducible apply State.leaves_foldl
    | with_reducible apply State.retireSector_leaves
    | split
    | intro _

theorem State.copyForward_leaves (s : State) (b : JBody) {u0 : State} (hr : u0.leaves s.kept) : u0.leaves (State.copyForward s b).kept := by
  refine State.leaves_trans hr ?_
  clear hr
  unfold State.copyForward
  repeat' first
    | with_reducible exact State.leaves_refl _
    | with_reducible assumption
    | simp only [↓State.kept_ite, State.kept_mk, State.kept_eta, ite_self, ↓State.kept_foldl, ↓State.each_kept, ↓State.putAt_kept, ↓State.quiet_kept, ↓State.setSec_kept, ↓State.drawn_kept]
    | dsimp only
    | (with_reducible apply State.leaves_fuses (h := (by first | exact SecFuses.grows_refl _ | (exact SecFuses.grows_erased _) | (simp [SecFuses.grows, rowsGrow_refl]; try omega))))
    | with_reducible apply State.leaves_each
    | with_reducible apply State.leaves_foldl_fst
    | with_reducible apply State.leaves_foldl
    | with_reducible apply State.wearSector_leaves
    | split
    | intro _

theorem State.dropDeskWrite_leaves (s : State) (inPhase1 : Bool) {u0 : State} (hr : u0.leaves s.kept) : u0.leaves (State.dropDeskWrite s inPhase1).kept := by
  refine State.leaves_trans hr ?_
  clear hr
  unfold State.dropDeskWrite
  repeat' first
    | with_reducible exact State.leaves_refl _
    | with_reducible assumption
    | simp only [↓State.kept_ite, State.kept_mk, State.kept_eta, ite_self, ↓State.kept_foldl, ↓State.each_kept, ↓State.deskAborted_kept, ↓State.tearSlot_kept, ↓State.quiet_kept, ↓State.setSec_kept, ↓State.drawn_kept]
    | dsimp only
    | (with_reducible apply State.leaves_fuses (h := (by first | exact SecFuses.grows_refl _ | (exact SecFuses.grows_erased _) | (simp [SecFuses.grows, rowsGrow_refl]; try omega))))
    | with_reducible apply State.leaves_each
    | with_reducible apply State.leaves_foldl_fst
    | with_reducible apply State.leaves_foldl
    | with_reducible apply State.copyForward_leaves
    | split
    | intro _

theorem State.abortWrite_leaves (s : State) (point : DeskPoint) {u0 : State} (hr : u0.leaves s.kept) : u0.leaves (State.abortWrite s point).kept := by
  refine State.leaves_trans hr ?_
  clear hr
  unfold State.abortWrite
  repeat' first
    | with_reducible exact State.leaves_refl _
    | with_reducible assumption
    | simp only [↓State.kept_ite, State.kept_mk, State.kept_eta, ite_self, ↓State.kept_foldl, ↓State.each_kept, ↓State.abortLate_kept, ↓State.quiet_kept, ↓State.setSec_kept, ↓State.drawn_kept]
    | dsimp only
    | (with_reducible apply State.leaves_fuses (h := (by first | exact SecFuses.grows_refl _ | (exact SecFuses.grows_erased _) | (simp [SecFuses.grows, rowsGrow_refl]; try omega))))
    | with_reducible apply State.leaves_each
    | with_reducible apply State.leaves_foldl_fst
    | with_reducible apply State.leaves_foldl
    | with_reducible apply State.dropDeskWrite_leaves
    | split
    | intro _

theorem State.abortLoad_leaves (s : State) {u0 : State} (hr : u0.leaves s.kept) : u0.leaves (State.abortLoad s).kept := by
  refine State.leaves_trans hr ?_
  clear hr
  unfold State.abortLoad
  repeat' first
    | with_reducible exact State.leaves_refl _
    | with_reducible assumption
    | simp only [↓State.kept_ite, State.kept_mk, State.kept_eta, ite_self, ↓State.kept_foldl, ↓State.each_kept, ↓State.abortLate_kept, ↓State.deskAborted_kept, ↓State.quiet_kept, ↓State.setSec_kept, ↓State.drawn_kept]
    | dsimp only
    | (with_reducible apply State.leaves_fuses (h := (by first | exact SecFuses.grows_refl _ | (exact SecFuses.grows_erased _) | (simp [SecFuses.grows, rowsGrow_refl]; try omega))))
    | with_reducible apply State.leaves_each
    | with_reducible apply State.leaves_foldl_fst
    | with_reducible apply State.leaves_foldl
    | with_reducible apply State.loadFails_leaves
    | split
    | intro _

theorem execAbort_leaves (a : DeskAbort) (s : State) (out : State) (h : execAbort a s = .next out) : s.leaves out.kept := by
  unfold execAbort at h
  (repeat' first | split at h | dsimp only at h) <;> first
  | (cases h; done)
  | (injection h with h; subst h
     repeat' first
       | with_reducible exact State.leaves_refl _
       | with_reducible assumption
       | simp only [↓State.kept_ite, State.kept_mk, State.kept_eta, ite_self, ↓State.kept_foldl, ↓State.each_kept, ↓State.abortFresh_kept, ↓State.abortReset_kept, ↓State.quiet_kept, ↓State.setSec_kept, ↓State.drawn_kept]
       | dsimp only
       | (with_reducible apply State.leaves_fuses (h := (by first | exact SecFuses.grows_refl _ | (exact SecFuses.grows_erased _) | (simp [SecFuses.grows, rowsGrow_refl]; try omega))))
       | with_reducible apply State.leaves_each
       | with_reducible apply State.leaves_foldl_fst
       | with_reducible apply State.leaves_foldl
       | with_reducible apply State.abortLoad_leaves
       | with_reducible apply State.abortWrite_leaves
       | split
       | intro _)

theorem State.windowReach_leaves (s : State) (n : Nat) (k : Nat) (row : Nat) (mask : Nat) (value : Nat) (und : Nat) (p : Nat × Nat) {u0 : State} (hr : u0.leaves s.kept) : u0.leaves (State.windowReach s n k row mask value und p).1.kept := by
  refine State.leaves_trans hr ?_
  clear hr
  unfold State.windowReach
  repeat' first
    | with_reducible exact State.leaves_refl _
    | with_reducible assumption
    | simp only [↓State.kept_ite, State.kept_mk, State.kept_eta, ite_self, ↓State.kept_foldl, ↓State.each_kept, ↓State.setRamPort_kept, ↓State.quiet_kept, ↓State.setSec_kept, ↓State.drawn_kept]
    | dsimp only
    | (with_reducible apply State.leaves_fuses (h := (by first | exact SecFuses.grows_refl _ | (exact SecFuses.grows_erased _) | (simp [SecFuses.grows, rowsGrow_refl]; try omega))))
    | with_reducible apply State.leaves_each
    | with_reducible apply State.leaves_foldl_fst
    | with_reducible apply State.leaves_foldl
    | with_reducible apply State.bramWrite_leaves
    | split
    | intro _

theorem execBramWindowRow_leaves (n : Fin 64) (edge : Fin 8) (s : State) (out : State) (h : execBramWindowRow n edge s = .next out) : s.leaves out.kept := by
  unfold execBramWindowRow at h
  (repeat' first | split at h | dsimp only at h) <;> first
  | (cases h; done)
  | (injection h with h; subst h
     repeat' first
       | with_reducible exact State.leaves_refl _
       | with_reducible assumption
       | simp only [↓State.kept_ite, State.kept_mk, State.kept_eta, ite_self, ↓State.kept_foldl, ↓State.each_kept, ↓State.bump_kept, ↓State.drawn_kept, ↓State.log_kept, ↓State.quiet_kept, ↓State.reply_kept, ↓State.replyData_kept, ↓State.setSec_kept]
       | dsimp only
       | (with_reducible apply State.leaves_fuses (h := (by first | exact SecFuses.grows_refl _ | (exact SecFuses.grows_erased _) | (simp [SecFuses.grows, rowsGrow_refl]; try omega))))
       | with_reducible apply State.leaves_each
       | with_reducible apply State.leaves_foldl_fst
       | with_reducible apply State.leaves_foldl
       | with_reducible apply State.windowReach_leaves
       | split
       | intro _)

theorem State.burnOne_leaves (s : State) (x : RepRec) {u0 : State} (hr : u0.leaves s.kept) : u0.leaves (s.burnOne x).kept := by
  refine State.leaves_trans hr ?_
  unfold State.burnOne
  split
  · exact State.leaves_refl _
  · simp only [↓State.jnlAsk_kept]
    refine State.leaves_fuses (State.leaves_refl _) ?_
    simp only [SecFuses.grows, rowsGrow_refl, List.prefix_append, List.length_append, List.length_singleton]
    simp; omega

theorem execBurnComplete_leaves (s : State) (out : State) (h : execBurnComplete s = .next out) : s.leaves out.kept := by
  unfold execBurnComplete at h
  (repeat' first | split at h | dsimp only at h) <;> first
  | (cases h; done)
  | (injection h with h; subst h
     repeat' first
       | with_reducible exact State.leaves_refl _
       | with_reducible assumption
       | simp only [↓State.kept_ite, State.kept_mk, State.kept_eta, ite_self, ↓State.kept_foldl, ↓State.each_kept, ↓State.clr_kept, ↓State.log_kept, ↓State.quiet_kept, ↓State.set1_kept, ↓State.showFuses_kept, ↓State.setSec_kept, ↓State.drawn_kept]
       | dsimp only
       | (with_reducible apply State.leaves_fuses (h := (by first | exact SecFuses.grows_refl _ | (exact SecFuses.grows_erased _) | (simp [SecFuses.grows, rowsGrow_refl]; try omega))))
       | with_reducible apply State.leaves_each
       | with_reducible apply State.leaves_foldl_fst
       | with_reducible apply State.leaves_foldl
       | with_reducible apply State.burnOne_leaves
       | split
       | intro _)

theorem execCheck_leaves (rq : Request) (s : State) (out : State) (h : execCheck rq s = .next out) : s.leaves out.kept := by
  unfold execCheck at h
  (repeat' first | split at h | dsimp only at h) <;> first
  | (cases h; done)
  | (injection h with h; subst h
     repeat' first
       | with_reducible exact State.leaves_refl _
       | with_reducible assumption
       | simp only [↓State.kept_ite, State.kept_mk, State.kept_eta, ite_self, ↓State.kept_foldl, ↓State.each_kept, ↓State.quiet_kept, ↓State.setTwin_kept, ↓State.setSec_kept, ↓State.drawn_kept]
       | dsimp only
       | (with_reducible apply State.leaves_fuses (h := (by first | exact SecFuses.grows_refl _ | (exact SecFuses.grows_erased _) | (simp [SecFuses.grows, rowsGrow_refl]; try omega))))
       | with_reducible apply State.leaves_each
       | with_reducible apply State.leaves_foldl_fst
       | with_reducible apply State.leaves_foldl
       | with_reducible apply State.compareCheck_leaves
       | with_reducible apply State.pairRecord_leaves
       | split
       | intro _)

theorem State.larderWritten_leaves (s : State) (ini : Ini) (v : BitVec 32) {u0 : State} (hr : u0.leaves s.kept) : u0.leaves (State.larderWritten s ini v).kept := by
  refine State.leaves_trans hr ?_
  clear hr
  unfold State.larderWritten
  repeat' first
    | with_reducible exact State.leaves_refl _
    | with_reducible assumption
    | simp only [↓State.kept_ite, State.kept_mk, State.kept_eta, ite_self, ↓State.kept_foldl, ↓State.each_kept, ↓State.quiet_kept, ↓State.setSec_kept, ↓State.drawn_kept]
    | dsimp only
    | (with_reducible apply State.leaves_fuses (h := (by first | exact SecFuses.grows_refl _ | (exact SecFuses.grows_erased _) | (simp [SecFuses.grows, rowsGrow_refl]; try omega))))
    | with_reducible apply State.leaves_each
    | with_reducible apply State.leaves_foldl_fst
    | with_reducible apply State.leaves_foldl
    | with_reducible apply State.written_leaves
    | with_reducible apply wrLarderCtl_leaves
    | split
    | intro _

theorem execClean_leaves (ini : Ini) (scope : BitVec 3) (key : BitVec 6) (slice : BitVec 7) (s : State) (out : State) (h : execClean ini scope key slice s = .next out) : s.leaves out.kept := by
  unfold execClean at h
  (repeat' first | split at h | dsimp only at h) <;> first
  | (cases h; done)
  | (injection h with h; subst h
     repeat' first
       | with_reducible exact State.leaves_refl _
       | with_reducible assumption
       | simp only [↓State.kept_ite, State.kept_mk, State.kept_eta, ite_self, ↓State.kept_foldl, ↓State.each_kept, ↓State.quiet_kept, ↓State.setSec_kept, ↓State.drawn_kept]
       | dsimp only
       | (with_reducible apply State.leaves_fuses (h := (by first | exact SecFuses.grows_refl _ | (exact SecFuses.grows_erased _) | (simp [SecFuses.grows, rowsGrow_refl]; try omega))))
       | with_reducible apply State.leaves_each
       | with_reducible apply State.leaves_foldl_fst
       | with_reducible apply State.leaves_foldl
       | with_reducible apply State.larderWritten_leaves
       | split
       | intro _)

theorem State.cleared_leaves (s : State) {u0 : State} (hr : u0.leaves s.kept) : u0.leaves s.cleared.kept :=
  State.leaves_trans hr ⟨rfl, rfl, SecFuses.grows_refl _, fun _ => rfl, fun _ => rfl, fun _ => rfl⟩

theorem State.deviceReset_leaves (s : State) (cause : Nat) {u0 : State} (hr : u0.leaves s.kept) : u0.leaves (State.deviceReset s cause).kept := by
  refine State.leaves_trans hr ?_
  clear hr
  unfold State.deviceReset
  repeat' first
    | with_reducible exact State.leaves_refl _
    | with_reducible assumption
    | simp only [↓State.kept_ite, State.kept_mk, State.kept_eta, ite_self, ↓State.kept_foldl, ↓State.each_kept, ↓State.bumpN_kept, ↓State.clr_kept, ↓State.sessionsEnd_kept, ↓State.setStart_kept, ↓State.wr_kept, ↓State.quiet_kept, ↓State.setSec_kept, ↓State.drawn_kept]
    | dsimp only
    | (with_reducible apply State.leaves_fuses (h := (by first | exact SecFuses.grows_refl _ | (exact SecFuses.grows_erased _) | (simp [SecFuses.grows, rowsGrow_refl]; try omega))))
    | with_reducible apply State.leaves_each
    | with_reducible apply State.leaves_foldl_fst
    | with_reducible apply State.leaves_foldl
    | with_reducible apply State.cleared_leaves
    | split
    | intro _

theorem execDeviceResetBegin_leaves (s : State) (out : State) (h : execDeviceResetBegin s = .next out) : s.leaves out.kept := by
  unfold execDeviceResetBegin at h
  (repeat' first | split at h | dsimp only at h) <;> first
  | (cases h; done)
  | (injection h with h; subst h
     repeat' first
       | with_reducible exact State.leaves_refl _
       | with_reducible assumption
       | simp only [↓State.kept_ite, State.kept_mk, State.kept_eta, ite_self, ↓State.kept_foldl, ↓State.each_kept, ↓State.quiet_kept, ↓State.resetDropped_kept, ↓State.setSec_kept, ↓State.drawn_kept]
       | dsimp only
       | (with_reducible apply State.leaves_fuses (h := (by first | exact SecFuses.grows_refl _ | (exact SecFuses.grows_erased _) | (simp [SecFuses.grows, rowsGrow_refl]; try omega))))
       | with_reducible apply State.leaves_each
       | with_reducible apply State.leaves_foldl_fst
       | with_reducible apply State.leaves_foldl
       | with_reducible apply State.deviceReset_leaves
       | split
       | intro _)

theorem State.configLost_leaves (s : State) (j : Nat) {u0 : State} (hr : u0.leaves s.kept) : u0.leaves (State.configLost s j).kept := by
  refine State.leaves_trans hr ?_
  clear hr
  unfold State.configLost
  repeat' first
    | with_reducible exact State.leaves_refl _
    | with_reducible assumption
    | simp only [↓State.kept_ite, State.kept_mk, State.kept_eta, ite_self, ↓State.kept_foldl, ↓State.each_kept, ↓State.setPlState_kept, ↓State.setPlTorn_kept, ↓State.quiet_kept, ↓State.setSec_kept, ↓State.drawn_kept]
    | dsimp only
    | (with_reducible apply State.leaves_fuses (h := (by first | exact SecFuses.grows_refl _ | (exact SecFuses.grows_erased _) | (simp [SecFuses.grows, rowsGrow_refl]; try omega))))
    | with_reducible apply State.leaves_each
    | with_reducible apply State.leaves_foldl_fst
    | with_reducible apply State.leaves_foldl
    | with_reducible apply State.erasePlane_leaves
    | split
    | intro _

theorem State.quarterLost_leaves (s : State) (q : Nat) {u0 : State} (hr : u0.leaves s.kept) : u0.leaves (State.quarterLost s q).kept := by
  refine State.leaves_trans hr ?_
  clear hr
  unfold State.quarterLost
  repeat' first
    | with_reducible exact State.leaves_refl _
    | with_reducible assumption
    | simp only [↓State.kept_ite, State.kept_mk, State.kept_eta, ite_self, ↓State.kept_foldl, ↓State.each_kept, ↓State.setLine_kept, ↓State.quiet_kept, ↓State.setSec_kept, ↓State.drawn_kept]
    | dsimp only
    | (with_reducible apply State.leaves_fuses (h := (by first | exact SecFuses.grows_refl _ | (exact SecFuses.grows_erased _) | (simp [SecFuses.grows, rowsGrow_refl]; try omega))))
    | with_reducible apply State.leaves_each
    | with_reducible apply State.leaves_foldl_fst
    | with_reducible apply State.leaves_foldl
    | with_reducible apply State.abortTestOf_leaves
    | split
    | intro _

theorem State.regionOff_leaves (s : State) (n : Nat) {u0 : State} (hr : u0.leaves s.kept) : u0.leaves (State.regionOff s n).kept := by
  refine State.leaves_trans hr ?_
  clear hr
  unfold State.regionOff
  repeat' first
    | with_reducible exact State.leaves_refl _
    | with_reducible assumption
    | simp only [↓State.kept_ite, State.kept_mk, State.kept_eta, ite_self, ↓State.kept_foldl, ↓State.each_kept, ↓State.abandonFill_kept, ↓State.answerInq_kept, ↓State.clearCells_kept, ↓State.clearSlices_kept, ↓State.clr_kept, ↓State.clrBit_kept, ↓State.drawn_kept, ↓State.enter_kept, ↓State.invalidateShadow_kept, ↓State.refuseWaiting_kept, ↓State.setPlActive_kept, ↓State.setPort_kept, ↓State.setRegion_kept, ↓State.quiet_kept, ↓State.setSec_kept]
    | dsimp only
    | (with_reducible apply State.leaves_fuses (h := (by first | exact SecFuses.grows_refl _ | (exact SecFuses.grows_erased _) | (simp [SecFuses.grows, rowsGrow_refl]; try omega))))
    | with_reducible apply State.leaves_each
    | with_reducible apply State.leaves_foldl_fst
    | with_reducible apply State.leaves_foldl
    | with_reducible apply State.loseBram_leaves
    | split
    | intro _

theorem State.domainOff_leaves (s : State) (d : Nat) {u0 : State} (hr : u0.leaves s.kept) : u0.leaves (State.domainOff s d).kept := by
  refine State.leaves_trans hr ?_
  clear hr
  unfold State.domainOff
  repeat' first
    | with_reducible exact State.leaves_refl _
    | with_reducible assumption
    | simp only [↓State.kept_ite, State.kept_mk, State.kept_eta, ite_self, ↓State.kept_foldl, ↓State.each_kept, ↓State.linkSettle_kept, ↓State.setDom_kept, ↓State.setDstate_kept, ↓State.quiet_kept, ↓State.setSec_kept, ↓State.drawn_kept]
    | dsimp only
    | (with_reducible apply State.leaves_fuses (h := (by first | exact SecFuses.grows_refl _ | (exact SecFuses.grows_erased _) | (simp [SecFuses.grows, rowsGrow_refl]; try omega))))
    | with_reducible apply State.leaves_each
    | with_reducible apply State.leaves_foldl_fst
    | with_reducible apply State.leaves_foldl
    | with_reducible apply State.abortTestOf_leaves
    | with_reducible apply State.configLost_leaves
    | with_reducible apply State.quarterLost_leaves
    | with_reducible apply State.regionOff_leaves
    | split
    | intro _

theorem execDomainOff_leaves (d : Fin 112) (s : State) (out : State) (h : execDomainOff d s = .next out) : s.leaves out.kept := by
  unfold execDomainOff at h
  (repeat' first | split at h | dsimp only at h) <;> first
  | (cases h; done)
  | (injection h with h; subst h
     repeat' first
       | with_reducible exact State.leaves_refl _
       | with_reducible assumption
       | simp only [↓State.kept_ite, State.kept_mk, State.kept_eta, ite_self, ↓State.kept_foldl, ↓State.each_kept, ↓State.quiet_kept, ↓State.sendWake_kept, ↓State.setDstate_kept, ↓State.wake_kept, ↓State.setSec_kept, ↓State.drawn_kept]
       | dsimp only
       | (with_reducible apply State.leaves_fuses (h := (by first | exact SecFuses.grows_refl _ | (exact SecFuses.grows_erased _) | (simp [SecFuses.grows, rowsGrow_refl]; try omega))))
       | with_reducible apply State.leaves_each
       | with_reducible apply State.leaves_foldl_fst
       | with_reducible apply State.leaves_foldl
       | with_reducible apply State.domainOff_leaves
       | split
       | intro _)

theorem execFlush_leaves (ini : Ini) (scope : BitVec 3) (key : BitVec 6) (slice : BitVec 7) (s : State) (out : State) (h : execFlush ini scope key slice s = .next out) : s.leaves out.kept := by
  unfold execFlush at h
  (repeat' first | split at h | dsimp only at h) <;> first
  | (cases h; done)
  | (injection h with h; subst h
     repeat' first
       | with_reducible exact State.leaves_refl _
       | with_reducible assumption
       | simp only [↓State.kept_ite, State.kept_mk, State.kept_eta, ite_self, ↓State.kept_foldl, ↓State.each_kept, ↓State.quiet_kept, ↓State.setSec_kept, ↓State.drawn_kept]
       | dsimp only
       | (with_reducible apply State.leaves_fuses (h := (by first | exact SecFuses.grows_refl _ | (exact SecFuses.grows_erased _) | (simp [SecFuses.grows, rowsGrow_refl]; try omega))))
       | with_reducible apply State.leaves_each
       | with_reducible apply State.leaves_foldl_fst
       | with_reducible apply State.leaves_foldl
       | with_reducible apply State.larderWritten_leaves
       | split
       | intro _)

theorem State.linkDown_leaves (s : State) (g : Nat) (cause : Nat) {u0 : State} (hr : u0.leaves s.kept) : u0.leaves (State.linkDown s g cause).kept := by
  refine State.leaves_trans hr ?_
  clear hr
  unfold State.linkDown
  repeat' first
    | with_reducible exact State.leaves_refl _
    | with_reducible assumption
    | simp only [↓State.kept_ite, State.kept_mk, State.kept_eta, ite_self, ↓State.kept_foldl, ↓State.each_kept, ↓State.bump_kept, ↓State.linkDiscards_kept, ↓State.log_kept, ↓State.retrain_kept, ↓State.setLstate_kept, ↓State.wr_kept, ↓State.quiet_kept, ↓State.setSec_kept, ↓State.drawn_kept]
    | dsimp only
    | (with_reducible apply State.leaves_fuses (h := (by first | exact SecFuses.grows_refl _ | (exact SecFuses.grows_erased _) | (simp [SecFuses.grows, rowsGrow_refl]; try omega))))
    | with_reducible apply State.leaves_each
    | with_reducible apply State.leaves_foldl_fst
    | with_reducible apply State.leaves_foldl
    | with_reducible apply State.partnerLost_leaves
    | split
    | intro _

theorem State.linkReplay_leaves (s : State) (g : Nat) (nak : Bool) {u0 : State} (hr : u0.leaves s.kept) : u0.leaves (State.linkReplay s g nak).kept := by
  refine State.leaves_trans hr ?_
  clear hr
  unfold State.linkReplay
  repeat' first
    | with_reducible exact State.leaves_refl _
    | with_reducible assumption
    | simp only [↓State.kept_ite, State.kept_mk, State.kept_eta, ite_self, ↓State.kept_foldl, ↓State.each_kept, ↓State.bump_kept, ↓State.sendSequenced_kept, ↓State.setLink_kept, ↓State.quiet_kept, ↓State.setSec_kept, ↓State.drawn_kept]
    | dsimp only
    | (with_reducible apply State.leaves_fuses (h := (by first | exact SecFuses.grows_refl _ | (exact SecFuses.grows_erased _) | (simp [SecFuses.grows, rowsGrow_refl]; try omega))))
    | with_reducible apply State.leaves_each
    | with_reducible apply State.leaves_foldl_fst
    | with_reducible apply State.leaves_foldl
    | with_reducible apply State.linkDown_leaves
    | split
    | intro _

theorem State.linkAck_leaves (s : State) (g : Nat) (ack : Nat) (nak : Bool) {u0 : State} (hr : u0.leaves s.kept) : u0.leaves (State.linkAck s g ack nak).kept := by
  refine State.leaves_trans hr ?_
  clear hr
  unfold State.linkAck
  repeat' first
    | with_reducible exact State.leaves_refl _
    | with_reducible assumption
    | simp only [↓State.kept_ite, State.kept_mk, State.kept_eta, ite_self, ↓State.kept_foldl, ↓State.each_kept, ↓State.setLink_kept, ↓State.quiet_kept, ↓State.setSec_kept, ↓State.drawn_kept]
    | dsimp only
    | (with_reducible apply State.leaves_fuses (h := (by first | exact SecFuses.grows_refl _ | (exact SecFuses.grows_erased _) | (simp [SecFuses.grows, rowsGrow_refl]; try omega))))
    | with_reducible apply State.leaves_each
    | with_reducible apply State.leaves_foldl_fst
    | with_reducible apply State.leaves_foldl
    | with_reducible apply State.linkReplay_leaves
    | split
    | intro _

theorem State.acceptFrame_leaves (s : State) (g : Nat) (h : Nat) (r : List Packet × Nat × Nat × Option Packet) {u0 : State} (hr : u0.leaves s.kept) : u0.leaves (State.acceptFrame s g h r).kept := by
  refine State.leaves_trans hr ?_
  clear hr
  unfold State.acceptFrame
  repeat' first
    | with_reducible exact State.leaves_refl _
    | with_reducible assumption
    | simp only [↓State.kept_ite, State.kept_mk, State.kept_eta, ite_self, ↓State.kept_foldl, ↓State.each_kept, ↓State.controlFrame_kept, ↓State.deliverRecord_kept, ↓State.setLink_kept, ↓State.quiet_kept, ↓State.setSec_kept, ↓State.drawn_kept]
    | dsimp only
    | (with_reducible apply State.leaves_fuses (h := (by first | exact SecFuses.grows_refl _ | (exact SecFuses.grows_erased _) | (simp [SecFuses.grows, rowsGrow_refl]; try omega))))
    | with_reducible apply State.leaves_each
    | with_reducible apply State.leaves_foldl_fst
    | with_reducible apply State.leaves_foldl
    | with_reducible apply State.linkAck_leaves
    | split
    | intro _

theorem State.goodFrame_leaves (s : State) (g : Nat) (content : List Byte) {u0 : State} (hr : u0.leaves s.kept) : u0.leaves (State.goodFrame s g content).kept := by
  refine State.leaves_trans hr ?_
  clear hr
  unfold State.goodFrame
  repeat' first
    | with_reducible exact State.leaves_refl _
    | with_reducible assumption
    | simp only [↓State.kept_ite, State.kept_mk, State.kept_eta, ite_self, ↓State.kept_foldl, ↓State.each_kept, ↓State.badFrame_kept, ↓State.controlFrame_kept, ↓State.quiet_kept, ↓State.setSec_kept, ↓State.drawn_kept]
    | dsimp only
    | (with_reducible apply State.leaves_fuses (h := (by first | exact SecFuses.grows_refl _ | (exact SecFuses.grows_erased _) | (simp [SecFuses.grows, rowsGrow_refl]; try omega))))
    | with_reducible apply State.leaves_each
    | with_reducible apply State.leaves_foldl_fst
    | with_reducible apply State.leaves_foldl
    | with_reducible apply State.acceptFrame_leaves
    | with_reducible apply State.linkAck_leaves
    | with_reducible apply State.linkDown_leaves
    | split
    | intro _

theorem execFrame_leaves (g : Fin 24) (f : RxFrame) (s : State) (out : State) (h : execFrame g f s = .next out) : s.leaves out.kept := by
  unfold execFrame at h
  (repeat' first | split at h | dsimp only at h) <;> first
  | (cases h; done)
  | (injection h with h; subst h
     repeat' first
       | with_reducible exact State.leaves_refl _
       | with_reducible assumption
       | simp only [↓State.kept_ite, State.kept_mk, State.kept_eta, ite_self, ↓State.kept_foldl, ↓State.each_kept, ↓State.badFrame_kept, ↓State.bumpN_kept, ↓State.quiet_kept, ↓State.setSec_kept, ↓State.drawn_kept]
       | dsimp only
       | (with_reducible apply State.leaves_fuses (h := (by first | exact SecFuses.grows_refl _ | (exact SecFuses.grows_erased _) | (simp [SecFuses.grows, rowsGrow_refl]; try omega))))
       | with_reducible apply State.leaves_each
       | with_reducible apply State.leaves_foldl_fst
       | with_reducible apply State.leaves_foldl
       | with_reducible apply State.goodFrame_leaves
       | split
       | intro _)

theorem State.reErase_leaves (s : State) {u0 : State} (hr : u0.leaves s.kept) : u0.leaves s.reErase.kept := by
  refine State.leaves_trans hr ?_
  have e : s.lcFuses.grows (if s.lcFuses.killed then s.lcFuses else erasedFuses s.lcFuses) := by
    split
    · exact SecFuses.grows_refl _
    · exact SecFuses.grows_erased _
  unfold State.reErase
  dsimp only
  split
  · exact State.leaves_fuses (State.leaves_refl _) e
  split
  · exact State.leaves_fuses (State.leaves_refl _)
      (SecFuses.grows_trans e ⟨rowsGrow_refl _, id, id, fun _ => rfl, Nat.le_refl _, id, List.prefix_rfl, id, rfl, rfl⟩)
  · exact State.leaves_refl _

theorem execFuseStep_leaves (ok : Bool) (s : State) (out : State) (h : execFuseStep ok s = .next out) : s.leaves out.kept := by
  unfold execFuseStep at h
  (repeat' first | split at h | dsimp only at h) <;> first
  | (cases h; done)
  | (injection h with h; subst h
     repeat' first
       | with_reducible exact State.leaves_refl _
       | with_reducible assumption
       | simp only [↓State.kept_ite, State.kept_mk, State.kept_eta, ite_self, ↓State.kept_foldl, ↓State.each_kept, ↓State.endStep_kept, ↓State.itin_kept, ↓State.log_kept, ↓State.quiet_kept, ↓State.showFuses_kept, ↓State.stopStart_kept, ↓State.setSec_kept, ↓State.drawn_kept]
       | dsimp only
       | (with_reducible apply State.leaves_fuses (h := (by first | exact SecFuses.grows_refl _ | (exact SecFuses.grows_erased _) | (simp [SecFuses.grows, rowsGrow_refl]; try omega))))
       | with_reducible apply State.leaves_each
       | with_reducible apply State.leaves_foldl_fst
       | with_reducible apply State.leaves_foldl
       | with_reducible apply State.reErase_leaves
       | split
       | intro _)

theorem State.mkeyWrite_leaves (s : State) (ini : Ini) (k : Nat) (cmd : Nat) {u0 : State} (hr : u0.leaves s.kept) : u0.leaves (State.mkeyWrite s ini k cmd).kept := by
  refine State.leaves_trans hr ?_
  clear hr
  unfold State.mkeyWrite
  repeat' first
    | with_reducible exact State.leaves_refl _
    | with_reducible assumption
    | simp only [↓State.kept_ite, State.kept_mk, State.kept_eta, ite_self, ↓State.kept_foldl, ↓State.each_kept, ↓State.deniedWrite_kept, ↓State.quiet_kept, ↓State.setSec_kept, ↓State.drawn_kept]
    | dsimp only
    | (with_reducible apply State.leaves_fuses (h := (by first | exact SecFuses.grows_refl _ | (exact SecFuses.grows_erased _) | (simp [SecFuses.grows, rowsGrow_refl]; try omega))))
    | with_reducible apply State.leaves_each
    | with_reducible apply State.leaves_foldl_fst
    | with_reducible apply State.leaves_foldl
    | with_reducible apply State.written_leaves
    | with_reducible apply wrMkeyCmd_leaves
    | split
    | intro _

theorem execGenerate_leaves (ini : Ini) (k : Fin 64) (s : State) (out : State) (h : execGenerate ini k s = .next out) : s.leaves out.kept := by
  unfold execGenerate at h
  (repeat' first | split at h | dsimp only at h) <;> first
  | (cases h; done)
  | (injection h with h; subst h
     repeat' first
       | with_reducible exact State.leaves_refl _
       | with_reducible assumption
       | simp only [↓State.kept_ite, State.kept_mk, State.kept_eta, ite_self, ↓State.kept_foldl, ↓State.each_kept, ↓State.quiet_kept, ↓State.setSec_kept, ↓State.drawn_kept]
       | dsimp only
       | (with_reducible apply State.leaves_fuses (h := (by first | exact SecFuses.grows_refl _ | (exact SecFuses.grows_erased _) | (simp [SecFuses.grows, rowsGrow_refl]; try omega))))
       | with_reducible apply State.leaves_each
       | with_reducible apply State.leaves_foldl_fst
       | with_reducible apply State.leaves_foldl
       | with_reducible apply State.mkeyWrite_leaves
       | split
       | intro _)

theorem execGlitch_leaves (s : State) (out : State) (h : execGlitch s = .next out) : s.leaves out.kept := by
  unfold execGlitch at h
  (repeat' first | split at h | dsimp only at h) <;> first
  | (cases h; done)
  | (injection h with h; subst h
     repeat' first
       | with_reducible exact State.leaves_refl _
       | with_reducible assumption
       | simp only [↓State.kept_ite, State.kept_mk, State.kept_eta, ite_self, ↓State.kept_foldl, ↓State.each_kept, ↓State.quiet_kept, ↓State.setSec_kept, ↓State.drawn_kept]
       | dsimp only
       | (with_reducible apply State.leaves_fuses (h := (by first | exact SecFuses.grows_refl _ | (exact SecFuses.grows_erased _) | (simp [SecFuses.grows, rowsGrow_refl]; try omega))))
       | with_reducible apply State.leaves_each
       | with_reducible apply State.leaves_foldl_fst
       | with_reducible apply State.leaves_foldl
       | with_reducible apply State.alarm_leaves
       | split
       | intro _)

theorem State.bodyEnds_leaves (s : State) {u0 : State} (hr : u0.leaves s.kept) : u0.leaves (State.bodyEnds s).kept := by
  refine State.leaves_trans hr ?_
  clear hr
  unfold State.bodyEnds
  repeat' first
    | with_reducible exact State.leaves_refl _
    | with_reducible assumption
    | simp only [↓State.kept_ite, State.kept_mk, State.kept_eta, ite_self, ↓State.kept_foldl, ↓State.each_kept, ↓State.wr_kept, ↓State.quiet_kept, ↓State.setSec_kept, ↓State.drawn_kept]
    | dsimp only
    | (with_reducible apply State.leaves_fuses (h := (by first | exact SecFuses.grows_refl _ | (exact SecFuses.grows_erased _) | (simp [SecFuses.grows, rowsGrow_refl]; try omega))))
    | with_reducible apply State.leaves_each
    | with_reducible apply State.leaves_foldl_fst
    | with_reducible apply State.leaves_foldl
    | with_reducible apply State.imgFail_leaves
    | split
    | intro _

theorem State.bodyMayEnd_leaves (s : State) {u0 : State} (hr : u0.leaves s.kept) : u0.leaves (State.bodyMayEnd s).kept := by
  refine State.leaves_trans hr ?_
  clear hr
  unfold State.bodyMayEnd
  repeat' first
    | with_reducible exact State.leaves_refl _
    | with_reducible assumption
    | simp only [↓State.kept_ite, State.kept_mk, State.kept_eta, ite_self, ↓State.kept_foldl, ↓State.each_kept, ↓State.quiet_kept, ↓State.setSec_kept, ↓State.drawn_kept]
    | dsimp only
    | (with_reducible apply State.leaves_fuses (h := (by first | exact SecFuses.grows_refl _ | (exact SecFuses.grows_erased _) | (simp [SecFuses.grows, rowsGrow_refl]; try omega))))
    | with_reducible apply State.leaves_each
    | with_reducible apply State.leaves_foldl_fst
    | with_reducible apply State.leaves_foldl
    | with_reducible apply State.bodyEnds_leaves
    | split
    | intro _

theorem State.slotFails_leaves (s : State) (k : Nat) {u0 : State} (hr : u0.leaves s.kept) : u0.leaves (State.slotFails s k).kept := by
  refine State.leaves_trans hr ?_
  clear hr
  unfold State.slotFails
  repeat' first
    | with_reducible exact State.leaves_refl _
    | with_reducible assumption
    | simp only [↓State.kept_ite, State.kept_mk, State.kept_eta, ite_self, ↓State.kept_foldl, ↓State.each_kept, ↓State.setSec_kept, ↓State.quiet_kept, ↓State.drawn_kept]
    | dsimp only
    | (with_reducible apply State.leaves_fuses (h := (by first | exact SecFuses.grows_refl _ | (exact SecFuses.grows_erased _) | (simp [SecFuses.grows, rowsGrow_refl]; try omega))))
    | with_reducible apply State.leaves_each
    | with_reducible apply State.leaves_foldl_fst
    | with_reducible apply State.leaves_foldl
    | with_reducible apply State.alarm_leaves
    | split
    | intro _

theorem State.checkHeader_leaves (s : State) (h : List Byte) (base : Option Nat) {u0 : State} (hr : u0.leaves s.kept) : u0.leaves (State.checkHeader s h base).kept := by
  refine State.leaves_trans hr ?_
  clear hr
  unfold State.checkHeader
  repeat' first
    | with_reducible exact State.leaves_refl _
    | with_reducible assumption
    | simp only [↓State.kept_ite, State.kept_mk, State.kept_eta, ite_self, ↓State.kept_foldl, ↓State.each_kept, ↓State.imgReject_kept, ↓State.setImg_kept, ↓State.setIstate_kept, ↓State.setSec_kept, ↓State.quiet_kept, ↓State.drawn_kept]
    | dsimp only
    | (with_reducible apply State.leaves_fuses (h := (by first | exact SecFuses.grows_refl _ | (exact SecFuses.grows_erased _) | (simp [SecFuses.grows, rowsGrow_refl]; try omega))))
    | with_reducible apply State.leaves_each
    | with_reducible apply State.leaves_foldl_fst
    | with_reducible apply State.leaves_foldl
    | with_reducible apply State.slotFails_leaves
    | split
    | intro _

theorem State.headerByte_leaves (s : State) (base : Option Nat) (b : Byte) {u0 : State} (hr : u0.leaves s.kept) : u0.leaves (State.headerByte s base b).kept := by
  refine State.leaves_trans hr ?_
  clear hr
  unfold State.headerByte
  repeat' first
    | with_reducible exact State.leaves_refl _
    | with_reducible assumption
    | simp only [↓State.kept_ite, State.kept_mk, State.kept_eta, ite_self, ↓State.kept_foldl, ↓State.each_kept, ↓State.countBytes_kept, ↓State.setImg_kept, ↓State.quiet_kept, ↓State.setSec_kept, ↓State.drawn_kept]
    | dsimp only
    | (with_reducible apply State.leaves_fuses (h := (by first | exact SecFuses.grows_refl _ | (exact SecFuses.grows_erased _) | (simp [SecFuses.grows, rowsGrow_refl]; try omega))))
    | with_reducible apply State.leaves_each
    | with_reducible apply State.leaves_foldl_fst
    | with_reducible apply State.leaves_foldl
    | with_reducible apply State.checkHeader_leaves
    | split
    | intro _

theorem State.sectionEnds_leaves (s : State) (d : List Byte) {u0 : State} (hr : u0.leaves s.kept) : u0.leaves (State.sectionEnds s d).kept := by
  refine State.leaves_trans hr ?_
  clear hr
  unfold State.sectionEnds
  repeat' first
    | with_reducible exact State.leaves_refl _
    | with_reducible assumption
    | simp only [↓State.kept_ite, State.kept_mk, State.kept_eta, ite_self, ↓State.kept_foldl, ↓State.each_kept, ↓State.setImg_kept, ↓State.quiet_kept, ↓State.setSec_kept, ↓State.drawn_kept]
    | dsimp only
    | (with_reducible apply State.leaves_fuses (h := (by first | exact SecFuses.grows_refl _ | (exact SecFuses.grows_erased _) | (simp [SecFuses.grows, rowsGrow_refl]; try omega))))
    | with_reducible apply State.leaves_each
    | with_reducible apply State.leaves_foldl_fst
    | with_reducible apply State.leaves_foldl
    | with_reducible apply State.imgFail_leaves
    | split
    | intro _

theorem State.payloadEnds_leaves (s : State) (d : List Byte) {u0 : State} (hr : u0.leaves s.kept) : u0.leaves (State.payloadEnds s d).kept := by
  refine State.leaves_trans hr ?_
  clear hr
  unfold State.payloadEnds
  repeat' first
    | with_reducible exact State.leaves_refl _
    | with_reducible assumption
    | simp only [↓State.kept_ite, State.kept_mk, State.kept_eta, ite_self, ↓State.kept_foldl, ↓State.each_kept, ↓State.quiet_kept, ↓State.setSec_kept, ↓State.drawn_kept]
    | dsimp only
    | (with_reducible apply State.leaves_fuses (h := (by first | exact SecFuses.grows_refl _ | (exact SecFuses.grows_erased _) | (simp [SecFuses.grows, rowsGrow_refl]; try omega))))
    | with_reducible apply State.leaves_each
    | with_reducible apply State.leaves_foldl_fst
    | with_reducible apply State.leaves_foldl
    | with_reducible apply State.sectionEnds_leaves
    | split
    | intro _

theorem State.takeFrame_leaves (s : State) (n : Nat) (p : Nat) (f : Nat) (data : Nat) {u0 : State} (hr : u0.leaves s.kept) : u0.leaves (State.takeFrame s n p f data).kept := by
  refine State.leaves_trans hr ?_
  clear hr
  unfold State.takeFrame
  repeat' first
    | with_reducible exact State.leaves_refl _
    | with_reducible assumption
    | simp only [↓State.kept_ite, State.kept_mk, State.kept_eta, ite_self, ↓State.kept_foldl, ↓State.each_kept, ↓State.log_kept, ↓State.quiet_kept, ↓State.setSec_kept, ↓State.drawn_kept]
    | dsimp only
    | (with_reducible apply State.leaves_fuses (h := (by first | exact SecFuses.grows_refl _ | (exact SecFuses.grows_erased _) | (simp [SecFuses.grows, rowsGrow_refl]; try omega))))
    | with_reducible apply State.leaves_each
    | with_reducible apply State.leaves_foldl_fst
    | with_reducible apply State.leaves_foldl
    | with_reducible apply State.imgFail_leaves
    | with_reducible apply State.loadFrame_leaves
    | split
    | intro _

theorem State.frameArrives_leaves (s : State) (data : Nat) {u0 : State} (hr : u0.leaves s.kept) : u0.leaves (State.frameArrives s data).kept := by
  refine State.leaves_trans hr ?_
  clear hr
  unfold State.frameArrives
  repeat' first
    | with_reducible exact State.leaves_refl _
    | with_reducible assumption
    | simp only [↓State.kept_ite, State.kept_mk, State.kept_eta, ite_self, ↓State.kept_foldl, ↓State.each_kept, ↓State.setImg_kept, ↓State.quiet_kept, ↓State.setSec_kept, ↓State.drawn_kept]
    | dsimp only
    | (with_reducible apply State.leaves_fuses (h := (by first | exact SecFuses.grows_refl _ | (exact SecFuses.grows_erased _) | (simp [SecFuses.grows, rowsGrow_refl]; try omega))))
    | with_reducible apply State.leaves_each
    | with_reducible apply State.leaves_foldl_fst
    | with_reducible apply State.leaves_foldl
    | with_reducible apply State.payloadEnds_leaves
    | with_reducible apply State.takeFrame_leaves
    | split
    | intro _

theorem State.payloadByte_leaves (s : State) (b : Byte) {u0 : State} (hr : u0.leaves s.kept) : u0.leaves (State.payloadByte s b).kept := by
  refine State.leaves_trans hr ?_
  clear hr
  unfold State.payloadByte
  repeat' first
    | with_reducible exact State.leaves_refl _
    | with_reducible assumption
    | simp only [↓State.kept_ite, State.kept_mk, State.kept_eta, ite_self, ↓State.kept_foldl, ↓State.each_kept, ↓State.setImg_kept, ↓State.quiet_kept, ↓State.setSec_kept, ↓State.drawn_kept]
    | dsimp only
    | (with_reducible apply State.leaves_fuses (h := (by first | exact SecFuses.grows_refl _ | (exact SecFuses.grows_erased _) | (simp [SecFuses.grows, rowsGrow_refl]; try omega))))
    | with_reducible apply State.leaves_each
    | with_reducible apply State.leaves_foldl_fst
    | with_reducible apply State.leaves_foldl
    | with_reducible apply State.frameArrives_leaves
    | with_reducible apply State.payloadEnds_leaves
    | split
    | intro _

theorem State.sectionBegins_leaves (s : State) (h : List Byte) {u0 : State} (hr : u0.leaves s.kept) : u0.leaves (State.sectionBegins s h).kept := by
  refine State.leaves_trans hr ?_
  clear hr
  unfold State.sectionBegins
  repeat' first
    | with_reducible exact State.leaves_refl _
    | with_reducible assumption
    | simp only [↓State.kept_ite, State.kept_mk, State.kept_eta, ite_self, ↓State.kept_foldl, ↓State.each_kept, ↓State.log_kept, ↓State.setImg_kept, ↓State.quiet_kept, ↓State.setSec_kept, ↓State.drawn_kept]
    | dsimp only
    | (with_reducible apply State.leaves_fuses (h := (by first | exact SecFuses.grows_refl _ | (exact SecFuses.grows_erased _) | (simp [SecFuses.grows, rowsGrow_refl]; try omega))))
    | with_reducible apply State.leaves_each
    | with_reducible apply State.leaves_foldl_fst
    | with_reducible apply State.leaves_foldl
    | with_reducible apply State.imgFail_leaves
    | with_reducible apply State.sectionEnds_leaves
    | split
    | intro _

theorem State.bodyByte_leaves (s : State) (b : Byte) {u0 : State} (hr : u0.leaves s.kept) : u0.leaves (State.bodyByte s b).kept := by
  refine State.leaves_trans hr ?_
  clear hr
  unfold State.bodyByte
  repeat' first
    | with_reducible exact State.leaves_refl _
    | with_reducible assumption
    | simp only [↓State.kept_ite, State.kept_mk, State.kept_eta, ite_self, ↓State.kept_foldl, ↓State.each_kept, ↓State.setImg_kept, ↓State.wr_kept, ↓State.quiet_kept, ↓State.setSec_kept, ↓State.drawn_kept]
    | dsimp only
    | (with_reducible apply State.leaves_fuses (h := (by first | exact SecFuses.grows_refl _ | (exact SecFuses.grows_erased _) | (simp [SecFuses.grows, rowsGrow_refl]; try omega))))
    | with_reducible apply State.leaves_each
    | with_reducible apply State.leaves_foldl_fst
    | with_reducible apply State.leaves_foldl
    | with_reducible apply State.payloadByte_leaves
    | with_reducible apply State.sectionBegins_leaves
    | split
    | intro _

theorem State.streamByte_leaves (s : State) (b : Byte) {u0 : State} (hr : u0.leaves s.kept) : u0.leaves (State.streamByte s b).kept := by
  refine State.leaves_trans hr ?_
  clear hr
  unfold State.streamByte
  repeat' first
    | with_reducible exact State.leaves_refl _
    | with_reducible assumption
    | simp only [↓State.kept_ite, State.kept_mk, State.kept_eta, ite_self, ↓State.kept_foldl, ↓State.each_kept, ↓State.absorb_kept, ↓State.countBytes_kept, ↓State.setImg_kept, ↓State.setIstate_kept, ↓State.quiet_kept, ↓State.setSec_kept, ↓State.drawn_kept]
    | dsimp only
    | (with_reducible apply State.leaves_fuses (h := (by first | exact SecFuses.grows_refl _ | (exact SecFuses.grows_erased _) | (simp [SecFuses.grows, rowsGrow_refl]; try omega))))
    | with_reducible apply State.leaves_each
    | with_reducible apply State.leaves_foldl_fst
    | with_reducible apply State.leaves_foldl
    | with_reducible apply State.bodyByte_leaves
    | with_reducible apply State.bodyMayEnd_leaves
    | split
    | intro _

theorem State.imgByte_leaves (s : State) (base : Option Nat) (b : Byte) {u0 : State} (hr : u0.leaves s.kept) : u0.leaves (State.imgByte s base b).kept := by
  refine State.leaves_trans hr ?_
  clear hr
  unfold State.imgByte
  repeat' first
    | with_reducible exact State.leaves_refl _
    | with_reducible assumption
    | simp only [↓State.kept_ite, State.kept_mk, State.kept_eta, ite_self, ↓State.kept_foldl, ↓State.each_kept, ↓State.set1_kept, ↓State.quiet_kept, ↓State.setSec_kept, ↓State.drawn_kept]
    | dsimp only
    | (with_reducible apply State.leaves_fuses (h := (by first | exact SecFuses.grows_refl _ | (exact SecFuses.grows_erased _) | (simp [SecFuses.grows, rowsGrow_refl]; try omega))))
    | with_reducible apply State.leaves_each
    | with_reducible apply State.leaves_foldl_fst
    | with_reducible apply State.leaves_foldl
    | with_reducible apply State.bodyMayEnd_leaves
    | with_reducible apply State.headerByte_leaves
    | with_reducible apply State.streamByte_leaves
    | split
    | intro _

theorem State.imgTake_leaves (s : State) (x : ImgIn) (data : List (Byte × Bool)) {u0 : State} (hr : u0.leaves s.kept) : u0.leaves (State.imgTake s x data).kept := by
  refine State.leaves_trans hr ?_
  clear hr
  unfold State.imgTake
  repeat' first
    | with_reducible exact State.leaves_refl _
    | with_reducible assumption
    | simp only [↓State.kept_ite, State.kept_mk, State.kept_eta, ite_self, ↓State.kept_foldl, ↓State.each_kept, ↓State.imgBegins_kept, ↓State.log_kept, ↓State.quiet_kept, ↓State.setSec_kept, ↓State.drawn_kept]
    | dsimp only
    | (with_reducible apply State.leaves_fuses (h := (by first | exact SecFuses.grows_refl _ | (exact SecFuses.grows_erased _) | (simp [SecFuses.grows, rowsGrow_refl]; try omega))))
    | with_reducible apply State.leaves_each
    | with_reducible apply State.leaves_foldl_fst
    | with_reducible apply State.leaves_foldl
    | with_reducible apply State.imgByte_leaves
    | with_reducible apply State.imgFail_leaves
    | split
    | intro _

theorem State.deliverImage_leaves (s : State) (x : ImgIn) (here : State → Nat → Bool) {u0 : State} (hr : u0.leaves s.kept) : u0.leaves (State.deliverImage s x here).kept := by
  refine State.leaves_trans hr ?_
  clear hr
  unfold State.deliverImage
  repeat' first
    | with_reducible exact State.leaves_refl _
    | with_reducible assumption
    | simp only [↓State.kept_ite, State.kept_mk, State.kept_eta, ite_self, ↓State.kept_foldl, ↓State.each_kept, ↓State.imgAnswer_kept, ↓State.quiet_kept, ↓State.setSec_kept, ↓State.drawn_kept]
    | dsimp only
    | (with_reducible apply State.leaves_fuses (h := (by first | exact SecFuses.grows_refl _ | (exact SecFuses.grows_erased _) | (simp [SecFuses.grows, rowsGrow_refl]; try omega))))
    | with_reducible apply State.leaves_each
    | with_reducible apply State.leaves_foldl_fst
    | with_reducible apply State.leaves_foldl
    | with_reducible apply State.imgTake_leaves
    | split
    | intro _

theorem execImageBytes_leaves (x : ImgIn) (s : State) (out : State) (h : execImageBytes x s = .next out) : s.leaves out.kept := by
  unfold execImageBytes at h
  (repeat' first | split at h | dsimp only at h) <;> first
  | (cases h; done)
  | (injection h with h; subst h
     repeat' first
       | with_reducible exact State.leaves_refl _
       | with_reducible assumption
       | simp only [↓State.kept_ite, State.kept_mk, State.kept_eta, ite_self, ↓State.kept_foldl, ↓State.each_kept, ↓State.quiet_kept, ↓State.setSec_kept, ↓State.drawn_kept]
       | dsimp only
       | (with_reducible apply State.leaves_fuses (h := (by first | exact SecFuses.grows_refl _ | (exact SecFuses.grows_erased _) | (simp [SecFuses.grows, rowsGrow_refl]; try omega))))
       | with_reducible apply State.leaves_each
       | with_reducible apply State.leaves_foldl_fst
       | with_reducible apply State.leaves_foldl
       | with_reducible apply State.deliverImage_leaves
       | split
       | intro _)

theorem State.applySetting_leaves (s : State) (x : Staged) (k : Nat) {u0 : State} (hr : u0.leaves s.kept) : u0.leaves (State.applySetting s x k).kept := by
  refine State.leaves_trans hr ?_
  clear hr
  unfold State.applySetting
  repeat' first
    | with_reducible exact State.leaves_refl _
    | with_reducible assumption
    | simp only [↓State.kept_ite, State.kept_mk, State.kept_eta, ite_self, ↓State.kept_foldl, ↓State.each_kept, ↓State.applyFailed_kept, ↓State.quiet_kept, ↓State.setSec_kept, ↓State.drawn_kept]
    | dsimp only
    | (with_reducible apply State.leaves_fuses (h := (by first | exact SecFuses.grows_refl _ | (exact SecFuses.grows_erased _) | (simp [SecFuses.grows, rowsGrow_refl]; try omega))))
    | with_reducible apply State.leaves_each
    | with_reducible apply State.leaves_foldl_fst
    | with_reducible apply State.leaves_foldl
    | with_reducible apply State.busWrite_leaves
    | split
    | intro _

theorem State.applyStaged_leaves (s : State) (x : Staged) {u0 : State} (hr : u0.leaves s.kept) : u0.leaves (State.applyStaged s x).kept := by
  refine State.leaves_trans hr ?_
  clear hr
  unfold State.applyStaged
  repeat' first
    | with_reducible exact State.leaves_refl _
    | with_reducible assumption
    | simp only [↓State.kept_ite, State.kept_mk, State.kept_eta, ite_self, ↓State.kept_foldl, ↓State.each_kept, ↓State.imemWrite_kept, ↓State.quiet_kept, ↓State.setSec_kept, ↓State.drawn_kept]
    | dsimp only
    | (with_reducible apply State.leaves_fuses (h := (by first | exact SecFuses.grows_refl _ | (exact SecFuses.grows_erased _) | (simp [SecFuses.grows, rowsGrow_refl]; try omega))))
    | with_reducible apply State.leaves_each
    | with_reducible apply State.leaves_foldl_fst
    | with_reducible apply State.leaves_foldl
    | with_reducible apply State.applySetting_leaves
    | split
    | intro _

theorem State.applyRun_leaves (xs : List Staged) (s : State) {u0 : State} (hr : u0.leaves s.kept) : u0.leaves (State.applyRun xs s).1.kept := by
  induction xs generalizing s with
  | nil => exact hr
  | cons x xs ih =>
    unfold State.applyRun
    split
    · dsimp only
      split
      · exact hr
      · simp only [↓State.sendBram_kept]; exact hr
    · refine ih _ ?_
      simp only [↓State.setImg_kept]
      exact State.applyStaged_leaves _ _ hr

theorem State.commitApplies_leaves (s : State) {u0 : State} (hr : u0.leaves s.kept) : u0.leaves (State.commitApplies s).kept := by
  refine State.leaves_trans hr ?_
  clear hr
  unfold State.commitApplies
  repeat' first
    | with_reducible exact State.leaves_refl _
    | with_reducible assumption
    | simp only [↓State.kept_ite, State.kept_mk, State.kept_eta, ite_self, ↓State.kept_foldl, ↓State.each_kept, ↓State.commitEnds_kept, ↓State.quiet_kept, ↓State.setSec_kept, ↓State.drawn_kept]
    | dsimp only
    | (with_reducible apply State.leaves_fuses (h := (by first | exact SecFuses.grows_refl _ | (exact SecFuses.grows_erased _) | (simp [SecFuses.grows, rowsGrow_refl]; try omega))))
    | with_reducible apply State.leaves_each
    | with_reducible apply State.leaves_foldl_fst
    | with_reducible apply State.leaves_foldl
    | with_reducible apply State.applyRun_leaves
    | split
    | intro _

theorem State.promote_leaves (s : State) {u0 : State} (hr : u0.leaves s.kept) : u0.leaves (State.promote s).kept := by
  refine State.leaves_trans hr ?_
  clear hr
  unfold State.promote
  repeat' first
    | with_reducible exact State.leaves_refl _
    | with_reducible assumption
    | simp only [↓State.kept_ite, State.kept_mk, State.kept_eta, ite_self, ↓State.kept_foldl, ↓State.each_kept, ↓State.setPlState_kept, ↓State.setPlTorn_kept, ↓State.quiet_kept, ↓State.setSec_kept, ↓State.drawn_kept]
    | dsimp only
    | (with_reducible apply State.leaves_fuses (h := (by first | exact SecFuses.grows_refl _ | (exact SecFuses.grows_erased _) | (simp [SecFuses.grows, rowsGrow_refl]; try omega))))
    | with_reducible apply State.leaves_each
    | with_reducible apply State.leaves_foldl_fst
    | with_reducible apply State.leaves_foldl
    | with_reducible apply State.erasePlane_leaves
    | split
    | intro _

theorem State.commitBegins_leaves (s : State) {u0 : State} (hr : u0.leaves s.kept) : u0.leaves (State.commitBegins s).kept := by
  refine State.leaves_trans hr ?_
  clear hr
  unfold State.commitBegins
  repeat' first
    | with_reducible exact State.leaves_refl _
    | with_reducible assumption
    | simp only [↓State.kept_ite, State.kept_mk, State.kept_eta, ite_self, ↓State.kept_foldl, ↓State.each_kept, ↓State.raiseFloor_kept, ↓State.setImg_kept, ↓State.wr_kept, ↓State.quiet_kept, ↓State.setSec_kept, ↓State.drawn_kept]
    | dsimp only
    | (with_reducible apply State.leaves_fuses (h := (by first | exact SecFuses.grows_refl _ | (exact SecFuses.grows_erased _) | (simp [SecFuses.grows, rowsGrow_refl]; try omega))))
    | with_reducible apply State.leaves_each
    | with_reducible apply State.leaves_foldl_fst
    | with_reducible apply State.leaves_foldl
    | with_reducible apply State.imgFail_leaves
    | with_reducible apply State.promote_leaves
    | split
    | intro _

theorem execImageCommit_leaves (s : State) (out : State) (h : execImageCommit s = .next out) : s.leaves out.kept := by
  unfold execImageCommit at h
  (repeat' first | split at h | dsimp only at h) <;> first
  | (cases h; done)
  | (injection h with h; subst h
     repeat' first
       | with_reducible exact State.leaves_refl _
       | with_reducible assumption
       | simp only [↓State.kept_ite, State.kept_mk, State.kept_eta, ite_self, ↓State.kept_foldl, ↓State.each_kept, ↓State.commitPowers_kept, ↓State.quiet_kept, ↓State.setSec_kept, ↓State.drawn_kept]
       | dsimp only
       | (with_reducible apply State.leaves_fuses (h := (by first | exact SecFuses.grows_refl _ | (exact SecFuses.grows_erased _) | (simp [SecFuses.grows, rowsGrow_refl]; try omega))))
       | with_reducible apply State.leaves_each
       | with_reducible apply State.leaves_foldl_fst
       | with_reducible apply State.leaves_foldl
       | with_reducible apply State.commitApplies_leaves
       | with_reducible apply State.commitBegins_leaves
       | split
       | intro _)

theorem execImageHeader_leaves (x : ImgIn) (s : State) (out : State) (h : execImageHeader x s = .next out) : s.leaves out.kept := by
  unfold execImageHeader at h
  (repeat' first | split at h | dsimp only at h) <;> first
  | (cases h; done)
  | (injection h with h; subst h
     repeat' first
       | with_reducible exact State.leaves_refl _
       | with_reducible assumption
       | simp only [↓State.kept_ite, State.kept_mk, State.kept_eta, ite_self, ↓State.kept_foldl, ↓State.each_kept, ↓State.quiet_kept, ↓State.setSec_kept, ↓State.drawn_kept]
       | dsimp only
       | (with_reducible apply State.leaves_fuses (h := (by first | exact SecFuses.grows_refl _ | (exact SecFuses.grows_erased _) | (simp [SecFuses.grows, rowsGrow_refl]; try omega))))
       | with_reducible apply State.leaves_each
       | with_reducible apply State.leaves_foldl_fst
       | with_reducible apply State.leaves_foldl
       | with_reducible apply State.deliverImage_leaves
       | split
       | intro _)

theorem execImageIdleTimeout_leaves (s : State) (out : State) (h : execImageIdleTimeout s = .next out) : s.leaves out.kept := by
  unfold execImageIdleTimeout at h
  (repeat' first | split at h | dsimp only at h) <;> first
  | (cases h; done)
  | (injection h with h; subst h
     repeat' first
       | with_reducible exact State.leaves_refl _
       | with_reducible assumption
       | simp only [↓State.kept_ite, State.kept_mk, State.kept_eta, ite_self, ↓State.kept_foldl, ↓State.each_kept, ↓State.quiet_kept, ↓State.setSec_kept, ↓State.drawn_kept]
       | dsimp only
       | (with_reducible apply State.leaves_fuses (h := (by first | exact SecFuses.grows_refl _ | (exact SecFuses.grows_erased _) | (simp [SecFuses.grows, rowsGrow_refl]; try omega))))
       | with_reducible apply State.leaves_each
       | with_reducible apply State.leaves_foldl_fst
       | with_reducible apply State.leaves_foldl
       | with_reducible apply State.imgFail_leaves
       | with_reducible apply State.loadFails_leaves
       | split
       | intro _)

theorem execImageTagCheck_leaves (s : State) (out : State) (h : execImageTagCheck s = .next out) : s.leaves out.kept := by
  unfold execImageTagCheck at h
  (repeat' first | split at h | dsimp only at h) <;> first
  | (cases h; done)
  | (injection h with h; subst h
     repeat' first
       | with_reducible exact State.leaves_refl _
       | with_reducible assumption
       | simp only [↓State.kept_ite, State.kept_mk, State.kept_eta, ite_self, ↓State.kept_foldl, ↓State.each_kept, ↓State.quiet_kept, ↓State.setIstate_kept, ↓State.setSec_kept, ↓State.drawn_kept]
       | dsimp only
       | (with_reducible apply State.leaves_fuses (h := (by first | exact SecFuses.grows_refl _ | (exact SecFuses.grows_erased _) | (simp [SecFuses.grows, rowsGrow_refl]; try omega))))
       | with_reducible apply State.leaves_each
       | with_reducible apply State.leaves_foldl_fst
       | with_reducible apply State.leaves_foldl
       | with_reducible apply State.alarm_leaves
       | with_reducible apply State.imgFail_leaves
       | split
       | intro _)

theorem execImgAbort_leaves (ini : Ini) (s : State) (out : State) (h : execImgAbort ini s = .next out) : s.leaves out.kept := by
  unfold execImgAbort at h
  (repeat' first | split at h | dsimp only at h) <;> first
  | (cases h; done)
  | (injection h with h; subst h
     repeat' first
       | with_reducible exact State.leaves_refl _
       | with_reducible assumption
       | simp only [↓State.kept_ite, State.kept_mk, State.kept_eta, ite_self, ↓State.kept_foldl, ↓State.each_kept, ↓State.deniedWrite_kept, ↓State.quiet_kept, ↓State.setSec_kept, ↓State.drawn_kept]
       | dsimp only
       | (with_reducible apply State.leaves_fuses (h := (by first | exact SecFuses.grows_refl _ | (exact SecFuses.grows_erased _) | (simp [SecFuses.grows, rowsGrow_refl]; try omega))))
       | with_reducible apply State.leaves_each
       | with_reducible apply State.leaves_foldl_fst
       | with_reducible apply State.leaves_foldl
       | with_reducible apply State.written_leaves
       | with_reducible apply wrImgCtl_leaves
       | split
       | intro _)

theorem State.scrubDark_leaves (s : State) {u0 : State} (hr : u0.leaves s.kept) : u0.leaves (State.scrubDark s).kept := by
  refine State.leaves_trans hr ?_
  clear hr
  unfold State.scrubDark
  repeat' first
    | with_reducible exact State.leaves_refl _
    | with_reducible assumption
    | simp only [↓State.kept_ite, State.kept_mk, State.kept_eta, ite_self, ↓State.kept_foldl, ↓State.each_kept, ↓State.setPlState_kept, ↓State.quiet_kept, ↓State.setSec_kept, ↓State.drawn_kept]
    | dsimp only
    | (with_reducible apply State.leaves_fuses (h := (by first | exact SecFuses.grows_refl _ | (exact SecFuses.grows_erased _) | (simp [SecFuses.grows, rowsGrow_refl]; try omega))))
    | with_reducible apply State.leaves_each
    | with_reducible apply State.leaves_foldl_fst
    | with_reducible apply State.leaves_foldl
    | with_reducible apply State.erasePlane_leaves
    | split
    | intro _

theorem execJournalStep_leaves (readable : Bool) (s : State) (out : State) (h : execJournalStep readable s = .next out) : s.leaves out.kept := by
  unfold execJournalStep at h
  (repeat' first | split at h | dsimp only at h) <;> first
  | (cases h; done)
  | (injection h with h; subst h
     repeat' first
       | with_reducible exact State.leaves_refl _
       | with_reducible assumption
       | simp only [↓State.kept_ite, State.kept_mk, State.kept_eta, ite_self, ↓State.kept_foldl, ↓State.each_kept, ↓State.countStart_kept, ↓State.endStep_kept, ↓State.itin_kept, ↓State.logLoss_kept, ↓State.quiet_kept, ↓State.readJournal_kept, ↓State.setStart_kept, ↓State.wr_kept, ↓State.setSec_kept, ↓State.drawn_kept]
       | dsimp only
       | (with_reducible apply State.leaves_fuses (h := (by first | exact SecFuses.grows_refl _ | (exact SecFuses.grows_erased _) | (simp [SecFuses.grows, rowsGrow_refl]; try omega))))
       | with_reducible apply State.leaves_each
       | with_reducible apply State.leaves_foldl_fst
       | with_reducible apply State.leaves_foldl
       | with_reducible apply State.jnlLocks_leaves
       | with_reducible apply State.scrubDark_leaves
       | split
       | intro _)

theorem State.putRecord_leaves (s : State) (b : JBody) {u0 : State} (hr : u0.leaves s.kept) : u0.leaves (State.putRecord s b).kept := by
  refine State.leaves_trans hr ?_
  clear hr
  unfold State.putRecord
  repeat' first
    | with_reducible exact State.leaves_refl _
    | with_reducible assumption
    | simp only [↓State.kept_ite, State.kept_mk, State.kept_eta, ite_self, ↓State.kept_foldl, ↓State.each_kept, ↓State.jnlWrite_kept, ↓State.quiet_kept, ↓State.setSec_kept, ↓State.drawn_kept]
    | dsimp only
    | (with_reducible apply State.leaves_fuses (h := (by first | exact SecFuses.grows_refl _ | (exact SecFuses.grows_erased _) | (simp [SecFuses.grows, rowsGrow_refl]; try omega))))
    | with_reducible apply State.leaves_each
    | with_reducible apply State.leaves_foldl_fst
    | with_reducible apply State.leaves_foldl
    | with_reducible apply State.copyForward_leaves
    | with_reducible apply State.wearSector_leaves
    | split
    | intro _

theorem State.writeEvent_leaves (s : State) (e : GbEntry) (rest : List GbEntry) {u0 : State} (hr : u0.leaves s.kept) : u0.leaves (State.writeEvent s e rest).kept := by
  refine State.leaves_trans hr ?_
  clear hr
  unfold State.writeEvent
  repeat' first
    | with_reducible exact State.leaves_refl _
    | with_reducible assumption
    | simp only [↓State.kept_ite, State.kept_mk, State.kept_eta, ite_self, ↓State.kept_foldl, ↓State.each_kept, ↓State.bumpN_kept, ↓State.incr_kept, ↓State.set1_kept, ↓State.trimRing_kept, ↓State.quiet_kept, ↓State.setSec_kept, ↓State.drawn_kept]
    | dsimp only
    | (with_reducible apply State.leaves_fuses (h := (by first | exact SecFuses.grows_refl _ | (exact SecFuses.grows_erased _) | (simp [SecFuses.grows, rowsGrow_refl]; try omega))))
    | with_reducible apply State.leaves_each
    | with_reducible apply State.leaves_foldl_fst
    | with_reducible apply State.leaves_foldl
    | with_reducible apply State.putRecord_leaves
    | split
    | intro _

theorem State.writeOne_leaves (s : State) (w : JWrite) (rest : List JWrite) {u0 : State} (hr : u0.leaves s.kept) : u0.leaves (State.writeOne s w rest).kept := by
  refine State.leaves_trans hr ?_
  clear hr
  unfold State.writeOne
  repeat' first
    | with_reducible exact State.leaves_refl _
    | with_reducible assumption
    | simp only [↓State.kept_ite, State.kept_mk, State.kept_eta, ite_self, ↓State.kept_foldl, ↓State.each_kept, ↓State.countMapout_kept, ↓State.deskWritten_kept, ↓State.recordShown_kept, ↓State.quiet_kept, ↓State.setSec_kept, ↓State.drawn_kept]
    | dsimp only
    | (with_reducible apply State.leaves_fuses (h := (by first | exact SecFuses.grows_refl _ | (exact SecFuses.grows_erased _) | (simp [SecFuses.grows, rowsGrow_refl]; try omega))))
    | with_reducible apply State.leaves_each
    | with_reducible apply State.leaves_foldl_fst
    | with_reducible apply State.leaves_foldl
    | with_reducible apply State.putRecord_leaves
    | split
    | intro _

theorem State.writeRecord_leaves (s : State) (w : JWrite) (x2 : List JWrite) {u0 : State} (hr : u0.leaves s.kept) : u0.leaves (State.writeRecord s w x2).kept := by
  refine State.leaves_trans hr ?_
  clear hr
  unfold State.writeRecord
  repeat' first
    | with_reducible exact State.leaves_refl _
    | with_reducible assumption
    | simp only [↓State.kept_ite, State.kept_mk, State.kept_eta, ite_self, ↓State.kept_foldl, ↓State.each_kept, ↓State.quiet_kept, ↓State.setSec_kept, ↓State.drawn_kept]
    | dsimp only
    | (with_reducible apply State.leaves_fuses (h := (by first | exact SecFuses.grows_refl _ | (exact SecFuses.grows_erased _) | (simp [SecFuses.grows, rowsGrow_refl]; try omega))))
    | with_reducible apply State.leaves_each
    | with_reducible apply State.leaves_foldl_fst
    | with_reducible apply State.leaves_foldl
    | with_reducible apply State.writeOne_leaves
    | split
    | intro _

theorem State.jnlNext_leaves (s : State) {u0 : State} (hr : u0.leaves s.kept) : u0.leaves (State.jnlNext s).kept := by
  refine State.leaves_trans hr ?_
  clear hr
  unfold State.jnlNext
  repeat' first
    | with_reducible exact State.leaves_refl _
    | with_reducible assumption
    | simp only [↓State.kept_ite, State.kept_mk, State.kept_eta, ite_self, ↓State.kept_foldl, ↓State.each_kept, ↓State.quiet_kept, ↓State.setSec_kept, ↓State.drawn_kept]
    | dsimp only
    | (with_reducible apply State.leaves_fuses (h := (by first | exact SecFuses.grows_refl _ | (exact SecFuses.grows_erased _) | (simp [SecFuses.grows, rowsGrow_refl]; try omega))))
    | with_reducible apply State.leaves_each
    | with_reducible apply State.leaves_foldl_fst
    | with_reducible apply State.leaves_foldl
    | with_reducible apply State.writeEvent_leaves
    | with_reducible apply State.writeRecord_leaves
    | split
    | intro _

theorem execJournalWriteComplete_leaves (s : State) (out : State) (h : execJournalWriteComplete s = .next out) : s.leaves out.kept := by
  unfold execJournalWriteComplete at h
  (repeat' first | split at h | dsimp only at h) <;> first
  | (cases h; done)
  | (injection h with h; subst h
     repeat' first
       | with_reducible exact State.leaves_refl _
       | with_reducible assumption
       | simp only [↓State.kept_ite, State.kept_mk, State.kept_eta, ite_self, ↓State.kept_foldl, ↓State.each_kept, ↓State.quiet_kept, ↓State.setSec_kept, ↓State.drawn_kept]
       | dsimp only
       | (with_reducible apply State.leaves_fuses (h := (by first | exact SecFuses.grows_refl _ | (exact SecFuses.grows_erased _) | (simp [SecFuses.grows, rowsGrow_refl]; try omega))))
       | with_reducible apply State.leaves_each
       | with_reducible apply State.leaves_foldl_fst
       | with_reducible apply State.leaves_foldl
       | with_reducible apply State.jnlNext_leaves
       | split
       | intro _)

theorem State.loadWrapped_leaves (s : State) (slot : Nat) (parent : Nat) (blob : Nat) {u0 : State} (hr : u0.leaves s.kept) : u0.leaves (State.loadWrapped s slot parent blob).kept := by
  refine State.leaves_trans hr ?_
  clear hr
  unfold State.loadWrapped
  repeat' first
    | with_reducible exact State.leaves_refl _
    | with_reducible assumption
    | simp only [↓State.kept_ite, State.kept_mk, State.kept_eta, ite_self, ↓State.kept_foldl, ↓State.each_kept, ↓State.changeSlot_kept, ↓State.set1_kept, ↓State.quiet_kept, ↓State.setSec_kept, ↓State.drawn_kept]
    | dsimp only
    | (with_reducible apply State.leaves_fuses (h := (by first | exact SecFuses.grows_refl _ | (exact SecFuses.grows_erased _) | (simp [SecFuses.grows, rowsGrow_refl]; try omega))))
    | with_reducible apply State.leaves_each
    | with_reducible apply State.leaves_foldl_fst
    | with_reducible apply State.leaves_foldl
    | with_reducible apply State.alarm_leaves
    | with_reducible apply State.slotFails_leaves
    | split
    | intro _

theorem execKeyCmdComplete_leaves (s : State) (out : State) (h : execKeyCmdComplete s = .next out) : s.leaves out.kept := by
  unfold execKeyCmdComplete at h
  (repeat' first | split at h | dsimp only at h) <;> first
  | (cases h; done)
  | (injection h with h; subst h
     repeat' first
       | with_reducible exact State.leaves_refl _
       | with_reducible assumption
       | simp only [↓State.kept_ite, State.kept_mk, State.kept_eta, ite_self, ↓State.kept_foldl, ↓State.each_kept, ↓State.changeSlot_kept, ↓State.clr_kept, ↓State.quiet_kept, ↓State.set1_kept, ↓State.setSec_kept, ↓State.drawn_kept]
       | dsimp only
       | (with_reducible apply State.leaves_fuses (h := (by first | exact SecFuses.grows_refl _ | (exact SecFuses.grows_erased _) | (simp [SecFuses.grows, rowsGrow_refl]; try omega))))
       | with_reducible apply State.leaves_each
       | with_reducible apply State.leaves_foldl_fst
       | with_reducible apply State.leaves_foldl
       | with_reducible apply State.loadWrapped_leaves
       | split
       | intro _)

theorem State.takeWay_leaves (s : State) (k l : Nat) (u : State) (w : Nat) (h : s.takeWay k l = some (u, w)) {u0 : State} (hr : u0.leaves s.kept) :
    u0.leaves u.kept := by
  unfold State.takeWay at h
  split at h
  · cases h
  generalize List.range 16 = r at h
  dsimp only at h
  split at h
  · cases h; exact hr
  · split at h
    · cases h
    · simp only [Option.some.injEq, Prod.mk.injEq] at h
      rw [← h.1]
      simp only [↓State.setLine_kept]
      split
      · exact State.sendWb_leaves _ _ _ _ _ _ hr
      · exact hr

theorem State.startMiss_leaves (s : State) (k l : Nat) (rq : Request) (u : State) (h : s.startMiss k l rq = some u) {u0 : State} (hr : u0.leaves s.kept) :
    u0.leaves u.kept := by
  unfold State.startMiss at h
  (repeat' first | split at h | dsimp only at h) <;> cases h
  simp only [↓State.setSlice_kept]
  exact State.takeWay_leaves _ _ _ _ _ ‹_› hr

theorem State.beginFetch_leaves (s : State) (k l : Nat) (rq : Request) (u : State) (h : s.beginFetch k l rq = some u) {u0 : State} (hr : u0.leaves s.kept) :
    u0.leaves u.kept := by
  unfold State.beginFetch at h
  split at h
  · rw [State.startPeek_kept _ _ _ _ _ h]; exact hr
  · exact State.startMiss_leaves _ _ _ _ _ h hr

theorem State.readHit_leaves (s : State) (k l : Nat) (x : Line) (rq : Request) (u : State) (h : s.readHit k l x rq = some u) {u0 : State}
    (hr : u0.leaves s.kept) : u0.leaves u.kept := by
  unfold State.readHit at h
  dsimp only at h
  split at h
  · cases h
  · cases h
    simp only [↓State.replyData_kept]
    split
    · exact State.countRead_leaves _ _ _ _ hr
    · simp only [↓State.touch_kept]; exact State.countRead_leaves _ _ _ _ hr

theorem State.writeHit_leaves (s : State) (k : Nat) (l : Nat) (x : Line) (rq : Request) {u0 : State} (hr : u0.leaves s.kept) : u0.leaves (State.writeHit s k l x rq).kept := by
  refine State.leaves_trans hr ?_
  clear hr
  unfold State.writeHit
  repeat' first
    | with_reducible exact State.leaves_refl _
    | with_reducible assumption
    | simp only [↓State.kept_ite, State.kept_mk, State.kept_eta, ite_self, ↓State.kept_foldl, ↓State.each_kept, ↓State.reply_kept, ↓State.setLine_kept, ↓State.touch_kept, ↓State.quiet_kept, ↓State.setSec_kept, ↓State.drawn_kept]
    | dsimp only
    | (with_reducible apply State.leaves_fuses (h := (by first | exact SecFuses.grows_refl _ | (exact SecFuses.grows_erased _) | (simp [SecFuses.grows, rowsGrow_refl]; try omega))))
    | with_reducible apply State.leaves_each
    | with_reducible apply State.leaves_foldl_fst
    | with_reducible apply State.leaves_foldl
    | with_reducible apply State.sendWb_leaves
    | with_reducible apply State.storeBytes_leaves
    | split
    | intro _

theorem State.sliceServe_leaves (s : State) (k : Nat) (rq : Request) (u : State) (h : s.sliceServe k rq = some u) {u0 : State} (hr : u0.leaves s.kept) :
    u0.leaves u.kept := by
  unfold State.sliceServe at h
  (repeat' first | split at h | dsimp only at h) <;> first
    | (cases h; done)
    | (cases h; exact hr)
    | (cases h; simp only [↓State.reply_kept, ↓State.setSlice_kept]; exact hr)
    | (cases h; exact State.writeHit_leaves _ _ _ _ _ hr)
    | (cases h; exact State.writeHit_leaves _ _ _ _ _ (State.takeWay_leaves _ _ _ _ _ ‹_› hr))
    | (exact State.readHit_leaves _ _ _ _ _ _ h hr)
    | (cases h; exact State.readHit_leaves _ _ _ _ _ _ ‹_› hr)
    | (refine State.beginFetch_leaves _ _ _ _ _ h ?_; simp only [↓State.bump_kept, ↓State.setLine_kept]; exact hr)
    | exact State.beginFetch_leaves _ _ _ _ _ h hr

theorem State.afterPeek_leaves (k : Nat) (a : FillAns) (s : State) (rq : Request) (u : State) (h : State.afterPeek k a s rq = some u) {u0 : State}
    (hr : u0.leaves s.kept) : u0.leaves u.kept := by
  unfold State.afterPeek at h
  dsimp only at h
  split at h
  · exact State.sliceServe_leaves _ _ _ _ h hr
  · cases h; simp only [↓State.replyData_kept]; exact hr

theorem State.drainSlice_leaves (s : State) (k n : Nat) {u0 : State} (hr : u0.leaves s.kept) : u0.leaves (s.drainSlice k n).kept := by
  induction n generalizing s with
  | zero => exact hr
  | succ n ih =>
    unfold State.drainSlice
    split
    · exact hr
    · split
      · refine ih _ (State.sliceServe_leaves _ _ _ _ ‹_› ?_)
        simp only [↓State.setSlice_kept]; exact hr
      · exact hr

theorem State.drainAll_leaves (s : State) (k : Nat) {u0 : State} (hr : u0.leaves s.kept) : u0.leaves (State.drainAll s k).kept := by
  refine State.leaves_trans hr ?_
  clear hr
  unfold State.drainAll
  repeat' first
    | with_reducible exact State.leaves_refl _
    | with_reducible assumption
    | simp only [↓State.kept_ite, State.kept_mk, State.kept_eta, ite_self, ↓State.kept_foldl, ↓State.each_kept, ↓State.quiet_kept, ↓State.setSec_kept, ↓State.drawn_kept]
    | dsimp only
    | (with_reducible apply State.leaves_fuses (h := (by first | exact SecFuses.grows_refl _ | (exact SecFuses.grows_erased _) | (simp [SecFuses.grows, rowsGrow_refl]; try omega))))
    | with_reducible apply State.leaves_each
    | with_reducible apply State.leaves_foldl_fst
    | with_reducible apply State.leaves_foldl
    | with_reducible apply State.drainSlice_leaves
    | split
    | intro _

theorem execLarderFill_leaves (l : BitVec 35) (s out : State) (h : execLarderFill l s = .next out) : s.leaves out.kept := by
  unfold execLarderFill at h
  (repeat' first | split at h | dsimp only at h) <;> injection h with h <;> subst h
  · exact State.leaves_refl _
  · exact State.leaves_refl _
  · exact State.leaves_refl _
  · apply State.drainAll_leaves
    apply State.leaves_foldl
    · intro a rq; simp only [↓State.reply_kept]; exact State.leaves_refl _
    · simp only [↓State.setSlice_kept, ↓State.quiet_kept]; exact State.leaves_refl _
  · apply State.drainAll_leaves
    apply State.afterFill_leaves
    · intro a rq u e; exact State.afterPeek_leaves _ _ _ _ _ e (State.leaves_refl _)
    · simp only [↓State.setSlice_kept, ↓State.quiet_kept]; exact State.leaves_refl _
  · apply State.drainAll_leaves
    apply State.afterFill_leaves
    · intro a rq u e; exact State.sliceServe_leaves _ _ _ _ e (State.leaves_refl _)
    · simp only [↓State.touch_kept]
      apply State.afterStore_leaves
      simp only [↓State.bumpN_kept, ↓State.setLine_kept, ↓State.setSlice_kept, ↓State.quiet_kept]; exact State.leaves_refl _

theorem State.sliceRequest_leaves (s : State) (k : Nat) (rq : Request) {u0 : State} (hr : u0.leaves s.kept) : u0.leaves (s.sliceRequest k rq).kept := by
  unfold State.sliceRequest
  extract_lets _ x wait
  have e : x.kept = s.kept := by
    show State.kept (if _ then _ else _) = _
    split <;> rfl
  have hx : u0.leaves x.kept := by rw [e]; exact hr
  split
  · show u0.leaves (State.setSlice x k _).kept; rw [State.setSlice_kept]; exact hx
  · split
    · exact State.sliceServe_leaves _ _ _ _ ‹_› hx
    · show u0.leaves (State.setSlice x k _).kept; rw [State.setSlice_kept]; exact hx

theorem State.larderRequest_leaves (s : State) (rq : Request) {u0 : State} (hr : u0.leaves s.kept) : u0.leaves (State.larderRequest s rq).kept := by
  refine State.leaves_trans hr ?_
  clear hr
  unfold State.larderRequest
  repeat' first
    | with_reducible exact State.leaves_refl _
    | with_reducible assumption
    | simp only [↓State.kept_ite, State.kept_mk, State.kept_eta, ite_self, ↓State.kept_foldl, ↓State.each_kept, ↓State.reply_kept, ↓State.quiet_kept, ↓State.setSec_kept, ↓State.drawn_kept]
    | dsimp only
    | (with_reducible apply State.leaves_fuses (h := (by first | exact SecFuses.grows_refl _ | (exact SecFuses.grows_erased _) | (simp [SecFuses.grows, rowsGrow_refl]; try omega))))
    | with_reducible apply State.leaves_each
    | with_reducible apply State.leaves_foldl_fst
    | with_reducible apply State.leaves_foldl
    | with_reducible apply State.sliceRequest_leaves
    | split
    | intro _

theorem execLarderRead_leaves (rq : Request) (s : State) (out : State) (h : execLarderRead rq s = .next out) : s.leaves out.kept := by
  unfold execLarderRead at h
  (repeat' first | split at h | dsimp only at h) <;> first
  | (cases h; done)
  | (injection h with h; subst h
     repeat' first
       | with_reducible exact State.leaves_refl _
       | with_reducible assumption
       | simp only [↓State.kept_ite, State.kept_mk, State.kept_eta, ite_self, ↓State.kept_foldl, ↓State.each_kept, ↓State.quiet_kept, ↓State.setSec_kept, ↓State.drawn_kept]
       | dsimp only
       | (with_reducible apply State.leaves_fuses (h := (by first | exact SecFuses.grows_refl _ | (exact SecFuses.grows_erased _) | (simp [SecFuses.grows, rowsGrow_refl]; try omega))))
       | with_reducible apply State.leaves_each
       | with_reducible apply State.leaves_foldl_fst
       | with_reducible apply State.leaves_foldl
       | with_reducible apply State.larderRequest_leaves
       | split
       | intro _)

theorem execLarderWrite_leaves (rq : Request) (s : State) (out : State) (h : execLarderWrite rq s = .next out) : s.leaves out.kept := by
  unfold execLarderWrite at h
  (repeat' first | split at h | dsimp only at h) <;> first
  | (cases h; done)
  | (injection h with h; subst h
     repeat' first
       | with_reducible exact State.leaves_refl _
       | with_reducible assumption
       | simp only [↓State.kept_ite, State.kept_mk, State.kept_eta, ite_self, ↓State.kept_foldl, ↓State.each_kept, ↓State.quiet_kept, ↓State.setSec_kept, ↓State.drawn_kept]
       | dsimp only
       | (with_reducible apply State.leaves_fuses (h := (by first | exact SecFuses.grows_refl _ | (exact SecFuses.grows_erased _) | (simp [SecFuses.grows, rowsGrow_refl]; try omega))))
       | with_reducible apply State.leaves_each
       | with_reducible apply State.leaves_foldl_fst
       | with_reducible apply State.leaves_foldl
       | with_reducible apply State.larderRequest_leaves
       | split
       | intro _)

theorem execLarderWritebackAnswer_leaves (l : BitVec 35) (s : State) (out : State) (h : execLarderWritebackAnswer l s = .next out) : s.leaves out.kept := by
  unfold execLarderWritebackAnswer at h
  (repeat' first | split at h | dsimp only at h) <;> first
  | (cases h; done)
  | (injection h with h; subst h
     repeat' first
       | with_reducible exact State.leaves_refl _
       | with_reducible assumption
       | simp only [↓State.kept_ite, State.kept_mk, State.kept_eta, ite_self, ↓State.kept_foldl, ↓State.each_kept, ↓State.quiet_kept, ↓State.setFirstWb_kept, ↓State.wbLost_kept, ↓State.setSec_kept, ↓State.drawn_kept]
       | dsimp only
       | (with_reducible apply State.leaves_fuses (h := (by first | exact SecFuses.grows_refl _ | (exact SecFuses.grows_erased _) | (simp [SecFuses.grows, rowsGrow_refl]; try omega))))
       | with_reducible apply State.leaves_each
       | with_reducible apply State.leaves_foldl_fst
       | with_reducible apply State.leaves_foldl
       | with_reducible apply State.drainAll_leaves
       | split
       | intro _)

theorem State.advanced_leaves (s : State) (target : Nat) (cap : Bool) {u0 : State} (hr : u0.leaves s.kept) : u0.leaves (s.advanced target cap).kept := by
  refine State.leaves_trans hr ?_
  unfold State.advanced
  dsimp only
  have n := nextEpoch_grows s.lcFuses.epoch
  have b := fun {k : Nat} (hk : k < 6) => rowsGrow_burn s.lcFuses hk
  split
  · simp only [↓State.drawn_kept]
    exact State.leaves_fuses (State.leaves_refl _) ⟨b (by decide), id, id, id, Nat.le_refl _, id, List.prefix_rfl, id, rfl, rfl⟩
  · simp only [↓State.dropSessions_kept, ↓State.voidSlots_kept]
    exact State.leaves_fuses (State.leaves_refl _) ⟨b (by decide), id, id, id, n.1, n.2, List.prefix_rfl, id, rfl, rfl⟩
  · exact State.leaves_fuses (State.leaves_refl _)
      ⟨b (by decide), fun h => by simp [h], id, id, Nat.le_refl _, id, List.prefix_rfl, id, rfl, rfl⟩
  · apply State.respond_leaves
    exact State.leaves_fuses (State.leaves_refl _) (SecFuses.grows_burn _ (by decide))
  · refine State.leaves_fuses (State.respond_leaves _ 4 ?_) ?_
    · exact State.leaves_fuses (State.leaves_refl _) (SecFuses.grows_burn _ (by decide))
    · exact ⟨rowsGrow_refl _, id, id, fun _ => rfl, Nat.le_refl _, id, List.prefix_rfl, id, rfl, rfl⟩

theorem execLcAdvanced_leaves (s : State) (out : State) (h : execLcAdvanced s = .next out) : s.leaves out.kept := by
  unfold execLcAdvanced at h
  (repeat' first | split at h | dsimp only at h) <;> first
  | (cases h; done)
  | (injection h with h; subst h
     repeat' first
       | with_reducible exact State.leaves_refl _
       | with_reducible assumption
       | simp only [↓State.kept_ite, State.kept_mk, State.kept_eta, ite_self, ↓State.kept_foldl, ↓State.each_kept, ↓State.clr_kept, ↓State.log_kept, ↓State.quiet_kept, ↓State.setSec_kept, ↓State.drawn_kept]
       | dsimp only
       | (with_reducible apply State.leaves_fuses (h := (by first | exact SecFuses.grows_refl _ | (exact SecFuses.grows_erased _) | (simp [SecFuses.grows, rowsGrow_refl]; try omega))))
       | with_reducible apply State.leaves_each
       | with_reducible apply State.leaves_foldl_fst
       | with_reducible apply State.leaves_foldl
       | with_reducible apply State.advanced_leaves
       | with_reducible apply State.respond_leaves
       | split
       | intro _)

theorem execLossOfSignal_leaves (g : Fin 24) (lane : Fin 16) (lock : Bool) (s : State) (out : State) (h : execLossOfSignal g lane lock s = .next out) : s.leaves out.kept := by
  unfold execLossOfSignal at h
  (repeat' first | split at h | dsimp only at h) <;> first
  | (cases h; done)
  | (injection h with h; subst h
     repeat' first
       | with_reducible exact State.leaves_refl _
       | with_reducible assumption
       | simp only [↓State.kept_ite, State.kept_mk, State.kept_eta, ite_self, ↓State.kept_foldl, ↓State.each_kept, ↓State.clrBit_kept, ↓State.quiet_kept, ↓State.setSec_kept, ↓State.drawn_kept]
       | dsimp only
       | (with_reducible apply State.leaves_fuses (h := (by first | exact SecFuses.grows_refl _ | (exact SecFuses.grows_erased _) | (simp [SecFuses.grows, rowsGrow_refl]; try omega))))
       | with_reducible apply State.leaves_each
       | with_reducible apply State.leaves_foldl_fst
       | with_reducible apply State.leaves_foldl
       | with_reducible apply State.linkDown_leaves
       | split
       | intro _)

theorem State.testEnds_leaves (s : State) (e : Nat) (kind : Nat) (unit : Nat) (result : Nat) {u0 : State} (hr : u0.leaves s.kept) : u0.leaves (State.testEnds s e kind unit result).kept := by
  refine State.leaves_trans hr ?_
  clear hr
  unfold State.testEnds
  repeat' first
    | with_reducible exact State.leaves_refl _
    | with_reducible assumption
    | simp only [↓State.kept_ite, State.kept_mk, State.kept_eta, ite_self, ↓State.kept_foldl, ↓State.each_kept, ↓State.clr_kept, ↓State.heldPower_kept, ↓State.itin_kept, ↓State.set1_kept, ↓State.setEngine_kept, ↓State.testUnitEnds_kept, ↓State.wr_kept, ↓State.quiet_kept, ↓State.setSec_kept, ↓State.drawn_kept]
    | dsimp only
    | (with_reducible apply State.leaves_fuses (h := (by first | exact SecFuses.grows_refl _ | (exact SecFuses.grows_erased _) | (simp [SecFuses.grows, rowsGrow_refl]; try omega))))
    | with_reducible apply State.leaves_each
    | with_reducible apply State.leaves_foldl_fst
    | with_reducible apply State.leaves_foldl
    | with_reducible apply State.testLeaves_leaves
    | split
    | intro _

theorem State.testFailed_leaves (s : State) (e : Nat) (kind : Nat) (unit : Nat) (used : Nat) {u0 : State} (hr : u0.leaves s.kept) : u0.leaves (State.testFailed s e kind unit used).kept := by
  refine State.leaves_trans hr ?_
  clear hr
  unfold State.testFailed
  repeat' first
    | with_reducible exact State.leaves_refl _
    | with_reducible assumption
    | simp only [↓State.kept_ite, State.kept_mk, State.kept_eta, ite_self, ↓State.kept_foldl, ↓State.each_kept, ↓State.jnlAskBy_kept, ↓State.log_kept, ↓State.set1_kept, ↓State.wr_kept, ↓State.quiet_kept, ↓State.setSec_kept, ↓State.drawn_kept]
    | dsimp only
    | (with_reducible apply State.leaves_fuses (h := (by first | exact SecFuses.grows_refl _ | (exact SecFuses.grows_erased _) | (simp [SecFuses.grows, rowsGrow_refl]; try omega))))
    | with_reducible apply State.leaves_each
    | with_reducible apply State.leaves_foldl_fst
    | with_reducible apply State.leaves_foldl
    | with_reducible apply State.testEnds_leaves
    | split
    | intro _

theorem State.testRepaired_leaves (s : State) (e : Nat) (kind : Nat) (unit : Nat) (xs : List (Nat × Alloc)) {u0 : State} (hr : u0.leaves s.kept) : u0.leaves (State.testRepaired s e kind unit xs).kept := by
  refine State.leaves_trans hr ?_
  clear hr
  unfold State.testRepaired
  repeat' first
    | with_reducible exact State.leaves_refl _
    | with_reducible assumption
    | simp only [↓State.kept_ite, State.kept_mk, State.kept_eta, ite_self, ↓State.kept_foldl, ↓State.each_kept, ↓State.log_kept, ↓State.saveSoft_kept, ↓State.set1_kept, ↓State.steer_kept, ↓State.wr_kept, ↓State.quiet_kept, ↓State.setSec_kept, ↓State.drawn_kept]
    | dsimp only
    | (with_reducible apply State.leaves_fuses (h := (by first | exact SecFuses.grows_refl _ | (exact SecFuses.grows_erased _) | (simp [SecFuses.grows, rowsGrow_refl]; try omega))))
    | with_reducible apply State.leaves_each
    | with_reducible apply State.leaves_foldl_fst
    | with_reducible apply State.leaves_foldl
    | with_reducible apply State.testEnds_leaves
    | split
    | intro _

theorem State.testDone_leaves (s : State) (e : Nat) (kind : Nat) (unit : Nat) (fails : List FailLoc) (bad : List (Bool × Nat × Nat)) {u0 : State} (hr : u0.leaves s.kept) : u0.leaves (State.testDone s e kind unit fails bad).kept := by
  refine State.leaves_trans hr ?_
  clear hr
  unfold State.testDone
  repeat' first
    | with_reducible exact State.leaves_refl _
    | with_reducible assumption
    | simp only [↓State.kept_ite, State.kept_mk, State.kept_eta, ite_self, ↓State.kept_foldl, ↓State.each_kept, ↓State.markSpare_kept, ↓State.setEngine_kept, ↓State.wr_kept, ↓State.quiet_kept, ↓State.setSec_kept, ↓State.drawn_kept]
    | dsimp only
    | (with_reducible apply State.leaves_fuses (h := (by first | exact SecFuses.grows_refl _ | (exact SecFuses.grows_erased _) | (simp [SecFuses.grows, rowsGrow_refl]; try omega))))
    | with_reducible apply State.leaves_each
    | with_reducible apply State.leaves_foldl_fst
    | with_reducible apply State.leaves_foldl
    | with_reducible apply State.testEnds_leaves
    | with_reducible apply State.testFailed_leaves
    | with_reducible apply State.testRepaired_leaves
    | split
    | intro _

theorem execMbistComplete_leaves (e : Fin 5) (fails : List FailLoc) (bad : List (Bool × Nat × Nat)) (s : State) (out : State) (h : execMbistComplete e fails bad s = .next out) : s.leaves out.kept := by
  unfold execMbistComplete at h
  (repeat' first | split at h | dsimp only at h) <;> first
  | (cases h; done)
  | (injection h with h; subst h
     repeat' first
       | with_reducible exact State.leaves_refl _
       | with_reducible assumption
       | simp only [↓State.kept_ite, State.kept_mk, State.kept_eta, ite_self, ↓State.kept_foldl, ↓State.each_kept, ↓State.quiet_kept, ↓State.setSec_kept, ↓State.drawn_kept]
       | dsimp only
       | (with_reducible apply State.leaves_fuses (h := (by first | exact SecFuses.grows_refl _ | (exact SecFuses.grows_erased _) | (simp [SecFuses.grows, rowsGrow_refl]; try omega))))
       | with_reducible apply State.leaves_each
       | with_reducible apply State.leaves_foldl_fst
       | with_reducible apply State.leaves_foldl
       | with_reducible apply State.testDone_leaves
       | split
       | intro _)

theorem execMbistStart_leaves (ini : Ini) (e : Fin 5) (value : BitVec 32) (s : State) (out : State) (h : execMbistStart ini e value s = .next out) : s.leaves out.kept := by
  unfold execMbistStart at h
  (repeat' first | split at h | dsimp only at h) <;> first
  | (cases h; done)
  | (injection h with h; subst h
     repeat' first
       | with_reducible exact State.leaves_refl _
       | with_reducible assumption
       | simp only [↓State.kept_ite, State.kept_mk, State.kept_eta, ite_self, ↓State.kept_foldl, ↓State.each_kept, ↓State.deniedWrite_kept, ↓State.quiet_kept, ↓State.set1_kept, ↓State.setSec_kept, ↓State.drawn_kept]
       | dsimp only
       | (with_reducible apply State.leaves_fuses (h := (by first | exact SecFuses.grows_refl _ | (exact SecFuses.grows_erased _) | (simp [SecFuses.grows, rowsGrow_refl]; try omega))))
       | with_reducible apply State.leaves_each
       | with_reducible apply State.leaves_foldl_fst
       | with_reducible apply State.leaves_foldl
       | with_reducible apply State.written_leaves
       | with_reducible apply wrTestCmd_leaves
       | split
       | intro _)

theorem State.mirrorBytes_leaves (s : State) (at' : Nat) (lo : Nat) (hi : Nat) (i : Nat) {u0 : State} (hr : u0.leaves s.kept) : u0.leaves (State.mirrorBytes s at' lo hi i).kept := by
  refine State.leaves_trans hr ?_
  clear hr
  unfold State.mirrorBytes
  repeat' first
    | with_reducible exact State.leaves_refl _
    | with_reducible assumption
    | simp only [↓State.kept_ite, State.kept_mk, State.kept_eta, ite_self, ↓State.kept_foldl, ↓State.each_kept, ↓State.setTwin_kept, ↓State.quiet_kept, ↓State.setSec_kept, ↓State.drawn_kept]
    | dsimp only
    | (with_reducible apply State.leaves_fuses (h := (by first | exact SecFuses.grows_refl _ | (exact SecFuses.grows_erased _) | (simp [SecFuses.grows, rowsGrow_refl]; try omega))))
    | with_reducible apply State.leaves_each
    | with_reducible apply State.leaves_foldl_fst
    | with_reducible apply State.leaves_foldl
    | with_reducible apply State.afterStore_leaves
    | with_reducible apply State.setBankCell_leaves
    | split
    | intro _

theorem State.mirrorBanks_leaves (s : State) (before : List (Nat × Nat)) (lo : Nat) (hi : Nat) {u0 : State} (hr : u0.leaves s.kept) : u0.leaves (State.mirrorBanks s before lo hi).kept := by
  refine State.leaves_trans hr ?_
  clear hr
  unfold State.mirrorBanks
  repeat' first
    | with_reducible exact State.leaves_refl _
    | with_reducible assumption
    | simp only [↓State.kept_ite, State.kept_mk, State.kept_eta, ite_self, ↓State.kept_foldl, ↓State.each_kept, ↓State.quiet_kept, ↓State.setSec_kept, ↓State.drawn_kept]
    | dsimp only
    | (with_reducible apply State.leaves_fuses (h := (by first | exact SecFuses.grows_refl _ | (exact SecFuses.grows_erased _) | (simp [SecFuses.grows, rowsGrow_refl]; try omega))))
    | with_reducible apply State.leaves_each
    | with_reducible apply State.leaves_foldl_fst
    | with_reducible apply State.leaves_foldl
    | with_reducible apply State.mirrorBytes_leaves
    | split
    | intro _

theorem execMirrorData_leaves (rq : Request) (s : State) (out : State) (h : execMirrorData rq s = .next out) : s.leaves out.kept := by
  unfold execMirrorData at h
  (repeat' first | split at h | dsimp only at h) <;> first
  | (cases h; done)
  | (injection h with h; subst h
     repeat' first
       | with_reducible exact State.leaves_refl _
       | with_reducible assumption
       | simp only [↓State.kept_ite, State.kept_mk, State.kept_eta, ite_self, ↓State.kept_foldl, ↓State.each_kept, ↓State.quiet_kept, ↓State.setTwin_kept, ↓State.setSec_kept, ↓State.drawn_kept]
       | dsimp only
       | (with_reducible apply State.leaves_fuses (h := (by first | exact SecFuses.grows_refl _ | (exact SecFuses.grows_erased _) | (simp [SecFuses.grows, rowsGrow_refl]; try omega))))
       | with_reducible apply State.leaves_each
       | with_reducible apply State.leaves_foldl_fst
       | with_reducible apply State.leaves_foldl
       | with_reducible apply State.mirrorBanks_leaves
       | with_reducible apply State.pairRecord_leaves
       | split
       | intro _)

theorem execPatrolCorrection_leaves (s out : State) (h : execPatrolCorrection s = .next out) : s.leaves out.kept := by
  unfold execPatrolCorrection at h
  dsimp only at h
  split at h
  · injection h with h; subst h; exact State.leaves_refl _
  · have e := State.nextCorr_kept _ _ ‹_›
    dsimp only at e
    split at h
    · injection h with h; subst h; simp only [↓State.bump_kept]; exact State.leaves_of_kept (e.trans (State.quiet_kept _))
    · injection h with h
      subst h
      apply State.writeFrame_leaves
      split <;> (try simp only [↓State.drawn_kept]) <;> exact State.leaves_of_kept (e.trans (State.quiet_kept _))

theorem execPlaneLoadFrame_leaves (n : Fin 64) (p : Fin 8) (f : Fin 3900) (data : BitVec 4096) (s : State) (out : State) (h : execPlaneLoadFrame n p f data s = .next out) : s.leaves out.kept := by
  unfold execPlaneLoadFrame at h
  (repeat' first | split at h | dsimp only at h) <;> first
  | (cases h; done)
  | (injection h with h; subst h
     repeat' first
       | with_reducible exact State.leaves_refl _
       | with_reducible assumption
       | simp only [↓State.kept_ite, State.kept_mk, State.kept_eta, ite_self, ↓State.kept_foldl, ↓State.each_kept, ↓State.absorb_kept, ↓State.countBytes_kept, ↓State.quiet_kept, ↓State.setImg_kept, ↓State.setSec_kept, ↓State.drawn_kept]
       | dsimp only
       | (with_reducible apply State.leaves_fuses (h := (by first | exact SecFuses.grows_refl _ | (exact SecFuses.grows_erased _) | (simp [SecFuses.grows, rowsGrow_refl]; try omega))))
       | with_reducible apply State.leaves_each
       | with_reducible apply State.leaves_foldl_fst
       | with_reducible apply State.leaves_foldl
       | with_reducible apply State.bodyMayEnd_leaves
       | with_reducible apply State.frameArrives_leaves
       | split
       | intro _)

theorem State.tornByLoss_leaves (s : State) {u0 : State} (hr : u0.leaves s.kept) : u0.leaves (State.tornByLoss s).kept := by
  refine State.leaves_trans hr ?_
  clear hr
  unfold State.tornByLoss
  repeat' first
    | with_reducible exact State.leaves_refl _
    | with_reducible assumption
    | simp only [↓State.kept_ite, State.kept_mk, State.kept_eta, ite_self, ↓State.kept_foldl, ↓State.each_kept, ↓State.drawn_kept, ↓State.tearSlot_kept, ↓State.quiet_kept, ↓State.setSec_kept]
    | dsimp only
    | (with_reducible apply State.leaves_fuses (h := (by first | exact SecFuses.grows_refl _ | (exact SecFuses.grows_erased _) | (simp [SecFuses.grows, rowsGrow_refl]; try omega))))
    | with_reducible apply State.leaves_each
    | with_reducible apply State.leaves_foldl_fst
    | with_reducible apply State.leaves_foldl
    | with_reducible apply State.copyForward_leaves
    | split
    | intro _

theorem State.powerOnReset_leaves (s : State) {u0 : State} (hr : u0.leaves s.kept) : u0.leaves (State.powerOnReset s).kept := by
  refine State.leaves_trans hr ?_
  clear hr
  unfold State.powerOnReset
  repeat' first
    | with_reducible exact State.leaves_refl _
    | with_reducible assumption
    | simp only [↓State.kept_ite, State.kept_mk, State.kept_eta, ite_self, ↓State.kept_foldl, ↓State.each_kept, ↓State.setStart_kept, ↓State.quiet_kept, ↓State.setSec_kept, ↓State.drawn_kept]
    | dsimp only
    | (with_reducible apply State.leaves_fuses (h := (by first | exact SecFuses.grows_refl _ | (exact SecFuses.grows_erased _) | (simp [SecFuses.grows, rowsGrow_refl]; try omega))))
    | with_reducible apply State.leaves_each
    | with_reducible apply State.leaves_foldl_fst
    | with_reducible apply State.leaves_foldl
    | with_reducible apply State.cleared_leaves
    | with_reducible apply State.tornByLoss_leaves
    | split
    | intro _

theorem execPorstN_leaves (high : Bool) (role : Bool) (s : State) (out : State) (h : execPorstN high role s = .next out) : s.leaves out.kept := by
  unfold execPorstN at h
  (repeat' first | split at h | dsimp only at h) <;> first
  | (cases h; done)
  | (injection h with h; subst h
     repeat' first
       | with_reducible exact State.leaves_refl _
       | with_reducible assumption
       | simp only [↓State.kept_ite, State.kept_mk, State.kept_eta, ite_self, ↓State.kept_foldl, ↓State.each_kept, ↓State.quiet_kept, ↓State.setStart_kept, ↓State.wrb_kept, ↓State.setSec_kept, ↓State.drawn_kept]
       | dsimp only
       | (with_reducible apply State.leaves_fuses (h := (by first | exact SecFuses.grows_refl _ | (exact SecFuses.grows_erased _) | (simp [SecFuses.grows, rowsGrow_refl]; try omega))))
       | with_reducible apply State.leaves_each
       | with_reducible apply State.leaves_foldl_fst
       | with_reducible apply State.leaves_foldl
       | with_reducible apply State.powerOnReset_leaves
       | split
       | intro _)

theorem State.porterRead_leaves (s : State) (u : Unit') (count : State → State) (addr : Nat) (hf : ∀ a : State, a.leaves (count a).kept) {u0 : State}
    (hr : u0.leaves s.kept) : u0.leaves (s.porterRead u count addr).1.kept :=
  State.porterFix_leaves _ _ _ _ _ (fun a => State.afterStore_leaves _ _ _ (State.leaves_refl a)) hf hr

theorem State.porterWord_leaves (s : State) (u : Unit') (addr : Nat) {u0 : State} (hr : u0.leaves s.kept) : u0.leaves (State.porterWord s u addr).1.kept := by
  refine State.leaves_trans hr ?_
  clear hr
  unfold State.porterWord
  repeat' first
    | with_reducible exact State.leaves_refl _
    | with_reducible assumption
    | simp only [↓State.kept_ite, State.kept_mk, State.kept_eta, ite_self, ↓State.kept_foldl, ↓State.each_kept, ↓State.quiet_kept, ↓State.setSec_kept, ↓State.drawn_kept]
    | dsimp only
    | (with_reducible apply State.leaves_fuses (h := (by first | exact SecFuses.grows_refl _ | (exact SecFuses.grows_erased _) | (simp [SecFuses.grows, rowsGrow_refl]; try omega))))
    | with_reducible apply State.leaves_each
    | with_reducible apply State.leaves_foldl_fst
    | with_reducible apply State.leaves_foldl
    | with_reducible apply State.porterRead_leaves
    | with_reducible apply State.trackWord_leaves
    | split
    | intro _

theorem State.porterUnit_leaves (s : State) (u : Unit') (addr : Nat) {u0 : State} (hr : u0.leaves s.kept) : u0.leaves (State.porterUnit s u addr).kept := by
  refine State.leaves_trans hr ?_
  clear hr
  unfold State.porterUnit
  repeat' first
    | with_reducible exact State.leaves_refl _
    | with_reducible assumption
    | simp only [↓State.kept_ite, State.kept_mk, State.kept_eta, ite_self, ↓State.kept_foldl, ↓State.each_kept, ↓State.quiet_kept, ↓State.setSec_kept, ↓State.drawn_kept]
    | dsimp only
    | (with_reducible apply State.leaves_fuses (h := (by first | exact SecFuses.grows_refl _ | (exact SecFuses.grows_erased _) | (simp [SecFuses.grows, rowsGrow_refl]; try omega))))
    | with_reducible apply State.leaves_each
    | with_reducible apply State.leaves_foldl_fst
    | with_reducible apply State.leaves_foldl
    | with_reducible apply State.porterWord_leaves
    | split
    | intro _

theorem State.porterVisit_leaves (s : State) (d : Nat) (i : Nat) {u0 : State} (hr : u0.leaves s.kept) : u0.leaves (State.porterVisit s d i).kept := by
  refine State.leaves_trans hr ?_
  clear hr
  unfold State.porterVisit
  repeat' first
    | with_reducible exact State.leaves_refl _
    | with_reducible assumption
    | simp only [↓State.kept_ite, State.kept_mk, State.kept_eta, ite_self, ↓State.kept_foldl, ↓State.each_kept, ↓State.quiet_kept, ↓State.setSec_kept, ↓State.drawn_kept]
    | dsimp only
    | (with_reducible apply State.leaves_fuses (h := (by first | exact SecFuses.grows_refl _ | (exact SecFuses.grows_erased _) | (simp [SecFuses.grows, rowsGrow_refl]; try omega))))
    | with_reducible apply State.leaves_each
    | with_reducible apply State.leaves_foldl_fst
    | with_reducible apply State.leaves_foldl
    | with_reducible apply State.porterUnit_leaves
    | split
    | intro _

theorem State.repairDue_leaves (s : State) (d : Nat) (u : Nat) {u0 : State} (hr : u0.leaves s.kept) : u0.leaves (State.repairDue s d u).kept := by
  refine State.leaves_trans hr ?_
  clear hr
  unfold State.repairDue
  repeat' first
    | with_reducible exact State.leaves_refl _
    | with_reducible assumption
    | simp only [↓State.kept_ite, State.kept_mk, State.kept_eta, ite_self, ↓State.kept_foldl, ↓State.each_kept, ↓State.quiet_kept, ↓State.setSec_kept, ↓State.drawn_kept]
    | dsimp only
    | (with_reducible apply State.leaves_fuses (h := (by first | exact SecFuses.grows_refl _ | (exact SecFuses.grows_erased _) | (simp [SecFuses.grows, rowsGrow_refl]; try omega))))
    | with_reducible apply State.leaves_each
    | with_reducible apply State.leaves_foldl_fst
    | with_reducible apply State.leaves_foldl
    | with_reducible apply State.hardFault_leaves
    | split
    | intro _

theorem execPorterVisit_leaves (d : Fin 2) (s : State) (out : State) (h : execPorterVisit d s = .next out) : s.leaves out.kept := by
  unfold execPorterVisit at h
  (repeat' first | split at h | dsimp only at h) <;> first
  | (cases h; done)
  | (injection h with h; subst h
     repeat' first
       | with_reducible exact State.leaves_refl _
       | with_reducible assumption
       | simp only [↓State.kept_ite, State.kept_mk, State.kept_eta, ite_self, ↓State.kept_foldl, ↓State.each_kept, ↓State.clr_kept, ↓State.incr_kept, ↓State.passBegins_kept, ↓State.passFrees_kept, ↓State.quiet_kept, ↓State.setPorter_kept, ↓State.wr_kept, ↓State.setSec_kept, ↓State.drawn_kept]
       | dsimp only
       | (with_reducible apply State.leaves_fuses (h := (by first | exact SecFuses.grows_refl _ | (exact SecFuses.grows_erased _) | (simp [SecFuses.grows, rowsGrow_refl]; try omega))))
       | with_reducible apply State.leaves_each
       | with_reducible apply State.leaves_foldl_fst
       | with_reducible apply State.leaves_foldl
       | with_reducible apply State.porterVisit_leaves
       | with_reducible apply State.repairDue_leaves
       | split
       | intro _)

theorem execQueuedRewrite_leaves (d : Fin 2) (u : Fin 96) (s out : State) (h : execQueuedRewrite d u s = .next out) : s.leaves out.kept := by
  unfold execQueuedRewrite at h
  dsimp only at h
  have q : s.leaves s.quiet.kept := State.leaves_of_kept (State.quiet_kept s)
  split at h
  · injection h with h; subst h; exact q
  · have r := State.repairDue_leaves _ d.val u.val q
    split at h
    · injection h with h; subst h; exact r
    · split at h <;> injection h with h <;> subst h
      · exact State.porterRead_leaves _ _ _ _ (fun _ => State.leaves_refl _) ((State.setTrack_kept ..).symm ▸ r)
      · exact (State.setTrack_kept ..).symm ▸ r

theorem execRehash_leaves (ini : Ini) (newSalt : Bool) (s : State) (out : State) (h : execRehash ini newSalt s = .next out) : s.leaves out.kept := by
  unfold execRehash at h
  (repeat' first | split at h | dsimp only at h) <;> first
  | (cases h; done)
  | (injection h with h; subst h
     repeat' first
       | with_reducible exact State.leaves_refl _
       | with_reducible assumption
       | simp only [↓State.kept_ite, State.kept_mk, State.kept_eta, ite_self, ↓State.kept_foldl, ↓State.each_kept, ↓State.quiet_kept, ↓State.setSec_kept, ↓State.drawn_kept]
       | dsimp only
       | (with_reducible apply State.leaves_fuses (h := (by first | exact SecFuses.grows_refl _ | (exact SecFuses.grows_erased _) | (simp [SecFuses.grows, rowsGrow_refl]; try omega))))
       | with_reducible apply State.leaves_each
       | with_reducible apply State.leaves_foldl_fst
       | with_reducible apply State.leaves_foldl
       | with_reducible apply State.larderWritten_leaves
       | split
       | intro _)

theorem execReplayTimeout_leaves (g : Fin 24) (s : State) (out : State) (h : execReplayTimeout g s = .next out) : s.leaves out.kept := by
  unfold execReplayTimeout at h
  (repeat' first | split at h | dsimp only at h) <;> first
  | (cases h; done)
  | (injection h with h; subst h
     repeat' first
       | with_reducible exact State.leaves_refl _
       | with_reducible assumption
       | simp only [↓State.kept_ite, State.kept_mk, State.kept_eta, ite_self, ↓State.kept_foldl, ↓State.each_kept, ↓State.quiet_kept, ↓State.setSec_kept, ↓State.drawn_kept]
       | dsimp only
       | (with_reducible apply State.leaves_fuses (h := (by first | exact SecFuses.grows_refl _ | (exact SecFuses.grows_erased _) | (simp [SecFuses.grows, rowsGrow_refl]; try omega))))
       | with_reducible apply State.leaves_each
       | with_reducible apply State.leaves_foldl_fst
       | with_reducible apply State.leaves_foldl
       | with_reducible apply State.linkReplay_leaves
       | split
       | intro _)

theorem execResign_leaves (rq : Request) (s : State) (out : State) (h : execResign rq s = .next out) : s.leaves out.kept := by
  unfold execResign at h
  (repeat' first | split at h | dsimp only at h) <;> first
  | (cases h; done)
  | (injection h with h; subst h
     repeat' first
       | with_reducible exact State.leaves_refl _
       | with_reducible assumption
       | simp only [↓State.kept_ite, State.kept_mk, State.kept_eta, ite_self, ↓State.kept_foldl, ↓State.each_kept, ↓State.quiet_kept, ↓State.setSec_kept, ↓State.drawn_kept]
       | dsimp only
       | (with_reducible apply State.leaves_fuses (h := (by first | exact SecFuses.grows_refl _ | (exact SecFuses.grows_erased _) | (simp [SecFuses.grows, rowsGrow_refl]; try omega))))
       | with_reducible apply State.leaves_each
       | with_reducible apply State.leaves_foldl_fst
       | with_reducible apply State.leaves_foldl
       | with_reducible apply State.pairRecord_leaves
       | with_reducible apply State.primaryLost_leaves
       | split
       | intro _)

theorem execRetire_leaves (ini : Ini) (k : Fin 64) (s : State) (out : State) (h : execRetire ini k s = .next out) : s.leaves out.kept := by
  unfold execRetire at h
  (repeat' first | split at h | dsimp only at h) <;> first
  | (cases h; done)
  | (injection h with h; subst h
     repeat' first
       | with_reducible exact State.leaves_refl _
       | with_reducible assumption
       | simp only [↓State.kept_ite, State.kept_mk, State.kept_eta, ite_self, ↓State.kept_foldl, ↓State.each_kept, ↓State.quiet_kept, ↓State.setSec_kept, ↓State.drawn_kept]
       | dsimp only
       | (with_reducible apply State.leaves_fuses (h := (by first | exact SecFuses.grows_refl _ | (exact SecFuses.grows_erased _) | (simp [SecFuses.grows, rowsGrow_refl]; try omega))))
       | with_reducible apply State.leaves_each
       | with_reducible apply State.leaves_foldl_fst
       | with_reducible apply State.leaves_foldl
       | with_reducible apply State.mkeyWrite_leaves
       | split
       | intro _)

theorem execRngTestWindow_leaves (good : Bool) (s : State) (out : State) (h : execRngTestWindow good s = .next out) : s.leaves out.kept := by
  unfold execRngTestWindow at h
  (repeat' first | split at h | dsimp only at h) <;> first
  | (cases h; done)
  | (injection h with h; subst h
     repeat' first
       | with_reducible exact State.leaves_refl _
       | with_reducible assumption
       | simp only [↓State.kept_ite, State.kept_mk, State.kept_eta, ite_self, ↓State.kept_foldl, ↓State.each_kept, ↓State.bump_kept, ↓State.clr_kept, ↓State.quiet_kept, ↓State.set1_kept, ↓State.setSec_kept, ↓State.drawn_kept]
       | dsimp only
       | (with_reducible apply State.leaves_fuses (h := (by first | exact SecFuses.grows_refl _ | (exact SecFuses.grows_erased _) | (simp [SecFuses.grows, rowsGrow_refl]; try omega))))
       | with_reducible apply State.leaves_each
       | with_reducible apply State.leaves_foldl_fst
       | with_reducible apply State.leaves_foldl
       | with_reducible apply State.alarm_leaves
       | split
       | intro _)

theorem State.fillAnswer_leaves (s : State) (l : Nat) {u0 : State} (hr : u0.leaves s.kept) : u0.leaves (State.fillAnswer s l).1.kept := by
  refine State.leaves_trans hr ?_
  clear hr
  unfold State.fillAnswer
  repeat' first
    | with_reducible exact State.leaves_refl _
    | with_reducible assumption
    | simp only [↓State.kept_ite, State.kept_mk, State.kept_eta, ite_self, ↓State.kept_foldl, ↓State.each_kept, ↓State.bump_kept, ↓State.countCorrected_kept, ↓State.emit_kept, ↓State.log_kept, ↓State.seenLine_kept, ↓State.wr_kept, ↓State.wr64_kept, ↓State.quiet_kept, ↓State.setSec_kept, ↓State.drawn_kept]
    | dsimp only
    | (with_reducible apply State.leaves_fuses (h := (by first | exact SecFuses.grows_refl _ | (exact SecFuses.grows_erased _) | (simp [SecFuses.grows, rowsGrow_refl]; try omega))))
    | with_reducible apply State.leaves_each
    | with_reducible apply State.leaves_foldl_fst
    | with_reducible apply State.leaves_foldl
    | with_reducible apply State.alarm_leaves
    | split
    | intro _

theorem execSdramFill_leaves (l : BitVec 35) (wrong : List (Fin 8 × Fin 20 × BitVec 8)) (s out : State)
    (h : execSdramFill l wrong s = .next out) : s.leaves out.kept := by
  unfold execSdramFill at h
  (repeat' first | split at h | dsimp only at h) <;> first
  | (injection h with h; subst h; simp only [↓State.quiet_kept]; exact State.leaves_refl _)
  | (injection h with h
     subst h
     simp only [↓State.setSlice_kept]
     have e := State.meetChannel_kept _ _ _ ‹_›
     first
     | (apply State.fillAnswer_leaves
        simp only [↓State.setSdLine_kept]
        exact State.leaves_of_kept (e.trans (State.quiet_kept _)))
     | exact State.leaves_of_kept (e.trans (State.quiet_kept _)))

theorem execSetPlain_leaves (ini : Ini) (k : Fin 64) (s : State) (out : State) (h : execSetPlain ini k s = .next out) : s.leaves out.kept := by
  unfold execSetPlain at h
  (repeat' first | split at h | dsimp only at h) <;> first
  | (cases h; done)
  | (injection h with h; subst h
     repeat' first
       | with_reducible exact State.leaves_refl _
       | with_reducible assumption
       | simp only [↓State.kept_ite, State.kept_mk, State.kept_eta, ite_self, ↓State.kept_foldl, ↓State.each_kept, ↓State.quiet_kept, ↓State.setSec_kept, ↓State.drawn_kept]
       | dsimp only
       | (with_reducible apply State.leaves_fuses (h := (by first | exact SecFuses.grows_refl _ | (exact SecFuses.grows_erased _) | (simp [SecFuses.grows, rowsGrow_refl]; try omega))))
       | with_reducible apply State.leaves_each
       | with_reducible apply State.leaves_foldl_fst
       | with_reducible apply State.leaves_foldl
       | with_reducible apply State.mkeyWrite_leaves
       | split
       | intro _)

theorem execShutdownPowerOff_leaves (s : State) (out : State) (h : execShutdownPowerOff s = .next out) : s.leaves out.kept := by
  unfold execShutdownPowerOff at h
  (repeat' first | split at h | dsimp only at h) <;> first
  | (cases h; done)
  | (injection h with h; subst h
     repeat' first
       | with_reducible exact State.leaves_refl _
       | with_reducible assumption
       | simp only [↓State.kept_ite, State.kept_mk, State.kept_eta, ite_self, ↓State.kept_foldl, ↓State.each_kept, ↓State.abortHeld_kept, ↓State.quiet_kept, ↓State.reply_kept, ↓State.setPort_kept, ↓State.setSec_kept, ↓State.drawn_kept]
       | dsimp only
       | (with_reducible apply State.leaves_fuses (h := (by first | exact SecFuses.grows_refl _ | (exact SecFuses.grows_erased _) | (simp [SecFuses.grows, rowsGrow_refl]; try omega))))
       | with_reducible apply State.leaves_each
       | with_reducible apply State.leaves_foldl_fst
       | with_reducible apply State.leaves_foldl
       | with_reducible apply State.domainOff_leaves
       | split
       | intro _)

theorem execSweep_leaves (ini : Ini) (k : Fin 64) (s : State) (out : State) (h : execSweep ini k s = .next out) : s.leaves out.kept := by
  unfold execSweep at h
  (repeat' first | split at h | dsimp only at h) <;> first
  | (cases h; done)
  | (injection h with h; subst h
     repeat' first
       | with_reducible exact State.leaves_refl _
       | with_reducible assumption
       | simp only [↓State.kept_ite, State.kept_mk, State.kept_eta, ite_self, ↓State.kept_foldl, ↓State.each_kept, ↓State.quiet_kept, ↓State.setSec_kept, ↓State.drawn_kept]
       | dsimp only
       | (with_reducible apply State.leaves_fuses (h := (by first | exact SecFuses.grows_refl _ | (exact SecFuses.grows_erased _) | (simp [SecFuses.grows, rowsGrow_refl]; try omega))))
       | with_reducible apply State.leaves_each
       | with_reducible apply State.leaves_foldl_fst
       | with_reducible apply State.leaves_foldl
       | with_reducible apply State.mkeyWrite_leaves
       | split
       | intro _)

theorem execTakeover_leaves (ini : Ini) (s : State) (out : State) (h : execTakeover ini s = .next out) : s.leaves out.kept := by
  unfold execTakeover at h
  (repeat' first | split at h | dsimp only at h) <;> first
  | (cases h; done)
  | (injection h with h; subst h
     repeat' first
       | with_reducible exact State.leaves_refl _
       | with_reducible assumption
       | simp only [↓State.kept_ite, State.kept_mk, State.kept_eta, ite_self, ↓State.kept_foldl, ↓State.each_kept, ↓State.quiet_kept, ↓State.setSec_kept, ↓State.drawn_kept]
       | dsimp only
       | (with_reducible apply State.leaves_fuses (h := (by first | exact SecFuses.grows_refl _ | (exact SecFuses.grows_erased _) | (simp [SecFuses.grows, rowsGrow_refl]; try omega))))
       | with_reducible apply State.leaves_each
       | with_reducible apply State.leaves_foldl_fst
       | with_reducible apply State.leaves_foldl
       | with_reducible apply State.takeoverCmd_leaves
       | with_reducible apply State.written_leaves
       | split
       | intro _)

theorem execTakeoverBoundary_leaves (s : State) (out : State) (h : execTakeoverBoundary s = .next out) : s.leaves out.kept := by
  unfold execTakeoverBoundary at h
  (repeat' first | split at h | dsimp only at h) <;> first
  | (cases h; done)
  | (injection h with h; subst h
     repeat' first
       | with_reducible exact State.leaves_refl _
       | with_reducible assumption
       | simp only [↓State.kept_ite, State.kept_mk, State.kept_eta, ite_self, ↓State.kept_foldl, ↓State.each_kept, ↓State.offerJoin_kept, ↓State.quiet_kept, ↓State.setPstate_kept, ↓State.setTwin_kept, ↓State.takeThread_kept, ↓State.setSec_kept, ↓State.drawn_kept]
       | dsimp only
       | (with_reducible apply State.leaves_fuses (h := (by first | exact SecFuses.grows_refl _ | (exact SecFuses.grows_erased _) | (simp [SecFuses.grows, rowsGrow_refl]; try omega))))
       | with_reducible apply State.leaves_each
       | with_reducible apply State.leaves_foldl_fst
       | with_reducible apply State.leaves_foldl
       | with_reducible apply State.giveBank_leaves
       | split
       | intro _)

theorem execTestAbort_leaves (ini : Ini) (e : Fin 5) (s : State) (out : State) (h : execTestAbort ini e s = .next out) : s.leaves out.kept := by
  unfold execTestAbort at h
  (repeat' first | split at h | dsimp only at h) <;> first
  | (cases h; done)
  | (injection h with h; subst h
     repeat' first
       | with_reducible exact State.leaves_refl _
       | with_reducible assumption
       | simp only [↓State.kept_ite, State.kept_mk, State.kept_eta, ite_self, ↓State.kept_foldl, ↓State.each_kept, ↓State.quiet_kept, ↓State.setSec_kept, ↓State.drawn_kept]
       | dsimp only
       | (with_reducible apply State.leaves_fuses (h := (by first | exact SecFuses.grows_refl _ | (exact SecFuses.grows_erased _) | (simp [SecFuses.grows, rowsGrow_refl]; try omega))))
       | with_reducible apply State.leaves_each
       | with_reducible apply State.leaves_foldl_fst
       | with_reducible apply State.leaves_foldl
       | with_reducible apply State.testAborted_leaves
       | with_reducible apply State.written_leaves
       | split
       | intro _)

theorem State.idle_leaves (s : State) {u0 : State} (hr : u0.leaves s.kept) : u0.leaves (State.idle s).kept := by
  refine State.leaves_trans hr ?_
  clear hr
  unfold State.idle
  repeat' first
    | with_reducible exact State.leaves_refl _
    | with_reducible assumption
    | simp only [↓State.kept_ite, State.kept_mk, State.kept_eta, ite_self, ↓State.kept_foldl, ↓State.each_kept, ↓State.bankEdge_kept, ↓State.deliverRaw_kept, ↓State.finishStop_kept, ↓State.lineTick_kept, ↓State.quiet_kept, ↓State.traceLane_kept, ↓State.wdtTick_kept, ↓State.setSec_kept, ↓State.drawn_kept]
    | dsimp only
    | (with_reducible apply State.leaves_fuses (h := (by first | exact SecFuses.grows_refl _ | (exact SecFuses.grows_erased _) | (simp [SecFuses.grows, rowsGrow_refl]; try omega))))
    | with_reducible apply State.leaves_each
    | with_reducible apply State.leaves_foldl_fst
    | with_reducible apply State.leaves_foldl
    | with_reducible apply State.fabricCycle_leaves
    | split
    | intro _

end Sys2Proof.Machine
end

