-- ==== Sys2Proof/Laws/Logic.lean ====
section
/-! SUPPORT. What the fabric's signals and a block RAM port do not depend on: what a command has sent. -/

set_option Elab.async false

namespace Sys2Proof.Machine

/-- The level of a source does not depend on what has been sent. -/
theorem State.signal_quiet (s : State) (k n t : Nat) (src : Src) : s.quiet.signal k n t src = s.signal k n t src := by
  induction k generalizing n t src with
  | zero => rfl
  | succ k ih => simp only [State.signal, ih]; rfl

theorem State.routed_quiet (s : State) (n t : Nat) (src : Src) : s.quiet.routed n t src = s.routed n t src := s.signal_quiet _ n t src

theorem State.routedWord_quiet (s : State) (n t w : Nat) (srcs : List Src) : s.quiet.routedWord n t w srcs = s.routedWord n t w srcs := by
  simp only [State.routedWord, State.routed_quiet]

/-- Nor does the use of a block RAM port in the next region cycle. -/
theorem State.ramBusy_quiet (s : State) (n k : Nat) : s.quiet.ramBusy n k = s.ramBusy n k := by
  simp only [State.ramBusy, State.routed_quiet]; rfl

end Sys2Proof.Machine
end

