-- ==== Sys2Proof/Laws/Ops.lean ====
section
/-! SUPPORT. What an access of a register by a command answers (R10, R13, R38, R467): turned away, or performed with its effect. -/

set_option Elab.async false

namespace Sys2Proof.Machine

variable {s : State} {ini : Ini} {off v : Nat} {f : State → State}

/-- A write that is not turned away has its effect and is answered OK. -/
theorem State.written_ok (h : s.turnedAway off = none) : s.quiet.written ini off f = (f s.quiet).okWrite ini := by
  simp only [State.written, show s.quiet.turnedAway off = none from h]

/-- A write that is turned away has no effect. -/
theorem State.written_turned {code : Resp} (h : s.turnedAway off = some code) :
    s.quiet.written ini off f = s.quiet.emit (.regAnswer ini code 0) := by
  simp only [State.written, show s.quiet.turnedAway off = some code from h]

/-- A read that is not turned away, by another initiator than the debug initiator, has its side effect. -/
theorem State.shown_ok (h : s.turnedAway off = none) (hp : s.peeks ini = false) :
    s.quiet.shown ini off v f = (f s.quiet).emit (.regAnswer ini .ok v) := by
  simp only [State.shown, show s.quiet.turnedAway off = none from h, show s.quiet.peeks ini = false from hp, Bool.false_eq_true, if_false]

/-- The debug initiator's read has no side effect. -/
theorem State.shown_peek (h : s.turnedAway off = none) (hp : s.peeks ini = true) :
    s.quiet.shown ini off v f = s.quiet.emit (.regAnswer ini .ok v) := by
  simp only [State.shown, show s.quiet.turnedAway off = none from h, show s.quiet.peeks ini = true from hp, if_true]

/-- A read that is turned away has no side effect. -/
theorem State.shown_turned {code : Resp} (h : s.turnedAway off = some code) :
    s.quiet.shown ini off v f = s.quiet.emit (.regAnswer ini code 0) := by
  simp only [State.shown, show s.quiet.turnedAway off = some code from h]

end Sys2Proof.Machine
end

