-- ==== Sys2Proof/Laws/Paeri.lean ====
section
/-! SUPPORT. What taking the oldest instruction of a thread does where the thread stands at it, and what the resolution of a branch leaves. -/

set_option Elab.async false

namespace Sys2Proof.Machine

/-- A thread that stands at an instruction of the command's row executes its body. -/
theorem State.oldest_of_standsAt {s : State} {t : Nat} {i : Insn} {r : Row} (mine : Row → Bool) (body : Insn → State → State)
    (h : s.standsAt t i r = true) (hm : mine r = true) : s.quiet.oldest t mine body = body i s.quiet := by
  obtain ⟨h1, h2, h3, h4, h5, h6, h7⟩ := of_decide_eq_true h
  subst h5
  have e1 : s.quiet.tstate t = .run := h1
  have e2 : (s.quiet.thread t).pend = none := h2
  have e3 : storeGet none (s.quiet.thread t).commits (s.quiet.thread t).old = none := h3
  have e4 : storeGet 0 (s.quiet.tpc t) s.quiet.imemErr < 2 := h4
  have e6 : (Insn.of (BitVec.ofNat 64 (s.quiet.imem (s.quiet.tpc t)))).row = some r := h6
  have e7 : (Insn.of (BitVec.ofNat 64 (s.quiet.imem (s.quiet.tpc t)))).reservedOk r = true := h7
  have e8 : ¬ 2 ≤ storeGet 0 (s.quiet.tpc t) s.quiet.imemErr := by omega
  have e9 : s.quiet.fetched t = s.quiet := by simp only [State.fetched, e3]
  have e10 : s.quiet.fetchWord t = BitVec.ofNat 64 (s.quiet.imem (s.quiet.tpc t)) := by
    simp only [State.fetchWord, e3]
  simp only [State.oldest, e1, e2, e8, e10, e6, e7, e9, hm, Option.isSome_none, ne_eq, not_true_eq_false, decide_false, Bool.or_self,
    Bool.false_eq_true, if_false, Bool.not_true]
  rfl

/-! ## Branches (R144) -/

theorem State.thread_setThread (s : State) (t : Nat) (x : Thread) : (s.setThread t x).thread t = x := by
  rw [State.setThread_thread, if_pos rfl]

/-- Issuing a branch changes nothing of the device but the thread's list of issued branches. -/
theorem State.issueSlot_cases (s : State) (t k : Nat) :
    s.issueSlot t k = s ∨ ∃ l, s.issueSlot t k = s.setThread t { s.thread t with issued := l } := by
  simp only [State.issueSlot]
  split
  · exact .inl rfl
  · split
    · split
      · exact .inl rfl
      · exact .inr ⟨_, rfl⟩
    · split
      · exact .inl rfl
      · exact .inr ⟨_, rfl⟩
    · split
      · exact .inl rfl
      · exact .inr ⟨_, rfl⟩
    · exact .inl rfl

/-- A squash of what a thread issued after instruction number seq keeps its registers, tags and count, and the branches resolved up to seq. -/
theorem State.squashAfter_thread (s : State) (t seq : Nat) :
    ((s.squashAfter t seq).thread t).regs = (s.thread t).regs ∧ ((s.squashAfter t seq).thread t).tags = (s.thread t).tags ∧
    ((s.squashAfter t seq).thread t).commits = (s.thread t).commits ∧
    ((s.squashAfter t seq).thread t).resolved = (s.thread t).resolved.filter fun e => decide (e.1 ≤ seq) := by
  have fold : ∀ (l : List SpecOp) (u : State) (g : State → SpecOp → State), (∀ v o, (g v o).threads = v.threads) →
      (l.foldl g u).thread t = u.thread t := by
    intro l
    induction l with
    | nil => intros; rfl
    | cons o l ih => intro u g h; rw [List.foldl_cons, ih _ _ h]; simp only [State.thread, h]
  simp only [State.squashAfter]
  rw [fold]
  · rw [State.thread_setThread]; exact ⟨rfl, rfl, rfl, rfl⟩
  · intro v o; cases o <;> rfl

/-- What a branch's resolution keeps of its thread, and the outcome that it records. -/
theorem State.resolve_thread (s : State) (t seq : Nat) (i : Insn) (p taken : Bool) :
    ((s.resolve t seq i p taken).thread t).regs = (s.thread t).regs ∧ ((s.resolve t seq i p taken).thread t).tags = (s.thread t).tags ∧
    (s.resolution t seq = none → (s.resolve t seq i p taken).resolution t seq = some taken) := by
  have found : ∀ l : List (Nat × Bool), (l.find? (·.1 == seq)).map (·.2) = none →
      (((l ++ [(seq, taken)]).filter fun e => decide (e.1 ≤ seq)).find? (·.1 == seq)).map (·.2) = some taken := by
    intro l h
    have hn : ∀ e ∈ l, e.1 ≠ seq := by
      intro e he h'
      rw [Option.map_eq_none_iff, List.find?_eq_none] at h
      exact h e he (by simpa using h')
    have hf : (l.filter fun e => decide (e.1 ≤ seq)).find? (·.1 == seq) = none := by
      rw [List.find?_eq_none]; intro e he; simpa using hn e (List.mem_filter.mp he).1
    simp [List.filter_append, List.find?_append, hf]
  have found' : ∀ l : List (Nat × Bool), (l.find? (·.1 == seq)).map (·.2) = none →
      ((l ++ [(seq, taken)]).find? (·.1 == seq)).map (·.2) = some taken := by
    intro l h
    rw [Option.map_eq_none_iff] at h
    simp [List.find?_append, h]
  simp only [State.resolve]
  split
  · rename_i h
    exact ⟨rfl, rfl, fun h' => by rw [h'] at h; simp at h⟩
  · split
    · have q := State.squashAfter_thread ((s.setThread t { s.thread t with resolved := (s.thread t).resolved ++ [(seq, taken)] }).bump
        (R.SEQ_THR_SPEC_MISPREDICT t)) t seq
      have e : ((s.setThread t { s.thread t with resolved := (s.thread t).resolved ++ [(seq, taken)] }).bump
        (R.SEQ_THR_SPEC_MISPREDICT t)).thread t = { s.thread t with resolved := (s.thread t).resolved ++ [(seq, taken)] } :=
        State.thread_setThread _ _ _
      rw [e] at q
      refine ⟨q.1, q.2.1, fun h => ?_⟩
      simp only [State.resolution, q.2.2.2]
      exact found _ h
    · refine ⟨by rw [State.thread_setThread], by rw [State.thread_setThread], fun h => ?_⟩
      simp only [State.resolution, State.thread_setThread]
      exact found' _ h

theorem State.issueSlot_thread (s : State) (t k : Nat) :
    ((s.issueSlot t k).thread t).regs = (s.thread t).regs ∧ ((s.issueSlot t k).thread t).tags = (s.thread t).tags ∧
    ((s.issueSlot t k).thread t).commits = (s.thread t).commits ∧ ((s.issueSlot t k).thread t).resolved = (s.thread t).resolved ∧
    (s.issueSlot t k).csr = s.csr := by
  obtain h | ⟨l, h⟩ := s.issueSlot_cases t k <;> rw [h]
  · exact ⟨rfl, rfl, rfl, rfl, rfl⟩
  · rw [State.thread_setThread]; exact ⟨rfl, rfl, rfl, rfl, rfl⟩

/-- The oldest instruction's resolution keeps the tags that it read. -/
theorem branchResolves_tag (s : State) (t : Nat) (r : Row) (i : Insn) (k : Nat) : (s.branchResolves t r i).tag t k = s.tag t k := by
  simp only [State.branchResolves, State.tag]
  rw [(State.resolve_thread ..).2.1, (s.issueSlot_thread t 0).2.1]

/-- A branch that has not resolved ahead resolves, at its turn, on its operands and on the flag line of its issue. -/
theorem branchResolves_resolution (s : State) (t : Nat) (r : Row) (i : Insn) (h : s.resolution t (s.thread t).commits = none) :
    (s.branchResolves t r i).resolution t (s.thread t).commits = some (branchOutcome r (s.reg t i.ra) (s.reg t i.rb)
      ((s.issueSlot t 0).branchIssue t (s.thread t).commits (s.tpc t) i).flag) := by
  obtain ⟨h1, h2, h3, h4, h5⟩ := s.issueSlot_thread t 0
  have hpc : (s.issueSlot t 0).tpc t = s.tpc t := by simp only [State.tpc, State.rd, h5]
  have hr : (s.issueSlot t 0).resolution t (s.thread t).commits = none := by
    simpa only [State.resolution, h4] using h
  have := (State.resolve_thread (s.issueSlot t 0) t (s.thread t).commits i
    ((s.issueSlot t 0).branchIssue t (s.thread t).commits (s.tpc t) i).taken
    (branchOutcome r (s.reg t i.ra) (s.reg t i.rb) ((s.issueSlot t 0).branchIssue t (s.thread t).commits (s.tpc t) i).flag)).2.2 hr
  simp only [State.branchResolves, State.reg, h1, h3, hpc]
  exact this

@[simp] theorem State.tag_quiet (s : State) (t k : Nat) : s.quiet.tag t k = s.tag t k := rfl

end Sys2Proof.Machine
end

