-- ==== Sys2Proof/Tests/Slice0.lean ====
section
/-! SUPPORT. Tests: commands that no agent can give, results that the spec states in its worked examples or that follow from a rule by hand,
and for every statement with hypotheses a state and operands that meet them together. -/

set_option Elab.async false
set_option linter.all false

open Sys2Proof Sys2Proof.Machine

namespace Sys2Proof.Tests

/-! ## Ill-formed commands: each is refused by the check that its comment names -/

/-- A request of an operation to a node, of a size, with as many bytes as given. -/
def rqOf (op : ReqOp) (node addr size bytes : Nat) : Request := ⟨⟨1, 0x40⟩, 0, ⟨op, 1, node, addr, size, List.replicate bytes 0, 0⟩⟩


/-- Ill-formed: written bytes are as many as SIZE. -/
theorem test_wf_bramWindowAccess : Instr.wellFormed (.bramWindowAccess (rqOf .wr 0 0x50000000000 4 3)) = false := by decide

/-- Ill-formed: a flit of no sample. -/
theorem test_wf_pinInputFlit : Instr.wellFormed (.pinInputFlit 0 0 [] true true) = false := by decide

/-- Ill-formed: a flit of 17 samples. -/
theorem test_wf_pinInputFlit_long : Instr.wellFormed (.pinInputFlit 0 0 (List.replicate 17 0) true true) = false := by decide

/-- Ill-formed: a flit of other than 8 samples. -/
theorem test_wf_pinOutputFlit : Instr.wellFormed (.pinOutputFlit 0 0 []) = false := by decide

/-- Ill-formed: a delivery of no byte. -/
theorem test_wf_imageHeader : Instr.wellFormed (.imageHeader (.flash 0 0 [])) = false := by decide

/-- Ill-formed: a delivery to another node. -/
theorem test_wf_imageBytes : Instr.wellFormed (.imageBytes (.mgmt (rqOf .nwr 6 0 8 8))) = false := by decide

/-- Ill-formed: a read that writes. -/
theorem test_wf_larderRead : Instr.wellFormed (.larderRead (rqOf .wr 0 0 8 8)) = false := by decide

/-- Ill-formed: a write that reads. -/
theorem test_wf_larderWrite : Instr.wellFormed (.larderWrite (rqOf .rd 0 0 8 0)) = false := by decide

/-- Ill-formed: a write without its bytes. -/
theorem test_wf_larderWrite_size : Instr.wellFormed (.larderWrite (rqOf .wr 0 0 8 7)) = false := by decide

/-- Ill-formed: a read that writes. -/
theorem test_wf_bankRead : Instr.wellFormed (.bankRead (rqOf .nwr 0x402 0 8 8) 0 false) = false := by decide

/-- Ill-formed: a write that reads. -/
theorem test_wf_bankWrite : Instr.wellFormed (.bankWrite (rqOf .nrd 0x402 0 8 0) 0) = false := by decide

/-- Ill-formed: a write with too many bytes. -/
theorem test_wf_bankWrite_size : Instr.wellFormed (.bankWrite (rqOf .nwr 0x402 0 8 9) 0) = false := by decide

/-- Ill-formed: a training set of no lane. -/
theorem test_wf_ts2 : Instr.wellFormed (.ts2 0 [] []) = false := by decide

/-- Ill-formed: a flit of no symbol. -/
theorem test_wf_rawFlitIn : Instr.wellFormed (.rawFlitIn 0 []) = false := by decide

/-- Ill-formed: a flit of 49 symbols. -/
theorem test_wf_rawFlitIn_long : Instr.wellFormed (.rawFlitIn 0 (List.replicate 49 0x155)) = false := by decide

/-- Ill-formed: a monitor interval without its 112 cells. -/
theorem test_wf_monitorInterval : Instr.wellFormed (.monitorInterval (List.replicate 111 0) (List.replicate 7 0)) = false := by decide

/-- Ill-formed: a monitor interval without its 7 other figures. -/
theorem test_wf_monitorInterval_other : Instr.wellFormed (.monitorInterval (List.replicate 112 0) []) = false := by decide

/-- Ill-formed: a housekeeping round without its 256 values. -/
theorem test_wf_hkRound : Instr.wellFormed (.hkRound []) = false := by decide

/-- Ill-formed: a mirror request to another node. -/
theorem test_wf_readStatus : Instr.wellFormed (.readStatus (.mirror (rqOf .nrd 5 0 8 0))) = false := by decide

/-- Ill-formed: a command block of other than 16 bytes. -/
theorem test_wf_command : Instr.wellFormed (.command (.pins 0xDF 0 [])) = false := by decide

/-- Ill-formed: a command block at another offset. -/
theorem test_wf_command_mirror : Instr.wellFormed (.command (.mirror (rqOf .nwr 6 8 16 16))) = false := by decide

/-- Ill-formed: no byte. -/
theorem test_wf_dataIn : Instr.wellFormed (.dataIn (.pins 0xDD 0 [])) = false := by decide

/-- Ill-formed: an offset below the data window. -/
theorem test_wf_dataIn_mirror : Instr.wellFormed (.dataIn (.mirror (rqOf .nwr 6 0 8 8))) = false := by decide

/-- Ill-formed: no byte. -/
theorem test_wf_dataOut : Instr.wellFormed (.dataOut ⟨0xDB, 0⟩ 0) = false := by decide

/-- Ill-formed: 4,097 bytes. -/
theorem test_wf_dataOut_long : Instr.wellFormed (.dataOut ⟨0xDB, 0⟩ 4097) = false := by decide

/-- Ill-formed: a boundary scan with levels of other than 32 banks. -/
theorem test_wf_extest : Instr.wellFormed (.extest (some ⟨[], 0, 0⟩)) = false := by decide

/-- Ill-formed: levels of other than 32 banks. -/
theorem test_wf_samplePreload : Instr.wellFormed (.samplePreload [] 0 0) = false := by decide

/-- Ill-formed: a code that R471 lists. -/
theorem test_wf_bypass : Instr.wellFormed (.bypass 1) = false := by decide

/-- Ill-formed: another node. -/
theorem test_wf_debugEndpointAccess : Instr.wellFormed (.debugEndpointAccess (rqOf .nrd 6 0 4 0)) = false := by decide

/-- Ill-formed: a write without its bytes. -/
theorem test_wf_debugEndpointAccess_size : Instr.wellFormed (.debugEndpointAccess (rqOf .nwr 7 0 4 3)) = false := by decide

/-- Ill-formed: a write without its bytes. -/
theorem test_wf_stimWrite : Instr.wellFormed (.stimWrite (rqOf .nwr 0x24 0 4 3)) = false := by decide

/-- An ill-formed command stops under its name. -/
theorem test_illFormed_stops : (match exec (.bypass 1) State.reset with | .fault (.illFormed m) => m == "BYPASS" | _ => false) = true := by decide

/-! ## Witnesses: every statement's hypotheses are met together -/

/-- A state after reset with field f at v. -/
abbrev w (s : State) (f : Fld) (v : Nat) : State := s.wr f v

/-- Region 0 in RUN on a toggling clock network 0, its domain on, plane 0 active. -/
def runState : State :=
  (((((State.reset.wr (R.REGION_STATUS_STATE 0) 2).wr (R.CLK_NET_CFG_EN 0) 1).wr (R.CLK_NET_CFG_LOCKED 0) 1).wr (R.PWR_DOM_CTL_STATE 0) 2).wr
    (R.REGION_STATUS_HAS_ACTIVE 0) 1)

/-- An initiator outside the device. -/
def host : Ini := ⟨1, 0x40⟩
/-- Region 0 as in runState, with its configuration domain on. -/
def ctxState : State := runState.wr (R.PWR_DOM_CTL_STATE 64) 2
/-- Region 0 with its configuration domain on, in the PLANE_LOAD section of plane 1, before frame 5. -/
def loadState : State :=
  { (ctxState.wr R.IMG_STATUS_STATE 2).wr (planeFld 0 1) 1 with
    img := { typ := 1, region := 0, plane := 1, frame := 5, left := 1994240 }, imgPlanes := [(0, 1)] }
/-- Region 0 with a READY shadow of plane 1 and a swap to it armed for boundary b, which is decided. -/
def armedAt (b : Nat) : State :=
  ((ctxState.wr (R.REGION_STATUS_SHADOW_STATE 0) 3).wr (R.REGION_STATUS_SHADOW_PLANE 0) 1).setRegion 0
    { arms := [(b, ⟨some 1, .host⟩)], decided := true, clampIn := false, clampOut := false }
/-- Thread 0 in state x at word 0 of instruction memory, which holds w. -/
def threadAt (x : TState) (w : Nat) : State :=
  ((State.reset.wr (R.SEQ_THR_STATUS_STATE 0) x.code).wr (R.IMEM_LO_WORD 0) (w % 2 ^ 32)).wr (R.IMEM_HI_WORD 0) (w / 2 ^ 32)
/-- Step 6 of the start with a host allowed to load, and a request that brings image bytes at the management endpoint. -/
def stepSix : State := State.reset.wr R.START_STAT_STEP 6

/-- k bytes of value b to the management endpoint from an offset on. -/
def imageRq (off k b : Nat) : ImgIn := .mgmt ⟨host, 0, ⟨.nwr, 0, 5, off, k, List.replicate k (BitVec.ofNat 8 b), 0⟩⟩

/-- A number of at most k bytes comes back from its little-endian bytes. -/
theorem test_leNat_leBytes (k v : Nat) (h : v < 256 ^ k) : leNat (leBytes k v) = v := by
  induction k generalizing v with
  | zero => simp [leBytes, leNat] at *; omega
  | succ k ih =>
    have := ih (v / 256) (by rw [Nat.pow_succ] at h; omega)
    simp [leBytes, leNat, this]; omega
/-- Region 0 as in ctxState with the patrol running and plane 0 VALID. -/
def patrolState : State := { (ctxState.wr R.PATROL_CTL_EN 1).wr (planeFld 0 0) 2 with stackLoaded := true }.wr (R.STACK_REGION_MAP_USABLE 0) 1
/-- A read request of 8 bytes for an address, as a region's port sends it. -/
def readPacket (addr : Nat) : Packet := ⟨0x10, .req, false, 0, 0, 0, 0, 0, 0, 0x200, addr, 8, 0, 0, 0, 0, []⟩
/-- One populated channel, a slice set of slice 0, an enabled window over the first 256 MB under key ID 3. -/
def larderState : State :=
  ((((runState.wr R.SD_CFG_POP 1).wr (R.LARDER_SET_MEMBER 0) 1).wr (R.MKEY_WIN_BASE_EN 0) 1).wr (R.MKEY_WIN_BASE_KEY_ID 0) 3).wr R.LARDER_IMBAL_CFG_EN 0
/-- A request of 8 bytes to the first line. -/
def lineRead : Request := ⟨host, 0, ⟨.rd, 0, 0, 0, 8, [], 0⟩⟩
/-- A write of the first line. -/
def lineWrite : Request := ⟨host, 0, ⟨.wr, 0, 0, 0, 128, List.replicate 128 1, 0⟩⟩
/-- An 8-byte access of bank 5 by a host, at offset 16. -/
def bankRq (op : ReqOp) (data : List Byte) : Request := ⟨host, 0, ⟨op, 0, 0, 0x400000A0010, 8, data, 0⟩⟩
/-- Channel 0 is populated and READY; key ID 3 is named by window 0. -/
def sdState : State := larderState.wr (R.SD_CH_CTL_STATE 0) 3
/-- Link 0 in a state: its domain is ON, width 1. -/
def linkState (x : LState) : State :=
  let s := ((runState.wr (R.PWR_DOM_CTL_STATE 88) 2).wr (R.LINK_CTL_WIDTH 0) 0).wr (R.LINK_CTL_RATE 0) 0
  let s := ((s.wr (R.LINK_CTL_SSC 0) 0).wr R.NET_CFG_DEV_NUM 3).wr (R.LINK_CTL_MODE 0) 1
  (s.setLstate 0 x).wr R.IMG_STATUS_STARTED 1
/-- A training set of kind k with the bytes bs, as lane 0 receives it from running disparity − on (R332, R336). -/
def rxSet (k : Nat) (bs : List Byte) : RxSet :=
  ⟨false, (encodeColumns 0 0 ((symComma :: dataSym k :: (bs ++ List.replicate 4 0xB5).map fun (b : Byte) => dataSym b.toNat).map fun y => [y])).1.flatten⟩

/-- The sets of lane 0 in state x: a frame of the content c, with its CRC, from running disparity − on (R332, R338). -/
def rxFrame (c : List Byte) (crc : Nat) : RxFrame :=
  ⟨0, (encodeColumns 0 0 ((symStart :: (c ++ leBytes 4 crc).map (fun b => dataSym b.toNat) ++ [symEnd]).map fun y => [y])).1, 0, 0⟩
theorem pairOf {α β : Type} {p : α × β} {a : α} (h : p.1 = a) : p = (a, p.2) := by cases p; cases h; rfl
/-- A twin device: partner 9, in pair state `x`. -/
def twinState (x : PState) : State := ((runState.wr R.TWIN_CFG_EN 1).wr R.TWIN_PEER_PEER_DEV 9).wr R.TWIN_CTL_STATE x.code
/-- A record of a kind from the partner, with 16 bytes of payload. -/
def twinRq (kind : Nat) : Request := ⟨⟨9, twinNode⟩, 0, ⟨.nwr, 3, twinNode, kind * 2 ^ 40, 16, List.replicate 16 0, 0⟩⟩
/-- A flash directory that names a primary image at 4,096. -/
def bootDir : BitVec 256 :=
  let bs := leBytes 4 0x52494458 ++ leBytes 4 0 ++ leBytes 8 4096 ++ leBytes 8 0 ++ leBytes 4 0
  BitVec.ofNat 256 (leNat (bs ++ leBytes 4 (Alg.of .crc32 bs)))
/-- Step 6 with flash images permitted by the settings. -/
def bootState : State := (State.reset.wr R.START_STAT_STEP 6).setStart { settings := 1 }
/-- The start at step k. -/
def atStep (k : Nat) : State := State.reset.wr R.START_STAT_STEP k
/-- The front desk runs the command with a CODE. -/
def deskState (code arg0 arg1 : Nat) : State :=
  { (atStep 9).setDesk { ready := true, status := 1, code := code, arg0 := arg0, arg1 := arg1 } with lcFuses := { State.reset.lcFuses with lcRows := (7, 7, 7) } }
/-- s with every supply of R394 at the low end of its range, as a round of the housekeeper read it. -/
def supplied (s : State) : State :=
  (List.range 11).foldl (fun s i => (s.wr (R.HK_CHAN_VALUE (192 + i)) (supplyRange s.fuses.speed (192 + i)).1).wr (R.HK_CHAN_VALID (192 + i)) 1) s
/-- A device in a life-cycle state. -/
def lcState (n : Nat) : State := { runState with lcFuses := { runState.lcFuses with lcRows := (2 ^ n - 1, 2 ^ n - 1, 2 ^ n - 1) } }
/-- Both debug ports hold FULL sessions, and the DBG instruction is in effect. -/
def dbgState : State := ((lcState 2).wr R.DBG_SESSION_STAT_OLI_LEVEL 2).wr R.DBG_SESSION_STAT_JTAG_LEVEL 2 |>.setJtag { ir := 16 }
theorem test_meets_StepKeepsInvariant : ∃ s t : State, s.inv = true ∧ step s = .next t :=
  ⟨{ State.reset with pending := [.lcAdvanced] }, _, by decide, rfl⟩
theorem test_meets_WaitingCommandsDrain : ∃ (k : Nat) (s : State), k = 2 ∧ s.queueOk = true ∧ k ≤ s.pending.length :=
  ⟨2, { State.reset with pending := [.idcode, .dbg, .scan] }, rfl, by decide +kernel⟩

theorem test_meets_RegisterBus_1 : ∃ (ini : Ini) (off : BitVec 28) (v : BitVec 32) (s : State) (r : Reg), (off.toNat % 4 = 0) ∧ (regAt off.toNat = some r) ∧ (r.pair = none) ∧ (s.turnedAway off.toNat = none) ∧ (inDebug off.toNat = false) ∧ (s.writeBarred ini off.toNat r v = false) :=
  ⟨host, 0x400100, 5, State.reset, .PLANE_CMD, by decide +kernel⟩

theorem test_meets_RegisterBus_2 : ∃ (ini : Ini) (off : BitVec 28) (size : Nat) (v : BitVec 32) (poison : Bool) (s : State), (size ≠ 4 ∨ off.toNat % 4 ≠ 0) :=
  ⟨host, 2, 4, 5, false, State.reset, by decide +kernel⟩

theorem test_meets_RegisterBus_3 : ∃ (ini : Ini) (off : BitVec 28) (s : State) (r : Reg), (off.toNat % 4 = 0) ∧ (regAt off.toNat = some r) ∧ (r.pair = none) ∧ (s.turnedAway off.toNat = none) ∧ (inDebug off.toNat = false) ∧ (s.peeks ini = false) :=
  ⟨host, 0x400100, State.reset, .PLANE_CMD, by decide +kernel⟩

theorem test_meets_RegisterBus_4 : ∃ (ini : Ini) (off : BitVec 28) (s : State) (r hi : Reg), (off.toNat % 4 = 0) ∧ (regAt off.toNat = some r) ∧ (r.pair = some (hi, false)) ∧ (s.turnedAway off.toNat = none) ∧ (inDebug off.toNat = false) ∧ (s.peeks ini = false) :=
  ⟨host, 0x200010, State.reset, .TICK_COUNT_LO, .TICK_COUNT_HI, by decide +kernel⟩

theorem test_meets_RegisterBus_5 : ∃ (ini : Ini) (off : BitVec 28) (s : State) (r lo : Reg) (v : Nat), (off.toNat % 4 = 0) ∧ (regAt off.toNat = some r) ∧ (r.pair = some (lo, true)) ∧ (s.turnedAway off.toNat = none) ∧ (inDebug off.toNat = false) ∧ (s.peeks ini = false) ∧ (storeGet none (pairKey (off.toNat - 4) ini) s.captures = some v) :=
  ⟨host, 0x200014, { State.reset with captures := [(pairKey 0x200010 host, some 9)] }, .TICK_COUNT_HI, .TICK_COUNT_LO, 9, by decide +kernel⟩

theorem test_meets_RegisterBus_6 : ∃ (ini : Ini) (off : BitVec 28) (v : BitVec 32) (s : State) (r hi : Reg), (off.toNat % 4 = 0) ∧ (regAt off.toNat = some r) ∧ (r.pair = some (hi, false)) ∧ (r.writable = true) ∧ (s.turnedAway off.toNat = none) ∧ (inDebug off.toNat = false) ∧ (s.writeBarred ini off.toNat r v = false) :=
  ⟨host, 0x7C01010, 3, State.reset, .THERM_NOTIFY_LO, .THERM_NOTIFY_HI, by decide +kernel⟩

theorem test_meets_RegisterBus_7 : ∃ r lo, regAt (0x7C01010 + 4) = some r ∧ r.pair = some (lo, true) ∧ r.writable = true ∧ State.reset.turnedAway (0x7C01010 + 4) = none ∧
    inDebug (0x7C01010 + 4) = false ∧ State.reset.writeBarred host (0x7C01010 + 4) r 3 = false ∧ ∀ w, r ≠ .IMEM_HI w :=
  ⟨.THERM_NOTIFY_HI, .THERM_NOTIFY_LO, by decide, by decide, by decide, by decide, by decide, by decide, fun _ h => nomatch h⟩

theorem test_meets_RegisterBus_8 : ∃ (ini : Ini) (off : BitVec 28) (v : BitVec 32) (s : State) (r : Reg), (off.toNat % 4 = 0) ∧ (regAt off.toNat = some r) ∧ (s.turnedAway off.toNat = none) ∧ (inDebug off.toNat = false) :=
  ⟨host, 0x400100, 5, State.reset, .PLANE_CMD, by decide +kernel⟩

theorem test_meets_RegisterBus_9 : ∃ (ini : Ini) (off : BitVec 28) (s : State) (r : Reg), (off.toNat % 4 = 0) ∧ (regAt off.toNat = some r) ∧ (r.pair = none) ∧ (s.turnedAway off.toNat = none) ∧ (inDebug off.toNat = false) ∧ (s.peeks ini = true) :=
  ⟨⟨0, 7⟩, 0x400100, State.reset, .PLANE_CMD, by decide +kernel⟩

theorem test_meets_RegisterBus_10 : ∃ (ini : Ini) (off : BitVec 28) (v : BitVec 32) (poison : Bool) (code : Resp) (s : State), (off.toNat % 4 = 0) ∧ (s.turnedAway off.toNat = some code) :=
  ⟨host, 0x400100, 5, false, .denied, { State.reset with selfTest := { undef := true } }, by decide +kernel⟩

theorem test_meets_RegisterBus_11 : ∃ (c : Instr) (ini : Ini) (off : Nat) (code : Resp) (s : State), (s.access c = some (ini, off)) ∧ (s.turnedAway off = some code) :=
  ⟨.takeover host, host, R.TWIN_CTL_STATE.off, .denied, { State.reset with selfTest := { undef := true } }, by decide +kernel⟩

theorem test_meets_FabricChannelsAndWindow_1 : ∃ (x : Fin 256) (y : Fin 192) (c : Fin 256) (change : Bool) (s : State), (s.rstate (faceSender x.val y.val c.val) ≠ .off) ∧ (change = false ∨ s.faceDriven x.val y.val c.val = (s.face x.val y.val c.val).sent) ∧ ((s.face x.val y.val c.val).due ≤ s.now ∨ (s.face x.val y.val c.val).left = 0) :=
  ⟨0, 0, 0, false, runState, by decide +kernel⟩

theorem test_meets_FabricChannelsAndWindow_2 : ∃ (s : State), s.rstate (faceSender 0 0 0) ≠ .off ∧ s.computes (faceSender 0 0 0) = true ∧ s.faceDriven 0 0 0 = !(s.face 0 0 0).sent :=
  ⟨{ runState with faces := [(faceKey 0 0 0, ⟨true, true, 64, 64⟩)] }, by decide, by decide, by
    unfold State.faceDriven State.flop State.latch; simp [storeGet, runState, State.reset, State.wr, Frame.erased]; decide⟩

theorem test_meets_FabricChannelsAndWindow_3 : ∃ (x : Fin 256) (y : Fin 192) (c : Fin 256) (change : Bool) (s : State), (s.rstate (faceSender x.val y.val c.val) = .off ∨ (change = false ∧ s.now < (s.face x.val y.val c.val).due ∧ (s.face x.val y.val c.val).left ≠ 0)) :=
  ⟨0, 0, 0, true, State.reset, by decide +kernel⟩

theorem test_meets_FabricChannelsAndWindow_4 : ∃ (rq : Request) (off : Nat) (s : State), (isWrite rq.acc.op = true → rq.acc.data.length = rq.acc.size) ∧ (bramOffset rq.acc = some off) ∧ (¬ 64 ≤ off / 0x180000) ∧ (rq.acc.size = 8 ∨ rq.acc.size = 16 ∨ rq.acc.size = 32 ∨ rq.acc.size = 64 ∨ rq.acc.size = 128) ∧ (rq.acc.addr % rq.acc.size = 0) ∧ (s.unusable (off / 0x180000) = false) ∧ (s.underTest.contains (.bram (off / 0x180000)) = false ∧ s.keptByTest.contains (.bram (off / 0x180000)) = false) ∧ (s.dstate (off / 0x180000) = .on) :=
  ⟨⟨host, 0, ⟨.rd, 0, 0, 0x50000000008, 8, [], 0⟩⟩, 8, runState, by decide +kernel⟩

theorem test_meets_FabricChannelsAndWindow_5 : ∃ (n : Fin 64) (edge : Fin 8) (e : Nat) (p : Nat × Nat) (wa : WinAcc) (s : State), (s.bwin = [wa]) ∧ (wa.block / 192 = n.val) ∧ (wa.left = 1) ∧ (isWrite wa.rq.acc.op = true) ∧ (wa.rq.acc.size = 8) ∧ (wa.rq.acc.poison = 0) ∧ ((s.netEdges (s.rd (R.REGION_CLK_CLK_SEL n.val)))[edge.val]? = some (e, p)) ∧ (s.clockRuns n.val = true) ∧ (s.ramBusy n.val (wa.block % 192) = false) ∧ (s.ramUsed n.val (wa.block % 192) p = false) :=
  ⟨0, 0, 0, (0, 32), ⟨⟨host, 0, ⟨.wr, 0, 0, 0x50000000008, 8, [1, 0, 0, 0, 0, 0, 0, 0], 0⟩⟩, 0, 1, 1, []⟩, { w runState (R.REGION_STATUS_STATE 0) 1 with bwin := [⟨⟨host, 0, ⟨.wr, 0, 0, 0x50000000008, 8, [1, 0, 0, 0, 0, 0, 0, 0], 0⟩⟩, 0, 1, 1, []⟩] }, by decide +kernel⟩

theorem test_meets_FabricChannelsAndWindow_6 : ∃ (n : Fin 64) (edge : Fin 8) (e : Nat) (p : Nat × Nat) (wa : WinAcc) (s : State), (s.bwin = [wa]) ∧ (wa.block / 192 = n.val) ∧ (wa.left = 1) ∧ (isWrite wa.rq.acc.op = false) ∧ ((s.netEdges (s.rd (R.REGION_CLK_CLK_SEL n.val)))[edge.val]? = some (e, p)) ∧ (s.clockRuns n.val = true) ∧ (s.ramBusy n.val (wa.block % 192) = false) ∧ (s.ramUsed n.val (wa.block % 192) p = false) :=
  ⟨0, 0, 0, (0, 32), ⟨⟨host, 0, ⟨.rd, 0, 0, 0x50000000008, 8, [], 0⟩⟩, 0, 1, 1, []⟩, { w runState (R.REGION_STATUS_STATE 0) 1 with bwin := [⟨⟨host, 0, ⟨.rd, 0, 0, 0x50000000008, 8, [], 0⟩⟩, 0, 1, 1, []⟩] }, by decide +kernel⟩

theorem test_meets_FabricChannelsAndWindow_7 : ∃ (n : Fin 64) (edge : Fin 8) (e : Nat) (p : Nat × Nat) (wa : WinAcc) (s : State), (s.bwin = [wa]) ∧ (wa.block / 192 = n.val) ∧ (wa.left = 1) ∧ (isWrite wa.rq.acc.op = true) ∧ (wa.rq.acc.size = 8) ∧ ((wa.rq.acc.poison >>> accessWord wa.rq.acc 0) % 2 = 1) ∧ (s.rd (R.BRAM_ECC_PDROP n.val) ≠ 0) ∧ ((s.netEdges (s.rd (R.REGION_CLK_CLK_SEL n.val)))[edge.val]? = some (e, p)) ∧ (s.clockRuns n.val = true) ∧ (s.ramBusy n.val (wa.block % 192) = false) ∧ (s.ramUsed n.val (wa.block % 192) p = false) :=
  ⟨0, 0, 0, (0, 32), ⟨⟨host, 0, ⟨.wr, 0, 0, 0x50000000008, 8, [1, 0, 0, 0, 0, 0, 0, 0], 1⟩⟩, 0, 1, 1, []⟩, { w (w runState (R.REGION_STATUS_STATE 0) 1) (R.BRAM_ECC_PDROP 0) 3 with bwin := [⟨⟨host, 0, ⟨.wr, 0, 0, 0x50000000008, 8, [1, 0, 0, 0, 0, 0, 0, 0], 1⟩⟩, 0, 1, 1, []⟩] }, by decide +kernel⟩

theorem test_meets_FabricChannelsAndWindow_8 : ∃ (n k row mask value und : Nat) (p : Nat × Nat) (s : State), (s.windowClash n k row p = (0, 0)) ∧ (mask ≠ 0) :=
  ⟨0, 0, 1, 2 ^ 36 - 1, 5, 0, (0, 1), w runState (R.REGION_STATUS_STATE 0) 1, by decide +kernel⟩

theorem test_meets_FabricChannelsAndWindow_9 : ∃ (el : ElementCfg) (cl : ClusterCfg), el = Config.element (runState.active 0) 0 0 ∧ cl = Config.cluster (runState.active 0) 0 0 := ⟨_, _, rfl, rfl⟩

theorem test_meets_FabricChannelsAndWindow_10 : ∃ (s : State) (ticks : List Nat) (n i : Nat), (ticks ≠ []) ∧ (i < 245760) ∧ (s.is1 (R.REGION_STATUS_HAS_ACTIVE n) = true) :=
  ⟨runState, [0], 0, 5, by decide +kernel⟩

theorem test_meets_FabricChannelsAndWindow_11 : ∃ (u : SliceUse) (x y x1 x2 y1 y2 : BitVec 27) (w w1 w2 cin cin1 cin2 : Word) (r : SliceRegs), (u.useX = true ∧ u.useY = true ∧ u.useM = true) ∧ (u.cfg.saturate = false) :=
  ⟨⟨⟨false, true, 0, false⟩, true, true, false, true, 0, [], [], [], [], .zero⟩, 3, 5, 0, 0, 0, 0, 0, 0, 0, 0, 0, 0, {}, by decide +kernel⟩

theorem test_meets_FabricChannelsAndWindow_13 : ∃ (s : State) (n m j : Nat) (b : Bool), (j < 256) :=
  ⟨runState, 0, 1, 3, true, by decide +kernel⟩

theorem test_meets_FabricChannelsAndWindow_14 : ∃ (n t m q : Nat) (d : Dir) (k : WireKind), (n < 64) ∧ (t < 1536) ∧ (wireStart n t d (wireSpan k) = some (m, q)) :=
  ⟨0, 1, 0, 0, .east, .single, by decide +kernel⟩

theorem test_meets_FabricChannelsAndWindow_15 : ∃ (s : State) (n m g live : Nat), (groupSender n g = some m) ∧ ((s.cellCfg n g).sync2 = false) ∧ (s.clamped n m = true) :=
  ⟨w (runState.setRegion 0 { clampIn := true }) (R.REGION_STATUS_HAS_ACTIVE 0) 0, 0, 32, 160, 1, by decide +kernel⟩

theorem test_meets_ClockNetworks_1 : ∃ (ini : Ini) (g : Fin 32) (v : BitVec 32) (s u : State) (m d o : Nat), (u = s.quiet.w1cOnly (.CLK_NET_CFG g.val) v) ∧ (m = (R.CLK_NET_CFG_M_M1 g.val).of v ∧ d = (R.CLK_NET_CFG_D_M1 g.val).of v ∧ o = (R.CLK_NET_CFG_O_M1 g.val).of v) ∧ (7 ≤ m) ∧ (clkValid u.fuses.speed (m + 1) (d + 1) (o + 1) = true) ∧ (u.clkBusy g.val = false) ∧ (u.rd (R.CLK_NET_CFG_EN g.val) ≠ (R.CLK_NET_CFG_EN g.val).of v) ∧ (s.turnedAway (R.CLK_NET_CFG_EN g.val).off = none) :=
  ⟨host, 0, 0x8001CF80, State.reset, _, 31, 0, 7, rfl, by decide +kernel⟩

theorem test_meets_ClockNetworks_2 : ∃ (g : Fin 32) (s : State), (s.is1 (R.CLK_NET_CFG_EN g.val) = true) ∧ (s.is1 (R.CLK_NET_CFG_LOCKED g.val) = false) :=
  ⟨0, State.reset.wr (R.CLK_NET_CFG_EN 0) 1, by decide +kernel⟩

theorem test_meets_ClockNetworks_3 : ∃ (g : Fin 32) (s : State), (s.is1 (R.CLK_NET_CFG_LOCKED g.val) = true) :=
  ⟨0, runState, by decide +kernel⟩

theorem test_meets_ClockNetworks_4 : ∃ (ini : Ini) (n : Fin 64) (v : BitVec 32) (s u : State), (u = s.quiet.w1cOnly (.REGION_CLK n.val) v) ∧ (u.rstate n.val = .off ∨ u.rstate n.val = .idle) ∧ (s.turnedAway (R.REGION_CLK_CLK_SEL n.val).off = none) :=
  ⟨host, 0, 3, State.reset, _, rfl, by decide +kernel⟩

theorem test_meets_ClockNetworks_5 : ∃ (ini : Ini) (n : Fin 64) (v : BitVec 32) (s u : State), (u = s.quiet.w1cOnly (.REGION_CLK n.val) v) ∧ (u.rstate n.val ≠ .off) ∧ (u.rstate n.val ≠ .idle) ∧ (s.turnedAway (R.REGION_CLK_CLK_SEL n.val).off = none) :=
  ⟨host, 0, 0, runState, _, rfl, by decide +kernel⟩

theorem test_meets_ClockNetworks_6 : ∃ (s : State) (g j a b k q mm : Nat), (k = s.now - storeGet 0 g s.clkStart) ∧ (q = (s.rd (R.CLK_NET_CFG_D_M1 g) + 1) * (s.rd (R.CLK_NET_CFG_O_M1 g) + 1)) ∧ (mm = s.rd (R.CLK_NET_CFG_M_M1 g) + 1) ∧ (s.is1 (R.CLK_NET_CFG_EN g) = true ∧ s.is1 (R.CLK_NET_CFG_LOCKED g) = true) :=
  ⟨runState, 0, 0, 0, 1, _, _, _, rfl, rfl, rfl, by decide +kernel⟩

theorem test_meets_RegionPortsNet_1 : ∃ (n : Fin 64) (p : Fin 4) (acc : Access) (s : State), (s.portMode n.val p.val = 0) ∧ (s.takesFlits n.val = true) ∧ (s.dstate n.val = .on) ∧ (s.maySend (regionNode n.val p.val) = true) ∧ ((s.port n.val p.val).inUse (s.rd (R.REGION_STATUS_ACTIVE_PLANE n.val)) < s.rd (slotFld n.val p.val (s.rd (R.REGION_STATUS_ACTIVE_PLANE n.val)))) :=
  ⟨0, 0, ⟨.rd, 0, 0, 0x1000, 8, [], 0⟩, runState, by decide +kernel⟩

theorem test_meets_RegionPortsNet_2 : ∃ (s u : State), s.quiet.takeAnswer (regionNode 0 0) 0 ⟨.ok, [], 0⟩ = some u ∧
    (s.port 0 0).waiting = [(u.rd (R.REGION_STATUS_ACTIVE_PLANE 0), 0)] ∧ u.is1 (R.REGION_STATUS_HAS_ACTIVE 0) = true :=
  ⟨{ runState.setPort 0 0 { waiting := [(0, 0)] } with outst := [⟨regionNode 0 0, 0, 1, none, false, false⟩] }, _, rfl, by decide +kernel⟩

theorem test_meets_RegionPortsNet_3 : ∃ (n : Fin 64) (p : Fin 4) (rq : Request) (s : State), (s.unusable n.val = false) ∧ (s.portMode n.val p.val = 0) ∧ (s.dstate n.val = .on) ∧ (s.rstate n.val = .run) ∧ ((s.region n.val).clamping = none) ∧ (s.clockRuns n.val = true) ∧ ((s.port n.val p.val).inq = []) :=
  ⟨0, 0, ⟨host, 0, ⟨.nrd, 0, 0x200, 0, 8, [], 0⟩⟩, runState, by decide +kernel⟩

theorem test_meets_RegionPortsNet_4 : ∃ (ini : Ini) (n : Fin 64) (p : Fin 4) (v : BitVec 32) (s u x y : State), (u = s.quiet.w1cOnly (.REGION_PORT_CFG n.val p.val) v) ∧ (x = u.storeReg (.REGION_PORT_CFG n.val p.val) v) ∧ (x.regValue (.REGION_PORT_CFG n.val p.val) ≠ u.regValue (.REGION_PORT_CFG n.val p.val)) ∧ (u.rstate n.val = .off ∨ u.rstate n.val = .idle) ∧ (x.portMode n.val p.val ≠ 1 ∨ u.boundElsewhere (x.rd (R.REGION_PORT_CFG_BANK n.val p.val)) n.val p.val = false) ∧ (y = x.setPort n.val p.val { x.port n.val p.val with pinIn := [], pinOut := [], pinDue := [], pinTaken := 0, pinFirst := false, inq := if x.portMode n.val p.val = 0 then (x.port n.val p.val).inq else [] }) ∧ (s.turnedAway (R.REGION_PORT_CFG_MODE n.val p.val).off = none) :=
  ⟨host, 0, 0, 2, State.reset, _, _, _, rfl, rfl, by decide +kernel, by decide +kernel, by decide +kernel, rfl, by decide +kernel⟩

theorem test_meets_RegionPortsNet_5 : ∃ (ini : Ini) (n : Fin 64) (p : Fin 4) (v : BitVec 32) (s : State), (slotsSum v ≤ 48) ∧ (s.rstate n.val = .off ∨ s.rstate n.val = .idle) ∧ ((s.port n.val p.val).parked = []) ∧ ((s.port n.val p.val).waiting = []) ∧ (s.turnedAway (slotFld n.val p.val 0).off = none) :=
  ⟨host, 0, 0, 0x11111111, State.reset, by decide +kernel⟩

theorem test_meets_PinsThroughPorts_1 : ∃ (n : Fin 64) (p : Fin 4) (samples : List (BitVec 32)) (first : Bool) (rest : List (Nat × Bool)) (s u : State), (¬ (samples.length = 0 ∨ 16 < samples.length)) ∧ (s.is1 (R.GPIO_BANK_CFG_VCCIO_OK (s.rd (R.REGION_PORT_CFG_BANK n.val p.val))) = true) ∧ ((s.port n.val p.val).pinDue = (samples.length, first) :: rest) ∧ (s.portMode n.val p.val = 1) ∧ (u = s.quiet.wr (R.GPIO_IN_PINS (s.rd (R.REGION_PORT_CFG_BANK n.val p.val))) (samples.getLastD 0).toNat) ∧ (u.rstate n.val ≠ .off) ∧ ((s.port n.val p.val).pinIn.length < 4) :=
  ⟨0, 0, [5], false, [], ((runState.wr (R.REGION_PORT_CFG_MODE 0 0) 1).wr (R.GPIO_BANK_CFG_VCCIO_OK 0) 1).setPort 0 0 { pinDue := [(1, false)] }, _, by decide +kernel, by decide +kernel, by decide +kernel, by decide +kernel, rfl, by decide +kernel⟩

theorem test_meets_PinsThroughPorts_2 : ∃ (n : Fin 64) (p : Fin 4) (samples : List (BitVec 32 × BitVec 32)) (b : Nat) (s : State), (samples.length = 8) ∧ (s.portMode n.val p.val = 1) ∧ (s.takesFlits n.val = true) ∧ (b = s.rd (R.REGION_PORT_CFG_BANK n.val p.val)) :=
  ⟨0, 0, List.replicate 8 (0, 0), _, runState.wr (R.REGION_PORT_CFG_MODE 0 0) 1, by decide +kernel, by decide +kernel, by decide +kernel, rfl⟩

theorem test_meets_PinsThroughPorts_3 : ∃ (n : Fin 64) (p : Fin 4) (s u : State) (b : Nat), (s.portMode n.val p.val = 1) ∧ (s.sampleEdge n.val p.val = true) ∧ (s.sampleReady n.val p.val = false) ∧ (u = s.quiet.set1 (R.REGION_PORT_STAT_PIN_UNDERRUN n.val p.val)) ∧ (b = u.rd (R.REGION_PORT_CFG_BANK n.val p.val)) ∧ (u.is1 (R.REGION_PORT_CFG_UNDERRUN_POL n.val p.val) = true) :=
  ⟨0, 0, (runState.wr (R.REGION_PORT_CFG_MODE 0 0) 1).wr (R.REGION_PORT_CFG_UNDERRUN_POL 0 0) 1, _, 0, by decide +kernel, by decide +kernel, by decide +kernel, rfl, by decide +kernel⟩

theorem test_meets_PinsThroughPorts_4 : ∃ (n : Fin 64) (k : Fin 4) (s u : State), (s.rstate n.val = .run ∧ (s.region n.val).clamping = none ∧ s.clockRuns n.val = true) ∧ (s.bit (R.REGION_LINES_EVT_PENDING n.val) k.val = true) ∧ (u = s.quiet.clrBit (R.REGION_LINES_EVT_PENDING n.val) k.val) :=
  ⟨0, 0, runState.wr (R.REGION_LINES_EVT_PENDING 0) 1, _, by decide +kernel, by decide +kernel, rfl⟩

theorem test_meets_PinsThroughPorts_5 : ∃ (n : Fin 64) (k : Fin 4) (s : State), (s.rstate n.val ≠ .run ∨ s.bit (R.REGION_LINES_EVT_PENDING n.val) k.val = false) :=
  ⟨0, 0, runState, by decide +kernel⟩

theorem test_meets_PlanesErasedAndLoaded_1 : ∃ (ini : Ini) (n : Fin 64) (p : Fin 8) (s u v : State), (u = (s.quiet.wr R.PLANE_CMD_REGION n.val).wr R.PLANE_CMD_PLANE p.val) ∧ (u.is1 R.PLANE_CMD_BUSY = false ∧ u.plActive n.val p.val = false ∧ u.loadingPlane n.val p.val = false ∧ u.loadOpen n.val p.val = false) ∧ (u.plState n.val p.val ≠ .dark) ∧ (u.dstate (64 + n.val / 4) = .on) ∧ (u.unusable n.val = false) ∧ (v = (u.set1 R.PLANE_CMD_BUSY).setPlState n.val p.val .empty) ∧ (v.shadowHas n.val p.val = false) ∧ ((v.region n.val).spill = none) ∧ (s.turnedAway R.PLANE_CMD_CMD.off = none) :=
  ⟨host, 0, 1, ctxState, _, _, rfl, by decide +kernel, by decide +kernel, by decide +kernel, by decide +kernel, rfl, by decide +kernel⟩

theorem test_meets_PlanesErasedAndLoaded_2 : ∃ (n p : Nat) (s : State), (s.erasing = some (n, p)) ∧ (s.heldLoads = []) :=
  ⟨0, 1, { ctxState with erasing := some (0, 1) }, by decide +kernel⟩

theorem test_meets_PlanesErasedAndLoaded_3 : ∃ (n : Fin 64) (p : Fin 8) (f : Fin 3900) (s : State), s.frameDue n.val p.val f.val = true :=
  ⟨0, 1, 5, loadState, by decide⟩

theorem test_meets_PlanesErasedAndLoaded_4 : ∃ (n : Fin 64) (p : Fin 8) (f : Fin 3900) (data : BitVec 4096) (s : State), (s.frameDue n.val p.val f.val = false) :=
  ⟨0, 0, 0, 7, State.reset, by decide +kernel⟩

theorem test_meets_PlanesErasedAndLoaded_5 : ∃ (n p f data : Nat) (s : State), (s.plActive n p = false) ∧ (s.planesShut n = false) ∧ (s.erasing ≠ some (n, p)) ∧ (s.plState n p = .dark) ∧ (s.loadingPlane n p = true) :=
  ⟨0, 1, 5, 7, loadState, by decide +kernel⟩

theorem test_meets_PlanesErasedAndLoaded_6 : ∃ (n p f data : Nat) (s : State), (s.plActive n p = true) :=
  ⟨0, 1, 0, 7, ctxState.wr (planeFld 0 1) 4, by decide +kernel⟩

theorem test_meets_PlanesErasedAndLoaded_7 : ∃ (n p f data : Nat) (s : State), (s.plActive n p = false) ∧ (s.planesShut n = true) :=
  ⟨0, 1, 0, 7, State.reset, by decide +kernel⟩

theorem test_meets_RegionCommands_1 : ∃ (n : Fin 64) (src : CmdSrc) (s u : State), (src = .host → s.lbistBars (R.REGION_CTL_CMD n.val).off = false) ∧ (s.dstate n.val = .off) ∧ (s.onRefusal n.val = none) ∧ (u = s.quiet.set1 (R.PWR_DOM_CTL_REQ n.val)) ∧ (u.dstate n.val = .off) :=
  ⟨0, .host, State.reset.wr (R.PWR_DOM_CTL_STATE 64) 2, _, by decide +kernel, by decide +kernel, by decide +kernel, rfl, by decide +kernel⟩

theorem test_meets_RegionCommands_2 : ∃ (n : Fin 64) (src : CmdSrc) (s : State), (src = .host → s.lbistBars (R.REGION_CTL_CMD n.val).off = false) ∧ (s.dstate n.val = .on) ∧ (s.unusable n.val = false) ∧ (s.offRefusal n.val = none) :=
  ⟨1, .host, State.reset.wr (R.PWR_DOM_CTL_STATE 1) 2 |>.wr (R.REGION_STATUS_STATE 1) 1, by decide +kernel⟩

theorem test_meets_RegionCommands_3 : ∃ (n : Fin 64) (src : CmdSrc) (p : Fin 8) (s : State), (src = .host → s.lbistBars (R.REGION_CTL_CMD n.val).off = false) ∧ (s.judge n.val ⟨.fill p.val false, src⟩ = none) ∧ (s.clockRuns n.val = true) ∧ ((s.region n.val).cmdq = []) ∧ (s.shadowHas n.val p.val = false) ∧ (s.shState n.val = .invalid) ∧ ((s.region n.val).clamping = none) :=
  ⟨0, .host, 1, (ctxState.wr (R.REGION_CTL_OWNER 0) 1).wr (planeFld 0 1) 2, by decide +kernel⟩

theorem test_meets_RegionCommands_4 : ∃ (n : Fin 64) (src : CmdSrc) (p : Fin 8) (s : State), (src = .host → s.lbistBars (R.REGION_CTL_CMD n.val).off = false) ∧ (s.judge n.val ⟨.swap p.val, src⟩ = none) ∧ ((s.region n.val).decided = false) :=
  ⟨0, .thread 2, 1, ctxState, by decide +kernel⟩

theorem test_meets_RegionCommands_5 : ∃ (n : Fin 64) (src : CmdSrc) (s : State), (src = .host → s.lbistBars (R.REGION_CTL_CMD n.val).off = false) ∧ (s.judge n.val ⟨.stop, src⟩ = none) ∧ ((s.region n.val).decided = false) :=
  ⟨0, .thread 2, ctxState, by decide +kernel⟩

theorem test_meets_RegionCommands_6 : ∃ (n : Fin 64) (src : CmdSrc) (s : State), (src = .host → s.lbistBars (R.REGION_CTL_CMD n.val).off = false) ∧ (s.judge n.val ⟨.hold, src⟩ = none) :=
  ⟨0, .thread 1, ctxState, by decide +kernel⟩

theorem test_meets_RegionCommands_7 : ∃ (n : Fin 64) (src : CmdSrc) (s : State), (src = .host → s.lbistBars (R.REGION_CTL_CMD n.val).off = false) ∧ (s.judge n.val ⟨.release, src⟩ = none) :=
  ⟨0, .thread 1, ctxState, by decide +kernel⟩

theorem test_meets_RegionCommands_8 : ∃ (n : Fin 64) (s : State), (s.lbistBars (R.REGION_CTL_CMD n.val).off = false) ∧ (s.judge n.val ⟨.isolate, .host⟩ = none) :=
  ⟨0, ctxState, by decide +kernel⟩

theorem test_meets_RegionCommands_9 : ∃ (n : Fin 64) (s : State), (s.lbistBars (R.REGION_CTL_CMD n.val).off = false) ∧ (s.judge n.val ⟨.unisolate, .host⟩ = none) :=
  ⟨0, ctxState.wr (R.REGION_STATUS_STATE 0) 4, by decide +kernel⟩

theorem test_meets_RegionCommands_10 : ∃ (n : Fin 64) (s : State), (s.lbistBars (R.REGION_CTL_CMD n.val).off = false) ∧ (s.judge n.val ⟨.clear, .host⟩ = none) :=
  ⟨0, ctxState.wr (R.REGION_STATUS_STATE 0) 5, by decide +kernel⟩

theorem test_meets_RegionCommands_11 : ∃ (n : Fin 64) (src : CmdSrc) (s : State), (src = .host → s.lbistBars (R.REGION_CTL_CMD n.val).off = false) ∧ (s.judge n.val ⟨.cancelFill, src⟩ = none) ∧ (s.clockRuns n.val = true) ∧ ((s.region n.val).later = none) ∧ ((s.region n.val).cmdq = []) ∧ (s.shState n.val = .queued) ∧ ((s.region n.val).fallback = none) :=
  ⟨0, .thread 1, ctxState.wr (R.REGION_STATUS_SHADOW_STATE 0) 1, by decide +kernel⟩

theorem test_meets_RegionCommands_12 : ∃ (n : Fin 64) (c : RCmd) (rest : List RCmd) (s u : State), (s.region n.val).cmdq = c :: rest ∧ s.clockRuns n.val = true ∧
    u = s.quiet.setRegion n.val { s.region n.val with cmdq := rest } ∧ c.kind.allowedIn (u.rstate n.val) = true ∧
    (∀ p pre, c.kind = .fill p pre → u.fillRefusal n.val p = none) :=
  ⟨0, ⟨.fill 1 false, .host⟩, [], (ctxState.wr (planeFld 0 1) 2).setRegion 0 { cmdq := [⟨.fill 1 false, .host⟩] },
    ((ctxState.wr (planeFld 0 1) 2).setRegion 0 { cmdq := [⟨.fill 1 false, .host⟩] }).quiet.setRegion 0 {},
    by decide, by decide, by decide, by decide, fun p pre h => by cases h; decide⟩

theorem test_meets_RegionCommands_13 : ∃ (n : Fin 64) (p : Nat) (pre : Bool) (src : CmdSrc) (rest : List RCmd) (s u : State), ((s.region n.val).cmdq = ⟨.fill p pre, src⟩ :: rest) ∧ (s.clockRuns n.val = true) ∧ (u = s.quiet.setRegion n.val { s.region n.val with cmdq := rest }) ∧ (u.fillRefusal n.val p ≠ none) :=
  ⟨0, 1, false, .host, [], ctxState.setRegion 0 { cmdq := [⟨.fill 1 false, .host⟩] }, _, by decide +kernel, by decide +kernel, rfl, by decide +kernel⟩

theorem test_meets_RegionCommands_14 : ∃ (n : Fin 64) (c : RCmd) (rest : List RCmd) (s u : State), ((s.region n.val).cmdq = c :: rest) ∧ (s.clockRuns n.val = true) ∧ (u = s.quiet.setRegion n.val { s.region n.val with cmdq := rest }) ∧ (c.kind.allowedIn (u.rstate n.val) = false) :=
  ⟨0, ⟨.clear, .host⟩, [], ctxState.setRegion 0 { cmdq := [⟨.clear, .host⟩] }, _, by decide +kernel, by decide +kernel, rfl, by decide +kernel⟩

theorem test_meets_RegionCommands_15 : ∃ (ini : Ini) (n : Fin 64) (owner : Bool) (s : State), (s.rd (R.REGION_CTL_OWNER n.val) ≠ owner.toNat) ∧ (s.rstate n.val = .off ∨ s.rstate n.val = .idle) ∧ (s.turnedAway (R.REGION_CTL_CMD n.val).off = none) :=
  ⟨host, 0, true, State.reset, by decide +kernel⟩

theorem test_meets_FillsAndTheCommandPath_1 : ∃ (n : Nat) (p : Nat) (t : Fin 4) (bno : Nat) (rest : List PathCmd) (s u : State), (s.rpath = .cmd n ⟨.swap p, .thread t⟩ bno :: rest) ∧ (u = { s.quiet with rpath := rest }) ∧ (u.judge n ⟨.swap p, .thread t⟩ = none) :=
  ⟨0, 1, 2, 5, [], { ctxState with rpath := [.cmd 0 ⟨.swap 1, .thread 2⟩ 5] }, _, by decide +kernel, rfl, by decide +kernel⟩

theorem test_meets_FillsAndTheCommandPath_2 : ∃ (n : Fin 64) (p : Fin 8) (t : Fin 4) (s : State), (s.is1 (R.REGION_STATUS_SHADOW_SPEC n.val) = true) ∧ (s.rd (R.REGION_STATUS_SHADOW_PLANE n.val) = p.val) ∧ (s.shState n.val = .ready) ∧ ((s.region n.val).restore = none ∧ (s.region n.val).later = none) :=
  ⟨0, 0, 0, (ctxState.wr (R.REGION_STATUS_SHADOW_SPEC 0) 1).wr (R.REGION_STATUS_SHADOW_STATE 0) 3, by decide +kernel⟩

theorem test_meets_FillsAndTheCommandPath_3 : ∃ (n : Nat) (rest : List Nat) (s u : State), (s.fillq = n :: rest) ∧ (s.fillsInFlight < s.fillLimit) ∧ (u = ({ s.quiet with fillq := rest } : State).setShState n .filling) :=
  ⟨0, [], { ctxState with fillq := [0] }, _, by decide +kernel, by decide +kernel, rfl⟩

theorem test_meets_FillsAndTheCommandPath_4 : ∃ (n : Fin 64) (p f : Nat) (s : State), s.shState n.val = .filling ∧ s.is1 (R.REGION_STATUS_SPILLING n.val) = false ∧
    p = s.rd (R.REGION_STATUS_SHADOW_PLANE n.val) ∧ s.wildFrames n.val p = false ∧ s.firstBad n.val p = some f ∧ s.singles n.val p = [] ∧
    (s.region n.val).fallback = none :=
  ⟨0, 0, 0, ctxState.wr (R.REGION_STATUS_SHADOW_STATE 0) 2, by decide +kernel⟩

/-- Region 0 filling plane 0, all of whose 3,900 frames are written. -/
def fillState : State :=
  { ctxState.wr (R.REGION_STATUS_SHADOW_STATE 0) 2 with planes := (List.range 3900).map fun f => (f, ⟨0, if f < 3840 then 0 else 1, []⟩) }

theorem test_meets_FillsAndTheCommandPath_5 : ∃ (n : Fin 64) (p : Nat) (s : State), s.shState n.val = .filling ∧ s.is1 (R.REGION_STATUS_SPILLING n.val) = false ∧
    p = s.rd (R.REGION_STATUS_SHADOW_PLANE n.val) ∧ s.wildFrames n.val p = false ∧ s.firstBad n.val p = none ∧ s.singles n.val p = [] ∧
    s.twin.latest = [] ∧ (s.region n.val).sel = false :=
  ⟨0, 0, fillState, by decide +kernel⟩

theorem test_meets_SwapsAtBoundaries_1 : ∃ (n : Fin 64) (s : State), (s.boundaryDue = true) ∧ ((s.region n.val).decided = false) ∧ (s.twin.take = none) ∧ (s.overruns n.val = false) :=
  ⟨0, ctxState.wr R.TICK_CTL_RUNNING 1, by decide +kernel⟩

theorem test_meets_SwapsAtBoundaries_2 : ∃ (n : Fin 64) (b p : Nat) (src : CmdSrc) (s u : State), (s.clockRuns n.val = true) ∧ ((s.region n.val).clamping = none) ∧ (s.dueArm n.val = some (b, ⟨some p, src⟩)) ∧ (s.clampVerdict n.val ⟨some p, src⟩ = .goes) ∧ (u = s.quiet.unarm n.val b) :=
  ⟨0, 1, 1, .host, armedAt 1, _, by decide +kernel, by decide +kernel, by decide +kernel, by decide +kernel, rfl⟩

theorem test_meets_SwapsAtBoundaries_3 : ∃ (n : Fin 64) (job : SwapJob) (s : State), ((s.region n.val).clamping = some job) ∧ (s.clockRuns n.val = true) ∧ (s.edgeAllowed n.val job = true) :=
  ⟨0, ⟨some 1, false, .host⟩, ctxState.setRegion 0 { clamping := some ⟨some 1, false, .host⟩ }, by decide +kernel⟩

theorem test_meets_SwapsAtBoundaries_4 : ∃ (n : Fin 64) (job : SwapJob) (s : State), ((s.region n.val).clamping = some job) ∧ (s.clockRuns n.val = true) ∧ (s.edgeAllowed n.val job = false) :=
  ⟨0, ⟨some 1, false, .host⟩, (ctxState.wr (R.REGION_STATUS_STATE 0) 5).setRegion 0 { clamping := some ⟨some 1, false, .host⟩ }, by decide +kernel⟩

theorem test_meets_SwapsAtBoundaries_5 : ∃ (n : Fin 64) (b : Nat) (a : Arm) (e : Refuse) (s : State), (s.clockRuns n.val = true) ∧ ((s.region n.val).clamping = none) ∧ (s.dueArm n.val = some (b, a)) ∧ (s.clampVerdict n.val a = .refused e) :=
  ⟨0, 1, ⟨some 1, .host⟩, .shadowMismatch, (armedAt 1).wr (R.REGION_STATUS_SHADOW_STATE 0) 0, by decide +kernel⟩

theorem test_meets_SwapsAtBoundaries_6 : ∃ (n : Fin 64) (p gen : Nat) (s : State), (s.region n.val).spill = some (p, gen) :=
  ⟨0, 1, 1, ctxState.setRegion 0 { spill := some (1, 1) }, by decide⟩

theorem test_meets_SwapsAtBoundaries_7 : ∃ (n : Fin 64) (a : Arm) (s : State), (s.clockRuns n.val = true) ∧ ((s.region n.val).clamping = none) ∧ ((s.region n.val).arms.find? (fun e => e.1 == 0) = some (0, a)) ∧ (s.clampVerdict n.val a = .goes) :=
  ⟨0, ⟨some 1, .host⟩, armedAt 0, by decide +kernel⟩

theorem test_meets_SwapsAtBoundaries_8 : ∃ (n : Fin 64) (f q data : Nat) (rest : List (Nat × Nat × Option Nat)) (s : State), (s.region n.val).refetch = (f, q, some data) :: rest ∧
    s.rstate n.val = .run ∧ (s.region n.val).clamping = none ∧ s.clockRuns n.val = true :=
  ⟨0, 5, 1, 9, [], ctxState.setRegion 0 { refetch := [(5, 1, some 9)], badActive := [5] }, by decide +kernel⟩

theorem test_meets_SwapsAtBoundaries_9 : ∃ (n : Fin 64) (p : Nat) (s : State), ((s.region n.val).fallback = some p) ∧ (s.shState n.val = .ready) ∧ (s.holds n.val .debug = false ∧ s.holds n.val .refetch = false ∧ s.clockRuns n.val = true ∧ (s.region n.val).clamping = none) ∧ (s.swapRefusal n.val (some p) true = none) :=
  ⟨0, 1, ((ctxState.wr (R.REGION_STATUS_SHADOW_STATE 0) 3).wr (R.REGION_STATUS_SHADOW_PLANE 0) 1).setRegion 0 { fallback := some 1 }, by decide +kernel⟩

theorem test_meets_TickGenerator_1 : ∃ (ini : Ini) (s : State), (s.layoutOk = true) ∧ (s.turnedAway R.TICK_CTL_EN.off = none) :=
  ⟨host, State.reset.wr R.TICK_LAYOUT_NEXT_PERIOD 160, by decide +kernel⟩

theorem test_meets_TickGenerator_2 : ∃ (ini : Ini) (s : State), (s.layoutOk = false) ∧ (s.turnedAway R.TICK_CTL_EN.off = none) :=
  ⟨host, State.reset.wr R.TICK_LAYOUT_NEXT_PERIOD 159, by decide +kernel⟩

theorem test_meets_TickGenerator_3 : ∃ (ini : Ini) (s : State), (s.is1 R.TICK_CTL_EN = false) ∧ (s.is1 R.TICK_CTL_RUNNING = false) ∧ (s.tickGen.first = false) ∧ (s.tickGen.ended = false) ∧ (s.turnedAway R.TICK_CTL_EN.off = none) :=
  ⟨host, State.reset, by decide +kernel⟩

theorem test_meets_TickGenerator_4 : ∃ (s v : State), s.is1 R.TICK_CTL_EN = false ∧ s.tickGen.ended = true ∧ v = (s.quiet.set1 R.TICK_CTL_EN).generatorStops ∧ v.is1 R.TICK_CTL_RUNNING = false ∧
    v.tickGen.first = false := ⟨{ State.reset with tickGen := { ended := true } }, _, by decide, rfl, rfl, by decide +kernel⟩

theorem test_meets_TickGenerator_5 : ∃ (ini : Ini) (src : BitVec 2) (s : State), (src.toNat ≠ 3) ∧ (src.toNat ≠ s.rd R.TICK_CTL_SRC) ∧ (s.is1 R.TICK_CTL_RUNNING = false) ∧ (s.turnedAway R.TICK_CTL_EN.off = none) :=
  ⟨host, 1, State.reset, by decide +kernel⟩

theorem test_meets_TickGenerator_6 : ∃ (c : Nat) (s : State), s.boundaryDue = true ∧ s.tickDue = some c ∧ c ≤ s.now ∧ s.slotDue = none ∧ s.boundaryReady = true :=
  ⟨_, { runState.wr R.TICK_CTL_RUNNING 1 with now := 1000000 }, by decide, rfl, by decide +kernel⟩

theorem test_meets_TickGenerator_7 : ∃ (s : State), ∀ c, s.tickDue = some c → s.now < c :=
  ⟨(runState.wr R.TICK_CTL_RUNNING 1).wr R.TICK_CTL_SRC 1, fun c h => by revert h; decide +revert⟩

theorem test_meets_TickGenerator_8 : ∃ (c : Nat) (s : State), s.slotDue = some c ∧ c ≤ s.now ∧ s.boundaryReady = true :=
  ⟨_, (runState.wr R.TICK_CTL_RUNNING 1).wr R.TICK_LAYOUT_NSLOT_M1 3, rfl, by decide +kernel⟩

theorem test_meets_TickGenerator_9 : ∃ (c : Nat) (s : State), s.slotDue = some c ∧ s.now < c :=
  ⟨_, ((runState.wr R.TICK_CTL_RUNNING 1).wr R.TICK_LAYOUT_NSLOT_M1 3).wr (R.SLOT_START_START 1) 40, rfl, by decide⟩

theorem test_meets_TickGenerator_10 : ∃ (s : State), (s.rd R.TICK_CTL_SRC ≠ 1) ∧ (s.tickGen.placed = none) :=
  ⟨runState, by decide +kernel⟩

theorem test_meets_TickGenerator_11 : ∃ (s : State), (s.is1 R.TICK_CTL_RUNNING = true) ∧ (s.tickGen.first = false ∧ s.tickGen.ended = false ∧ s.tickGen.placed = none) ∧ (s.rd R.TICK_STAT_SLOT < s.rd R.TICK_LAYOUT_NSLOT_M1) :=
  ⟨(runState.wr R.TICK_CTL_RUNNING 1).wr R.TICK_LAYOUT_NSLOT_M1 3, by decide +kernel⟩

theorem test_meets_TickGenerator_12 : ∃ (s u : State), (s.rd R.TICK_CTL_SRC = 1 ∧ s.is1 R.TICK_CTL_RUNNING = true ∧ s.tickGen.ended = false) ∧ (¬ (s.now + 8 < s.tickGen.tickStart + 10)) ∧ (s.now + 8 ≤ s.tickGen.tickStart + s.rd R.TICK_LAYOUT_PERIOD + 16) ∧ (s.tickGen.placed = none) ∧ (u = if s.now + 8 + 16 < s.tickGen.tickStart + s.rd R.TICK_LAYOUT_PERIOD then s.quiet.set1 R.TICK_CTL_SHORT else s.quiet) :=
  ⟨{ (runState.wr R.TICK_CTL_RUNNING 1).wr R.TICK_CTL_SRC 1 with now := 100 }, _, by decide +kernel, by decide +kernel, by decide +kernel, by decide +kernel, rfl⟩

theorem test_meets_TickGenerator_13 : ∃ (c : Nat) (s : State), (s.rd R.TICK_CTL_SRC = 1 ∧ s.is1 R.TICK_CTL_RUNNING = true ∧ s.tickGen.ended = false) ∧ (s.tickGen.placed = none) ∧ (s.tickGen.lost = false) ∧ (c = s.tickGen.tickStart + s.rd R.TICK_LAYOUT_PERIOD + 16) ∧ (c ≤ s.now) :=
  ⟨_, { (runState.wr R.TICK_CTL_RUNNING 1).wr R.TICK_CTL_SRC 1 with now := 1000000 }, by decide +kernel, by decide +kernel, by decide +kernel, rfl, by decide +kernel⟩

theorem test_meets_TickGenerator_14 : ∃ (ini : Ini) (n : Fin 64) (s u : State), (u = s.quiet.clrBit (R.REGION_STATUS_HOLD_SRC n.val) 2) ∧ (u.rstate n.val = .held) ∧ (u.rd (R.REGION_STATUS_HOLD_SRC n.val) = 0) ∧ (s.turnedAway (R.REGION_OVR_OVR_CLR n.val).off = none) :=
  ⟨host, 0, (runState.wr (R.REGION_STATUS_HOLD_SRC 0) 4).wr (R.REGION_STATUS_STATE 0) 3, _, rfl, by decide +kernel⟩

theorem test_meets_ThreadCommands_1 : ∃ (ini : Ini) (t : Fin 4) (s u : State), (s.tstate t.val = .off) ∧ (u = ((s.quiet.clr (R.SEQ_THR_STATUS_CAUSE t.val)).setTpc t.val (s.rd (R.SEQ_THR_START_START_PC t.val))).setTstate t.val .run) ∧ (s.turnedAway (R.SEQ_THR_CTL_START t.val).off = none) :=
  ⟨host, 0, State.reset, _, by decide +kernel, rfl, by decide +kernel⟩

theorem test_meets_ThreadCommands_2 : ∃ (ini : Ini) (t : Fin 4) (s : State), (s.tstate t.val ≠ .off) ∧ (s.turnedAway (R.SEQ_THR_CTL_START t.val).off = none) :=
  ⟨host, 0, threadAt .run 0, by decide +kernel⟩

theorem test_meets_ThreadCommands_3 : ∃ (ini : Ini) (t : Fin 4) (s : State), (s.tstate t.val = .run ∨ s.tstate t.val = .wait ∨ s.tstate t.val = .halted) ∧ (s.atCommitPoint t.val = true) ∧ (s.turnedAway (R.SEQ_THR_CTL_START t.val).off = none) :=
  ⟨host, 0, threadAt .wait 0, by decide +kernel⟩

theorem test_meets_ThreadCommands_4 : ∃ (ini : Ini) (t : Fin 4) (s : State), (s.tstate t.val = .run) ∧ (s.atCommitPoint t.val = false) ∧ (s.turnedAway (R.SEQ_THR_CTL_START t.val).off = none) :=
  ⟨host, 0, (threadAt .run 0).setThread 0 { lock := some ⟨0, [], 0, []⟩ }, by decide +kernel⟩

theorem test_meets_ThreadCommands_5 : ∃ (ini : Ini) (t : Fin 4) (s : State), (s.tstate t.val = .off ∨ s.tstate t.val = .faulted) ∧ (s.turnedAway (R.SEQ_THR_CTL_START t.val).off = none) :=
  ⟨host, 0, threadAt .faulted 0, by decide +kernel⟩

theorem test_meets_ThreadCommands_6 : ∃ (ini : Ini) (t : Fin 4) (s : State), (s.tstate t.val = .run ∨ s.tstate t.val = .wait ∨ s.tstate t.val = .halted) ∧ (s.atCommitPoint t.val = true) ∧ (s.turnedAway (R.SEQ_THR_CTL_START t.val).off = none) :=
  ⟨host, 0, threadAt .halted 0, by decide +kernel⟩

theorem test_meets_ThreadCommands_7 : ∃ (ini : Ini) (t : Fin 4) (s : State), (s.tstate t.val = .run) ∧ (s.atCommitPoint t.val = false) ∧ (s.turnedAway (R.SEQ_THR_CTL_START t.val).off = none) :=
  ⟨host, 0, (threadAt .run 0).setThread 0 { lock := some ⟨0, [], 0, []⟩ }, by decide +kernel⟩

theorem test_meets_ThreadCommands_8 : ∃ (ini : Ini) (t : Fin 4) (s : State), (s.tstate t.val = .off ∨ s.tstate t.val = .faulted) ∧ (s.turnedAway (R.SEQ_THR_CTL_START t.val).off = none) :=
  ⟨host, 0, threadAt .faulted 0, by decide +kernel⟩

theorem test_meets_ThreadCommands_9 : ∃ (ini : Ini) (t : Fin 4) (s : State), (s.tstate t.val ≠ .faulted) ∧ (s.turnedAway (R.SEQ_THR_CTL_START t.val).off = none) :=
  ⟨host, 0, threadAt .run 0, by decide +kernel⟩

theorem test_meets_ThreadCommands_10 : ∃ (ini : Ini) (t : Fin 4) (s : State), (s.tstate t.val = .faulted) ∧ (s.turnedAway (R.SEQ_THR_CTL_START t.val).off = none) :=
  ⟨host, 0, threadAt .faulted 0, by decide +kernel⟩

theorem test_meets_ThreadCommands_11 : ∃ (t : Fin 4) (s : State), (s.locked t.val = true) ∧ ((s.thread t.val).stopReq = true ∨ (s.thread t.val).haltReq.isSome = true ∨ (s.thread t.val).rstReq = true) :=
  ⟨0, (threadAt .run 0).setThread 0 { lock := some ⟨0, [], 0, []⟩, stopReq := true }, by decide +kernel⟩

theorem test_meets_ThreadCommands_12 : ∃ (t : Fin 4) (s : State), (s.thread t.val).wdtDue = true ∧ (s.rd (R.SEQ_WDT_ACTION t.val) = 0) :=
  ⟨0, (threadAt .run 0).setThread 0 { wdtDue := true }, by decide⟩

theorem test_meets_ThreadCommands_13 : ∃ (t : Fin 4) (s : State), (s.thread t.val).wdtDue = true ∧ (s.rd (R.SEQ_WDT_ACTION t.val) = 1 ∨ s.rd (R.SEQ_WDT_ACTION t.val) = 3) ∧ (s.tstate t.val ≠ .halted) :=
  ⟨0, ((threadAt .run 0).setThread 0 { wdtDue := true }).wr (R.SEQ_WDT_ACTION 0) 1, by decide⟩

theorem test_meets_ThreadCommands_14 : ∃ (t : Fin 4) (s : State), (s.thread t.val).wdtDue = true ∧ (s.rd (R.SEQ_WDT_ACTION t.val) = 2) ∧ (s.tstate t.val ≠ .halted) :=
  ⟨0, ((threadAt .run 0).setThread 0 { wdtDue := true }).wr (R.SEQ_WDT_ACTION 0) 2, by decide⟩

theorem test_meets_ThreadCommands_15 : ∃ (t : Fin 4) (s : State), (s.thread t.val).wdtDue = true ∧ (s.rd (R.SEQ_WDT_ACTION t.val) ≠ 0) ∧ (s.tstate t.val = .halted) :=
  ⟨0, ((threadAt .halted 0).setThread 0 { wdtDue := true }).wr (R.SEQ_WDT_ACTION 0) 2, by decide⟩

theorem test_meets_ThreadCommands_16 : ∃ (t : Fin 4) (s : State), ((s.thread t.val).wdtDue = false) :=
  ⟨0, threadAt .run 0, by decide +kernel⟩

theorem test_meets_ThreadCommands_17 : ∃ (t : Nat) (cause : Cause) (s : State), (s.atCommitPoint t = true) :=
  ⟨0, .watchdog, threadAt .run 0, by decide +kernel⟩

theorem test_meets_ThreadCommands_18 : ∃ (t : Fin 4) (s : State), (s.locked t.val = false) :=
  ⟨0, threadAt .run 0, by decide +kernel⟩

theorem test_meets_ThreadCommands_19 : ∃ (t : Fin 4) (v : BitVec 32) (s : State), s.is1 (R.SEQ_WDT_EN t.val) = false ∧ (s.quiet.storeReg (.SEQ_WDT t.val) v).is1 (R.SEQ_WDT_EN t.val) = true :=
  ⟨0, BitVec.ofNat 32 (2 ^ (R.SEQ_WDT_EN 0).lo), State.reset, by decide⟩

theorem test_meets_ThreadCommands_20 : ∃ (ini : Ini) (w : Fin 32768) (hi : BitVec 32) (s : State), (s.turnedAway (R.IMEM_HI_WORD w.val).off = none) :=
  ⟨host, 0, 0, State.reset, by decide +kernel⟩

theorem test_meets_ScalarFormsCompute_3 : ∃ (t : Fin 4) (i : Insn) (s : State), (s.standsAt t.val i (.alu false 0) = true) :=
  ⟨0, Insn.of 0x1001844000000000, (threadAt .run 0x1001844000000000), by decide +kernel⟩

theorem test_meets_ScalarFormsCompute_4 : ∃ (t : Fin 4) (i : Insn) (s : State), (s.standsAt t.val i (.alu false 1) = true) :=
  ⟨0, Insn.of 0x1011844000000000, (threadAt .run 0x1011844000000000), by decide +kernel⟩

theorem test_meets_ScalarFormsCompute_5 : ∃ (t : Fin 4) (i : Insn) (s : State), (s.standsAt t.val i (.alu false 2) = true) :=
  ⟨0, Insn.of 0x1021844000000000, (threadAt .run 0x1021844000000000), by decide +kernel⟩

theorem test_meets_ScalarFormsCompute_6 : ∃ (t : Fin 4) (i : Insn) (s : State), (s.standsAt t.val i (.alu false 3) = true) :=
  ⟨0, Insn.of 0x1031844000000000, (threadAt .run 0x1031844000000000), by decide +kernel⟩

theorem test_meets_ScalarFormsCompute_7 : ∃ (t : Fin 4) (i : Insn) (s : State), (s.standsAt t.val i (.alu false 4) = true) :=
  ⟨0, Insn.of 0x1041844000000000, (threadAt .run 0x1041844000000000), by decide +kernel⟩

theorem test_meets_ScalarFormsCompute_8 : ∃ (t : Fin 4) (i : Insn) (s : State), (s.standsAt t.val i (.alu false 5) = true) :=
  ⟨0, Insn.of 0x1051844000000000, (threadAt .run 0x1051844000000000), by decide +kernel⟩

theorem test_meets_ScalarFormsCompute_9 : ∃ (t : Fin 4) (i : Insn) (s : State), (s.standsAt t.val i (.alu false 6) = true) :=
  ⟨0, Insn.of 0x1061844000000000, (threadAt .run 0x1061844000000000), by decide +kernel⟩

theorem test_meets_ScalarFormsCompute_10 : ∃ (t : Fin 4) (i : Insn) (s : State), (s.standsAt t.val i (.alu false 7) = true) :=
  ⟨0, Insn.of 0x1071844000000000, (threadAt .run 0x1071844000000000), by decide +kernel⟩

theorem test_meets_ScalarFormsCompute_11 : ∃ (t : Fin 4) (i : Insn) (s : State), (s.standsAt t.val i (.alu false 8) = true) :=
  ⟨0, Insn.of 0x1081844000000000, (threadAt .run 0x1081844000000000), by decide +kernel⟩

theorem test_meets_ScalarFormsCompute_12 : ∃ (t : Fin 4) (i : Insn) (s : State), (s.standsAt t.val i (.alu false 9) = true) :=
  ⟨0, Insn.of 0x1091844000000000, (threadAt .run 0x1091844000000000), by decide +kernel⟩

theorem test_meets_ScalarFormsCompute_13 : ∃ (t : Fin 4) (i : Insn) (s : State), (s.standsAt t.val i (.alu false 10) = true) :=
  ⟨0, Insn.of 0x10a1844000000000, (threadAt .run 0x10a1844000000000), by decide +kernel⟩

theorem test_meets_ScalarFormsCompute_14 : ∃ (t : Fin 4) (i : Insn) (s : State), (s.standsAt t.val i (.alu false 11) = true) :=
  ⟨0, Insn.of 0x10b1844000000000, (threadAt .run 0x10b1844000000000), by decide +kernel⟩

theorem test_meets_ScalarFormsCompute_15 : ∃ (t : Fin 4) (i : Insn) (s : State), (s.standsAt t.val i (.alu false 12) = true) :=
  ⟨0, Insn.of 0x10c1844000000000, (threadAt .run 0x10c1844000000000), by decide +kernel⟩

theorem test_meets_ScalarFormsCompute_16 : ∃ (t : Fin 4) (i : Insn) (s : State), (s.standsAt t.val i (.alu false 13) = true) :=
  ⟨0, Insn.of 0x10d1844000000000, (threadAt .run 0x10d1844000000000), by decide +kernel⟩

theorem test_meets_ScalarFormsCompute_17 : ∃ (t : Fin 4) (i : Insn) (s : State), (s.standsAt t.val i (.alu false 14) = true) :=
  ⟨0, Insn.of 0x10e1844000000000, (threadAt .run 0x10e1844000000000), by decide +kernel⟩

theorem test_meets_ScalarFormsCompute_18 : ∃ (t : Fin 4) (i : Insn) (s : State), (s.standsAt t.val i (.alu false 15) = true) :=
  ⟨0, Insn.of 0x10f1844000000000, (threadAt .run 0x10f1844000000000), by decide +kernel⟩

theorem test_meets_ScalarFormsCompute_19 : ∃ (t : Fin 4) (i : Insn) (s : State), (s.standsAt t.val i (.alu true 0) = true) :=
  ⟨0, Insn.of 0x1101840000000005, (threadAt .run 0x1101840000000005), by decide +kernel⟩

theorem test_meets_ScalarFormsCompute_20 : ∃ (t : Fin 4) (i : Insn) (s : State), (s.standsAt t.val i (.alu true 1) = true) :=
  ⟨0, Insn.of 0x1111840000000005, (threadAt .run 0x1111840000000005), by decide +kernel⟩

theorem test_meets_ScalarFormsCompute_21 : ∃ (t : Fin 4) (i : Insn) (s : State), (s.standsAt t.val i (.alu true 2) = true) :=
  ⟨0, Insn.of 0x1121840000000005, (threadAt .run 0x1121840000000005), by decide +kernel⟩

theorem test_meets_ScalarFormsCompute_22 : ∃ (t : Fin 4) (i : Insn) (s : State), (s.standsAt t.val i (.alu true 3) = true) :=
  ⟨0, Insn.of 0x1131840000000005, (threadAt .run 0x1131840000000005), by decide +kernel⟩

theorem test_meets_ScalarFormsCompute_23 : ∃ (t : Fin 4) (i : Insn) (s : State), (s.standsAt t.val i (.alu true 4) = true) :=
  ⟨0, Insn.of 0x1141840000000005, (threadAt .run 0x1141840000000005), by decide +kernel⟩

theorem test_meets_ScalarFormsCompute_24 : ∃ (t : Fin 4) (i : Insn) (s : State), (s.standsAt t.val i (.alu true 5) = true) :=
  ⟨0, Insn.of 0x1151840000000005, (threadAt .run 0x1151840000000005), by decide +kernel⟩

theorem test_meets_ScalarFormsCompute_25 : ∃ (t : Fin 4) (i : Insn) (s : State), (s.standsAt t.val i (.alu true 6) = true) :=
  ⟨0, Insn.of 0x1161840000000005, (threadAt .run 0x1161840000000005), by decide +kernel⟩

theorem test_meets_ScalarFormsCompute_26 : ∃ (t : Fin 4) (i : Insn) (s : State), (s.standsAt t.val i (.alu true 7) = true) :=
  ⟨0, Insn.of 0x1171840000000005, (threadAt .run 0x1171840000000005), by decide +kernel⟩

theorem test_meets_ScalarFormsCompute_27 : ∃ (t : Fin 4) (i : Insn) (s : State), (s.standsAt t.val i (.alu true 8) = true) :=
  ⟨0, Insn.of 0x1181840000000005, (threadAt .run 0x1181840000000005), by decide +kernel⟩

theorem test_meets_ScalarFormsCompute_28 : ∃ (t : Fin 4) (i : Insn) (s : State), (s.standsAt t.val i (.alu true 9) = true) :=
  ⟨0, Insn.of 0x1191840000000005, (threadAt .run 0x1191840000000005), by decide +kernel⟩

theorem test_meets_ScalarFormsCompute_29 : ∃ (t : Fin 4) (i : Insn) (s : State), (s.standsAt t.val i (.alu true 10) = true) :=
  ⟨0, Insn.of 0x11a1840000000005, (threadAt .run 0x11a1840000000005), by decide +kernel⟩

theorem test_meets_ScalarFormsCompute_30 : ∃ (t : Fin 4) (i : Insn) (s : State), (s.standsAt t.val i (.alu true 11) = true) :=
  ⟨0, Insn.of 0x11b1840000000005, (threadAt .run 0x11b1840000000005), by decide +kernel⟩

theorem test_meets_ScalarFormsCompute_31 : ∃ (t : Fin 4) (i : Insn) (s : State), (s.standsAt t.val i (.alu true 12) = true) :=
  ⟨0, Insn.of 0x11c1840000000005, (threadAt .run 0x11c1840000000005), by decide +kernel⟩

theorem test_meets_ScalarFormsCompute_32 : ∃ (t : Fin 4) (i : Insn) (s : State), (s.standsAt t.val i (.alu true 13) = true) :=
  ⟨0, Insn.of 0x11d1840000000005, (threadAt .run 0x11d1840000000005), by decide +kernel⟩

theorem test_meets_ScalarFormsCompute_33 : ∃ (t : Fin 4) (i : Insn) (s : State), (s.standsAt t.val i (.alu true 14) = true) :=
  ⟨0, Insn.of 0x11e1840000000005, (threadAt .run 0x11e1840000000005), by decide +kernel⟩

theorem test_meets_ScalarFormsCompute_34 : ∃ (t : Fin 4) (i : Insn) (s : State), (s.standsAt t.val i (.alu true 15) = true) :=
  ⟨0, Insn.of 0x11f1840000000005, (threadAt .run 0x11f1840000000005), by decide +kernel⟩

theorem test_meets_ConstantsCountsAndFlow_1 : ∃ (t : Fin 4) (i : Insn) (s : State), (s.standsAt t.val i .nop = true) :=
  ⟨0, Insn.of 0x100000000000000, (threadAt .run 0x100000000000000), by decide +kernel⟩

theorem test_meets_ConstantsCountsAndFlow_2 : ∃ (t : Fin 4) (i : Insn) (s : State), (s.standsAt t.val i .li = true) :=
  ⟨0, Insn.of 0x1201800000000007, (threadAt .run 0x1201800000000007), by decide +kernel⟩

theorem test_meets_ConstantsCountsAndFlow_3 : ∃ (t : Fin 4) (i : Insn) (s : State), (s.standsAt t.val i .lih = true) :=
  ⟨0, Insn.of 0x1301840000000007, (threadAt .run 0x1301840000000007), by decide +kernel⟩

theorem test_meets_ConstantsCountsAndFlow_4 : ∃ (t : Fin 4) (i : Insn) (s : State), (s.standsAt t.val i (.unary 0) = true) :=
  ⟨0, Insn.of 0x1401840000000000, (threadAt .run 0x1401840000000000), by decide +kernel⟩

theorem test_meets_ConstantsCountsAndFlow_5 : ∃ (t : Fin 4) (i : Insn) (s : State), (s.standsAt t.val i (.unary 1) = true) :=
  ⟨0, Insn.of 0x1411840000000000, (threadAt .run 0x1411840000000000), by decide +kernel⟩

theorem test_meets_ConstantsCountsAndFlow_6 : ∃ (t : Fin 4) (i : Insn) (s : State), (s.standsAt t.val i (.unary 2) = true) :=
  ⟨0, Insn.of 0x1421840000000000, (threadAt .run 0x1421840000000000), by decide +kernel⟩

theorem test_meets_ConstantsCountsAndFlow_7 : ∃ (t : Fin 4) (i : Insn) (s : State), (s.standsAt t.val i (.branch 0) = true) ∧ (s.tag t.val i.ra = false) ∧ (s.tag t.val i.rb = false) :=
  ⟨0, Insn.of 0x2000044000000009, (threadAt .run 0x2000044000000009), by decide +kernel⟩

theorem test_meets_ConstantsCountsAndFlow_8 : ∃ (t : Fin 4) (i : Insn) (s : State), (s.standsAt t.val i (.branch 1) = true) ∧ (s.tag t.val i.ra = false) ∧ (s.tag t.val i.rb = false) :=
  ⟨0, Insn.of 0x2100044000000009, (threadAt .run 0x2100044000000009), by decide +kernel⟩

theorem test_meets_ConstantsCountsAndFlow_9 : ∃ (t : Fin 4) (i : Insn) (s : State), (s.standsAt t.val i (.branch 2) = true) ∧ (s.tag t.val i.ra = false) ∧ (s.tag t.val i.rb = false) :=
  ⟨0, Insn.of 0x2200044000000009, (threadAt .run 0x2200044000000009), by decide +kernel⟩

theorem test_meets_ConstantsCountsAndFlow_10 : ∃ (t : Fin 4) (i : Insn) (s : State), (s.standsAt t.val i (.branch 3) = true) ∧ (s.tag t.val i.ra = false) ∧ (s.tag t.val i.rb = false) :=
  ⟨0, Insn.of 0x2300044000000009, (threadAt .run 0x2300044000000009), by decide +kernel⟩

theorem test_meets_ConstantsCountsAndFlow_11 : ∃ (t : Fin 4) (i : Insn) (s : State), (s.standsAt t.val i (.branch 4) = true) ∧ (s.tag t.val i.ra = false) ∧ (s.tag t.val i.rb = false) :=
  ⟨0, Insn.of 0x2400044000000009, (threadAt .run 0x2400044000000009), by decide +kernel⟩

theorem test_meets_ConstantsCountsAndFlow_12 : ∃ (t : Fin 4) (i : Insn) (s : State), (s.standsAt t.val i (.branch 5) = true) ∧ (s.tag t.val i.ra = false) ∧ (s.tag t.val i.rb = false) :=
  ⟨0, Insn.of 0x2500044000000009, (threadAt .run 0x2500044000000009), by decide +kernel⟩

theorem test_meets_ConstantsCountsAndFlow_13 : ∃ (t : Fin 4) (i : Insn) (s : State), (s.standsAt t.val i .bfs = true) :=
  ⟨0, Insn.of 0x2600000000050009, (threadAt .run 0x2600000000050009), by decide +kernel⟩

theorem test_meets_ConstantsCountsAndFlow_14 : ∃ (t : Fin 4) (i : Insn) (s : State), (s.standsAt t.val i .bfc = true) :=
  ⟨0, Insn.of 0x2700000000050009, (threadAt .run 0x2700000000050009), by decide +kernel⟩

theorem test_meets_ConstantsCountsAndFlow_15 : ∃ (t : Fin 4) (r : Row) (i : Insn) (s : State), (s.resolution t.val (s.thread t.val).commits = none) :=
  ⟨0, .branch 0, Insn.of 0x2000044000000009, threadAt .run 0x2000044000000009, by decide +kernel⟩

theorem test_meets_ConstantsCountsAndFlow_17 : ∃ (t : Fin 4) (i : Insn) (taken : Bool) (s : State), (s.resolution t.val (s.thread t.val).commits = some taken) :=
  ⟨0, Insn.of 0x2000044000000009, true, (threadAt .run 0).setThread 0 { resolved := [(0, true)] }, by decide +kernel⟩

theorem test_meets_ConstantsCountsAndFlow_18 : ∃ (t : Fin 4) (seq : Nat) (i : Insn) (p taken : Bool) (s u : State), (s.resolution t.val seq = none) ∧ (i.fn % 4 ≠ 3) ∧ (p ≠ taken) ∧ (u = s.setThread t.val { s.thread t.val with resolved := (s.thread t.val).resolved ++ [(seq, taken)] }) :=
  ⟨0, 0, Insn.of 0x2000044000000009, true, false, threadAt .run 0, _, by decide +kernel, by decide +kernel, by decide +kernel, rfl⟩

theorem test_meets_ConstantsCountsAndFlow_19 : ∃ (t : Fin 4) (i : Insn) (s : State), (s.standsAt t.val i .jal = true) :=
  ⟨0, Insn.of 0x2801800000000009, (threadAt .run 0x2801800000000009), by decide +kernel⟩

theorem test_meets_ConstantsCountsAndFlow_20 : ∃ (t : Fin 4) (i : Insn) (s : State), (s.standsAt t.val i .jalr = true) ∧ (s.tag t.val i.ra = false) :=
  ⟨0, Insn.of 0x2901840000000009, (threadAt .run 0x2901840000000009), by decide +kernel⟩

theorem test_meets_ConstantsCountsAndFlow_21 : ∃ (t : Fin 4) (k : Fin 24) (s u : State) (w : Window) (i : Insn) (b : Nat), u = s.quiet.issueBelow t.val (k.val + 1) ∧
    u.window t.val k.val = some w ∧ u.slotInsn t.val k.val w = some (i, .branch b) ∧ w.has i.ra = true ∧ w.has i.rb = true :=
  ⟨0, 0, threadAt .run 0x2000044000000009, _, ⟨0, [], 0, 0, []⟩, Insn.of 0x2000044000000009, 0, rfl, by decide +kernel⟩

theorem test_meets_WaitsAndBarriers_1 : ∃ (t : Fin 4) (i : Insn) (s : State), (s.standsAt t.val i .wtick = true) ∧ (s.locked t.val = false) ∧ (s.is1 (R.SEQ_THR_OVR_OWED t.val) = true) ∧ (s.is1 R.TICK_CTL_RUNNING = true) :=
  ⟨0, Insn.of 0x3000000000000000, ((threadAt .run 0x3000000000000000).wr (R.SEQ_THR_OVR_OWED 0) 1).wr R.TICK_CTL_RUNNING 1, by decide +kernel⟩

theorem test_meets_WaitsAndBarriers_2 : ∃ (t : Fin 4) (i : Insn) (s : State), (s.standsAt t.val i .wtick = true) ∧ (s.locked t.val = false) ∧ (s.is1 (R.SEQ_THR_OVR_OWED t.val) = false) :=
  ⟨0, Insn.of 0x3000000000000000, (threadAt .run 0x3000000000000000), by decide +kernel⟩

theorem test_meets_WaitsAndBarriers_3 : ∃ (t : Fin 4) (i : Insn) (s : State), (s.standsAt t.val i .wslot = true) ∧ (s.locked t.val = false) :=
  ⟨0, Insn.of 0x3100000000000003, (threadAt .run 0x3100000000000003), by decide +kernel⟩

theorem test_meets_WaitsAndBarriers_4 : ∃ (t : Fin 4) (i : Insn) (s : State), (s.standsAt t.val i .wflag = true) ∧ (s.locked t.val = false) ∧ (s.flagLine (nbits i.imm 23 16) = (i.fn == 1)) :=
  ⟨0, Insn.of 0x3201800000050000, (threadAt .run 0x3201800000050000), by decide +kernel⟩

theorem test_meets_WaitsAndBarriers_5 : ∃ (t : Fin 4) (i : Insn) (s : State), (s.standsAt t.val i .wflag = true) ∧ (s.locked t.val = false) ∧ (s.flagLine (nbits i.imm 23 16) ≠ (i.fn == 1)) :=
  ⟨0, Insn.of 0x3211800000050000, (threadAt .run 0x3211800000050000), by decide +kernel⟩

theorem test_meets_WaitsAndBarriers_6 : ∃ (t : Fin 4) (i : Insn) (s : State), (s.standsAt t.val i .wshad = true) ∧ (s.locked t.val = false) ∧ (s.tag t.val i.ra = false) ∧ (s.shadowSettled (i.regionIdx (s.reg t.val i.ra)) = true) :=
  ⟨0, Insn.of 0x3301840000000000, (threadAt .run 0x3301840000000000), by decide +kernel⟩

theorem test_meets_WaitsAndBarriers_7 : ∃ (t : Fin 4) (i : Insn) (s : State), (s.standsAt t.val i .delay = true) ∧ (s.locked t.val = false) ∧ (i.imm ≠ 0) :=
  ⟨0, Insn.of 0x3400000000000009, (threadAt .run 0x3400000000000009), by decide +kernel⟩

theorem test_meets_WaitsAndBarriers_8 : ∃ (t : Fin 4) (i : Insn) (s : State), (s.standsAt t.val i .cwait = true) ∧ (s.locked t.val = false) ∧ (s.tag t.val i.ra = false) ∧ (s.courierIdle (i.courierIdx (s.reg t.val i.ra)) = true) :=
  ⟨0, Insn.of 0x5901840000000000, (threadAt .run 0x5901840000000000), by decide +kernel⟩

theorem test_meets_WaitsAndBarriers_9 : ∃ (t : Fin 4) (line rd : Nat) (level timed : Bool) (s : State), ((s.thread t.val).wait = some (.flag line level timed rd)) ∧ (s.flagLine line = level) :=
  ⟨0, 5, 3, false, true, (threadAt .wait 0).setThread 0 { wait := some (.flag 5 false true 3) }, by decide +kernel⟩

theorem test_meets_WaitsAndBarriers_10 : ∃ (t : Fin 4) (s : State), ((s.thread t.val).wait = some .delay) :=
  ⟨0, (threadAt .wait 0).setThread 0 { wait := some .delay }, by decide +kernel⟩

theorem test_meets_WaitsAndBarriers_11 : ∃ (t : Fin 4) (line rd : Nat) (level : Bool) (s : State), ((s.thread t.val).wait = some (.flag line level true rd)) :=
  ⟨0, 5, 3, true, (threadAt .wait 0).setThread 0 { wait := some (.flag 5 true true 3) }, by decide +kernel⟩

theorem test_meets_WaitsAndBarriers_12 : ∃ (t : Fin 4) (i : Insn) (s : State), (s.standsAt t.val i .bar = true) ∧ (s.locked t.val = false) ∧ (s.bit (R.SEQ_BAR_CFG_THREADS (i.imm % 16)) t.val = false) :=
  ⟨0, Insn.of 0x6201800000000002, (threadAt .run 0x6201800000000002), by decide +kernel⟩

theorem test_meets_WaitsAndBarriers_13 : ∃ (t : Fin 4) (i : Insn) (s : State), (s.standsAt t.val i .bar = true) ∧ (s.locked t.val = false) ∧ (s.bit (R.SEQ_BAR_CFG_THREADS (i.imm % 16)) t.val = true) :=
  ⟨0, Insn.of 0x6201800000000002, (threadAt .run 0x6201800000000002).wr (R.SEQ_BAR_CFG_THREADS 2) 3, by decide +kernel⟩

theorem test_meets_WaitsAndBarriers_14 : ∃ (t : Fin 4) (b rd : Nat) (s : State), ((s.thread t.val).wait = some (.bar b rd true)) :=
  ⟨0, 2, 3, (threadAt .wait 0).setThread 0 { wait := some (.bar 2 3 true) }, by decide +kernel⟩

theorem test_meets_WaitsAndBarriers_15 : ∃ (n : Fin 64) (k : Fin 4) (s : State), (s.takesFlits n.val = true) :=
  ⟨0, 1, runState, by decide +kernel⟩

theorem test_meets_WaitsAndBarriers_16 : ∃ (n : Fin 64) (k : Fin 4) (level : Bool) (s : State), (s.takesFlits n.val = false ∨ s.flagDriven n.val k.val ≠ level) :=
  ⟨0, 1, true, State.reset, by decide +kernel⟩

theorem test_meets_MemoryAccessesOfThreads_1 : ∃ (t : Fin 4) (i : Insn) (s : State), (s.standsAt t.val i .ld = true) ∧ (s.tag t.val i.ra = false) ∧ (localDecode (i.addr (s.reg t.val i.ra)) i.size = false) ∧ (s.maySend (threadNode t.val) = true) ∧ (s.specOf t.val (s.thread t.val).commits = none) ∧ (s.locked t.val = false) ∧ ((plainAddr (i.addr (s.reg t.val i.ra)) && s.postedToLine t.val (i.addr (s.reg t.val i.ra))) = false) :=
  ⟨0, Insn.of 0x4031800000000008, (threadAt .run 0x4031800000000008), by decide +kernel⟩

theorem test_meets_MemoryAccessesOfThreads_2 : ∃ (t : Fin 4) (i : Insn) (s : State), (s.standsAt t.val i .ldt = true) ∧ (s.tag t.val i.ra = false) ∧ (localDecode (i.addr (s.reg t.val i.ra)) i.size = false) ∧ (s.maySend (threadNode t.val) = true) ∧ (s.specOf t.val (s.thread t.val).commits = none) ∧ (s.locked t.val = false) ∧ ((plainAddr (i.addr (s.reg t.val i.ra)) && s.postedToLine t.val (i.addr (s.reg t.val i.ra))) = false) :=
  ⟨0, Insn.of 0x40b1800000000008, (threadAt .run 0x40b1800000000008), by decide +kernel⟩

theorem test_meets_MemoryAccessesOfThreads_3 : ∃ (t : Fin 4) (i : Insn) (s : State), (s.standsAt t.val i .st = true) ∧ (s.tag t.val i.ra = false) ∧ (csrAddr (i.addr (s.reg t.val i.ra)) = false) ∧ (localDecode (i.addr (s.reg t.val i.ra)) i.size = false) ∧ (s.maySend (threadNode t.val) = true) ∧ (s.locked t.val = false) :=
  ⟨0, Insn.of 0x4130004000000008, (threadAt .run 0x4130004000000008), by decide +kernel⟩

theorem test_meets_MemoryAccessesOfThreads_4 : ∃ (t : Fin 4) (i : Insn) (s : State), (s.standsAt t.val i .stt = true) ∧ (s.tag t.val i.ra = false) ∧ (csrAddr (i.addr (s.reg t.val i.ra)) = false) ∧ (localDecode (i.addr (s.reg t.val i.ra)) i.size = false) ∧ (s.maySend (threadNode t.val) = true) ∧ (s.locked t.val = false) :=
  ⟨0, Insn.of 0x41b0004000000008, (threadAt .run 0x41b0004000000008), by decide +kernel⟩

theorem test_meets_MemoryAccessesOfThreads_5 : ∃ (t : Fin 4) (i : Insn) (s : State), (s.standsAt t.val i .stp = true) ∧ (s.tag t.val i.ra = false) ∧ (csrAddr (i.addr (s.reg t.val i.ra)) = false) ∧ (localDecode (i.addr (s.reg t.val i.ra)) i.size = false) ∧ (s.maySend (threadNode t.val) = true) ∧ (s.locked t.val = false) :=
  ⟨0, Insn.of 0x4170004000000008, (threadAt .run 0x4170004000000008), by decide +kernel⟩

theorem test_meets_MemoryAccessesOfThreads_6 : ∃ (t : Nat) (a : Access) (kind : PendKind) (s : State), (s.maySend (threadNode t) = true) :=
  ⟨0, readAccess 8 1, .load 3 0 false false 1 8, threadAt .run 0, by decide +kernel⟩

theorem test_meets_MemoryAccessesOfThreads_7 : ∃ (s u : State), s.quiet.takeAnswer (threadNode 0) 0 ⟨.ok, [1], 0⟩ = some u ∧ (u.thread 0).pend = some ⟨0, 0, .load 3 0 false false 1 8⟩ :=
  ⟨{ (threadAt .run 0).setThread 0 { pend := some ⟨0, 0, .load 3 0 false false 1 8⟩ } with outst := [⟨threadNode 0, 0, 1, none, false, false⟩] }, _, rfl, by decide⟩

theorem test_meets_MemoryAccessesOfThreads_8 : ∃ (s u : State), s.quiet.takeAnswer (threadNode 0) 0 ⟨.ok, [], 0⟩ = some u ∧ (u.thread 0).posted.find? (fun e => e.1 == 0) = some (0, 5, some 8) :=
  ⟨{ (threadAt .run 0).setThread 0 { posted := [(0, 5, some 8)] } with outst := [⟨threadNode 0, 0, 1, none, false, false⟩] }, _, rfl, by decide⟩

theorem test_meets_MemoryAccessesOfThreads_9 : ∃ (t pc : Nat) (code : Resp) (s : State), (code ≠ .ok) ∧ (s.rd (R.SEQ_THR_POSTED_COUNT t) ≠ 0) :=
  ⟨0, 5, .denied, (threadAt .run 0).wr (R.SEQ_THR_POSTED_COUNT 0) 1, by decide +kernel⟩

theorem test_meets_MemoryAccessesOfThreads_10 : ∃ (t pc : Nat) (code : Resp) (s : State), (code ≠ .ok) ∧ (s.rd (R.SEQ_THR_POSTED_COUNT t) = 0) :=
  ⟨0, 5, .denied, threadAt .run 0, by decide +kernel⟩

theorem test_meets_MemoryAccessesOfThreads_11 : ∃ (s u : State), s.quiet.takeAnswer (threadNode 0) 0 ⟨.denied, [], 0⟩ = some u ∧ (u.thread 0).posted.find? (fun e => e.1 == 0) = some (0, 5, some 8) :=
  ⟨{ (threadAt .run 0).setThread 0 { posted := [(0, 5, some 8)] } with outst := [⟨threadNode 0, 0, 1, none, false, false⟩] }, _, rfl, by decide⟩

theorem test_meets_ActionsOfThreads_1 : ∃ (t : Fin 4) (i : Insn) (s : State), (s.standsAt t.val i .pre = true) ∧ (s.locked t.val = false) ∧ (s.tag t.val i.ra = false) ∧ (s.tag t.val i.rb = false) ∧ (s.specOf t.val (s.thread t.val).commits = none) :=
  ⟨0, Insn.of 0x5000044000000000, (threadAt .run 0x5000044000000000), by decide +kernel⟩

theorem test_meets_ActionsOfThreads_2 : ∃ (t : Fin 4) (i : Insn) (s : State), (s.standsAt t.val i .fill = true) ∧ (s.locked t.val = false) ∧ (s.tag t.val i.ra = false) ∧ (s.tag t.val i.rb = false) :=
  ⟨0, Insn.of 0x5100044000000000, (threadAt .run 0x5100044000000000), by decide +kernel⟩

theorem test_meets_ActionsOfThreads_3 : ∃ (t : Fin 4) (i : Insn) (s : State), (s.standsAt t.val i .rcmdHold = true) ∧ (s.locked t.val = false) ∧ (s.tag t.val i.ra = false) :=
  ⟨0, Insn.of 0x5450040000000000, (threadAt .run 0x5450040000000000), by decide +kernel⟩

theorem test_meets_ActionsOfThreads_4 : ∃ (t : Fin 4) (i : Insn) (s : State), (s.standsAt t.val i .rcmdRelease = true) ∧ (s.locked t.val = false) ∧ (s.tag t.val i.ra = false) :=
  ⟨0, Insn.of 0x5460040000000000, (threadAt .run 0x5460040000000000), by decide +kernel⟩

theorem test_meets_ActionsOfThreads_5 : ∃ (t : Fin 4) (i : Insn) (s : State), (s.standsAt t.val i .rcmdCancel = true) ∧ (s.locked t.val = false) ∧ (s.tag t.val i.ra = false) :=
  ⟨0, Insn.of 0x54b0040000000000, (threadAt .run 0x54b0040000000000), by decide +kernel⟩

theorem test_meets_ActionsOfThreads_6 : ∃ (t : Fin 4) (i : Insn) (s : State), (s.standsAt t.val i .swap = true) ∧ (s.locked t.val = false) ∧ (s.tag t.val i.ra = false) ∧ (s.tag t.val i.rb = false) ∧ ((s.region (i.regionIdx (s.reg t.val i.ra))).decided = false) :=
  ⟨0, Insn.of 0x5200044000000000, (threadAt .run 0x5200044000000000), by decide +kernel⟩

theorem test_meets_ActionsOfThreads_7 : ∃ (t : Fin 4) (i : Insn) (s : State), (s.standsAt t.val i .stop = true) ∧ (s.locked t.val = false) ∧ (s.tag t.val i.ra = false) ∧ ((s.region (i.regionIdx (s.reg t.val i.ra))).decided = false) :=
  ⟨0, Insn.of 0x5300040000000000, (threadAt .run 0x5300040000000000), by decide +kernel⟩

theorem test_meets_ActionsOfThreads_8 : ∃ (t : Fin 4) (i : Insn) (s : State), (s.standsAt t.val i .cstart = true) ∧ (s.locked t.val = false) ∧ (s.maySend (threadNode t.val) = true) ∧ (s.tag t.val i.ra = false) ∧ (s.tag t.val i.rb = false) :=
  ⟨0, Insn.of 0x5800044000000004, (threadAt .run 0x5800044000000004), by decide +kernel⟩

theorem test_meets_ActionsOfThreads_9 : ∃ (t : Fin 4) (i : Insn) (s : State) (u : State), (s.standsAt t.val i .snap = true) ∧ (s.locked t.val = false) ∧ (s.maySend (threadNode t.val) = true) ∧ (s.tag t.val i.rb = false) ∧ (u = s.quiet.sendOldest t.val (s.ownNodeWrite snapNode (s.reg t.val i.rb).toNat) (.other i.rc (i.fn.testBit 3))) ∧ (u.is1 R.SNAP_CTL_BUSY = false) ∧ ((s.reg t.val i.rb).toNat % 64 = 0) :=
  ⟨0, Insn.of 0x7100004000000000, (threadAt .run 0x7100004000000000), _, by decide +kernel, by decide +kernel, by decide +kernel, by decide +kernel, rfl, by decide +kernel⟩

theorem test_meets_ActionsOfThreads_10 : ∃ (t : Fin 4) (i : Insn) (s : State), (s.standsAt t.val i .evt = true) ∧ (s.locked t.val = false) ∧ (s.tag t.val i.ra = false) :=
  ⟨0, Insn.of 0x6000040000000009, (threadAt .run 0x6000040000000009), by decide +kernel⟩

theorem test_meets_ActionsOfThreads_11 : ∃ (t : Fin 4) (i : Insn) (s : State), (s.standsAt t.val i .evtm = true) ∧ (s.locked t.val = false) :=
  ⟨0, Insn.of 0x6100004000000001, (threadAt .run 0x6100004000000001), by decide +kernel⟩

theorem test_meets_ActionsOfThreads_12 : ∃ (t : Fin 4) (i : Insn) (s : State), (s.standsAt t.val i .mirrThread = true) ∧ (s.locked t.val = false) ∧ (s.isPrimary = true) :=
  ⟨0, Insn.of 0x7000000000000000, (threadAt .run 0x7000000000000000).wr R.TWIN_CTL_STATE 3, by decide +kernel⟩

theorem test_meets_ActionsOfThreads_13 : ∃ (t : Fin 4) (i : Insn) (s : State), (s.standsAt t.val i .mirrRegion = true) ∧ (s.locked t.val = false) ∧ (s.tag t.val i.ra = false) ∧ (s.isPrimary = true) ∧ (s.mirr.regions.contains (i.regionIdx (s.reg t.val i.ra)) = false) :=
  ⟨0, Insn.of 0x7010040000000006, (threadAt .run 0x7010040000000006).wr R.TWIN_CTL_STATE 3, by decide +kernel⟩

theorem test_meets_ActionsOfThreads_14 : ∃ (t : Fin 4) (i : Insn) (s : State), (s.standsAt t.val i .mirrBank = true) ∧ (s.locked t.val = false) ∧ (s.tag t.val i.ra = false) ∧ (s.isPrimary = true) ∧ (s.mirr.banks.contains (i.bankIdx (s.reg t.val i.ra)) = false) :=
  ⟨0, Insn.of 0x7020040000000006, (threadAt .run 0x7020040000000006).wr R.TWIN_CTL_STATE 3, by decide +kernel⟩

theorem test_meets_ActionsOfThreads_15 : ∃ (t : Fin 4) (i : Insn) (s : State), (s.standsAt t.val i .emit = true) ∧ (s.locked t.val = false) ∧ (s.tag t.val i.ra = false) ∧ ((s.quiet.commit t.val).stimOn (i.lineIdx (s.reg t.val i.ra)) = true) :=
  ⟨0, Insn.of 0x7200044000000009, (threadAt .run 0x7200044000000009).wr (R.TRACE_STIM_EN_EN 0) 0x200, by decide +kernel⟩

theorem test_meets_ActionsOfThreads_16 : ∃ (t : Fin 4) (i : Insn) (s : State), (s.standsAt t.val i .pwrOn = true) ∧ (s.locked t.val = false) ∧ (s.tag t.val i.ra = false) :=
  ⟨0, Insn.of 0x7810040000000009, (threadAt .run 0x7810040000000009), by decide +kernel⟩

theorem test_meets_ActionsOfThreads_17 : ∃ (t : Fin 4) (i : Insn) (s : State), (s.standsAt t.val i .pwrOff = true) ∧ (s.locked t.val = false) ∧ (s.tag t.val i.ra = false) :=
  ⟨0, Insn.of 0x7800040000000009, (threadAt .run 0x7800040000000009), by decide +kernel⟩

theorem test_meets_ActionsOfThreads_18 : ∃ (t : Fin 4) (i : Insn) (s : State), (s.standsAt t.val i .kick = true) ∧ (s.locked t.val = false) :=
  ⟨0, Insn.of 0x7900000000000000, (threadAt .run 0x7900000000000000), by decide +kernel⟩

theorem test_meets_ActionsOfThreads_19 : ∃ (t : Fin 4) (i : Insn) (s : State), (s.standsAt t.val i .exit = true) ∧ (s.locked t.val = false) :=
  ⟨0, Insn.of 0x7a00000000000000, (threadAt .run 0x7a00000000000000), by decide +kernel⟩

theorem test_meets_ActionsOfThreads_20 : ∃ (t : Fin 4) (i : Insn) (s : State), (s.standsAt t.val i .lock = true) ∧ (s.locked t.val = false) :=
  ⟨0, Insn.of 0x6800000000000000, (threadAt .run 0x6800000000000000), by decide +kernel⟩

theorem test_meets_ActionsOfThreads_21 : ∃ (t : Fin 4) (i : Insn) (s : State) (pc : Nat) (regs : Store Word) (tags : BitVec 32), (s.standsAt t.val i .unlock = true) ∧ ((s.thread t.val).lock = some ⟨pc, regs, tags, []⟩) ∧ (s.mayTag (threadNode t.val) 0 = true) :=
  ⟨0, Insn.of 0x6900000000000000, (threadAt .run 0x6900000000000000).setThread 0 { lock := some ⟨0, [], 0, []⟩ }, 0, [], 0, by decide +kernel⟩

theorem test_meets_ImagesLoadAndStart_1 : ∃ (x : ImgIn) (data : List (Byte × Bool)) (s : State), imgInOk x = true ∧ s.imgData x = some data ∧
    s.completesHeader x data.length = true ∧ s.sourceMay x = true ∧ (s.imgOpen && imgOffset x != s.imgNext) = false :=
  ⟨imageRq 0 512 0, _, stepSix, by decide +kernel, rfl, by decide +kernel⟩

theorem test_meets_ImagesLoadAndStart_2 : ∃ (x : ImgIn) (data : List (Byte × Bool)) (s : State), imgInOk x = true ∧ s.imgData x = some data ∧
    s.completesHeader x data.length = false ∧ s.sourceMay x = true ∧ (s.imgOpen && imgOffset x != s.imgNext) = false :=
  ⟨imageRq 0 16 0, _, stepSix, by decide +kernel, rfl, by decide +kernel⟩

/-- The tag of AES-256-GCM over nothing, under the key 0 and the IV 0: test case 13 of the GCM specification that SP 800-38D stands on. -/
def tag13 : List Byte := [0x53, 0x0f, 0x8a, 0xfb, 0xc7, 0x45, 0x36, 0xb9, 0xa9, 0x63, 0xb4, 0xf1, 0xc4, 0xcb, 0x73, 0x8b]

theorem test_meets_ImagesLoadAndStart_3 : ∃ s : State, s.istate = .verify ∧ s.img.tag = s.img.trailer.map BitVec.toNat :=
  ⟨(State.reset.setIstate .verify).setImg { total := 16, trailer := tag13 }, by decide +kernel⟩

theorem test_meets_ImagesLoadAndStart_4 : ∃ s : State, s.istate = .verify ∧ s.img.tag ≠ s.img.trailer.map BitVec.toNat :=
  ⟨(State.reset.setIstate .verify).setImg { total := 16, trailer := tag13.reverse }, by decide +kernel⟩

theorem test_meets_ImagesLoadAndStart_5 : ∃ s : State, s.istate = .commit ∧ s.heldLoads = [] ∧ s.img.phase = .none ∧ s.preCheck = none :=
  ⟨State.reset.setIstate .commit, by decide⟩

theorem test_meets_ImagesLoadAndStart_6 : ∃ s : State, s.istate = .commit ∧ s.heldLoads = [] ∧ s.img.phase = .floor ∧ s.floorDue = false :=
  ⟨(State.reset.setIstate .commit).setImg { phase := .floor }, by decide⟩

theorem test_meets_ImagesLoadAndStart_7 : ∃ (s : State), (s.istate = .commit) ∧ (s.heldLoads = []) ∧ (s.img.phase = .up) ∧ ((s.img.startRegions 7).any s.settling = false) :=
  ⟨(State.reset.setIstate .commit).setImg { phase := .up }, by decide +kernel⟩

theorem test_meets_ImagesLoadAndStart_8 : ∃ s : State, s.istate = .starting ∧ s.img.phase = .none ∧ s.img.startRegions 6 = [0] ∧
    (s.img.startRegions 6).find? (fun n => s.startRefusal n (.fill (s.img.startPlane n) false)) = none :=
  ⟨((ctxState.wr (planeFld 0 1) 2).setIstate .starting).setImg { staged := [⟨0, 5, 0xC1 :: List.replicate 71 0⟩] }, by decide +kernel⟩

theorem test_meets_ImagesLoadAndStart_9 : ∃ (s : State), (s.loadAwaited ≠ some 2) ∧ (s.istate = .header ∨ s.istate = .stream) ∧ (s.img.src ≠ 0) :=
  ⟨(State.reset.setIstate .header).setImg { src := 1 }, by decide +kernel⟩

theorem test_meets_ImagesLoadAndStart_10 : ∃ s : State, s.fromInside host = false ∧ R.IMG_CTL_ABORT.of (BitVec.ofNat 32 (2 ^ 31 + s.rd R.IMG_CTL_IDLE_TIMEOUT)) = 1 ∧
    (s.quiet.storeReg .IMG_CTL (BitVec.ofNat 32 (2 ^ 31 + s.rd R.IMG_CTL_IDLE_TIMEOUT))).imgOpen = true :=
  ⟨State.reset.setIstate .header, by decide +kernel⟩

theorem test_meets_PatrolVisitsAndRepairs_1 : ∃ (i n p f : Nat) (s u : State), (s.patrolRuns = true) ∧ (s.passDone.1 = false) ∧ (i = s.rd R.PATROL_SPOS_INDEX) ∧ (i < 1996799) ∧ (n = i / 31200 ∧ p = i / 3900 % 8 ∧ f = i % 3900) ∧ (u = { s.quiet.wr R.PATROL_SPOS_INDEX (i + 1) with passDone := (false, s.passDone.2) }) ∧ (u.plState n p = .valid ∧ u.dstate (64 + n / 4) = .on ∧ u.unusable n = false ∧ u.configTested (n / 4) = false) :=
  ⟨0, 0, 0, 0, patrolState, _, by decide +kernel, by decide +kernel, by decide +kernel, by decide +kernel, by decide +kernel, rfl, by decide +kernel⟩

theorem test_meets_PatrolVisitsAndRepairs_2 : ∃ (j : Nat) (s u : State), (s.patrolRuns = true) ∧ (s.heldVisits = []) ∧ (s.passDone.2 = false) ∧ (j = s.rd R.PATROL_APOS_INDEX) ∧ (j < 245759) ∧ (u = { s.quiet.wr R.PATROL_APOS_INDEX (j + 1) with passDone := (s.passDone.1, false) }) ∧ (u.is1 (R.REGION_STATUS_SPILLING (j / 3840)) = false) ∧ (u.activeReadable (j / 3840) = true) :=
  ⟨0, patrolState, _, by decide +kernel, by decide +kernel, by decide +kernel, by decide +kernel, by decide +kernel, rfl, by decide +kernel⟩

theorem test_meets_PatrolVisitsAndRepairs_3 : ∃ (c : Chk) (rest : List Chk) (s u : State), (s.checks = c :: rest) ∧ (c.active = false) ∧ (c.verdict = 1) ∧ (u = ({ s.quiet with checks := rest } : State).bump R.PATROL_SBE_SBE_STORED) :=
  ⟨⟨false, 0, 0, 5, 1, 0, false, 0⟩, [], { patrolState with checks := [⟨false, 0, 0, 5, 1, 0, false, 0⟩] }, _, by decide +kernel, by decide +kernel, by decide +kernel, rfl⟩

theorem test_meets_PatrolVisitsAndRepairs_4 : ∃ (c : Chk) (rest : List Chk) (s : State), (s.checks = c :: rest) ∧ (c.active = false) ∧ (c.verdict = 2) :=
  ⟨⟨false, 0, 0, 5, 2, 0, false, 0⟩, [], { patrolState with checks := [⟨false, 0, 0, 5, 2, 0, false, 0⟩] }, by decide +kernel⟩

theorem test_meets_PatrolVisitsAndRepairs_5 : ∃ (c : Corr) (rest : List Corr) (s : State), (s.corrq = c :: rest) ∧ (c.stale = false) ∧ ((s.frame c.n c.p c.f).flips.length < 3) :=
  ⟨⟨0, 0, 5, false⟩, [], { patrolState with corrq := [⟨0, 0, 5, false⟩] }, by decide +kernel⟩

theorem test_meets_PatrolVisitsAndRepairs_6 : ∃ (n : Fin 64) (f p : Nat) (s : State), ((s.region n.val).refetch.find? (fun e => e.2.2.isNone) = some (f, p, none)) ∧ ((s.frame n.val p f).flips = []) ∧ (statusFits f (s.frame n.val p f).status = true) :=
  ⟨0, 5, 0, { patrolState with planes := [(5, ⟨9, 0, []⟩)] }.setRegion 0 { refetch := [(5, 0, none)] }, by decide +kernel⟩

theorem test_meets_PatrolVisitsAndRepairs_7 : ∃ (s : State), (s.patrolRuns = true) ∧ (s.passComplete = true) :=
  ⟨{ patrolState with passDone := (true, true) }, by decide +kernel⟩

theorem test_meets_PatrolVisitsAndRepairs_8 : ∃ (v : BitVec 32) (s : State), s.is1 R.PATROL_CTL_EN = false ∧ (s.quiet.storeReg .PATROL_CTL v).is1 R.PATROL_CTL_EN = true :=
  ⟨BitVec.ofNat 32 (2 ^ R.PATROL_CTL_EN.lo), State.reset.wr R.PATROL_CTL_EN 0, by decide⟩

theorem test_meets_WaystationsForward_1 : ∃ (n : Fin 192) (port : Fin 16) (p : Packet) (f : Flight) (s : State),
    (p.op ≠ 0 ∧ p.vn = .req ∧ s.stationRuns n.val = true ∧ s.hasRoom n.val port.val 0 p = true) ∧ linkPort n.val port.val = false ∧
    s.decoded n.val { p with hops := 15 } = .inr f :=
  ⟨32, 0, readPacket 0x40000000000, ⟨some (bankNode 0), { readPacket 0x40000000000 with hops := 15, dstNode := bankNode 0 }⟩, runState, by decide⟩

theorem test_meets_WaystationsForward_2 : ∃ (n : Nat) (p q : Packet) (op : ReqOp) (node : Nat) (s : State), (reqOp p.op = some op) ∧ (op = .rd ∨ op = .wr) ∧ (packetSizeOk p = true) ∧ (s.rd R.START_STAT_STEP ≠ 5) ∧ (s.decodeAddr 17 p = some q) ∧ ((s.rehashHolds && s.toLarder q) = false) ∧ (s.routeNode q = some node) :=
  ⟨32, readPacket 0x40000000000, { readPacket 0x40000000000 with dstNode := bankNode 0 }, .rd, bankNode 0, runState, by decide +kernel⟩

theorem test_meets_WaystationsForward_3 : ∃ (n : Fin 192) (input : Fin 32) (vn : VNet) (f : Flight) (rest : List Flight) (node code m i : Nat) (s u : State), (s.stationRuns n.val = true) ∧ (¬ 26 ≤ input.val) ∧ ((s.buf (bufKey n.val input.val (vnNum vn))).pkts = f :: rest) ∧ (f.dest = some node) ∧ (¬ 192 ≤ node / 16) ∧ (code = s.rd (rtFld n.val f.pkt.epoch.toNat (node / 16))) ∧ (code ≠ 0) ∧ (behind n.val code = some (m, i)) ∧ (s.dieOut (m / 32) = false) ∧ (s.hasRoom m i (vnNum vn) f.pkt = true) ∧ (u = (((s.quiet.pushBuf m i (vnNum vn) f).unmark m (if 26 ≤ i then i - 6 else i) (vnNum vn) f.pkt).emit (.hop n.val code (s.flitWith n.val (inputFrom code) f.pkt) f.pkt)).payCredits n.val (inputFrom code)) :=
  ⟨0, 0, .req, ⟨some 0x10, readPacket 0⟩, [], 0x10, 1, 1, 17, { runState with bufs := [(bufKey 0 0 0, ⟨[⟨some 0x10, readPacket 0⟩], 0⟩)] }.wr (rtFld 0 0 1) 1, _, by decide +kernel, by decide +kernel, by decide +kernel, by decide +kernel, by decide +kernel, by decide +kernel, by decide +kernel, by decide +kernel, by decide +kernel, by decide +kernel, rfl⟩

theorem test_meets_WaystationsForward_4 : ∃ (n port : Nat) (p : Packet) (s : State), s.bit (R.WS_ISOL_ISOLATED n) port = false ∧ linkPort n port = false ∧
    (endpointAt n port true = true ∧ s.endpointOut n port = false ∧ csrEndpointOk (16 * n + port) (packetRequest p) = true) ∧
    s.endpointTested n port = false ∧ (∀ d, endpointDomain n port = some d → s.meetDomain d n port (packetRequest p) = some (s, true)) ∧
    (s.deliv.filter fun e => e.station == n && e.port == port).length < 256 ∧ s.endpointFull n port (packetRequest p) = false :=
  ⟨128, 2, readPacket 0x40000000000, runState, by decide, by decide, by decide, by decide, fun d h => by simp [endpointDomain] at h, by decide +kernel⟩

theorem test_meets_WaystationsForward_5 : ∃ (n : Fin 192) (input : Fin 32) (vn : VNet) (c : Nat) (s : State), (c = min 8 (s.buf (bufKey n.val input.val (vnNum vn))).gone) ∧ (c ≠ 0) ∧ (s.stationRuns n.val = true) ∧ (¬ (26 ≤ input.val ∧ s.dieOut (input.val - 26) = true)) ∧ (linkPort n.val input.val = false) :=
  ⟨0, 1, .req, 3, { runState with bufs := [(bufKey 0 1 0, ⟨[], 3⟩)] }, by decide +kernel⟩

theorem test_meets_WaystationsForward_6 : ∃ (p : Packet), (p.op ≠ 0 ∧ p.op < 2 ^ 8 ∧ p.len < 4 ∧ p.tag < 2 ^ 8 ∧ p.resp < 2 ^ 4 ∧ p.hops < 2 ^ 8) ∧ (p.dstNode < 2 ^ 12 ∧ p.dstDev < 2 ^ 8 ∧ p.srcNode < 2 ^ 12 ∧ p.srcDev < 2 ^ 8 ∧ p.addr < 2 ^ 52) ∧ (1 ≤ p.size ∧ p.size ≤ 128 ∧ p.poison < 2 ^ 16 ∧ p.operand < 2 ^ 64 ∧ p.byteEn < 2 ^ 128) :=
  ⟨readPacket 0x40000000000, by decide +kernel⟩

theorem test_meets_WaystationsForward_7 : ∃ (p : Packet) (q r y : Nat), (q ≤ 8 ∧ r ≤ 8 ∧ y ≤ 8) :=
  ⟨readPacket 0, 8, 0, 3, by decide +kernel⟩

theorem test_meets_WaystationsForward_9 : ∃ (s : State), s.deliv.any (fun e => e.station == 32 && e.port == 0 && e.rq.ini == host && e.rq.tag == 0 && !e.late) = true ∧
    (((storeGet [] (16 * 32 + 0) s.expiries).filter fun t => decide (s.now < t + 156250)) ++ [s.now]).length < 4 :=
  ⟨{ runState with deliv := [⟨32, 0, ⟨host, 0, ⟨.rd, 0, 0, 0, 8, [], 0⟩⟩, false⟩] }, by decide⟩

theorem test_meets_WaystationsForward_10 : ∃ (ini : Ini) (n : Fin 192) (v : BitVec 32) (s : State), (stationExists (n.val / 32) (n.val % 32) = true) ∧ (s.turnedAway (R.WS_ISOL_ISOLATED n.val).off = none) :=
  ⟨host, 3, 5, runState, by decide +kernel⟩

theorem test_meets_RouteEpochs_1 : ∃ (v : BitVec 32) (s : State), R.NET_EPOCH_FLIP.of v ≠ 0 ∧ (s.quiet.w1cOnly .NET_EPOCH v).epoch = none :=
  ⟨BitVec.ofNat 32 (2 ^ R.NET_EPOCH_FLIP.lo), runState, by decide⟩

theorem test_meets_RouteEpochs_2 : ∃ (n : Fin 192) (e : EpochChange) (s : State), (s.epoch = some e) ∧ (s.is1 R.NET_EPOCH_DRAINING = false) ∧ (e.setAt.contains n.val = false) ∧ (s.liveStations.contains n.val = true) ∧ (s.liveStations.all (fun m => (e.setAt ++ [n.val]).contains m) = false) :=
  ⟨3, {}, { runState with epoch := some {} }, by decide +kernel⟩

theorem test_meets_RouteEpochs_3 : ∃ (n : Fin 192) (e : EpochChange) (s : State), s.epoch = some e ∧ s.is1 R.NET_EPOCH_DRAINING = false ∧ e.setAt.contains n.val = false ∧ s.liveStations.contains n.val = true ∧
    s.liveStations.all (fun m => (e.setAt ++ [n.val]).contains m) = true :=
  ⟨0, { setAt := (List.range 192).tail }, { runState with epoch := some { setAt := (List.range 192).tail } }, by decide +kernel⟩

theorem test_meets_RouteEpochs_4 : ∃ (n : Fin 192) (input : Fin 32) (vn : VNet) (e : EpochChange) (m : Nat) (s : State), (s.epoch = some e) ∧ ((s.liveInputs n.val).contains input.val = true) ∧ (e.marks.contains (bufKey n.val input.val (vnNum vn)) = false) ∧ (s.stationRuns n.val = true) ∧ (upstream n.val input.val = some m) ∧ (s.markSent e m (vnNum vn) = true) ∧ (s.relayClear n.val input.val (vnNum vn) = true) :=
  ⟨0, 16, .req, { setAt := [1] }, 1, { runState with epoch := some { setAt := [1] } }, by decide +kernel⟩

theorem test_meets_RouteEpochs_5 : ∃ (e : EpochChange) (s : State), s.epoch = some e ∧ s.is1 R.NET_EPOCH_DRAINING = true ∧ s.liveStations.all (fun n => e.reported.contains n) = true :=
  ⟨{ reported := List.range 192 }, { runState with epoch := some { reported := List.range 192 } }.wr R.NET_EPOCH_DRAINING 1, by decide +kernel⟩

theorem test_meets_RouteEpochs_6 : ∃ (e : EpochChange) (s : State), (s.epoch = some e) ∧ (s.is1 R.NET_EPOCH_DRAINING = true) ∧ (e.stuck = false) :=
  ⟨{}, { runState with epoch := some {} }.wr R.NET_EPOCH_DRAINING 1, by decide +kernel⟩

theorem test_meets_RouteEpochs_7 : ∃ (ini : Ini) (n : Fin 192) (b : Fin 2) (i : Fin 24) (v : BitVec 32) (s : State), (stationExists (n.val / 32) (n.val % 32) = true) ∧ (s.rtInUse b.val = false) ∧ (s.turnedAway (rtFld n.val b.val (8 * i.val)).off = none) :=
  ⟨host, 0, 1, 2, 9, runState, by decide +kernel⟩

theorem test_meets_RouteEpochs_8 : ∃ (ini : Ini) (n : Fin 192) (b : Fin 2) (i : Fin 24) (v : BitVec 32) (s : State), (stationExists (n.val / 32) (n.val % 32) = true) ∧ (s.rtInUse b.val = true) ∧ (s.turnedAway (rtFld n.val b.val (8 * i.val)).off = none) :=
  ⟨host, 0, 0, 2, 9, runState, by decide +kernel⟩

theorem test_meets_RouteEpochs_9 : ∃ (d : Fin 112) (s u : State), (s.dstate d.val = .closing) ∧ ((s.dom d.val).pnr = false) ∧ (u = (s.unanswered d.val).foldl (fun (t : State) e => (t.reply e.2 .aborted).bump (R.WS_STAT_ABORTED e.1)) { s.quiet.setDom d.val { s.dom d.val with pnr := true } with
        deliv := s.deliv.filter fun e => endpointDomain e.station e.port ≠ some d.val }) ∧ (64 ≤ d.val) :=
  ⟨70, runState.wr (R.PWR_DOM_CTL_STATE 70) 3, _, by decide +kernel, by decide +kernel, rfl, by decide +kernel⟩

theorem test_meets_RouteEpochs_10 : ∃ (d : Fin 112) (s u : State), (s.dstate d.val = .closing) ∧ ((s.dom d.val).pnr = false) ∧ (u = (s.unanswered d.val).foldl (fun (t : State) e => (t.reply e.2 .aborted).bump (R.WS_STAT_ABORTED e.1)) { s.quiet.setDom d.val { s.dom d.val with pnr := true } with
        deliv := s.deliv.filter fun e => endpointDomain e.station e.port ≠ some d.val }) ∧ (d.val < 64) ∧ (s.is1 (R.REGION_STATUS_SPILLING d.val) = false) :=
  ⟨5, runState.wr (R.PWR_DOM_CTL_STATE 5) 3, _, by decide +kernel, by decide +kernel, rfl, by decide +kernel⟩

theorem test_meets_RouteEpochs_11 : ∃ (d : Fin 112) (s : State), (s.dstate d.val ≠ .closing ∨ (s.dom d.val).pnr = true ∨ d.val < 64 ∧ s.is1 (R.REGION_STATUS_SPILLING d.val) = true) :=
  ⟨5, runState, by decide +kernel⟩

theorem test_meets_RouteEpochs_12 : ∃ (d : Fin 112) (s : State), (s.dstate d.val = .off) ∧ (s.park.any (fun e => e.dom == d.val) = true) ∧ (s.onRefusal d.val = none) :=
  ⟨1, { runState.wr (R.PWR_DOM_CTL_STATE 64) 2 with park := [⟨33, 0, 1, ⟨host, 0, ⟨.rd, 0, 0, 0, 8, [], 0⟩⟩⟩] }, by decide +kernel⟩

theorem test_meets_CouriersMoveData_1 : ∃ (ini : Ini) (c : Fin 32) (s : State), (s.cstate c.val = .idle) ∧ (s.turnedAway (R.COURIER_CTL_GO c.val).off = none) :=
  ⟨host, 0, runState, by decide +kernel⟩

theorem test_meets_CouriersMoveData_2 : ∃ (ini : Ini) (c : Fin 32) (s : State), (s.cstate c.val ≠ .idle) ∧ (s.turnedAway (R.COURIER_CTL_GO c.val).off = none) :=
  ⟨host, 0, runState.wr (R.COURIER_STAT_STATE 0) 1, by decide +kernel⟩

theorem test_meets_CouriersMoveData_3 : ∃ (ini : Ini) (c : Fin 32) (s : State), (s.cstate c.val ≠ .idle) ∧ ((s.courier c.val).stop = none) ∧ (s.turnedAway (R.COURIER_CTL_GO c.val).off = none) :=
  ⟨host, 0, runState.wr (R.COURIER_STAT_STATE 0) 1, by decide +kernel⟩

theorem test_meets_CouriersMoveData_4 : ∃ (c : Fin 32) (rq : Request) (s : State), (¬ (rq.acc.op ≠ .nwr ∨ rq.acc.addr ≠ 0 ∨ rq.acc.size ≠ 8)) ∧ (s.cstate c.val = .idle) :=
  ⟨0, ⟨host, 0, ⟨.nwr, 0, 2, 0, 8, [0, 1, 0, 0, 0, 0, 0, 0], 0⟩⟩, runState, by decide +kernel⟩

theorem test_meets_CouriersMoveData_5 : ∃ (a : Answer) (s u : State), courierAnswerOk (s.courier 0) 0 a = true ∧ s.courierFrozen = false ∧ s.quiet.takeAnswer (courierNode 0) 0 a = some u :=
  ⟨⟨.ok, [1], 0⟩, { runState.setCourier 0 { reqs := [⟨0, .read 0, 0, 1⟩] } with outst := [⟨courierNode 0, 0, 1, none, false, false⟩] }, _, by decide, by decide, rfl⟩

theorem test_meets_CouriersMoveData_6 : ∃ (a : Answer) (s u : State), courierAnswerOk (s.courier 0) 0 a = true ∧ s.courierFrozen = false ∧ s.quiet.takeAnswer (courierNode 0) 0 a = some u :=
  ⟨⟨.ok, [1], 0⟩, { runState.setCourier 0 { reqs := [⟨0, .write, 0, 1⟩] } with outst := [⟨courierNode 0, 0, 1, none, false, false⟩] }, _, by decide, by decide, rfl⟩

theorem test_meets_LarderServesRequests_1 : ∃ (rq : Request) (k l : Nat) (x : Line) (s t : State), rq.acc.op = .rd ∧ readSizeOk rq.acc.addr rq.acc.size = true ∧
    s.sliceOf (rq.acc.addr % 2 ^ 44) = some k ∧ ¬ 0x30000000000 ≤ rq.acc.addr % 2 ^ 44 ∧ s.is1 R.LARDER_IMBAL_CFG_EN = false ∧ (s.slice k).waiting = [] ∧
    l = rq.acc.addr / 128 % 2 ^ 35 ∧ s.lineExists l = true ∧ (s.slice k).misses.find? (fun m => m.line == l) = none ∧ s.line l = some x ∧ s.quiet.readHit k l x rq = some t :=
  ⟨lineRead, 0, 0, ⟨0, [], false, 3⟩, { larderState with larder := { lines := [(0, some ⟨0, [], false, 3⟩)] } }, _, by decide, by decide, by decide +kernel, by decide,
    by decide, by decide, by decide, by decide, by decide, by decide, by rfl⟩

theorem test_meets_LarderServesRequests_2 : ∃ (rq : Request) (k l w : Nat) (s t : State), rq.acc.op = .rd ∧ readSizeOk rq.acc.addr rq.acc.size = true ∧
    s.sliceOf (rq.acc.addr % 2 ^ 44) = some k ∧ ¬ 0x30000000000 ≤ rq.acc.addr % 2 ^ 44 ∧ s.is1 R.LARDER_IMBAL_CFG_EN = false ∧ (s.slice k).waiting = [] ∧
    l = rq.acc.addr / 128 % 2 ^ 35 ∧ s.lineExists l = true ∧ (s.slice k).misses.find? (fun m => m.line == l) = none ∧ s.line l = none ∧ s.debugRead rq = false ∧
    ¬ 64 ≤ (s.slice k).misses.length ∧ s.quiet.takeWay k l = some (t, w) :=
  ⟨lineRead, 0, 0, 0, larderState, larderState.quiet, by decide, by decide, by decide +kernel, by decide, by decide, by decide, by decide, by decide, by decide, by decide,
    by decide, by decide, rfl⟩

theorem test_meets_LarderServesRequests_3 : ∃ (rq : Request) (k l w key : Nat) (s t : State), rq.acc.op = .wr ∧ (rq.acc.size = 128 ∧ rq.acc.data.length = 128) ∧
    writeSizeOk rq.acc.addr rq.acc.size = true ∧ s.sliceOf (rq.acc.addr % 2 ^ 44) = some k ∧ ¬ 0x30000000000 ≤ rq.acc.addr % 2 ^ 44 ∧
    s.is1 R.LARDER_IMBAL_CFG_EN = false ∧ (s.slice k).waiting = [] ∧ l = rq.acc.addr / 128 % 2 ^ 35 ∧ s.lineExists l = true ∧
    (s.slice k).misses.find? (fun m => m.line == l) = none ∧ s.line l = none ∧ s.keyOf (rq.acc.addr % 2 ^ 44) = some key ∧ s.quiet.takeWay k l = some (t, w) :=
  ⟨lineWrite, 0, 0, 0, 3, larderState, larderState.quiet, by decide +kernel, by decide +kernel, by decide, by decide +kernel, by decide, by decide, by decide, by decide, by decide, by decide,
    by decide, by decide, rfl⟩

theorem test_meets_LarderServesRequests_4 : ∃ (l : BitVec 35) (k : Nat) (m : Miss) (a : FillAns) (s : State), s.sliceOf (l.toNat * 128) = some k ∧
    (s.slice k).misses.find? (fun m => m.line == l.toNat && m.ans.isSome) = some m ∧ m.ans = some a ∧ a.code ≠ .ok :=
  ⟨0, 0, ⟨0, 0, [lineRead], some ⟨.keytag, 0, 0, 3⟩⟩, ⟨.keytag, 0, 0, 3⟩, larderState.setSlice 0 { misses := [⟨0, 0, [lineRead], some ⟨.keytag, 0, 0, 3⟩⟩] },
    by decide +kernel⟩

theorem test_meets_LarderServesRequests_5 : ∃ (l : BitVec 35) (k : Nat) (m : Miss) (a : FillAns) (s : State), s.sliceOf (l.toNat * 128) = some k ∧
    (s.slice k).misses.find? (fun m => m.line == l.toNat && m.ans.isSome) = some m ∧ m.ans = some a ∧ a.code = .ok ∧ m.way ≠ noWay :=
  ⟨0, 0, ⟨0, 0, [lineRead], some ⟨.ok, 7, 0, 3⟩⟩, ⟨.ok, 7, 0, 3⟩, larderState.setSlice 0 { misses := [⟨0, 0, [lineRead], some ⟨.ok, 7, 0, 3⟩⟩] },
    by decide +kernel⟩

theorem test_meets_LarderServesRequests_6 : ∃ (l : BitVec 35) (w : Wb) (s : State), (s.firstWb l.toNat = some w) ∧ (w.stage = .answered .ok) :=
  ⟨0, ⟨0, 0, 3, 7, 0, true, false, 0, .answered .ok⟩, { larderState with larder := { wbs := [⟨0, 0, 3, 7, 0, true, false, 0, .answered .ok⟩] } }, by decide +kernel⟩

theorem test_meets_LarderServesRequests_7 : ∃ (l : BitVec 35) (w : Wb) (code : Resp) (s : State), (s.firstWb l.toNat = some w) ∧ (w.stage = .answered code) ∧ (code ≠ .ok) ∧ (w.fails < 3) :=
  ⟨0, ⟨0, 0, 3, 7, 0, true, false, 0, .answered .denied⟩, .denied, { larderState with larder := { wbs := [⟨0, 0, 3, 7, 0, true, false, 0, .answered .denied⟩] } }, by decide +kernel⟩

theorem test_meets_LarderServesRequests_8 : ∃ (l : BitVec 35) (w : Wb) (s : State), (s.firstWb l.toNat = some w) ∧ (w.stage = .retry) :=
  ⟨0, ⟨0, 0, 3, 7, 0, true, false, 1, .retry⟩, { larderState with larder := { wbs := [⟨0, 0, 3, 7, 0, true, false, 1, .retry⟩] } }, by decide +kernel⟩

theorem test_meets_LarderServesRequests_9 : ∃ s : State, s.is1 R.LARDER_IMBAL_CFG_EN = true ∧ s.larder.counts = [] ∧
    (((s.quiet.each (List.range 128) fun (t : State) k => t.wr (R.LARDER_SLICE_CNT_COUNT k) 0).wr R.LARDER_IMBAL_STAT_MAX_SLICE 0).wr R.LARDER_IMBAL_STAT_SKEW 0).rd
      R.LARDER_IMBAL_CFG_THRESH ≠ 0 :=
  ⟨(larderState.wr R.LARDER_IMBAL_CFG_EN 1).wr R.LARDER_IMBAL_CFG_THRESH 32, by decide +kernel⟩

theorem test_meets_LarderMaintenance_1 : ∃ (ini : Ini) (scope : BitVec 3) (key : BitVec 6) (slice : BitVec 7) (s u : State), (u = s.quiet.storeReg .LARDER_CTL (larderValue 1 scope.toNat key.toNat slice.toNat 0)) ∧ (R.LARDER_CTL_OP.of (larderValue 1 scope.toNat key.toNat slice.toNat 0) = 1) ∧ (R.LARDER_CTL_SCOPE.of (larderValue 1 scope.toNat key.toNat slice.toNat 0) = scope.toNat) ∧ (R.LARDER_CTL_KEY_ID.of (larderValue 1 scope.toNat key.toNat slice.toNat 0) = key.toNat) ∧ (R.LARDER_CTL_SLICE.of (larderValue 1 scope.toNat key.toNat slice.toNat 0) = slice.toNat) ∧ (u.is1 R.LARDER_CTL_BUSY = false) ∧ (scope.toNat < 3) ∧ (s.turnedAway (if s.dieOut 4 then 0x2800000 else 0x2000000) = none) :=
  ⟨host, 1, 3, 0, larderState, _, rfl, by decide +kernel⟩

theorem test_meets_LarderMaintenance_2 : ∃ (ini : Ini) (scope : BitVec 3) (key : BitVec 6) (slice : BitVec 7) (s u : State), (u = s.quiet.storeReg .LARDER_CTL (larderValue 2 scope.toNat key.toNat slice.toNat 0)) ∧ (R.LARDER_CTL_OP.of (larderValue 2 scope.toNat key.toNat slice.toNat 0) = 2) ∧ (R.LARDER_CTL_SCOPE.of (larderValue 2 scope.toNat key.toNat slice.toNat 0) = scope.toNat) ∧ (R.LARDER_CTL_KEY_ID.of (larderValue 2 scope.toNat key.toNat slice.toNat 0) = key.toNat) ∧ (R.LARDER_CTL_SLICE.of (larderValue 2 scope.toNat key.toNat slice.toNat 0) = slice.toNat) ∧ (u.is1 R.LARDER_CTL_BUSY = false) ∧ (scope.toNat < 3) ∧ (s.turnedAway (if s.dieOut 4 then 0x2800000 else 0x2000000) = none) :=
  ⟨host, 1, 3, 0, larderState, _, rfl, by decide +kernel⟩

theorem test_meets_LarderMaintenance_3 : ∃ (ini : Ini) (salt : Bool) (s u : State), (u = s.quiet.storeReg .LARDER_CTL (larderValue 3 0 0 0 salt.toNat)) ∧ (R.LARDER_CTL_OP.of (larderValue 3 0 0 0 salt.toNat) = 3) ∧ ((R.LARDER_CTL_NEW_SALT.of (larderValue 3 0 0 0 salt.toNat) == 1) = salt) ∧ ((u.is1 R.LARDER_CTL_BUSY || u.nextSet.isEmpty || !(u.nextSet.all u.sliceUsable)) = false) ∧ (s.turnedAway (if s.dieOut 4 then 0x2800000 else 0x2000000) = none) :=
  ⟨host, true, ((larderState.wr (R.LARDER_SET_NEXT_MEMBER 0) 1).wr (R.STACK_SLICE_MAP_IN_SERVICE 0) 1).wr (R.PWR_DOM_CTL_STATE 80) 2, _, rfl, by decide +kernel⟩

theorem test_meets_LarderMaintenance_4 : ∃ (salt : Bool) (s : State), (s.larder.op = some (.rehash salt false)) ∧ (s.opDrained = true) :=
  ⟨true, { larderState with larder := { op := some (.rehash true false) } }, by decide +kernel⟩

theorem test_meets_LarderMaintenance_5 : ∃ s : State, s.larder.op = some (.rehash false true) ∧ s.slicesIdle = true :=
  ⟨{ larderState with larder := { op := some (.rehash false true) } }, by decide⟩

theorem test_meets_LarderMaintenance_6 : ∃ s : State, s.larder.op = some (.rehash true true) ∧ s.slicesIdle = true :=
  ⟨{ larderState with larder := { op := some (.rehash true true) } }, by decide⟩

theorem test_meets_LarderMaintenance_7 : ∃ (s : State), (s.larder.op = some .clean ∨ s.larder.op = some (.flush none)) ∧ (s.opDrained = true) :=
  ⟨{ larderState with larder := { op := some .clean } }, by decide +kernel⟩

theorem test_meets_ScratchpadBanks_1 : ∃ (rq : Request) (clash : BitVec 17) (later : Bool) (a : BankAt) (m : BMode) (s : State), (isWriteOp rq.acc.op = false) ∧ (bankAt rq.acc = some a) ∧ ((!(s.bankIn a.b) || a.resv) = false) ∧ (s.matchesOwner (s.rd (R.BANK_OWNER_KIND a.b)) (s.rd (R.BANK_OWNER_ID a.b)) rq.ini = true) ∧ ((s.bank a.b).newOwner = none) ∧ (s.bankState a.b = 0) ∧ (m = s.bankMode a rq.acc.op) ∧ (s.bankLimits a m rq.acc = true) :=
  ⟨bankRq .rd [], 0, false, ⟨5, false, 0, 16, false⟩, .linear, (runState.wr (R.BANK_OWNER_KIND 5) 6).wr (R.BANK_PWR_STATE 5) 0, by decide +kernel⟩

theorem test_meets_ScratchpadBanks_2 : ∃ (rq : Request) (stalls : BitVec 8) (a : BankAt) (m : BMode) (s : State), (rq.acc.data.length = rq.acc.size) ∧ (isWriteOp rq.acc.op = true) ∧ (bankAt rq.acc = some a) ∧ ((!(s.bankIn a.b) || a.resv) = false) ∧ (s.matchesOwner (s.rd (R.BANK_OWNER_KIND a.b)) (s.rd (R.BANK_OWNER_ID a.b)) rq.ini = true) ∧ ((s.bank a.b).newOwner = none) ∧ (s.bankState a.b = 0) ∧ (m = s.bankMode a rq.acc.op) ∧ (s.bankLimits a m rq.acc = true) :=
  ⟨bankRq .wr [1, 2, 3, 4, 5, 6, 7, 8], 0, ⟨5, false, 0, 16, false⟩, .linear, (runState.wr (R.BANK_OWNER_KIND 5) 6).wr (R.BANK_PWR_STATE 5) 0, by decide +kernel⟩

theorem test_meets_ScratchpadBanks_3 : ∃ (rq : Request) (stalls : BitVec 8) (a : BankAt) (s : State), (rq.acc.data.length = rq.acc.size) ∧ (isWriteOp rq.acc.op = true) ∧ (bankAt rq.acc = some a) ∧ ((!(s.bankIn a.b) || a.resv) = false) ∧ (s.rd (R.BANK_OWNER_KIND a.b) ≠ 5) ∧ ((s.bank a.b).newOwner = none) ∧ ((s.matchesOwner (s.rd (R.BANK_OWNER_KIND a.b)) (s.rd (R.BANK_OWNER_ID a.b)) rq.ini || s.passesOwner rq.ini) = false) :=
  ⟨bankRq .wr [1, 2, 3, 4, 5, 6, 7, 8], 0, ⟨5, false, 0, 16, false⟩, runState.wr (R.BANK_OWNER_KIND 5) 1, by decide +kernel⟩

theorem test_meets_ScratchpadBanks_4 : ∃ (ini : Ini) (b : Fin 2048) (v : BitVec 32) (s u z : State) (kind id : Nat), (s.bankIn b.val = true) ∧ (u = s.quiet.w1cOnly (.BANK_OWNER b.val) v) ∧ (kind = (R.BANK_OWNER_KIND b.val).of v ∧ id = (R.BANK_OWNER_ID b.val).of v) ∧ (kind < 8) ∧ ((u.is1 (R.BANK_OWNER_PENDING b.val) || !(ownerOk kind id) || u.keptByTest.contains (.bank b.val)) = false) ∧ (z = (u.abortTestOf (.bank b.val)).heldPower (.bank b.val)) ∧ (s.turnedAway (R.BANK_OWNER_KIND b.val).off = none) :=
  ⟨host, 5, BitVec.ofNat 32 0, runState, _, _, 0, 0, by decide +kernel, rfl, by decide +kernel, by decide +kernel, by decide +kernel, rfl, by decide +kernel⟩

theorem test_meets_ScratchpadBanks_5 : ∃ (b : Fin 2048) (k i : Nat) (s u : State), ((s.bank b.val).accepted = []) ∧ ((s.bank b.val).newOwner = some (k, i)) ∧ (u = s.quiet.setBank b.val { s.bank b.val with newOwner := none }) :=
  ⟨5, 6, 0, ((runState.wr (R.BANK_OWNER_KIND 5) 6).wr (R.BANK_PWR_STATE 5) 0).setBank 5 { newOwner := some (6, 0) }, _, by decide +kernel, by decide +kernel, rfl⟩

theorem test_meets_ScratchpadBanks_6 : ∃ (ini : Ini) (b : Fin 2048) (v : BitVec 32) (s u z : State), (s.bankIn b.val = true) ∧ (u = s.quiet.w1cOnly (.BANK_CFG b.val) v) ∧ (z = u.storeReg (.BANK_CFG b.val) v) ∧ (u.bankQueued b.val false = 0 ∧ u.bankQueued b.val true = 0) ∧ ((modeWidthOk (z.rd (R.BANK_CFG_A_MODE b.val)) (z.rd (R.BANK_CFG_A_WIDTH b.val)) && modeWidthOk (z.rd (R.BANK_CFG_B_MODE b.val)) (z.rd (R.BANK_CFG_B_WIDTH b.val))) = true) ∧ (s.turnedAway (R.BANK_CFG_A_MODE b.val).off = none) :=
  ⟨host, 5, 0, (runState.wr (R.BANK_OWNER_KIND 5) 6).wr (R.BANK_PWR_STATE 5) 0, _, _, by decide +kernel, rfl, rfl, by decide +kernel⟩

theorem test_meets_ScratchpadBanks_7 : ∃ (b : Fin 2048) (v : BitVec 32) (s : State), s.bankIn b.val = true ∧
    ¬ ((R.BANK_WIN_A_LEN_W b.val).of v = 0 ∨ 16384 < (R.BANK_WIN_A_BASE_W b.val).of v + (R.BANK_WIN_A_LEN_W b.val).of v ∨ s.bankQueued b.val true ≠ 0) :=
  ⟨5, BitVec.ofNat 32 (2 ^ (R.BANK_WIN_A_LEN_W 5).lo), runState, by decide⟩

theorem test_meets_ScratchpadBanks_8 : ∃ (v : BitVec 32) (s : State), s.bankIn 5 = true ∧ (R.BANK_PWR_REQ 5).of v ≠ 3 ∧ s.underTest.contains (.bank 5) = false ∧
    ¬ (s.bankState 5 = 3 ∨ s.bankState 5 = (R.BANK_PWR_REQ 5).of v) :=
  ⟨BitVec.ofNat 32 (2 ^ (R.BANK_PWR_REQ 5).lo), (runState.wr (R.BANK_OWNER_KIND 5) 6).wr (R.BANK_PWR_STATE 5) 0, by decide⟩

theorem test_meets_ScratchpadBanks_9 : ∃ (b : Fin 2048) (st : Nat) (s u z : State), ((s.bank b.val).toward = some st) ∧ (st ≠ 2) ∧ (u = (s.quiet.setBank b.val { s.bank b.val with toward := none }).wr (R.BANK_PWR_STATE b.val) st) ∧ (z = u.bankRecheck b.val) :=
  ⟨5, 0, ((runState.wr (R.BANK_PWR_STATE 5) 3).wr (R.BANK_PWR_REQ 5) 0).setBank 5 { toward := some 0 }, _, _, by decide +kernel, by decide +kernel, rfl, rfl⟩

theorem test_meets_ScratchpadBanks_10 : ∃ (b : Fin 2048) (s u z : State), ((s.bank b.val).toward = some 2) ∧ (u = ((s.quiet.setBank b.val { s.bank b.val with toward := none }).wr (R.BANK_PWR_STATE b.val) 2).loseBank b.val) ∧ (z = u.bankRecheck b.val) :=
  ⟨5, ((runState.wr (R.BANK_PWR_STATE 5) 3).wr (R.BANK_PWR_REQ 5) 2).setBank 5 { toward := some 2 }, _, _, by decide +kernel, rfl, rfl⟩

theorem test_meets_NightPorters_1 : ∃ (d : Fin 2) (i : Nat) (s : State), s.porterRuns d.val = true ∧ (s.porter d.val).done = false ∧ i = s.rd (R.PORTER_POS_UNIT d.val) ∧ i < 8388607 :=
  ⟨0, 0, ((runState.wr (R.PORTER_CTL_EN 0) 1).setPorter 0 { started := true }), by decide +kernel⟩

theorem test_meets_NightPorters_2 : ∃ (d : Fin 2) (s : State), (s.porterRuns d.val = true) ∧ ((s.porter d.val).done = true) :=
  ⟨0, (runState.wr (R.PORTER_CTL_EN 0) 1).setPorter 0 { started := true, done := true }, by decide +kernel⟩

theorem test_meets_NightPorters_3 : ∃ (d : Fin 2) (s : State), (s.porterRuns d.val = true) ∧ ((s.porter d.val).done = false) :=
  ⟨0, ((runState.wr (R.PORTER_CTL_EN 0) 1).setPorter 0 { started := true }), by decide +kernel⟩

theorem test_meets_NightPorters_4 : ∃ (v : BitVec 32) (s : State), s.is1 (R.PORTER_CTL_EN 0) = false ∧ (s.quiet.storeReg (.PORTER_CTL 0) v).is1 (R.PORTER_CTL_EN 0) = true :=
  ⟨BitVec.ofNat 32 (2 ^ (R.PORTER_CTL_EN 0).lo), runState.wr (R.PORTER_CTL_EN 0) 0, by decide⟩

theorem test_meets_NightPorters_5 : ∃ (e : TrackEntry) (s u z : State), s.porterRuns 0 = true ∧ u = s.quiet.repairDue 0 64 ∧
    (u.track 64).find? (fun e => e.state == .queued && u.porterReaches (trackedUnit 0 64 e.addr)) = some e ∧
    z = u.setTrack 64 ((u.track 64).map fun x => if x.addr = e.addr then { x with state := .rewritten, count := 0, full := false, again := false } else x) ∧
    z.unitHolds (trackedUnit 0 64 e.addr) e.addr = true :=
  ⟨⟨0x40000000000, 3, .queued, false, false, none⟩, ({ ((((runState.wr (R.PORTER_CTL_EN 0) 1).setPorter 0 { started := true }).wr (R.BANK_PWR_STATE 0) 0).setTrack 64 [⟨0x40000000000, 3, .queued, false, false, none⟩] : State) with spad := [(0, flipCell 0 1 0)] } : State), _, _, by decide, rfl, by decide, rfl, rfl⟩

theorem test_meets_NightPorters_6 : ∃ (u : Unit') (addr : Nat) (s : State), wordStatus (s.wordCells u addr) = .corrected :=
  ⟨.bank 0, 0x40000000000, { runState with spad := [(0, flipCell 0 1 0)] }, by decide⟩

theorem test_meets_NightPorters_7 : ∃ (v : BitVec 32) (s : State), (s.quiet.storeReg (.PROT_FLIP_CTL 0) v).is1 (R.PROT_FLIP_CTL_KIND 0) = true ∧
    (s.quiet.storeReg (.PROT_FLIP_CTL 0) v).bankIn 0 = true ∧ (s.quiet.storeReg (.PROT_FLIP_CTL 0) v).rd (R.PROT_FLIP_CTL_UNIT 0) = 0 :=
  ⟨BitVec.ofNat 32 (2 ^ (R.PROT_FLIP_CTL_KIND 0).lo), runState, by decide⟩

theorem test_meets_SdramChannels_1 : ∃ (ini : Ini) (v : BitVec 32) (s u z : State), (u = s.quiet.w1cOnly .SD_CFG v) ∧ (z = u.storeReg .SD_CFG v) ∧ ((List.range 12).all (fun c => u.chState c == .off) = true) ∧ (z.populated.length = 1 ∨ z.populated.length = 2 ∨ z.populated.length = 3 ∨ z.populated.length = 4 ∨ z.populated.length = 6 ∨ z.populated.length = 12) ∧ ((if z.is1 R.SD_CFG_TWO_MOD then (z.ranks == 2 || z.ranks == 4) && decide (z.rd R.SD_CFG_RATE ≤ 2) else (z.ranks == 1 || z.ranks == 2)) = true) ∧ (s.turnedAway (R.SD_CFG_POP).off = none) :=
  ⟨host, BitVec.ofNat 32 (2 ^ R.SD_CFG_POP.lo), State.reset, _, _, rfl, rfl, by decide +kernel⟩

theorem test_meets_SdramChannels_2 : ∃ (ini : Ini) (c : Fin 12) (s : State), (s.bit R.SD_CFG_POP c.val = true) ∧ (s.chState c.val = .off ∨ s.chState c.val = .failed) ∧ (s.turnedAway (R.SD_CH_CTL_CMD c.val).off = none) :=
  ⟨host, 0, larderState, by decide +kernel⟩

theorem test_meets_SdramChannels_3 : ∃ (c : Fin 12) (s : State), (s.chState c.val = .training) :=
  ⟨0, larderState.setChState 0 .training, by decide +kernel⟩

theorem test_meets_SdramChannels_4 : ∃ (c : Fin 12) (k : Fin 5) (s : State), (s.chState c.val = .training) :=
  ⟨0, 2, larderState.setChState 0 .training, by decide +kernel⟩

theorem test_meets_SdramChannels_5 : ∃ (c : Fin 12) (s : State), (s.chState c.val = .init) :=
  ⟨0, larderState.setChState 0 .init, by decide +kernel⟩

theorem test_meets_SdramChannels_6 : ∃ (ini : Ini) (c : Fin 12) (s : State), (s.bit R.SD_CFG_POP c.val = true) ∧ (s.chState c.val = .ready) ∧ (s.sweeping c.val = false) ∧ (s.turnedAway (R.SD_CH_CTL_CMD c.val).off = none) :=
  ⟨host, 0, sdState, by decide +kernel⟩

theorem test_meets_SdramChannels_7 : ∃ (ini : Ini) (c : Fin 12) (s : State), (s.bit R.SD_CFG_POP c.val = true) ∧ (s.chState c.val = .selfRefresh) ∧ (s.turnedAway (R.SD_CH_CTL_CMD c.val).off = none) :=
  ⟨host, 0, sdState.setChState 0 .selfRefresh, by decide +kernel⟩

theorem test_meets_SdramChannels_8 : ∃ (ini : Ini) (c : Fin 12) (s : State), (s.bit R.SD_CFG_POP c.val = true) ∧ (s.turnedAway (R.SD_CH_CTL_CMD c.val).off = none) :=
  ⟨host, 0, sdState, by decide +kernel⟩

theorem test_meets_SdramChannels_9 : ∃ (c : Fin 12) (s : State), (s.chState c.val = .ready) :=
  ⟨0, sdState, by decide +kernel⟩

theorem test_meets_SdramChannels_10 : ∃ (c : Fin 12) (doubled : Bool) (s : State), (s.chState c.val = .ready) :=
  ⟨0, true, sdState, by decide +kernel⟩

theorem test_meets_SdramLinesAndKeys_1 : ∃ (l : BitVec 35) (k key : Nat) (s : State), (s.sliceOf (l.toNat * 128) = some k) ∧ ((s.slice k).misses.any (fun m => m.line == l.toNat && m.ans.isNone) = true) ∧ (s.firstWb l.toNat = none) ∧ (s.chState (s.lineChannel l.toNat).1 = .ready) ∧ (s.chFrozen (s.lineChannel l.toNat).1 = false) ∧ (s.sdLine l.toNat = SdLine.void) ∧ (s.keyOf (l.toNat * 128) = some key) ∧ (s.kstate key = .xts ∨ s.kstate key = .plain) :=
  ⟨0, 0, 3, ((sdState.setKstate 3 .plain).setSlice 0 { misses := [⟨0, 0, [], none⟩] }), by decide +kernel⟩

theorem test_meets_SdramLinesAndKeys_2 : ∃ (l : BitVec 35) (k key : Nat) (x : SdLine) (s : State), (s.sliceOf (l.toNat * 128) = some k) ∧ ((s.slice k).misses.any (fun m => m.line == l.toNat && m.ans.isNone) = true) ∧ (s.firstWb l.toNat = none) ∧ (s.chState (s.lineChannel l.toNat).1 = .ready) ∧ (s.chFrozen (s.lineChannel l.toNat).1 = false) ∧ (x = s.sdLine l.toNat) ∧ (x.wrong = [] ∧ x.tag = keyTag key ∧ keyTag key ≠ voidTag) ∧ (s.keyOf (l.toNat * 128) = some key) ∧ (s.kstate key = .xts ∨ s.kstate key = .plain) :=
  ⟨0, 0, 3, _, { ((sdState.setKstate 3 .plain).setSlice 0 { misses := [⟨0, 0, [], none⟩] }) with sdram := { ((sdState.setKstate 3 .plain).setSlice 0 { misses := [⟨0, 0, [], none⟩] }).sdram with lines := [(0, ⟨77, none, keyTag 3, 0, []⟩)] } }, by decide +kernel, by decide +kernel, by decide +kernel, by decide +kernel, by decide +kernel, rfl, by decide +kernel⟩

theorem test_meets_SdramLinesAndKeys_3 : ∃ (l : BitVec 35) (w : Wb) (x : SdLine) (s : State), (s.firstWb l.toNat = some w) ∧ (w.stage = .sent) ∧ (s.chState (s.lineChannel l.toNat).1 = .ready) ∧ (s.chFrozen (s.lineChannel l.toNat).1 = false) ∧ (s.kstate w.key = .xts) ∧ (x = ⟨w.data, storeGet none w.key s.sdram.keys, keyTag w.key, w.poison, []⟩) :=
  ⟨0, ⟨0, 0, 3, 5, 0, false, false, 0, .sent⟩, _, { sdState.setKstate 3 .xts with larder := { wbs := [⟨0, 0, 3, 5, 0, false, false, 0, .sent⟩] } }, by decide +kernel, by decide +kernel, by decide +kernel, by decide +kernel, by decide +kernel, rfl⟩

theorem test_meets_SdramLinesAndKeys_4 : ∃ (l : BitVec 35) (w : Wb) (s : State), (s.firstWb l.toNat = some w) ∧ (w.stage = .sent) ∧ (s.chState (s.lineChannel l.toNat).1 = .ready) ∧ (s.chFrozen (s.lineChannel l.toNat).1 = false) ∧ (s.kstate w.key = .plain) :=
  ⟨0, ⟨0, 0, 3, 5, 0, false, false, 0, .sent⟩, { sdState.setKstate 3 .plain with larder := { wbs := [⟨0, 0, 3, 5, 0, false, false, 0, .sent⟩] } }, by decide +kernel⟩

theorem test_meets_SdramLinesAndKeys_5 : ∃ (ini : Ini) (k : Fin 64) (s u : State), (s.mkeyBarred 1 = false) ∧ (u = s.quiet.storeReg .MKEY_CMD (mkeyValue k.val 1)) ∧ (R.MKEY_CMD_CMD.of (mkeyValue k.val 1) = 1 ∧ R.MKEY_CMD_KEY_ID.of (mkeyValue k.val 1) = k.val) ∧ (u.is1 R.MKEY_CMD_BUSY = false) ∧ (u.kstate k.val = .empty) ∧ (u.is1 R.RNG_STAT_HEALTHY = true) ∧ (s.turnedAway R.MKEY_CMD_CMD.off = none) :=
  ⟨host, 3, { runState with lcFuses := { runState.lcFuses with lcRows := (7, 7, 7) } }.wr R.RNG_STAT_HEALTHY 1, _, by decide +kernel, rfl, by decide +kernel⟩

theorem test_meets_SdramLinesAndKeys_6 : ∃ (k : Nat) (s : State), (s.sdram.cmd = some (k, 1)) :=
  ⟨3, { runState with sdram := { cmd := some (3, 1) } }, by decide +kernel⟩

theorem test_meets_SdramLinesAndKeys_7 : ∃ (ini : Ini) (k : Fin 64) (s u : State), (s.mkeyBarred 2 = false) ∧ (u = s.quiet.storeReg .MKEY_CMD (mkeyValue k.val 2)) ∧ (R.MKEY_CMD_CMD.of (mkeyValue k.val 2) = 2 ∧ R.MKEY_CMD_KEY_ID.of (mkeyValue k.val 2) = k.val) ∧ (u.is1 R.MKEY_CMD_BUSY = false) ∧ (u.kstate k.val = .empty) ∧ (s.turnedAway R.MKEY_CMD_CMD.off = none) :=
  ⟨host, 3, { runState with lcFuses := { runState.lcFuses with lcRows := (7, 7, 7) } }, _, by decide +kernel, rfl, by decide +kernel⟩

theorem test_meets_SdramLinesAndKeys_8 : ∃ (ini : Ini) (k : Fin 64) (s u : State), (u = s.quiet.storeReg .MKEY_CMD (mkeyValue k.val 3)) ∧ (R.MKEY_CMD_CMD.of (mkeyValue k.val 3) = 3 ∧ R.MKEY_CMD_KEY_ID.of (mkeyValue k.val 3) = k.val) ∧ (u.is1 R.MKEY_CMD_BUSY = false) ∧ (u.kstate k.val = .plain) ∧ (u.keyNamed k.val = false) ∧ (u.is1 R.LARDER_CTL_BUSY = false) ∧ (s.turnedAway R.MKEY_CMD_CMD.off = none) :=
  ⟨host, 5, runState.setKstate 5 .plain, _, rfl, by decide +kernel⟩

theorem test_meets_SdramLinesAndKeys_9 : ∃ (k : Nat) (s : State), (s.sdram.cmd = some (k, 3)) ∧ (s.larder.op ≠ some (.flush (some k))) :=
  ⟨3, { runState with sdram := { cmd := some (3, 3) } }, by decide +kernel⟩

theorem test_meets_SdramLinesAndKeys_10 : ∃ (ini : Ini) (k : Fin 64) (s u : State), (u = s.quiet.storeReg .MKEY_CMD (mkeyValue k.val 4)) ∧ (R.MKEY_CMD_CMD.of (mkeyValue k.val 4) = 4 ∧ R.MKEY_CMD_KEY_ID.of (mkeyValue k.val 4) = k.val) ∧ (u.is1 R.MKEY_CMD_BUSY = false) ∧ (u.kstate k.val = .retired) ∧ (s.turnedAway R.MKEY_CMD_CMD.off = none) :=
  ⟨host, 3, sdState.setKstate 3 .retired, _, rfl, by decide +kernel⟩

theorem test_meets_SdramLinesAndKeys_11 : ∃ (c : Fin 12) (k : Nat) (s : State), (s.sdram.cmd = some (k, 4)) ∧ (s.sdram.sweep.find? (fun e => e.1 == c.val) = some (c.val, false)) ∧ (s.sdram.srWait.contains c.val = false) :=
  ⟨0, 3, { sdState with sdram := { cmd := some (3, 4), sweep := [(0, false)] } }, by decide +kernel⟩

theorem test_meets_SdramLinesAndKeys_12 : ∃ (k : Nat) (s : State), (s.sdram.cmd = some (k, 4)) ∧ (s.sdram.sweep.isEmpty = true) :=
  ⟨3, { sdState with sdram := { cmd := some (3, 4) } }, by decide +kernel⟩

theorem test_meets_SdramLinesAndKeys_13 : ∃ (ini : Ini) (w : Fin 64) (v : BitVec 32) (s : State), (s.is1 (R.MKEY_WIN_BASE_EN w.val) = false) ∧ (s.turnedAway (R.MKEY_WIN_BASE_EN w.val).off = none) :=
  ⟨host, 5, 7, runState, by decide +kernel⟩

theorem test_meets_SdramLinesAndKeys_14 : ∃ (c : Fin 12) (s : State), s.is1 R.SD_SCRUB_EN = true ∧ s.bit R.SD_CFG_POP c.val = true ∧ s.chState c.val = .ready ∧
    s.chFrozen c.val = false ∧ s.scrubPos c.val < s.channelLines :=
  ⟨0, sdState.wr R.SD_SCRUB_EN 1, by decide⟩

theorem test_meets_SdramLinesAndKeys_15 : ∃ (l : Nat) (s u : State), ((s.sdLine l).wrong = []) ∧ (u = s.emit (.sdRead (s.sdPlace l))) :=
  ⟨0, sdState, _, by decide +kernel, rfl⟩

theorem test_meets_SdramLinesAndKeys_16 : ∃ (l : Nat) (x : SdLine) (s : State), x = s.sdLine l ∧ x.wrong ≠ [] ∧ x.bad = false ∧ s.seenLine l x = (x, s) :=
  ⟨0, _, { sdState with sdram := { lines := [(0, ⟨5, none, 3, 0, [(0, 1, 7)]⟩)] } }, rfl, by decide +kernel⟩

theorem test_meets_SdramLinesAndKeys_17 : ∃ (s : State), (s.is1 R.SD_SCRUB_EN = true) ∧ (s.scrubComplete = true) :=
  ⟨(larderState.wr R.SD_SCRUB_EN 1).wr (R.SD_CH_CTL_STATE 0) 0, by decide +kernel⟩

theorem test_meets_SdramLinesAndKeys_18 : ∃ (s : State), (s.is1 R.SD_SCRUB_EN = true) ∧ (s.scrubComplete = false) :=
  ⟨sdState.wr R.SD_SCRUB_EN 1, by decide +kernel⟩

theorem test_meets_LinksTrainAndFail_1 : ∃ (ini : Ini) (g : Fin 24) (v : BitVec 32) (s u : State), (u = s.quiet.w1cOnly (.LINK_CTL g.val) v) ∧ ((R.LINK_CTL_MODE g.val).of v = 0) ∧ (s.turnedAway (R.LINK_CTL_MODE g.val).off = none) :=
  ⟨host, 0, 0, linkState .active, _, rfl, by decide +kernel⟩

theorem test_meets_LinksTrainAndFail_2 : ∃ (ini : Ini) (g : Fin 24) (v : BitVec 32) (s u : State), (u = s.quiet.w1cOnly (.LINK_CTL g.val) v) ∧ ((R.LINK_CTL_MODE g.val).of v ≠ 0) ∧ (u.linkRefuses g.val v = true) ∧ (s.turnedAway (R.LINK_CTL_MODE g.val).off = none) :=
  ⟨host, 0, BitVec.ofNat 32 (3 * 2 ^ (R.LINK_CTL_MODE 0).lo), linkState .active, _, rfl, by decide +kernel⟩

theorem test_meets_LinksTrainAndFail_3 : ∃ (ini : Ini) (g : Fin 24) (s : State), (s.lstate g.val = .failed ∨ s.lstate g.val = .down) ∧ (s.turnedAway (R.LINK_CTL_MODE g.val).off = none) :=
  ⟨host, 0, linkState .failed, by decide +kernel⟩

theorem test_meets_LinksTrainAndFail_4 : ∃ (sets : List RxSet) (ts : List TSet) (s v u : State), s.lstate 0 = .detect ∧ v = (s.quiet.wrLanes 0 R.LINK_STAT_LOCKED 1).wrLanes 0 R.LINK_STAT_POL_INV 0 ∧
    v.readSets 0 1 (0 : BitVec 16).getLsbD sets = (some ts, u) ∧ ts.length = s.lanes 0 ∧ ts = [⟨0, 0, 0, false, 4, 8, 8, 0⟩] :=
  ⟨[rxSet 1 [0, 0, 0, 4, 8, 8, 0, 0, 0, 0]], [⟨0, 0, 0, false, 4, 8, 8, 0⟩], linkState .detect, _, _, by decide, rfl, pairOf (by decide +kernel), by decide, rfl⟩

theorem test_meets_LinksTrainAndFail_5 : ∃ (sets : List RxSet) (t : TSet) (rest : List TSet) (s v u : State), s.lstate 0 = .train ∧ sets ≠ [] ∧ sets.length = s.lanes 0 ∧
    s.quiet.readSets 0 2 (s.quiet.laneInverted 0) sets = (some (t :: rest), v) ∧ u = (v.pinged 0 (t :: rest)).wr (R.LINK_STAT_PARTNER_DEV 0) t.dev.toNat ∧ u.trainFault 0 (t :: rest) = some 5 :=
  ⟨[rxSet 2 [0, 1, 0, 4, 8, 8, 0, 0, 0, 0]], ⟨0, 1, 0, false, 4, 8, 8, 0⟩, [], linkState .train, _, _, by decide, by decide, by decide, pairOf (by decide +kernel), rfl, by decide +kernel⟩

theorem test_meets_LinksTrainAndFail_6 : ∃ (sets : List RxSet) (t : TSet) (rest : List TSet) (s v u : State), s.lstate 0 = .train ∧ sets ≠ [] ∧ sets.length = s.lanes 0 ∧
    s.quiet.readSets 0 2 (s.quiet.laneInverted 0) sets = (some (t :: rest), v) ∧ u = (v.pinged 0 (t :: rest)).wr (R.LINK_STAT_PARTNER_DEV 0) t.dev.toNat ∧ u.trainFault 0 (t :: rest) = none ∧ 16 ≤ (u.link 0).setsSent :=
  ⟨[rxSet 2 [0, 0, 0, 4, 8, 8, 0, 0, 0, 0]], ⟨0, 0, 0, false, 4, 8, 8, 0⟩, [], (linkState .train).setLink 0 { sets := 16 }, _, _, by decide, by decide, by decide, pairOf (by decide +kernel), rfl, by decide +kernel⟩

theorem test_meets_LinksTrainAndFail_7 : ∃ (sets : List RxSet) (t : TSet) (rest : List TSet) (s v u : State), s.lstate 0 = .train ∧ sets ≠ [] ∧ sets.length = s.lanes 0 ∧
    s.quiet.readSets 0 2 (s.quiet.laneInverted 0) sets = (some (t :: rest), v) ∧ u = (v.pinged 0 (t :: rest)).wr (R.LINK_STAT_PARTNER_DEV 0) t.dev.toNat ∧ u.trainFault 0 (t :: rest) = none ∧ (u.link 0).setsSent < 16 :=
  ⟨[rxSet 2 [0, 0, 0, 4, 8, 8, 0, 0, 0, 0]], ⟨0, 0, 0, false, 4, 8, 8, 0⟩, [], linkState .train, _, _, by decide, by decide, by decide, pairOf (by decide +kernel), rfl, by decide +kernel⟩

theorem test_meets_LinksTrainAndFail_8 : ∃ (g : Fin 24) (s : State), (s.lstate g.val = .train) ∧ ((s.link g.val).trainAt + 156250 ≤ s.now) :=
  ⟨0, { linkState .train with now := 200000 }, by decide +kernel⟩

theorem test_meets_LinksTrainAndFail_9 : ∃ (g : Fin 24) (s : State), (s.now < (s.link g.val).trainAt + 156250) :=
  ⟨0, linkState .train, by decide +kernel⟩

theorem test_meets_LinksTrainAndFail_10 : ∃ (g : Fin 24) (lane : Fin 16) (lock : Bool) (s : State), (s.lstate g.val = .active) ∧ (lane.val < s.lanes g.val) ∧ (lane.val < 8) :=
  ⟨0, 0, false, linkState .active, by decide +kernel⟩

theorem test_meets_LinksTrainAndFail_11 : ∃ (g : Fin 24) (lane : Fin 8) (s : State), (s.lstate g.val = .raw) ∧ (lane.val < s.lanes g.val) :=
  ⟨0, 0, linkState .raw, by decide +kernel⟩

theorem test_meets_LinksTrainAndFail_12 : ∃ (g : Fin 24) (lane : Fin 16) (lock : Bool) (s : State), (s.lstate g.val = .raw) ∧ (s.lanes g.val ≤ lane.val) :=
  ⟨0, 15, true, linkState .raw, by decide +kernel⟩

theorem test_meets_LinksTrainAndFail_13 : ∃ (g : Fin 24) (lane : Fin 16) (lock : Bool) (s : State), (s.lstate g.val = .raw) ∧ (lane.val < s.lanes g.val) :=
  ⟨0, 0, true, linkState .raw, by decide +kernel⟩

theorem test_meets_LinkFramesAndMarkers_1 : ∃ (f : RxFrame) (k : LinkFrame) (s : State), s.lstate 0 = .active ∧ f.cols.any (fun c => c.length != s.lanes 0) = false ∧ k = readFrame (s.lanes 0) f ∧
    k.aborted = false ∧ (k.errors ≠ 0 ∨ k.content.length < 4 ∨ Alg.crc32.of k.content ≠ k.crc.toNat) :=
  ⟨rxFrame [0, 0, 0, 0] 0, _, linkState .active, by decide, by decide, rfl, by decide +kernel⟩

theorem test_meets_LinkFramesAndMarkers_2 : ∃ (f : RxFrame) (k : LinkFrame) (s : State), s.lstate 0 = .active ∧ f.cols.any (fun c => c.length != s.lanes 0) = false ∧ k = readFrame (s.lanes 0) f ∧
    k.aborted = false ∧ (¬ (k.errors ≠ 0 ∨ k.content.length < 4 ∨ Alg.crc32.of k.content ≠ k.crc.toNat) ∧ (leNat (k.content.take 4)).testBit 21 = true) :=
  ⟨rxFrame [0, 0, 0x20, 0] (Alg.crc32.of [0, 0, 0x20, 0]), _, linkState .active, by decide, by decide, rfl, by decide +kernel⟩

theorem test_meets_LinkFramesAndMarkers_3 : ∃ (g : Fin 24) (f : RxFrame) (s : State), (s.lstate g.val = .active) ∧ (f.cols.any (fun c => c.length != s.lanes g.val) = false) ∧ ((readFrame (s.lanes g.val) f).aborted = true) :=
  ⟨0, ⟨0, [], 0, 0⟩, linkState .active, by decide +kernel⟩

theorem test_meets_LinkFramesAndMarkers_4 : ∃ (g : Fin 24) (s : State) (x : Link), (s.lstate g.val = .active) ∧ (x = s.link g.val) ∧ (x.sent ≠ []) ∧ (x.sent.all (fun f => f.replays < 15) = true) ∧ (625 ≤ 2 * (s.now - x.ackAt)) :=
  ⟨0, { (linkState .active).setLink 0 { sent := [⟨0, 0, 0, [readPacket 0], 0⟩] } with now := 400 }, _, by decide +kernel, rfl, by decide +kernel⟩

theorem test_meets_LinkFramesAndMarkers_5 : ∃ (g : Fin 24) (s : State), (s.lstate g.val = .active) ∧ ((s.link g.val).sent.any (fun f => 15 ≤ f.replays) = true) ∧ (625 ≤ 2 * (s.now - (s.link g.val).ackAt)) :=
  ⟨0, { (linkState .active).setLink 0 { sent := [⟨0, 0, 0, [readPacket 0], 15⟩] } with now := 400 }, by decide +kernel⟩

theorem test_meets_LinkFramesAndMarkers_6 : ∃ (g : Fin 24) (s : State), (2 * (s.now - (s.link g.val).ackAt) < 625) :=
  ⟨0, linkState .active, by decide +kernel⟩

theorem test_meets_LinkFramesAndMarkers_7 : ∃ (g : Fin 24) (frac : Fin 64) (s : State) (arr src place : Int), s.rd R.TICK_CTL_SRC = 2 ∧ s.rd R.TICK_ALIGN_CFG_GROUP = g.val ∧
    s.linkActive g.val = true ∧ s.is1 R.TICK_CTL_RUNNING = true ∧ arr = 64 * s.now + frac.val ∧ src = arr - (0 : BitVec 8).toNat - s.rd (R.LINK_DELAY_DELAY g.val) ∧
    place = nearestEdge (src + 64 * (s.rd R.TICK_LAYOUT_PERIOD + ofSigned 16 (s.rd R.TICK_ALIGN_CFG_ADJ))) ∧ 64 * place - arr < 1000 :=
  ⟨0, 0, (((linkState .active).wr R.TICK_CTL_SRC 2).wr R.TICK_ALIGN_CFG_GROUP 0).wr R.TICK_CTL_RUNNING 1 |>.wr R.TICK_LAYOUT_PERIOD 0, _, _, _, by decide, by decide, by decide, by decide, rfl, rfl, rfl, by decide⟩

theorem test_meets_LinkFramesAndMarkers_8 : ∃ (g : Fin 24) (frac : Fin 64) (s : State) (arr src place : Int), s.rd R.TICK_CTL_SRC = 2 ∧ s.rd R.TICK_ALIGN_CFG_GROUP = g.val ∧
    s.linkActive g.val = true ∧ s.is1 R.TICK_CTL_RUNNING = true ∧ arr = 64 * s.now + frac.val ∧ src = arr - (0 : BitVec 8).toNat - s.rd (R.LINK_DELAY_DELAY g.val) ∧
    place = nearestEdge (src + 64 * (s.rd R.TICK_LAYOUT_PERIOD + ofSigned 16 (s.rd R.TICK_ALIGN_CFG_ADJ))) ∧ 1000 ≤ 64 * place - arr ∧ signedBits 8 ((0 : BitVec 8).toNat - s.countNear src) = 0 :=
  ⟨0, 0, (((linkState .active).wr R.TICK_CTL_SRC 2).wr R.TICK_ALIGN_CFG_GROUP 0).wr R.TICK_CTL_RUNNING 1 |>.wr R.TICK_LAYOUT_PERIOD 100, _, _, _, by decide, by decide, by decide, by decide, rfl, rfl, rfl, by decide⟩

theorem test_meets_LinkFramesAndMarkers_9 : ∃ (codes : List (BitVec 10)) (s u : State) (r : List (Option Sym) × Nat), (codes ≠ [] ∧ codes.length ≤ 48) ∧ s.lstate 0 = .raw ∧ codes.length % s.lanes 0 = 0 ∧
    r = decodeCodes (s.lanes 0) (s.link 0).rxRd 0 codes ∧ r.1.all (·.isSome) = true ∧ u = (s.quiet.bumpN (R.RAW_STAT_ERR_SYM 0) 0).setLink 0 { s.link 0 with rxRd := r.2 } ∧ (u.link 0).rawIn.length < 4 ∧ r.1 = [some (dataSym 0xB5)] :=
  ⟨[0x155], linkState .raw, _, _, by decide, by decide, by decide, rfl, by decide, rfl, by decide +kernel⟩

theorem test_meets_LinkFramesAndMarkers_10 : ∃ (codes : List (BitVec 10)) (s u : State) (r : List (Option Sym) × Nat), (codes ≠ [] ∧ codes.length ≤ 48) ∧ s.lstate 0 = .raw ∧ codes.length % s.lanes 0 = 0 ∧
    r = decodeCodes (s.lanes 0) (s.link 0).rxRd 0 codes ∧ r.1.all (·.isSome) = true ∧ u = (s.quiet.bumpN (R.RAW_STAT_ERR_SYM 0) 0).setLink 0 { s.link 0 with rxRd := r.2 } ∧ 4 ≤ (u.link 0).rawIn.length ∧ r.1 = [some (dataSym 0xB5)] :=
  ⟨[0x155], (linkState .raw).setLink 0 { rawIn := [0, 0, 0, 0] }, _, _, by decide, by decide, by decide, rfl, by decide, rfl, by decide +kernel⟩

theorem test_meets_LinkFramesAndMarkers_11 : ∃ (g : Nat) (f : BitVec 512) (rest : List (BitVec 512)) (s : State), ((s.link g).rawIn = f :: rest) ∧ (s.takesFlits (s.rd (R.RAW_CFG_REGION g)) = true) :=
  ⟨0, 5, [], (linkState .raw).setLink 0 { rawIn := [5] }, by decide +kernel⟩

theorem test_meets_LinkFramesAndMarkers_12 : ∃ (g k : Nat) (s : State), (s.takesFlits (s.rd (R.RAW_CFG_REGION g)) = false) :=
  ⟨0, 1, State.reset, by decide +kernel⟩

theorem test_meets_LinkFramesAndMarkers_13 : ∃ (g : Fin 24) (s : State), (s.lstate g.val = .raw) ∧ (s.linesReset = false) :=
  ⟨0, linkState .raw, by decide +kernel⟩

theorem test_meets_LinkFramesAndMarkers_14 : ∃ (g : Fin 24) (f : BitVec 512) (cols : Nat) (s : State), (s.lstate g.val = .raw) ∧ (s.linesReset = false) ∧ (cols = rawCols f) ∧ (cols ≠ 0) ∧ (cols ≤ 48 / s.lanes g.val) ∧ (s.takesFlits (s.rd (R.RAW_CFG_REGION g.val)) = true) ∧ (s.is1 (R.RAW_CFG_FORM g.val) = true) :=
  ⟨0, BitVec.ofNat 512 (2 ^ 479 * 2), 1, (linkState .raw).wr (R.RAW_CFG_FORM 0) 1, by decide +kernel⟩

theorem test_meets_LinkFramesAndMarkers_15 : ∃ (g : Fin 24) (f : BitVec 512) (cols : Nat) (s : State), (s.lstate g.val = .raw) ∧ (s.linesReset = false) ∧ (cols = rawCols f) ∧ (cols ≠ 0) ∧ (cols ≤ 48 / s.lanes g.val) ∧ (s.takesFlits (s.rd (R.RAW_CFG_REGION g.val)) = true) ∧ (s.is1 (R.RAW_CFG_FORM g.val) = false) :=
  ⟨0, BitVec.ofNat 512 (2 ^ 479 * 2), 1, linkState .raw, by decide +kernel⟩

theorem test_meets_LinkFramesAndMarkers_16 : ∃ (rd : Bool) (y : Sym) (c : BitVec 10), (encodeSym rd y = some c) :=
  ⟨false, symComma, 0x17C, by decide +kernel⟩

theorem test_meets_TwinRecords_1 : ∃ (rq : Request) (s : State), (rq.acc.op = .nwr ∧ rq.acc.dstNode = twinNode) ∧ (8 < twinKind rq) :=
  ⟨twinRq 9, runState, by decide +kernel⟩

theorem test_meets_TwinRecords_2 : ∃ (rq : Request) (s : State), (rq.acc.op = .nwr ∧ rq.acc.dstNode = twinNode) ∧ (twinKind rq = 4) ∧ (16 ≤ rq.acc.data.length) ∧ (s.fromPeer rq = true) :=
  ⟨twinRq 4, twinState .joining, by decide +kernel⟩

theorem test_meets_TwinRecords_3 : ∃ (rq : Request) (s u v : State) (off : Nat), (rq.acc.op = .nwr ∧ rq.acc.dstNode = twinNode) ∧ (twinKind rq = 1) ∧ (1 ≤ rq.acc.data.length) ∧ (s.fromPeer rq = true) ∧ (s.twin.standby = true) ∧ (off = rq.acc.addr % 2 ^ 40) ∧ (u = cond (decide (off = 0)) (s.quiet.setTwin { s.twin with rx := [], rxLost := [] }) s.quiet) ∧ (v = u.setTwin { u.twin with rx := ((List.range rq.acc.data.length).zip rq.acc.data).foldl (fun m (e : Nat × Byte) => storeSet 0 (off + e.1) (1 + e.2.toNat + (cond (rq.acc.poison.testBit ((rq.acc.addr % 8 + e.1) / 8)) 256 0)) m) u.twin.rx }) :=
  ⟨twinRq 1, { twinState .standby with twin := { standby := true } }, _, _, 2 ^ 40 % 2 ^ 40, by decide +kernel, by decide +kernel, by decide +kernel, by decide +kernel, by decide +kernel, by decide +kernel, rfl, rfl⟩

theorem test_meets_TwinRecords_4 : ∃ (rq : Request) (s : State), (rq.acc.op = .nwr ∧ rq.acc.dstNode = twinNode) ∧ (twinKind rq = 2) ∧ (16 ≤ rq.acc.data.length) ∧ (s.fromPeer rq = true) ∧ (s.twin.standby = true) :=
  ⟨twinRq 2, { twinState .standby with twin := { standby := true } }, by decide +kernel⟩

theorem test_meets_TwinRecords_5 : ∃ (rq : Request) (s : State), (rq.acc.op = .nwr ∧ rq.acc.dstNode = twinNode) ∧ (twinKind rq = 3) ∧ (16 ≤ rq.acc.data.length) ∧ (s.fromPeer rq = true) ∧ (s.twin.paired.isNone = false) :=
  ⟨twinRq 3, { twinState .standby with twin := { paired := some 0 } }, by decide +kernel⟩

theorem test_meets_TwinRecords_6 : ∃ (rq : Request) (s : State), (rq.acc.op = .nwr ∧ rq.acc.dstNode = twinNode) ∧ (twinKind rq = 5) ∧ (8 ≤ rq.acc.data.length) ∧ (s.fromPeer rq = true) ∧ (s.twin.standby = true) ∧ (s.pstate = .standby ∨ s.pstate = .joining ∨ s.pstate = .taking) :=
  ⟨twinRq 5, { twinState .standby with twin := { standby := true } }, by decide +kernel⟩

theorem test_meets_TwinRecords_7 : ∃ (rq : Request) (s : State), (rq.acc.op = .nwr ∧ rq.acc.dstNode = twinNode) ∧ (twinKind rq = 4) ∧ (16 ≤ rq.acc.data.length) ∧ (s.fromPeer rq = false) :=
  ⟨twinRq 4, runState, by decide +kernel⟩

theorem test_meets_TwinRecords_8 : ∃ (rq : Request) (s : State), (rq.acc.op = .nwr ∧ rq.acc.dstNode = twinNode) ∧ (twinKind rq = 1) ∧ (1 ≤ rq.acc.data.length) ∧ (s.fromPeer rq = false) :=
  ⟨twinRq 1, runState, by decide +kernel⟩

theorem test_meets_TwinRecords_9 : ∃ (rq : Request) (s : State), (rq.acc.op = .nwr ∧ rq.acc.dstNode = twinNode) ∧ (twinKind rq = 2) ∧ (16 ≤ rq.acc.data.length) ∧ (s.fromPeer rq = false) :=
  ⟨twinRq 2, runState, by decide +kernel⟩

theorem test_meets_TwinRecords_10 : ∃ (rq : Request) (s : State), (rq.acc.op = .nwr ∧ rq.acc.dstNode = twinNode) ∧ (twinKind rq = 3) ∧ (16 ≤ rq.acc.data.length) ∧ (s.fromPeer rq = false) :=
  ⟨twinRq 3, runState, by decide +kernel⟩

theorem test_meets_TwinRecords_11 : ∃ (rq : Request) (s : State), (rq.acc.op = .nwr ∧ rq.acc.dstNode = twinNode) ∧ (twinKind rq = 5) ∧ (8 ≤ rq.acc.data.length) ∧ (s.fromPeer rq = false) :=
  ⟨twinRq 5, runState, by decide +kernel⟩

theorem test_meets_TwinRecords_12 : ∃ (rq : Request) (s : State) (b : Nat), (rq.acc.op = .nwr ∧ rq.acc.dstNode = twinNode) ∧ (twinKind rq = 6) ∧ (8 ≤ rq.acc.data.length) ∧ (b = recordNat rq 0 1) ∧ (s.globalBar b = true ∧ s.rd (R.GBAR_CFG_LEADER b) = s.rd R.NET_CFG_DEV_NUM) :=
  ⟨twinRq 6, (((runState.wr R.NET_CFG_DEV_NUM 3).wr (R.GBAR_CFG_LEADER 0) 3).wr (R.SEQ_BAR_CFG_REMOTE 0) 1).wr (R.GBAR_CFG_NDEV 0) 2, 0, by decide +kernel⟩

theorem test_meets_TwinRecords_13 : ∃ (rq : Request) (s : State) (b : Nat), (rq.acc.op = .nwr ∧ rq.acc.dstNode = twinNode) ∧ (twinKind rq = 7) ∧ (8 ≤ rq.acc.data.length) ∧ (b = recordNat rq 0 1) ∧ (s.globalBar b = true ∧ (s.gbar b).sent = true) :=
  ⟨twinRq 7, { (runState.wr (R.SEQ_BAR_CFG_REMOTE 0) 1).wr (R.GBAR_CFG_NDEV 0) 2 with gbars := [(0, { sent := true })] }, 0, by decide +kernel⟩

theorem test_meets_TwinRecords_14 : ∃ (rq : Request) (s : State) (b : Nat), (rq.acc.op = .nwr ∧ rq.acc.dstNode = twinNode) ∧ (twinKind rq = 6) ∧ (8 ≤ rq.acc.data.length) ∧ (b = recordNat rq 0 1) ∧ (s.globalBar b = false ∨ s.rd (R.GBAR_CFG_LEADER b) ≠ s.rd R.NET_CFG_DEV_NUM) :=
  ⟨twinRq 6, runState, 0, by decide +kernel⟩

theorem test_meets_TwinRecords_15 : ∃ (rq : Request) (s : State) (b : Nat), (rq.acc.op = .nwr ∧ rq.acc.dstNode = twinNode) ∧ (twinKind rq = 7) ∧ (8 ≤ rq.acc.data.length) ∧ (b = recordNat rq 0 1) ∧ (s.globalBar b = false ∨ (s.gbar b).sent = false) :=
  ⟨twinRq 7, runState, 0, by decide +kernel⟩

theorem test_meets_TwinRecords_16 : ∃ (rq : Request) (s : State), (rq.acc.op ≠ .nwr ∨ rq.acc.dstNode ≠ twinNode) :=
  ⟨twinRq 7 |> fun r => { r with acc := { r.acc with op := .rd } }, runState, by decide +kernel⟩

theorem test_meets_TwinRecords_17 : ∃ (rq : Request) (g : Fin 24) (s : State) (id : Nat) (u : State), (rq.acc.op = .nwr ∧ rq.acc.dstNode = twinNode) ∧ (twinKind rq = 8) ∧ (8 ≤ rq.acc.data.length) ∧ (id = recordNat rq 0 2) ∧ (s.is1 R.GRESET_CTL_ACCEPT = true) ∧ (s.twin.lastReset ≠ some id) ∧ (u = s.quiet.forwardReset id (some g.val)) :=
  ⟨twinRq 8, 0, runState.wr R.GRESET_CTL_ACCEPT 1, 0, _, by decide +kernel, by decide +kernel, by decide +kernel, by decide +kernel, by decide +kernel, by decide +kernel, rfl⟩

theorem test_meets_TwinRecords_18 : ∃ (rq : Request) (g : Fin 24) (s : State) (id : Nat), (rq.acc.op = .nwr ∧ rq.acc.dstNode = twinNode) ∧ (twinKind rq = 8) ∧ (8 ≤ rq.acc.data.length) ∧ (id = recordNat rq 0 2) ∧ (s.is1 R.GRESET_CTL_ACCEPT = false ∨ s.twin.lastReset = some id) :=
  ⟨twinRq 8, 0, runState, 0, by decide +kernel⟩

theorem test_meets_TwinCommands_1 : ∃ (ini : Ini) (v : BitVec 32) (s : State), (s.pstate = .off) ∧ (R.TWIN_CFG_EN.of v ≠ 0) ∧ (s.turnedAway (R.TWIN_CFG_EN).off = none) :=
  ⟨host, BitVec.ofNat 32 (2 ^ R.TWIN_CFG_EN.lo), runState, by decide +kernel⟩

theorem test_meets_TwinCommands_2 : ∃ (ini : Ini) (v : BitVec 32) (s : State), (s.pstate ≠ .off) ∧ (R.TWIN_CFG_EN.of v ≠ 0) ∧ (s.turnedAway (R.TWIN_CFG_EN).off = none) :=
  ⟨host, BitVec.ofNat 32 (2 ^ R.TWIN_CFG_EN.lo), twinState .solo, by decide +kernel⟩

theorem test_meets_TwinCommands_3 : ∃ (ini : Ini) (s : State), (s.pstate = .standby) ∧ (s.turnedAway R.TWIN_CTL_STATE.off = none) :=
  ⟨host, twinState .standby, by decide +kernel⟩

theorem test_meets_TwinCommands_4 : ∃ (ini : Ini) (s : State), (s.pstate = .orphan) ∧ (s.turnedAway R.TWIN_CTL_STATE.off = none) :=
  ⟨host, twinState .orphan, by decide +kernel⟩

theorem test_meets_TwinCommands_5 : ∃ (ini : Ini) (s : State), (s.pstate ≠ .standby) ∧ (s.pstate ≠ .orphan) ∧ (s.turnedAway R.TWIN_CTL_STATE.off = none) :=
  ⟨host, twinState .solo, by decide +kernel⟩

theorem test_meets_TwinCommands_6 : ∃ (ini : Ini) (s u : State), (s.pstate = .primary) ∧ (u = s.quiet.sendTwin s.peerDev 5 0 (leBytes 8 (s.pairTick + 1)) 0) ∧ (s.turnedAway R.TWIN_CTL_STATE.off = none) :=
  ⟨host, twinState .primary, _, by decide +kernel, rfl, by decide +kernel⟩

theorem test_meets_TwinCommands_7 : ∃ (ini : Ini) (s : State), (s.pstate ≠ .primary) ∧ (s.turnedAway R.TWIN_CTL_STATE.off = none) :=
  ⟨host, twinState .solo, by decide +kernel⟩

theorem test_meets_TwinCommands_8 : ∃ (ini : Ini) (s : State), (s.pstate = .fenced ∨ s.pstate = .orphan) ∧ (s.turnedAway R.TWIN_CTL_STATE.off = none) :=
  ⟨host, twinState .fenced, by decide +kernel⟩

theorem test_meets_TwinCommands_9 : ∃ (ini : Ini) (s : State), (s.pstate ≠ .fenced) ∧ (s.pstate ≠ .orphan) ∧ (s.turnedAway R.TWIN_CTL_STATE.off = none) :=
  ⟨host, twinState .solo, by decide +kernel⟩

theorem test_meets_TwinCommands_10 : ∃ (t : TwinTx) (s u : State), (s.twin.tx = some t) ∧ (t.tags = [] ∧ t.data.length ≤ t.sent) ∧ (u = (s.quiet.setTwin { s.twin with tx := none }).wr64 R.TWIN_MIRR_TICK_LO_TICK R.TWIN_MIRR_TICK_HI_TICK t.tick) :=
  ⟨⟨7, 0, [], [], 0, [], .ok⟩, { twinState .primary with twin := { tx := some ⟨7, 0, [], [], 0, [], .ok⟩ } }, _, by decide +kernel, by decide +kernel, rfl⟩

theorem test_meets_TwinCommands_11 : ∃ (k : Takeover) (s u : State), (s.twin.take = some k) ∧ (k.tick < s.pairTick) ∧ (k.diverge = false) ∧ (u = k.threads.foldl (fun (t : State) n => t.takeThread k.restore n) (k.banks.foldl (fun (t : State) b => t.giveBank b.1 b.2.1 b.2.2) s.quiet)) :=
  ⟨⟨0, false, false, [], [], []⟩, { twinState .taking with twin := { take := some ⟨0, false, false, [], [], []⟩, offset := 5 } }, _, by decide +kernel, by decide +kernel, by decide +kernel, rfl⟩

theorem test_meets_TwinCommands_12 : ∃ (k : Takeover) (s u : State), (s.twin.take = some k) ∧ (k.tick < s.pairTick) ∧ (k.diverge = true) ∧ (u = k.threads.foldl (fun (t : State) n => t.takeThread k.restore n) (k.banks.foldl (fun (t : State) b => t.giveBank b.1 b.2.1 b.2.2) s.quiet)) :=
  ⟨⟨0, false, true, [], [], []⟩, { twinState .taking with twin := { take := some ⟨0, false, true, [], [], []⟩, offset := 5 } }, _, by decide +kernel, by decide +kernel, by decide +kernel, rfl⟩

theorem test_meets_TwinCommands_13 : ∃ (v : BitVec 32) (s u : State) (dest : Nat), u = s.quiet.storeReg .SNAP_CTL v ∧ R.SNAP_CTL_REQ.of v ≠ 0 ∧
    dest = u.rd64 R.SNAP_DEST_LO_ADDR R.SNAP_DEST_HI_ADDR ∧ u.is1 R.SNAP_CTL_BUSY = false ∧ dest % 64 = 0 :=
  ⟨BitVec.ofNat 32 (2 ^ R.SNAP_CTL_REQ.lo), runState, _, _, rfl, by decide, rfl, by decide⟩

theorem test_meets_TwinCommands_14 : ∃ (ini : Ini) (v : BitVec 32) (s u : State), (u = s.quiet.storeReg .SNAP_CTL v) ∧ (R.SNAP_CTL_REQ.of v ≠ 0) ∧ (u.is1 R.SNAP_CTL_BUSY = true ∨ u.rd64 R.SNAP_DEST_LO_ADDR R.SNAP_DEST_HI_ADDR % 64 ≠ 0) ∧ (s.turnedAway (R.SNAP_CTL_BUSY).off = none) :=
  ⟨host, BitVec.ofNat 32 (2 ^ R.SNAP_CTL_REQ.lo), runState.wr R.SNAP_CTL_BUSY 1, _, rfl, by decide +kernel⟩

theorem test_meets_TwinCommands_15 : ∃ (t : TwinTx) (s : State), (s.twin.snap = some t) ∧ (t.tags = []) ∧ (t.data.length ≤ t.sent ∨ t.code ≠ .ok) :=
  ⟨⟨7, 0, [], [], 0, [], .ok⟩, { runState with twin := { snap := some ⟨7, 0, [], [], 0, [], .ok⟩ } }, by decide +kernel⟩

theorem test_meets_TwinCommands_16 : ∃ (s : State), (s.quiet.drawn.forwardReset (s.draw % 2 ^ 16) none).is1 R.GRESET_CTL_SELF = true := ⟨runState.wr R.GRESET_CTL_SELF 1, by rfl⟩

theorem test_meets_TwinCommands_17 : ∃ (ini : Ini) (b : Fin 16) (v : BitVec 32) (s u : State), (u = s.quiet.w1cOnly (.GBAR_CFG b.val) v) ∧ (u.is1 (R.SEQ_BAR_CFG_REMOTE b.val) = false) ∧ (s.turnedAway (R.GBAR_CFG_NDEV b.val).off = none) :=
  ⟨host, 0, 2, runState, _, rfl, by decide +kernel⟩

theorem test_meets_TwinCommands_18 : ∃ (node : BitVec 12) (tag : BitVec 8) (a : Answer) (s : State) (o : Outst), (s.outst.find? (fun o => o.node == node.toNat && o.tag == tag.toNat) = some o) ∧ (o.late = false) ∧ (o.ans = none) ∧ (node.toNat ≠ twinNode ∧ node.toNat ≠ snapNode ∧ node.toNat ≠ innkeeperNode) :=
  ⟨0x20, 3, ⟨.ok, [], 0⟩, { runState with outst := [⟨0x20, 3, 2, none, false, false⟩] }, ⟨0x20, 3, 2, none, false, false⟩, by decide +kernel⟩

theorem test_meets_TwinCommands_19 : ∃ (node : BitVec 12) (tag : BitVec 8) (a : Answer) (s : State), (s.outst.find? (fun o => o.node == node.toNat && o.tag == tag.toNat) = none) ∧ (node.toNat ≠ twinNode ∧ node.toNat ≠ snapNode ∧ node.toNat ≠ innkeeperNode) :=
  ⟨0x20, 3, ⟨.ok, [], 0⟩, runState, by decide +kernel⟩

theorem test_meets_TwinCommands_20 : ∃ (node : BitVec 12) (tag : BitVec 8) (s : State), (node.toNat ≠ twinNode ∧ node.toNat ≠ snapNode ∧ node.toNat ≠ innkeeperNode) :=
  ⟨0x20, 3, { runState with outst := [⟨0x20, 3, 2, none, false, false⟩] }, by decide +kernel⟩

theorem test_meets_TwinCommands_21 : ∃ (node : BitVec 12) (tag : BitVec 8) (s u : State), (node.toNat = twinNode ∨ node.toNat = snapNode) ∧ (u = { s.quiet with outst := s.outst.map (fun o => if (o.node == node.toNat && o.tag == tag.toNat && o.ans == none) = true then { o with late := true, space := 0, ans := some ⟨.timeout, [], 0⟩ } else o) }) :=
  ⟨0x14, 3, runState, _, by decide +kernel, rfl⟩

theorem test_meets_TwinCommands_22 : ∃ (node : BitVec 12) (tag : BitVec 8) (s u : State), (node.toNat = innkeeperNode) ∧ (u = { s.quiet with outst := s.outst.map (fun o => if (o.node == node.toNat && o.tag == tag.toNat && o.ans == none) = true then { o with late := true, space := 0, ans := some ⟨.timeout, [], 0⟩ } else o) }) :=
  ⟨4, 3, runState, _, by decide +kernel, rfl⟩

theorem test_meets_SnoopUnits_1 : ∃ (ini : Ini) (u : Fin 16) (k : Fin 4) (v : BitVec 32) (s : State), (k.val = 1) ∧ (s.is1 (R.SNOOP_CTL_EN u.val) = false) ∧ (s.turnedAway (R.SNOOP_CTL_EN u.val).off = none) :=
  ⟨host, 2, 1, 9, runState, by decide +kernel⟩

theorem test_meets_SnoopUnits_2 : ∃ (ini : Ini) (u : Fin 16) (k : Fin 4) (v : BitVec 32) (s : State), (k.val = 1 ∨ k.val = 2 ∨ k.val = 3) ∧ (s.is1 (R.SNOOP_CTL_EN u.val) = true) ∧ (s.turnedAway (R.SNOOP_CTL_EN u.val).off = none) :=
  ⟨host, 2, 1, 9, runState.wr (R.SNOOP_CTL_EN 2) 1, by decide +kernel⟩

theorem test_meets_SnoopUnits_3 : ∃ (ini : Ini) (u : Fin 16) (e : SnoopEntry) (rest : List SnoopEntry) (s : State), ((s.snoop u.val).fifo = e :: rest) ∧ (s.peeks ini = false) ∧ (s.turnedAway (R.SNOOP_FIFO_VAL_VALUE u.val).off = none) :=
  ⟨host, 2, ⟨7, false, 1⟩, [], { runState with snoops := [(2, { fifo := [⟨7, false, 1⟩] })] }, by decide +kernel⟩

theorem test_meets_SnoopUnits_4 : ∃ (ini : Ini) (u : Fin 16) (e : SnoopEntry) (rest : List SnoopEntry) (s : State), ((s.snoop u.val).fifo = e :: rest) ∧ (s.peeks ini = true) ∧ (s.turnedAway (R.SNOOP_FIFO_VAL_VALUE u.val).off = none) :=
  ⟨⟨0, 7⟩, 2, ⟨7, false, 1⟩, [], { runState with snoops := [(2, { fifo := [⟨7, false, 1⟩] })] }, by decide +kernel⟩

theorem test_meets_SnoopUnits_5 : ∃ (ini : Ini) (u : Fin 16) (s : State), ((s.snoop u.val).fifo = []) ∧ (s.peeks ini = true) ∧ (s.turnedAway (R.SNOOP_FIFO_VAL_VALUE u.val).off = none) :=
  ⟨⟨0, 7⟩, 2, runState, by decide +kernel⟩

theorem test_meets_SnoopUnits_6 : ∃ (ini : Ini) (u : Fin 16) (s : State), ((s.snoop u.val).fifo = []) ∧ (s.peeks ini = false) ∧ (s.turnedAway (R.SNOOP_FIFO_VAL_VALUE u.val).off = none) :=
  ⟨host, 2, runState, by decide +kernel⟩

theorem test_meets_SnoopUnits_7 : ∃ (node : BitVec 12) (dir : Bool) (p : Packet) (s : State), (s.snoopFrozen = false) ∧ (s.sightRuns (.port node dir p) = true) :=
  ⟨0x20, true, readPacket 0, runState.wr (R.PWR_DOM_CTL_STATE 90) 2, by decide +kernel⟩

theorem test_meets_SnoopUnits_8 : ∃ (x : SnoopSight) (s : State), (s.sightRuns x = false) :=
  ⟨.raw 0 true [], runState, by decide +kernel⟩

theorem test_meets_SnoopUnits_9 : ∃ (x : SnoopSight) (s : State), (s.snoopFrozen = true) :=
  ⟨.port 0x20 true (readPacket 0), (runState.wr R.DBG_FRZ_ASSERT 1).wr R.DBG_FRZ_SNOOP 1, by decide +kernel⟩

theorem test_meets_PowerDomains_1 : ∃ (d : Fin 112) (s : State), s.onRefusal d.val = none ∧ s.dstate d.val = .off := ⟨70, runState.wr (R.PWR_DOM_CTL_STATE 70) 0, by decide⟩

theorem test_meets_PowerDomains_2 : ∃ (d : Fin 112) (x : PwrRefuse) (s : State), s.onRefusal d.val = some x := ⟨70, .shutdown, runState.wr R.THERM_STAT_LEVEL 4, by decide⟩

theorem test_meets_PowerDomains_3 : ∃ (d : Fin 112) (s : State), s.dstate d.val = .on ∧ s.offRefusal d.val = none := ⟨88, runState.wr (R.PWR_DOM_CTL_STATE 88) 2, by decide⟩

theorem test_meets_PowerDomains_4 : ∃ (d : Fin 112) (s : State), s.dstate d.val = .off ∧ s.offRefusal d.val = none := ⟨90, runState.wr (R.PWR_DOM_CTL_STATE 90) 0, by decide⟩

theorem test_meets_PowerDomains_5 : ∃ (d : Fin 112) (x : PwrRefuse) (s : State), (s.dstate d.val = .on ∨ s.dstate d.val = .off) ∧ s.offRefusal d.val = some x :=
  ⟨0, .inUse, runState, by decide⟩

theorem test_meets_PowerDomains_6 : ∃ (d : Fin 112) (s : State), s.dstate d.val = .waking ∧ s.isShutdown = false := ⟨70, runState.wr (R.PWR_DOM_CTL_STATE 70) 1, by decide⟩

theorem test_meets_PowerDomains_7 : ∃ (d : Fin 112) (s : State), (s.dstate d.val = .waking) :=
  ⟨70, runState.wr (R.PWR_DOM_CTL_STATE 70) 1, by decide +kernel⟩

theorem test_meets_PowerDomains_8 : ∃ (s : State), s.dstate 70 = .closing ∧ (s.dom 70).pnr = true ∧ (s.dom 70).onWait = false :=
  ⟨(runState.wr (R.PWR_DOM_CTL_STATE 70) 3).setDom 70 { pnr := true }, by decide⟩

theorem test_meets_PowerDomains_9 : ∃ (d : Fin 112) (s u : State), s.dstate d.val = .closing ∧ (s.dom d.val).pnr = true ∧
    u = (if (s.quiet.domainOff d.val).park.any (fun e => e.dom == d.val) then (s.quiet.domainOff d.val).sendWake d.val else s.quiet.domainOff d.val) ∧
    (s.dom d.val).onWait = true ∧ u.is1 (R.PWR_DOM_CTL_REQ d.val) = true :=
  ⟨90, ((runState.wr (R.PWR_DOM_CTL_STATE 90) 3).wr (R.PWR_DOM_CTL_REQ 90) 1).setDom 90 { pnr := true, onWait := true }, _, by decide, by decide, rfl, by decide +kernel⟩

theorem test_meets_PowerDomains_10 : ∃ (d : Fin 112) (s u : State), s.dstate d.val = .closing ∧ (s.dom d.val).pnr = true ∧
    u = (if (s.quiet.domainOff d.val).park.any (fun e => e.dom == d.val) then (s.quiet.domainOff d.val).sendWake d.val else s.quiet.domainOff d.val) ∧
    (s.dom d.val).onWait = true ∧ u.is1 (R.PWR_DOM_CTL_REQ d.val) = false :=
  ⟨90, ((runState.wr (R.PWR_DOM_CTL_STATE 90) 3).wr (R.PWR_DOM_CTL_REQ 90) 0).setDom 90 { pnr := true, onWait := true }, _, by decide, by decide, rfl, by decide +kernel⟩

theorem test_meets_PowerDomains_11 : ∃ (d : Fin 112) (s : State), (s.dstate d.val ≠ .closing ∨ (s.dom d.val).pnr = false) :=
  ⟨70, runState.wr (R.PWR_DOM_CTL_STATE 70) 3, by decide +kernel⟩

theorem test_meets_PowerDomains_12 : ∃ (d : Fin 112) (s : State), (s.dstate d.val ≠ .waking) :=
  ⟨70, runState, by decide +kernel⟩

theorem test_meets_PowerDomains_13 : ∃ (s : State), (s.isShutdown = false) :=
  ⟨runState, by decide +kernel⟩

theorem test_meets_PowerDomains_17 : ∃ (s : State), (s.isShutdown = true) :=
  ⟨runState.wr R.THERM_STAT_LEVEL 4, by decide +kernel⟩

theorem test_meets_ThermalThrottle_1 : ∃ (a : Nat) (s : State), (s.rd R.THERM_STAT_LEVEL = 1) ∧ (s.thermal.graceAt = some a) ∧ (a + msCycles (s.rd R.THERM_CTL_GRACE_MS) ≤ s.now) ∧ (s.askReached = true) :=
  ⟨0, { (runState.wr R.THERM_STAT_LEVEL 1).wr R.THERM_STAT_T_GOV 900 with now := 200000000, thermal := { graceAt := some 0 } }, by decide +kernel⟩

theorem test_meets_ThermalThrottle_2 : ∃ (a : Nat) (s : State), (s.rd R.THERM_STAT_LEVEL = 1) ∧ (s.thermal.graceAt = some a) ∧ (a + msCycles (s.rd R.THERM_CTL_GRACE_MS) ≤ s.now) ∧ (s.askReached = false) :=
  ⟨0, { (runState.wr R.THERM_STAT_LEVEL 1).wr R.THERM_STAT_T_GOV 90 with now := 200000000, thermal := { graceAt := some 0 } }, by decide +kernel⟩

theorem test_meets_ThermalThrottle_3 : ∃ (s : State), (s.passed s.thermal.graceAt (msCycles (s.rd R.THERM_CTL_GRACE_MS)) = false) :=
  ⟨runState, by decide +kernel⟩

theorem test_meets_ThermalThrottle_4 : ∃ (a : Nat) (s : State), (s.rd R.THERM_STAT_LEVEL = 2) ∧ (s.askReached = true) ∧ (s.thermal.hotAt = some a) ∧ (a + msCycles 10 ≤ s.now) ∧ (s.rd R.THERM_STAT_STEP < 4) :=
  ⟨0, { ((runState.wr R.THERM_STAT_LEVEL 2).wr R.THERM_STAT_T_GOV 900).wr R.THERM_STAT_STEP 1 with now := 200000000, thermal := { hotAt := some 0 } }, by decide +kernel⟩

theorem test_meets_ThermalThrottle_5 : ∃ (s : State), (s.rd R.THERM_STAT_LEVEL = 2) ∧ (4 ≤ s.rd R.THERM_STAT_STEP) :=
  ⟨(runState.wr R.THERM_STAT_LEVEL 2).wr R.THERM_STAT_STEP 4, by decide +kernel⟩

theorem test_meets_ThermalThrottle_6 : ∃ (a : Nat) (s : State), (s.mayRelax = true) ∧ (s.thermal.coolAt = some a) ∧ (a + msCycles s.dwellMs ≤ s.now) ∧ (s.rd R.THERM_STAT_LEVEL = 3) :=
  ⟨0, { ((runState.wr R.THERM_STAT_LEVEL 3).wr R.THERM_STAT_T_GOV 800).wr R.PWR_LIMIT_LIMIT 9 with now := 200000000, thermal := { coolAt := some 0 } }, by decide +kernel⟩

theorem test_meets_ThermalThrottle_7 : ∃ (a : Nat) (s : State), (s.mayRelax = true) ∧ (s.thermal.coolAt = some a) ∧ (a + msCycles s.dwellMs ≤ s.now) ∧ (s.rd R.THERM_STAT_LEVEL = 2) :=
  ⟨0, { ((runState.wr R.THERM_STAT_LEVEL 2).wr R.THERM_STAT_T_GOV 500).wr R.PWR_LIMIT_LIMIT 9 with now := 200000000, thermal := { coolAt := some 0 } }, by decide +kernel⟩

theorem test_meets_ThermalThrottle_8 : ∃ (a : Nat) (s : State), (s.mayRelax = true) ∧ (s.thermal.coolAt = some a) ∧ (a + msCycles s.dwellMs ≤ s.now) ∧ (s.rd R.THERM_STAT_LEVEL = 1) :=
  ⟨0, { ((runState.wr R.THERM_STAT_LEVEL 1).wr R.THERM_STAT_T_GOV 500).wr R.PWR_LIMIT_LIMIT 9 with now := 200000000, thermal := { coolAt := some 0 } }, by decide +kernel⟩

theorem test_meets_ThermalThrottle_9 : ∃ (s : State), (s.mayRelax = false ∨ s.passed s.thermal.coolAt (msCycles s.dwellMs) = false) :=
  ⟨runState, by decide +kernel⟩

theorem test_meets_ThermalThrottle_10 : ∃ (ini : Ini) (s : State), (s.holdsFull ini = true) ∧ (s.turnedAway R.THERM_STAT_HOLD.off = none) :=
  ⟨⟨0, 7⟩, runState.wr R.NET_CFG_DEV_NUM 0, by decide +kernel⟩

theorem test_meets_ThermalThrottle_11 : ∃ (ini : Ini) (s : State), (s.holdsFull ini = false) :=
  ⟨host, runState, by decide +kernel⟩

theorem test_meets_ThermalThrottle_12 : ∃ (ini : Ini) (l : Fin 6) (v : BitVec 32) (s : State), (s.turnedAway (R.THERM_SENS_FAIL_FAILED l.val).off = none) :=
  ⟨host, 0, 0, State.reset, by decide +kernel⟩

theorem test_meets_ThermalThrottle_13 : ∃ (a : Answer) (s u : State), s.thermal.notices.contains 3 = true ∧ s.quiet.takeAnswer noticeNode 3 a = some u ∧ a.code ≠ .ok :=
  ⟨⟨.denied, [], 0⟩, { runState with thermal := { notices := [3] }, outst := [⟨noticeNode, 3, 1, some ⟨.denied, [], 0⟩, false, false⟩] }, _, by decide, rfl, by decide⟩

theorem test_meets_ThermalThrottle_14 : ∃ (currents others : List Nat) (s : State), (currents.length ≠ 112 ∨ others.length ≠ 7) :=
  ⟨[], [], runState, by decide +kernel⟩

theorem test_meets_ThermalThrottle_15 : ∃ (currents others powers : List Nat), (currents.length = 112 ∧ others.length = 7) ∧
    powers = ((List.range 119).zip (currents ++ others)).map (fun e => runState.quiet.domainPower e.1 e.2) ∧ ∀ z : State, ¬ 100 * z.rd R.PWR_LIMIT_LIMIT * ((powers.sum :: []).take 100).length < ((powers.sum :: []).take 100).sum :=
  ⟨List.replicate 112 0, List.replicate 7 0, List.replicate 119 0, by decide, by decide +kernel, fun z => by
    rw [show ((List.replicate 119 0).sum :: ([] : List Nat)).take 100 = [0] from by decide +kernel]; exact Nat.not_lt_zero _⟩

theorem test_meets_ThermalThrottle_16 : ∃ (currents others powers : List Nat), (currents.length = 112 ∧ others.length = 7) ∧
    powers = ((List.range 119).zip (currents ++ others)).map (fun e => (runState.quiet.wr (R.HK_CHAN_VALUE 192) 10000).domainPower e.1 e.2) ∧
    100 * 0 * ((powers.sum :: []).take 100).length < ((powers.sum :: []).take 100).sum :=
  ⟨5 :: List.replicate 111 0, List.replicate 7 0, 5 :: List.replicate 118 0, by decide +kernel⟩

theorem test_meets_ThermalThrottle_17 : ∃ (currents others powers : List Nat), (currents.length = 112 ∧ others.length = 7) ∧
    powers = ((List.range 119).zip (currents ++ others)).map (fun e => (runState.quiet.wr (R.HK_CHAN_VALUE 192) 10000).domainPower e.1 e.2) ∧
    100 * 0 * ((powers.sum :: []).take 100).length < ((powers.sum :: []).take 100).sum :=
  ⟨5 :: List.replicate 111 0, List.replicate 7 0, 5 :: List.replicate 118 0, by decide +kernel⟩

theorem test_meets_ThermalThrottle_18 : ∃ (values : List (BitVec 16)) (s : State), (values.length ≠ 256) :=
  ⟨[], runState, by decide +kernel⟩

theorem test_meets_ThermalThrottle_19 : ∃ (values : List (BitVec 16)), values.length = 256 := ⟨List.replicate 256 0, List.length_replicate⟩

theorem test_meets_ThermalThrottle_20 : ∃ (s u : State), u = (List.range 224).foldl (fun (t : State) i => t.wr (R.THERM_CELL_MODEL i) (signedBits 12 (s.quiet.cellNext i))) s.quiet := ⟨runState, _, rfl⟩

theorem test_meets_ResetsAndStart_5 : ∃ (cause : Nat) (s : State), (s.start.resetDue = some cause) ∧ (s.isShutdown = false ∨ cause = 2) ∧ (cause ≠ 3 ∨ s.deskCommitted = true) :=
  ⟨2, State.reset.setStart { resetDue := some 2 }, by decide +kernel⟩

theorem test_meets_ResetsAndStart_6 : ∃ (cause : Nat) (s : State), (s.start.resetDue = some cause) ∧ (s.isShutdown = true) ∧ (cause ≠ 2) ∧ (cause ≠ 3 ∨ s.deskCommitted = true) :=
  ⟨4, (State.reset.wr R.THERM_STAT_LEVEL 4).setStart { resetDue := some 4 }, by decide +kernel⟩

theorem test_meets_ResetsAndStart_7 : ∃ (s : State), (s.start.resetDue = some 3) ∧ (s.deskCommitted = false) :=
  ⟨State.reset.setStart { resetDue := some 3 }, by decide +kernel⟩

theorem test_meets_ResetsAndStart_8 : ∃ (v : BitVec 32), R.RST_DIE_L1.of v = 1 ∧ R.RST_DIE_L2.of v = 0 := ⟨BitVec.ofNat 32 (2 ^ R.RST_DIE_L1.lo), by decide⟩

theorem test_meets_ResetsAndStart_9 : ∃ (s u : State), (s.atStep 1 = true) ∧ (s.suppliesIn = true) ∧ ((s.start.cool && decide (760 ≤ s.tGov)) = false) ∧ (u = s.quiet.setStart { s.start with cool := false }) :=
  ⟨supplied (atStep 1), _, by decide +kernel, by decide +kernel, by decide +kernel, rfl⟩

theorem test_meets_ResetsAndStart_10 : ∃ (s : State), (s.atStep 1 = true) ∧ (s.suppliesIn = false ∨ s.start.cool = true ∧ 760 ≤ s.tGov) :=
  ⟨((atStep 1).wr R.THERM_STAT_T_GOV 800).setStart { cool := true }, by decide +kernel⟩

theorem test_meets_ResetsAndStart_11 : ∃ (s u : State), (s.atStep 2 = true) ∧ ((lcOf s.lcFuses.lcRows).isSome = true) ∧ (u = ((s.quiet.itin 2 0 0 0 0).reErase).showFuses) :=
  ⟨atStep 2, _, by decide +kernel, by decide +kernel, rfl⟩

theorem test_meets_ResetsAndStart_12 : ∃ (ok : Bool) (s u : State), (s.atStep 2 = true) ∧ (ok = false ∨ lcOf s.lcFuses.lcRows = none) ∧ (u = (s.quiet.itin 2 0 0 0 0).log .fuseFail []) :=
  ⟨true, { atStep 2 with lcFuses := { lcRows := (4, 4, 0) } }, _, by decide +kernel, by decide +kernel, rfl⟩

theorem test_meets_ResetsAndStart_13 : ∃ (s u : State), (s.atStep 3 = true) ∧ (u = ((((s.quiet.itin 3 0 0 0 0).readJournal.setStart { (s.quiet.itin 3 0 0 0 0).readJournal.start with roKept := false }).countStart).logLoss).scrubDark) :=
  ⟨atStep 3, _, by decide +kernel, rfl⟩

theorem test_meets_ResetsAndStart_14 : ∃ (s : State) (rs : List RepRec) (o : OutMap), s.atStep 4 = true ∧ rs = s.allMapouts ∧ o = outMap rs s.lcFuses.diesOut ∧ o.fatal = false :=
  ⟨atStep 4, _, _, by decide, rfl, rfl, by decide +kernel⟩

theorem test_meets_ResetsAndStart_15 : ∃ (tables : Bool) (s : State) (rs : List RepRec) (o : OutMap), s.atStep 4 = true ∧ rs = s.allMapouts ∧ o = outMap rs s.lcFuses.diesOut ∧ (o.fatal || !tables) = true :=
  ⟨false, atStep 4, _, _, by decide, rfl, rfl, by simp⟩

theorem test_meets_ResetsAndStart_16 : ∃ (s u : State), s.atStep 5 = true ∧ s.start.bistOn = true ∧ u = s.quiet.bistFeed ∧
    (u.start.bist.isEmpty && (List.range 5).all (fun e => !((u.engine e).start && (u.engine e).test.isSome)) && !u.mapoutsWait) = true :=
  ⟨(atStep 5).setStart { bistOn := true }, _, by decide, by decide, rfl, by decide⟩

theorem test_meets_ResetsAndStart_17 : ∃ (dir : BitVec 256) (s : State), s.atStep 6 = true ∧ s.is1 R.START_STAT_WAIT_HOST = false ∧ (s.desk.wait == some .image) = false ∧
    (s.imgBusy = false ∧ s.start.trying = none) ∧ ((s.setting 0).testBit 0 = false ∨ flashDirectory dir = none) := ⟨0, atStep 6, by decide, by decide, by decide, by decide, Or.inr (by decide +kernel)⟩

theorem test_meets_ResetsAndStart_18 : ∃ (dir : BitVec 256) (d : Nat × Option Nat) (s u : State), s.atStep 6 = true ∧ s.is1 R.START_STAT_WAIT_HOST = false ∧ (s.desk.wait == some .image) = false ∧
    (s.imgBusy = false ∧ s.start.trying = none) ∧ (s.setting 0).testBit 0 = true ∧ flashDirectory dir = some d ∧ (s.start.first = 0 ∧ s.start.tried = []) ∧
    u = s.quiet.setStart { s.start with tried := [0], trying := some 0, base := d.1 } :=
  ⟨bootDir, (leNat (((leBytes 32 bootDir.toNat).drop 8).take 8), none), bootState, _, by decide, by decide, by decide, by decide, by decide, by decide +kernel, by decide, rfl⟩

theorem test_meets_ResetsAndStart_19 : ∃ (dir : BitVec 256), leNat ((leBytes 32 dir.toNat).take 4) ≠ 0x52494458 := ⟨0, by decide +kernel⟩

theorem test_meets_JournalWrites_1 : ∃ (w : JWrite) (ws : List JWrite) (s : State), (4 ≤ s.rd R.START_STAT_STEP) ∧ (s.inReset = false) ∧ (s.jnlRO = false) ∧ (s.jnl.queue = w :: ws) ∧ (s.gbq = [] ∨ w.ahead = 0) :=
  ⟨⟨.counter 2 5, 0, .device⟩, [], { atStep 9 with jnl := { queue := [⟨.counter 2 5, 0, .device⟩] } }, by decide +kernel⟩

theorem test_meets_JournalWrites_2 : ∃ (e : GbEntry) (es : List GbEntry) (s : State), (4 ≤ s.rd R.START_STAT_STEP) ∧ (s.inReset = false) ∧ (s.jnlRO = false) ∧ (s.gbq = e :: es) ∧ (s.jnl.queue = []) :=
  ⟨⟨.fdReset, 1, [], 0, 0, 0⟩, [], { atStep 9 with gbq := [⟨.fdReset, 1, [], 0, 0, 0⟩] }, by decide +kernel⟩

theorem test_meets_JournalWrites_3 : ∃ (e : GbEntry) (es : List GbEntry) (w : JWrite) (ws : List JWrite) (s : State), (4 ≤ s.rd R.START_STAT_STEP) ∧ (s.inReset = false) ∧ (s.jnlRO = false) ∧ (s.gbq = e :: es) ∧ (s.jnl.queue = w :: ws) ∧ (w.ahead ≠ 0) :=
  ⟨⟨.fdReset, 1, [], 0, 0, 0⟩, [], ⟨.counter 2 5, 1, .device⟩, [], { atStep 9 with jnl := { queue := [⟨.counter 2 5, 1, .device⟩] }, gbq := [⟨.fdReset, 1, [], 0, 0, 0⟩] }, by decide +kernel⟩

theorem test_meets_JournalWrites_4 : ∃ (s : State), (s.rd R.START_STAT_STEP < 4 ∨ s.inReset = true ∨ s.jnlRO = true) :=
  ⟨atStep 2, by decide +kernel⟩

theorem test_meets_JournalWrites_5 : ∃ (ini : Ini) (s : State), (s.turnedAway R.GB_STAT_COUNT.off = none) :=
  ⟨host, State.reset, by decide +kernel⟩

theorem test_meets_DeskTransactions_2 : ∃ (rq : Request) (s : State), (rq.acc.op = .nrd ∧ rq.acc.dstNode = 6) ∧ (rq.acc.addr = 0 ∧ rq.acc.size = 8) :=
  ⟨⟨host, 0, ⟨.nrd, 0, 6, 0, 8, [], 0⟩⟩, runState, by decide +kernel⟩

theorem test_meets_DeskTransactions_3 : ∃ (rq : Request) (s : State), (¬ (rq.acc.op = .nrd ∧ rq.acc.dstNode = 6)) :=
  ⟨⟨host, 0, ⟨.rd, 0, 6, 0, 8, [], 0⟩⟩, runState, by decide +kernel⟩

theorem test_meets_DeskTransactions_4 : ∃ (block : List Byte) (s : State), (block.length = 16) ∧ (s.desk.ready = false) :=
  ⟨List.replicate 16 0, runState, by decide +kernel⟩

theorem test_meets_DeskTransactions_5 : ∃ (block : List Byte) (s : State), (block.length = 16) ∧ (s.desk.ready = true) ∧ (s.desk.status = 1) :=
  ⟨List.replicate 16 0, deskState 1 0 0, by decide +kernel⟩

theorem test_meets_DeskTransactions_6 : ∃ (block : List Byte) (s : State), (block.length = 16) ∧ (s.desk.ready = true) ∧ (s.desk.status ≠ 1) ∧ (codeListed (leNat (block.take 1)) = true) :=
  ⟨List.replicate 16 3, (deskState 1 0 0).setDesk { ready := true, status := 0 }, by decide +kernel⟩

theorem test_meets_DeskTransactions_7 : ∃ (off : Nat) (bytes : List Byte) (s : State), (off < 2 ^ 32 ∧ 1 ≤ bytes.length ∧ bytes.length ≤ 4096) ∧ (s.desk.ready = true) ∧ (s.desk.status = 1) :=
  ⟨0, [1, 2], deskState 1 0 0, by decide +kernel⟩

theorem test_meets_DeskTransactions_8 : ∃ (off : Nat) (bytes : List Byte) (s : State), (off < 2 ^ 32 ∧ 1 ≤ bytes.length ∧ bytes.length ≤ 4096) ∧ (s.desk.ready = true) ∧ (s.deskBusy = false) :=
  ⟨0, [1, 2], (deskState 1 0 0).setDesk { ready := true, status := 2 }, by decide +kernel⟩

theorem test_meets_DeskTransactions_9 : ∃ (offset count : Nat) (s : State), (1 ≤ count ∧ count ≤ 4096) ∧ (s.desk.ready = true) ∧ (s.deskBusy = false) :=
  ⟨0, 4, (deskState 1 0 0).setDesk { ready := true, status := 2 }, by decide +kernel⟩

theorem test_meets_DeskTransactions_10 : ∃ (offset count : Nat) (s : State), (1 ≤ count ∧ count ≤ 4096) ∧ (s.desk.ready = true) ∧ (s.deskBusy = true) :=
  ⟨0, 4, deskState 1 0 0, by decide +kernel⟩

theorem test_meets_DeskTransactions_11 : ∃ (point : DeskPoint) (s : State), (s.deskBusy = false) :=
  ⟨.before, runState, by decide +kernel⟩

theorem test_meets_DeskTransactions_12 : ∃ (point : DeskPoint) (s : State), (s.deskBusy = true) ∧ (s.desk.wait = none) ∧ (s.desk.code ≠ 0xB) :=
  ⟨.before, deskState 5 0 0, by decide +kernel⟩

theorem test_meets_DeskTransactions_13 : ∃ (point : DeskPoint) (s : State), (s.deskBusy = true) ∧ (s.desk.wait = none) ∧ (s.desk.code = 0xB) :=
  ⟨.before, deskState 0xB 0 0, by decide +kernel⟩

theorem test_meets_DeskTransactions_14 : ∃ (point : DeskPoint) (s : State), (s.deskBusy = true) ∧ (s.desk.wait = some .reset) ∧ (s.deskCommitted = true) :=
  ⟨.before, { (deskState 0xC 0 0).setDesk { ready := true, status := 1, code := 0xC, wait := some .reset } with now := 2000 }, by decide +kernel⟩

theorem test_meets_DeskTransactions_15 : ∃ (comp : BitVec 8) (off : Nat) (bytes : List Byte) (offset count : Nat) (point : DeskPoint) (s : State), (off < 2 ^ 32 ∧ 1 ≤ bytes.length ∧ bytes.length ≤ 4096) ∧ (1 ≤ count ∧ count ≤ 4096) :=
  ⟨0, 0, List.replicate 16 0, 0, 1, .before, runState, by decide +kernel⟩

theorem test_meets_DeskTransactions_16 : ∃ (s : State), s.deskBusy = true ∧ s.desk.wait = some .image ∧ (s.istate = .commit ∨ s.istate = .starting) :=
  ⟨((deskState 1 0 0).setDesk { ready := true, status := 1, code := 1, wait := some .image }).setIstate .commit, by decide⟩

theorem test_meets_DeskCommands_1 : ∃ (s t : State) (v : Nat), s.deskAt 2 = true ∧ s.quiet.busRead s.quiet.deskIni s.desk.arg0 4 = (t, .ok, v) :=
  ⟨deskState 2 0x400100 0, _, _, by decide, by rfl⟩

theorem test_meets_DeskCommands_2 : ∃ (s t : State), s.deskAt 3 = true ∧ s.quiet.busWrite s.quiet.deskIni s.desk.arg0 4 false (BitVec.ofNat 32 s.desk.arg1) = (t, .ok) :=
  ⟨deskState 3 0x7C01010 5, _, by decide, by rfl⟩

theorem test_meets_DeskCommands_3 : ∃ (s : State), (s.deskAt 1 = true) ∧ (s.loadsPermitted = true) ∧ (s.imgBusy = false ∧ s.start.trying = none) :=
  ⟨deskState 1 0 0, by decide +kernel⟩

theorem test_meets_DeskCommands_4 : ∃ (s : State), (s.deskAt 1 = true) ∧ (s.loadsPermitted = false) :=
  ⟨{ deskState 1 0 0 with lcFuses := { lcRows := (31, 31, 31) } }, by decide +kernel⟩

theorem test_meets_DeskCommands_5 : ∃ (s u : State), (s.deskAt 13 = true) ∧ (s.loadsPermitted = true) ∧ (s.imgBusy = false ∧ s.start.trying = none) ∧ (s.rd R.START_STAT_STOP_STEP = 0) ∧ (6 ≤ s.rd R.START_STAT_STEP) ∧ (s.is1 R.IMG_STATUS_STARTED = false) ∧ (u = ((s.quiet.setStart { s.start with tried := [] }).wr R.START_STAT_STEP 6).clr R.START_STAT_WAIT_HOST) :=
  ⟨deskState 13 0 0, _, by decide +kernel, by decide +kernel, by decide +kernel, by decide +kernel, by decide +kernel, by decide +kernel, rfl⟩

theorem test_meets_DeskCommands_6 : ∃ (s : State), (s.deskAt 13 = true) ∧ (s.rd R.START_STAT_STOP_STEP ≠ 0) :=
  ⟨(deskState 13 0 0).wr R.START_STAT_STOP_STEP 2, by decide +kernel⟩

theorem test_meets_DeskCommands_7 : ∃ (s : State) (l k : Nat) (r : JRec), s.deskAt 4 = true ∧ s.desk.userSlot = some (l, k) ∧
    (s.jnl.recs.find? fun r => match r.body with | .user a b _ => a == l && b == k | _ => false) = some r :=
  ⟨{ deskState 4 0x2001 0 with jnl := { recs := [⟨.user 32 1 7, 0, 0⟩] } }, 32, 1, ⟨.user 32 1 7, 0, 0⟩, by decide +kernel⟩

theorem test_meets_DeskCommands_8 : ∃ (s : State) (l k b : Nat), (s.deskAt 5 = true) ∧ (s.desk.userSlot = some (l, k)) ∧ (s.desk.bytesIn 48 = some b) ∧ (s.jnlShut = false) :=
  ⟨(deskState 5 0x2001 0).setDesk { ready := true, status := 1, code := 5, arg0 := 0x2001, input := (List.range 48).map fun i => (i, 1) }, 32, 1, 0, by decide +kernel⟩

theorem test_meets_DeskCommands_9 : ∃ (s : State), (s.deskAt 5 = true) ∧ (s.desk.userSlot = none) :=
  ⟨deskState 5 0 0, by decide +kernel⟩

theorem test_meets_DeskCommands_10 : ∃ (s : State), (s.deskAt 6 = true) ∧ (2 ≤ s.desk.arg0 ∧ s.desk.arg0 ≤ 15) ∧ (s.jnlShut = false) ∧ (s.rd (R.JNL_CNT_VALUE s.desk.arg0) ≠ 0xFFFFFFFF) :=
  ⟨deskState 6 3 0, by decide +kernel⟩

theorem test_meets_DeskCommands_11 : ∃ (s : State), (s.deskAt 6 = true) ∧ (s.desk.arg0 < 2 ∨ 15 < s.desk.arg0) :=
  ⟨deskState 6 1 0, by decide +kernel⟩

theorem test_meets_DeskCommands_12 : ∃ (s : State) (b : Nat), (s.deskAt 7 = true) ∧ (s.desk.bytesIn 48 = some b) ∧ (settingsOk b = true) ∧ (s.jnlShut = false) :=
  ⟨(deskState 7 0 0).setDesk { ready := true, status := 1, code := 7, input := (List.range 48).map fun i => (i, 1) }, 0, by decide +kernel⟩

theorem test_meets_DeskCommands_13 : ∃ (s : State) (r : RepRec), (s.deskAt 8 = true) ∧ (s.desk.arg0 ≠ 0xFFFFFFFF) ∧ (s.mapoutRecs[s.desk.arg0]? = some r) ∧ (s.jnlShut = false) :=
  ⟨{ deskState 8 0 0 with jnl := { recs := [⟨.mapout ⟨1, 2, 0, 0, 0⟩, 0, 0⟩] } }, ⟨1, 2, 0, 0, 0⟩, by decide +kernel⟩

theorem test_meets_DeskCommands_14 : ∃ (s : State), (s.deskAt 9 = true) ∧ (1 ≤ s.desk.arg1 ∧ s.desk.arg1 ≤ 64) :=
  ⟨deskState 9 0 4, by decide +kernel⟩

theorem test_meets_DeskCommands_15 : ∃ (s : State), (s.deskAt 10 = true) ∧ (s.jnlShut = false) :=
  ⟨deskState 10 0 0, by decide +kernel⟩

theorem test_meets_DeskCommands_16 : ∃ (s : State), (s.deskAt 10 = true) ∧ (s.jnlShut = true) :=
  ⟨(deskState 10 0 0).wr R.JNL_STAT_READ_ONLY 1, by decide +kernel⟩

theorem test_meets_DeskCommands_17 : ∃ (s : State), (s.deskAt 11 = true) :=
  ⟨deskState 11 0 0, by decide +kernel⟩

theorem test_meets_DeskCommands_18 : ∃ (s u : State), (s.deskAt 12 = true) ∧ (u = s.quiet.log .fdReset []) :=
  ⟨deskState 12 0 0, _, by decide +kernel, rfl⟩

theorem test_meets_DeskCommands_19 : ∃ (s : State), s.deskAt 14 = true ∧ s.desk.arg0 ≤ 1 := ⟨deskState 14 0 0, by decide⟩

theorem test_meets_LifeCycleAndKeys_1 : ∃ (ini : Ini) (v : BitVec 32) (s u : State), s.fromInside ini = false ∧ u = s.quiet.w1cOnly .LC_CTL v ∧ R.LC_CTL_CONFIRM.of v = 0x4C43 ∧
    (u.is1 R.LC_CTL_BUSY || u.imgBusy || u.is1 R.LC_STATE_LOCKED) = false ∧ u.advanceOk ini (R.LC_CTL_TARGET.of v) = true :=
  ⟨host, BitVec.ofNat 32 (0x4C43 * 2 ^ R.LC_CTL_CONFIRM.lo + 3 * 2 ^ R.LC_CTL_TARGET.lo), lcState 2, _, by decide, rfl, by decide +kernel⟩

theorem test_meets_LifeCycleAndKeys_2 : ∃ (ini : Ini) (v : BitVec 32) (s u : State), (s.fromInside ini = false) ∧ (u = s.quiet.w1cOnly .LC_CTL v) ∧ (R.LC_CTL_CONFIRM.of v = 0x4C43) ∧ (u.advanceOk ini (R.LC_CTL_TARGET.of v) = false) ∧ (s.turnedAway R.LC_CTL_TARGET.off = none) :=
  ⟨host, BitVec.ofNat 32 (0x4C43 * 2 ^ R.LC_CTL_CONFIRM.lo + 1 * 2 ^ R.LC_CTL_TARGET.lo), lcState 2, _, by decide +kernel, rfl, by decide +kernel⟩

theorem test_meets_LifeCycleAndKeys_3 : ∃ (ini : Ini) (v : BitVec 32) (s : State), (s.fromInside ini = true) :=
  ⟨⟨0, regionNode 0 0⟩, 0, runState, by decide +kernel⟩

theorem test_meets_LifeCycleAndKeys_4 : ∃ (target : Nat) (cap : Bool) (s u : State), (s.sec.advance = some (target, cap)) ∧ (u = ((s.quiet.advanced target cap).log .lcAdvanced []).clr R.LC_CTL_BUSY) :=
  ⟨3, false, { lcState 2 with sec := { advance := some (3, false) } }, _, by decide +kernel, rfl⟩

theorem test_meets_LifeCycleAndKeys_5 : ∃ (ini : Ini) (parent slot : Fin 8) (s u : State) (v : BitVec 32), (s.fromInside ini = false) ∧ (s.keyBarred 1 = false) ∧ (v = keyValue 1 parent.val slot.val) ∧ (R.KEY_CMD_CMD.of v = 1 ∧ R.KEY_CMD_SLOT.of v = slot.val ∧ R.KEY_CMD_PARENT.of v = parent.val) ∧ (u = s.quiet.storeReg .KEY_CMD v) ∧ ((u.is1 R.KEY_CMD_BUSY || u.is1 R.LC_STATE_LOCKED || u.is1 R.LC_STATE_SLOTS_BARRED || (u.jnlRO && true) || u.imgBusy) = false) ∧ (u.keyCondition 1 slot.val parent.val = true) ∧ (s.turnedAway R.KEY_CMD_CMD.off = none) :=
  ⟨host, 1, 0, (lcState 2).wr R.KEY_SLOT_STAT_SLOTS 0, _, _, by decide +kernel, by decide +kernel, rfl, by decide +kernel, rfl, by decide +kernel⟩

theorem test_meets_LifeCycleAndKeys_6 : ∃ (ini : Ini) (parent slot : Fin 8) (s u : State) (v : BitVec 32), (s.fromInside ini = false) ∧ (s.keyBarred 2 = false) ∧ (v = keyValue 2 parent.val slot.val) ∧ (R.KEY_CMD_CMD.of v = 2 ∧ R.KEY_CMD_SLOT.of v = slot.val ∧ R.KEY_CMD_PARENT.of v = parent.val) ∧ (u = s.quiet.storeReg .KEY_CMD v) ∧ ((u.is1 R.KEY_CMD_BUSY || u.is1 R.LC_STATE_LOCKED || u.is1 R.LC_STATE_SLOTS_BARRED || (u.jnlRO && true) || u.imgBusy) = false) ∧ (u.keyCondition 2 slot.val parent.val = true) ∧ (s.turnedAway R.KEY_CMD_CMD.off = none) :=
  ⟨host, 1, 0, (lcState 3).wr R.KEY_SLOT_STAT_SLOTS 4, _, _, by decide +kernel, by decide +kernel, rfl, by decide +kernel, rfl, by decide +kernel⟩

theorem test_meets_LifeCycleAndKeys_7 : ∃ (ini : Ini) (parent slot : Fin 8) (s u : State) (v : BitVec 32), (s.fromInside ini = false) ∧ (s.keyBarred 3 = false) ∧ (v = keyValue 3 parent.val slot.val) ∧ (R.KEY_CMD_CMD.of v = 3 ∧ R.KEY_CMD_SLOT.of v = slot.val ∧ R.KEY_CMD_PARENT.of v = parent.val) ∧ (u = s.quiet.storeReg .KEY_CMD v) ∧ ((u.is1 R.KEY_CMD_BUSY || u.is1 R.LC_STATE_LOCKED || u.is1 R.LC_STATE_SLOTS_BARRED || (u.jnlRO && true) || u.imgBusy) = false) ∧ (u.keyCondition 3 slot.val parent.val = true) ∧ (s.turnedAway R.KEY_CMD_CMD.off = none) :=
  ⟨host, 1, 0, (lcState 3).wr R.KEY_SLOT_STAT_SLOTS 1, _, _, by decide +kernel, by decide +kernel, rfl, by decide +kernel, rfl, by decide +kernel⟩

theorem test_meets_LifeCycleAndKeys_8 : ∃ (ini : Ini) (parent slot : Fin 8) (s u : State) (v : BitVec 32), (s.fromInside ini = false) ∧ (s.keyBarred 4 = false) ∧ (v = keyValue 4 parent.val slot.val) ∧ (R.KEY_CMD_CMD.of v = 4 ∧ R.KEY_CMD_SLOT.of v = slot.val ∧ R.KEY_CMD_PARENT.of v = parent.val) ∧ (u = s.quiet.storeReg .KEY_CMD v) ∧ ((u.is1 R.KEY_CMD_BUSY || u.is1 R.LC_STATE_LOCKED || u.is1 R.LC_STATE_SLOTS_BARRED || (u.jnlRO && false) || u.imgBusy) = false) ∧ (u.keyCondition 4 slot.val parent.val = true) ∧ (s.turnedAway R.KEY_CMD_CMD.off = none) :=
  ⟨host, 1, 0, (lcState 2).wr R.KEY_SLOT_STAT_SLOTS 0, _, _, by decide +kernel, by decide +kernel, rfl, by decide +kernel, rfl, by decide +kernel⟩

theorem test_meets_LifeCycleAndKeys_9 : ∃ (ini : Ini) (parent slot : Fin 8) (s : State), (s.fromInside ini = false) ∧ (s.keyBarred (R.KEY_CMD_CMD.of (keyValue 1 parent.val slot.val)) = true) :=
  ⟨host, 0, 1, lcState 3, by decide +kernel⟩

theorem test_meets_LifeCycleAndKeys_10 : ∃ (slot parent key : Nat) (s u : State), (s.sec.keyCmd = some (1, slot, parent, key)) ∧ (u = ((s.quiet.setSec { s.sec with keyCmd := none }).clr R.KEY_CMD_BUSY).set1 R.KEY_CMD_DONE) :=
  ⟨1, 0, 7, { lcState 2 with sec := { keyCmd := some (1, 1, 0, 7) } }, _, by decide +kernel, rfl⟩

theorem test_meets_LifeCycleAndKeys_11 : ∃ (slot parent key : Nat) (s u : State), (s.sec.keyCmd = some (2, slot, parent, key)) ∧ (u = ((s.quiet.setSec { s.sec with keyCmd := none }).clr R.KEY_CMD_BUSY).set1 R.KEY_CMD_DONE) :=
  ⟨1, 0, 7, { lcState 2 with sec := { keyCmd := some (2, 1, 0, 7) } }, _, by decide +kernel, rfl⟩

theorem test_meets_LifeCycleAndKeys_12 : ∃ (slot parent key : Nat) (s u : State), (s.sec.keyCmd = some (3, slot, parent, key)) ∧ (u = ((s.quiet.setSec { s.sec with keyCmd := none }).clr R.KEY_CMD_BUSY).set1 R.KEY_CMD_DONE) :=
  ⟨1, 0, 7, { lcState 2 with sec := { keyCmd := some (3, 1, 0, 7) } }, _, by decide +kernel, rfl⟩

theorem test_meets_LifeCycleAndKeys_13 : ∃ (slot parent key : Nat) (s u : State), (s.sec.keyCmd = some (4, slot, parent, key)) ∧ (u = ((s.quiet.setSec { s.sec with keyCmd := none }).clr R.KEY_CMD_BUSY).set1 R.KEY_CMD_DONE) :=
  ⟨1, 0, 7, { lcState 2 with sec := { keyCmd := some (4, 1, 0, 7) } }, _, by decide +kernel, rfl⟩

theorem test_meets_LifeCycleAndKeys_14 : ∃ (ini : Ini) (a : Fin 7) (v : BitVec 32) (s u : State), (s.fromInside ini = false) ∧ (u = s.quiet.w1cOnly (.ALARM_CFG a.val) v) ∧ (u.rd (R.ALARM_CFG_RESP a.val) < (R.ALARM_CFG_RESP a.val).of v) ∧ ((R.ALARM_CFG_RESP a.val).of v ≤ 4) ∧ (respMinimum a.val ≤ (R.ALARM_CFG_RESP a.val).of v) ∧ (u.isHost ini = true) ∧ (s.turnedAway (R.ALARM_CFG_RESP a.val).off = none) :=
  ⟨host, 3, BitVec.ofNat 32 (4 * 2 ^ (R.ALARM_CFG_RESP 3).lo), runState, _, by decide +kernel, rfl, by decide +kernel⟩

theorem test_meets_LifeCycleAndKeys_15 : ∃ (ini : Ini) (a : Fin 7) (v : BitVec 32) (s u : State), (s.fromInside ini = false) ∧ (u = s.quiet.w1cOnly (.ALARM_CFG a.val) v) ∧ ((R.ALARM_CFG_RESP a.val).of v < u.rd (R.ALARM_CFG_RESP a.val)) ∧ ((R.ALARM_CFG_RESP a.val).of v ≤ 4) ∧ (u.holdsFull ini = false) ∧ (s.turnedAway (R.ALARM_CFG_RESP a.val).off = none) :=
  ⟨host, 3, 0, runState.wr (R.ALARM_CFG_RESP 3) 2, _, by decide +kernel, rfl, by decide +kernel⟩

theorem test_meets_LifeCycleAndKeys_16 : ∃ (ini : Ini) (a : Fin 7) (v : BitVec 32) (s u : State), (s.fromInside ini = false) ∧ (u = s.quiet.w1cOnly (.ALARM_CFG a.val) v) ∧ ((R.ALARM_CFG_RESP a.val).of v ≠ u.rd (R.ALARM_CFG_RESP a.val)) ∧ ((R.ALARM_CFG_RESP a.val).of v ≤ 4) ∧ (u.holdsFull ini = true) ∧ (s.turnedAway (R.ALARM_CFG_RESP a.val).off = none) :=
  ⟨⟨0, 7⟩, 3, 0, runState.wr (R.ALARM_CFG_RESP 3) 2, _, by decide +kernel, rfl, by decide +kernel⟩

theorem test_meets_RandomSource_1 : ∃ (s : State), (2 ≤ s.sec.goodWins) :=
  ⟨{ runState with sec := { goodWins := 2 } }, by decide +kernel⟩

theorem test_meets_RandomSource_2 : ∃ (s u : State), (s.sec.badWins = 2) ∧ (u = (s.quiet.setSec { s.sec with badWins := 3, goodWins := 0 }).bump R.RNG_STAT_FAILS) :=
  ⟨{ runState with sec := { badWins := 2 } }, _, by decide +kernel, rfl⟩

theorem test_meets_RandomSource_3 : ∃ (s : State), (s.sec.badWins ≠ 2) :=
  ⟨runState, by decide +kernel⟩

theorem test_meets_RandomSource_4 : ∃ (s : State), (s.is1 R.RNG_STAT_HEALTHY = true) :=
  ⟨runState.wr R.RNG_STAT_HEALTHY 1, by decide +kernel⟩

theorem test_meets_RandomSource_5 : ∃ (ini : Ini) (s : State), (s.is1 R.RNG_STAT_HEALTHY = true) ∧ (s.peeks ini = false) ∧ (s.turnedAway R.RNG_OUT_VALUE.off = none) :=
  ⟨host, runState.wr R.RNG_STAT_HEALTHY 1, by decide +kernel⟩

theorem test_meets_RandomSource_6 : ∃ (ini : Ini) (s : State), (s.is1 R.RNG_STAT_HEALTHY = true) ∧ (s.peeks ini = true) ∧ (s.turnedAway R.RNG_OUT_VALUE.off = none) :=
  ⟨⟨0, 7⟩, runState.wr R.RNG_STAT_HEALTHY 1, by decide +kernel⟩

theorem test_meets_RandomSource_7 : ∃ (ini : Ini) (code : Resp) (s : State), (s.turnedAway R.RNG_OUT_VALUE.off = some code) ∧ (s.is1 R.RNG_STAT_HEALTHY = false) :=
  ⟨host, .denied, { (runState.wr R.RNG_STAT_HEALTHY 0) with selfTest := { undef := true } }, by decide +kernel⟩

theorem test_meets_RandomSource_8 : ∃ (ini : Ini) (s : State), (s.is1 R.RNG_STAT_HEALTHY = false) ∧ (s.turnedAway R.RNG_OUT_VALUE.off = none) :=
  ⟨host, runState.wr R.RNG_STAT_HEALTHY 0, by decide +kernel⟩

theorem test_meets_SelfTest_1 : ∃ (e : Fin 5) (v : BitVec 32) (kind unit : Nat) (s u : State), s.testBarred e.val v = false ∧ u = s.quiet.storeReg (.TEST_CMD e.val) v ∧
    (R.TEST_CMD_ABORT e.val).of v = 0 ∧ (kind = (R.TEST_CMD_KIND e.val).of v ∧ unit = (R.TEST_CMD_UNIT e.val).of v) ∧ (1 ≤ kind ∧ kind ≤ 4) ∧
    ((u.engine e.val).test.isNone && engineTests e.val kind unit && u.testPermitted kind && u.handedOver kind unit) = true :=
  ⟨1, BitVec.ofNat 32 (2 * 2 ^ (R.TEST_CMD_KIND 1).lo + 5 * 2 ^ (R.TEST_CMD_UNIT 1).lo), 2, 5, lcState 1, _, by decide, rfl, by decide +kernel⟩

theorem test_meets_SelfTest_2 : ∃ (e : Fin 5) (v : BitVec 32) (kind unit : Nat) (s u : State), s.testBarred e.val v = false ∧ u = s.quiet.storeReg (.TEST_CMD e.val) v ∧
    (R.TEST_CMD_ABORT e.val).of v = 0 ∧ (kind = (R.TEST_CMD_KIND e.val).of v ∧ unit = (R.TEST_CMD_UNIT e.val).of v) ∧ (1 ≤ kind ∧ kind ≤ 4) ∧
    ((u.engine e.val).test.isNone && engineTests e.val kind unit && u.testPermitted kind && u.handedOver kind unit) = false :=
  ⟨1, BitVec.ofNat 32 (2 * 2 ^ (R.TEST_CMD_KIND 1).lo + 40 * 2 ^ (R.TEST_CMD_UNIT 1).lo), 2, 40, lcState 1, _, by decide, rfl, by decide +kernel⟩

theorem test_meets_SelfTest_3 : ∃ (ini : Ini) (e : Fin 5) (v : BitVec 32) (s : State), (s.testBarred e.val v = true) :=
  ⟨host, 0, BitVec.ofNat 32 (2 ^ (R.TEST_CMD_KIND 0).lo), lcState 5, by decide +kernel⟩

theorem test_meets_SelfTest_4 : ∃ (e : Fin 5) (kind unit : Nat) (s u : State), ((s.engine e.val).test = some (kind, unit)) ∧ (u = (s.quiet.setEngine e.val { s.engine e.val with fifo := [] }).wr (R.TEST_STAT_FAIL_BITS e.val) 0) :=
  ⟨1, 2, 5, runState.setEngine 1 { test := some (2, 5) }, _, by decide +kernel, rfl⟩

theorem test_meets_SelfTest_5 : ∃ (ini : Ini) (e : Fin 5) (kind unit : Nat) (s : State), ((s.engine e.val).test = some (kind, unit)) ∧ ((s.engine e.val).start = false) ∧ (s.turnedAway (R.TEST_CMD_KIND e.val).off = none) :=
  ⟨host, 1, 2, 5, runState.setEngine 1 { test := some (2, 5) }, by decide +kernel⟩

theorem test_meets_SelfTest_6 : ∃ (ini : Ini) (e : Fin 5) (f : FailLoc) (fs : List FailLoc) (s : State), ((s.engine e.val).fifo = f :: fs) ∧ (s.peeks ini = false) ∧ (s.turnedAway (R.TEST_FAIL_INFO_VALID e.val).off = none) :=
  ⟨host, 1, ⟨3, 4, 5, true⟩, [], runState.setEngine 1 { fifo := [⟨3, 4, 5, true⟩] }, by decide +kernel⟩

theorem test_meets_SelfTest_7 : ∃ (ini : Ini) (e : Fin 5) (f : FailLoc) (fs : List FailLoc) (s : State), ((s.engine e.val).fifo = f :: fs) ∧ (s.peeks ini = true) ∧ (s.turnedAway (R.TEST_FAIL_INFO_VALID e.val).off = none) :=
  ⟨⟨0, 7⟩, 1, ⟨3, 4, 5, true⟩, [], runState.setEngine 1 { fifo := [⟨3, 4, 5, true⟩] }, by decide +kernel⟩

theorem test_meets_SelfTest_8 : ∃ (ini : Ini) (e : Fin 5) (s : State), ((s.engine e.val).fifo = []) ∧ (s.peeks ini = false) ∧ (s.turnedAway (R.TEST_FAIL_INFO_VALID e.val).off = none) :=
  ⟨host, 1, runState, by decide +kernel⟩

theorem test_meets_SelfTest_9 : ∃ (ini : Ini) (e : Fin 5) (s : State), ((s.engine e.val).fifo = []) ∧ (s.peeks ini = true) ∧ (s.turnedAway (R.TEST_FAIL_INFO_VALID e.val).off = none) :=
  ⟨⟨0, 7⟩, 1, runState, by decide +kernel⟩

theorem test_meets_SelfTest_10 : ∃ (ini : Ini) (s u : State), (u = s.quiet.w1cOnly .REPAIR_CTL 1) ∧ ((u.lc == 0 || u.lc == 5 || u.is1 R.REPAIR_CTL_BUSY || u.jnlRO) = false) ∧ (u.hostNode ini = true) ∧ (s.turnedAway R.REPAIR_CTL_BURN.off = none) :=
  ⟨host, lcState 3, _, rfl, by decide +kernel⟩

theorem test_meets_SelfTest_11 : ∃ (rs : List RepRec) (s u : State), (s.selfTest.burn = some rs) ∧ (u = rs.foldl State.burnOne s.quiet) :=
  ⟨[⟨1, 2, 0, 3, 4⟩], { lcState 3 with selfTest := { burn := some [⟨1, 2, 0, 3, 4⟩] } }, _, by decide +kernel, rfl⟩

theorem test_meets_SelfTest_12 : ∃ (v : BitVec 32) (s u : State), u = s.quiet.w1cOnly .STACK_TEST v ∧ R.STACK_TEST_NEXT.of v ≠ u.rd R.STACK_TEST_NEXT ∧ u.jnlRO = false :=
  ⟨BitVec.ofNat 32 (2 ^ R.STACK_TEST_NEXT.lo), runState, _, rfl, by decide +kernel⟩

theorem test_meets_SelfTest_13 : ∃ (ini : Ini) (layer : BitVec 3) (s u : State) (v : BitVec 32), (s.scanBarred = false) ∧ (v = BitVec.ofNat 32 (8 + layer.toNat)) ∧ (R.LBIST_CTL_GO.of v = 1) ∧ (u = s.quiet.storeReg .LBIST_CTL v) ∧ ((u.is1 R.LBIST_CTL_BUSY || u.is1 R.IMG_STATUS_STARTED || u.imgBusy) = false) ∧ (s.turnedAway R.LBIST_CTL_GO.off = none) :=
  ⟨host, 2, lcState 1, _, _, by decide +kernel, rfl, by decide +kernel, rfl, by decide +kernel⟩

theorem test_meets_SelfTest_14 : ∃ (ini : Ini) (layer : BitVec 3) (s : State), (s.scanBarred = true) :=
  ⟨host, 2, lcState 3, by decide +kernel⟩

theorem test_meets_SelfTest_15 : ∃ (pass : Bool) (l : Nat) (s : State), (s.selfTest.lbist = some l) :=
  ⟨true, 2, { runState with selfTest := { lbist := some 2 } }, by decide +kernel⟩

theorem test_meets_JtagInstructions_2 : ∃ (levels : List (BitVec 32)) (d : BitVec 64) (v : BitVec 3136) (s : State), (levels.length = 32) :=
  ⟨List.replicate 32 0, 0, 0, runState, by decide +kernel⟩

theorem test_meets_JtagInstructions_3 : ∃ (s : State), (s.pinsAllowed = true) :=
  ⟨runState, by decide +kernel⟩

theorem test_meets_JtagInstructions_4 : ∃ (s : State), (s.pinsAllowed = false) :=
  ⟨runState.wr R.IMG_STATUS_STARTED 1, by decide +kernel⟩

theorem test_meets_JtagInstructions_5 : ∃ (s : State), (s.pinsAllowed = true) :=
  ⟨runState, by decide +kernel⟩

theorem test_meets_JtagInstructions_6 : ∃ (s : State), (s.pinsAllowed = false) :=
  ⟨runState.wr R.IMG_STATUS_STARTED 1, by decide +kernel⟩

theorem test_meets_JtagInstructions_7 : ∃ (s : State), (s.pinsAllowed = true) :=
  ⟨runState, by decide +kernel⟩

theorem test_meets_JtagInstructions_8 : ∃ (s : State), (s.pinsAllowed = false) :=
  ⟨runState.wr R.IMG_STATUS_STARTED 1, by decide +kernel⟩

theorem test_meets_JtagInstructions_9 : ∃ (levels : List (BitVec 32)) (d : BitVec 64) (v : BitVec 3136) (s : State), (levels.length = 32) ∧ (s.pinsAllowed = true) :=
  ⟨List.replicate 32 0, 0, 5, runState, by decide +kernel⟩

theorem test_meets_JtagInstructions_11 : ∃ (s : State), (s.scanBarred = false) :=
  ⟨lcState 1, by decide +kernel⟩

theorem test_meets_JtagInstructions_12 : ∃ (s : State), (s.scanBarred = true) :=
  ⟨lcState 3, by decide +kernel⟩

theorem test_meets_JtagInstructions_13 : ∃ (code : BitVec 8) (s : State), ([1, 2, 3, 4, 5, 0x10, 0x20].contains code.toNat = false) :=
  ⟨9, runState, by decide +kernel⟩

theorem test_meets_JtagInstructions_14 : ∃ (v : BitVec 64) (off : Nat) (code : Resp) (data : Nat) (s : State), (s.jtag.ir = 16) ∧ (s.jtag.prev = some (off, code, data)) ∧ (off < 2 ^ 23) :=
  ⟨0, 0x200, .ok, 0, dbgState.setJtag { ir := 16, prev := some (0x200, .ok, 0) }, by decide +kernel⟩

theorem test_meets_JtagInstructions_15 : ∃ (v : BitVec 64) (early : Bool) (s : State), (s.jtag.ir ≠ 16) :=
  ⟨0, false, runState, by decide +kernel⟩

theorem test_meets_JtagInstructions_16 : ∃ (v : BitVec 64) (off : Nat) (code : Resp) (data : Nat) (s : State), (s.jtag.ir = 16) ∧ (s.jtag.prev = some (off, code, data)) :=
  ⟨0, 0x200, .ok, 0, dbgState.setJtag { ir := 16, prev := some (0x200, .ok, 0) }, by decide +kernel⟩

theorem test_meets_DebugSessions_1 : ∃ (ini : Ini) (s u z : State), (s.sessionElsewhere ini = false) ∧ (s.selfTest.undef = false) ∧ (u = (s.quiet.bindSession ini true 0 (BitVec.ofNat 32 16)).w1cOnly .DBG_AUTH (BitVec.ofNat 32 16)) ∧ ((u.lc == 5 || u.is1 R.LC_STATE_LOCKED || !(u.is1 R.RNG_STAT_HEALTHY) || u.is1 R.DBG_AUTH_BLOCKED) = false) ∧ (z = ((u.setSec { u.sec with challenge := storeSet none (DPort.num .olicor) (some (u.draw % 2 ^ 128)) u.sec.challenge }).drawn)) :=
  ⟨host, dbgState.wr R.RNG_STAT_HEALTHY 1, _, _, by decide +kernel, by decide +kernel, rfl, by decide +kernel, rfl⟩

theorem test_meets_DebugSessions_2 : ∃ (s u z : State), (s.jtag.ir = 16) ∧ (s.selfTest.undef = false) ∧ (u = (s.quiet).w1cOnly .DBG_AUTH (BitVec.ofNat 32 16)) ∧ ((u.lc == 5 || u.is1 R.LC_STATE_LOCKED || !(u.is1 R.RNG_STAT_HEALTHY) || u.is1 R.DBG_AUTH_BLOCKED) = false) ∧ (z = ((u.setSec { u.sec with challenge := storeSet none (DPort.num .jtag) (some (u.draw % 2 ^ 128)) u.sec.challenge }).drawn)) :=
  ⟨dbgState.wr R.RNG_STAT_HEALTHY 1, _, _, by decide +kernel, by decide +kernel, rfl, by decide +kernel, rfl⟩

theorem test_meets_DebugSessions_3 : ∃ (ini : Ini) (s u z : State), (s.sessionElsewhere ini = false) ∧ (s.selfTest.undef = false) ∧ (u = (s.quiet.bindSession ini true 0 (BitVec.ofNat 32 16)).w1cOnly .DBG_AUTH (BitVec.ofNat 32 16)) ∧ ((u.lc == 5 || u.is1 R.LC_STATE_LOCKED || !(u.is1 R.RNG_STAT_HEALTHY) || u.is1 R.DBG_AUTH_BLOCKED) = true) ∧ (z = ((u.set1 R.DBG_AUTH_ERR).setSec { u.sec with challenge := storeSet none (DPort.num .olicor) none u.sec.challenge })) :=
  ⟨host, dbgState.wr R.RNG_STAT_HEALTHY 0, _, _, by decide +kernel, by decide +kernel, rfl, by decide +kernel, rfl⟩

theorem test_meets_DebugSessions_4 : ∃ (s u z : State), (s.jtag.ir = 16) ∧ (s.selfTest.undef = false) ∧ (u = (s.quiet).w1cOnly .DBG_AUTH (BitVec.ofNat 32 16)) ∧ ((u.lc == 5 || u.is1 R.LC_STATE_LOCKED || !(u.is1 R.RNG_STAT_HEALTHY) || u.is1 R.DBG_AUTH_BLOCKED) = true) ∧ (z = ((u.set1 R.DBG_AUTH_ERR).setSec { u.sec with challenge := storeSet none (DPort.num .jtag) none u.sec.challenge })) :=
  ⟨dbgState.wr R.RNG_STAT_HEALTHY 0, _, _, by decide +kernel, by decide +kernel, rfl, by decide +kernel, rfl⟩

theorem test_meets_DebugSessions_5 : ∃ (ini : Ini) (level : BitVec 2) (s u z : State), (s.sessionElsewhere ini = false) ∧ (s.selfTest.undef = false) ∧ (u = (s.quiet.bindSession ini true 0 (BitVec.ofNat 32 level.toNat)).w1cOnly .DBG_AUTH (BitVec.ofNat 32 level.toNat)) ∧ (level.toNat = 1 ∨ level.toNat = 2) ∧ (u.dlevel .olicor ≤ level.toNat) ∧ (u.lc = 0 ∨ u.lc = 1 ∨ u.lc = 4) ∧ (z = u.setLevel .olicor (min level.toNat u.levelCap)) :=
  ⟨host, 1, (lcState 1).setJtag { ir := 16 }, _, _, by decide +kernel, by decide +kernel, rfl, by decide +kernel, by decide +kernel, by decide +kernel, rfl⟩

theorem test_meets_DebugSessions_6 : ∃ (level : BitVec 2) (s u z : State), (s.jtag.ir = 16) ∧ (s.selfTest.undef = false) ∧ (u = (s.quiet).w1cOnly .DBG_AUTH (BitVec.ofNat 32 level.toNat)) ∧ (level.toNat = 1 ∨ level.toNat = 2) ∧ (u.dlevel .jtag ≤ level.toNat) ∧ (u.lc = 0 ∨ u.lc = 1 ∨ u.lc = 4) ∧ (z = u.setLevel .jtag (min level.toNat u.levelCap)) :=
  ⟨1, (lcState 1).setJtag { ir := 16 }, _, _, by decide +kernel, by decide +kernel, rfl, by decide +kernel, by decide +kernel, by decide +kernel, rfl⟩

theorem test_meets_DebugSessions_7 : ∃ (ini : Ini) (level : BitVec 2) (s u z : State), (s.sessionElsewhere ini = false) ∧ (s.selfTest.undef = false) ∧ (u = (s.quiet.bindSession ini true 0 (BitVec.ofNat 32 level.toNat)).w1cOnly .DBG_AUTH (BitVec.ofNat 32 level.toNat)) ∧ (level.toNat = 1 ∨ level.toNat = 2) ∧ (u.dlevel .olicor ≤ level.toNat) ∧ (u.lc = 2 ∨ u.lc = 3 ∨ u.lc = 5) ∧ (storeGet none (DPort.num .olicor) u.sec.challenge = none) ∧ (z = u.set1 R.DBG_AUTH_ERR) :=
  ⟨host, 1, (lcState 2).setJtag { ir := 16 }, _, _, by decide +kernel, by decide +kernel, rfl, by decide +kernel, by decide +kernel, by decide +kernel, by decide +kernel, rfl⟩

theorem test_meets_DebugSessions_8 : ∃ (level : BitVec 2) (s u z : State), (s.jtag.ir = 16) ∧ (s.selfTest.undef = false) ∧ (u = (s.quiet).w1cOnly .DBG_AUTH (BitVec.ofNat 32 level.toNat)) ∧ (level.toNat = 1 ∨ level.toNat = 2) ∧ (u.dlevel .jtag ≤ level.toNat) ∧ (u.lc = 2 ∨ u.lc = 3 ∨ u.lc = 5) ∧ (storeGet none (DPort.num .jtag) u.sec.challenge = none) ∧ (z = u.set1 R.DBG_AUTH_ERR) :=
  ⟨1, (lcState 2).setJtag { ir := 16 }, _, _, by decide +kernel, by decide +kernel, rfl, by decide +kernel, by decide +kernel, by decide +kernel, by decide +kernel, rfl⟩

theorem test_meets_DebugSessions_9 : ∃ (ini : Ini) (level : BitVec 2) (c : Nat) (s u z : State), (s.sessionElsewhere ini = false) ∧ (s.selfTest.undef = false) ∧ (u = (s.quiet.bindSession ini true 0 (BitVec.ofNat 32 level.toNat)).w1cOnly .DBG_AUTH (BitVec.ofNat 32 level.toNat)) ∧ (level.toNat = 1 ∨ level.toNat = 2) ∧ (u.dlevel .olicor ≤ level.toNat) ∧ (u.lc = 2 ∨ u.lc = 3 ∨ u.lc = 5) ∧ (storeGet none (DPort.num .olicor) u.sec.challenge = some c) ∧ (u.responseOk .olicor c level.toNat = false) ∧ (z = u.wrongResponse) :=
  ⟨host, 1, 7, { (lcState 2).setJtag { ir := 16 } with sec := { challenge := [(0, some 7), (1, some 7)] } }, _, _, by decide +kernel, by decide +kernel, rfl, by decide +kernel, by decide +kernel, by decide +kernel, by decide +kernel, by decide +kernel, rfl⟩

theorem test_meets_DebugSessions_10 : ∃ (level : BitVec 2) (c : Nat) (s u z : State), (s.jtag.ir = 16) ∧ (s.selfTest.undef = false) ∧ (u = (s.quiet).w1cOnly .DBG_AUTH (BitVec.ofNat 32 level.toNat)) ∧ (level.toNat = 1 ∨ level.toNat = 2) ∧ (u.dlevel .jtag ≤ level.toNat) ∧ (u.lc = 2 ∨ u.lc = 3 ∨ u.lc = 5) ∧ (storeGet none (DPort.num .jtag) u.sec.challenge = some c) ∧ (u.responseOk .jtag c level.toNat = false) ∧ (z = u.wrongResponse) :=
  ⟨1, 7, { (lcState 2).setJtag { ir := 16 } with sec := { challenge := [(0, some 7), (1, some 7)] } }, _, _, by decide +kernel, by decide +kernel, rfl, by decide +kernel, by decide +kernel, by decide +kernel, by decide +kernel, by decide +kernel, rfl⟩

theorem test_meets_DebugSessions_11 : ∃ (ini : Ini) (s u z : State), (s.sessionElsewhere ini = false) ∧ (s.selfTest.undef = false) ∧ (u = (s.quiet.bindSession ini true 0 (BitVec.ofNat 32 32)).w1cOnly .DBG_AUTH (BitVec.ofNat 32 32)) ∧ (z = u.closeSession .olicor) :=
  ⟨host, dbgState, _, _, by decide +kernel, by decide +kernel, rfl, rfl⟩

theorem test_meets_DebugSessions_12 : ∃ (s u z : State), (s.jtag.ir = 16) ∧ (s.selfTest.undef = false) ∧ (u = (s.quiet).w1cOnly .DBG_AUTH (BitVec.ofNat 32 32)) ∧ (z = u.closeSession .jtag) :=
  ⟨dbgState, _, _, by decide +kernel, by decide +kernel, rfl, rfl⟩

theorem test_meets_DebugSessions_13 : ∃ (ini : Ini) (level : BitVec 2) (s : State), (s.sessionElsewhere ini = true) :=
  ⟨host, 1, dbgState.wr R.DBG_SESSION_STAT_OLI_BOUND 1, by decide +kernel⟩

theorem test_meets_DebugSessions_14 : ∃ (ini : Ini) (t : Fin 4) (s : State), (s.sessionElsewhere ini = false) ∧ (s.selfTest.undef = false) ∧ (s.dlevel .olicor < 2) :=
  ⟨host, 1, runState, by decide +kernel⟩

theorem test_meets_DebugSessions_15 : ∃ (rq : Request) (s : State), (rq.acc.op = .nrd ∧ rq.acc.dstNode = 7) ∧ (s.sessionElsewhere rq.ini = false) ∧ (rq.acc.size ≠ 4) :=
  ⟨⟨host, 0, ⟨.nrd, 0, 7, 0, 8, [], 0⟩⟩, dbgState, by decide +kernel⟩

theorem test_meets_DebugSessions_16 : ∃ (rq : Request) (s t : State) (d : Nat), (rq.acc.op = .nrd ∧ rq.acc.dstNode = 7) ∧ s.sessionElsewhere rq.ini = false ∧ rq.acc.size = 4 ∧
    s.quiet.olicorAccess rq.ini false rq.acc.addr (BitVec.ofNat 32 (leNat rq.acc.data)) = (t, .ok, d) :=
  ⟨⟨host, 0, ⟨.nrd, 0, 7, 0, 4, [], 0⟩⟩, dbgState, _, _, by decide, by decide, by decide, by rfl⟩

theorem test_meets_DebugActions_1 : ∃ (ini : Ini) (t : Fin 4) (v : BitVec 32) (s u z : State), (s.sessionElsewhere ini = false) ∧ (s.selfTest.undef = false) ∧ (2 ≤ s.dlevel .olicor) ∧ (v = BitVec.ofNat 32 (2 ^ 0 + 16 * s.rd (R.DBG_THR_CTL_WDT_FRZ t.val))) ∧ ((R.DBG_THR_CTL_HALT t.val).of v = 1 ∧ (R.DBG_THR_CTL_RELEASE t.val).of v = 0 ∧ (R.DBG_THR_CTL_FORCE t.val).of v = 0 ∧ (R.DBG_THR_CTL_STEP t.val).of v = 0) ∧ (u = s.quiet.storeReg (.DBG_THR_CTL t.val) v) ∧ (u.tstate t.val = .run ∨ u.tstate t.val = .wait) ∧ (z = if u.atCommitPoint t.val then u.threadHalted t.val else u.set1 (R.DBG_THR_CTL_PEND t.val)) :=
  ⟨host, 1, _, dbgState.wr (R.SEQ_THR_STATUS_STATE 1) 1, _, _, by decide +kernel, by decide +kernel, by decide +kernel, rfl, by decide +kernel, rfl, by decide +kernel, rfl⟩

theorem test_meets_DebugActions_2 : ∃ (t : Fin 4) (v : BitVec 32) (s u z : State), (s.jtag.ir = 16) ∧ (s.selfTest.undef = false) ∧ (2 ≤ s.dlevel .jtag) ∧ (v = BitVec.ofNat 32 (2 ^ 0 + 16 * s.rd (R.DBG_THR_CTL_WDT_FRZ t.val))) ∧ ((R.DBG_THR_CTL_HALT t.val).of v = 1 ∧ (R.DBG_THR_CTL_RELEASE t.val).of v = 0 ∧ (R.DBG_THR_CTL_FORCE t.val).of v = 0 ∧ (R.DBG_THR_CTL_STEP t.val).of v = 0) ∧ (u = s.quiet.storeReg (.DBG_THR_CTL t.val) v) ∧ (u.tstate t.val = .run ∨ u.tstate t.val = .wait) ∧ (z = if u.atCommitPoint t.val then u.threadHalted t.val else u.set1 (R.DBG_THR_CTL_PEND t.val)) :=
  ⟨1, _, dbgState.wr (R.SEQ_THR_STATUS_STATE 1) 1, _, _, by decide +kernel, by decide +kernel, by decide +kernel, rfl, by decide +kernel, rfl, by decide +kernel, rfl⟩

theorem test_meets_DebugActions_3 : ∃ (ini : Ini) (t : Fin 4) (v : BitVec 32) (s u z : State), (s.sessionElsewhere ini = false) ∧ (s.selfTest.undef = false) ∧ (2 ≤ s.dlevel .olicor) ∧ (v = BitVec.ofNat 32 (2 ^ 1 + 16 * s.rd (R.DBG_THR_CTL_WDT_FRZ t.val))) ∧ ((R.DBG_THR_CTL_HALT t.val).of v = 0 ∧ (R.DBG_THR_CTL_RELEASE t.val).of v = 1 ∧ (R.DBG_THR_CTL_FORCE t.val).of v = 0 ∧ (R.DBG_THR_CTL_STEP t.val).of v = 0) ∧ (u = s.quiet.storeReg (.DBG_THR_CTL t.val) v) ∧ (u.tstate t.val = .halted) ∧ (z = u.threadRelease t.val) :=
  ⟨host, 1, _, dbgState.setTstate 1 .halted, _, _, by decide +kernel, by decide +kernel, by decide +kernel, rfl, by decide +kernel, rfl, by decide +kernel, rfl⟩

theorem test_meets_DebugActions_4 : ∃ (t : Fin 4) (v : BitVec 32) (s u z : State), (s.jtag.ir = 16) ∧ (s.selfTest.undef = false) ∧ (2 ≤ s.dlevel .jtag) ∧ (v = BitVec.ofNat 32 (2 ^ 1 + 16 * s.rd (R.DBG_THR_CTL_WDT_FRZ t.val))) ∧ ((R.DBG_THR_CTL_HALT t.val).of v = 0 ∧ (R.DBG_THR_CTL_RELEASE t.val).of v = 1 ∧ (R.DBG_THR_CTL_FORCE t.val).of v = 0 ∧ (R.DBG_THR_CTL_STEP t.val).of v = 0) ∧ (u = s.quiet.storeReg (.DBG_THR_CTL t.val) v) ∧ (u.tstate t.val = .halted) ∧ (z = u.threadRelease t.val) :=
  ⟨1, _, dbgState.setTstate 1 .halted, _, _, by decide +kernel, by decide +kernel, by decide +kernel, rfl, by decide +kernel, rfl, by decide +kernel, rfl⟩

theorem test_meets_DebugActions_5 : ∃ (ini : Ini) (t : Fin 4) (v : BitVec 32) (s u z : State), (s.sessionElsewhere ini = false) ∧ (s.selfTest.undef = false) ∧ (2 ≤ s.dlevel .olicor) ∧ (v = BitVec.ofNat 32 (2 ^ 2 + 16 * s.rd (R.DBG_THR_CTL_WDT_FRZ t.val))) ∧ ((R.DBG_THR_CTL_HALT t.val).of v = 0 ∧ (R.DBG_THR_CTL_RELEASE t.val).of v = 0 ∧ (R.DBG_THR_CTL_FORCE t.val).of v = 1 ∧ (R.DBG_THR_CTL_STEP t.val).of v = 0) ∧ (u = s.quiet.storeReg (.DBG_THR_CTL t.val) v) ∧ (u.is1 (R.DBG_THR_CTL_PEND t.val) = true ∧ u.locked t.val = true) ∧ (z = ((((u.squashAll t.val).abortLock t.val).pendingActs t.val).haltIf t.val true).log (.blockEvent 0x21) [t.val, ((((u.squashAll t.val).abortLock t.val).pendingActs t.val).haltIf t.val true).tpc t.val]) :=
  ⟨host, 1, _, (dbgState.setThread 1 { lock := some ⟨0, [], 0, []⟩ }).wr (R.DBG_THR_CTL_PEND 1) 1, _, _, by decide +kernel, by decide +kernel, by decide +kernel, rfl, by decide +kernel, rfl, by decide +kernel, rfl⟩

theorem test_meets_DebugActions_6 : ∃ (t : Fin 4) (v : BitVec 32) (s u z : State), (s.jtag.ir = 16) ∧ (s.selfTest.undef = false) ∧ (2 ≤ s.dlevel .jtag) ∧ (v = BitVec.ofNat 32 (2 ^ 2 + 16 * s.rd (R.DBG_THR_CTL_WDT_FRZ t.val))) ∧ ((R.DBG_THR_CTL_HALT t.val).of v = 0 ∧ (R.DBG_THR_CTL_RELEASE t.val).of v = 0 ∧ (R.DBG_THR_CTL_FORCE t.val).of v = 1 ∧ (R.DBG_THR_CTL_STEP t.val).of v = 0) ∧ (u = s.quiet.storeReg (.DBG_THR_CTL t.val) v) ∧ (u.is1 (R.DBG_THR_CTL_PEND t.val) = true ∧ u.locked t.val = true) ∧ (z = ((((u.squashAll t.val).abortLock t.val).pendingActs t.val).haltIf t.val true).log (.blockEvent 0x21) [t.val, ((((u.squashAll t.val).abortLock t.val).pendingActs t.val).haltIf t.val true).tpc t.val]) :=
  ⟨1, _, (dbgState.setThread 1 { lock := some ⟨0, [], 0, []⟩ }).wr (R.DBG_THR_CTL_PEND 1) 1, _, _, by decide +kernel, by decide +kernel, by decide +kernel, rfl, by decide +kernel, rfl, by decide +kernel, rfl⟩

theorem test_meets_DebugActions_7 : ∃ (ini : Ini) (t : Fin 4) (v : BitVec 32) (s u z : State), (s.sessionElsewhere ini = false) ∧ (s.selfTest.undef = false) ∧ (2 ≤ s.dlevel .olicor) ∧ (v = BitVec.ofNat 32 (2 ^ 3 + 16 * s.rd (R.DBG_THR_CTL_WDT_FRZ t.val))) ∧ ((R.DBG_THR_CTL_HALT t.val).of v = 0 ∧ (R.DBG_THR_CTL_RELEASE t.val).of v = 0 ∧ (R.DBG_THR_CTL_FORCE t.val).of v = 0 ∧ (R.DBG_THR_CTL_STEP t.val).of v = 1) ∧ (u = s.quiet.storeReg (.DBG_THR_CTL t.val) v) ∧ (u.tstate t.val = .halted ∧ u.is1 (R.DBG_THR_CTL_DEFERRED t.val) = false) ∧ (z = ((u.wdtResume t.val).setTstate t.val .run).setThread t.val { ((u.wdtResume t.val).setTstate t.val .run).thread t.val with stepping := true }) :=
  ⟨host, 1, _, dbgState.setTstate 1 .halted, _, _, by decide +kernel, by decide +kernel, by decide +kernel, rfl, by decide +kernel, rfl, by decide +kernel, rfl⟩

theorem test_meets_DebugActions_8 : ∃ (t : Fin 4) (v : BitVec 32) (s u z : State), (s.jtag.ir = 16) ∧ (s.selfTest.undef = false) ∧ (2 ≤ s.dlevel .jtag) ∧ (v = BitVec.ofNat 32 (2 ^ 3 + 16 * s.rd (R.DBG_THR_CTL_WDT_FRZ t.val))) ∧ ((R.DBG_THR_CTL_HALT t.val).of v = 0 ∧ (R.DBG_THR_CTL_RELEASE t.val).of v = 0 ∧ (R.DBG_THR_CTL_FORCE t.val).of v = 0 ∧ (R.DBG_THR_CTL_STEP t.val).of v = 1) ∧ (u = s.quiet.storeReg (.DBG_THR_CTL t.val) v) ∧ (u.tstate t.val = .halted ∧ u.is1 (R.DBG_THR_CTL_DEFERRED t.val) = false) ∧ (z = ((u.wdtResume t.val).setTstate t.val .run).setThread t.val { ((u.wdtResume t.val).setTstate t.val .run).thread t.val with stepping := true }) :=
  ⟨1, _, dbgState.setTstate 1 .halted, _, _, by decide +kernel, by decide +kernel, by decide +kernel, rfl, by decide +kernel, rfl, by decide +kernel, rfl⟩

theorem test_meets_DebugActions_9 : ∃ (ini : Ini) (value : BitVec 32) (v : BitVec 32) (s u z : State), (s.sessionElsewhere ini = false) ∧ (s.selfTest.undef = false) ∧ (2 ≤ s.dlevel .olicor) ∧ (v = value) ∧ (u = s.quiet) ∧ (u.tstate u.selThread = .halted) ∧ (z = (u.dropLo thrDataLo ini).setSel (u.pairLo thrDataLo ini (u.selValue.1 % 2 ^ 32) + 2 ^ 32 * v.toNat)) :=
  ⟨host, 5, _, dbgState.setTstate 0 .halted, _, _, by decide +kernel, by decide +kernel, by decide +kernel, rfl, rfl, by decide +kernel, rfl⟩

theorem test_meets_DebugActions_10 : ∃ (value : BitVec 32) (v : BitVec 32) (s u z : State), (s.jtag.ir = 16) ∧ (s.selfTest.undef = false) ∧ (2 ≤ s.dlevel .jtag) ∧ (v = value) ∧ (u = s.quiet) ∧ (u.tstate u.selThread = .halted) ∧ (z = (u.dropLo thrDataLo s.jtagIni).setSel (u.pairLo thrDataLo s.jtagIni (u.selValue.1 % 2 ^ 32) + 2 ^ 32 * v.toNat)) :=
  ⟨5, _, dbgState.setTstate 0 .halted, _, _, by decide +kernel, by decide +kernel, by decide +kernel, rfl, rfl, by decide +kernel, rfl⟩

theorem test_meets_DebugActions_11 : ∃ (ini : Ini) (value : BitVec 32) (v : BitVec 32) (s u z : State), (s.sessionElsewhere ini = false) ∧ (s.selfTest.undef = false) ∧ (2 ≤ s.dlevel .olicor) ∧ (v = value) ∧ (u = s.quiet) ∧ (u.tstate u.selThread ≠ .halted) ∧ (z = u.set1 R.DBG_THR_SEL_ERR) :=
  ⟨host, 5, _, dbgState, _, _, by decide +kernel, by decide +kernel, by decide +kernel, rfl, rfl, by decide +kernel, rfl⟩

theorem test_meets_DebugActions_12 : ∃ (value : BitVec 32) (v : BitVec 32) (s u z : State), (s.jtag.ir = 16) ∧ (s.selfTest.undef = false) ∧ (2 ≤ s.dlevel .jtag) ∧ (v = value) ∧ (u = s.quiet) ∧ (u.tstate u.selThread ≠ .halted) ∧ (z = u.set1 R.DBG_THR_SEL_ERR) :=
  ⟨5, _, dbgState, _, _, by decide +kernel, by decide +kernel, by decide +kernel, rfl, rfl, by decide +kernel, rfl⟩

theorem test_meets_DebugActions_13 : ∃ (ini : Ini) (i : Fin 2) (value : BitVec 32) (v : BitVec 32) (s u z : State), (s.sessionElsewhere ini = false) ∧ (s.selfTest.undef = false) ∧ (2 ≤ s.dlevel .olicor) ∧ (v = value) ∧ (u = s.quiet) ∧ (z = u.eachRegion i.val v (fun (t : State) n => t.setHold n .debug)) :=
  ⟨host, 0, 1, _, dbgState, _, _, by decide +kernel, by decide +kernel, by decide +kernel, rfl, rfl, rfl⟩

theorem test_meets_DebugActions_14 : ∃ (i : Fin 2) (value : BitVec 32) (v : BitVec 32) (s u z : State), (s.jtag.ir = 16) ∧ (s.selfTest.undef = false) ∧ (2 ≤ s.dlevel .jtag) ∧ (v = value) ∧ (u = s.quiet) ∧ (z = u.eachRegion i.val v (fun (t : State) n => t.setHold n .debug)) :=
  ⟨0, 1, _, dbgState, _, _, by decide +kernel, by decide +kernel, by decide +kernel, rfl, rfl, rfl⟩

theorem test_meets_DebugActions_15 : ∃ (ini : Ini) (i : Fin 2) (value : BitVec 32) (v : BitVec 32) (s u z : State), (s.sessionElsewhere ini = false) ∧ (s.selfTest.undef = false) ∧ (2 ≤ s.dlevel .olicor) ∧ (v = value) ∧ (u = s.quiet) ∧ (z = u.eachRegion i.val v (fun (t : State) n => t.clrHold n .debug)) :=
  ⟨host, 0, 1, _, dbgState, _, _, by decide +kernel, by decide +kernel, by decide +kernel, rfl, rfl, rfl⟩

theorem test_meets_DebugActions_16 : ∃ (i : Fin 2) (value : BitVec 32) (v : BitVec 32) (s u z : State), (s.jtag.ir = 16) ∧ (s.selfTest.undef = false) ∧ (2 ≤ s.dlevel .jtag) ∧ (v = value) ∧ (u = s.quiet) ∧ (z = u.eachRegion i.val v (fun (t : State) n => t.clrHold n .debug)) :=
  ⟨0, 1, _, dbgState, _, _, by decide +kernel, by decide +kernel, by decide +kernel, rfl, rfl, rfl⟩

theorem test_meets_DebugActions_17 : ∃ (ini : Ini) (n : Fin 64) (count : BitVec 8) (v : BitVec 32) (s u z : State), (s.sessionElsewhere ini = false) ∧ (s.selfTest.undef = false) ∧ (2 ≤ s.dlevel .olicor) ∧ (v = BitVec.ofNat 32 (n.val * 2 ^ 16 + count.toNat)) ∧ (s.is1 R.DBG_REG_STEP_BUSY = false) ∧ (R.DBG_REG_STEP_REGION.of v = n.val ∧ R.DBG_REG_STEP_COUNT.of v = count.toNat) ∧ (count.toNat ≠ 0) ∧ (u = s.quiet.storeReg .DBG_REG_STEP v) ∧ (u.rstate n.val = .held ∧ u.rd (R.REGION_STATUS_HOLD_SRC n.val) = 2 ^ (Hold.debug).bit) ∧ (z = ((u.setRegion n.val { u.region n.val with stepLeft := count.toNat }).clrHold n.val .debug).set1 R.DBG_REG_STEP_BUSY) :=
  ⟨host, 0, 3, _, dbgState.wr (R.REGION_STATUS_STATE 0) 3 |>.wr (R.REGION_STATUS_HOLD_SRC 0) (2 ^ (Hold.debug).bit), _, _, by decide +kernel, by decide +kernel, by decide +kernel, rfl, by decide +kernel, by decide +kernel, by decide +kernel, rfl, by decide +kernel, rfl⟩

theorem test_meets_DebugActions_18 : ∃ (n : Fin 64) (count : BitVec 8) (v : BitVec 32) (s u z : State), (s.jtag.ir = 16) ∧ (s.selfTest.undef = false) ∧ (2 ≤ s.dlevel .jtag) ∧ (v = BitVec.ofNat 32 (n.val * 2 ^ 16 + count.toNat)) ∧ (s.is1 R.DBG_REG_STEP_BUSY = false) ∧ (R.DBG_REG_STEP_REGION.of v = n.val ∧ R.DBG_REG_STEP_COUNT.of v = count.toNat) ∧ (count.toNat ≠ 0) ∧ (u = s.quiet.storeReg .DBG_REG_STEP v) ∧ (u.rstate n.val = .held ∧ u.rd (R.REGION_STATUS_HOLD_SRC n.val) = 2 ^ (Hold.debug).bit) ∧ (z = ((u.setRegion n.val { u.region n.val with stepLeft := count.toNat }).clrHold n.val .debug).set1 R.DBG_REG_STEP_BUSY) :=
  ⟨0, 3, _, dbgState.wr (R.REGION_STATUS_STATE 0) 3 |>.wr (R.REGION_STATUS_HOLD_SRC 0) (2 ^ (Hold.debug).bit), _, _, by decide +kernel, by decide +kernel, by decide +kernel, rfl, by decide +kernel, by decide +kernel, by decide +kernel, rfl, by decide +kernel, rfl⟩

theorem test_meets_DebugActions_19 : ∃ (ini : Ini) (c : Fin 16) (v : BitVec 32) (s u z : State), (s.sessionElsewhere ini = false) ∧ (s.selfTest.undef = false) ∧ (2 ≤ s.dlevel .olicor) ∧ (v = BitVec.ofNat 32 (2 ^ 31 + (2 ^ 30 * s.rd (R.DBG_XT_CFG_FREEZE c.val) + 2 ^ 29 * s.rd (R.DBG_XT_CFG_TRACE_STOP c.val) + 2 ^ 28 * s.rd (R.DBG_XT_CFG_TRACE_MARK c.val) + 2 ^ 24 * s.rd (R.DBG_XT_CFG_THR_HALT c.val)))) ∧ ((R.DBG_XT_CFG_SW c.val).of v = 1) ∧ (u = s.quiet.storeReg (.DBG_XT_CFG c.val) v) ∧ (z = u.pulse c.val) :=
  ⟨host, 2, _, dbgState, _, _, by decide +kernel, by decide +kernel, by decide +kernel, rfl, by decide +kernel, rfl, rfl⟩

theorem test_meets_DebugActions_20 : ∃ (c : Fin 16) (v : BitVec 32) (s u z : State), (s.jtag.ir = 16) ∧ (s.selfTest.undef = false) ∧ (2 ≤ s.dlevel .jtag) ∧ (v = BitVec.ofNat 32 (2 ^ 31 + (2 ^ 30 * s.rd (R.DBG_XT_CFG_FREEZE c.val) + 2 ^ 29 * s.rd (R.DBG_XT_CFG_TRACE_STOP c.val) + 2 ^ 28 * s.rd (R.DBG_XT_CFG_TRACE_MARK c.val) + 2 ^ 24 * s.rd (R.DBG_XT_CFG_THR_HALT c.val)))) ∧ ((R.DBG_XT_CFG_SW c.val).of v = 1) ∧ (u = s.quiet.storeReg (.DBG_XT_CFG c.val) v) ∧ (z = u.pulse c.val) :=
  ⟨2, _, dbgState, _, _, by decide +kernel, by decide +kernel, by decide +kernel, rfl, by decide +kernel, rfl, rfl⟩

theorem test_meets_DebugActions_21 : ∃ (ini : Ini) (value : BitVec 32) (v : BitVec 32) (s u z : State), (s.sessionElsewhere ini = false) ∧ (s.selfTest.undef = false) ∧ (1 ≤ s.dlevel .olicor) ∧ (v = value) ∧ (R.TRACE_CTL_EN.of v = 0) ∧ (u = s.quiet.w1cOnly .TRACE_CTL v) ∧ (z = u.storeReg .TRACE_CTL v) :=
  ⟨host, 0, _, dbgState, _, _, by decide +kernel, by decide +kernel, by decide +kernel, rfl, by decide +kernel, rfl, rfl⟩

theorem test_meets_DebugActions_22 : ∃ (value : BitVec 32) (v : BitVec 32) (s u z : State), (s.jtag.ir = 16) ∧ (s.selfTest.undef = false) ∧ (1 ≤ s.dlevel .jtag) ∧ (v = value) ∧ (R.TRACE_CTL_EN.of v = 0) ∧ (u = s.quiet.w1cOnly .TRACE_CTL v) ∧ (z = u.storeReg .TRACE_CTL v) :=
  ⟨0, _, dbgState, _, _, by decide +kernel, by decide +kernel, by decide +kernel, rfl, by decide +kernel, rfl, rfl⟩

theorem test_meets_DebugActions_23 : ∃ (ini : Ini) (value : BitVec 32) (g : Nat) (u2 : State) (v : BitVec 32) (s u z : State), (s.sessionElsewhere ini = false) ∧ (s.selfTest.undef = false) ∧ (1 ≤ s.dlevel .olicor) ∧ (v = value) ∧ (R.TRACE_CTL_EN.of v = 1) ∧ (u = s.quiet.w1cOnly .TRACE_CTL v) ∧ (g = cond (decide (24 ≤ R.TRACE_CTL_GROUP.of v)) (u.rd R.TRACE_CTL_GROUP) (R.TRACE_CTL_GROUP.of v)) ∧ (u.traceRefused (R.TRACE_CTL_SINK.of v == 1) g = false) ∧ (u2 = ((((if R.TRACE_CTL_SINK.of v = 1 then u.requestOn (88 + g) .host else u).storeReg .TRACE_CTL v).clr R.TRACE_STAT_STOPPED).clr R.TRACE_STAT_WRAPPED).clr R.TRACE_WPTR_WPTR) ∧ (z = { u2 with trace := { u2.trace with buf := [], lost := 0, post := none } }) :=
  ⟨host, BitVec.ofNat 32 (2 ^ R.TRACE_CTL_EN.lo + 2 ^ R.TRACE_CTL_SINK.lo), 0, _, _, dbgState, _, _, by decide +kernel, by decide +kernel, by decide +kernel, rfl, by decide +kernel, rfl, by decide +kernel, by decide +kernel, rfl, rfl⟩

theorem test_meets_DebugActions_24 : ∃ (value : BitVec 32) (g : Nat) (u2 : State) (v : BitVec 32) (s u z : State), (s.jtag.ir = 16) ∧ (s.selfTest.undef = false) ∧ (1 ≤ s.dlevel .jtag) ∧ (v = value) ∧ (R.TRACE_CTL_EN.of v = 1) ∧ (u = s.quiet.w1cOnly .TRACE_CTL v) ∧ (g = cond (decide (24 ≤ R.TRACE_CTL_GROUP.of v)) (u.rd R.TRACE_CTL_GROUP) (R.TRACE_CTL_GROUP.of v)) ∧ (u.traceRefused (R.TRACE_CTL_SINK.of v == 1) g = false) ∧ (u2 = ((((if R.TRACE_CTL_SINK.of v = 1 then u.requestOn (88 + g) .host else u).storeReg .TRACE_CTL v).clr R.TRACE_STAT_STOPPED).clr R.TRACE_STAT_WRAPPED).clr R.TRACE_WPTR_WPTR) ∧ (z = { u2 with trace := { u2.trace with buf := [], lost := 0, post := none } }) :=
  ⟨BitVec.ofNat 32 (2 ^ R.TRACE_CTL_EN.lo + 2 ^ R.TRACE_CTL_SINK.lo), 0, _, _, dbgState, _, _, by decide +kernel, by decide +kernel, by decide +kernel, rfl, by decide +kernel, rfl, by decide +kernel, by decide +kernel, rfl, rfl⟩

theorem test_meets_DebugActions_25 : ∃ (ini : Ini) (value : BitVec 32) (g : Nat) (v : BitVec 32) (s u z : State), (s.sessionElsewhere ini = false) ∧ (s.selfTest.undef = false) ∧ (1 ≤ s.dlevel .olicor) ∧ (v = value) ∧ (R.TRACE_CTL_EN.of v = 1) ∧ (u = s.quiet.w1cOnly .TRACE_CTL v) ∧ (g = cond (decide (24 ≤ R.TRACE_CTL_GROUP.of v)) (u.rd R.TRACE_CTL_GROUP) (R.TRACE_CTL_GROUP.of v)) ∧ (u.traceRefused (R.TRACE_CTL_SINK.of v == 1) g = true) ∧ (z = u.set1 R.TRACE_CTL_CFG_ERR) :=
  ⟨host, BitVec.ofNat 32 (2 ^ R.TRACE_CTL_EN.lo), 0, _, dbgState, _, _, by decide +kernel, by decide +kernel, by decide +kernel, rfl, by decide +kernel, rfl, by decide +kernel, by decide +kernel, rfl⟩

theorem test_meets_DebugActions_26 : ∃ (value : BitVec 32) (g : Nat) (v : BitVec 32) (s u z : State), (s.jtag.ir = 16) ∧ (s.selfTest.undef = false) ∧ (1 ≤ s.dlevel .jtag) ∧ (v = value) ∧ (R.TRACE_CTL_EN.of v = 1) ∧ (u = s.quiet.w1cOnly .TRACE_CTL v) ∧ (g = cond (decide (24 ≤ R.TRACE_CTL_GROUP.of v)) (u.rd R.TRACE_CTL_GROUP) (R.TRACE_CTL_GROUP.of v)) ∧ (u.traceRefused (R.TRACE_CTL_SINK.of v == 1) g = true) ∧ (z = u.set1 R.TRACE_CTL_CFG_ERR) :=
  ⟨BitVec.ofNat 32 (2 ^ R.TRACE_CTL_EN.lo), 0, _, dbgState, _, _, by decide +kernel, by decide +kernel, by decide +kernel, rfl, by decide +kernel, rfl, by decide +kernel, by decide +kernel, rfl⟩

theorem test_meets_DebugActions_27 : ∃ (ini : Ini) (size : BitVec 3) (write : Bool) (n addr : Nat) (v : BitVec 32) (s u z : State), (s.sessionElsewhere ini = false) ∧ (s.selfTest.undef = false) ∧ (1 ≤ s.dlevel .olicor) ∧ (v = BitVec.ofNat 32 (16 * size.toNat + 2 * write.toNat + 1)) ∧ (R.DBG_INIT_CMD_GO.of v = 1) ∧ (u = s.quiet.storeReg .DBG_INIT_CMD v) ∧ (u.is1 R.DBG_INIT_CMD_WRITE = write) ∧ (n = 2 ^ u.rd R.DBG_INIT_CMD_SIZE ∧ addr = u.rd64 R.DBG_INIT_ADDR_LO_ADDR R.DBG_INIT_ADDR_HI_ADDR) ∧ (u.is1 R.DBG_INIT_CMD_BUSY = false) ∧ ((if write = true then 2 else 1) ≤ u.dlevel .olicor) ∧ (localDecode addr n = false) ∧ (z = (u.set1 R.DBG_INIT_CMD_BUSY).sendReq 7 (if write then ⟨.wr, 0, 0, addr, n, ((List.range 16).flatMap fun i => leBytes 4 (u.rd (R.DBG_INIT_DATA_DATA i))).take n, 0⟩ else ⟨.rd, 0, 0, addr, n, [], 0⟩)) :=
  ⟨host, 3, false, 8, 0, _, dbgState, _, _, by decide +kernel, by decide +kernel, by decide +kernel, rfl, by decide +kernel, rfl, by decide +kernel, by decide +kernel, by decide +kernel, by decide +kernel, by decide +kernel, rfl⟩

theorem test_meets_DebugActions_28 : ∃ (size : BitVec 3) (write : Bool) (n addr : Nat) (v : BitVec 32) (s u z : State), (s.jtag.ir = 16) ∧ (s.selfTest.undef = false) ∧ (1 ≤ s.dlevel .jtag) ∧ (v = BitVec.ofNat 32 (16 * size.toNat + 2 * write.toNat + 1)) ∧ (R.DBG_INIT_CMD_GO.of v = 1) ∧ (u = s.quiet.storeReg .DBG_INIT_CMD v) ∧ (u.is1 R.DBG_INIT_CMD_WRITE = write) ∧ (n = 2 ^ u.rd R.DBG_INIT_CMD_SIZE ∧ addr = u.rd64 R.DBG_INIT_ADDR_LO_ADDR R.DBG_INIT_ADDR_HI_ADDR) ∧ (u.is1 R.DBG_INIT_CMD_BUSY = false) ∧ ((if write = true then 2 else 1) ≤ u.dlevel .jtag) ∧ (localDecode addr n = false) ∧ (z = (u.set1 R.DBG_INIT_CMD_BUSY).sendReq 7 (if write then ⟨.wr, 0, 0, addr, n, ((List.range 16).flatMap fun i => leBytes 4 (u.rd (R.DBG_INIT_DATA_DATA i))).take n, 0⟩ else ⟨.rd, 0, 0, addr, n, [], 0⟩)) :=
  ⟨3, false, 8, 0, _, dbgState, _, _, by decide +kernel, by decide +kernel, by decide +kernel, rfl, by decide +kernel, rfl, by decide +kernel, by decide +kernel, by decide +kernel, by decide +kernel, by decide +kernel, rfl⟩

theorem test_meets_DebugActions_29 : ∃ (ini : Ini) (s z : State) (x : Nat × Bool), (s.sessionElsewhere ini = false) ∧ (s.selfTest.undef = false) ∧ (1 ≤ s.dlevel .olicor) ∧ (s.tstate s.selThread = .halted) ∧ (x = s.selValue) ∧ (z = ({ s.quiet with captures := storeSet none (pairKey thrDataLo ini) (some (x.1 / 2 ^ 32)) s.captures } : State).wrb R.DBG_THR_SEL_TAG x.2) :=
  ⟨host, dbgState.setTstate 0 .halted, _, _, by decide +kernel, by decide +kernel, by decide +kernel, by decide +kernel, rfl, rfl⟩

theorem test_meets_DebugActions_30 : ∃ (tag : BitVec 8) (a : Answer) (s t : State), s.quiet.takeAnswer 7 tag.toNat a = some t ∧ a.code ≠ .ok :=
  ⟨3, ⟨.denied, [], 0⟩, { runState with outst := [⟨7, 3, 1, some ⟨.denied, [], 0⟩, false, false⟩] }, _, by rfl, by decide⟩

theorem test_meets_DebugActions_31 : ∃ (t : Fin 4) (s : State), (s.is1 (R.DBG_THR_CTL_PEND t.val) = true) ∧ (s.locked t.val = true) :=
  ⟨1, (dbgState.setThread 1 { lock := some ⟨0, [], 0, []⟩ }).wr (R.DBG_THR_CTL_PEND 1) 1, by decide +kernel⟩

theorem test_meets_DebugActions_32 : ∃ (n : Nat) (s : State), (s.is1 R.DBG_REG_STEP_BUSY = true) ∧ (n = s.rd R.DBG_REG_STEP_REGION) ∧ ((s.region n).stepLeft = 0) :=
  ⟨0, dbgState.wr R.DBG_REG_STEP_BUSY 1, by decide +kernel⟩

theorem test_meets_DebugActions_33 : ∃ (n : Nat) (s : State), (n = s.rd R.DBG_REG_STEP_REGION) ∧ (s.is1 R.DBG_REG_STEP_BUSY = false ∨ (s.region n).stepLeft ≠ 0) :=
  ⟨0, dbgState, by decide +kernel⟩

theorem test_meets_DebugActions_34 : ∃ (rq : Request) (s : State), (rq.acc.op = .nwr ∧ rq.acc.dstNode = traceNode ∧ rq.acc.data.length = rq.acc.size) ∧ (rq.acc.addr % 8 = 0 ∧ rq.acc.addr < 2048) ∧ (rq.acc.size = 1 ∨ rq.acc.size = 2 ∨ rq.acc.size = 4 ∨ rq.acc.size = 8) :=
  ⟨⟨host, 0, ⟨.nwr, 0, traceNode, 16, 1, [7], 0⟩⟩, runState, by decide +kernel⟩

theorem test_meets_DebugActions_35 : ∃ (tag : BitVec 8) (a : Answer) (bank : Nat) (s t : State), s.trace.sent = some bank ∧ s.quiet.takeAnswer traceNode tag.toNat a = some t ∧ a.code = .ok :=
  ⟨3, ⟨.ok, [], 0⟩, 5, { runState with trace := { sent := some 5 }, outst := [⟨traceNode, 3, 1, some ⟨.ok, [], 0⟩, false, false⟩] }, _, by decide, by rfl, by decide⟩

theorem test_meets_StepRunsTheFrontCommand_1 : ∃ (c : Instr) (rest : List Instr) (s : State), (s.pending = c :: rest) :=
  ⟨.idcode, [], { State.reset with pending := [.idcode] }, by decide +kernel⟩

theorem test_meets_StepRunsTheFrontCommand_2 : ∃ (c : Instr) (rest : List Instr) (s : State), (s.pending = c :: rest) :=
  ⟨.idcode, [], { State.reset with pending := [.idcode] }, by decide +kernel⟩

theorem test_meets_StepRunsTheFrontCommand_3 : ∃ (s : State), (s.pending = []) :=
  ⟨State.reset, by decide +kernel⟩

theorem test_meets_ResetLeaves_4 : ∃ (s : State) (pc : Nat), (s = State.reset) :=
  ⟨State.reset, 0, by decide +kernel⟩

theorem test_meets_EveryCommandHasAnEffect_1 : ∃ (c : Instr) (s : State), (c.wellFormed = true) :=
  ⟨.idcode, State.reset, by decide +kernel⟩

theorem test_meets_EveryCommandHasAnEffect_2 : ∃ (c : Instr) (s : State), (c.wellFormed = false) :=
  ⟨.bypass 1, State.reset, by decide +kernel⟩

theorem test_meets_CommandsBurnFusesOnly_1 : ∃ (c : Instr) (s t : State), exec c s = .next t := ⟨.lcAdvanced, State.reset, _, rfl⟩

theorem test_meets_CommandsBurnFusesOnly_2 : ∃ s t : State, step s = .next t := ⟨State.reset, _, rfl⟩

theorem test_meets_RegistersAndSequence_3 : ∃ (s : State) (t r : Nat) (v : Word) (b : Bool), (1 ≤ r) ∧ (r ≤ 31) :=
  ⟨State.reset, 0, 31, 7, true, by decide +kernel⟩

theorem test_meets_RegistersAndSequence_4 : ∃ (s : State) (t u r q : Nat) (v : Word) (b : Bool), (u ≠ t ∨ q ≠ r) :=
  ⟨State.reset, 0, 0, 1, 2, 7, true, by decide +kernel⟩

theorem test_meets_RegistersAndSequence_5 : ∃ (t : Fin 4) (i : Insn) (s : State), (s.standsAt t.val i .nop = true) :=
  ⟨0, Insn.of 0x100000000000000, threadAt .run 0x100000000000000, by decide +kernel⟩

theorem test_meets_IndexesOfInstructions_3 : ∃ (i : Insn) (r : Row), (r ∈ [(Row.pre), (Row.fill), (Row.swap)]) ∧ (i.reservedOk r = true) :=
  ⟨⟨0, 0, 0, 0, 0, 0, 1⟩, .pre, by decide +kernel⟩

theorem test_meets_IndexesOfInstructions_4 : ∃ (i : Insn) (r : Row), (r ∈ [(Row.stop), (Row.rcmdHold), (Row.rcmdRelease), (Row.rcmdCancel), (Row.wshad), (Row.mirrRegion)]) ∧ (i.reservedOk r = true) :=
  ⟨⟨0, 0, 0, 0, 0, 0, 1⟩, .stop, by decide +kernel⟩

theorem test_meets_IndexesOfInstructions_5 : ∃ (i : Insn) (r : Row), (r ∈ [(Row.cstart), (Row.cwait)]) ∧ (i.reservedOk r = true) :=
  ⟨⟨0, 0, 0, 0, 0, 0, 1⟩, .cstart, by decide +kernel⟩

theorem test_meets_IndexesOfInstructions_6 : ∃ (i : Insn) (r : Row), (r ∈ [(Row.evt), (Row.emit)]) ∧ (i.reservedOk r = true) :=
  ⟨⟨0, 0, 0, 0, 0, 0, 1⟩, .evt, by decide +kernel⟩

theorem test_meets_IndexesOfInstructions_7 : ∃ (i : Insn) (r : Row), (r ∈ [(Row.mirrBank)]) ∧ (i.reservedOk r = true) :=
  ⟨⟨0, 0, 0, 0, 0, 0, 1⟩, .mirrBank, by decide +kernel⟩

theorem test_meets_IndexesOfInstructions_8 : ∃ (i : Insn) (r : Row), (r ∈ [(Row.pwrOn), (Row.pwrOff)]) ∧ (i.reservedOk r = true) :=
  ⟨⟨0, 0, 0, 0, 0, 0, 1⟩, .pwrOn, by decide +kernel⟩

theorem test_meets_BranchesGoWhereTheyShould_1 : ∃ (t : Fin 4) (i : Insn) (s : State), (s.standsAt t.val i (.branch 0) = true) ∧ ((s.thread t.val).resolved = []) ∧ ((s.thread t.val).stepping = false ∧ (s.thread t.val).stopReq = false ∧ (s.thread t.val).haltReq = none ∧ (s.thread t.val).rstReq = false ∧ s.is1 (R.DBG_THR_CTL_PEND t.val) = false) ∧ (s.tag t.val i.ra = false) ∧ (s.tag t.val i.rb = false) :=
  ⟨0, Insn.of 0x2000044000000009, threadAt .run 0x2000044000000009, by decide +kernel⟩

theorem test_meets_BranchesGoWhereTheyShould_2 : ∃ (t : Fin 4) (i : Insn) (s : State), (s.standsAt t.val i (.branch 1) = true) ∧ ((s.thread t.val).resolved = []) ∧ ((s.thread t.val).stepping = false ∧ (s.thread t.val).stopReq = false ∧ (s.thread t.val).haltReq = none ∧ (s.thread t.val).rstReq = false ∧ s.is1 (R.DBG_THR_CTL_PEND t.val) = false) ∧ (s.tag t.val i.ra = false) ∧ (s.tag t.val i.rb = false) :=
  ⟨0, Insn.of 0x2100044000000009, threadAt .run 0x2100044000000009, by decide +kernel⟩

theorem test_meets_BranchesGoWhereTheyShould_3 : ∃ (t : Fin 4) (i : Insn) (s : State), (s.standsAt t.val i (.branch 2) = true) ∧ ((s.thread t.val).resolved = []) ∧ ((s.thread t.val).stepping = false ∧ (s.thread t.val).stopReq = false ∧ (s.thread t.val).haltReq = none ∧ (s.thread t.val).rstReq = false ∧ s.is1 (R.DBG_THR_CTL_PEND t.val) = false) ∧ (s.tag t.val i.ra = false) ∧ (s.tag t.val i.rb = false) :=
  ⟨0, Insn.of 0x2200044000000009, threadAt .run 0x2200044000000009, by decide +kernel⟩

theorem test_meets_BranchesGoWhereTheyShould_4 : ∃ (t : Fin 4) (i : Insn) (s : State), (s.standsAt t.val i (.branch 3) = true) ∧ ((s.thread t.val).resolved = []) ∧ ((s.thread t.val).stepping = false ∧ (s.thread t.val).stopReq = false ∧ (s.thread t.val).haltReq = none ∧ (s.thread t.val).rstReq = false ∧ s.is1 (R.DBG_THR_CTL_PEND t.val) = false) ∧ (s.tag t.val i.ra = false) ∧ (s.tag t.val i.rb = false) :=
  ⟨0, Insn.of 0x2300044000000009, threadAt .run 0x2300044000000009, by decide +kernel⟩

theorem test_meets_BranchesGoWhereTheyShould_5 : ∃ (t : Fin 4) (i : Insn) (s : State), (s.standsAt t.val i (.branch 4) = true) ∧ ((s.thread t.val).resolved = []) ∧ ((s.thread t.val).stepping = false ∧ (s.thread t.val).stopReq = false ∧ (s.thread t.val).haltReq = none ∧ (s.thread t.val).rstReq = false ∧ s.is1 (R.DBG_THR_CTL_PEND t.val) = false) ∧ (s.tag t.val i.ra = false) ∧ (s.tag t.val i.rb = false) :=
  ⟨0, Insn.of 0x2400044000000009, threadAt .run 0x2400044000000009, by decide +kernel⟩

theorem test_meets_BranchesGoWhereTheyShould_6 : ∃ (t : Fin 4) (i : Insn) (s : State), (s.standsAt t.val i (.branch 5) = true) ∧ ((s.thread t.val).resolved = []) ∧ ((s.thread t.val).stepping = false ∧ (s.thread t.val).stopReq = false ∧ (s.thread t.val).haltReq = none ∧ (s.thread t.val).rstReq = false ∧ s.is1 (R.DBG_THR_CTL_PEND t.val) = false) ∧ (s.tag t.val i.ra = false) ∧ (s.tag t.val i.rb = false) :=
  ⟨0, Insn.of 0x2500044000000009, threadAt .run 0x2500044000000009, by decide +kernel⟩

theorem test_meets_BranchesGoWhereTheyShould_7 : ∃ (t : Fin 4) (i : Insn) (s : State), (s.standsAt t.val i .bfs = true) ∧ ((s.thread t.val).resolved = []) ∧ ((s.thread t.val).stepping = false ∧ (s.thread t.val).stopReq = false ∧ (s.thread t.val).haltReq = none ∧ (s.thread t.val).rstReq = false ∧ s.is1 (R.DBG_THR_CTL_PEND t.val) = false) ∧ ((s.thread t.val).issued.find? (fun e => e.seq == (s.thread t.val).commits) = none) :=
  ⟨0, Insn.of 0x2600000000050009, threadAt .run 0x2600000000050009, by decide +kernel⟩

theorem test_meets_BranchesGoWhereTheyShould_8 : ∃ (t : Fin 4) (i : Insn) (s : State), (s.standsAt t.val i .bfc = true) ∧ ((s.thread t.val).resolved = []) ∧ ((s.thread t.val).stepping = false ∧ (s.thread t.val).stopReq = false ∧ (s.thread t.val).haltReq = none ∧ (s.thread t.val).rstReq = false ∧ s.is1 (R.DBG_THR_CTL_PEND t.val) = false) ∧ ((s.thread t.val).issued.find? (fun e => e.seq == (s.thread t.val).commits) = none) :=
  ⟨0, Insn.of 0x2700000000050009, threadAt .run 0x2700000000050009, by decide +kernel⟩

theorem test_meets_BranchesGoWhereTheyShould_9 : ∃ (t : Fin 4) (i : Insn) (e : BranchIssue) (s : State), (s.standsAt t.val i .bfs = true) ∧ ((s.thread t.val).resolved = []) ∧ ((s.thread t.val).stepping = false ∧ (s.thread t.val).stopReq = false ∧ (s.thread t.val).haltReq = none ∧ (s.thread t.val).rstReq = false ∧ s.is1 (R.DBG_THR_CTL_PEND t.val) = false) ∧ ((s.thread t.val).issued.find? (fun e => e.seq == (s.thread t.val).commits) = some e) :=
  ⟨0, Insn.of 0x2600000000050009, ⟨0, true, true⟩, (threadAt .run 0x2600000000050009).setThread 0 { issued := [⟨0, true, true⟩] }, by decide +kernel⟩

theorem test_meets_BranchesGoWhereTheyShould_10 : ∃ (t : Fin 4) (i : Insn) (e : BranchIssue) (s : State), (s.standsAt t.val i .bfc = true) ∧ ((s.thread t.val).resolved = []) ∧ ((s.thread t.val).stepping = false ∧ (s.thread t.val).stopReq = false ∧ (s.thread t.val).haltReq = none ∧ (s.thread t.val).rstReq = false ∧ s.is1 (R.DBG_THR_CTL_PEND t.val) = false) ∧ ((s.thread t.val).issued.find? (fun e => e.seq == (s.thread t.val).commits) = some e) :=
  ⟨0, Insn.of 0x2700000000050009, ⟨0, true, true⟩, (threadAt .run 0x2700000000050009).setThread 0 { issued := [⟨0, true, true⟩] }, by decide +kernel⟩

theorem test_meets_BranchesGoWhereTheyShould_11 : ∃ (t : Fin 4) (i : Insn) (r : Row) (c : Instr) (b : Bool) (s : State), ((c, r) ∈ [(.beq t, .branch 0), (.bne t, .branch 1), (.blt t, .branch 2), (.bge t, .branch 3), (.bltu t, .branch 4), (.bgeu t, .branch 5), (.bfs t, .bfs), (.bfc t, .bfc)]) ∧ (s.standsAt t.val i r = true) ∧ ((s.thread t.val).resolved.find? (fun e => e.1 == (s.thread t.val).commits) = some ((s.thread t.val).commits, b)) ∧ ((s.thread t.val).stepping = false ∧ (s.thread t.val).stopReq = false ∧ (s.thread t.val).haltReq = none ∧ (s.thread t.val).rstReq = false ∧ s.is1 (R.DBG_THR_CTL_PEND t.val) = false) ∧ (s.tag t.val i.ra = false) ∧ (s.tag t.val i.rb = false) :=
  ⟨0, Insn.of 0x2000044000000009, .branch 0, .beq 0, false, (threadAt .run 0x2000044000000009).setThread 0 { resolved := [(0, false)] }, by decide +kernel⟩

theorem test_meets_BranchesGoWhereTheyShould_12 : ∃ (t : Fin 4) (i : Insn) (s : State), (s.standsAt t.val i .jal = true) ∧ ((s.thread t.val).resolved = []) ∧ ((s.thread t.val).stepping = false ∧ (s.thread t.val).stopReq = false ∧ (s.thread t.val).haltReq = none ∧ (s.thread t.val).rstReq = false ∧ s.is1 (R.DBG_THR_CTL_PEND t.val) = false) :=
  ⟨0, Insn.of 0x2801800000000009, threadAt .run 0x2801800000000009, by decide +kernel⟩

theorem test_meets_BranchesGoWhereTheyShould_13 : ∃ (t : Fin 4) (i : Insn) (s : State), (s.standsAt t.val i .jalr = true) ∧ ((s.thread t.val).resolved = []) ∧ ((s.thread t.val).stepping = false ∧ (s.thread t.val).stopReq = false ∧ (s.thread t.val).haltReq = none ∧ (s.thread t.val).rstReq = false ∧ s.is1 (R.DBG_THR_CTL_PEND t.val) = false) ∧ (s.tag t.val i.ra = false) :=
  ⟨0, Insn.of 0x2901840000000009, threadAt .run 0x2901840000000009, by decide +kernel⟩

theorem test_meets_SliceComputes_1 : ∃ (c : SliceCfg) (x y : BitVec 27) (m : Int), m = (if c.xSigned then x.toInt else (x.toNat : Int)) * (if c.ySigned then y.toInt else (y.toNat : Int)) :=
  ⟨⟨true, false, 27, false⟩, 3, 4, _, rfl⟩

theorem test_meets_BlockRamLanes_1 : ∃ (w k a b row v : Nat), ((w, k) ∈ [(1, 6), (2, 5), (4, 4), (9, 2), (18, 1), (36, 0)]) ∧ (row < 2 ^ 36) ∧ (a / 2 ^ k = b / 2 ^ k) ∧ (a % 2 ^ k < 36 / w) :=
  ⟨9, 2, 4, 6, 77, 5, by decide +kernel⟩

theorem test_meets_BlockRamLanes_2 : ∃ (w k a row v : Nat) (en : BitVec 4), ((w, k) ∈ [(1, 6), (2, 5), (4, 4), (9, 2), (18, 1), (36, 0)]) ∧ (row < 2 ^ 36) ∧ (36 / w ≤ a % 2 ^ k) :=
  ⟨1, 6, 63, 77, 5, 15, by decide +kernel⟩

theorem test_meets_BlockRamLanes_3 : ∃ (w k a row v i : Nat) (en : BitVec 4), ((w, k) ∈ [(18, 1), (36, 0)]) ∧ (row < 2 ^ 36) ∧ (i < w) :=
  ⟨18, 1, 3, 77, 5, 17, 2, by decide +kernel⟩

theorem test_meets_BlockRamLanes_4 : ∃ (en : BitVec 8) (new old i b : Nat), (i < 8) ∧ (b < 9) :=
  ⟨5, 7, 0, 0, 3, by decide +kernel⟩

theorem test_meets_BlockRamLanes_7 : ∃ (d i : Nat), (i < 72) :=
  ⟨5, 71, by decide +kernel⟩

theorem test_meets_BlockRamLanes_8 : ∃ (d i j : Nat), (i < j) ∧ (j < 72) :=
  ⟨5, 0, 71, by decide +kernel⟩

theorem test_meets_ByteCodeDecodes_3 : ∃ (d : BitVec 8) (i j : Fin 13), (i < j) :=
  ⟨0, 0, 12, by decide +kernel⟩

theorem test_meets_StackGrades_2 : ∃ (o : OutMap), (o.dies = []) :=
  ⟨outMap [] [], by decide +kernel⟩

theorem test_meets_StackGrades_3 : ∃ (o : OutMap), (o.dies ≠ []) :=
  ⟨outMap [] [4], by decide +kernel⟩

theorem test_meets_StackGrades_4 : ∃ (s : State) (h : List Byte), (hfield h 0xC 1 < s.rd R.STACK_SUMMARY_STACK_GRADE) :=
  ⟨State.reset.wr R.STACK_SUMMARY_STACK_GRADE 2, [], by decide +kernel⟩

theorem test_meets_SnoopFilterAndCheckValues_2 : ∃ (bs : List Byte), (bs = [0x31, 0x32, 0x33, 0x34, 0x35, 0x36, 0x37, 0x38, 0x39]) :=
  ⟨[0x31, 0x32, 0x33, 0x34, 0x35, 0x36, 0x37, 0x38, 0x39], by decide +kernel⟩

theorem test_meets_FramesOfCommands_1 : ∃ (i : Insn) (r : Row) (s out : State), Instr.add 0 ∈ [Instr.nop 0, .add 0] ∧ s.standsAt 0 i r = true ∧
    ((s.thread 0).stepping = false ∧ (s.thread 0).stopReq = false ∧ (s.thread 0).haltReq = none ∧ (s.thread 0).rstReq = false ∧
      s.is1 (R.DBG_THR_CTL_PEND 0) = false) ∧ s.tag 0 i.ra = false ∧ s.tag 0 i.rb = false ∧ exec (.add 0) s = .next out :=
  ⟨Insn.of 0x1001844000000000, .alu false 0, threadAt .run 0x1001844000000000, _, by decide, by decide, by decide, by decide, by decide, rfl⟩

theorem test_meets_FramesOfCommands_2 : ∃ (c : Instr) (s out : State), c ∈ [.idcode, .highz, .dbg, .scan] ∧ exec c s = .next out := ⟨.highz, runState, _, by decide, rfl⟩

theorem test_meets_FramesOfCommands_3 : ∃ (c : Instr) (s out : State), c ∈ [.readStatus (.pins 0xFA), .dataOut ⟨0xDB, 0⟩ 1] ∧ exec c s = .next out := ⟨.dataOut ⟨0xDB, 0⟩ 1, runState, _, by decide, rfl⟩

theorem test_meets_FramesOfCommands_4 : ∃ (s out : State), exec (.planeLoadFrame 0 0 0 5) s = .next out := ⟨runState, _, rfl⟩

theorem test_meets_FramesOfCommands_5 : ∃ (rq : Request) (s out : State), (∀ d : Nat, s.is1 (R.PROT_FLIP_CTL_ARM d) = false) ∧ exec (.bankWrite rq 0) s = .next out :=
  ⟨⟨⟨1, 0x40⟩, 0, ⟨.wr, 1, 0x400, 0x40000000000, 1, [7], 0⟩⟩, State.reset, _, fun d => by simp [State.is1, State.rd, State.reset, storeGet, R.PROT_FLIP_CTL_ARM], rfl⟩

theorem test_meets_FramesOfCommands_6 : ∃ (s out : State), exec (.sdramWriteback 0) s = .next out := ⟨runState, _, rfl⟩


/-! ## Results that the spec states -/

/-- What holds of the next state. -/
def next (r : Host.Outcome State Fault Refusal) (p : State → Bool) : Bool :=
  match r with
  | .next t => p t
  | .fault _ | .refused _ => false

/-- 05_paeri_isa.md, "encoding an instruction": `addi s3, s3, 1`. -/
theorem test_word_addi : Insn.of 0x11018C0000000001 = ⟨0x11, 0, 3, 3, 0, 0, 1⟩ := by decide

/-- The same example: `swap 20, 1` names region 20 and plane 1. -/
theorem test_word_swap : (Insn.of 0x5200000000000114).row = some .swap ∧ (Insn.of 0x5200000000000114).regionIdx 0 = 20 ∧
    (Insn.of 0x5200000000000114).planeIdx 0 = 1 := by decide

/-- R166: a sum wraps modulo 2^64. -/
theorem test_alu_add : alu 0 0xFFFFFFFFFFFFFFFF 2 = 1 := by decide
/-- R166: an arithmetic right shift takes y[5:0] and fills with the sign. -/
theorem test_alu_sra : alu 7 0x8000000000000000 68 = 0xF800000000000000 := by decide
/-- R166: the smaller of two signed and of two unsigned values. -/
theorem test_alu_min : alu 12 0xFFFFFFFFFFFFFFFF 1 = 0xFFFFFFFFFFFFFFFF ∧ alu 14 0xFFFFFFFFFFFFFFFF 1 = 1 := by decide
/-- R167: CLZ and CTZ of 0 are 64. -/
theorem test_counts : clz 0 = 64 ∧ ctz 0 = 64 ∧ clz 1 = 63 ∧ ctz 8 = 3 ∧ popc 0xFF00 = 8 := by decide

/-- ADDI on a state: s3 counts, the thread goes on at word 1 (R158, R166). -/
theorem test_addi_step : next (exec (.addi 0) (threadAt .run 0x11018C0000000001)) (fun t => t.reg 0 3 == 1 && t.tpc 0 == 1) = true := by decide
/-- A word with a reserved field set faults with ILLEGAL (R140, R157). -/
theorem test_reserved_faults : next (exec (.nop 0) (threadAt .run 0x0100000000000001))
    (fun t => t.tstate 0 == .faulted && t.rd (R.SEQ_THR_STATUS_CAUSE 0) == 1) = true := by decide
/-- R143, R158: after the last word comes word 0. -/
theorem test_next_wraps : nextPc 32767 = 0 := by decide

/-- 09_larder_scratchpads.md, "where a line lives": f and the set of 0x012_3456_7880 under SALT 0xA5C72. -/
theorem test_line_hash : hashF 0xA5C72 0x01234567880 = 3717 ∧ hashSet 0x01234567880 = 1369 := by decide

/-- 09_larder_scratchpads.md, "an unaligned record through a rotating port": the NRD of offset 0x679_0A40 at node 0x952. -/
theorem test_rotating_port : bankAt ⟨.nrd, 1, 0x952, 0x6790A40, 64, [], 0⟩ = some ⟨700, true, 12, 0x10A40, false⟩ := by decide

/-- 10_stored_data_protection.md, "a bad byte travels": bank 700 holds 0x400_0578_0400. -/
theorem test_bank_of_address : (bankAt ⟨.wr, 1, 0, 0x40005780400, 128, [], 0⟩).map (fun x => (x.b, x.pos)) = some (700, 0x400) := by decide

/-- 11_sdram_encryption.md, "where a line lands": twelve channels; the line of 0x012_3456_7880 lies in channel 1 at 0x308_B914. -/
theorem test_line_channel : (State.reset.wr R.SD_CFG_POP 0xFFF).lineChannel (0x01234567880 / 128) = (1, 0x308B914) := by decide
/-- The same example: the stored tags of key IDs 3 and 6. -/
theorem test_key_tags : keyTag 3 = 0xFC03 ∧ keyTag 6 = 0xF906 := by decide

/-- 14_crc_snoop.md, "a known write as a self-check": CRC-32 of "123456789". -/
theorem test_crc32 : Alg.crc32.of [0x31, 0x32, 0x33, 0x34, 0x35, 0x36, 0x37, 0x38, 0x39] = 0xCBF43926 := by decide +kernel

/-- 21_register_index.md, "addressing one instance": BANK_STAT of bank 1,500 lies at 0x380_3B94, and R243 routes it to node 0xA0F. -/
theorem test_bank_stat : regAt 0x3803B94 = some (.BANK_STAT 1500) ∧ csrNode 0x3803B94 = some 0xA0F := by decide +kernel

/-- Bytes of a hexadecimal number of k bytes as a standard prints it, the first byte first. -/
def printed (k v : Nat) : List Nat := bytesBE k v

/-- FIPS-197, appendix C.3, AES-256. -/
theorem test_aes : aesEnc (printed 32 0x000102030405060708090a0b0c0d0e0f101112131415161718191a1b1c1d1e1f) (printed 16 0x00112233445566778899aabbccddeeff) =
    printed 16 0x8ea2b7ca516745bfeafc49904b496089 := by decide +kernel
/-- The same example, decrypted. -/
theorem test_aes_inverse : aesDec (printed 32 0x000102030405060708090a0b0c0d0e0f101112131415161718191a1b1c1d1e1f) (printed 16 0x8ea2b7ca516745bfeafc49904b496089) =
    printed 16 0x00112233445566778899aabbccddeeff := by decide +kernel
/-- Test case 14 of the GCM specification: a block of zeros under a key and IV of zeros. -/
theorem test_gcm : (let key := printed 32 0
    let iv := printed 12 0
    let c := (List.range 16).map (gcmStream key iv)
    (c, gcmTag key iv ((c.foldl (Ghash.byte (gcmSubkey key)) {}).pad (gcmSubkey key)) 0 16)) =
    (printed 16 0xcea7403d4d606b6e074ec5d3baf39d18, printed 16 0xd0d1c8a799996bf0265b98b5d48ab919) := by decide +kernel
/-- RFC 3394, 4.6: 256 bits of key data under a 256-bit key. -/
theorem test_key_wrap : kwWrap (natLE (printed 32 0x000102030405060708090A0B0C0D0E0F101112131415161718191A1B1C1D1E1F))
    (natLE (printed 32 0x00112233445566778899AABBCCDDEEFF000102030405060708090A0B0C0D0E0F)) =
    natLE (printed 40 0x28C9F404C4B810F4CBCCB35CFB87F8263F5786E2D80ED326CBC7F0E71A99F43BFB988B9B7A02DD21) := by decide +kernel
/-- SP 800-38B, AES-256, example 2: one block. -/
theorem test_cmac : cmac (printed 32 0x603deb1015ca71be2b73aef0857d77811f352c073b6108d72d9810a30914dff4) (printed 16 0x6bc1bee22e409f96e93d7e117393172a) =
    printed 16 0x28a7023f452e8f82bd4bf28d8c37c35c := by decide +kernel
/-- R332: D21.5 is 1010101010 under either disparity, D17.7 under negative disparity takes the alternate 3b/4b code, and K28.5 is 0011111010. -/
theorem test_line_code : (encodeSym false ⟨false, 0xB5⟩).map BitVec.reverse = some 0b1010101010 ∧
    (encodeSym false ⟨false, 0xF1⟩).map BitVec.reverse = some 0b1000110111 ∧ (encodeSym false symComma).map BitVec.reverse = some 0b0011111010 := by decide +kernel
/-- R87: flip-flop FFB of element 79 of the last tile lies in the last bit of the last state frame. -/
theorem test_flop_frame : flopFrame (flopIndex 1535 79 true) = (3899, 4095) := by decide
/-- R53: slice 32, the first of the second strip, takes CIN 0. -/
theorem test_cascade : State.cascade { State.reset with slices := [(31, { q := 7 })] } 0 32 = 0 ∧
    State.cascade { State.reset with slices := [(30, { q := 7 })] } 0 31 = 7 := by decide

/-- R4: the identification register. -/
theorem test_idcode : next (exec .idcode State.reset) (fun t => t.emits == [.jtagOut 32 0x10816753]) = true := by decide

/-- R42: the tile at (31, 95) of L2 belongs to region 40. -/
theorem test_tile_region : tileRegion 2 31 95 = 40 := by decide
/-- R51: in saturate mode a result above the range is the largest value, and OV is 1. -/
theorem test_slice_saturates : sliceResult true (2 ^ 63) = (0x7FFFFFFFFFFFFFFF, true) := by decide
/-- R58: the bytes with three bits or more, and an odd number of them, are the columns that the code of a ganged row may choose for its 64 data bits. -/
theorem test_ecc : dataColumns.length = 120 ∧ dataColumns.contains 7 = true ∧ dataColumns.contains 8 = false := by decide +kernel

/-- R11, R13: a register written and read back through the register bus. -/
theorem test_register_write : next (exec (.registerWrite host 0x2004028 4 ⟨0x00000302, false⟩) State.reset) (fun t =>
    t.emits == [.regAnswer host .ok 0] && t.rd (R.PROT_FLIP_CTL_UNIT 0) == 3) = true := by decide +kernel

/-- 12_lanes_links.md, "aligning a second device": S is 0 ns, here cycle 10,100; the own count puts the boundary after next 9 cycles after
the placement. -/
theorem test_marker_aligns : (fun t : State => (t.tickGen.ahead, t.rd R.TICK_ALIGN_STAT_LAST_D, t.is1 R.TICK_CTL_SHORT))
    (State.markerPlaces { State.reset.wr R.TICK_LAYOUT_PERIOD 3125 with tickGen := { tickStart := 10109 - 3125 } } 13225) =
      (some (13225, 0), 0xFFF7, false) := by decide +kernel

/-- 18_self_test_repair.md, "a start that tests everything": bank 901 is REPAIRED with 3 spares. -/
theorem test_bank_901 : next (execMbistComplete 3 ([⟨7, 3, 0, true⟩, ⟨30, 10, 0, true⟩, ⟨30, 11, 0, true⟩] ++
      (List.range 10).map fun i => ⟨40 + i, 5000, 0, true⟩) [] (State.reset.setEngine 3 ⟨some (4, 901), true, []⟩))
    (fun t => t.rd (R.TEST_STAT_RESULT 3) == 2 && t.rd (R.TEST_STAT_SPARES_USED 3) == 3) = true := by decide +kernel

/-- The same example: bank 17 FAILS. -/
theorem test_bank_17 : next (execMbistComplete 3 ((List.range 7).map fun i => ⟨10 * i, 100 + i, 0, true⟩) []
      (State.reset.setEngine 3 ⟨some (4, 17), true, []⟩)) (fun t => t.rd (R.TEST_STAT_RESULT 3) == 3) = true := by decide +kernel

/-- 08_olicor_network.md, "a thread reads across a link": window 3 sends the request to device 2. -/
theorem test_remote_window : (((((State.reset.wr R.NET_CFG_DEV_NUM 1).wr (R.REMOTE_WIN_EN 3) 1).wr (R.REMOTE_WIN_DEV 3) 2).wr
      (R.DEV_ROUTE_EN 2) 1).decodeAddr 17 { readPacket 0x98000012340 with dstDev := 1, addr := 1 * 2 ^ 44 + 0x98000012340 }).map
      (fun p => (p.dstDev, p.dstNode, p.addr)) = some (2, 0, 0x200000012340) := by decide +kernel

/-- 13_twin.md, "a line card fails over": a thread item is 304 bytes, and with nothing else the stream ends with END, 32 bytes. -/
theorem test_thread_item : (State.reset.stream 0 [0, 1] [] []).data.length = 2 * 304 + 32 := by decide +kernel

end Sys2Proof.Tests
end

section
/-! SUPPORT. One access of a register (00_scope.md, R10 to R16, R38, R300, R467): what the bus does with a read and with a write, and what each kind of
register makes of them. -/

namespace Sys2Proof.Machine

variable {s : State} {ini : Ini} {off size : Nat} {v : BitVec 32} {r other : Reg} {poison : Bool} {code : Resp}

/-! ## A read or a write by the register's place in a pair (R16) -/

theorem State.pairRead_single (hr : r.pair = none) : s.pairRead ini off r = (s, s.csrValue r) := by
  simp only [State.pairRead, hr]

/-- A read of _LO captures _HI. -/
theorem State.pairRead_lo (hr : r.pair = some (other, false)) : s.pairRead ini off r =
    ({ s with captures := storeSet none (pairKey off ini) (some (s.csrValue other)) s.captures }, s.csrValue r) := by
  simp only [State.pairRead, hr]

/-- A read of _HI returns the capture and uses it up. -/
theorem State.pairRead_hi {x : Nat} (hr : r.pair = some (other, true)) (hx : storeGet none (pairKey (off - 4) ini) s.captures = some x) :
    s.pairRead ini off r = ({ s with captures := storeSet none (pairKey (off - 4) ini) none s.captures }, x) := by
  simp only [State.pairRead, hr, hx]

theorem State.pairWrite_single (hr : r.pair = none) : s.pairWrite ini off r v = s.wrReg ini r v := by
  simp only [State.pairWrite, hr]

/-- A write of _LO is held. -/
theorem State.pairWrite_lo (hr : r.pair = some (other, false)) (hw : r.writable = true) :
    s.pairWrite ini off r v = s.holdLo off ini v.toNat := by
  simp only [State.pairWrite, hr, hw, Bool.not_true, Bool.false_eq_true, if_false]

/-- Both halves are stored, except in the instruction memory, whose _HI has a rule of its own (R142). -/
theorem State.commitPair_stored (lo : Reg) (hi : ∀ w, r ≠ .IMEM_HI w) : s.commitPair ini off lo r v =
    ((s.dropLo (off - 4) ini).storeReg lo (BitVec.ofNat 32 (s.pairLo (off - 4) ini (s.regValue lo)))).storeReg r v := by
  unfold State.commitPair
  split
  · exact absurd rfl (hi _)
  · rfl

/-- A write of _HI commits the pair. -/
theorem State.pairWrite_hi (hr : r.pair = some (other, true)) (hw : r.writable = true) :
    s.pairWrite ini off r v = s.commitPair ini off other r v := by
  simp only [State.pairWrite, hr, hw, Bool.not_true, Bool.false_eq_true, if_false, if_true]

/-! ## A write on the bus -/

/-- An access of 4 bytes at a multiple of 4 fits its register (R10). -/
theorem fits_of_aligned (ha : off % 4 = 0) : ¬ (4 ≠ 4 ∨ off % 4 ≠ 0) := by
  omega

theorem State.busWrite_misfit (h : size ≠ 4 ∨ off % 4 ≠ 0) : s.busWrite ini off size poison v = (s, .decode) := by
  simp only [State.busWrite, if_pos h]

theorem State.busWrite_turned (ha : off % 4 = 0) (ht : s.turnedAway off = some code) : s.busWrite ini off 4 poison v = (s, code) := by
  simp only [State.busWrite, if_neg (fits_of_aligned ha), ht]

/-- A poisoned word is not written, and logged with its address (R300). -/
theorem State.busWrite_poisoned (ha : off % 4 = 0) (ht : s.turnedAway off = none) :
    s.busWrite ini off 4 true v = (s.log .poisonConsumed (ini.node :: words64 (0x60000000000 + off)), .denied) := by
  simp only [State.busWrite, if_neg (fits_of_aligned ha), ht, if_true]

theorem State.busWrite_ok (ha : off % 4 = 0) (ht : s.turnedAway off = none) (hd : inDebug off = false) (hr : regAt off = some r)
    (hb : s.writeBarred ini off r v = false) : s.busWrite ini off 4 false v = (s.pairWrite ini off r v, .ok) := by
  simp only [State.busWrite, if_neg (fits_of_aligned ha), ht, hd, hr, hb, Bool.false_eq_true, if_false]

/-! ## A read on the bus -/

theorem State.busRead_turned (ha : off % 4 = 0) (ht : s.turnedAway off = some code) : s.busRead ini off 4 = (s, code, 0) := by
  simp only [State.busRead, if_neg (fits_of_aligned ha), ht]

theorem State.busRead_ok (ha : off % 4 = 0) (ht : s.turnedAway off = none) (hd : inDebug off = false) (hr : regAt off = some r)
    (hp : s.peeks ini = false) :
    s.busRead ini off 4 = ((s.pairRead ini off r).1.readEffect r, .ok, (s.pairRead ini off r).2) := by
  simp only [State.busRead, if_neg (fits_of_aligned ha), ht, hd, hr, hp, Bool.false_and, Bool.false_eq_true, if_false]

/-- A peek of the debug initiator has no side effect on the register (R13). -/
theorem State.busRead_peek (ha : off % 4 = 0) (ht : s.turnedAway off = none) (hd : inDebug off = false) (hr : regAt off = some r)
    (hp : s.peeks ini = true) : s.busRead ini off 4 = ((s.pairRead ini off r).1, .ok, (s.pairRead ini off r).2) := by
  simp only [State.busRead, if_neg (fits_of_aligned ha), ht, hd, hr, hp, Bool.false_and, Bool.false_eq_true, if_false, if_true]

/-! ## The answers -/

theorem State.writeAnswer_misfit (h : size ≠ 4 ∨ off % 4 ≠ 0) :
    s.quiet.writeAnswer ini off size poison v = s.quiet.emit (.regAnswer ini .decode 0) := by
  simp only [State.writeAnswer, State.busWrite_misfit h]

theorem State.writeAnswer_turned (ha : off % 4 = 0) (ht : s.turnedAway off = some code) :
    s.quiet.writeAnswer ini off 4 poison v = s.quiet.emit (.regAnswer ini code 0) := by
  simp only [State.writeAnswer, State.busWrite_turned (s := s.quiet) ha ht]

theorem State.writeAnswer_poisoned (ha : off % 4 = 0) (ht : s.turnedAway off = none) : s.quiet.writeAnswer ini off 4 true v =
    (s.quiet.log .poisonConsumed (ini.node :: words64 (0x60000000000 + off))).emit (.regAnswer ini .denied 0) := by
  simp only [State.writeAnswer, State.busWrite_poisoned (s := s.quiet) ha ht]

theorem State.writeAnswer_ok (ha : off % 4 = 0) (ht : s.turnedAway off = none) (hd : inDebug off = false) (hr : regAt off = some r)
    (hb : s.writeBarred ini off r v = false) : s.quiet.writeAnswer ini off 4 false v = (s.quiet.pairWrite ini off r v).okWrite ini := by
  simp only [State.writeAnswer, State.busWrite_ok (s := s.quiet) ha ht hd hr hb, State.okWrite]

theorem State.readAnswer_turned (ha : off % 4 = 0) (ht : s.turnedAway off = some code) :
    s.quiet.readAnswer ini off = s.quiet.emit (.regAnswer ini code 0) := by
  simp only [State.readAnswer, State.busRead_turned (s := s.quiet) ha ht]

theorem State.readAnswer_ok (ha : off % 4 = 0) (ht : s.turnedAway off = none) (hd : inDebug off = false) (hr : regAt off = some r)
    (hp : s.peeks ini = false) : s.quiet.readAnswer ini off =
      ((s.quiet.pairRead ini off r).1.readEffect r).emit (.regAnswer ini .ok (s.quiet.pairRead ini off r).2) := by
  simp only [State.readAnswer, State.busRead_ok (s := s.quiet) ha ht hd hr hp]

theorem State.readAnswer_peek (ha : off % 4 = 0) (ht : s.turnedAway off = none) (hd : inDebug off = false) (hr : regAt off = some r)
    (hp : s.peeks ini = true) : s.quiet.readAnswer ini off =
      (s.quiet.pairRead ini off r).1.emit (.regAnswer ini .ok (s.quiet.pairRead ini off r).2) := by
  simp only [State.readAnswer, State.busRead_peek (s := s.quiet) ha ht hd hr hp]

/-! ## The commands -/

variable {addr : BitVec 28} {value : WriteData}

theorem exec_registerWrite : exec (.registerWrite ini addr size value) s =
    .next (s.quiet.writeAnswer ini addr.toNat size value.poison value.word) := rfl
theorem exec_rsFieldRead : exec (.rsFieldRead ini addr) s = .next (s.quiet.readAnswer ini addr.toNat) := rfl
theorem exec_pairLoRead : exec (.pairLoRead ini addr) s = .next (s.quiet.readAnswer ini addr.toNat) := rfl
theorem exec_pairHiRead : exec (.pairHiRead ini addr) s = .next (s.quiet.readAnswer ini addr.toNat) := rfl
theorem exec_pairLoWrite : exec (.pairLoWrite ini addr value) s =
    .next (s.quiet.writeAnswer ini addr.toNat 4 value.poison value.word) := rfl
theorem exec_pairHiWrite : exec (.pairHiWrite ini addr value) s =
    .next (s.quiet.writeAnswer ini addr.toNat 4 value.poison value.word) := rfl

end Sys2Proof.Machine
end

section
/-! SUPPORT. Every command that is an access of one register (`State.access`) is a write or a read of that register at its endpoint. -/

namespace Sys2Proof.Machine

/-- The outcome is a write or a read of an initiator at an offset, with some effect. -/
def State.accessOutcome (s : State) (ini : Ini) (off : Nat) (o : Host.Outcome State Fault Refusal) : Prop :=
  (∃ f, o = .next (s.quiet.written ini off f)) ∨ ∃ v f, o = .next (s.quiet.shown ini off v f)

variable {s : State} {ini : Ini} {off : Nat}

theorem State.accessOutcome_written (f : State → State) : s.accessOutcome ini off (.next (s.quiet.written ini off f)) := .inl ⟨f, rfl⟩
theorem State.accessOutcome_shown (v : Nat) (f : State → State) : s.accessOutcome ini off (.next (s.quiet.shown ini off v f)) :=
  .inr ⟨v, f, rfl⟩

/-- An access that is turned away is answered with that code and does nothing else. -/
theorem State.accessOutcome_turned {o : Host.Outcome State Fault Refusal} {code : Resp} (h : s.accessOutcome ini off o)
    (ht : s.turnedAway off = some code) : o = .next (s.quiet.emit (.regAnswer ini code 0)) := by
  obtain ⟨f, rfl⟩ | ⟨v, f, rfl⟩ := h
  · rw [State.written_turned ht]
  · rw [State.shown_turned ht]

/-- A key command that is neither from inside nor barred writes KEY_CMD. -/
theorem State.keyWrite_written {v : BitVec 32} (hi : s.fromInside ini = false) (hk : s.keyBarred (R.KEY_CMD_CMD.of v) = false) :
    s.quiet.keyWrite ini v = s.quiet.written ini R.KEY_CMD_CMD.off fun s => wrKeyCmd s v := by
  simp only [State.keyWrite, show s.quiet.fromInside ini = false from hi, show s.quiet.keyBarred (R.KEY_CMD_CMD.of v) = false from hk,
    Bool.false_eq_true, if_false]

/-- A command of MKEY_CMD that is not barred writes it. -/
theorem State.mkeyWrite_written {k cmd : Nat} (hk : s.mkeyBarred cmd = false) :
    s.quiet.mkeyWrite ini k cmd = s.quiet.written ini R.MKEY_CMD_CMD.off fun s => wrMkeyCmd s (mkeyValue k cmd) := by
  simp only [State.mkeyWrite, show s.quiet.mkeyBarred cmd = false from hk, Bool.false_eq_true, if_false]

/-- The CMD field of the value of a key command is the command. -/
theorem keyValue_cmd (cmd parent slot : Nat) (h : cmd < 16) : R.KEY_CMD_CMD.of (keyValue cmd parent slot) = cmd := by
  simp only [Fld.of, R.KEY_CMD_CMD, keyValue, BitVec.toNat_ofNat, Nat.shiftRight_zero]
  omega

/-- What is given under a guard only. -/
theorem of_guarded {α : Type} {b : Bool} {x y : α} (h : (if b = true then some x else none) = some y) : b = true ∧ x = y := by
  simpa only [Option.ite_none_right_eq_some, Option.some.injEq] using h

/-- What is given except under a condition. -/
theorem of_unless {α : Type} {b : Bool} {x y : α} (h : (if (!b) = true then some x else none) = some y) : ¬ b = true ∧ x = y := by
  obtain ⟨hb, hx⟩ := of_guarded h
  exact ⟨by simpa only [Bool.not_eq_true', Bool.not_eq_true] using hb, hx⟩

theorem State.accessOutcome_keyWrite {cmd parent slot : Nat} (hc : cmd < 16)
    (h : (!(s.fromInside ini) && !(s.keyBarred cmd)) = true) :
    s.accessOutcome ini R.KEY_CMD_CMD.off (.next (s.quiet.keyWrite ini (keyValue cmd parent slot))) := by
  obtain ⟨hi, hk⟩ : s.fromInside ini = false ∧ s.keyBarred cmd = false := by
    simpa only [Bool.and_eq_true, Bool.not_eq_true'] using h
  rw [State.keyWrite_written hi (by rwa [keyValue_cmd cmd parent slot hc])]
  exact State.accessOutcome_written _

theorem State.accessOutcome_mkeyWrite {k cmd : Nat} (h : (!(s.mkeyBarred cmd)) = true) :
    s.accessOutcome ini R.MKEY_CMD_CMD.off (.next (s.quiet.mkeyWrite ini k cmd)) := by
  rw [State.mkeyWrite_written (by simpa only [Bool.not_eq_true'] using h)]
  exact State.accessOutcome_written _

/-- A command that is an access of one register is a write or a read at its endpoint, past the conditions that its own rule checks first. -/
theorem exec_accessOutcome (c : Instr) (h : s.access c = some (ini, off)) : s.accessOutcome ini off (exec c s) := by
  cases c
  case failInfoPop | snoopFifoPop =>
    cases h; exact State.accessOutcome_shown _ _
  case imgAbort | lcAdvance | alarmCfgWrite =>
    obtain ⟨hi, ⟨⟩⟩ := of_unless h
    exact .inl ⟨_, if_neg hi⟩
  case mbistStart | lbistGo =>
    obtain ⟨hb, ⟨⟩⟩ := of_unless h
    exact .inl ⟨_, congrArg _ (if_neg hb)⟩
  case portReadmit | routeTableWrite =>
    obtain ⟨hn, ⟨⟩⟩ := of_guarded h
    exact .inl ⟨_, if_pos hn⟩
  case releaseHold =>
    obtain ⟨hf, ⟨⟩⟩ := of_guarded h
    exact .inl ⟨_, congrArg _ (if_pos hf)⟩
  case loadPlain | loadWrapped | revoke | debugKeySet =>
    obtain ⟨hk, ⟨⟩⟩ := of_guarded h
    exact State.accessOutcome_keyWrite (by decide) hk
  case generate | setPlain =>
    obtain ⟨hk, ⟨⟩⟩ := of_guarded h
    exact State.accessOutcome_mkeyWrite hk
  case retire | sweep =>
    cases h; exact State.accessOutcome_mkeyWrite rfl
  -- The other accesses are writes under no condition; a command that is no access contradicts `h`.
  all_goals cases h <;> exact State.accessOutcome_written _

end Sys2Proof.Machine
end

section
/-! PROOF. Register accesses and pairs. -/

namespace Sys2Proof.Proofs

open Sys2Proof.Machine

/-- Settles O1: the six forms go through the bus's laws, and every other access through its endpoint's (`exec_accessOutcome`). -/
theorem registerBus : Obligations.RegisterBus := by
  unfold Obligations.RegisterBus
  refine ⟨?single, ?misfit, ?read, ?readLo, ?readHi, ?writeLo, ?writeHi, ?poisoned, ?peek, ?turned, ?access⟩
  case single =>
    intro ini off v s r ha hr hp ht hd hb
    rw [exec_registerWrite, State.writeAnswer_ok ha ht hd hr hb, State.pairWrite_single hp]
  case misfit =>
    intro ini off size v poison s h
    rw [exec_registerWrite, State.writeAnswer_misfit h]
  case read =>
    intro ini off s r ha hr hp ht hd hn
    rw [exec_rsFieldRead, State.readAnswer_ok ha ht hd hr hn, State.pairRead_single hp]
  case readLo =>
    intro ini off s r hi ha hr hp ht hd hn
    rw [exec_pairLoRead, State.readAnswer_ok ha ht hd hr hn, State.pairRead_lo hp]
    rfl
  case readHi =>
    intro ini off s r lo v ha hr hp ht hd hn hv
    rw [exec_pairHiRead, State.readAnswer_ok ha ht hd hr hn, State.pairRead_hi hp (s := s.quiet) hv]
    rfl
  case writeLo =>
    intro ini off v s r hi ha hr hp hw ht hd hb
    rw [exec_pairLoWrite, State.writeAnswer_ok ha ht hd hr hb, State.pairWrite_lo hp hw]
  case writeHi =>
    intro ini off v s r lo ha hr hp hw ht hd hb hi
    rw [exec_pairHiWrite, State.writeAnswer_ok ha ht hd hr hb, State.pairWrite_hi hp hw, State.commitPair_stored lo hi]
    rfl
  case poisoned =>
    intro ini off v s r ha hr ht hd
    refine ⟨?_, rfl, rfl⟩
    rw [exec_registerWrite, State.writeAnswer_poisoned ha ht]
  case peek =>
    intro ini off s r ha hr hp ht hd hn
    rw [exec_rsFieldRead, State.readAnswer_peek ha ht hd hr hn, State.pairRead_single hp]
  case turned =>
    intro ini off v poison code s ha ht
    simp only [exec_registerWrite, exec_rsFieldRead, exec_pairLoRead, exec_pairHiRead, exec_pairLoWrite, exec_pairHiWrite,
      State.writeAnswer_turned ha ht, State.readAnswer_turned ha ht, and_self]
  case access =>
    intro c ini off code s hc ht
    exact State.accessOutcome_turned (exec_accessOutcome c hc) ht

end Sys2Proof.Proofs
end

section
/-! PROOF. Check-value snoop units (14_crc_snoop.md, R377 to R384). -/

namespace Sys2Proof.Machine

variable {s : State} {u : Nat} {r : Reg} {v : BitVec 32}

/-- A disabled unit takes the write. -/
theorem wrSnoopCfg_disabled (h : s.is1 (R.SNOOP_CTL_EN u) = false) : wrSnoopCfg s u r v = s.storeReg r v := by
  simp only [wrSnoopCfg, h, Bool.false_eq_true, if_false]

/-- An enabled unit refuses the write and shows CFG_ERR. -/
theorem wrSnoopCfg_enabled (h : s.is1 (R.SNOOP_CTL_EN u) = true) : wrSnoopCfg s u r v = s.set1 (R.SNOOP_CTL_CFG_ERR u) := by
  simp only [wrSnoopCfg, h, if_true]

/-- The register that SNOOP_CTL_WRITE names by k, other than SNOOP_CTL itself. -/
def snoopCfgReg (u k : Nat) : Reg :=
  match k with
  | 1 => .SNOOP_N u
  | 2 => .SNOOP_FILT u
  | _ => .SNOOP_NMASK u

/-- A write to one of the registers beside SNOOP_CTL that is not turned away. -/
theorem exec_snoopCtlWrite_cfg (ini : Ini) (u : Fin 16) (k : Fin 4) (v : BitVec 32) (hk : k.val ≠ 0)
    (ht : s.turnedAway (R.SNOOP_CTL_EN u.val).off = none) :
    exec (.snoopCtlWrite ini u k v) s = .next ((wrSnoopCfg s.quiet u.val (snoopCfgReg u.val k.val) v).okWrite ini) := by
  refine congrArg _ ((State.written_ok ht).trans ?_)
  match k, hk with
  | 1, _ => rfl
  | 2, _ => rfl
  | 3, _ => rfl

/-- A packet at a port that carries traffic, while the units are not frozen, is seen by every unit attached there. -/
theorem exec_snoopPacket_port (node : BitVec 12) (dir : Bool) (p : Packet) (hf : s.snoopFrozen = false)
    (hr : s.sightRuns (.port node dir p) = true) :
    exec (.snoopPacket (.port node dir p)) s = .next ((List.range 16).foldl
      (fun t u => if t.snoopAt u 0 node.toNat dir then t.snoopAdd u p else t) s.quiet) :=
  if_neg (by rw [show s.quiet.snoopFrozen = false from hf, show s.quiet.sightRuns (.port node dir p) = true from hr]; decide)

/-- Nothing is at a point that carries none, or while the units are frozen. -/
theorem exec_snoopPacket_unseen (x : SnoopSight) (h : s.snoopFrozen = true ∨ s.sightRuns x = false) :
    exec (.snoopPacket x) s = .next s.quiet := by
  refine if_pos ?_
  obtain hf | hr := h
  · rw [show s.quiet.snoopFrozen = true from hf, Bool.true_or]
  · rw [show s.quiet.sightRuns x = false from hr, Bool.not_false, Bool.or_true]

/-- What a read of SNOOP_FIFO_VAL shows of the FIFO. -/
def snoopHead : List SnoopEntry → Nat
  | [] => 0
  | e :: _ => e.value

/-- A read of the FIFO shows its head and pops it. -/
theorem exec_snoopFifoPop_shown (ini : Ini) (u : Fin 16) : exec (.snoopFifoPop ini u) s =
    .next (s.quiet.shown ini (R.SNOOP_FIFO_VAL_VALUE u.val).off (snoopHead (s.snoop u.val).fifo)
      fun t => t.setSnoop u.val { s.snoop u.val with fifo := (s.snoop u.val).fifo.drop 1 }) := rfl

end Sys2Proof.Machine

namespace Sys2Proof.Proofs

open Sys2Proof.Machine

/-- Settles O32: a configuration write by EN, a FIFO read by the FIFO and the initiator, a packet by the point. -/
theorem snoopUnits : Obligations.SnoopUnits := by
  unfold Obligations.SnoopUnits
  refine ⟨?disabled, ?enabled, ?pop, ?peek, ?peekEmpty, ?popEmpty, ?packet, ?idle, ?frozen⟩
  case disabled =>
    intro ini u k v s hk he ht
    rw [exec_snoopCtlWrite_cfg ini u k v (by omega) ht, wrSnoopCfg_disabled (s := s.quiet) he, hk]
    rfl
  case enabled =>
    intro ini u k v s hk he ht
    rw [exec_snoopCtlWrite_cfg ini u k v (by omega) ht, wrSnoopCfg_enabled (s := s.quiet) he]
  case pop =>
    intro ini u e rest s hq hp ht
    rw [exec_snoopFifoPop_shown, State.shown_ok ht hp, hq]
    rfl
  case peek =>
    intro ini u e rest s hq hp ht
    rw [exec_snoopFifoPop_shown, State.shown_peek ht hp, hq]
    rfl
  case peekEmpty =>
    intro ini u s hq hp ht
    rw [exec_snoopFifoPop_shown, State.shown_peek ht hp, hq]
    rfl
  case popEmpty =>
    intro ini u s hq hp ht
    rw [exec_snoopFifoPop_shown, State.shown_ok ht hp, hq]
    rfl
  case packet =>
    intro node dir p s hf hr
    exact exec_snoopPacket_port node dir p hf hr
  case idle =>
    intro x s hr
    exact exec_snoopPacket_unseen x (.inr hr)
  case frozen =>
    intro x s hf
    exact exec_snoopPacket_unseen x (.inl hf)

end Sys2Proof.Proofs
end

section
/-! PROOF. The journal and the guestbook (16_start_journal_front_desk.md, R415 to R431). -/

namespace Sys2Proof.Machine

variable {s : State} {w : JWrite} {ws : List JWrite} {e : GbEntry} {es : List GbEntry}

/-- A read-only journal writes nothing (R420). -/
theorem State.jnlNext_readOnly (h : s.jnlRO = true) : s.jnlNext = s := by
  simp only [State.jnlNext, h, if_true]

/-- The oldest record is written where no event came before it. -/
theorem State.jnlNext_record (hro : s.jnlRO = false) (hq : s.jnl.queue = w :: ws) (hg : s.gbq = [] ∨ w.ahead = 0) :
    s.jnlNext = s.writeRecord w ws := by
  cases hgb : s.gbq with
  | nil => simp only [State.jnlNext, hro, hq, hgb, Bool.false_eq_true, if_false]
  | cons e es =>
    have ha : w.ahead = 0 := hg.resolve_left (by rw [hgb]; exact List.cons_ne_nil e es)
    simp only [State.jnlNext, hro, hq, hgb, ha, Bool.false_eq_true, if_false, if_true]

/-- An event that came before every waiting record is written first. -/
theorem State.jnlNext_event (hro : s.jnlRO = false) (hg : s.gbq = e :: es) (hq : ∀ x ∈ s.jnl.queue.head?, x.ahead ≠ 0) :
    s.jnlNext = s.writeEvent e es := by
  cases hj : s.jnl.queue with
  | nil => simp only [State.jnlNext, hro, hj, hg, Bool.false_eq_true, if_false]
  | cons w ws =>
    have ha : w.ahead ≠ 0 := hq w (by rw [hj]; rfl)
    simp only [State.jnlNext, hro, hj, hg, if_neg ha, Bool.false_eq_true, if_false]

/-- From step 4 on and out of reset the journal makes its next write (R415). -/
theorem exec_journalWriteComplete_on (h4 : 4 ≤ s.rd R.START_STAT_STEP) (hr : s.inReset = false) :
    exec .journalWriteComplete s = .next s.quiet.jnlNext :=
  if_neg (by
    rw [show s.quiet.rd R.START_STAT_STEP = s.rd R.START_STAT_STEP from rfl, show s.quiet.inReset = false from hr]
    simpa only [Bool.or_false, decide_eq_true_eq, Nat.not_lt] using h4)

/-- Before step 4 and in reset no record is written (R415). -/
theorem exec_journalWriteComplete_off (h : s.rd R.START_STAT_STEP < 4 ∨ s.inReset = true) :
    exec .journalWriteComplete s = .next s.quiet :=
  if_pos (by
    rw [show s.quiet.rd R.START_STAT_STEP = s.rd R.START_STAT_STEP from rfl, show s.quiet.inReset = s.inReset from rfl]
    simpa only [Bool.or_eq_true, decide_eq_true_eq] using h)

end Sys2Proof.Machine

namespace Sys2Proof.Proofs

open Sys2Proof.Machine

/-- Settles O36: by what the journal writes next, once it writes at all. -/
theorem journalWrites : Obligations.JournalWrites := by
  unfold Obligations.JournalWrites
  refine ⟨?record, ?event, ?eventFirst, ?nothing, ?alert⟩
  case record =>
    intro w ws s h4 hr hro hq hg
    rw [exec_journalWriteComplete_on h4 hr, State.jnlNext_record (s := s.quiet) hro hq hg]
  case event =>
    intro e es s h4 hr hro hg hq
    rw [exec_journalWriteComplete_on h4 hr, State.jnlNext_event (s := s.quiet) hro hg (by simp only [State.quiet_jnl, hq, List.head?_nil, Option.mem_def, reduceCtorEq, false_implies, implies_true])]
  case eventFirst =>
    intro e es w ws s h4 hr hro hg hq ha
    rw [exec_journalWriteComplete_on h4 hr, State.jnlNext_event (s := s.quiet) hro hg (by
      simpa only [State.quiet_jnl, hq, List.head?_cons, Option.mem_def, Option.some.injEq, forall_eq'] using ha)]
  case nothing =>
    intro s h
    by_cases hon : s.rd R.START_STAT_STEP < 4 ∨ s.inReset = true
    · exact exec_journalWriteComplete_off hon
    · obtain ⟨h4, hr⟩ := not_or.mp hon
      have hro : s.jnlRO = true := (h.resolve_left h4).resolve_left hr
      rw [exec_journalWriteComplete_on (Nat.not_lt.mp h4) (Bool.eq_false_iff.mpr hr), State.jnlNext_readOnly (s := s.quiet) hro]
  case alert =>
    intro ini s ht
    exact congrArg _ (State.written_ok ht)

end Sys2Proof.Proofs
end

section
/-! PROOF. Memory self-test, fuse repair and logic BIST (18_self_test_repair.md, R453 to R467). -/

namespace Sys2Proof.Machine

variable {s : State} {ini : Ini} {v : BitVec 32}

/-! ## Tests -/

/-- What a write to TEST_CMD_e asks for may begin (R455): its engine runs no test, and the unit is one that it tests, may test now and has been given. -/
def State.testReady (s : State) (e kind unit : Nat) : Bool :=
  (s.engine e).test.isNone && engineTests e kind unit && s.testPermitted kind && s.handedOver kind unit

section
variable {e : Nat} (ha : (R.TEST_CMD_ABORT e).of v = 0)
  (hk : 1 ≤ (R.TEST_CMD_KIND e).of v ∧ (R.TEST_CMD_KIND e).of v ≤ 4)
include ha hk

/-- A write to TEST_CMD_e that names a kind and no ABORT begins the test where all is ready. -/
theorem wrTestCmd_begins
    (hr : (s.storeReg (.TEST_CMD e) v).testReady e ((R.TEST_CMD_KIND e).of v) ((R.TEST_CMD_UNIT e).of v) = true) :
    wrTestCmd s e v = (s.storeReg (.TEST_CMD e) v).testBegins e ((R.TEST_CMD_KIND e).of v) ((R.TEST_CMD_UNIT e).of v) false := by
  have hkind : ¬ ((R.TEST_CMD_KIND e).of v = 0 ∨ 4 < (R.TEST_CMD_KIND e).of v) := by omega
  rw [State.testReady] at hr
  simp only [wrTestCmd, ha, if_neg hkind, hr, Nat.zero_ne_one, if_false, if_true]

/-- Otherwise it shows ERR. -/
theorem wrTestCmd_refused
    (hr : (s.storeReg (.TEST_CMD e) v).testReady e ((R.TEST_CMD_KIND e).of v) ((R.TEST_CMD_UNIT e).of v) = false) :
    wrTestCmd s e v = (s.storeReg (.TEST_CMD e) v).set1 (R.TEST_CMD_ERR e) := by
  have hkind : ¬ ((R.TEST_CMD_KIND e).of v = 0 ∨ 4 < (R.TEST_CMD_KIND e).of v) := by omega
  rw [State.testReady] at hr
  simp only [wrTestCmd, ha, if_neg hkind, hr, Nat.zero_ne_one, Bool.false_eq_true, if_false]

end

/-- A test that the life cycle does not bar is a write to TEST_CMD_e. -/
theorem exec_mbistStart_written {e : Fin 5} (hb : s.testBarred e.val v = false) (ht : s.turnedAway (R.TEST_CMD_KIND e.val).off = none) :
    exec (.mbistStart ini e v) s = .next ((wrTestCmd s.quiet e.val v).okWrite ini) :=
  congrArg _ ((if_neg (Bool.eq_false_iff.mp hb)).trans (State.written_ok ht))

/-- A test that the life cycle bars is DENIED and shows ERR (R440, R455). -/
theorem exec_mbistStart_barred {e : Fin 5} (hb : s.testBarred e.val v = true) :
    exec (.mbistStart ini e v) s = .next ((s.quiet.emit (.regAnswer ini .denied 0)).set1 (R.TEST_CMD_ERR e.val)) :=
  congrArg _ (if_pos hb)

/-- Without failing bits and failed spares a test ends with PASS (R458). -/
theorem State.testDone_pass (e kind unit : Nat) : s.testDone e kind unit [] [] =
    ((s.setEngine e { s.engine e with fifo := [] }).wr (R.TEST_STAT_FAIL_BITS e) 0).testEnds e kind unit 1 := rfl

/-- ABORT ends the test that the engine runs (R460). -/
theorem State.testAborted_of_test {e kind unit : Nat} (h : (s.engine e).test = some (kind, unit)) :
    s.testAborted e = (s.abortTest e).heldPower (testUnit kind unit) := by
  simp only [State.testAborted, h]

/-- A read of TEST_FAIL_INFO_e shows the oldest failing location and pops it. -/
theorem exec_failInfoPop_shown {e : Fin 5} : exec (.failInfoPop ini e) s =
    .next (s.quiet.shown ini (R.TEST_FAIL_INFO_VALID e.val).off (failInfo (s.engine e.val).fifo)
      fun t => t.setEngine e.val { s.engine e.val with fifo := (s.engine e.val).fifo.drop 1 }) := rfl

/-! ## Fuse repair, the stack channel test and logic BIST -/

/-- BURN of the host takes the standing soft repairs (R464). -/
theorem wrRepairCtl_burn (hv : R.REPAIR_CTL_BURN.of v = 1)
    (hg : ((s.w1cOnly .REPAIR_CTL v).lc == 0 || (s.w1cOnly .REPAIR_CTL v).lc == 5 || (s.w1cOnly .REPAIR_CTL v).is1 R.REPAIR_CTL_BUSY ||
      (s.w1cOnly .REPAIR_CTL v).jnlRO) = false)
    (hh : (s.w1cOnly .REPAIR_CTL v).hostNode ini = true) : wrRepairCtl s ini v =
      ({ s.w1cOnly .REPAIR_CTL v with
          selfTest := { (s.w1cOnly .REPAIR_CTL v).selfTest with burn := some (s.w1cOnly .REPAIR_CTL v).softRecs } } : State).set1
        R.REPAIR_CTL_BUSY := by
  simp only [wrRepairCtl, hv, hg, hh, Nat.one_ne_zero, Bool.not_true, Bool.or_self, Bool.false_eq_true, if_false]

/-- A change of NEXT goes into the journal while that can be written (R465). -/
theorem wrStackTest_change (hn : R.STACK_TEST_NEXT.of v ≠ (s.w1cOnly .STACK_TEST v).rd R.STACK_TEST_NEXT)
    (hro : (s.w1cOnly .STACK_TEST v).jnlRO = false) : wrStackTest s v =
      ((s.w1cOnly .STACK_TEST v).wr R.STACK_TEST_NEXT (R.STACK_TEST_NEXT.of v)).jnlAsk
        (.stackTest (R.STACK_TEST_NEXT.of v == 1)) false := by
  have hz : ¬ (R.STACK_TEST_NEXT.of v = 0 ∧ (s.w1cOnly .STACK_TEST v).rd R.STACK_TEST_NEXT = 0) := by
    rintro ⟨h1, h2⟩
    exact hn (h1.trans h2.symm)
  simp only [wrStackTest, if_neg hz, hro, if_neg hn, Bool.false_eq_true, if_false]

/-- GO before STARTED, with no run under way and no image loading, starts logic BIST of the layer (R467). -/
theorem wrLbistCtl_go (hv : R.LBIST_CTL_GO.of v = 1)
    (hg : ((s.storeReg .LBIST_CTL v).is1 R.LBIST_CTL_BUSY || (s.storeReg .LBIST_CTL v).is1 R.IMG_STATUS_STARTED ||
      (s.storeReg .LBIST_CTL v).imgBusy) = false) : wrLbistCtl s v =
      ({ s.storeReg .LBIST_CTL v with
          selfTest := { (s.storeReg .LBIST_CTL v).selfTest with lbist := some ((s.storeReg .LBIST_CTL v).rd R.LBIST_CTL_LAYER) } } : State).set1
        R.LBIST_CTL_BUSY := by
  simp only [wrLbistCtl, hv, hg, Nat.one_ne_zero, Bool.false_eq_true, if_false]

theorem exec_lbistGo_written {layer : BitVec 3} (hb : s.scanBarred = false) (ht : s.turnedAway R.LBIST_CTL_GO.off = none) :
    exec (.lbistGo ini layer) s = .next ((wrLbistCtl s.quiet (BitVec.ofNat 32 (8 + layer.toNat))).okWrite ini) :=
  congrArg _ ((if_neg (Bool.eq_false_iff.mp hb)).trans (State.written_ok ht))

end Sys2Proof.Machine

namespace Sys2Proof.Proofs

open Sys2Proof.Machine

/-- Settles O41: each command by the branch of its register's rule that the hypotheses choose. -/
theorem selfTest : Obligations.SelfTest := by
  unfold Obligations.SelfTest
  refine ⟨?begins, ?refused, ?barred, ?passes, ?aborts, ?pop, ?peek, ?popEmpty, ?peekEmpty, ?burn, ?burned, ?stack, ?lbist, ?lbistBarred,
    ?lbistEnds⟩
  case begins =>
    rintro ini e v _ _ s _ hb rfl ha ⟨rfl, rfl⟩ hk hready ht
    rw [exec_mbistStart_written hb ht, wrTestCmd_begins ha hk hready]
  case refused =>
    rintro ini e v _ _ s _ hb rfl ha ⟨rfl, rfl⟩ hk hready ht
    rw [exec_mbistStart_written hb ht, wrTestCmd_refused ha hk hready]
  case barred =>
    intro ini e v s hb
    exact exec_mbistStart_barred hb
  case passes =>
    rintro e kind unit s _ hq rfl
    change execMbistComplete e [] [] s = _
    simp only [execMbistComplete, show (s.quiet.engine e.val).test = some (kind, unit) from hq]
    exact congrArg _ (State.testDone_pass ..)
  case aborts =>
    intro ini e kind unit s hq _ ht
    refine congrArg _ ((State.written_ok ht).trans ?_)
    rw [State.testAborted_of_test (s := s.quiet) hq]
  case pop =>
    intro ini e f fs s hq hp ht
    rw [exec_failInfoPop_shown, State.shown_ok ht hp, hq]
    rfl
  case peek =>
    intro ini e f fs s hq hp ht
    rw [exec_failInfoPop_shown, State.shown_peek ht hp, hq]
    rfl
  case popEmpty =>
    intro ini e s hq hp ht
    rw [exec_failInfoPop_shown, State.shown_ok ht hp, hq]
    rfl
  case peekEmpty =>
    intro ini e s hq hp ht
    rw [exec_failInfoPop_shown, State.shown_peek ht hp, hq]
    rfl
  case burn =>
    rintro ini s _ rfl hg hh ht
    refine congrArg _ ((State.written_ok ht).trans ?_)
    rw [wrRepairCtl_burn (by decide) hg hh]
  case burned =>
    rintro rs s _ hq rfl
    change execBurnComplete s = _
    simp only [execBurnComplete, show s.quiet.selfTest.burn = some rs from hq]
    rfl
  case stack =>
    rintro ini v s _ rfl hn hro ht
    refine congrArg _ ((State.written_ok ht).trans ?_)
    rw [wrStackTest_change hn hro]
  case lbist =>
    rintro ini layer s _ _ hb rfl hv rfl hg ht
    rw [exec_lbistGo_written hb ht, wrLbistCtl_go hv hg]
  case lbistBarred =>
    intro ini layer s hb
    exact congrArg _ (if_pos hb)
  case lbistEnds =>
    intro pass l s hq
    change execLbistComplete pass s = _
    simp only [execLbistComplete, show s.quiet.selfTest.lbist = some l from hq]
    rfl

end Sys2Proof.Proofs
end

section
/-! PROOF. JTAG instructions and scans (19_debug_trace.md, R471, R472). -/

namespace Sys2Proof.Machine

variable {s : State}

/-- An instruction that is permitted takes effect. -/
theorem State.loadIr_allowed {code : Nat} : s.loadIr code true = s.setJtag { s.jtag with ir := code } := rfl

/-- An instruction that is not permitted is BYPASS. -/
theorem State.loadIr_barred {code : Nat} : s.loadIr code false = s.setJtag { s.jtag with ir := 0xFF } := rfl

theorem exec_extest_preloaded : exec (.extest none) s =
    .next (if s.pinsAllowed then s.quiet.loadIr 3 true else (s.quiet.loadIr 3 false).bypassOut) := rfl
theorem exec_highz : exec .highz s = .next (s.quiet.loadIr 4 s.pinsAllowed).bypassOut := rfl
theorem exec_clampInstr : exec .clampInstr s = .next (s.quiet.loadIr 5 s.pinsAllowed).bypassOut := rfl
theorem exec_scan : exec .scan s =
    .next (if s.scanBarred then (s.quiet.loadIr 0x20 false).bypassOut else s.quiet.loadIr 0x20 true) := rfl

theorem exec_samplePreload {levels : List (BitVec 32)} {d : BitVec 64} {v : BitVec 3136} (h : levels.length = 32) :
    exec (.samplePreload levels d v) s = .next ((s.quiet.setJtag { s.jtag with ir := 2, cells := v.toNat }).emit
      (.jtagOut 3136 (s.sampleCells levels d.toNat))) :=
  if_neg (Classical.not_not.mpr h)

/-- A scan under EXTEST captures the pads as EXTEST drives them and holds the value shifted in. -/
theorem exec_extest_scan {levels : List (BitVec 32)} {d : BitVec 64} {v : BitVec 3136} (h : levels.length = 32) (hp : s.pinsAllowed = true) :
    exec (.extest (some ⟨levels, d, v⟩)) s = .next ((s.quiet.setJtag { s.jtag with ir := 3, cells := v.toNat }).emit
      (.jtagOut 3136 ((s.setJtag { s.jtag with ir := 3 }).sampleCells levels d.toNat))) := by
  change execExtest (some ⟨levels, d, v⟩) s = _
  simp only [execExtest, h, show s.quiet.pinsAllowed = true from hp, ne_eq, not_true_eq_false, if_false, Bool.not_true,
    Bool.false_eq_true]
  rfl

/-! ## Scans of DBG (R472) -/

/-- What a scan that comes too early captures: free data, DONE 0 and the offset of the access in progress. -/
def State.earlyCapture (s : State) (off : Nat) : Nat := s.draw % 2 ^ 32 + off * 2 ^ 32 + s.draw / 2 ^ 55 % 2 ^ 8 * 2 ^ 55

/-- DONE of an early capture is 0. -/
theorem State.earlyCapture_done {off : Nat} (h : off < 2 ^ 23) : (s.earlyCapture off).testBit 63 = false := by
  apply Nat.testBit_lt_two_pow
  simp only [State.earlyCapture]
  omega

/-- An early capture shows the offset. -/
theorem State.earlyCapture_off {off : Nat} (h : off < 2 ^ 23) : s.earlyCapture off / 2 ^ 32 % 2 ^ 23 = off := by
  simp only [State.earlyCapture]
  omega

theorem exec_dbgAccess_early {v : BitVec 64} {off data : Nat} {code : Resp} (hir : s.jtag.ir = 16)
    (hp : s.jtag.prev = some (off, code, data)) :
    exec (.dbgAccess v true) s = .next ((s.quiet.emit (.jtagOut 64 (s.earlyCapture off))).drawn) := by
  change execDbgAccess v true s = _
  simp only [execDbgAccess, show s.quiet.jtag.ir = 16 from hir, show s.quiet.jtag.prev = some (off, code, data) from hp, ne_eq,
    not_true_eq_false, if_false, if_true]
  rfl

/-- Under another instruction the access register is not scanned. -/
theorem exec_dbgAccess_unselected {v : BitVec 64} {early : Bool} (hir : s.jtag.ir ≠ 16) : exec (.dbgAccess v early) s = .next s.quiet :=
  if_pos hir

theorem exec_dbgAccess_reports {v : BitVec 64} {off data : Nat} {code : Resp} (hir : s.jtag.ir = 16)
    (hp : s.jtag.prev = some (off, code, data)) :
    exec (.dbgAccess v false) s = .next ((s.quiet.emit (.jtagOut 64 (2 ^ 63 + code.code * 2 ^ 56 + off * 2 ^ 32 + data))).jtagAccess
      (v.toNat.testBit 63) (v.toNat / 2 ^ 32 % 2 ^ 23) (BitVec.ofNat 32 v.toNat)).1 := by
  change execDbgAccess v false s = _
  simp only [execDbgAccess, show s.quiet.jtag.ir = 16 from hir, show s.quiet.jtag.prev = some (off, code, data) from hp, ne_eq,
    not_true_eq_false, if_false, Bool.false_eq_true]

end Sys2Proof.Machine

namespace Sys2Proof.Proofs

open Sys2Proof.Machine

/-- Settles O42: each instruction by its condition, and the three outcomes of a DBG scan. -/
theorem jtagInstructions : Obligations.JtagInstructions := by
  unfold Obligations.JtagInstructions
  refine ⟨?idcode, ?sample, ?extest, ?extestBarred, ?highz, ?highzBarred, ?clamp, ?clampBarred, ?extestScan, ?dbg, ?scan, ?scanBarred,
    ?bypass, ?early, ?unselected, ?access⟩
  case idcode =>
    intro s
    rfl
  case sample =>
    intro levels d v s h
    exact exec_samplePreload h
  case extest =>
    intro s h
    rw [exec_extest_preloaded, if_pos h, State.loadIr_allowed]
    rfl
  case extestBarred =>
    intro s h
    rw [exec_extest_preloaded, if_neg (Bool.eq_false_iff.mp h), State.loadIr_barred]
    rfl
  case highz =>
    intro s h
    rw [exec_highz, h, State.loadIr_allowed]
    rfl
  case highzBarred =>
    intro s h
    rw [exec_highz, h, State.loadIr_barred]
    rfl
  case clamp =>
    intro s h
    rw [exec_clampInstr, h, State.loadIr_allowed]
    rfl
  case clampBarred =>
    intro s h
    rw [exec_clampInstr, h, State.loadIr_barred]
    rfl
  case extestScan =>
    intro levels d v s h hp
    exact exec_extest_scan h hp
  case dbg =>
    intro s
    rfl
  case scan =>
    intro s h
    rw [exec_scan, if_neg (Bool.eq_false_iff.mp h), State.loadIr_allowed]
    rfl
  case scanBarred =>
    intro s h
    rw [exec_scan, if_pos h, State.loadIr_barred]
    rfl
  case bypass =>
    intro code s h
    exact if_neg (Bool.eq_false_iff.mp h)
  case early =>
    intro v off code data s hir hp ho
    exact ⟨s.earlyCapture off, exec_dbgAccess_early hir hp, State.earlyCapture_done ho, State.earlyCapture_off ho⟩
  case unselected =>
    intro v early s hir
    exact exec_dbgAccess_unselected hir
  case access =>
    intro v off code data s hir hp
    exact exec_dbgAccess_reports hir hp

end Sys2Proof.Proofs
end

section
/-! PROOF. What a reset leaves (00_scope.md, R14; 05_paeri_isa.md, R137, R139, R144). -/

namespace Sys2Proof.Machine

/-- After reset every field reads its reset value (R14). -/
theorem State.reset_rd (f : Fld) : State.reset.rd f = f.rst % 2 ^ f.width := by
  rw [State.rd, show State.reset.csr = [] from rfl, storeGet, Nat.zero_xor]

/-- Where nothing is listed every register reads 0 (R137). -/
theorem regOf_empty (r : Nat) : regOf [] r = 0 := by
  simp only [regOf, storeGet, ite_self]

/-- Tags that are all 0 tag no register (R160). -/
theorem tagOf_zero (r : Nat) : tagOf 0 r = false := by
  rw [tagOf, show (0 : BitVec 32).toNat = 0 from rfl, Nat.zero_testBit, Bool.and_false]

theorem State.reset_thread (t : Nat) : State.reset.thread t = {} := rfl

end Sys2Proof.Machine

namespace Sys2Proof.Proofs

open Sys2Proof.Machine

/-- Settles O46: nothing is listed after reset, so that every part reads as its default and every field as its reset value. -/
theorem resetLeaves : Obligations.ResetLeaves := by
  unfold Obligations.ResetLeaves
  refine ⟨?registers, ?threads, ?regions, ?predictor, State.reset_rd⟩
  case registers =>
    intro t r
    rw [State.reg, State.tag, State.reset_thread]
    exact ⟨regOf_empty r, tagOf_zero r⟩
  case threads =>
    intro t
    rw [State.tstate, State.reset_rd]
    rfl
  case regions =>
    intro n
    rw [State.rstate, State.reset_rd]
    rfl
  case predictor =>
    rintro s pc rfl
    exact ⟨rfl, rfl⟩

end Sys2Proof.Proofs
end

section
/-! SUPPORT. The stack grade (01_stack.md, R40): what the summary shows of a map, and which maps are FULL. -/

namespace Sys2Proof.Machine

/-- All of n indexes are counted exactly when each has the property. -/
theorem countOf_eq_iff {n : Nat} {f : Nat → Bool} : countOf n f = n ↔ ∀ k < n, f k = true := by
  simpa only [countOf, List.length_range, List.mem_range] using List.length_filter_eq_length_iff (l := List.range n) (p := f)

/-- Every slice, bank and region is in service (R40). -/
def OutMap.full (o : OutMap) : Prop :=
  (∀ k < 128, o.slice k = true) ∧ (∀ b < 2048, o.bank b = true) ∧ (∀ n < 64, o.region n = true)

/-- With both memory dies in service the counts decide between FULL and TRIMMED. -/
theorem OutMap.grade_dies {o : OutMap} (h : o.dies = []) :
    o.grade = if countOf 128 o.slice = 128 ∧ countOf 2048 o.bank = 2048 ∧ countOf 64 o.region = 64 then 0 else 1 := by
  simp only [OutMap.grade, h, List.isEmpty_nil, Bool.not_true, Bool.false_eq_true, if_false]

/-- The counts are whole exactly when everything is in service. -/
theorem OutMap.full_iff {o : OutMap} :
    (countOf 128 o.slice = 128 ∧ countOf 2048 o.bank = 2048 ∧ countOf 64 o.region = 64) ↔ o.full := by
  simp only [countOf_eq_iff, OutMap.full]

theorem OutMap.grade_full {o : OutMap} (h : o.dies = []) (hf : o.full) : o.grade = 0 := by
  rw [OutMap.grade_dies h, if_pos (OutMap.full_iff.mpr hf)]

theorem OutMap.grade_trimmed {o : OutMap} (h : o.dies = []) (hf : ¬ o.full) : o.grade = 1 := by
  rw [OutMap.grade_dies h, if_neg (mt OutMap.full_iff.mp hf)]

/-- A memory die out makes the grade HALF. -/
theorem OutMap.grade_half {o : OutMap} (h : o.dies ≠ []) : o.grade = 2 := by
  simp only [OutMap.grade, List.isEmpty_eq_false_iff.mpr h, Bool.not_false, if_true]

/-- The grade is FULL, TRIMMED or HALF. -/
theorem OutMap.grade_lt (o : OutMap) : o.grade < 3 := by
  unfold OutMap.grade
  split
  · decide
  · split <;> decide

/-- STACK_GRADE shows the grade of the loaded map; what is written after it is other fields. -/
theorem State.showStack_grade (s : State) (rs : List RepRec) (o : OutMap) :
    (s.showStack rs o).rd R.STACK_SUMMARY_STACK_GRADE = o.grade := by
  have applied (u : State) : u.mapoutsApplied.rd R.STACK_SUMMARY_STACK_GRADE = u.rd R.STACK_SUMMARY_STACK_GRADE := rfl
  rw [State.showStack, applied, State.wrb, State.wr_rd_ne _ _ _ _ (by decide), State.wr_rd_ne _ _ _ _ (by decide),
    State.wr_rd_ne _ _ _ _ (by decide), State.wr_rd_ne _ _ _ _ (by decide), State.wr_rd_same]
  exact Nat.mod_eq_of_lt (Nat.lt_succ_of_lt o.grade_lt)

/-- An image of a better grade than the stack's does not meet the stack (R195). -/
theorem State.stackOk_of_grade {s : State} {h : List Byte} (hg : hfield h 0xC 1 < s.rd R.STACK_SUMMARY_STACK_GRADE) :
    s.stackOk h = false := by
  simp only [State.stackOk, decide_eq_false (Nat.not_le_of_lt hg), Bool.false_and]

end Sys2Proof.Machine

namespace Sys2Proof.Proofs

open Sys2Proof.Machine

/-- Settles O58: the grade by the map's cases, and the summary's field shows it whole. -/
theorem stackGrades : Obligations.StackGrades := by
  unfold Obligations.StackGrades
  refine ⟨?shown, fun o h => ⟨OutMap.grade_full h, OutMap.grade_trimmed h⟩, fun o => OutMap.grade_half, fun s h => State.stackOk_of_grade⟩
  case shown =>
    intro s rs o
    exact ⟨s.showStack_grade rs o, Nat.ne_of_lt o.grade_lt⟩

end Sys2Proof.Proofs
end

section
/-! SUPPORT. Flip-flops, slices, wires and isolation cells (02_fabric.md, R48 to R54, R63; 03_contexts.md, R87, R110 to R114): what an edge of a clock
leaves, and where a wire may start. -/

namespace Sys2Proof.Machine

/-! ## Bits gathered into a number -/

/-- The bits of a number that is summed from bits below w are those bits. -/
theorem testBit_sumOfBits (p : Nat → Bool) (w : Nat) :
    (List.range w).foldl (fun v b => v + if p b then 2 ^ b else 0) 0 < 2 ^ w ∧
    ∀ i < w, ((List.range w).foldl (fun v b => v + if p b then 2 ^ b else 0) 0).testBit i = p i := by
  induction w with
  | zero => exact ⟨Nat.one_pos, fun i hi => absurd hi (Nat.not_lt_zero i)⟩
  | succ w ih =>
    obtain ⟨hlt, hbits⟩ := ih
    rw [List.range_succ, List.foldl_append, List.foldl_cons, List.foldl_nil]
    generalize (List.range w).foldl (fun v b => v + if p b then 2 ^ b else 0) 0 = v at hlt hbits ⊢
    refine ⟨?_, fun i hi => ?_⟩
    · rw [Nat.pow_succ]
      split <;> omega
    · have hsum : (v + if p w then 2 ^ w else 0) = 2 ^ w * (p w).toNat + v := by
        cases p w <;> simp [Nat.add_comm]
      rw [hsum, Nat.testBit_two_pow_mul_add _ hlt]
      split
      · exact hbits i ‹_›
      · obtain rfl : i = w := by omega
        rw [Nat.sub_self]
        cases p i <;> rfl

/-! ## Flip-flops at an edge (R48, R87) -/

variable {s : State} {ticks : List Nat} {n i : Nat}

/-- The element that flip-flop i belongs to, as the active context sets it. -/
def State.flopElement (s : State) (n i : Nat) : ElementCfg := Config.element (s.active n) (i / 160) (i % 160 / 2)

/-- The control set of flip-flop i. -/
def State.flopCluster (s : State) (n i : Nat) : ClusterCfg := Config.cluster (s.active n) (i / 160) (i % 160 / 2 / 8)

/-- The clock enable that flip-flop i obeys, if any: true for the cluster's second. -/
def State.flopObeys (s : State) (n i : Nat) : Option Bool :=
  if i % 2 = 1 then (s.flopElement n i).enableB else (s.flopElement n i).enableA

/-- The level of the clock enable of flip-flop i. -/
def State.flopEnable (s : State) (n i : Nat) : Bool :=
  match s.flopObeys n i with
  | none => true
  | some second => s.routed n (i / 160) (if second then (s.flopCluster n i).enable1 else (s.flopCluster n i).enable0)

/-- What flip-flop i takes as data: its bypass input, or the output of its half of the lookup table. -/
def State.flopSource (s : State) (n i : Nat) : Src :=
  ((if i % 2 = 1 then (s.flopElement n i).bypassB else (s.flopElement n i).bypassA)).getD
    (if i % 2 = 1 then .lz (i % 160 / 2) else .ly (i % 160 / 2))

/-- Without an edge of its clock a flip-flop keeps its value. -/
theorem State.flopAfter_idle (h : (s.flopCluster n i).clock ∉ ticks) : s.flopAfter ticks n i = s.flop n i := by
  have hc : ticks.contains (s.flopCluster n i).clock = false := by simpa using h
  rw [State.flopAfter, if_pos (by rw [← State.flopCluster, hc]; rfl)]

/-- At an edge of its clock a flip-flop takes its next value. -/
theorem State.flopAfter_edge (h : (s.flopCluster n i).clock ∈ ticks) :
    s.flopAfter ticks n i = flopNext (s.flopEnable n i) (s.routed n (i / 160) (s.flopCluster n i).setReset)
      (if i % 2 = 1 then (s.flopElement n i).srB else (s.flopElement n i).srA)
      (s.routed n (i / 160) (s.flopSource n i)) (s.flop n i) := by
  have hc : ticks.contains (s.flopCluster n i).clock = true := by simpa using h
  rw [State.flopAfter, if_neg (by rw [← State.flopCluster, hc]; decide)]
  simp only [beq_iff_eq, State.flopSource, State.flopElement]
  generalize (if i % 2 = 1 then (Config.element (s.active n) (i / 160) (i % 160 / 2)).bypassB
    else (Config.element (s.active n) (i / 160) (i % 160 / 2)).bypassA) = bypass
  cases bypass <;> rfl

/-- Set-reset gives its value whatever the enable (log entry 257). -/
theorem State.flopAfter_setReset (h : (s.flopCluster n i).clock ∈ ticks)
    (hr : s.routed n (i / 160) (s.flopCluster n i).setReset = true) :
    s.flopAfter ticks n i = if i % 2 = 1 then (s.flopElement n i).srB else (s.flopElement n i).srA := by
  rw [State.flopAfter_edge h, flopNext, if_pos hr]

/-- Without its enable a flip-flop keeps its value. -/
theorem State.flopAfter_disabled (h : (s.flopCluster n i).clock ∈ ticks)
    (hr : s.routed n (i / 160) (s.flopCluster n i).setReset = false) (he : s.flopEnable n i = false) :
    s.flopAfter ticks n i = s.flop n i := by
  rw [State.flopAfter_edge h, flopNext, hr, he]
  rfl

/-- With its enable a flip-flop takes its data. -/
theorem State.flopAfter_enabled (h : (s.flopCluster n i).clock ∈ ticks)
    (hr : s.routed n (i / 160) (s.flopCluster n i).setReset = false) (he : s.flopEnable n i = true) :
    s.flopAfter ticks n i = s.routed n (i / 160) (s.flopSource n i) := by
  rw [State.flopAfter_edge h, flopNext, hr, he]
  rfl

theorem State.flopEnable_free (h : s.flopObeys n i = none) : s.flopEnable n i = true := by
  simp only [State.flopEnable, h]

theorem State.flopEnable_of {second : Bool} (h : s.flopObeys n i = some second) : s.flopEnable n i =
    s.routed n (i / 160) (if second then (s.flopCluster n i).enable1 else (s.flopCluster n i).enable0) := by
  simp only [State.flopEnable, h]

/-! ## The state frames after an edge (R87) -/

/-- The sum of a state frame's bits holds each flip-flop's next value. -/
theorem State.stateAfter_testBit {f b : Nat} (h : b < 4096) : (s.stateAfter ticks n f).testBit b = s.flopAfter ticks n (4096 * f + b) :=
  (testBit_sumOfBits (fun b => s.flopAfter ticks n (4096 * f + b)) 4096).2 b h

/-- State frame f of a latch set of region n takes its data. -/
def State.setStateFrame (n : Nat) (set : Bool) (data : Nat → Nat) (s : State) (f : Nat) : State :=
  let k := latchKey n set (3840 + f)
  { s with latches := storeSet Frame.erased k { storeGet Frame.erased k s.latches with data := data f } s.latches }

theorem State.flopsEdge_eq (o s : State) (h : ticks ≠ []) :
    State.flopsEdge o ticks n s = (List.range 60).foldl (State.setStateFrame n (o.region n).sel (o.stateAfter ticks n)) s :=
  if_neg (by simpa using h)

variable {set : Bool} {data : Nat → Nat}

theorem State.setStateFrame_csr (f : Nat) : (State.setStateFrame n set data s f).csr = s.csr := rfl
theorem State.setStateFrame_regions (f : Nat) : (State.setStateFrame n set data s f).regions = s.regions := rfl

/-- Of the state frames, the one that is set takes its data. -/
theorem State.setStateFrame_data (f g : Nat) : ((State.setStateFrame n set data s f).latch n set (3840 + g)).data =
    if g = f then data f else (s.latch n set (3840 + g)).data := by
  have hk : latchKey n set (3840 + g) = latchKey n set (3840 + f) ↔ g = f := by
    unfold latchKey; omega
  simp only [State.setStateFrame, State.latch, Laws.get_set, hk]
  split <;> rfl

/-- Setting the first w state frames sets each of them, and no field of a register or region. -/
theorem State.setStateFrames (s : State) (n : Nat) (set : Bool) (data : Nat → Nat) (w : Nat) :
    ((List.range w).foldl (State.setStateFrame n set data) s).csr = s.csr ∧
    ((List.range w).foldl (State.setStateFrame n set data) s).regions = s.regions ∧
    ∀ f < w, (((List.range w).foldl (State.setStateFrame n set data) s).latch n set (3840 + f)).data = data f := by
  induction w with
  | zero => exact ⟨rfl, rfl, fun f hf => absurd hf (Nat.not_lt_zero f)⟩
  | succ w ih =>
    obtain ⟨hcsr, hregions, hdata⟩ := ih
    rw [List.range_succ, List.foldl_append, List.foldl_cons, List.foldl_nil]
    refine ⟨(State.setStateFrame_csr w).trans hcsr, (State.setStateFrame_regions w).trans hregions, fun f hf => ?_⟩
    rw [State.setStateFrame_data]
    split
    · rw [‹f = w›]
    · exact hdata f (by omega)

/-- After an edge the state frames of the active context hold every flip-flop's next value. -/
theorem State.flopsEdge_flop (ht : ticks ≠ []) (hi : i < 245760) (ha : s.is1 (R.REGION_STATUS_HAS_ACTIVE n) = true) :
    (State.flopsEdge s ticks n s).flop n i = s.flopAfter ticks n i := by
  obtain ⟨hcsr, hregions, hdata⟩ := s.setStateFrames n (s.region n).sel (s.stateAfter ticks n) 60
  have hactive : (State.flopsEdge s ticks n s).is1 (R.REGION_STATUS_HAS_ACTIVE n) = true := by
    rwa [State.is1, State.flopsEdge_eq s s ht, State.rd_of_csr s _ _ hcsr]
  have hregion : (State.flopsEdge s ticks n s).region n = s.region n := by
    rw [State.region, State.flopsEdge_eq s s ht, hregions, State.region]
  have hframe : ((State.flopsEdge s ticks n s).latch n (s.region n).sel (3840 + i / 4096)).data = s.stateAfter ticks n (i / 4096) := by
    rw [State.flopsEdge_eq s s ht, hdata _ (by omega)]
  rw [State.flop, hactive, hregion, flopFrame, hframe, State.stateAfter_testBit (Nat.mod_lt _ (by decide)), Nat.div_add_mod, Bool.true_and]

/-! ## Slices (R50 to R54) -/

/-- The size of an operand of 27 bits. -/
theorem natAbs_operand27_le (signed : Bool) (v : BitVec 27) : (operand27 signed v).natAbs ≤ if signed then 2 ^ 26 else 2 ^ 27 - 1 := by
  cases signed
  · have := v.isLt
    simp only [operand27, Bool.false_eq_true, if_false, Int.natAbs_natCast]
    omega
  · have := v.le_toInt
    have := v.toInt_lt
    simp only [operand27, if_true]
    omega

/-- The product's size by the signs of its operands: 54 bits hold it. -/
theorem sliceProduct_bounds (c : SliceCfg) (x y : BitVec 27) :
    if c.xSigned || c.ySigned then -(2 ^ 53) ≤ sliceProduct c x y ∧ sliceProduct c x y < 2 ^ 53
    else 0 ≤ sliceProduct c x y ∧ sliceProduct c x y < 2 ^ 54 := by
  have hp : (sliceProduct c x y).natAbs ≤ _ :=
    Nat.le_trans (Nat.le_of_eq (Int.natAbs_mul _ _)) (Nat.mul_le_mul (natAbs_operand27_le c.xSigned x) (natAbs_operand27_le c.ySigned y))
  obtain ⟨xs, ys, sh, sat⟩ := c
  cases xs <;> cases ys
  case false.false =>
    refine ⟨Int.mul_nonneg (Int.natCast_nonneg _) (Int.natCast_nonneg _), ?_⟩
    simp only [Bool.false_eq_true, if_false] at hp
    omega
  all_goals
    simp only [Bool.false_eq_true, if_false, if_true, Bool.or_true, Bool.or_false] at hp ⊢
    omega

/-- An M register loses nothing of the product. -/
theorem productValue_product (c : SliceCfg) (x y : BitVec 27) : productValue c (BitVec.ofInt 54 (sliceProduct c x y)) = sliceProduct c x y := by
  have h := sliceProduct_bounds c x y
  unfold productValue
  split
  · rw [if_pos ‹_›] at h
    rw [BitVec.toInt_ofInt, Int.bmod_eq_of_le (by omega) (by omega)]
  · rw [if_neg ‹_›] at h
    rw [BitVec.toNat_ofInt, Int.toNat_of_nonneg (by omega), Int.emod_eq_of_lt h.1 (by exact_mod_cast h.2)]

/-- Where nothing is added and the result wraps, three edges with X, Y and M in use bring the product of the first edge's operands to Q (R52). -/
theorem sliceEdge_product {u : SliceUse} (hx : u.useX = true) (hy : u.useY = true) (hm : u.useM = true) (hs : u.cfg.saturate = false)
    (x y x1 x2 y1 y2 : BitVec 27) (w w1 w2 cin cin1 cin2 : Word) (r : SliceRegs) :
    (sliceEdge u 0 false x2 y2 w2 cin2 (sliceEdge u 0 false x1 y1 w1 cin1 (sliceEdge u 0 false x y w cin r))).q =
      BitVec.ofInt 64 (sliceProduct u.cfg x y) := by
  have wraps (v : Int) : (sliceResult false v).1 = BitVec.ofInt 64 v := by
    unfold sliceResult
    split <;> rfl
  have sum (m : Int) (w cin q : Word) : sliceSum u.cfg 0 false m w cin q = m := Int.zero_add m
  simp only [sliceEdge, hx, hy, hm, hs, if_true, wraps, sum, productValue_product]

/-- A cascade starts at 0 in each strip and then takes the result of the slice below (R53). -/
theorem State.cascade_start (s : State) (n j : Nat) : s.cascade n (32 * j) = 0 := by
  rw [State.cascade, if_pos (Nat.mul_mod_right 32 j)]

theorem State.cascade_next (s : State) (n : Nat) {j : Nat} (h : j % 32 ≠ 31) : s.cascade n (j + 1) = (s.slicer n j).q := by
  rw [State.cascade, if_neg (by omega), Nat.add_sub_cancel]

/-- Clearing a region's slices clears its slices and no other region's (R54). -/
theorem State.clearSlices_slicer (s : State) (n m : Nat) {j : Nat} (hj : j < 256) :
    (s.clearSlices n).slicer m j = if m = n then {} else s.slicer m j := by
  rw [State.clearSlices, State.slicer]
  split
  · exact Laws.get_clear_in _ _ (by omega)
  · exact Laws.get_clear_out _ _ (by omega)

/-- It clears the region's block RAM ports too, and no other region's (R59). -/
theorem State.clearSlices_ramPort (s : State) (n m : Nat) {k : Nat} (b : Bool) (hk : k < 192) :
    (s.clearSlices n).ramPort m k b = if m = n then {} else s.ramPort m k b := by
  have := Bool.toNat_lt b
  rw [State.clearSlices, State.ramPort]
  split
  · exact Laws.get_clear_in _ _ (by omega)
  · exact Laws.get_clear_out _ _ (by omega)

/-! ## Wires (R63) -/

/-- A place on a die lies in one of the die's regions, at one of its tiles. -/
theorem tile_on_die {n x y : Nat} (hn : n < 64) (hx : x < 256) (hy : y < 192) :
    tileRegion (1 + n / 32) x y / 32 = n / 32 ∧ tileRegion (1 + n / 32) x y < 64 ∧ localTile x y < 1536 := by
  unfold tileRegion localTile
  omega

/-- A tile's place on its die (R42). -/
theorem tileX_lt (n t : Nat) : tileX n t < 256 := by
  unfold tileX; omega

theorem tileY_lt (n : Nat) {t : Nat} (h : t < 1536) : tileY n t < 192 := by
  unfold tileY; omega

/-- A wire that starts anywhere starts on the die on which it ends. -/
theorem wireStart_on_die {n t m q : Nat} {d : Dir} {span : Nat} (hn : n < 64) (ht : t < 1536) (h : wireStart n t d span = some (m, q)) :
    m / 32 = n / 32 ∧ m < 64 ∧ q < 1536 := by
  have hx := tileX_lt n t
  have hy := tileY_lt n ht
  cases d <;>
    · simp only [wireStart] at h
      split at h
      · cases h
      · cases h
        exact tile_on_die hn (by omega) (by omega)

/-! ## Isolation cells (R110 to R114) -/

variable {m g : Nat}

/-- A SYNC2 cell shows its second stage. -/
theorem State.cellOutput_sync2 (live : Nat) (h : (s.cellCfg n g).sync2 = true) : s.cellOutput n g live = (s.cell n g).syn2 := by
  rw [State.cellOutput, if_pos h]

/-- A clamped DIRECT cell shows what its mode presents. -/
theorem State.cellOutput_clamped (live : Nat) (hs : groupSender n g = some m) (hd : (s.cellCfg n g).sync2 = false)
    (hc : s.clamped n m = true) : s.cellOutput n g live =
      clampPresents (s.cellCfg n g).mode 32 (s.cell n g).last live (s.passes m (outboundGroup g)) := by
  simp only [State.cellOutput, State.cellInput, hs, hd, hc, Bool.true_or, Bool.false_eq_true, if_false, if_true]

end Sys2Proof.Machine
end

section
/-! SUPPORT. Face channels (01_stack.md, R21 to R23) and the block RAM window (02_fabric.md, R57, R61, R62; R300): what each command does by its
cases. -/

namespace Sys2Proof.Machine

variable {s : State}

/-! ## FACE_REFRESH -/

section

variable {x : Fin 256} {y : Fin 192} {c : Fin 256} {change : Bool}

/-- A sender whose domain is off sends nothing. -/
theorem exec_faceRefresh_off (h : s.rstate (faceSender x.val y.val c.val) = .off) : exec (.faceRefresh x y c change) s = .next s.quiet :=
  if_pos h

/-- A computed level change is sent in place of the refresh. -/
theorem exec_faceRefresh_change (h : s.rstate (faceSender x.val y.val c.val) ≠ .off)
    (hc : s.computes (faceSender x.val y.val c.val) = true) (hd : s.faceDriven x.val y.val c.val ≠ (s.face x.val y.val c.val).sent) :
    exec (.faceRefresh x y c true) s = .next (s.quiet.facePulse x.val y.val c.val (s.faceDriven x.val y.val c.val)) :=
  (if_neg h).trans (if_pos (by
    rw [show s.quiet.computes _ = true from hc, Bool.true_and, Bool.true_and]
    exact decide_eq_true hd))

/-- Without a level change a refresh is sent when it has fallen due. -/
theorem exec_faceRefresh_same (h : s.rstate (faceSender x.val y.val c.val) ≠ .off)
    (hc : change = false ∨ s.faceDriven x.val y.val c.val = (s.face x.val y.val c.val).sent) :
    exec (.faceRefresh x y c change) s =
      if (s.face x.val y.val c.val).due ≤ s.now ∨ (s.face x.val y.val c.val).left = 0
      then .next (s.quiet.facePulse x.val y.val c.val (s.face x.val y.val c.val).sent) else .next s.quiet :=
  (if_neg h).trans (if_neg (by
    obtain rfl | hd := hc
    · rw [Bool.false_and, Bool.false_and]; decide
    · rw [decide_eq_false (show ¬ s.quiet.faceDriven _ _ _ ≠ (s.quiet.face _ _ _).sent from not_not_intro hd), Bool.and_false]; decide))

end

/-! ## BRAM_WINDOW_ACCESS -/

/-- An access of a size, alignment and region that fit, whose blocks are not under test, passes the window's checks. -/
theorem State.bramCheck_ok {a : Access} {off : Nat} (ho : bramOffset a = some off)
    (hz : a.size = 8 ∨ a.size = 16 ∨ a.size = 32 ∨ a.size = 64 ∨ a.size = 128) (ha : a.addr % a.size = 0) (hn : ¬ 64 ≤ off / 0x180000)
    (hu : s.unusable (off / 0x180000) = false)
    (ht : s.underTest.contains (.bram (off / 0x180000)) = false ∧ s.keptByTest.contains (.bram (off / 0x180000)) = false) :
    s.bramCheck a = .inr off := by
  simp only [State.bramCheck, ho, hz, ha, hn, hu, ht.1, ht.2, not_true_eq_false, ne_eq, Bool.false_eq_true, or_self, Bool.or_self, if_false]

/-- A checked access of a block in a domain that is on is queued at its first row. -/
theorem exec_bramWindowAccess_on {rq : Request} {off : Nat} (hw : isWrite rq.acc.op = true → rq.acc.data.length = rq.acc.size)
    (hc : s.bramCheck rq.acc = .inr off) (hd : s.dstate (off / 0x180000) = .on) :
    exec (.bramWindowAccess rq) s = .next (s.quiet.bramBegin rq off) := by
  have hform : ¬ (isWrite rq.acc.op && decide (rq.acc.data.length ≠ rq.acc.size)) = true := by
    simpa using hw
  have hmet (station port : Nat) : s.quiet.meetDomain (off / 0x180000) station port rq = some (s.quiet, true) := by
    simp only [State.meetDomain, show s.quiet.dstate (off / 0x180000) = .on from hd]
  refine (if_neg hform).trans ?_
  simp only [show s.quiet.bramCheck rq.acc = .inr off from hc, hmet]

/-! ## BRAM_WINDOW_ROW -/

/-- What a window access of region n does with its next row at time p, and the bytes that it has got. -/
def State.windowRow (s : State) (n : Nat) (wa : WinAcc) (p : Nat × Nat) : State × List Byte :=
  let a := wa.rq.acc
  let i := if isWrite a.op then a.size / 8 - wa.left else wa.got.length / 8
  if isWrite a.op then
    if (a.poison >>> (accessWord a (8 * i))) % 2 = 1 then
      let u := s.drawn.bump (R.BRAM_ECC_PDROP n)
      (if s.rd (R.BRAM_ECC_PDROP n) = 0 then u.log .poisonConsumed ([wa.rq.ini.node] ++ words64 (a.addr + 8 * i)) else u, wa.got)
    else ((s.drawn.windowReach n (wa.block % 192) wa.row (2 ^ 36 - 1) (leNat ((a.data.drop (8 * i)).take 8) % 2 ^ 36) s.draw p).1, wa.got)
  else
    let x := s.drawn.windowReach n (wa.block % 192) wa.row 0 0 s.draw p
    (x.1, wa.got ++ leBytes 8 x.2)

/-- The row is done: after its last row the access leaves the queue and is answered, else it goes on with the next. -/
def State.windowRowDone (wa : WinAcc) (r : State × List Byte) : Host.Outcome State Fault Refusal :=
  if wa.left ≤ 1 then
    let s : State := { r.1 with bwin := r.1.bwin.erase wa }
    .next (if isWrite wa.rq.acc.op then s.reply wa.rq .ok else s.replyData wa.rq r.2 0)
  else
    let w' := { wa with row := wa.row + 1, left := wa.left - 1, got := r.2 }
    .next { r.1 with bwin := r.1.bwin.map fun x => if x = wa then w' else x }

/-- The last row of the only access of the queue. -/
theorem State.windowRowDone_last {wa : WinAcc} {r : State × List Byte} (hl : wa.left = 1) (hq : r.1.bwin = [wa]) :
    State.windowRowDone wa r = .next (if isWrite wa.rq.acc.op then ({ r.1 with bwin := [] } : State).reply wa.rq .ok
      else ({ r.1 with bwin := [] } : State).replyData wa.rq r.2 0) := by
  have herase : r.1.bwin.erase wa = [] := by
    rw [hq, List.erase_cons_head]
  rw [State.windowRowDone, if_pos (Nat.le_of_eq hl), herase]

/-- The window's reach of a row does not touch the queue of accesses. -/
theorem State.windowReach_bwin (s : State) (n k row mask value und : Nat) (p : Nat × Nat) :
    (s.windowReach n k row mask value und p).1.bwin = s.bwin := by
  unfold State.windowReach
  split <;> rfl

section

variable {n : Nat} {p : Nat × Nat} {wa : WinAcc}

theorem State.windowRow_read (hw : isWrite wa.rq.acc.op = false) : s.windowRow n wa p =
    ((s.drawn.windowReach n (wa.block % 192) wa.row 0 0 s.draw p).1,
      wa.got ++ leBytes 8 (s.drawn.windowReach n (wa.block % 192) wa.row 0 0 s.draw p).2) := by
  simp only [State.windowRow, hw, Bool.false_eq_true, if_false]

/-- The first word of an access of one row. -/
theorem firstWord_offset (hz : wa.rq.acc.size = 8) (hl : wa.left = 1) : 8 * (wa.rq.acc.size / 8 - wa.left) = 0 := by
  rw [hz, hl]

theorem State.windowRow_write (hw : isWrite wa.rq.acc.op = true) (hz : wa.rq.acc.size = 8) (hl : wa.left = 1) (hp : wa.rq.acc.poison = 0) :
    s.windowRow n wa p = ((s.drawn.windowReach n (wa.block % 192) wa.row (2 ^ 36 - 1) (leNat (wa.rq.acc.data.take 8) % 2 ^ 36) s.draw p).1,
      wa.got) := by
  simp only [State.windowRow, hw, if_true, firstWord_offset hz hl, hp, Nat.zero_shiftRight, Nat.zero_mod, Nat.zero_ne_one, if_false, List.drop_zero]

/-- A poisoned word is not written but counted; only the first is logged (R300). -/
theorem State.windowRow_poisoned (hw : isWrite wa.rq.acc.op = true) (hz : wa.rq.acc.size = 8) (hl : wa.left = 1)
    (hp : (wa.rq.acc.poison >>> accessWord wa.rq.acc 0) % 2 = 1) (hd : s.rd (R.BRAM_ECC_PDROP n) ≠ 0) :
    s.windowRow n wa p = (s.drawn.bump (R.BRAM_ECC_PDROP n), wa.got) := by
  simp only [State.windowRow, hw, if_true, firstWord_offset hz hl, hp, hd, if_false]

end

section

variable {n : Fin 64} {edge : Fin 8} {e : Nat} {p : Nat × Nat} {wa : WinAcc}

/-- The oldest access of the region meets its next row at an edge of a region clock that runs, when its block's port is free. -/
theorem exec_bramWindowRow_meets (hf : s.bwin.find? (fun w => w.block / 192 == n.val) = some wa)
    (he : (s.netEdges (s.rd (R.REGION_CLK_CLK_SEL n.val)))[edge.val]? = some (e, p)) (hr : s.clockRuns n.val = true)
    (hb : s.ramBusy n.val (wa.block % 192) = false) (hu : s.ramUsed n.val (wa.block % 192) p = false) :
    exec (.bramWindowRow n edge) s = State.windowRowDone wa (s.quiet.windowRow n.val wa p) := by
  have hgo : ¬ (!(s.quiet.clockRuns n.val) || s.quiet.ramBusy n.val (wa.block % 192) || s.quiet.ramUsed n.val (wa.block % 192) p) = true := by
    rw [show s.quiet.clockRuns n.val = true from hr, State.ramBusy_quiet, hb, show s.quiet.ramUsed n.val (wa.block % 192) p = false from hu]
    decide
  change (match s.bwin.find? (fun w => w.block / 192 == n.val), (s.netEdges (s.rd (R.REGION_CLK_CLK_SEL n.val)))[edge.val]? with
    | some w, some (_, p) =>
      if !(s.quiet.clockRuns n.val) || s.quiet.ramBusy n.val (w.block % 192) || s.quiet.ramUsed n.val (w.block % 192) p then .next s.quiet
      else State.windowRowDone w (s.quiet.windowRow n.val w p)
    | _, _ => .next s.quiet : Host.Outcome State Fault Refusal) = _
  rw [hf, he]
  exact if_neg hgo

/-- Where the queue holds one access, for its last row: the row is reached, the queue is empty and the access is answered. -/
theorem exec_bramWindowRow_last {u : State} {got : List Byte} (hq : s.bwin = [wa]) (hn : wa.block / 192 = n.val) (hl : wa.left = 1)
    (he : (s.netEdges (s.rd (R.REGION_CLK_CLK_SEL n.val)))[edge.val]? = some (e, p)) (hr : s.clockRuns n.val = true)
    (hb : s.ramBusy n.val (wa.block % 192) = false) (hu : s.ramUsed n.val (wa.block % 192) p = false)
    (hrow : s.quiet.windowRow n.val wa p = (u, got)) (huq : u.bwin = s.bwin) :
    exec (.bramWindowRow n edge) s = .next (if isWrite wa.rq.acc.op then ({ u with bwin := [] } : State).reply wa.rq .ok
      else ({ u with bwin := [] } : State).replyData wa.rq got 0) := by
  have hf : s.bwin.find? (fun w => w.block / 192 == n.val) = some wa := by
    rw [hq, List.find?_cons_of_pos (by simpa using hn)]
  rw [exec_bramWindowRow_meets hf he hr hb hu, hrow, State.windowRowDone_last hl (huq.trans hq)]

end

/-! ## What the window reaches of a row (R57, R62) -/

section

variable {n k row und : Nat} {p : Nat × Nat}

theorem merge_zero (new old : Nat) : merge 0 new old = old := by
  simp only [merge, Nat.xor_zero, Nat.and_self, Nat.and_zero, Nat.or_zero]

/-- A read that meets no write of port A returns the row as it stands. -/
theorem State.windowReach_seen (mask value : Nat) (h : s.windowClash n k row p = (0, 0)) :
    (s.windowReach n k row mask value und p).2 = s.bramRow (192 * n + k) row := by
  simp only [State.windowReach, h, merge_zero]
  split <;> rfl

/-- A read leaves the rows as they are. -/
theorem State.windowReach_read : (s.windowReach n k row 0 0 und p).1.bram = s.bram := rfl

/-- A write that meets no write of port A writes the row. -/
theorem State.windowReach_write {mask : Nat} (value : Nat) (h : s.windowClash n k row p = (0, 0)) (hm : mask ≠ 0) :
    (s.windowReach n k row mask value und p).1.bram = (s.bramWrite (192 * n + k) row mask value).bram := by
  simp only [State.windowReach, h, merge_zero, if_neg hm]
  rfl

end

end Sys2Proof.Machine
end

section
/-! PROOF. Fabric registers, wires, cells, face channels and the block RAM window. -/

namespace Sys2Proof.Proofs

open Sys2Proof.Machine

/-- Settles O2: the commands by their cases, the resources by their laws at an edge. -/
theorem fabricChannelsAndWindow : Obligations.FabricChannelsAndWindow := by
  unfold Obligations.FabricChannelsAndWindow
  refine ⟨?refresh, ?change, ?silent, ?access, ?write, ?read, ?poisoned, ?row, ?flop, ?frames, ?product, ?cascade, ?cleared, ?wire, ?clamped,
    ?sync2⟩
  case refresh =>
    intro x y c change s hs hc hd
    rw [exec_faceRefresh_same hs hc, if_pos hd]
    rfl
  case change =>
    intro x y c s hs hc hd
    rw [exec_faceRefresh_change hs hc (by rw [hd]; exact Bool.not_eq_self _ |>.mp), hd]
    rfl
  case silent =>
    rintro x y c change s (hs | ⟨rfl, hd, hl⟩)
    · exact exec_faceRefresh_off hs
    · by_cases hs : s.rstate (faceSender x.val y.val c.val) = .off
      · exact exec_faceRefresh_off hs
      · rw [exec_faceRefresh_same hs (.inl rfl), if_neg (not_or.mpr ⟨Nat.not_le_of_lt hd, hl⟩)]
  case access =>
    intro rq off s hw ho hn hz ha hu ht hd
    exact exec_bramWindowAccess_on hw (State.bramCheck_ok ho hz ha hn hu ht) hd
  case write =>
    intro n edge e p wa s hq hn hl hw hz hp he hr hb hu
    rw [exec_bramWindowRow_last hq hn hl he hr hb hu (State.windowRow_write hw hz hl hp) (State.windowReach_bwin ..), if_pos hw]
    rfl
  case read =>
    intro n edge e p wa s hq hn hl hw he hr hb hu
    rw [exec_bramWindowRow_last hq hn hl he hr hb hu (State.windowRow_read hw) (State.windowReach_bwin ..), if_neg (by rw [hw]; decide)]
    rfl
  case poisoned =>
    intro n edge e p wa s hq hn hl hw hz hp hd he hr hb hu
    rw [exec_bramWindowRow_last hq hn hl he hr hb hu (State.windowRow_poisoned hw hz hl hp hd) rfl, if_pos hw]
  case row =>
    intro n k row mask value und p s h hm
    exact ⟨State.windowReach_seen 0 0 h, State.windowReach_read, State.windowReach_write value h hm⟩
  case flop =>
    rintro s ticks n i el cl ⟨rfl, rfl⟩
    refine ⟨State.flopAfter_idle, State.flopAfter_setReset, fun hc hr he => State.flopAfter_disabled hc hr ?_, fun hc hr he => ?_⟩
    · obtain ⟨ho, he⟩ | ⟨ho, he⟩ := he <;> exact (State.flopEnable_of ho).trans he
    · exact State.flopAfter_enabled hc hr (State.flopEnable_free he)
  case frames =>
    intro s ticks n i ht hi ha
    exact State.flopsEdge_flop ht hi ha
  case product =>
    rintro u x y x1 x2 y1 y2 w w1 w2 cin cin1 cin2 r ⟨hx, hy, hm⟩ hs
    exact sliceEdge_product hx hy hm hs x y x1 x2 y1 y2 w w1 w2 cin cin1 cin2 r
  case cascade =>
    intro s n j
    exact ⟨s.cascade_start n j, s.cascade_next n⟩
  case cleared =>
    intro s n m j b hj
    refine ⟨?_, fun h => ?_, fun hk => ⟨?_, fun h => ?_⟩⟩
    · rw [State.clearSlices_slicer s n n hj, if_pos rfl]
    · rw [State.clearSlices_slicer s n m hj, if_neg h]
    · rw [State.clearSlices_ramPort s n n b hk, if_pos rfl]
    · rw [State.clearSlices_ramPort s n m b hk, if_neg h]
  case wire =>
    intro n t m q d k hn ht h
    exact wireStart_on_die hn ht h
  case clamped =>
    intro s n m g live hs hd hc
    rw [State.cellOutput_clamped live hs hd hc]
    refine ⟨fun h => ?_, fun h => ?_, fun h => ?_, fun h => ?_⟩ <;> rw [h] <;> rfl
  case sync2 =>
    intro s n g live h
    exact State.cellOutput_sync2 live h

end Sys2Proof.Proofs
end

section
/-! SUPPORT. A block RAM port's lanes and write enables, bit by bit (02_fabric.md, R55, R56). -/

namespace Sys2Proof.Machine

/-! ## A merge under a mask -/

theorem testBit_merge (mask new old i : Nat) :
    (merge mask new old).testBit i = if mask.testBit i then new.testBit i else old.testBit i := by
  rw [merge, Nat.testBit_or, Nat.testBit_and, Nat.testBit_and, Nat.testBit_xor]
  cases mask.testBit i <;> cases old.testBit i <;> simp

/-- A port's write merges the value, moved to its lane, into the row. -/
theorem portWrite_eq_merge (w a row v : Nat) (en : BitVec 4) :
    portWrite w a row v en = merge (writeMask w a en) (v * 2 ^ (w * (a % 2 ^ laneBits w))) row := rfl

/-! ## Write enables: one for each 9 bits -/

/-- The mask, from bit `off` up, of n fields of 9 bits, field i all ones where `opens i` and else all zeros. -/
def nineBitMask (opens : Nat → Bool) (off n : Nat) : Nat :=
  (List.range n).foldl (fun m i => m + if opens i then 0x1FF * 2 ^ (off + 9 * i) else 0) 0

theorem nineBitMask_succ (opens : Nat → Bool) (off n : Nat) : nineBitMask opens off (n + 1) =
    2 ^ (off + 9 * n) * (if opens n then 0x1FF else 0) + nineBitMask opens off n := by
  have hfield : (if opens n then 0x1FF * 2 ^ (off + 9 * n) else 0) = 2 ^ (off + 9 * n) * (if opens n then 0x1FF else 0) := by
    cases opens n
    · exact (Nat.mul_zero _).symm
    · exact Nat.mul_comm ..
  rw [nineBitMask, List.range_succ, List.foldl_append, List.foldl_cons, List.foldl_nil, ← nineBitMask, Nat.add_comm, hfield]

/-- A bit of the mask lies in one of the fields, and that field is open. -/
theorem testBit_nineBitMask (opens : Nat → Bool) (off n j : Nat) : nineBitMask opens off n < 2 ^ (off + 9 * n) ∧
    (nineBitMask opens off n).testBit j = (decide (off ≤ j ∧ j < off + 9 * n) && opens ((j - off) / 9)) := by
  induction n generalizing j with
  | zero =>
    have hout : ¬ (off ≤ j ∧ j < off + 9 * 0) := by omega
    exact ⟨Nat.two_pow_pos _, by rw [decide_eq_false hout, Bool.false_and]; exact Nat.zero_testBit j⟩
  | succ n ih =>
    have hbit : ∀ j, (nineBitMask opens off (n + 1)).testBit j = (decide (off ≤ j ∧ j < off + 9 * (n + 1)) && opens ((j - off) / 9)) := by
      intro j
      rw [nineBitMask_succ, Nat.testBit_two_pow_mul_add _ (ih j).1, (ih j).2]
      by_cases hlo : j < off + 9 * n
      · have hiff : (off ≤ j ∧ j < off + 9 * n) ↔ (off ≤ j ∧ j < off + 9 * (n + 1)) := by omega
        rw [if_pos hlo, decide_eq_decide.mpr hiff]
      · rw [if_neg hlo, apply_ite (Nat.testBit · (j - (off + 9 * n))), (Nat.testBit_two_pow_sub_one 9 _ : Nat.testBit 0x1FF _ = _), Nat.zero_testBit]
        by_cases hhi : j < off + 9 * (n + 1)
        · have hfield : (j - off) / 9 = n := by omega
          have hin : j - (off + 9 * n) < 9 := by omega
          have hrange : off ≤ j ∧ j < off + 9 * (n + 1) := by omega
          rw [hfield, decide_eq_true hin, decide_eq_true hrange, Bool.true_and]
          cases opens n <;> rfl
        · have hout : ¬ j - (off + 9 * n) < 9 := by omega
          rw [decide_eq_false hout, decide_eq_false (fun h => hhi h.2), Bool.false_and, ite_self]
    refine ⟨Nat.lt_pow_two_of_testBit _ fun j hj => ?_, hbit j⟩
    rw [hbit, decide_eq_false (fun h => absurd h.2 (Nat.not_lt.mpr hj)), Bool.false_and]

/-- A ganged port's enables open the eighths of its word. -/
theorem gangedMask_eq_nineBitMask (en : BitVec 8) : gangedMask en = nineBitMask en.getLsbD 0 8 := by
  simp only [gangedMask, nineBitMask, Nat.zero_add]

theorem testBit_gangedMask (en : BitVec 8) {i b : Nat} (hi : i < 8) (hb : b < 9) : (gangedMask en).testBit (9 * i + b) = en.getLsbD i := by
  have hin : 0 ≤ 9 * i + b ∧ 9 * i + b < 0 + 9 * 8 := by omega
  have hfield : (9 * i + b - 0) / 9 = i := by omega
  rw [gangedMask_eq_nineBitMask, (testBit_nineBitMask ..).2, decide_eq_true hin, hfield, Bool.true_and]

/-! ## The lane widths -/

/-- The lane widths of a port, each with the bits of its lane number (R55). -/
abbrev portWidths : List (Nat × Nat) := [(1, 6), (2, 5), (4, 4), (9, 2), (18, 1), (36, 0)]

section

variable {w k a i : Nat} {en : BitVec 4}

theorem laneBits_of_width (h : (w, k) ∈ portWidths) : laneBits w = k :=
  (by decide : ∀ e ∈ portWidths, laneBits e.1 = e.2) _ h

/-- A port of 18 or 36 bits is cut into quarters, and has no lane past its last. -/
theorem width_wide (h : (w, k) ∈ portWidths) (hw : ¬ w < 18) : 9 * (w / 9) = w ∧ w / 9 ≤ 4 ∧ 2 ^ k ≤ 36 / w :=
  (by decide : ∀ e ∈ portWidths, ¬ e.1 < 18 → 9 * (e.1 / 9) = e.1 ∧ e.1 / 9 ≤ 4 ∧ 2 ^ e.2 ≤ 36 / e.1) _ h hw

/-- A lane ends within the row. -/
theorem lane_end_le (h : a < 36 / w) : w * a + w ≤ 36 :=
  Nat.le_trans (Nat.mul_le_mul_left w h) (Nat.mul_div_le 36 w)

/-! ## What a port's write reaches -/

/-- The quarters of a wide port. -/
theorem testBit_writeMask_wide (h : (w, k) ∈ portWidths) (hw : ¬ w < 18) (hi : i < w) :
    (writeMask w a en).testBit (w * (a % 2 ^ k) + i) = en.getLsbD (i / 9) := by
  have hmask : writeMask w a en = nineBitMask en.getLsbD (w * (a % 2 ^ k)) (w / 9) := by
    rw [writeMask, if_neg hw, laneBits_of_width h, nineBitMask]
  have hin : w * (a % 2 ^ k) ≤ w * (a % 2 ^ k) + i ∧ w * (a % 2 ^ k) + i < w * (a % 2 ^ k) + 9 * (w / 9) := by
    rw [(width_wide h hw).1]; omega
  rw [hmask, (testBit_nineBitMask ..).2, decide_eq_true hin, Nat.add_sub_cancel_left, Bool.true_and]

/-- All enables open the whole lane, and nothing else. -/
theorem testBit_writeMask_full (h : (w, k) ∈ portWidths) (ha : a % 2 ^ k < 36 / w) (j : Nat) :
    (writeMask w a 15).testBit j = decide (w * (a % 2 ^ k) ≤ j ∧ j < w * (a % 2 ^ k) + w) := by
  by_cases hw : w < 18
  · have hmask : writeMask w a 15 = (2 ^ w - 1) * 2 ^ (w * (a % 2 ^ k)) := by
      rw [writeMask, if_pos hw, if_neg (by decide), laneOf, laneBits_of_width h, if_neg (Nat.not_le.mpr ha)]
    rw [hmask, Nat.testBit_mul_two_pow, Nat.testBit_two_pow_sub_one, ← Bool.decide_and]
    exact decide_eq_decide.mpr (by omega)
  · obtain ⟨hq, hq4, -⟩ := width_wide h hw
    have hmask : writeMask w a 15 = nineBitMask (15 : BitVec 4).getLsbD (w * (a % 2 ^ k)) (w / 9) := by
      rw [writeMask, if_neg hw, laneBits_of_width h, nineBitMask]
    have hopen : ∀ q < 4, (15 : BitVec 4).getLsbD q = true := by decide
    rw [hmask, (testBit_nineBitMask ..).2, hq]
    by_cases hin : w * (a % 2 ^ k) ≤ j ∧ j < w * (a % 2 ^ k) + w
    · rw [hopen _ (by omega), Bool.and_true]
    · rw [decide_eq_false hin, Bool.false_and]

/-- A lane past the last is not written. -/
theorem writeMask_past (h : (w, k) ∈ portWidths) (ha : 36 / w ≤ a % 2 ^ k) : writeMask w a en = 0 := by
  have hw : w < 18 := by
    refine Decidable.byContradiction fun hw => ?_
    have hk : 2 ^ k ≤ 36 / w := (width_wide h hw).2.2
    have hlane : a % 2 ^ k < 2 ^ k := Nat.mod_lt _ (Nat.two_pow_pos k)
    omega
  rw [writeMask, if_pos hw, laneOf, laneBits_of_width h, if_pos ha, ite_self]

theorem portRead_past {row : Nat} (h : (w, k) ∈ portWidths) (ha : 36 / w ≤ a % 2 ^ k) : portRead w a row = 0 := by
  rw [portRead, laneBits_of_width h, if_pos ha]

theorem portWrite_past {row v : Nat} (h : (w, k) ∈ portWidths) (ha : 36 / w ≤ a % 2 ^ k) : portWrite w a row v en = row := by
  rw [portWrite_eq_merge, writeMask_past h ha, merge_zero]

/-- A read returns the bits of its lane. -/
theorem testBit_portRead {row : Nat} (h : (w, k) ∈ portWidths) (ha : a % 2 ^ k < 36 / w) :
    (portRead w a row).testBit i = (decide (i < w) && row.testBit (w * (a % 2 ^ k) + i)) := by
  rw [portRead, laneBits_of_width h, if_neg (Nat.not_le.mpr ha), Nat.testBit_mod_two_pow, Nat.testBit_div_two_pow, Nat.add_comm i]

/-- A write of a whole lane replaces the bits of the lane, and no others. -/
theorem testBit_portWrite_full {row v j : Nat} (h : (w, k) ∈ portWidths) (ha : a % 2 ^ k < 36 / w) :
    (portWrite w a row v 15).testBit j =
      if w * (a % 2 ^ k) ≤ j ∧ j < w * (a % 2 ^ k) + w then v.testBit (j - w * (a % 2 ^ k)) else row.testBit j := by
  rw [portWrite_eq_merge, testBit_merge, testBit_writeMask_full h ha, Nat.testBit_mul_two_pow, laneBits_of_width h]
  by_cases hin : w * (a % 2 ^ k) ≤ j ∧ j < w * (a % 2 ^ k) + w
  · rw [decide_eq_true hin, decide_eq_true hin.1, if_pos rfl, if_pos hin, Bool.true_and]
  · rw [decide_eq_false hin, if_neg hin, if_neg Bool.false_ne_true]

/-- What was written to a lane is what a read of the lane returns. -/
theorem portRead_portWrite_same (row v : Nat) (h : (w, k) ∈ portWidths) (ha : a % 2 ^ k < 36 / w) :
    portRead w a (portWrite w a row v 15) = v % 2 ^ w := by
  refine Nat.eq_of_testBit_eq fun i => ?_
  rw [testBit_portRead h ha, testBit_portWrite_full h ha, Nat.testBit_mod_two_pow]
  by_cases hi : i < w
  · rw [if_pos (by omega), Nat.add_sub_cancel_left]
  · rw [decide_eq_false hi, Bool.false_and, Bool.false_and]

/-- A bit of one lane is a bit of no other. -/
theorem lane_of_bit {l m : Nat} (hi : i < w) (hl : w * m ≤ w * l + i) (hr : w * l + i < w * m + w) : l = m := by
  have hw : 0 < w := by omega
  have hlm : l < m + 1 := Nat.lt_of_mul_lt_mul_left (a := w) (by rw [Nat.mul_succ]; omega)
  have hml : m < l + 1 := Nat.lt_of_mul_lt_mul_left (a := w) (by rw [Nat.mul_succ]; omega)
  omega

/-- A write of a lane leaves what the other lanes of the row read. -/
theorem portRead_portWrite_other {b : Nat} (row v : Nat) (h : (w, k) ∈ portWidths) (ha : a % 2 ^ k < 36 / w) (hab : a % 2 ^ k ≠ b % 2 ^ k) :
    portRead w b (portWrite w a row v 15) = portRead w b row := by
  by_cases hb : b % 2 ^ k < 36 / w
  · refine Nat.eq_of_testBit_eq fun i => ?_
    rw [testBit_portRead h hb, testBit_portRead h hb, testBit_portWrite_full h ha]
    by_cases hi : i < w
    · rw [if_neg fun hin => hab (lane_of_bit hi hin.1 hin.2).symm]
    · rw [decide_eq_false hi, Bool.false_and, Bool.false_and]
  · rw [portRead_past h (Nat.not_lt.mp hb), portRead_past h (Nat.not_lt.mp hb)]

/-- A write keeps a row within its 36 bits. -/
theorem portWrite_lt {row : Nat} (v : Nat) (h : (w, k) ∈ portWidths) (hr : row < 2 ^ 36) (ha : a % 2 ^ k < 36 / w) :
    portWrite w a row v 15 < 2 ^ 36 := by
  refine Nat.lt_pow_two_of_testBit _ fun j hj => ?_
  have hend : w * (a % 2 ^ k) + w ≤ 36 := lane_end_le ha
  rw [testBit_portWrite_full h ha, if_neg (by omega), Nat.testBit_lt_two_pow (Nat.lt_of_lt_of_le hr (Nat.pow_le_pow_right (by decide) hj))]

/-- A wide port writes the quarters whose enable is 1. -/
theorem testBit_portWrite_wide {row v : Nat} (h : (w, k) ∈ portWidths) (hw : ¬ w < 18) (hi : i < w) :
    (portWrite w a row v en).testBit (w * (a % 2 ^ k) + i) =
      if en.getLsbD (i / 9) then v.testBit i else row.testBit (w * (a % 2 ^ k) + i) := by
  rw [portWrite_eq_merge, testBit_merge, testBit_writeMask_wide h hw hi, laneBits_of_width h, Nat.testBit_mul_two_pow,
    decide_eq_true (Nat.le_add_right _ i), Nat.add_sub_cancel_left, Bool.true_and]

end

end Sys2Proof.Machine
end

section
/-! SUPPORT. The check code of a block RAM's ECC mode (02_fabric.md, R58): its 72 columns all differ and are odd, and the syndrome is linear. -/

namespace Sys2Proof.Machine

/-! ## The columns -/

theorem mem_of_mem_pickColumns {k c : Nat} {l : List Nat} (h : k ≤ l.length) (hc : c ∈ pickColumns k l) : c ∈ l := by
  induction k generalizing l with
  | zero => exact absurd hc List.not_mem_nil
  | succ k ih =>
    have hi : Config.ramPick k % l.length < l.length := Nat.mod_lt _ (Nat.zero_lt_of_lt h)
    obtain rfl | hrest := List.mem_cons.mp hc
    · rw [← List.getElem_eq_getD (h := hi) 0]
      exact List.getElem_mem hi
    · exact List.mem_of_mem_eraseIdx (ih (by rw [List.length_eraseIdx_of_lt hi]; omega) hrest)

/-- Each column is picked at most once: a picked one is erased. -/
theorem pickColumns_nodup {k : Nat} {l : List Nat} (h : k ≤ l.length) (hl : l.Nodup) : (pickColumns k l).Nodup := by
  induction k generalizing l with
  | zero => exact List.nodup_nil
  | succ k ih =>
    have hi : Config.ramPick k % l.length < l.length := Nat.mod_lt _ (Nat.zero_lt_of_lt h)
    have hrest : k ≤ (l.eraseIdx (Config.ramPick k % l.length)).length := by rw [List.length_eraseIdx_of_lt hi]; omega
    refine List.nodup_cons.mpr ⟨fun hmem => ?_, ih hrest (hl.eraseIdx _)⟩
    obtain ⟨j, hj, hne, heq⟩ := List.mem_eraseIdx_iff_getElem.mp (mem_of_mem_pickColumns hrest hmem)
    rw [← List.getElem_eq_getD (h := hi) 0] at heq
    exact hne ((List.getElem_inj hl).mp heq)

theorem length_pickColumns (k : Nat) (l : List Nat) : (pickColumns k l).length = k := by
  induction k generalizing l with
  | zero => rfl
  | succ k ih => exact congrArg (· + 1) (ih _)

/-- The columns of the check bits. -/
abbrev checkColumns : List Nat := (List.range 8).map (2 ^ ·)

theorem mem_dataColumns {c : Nat} : c ∈ dataColumns ↔ c < 256 ∧ oddByte c = true ∧ c ∉ checkColumns := by
  simp only [dataColumns, checkColumns, List.mem_filter, List.mem_range, List.mem_map, Bool.and_eq_true, Bool.not_eq_true', List.any_eq_false,
    beq_iff_eq, eq_comm (a := c), not_exists, not_and]

theorem length_dataColumns : 64 ≤ dataColumns.length := by decide +kernel

theorem length_ramColumns : ramColumns.length = 72 := by
  rw [ramColumns, List.length_append, length_pickColumns]
  rfl

theorem ramColumns_nodup : ramColumns.Nodup := by
  refine List.nodup_append.mpr ⟨pickColumns_nodup length_dataColumns (List.nodup_range.sublist List.filter_sublist), by decide, ?_⟩
  rintro c hc d hd rfl
  exact (mem_dataColumns.mp (mem_of_mem_pickColumns length_dataColumns hc)).2.2 hd

/-- Bits of a word that have the same column are the same bit. -/
theorem ramColumns_inj {i j : Nat} {hi : i < ramColumns.length} {hj : j < ramColumns.length} (h : ramColumns[i] = ramColumns[j]) : i = j :=
  (List.getElem_inj ramColumns_nodup).mp h

theorem ramColumns_odd {c : Nat} (h : c ∈ ramColumns) : c < 256 ∧ oddByte c = true := by
  obtain hc | hc := List.mem_append.mp h
  · obtain ⟨hlt, hodd, -⟩ := mem_dataColumns.mp (mem_of_mem_pickColumns length_dataColumns hc)
    exact ⟨hlt, hodd⟩
  · exact (by decide : ∀ c ∈ checkColumns, c < 256 ∧ oddByte c = true) c hc

/-- The parity of a byte is linear. -/
theorem oddByte_xor (a b : Nat) : oddByte (a ^^^ b) = (oddByte a != oddByte b) := by
  have hfold : ∀ (l : List Nat) (p q : Bool), l.foldl (fun b' i => b' != (a ^^^ b).testBit i) (p != q) =
      (l.foldl (fun b' i => b' != a.testBit i) p != l.foldl (fun b' i => b' != b.testBit i) q) := by
    intro l
    induction l with
    | nil => intros; rfl
    | cons i l ih =>
      intro p q
      have hstep : ((p != q) != (a ^^^ b).testBit i) = ((p != a.testBit i) != (q != b.testBit i)) := by
        rw [Nat.testBit_xor]
        cases p <;> cases q <;> cases a.testBit i <;> cases b.testBit i <;> rfl
      rw [List.foldl_cons, List.foldl_cons, List.foldl_cons, hstep, ih]
  exact hfold _ false false

/-! ## The syndrome as a sum of columns -/

/-- The sum, bit by bit, of the columns whose bit of a word is 1. -/
def columnSum : List Nat → Nat → Nat
  | [], _ => 0
  | c :: cs, w => (if w.testBit 0 then c else 0) ^^^ columnSum cs (w / 2)

theorem foldl_columns (cs : List Nat) (w v : Nat) :
    (List.range cs.length).foldl (fun v i => if w.testBit i then v ^^^ cs.getD i 0 else v) v = v ^^^ columnSum cs w := by
  induction cs generalizing w v with
  | nil => exact (Nat.xor_zero v).symm
  | cons c cs ih =>
    have hhead : (if w.testBit 0 then v ^^^ c else v) = v ^^^ if w.testBit 0 then c else 0 := by
      cases w.testBit 0
      · exact (Nat.xor_zero v).symm
      · rfl
    rw [List.length_cons, List.range_succ_eq_map, List.foldl_cons, List.foldl_map, List.getD_cons_zero, hhead, columnSum, ← Nat.xor_assoc,
      ← ih]
    simp only [List.getD_cons_succ, ← Nat.testBit_div_two]

theorem ramSyndrome_eq_columnSum (w : Nat) : ramSyndrome w = columnSum ramColumns w := by
  have h := foldl_columns ramColumns w 0
  rwa [length_ramColumns, Nat.zero_xor] at h

/-- The sum is linear in the word. -/
theorem columnSum_xor (cs : List Nat) (v w : Nat) : columnSum cs (v ^^^ w) = columnSum cs v ^^^ columnSum cs w := by
  induction cs generalizing v w with
  | nil => exact (Nat.xor_self 0).symm
  | cons c cs ih =>
    have hhead : (if (v ^^^ w).testBit 0 then c else 0) = (if v.testBit 0 then c else 0) ^^^ (if w.testBit 0 then c else 0) := by
      rw [Nat.testBit_xor]
      cases v.testBit 0 <;> cases w.testBit 0 <;> simp
    rw [columnSum, columnSum, columnSum, Nat.xor_div_two, ih, hhead]
    ac_rfl

theorem columnSum_zero (cs : List Nat) : columnSum cs 0 = 0 := by
  induction cs with
  | nil => rfl
  | cons c cs ih => rw [columnSum, Nat.zero_testBit, Nat.zero_div, ih, if_neg Bool.false_ne_true, Nat.xor_zero]

theorem columnSum_lt {cs : List Nat} (h : ∀ c ∈ cs, c < 2 ^ 8) (w : Nat) : columnSum cs w < 2 ^ 8 := by
  induction cs generalizing w with
  | nil => exact Nat.two_pow_pos 8
  | cons c cs ih =>
    refine Nat.xor_lt_two_pow ?_ (ih (fun d hd => h d (List.mem_cons_of_mem c hd)) _)
    split
    · exact h c List.mem_cons_self
    · exact Nat.two_pow_pos 8

/-- A single bit's sum is its column. -/
theorem columnSum_two_pow {cs : List Nat} {i : Nat} (h : i < cs.length) : columnSum cs (2 ^ i) = cs[i] := by
  induction cs generalizing i with
  | nil => exact absurd h (Nat.not_lt_zero i)
  | cons c cs ih =>
    cases i with
    | zero =>
      have hrest : columnSum cs (2 ^ 0 / 2) = 0 := columnSum_zero cs
      rw [columnSum, hrest]
      exact Nat.xor_zero c
    | succ i =>
      have hhalf : 2 ^ (i + 1) / 2 = 2 ^ i := by rw [Nat.pow_succ, Nat.mul_div_cancel _ Nat.two_pos]
      rw [columnSum, Nat.testBit_two_pow_of_ne (Nat.succ_ne_zero i), hhalf, ih (Nat.lt_of_succ_lt_succ h)]
      exact Nat.zero_xor _

theorem columnSum_append (as bs : List Nat) (w : Nat) :
    columnSum (as ++ bs) w = columnSum as w ^^^ columnSum bs (w / 2 ^ as.length) := by
  induction as generalizing w with
  | nil => simp [columnSum]
  | cons a as ih => rw [List.cons_append, columnSum, columnSum, ih, Nat.xor_assoc, Nat.div_div_eq_div_mul, List.length_cons, Nat.pow_succ']

/-- The sum is of as many bits of the word as there are columns. -/
theorem columnSum_mod (cs : List Nat) (w : Nat) : columnSum cs (w % 2 ^ cs.length) = columnSum cs w := by
  induction cs generalizing w with
  | nil => rfl
  | cons c cs ih =>
    have hlow : (w % 2 ^ (cs.length + 1)).testBit 0 = w.testBit 0 := by
      rw [Nat.testBit_mod_two_pow, decide_eq_true (Nat.succ_pos _), Bool.true_and]
    rw [List.length_cons, columnSum, columnSum, hlow, Nat.pow_succ, Nat.mod_mul_left_div_self, ih]

/-- The sum of the check bits' own columns is the check code. -/
theorem columnSum_checkColumns {r : Nat} (h : r < 256) : columnSum checkColumns r = r :=
  (by decide +kernel : ∀ r < 256, columnSum checkColumns r = r) r h

/-! ## Words of the code -/

theorem eccWord_mod (d : Nat) : eccWord d % 2 ^ 64 = d % 2 ^ 64 := by
  rw [eccWord, Nat.add_mul_mod_self_left, Nat.mod_mod]

/-- A stored word has syndrome 0: its check code is the syndrome of its data. -/
theorem ramSyndrome_eccWord (d : Nat) : ramSyndrome (eccWord d) = 0 := by
  have hcode : ramSyndrome (d % 2 ^ 64) < 256 := by
    rw [ramSyndrome_eq_columnSum]
    exact columnSum_lt (fun c hc => (ramColumns_odd hc).1) _
  have hdata : columnSum (pickColumns 64 dataColumns) (eccWord d) = ramSyndrome (d % 2 ^ 64) := by
    rw [← columnSum_mod, length_pickColumns, eccWord_mod, ramSyndrome_eq_columnSum, ramColumns, columnSum_append, length_pickColumns,
      Nat.div_eq_of_lt (Nat.mod_lt d (Nat.two_pow_pos 64)), columnSum_zero, Nat.xor_zero]
  have hcheck : eccWord d / 2 ^ 64 = ramSyndrome (d % 2 ^ 64) := by
    rw [eccWord, Nat.add_mul_div_left _ _ (Nat.two_pow_pos 64), Nat.div_eq_of_lt (Nat.mod_lt d (Nat.two_pow_pos 64)), Nat.zero_add]
  rw [ramSyndrome_eq_columnSum, ramColumns, columnSum_append, length_pickColumns, hdata, hcheck, columnSum_checkColumns hcode, Nat.xor_self]

/-- An error's syndrome is the sum of the columns of its bits. -/
theorem ramSyndrome_xor (v w : Nat) : ramSyndrome (v ^^^ w) = ramSyndrome v ^^^ ramSyndrome w := by
  simp only [ramSyndrome_eq_columnSum, columnSum_xor]

theorem ramSyndrome_two_pow {i : Nat} (h : i < ramColumns.length) : ramSyndrome (2 ^ i) = ramColumns[i] := by
  rw [ramSyndrome_eq_columnSum, columnSum_two_pow h]

theorem ramColumns_ne_zero {c : Nat} (h : c ∈ ramColumns) : c ≠ 0 := by
  rintro rfl
  exact absurd (ramColumns_odd h).2 (by decide)

/-- The sum of two columns is no column: it is even. -/
theorem xor_notMem_ramColumns {c d : Nat} (hc : c ∈ ramColumns) (hd : d ∈ ramColumns) : c ^^^ d ∉ ramColumns := by
  intro h
  have hodd := (ramColumns_odd h).2
  rw [oddByte_xor, (ramColumns_odd hc).2, (ramColumns_odd hd).2] at hodd
  exact absurd hodd (by decide)

theorem eq_of_xor_eq_zero {c d : Nat} (h : c ^^^ d = 0) : c = d := by
  rw [← Nat.xor_zero c, ← Nat.xor_self d, ← Nat.xor_assoc, h, Nat.zero_xor]

/-! ## What a read makes of a syndrome -/

theorem eccRead_good {w : Nat} (h : ramSyndrome w = 0) : eccRead w = (w % 2 ^ 64, false, false) := by
  rw [eccRead, if_pos h]

theorem eccRead_column {w i : Nat} (hi : i < ramColumns.length) (h : ramSyndrome w = ramColumns[i]) :
    eccRead w = ((w ^^^ 2 ^ i) % 2 ^ 64, true, false) := by
  have hfind : ramColumns.findIdx? (· == ramColumns[i]) = some i := by
    refine List.findIdx?_eq_some_iff_getElem.mpr ⟨hi, beq_self_eq_true _, fun j hj hji => ?_⟩
    exact absurd (ramColumns_inj (eq_of_beq hji)) (Nat.ne_of_lt hj)
  simp only [eccRead, h, if_neg (ramColumns_ne_zero (List.getElem_mem hi)), hfind]

theorem eccRead_noColumn {w : Nat} (h0 : ramSyndrome w ≠ 0) (h : ramSyndrome w ∉ ramColumns) : eccRead w = (w % 2 ^ 64, false, true) := by
  have hfind : ramColumns.findIdx? (· == ramSyndrome w) = none :=
    List.findIdx?_eq_none_iff.mpr fun c hc => beq_eq_false_iff_ne.mpr fun e => h (e ▸ hc)
  simp only [eccRead, if_neg h0, hfind]

theorem eccRead_eccWord (d : Nat) : eccRead (eccWord d) = (d % 2 ^ 64, false, false) := by
  rw [eccRead_good (ramSyndrome_eccWord d), eccWord_mod]

/-- One wrong bit is corrected. -/
theorem eccRead_oneError (d : Nat) {i : Nat} (hi : i < 72) : eccRead (eccWord d ^^^ 2 ^ i) = (d % 2 ^ 64, true, false) := by
  have hi : i < ramColumns.length := by rwa [length_ramColumns]
  have hsyn : ramSyndrome (eccWord d ^^^ 2 ^ i) = ramColumns[i] := by
    rw [ramSyndrome_xor, ramSyndrome_eccWord, Nat.zero_xor, ramSyndrome_two_pow hi]
  rw [eccRead_column hi hsyn, Nat.xor_assoc, Nat.xor_self, Nat.xor_zero, eccWord_mod]

/-- Two wrong bits are detected. -/
theorem eccRead_twoErrors (d : Nat) {i j : Nat} (hij : i < j) (hj : j < 72) : (eccRead (eccWord d ^^^ 2 ^ i ^^^ 2 ^ j)).2 = (false, true) := by
  have hj : j < ramColumns.length := by rwa [length_ramColumns]
  have hi : i < ramColumns.length := Nat.lt_trans hij hj
  have hsyn : ramSyndrome (eccWord d ^^^ 2 ^ i ^^^ 2 ^ j) = ramColumns[i] ^^^ ramColumns[j] := by
    rw [ramSyndrome_xor, ramSyndrome_xor, ramSyndrome_eccWord, Nat.zero_xor, ramSyndrome_two_pow hi, ramSyndrome_two_pow hj]
  have hne : ramColumns[i] ^^^ ramColumns[j] ≠ 0 := by
    exact fun h => absurd (ramColumns_inj (eq_of_xor_eq_zero h)) (Nat.ne_of_lt hij)
  rw [eccRead_noColumn (by rwa [hsyn]) (by rw [hsyn]; exact xor_notMem_ramColumns (List.getElem_mem hi) (List.getElem_mem hj))]

end Sys2Proof.Machine
end

section
/-! PROOF. Block RAM ports by lane. -/

namespace Sys2Proof.Proofs

open Sys2Proof.Machine

/-- Settles O56: lanes and enables bit by bit, the check code by the syndrome's linearity and its distinct odd columns. -/
theorem blockRamLanes : Obligations.BlockRamLanes := by
  unfold Obligations.BlockRamLanes
  refine ⟨?lane, ?past, ?quarters, ?eighths, ?modes, ?stored, ?oneError, ?twoErrors⟩
  case lane =>
    intro w k a b row v h hr hab ha
    refine ⟨portRead_portWrite_same row v h ha, fun hne => portRead_portWrite_other row v h ha fun hlane => hne ?_, portWrite_lt v h hr ha⟩
    rw [← Nat.div_add_mod a (2 ^ k), ← Nat.div_add_mod b (2 ^ k), hab, hlane]
  case past =>
    intro w k a row v en h _ ha
    exact ⟨portRead_past h ha, portWrite_past h ha⟩
  case quarters =>
    intro w k a row v i en h _ hi
    obtain ⟨hmem, hwide⟩ := (by decide : ∀ e ∈ [(18, 1), (36, 0)], e ∈ portWidths ∧ ¬ e.1 < 18) _ h
    exact testBit_portWrite_wide hmem hwide hi
  case eighths =>
    intro en new old i b hi hb
    rw [testBit_merge, testBit_gangedMask en hi hb]
  case modes =>
    intro w a row v o en ge
    exact ⟨rfl, rfl, rfl, rfl, rfl, rfl⟩
  case stored => exact eccRead_eccWord
  case oneError =>
    intro d i hi
    exact eccRead_oneError d hi
  case twoErrors =>
    intro d i j hij hj
    exact eccRead_twoErrors d hij hj

end Sys2Proof.Proofs
end

section
/-! SUPPORT. Clock networks (02_fabric.md, R70 to R73, R402): what a write of their settings stores, and where their active edges fall. -/

namespace Sys2Proof.Machine

variable {s : State} {n g : Nat} {v : BitVec 32}

/-! ## Settings -/

/-- Valid settings that turn on or off a network that no region uses are stored together and end LOCKED. -/
theorem wrClkNetCfg_accepted {u : State} (hu : u = s.w1cOnly (.CLK_NET_CFG g) v) (hm : 7 ≤ (R.CLK_NET_CFG_M_M1 g).of v)
    (hv : clkValid u.fuses.speed ((R.CLK_NET_CFG_M_M1 g).of v + 1) ((R.CLK_NET_CFG_D_M1 g).of v + 1) ((R.CLK_NET_CFG_O_M1 g).of v + 1) = true)
    (hb : u.clkBusy g = false) (hen : u.rd (R.CLK_NET_CFG_EN g) ≠ (R.CLK_NET_CFG_EN g).of v) :
    wrClkNetCfg s g v = ((((u.wr (R.CLK_NET_CFG_EN g) ((R.CLK_NET_CFG_EN g).of v)).wr (R.CLK_NET_CFG_O_M1 g) ((R.CLK_NET_CFG_O_M1 g).of v)).wr
      (R.CLK_NET_CFG_M_M1 g) ((R.CLK_NET_CFG_M_M1 g).of v)).wr (R.CLK_NET_CFG_D_M1 g) ((R.CLK_NET_CFG_D_M1 g).of v)).clr
      (R.CLK_NET_CFG_LOCKED g) := by
  subst hu
  simp only [wrClkNetCfg, if_pos hm, beq_false_of_ne hen, hv, hb, Bool.and_false, Bool.not_true, Bool.or_self, Bool.false_eq_true, if_false]

theorem wrRegionClk_off (h : (s.w1cOnly (.REGION_CLK n) v).rstate n = .off ∨ (s.w1cOnly (.REGION_CLK n) v).rstate n = .idle) :
    wrRegionClk s n v = (s.w1cOnly (.REGION_CLK n) v).wr (R.REGION_CLK_CLK_SEL n) ((R.REGION_CLK_CLK_SEL n).of v) :=
  if_pos h

theorem wrRegionClk_on (ho : (s.w1cOnly (.REGION_CLK n) v).rstate n ≠ .off) (hi : (s.w1cOnly (.REGION_CLK n) v).rstate n ≠ .idle) :
    wrRegionClk s n v = (s.w1cOnly (.REGION_CLK n) v).set1 (R.REGION_CLK_SEL_ERR n) :=
  if_neg (not_or.mpr ⟨ho, hi⟩)

theorem exec_clkNetCfgWrite_ok {ini : Ini} {g : Fin 32} (ht : s.turnedAway (R.CLK_NET_CFG_EN g.val).off = none) :
    exec (.clkNetCfgWrite ini g v) s = .next ((wrClkNetCfg s.quiet g.val v).okWrite ini) :=
  congrArg _ (State.written_ok ht)

theorem exec_regionClkWrite_ok {ini : Ini} {n : Fin 64} (ht : s.turnedAway (R.REGION_CLK_CLK_SEL n.val).off = none) :
    exec (.regionClkWrite ini n v) s = .next ((wrRegionClk s.quiet n.val v).okWrite ini) :=
  congrArg _ (State.written_ok ht)

/-! ## Lock -/

theorem exec_pllLocked_enabled {g : Fin 32} (he : s.is1 (R.CLK_NET_CFG_EN g.val) = true) (hl : s.is1 (R.CLK_NET_CFG_LOCKED g.val) = false) :
    exec (.pllLocked g) s = .next
      ((({ s.quiet with clkStart := storeSet 0 g.val s.now s.clkStart } : State).set1 (R.CLK_NET_CFG_LOCKED g.val)).resumeInq g.val) :=
  if_pos (by
    rw [show s.quiet.is1 (R.CLK_NET_CFG_EN g.val) = true from he, show s.quiet.is1 (R.CLK_NET_CFG_LOCKED g.val) = false from hl]
    rfl)

theorem exec_pllLockLost_locked {g : Fin 32} (hl : s.is1 (R.CLK_NET_CFG_LOCKED g.val) = true) :
    exec (.pllLockLost g) s = .next (((s.quiet.clr (R.CLK_NET_CFG_LOCKED g.val)).set1 (R.CLK_NET_CFG_LOCK_LOST g.val)).logP 2 .clkLockLost [g.val]) :=
  if_pos hl

/-! ## Active edges -/

/-- The numbers j with k m ≤ j q < (k + 1) m begin at (k m + q - 1) / q, and there are fewer of them than m / q + 2. -/
theorem mem_edgeNumbers {k m q j : Nat} (hq : 0 < q) (hlo : k * m ≤ j * q) (hhi : j * q < (k + 1) * m) :
    j ∈ (List.range (m / q + 2)).map ((k * m + q - 1) / q + ·) := by
  have hfirst : (k * m + q - 1) / q ≤ j :=
    Nat.le_of_lt_succ ((Nat.div_lt_iff_lt_mul hq).mpr (by rw [Nat.succ_mul]; omega))
  have hlast : j < (k * m + q - 1) / q + (m / q + 2) := by
    refine Nat.lt_of_mul_lt_mul_right (a := q) (Nat.lt_of_lt_of_le hhi ?_)
    have h1 : k * m + q - 1 < q * ((k * m + q - 1) / q) + q := Nat.lt_mul_div_succ _ hq
    have h2 : m < q * (m / q) + q := Nat.lt_mul_div_succ _ hq
    rw [Nat.succ_mul, Nat.mul_comm _ q, Nat.mul_add, Nat.mul_add]
    omega
  refine List.mem_map.mpr ⟨j - (k * m + q - 1) / q, List.mem_range.mpr (by omega), by omega⟩

/-- Each of these numbers is at least k m / q. -/
theorem edgeNumber_le {k m q j : Nat} (hq : 0 < q) (h : j ∈ (List.range (m / q + 2)).map ((k * m + q - 1) / q + ·)) : k * m ≤ j * q := by
  obtain ⟨i, -, rfl⟩ := List.mem_map.mp h
  have hfirst : k * m + q - 1 < q * ((k * m + q - 1) / q) + q := Nat.lt_mul_div_succ _ hq
  have hmono : q * ((k * m + q - 1) / q) ≤ ((k * m + q - 1) / q + i) * q := by
    rw [Nat.mul_comm q]; exact Nat.mul_le_mul_right q (Nat.le_add_right ..)
  omega

/-- The edges of a running network in one reference cycle: edge j falls j D O / M reference cycles after the start of its toggling (R70). -/
theorem State.mem_netEdges {j a b : Nat} (hr : s.netRuns g = true) : (j, a, b) ∈ s.netEdges g ↔
    (let k := s.now - storeGet 0 g s.clkStart
     let q := (s.rd (R.CLK_NET_CFG_D_M1 g) + 1) * (s.rd (R.CLK_NET_CFG_O_M1 g) + 1)
     let m := s.rd (R.CLK_NET_CFG_M_M1 g) + 1
     k * m ≤ j * q ∧ j * q < (k + 1) * m ∧ a = j * q - k * m ∧ b = m) := by
  have hq : 0 < (s.rd (R.CLK_NET_CFG_D_M1 g) + 1) * (s.rd (R.CLK_NET_CFG_O_M1 g) + 1) := Nat.mul_pos (Nat.succ_pos _) (Nat.succ_pos _)
  simp only [State.netEdges, hr, Bool.not_true, Bool.false_eq_true, if_false, List.mem_filterMap, Option.ite_none_right_eq_some,
    Option.some.injEq, Prod.mk.injEq]
  constructor
  · rintro ⟨i, hi, hhi, rfl, rfl, rfl⟩
    exact ⟨edgeNumber_le hq hi, hhi, rfl, rfl⟩
  · rintro ⟨hlo, hhi, rfl, rfl⟩
    exact ⟨j, mem_edgeNumbers hq hlo hhi, hhi, rfl, rfl, rfl⟩

/-! ## Gated cycles -/

/-- Edge j + 1 ends cycle j. -/
theorem State.gatedEdge_succ (s : State) (g j : Nat) : s.gatedEdge g (j + 1) = decide (j % 8 < storeGet 0 g s.gates) := rfl

/-- The clock step is taken at a multiple of 8. -/
theorem State.gateEdge_step {e : Nat} (h : e % 8 = 0) : storeGet 0 g (s.gateEdge (g, e)).gates = s.rd R.THERM_STAT_STEP := by
  rw [State.gateEdge, if_pos h]
  exact Laws.get_set_same ..

theorem State.gateEdge_between {e : Nat} (h : e % 8 ≠ 0) : s.gateEdge (g, e) = s := if_neg h

end Sys2Proof.Machine
end

section
/-! PROOF. Clock networks and region clocks. -/

namespace Sys2Proof.Proofs

open Sys2Proof.Machine

/-- Settles O3: the writes by their effects, the active edges by their numbers within one reference cycle. -/
theorem clockNetworks : Obligations.ClockNetworks := by
  unfold Obligations.ClockNetworks
  refine ⟨?settings, ?locked, ?lost, ?select, ?refused, ?edges, ?gates⟩
  case settings =>
    rintro ini g v s u m d o hu ⟨rfl, rfl, rfl⟩ hm hv hb hen ht
    rw [exec_clkNetCfgWrite_ok ht, wrClkNetCfg_accepted hu hm hv hb hen]
  case locked =>
    intro g s he hl
    exact exec_pllLocked_enabled he hl
  case lost =>
    intro g s hl
    exact exec_pllLockLost_locked hl
  case select =>
    rintro ini n v s u rfl h ht
    rw [exec_regionClkWrite_ok ht, wrRegionClk_off h]
  case refused =>
    rintro ini n v s u rfl ho hi ht
    rw [exec_regionClkWrite_ok ht, wrRegionClk_on ho hi]
  case edges =>
    rintro s g j a b k q m rfl rfl rfl ⟨he, hl⟩
    exact State.mem_netEdges (by rw [State.netRuns, he, hl]; rfl)
  case gates =>
    intro s g j
    exact ⟨s.gatedEdge_succ g j, fun e he => State.gateEdge_step he, fun e he => State.gateEdge_between he⟩

end Sys2Proof.Proofs
end

section
/-! SUPPORT. Region ports (02_fabric.md, R76 to R81, R84): what each command of a port, a pin or an event line does by its cases. -/

namespace Sys2Proof.Machine

variable {s u : State} {ini : Ini} {n : Fin 64} {p : Fin 4} {v : BitVec 32}

/-! ## NET mode -/

/-- The last flit of a packet for whose plane a response slot is free: the packet is sent, and its plane and tag recorded. -/
theorem exec_portPacketSend_last {acc : Access} (hm : s.portMode n.val p.val = 0) (hf : s.takesFlits n.val = true) (hd : s.dstate n.val = .on)
    (hs : s.maySend (regionNode n.val p.val) = true)
    (hslot : (s.port n.val p.val).inUse (s.rd (R.REGION_STATUS_ACTIVE_PLANE n.val)) <
      s.rd (slotFld n.val p.val (s.rd (R.REGION_STATUS_ACTIVE_PLANE n.val)))) :
    exec (.portPacketSend n p acc true) s = .next
      ((s.quiet.setPort n.val p.val { s.port n.val p.val with partly := false, waiting := (s.port n.val p.val).waiting ++
        [(s.rd (R.REGION_STATUS_ACTIVE_PLANE n.val), s.freeTag (regionNode n.val p.val))] }).sendNow (regionNode n.val p.val) acc) := by
  have hgo : ¬ (decide (s.quiet.portMode n.val p.val ≠ 0) || !(s.quiet.takesFlits n.val) || decide (s.quiet.dstate n.val ≠ .on) ||
      !(s.quiet.maySend (regionNode n.val p.val))) = true := by
    rw [show s.quiet.portMode n.val p.val = 0 from hm, show s.quiet.takesFlits n.val = true from hf,
      show s.quiet.dstate n.val = .on from hd, show s.quiet.maySend (regionNode n.val p.val) = true from hs]
    decide
  have hlast : ¬ (!true) = true := by decide
  exact (if_neg hgo).trans ((if_neg (Nat.not_le.mpr hslot)).trans ((if_neg hlast).trans (congrArg Host.Outcome.next (if_pos hs))))

/-- The answer to the one request that waits, for the active plane: the fabric gets it. -/
theorem exec_portResponseArrival_active {tag : BitVec 8} {a : Answer}
    (hw : (s.port n.val p.val).waiting = [(u.rd (R.REGION_STATUS_ACTIVE_PLANE n.val), tag.toNat)])
    (hu : s.quiet.takeAnswer (regionNode n.val p.val) tag.toNat a = some u) (ha : u.is1 (R.REGION_STATUS_HAS_ACTIVE n.val) = true) :
    exec (.portResponseArrival n p tag a) s = .next
      ((u.setPort n.val p.val { s.port n.val p.val with waiting := [] }).emit (.fabricAnswer n.val p.val tag.toNat a)) := by
  have hfind : (s.quiet.port n.val p.val).waiting.find? (fun w => w.2 == tag.toNat) =
      some (u.rd (R.REGION_STATUS_ACTIVE_PLANE n.val), tag.toNat) := by
    rw [show (s.quiet.port n.val p.val).waiting = _ from hw]
    exact List.find?_cons_of_pos (beq_self_eq_true tag.toNat)
  have herase : (s.quiet.port n.val p.val).waiting.erase (u.rd (R.REGION_STATUS_ACTIVE_PLANE n.val), tag.toNat) = [] := by
    rw [show (s.quiet.port n.val p.val).waiting = _ from hw, List.erase_cons_head]
  change execPortResponseArrival n p tag a s = _
  simp only [execPortResponseArrival, hfind, hu, herase, ha, beq_self_eq_true, Bool.and_self, if_true]
  rfl

/-- A request for a region in RUN, past nothing that waits. -/
theorem State.portInbound_run {s : State} {n p : Nat} (rq : Request) (hr : s.rstate n = .run) (hc : (s.region n).clamping = none)
    (hk : s.clockRuns n = true) (hq : (s.port n p).inq = []) : s.portInbound n p rq = s.emit (.fabricRequest n p rq) := by
  simp only [State.portInbound, hr, hc, hk, hq, Option.isNone_none, List.isEmpty_nil, Bool.and_self, if_true]

/-- A port in NET mode, with room and in a domain that is on, takes the request. -/
theorem exec_portInboundRequest_on {rq : Request} (hu : s.unusable n.val = false) (hm : s.portMode n.val p.val = 0)
    (hq : (s.port n.val p.val).inq.length < 16) (hd : s.dstate n.val = .on) :
    exec (.portInboundRequest n p rq) s = .next (s.quiet.portInbound n.val p.val rq) := by
  have hgo : ¬ (s.quiet.unusable n.val || decide (s.quiet.portMode n.val p.val ≠ 0)) = true := by
    rw [show s.quiet.unusable n.val = false from hu, show s.quiet.portMode n.val p.val = 0 from hm]
    decide
  have hmet (station port : Nat) : s.quiet.meetDomain n.val station port rq = some (s.quiet, true) := by
    simp only [State.meetDomain, show s.quiet.dstate n.val = .on from hd]
  refine (if_neg hgo).trans ((if_neg (Nat.not_le.mpr hq)).trans ?_)
  rw [hmet]

/-! ## Settings -/

theorem exec_regionPortCfgWrite_ok (ht : s.turnedAway (R.REGION_PORT_CFG_MODE n.val p.val).off = none) :
    exec (.regionPortCfgWrite ini n p v) s = .next ((wrPortCfg s.quiet n.val p.val v).okWrite ini) :=
  congrArg _ (State.written_ok ht)

/-- A port whose setting changes drops the samples that it holds, and outside NET mode the requests that wait (R78, R79). -/
def State.portReset (x : State) (n p : Nat) : State :=
  x.setPort n p { x.port n p with pinIn := [], pinOut := [], pinDue := [], pinTaken := 0, pinFirst := false,
                                  inq := if x.portMode n p = 0 then (x.port n p).inq else [] }

/-- A change in OFF or IDLE that binds no bank bound elsewhere is written. -/
theorem wrPortCfg_changed {s u x : State} {n p : Nat} (hu : u = s.w1cOnly (.REGION_PORT_CFG n p) v) (hx : x = u.storeReg (.REGION_PORT_CFG n p) v)
    (hd : x.regValue (.REGION_PORT_CFG n p) ≠ u.regValue (.REGION_PORT_CFG n p)) (hr : u.rstate n = .off ∨ u.rstate n = .idle)
    (hb : x.portMode n p ≠ 1 ∨ u.boundElsewhere (x.rd (R.REGION_PORT_CFG_BANK n p)) n p = false) :
    wrPortCfg s n p v = if x.portMode n p = 0 then x.portReset n p
      else (x.port n p).inq.foldl (fun s rq => s.reply rq .decode) (x.portReset n p) := by
  subst hu hx
  have hstate : ¬ ((s.w1cOnly (.REGION_PORT_CFG n p) v).rstate n ≠ .off ∧ (s.w1cOnly (.REGION_PORT_CFG n p) v).rstate n ≠ .idle) := by
    rintro ⟨ho, hi⟩
    exact hr.elim ho hi
  have hfree : ¬ (((s.w1cOnly (.REGION_PORT_CFG n p) v).storeReg (.REGION_PORT_CFG n p) v).portMode n p = 1 ∧
      (s.w1cOnly (.REGION_PORT_CFG n p) v).boundElsewhere
        (((s.w1cOnly (.REGION_PORT_CFG n p) v).storeReg (.REGION_PORT_CFG n p) v).rd (R.REGION_PORT_CFG_BANK n p)) n p = true) := by
    rintro ⟨hpin, hbound⟩
    exact hb.elim (absurd hpin) fun h => absurd (h.symm.trans hbound) Bool.false_ne_true
  exact (if_neg hd).trans ((if_neg hstate).trans (if_neg hfree))

/-- Shares within 48, with no slot in use, are written in OFF or IDLE. -/
theorem wrPortSlots_accepted {s : State} {n p : Nat} (hv : slotsSum v ≤ 48) (hr : s.rstate n = .off ∨ s.rstate n = .idle)
    (hp : (s.port n p).parked = []) (hw : (s.port n p).waiting = []) : wrPortSlots s n p v = s.storeReg (.REGION_PORT_SLOTS n p) v := by
  refine if_neg ?_
  rintro (h | ⟨ho, hi⟩ | h | h)
  · exact absurd hv (Nat.not_le.mpr h)
  · exact hr.elim ho hi
  · exact h hp
  · exact h hw

theorem exec_regionPortSlotsWrite_ok (ht : s.turnedAway (slotFld n.val p.val 0).off = none) :
    exec (.regionPortSlotsWrite ini n p v) s = .next ((wrPortSlots s.quiet n.val p.val v).okWrite ini) :=
  congrArg _ (State.written_ok ht)

/-! ## PIN mode -/

/-- A flit of samples that the fabric leaves waits in a port with room. -/
theorem exec_pinInputFlit_waits {samples : List (BitVec 32)} {first : Bool} {rest : List (Nat × Bool)}
    (hl : ¬ (samples.length = 0 ∨ 16 < samples.length))
    (hok : s.is1 (R.GPIO_BANK_CFG_VCCIO_OK (s.rd (R.REGION_PORT_CFG_BANK n.val p.val))) = true)
    (hdue : (s.port n.val p.val).pinDue = (samples.length, first) :: rest) (hm : s.portMode n.val p.val = 1)
    (hu : u = s.quiet.wr (R.GPIO_IN_PINS (s.rd (R.REGION_PORT_CFG_BANK n.val p.val))) (samples.getLastD 0).toNat)
    (hr : u.rstate n.val ≠ .off) (hroom : (s.port n.val p.val).pinIn.length < 4) :
    exec (.pinInputFlit n p samples first false) s = .next
      (u.setPort n.val p.val { s.port n.val p.val with pinDue := rest, pinIn := (s.port n.val p.val).pinIn ++ [(samples, first)] }) := by
  subst hu
  have hgo : ¬ (decide (s.quiet.portMode n.val p.val ≠ 1) || decide ((samples.length, first) ≠ (samples.length, first))) = true := by
    rw [show s.quiet.portMode n.val p.val = 1 from hm]
    simp
  refine (if_neg hl).trans ?_
  simp only [show s.quiet.is1 (R.GPIO_BANK_CFG_VCCIO_OK (s.quiet.rd (R.REGION_PORT_CFG_BANK n.val p.val))) = true from hok,
    show (s.quiet.port n.val p.val).pinDue = _ from hdue, if_true, if_neg hgo]
  exact (if_neg hr).trans ((if_neg Bool.false_ne_true).trans (if_pos hroom))

/-- A flit of 8 output samples joins the samples to be driven. -/
theorem exec_pinOutputFlit_accepted {samples : List (BitVec 32 × BitVec 32)} (hl : samples.length = 8) (hm : s.portMode n.val p.val = 1)
    (hf : s.takesFlits n.val = true) : exec (.pinOutputFlit n p samples) s = .next
      ((s.quiet.setPort n.val p.val
        { s.port n.val p.val with pinOut := (s.port n.val p.val).pinOut ++ samples.map fun v => (s.now + pinDelay, v.1, v.2) }).twinSamples
        (s.rd (R.REGION_PORT_CFG_BANK n.val p.val)) samples) := by
  have hgo : ¬ (decide (s.quiet.portMode n.val p.val ≠ 1) || !(s.quiet.takesFlits n.val)) = true := by
    rw [show s.quiet.portMode n.val p.val = 1 from hm, show s.quiet.takesFlits n.val = true from hf]
    decide
  exact (if_neg (not_not_intro hl)).trans (if_neg hgo)

/-- A sample edge of a PIN port that finds no sample ready. -/
theorem exec_pinUnderrun_unready (hm : s.portMode n.val p.val = 1) (he : s.sampleEdge n.val p.val = true)
    (hr : s.sampleReady n.val p.val = false) : exec (.pinUnderrun n p) s = .next (s.quiet.underrun n.val p.val) :=
  if_neg (by
    rw [show s.quiet.portMode n.val p.val = 1 from hm, show s.quiet.sampleEdge n.val p.val = true from he,
      show s.quiet.sampleReady n.val p.val = false from hr]
    decide)

/-- With UNDERRUN_POL 1 the bank drives its safe value. -/
theorem State.underrun_safe {s : State} {n p : Nat}
    (h : (s.set1 (R.REGION_PORT_STAT_PIN_UNDERRUN n p)).is1 (R.REGION_PORT_CFG_UNDERRUN_POL n p) = true) :
    s.underrun n p = (s.set1 (R.REGION_PORT_STAT_PIN_UNDERRUN n p)).setPad
      ((s.set1 (R.REGION_PORT_STAT_PIN_UNDERRUN n p)).rd (R.REGION_PORT_CFG_BANK n p))
      ((s.set1 (R.REGION_PORT_STAT_PIN_UNDERRUN n p)).safePads ((s.set1 (R.REGION_PORT_STAT_PIN_UNDERRUN n p)).rd (R.REGION_PORT_CFG_BANK n p))) :=
  if_pos h

/-! ## Event lines -/

variable {k : Fin 4}

theorem State.runCycle_iff {s : State} {n : Nat} :
    s.runCycle n = true ↔ s.rstate n = .run ∧ (s.region n).clamping = none ∧ s.clockRuns n = true := by
  simp only [State.runCycle, Bool.and_eq_true, decide_eq_true_eq, Option.isNone_iff_eq_none, and_assoc]

/-- A pending event becomes a pulse in a RUN cycle. -/
theorem exec_eventDelivery_pulse (hr : s.runCycle n.val = true) (hb : s.bit (R.REGION_LINES_EVT_PENDING n.val) k.val = true) :
    exec (.eventDelivery n k) s = .next ((s.quiet.clrBit (R.REGION_LINES_EVT_PENDING n.val) k.val).pulseLine n.val k.val) :=
  if_pos (by
    rw [show s.quiet.runCycle n.val = true from hr, show s.quiet.bit (R.REGION_LINES_EVT_PENDING n.val) k.val = true from hb]
    rfl)

theorem exec_eventDelivery_none (h : s.runCycle n.val = false ∨ s.bit (R.REGION_LINES_EVT_PENDING n.val) k.val = false) :
    exec (.eventDelivery n k) s = .next s.quiet := by
  refine if_neg ?_
  obtain hr | hb := h
  · rw [show s.quiet.runCycle n.val = false from hr, Bool.false_and]
    decide
  · rw [show s.quiet.bit (R.REGION_LINES_EVT_PENDING n.val) k.val = false from hb, Bool.and_false]
    decide

theorem State.clrBit_region (s : State) (f : Fld) (i n : Nat) : (s.clrBit f i).region n = s.region n := by
  unfold State.clrBit
  split <;> rfl

end Sys2Proof.Machine
end

section
/-! PROOF. Region ports in NET mode, pins and events of region ports. -/

namespace Sys2Proof.Proofs

open Sys2Proof.Machine

/-- Settles O4: packets, answers and requests by their cases, the writes by their effects. -/
theorem regionPortsNet : Obligations.RegionPortsNet := by
  unfold Obligations.RegionPortsNet
  refine ⟨?packet, ?answer, ?request, ?mode, ?shares⟩
  case packet =>
    intro n p acc s hm hf hd hs hslot
    exact exec_portPacketSend_last hm hf hd hs hslot
  case answer =>
    intro n p tag a s u hw hu ha
    exact exec_portResponseArrival_active hw hu ha
  case request =>
    intro n p rq s hu hm hd hr hc hk hq
    rw [exec_portInboundRequest_on hu hm (by rw [hq]; decide) hd, State.portInbound_run (s := s.quiet) rq hr hc hk hq]
  case mode =>
    rintro ini n p v s u x y hu hx hd hr hb rfl ht
    rw [exec_regionPortCfgWrite_ok ht, wrPortCfg_changed hu hx hd hr hb]
    rfl
  case shares =>
    intro ini n p v s hv hr hp hw ht
    rw [exec_regionPortSlotsWrite_ok ht, wrPortSlots_accepted (s := s.quiet) hv hr hp hw]

/-- Settles O5: the flits, the sample edge and the event by their cases. -/
theorem pinsThroughPorts : Obligations.PinsThroughPorts := by
  unfold Obligations.PinsThroughPorts
  refine ⟨?input, ?output, ?underrun, ?event, ?pends⟩
  case input =>
    intro n p samples first rest s u hl hok hdue hm hu hr hroom
    exact exec_pinInputFlit_waits hl hok hdue hm hu hr hroom
  case output =>
    rintro n p samples b s hl hm hf rfl
    exact exec_pinOutputFlit_accepted hl hm hf
  case underrun =>
    rintro n p s u b hm he hr rfl rfl hpol
    rw [exec_pinUnderrun_unready hm he hr, State.underrun_safe hpol]
    rfl
  case event =>
    rintro n k s u hrun hb rfl
    rw [exec_eventDelivery_pulse (State.runCycle_iff.mpr hrun) hb, State.pulseLine, State.clrBit_region]
    rfl
  case pends =>
    intro n k s h
    refine exec_eventDelivery_none (h.imp_left fun hr => ?_)
    exact Bool.eq_false_iff.mpr fun hc => hr (State.runCycle_iff.mp hc).1

end Sys2Proof.Proofs
end

section
/-! PROOF. Waits, barriers and flag lines (02_fabric.md, R82; 05_paeri_isa.md, R165, R170, R171, R178, R180). -/

namespace Sys2Proof.Machine

variable {s : State} {t : Fin 4} {i : Insn}

/-- Outside a locked sequence an instruction that may not stand in one has its body. -/
theorem State.unlockedOnly_free {s : State} {t : Nat} (body : State → State) (h : s.locked t = false) : s.unlockedOnly t body = body s :=
  if_neg (by rw [h]; decide)

/-- An instruction whose one consumed register carries no tag has its body. -/
theorem State.consuming_untagged {s : State} {t r : Nat} (body : State → State) (h : s.tag t r = false) : s.consuming t [r] body = body s :=
  if_neg (by rw [List.any_cons, List.any_nil, h]; decide)

/-- A thread that stands, outside a locked sequence, at a waiting instruction executes it. -/
theorem State.oldest_waiting {row : Row} (mine : Row → Bool) (body : Insn → State → State) (h : s.standsAt t.val i row = true)
    (hm : mine row = true) (hl : s.locked t.val = false) :
    s.quiet.oldest t.val mine (fun i s => s.unlockedOnly t.val (body i)) = body i s.quiet := by
  rw [State.oldest_of_standsAt mine _ h hm, State.unlockedOnly_free (s := s.quiet) _ hl]

/-! ## The instructions -/

/-- WTICK commits where a boundary is owed and the generator runs, and else waits. -/
theorem exec_wtick_stands (h : s.standsAt t.val i .wtick = true) (hl : s.locked t.val = false) :
    exec (.wtick t) s = .next (if s.is1 (R.SEQ_THR_OVR_OWED t.val) && s.is1 R.TICK_CTL_RUNNING
      then (s.quiet.clr (R.SEQ_THR_OVR_OWED t.val)).commit t.val else s.quiet.waitFor t.val .tick) :=
  congrArg _ (State.oldest_waiting (· == .wtick) _ h rfl hl)

theorem exec_wslot_stands (h : s.standsAt t.val i .wslot = true) (hl : s.locked t.val = false) :
    exec (.wslot t) s = .next (s.quiet.waitFor t.val (.slot (if i.fn = 0 then some (i.imm % 16) else none))) :=
  congrArg _ (State.oldest_waiting (· == .wslot) _ h rfl hl)

/-- WFLAG commits where the line has the level, and else waits. -/
theorem exec_wflag_stands (h : s.standsAt t.val i .wflag = true) (hl : s.locked t.val = false) :
    exec (.wflag t) s = .next (if s.flagLine (nbits i.imm 23 16) == (i.fn == 1) then (s.quiet.setReg t.val i.rd 0 false).commit t.val
      else s.quiet.waitFor t.val (.flag (nbits i.imm 23 16) (i.fn == 1) (i.imm % 2 ^ 16 ≠ 0) i.rd)) :=
  congrArg _ (State.oldest_waiting (· == .wflag) _ h rfl hl)

/-- WSHAD of an untagged index commits where the shadow is settled, and else waits. -/
theorem exec_wshad_stands (h : s.standsAt t.val i .wshad = true) (hl : s.locked t.val = false) (htag : s.tag t.val i.ra = false) :
    exec (.wshad t) s = .next (if s.shadowSettled (i.regionIdx (s.reg t.val i.ra))
      then (s.quiet.setReg t.val i.rd (s.shadowWord (i.regionIdx (s.reg t.val i.ra))) false).commit t.val
      else s.quiet.waitFor t.val (.shad (i.regionIdx (s.reg t.val i.ra)) i.rd)) :=
  congrArg _ ((State.oldest_waiting (· == .wshad) _ h rfl hl).trans (State.consuming_untagged (s := s.quiet) _ htag))

theorem exec_delay_stands (h : s.standsAt t.val i .delay = true) (hl : s.locked t.val = false) :
    exec (.delay t) s = .next (if i.imm = 0 then s.quiet.commit t.val else s.quiet.waitFor t.val .delay) :=
  congrArg _ (State.oldest_waiting (· == .delay) _ h rfl hl)

/-- CWAIT of an untagged index commits where the courier is idle, and else waits. -/
theorem exec_cwait_stands (h : s.standsAt t.val i .cwait = true) (hl : s.locked t.val = false) (htag : s.tag t.val i.ra = false) :
    exec (.cwait t) s = .next (if s.courierIdle (i.courierIdx (s.reg t.val i.ra))
      then (s.quiet.setReg t.val i.rd (BitVec.ofNat 64 (s.rd (R.COURIER_STAT_CODE (i.courierIdx (s.reg t.val i.ra))))) false).commit t.val
      else s.quiet.waitFor t.val (.courier (i.courierIdx (s.reg t.val i.ra)) i.rd)) :=
  congrArg _ ((State.oldest_waiting (· == .cwait) _ h rfl hl).trans (State.consuming_untagged (s := s.quiet) _ htag))

/-- BAR commits with 2 at a barrier that does not name the thread, and else arrives and waits. -/
theorem exec_bar_stands (h : s.standsAt t.val i .bar = true) (hl : s.locked t.val = false) :
    exec (.bar t) s = .next (if !(s.bit (R.SEQ_BAR_CFG_THREADS (i.imm % 16)) t.val) then (s.quiet.setReg t.val i.rd 2 false).commit t.val
      else ((s.quiet.setBit (R.SEQ_BAR_CFG_ARRIVED (i.imm % 16)) t.val).waitFor t.val
        (.bar (i.imm % 16) i.rd (i.imm / 2 ^ 16 ≠ 0))).barCheck (i.imm % 16)) :=
  congrArg _ (State.oldest_waiting (· == .bar) _ h rfl hl)

/-! ## The end of a wait -/

theorem exec_waitConditionMet_flag {line rd : Nat} {level timed : Bool} (hw : (s.thread t.val).wait = some (.flag line level timed rd))
    (hf : s.flagLine line = level) : exec (.waitConditionMet t) s = .next ((s.quiet.setReg t.val rd 0 false).commit t.val) := by
  change execWaitConditionMet t s = _
  simp only [execWaitConditionMet, show (s.quiet.thread t.val).wait = _ from hw, show s.quiet.flagLine line = level from hf,
    beq_self_eq_true, if_true]

theorem exec_waitConditionMet_delay (hw : (s.thread t.val).wait = some .delay) :
    exec (.waitConditionMet t) s = .next (s.quiet.commit t.val) := by
  change execWaitConditionMet t s = _
  simp only [execWaitConditionMet, show (s.quiet.thread t.val).wait = _ from hw]

theorem exec_wflagTimeout_timed {line rd : Nat} {level : Bool} (hw : (s.thread t.val).wait = some (.flag line level true rd)) :
    exec (.wflagTimeout t) s = .next ((s.quiet.setReg t.val rd (if s.flagLine line == level then 0 else 1) false).commit t.val) := by
  change execWflagTimeout t s = _
  simp only [execWflagTimeout, show (s.quiet.thread t.val).wait = _ from hw]
  rfl

theorem exec_barTimeout_timed {b rd : Nat} (hw : (s.thread t.val).wait = some (.bar b rd true)) :
    exec (.barTimeout t) s = .next (((s.quiet.clrBit (R.SEQ_BAR_CFG_ARRIVED b) t.val).setReg t.val rd 1 false).commit t.val) := by
  change execBarTimeout t s = _
  simp only [execBarTimeout, show (s.quiet.thread t.val).wait = _ from hw]

/-! ## Flag lines (R82) -/

section

variable {n : Fin 64} {k : Fin 4} {level : Bool}

theorem State.flagDriven_quiet (s : State) (n k : Nat) : s.quiet.flagDriven n k = s.flagDriven n k := State.routed_quiet ..

/-- A level that no running context drives changes nothing. -/
theorem exec_flagChange_undriven (h : s.takesFlits n.val = false ∨ s.flagDriven n.val k.val ≠ level) :
    exec (.flagChange n k level) s = .next s.quiet := by
  refine if_pos ?_
  obtain hf | hd := h
  · rw [show s.quiet.takesFlits n.val = false from hf, Bool.not_false, Bool.true_or, Bool.true_or]
  · rw [State.flagDriven_quiet, bne_iff_ne.mpr hd, Bool.or_true, Bool.true_or]

/-- The line takes the level that the running context drives; a rise pulses the channels that name it. -/
theorem exec_flagChange_driven (hf : s.takesFlits n.val = true) (hd : s.flagDriven n.val k.val = level) :
    exec (.flagChange n k level) s = .next (if s.bit (R.REGION_LINES_FLAG n.val) k.val = level then s.quiet
      else if level = true then (s.quiet.setBit (R.REGION_LINES_FLAG n.val) k.val).pulses fun c =>
        s.is1 (R.DBG_XT_SRC_FLAG_EN c) && s.rd (R.DBG_XT_SRC_FLAG c) == 4 * n.val + k.val
      else s.quiet.clrBit (R.REGION_LINES_FLAG n.val) k.val) := by
  have hcond : (!(s.quiet.takesFlits n.val) || s.quiet.flagDriven n.val k.val != level || s.quiet.bit (R.REGION_LINES_FLAG n.val) k.val == level) =
      (s.bit (R.REGION_LINES_FLAG n.val) k.val == level) := by
    rw [show s.quiet.takesFlits n.val = true from hf, State.flagDriven_quiet, hd, bne_self_eq_false]
    rfl
  by_cases hb : s.bit (R.REGION_LINES_FLAG n.val) k.val = level
  · rw [if_pos hb]
    exact if_pos (hcond.trans (beq_iff_eq.mpr hb))
  · rw [if_neg hb, apply_ite Host.Outcome.next]
    exact if_neg (by rw [hcond]; exact fun h => hb (beq_iff_eq.mp h))

end

end Sys2Proof.Machine

namespace Sys2Proof.Proofs

open Sys2Proof.Machine

/-- Settles O14: each instruction by the branch that its condition chooses, the ends of waits by what waits, a flag line by its driver. -/
theorem waitsAndBarriers : Obligations.WaitsAndBarriers := by
  unfold Obligations.WaitsAndBarriers
  refine ⟨?owed, ?tick, ?slot, ?flag, ?flagWaits, ?shadow, ?delay, ?courier, ?flagMet, ?delayEnds, ?flagTimeout, ?notNamed, ?arrives,
    ?barTimeout, ?line, ?undriven⟩
  case owed =>
    intro t i s h hl ho hr
    rw [exec_wtick_stands h hl, ho, hr]
    rfl
  case tick =>
    intro t i s h hl ho
    rw [exec_wtick_stands h hl, ho, Bool.false_and, if_neg Bool.false_ne_true]
  case slot =>
    intro t i s h hl
    exact exec_wslot_stands h hl
  case flag =>
    intro t i s h hl hf
    rw [exec_wflag_stands h hl, if_pos (beq_iff_eq.mpr hf)]
  case flagWaits =>
    intro t i s h hl hf
    rw [exec_wflag_stands h hl, if_neg fun h => hf (beq_iff_eq.mp h)]
  case shadow =>
    intro t i s h hl htag hs
    rw [exec_wshad_stands h hl htag, if_pos hs]
  case delay =>
    intro t i s h hl hi
    rw [exec_delay_stands h hl, if_neg hi]
  case courier =>
    intro t i s h hl htag hc
    rw [exec_cwait_stands h hl htag, if_pos hc]
  case flagMet =>
    intro t line rd level timed s hw hf
    exact exec_waitConditionMet_flag hw hf
  case delayEnds =>
    intro t s hw
    exact exec_waitConditionMet_delay hw
  case flagTimeout =>
    intro t line rd level s hw
    exact exec_wflagTimeout_timed hw
  case notNamed =>
    intro t i s h hl hb
    rw [exec_bar_stands h hl, hb, Bool.not_false, if_pos rfl]
  case arrives =>
    intro t i s h hl hb
    rw [exec_bar_stands h hl, hb, Bool.not_true, if_neg Bool.false_ne_true]
  case barTimeout =>
    intro t b rd s hw
    exact exec_barTimeout_timed hw
  case line =>
    intro n k s hf
    exact exec_flagChange_driven hf rfl
  case undriven =>
    intro n k level s h
    exact exec_flagChange_undriven h

end Sys2Proof.Proofs
end

section
/-! PROOF. An arithmetic slice (02_fabric.md, R50, R51). -/

namespace Sys2Proof.Machine

/-- The shift by CIN_SHIFT is arithmetic. -/
theorem toInt_div_two_pow (v : Word) (k : Nat) : v.toInt / 2 ^ k = (v.sshiftRight k).toInt := by
  rw [BitVec.toInt_sshiftRight, Int.shiftRight_eq_div_pow]
  rfl

/-- S for each of the eight codes of SRC (R50). -/
theorem sliceAddend_src (c : SliceCfg) (src : BitVec 3) (w cin q : Word) : sliceAddend c src w cin q =
    if src = 0b000#3 then 0 else if src = 0b001#3 then w.toInt else if src = 0b010#3 then q.toInt
    else if src = 0b011#3 then (cin.sshiftRight c.shift).toInt else if src = 0b100#3 then q.toInt + w.toInt
    else if src = 0b101#3 then q.toInt + (cin.sshiftRight c.shift).toInt else if src = 0b110#3 then w.toInt + (cin.sshiftRight c.shift).toInt
    else (q.sshiftRight c.shift).toInt := by
  simp only [← toInt_div_two_pow]
  have hcodes : ∀ x : BitVec 3, x = 0 ∨ x = 1 ∨ x = 2 ∨ x = 3 ∨ x = 4 ∨ x = 5 ∨ x = 6 ∨ x = 7 := by decide
  obtain rfl | rfl | rfl | rfl | rfl | rfl | rfl | rfl := hcodes src
  all_goals rfl

/-- In wrap mode Q is the value modulo 2^64, in range or not (R51). -/
theorem sliceResult_wrap (v : Int) : (sliceResult false v).1 = BitVec.ofInt 64 v := by
  rw [sliceResult]
  split <;> rfl

end Sys2Proof.Machine

namespace Sys2Proof.Proofs

open Sys2Proof.Machine

/-- Settles O55: the addend by the codes of SRC; the product and the sign are R50's own. -/
theorem sliceComputes : Obligations.SliceComputes := by
  unfold Obligations.SliceComputes
  rintro c neg x y w cin q m rfl src z rfl
  have htrue := congrArg (· + (if neg then -sliceProduct c x y else sliceProduct c x y)) (sliceAddend_src c src w cin q)
  refine ⟨htrue, fun hs => ?_⟩
  rw [sliceNext, hs, sliceResult_wrap]
  exact congrArg _ htrue

end Sys2Proof.Proofs
end

section
/-! SUPPORT. Regions, planes and swaps (03_contexts.md, R85 to R119, and the arming rules of 04_ticks_and_sequencer.md): what each operation does by
its cases. -/

namespace Sys2Proof.Machine

/-! ## Erasing and loading a plane (R93, R117, R199) -/

section

variable {s : State} {n p f data : Nat}

/-- An ERASE that nothing refuses, of a plane that neither the shadow nor a spill holds. -/
theorem State.erase_accepted (hfree : s.is1 R.PLANE_CMD_BUSY = false ∧ s.plActive n p = false ∧ s.loadingPlane n p = false ∧ s.loadOpen n p = false)
    (hdark : s.plState n p ≠ .dark) (hon : s.dstate (64 + n / 4) = .on) (hin : s.unusable n = false)
    (hshadow : ((s.set1 R.PLANE_CMD_BUSY).setPlState n p .empty).shadowHas n p = false)
    (hspill : (((s.set1 R.PLANE_CMD_BUSY).setPlState n p .empty).region n).spill = none) :
    s.erase n p = { (s.set1 R.PLANE_CMD_BUSY).setPlState n p .empty with erasing := some (n, p) } := by
  obtain ⟨hbusy, hactive, hload, hopen⟩ := hfree
  simp only [State.erase, hbusy, hactive, hload, hopen, hdark, hon, hin, hshadow, State.stopSpillInto, hspill, Bool.or_self, decide_false,
    ne_eq, not_true_eq_false, Bool.false_eq_true, if_false]

theorem State.setPlTorn_heldLoads (b : Bool) : (s.setPlTorn n p b).heldLoads = s.heldLoads := by
  cases b with
  | true => rfl
  | false =>
    simp only [State.setPlTorn, Bool.false_eq_true, if_false, State.clrBit]
    split <;> rfl

/-- The end of an erase that held up no frame. -/
theorem exec_eraseComplete_noneHeld (he : s.erasing = some (n, p)) (hh : s.heldLoads = []) : exec .eraseComplete s = .next
    { (((s.quiet.erasePlane n p).setPlTorn n p false).clr R.PLANE_CMD_BUSY) with erasing := none, heldLoads := [] } := by
  have hheld : (((s.quiet.erasePlane n p).setPlTorn n p false).clr R.PLANE_CMD_BUSY).heldLoads = [] :=
    (State.setPlTorn_heldLoads (s := s.quiet.erasePlane n p) false).trans hh
  change execEraseComplete s = _
  simp only [execEraseComplete, show s.quiet.erasing = _ from he, hheld, List.foldl_nil]

/-- A frame for a plane that has become ACTIVE. -/
theorem State.takeFrame_active (ha : s.plActive n p = true) : s.takeFrame n p f data = (s.log .planeLoadActive [n, p]).imgFail 0x0B := if_pos ha

/-- A frame for a plane that cannot be loaded. -/
theorem State.takeFrame_shut (ha : s.plActive n p = false) (hs : s.planesShut n = true) : s.takeFrame n p f data = s.imgFail 0x0C :=
  (if_neg (Bool.eq_false_iff.mp ha)).trans (if_pos hs)

/-- A frame for a plane that the image has begun to load. -/
theorem State.takeFrame_loading (ha : s.plActive n p = false) (hs : s.planesShut n = false) (he : s.erasing ≠ some (n, p))
    (hd : s.plState n p = .dark) (hl : s.loadingPlane n p = true) :
    s.takeFrame n p f data = s.writeFrame n p f data (if f < 3840 then 0 else 1) := by
  have hbegun : (s.plState n p = .dark && s.loadingPlane n p) = true := by rw [hd, hl]; rfl
  calc s.takeFrame n p f data = s.loadFrame n p f data :=
        (if_neg (Bool.eq_false_iff.mp ha)).trans <| (if_neg (Bool.eq_false_iff.mp hs)).trans <| (if_neg he).trans <|
          if_neg fun h => h.2 hd
    _ = s.writeFrame n p f data (if f < 3840 then 0 else 1) := by rw [State.loadFrame, if_pos hbegun]

end

/-! ## Power requests of a region's domain (R387 to R389) -/

section

variable {s : State} {d : Nat} {src : PwrSrc}

theorem State.requestOn_off (hr : s.onRefusal d = none) (hd : (s.set1 (R.PWR_DOM_CTL_REQ d)).dstate d = .off) :
    s.requestOn d src = (s.set1 (R.PWR_DOM_CTL_REQ d)).setDstate d .waking := by
  simp only [State.requestOn, hr, hd]

theorem State.requestOff_on (hd : s.dstate d = .on) (hr : s.offRefusal d = none) :
    s.requestOff d src = (s.clr (R.PWR_DOM_CTL_REQ d)).setDstate d .closing := by
  simp only [State.requestOff, hd, hr]

end

/-! ## Fills and the shadow (R99 to R102, R119) -/

section

variable {s : State} {n p result : Nat}

theorem State.fallbackLost_none (h : (s.region n).fallback = none) : s.fallbackLost n = s :=
  if_neg (by rw [h]; decide)

theorem State.dropLater_none (h : (s.region n).later = none) : s.dropLater n result = s := by
  rw [State.dropLater, h]

theorem State.abandonFill_invalid (h : s.shState n = .invalid) : s.abandonFill n result = s := by
  simp only [State.abandonFill, h]

/-- A QUEUED fill that no fallback waits for leaves its queue. -/
theorem State.abandonFill_queued (h : s.shState n = .queued) (hf : (s.region n).fallback = none) :
    s.abandonFill n result = (({ s with fillq := s.fillq.filter (· ≠ n) } : State).fillEnded n result
      (s.rd (R.REGION_STATUS_SHADOW_PLANE n)) 0).invalidateShadow n := by
  simp only [State.abandonFill, h]
  exact State.fallbackLost_none hf

/-- A fill for a shadow that holds nothing is queued. -/
theorem State.acceptFill_invalid (hh : s.shadowHas n p = false) (hi : s.shState n = .invalid) (hc : (s.region n).clamping = none) :
    s.acceptFill n p none = (s.dropRestore n).queueFill n p false false := by
  have hfree : ¬ (s.region n).clamping.isSome = true := by rw [hc]; decide
  refine (if_neg (Bool.eq_false_iff.mp hh)).trans ((if_neg hfree).trans ?_)
  rw [State.abandonFill_invalid hi]

/-- The squash of a READY speculative shadow that displaced nothing. -/
theorem State.squashFill_ready {t : Nat} (hspec : s.is1 (R.REGION_STATUS_SHADOW_SPEC n) = true)
    (hp : s.rd (R.REGION_STATUS_SHADOW_PLANE n) = p) (hready : s.shState n = .ready) (hrestore : (s.region n).restore = none)
    (hlater : (s.region n).later = none) : s.squashFill n p t = s.invalidateShadow n := by
  have hmine : (s.is1 (R.REGION_STATUS_SHADOW_SPEC n) && s.rd (R.REGION_STATUS_SHADOW_PLANE n) == p) = true := by
    rw [hspec, hp, beq_self_eq_true]; rfl
  have hlater' : ((s.invalidateShadow n).region n).later = none := hlater
  have hrestore' : ((s.invalidateShadow n).region n).restore = none := hrestore
  simp only [State.squashFill, if_pos hmine, if_pos hready, hlater', hrestore']

/-- Where no region item is kept, a fill takes every frame from the plane. -/
theorem State.restoreFrames_none {set : Bool} (h : s.twin.latest = []) : s.restoreFrames n p set = s := by
  simp only [State.restoreFrames, h, List.find?_nil]

end

/-! ## Judging and taking a command (R96, R97, R128) -/

section

variable {s : State} {n bno : Nat} {kind : RCmdKind} {src : CmdSrc} {c : RCmd}

/-- The command arms the region for a boundary (R128). -/
def RCmdKind.arms : RCmdKind → Bool
  | .swap _ | .stop => true
  | _ => false

theorem State.lateArm_undecided (h : (s.region n).decided = false) : s.lateArm n src = s := by
  cases src with
  | host => rfl
  | thread t => exact if_neg (by rw [h, Bool.false_and]; decide)

/-- A command that reaches its region now, and is not late for the next boundary where it arms. -/
theorem State.commandNow_timely (hb : src = .host → s.lbistBars (R.REGION_CTL_CMD n).off = false)
    (hd : kind.arms = false ∨ (s.region n).decided = false) :
    s.commandNow n kind src = s.regionCommand n ⟨kind, src⟩ (s.armTarget n) := by
  have hreach : ¬ (src = .host ∧ s.lbistBars (R.REGION_CTL_CMD n).off = true) := fun h => Bool.eq_false_iff.mp (hb h.1) h.2
  refine (if_neg hreach).trans ?_
  cases kind
  case swap | stop =>
    simp only [State.lateArm_undecided (hd.resolve_left Bool.false_ne_true.symm), ite_self]
  all_goals rfl

/-- A command that arms takes effect at once. -/
theorem State.regionCommand_arms (hk : c.kind.arms = true) (hj : s.judge n c = none) : s.regionCommand n c bno = s.actRegion n c bno := by
  obtain ⟨kind, src⟩ := c
  cases kind
  case swap | stop => simp only [State.regionCommand, hj]
  all_goals cases hk

/-- A command that waits for its place among the region's commands. -/
theorem State.regionCommand_queued (hk : c.kind.queued = true) (hj : s.judge n c = none) : s.regionCommand n c bno = s.queueCmd n c := by
  obtain ⟨kind, src⟩ := c
  cases kind
  case hold | release | isolate | unisolate | clear => simp only [State.regionCommand, hj]
  all_goals cases hk

/-- A fill with no command of the region before it, while the region clock runs, takes effect at once. -/
theorem State.regionCommand_fill {p : Nat} {pre : Bool} (hj : s.judge n ⟨.fill p pre, src⟩ = none) (hc : s.clockRuns n = true)
    (hq : (s.region n).cmdq = []) : s.regionCommand n ⟨.fill p pre, src⟩ bno = s.acceptFill n p none := by
  have hnow : (s.clockRuns n && (s.region n).cmdq.isEmpty) = true := by rw [hc, hq]; rfl
  simp only [State.regionCommand, hj, if_pos hnow]
  rfl

/-- So does a CANCEL_FILL. -/
theorem State.regionCommand_cancelFill (hj : s.judge n ⟨.cancelFill, src⟩ = none) (hc : s.clockRuns n = true) (hq : (s.region n).cmdq = []) :
    s.regionCommand n ⟨.cancelFill, src⟩ bno = (s.dropLater n 6).abandonFill n 6 := by
  have hnow : (s.clockRuns n && (s.region n).cmdq.isEmpty) = true := by rw [hc, hq]; rfl
  simp only [State.regionCommand, hj, if_pos hnow]
  rfl

/-- POWER_UP of a domain in OFF asks the domain, and POWER_OFF one that is ON. -/
theorem State.regionCommand_powerUp (hd : s.dstate n = .off) :
    s.regionCommand n ⟨.powerUp, src⟩ bno = s.requestOn n (match src with | .host => .regionCtl | .thread t => .thread t.val) := by
  simp only [State.regionCommand, State.powerCommand, hd]
  rfl

theorem State.regionCommand_powerOff :
    s.regionCommand n ⟨.powerOff, src⟩ bno = s.requestOff n (match src with | .host => .regionCtl | .thread t => .thread t.val) := by
  simp only [State.regionCommand, State.powerCommand]
  cases s.dstate n <;> rfl

/-- A command that waited is still allowed: by its region's state, and a fill by R99 (R96). -/
def State.stillAllowed (s : State) (n : Nat) (c : RCmd) : Bool :=
  c.kind.allowedIn (s.rstate n) && match c.kind with
    | .fill p _ => (s.fillRefusal n p).isNone
    | _ => true

theorem State.stillAllowed_iff : s.stillAllowed n c = true ↔
    c.kind.allowedIn (s.rstate n) = true ∧ ∀ p pre, c.kind = .fill p pre → s.fillRefusal n p = none := by
  obtain ⟨kind, src⟩ := c
  cases kind
  case fill => simp only [State.stillAllowed, Bool.and_eq_true, Option.isNone_iff_eq_none, RCmdKind.fill.injEq, and_imp, forall_eq',
      forall_apply_eq_imp_iff]
  all_goals simp only [State.stillAllowed, Bool.and_true, reduceCtorEq, false_implies, implies_true, and_true]

/-- The oldest command of a region whose clock runs acts where it is still allowed, and is refused otherwise. -/
theorem exec_regionCmdEffect_oldest {n : Fin 64} {rest : List RCmd} {u : State} (hq : (s.region n.val).cmdq = c :: rest)
    (hc : s.clockRuns n.val = true) (hu : u = s.quiet.setRegion n.val { s.region n.val with cmdq := rest }) :
    exec (.regionCmdEffect n) s = .next (if u.stillAllowed n.val c then u.actRegion n.val c 0 else u.refuse n.val c .badState false) := by
  subst hu
  have hrun : ¬ (!(s.quiet.clockRuns n.val)) = true := by rw [show s.quiet.clockRuns n.val = true from hc]; decide
  change execRegionCmdEffect n s = _
  simp only [execRegionCmdEffect, show (s.quiet.region n.val).cmdq = _ from hq, if_neg hrun]
  have hcond (a b : Bool) (x y : State) : (if (!a || !b) = true then Host.Outcome.next y else .next x : Host.Outcome State Fault Refusal) =
      .next (if (a && b) = true then x else y) := by
    cases a <;> cases b <;> rfl
  exact hcond _ _ _ _

end

/-! ## Fills that are granted and that end (R100 to R102) -/

theorem exec_fillGrant_free {s : State} {n : Nat} {rest : List Nat} (hq : s.fillq = n :: rest) (hfree : s.fillsInFlight < s.fillLimit) :
    exec .fillGrant s = .next ((({ s.quiet with fillq := rest } : State).setShState n .filling).wr R.FILL_STAT_MAX_WAIT
      (max (min (s.now - (s.region n).fillAt) 0xFFFF) (s.rd R.FILL_STAT_MAX_WAIT))) := by
  change execFillGrant s = _
  simp only [execFillGrant, show s.quiet.fillq = _ from hq]
  exact if_neg (Nat.not_le.mpr hfree)

section

variable {s : State} {n : Fin 64} {p : Nat}

/-- A fill ends whose plane has a bad frame and none that is corrected. -/
theorem exec_fillComplete_bad {f : Nat} (hf : s.shState n.val = .filling) (hs : s.is1 (R.REGION_STATUS_SPILLING n.val) = false)
    (hp : p = s.rd (R.REGION_STATUS_SHADOW_PLANE n.val)) (hw : s.wildFrames n.val p = false) (hb : s.firstBad n.val p = some f)
    (h1 : s.singles n.val p = []) :
    exec (.fillComplete n) s = .next
      ((((s.quiet.fillEnded n.val 3 p 0).invalidateShadow n.val).damagePlane n.val p f).fallbackLost n.val) := by
  subst hp
  have hgo : ¬ (decide (s.quiet.shState n.val ≠ .filling) || s.quiet.is1 (R.REGION_STATUS_SPILLING n.val)) = true := by
    rw [show s.quiet.shState n.val = .filling from hf, show s.quiet.is1 _ = false from hs]; decide
  have hw' : s.quiet.wildFrames n.val (s.quiet.rd (R.REGION_STATUS_SHADOW_PLANE n.val)) = false := hw
  have hb' : s.quiet.firstBad n.val (s.quiet.rd (R.REGION_STATUS_SHADOW_PLANE n.val)) = some f := hb
  have h1' : s.quiet.singles n.val (s.quiet.rd (R.REGION_STATUS_SHADOW_PLANE n.val)) = [] := h1
  refine (if_neg hgo).trans ?_
  simp only [hw', hb', h1', Bool.false_eq_true, if_false, List.filter_nil, List.foldl_nil, List.length_nil]
  rfl

/-- A fill ends whose plane is good: the shadow latches take its frames, and the restored frames of a region item. -/
theorem exec_fillComplete_good {u : State} (hf : s.shState n.val = .filling) (hs : s.is1 (R.REGION_STATUS_SPILLING n.val) = false)
    (hp : p = s.rd (R.REGION_STATUS_SHADOW_PLANE n.val)) (hw : s.wildFrames n.val p = false) (hb : s.firstBad n.val p = none)
    (h1 : s.singles n.val p = []) (hsel : (s.region n.val).sel = false) (hu : u = { s.quiet with
      latches := storeReplace (latchKey n.val true 0) (latchKey n.val true 3900) (s.fillCopy n.val p true) s.latches }) :
    exec (.fillComplete n) s = .next ((((u.restoreFrames n.val p true).fillEnded n.val 1 p 0).wr (R.REGION_FILL_TIME n.val)
      (min ((u.restoreFrames n.val p true).now - ((u.restoreFrames n.val p true).region n.val).fillAt) 0xFFFF)).setShState n.val .ready) := by
  subst hp hu
  have hgo : ¬ (decide (s.quiet.shState n.val ≠ .filling) || s.quiet.is1 (R.REGION_STATUS_SPILLING n.val)) = true := by
    rw [show s.quiet.shState n.val = .filling from hf, show s.quiet.is1 _ = false from hs]; decide
  have hw' : s.quiet.wildFrames n.val (s.quiet.rd (R.REGION_STATUS_SHADOW_PLANE n.val)) = false := hw
  have hb' : s.quiet.firstBad n.val (s.quiet.rd (R.REGION_STATUS_SHADOW_PLANE n.val)) = none := hb
  have h1' : s.quiet.singles n.val (s.quiet.rd (R.REGION_STATUS_SHADOW_PLANE n.val)) = [] := h1
  have hsel' : (s.quiet.region n.val).sel = false := hsel
  refine (if_neg hgo).trans ?_
  simp only [hw', hb', h1', hsel', Bool.false_eq_true, if_false, List.filter_nil, List.foldl_nil, List.length_nil, List.isEmpty_nil, if_true,
    Bool.not_false]
  rfl

end

/-! ## Decision points, clamp cycles and edges (R104, R127 to R130) -/

section

variable {s : State} {n : Fin 64} {b p : Nat} {a : Arm} {job : SwapJob}

theorem State.takeLate_none (h : s.twin.take = none) : s.takeLate = s := by
  rw [State.takeLate, h]

theorem exec_decisionPoint_ready (hb : s.boundaryDue = true) (hd : (s.region n.val).decided = false) (ht : s.twin.take = none)
    (ho : s.overruns n.val = false) :
    exec (.decisionPoint n) s = .next (s.quiet.setRegion n.val { s.region n.val with decided := true }) := by
  have hgo : ¬ (!s.quiet.boundaryDue || (s.quiet.region n.val).decided) = true := by
    rw [show s.quiet.boundaryDue = true from hb, show (s.quiet.region n.val).decided = false from hd]; decide
  have hlate : s.quiet.takeLate = s.quiet := State.takeLate_none ht
  have hready : (!s.quiet.overruns n.val) = true := by rw [show s.quiet.overruns n.val = false from ho]; rfl
  refine (if_neg hgo).trans ?_
  simp only [hlate, if_pos hready]
  rfl

/-- The clock runs and no swap is in its clamp cycle. -/
theorem State.clamp_free {n : Nat} (hc : s.clockRuns n = true) (hn : (s.region n).clamping = none) :
    ¬ (!(s.quiet.clockRuns n) || (s.quiet.region n).clamping.isSome) = true := by
  rw [show s.quiet.clockRuns n = true from hc, show (s.quiet.region n).clamping = none from hn]; decide

theorem exec_clampCycle_goes (hc : s.clockRuns n.val = true) (hn : (s.region n.val).clamping = none)
    (ha : s.dueArm n.val = some (b, a)) (hv : s.clampVerdict n.val a = .goes) :
    exec (.clampCycle n) s = .next ((s.quiet.unarm n.val b).beginClamp n.val ⟨a.plane, false, a.src⟩) := by
  refine (if_neg (State.clamp_free hc hn)).trans ?_
  simp only [show s.quiet.dueArm n.val = _ from ha, show s.quiet.clampVerdict n.val a = .goes from hv]

theorem exec_clampCycle_refused {e : Refuse} (hc : s.clockRuns n.val = true) (hn : (s.region n.val).clamping = none)
    (ha : s.dueArm n.val = some (b, a)) (hv : s.clampVerdict n.val a = .refused e) :
    exec (.clampCycle n) s = .next ((s.quiet.unarm n.val b).refuseArmed n.val a e).finishStop := by
  refine (if_neg (State.clamp_free hc hn)).trans ?_
  simp only [show s.quiet.dueArm n.val = _ from ha, show s.quiet.clampVerdict n.val a = .refused e from hv]

/-- The earliest of the swaps that wait for no boundary takes its clamp cycle and its edge in one command. -/
theorem exec_armedSwapNoBoundary_goes (hc : s.clockRuns n.val = true) (hn : (s.region n.val).clamping = none)
    (ha : (s.region n.val).arms.find? (fun e => e.1 == 0) = some (0, a)) (hv : s.clampVerdict n.val a = .goes) :
    exec (.armedSwapNoBoundary n) s = .next (((s.quiet.unarm n.val 0).beginClamp n.val ⟨a.plane, false, a.src⟩).swapEdge n.val
      ⟨a.plane, false, a.src⟩) := by
  refine (if_neg (State.clamp_free hc hn)).trans ?_
  simp only [show (s.quiet.region n.val).arms.find? (fun e => e.1 == 0) = _ from ha, show s.quiet.clampVerdict n.val a = .goes from hv]

/-- The edge of a swap in its clamp cycle, by whether the region's state still allows it. -/
theorem exec_swapEdge_clamping (hj : (s.region n.val).clamping = some job) (hc : s.clockRuns n.val = true) :
    exec (.swapEdge n) s = .next (if s.edgeAllowed n.val job = true then (s.quiet.swapEdge n.val job).finishStop
      else (s.quiet.refuseClamp n.val job .badState).finishStop) := by
  have hrun : ¬ (!(s.quiet.clockRuns n.val)) = true := by rw [show s.quiet.clockRuns n.val = true from hc]; decide
  change execSwapEdge n s = _
  simp only [execSwapEdge, show (s.quiet.region n.val).clamping = _ from hj, if_neg hrun]
  exact (apply_ite Host.Outcome.next _ _ _).symm

theorem exec_spillComplete_spilling {gen : Nat} {u : State} (hs : (s.region n.val).spill = some (p, gen))
    (hu : u = (s.quiet.spillFrames n.val p gen 60).setPlTorn n.val p false) :
    exec (.spillComplete n) s = .next ((u.setRegion n.val { u.region n.val with spill := none }).clr (R.REGION_STATUS_SPILLING n.val)) := by
  subst hu
  change execSpillComplete n s = _
  simp only [execSpillComplete, show (s.quiet.region n.val).spill = _ from hs]

/-- A refetched frame whose good copy has been read, in a RUN cycle that is no clamp cycle. -/
theorem exec_refetch_read {f q data : Nat} {rest : List (Nat × Nat × Option Nat)} {u v : State}
    (hr : (s.region n.val).refetch = (f, q, some data) :: rest) (hrun : s.rstate n.val = .run) (hn : (s.region n.val).clamping = none)
    (hc : s.clockRuns n.val = true) (hu : u = (s.quiet.setRegion n.val { s.region n.val with refetch := rest }).setHold n.val .refetch)
    (hv : v = { u with latches := storeSet Frame.erased (latchKey n.val (s.region n.val).sel f) ⟨data, 0, []⟩ u.latches }) :
    exec (.refetch n) s = .next ((v.setRegion n.val { v.region n.val with badActive := (v.region n.val).badActive.filter (· ≠ f) }).clrHold
      n.val .refetch) := by
  subst hu hv
  have hgo : ¬ (decide (s.quiet.rstate n.val ≠ .run) || (s.quiet.region n.val).clamping.isSome || !(s.quiet.clockRuns n.val)) = true := by
    rw [show s.quiet.rstate n.val = .run from hrun, show (s.quiet.region n.val).clamping = none from hn,
      show s.quiet.clockRuns n.val = true from hc]
    decide
  change execRefetch n s = _
  simp only [execRefetch, show (s.quiet.region n.val).refetch = _ from hr]
  exact if_neg hgo

/-- A fallback whose plane is READY in the shadow of a region that nothing holds, and whose swap R103 does not refuse. -/
theorem exec_fallbackSwap_ready (hf : (s.region n.val).fallback = some p) (hready : s.shState n.val = .ready)
    (hd : s.holds n.val .debug = false) (hr : s.holds n.val .refetch = false) (hc : s.clockRuns n.val = true)
    (hn : (s.region n.val).clamping = none) (hs : s.swapRefusal n.val (some p) true = none) :
    exec (.fallbackSwap n) s = .next ((s.quiet.beginClamp n.val ⟨some p, true, .host⟩).swapEdge n.val ⟨some p, true, .host⟩) := by
  have hfills : ¬ ((s.quiet.shState n.val = .queued ∨ s.quiet.shState n.val = .filling) ∧
      s.quiet.rd (R.REGION_STATUS_SHADOW_PLANE n.val) = p) := by
    rw [show s.quiet.shState n.val = .ready from hready]; rintro ⟨h | h, -⟩ <;> cases h
  have hgo : ¬ (s.quiet.holds n.val .debug || s.quiet.holds n.val .refetch || !(s.quiet.clockRuns n.val) ||
      (s.quiet.region n.val).clamping.isSome) = true := by
    rw [show s.quiet.holds n.val .debug = false from hd, show s.quiet.holds n.val .refetch = false from hr,
      show s.quiet.clockRuns n.val = true from hc, show (s.quiet.region n.val).clamping = none from hn]
    decide
  change execFallbackSwap n s = _
  simp only [execFallbackSwap, show (s.quiet.region n.val).fallback = _ from hf, if_neg hfills, if_neg hgo,
    show s.quiet.swapRefusal n.val (some p) true = none from hs]

end

end Sys2Proof.Machine
end

section
/-! PROOF. Erasing and loading planes. -/

namespace Sys2Proof.Proofs

open Sys2Proof.Machine

/-- Settles O6: the erase by what refuses none of it, a frame by whether it is the next one and by what its plane is then. -/
theorem planesErasedAndLoaded : Obligations.PlanesErasedAndLoaded := by
  unfold Obligations.PlanesErasedAndLoaded
  refine ⟨?erase, ?complete, ?due, ?notDue, ?loading, ?active, ?shut⟩
  case erase =>
    rintro ini n p s u v rfl hfree hdark hon hin rfl hshadow hspill ht
    refine congrArg Host.Outcome.next ((State.written_ok ht).trans ?_)
    rw [State.erase_accepted hfree hdark hon hin hshadow hspill]
  case complete =>
    intro n p s he hh
    exact exec_eraseComplete_noneHeld he hh
  case due =>
    intro n p f data s u v sent hf hsent hu hv
    rw [hv, hu, hsent]
    refine if_neg ?_
    rw [show s.quiet.frameDue n.val p.val f.val = true from hf]
    decide
  case notDue =>
    intro n p f data s hf
    refine if_pos ?_
    rw [show s.quiet.frameDue n.val p.val f.val = false from hf]
    rfl
  case loading =>
    intro n p f data s ha hs he hd hl
    exact State.takeFrame_loading ha hs he hd hl
  case active =>
    intro n p f data s ha
    exact State.takeFrame_active ha
  case shut =>
    intro n p f data s ha hs
    exact State.takeFrame_shut ha hs

end Sys2Proof.Proofs
end

section
/-! PROOF. Region commands, fills and the region command path. -/

namespace Sys2Proof.Proofs

open Sys2Proof.Machine

/-- Settles O7: each command by the kind of its effect (power, at once, armed, queued), and the queued ones by whether they are still allowed. -/
theorem regionCommands : Obligations.RegionCommands := by
  unfold Obligations.RegionCommands
  refine ⟨?powerUp, ?powerOff, ?fill, ?swap, ?stop, ?hold, ?release, ?isolate, ?unisolate, ?clear, ?cancelFill, ?acts, ?fillRefused,
    ?refused, ?owner⟩
  case powerUp =>
    rintro n src s u hb hd hr rfl hd'
    refine congrArg Host.Outcome.next ((State.commandNow_timely (s := s.quiet) hb (.inl rfl)).trans ?_)
    rw [State.regionCommand_powerUp (s := s.quiet) hd, State.requestOn_off (s := s.quiet) hr hd']
  case powerOff =>
    intro n src s hb hd _ hr
    refine congrArg Host.Outcome.next ((State.commandNow_timely (s := s.quiet) hb (.inl rfl)).trans ?_)
    rw [State.regionCommand_powerOff, State.requestOff_on (s := s.quiet) hd hr]
  case fill =>
    intro n src p s hb hj hc hq hh hi hn
    refine congrArg Host.Outcome.next ((State.commandNow_timely (s := s.quiet) hb (.inl rfl)).trans ?_)
    rw [State.regionCommand_fill (s := s.quiet) hj hc hq, State.acceptFill_invalid (s := s.quiet) hh hi hn]
  case swap =>
    intro n src p s hb hj hd
    refine congrArg Host.Outcome.next ((State.commandNow_timely (s := s.quiet) hb (.inr hd)).trans ?_)
    exact State.regionCommand_arms (s := s.quiet) rfl hj
  case stop =>
    intro n src s hb hj hd
    refine congrArg Host.Outcome.next ((State.commandNow_timely (s := s.quiet) hb (.inr hd)).trans ?_)
    exact State.regionCommand_arms (s := s.quiet) rfl hj
  case hold | release =>
    intro n src s hb hj
    refine congrArg Host.Outcome.next ((State.commandNow_timely (s := s.quiet) hb (.inl rfl)).trans ?_)
    exact State.regionCommand_queued (s := s.quiet) rfl hj
  case isolate | unisolate | clear =>
    intro n s hb hj
    refine congrArg Host.Outcome.next ((State.commandNow_timely (s := s.quiet) (fun _ => hb) (.inl rfl)).trans ?_)
    exact State.regionCommand_queued (s := s.quiet) rfl hj
  case cancelFill =>
    intro n src s hb hj hc hl hq hs hf
    refine congrArg Host.Outcome.next ((State.commandNow_timely (s := s.quiet) hb (.inl rfl)).trans ?_)
    rw [State.regionCommand_cancelFill (s := s.quiet) hj hc hq, State.dropLater_none (s := s.quiet) hl,
      State.abandonFill_queued (s := s.quiet) hs hf]
    rfl
  case acts =>
    intro n c rest s u hq hc hu ha hf
    rw [exec_regionCmdEffect_oldest hq hc hu, if_pos (State.stillAllowed_iff.mpr ⟨ha, hf⟩)]
  case fillRefused =>
    intro n p pre src rest s u hq hc hu hf
    rw [exec_regionCmdEffect_oldest hq hc hu, if_neg fun h => hf ((State.stillAllowed_iff.mp h).2 p pre rfl)]
  case refused =>
    intro n c rest s u hq hc hu ha
    rw [exec_regionCmdEffect_oldest hq hc hu, if_neg fun h => Bool.eq_false_iff.mp ha (State.stillAllowed_iff.mp h).1]
  case owner =>
    intro ini n owner s hne hr ht
    refine congrArg Host.Outcome.next ((State.written_ok ht).trans ?_)
    exact congrArg (State.okWrite · ini) ((if_neg hne).trans (if_pos hr))

/-- Settles O8: the oldest command of the path and the first fill of the queue by what they meet, the end of a fill by its plane's frames. -/
theorem fillsAndTheCommandPath : Obligations.FillsAndTheCommandPath := by
  unfold Obligations.FillsAndTheCommandPath
  refine ⟨?arrival, ?squash, ?grant, ?bad, ?good⟩
  case arrival =>
    rintro n p t bno rest s u hp rfl hj
    change execSeqCommandArrival s = _
    simp only [execSeqCommandArrival, show s.quiet.rpath = _ from hp, State.regionCommand_arms rfl hj]
    rfl
  case squash =>
    rintro n p t s hspec hp hready ⟨hrestore, hlater⟩
    exact congrArg Host.Outcome.next (State.squashFill_ready (s := s.quiet) hspec hp hready hrestore hlater)
  case grant =>
    rintro n rest s u hq hfree rfl
    exact exec_fillGrant_free hq hfree
  case bad =>
    rintro n p f s u hf hs hp hw hb h1 rfl hnone
    rw [exec_fillComplete_bad hf hs hp hw hb h1, State.fallbackLost_none hnone]
  case good =>
    rintro n p s u r hf hs hp hw hb h1 hl rfl hsel hu
    have hrestore : u.restoreFrames n.val p true = u := State.restoreFrames_none (by rw [hu]; exact hl)
    rw [exec_fillComplete_good hf hs hp hw hb h1 hsel hu, hrestore]
    subst hu
    rfl

end Sys2Proof.Proofs
end

section
/-! PROOF. Swaps at boundaries. -/

namespace Sys2Proof.Proofs

open Sys2Proof.Machine

/-- Settles O9: each command by the swap, spill, frame or fallback that it finds. -/
theorem swapsAtBoundaries : Obligations.SwapsAtBoundaries := by
  unfold Obligations.SwapsAtBoundaries
  refine ⟨?decision, ?clamps, ?edge, ?edgeRefused, ?clampRefused, ?spill, ?noBoundary, ?refetch, ?fallback⟩
  case decision =>
    intro n s hb hd ht ho
    exact exec_decisionPoint_ready hb hd ht ho
  case clamps =>
    rintro n b p src s u hc hn ha hv rfl
    exact exec_clampCycle_goes hc hn ha hv
  case edge =>
    intro n job s hj hc ha
    rw [exec_swapEdge_clamping hj hc, if_pos ha]
  case edgeRefused =>
    intro n job s hj hc ha
    rw [exec_swapEdge_clamping hj hc, if_neg (Bool.eq_false_iff.mp ha)]
  case clampRefused =>
    intro n b a e s hc hn ha hv
    exact exec_clampCycle_refused hc hn ha hv
  case spill =>
    intro n p gen s u hs hu
    exact exec_spillComplete_spilling hs hu
  case noBoundary =>
    intro n a s hc hn ha hv
    exact exec_armedSwapNoBoundary_goes hc hn ha hv
  case refetch =>
    intro n f q data rest s u v hr hrun hn hc hu hv
    exact exec_refetch_read hr hrun hn hc hu hv
  case fallback =>
    rintro n p s hf hready ⟨hd, hr, hc, hn⟩ hs
    exact exec_fallbackSwap_ready hf hready hd hr hc hn hs

end Sys2Proof.Proofs
end

section
/-! PROOF. What commands leave unchanged: a loaded frame and the planes of the image (03_contexts.md, R117; 06_images.md, R207). -/

namespace Sys2Proof.Proofs

open Sys2Proof.Machine

/-- The image's PLANE_LOAD section of plane 0 of region 0, whose configuration domain is off, is open; the image's list names plane 8 of region 0, which
no part has and which is kept where plane 0 of region 1 is. That plane is DARK, and its frame 0 holds a 7. -/
def strayPlaneState : State :=
  { (State.reset.wr R.IMG_STATUS_STATE IState.stream.code).wr (planeFld 1 0) PlState.dark.code with
    img := { typ := 1, left := 512 }, imgPlanes := [(0, 8)], planes := [(planeKey 1 0 0, ⟨7, 0, []⟩)] }

/-- Refutes O60: the statement ranges over every state, and `imgPlanes` lists pairs of any numbers. In `strayPlaneState` the frame fails the image (0x0C),
and the scrub of its planes erases plane 0 of region 1 by the name (0, 8), although the list does not hold (1, 0). -/
theorem not_framesOfCommands : ¬ Obligations.FramesOfCommands := by
  unfold Obligations.FramesOfCommands
  rintro ⟨-, -, -, hload, -⟩
  obtain ⟨hframe, -⟩ := hload 0 0 0 0 strayPlaneState _ rfl
  have hkept := hframe 1 0 0 (by decide) (by decide)
  exact absurd hkept (by decide +kernel)

end Sys2Proof.Proofs
end

section
/-! SUPPORT. A commit, and what running ahead leaves alone (04_ticks_and_sequencer.md, R143, R144, R146; 05_paeri_isa.md, R168, R169). -/

namespace Sys2Proof.Machine

variable {s : State} {t pc : Nat} {i : Insn} {r : Row}

/-! ## What a commit leaves -/

/-- Nothing waits for the next commit point of thread t: no step or halt of the debugger, and no request of R136. -/
def State.nothingWaits (s : State) (t : Nat) : Prop :=
  (s.thread t).stepping = false ∧ (s.thread t).stopReq = false ∧ (s.thread t).haltReq = none ∧ (s.thread t).rstReq = false ∧
    s.is1 (R.DBG_THR_CTL_PEND t) = false

theorem State.commitPoint_nothing (h : s.nothingWaits t) : s.commitPoint t = s := by
  obtain ⟨hstep, hstop, hhalt, hrst, hpend⟩ := h
  have hacts : s.pendingActs t = s := by
    simp only [State.pendingActs, hstop, hhalt, hrst, Bool.false_eq_true, if_false]
  unfold State.commitPoint
  split
  · rfl
  · simp only [hacts, hpend, hstep, State.haltIf, Bool.or_self, Bool.false_and, Bool.false_eq_true, if_false]

/-- The thread's place and state are written last (R158). -/
theorem State.setTpc_tpc : (s.setTpc t pc).tpc t = pc % 2 ^ 15 := State.wr_rd_same ..

theorem State.setTpc_tstate : (s.setTpc t pc).tstate t = s.tstate t :=
  congrArg TState.ofCode (State.wr_rd_ne _ _ _ _ (by simp only [Fld.key, R.SEQ_THR_STATUS_STATE, R.SEQ_THR_STATUS_PC]; omega))

theorem State.setTstate_tstate (x : TState) : (s.setTstate t x).tstate t = x := by
  rw [State.tstate, State.setTstate, State.wr_rd_same]
  cases x <;> rfl

/-- No write of a thread's state or place reaches the halt of the debugger that waits. -/
theorem State.statusWrites_pend (ht : t < 4) (x : TState) :
    ((s.setTstate t x).setTpc t pc).is1 (R.DBG_THR_CTL_PEND t) = s.is1 (R.DBG_THR_CTL_PEND t) := by
  rw [State.is1, State.setTpc, State.setTstate, State.wr_rd_ne, State.wr_rd_ne, State.is1]
  all_goals simp only [Fld.key, R.DBG_THR_CTL_PEND, R.SEQ_THR_STATUS_PC, R.SEQ_THR_STATUS_STATE]; omega

/-- Where nothing waits for its commit point, a thread whose oldest instruction commits runs on at the place given. -/
theorem State.commitTo_runs (ht : t < 4) (h : s.nothingWaits t) :
    (s.commitTo t pc).tstate t = .run ∧ (s.commitTo t pc).tpc t = pc % 2 ^ 15 := by
  obtain ⟨hstep, hstop, hhalt, hrst, hpend⟩ := h
  simp only [State.commitTo, hstep, Bool.false_and, Bool.false_eq_true, if_false]
  rw [State.commitPoint_nothing]
  · exact ⟨State.setTpc_tstate.trans (State.setTstate_tstate _), State.setTpc_tpc⟩
  · refine ⟨?_, ?_, ?_, ?_, (State.statusWrites_pend ht _).trans hpend⟩
    all_goals simp only [State.setTpc, State.setTstate, State.wr_thread, State.thread_setThread, hstop, hhalt, hrst]

/-! ## What running ahead leaves alone -/

/-- What running ahead leaves alone of thread t: all but the lists of what it issued ahead. -/
def State.ownPart (s : State) (t : Nat) : Thread × TState × Nat × Bool :=
  ({ s.thread t with spec := [], issued := [], resolved := [], old := [] }, s.tstate t, s.tpc t, s.is1 (R.DBG_THR_CTL_PEND t))

theorem State.nothingWaits_of_ownPart {u : State} (h : u.ownPart t = s.ownPart t) (hw : s.nothingWaits t) : u.nothingWaits t := by
  obtain ⟨hthread, -, -, hpend⟩ : _ ∧ _ ∧ _ ∧ _ := by simpa only [State.ownPart, Prod.mk.injEq] using h
  obtain ⟨hstep, hstop, hhalt, hrst, hp⟩ := hw
  exact ⟨(congrArg Thread.stepping hthread).trans hstep, (congrArg Thread.stopReq hthread).trans hstop,
    (congrArg Thread.haltReq hthread).trans hhalt, (congrArg Thread.rstReq hthread).trans hrst, hpend.trans hp⟩

theorem State.tpc_of_ownPart {u : State} (h : u.ownPart t = s.ownPart t) : u.tpc t = s.tpc t := congrArg (·.2.2.1) h

theorem State.commits_of_ownPart {u : State} (h : u.ownPart t = s.ownPart t) : (u.thread t).commits = (s.thread t).commits :=
  congrArg (·.1.commits) h

/-- A change of the lists only. -/
theorem State.setThread_ownPart {x : Thread} (h : { x with spec := [], issued := [], resolved := [], old := [] } =
    { s.thread t with spec := [], issued := [], resolved := [], old := [] }) : (s.setThread t x).ownPart t = s.ownPart t := by
  simp only [State.ownPart, State.thread_setThread, h]
  rfl

/-- The counts of what running ahead did. -/
theorem State.bump_ownPart {f : Fld} (ht : t < 4) (hf : f = R.SEQ_THR_SPEC_MISPREDICT t ∨ f = R.SEQ_THR_SPEC_SQUASHED_PRE t) :
    (s.bump f).ownPart t = s.ownPart t := by
  have hrd (g : Fld) (hg : g.key ≠ f.key) : (s.bump f).rd g = s.rd g := State.wr_rd_ne _ _ _ _ hg
  simp only [State.ownPart, State.tstate, State.tpc, State.is1]
  rw [hrd, hrd, hrd]
  · rfl
  all_goals
    obtain rfl | rfl := hf <;>
    simp only [Fld.key, R.DBG_THR_CTL_PEND, R.SEQ_THR_STATUS_PC, R.SEQ_THR_STATUS_STATE, R.SEQ_THR_SPEC_MISPREDICT,
      R.SEQ_THR_SPEC_SQUASHED_PRE] <;> omega

theorem State.foldl_ownPart {α : Type} {l : List α} {f : State → α → State} (h : ∀ u x, (f u x).ownPart t = u.ownPart t) :
    (l.foldl f s).ownPart t = s.ownPart t := by
  induction l generalizing s with
  | nil => rfl
  | cons x l ih => rw [List.foldl_cons, ih, h]

theorem State.squashAfter_ownPart (ht : t < 4) (seq : Nat) : (s.squashAfter t seq).ownPart t = s.ownPart t := by
  unfold State.squashAfter
  refine (State.foldl_ownPart fun u o => ?_).trans (State.setThread_ownPart rfl)
  cases o with
  | pre k n p code => exact (State.bump_ownPart ht (.inr rfl)).trans rfl
  | read => rfl

theorem State.resolve_ownPart (ht : t < 4) (seq : Nat) (predicted taken : Bool) :
    (s.resolve t seq i predicted taken).ownPart t = s.ownPart t := by
  simp only [State.resolve]
  split
  · rfl
  split
  · exact (State.squashAfter_ownPart ht seq).trans ((State.bump_ownPart ht (.inl rfl)).trans (State.setThread_ownPart rfl))
  · exact State.setThread_ownPart rfl

theorem State.issueSlot_ownPart (k : Nat) : (s.issueSlot t k).ownPart t = s.ownPart t := by
  obtain h | ⟨l, h⟩ := s.issueSlot_cases t k <;> rw [h]
  exact State.setThread_ownPart rfl

theorem State.branchResolves_ownPart (ht : t < 4) : (s.branchResolves t r i).ownPart t = s.ownPart t :=
  (State.resolve_ownPart ht _ _ _).trans (State.issueSlot_ownPart 0)

theorem State.train_ownPart (hint : Nat) (taken : Bool) : (s.train hint pc taken).ownPart t = s.ownPart t := by
  unfold State.train
  split <;> rfl

/-! ## Branches -/

/-- A branch that has resolved ahead stays resolved. -/
theorem State.branchResolves_resolved {b : Bool} (h : s.resolution t (s.thread t).commits = some b) :
    (s.branchResolves t r i).resolution t (s.thread t).commits = some b := by
  obtain ⟨-, -, hcommits, hresolved, -⟩ := s.issueSlot_thread t 0
  have hr : (s.issueSlot t 0).resolution t (s.thread t).commits = some b := by
    rw [State.resolution, hresolved]
    exact h
  simp only [State.branchResolves, State.resolve, hcommits, hr, Option.isSome_some, if_true]

/-- A resolved branch goes to its target or to the next word (R143, R158). -/
theorem State.branchCommit_goes {b : Bool} (ht : t < 4) (hw : s.nothingWaits t) (hr : s.resolution t (s.thread t).commits = some b) :
    (s.branchCommit t i).tstate t = .run ∧
      (s.branchCommit t i).tpc t = if b = true then i.imm % 2 ^ 15 else (s.tpc t + 1) % 2 ^ 15 := by
  have hwaits := State.nothingWaits_of_ownPart (State.train_ownPart (pc := s.tpc t) (i.fn % 4) b) hw
  obtain ⟨hrun, hplace⟩ := State.commitTo_runs (pc := if b then i.imm % 32768 else nextPc (s.tpc t)) ht hwaits
  simp only [State.branchCommit, hr, Option.getD_some]
  refine ⟨hrun, hplace.trans ?_⟩
  cases b
  · exact Nat.mod_mod _ _
  · exact Nat.mod_mod _ _

/-- The oldest instruction, a branch that resolves one way, ahead or at its turn, goes that way. -/
theorem State.branch_goes {b : Bool} (ht : t < 4) (hw : s.nothingWaits t)
    (hr : (s.branchResolves t r i).resolution t (s.thread t).commits = some b) :
    ((s.branchResolves t r i).branchCommit t i).tstate t = .run ∧
      ((s.branchResolves t r i).branchCommit t i).tpc t = if b = true then i.imm % 2 ^ 15 else (s.tpc t + 1) % 2 ^ 15 := by
  have hown := State.branchResolves_ownPart (s := s) (r := r) (i := i) ht
  rw [← State.commits_of_ownPart hown] at hr
  rw [← State.tpc_of_ownPart hown]
  exact State.branchCommit_goes ht (State.nothingWaits_of_ownPart hown hw) hr

/-- A compare branch of untagged operands resolves and commits. -/
theorem State.branchOp_stands {k : Nat} (h : s.standsAt t i (.branch k) = true) (ha : s.tag t i.ra = false) (hb : s.tag t i.rb = false) :
    s.quiet.branchOp t k = (s.quiet.branchResolves t (.branch k) i).branchCommit t i := by
  have htags : ¬ ([i.ra, i.rb].any fun x => (s.quiet.branchResolves t (.branch k) i).tag t x) = true := by
    simp only [branchResolves_tag, State.tag_quiet, List.any_cons, List.any_nil, ha, hb]
    decide
  refine (State.oldest_of_standsAt (· == .branch k) _ h (beq_self_eq_true _)).trans ?_
  exact if_neg htags

theorem State.flagBranch_stands (h : s.standsAt t i r = true) :
    s.quiet.flagBranch t r = (s.quiet.branchResolves t r i).branchCommit t i :=
  State.oldest_of_standsAt _ _ h (beq_self_eq_true _)

/-- A thread that stands at an instruction has it at slot 0 of its window. -/
theorem State.slotInsn_of_standsAt (h : s.standsAt t i r = true) :
    ∃ w, s.window t 0 = some w ∧ w.pc = s.tpc t ∧ s.slotInsn t 0 w = some (i, r) := by
  obtain ⟨hrun, hpend, hold, herr, rfl, hrow, hres⟩ := of_decide_eq_true h
  refine ⟨⟨s.tpc t, (s.thread t).regs, (s.thread t).tags, 0, []⟩, ?_, rfl, ?_⟩
  · simp only [State.window, State.threadLive, hrun, decide_true, Bool.true_or, if_true]
  · simp only [State.slotInsn, Nat.add_zero, State.wordAt, hold, if_neg (Nat.not_le.mpr herr), hrow, hres, if_true]

/-- A branch is issued once, as it would issue now. -/
theorem State.issueSlot_branchIssue {k : Nat} {w : Window} (hw : s.window t k = some w) (hi : s.slotInsn t k w = some (i, r)) :
    (s.issueSlot t k).branchIssue t ((s.thread t).commits + k) w.pc i = s.branchIssue t ((s.thread t).commits + k) w.pc i := by
  have hissue : s.issueSlot t k = s ∨ ((s.thread t).issued.any (·.seq == (s.thread t).commits + k) = false ∧ s.issueSlot t k =
      s.setThread t { s.thread t with issued := (s.thread t).issued ++ [s.branchIssue t ((s.thread t).commits + k) w.pc i] }) := by
    simp only [State.issueSlot, hw, hi]
    split
    case h_4 => exact .inl rfl
    all_goals
      next heq =>
      obtain ⟨rfl, -⟩ : i = _ ∧ _ := by simpa only [Option.some.injEq, Prod.mk.injEq] using heq
      split
      · exact .inl rfl
      · exact .inr ⟨Bool.eq_false_iff.mpr ‹_›, rfl⟩
  obtain hsame | ⟨hnew, happend⟩ := hissue
  · rw [hsame]
  · have hnone : (s.thread t).issued.find? (·.seq == (s.thread t).commits + k) = none := by
      rw [List.find?_eq_none]
      exact fun e he hseq => Bool.eq_false_iff.mp hnew (List.any_eq_true.mpr ⟨e, he, hseq⟩)
    rw [happend]
    simp only [State.branchIssue, State.thread_setThread, List.find?_append, hnone, Option.none_or, Option.getD_none, List.find?_cons,
      beq_self_eq_true, Option.getD_some]

/-- How the branch that a thread stands at has issued does not depend on when it is asked. -/
theorem State.branchIssue_of_standsAt (h : s.standsAt t i r = true) :
    (s.issueSlot t 0).branchIssue t (s.thread t).commits (s.tpc t) i = s.branchIssue t (s.thread t).commits (s.tpc t) i := by
  obtain ⟨w, hw, hpc, hi⟩ := State.slotInsn_of_standsAt h
  rw [← hpc]
  exact State.issueSlot_branchIssue hw hi

theorem State.resolution_nil {seq : Nat} (h : (s.thread t).resolved = []) : s.resolution t seq = none := by
  rw [State.resolution, h]
  rfl

/-- The flags word as the branch saw it: as recorded at its issue, or, where it has not issued, as it is now (R144, R168). -/
def State.flagSeen (s : State) (t : Nat) (i : Insn) : Bool :=
  (((s.thread t).issued.find? (fun e => e.seq == (s.thread t).commits)).map (·.flag)).getD (s.flagLine (i.imm / 2 ^ 16 % 2 ^ 8))

theorem State.flagSeen_unissued (h : (s.thread t).issued.find? (fun e => e.seq == (s.thread t).commits) = none) :
    s.flagSeen t i = s.flagLine (i.imm / 2 ^ 16 % 2 ^ 8) := by
  rw [State.flagSeen, h]
  rfl

theorem State.flagSeen_issued {e : BranchIssue} (h : (s.thread t).issued.find? (fun e => e.seq == (s.thread t).commits) = some e) :
    s.flagSeen t i = e.flag := by
  rw [State.flagSeen, h]
  rfl

theorem State.branchIssue_flag : (s.branchIssue t (s.thread t).commits pc i).flag = s.flagSeen t i := by
  rw [State.branchIssue, State.flagSeen]
  cases (s.thread t).issued.find? (fun e => e.seq == (s.thread t).commits) <;> rfl

/-- A branch that has not resolved ahead goes as its operands, or the flag line of its issue, say. -/
theorem State.unresolvedBranch_goes (ht : t < 4) (h : s.standsAt t i r = true) (hn : (s.thread t).resolved = []) (hw : s.nothingWaits t)
    {c : Prop} [Decidable c] (hc : branchOutcome r (s.reg t i.ra) (s.reg t i.rb) (s.flagSeen t i) = true ↔ c) :
    ((s.quiet.branchResolves t r i).branchCommit t i).tstate t = .run ∧
      ((s.quiet.branchResolves t r i).branchCommit t i).tpc t = if c then i.imm % 2 ^ 15 else (s.tpc t + 1) % 2 ^ 15 := by
  have hq : s.quiet.standsAt t i r = true := h
  have hres := branchResolves_resolution s.quiet t r i (State.resolution_nil hn)
  rw [State.branchIssue_of_standsAt hq, State.branchIssue_flag] at hres
  obtain ⟨hrun, hplace⟩ := State.branch_goes (s := s.quiet) ht hw hres
  exact ⟨hrun, hplace.trans (ite_congr (propext hc) (fun _ => rfl) fun _ => rfl)⟩

/-- A branch that has resolved ahead goes the way it resolved. -/
theorem State.resolvedBranch_goes {b : Bool} (ht : t < 4)
    (hn : (s.thread t).resolved.find? (fun e => e.1 == (s.thread t).commits) = some ((s.thread t).commits, b)) (hw : s.nothingWaits t) :
    ((s.quiet.branchResolves t r i).branchCommit t i).tstate t = .run ∧
      ((s.quiet.branchResolves t r i).branchCommit t i).tpc t = if b = true then i.imm % 2 ^ 15 else (s.tpc t + 1) % 2 ^ 15 :=
  State.branch_goes (s := s.quiet) ht hw (State.branchResolves_resolved (congrArg (Option.map Prod.snd) hn))

/-! ## The conditions of R168 -/

variable {x y : Word} {flag level : Bool}

theorem branchOutcome_bfs (h : flag = level) : branchOutcome .bfs x y flag = true ↔ level = true := by
  rw [← h]
  rfl
theorem branchOutcome_bfc (h : flag = level) : branchOutcome .bfc x y flag = true ↔ level = false := by
  rw [← h]
  exact iff_of_eq (Bool.not_eq_true' _)
theorem branchTaken_lt : branchTaken 2 x y = true ↔ x.toInt < y.toInt := BitVec.slt_iff_toInt_lt
theorem branchTaken_ge : branchTaken 3 x y = true ↔ y.toInt ≤ x.toInt := by
  rw [← Int.not_lt, ← branchTaken_lt, Bool.not_eq_true]
  exact iff_of_eq (Bool.not_eq_true' _)
theorem branchTaken_ltu : branchTaken 4 x y = true ↔ x.toNat < y.toNat := BitVec.ult_iff_lt
theorem branchTaken_geu : branchTaken 5 x y = true ↔ y.toNat ≤ x.toNat := by
  rw [← Nat.not_lt, ← branchTaken_ltu, Bool.not_eq_true]
  exact iff_of_eq (Bool.not_eq_true' _)

end Sys2Proof.Machine
end

section
/-! PROOF. Where a branch or jump goes. -/

namespace Sys2Proof.Machine

variable {s : State} {t : Fin 4} {i : Insn} {r : Row} {c : Instr}

/-- The commands of the branches, each with its row of the opcode map (R168). -/
def branchForms (t : Fin 4) : List (Instr × Row) :=
  [(.beq t, .branch 0), (.bne t, .branch 1), (.blt t, .branch 2), (.bge t, .branch 3), (.bltu t, .branch 4), (.bgeu t, .branch 5),
    (.bfs t, .bfs), (.bfc t, .bfc)]

/-- A branch whose consumed operands are untagged resolves, if it has not, and commits. -/
theorem exec_branch_stands (hc : (c, r) ∈ branchForms t) (h : s.standsAt t.val i r = true) (ha : s.tag t.val i.ra = false)
    (hb : s.tag t.val i.rb = false) : exec c s = .next ((s.quiet.branchResolves t.val r i).branchCommit t.val i) := by
  simp only [branchForms, List.mem_cons, List.not_mem_nil, or_false, Prod.mk.injEq] at hc
  obtain ⟨rfl, rfl⟩ | ⟨rfl, rfl⟩ | ⟨rfl, rfl⟩ | ⟨rfl, rfl⟩ | ⟨rfl, rfl⟩ | ⟨rfl, rfl⟩ | ⟨rfl, rfl⟩ | ⟨rfl, rfl⟩ := hc
  case inr.inr.inr.inr.inr.inr.inl | inr.inr.inr.inr.inr.inr.inr => exact congrArg _ (State.flagBranch_stands h)
  all_goals exact congrArg _ (State.branchOp_stands h ha hb)

theorem exec_bfs_stands (h : s.standsAt t.val i .bfs = true) :
    exec (.bfs t) s = .next ((s.quiet.branchResolves t.val .bfs i).branchCommit t.val i) := congrArg _ (State.flagBranch_stands h)

theorem exec_bfc_stands (h : s.standsAt t.val i .bfc = true) :
    exec (.bfc t) s = .next ((s.quiet.branchResolves t.val .bfc i).branchCommit t.val i) := congrArg _ (State.flagBranch_stands h)

theorem exec_jal_stands (h : s.standsAt t.val i .jal = true) : exec (.jal t) s =
    .next ((s.quiet.setReg t.val i.rd (BitVec.ofNat 64 (nextPc (s.tpc t.val))) false).commitTo t.val (i.imm % 32768)) :=
  congrArg _ (State.oldest_of_standsAt (· == .jal) _ h rfl)

theorem exec_jalr_stands (h : s.standsAt t.val i .jalr = true) (ha : s.tag t.val i.ra = false) : exec (.jalr t) s =
    .next ((s.quiet.setReg t.val i.rd (BitVec.ofNat 64 (nextPc (s.tpc t.val))) false).commitTo t.val
      ((s.reg t.val i.ra + i.simm).toNat % 32768)) :=
  congrArg _ ((State.oldest_of_standsAt (· == .jalr) _ h rfl).trans (State.consuming_untagged (s := s.quiet) _ ha))

/-- A write of a register leaves what waits for the thread's commit point. -/
theorem State.setReg_nothingWaits {s : State} {t k : Nat} {v : Word} {tag : Bool} (h : s.nothingWaits t) : (s.setReg t k v tag).nothingWaits t := by
  simpa only [State.nothingWaits, State.setReg, State.thread_setThread, State.is1, State.setThread_rd] using h

end Sys2Proof.Machine

namespace Sys2Proof.Proofs

open Sys2Proof.Machine

/-- Settles O54: a branch by how it resolves, ahead or at its turn; a jump by its target. -/
theorem branchesGoWhereTheyShould : Obligations.BranchesGoWhereTheyShould := by
  unfold Obligations.BranchesGoWhereTheyShould
  refine ⟨?beq, ?bne, ?blt, ?bge, ?bltu, ?bgeu, ?bfs, ?bfc, ?bfsIssued, ?bfcIssued, ?ahead, ?jal, ?jalr⟩
  case beq =>
    intro t i s h hn hw ha hb
    exact ⟨_, congrArg Host.Outcome.next (State.branchOp_stands h ha hb), State.unresolvedBranch_goes t.isLt h hn hw beq_iff_eq⟩
  case bne =>
    intro t i s h hn hw ha hb
    exact ⟨_, congrArg Host.Outcome.next (State.branchOp_stands h ha hb), State.unresolvedBranch_goes t.isLt h hn hw bne_iff_ne⟩
  case blt =>
    intro t i s h hn hw ha hb
    exact ⟨_, congrArg Host.Outcome.next (State.branchOp_stands h ha hb), State.unresolvedBranch_goes t.isLt h hn hw branchTaken_lt⟩
  case bge =>
    intro t i s h hn hw ha hb
    exact ⟨_, congrArg Host.Outcome.next (State.branchOp_stands h ha hb), State.unresolvedBranch_goes t.isLt h hn hw branchTaken_ge⟩
  case bltu =>
    intro t i s h hn hw ha hb
    exact ⟨_, congrArg Host.Outcome.next (State.branchOp_stands h ha hb), State.unresolvedBranch_goes t.isLt h hn hw branchTaken_ltu⟩
  case bgeu =>
    intro t i s h hn hw ha hb
    exact ⟨_, congrArg Host.Outcome.next (State.branchOp_stands h ha hb), State.unresolvedBranch_goes t.isLt h hn hw branchTaken_geu⟩
  case bfs =>
    intro t i s h hn hw hissue
    exact ⟨_, exec_bfs_stands h, State.unresolvedBranch_goes t.isLt h hn hw (branchOutcome_bfs (State.flagSeen_unissued hissue))⟩
  case bfc =>
    intro t i s h hn hw hissue
    exact ⟨_, exec_bfc_stands h, State.unresolvedBranch_goes t.isLt h hn hw (branchOutcome_bfc (State.flagSeen_unissued hissue))⟩
  case bfsIssued =>
    intro t i e s h hn hw hissue
    exact ⟨_, exec_bfs_stands h, State.unresolvedBranch_goes t.isLt h hn hw (branchOutcome_bfs (State.flagSeen_issued hissue))⟩
  case bfcIssued =>
    intro t i e s h hn hw hissue
    exact ⟨_, exec_bfc_stands h, State.unresolvedBranch_goes t.isLt h hn hw (branchOutcome_bfc (State.flagSeen_issued hissue))⟩
  case ahead =>
    intro t i r c b s hc h hn hw ha hb
    exact ⟨_, exec_branch_stands hc h ha hb, State.resolvedBranch_goes t.isLt hn hw⟩
  case jal =>
    intro t i s h _ hw
    obtain ⟨hrun, hplace⟩ := State.commitTo_runs t.isLt (State.setReg_nothingWaits (s := s.quiet) hw)
    exact ⟨_, exec_jal_stands h, hrun, hplace.trans (Nat.mod_mod _ _)⟩
  case jalr =>
    intro t i s h _ hw ha
    obtain ⟨hrun, hplace⟩ := State.commitTo_runs t.isLt (State.setReg_nothingWaits (s := s.quiet) hw)
    exact ⟨_, exec_jalr_stands h ha, hrun, hplace.trans (Nat.mod_mod _ _)⟩

end Sys2Proof.Proofs
end

section
/-! SUPPORT. What no operation of an idle reference cycle changes (log entry 5): the queue, the fuses, the scratchpads, the stored frames and the count
of reference cycles. One lemma per operation, in the order in which the operations are defined. -/

namespace Sys2Proof.Machine

/-- What the operations of an idle cycle leave alone: the queue, the bins, the fuses, the scratchpad bytes, the stored frames, the cycle count. -/
abbrev StillData := List Instr × Fuses × SecFuses × Store Nat × Store Frame × Nat

/-- That part of a state. -/
def State.still (s : State) : StillData := (s.pending, s.fuses, s.lcFuses, s.spad, s.planes, s.now)

variable {s o : State}

theorem State.foldl_still {α : Type} {l : List α} {f : State → α → State} (h : ∀ u x, (f u x).still = u.still) :
    (l.foldl f s).still = s.still := by
  induction l generalizing s with
  | nil => rfl
  | cons x l ih => rw [List.foldl_cons, ih, h]

theorem State.each_still {is : List Nat} {f : State → Nat → State} (h : ∀ u i, (f u i).still = u.still) : (s.each is f).still = s.still :=
  State.foldl_still h

/-! ## The end of a stop, and GPIO banks (R80, R81, R124) -/

theorem State.generatorStops_still : s.generatorStops.still = s.still := by
  refine (State.each_still fun u n => ?_).trans rfl
  dsimp only
  split <;> rfl

theorem State.finishStop_still : s.finishStop.still = s.still := by
  unfold State.finishStop
  split
  · exact State.generatorStops_still
  · rfl

theorem State.underrun_still (n p : Nat) : (s.underrun n p).still = s.still := by
  simp only [State.underrun]
  split <;> rfl

theorem State.samplePins_still (n p : Nat) : (s.samplePins n p).still = s.still := by
  simp only [State.samplePins]
  split <;> rfl

theorem State.setPad_still (b : Nat) (x : Pads) : (s.setPad b x).still = s.still := rfl

theorem State.drivePins_still (b n p : Nat) : (s.drivePins b n p).still = s.still := by
  unfold State.drivePins
  dsimp only
  rw [apply_ite State.still, State.setPad_still, ite_self]
  split
  · split
    · rfl
    · exact State.underrun_still n p
  · exact State.underrun_still n p

theorem State.bankEdge_still (b : Nat) : (s.bankEdge b).still = s.still := by
  unfold State.bankEdge
  split
  · split <;> rfl
  · split
    · rfl
    · dsimp only
      rw [apply_ite State.still, State.setPad_still, ite_self]
      exact (State.drivePins_still b _ _).trans (State.samplePins_still _ _)

/-! ## Lanes (R329, R353, R492) and watchdogs (R153) -/

theorem State.setLink_still (g : Nat) (x : Link) : (s.setLink g x).still = s.still := rfl

theorem State.deliverRaw_still (g k : Nat) : (s.deliverRaw g k).still = s.still := by
  simp only [State.deliverRaw]
  split
  · rfl
  · exact (State.foldl_still (f := fun s f => s.toFabricRaw g f) fun _ _ => rfl).trans (State.setLink_still g _)

theorem State.traceFreed_still : s.traceFreed.still = s.still := by
  unfold State.traceFreed
  split <;> rfl

theorem State.traceLane_still : s.traceLane.still = s.still := by
  simp only [State.traceLane]
  split
  · exact State.traceFreed_still.trans rfl
  · rfl

theorem State.sendEncoded_still (g : Nat) (columns : List (List Sym)) : (s.sendEncoded g columns).still = s.still := rfl

theorem State.lineTick_still (g : Nat) : (s.lineTick g).still = s.still := by
  unfold State.lineTick
  split
  · rfl
  · exact (State.sendEncoded_still g _).trans (State.setLink_still g _)

theorem State.wdtTick_still (t : Nat) : (s.wdtTick t).still = s.still := by
  simp only [State.wdtTick]
  split
  · rfl
  · split <;> rfl

/-! ## The fabric's edges (R20 to R23, R45 to R58, R84, R111, R402) -/

variable {ticks : List Nat} {p : Nat × Nat} {nets : List (Nat × Nat)}

theorem State.latches_still (l : Store Frame) : ({ s with latches := l } : State).still = s.still := rfl

theorem State.flopsEdge_still (n : Nat) : (o.flopsEdge ticks n s).still = s.still := by
  unfold State.flopsEdge
  split
  · rfl
  · exact State.each_still fun _ _ => State.latches_still _

theorem State.slicesEdge_still (n : Nat) : (o.slicesEdge ticks n s).still = s.still := by
  unfold State.slicesEdge
  split
  · rfl
  · refine State.each_still fun u j => ?_
    dsimp only
    split <;> rfl

theorem State.bramWrite_still (block row mask v : Nat) : (s.bramWrite block row mask v).still = s.still := rfl

theorem State.setRamPort_still (n k : Nat) (b : Bool) (x : RamPort) : (s.setRamPort n k b x).still = s.still := rfl

theorem State.ramEdge_still (n k : Nat) (b : Bool) : (o.ramEdge p n k b s).still = s.still := by
  simp only [State.ramEdge, apply_ite State.still, State.bramWrite_still, State.setRamPort_still, ite_self]

theorem State.countRamEcc_still (n k : Nat) (c u : Bool) : (s.countRamEcc n k c u).still = s.still := by
  cases c <;> cases u <;> rfl

theorem State.gangedEdge_still (n k : Nat) : (o.gangedEdge p n k s).still = s.still := by
  simp only [State.gangedEdge, apply_ite State.still, State.bramWrite_still, State.setRamPort_still, State.countRamEcc_still, ite_self]

theorem State.ramsEdge_still (n : Nat) : (o.ramsEdge ticks p n s).still = s.still := by
  unfold State.ramsEdge
  split
  · rfl
  · refine State.each_still fun u k => ?_
    dsimp only
    split
    · split
      · exact State.gangedEdge_still n k
      · rfl
    · rw [apply_ite State.still, State.ramEdge_still, ite_self, apply_ite State.still, State.ramEdge_still, ite_self]

theorem State.cellsEdge_still (n : Nat) : (o.cellsEdge nets n s).still = s.still := by
  refine State.each_still fun u g => ?_
  dsimp only
  split
  · rfl
  · split <;> rfl

theorem State.releaseClamp_still (n : Nat) : (s.releaseClamp n).still = s.still := by
  simp only [State.releaseClamp]
  split <;> rfl

theorem State.eachFace_still {n : Nat} {f : State → Nat → Nat → Nat → State} (h : ∀ u x y c, (f u x y c).still = u.still) :
    (s.eachFace n f).still = s.still :=
  State.each_still fun _ _ => State.each_still fun _ _ => h _ _ _ _

theorem State.faceEdge_still (computed : Bool) (x y c : Nat) : (s.faceEdge computed x y c).still = s.still := by
  simp only [State.faceEdge]
  split
  · rfl
  · split <;> rfl

theorem State.eventEdge_still (n : Nat) : (s.eventEdge n).still = s.still := by
  simp only [State.eventEdge]
  split
  · rfl
  · split <;> rfl

theorem State.setRegion_still (n : Nat) (r : Region) : (s.setRegion n r).still = s.still := rfl

theorem State.fabricEdge_still (n : Nat) : (o.fabricEdge p nets s n).still = s.still := by
  have hedges (ticks : List Nat) :
      (o.cellsEdge nets n (o.ramsEdge ticks p n (o.slicesEdge ticks n (o.flopsEdge ticks n s)))).still = s.still := by
    rw [State.cellsEdge_still, State.ramsEdge_still, State.slicesEdge_still, State.flopsEdge_still]
  simp only [State.fabricEdge]
  split
  · rfl
  split
  · exact hedges _
  · rw [State.eachFace_still fun _ => State.faceEdge_still _, apply_ite State.still, State.eventEdge_still, ite_self, apply_ite State.still,
      State.setRegion_still, ite_self, State.releaseClamp_still, hedges]

theorem State.gateEdge_still (e : Nat × Nat) : (s.gateEdge e).still = s.still := by
  unfold State.gateEdge
  split <;> rfl

theorem State.fabricPoint_still (p : Nat × Nat) : (s.fabricPoint p).still = s.still :=
  (State.foldl_still fun _ _ => State.gateEdge_still _).trans (State.foldl_still fun _ _ => State.fabricEdge_still _)

theorem State.refreshFaces_still : s.refreshFaces.still = s.still := by
  refine State.each_still fun u n => ?_
  dsimp only
  split
  · rfl
  · refine State.eachFace_still fun v x y c => ?_
    split <;> rfl

theorem State.fabricCycle_still : s.fabricCycle.still = s.still :=
  State.refreshFaces_still.trans (State.foldl_still fun _ _ => State.fabricPoint_still _)

/-! ## The idle cycle -/

/-- An idle cycle counts one reference cycle and leaves the rest of that part alone. -/
theorem State.idle_still : s.idle.still = (s.pending, s.fuses, s.lcFuses, s.spad, s.planes, s.now + 1) := by
  have hfabric : ({ s.quiet.fabricCycle with now := s.quiet.fabricCycle.now + 1 } : State).still =
      (s.pending, s.fuses, s.lcFuses, s.spad, s.planes, s.now + 1) :=
    congrArg (fun d : StillData => (d.1, d.2.1, d.2.2.1, d.2.2.2.1, d.2.2.2.2.1, d.2.2.2.2.2 + 1)) (State.fabricCycle_still (s := s.quiet))
  unfold State.idle
  dsimp only
  rw [State.each_still fun _ _ => State.lineTick_still _, State.traceLane_still, State.finishStop_still, State.each_still fun u g => ?raw,
    State.each_still fun _ _ => State.bankEdge_still _, State.each_still fun _ _ => State.wdtTick_still _, hfabric]
  case raw =>
    split
    · rfl
    · exact State.deliverRaw_still _ _

theorem step_command {c : Instr} {rest : List Instr} (h : s.pending = c :: rest) : step s = exec c { s with pending := rest } := by
  rw [step, h]

theorem step_idle (h : s.pending = []) : step s = .next s.idle := by
  rw [step, h]

end Sys2Proof.Machine
end

section
/-! PROOF. A step runs the command at the front of the queue. -/

namespace Sys2Proof.Proofs

open Sys2Proof.Machine

/-- Settles O45: the two cases of the queue; an idle cycle by its operations, each of which keeps what the statement names. -/
theorem stepRunsTheFrontCommand : Obligations.StepRunsTheFrontCommand := by
  unfold Obligations.StepRunsTheFrontCommand
  refine ⟨?command, ?core, ?idle⟩
  case command =>
    intro c rest s h
    exact step_command h
  case core =>
    intro c rest s h
    rw [Host.Check.core_step]
    exact step_command h
  case idle =>
    intro s h
    obtain ⟨hpending, hfuses, hlc, hspad, hplanes, hnow⟩ : _ ∧ _ ∧ _ ∧ _ ∧ _ ∧ _ := by
      simpa only [State.still, Prod.mk.injEq] using State.idle_still (s := s)
    exact ⟨step_idle h, hnow, hpending.trans h, hfuses, hlc, hspad, hplanes⟩

end Sys2Proof.Proofs
end

section
/-! PROOF. Constants, counts, branches and jumps. -/

namespace Sys2Proof.Machine

variable {s : State} {t : Fin 4} {i : Insn}

/-! ## Constants and counts (R167) -/

theorem exec_nop_stands (h : s.standsAt t.val i .nop = true) : exec (.nop t) s = .next (s.quiet.commit t.val) :=
  congrArg _ (State.oldest_of_standsAt (· == .nop) _ h rfl)

theorem exec_li_stands (h : s.standsAt t.val i .li = true) :
    exec (.li t) s = .next ((s.quiet.setReg t.val i.rd i.simm false).commit t.val) :=
  congrArg _ (State.oldest_of_standsAt (· == .li) _ h rfl)

theorem exec_lih_stands (h : s.standsAt t.val i .lih = true) :
    exec (.lih t) s = .next ((s.quiet.setReg t.val i.rd (lihValue i.imm (s.reg t.val i.ra)) (s.tag t.val i.ra)).commit t.val) :=
  congrArg _ (State.oldest_of_standsAt (· == .lih) _ h rfl)

/-- POPC, CLZ and CTZ by FN. -/
theorem State.unaryOp_stands {t fn : Nat} (h : s.standsAt t i (.unary fn) = true) : s.quiet.unaryOp t fn =
    (s.quiet.setReg t i.rd (unary fn (s.reg t i.ra)) (s.tag t i.ra)).commit t :=
  State.oldest_of_standsAt (· == .unary fn) _ h (beq_self_eq_true _)

/-! ## Branches (R144, R146) -/

theorem State.branchCommit_resolved {t : Nat} {taken : Bool} (h : s.resolution t (s.thread t).commits = some taken) :
    s.branchCommit t i =
      (s.train (i.fn % 4) (s.tpc t) taken).commitTo t (if taken then i.imm % 32768 else nextPc (s.tpc t)) := by
  rw [State.branchCommit, h]
  rfl

/-- A branch that went the other way than it was predicted is counted, and squashes what followed it. -/
theorem State.resolve_mispredicted {t seq : Nat} {p taken : Bool} (h : s.resolution t seq = none) (hf : i.fn % 4 ≠ 3) (hp : p ≠ taken) :
    s.resolve t seq i p taken =
      ((s.setThread t { s.thread t with resolved := (s.thread t).resolved ++ [(seq, taken)] }).bump (R.SEQ_THR_SPEC_MISPREDICT t)).squashAfter
        t seq := by
  have hmiss : (decide (i.fn % 4 ≠ 3) && p != taken) = true := by
    rw [decide_eq_true hf, bne_iff_ne.mpr hp]
    rfl
  simp only [State.resolve, h, Option.isSome_none, Bool.false_eq_true, if_false, if_pos hmiss]

/-- A compare branch with its operands delivered resolves ahead of its commit. -/
theorem exec_branchResolve_delivered {k : Fin 24} {u : State} {w : Window} {b : Nat} (hu : u = s.quiet.issueBelow t.val (k.val + 1))
    (hw : u.window t.val k.val = some w) (hi : u.slotInsn t.val k.val w = some (i, .branch b)) (ha : w.has i.ra = true)
    (hb : w.has i.rb = true) :
    exec (.branchResolve t k) s = .next (u.resolve t.val ((u.thread t.val).commits + k.val) i
      (u.branchIssue t.val ((u.thread t.val).commits + k.val) w.pc i).taken (branchTaken b (w.reg i.ra) (w.reg i.rb))) := by
  subst hu
  change execBranchResolve t k s = _
  simp only [execBranchResolve, hw, hi, ha, hb, Bool.and_self, if_true, branchOutcome]

end Sys2Proof.Machine

namespace Sys2Proof.Proofs

open Sys2Proof.Machine

/-- Settles O13: each instruction by its body where the thread stands at it, a branch by its resolution. -/
theorem constantsCountsAndFlow : Obligations.ConstantsCountsAndFlow := by
  unfold Obligations.ConstantsCountsAndFlow
  refine ⟨?nop, ?li, ?lih, ?popc, ?clz, ?ctz, ?beq, ?bne, ?blt, ?bge, ?bltu, ?bgeu, ?bfs, ?bfc, ?resolves, ?outcome, ?commits, ?missed,
    ?jal, ?jalr, ?ahead⟩
  case nop =>
    intro t i s h
    exact exec_nop_stands h
  case li =>
    intro t i s h
    exact exec_li_stands h
  case lih =>
    intro t i s h
    exact exec_lih_stands h
  case popc | clz | ctz =>
    intro t i s h
    exact congrArg Host.Outcome.next (State.unaryOp_stands h)
  case beq | bne | blt | bge | bltu | bgeu =>
    intro t i s h ha hb
    exact congrArg Host.Outcome.next (State.branchOp_stands h ha hb)
  case bfs =>
    intro t i s h
    exact exec_bfs_stands h
  case bfc =>
    intro t i s h
    exact exec_bfc_stands h
  case resolves =>
    intro t r i s h
    exact branchResolves_resolution s t.val r i h
  case outcome =>
    intro k x y flag
    exact ⟨rfl, rfl, rfl⟩
  case commits =>
    intro t i taken s h
    exact State.branchCommit_resolved h
  case missed =>
    rintro t seq i p taken s u h hf hp rfl
    exact State.resolve_mispredicted h hf hp
  case jal =>
    intro t i s h
    exact exec_jal_stands h
  case jalr =>
    intro t i s h ha
    exact exec_jalr_stands h ha
  case ahead =>
    rintro t k s u w i b seq e hu rfl hw hi ⟨ha, hb⟩ rfl
    exact exec_branchResolve_delivered hu hw hi ha hb

end Sys2Proof.Proofs
end

section
/-! PROOF. Instructions that act on the rest of the device. -/

namespace Sys2Proof.Machine

variable {s : State} {t : Nat} {i : Insn} {row : Row}

/-! ## How the oldest instruction is taken (R137, R161) -/

/-- A thread that stands at an instruction with one untagged operand executes it. -/
theorem State.oldest_consuming (mine : Row → Bool) (reg : Insn → Nat) (body : Insn → State → State) (h : s.standsAt t i row = true)
    (hm : mine row = true) (ha : s.tag t (reg i) = false) :
    s.quiet.oldest t mine (fun i s => s.consuming t [reg i] (body i)) = body i s.quiet :=
  (State.oldest_of_standsAt mine _ h hm).trans (State.consuming_untagged (s := s.quiet) _ ha)

/-- The same with two operands. -/
theorem State.oldest_consumingTwo (mine : Row → Bool) (body : Insn → State → State) (h : s.standsAt t i row = true) (hm : mine row = true)
    (ha : s.tag t i.ra = false) (hb : s.tag t i.rb = false) :
    s.quiet.oldest t mine (fun i s => s.consuming t [i.ra, i.rb] (body i)) = body i s.quiet := by
  refine (State.oldest_of_standsAt mine _ h hm).trans (if_neg ?_)
  rw [List.any_cons, List.any_cons, List.any_nil, State.tag_quiet, State.tag_quiet, ha, hb]
  decide

/-! ## Region commands (R141, R176) -/

/-- Outside a locked sequence a region command enters the path, in time for the next boundary where it arms, and commits. -/
theorem State.regionOp_timely {n : Nat} {kind : RCmdKind} (hl : s.locked t = false)
    (hd : kind.arms = false ∨ (s.region n).decided = false) : s.regionOp t n kind = (s.enterPath t n kind (s.armTarget n)).commit t := by
  refine (if_neg (Bool.eq_false_iff.mp hl)).trans ?_
  cases kind
  case swap | stop => simp only [State.lateArm_undecided (hd.resolve_left Bool.false_ne_true.symm)]
  all_goals rfl

/-- A region command with the region as its one operand. -/
theorem State.regionInsn_stands {kind : RCmdKind} (mine : Row → Bool) (h : s.standsAt t i row = true) (hm : mine row = true)
    (hl : s.locked t = false) (ha : s.tag t i.ra = false)
    (hd : kind.arms = false ∨ (s.region (i.regionIdx (s.reg t i.ra))).decided = false) :
    (s.quiet.oldest t mine fun i s => s.consuming t [i.ra] fun s => s.regionOp t (i.regionIdx (s.reg t i.ra)) kind) =
      (s.quiet.enterPath t (i.regionIdx (s.reg t i.ra)) kind (s.armTarget (i.regionIdx (s.reg t i.ra)))).commit t :=
  (State.oldest_consuming mine Insn.ra _ h hm ha).trans (State.regionOp_timely (s := s.quiet) hl hd)

/-- A region command with a plane as its second operand. -/
theorem State.planeInsn_stands {kind : Nat → RCmdKind} (mine : Row → Bool) (h : s.standsAt t i row = true) (hm : mine row = true)
    (hl : s.locked t = false) (ha : s.tag t i.ra = false) (hb : s.tag t i.rb = false)
    (hd : (kind (i.planeIdx (s.reg t i.rb))).arms = false ∨ (s.region (i.regionIdx (s.reg t i.ra))).decided = false) :
    (s.quiet.oldest t mine fun i s => s.consuming t [i.ra, i.rb] fun s =>
        s.regionOp t (i.regionIdx (s.reg t i.ra)) (kind (i.planeIdx (s.reg t i.rb)))) =
      (s.quiet.enterPath t (i.regionIdx (s.reg t i.ra)) (kind (i.planeIdx (s.reg t i.rb)))
        (s.armTarget (i.regionIdx (s.reg t i.ra)))).commit t :=
  (State.oldest_consumingTwo mine _ h hm ha hb).trans (State.regionOp_timely (s := s.quiet) hl hd)

/-- A PRE that has not issued ahead acts as a FILL. -/
theorem State.preOldest_unissued (h : s.standsAt t i .pre = true) (hl : s.locked t = false) (ha : s.tag t i.ra = false)
    (hb : s.tag t i.rb = false) (hs : s.specOf t (s.thread t).commits = none) : s.quiet.preOldest t =
      (s.quiet.enterPath t (i.regionIdx (s.reg t i.ra)) (.fill (i.planeIdx (s.reg t i.rb)) true)
        (s.armTarget (i.regionIdx (s.reg t i.ra)))).commit t := by
  refine (State.oldest_consumingTwo (· == .pre) _ h rfl ha hb).trans ?_
  rw [show s.quiet.specOf t (s.quiet.thread t).commits = none from hs]
  exact State.regionOp_timely (s := s.quiet) hl (.inl rfl)

/-! ## Snapshots, mirrors and trace (R183 to R185) -/

/-- A snapshot engine that is free takes a request for an aligned destination. -/
theorem State.snapAnswer_free {tag dest : Nat} (hb : s.is1 R.SNAP_CTL_BUSY = false) (hd : dest % 64 = 0) : s.snapAnswer t tag dest =
    (({ s with snapReq := some ⟨dest, none⟩ } : State).set1 R.SNAP_CTL_BUSY).reply
      ⟨⟨s.rd R.NET_CFG_DEV_NUM, threadNode t⟩, tag, s.ownNodeWrite snapNode dest⟩ .ok := by
  simp only [State.snapAnswer, State.snapAsk, hb, hd, Bool.false_eq_true, if_false, ne_eq, not_true_eq_false]

theorem State.mirrorThread_primary (h : s.isPrimary = true) : s.mirrorThread t =
    { s with mirr := { s.mirr with threads := storeSet none t (some (s.capture t)) s.mirr.threads } } := if_pos h

theorem State.mirrorRegion_new {n : Nat} (h : s.isPrimary = true) (hn : s.mirr.regions.contains n = false) :
    s.mirrorRegion n = { s with mirr := { s.mirr with regions := s.mirr.regions ++ [n] } } := if_pos (by rw [h, hn]; rfl)

theorem State.mirrorBank_new {b : Nat} (h : s.isPrimary = true) (hb : s.mirr.banks.contains b = false) :
    s.mirrorBank b = { s with mirr := { s.mirr with banks := s.mirr.banks ++ [b] } } := if_pos (by rw [h, hb]; rfl)

/-! ## The end of a locked sequence (R149, R182) -/

/-- An UNLOCK of a sequence without buffered effects ends it. -/
theorem exec_unlock_empty {t : Fin 4} {pc : Nat} {regs : Store Word} {tags : BitVec 32} (h : s.standsAt t.val i .unlock = true)
    (hl : (s.thread t.val).lock = some ⟨pc, regs, tags, []⟩) (hm : s.mayTag (threadNode t.val) 0 = true) :
    exec (.unlock t) s = .next ((s.quiet.dropLock t.val).commit t.val) := by
  refine congrArg _ ((State.oldest_of_standsAt (· == .unlock) _ h rfl).trans ?_)
  have hl' : (s.quiet.thread t.val).lock = some ⟨pc, regs, tags, []⟩ := hl
  have hm' : s.quiet.mayTag (threadNode t.val) 0 = true := hm
  simp only [hl', groupRegions, List.filter_nil, List.filterMap_nil, List.length_nil, hm', Bool.not_true, Bool.false_eq_true, if_false,
    List.any_nil, Bool.and_false, List.foldl_nil]

end Sys2Proof.Machine

namespace Sys2Proof.Proofs

open Sys2Proof.Machine

/-- Settles O16: each instruction by its body where the thread stands at it, outside a locked sequence and with untagged operands. -/
theorem actionsOfThreads : Obligations.ActionsOfThreads := by
  unfold Obligations.ActionsOfThreads
  refine ⟨?pre, ?fill, ?hold, ?release, ?cancel, ?swap, ?stop, ?cstart, ?snap, ?evt, ?evtm, ?mirrThread, ?mirrRegion, ?mirrBank, ?emit,
    ?pwrOn, ?pwrOff, ?kick, ?exit, ?lock, ?unlock⟩
  case pre =>
    intro t i s h hl ha hb hs
    exact congrArg Host.Outcome.next (State.preOldest_unissued h hl ha hb hs)
  case fill =>
    intro t i s h hl ha hb
    exact congrArg Host.Outcome.next
      (State.planeInsn_stands (kind := fun p => .fill p false) (· == .fill) h rfl hl ha hb (.inl rfl))
  case hold =>
    intro t i s h hl ha
    exact congrArg Host.Outcome.next (State.regionInsn_stands (· == .rcmdHold) h rfl hl ha (.inl rfl))
  case release =>
    intro t i s h hl ha
    exact congrArg Host.Outcome.next (State.regionInsn_stands (· == .rcmdRelease) h rfl hl ha (.inl rfl))
  case cancel =>
    intro t i s h hl ha
    exact congrArg Host.Outcome.next (State.regionInsn_stands (· == .rcmdCancel) h rfl hl ha (.inl rfl))
  case swap =>
    intro t i s h hl ha hb hd
    exact congrArg Host.Outcome.next (State.planeInsn_stands (kind := .swap) (· == .swap) h rfl hl ha hb (.inr hd))
  case stop =>
    intro t i s h hl ha hd
    exact congrArg Host.Outcome.next (State.regionInsn_stands (· == .stop) h rfl hl ha (.inr hd))
  case cstart =>
    intro t i s h hl _ ha hb
    exact congrArg Host.Outcome.next
      ((State.oldest_consumingTwo (· == .cstart) _ h rfl ha hb).trans (if_neg (Bool.eq_false_iff.mp hl)))
  case snap =>
    rintro t i s u h hl hm hb rfl hbusy hdest
    have hsend : ¬ (!s.quiet.maySend (threadNode t.val)) = true := by
      rw [show s.quiet.maySend (threadNode t.val) = true from hm]
      decide
    refine congrArg Host.Outcome.next ((State.oldest_consuming (· == .snap) Insn.rb _ h rfl hb).trans ?_)
    exact (if_neg (Bool.eq_false_iff.mp hl)).trans ((if_neg hsend).trans (State.snapAnswer_free hbusy hdest))
  case evt =>
    intro t i s h hl ha
    exact congrArg Host.Outcome.next
      ((State.oldest_consuming (· == .evt) Insn.ra _ h rfl ha).trans (if_neg (Bool.eq_false_iff.mp hl)))
  case evtm =>
    intro t i s h hl
    exact congrArg Host.Outcome.next ((State.oldest_of_standsAt (· == .evtm) _ h rfl).trans (if_neg (Bool.eq_false_iff.mp hl)))
  case mirrThread =>
    intro t i s h hl hp
    refine congrArg Host.Outcome.next ((State.oldest_of_standsAt (· == .mirrThread) _ h rfl).trans ?_)
    exact (if_neg (Bool.eq_false_iff.mp hl)).trans (congrArg (State.commit · t.val) (State.mirrorThread_primary (s := s.quiet) hp))
  case mirrRegion =>
    intro t i s h hl ha hp hn
    refine congrArg Host.Outcome.next ((State.oldest_consuming (· == .mirrRegion) Insn.ra _ h rfl ha).trans ?_)
    exact (if_neg (Bool.eq_false_iff.mp hl)).trans (congrArg (State.commit · t.val) (State.mirrorRegion_new (s := s.quiet) hp hn))
  case mirrBank =>
    intro t i s h hl ha hp hb
    refine congrArg Host.Outcome.next ((State.oldest_consuming (· == .mirrBank) Insn.ra _ h rfl ha).trans ?_)
    exact (if_neg (Bool.eq_false_iff.mp hl)).trans (congrArg (State.commit · t.val) (State.mirrorBank_new (s := s.quiet) hp hb))
  case emit =>
    intro t i s h hl ha hon
    refine congrArg Host.Outcome.next ((State.oldest_consuming (· == .emit) Insn.ra _ h rfl ha).trans ?_)
    exact (if_neg (Bool.eq_false_iff.mp hl)).trans (if_pos hon)
  case pwrOn | pwrOff =>
    intro t i s h hl ha
    exact congrArg Host.Outcome.next
      ((State.oldest_consuming _ Insn.ra _ h rfl ha).trans (if_neg (Bool.eq_false_iff.mp hl)))
  case kick =>
    intro t i s h hl
    exact congrArg Host.Outcome.next ((State.oldest_of_standsAt (· == .kick) _ h rfl).trans (if_neg (Bool.eq_false_iff.mp hl)))
  case exit =>
    intro t i s h hl
    exact congrArg Host.Outcome.next (State.oldest_waiting (· == .exit) _ h rfl hl)
  case lock =>
    intro t i s h hl
    exact congrArg Host.Outcome.next (State.oldest_waiting (· == .lock) _ h rfl hl)
  case unlock =>
    intro t i s pc regs tags h hl hm
    exact exec_unlock_empty h hl hm

end Sys2Proof.Proofs
end

section
/-! PROOF. Commands of sequencer threads and the watchdog. -/

namespace Sys2Proof.Machine

variable {s : State}

/-! ## Requests of R136 -/

section

variable {t : Nat} {q : Req136}

/-- At a commit point a request acts at once. -/
theorem State.request136_acts (h : s.atCommitPoint t = true) : s.request136 t q = s.act136 t q :=
  if_pos (by rw [h, Bool.or_true])

/-- In RUN, away from a commit point, a request waits. -/
theorem State.request136_waits (hr : s.tstate t = .run) (h : s.atCommitPoint t = false) : s.request136 t q =
    s.setThread t (match q with
      | .stop => { s.thread t with stopReq := true }
      | .halt c => { s.thread t with haltReq := some c.code }
      | .restart => { s.thread t with rstReq := true }) :=
  if_neg (by rw [hr, h]; decide)

/-! ## The commands (R139) -/

/-- A STOP of a thread in RUN, WAIT or HALTED is a request of R136. -/
theorem State.threadStopCmd_accepted (h : s.tstate t = .run ∨ s.tstate t = .wait ∨ s.tstate t = .halted) :
    s.threadStopCmd t = s.request136 t .stop := by
  obtain h | h | h := h <;> simp only [State.threadStopCmd, h]

theorem State.threadStopCmd_refused (h : s.tstate t = .off ∨ s.tstate t = .faulted) :
    s.threadStopCmd t = s.set1 (R.SEQ_THR_CTL_CMD_ERR t) := by
  obtain h | h := h <;> simp only [State.threadStopCmd, h]

/-- So is a RESTART. -/
theorem State.threadRestartCmd_accepted (h : s.tstate t = .run ∨ s.tstate t = .wait ∨ s.tstate t = .halted) :
    s.threadRestartCmd t = s.request136 t .restart := by
  obtain h | h | h := h <;> simp only [State.threadRestartCmd, h]

theorem State.threadRestartCmd_refused (h : s.tstate t = .off ∨ s.tstate t = .faulted) :
    s.threadRestartCmd t = s.set1 (R.SEQ_THR_CTL_CMD_ERR t) := by
  obtain h | h := h <;> simp only [State.threadRestartCmd, h]

end

section

variable {ini : Ini} {t : Fin 4}

theorem exec_start_ok (ht : s.turnedAway (R.SEQ_THR_CTL_START t.val).off = none) :
    exec (.start ini t) s = .next ((s.quiet.threadStart t.val).okWrite ini) := congrArg _ (State.written_ok ht)

theorem exec_threadStop_ok (ht : s.turnedAway (R.SEQ_THR_CTL_START t.val).off = none) :
    exec (.threadStop ini t) s = .next ((s.quiet.threadStopCmd t.val).okWrite ini) := congrArg _ (State.written_ok ht)

theorem exec_restart_ok (ht : s.turnedAway (R.SEQ_THR_CTL_START t.val).off = none) :
    exec (.restart ini t) s = .next ((s.quiet.threadRestartCmd t.val).okWrite ini) := congrArg _ (State.written_ok ht)

theorem exec_clrFault_ok (ht : s.turnedAway (R.SEQ_THR_CTL_START t.val).off = none) :
    exec (.clrFault ini t) s = .next ((s.quiet.threadClrFault t.val).okWrite ini) := congrArg _ (State.written_ok ht)

/-- A locked sequence with a request waiting is aborted after its time, and the request acts. -/
theorem exec_lockAbortTimeout_waiting (hl : s.locked t.val = true)
    (h : (s.thread t.val).stopReq = true ∨ (s.thread t.val).haltReq.isSome = true ∨ (s.thread t.val).rstReq = true) :
    exec (.lockAbortTimeout t) s = .next (((s.quiet.squashAll t.val).abortLock t.val).commitPoint t.val) := by
  refine if_pos ?_
  rw [show s.quiet.locked t.val = true from hl, Bool.true_and, Bool.or_eq_true, Bool.or_eq_true]
  exact or_assoc.mpr h

theorem exec_lockAbortTimeout_unlocked (hl : s.locked t.val = false) : exec (.lockAbortTimeout t) s = .next s.quiet := by
  refine if_neg ?_
  rw [show s.quiet.locked t.val = false from hl, Bool.false_and]
  decide

end

/-! ## The watchdog (R153 to R155) -/

section

variable {f : Fld} {prio t : Nat} {ev : Gb} {args : List Nat}

/-- A record of the guestbook changes no register but GB_STAT. -/
theorem State.logP_rd (h : f.off ≠ R.GB_STAT_ALERT.off) (hlo : f.lo < 32) (ha : f.off % 4 = 0) : (s.logP prio ev args).rd f = s.rd f := by
  have hkey (g : Fld) (hg : g ∈ [R.GB_STAT_FROZEN, R.GB_STAT_ALERT, R.GB_STAT_LOST]) : f.key ≠ g.key := by
    simp only [List.mem_cons, List.not_mem_nil, or_false] at hg
    simp only [R.GB_STAT_ALERT] at h
    obtain rfl | rfl | rfl := hg <;> simp only [Fld.key, R.GB_STAT_FROZEN, R.GB_STAT_ALERT, R.GB_STAT_LOST] <;> omega
  have halert (u : State) : (u.set1 R.GB_STAT_ALERT).rd f = u.rd f := State.wr_rd_ne _ _ _ _ (hkey _ (by simp))
  have hfrozen (u : State) : (u.set1 R.GB_STAT_FROZEN).rd f = u.rd f := State.wr_rd_ne _ _ _ _ (hkey _ (by simp))
  have hlost (u : State) : (u.bump R.GB_STAT_LOST).rd f = u.rd f := State.wr_rd_ne _ _ _ _ (hkey _ (by simp))
  have hqueue (u : State) (l : List GbEntry) : ({ u with gbq := l } : State).rd f = u.rd f := rfl
  simp only [State.logP, apply_ite (State.rd · f), halert, hfrozen, hlost, hqueue, ite_self]

/-- A watchdog that has expired: EXPIRED and its record (R154). -/
def State.wdtExpired (s : State) (t : Nat) : State :=
  ((s.setThread t { s.thread t with wdtDue := false }).set1 (R.SEQ_WDT_EXPIRED t)).logP (if s.rd (R.SEQ_WDT_ACTION t) = 3 then 2 else 1)
    .watchdogExpired [t, s.tpc t]

/-- The channels of an expiry (R486). -/
def State.wdtPulses (s : State) (t : Nat) : State := s.pulses fun c => s.bit (R.DBG_XT_SRC_WDT c) t

/-- The record of an expiry changes neither the thread's state nor its place. -/
theorem State.set1_expired_status (h : f = R.SEQ_THR_STATUS_STATE t ∨ f = R.SEQ_THR_STATUS_PC t) :
    (s.set1 (R.SEQ_WDT_EXPIRED t)).rd f = s.rd f := by
  refine State.wr_rd_ne _ _ _ _ ?_
  obtain rfl | rfl := h <;>
    simp only [Fld.key, R.SEQ_THR_STATUS_STATE, R.SEQ_THR_STATUS_PC, R.SEQ_WDT_EXPIRED] <;> omega

theorem State.wdtExpired_tstate (ht : t < 4) : (s.wdtExpired t).tstate t = s.tstate t := by
  refine congrArg TState.ofCode ((State.logP_rd ?_ ?_ ?_).trans (State.set1_expired_status (.inl rfl)))
  all_goals simp only [R.SEQ_THR_STATUS_STATE, R.GB_STAT_ALERT]; omega

/-- What WATCHDOG_EXPIRY does by ACTION, a debugger's halt apart (R155). -/
theorem exec_watchdogExpiry_due {t : Fin 4} (hd : (s.thread t.val).wdtDue = true) : exec (.watchdogExpiry t) s = .next (State.wdtPulses
    (if s.rd (R.SEQ_WDT_ACTION t.val) = 0 then (s.quiet.wdtExpired t.val).wdtLoad t.val
      else if s.tstate t.val = .halted then ((s.quiet.wdtExpired t.val).setThread t.val
        { (s.quiet.wdtExpired t.val).thread t.val with deferAct := s.rd (R.SEQ_WDT_ACTION t.val) }).set1 (R.DBG_THR_CTL_DEFERRED t.val)
      else if s.rd (R.SEQ_WDT_ACTION t.val) = 2 then ((s.quiet.wdtExpired t.val).wdtLoad t.val).request136 t.val .restart
      else (s.quiet.wdtExpired t.val).request136 t.val (.halt .watchdog)) t.val) := by
  have hdue : ¬ (!(s.quiet.thread t.val).wdtDue) = true := by
    rw [show (s.quiet.thread t.val).wdtDue = true from hd]
    decide
  have hpc : ((s.quiet.setThread t.val { s.quiet.thread t.val with wdtDue := false }).set1 (R.SEQ_WDT_EXPIRED t.val)).tpc t.val =
      s.tpc t.val := State.set1_expired_status (.inr rfl)
  have hexpired : ((s.quiet.setThread t.val { s.quiet.thread t.val with wdtDue := false }).set1 (R.SEQ_WDT_EXPIRED t.val)).logP
      (if s.quiet.rd (R.SEQ_WDT_ACTION t.val) = 3 then 2 else 1) .watchdogExpired [t.val, s.tpc t.val] = s.quiet.wdtExpired t.val := rfl
  refine (if_neg hdue).trans ?_
  simp only [hpc, hexpired, State.wdtExpired_tstate (s := s.quiet) t.isLt]
  rfl

end

/-- A write that turns the watchdog on loads it. -/
theorem wrWdt_enables {t : Nat} {v : BitVec 32} (h : s.is1 (R.SEQ_WDT_EN t) = false)
    (hon : (s.storeReg (.SEQ_WDT t) v).is1 (R.SEQ_WDT_EN t) = true) : wrWdt s t v = (s.storeReg (.SEQ_WDT t) v).wdtLoad t :=
  if_pos (by rw [h, hon]; rfl)

end Sys2Proof.Machine

namespace Sys2Proof.Proofs

open Sys2Proof.Machine

/-- Settles O11: the commands by the thread's state and whether it is at a commit point, an expiry by ACTION. -/
theorem threadCommands : Obligations.ThreadCommands := by
  unfold Obligations.ThreadCommands
  refine ⟨?start, ?startRefused, ?stop, ?stopWaits, ?stopRefused, ?restart, ?restartWaits, ?restartRefused, ?clearRefused, ?clear, ?abort,
    ?reloads, ?faults, ?restarts, ?deferred, ?notDue, ?atOnce, ?unlocked, ?enable, ?imem⟩
  case start =>
    rintro ini t s u hoff rfl ht
    rw [exec_start_ok ht]
    exact congrArg (fun v => Host.Outcome.next (State.okWrite v ini)) (if_neg (not_not_intro hoff))
  case startRefused =>
    intro ini t s hoff ht
    rw [exec_start_ok ht]
    exact congrArg (fun v => Host.Outcome.next (State.okWrite v ini)) (if_pos hoff)
  case stop =>
    intro ini t s h hc ht
    rw [exec_threadStop_ok ht, State.threadStopCmd_accepted (s := s.quiet) h, State.request136_acts (s := s.quiet) hc]
    rfl
  case stopWaits =>
    intro ini t s h hc ht
    rw [exec_threadStop_ok ht, State.threadStopCmd_accepted (s := s.quiet) (.inl h), State.request136_waits (s := s.quiet) h hc]
    rfl
  case stopRefused =>
    intro ini t s h ht
    rw [exec_threadStop_ok ht, State.threadStopCmd_refused (s := s.quiet) h]
  case restart =>
    intro ini t s h hc ht
    rw [exec_restart_ok ht, State.threadRestartCmd_accepted (s := s.quiet) h, State.request136_acts (s := s.quiet) hc]
    rfl
  case restartWaits =>
    intro ini t s h hc ht
    rw [exec_restart_ok ht, State.threadRestartCmd_accepted (s := s.quiet) (.inl h), State.request136_waits (s := s.quiet) h hc]
    rfl
  case restartRefused =>
    intro ini t s h ht
    rw [exec_restart_ok ht, State.threadRestartCmd_refused (s := s.quiet) h]
  case clearRefused =>
    intro ini t s h ht
    rw [exec_clrFault_ok ht]
    exact congrArg (fun v => Host.Outcome.next (State.okWrite v ini)) (if_neg h)
  case clear =>
    intro ini t s h ht
    rw [exec_clrFault_ok ht]
    exact congrArg (fun v => Host.Outcome.next (State.okWrite v ini)) (if_pos h)
  case abort =>
    intro t s hl h
    exact exec_lockAbortTimeout_waiting hl h
  case reloads =>
    rintro t s u hd hact rfl
    rw [exec_watchdogExpiry_due hd, if_pos hact]
    rfl
  case faults =>
    rintro t s u hd hact hrun rfl
    rw [exec_watchdogExpiry_due hd, if_neg (by omega), if_neg hrun, if_neg (by omega)]
    rfl
  case restarts =>
    rintro t s u hd hact hrun rfl
    rw [exec_watchdogExpiry_due hd, if_neg (by omega), if_neg hrun, if_pos hact]
    rfl
  case deferred =>
    rintro t s u hd hact hhalt rfl
    rw [exec_watchdogExpiry_due hd, if_neg hact, if_pos hhalt]
    rfl
  case notDue =>
    intro t s hd
    exact if_pos (by rw [show (s.quiet.thread t.val).wdtDue = false from hd]; rfl)
  case atOnce =>
    intro t cause s hc
    exact ⟨State.request136_acts hc, State.request136_acts hc⟩
  case unlocked =>
    intro t s hl
    exact exec_lockAbortTimeout_unlocked hl
  case enable =>
    rintro ini t v s u hoff rfl hon ht
    exact congrArg Host.Outcome.next ((State.written_ok ht).trans (congrArg (State.okWrite · ini) (wrWdt_enables (s := s.quiet) hoff hon)))
  case imem =>
    intro ini w hi s ht
    exact congrArg Host.Outcome.next (State.written_ok ht)

end Sys2Proof.Proofs
end

section
/-! PROOF. The tick generator. -/

namespace Sys2Proof.Machine

variable {s u : State} {ini : Ini}

/-! ## TICK_CTL (R123, R124) -/

theorem State.tickApply_valid (h : s.layoutOk = true) : s.tickApply = ({ s with tickGen := { s.tickGen with
    queued := some (s.rd R.TICK_LAYOUT_NEXT_NSLOT_M1, s.rd R.TICK_LAYOUT_NEXT_PERIOD, (List.range 16).map s.nextStart) } } : State).set1
      R.TICK_CTL_APPLY_PENDING := if_pos h

theorem State.tickApply_invalid (h : s.layoutOk = false) : s.tickApply = s.set1 R.TICK_CTL_CFG_ERR := if_neg (Bool.eq_false_iff.mp h)

theorem exec_tickApply_ok (ht : s.turnedAway R.TICK_CTL_EN.off = none) :
    exec (.tickApply ini) s = .next (s.quiet.tickApply.okWrite ini) := congrArg _ (State.written_ok ht)

theorem exec_tickEnWrite_ok {en : Bool} (ht : s.turnedAway R.TICK_CTL_EN.off = none) :
    exec (.tickEnWrite ini en) s = .next ((s.quiet.writeTickEn en).okWrite ini) := congrArg _ (State.written_ok ht)

/-- EN written 1 at a generator that does not run, or has just stopped: the first boundary is placed. -/
theorem State.writeTickEn_starts (he : s.is1 R.TICK_CTL_EN = false)
    (hu : u = if s.tickGen.ended = true then (s.set1 R.TICK_CTL_EN).generatorStops else s.set1 R.TICK_CTL_EN)
    (hr : u.is1 R.TICK_CTL_RUNNING = false) (hf : u.tickGen.first = false) : s.writeTickEn true =
      { u with tickGen := { u.tickGen with first := true, stopping := false, placed := some (u.now + 16) } } := by
  have hchange : ¬ (s.is1 R.TICK_CTL_EN == true) = true := by rw [he]; decide
  have hstopped : ¬ (u.is1 R.TICK_CTL_RUNNING || u.tickGen.first) = true := by rw [hr, hf]; decide
  subst hu
  exact (if_neg hchange).trans ((if_pos rfl).trans (if_neg hstopped))

/-- A stopped generator's SRC takes a listed source. -/
theorem State.writeTickSrc_stopped {src : Nat} (hr : s.is1 R.TICK_CTL_RUNNING = false) (h3 : src ≠ 3) :
    s.writeTickSrc src = s.wr R.TICK_CTL_SRC src :=
  (if_neg (Bool.eq_false_iff.mp hr)).trans (if_neg h3)

/-! ## When a boundary falls (R121, R125, R131) -/

theorem State.timeHere_some {due : Option Nat} {c : Nat} (h : due = some c) : s.timeHere due = decide (c ≤ s.now) := by
  rw [h]
  rfl

/-- A time that has not come is not here. -/
theorem State.timeHere_early {due : Option Nat} (h : ∀ c, due = some c → s.now < c) : s.timeHere due = false := by
  cases due with
  | none => rfl
  | some c => exact decide_eq_false (Nat.not_le.mpr (h c rfl))

theorem State.tickDue_unplaced (hs : s.rd R.TICK_CTL_SRC ≠ 1) (hp : s.tickGen.placed = none) :
    s.tickDue = some (s.tickGen.tickStart + s.rd R.TICK_LAYOUT_PERIOD) := by
  simp only [State.tickDue, hp, if_neg fun h : _ ∧ _ => hs h.1]

theorem State.slotDue_unplaced (hr : s.is1 R.TICK_CTL_RUNNING = true) (hf : s.tickGen.first = false) (he : s.tickGen.ended = false)
    (hp : s.tickGen.placed = none) (hk : s.rd R.TICK_STAT_SLOT < s.rd R.TICK_LAYOUT_NSLOT_M1) :
    s.slotDue = some (s.tickGen.tickStart + s.rd (R.SLOT_START_START (s.rd R.TICK_STAT_SLOT + 1))) := by
  have hleft : ¬ (!(s.is1 R.TICK_CTL_RUNNING) || s.tickGen.first || s.tickGen.ended ||
      decide (s.rd R.TICK_LAYOUT_NSLOT_M1 ≤ s.rd R.TICK_STAT_SLOT)) = true := by
    rw [hr, hf, he, decide_eq_false (Nat.not_le.mpr hk)]
    decide
  simp only [State.slotDue, if_neg hleft, hp]

theorem exec_tickBoundary_falls (hb : s.boundaryDue = true) (ht : s.timeHere s.tickDue = true) (hs : s.slotDue = none)
    (hr : s.boundaryReady = true) : exec .tickBoundary s = .next s.quiet.wholeTick := by
  refine if_pos ?_
  rw [show s.quiet.boundaryDue = true from hb, show s.quiet.timeHere s.quiet.tickDue = true from ht, show s.quiet.slotDue = none from hs,
    show s.quiet.boundaryReady = true from hr]
  rfl

theorem exec_tickBoundary_early (ht : s.timeHere s.tickDue = false) : exec .tickBoundary s = .next s.quiet := by
  refine if_neg ?_
  rw [show s.quiet.timeHere s.quiet.tickDue = false from ht, Bool.and_false, Bool.false_and, Bool.false_and]
  decide

theorem exec_slotBoundary_falls (ht : s.timeHere s.slotDue = true) (hr : s.boundaryReady = true) :
    exec .slotBoundary s = .next (s.quiet.snoopBoundary false).slotBoundary := by
  refine if_pos ?_
  rw [show s.quiet.timeHere s.quiet.slotDue = true from ht, show s.quiet.boundaryReady = true from hr]
  rfl

theorem exec_slotBoundary_early (ht : s.timeHere s.slotDue = false) : exec .slotBoundary s = .next s.quiet := by
  refine if_neg ?_
  rw [show s.quiet.timeHere s.quiet.slotDue = false from ht, Bool.false_and]
  decide

/-! ## TICK_IN (R125, R126) -/

/-- A boundary placed neither within 10 cycles of the tick's start nor more than 16 after its end. -/
theorem State.placeBoundary_timely {c : Nat} (he : ¬ c < s.tickGen.tickStart + 10)
    (hl : c ≤ s.tickGen.tickStart + s.rd R.TICK_LAYOUT_PERIOD + 16) (hp : s.tickGen.placed = none)
    (hu : u = if c + 16 < s.tickGen.tickStart + s.rd R.TICK_LAYOUT_PERIOD then s.set1 R.TICK_CTL_SHORT else s) : s.placeBoundary c =
      { u with tickGen := { s.tickGen with placed := some (max c (s.tickGen.slotStart + 10)), lost := false } } := by
  have hfree : ¬ (c < s.tickGen.tickStart + 10 ∨ s.tickGen.placed.isSome = true) := by
    rw [hp]
    exact fun h => h.elim he (by decide)
  subst hu
  exact (if_neg hfree).trans (if_neg (Nat.not_lt.mpr hl))

theorem exec_tickInEdge_external (h : s.rd R.TICK_CTL_SRC = 1 ∧ s.is1 R.TICK_CTL_RUNNING = true ∧ s.tickGen.ended = false) :
    exec .tickInEdge s = .next (s.quiet.placeBoundary (s.now + 8)) := if_pos h

/-- Without an edge in time the generator places the boundary itself. -/
theorem exec_tickInLost_late (h : s.rd R.TICK_CTL_SRC = 1 ∧ s.is1 R.TICK_CTL_RUNNING = true ∧ s.tickGen.ended = false)
    (hp : s.tickGen.placed = none) (hl : s.tickGen.lost = false) (hc : s.tickGen.tickStart + s.rd R.TICK_LAYOUT_PERIOD + 16 ≤ s.now) :
    exec .tickInLost s = .next (({ s.quiet with tickGen := { s.tickGen with
      placed := some (s.tickGen.tickStart + s.rd R.TICK_LAYOUT_PERIOD + 16), lost := true } } : State).set1 R.TICK_CTL_IN_LOST) := by
  obtain ⟨hsrc, hrun, hend⟩ := h
  exact if_pos ⟨hsrc, hrun, Option.isNone_iff_eq_none.mpr hp, hl, hend, hc⟩

/-! ## Holds (R95, R133) -/

/-- The last hold source of a HELD region clears. -/
theorem State.clrHold_last {n : Nat} {hold : Hold} (hu : u = s.clrBit (R.REGION_STATUS_HOLD_SRC n) hold.bit) (hr : u.rstate n = .held)
    (h0 : u.rd (R.REGION_STATUS_HOLD_SRC n) = 0) : s.clrHold n hold = u.enter n .run := by
  rw [State.clrHold, ← hu]
  simp only [State.settle, hr, h0, ne_eq, not_true_eq_false, decide_false, Bool.false_eq_true, if_false]

end Sys2Proof.Machine

namespace Sys2Proof.Proofs

open Sys2Proof.Machine

/-- Settles O10: the writes by their effects, the boundaries by their times, the edges of TICK_IN by where they place the boundary. -/
theorem tickGenerator : Obligations.TickGenerator := by
  unfold Obligations.TickGenerator
  refine ⟨?apply, ?invalid, ?starts, ?startsAnew, ?source, ?tick, ?tickEarly, ?slot, ?slotEarly, ?tickTime, ?slotTime, ?edge, ?lost,
    ?release⟩
  case apply =>
    intro ini s h ht
    rw [exec_tickApply_ok ht, State.tickApply_valid (s := s.quiet) h]
    rfl
  case invalid =>
    intro ini s h ht
    rw [exec_tickApply_ok ht, State.tickApply_invalid (s := s.quiet) h]
  case starts =>
    intro ini s he hr hf hend ht
    have hrun : (s.quiet.set1 R.TICK_CTL_EN).is1 R.TICK_CTL_RUNNING = false := by
      rw [State.is1, State.set1, State.wr_rd_ne _ _ _ _ (by decide)]
      exact hr
    rw [exec_tickEnWrite_ok ht, State.writeTickEn_starts (s := s.quiet) he (if_neg (Bool.eq_false_iff.mp hend)).symm hrun hf]
    rfl
  case startsAnew =>
    intro ini s v he hend hv hr hf ht
    rw [exec_tickEnWrite_ok ht, State.writeTickEn_starts (s := s.quiet) he (hv.trans (if_pos hend).symm) hr hf]
  case source =>
    intro ini src s h3 _ hr ht
    refine congrArg Host.Outcome.next ((State.written_ok ht).trans ?_)
    rw [State.writeTickSrc_stopped (s := s.quiet) hr h3]
  case tick =>
    intro c s hb hd hc hs hr
    exact exec_tickBoundary_falls hb ((State.timeHere_some hd).trans (decide_eq_true hc)) hs hr
  case tickEarly =>
    intro s h
    exact exec_tickBoundary_early (State.timeHere_early h)
  case slot =>
    intro c s hd hc hr
    exact exec_slotBoundary_falls ((State.timeHere_some hd).trans (decide_eq_true hc)) hr
  case slotEarly =>
    intro c s hd hc
    exact exec_slotBoundary_early ((State.timeHere_some hd).trans (decide_eq_false (Nat.not_le.mpr hc)))
  case tickTime =>
    intro s hs hp
    exact State.tickDue_unplaced hs hp
  case slotTime =>
    rintro s hr ⟨hf, he, hp⟩ hk
    exact State.slotDue_unplaced hr hf he hp hk
  case edge =>
    intro s u h he hl hp hu
    rw [exec_tickInEdge_external h, State.placeBoundary_timely (s := s.quiet) he hl hp hu]
    rfl
  case lost =>
    rintro c s h hp hl rfl hc
    exact exec_tickInLost_late h hp hl hc
  case release =>
    intro ini n s u hu hr h0 ht
    refine congrArg Host.Outcome.next ((State.written_ok ht).trans ?_)
    rw [State.clrHold_last (s := s.quiet) hu hr h0]

end Sys2Proof.Proofs
end

section
/-! PROOF. Scalar registers and the next word. -/

namespace Sys2Proof.Machine

/-! ## Register files (R137, R158, R160) -/

section

variable {regs : Store Word} {tags : BitVec 32} {r q : Nat} {v : Word} {b : Bool}

theorem setRegIn_zero : setRegIn regs tags 0 v b = (regs, tags) := rfl

theorem regOf_setRegIn_same (hr : r ≠ 0) : regOf (setRegIn regs tags r v b).1 r = v := by
  rw [setRegIn, if_neg hr, regOf, if_neg hr, Laws.get_set_same]

/-- A write of one register leaves the others; s0 always reads 0. -/
theorem regOf_setRegIn_ne (h : q ≠ r) : regOf (setRegIn regs tags r v b).1 q = regOf regs q := by
  by_cases hr : r = 0
  · rw [hr, setRegIn_zero]
  · rw [setRegIn, if_neg hr, regOf, regOf, Laws.get_set_ne _ _ _ h]

/-- A register's own tag is the one written: the word of tags has a bit for each of the 32 registers. -/
theorem tagOf_setRegIn_same (hr : r ≠ 0) (hlt : r < 32) : tagOf (setRegIn regs tags r v b).2 r = b := by
  have hbit : (BitVec.ofNat 32 (2 ^ r)).getLsbD r = true := by
    rw [BitVec.getLsbD_ofNat, decide_eq_true hlt, Nat.testBit_two_pow_self]
    rfl
  rw [setRegIn, if_neg hr, tagOf, decide_eq_true hr, Bool.true_and, BitVec.testBit_toNat]
  cases b
  case true => rw [if_pos rfl, BitVec.getLsbD_or, hbit, Bool.or_true]
  case false =>
    rw [if_neg Bool.false_ne_true, BitVec.getLsbD_and, BitVec.getLsbD_xor, hbit, Bool.xor_true, Bool.and_not_self]

end

/-! ## The registers of a thread -/

variable {s : State} {t u r q : Nat} {v : Word} {b : Bool}

theorem State.reg_zero : s.reg t 0 = 0 := rfl

theorem State.setReg_thread_same : (s.setReg t r v b).thread t =
    { s.thread t with
      regs := (setRegIn (s.thread t).regs (s.thread t).tags r v b).1
      tags := (setRegIn (s.thread t).regs (s.thread t).tags r v b).2 } := State.thread_setThread ..

theorem State.setReg_thread_ne (h : u ≠ t) : (s.setReg t r v b).thread u = s.thread u :=
  (State.setThread_thread ..).trans (if_neg h)

theorem State.setReg_reg_same (hr : r ≠ 0) : (s.setReg t r v b).reg t r = v := by
  rw [State.reg, State.setReg_thread_same]
  exact regOf_setRegIn_same hr

theorem State.setReg_tag_same (hr : r ≠ 0) (hlt : r < 32) : (s.setReg t r v b).tag t r = b := by
  rw [State.tag, State.setReg_thread_same]
  exact tagOf_setRegIn_same hr hlt

/-- A result written to s0 is discarded. -/
theorem State.setReg_zero_reg : (s.setReg t 0 v b).reg t q = s.reg t q := by
  rw [State.reg, State.setReg_thread_same, setRegIn_zero]
  rfl

/-- Other threads, and the other registers of the thread, keep their values. -/
theorem State.setReg_reg_ne (h : u ≠ t ∨ q ≠ r) : (s.setReg t r v b).reg u q = s.reg u q := by
  by_cases hu : u = t
  · subst hu
    rw [State.reg, State.setReg_thread_same]
    exact regOf_setRegIn_ne (h.resolve_left (not_not_intro rfl))
  · rw [State.reg, State.setReg_thread_ne hu, State.reg]

/-! ## The next word (R158) -/

theorem State.tpc_lt : s.tpc t < 32768 := s.rd_lt (R.SEQ_THR_STATUS_PC t)

/-- In program memory word 0 follows word 32,767. -/
theorem nextPc_of_lt {pc : Nat} (h : pc < 32768) : nextPc pc = if pc = 32767 then 0 else pc + 1 := by
  unfold nextPc
  split <;> omega

end Sys2Proof.Machine

namespace Sys2Proof.Proofs

open Sys2Proof.Machine

/-- Settles O52: the registers by the laws of `setReg`, the sequence by the 15 bits of the place. -/
theorem registersAndSequence : Obligations.RegistersAndSequence := by
  unfold Obligations.RegistersAndSequence
  refine ⟨?readsZero, ?discarded, ?written, ?others, ?sequence⟩
  case readsZero =>
    intro s t
    exact State.reg_zero
  case discarded =>
    intro s t v b r
    exact State.setReg_zero_reg
  case written =>
    intro s t r v b hr hle
    exact ⟨State.setReg_reg_same (by omega), State.setReg_tag_same (by omega) (by omega)⟩
  case others =>
    intro s t u r q v b h
    exact State.setReg_reg_ne h
  case sequence =>
    intro t i s h
    rw [exec_nop_stands h, ← nextPc_of_lt State.tpc_lt]
    rfl

end Sys2Proof.Proofs
end

section
/-! PROOF. Computed indexes. -/

namespace Sys2Proof.Machine

variable {i : Insn}

/-- With s0 the index is the immediate alone. -/
theorem Insn.indexes_zero : i.regionIdx 0 = i.imm % 64 ∧ i.planeIdx 0 = i.imm / 256 % 8 ∧ i.courierIdx 0 = i.imm % 32 ∧
    i.lineIdx 0 = i.imm % 256 ∧ i.bankIdx 0 = i.imm % 2048 ∧ i.domIdx 0 = i.imm % 128 := by
  have hzero : (0 : Word).toNat = 0 := rfl
  simp only [Insn.regionIdx, Insn.planeIdx, nbits, Insn.courierIdx, Insn.lineIdx, Insn.bankIdx, Insn.domIdx, hzero, Nat.zero_mod,
    Nat.zero_add, Nat.mod_mod, Nat.reducePow, Nat.reduceAdd, Nat.reduceSub, and_self]

/-- The region and plane fields are all that the mask of PRE, FILL and SWAP leaves of IMM. -/
theorem regionAndPlane_of_masked {n : Nat} (h : n &&& 0x73F = n) : n % 64 + 256 * (n / 256 % 8) = n := by
  have hlow : n % 256 = n % 256 % 64 := by
    calc n % 256 = (n &&& 0x73F) % 2 ^ 8 := (congrArg (· % 2 ^ 8) h).symm
      _ = n % 256 &&& 2 ^ 6 - 1 := Nat.and_mod_two_pow
      _ = n % 256 % 64 := Nat.and_two_pow_sub_one_eq_mod _ 6
  have hhigh : n / 256 = n / 256 % 8 := by
    calc n / 256 = (n &&& 0x73F) / 2 ^ 8 := (congrArg (· / 2 ^ 8) h).symm
      _ = n / 256 &&& 2 ^ 3 - 1 := Nat.and_div_two_pow
      _ = n / 256 % 8 := Nat.and_two_pow_sub_one_eq_mod _ 3
  omega

/-! ## The reserved bits of IMM (R159) -/

/-- The condition on IMM is the last of a row's reserved fields. -/
theorem imm_of_lastReserved {fields imm : Bool} (h : (fields && imm) = true) : imm = true := (Bool.and_eq_true_iff.mp h).2

end Sys2Proof.Machine

namespace Sys2Proof.Proofs

open Sys2Proof.Machine

/-- Settles O53: the sums by their definitions, the reserved bits by the last condition of each row. -/
theorem indexesOfInstructions : Obligations.IndexesOfInstructions := by
  unfold Obligations.IndexesOfInstructions
  refine ⟨?sums, ?immediate, ?plane, ?region, ?courier, ?line, ?bank, ?domain⟩
  case sums =>
    intro i a b
    exact ⟨rfl, rfl, rfl, rfl, rfl, rfl⟩
  case immediate =>
    intro i s t
    exact Insn.indexes_zero
  case plane =>
    intro i r hr h
    refine regionAndPlane_of_masked ?_
    simp only [List.mem_cons, List.not_mem_nil, or_false] at hr
    obtain rfl | rfl | rfl := hr
    all_goals exact eq_of_beq (imm_of_lastReserved h)
  case region =>
    intro i r hr h
    simp only [List.mem_cons, List.not_mem_nil, or_false] at hr
    obtain rfl | rfl | rfl | rfl | rfl | rfl := hr
    all_goals exact of_decide_eq_true (imm_of_lastReserved h)
  case courier | line | domain =>
    intro i r hr h
    simp only [List.mem_cons, List.not_mem_nil, or_false] at hr
    obtain rfl | rfl := hr
    all_goals exact of_decide_eq_true (imm_of_lastReserved h)
  case bank =>
    intro i r hr h
    obtain rfl := List.mem_singleton.mp hr
    exact of_decide_eq_true (imm_of_lastReserved h)

end Sys2Proof.Proofs
end

section
/-! PROOF. Scalar operations. -/

namespace Sys2Proof.Machine

variable {s : State} {t fn : Nat} {i : Insn}

/-! ## The two forms (R157, R166) -/

theorem Insn.reservedOk_aluReg : i.reservedOk (.alu false fn) = true ↔ i.rc = 0 ∧ i.imm = 0 := by
  simp only [Insn.reservedOk, Bool.and_eq_true, beq_iff_eq]

/-- IMM of a shift is a count below 64. -/
theorem Insn.reservedOk_aluImm : i.reservedOk (.alu true fn) = true ↔
    i.rb = 0 ∧ i.rc = 0 ∧ (fn = 5 ∨ fn = 6 ∨ fn = 7 → i.imm < 64) := by
  simp only [Insn.reservedOk, Bool.and_eq_true, Bool.or_eq_true, Bool.not_eq_true', Bool.or_eq_false_iff, beq_iff_eq, beq_eq_false_iff_ne,
    decide_eq_true_eq, and_assoc, or_assoc, ← not_or, ← Decidable.imp_iff_not_or]

theorem State.aluReg_stands (h : s.standsAt t i (.alu false fn) = true) : s.quiet.aluReg t fn =
    (s.quiet.setReg t i.rd (alu fn (s.reg t i.ra) (s.reg t i.rb)) (s.tag t i.ra || s.tag t i.rb)).commit t :=
  State.oldest_of_standsAt (· == .alu false fn) _ h (beq_self_eq_true _)

theorem State.aluImm_stands (h : s.standsAt t i (.alu true fn) = true) : s.quiet.aluImm t fn =
    (s.quiet.setReg t i.rd (alu fn (s.reg t i.ra) i.simm) (s.tag t i.ra)).commit t :=
  State.oldest_of_standsAt (· == .alu true fn) _ h (beq_self_eq_true _)

end Sys2Proof.Machine

namespace Sys2Proof.Proofs

open Sys2Proof.Machine

/-- Settles O12: both forms by their bodies where the thread stands at them, each FN by its row of `alu`. -/
theorem scalarFormsCompute : Obligations.ScalarFormsCompute := by
  unfold Obligations.ScalarFormsCompute
  refine ⟨?reservedReg, ?reservedImm, ?add, ?sub, ?and, ?or, ?xor, ?sll, ?srl, ?sra, ?mul, ?slt, ?sltu, ?seq, ?min, ?max, ?minu, ?maxu,
    ?addi, ?subi, ?andi, ?ori, ?xori, ?slli, ?srli, ?srai, ?muli, ?slti, ?sltui, ?seqi, ?mini, ?maxi, ?minui, ?maxui⟩
  case reservedReg =>
    intro i fn
    exact Insn.reservedOk_aluReg
  case reservedImm =>
    intro i fn
    exact Insn.reservedOk_aluImm
  case add | sub | and | or | xor | sll | srl | sra | mul | slt | sltu | seq | min | max | minu | maxu =>
    intro t i s h
    exact congrArg Host.Outcome.next (State.aluReg_stands h)
  case addi | subi | andi | ori | xori | slli | srli | srai | muli | slti | sltui | seqi | mini | maxi | minui | maxui =>
    intro t i s h
    exact congrArg Host.Outcome.next (State.aluImm_stands h)

end Sys2Proof.Proofs
end

section
/-! PROOF. Loads and stores of threads. -/

namespace Sys2Proof.Machine

variable {s : State} {t : Nat} {i : Insn}

/-! ## Sending the oldest instruction's access (R164, R172, R252) -/

theorem State.sendOldest_tagFree {a : Access} {kind : PendKind} (h : s.maySend (threadNode t) = true) : s.sendOldest t a kind =
    (s.setThread t { s.thread t with pend := some ⟨s.tpc t, s.freeTag (threadNode t), kind⟩ }).sendReq (threadNode t) a :=
  if_neg (by rw [h]; decide)

/-- A load at a good address that no read ahead, locked sequence or posted store answers is sent. -/
theorem State.loadOldest_sends {tol : Bool} (h : s.standsAt t i (if tol then .ldt else .ld) = true) (ha : s.tag t i.ra = false)
    (hd : localDecode (i.addr (s.reg t i.ra)) i.size = false) (hs : s.specOf t (s.thread t).commits = none) (hl : s.locked t = false)
    (hp : (plainAddr (i.addr (s.reg t i.ra)) && s.postedToLine t (i.addr (s.reg t i.ra))) = false) : s.quiet.loadOldest t tol =
      s.quiet.sendOldest t (readAccess (i.addr (s.reg t i.ra)) i.size)
        (.load i.rd i.rc tol (i.fn.testBit 2) i.size (i.addr (s.reg t i.ra))) := by
  have hlock : (s.quiet.thread t).lock = none := Option.not_isSome_iff_eq_none.mp (Bool.eq_false_iff.mp hl)
  refine (State.oldest_consuming (· == if tol then .ldt else .ld) Insn.ra _ h (beq_self_eq_true _) ha).trans ?_
  refine (if_neg (Bool.eq_false_iff.mp hd)).trans ?_
  rw [show s.quiet.specOf t (s.quiet.thread t).commits = none from hs, hlock]
  exact if_neg (Bool.eq_false_iff.mp hp)

/-- A store to a good address outside CSR space, of a thread outside a locked sequence: posted it commits at once, else its answer is awaited. -/
theorem State.store_sends {row : Row} (h : s.standsAt t i row = true) (ha : s.tag t i.ra = false)
    (hc : csrAddr (i.addr (s.reg t i.ra)) = false) (hd : localDecode (i.addr (s.reg t i.ra)) i.size = false)
    (hm : s.maySend (threadNode t) = true) (hl : s.locked t = false) : s.quiet.store t row =
      if row = .stp then
        (s.quiet.sendPosted t (s.tpc t) (writeAccess (i.addr (s.reg t i.ra)) i.size (s.reg t i.rb) (s.tag t i.rb))).commit t
      else s.quiet.sendOldest t (writeAccess (i.addr (s.reg t i.ra)) i.size (s.reg t i.rb) (s.tag t i.rb)) (.other i.rc (row == .stt)) := by
  have hconsumed : (if csrAddr (i.addr (s.quiet.reg t i.ra)) then [i.ra, i.rb] else [i.ra]) = [i.ra] := if_neg (Bool.eq_false_iff.mp hc)
  refine (State.oldest_of_standsAt (· == row) _ h (beq_self_eq_true _)).trans ?_
  dsimp only
  rw [hconsumed, State.consuming_untagged (s := s.quiet) _ ha, if_pos (show s.quiet.maySend (threadNode t) = true from hm)]
  exact (if_neg (Bool.eq_false_iff.mp hl)).trans (if_neg (Bool.eq_false_iff.mp hd))

/-! ## Answers (R164, R175) -/

/-- An OK answer to the thread's own load completes it. -/
theorem State.threadAnswer_loadOk {tag pc rd rc size addr : Nat} {sx : Bool} {a : Answer}
    (hp : (s.thread t).pend = some ⟨pc, tag, .load rd rc false sx size addr⟩) (hok : a.code = .ok) : s.threadAnswer t tag a =
      ((s.setThread t { s.thread t with pend := none }).setReg t rd (loadValue a.data size sx) (a.poison % 2 == 1)).commit t := by
  rw [State.threadAnswer, hp]
  exact (if_pos rfl).trans (if_pos hok)

theorem exec_answerArrival_taken {u : State} {t : Fin 4} {tag : BitVec 8} {a : Answer}
    (hu : s.quiet.takeAnswer (threadNode t.val) tag.toNat a = some u) :
    exec (.answerArrival t tag a) s = .next (u.threadAnswer t.val tag.toNat a) := by
  change execAnswerArrival t tag a s = _
  simp only [execAnswerArrival, hu]

/-- The answer to a posted effect frees its tag and is looked at by its code. -/
theorem exec_postedAnswer_taken {u : State} {t : Fin 4} {tag : BitVec 8} {a : Answer} {e : Nat × Nat × Option Nat}
    (hu : s.quiet.takeAnswer (threadNode t.val) tag.toNat a = some u)
    (he : (u.thread t.val).posted.find? (fun e => e.1 == tag.toNat) = some e) : exec (.postedAnswer t tag a) s =
      .next ((u.setThread t.val { u.thread t.val with posted := (u.thread t.val).posted.erase e }).postedDone t.val e.2.1 a.code) := by
  change execPostedAnswer t tag a s = _
  simp only [execPostedAnswer, hu, State.postedAnswer, he]

theorem State.postedDone_ok {pc : Nat} {code : Resp} (h : code = .ok) : s.postedDone t pc code = s := if_pos h

/-- An answer other than OK counts with its code and place; the first since the count was last 0 is logged. -/
theorem State.postedDone_failed {pc : Nat} {code : Resp} (h : code ≠ .ok) : s.postedDone t pc code =
    (((if s.rd (R.SEQ_THR_POSTED_COUNT t) = 0 then s.log .seqPostedErr [t, code.code, pc] else s).bump (R.SEQ_THR_POSTED_COUNT t)).wr
      (R.SEQ_THR_POSTED_CODE t) code.code).wr (R.SEQ_THR_POSTED_PC t) pc := if_neg h

end Sys2Proof.Machine

namespace Sys2Proof.Proofs

open Sys2Proof.Machine

/-- Settles O15: an access by its sending, an answer by what of the thread waits for it and by its code. -/
theorem memoryAccessesOfThreads : Obligations.MemoryAccessesOfThreads := by
  unfold Obligations.MemoryAccessesOfThreads
  refine ⟨?ld, ?ldt, ?st, ?stt, ?stp, ?sent, ?loaded, ?postedOk, ?counted, ?logged, ?posted⟩
  case ld | ldt =>
    intro t i s h ha hd _ hs hl hp
    exact congrArg Host.Outcome.next (State.loadOldest_sends h ha hd hs hl hp)
  case st | stt | stp =>
    intro t i s h ha hc hd hm hl
    exact congrArg Host.Outcome.next (State.store_sends h ha hc hd hm hl)
  case sent =>
    intro t a kind s h
    exact State.sendOldest_tagFree h
  case loaded =>
    intro t tag a s u pc rd rc size addr sx hu hp hok
    rw [exec_answerArrival_taken hu, State.threadAnswer_loadOk hp hok]
  case postedOk =>
    intro t tag a s u pc addr hu he hok
    rw [exec_postedAnswer_taken hu he, State.postedDone_ok hok]
  case counted =>
    intro t pc code s hc hn
    rw [State.postedDone_failed hc, if_neg hn]
  case logged =>
    intro t pc code s hc hn
    rw [State.postedDone_failed hc, if_pos hn]
  case posted =>
    intro t tag a s u pc addr hu he
    exact exec_postedAnswer_taken hu he

end Sys2Proof.Proofs
end

section
/-! PROOF. Loading, committing and starting configuration images. -/

namespace Sys2Proof.Machine

variable {s u : State} {x : ImgIn} {data : List (Byte × Bool)}

/-! ## Deliveries of image bytes (R195, R199, R208) -/

theorem exec_imageHeader_formed (h : imgInOk x = true) :
    exec (.imageHeader x) s = .next (s.quiet.deliverImage x fun s k => s.completesHeader x k) := if_neg (by rw [h]; decide)

theorem exec_imageBytes_formed (h : imgInOk x = true) :
    exec (.imageBytes x) s = .next (s.quiet.deliverImage x fun s k => !(s.completesHeader x k)) := if_neg (by rw [h]; decide)

/-- The next bytes of a source that may load are taken and answered OK. -/
theorem State.deliverImage_taken {here : State → Nat → Bool} (hdata : s.imgData x = some data) (hhere : here s data.length = true)
    (hmay : s.sourceMay x = true) (hnext : (s.imgOpen && imgOffset x != s.imgNext) = false) :
    s.deliverImage x here = (s.imgTake x data).imgAnswer x .ok := by
  simp only [State.deliverImage, hdata, hhere, hmay, hnext, Bool.not_true, Bool.or_self, Bool.false_eq_true, if_false]

/-- Bytes are owed to a host's load, and none has come in time. -/
theorem exec_imageIdleTimeout_owed (hwait : s.loadAwaited ≠ some 2) (hstate : s.istate = .header ∨ s.istate = .stream) (hsrc : s.img.src ≠ 0) :
    exec .imageIdleTimeout s = .next (s.quiet.imgFail 0x0D) := by
  have hhost : (if s.quiet.img.src = 0 then s.quiet else s.quiet.imgFail 0x0D) = s.quiet.imgFail 0x0D := if_neg hsrc
  refine (if_neg hwait).trans ?_
  rcases hstate with h | h <;> simp only [show s.quiet.istate = _ from h, hhost]

/-- ABORT of a load that has not passed its commit point fails it. -/
theorem wrImgCtl_aborts {v : BitVec 32} (habort : R.IMG_CTL_ABORT.of v = 1) (hopen : (s.storeReg .IMG_CTL v).imgOpen = true) :
    wrImgCtl s v = (s.storeReg .IMG_CTL v).imgFail 0x10 := (if_pos habort).trans (if_pos hopen)

theorem exec_imgAbort_ok {ini : Ini} (hin : s.fromInside ini = false) (ht : s.turnedAway R.IMG_CTL_ABORT.off = none) : exec (.imgAbort ini) s =
    .next ((wrImgCtl s.quiet (BitVec.ofNat 32 (2 ^ 31 + s.rd R.IMG_CTL_IDLE_TIMEOUT))).okWrite ini) :=
  (if_neg (Bool.eq_false_iff.mp hin)).trans (congrArg _ (State.written_ok ht))

/-! ## The tag and the commit (R198, R203, R204) -/

theorem exec_imageTagCheck_verify (h : s.istate = .verify) : exec .imageTagCheck s =
    if s.img.tag = s.img.trailer.map BitVec.toNat then .next (s.quiet.setIstate .commit) else .next ((s.quiet.imgFail 0x0E).alarm 0) :=
  if_neg (not_not_intro h)

theorem State.commitBegins_passed (h : s.preCheck = none) : s.commitBegins =
    (s.promote.raiseFloor).setImg { (s.promote.raiseFloor).img with phase := .floor } := by
  simp only [State.commitBegins, h]

/-- The floor stands: the regions marked UP are requested on. -/
theorem State.commitPowers_floorStands (hf : s.floorDue = false) (hu : u = (s.img.startRegions 7).foldl State.upRegion s) :
    s.commitPowers = u.setImg { u.img with phase := .up } := by
  simp only [State.commitPowers, hf, hu, Bool.false_and, Bool.false_eq_true, if_false]

section

variable (hstate : s.istate = .commit) (hheld : s.heldLoads = [])
include hstate hheld

/-- A commit that no erase holds up takes its next step, by its phase. -/
theorem exec_imageCommit_free : exec .imageCommit s = match s.img.phase with
    | .none => .next s.quiet.commitBegins
    | .floor => .next s.quiet.commitPowers
    | .up => .next (if (s.img.startRegions 7).any s.quiet.settling then s.quiet else s.quiet.commitApplies)
    | .fills | .swaps => .next s.quiet :=
  if_neg (not_or.mpr ⟨not_not_intro hstate, not_not_intro hheld⟩)

theorem exec_imageCommit_begins (hp : s.img.phase = .none) : exec .imageCommit s = .next s.quiet.commitBegins := by
  rw [exec_imageCommit_free hstate hheld, hp]

theorem exec_imageCommit_powers (hp : s.img.phase = .floor) : exec .imageCommit s = .next s.quiet.commitPowers := by
  rw [exec_imageCommit_free hstate hheld, hp]

theorem exec_imageCommit_applies (hp : s.img.phase = .up) (hsettled : (s.img.startRegions 7).any s.settling = false) :
    exec .imageCommit s = .next s.quiet.commitApplies := by
  rw [exec_imageCommit_free hstate hheld, hp]
  exact congrArg _ (if_neg (Bool.eq_false_iff.mp hsettled))

end

/-! ## START (R212) -/

theorem exec_imageStart_fills (hstate : s.istate = .starting) (hp : s.img.phase = .none) :
    exec .imageStart s = .next s.quiet.startFills := by
  refine (if_neg (not_not_intro hstate)).trans ?_
  simp only [show s.quiet.img.phase = .none from hp]

/-- No region refuses its fill: the fills are given. -/
theorem State.startFills_accepted
    (h : (s.img.startRegions 6).find? (fun n => s.startRefusal n (.fill (s.img.startPlane n) false)) = none)
    (hu : u = (s.img.startRegions 6).foldl (fun v n => v.acceptFill n (v.img.startPlane n) none) s) :
    s.startFills = u.setImg { u.img with phase := .fills } := by
  simp only [State.startFills, h, hu]

end Sys2Proof.Machine

namespace Sys2Proof.Proofs

open Sys2Proof.Machine

/-- Settles O17: a delivery by what it brings, the tag check by its outcome, the commit and START by their phase, a failure by its cause. -/
theorem imagesLoadAndStart : Obligations.ImagesLoadAndStart := by
  unfold Obligations.ImagesLoadAndStart
  refine ⟨?header, ?bytes, ?tagRight, ?tagWrong, ?begins, ?powers, ?applies, ?fills, ?idles, ?aborted⟩
  case header =>
    intro x data s hok hdata hhere hmay hnext
    rw [exec_imageHeader_formed hok]
    exact congrArg _ (State.deliverImage_taken (s := s.quiet) hdata hhere hmay hnext)
  case bytes =>
    intro x data s hok hdata hhere hmay hnext
    rw [exec_imageBytes_formed hok]
    exact congrArg _ (State.deliverImage_taken (s := s.quiet) hdata (congrArg not hhere) hmay hnext)
  case tagRight =>
    intro s hstate htag
    rw [exec_imageTagCheck_verify hstate, if_pos htag]
  case tagWrong =>
    intro s hstate htag
    rw [exec_imageTagCheck_verify hstate, if_neg htag]
  case begins =>
    rintro s u hstate hheld hp hcheck rfl
    rw [exec_imageCommit_begins hstate hheld hp, State.commitBegins_passed (s := s.quiet) hcheck]
  case powers =>
    intro s u hstate hheld hp hfloor hu
    rw [exec_imageCommit_powers hstate hheld hp, State.commitPowers_floorStands (s := s.quiet) hfloor hu]
  case applies =>
    intro s hstate hheld hp hsettled
    exact exec_imageCommit_applies hstate hheld hp hsettled
  case fills =>
    intro s u hstate hp hrefused hu
    rw [exec_imageStart_fills hstate hp, State.startFills_accepted (s := s.quiet) hrefused hu]
  case idles =>
    intro s hwait hstate hsrc
    exact exec_imageIdleTimeout_owed hwait hstate hsrc
  case aborted =>
    rintro ini s u v hin rfl habort rfl hopen ht
    rw [exec_imgAbort_ok hin ht, wrImgCtl_aborts (s := s.quiet) habort hopen]

end Sys2Proof.Proofs
end

section
/-! PROOF. Resets and the start sequence. -/

namespace Sys2Proof.Machine

variable {s u : State} {ini : Ini}

/-! ## Resets (R408, R412, R413) -/

/-- What becomes of a reset that is due. -/
theorem exec_deviceResetBegin_due {cause : Nat} (h : s.start.resetDue = some cause) : exec .deviceResetBegin s =
    if cause = 3 ∧ s.deskCommitted = false then .next s.quiet
    else if s.isShutdown && cause != 2 then .next s.quiet.resetDropped
    else .next (s.quiet.deviceReset cause) := by
  change execDeviceResetBegin s = _
  simp only [execDeviceResetBegin, show s.quiet.start.resetDue = some cause from h]
  rfl

theorem State.desk_not_early {cause : Nat} (h : cause ≠ 3 ∨ s.deskCommitted = true) : ¬ (cause = 3 ∧ s.deskCommitted = false) :=
  fun ⟨hcause, hearly⟩ => h.elim (· hcause) fun hdue => Bool.false_ne_true (hearly.symm.trans hdue)

/-- L1 of RST_DIE resets the regions 0 to 31. -/
theorem wrRstDie_l1 {v : BitVec 32} (h1 : R.RST_DIE_L1.of v = 1) (h2 : R.RST_DIE_L2.of v = 0) :
    wrRstDie s v = (List.range 32).foldl State.dieRegion s := by
  simp only [wrRstDie, h1, h2, if_true, State.each, Nat.mul_zero, Nat.zero_add]
  rfl

theorem exec_dieReset_ok {v : BitVec 32} (ht : s.turnedAway R.RST_DIE_L1.off = none) :
    exec (.dieReset ini v) s = .next ((wrRstDie s.quiet v).okWrite ini) := congrArg _ (State.written_ok ht)

/-! ## A power-on reset (R412, R414, R501)

Whether the loss of VCC_HK found a record write in progress is a free value (log entry 280). Where it is even, none was, and the reset keeps the
fuses and the journal's records. Where it is odd, the record that stood in the slot is copied forward (R419): the copy may wear out the last sector
(R420), and the alarm that this raises may ERASE (R450). -/

/-- A reset tears no record: VCC_HK holds, as far as the latest round reads it, or the journal takes no records. -/
def State.tearsNothing (s : State) : Bool := !(s.is1 (R.HK_CHAN_VALID 202)) || s.supplyIn 202 || s.jnlRO || decide (s.rd R.START_STAT_STEP < 4)

/-- No record write was in progress: the reset uses free values, and no more. -/
theorem State.tornByLoss_even (h : s.draw % 2 = 0) : s.tornByLoss = { s with fresh := if s.tearsNothing then s.fresh else s.fresh + 1 } := by
  by_cases hnone : s.tearsNothing = true
  · rw [if_pos hnone]
    exact if_pos hnone
  · rw [if_neg hnone]
    refine (if_neg hnone).trans ?_
    simp only [if_pos h]
    cases s.frontWrite <;> rfl

theorem State.powerOnReset_even (h : s.draw % 2 = 0) : s.quiet.powerOnReset = { State.reset with
    pending := s.pending, now := s.now, fresh := s.tornByLoss.fresh, fuses := s.fuses, lcFuses := s.lcFuses,
    jnl := { s.tornByLoss.jnl with queue := [] }, start := { rstLow := s.start.rstLow, porLow := true, cool := s.isShutdown || s.start.cool } } := by
  rw [State.powerOnReset, State.tornByLoss_even (s := s.quiet) h, State.tornByLoss_even h]
  rfl

/-- The record in the slot was being overwritten: it has been copied forward. -/
theorem State.tornByLoss_odd {b : JBody} (hlost : s.tearsNothing = false) (hb : s.frontWrite = some b) (h : s.draw % 2 = 1) :
    s.tornByLoss = ((s.copyForward b).tearSlot ((s.copyForward b).placeOf b)).drawn := by
  refine (if_neg (Bool.eq_false_iff.mp hlost)).trans ?_
  simp only [hb, h, Nat.one_ne_zero, if_false]

theorem State.logP_sec (prio : Nat) (ev : Gb) (args : List Nat) : (s.logP prio ev args).sec = s.sec := by
  simp only [State.logP]
  repeat' split
  all_goals rfl

/-- An alarm whose response is ERASE burns the kill fuse of the debug key, where none was answered before. -/
theorem State.alarm_erases {a : Fin 7} (hresp : s.rd (R.ALARM_CFG_RESP a.val) = 4) (hadv : s.sec.advance = none) (hact : s.sec.acted = none) :
    (s.alarm a).lcFuses.killed = true := by
  have hsec : ((s.bump (R.ALARM_CFG_COUNT a.val)).logP (respPriority 4) (.alarm a) []).sec = s.sec := State.logP_sec ..
  simp only [State.alarm, hresp, hsec, hadv, Option.isSome_none, Bool.false_eq_true, if_false, State.respondOnce, State.responded, hact]
  rfl

/-- With no event waiting and one write that the device itself asked for, the journal's lock raises the alarm, and nothing else. -/
theorem State.jnlLocks_erases {b : JBody} {k : Nat} (hgb : s.gbq = []) (hq : s.jnl.queue = [⟨b, k, .device⟩]) (hdesk : s.desk.wait = none)
    (hresp : s.rd (R.ALARM_CFG_RESP 2) = 4) (hadv : s.sec.advance = none) (hact : s.sec.acted = none) : s.jnlLocks.lcFuses.killed = true := by
  have hset : (s.set1 R.JNL_STAT_READ_ONLY).rd (R.ALARM_CFG_RESP 2) = 4 := (State.wr_rd_ne _ _ _ _ (by decide)).trans hresp
  have hkept : (s.set1 R.JNL_STAT_READ_ONLY).freezeKept = s.set1 R.JNL_STAT_READ_ONLY := by
    simp only [State.freezeKept, State.set1, State.wr_gbq, hgb, List.findIdx?_nil]
  have hrefused : (s.set1 R.JNL_STAT_READ_ONLY).refuseWrites =
      { s.set1 R.JNL_STAT_READ_ONLY with jnl := { (s.set1 R.JNL_STAT_READ_ONLY).jnl with queue := [] } } := by
    simp only [State.refuseWrites, State.set1, State.wr_jnl, hq, List.foldl_cons, List.foldl_nil, State.notSaved]
  have hwait : ¬ s.desk.wait = some .journal := by
    rw [hdesk]
    decide
  rw [State.jnlLocks, hkept, hrefused]
  exact (congrArg (fun t : State => (t.alarm 2).lcFuses.killed) (if_neg hwait)).trans (State.alarm_erases hset hadv hact)

/-- The last sector wears out. -/
theorem State.wearSector_locks {l p : Nat} {x : JSector} (hp : s.physOf l = some p) (hx : s.jsec p = x) (hw : wearLimit ≤ x.writes + 1)
    (hs : (s.setJsec p { x with writes := x.writes + 1 }).jspares = []) :
    s.wearSector l = ((s.setJsec p { x with writes := x.writes + 1 }).jnlLocks).showSectors := by
  simp only [State.wearSector, hp, hx, if_neg (Nat.not_lt.mpr hw), State.retireSector, hs]

/-- A record write that waits, to a slot whose standing record is copied forward, in a sector that one more write wears out, with no spare left; the
supply of VCC_HK is read out of its range, and JOURNAL_READ_ONLY is answered by ERASE. n counts the free values used. -/
def wornJournal (n : Nat) : State := { State.reset with
  fresh := n
  csr := (((State.reset.wr R.START_STAT_STEP 4).set1 (R.HK_CHAN_VALID 202)).wr (R.ALARM_CFG_RESP 2) 4).csr
  jnl := {
    recs := [⟨.counter 0 0, 0, 1⟩], seq := 1, queue := [⟨.counter 0 1, 0, .device⟩]
    sectors := (0, some ⟨0, 0, wearLimit - 1⟩) :: (List.range 16).map fun i => (256 + i, some ⟨0xFFFE, 0, 0⟩) } }

/-- The same after the standing record has been copied to the slot ahead. -/
def wornCopied (n : Nat) : State := (wornJournal n).putAt (.counter 0 0) 2

theorem wornJournal_copies (n : Nat) : (wornJournal n).copyForward (.counter 0 1) = (wornCopied n).wearSector 0 := by
  have hrec : ((wornJournal n).recAt ((wornJournal n).placeOf (.counter 0 1))).filter (fun r => standing r.body) = some ⟨.counter 0 0, 0, 1⟩ :=
    show ((wornJournal 0).recAt ((wornJournal 0).placeOf (.counter 0 1))).filter (fun r => standing r.body) = _ by decide +kernel
  have hslot : (wornJournal n).slotAhead (recGroup (.counter 0 1)) = some 2 :=
    show (wornJournal 0).slotAhead (recGroup (.counter 0 1)) = some 2 by decide +kernel
  simp only [State.copyForward, hrec, hslot]
  rfl

theorem wornCopied_locks (n : Nat) : (wornCopied n).wearSector 0 = ((wornCopied n).setJsec 0 ⟨0, 0, wearLimit⟩).jnlLocks.showSectors :=
  State.wearSector_locks (x := ⟨0, 0, wearLimit - 1⟩) (show (wornCopied 0).physOf 0 = some 0 by decide +kernel) rfl (by decide +kernel)
    (show ((wornCopied 0).setJsec 0 ⟨0, 0, wearLimit⟩).jspares = [] by decide +kernel)

theorem wornCopied_burns (n : Nat) : (((wornCopied n).setJsec 0 ⟨0, 0, wearLimit⟩).jnlLocks).lcFuses.killed = true :=
  State.jnlLocks_erases rfl rfl rfl (show (wornCopied 0).rd (R.ALARM_CFG_RESP 2) = 4 by decide +kernel) rfl rfl

theorem wornJournal_burns (n : Nat) : ((wornJournal n).copyForward (.counter 0 1)).lcFuses.killed = true := by
  rw [wornJournal_copies, wornCopied_locks]
  exact wornCopied_burns n

/-- A power-on reset of it burns a fuse, where the free value says that the write was in progress. -/
theorem wornJournal_reset_burns {n : Nat} (h : Config.free n % 2 = 1) : (wornJournal n).quiet.powerOnReset.lcFuses.killed = true := by
  have hlost : (wornJournal n).quiet.tearsNothing = false := show (wornJournal 0).tearsNothing = false by decide +kernel
  rw [State.powerOnReset, State.tornByLoss_odd (b := .counter 0 1) hlost rfl h]
  exact wornJournal_burns n

/-! ## The steps of the start sequence (R415, R416, R422, R423) -/

theorem State.not_away_atStep {k : Nat} (h : s.atStep k = true) : ¬ (!(s.quiet.atStep k)) = true := by
  rw [show s.quiet.atStep k = true from h]
  decide

theorem State.atStep_step {k : Nat} (h : s.atStep k = true) : s.rd R.START_STAT_STEP = k := by
  simp only [State.atStep, Bool.and_eq_true, beq_iff_eq] at h
  exact h.1.1.1

theorem State.itin_lcFuses (step phase outcome unit detail : Nat) : (s.itin step phase outcome unit detail).lcFuses = s.lcFuses := by
  simp only [State.itin, State.jnlAsk, State.jnlAskBy]
  split <;> rfl

theorem exec_housekeepingStep_ready (h : s.atStep 1 = true) (hin : s.suppliesIn = true) (hcool : (s.start.cool && decide (760 ≤ s.tGov)) = false) :
    exec .housekeepingStep s = .next (((s.quiet.setStart { s.start with cool := false }).itin 1 0 0 0 0).endStep 1) := by
  refine if_neg ?_
  rw [show s.quiet.atStep 1 = true from h, show s.quiet.suppliesIn = true from hin,
    show (s.quiet.start.cool && decide (760 ≤ s.quiet.tGov)) = false from hcool]
  decide

theorem exec_housekeepingStep_waits (h : s.suppliesIn = false ∨ s.start.cool = true ∧ 760 ≤ s.tGov) :
    exec .housekeepingStep s = .next s.quiet := by
  refine if_pos ?_
  rw [Bool.or_eq_true, Bool.or_eq_true]
  rcases h with hin | ⟨hcool, hhot⟩
  · exact .inl (.inr (congrArg not hin))
  · exact .inr (Bool.and_eq_true_iff.mpr ⟨hcool, decide_eq_true hhot⟩)

theorem exec_fuseStep_here {ok : Bool} (h : s.atStep 2 = true) : exec (.fuseStep ok) s =
    if ok && (lcOf s.lcFuses.lcRows).isSome then .next ((((s.quiet.itin 2 0 0 0 0).reErase).showFuses).endStep 2)
    else .next (((s.quiet.itin 2 0 0 0 0).log .fuseFail []).stopStart 2) := by
  refine (if_neg (State.not_away_atStep h)).trans ?_
  simp only [State.itin_lcFuses]
  rfl

theorem exec_journalStep_readable (h : s.atStep 3 = true) (hu : u = ((((s.quiet.itin 3 0 0 0 0).readJournal.setStart
    { (s.quiet.itin 3 0 0 0 0).readJournal.start with roKept := false }).countStart).logLoss).scrubDark) :
    exec (.journalStep true) s = .next ((u.wr R.IMG_SEC_FLOOR_FLOOR (u.rd (R.JNL_CNT_VALUE 0))).endStep 3) := by
  change execJournalStep true s = _
  simp only [execJournalStep, if_neg (State.not_away_atStep h), if_true, hu]

theorem exec_repairLoad_here {tables : Bool} {rs : List RepRec} {o : OutMap} (h : s.atStep 4 = true) (hrs : rs = s.allMapouts)
    (ho : o = outMap rs s.lcFuses.diesOut) : exec (.repairLoad tables) s =
    if o.fatal || !tables then .next (((s.quiet.itin 4 0 0 0 0).logBroken rs o).stopStart 4)
    else .next (((((s.quiet.itin 4 0 0 0 0).logBroken rs o).repairLoad rs o).endStep 4).deskReady) := by
  subst hrs ho
  exact if_neg (State.not_away_atStep h)

section

variable {dir : BitVec 256} (hstep : s.atStep 6 = true) (hwait : s.is1 R.START_STAT_WAIT_HOST = false) (hdesk : (s.desk.wait == some .image) = false)
  (hidle : s.imgBusy = false ∧ s.start.trying = none)
include hstep hwait hdesk hidle

/-- At step 6, with no load in progress: the next flash image in order, or a host's. -/
theorem exec_imageStep_idle : exec (.imageStep dir) s =
    match (if (s.setting 0).testBit 0 then [s.start.first, 1 - s.start.first].filter fun u =>
      ((flashDirectory dir).bind fun d => dirAddress d u).isSome && !(s.start.tried.contains u) else []) with
    | u :: _ => .next ((((s.quiet.setStart { s.start with
        tried := s.start.tried ++ [u], trying := some u, base := ((flashDirectory dir).bind fun d => dirAddress d u).getD 0 }).wr
          R.START_STAT_IMAGE (u + 1)).itin 6 0 0 u 0))
    | [] => .next (s.quiet.set1 R.START_STAT_WAIT_HOST) := by
  have hretry : s.quiet.retrying = false := by
    rw [State.retrying, show (s.quiet.desk.wait == some FdWait.image) = false from hdesk, Bool.false_and]
  have hsix : s.quiet.rd R.START_STAT_STEP = 6 := State.atStep_step hstep
  refine (if_neg ?_).trans ?_
  · rw [hretry, show s.quiet.atStep 6 = true from hstep, show s.quiet.is1 R.START_STAT_WAIT_HOST = false from hwait,
      show (s.quiet.desk.wait == some FdWait.image) = false from hdesk, show s.quiet.imgBusy = false from hidle.1,
      show s.quiet.start.trying = none from hidle.2]
    simp only [Bool.not_false, Bool.and_self, Bool.false_and, Bool.or_false, Bool.not_true, Bool.and_true, Bool.or_self, Option.isSome_none,
      Bool.false_eq_true, not_false_eq_true]
  · simp only [hretry, Bool.false_eq_true, if_false, hsix, if_true] <;> rfl

/-- Without a start setting or a directory that names an image, the device waits for a host. -/
theorem exec_imageStep_waits (h : (s.setting 0).testBit 0 = false ∨ flashDirectory dir = none) :
    exec (.imageStep dir) s = .next (s.quiet.set1 R.START_STAT_WAIT_HOST) := by
  rw [exec_imageStep_idle hstep hwait hdesk hidle]
  rcases h with hoff | hdir
  · simp only [hoff, Bool.false_eq_true, if_false]
  · simp only [hdir, Option.bind_none, Option.isSome_none, Bool.false_and, List.filter_cons, List.filter_nil, Bool.false_eq_true, if_false,
      ite_self]

/-- The first image tried is the directory's primary one. -/
theorem exec_imageStep_primary {d : Nat × Option Nat} (hon : (s.setting 0).testBit 0 = true) (hdir : flashDirectory dir = some d)
    (hfirst : s.start.first = 0 ∧ s.start.tried = []) (hu : u = s.quiet.setStart { s.start with tried := [0], trying := some 0, base := d.1 }) :
    exec (.imageStep dir) s = .next ((u.wr R.START_STAT_IMAGE 1).itin 6 0 0 0 0) := by
  obtain ⟨hprimary, htried⟩ := hfirst
  rw [exec_imageStep_idle hstep hwait hdesk hidle, hu]
  simp only [hon, hdir, hprimary, htried, dirAddress, if_true, Option.bind_some, Option.isSome_some, Option.getD_some, List.contains_nil,
    Bool.not_false, Bool.and_true, List.filter_cons_of_pos, List.nil_append, Nat.zero_add]

end

end Sys2Proof.Machine

namespace Sys2Proof.Proofs

open Sys2Proof.Machine

/-- The statement of O35 where no record write is in progress as VCC_HK is lost. -/
theorem resetsAndStart_of_free_even (heven : ∀ n, Config.free n % 2 = 0) : Obligations.ResetsAndStart := by
  unfold Obligations.ResetsAndStart
  refine ⟨?release, ?powerOn, ?resetLow, ?resetHigh, ?due, ?dropped, ?early, ?die, ?supplied, ?unsupplied, ?fuses, ?fusesFail, ?journal, ?repair,
    ?repairFails, ?bist, ?waits, ?primary, ?directory⟩
  case release =>
    intro role s
    rfl
  case powerOn =>
    intro role s
    exact congrArg Host.Outcome.next (State.powerOnReset_even (heven s.fresh))
  case resetLow =>
    intro s
    rfl
  case resetHigh =>
    intro s
    rfl
  case due =>
    intro cause s hdue hshut hdesk
    rw [exec_deviceResetBegin_due hdue, if_neg, if_neg]
    · rcases hshut with h | h <;> simp only [h, Bool.false_and, bne_self_eq_false, Bool.and_false, Bool.false_eq_true, not_false_eq_true]
    · exact State.desk_not_early hdesk
  case dropped =>
    intro cause s hdue hshut hcause hdesk
    rw [exec_deviceResetBegin_due hdue, if_neg, if_pos]
    · rw [hshut, Bool.true_and, bne_iff_ne]
      exact hcause
    · exact State.desk_not_early hdesk
  case early =>
    intro s hdue hdesk
    rw [exec_deviceResetBegin_due hdue, if_pos ⟨rfl, hdesk⟩]
  case die =>
    intro ini v s h1 h2 ht
    rw [exec_dieReset_ok ht, wrRstDie_l1 h1 h2]
  case supplied =>
    rintro s u h hin hcool rfl
    exact exec_housekeepingStep_ready h hin hcool
  case unsupplied =>
    intro s _ h
    exact exec_housekeepingStep_waits h
  case fuses =>
    rintro s u h hrows rfl
    rw [exec_fuseStep_here h, if_pos (by rw [hrows]; rfl)]
    rfl
  case fusesFail =>
    rintro ok s u h hfail rfl
    rw [exec_fuseStep_here h, if_neg]
    · rfl
    · rcases hfail with h | h <;> simp only [h, Bool.false_and, Option.isSome_none, Bool.and_false, Bool.false_eq_true, not_false_eq_true]
  case journal =>
    intro s u h hu
    exact exec_journalStep_readable h hu
  case repair =>
    rintro s u rs o h hrs ho hfatal rfl
    rw [exec_repairLoad_here h hrs ho, if_neg (by rw [hfatal]; decide)]
    rfl
  case repairFails =>
    rintro tables s u rs o h hrs ho hfails rfl
    rw [exec_repairLoad_here h hrs ho, if_pos hfails]
    rfl
  case bist =>
    rintro failed s u h rfl hended
    exact (if_neg (State.not_away_atStep h)).trans (if_pos hended)
  case waits =>
    intro dir s h hwait hdesk hidle hnone
    exact exec_imageStep_waits h hwait hdesk hidle hnone
  case primary =>
    intro dir d s u h hwait hdesk hidle hon hdir hfirst hu
    exact exec_imageStep_primary h hwait hdesk hidle hon hdir hfirst hu
  case directory =>
    intro dir h
    exact if_pos h

/-- O35 stays unsettled, and this says why: it holds exactly where every free value is even. `Config.free` is opaque, so neither that nor its negation
has a proof. At an odd value a power-on reset may burn fuses (`wornJournal_reset_burns`), and the statement says that it keeps them. -/
theorem resetsAndStart_iff_free_even : Obligations.ResetsAndStart ↔ ∀ n, Config.free n % 2 = 0 := by
  refine ⟨fun h n => (Nat.mod_two_eq_zero_or_one (Config.free n)).resolve_right fun hodd => ?_, resetsAndStart_of_free_even⟩
  unfold Obligations.ResetsAndStart at h
  obtain ⟨-, hpowerOn, -⟩ := h
  have hburned := wornJournal_reset_burns hodd
  rw [Host.Outcome.next.inj (hpowerOn false (wornJournal n))] at hburned
  exact Bool.false_ne_true hburned

end Sys2Proof.Proofs
end

section
/-! PROOF. The configuration patrol (07_patrol.md, R215 to R229). -/

namespace Sys2Proof.Machine

variable {s u : State}

/-! ## The visits of the walkers (R215 to R217) -/

/-- The stored walker's position after a visit: the next index, or index 0 and the pass done after the last. -/
def State.storedMoved (s : State) (last : Bool) : State :=
  { s.wr R.PATROL_SPOS_INDEX (if last then 0 else s.rd R.PATROL_SPOS_INDEX + 1) with passDone := (last, s.passDone.2) }

/-- The active walker's position after a visit. -/
def State.activeMoved (s : State) (last : Bool) : State :=
  { s.wr R.PATROL_APOS_INDEX (if last then 0 else s.rd R.PATROL_APOS_INDEX + 1) with passDone := (s.passDone.1, last) }

/-- A visit of the stored walker before its last of the pass moves on and reads the frame, if its plane is VALID and may be read. -/
theorem exec_patrolStoredVisit_reads {n p f : Nat} (hruns : s.patrolRuns = true) (hpass : s.passDone.1 = false)
    (hlast : s.rd R.PATROL_SPOS_INDEX < 1996799)
    (hn : n = s.rd R.PATROL_SPOS_INDEX / 31200) (hp : p = s.rd R.PATROL_SPOS_INDEX / 3900 % 8) (hf : f = s.rd R.PATROL_SPOS_INDEX % 3900)
    (hu : u = s.quiet.storedMoved false)
    (hread : u.plState n p = .valid ∧ u.dstate (64 + n / 4) = .on ∧ u.unusable n = false ∧ u.configTested (n / 4) = false) :
    exec .patrolStoredVisit s = .next (u.walkerRead false n p f (u.frame n p f)) := by
  have hmoved : s.quiet.storedMoved (decide (1996799 ≤ s.rd R.PATROL_SPOS_INDEX)) = u := by
    rw [decide_eq_false (Nat.not_le.mpr hlast), hu]
  subst hn hp hf
  rw [← hmoved] at hread ⊢
  refine (if_neg ?_).trans (if_pos hread)
  rw [show s.quiet.patrolRuns = true from hruns, show s.quiet.passDone.1 = false from hpass]
  decide

/-- Where no spill uses the return group, a visit of the active walker reads the active latches that may be read (R218). -/
theorem State.activeVisit_reads {n f : Nat} (hspill : s.is1 (R.REGION_STATUS_SPILLING n) = false) (hread : s.activeReadable n = true) :
    s.activeVisit n f = s.walkerRead true n (s.rd (R.REGION_STATUS_ACTIVE_PLANE n)) f (s.latch n (s.region n).sel f) := by
  rw [State.activeVisit, if_neg (Bool.eq_false_iff.mp hspill), State.activeRead, if_pos hread]

/-- The active walker, with no visit held and before its last of the pass, moves on and visits its frame. -/
theorem exec_patrolActiveVisit_moves (hruns : s.patrolRuns = true) (hheld : s.heldVisits = []) (hpass : s.passDone.2 = false)
    (hlast : s.rd R.PATROL_APOS_INDEX < 245759) : exec .patrolActiveVisit s =
      .next ((s.quiet.activeMoved false).activeVisit (s.rd R.PATROL_APOS_INDEX / 3840) (s.rd R.PATROL_APOS_INDEX % 3840)) := by
  change execPatrolActiveVisit s = _
  have hmore : decide (245759 ≤ s.rd R.PATROL_APOS_INDEX) = false := decide_eq_false (Nat.not_le.mpr hlast)
  rw [← hmore]
  simp only [execPatrolActiveVisit, show s.quiet.patrolRuns = true from hruns, State.quiet_heldVisits, hheld, List.find?_nil,
    State.quiet_passDone, hpass, Bool.not_true, Bool.false_eq_true, if_false]
  rfl

/-! ## Checks and corrections (R220, R221, R223, R224) -/

/-- The oldest check, of a stored frame with a single-bit error, counts it and queues the walker's own correction. -/
theorem exec_patrolCheck_single {c : Chk} {rest : List Chk} (hc : s.checks = c :: rest) (hstored : c.active = false) (hv : c.verdict = 1)
    (hu : u = ({ s.quiet with checks := rest } : State).bump R.PATROL_SBE_SBE_STORED) :
    exec .patrolCheck s = .next { u with walkq := u.walkq ++ [⟨c.n, c.p, c.f, c.stale⟩] } := by
  change execPatrolCheck s = _
  simp only [execPatrolCheck, State.quiet_checks, hc, hstored, hv, Bool.false_eq_true, if_false, hu]

/-- The oldest check, of a stored frame with a double-bit or status error, damages the plane. -/
theorem exec_patrolCheck_double {c : Chk} {rest : List Chk} (hc : s.checks = c :: rest) (hstored : c.active = false) (hv : c.verdict = 2) :
    exec .patrolCheck s = .next (({ s.quiet with checks := rest } : State).storedDbe c.n c.p c.f) := by
  change execPatrolCheck s = _
  simp only [execPatrolCheck, State.quiet_checks, hc, hstored, hv, Bool.false_eq_true, if_false]

/-- A reported correction comes before the walker's own. -/
theorem State.nextCorr_reported {c : Corr} {rest : List Corr} (hc : s.corrq = c :: rest) :
    s.nextCorr = some (c, { s with corrq := rest }) := by
  simp only [State.nextCorr, hc]

/-- A correction of a frame that was not written since and that the code can correct writes its data with the status kept. -/
theorem exec_patrolCorrection_writes {c : Corr} {rest : List Corr} (hc : s.corrq = c :: rest) (hfresh : c.stale = false)
    (hfew : (s.frame c.n c.p c.f).flips.length < 3) : exec .patrolCorrection s =
      .next (({ s.quiet with corrq := rest } : State).writeFrame c.n c.p c.f (s.frame c.n c.p c.f).data (s.frame c.n c.p c.f).status) := by
  change execPatrolCorrection s = _
  have hframe : ({ s.quiet with corrq := rest } : State).frame c.n c.p c.f = s.frame c.n c.p c.f := rfl
  have htame : decide (3 ≤ (s.frame c.n c.p c.f).flips.length) = false := decide_eq_false (Nat.not_le.mpr hfew)
  simp only [execPatrolCorrection, State.nextCorr_reported (s := s.quiet) hc, hfresh, hframe, htame, Bool.false_eq_true, if_false]

/-- A frame without a wrong bit whose status fits its index is good (R86, R88). -/
theorem State.verdict_good {f : Nat} {x : Frame} (hflips : x.flips = []) (hfits : statusFits f x.status = true) : s.verdict f x = 0 := by
  have hfew : ¬ 3 ≤ x.flips.length := by rw [hflips]; decide
  have hone : ¬ (decide (2 ≤ x.flips.length) || !(statusFits f x.status)) = true := by rw [hflips, hfits]; decide
  rw [State.verdict, if_neg hfew, if_neg hone, hflips, List.length_nil]

/-- A good copy of the frame that the oldest refetch waits for enters the refetch buffer. -/
theorem exec_refetchCopyReady_good {n : Fin 64} {f p : Nat}
    (hwant : (s.region n.val).refetch.find? (fun e => e.2.2.isNone) = some (f, p, none)) (hgood : s.verdict f (s.frame n.val p f) = 0) :
    exec (.refetchCopyReady n) s = .next (s.quiet.setRegion n.val { s.region n.val with
      refetch := (s.region n.val).refetch.map fun e => if e.1 = f then (f, p, some (s.frame n.val p f).data) else e }) := by
  change execRefetchCopyReady n s = _
  have hquiet : s.quiet.verdict f (s.quiet.frame n.val p f) = 0 := hgood
  simp only [execRefetchCopyReady, State.quiet_region, hwant, hquiet, Nat.zero_lt_two, Nat.zero_ne_one, if_true, if_false]
  rfl

/-! ## Passes (R217, R219) -/

/-- A complete pass counts, and both walkers start a new one. -/
theorem exec_patrolPassEnd_ends (hruns : s.patrolRuns = true) (hdone : s.passComplete = true) :
    exec .patrolPassEnd s = .next (s.quiet.incr R.PATROL_STAT_PASSES).newPass :=
  if_pos (Bool.and_eq_true_iff.mpr ⟨hruns, hdone⟩)

/-- A write that turns EN from 0 to 1 starts a new pass. -/
theorem wrPatrolCtl_starts {v : BitVec 32} (hoff : s.is1 R.PATROL_CTL_EN = false) (hon : (s.storeReg .PATROL_CTL v).is1 R.PATROL_CTL_EN = true) :
    wrPatrolCtl s v = (s.storeReg .PATROL_CTL v).newPass := by
  simp only [wrPatrolCtl, hoff, hon, Bool.not_false, Bool.and_self, if_true]

end Sys2Proof.Machine

namespace Sys2Proof.Proofs

open Sys2Proof.Machine

/-- Settles O18: a visit by what its walker may read, a check by its verdict, a correction and a refetched copy by the wrong bits of the frame. -/
theorem patrolVisitsAndRepairs : Obligations.PatrolVisitsAndRepairs := by
  unfold Obligations.PatrolVisitsAndRepairs
  refine ⟨?stored, ?active, ?single, ?double, ?correction, ?refetch, ?passEnd, ?enable⟩
  case stored =>
    rintro i n p f s u hruns hpass rfl hlast ⟨hn, hp, hf⟩ hu hread
    exact exec_patrolStoredVisit_reads hruns hpass hlast hn hp hf hu hread
  case active =>
    rintro j s u hruns hheld hpass rfl hlast rfl hspill hread
    exact (exec_patrolActiveVisit_moves hruns hheld hpass hlast).trans (congrArg Host.Outcome.next (State.activeVisit_reads hspill hread))
  case single =>
    intro c rest s u hc hstored hv hu
    exact exec_patrolCheck_single hc hstored hv hu
  case double =>
    intro c rest s hc hstored hv
    exact exec_patrolCheck_double hc hstored hv
  case correction =>
    intro c rest s hc hfresh hfew
    exact exec_patrolCorrection_writes hc hfresh hfew
  case refetch =>
    intro n f p s hwant hflips hfits
    exact exec_refetchCopyReady_good hwant (State.verdict_good hflips hfits)
  case passEnd =>
    intro s hruns hdone
    exact exec_patrolPassEnd_ends hruns hdone
  case enable =>
    rintro ini v s u hoff rfl hon ht
    refine congrArg Host.Outcome.next ((State.written_ok ht).trans ?_)
    rw [wrPatrolCtl_starts (s := s.quiet) hoff hon]

end Sys2Proof.Proofs
end

section
/-! PROOF. Power domains (15_power_thermal.md, R387 to R389, R408). -/

namespace Sys2Proof.Machine

variable {s : State} {ini : Ini} {src : PwrSrc} {x : PwrRefuse}

/-! ## Requests (R387 to R389) -/

section

variable {d : Nat}

theorem State.quiet_dstate : s.quiet.dstate d = s.dstate d := rfl

/-- REQ and the state of a domain are fields of their own. -/
theorem State.dstate_setReq : (s.set1 (R.PWR_DOM_CTL_REQ d)).dstate d = s.dstate d :=
  congrArg DState.ofCode (State.wr_rd_ne _ _ _ _ (by simp only [Fld.key, R.PWR_DOM_CTL_STATE, R.PWR_DOM_CTL_REQ]; omega))

theorem State.requestOn_refused (hr : s.onRefusal d = some x) : s.requestOn d src = s.pwrRefuse d true src x := by
  simp only [State.requestOn, hr]

/-- A domain that is ON or OFF refuses a request OFF where R388 does. -/
theorem State.requestOff_refused (hd : s.dstate d = .on ∨ s.dstate d = .off) (hr : s.offRefusal d = some x) :
    s.requestOff d src = s.pwrRefuse d false src x := by
  obtain hd | hd := hd
  · simp only [State.requestOff, hd, hr]
  · simp only [State.requestOff, hd, hr]

theorem State.requestOff_off (hd : s.dstate d = .off) (hr : s.offRefusal d = none) : s.requestOff d src = s := by
  simp only [State.requestOff, hd, hr]

/-- OFF of a waking domain waits until it is ON. -/
theorem State.requestOff_waking (hd : s.dstate d = .waking) (hs : s.isShutdown = false) :
    s.requestOff d src = s.setDom d { s.dom d with offWait := (s.dom d).offWait ++ [src] } := by
  simp only [State.requestOff, hd, hs, Bool.false_eq_true, if_false]

end

variable {d : Fin 112}

theorem exec_powerRequest_ok {on : Bool} (ht : s.turnedAway (R.PWR_DOM_CTL_REQ d.val).off = none) : exec (.powerRequest ini d on) s =
    .next ((if on then s.quiet.requestOn d.val .host else s.quiet.requestOff d.val .host).okWrite ini) :=
  congrArg _ (State.written_ok ht)

/-! ## Reaching ON and OFF (R255, R387) -/

theorem exec_domainOn_waking (h : s.dstate d.val = .waking) : exec (.domainOn d) s = .next (s.quiet.domainOn d.val) := if_pos h

theorem exec_domainOn_otherwise (h : s.dstate d.val ≠ .waking) : exec (.domainOn d) s = .next s.quiet := if_neg h

/-- Domain d is OFF, and the waystations send WAKE for the requests that they hold for it (R255). -/
def State.offWithWake (s : State) (d : Nat) : State :=
  if (s.domainOff d).park.any (fun e => e.dom == d) then (s.domainOff d).sendWake d else s.domainOff d

/-- A closing domain past its point of no return is OFF, and wakes again where a request ON waits. -/
theorem exec_domainOff_closed (hd : s.dstate d.val = .closing) (hp : (s.dom d.val).pnr = true) : exec (.domainOff d) s = .next
    (if (s.dom d.val).onWait = true then
      if (s.quiet.offWithWake d.val).is1 (R.PWR_DOM_CTL_REQ d.val) = true then (s.quiet.offWithWake d.val).setDstate d.val .waking
      else (s.quiet.offWithWake d.val).wake d.val
    else s.quiet.offWithWake d.val) := by
  have hopen : ¬ ((s.quiet.dstate d.val ≠ .closing || !(s.quiet.dom d.val).pnr) = true) := by
    rw [State.quiet_dstate, State.quiet_dom, hd, hp]
    decide
  refine (if_neg hopen).trans ?_
  change (if !(s.dom d.val).onWait then _ else _) = _
  cases (s.dom d.val).onWait with
  | false => rfl
  | true => exact (apply_ite Host.Outcome.next _ _ _).symm

theorem exec_domainOff_otherwise (h : s.dstate d.val ≠ .closing ∨ (s.dom d.val).pnr = false) : exec (.domainOff d) s = .next s.quiet :=
  if_pos (Bool.or_eq_true_iff.mpr (h.imp decide_eq_true (congrArg Bool.not)))

/-! ## SHUTDOWN (R408) -/

theorem exec_shutdownPowerOff_otherwise (h : s.isShutdown = false) : exec .shutdownPowerOff s = .next s.quiet :=
  if_pos (by rw [show s.quiet.isShutdown = false from h]; decide)

end Sys2Proof.Machine

namespace Sys2Proof.Proofs

open Sys2Proof.Machine

/-- Settles O33: a request by the domain's state and its refusal, arrival at ON or OFF by the state that it leaves. -/
theorem powerDomains : Obligations.PowerDomains := by
  unfold Obligations.PowerDomains
  refine ⟨?wakes, ?onRefused, ?closes, ?staysOff, ?offRefused, ?offWaits, ?on, ?off, ?wakesByReq, ?wakesAgain, ?notClosed, ?notWaking,
    ?noShutdown, ?requestDone, ?arrivalDone, ?shutdownDone, ?shutdown⟩
  case wakes =>
    intro ini d s hr hd ht
    have hd' : (s.quiet.set1 (R.PWR_DOM_CTL_REQ d.val)).dstate d.val = .off := State.dstate_setReq.trans hd
    rw [exec_powerRequest_ok ht, if_pos rfl, State.requestOn_off (s := s.quiet) hr hd']
  case onRefused =>
    intro ini d x s hr ht
    rw [exec_powerRequest_ok ht, if_pos rfl, State.requestOn_refused (s := s.quiet) hr]
  case closes =>
    intro ini d s hd hr ht
    rw [exec_powerRequest_ok ht, if_neg Bool.false_ne_true, State.requestOff_on (s := s.quiet) hd hr]
  case staysOff =>
    intro ini d s hd hr ht
    rw [exec_powerRequest_ok ht, if_neg Bool.false_ne_true, State.requestOff_off (s := s.quiet) hd hr]
  case offRefused =>
    intro ini d x s hd hr ht
    rw [exec_powerRequest_ok ht, if_neg Bool.false_ne_true, State.requestOff_refused (s := s.quiet) hd hr]
  case offWaits =>
    intro ini d s hd hs ht
    rw [exec_powerRequest_ok ht, if_neg Bool.false_ne_true, State.requestOff_waking (s := s.quiet) hd hs]
    rfl
  case on =>
    intro d s h
    exact exec_domainOn_waking h
  case off =>
    rintro d s u hd hp rfl hw
    rw [exec_domainOff_closed hd hp, if_neg (Bool.eq_false_iff.mp hw)]
    rfl
  case wakesByReq =>
    rintro d s u hd hp rfl hw hreq
    rw [exec_domainOff_closed hd hp, if_pos hw]
    exact congrArg Host.Outcome.next (if_pos hreq)
  case wakesAgain =>
    rintro d s u hd hp rfl hw hreq
    rw [exec_domainOff_closed hd hp, if_pos hw]
    exact congrArg Host.Outcome.next (if_neg (Bool.eq_false_iff.mp hreq))
  case notClosed =>
    intro d s h
    exact exec_domainOff_otherwise h
  case notWaking =>
    intro d s h
    exact exec_domainOn_otherwise h
  case noShutdown =>
    intro s h
    exact exec_shutdownPowerOff_otherwise h
  case requestDone =>
    intro ini d on s
    exact ⟨_, rfl⟩
  case arrivalDone =>
    intro d s
    refine ⟨?_, ?_⟩
    · by_cases h : s.dstate d.val = .waking
      · exact ⟨_, exec_domainOn_waking h⟩
      · exact ⟨_, exec_domainOn_otherwise h⟩
    · by_cases h : s.dstate d.val ≠ .closing ∨ (s.dom d.val).pnr = false
      · exact ⟨_, exec_domainOff_otherwise h⟩
      · obtain ⟨hd, hp⟩ := not_or.mp h
        exact ⟨_, exec_domainOff_closed (Decidable.not_not.mp hd) (eq_true_of_ne_false hp)⟩
  case shutdownDone =>
    intro s
    cases h : s.isShutdown with
    | false => exact ⟨_, exec_shutdownPowerOff_otherwise h⟩
    | true => exact ⟨_, if_neg (by rw [show s.quiet.isShutdown = true from h]; decide)⟩
  case shutdown =>
    intro s h
    exact if_neg (by rw [show s.quiet.isShutdown = true from h]; decide)

end Sys2Proof.Proofs
end

section
/-! PROOF. Route epochs and closing domains (08_olicor_network.md, R250, R255). -/

namespace Sys2Proof.Machine

variable {s u : State} {ini : Ini} {e : EpochChange} {v : BitVec 32} {n : Fin 192} {d : Fin 112}

/-! ## The change of epoch (R250) -/

/-- FLIP with no change in progress begins one: every waystation in service is told to stamp with the other epoch. -/
theorem wrNetEpoch_begins (hu : u = s.w1cOnly .NET_EPOCH v) (hflip : R.NET_EPOCH_FLIP.of v ≠ 0) (hnone : u.epoch = none) :
    wrNetEpoch s v = u.liveStations.foldl
      (fun t n => t.emit (.sys (16 * n) 0x81 (1 - t.rd R.NET_EPOCH_CUR))) { u with epoch := some {} } := by
  subst hu
  have hfree : ¬ (s.w1cOnly .NET_EPOCH v).epoch.isSome = true := by rw [hnone]; decide
  exact (if_neg hflip).trans (if_neg hfree)

/-- In a change that does not drain yet, station n is in service and does not stamp with the new epoch yet. -/
def State.stampsOld (s : State) (e : EpochChange) (n : Nat) : Prop :=
  s.epoch = some e ∧ s.is1 R.NET_EPOCH_DRAINING = false ∧ e.setAt.contains n = false ∧ s.liveStations.contains n = true

/-- All stations in service stamp with the new epoch once station n does. -/
def State.lastToStamp (s : State) (e : EpochChange) (n : Nat) : Bool := s.liveStations.all fun m => (e.setAt ++ [n]).contains m

theorem exec_epochSet_stamps (h : s.stampsOld e n.val)
    (hu : u = if s.lastToStamp e n.val = true then (s.quiet.incr R.NET_EPOCH_CUR).set1 R.NET_EPOCH_DRAINING else s.quiet) :
    exec (.epochSet n) s = .next (({ u with epoch := some { e with
      setAt := if u.is1 R.NET_EPOCH_DRAINING = true then [] else e.setAt ++ [n.val] } } : State).epochReport n.val) := by
  obtain ⟨he, hdrain, hnew, hlive⟩ := h
  have hstamps : ¬ (s.quiet.is1 R.NET_EPOCH_DRAINING || e.setAt.contains n.val || !(s.quiet.liveStations.contains n.val)) = true := by
    rw [show s.quiet.is1 R.NET_EPOCH_DRAINING = false from hdrain, hnew, show s.quiet.liveStations.contains n.val = true from hlive]
    decide
  subst hu
  change execEpochSet n s = _
  simp only [execEpochSet, State.quiet_epoch, he, if_neg hstamps]
  rfl

theorem exec_epochSet_more (h : s.stampsOld e n.val) (hmore : s.lastToStamp e n.val = false) : exec (.epochSet n) s =
    .next (({ s.quiet with epoch := some { e with setAt := e.setAt ++ [n.val] } } : State).epochReport n.val) := by
  have hdrain : ¬ s.quiet.is1 R.NET_EPOCH_DRAINING = true := Bool.eq_false_iff.mp h.2.1
  rw [exec_epochSet_stamps h (if_neg (Bool.eq_false_iff.mp hmore)).symm, if_neg hdrain]

/-- The last station to stamp with the new epoch changes CUR, and the old epoch drains. -/
theorem exec_epochSet_last (h : s.stampsOld e n.val) (hlast : s.lastToStamp e n.val = true)
    (hu : u = (s.quiet.incr R.NET_EPOCH_CUR).set1 R.NET_EPOCH_DRAINING) :
    exec (.epochSet n) s = .next (({ u with epoch := some { e with setAt := [] } } : State).epochReport n.val) := by
  have hdrain : u.is1 R.NET_EPOCH_DRAINING = true := by rw [hu, State.is1, State.set1, State.wr_rd_same]; rfl
  rw [exec_epochSet_stamps h (hu.trans (if_pos hlast).symm), if_pos hdrain]

/-- A mark that station m has sent on an input, through a transit buffer that it relays it by, if any, is received once. -/
theorem exec_epochMark_receives {input : Fin 32} {vn : VNet} {m : Nat} (he : s.epoch = some e)
    (hin : (s.liveInputs n.val).contains input.val = true) (hnew : e.marks.contains (bufKey n.val input.val (vnNum vn)) = false)
    (hruns : s.stationRuns n.val = true) (hup : upstream n.val input.val = some m) (hsent : s.markSent e m (vnNum vn) = true)
    (hclear : s.relayClear n.val input.val (vnNum vn) = true) : exec (.epochMark n input vn) s =
      .next (({ s.quiet with epoch := some { e with marks := e.marks ++ [bufKey n.val input.val (vnNum vn)] } } : State).epochReport n.val) := by
  change execEpochMark n input vn s = _
  simp only [execEpochMark, State.quiet_epoch, he, hup, hnew, show (s.quiet.liveInputs n.val).contains input.val = true from hin,
    show s.quiet.markSent e m (vnNum vn) = true from hsent, show s.quiet.relayClear n.val input.val (vnNum vn) = true from hclear,
    show s.quiet.stationRuns n.val = true from hruns, Bool.and_self, Bool.not_true, Bool.or_self, Bool.false_eq_true, if_false]

theorem exec_drainComplete_ends (he : s.epoch = some e) (hdrain : s.is1 R.NET_EPOCH_DRAINING = true)
    (hall : s.liveStations.all (fun n => e.reported.contains n) = true) :
    exec .drainComplete s = .next { s.quiet.clr R.NET_EPOCH_DRAINING with epoch := none } := by
  change execDrainComplete s = _
  simp only [execDrainComplete, State.quiet_epoch, he]
  exact if_pos (Bool.and_eq_true_iff.mpr ⟨hdrain, hall⟩)

/-- A drain is found stuck once. -/
theorem exec_epochStuck_found (he : s.epoch = some e) (hdrain : s.is1 R.NET_EPOCH_DRAINING = true) (hnew : e.stuck = false) :
    exec .epochStuck s =
      .next ((({ s.quiet with epoch := some { e with stuck := true } } : State).set1 R.NET_EPOCH_STUCK).log .netEpochStuck []) := by
  change execEpochStuck s = _
  simp only [execEpochStuck, State.quiet_epoch, he]
  exact if_pos (Bool.and_eq_true_iff.mpr ⟨hdrain, congrArg Bool.not hnew⟩)

/-! ## Route tables (R250) -/

theorem wrRouteTable_free {n b i : Nat} (h : s.rtInUse b = false) : wrRouteTable s n b i v = s.storeReg (.WS_RT n b i) v :=
  if_neg (Bool.eq_false_iff.mp h)

theorem wrRouteTable_inUse {n b i : Nat} (h : s.rtInUse b = true) : wrRouteTable s n b i v = s.set1 (R.WS_STAT_RT_ERR n) := if_pos h

theorem exec_routeTableWrite_ok {b : Fin 2} {i : Fin 24} (hexists : stationExists (n.val / 32) (n.val % 32) = true)
    (ht : s.turnedAway (rtFld n.val b.val (8 * i.val)).off = none) :
    exec (.routeTableWrite ini n b i v) s = .next ((wrRouteTable s.quiet n.val b.val i.val v).okWrite ini) :=
  (if_pos hexists).trans (congrArg Host.Outcome.next (State.written_ok ht))

/-! ## Closing domains (R96, R255) -/

/-- A domain closes and is not past its point of no return, nor is its region's spill in progress. -/
def State.maySeal (s : State) (d : Nat) : Prop :=
  s.dstate d = .closing ∧ (s.dom d).pnr = false ∧ (d < 64 → s.is1 (R.REGION_STATUS_SPILLING d) = false)

/-- Past its point of no return nothing is open at a region: its ports and its block RAM window hold no request. -/
def State.emptyRegion (s : State) (d : Nat) : State :=
  (List.range 4).foldl (fun t p => (t.setPort d p { t.port d p with inq := [], waiting := [] }).dropOutst (regionNode d p))
    { s with bwin := s.bwin.filter fun w => w.block / 192 != d }

/-- The point of no return: what domain d has not answered is answered ABORTED and counted; nothing is open at a region any more. -/
theorem exec_pointOfNoReturn_seals (h : s.maySeal d.val)
    (hu : u = (s.unanswered d.val).foldl (fun t e => (t.reply e.2 .aborted).bump (R.WS_STAT_ABORTED e.1))
      { s.quiet.setDom d.val { s.dom d.val with pnr := true } with
        deliv := s.deliv.filter fun e => endpointDomain e.station e.port ≠ some d.val }) :
    exec (.pointOfNoReturn d) s = .next (if d.val < 64 then u.emptyRegion d.val else u) := by
  obtain ⟨hstate, hpnr, hspill⟩ := h
  have hseals : ¬ (s.quiet.dstate d.val ≠ .closing || (s.quiet.dom d.val).pnr ||
      (decide (d.val < 64) && s.quiet.is1 (R.REGION_STATUS_SPILLING d.val))) = true := by
    have hquiet : (decide (d.val < 64) && s.is1 (R.REGION_STATUS_SPILLING d.val)) = false := by
      simpa only [Bool.and_eq_false_imp, decide_eq_true_eq] using hspill
    rw [State.quiet_dstate, State.quiet_dom, hstate, hpnr, show (decide (d.val < 64) && s.quiet.is1 (R.REGION_STATUS_SPILLING d.val)) = false from hquiet]
    decide
  refine (if_neg hseals).trans ?_
  rw [apply_ite Host.Outcome.next, hu]
  rfl

theorem exec_pointOfNoReturn_waits
    (h : s.dstate d.val ≠ .closing ∨ (s.dom d.val).pnr = true ∨ d.val < 64 ∧ s.is1 (R.REGION_STATUS_SPILLING d.val) = true) :
    exec (.pointOfNoReturn d) s = .next s.quiet := by
  refine if_pos ?_
  rw [Bool.or_assoc, Bool.or_eq_true_iff, Bool.or_eq_true_iff, Bool.and_eq_true_iff]
  exact h.imp decide_eq_true (Or.imp_right (And.imp_left decide_eq_true))

/-- A wake that is not refused is a request ON. -/
theorem State.wake_accepted {d : Nat} (h : s.onRefusal d = none) : s.wake d = s.requestOn d .wake := by
  simp only [State.wake, h, Option.isSome_none, Bool.false_eq_true, if_false]

end Sys2Proof.Machine

namespace Sys2Proof.Proofs

open Sys2Proof.Machine

/-- Settles O20: a change of epoch by how far it has come, a route table by its bank, a domain by what keeps it from its point of no return. -/
theorem routeEpochs : Obligations.RouteEpochs := by
  unfold Obligations.RouteEpochs
  refine ⟨?flip, ?set, ?setLast, ?mark, ?drain, ?stuck, ?table, ?tableInUse, ?seals, ?sealsRegion, ?waits, ?wake⟩
  case flip =>
    rintro ini v s u rfl hflip hnone ht
    exact congrArg Host.Outcome.next ((State.written_ok ht).trans (by rw [wrNetEpoch_begins rfl hflip hnone]))
  case set =>
    intro n e s he hdrain hnew hlive hmore
    exact exec_epochSet_more ⟨he, hdrain, hnew, hlive⟩ hmore
  case setLast =>
    intro n e s u he hdrain hnew hlive hlast hu
    exact exec_epochSet_last ⟨he, hdrain, hnew, hlive⟩ hlast hu
  case mark =>
    intro n input vn e m s he hin hnew hruns hup hsent hclear
    exact exec_epochMark_receives he hin hnew hruns hup hsent hclear
  case drain =>
    intro e s he hdrain hall
    exact exec_drainComplete_ends he hdrain hall
  case stuck =>
    intro e s he hdrain hnew
    exact exec_epochStuck_found he hdrain hnew
  case table =>
    intro ini n b i v s hexists hfree ht
    rw [exec_routeTableWrite_ok hexists ht, wrRouteTable_free (s := s.quiet) hfree]
  case tableInUse =>
    intro ini n b i v s hexists hused ht
    rw [exec_routeTableWrite_ok hexists ht, wrRouteTable_inUse (s := s.quiet) hused]
  case seals =>
    intro d s u hstate hpnr hu h64
    rw [exec_pointOfNoReturn_seals ⟨hstate, hpnr, fun h => absurd h (Nat.not_lt.mpr h64)⟩ hu, if_neg (Nat.not_lt.mpr h64)]
  case sealsRegion =>
    intro d s u hstate hpnr hu h64 hspill
    rw [exec_pointOfNoReturn_seals ⟨hstate, hpnr, fun _ => hspill⟩ hu, if_pos h64]
    rfl
  case waits =>
    intro d s h
    exact exec_pointOfNoReturn_waits h
  case wake =>
    intro d s hoff hheld hr
    refine (if_pos ⟨hoff, hheld⟩).trans ?_
    rw [State.wake_accepted (s := s.quiet) hr]

end Sys2Proof.Proofs
end

section
/-! PROOF. Couriers (08_olicor_network.md, R258 to R261). -/

namespace Sys2Proof.Machine

variable {s u : State} {ini : Ini} {c : Nat} {tag : Nat} {a : Answer}

/-! ## GO and ABORT (R259, R261) -/

theorem State.courierGo_idle (h : s.cstate c = .idle) :
    s.courierGo c = s.courierStart c (s.rd64 (R.COURIER_DESC_LO_ADDR c) (R.COURIER_DESC_HI_ADDR c)) := if_pos h

theorem State.courierGo_busy (h : s.cstate c ≠ .idle) : s.courierGo c = s.set1 (R.COURIER_CTL_GO_ERR c) := if_neg h

/-- A courier with a transfer that nothing has ended yet is stopped, and ends once nothing is outstanding. -/
theorem State.courierAbort_moving (hc : s.cstate c ≠ .idle) (hstop : (s.courier c).stop = none) :
    s.courierAbort c = ((s.courierStop c .aborted (s.draw % 2 ^ 64)).drawn).courierSettle c :=
  if_neg (by rw [hstop, decide_eq_false hc]; decide)

theorem exec_courierGo_ok {c : Fin 32} (ht : s.turnedAway (R.COURIER_CTL_GO c.val).off = none) :
    exec (.courierGo ini c) s = .next ((s.quiet.courierGo c.val).okWrite ini) := congrArg _ (State.written_ok ht)

theorem exec_courierAbort_ok {c : Fin 32} (ht : s.turnedAway (R.COURIER_CTL_GO c.val).off = none) :
    exec (.courierAbort ini c) s = .next ((s.quiet.courierAbort c.val).okWrite ini) := congrArg _ (State.written_ok ht)

/-- A request to start, 8 bytes at offset 0, that finds the courier idle. -/
theorem exec_courierStartRequest_idle {c : Fin 32} {rq : Request} (hform : ¬ (rq.acc.op ≠ .nwr ∨ rq.acc.addr ≠ 0 ∨ rq.acc.size ≠ 8))
    (hidle : s.cstate c.val = .idle) :
    exec (.courierStartRequest c rq) s = .next ((s.quiet.reply rq .ok).courierStart c.val (leNat rq.acc.data)) :=
  (if_neg hform).trans (if_neg (Decidable.not_not.mpr hidle))

/-! ## Answers (R260) -/

theorem State.courierTake_taken (h : s.takeAnswer (courierNode c) tag a = some u) : s.courierTake c tag a = u.courierAnswer c tag a := by
  simp only [State.courierTake, h]

/-- Either command hands an answer of the form that its request asked for to the courier. -/
theorem exec_courierAnswer_taken {c : Fin 32} {tag : BitVec 8} (hform : courierAnswerOk (s.courier c.val) tag.toNat a = true)
    (htake : s.quiet.takeAnswer (courierNode c.val) tag.toNat a = some u) :
    exec (.courierReadAnswer c tag a) s = .next (u.courierAnswer c.val tag.toNat a) ∧
      exec (.courierWriteAnswer c tag a) s = .next (u.courierAnswer c.val tag.toNat a) := by
  rw [← State.courierTake_taken htake]
  exact ⟨if_pos hform, if_pos hform⟩

end Sys2Proof.Machine

namespace Sys2Proof.Proofs

open Sys2Proof.Machine

/-- Settles O21: a command by the courier's state, an answer by the request that takes it. -/
theorem couriersMoveData : Obligations.CouriersMoveData := by
  unfold Obligations.CouriersMoveData
  refine ⟨?go, ?goBusy, ?abort, ?start, ?readAnswer, ?writeAnswer⟩
  case go =>
    intro ini c s hidle ht
    rw [exec_courierGo_ok ht, State.courierGo_idle (s := s.quiet) hidle]
    rfl
  case goBusy =>
    intro ini c s hbusy ht
    rw [exec_courierGo_ok ht, State.courierGo_busy (s := s.quiet) hbusy]
  case abort =>
    intro ini c s hbusy hstop ht
    rw [exec_courierAbort_ok ht, State.courierAbort_moving (s := s.quiet) hbusy hstop]
    rfl
  case start =>
    intro c rq s hform hidle
    exact exec_courierStartRequest_idle hform hidle
  case readAnswer =>
    intro c tag a s u hform _ htake
    exact (exec_courierAnswer_taken hform htake).1
  case writeAnswer =>
    intro c tag a s u hform _ htake
    exact (exec_courierAnswer_taken hform htake).2

end Sys2Proof.Proofs
end

section
/-! PROOF. Twin commands, snapshots and reset broadcasts (13_twin.md, R356 to R375), and the answers of the network's initiators (R241, R252). -/

namespace Sys2Proof.Machine

variable {s u : State} {ini : Ini} {v : BitVec 32}

/-! ## Configuration and commands (R356, R368 to R370) -/

theorem wrTwinCfg_enables (hoff : s.pstate = .off) (hen : R.TWIN_CFG_EN.of v ≠ 0) : wrTwinCfg s v = (s.storeReg .TWIN_CFG v).toJoining := by
  simp only [wrTwinCfg, hoff]

/-- A configured device takes no other configuration. -/
theorem wrTwinCfg_refused (hon : s.pstate ≠ .off) (hen : R.TWIN_CFG_EN.of v ≠ 0) : wrTwinCfg s v = s.set1 R.TWIN_CTL_CMD_ERR := by
  simp only [wrTwinCfg]
  split
  next hoff _ => exact absurd hoff hon
  next hoff _ => exact absurd hoff hon
  next hzero _ => exact absurd hzero hen
  next => rfl

theorem State.takeoverCmd_standby (h : s.pstate = .standby) : s.takeoverCmd = s.primaryLost .takeover := by
  simp only [State.takeoverCmd, h]

theorem State.takeoverCmd_orphan (h : s.pstate = .orphan) : s.takeoverCmd = s.beginTake (s.pairTick + 1) 1 false false := by
  simp only [State.takeoverCmd, h]

theorem State.takeoverCmd_refused (hs : s.pstate ≠ .standby) (ho : s.pstate ≠ .orphan) : s.takeoverCmd = s.set1 R.TWIN_CTL_CMD_ERR := by
  simp only [State.takeoverCmd]

theorem State.resignCmd_primary (h : s.pstate = .primary) (hu : u = s.sendTwin s.peerDev 5 0 (leBytes 8 (s.pairTick + 1)) 0) :
    s.resignCmd = u.setTwin { u.twin with resign := some (s.pairTick + 1) } := by
  rw [State.resignCmd, if_pos h, hu]

theorem State.resignCmd_refused (h : s.pstate ≠ .primary) : s.resignCmd = s.set1 R.TWIN_CTL_CMD_ERR := if_neg h

theorem State.rejoinCmd_parted (h : s.pstate = .fenced ∨ s.pstate = .orphan) : s.rejoinCmd = s.toJoining := by
  obtain h | h := h
  · simp only [State.rejoinCmd, h]
  · simp only [State.rejoinCmd, h]

theorem State.rejoinCmd_refused (hf : s.pstate ≠ .fenced) (ho : s.pstate ≠ .orphan) : s.rejoinCmd = s.set1 R.TWIN_CTL_CMD_ERR := by
  simp only [State.rejoinCmd]

theorem exec_twinCfgWrite_ok (ht : s.turnedAway R.TWIN_CFG_EN.off = none) :
    exec (.twinCfgWrite ini v) s = .next ((wrTwinCfg s.quiet v).okWrite ini) := congrArg _ (State.written_ok ht)

theorem exec_takeover_ok (ht : s.turnedAway R.TWIN_CTL_STATE.off = none) :
    exec (.takeover ini) s = .next (s.quiet.takeoverCmd.okWrite ini) := congrArg _ (State.written_ok ht)

theorem exec_resignCmd_ok (ht : s.turnedAway R.TWIN_CTL_STATE.off = none) :
    exec (.resignCmd ini) s = .next (s.quiet.resignCmd.okWrite ini) := congrArg _ (State.written_ok ht)

theorem exec_rejoin_ok (ht : s.turnedAway R.TWIN_CTL_STATE.off = none) :
    exec (.rejoin ini) s = .next (s.quiet.rejoinCmd.okWrite ini) := congrArg _ (State.written_ok ht)

/-! ## Mirrors and takeovers (R364, R368) -/

/-- A mirror whose every write was answered is ended with MIRROR_END. -/
theorem exec_mirrorSendComplete_ends {t : TwinTx} (htx : s.twin.tx = some t) (hall : t.tags = [] ∧ t.data.length ≤ t.sent)
    (hu : u = (s.quiet.setTwin { s.twin with tx := none }).wr64 R.TWIN_MIRR_TICK_LO_TICK R.TWIN_MIRR_TICK_HI_TICK t.tick) :
    exec .mirrorSendComplete s = .next (u.sendTwin u.peerDev 2 0 (leBytes 8 t.tick ++ leBytes 8 t.data.length) 0) := by
  have hdone : ¬ (t.tags ≠ [] ∨ t.sent < t.data.length) := not_or.mpr ⟨Decidable.not_not.mpr hall.1, Nat.not_lt.mpr hall.2⟩
  change execMirrorSendComplete s = _
  simp only [execMirrorSendComplete, State.quiet_twin, htx, if_neg hdone, hu]

/-- At b_T the banks of a takeover have their prior owners and its threads start. -/
def State.atTakeover (s : State) (k : Takeover) : State :=
  k.threads.foldl (fun t n => t.takeThread k.restore n) (k.banks.foldl (fun t b => t.giveBank b.1 b.2.1 b.2.2) s)

/-- Once b_T has fallen a takeover ends: in STANDBY after a divergence, else in SOLO. -/
theorem exec_takeoverBoundary_ends {k : Takeover} (htake : s.twin.take = some k) (hpast : k.tick < s.pairTick)
    (hu : u = s.quiet.atTakeover k) : exec .takeoverBoundary s = .next (if k.diverge = true then
      ((u.setTwin { u.twin with take := none }).setPstate .standby).offerJoin
    else ((u.setTwin { u.twin with take := none, standby := false, mirrored := false, offset := 0 }).setPstate .solo).offerJoin) := by
  have hfallen : ¬ s.quiet.pairTick ≤ k.tick := Nat.not_le.mpr hpast
  change execTakeoverBoundary s = _
  simp only [execTakeoverBoundary, State.quiet_twin, htake, if_neg hfallen, hu]
  exact (apply_ite Host.Outcome.next _ _ _).symm

/-! ## Snapshots (R374) -/

/-- The snapshot that REQ asks for is taken where none is BUSY and its destination is aligned. -/
theorem wrSnapCtl_takes {dest : Nat} (hu : u = s.storeReg .SNAP_CTL v) (hreq : R.SNAP_CTL_REQ.of v ≠ 0)
    (hdest : dest = u.rd64 R.SNAP_DEST_LO_ADDR R.SNAP_DEST_HI_ADDR) (hfree : u.is1 R.SNAP_CTL_BUSY = false ∧ dest % 64 = 0) :
    wrSnapCtl s v = ({ u with snapReq := some ⟨dest, some (u.rd R.SNAP_CTL_AT_TICK)⟩ } : State).set1 R.SNAP_CTL_BUSY := by
  subst hu hdest
  have htaken : ¬ ((s.storeReg .SNAP_CTL v).is1 R.SNAP_CTL_BUSY ||
      decide ((s.storeReg .SNAP_CTL v).rd64 R.SNAP_DEST_LO_ADDR R.SNAP_DEST_HI_ADDR % 64 ≠ 0)) = true := by
    rw [hfree.1, hfree.2]
    decide
  exact (if_neg hreq).trans (if_neg htaken)

theorem wrSnapCtl_refused (hu : u = s.storeReg .SNAP_CTL v) (hreq : R.SNAP_CTL_REQ.of v ≠ 0)
    (hbad : u.is1 R.SNAP_CTL_BUSY = true ∨ u.rd64 R.SNAP_DEST_LO_ADDR R.SNAP_DEST_HI_ADDR % 64 ≠ 0) :
    wrSnapCtl s v = u.set1 R.SNAP_CTL_ERR := by
  subst hu
  exact (if_neg hreq).trans (if_pos (Bool.or_eq_true_iff.mpr (hbad.imp_right decide_eq_true)))

theorem exec_snapReq_ok (ht : s.turnedAway R.SNAP_CTL_BUSY.off = none) :
    exec (.snapReq ini v) s = .next ((wrSnapCtl s.quiet v).okWrite ini) := congrArg _ (State.written_ok ht)

/-- A snapshot with no write outstanding ends, complete or failed. -/
theorem exec_snapshotComplete_ends {t : TwinTx} (hsnap : s.twin.snap = some t) (htags : t.tags = [])
    (hall : t.data.length ≤ t.sent ∨ t.code ≠ .ok) : exec .snapshotComplete s =
      .next ((((s.quiet.setTwin { s.twin with snap := none }).clr R.SNAP_CTL_BUSY).set1 R.SNAP_CTL_DONE).wr R.SNAP_CTL_CODE t.code.code) := by
  have hdone : ¬ (t.tags ≠ [] ∨ t.sent < t.data.length ∧ t.code = .ok) :=
    not_or.mpr ⟨Decidable.not_not.mpr htags, fun h => hall.elim (Nat.not_le.mpr h.1) fun hcode => hcode h.2⟩
  change execSnapshotComplete s = _
  simp only [execSnapshotComplete, State.quiet_twin, hsnap, if_neg hdone]

/-! ## Reset broadcasts and barriers (R373, R375) -/

/-- GO with SELF 1 forwards RESET with the drawn ID and asks for the own reset. -/
theorem State.gresetGo_self (hu : u = s.drawn.forwardReset (s.draw % 2 ^ 16) none) (hself : u.is1 R.GRESET_CTL_SELF = true) :
    s.gresetGo = (u.setTwin { u.twin with lastReset := some (s.draw % 2 ^ 16) }).askReset 5 := by
  subst hu
  exact if_pos hself

theorem exec_gresetGo_ok (ht : s.turnedAway R.GRESET_CTL_SELF.off = none) :
    exec (.gresetGo ini) s = .next (s.quiet.gresetGo.okWrite ini) := congrArg _ (State.written_ok ht)

theorem wrGbarCfg_local {b : Nat} (hu : u = s.w1cOnly (.GBAR_CFG b) v) (hlocal : u.is1 (R.SEQ_BAR_CFG_REMOTE b) = false) :
    wrGbarCfg s b v = u.storeReg (.GBAR_CFG b) v := by
  subst hu
  exact if_neg (by rw [hlocal, Bool.false_and]; decide)

theorem exec_gbarCfgWrite_ok {b : Fin 16} (ht : s.turnedAway (R.GBAR_CFG_NDEV b.val).off = none) :
    exec (.gbarCfgWrite ini b v) s = .next ((wrGbarCfg s.quiet b.val v).okWrite ini) := congrArg _ (State.written_ok ht)

/-! ## Answers and time-outs (R241, R252) -/

section

variable {node : BitVec 12} {tag : BitVec 8} {a : Answer} {n k : Nat}

/-- The node is neither the twin engine's, nor the snapshot engine's, nor the innkeeper's. -/
def plainNode (n : Nat) : Prop := n ≠ twinNode ∧ n ≠ snapNode ∧ n ≠ innkeeperNode

theorem State.consumeEngine_plain (h : plainNode n) : s.consumeEngine n k a = s :=
  (if_neg (not_or.mpr ⟨h.1, h.2.1⟩)).trans (if_neg h.2.2)

theorem State.consumeEngine_engine (h : n = twinNode ∨ n = snapNode) : s.consumeEngine n k a = s.engineAnswer n k a := if_pos h

theorem State.consumeEngine_innkeeper (h : n = innkeeperNode) : s.consumeEngine n k a = s.bramAnswer k a := by
  subst h
  rfl

theorem State.tagFreed_plain (h : plainNode n) : s.tagFreed n = s.courierTag n := (if_neg h.1).trans (if_neg h.2.1)

/-- An answer to a plain initiator is there for it, or is discarded; a courier that waited for a tag goes on. -/
theorem exec_responseArrival_plain (h : plainNode node.toNat) : exec (.responseArrival node tag a) s =
    .next ((s.quiet.responseArrives node.toNat tag.toNat a).courierTag node.toNat) := by
  change Host.Outcome.next _ = _
  rw [State.consumeEngine_plain h, State.tagFreed_plain h]

/-- The answer of a request that waits for one is there to be consumed. -/
theorem State.responseArrives_awaited {o : Outst} (hfind : s.outst.find? (fun o => o.node == n && o.tag == k) = some o)
    (hintime : o.late = false) (hnone : o.ans = none) : s.responseArrives n k a =
      { s with outst := s.outst.map fun x => if (x.node == n && x.tag == k) = true then { x with ans := some a } else x } := by
  simp only [State.responseArrives, hfind, hintime, hnone, Bool.false_eq_true, if_false, ne_eq, not_true_eq_false]

/-- An answer that matches no request is discarded and counted. -/
theorem State.responseArrives_unmatched (hfind : s.outst.find? (fun o => o.node == n && o.tag == k) = none) :
    s.responseArrives n k a = s.lateDrop (nodeStation n) := by
  simp only [State.responseArrives, hfind]

theorem exec_initiatorTimeout_eq : exec (.initiatorTimeout node tag) s =
    .next ((s.quiet.initiatorTimesOut node.toNat tag.toNat).consumeEngine node.toNat tag.toNat ⟨.timeout, [], 0⟩) := rfl

end

end Sys2Proof.Machine

namespace Sys2Proof.Proofs

open Sys2Proof.Machine

/-- Settles O31: a command by the state of the pair, a snapshot and a broadcast by what they find, an answer and a time-out by whose request they end. -/
theorem twinCommands : Obligations.TwinCommands := by
  unfold Obligations.TwinCommands
  refine ⟨?enable, ?enableRefused, ?takeover, ?takeoverOrphan, ?takeoverRefused, ?resign, ?resignRefused, ?rejoin, ?rejoinRefused, ?mirrorEnd,
    ?solo, ?standby, ?snapshot, ?snapshotRefused, ?snapshotEnds, ?reset, ?barrier, ?answer, ?lateAnswer, ?timeout, ?engineTimeout,
    ?innkeeperTimeout⟩
  case enable =>
    intro ini v s hoff hen ht
    rw [exec_twinCfgWrite_ok ht, wrTwinCfg_enables (s := s.quiet) hoff hen]
  case enableRefused =>
    intro ini v s hon hen ht
    rw [exec_twinCfgWrite_ok ht, wrTwinCfg_refused (s := s.quiet) hon hen]
  case takeover =>
    intro ini s h ht
    rw [exec_takeover_ok ht, State.takeoverCmd_standby (s := s.quiet) h]
  case takeoverOrphan =>
    intro ini s h ht
    rw [exec_takeover_ok ht, State.takeoverCmd_orphan (s := s.quiet) h]
    rfl
  case takeoverRefused =>
    intro ini s hs ho ht
    rw [exec_takeover_ok ht, State.takeoverCmd_refused (s := s.quiet) hs ho]
  case resign =>
    intro ini s u h hu ht
    rw [exec_resignCmd_ok ht, State.resignCmd_primary (s := s.quiet) h hu]
    rfl
  case resignRefused =>
    intro ini s h ht
    rw [exec_resignCmd_ok ht, State.resignCmd_refused (s := s.quiet) h]
  case rejoin =>
    intro ini s h ht
    rw [exec_rejoin_ok ht, State.rejoinCmd_parted (s := s.quiet) h]
  case rejoinRefused =>
    intro ini s hf ho ht
    rw [exec_rejoin_ok ht, State.rejoinCmd_refused (s := s.quiet) hf ho]
  case mirrorEnd =>
    intro t s u htx hall hu
    exact exec_mirrorSendComplete_ends htx hall hu
  case solo =>
    intro k s u htake hpast hkeeps hu
    rw [exec_takeoverBoundary_ends htake hpast hu, if_neg (Bool.eq_false_iff.mp hkeeps)]
  case standby =>
    intro k s u htake hpast hdiverge hu
    rw [exec_takeoverBoundary_ends htake hpast hu, if_pos hdiverge]
  case snapshot =>
    intro ini v s u dest hu hreq hdest hfree ht
    rw [exec_snapReq_ok ht, wrSnapCtl_takes hu hreq hdest hfree]
  case snapshotRefused =>
    intro ini v s u hu hreq hbad ht
    rw [exec_snapReq_ok ht, wrSnapCtl_refused hu hreq hbad]
  case snapshotEnds =>
    intro t s hsnap htags hall
    exact exec_snapshotComplete_ends hsnap htags hall
  case reset =>
    intro ini s u hu hself ht
    rw [exec_gresetGo_ok ht, State.gresetGo_self (s := s.quiet) hu hself]
    rfl
  case barrier =>
    intro ini b v s u hu hlocal ht
    rw [exec_gbarCfgWrite_ok ht, wrGbarCfg_local hu hlocal]
  case answer =>
    intro node tag a s o hfind hintime hnone hnode
    rw [exec_responseArrival_plain hnode, State.responseArrives_awaited (s := s.quiet) hfind hintime hnone]
    rfl
  case lateAnswer =>
    intro node tag a s hfind hnode
    rw [exec_responseArrival_plain hnode, State.responseArrives_unmatched (s := s.quiet) hfind]
  case timeout =>
    intro node tag s hnode
    rw [exec_initiatorTimeout_eq, State.consumeEngine_plain hnode]
    rfl
  case engineTimeout =>
    rintro node tag s u hnode rfl
    rw [exec_initiatorTimeout_eq, State.consumeEngine_engine hnode]
    rfl
  case innkeeperTimeout =>
    rintro node tag s u hnode rfl
    rw [exec_initiatorTimeout_eq, State.consumeEngine_innkeeper hnode]
    rfl

end Sys2Proof.Proofs
end

section
/-! PROOF. Waystations (08_olicor_network.md, R233 to R253). -/

namespace Sys2Proof.Machine

/-! ## Header flits (R233, R234, R240) -/

section

variable {lo w m h v x : Nat} {p : Packet}

/-- A field reads what stands at its place, whatever stands above it. -/
theorem flitBits_add_high (hm : lo + w ≤ m) : flitBits (h + 2 ^ m * v) lo w = flitBits h lo w := by
  obtain ⟨k, rfl⟩ := Nat.exists_eq_add_of_le hm
  rw [flitBits, flitBits, show 2 ^ (lo + w + k) * v = 2 ^ lo * (2 ^ w * (2 ^ k * v)) by rw [Nat.pow_add, Nat.pow_add, Nat.mul_assoc, Nat.mul_assoc],
    Nat.add_mul_div_left _ _ (Nat.two_pow_pos lo), Nat.add_mul_mod_self_left]

/-- A field written above what stands below it is read back. -/
theorem flitBits_field (hx : x < 2 ^ lo) : flitBits (x + flitField lo w v) lo w = v % 2 ^ w := by
  rw [flitBits, flitField, Nat.add_mul_div_right _ _ (Nat.two_pow_pos lo), Nat.div_eq_of_lt hx, Nat.zero_add, Nat.mod_mod]

/-- A field above does not reach a field below. -/
theorem flitBits_field_above {lo' w' : Nat} (h' : lo + w ≤ lo') : flitBits (x + flitField lo' w' v) lo w = flitBits x lo w := by
  rw [flitField, Nat.mul_comm]
  exact flitBits_add_high h'

/-- What stands below the end of a field, with the field, is below that end. -/
theorem add_flitField_lt {hi : Nat} (hx : x < 2 ^ lo) (hhi : lo + w ≤ hi) : x + flitField lo w v < 2 ^ hi := by
  have hv : v % 2 ^ w + 1 ≤ 2 ^ w := Nat.mod_lt _ (Nat.two_pow_pos w)
  calc x + flitField lo w v < (v % 2 ^ w + 1) * 2 ^ lo := by rw [flitField, Nat.add_mul, Nat.one_mul, Nat.add_comm]; exact Nat.add_lt_add_left hx _
    _ ≤ 2 ^ w * 2 ^ lo := Nat.mul_le_mul_right _ hv
    _ = 2 ^ (lo + w) := by rw [Nat.pow_add, Nat.mul_comm]
    _ ≤ 2 ^ hi := Nat.pow_le_pow_right Nat.two_pos hhi

end

/-- A field of a flit as it is laid out: its lowest bit, its width and its value. -/
structure FieldAt where
  lo : Nat
  width : Nat
  value : Nat

/-- The flit that holds the fields of a list, from the highest down. -/
def flitOf : List FieldAt → Nat
  | [] => 0
  | f :: fs => flitOf fs + flitField f.lo f.width f.value

/-- The fields stand apart, from the highest down. -/
def apart (fs : List FieldAt) : Prop := fs.Pairwise fun f g => g.lo + g.width ≤ f.lo

theorem flitOf_lt {fs : List FieldAt} {m : Nat} (ha : apart fs) (hm : ∀ f ∈ fs, f.lo + f.width ≤ m) : flitOf fs < 2 ^ m := by
  induction fs generalizing m with
  | nil => exact Nat.two_pow_pos m
  | cons f fs ih =>
    obtain ⟨hbelow, ha⟩ := List.pairwise_cons.mp ha
    exact add_flitField_lt (ih ha hbelow) (hm f List.mem_cons_self)

/-- Each of the fields is read back. -/
theorem flitBits_flitOf {fs : List FieldAt} (ha : apart fs) : ∀ f ∈ fs, flitBits (flitOf fs) f.lo f.width = f.value % 2 ^ f.width := by
  induction fs with
  | nil => exact fun f hf => absurd hf List.not_mem_nil
  | cons g fs ih =>
    obtain ⟨hbelow, htail⟩ := List.pairwise_cons.mp ha
    intro f hf
    obtain rfl | hf := List.mem_cons.mp hf
    · exact flitBits_field (flitOf_lt htail hbelow)
    · exact (flitBits_field_above (hbelow f hf)).trans (ih htail f hf)

/-- The fields of the header flit of a packet (R234), from the highest down. -/
def headerFields (p : Packet) : List FieldAt :=
  [⟨256, 128, p.byteEn⟩, ⟨192, 64, p.operand⟩, ⟨176, 16, p.poison⟩, ⟨160, 7, p.size - 1⟩, ⟨96, 52, p.addr⟩, ⟨80, 8, p.srcDev⟩,
    ⟨64, 12, p.srcNode⟩, ⟨56, 8, p.hops⟩, ⟨48, 8, p.dstDev⟩, ⟨32, 12, p.dstNode⟩, ⟨24, 4, p.resp⟩, ⟨16, 8, p.tag⟩, ⟨11, 2, p.len⟩,
    ⟨10, 1, p.epoch.toNat⟩, ⟨8, 2, vnNum p.vn⟩, ⟨0, 8, p.op⟩]

theorem headerFlit_eq (p : Packet) : headerFlit p = flitOf (headerFields p) := by
  simp only [headerFlit, headerFields, flitOf, Nat.zero_add]

theorem headerFields_apart (p : Packet) : apart (headerFields p) := by
  simp only [apart, headerFields, List.pairwise_cons, List.mem_cons, List.not_mem_nil, or_false, forall_eq_or_imp, forall_eq, Nat.reduceAdd,
    Nat.reduceLeDiff, Nat.zero_add, Std.le_refl, and_self, Nat.le_zero_eq, Nat.add_eq_zero_iff, false_implies, implies_true, List.Pairwise.nil]

theorem headerFlit_lt (p : Packet) : headerFlit p < 2 ^ 448 := by
  rw [headerFlit_eq]
  refine flitOf_lt (m := 448) (headerFields_apart p) ?_
  simp only [headerFields, List.mem_cons, List.not_mem_nil, or_false, forall_eq_or_imp, forall_eq, Nat.reduceAdd, Nat.reduceLeDiff, Nat.zero_add,
    and_self]

/-- A packet whose fields are in the ranges of R234, and which is no idle flit, comes back from its header flit. -/
theorem headerPacket_headerFlit {p : Packet} (hop : p.op ≠ 0 ∧ p.op < 2 ^ 8) (hsize : 1 ≤ p.size ∧ p.size ≤ 128)
    (hfits : ∀ f ∈ headerFields p, f.value < 2 ^ f.width) : headerPacket (headerFlit p) p.data = some p := by
  have hread := fun f hf => (flitBits_flitOf (headerFields_apart p) f hf).trans (Nat.mod_eq_of_lt (hfits f hf))
  rw [← headerFlit_eq] at hread
  simp only [headerFields, List.forall_mem_cons] at hread
  obtain ⟨hbyteEn, hoperand, hpoison, hsizeAt, haddr, hsrcDev, hsrcNode, hhops, hdstDev, hdstNode, hresp, htag, hlen, hepoch, hvn, hopAt, -⟩ := hread
  have hvnOf : vnOf (vnNum p.vn) = some p.vn := by cases p.vn <;> rfl
  have hbit : (p.epoch.toNat == 1) = p.epoch := by cases p.epoch <;> rfl
  rw [headerPacket, hvn, hvnOf]
  refine (if_neg (hopAt ▸ hop.1)).trans ?_
  rw [hbyteEn, hoperand, hpoison, hsizeAt, haddr, hsrcDev, hsrcNode, hhops, hdstDev, hdstNode, hresp, htag, hlen, hepoch, hopAt, hbit,
    Nat.sub_add_cancel hsize.1]

/-- Credits stand above the fields of a header flit. -/
theorem flitBits_credits {h lo w q r y : Nat} (hw : lo + w ≤ 448) : flitBits (h + creditFields q r y) lo w = flitBits h lo w := by
  rw [creditFields, ← Nat.add_assoc, ← Nat.add_assoc, flitBits_field_above (by omega), flitBits_field_above (by omega), flitBits_field_above hw]

/-- The packet of a header flit does not depend on the credits that it carries. -/
theorem headerPacket_credits (h q r y : Nat) (data : List Byte) : headerPacket (h + creditFields q r y) data = headerPacket h data := by
  have hread (lo w : Nat) (hw : lo + w ≤ 448) : flitBits (h + creditFields q r y) lo w = flitBits h lo w := flitBits_credits hw
  rw [headerPacket, hread 256 128 (by decide), hread 192 64 (by decide), hread 176 16 (by decide), hread 160 7 (by decide),
    hread 96 52 (by decide), hread 80 8 (by decide), hread 64 12 (by decide), hread 56 8 (by decide), hread 48 8 (by decide),
    hread 32 12 (by decide), hread 24 4 (by decide), hread 16 8 (by decide), hread 11 2 (by decide), hread 10 1 (by decide),
    hread 8 2 (by decide), hread 0 8 (by decide), headerPacket]

/-- The credits of a header flit are read back. -/
theorem flitBits_credits_read {h q r y : Nat} (hh : h < 2 ^ 448) (hq : q ≤ 8) (hr : r ≤ 8) (hy : y ≤ 8) :
    flitBits (h + creditFields q r y) 448 4 = q ∧ flitBits (h + creditFields q r y) 452 4 = r ∧
      flitBits (h + creditFields q r y) 456 4 = y := by
  have hreq : h + flitField 448 4 q < 2 ^ 452 := add_flitField_lt (hi := 452) hh (by decide)
  have hrsp : h + flitField 448 4 q + flitField 452 4 r < 2 ^ 456 := add_flitField_lt (hi := 456) hreq (by decide)
  rw [creditFields, ← Nat.add_assoc, ← Nat.add_assoc]
  refine ⟨?_, ?_, ?_⟩
  · rw [flitBits_field_above (by decide), flitBits_field_above (by decide), flitBits_field hh]
    omega
  · rw [flitBits_field_above (by decide), flitBits_field hreq]
    omega
  · rw [flitBits_field hrsp]
    omega

/-! ## Ingress (R235, R243, R249) -/

section

variable {s u : State} {p q : Packet} {f : Flight} {n : Nat}

theorem State.ingress_decoded (h : s.decoded n p = .inr f) {port : Nat} : s.ingress n port p = s.pushBuf n port 0 f := by
  simp only [State.ingress, h]

theorem State.quiet_decodeAddr {k : Nat} : s.quiet.decodeAddr k p = s.decodeAddr k p := by
  induction k generalizing p with
  | zero => rfl
  | succ k ih =>
    simp only [State.decodeAddr, ih]
    rfl

theorem State.quiet_decoded : s.quiet.decoded n p = s.decoded n p := by
  simp only [State.decoded, State.quiet_decodeAddr]
  rfl

/-- At an endpoint's port a request starts with HOPS 15 (R245). -/
theorem State.enterRequest_endpoint {port : Nat} (hport : linkPort n port = false) :
    s.enterRequest n port p = s.ingress n port { p with hops := 15 } := by
  simp only [State.enterRequest, hport, Bool.false_and, Bool.false_eq_true, if_false]

/-- A request that enters at an endpoint's port and decodes is buffered. -/
theorem exec_requestIngress_buffers {n : Fin 192} {port : Fin 16}
    (hin : p.op ≠ 0 ∧ p.vn = .req ∧ s.stationRuns n.val = true ∧ s.hasRoom n.val port.val 0 p = true)
    (hport : linkPort n.val port.val = false) (hdec : s.decoded n.val { p with hops := 15 } = .inr f) :
    exec (.requestIngress n port p) s = .next (s.quiet.pushBuf n.val port.val 0 f) := by
  obtain ⟨hop, hvn, hruns, hroom⟩ := hin
  have henters : ¬ (decide (p.op = 0) || decide (p.vn ≠ .req) || !(s.quiet.stationRuns n.val) || !(s.quiet.hasRoom n.val port.val 0 p) ||
      (linkPort n.val port.val && !(s.quiet.linkActive n.val))) = true := by
    rw [decide_eq_false hop, decide_eq_false (Decidable.not_not.mpr hvn), show s.quiet.stationRuns n.val = true from hruns,
      show s.quiet.hasRoom n.val port.val 0 p = true from hroom, hport, Bool.false_and]
    decide
  refine (if_neg henters).trans (congrArg Host.Outcome.next ?_)
  rw [State.enterRequest_endpoint hport, State.ingress_decoded (State.quiet_decoded.trans hdec)]

/-- A request routed by address, no longer under the test of step 5 nor held by a rehash, is stamped and has its destination. -/
theorem State.decoded_address {op : ReqOp} {node : Nat} (hop : reqOp p.op = some op) (hrd : op = .rd ∨ op = .wr) (hsize : packetSizeOk p = true)
    (hstep : s.rd R.START_STAT_STEP ≠ 5) (hq : s.decodeAddr 17 p = some q) (hheld : (s.rehashHolds && s.toLarder q) = false)
    (hnode : s.routeNode q = some node) : s.decoded n p = .inr ⟨some node, { q with epoch := s.stamp n }⟩ := by
  have hfree : (s.rd R.START_STAT_STEP == 5) = false := beq_false_of_ne hstep
  obtain rfl | rfl := hrd
  · simp only [State.decoded, hop, hsize, hfree, hq, hheld, hnode, Bool.not_true, Bool.and_false, Bool.false_and, Bool.false_eq_true, if_false]
  · simp only [State.decoded, hop, hsize, hfree, hq, hheld, hnode, Bool.not_true, Bool.and_false, Bool.false_and, Bool.false_eq_true, if_false]

/-! ## Hops and deliveries (R232, R239, R240, R246) -/

/-- A packet is sent on to the input behind an output, which has room for it. -/
theorem State.sendOn_room {code m i : Nat} {vn : VNet} (hbehind : behind n code = some (m, i)) (hdie : s.dieOut (m / 32) = false)
    (hroom : s.hasRoom m i (vnNum vn) f.pkt = true) : s.sendOn n code vn f =
      some ((((s.pushBuf m i (vnNum vn) f).unmark m (if 26 ≤ i then i - 6 else i) (vnNum vn) f.pkt).emit
        (.hop n code (s.flitWith n (inputFrom code) f.pkt) f.pkt)).payCredits n (inputFrom code)) := by
  simp only [State.sendOn, hbehind, hdie, hroom, Bool.not_true, Bool.false_eq_true, if_false]

theorem State.routePacket_forwards {node code : Nat} {vn : VNet} (hdest : f.dest = some node) (hin : ¬ 192 ≤ node / 16)
    (hcode : code = s.rd (rtFld n f.pkt.epoch.toNat (node / 16))) (hne : code ≠ 0) : s.routePacket n vn f = s.sendOn n code vn f := by
  subst hcode
  simp only [State.routePacket, hdest, if_neg hin, if_pos hne]

/-- The oldest packet of an input leaves it for where it is routed. -/
theorem exec_packetHop_routed {n : Fin 192} {input : Fin 32} {vn : VNet} {rest : List Flight} (hruns : s.stationRuns n.val = true)
    (hport : ¬ 26 ≤ input.val) (hbuf : (s.buf (bufKey n.val input.val (vnNum vn))).pkts = f :: rest)
    (hroute : s.quiet.routePacket n.val vn f = some u) :
    exec (.packetHop n input vn .route) s = .next (((u.popBuf n.val input.val (vnNum vn)).epochReport n.val).resetsOut) := by
  have hstands : ¬ (!(s.quiet.stationRuns n.val)) = true := by rw [show s.quiet.stationRuns n.val = true from hruns]; decide
  refine (if_neg hstands).trans (congrArg Host.Outcome.next ((if_neg hport).trans ?_))
  simp only [State.hopOldest, show (s.quiet.buf (bufKey n.val input.val (vnNum vn))).pkts = f :: rest from hbuf, hroute]

/-- A request is delivered to an endpoint that serves it, with room for it, in a domain that is ON. -/
theorem State.deliverReq_delivered {port : Nat} (hisol : s.bit (R.WS_ISOL_ISOLATED n) port = false) (hport : linkPort n port = false)
    (hserves : endpointAt n port true = true ∧ s.endpointOut n port = false ∧ csrEndpointOk (16 * n + port) (packetRequest p) = true)
    (htest : s.endpointTested n port = false)
    (hdom : ∀ d, endpointDomain n port = some d → s.meetDomain d n port (packetRequest p) = some (s, true))
    (hfew : (s.deliv.filter fun e => e.station == n && e.port == port).length < 256) (hroom : s.endpointFull n port (packetRequest p) = false) :
    s.deliverReq n port p = some ((({ s with deliv := s.deliv ++ [⟨n, port, packetRequest p, false⟩] } : State).emit
      (.deliver n port (s.flitWith n port p) p)).payCredits n port) := by
  obtain ⟨hat, hmapped, hcsr⟩ := hserves
  have htakes : ¬ (256 ≤ (s.deliv.filter fun e => e.station == n && e.port == port).length || s.endpointFull n port (packetRequest p)) = true := by
    rw [decide_eq_false (Nat.not_le.mpr hfew), hroom]
    decide
  simp only [State.deliverReq, hisol, hport, hat, hmapped, hcsr, htest, Bool.not_true, Bool.or_self, Bool.false_eq_true, if_false]
  cases hd : endpointDomain n port with
  | none => exact if_neg htakes
  | some d =>
    simp only [hdom d hd]
    exact if_neg htakes

/-! ## Credits (R240) -/

/-- Credits that no header took along go back from an endpoint's buffer or a running station's, at most 8 at once. -/
theorem exec_creditReturn_idle {n : Fin 192} {input : Fin 32} {vn : VNet} {c : Nat} (hc : c = min 8 (s.buf (bufKey n.val input.val (vnNum vn))).gone)
    (hsome : c ≠ 0) (hruns : s.stationRuns n.val = true) (hdie : ¬ (26 ≤ input.val ∧ s.dieOut (input.val - 26) = true))
    (hport : linkPort n.val input.val = false) : exec (.creditReturn n input vn) s =
      .next ((s.quiet.setBuf (bufKey n.val input.val (vnNum vn)) { s.buf (bufKey n.val input.val (vnNum vn)) with
        gone := (s.buf (bufKey n.val input.val (vnNum vn))).gone - c }).emit (.credits n.val input.val (vnNum vn) c (idleFlit vn c))) := by
  subst hc
  have hpays : ¬ (min 8 (s.buf (bufKey n.val input.val (vnNum vn))).gone = 0 ∨ s.quiet.stationRuns n.val = false ∨
      (26 ≤ input.val ∧ s.quiet.dieOut (input.val - 26) = true)) :=
    not_or.mpr ⟨hsome, not_or.mpr ⟨ne_false_of_eq_true hruns, hdie⟩⟩
  exact (if_neg hpays).trans (if_neg (Bool.eq_false_iff.mp hport))

/-! ## Target time-outs and isolation (R253) -/

/-- The delivered request of an initiator under a tag at a port, whose timer runs. -/
def timedAt (n port : Nat) (ini : Ini) (tag : Nat) (e : Deliv) : Bool :=
  e.station == n && e.port == port && e.rq.ini == ini && e.rq.tag == tag && !e.late

/-- The timer of such a request has expired: it is late. -/
def timeOutAt (n port : Nat) (ini : Ini) (tag : Nat) (e : Deliv) : Deliv := if timedAt n port ini tag e = true then { e with late := true } else e

/-- A time-out that is not the fourth within the time of R253 is counted. -/
theorem exec_targetTimeout_counts {n : Fin 192} {port : Fin 16} {ini : Ini} {tag : BitVec 8} {times : List Nat}
    (hany : s.deliv.any (timedAt n.val port.val ini tag.toNat) = true)
    (hu : u = ({ s.quiet with deliv := s.deliv.map (timeOutAt n.val port.val ini tag.toNat) } : State).bump (R.WS_STAT_TMO n.val))
    (htimes : times = ((storeGet [] (16 * n.val + port.val) s.expiries).filter fun t => decide (s.now < t + 156250)) ++ [s.now])
    (hfew : times.length < 4) : exec (.targetTimeout n port ini tag) s =
      .next { u with expiries := storeSet [] (16 * n.val + port.val) times s.expiries } := by
  subst hu htimes
  have hruns : ¬ (!(s.quiet.deliv.any (timedAt n.val port.val ini tag.toNat))) = true := by rw [State.quiet_deliv, hany]; decide
  refine (if_neg hruns).trans (if_neg ?_)
  rw [Bool.and_eq_true_iff, decide_eq_true_eq]
  exact fun h => Nat.not_le.mpr hfew h.1

theorem exec_portReadmit_ok {n : Fin 192} {ini : Ini} {v : BitVec 32} (hexists : stationExists (n.val / 32) (n.val % 32) = true)
    (ht : s.turnedAway (R.WS_ISOL_ISOLATED n.val).off = none) :
    exec (.portReadmit ini n v) s = .next ((wrWsIsol s.quiet n.val v).okWrite ini) :=
  (if_pos hexists).trans (congrArg Host.Outcome.next (State.written_ok ht))

end

end Sys2Proof.Machine

namespace Sys2Proof.Proofs

open Sys2Proof.Machine

/-- Settles O19: a packet by where it stands and where it goes, a header flit by the places of its fields. -/
theorem waystationsForward : Obligations.WaystationsForward := by
  unfold Obligations.WaystationsForward
  refine ⟨?ingress, ?decoded, ?forwards, ?delivers, ?credits, ?header, ?carried, ?tagFree, ?timeout, ?readmits⟩
  case ingress =>
    intro n port p f s hin hport hdec
    exact exec_requestIngress_buffers hin hport hdec
  case decoded =>
    intro n p q op node s hop hrd hsize hstep hq hheld hnode
    exact State.decoded_address hop hrd hsize hstep hq hheld hnode
  case forwards =>
    intro n input vn f rest node code m i s u hruns hport hbuf hdest hin hcode hne hbehind hdie hroom hu
    refine exec_packetHop_routed hruns hport hbuf ?_
    rw [State.routePacket_forwards (s := s.quiet) hdest hin hcode hne, State.sendOn_room (s := s.quiet) hbehind hdie hroom, hu]
    rfl
  case delivers =>
    intro n port p s hisol hport hserves htest hdom hfew hroom
    exact State.deliverReq_delivered hisol hport hserves htest hdom hfew hroom
  case credits =>
    intro n input vn c s hc hsome hruns hdie hport
    exact exec_creditReturn_idle hc hsome hruns hdie hport
  case header =>
    rintro p ⟨hop, hop8, hlen, htag, hresp, hhops⟩ ⟨hdstNode, hdstDev, hsrcNode, hsrcDev, haddr⟩ ⟨hsize, hsize128, hpoison, hoperand, hbyteEn⟩
    have hvn : vnNum p.vn < 2 ^ 2 := by cases p.vn <;> decide
    refine headerPacket_headerFlit ⟨hop, hop8⟩ ⟨hsize, hsize128⟩ ?_
    simp only [headerFields, List.forall_mem_cons]
    exact ⟨hbyteEn, hoperand, hpoison, by omega, haddr, hsrcDev, hsrcNode, hhops, hdstDev, hdstNode, hresp, htag, hlen, Bool.toNat_lt _, hvn, hop8,
      fun _ h => absurd h List.not_mem_nil⟩
  case carried =>
    rintro p q r y ⟨hq, hr, hy⟩
    exact ⟨headerPacket_credits _ q r y _, flitBits_credits_read (headerFlit_lt p) hq hr hy⟩
  case tagFree =>
    intro node tag s
    rfl
  case timeout =>
    intro n port ini tag s u times hany hu htimes hfew
    exact exec_targetTimeout_counts hany hu htimes hfew
  case readmits =>
    intro ini n v s hexists ht
    exact exec_portReadmit_ok hexists ht

end Sys2Proof.Proofs
end

section
/-! PROOF. Every command that an outside agent can give completes (00_scope.md, R235, R236, R433, R471). -/

namespace Sys2Proof.Machine

/-- How a command ends: with a next state where an agent can give it, else stopped as ill-formed. -/
inductive Ends : Bool → Host.Outcome State Fault Refusal → Prop
  | completes (t : State) : Ends true (.next t)
  | stops (m : String) : Ends false (.fault (.illFormed m))

variable {p : Prop} [Decidable p] {a b : Host.Outcome State Fault Refusal} {wf : Bool} {m : String}

/-- A guard in the meaning of a command that may be given: it completes either way. -/
theorem Ends.guard (ha : Ends true a) (hb : Ends true b) : Ends true (if p then a else b) := by
  split
  · exact ha
  · exact hb

/-- Operands that no agent gives are refused first. -/
theorem Ends.unlessBad (hp : p ↔ wf = false) (hb : Ends true b) : Ends wf (if p then .fault (.illFormed m) else b) := by
  cases wf with
  | false => exact if_pos (hp.mpr rfl) ▸ .stops m
  | true => exact if_neg (fun h => Bool.noConfusion (hp.mp h)) ▸ hb

/-- Operands that an agent may give are taken. -/
theorem Ends.ifGood (hp : p ↔ wf = true) (ha : Ends true a) : Ends wf (if p then a else .fault (.illFormed m)) := by
  cases wf with
  | false => exact if_neg (fun h => Bool.noConfusion (hp.mp h)) ▸ .stops m
  | true => exact if_pos (hp.mpr rfl) ▸ ha

theorem Ends.next_of_completes (h : Ends true a) : ∃ t, a = .next t := by
  cases h
  exact ⟨_, rfl⟩

theorem Ends.illFormed_of_stops (h : Ends false a) : ∃ m, a = .fault (.illFormed m) := by
  cases h
  exact ⟨_, rfl⟩

theorem Ends.ne_refused (h : Ends wf a) (r : Refusal) : a ≠ .refused r := by
  rintro rfl
  cases h

variable {s : State}

/-! ## The lengths and the kinds of operands that the rules give (R235, R236) -/

theorem ReqOp.writes_iff {op : ReqOp} : op.writes = true ↔ op = .wr ∨ op = .nwr := by
  cases op <;> decide

theorem ReqOp.writes_eq_false_iff {op : ReqOp} : op.writes = false ↔ op = .rd ∨ op = .nrd := by
  cases op <;> decide

theorem isWrite_eq_writes {op : ReqOp} : isWrite op = op.writes := by
  cases op <;> rfl

theorem isWriteOp_eq_writes {op : ReqOp} : isWriteOp op = op.writes := by
  cases op <;> rfl

theorem Access.dataFits_iff {a : Access} : a.dataFits = true ↔ a.data.length = a.size := beq_iff_eq

theorem Access.dataFits_eq_false_iff {a : Access} : a.dataFits = false ↔ a.data.length ≠ a.size := beq_eq_false_iff_ne

theorem Access.toNode_iff {a : Access} {op : ReqOp} {node : Nat} : a.toNode op node = true ↔ a.op = op ∧ a.dstNode = node := by
  rw [Access.toNode, Bool.and_eq_true, beq_iff_eq, beq_iff_eq]

theorem imgInOk_eq_delivers {x : ImgIn} : imgInOk x = x.delivers := by
  cases x <;> rfl

section

variable {rq : Request}

theorem exec_bramWindowAccess_ends : Ends (!(rq.acc.op.writes) || rq.acc.dataFits) (exec (.bramWindowAccess rq) s) := by
  refine .unlessBad ?_ ?_
  · rw [Bool.and_eq_true, isWrite_eq_writes, decide_eq_true_eq, Bool.or_eq_false_iff, Bool.not_eq_false', Access.dataFits_eq_false_iff]
  · dsimp only
    repeat' split
    all_goals exact .completes _

theorem exec_larderRead_ends : Ends (!(rq.acc.op.writes)) (exec (.larderRead rq) s) :=
  .unlessBad (by rw [Bool.not_eq_false', ReqOp.writes_iff]) (.completes _)

theorem exec_larderWrite_ends : Ends (rq.acc.op.writes && rq.acc.dataFits) (exec (.larderWrite rq) s) :=
  .unlessBad (by rw [Bool.and_eq_false_iff, ReqOp.writes_eq_false_iff, Access.dataFits_eq_false_iff, or_assoc]) (.completes _)

theorem exec_bankRead_ends {clash : BitVec 17} {later : Bool} :
    Ends (!(rq.acc.op.writes)) (exec (.bankRead rq clash later) s) :=
  .unlessBad (by rw [Bool.not_eq_false', isWriteOp_eq_writes]) (.completes _)

theorem exec_bankWrite_ends {stalls : BitVec 8} : Ends (rq.acc.op.writes && rq.acc.dataFits) (exec (.bankWrite rq stalls) s) :=
  .unlessBad (by rw [Bool.and_eq_false_iff, Bool.or_eq_true, Bool.not_eq_true', isWriteOp_eq_writes, decide_eq_true_eq,
    Access.dataFits_eq_false_iff]) (.completes _)

theorem exec_stimWrite_ends : Ends (rq.acc.toNode .nwr 0x024 && rq.acc.dataFits) (exec (.stimWrite rq) s) :=
  .unlessBad (by rw [Bool.and_eq_false_iff, ← Bool.not_eq_true, Access.toNode_iff, Access.dataFits_eq_false_iff, Decidable.not_and_iff_not_or_not, or_assoc]; rfl)
    (.guard (.completes _) (.completes _))

/-- A read of the debug block's node, or a write there with as many bytes as it says. -/
theorem debugEndpointBad_iff {a : Access} :
    (!(a.op == .nwr || a.op == .nrd) || a.dstNode != 7 || (a.op == .nwr && a.data.length != a.size)) = true ↔
      (a.toNode .nrd 7 || (a.toNode .nwr 7 && a.dataFits)) = false := by
  simp only [Access.toNode, Access.dataFits, bne]
  cases a.op <;> cases a.dstNode == 7 <;> cases a.data.length == a.size <;> decide

theorem exec_debugEndpointAccess_ends : Ends (rq.acc.toNode .nrd 7 || (rq.acc.toNode .nwr 7 && rq.acc.dataFits)) (exec (.debugEndpointAccess rq) s) :=
  .unlessBad debugEndpointBad_iff (.guard (.completes _) (.guard (.completes _) (.guard (.completes _) (.completes _))))

end

theorem exec_pinInputFlit_ends {n : Fin 64} {p : Fin 4} {samples : List (BitVec 32)} {first taken : Bool} :
    Ends (decide (1 ≤ samples.length) && decide (samples.length ≤ 16)) (exec (.pinInputFlit n p samples first taken) s) := by
  refine .unlessBad ?_ ?_
  · rw [Bool.and_eq_false_iff, decide_eq_false_iff_not, decide_eq_false_iff_not]
    omega
  · dsimp only
    repeat' split
    all_goals exact .completes _

theorem exec_pinOutputFlit_ends {n : Fin 64} {p : Fin 4} {samples : List (BitVec 32 × BitVec 32)} :
    Ends (samples.length == 8) (exec (.pinOutputFlit n p samples) s) :=
  .unlessBad beq_eq_false_iff_ne.symm (.guard (.completes _) (.completes _))

theorem exec_imageHeader_ends {x : ImgIn} : Ends x.delivers (exec (.imageHeader x) s) :=
  .unlessBad (by rw [imgInOk_eq_delivers, Bool.not_eq_true']) (.completes _)

theorem exec_imageBytes_ends {x : ImgIn} : Ends x.delivers (exec (.imageBytes x) s) :=
  .unlessBad (by rw [imgInOk_eq_delivers, Bool.not_eq_true']) (.completes _)

theorem exec_ts2_ends {g : Fin 24} {sets : List RxSet} {pings : List (Nat × Nat)} :
    Ends (!sets.isEmpty) (exec (.ts2 g sets pings) s) := by
  refine .unlessBad ?_ ?_
  · rw [Bool.not_eq_false', List.isEmpty_iff]
  · dsimp only
    repeat' split
    all_goals exact .completes _

theorem exec_rawFlitIn_ends {g : Fin 24} {codes : List (BitVec 10)} :
    Ends (decide (1 ≤ codes.length) && decide (codes.length ≤ 48)) (exec (.rawFlitIn g codes) s) := by
  refine .unlessBad ?_ (.guard (.completes _) (.guard (.completes _) (.completes _)))
  rw [Bool.and_eq_false_iff, decide_eq_false_iff_not, decide_eq_false_iff_not]
  omega

theorem exec_monitorInterval_ends {currents others : List Nat} :
    Ends (currents.length == 112 && others.length == 7) (exec (.monitorInterval currents others) s) :=
  .unlessBad (by rw [Bool.and_eq_false_iff, beq_eq_false_iff_ne, beq_eq_false_iff_ne])
    (.guard (.guard (.completes _) (.completes _)) (.completes _))

theorem exec_hkRound_ends {values : List (BitVec 16)} : Ends (values.length == 256) (exec (.hkRound values) s) :=
  .unlessBad beq_eq_false_iff_ne.symm (.completes _)

theorem exec_readStatus_ends {via : DeskRead} : Ends (Instr.readStatus via).wellFormed (exec (.readStatus via) s) := by
  cases via with
  | pins comp => exact .completes _
  | mirror rq => exact .unlessBad (by rw [Bool.not_eq_true']; rfl) (.guard (.completes _) (.completes _))

theorem exec_command_ends {d : DeskIn} : Ends (Instr.command d).wellFormed (exec (.command d) s) := by
  cases d with
  | pins comp off bytes =>
    refine .ifGood ?_ (.completes _)
    change _ ↔ (off == 0 && bytes.length == 16) = true
    rw [Bool.and_eq_true, beq_iff_eq, beq_iff_eq]
  | mirror rq =>
    refine .ifGood ?_ (.guard (.completes _) (.completes _))
    change _ ↔ (rq.acc.toNode .nwr 6 && rq.acc.addr == 0 && rq.acc.dataFits) = true
    rw [Bool.and_eq_true, Bool.and_eq_true, beq_iff_eq, Access.dataFits_iff, and_assoc]
    rfl

theorem exec_dataIn_ends {d : DeskIn} : Ends (Instr.dataIn d).wellFormed (exec (.dataIn d) s) := by
  cases d with
  | pins comp off bytes =>
    refine .ifGood ?_ (.completes _)
    change _ ↔ (decide (off < 2 ^ 32) && decide (1 ≤ bytes.length) && decide (bytes.length ≤ 4096)) = true
    rw [Bool.and_eq_true, Bool.and_eq_true, decide_eq_true_eq, decide_eq_true_eq, decide_eq_true_eq, and_assoc]
  | mirror rq =>
    refine .ifGood ?_ (.completes _)
    change _ ↔ (rq.acc.toNode .nwr 6 && decide (0x1000 ≤ rq.acc.addr) && rq.acc.dataFits) = true
    rw [Bool.and_eq_true, Bool.and_eq_true, decide_eq_true_eq, Access.dataFits_iff, and_assoc]
    rfl

theorem exec_dataOut_ends {place : DeskOut} {count : Nat} : Ends (decide (1 ≤ count) && decide (count ≤ 4096)) (exec (.dataOut place count) s) := by
  refine .unlessBad ?_ (.guard (.completes _) (.completes _))
  rw [Bool.and_eq_false_iff, decide_eq_false_iff_not, decide_eq_false_iff_not]
  omega

theorem exec_samplePreload_ends {levels : List (BitVec 32)} {d : BitVec 64} {v : BitVec 3136} :
    Ends (levels.length == 32) (exec (.samplePreload levels d v) s) :=
  .unlessBad beq_eq_false_iff_ne.symm (.completes _)

theorem exec_extest_ends {scan : Option BoundaryScan} : Ends (scan.all fun x => x.levels.length == 32) (exec (.extest scan) s) := by
  cases scan with
  | none => exact .completes _
  | some x => exact .unlessBad beq_eq_false_iff_ne.symm (.guard (.completes _) (.completes _))

theorem exec_bypass_ends {code : BitVec 8} : Ends (!([1, 2, 3, 4, 5, 0x10, 0x20].contains code.toNat)) (exec (.bypass code) s) :=
  .unlessBad (by rw [Bool.not_eq_false']) (.completes _)

/-- Every command, by whether its operands are ones that an agent may give, and by the branches of its meaning. -/
theorem exec_ends (c : Instr) : Ends c.wellFormed (exec c s) := by
  cases c
  -- Commands whose operands an agent may get wrong.
  case bramWindowAccess => exact exec_bramWindowAccess_ends
  case pinInputFlit => exact exec_pinInputFlit_ends
  case pinOutputFlit => exact exec_pinOutputFlit_ends
  case imageHeader => exact exec_imageHeader_ends
  case imageBytes => exact exec_imageBytes_ends
  case larderRead => exact exec_larderRead_ends
  case larderWrite => exact exec_larderWrite_ends
  case bankRead => exact exec_bankRead_ends
  case bankWrite => exact exec_bankWrite_ends
  case ts2 => exact exec_ts2_ends
  case rawFlitIn => exact exec_rawFlitIn_ends
  case monitorInterval => exact exec_monitorInterval_ends
  case hkRound => exact exec_hkRound_ends
  case readStatus => exact exec_readStatus_ends
  case command => exact exec_command_ends
  case dataIn => exact exec_dataIn_ends
  case dataOut => exact exec_dataOut_ends
  case samplePreload => exact exec_samplePreload_ends
  case extest => exact exec_extest_ends
  case bypass => exact exec_bypass_ends
  case debugEndpointAccess => exact exec_debugEndpointAccess_ends
  case stimWrite => exact exec_stimWrite_ends
  -- Commands that look at what waits, at the head of a queue, or at a state of several cases: a next state in each case.
  case bramWindowRow | portResponseArrival | portInboundRequest | eraseComplete | regionCmdEffect | seqCommandArrival | fillGrant | fillComplete |
      clampCycle | swapEdge | spillComplete | armedSwapNoBoundary | refetch | fallbackSwap | branchResolve | waitConditionMet | wflagTimeout |
      answerArrival | postedAnswer | barTimeout | imageTagCheck | imageCommit | imageStart | imageIdleTimeout | patrolActiveVisit | patrolCheck |
      patrolCorrection | refetchCopyReady | epochSet | epochMark | drainComplete | epochStuck | larderFill | larderWritebackAnswer | writebackRetry |
      rehashHold | rehashSwitch | larderOpComplete | bankPowerChangeDone | queuedRewrite | trainingComplete | sdramFill | sdramWriteback |
      keyGenerated | retireComplete | sweepComplete | ts1 | lossOfSignal | rawFlitOut | mirrorSendComplete | takeoverBoundary | snapshotComplete |
      dwellEnd | notifyAnswer | deviceResetBegin | imageStep | lcAdvanced | keyCmdComplete | mbistComplete | burnComplete | lbistComplete |
      dbgInitAnswer | traceWriteAnswer | channelSweepEnd =>
    dsimp only [exec, execBramWindowRow, execPortResponseArrival, execPortInboundRequest, execEraseComplete, execRegionCmdEffect,
      execSeqCommandArrival, execFillGrant, execFillComplete, execClampCycle, execSwapEdge, execSpillComplete, execArmedSwapNoBoundary, execRefetch,
      execFallbackSwap, execBranchResolve, execWaitConditionMet, execWflagTimeout, execAnswerArrival, execPostedAnswer, execBarTimeout,
      execImageTagCheck, execImageCommit, execImageStart, execImageIdleTimeout, execPatrolActiveVisit, execPatrolCheck, execPatrolCorrection,
      execRefetchCopyReady, execEpochSet, execEpochMark, execDrainComplete, execEpochStuck, execLarderFill, execLarderWritebackAnswer,
      execWritebackRetry, execRehashHold, execRehashSwitch, execLarderOpComplete, execBankPowerChangeDone, execQueuedRewrite, execTrainingComplete,
      execSdramFill, execSdramWriteback, execKeyGenerated, execRetireComplete, execSweepComplete, execTs1, execLossOfSignal, execRawFlitOut,
      execMirrorSendComplete, execTakeoverBoundary, execSnapshotComplete, execDwellEnd, execNotifyAnswer, execDeviceResetBegin, execImageStep,
      execLcAdvanced, execKeyCmdComplete, execMbistComplete, execBurnComplete, execLbistComplete, execDbgInitAnswer, execTraceWriteAnswer,
      execChannelSweepEnd]
    repeat' split
    all_goals exact .completes _
  -- Commands under guards.
  case faceRefresh | pllLocked | pllLockLost | portPacketSend | pinUnderrun | flagChange | eventDelivery | decisionPoint | planeLoadFrame |
      tickBoundary | slotBoundary | tickInEdge | tickInLost | lockAbortTimeout | watchdogExpiry | imgAbort | patrolStoredVisit | patrolPassEnd |
      requestIngress | packetHop | creditReturn | targetTimeout | portReadmit | routeTableWrite | pointOfNoReturn | wake | courierStartRequest |
      courierReadAnswer | courierWriteAnswer | imbalanceWindow | handoverComplete | porterVisit | porterPassEnd | initComplete | sdramRefresh |
      mr4Poll | scrubLine | trainTimeout | frame | replayTimeout | tickMarker | snoopPacket | domainOn | domainOff | graceEnd | clockStepRise |
      shutdownPowerOff | porstN | resetN | housekeepingStep | fuseStep | journalStep | repairLoad | bistStep | journalWriteComplete | abort |
      lcAdvance | alarmCfgWrite | rngTestWindow | rngOutRead | dbgAccess | regionStepEnd | rawLaneLock | scrubPassEnd =>
    repeat' refine .guard ?_ ?_
    all_goals exact .completes _
  -- The other commands answer one next state.
  all_goals exact .completes _

end Sys2Proof.Machine

namespace Sys2Proof.Proofs

open Sys2Proof.Machine

/-- Settles O50: how each command ends (`exec_ends`). -/
theorem everyCommandHasAnEffect : Obligations.EveryCommandHasAnEffect := by
  unfold Obligations.EveryCommandHasAnEffect
  refine ⟨?completes, ?stops, ?never⟩
  case completes =>
    intro c s h
    exact Ends.next_of_completes (h ▸ exec_ends c)
  case stops =>
    intro c s h
    exact Ends.illFormed_of_stops (h ▸ exec_ends c)
  case never =>
    intro c s r
    exact (exec_ends c).ne_refused r

end Sys2Proof.Proofs
end

section
/-! PROOF. The larder serves requests (09_larder_scratchpads.md, R263, R269 to R273, R278). -/

namespace Sys2Proof.Machine

variable {s t u v : State} {rq : Request} {k l : Nat}

/-! ## A request at its slice (R263, R269) -/

/-- An SDRAM-range read that meets R236 goes to the slice of its address. -/
theorem State.larderRequest_read (hop : rq.acc.op = .rd) (hsize : readSizeOk rq.acc.addr rq.acc.size = true)
    (hrange : ¬ 0x30000000000 ≤ rq.acc.addr % 2 ^ 44) (hslice : s.sliceOf (rq.acc.addr % 2 ^ 44) = some k) :
    s.larderRequest rq = s.sliceRequest k rq := by
  simp only [State.larderRequest, hop, hsize, decide_eq_false hrange, hslice, Bool.not_true, Bool.or_self, Bool.false_eq_true, if_false]

/-- An SDRAM-range write that meets R236 goes to the slice of its address. -/
theorem State.larderRequest_write (hop : rq.acc.op = .wr) (hsize : writeSizeOk rq.acc.addr rq.acc.size = true)
    (hrange : ¬ 0x30000000000 ≤ rq.acc.addr % 2 ^ 44) (hslice : s.sliceOf (rq.acc.addr % 2 ^ 44) = some k) :
    s.larderRequest rq = s.sliceRequest k rq := by
  simp only [State.larderRequest, hop, hsize, decide_eq_false hrange, hslice, Bool.not_true, Bool.or_self, Bool.false_eq_true, if_false]

/-- Slice k takes up at once what reaches it: the monitor is off, and no request waits. -/
def State.takesAtOnce (s : State) (k : Nat) : Prop := s.is1 R.LARDER_IMBAL_CFG_EN = false ∧ (s.slice k).waiting = []

theorem State.sliceRequest_served (h : s.takesAtOnce k) (hserve : s.sliceServe k rq = some t) : s.sliceRequest k rq = t := by
  obtain ⟨hoff, hnone⟩ := h
  simp only [State.sliceRequest, hoff, hnone, hserve, Bool.false_eq_true, if_false, ne_eq, not_true_eq_false]

/-- Line l has memory behind it, and no fill of it is pending in slice k. -/
def State.unfetched (s : State) (k l : Nat) : Prop :=
  s.lineExists l = true ∧ (s.slice k).misses.find? (fun m => m.line == l) = none

theorem State.sliceServe_readHit {x : Line} (hop : rq.acc.op = .rd) (h : s.unfetched k (rq.acc.addr / 128 % 2 ^ 35))
    (hline : s.line (rq.acc.addr / 128 % 2 ^ 35) = some x) (hread : s.readHit k (rq.acc.addr / 128 % 2 ^ 35) x rq = some t) :
    s.sliceServe k rq = some t := by
  obtain ⟨hexists, hfill⟩ := h
  have hrd : ¬ (rq.acc.op == .wr) = true := by rw [hop]; decide
  simp only [State.sliceServe, hexists, hfill, hline, hread, if_neg hrd, Bool.not_true, Bool.false_eq_true, if_false]

/-- A read that finds no line begins a fetch. -/
theorem State.sliceServe_readMiss (hop : rq.acc.op = .rd) (h : s.unfetched k (rq.acc.addr / 128 % 2 ^ 35))
    (hline : s.line (rq.acc.addr / 128 % 2 ^ 35) = none) :
    s.sliceServe k rq = s.beginFetch k (rq.acc.addr / 128 % 2 ^ 35) rq := by
  obtain ⟨hexists, hfill⟩ := h
  have hrd : (rq.acc.op == .wr && rq.acc.size == 128) = false := by rw [hop]; rfl
  simp only [State.sliceServe, hexists, hfill, hline, hrd, Bool.not_true, Bool.false_eq_true, if_false]

/-- A fetch for another initiator than the debug initiator takes a miss entry and a way. -/
theorem State.beginFetch_takes {w : Nat} (hpeek : s.debugRead rq = false) (hfree : ¬ 64 ≤ (s.slice k).misses.length)
    (hway : s.takeWay k l = some (t, w)) : s.beginFetch k l rq =
      some (t.setSlice k { t.slice k with misses := (t.slice k).misses ++ [⟨l, w, [rq], none⟩] }) := by
  simp only [State.beginFetch, hpeek, State.startMiss, if_neg hfree, hway, Bool.false_eq_true, if_false]

/-- A write of a whole line that is not there allocates it without a fetch (R270). -/
theorem State.sliceServe_allocates {w key : Nat} (hop : rq.acc.op = .wr) (hsize : rq.acc.size = 128)
    (h : s.unfetched k (rq.acc.addr / 128 % 2 ^ 35)) (hline : s.line (rq.acc.addr / 128 % 2 ^ 35) = none)
    (hkey : s.keyOf (rq.acc.addr % 2 ^ 44) = some key) (hway : s.takeWay k (rq.acc.addr / 128 % 2 ^ 35) = some (t, w)) :
    s.sliceServe k rq = some (t.writeHit k (rq.acc.addr / 128 % 2 ^ 35) ⟨w, [], false, key⟩ rq) := by
  obtain ⟨hexists, hfill⟩ := h
  have hwhole : (rq.acc.op == .wr && rq.acc.size == 128) = true := by rw [hop, hsize]; decide
  simp only [State.sliceServe, hexists, hfill, hline, if_pos hwhole, hkey, hway, Bool.not_true, Bool.false_eq_true, if_false]

theorem exec_larderRead_served (hop : rq.acc.op = .rd) (hsize : readSizeOk rq.acc.addr rq.acc.size = true)
    (hslice : s.sliceOf (rq.acc.addr % 2 ^ 44) = some k) (hrange : ¬ 0x30000000000 ≤ rq.acc.addr % 2 ^ 44) (hnow : s.takesAtOnce k)
    (hserve : s.quiet.sliceServe k rq = some t) : exec (.larderRead rq) s = .next t := by
  have hform : ¬ (rq.acc.op = .wr ∨ rq.acc.op = .nwr) := by rw [hop]; decide
  refine (if_neg hform).trans (congrArg Host.Outcome.next ?_)
  rw [State.larderRequest_read (s := s.quiet) hop hsize hrange hslice, State.sliceRequest_served (s := s.quiet) hnow hserve]

theorem exec_larderWrite_served (hop : rq.acc.op = .wr) (hdata : rq.acc.data.length = rq.acc.size)
    (hsize : writeSizeOk rq.acc.addr rq.acc.size = true) (hslice : s.sliceOf (rq.acc.addr % 2 ^ 44) = some k)
    (hrange : ¬ 0x30000000000 ≤ rq.acc.addr % 2 ^ 44) (hnow : s.takesAtOnce k) (hserve : s.quiet.sliceServe k rq = some t) :
    exec (.larderWrite rq) s = .next t := by
  have hform : ¬ (rq.acc.op = .rd ∨ rq.acc.op = .nrd ∨ rq.acc.data.length ≠ rq.acc.size) := by rw [hop, hdata]; simp
  refine (if_neg hform).trans (congrArg Host.Outcome.next ?_)
  rw [State.larderRequest_write (s := s.quiet) hop hsize hrange hslice, State.sliceRequest_served (s := s.quiet) hnow hserve]

/-! ## Fills (R269, R271) -/

section

variable {line : BitVec 35} {m : Miss} {a : FillAns}

/-- Slice k has the line's miss entry m, and SDRAM has answered it with a. -/
def State.fillAnswered (s : State) (line : BitVec 35) (k : Nat) (m : Miss) (a : FillAns) : Prop :=
  s.sliceOf (line.toNat * 128) = some k ∧
    (s.slice k).misses.find? (fun x => x.line == line.toNat && x.ans.isSome) = some m ∧ m.ans = some a

/-- A fill that failed answers every waiting request with its code; nothing is allocated. -/
theorem exec_larderFill_failed (h : s.fillAnswered line k m a) (hcode : a.code ≠ .ok)
    (hu : u = s.quiet.setSlice k { s.slice k with misses := (s.slice k).misses.filter fun x => x.line != line.toNat }) :
    exec (.larderFill line) s = .next ((m.reqs.foldl (fun t rq => t.reply rq a.code) u).drainAll k) := by
  obtain ⟨hslice, hmiss, hans⟩ := h
  subst hu
  change execLarderFill line s = _
  simp only [execLarderFill, show s.quiet.sliceOf (line.toNat * 128) = some k from hslice,
    show (s.quiet.slice k).misses.find? (fun x => x.line == line.toNat && x.ans.isSome) = some m from hmiss, hans, if_pos hcode]
  rfl

/-- A fill with OK that has a way stores the line and performs the waiting requests. -/
theorem exec_larderFill_stored (h : s.fillAnswered line k m a) (hcode : a.code = .ok) (hway : m.way ≠ noWay)
    (hu : u = (s.quiet.setSlice k { s.slice k with misses := (s.slice k).misses.filter fun x => x.line != line.toNat }).setLine line.toNat
      (some ⟨m.way, fillCells a.data a.poison, false, a.key⟩))
    (hv : v = ((u.bumpN (R.PROT_RECOV_PSTORE (k / 64)) (poisonCount a.poison)).afterStore (.slice k) (line.toNat * 128)).touch k line.toNat m.way) :
    exec (.larderFill line) s = .next ((v.afterFill k (fun t rq => t.sliceServe k rq) m.reqs).drainAll k) := by
  obtain ⟨hslice, hmiss, hans⟩ := h
  subst hu hv
  change execLarderFill line s = _
  simp only [execLarderFill, show s.quiet.sliceOf (line.toNat * 128) = some k from hslice,
    show (s.quiet.slice k).misses.find? (fun x => x.line == line.toNat && x.ans.isSome) = some m from hmiss, hans,
    if_neg (Decidable.not_not.mpr hcode), if_neg hway]
  rfl

/-! ## Write-backs (R273) -/

variable {w : Wb}

/-- An acknowledged write-back is dropped, and what waited for room is taken up. -/
theorem exec_larderWritebackAnswer_ok (hw : s.firstWb line.toNat = some w) (hstage : w.stage = .answered .ok) :
    exec (.larderWritebackAnswer line) s = .next ((s.quiet.setFirstWb line.toNat none).drainAll w.slice) := by
  change execLarderWritebackAnswer line s = _
  simp only [execLarderWritebackAnswer, show s.quiet.firstWb line.toNat = some w from hw, hstage, if_true]

/-- A write-back that has failed fewer than four times waits to be sent again. -/
theorem exec_larderWritebackAnswer_failed {code : Resp} (hw : s.firstWb line.toNat = some w) (hstage : w.stage = .answered code)
    (hcode : code ≠ .ok) (hfew : w.fails < 3) : exec (.larderWritebackAnswer line) s =
      .next (s.quiet.setFirstWb line.toNat (some { w with fails := w.fails + 1, stage := .retry })) := by
  change execLarderWritebackAnswer line s = _
  simp only [execLarderWritebackAnswer, show s.quiet.firstWb line.toNat = some w from hw, hstage, if_neg hcode, if_neg (Nat.not_le.mpr hfew)]

theorem exec_writebackRetry_sends (hw : s.firstWb line.toNat = some w) (hstage : w.stage = .retry) :
    exec (.writebackRetry line) s = .next (s.quiet.setFirstWb line.toNat (some { w with stage := .sent })) := by
  change execWritebackRetry line s = _
  simp only [execWritebackRetry, show s.quiet.firstWb line.toNat = some w from hw, hstage]

end

/-! ## The imbalance monitor (R278) -/

/-- The count of slice k in the window, as its register shows it. -/
def State.sliceCount (s : State) (k : Nat) : Nat := min (storeGet 0 k s.larder.counts) (2 ^ 32 - 1)

/-- The slice with the largest count. -/
def State.topSlice (s : State) : Nat := (List.range 128).foldl (fun b k => if s.sliceCount b < s.sliceCount k then k else b) 0

/-- SKEW of the window. -/
def State.skew (s : State) : Nat :=
  if ((List.range 128).map s.sliceCount).sum = 0 then 0
  else min 4095 (16 * s.sliceSet.length * s.sliceCount s.topSlice / ((List.range 128).map s.sliceCount).sum)

/-- The registers show the window's counts, the slice with the largest and SKEW. -/
def State.showsWindow (s : State) : State :=
  ((s.each (List.range 128) fun t k => t.wr (R.LARDER_SLICE_CNT_COUNT k) (s.sliceCount k)).wr R.LARDER_IMBAL_STAT_MAX_SLICE s.topSlice).wr
    R.LARDER_IMBAL_STAT_SKEW s.skew

/-- The next window begins; a SKEW that reaches the threshold sets SKEW_FLAG and is logged once. -/
def State.windowEnds (s : State) (skew : Nat) : State :=
  let u : State := { s with larder := { s.larder with counts := [] } }
  if u.rd R.LARDER_IMBAL_CFG_THRESH ≤ skew ∧ !(u.is1 R.LARDER_IMBAL_STAT_SKEW_FLAG) then
    (u.set1 R.LARDER_IMBAL_STAT_SKEW_FLAG).logP 0 .larderSkew []
  else u

theorem exec_imbalanceWindow_on (hon : s.is1 R.LARDER_IMBAL_CFG_EN = true) :
    exec .imbalanceWindow s = .next (s.quiet.showsWindow.windowEnds s.quiet.skew) := by
  have hruns : ¬ (!(s.quiet.is1 R.LARDER_IMBAL_CFG_EN)) = true := by rw [show s.quiet.is1 R.LARDER_IMBAL_CFG_EN = true from hon]; decide
  refine (if_neg hruns).trans ?_
  rw [State.windowEnds, apply_ite Host.Outcome.next]
  rfl

theorem State.windowEnds_low {skew : Nat} (h : skew < s.rd R.LARDER_IMBAL_CFG_THRESH) :
    s.windowEnds skew = { s with larder := { s.larder with counts := [] } } :=
  if_neg fun hreached => Nat.not_le.mpr h hreached.1

section

variable (hnone : s.larder.counts = [])

include hnone

theorem State.sliceCount_none : s.sliceCount k = 0 := by
  rw [State.sliceCount, hnone]
  exact Nat.zero_min _

theorem State.topSlice_none : s.topSlice = 0 := by
  simp only [State.topSlice, State.sliceCount_none hnone, Nat.lt_irrefl, if_false, List.foldl_fixed]

theorem State.skew_none : s.skew = 0 := by
  refine if_pos (List.sum_eq_zero fun c hc => ?_)
  obtain ⟨k, -, rfl⟩ := List.mem_map.mp hc
  exact State.sliceCount_none hnone

/-- After a window in which no request came the registers show 0 throughout. -/
theorem State.showsWindow_none : s.showsWindow =
    ((s.each (List.range 128) fun t k => t.wr (R.LARDER_SLICE_CNT_COUNT k) 0).wr R.LARDER_IMBAL_STAT_MAX_SLICE 0).wr
      R.LARDER_IMBAL_STAT_SKEW 0 := by
  simp only [State.showsWindow, State.sliceCount_none hnone, State.topSlice_none hnone, State.skew_none hnone]

end

end Sys2Proof.Machine

namespace Sys2Proof.Proofs

open Sys2Proof.Machine

/-- Settles O22: a request by the line that it finds, a fill and a write-back by their answers, a window by its counts. -/
theorem larderServesRequests : Obligations.LarderServesRequests := by
  unfold Obligations.LarderServesRequests
  refine ⟨?readHit, ?readMiss, ?allocates, ?fillFails, ?fillStores, ?wbDone, ?wbFails, ?wbAgain, ?window⟩
  case readHit =>
    rintro rq k l x s t hop hsize hslice hrange hoff hnone rfl hexists hfill hline hread
    exact exec_larderRead_served hop hsize hslice hrange ⟨hoff, hnone⟩ (State.sliceServe_readHit (s := s.quiet) hop ⟨hexists, hfill⟩ hline hread)
  case readMiss =>
    rintro rq k l w s t hop hsize hslice hrange hoff hnone rfl hexists hfill hline hpeek hfree hway
    exact exec_larderRead_served hop hsize hslice hrange ⟨hoff, hnone⟩
      ((State.sliceServe_readMiss (s := s.quiet) hop ⟨hexists, hfill⟩ hline).trans (State.beginFetch_takes (s := s.quiet) hpeek hfree hway))
  case allocates =>
    rintro rq k l w key s t hop ⟨hwhole, hdata⟩ hsize hslice hrange hoff hnone rfl hexists hfill hline hkey hway
    exact exec_larderWrite_served hop (hdata.trans hwhole.symm) hsize hslice hrange ⟨hoff, hnone⟩
      (State.sliceServe_allocates (s := s.quiet) hop hwhole ⟨hexists, hfill⟩ hline hkey hway)
  case fillFails =>
    intro l k m a s u hslice hmiss hans hcode hu
    exact exec_larderFill_failed ⟨hslice, hmiss, hans⟩ hcode hu
  case fillStores =>
    intro l k m a s u v hslice hmiss hans hcode hway hu hv
    exact exec_larderFill_stored ⟨hslice, hmiss, hans⟩ hcode hway hu hv
  case wbDone =>
    intro l w s hw hstage
    exact exec_larderWritebackAnswer_ok hw hstage
  case wbFails =>
    intro l w code s hw hstage hcode hfew
    exact exec_larderWritebackAnswer_failed hw hstage hcode hfew
  case wbAgain =>
    intro l w s hw hstage
    exact exec_writebackRetry_sends hw hstage
  case window =>
    intro s u hon hnone hu hthresh
    rw [exec_imbalanceWindow_on hon, State.skew_none (s := s.quiet) hnone, State.showsWindow_none (s := s.quiet) hnone, ← hu,
      State.windowEnds_low (Nat.pos_of_ne_zero hthresh)]

end Sys2Proof.Proofs
end

section
/-! PROOF. The switch of a rehash (09_larder_scratchpads.md, R266, R275). -/

namespace Sys2Proof.Machine

variable {s u : State}

/-- Where no slice of LARDER_SET_NEXT may be named any more, the set in force stays (log entry 276). -/
theorem State.rehashSet_none (h : s.nextSet.filter s.sliceUsable = []) : s.rehashSet = s.sliceSet := by
  simp only [State.rehashSet, h, List.isEmpty_nil, if_true]

/-- With every slice idle a rehash that keeps its salt switches to the slices that it may name at that moment. -/
theorem exec_rehashSwitch_keepsSalt (hop : s.larder.op = some (.rehash false true)) (hidle : s.slicesIdle = true)
    (hu : u = s.quiet.setSliceSet s.rehashSet) : exec .rehashSwitch s =
      .next (({ u with larder := { u.larder with lines := [], plru := [] } } : State).endOp).releaseHeld := by
  have hgo : ¬ (!s.quiet.slicesIdle) = true := by rw [show s.quiet.slicesIdle = true from hidle]; decide
  subst hu
  change execRehashSwitch s = _
  simp only [execRehashSwitch, State.quiet_larder, hop, if_neg hgo, Bool.false_eq_true, if_false]
  rfl

end Sys2Proof.Machine

namespace Sys2Proof.Proofs

open Sys2Proof.Machine

/-- A rehash holds requests and every slice is idle; slice 0 is in force, and LARDER_SET_NEXT has been cleared since the rehash was accepted. -/
def clearedNextState : State := { State.reset.wr (R.LARDER_SET_MEMBER 0) 1 with larder := { op := some (.rehash false true) } }

/-- Refutes O23: its clause for a switch that keeps SALT puts LARDER_SET_NEXT itself into force, where the model puts `rehashSet` (log entry 276). In
`clearedNextState` LARDER_SET_NEXT names no slice, so that slice 0 stays in LARDER_SET; the clause would leave LARDER_SET empty. -/
theorem not_larderMaintenance : ¬ Obligations.LarderMaintenance := by
  unfold Obligations.LarderMaintenance
  rintro ⟨-, -, -, -, hswitch, -⟩
  have hclaim := hswitch clearedNextState _ rfl (by decide) rfl
  have hmodel := exec_rehashSwitch_keepsSalt (s := clearedNextState) rfl (by decide) rfl
  rw [State.rehashSet_none (by decide +kernel)] at hmodel
  have hsame := congrArg (fun t => t.rd (R.LARDER_SET_MEMBER 0)) (Host.Outcome.next.inj (hmodel.symm.trans hclaim))
  exact absurd hsame (by decide +kernel)

end Sys2Proof.Proofs
end

section
/-! PROOF. Scratchpad banks (09_larder_scratchpads.md, R282 to R288). -/

namespace Sys2Proof.Machine

variable {s u z : State} {ini : Ini} {b : Fin 2048} {v : BitVec 32}

/-! ## Checking a request (R285) -/

section

variable {rq : Request} {x : BankAt} {clash stalls : Nat} {later : Bool}

/-- The access goes to bank x of this part, which no handover holds. -/
def State.reachesBank (s : State) (rq : Request) (x : BankAt) : Prop :=
  bankAt rq.acc = some x ∧ (!(s.bankIn x.b) || x.resv) = false ∧ (s.bank x.b).newOwner = none

/-- The requester matches the bank's owner. -/
def State.fromOwner (s : State) (rq : Request) (x : BankAt) : Bool :=
  s.matchesOwner (s.rd (R.BANK_OWNER_KIND x.b)) (s.rd (R.BANK_OWNER_ID x.b)) rq.ini

/-- The owner's access of a bank that is ON, within its limits, is served. -/
theorem State.bankRequest_served (h : s.reachesBank rq x) (howner : s.fromOwner rq x = true) (hon : s.bankState x.b = 0)
    (hlim : s.bankLimits x (s.bankMode x rq.acc.op) rq.acc = true) : s.bankRequest rq false clash later stalls =
      if isWriteOp rq.acc.op then s.serveBankWrite x (s.bankMode x rq.acc.op) rq stalls
      else s.serveBankRead x (s.bankMode x rq.acc.op) rq clash later := by
  obtain ⟨hat, hin, hnone⟩ := h
  rw [State.fromOwner] at howner
  simp only [State.bankRequest, hat, hin, hnone, howner, hon, hlim, Option.isSome_none, Bool.not_true, Bool.not_false, Bool.and_false, Bool.false_and,
    Bool.false_eq_true, if_false, ne_eq, not_true_eq_false, OfNat.zero_ne_ofNat]

/-- An access by neither the owner nor the debug initiator, of a bank that the test engine does not own, is DENIED and counted. -/
theorem State.bankRequest_denied (h : s.reachesBank rq x) (htest : s.rd (R.BANK_OWNER_KIND x.b) ≠ 5)
    (hother : (s.fromOwner rq x || s.passesOwner rq.ini) = false) :
    s.bankRequest rq false clash later stalls = s.bankDeny x.b rq .denied := by
  obtain ⟨hat, hin, hnone⟩ := h
  obtain ⟨howner, hdebug⟩ := Bool.or_eq_false_iff.mp hother
  rw [State.fromOwner] at howner
  simp only [State.bankRequest, hat, hin, hnone, howner, hdebug, beq_false_of_ne htest, Option.isSome_none, Bool.not_false, Bool.and_false,
    Bool.and_self, Bool.false_and, Bool.false_eq_true, if_false, if_true]

theorem exec_bankRead_request {clash : BitVec 17} (hop : isWriteOp rq.acc.op = false) :
    exec (.bankRead rq clash later) s = .next (s.quiet.bankRequest rq false clash.toNat later 0) :=
  if_neg (Bool.eq_false_iff.mp hop)

theorem exec_bankWrite_request {stalls : BitVec 8} (hdata : rq.acc.data.length = rq.acc.size) (hop : isWriteOp rq.acc.op = true) :
    exec (.bankWrite rq stalls) s = .next (s.quiet.bankRequest rq false 0 false stalls.toNat) :=
  if_neg (by rw [hop, decide_eq_false (Decidable.not_not.mpr hdata)]; decide)

end

/-! ## Handover (R284) -/

/-- A write of a KIND that is not reserved and that nothing refuses begins a handover, to be completed after the requests accepted before it. -/
theorem wrBankOwner_begins {b : Nat} (hin : s.bankIn b = true) (hu : u = s.w1cOnly (.BANK_OWNER b) v) (hkind : (R.BANK_OWNER_KIND b).of v < 8)
    (hfree : (u.is1 (R.BANK_OWNER_PENDING b) || !(ownerOk ((R.BANK_OWNER_KIND b).of v) ((R.BANK_OWNER_ID b).of v)) ||
      u.keptByTest.contains (.bank b)) = false)
    (hz : z = (u.abortTestOf (.bank b)).heldPower (.bank b)) : wrBankOwner s b v =
      (z.setBank b { z.bank b with
        newOwner := some ((R.BANK_OWNER_KIND b).of v, (R.BANK_OWNER_ID b).of v), accepted := (z.bank b).accepted ++ (z.bank b).waiting,
        waiting := [] }).set1 (R.BANK_OWNER_PENDING b) := by
  subst hu hz
  simp only [wrBankOwner, hin, if_neg (Nat.not_le.mpr hkind), hfree, Bool.not_true, Bool.false_eq_true, if_false]

theorem State.handover_ends {b k i : Nat} (h : (s.bank b).newOwner = some (k, i)) : s.handover b =
    ((((s.setBank b { s.bank b with newOwner := none }).wr (R.BANK_OWNER_KIND b) k).wr (R.BANK_OWNER_ID b) i).clr
      (R.BANK_OWNER_PENDING b)).bankRecheck b := by
  simp only [State.handover, h]

theorem exec_handoverComplete_ready (h : (s.bank b.val).accepted = []) : exec (.handoverComplete b) s = .next (s.quiet.handover b.val) :=
  if_neg (Decidable.not_not.mpr h)

/-! ## Modes, windows and power (R282, R288) -/

/-- A write of BANK_CFG is stored where no port has an access queued and both pairs of mode and width go together. -/
theorem wrBankCfg_stores {b : Nat} (hin : s.bankIn b = true) (hu : u = s.w1cOnly (.BANK_CFG b) v) (hz : z = u.storeReg (.BANK_CFG b) v)
    (hidle : u.bankQueued b false = 0 ∧ u.bankQueued b true = 0)
    (hpairs : (modeWidthOk (z.rd (R.BANK_CFG_A_MODE b)) (z.rd (R.BANK_CFG_A_WIDTH b)) &&
      modeWidthOk (z.rd (R.BANK_CFG_B_MODE b)) (z.rd (R.BANK_CFG_B_WIDTH b))) = true) : wrBankCfg s b v = z := by
  subst hu hz
  obtain ⟨hidleA, hidleB⟩ := hidle
  obtain ⟨hpairA, hpairB⟩ := Bool.and_eq_true_iff.mp hpairs
  simp only [wrBankCfg, hin, hidleA, hidleB, hpairA, hpairB, beq_self_eq_true, Bool.or_true, Bool.and_self, Bool.not_true, Bool.false_eq_true, if_false,
    if_true]

theorem wrBankWin_stores {b : Nat} {portB : Bool} (hin : s.bankIn b = true)
    (hfits : ¬ ((R.BANK_WIN_A_LEN_W b).of v = 0 ∨ 16384 < (R.BANK_WIN_A_BASE_W b).of v + (R.BANK_WIN_A_LEN_W b).of v ∨
      s.bankQueued b portB ≠ 0)) : wrBankWin s b portB v = s.storeReg (if portB then .BANK_WIN_B b else .BANK_WIN_A b) v := by
  simp only [wrBankWin, hin, if_neg hfits, Bool.not_true, Bool.false_eq_true, if_false]

/-- A bank at rest in another state begins to change. -/
theorem State.bankToward_begins {b st : Nat} (h : ¬ (s.bankState b = 3 ∨ s.bankState b = st)) :
    s.bankToward b st = (s.setBank b { s.bank b with toward := some st }).wr (R.BANK_PWR_STATE b) 3 := if_neg h

/-- Outside a test a REQ that is not reserved takes effect at once. -/
theorem wrBankPwr_requests {b : Nat} (hin : s.bankIn b = true) (hu : u = s.wr (R.BANK_PWR_AUTO_WAKE b) ((R.BANK_PWR_AUTO_WAKE b).of v))
    (hreq : (R.BANK_PWR_REQ b).of v ≠ 3) (htest : u.underTest.contains (.bank b) = false) :
    wrBankPwr s b v = u.bankRequestState b ((R.BANK_PWR_REQ b).of v) := by
  subst hu
  simp only [wrBankPwr, hin, if_neg hreq, htest, Bool.not_true, Bool.false_eq_true, if_false]

/-- A bank reaches its state, OFF with its contents lost; what waited is checked again, and a REQ written meanwhile begins the next change. -/
theorem exec_bankPowerChangeDone_reaches {st : Nat} (h : (s.bank b.val).toward = some st)
    (hu : u = (s.quiet.setBank b.val { s.bank b.val with toward := none }).wr (R.BANK_PWR_STATE b.val) st)
    (hz : z = (if st = 2 then u.loseBank b.val else u).bankRecheck b.val) :
    exec (.bankPowerChangeDone b) s = .next (z.bankToward b.val (z.rd (R.BANK_PWR_REQ b.val))) := by
  subst hu hz
  change execBankPowerChangeDone b s = _
  simp only [execBankPowerChangeDone, show (s.quiet.bank b.val).toward = some st from h]
  rfl

/-! ## The writes on the bus -/

theorem exec_bankOwnerWrite_ok (ht : s.turnedAway (R.BANK_OWNER_KIND b.val).off = none) :
    exec (.bankOwnerWrite ini b v) s = .next ((wrBankOwner s.quiet b.val v).okWrite ini) := congrArg _ (State.written_ok ht)

theorem exec_bankCfgWrite_ok (ht : s.turnedAway (R.BANK_CFG_A_MODE b.val).off = none) :
    exec (.bankCfgWrite ini b v) s = .next ((wrBankCfg s.quiet b.val v).okWrite ini) := congrArg _ (State.written_ok ht)

theorem exec_bankWinWrite_ok {portB : Bool}
    (ht : s.turnedAway (if portB then R.BANK_WIN_B_LEN_W b.val else R.BANK_WIN_A_LEN_W b.val).off = none) :
    exec (.bankWinWrite ini b portB v) s = .next ((wrBankWin s.quiet b.val portB v).okWrite ini) := congrArg _ (State.written_ok ht)

theorem exec_bankPowerRequest_ok (ht : s.turnedAway (R.BANK_PWR_REQ b.val).off = none) :
    exec (.bankPowerRequest ini b v) s = .next ((wrBankPwr s.quiet b.val v).okWrite ini) := congrArg _ (State.written_ok ht)

end Sys2Proof.Machine

namespace Sys2Proof.Proofs

open Sys2Proof.Machine

/-- Settles O24: a request by its requester, a handover by its two ends, each register by what its write stores or begins. -/
theorem scratchpadBanks : Obligations.ScratchpadBanks := by
  unfold Obligations.ScratchpadBanks
  refine ⟨?read, ?write, ?denied, ?owner, ?handover, ?cfg, ?window, ?power, ?reaches, ?reachesOff⟩
  case read =>
    rintro rq clash later a m s hop hat hin howner hnone hon rfl hlim
    rw [exec_bankRead_request hop, State.bankRequest_served (s := s.quiet) ⟨hat, hin, hnone⟩ howner hon hlim, if_neg (Bool.eq_false_iff.mp hop)]
    rfl
  case write =>
    rintro rq stalls a m s hdata hop hat hin howner hnone hon rfl hlim
    rw [exec_bankWrite_request hdata hop, State.bankRequest_served (s := s.quiet) ⟨hat, hin, hnone⟩ howner hon hlim, if_pos hop]
    rfl
  case denied =>
    intro rq stalls a s hdata hop hat hin htest hnone hother
    rw [exec_bankWrite_request hdata hop, State.bankRequest_denied (s := s.quiet) ⟨hat, hin, hnone⟩ htest hother]
    rfl
  case owner =>
    rintro ini b v s u z _ _ hin hu ⟨rfl, rfl⟩ hkind hfree hz ht
    rw [exec_bankOwnerWrite_ok ht, wrBankOwner_begins (s := s.quiet) hin hu hkind hfree hz]
  case handover =>
    rintro b k i s u hdone hnew rfl
    rw [exec_handoverComplete_ready hdone, State.handover_ends (s := s.quiet) hnew]
    rfl
  case cfg =>
    intro ini b v s u z hin hu hz hidle hpairs ht
    rw [exec_bankCfgWrite_ok ht, wrBankCfg_stores (s := s.quiet) hin hu hz hidle hpairs]
  case window =>
    intro ini b portB v s hin hfits ht
    rw [exec_bankWinWrite_ok ht, wrBankWin_stores (s := s.quiet) hin hfits]
  case power =>
    rintro ini b v s u z hin hu hreq htest rfl hother ht
    rw [exec_bankPowerRequest_ok ht, wrBankPwr_requests (s := s.quiet) hin hu hreq htest, State.bankRequestState, State.bankToward_begins hother]
  case reaches =>
    intro b st s u z hto hst hu hz
    exact exec_bankPowerChangeDone_reaches hto hu (hz.trans (by rw [if_neg hst]))
  case reachesOff =>
    intro b s u z hto hu hz
    exact exec_bankPowerChangeDone_reaches hto rfl (hz.trans (by rw [hu, if_pos rfl]))

end Sys2Proof.Proofs
end

section
/-! PROOF. The code of stored bytes (10_stored_data_protection.md, R289 to R291). -/

namespace Sys2Proof.Machine

/-! ## The check bits are linear (R289) -/

theorem foldl_xor_append (f : Nat → Bool) (is : List Nat) (p : Bool) :
    is.foldl (fun r i => r ^^ f i) p = (p ^^ is.foldl (fun r i => r ^^ f i) false) := by
  induction is generalizing p with
  | nil => rw [List.foldl_nil, List.foldl_nil, Bool.xor_false]
  | cons i is ih => rw [List.foldl_cons, List.foldl_cons, ih, ih (false ^^ f i), Bool.false_xor, Bool.xor_assoc]

theorem xorBits_cons (d i : Nat) (is : List Nat) : xorBits d (i :: is) = (d.testBit i ^^ xorBits d is) := by
  rw [xorBits, List.foldl_cons, foldl_xor_append, Bool.false_xor, xorBits]

theorem xorBits_append (d : Nat) (is js : List Nat) : xorBits d (is ++ js) = (xorBits d is ^^ xorBits d js) := by
  rw [xorBits, List.foldl_append, foldl_xor_append, xorBits, xorBits]

theorem xorBits_xor (a b : Nat) (is : List Nat) : xorBits (a ^^^ b) is = (xorBits a is ^^ xorBits b is) := by
  induction is with
  | nil => rfl
  | cons i is ih =>
    rw [xorBits_cons, xorBits_cons, xorBits_cons, ih, Nat.testBit_xor, Bool.xor_assoc, Bool.xor_assoc, Bool.xor_left_comm (b.testBit i)]

/-- Each check bit is an exclusive or of data bits; that of p repeats the data bits that the other four already hold. -/
theorem checkOf_eq_bits (d : Nat) :
    checkOf d = Nat.bit (xorBits d [0, 1, 3, 4, 6]) (Nat.bit (xorBits d [0, 2, 3, 5, 6]) (Nat.bit (xorBits d [1, 2, 3, 7])
      (Nat.bit (xorBits d [4, 5, 6, 7]) (Nat.bit
        (xorBits d ([0, 1, 2, 3, 4, 5, 6, 7] ++ [0, 1, 3, 4, 6] ++ [0, 2, 3, 5, 6] ++ [1, 2, 3, 7] ++ [4, 5, 6, 7])) 0)))) := by
  simp only [checkOf, Nat.bit_val, xorBits_append]
  omega

theorem checkOf_xor (a b : Nat) : checkOf (a ^^^ b) = checkOf a ^^^ checkOf b := by
  simp only [checkOf_eq_bits, xorBits_xor, Nat.xor_bit, Nat.xor_self]

/-! ## The error alone decides how a byte decodes (R290) -/

/-- What becomes of a decoded byte when a number is added to its data bits. -/
def ByteSt.shift (d : Nat) : ByteSt → ByteSt
  | .fixed x => .fixed (d ^^^ x)
  | .good => .good
  | .bad => .bad
  | .mark => .mark

theorem decodeByte_cell (e : Nat) {d : Nat} (hd : d < 256) :
    decodeByte (256 * e + d) =
      if e % 32 = 0 then .good
      else if !(xorBits (e % 32) [0, 1, 2, 3, 4]) then .bad
      else if e % 32 % 16 = 15 then .mark
      else if 13 ≤ e % 32 % 16 then .bad
      else .fixed ((dataBit (e % 32 % 16)).elim d (d ^^^ 2 ^ ·)) := by
  have herr : (256 * e + d) / 256 = e := by omega
  rw [decodeByte, Nat.mul_add_mod, Nat.mod_eq_of_lt hd, herr]
  cases dataBit (e % 32 % 16) <;> rfl

/-- Adding to the data bits adds to the decoded data and changes nothing else: the syndrome and the parity are the error's. -/
theorem decodeByte_shift (e : Nat) {d : Nat} (hd : d < 256) : decodeByte (256 * e + d) = (decodeByte (256 * e)).shift d := by
  have hzero := decodeByte_cell e (d := 0) (by decide)
  rw [Nat.add_zero] at hzero
  rw [decodeByte_cell e hd, hzero]
  split_ifs
  · rfl
  · rfl
  · rfl
  · rfl
  · cases dataBit (e % 32 % 16) <;> simp only [ByteSt.shift, Option.elim, Nat.zero_xor, Nat.xor_zero]

/-- Masks on a good byte change its data by the data mask and leave an error of the masks alone. -/
theorem flipCell_goodCell {d data : Nat} (check : Nat) (hd : d < 256) (hm : data < 256) :
    flipCell (goodCell d) data check = 256 * ((check ^^^ checkOf data) % 32) + (d ^^^ data) := by
  have hx : d ^^^ data < 256 := Nat.xor_lt_two_pow (n := 8) hd hm
  have herr : checkOf d ^^^ check ^^^ checkOf (d ^^^ data) = check ^^^ checkOf data := by
    rw [checkOf_xor, Nat.xor_comm (checkOf d) check, Nat.xor_assoc, Nat.xor_xor_cancel_left]
  rw [goodCell, flipCell, Nat.mod_mod, Nat.mod_eq_of_lt hd, Nat.div_eq_of_lt hd, Nat.zero_mod, Nat.xor_zero, Nat.mod_eq_of_lt hx, herr]

/-- A masked good byte decodes as its masks' error says, whatever its data. -/
theorem decodeByte_flipCell {d data check : Nat} (hd : d < 256) (hm : data < 256) :
    decodeByte (flipCell (goodCell d) data check) = (decodeByte (256 * ((check ^^^ checkOf data) % 32))).shift (d ^^^ data) := by
  rw [flipCell_goodCell check hd hm, decodeByte_shift _ (Nat.xor_lt_two_pow (n := 8) hd hm)]

/-- Stored bits 0 to 7 are the data bits, 8 to 12 the check bits: an error from one of them alone decodes to the change of the data. -/
theorem decodeByte_error_single (i : Fin 13) :
    decodeByte (256 * ((2 ^ i.val / 256 ^^^ checkOf (2 ^ i.val % 256)) % 32)) = .fixed (2 ^ i.val % 256) := by
  revert i; decide

theorem decodeByte_error_double (i j : Fin 13) (hij : i < j) :
    decodeByte (256 * (((2 ^ i.val + 2 ^ j.val) / 256 ^^^ checkOf ((2 ^ i.val + 2 ^ j.val) % 256)) % 32)) = .bad := by
  revert i j; decide

/-! ## The status of a word (R291) -/

theorem contains_map_decodeByte (cells : List Nat) (b : ByteSt) :
    (cells.map decodeByte).contains b = true ↔ ∃ c ∈ cells, decodeByte c = b := by
  rw [List.contains_iff_mem, List.mem_map]

/-- The byte was corrected. -/
def ByteSt.isFixed : ByteSt → Bool
  | .fixed _ => true
  | _ => false

theorem ByteSt.isFixed_iff (b : ByteSt) : b.isFixed = true ↔ ∃ d, b = .fixed d := by
  cases b <;> simp [ByteSt.isFixed]

theorem any_isFixed_iff (cells : List Nat) : (cells.map decodeByte).any ByteSt.isFixed = true ↔ ∃ c ∈ cells, ∃ d, decodeByte c = .fixed d := by
  rw [List.any_map, List.any_eq_true]
  exact exists_congr fun c => and_congr_right fun _ => ByteSt.isFixed_iff (decodeByte c)

theorem wordStatus_eq (cells : List Nat) : wordStatus cells =
    if (cells.map decodeByte).contains .bad then .bad
    else if (cells.map decodeByte).contains .mark then .marked
    else if (cells.map decodeByte).any ByteSt.isFixed then .corrected
    else .good := rfl

theorem wordStatus_bad {cells : List Nat} (hbad : ∃ c ∈ cells, decodeByte c = .bad) : wordStatus cells = .bad := by
  rw [wordStatus_eq, if_pos ((contains_map_decodeByte cells .bad).mpr hbad)]

theorem wordStatus_marked {cells : List Nat} (hbad : ∀ c ∈ cells, decodeByte c ≠ .bad) (hmark : ∃ c ∈ cells, decodeByte c = .mark) :
    wordStatus cells = .marked := by
  have hno : ¬ ∃ c ∈ cells, decodeByte c = .bad := fun ⟨c, hc, h⟩ => hbad c hc h
  rw [wordStatus_eq, if_neg (mt (contains_map_decodeByte cells .bad).mp hno), if_pos ((contains_map_decodeByte cells .mark).mpr hmark)]

/-- A word without a bad byte and without a mark is corrected or good. -/
theorem wordStatus_readable {cells : List Nat} (h : ∀ c ∈ cells, decodeByte c ≠ .bad ∧ decodeByte c ≠ .mark) :
    (wordStatus cells = .corrected ∧ ∃ c ∈ cells, ∃ d, decodeByte c = .fixed d) ∨
      (wordStatus cells = .good ∧ ¬ ∃ c ∈ cells, ∃ d, decodeByte c = .fixed d) := by
  have hbad : ¬ ∃ c ∈ cells, decodeByte c = .bad := fun ⟨c, hc, hb⟩ => (h c hc).1 hb
  have hmark : ¬ ∃ c ∈ cells, decodeByte c = .mark := fun ⟨c, hc, hm⟩ => (h c hc).2 hm
  rw [wordStatus_eq, if_neg (mt (contains_map_decodeByte cells .bad).mp hbad), if_neg (mt (contains_map_decodeByte cells .mark).mp hmark),
    ← any_isFixed_iff]
  split_ifs with hfixed
  · exact .inl ⟨rfl, hfixed⟩
  · exact .inr ⟨rfl, hfixed⟩

end Sys2Proof.Machine

namespace Sys2Proof.Proofs

open Sys2Proof.Machine

/-- Settles O57: the check bits are linear, so that the masks alone decide how a masked byte decodes, and 13 single and 78 double masks remain; the
table is read off the error's parity and syndrome. -/
theorem byteCodeDecodes : Obligations.ByteCodeDecodes := by
  unfold Obligations.ByteCodeDecodes
  refine ⟨?proper, ?single, ?double, ?table, ?word⟩
  case proper =>
    intro d
    have hgood := decodeByte_cell 0 d.isLt
    have hmark := decodeByte_cell 31 d.isLt
    rw [Nat.mul_zero, Nat.zero_add] at hgood
    rw [goodCell, markCell, Nat.mod_eq_of_lt d.isLt, hgood, hmark]
    exact ⟨rfl, rfl⟩
  case single =>
    intro d i
    rw [decodeByte_flipCell d.isLt (Nat.mod_lt _ (by decide)), decodeByte_error_single, ByteSt.shift, Nat.xor_xor_cancel_right]
  case double =>
    intro d i j hij
    rw [decodeByte_flipCell d.isLt (Nat.mod_lt _ (by decide)), decodeByte_error_double i j hij, ByteSt.shift]
  case table =>
    intro d e
    have hzero : e.toNat = 0 ↔ e.toNat % 16 = 0 ∧ xorBits e.toNat [0, 1, 2, 3, 4] = false := by revert e; decide
    have hpar : xorBits e.toNat [0, 1, 2, 3, 4] = (e.getLsbD 0 ^^ e.getLsbD 1 ^^ e.getLsbD 2 ^^ e.getLsbD 3 ^^ e.getLsbD 4) := by
      simp only [xorBits, List.foldl, Bool.false_xor, BitVec.getLsbD]
    rw [decodeByte_cell e.toNat d.isLt, Nat.mod_eq_of_lt e.isLt]
    simp only [← hpar, hzero, Bool.not_eq_true']
    have hsyn : e.toNat % 16 < 16 := Nat.mod_lt _ (by decide)
    generalize e.toNat % 16 = syn at hsyn ⊢
    generalize xorBits e.toNat [0, 1, 2, 3, 4] = q
    split_ifs with hnone heven hmark hbig hrow hrow
    · rfl
    · rfl
    · rfl
    · rfl
    · omega
    · omega
    · interval_cases syn <;> rfl
  case word =>
    intro cells
    refine ⟨wordStatus_bad, wordStatus_marked, fun h hfixed => ?_, fun h => ?_⟩
    · obtain ⟨hw, -⟩ | ⟨-, hnone⟩ := wordStatus_readable h
      · exact hw
      · exact absurd hfixed hnone
    · obtain ⟨-, c, hc, x, hx⟩ | ⟨hw, -⟩ := wordStatus_readable fun c hc => by rw [h c hc]; decide
      · exact absurd (hx.symm.trans (h c hc)) nofun
      · exact hw

end Sys2Proof.Proofs
end

section
/-! PROOF. Night porters, queued rewrites and injections (10_stored_data_protection.md, R295 to R304). -/

namespace Sys2Proof.Machine

variable {s u z : State} {ini : Ini} {d : Fin 2} {v : BitVec 32}

/-! ## Passes (R301, R302) -/

@[simp] theorem State.quiet_porter (d : Nat) : s.quiet.porter d = s.porter d := rfl
@[simp] theorem State.quiet_porterRuns (d : Nat) : s.quiet.porterRuns d = s.porterRuns d := rfl

/-- A running porter that is not at the last unit of its pass makes the row repairs due, visits its unit and stands at the next. -/
theorem exec_porterVisit_next {i : Nat} (hruns : s.porterRuns d.val = true) (hdone : (s.porter d.val).done = false)
    (hi : i = s.rd (R.PORTER_POS_UNIT d.val)) (hlast : i < 8388607) (hu : u = s.quiet.each (List.range 96) fun v k => v.repairDue d.val k) :
    exec (.porterVisit d) s =
      .next (((if i = 0 then u.passBegins d.val else u).porterVisit d.val i).wr (R.PORTER_POS_UNIT d.val) (i + 1)) := by
  change execPorterVisit d s = _
  simp only [execPorterVisit, State.quiet_porterRuns, State.quiet_porter, hruns, hdone, Bool.not_true, Bool.or_self, Bool.false_eq_true, if_false,
    State.quiet_rd, ← hi, ← hu, if_pos hlast]

theorem exec_porterPassEnd_done (hruns : s.porterRuns d.val = true) (hdone : (s.porter d.val).done = true) :
    exec (.porterPassEnd d) s = .next (s.quiet.setPorter d.val { s.porter d.val with done := false }) := by
  change execPorterPassEnd d s = _
  simp only [execPorterPassEnd, State.quiet_porterRuns, State.quiet_porter, hruns, hdone, Bool.not_true,
    Bool.false_eq_true, if_false, if_true]

theorem exec_porterPassEnd_late (hruns : s.porterRuns d.val = true) (hdone : (s.porter d.val).done = false) :
    exec (.porterPassEnd d) s = .next ((s.quiet.setPorter d.val { s.porter d.val with passOver := true }).set1 (R.PORTER_STAT_LATE d.val)) := by
  change execPorterPassEnd d s = _
  simp only [execPorterPassEnd, State.quiet_porterRuns, State.quiet_porter, hruns, Bool.not_true,
    Bool.false_eq_true, if_false]
  exact if_neg (Bool.eq_false_iff.mp hdone)

/-- A write that sets EN where it was 0 starts a pass at unit 0. -/
theorem wrPorterCtl_starts {d : Nat} (hoff : s.is1 (R.PORTER_CTL_EN d) = false) (hu : u = s.storeReg (.PORTER_CTL d) v)
    (hon : u.is1 (R.PORTER_CTL_EN d) = true) :
    wrPorterCtl s d v = (u.clr (R.PORTER_POS_UNIT d)).setPorter d { u.porter d with done := false, passOver := false } := by
  subst hu
  simp only [wrPorterCtl, hoff, hon, Bool.not_false, Bool.and_self, if_true]

theorem exec_porterEnWrite_ok (ht : s.turnedAway (R.PORTER_CTL_EN d.val).off = none) :
    exec (.porterEnWrite ini d v) s = .next ((wrPorterCtl s.quiet d.val v).okWrite ini) := congrArg _ (State.written_ok ht)

/-! ## Queued rewrites (R295, R297, R303) -/

/-- The oldest queued entry that the porter reaches becomes REWRITTEN, and its word, where the unit still holds it, is read and written back. -/
theorem exec_queuedRewrite_held {k : Fin 96} {e : TrackEntry} (hruns : s.porterRuns d.val = true) (hu : u = s.quiet.repairDue d.val k.val)
    (hfind : (u.track (96 * d.val + k.val)).find? (fun e => e.state == .queued && u.porterReaches (trackedUnit d.val k.val e.addr)) = some e)
    (hz : z = u.setTrack (96 * d.val + k.val) ((u.track (96 * d.val + k.val)).map fun x =>
      if x.addr = e.addr then { x with state := .rewritten, count := 0, full := false, again := false } else x))
    (hheld : z.unitHolds (trackedUnit d.val k.val e.addr) e.addr = true) :
    exec (.queuedRewrite d k) s = .next (z.porterRead (trackedUnit d.val k.val e.addr) id e.addr).1 := by
  subst hu hz
  change execQueuedRewrite d k s = _
  simp only [execQueuedRewrite, State.quiet_porterRuns, hruns, hfind, hheld, Bool.not_true, Bool.false_eq_true, if_false, if_true]

theorem State.porterRead_corrected {unit : Unit'} {count : State → State} {addr : Nat}
    (h : wordStatus (s.wordCells unit addr) = .corrected) :
    s.porterRead unit count addr = (count (((s.rewriteWord unit addr).afterStore unit addr).bump (R.PROT_CNT_SBE unit.die)), false) := by
  simp only [State.porterRead, State.porterFix, h]

/-! ## Injections (R304) -/

/-- ARM stays as written for a bank in service. -/
theorem wrFlipCtl_bank {d k : Nat} (hu : u = s.storeReg (.PROT_FLIP_CTL d) v) (hk : k = u.rd (R.PROT_FLIP_CTL_UNIT d))
    (hkind : u.is1 (R.PROT_FLIP_CTL_KIND d) = true) (hin : u.bankIn (1024 * d + k) = true) (hlt : k < 1024) : wrFlipCtl s d v = u := by
  subst hu hk
  simp only [wrFlipCtl, hkind, hin, hlt, decide_true, Bool.and_self, if_true]

theorem exec_flipArm_ok (ht : s.turnedAway (R.PROT_FLIP_CTL_ARM d.val).off = none) :
    exec (.flipArm ini d v) s = .next ((wrFlipCtl s.quiet d.val v).okWrite ini) := congrArg _ (State.written_ok ht)

end Sys2Proof.Machine

namespace Sys2Proof.Proofs

open Sys2Proof.Machine

/-- Settles O25: a visit and the end of PASS by a running porter, each register by what its write stores, a rewrite by its entry and its word. -/
theorem nightPorters : Obligations.NightPorters := by
  unfold Obligations.NightPorters
  refine ⟨?visit, ?passDone, ?passLate, ?enable, ?rewrite, ?corrected, ?arm⟩
  case visit =>
    intro d i s u hruns hdone hi hlast hu
    exact exec_porterVisit_next hruns hdone hi hlast hu
  case passDone =>
    intro d s hruns hdone
    exact exec_porterPassEnd_done hruns hdone
  case passLate =>
    intro d s hruns hdone
    exact exec_porterPassEnd_late hruns hdone
  case enable =>
    intro ini d v s u hoff hu hon ht
    rw [exec_porterEnWrite_ok ht, wrPorterCtl_starts (s := s.quiet) hoff hu hon]
  case rewrite =>
    intro d k e s u z hruns hu hfind hz hheld
    exact exec_queuedRewrite_held hruns hu hfind hz hheld
  case corrected =>
    intro u addr s h
    rw [State.porterRead_corrected h, id]
  case arm =>
    intro ini d v s u k hu hk hkind hin hlt ht
    rw [exec_flipArm_ok ht, wrFlipCtl_bank (s := s.quiet) hu hk hkind hin hlt]

end Sys2Proof.Proofs
end

section
/-! SUPPORT. What every command and every step may do to the queue, the fuses and the memories: one line per command, by its own lemma of
Laws/ExecKept.lean or Laws/Fuses.lean. -/

namespace Sys2Proof.Machine

/-- Every command leaves the queue and the bins alone, only burns fuses, and keeps each memory's canonical form. -/
theorem exec_leaves {s t : State} : (c : Instr) → exec c s = .next t → s.leaves t.kept
  -- The commands that may burn a fuse or write a memory.
  | .registerWrite _ _ _ _, h => execRegisterWrite_leaves _ _ _ _ _ _ h
  | .pairLoWrite _ _ _, h => execPairLoWrite_leaves _ _ _ _ _ h
  | .pairHiWrite _ _ _, h => execPairHiWrite_leaves _ _ _ _ _ h
  | .bramWindowRow _ _, h => execBramWindowRow_leaves _ _ _ _ h
  | .eraseComplete, h => execEraseComplete_leaves _ _ h
  | .swapEdge _, h => execSwapEdge_leaves _ _ _ h
  | .spillComplete _, h => execSpillComplete_leaves _ _ _ h
  | .armedSwapNoBoundary _, h => execArmedSwapNoBoundary_leaves _ _ _ h
  | .fallbackSwap _, h => execFallbackSwap_leaves _ _ _ h
  | .planeLoadFrame _ _ _ _, h => execPlaneLoadFrame_leaves _ _ _ _ _ _ h
  | .tickBoundary, h => execTickBoundary_leaves _ _ h
  | .imageHeader _, h => execImageHeader_leaves _ _ _ h
  | .imageBytes _, h => execImageBytes_leaves _ _ _ h
  | .imageTagCheck, h => execImageTagCheck_leaves _ _ h
  | .imageCommit, h => execImageCommit_leaves _ _ h
  | .imageIdleTimeout, h => execImageIdleTimeout_leaves _ _ h
  | .imgAbort _, h => execImgAbort_leaves _ _ _ h
  | .patrolCorrection, h => execPatrolCorrection_leaves _ _ h
  | .larderRead _, h => execLarderRead_leaves _ _ _ h
  | .larderWrite _, h => execLarderWrite_leaves _ _ _ h
  | .larderFill _, h => execLarderFill_leaves _ _ _ h
  | .larderWritebackAnswer _, h => execLarderWritebackAnswer_leaves _ _ _ h
  | .clean _ _ _ _, h => execClean_leaves _ _ _ _ _ _ h
  | .flush _ _ _ _, h => execFlush_leaves _ _ _ _ _ _ h
  | .rehash _ _, h => execRehash_leaves _ _ _ _ h
  | .bankRead _ _ _, h => execBankRead_leaves _ _ _ _ _ h
  | .bankWrite _ _, h => execBankWrite_leaves _ _ _ _ h
  | .bankOwnerWrite _ _ _, h => execBankOwnerWrite_leaves _ _ _ _ _ h
  | .handoverComplete _, h => execHandoverComplete_leaves _ _ _ h
  | .bankPowerChangeDone _, h => execBankPowerChangeDone_leaves _ _ _ h
  | .porterVisit _, h => execPorterVisit_leaves _ _ _ h
  | .queuedRewrite _ _, h => execQueuedRewrite_leaves _ _ _ _ h
  | .sdramFill _ _, h => execSdramFill_leaves _ _ _ _ h
  | .generate _ _, h => execGenerate_leaves _ _ _ _ h
  | .setPlain _ _, h => execSetPlain_leaves _ _ _ _ h
  | .retire _ _, h => execRetire_leaves _ _ _ _ h
  | .sweep _ _, h => execSweep_leaves _ _ _ _ h
  | .frame _ _, h => execFrame_leaves _ _ _ _ h
  | .replayTimeout _, h => execReplayTimeout_leaves _ _ _ h
  | .lossOfSignal _ _ _, h => execLossOfSignal_leaves _ _ _ _ _ h
  | .mirrorData _, h => execMirrorData_leaves _ _ _ h
  | .check _, h => execCheck_leaves _ _ _ h
  | .resign _, h => execResign_leaves _ _ _ h
  | .takeover _, h => execTakeover_leaves _ _ _ h
  | .takeoverBoundary, h => execTakeoverBoundary_leaves _ _ h
  | .domainOff _, h => execDomainOff_leaves _ _ _ h
  | .shutdownPowerOff, h => execShutdownPowerOff_leaves _ _ h
  | .porstN _ _, h => execPorstN_leaves _ _ _ _ h
  | .deviceResetBegin, h => execDeviceResetBegin_leaves _ _ h
  | .fuseStep _, h => execFuseStep_leaves _ _ _ h
  | .journalStep _, h => execJournalStep_leaves _ _ _ h
  | .journalWriteComplete, h => execJournalWriteComplete_leaves _ _ h
  | .abort _, h => execAbort_leaves _ _ _ h
  | .csrWrite, h => execCsrWrite_leaves _ _ h
  | .lcAdvanced, h => execLcAdvanced_leaves _ _ h
  | .keyCmdComplete, h => execKeyCmdComplete_leaves _ _ h
  | .glitch, h => execGlitch_leaves _ _ h
  | .rngTestWindow _, h => execRngTestWindow_leaves _ _ _ h
  | .mbistStart _ _ _, h => execMbistStart_leaves _ _ _ _ _ h
  | .mbistComplete _ _ _, h => execMbistComplete_leaves _ _ _ _ _ h
  | .testAbort _ _, h => execTestAbort_leaves _ _ _ _ h
  | .burnComplete, h => execBurnComplete_leaves _ _ h
  | .dbgAccess _ _, h => execDbgAccess_leaves _ _ _ _ h
  | .debugEndpointAccess _, h => execDebugEndpointAccess_leaves _ _ _ h
  | .chal _, h => execChal_leaves _ _ _ h
  | .req _ _, h => execReq_leaves _ _ _ _ h
  | .close _, h => execClose_leaves _ _ _ h
  | .dbgInitGo _ _ _, h => execDbgInitGo_leaves _ _ _ _ _ h
  | .halt _ _, h => execHalt_leaves _ _ _ _ h
  | .force _ _, h => execForce_leaves _ _ _ _ h
  | .dbgRelease _ _, h => execDbgRelease_leaves _ _ _ _ h
  | .step _ _, h => execStep_leaves _ _ _ _ h
  | .thrDataRead _, h => execThrDataRead_leaves _ _ _ h
  | .thrDataWrite _ _, h => execThrDataWrite_leaves _ _ _ _ h
  | .dbgRegHalt _ _ _, h => execDbgRegHalt_leaves _ _ _ _ _ h
  | .dbgRegRel _ _ _, h => execDbgRegRel_leaves _ _ _ _ _ h
  | .dbgRegStep _ _ _, h => execDbgRegStep_leaves _ _ _ _ _ h
  | .sw _ _, h => execSw_leaves _ _ _ _ h
  | .traceEn _ _, h => execTraceEn_leaves _ _ _ _ h
  -- The other commands change none of it.
  | .rsFieldRead _ _, h => State.leaves_of_kept (execRsFieldRead_kept _ _ _ _ h)
  | .pairLoRead _ _, h => State.leaves_of_kept (execPairLoRead_kept _ _ _ _ h)
  | .pairHiRead _ _, h => State.leaves_of_kept (execPairHiRead_kept _ _ _ _ h)
  | .faceRefresh _ _ _ _, h => State.leaves_of_kept (execFaceRefresh_kept _ _ _ _ _ _ h)
  | .bramWindowAccess _, h => State.leaves_of_kept (execBramWindowAccess_kept _ _ _ h)
  | .clkNetCfgWrite _ _ _, h => State.leaves_of_kept (execClkNetCfgWrite_kept _ _ _ _ _ h)
  | .pllLocked _, h => State.leaves_of_kept (execPllLocked_kept _ _ _ h)
  | .pllLockLost _, h => State.leaves_of_kept (execPllLockLost_kept _ _ _ h)
  | .regionClkWrite _ _ _, h => State.leaves_of_kept (execRegionClkWrite_kept _ _ _ _ _ h)
  | .portPacketSend _ _ _ _, h => State.leaves_of_kept (execPortPacketSend_kept _ _ _ _ _ _ h)
  | .portResponseArrival _ _ _ _, h => State.leaves_of_kept (execPortResponseArrival_kept _ _ _ _ _ _ h)
  | .portInboundRequest _ _ _, h => State.leaves_of_kept (execPortInboundRequest_kept _ _ _ _ _ h)
  | .regionPortCfgWrite _ _ _ _, h => State.leaves_of_kept (execRegionPortCfgWrite_kept _ _ _ _ _ _ h)
  | .regionPortSlotsWrite _ _ _ _, h => State.leaves_of_kept (execRegionPortSlotsWrite_kept _ _ _ _ _ _ h)
  | .pinInputFlit _ _ _ _ _, h => State.leaves_of_kept (execPinInputFlit_kept _ _ _ _ _ _ _ h)
  | .pinOutputFlit _ _ _, h => State.leaves_of_kept (execPinOutputFlit_kept _ _ _ _ _ h)
  | .pinUnderrun _ _, h => State.leaves_of_kept (execPinUnderrun_kept _ _ _ _ h)
  | .flagChange _ _ _, h => State.leaves_of_kept (execFlagChange_kept _ _ _ _ _ h)
  | .eventDelivery _ _, h => State.leaves_of_kept (execEventDelivery_kept _ _ _ _ h)
  | .erase _ _ _, h => State.leaves_of_kept (execErase_kept _ _ _ _ _ h)
  | .powerUp _ _, h => State.leaves_of_kept (execPowerUp_kept _ _ _ _ h)
  | .powerOff _ _, h => State.leaves_of_kept (execPowerOff_kept _ _ _ _ h)
  | .fill _ _ _, h => State.leaves_of_kept (execFill_kept _ _ _ _ _ h)
  | .swap _ _ _, h => State.leaves_of_kept (execSwap_kept _ _ _ _ _ h)
  | .hold _ _, h => State.leaves_of_kept (execHold_kept _ _ _ _ h)
  | .release _ _, h => State.leaves_of_kept (execRelease_kept _ _ _ _ h)
  | .stop _ _, h => State.leaves_of_kept (execStop_kept _ _ _ _ h)
  | .isolate _, h => State.leaves_of_kept (execIsolate_kept _ _ _ h)
  | .unisolate _, h => State.leaves_of_kept (execUnisolate_kept _ _ _ h)
  | .clear _, h => State.leaves_of_kept (execClear_kept _ _ _ h)
  | .cancelFill _ _, h => State.leaves_of_kept (execCancelFill_kept _ _ _ _ h)
  | .ownerWrite _ _ _, h => State.leaves_of_kept (execOwnerWrite_kept _ _ _ _ _ h)
  | .regionCmdEffect _, h => State.leaves_of_kept (execRegionCmdEffect_kept _ _ _ h)
  | .seqCommandArrival, h => State.leaves_of_kept (execSeqCommandArrival_kept _ _ h)
  | .squash _ _ _, h => State.leaves_of_kept (execSquash_kept _ _ _ _ _ h)
  | .fillGrant, h => State.leaves_of_kept (execFillGrant_kept _ _ h)
  | .fillComplete _, h => State.leaves_of_kept (execFillComplete_kept _ _ _ h)
  | .decisionPoint _, h => State.leaves_of_kept (execDecisionPoint_kept _ _ _ h)
  | .clampCycle _, h => State.leaves_of_kept (execClampCycle_kept _ _ _ h)
  | .refetch _, h => State.leaves_of_kept (execRefetch_kept _ _ _ h)
  | .tickApply _, h => State.leaves_of_kept (execTickApply_kept _ _ _ h)
  | .tickEnWrite _ _, h => State.leaves_of_kept (execTickEnWrite_kept _ _ _ _ h)
  | .tickSrcWrite _ _, h => State.leaves_of_kept (execTickSrcWrite_kept _ _ _ _ h)
  | .slotBoundary, h => State.leaves_of_kept (execSlotBoundary_kept _ _ h)
  | .tickInEdge, h => State.leaves_of_kept (execTickInEdge_kept _ _ h)
  | .tickInLost, h => State.leaves_of_kept (execTickInLost_kept _ _ h)
  | .ovrClr _ _, h => State.leaves_of_kept (execOvrClr_kept _ _ _ _ h)
  | .start _ _, h => State.leaves_of_kept (execStart_kept _ _ _ _ h)
  | .threadStop _ _, h => State.leaves_of_kept (execThreadStop_kept _ _ _ _ h)
  | .restart _ _, h => State.leaves_of_kept (execRestart_kept _ _ _ _ h)
  | .clrFault _ _, h => State.leaves_of_kept (execClrFault_kept _ _ _ _ h)
  | .imemWrite _ _ _, h => State.leaves_of_kept (execImemWrite_kept _ _ _ _ _ h)
  | .branchResolve _ _, h => State.leaves_of_kept (execBranchResolve_kept _ _ _ _ h)
  | .lockAbortTimeout _, h => State.leaves_of_kept (execLockAbortTimeout_kept _ _ _ h)
  | .watchdogExpiry _, h => State.leaves_of_kept (execWatchdogExpiry_kept _ _ _ h)
  | .wdtEnWrite _ _ _, h => State.leaves_of_kept (execWdtEnWrite_kept _ _ _ _ _ h)
  | .nop _, h => State.leaves_of_kept (execNop_kept _ _ _ h)
  | .add _, h => State.leaves_of_kept (execAdd_kept _ _ _ h)
  | .sub _, h => State.leaves_of_kept (execSub_kept _ _ _ h)
  | .and _, h => State.leaves_of_kept (execAnd_kept _ _ _ h)
  | .or _, h => State.leaves_of_kept (execOr_kept _ _ _ h)
  | .xor _, h => State.leaves_of_kept (execXor_kept _ _ _ h)
  | .sll _, h => State.leaves_of_kept (execSll_kept _ _ _ h)
  | .srl _, h => State.leaves_of_kept (execSrl_kept _ _ _ h)
  | .sra _, h => State.leaves_of_kept (execSra_kept _ _ _ h)
  | .mul _, h => State.leaves_of_kept (execMul_kept _ _ _ h)
  | .slt _, h => State.leaves_of_kept (execSlt_kept _ _ _ h)
  | .sltu _, h => State.leaves_of_kept (execSltu_kept _ _ _ h)
  | .seq _, h => State.leaves_of_kept (execSeq_kept _ _ _ h)
  | .min _, h => State.leaves_of_kept (execMin_kept _ _ _ h)
  | .max _, h => State.leaves_of_kept (execMax_kept _ _ _ h)
  | .minu _, h => State.leaves_of_kept (execMinu_kept _ _ _ h)
  | .maxu _, h => State.leaves_of_kept (execMaxu_kept _ _ _ h)
  | .addi _, h => State.leaves_of_kept (execAddi_kept _ _ _ h)
  | .subi _, h => State.leaves_of_kept (execSubi_kept _ _ _ h)
  | .andi _, h => State.leaves_of_kept (execAndi_kept _ _ _ h)
  | .ori _, h => State.leaves_of_kept (execOri_kept _ _ _ h)
  | .xori _, h => State.leaves_of_kept (execXori_kept _ _ _ h)
  | .slli _, h => State.leaves_of_kept (execSlli_kept _ _ _ h)
  | .srli _, h => State.leaves_of_kept (execSrli_kept _ _ _ h)
  | .srai _, h => State.leaves_of_kept (execSrai_kept _ _ _ h)
  | .muli _, h => State.leaves_of_kept (execMuli_kept _ _ _ h)
  | .slti _, h => State.leaves_of_kept (execSlti_kept _ _ _ h)
  | .sltui _, h => State.leaves_of_kept (execSltui_kept _ _ _ h)
  | .seqi _, h => State.leaves_of_kept (execSeqi_kept _ _ _ h)
  | .mini _, h => State.leaves_of_kept (execMini_kept _ _ _ h)
  | .maxi _, h => State.leaves_of_kept (execMaxi_kept _ _ _ h)
  | .minui _, h => State.leaves_of_kept (execMinui_kept _ _ _ h)
  | .maxui _, h => State.leaves_of_kept (execMaxui_kept _ _ _ h)
  | .li _, h => State.leaves_of_kept (execLi_kept _ _ _ h)
  | .lih _, h => State.leaves_of_kept (execLih_kept _ _ _ h)
  | .popc _, h => State.leaves_of_kept (execPopc_kept _ _ _ h)
  | .clz _, h => State.leaves_of_kept (execClz_kept _ _ _ h)
  | .ctz _, h => State.leaves_of_kept (execCtz_kept _ _ _ h)
  | .beq _, h => State.leaves_of_kept (execBeq_kept _ _ _ h)
  | .bne _, h => State.leaves_of_kept (execBne_kept _ _ _ h)
  | .blt _, h => State.leaves_of_kept (execBlt_kept _ _ _ h)
  | .bge _, h => State.leaves_of_kept (execBge_kept _ _ _ h)
  | .bltu _, h => State.leaves_of_kept (execBltu_kept _ _ _ h)
  | .bgeu _, h => State.leaves_of_kept (execBgeu_kept _ _ _ h)
  | .bfs _, h => State.leaves_of_kept (execBfs_kept _ _ _ h)
  | .bfc _, h => State.leaves_of_kept (execBfc_kept _ _ _ h)
  | .jal _, h => State.leaves_of_kept (execJal_kept _ _ _ h)
  | .jalr _, h => State.leaves_of_kept (execJalr_kept _ _ _ h)
  | .wtick _, h => State.leaves_of_kept (execWtick_kept _ _ _ h)
  | .wslot _, h => State.leaves_of_kept (execWslot_kept _ _ _ h)
  | .wflag _, h => State.leaves_of_kept (execWflag_kept _ _ _ h)
  | .wshad _, h => State.leaves_of_kept (execWshad_kept _ _ _ h)
  | .delay _, h => State.leaves_of_kept (execDelay_kept _ _ _ h)
  | .waitConditionMet _, h => State.leaves_of_kept (execWaitConditionMet_kept _ _ _ h)
  | .wflagTimeout _, h => State.leaves_of_kept (execWflagTimeout_kept _ _ _ h)
  | .ld _ _, h => State.leaves_of_kept (execLd_kept _ _ _ _ h)
  | .ldt _ _, h => State.leaves_of_kept (execLdt_kept _ _ _ _ h)
  | .st _, h => State.leaves_of_kept (execSt_kept _ _ _ h)
  | .stp _, h => State.leaves_of_kept (execStp_kept _ _ _ h)
  | .stt _, h => State.leaves_of_kept (execStt_kept _ _ _ h)
  | .answerArrival _ _ _, h => State.leaves_of_kept (execAnswerArrival_kept _ _ _ _ _ h)
  | .postedAnswer _ _ _, h => State.leaves_of_kept (execPostedAnswer_kept _ _ _ _ _ h)
  | .pre _ _, h => State.leaves_of_kept (execPre_kept _ _ _ _ h)
  | .fillInsn _, h => State.leaves_of_kept (execFillInsn_kept _ _ _ h)
  | .swapInsn _, h => State.leaves_of_kept (execSwapInsn_kept _ _ _ h)
  | .stopInsn _, h => State.leaves_of_kept (execStopInsn_kept _ _ _ h)
  | .rcmdHold _, h => State.leaves_of_kept (execRcmdHold_kept _ _ _ h)
  | .rcmdRelease _, h => State.leaves_of_kept (execRcmdRelease_kept _ _ _ h)
  | .rcmdCancelFill _, h => State.leaves_of_kept (execRcmdCancelFill_kept _ _ _ h)
  | .cstart _, h => State.leaves_of_kept (execCstart_kept _ _ _ h)
  | .cwait _, h => State.leaves_of_kept (execCwait_kept _ _ _ h)
  | .evt _, h => State.leaves_of_kept (execEvt_kept _ _ _ h)
  | .evtm _, h => State.leaves_of_kept (execEvtm_kept _ _ _ h)
  | .bar _, h => State.leaves_of_kept (execBar_kept _ _ _ h)
  | .barTimeout _, h => State.leaves_of_kept (execBarTimeout_kept _ _ _ h)
  | .lock _, h => State.leaves_of_kept (execLock_kept _ _ _ h)
  | .unlock _, h => State.leaves_of_kept (execUnlock_kept _ _ _ h)
  | .mirrThread _, h => State.leaves_of_kept (execMirrThread_kept _ _ _ h)
  | .mirrRegion _, h => State.leaves_of_kept (execMirrRegion_kept _ _ _ h)
  | .mirrBank _, h => State.leaves_of_kept (execMirrBank_kept _ _ _ h)
  | .snap _, h => State.leaves_of_kept (execSnap_kept _ _ _ h)
  | .emit _, h => State.leaves_of_kept (execEmit_kept _ _ _ h)
  | .pwrOn _, h => State.leaves_of_kept (execPwrOn_kept _ _ _ h)
  | .pwrOff _, h => State.leaves_of_kept (execPwrOff_kept _ _ _ h)
  | .kick _, h => State.leaves_of_kept (execKick_kept _ _ _ h)
  | .exit _, h => State.leaves_of_kept (execExit_kept _ _ _ h)
  | .imageStart, h => State.leaves_of_kept (execImageStart_kept _ _ h)
  | .patrolStoredVisit, h => State.leaves_of_kept (execPatrolStoredVisit_kept _ _ h)
  | .patrolActiveVisit, h => State.leaves_of_kept (execPatrolActiveVisit_kept _ _ h)
  | .patrolCheck, h => State.leaves_of_kept (execPatrolCheck_kept _ _ h)
  | .refetchCopyReady _, h => State.leaves_of_kept (execRefetchCopyReady_kept _ _ _ h)
  | .patrolPassEnd, h => State.leaves_of_kept (execPatrolPassEnd_kept _ _ h)
  | .patrolEnWrite _ _, h => State.leaves_of_kept (execPatrolEnWrite_kept _ _ _ _ h)
  | .requestIngress _ _ _, h => State.leaves_of_kept (execRequestIngress_kept _ _ _ _ _ h)
  | .packetHop _ _ _ _, h => State.leaves_of_kept (execPacketHop_kept _ _ _ _ _ _ h)
  | .creditReturn _ _ _, h => State.leaves_of_kept (execCreditReturn_kept _ _ _ _ _ h)
  | .responseArrival _ _ _, h => State.leaves_of_kept (execResponseArrival_kept _ _ _ _ _ h)
  | .initiatorTimeout _ _, h => State.leaves_of_kept (execInitiatorTimeout_kept _ _ _ _ h)
  | .tagRelease _ _, h => State.leaves_of_kept (execTagRelease_kept _ _ _ _ h)
  | .targetTimeout _ _ _ _, h => State.leaves_of_kept (execTargetTimeout_kept _ _ _ _ _ _ h)
  | .portReadmit _ _ _, h => State.leaves_of_kept (execPortReadmit_kept _ _ _ _ _ h)
  | .epochFlip _ _, h => State.leaves_of_kept (execEpochFlip_kept _ _ _ _ h)
  | .epochSet _, h => State.leaves_of_kept (execEpochSet_kept _ _ _ h)
  | .epochMark _ _ _, h => State.leaves_of_kept (execEpochMark_kept _ _ _ _ _ h)
  | .drainComplete, h => State.leaves_of_kept (execDrainComplete_kept _ _ h)
  | .epochStuck, h => State.leaves_of_kept (execEpochStuck_kept _ _ h)
  | .routeTableWrite _ _ _ _ _, h => State.leaves_of_kept (execRouteTableWrite_kept _ _ _ _ _ _ _ h)
  | .pointOfNoReturn _, h => State.leaves_of_kept (execPointOfNoReturn_kept _ _ _ h)
  | .wake _, h => State.leaves_of_kept (execWake_kept _ _ _ h)
  | .courierGo _ _, h => State.leaves_of_kept (execCourierGo_kept _ _ _ _ h)
  | .courierStartRequest _ _, h => State.leaves_of_kept (execCourierStartRequest_kept _ _ _ _ h)
  | .courierAbort _ _, h => State.leaves_of_kept (execCourierAbort_kept _ _ _ _ h)
  | .courierReadAnswer _ _ _, h => State.leaves_of_kept (execCourierReadAnswer_kept _ _ _ _ _ h)
  | .courierWriteAnswer _ _ _, h => State.leaves_of_kept (execCourierWriteAnswer_kept _ _ _ _ _ h)
  | .writebackRetry _, h => State.leaves_of_kept (execWritebackRetry_kept _ _ _ h)
  | .rehashHold, h => State.leaves_of_kept (execRehashHold_kept _ _ h)
  | .rehashSwitch, h => State.leaves_of_kept (execRehashSwitch_kept _ _ h)
  | .larderOpComplete, h => State.leaves_of_kept (execLarderOpComplete_kept _ _ h)
  | .imbalanceWindow, h => State.leaves_of_kept (execImbalanceWindow_kept _ _ h)
  | .bankCfgWrite _ _ _, h => State.leaves_of_kept (execBankCfgWrite_kept _ _ _ _ _ h)
  | .bankWinWrite _ _ _ _, h => State.leaves_of_kept (execBankWinWrite_kept _ _ _ _ _ _ h)
  | .bankPowerRequest _ _ _, h => State.leaves_of_kept (execBankPowerRequest_kept _ _ _ _ _ h)
  | .porterPassEnd _, h => State.leaves_of_kept (execPorterPassEnd_kept _ _ _ h)
  | .porterEnWrite _ _ _, h => State.leaves_of_kept (execPorterEnWrite_kept _ _ _ _ _ h)
  | .flipArm _ _ _, h => State.leaves_of_kept (execFlipArm_kept _ _ _ _ _ h)
  | .sdCfgWrite _ _, h => State.leaves_of_kept (execSdCfgWrite_kept _ _ _ _ h)
  | .bringUp _ _, h => State.leaves_of_kept (execBringUp_kept _ _ _ _ h)
  | .trainingComplete _ _, h => State.leaves_of_kept (execTrainingComplete_kept _ _ _ _ h)
  | .initComplete _ _, h => State.leaves_of_kept (execInitComplete_kept _ _ _ _ h)
  | .srEnter _ _, h => State.leaves_of_kept (execSrEnter_kept _ _ _ _ h)
  | .srExit _ _, h => State.leaves_of_kept (execSrExit_kept _ _ _ _ h)
  | .channelOff _ _, h => State.leaves_of_kept (execChannelOff_kept _ _ _ _ h)
  | .sdramWriteback _, h => State.leaves_of_kept (execSdramWriteback_kept _ _ _ h)
  | .keyGenerated, h => State.leaves_of_kept (execKeyGenerated_kept _ _ h)
  | .retireComplete, h => State.leaves_of_kept (execRetireComplete_kept _ _ h)
  | .sweepComplete, h => State.leaves_of_kept (execSweepComplete_kept _ _ h)
  | .mkeyWinWrite _ _ _ _, h => State.leaves_of_kept (execMkeyWinWrite_kept _ _ _ _ _ _ h)
  | .sdramRefresh _, h => State.leaves_of_kept (execSdramRefresh_kept _ _ _ h)
  | .mr4Poll _ _, h => State.leaves_of_kept (execMr4Poll_kept _ _ _ _ h)
  | .strobeRetune c, h => State.leaves_of_kept (execStrobeRetune_kept c _ _ h)
  | .scrubLine _, h => State.leaves_of_kept (execScrubLine_kept _ _ _ h)
  | .sdAlert _, h => State.leaves_of_kept (execSdAlert_kept _ _ _ h)
  | .linkCtlWrite _ _ _, h => State.leaves_of_kept (execLinkCtlWrite_kept _ _ _ _ _ h)
  | .retrain _ _, h => State.leaves_of_kept (execRetrain_kept _ _ _ _ h)
  | .ts1 _ _ _ _, h => State.leaves_of_kept (execTs1_kept _ _ _ _ _ _ h)
  | .ts2 _ _ _, h => State.leaves_of_kept (execTs2_kept _ _ _ _ _ h)
  | .trainTimeout _, h => State.leaves_of_kept (execTrainTimeout_kept _ _ _ h)
  | .tickMarker _ _ _ _, h => State.leaves_of_kept (execTickMarker_kept _ _ _ _ _ _ h)
  | .rawFlitIn _ _, h => State.leaves_of_kept (execRawFlitIn_kept _ _ _ _ h)
  | .rawFlitOut _ _, h => State.leaves_of_kept (execRawFlitOut_kept _ _ _ _ h)
  | .twinCfgWrite _ _, h => State.leaves_of_kept (execTwinCfgWrite_kept _ _ _ _ h)
  | .join _, h => State.leaves_of_kept (execJoin_kept _ _ _ h)
  | .mirrorEnd _, h => State.leaves_of_kept (execMirrorEnd_kept _ _ _ h)
  | .mirrorSendComplete, h => State.leaves_of_kept (execMirrorSendComplete_kept _ _ h)
  | .barArrive _, h => State.leaves_of_kept (execBarArrive_kept _ _ _ h)
  | .barRelease _, h => State.leaves_of_kept (execBarRelease_kept _ _ _ h)
  | .reset _ _, h => State.leaves_of_kept (execReset_kept _ _ _ _ h)
  | .resignCmd _, h => State.leaves_of_kept (execResignCmd_kept _ _ _ h)
  | .rejoin _, h => State.leaves_of_kept (execRejoin_kept _ _ _ h)
  | .snapReq _ _, h => State.leaves_of_kept (execSnapReq_kept _ _ _ _ h)
  | .snapshotComplete, h => State.leaves_of_kept (execSnapshotComplete_kept _ _ h)
  | .gresetGo _, h => State.leaves_of_kept (execGresetGo_kept _ _ _ h)
  | .gbarCfgWrite _ _ _, h => State.leaves_of_kept (execGbarCfgWrite_kept _ _ _ _ _ h)
  | .snoopCtlWrite _ _ _ _, h => State.leaves_of_kept (execSnoopCtlWrite_kept _ _ _ _ _ _ h)
  | .snoopPacket _, h => State.leaves_of_kept (execSnoopPacket_kept _ _ _ h)
  | .snoopFifoPop _ _, h => State.leaves_of_kept (execSnoopFifoPop_kept _ _ _ _ h)
  | .powerRequest _ _ _, h => State.leaves_of_kept (execPowerRequest_kept _ _ _ _ _ h)
  | .domainOn _, h => State.leaves_of_kept (execDomainOn_kept _ _ _ h)
  | .monitorInterval _ _, h => State.leaves_of_kept (execMonitorInterval_kept _ _ _ _ h)
  | .hkRound _, h => State.leaves_of_kept (execHkRound_kept _ _ _ h)
  | .modelStep, h => State.leaves_of_kept (execModelStep_kept _ _ h)
  | .graceEnd, h => State.leaves_of_kept (execGraceEnd_kept _ _ h)
  | .clockStepRise, h => State.leaves_of_kept (execClockStepRise_kept _ _ h)
  | .dwellEnd, h => State.leaves_of_kept (execDwellEnd_kept _ _ h)
  | .releaseHold _, h => State.leaves_of_kept (execReleaseHold_kept _ _ _ h)
  | .sensorReadmit _ _ _, h => State.leaves_of_kept (execSensorReadmit_kept _ _ _ _ _ h)
  | .notifyAnswer _ _, h => State.leaves_of_kept (execNotifyAnswer_kept _ _ _ _ h)
  | .resetN _, h => State.leaves_of_kept (execResetN_kept _ _ _ h)
  | .dieReset _ _, h => State.leaves_of_kept (execDieReset_kept _ _ _ _ h)
  | .housekeepingStep, h => State.leaves_of_kept (execHousekeepingStep_kept _ _ h)
  | .repairLoad _, h => State.leaves_of_kept (execRepairLoad_kept _ _ _ h)
  | .bistStep _, h => State.leaves_of_kept (execBistStep_kept _ _ _ h)
  | .imageStep _, h => State.leaves_of_kept (execImageStep_kept _ _ _ h)
  | .alertClear _, h => State.leaves_of_kept (execAlertClear_kept _ _ _ h)
  | .readStatus _, h => State.leaves_of_kept (execReadStatus_kept _ _ _ h)
  | .command _, h => State.leaves_of_kept (execCommand_kept _ _ _ h)
  | .dataIn _, h => State.leaves_of_kept (execDataIn_kept _ _ _ h)
  | .dataOut _ _, h => State.leaves_of_kept (execDataOut_kept _ _ _ _ h)
  | .loadImage, h => State.leaves_of_kept (execLoadImage_kept _ _ h)
  | .csrRead, h => State.leaves_of_kept (execCsrRead_kept _ _ h)
  | .jnlRead, h => State.leaves_of_kept (execJnlRead_kept _ _ h)
  | .jnlWrite, h => State.leaves_of_kept (execJnlWrite_kept _ _ h)
  | .cntInc, h => State.leaves_of_kept (execCntInc_kept _ _ h)
  | .settingsSet, h => State.leaves_of_kept (execSettingsSet_kept _ _ h)
  | .mapoutClear, h => State.leaves_of_kept (execMapoutClear_kept _ _ h)
  | .gbRead, h => State.leaves_of_kept (execGbRead_kept _ _ h)
  | .gbUnfreeze, h => State.leaves_of_kept (execGbUnfreeze_kept _ _ h)
  | .alertAck, h => State.leaves_of_kept (execAlertAck_kept _ _ h)
  | .deviceReset, h => State.leaves_of_kept (execDeviceReset_kept _ _ h)
  | .bootRetry, h => State.leaves_of_kept (execBootRetry_kept _ _ h)
  | .itinRead, h => State.leaves_of_kept (execItinRead_kept _ _ h)
  | .lcAdvance _ _, h => State.leaves_of_kept (execLcAdvance_kept _ _ _ _ h)
  | .loadPlain _ _ _, h => State.leaves_of_kept (execLoadPlain_kept _ _ _ _ _ h)
  | .loadWrapped _ _ _, h => State.leaves_of_kept (execLoadWrapped_kept _ _ _ _ _ h)
  | .revoke _ _ _, h => State.leaves_of_kept (execRevoke_kept _ _ _ _ _ h)
  | .debugKeySet _ _ _, h => State.leaves_of_kept (execDebugKeySet_kept _ _ _ _ _ h)
  | .alarmCfgWrite _ _ _, h => State.leaves_of_kept (execAlarmCfgWrite_kept _ _ _ _ _ h)
  | .drbgReseed, h => State.leaves_of_kept (execDrbgReseed_kept _ _ h)
  | .rngOutRead _, h => State.leaves_of_kept (execRngOutRead_kept _ _ _ h)
  | .challengeBlockEnd, h => State.leaves_of_kept (execChallengeBlockEnd_kept _ _ h)
  | .failInfoPop _ _, h => State.leaves_of_kept (execFailInfoPop_kept _ _ _ _ h)
  | .burn _, h => State.leaves_of_kept (execBurn_kept _ _ _ h)
  | .stackTestRequest _ _, h => State.leaves_of_kept (execStackTestRequest_kept _ _ _ _ h)
  | .lbistGo _ _, h => State.leaves_of_kept (execLbistGo_kept _ _ _ _ h)
  | .lbistComplete _, h => State.leaves_of_kept (execLbistComplete_kept _ _ _ h)
  | .idcode, h => State.leaves_of_kept (execIdcode_kept _ _ h)
  | .samplePreload _ _ _, h => State.leaves_of_kept (execSamplePreload_kept _ _ _ _ _ h)
  | .extest _, h => State.leaves_of_kept (execExtest_kept _ _ _ h)
  | .highz, h => State.leaves_of_kept (execHighz_kept _ _ h)
  | .clampInstr, h => State.leaves_of_kept (execClampInstr_kept _ _ h)
  | .dbg, h => State.leaves_of_kept (execDbg_kept _ _ h)
  | .scan, h => State.leaves_of_kept (execScan_kept _ _ h)
  | .bypass _, h => State.leaves_of_kept (execBypass_kept _ _ _ h)
  | .dbgInitAnswer _ _, h => State.leaves_of_kept (execDbgInitAnswer_kept _ _ _ _ h)
  | .haltPendingLocked _, h => State.leaves_of_kept (execHaltPendingLocked_kept _ _ _ h)
  | .regionStepEnd, h => State.leaves_of_kept (execRegionStepEnd_kept _ _ h)
  | .stimWrite _, h => State.leaves_of_kept (execStimWrite_kept _ _ _ h)
  | .traceWriteAnswer _ _, h => State.leaves_of_kept (execTraceWriteAnswer_kept _ _ _ _ h)
  | .rawLaneLock _ _, h => State.leaves_of_kept (execRawLaneLock_kept _ _ _ _ h)
  | .scrubPassEnd, h => State.leaves_of_kept (execScrubPassEnd_kept _ _ h)
  | .channelSweepEnd _, h => State.leaves_of_kept (execChannelSweepEnd_kept _ _ _ h)

/-- The queue is left as it was. -/
theorem State.leaves_pending {s t : State} (h : s.leaves t.kept) : t.pending = s.pending := h.1

theorem State.leaves_fuses_eq {s t : State} (h : s.leaves t.kept) : t.fuses = s.fuses := h.2.1

theorem State.leaves_burnedMore {s t : State} (h : s.leaves t.kept) : burnedMore s.lcFuses t.lcFuses := by
  obtain ⟨-, -, ⟨⟨hrow1, hrow2, hrow3, hlc⟩, hcap, hkilled, hkek, hepoch, -, hrepairs, -⟩, -⟩ := h
  exact ⟨hrow1, hrow2, hrow3, hlc, hepoch, hcap, hkilled, hkek, hrepairs⟩

/-- The rows stand for a state of R437, whatever is burned in them. -/
theorem SecFuses.lc_le (f : SecFuses) : f.lc ≤ 5 := by
  unfold SecFuses.lc
  cases hlc : lcOf f.lcRows with
  | none => exact Nat.zero_le 5
  | some k => exact Nat.le_of_lt_succ (List.mem_range.1 (List.mem_of_find?_eq_some hlc))

theorem State.inv_iff {s : State} : s.inv = true ↔
    storeWf 0 s.spad = true ∧ storeWf none s.bram = true ∧ storeWf Frame.erased s.planes = true ∧
      s.lcFuses.epoch ≤ 15 ∧ s.lcFuses.repairs.length ≤ 512 := by
  simp only [State.inv, Memory.wf, fusesOk, Bool.and_eq_true, decide_eq_true_eq, s.lcFuses.lc_le, true_and, and_assoc]

theorem State.inv_of_leaves {s t : State} (h : s.leaves t.kept) (hs : s.inv = true) : t.inv = true := by
  obtain ⟨-, -, ⟨-, -, -, -, -, hepoch, -, hrepairs, -⟩, hspad, hbram, hplanes⟩ := h
  obtain ⟨ispad, ibram, iplanes, iepoch, irepairs⟩ := State.inv_iff.1 hs
  exact State.inv_iff.2 ⟨hspad ispad, hbram ibram, hplanes iplanes, hepoch iepoch, hrepairs irepairs⟩

/-- The state in which a step acts: the command at the front of the queue, if one waits, is taken from it. -/
def State.taken (s : State) : State := { s with pending := s.pending.tail }

theorem State.taken_of_waiting {s : State} {c : Instr} {rest : List Instr} (hp : s.pending = c :: rest) : s.taken = { s with pending := rest } := by
  rw [State.taken, hp, List.tail_cons]

theorem State.taken_of_none {s : State} (hp : s.pending = []) : s.taken = s := by
  rw [State.taken, hp, List.tail_nil, ← hp]

theorem step_of_waiting {s : State} {c : Instr} {rest : List Instr} (hp : s.pending = c :: rest) : step s = exec c s.taken := by
  rw [step, hp, State.taken_of_waiting hp]

theorem step_of_none {s : State} (hp : s.pending = []) : step s = .next s.idle := by
  rw [step, hp]

/-- A step leaves the queue without its front, and the rest of the state as its command or an idle cycle does. -/
theorem step_leaves {s t : State} (h : step s = .next t) : s.taken.leaves t.kept := by
  cases hp : s.pending with
  | nil =>
    rw [step_of_none hp] at h
    cases h
    exact State.idle_leaves s ((State.taken_of_none hp).symm ▸ State.leaves_refl s)
  | cons c rest => exact exec_leaves c (step_of_waiting hp ▸ h)

end Sys2Proof.Machine
end

section
/-! PROOF. What every step keeps (00_scope.md; 17_security_debug.md, R437 to R464). -/

namespace Sys2Proof.Machine

theorem step_keeps_inv {s t : State} (hs : s.inv = true) (h : step s = .next t) : t.inv = true :=
  State.inv_of_leaves (s := s.taken) (step_leaves h) hs

/-- While a command that an agent can give waits, a step answers a next state, in which the rest of the queue waits. -/
theorem step_completes {s : State} {c : Instr} {rest : List Instr} (hp : s.pending = c :: rest) (hc : c.wellFormed = true) :
    ∃ t, step s = .next t ∧ t.pending = rest := by
  obtain ⟨t, ht⟩ := Ends.next_of_completes (hc ▸ exec_ends (s := s.taken) c)
  have hrest : t.pending = s.taken.pending := State.leaves_pending (exec_leaves c ht)
  exact ⟨t, (step_of_waiting hp).trans ht, by rw [hrest, State.taken_of_waiting hp]⟩

theorem State.queueOk_cons {s : State} {c : Instr} {rest : List Instr} (hp : s.pending = c :: rest) :
    s.queueOk = true ↔ c.wellFormed = true ∧ rest.all Instr.wellFormed = true := by
  rw [State.queueOk, hp, List.all_cons, Bool.and_eq_true]

theorem run_succ_of_next {M : Host.Core} {s t : M.State} {k : Nat} (h : M.step s = .next t) : M.run (k + 1) s = M.run k t := by
  rw [Host.Core.run, h]

/-- k steps take the first k waiting commands. -/
theorem run_drains (k : Nat) (s : State) (hq : s.queueOk = true) (hk : k ≤ s.pending.length) :
    ∃ t : State, Host.Core.run Sys2Proof.core k s = .next t ∧ t.pending = s.pending.drop k ∧ (s.inv = true → t.inv = true) := by
  induction k generalizing s with
  | zero => exact ⟨s, rfl, rfl, id⟩
  | succ k ih =>
    cases hp : s.pending with
    | nil => exact absurd hk (by rw [hp]; exact Nat.not_succ_le_zero k)
    | cons c rest =>
      obtain ⟨hc, hrest⟩ := (State.queueOk_cons hp).1 hq
      obtain ⟨u, hstep, hu⟩ := step_completes hp hc
      obtain ⟨t, hrun, ht, hinv⟩ := ih u (by rw [State.queueOk, hu, hrest])
        (by rw [hp] at hk; exact hu ▸ Nat.le_of_succ_le_succ hk)
      exact ⟨t, (run_succ_of_next (M := Sys2Proof.core) hstep).trans hrun, hu ▸ ht, fun hs => hinv (step_keeps_inv hs hstep)⟩

end Sys2Proof.Machine

namespace Sys2Proof.Proofs

open Sys2Proof.Machine

/-- Settles O48: a step leaves what its command leaves (`step_leaves`), of which the invariant speaks. -/
theorem stepKeepsInvariant : Obligations.StepKeepsInvariant := by
  unfold Obligations.StepKeepsInvariant
  intro s t hs h
  exact step_keeps_inv hs h

/-- Settles O49, by induction on the number of steps. -/
theorem waitingCommandsDrain : Obligations.WaitingCommandsDrain := by
  unfold Obligations.WaitingCommandsDrain
  exact run_drains

/-- Settles O51: every command only burns (`exec_leaves`), and so does a step. -/
theorem commandsBurnFusesOnly : Obligations.CommandsBurnFusesOnly := by
  unfold Obligations.CommandsBurnFusesOnly
  refine ⟨?command, ?step⟩
  case command =>
    intro c s t h
    have hl := exec_leaves c h
    exact ⟨State.leaves_pending hl, State.leaves_fuses_eq hl, State.leaves_burnedMore hl⟩
  case step =>
    intro s t h
    have hl : s.taken.leaves t.kept := step_leaves h
    have hburned : burnedMore s.taken.lcFuses t.lcFuses := State.leaves_burnedMore hl
    have hbins : t.fuses = s.taken.fuses := State.leaves_fuses_eq hl
    exact ⟨hburned, hbins⟩

/-- Settles O47: nothing is stored, burned or waiting after reset. -/
theorem resetMeetsInvariant : Obligations.ResetMeetsInvariant := by
  unfold Obligations.ResetMeetsInvariant
  refine ⟨?inv, ?queue, ?pending⟩
  case inv => exact State.inv_iff.2 ⟨rfl, rfl, rfl, Nat.zero_le 15, Nat.zero_le 512⟩
  case queue => rfl
  case pending => rfl

end Sys2Proof.Proofs
end

section
/-! PROOF. SDRAM channels (11_sdram_encryption.md, R306 to R310, R325, R328). -/

namespace Sys2Proof.Machine

variable {s u z : State} {ini : Ini} {v : BitVec 32} {c : Nat}

/-! ## Configuration (R306, R307) -/

theorem wrSdCfg_usable (hu : u = s.w1cOnly .SD_CFG v) (hz : z = u.storeReg .SD_CFG v)
    (hoff : (List.range 12).all (fun c => u.chState c == .off) = true)
    (hpop : z.populated.length = 1 ∨ z.populated.length = 2 ∨ z.populated.length = 3 ∨ z.populated.length = 4 ∨
      z.populated.length = 6 ∨ z.populated.length = 12)
    (hranks : (if z.is1 R.SD_CFG_TWO_MOD then (z.ranks == 2 || z.ranks == 4) && decide (z.rd R.SD_CFG_RATE ≤ 2)
      else (z.ranks == 1 || z.ranks == 2)) = true) :
    wrSdCfg s v = z := by
  have hlisted : (z.populated.length == 1 || z.populated.length == 2 || z.populated.length == 3 || z.populated.length == 4 ||
      z.populated.length == 6 || z.populated.length == 12) = true := by
    simpa only [Bool.or_eq_true, beq_iff_eq, or_assoc] using hpop
  subst hu hz
  simp only [wrSdCfg, hoff, hlisted, hranks, Bool.and_self, if_true]

/-! ## Commands to a channel (R308, R310) -/

theorem State.chCommand_bringUp (hp : s.bit R.SD_CFG_POP c = true) (hs : s.chState c = .off ∨ s.chState c = .failed) :
    s.chCommand c 1 = (s.wr (R.SD_CH_STAT_TRAIN_STEP c) 0).setChState c .training := by
  obtain hs | hs := hs
  · simp only [State.chCommand, hp, hs, Bool.not_true, Bool.false_eq_true, if_false]
  · simp only [State.chCommand, hp, hs, Bool.not_true, Bool.false_eq_true, if_false]

theorem State.chCommand_srEnter (hp : s.bit R.SD_CFG_POP c = true) (hs : s.chState c = .ready) (hw : s.sweeping c = false) :
    s.chCommand c 2 = s.setChState c .selfRefresh := by
  simp only [State.chCommand, hp, hs, hw, Bool.not_true, Bool.false_eq_true, if_false]

theorem State.chCommand_srExit (hp : s.bit R.SD_CFG_POP c = true) (hs : s.chState c = .selfRefresh) :
    s.chCommand c 3 = s.setChState c .ready := by
  simp only [State.chCommand, hp, hs, Bool.not_true, Bool.false_eq_true, if_false]

theorem State.chCommand_off (hp : s.bit R.SD_CFG_POP c = true) : s.chCommand c 4 = (s.dropSweep c).setChState c .off := by
  simp only [State.chCommand, hp, Bool.not_true, Bool.false_eq_true, if_false]

/-- A command to a channel at an endpoint that turns nothing away. -/
theorem State.chWrite_ok {cmd : Nat} (ht : s.turnedAway (R.SD_CH_CTL_CMD c).off = none) (hc : s.quiet.chCommand c cmd = u) :
    s.quiet.written ini (R.SD_CH_CTL_CMD c).off (fun s => s.chCommand c cmd) = u.okWrite ini := by
  rw [State.written_ok ht, hc]

/-! ## Bring-up (R309) -/

variable {k : Fin 12}

theorem exec_trainingComplete_ok (hs : s.chState k.val = .training) :
    exec (.trainingComplete k none) s = .next (s.quiet.setChState k.val .init) :=
  if_neg (not_not_intro hs)

theorem exec_trainingComplete_failed {step : Fin 5} (hs : s.chState k.val = .training) :
    exec (.trainingComplete k (some step)) s = .next (s.quiet.chFail k.val (step.val + 1)) :=
  if_neg (not_not_intro hs)

theorem exec_initComplete_ok (hs : s.chState k.val = .init) :
    exec (.initComplete k true) s = .next ((s.quiet.voidChannel k.val).setChState k.val .ready) :=
  if_neg (not_not_intro hs)

/-! ## Refresh and polls (R325) -/

theorem exec_sdramRefresh_ready (hs : s.chState k.val = .ready) : exec (.sdramRefresh k) s = .next (s.quiet.emit (.sdRefresh k.val)) :=
  if_pos hs

theorem exec_mr4Poll_ready {doubled : Bool} (hs : s.chState k.val = .ready) :
    exec (.mr4Poll k doubled) s = .next (s.quiet.wrb (R.SD_CH_STAT_REFRESH_X2 k.val) doubled) :=
  if_pos hs

end Sys2Proof.Machine

namespace Sys2Proof.Proofs

open Sys2Proof.Machine

/-- Settles O26: a command to a channel by the channel's state, the others by the state that they ask for. -/
theorem sdramChannels : Obligations.SdramChannels := by
  unfold Obligations.SdramChannels
  refine ⟨?config, ?bringUp, ?trained, ?untrained, ?filled, ?srEnter, ?srExit, ?off, ?refresh, ?poll, ?retune, ?alert⟩
  case config =>
    intro ini v s u z hu hz hoff hpop hranks ht
    exact congrArg _ ((State.written_ok ht).trans (congrArg (·.okWrite ini) (wrSdCfg_usable (s := s.quiet) hu hz hoff hpop hranks)))
  case bringUp =>
    intro ini c s hp hs ht
    exact congrArg _ (State.chWrite_ok ht (State.chCommand_bringUp (s := s.quiet) hp hs))
  case trained =>
    intro c s hs
    exact exec_trainingComplete_ok hs
  case untrained =>
    intro c k s hs
    exact exec_trainingComplete_failed hs
  case filled =>
    intro c s hs
    exact exec_initComplete_ok hs
  case srEnter =>
    intro ini c s hp hs hw ht
    exact congrArg _ (State.chWrite_ok ht (State.chCommand_srEnter (s := s.quiet) hp hs hw))
  case srExit =>
    intro ini c s hp hs ht
    exact congrArg _ (State.chWrite_ok ht (State.chCommand_srExit (s := s.quiet) hp hs))
  case off =>
    intro ini c s hp ht
    exact congrArg _ (State.chWrite_ok ht (State.chCommand_off (s := s.quiet) hp))
  case refresh =>
    intro c s hs
    exact exec_sdramRefresh_ready hs
  case poll =>
    intro c doubled s hs
    exact exec_mr4Poll_ready hs
  case retune =>
    intro c s
    rfl
  case alert =>
    intro c s
    rfl

end Sys2Proof.Proofs
end

section
/-! PROOF. Lines, keys and windows of SDRAM, and the scrub (11_sdram_encryption.md, R313 to R327). -/

namespace Sys2Proof.Machine

variable {s u : State} {ini : Ini}

/-! ## Sound lines (R313) -/

section

variable {x : SdLine} {l : Nat}

theorem SdLine.errors_of_sound (hx : x.wrong = []) (i : Nat) : x.errors i = 0 := by
  rw [SdLine.errors, hx]
  rfl

theorem SdLine.bad_of_sound (hx : x.wrong = []) : x.bad = false := by
  rw [SdLine.bad, List.any_eq_false]
  intro i _
  rw [SdLine.errors_of_sound hx]
  decide

/-- A line without wrong symbols is seen as it is. -/
theorem State.seenLine_of_sound (hx : x.wrong = []) : s.seenLine l x = (x, s) := by
  simp only [State.seenLine, SdLine.errors_of_sound hx]
  rfl

theorem State.countCorrected_of_sound (hx : x.wrong = []) : s.countCorrected l x = s := by
  rw [State.countCorrected, hx, List.foldl_nil]

theorem State.sdLine_setSdLine : (s.setSdLine l x).sdLine l = x := Laws.get_set_same ..

end

/-! ## Fills (R308, R320) -/

section

variable {x : SdLine} {l key c k : Nat} {line : BitVec 35} {a : FillAns} {wrong : List (Fin 8 × Fin 20 × BitVec 8)}

theorem State.meetChannel_ready (hs : s.chState c = .ready) (hf : s.chFrozen c = false) : s.meetChannel c = some (s, true) := by
  simp only [State.meetChannel, hf, hs, Bool.false_eq_true, if_false]

/-- The answer to a fill of a sound line under a key ID that is PLAIN or has its key, by the line's tag. -/
theorem State.fillAnswer_of_sound (hkey : s.keyOf (l * 128) = some key) (hst : s.kstate key = .xts ∨ s.kstate key = .plain)
    (hx : s.sdLine l = x) (hsound : x.wrong = []) : s.fillAnswer l =
      if x.tag = voidTag then (s.emit (.sdRead (s.sdPlace l)), ⟨.ok, 0, 0, key⟩)
      else if x.tag = keyTag key then (s.emit (.sdRead (s.sdPlace l)), ⟨.ok, s.decryptLine key l x 0, x.poison, key⟩)
      else (((((((s.emit (.sdRead (s.sdPlace l))).bump R.SD_KEYTAG_COUNT).wr R.SD_KEYTAG_INFO_EXPECTED key).wr R.SD_KEYTAG_INFO_FOUND x.tag).wr64
        R.SD_KEYTAG_ADDR_LO_ADDR R.SD_KEYTAG_ADDR_HI_ADDR (l * 128)).log .sdKeytag
          (words64 (l * 128) ++ [key, x.tag])).alarm 1, ⟨.keytag, 0, 0, 0⟩) := by
  obtain hst | hst := hst <;>
    simp only [State.fillAnswer, hkey, hst, hx, State.seenLine_of_sound hsound, SdLine.bad_of_sound hsound, Bool.false_eq_true, if_false,
      State.countCorrected_of_sound hsound] <;> rfl

/-- A fill at a channel that serves it: the miss entries of the line take the port's answer. -/
theorem exec_sdramFill_served (hk : s.sliceOf (line.toNat * 128) = some k)
    (hmiss : (s.slice k).misses.any (fun m => m.line == line.toNat && m.ans.isNone) = true) (hwb : s.firstWb line.toNat = none)
    (hs : s.chState (s.lineChannel line.toNat).1 = .ready) (hf : s.chFrozen (s.lineChannel line.toNat).1 = false)
    (ha : (s.quiet.setSdLine line.toNat ((s.sdLine line.toNat).spoil wrong)).fillAnswer line.toNat = (u, a)) :
    exec (.sdramFill line wrong) s = .next (u.setSlice k { u.slice k with misses := (u.slice k).misses.map fun m =>
      if m.line == line.toNat then { m with ans := some a } else m }) := by
  change execSdramFill line wrong s = _
  have hchannel := State.meetChannel_ready (s := s.quiet) (c := (s.lineChannel line.toNat).1) hs hf
  have hmiss' : (s.quiet.slice k).misses.any (fun m => m.line == line.toNat && m.ans.isNone) = true := hmiss
  have hk' : s.quiet.sliceOf (line.toNat * 128) = some k := hk
  have hwb' : s.quiet.firstWb line.toNat = none := hwb
  have hchannel' : s.quiet.meetChannel (s.quiet.lineChannel line.toNat).1 = some (s.quiet, true) := hchannel
  have ha' : (s.quiet.setSdLine line.toNat ((s.quiet.sdLine line.toNat).spoil wrong)).fillAnswer line.toNat = (u, a) := ha
  simp only [execSdramFill, hk', hmiss', hwb', hchannel', ha', Option.isSome_none, Bool.not_true, Bool.or_self, Bool.false_eq_true, if_false, if_true]

end

/-! ## Write-backs (R321) -/

section

variable {line : BitVec 35} {w : Wb} {x : SdLine}

/-- A write-back at a channel that serves it, under a key ID that is PLAIN or has its key. -/
theorem exec_sdramWriteback_served (hw : s.firstWb line.toNat = some w) (hsent : w.stage = .sent)
    (hs : s.chState (s.lineChannel line.toNat).1 = .ready) (hf : s.chFrozen (s.lineChannel line.toNat).1 = false)
    (hst : s.kstate w.key = .xts ∨ s.kstate w.key = .plain)
    (hx : x = ⟨w.data, if s.kstate w.key = .xts then storeGet none w.key s.sdram.keys else none, keyTag w.key, w.poison, []⟩) :
    exec (.sdramWriteback line) s = .next (((s.quiet.setSdLine line.toNat x).emit
      (.sdWrite (s.sdPlace line.toNat) (codewords (x.cipher line.toNat) x.tag x.poison))).setFirstWb line.toNat
        (some { w with stage := .answered .ok })) := by
  change execSdramWriteback line s = _
  have hw' : s.quiet.firstWb line.toNat = some w := hw
  have hchannel : s.quiet.meetChannel (s.quiet.lineChannel line.toNat).1 = some (s.quiet, true) := State.meetChannel_ready hs hf
  subst hx
  obtain hst | hst := hst
  all_goals
    have hst' : s.quiet.kstate w.key = _ := hst
    simp only [execSdramWriteback, hw', hsent, hchannel, hst', hst, Bool.not_true, Bool.false_eq_true, if_false]
    rfl

end

/-! ## Keys (R316, R322, R323) -/

section

variable {k cmd : Nat}

/-- A command of MKEY_CMD that the life cycle does not bar, at an endpoint that turns nothing away. -/
theorem State.mkeyWrite_ok (hb : s.mkeyBarred cmd = false) (hu : u = s.quiet.storeReg .MKEY_CMD (mkeyValue k cmd))
    (hv : R.MKEY_CMD_CMD.of (mkeyValue k cmd) = cmd ∧ R.MKEY_CMD_KEY_ID.of (mkeyValue k cmd) = k) (hc : 1 ≤ cmd ∧ cmd ≤ 4)
    (ht : s.turnedAway R.MKEY_CMD_CMD.off = none) : s.quiet.mkeyWrite ini k cmd = (u.mkeyCommand k cmd).okWrite ini := by
  obtain ⟨hcmd, hkey⟩ := hv
  have hlisted : ¬ (cmd = 0 ∨ 5 ≤ cmd) := by omega
  rw [State.mkeyWrite_written hb, State.written_ok ht, hu]
  simp only [wrMkeyCmd, hcmd, hkey, hlisted, if_false]

theorem State.mkeyCommand_generate (hb : s.is1 R.MKEY_CMD_BUSY = false) (hk : s.kstate k = .empty) (hr : s.is1 R.RNG_STAT_HEALTHY = true) :
    s.mkeyCommand k 1 = s.mkeyBegin k 1 := by
  simp only [State.mkeyCommand, hb, hk, hr, Bool.false_eq_true, if_false, if_true]

theorem State.mkeyCommand_setPlain (hb : s.is1 R.MKEY_CMD_BUSY = false) (hk : s.kstate k = .empty) :
    s.mkeyCommand k 2 = (s.setKstate k .plain).set1 R.MKEY_CMD_DONE := by
  simp only [State.mkeyCommand, hb, hk, Bool.false_eq_true, if_false]

theorem State.mkeyCommand_retire (hb : s.is1 R.MKEY_CMD_BUSY = false) (hk : s.kstate k = .plain) (hn : s.keyNamed k = false)
    (hl : s.is1 R.LARDER_CTL_BUSY = false) :
    s.mkeyCommand k 3 = ((s.beginOp (.flush (some k))).cleanLines true 1 k 0).mkeyBegin k 3 := by
  simp only [State.mkeyCommand, hb, hk, hn, hl, Bool.or_self, Bool.false_eq_true, if_false]

theorem State.mkeyCommand_sweep (hb : s.is1 R.MKEY_CMD_BUSY = false) (hk : s.kstate k = .retired) :
    s.mkeyCommand k 4 = s.sweepBegin k := by
  simp only [State.mkeyCommand, hb, hk, Bool.false_eq_true, if_false]

theorem exec_keyGenerated_running (hc : s.sdram.cmd = some (k, 1)) : exec .keyGenerated s = .next
    ((({ s.quiet with sdram := { s.sdram with keys := storeSet none k (some s.fresh) s.sdram.keys } } : State).drawn.setKstate k .xts).mkeyEnd) := by
  change execKeyGenerated s = _
  simp only [execKeyGenerated, show s.quiet.sdram.cmd = some (k, 1) from hc]
  rfl

theorem exec_retireComplete_flushed (hc : s.sdram.cmd = some (k, 3)) (hl : s.larder.op ≠ some (.flush (some k))) :
    exec .retireComplete s = .next (((s.quiet.setKstate k .retired).dropKey k).mkeyEnd) := by
  change execRetireComplete s = _
  simp only [execRetireComplete, show s.quiet.sdram.cmd = some (k, 3) from hc,
    show ¬ s.quiet.larder.op = some (.flush (some k)) from hl, if_false]

/-- A covered channel that was not taken out of self-refresh, and for which no SR_ENTER waits, stays READY. -/
theorem exec_channelSweepEnd_ready {c : Fin 12} (hc : s.sdram.cmd = some (k, 4))
    (hf : s.sdram.sweep.find? (fun e => e.1 == c.val) = some (c.val, false)) (hw : s.sdram.srWait.contains c.val = false) :
    exec (.channelSweepEnd c) s = .next (({ s.quiet with sdram := { s.sdram with
      lines := s.sdram.lines.filter (fun x => !((s.lineChannel x.1).1 == c.val && x.2.tag == keyTag k)) } } : State).dropSweep c.val) := by
  change execChannelSweepEnd c s = _
  simp only [execChannelSweepEnd, hc, show s.quiet.sdram.cmd = some (k, 4) from hc,
    show s.quiet.sdram.sweep.find? (fun e => e.1 == c.val) = some (c.val, false) from hf,
    show s.quiet.sdram.srWait.contains c.val = false from hw, Bool.or_self, Bool.false_eq_true, if_false]
  rfl

theorem exec_sweepComplete_swept (hc : s.sdram.cmd = some (k, 4)) (he : s.sdram.sweep.isEmpty = true) :
    exec .sweepComplete s = .next ((s.quiet.setKeyBits k 3 0).mkeyEnd) := by
  change execSweepComplete s = _
  simp only [execSweepComplete, show s.quiet.sdram.cmd = some (k, 4) from hc, show s.quiet.sdram.sweep.isEmpty = true from he, if_true]

theorem wrMkeyWinLim_off {w : Nat} {v : BitVec 32} (he : s.is1 (R.MKEY_WIN_BASE_EN w) = false) :
    wrMkeyWinLim s w v = s.storeReg (.MKEY_WIN_LIM w) v := by
  simp only [wrMkeyWinLim, he, Bool.false_and, Bool.false_eq_true, if_false]

end

/-! ## The scrub (R326, R327) -/

section

variable {l : Nat} {x : SdLine}

theorem State.scrubLine_of_sound (hx : (s.sdLine l).wrong = []) : s.scrubLine l = s.emit (.sdRead (s.sdPlace l)) := by
  simp only [State.scrubLine, State.seenLine_of_sound hx, SdLine.bad_of_sound hx, hx, Bool.false_eq_true, if_false, if_true]

theorem State.scrubLine_corrected (hx : x = s.sdLine l) (hw : x.wrong ≠ []) (hb : x.bad = false) (hseen : s.seenLine l x = (x, s)) :
    s.scrubLine l = ((s.emit (.sdRead (s.sdPlace l))).countCorrected l x).scrubWrite l { x with wrong := [] } := by
  subst hx
  simp only [State.scrubLine, hseen, hb, hw, Bool.false_eq_true, if_false]

/-- A visit of the scrub reads the next line, and a pass past its period begins again when it is complete. -/
theorem exec_scrubLine_visit {c : Fin 12} {wrong : List (Fin 8 × Fin 20 × BitVec 8)} {v : State} (he : s.is1 R.SD_SCRUB_EN = true)
    (hp : s.bit R.SD_CFG_POP c.val = true) (hs : s.chState c.val = .ready) (hf : s.chFrozen c.val = false)
    (hpos : s.scrubPos c.val < s.channelLines) (hl : l = s.lineAt c.val (s.scrubPos c.val))
    (hu : u = (s.quiet.setSdLine l ((s.sdLine l).spoil wrong)).scrubLine l)
    (hv : v = { u with sdram := { u.sdram with scrub := storeSet 0 c.val (s.scrubPos c.val + 1) u.sdram.scrub } }) :
    exec (.scrubLine ⟨c, wrong⟩) s = .next (if v.sdram.scrubOver && v.scrubComplete then v.scrubAgain else v) := by
  have hgoes : ¬ (!(s.quiet.is1 R.SD_SCRUB_EN) || !(s.quiet.bit R.SD_CFG_POP c.val) || decide (s.quiet.chState c.val ≠ .ready) ||
      s.quiet.chFrozen c.val || decide (s.quiet.channelLines ≤ s.quiet.scrubPos c.val)) = true := by
    rw [show s.quiet.is1 R.SD_SCRUB_EN = true from he, show s.quiet.bit R.SD_CFG_POP c.val = true from hp,
      show s.quiet.chState c.val = .ready from hs, show s.quiet.chFrozen c.val = false from hf,
      decide_eq_false (show ¬ s.quiet.channelLines ≤ s.quiet.scrubPos c.val from Nat.not_le_of_lt hpos)]
    decide
  subst hl hu hv
  exact if_neg hgoes

theorem exec_scrubPassEnd_complete (he : s.is1 R.SD_SCRUB_EN = true) (hc : s.scrubComplete = true) :
    exec .scrubPassEnd s = .next s.quiet.scrubAgain := by
  change execScrubPassEnd s = _
  simp only [execScrubPassEnd, show s.quiet.is1 R.SD_SCRUB_EN = true from he, show s.quiet.scrubComplete = true from hc, Bool.not_true,
    Bool.false_eq_true, if_false, if_true]

theorem exec_scrubPassEnd_late (he : s.is1 R.SD_SCRUB_EN = true) (hc : s.scrubComplete = false) :
    exec .scrubPassEnd s = .next { s.quiet.set1 R.SD_SCRUB_LATE with sdram := { s.sdram with scrubOver := true } } := by
  change execScrubPassEnd s = _
  simp only [execScrubPassEnd, show s.quiet.is1 R.SD_SCRUB_EN = true from he, show s.quiet.scrubComplete = false from hc, Bool.not_true,
    Bool.false_eq_true, if_false]
  rfl

end

end Sys2Proof.Machine

namespace Sys2Proof.Proofs

open Sys2Proof.Machine

/-- Settles O27: a fill and a write-back by the line and its key ID, a key command by the key ID's state, the scrub by the line that it reads. -/
theorem sdramLinesAndKeys : Obligations.SdramLinesAndKeys := by
  unfold Obligations.SdramLinesAndKeys
  refine ⟨?fillVoid, ?fillSound, ?writeKeyed, ?writePlain, ?generate, ?generated, ?setPlain, ?retire, ?retired, ?sweep, ?channelSwept, ?swept,
    ?limit, ?visit, ?sound, ?corrected, ?passDone, ?passLate⟩
  case fillVoid =>
    intro l k key s hk hmiss hwb hs hf hvoid hkey hst
    refine exec_sdramFill_served hk hmiss hwb hs hf ?_
    rw [hvoid]
    exact (State.fillAnswer_of_sound (s := s.quiet.setSdLine l.toNat .void) hkey hst State.sdLine_setSdLine rfl).trans (if_pos rfl)
  case fillSound =>
    intro l k key x s hk hmiss hwb hs hf hx ⟨hsound, htag, hne⟩ hkey hst
    refine exec_sdramFill_served hk hmiss hwb hs hf ?_
    rw [← hx]
    exact (State.fillAnswer_of_sound (s := s.quiet.setSdLine l.toNat x) hkey hst State.sdLine_setSdLine hsound).trans
      ((if_neg (htag ▸ hne)).trans (if_pos htag))
  case writeKeyed =>
    intro l w x s hw hsent hs hf hst hx
    have hserved := exec_sdramWriteback_served hw hsent hs hf (.inl hst) (hx.trans (by rw [if_pos hst]))
    rw [hserved, hx]
  case writePlain =>
    intro l w s hw hsent hs hf hst
    exact exec_sdramWriteback_served hw hsent hs hf (.inr hst) (by rw [hst]; rfl)
  case generate =>
    intro ini k s u hb hu hv hbusy hk hr ht
    exact congrArg _ ((State.mkeyWrite_ok hb hu hv (by decide) ht).trans (by rw [State.mkeyCommand_generate hbusy hk hr]; rfl))
  case generated =>
    intro k s hc
    exact exec_keyGenerated_running hc
  case setPlain =>
    intro ini k s u hb hu hv hbusy hk ht
    exact congrArg _ ((State.mkeyWrite_ok hb hu hv (by decide) ht).trans (by rw [State.mkeyCommand_setPlain hbusy hk]))
  case retire =>
    intro ini k s u hu hv hbusy hk hn hl ht
    exact congrArg _ ((State.mkeyWrite_ok rfl hu hv (by decide) ht).trans (by rw [State.mkeyCommand_retire hbusy hk hn hl]))
  case retired =>
    intro k s hc hl
    exact exec_retireComplete_flushed hc hl
  case sweep =>
    intro ini k s u hu hv hbusy hk ht
    exact congrArg _ ((State.mkeyWrite_ok rfl hu hv (by decide) ht).trans (by rw [State.mkeyCommand_sweep hbusy hk]))
  case channelSwept =>
    intro c k s hc hf hw
    exact exec_channelSweepEnd_ready hc hf hw
  case swept =>
    intro k s hc he
    exact exec_sweepComplete_swept hc he
  case limit =>
    intro ini w v s he ht
    exact congrArg _ ((State.written_ok ht).trans (congrArg (·.okWrite ini) (wrMkeyWinLim_off (s := s.quiet) he)))
  case visit =>
    intro c wrong l s u v he hp hs hf hpos hl hu hv
    exact exec_scrubLine_visit he hp hs hf hpos hl hu hv
  case sound =>
    intro l s u hx hu
    rw [State.scrubLine_of_sound hx, hu]
  case corrected =>
    intro l x s u hx hw hb hseen hu
    rw [State.scrubLine_corrected hx hw hb hseen, hu]
  case passDone =>
    intro s he hc
    exact exec_scrubPassEnd_complete he hc
  case passLate =>
    intro s he hc
    exact exec_scrubPassEnd_late he hc

end Sys2Proof.Proofs
end

section
/-! PROOF. Links train, fail and go down (12_lanes_links.md, R333 to R351). -/

namespace Sys2Proof.Machine

variable {s u v : State} {ini : Ini} {g : Nat} {n : Fin 24}

/-! ## LINK_CTL (R333, R335) -/

theorem wrLinkCtl_off {w : BitVec 32} (hm : (R.LINK_CTL_MODE g).of w = 0) :
    wrLinkCtl s g w = ((s.w1cOnly (.LINK_CTL g) w).storeReg (.LINK_CTL g) w).linkSettle g :=
  if_pos hm

theorem wrLinkCtl_refused {w : BitVec 32} (hm : (R.LINK_CTL_MODE g).of w ≠ 0) (hr : (s.w1cOnly (.LINK_CTL g) w).linkRefuses g w = true) :
    wrLinkCtl s g w = (s.w1cOnly (.LINK_CTL g) w).set1 (R.LINK_CTL_CFG_ERR g) :=
  (if_neg hm).trans (if_pos hr)

theorem State.retrain_down (h : s.lstate g = .failed ∨ s.lstate g = .down) : s.retrain g = s.toDetect g := by
  obtain h | h := h <;> rw [State.retrain, h]

/-! ## Training (R335, R336) -/

/-- Consistent TS1 sets on every lane, all locked, take a link from DETECT to TRAIN. -/
theorem exec_ts1_trains {locked inverted : BitVec 16} {sets : List RxSet} {ts : List TSet} {all : Nat} (hs : s.lstate n.val = .detect)
    (hall : all = 2 ^ s.quiet.lanes n.val - 1)
    (hv : v = (s.quiet.wrLanes n.val R.LINK_STAT_LOCKED (locked.toNat &&& all)).wrLanes n.val R.LINK_STAT_POL_INV (inverted.toNat &&& all))
    (hread : v.readSets n.val 1 inverted.getLsbD sets = (some ts, u)) (hlen : ts.length = s.quiet.lanes n.val) (hlock : locked.toNat &&& all = all)
    (hsame : sameSets ts = true) : exec (.ts1 n locked inverted sets) s = .next ((u.pinged n.val ts).toTrain n.val) := by
  subst hall hv
  change execTs1 n locked inverted sets s = _
  have hs' : s.quiet.lstate n.val = .detect := hs
  rw [execTs1, if_neg (not_not_intro hs')]
  simp only [hread]
  rw [if_pos ⟨hlock, hlen, hsame⟩]

section

variable {sets : List RxSet} {t : TSet} {rest : List TSet} {pings : List (Nat × Nat)} (hs : s.lstate n.val = .train) (hne : sets ≠ [])
  (hlen : sets.length = s.lanes n.val) (hread : s.quiet.readSets n.val 2 (s.quiet.laneInverted n.val) sets = (some (t :: rest), v))
  (hu : u = (v.pinged n.val (t :: rest)).wr (R.LINK_STAT_PARTNER_DEV n.val) t.dev.toNat)

include hs hne hlen hread hu

/-- TS2 sets on every lane of a link in TRAIN, by what they say of it. -/
theorem exec_ts2_read : exec (.ts2 n sets pings) s = match u.trainFault n.val (t :: rest) with
    | some c => .next (u.linkFails n.val c)
    | none => if pings.length < 16 ∨ (u.link n.val).setsSent < 16 then .next u
      else .next (u.linkUp n.val t ((laneOrder (t :: rest)).getD false) (delayOf pings)) := by
  subst hu
  change execTs2 n sets pings s = _
  have hgoes : ¬ (s.quiet.lstate n.val ≠ .train ∨ sets.length ≠ s.quiet.lanes n.val) :=
    not_or.2 ⟨not_not_intro hs, not_not_intro hlen⟩
  rw [execTs2, if_neg hne, if_neg hgoes, hread] <;> rfl

theorem exec_ts2_fails {c : Nat} (hf : u.trainFault n.val (t :: rest) = some c) : exec (.ts2 n sets pings) s = .next (u.linkFails n.val c) := by
  rw [exec_ts2_read hs hne hlen hread hu, hf]

theorem exec_ts2_up (hp : 16 ≤ pings.length) (hf : u.trainFault n.val (t :: rest) = none) (hsent : 16 ≤ (u.link n.val).setsSent) :
    exec (.ts2 n sets pings) s = .next (u.linkUp n.val t ((laneOrder (t :: rest)).getD false) (delayOf pings)) := by
  rw [exec_ts2_read hs hne hlen hread hu, hf]
  exact if_neg (not_or.2 ⟨Nat.not_lt.2 hp, Nat.not_lt.2 hsent⟩)

theorem exec_ts2_waits (hf : u.trainFault n.val (t :: rest) = none) (hw : pings.length < 16 ∨ (u.link n.val).setsSent < 16) :
    exec (.ts2 n sets pings) s = .next u := by
  rw [exec_ts2_read hs hne hlen hread hu, hf]
  exact if_pos hw

end

theorem exec_trainTimeout_fails (hs : s.lstate n.val = .train) (ht : (s.link n.val).trainAt + 156250 ≤ s.now) :
    exec (.trainTimeout n) s = .next (s.quiet.linkFails n.val 10) :=
  if_pos ⟨hs, ht⟩

theorem exec_trainTimeout_early (ht : s.now < (s.link n.val).trainAt + 156250) : exec (.trainTimeout n) s = .next s.quiet :=
  if_neg fun h => Nat.not_le.2 ht h.2

/-! ## Lost signals and raw lanes (R348, R351) -/

section

variable {lane : Fin 16} {lock : Bool}

theorem exec_lossOfSignal_active (hs : s.lstate n.val = .active) (hl : lane.val < s.lanes n.val) (h8 : lane.val < 8) :
    exec (.lossOfSignal n lane lock) s =
      .next ((s.quiet.clrBit (R.LINK_STAT_LOCKED n.val) (lane.val % 8)).linkDown n.val (if lock then 2 else 1)) := by
  change execLossOfSignal n lane lock s = _
  simp only [execLossOfSignal, show s.quiet.lstate n.val = .active from hs, show ¬ s.quiet.lanes n.val ≤ lane.val from Nat.not_le.2 hl, h8,
    if_true, if_false]

theorem exec_lossOfSignal_raw (hs : s.lstate n.val = .raw) : exec (.lossOfSignal n lane lock) s =
    .next (if lane.val < s.lanes n.val then s.quiet.clrBit (R.RAW_STAT_LOCKED n.val) lane.val else s.quiet) := by
  change execLossOfSignal n lane lock s = _
  simp only [execLossOfSignal, show s.quiet.lstate n.val = .raw from hs]
  rfl

theorem exec_rawLaneLock_raw {i : Fin 8} (hs : s.lstate n.val = .raw) (hl : i.val < s.lanes n.val) : exec (.rawLaneLock n i) s =
    .next ((((s.quiet.setLink n.val { s.link n.val with
      rxRd := if (s.link n.val).rxRd.testBit i.val == (s.quiet.draw % 2 == 1) then (s.link n.val).rxRd
        else (s.link n.val).rxRd ^^^ 2 ^ i.val }).drawn).setBit
        (R.RAW_STAT_LOCKED n.val) i.val)) :=
  if_pos ⟨hs, hl⟩

end

end Sys2Proof.Machine

namespace Sys2Proof.Proofs

open Sys2Proof.Machine

/-- Settles O28: a mode by whether it is OFF and whether it is refused, training by the state of the link and what the sets say, a lost signal by the
state of the group. -/
theorem linksTrainAndFail : Obligations.LinksTrainAndFail := by
  unfold Obligations.LinksTrainAndFail
  refine ⟨?off, ?refused, ?retrain, ?ts1, ?fails, ?up, ?waits, ?timeout, ?early, ?loss, ?rawLock, ?rawBeyond, ?rawLoss⟩
  case off =>
    intro ini g v s u hu hm ht
    exact congrArg _ ((State.written_ok ht).trans (by rw [wrLinkCtl_off hm, hu]))
  case refused =>
    intro ini g v s u hu hm hr ht
    subst hu
    exact congrArg _ ((State.written_ok ht).trans (by rw [wrLinkCtl_refused hm hr]))
  case retrain =>
    intro ini g s hs ht
    exact congrArg _ ((State.written_ok ht).trans (by rw [State.retrain_down (s := s.quiet) hs]; rfl))
  case ts1 =>
    intro g locked inverted sets ts s v u z all hs hall hv hread hlen hlock hsame hz
    rw [exec_ts1_trains hs hall hv hread hlen hlock hsame, hz]
    rfl
  case fails =>
    intro g sets t rest pings s v u c hs hne hlen hread hu hf
    exact exec_ts2_fails hs hne hlen hread hu hf
  case up =>
    intro g sets t rest pings s v u hs hne hlen hread hu hp hf hsent
    exact exec_ts2_up hs hne hlen hread hu hp hf hsent
  case waits =>
    intro g sets t rest pings s v u hs hne hlen hread hu hf hw
    exact exec_ts2_waits hs hne hlen hread hu hf hw
  case timeout =>
    intro g s hs ht
    exact exec_trainTimeout_fails hs ht
  case early =>
    intro g s ht
    exact exec_trainTimeout_early ht
  case loss =>
    intro g lane lock s hs hl h8
    exact exec_lossOfSignal_active hs hl h8
  case rawLock =>
    intro g lane s hs hl
    exact exec_rawLaneLock_raw hs hl
  case rawBeyond =>
    intro g lane lock s hs hl
    rw [exec_lossOfSignal_raw hs, if_neg (Nat.not_lt.2 hl)]
  case rawLoss =>
    intro g lane lock s hs hl
    rw [exec_lossOfSignal_raw hs, if_pos hl]

end Sys2Proof.Proofs
end

section
/-! SUPPORT. The line code of a serial lane (12_lanes_links.md, R332): each sub-block of a code spells its part of the symbol. -/

namespace Sys2Proof.Machine

/-- No two values of five bits share a 6-bit sub-block. -/
theorem find?_codeSix : ∀ rd : Bool, ∀ x < 32, ((List.range 32).find? fun z => codeSix rd z == codeSix rd x) = some x := by
  decide

/-- No two values of three bits share a 4-bit sub-block after the same five bits. -/
theorem find?_codeFour : ∀ rd : Bool, ∀ x < 32, ∀ y < 8, ((List.range 8).find? fun z => codeFour rd x z == codeFour rd x y) = some y := by
  decide

/-- The code of a special symbol under a running disparity, first bit on the line in the highest bit. -/
def specialCode (rd : Bool) (c : BitVec 10) : BitVec 10 := if rd then ~~~c else c

/-- No data symbol has the code of a special symbol. -/
theorem find?_specialCode_data : ∀ rd : Bool, ∀ x < 32, ∀ y < 8,
    (specialCodes.find? fun e => specialCode rd e.2 == codeSix rd x ++ codeFour (disparityAfter rd (codeSix rd x)) x y) = none := by
  decide

/-- No two special symbols share a code. -/
theorem find?_specialCode (rd : Bool) {e : BitVec 8 × BitVec 10} (he : e ∈ specialCodes) :
    (specialCodes.find? fun f => specialCode rd f.2 == specialCode rd e.2) = some e := by
  have hall : (specialCodes.all fun e => (specialCodes.find? fun f => specialCode rd f.2 == specialCode rd e.2) == some e) = true := by
    cases rd <;> rfl
  exact beq_iff_eq.1 (List.all_eq_true.1 hall e he)

/-- The symbol that a received code spells, from its bits in the order of the line. -/
theorem decodeSym_reverse (rd : Bool) (a : BitVec 10) : decodeSym rd a.reverse =
    match specialCodes.find? fun e => specialCode rd e.2 == a with
    | some e => some ⟨true, e.1⟩
    | none =>
      match (List.range 32).find? fun x => codeSix rd x == a.extractLsb' 4 6 with
      | none => none
      | some x => ((List.range 8).find? fun y => codeFour (disparityAfter rd (a.extractLsb' 4 6)) x y == a.extractLsb' 0 4).map
          fun y => ⟨false, BitVec.ofNat 8 (32 * y + x)⟩ := by
  rw [decodeSym, BitVec.reverse_reverse_eq]
  rfl

/-- The code of a special symbol spells it. -/
theorem decodeSym_special (rd : Bool) {o : BitVec 8} {c : BitVec 10} (h : (o, c) ∈ specialCodes) :
    decodeSym rd (specialCode rd c).reverse = some ⟨true, o⟩ := by
  rw [decodeSym_reverse, find?_specialCode rd h]

/-- The code of a data symbol spells it. -/
theorem decodeSym_data (rd : Bool) {x y : Nat} (hx : x < 32) (hy : y < 8) :
    decodeSym rd (codeSix rd x ++ codeFour (disparityAfter rd (codeSix rd x)) x y).reverse = some ⟨false, BitVec.ofNat 8 (32 * y + x)⟩ := by
  have hsix : (codeSix rd x ++ codeFour (disparityAfter rd (codeSix rd x)) x y).extractLsb' 4 6 = codeSix rd x :=
    BitVec.extractLsb'_append_eq_left
  have hfour : (codeSix rd x ++ codeFour (disparityAfter rd (codeSix rd x)) x y).extractLsb' 0 4 =
      codeFour (disparityAfter rd (codeSix rd x)) x y := BitVec.extractLsb'_append_eq_right
  rw [decodeSym_reverse, find?_specialCode_data rd x hx y hy, hsix, hfour]
  simp only [find?_codeSix rd x hx, find?_codeFour _ x hx y hy, Option.map_some]

theorem decodeSym_encodeSym (rd : Bool) (y : Sym) {c : BitVec 10} (h : encodeSym rd y = some c) : decodeSym rd c = some y := by
  obtain ⟨k, o⟩ := y
  cases k with
  | true =>
    obtain ⟨e, he, rfl⟩ := Option.map_eq_some_iff.1 h
    obtain ⟨l, r, hl, -⟩ := List.lookup_eq_some_iff.1 he
    exact decodeSym_special rd (hl ▸ List.mem_append_right l List.mem_cons_self)
  | false =>
    cases h
    have ho := o.isLt
    rw [decodeSym_data rd (Nat.mod_lt _ (by decide)) (Nat.div_lt_of_lt_mul ho), Nat.div_add_mod, BitVec.ofNat_toNat, BitVec.setWidth_eq]

end Sys2Proof.Machine
end

section
/-! PROOF. Frames, tick markers and raw flits (12_lanes_links.md, R332 to R354). -/

namespace Sys2Proof.Machine

variable {s u : State} {n : Fin 24}

/-! ## Frames (R338, R342, R343) -/

section

variable {f : RxFrame} {k : LinkFrame} (hs : s.lstate n.val = .active) (hf : f.cols.any (fun c => c.length != s.lanes n.val) = false)
  (hk : k = readFrame (s.lanes n.val) f) (hu : u = s.quiet.bumpN (R.LINK_ERR_CODE_ERR n.val) k.errors)

theorem State.linkActive_of_active {g : Nat} (h : s.lstate g = .active) : s.linkActive g = true := by
  rw [State.linkActive, h]
  rfl

include hs hf hk hu

/-- A frame that arrives on an ACTIVE link, by what was read of it. -/
theorem exec_frame_active : exec (.frame n f) s = if k.aborted then .next u
    else if k.errors ≠ 0 ∨ k.content.length < 4 ∨ Alg.crc32.of k.content ≠ k.crc.toNat then .next (u.badFrame n.val)
    else .next (u.goodFrame n.val k.content) := by
  have hgoes : ¬ (!(s.quiet.linkActive n.val) || f.cols.any (fun c => c.length != s.quiet.lanes n.val)) = true := by
    rw [show s.quiet.linkActive n.val = true from State.linkActive_of_active hs,
      show f.cols.any (fun c => c.length != s.quiet.lanes n.val) = false from hf]
    decide
  subst hk hu
  exact if_neg hgoes

theorem exec_frame_aborted (ha : k.aborted = true) : exec (.frame n f) s = .next u := by
  rw [exec_frame_active hs hf hk hu, if_pos ha]

theorem exec_frame_bad (ha : k.aborted = false) (hbad : k.errors ≠ 0 ∨ k.content.length < 4 ∨ Alg.crc32.of k.content ≠ k.crc.toNat) :
    exec (.frame n f) s = .next (u.badFrame n.val) := by
  rw [exec_frame_active hs hf hk hu, ha, if_pos hbad]
  rfl

/-- A control frame acknowledges, and nothing more. -/
theorem exec_frame_control {h : Nat} (ha : k.aborted = false)
    (hgood : ¬ (k.errors ≠ 0 ∨ k.content.length < 4 ∨ Alg.crc32.of k.content ≠ k.crc.toNat)) (hh : h = leNat (k.content.take 4))
    (hc : h.testBit 21 = true) : exec (.frame n f) s = .next (u.linkAck n.val (natBits h 19 10) (h.testBit 20)) := by
  subst hh
  rw [exec_frame_active hs hf hk hu, ha, if_neg hgood]
  exact congrArg Host.Outcome.next (if_pos hc)

end

/-! ## Replay (R343) -/

theorem exec_replayTimeout_due (hs : s.lstate n.val = .active) (ht : 625 ≤ 2 * (s.now - (s.link n.val).ackAt)) :
    exec (.replayTimeout n) s = .next (s.quiet.linkReplay n.val false) :=
  if_pos ⟨State.linkActive_of_active hs, ht⟩

theorem exec_replayTimeout_early (ht : 2 * (s.now - (s.link n.val).ackAt) < 625) : exec (.replayTimeout n) s = .next s.quiet :=
  if_neg fun h => Nat.not_le.2 ht h.2

section

variable {g : Nat} {x : Link} {nak : Bool}

theorem State.linkReplay_again (hx : x = s.link g) (hne : x.sent ≠ []) (hr : x.sent.all (fun f => f.replays < 15) = true) :
    s.linkReplay g nak = (x.sent.map fun f => { f with replays := f.replays + 1 }).foldl (fun (t : State) f => t.sendSequenced g f)
      ((s.bump (R.LINK_ERR_REPLAY g)).setLink g
        { x with sent := x.sent.map fun f => { f with replays := f.replays + 1 }, ackAt := s.now, stream := replayStream nak x.stream }) := by
  have hfew : ¬ x.sent.any (fun f => decide (15 ≤ f.replays)) = true := by
    rw [List.any_eq_true]
    rintro ⟨f, hf, h15⟩
    have hlt := of_decide_eq_true (List.all_eq_true.1 hr f hf)
    exact Nat.not_le.2 hlt (of_decide_eq_true h15)
  subst hx
  exact (if_neg hne).trans (if_neg hfew)

theorem State.linkReplay_gives_up (hr : (s.link g).sent.any (fun f => 15 ≤ f.replays) = true) :
    s.linkReplay g nak = (s.bump (R.LINK_ERR_REPLAY g)).linkDown g 3 := by
  have hne : (s.link g).sent ≠ [] := by
    intro h
    rw [h] at hr
    exact Bool.noConfusion hr
  exact (if_neg hne).trans (if_pos hr)

end

/-! ## Tick markers (R347) -/

section

variable {count offset : BitVec 8} {frac : Fin 64} {arr src place : Int} (hsrc : s.rd R.TICK_CTL_SRC = 2)
  (hg : s.rd R.TICK_ALIGN_CFG_GROUP = n.val) (ha : s.linkActive n.val = true) (hr : s.is1 R.TICK_CTL_RUNNING = true)
  (harr : arr = 64 * s.now + frac.val) (hS : src = arr - offset.toNat - s.rd (R.LINK_DELAY_DELAY n.val))
  (hp : place = nearestEdge (src + 64 * (s.rd R.TICK_LAYOUT_PERIOD + ofSigned 16 (s.rd R.TICK_ALIGN_CFG_ADJ))))

include hsrc hg ha hr harr hS hp

/-- A marker on the chosen group while the generator follows it, by how far its place lies ahead and what its count says. -/
theorem exec_tickMarker_follows : exec (.tickMarker n count offset frac) s = if 64 * place - arr < 1000 then .next (s.quiet.set1 R.TICK_ALIGN_STAT_LATE)
    else
      let diff := signedBits 8 (count.toNat - s.countNear src)
      let t := s.quiet.wr R.TICK_ALIGN_STAT_CNT_DIFF diff
      .next ((if diff = 0 then t else t.set1 R.TICK_ALIGN_STAT_CNT_ERR).markerPlaces place) := by
  have hgoes : ¬ (decide (s.quiet.rd R.TICK_CTL_SRC ≠ 2) || decide (s.quiet.rd R.TICK_ALIGN_CFG_GROUP ≠ n.val) || !(s.quiet.linkActive n.val) ||
      !(s.quiet.is1 R.TICK_CTL_RUNNING)) = true := by
    rw [show s.quiet.rd R.TICK_CTL_SRC = 2 from hsrc, show s.quiet.rd R.TICK_ALIGN_CFG_GROUP = n.val from hg,
      show s.quiet.linkActive n.val = true from ha, show s.quiet.is1 R.TICK_CTL_RUNNING = true from hr, decide_eq_false (not_not_intro rfl),
      decide_eq_false (not_not_intro rfl)]
    decide
  subst harr hS hp
  exact if_neg hgoes

theorem exec_tickMarker_late (hl : 64 * place - arr < 1000) :
    exec (.tickMarker n count offset frac) s = .next (s.quiet.set1 R.TICK_ALIGN_STAT_LATE) := by
  rw [exec_tickMarker_follows hsrc hg ha hr harr hS hp, if_pos hl]

theorem exec_tickMarker_places (hl : 1000 ≤ 64 * place - arr) (hd : signedBits 8 (count.toNat - s.countNear src) = 0) :
    exec (.tickMarker n count offset frac) s = .next ((s.quiet.wr R.TICK_ALIGN_STAT_CNT_DIFF 0).markerPlaces place) := by
  rw [exec_tickMarker_follows hsrc hg ha hr harr hS hp, if_neg (Int.not_lt.2 hl)]
  simp only [hd, if_true]

end

/-! ## Raw flits (R352 to R354) -/

section

variable {codes : List (BitVec 10)} {r : List (Option Sym) × Nat} {flit : BitVec 512} (hlen : codes ≠ [] ∧ codes.length ≤ 48)
  (hs : s.lstate n.val = .raw) (hw : codes.length % s.lanes n.val = 0) (hr : r = decodeCodes (s.lanes n.val) (s.link n.val).rxRd 0 codes)
  (hall : r.1.all (·.isSome) = true)
  (hu : u = (s.quiet.bumpN (R.RAW_STAT_ERR_SYM n.val) 0).setLink n.val { s.link n.val with rxRd := r.2 })
  (hf : flit = s.quiet.rawFlitOf n.val codes r.1)

/-- Where every code spells a symbol, none is counted as an error. -/
theorem filter_isNone_of_all {α : Type} {l : List (Option α)} (h : l.all (·.isSome) = true) : l.filter (·.isNone) = [] := by
  rw [List.filter_eq_nil_iff]
  intro y hy hn
  rw [Option.isNone_iff_eq_none.1 hn] at hy
  exact Bool.noConfusion (List.all_eq_true.1 h none hy)

include hlen hs hw hr hall hu hf

/-- A flit of codes that all spell symbols waits while the buffer has room. -/
theorem exec_rawFlitIn_sound : exec (.rawFlitIn n codes) s =
    if (u.link n.val).rawIn.length < 4 then .next (u.setLink n.val { u.link n.val with rawIn := (u.link n.val).rawIn ++ [flit] })
    else .next (u.set1 (R.RAW_STAT_RAW_OVERRUN n.val)) := by
  have hfits : ¬ (codes.length = 0 ∨ 48 < codes.length) :=
    not_or.2 ⟨fun h => hlen.1 (List.length_eq_zero_iff.1 h), Nat.not_lt.2 hlen.2⟩
  have hgoes : ¬ (decide (s.quiet.lstate n.val ≠ .raw) || decide (codes.length % s.quiet.lanes n.val ≠ 0)) = true := by
    rw [show s.quiet.lstate n.val = .raw from hs, show codes.length % s.quiet.lanes n.val = 0 from hw]
    decide
  change execRawFlitIn n codes s = _
  rw [execRawFlitIn, if_neg hfits, if_neg hgoes, show decodeCodes (s.quiet.lanes n.val) (s.quiet.link n.val).rxRd 0 codes = r from hr.symm]
  simp only [filter_isNone_of_all hall, List.length_nil, if_true, ← hf]
  rw [hu]
  rfl

end

theorem State.deliverRaw_oldest {g : Nat} {f : BitVec 512} {rest : List (BitVec 512)} (hq : (s.link g).rawIn = f :: rest)
    (ht : s.takesFlits (s.rd (R.RAW_CFG_REGION g)) = true) :
    s.deliverRaw g 1 = (s.setLink g { s.link g with rawIn := rest }).toFabricRaw g f := by
  have hgoes : ¬ ((s.link g).rawIn = [] ∨ s.takesFlits (s.rd (R.RAW_CFG_REGION g)) = false) := by
    rw [hq, ht]
    exact not_or.2 ⟨List.cons_ne_nil _ _, Bool.noConfusion⟩
  refine (if_neg hgoes).trans ?_
  rw [hq]
  rfl

theorem State.deliverRaw_barred {g k : Nat} (ht : s.takesFlits (s.rd (R.RAW_CFG_REGION g)) = false) : s.deliverRaw g k = s :=
  if_pos (.inr ht)

section

variable (hs : s.lstate n.val = .raw) (hl : s.linesReset = false)

include hs hl

theorem exec_rawFlitOut_none : exec (.rawFlitOut n none) s =
    .next ((s.quiet.set1 (R.RAW_STAT_RAW_UNDERRUN n.val)).sendEncoded n.val [List.replicate (s.lanes n.val) symComma]) := by
  change execRawFlitOut n none s = _
  simp only [execRawFlitOut, show s.quiet.lstate n.val = .raw from hs, show s.quiet.linesReset = false from hl, ne_eq, not_true_eq_false,
    decide_false, Bool.or_self, Bool.false_eq_true, if_false]
  rfl

/-- A flit of the fabric leaves unchanged with FORM 1, and encoded with FORM 0. -/
theorem exec_rawFlitOut_some {f : BitVec 512} {cols : Nat} (hc : cols = rawCols f) (h0 : cols ≠ 0) (hw : cols ≤ 48 / s.lanes n.val)
    (ht : s.takesFlits (s.rd (R.RAW_CFG_REGION n.val)) = true) : exec (.rawFlitOut n (some f)) s =
      if s.is1 (R.RAW_CFG_FORM n.val) then
        .next (s.quiet.emit (.line n.val (rowsOf (s.lanes n.val) cols ((List.range (cols * s.lanes n.val)).map (rawSym f)))))
      else .next (s.quiet.sendEncoded n.val (rowsOf (s.lanes n.val) cols
        (((List.range (cols * s.lanes n.val)).map (rawSym f)).map fun y => ⟨y.getLsbD 8, y.extractLsb' 0 8⟩))) := by
  have hgoes : ¬ (decide (rawCols f = 0) || decide (48 / s.quiet.lanes n.val < rawCols f) ||
      !(s.quiet.takesFlits (s.quiet.rd (R.RAW_CFG_REGION n.val)))) = true := by
    rw [← hc, show s.quiet.takesFlits (s.quiet.rd (R.RAW_CFG_REGION n.val)) = true from ht, decide_eq_false h0,
      decide_eq_false (show ¬ 48 / s.quiet.lanes n.val < cols from Nat.not_lt.2 hw)]
    decide
  subst hc
  change execRawFlitOut n (some f) s = _
  simp only [execRawFlitOut, show s.quiet.lstate n.val = .raw from hs, show s.quiet.linesReset = false from hl, ne_eq, not_true_eq_false,
    decide_false, Bool.or_self, Bool.false_eq_true, if_neg hgoes, if_false]
  rfl

end

end Sys2Proof.Machine

namespace Sys2Proof.Proofs

open Sys2Proof.Machine

/-- Settles O29: a frame by what was read of it, a replay by how often its frames were sent, a marker by its place, a raw flit by the region that takes
or gives it, and a code by its sub-blocks (`decodeSym_encodeSym`). -/
theorem linkFramesAndMarkers : Obligations.LinkFramesAndMarkers := by
  unfold Obligations.LinkFramesAndMarkers
  refine ⟨?bad, ?control, ?aborted, ?replay, ?givesUp, ?early, ?late, ?places, ?rawIn, ?overrun, ?taken, ?barred, ?underrun, ?unchanged, ?encoded,
    ?code⟩
  case bad =>
    intro g f k s u hs hf hk hu ha hbad
    exact exec_frame_bad hs hf hk hu ha hbad
  case control =>
    intro g f k s u h hs hf hk hu ha hgood hh hc
    exact exec_frame_control hs hf hk hu ha hgood hh hc
  case aborted =>
    intro g f s hs hf ha
    exact exec_frame_aborted hs hf rfl rfl ha
  case replay =>
    intro g s x hs hx hne hr ht
    subst hx
    exact (exec_replayTimeout_due hs ht).trans (congrArg _ (State.linkReplay_again (s := s.quiet) rfl hne hr))
  case givesUp =>
    intro g s hs hr ht
    exact (exec_replayTimeout_due hs ht).trans (congrArg _ (State.linkReplay_gives_up (s := s.quiet) hr))
  case early =>
    intro g s ht
    exact exec_replayTimeout_early ht
  case late =>
    intro g count offset frac s arr src place hsrc hg ha hr harr hS hp hl
    exact exec_tickMarker_late hsrc hg ha hr harr hS hp hl
  case places =>
    intro g count offset frac s arr src place hsrc hg ha hr harr hS hp hl hd
    exact exec_tickMarker_places hsrc hg ha hr harr hS hp hl hd
  case rawIn =>
    intro g codes s u r flit hlen hs hw hr hall hu hf hroom
    rw [exec_rawFlitIn_sound hlen hs hw hr hall hu hf, if_pos hroom]
  case overrun =>
    intro g codes s u r flit hlen hs hw hr hall hu hf hfull
    rw [exec_rawFlitIn_sound hlen hs hw hr hall hu hf, if_neg (Nat.not_lt.2 hfull)]
  case taken =>
    intro g f rest s hq ht
    exact State.deliverRaw_oldest hq ht
  case barred =>
    intro g k s ht
    exact State.deliverRaw_barred ht
  case underrun =>
    intro g s hs hl
    exact exec_rawFlitOut_none hs hl
  case unchanged =>
    intro g f cols s hs hl hc h0 hw ht hform
    rw [exec_rawFlitOut_some hs hl hc h0 hw ht, if_pos hform]
  case encoded =>
    intro g f cols s hs hl hc h0 hw ht hform
    rw [exec_rawFlitOut_some hs hl hc h0 hw ht, hform, List.map_map]
    rfl
  case code =>
    intro rd y c h
    exact decodeSym_encodeSym rd y h

end Sys2Proof.Proofs
end

section
/-! PROOF. Twin records (13_twin.md, R357 to R375). -/

namespace Sys2Proof.Machine

variable {s u : State} {rq : Request} {kind size : Nat} {f : State → State}

/-! ## Records of a listed kind (R357) -/

section

variable (hn : rq.acc.op = .nwr ∧ rq.acc.dstNode = twinNode)

theorem not_other_node (hn : rq.acc.op = .nwr ∧ rq.acc.dstNode = twinNode) : ¬ (rq.acc.op ≠ .nwr ∨ rq.acc.dstNode ≠ twinNode) :=
  not_or.2 ⟨not_not_intro hn.1, not_not_intro hn.2⟩

include hn

theorem State.twinRecord_unlisted (hk : 8 < twinKind rq) : s.twinRecord rq kind size f = s.reply rq .decode :=
  (if_neg (not_other_node hn)).trans (if_pos (.inr hk))

/-- A record of its kind that is long enough takes effect and is answered OK. -/
theorem State.twinRecord_ok (hk : twinKind rq = kind) (hlisted : 1 ≤ kind ∧ kind ≤ 8) (hl : size ≤ rq.acc.data.length) :
    s.twinRecord rq kind size f = (f s).reply rq .ok := by
  have hkind : ¬ (twinKind rq = 0 ∨ 8 < twinKind rq) := by omega
  rw [State.twinRecord, if_neg (not_other_node hn), if_neg hkind, if_neg (not_not_intro hk), if_neg (Nat.not_lt.2 hl)]

variable {wanted : Bool}

theorem State.pairRecord_wanted (hk : twinKind rq = kind) (hlisted : 1 ≤ kind ∧ kind ≤ 8) (hl : size ≤ rq.acc.data.length)
    (hp : s.fromPeer rq = true) (hw : wanted = true) : s.pairRecord rq kind size wanted f = (f s).reply rq .ok := by
  rw [State.pairRecord, State.twinRecord_ok hn hk hlisted hl, if_pos (by rw [hp, hw]; rfl)]

/-- A pair record of another device. -/
theorem State.pairRecord_stranger (hk : twinKind rq = kind) (hlisted : 1 ≤ kind ∧ kind ≤ 8) (hl : size ≤ rq.acc.data.length)
    (hp : s.fromPeer rq = false) : s.pairRecord rq kind size wanted f = (s.log (.unclassified 8) []).reply rq .ok := by
  rw [State.pairRecord, State.twinRecord_ok hn hk hlisted hl, hp]
  rfl

variable {g : State → Nat → State} {wants : Nat → Bool}

theorem State.barRecord_wanted (hk : twinKind rq = kind) (hlisted : 1 ≤ kind ∧ kind ≤ 8) (hl : 8 ≤ rq.acc.data.length)
    (hb : s.globalBar (recordNat rq 0 1) = true) (hw : wants (recordNat rq 0 1) = true) :
    s.barRecord rq kind wants g = (g s (recordNat rq 0 1)).reply rq .ok := by
  rw [State.barRecord, State.twinRecord_ok hn hk hlisted hl]
  simp only [hb, hw, Bool.and_self, if_true]

theorem State.barRecord_unwanted (hk : twinKind rq = kind) (hlisted : 1 ≤ kind ∧ kind ≤ 8) (hl : 8 ≤ rq.acc.data.length)
    (hb : s.globalBar (recordNat rq 0 1) = false ∨ wants (recordNat rq 0 1) = false) :
    s.barRecord rq kind wants g = (s.log (.unclassified 8) []).reply rq .ok := by
  rw [State.barRecord, State.twinRecord_ok hn hk hlisted hl]
  simp only [Bool.and_eq_false_iff.2 hb, Bool.false_eq_true, if_false]

end

theorem State.twinRecord_elsewhere (h : rq.acc.op ≠ .nwr ∨ rq.acc.dstNode ≠ twinNode) : s.twinRecord rq kind size f = s :=
  if_pos h

/-! ## The stream of a mirror (R365) -/

section

variable {off : Nat} {v : State} (hn : rq.acc.op = .nwr ∧ rq.acc.dstNode = twinNode) (hk : twinKind rq = 1) (hl : 1 ≤ rq.acc.data.length)
  (hp : s.fromPeer rq = true) (hs : s.twin.standby = true) (ho : off = rq.acc.addr % 2 ^ 40)
  (hu : u = cond (decide (off = 0)) (s.quiet.setTwin { s.twin with rx := [], rxLost := [] }) s.quiet)
  (hv : v = u.setTwin { u.twin with rx := ((List.range rq.acc.data.length).zip rq.acc.data).foldl (fun m (e : Nat × Byte) =>
    storeSet 0 (off + e.1) (1 + e.2.toNat + (cond (rq.acc.poison.testBit ((rq.acc.addr % 8 + e.1) / 8)) 256 0)) m) u.twin.rx })

include hn hk hl hp hs ho hu hv

/-- Stream bytes are kept at their offset, and those of a bank item go to the copies. -/
theorem exec_mirrorData_kept : exec (.mirrorData rq) s =
    .next ((v.mirrorBanks (rxBanks u.twin.rx 2200 0) off (off + rq.acc.data.length)).reply rq .ok) := by
  refine congrArg _ ((State.pairRecord_wanted (s := s.quiet) hn hk (by decide) hl hp hs).trans ?_)
  rw [Bool.cond_decide] at hu
  simp only [Bool.cond_eq_ite] at hv
  subst ho hv hu
  rfl

end

/-! ## Reset broadcasts (R375) -/

section

variable {g : Fin 24} {id : Nat} (hn : rq.acc.op = .nwr ∧ rq.acc.dstNode = twinNode) (hk : twinKind rq = 8) (hl : 8 ≤ rq.acc.data.length)
  (hid : id = recordNat rq 0 2)

include hn hk hl hid

theorem exec_reset_new (ha : s.is1 R.GRESET_CTL_ACCEPT = true) (hnew : s.twin.lastReset ≠ some id) (hu : u = s.quiet.forwardReset id (some g.val)) :
    exec (.reset rq g) s = .next (((u.setTwin { u.twin with lastReset := some id }).askReset 4).reply rq .ok) := by
  subst hid hu
  refine congrArg _ ((State.twinRecord_ok hn hk (by decide) hl).trans ?_)
  refine congrArg (State.reply · rq .ok) (if_neg ?_)
  rw [show s.quiet.is1 R.GRESET_CTL_ACCEPT = true from ha, show (s.quiet.twin.lastReset == some (recordNat rq 0 2)) = false from
    beq_eq_false_iff_ne.2 hnew]
  decide

theorem exec_reset_known (ha : s.is1 R.GRESET_CTL_ACCEPT = false ∨ s.twin.lastReset = some id) :
    exec (.reset rq g) s = .next (s.quiet.reply rq .ok) := by
  subst hid
  refine congrArg _ ((State.twinRecord_ok hn hk (by decide) hl).trans ?_)
  refine congrArg (State.reply · rq .ok) (if_pos ?_)
  rw [Bool.or_eq_true, Bool.not_eq_true', beq_iff_eq]
  exact ha

end

end Sys2Proof.Machine

namespace Sys2Proof.Proofs

open Sys2Proof.Machine

/-- Settles O30: a record by its kind, its sender and the part of this device in the pair, a barrier record by its barrier, a RESET by its ID. -/
theorem twinRecords : Obligations.TwinRecords := by
  unfold Obligations.TwinRecords
  refine ⟨?unlisted, ?join, ?data, ?mirrored, ?check, ?resign, ?joinStranger, ?dataStranger, ?endStranger, ?checkStranger, ?resignStranger, ?arrive,
    ?release, ?arriveOther, ?releaseOther, ?elsewhere, ?reset, ?resetKnown⟩
  case unlisted =>
    intro rq s hn hk
    exact congrArg _ (State.twinRecord_unlisted hn hk)
  case join =>
    intro rq s hn hk hl hp
    exact congrArg _ (State.pairRecord_wanted (s := s.quiet) hn hk (by decide) hl hp rfl)
  case data =>
    intro rq s u v off hn hk hl hp hs ho hu hv
    exact exec_mirrorData_kept hn hk hl hp hs ho hu hv
  case mirrored =>
    intro rq s hn hk hl hp hs
    exact congrArg _ (State.pairRecord_wanted (s := s.quiet) hn hk (by decide) hl hp hs)
  case check =>
    intro rq s hn hk hl hp hs
    have hsome : s.twin.paired.isSome = true := by rwa [← Option.not_isNone, Bool.not_eq_true']
    exact congrArg _ (State.pairRecord_wanted (s := s.quiet) hn hk (by decide) hl hp hsome)
  case resign =>
    intro rq s hn hk hl hp hs hst
    have hpart : (s.twin.standby && (s.pstate == .standby || s.pstate == .joining || s.pstate == .taking)) = true := by
      simp only [hs, Bool.true_and, Bool.or_eq_true, beq_iff_eq, or_assoc, hst]
    exact congrArg _ (State.pairRecord_wanted (s := s.quiet) hn hk (by decide) hl hp hpart)
  case joinStranger =>
    intro rq s hn hk hl hp
    exact congrArg _ (State.pairRecord_stranger (s := s.quiet) hn hk (by decide) hl hp)
  case dataStranger =>
    intro rq s hn hk hl hp
    exact congrArg _ (State.pairRecord_stranger (s := s.quiet) hn hk (by decide) hl hp)
  case endStranger =>
    intro rq s hn hk hl hp
    exact congrArg _ (State.pairRecord_stranger (s := s.quiet) hn hk (by decide) hl hp)
  case checkStranger =>
    intro rq s hn hk hl hp
    exact congrArg _ (State.pairRecord_stranger (s := s.quiet) hn hk (by decide) hl hp)
  case resignStranger =>
    intro rq s hn hk hl hp
    exact congrArg _ (State.pairRecord_stranger (s := s.quiet) hn hk (by decide) hl hp)
  case arrive =>
    intro rq s b hn hk hl hb ⟨hglobal, hleader⟩
    subst hb
    exact congrArg _ (State.barRecord_wanted (s := s.quiet) (wants := fun b => s.rd (R.GBAR_CFG_LEADER b) == s.rd R.NET_CFG_DEV_NUM)
      hn hk (by decide) hl hglobal (beq_iff_eq.2 hleader))
  case release =>
    intro rq s b hn hk hl hb ⟨hglobal, hsent⟩
    subst hb
    exact congrArg _ (State.barRecord_wanted (s := s.quiet) (wants := fun b => (s.gbar b).sent) hn hk (by decide) hl hglobal hsent)
  case arriveOther =>
    intro rq s b hn hk hl hb hother
    subst hb
    exact congrArg _ (State.barRecord_unwanted (s := s.quiet) (wants := fun b => s.rd (R.GBAR_CFG_LEADER b) == s.rd R.NET_CFG_DEV_NUM)
      hn hk (by decide) hl (hother.imp_right beq_eq_false_iff_ne.2))
  case releaseOther =>
    intro rq s b hn hk hl hb hother
    subst hb
    exact congrArg _ (State.barRecord_unwanted (s := s.quiet) (wants := fun b => (s.gbar b).sent) hn hk (by decide) hl hother)
  case elsewhere =>
    intro rq s h
    exact congrArg _ (State.twinRecord_elsewhere h)
  case reset =>
    intro rq g s id u hn hk hl hid ha hnew hu
    exact exec_reset_new hn hk hl hid ha hnew hu
  case resetKnown =>
    intro rq g s id hn hk hl hid ha
    exact exec_reset_known hn hk hl hid ha

end Sys2Proof.Proofs
end

section
/-! PROOF. What a snoop unit counts and computes (14_crc_snoop.md, R378, R380). -/

namespace Sys2Proof.Machine

/-- What passes a unit: its network, opcode and node, each against the unit's filter. -/
theorem State.snoopPasses_iff {s : State} {u : Nat} {p : Packet} : s.snoopPasses u p = true ↔
    (s.rd (R.SNOOP_FILT_VN_EN u)).testBit (vnNum p.vn) = true ∧
      p.op &&& s.rd (R.SNOOP_FILT_OPC_MASK u) = s.rd (R.SNOOP_FILT_OPC_VAL u) &&& s.rd (R.SNOOP_FILT_OPC_MASK u) ∧
      (if s.is1 (R.SNOOP_FILT_NSEL u) then p.srcNode else p.dstNode) &&& s.rd (R.SNOOP_NMASK_NMASK u) =
        s.rd (R.SNOOP_FILT_NVAL u) &&& s.rd (R.SNOOP_NMASK_NMASK u) := by
  simp only [State.snoopPasses, State.bit, Bool.and_eq_true, beq_iff_eq, and_assoc]

/-- The bytes "123456789", for which the spec states the check values. -/
def checkBytes : List Byte := [0x31, 0x32, 0x33, 0x34, 0x35, 0x36, 0x37, 0x38, 0x39]

theorem crc32_checkBytes : Alg.crc32.of checkBytes = 0xCBF43926 := by
  simp [checkBytes, Alg.of, Alg.run, Alg.init, Alg.byte, Alg.result, crcRightByte, crcRightBits, crcRightBit]

theorem crc32c_checkBytes : Alg.crc32c.of checkBytes = 0xE3069283 := by
  simp [checkBytes, Alg.of, Alg.run, Alg.init, Alg.byte, Alg.result, crcRightByte, crcRightBits, crcRightBit]

theorem crc16_checkBytes : Alg.crc16.of checkBytes = 0x29B1 := by
  simp [checkBytes, Alg.of, Alg.run, Alg.init, Alg.byte, Alg.result, crcLeftByte, crcLeftBits, crcLeftBit]

/-- An empty window leaves the initial value. -/
theorem Alg.of_nil (g : Alg) : g.of [] = g.result g.init := rfl

end Sys2Proof.Machine

namespace Sys2Proof.Proofs

open Sys2Proof.Machine

/-- Settles O59: the filter by its three parts, the check values by computing them. -/
theorem snoopFilterAndCheckValues : Obligations.SnoopFilterAndCheckValues := by
  unfold Obligations.SnoopFilterAndCheckValues
  refine ⟨?filter, ?values, ?none⟩
  case filter =>
    intro s u p
    exact State.snoopPasses_iff
  case values =>
    intro bs hbs
    subst hbs
    exact ⟨crc32_checkBytes, crc32c_checkBytes, crc16_checkBytes⟩
  case none =>
    simp only [Alg.of_nil]
    exact ⟨Nat.xor_self _, Nat.xor_self _, rfl⟩

end Sys2Proof.Proofs
end

section
/-! PROOF. Measurement and the thermal throttle (15_power_thermal.md, R393 to R407). -/

namespace Sys2Proof.Machine

variable {s u z : State} {ini : Ini}

/-! ## Times (R395, R400, R401, R405) -/

theorem State.passed_some {since : Option Nat} {a k : Nat} (hs : since = some a) (ha : a + k ≤ s.now) : s.passed since k = true := by
  rw [hs]
  exact decide_eq_true ha

theorem exec_graceEnd_over (hl : s.rd R.THERM_STAT_LEVEL = 1) (hp : s.passed s.thermal.graceAt (msCycles (s.rd R.THERM_CTL_GRACE_MS)) = true) :
    exec .graceEnd s = .next (if s.askReached then s.quiet.setThrottle 2 1 else s.quiet.setThermal { s.thermal with graceAt := none }) := by
  change execGraceEnd s = _
  simp only [execGraceEnd, show s.quiet.rd R.THERM_STAT_LEVEL = 1 from hl,
    show s.quiet.passed s.quiet.thermal.graceAt (msCycles (s.quiet.rd R.THERM_CTL_GRACE_MS)) = true from hp, ne_eq, not_true_eq_false,
    decide_false, Bool.not_true, Bool.or_self, Bool.false_eq_true, if_false]
  exact (apply_ite Host.Outcome.next ..).symm

theorem exec_graceEnd_early (hp : s.passed s.thermal.graceAt (msCycles (s.rd R.THERM_CTL_GRACE_MS)) = false) :
    exec .graceEnd s = .next s.quiet := by
  refine if_pos ?_
  rw [show s.quiet.passed s.quiet.thermal.graceAt (msCycles (s.quiet.rd R.THERM_CTL_GRACE_MS)) = false from hp, Bool.not_false, Bool.or_true]

theorem exec_clockStepRise_hot (hl : s.rd R.THERM_STAT_LEVEL = 2) (ha : s.askReached = true)
    (hp : s.passed s.thermal.hotAt (msCycles 10) = true) (hstep : s.rd R.THERM_STAT_STEP < 4) : exec .clockStepRise s =
      .next (((s.quiet.wr R.THERM_STAT_STEP (s.rd R.THERM_STAT_STEP + 1)).setThermal { s.thermal with hotAt := some s.now }).notices 2) := by
  refine if_pos ?_
  rw [show s.quiet.rd R.THERM_STAT_LEVEL = 2 from hl, show s.quiet.askReached = true from ha,
    show s.quiet.passed s.quiet.thermal.hotAt (msCycles 10) = true from hp, decide_eq_true (show s.quiet.rd R.THERM_STAT_STEP < 4 from hstep)]
  rfl

theorem exec_clockStepRise_last (hstep : 4 ≤ s.rd R.THERM_STAT_STEP) : exec .clockStepRise s = .next s.quiet := by
  refine if_neg ?_
  rw [decide_eq_false (show ¬ s.quiet.rd R.THERM_STAT_STEP < 4 from Nat.not_lt.2 hstep), Bool.and_false]
  exact Bool.false_ne_true

/-- A dwell that has passed relaxes the level by one. -/
theorem exec_dwellEnd_over (hm : s.mayRelax = true) (hp : s.passed s.thermal.coolAt (msCycles s.dwellMs) = true) :
    exec .dwellEnd s = match s.rd R.THERM_STAT_LEVEL with
      | 3 => .next (s.quiet.setThrottle 2 4)
      | 2 => .next (s.quiet.setThrottle 1 0)
      | _ => .next (s.quiet.setThrottle 0 0) := by
  refine if_neg ?_
  rw [show s.quiet.mayRelax = true from hm, show s.quiet.passed s.quiet.thermal.coolAt (msCycles s.quiet.dwellMs) = true from hp]
  decide

theorem exec_dwellEnd_early (h : s.mayRelax = false ∨ s.passed s.thermal.coolAt (msCycles s.dwellMs) = false) :
    exec .dwellEnd s = .next s.quiet := by
  refine if_pos ?_
  rw [Bool.or_eq_true, Bool.not_eq_true', Bool.not_eq_true']
  exact h

/-! ## HOLD and notices (R406, R407) -/

theorem exec_releaseHold_full (hf : s.holdsFull ini = true) (ht : s.turnedAway R.THERM_STAT_HOLD.off = none) :
    exec (.releaseHold ini) s = .next ((s.quiet.clr R.THERM_STAT_HOLD).okWrite ini) :=
  congrArg _ ((if_pos hf).trans (State.written_ok ht))

theorem exec_releaseHold_denied (hf : s.holdsFull ini = false) : exec (.releaseHold ini) s = .next (s.quiet.emit (.regAnswer ini .denied 0)) :=
  congrArg _ (if_neg (hf ▸ Bool.false_ne_true))

theorem exec_notifyAnswer_failed {tag : BitVec 8} {a : Answer} (hn : s.thermal.notices.contains tag.toNat = true)
    (ht : s.quiet.takeAnswer noticeNode tag.toNat a = some u) (hc : a.code ≠ .ok) : exec (.notifyAnswer tag a) s =
      .next ((u.setThermal { u.thermal with notices := u.thermal.notices.erase tag.toNat }).log .thermNotifyFail [a.code.code]) := by
  change execNotifyAnswer tag a s = _
  simp only [execNotifyAnswer, show s.quiet.thermal.notices.contains tag.toNat = true from hn, ht, hc, Bool.not_true, Bool.false_eq_true, if_false]

/-! ## Powers (R393, R407) -/

/-- OVER lies in a register of its own. -/
theorem State.level_setOver (s : State) : (s.set1 R.PWR_LIMIT_OVER).rd R.THERM_STAT_LEVEL = s.rd R.THERM_STAT_LEVEL :=
  State.wr_rd_ne _ _ _ _ (by decide)

section

variable {currents others powers totals : List Nat} (hlen : currents.length = 112 ∧ others.length = 7)
  (hp : powers = ((List.range 119).zip (currents ++ others)).map (fun e => s.quiet.domainPower e.1 e.2))
  (hu : u = (List.range 112).foldl (fun (t : State) d => t.wr (R.PWR_DOM_MW_POWER d) (min ((powers.take 112).getD d 0) (2 ^ 20 - 1))) s.quiet)
  (ht : totals = (powers.sum :: u.thermal.totals).take 100)
  (hz : z = ((u.setThermal { u.thermal with totals := totals, powers := powers }).wr R.PWR_TOTAL_NOW (min (powers.sum / 100) 0xFFFF)).wr R.PWR_TOTAL_AVG
    (min (totals.sum / (100 * totals.length)) 0xFFFF))

include hlen hp hu ht hz

/-- The powers of an interval are shown and averaged, and the average is held against LIMIT. -/
theorem exec_monitorInterval_measured : exec (.monitorInterval currents others) s =
    if 100 * z.rd R.PWR_LIMIT_LIMIT * totals.length < totals.sum then
      if (z.set1 R.PWR_LIMIT_OVER).rd R.THERM_STAT_LEVEL = 0 then .next (((z.set1 R.PWR_LIMIT_OVER).set1 R.THERM_STAT_POWER_SRC).setThrottle 1 0)
      else .next (z.set1 R.PWR_LIMIT_OVER).countDwell
    else .next z.countDwell := by
  subst hp hu ht hz
  exact if_neg (not_or.2 ⟨not_not_intro hlen.1, not_not_intro hlen.2⟩)

theorem exec_monitorInterval_within (hl : ¬ 100 * z.rd R.PWR_LIMIT_LIMIT * totals.length < totals.sum) :
    exec (.monitorInterval currents others) s = .next z.countDwell := by
  rw [exec_monitorInterval_measured hlen hp hu ht hz, if_neg hl]

theorem exec_monitorInterval_over (hl : 100 * z.rd R.PWR_LIMIT_LIMIT * totals.length < totals.sum) (hlevel : z.rd R.THERM_STAT_LEVEL ≠ 0) :
    exec (.monitorInterval currents others) s = .next (z.set1 R.PWR_LIMIT_OVER).countDwell := by
  rw [exec_monitorInterval_measured hlen hp hu ht hz, if_pos hl, State.level_setOver, if_neg hlevel]

theorem exec_monitorInterval_asks (hl : 100 * z.rd R.PWR_LIMIT_LIMIT * totals.length < totals.sum) (hlevel : z.rd R.THERM_STAT_LEVEL = 0) :
    exec (.monitorInterval currents others) s = .next (((z.set1 R.PWR_LIMIT_OVER).set1 R.THERM_STAT_POWER_SRC).setThrottle 1 0) := by
  rw [exec_monitorInterval_measured hlen hp hu ht hz, if_pos hl, State.level_setOver, if_pos hlevel]

end

/-! ## Rounds (R394 to R400) -/

theorem exec_hkRound_judged {values : List (BitVec 16)} (hlen : values.length = 256)
    (hu : u = (List.range 192).foldl (fun (t : State) i => t.judgeSensor i (ofSigned 16 (values.getD i 0).toNat)) s.quiet.readmitAll)
    (hz : z = (((List.range 32).foldl State.judgeVccio
      ((List.range 256).foldl (fun (t : State) c => t.takeChannel c (values.getD c 0).toNat) u)).moveLid).govern) :
    exec (.hkRound values) s =
      .next ((z.setThermal { z.thermal with govRound := some (z.rd R.THERM_STAT_LAYER, z.rd R.THERM_STAT_CELL) }).throttle) := by
  subst hu hz
  exact if_neg (not_not_intro hlen)

end Sys2Proof.Machine

namespace Sys2Proof.Proofs

open Sys2Proof.Machine

/-- Settles O34: the end of a time by whether it has passed, an interval by its average and the level, a round by its readings. -/
theorem thermalThrottle : Obligations.ThermalThrottle := by
  unfold Obligations.ThermalThrottle
  refine ⟨?graceHot, ?graceCool, ?graceEarly, ?rise, ?riseLast, ?deep, ?enforced, ?asked, ?dwellEarly, ?hold, ?holdDenied, ?readmit, ?notice,
    ?intervalBad, ?within, ?exceeds, ?asks, ?roundBad, ?round, ?model⟩
  case graceHot =>
    intro a s hl ha hp hr
    rw [exec_graceEnd_over hl (State.passed_some ha hp), if_pos hr]
  case graceCool =>
    intro a s hl ha hp hr
    rw [exec_graceEnd_over hl (State.passed_some ha hp), if_neg (hr ▸ Bool.false_ne_true)]
  case graceEarly =>
    intro s hp
    exact exec_graceEnd_early hp
  case rise =>
    intro a s hl hr ha hp hstep
    exact exec_clockStepRise_hot hl hr (State.passed_some ha hp) hstep
  case riseLast =>
    intro s _ hstep
    exact exec_clockStepRise_last hstep
  case deep =>
    intro a s hm ha hp hl
    rw [exec_dwellEnd_over hm (State.passed_some ha hp), hl]
    rfl
  case enforced =>
    intro a s hm ha hp hl
    rw [exec_dwellEnd_over hm (State.passed_some ha hp), hl]
    rfl
  case asked =>
    intro a s hm ha hp hl
    rw [exec_dwellEnd_over hm (State.passed_some ha hp), hl]
    rfl
  case dwellEarly =>
    intro s h
    exact exec_dwellEnd_early h
  case hold =>
    intro ini s hf ht
    exact exec_releaseHold_full hf ht
  case holdDenied =>
    intro ini s hf
    exact exec_releaseHold_denied hf
  case readmit =>
    intro ini l v s ht
    exact congrArg _ (State.written_ok ht)
  case notice =>
    intro tag a s u hn ht hc
    exact exec_notifyAnswer_failed hn ht hc
  case intervalBad =>
    intro currents others s hlen
    exact if_pos hlen
  case within =>
    intro currents others powers totals s u z hlen hp hu ht hz hl
    exact exec_monitorInterval_within hlen hp hu ht hz hl
  case exceeds =>
    intro currents others powers totals s u z hlen hp hu ht hz hl hlevel
    exact exec_monitorInterval_over hlen hp hu ht hz hl hlevel
  case asks =>
    intro currents others powers totals s u z hlen hp hu ht hz hl hlevel
    exact exec_monitorInterval_asks hlen hp hu ht hz hl hlevel
  case roundBad =>
    intro values s hlen
    exact if_pos hlen
  case round =>
    intro values s u z hlen hu hz
    exact exec_hkRound_judged hlen hu hz
  case model =>
    intro s u hu
    subst hu
    rfl

end Sys2Proof.Proofs
end

section
/-! PROOF. The front desk's transactions (16_start_journal_front_desk.md, R417, R432 to R435). -/

namespace Sys2Proof.Machine

variable {s : State} {ini : Ini}

/-! ## BUSY and READY (R417, R433) -/

theorem State.deskBusy_iff : s.deskBusy = true ↔ s.desk.ready = true ∧ s.desk.status = 1 := by
  rw [State.deskBusy, Bool.and_eq_true, beq_iff_eq]

theorem State.deskBusy_of_busy (hr : s.desk.ready = true) (hb : s.desk.status = 1) : s.deskBusy = true := State.deskBusy_iff.2 ⟨hr, hb⟩

theorem State.deskBusy_of_idle (hb : s.desk.status ≠ 1) : s.deskBusy = false :=
  Bool.eq_false_iff.2 fun h => hb (State.deskBusy_iff.1 h).2

/-- The complement of an opcode is the only one that its transaction is taken with (R432). -/
theorem DeskOp.okay_of_ne {o : DeskOp} {comp : BitVec 8} (h : comp ≠ ~~~o.code) : o.okay comp = false := beq_eq_false_iff_ne.2 h

/-! ## READ_STATUS and COMMAND (R432 to R434) -/

theorem exec_readStatus_pins {comp : BitVec 8} : exec (.readStatus (.pins comp)) s =
    .next (if DeskOp.readStatus.okay comp then s.quiet.emit (.deskOut s.statusBlock) else s.quiet) := rfl

theorem atMirror_iff {rq : Request} {op : ReqOp} : atMirror rq op = true ↔ rq.acc.op = op ∧ rq.acc.dstNode = 6 := by
  rw [atMirror, Bool.and_eq_true, beq_iff_eq, beq_iff_eq]

theorem exec_readStatus_mirror {rq : Request} (hm : rq.acc.op = .nrd ∧ rq.acc.dstNode = 6) (ha : rq.acc.addr = 0 ∧ rq.acc.size = 8) :
    exec (.readStatus (.mirror rq)) s = .next (s.quiet.replyData rq s.statusBlock 0) := by
  have hgoes : ¬ (!(atMirror rq .nrd)) = true := by
    rw [atMirror_iff.2 hm]
    decide
  exact (if_neg hgoes).trans (if_pos ha)

theorem exec_readStatus_elsewhere {rq : Request} (hm : ¬ (rq.acc.op = .nrd ∧ rq.acc.dstNode = 6)) :
    exec (.readStatus (.mirror rq)) s = .fault (.illFormed "READ_STATUS") := by
  refine if_pos ?_
  rw [Bool.not_eq_true', Bool.eq_false_iff, ne_eq, atMirror_iff]
  exact hm

theorem exec_command_pins {comp : BitVec 8} {block : List Byte} (hl : block.length = 16) : exec (.command (.pins comp 0 block)) s =
    .next (if DeskOp.command.okay comp then s.quiet.deskCommand block else s.quiet) :=
  if_pos ⟨rfl, hl⟩

theorem State.deskCommand_early {block : List Byte} (hr : s.desk.ready = false) : s.deskCommand block = s := by
  refine if_pos ?_
  rw [hr]
  rfl

theorem State.deskCommand_busy {block : List Byte} (hr : s.desk.ready = true) (hb : s.desk.status = 1) :
    s.deskCommand block = s.setDesk { s.desk with reject := true } := by
  simp only [State.deskCommand, hr, State.deskBusy_of_busy hr hb, Bool.not_true, Bool.false_eq_true, if_false, if_true]

theorem State.deskCommand_accepted {block : List Byte} (hr : s.desk.ready = true) (hb : s.desk.status ≠ 1)
    (hc : codeListed (leNat (block.take 1)) = true) : s.deskCommand block = s.setDesk
      { ready := true, code := leNat (block.take 1), arg0 := leNat ((block.drop 4).take 4), arg1 := leNat ((block.drop 8).take 8), since := s.now } := by
  simp only [State.deskCommand, hr, State.deskBusy_of_idle hb, hc, Bool.not_true, Bool.false_eq_true, if_false, if_true]

/-! ## DATA_IN and DATA_OUT (R432) -/

section

variable {off count : Nat} {comp : BitVec 8} {bytes : List Byte}

theorem exec_dataIn_pins (hl : off < 2 ^ 32 ∧ 1 ≤ bytes.length ∧ bytes.length ≤ 4096) : exec (.dataIn (.pins comp off bytes)) s =
    .next (if DeskOp.dataIn.okay comp then s.quiet.deskInput off bytes fun _ => false else s.quiet) :=
  if_pos hl

/-- Bytes from the pins, which carry no poison, are kept for the command. -/
theorem State.deskInput_fromPins (hr : s.desk.ready = true) (hb : s.desk.status = 1) : (s.deskInput off bytes fun _ => false) = s.setDesk { s.desk with
    input := ((List.range bytes.length).zip bytes).foldl (fun m (e : Nat × Byte) => storeSet 0 (off + e.1) (1 + e.2.toNat) m) s.desk.input
    progress := if s.desk.code = 1 then (s.desk.progress + bytes.length) % 2 ^ 32 else s.desk.progress } := by
  simp only [State.deskInput, hr, State.deskBusy_of_busy hr hb, Bool.not_true, Bool.false_eq_true, if_false, Nat.add_zero]

theorem State.deskInput_unasked {poisoned : Nat → Bool} (hr : s.desk.ready = true) (hb : s.deskBusy = false) :
    s.deskInput off bytes poisoned = s.log (.unclassified 0xA) [] := by
  simp only [State.deskInput, hr, hb, Bool.not_true, Bool.not_false, Bool.false_eq_true, if_false, if_true]

theorem exec_dataOut_ready (hc : 1 ≤ count ∧ count ≤ 4096) (hr : s.desk.ready = true) : exec (.dataOut ⟨0xDB, off⟩ count) s =
    .next (s.quiet.emit (.deskOut ((List.range count).map fun i => if s.deskBusy then 0 else s.desk.result.getD (off + i) 0))) := by
  have hfits : ¬ (count = 0 ∨ 4096 < count) := by omega
  have hgoes : ¬ (!s.quiet.desk.ready || !(DeskOp.dataOut.okay 0xDB)) = true := by
    rw [show s.quiet.desk.ready = true from hr]
    decide
  exact (if_neg hfits).trans (if_neg hgoes)

theorem exec_dataOut_wrong (hc : 1 ≤ count ∧ count ≤ 4096) (hw : comp ≠ 0xDB) : exec (.dataOut ⟨comp, off⟩ count) s = .next s.quiet := by
  have hfits : ¬ (count = 0 ∨ 4096 < count) := by omega
  refine (if_neg hfits).trans (if_pos ?_)
  rw [DeskOp.okay_of_ne hw, Bool.not_false, Bool.or_true]

end

/-! ## ABORT (R435) -/

section

variable {point : DeskPoint} {comp : BitVec 8}

theorem exec_abort_idle (hb : s.deskBusy = false) : exec (.abort ⟨comp, point⟩) s = .next s.quiet := by
  refine if_pos ?_
  rw [show s.quiet.deskBusy = false from hb, Bool.not_false, Bool.true_or]

theorem exec_abort_wrong (hw : comp ≠ 0x80) : exec (.abort ⟨comp, point⟩) s = .next s.quiet := by
  refine if_pos ?_
  rw [DeskOp.okay_of_ne hw, Bool.not_false, Bool.or_true]

/-- ABORT of a command in progress, by what the command waits for. -/
theorem exec_abort_busy (hb : s.deskBusy = true) : exec (.abort ⟨0x80, point⟩) s = .next (match s.desk.wait with
    | none => s.quiet.abortFresh
    | some .image => s.quiet.abortLoad
    | some .journal => s.quiet.abortWrite point
    | some .reset => s.quiet.abortReset) := by
  refine if_neg ?_
  rw [show s.quiet.deskBusy = true from hb]
  exact Bool.false_ne_true

theorem State.abortLoad_late (h : s.istate = .commit ∨ s.istate = .starting) : s.abortLoad = s.abortLate := by
  obtain h | h := h <;> rw [State.abortLoad, h]

end

end Sys2Proof.Machine

namespace Sys2Proof.Proofs

open Sys2Proof.Machine

/-- Settles O37: a transaction by its complement and the desk's state, an ABORT by what the command waits for. -/
theorem deskTransactions : Obligations.DeskTransactions := by
  unfold Obligations.DeskTransactions
  refine ⟨?status, ?mirror, ?elsewhere, ?early, ?busy, ?accepted, ?dataIn, ?unasked, ?result, ?zeros, ?abortIdle, ?abortFresh, ?abortAck,
    ?abortReset, ?complements, ?abortImage⟩
  case status =>
    intro s
    exact exec_readStatus_pins
  case mirror =>
    intro rq s hm ha
    exact exec_readStatus_mirror hm ha
  case elsewhere =>
    intro rq s hm
    exact exec_readStatus_elsewhere hm
  case early =>
    intro block s hl hr
    exact (exec_command_pins hl).trans (congrArg _ (State.deskCommand_early (s := s.quiet) hr))
  case busy =>
    intro block s hl hr hb
    exact (exec_command_pins hl).trans (congrArg _ (State.deskCommand_busy (s := s.quiet) hr hb))
  case accepted =>
    intro block s hl hr hb hc
    exact (exec_command_pins hl).trans (congrArg _ (State.deskCommand_accepted (s := s.quiet) hr hb hc))
  case dataIn =>
    intro off bytes s hl hr hb
    exact (exec_dataIn_pins hl).trans (congrArg _ (State.deskInput_fromPins (s := s.quiet) hr hb))
  case unasked =>
    intro off bytes s hl hr hb
    exact (exec_dataIn_pins hl).trans (congrArg _ (State.deskInput_unasked (s := s.quiet) (poisoned := fun _ => false) hr hb))
  case result =>
    intro off count s hc hr hb
    rw [exec_dataOut_ready hc hr, hb]
    rfl
  case zeros =>
    intro off count s hc hr hb
    rw [exec_dataOut_ready hc hr, hb]
    rfl
  case abortIdle =>
    intro point s hb
    exact exec_abort_idle hb
  case abortFresh =>
    intro point s hb hw hc
    rw [exec_abort_busy hb, hw]
    exact congrArg _ (if_neg hc)
  case abortAck =>
    intro point s hb hw hc
    rw [exec_abort_busy hb, hw]
    exact congrArg _ (if_pos hc)
  case abortReset =>
    intro point s hb hw hc
    rw [exec_abort_busy hb, hw]
    exact congrArg _ (if_pos hc)
  case complements =>
    intro comp off bytes offset count point s hl hc
    refine ⟨fun h => ?_, fun h h16 => ?_, fun h => ?_, fun h => exec_dataOut_wrong hc h, fun h => exec_abort_wrong h⟩
    · rw [exec_readStatus_pins, DeskOp.okay_of_ne h, if_neg Bool.false_ne_true]
    · rw [exec_command_pins h16, DeskOp.okay_of_ne h, if_neg Bool.false_ne_true]
    · rw [exec_dataIn_pins hl, DeskOp.okay_of_ne h, if_neg Bool.false_ne_true]
  case abortImage =>
    intro point s hb hw hi
    rw [exec_abort_busy hb, hw]
    exact congrArg _ (State.abortLoad_late (s := s.quiet) hi)

end Sys2Proof.Proofs
end

section
/-! PROOF. The front desk's commands (16_start_journal_front_desk.md, R420 to R434). -/

namespace Sys2Proof.Machine

variable {s : State}

/-! ## How a command begins and ends (R420, R433, R434) -/

theorem State.deskRun_begun {code : Nat} {f : State → State} (h : s.deskAt code = true) : s.deskRun code f = .next (f s.quiet) :=
  congrArg _ (if_pos h)

theorem State.deskEnd_failed {detail : Nat} :
    s.deskEnd false detail = s.setDesk { s.desk with wait := none, input := [], detail := detail, status := 3 } := rfl

/-- A journal that takes records takes the command's. -/
theorem State.deskJournal_asks {b : JBody} (hj : s.jnlShut = false) : s.deskJournal [b] = (s.jnlAsk b true).deskWait .journal := by
  rw [State.deskJournal, hj]
  rfl

theorem State.deskJournal_shut {bs : List JBody} (hj : s.jnlShut = true) : s.deskJournal bs = s.deskEnd false 5 := if_pos hj

/-- A load begins where the life cycle permits it and no image is in progress. -/
theorem State.deskLoad_begins {f : State → State} (hl : s.loadsPermitted = true) (hi : s.imgBusy = false ∧ s.start.trying = none) :
    s.deskLoad f = (f s).deskWait .image := by
  obtain ⟨hbusy, htrying⟩ := hi
  simp only [State.deskLoad, hl, hbusy, htrying, Option.isSome_none, Bool.not_true, Bool.or_self, Bool.false_eq_true, if_false]

theorem State.deskLoad_barred {f : State → State} (hl : s.loadsPermitted = false) : s.deskLoad f = s.deskEnd false 8 := by
  rw [State.deskLoad, hl]
  rfl

/-! ## Commands on registers and images (R423, R434, R440) -/

theorem exec_csrRead_ok {t : State} {v : Nat} (h : s.deskAt 2 = true) (hb : s.quiet.busRead s.quiet.deskIni s.desk.arg0 4 = (t, .ok, v)) :
    exec .csrRead s = .next (t.deskResult (leBytes 4 v) 0) := by
  change execCsrRead s = _
  rw [execCsrRead, State.deskRun_begun h]
  refine congrArg _ ?_
  simp only [show s.quiet.busRead s.quiet.deskIni s.quiet.desk.arg0 4 = (t, .ok, v) from hb, if_true]

theorem exec_csrWrite_ok {t : State} (h : s.deskAt 3 = true)
    (hb : s.quiet.busWrite s.quiet.deskIni s.desk.arg0 4 false (BitVec.ofNat 32 s.desk.arg1) = (t, .ok)) :
    exec .csrWrite s = .next (t.deskEnd true 0) := by
  change execCsrWrite s = _
  rw [execCsrWrite, State.deskRun_begun h]
  refine congrArg _ ?_
  simp only [show s.quiet.busWrite s.quiet.deskIni s.quiet.desk.arg0 4 false (BitVec.ofNat 32 s.quiet.desk.arg1) = (t, .ok) from hb, if_true]

theorem exec_bootRetry_retries {u : State} (h : s.deskAt 13 = true) (hl : s.loadsPermitted = true)
    (hi : s.imgBusy = false ∧ s.start.trying = none) (hstop : s.rd R.START_STAT_STOP_STEP = 0) (hstep : 6 ≤ s.rd R.START_STAT_STEP)
    (hst : s.is1 R.IMG_STATUS_STARTED = false)
    (hu : u = ((s.quiet.setStart { s.start with tried := [] }).wr R.START_STAT_STEP 6).clr R.START_STAT_WAIT_HOST) :
    exec .bootRetry s = .next (u.deskWait .image) := by
  have hgoes : ¬ (s.is1 R.IMG_STATUS_STARTED || decide (s.rd R.START_STAT_STEP < 6)) = true := by
    rw [hst, decide_eq_false (Nat.not_lt.2 hstep)]
    exact Bool.false_ne_true
  change execBootRetry s = _
  rw [execBootRetry, State.deskRun_begun h]
  refine congrArg _ ?_
  rw [if_neg (not_not_intro (show s.quiet.rd R.START_STAT_STOP_STEP = 0 from hstop)), State.deskLoad_begins (s := s.quiet) hl hi, hu]
  exact congrArg (State.deskWait · .image) (if_neg hgoes)

theorem exec_bootRetry_stopped (h : s.deskAt 13 = true) (hstop : s.rd R.START_STAT_STOP_STEP ≠ 0) :
    exec .bootRetry s = .next (s.quiet.deskEnd false 4) := by
  change execBootRetry s = _
  rw [execBootRetry, State.deskRun_begun h]
  exact congrArg _ (if_pos hstop)

/-! ## Commands on the journal (R420, R421, R426, R434) -/

theorem exec_jnlRead_found {l k : Nat} {r : JRec} (h : s.deskAt 4 = true) (hslot : s.desk.userSlot = some (l, k))
    (hr : (s.jnl.recs.find? fun r => match r.body with | .user a b _ => a == l && b == k | _ => false) = some r) :
    exec .jnlRead s = .next (s.quiet.deskResult r.bytes 0) := by
  change execJnlRead s = _
  rw [execJnlRead, State.deskRun_begun h]
  refine congrArg _ ?_
  rw [show s.quiet.desk.userSlot = some (l, k) from hslot]
  exact congrArg (fun o : Option JRec => match o with
    | some r => s.quiet.deskResult r.bytes 0
    | none => (s.quiet.deskResult (leBytes 64 s.quiet.draw) 0).drawn) hr

theorem exec_jnlWrite_asks {l k b : Nat} (h : s.deskAt 5 = true) (hslot : s.desk.userSlot = some (l, k)) (hb : s.desk.bytesIn 48 = some b)
    (hj : s.jnlShut = false) : exec .jnlWrite s = .next ((s.quiet.jnlAsk (.user l k b) true).deskWait .journal) := by
  change execJnlWrite s = _
  rw [execJnlWrite, State.deskRun_begun h]
  refine congrArg _ ?_
  rw [show s.quiet.desk.userSlot = some (l, k) from hslot, show s.quiet.desk.bytesIn 48 = some b from hb]
  exact State.deskJournal_asks hj

theorem exec_jnlWrite_noSlot (h : s.deskAt 5 = true) (hslot : s.desk.userSlot = none) : exec .jnlWrite s = .next (s.quiet.deskEnd false 2) := by
  change execJnlWrite s = _
  rw [execJnlWrite, State.deskRun_begun h]
  refine congrArg _ ?_
  rw [show s.quiet.desk.userSlot = none from hslot]

theorem exec_cntInc_asks (h : s.deskAt 6 = true) (hi : 2 ≤ s.desk.arg0 ∧ s.desk.arg0 ≤ 15) (hj : s.jnlShut = false)
    (hv : s.rd (R.JNL_CNT_VALUE s.desk.arg0) ≠ 0xFFFFFFFF) : exec .cntInc s =
      .next ((s.quiet.jnlAsk (.counter s.desk.arg0 (s.rd (R.JNL_CNT_VALUE s.desk.arg0) + 1)) true).deskWait .journal) := by
  have hlisted : ¬ (s.desk.arg0 < 2 ∨ 15 < s.desk.arg0) := by omega
  have hopen : ¬ s.quiet.jnlShut = true := Bool.eq_false_iff.1 hj
  change execCntInc s = _
  rw [execCntInc, State.deskRun_begun h]
  refine congrArg _ ?_
  exact (if_neg hlisted).trans ((if_neg hopen).trans ((if_neg hv).trans (State.deskJournal_asks hj)))

theorem exec_cntInc_bad (h : s.deskAt 6 = true) (hi : s.desk.arg0 < 2 ∨ 15 < s.desk.arg0) : exec .cntInc s = .next (s.quiet.deskEnd false 2) := by
  change execCntInc s = _
  rw [execCntInc, State.deskRun_begun h]
  exact congrArg _ (if_pos hi)

theorem exec_settingsSet_asks {b : Nat} (h : s.deskAt 7 = true) (hb : s.desk.bytesIn 48 = some b) (hok : settingsOk b = true)
    (hj : s.jnlShut = false) : exec .settingsSet s = .next ((s.quiet.jnlAsk (.settings b) true).deskWait .journal) := by
  change execSettingsSet s = _
  rw [execSettingsSet, State.deskRun_begun h]
  refine congrArg _ ?_
  rw [show s.quiet.desk.bytesIn 48 = some b from hb]
  exact (if_pos hok).trans (State.deskJournal_asks hj)

theorem exec_mapoutClear_asks {r : RepRec} (h : s.deskAt 8 = true) (hi : s.desk.arg0 ≠ 0xFFFFFFFF) (hr : s.mapoutRecs[s.desk.arg0]? = some r)
    (hj : s.jnlShut = false) : exec .mapoutClear s = .next ((s.quiet.jnlAsk (.cleared r) true).deskWait .journal) := by
  change execMapoutClear s = _
  rw [execMapoutClear, State.deskRun_begun h]
  refine congrArg _ ?_
  rw [if_neg (show ¬ s.quiet.desk.arg0 = 0xFFFFFFFF from hi), show s.quiet.mapoutRecs[s.quiet.desk.arg0]? = some r from hr]
  exact State.deskJournal_asks hj

/-! ## The guestbook, the reset and the itinerary (R422, R429, R434) -/

theorem exec_gbRead_some (h : s.deskAt 9 = true) (hc : 1 ≤ s.desk.arg1 ∧ s.desk.arg1 ≤ 64) : exec .gbRead s =
    .next ((s.quiet.deskResult ((s.guestbook.drop s.desk.arg0).take s.desk.arg1).flatten
      ((s.guestbook.drop s.desk.arg0).take s.desk.arg1).length).drawn) := by
  have hcount : ¬ (s.desk.arg1 = 0 ∨ 64 < s.desk.arg1) := by omega
  change execGbRead s = _
  rw [execGbRead, State.deskRun_begun h]
  exact congrArg _ (if_neg hcount)

/-- An event that is logged leaves the start sequence alone. -/
theorem State.log_start (ev : Gb) (args : List Nat) : (s.log ev args).start = s.start := by
  simp only [State.log, State.logP]
  repeat' split
  all_goals rfl

theorem exec_deviceReset_asks {u : State} (h : s.deskAt 12 = true) (hu : u = s.quiet.log .fdReset []) :
    exec .deviceReset s = .next ((u.setStart { u.start with resetDue := u.start.resetDue.or (some 3) }).deskWait .reset) := by
  change execDeviceReset s = _
  rw [execDeviceReset, State.deskRun_begun h]
  refine congrArg _ ?_
  subst hu
  rw [State.log_start]

theorem exec_itinRead_log {rs : List (List Byte)} (h : s.deskAt 14 = true) (hk : s.desk.arg0 ≤ 1)
    (hrs : rs = (s.jnl.recs.filter (fun r => match r.body with | .itin x => x.start + s.desk.arg0 == s.startNum | _ => false)).map JRec.bytes) :
    exec .itinRead s = .next (s.quiet.deskResult rs.flatten rs.length) := by
  subst hrs
  change execItinRead s = _
  rw [execItinRead, State.deskRun_begun h]
  exact congrArg _ (if_neg (Nat.not_lt.2 hk))

end Sys2Proof.Machine

namespace Sys2Proof.Proofs

open Sys2Proof.Machine

/-- Settles O38: each command by its operands, the state of the journal and what the life cycle permits. -/
theorem deskCommands : Obligations.DeskCommands := by
  unfold Obligations.DeskCommands
  refine ⟨?csrRead, ?csrWrite, ?load, ?loadBarred, ?retry, ?retryStopped, ?jnlRead, ?jnlWrite, ?jnlWriteBad, ?count, ?countBad, ?settings, ?mapout,
    ?guestbook, ?unfreeze, ?unfreezeShut, ?ack, ?reset, ?itinerary⟩
  case csrRead =>
    intro s t v h hb
    exact exec_csrRead_ok h hb
  case csrWrite =>
    intro s t h hb
    exact exec_csrWrite_ok h hb
  case load =>
    intro s h hl hi
    change execLoadImage s = _
    rw [execLoadImage, State.deskRun_begun h]
    exact congrArg _ (State.deskLoad_begins (s := s.quiet) hl hi)
  case loadBarred =>
    intro s h hl
    change execLoadImage s = _
    rw [execLoadImage, State.deskRun_begun h]
    exact congrArg _ (State.deskLoad_barred (s := s.quiet) hl)
  case retry =>
    intro s u h hl hi hstop hstep hst hu
    exact exec_bootRetry_retries h hl hi hstop hstep hst hu
  case retryStopped =>
    intro s h hstop
    exact exec_bootRetry_stopped h hstop
  case jnlRead =>
    intro s l k r h hslot hr
    exact exec_jnlRead_found h hslot hr
  case jnlWrite =>
    intro s l k b h hslot hb hj
    exact exec_jnlWrite_asks h hslot hb hj
  case jnlWriteBad =>
    intro s h hslot
    exact exec_jnlWrite_noSlot h hslot
  case count =>
    intro s h hi hj hv
    exact exec_cntInc_asks h hi hj hv
  case countBad =>
    intro s h hi
    exact exec_cntInc_bad h hi
  case settings =>
    intro s b h hb hok hj
    exact exec_settingsSet_asks h hb hok hj
  case mapout =>
    intro s r h hi hr hj
    exact exec_mapoutClear_asks h hi hr hj
  case guestbook =>
    intro s h hc
    exact exec_gbRead_some h hc
  case unfreeze =>
    intro s h hj
    change execGbUnfreeze s = _
    rw [execGbUnfreeze, State.deskRun_begun h]
    exact congrArg _ (State.deskJournal_asks (s := s.quiet) hj)
  case unfreezeShut =>
    intro s h hj
    change execGbUnfreeze s = _
    rw [execGbUnfreeze, State.deskRun_begun h]
    exact congrArg _ (State.deskJournal_shut (s := s.quiet) hj)
  case ack =>
    intro s h
    change execAlertAck s = _
    rw [execAlertAck, State.deskRun_begun h]
  case reset =>
    intro s u h hu
    exact exec_deviceReset_asks h hu
  case itinerary =>
    intro s rs h hk hrs
    exact exec_itinRead_log h hk hrs

end Sys2Proof.Proofs
end

section
/-! PROOF. The random source: O40. -/

namespace Sys2Proof.Machine

/-- A good window after two good ones makes the source HEALTHY. -/
theorem execRngTestWindow_good {s : State} (h : 2 ≤ s.sec.goodWins) :
    execRngTestWindow true s =
      .next ((s.quiet.setSec { s.sec with badWins := 0, goodWins := min 3 (s.sec.goodWins + 1) }).set1 R.RNG_STAT_HEALTHY) :=
  congrArg Host.Outcome.next (if_pos h)

/-- A bad window after two bad ones fails the source and raises its alarm. -/
theorem execRngTestWindow_third_bad {s : State} (h : s.sec.badWins = 2) :
    execRngTestWindow false s =
      .next ((((s.quiet.setSec { s.sec with badWins := 3, goodWins := 0 }).bump R.RNG_STAT_FAILS).clr R.RNG_STAT_HEALTHY).alarm 3) := by
  have count : min 3 (s.sec.badWins + 1) = 3 := by omega
  rw [← count]
  exact congrArg Host.Outcome.next (if_pos h)

/-- Any other bad window is counted. -/
theorem execRngTestWindow_bad {s : State} (h : s.sec.badWins ≠ 2) :
    execRngTestWindow false s =
      .next ((s.quiet.setSec { s.sec with badWins := min 3 (s.sec.badWins + 1), goodWins := 0 }).bump R.RNG_STAT_FAILS) :=
  congrArg Host.Outcome.next (if_neg h)

/-- A read of RNG_OUT while the source is HEALTHY shows the next word. -/
theorem execRngOutRead_healthy {s : State} (ini : Ini) (h : s.is1 R.RNG_STAT_HEALTHY = true) :
    execRngOutRead ini s = .next (s.quiet.shown ini R.RNG_OUT_VALUE.off s.rngWord State.drawn) :=
  if_pos h

/-- A read of RNG_OUT while the source is not HEALTHY shows 0. -/
theorem execRngOutRead_failed {s : State} (ini : Ini) (h : s.is1 R.RNG_STAT_HEALTHY = false) :
    execRngOutRead ini s = .next (s.quiet.shown ini R.RNG_OUT_VALUE.off 0 id) :=
  if_neg (ne_true_of_eq_false h)

/-- A read without a side effect that is not turned away is answered, whoever reads. -/
theorem State.shown_id {s : State} {off : Nat} (ini : Ini) (v : Nat) (h : s.turnedAway off = none) :
    s.quiet.shown ini off v id = s.quiet.emit (.regAnswer ini .ok v) := by
  cases hp : s.peeks ini with
  | false => exact State.shown_ok h hp
  | true => exact State.shown_peek h hp

end Sys2Proof.Machine

namespace Sys2Proof.Proofs
open Sys2Proof.Machine

/-- Settles O40: the branches of the health-test window, and of a read of RNG_OUT by the source's state and the reader. -/
theorem randomSource : Obligations.RandomSource := by
  unfold Obligations.RandomSource
  refine ⟨fun s h => execRngTestWindow_good h, ?badThird, fun s h => execRngTestWindow_bad h, fun s h => congrArg Host.Outcome.next (if_pos h),
    ?read, ?peek, ?turned, ?failed, fun s => rfl⟩
  case badThird =>
    rintro s u h rfl
    exact execRngTestWindow_third_bad h
  case read =>
    intro ini s hok hp ht
    exact (execRngOutRead_healthy ini hok).trans (congrArg Host.Outcome.next (State.shown_ok ht hp))
  case peek =>
    intro ini s hok hp ht
    exact (execRngOutRead_healthy ini hok).trans (congrArg Host.Outcome.next (State.shown_peek ht hp))
  case turned =>
    intro ini code s ht hok
    exact (execRngOutRead_failed ini hok).trans (congrArg Host.Outcome.next (State.shown_turned ht))
  case failed =>
    intro ini s hok ht
    exact (execRngOutRead_failed ini hok).trans (congrArg Host.Outcome.next (State.shown_id ini 0 ht))

end Sys2Proof.Proofs
end

section
/-! PROOF. The life cycle, the image keys and the alarms (17_security_life_cycle.md): O39. -/

namespace Sys2Proof.Machine

variable {s u : State} {ini : Ini} {v : BitVec 32}

/-! ## LC_CTL (R438, R441) -/

/-- A write to the security block from inside the device is DENIED. -/
theorem execLcAdvance_inside (hi : s.fromInside ini = true) : execLcAdvance ini v s = .next (s.quiet.deniedWrite ini) := if_pos hi

theorem execLcAdvance_written {t : State} (hi : s.fromInside ini = false) (ht : s.turnedAway R.LC_CTL_TARGET.off = none)
    (hw : wrLcCtl s.quiet ini v = t) : execLcAdvance ini v s = .next (t.okWrite ini) := by
  subst hw
  exact (if_neg (ne_true_of_eq_false hi)).trans (congrArg Host.Outcome.next (State.written_ok ht))

/-- A write with the confirmation asks for an advance. -/
theorem lcCtl_asks {a b n : Nat} (h : n = 0x4C43) : ¬ (a = 0 ∧ b = 0 ∧ n = 0) := fun h0 => absurd (h.symm.trans h0.2.2) (by decide)

theorem wrLcCtl_accepted (hu : u = s.w1cOnly .LC_CTL v) (hc : R.LC_CTL_CONFIRM.of v = 0x4C43)
    (hfree : (u.is1 R.LC_CTL_BUSY || u.imgBusy || u.is1 R.LC_STATE_LOCKED) = false) (hok : u.advanceOk ini (R.LC_CTL_TARGET.of v) = true) :
    wrLcCtl s ini v = (u.set1 R.LC_CTL_BUSY).setSec { u.sec with advance := some (R.LC_CTL_TARGET.of v, R.LC_CTL_CAP.of v == 1) } := by
  subst hu
  refine (if_neg (lcCtl_asks hc)).trans (if_neg ?_)
  rw [Bool.or_assoc] at hfree
  simp only [hc, hok, Bool.or_assoc, hfree, ne_eq, not_true_eq_false, decide_false, Bool.not_true, Bool.or_false, Bool.false_or, Bool.false_eq_true,
    not_false_eq_true]

theorem wrLcCtl_refused (hu : u = s.w1cOnly .LC_CTL v) (hc : R.LC_CTL_CONFIRM.of v = 0x4C43)
    (hok : u.advanceOk ini (R.LC_CTL_TARGET.of v) = false) : wrLcCtl s ini v = u.set1 R.LC_CTL_ERR := by
  subst hu
  refine (if_neg (lcCtl_asks hc)).trans (if_pos ?_)
  rw [hok]
  exact Bool.or_true _

theorem execLcAdvanced_ends {target : Nat} {cap : Bool} (h : s.sec.advance = some (target, cap))
    (hu : u = ((s.quiet.advanced target cap).log .lcAdvanced []).clr R.LC_CTL_BUSY) :
    execLcAdvanced s = .next ((u.setSec { u.sec with advance := none, alarms := [] }).respond (highest u.sec.alarms)) := by
  subst hu
  simp only [execLcAdvanced, show s.quiet.sec.advance = some (target, cap) from h]

/-! ## Key commands (R440, R444) -/

/-- A key command in progress: KEY_IN is cleared, BUSY is set, and the command is kept with its key. -/
def State.keyTaken (u : State) (cmd slot parent key : Nat) : State :=
  let t := (List.range 10).foldl (fun (t : State) i => t.clr (R.KEY_IN_DATA i)) u
  (t.set1 R.KEY_CMD_BUSY).setSec { t.sec with keyCmd := some (cmd, slot, parent, key) }

/-- A command that nothing bars, by a host, is taken: `ro` says whether it needs the journal. -/
theorem State.keyWrite_taken {cmd slot parent : Nat} {ro : Bool} (hi : s.fromInside ini = false) (hk : s.keyBarred cmd = false)
    (hf : R.KEY_CMD_CMD.of v = cmd ∧ R.KEY_CMD_SLOT.of v = slot ∧ R.KEY_CMD_PARENT.of v = parent) (hu : u = s.quiet.storeReg .KEY_CMD v)
    (hcmd : ¬ (cmd = 0 ∨ 4 < cmd)) (hro : decide (cmd ≠ 4) = ro)
    (hfree : (u.is1 R.KEY_CMD_BUSY || u.is1 R.LC_STATE_LOCKED || u.is1 R.LC_STATE_SLOTS_BARRED || (u.jnlRO && ro) || u.imgBusy) = false)
    (hok : u.keyCondition cmd slot parent = true) (ht : s.turnedAway R.KEY_CMD_CMD.off = none) :
    s.quiet.keyWrite ini v = (u.keyTaken cmd slot parent (u.keyIn (if cmd = 2 then 10 else 8))).okWrite ini := by
  obtain ⟨rfl, rfl, rfl⟩ := hf
  subst hu hro
  rw [State.keyWrite_written hi hk, State.written_ok ht]
  refine congrArg (State.okWrite · ini) ((if_neg hcmd).trans (if_neg ?_))
  obtain ⟨hneed, himg⟩ := Bool.or_eq_false_iff.1 hfree
  simp only [hneed, himg, hok, Bool.false_and, Bool.not_true, Bool.or_false, Bool.false_eq_true, not_false_eq_true]

/-- A command that the life cycle bars is DENIED, and sets ERR. -/
theorem State.keyWrite_barred (hi : s.fromInside ini = false) (hk : s.keyBarred (R.KEY_CMD_CMD.of v) = true) :
    s.quiet.keyWrite ini v = (s.quiet.deniedWrite ini).set1 R.KEY_CMD_ERR :=
  (if_neg (ne_true_of_eq_false hi)).trans (if_pos hk)

/-- What a key command leaves at its end, by its number. -/
def State.keyCmdEnded (u : State) (cmd slot parent key : Nat) : State :=
  match cmd with
  | 1 => u.changeSlot slot 1 (u.wrapped key)
  | 2 => u.loadWrapped slot parent key
  | 3 => u.changeSlot slot 2 ((storeGet none slot u.sec.slots).getD 0)
  | _ => u.setFuses { u.lcFuses with dbgKey := some key }

theorem exec_keyCmdComplete {cmd slot parent key : Nat} (h : s.sec.keyCmd = some (cmd, slot, parent, key))
    (hu : u = ((s.quiet.setSec { s.sec with keyCmd := none }).clr R.KEY_CMD_BUSY).set1 R.KEY_CMD_DONE) :
    exec .keyCmdComplete s = .next (u.keyCmdEnded cmd slot parent key) := by
  subst hu
  simp only [exec, execKeyCmdComplete, show s.quiet.sec.keyCmd = some (cmd, slot, parent, key) from h]
  rcases cmd with _ | _ | _ | _ | n <;> rfl

/-! ## ALARM_CFG (R448, R449) -/

theorem execAlarmCfgWrite_written {t : State} {a : Fin 7} (hi : s.fromInside ini = false)
    (ht : s.turnedAway (R.ALARM_CFG_RESP a.val).off = none) (hw : wrAlarmCfg s.quiet ini a.val v = t) :
    execAlarmCfgWrite ini a v s = .next (t.okWrite ini) := by
  subst hw
  exact (if_neg (ne_true_of_eq_false hi)).trans (congrArg Host.Outcome.next (State.written_ok ht))

/-- RESP is set by a host that raises it to its minimum or above, and by FULL authority. -/
theorem wrAlarmCfg_set {a : Nat} (hu : u = s.w1cOnly (.ALARM_CFG a) v) (hne : (R.ALARM_CFG_RESP a).of v ≠ u.rd (R.ALARM_CFG_RESP a))
    (h4 : (R.ALARM_CFG_RESP a).of v ≤ 4)
    (hmay : ((respMinimum a ≤ (R.ALARM_CFG_RESP a).of v && decide (u.rd (R.ALARM_CFG_RESP a) < (R.ALARM_CFG_RESP a).of v) && u.isHost ini) ||
      u.holdsFull ini) = true) :
    wrAlarmCfg s ini a v = u.wr (R.ALARM_CFG_RESP a) ((R.ALARM_CFG_RESP a).of v) := by
  subst hu
  exact (if_neg (not_or.2 ⟨hne, Nat.not_lt.2 h4⟩)).trans (if_pos hmay)

/-- RESP is not lowered without FULL authority. -/
theorem wrAlarmCfg_lower_refused {a : Nat} (hu : u = s.w1cOnly (.ALARM_CFG a) v) (hlt : (R.ALARM_CFG_RESP a).of v < u.rd (R.ALARM_CFG_RESP a))
    (h4 : (R.ALARM_CFG_RESP a).of v ≤ 4) (hfull : u.holdsFull ini = false) : wrAlarmCfg s ini a v = u.set1 (R.ALARM_CFG_CFG_ERR a) := by
  subst hu
  refine (if_neg (not_or.2 ⟨hlt.ne, Nat.not_lt.2 h4⟩)).trans (if_neg ?_)
  simp only [hfull, decide_eq_false (Nat.lt_asymm hlt), Bool.and_false, Bool.false_and, Bool.or_false, Bool.false_eq_true, not_false_eq_true]

end Sys2Proof.Machine

namespace Sys2Proof.Proofs
open Sys2Proof.Machine

/-- Settles O39: each write by the branch of its register's rule, each completion by what was begun. -/
theorem lifeCycleAndKeys : Obligations.LifeCycleAndKeys := by
  unfold Obligations.LifeCycleAndKeys
  refine ⟨?advance, ?refused, fun ini v s hi => execLcAdvance_inside hi, fun target cap s u h hu => execLcAdvanced_ends h hu, ?plain, ?wrapped,
    ?revoke, ?debugKey, ?barred, ?plainEnds, ?wrappedEnds, ?revokeEnds, ?debugKeyEnds, ?raise, ?lower, ?full, fun s => rfl⟩
  case plainEnds | wrappedEnds | revokeEnds | debugKeyEnds =>
    intro slot parent key s u h hu
    rw [exec_keyCmdComplete h hu]
    rfl
  case advance =>
    intro ini v s u hi hu hc hfree hok ht
    exact execLcAdvance_written hi ht (wrLcCtl_accepted hu hc hfree hok)
  case refused =>
    intro ini v s u hi hu hc hok ht
    exact execLcAdvance_written hi ht (wrLcCtl_refused hu hc hok)
  case plain =>
    rintro ini parent slot s u v hi hk rfl hf hu hfree hok ht
    exact congrArg Host.Outcome.next (State.keyWrite_taken hi hk hf hu (by decide) (by decide) hfree hok ht)
  case wrapped =>
    rintro ini parent slot s u v hi hk rfl hf hu hfree hok ht
    exact congrArg Host.Outcome.next (State.keyWrite_taken hi hk hf hu (by decide) (by decide) hfree hok ht)
  case revoke =>
    rintro ini parent slot s u v hi hk rfl hf hu hfree hok ht
    exact congrArg Host.Outcome.next (State.keyWrite_taken hi hk hf hu (by decide) (by decide) hfree hok ht)
  case debugKey =>
    rintro ini parent slot s u v hi hk rfl hf hu hfree hok ht
    exact congrArg Host.Outcome.next (State.keyWrite_taken hi hk hf hu (by decide) (by decide) hfree hok ht)
  case barred =>
    intro ini parent slot s hi hk
    exact congrArg Host.Outcome.next (State.keyWrite_barred hi hk)
  case raise =>
    intro ini a v s u hi hu hlt h4 hmin hhost ht
    have hmay : ((respMinimum a.val ≤ (R.ALARM_CFG_RESP a.val).of v &&
        decide (u.rd (R.ALARM_CFG_RESP a.val) < (R.ALARM_CFG_RESP a.val).of v) && u.isHost ini) || u.holdsFull ini) = true := by
      rw [decide_eq_true hmin, decide_eq_true hlt, hhost]
      rfl
    exact execAlarmCfgWrite_written hi ht (wrAlarmCfg_set hu hlt.ne' h4 hmay)
  case lower =>
    intro ini a v s u hi hu hlt h4 hfull ht
    exact execAlarmCfgWrite_written hi ht (wrAlarmCfg_lower_refused hu hlt h4 hfull)
  case full =>
    intro ini a v s u hi hu hne h4 hfull ht
    exact execAlarmCfgWrite_written hi ht (wrAlarmCfg_set hu hne h4 (by rw [hfull, Bool.or_true]))

end Sys2Proof.Proofs
end

section
/-! PROOF. Debug sessions (19_debug_trace.md): accesses along either path, and O43. -/

namespace Sys2Proof.Machine

variable {s u z : State} {path : DbgPath} {off : Nat} {v : BitVec 32} {r : Reg}

/-! ## An access along a path (R470, R472, R473) -/

/-- The port of a path. -/
def dbgPort : DbgPath → DPort
  | .jtag => .jtag
  | .olicor _ => .olicor

/-- The initiator of a path's accesses. -/
def State.pathIni (s : State) : DbgPath → Ini
  | .jtag => s.jtagIni
  | .olicor ini => ini

/-- The path reaches the debug block, and its session has a level of at least `n`. -/
def State.reaches (s : State) (path : DbgPath) (n : Nat) : Prop :=
  match path with
  | .jtag => s.jtag.ir = 16 ∧ s.selfTest.undef = false ∧ n ≤ s.dlevel .jtag
  | .olicor ini => s.sessionElsewhere ini = false ∧ s.selfTest.undef = false ∧ n ≤ s.dlevel .olicor

/-- What a write along a path leaves, whose effect leaves `z`: it is answered OK, and JTAG keeps it for the next capture. -/
def State.wroteVia (s : State) (path : DbgPath) (off : Nat) (z : State) : State :=
  match path with
  | .jtag => (z.drawn.setJtag { z.jtag with prev := some (off, .ok, z.draw % 2 ^ 32) }).emit (.regAnswer s.jtagIni .ok 0)
  | .olicor ini => z.emit (.regAnswer ini .ok 0)

/-- The debug block has register `r` at offset `off`. -/
structure DbgRegAt (off : Nat) (r : Reg) : Prop where
  reg : regAt (0x7000000 + off) = some r
  inBlock : off < 0x800000
  aligned : off % 4 = 0

theorem dbgRegAt_auth : DbgRegAt 0 .DBG_AUTH := ⟨by decide, by decide, by decide⟩

theorem dbgRegAt_thrCtl (t : Fin 4) : DbgRegAt (0x200 + 0x10 * t.val) (.DBG_THR_CTL t.val) := by
  refine ⟨?_, by omega, by omega⟩
  revert t
  decide

/-- A write that the session's level permits, to another register than DBG_AUTH. -/
theorem State.viaPath_write (ha : DbgRegAt off r) (h0 : off ≠ 0) (h : s.reaches path (s.levelNeeded r true v))
    (hw : s.quiet.dbgWrite (dbgPort path) (s.pathIni path) (0x7000000 + off) r v = z) : s.quiet.viaPath path true off v = s.wroteVia path off z := by
  subst hw
  cases path with
  | jtag =>
    obtain ⟨hi, hu, hl⟩ := h
    exact State.viaPath_jtag_write s.quiet off v r hi hu ha.reg hl ha.inBlock ha.aligned
  | olicor ini =>
    obtain ⟨he, hu, hl⟩ := h
    exact State.viaPath_olicor_write s.quiet ini off v r he hu ha.reg hl h0 ha.inBlock ha.aligned

/-- The state in which DBG_AUTH is written: the Olicor session is bound first where R473 has it. -/
def State.boundVia (s : State) (path : DbgPath) (v : BitVec 32) : State :=
  match path with
  | .jtag => s
  | .olicor ini => s.bindSession ini true 0 v

theorem State.bindSession_selfTest (s : State) (ini : Ini) (write : Bool) (off : Nat) (v : BitVec 32) :
    (s.bindSession ini write off v).selfTest = s.selfTest := by
  unfold State.bindSession
  split <;> rfl

/-- A write to DBG_AUTH needs no level. -/
theorem State.viaPath_auth (h : s.reaches path 0) (hw : wrDbgAuth (s.quiet.boundVia path v) (dbgPort path) v = z) :
    s.quiet.viaPath path true 0 v = s.wroteVia path 0 z := by
  subst hw
  have ⟨hreg, hin, hal⟩ := dbgRegAt_auth
  cases path with
  | jtag =>
    obtain ⟨hi, hu, -⟩ := h
    exact State.viaPath_jtag_write s.quiet 0 v .DBG_AUTH hi hu hreg (Nat.zero_le _) hin hal
  | olicor ini =>
    obtain ⟨he, hu, -⟩ := h
    have access := State.dbgAccess_write (s.quiet.bindSession ini true 0 v) .olicor ini 0 v .DBG_AUTH
      ((congrArg SelfTest.undef (State.bindSession_selfTest s.quiet ini true 0 v)).trans hu) hreg (Nat.zero_le _) hin hal
    simp only [State.viaPath, State.olicorAccess, show s.quiet.sessionElsewhere ini = false from he, Bool.false_eq_true, if_false, access]
    rfl

/-- An access of the Olicor session by an initiator that it is not bound to is DENIED. -/
theorem State.viaPath_elsewhere {ini : Ini} (he : s.sessionElsewhere ini = true) (write : Bool) (off : Nat) (v : BitVec 32) :
    s.quiet.viaPath (.olicor ini) write off v = s.quiet.emit (.regAnswer ini .denied 0) := by
  simp only [State.viaPath, State.olicorAccess, show s.quiet.sessionElsewhere ini = true from he, if_true]

/-- An access for which the session's level is too low is DENIED. -/
theorem State.dbgAccess_denied {p : DPort} {ini : Ini} {write : Bool} (ha : DbgRegAt off r) (hu : s.selfTest.undef = false)
    (hl : s.dlevel p < s.levelNeeded r write v) : s.dbgAccess p ini write off v = (s, .denied, 0) := by
  have hin : ¬ (0x800000 ≤ off ∨ off % 4 ≠ 0) := not_or.2 ⟨Nat.not_le.2 ha.inBlock, not_not.2 ha.aligned⟩
  simp only [State.dbgAccess, if_neg hin, hu, ha.reg, if_pos hl, Bool.false_eq_true, if_false]

theorem State.viaPath_olicor_denied {ini : Ini} (ha : DbgRegAt off r) (h0 : off ≠ 0) (he : s.sessionElsewhere ini = false)
    (hu : s.selfTest.undef = false) (hl : s.dlevel .olicor < s.levelNeeded r true v) :
    s.quiet.viaPath (.olicor ini) true off v = s.quiet.emit (.regAnswer ini .denied 0) := by
  simp only [State.viaPath, State.olicorAccess, show s.quiet.sessionElsewhere ini = false from he, Bool.false_eq_true, if_false,
    State.bindSession_of_ne s.quiet ini true off v h0, State.dbgAccess_denied (s := s.quiet) ha hu hl]

/-! ## CHAL, REQ and CLOSE (R445, R475, R476) -/

variable {p : DPort} {level : Nat}

theorem State.requestLevel_zero : u.requestLevel p 0 = u := if_pos (Or.inl rfl)

theorem wrDbgAuth_chal (hu : u = s.w1cOnly .DBG_AUTH (BitVec.ofNat 32 16)) : wrDbgAuth s p (BitVec.ofNat 32 16) = u.drawChallenge p := by
  subst hu
  have fields : R.DBG_AUTH_CLOSE.of (BitVec.ofNat 32 16) = 0 ∧ R.DBG_AUTH_CHAL.of (BitVec.ofNat 32 16) = 1 ∧
      R.DBG_AUTH_REQ.of (BitVec.ofNat 32 16) = 0 := by decide
  obtain ⟨hclose, hchal, hreq⟩ := fields
  simp only [wrDbgAuth, hclose, hchal, hreq, Nat.zero_ne_one, if_false, if_true, State.requestLevel_zero]

theorem wrDbgAuth_close (hu : u = s.w1cOnly .DBG_AUTH (BitVec.ofNat 32 32)) : wrDbgAuth s p (BitVec.ofNat 32 32) = u.closeSession p := by
  subst hu
  have fields : R.DBG_AUTH_CLOSE.of (BitVec.ofNat 32 32) = 1 ∧ R.DBG_AUTH_CHAL.of (BitVec.ofNat 32 32) = 0 ∧
      R.DBG_AUTH_REQ.of (BitVec.ofNat 32 32) = 0 := by decide
  obtain ⟨hclose, hchal, hreq⟩ := fields
  simp only [wrDbgAuth, hclose, hchal, hreq, Nat.zero_ne_one, if_false, if_true, State.requestLevel_zero]

theorem reqValue_fields : ∀ level : BitVec 2, R.DBG_AUTH_CLOSE.of (BitVec.ofNat 32 level.toNat) = 0 ∧
    R.DBG_AUTH_CHAL.of (BitVec.ofNat 32 level.toNat) = 0 ∧ R.DBG_AUTH_REQ.of (BitVec.ofNat 32 level.toNat) = level.toNat := by
  decide

theorem wrDbgAuth_req {level : BitVec 2} (hu : u = s.w1cOnly .DBG_AUTH (BitVec.ofNat 32 level.toNat)) :
    wrDbgAuth s p (BitVec.ofNat 32 level.toNat) = u.requestLevel p level.toNat := by
  subst hu
  obtain ⟨hclose, hchal, hreq⟩ := reqValue_fields level
  simp only [wrDbgAuth, hclose, hchal, hreq, Nat.zero_ne_one, if_false]

theorem State.drawChallenge_drawn
    (h : (u.lc == 5 || u.is1 R.LC_STATE_LOCKED || !(u.is1 R.RNG_STAT_HEALTHY) || u.is1 R.DBG_AUTH_BLOCKED) = false) :
    u.drawChallenge p = (u.setSec { u.sec with challenge := storeSet none p.num (some (u.draw % 2 ^ 128)) u.sec.challenge }).drawn :=
  if_neg (ne_true_of_eq_false h)

theorem State.drawChallenge_refused
    (h : (u.lc == 5 || u.is1 R.LC_STATE_LOCKED || !(u.is1 R.RNG_STAT_HEALTHY) || u.is1 R.DBG_AUTH_BLOCKED) = true) :
    u.drawChallenge p = (u.set1 R.DBG_AUTH_ERR).setSec { u.sec with challenge := storeSet none p.num none u.sec.challenge } :=
  if_pos h

/-- A request that raises or keeps the level is granted where the life cycle asks for no challenge. -/
theorem State.requestLevel_granted (hl : level = 1 ∨ level = 2) (hd : u.dlevel p ≤ level) (hc : u.lc = 0 ∨ u.lc = 1 ∨ u.lc = 4) :
    u.requestLevel p level = u.setLevel p (min level u.levelCap) := by
  have hlisted : ¬ (level = 0 ∨ 2 < level) := by omega
  refine (if_neg hlisted).trans ((if_neg (Nat.not_lt.2 hd)).trans (if_pos ?_))
  rcases hc with h | h | h <;> rw [h] <;> rfl

/-- In the other life-cycle states such a request is judged by the challenge. -/
theorem State.requestLevel_judged (hl : level = 1 ∨ level = 2) (hd : u.dlevel p ≤ level) (hc : u.lc = 2 ∨ u.lc = 3 ∨ u.lc = 5) :
    (storeGet none p.num u.sec.challenge = none → u.requestLevel p level = u.set1 R.DBG_AUTH_ERR) ∧
    ∀ c, storeGet none p.num u.sec.challenge = some c → u.responseOk p c level = false → u.requestLevel p level = u.wrongResponse := by
  have hlisted : ¬ (level = 0 ∨ 2 < level) := by omega
  have hbars : (u.lc == 0 || u.lc == 1 || u.lc == 4) = false := by rcases hc with h | h | h <;> rw [h] <;> rfl
  constructor
  · intro hno
    simp only [State.requestLevel, if_neg hlisted, if_neg (Nat.not_lt.2 hd), hbars, hno, Bool.false_eq_true, if_false]
  · intro c hchal hbad
    simp only [State.requestLevel, if_neg hlisted, if_neg (Nat.not_lt.2 hd), hbars, hchal, hbad, Bool.false_eq_true, if_false]

theorem exec_chal (h : s.reaches path 0) (hu : u = (s.quiet.boundVia path (BitVec.ofNat 32 16)).w1cOnly .DBG_AUTH (BitVec.ofNat 32 16))
    (hz : u.drawChallenge (dbgPort path) = z) : exec (.chal path) s = .next (s.wroteVia path 0 z) :=
  congrArg Host.Outcome.next (State.viaPath_auth h ((wrDbgAuth_chal hu).trans hz))

theorem exec_req {level : BitVec 2} (h : s.reaches path 0)
    (hu : u = (s.quiet.boundVia path (BitVec.ofNat 32 level.toNat)).w1cOnly .DBG_AUTH (BitVec.ofNat 32 level.toNat))
    (hz : u.requestLevel (dbgPort path) level.toNat = z) : exec (.req path level) s = .next (s.wroteVia path 0 z) :=
  congrArg Host.Outcome.next (State.viaPath_auth h ((wrDbgAuth_req hu).trans hz))

theorem exec_close (h : s.reaches path 0) (hu : u = (s.quiet.boundVia path (BitVec.ofNat 32 32)).w1cOnly .DBG_AUTH (BitVec.ofNat 32 32))
    (hz : z = u.closeSession (dbgPort path)) : exec (.close path) s = .next (s.wroteVia path 0 z) :=
  congrArg Host.Outcome.next (State.viaPath_auth h ((wrDbgAuth_close hu).trans hz.symm))

/-! ## The debug endpoint (R473) -/

/-- A read of the debug endpoint, by an initiator that the session is not elsewhere for, goes by its size. -/
theorem execDebugEndpointAccess_read {rq : Request} (hq : rq.acc.op = .nrd ∧ rq.acc.dstNode = 7) (he : s.sessionElsewhere rq.ini = false) :
    execDebugEndpointAccess rq s =
      if rq.acc.size ≠ 4 then .next (s.quiet.reply rq .decode)
      else
        let x := s.quiet.olicorAccess rq.ini false rq.acc.addr (BitVec.ofNat 32 (leNat rq.acc.data))
        .next (if x.2.1 = .ok && !false then x.1.replyData rq (leBytes 4 x.2.2) 0 else x.1.reply rq x.2.1) := by
  obtain ⟨hop, hnode⟩ := hq
  simp only [execDebugEndpointAccess, hop, hnode, show s.quiet.sessionElsewhere rq.ini = false from he, show (ReqOp.nrd == ReqOp.nwr) = false from rfl,
    show (ReqOp.nrd == ReqOp.nrd) = true from rfl, Bool.false_or, Bool.not_true, bne_self_eq_false, Bool.false_and, Bool.false_eq_true, if_false]

end Sys2Proof.Machine

namespace Sys2Proof.Proofs
open Sys2Proof.Machine

/-- Settles O43: both paths write DBG_AUTH in the same way, and the rules of the challenge and of the request do the rest. -/
theorem debugSessions : Obligations.DebugSessions := by
  unfold Obligations.DebugSessions
  refine ⟨
    fun ini s u z he hd hu hfree hz => exec_chal (path := .olicor ini) ⟨he, hd, Nat.zero_le _⟩ hu ((State.drawChallenge_drawn hfree).trans hz.symm),
    fun s u z hi hd hu hfree hz => exec_chal (path := .jtag) ⟨hi, hd, Nat.zero_le _⟩ hu ((State.drawChallenge_drawn hfree).trans hz.symm),
    fun ini s u z he hd hu hbar hz => exec_chal (path := .olicor ini) ⟨he, hd, Nat.zero_le _⟩ hu ((State.drawChallenge_refused hbar).trans hz.symm),
    fun s u z hi hd hu hbar hz => exec_chal (path := .jtag) ⟨hi, hd, Nat.zero_le _⟩ hu ((State.drawChallenge_refused hbar).trans hz.symm),
    fun ini level s u z he hd hu hl hle hc hz =>
      exec_req (path := .olicor ini) ⟨he, hd, Nat.zero_le _⟩ hu ((State.requestLevel_granted hl hle hc).trans hz.symm),
    fun level s u z hi hd hu hl hle hc hz =>
      exec_req (path := .jtag) ⟨hi, hd, Nat.zero_le _⟩ hu ((State.requestLevel_granted hl hle hc).trans hz.symm),
    fun ini level s u z he hd hu hl hle hc hno hz =>
      exec_req (path := .olicor ini) ⟨he, hd, Nat.zero_le _⟩ hu (((State.requestLevel_judged hl hle hc).1 hno).trans hz.symm),
    fun level s u z hi hd hu hl hle hc hno hz =>
      exec_req (path := .jtag) ⟨hi, hd, Nat.zero_le _⟩ hu (((State.requestLevel_judged hl hle hc).1 hno).trans hz.symm),
    fun ini level c s u z he hd hu hl hle hc hchal hbad hz =>
      exec_req (path := .olicor ini) ⟨he, hd, Nat.zero_le _⟩ hu (((State.requestLevel_judged hl hle hc).2 c hchal hbad).trans hz.symm),
    fun level c s u z hi hd hu hl hle hc hchal hbad hz =>
      exec_req (path := .jtag) ⟨hi, hd, Nat.zero_le _⟩ hu (((State.requestLevel_judged hl hle hc).2 c hchal hbad).trans hz.symm),
    fun ini s u z he hd hu hz => exec_close (path := .olicor ini) ⟨he, hd, Nat.zero_le _⟩ hu hz,
    fun s u z hi hd hu hz => exec_close (path := .jtag) ⟨hi, hd, Nat.zero_le _⟩ hu hz,
    fun ini level s he => congrArg Host.Outcome.next (State.viaPath_elsewhere he true 0 _),
    ?haltDenied, ?size, ?read⟩
  case haltDenied =>
    intro ini t s he hd hl
    exact congrArg Host.Outcome.next (State.viaPath_olicor_denied (dbgRegAt_thrCtl t) (by omega) he hd hl)
  case size =>
    intro rq s hq he hsize
    exact (execDebugEndpointAccess_read hq he).trans (if_pos hsize)
  case read =>
    intro rq s t d hq he hsize hx
    refine (execDebugEndpointAccess_read hq he).trans ((if_neg (not_not.2 hsize)).trans ?_)
    rw [hx]
    rfl

end Sys2Proof.Proofs
end

section
/-! PROOF. Halts, steps, the debug initiator and trace (19_debug_trace.md): O44. -/

namespace Sys2Proof.Machine

variable {s u z : State} {path : DbgPath} {ini : Ini} {p : DPort} {v : BitVec 32}

/-! ## Where the registers stand (R470, R513) -/

theorem dbgRegAt_thrDataLo : DbgRegAt 0x284 .DBG_THR_DATA_LO := ⟨by decide, by decide, by decide⟩

theorem dbgRegAt_thrDataHi : DbgRegAt 0x288 .DBG_THR_DATA_HI := ⟨by decide, by decide, by decide⟩

theorem dbgRegAt_regStep : DbgRegAt 0x320 .DBG_REG_STEP := ⟨by decide, by decide, by decide⟩

theorem dbgRegAt_traceCtl : DbgRegAt 0x2000 .TRACE_CTL := ⟨by decide, by decide, by decide⟩

theorem dbgRegAt_initCmd : DbgRegAt 0x100 .DBG_INIT_CMD := ⟨by decide, by decide, by decide⟩

theorem dbgRegAt_regHalt (i : Fin 2) : DbgRegAt (0x300 + 4 * i.val) (.DBG_REG_HALT i.val) := by
  refine ⟨?_, by omega, by omega⟩
  revert i
  decide

theorem dbgRegAt_regRel (i : Fin 2) : DbgRegAt (0x310 + 4 * i.val) (.DBG_REG_REL i.val) := by
  refine ⟨?_, by omega, by omega⟩
  revert i
  decide

theorem dbgRegAt_xtCfg (c : Fin 16) : DbgRegAt (0x1000 + 0x10 * c.val) (.DBG_XT_CFG c.val) := by
  refine ⟨?_, by omega, by omega⟩
  revert c
  decide

/-! ## DBG_THR_CTL (R480 to R483) -/

theorem State.thrCommand_writes {t : Fin 4} {bit : Nat} (h : s.reaches path 2)
    (hv : v = BitVec.ofNat 32 (2 ^ bit + 16 * s.rd (R.DBG_THR_CTL_WDT_FRZ t.val))) (hw : wrDbgThrCtl s.quiet t.val v = z) :
    s.quiet.thrCommand path t.val bit = s.wroteVia path (0x200 + 0x10 * t.val) z := by
  subst hv
  exact State.viaPath_write (dbgRegAt_thrCtl t) (by omega) h hw

section

variable {t : Nat} (hu : u = s.storeReg (.DBG_THR_CTL t) v)

include hu

theorem wrDbgThrCtl_halt (hf : (R.DBG_THR_CTL_HALT t).of v = 1 ∧ (R.DBG_THR_CTL_RELEASE t).of v = 0 ∧ (R.DBG_THR_CTL_FORCE t).of v = 0 ∧
    (R.DBG_THR_CTL_STEP t).of v = 0) : wrDbgThrCtl s t v = u.threadHalt t := by
  obtain ⟨hhalt, hrelease, hforce, hstep⟩ := hf
  subst hu
  simp only [wrDbgThrCtl, hhalt, hrelease, hforce, hstep, Nat.zero_ne_one, if_false, if_true]

theorem wrDbgThrCtl_release (hf : (R.DBG_THR_CTL_HALT t).of v = 0 ∧ (R.DBG_THR_CTL_RELEASE t).of v = 1 ∧ (R.DBG_THR_CTL_FORCE t).of v = 0 ∧
    (R.DBG_THR_CTL_STEP t).of v = 0) : wrDbgThrCtl s t v = u.threadReleaseCmd t := by
  obtain ⟨hhalt, hrelease, hforce, hstep⟩ := hf
  subst hu
  simp only [wrDbgThrCtl, hhalt, hrelease, hforce, hstep, Nat.zero_ne_one, if_false, if_true]

theorem wrDbgThrCtl_force (hf : (R.DBG_THR_CTL_HALT t).of v = 0 ∧ (R.DBG_THR_CTL_RELEASE t).of v = 0 ∧ (R.DBG_THR_CTL_FORCE t).of v = 1 ∧
    (R.DBG_THR_CTL_STEP t).of v = 0) : wrDbgThrCtl s t v = u.threadForce t := by
  obtain ⟨hhalt, hrelease, hforce, hstep⟩ := hf
  subst hu
  simp only [wrDbgThrCtl, hhalt, hrelease, hforce, hstep, Nat.zero_ne_one, if_false, if_true]

theorem wrDbgThrCtl_step (hf : (R.DBG_THR_CTL_HALT t).of v = 0 ∧ (R.DBG_THR_CTL_RELEASE t).of v = 0 ∧ (R.DBG_THR_CTL_FORCE t).of v = 0 ∧
    (R.DBG_THR_CTL_STEP t).of v = 1) : wrDbgThrCtl s t v = u.threadStep t := by
  obtain ⟨hhalt, hrelease, hforce, hstep⟩ := hf
  subst hu
  simp only [wrDbgThrCtl, hhalt, hrelease, hforce, hstep, Nat.zero_ne_one, if_false, if_true]

end

/-- A halt of a thread in RUN or WAIT acts at its commit point. -/
theorem State.threadHalt_live {t : Nat} (h : u.tstate t = .run ∨ u.tstate t = .wait) :
    u.threadHalt t = if u.atCommitPoint t then u.threadHalted t else u.set1 (R.DBG_THR_CTL_PEND t) := by
  obtain h | h := h <;> rw [State.threadHalt, h]

theorem State.threadReleaseCmd_halted {t : Nat} (h : u.tstate t = .halted) : u.threadReleaseCmd t = u.threadRelease t := if_pos h

theorem State.threadForce_pending {t : Nat} (hp : u.is1 (R.DBG_THR_CTL_PEND t) = true ∧ u.locked t = true)
    (hz : z = (((u.squashAll t).abortLock t).pendingActs t).haltIf t true) : u.threadForce t = z.log (.blockEvent 0x21) [t, z.tpc t] := by
  subst hz
  exact if_pos (Bool.and_eq_true_iff.2 hp)

theorem State.threadStep_halted {t : Nat} (h : u.tstate t = .halted ∧ u.is1 (R.DBG_THR_CTL_DEFERRED t) = false)
    (hz : z = (u.wdtResume t).setTstate t .run) : u.threadStep t = z.setThread t { z.thread t with stepping := true } := by
  obtain ⟨hst, hdef⟩ := h
  subst hz
  exact (if_neg (not_not.2 hst)).trans (if_neg (ne_true_of_eq_false hdef))

section

variable {t : Fin 4} {bit : Nat} (h : s.reaches path 2) (hu : u = s.quiet.storeReg (.DBG_THR_CTL t.val) v)

include h hu

theorem exec_halt (hv : v = BitVec.ofNat 32 (2 ^ 0 + 16 * s.rd (R.DBG_THR_CTL_WDT_FRZ t.val)))
    (hf : (R.DBG_THR_CTL_HALT t.val).of v = 1 ∧ (R.DBG_THR_CTL_RELEASE t.val).of v = 0 ∧ (R.DBG_THR_CTL_FORCE t.val).of v = 0 ∧
      (R.DBG_THR_CTL_STEP t.val).of v = 0) (hst : u.tstate t.val = .run ∨ u.tstate t.val = .wait)
    (hz : z = if u.atCommitPoint t.val then u.threadHalted t.val else u.set1 (R.DBG_THR_CTL_PEND t.val)) :
    exec (.halt path t) s = .next (s.wroteVia path (0x200 + 0x10 * t.val) z) :=
  congrArg Host.Outcome.next (State.thrCommand_writes h hv ((wrDbgThrCtl_halt hu hf).trans ((State.threadHalt_live hst).trans hz.symm)))

theorem exec_dbgRelease (hv : v = BitVec.ofNat 32 (2 ^ 1 + 16 * s.rd (R.DBG_THR_CTL_WDT_FRZ t.val)))
    (hf : (R.DBG_THR_CTL_HALT t.val).of v = 0 ∧ (R.DBG_THR_CTL_RELEASE t.val).of v = 1 ∧ (R.DBG_THR_CTL_FORCE t.val).of v = 0 ∧
      (R.DBG_THR_CTL_STEP t.val).of v = 0) (hst : u.tstate t.val = .halted) (hz : z = u.threadRelease t.val) :
    exec (.dbgRelease path t) s = .next (s.wroteVia path (0x200 + 0x10 * t.val) z) :=
  congrArg Host.Outcome.next
    (State.thrCommand_writes h hv ((wrDbgThrCtl_release hu hf).trans ((State.threadReleaseCmd_halted hst).trans hz.symm)))

theorem exec_force (hv : v = BitVec.ofNat 32 (2 ^ 2 + 16 * s.rd (R.DBG_THR_CTL_WDT_FRZ t.val)))
    (hf : (R.DBG_THR_CTL_HALT t.val).of v = 0 ∧ (R.DBG_THR_CTL_RELEASE t.val).of v = 0 ∧ (R.DBG_THR_CTL_FORCE t.val).of v = 1 ∧
      (R.DBG_THR_CTL_STEP t.val).of v = 0) (hp : u.is1 (R.DBG_THR_CTL_PEND t.val) = true ∧ u.locked t.val = true)
    (hz : z = ((((u.squashAll t.val).abortLock t.val).pendingActs t.val).haltIf t.val true).log (.blockEvent 0x21)
      [t.val, ((((u.squashAll t.val).abortLock t.val).pendingActs t.val).haltIf t.val true).tpc t.val]) :
    exec (.force path t) s = .next (s.wroteVia path (0x200 + 0x10 * t.val) z) :=
  congrArg Host.Outcome.next (State.thrCommand_writes h hv ((wrDbgThrCtl_force hu hf).trans ((State.threadForce_pending hp rfl).trans hz.symm)))

theorem exec_step (hv : v = BitVec.ofNat 32 (2 ^ 3 + 16 * s.rd (R.DBG_THR_CTL_WDT_FRZ t.val)))
    (hf : (R.DBG_THR_CTL_HALT t.val).of v = 0 ∧ (R.DBG_THR_CTL_RELEASE t.val).of v = 0 ∧ (R.DBG_THR_CTL_FORCE t.val).of v = 0 ∧
      (R.DBG_THR_CTL_STEP t.val).of v = 1) (hst : u.tstate t.val = .halted ∧ u.is1 (R.DBG_THR_CTL_DEFERRED t.val) = false)
    (hz : z = ((u.wdtResume t.val).setTstate t.val .run).setThread t.val
      { ((u.wdtResume t.val).setTstate t.val .run).thread t.val with stepping := true }) :
    exec (.step path t) s = .next (s.wroteVia path (0x200 + 0x10 * t.val) z) :=
  congrArg Host.Outcome.next (State.thrCommand_writes h hv ((wrDbgThrCtl_step hu hf).trans ((State.threadStep_halted hst rfl).trans hz.symm)))

end

/-! ## The selected register (R16, R483) -/

theorem exec_thrDataWrite (h : s.reaches path 2) (hw : s.quiet.writeThrData (s.pathIni path) true v = z) :
    exec (.thrDataWrite path v) s = .next (s.wroteVia path 0x288 z) :=
  congrArg Host.Outcome.next (State.viaPath_write dbgRegAt_thrDataHi (by decide) h hw)

theorem State.writeThrData_halted (h : u.tstate u.selThread = .halted) : u.writeThrData ini true v =
    (u.dropLo thrDataLo ini).setSel (u.pairLo thrDataLo ini (u.selValue.1 % 2 ^ 32) + 2 ^ 32 * v.toNat) :=
  if_neg (not_not.2 h)

theorem State.writeThrData_live {hi : Bool} (h : u.tstate u.selThread ≠ .halted) : u.writeThrData ini hi v = u.set1 R.DBG_THR_SEL_ERR :=
  if_pos h

theorem State.readThrData_halted {x : Nat × Bool} (h : u.tstate u.selThread = .halted) (hx : x = u.selValue) : u.readThrData ini false =
    ((({ u with captures := storeSet none (pairKey thrDataLo ini) (some (x.1 / 2 ^ 32)) u.captures } : State).wrb R.DBG_THR_SEL_TAG x.2),
      x.1 % 2 ^ 32) := by
  subst hx
  exact if_neg (not_not.2 h)

/-- A permitted read of DBG_THR_DATA_LO along the Olicor path. -/
theorem exec_thrDataRead_olicor {x : State × Nat} (h : s.reaches (.olicor ini) 1) (hx : s.quiet.readThrData ini false = x) :
    exec (.thrDataRead (.olicor ini)) s = .next (x.1.emit (.regAnswer ini .ok x.2)) := by
  obtain ⟨he, hu, hl⟩ := h
  subst hx
  have ⟨hreg, hin, hal⟩ := dbgRegAt_thrDataLo
  have access := State.dbgAccess_read s.quiet .olicor ini 0x284 0 .DBG_THR_DATA_LO hu hreg hl hin hal
  refine congrArg Host.Outcome.next ?_
  simp only [State.viaPath, State.olicorAccess, show s.quiet.sessionElsewhere ini = false from he, Bool.false_eq_true, if_false,
    State.bindSession_of_ne s.quiet ini false 0x284 0 (by decide), access, State.dbgRead]

/-! ## Regions and channels (R485, R486) -/

theorem exec_dbgRegHalt {i : Fin 2} (h : s.reaches path 2) (hz : z = s.quiet.eachRegion i.val v fun t n => t.setHold n .debug) :
    exec (.dbgRegHalt path i v) s = .next (s.wroteVia path (0x300 + 4 * i.val) z) :=
  congrArg Host.Outcome.next (State.viaPath_write (dbgRegAt_regHalt i) (by omega) h hz.symm)

theorem exec_dbgRegRel {i : Fin 2} (h : s.reaches path 2) (hz : z = s.quiet.eachRegion i.val v fun t n => t.clrHold n .debug) :
    exec (.dbgRegRel path i v) s = .next (s.wroteVia path (0x310 + 4 * i.val) z) :=
  congrArg Host.Outcome.next (State.viaPath_write (dbgRegAt_regRel i) (by omega) h hz.symm)

/-- A step begins where the region is held by DEBUG alone and no step is under way. -/
theorem wrDbgRegStep_begins {n count : Nat} (hb : s.is1 R.DBG_REG_STEP_BUSY = false)
    (hf : R.DBG_REG_STEP_REGION.of v = n ∧ R.DBG_REG_STEP_COUNT.of v = count) (hc : count ≠ 0) (hu : u = s.storeReg .DBG_REG_STEP v)
    (hst : u.rstate n = .held ∧ u.rd (R.REGION_STATUS_HOLD_SRC n) = 2 ^ (Hold.debug).bit) :
    wrDbgRegStep s v = ((u.setRegion n { u.region n with stepLeft := count }).clrHold n .debug).set1 R.DBG_REG_STEP_BUSY := by
  obtain ⟨rfl, rfl⟩ := hf
  obtain ⟨hheld, hdebug⟩ := hst
  subst hu
  exact (if_neg hc).trans ((if_neg (ne_true_of_eq_false hb)).trans (if_neg (not_or.2 ⟨not_not.2 hheld, not_not.2 hdebug⟩)))

theorem exec_dbgRegStep {n : Fin 64} {count : BitVec 8} (h : s.reaches path 2) (hv : v = BitVec.ofNat 32 (n.val * 2 ^ 16 + count.toNat))
    (hw : wrDbgRegStep s.quiet v = z) : exec (.dbgRegStep path n count) s = .next (s.wroteVia path 0x320 z) := by
  subst hv
  exact congrArg Host.Outcome.next (State.viaPath_write dbgRegAt_regStep (by decide) h hw)

/-- FULL is enough for any write to DBG_XT_CFG. -/
theorem State.levelNeeded_xtCfg_le {c : Nat} : s.levelNeeded (.DBG_XT_CFG c) true v ≤ 2 := by
  rw [State.levelNeeded]
  split <;> decide

theorem State.reaches_of_le {m n : Nat} (hmn : m ≤ n) (h : s.reaches path n) : s.reaches path m := by
  cases path with
  | jtag => exact ⟨h.1, h.2.1, hmn.trans h.2.2⟩
  | olicor ini => exact ⟨h.1, h.2.1, hmn.trans h.2.2⟩

theorem exec_sw {c : Fin 16} (h : s.reaches path 2)
    (hv : v = BitVec.ofNat 32 (2 ^ 31 + (2 ^ 30 * s.rd (R.DBG_XT_CFG_FREEZE c.val) + 2 ^ 29 * s.rd (R.DBG_XT_CFG_TRACE_STOP c.val) +
      2 ^ 28 * s.rd (R.DBG_XT_CFG_TRACE_MARK c.val) + 2 ^ 24 * s.rd (R.DBG_XT_CFG_THR_HALT c.val))))
    (hsw : (R.DBG_XT_CFG_SW c.val).of v = 1) (hu : u = s.quiet.storeReg (.DBG_XT_CFG c.val) v) (hz : z = u.pulse c.val) :
    exec (.sw path c) s = .next (s.wroteVia path (0x1000 + 0x10 * c.val) z) := by
  subst hv hu hz
  exact congrArg Host.Outcome.next
    (State.viaPath_write (dbgRegAt_xtCfg c) (by omega) (State.reaches_of_le State.levelNeeded_xtCfg_le h) (if_pos hsw))

theorem execRegionStepEnd_ends {n : Nat} (hb : s.is1 R.DBG_REG_STEP_BUSY = true) (hn : n = s.rd R.DBG_REG_STEP_REGION)
    (h0 : (s.region n).stepLeft = 0) : execRegionStepEnd s = .next ((s.quiet.setHold n .debug).clr R.DBG_REG_STEP_BUSY) := by
  subst hn
  exact if_pos (Bool.and_eq_true_iff.2 ⟨hb, beq_iff_eq.2 h0⟩)

theorem execRegionStepEnd_early {n : Nat} (hn : n = s.rd R.DBG_REG_STEP_REGION)
    (h : s.is1 R.DBG_REG_STEP_BUSY = false ∨ (s.region n).stepLeft ≠ 0) : execRegionStepEnd s = .next s.quiet := by
  subst hn
  refine if_neg fun hends => ?_
  obtain ⟨hb, h0⟩ := Bool.and_eq_true_iff.1 hends
  exact h.elim (fun hidle => ne_true_of_eq_false hidle hb) fun hleft => hleft (beq_iff_eq.1 h0)

/-! ## Trace (R489, R491, R492) -/

theorem exec_traceEn (h : s.reaches path 1) (hw : wrTraceCtl s.quiet v = z) : exec (.traceEn path v) s = .next (s.wroteVia path 0x2000 z) :=
  congrArg Host.Outcome.next (State.viaPath_write dbgRegAt_traceCtl (by decide) h hw)

theorem wrTraceCtl_stops (hen : R.TRACE_CTL_EN.of v = 0) (hu : u = s.w1cOnly .TRACE_CTL v) : wrTraceCtl s v = u.storeReg .TRACE_CTL v := by
  subst hu
  exact if_pos hen

/-- The group that a write to TRACE_CTL names, or the one that stands where it names none. -/
theorem traceGroup_eq {new old : Nat} : (cond (decide (24 ≤ new)) old new) = if 24 ≤ new then old else new := by
  by_cases h : 24 ≤ new
  · rw [decide_eq_true h, if_pos h, cond_true]
  · rw [decide_eq_false h, if_neg h, cond_false]

section

variable {g : Nat} (hen : R.TRACE_CTL_EN.of v = 1) (hu : u = s.w1cOnly .TRACE_CTL v)
  (hg : g = cond (decide (24 ≤ R.TRACE_CTL_GROUP.of v)) (u.rd R.TRACE_CTL_GROUP) (R.TRACE_CTL_GROUP.of v))

include hen hu hg

theorem wrTraceCtl_starts {w : State} (hok : u.traceRefused (R.TRACE_CTL_SINK.of v == 1) g = false)
    (hw : w = ((((if R.TRACE_CTL_SINK.of v = 1 then u.requestOn (88 + g) .host else u).storeReg .TRACE_CTL v).clr
      R.TRACE_STAT_STOPPED).clr R.TRACE_STAT_WRAPPED).clr R.TRACE_WPTR_WPTR) :
    wrTraceCtl s v = { w with trace := { w.trace with buf := [], lost := 0, post := none } } := by
  rw [traceGroup_eq] at hg
  subst hu hg hw
  have hsink (a b : State) : (if (R.TRACE_CTL_SINK.of v == 1) = true then a else b) = if R.TRACE_CTL_SINK.of v = 1 then a else b := by
    simp only [beq_iff_eq]
  simp only [wrTraceCtl, hen, hok, hsink, Nat.one_ne_zero, Bool.false_eq_true, if_false]

theorem wrTraceCtl_refused (hbad : u.traceRefused (R.TRACE_CTL_SINK.of v == 1) g = true) : wrTraceCtl s v = u.set1 R.TRACE_CTL_CFG_ERR := by
  rw [traceGroup_eq] at hg
  subst hu hg
  simp only [wrTraceCtl, hen, hbad, Nat.one_ne_zero, if_false, if_true]

end

theorem execStimWrite_records {rq : Request} (hq : rq.acc.op = .nwr ∧ rq.acc.dstNode = traceNode ∧ rq.acc.data.length = rq.acc.size)
    (ha : rq.acc.addr % 8 = 0 ∧ rq.acc.addr < 2048) (hs : rq.acc.size = 1 ∨ rq.acc.size = 2 ∨ rq.acc.size = 4 ∨ rq.acc.size = 8) :
    execStimWrite rq s = .next
      ((s.quiet.stimulus (rq.acc.addr / 8) (leNat rq.acc.data) rq.acc.size (rq.acc.poison.testBit 0) rq.ini.node).reply rq .ok) := by
  obtain ⟨hop, hnode, hlen⟩ := hq
  obtain ⟨hal, hin⟩ := ha
  have hsize : ([1, 2, 4, 8].contains rq.acc.size) = true := by
    rcases hs with h | h | h | h <;> rw [h] <;> rfl
  have hgoes : ¬ (rq.acc.op ≠ .nwr ∨ rq.acc.dstNode ≠ traceNode ∨ rq.acc.data.length ≠ rq.acc.size) :=
    not_or.2 ⟨not_not.2 hop, not_or.2 ⟨not_not.2 hnode, not_not.2 hlen⟩⟩
  have hport : ¬ (rq.acc.addr % 8 ≠ 0 ∨ 2048 ≤ rq.acc.addr ∨ (!([1, 2, 4, 8].contains rq.acc.size)) = true) := by
    rw [hsize, hal]
    exact not_or.2 ⟨not_not.2 rfl, not_or.2 ⟨Nat.not_le.2 hin, Bool.false_ne_true⟩⟩
  exact (if_neg hgoes).trans (if_neg hport)

theorem execTraceWriteAnswer_ok {tag : BitVec 8} {a : Answer} {bank : Nat} {t : State} (hs : s.trace.sent = some bank)
    (ht : s.quiet.takeAnswer traceNode tag.toNat a = some t) (ha : a.code = .ok) :
    execTraceWriteAnswer tag a s = .next (({ t with trace := { t.trace with sent := none } } : State).tracePush) := by
  simp only [execTraceWriteAnswer, show s.quiet.trace.sent = some bank from hs, ht, ha, if_true]

/-! ## The debug initiator (R477) -/

theorem exec_dbgInitGo {size : BitVec 3} {write : Bool} (h : s.reaches path 1)
    (hv : v = BitVec.ofNat 32 (16 * size.toNat + 2 * write.toNat + 1)) (hw : wrDbgInitCmd s.quiet (dbgPort path) v = z) :
    exec (.dbgInitGo path size write) s = .next (s.wroteVia path 0x100 z) := by
  subst hv
  exact congrArg Host.Outcome.next (State.viaPath_write dbgRegAt_initCmd (by decide) h hw)

/-- GO sends the request where the session's level permits it and no register of the block itself is meant. -/
theorem wrDbgInitCmd_sends {write : Bool} {n addr : Nat} (hgo : R.DBG_INIT_CMD_GO.of v = 1) (hu : u = s.storeReg .DBG_INIT_CMD v)
    (hwr : u.is1 R.DBG_INIT_CMD_WRITE = write)
    (ha : n = 2 ^ u.rd R.DBG_INIT_CMD_SIZE ∧ addr = u.rd64 R.DBG_INIT_ADDR_LO_ADDR R.DBG_INIT_ADDR_HI_ADDR)
    (hb : u.is1 R.DBG_INIT_CMD_BUSY = false) (hl : (if write = true then 2 else 1) ≤ u.dlevel p) (hd : localDecode addr n = false) :
    wrDbgInitCmd s p v = (u.set1 R.DBG_INIT_CMD_BUSY).sendReq 7
      (if write then ⟨.wr, 0, 0, addr, n, ((List.range 16).flatMap fun i => leBytes 4 (u.rd (R.DBG_INIT_DATA_DATA i))).take n, 0⟩
        else ⟨.rd, 0, 0, addr, n, [], 0⟩) := by
  obtain ⟨rfl, rfl⟩ := ha
  subst hu hwr
  simp only [wrDbgInitCmd, hgo, hb, decide_eq_false (Nat.not_lt.2 hl), hd, Bool.or_self, Nat.one_ne_zero, Bool.false_eq_true, if_false]

theorem execDbgInitAnswer_failed {tag : BitVec 8} {a : Answer} {t : State} (ht : s.quiet.takeAnswer 7 tag.toNat a = some t) (ha : a.code ≠ .ok)
    (hu : u = ((t.clr R.DBG_INIT_CMD_BUSY).set1 R.DBG_INIT_CMD_DONE).wr R.DBG_INIT_STAT_CODE a.code.code) :
    execDbgInitAnswer tag a s = .next (u.clr R.DBG_INIT_STAT_POISON) := by
  subst hu
  simp only [execDbgInitAnswer, ht, if_neg ha]

end Sys2Proof.Machine

namespace Sys2Proof.Proofs
open Sys2Proof.Machine

/-- Settles O44: each pair of clauses is one rule of the register, reached along either path. -/
theorem debugActions : Obligations.DebugActions := by
  unfold Obligations.DebugActions
  refine ⟨
    fun ini t v s u z he hd hl hv hf hu hst hz => exec_halt (path := .olicor ini) ⟨he, hd, hl⟩ hu hv hf hst hz,
    fun t v s u z hi hd hl hv hf hu hst hz => exec_halt (path := .jtag) ⟨hi, hd, hl⟩ hu hv hf hst hz,
    fun ini t v s u z he hd hl hv hf hu hst hz => exec_dbgRelease (path := .olicor ini) ⟨he, hd, hl⟩ hu hv hf hst hz,
    fun t v s u z hi hd hl hv hf hu hst hz => exec_dbgRelease (path := .jtag) ⟨hi, hd, hl⟩ hu hv hf hst hz,
    fun ini t v s u z he hd hl hv hf hu hp hz => exec_force (path := .olicor ini) ⟨he, hd, hl⟩ hu hv hf hp hz,
    fun t v s u z hi hd hl hv hf hu hp hz => exec_force (path := .jtag) ⟨hi, hd, hl⟩ hu hv hf hp hz,
    fun ini t v s u z he hd hl hv hf hu hst hz => exec_step (path := .olicor ini) ⟨he, hd, hl⟩ hu hv hf hst hz,
    fun t v s u z hi hd hl hv hf hu hst hz => exec_step (path := .jtag) ⟨hi, hd, hl⟩ hu hv hf hst hz,
    ?dataOlicor, ?dataJtag, ?dataOlicorLive, ?dataJtagLive, ?haltOlicor, ?haltJtag, ?relOlicor, ?relJtag,
    fun ini n count v s u z he hd hl hv hb hf hc hu hst hz =>
      exec_dbgRegStep (path := .olicor ini) ⟨he, hd, hl⟩ hv ((wrDbgRegStep_begins (s := s.quiet) hb hf hc hu hst).trans hz.symm),
    fun n count v s u z hi hd hl hv hb hf hc hu hst hz =>
      exec_dbgRegStep (path := .jtag) ⟨hi, hd, hl⟩ hv ((wrDbgRegStep_begins (s := s.quiet) hb hf hc hu hst).trans hz.symm),
    fun ini c v s u z he hd hl hv hsw hu hz => exec_sw (path := .olicor ini) ⟨he, hd, hl⟩ hv hsw hu hz,
    fun c v s u z hi hd hl hv hsw hu hz => exec_sw (path := .jtag) ⟨hi, hd, hl⟩ hv hsw hu hz,
    ?stopOlicor, ?stopJtag, ?startOlicor, ?startJtag, ?refusedOlicor, ?refusedJtag,
    fun ini size write n addr v s u z he hd hl hv hgo hu hwr ha hb hlw hdec hz =>
      exec_dbgInitGo (path := .olicor ini) ⟨he, hd, hl⟩ hv ((wrDbgInitCmd_sends hgo hu hwr ha hb hlw hdec).trans hz.symm),
    fun size write n addr v s u z hi hd hl hv hgo hu hwr ha hb hlw hdec hz =>
      exec_dbgInitGo (path := .jtag) ⟨hi, hd, hl⟩ hv ((wrDbgInitCmd_sends hgo hu hwr ha hb hlw hdec).trans hz.symm),
    ?dataRead, fun tag a s t u ht ha hu => execDbgInitAnswer_failed ht ha hu,
    fun t s hp hlock => congrArg Host.Outcome.next (if_pos (Bool.and_eq_true_iff.2 ⟨hp, hlock⟩)),
    fun n s hb hn h0 => execRegionStepEnd_ends hb hn h0, fun n s hn h => execRegionStepEnd_early hn h,
    fun rq s hq ha hs => execStimWrite_records hq ha hs, fun tag a bank s t hs ht ha => execTraceWriteAnswer_ok hs ht ha⟩
  case dataOlicor =>
    rintro ini value v s u z he hd hl rfl rfl hst hz
    exact exec_thrDataWrite (path := .olicor ini) ⟨he, hd, hl⟩ ((State.writeThrData_halted hst).trans hz.symm)
  case dataJtag =>
    rintro value v s u z hi hd hl rfl rfl hst hz
    exact exec_thrDataWrite (path := .jtag) ⟨hi, hd, hl⟩ ((State.writeThrData_halted hst).trans hz.symm)
  case dataOlicorLive =>
    rintro ini value v s u z he hd hl rfl rfl hst hz
    exact exec_thrDataWrite (path := .olicor ini) ⟨he, hd, hl⟩ ((State.writeThrData_live hst).trans hz.symm)
  case dataJtagLive =>
    rintro value v s u z hi hd hl rfl rfl hst hz
    exact exec_thrDataWrite (path := .jtag) ⟨hi, hd, hl⟩ ((State.writeThrData_live hst).trans hz.symm)
  case haltOlicor =>
    rintro ini i value v s u z he hd hl rfl rfl hz
    exact exec_dbgRegHalt (path := .olicor ini) ⟨he, hd, hl⟩ hz
  case haltJtag =>
    rintro i value v s u z hi hd hl rfl rfl hz
    exact exec_dbgRegHalt (path := .jtag) ⟨hi, hd, hl⟩ hz
  case relOlicor =>
    rintro ini i value v s u z he hd hl rfl rfl hz
    exact exec_dbgRegRel (path := .olicor ini) ⟨he, hd, hl⟩ hz
  case relJtag =>
    rintro i value v s u z hi hd hl rfl rfl hz
    exact exec_dbgRegRel (path := .jtag) ⟨hi, hd, hl⟩ hz
  case stopOlicor =>
    rintro ini value v s u z he hd hl rfl hen hu hz
    exact exec_traceEn (path := .olicor ini) ⟨he, hd, hl⟩ ((wrTraceCtl_stops hen hu).trans hz.symm)
  case stopJtag =>
    rintro value v s u z hi hd hl rfl hen hu hz
    exact exec_traceEn (path := .jtag) ⟨hi, hd, hl⟩ ((wrTraceCtl_stops hen hu).trans hz.symm)
  case startOlicor =>
    rintro ini value g w v s u z he hd hl rfl hen hu hg hok hw hz
    exact exec_traceEn (path := .olicor ini) ⟨he, hd, hl⟩ ((wrTraceCtl_starts hen hu hg hok hw).trans hz.symm)
  case startJtag =>
    rintro value g w v s u z hi hd hl rfl hen hu hg hok hw hz
    exact exec_traceEn (path := .jtag) ⟨hi, hd, hl⟩ ((wrTraceCtl_starts hen hu hg hok hw).trans hz.symm)
  case refusedOlicor =>
    rintro ini value g v s u z he hd hl rfl hen hu hg hbad hz
    exact exec_traceEn (path := .olicor ini) ⟨he, hd, hl⟩ ((wrTraceCtl_refused hen hu hg hbad).trans hz.symm)
  case refusedJtag =>
    rintro value g v s u z hi hd hl rfl hen hu hg hbad hz
    exact exec_traceEn (path := .jtag) ⟨hi, hd, hl⟩ ((wrTraceCtl_refused hen hu hg hbad).trans hz.symm)
  case dataRead =>
    rintro ini s z x he hd hl hst hx rfl
    exact exec_thrDataRead_olicor ⟨he, hd, hl⟩ (State.readThrData_halted (u := s.quiet) hst hx)

end Sys2Proof.Proofs
end
